-- ==== Sys2Proof/Word.lean ====
section
/-! DEFINITION. The word types of the device: wafer time and stamps (00_scope.md, vocabulary), bytes. -/

namespace Sys2Proof

/-- Wafer time or a stamp: ticks in bits [63:10], fraction of a tick in bits [9:0]. -/
abbrev Stamp := BitVec 64

/-- One byte. -/
abbrev Byte := BitVec 8

/-- Instance numbers, bounded as the device has them (00_scope.md, the device at a glance). -/
abbrev PodId := Fin 256
abbrev PinId := Fin 1024
abbrev SiteId := Fin 128
abbrev RailId := Fin 128
abbrev WaveId := Fin 32
abbrev StrmId := Fin 16
abbrev UnitId := Fin 64
abbrev QpId := Fin 64
abbrev EvrId := Fin 8
abbrev PortId := Fin 4
abbrev SnapId := Fin 4
abbrev DieId := Fin 4
abbrev SrcId := Fin 384
abbrev PmcId := Fin 512

end Sys2Proof
end

