-- ==== Sys2Proof/Syntax.lean ====
section
/-! DEFINITION. The commands of the device, one constructor per row of spec/opcode_table.json, with the
operands that say which instance a command acts on and what the outside world supplies with it. -/

namespace Sys2Proof

/-- The path of a gang's program that a word or micro-op belongs to (R204). -/
inductive Path where
  | main | sprout
deriving DecidableEq, Repr

/-- What a read of host memory is for: a descriptor of a queue pair, the data of one by its CID, a read that the anchor
relays for a member under a tag. -/
inductive HostTarget where
  | sq (qp : QpId)
  | data (qp : QpId) (cid : Nat)
  | relay (dev : Nat) (tag : Nat)
deriving DecidableEq, Repr

/-- A ring that sends interrupts: a queue pair's completions, an event ring. -/
inductive RingId where
  | qp (q : QpId)
  | evr (e : EvrId)
deriving DecidableEq, Repr

/-- A page-table walk as the host answers it: the entries in the order in which they are read, `none` for an error. -/
abbrev Walk := List (Option (BitVec 64))

/-- A packet of the fabric: the header of its head flit (R439) and the payload of all its flits. -/
structure Flit where
  crcOk : Bool
  seq : Nat
  ack : Nat
  nak : Bool
  cvc : Nat
  ccnt : Nat
  ty : Nat
  tc : Nat
  ord : Nat
  det : Nat
  dx : Nat
  dy : Nat
  src : Nat
  hops : Nat
  more : Nat
  pseq : Nat
  bytes : List Nat
deriving DecidableEq, Repr

/-- What the peer of a port says in the exchange of identity (R437): its identifier, port number, whether it is numbered,
device number. -/
structure Peer where
  uid : Nat
  port : Nat
  numv : Bool
  dev : Nat
deriving DecidableEq, Repr

/-- A fault as the unit that detects it reports it to the collector (R490): source, unit, DETAIL. -/
structure FaultEvent where
  src : SrcId
  unit : Nat
  detail : Nat
deriving DecidableEq, Repr

/-- What a stage of a release sequence finds outside the device's own state (R521): the straps, whether the stage's
own work has been done, the OTP words that were corrected and the first that could not be (its byte address), the pin
dies whose supplies are in range and which pass their checks, what the boot flash gave (none: no answer), the lanes and the
speed code that the host link trained to. -/
structure BootIn where
  strap : BitVec 8
  done : Bool
  corrected : Bool
  otpBad : Option Nat
  dies : BitVec 4
  flash : Option (List Byte)
  width : Fin 9
  speed : Fin 6
deriving DecidableEq, Repr

/-- What happens at a crossing in a transfer (R545 to R548): the destination samples the value of the source; the source
value changes; a request is acknowledged; pulses arrive for a performance counter. -/
inductive Xfer where
  | sample (v : BitVec 32)
  | change (v : BitVec 32)
  | ack
  | pulses (n : Nat) (pmc : PmcId)
deriving DecidableEq, Repr

/-- The supplies with a monitor, in the order of R583. -/
inductive Supply where
  | vddCore | vddSram | vddD2d | vddPhy | vddPhyh | vddAon | vddPe | vddPea | vpePos | vpeNeg | vddIo
deriving DecidableEq, Repr

/-- A boundary-scan operation (R593): the instruction loaded, or a data register shifted. -/
inductive Jtag where
  | instr (ir : Fin 5)
  | shift (tdi : List Bool)
  | reset
deriving DecidableEq, Repr

/-- The commands: one constructor per row of spec/opcode_table.json, in the table's order. -/
inductive Instr where
  /-- VEC (R140). A VEC word drives RPT + 1 periods of its vector word. -/
  | vec (site : SiteId) (path : Path)
  /-- LOOP (R141). LOOP pushes a loop entry onto the 4-entry loop stack. -/
  | loop (site : SiteId) (path : Path)
  /-- ENDL (R141). ENDL decrements the top loop entry and either repeats the loop or pops the entry. -/
  | endl (site : SiteId) (path : Path)
  /-- JMP (R143). JMP discards POPL loop entries and continues at TARGET. -/
  | jmp (site : SiteId) (path : Path)
  /-- CALL (R142). CALL pushes its successor address onto the call stack and continues at TARGET. -/
  | call (site : SiteId) (path : Path)
  /-- RET (R142). RET pops the call stack and continues at the popped address. -/
  | ret (site : SiteId) (path : Path)
  /-- MATCH (R146). MATCH tests its tag and either exits, decrements the match counter and loops, or exhausts the loop. -/
  | matchW (site : SiteId) (path : Path)
  /-- JFAIL (R144). JFAIL jumps to TARGET when its condition is FAIL. -/
  | jfail (site : SiteId) (path : Path)
  /-- JPASS (R144). JPASS jumps to TARGET when its condition is PASS. -/
  | jpass (site : SiteId) (path : Path)
  /-- WAITT (R148). WAITT starts a wait at the pins until base + TICKS, or sets WLATE if the target is past. -/
  | waitt (site : SiteId) (path : Path)
  /-- WAITEV (R149). WAITEV starts a wait for event SRC with a timeout. -/
  | waitev (site : SiteId) (path : Path)
  /-- GSYNC (R150). GSYNC arrives the gang at barrier BAR and waits for release or timeout. -/
  | gsync (site : SiteId) (path : Path)
  /-- SETLVL (R152). SETLVL applies level set LSET to every pod of the gang at the boundary tick. -/
  | setlvl (site : SiteId) (path : Path)
  /-- SETLOAD (R152). SETLOAD sets ILOAD and LOAD_MODE of the pins in each pod's PMASK. -/
  | setload (site : SiteId) (path : Path)
  /-- CNT (R154). CNT performs the selected operation on gang counter GC[IDX]. -/
  | cnt (site : SiteId) (path : Path)
  /-- LOGON (R153). LOGON turns continuous edge logging on for the pins of PMASK. -/
  | logon (site : SiteId) (path : Path)
  /-- LOGOFF (R153). LOGOFF turns continuous edge logging off for the pins of PMASK. -/
  | logoff (site : SiteId) (path : Path)
  /-- MEAS (R155). MEAS starts a PMU or interval measurement into V[DST], optionally holding the pins until the result. -/
  | meas (site : SiteId) (path : Path)
  /-- AWG (R156). AWG commands a waveform output to START, STOP or ARM. -/
  | awg (site : SiteId) (path : Path)
  /-- PSAFE (R158). PSAFE saves context and stops the gang when a pre-emption request is pending. -/
  | psafe (site : SiteId) (path : Path)
  /-- LEDG (R159). LEDG posts one ledger entry for the site that commits once its conditions hold. -/
  | ledg (site : SiteId) (path : Path)
  /-- HALT (R160). HALT ends the gang's step once earlier LEDG, MEAS and AWG work has ended. -/
  | halt (site : SiteId) (path : Path)
  /-- NOP (R160). NOP does nothing, or raises the attention event when ATTN is 1. -/
  | nop (site : SiteId) (path : Path)
  /-- ILLEGAL_OPCODE (R125). An opcode with no factory or user routine halts the gang with ILLEGAL. -/
  | illegalOpcode (site : SiteId) (path : Path)
  /-- USER_OPCODE (R166). A word whose opcode names a user routine is dispatched to that routine. -/
  | userOpcode (site : SiteId) (path : Path)
  /-- SHORT_WORD (R192). In compatibility mode a short word is expanded through the nano-store into a native program word and dispatched. -/
  | shortWord (site : SiteId) (path : Path)
  /-- UNOP (R171). Micro-op with no effect. -/
  | uUnop (pod : PodId) (path : Path)
  /-- MOV (R171). Micro-op copying ra into rd. -/
  | uMov (pod : PodId) (path : Path)
  /-- LDI (R171). Micro-op loading a zero-extended 17-bit immediate. -/
  | uLdi (pod : PodId) (path : Path)
  /-- LDH (R171). Micro-op loading the upper bits of rd from an immediate. -/
  | uLdh (pod : PodId) (path : Path)
  /-- ADD (R171). Micro-op adding src to ra and setting Z, N, C. -/
  | uAdd (pod : PodId) (path : Path)
  /-- SUB (R171). Micro-op subtracting src from ra and setting Z, N, C. -/
  | uSub (pod : PodId) (path : Path)
  /-- AND (R171). Micro-op AND of ra and src, setting Z, N, C. -/
  | uAnd (pod : PodId) (path : Path)
  /-- OR (R171). Micro-op OR of ra and src, setting Z, N, C. -/
  | uOr (pod : PodId) (path : Path)
  /-- XOR (R171). Micro-op XOR of ra and src, setting Z, N, C. -/
  | uXor (pod : PodId) (path : Path)
  /-- SHL (R171). Micro-op shifting ra left by src[4:0]. -/
  | uShl (pod : PodId) (path : Path)
  /-- SHR (R171). Micro-op shifting ra right by src[4:0]. -/
  | uShr (pod : PodId) (path : Path)
  /-- FLD (R171). Micro-op extracting a field of W into rd. -/
  | uFld (pod : PodId) (path : Path)
  /-- CMP (R171). Micro-op setting flags from ra minus src. -/
  | uCmp (pod : PodId) (path : Path)
  /-- GETS (R170). Micro-op reading a site or engine state selector into rd. -/
  | uGets (pod : PodId) (path : Path)
  /-- UBR (R171). Micro-op conditional branch of the micro-PC. -/
  | uUbr (pod : PodId) (path : Path)
  /-- UCALL (R176). Micro-op pushing the micro-PC and branching; a ninth push halts with USTK_OVF. -/
  | uUcall (pod : PodId) (path : Path)
  /-- URET (R176). Micro-op popping the micro-stack into the micro-PC. -/
  | uUret (pod : PodId) (path : Path)
  /-- SETPC (R171). Micro-op setting NPC from ra. -/
  | uSetpc (pod : PodId) (path : Path)
  /-- ISSUE (R171). Micro-op issuing a vector into the output queue. -/
  | uIssue (pod : PodId) (path : Path)
  /-- LSTK (R171). Micro-op pushing, decrementing or popping loop-stack entries. -/
  | uLstk (pod : PodId) (path : Path)
  /-- CSTK (R171). Micro-op pushing NPC onto or popping it from the call stack. -/
  | uCstk (pod : PodId) (path : Path)
  /-- MCTR (R171). Micro-op loading, decrementing or idling the match counter. -/
  | uMctr (pod : PodId) (path : Path)
  /-- COND (R171). Micro-op evaluating a branch condition into rd and Z. -/
  | uCond (pod : PodId) (path : Path)
  /-- SEFX (R172). Micro-op posting a side effect of the selected kind to the side-effect buffer. -/
  | uSefx (pod : PodId) (path : Path)
  /-- WAIT (R173). Micro-op waiting for a time, event, barrier, measurement or commit. -/
  | uWait (pod : PodId) (path : Path)
  /-- UERR (R171). Micro-op halting the gang with a UERR code. -/
  | uUerr (pod : PodId) (path : Path)
  /-- SAFEPT (R171). Micro-op acting as PSAFE. -/
  | uSafept (pod : PodId) (path : Path)
  /-- GHALT (R171). Micro-op acting as HALT with PARK and ATTN from ra. -/
  | uGhalt (pod : PodId) (path : Path)
  /-- FUSED (R175). Factory fused micro-op carrying out the routine it belongs to. -/
  | fused (site : SiteId) (path : Path)
  /-- SIDE_EFFECT_COMMIT (R205). A posted side effect commits at the later of its boundary tick and the resolution of earlier branches. -/
  | sideEffectCommit (site : SiteId)
  /-- GANG_START (R135). At a STEP_RUN's start tick the device resets the site program state and starts the gang's first word. -/
  | gangStart (qp : QpId) (cid : Nat)
  /-- STEP_RUN_READY_CHECK (R24). At 2 us before the start time the device checks readiness, power and thermal limits, or completes with TIMEOUT or THERMAL. -/
  | stepRunReadyCheck (qp : QpId) (cid : Nat)
  /-- VECTOR_LAUNCH (R197). A vector leaves the output queue 48 ticks before its period, or waits and inserts hold ticks. -/
  | vectorLaunch (site : SiteId)
  /-- VECTOR_RESOLVE (R199). A vector's gang outcome becomes known at t0 + DEC and updates fail state and tag results. -/
  | vectorResolve (site : SiteId)
  /-- STROBE (R75). At a placed strobe the pin's state is compared against the pin code. -/
  | strobe (pin : PinId)
  /-- WINDOW_COMPARE (R104). A window compare checks the raw state from WOPEN until WCLOSE. -/
  | windowCompare (pin : PinId)
  /-- BRANCH_RESOLVE (R200). A speculative branch condition resolves and either confirms the prediction or triggers a squash. -/
  | branchResolve (site : SiteId)
  /-- MATCH_DECISION (R210). A MATCH decides at the resolution of its tagged vector and sets the cut of the match shadow. -/
  | matchDecision (site : SiteId)
  /-- WAITT_END (R148). A WAITT wait ends at its target tick and the next vector starts. -/
  | waittEnd (site : SiteId)
  /-- WAITEV_EVENT (R149). A satisfying event reaches the gang and ends the wait 64 ticks later with PASS. -/
  | waitevEvent (site : SiteId)
  /-- WAITEV_TIMEOUT (R149). A WAITEV wait times out with FAIL and sets ETO. -/
  | waitevTimeout (site : SiteId)
  /-- BARRIER_RELEASE (R150). A barrier releases 96 ticks after the last arrival or membership change. -/
  | barrierRelease (qp : QpId) (cid : Nat) (bar : Nat)
  /-- GSYNC_TIMEOUT (R151). A gang whose GSYNC has not released by its timeout continues with FAIL and sets BTO. -/
  | gsyncTimeout (site : SiteId)
  /-- MEAS_WAIT_END (R155). With WAIT at 1 the pins resume 64 ticks after the measurement result is written. -/
  | measWaitEnd (site : SiteId)
  /-- LEDGER_COMMIT (R281). A LEDG commits its entry, or holds or drops it when the ledger is full. -/
  | ledgerCommit (site : SiteId)
  /-- LEDGER_HOLD_RELEASE (R281). A held ledger commit takes its slot once a slot outside the reserve frees. -/
  | ledgerHoldRelease (site : SiteId)
  /-- LEDGER_ENTRY_VISIBLE (R280). A written ledger entry becomes visible to the aperture and drains within 64 ticks. -/
  | ledgerEntryVisible
  /-- STEP_RUN_COMPLETION (R30). Once every named site has halted or become a husk and its entries are visible, the device posts the STEP_RUN completion. -/
  | stepRunCompletion (qp : QpId) (cid : Nat)
  /-- ENG_UCTL_STOP (R182). Writing STOP requests a stop of the gang at its next qualifying commit point. -/
  | engUctlStop (pod : PodId)
  /-- STOP_TAKEN (R182). The gang stops at the first point where all pods are at a commit point with no region open and no branch unresolved. -/
  | stopTaken (site : SiteId)
  /-- ENG_UCTL_RESUME (R183). Writing RESUME restarts a stopped gang at each pod's saved micro-PC. -/
  | engUctlResume (pod : PodId)
  /-- ENG_UCTL_STEP (R184). Writing STEP resumes a stopped gang until the next stop point. -/
  | engUctlStep (pod : PodId)
  /-- BREAKPOINT (R186). The micro-op at UADDR commits with BRK_EN set and requests a stop. -/
  | breakpoint (pod : PodId)
  /-- ROUTINE_LIMIT (R179). A routine exceeding its cycle limit halts the gang with ULONG. -/
  | routineLimit (site : SiteId)
  /-- ENG_RA_CTL_PCLR (R203). Writing PCLR sets every predictor counter to 0b01. -/
  | engRaCtlPclr (pod : PodId)
  /-- ENG_RA_QSET (R212). Writing a timing set to ENG_RA_QSET computes DEC and the one-vector shadow. -/
  | engRaQset (pod : PodId) (value : BitVec 32)
  /-- SEGMENT_CROSSING (R226). The gang continues at the crossing address and moves to NEXT:0 or halts. -/
  | segmentCrossing (site : SiteId)
  /-- UNDERRUN_DEADLINE (R233). A crossing still not fetchable when the output queue empties under-runs and applies its policy. -/
  | underrunDeadline (site : SiteId)
  /-- UNDERRUN_END (R234). A STALL or PAD ends when the entry becomes fetchable in every pod. -/
  | underrunEnd (site : SiteId)
  /-- STALL_TIMEOUT (R235). A STALL or PAD lasting past STALL_TMO ends as FAIL with UNDERRUN. -/
  | stallTimeout (site : SiteId)
  /-- RETIREMENT (R228). A CONSUME entry retires at the commit of its crossing and starts its reload. -/
  | retirement (pod : PodId) (seg : Fin 64)
  /-- REFILL_DONE (R224). The last granule of a refill is written and the entry becomes READY. -/
  | refillDone (pod : PodId) (seg : Fin 64)
  /-- POOL_ERROR (R232). A refill reading an uncorrectable pool error is abandoned and the entry becomes FREE. -/
  | poolError (pod : PodId) (seg : Fin 64) (granule : Nat)
  /-- REWIND (R229). At step end ACTIVE entries become READY and REWIND entries are refilled from PBASE. -/
  | rewind (site : SiteId)
  /-- STREAM_GRANULE_FETCH (R237). The device fetches the next stream granule from host memory into staging. -/
  | streamGranuleFetch (strm : StrmId) (walk : Walk)
  /-- STREAM_GRANULE_DELIVER (R238). A staged granule is copied into a bound pod's window once a window granule is released. -/
  | streamGranuleDeliver (strm : StrmId) (pod : PodId)
  /-- STREAM_UNDERRUN (R240). A stream fetch that needs an undelivered granule under-runs at its deadline and raises the slot event. -/
  | streamUnderrun (pod : PodId)
  /-- STREAM_FEED_STOP (R241). The feed stops at a granule boundary for a missing descriptor, fault, pre-emption, fabric failure or full staging. -/
  | streamFeedStop (strm : StrmId) (cause : Nat)
  /-- STRM_CFG_WRITE (R242). A STRM_CFG write enables or disables a stream slot, or is refused. -/
  | strmCfgWrite (strm : StrmId) (value : BitVec 32)
  /-- LEVEL_SETTLE_EXPIRY (R70). The pod settle timer expires and reseeds the filters of pins whose thresholds changed. -/
  | levelSettleExpiry (pod : PodId)
  /-- FILTER_SETTLED (R78). The filtered state first leaves UNKNOWN once the settle count has passed. -/
  | filterSettled (pin : PinId)
  /-- FILTER_DECISION (R84). The filtered state changes and raises watch events, wake requests or trip contributions. -/
  | filterDecision (pin : PinId)
  /-- LEVEL_REARM (R85). The LEVEL re-raise interval ends and the watch event is raised again, or STUCK is set. -/
  | levelRearm (pin : PinId)
  /-- RATE_WINDOW (R86). A 32-sample window with 16 or more changes sets RATE and suppresses further watch events. -/
  | rateWindow (pin : PinId)
  /-- RAW_TRANSITION (R265). A raw comparator transition is stamped by the pin's TDC and logged when logging is on. -/
  | rawTransition (pin : PinId) (raw : Nat) (frac : Nat)
  /-- PIN_CFG_WRITE (R90). A PIN_CFG write takes effect, or keeps protected fields and sets CFG_BUSY for a running gang. -/
  | pinCfgWrite (pin : PinId) (value : BitVec 32)
  /-- PIN_WATCH_WRITE (R90). A PIN_WATCH write takes effect at once and may restart the filter. -/
  | pinWatchWrite (pin : PinId) (value : BitVec 32)
  /-- SITE_TRIP (R359). The site's trip input asserts: drivers go to high impedance, rails to TRIPPED and engines are aborted. -/
  | siteTrip (site : SiteId)
  /-- RAIL_CROSSING (R356). A rail monitor's filtered state changes from IN and raises flags, events and wake requests. -/
  | railCrossing (rail : RailId) (mon : Fin 2) (st : Fin 3)
  /-- REGULATION_CHECK (R346). A regulation check finds a ramped rail within its window and declares regulation. -/
  | regulationCheck (rail : RailId)
  /-- NOREG (R346). Regulation not declared 1 ms after the ramp reached its target sets NOREG. -/
  | noreg (rail : RailId)
  /-- RAIL_LIMIT (R347). The current reaches ILIM and the rail enters LIMIT. -/
  | railLimit (rail : RailId)
  /-- RAIL_LIMIT_EXIT (R347). The demanded current falls 2 % below ILIM and the rail returns to RAMP_UP or REG. -/
  | railLimitExit (rail : RailId)
  /-- RAMP_DOWN_END (R348). A ramp down reaches 0.5 V and the rail enters OFF. -/
  | rampDownEnd (rail : RailId)
  /-- RAIL_SEQUENCE_DELAY (R351). In a sequenced two-rail site the second rail starts its ramp after DELAY. -/
  | railSequenceDelay (rail : RailId)
  /-- WINDOW_CLOSE (R358). A trip window closes SETTLE us after every rail of the site has qualified. -/
  | windowClose (site : SiteId)
  /-- RAIL_CTL_ON (R350). Writing ON ramps the rail to RAIL_SET.TARGET, or is ignored with BUSY. -/
  | railCtlOn (rail : RailId)
  /-- RAIL_CTL_OFF (R350). Writing OFF ramps the rail down, or is ignored with BUSY. -/
  | railCtlOff (rail : RailId)
  /-- FENCE (R362). Writing SITE_FCTL.FENCE makes the site a husk. -/
  | fence (site : SiteId)
  /-- UNFENCE (R367). Writing SITE_FCTL.UNFENCE clears the husk, or is refused with UNFBAD. -/
  | unfence (site : SiteId)
  /-- ARM_REQ (R358). Writing ARM_REQ opens or closes the request window of the trip path. -/
  | armReq (site : SiteId) (on : Bool)
  /-- DIE_LINK_FAIL (R362). A pin die detects its die link failure and fences its sites. -/
  | dieLinkFail (die : DieId)
  /-- RECALIBRATION (R115). A pin die whose temperature moved by RECAL_DT is recalibrated at a step boundary or deferred. -/
  | recalibration (die : DieId)
  /-- EYE_RUN (R119). Writing EYE_RUN starts an eye measurement on the pod's pins. -/
  | eyeRun (pod : PodId)
  /-- EYE_DONE (R119). An eye measurement ends after 0.5 ms and writes EYE_M. -/
  | eyeDone (pod : PodId) (widths : List Nat)
  /-- IU_CAL_RUN (R309). Writing IU_CAL.RUN requests a TDC calibration of a pin die, or is refused. -/
  | iuCalRun (dies : BitVec 4)
  /-- CALIBRATION (R308). A two-pass code-density calibration of every TDC of a pin die runs and updates or keeps the tables. -/
  | calibration (die : DieId)
  /-- CALIBRATION_END (R308). The calibration ends after 8.4 ms and writes the table or sets CALBAD. -/
  | calibrationEnd (die : DieId) (resid : List (Nat × Bool))
  /-- UNIT_GRANT (R304). A queued interval request is granted a free unit and its measurement starts. -/
  | unitGrant
  /-- ATTEMPT_END (R294). An interval attempt ends with a sample from its start, stop or closing edge. -/
  | attemptEnd (unit : UnitId)
  /-- ATTEMPT_TIMEOUT (R298). An attempt not ended by its timeout ends and counts in NTMO. -/
  | attemptTimeout (unit : UnitId)
  /-- IU_RESULT (R302). The unit writes its result block, V[DST] and optional MEASURE record. -/
  | iuResult (unit : UnitId)
  /-- GO (R305). Writing IU_CTL.GO starts a register-started interval measurement. -/
  | go (unit : UnitId)
  /-- ABORT (R305). Writing IU_CTL.ABORT ends a register-started measurement with no result. -/
  | abort (unit : UnitId)
  /-- CONNECT_END (R318). The PMU connect phase ends and the settle phase begins. -/
  | connectEnd (pin : PinId)
  /-- SETTLE_END (R318). The PMU settle phase ends and conversions begin. -/
  | settleEnd (pin : PinId)
  /-- CONVERSION (R319). A PMU conversion begins on its trigger and ends after CONV. -/
  | conversion (pin : PinId) (value : Int) (clamp ovr : Bool)
  /-- TRIGGER_TIMEOUT (R319). No trigger within the timeout ends the convert phase and sets TMO. -/
  | triggerTimeout (pin : PinId)
  /-- DISCONNECT_END (R320). The disconnect phase ends and the PMU results, V and tag are written. -/
  | disconnectEnd (pin : PinId)
  /-- PIN_PMU_GO (R328). Writing PIN_PMU_CTL.GO starts a measurement on one pin. -/
  | pinPmuGo (pin : PinId)
  /-- DISC (R328). Writing PIN_PMU_CTL.DISC opens a path kept by a register start. -/
  | disc (pin : PinId)
  /-- AWG_START (R334). Writing AWG_CTL.START starts playing 1,500 ticks later. -/
  | awgStart (w : WaveId)
  /-- AWG_STOP (R334). Writing AWG_CTL.STOP ends playing at the next slot. -/
  | awgStop (w : WaveId)
  /-- ARM_FIRE (R334). An armed output starts playing at the marker vector's period. -/
  | armFire (w : WaveId)
  /-- PLAY_END (R335). A crossing with NEXT_V 0 ends playing, sets END and raises the output event. -/
  | playEnd (w : WaveId)
  /-- WAVE_UNDERRUN (R243). A sample not fetchable at its slot plays PAD or stops the output. -/
  | waveUnderrun (w : WaveId)
  /-- SPAN_CHANGE (R336). A SPAN write mutes the output, switches span and unmutes after 1 us. -/
  | spanChange (w : WaveId) (span : Fin 8)
  /-- UNMUTE (R336). The output unmutes at the first slot boundary 1,500 ticks after the mute. -/
  | unmute (w : WaveId)
  /-- MUTE (R336). Writing AWG_SPAN.MUTE mutes or unmutes the output at the next slot boundary. -/
  | mute (w : WaveId) (on : Bool)
  /-- FAULT_MUTE (R338). A fence, reset, die-link failure or safe state mutes the output within 100 ns. -/
  | faultMute (w : WaveId)
  /-- AWG_CFG_WRITE (R340). An AWG_CFG write while the output is busy is ignored and sets BUSY. -/
  | awgCfgWrite (w : WaveId) (value : BitVec 32)
  /-- RECORD_WRITE (R254). A capture record is written into the pod's ring or lost for lack of room. -/
  | recordWrite (pod : PodId)
  /-- LOSS_RECORD (R270). A LOSS record for a run of lost records is written before the pod's next record. -/
  | lossRecord (pod : PodId)
  /-- CAPTURE_THRESHOLD (R275). CAP_FILL rising to its threshold writes a CAPTURE event record. -/
  | captureThreshold (pod : PodId)
  /-- APPLY (R252). Writing CAP_GCTL.APPLY repartitions capture memory, or is refused with PARTBAD. -/
  | apply
  /-- CAP_RD_WRITE (R273). Writing CAP_RD frees ring space, or is ignored with RDBAD. -/
  | capRdWrite (pod : PodId) (value : BitVec 32)
  /-- CAP_CFG_WRITE (R253). A CAP_CFG, CAP_ELOG or CAP_MAPSTART write takes effect or is ignored with BUSY. -/
  | capCfgWrite (pod : PodId) (reg : Fin 3) (value : BitVec 32)
  /-- LEDG_RD_WRITE (R284). Writing LEDG_RD frees ledger entries, or is ignored with RDBAD. -/
  | ledgRdWrite (value : BitVec 32)
  /-- LEDGER_THRESHOLD (R284). LEDG_FILL rising to its threshold writes a LEDGER event record. -/
  | ledgerThreshold
  /-- TICK (R31). Wafer time advances by one tick. -/
  | tick
  /-- WRAP (R33). The tick field wraps, incrementing EPOCH and setting WRAP. -/
  | wrap
  /-- WT_NOW_LO_READ (R36). A read of WT_NOW_LO returns the low bits and latches the high bits. -/
  | wtNowLoRead
  /-- PMC_CNT_LO_READ (R575). A read of PMC_CNT_LO returns the low count and latches PMC_CNT_HI. -/
  | pmcCntLoRead (pmc : PmcId)
  /-- PMC_CNT_LO_WRITE (R575). A write of PMC_CNT_LO loads the counter with the staged high bits. -/
  | pmcCntLoWrite (pmc : PmcId) (value : BitVec 32)
  /-- TCOMP_UPDATE (R37). Every 1 ms the parsnip applies a temperature correction to the crystal rate. -/
  | tcompUpdate (temp : BitVec 16)
  /-- COMPENSATION (R485). Every 1 ms the device corrects DAC references, rail setpoints and thresholds from OTP tables. -/
  | compensation (die : DieId) (temp : BitVec 16)
  /-- AGE_WRITE (R38). A write of WT_XTAL.AGE is applied as a rate ramp. -/
  | ageWrite (value : BitVec 16)
  /-- REFERENCE_LOST (R40). Loss of the selected reference holds the rate, sets REF_LOST and raises a fault record. -/
  | referenceLost
  /-- REFERENCE_RELOCK (R40). Once REFIN has been present 10 ms the master slews back to the reference. -/
  | referenceRelock
  /-- MASTER_DEV_WRITE (R47). Writing MASTER_DEV changes the timing master and sends every other device to ACQUIRING. -/
  | masterDevWrite (dev : Fin 64)
  /-- BEACON_SEND (R448). The timing master sends a BEACON on each UP port every beacon interval. -/
  | beaconSend (frac : Fin 1024)
  /-- BEACON (R449). A received beacon is validated, used to steer wafer time and relayed. -/
  | beacon (port : PortId) (flit : Flit) (frac : Fin 1024) (transit : List Nat)
  /-- HOLDOVER (R43). 16 beacon intervals without a valid beacon take a LOCKED member to HOLDOVER. -/
  | holdover
  /-- UNSYNC (R43). HOLDOVER lasting 1 ms or an excessive offset takes a member to UNSYNC and raises a fault record. -/
  | unsync
  /-- UPSTREAM_CHANGE (R450). The device changes its beacon upstream port after loss or a better offer. -/
  | upstreamChange
  /-- WATERMARK (R54). Every PERIOD us and at each wrap the device writes a watermark record. -/
  | watermark
  /-- ARM (R56). Writing WT_SNAP_CTL.ARM arms a snapshot slot, or sets SNAP_BUSY. -/
  | arm (snap : SnapId)
  /-- DISARM (R59). Writing DISARM frees an armed slot without a snapshot. -/
  | disarm (snap : SnapId)
  /-- SNAPSHOT_TAKEN (R57). At the target tick, or late, every counter is latched into the slot's shadow bank. -/
  | snapshotTaken (snap : SnapId)
  /-- SQ_TAIL (R378). A SQ_TAIL doorbell sets the submission tail, or halts the queue pair with DBERR. -/
  | sqTail (dev : Fin 64) (qp : QpId) (value : BitVec 32)
  /-- CQ_HEAD (R381). A CQ_HEAD doorbell frees completion slots, or is ignored with CQERR. -/
  | cqHead (dev : Fin 64) (qp : QpId) (value : BitVec 32)
  /-- EVR_HEAD (R381). An EVR_HEAD doorbell frees event-ring slots, or is ignored with HDERR. -/
  | evrHead (dev : Fin 64) (evr : EvrId) (value : BitVec 32)
  /-- DESCRIPTOR_FETCH (R382). The device fetches a descriptor from a ready queue pair. -/
  | descriptorFetch (qp : QpId) (walk : Walk)
  /-- NOP_COMMAND (R391). The NOP command completes with OK. -/
  | nopCommand (qp : QpId) (cid : Nat)
  /-- STEP_RUN (R392). STEP_RUN is accepted and arms the named sites for their start tick. -/
  | stepRun (qp : QpId) (cid : Nat)
  /-- TBL_LOAD (R395). TBL_LOAD checks and writes timing, level, deskew, segment, site-map or setup tables. -/
  | tblLoad (qp : QpId) (cid : Nat) (walk : Walk)
  /-- SEG_LOAD (R393). SEG_LOAD writes a segment entry from host memory. -/
  | segLoad (qp : QpId) (cid : Nat) (walk : Walk)
  /-- REFILL (R393). REFILL writes a segment entry from the pool. -/
  | refill (qp : QpId) (cid : Nat)
  /-- POOL_LOAD (R231). POOL_LOAD writes pool granules from host memory unless a granule is pinned. -/
  | poolLoad (qp : QpId) (cid : Nat) (walk : Walk)
  /-- UCODE_LOAD (R189). UCODE_LOAD authenticates and installs a microcode image in the named pods. -/
  | ucodeLoad (qp : QpId) (cid : Nat) (walk : Walk)
  /-- STREAM (R394). A STREAM descriptor feeds host granules into a stream slot. -/
  | stream (qp : QpId) (cid : Nat) (walk : Walk)
  /-- CAP_UPLOAD (R272). CAP_UPLOAD moves whole capture records into a host buffer and advances CAP_RD. -/
  | capUpload (qp : QpId) (cid : Nat) (walk : Walk)
  /-- LEDG_DRAIN (R284). LEDG_DRAIN moves ledger entries into a host buffer and advances LEDG_RD. -/
  | ledgDrain (qp : QpId) (cid : Nat) (walk : Walk)
  /-- SNAPSHOT (R56). A SNAPSHOT descriptor arms the lowest free snapshot slot. -/
  | snapshot (qp : QpId) (cid : Nat)
  /-- FW_LOAD (R529). FW_LOAD authenticates a firmware image and switches the steward to it. -/
  | fwLoad (qp : QpId) (cid : Nat) (walk : Walk)
  /-- MTP_WRITE (R539). MTP_WRITE programs MTP rows in ascending order. -/
  | mtpWrite (qp : QpId) (cid : Nat) (walk : Walk) (verified : Bool)
  /-- ATTEST (R538). ATTEST writes a signed attestation report to host memory. -/
  | attest (qp : QpId) (cid : Nat) (walk : Walk)
  /-- HELD_LOAD_RELEASE (R25). A load held for a running gang is carried out once the gang halts or the site is fenced. -/
  | heldLoadRelease (qp : QpId) (cid : Nat)
  /-- COMPLETION_WRITE (R389). The device writes a completion entry into the queue pair's CQ. -/
  | completionWrite (qp : QpId) (walk : Walk)
  /-- EVENT_RECORD_WRITE (R400). The device writes an event record into a free ring slot, keeps it, or loses it. -/
  | eventRecordWrite (evr : EvrId) (walk : Walk)
  /-- RLOSS (R400). When a slot frees after losses the device writes an RLOSS record. -/
  | rloss (evr : EvrId) (walk : Walk)
  /-- INTERRUPT (R402). The count threshold is reached and an MSI-X message is sent. -/
  | interrupt (ring : RingId)
  /-- INTERRUPT_TIME (R402). The oldest pending item has waited TIME us and an MSI-X message is sent. -/
  | interruptTime (ring : RingId)
  /-- QP_CFG_EN (R384). Writing QP_CFG.EN enables a queue pair or starts draining it. -/
  | qpCfgEn (qp : QpId) (on : Bool)
  /-- DRAIN_END (R384). A DRAINING queue pair becomes DISABLED when its fetched descriptors complete. -/
  | drainEnd (qp : QpId)
  /-- EVR_CFG_EN (R408). Writing EVR_CFG.EN from 0 to 1 resets the ring's head, tail and phase. -/
  | evrCfgEn (evr : EvrId) (on : Bool)
  /-- FLUSH (R385). HQ_QCTL FLUSH completes every unstarted or held descriptor of a queue pair with ABORTED. -/
  | flush (qp : QpId)
  /-- D3HOT (R376). The PCIe function enters or leaves D3hot, stopping or resuming host traffic. -/
  | d3hot (on : Bool)
  /-- TRANSLATION_FAULT (R419). A translation fault is written to the fault log and holds or ends its transfer. -/
  | translationFault
  /-- MMU_INV (R416). Writing MMU_INV starts an ALL, ASID or RANGE invalidation. -/
  | mmuInv (op : Fin 4) (asid : BitVec 8)
  /-- INVALIDATION_DONE (R416). An invalidation finishes and BUSY returns to 0. -/
  | invalidationDone
  /-- RETRY (R422). MMU_FRESUME RETRY translates the faulting page again and continues the transfer. -/
  | retry (slot : Fin 16) (gen : BitVec 8) (walk : Walk)
  /-- FAULT_ABORT (R422). MMU_FRESUME ABORT closes the slot and ends the faulted access. -/
  | faultAbort (slot : Fin 16) (gen : BitVec 8)
  /-- FTMO (R423). A slot OPEN for FTMO ms is aborted and FTO is set. -/
  | ftmo (slot : Fin 16)
  /-- PREEMPT (R426). PRE_CTL PREEMPT stops fetching and pauses the work of a queue pair. -/
  | preempt (qp : QpId)
  /-- PREEMPTED (R427). Once all started work has paused or saved, PRE is set and the pre-empted event raised. -/
  | preempted (qp : QpId)
  /-- RESUME (R429). PRE_CTL RESUME continues paused transfers and reloads saved gangs. -/
  | resume (qp : QpId)
  /-- GANG_RESTART (R429). A resumed gang starts its next vector at T or 1,500 ticks after the resume. -/
  | gangRestart (site : SiteId)
  /-- DISCARD (R431). PRE_CTL DISCARD ends a queue pair's pre-empted work. -/
  | discard (qp : QpId)
  /-- SIGNAL_DETECT (R436). A port detects a signal and enters TRAIN. -/
  | signalDetect (port : PortId)
  /-- TRAINING_DONE (R437). Training succeeds and the port enters LATENCY, or MISWIRED. -/
  | trainingDone (port : PortId) (working : BitVec 4) (peer : Peer) (depart : Stamp)
  /-- TRAINING_TIMEOUT (R436). Training not complete 300 us after TRAIN takes the port to DOWN. -/
  | trainingTimeout (port : PortId)
  /-- TRAINING_RETRY (R436). A DOWN port retries training every 10 ms. -/
  | trainingRetry (port : PortId)
  /-- LATENCY_MEASUREMENT (R447). The inbound latency measurement ends and the port enters UP. -/
  | latencyMeasurement (port : PortId)
  /-- RETRAIN (R438). An UP port returns to TRAIN on lock loss, repeated replay or silence. -/
  | retrain (port : PortId) (lockLost : Bool)
  /-- LMEAS (R447). A latency probe flit is received and answered or used. -/
  | lmeas (port : PortId) (flit : Flit) (arrive depart : Stamp)
  /-- NAK (R440). A NAK makes the transmitter replay from ACK + 1. -/
  | nak (port : PortId) (flit : Flit)
  /-- ROUTED_FLIT (R443). A routed flit is delivered, forwarded, detoured or dropped. -/
  | routedFlit (port : PortId) (flit : Flit)
  /-- PACKET_DROP (R445). A packet is dropped on hop exhaustion, no route or a 2 ms credit wait. -/
  | packetDrop (port : PortId)
  /-- PROBE (R452). A DISC PROBE arrives and the device replies with its identity. -/
  | probe
  /-- REPLY (R452). A DISC REPLY arrives at the anchor during discovery. -/
  | reply
  /-- ASSIGN (R453). A DISC ASSIGN sets the member's number, position and order. -/
  | assign
  /-- REG_RD (R456). A relayed register read is performed on the member. -/
  | regRd
  /-- REG_WR (R456). A relayed register write is performed on the member. -/
  | regWr
  /-- REG_CPL (R456). A relayed read completion arrives and completes the host read. -/
  | regCpl
  /-- RELAYED_READ_TIMEOUT (R456). A relayed read with no completion after 16 us returns all ones and raises a fault record. -/
  | relayedReadTimeout (dev : Fin 64) (tag : BitVec 8)
  /-- DOORBELL (R379). A forwarded doorbell flit acts on the member. -/
  | doorbell
  /-- IRQ (R401). An IRQ flit from a member makes the anchor send the MSI-X message. -/
  | irq
  /-- HEARTBEAT (R459). A HEARTBEAT arrives and the member answers it and clears isolation. -/
  | heartbeat
  /-- HB_REPLY (R459). A heartbeat reply arrives at the anchor. -/
  | hbReply
  /-- HEARTBEAT_SEND (R459). The anchor sends a heartbeat to each member every HBPER period and counts misses. -/
  | heartbeatSend
  /-- FABRIC_RST (R513). A FABRIC_RST message asserts the FABRIC_RST reset source on a member. -/
  | fabricRst
  /-- MASTER (R441). A MASTER control message names the new timing master. -/
  | master
  /-- SLEEP (R464). A SLEEP message lets a member enter DEEP. -/
  | sleep
  /-- WAKE (R464). A WAKE message wakes the anchor or a member. -/
  | wake
  /-- DMA_RD (R457). The anchor issues a member's host read on PCIe. -/
  | dmaRd
  /-- DMA_WR (R457). The anchor issues a member's host write on PCIe. -/
  | dmaWr
  /-- DMA_CPL (R457). A DMA completion returns read data or an error status to the member. -/
  | dmaCpl
  /-- DMA_TIMEOUT (R457). No host answer within 50 us returns a DMA_CPL with timeout status. -/
  | dmaTimeout (dev : Fin 64) (tag : BitVec 8)
  /-- PSEQ_GAP (R458). A PSEQ gap unfilled after 20 us declares the member lost or sets SEQGAP. -/
  | pseqGap (dev : Fin 64)
  /-- MEMBER_LOST (R459). The anchor declares a member lost and writes PEER_LOST completions. -/
  | memberLost (dev : Fin 64) (rings : List (QpId × BitVec 16 × Bool))
  /-- ISOLATED (R460). A member without heartbeats for LOSTN periods sets ISOLATED. -/
  | isolated
  /-- ISOTMO (R460). A member still isolated after ISOTMO ms fences every site. -/
  | isotmo
  /-- DISCOVERY (R452). The anchor finds the mesh, numbers members and assigns orders. -/
  | discovery
  /-- START (R452). FAB_DCTL START runs discovery, or is refused with BUSY. -/
  | start
  /-- FAB_FENCE (R461). FAB_DCTL FENCE declares a device lost and resets it. -/
  | fabFence (dev : Fin 64)
  /-- REJOIN (R461). FAB_DCTL REJOIN probes, resets and renumbers a lost device. -/
  | rejoin (dev : Fin 64)
  /-- PORT_RETRAIN (R466). Writing FAB_PCTL.RETRAIN retrains an UP or DOWN port. -/
  | portRetrain (port : PortId)
  /-- PORT_UNFENCE (R462). Writing FAB_PCTL.UNFENCE returns a FENCED port to TRAIN. -/
  | portUnfence (port : PortId)
  /-- DISABLE (R436). Writing FAB_PCTL.DISABLE holds or releases a port in DISABLED. -/
  | disable (port : PortId) (on : Bool)
  /-- FAB_PASYM_WRITE (R447). A FAB_PASYM write recomputes INLAT from the last mean. -/
  | fabPasymWrite (port : PortId) (value : BitVec 16)
  /-- POWER_STATE_CHANGE (R473). The device moves to a deeper state after the dwell or shallower at once and raises event 2141. -/
  | powerStateChange (deep : Bool)
  /-- WAKE_REQUEST (R474). A doorbell, access, timed action, pin, rail, WAKE_N, fabric or thermal cause requests a wake. -/
  | wakeRequest
  /-- WAKE_N (R474). WAKE_N held low for 1 us requests a wake. -/
  | wakeN (crystals : Nat)
  /-- POWER_ESTIMATE (R475). Every 10 us the device updates PWR_EST and sets OVER when above budget. -/
  | powerEstimate (est : BitVec 16)
  /-- SENSOR_READING (R478). Each temperature sensor is read every 100 us and cross-checked. -/
  | sensorReading (sensor : Fin 5) (temp : BitVec 16) (broken : Bool)
  /-- SENSOR_RECOVER (R479). A failed sensor passing the check for 100 ms becomes valid again. -/
  | sensorRecover (sensor : Fin 5)
  /-- LEVEL_LOWER (R480). A domain's level falls by one after 10 ms below threshold less hysteresis. -/
  | levelLower (die : DieId)
  /-- SHUT_CLEAR (R487). Writing THM_STAT.SHUT clears shutdown when the sensors have cooled. -/
  | shutClear
  /-- RELEASE (R484). Writing THM_CTL.RELEASE removes the thermal floors. -/
  | release
  /-- FAULT_DETECTED (R495). A fault is detected at the collector, counted, recorded and its reaction started. -/
  | faultDetected (events : List FaultEvent)
  /-- FORCE (R503). Writing FLT_SRC.FORCE raises a fault source as if detected. -/
  | force (src : SrcId)
  /-- FLT_SRC_WRITE (R494). A FLT_SRC write sets severity and reaction, or is ignored with CFGBAD. -/
  | fltSrcWrite (src : SrcId) (value : BitVec 32)
  /-- FLT_PEND_CLEAR (R504). Writing FLT_PEND clears pending bits of non-live causes and ends their fences. -/
  | fltPendClear (word : Fin 12) (value : BitVec 32)
  /-- COLLECTOR_SWEEP (R505). Every 12.8 us the collector rechecks its words and enters the safe state on error. -/
  | collectorSweep (bad : Option (BitVec 32))
  /-- ENTER (R506). Writing FLT_SAFE.ENTER enters the safe state. -/
  | enter
  /-- EXIT (R510). Writing FLT_SAFE.EXIT leaves the safe state, or sets EXITBAD. -/
  | exit
  /-- SAFE_ESC (R509). A second collector failure, unconfirmed pin-die safing or ESCTMO asserts SAFE_ESC. -/
  | safeEsc (unconfirmed : Bool)
  /-- NV_RECORD_WRITE (R537). An NV event record is written into the next MTP slot. -/
  | nvRecordWrite (verified : Bool)
  /-- LIVE_CAUSE_REDETECT (R600). At an L1 or L0 release each live cause that still holds is detected again. -/
  | liveCauseRedetect
  /-- POR (R513). VDD_AON falling below its threshold asserts POR. -/
  | por (low : Bool)
  /-- RESET_N (R518). RESET_N filtered low asserts its reset source. -/
  | resetN (low : Bool) (samples : Nat)
  /-- PERST_N (R518). PERST_N filtered low asserts its reset source on the anchor. -/
  | perstN (low : Bool) (samples : Nat)
  /-- WDOG (R530). Watchdog expiry or a steward exception asserts WDOG. -/
  | wdog (crash : Bool)
  /-- WDOG_WARN (R530). 50 ms without a watchdog restart raises source 53. -/
  | wdogWarn
  /-- WDFIRE (R513). Writing RST_CTL.WDFIRE asserts WDOG. -/
  | wdfire
  /-- RESET_RELEASE (R516). When every source is deasserted the device runs a release sequence at the level in force. -/
  | resetRelease (boot : BootIn)
  /-- DEFERRED_RESET (R519). A reset deferred during an MTP or OTP pulse is applied when the pulse ends. -/
  | deferredReset (verified : Bool)
  /-- CONTINUE (R524). Writing RST_CTL.CONTINUE resumes a release stopped in HOLD. -/
  | continueW
  /-- ROLLUP_FW (R534). TRUST_CTL ROLLUP_FW raises the firmware rollback counter. -/
  | rollupFw (value : BitVec 8) (verified : Bool)
  /-- ROLLUP_UC (R534). TRUST_CTL ROLLUP_UC raises the microcode rollback counter. -/
  | rollupUc (value : BitVec 8) (verified : Bool)
  /-- REVOKE (R534). TRUST_CTL REVOKE sets a key slot's revocation bit. -/
  | revoke (value : BitVec 8) (verified : Bool)
  /-- ACK (R537). Writing RST_NVACK.ACK acknowledges the newest NV record. -/
  | ack
  /-- PRIORSHUT_CLEAR (R537). Clearing THM_STAT.PRIORSHUT acknowledges the newest NV record. -/
  | priorshutClear
  /-- MTPLOCK (R542). Writing MTPLOCK refuses MTP_WRITE until an L1 reset. -/
  | mtplock
  /-- CROSSING_TIMEOUT (R17). A register access waiting at a crossing for 4 us ends in error and raises a fault record. -/
  | crossingTimeout (x : Fin 2) (die : DieId) (offset : BitVec 21) (write : Bool)
  /-- CROSSING_TRANSFER (R546). A value or pulse count is transferred across a clock crossing. -/
  | crossingTransfer (x : Fin 8) (ev : Xfer)
  /-- CROSSING_FLUSH (R551). When one side of a crossing enters reset the other side flushes its transfers. -/
  | crossingFlush (x : Fin 8)
  /-- SHADOW_WRITE_APPLY (R549). Writes held while ECLK was stopped are applied when ECLK runs. -/
  | shadowWriteApply
  /-- CLK_XMODE_WRITE (R547). A CLK_XMODE write selects the mode of crossings 3 and 6. -/
  | clkXmodeWrite (value : BitVec 32)
  /-- SVP_MTX (R557). Writing SVP_MTX starts one full-duplex master word. -/
  | svpMtx (value : BitVec 32)
  /-- MASTER_WORD_END (R557). A master word ends and its received bits are written to SVP_MRX. -/
  | masterWordEnd (miso : BitVec 32)
  /-- SVP_RELEASE (R557). Writing SVP_MCTL.RELEASE returns SEL to 0xF after the word in progress. -/
  | svpRelease
  /-- COMMAND_WORD (R560). A slave command word selects a read or write and its offset. -/
  | commandWord (word : BitVec 32)
  /-- STATUS_SLOT (R562). A slave status slot starts a read and reports its code and count. -/
  | statusSlot (waits : Bool)
  /-- DATA_WORD (R561). A slave data word is written or returned and the offset advances. -/
  | dataWord (word : BitVec 32)
  /-- SELECT_RELEASE (R564). Release of the slave select ends the transaction, discarding a partial slot. -/
  | selectRelease (bitsLeft : Bool)
  /-- POSTED_WRITE (R562). A posted slave write is carried out in order from the 4-entry buffer. -/
  | postedWrite
  /-- PMC_SEL_WRITE (R572). A PMC_SEL write changes a counter's event, or sets SELBAD. -/
  | pmcSelWrite (pmc : PmcId) (value : BitVec 32)
  /-- COUNTER_OVERFLOW (R573). A counter wraps, sets PMC_OVF and may raise its overflow event. -/
  | counterOverflow (pmc : PmcId)
  /-- TRIG_IN (R591). A TRIG_IN transition is stamped and raises its event. -/
  | trigIn (input : Fin 4) (high : Bool) (frac : Fin 1024)
  /-- TRIG_OUT (R592). TRIG_OUT rises on a marker vector and raises its event. -/
  | trigOut (output : Fin 4)
  /-- TRIG_OUT_FALL (R592). TRIG_OUT falls at the end of the last period of a run of marker vectors. -/
  | trigOutFall (output : Fin 4)
  /-- REGISTER_WRITE (R4). A write to a register with no row of its own sets, clears or ignores its fields by access code. -/
  | registerWrite (dev : Fin 64) (offset : BitVec 21) (size : Nat) (value : BitVec 32)
  /-- REGISTER_READ (R4). A read of an RC register, or of a LO register that latches its HI half, returns its value and then clears the register or latches the HI half. -/
  | registerRead (dev : Fin 64) (offset : BitVec 21) (size : Nat)
  /-- IDLE_FLIT (R440). A received IDLE flit, or the ACK and credit fields of any flit, frees the replay buffer and returns virtual-channel credit. -/
  | idleFlit (port : PortId) (flit : Flit)
  /-- PCIE_COMPLETION (R457). A PCIe completion from the host returns read data or an error for a descriptor fetch, data transfer, page-table walk or relayed member read. -/
  | pcieCompletion (target : HostTarget) (data : Option (List Byte))
  /-- LIVE_CAUSE_END (R490). The condition of a live fault source stops holding and its FLT_CAUSE bit returns to 0, so that FLT_PEND can be cleared. -/
  | liveCauseEnd (src : SrcId)
  /-- DIE_LINK_RETRAIN (R492). A failed die link retrains, PD_OK bit k returns to 1 and the LINK_DOWN cause ends. -/
  | dieLinkRetrain (die : DieId)
  /-- SUPPLY_OUT_OF_RANGE (R585). A pin-die supply or VDD_IO leaves its range, and the pins, waveform outputs, rail gates and digital outputs concerned go to their safe states directly. -/
  | supplyOutOfRange (supply : Supply) (die : DieId)
  /-- SUPPLY_IN_RANGE (R585). A supply comes into range, and a pin die held in reset for it is released and sets PD_OK. -/
  | supplyInRange (supply : Supply) (die : DieId)
  /-- BOUNDARY_SCAN (R593). A JTAG TAP operation on TCK loads an instruction such as IDCODE or EXTEST, accepting EXTEST only while RESET_N is low. -/
  | boundaryScan (op : Jtag)
deriving DecidableEq, Repr

end Sys2Proof
end

