-- ==== Sys2Proof/WellFormed.lean ====
section
/-! DEFINITION. Well-formed commands: operands that the outside world can supply. Instance numbers are bounded by their types;
here stand the bounds of the rest: header fields of a flit (R439), payload sizes (R439), counts and codes. -/

namespace Sys2Proof

/-- A packet as R439 lays it out: every header field within its width, whole flits of 64 payload bytes, no more than nine. -/
def Flit.ok (f : Flit) : Bool :=
  decide (f.seq < 4096) && decide (f.ack < 4096) && decide (f.cvc < 16) && decide (f.ccnt < 8) && decide (f.ty < 16)
    && decide (f.tc < 4) && decide (f.ord < 2) && decide (f.det < 2) && decide (f.dx < 8) && decide (f.dy < 8) && decide (f.src < 64)
    && decide (f.hops < 16) && decide (f.more < 9) && decide (f.pseq < 65536) && decide (f.bytes.length ≤ 64 * (f.more + 1))
    && f.bytes.all (fun b => decide (b < 256))

/-- What a peer says of itself (R437): a 64-bit identifier, a port, a device number. -/
def Peer.ok (p : Peer) : Bool := decide (p.uid < 2 ^ 64) && decide (p.port < 4) && decide (p.dev < 64)

/-- A fault report: its unit fits the field of FLT_FIRST, its DETAIL a word (R496). -/
def FaultEvent.ok (e : FaultEvent) : Bool := decide (e.unit < 4096) && decide (e.detail < 2 ^ 32)

/-- A host read is for a queue pair's 16-bit CID, or for a device and an 8-bit TAG (R386, R441). -/
def HostTarget.ok : HostTarget → Bool
  | .sq _ => true
  | .data _ cid => decide (cid < 65536)
  | .relay dev tag => decide (dev < 64) && decide (tag < 256)

/-- A page-table walk reads at most four entries (R413). -/
def walkOk (w : Walk) : Bool := decide (w.length ≤ 4)

/-- A descriptor is named by a queue pair and a 16-bit CID (R386). -/
def cidOk (cid : Nat) : Bool := decide (cid < 65536)

/-- Whether a command's operands are within their ranges. -/
def wellFormed : Instr → Bool
  | .gangStart _ cid => cidOk cid
  | .stepRunReadyCheck _ cid => cidOk cid
  | .barrierRelease _ cid bar => cidOk cid && decide (bar < 16)
  | .stepRunCompletion _ cid => cidOk cid
  | .poolError _ _ g => decide (g < 65536)
  | .streamGranuleFetch _ w => walkOk w
  | .rawTransition _ raw frac => decide (raw < 3) && decide (frac < 8000)
  | .lmeas _ f _ _ => f.ok
  | .nak _ f => f.ok
  | .routedFlit _ f => f.ok
  | .idleFlit _ f => f.ok
  | .beacon _ f _ _ => f.ok
  | .trainingDone _ _ p _ => p.ok
  | .descriptorFetch _ w => walkOk w
  | .nopCommand _ cid => cidOk cid
  | .stepRun _ cid => cidOk cid
  | .tblLoad _ cid w => cidOk cid && walkOk w
  | .segLoad _ cid w => cidOk cid && walkOk w
  | .refill _ cid => cidOk cid
  | .poolLoad _ cid w => cidOk cid && walkOk w
  | .ucodeLoad _ cid w => cidOk cid && walkOk w
  | .stream _ cid w => cidOk cid && walkOk w
  | .capUpload _ cid w => cidOk cid && walkOk w
  | .ledgDrain _ cid w => cidOk cid && walkOk w
  | .snapshot _ cid => cidOk cid
  | .fwLoad _ cid w => cidOk cid && walkOk w
  | .mtpWrite _ cid w _ => cidOk cid && walkOk w
  | .attest _ cid w => cidOk cid && walkOk w
  | .heldLoadRelease _ cid => cidOk cid
  | .completionWrite _ w => walkOk w
  | .eventRecordWrite _ w => walkOk w
  | .rloss _ w => walkOk w
  | .retry _ _ w => walkOk w
  | .faultDetected events => events.all FaultEvent.ok
  | .memberLost _ rings => decide (rings.length ≤ 64)
  | .registerWrite _ _ size _ => decide (1 ≤ size ∧ size ≤ 64)
  | .registerRead _ _ size => decide (1 ≤ size ∧ size ≤ 64)
  | .pcieCompletion target _ => target.ok
  | .streamFeedStop _ cause => decide (1 ≤ cause ∧ cause ≤ 5)
  | .crossingTransfer _ (.pulses n _) => decide (n < 2 ^ 32)
  | _ => true

end Sys2Proof
end

