-- ==== Sys2Proof/Decode.lean ====
section
/-! DEFINITION. The commands of the table carry no bits: no word spells one. -/

namespace Sys2Proof

/-- The command that a word spells: no row of spec/opcode_table.json gives bits, so none. -/
def decodeTableWord (_nbits _w : Nat) : Option Instr := none

end Sys2Proof
end

