-- ==== Sys2Proof/Config.lean ====
section
/-! DEFINITION. What the spec leaves open or gives to the world outside the device: free values, constants
without a body, so that no proof can rest on one (assumption 6). -/

namespace Sys2Proof

/-- Whether a window compare sees a departure shorter than 250 ps (R104: it "may pass undetected"), for the
n-th free value taken. -/
opaque Config.shortGlitchSeen : Nat → Bool

/-- The tag result that a TAGSET with a result code other than PASS and FAIL leaves (R172 names no other), for the
n-th free value taken. -/
opaque Config.tagOther : Nat → BitVec 8

/-- MEAN, MIN, MAX, STAMP and RANGE of a pin that took no conversion (R323, R326 state none), by word, for the n-th free value
taken. -/
opaque Config.pmuUnstated : Nat → Nat → Nat

/-- The UNIT field of the block of a measurement that found no unit (R302 states none), for the n-th free value taken (assumption 174). -/
opaque Config.noUnit : Nat → Fin 64

/-- The bytes of an MTP or NV row whose programming pulse a POR cut short (R519: the pulse "may leave its row unreadable"), by
place, for the n-th free value taken. -/
opaque Config.cutRow : Nat → Nat → BitVec 8

/-- The voltage at a rail's regulation point in 100 µV, by rail and tick: the die's and the card's doing. -/
opaque Config.railVolts : Nat → Stamp → Nat

/-- The code of a rail's current sample, 4 µV of shunt voltage per code, by rail and tick. -/
opaque Config.railAmps : Nat → Stamp → Int

/-- The OTP tables of R37 and R485, whose contents the spec does not give: the crystal's correction in ppb at an engine-die
temperature in 0.125 °C; the correction of a pin die's references, in DAC steps / 256, at its temperature (assumption 161). -/
opaque Config.xtalTable : Int → Int
opaque Config.refTable : Nat → Int → Int

/-- The measured delays of a pin's 64 interpolator phases and 64 vernier taps (R114), in 1/8000 tick (assumption 53). -/
opaque Config.phaseTrim : Nat → Nat → Int
opaque Config.vernTrim : Nat → Nat → Int

/-- The bits of the PRBS7 that an eye measurement drives (R119 names neither its polynomial's seed nor its first bit), by pin and
place (assumption 165). -/
opaque Config.prbs7 : Nat → Nat → Bool

/-- SHA3-512 of a list of bytes (R531, R532, R538 name it; the spec does not define it): 64 bytes. -/
opaque Config.sha3 : List Nat → List Nat

/-- Whether an ML-DSA-87 signature of a message verifies under a public key (R532; FIPS 204). -/
opaque Config.mldsaVerifies : List Nat → List Nat → List Nat → Bool

/-- The device's identity public key, its factory signature, and a signature by the identity key of a message (R538). -/
opaque Config.identityKey : List Nat
opaque Config.identityCert : List Nat
opaque Config.identitySign : List Nat → List Nat

/-- The OTP contents of the part as shipped (R522, R514, R533, R446): unique identifier, reset map, port trims, ROM
firmware version, key digests by slot (none: not programmed), revoked slots, rollback counters, the ROM image's digest. -/
opaque Config.otpUid : BitVec 64
opaque Config.otpMap : BitVec 10
opaque Config.otpDtrim : Nat → BitVec 16
opaque Config.romVersion : BitVec 16
opaque Config.keyDigest : Nat → Option (List Nat)
opaque Config.otpRevoked : BitVec 4
opaque Config.otpFwcnt : Fin 65
opaque Config.otpUccnt : Fin 65
opaque Config.romDigest : List Nat

/-- Factory eye figures by pin, in ps (R119: from OTP). -/
opaque Config.otpEye : Nat → BitVec 16

/-- Whether an OTP bit that TRUST_CTL programs passes its verify (R534), for the n-th free value taken. -/
opaque Config.otpTakes : Nat → Bool

/-- The level that boundary scan captures at a ball (R593), by place in the chain, for the n-th free value taken. -/
opaque Config.ballLevel : Nat → Nat → Bool

/-- The manufacturer's code in IDCODE (R593). -/
opaque Config.jtagMaker : BitVec 11

end Sys2Proof
end

