-- ==== Sys2Proof/Machine/Bits.lean ====
section
/-! DEFINITION. Bit fields of numbers, signed readings, saturation, and wafer-time arithmetic (R2, R34). -/

namespace Sys2Proof.Machine

/-- Bits [hi:lo] of a number. -/
def bits (v hi lo : Nat) : Nat := v / 2 ^ lo % 2 ^ (hi + 1 - lo)

/-- Bit b of a number, 0 or 1. -/
def bit (v b : Nat) : Nat := v / 2 ^ b % 2

/-- Bit b of a number as a truth value. -/
def hasBit (v b : Nat) : Bool := v / 2 ^ b % 2 == 1

/-- The number with bit b set. -/
def withBit (v b : Nat) : Nat := if hasBit v b then v else v + 2 ^ b

/-- The number with bit b clear. -/
def withoutBit (v b : Nat) : Nat := if hasBit v b then v - 2 ^ b else v

/-- A truth value as a bit. -/
def ofBool (b : Bool) : Nat := if b then 1 else 0

/-- The signed reading of a w-bit field. -/
def signed (w v : Nat) : Int := if v % 2 ^ w < 2 ^ (w - 1) then (v % 2 ^ w : Nat) else (v % 2 ^ w : Nat) - (2 ^ w : Nat)

/-- The w-bit field whose signed reading is i, modulo 2^w. -/
def ofSigned (w : Nat) (i : Int) : Nat := (i % (2 ^ w : Nat)).toNat

/-- One more, saturating at m. -/
def satAdd (m v k : Nat) : Nat := min m (v + k)

/-- How many of a list of truth values hold. -/
def countTrue (l : List Bool) : Nat := (l.filter id).length

/-- How many of bits 0 to n - 1 of v are 1. -/
def popCount (n v : Nat) : Nat := ((List.range n).filter (fun b => hasBit v b)).length

/-- The bits set among bits 0 to n - 1, in ascending order. -/
def bitsSet (n v : Nat) : List Nat := (List.range n).filter (fun b => hasBit v b)

/-- A stamp of n whole ticks. -/
def ticks (n : Nat) : Stamp := BitVec.ofNat 64 (n * 1024)

/-- The stamp n ticks after t. -/
def after (t : Stamp) (n : Nat) : Stamp := t + ticks n

/-- R34: target minus now, modulo 2^64, read as a signed 64-bit number. -/
def ahead (target now : Stamp) : Int := (target - now).toInt

/-- R34: the target lies in the future when the signed difference is positive; otherwise it is reached. -/
def reached (target now : Stamp) : Bool := decide (ahead target now ≤ 0)

/-- Whether a target is past or less than n ticks ahead (R34, R57). -/
def sooner (target now : Stamp) (n : Nat) : Bool := decide (ahead target now < 1024 * (n : Int))

/-- Bits [9:0] dropped: the tick a stamp lies in. -/
def tickOf (t : Stamp) : Stamp := t &&& 0xFFFFFFFFFFFFFC00

/-- Words of 64 bits made of a low and a high 32-bit word, and back. -/
def join (lo hi : Nat) : Nat := lo % 2 ^ 32 + hi % 2 ^ 32 * 2 ^ 32
def loWord (v : Nat) : Nat := v % 2 ^ 32
def hiWord (v : Nat) : Nat := v / 2 ^ 32 % 2 ^ 32

/-- A little-endian number of a list of bytes (R2). -/
def ofBytes : List Nat → Nat
  | [] => 0
  | b :: t => b % 256 + 256 * ofBytes t

/-- The n little-endian bytes of a number (R2). -/
def toBytes : Nat → Nat → List Nat
  | 0, _ => []
  | n + 1, v => v % 256 :: toBytes n (v / 256)

/-- Ticks per microsecond, per 10 nanoseconds of the crystal, per millisecond. -/
def tUs : Nat := 1500
def tXtal : Nat := 15
def tMs : Nat := 1500000

end Sys2Proof.Machine
end

