-- ==== Sys2Proof/Machine/Store.lean ====
section
/-! DEFINITION. Sparse stores: a list of keys with their values in rising order of the key's code, with no
entry equal to what an unlisted key reads as, so that equal contents are equal lists. The register fields,
the hidden state of the numbered instances and the on-chip memories are all held this way. -/

namespace Sys2Proof.Machine

/-- A store from keys to values. -/
abbrev Store (κ α : Type) := List (κ × α)

/-- The value at a key; an unlisted key reads as the default of that key. -/
def Store.get {κ α : Type} [DecidableEq κ] (d : κ → α) : Store κ α → κ → α
  | [], k => d k
  | (k', v) :: t, k => if k' = k then v else Store.get d t k

/-- The store without a key. -/
def Store.erase {κ α : Type} [DecidableEq κ] (m : Store κ α) (k : κ) : Store κ α :=
  m.filter (fun p => decide (p.1 ≠ k))

/-- An entry put in its place by the key's code. -/
def Store.insert {κ α : Type} (code : κ → Nat) (k : κ) (v : α) : Store κ α → Store κ α
  | [] => [(k, v)]
  | p :: t => if code k < code p.1 then (k, v) :: p :: t else p :: Store.insert code k v t

/-- A write: the old entry goes, and the new one is listed unless it equals the default. -/
def Store.put {κ α : Type} [DecidableEq κ] [DecidableEq α] (code : κ → Nat) (d : κ → α) (m : Store κ α)
    (k : κ) (v : α) : Store κ α :=
  if v = d k then m.erase k else (m.erase k).insert code k v

/-- The canonical form: codes strictly rising and no default listed. -/
def Store.wf {κ α : Type} [DecidableEq α] (code : κ → Nat) (d : κ → α) : Store κ α → Bool
  | [] => true
  | [(k, v)] => decide (v ≠ d k)
  | (k, v) :: (k', v') :: t => decide (v ≠ d k) && decide (code k < code k') && Store.wf code d ((k', v') :: t)

/-- A store keyed by numbers with one default. -/
abbrev NStore (α : Type) := Store Nat α

/-- Reading a store of numbered instances. -/
def NStore.at {α : Type} (d : α) (m : NStore α) (n : Nat) : α := Store.get (fun _ => d) m n

/-- Writing a store of numbered instances. -/
def NStore.set {α : Type} [DecidableEq α] (d : α) (m : NStore α) (n : Nat) (v : α) : NStore α :=
  Store.put id (fun _ => d) m n v

/-- An on-chip memory: bytes by address, a byte nothing has written reading as 0 (assumption 4). -/
abbrev Memory := List Host.Cell

/-- The canonical form of a memory: addresses strictly rising, no zero byte listed. -/
abbrev Memory.wf (m : Memory) : Bool := Store.wf id (fun _ => (0 : Byte)) m

/-- One byte of a memory. -/
def Memory.byte (m : Memory) (a : Nat) : Byte := Store.get (fun _ => (0 : Byte)) m a

/-- Writing one byte. -/
def Memory.write (m : Memory) (a : Nat) (b : Byte) : Memory := Store.put id (fun _ => (0 : Byte)) m a b

/-- n bytes from an address, as numbers. -/
def Memory.read (m : Memory) (a : Nat) : Nat → List Nat
  | 0 => []
  | n + 1 => (m.byte a).toNat :: Memory.read m (a + 1) n

/-- A little-endian number of n bytes (R2). -/
def Memory.num (m : Memory) (a n : Nat) : Nat := ofBytes (m.read a n)

/-- Writing bytes from an address. -/
def Memory.writeBytes (m : Memory) (a : Nat) : List Nat → Memory
  | [] => m
  | b :: t => Memory.writeBytes (m.write a (BitVec.ofNat 8 b)) (a + 1) t

/-- Zeros written over n bytes from an address. -/
def Memory.clear (m : Memory) (a n : Nat) : Memory := m.filter (fun p => decide (p.1 < a ∨ a + n ≤ p.1))

end Sys2Proof.Machine
end

