-- ==== Sys2Proof/Machine/EngineParts.lean ====
section
/-! DEFINITION. The state of the channel engines, gangs, tables and pins that no register shows whole:
program threads, output and side-effect queues, checkpoints, segment entries, timing and level sets,
filters, edges (chapters 03 to 09). -/

namespace Sys2Proof.Machine

/-- A program address: segment entry and offset; the offset is kept with 17 bits (R123, R226). -/
structure PAddr where
  seg : Nat
  off : Nat
deriving DecidableEq, Repr

/-- The 22-bit program address as a register shows it. -/
def PAddr.num (a : PAddr) : Nat := a.seg % 64 * 65536 + a.off % 65536

/-- The program address of a 22-bit number (R123). -/
def PAddr.ofNum (n : Nat) : PAddr := ⟨n / 65536 % 64, n % 65536⟩

/-- A loop entry: address of the word after LOOP, remaining count, call depth (R141). -/
structure LoopEntry where
  addr : PAddr
  count : Nat
  depth : Nat
deriving DecidableEq, Repr

/-- One engine's micro-machine (R170): U1 to U15, flags, W, NPC, micro-PC, micro-stack, open atomic region and its number in
the routine, and how far the engine is in the routine of the current word: gang-scope and pod-scope operations done, ticks spent
inside WAIT micro-ops, which are no issue cost (R165), and the first tick of the one in progress. -/
structure MicroSt where
  active : Bool := false
  done : Bool := false
  upc : Nat := 0
  u : NStore Nat := []
  z : Bool := false
  n : Bool := false
  c : Bool := false
  ustack : List Nat := []
  w : Nat := 0
  npc : PAddr := ⟨0, 0⟩
  region : Bool := false
  regionOps : Nat := 0
  regionCycles : Nat := 0
  commitPt : Bool := true
  opIdx : Nat := 0
  podIx : Nat := 0
  regNo : Nat := 0
  waited : Nat := 0
  waitFrom : Option Stamp := none
  ready : Stamp := 0
deriving DecidableEq, Repr

/-- A gang-scope micro-operation as the first engine of the gang did it: its kind, operands and result.
The other engines of the gang must do the same (R172, R177). -/
structure GangOp where
  kind : Nat
  a : Nat
  b : Nat
  res : Nat
deriving DecidableEq, Repr

/-- How the last MATCH of a path ended (COND 0b10 of R144). -/
inductive LastMatch where
  | none | matched | exhausted
deriving DecidableEq, Repr

/-- One path of a gang's program: main path or sprout. `dispT` is the tick of the last dispatch, `vposAt` the position of the
last vector before the present word plus one (R170), `heads` the stream words of each entry that the path has fetched (R239),
`mtarget` the TARGET of the armed MATCH (R238). -/
structure Thread where
  pc : PAddr := ⟨0, 0⟩
  word : PAddr := ⟨0, 0⟩
  wordSeq : Nat := 0
  cpu : NStore MicroSt := []
  inRoutine : Bool := false
  calls : List PAddr := []
  loops : List LoopEntry := []
  mctr : Option (Nat × PAddr) := Option.none
  lastMatch : LastMatch := LastMatch.none
  nextDisp : Stamp := 0
  gangOps : List GangOp := []
  dispT : Stamp := 0
  vposAt : Nat := 0
  heads : NStore Nat := []
  mtarget : Option PAddr := Option.none
deriving DecidableEq, Repr

/-- An entry of the output queue: its place in program order, its number within its word, the vector word of
each pod, the periods still to drive, the tick at which it joined. -/
structure OqEntry where
  seq : Nat
  ix : Nat
  words : List (Nat × Nat)
  rpt : Nat
  inAt : Stamp
deriving DecidableEq, Repr

/-- A launched vector period that has not resolved (R199). -/
structure Flight where
  seq : Nat
  pos : Nat
  t0 : Stamp
  dec : Option Nat
  vw : Nat
  left : Nat
  failed : Bool
  launch : Stamp
deriving DecidableEq, Repr

/-- A side effect as the words and the SEFX kinds of R172 post it; a pod-local one lists what each pod gives:
pod, ILOAD, LOAD_MODE and PMASK, or pod and PMASK. `mend` is the end of a MATCH at its dispatch (R146): by exhaustion, entering
the fail state, or by a match whose empty shadow it shows (R212). -/
inductive Eff where
  | lvl (lset : Nat)
  | load (xs : List (Nat × Nat × Nat × Nat))
  | log (on : Bool) (xs : List (Nat × Nat))
  | cnt (op idx src imm : Nat)
  | meas (kind dst setup : Nat) (wait : Bool) (pmasks : List (Nat × Nat))
  | awg (op mks w entry : Nat)
  | ledg (step binp binf va vb : Nat) (vaen vben clr : Bool)
  | fclr (clr : Bool)
  | fmark
  | pflag (k : Nat)
  | tagset (tag res : Nat)
  | attn (cause addr : Nat)
  | mend (exh failto show_ : Bool)
deriving DecidableEq, Repr

/-- An entry of the side-effect buffer: its place in program order, its number within its word, the atomic
region it belongs to, the boundary tick once known, the position of the last vector before it; for an effect that one pod posts
for itself, the pod and the effect's number among those of its word (R172); the tick in which an effect at the pins acts, once it is launched (R205). -/
structure SebEntry where
  seq : Nat
  ix : Nat
  region : Option Nat
  bt : Option Stamp
  vp : Option Nat
  eff : Eff
  pod : Option (Nat × Nat) := Option.none
  go : Option Stamp := Option.none
deriving DecidableEq, Repr

/-- One iteration of an armed MATCH whose decision is open: its boundary's place in program order, the
thread at that boundary, the boundary tick once known. -/
structure MatchIter where
  seq : Nat
  bt : Option Stamp
  th : Thread
deriving DecidableEq, Repr

/-- The kinds of speculative word (R200, R201). A user word's read: whether it depends on the fail state, the tags it depends on,
those of them whose last resolved vector failed, its number in the word. -/
inductive SpecKind where
  | cond (isFail : Bool) (cond idx imm popl : Nat) (target : PAddr)
  | mtch (hintExit failto : Bool) (tag limit : Nat) (target : PAddr) (iters : List MatchIter)
  | user (onFail : Bool) (tags bad ix : Nat)
deriving DecidableEq, Repr

/-- A checkpoint: the speculative word's place in program order, what it tests, what was predicted, and
the thread of the path that was not predicted, from its first word (R201). -/
structure Ckpt where
  seq : Nat
  kind : SpecKind
  taken : Bool
  word : PAddr
  alt : Thread
deriving DecidableEq, Repr

/-- The sprout: the side path with its own queues, and its thread before the word in progress (R204). -/
structure Sprout where
  owner : Nat
  th : Thread
  oq : List OqEntry
  seb : List SebEntry
  stop : Nat
  forMatch : Bool
  at0 : Thread := {}
deriving DecidableEq, Repr

/-- What a gang waits for at the pins (R148 to R151, R155, R173). -/
inductive WaitKind where
  | time (base1 : Bool) (ticks : Nat)
  | event (src : Nat) (seen : Option Stamp)
  | barrier (bar : Nat) (arrived : Option Stamp)
  | meas (dst : Nat)
  | commit
deriving DecidableEq, Repr

/-- A wait: its place in program order, tag and timeout, boundary tick and end once known; its number in its word and the thread
after it, from which a stop taken in the wait goes on (R182). -/
structure GWait where
  seq : Nat
  kind : WaitKind
  tag : Nat
  failto : Bool
  tmo : Nat
  bt : Option Stamp
  endAt : Option Stamp
  micro : Bool
  ix : Nat := 0
  th : Thread := {}
deriving DecidableEq, Repr

/-- A wait at a segment crossing or stream granule, and the under-run it became (R233 to R235); `since` is none while an earlier
branch is unresolved, when the wait records nothing (R215). -/
structure Cross where
  seg : Nat
  since : Option Stamp
  strm : Bool
  ur : Option (Nat × Stamp)
deriving DecidableEq, Repr

/-- A held engine error (R208): code, place in program order, program address, pod, every pod that shows it (R100). -/
structure HeldErr where
  code : Nat
  seq : Nat
  pc : PAddr
  pod : Nat
  pods : List Nat
deriving DecidableEq, Repr

/-- A gang counter that counts events (EVCNT, R154): the stamps of the events seen from a tick on, latest first, and the value
that it held at that tick. -/
structure EvCnt where
  src : Nat
  fromT : Stamp
  seen : List Stamp
  base : Nat := 0
deriving DecidableEq, Repr

/-- A PSAFE or SAFEPT on the main path: the place in program order of what follows it, its boundary tick once known, the thread at
it, whether every branch before it resolved by its launch tick (R216). -/
structure SafeMark where
  seq : Nat
  ix : Nat
  bt : Option Stamp
  th : Thread
  ok : Bool
deriving DecidableEq, Repr

/-- An exhausted MATCH whose tag is open (R146): place in program order, tag, FAILTO, position of the last vector before it. -/
structure Exhaust where
  seq : Nat
  tag : Nat
  failto : Bool
  vp : Option Nat
deriving DecidableEq, Repr

/-- The gang of one site. Beside its queues: `before` what SITE_VPOS and the micro-machines show until the step starts (R135),
`lastRes` the tick of the last resolution (R216), `lastCommit` the stamp of the last ledger entry (R28), `noLead` that a timed-out
wait lets the next vector start in the tick of its end (R149, R151), `mkq` the markers of launched periods that have not begun
(R157), `tagSeq` the place in program order of what set each tag, `vEnd` the tick of each value register's last write, `brks` the
micro-ops run at a breakpoint (R186), `dropped` the word whose sprout was dropped (R209), `launched` the place after the last
launched vector, `used` the entries dispatched from before the start (R224). -/
structure Gang where
  startT : Stamp := 0
  stepNo : Nat := 0
  run : Nat := 0
  pinEnd : Stamp := 0
  seqNext : Nat := 0
  vpos : Nat := 0
  main : Thread := {}
  sprout : Option Sprout := Option.none
  oq : List OqEntry := []
  flights : List Flight := []
  seb : List SebEntry := []
  ckpts : List Ckpt := []
  wait : Option GWait := Option.none
  cross : Option Cross := Option.none
  held : Option HeldErr := Option.none
  shadowTo : Option (Stamp × Nat) := Option.none
  dec : Store Nat (Option Nat) := []
  stopReq : Option Nat := Option.none
  stopped : Bool := false
  ledgDone : Bool := false
  capLoss : Bool := false
  evcnt : Store Nat (Option EvCnt) := []
  vMeas : NStore Nat := []
  devEntry : Bool := false
  meas : List Nat := []
  retire : List (Nat × Nat) := []
  exh : List Exhaust := []
  tagD : NStore Stamp := []
  marks : Store Nat (Option Stamp) := []
  markEnd : Store Nat (Option Stamp) := []
  preempt : Option Stamp := Option.none
  safes : List SafeMark := []
  fails : List (Nat × Nat) := []
  prep : Bool := false
  stepped : Bool := false
  noGap : Bool := false
  started : Bool := false
  brks : List (Nat × Nat) := []
  rewindDue : Bool := false
  measInfo : List (Nat × Nat × Nat) := []
  recent : List (Nat × Stamp × Stamp) := []
  lastCommit : Option Stamp := Option.none
  before : Option (Nat × NStore MicroSt) := Option.none
  lastRes : Option Stamp := Option.none
  noLead : Bool := false
  mkq : List (Nat × Stamp) := []
  tagSeq : NStore Nat := []
  vEnd : Store Nat (Option Stamp) := []
  dropped : Option Nat := Option.none
  launched : Nat := 0
  used : List PAddr := []
deriving DecidableEq, Repr

/-- A segment-table entry with its state (R222, R224): `st` 0 FREE, 1 LOADING, 2 READY, 3 ACTIVE, 4 RETIRED,
7 undefined; `rem` remaining reloads; `src` current source; `cls` the refill class of R245 while LOADING, `ord` its place among
the retirements. -/
structure SegX where
  st : Nat := 7
  len : Nat := 0
  lbase : Nat := 0
  next : Nat := 0
  nextV : Bool := false
  consume : Bool := false
  policy : Nat := 0
  kind : Nat := 0
  slot : Nat := 0
  pbase : Nat := 0
  adv : Nat := 0
  reloads : Nat := 0
  rewind : Bool := false
  rem : Nat := 0
  src : Nat := 0
  cls : Nat := 0
  got : Nat := 0
  head : Nat := 0
  ord : Nat := 0
deriving DecidableEq, Repr

/-- An edge slot of a timing set: type under R101 and offset in 0.25 ps. -/
structure Slot where
  ty : Nat
  off : Nat
deriving DecidableEq, Repr

/-- A timing set (R106): period in ticks, DDR, return mode and slots per pin. -/
structure TSet where
  period : Nat
  ddr : Bool
  ret : List Nat
  slots : List (List Slot)
deriving DecidableEq, Repr

/-- One pin's block of a level set (R66). -/
structure LBlock where
  vih : Nat := 0
  vil : Nat := 0
  vtt : Nat := 0
  voh : Nat := 0
  vol : Nat := 0
  iload : Nat := 0
  vcom : Nat := 0
  mode : Nat := 0
deriving DecidableEq, Repr

/-- One pin's deskew entry (R117): signed delays in 0.25 ps, path resistance in 10 mΩ. -/
structure Deskew where
  drvRise : Int := 0
  drvFall : Int := 0
  cmpRise : Int := 0
  cmpFall : Int := 0
  onOff : Int := 0
  rpath : Nat := 0
deriving DecidableEq, Repr

/-- A microcode image as loaded into an engine (R187): user micro-ops, nano-words, routine entries. -/
structure Image where
  uops : List Nat := []
  nano : List Nat := []
  entries : List Nat := []
deriving DecidableEq, Repr

/-- A record of the edge FIFO: pin of the pod, state after, by LG window, stamp (R266). -/
structure EdgeRec where
  pin : Nat
  state : Nat
  win : Bool
  stamp : Stamp
  ep : Nat := 0
  jp : Nat := 0
deriving DecidableEq, Repr

/-- A run of lost records of one cause (R270). -/
structure LossRun where
  cause : Nat
  pinMask : Nat
  count : Nat
  first : Stamp
  last : Stamp
deriving DecidableEq, Repr

/-- A record waiting for a pod's ring: its 64-bit words, type, pin and stamp (R256). -/
structure CapRec where
  ty : Nat
  pin : Nat
  stamp : Stamp
  words : List Nat
  ep : Nat := 0
  jp : Nat := 0
deriving DecidableEq, Repr

/-- The state of one pod beside its registers. -/
structure PodX where
  tsets : Store Nat (Option TSet) := []
  lsets : Store Nat (Option (List LBlock)) := []
  deskew : NStore Deskew := []
  deskewed : Bool := false
  image : Image := {}
  segs : NStore SegX := []
  pred : NStore Nat := []
  settleEnd : Option Stamp := none
  settleRuns : List (Stamp × Stamp) := []
  settlePins : Nat := 0
  eyeEnd : Option Stamp := none
  eyePins : List Nat := []
  efifo : List EdgeRec := []
  failq : List CapRec := []
  stepq : List CapRec := []
  losses : List LossRun := []
  refStamp : Stamp := 0
  refEpoch : Nat := 0
  refJump : Nat := 0
  firstCnt : Nat := 0
  above : Bool := false
deriving DecidableEq, Repr

/-- A filter decision that has not been announced: state before, state after, tick of the deciding sample. -/
structure FDec where
  old : Nat
  new : Nat
  t : Stamp
deriving DecidableEq, Repr

/-- The majority filter of a pin (R76 to R79, R86): the last samples, newest first; the filtered state
(3 UNKNOWN); samples taken since the restart; decisions not yet announced; changes and samples of the present
32-sample window; the end of the last window that held 16 changes; the tick up to which samples have been taken; the
stamp of the present state (R77); the latest raw sample (R95). -/
structure Filter where
  win : List Nat := []
  st : Nat := 3
  taken : Nat := 0
  decs : List FDec := []
  changes : Nat := 0
  wcount : Nat := 0
  rate : Option Stamp := none
  upto : Stamp := 0
  since : Stamp := 0
  rawS : Nat := 1
deriving DecidableEq, Repr

/-- A placed drive edge: fine time and the driver state it calls for (0 high impedance, 1 low, 2 high,
3 termination); the phase and the vernier tap selected for it (R114). -/
structure DrvEdge where
  t : Int
  st : Nat
  taps : Nat × Nat
deriving DecidableEq, Repr

/-- A placed compare edge that has not been evaluated: fine time of the strobe or of WOPEN, of WCLOSE for a
window, whether dropped under R110, edge kind (0 STRA, 1 STRB, 2 window), pin code, expectation, the
vector's position and control bits; the phase and the vernier tap of the strobe or of WOPEN, and of WCLOSE (R114). -/
structure CmpEdge where
  t : Int
  tc : Int
  dropped : Bool
  edge : Nat
  code : Nat
  expect : Nat
  pos : Nat
  nofail : Bool
  nocap : Bool
  taps : Nat × Nat
  tapsC : Nat × Nat
deriving DecidableEq, Repr

/-- The PMU of a pin (chapter 11): phase 0 idle, 1 connecting, 2 settling, 3 converting, 4 disconnecting, 5 kept. -/
structure PmuX where
  phase : Nat := 0
  until_ : Stamp := 0
  setup : Nat := 0
  site : Option Nat := none
  dst : Nat := 0
  tok : Nat := 0
  reg : Bool := false
  samples : List Nat := []
  convEnd : Option Stamp := none
  trigT : Stamp := 0
  trigNext : Option Stamp := none
  taken : Nat := 0
  lastEnd : Stamp := 0
  tmo : Bool := false
  flags : Nat := 0
  disc : Bool := false
  corr : Int := 0
deriving DecidableEq, Repr

/-- The state of one pin beside its registers: raw comparator state and its transitions while a compare is
pending, filter, previous strobe state, prior drive value, drive and compare edge trains, load mode, logging,
trip. -/
structure PinX where
  raw : Nat := 1
  hist : List (Int × Nat) := []
  filter : Filter := {}
  prev : Nat := 3
  prior : Bool := false
  drvNow : Nat := 0
  drv : List DrvEdge := []
  lastDrv : Option Int := none
  lastCmp : Option Int := none
  cmp : List CmpEdge := []
  loadMode : Nat := 0
  logOn : Bool := false
  lg : List (Stamp × Stamp) := []
  tripped : Bool := false
  lastTdc : Option Int := none
  budgetWin : Nat := 0
  budgetCnt : Nat := 0
  rearm : Option Stamp := none
  reraises : Nat := 0
  pmu : PmuX := {}
deriving DecidableEq, Repr

end Sys2Proof.Machine
end

