-- ==== Sys2Proof/Machine/HostParts.lean ====
section
/-! DEFINITION. The state of queue pairs, event rings, translation, streams, snapshots and watermarks that no register
shows whole, and the messages to the host (chapters 02, 08, 13, 14). -/

namespace Sys2Proof.Machine

/-- A fetched descriptor that has not completed (R382, R383): its number in fetch order, its 64 bytes as a little-endian
number, whether it has started, whether it is held under R25, the bytes read for it, the bytes moved and to be moved, the
fault that holds its transfer (not yet in the log, or in an OPEN slot), the first of its granules, or its place among held
commands of the steward; the bytes of a read that the host has not answered; whether it was accepted (a STEP_RUN), or has begun
after its hold; whether that read was issued through a translation that an invalidation has since covered (R416). -/
structure Desc where
  idx : Nat
  raw : Nat
  started : Bool := false
  held : Bool := false
  data : List Nat := []
  moved : Nat := 0
  total : Nat := 0
  faulted : Bool := false
  first : Nat := 0
  reading : Nat := 0
  accepted : Bool := false
  stale : Bool := false
deriving DecidableEq, Repr

/-- A completion that waits to be written (R389), with the pod of a capture upload. -/
structure Cpl where
  idx : Nat
  cid : Nat
  opc : Nat
  irq : Bool
  status : Nat
  r0 : Nat
  r1 : Nat
  detail : Nat
  pod : Nat := 0
deriving DecidableEq, Repr

/-- A queue pair beside its registers: fetched descriptors in ring order, completions to write, whether a fetch is under way,
the next fetch number, the CQ head, the completion phase, items pending for an interrupt and the time of the oldest, faults
that hold its ring accesses, whether an outstanding fetch was issued through an invalidated translation (R416). -/
structure QpX where
  fetched : List Desc := []
  cplq : List Cpl := []
  fetching : Bool := false
  next : Nat := 0
  cqHead : Nat := 0
  phase : Nat := 1
  pend : Nat := 0
  oldest : Stamp := 0
  sqFault : Bool := false
  cqFault : Bool := false
  stale : Bool := false
deriving DecidableEq, Repr

/-- An event ring beside its registers: its head, phase, records kept on chip as 64-bit words without PHASE, the open run of
lost records (count, first and last stamp), items pending for an interrupt and the time of the oldest, a fault that holds its
writes. -/
structure EvrX where
  head : Nat := 0
  phase : Nat := 1
  kept : List (List Nat) := []
  lost : Option (Nat × Nat × Nat) := none
  pend : Nat := 0
  oldest : Stamp := 0
  fault : Bool := false
deriving DecidableEq, Repr

/-- A cached translation (R415): address space, level, the input address above that level's page or table, the output
address, rights along the path, whether it is a leaf. -/
structure Tlb where
  asid : Nat
  level : Nat
  tag : Nat
  out : Nat
  rd : Bool
  wr : Bool
  leaf : Bool
deriving DecidableEq, Repr

/-- A translation fault (R417 to R420): ORIGIN, queue pair or event ring, descriptor number, CID, OPC, address space, address,
direction, cause, progress, FRES, tick. -/
structure MFault where
  origin : Nat
  unit : Nat
  idx : Nat
  cid : Nat
  opc : Nat
  asid : Nat
  addr : Nat
  write : Bool
  cause : Nat
  prog : Nat
  fres : Bool
  stamp : Stamp
deriving DecidableEq, Repr

/-- A stream slot beside its registers (R236 to R242): granules fetched since EN was set, and those at which a
bound pod under-ran. -/
structure StrmX where
  fed : Nat := 0
  unders : List Nat := []
deriving DecidableEq, Repr

/-- A snapshot slot (R56 to R59): the tick at which it is taken, whether late, and the descriptor that armed it. -/
structure SnapX where
  at_ : Option Stamp := none
  late : Bool := false
  desc : Option (Nat × Nat) := none
deriving DecidableEq, Repr

/-- What watermark records need (R54, R55): the tick of the last one, the worst SYNC state and a jump since, a wrap since. -/
structure WmX where
  last : Stamp := 0
  worst : Nat := 0
  jumped : Bool := false
  wrapped : Bool := false
deriving DecidableEq, Repr

/-- What leaves the device, in order: bytes written to host memory, an MSI-X message, a read of host memory, the answer to a
register read or an access refused as unsupported, a packet on a fabric port, a link-local flit, the entry that the anchor writes
for a queue pair of a lost member, a word on the service port's select, boundary-scan bits. -/
inductive OutMsg where
  | write (addr : Nat) (bytes : List Nat)
  | msi (addr data : Nat)
  | read (addr len : Nat) (target : HostTarget)
  | value (v : Nat)
  | unsupported
  | flit (port : Nat) (f : Flit)
  | link (port : Nat) (f : Flit)
  | peerLost (dev qp : Nat) (bytes : List Nat)
  | svp (sel word : Nat)
  | slot (word : Nat)
  | scan (bits : List Bool)
deriving DecidableEq, Repr

end Sys2Proof.Machine
end

