-- ==== Sys2Proof/Machine/ExtParts.lean ====
section
/-! DEFINITION. The state of wafer-time steering, the fabric, power and thermal management, reset and trust, clock crossings,
the service port, triggers and boundary scan that no register shows whole (chapters 02, 15, 16, 18 to 23). -/

namespace Sys2Proof.Machine

/-- Wafer-time steering (R33, R37 to R47, R448): a wrap not yet taken in; the ageing ramp's value at its start and that
start; the last temperature correction; consecutive beacons within 100 ps; the last valid beacon; the tick of the present
SYNC state; the last beacon sent; the number of the next; the offset being slewed; since when REFIN is awaited (R40). -/
structure TimeX where
  wrapDue : Bool := false
  ageNow : Int := 0
  ageT : Stamp := 0
  tcompT : Option Stamp := none
  good : Nat := 0
  lastValid : Stamp := 0
  syncT : Stamp := 0
  sent : Option Stamp := none
  bseq : Nat := 0
  slew : Int := 0
  refT : Stamp := 0
deriving DecidableEq, Repr

/-- A fabric port beside its registers (R438 to R450): the tick of its present state; SEQ of the next flit and of the last
accepted; packets sent and not acknowledged; packets that wait, each with the tick since which; credit of the nine virtual
channels; successive replays; the last flit received; ticks of the last DETOUR and DROP events; CRC errors of the present
millisecond, by their ticks; flits left to TC2 and TC3 in the present round; the latency measurement: next index, departure of its probe,
attempt, least, greatest and sum of rtt, the peer's trim; the sum and the peer's trim of the last measurement that gave a mean; the peer's identifier; the
BHOPS of its beacons, their last tick, how many in succession were better than upstream; whether a port in DOWN trains again;
whether a NAK has been sent since the last flit accepted (R440). -/
structure PortX where
  since : Stamp := 0
  retry : Bool := false
  txSeq : Nat := 0
  rxSeq : Nat := 4095
  replay : List Flit := []
  held : List (Flit × Stamp) := []
  credit : List Nat := [16, 16, 16, 16, 16, 16, 16, 16, 16]
  replays : Nat := 0
  lastRx : Stamp := 0
  detourT : Option Stamp := none
  dropT : Option Stamp := none
  crcs : List Stamp := []
  arb2 : Nat := 0
  arb3 : Nat := 0
  idx : Nat := 0
  t1 : Option Stamp := none
  attempt : Nat := 1
  lo : Int := 0
  hi : Int := 0
  sum : Int := 0
  trim : Int := 0
  meas : Option (Int × Int) := none
  uid : Nat := 0
  bhops : Option Nat := none
  bT : Stamp := 0
  better : Nat := 0
  naked : Bool := false
deriving DecidableEq, Repr

/-- A device as discovery knows it (R452): identifier, position, route from the anchor. -/
structure Node where
  uid : Nat
  x : Int
  y : Int
  route : List Nat
deriving DecidableEq, Repr

/-- A probe that awaits its reply (R452): from which device through which port, or the device that rejoins; the tick it was
sent; whether the member has been sent FABRIC_RST. -/
structure Probe where
  node : Node
  port : Nat
  rejoin : Option Nat
  sentT : Stamp
  rst : Bool
deriving DecidableEq, Repr

/-- Discovery (R452 to R455): due at a release, whether it runs, whether it follows a reset, since when it runs, probes to
make, the one under way, devices found. -/
structure DiscX where
  due : Bool := false
  on : Bool := false
  afterRst : Bool := false
  started : Stamp := 0
  todo : List (Node × Nat) := []
  cur : Option Probe := none
  found : List Node := []
deriving DecidableEq, Repr

/-- A member as the anchor keeps it (R453, R459): identifier, position, route, heartbeats unanswered, whether one is
outstanding. -/
structure MemberX where
  uid : Nat := 0
  x : Nat := 0
  y : Nat := 0
  route : List Nat := []
  missed : Nat := 0
  asked : Bool := false
deriving DecidableEq, Repr

/-- A relayed register read of a member (R456): device, TAG, the tick it was sent. -/
structure RelayRd where
  dev : Nat
  tag : Nat
  sentT : Stamp
deriving DecidableEq, Repr

/-- A member's host read at the anchor (R457): device, TAG, class, length, bytes received, the tick it was issued. -/
structure DmaRd where
  dev : Nat
  tag : Nat
  tc : Nat
  len : Nat
  got : List Nat
  sentT : Stamp
deriving DecidableEq, Repr

/-- A member's own host read (R457): TAG, what it is for, length, bytes received. -/
structure TagRd where
  tag : Nat
  target : HostTarget
  len : Nat
  got : List Nat
deriving DecidableEq, Repr

/-- The fabric beside its registers: packets delivered here and not yet taken, each with its port; the next PSEQ to each
device and the last accepted from each; packets held for a gap, each with its sender and the tick the gap arose; relayed reads
outstanding and waiting; host reads of members and of this member; the next TAG; the last heartbeat, its number, the tick
isolation began, whether SLEEP has come; discovery, and the members the anchor keeps; the mesh size and anchor place; members
declared lost whose PEER_LOST entries are not written; devices that WAKE is due to. -/
structure FabX where
  inbox : List (Nat × Flit) := []
  txP : NStore Nat := []
  rxP : NStore Nat := []
  ahead_ : List (Nat × Nat × Flit) := []
  gapT : Store Nat (Option Stamp) := []
  relays : List RelayRd := []
  waiting : List (Nat × Nat) := []
  dma : List DmaRd := []
  tags : List TagRd := []
  tag : Nat := 0
  hbT : Stamp := 0
  hbN : Nat := 0
  isoT : Stamp := 0
  sleep : Bool := false
  disc : DiscX := {}
  members : Store Nat (Option MemberX) := []
  w : Nat := 1
  h : Nat := 1
  ax : Nat := 0
  ay : Nat := 0
  lostDue : List Nat := []
  wakeDue : List Nat := []
deriving DecidableEq, Repr

/-- Power management beside its registers (R469 to R473): since when the target has stayed at each state or deeper; the T of a
RESUME; the tick of a watermark that entering DEEP waits for. -/
structure PwrX where
  since : List Stamp := [0, 0, 0, 0, 0]
  resumes : List (Nat × Stamp) := []
  deepW : Option Stamp := none
deriving DecidableEq, Repr

/-- A temperature sensor beside its register (R478, R479): the readings of the last 100 ms, newest first; since when it differs
from the median; since when it has passed the check again. -/
structure SensorX where
  hist : List (Stamp × Int) := []
  offT : Option Stamp := none
  okT : Option Stamp := none
deriving DecidableEq, Repr

/-- A temperature domain beside its register (R480, R482, R484): since when it has been cool enough to go down a level; the
sensor that last set its level; when the level last fell below 2. -/
structure DomX where
  coolT : Option Stamp := none
  by_ : Nat := 0
  fellT : Option Stamp := none
deriving DecidableEq, Repr

/-- An NV event record that has been decided and not yet written (R520, R536): its 64 bytes but for SEQ and CRC. -/
structure NvRec where
  ty : Nat
  stamp : Stamp
  epoch : Nat
  dev : Nat
  payload : List Nat
deriving DecidableEq, Repr

/-- A programming pulse in progress (R519, R535): the byte offset of the row and its bytes; a descriptor's rows, or an NV
record, or an acknowledgement. -/
structure PulseX where
  row : Nat
  bytes : List Nat
deriving DecidableEq, Repr

/-- Reset and trust beside their registers (chapter 18): sources asserted now, in the bits of RST_STAT.SRC; sources asserted
since the last release sequence ended; the greatest reach among them (0 L0, 3 none); a reset that waits for a pulse; whether
the release sequence runs and whether a reset has been applied; pin dies out of reset; NV records to write; the pulse in
progress; the tick of the watchdog's last warning, whether it has warned; an image that FW_LOAD left in HOLD; the digest
of the running firmware; key slots revoked and rollback counters raised since manufacture; an acknowledgement that waits for
its pulse (R537); live causes that are to be detected again (R600); how many pin dies the present release has passed, and the
tick of the last one's release (R10, R521). -/
structure RstX where
  on : Nat := 1
  seen : Nat := 1
  level : Nat := 0
  deferred : Bool := false
  releasing : Bool := false
  dies : Nat := 0
  nvq : List NvRec := []
  pulse : Option PulseX := none
  wdT : Stamp := 0
  wdWarned : Bool := false
  fwKept : Bool := false
  fwDigest : List Nat := []
  revoked : Nat := 0
  fwcnt : Nat := 0
  uccnt : Nat := 0
  ackDue : Bool := false
  redetect : List (Nat × Nat × Nat) := []
  dieN : Nat := 0
  dieT : Option Stamp := none
deriving DecidableEq, Repr

/-- The safe state and the collector beside their registers (R505, R509 to R511): the tick of entry, whether the collector
caused it, whether the last sweep passed; by source, one more than the severity recorded for its pending bit. -/
structure SafeX where
  since : Stamp := 0
  byCollector : Bool := false
  sweepOk : Bool := true
  sevs : NStore Nat := []
deriving DecidableEq, Repr

/-- A clock crossing (R545 to R548): the source value, the value held and the one shown; whether a request is outstanding; the
last sample and disagreeing pairs in succession; whether the source value has changed during the round trip; pulses in flight and pending, whether the next request is marked as
overflowed. -/
structure XingX where
  src : Nat := 0
  held : Nat := 0
  dest : Nat := 0
  req : Bool := false
  newer : Bool := false
  last : Option Nat := none
  differ : Nat := 0
  flight : Nat := 0
  pend : Nat := 0
  marked : Bool := false
deriving DecidableEq, Repr

/-- Phases of a slave transaction (R559 to R563): none; a status slot, then a data slot of a read; the slots of a write;
refused; past its block. -/
inductive Slave where
  | idle | status | data | write | refused | ended
deriving DecidableEq, Repr

/-- Who made a register access (R456, R562): the host at the anchor, the anchor for it by a TAG, the service port, a transaction of
the service port that has ended. -/
inductive XFrom where
  | host
  | fabric (tag : Nat)
  | svp
  | gone
deriving DecidableEq, Repr

/-- A register access that waits at a crossing (R17, R549): who made it, whether it writes, offset and value, the tick it came. -/
structure XAcc where
  from_ : XFrom
  write : Bool
  off : Nat
  val : Nat
  since : Stamp
deriving DecidableEq, Repr

/-- The service port beside its registers (R557 to R564): the select code driven, the word being shifted, a release that waits;
the slave transaction: its phase, INC, its offset; whether a read has been started, its result, whether it ended in error; posted
writes. -/
structure SvpX where
  sel : Nat := 15
  word : Option Nat := none
  release : Bool := false
  phase : Slave := .idle
  inc : Bool := false
  off : Nat := 0
  asked : Bool := false
  got : Option Nat := none
  failed : Bool := false
  wbuf : List (Nat × Nat) := []
deriving DecidableEq, Repr

/-- A trigger input and output (R591, R592): the input's level and last transition; the output's level, the tick it rose, the
end of the last period that held it high; a rise that is due. -/
structure TrigX where
  inHigh : Bool := false
  inT : Option Stamp := none
  outHigh : Bool := false
  roseT : Stamp := 0
  endT : Stamp := 0
  due : Option Stamp := none
deriving DecidableEq, Repr

/-- The boundary-scan controller (R593): the instruction in force (0 BYPASS, 1 IDCODE, 2 SAMPLE/PRELOAD, 3 EXTEST) and the bits
last shifted in. -/
structure JtagX where
  ir : Nat := 1
  dr : List Bool := []
deriving DecidableEq, Repr

end Sys2Proof.Machine
end

