-- ==== Sys2Proof/Machine/Registers.lean ====
section
/-! DEFINITION. The register map: every register of the device window (R578 and the index of
22_address_map.md), its offset, its instances and their strides, and every field with its bits, access
code (R4), reset level (R7) and reset value, as the defining chapters' register tables give them.
A field whose reset value the tables give as "from MTP", "from OTP", "strap", "fixed" or "safe code"
carries here the value that the assumption log names (entry 3); a release loads the real one. -/

namespace Sys2Proof.Machine

/-- The registers of the device window, by name; an indexed register is one constructor and its
instances are numbered by one or two indices. -/
inductive Reg where
  | GLB_ID | GLB_ROLE | GLB_UNITS | GLB_SAFECODE | RST_STAT | RST_CTL
  | RST_MAP | RST_NVSEL | RST_NVACK | RST_NVREC | TRUST_STAT | TRUST_FWID
  | TRUST_FWSVN | TRUST_CTL | TRUST_RES | WT_NOW_LO | WT_NOW_HI | WT_EPOCH
  | WT_CTL | WT_XTAL | WT_OFFSET | WT_STAT | WT_WM | WT_WM_LAST_LO
  | WT_WM_LAST_HI | WT_SNAP_TLO | WT_SNAP_THI | WT_SNAP_CTL | WT_SNAP_ALO | WT_SNAP_AHI
  | MSIX_ADDR_LO | MSIX_ADDR_HI | MSIX_DATA | MSIX_CTL | QP_SQB_LO | QP_SQB_HI
  | QP_CQB_LO | QP_CQB_HI | QP_CFG | QP_IRQ | QP_HEAD | QP_STAT
  | EVR_BASE_LO | EVR_BASE_HI | EVR_CFG | EVR_IRQ | EVR_TAIL | EVR_STAT
  | EVR_LOST | MSIX_PBA | HQ_GEN | HQ_QCTL | HQ_LINK | MMU_CFG
  | MMU_STAT | MMU_INV | MMU_INV_ALO | MMU_INV_AHI | MMU_INV_NPG | MMU_FRESUME
  | MMU_FIDX | MMU_FLOG0 | MMU_FLOG1 | MMU_FLOG2 | MMU_FLOG3 | MMU_FLOG4
  | MMU_FLOG5 | MMU_FLOG6 | PRE_CTL | PRE_TLO | PRE_THI | PRE_STAT
  | PRE_PEND_LO | PRE_PEND_HI | PRE_YIELD | MMU_ROOT_LO | MMU_ROOT_HI | FAB_CFG
  | FAB_STAT | FAB_DCTL | FAB_DSTAT | FAB_EXT | FAB_PRES_LO | FAB_PRES_HI
  | FAB_LOST_LO | FAB_LOST_HI | FAB_ORDER_LO | FAB_ORDER_HI | FAB_ARB | FAB_DROP
  | FAB_UID_LO | FAB_UID_HI | FAB_PCTL | FAB_PSTAT | FAB_PLAT | FAB_PASYM
  | FAB_PERR | FAB_PTRIM | FAB_DETOUR | PWR_CTL | PWR_STAT | PWR_WAKE
  | PWR_BUDGET | PWR_EST | PWR_GSTAT | THM_T | THM_THR | THM_CFG
  | THM_LIM | THM_DOM | THM_STAT | THM_CTL | FLT_CTL | FLT_STAT
  | FLT_SECCNT | FLT_SAFE | FLT_DEGR | FLT_FIRST | FLT_SECOND | FLT_PEND
  | FLT_CAUSE | FLT_SRC | FLT_CNT | EVT_CFG | EVT_ROUTE | SVP_CFG
  | SVP_MCTL | SVP_MTX | SVP_MRX | SVP_STAT | CLK_XMODE | CLK_XSTAT
  | CLK_XOVF | IU_RES | IU_CTL | IU_STAT | IU_GSTAT | IU_CAL
  | IU_CALST | PMC_CNT_LO | PMC_CNT_HI | PMC_SEL | PMC_OVF | PMC_LOSS
  | PMC_STAT | PMC_SHD_LO | PMC_SHD_HI | PMC_SHD_STAT | PMC_SHD_OVF | PMC_SHD_LOSS
  | SITE_PSTAT | SITE_FCOUNT | SITE_FFPOS_LO | SITE_FFPOS_HI | SITE_VPOS_LO | SITE_VPOS_HI
  | SITE_TAGRES | SITE_VVAL | SITE_V | SITE_FCTL | SITE_FSTAT | SITE_FSTAMP_LO
  | SITE_FSTAMP_HI | SITE_RSEQ | RAIL_CFG | RAIL_SET | RAIL_CTL | RAIL_VWIN
  | RAIL_IWIN | RAIL_MON | RAIL_STAT | RAIL_FLAG | RAIL_VRD | RAIL_IRD
  | RAIL_IPK | RAIL_PROF | AWG_CFG | AWG_SPAN | AWG_CTL | AWG_STAT
  | AWG_POS | AWG_SAMPLES | AWG_IDLE | AWG_ARMBY | STRM_CFG | STRM_STAT
  | STRM_FED | STRM_URCNT | POOL_STAT | POOL_RD | LEDG_CFG | LEDG_WR
  | LEDG_RD | LEDG_STAT | LEDG_FILL | LEDG_BINS | LEDG_LOST | LEDG_DROP
  | CAP_GCTL | CAP_GSTAT | CAP_APSEL | ENG_CTL | ENG_STAT | ENG_PC
  | ENG_GAP | ENG_UCTL | ENG_USTAT | ENG_UBRK | ENG_UIMG | ENG_UINFO
  | ENG_USVN | ENG_UREG | ENG_RA_CTL | ENG_RA_STAT | ENG_RA_QSET | ENG_RA_QRES
  | ENG_RA_QSH | ENG_RA_SHADOW | ENG_RA_MISP | ENG_RA_RES | ENG_RA_SQ | ENG_RA_HOLD
  | ENG_SEG | ENG_PM_CTL | ENG_PM_PAD | ENG_PM_STAT | ENG_PM_UR | ENG_PM_PADN
  | ENG_PM_XWAIT | ENG_PM_QSEG | ENG_PM_QREM | ENG_PM_QSRC | POD_TIM_CTL | POD_TIM_STAT
  | POD_TIM_COLL | POD_TIM_EYE | POD_TIM_LOADED_LO | POD_TIM_LOADED_HI | POD_LVL_CFG | POD_LVL_STAT
  | POD_LVL_MASKED | CAP_CFG | CAP_PART | CAP_PNEXT | CAP_MAPSTART | CAP_WR
  | CAP_RD | CAP_STAT | CAP_ELOG | CAP_PFC | CAP_LOST | CAP_FILL
  | CAP_THR | PIN_CFG | PIN_WATCH | PIN_STAT | PIN_FLAG | PIN_LVL_A
  | PIN_LVL_B | PIN_LVL_C | PIN_LVL_D | PIN_REARM_CNT | PIN_PMU_CTL | PIN_PMU_STAT
  | PIN_PMU_RES | PIN_TDC_CAL | PIN_TDC_SRC
deriving DecidableEq, Repr

/-- Access codes of R4. -/
inductive Acc where
  | ro | rw | wo | w1c | w1s | rc
deriving DecidableEq, Repr

/-- Reset levels of R7; L0 has the greatest reach. -/
inductive Lvl where
  | l0 | l1 | l2 | l3
deriving DecidableEq, Repr

/-- How a field's reset value is given: a number, 16 times the pod number (CAP_PART, CAP_PNEXT), or the
factory values of the fault sources (R491, R492). -/
inductive RstVal where
  | num (n : Nat) | sixteenN | fltFixed | fltReact | fltSev
deriving DecidableEq, Repr

/-- One field of a register table: its register, bits [hi:lo], access code, reset level, reset value. -/
structure Fld where
  reg : Reg
  hi : Nat
  lo : Nat
  acc : Acc
  lvl : Lvl
  rst : RstVal
deriving DecidableEq, Repr

/-- Width of a field in bits. -/
def Fld.width (f : Fld) : Nat := f.hi + 1 - f.lo

/-- Reach of a reset level as a number: a reset of level `a` resets a field of level `b` when
`a.reach ≤ b.reach` (R7). -/
def Lvl.reach : Lvl → Nat
  | .l0 => 0 | .l1 => 1 | .l2 => 2 | .l3 => 3

namespace F
/-- GLB_ID.PART, R1 (0x1024). -/
def GLB_ID_PART : Fld := ⟨.GLB_ID, 31, 16, .ro, .l0, .num 0x1024⟩
/-- GLB_ID.REV, R1 (0xB0). -/
def GLB_ID_REV : Fld := ⟨.GLB_ID, 15, 8, .ro, .l0, .num 176⟩
/-- GLB_ROLE.ANCHOR, R22 (strap). -/
def GLB_ROLE_ANCHOR : Fld := ⟨.GLB_ROLE, 31, 31, .ro, .l0, .num 0⟩
/-- GLB_ROLE.TMASTER, R22 (ANCHOR). -/
def GLB_ROLE_TMASTER : Fld := ⟨.GLB_ROLE, 30, 30, .ro, .l1, .num 0⟩
/-- GLB_ROLE.NUMV, R22 (ANCHOR). -/
def GLB_ROLE_NUMV : Fld := ⟨.GLB_ROLE, 29, 29, .ro, .l1, .num 0⟩
/-- GLB_ROLE.DEVNUM, R22 (0x00). -/
def GLB_ROLE_DEVNUM : Fld := ⟨.GLB_ROLE, 21, 16, .ro, .l1, .num 0⟩
/-- GLB_ROLE.POS_X, R22 (0). -/
def GLB_ROLE_POS_X : Fld := ⟨.GLB_ROLE, 14, 12, .ro, .l1, .num 0⟩
/-- GLB_ROLE.POS_Y, R22 (0). -/
def GLB_ROLE_POS_Y : Fld := ⟨.GLB_ROLE, 10, 8, .ro, .l1, .num 0⟩
/-- GLB_ROLE.DEVCOUNT, R22 (0x01). -/
def GLB_ROLE_DEVCOUNT : Fld := ⟨.GLB_ROLE, 6, 0, .ro, .l1, .num 1⟩
/-- GLB_UNITS.ECLK_LOCK, R11 (0). -/
def GLB_UNITS_ECLK_LOCK : Fld := ⟨.GLB_UNITS, 9, 9, .ro, .l1, .num 0⟩
/-- GLB_UNITS.XTAL_OK, R11 (0). -/
def GLB_UNITS_XTAL_OK : Fld := ⟨.GLB_UNITS, 8, 8, .ro, .l0, .num 0⟩
/-- GLB_UNITS.PD_POWERED, R11 (0x0). -/
def GLB_UNITS_PD_POWERED : Fld := ⟨.GLB_UNITS, 7, 4, .ro, .l1, .num 0⟩
/-- GLB_UNITS.PD_OK, R11 (0x0). -/
def GLB_UNITS_PD_OK : Fld := ⟨.GLB_UNITS, 3, 0, .ro, .l1, .num 0⟩
/-- GLB_SAFECODE.OTHER_DEF, R94 (0). -/
def GLB_SAFECODE_OTHER_DEF : Fld := ⟨.GLB_SAFECODE, 7, 1, .ro, .l0, .num 0⟩
/-- GLB_SAFECODE.PIN_DEF, R94 (0). -/
def GLB_SAFECODE_PIN_DEF : Fld := ⟨.GLB_SAFECODE, 0, 0, .ro, .l0, .num 0⟩
/-- RST_STAT.STAGE, R541 (0x0). -/
def RST_STAT_STAGE : Fld := ⟨.RST_STAT, 31, 28, .ro, .l0, .num 0⟩
/-- RST_STAT.LEVEL, R541 (0b00). -/
def RST_STAT_LEVEL : Fld := ⟨.RST_STAT, 27, 26, .ro, .l0, .num 0⟩
/-- RST_STAT.SRC, R541 (0b00_0001). -/
def RST_STAT_SRC : Fld := ⟨.RST_STAT, 25, 20, .ro, .l0, .num 1⟩
/-- RST_STAT.DEFER, R541 (0). -/
def RST_STAT_DEFER : Fld := ⟨.RST_STAT, 19, 19, .ro, .l0, .num 0⟩
/-- RST_STAT.ASSERT, R541 (1). -/
def RST_STAT_ASSERT : Fld := ⟨.RST_STAT, 18, 18, .ro, .l0, .num 1⟩
/-- RST_STAT.TRIES, R541 (0b00). -/
def RST_STAT_TRIES : Fld := ⟨.RST_STAT, 17, 16, .ro, .l0, .num 0⟩
/-- RST_STAT.STRAP, R541 (strap). -/
def RST_STAT_STRAP : Fld := ⟨.RST_STAT, 7, 0, .ro, .l0, .num 0⟩
/-- RST_CTL.WDFIRE, R541 (0). -/
def RST_CTL_WDFIRE : Fld := ⟨.RST_CTL, 31, 31, .wo, .l1, .num 0⟩
/-- RST_CTL.CONTINUE, R541 (0). -/
def RST_CTL_CONTINUE : Fld := ⟨.RST_CTL, 30, 30, .wo, .l0, .num 0⟩
/-- RST_CTL.LEVEL, R541 (0b01). -/
def RST_CTL_LEVEL : Fld := ⟨.RST_CTL, 29, 28, .rw, .l1, .num 1⟩
/-- RST_MAP.MAP, R541 (from OTP). -/
def RST_MAP_MAP : Fld := ⟨.RST_MAP, 11, 2, .ro, .l0, .num 0⟩
/-- RST_MAP.POR, R541 (0b00). -/
def RST_MAP_POR : Fld := ⟨.RST_MAP, 1, 0, .ro, .l0, .num 0⟩
/-- RST_NVSEL.NEWV, R541 (0). -/
def RST_NVSEL_NEWV : Fld := ⟨.RST_NVSEL, 31, 31, .ro, .l0, .num 0⟩
/-- RST_NVSEL.NEWACK, R541 (0). -/
def RST_NVSEL_NEWACK : Fld := ⟨.RST_NVSEL, 30, 30, .ro, .l0, .num 0⟩
/-- RST_NVSEL.NEWEST, R541 (0x00). -/
def RST_NVSEL_NEWEST : Fld := ⟨.RST_NVSEL, 29, 24, .ro, .l0, .num 0⟩
/-- RST_NVSEL.SLOT, R541 (0x00). -/
def RST_NVSEL_SLOT : Fld := ⟨.RST_NVSEL, 6, 0, .rw, .l0, .num 0⟩
/-- RST_NVACK.ACK, R541 (0). -/
def RST_NVACK_ACK : Fld := ⟨.RST_NVACK, 0, 0, .wo, .l0, .num 0⟩
/-- RST_NVREC.REC, R541 (no reset value). -/
def RST_NVREC_REC : Fld := ⟨.RST_NVREC, 31, 0, .ro, .l0, .num 0⟩
/-- TRUST_STAT.FWSRC, R542 (0b00). -/
def TRUST_STAT_FWSRC : Fld := ⟨.TRUST_STAT, 31, 30, .ro, .l1, .num 0⟩
/-- TRUST_STAT.KEYSLOT, R542 (0b00). -/
def TRUST_STAT_KEYSLOT : Fld := ⟨.TRUST_STAT, 29, 28, .ro, .l1, .num 0⟩
/-- TRUST_STAT.REVOKED, R542 (from OTP). -/
def TRUST_STAT_REVOKED : Fld := ⟨.TRUST_STAT, 27, 24, .ro, .l0, .num 0⟩
/-- TRUST_STAT.FWCNT, R542 (from OTP). -/
def TRUST_STAT_FWCNT : Fld := ⟨.TRUST_STAT, 23, 16, .ro, .l0, .num 0⟩
/-- TRUST_STAT.UCCNT, R542 (from OTP). -/
def TRUST_STAT_UCCNT : Fld := ⟨.TRUST_STAT, 15, 8, .ro, .l0, .num 0⟩
/-- TRUST_STAT.BUSY, R542 (0). -/
def TRUST_STAT_BUSY : Fld := ⟨.TRUST_STAT, 7, 7, .ro, .l1, .num 0⟩
/-- TRUST_STAT.MTPLOCK, R542 (0). -/
def TRUST_STAT_MTPLOCK : Fld := ⟨.TRUST_STAT, 6, 6, .w1s, .l1, .num 0⟩
/-- TRUST_FWID.IMG_ID, R542 (0x0000_0000). -/
def TRUST_FWID_IMG_ID : Fld := ⟨.TRUST_FWID, 31, 0, .ro, .l1, .num 0⟩
/-- TRUST_FWSVN.ROMVER, R542 (fixed). -/
def TRUST_FWSVN_ROMVER : Fld := ⟨.TRUST_FWSVN, 31, 16, .ro, .l0, .num 0⟩
/-- TRUST_FWSVN.SVN, R542 (0x0000). -/
def TRUST_FWSVN_SVN : Fld := ⟨.TRUST_FWSVN, 15, 0, .ro, .l1, .num 0⟩
/-- TRUST_CTL.OP, R542 (0b00). -/
def TRUST_CTL_OP : Fld := ⟨.TRUST_CTL, 31, 30, .wo, .l1, .num 0⟩
/-- TRUST_CTL.VALUE, R542 (0x00). -/
def TRUST_CTL_VALUE : Fld := ⟨.TRUST_CTL, 7, 0, .wo, .l1, .num 0⟩
/-- TRUST_RES.RESULT, R542 (0b000). -/
def TRUST_RES_RESULT : Fld := ⟨.TRUST_RES, 2, 0, .ro, .l1, .num 0⟩
/-- WT_NOW_LO.NOW_LO, R36 (0x0000_0000). -/
def WT_NOW_LO_NOW_LO : Fld := ⟨.WT_NOW_LO, 31, 0, .ro, .l0, .num 0⟩
/-- WT_NOW_HI.NOW_HI, R36 (0x0000_0000). -/
def WT_NOW_HI_NOW_HI : Fld := ⟨.WT_NOW_HI, 31, 0, .ro, .l0, .num 0⟩
/-- WT_EPOCH.EPOCH, R36 (0x0000). -/
def WT_EPOCH_EPOCH : Fld := ⟨.WT_EPOCH, 15, 0, .ro, .l0, .num 0⟩
/-- WT_CTL.MASTER_DEV, R41 (0x00). -/
def WT_CTL_MASTER_DEV : Fld := ⟨.WT_CTL, 21, 16, .rw, .l1, .num 0⟩
/-- WT_CTL.REFOUT_SEL, R41 (0). -/
def WT_CTL_REFOUT_SEL : Fld := ⟨.WT_CTL, 9, 9, .rw, .l1, .num 0⟩
/-- WT_CTL.REFOUT_EN, R41 (0). -/
def WT_CTL_REFOUT_EN : Fld := ⟨.WT_CTL, 8, 8, .rw, .l1, .num 0⟩
/-- WT_CTL.REF_SEL, R41 (0b00). -/
def WT_CTL_REF_SEL : Fld := ⟨.WT_CTL, 5, 4, .rw, .l1, .num 0⟩
/-- WT_XTAL.TCOMP_EN, R41 (1). -/
def WT_XTAL_TCOMP_EN : Fld := ⟨.WT_XTAL, 31, 31, .rw, .l0, .num 1⟩
/-- WT_XTAL.TCOMP, R41 (0x000). -/
def WT_XTAL_TCOMP : Fld := ⟨.WT_XTAL, 27, 16, .ro, .l0, .num 0⟩
/-- WT_XTAL.AGE, R41 (0x0000). -/
def WT_XTAL_AGE : Fld := ⟨.WT_XTAL, 15, 0, .rw, .l0, .num 0⟩
/-- WT_OFFSET.OFFSET, R47 (0x0000_0000). -/
def WT_OFFSET_OFFSET : Fld := ⟨.WT_OFFSET, 31, 0, .ro, .l1, .num 0⟩
/-- WT_STAT.MASTER, R47 (0x00). -/
def WT_STAT_MASTER : Fld := ⟨.WT_STAT, 21, 16, .ro, .l1, .num 0⟩
/-- WT_STAT.WRAP, R47 (0). -/
def WT_STAT_WRAP : Fld := ⟨.WT_STAT, 8, 8, .w1c, .l0, .num 0⟩
/-- WT_STAT.SNAP_BUSY, R47 (0). -/
def WT_STAT_SNAP_BUSY : Fld := ⟨.WT_STAT, 7, 7, .w1c, .l1, .num 0⟩
/-- WT_STAT.JUMPED, R47 (0). -/
def WT_STAT_JUMPED : Fld := ⟨.WT_STAT, 5, 5, .w1c, .l1, .num 0⟩
/-- WT_STAT.REF_LOST, R47 (0). -/
def WT_STAT_REF_LOST : Fld := ⟨.WT_STAT, 4, 4, .w1c, .l1, .num 0⟩
/-- WT_STAT.REF_OK, R47 (0). -/
def WT_STAT_REF_OK : Fld := ⟨.WT_STAT, 3, 3, .ro, .l1, .num 0⟩
/-- WT_STAT.SYNC, R47 (0b01 on a member; 0b00 on the master). -/
def WT_STAT_SYNC : Fld := ⟨.WT_STAT, 1, 0, .ro, .l1, .num 1⟩
/-- WT_WM.PERIOD, R55 (0x0A). -/
def WT_WM_PERIOD : Fld := ⟨.WT_WM, 15, 8, .rw, .l1, .num 10⟩
/-- WT_WM.EN, R55 (1). -/
def WT_WM_EN : Fld := ⟨.WT_WM, 0, 0, .rw, .l1, .num 1⟩
/-- WT_WM_LAST_LO.LAST_LO, R55 (0x0000_0000). -/
def WT_WM_LAST_LO_LAST_LO : Fld := ⟨.WT_WM_LAST_LO, 31, 0, .ro, .l1, .num 0⟩
/-- WT_WM_LAST_HI.LAST_HI, R55 (0x0000_0000). -/
def WT_WM_LAST_HI_LAST_HI : Fld := ⟨.WT_WM_LAST_HI, 31, 0, .ro, .l1, .num 0⟩
/-- WT_SNAP_TLO.TLO, R59 (0x0000_0000). -/
def WT_SNAP_TLO_TLO : Fld := ⟨.WT_SNAP_TLO, 31, 0, .rw, .l1, .num 0⟩
/-- WT_SNAP_THI.THI, R59 (0x0000_0000). -/
def WT_SNAP_THI_THI : Fld := ⟨.WT_SNAP_THI, 31, 0, .rw, .l1, .num 0⟩
/-- WT_SNAP_CTL.DISARM, R59 (0). -/
def WT_SNAP_CTL_DISARM : Fld := ⟨.WT_SNAP_CTL, 3, 3, .wo, .l1, .num 0⟩
/-- WT_SNAP_CTL.LATE, R59 (0). -/
def WT_SNAP_CTL_LATE : Fld := ⟨.WT_SNAP_CTL, 2, 2, .w1c, .l1, .num 0⟩
/-- WT_SNAP_CTL.DONE, R59 (0). -/
def WT_SNAP_CTL_DONE : Fld := ⟨.WT_SNAP_CTL, 1, 1, .w1c, .l1, .num 0⟩
/-- WT_SNAP_CTL.ARM, R59 (0). -/
def WT_SNAP_CTL_ARM : Fld := ⟨.WT_SNAP_CTL, 0, 0, .w1s, .l1, .num 0⟩
/-- WT_SNAP_ALO.ALO, R59 (0x0000_0000). -/
def WT_SNAP_ALO_ALO : Fld := ⟨.WT_SNAP_ALO, 31, 0, .ro, .l1, .num 0⟩
/-- WT_SNAP_AHI.AHI, R59 (0x0000_0000). -/
def WT_SNAP_AHI_AHI : Fld := ⟨.WT_SNAP_AHI, 31, 0, .ro, .l1, .num 0⟩
/-- MSIX_ADDR_LO.ADDR_LO, R408 (0). -/
def MSIX_ADDR_LO_ADDR_LO : Fld := ⟨.MSIX_ADDR_LO, 31, 0, .rw, .l1, .num 0⟩
/-- MSIX_ADDR_HI.ADDR_HI, R408 (0). -/
def MSIX_ADDR_HI_ADDR_HI : Fld := ⟨.MSIX_ADDR_HI, 31, 0, .rw, .l1, .num 0⟩
/-- MSIX_DATA.DATA, R408 (0). -/
def MSIX_DATA_DATA : Fld := ⟨.MSIX_DATA, 31, 0, .rw, .l1, .num 0⟩
/-- MSIX_CTL.MASK, R408 (1). -/
def MSIX_CTL_MASK : Fld := ⟨.MSIX_CTL, 0, 0, .rw, .l1, .num 1⟩
/-- QP_SQB_LO.BASE_LO, R408 (0x0_0000). -/
def QP_SQB_LO_BASE_LO : Fld := ⟨.QP_SQB_LO, 31, 12, .rw, .l2, .num 0⟩
/-- QP_SQB_HI.BASE_HI, R408 (0x0000_0000). -/
def QP_SQB_HI_BASE_HI : Fld := ⟨.QP_SQB_HI, 31, 0, .rw, .l2, .num 0⟩
/-- QP_CQB_LO.BASE_LO, R408 (0x0_0000). -/
def QP_CQB_LO_BASE_LO : Fld := ⟨.QP_CQB_LO, 31, 12, .rw, .l2, .num 0⟩
/-- QP_CQB_HI.BASE_HI, R408 (0x0000_0000). -/
def QP_CQB_HI_BASE_HI : Fld := ⟨.QP_CQB_HI, 31, 0, .rw, .l2, .num 0⟩
/-- QP_CFG.EN, R408 (0). -/
def QP_CFG_EN : Fld := ⟨.QP_CFG, 31, 31, .rw, .l2, .num 0⟩
/-- QP_CFG.FRES, R408 (0). -/
def QP_CFG_FRES : Fld := ⟨.QP_CFG, 30, 30, .rw, .l2, .num 0⟩
/-- QP_CFG.PRIO, R408 (0b000). -/
def QP_CFG_PRIO : Fld := ⟨.QP_CFG, 29, 27, .rw, .l2, .num 0⟩
/-- QP_CFG.ASID, R408 (0x00). -/
def QP_CFG_ASID : Fld := ⟨.QP_CFG, 23, 16, .rw, .l2, .num 0⟩
/-- QP_CFG.LAT, R408 (0x00). -/
def QP_CFG_LAT : Fld := ⟨.QP_CFG, 15, 8, .rw, .l2, .num 0⟩
/-- QP_CFG.SQSZ, R408 (0x0). -/
def QP_CFG_SQSZ : Fld := ⟨.QP_CFG, 7, 4, .rw, .l2, .num 0⟩
/-- QP_CFG.CQSZ, R408 (0x0). -/
def QP_CFG_CQSZ : Fld := ⟨.QP_CFG, 3, 0, .rw, .l2, .num 0⟩
/-- QP_IRQ.IEN, R408 (0). -/
def QP_IRQ_IEN : Fld := ⟨.QP_IRQ, 31, 31, .rw, .l2, .num 0⟩
/-- QP_IRQ.VEC, R408 (0x00). -/
def QP_IRQ_VEC : Fld := ⟨.QP_IRQ, 27, 20, .rw, .l2, .num 0⟩
/-- QP_IRQ.CNT, R408 (0x00). -/
def QP_IRQ_CNT : Fld := ⟨.QP_IRQ, 19, 12, .rw, .l2, .num 0⟩
/-- QP_IRQ.TIME, R408 (0x000). -/
def QP_IRQ_TIME : Fld := ⟨.QP_IRQ, 11, 0, .rw, .l2, .num 0⟩
/-- QP_HEAD.CQ_TAIL, R408 (0x0000). -/
def QP_HEAD_CQ_TAIL : Fld := ⟨.QP_HEAD, 31, 16, .ro, .l2, .num 0⟩
/-- QP_HEAD.SQ_HEAD, R408 (0x0000). -/
def QP_HEAD_SQ_HEAD : Fld := ⟨.QP_HEAD, 15, 0, .ro, .l2, .num 0⟩
/-- QP_STAT.STATE, R408 (0b000). -/
def QP_STAT_STATE : Fld := ⟨.QP_STAT, 31, 29, .ro, .l2, .num 0⟩
/-- QP_STAT.DBERR, R408 (0). -/
def QP_STAT_DBERR : Fld := ⟨.QP_STAT, 28, 28, .w1c, .l2, .num 0⟩
/-- QP_STAT.CQERR, R408 (0). -/
def QP_STAT_CQERR : Fld := ⟨.QP_STAT, 27, 27, .w1c, .l2, .num 0⟩
/-- QP_STAT.CFGBUSY, R408 (0). -/
def QP_STAT_CFGBUSY : Fld := ⟨.QP_STAT, 26, 26, .w1c, .l2, .num 0⟩
/-- QP_STAT.XFLT, R408 (0). -/
def QP_STAT_XFLT : Fld := ⟨.QP_STAT, 25, 25, .ro, .l2, .num 0⟩
/-- QP_STAT.PRE, R408 (0). -/
def QP_STAT_PRE : Fld := ⟨.QP_STAT, 24, 24, .ro, .l2, .num 0⟩
/-- QP_STAT.INFL, R408 (0). -/
def QP_STAT_INFL : Fld := ⟨.QP_STAT, 20, 16, .ro, .l2, .num 0⟩
/-- QP_STAT.DBTAIL, R408 (0x0000). -/
def QP_STAT_DBTAIL : Fld := ⟨.QP_STAT, 15, 0, .ro, .l2, .num 0⟩
/-- EVR_BASE_LO.BASE_LO, R408 (0x0_0000). -/
def EVR_BASE_LO_BASE_LO : Fld := ⟨.EVR_BASE_LO, 31, 12, .rw, .l2, .num 0⟩
/-- EVR_BASE_HI.BASE_HI, R408 (0x0000_0000). -/
def EVR_BASE_HI_BASE_HI : Fld := ⟨.EVR_BASE_HI, 31, 0, .rw, .l2, .num 0⟩
/-- EVR_CFG.EN, R408 (0). -/
def EVR_CFG_EN : Fld := ⟨.EVR_CFG, 31, 31, .rw, .l2, .num 0⟩
/-- EVR_CFG.ASID, R408 (0x00). -/
def EVR_CFG_ASID : Fld := ⟨.EVR_CFG, 23, 16, .rw, .l2, .num 0⟩
/-- EVR_CFG.SZ, R408 (0x0). -/
def EVR_CFG_SZ : Fld := ⟨.EVR_CFG, 3, 0, .rw, .l2, .num 0⟩
/-- EVR_IRQ.IEN, R408 (0). -/
def EVR_IRQ_IEN : Fld := ⟨.EVR_IRQ, 31, 31, .rw, .l2, .num 0⟩
/-- EVR_IRQ.VEC, R408 (0x00). -/
def EVR_IRQ_VEC : Fld := ⟨.EVR_IRQ, 27, 20, .rw, .l2, .num 0⟩
/-- EVR_IRQ.CNT, R408 (0x00). -/
def EVR_IRQ_CNT : Fld := ⟨.EVR_IRQ, 19, 12, .rw, .l2, .num 0⟩
/-- EVR_IRQ.TIME, R408 (0x000). -/
def EVR_IRQ_TIME : Fld := ⟨.EVR_IRQ, 11, 0, .rw, .l2, .num 0⟩
/-- EVR_TAIL.WRAP, R408 (0). -/
def EVR_TAIL_WRAP : Fld := ⟨.EVR_TAIL, 16, 16, .ro, .l2, .num 0⟩
/-- EVR_TAIL.TAIL, R408 (0x0000). -/
def EVR_TAIL_TAIL : Fld := ⟨.EVR_TAIL, 15, 0, .ro, .l2, .num 0⟩
/-- EVR_STAT.OVF, R408 (0). -/
def EVR_STAT_OVF : Fld := ⟨.EVR_STAT, 31, 31, .w1c, .l2, .num 0⟩
/-- EVR_STAT.HDERR, R408 (0). -/
def EVR_STAT_HDERR : Fld := ⟨.EVR_STAT, 30, 30, .w1c, .l2, .num 0⟩
/-- EVR_STAT.XFLT, R408 (0). -/
def EVR_STAT_XFLT : Fld := ⟨.EVR_STAT, 29, 29, .ro, .l2, .num 0⟩
/-- EVR_STAT.KEPT, R408 (0). -/
def EVR_STAT_KEPT : Fld := ⟨.EVR_STAT, 8, 0, .ro, .l2, .num 0⟩
/-- EVR_LOST.LOST, R408 (0x0000_0000). -/
def EVR_LOST_LOST : Fld := ⟨.EVR_LOST, 31, 0, .rc, .l2, .num 0⟩
/-- MSIX_PBA.PBA, R408 (0). -/
def MSIX_PBA_PBA : Fld := ⟨.MSIX_PBA, 31, 0, .ro, .l1, .num 0⟩
/-- HQ_GEN.GEN, R408 (0x0000_0000). -/
def HQ_GEN_GEN : Fld := ⟨.HQ_GEN, 31, 0, .ro, .l0, .num 0⟩
/-- HQ_QCTL.OP, R408 (0b00). -/
def HQ_QCTL_OP : Fld := ⟨.HQ_QCTL, 31, 30, .wo, .l2, .num 0⟩
/-- HQ_QCTL.QP, R408 (0x00). -/
def HQ_QCTL_QP : Fld := ⟨.HQ_QCTL, 5, 0, .wo, .l2, .num 0⟩
/-- HQ_LINK.WIDTH, R408 (0x0). -/
def HQ_LINK_WIDTH : Fld := ⟨.HQ_LINK, 7, 4, .ro, .l1, .num 0⟩
/-- HQ_LINK.SPEED, R408 (0x0). -/
def HQ_LINK_SPEED : Fld := ⟨.HQ_LINK, 3, 0, .ro, .l1, .num 0⟩
/-- MMU_CFG.FVEC, R433 (0x00). -/
def MMU_CFG_FVEC : Fld := ⟨.MMU_CFG, 31, 24, .rw, .l1, .num 0⟩
/-- MMU_CFG.FIEN, R433 (0). -/
def MMU_CFG_FIEN : Fld := ⟨.MMU_CFG, 23, 23, .rw, .l1, .num 0⟩
/-- MMU_CFG.FTMO, R433 (0x0000). -/
def MMU_CFG_FTMO : Fld := ⟨.MMU_CFG, 15, 0, .rw, .l1, .num 0⟩
/-- MMU_STAT.FTO, R433 (0). -/
def MMU_STAT_FTO : Fld := ⟨.MMU_STAT, 7, 7, .w1c, .l2, .num 0⟩
/-- MMU_STAT.FRBAD, R433 (0). -/
def MMU_STAT_FRBAD : Fld := ⟨.MMU_STAT, 6, 6, .w1c, .l2, .num 0⟩
/-- MMU_STAT.INVBUSY, R433 (0). -/
def MMU_STAT_INVBUSY : Fld := ⟨.MMU_STAT, 5, 5, .w1c, .l2, .num 0⟩
/-- MMU_STAT.OPEN, R433 (0). -/
def MMU_STAT_OPEN : Fld := ⟨.MMU_STAT, 4, 0, .ro, .l2, .num 0⟩
/-- MMU_INV.OP, R433 (0b00). -/
def MMU_INV_OP : Fld := ⟨.MMU_INV, 31, 30, .wo, .l2, .num 0⟩
/-- MMU_INV.BUSY, R433 (0). -/
def MMU_INV_BUSY : Fld := ⟨.MMU_INV, 29, 29, .ro, .l2, .num 0⟩
/-- MMU_INV.ASID, R433 (0x00). -/
def MMU_INV_ASID : Fld := ⟨.MMU_INV, 7, 0, .rw, .l2, .num 0⟩
/-- MMU_INV_ALO.ALO, R433 (0x0_0000). -/
def MMU_INV_ALO_ALO : Fld := ⟨.MMU_INV_ALO, 31, 12, .rw, .l2, .num 0⟩
/-- MMU_INV_AHI.AHI, R433 (0x0000). -/
def MMU_INV_AHI_AHI : Fld := ⟨.MMU_INV_AHI, 15, 0, .rw, .l2, .num 0⟩
/-- MMU_INV_NPG.NPG, R433 (0x0000_0001). -/
def MMU_INV_NPG_NPG : Fld := ⟨.MMU_INV_NPG, 31, 0, .rw, .l2, .num 1⟩
/-- MMU_FRESUME.ACTION, R433 (0b00). -/
def MMU_FRESUME_ACTION : Fld := ⟨.MMU_FRESUME, 31, 30, .wo, .l2, .num 0⟩
/-- MMU_FRESUME.GEN, R433 (0x00). -/
def MMU_FRESUME_GEN : Fld := ⟨.MMU_FRESUME, 15, 8, .wo, .l2, .num 0⟩
/-- MMU_FRESUME.SLOT, R433 (0x0). -/
def MMU_FRESUME_SLOT : Fld := ⟨.MMU_FRESUME, 3, 0, .wo, .l2, .num 0⟩
/-- MMU_FIDX.NEXT, R433 (0x0). -/
def MMU_FIDX_NEXT : Fld := ⟨.MMU_FIDX, 3, 0, .ro, .l2, .num 0⟩
/-- MMU_FLOG0.STATE, R433 (0b00). -/
def MMU_FLOG0_STATE : Fld := ⟨.MMU_FLOG0, 31, 30, .ro, .l2, .num 0⟩
/-- MMU_FLOG0.GEN, R433 (0x00). -/
def MMU_FLOG0_GEN : Fld := ⟨.MMU_FLOG0, 29, 22, .ro, .l2, .num 0⟩
/-- MMU_FLOG0.QP, R433 (0x00). -/
def MMU_FLOG0_QP : Fld := ⟨.MMU_FLOG0, 21, 16, .ro, .l2, .num 0⟩
/-- MMU_FLOG0.ORIGIN, R433 (0b000). -/
def MMU_FLOG0_ORIGIN : Fld := ⟨.MMU_FLOG0, 15, 13, .ro, .l2, .num 0⟩
/-- MMU_FLOG0.EVR, R433 (0b000). -/
def MMU_FLOG0_EVR : Fld := ⟨.MMU_FLOG0, 12, 10, .ro, .l2, .num 0⟩
/-- MMU_FLOG0.WRITE, R433 (0). -/
def MMU_FLOG0_WRITE : Fld := ⟨.MMU_FLOG0, 5, 5, .ro, .l2, .num 0⟩
/-- MMU_FLOG0.FRES, R433 (0). -/
def MMU_FLOG0_FRES : Fld := ⟨.MMU_FLOG0, 4, 4, .ro, .l2, .num 0⟩
/-- MMU_FLOG0.CAUSE, R433 (0x0). -/
def MMU_FLOG0_CAUSE : Fld := ⟨.MMU_FLOG0, 3, 0, .ro, .l2, .num 0⟩
/-- MMU_FLOG1.CID, R433 (0x0000). -/
def MMU_FLOG1_CID : Fld := ⟨.MMU_FLOG1, 31, 16, .ro, .l2, .num 0⟩
/-- MMU_FLOG1.OPC, R433 (0x00). -/
def MMU_FLOG1_OPC : Fld := ⟨.MMU_FLOG1, 15, 8, .ro, .l2, .num 0⟩
/-- MMU_FLOG1.ASID, R433 (0x00). -/
def MMU_FLOG1_ASID : Fld := ⟨.MMU_FLOG1, 7, 0, .ro, .l2, .num 0⟩
/-- MMU_FLOG2.ADDR_LO, R433 (0x0000_0000). -/
def MMU_FLOG2_ADDR_LO : Fld := ⟨.MMU_FLOG2, 31, 0, .ro, .l2, .num 0⟩
/-- MMU_FLOG3.ADDR_HI, R433 (0x0000_0000). -/
def MMU_FLOG3_ADDR_HI : Fld := ⟨.MMU_FLOG3, 31, 0, .ro, .l2, .num 0⟩
/-- MMU_FLOG4.STAMP_LO, R433 (0x0000_0000). -/
def MMU_FLOG4_STAMP_LO : Fld := ⟨.MMU_FLOG4, 31, 0, .ro, .l2, .num 0⟩
/-- MMU_FLOG5.STAMP_HI, R433 (0x0000_0000). -/
def MMU_FLOG5_STAMP_HI : Fld := ⟨.MMU_FLOG5, 31, 0, .ro, .l2, .num 0⟩
/-- MMU_FLOG6.PROG, R433 (0x0000_0000). -/
def MMU_FLOG6_PROG : Fld := ⟨.MMU_FLOG6, 31, 0, .ro, .l2, .num 0⟩
/-- PRE_CTL.OP, R433 (0b00). -/
def PRE_CTL_OP : Fld := ⟨.PRE_CTL, 31, 30, .wo, .l2, .num 0⟩
/-- PRE_CTL.QP, R433 (0x00). -/
def PRE_CTL_QP : Fld := ⟨.PRE_CTL, 5, 0, .wo, .l2, .num 0⟩
/-- PRE_TLO.TLO, R433 (0x0000_0000). -/
def PRE_TLO_TLO : Fld := ⟨.PRE_TLO, 31, 0, .rw, .l2, .num 0⟩
/-- PRE_THI.THI, R433 (0x0000_0000). -/
def PRE_THI_THI : Fld := ⟨.PRE_THI, 31, 0, .rw, .l2, .num 0⟩
/-- PRE_STAT.RLATE, R433 (0). -/
def PRE_STAT_RLATE : Fld := ⟨.PRE_STAT, 1, 1, .w1c, .l2, .num 0⟩
/-- PRE_STAT.PBAD, R433 (0). -/
def PRE_STAT_PBAD : Fld := ⟨.PRE_STAT, 0, 0, .w1c, .l2, .num 0⟩
/-- PRE_PEND_LO.PEND_LO, R433 (0x0000_0000). -/
def PRE_PEND_LO_PEND_LO : Fld := ⟨.PRE_PEND_LO, 31, 0, .ro, .l2, .num 0⟩
/-- PRE_PEND_HI.PEND_HI, R433 (0x0000_0000). -/
def PRE_PEND_HI_PEND_HI : Fld := ⟨.PRE_PEND_HI, 31, 0, .ro, .l2, .num 0⟩
/-- PRE_YIELD.YIELD, R433 (0x0000_0000). -/
def PRE_YIELD_YIELD : Fld := ⟨.PRE_YIELD, 31, 0, .rc, .l2, .num 0⟩
/-- MMU_ROOT_LO.BASE_LO, R433 (0x0_0000). -/
def MMU_ROOT_LO_BASE_LO : Fld := ⟨.MMU_ROOT_LO, 31, 12, .rw, .l1, .num 0⟩
/-- MMU_ROOT_LO.BYPASS, R433 (0). -/
def MMU_ROOT_LO_BYPASS : Fld := ⟨.MMU_ROOT_LO, 1, 1, .rw, .l1, .num 0⟩
/-- MMU_ROOT_LO.V, R433 (0). -/
def MMU_ROOT_LO_V : Fld := ⟨.MMU_ROOT_LO, 0, 0, .rw, .l1, .num 0⟩
/-- MMU_ROOT_HI.BASE_HI, R433 (0x0_0000). -/
def MMU_ROOT_HI_BASE_HI : Fld := ⟨.MMU_ROOT_HI, 19, 0, .rw, .l1, .num 0⟩
/-- FAB_CFG.AUTODISC, R465 (1). -/
def FAB_CFG_AUTODISC : Fld := ⟨.FAB_CFG, 31, 31, .rw, .l1, .num 1⟩
/-- FAB_CFG.HBPER, R465 (0x0A). -/
def FAB_CFG_HBPER : Fld := ⟨.FAB_CFG, 27, 20, .rw, .l1, .num 10⟩
/-- FAB_CFG.LOSTN, R465 (0x4). -/
def FAB_CFG_LOSTN : Fld := ⟨.FAB_CFG, 19, 16, .rw, .l1, .num 4⟩
/-- FAB_CFG.ISOTMO, R465 (0x064). -/
def FAB_CFG_ISOTMO : Fld := ⟨.FAB_CFG, 11, 0, .rw, .l1, .num 100⟩
/-- FAB_STAT.ISOLATED, R465 (0). -/
def FAB_STAT_ISOLATED : Fld := ⟨.FAB_STAT, 31, 31, .ro, .l1, .num 0⟩
/-- FAB_STAT.SEQGAP, R465 (0). -/
def FAB_STAT_SEQGAP : Fld := ⟨.FAB_STAT, 30, 30, .w1c, .l1, .num 0⟩
/-- FAB_STAT.ORD, R465 (0). -/
def FAB_STAT_ORD : Fld := ⟨.FAB_STAT, 29, 29, .ro, .l1, .num 0⟩
/-- FAB_STAT.UPPORT, R465 (0b00). -/
def FAB_STAT_UPPORT : Fld := ⟨.FAB_STAT, 28, 27, .ro, .l1, .num 0⟩
/-- FAB_STAT.UPV, R465 (0). -/
def FAB_STAT_UPV : Fld := ⟨.FAB_STAT, 26, 26, .ro, .l1, .num 0⟩
/-- FAB_STAT.BHOPS, R465 (0x0). -/
def FAB_STAT_BHOPS : Fld := ⟨.FAB_STAT, 25, 22, .ro, .l1, .num 0⟩
/-- FAB_DCTL.OP, R465 (0b00). -/
def FAB_DCTL_OP : Fld := ⟨.FAB_DCTL, 31, 30, .wo, .l1, .num 0⟩
/-- FAB_DCTL.DEV, R465 (0x00). -/
def FAB_DCTL_DEV : Fld := ⟨.FAB_DCTL, 5, 0, .wo, .l1, .num 0⟩
/-- FAB_DSTAT.RESULT, R465 (0x0). -/
def FAB_DSTAT_RESULT : Fld := ⟨.FAB_DSTAT, 31, 28, .ro, .l1, .num 0⟩
/-- FAB_DSTAT.FOUND, R465 (0). -/
def FAB_DSTAT_FOUND : Fld := ⟨.FAB_DSTAT, 27, 22, .ro, .l1, .num 0⟩
/-- FAB_DSTAT.ERRPORT, R465 (0b00). -/
def FAB_DSTAT_ERRPORT : Fld := ⟨.FAB_DSTAT, 7, 6, .ro, .l1, .num 0⟩
/-- FAB_DSTAT.ERRX, R465 (0). -/
def FAB_DSTAT_ERRX : Fld := ⟨.FAB_DSTAT, 13, 11, .ro, .l1, .num 0⟩
/-- FAB_DSTAT.ERRY, R465 (0). -/
def FAB_DSTAT_ERRY : Fld := ⟨.FAB_DSTAT, 10, 8, .ro, .l1, .num 0⟩
/-- FAB_EXT.WM1, R465 (0). -/
def FAB_EXT_WM1 : Fld := ⟨.FAB_EXT, 31, 29, .ro, .l1, .num 0⟩
/-- FAB_EXT.HM1, R465 (0). -/
def FAB_EXT_HM1 : Fld := ⟨.FAB_EXT, 28, 26, .ro, .l1, .num 0⟩
/-- FAB_EXT.AX, R465 (0). -/
def FAB_EXT_AX : Fld := ⟨.FAB_EXT, 25, 23, .ro, .l1, .num 0⟩
/-- FAB_EXT.AY, R465 (0). -/
def FAB_EXT_AY : Fld := ⟨.FAB_EXT, 22, 20, .ro, .l1, .num 0⟩
/-- FAB_EXT.MX, R465 (0). -/
def FAB_EXT_MX : Fld := ⟨.FAB_EXT, 19, 17, .ro, .l1, .num 0⟩
/-- FAB_EXT.MY, R465 (0). -/
def FAB_EXT_MY : Fld := ⟨.FAB_EXT, 16, 14, .ro, .l1, .num 0⟩
/-- FAB_PRES_LO.PRES, R465 (0x1). -/
def FAB_PRES_LO_PRES : Fld := ⟨.FAB_PRES_LO, 31, 0, .ro, .l1, .num 1⟩
/-- FAB_PRES_HI.PRES, R465 (0). -/
def FAB_PRES_HI_PRES : Fld := ⟨.FAB_PRES_HI, 31, 0, .ro, .l1, .num 0⟩
/-- FAB_LOST_LO.LOST, R465 (0). -/
def FAB_LOST_LO_LOST : Fld := ⟨.FAB_LOST_LO, 31, 0, .ro, .l1, .num 0⟩
/-- FAB_LOST_HI.LOST, R465 (0). -/
def FAB_LOST_HI_LOST : Fld := ⟨.FAB_LOST_HI, 31, 0, .ro, .l1, .num 0⟩
/-- FAB_ORDER_LO.ORDER, R465 (0). -/
def FAB_ORDER_LO_ORDER : Fld := ⟨.FAB_ORDER_LO, 31, 0, .ro, .l1, .num 0⟩
/-- FAB_ORDER_HI.ORDER, R465 (0). -/
def FAB_ORDER_HI_ORDER : Fld := ⟨.FAB_ORDER_HI, 31, 0, .ro, .l1, .num 0⟩
/-- FAB_ARB.W3, R465 (0x1). -/
def FAB_ARB_W3 : Fld := ⟨.FAB_ARB, 7, 4, .rw, .l1, .num 1⟩
/-- FAB_ARB.W2, R465 (0x3). -/
def FAB_ARB_W2 : Fld := ⟨.FAB_ARB, 3, 0, .rw, .l1, .num 3⟩
/-- FAB_DROP.DROP, R465 (0x0000_0000). -/
def FAB_DROP_DROP : Fld := ⟨.FAB_DROP, 31, 0, .rc, .l1, .num 0⟩
/-- FAB_UID_LO.UID, R465 (from OTP). -/
def FAB_UID_LO_UID : Fld := ⟨.FAB_UID_LO, 31, 0, .ro, .l0, .num 0⟩
/-- FAB_UID_HI.UID, R465 (from OTP). -/
def FAB_UID_HI_UID : Fld := ⟨.FAB_UID_HI, 31, 0, .ro, .l0, .num 0⟩
/-- FAB_PCTL.DISABLE, R466 (0). -/
def FAB_PCTL_DISABLE : Fld := ⟨.FAB_PCTL, 31, 31, .rw, .l1, .num 0⟩
/-- FAB_PCTL.RETRAIN, R466 (0). -/
def FAB_PCTL_RETRAIN : Fld := ⟨.FAB_PCTL, 30, 30, .wo, .l1, .num 0⟩
/-- FAB_PCTL.UNFENCE, R466 (0). -/
def FAB_PCTL_UNFENCE : Fld := ⟨.FAB_PCTL, 29, 29, .wo, .l1, .num 0⟩
/-- FAB_PCTL.MAXW, R466 (0b00). -/
def FAB_PCTL_MAXW : Fld := ⟨.FAB_PCTL, 28, 27, .rw, .l1, .num 0⟩
/-- FAB_PSTAT.STATE, R466 (0x0). -/
def FAB_PSTAT_STATE : Fld := ⟨.FAB_PSTAT, 31, 28, .ro, .l1, .num 0⟩
/-- FAB_PSTAT.WIDTH, R466 (0b00). -/
def FAB_PSTAT_WIDTH : Fld := ⟨.FAB_PSTAT, 27, 26, .ro, .l1, .num 0⟩
/-- FAB_PSTAT.LATV, R466 (0). -/
def FAB_PSTAT_LATV : Fld := ⟨.FAB_PSTAT, 25, 25, .ro, .l1, .num 0⟩
/-- FAB_PSTAT.LATBAD, R466 (0). -/
def FAB_PSTAT_LATBAD : Fld := ⟨.FAB_PSTAT, 24, 24, .w1c, .l1, .num 0⟩
/-- FAB_PSTAT.PEERV, R466 (0). -/
def FAB_PSTAT_PEERV : Fld := ⟨.FAB_PSTAT, 23, 23, .ro, .l1, .num 0⟩
/-- FAB_PSTAT.PEERPORT, R466 (0b00). -/
def FAB_PSTAT_PEERPORT : Fld := ⟨.FAB_PSTAT, 22, 21, .ro, .l1, .num 0⟩
/-- FAB_PSTAT.PEERDEV, R466 (0x00). -/
def FAB_PSTAT_PEERDEV : Fld := ⟨.FAB_PSTAT, 20, 15, .ro, .l1, .num 0⟩
/-- FAB_PSTAT.SPREAD, R466 (0x0000). -/
def FAB_PSTAT_SPREAD : Fld := ⟨.FAB_PSTAT, 14, 0, .ro, .l1, .num 0⟩
/-- FAB_PLAT.INLAT, R466 (0x0000_0000). -/
def FAB_PLAT_INLAT : Fld := ⟨.FAB_PLAT, 31, 0, .ro, .l1, .num 0⟩
/-- FAB_PASYM.PASYM, R466 (0x0000). -/
def FAB_PASYM_PASYM : Fld := ⟨.FAB_PASYM, 15, 0, .rw, .l1, .num 0⟩
/-- FAB_PERR.CRC, R466 (0x0000). -/
def FAB_PERR_CRC : Fld := ⟨.FAB_PERR, 31, 16, .rc, .l1, .num 0⟩
/-- FAB_PERR.REPLAY, R466 (0x0000). -/
def FAB_PERR_REPLAY : Fld := ⟨.FAB_PERR, 15, 0, .rc, .l1, .num 0⟩
/-- FAB_PTRIM.DTRIM, R466 (from OTP). -/
def FAB_PTRIM_DTRIM : Fld := ⟨.FAB_PTRIM, 15, 0, .ro, .l0, .num 0⟩
/-- FAB_DETOUR.V, R466 (0). -/
def FAB_DETOUR_V : Fld := ⟨.FAB_DETOUR, 31, 31, .rw, .l1, .num 0⟩
/-- FAB_DETOUR.PORT, R466 (0b00). -/
def FAB_DETOUR_PORT : Fld := ⟨.FAB_DETOUR, 18, 17, .rw, .l1, .num 0⟩
/-- FAB_DETOUR.FLIP, R466 (0). -/
def FAB_DETOUR_FLIP : Fld := ⟨.FAB_DETOUR, 16, 16, .rw, .l1, .num 0⟩
/-- FAB_DETOUR.TCM, R466 (0x0). -/
def FAB_DETOUR_TCM : Fld := ⟨.FAB_DETOUR, 11, 8, .rw, .l1, .num 0⟩
/-- FAB_DETOUR.XLO, R466 (0). -/
def FAB_DETOUR_XLO : Fld := ⟨.FAB_DETOUR, 30, 28, .rw, .l1, .num 0⟩
/-- FAB_DETOUR.XHI, R466 (0). -/
def FAB_DETOUR_XHI : Fld := ⟨.FAB_DETOUR, 27, 25, .rw, .l1, .num 0⟩
/-- FAB_DETOUR.YLO, R466 (0). -/
def FAB_DETOUR_YLO : Fld := ⟨.FAB_DETOUR, 24, 22, .rw, .l1, .num 0⟩
/-- FAB_DETOUR.YHI, R466 (0). -/
def FAB_DETOUR_YHI : Fld := ⟨.FAB_DETOUR, 21, 19, .rw, .l1, .num 0⟩
/-- PWR_CTL.WAKEN_EN, R488 (1). -/
def PWR_CTL_WAKEN_EN : Fld := ⟨.PWR_CTL, 11, 11, .rw, .l1, .num 1⟩
/-- PWR_CTL.MAXDEPTH, R488 (0b100). -/
def PWR_CTL_MAXDEPTH : Fld := ⟨.PWR_CTL, 10, 8, .rw, .l1, .num 4⟩
/-- PWR_CTL.DWELL, R488 (0x0A). -/
def PWR_CTL_DWELL : Fld := ⟨.PWR_CTL, 7, 0, .rw, .l1, .num 10⟩
/-- PWR_STAT.STATE, R488 (0b000). -/
def PWR_STAT_STATE : Fld := ⟨.PWR_STAT, 31, 29, .ro, .l1, .num 0⟩
/-- PWR_STAT.TARGET, R488 (0b000). -/
def PWR_STAT_TARGET : Fld := ⟨.PWR_STAT, 28, 26, .ro, .l1, .num 0⟩
/-- PWR_STAT.TOL, R488 (0x00). -/
def PWR_STAT_TOL : Fld := ⟨.PWR_STAT, 25, 18, .ro, .l1, .num 0⟩
/-- PWR_STAT.HOLD, R488 (0x0). -/
def PWR_STAT_HOLD : Fld := ⟨.PWR_STAT, 17, 14, .ro, .l1, .num 0⟩
/-- PWR_WAKE.CAUSE, R488 (0x00). -/
def PWR_WAKE_CAUSE : Fld := ⟨.PWR_WAKE, 7, 0, .w1c, .l1, .num 0⟩
/-- PWR_BUDGET.SITEW, R488 (0x0000). -/
def PWR_BUDGET_SITEW : Fld := ⟨.PWR_BUDGET, 31, 16, .rw, .l1, .num 0⟩
/-- PWR_BUDGET.BUDGET, R488 (0x1D4C). -/
def PWR_BUDGET_BUDGET : Fld := ⟨.PWR_BUDGET, 15, 0, .rw, .l1, .num 0x1d4c⟩
/-- PWR_EST.PEAK, R488 (0x0000). -/
def PWR_EST_PEAK : Fld := ⟨.PWR_EST, 31, 16, .rc, .l1, .num 0⟩
/-- PWR_EST.EST, R488 (0x0000). -/
def PWR_EST_EST : Fld := ⟨.PWR_EST, 15, 0, .ro, .l1, .num 0⟩
/-- PWR_GSTAT.REFUSED, R488 (0). -/
def PWR_GSTAT_REFUSED : Fld := ⟨.PWR_GSTAT, 1, 1, .w1c, .l1, .num 0⟩
/-- PWR_GSTAT.OVER, R488 (0). -/
def PWR_GSTAT_OVER : Fld := ⟨.PWR_GSTAT, 0, 0, .w1c, .l1, .num 0⟩
/-- THM_T.VALID, R488 (0). -/
def THM_T_VALID : Fld := ⟨.THM_T, 31, 31, .ro, .l0, .num 0⟩
/-- THM_T.RATE, R488 (0x00). -/
def THM_T_RATE : Fld := ⟨.THM_T, 23, 16, .ro, .l0, .num 0⟩
/-- THM_T.TEMP, R488 (0x0000). -/
def THM_T_TEMP : Fld := ⟨.THM_T, 15, 0, .ro, .l0, .num 0⟩
/-- THM_THR.SHUT, R488 (0x70). -/
def THM_THR_SHUT : Fld := ⟨.THM_THR, 31, 24, .rw, .l0, .num 112⟩
/-- THM_THR.CRIT, R488 (0x6A). -/
def THM_THR_CRIT : Fld := ⟨.THM_THR, 23, 16, .rw, .l0, .num 106⟩
/-- THM_THR.HOT, R488 (0x64). -/
def THM_THR_HOT : Fld := ⟨.THM_THR, 15, 8, .rw, .l0, .num 100⟩
/-- THM_THR.WARN, R488 (0x5A). -/
def THM_THR_WARN : Fld := ⟨.THM_THR, 7, 0, .rw, .l0, .num 90⟩
/-- THM_CFG.RATE, R488 (0x14). -/
def THM_CFG_RATE : Fld := ⟨.THM_CFG, 31, 24, .rw, .l0, .num 20⟩
/-- THM_CFG.HYST, R488 (0x3). -/
def THM_CFG_HYST : Fld := ⟨.THM_CFG, 23, 20, .rw, .l0, .num 3⟩
/-- THM_CFG.MARGIN, R488 (0x0A). -/
def THM_CFG_MARGIN : Fld := ⟨.THM_CFG, 19, 12, .rw, .l0, .num 10⟩
/-- THM_CFG.XCHK, R488 (0x14). -/
def THM_CFG_XCHK : Fld := ⟨.THM_CFG, 11, 4, .rw, .l0, .num 20⟩
/-- THM_CFG.NLVL, R488 (0b10). -/
def THM_CFG_NLVL : Fld := ⟨.THM_CFG, 3, 2, .rw, .l0, .num 2⟩
/-- THM_LIM.L3, R488 (0x08). -/
def THM_LIM_L3 : Fld := ⟨.THM_LIM, 23, 16, .rw, .l1, .num 8⟩
/-- THM_LIM.L2, R488 (0x10). -/
def THM_LIM_L2 : Fld := ⟨.THM_LIM, 15, 8, .rw, .l1, .num 16⟩
/-- THM_LIM.L1, R488 (0x18). -/
def THM_LIM_L1 : Fld := ⟨.THM_LIM, 7, 0, .rw, .l1, .num 24⟩
/-- THM_DOM.LEVEL, R488 (0b00). -/
def THM_DOM_LEVEL : Fld := ⟨.THM_DOM, 31, 30, .ro, .l0, .num 0⟩
/-- THM_DOM.FLOOR, R488 (0b00). -/
def THM_DOM_FLOOR : Fld := ⟨.THM_DOM, 29, 28, .ro, .l0, .num 0⟩
/-- THM_DOM.HELD, R488 (0). -/
def THM_DOM_HELD : Fld := ⟨.THM_DOM, 27, 27, .ro, .l0, .num 0⟩
/-- THM_DOM.RATEUP, R488 (0). -/
def THM_DOM_RATEUP : Fld := ⟨.THM_DOM, 26, 26, .ro, .l0, .num 0⟩
/-- THM_DOM.RUNNING, R488 (0x00). -/
def THM_DOM_RUNNING : Fld := ⟨.THM_DOM, 23, 16, .ro, .l1, .num 0⟩
/-- THM_DOM.TEMP, R488 (0x0000). -/
def THM_DOM_TEMP : Fld := ⟨.THM_DOM, 15, 0, .ro, .l0, .num 0⟩
/-- THM_STAT.SHUT, R488 (0). -/
def THM_STAT_SHUT : Fld := ⟨.THM_STAT, 31, 31, .w1c, .l0, .num 0⟩
/-- THM_STAT.PRIORSHUT, R488 (0). -/
def THM_STAT_PRIORSHUT : Fld := ⟨.THM_STAT, 30, 30, .w1c, .l0, .num 0⟩
/-- THM_STAT.NOSENS, R488 (0). -/
def THM_STAT_NOSENS : Fld := ⟨.THM_STAT, 29, 29, .ro, .l0, .num 0⟩
/-- THM_STAT.RATEHI, R488 (0). -/
def THM_STAT_RATEHI : Fld := ⟨.THM_STAT, 9, 5, .w1c, .l0, .num 0⟩
/-- THM_STAT.FAILED, R488 (0). -/
def THM_STAT_FAILED : Fld := ⟨.THM_STAT, 4, 0, .ro, .l0, .num 0⟩
/-- THM_CTL.RELEASE, R488 (0). -/
def THM_CTL_RELEASE : Fld := ⟨.THM_CTL, 0, 0, .wo, .l0, .num 0⟩
/-- FLT_CTL.FLOCK, R512 (0). -/
def FLT_CTL_FLOCK : Fld := ⟨.FLT_CTL, 31, 31, .w1s, .l1, .num 0⟩
/-- FLT_CTL.FUNIT, R512 (0x00). -/
def FLT_CTL_FUNIT : Fld := ⟨.FLT_CTL, 23, 16, .rw, .l1, .num 0⟩
/-- FLT_CTL.NSEV, R512 (0b10). -/
def FLT_CTL_NSEV : Fld := ⟨.FLT_CTL, 1, 0, .rw, .l1, .num 2⟩
/-- FLT_STAT.SAFE, R512 (0). -/
def FLT_STAT_SAFE : Fld := ⟨.FLT_STAT, 31, 31, .ro, .l1, .num 0⟩
/-- FLT_STAT.SELF, R512 (0). -/
def FLT_STAT_SELF : Fld := ⟨.FLT_STAT, 30, 30, .w1c, .l1, .num 0⟩
/-- FLT_STAT.FIRSTV, R512 (0). -/
def FLT_STAT_FIRSTV : Fld := ⟨.FLT_STAT, 29, 29, .w1c, .l1, .num 0⟩
/-- FLT_STAT.SECONDV, R512 (0). -/
def FLT_STAT_SECONDV : Fld := ⟨.FLT_STAT, 28, 28, .w1c, .l1, .num 0⟩
/-- FLT_STAT.CLRBAD, R512 (0). -/
def FLT_STAT_CLRBAD : Fld := ⟨.FLT_STAT, 27, 27, .w1c, .l1, .num 0⟩
/-- FLT_STAT.CFGBAD, R512 (0). -/
def FLT_STAT_CFGBAD : Fld := ⟨.FLT_STAT, 26, 26, .w1c, .l1, .num 0⟩
/-- FLT_STAT.SAFEWR, R512 (0). -/
def FLT_STAT_SAFEWR : Fld := ⟨.FLT_STAT, 25, 25, .w1c, .l1, .num 0⟩
/-- FLT_STAT.EXITBAD, R512 (0). -/
def FLT_STAT_EXITBAD : Fld := ⟨.FLT_STAT, 24, 24, .w1c, .l1, .num 0⟩
/-- FLT_STAT.PENDN, R512 (0). -/
def FLT_STAT_PENDN : Fld := ⟨.FLT_STAT, 8, 0, .ro, .l1, .num 0⟩
/-- FLT_SECCNT.COUNT, R512 (0x0000). -/
def FLT_SECCNT_COUNT : Fld := ⟨.FLT_SECCNT, 15, 0, .rc, .l1, .num 0⟩
/-- FLT_SAFE.ACTIVE, R512 (0). -/
def FLT_SAFE_ACTIVE : Fld := ⟨.FLT_SAFE, 31, 31, .ro, .l1, .num 0⟩
/-- FLT_SAFE.ENTER, R512 (0). -/
def FLT_SAFE_ENTER : Fld := ⟨.FLT_SAFE, 30, 30, .wo, .l1, .num 0⟩
/-- FLT_SAFE.EXIT, R512 (0). -/
def FLT_SAFE_EXIT : Fld := ⟨.FLT_SAFE, 29, 29, .wo, .l1, .num 0⟩
/-- FLT_SAFE.CAUSE, R512 (0b000). -/
def FLT_SAFE_CAUSE : Fld := ⟨.FLT_SAFE, 28, 26, .ro, .l1, .num 0⟩
/-- FLT_SAFE.ESCTMO, R512 (0x0000). -/
def FLT_SAFE_ESCTMO : Fld := ⟨.FLT_SAFE, 15, 0, .rw, .l1, .num 0⟩
/-- FLT_DEGR.PORTS, R512 (0x0). -/
def FLT_DEGR_PORTS : Fld := ⟨.FLT_DEGR, 27, 24, .ro, .l1, .num 0⟩
/-- FLT_DEGR.DIES, R512 (0x0). -/
def FLT_DEGR_DIES : Fld := ⟨.FLT_DEGR, 23, 20, .ro, .l1, .num 0⟩
/-- FLT_DEGR.RAILS, R512 (0x00). -/
def FLT_DEGR_RAILS : Fld := ⟨.FLT_DEGR, 19, 12, .ro, .l1, .num 0⟩
/-- FLT_DEGR.PODS, R512 (0). -/
def FLT_DEGR_PODS : Fld := ⟨.FLT_DEGR, 8, 0, .ro, .l1, .num 0⟩
/-- FLT_FIRST.REC, R512 (0x0000_0000). -/
def FLT_FIRST_REC : Fld := ⟨.FLT_FIRST, 31, 0, .ro, .l1, .num 0⟩
/-- FLT_SECOND.REC, R512 (0x0000_0000). -/
def FLT_SECOND_REC : Fld := ⟨.FLT_SECOND, 31, 0, .ro, .l1, .num 0⟩
/-- FLT_PEND.PEND, R512 (0x0000_0000). -/
def FLT_PEND_PEND : Fld := ⟨.FLT_PEND, 31, 0, .w1c, .l1, .num 0⟩
/-- FLT_CAUSE.CAUSE, R512 (0x0000_0000). -/
def FLT_CAUSE_CAUSE : Fld := ⟨.FLT_CAUSE, 31, 0, .ro, .l1, .num 0⟩
/-- FLT_SRC.FORCE, R512 (0). -/
def FLT_SRC_FORCE : Fld := ⟨.FLT_SRC, 31, 31, .wo, .l1, .num 0⟩
/-- FLT_SRC.FIXED, R512 (1 for source 0). -/
def FLT_SRC_FIXED : Fld := ⟨.FLT_SRC, 7, 7, .ro, .l0, .fltFixed⟩
/-- FLT_SRC.REACT, R512 (factory, R491 and R492). -/
def FLT_SRC_REACT : Fld := ⟨.FLT_SRC, 6, 4, .rw, .l1, .fltReact⟩
/-- FLT_SRC.SEV, R512 (factory). -/
def FLT_SRC_SEV : Fld := ⟨.FLT_SRC, 1, 0, .rw, .l1, .fltSev⟩
/-- FLT_CNT.COUNT, R512 (0x0000). -/
def FLT_CNT_COUNT : Fld := ⟨.FLT_CNT, 15, 0, .rc, .l1, .num 0⟩
/-- EVT_CFG.SYSRING, R409 (0b000). -/
def EVT_CFG_SYSRING : Fld := ⟨.EVT_CFG, 2, 0, .rw, .l2, .num 0⟩
/-- EVT_ROUTE.EN0, R409 (0). -/
def EVT_ROUTE_EN0 : Fld := ⟨.EVT_ROUTE, 7, 7, .rw, .l2, .num 0⟩
/-- EVT_ROUTE.RING0, R409 (0). -/
def EVT_ROUTE_RING0 : Fld := ⟨.EVT_ROUTE, 2, 0, .rw, .l2, .num 0⟩
/-- EVT_ROUTE.EN1, R409 (0). -/
def EVT_ROUTE_EN1 : Fld := ⟨.EVT_ROUTE, 15, 15, .rw, .l2, .num 0⟩
/-- EVT_ROUTE.RING1, R409 (0). -/
def EVT_ROUTE_RING1 : Fld := ⟨.EVT_ROUTE, 10, 8, .rw, .l2, .num 0⟩
/-- EVT_ROUTE.EN2, R409 (0). -/
def EVT_ROUTE_EN2 : Fld := ⟨.EVT_ROUTE, 23, 23, .rw, .l2, .num 0⟩
/-- EVT_ROUTE.RING2, R409 (0). -/
def EVT_ROUTE_RING2 : Fld := ⟨.EVT_ROUTE, 18, 16, .rw, .l2, .num 0⟩
/-- EVT_ROUTE.EN3, R409 (0). -/
def EVT_ROUTE_EN3 : Fld := ⟨.EVT_ROUTE, 31, 31, .rw, .l2, .num 0⟩
/-- EVT_ROUTE.RING3, R409 (0). -/
def EVT_ROUTE_RING3 : Fld := ⟨.EVT_ROUTE, 26, 24, .rw, .l2, .num 0⟩
/-- SVP_CFG.MODE, R567 (0b10). -/
def SVP_CFG_MODE : Fld := ⟨.SVP_CFG, 31, 30, .rw, .l1, .num 2⟩
/-- SVP_CFG.SCPOL, R567 (0). -/
def SVP_CFG_SCPOL : Fld := ⟨.SVP_CFG, 29, 29, .rw, .l1, .num 0⟩
/-- SVP_CFG.SCPHA, R567 (0). -/
def SVP_CFG_SCPHA : Fld := ⟨.SVP_CFG, 28, 28, .rw, .l1, .num 0⟩
/-- SVP_CFG.SEV, R567 (0). -/
def SVP_CFG_SEV : Fld := ⟨.SVP_CFG, 27, 27, .rw, .l1, .num 0⟩
/-- SVP_CFG.SEN, R567 (1). -/
def SVP_CFG_SEN : Fld := ⟨.SVP_CFG, 24, 24, .rw, .l1, .num 1⟩
/-- SVP_CFG.MYSEL, R567 (0xE). -/
def SVP_CFG_MYSEL : Fld := ⟨.SVP_CFG, 23, 20, .rw, .l1, .num 14⟩
/-- SVP_CFG.DIV, R567 (0x04). -/
def SVP_CFG_DIV : Fld := ⟨.SVP_CFG, 15, 8, .rw, .l1, .num 4⟩
/-- SVP_CFG.MCPOL, R567 (0). -/
def SVP_CFG_MCPOL : Fld := ⟨.SVP_CFG, 7, 7, .rw, .l1, .num 0⟩
/-- SVP_CFG.MCPHA, R567 (0). -/
def SVP_CFG_MCPHA : Fld := ⟨.SVP_CFG, 6, 6, .rw, .l1, .num 0⟩
/-- SVP_CFG.LSBF, R567 (0). -/
def SVP_CFG_LSBF : Fld := ⟨.SVP_CFG, 5, 5, .rw, .l1, .num 0⟩
/-- SVP_CFG.WLEN, R567 (0x1F). -/
def SVP_CFG_WLEN : Fld := ⟨.SVP_CFG, 4, 0, .rw, .l1, .num 31⟩
/-- SVP_MCTL.HOLD, R567 (0). -/
def SVP_MCTL_HOLD : Fld := ⟨.SVP_MCTL, 31, 31, .rw, .l1, .num 0⟩
/-- SVP_MCTL.RELEASE, R567 (0). -/
def SVP_MCTL_RELEASE : Fld := ⟨.SVP_MCTL, 30, 30, .wo, .l1, .num 0⟩
/-- SVP_MCTL.MEV, R567 (0). -/
def SVP_MCTL_MEV : Fld := ⟨.SVP_MCTL, 29, 29, .rw, .l1, .num 0⟩
/-- SVP_MCTL.GAP, R567 (0x0). -/
def SVP_MCTL_GAP : Fld := ⟨.SVP_MCTL, 27, 24, .rw, .l1, .num 0⟩
/-- SVP_MCTL.SEL, R567 (0xF). -/
def SVP_MCTL_SEL : Fld := ⟨.SVP_MCTL, 3, 0, .rw, .l1, .num 15⟩
/-- SVP_MTX.TX, R567 (0x0000_0000). -/
def SVP_MTX_TX : Fld := ⟨.SVP_MTX, 31, 0, .wo, .l1, .num 0⟩
/-- SVP_MRX.RX, R567 (0x0000_0000). -/
def SVP_MRX_RX : Fld := ⟨.SVP_MRX, 31, 0, .ro, .l1, .num 0⟩
/-- SVP_STAT.ACTIVE, R567 (0). -/
def SVP_STAT_ACTIVE : Fld := ⟨.SVP_STAT, 31, 31, .ro, .l1, .num 0⟩
/-- SVP_STAT.SELD, R567 (0). -/
def SVP_STAT_SELD : Fld := ⟨.SVP_STAT, 30, 30, .ro, .l1, .num 0⟩
/-- SVP_STAT.MBUSY, R567 (0). -/
def SVP_STAT_MBUSY : Fld := ⟨.SVP_STAT, 29, 29, .w1c, .l1, .num 0⟩
/-- SVP_STAT.SHORT, R567 (0). -/
def SVP_STAT_SHORT : Fld := ⟨.SVP_STAT, 28, 28, .w1c, .l1, .num 0⟩
/-- SVP_STAT.END, R567 (0). -/
def SVP_STAT_END : Fld := ⟨.SVP_STAT, 27, 27, .w1c, .l1, .num 0⟩
/-- SVP_STAT.SERR, R567 (0). -/
def SVP_STAT_SERR : Fld := ⟨.SVP_STAT, 26, 26, .w1c, .l1, .num 0⟩
/-- SVP_STAT.SCOUNT, R567 (0x00). -/
def SVP_STAT_SCOUNT : Fld := ⟨.SVP_STAT, 15, 8, .ro, .l1, .num 0⟩
/-- SVP_STAT.WBUF, R567 (0b000). -/
def SVP_STAT_WBUF : Fld := ⟨.SVP_STAT, 2, 0, .ro, .l1, .num 0⟩
/-- CLK_XMODE.MODE, R552 (0b1011_0111). -/
def CLK_XMODE_MODE : Fld := ⟨.CLK_XMODE, 7, 0, .rw, .l1, .num 183⟩
/-- CLK_XSTAT.FLUSH, R552 (0x00). -/
def CLK_XSTAT_FLUSH : Fld := ⟨.CLK_XSTAT, 31, 24, .w1c, .l1, .num 0⟩
/-- CLK_XSTAT.OVF, R552 (0x00). -/
def CLK_XSTAT_OVF : Fld := ⟨.CLK_XSTAT, 23, 16, .w1c, .l1, .num 0⟩
/-- CLK_XSTAT.STALE, R552 (0x00). -/
def CLK_XSTAT_STALE : Fld := ⟨.CLK_XSTAT, 15, 8, .ro, .l1, .num 0⟩
/-- CLK_XSTAT.NOAGREE, R552 (0x00). -/
def CLK_XSTAT_NOAGREE : Fld := ⟨.CLK_XSTAT, 7, 0, .w1c, .l1, .num 0⟩
/-- CLK_XOVF.COUNT, R552 (0x0000). -/
def CLK_XOVF_COUNT : Fld := ⟨.CLK_XOVF, 15, 0, .rc, .l1, .num 0⟩
/-- IU_RES.RES, R310 (0x0000_0000). -/
def IU_RES_RES : Fld := ⟨.IU_RES, 31, 0, .ro, .l2, .num 0⟩
/-- IU_CTL.RSV, R310 (0). -/
def IU_CTL_RSV : Fld := ⟨.IU_CTL, 31, 31, .rw, .l1, .num 0⟩
/-- IU_CTL.ABORT, R310 (0). -/
def IU_CTL_ABORT : Fld := ⟨.IU_CTL, 9, 9, .wo, .l2, .num 0⟩
/-- IU_CTL.GO, R310 (0). -/
def IU_CTL_GO : Fld := ⟨.IU_CTL, 8, 8, .wo, .l2, .num 0⟩
/-- IU_CTL.SETUP, R310 (0x00). -/
def IU_CTL_SETUP : Fld := ⟨.IU_CTL, 7, 0, .rw, .l1, .num 0⟩
/-- IU_STAT.STATE, R310 (0b00). -/
def IU_STAT_STATE : Fld := ⟨.IU_STAT, 31, 30, .ro, .l2, .num 0⟩
/-- IU_STAT.REG, R310 (0). -/
def IU_STAT_REG : Fld := ⟨.IU_STAT, 29, 29, .ro, .l2, .num 0⟩
/-- IU_STAT.OWNV, R310 (0). -/
def IU_STAT_OWNV : Fld := ⟨.IU_STAT, 24, 24, .ro, .l2, .num 0⟩
/-- IU_STAT.OWNER, R310 (0x00). -/
def IU_STAT_OWNER : Fld := ⟨.IU_STAT, 23, 16, .ro, .l2, .num 0⟩
/-- IU_STAT.ATTEMPTS, R310 (0x0000). -/
def IU_STAT_ATTEMPTS : Fld := ⟨.IU_STAT, 15, 0, .ro, .l2, .num 0⟩
/-- IU_GSTAT.QDEPTH, R310 (0). -/
def IU_GSTAT_QDEPTH : Fld := ⟨.IU_GSTAT, 24, 16, .ro, .l2, .num 0⟩
/-- IU_GSTAT.BUSY, R310 (0). -/
def IU_GSTAT_BUSY : Fld := ⟨.IU_GSTAT, 14, 8, .ro, .l2, .num 0⟩
/-- IU_GSTAT.NOUNIT, R310 (0). -/
def IU_GSTAT_NOUNIT : Fld := ⟨.IU_GSTAT, 0, 0, .w1c, .l2, .num 0⟩
/-- IU_CAL.DT, R310 (0x5). -/
def IU_CAL_DT : Fld := ⟨.IU_CAL, 15, 12, .rw, .l1, .num 5⟩
/-- IU_CAL.AUTO, R310 (1). -/
def IU_CAL_AUTO : Fld := ⟨.IU_CAL, 8, 8, .rw, .l1, .num 1⟩
/-- IU_CAL.RUN, R310 (0x0). -/
def IU_CAL_RUN : Fld := ⟨.IU_CAL, 3, 0, .wo, .l1, .num 0⟩
/-- IU_CALST.CBUSY, R310 (0x0). -/
def IU_CALST_CBUSY : Fld := ⟨.IU_CALST, 31, 28, .ro, .l1, .num 0⟩
/-- IU_CALST.DUE, R310 (0x0). -/
def IU_CALST_DUE : Fld := ⟨.IU_CALST, 27, 24, .ro, .l1, .num 0⟩
/-- IU_CALST.BAD, R310 (0x0). -/
def IU_CALST_BAD : Fld := ⟨.IU_CALST, 23, 20, .w1c, .l1, .num 0⟩
/-- IU_CALST.REFUSED, R310 (0). -/
def IU_CALST_REFUSED : Fld := ⟨.IU_CALST, 19, 19, .w1c, .l1, .num 0⟩
/-- IU_CALST.WORST, R310 (0x0000). -/
def IU_CALST_WORST : Fld := ⟨.IU_CALST, 15, 0, .ro, .l1, .num 0⟩
/-- PMC_CNT_LO.CNT_LO, R577 (0x0000_0000). -/
def PMC_CNT_LO_CNT_LO : Fld := ⟨.PMC_CNT_LO, 31, 0, .rw, .l1, .num 0⟩
/-- PMC_CNT_HI.CNT_HI, R577 (0x0000). -/
def PMC_CNT_HI_CNT_HI : Fld := ⟨.PMC_CNT_HI, 15, 0, .rw, .l1, .num 0⟩
/-- PMC_SEL.CHAIN, R577 (0). -/
def PMC_SEL_CHAIN : Fld := ⟨.PMC_SEL, 31, 31, .rw, .l1, .num 0⟩
/-- PMC_SEL.OVEV, R577 (0). -/
def PMC_SEL_OVEV : Fld := ⟨.PMC_SEL, 30, 30, .rw, .l1, .num 0⟩
/-- PMC_SEL.UNIT, R577 (0x000). -/
def PMC_SEL_UNIT : Fld := ⟨.PMC_SEL, 23, 12, .rw, .l1, .num 0⟩
/-- PMC_SEL.EVENT, R577 (0x00). -/
def PMC_SEL_EVENT : Fld := ⟨.PMC_SEL, 7, 0, .rw, .l1, .num 0⟩
/-- PMC_OVF.OVF, R577 (0x0000_0000). -/
def PMC_OVF_OVF : Fld := ⟨.PMC_OVF, 31, 0, .w1c, .l1, .num 0⟩
/-- PMC_LOSS.LOSS, R577 (0x0000_0000). -/
def PMC_LOSS_LOSS : Fld := ⟨.PMC_LOSS, 31, 0, .w1c, .l1, .num 0⟩
/-- PMC_STAT.SELBAD, R577 (0). -/
def PMC_STAT_SELBAD : Fld := ⟨.PMC_STAT, 0, 0, .w1c, .l1, .num 0⟩
/-- PMC_SHD_LO.SLO, R577 (0x0000_0000). -/
def PMC_SHD_LO_SLO : Fld := ⟨.PMC_SHD_LO, 31, 0, .ro, .l1, .num 0⟩
/-- PMC_SHD_HI.SHI, R577 (0x0000). -/
def PMC_SHD_HI_SHI : Fld := ⟨.PMC_SHD_HI, 15, 0, .ro, .l1, .num 0⟩
/-- PMC_SHD_STAT.DIEOK, R577 (0x0). -/
def PMC_SHD_STAT_DIEOK : Fld := ⟨.PMC_SHD_STAT, 3, 0, .ro, .l1, .num 0⟩
/-- PMC_SHD_OVF.SOVF, R577 (0x0000_0000). -/
def PMC_SHD_OVF_SOVF : Fld := ⟨.PMC_SHD_OVF, 31, 0, .ro, .l1, .num 0⟩
/-- PMC_SHD_LOSS.SLOSS, R577 (0x0000_0000). -/
def PMC_SHD_LOSS_SLOSS : Fld := ⟨.PMC_SHD_LOSS, 31, 0, .ro, .l1, .num 0⟩
/-- SITE_PSTAT.FAIL, R163 (0). -/
def SITE_PSTAT_FAIL : Fld := ⟨.SITE_PSTAT, 31, 31, .ro, .l2, .num 0⟩
/-- SITE_PSTAT.MTO, R163 (0). -/
def SITE_PSTAT_MTO : Fld := ⟨.SITE_PSTAT, 30, 30, .ro, .l2, .num 0⟩
/-- SITE_PSTAT.WLATE, R163 (0). -/
def SITE_PSTAT_WLATE : Fld := ⟨.SITE_PSTAT, 29, 29, .w1c, .l2, .num 0⟩
/-- SITE_PSTAT.ETO, R163 (0). -/
def SITE_PSTAT_ETO : Fld := ⟨.SITE_PSTAT, 28, 28, .w1c, .l2, .num 0⟩
/-- SITE_PSTAT.BTO, R163 (0). -/
def SITE_PSTAT_BTO : Fld := ⟨.SITE_PSTAT, 27, 27, .w1c, .l2, .num 0⟩
/-- SITE_PSTAT.AWGLOST, R163 (0). -/
def SITE_PSTAT_AWGLOST : Fld := ⟨.SITE_PSTAT, 26, 26, .w1c, .l2, .num 0⟩
/-- SITE_PSTAT.LDEPTH, R163 (0). -/
def SITE_PSTAT_LDEPTH : Fld := ⟨.SITE_PSTAT, 23, 21, .ro, .l2, .num 0⟩
/-- SITE_PSTAT.CDEPTH, R163 (0). -/
def SITE_PSTAT_CDEPTH : Fld := ⟨.SITE_PSTAT, 20, 16, .ro, .l2, .num 0⟩
/-- SITE_FCOUNT.FCOUNT, R163 (0). -/
def SITE_FCOUNT_FCOUNT : Fld := ⟨.SITE_FCOUNT, 31, 0, .ro, .l2, .num 0⟩
/-- SITE_FFPOS_LO.FFPOS_LO, R163 (0xFFFF_FFFF). -/
def SITE_FFPOS_LO_FFPOS_LO : Fld := ⟨.SITE_FFPOS_LO, 31, 0, .ro, .l2, .num 0xffffffff⟩
/-- SITE_FFPOS_HI.FFPOS_HI, R163 (0xFFFF). -/
def SITE_FFPOS_HI_FFPOS_HI : Fld := ⟨.SITE_FFPOS_HI, 15, 0, .ro, .l2, .num 0xffff⟩
/-- SITE_VPOS_LO.VPOS_LO, R163 (0). -/
def SITE_VPOS_LO_VPOS_LO : Fld := ⟨.SITE_VPOS_LO, 31, 0, .ro, .l2, .num 0⟩
/-- SITE_VPOS_HI.VPOS_HI, R163 (0). -/
def SITE_VPOS_HI_VPOS_HI : Fld := ⟨.SITE_VPOS_HI, 15, 0, .ro, .l2, .num 0⟩
/-- SITE_TAGRES.TAGRES, R163 (0). -/
def SITE_TAGRES_TAGRES : Fld := ⟨.SITE_TAGRES, 31, 2, .ro, .l2, .num 0⟩
/-- SITE_VVAL.VVALID, R163 (0xF000). -/
def SITE_VVAL_VVALID : Fld := ⟨.SITE_VVAL, 15, 0, .ro, .l2, .num 0xf000⟩
/-- SITE_V.V, R163 (0). -/
def SITE_V_V : Fld := ⟨.SITE_V, 31, 0, .ro, .l2, .num 0⟩
/-- SITE_FCTL.FENCE, R373 (0). -/
def SITE_FCTL_FENCE : Fld := ⟨.SITE_FCTL, 31, 31, .wo, .l2, .num 0⟩
/-- SITE_FCTL.UNFENCE, R373 (0). -/
def SITE_FCTL_UNFENCE : Fld := ⟨.SITE_FCTL, 30, 30, .wo, .l2, .num 0⟩
/-- SITE_FCTL.ARM_REQ, R373 (0). -/
def SITE_FCTL_ARM_REQ : Fld := ⟨.SITE_FCTL, 3, 3, .rw, .l1, .num 0⟩
/-- SITE_FCTL.ARM_RECOV, R373 (1). -/
def SITE_FCTL_ARM_RECOV : Fld := ⟨.SITE_FCTL, 2, 2, .rw, .l1, .num 1⟩
/-- SITE_FCTL.ARM_ENTRY, R373 (1). -/
def SITE_FCTL_ARM_ENTRY : Fld := ⟨.SITE_FCTL, 1, 1, .rw, .l1, .num 1⟩
/-- SITE_FCTL.ARM_START, R373 (1). -/
def SITE_FCTL_ARM_START : Fld := ⟨.SITE_FCTL, 0, 0, .rw, .l1, .num 1⟩
/-- SITE_FSTAT.HUSK, R373 (0). -/
def SITE_FSTAT_HUSK : Fld := ⟨.SITE_FSTAT, 31, 31, .ro, .l2, .num 0⟩
/-- SITE_FSTAT.ARMED, R373 (0). -/
def SITE_FSTAT_ARMED : Fld := ⟨.SITE_FSTAT, 30, 30, .ro, .l2, .num 0⟩
/-- SITE_FSTAT.ARMSRC, R373 (0b000). -/
def SITE_FSTAT_ARMSRC : Fld := ⟨.SITE_FSTAT, 29, 27, .ro, .l2, .num 0⟩
/-- SITE_FSTAT.UNFBAD, R373 (0). -/
def SITE_FSTAT_UNFBAD : Fld := ⟨.SITE_FSTAT, 26, 26, .w1c, .l2, .num 0⟩
/-- SITE_FSTAT.INSTEP, R373 (0). -/
def SITE_FSTAT_INSTEP : Fld := ⟨.SITE_FSTAT, 25, 25, .ro, .l2, .num 0⟩
/-- SITE_FSTAT.LINK, R373 (0). -/
def SITE_FSTAT_LINK : Fld := ⟨.SITE_FSTAT, 21, 21, .ro, .l2, .num 0⟩
/-- SITE_FSTAT.FAULT, R373 (0). -/
def SITE_FSTAT_FAULT : Fld := ⟨.SITE_FSTAT, 20, 20, .ro, .l2, .num 0⟩
/-- SITE_FSTAT.SOFT, R373 (0). -/
def SITE_FSTAT_SOFT : Fld := ⟨.SITE_FSTAT, 19, 19, .ro, .l2, .num 0⟩
/-- SITE_FSTAT.PIN, R373 (0). -/
def SITE_FSTAT_PIN : Fld := ⟨.SITE_FSTAT, 18, 18, .ro, .l2, .num 0⟩
/-- SITE_FSTAT.RAILI, R373 (0). -/
def SITE_FSTAT_RAILI : Fld := ⟨.SITE_FSTAT, 17, 17, .ro, .l2, .num 0⟩
/-- SITE_FSTAT.RAILV, R373 (0). -/
def SITE_FSTAT_RAILV : Fld := ⟨.SITE_FSTAT, 16, 16, .ro, .l2, .num 0⟩
/-- SITE_FSTAT.FENCES, R373 (0x0000). -/
def SITE_FSTAT_FENCES : Fld := ⟨.SITE_FSTAT, 15, 0, .ro, .l1, .num 0⟩
/-- SITE_FSTAMP_LO.FSTAMP_LO, R373 (0x0000_0000). -/
def SITE_FSTAMP_LO_FSTAMP_LO : Fld := ⟨.SITE_FSTAMP_LO, 31, 0, .ro, .l2, .num 0⟩
/-- SITE_FSTAMP_HI.FSTAMP_HI, R373 (0x0000_0000). -/
def SITE_FSTAMP_HI_FSTAMP_HI : Fld := ⟨.SITE_FSTAMP_HI, 31, 0, .ro, .l2, .num 0⟩
/-- SITE_RSEQ.SEQ, R373 (0). -/
def SITE_RSEQ_SEQ : Fld := ⟨.SITE_RSEQ, 31, 31, .rw, .l1, .num 0⟩
/-- SITE_RSEQ.ORDER, R373 (0). -/
def SITE_RSEQ_ORDER : Fld := ⟨.SITE_RSEQ, 30, 30, .rw, .l1, .num 0⟩
/-- SITE_RSEQ.DELAY, R373 (0x0000). -/
def SITE_RSEQ_DELAY : Fld := ⟨.SITE_RSEQ, 15, 0, .rw, .l1, .num 0⟩
/-- RAIL_CFG.RSH, R372 (0x19). -/
def RAIL_CFG_RSH : Fld := ⟨.RAIL_CFG, 31, 24, .rw, .l1, .num 25⟩
/-- RAIL_CFG.SLEW, R372 (0x0A). -/
def RAIL_CFG_SLEW : Fld := ⟨.RAIL_CFG, 23, 16, .rw, .l1, .num 10⟩
/-- RAIL_CFG.SETTLE, R372 (0x0A). -/
def RAIL_CFG_SETTLE : Fld := ⟨.RAIL_CFG, 15, 8, .rw, .l1, .num 10⟩
/-- RAIL_CFG.REMOTE, R372 (1). -/
def RAIL_CFG_REMOTE : Fld := ⟨.RAIL_CFG, 2, 2, .rw, .l1, .num 1⟩
/-- RAIL_CFG.SMUX, R372 (0b00). -/
def RAIL_CFG_SMUX : Fld := ⟨.RAIL_CFG, 1, 0, .rw, .l1, .num 0⟩
/-- RAIL_SET.TARGET, R372 (0x0000). -/
def RAIL_SET_TARGET : Fld := ⟨.RAIL_SET, 31, 16, .rw, .l1, .num 0⟩
/-- RAIL_SET.ILIM, R372 (from MTP). -/
def RAIL_SET_ILIM : Fld := ⟨.RAIL_SET, 9, 0, .rw, .l1, .num 0⟩
/-- RAIL_CTL.OFF, R372 (0). -/
def RAIL_CTL_OFF : Fld := ⟨.RAIL_CTL, 1, 1, .wo, .l1, .num 0⟩
/-- RAIL_CTL.ON, R372 (0). -/
def RAIL_CTL_ON : Fld := ⟨.RAIL_CTL, 0, 0, .wo, .l1, .num 0⟩
/-- RAIL_VWIN.VHI, R372 (from MTP). -/
def RAIL_VWIN_VHI : Fld := ⟨.RAIL_VWIN, 25, 16, .rw, .l1, .num 0⟩
/-- RAIL_VWIN.VLO, R372 (from MTP). -/
def RAIL_VWIN_VLO : Fld := ⟨.RAIL_VWIN, 9, 0, .rw, .l1, .num 0⟩
/-- RAIL_IWIN.IHI, R372 (from MTP). -/
def RAIL_IWIN_IHI : Fld := ⟨.RAIL_IWIN, 25, 16, .rw, .l1, .num 0⟩
/-- RAIL_IWIN.ILO, R372 (from MTP). -/
def RAIL_IWIN_ILO : Fld := ⟨.RAIL_IWIN, 9, 0, .rw, .l1, .num 0⟩
/-- RAIL_MON.WAKE, R372 (0). -/
def RAIL_MON_WAKE : Fld := ⟨.RAIL_MON, 29, 29, .rw, .l1, .num 0⟩
/-- RAIL_MON.IEV, R372 (1). -/
def RAIL_MON_IEV : Fld := ⟨.RAIL_MON, 28, 28, .rw, .l1, .num 1⟩
/-- RAIL_MON.VEV, R372 (1). -/
def RAIL_MON_VEV : Fld := ⟨.RAIL_MON, 27, 27, .rw, .l1, .num 1⟩
/-- RAIL_MON.ITRIP_LO, R372 (0). -/
def RAIL_MON_ITRIP_LO : Fld := ⟨.RAIL_MON, 26, 26, .rw, .l1, .num 0⟩
/-- RAIL_MON.ITRIP_HI, R372 (1). -/
def RAIL_MON_ITRIP_HI : Fld := ⟨.RAIL_MON, 25, 25, .rw, .l1, .num 1⟩
/-- RAIL_MON.VTRIP_LO, R372 (1). -/
def RAIL_MON_VTRIP_LO : Fld := ⟨.RAIL_MON, 24, 24, .rw, .l1, .num 1⟩
/-- RAIL_MON.VTRIP_HI, R372 (1). -/
def RAIL_MON_VTRIP_HI : Fld := ⟨.RAIL_MON, 23, 23, .rw, .l1, .num 1⟩
/-- RAIL_MON.IFSEL, R372 (0b011). -/
def RAIL_MON_IFSEL : Fld := ⟨.RAIL_MON, 22, 20, .rw, .l1, .num 3⟩
/-- RAIL_MON.IFILT, R372 (0b01). -/
def RAIL_MON_IFILT : Fld := ⟨.RAIL_MON, 19, 18, .rw, .l1, .num 1⟩
/-- RAIL_MON.IMODE, R372 (0b01). -/
def RAIL_MON_IMODE : Fld := ⟨.RAIL_MON, 17, 16, .rw, .l1, .num 1⟩
/-- RAIL_MON.FSETTLE, R372 (0x10). -/
def RAIL_MON_FSETTLE : Fld := ⟨.RAIL_MON, 15, 8, .rw, .l1, .num 16⟩
/-- RAIL_MON.VFSEL, R372 (0b011). -/
def RAIL_MON_VFSEL : Fld := ⟨.RAIL_MON, 6, 4, .rw, .l1, .num 3⟩
/-- RAIL_MON.VFILT, R372 (0b01). -/
def RAIL_MON_VFILT : Fld := ⟨.RAIL_MON, 3, 2, .rw, .l1, .num 1⟩
/-- RAIL_MON.VMODE, R372 (0b01). -/
def RAIL_MON_VMODE : Fld := ⟨.RAIL_MON, 1, 0, .rw, .l1, .num 1⟩
/-- RAIL_STAT.STATE, R372 (0x0). -/
def RAIL_STAT_STATE : Fld := ⟨.RAIL_STAT, 31, 28, .ro, .l1, .num 0⟩
/-- RAIL_STAT.VWS, R372 (0b11). -/
def RAIL_STAT_VWS : Fld := ⟨.RAIL_STAT, 27, 26, .ro, .l1, .num 3⟩
/-- RAIL_STAT.IWS, R372 (0b11). -/
def RAIL_STAT_IWS : Fld := ⟨.RAIL_STAT, 25, 24, .ro, .l1, .num 3⟩
/-- RAIL_STAT.PROF, R372 (0b00). -/
def RAIL_STAT_PROF : Fld := ⟨.RAIL_STAT, 23, 22, .ro, .l1, .num 0⟩
/-- RAIL_STAT.ARMED, R372 (0). -/
def RAIL_STAT_ARMED : Fld := ⟨.RAIL_STAT, 21, 21, .ro, .l1, .num 0⟩
/-- RAIL_STAT.SITEV, R372 (0). -/
def RAIL_STAT_SITEV : Fld := ⟨.RAIL_STAT, 20, 20, .ro, .l1, .num 0⟩
/-- RAIL_STAT.SITE, R372 (0). -/
def RAIL_STAT_SITE : Fld := ⟨.RAIL_STAT, 19, 13, .ro, .l1, .num 0⟩
/-- RAIL_FLAG.NOREG, R372 (0). -/
def RAIL_FLAG_NOREG : Fld := ⟨.RAIL_FLAG, 7, 7, .w1c, .l1, .num 0⟩
/-- RAIL_FLAG.LIMITED, R372 (0). -/
def RAIL_FLAG_LIMITED : Fld := ⟨.RAIL_FLAG, 6, 6, .w1c, .l1, .num 0⟩
/-- RAIL_FLAG.BUSY, R372 (0). -/
def RAIL_FLAG_BUSY : Fld := ⟨.RAIL_FLAG, 5, 5, .w1c, .l1, .num 0⟩
/-- RAIL_FLAG.TRIPCAUSE_I, R372 (0). -/
def RAIL_FLAG_TRIPCAUSE_I : Fld := ⟨.RAIL_FLAG, 4, 4, .w1c, .l1, .num 0⟩
/-- RAIL_FLAG.TRIPCAUSE_V, R372 (0). -/
def RAIL_FLAG_TRIPCAUSE_V : Fld := ⟨.RAIL_FLAG, 3, 3, .w1c, .l1, .num 0⟩
/-- RAIL_FLAG.ICROSS, R372 (0). -/
def RAIL_FLAG_ICROSS : Fld := ⟨.RAIL_FLAG, 2, 2, .w1c, .l1, .num 0⟩
/-- RAIL_FLAG.VCROSS, R372 (0). -/
def RAIL_FLAG_VCROSS : Fld := ⟨.RAIL_FLAG, 1, 1, .w1c, .l1, .num 0⟩
/-- RAIL_VRD.V, R372 (0x0000). -/
def RAIL_VRD_V : Fld := ⟨.RAIL_VRD, 15, 0, .ro, .l1, .num 0⟩
/-- RAIL_IRD.I, R372 (0x0000). -/
def RAIL_IRD_I : Fld := ⟨.RAIL_IRD, 15, 0, .ro, .l1, .num 0⟩
/-- RAIL_IPK.IPK, R372 (0x0000). -/
def RAIL_IPK_IPK : Fld := ⟨.RAIL_IPK, 15, 0, .rc, .l1, .num 0⟩
/-- RAIL_PROF.TARGET, R372 (0x0000). -/
def RAIL_PROF_TARGET : Fld := ⟨.RAIL_PROF, 31, 16, .rw, .l1, .num 0⟩
/-- RAIL_PROF.SLEW, R372 (0x00). -/
def RAIL_PROF_SLEW : Fld := ⟨.RAIL_PROF, 15, 8, .rw, .l1, .num 0⟩
/-- RAIL_PROF.EXIT, R372 (0). -/
def RAIL_PROF_EXIT : Fld := ⟨.RAIL_PROF, 0, 0, .rw, .l1, .num 0⟩
/-- AWG_CFG.HOSTV, R340 (0). -/
def AWG_CFG_HOSTV : Fld := ⟨.AWG_CFG, 31, 31, .rw, .l1, .num 0⟩
/-- AWG_CFG.HOST, R340 (0x00). -/
def AWG_CFG_HOST : Fld := ⟨.AWG_CFG, 27, 20, .rw, .l1, .num 0⟩
/-- AWG_CFG.DIV, R340 (0x0000). -/
def AWG_CFG_DIV : Fld := ⟨.AWG_CFG, 15, 0, .rw, .l1, .num 0⟩
/-- AWG_SPAN.MUTE, R340 (1). -/
def AWG_SPAN_MUTE : Fld := ⟨.AWG_SPAN, 8, 8, .rw, .l2, .num 1⟩
/-- AWG_SPAN.SPAN, R340 (0b000). -/
def AWG_SPAN_SPAN : Fld := ⟨.AWG_SPAN, 2, 0, .rw, .l1, .num 0⟩
/-- AWG_CTL.START, R340 (0). -/
def AWG_CTL_START : Fld := ⟨.AWG_CTL, 31, 31, .wo, .l2, .num 0⟩
/-- AWG_CTL.STOP, R340 (0). -/
def AWG_CTL_STOP : Fld := ⟨.AWG_CTL, 30, 30, .wo, .l2, .num 0⟩
/-- AWG_CTL.MEVA, R340 (0). -/
def AWG_CTL_MEVA : Fld := ⟨.AWG_CTL, 27, 27, .rw, .l1, .num 0⟩
/-- AWG_CTL.MEVB, R340 (0). -/
def AWG_CTL_MEVB : Fld := ⟨.AWG_CTL, 26, 26, .rw, .l1, .num 0⟩
/-- AWG_CTL.ENTRY, R340 (0x00_0000). -/
def AWG_CTL_ENTRY : Fld := ⟨.AWG_CTL, 21, 0, .rw, .l1, .num 0⟩
/-- AWG_STAT.STATE, R340 (0b00). -/
def AWG_STAT_STATE : Fld := ⟨.AWG_STAT, 31, 30, .ro, .l2, .num 0⟩
/-- AWG_STAT.MUTED, R340 (1). -/
def AWG_STAT_MUTED : Fld := ⟨.AWG_STAT, 29, 29, .ro, .l2, .num 1⟩
/-- AWG_STAT.HOSTBAD, R340 (0). -/
def AWG_STAT_HOSTBAD : Fld := ⟨.AWG_STAT, 28, 28, .w1c, .l2, .num 0⟩
/-- AWG_STAT.BUSY, R340 (0). -/
def AWG_STAT_BUSY : Fld := ⟨.AWG_STAT, 27, 27, .w1c, .l2, .num 0⟩
/-- AWG_STAT.UR, R340 (0). -/
def AWG_STAT_UR : Fld := ⟨.AWG_STAT, 26, 26, .w1c, .l2, .num 0⟩
/-- AWG_STAT.END, R340 (0). -/
def AWG_STAT_END : Fld := ⟨.AWG_STAT, 25, 25, .w1c, .l2, .num 0⟩
/-- AWG_STAT.FLTMUTE, R340 (0). -/
def AWG_STAT_FLTMUTE : Fld := ⟨.AWG_STAT, 24, 24, .w1c, .l2, .num 0⟩
/-- AWG_STAT.LASTEV, R340 (0b000). -/
def AWG_STAT_LASTEV : Fld := ⟨.AWG_STAT, 23, 21, .ro, .l2, .num 0⟩
/-- AWG_POS.POS, R340 (0x00_0000). -/
def AWG_POS_POS : Fld := ⟨.AWG_POS, 21, 0, .ro, .l2, .num 0⟩
/-- AWG_SAMPLES.SAMPLES, R340 (0x0000_0000). -/
def AWG_SAMPLES_SAMPLES : Fld := ⟨.AWG_SAMPLES, 31, 0, .ro, .l2, .num 0⟩
/-- AWG_IDLE.IDLE, R340 (from MTP). -/
def AWG_IDLE_IDLE : Fld := ⟨.AWG_IDLE, 13, 0, .rw, .l1, .num 0⟩
/-- AWG_ARMBY.ARMV, R340 (0). -/
def AWG_ARMBY_ARMV : Fld := ⟨.AWG_ARMBY, 31, 31, .ro, .l2, .num 0⟩
/-- AWG_ARMBY.POD, R340 (0x00). -/
def AWG_ARMBY_POD : Fld := ⟨.AWG_ARMBY, 7, 0, .ro, .l2, .num 0⟩
/-- STRM_CFG.EN, R249 (0). -/
def STRM_CFG_EN : Fld := ⟨.STRM_CFG, 31, 31, .rw, .l2, .num 0⟩
/-- STRM_CFG.QP, R249 (0x00). -/
def STRM_CFG_QP : Fld := ⟨.STRM_CFG, 29, 24, .rw, .l2, .num 0⟩
/-- STRM_CFG.STAGE_M1, R249 (0x03). -/
def STRM_CFG_STAGE_M1 : Fld := ⟨.STRM_CFG, 23, 16, .rw, .l2, .num 3⟩
/-- STRM_CFG.STAGE_BASE, R249 (0x0000). -/
def STRM_CFG_STAGE_BASE : Fld := ⟨.STRM_CFG, 15, 0, .rw, .l2, .num 0⟩
/-- STRM_STAT.UNDERRUN, R249 (0). -/
def STRM_STAT_UNDERRUN : Fld := ⟨.STRM_STAT, 31, 31, .w1c, .l2, .num 0⟩
/-- STRM_STAT.BUSY, R249 (0). -/
def STRM_STAT_BUSY : Fld := ⟨.STRM_STAT, 30, 30, .w1c, .l2, .num 0⟩
/-- STRM_STAT.STAGEBAD, R249 (0). -/
def STRM_STAT_STAGEBAD : Fld := ⟨.STRM_STAT, 29, 29, .w1c, .l2, .num 0⟩
/-- STRM_STAT.BLOCK, R249 (0b001). -/
def STRM_STAT_BLOCK : Fld := ⟨.STRM_STAT, 28, 26, .ro, .l2, .num 1⟩
/-- STRM_STAT.PODS, R249 (0). -/
def STRM_STAT_PODS : Fld := ⟨.STRM_STAT, 25, 17, .ro, .l2, .num 0⟩
/-- STRM_STAT.STAGED, R249 (0). -/
def STRM_STAT_STAGED : Fld := ⟨.STRM_STAT, 16, 8, .ro, .l2, .num 0⟩
/-- STRM_FED.FED, R249 (0). -/
def STRM_FED_FED : Fld := ⟨.STRM_FED, 31, 0, .ro, .l2, .num 0⟩
/-- STRM_URCNT.URCNT, R249 (0). -/
def STRM_URCNT_URCNT : Fld := ⟨.STRM_URCNT, 31, 16, .rc, .l2, .num 0⟩
/-- STRM_URCNT.LAG, R249 (0). -/
def STRM_URCNT_LAG : Fld := ⟨.STRM_URCNT, 15, 0, .ro, .l2, .num 0⟩
/-- POOL_STAT.PINNED, R250 (0). -/
def POOL_STAT_PINNED : Fld := ⟨.POOL_STAT, 0, 0, .w1c, .l2, .num 0⟩
/-- POOL_RD.RD, R250 (0x0000_0000). -/
def POOL_RD_RD : Fld := ⟨.POOL_RD, 31, 0, .rc, .l2, .num 0⟩
/-- LEDG_CFG.THRESH, R286 (0x00). -/
def LEDG_CFG_THRESH : Fld := ⟨.LEDG_CFG, 15, 8, .rw, .l1, .num 0⟩
/-- LEDG_CFG.NONE_EN, R286 (1). -/
def LEDG_CFG_NONE_EN : Fld := ⟨.LEDG_CFG, 1, 1, .rw, .l1, .num 1⟩
/-- LEDG_CFG.FULL_POL, R286 (0). -/
def LEDG_CFG_FULL_POL : Fld := ⟨.LEDG_CFG, 0, 0, .rw, .l1, .num 0⟩
/-- LEDG_WR.WRAP, R286 (0). -/
def LEDG_WR_WRAP : Fld := ⟨.LEDG_WR, 16, 16, .ro, .l1, .num 0⟩
/-- LEDG_WR.INDEX, R286 (0x0000). -/
def LEDG_WR_INDEX : Fld := ⟨.LEDG_WR, 15, 0, .ro, .l1, .num 0⟩
/-- LEDG_RD.WRAP, R286 (0). -/
def LEDG_RD_WRAP : Fld := ⟨.LEDG_RD, 16, 16, .rw, .l1, .num 0⟩
/-- LEDG_RD.INDEX, R286 (0x0000). -/
def LEDG_RD_INDEX : Fld := ⟨.LEDG_RD, 15, 0, .rw, .l1, .num 0⟩
/-- LEDG_STAT.ABOVE, R286 (0). -/
def LEDG_STAT_ABOVE : Fld := ⟨.LEDG_STAT, 4, 4, .ro, .l1, .num 0⟩
/-- LEDG_STAT.DROPPED, R286 (0). -/
def LEDG_STAT_DROPPED : Fld := ⟨.LEDG_STAT, 3, 3, .w1c, .l1, .num 0⟩
/-- LEDG_STAT.RDBAD, R286 (0). -/
def LEDG_STAT_RDBAD : Fld := ⟨.LEDG_STAT, 2, 2, .w1c, .l1, .num 0⟩
/-- LEDG_STAT.LOST, R286 (0). -/
def LEDG_STAT_LOST : Fld := ⟨.LEDG_STAT, 1, 1, .w1c, .l1, .num 0⟩
/-- LEDG_STAT.HOLDING, R286 (0). -/
def LEDG_STAT_HOLDING : Fld := ⟨.LEDG_STAT, 0, 0, .ro, .l1, .num 0⟩
/-- LEDG_FILL.FILL, R286 (0). -/
def LEDG_FILL_FILL : Fld := ⟨.LEDG_FILL, 16, 0, .ro, .l1, .num 0⟩
/-- LEDG_BINS.NONE, R286 (0xFD). -/
def LEDG_BINS_NONE : Fld := ⟨.LEDG_BINS, 23, 16, .rw, .l1, .num 253⟩
/-- LEDG_BINS.ERROR, R286 (0xFE). -/
def LEDG_BINS_ERROR : Fld := ⟨.LEDG_BINS, 15, 8, .rw, .l1, .num 254⟩
/-- LEDG_BINS.FENCED, R286 (0xFF). -/
def LEDG_BINS_FENCED : Fld := ⟨.LEDG_BINS, 7, 0, .rw, .l1, .num 255⟩
/-- LEDG_LOST.LOST, R286 (0x0000_0000). -/
def LEDG_LOST_LOST : Fld := ⟨.LEDG_LOST, 31, 0, .rc, .l1, .num 0⟩
/-- LEDG_DROP.DROP, R286 (0x0000_0000). -/
def LEDG_DROP_DROP : Fld := ⟨.LEDG_DROP, 31, 0, .rc, .l1, .num 0⟩
/-- CAP_GCTL.APPLY, R286 (0). -/
def CAP_GCTL_APPLY : Fld := ⟨.CAP_GCTL, 0, 0, .wo, .l1, .num 0⟩
/-- CAP_GSTAT.PARTBAD, R286 (0). -/
def CAP_GSTAT_PARTBAD : Fld := ⟨.CAP_GSTAT, 0, 0, .w1c, .l1, .num 0⟩
/-- CAP_APSEL.TGT, R286 (0b00). -/
def CAP_APSEL_TGT : Fld := ⟨.CAP_APSEL, 31, 30, .rw, .l1, .num 0⟩
/-- CAP_APSEL.WIN, R286 (0x0). -/
def CAP_APSEL_WIN : Fld := ⟨.CAP_APSEL, 3, 0, .rw, .l1, .num 0⟩
/-- ENG_CTL.GAP_FAIL, R162 (0). -/
def ENG_CTL_GAP_FAIL : Fld := ⟨.ENG_CTL, 0, 0, .rw, .l1, .num 0⟩
/-- ENG_STAT.STATE, R162 (0x0). -/
def ENG_STAT_STATE : Fld := ⟨.ENG_STAT, 31, 28, .ro, .l2, .num 0⟩
/-- ENG_STAT.ERR, R162 (0x00). -/
def ENG_STAT_ERR : Fld := ⟨.ENG_STAT, 21, 16, .ro, .l2, .num 0⟩
/-- ENG_STAT.GAP, R162 (0). -/
def ENG_STAT_GAP : Fld := ⟨.ENG_STAT, 0, 0, .w1c, .l2, .num 0⟩
/-- ENG_PC.PC, R162 (0x00_0000). -/
def ENG_PC_PC : Fld := ⟨.ENG_PC, 21, 0, .ro, .l2, .num 0⟩
/-- ENG_GAP.TICKS, R162 (0x0000_0000). -/
def ENG_GAP_TICKS : Fld := ⟨.ENG_GAP, 31, 0, .rc, .l2, .num 0⟩
/-- ENG_UCTL.ULIM, R196 (0xFF). -/
def ENG_UCTL_ULIM : Fld := ⟨.ENG_UCTL, 31, 24, .rw, .l2, .num 255⟩
/-- ENG_UCTL.BRK_EN, R196 (0). -/
def ENG_UCTL_BRK_EN : Fld := ⟨.ENG_UCTL, 4, 4, .rw, .l2, .num 0⟩
/-- ENG_UCTL.STEP, R196 (0). -/
def ENG_UCTL_STEP : Fld := ⟨.ENG_UCTL, 3, 3, .wo, .l2, .num 0⟩
/-- ENG_UCTL.RESUME, R196 (0). -/
def ENG_UCTL_RESUME : Fld := ⟨.ENG_UCTL, 2, 2, .wo, .l2, .num 0⟩
/-- ENG_UCTL.STOP, R196 (0). -/
def ENG_UCTL_STOP : Fld := ⟨.ENG_UCTL, 1, 1, .w1s, .l2, .num 0⟩
/-- ENG_UCTL.COMPAT, R196 (0). -/
def ENG_UCTL_COMPAT : Fld := ⟨.ENG_UCTL, 0, 0, .rw, .l1, .num 0⟩
/-- ENG_USTAT.STOPPED, R196 (0). -/
def ENG_USTAT_STOPPED : Fld := ⟨.ENG_USTAT, 31, 31, .ro, .l2, .num 0⟩
/-- ENG_USTAT.ATWORD, R196 (0). -/
def ENG_USTAT_ATWORD : Fld := ⟨.ENG_USTAT, 30, 30, .ro, .l2, .num 0⟩
/-- ENG_USTAT.SCAUSE, R196 (0b00). -/
def ENG_USTAT_SCAUSE : Fld := ⟨.ENG_USTAT, 29, 28, .ro, .l2, .num 0⟩
/-- ENG_USTAT.ATOM, R196 (0). -/
def ENG_USTAT_ATOM : Fld := ⟨.ENG_USTAT, 27, 27, .ro, .l2, .num 0⟩
/-- ENG_USTAT.USER, R196 (0). -/
def ENG_USTAT_USER : Fld := ⟨.ENG_USTAT, 26, 26, .ro, .l1, .num 0⟩
/-- ENG_USTAT.NANO_OK, R196 (0). -/
def ENG_USTAT_NANO_OK : Fld := ⟨.ENG_USTAT, 25, 25, .ro, .l1, .num 0⟩
/-- ENG_USTAT.MODE, R196 (0). -/
def ENG_USTAT_MODE : Fld := ⟨.ENG_USTAT, 24, 24, .ro, .l1, .num 0⟩
/-- ENG_USTAT.MDEPTH, R196 (0x0). -/
def ENG_USTAT_MDEPTH : Fld := ⟨.ENG_USTAT, 23, 20, .ro, .l2, .num 0⟩
/-- ENG_USTAT.ZNC, R196 (0b000). -/
def ENG_USTAT_ZNC : Fld := ⟨.ENG_USTAT, 13, 11, .ro, .l2, .num 0⟩
/-- ENG_USTAT.MPC, R196 (0x000). -/
def ENG_USTAT_MPC : Fld := ⟨.ENG_USTAT, 10, 0, .ro, .l2, .num 0⟩
/-- ENG_UBRK.UADDR, R196 (0x000). -/
def ENG_UBRK_UADDR : Fld := ⟨.ENG_UBRK, 10, 0, .rw, .l2, .num 0⟩
/-- ENG_UIMG.IMG_ID, R196 (0x0000_0000). -/
def ENG_UIMG_IMG_ID : Fld := ⟨.ENG_UIMG, 31, 0, .ro, .l1, .num 0⟩
/-- ENG_UINFO.NUOPS, R196 (0). -/
def ENG_UINFO_NUOPS : Fld := ⟨.ENG_UINFO, 20, 10, .ro, .l1, .num 0⟩
/-- ENG_UINFO.NNANO, R196 (0). -/
def ENG_UINFO_NNANO : Fld := ⟨.ENG_UINFO, 9, 0, .ro, .l1, .num 0⟩
/-- ENG_USVN.SVN, R196 (0x0000). -/
def ENG_USVN_SVN : Fld := ⟨.ENG_USVN, 15, 0, .ro, .l1, .num 0⟩
/-- ENG_UREG.U, R196 (0x0000_0000). -/
def ENG_UREG_U : Fld := ⟨.ENG_UREG, 31, 0, .ro, .l2, .num 0⟩
/-- ENG_RA_CTL.PMODE, R219 (0b00). -/
def ENG_RA_CTL_PMODE : Fld := ⟨.ENG_RA_CTL, 9, 8, .rw, .l2, .num 0⟩
/-- ENG_RA_CTL.SPR_EN, R219 (1). -/
def ENG_RA_CTL_SPR_EN : Fld := ⟨.ENG_RA_CTL, 4, 4, .rw, .l2, .num 1⟩
/-- ENG_RA_CTL.PCLR, R219 (0). -/
def ENG_RA_CTL_PCLR : Fld := ⟨.ENG_RA_CTL, 0, 0, .wo, .l2, .num 0⟩
/-- ENG_RA_STAT.OQ, R219 (0). -/
def ENG_RA_STAT_OQ : Fld := ⟨.ENG_RA_STAT, 30, 24, .ro, .l2, .num 0⟩
/-- ENG_RA_STAT.SEB, R219 (0). -/
def ENG_RA_STAT_SEB : Fld := ⟨.ENG_RA_STAT, 23, 18, .ro, .l2, .num 0⟩
/-- ENG_RA_STAT.CKPT, R219 (0). -/
def ENG_RA_STAT_CKPT : Fld := ⟨.ENG_RA_STAT, 17, 15, .ro, .l2, .num 0⟩
/-- ENG_RA_STAT.SPROUT, R219 (0). -/
def ENG_RA_STAT_SPROUT : Fld := ⟨.ENG_RA_STAT, 14, 10, .ro, .l2, .num 0⟩
/-- ENG_RA_STAT.SPSTOP, R219 (0b000). -/
def ENG_RA_STAT_SPSTOP : Fld := ⟨.ENG_RA_STAT, 9, 7, .ro, .l2, .num 0⟩
/-- ENG_RA_STAT.STALL, R219 (0b000). -/
def ENG_RA_STAT_STALL : Fld := ⟨.ENG_RA_STAT, 6, 4, .ro, .l2, .num 0⟩
/-- ENG_RA_STAT.SPDROP, R219 (0). -/
def ENG_RA_STAT_SPDROP : Fld := ⟨.ENG_RA_STAT, 0, 0, .w1c, .l2, .num 0⟩
/-- ENG_RA_QSET.GANG, R219 (1). -/
def ENG_RA_QSET_GANG : Fld := ⟨.ENG_RA_QSET, 6, 6, .rw, .l2, .num 1⟩
/-- ENG_RA_QSET.TSET, R219 (0x00). -/
def ENG_RA_QSET_TSET : Fld := ⟨.ENG_RA_QSET, 5, 0, .rw, .l2, .num 0⟩
/-- ENG_RA_QRES.VALID, R219 (0). -/
def ENG_RA_QRES_VALID : Fld := ⟨.ENG_RA_QRES, 31, 31, .ro, .l2, .num 0⟩
/-- ENG_RA_QRES.DEC, R219 (0). -/
def ENG_RA_QRES_DEC : Fld := ⟨.ENG_RA_QRES, 16, 0, .ro, .l2, .num 0⟩
/-- ENG_RA_QSH.SHADOW1, R219 (0). -/
def ENG_RA_QSH_SHADOW1 : Fld := ⟨.ENG_RA_QSH, 16, 0, .ro, .l2, .num 0⟩
/-- ENG_RA_SHADOW.EARLY, R219 (0). -/
def ENG_RA_SHADOW_EARLY : Fld := ⟨.ENG_RA_SHADOW, 31, 31, .ro, .l2, .num 0⟩
/-- ENG_RA_SHADOW.ITER, R219 (0). -/
def ENG_RA_SHADOW_ITER : Fld := ⟨.ENG_RA_SHADOW, 16, 0, .ro, .l2, .num 0⟩
/-- ENG_RA_MISP.MISP, R219 (0x0000_0000). -/
def ENG_RA_MISP_MISP : Fld := ⟨.ENG_RA_MISP, 31, 0, .rc, .l2, .num 0⟩
/-- ENG_RA_RES.RES, R219 (0x0000_0000). -/
def ENG_RA_RES_RES : Fld := ⟨.ENG_RA_RES, 31, 0, .rc, .l2, .num 0⟩
/-- ENG_RA_SQ.SQ, R219 (0x0000_0000). -/
def ENG_RA_SQ_SQ : Fld := ⟨.ENG_RA_SQ, 31, 0, .rc, .l2, .num 0⟩
/-- ENG_RA_HOLD.HOLD, R219 (0x0000_0000). -/
def ENG_RA_HOLD_HOLD : Fld := ⟨.ENG_RA_HOLD, 31, 0, .rc, .l2, .num 0⟩
/-- ENG_SEG.STATE, R248 (0b111). -/
def ENG_SEG_STATE : Fld := ⟨.ENG_SEG, 31, 29, .ro, .l2, .num 7⟩
/-- ENG_SEG.CONSUME, R248 (0). -/
def ENG_SEG_CONSUME : Fld := ⟨.ENG_SEG, 28, 28, .ro, .l2, .num 0⟩
/-- ENG_SEG.KIND, R248 (0b00). -/
def ENG_SEG_KIND : Fld := ⟨.ENG_SEG, 27, 26, .ro, .l2, .num 0⟩
/-- ENG_SEG.POLICY, R248 (0b00). -/
def ENG_SEG_POLICY : Fld := ⟨.ENG_SEG, 25, 24, .ro, .l2, .num 0⟩
/-- ENG_SEG.LEN_M1, R248 (0x00). -/
def ENG_SEG_LEN_M1 : Fld := ⟨.ENG_SEG, 23, 16, .ro, .l2, .num 0⟩
/-- ENG_SEG.LBASE, R248 (0x00). -/
def ENG_SEG_LBASE : Fld := ⟨.ENG_SEG, 15, 8, .ro, .l2, .num 0⟩
/-- ENG_SEG.NEXT_V, R248 (0). -/
def ENG_SEG_NEXT_V : Fld := ⟨.ENG_SEG, 7, 7, .ro, .l2, .num 0⟩
/-- ENG_SEG.NEXT, R248 (0x00). -/
def ENG_SEG_NEXT : Fld := ⟨.ENG_SEG, 5, 0, .ro, .l2, .num 0⟩
/-- ENG_PM_CTL.STALL_TMO, R248 (0xFFFF). -/
def ENG_PM_CTL_STALL_TMO : Fld := ⟨.ENG_PM_CTL, 31, 16, .rw, .l2, .num 0xffff⟩
/-- ENG_PM_PAD.PAD, R248 (0x0000_2222). -/
def ENG_PM_PAD_PAD : Fld := ⟨.ENG_PM_PAD, 31, 0, .rw, .l2, .num 0x2222⟩
/-- ENG_PM_STAT.LASTPOL, R248 (0b000). -/
def ENG_PM_STAT_LASTPOL : Fld := ⟨.ENG_PM_STAT, 26, 24, .ro, .l2, .num 0⟩
/-- ENG_PM_STAT.WRACT, R248 (0). -/
def ENG_PM_STAT_WRACT : Fld := ⟨.ENG_PM_STAT, 8, 8, .w1c, .l2, .num 0⟩
/-- ENG_PM_STAT.LOADERR, R248 (0). -/
def ENG_PM_STAT_LOADERR : Fld := ⟨.ENG_PM_STAT, 7, 7, .w1c, .l2, .num 0⟩
/-- ENG_PM_STAT.UR, R248 (0). -/
def ENG_PM_STAT_UR : Fld := ⟨.ENG_PM_STAT, 6, 6, .w1c, .l2, .num 0⟩
/-- ENG_PM_STAT.CURSEG, R248 (0x00). -/
def ENG_PM_STAT_CURSEG : Fld := ⟨.ENG_PM_STAT, 5, 0, .ro, .l2, .num 0⟩
/-- ENG_PM_UR.UR, R248 (0x0000_0000). -/
def ENG_PM_UR_UR : Fld := ⟨.ENG_PM_UR, 31, 0, .rc, .l2, .num 0⟩
/-- ENG_PM_PADN.PADN, R248 (0x0000_0000). -/
def ENG_PM_PADN_PADN : Fld := ⟨.ENG_PM_PADN, 31, 0, .rc, .l2, .num 0⟩
/-- ENG_PM_XWAIT.XWAIT, R248 (0x0000_0000). -/
def ENG_PM_XWAIT_XWAIT : Fld := ⟨.ENG_PM_XWAIT, 31, 0, .rc, .l2, .num 0⟩
/-- ENG_PM_QSEG.QSEG, R248 (0x00). -/
def ENG_PM_QSEG_QSEG : Fld := ⟨.ENG_PM_QSEG, 5, 0, .rw, .l2, .num 0⟩
/-- ENG_PM_QREM.QREM, R248 (0x00_0000). -/
def ENG_PM_QREM_QREM : Fld := ⟨.ENG_PM_QREM, 23, 0, .ro, .l2, .num 0⟩
/-- ENG_PM_QSRC.QSRC, R248 (0x0000). -/
def ENG_PM_QSRC_QSRC : Fld := ⟨.ENG_PM_QSRC, 15, 0, .ro, .l2, .num 0⟩
/-- POD_TIM_CTL.RECAL_DT, R121 (0x5). -/
def POD_TIM_CTL_RECAL_DT : Fld := ⟨.POD_TIM_CTL, 11, 8, .rw, .l1, .num 5⟩
/-- POD_TIM_CTL.EYE_RUN, R121 (0). -/
def POD_TIM_CTL_EYE_RUN : Fld := ⟨.POD_TIM_CTL, 1, 1, .wo, .l1, .num 0⟩
/-- POD_TIM_CTL.RECAL_AUTO, R121 (1). -/
def POD_TIM_CTL_RECAL_AUTO : Fld := ⟨.POD_TIM_CTL, 0, 0, .rw, .l1, .num 1⟩
/-- POD_TIM_STAT.DESKEW, R121 (0). -/
def POD_TIM_STAT_DESKEW : Fld := ⟨.POD_TIM_STAT, 13, 13, .ro, .l1, .num 0⟩
/-- POD_TIM_STAT.RECAL_DUE, R121 (0). -/
def POD_TIM_STAT_RECAL_DUE : Fld := ⟨.POD_TIM_STAT, 12, 12, .ro, .l1, .num 0⟩
/-- POD_TIM_STAT.EYE_LOW, R121 (0). -/
def POD_TIM_STAT_EYE_LOW : Fld := ⟨.POD_TIM_STAT, 11, 11, .w1c, .l1, .num 0⟩
/-- POD_TIM_STAT.EYE_BUSY, R121 (0). -/
def POD_TIM_STAT_EYE_BUSY : Fld := ⟨.POD_TIM_STAT, 10, 10, .ro, .l1, .num 0⟩
/-- POD_TIM_STAT.COLLIDE, R121 (0). -/
def POD_TIM_STAT_COLLIDE : Fld := ⟨.POD_TIM_STAT, 9, 9, .w1c, .l1, .num 0⟩
/-- POD_TIM_STAT.UNLOADED, R121 (0). -/
def POD_TIM_STAT_UNLOADED : Fld := ⟨.POD_TIM_STAT, 8, 8, .w1c, .l1, .num 0⟩
/-- POD_TIM_STAT.TSET, R121 (0x00). -/
def POD_TIM_STAT_TSET : Fld := ⟨.POD_TIM_STAT, 5, 0, .ro, .l1, .num 0⟩
/-- POD_TIM_COLL.DROPPED, R121 (0x0000). -/
def POD_TIM_COLL_DROPPED : Fld := ⟨.POD_TIM_COLL, 15, 0, .rc, .l1, .num 0⟩
/-- POD_TIM_EYE.EYE_M, R121 (0x0000). -/
def POD_TIM_EYE_EYE_M : Fld := ⟨.POD_TIM_EYE, 31, 16, .ro, .l1, .num 0⟩
/-- POD_TIM_EYE.EYE_F, R121 (from OTP). -/
def POD_TIM_EYE_EYE_F : Fld := ⟨.POD_TIM_EYE, 15, 0, .ro, .l0, .num 0⟩
/-- POD_TIM_LOADED_LO.LOADED_LO, R121 (0x0000_0000). -/
def POD_TIM_LOADED_LO_LOADED_LO : Fld := ⟨.POD_TIM_LOADED_LO, 31, 0, .ro, .l1, .num 0⟩
/-- POD_TIM_LOADED_HI.LOADED_HI, R121 (0x0000_0000). -/
def POD_TIM_LOADED_HI_LOADED_HI : Fld := ⟨.POD_TIM_LOADED_HI, 31, 0, .ro, .l1, .num 0⟩
/-- POD_LVL_CFG.SETTLE_MASK, R96 (0). -/
def POD_LVL_CFG_SETTLE_MASK : Fld := ⟨.POD_LVL_CFG, 8, 8, .rw, .l1, .num 0⟩
/-- POD_LVL_CFG.SETTLE, R96 (0x47). -/
def POD_LVL_CFG_SETTLE : Fld := ⟨.POD_LVL_CFG, 7, 0, .rw, .l1, .num 71⟩
/-- POD_LVL_STAT.APPLIED, R96 (0). -/
def POD_LVL_STAT_APPLIED : Fld := ⟨.POD_LVL_STAT, 5, 5, .ro, .l1, .num 0⟩
/-- POD_LVL_STAT.SETTLING, R96 (0). -/
def POD_LVL_STAT_SETTLING : Fld := ⟨.POD_LVL_STAT, 4, 4, .ro, .l1, .num 0⟩
/-- POD_LVL_STAT.LSET, R96 (0x0). -/
def POD_LVL_STAT_LSET : Fld := ⟨.POD_LVL_STAT, 3, 0, .ro, .l1, .num 0⟩
/-- POD_LVL_MASKED.MASKED, R96 (0x0000). -/
def POD_LVL_MASKED_MASKED : Fld := ⟨.POD_LVL_MASKED, 15, 0, .rc, .l1, .num 0⟩
/-- CAP_CFG.SCALE, R285 (0x00). -/
def CAP_CFG_SCALE : Fld := ⟨.CAP_CFG, 28, 24, .rw, .l1, .num 0⟩
/-- CAP_CFG.MAP_UNITS, R285 (0x0). -/
def CAP_CFG_MAP_UNITS : Fld := ⟨.CAP_CFG, 23, 20, .rw, .l1, .num 0⟩
/-- CAP_CFG.FIRST_N, R285 (0x040). -/
def CAP_CFG_FIRST_N : Fld := ⟨.CAP_CFG, 19, 8, .rw, .l1, .num 64⟩
/-- CAP_CFG.FMODE, R285 (0b01). -/
def CAP_CFG_FMODE : Fld := ⟨.CAP_CFG, 1, 0, .rw, .l1, .num 1⟩
/-- CAP_PART.SIZE, R285 (0x010). -/
def CAP_PART_SIZE : Fld := ⟨.CAP_PART, 27, 16, .ro, .l1, .num 16⟩
/-- CAP_PART.BASE, R285 (16 × n). -/
def CAP_PART_BASE : Fld := ⟨.CAP_PART, 11, 0, .ro, .l1, .sixteenN⟩
/-- CAP_PNEXT.SIZE, R285 (0x010). -/
def CAP_PNEXT_SIZE : Fld := ⟨.CAP_PNEXT, 27, 16, .rw, .l1, .num 16⟩
/-- CAP_PNEXT.BASE, R285 (16 × n). -/
def CAP_PNEXT_BASE : Fld := ⟨.CAP_PNEXT, 11, 0, .rw, .l1, .sixteenN⟩
/-- CAP_MAPSTART.MAPSTART, R285 (0x0000_0000). -/
def CAP_MAPSTART_MAPSTART : Fld := ⟨.CAP_MAPSTART, 31, 0, .rw, .l1, .num 0⟩
/-- CAP_WR.WRAP, R285 (0). -/
def CAP_WR_WRAP : Fld := ⟨.CAP_WR, 24, 24, .ro, .l2, .num 0⟩
/-- CAP_WR.OFFSET, R285 (0x00_0000). -/
def CAP_WR_OFFSET : Fld := ⟨.CAP_WR, 23, 0, .ro, .l2, .num 0⟩
/-- CAP_RD.WRAP, R285 (0). -/
def CAP_RD_WRAP : Fld := ⟨.CAP_RD, 24, 24, .rw, .l2, .num 0⟩
/-- CAP_RD.OFFSET, R285 (0x00_0000). -/
def CAP_RD_OFFSET : Fld := ⟨.CAP_RD, 23, 0, .rw, .l2, .num 0⟩
/-- CAP_STAT.EFIFO, R285 (0). -/
def CAP_STAT_EFIFO : Fld := ⟨.CAP_STAT, 22, 16, .ro, .l2, .num 0⟩
/-- CAP_STAT.FULL, R285 (0). -/
def CAP_STAT_FULL : Fld := ⟨.CAP_STAT, 10, 10, .ro, .l2, .num 0⟩
/-- CAP_STAT.CFGBAD, R285 (0). -/
def CAP_STAT_CFGBAD : Fld := ⟨.CAP_STAT, 9, 9, .w1c, .l2, .num 0⟩
/-- CAP_STAT.DEAD, R285 (0). -/
def CAP_STAT_DEAD : Fld := ⟨.CAP_STAT, 8, 8, .w1c, .l2, .num 0⟩
/-- CAP_STAT.ERATE, R285 (0). -/
def CAP_STAT_ERATE : Fld := ⟨.CAP_STAT, 7, 7, .w1c, .l2, .num 0⟩
/-- CAP_STAT.BUSY, R285 (0). -/
def CAP_STAT_BUSY : Fld := ⟨.CAP_STAT, 6, 6, .w1c, .l2, .num 0⟩
/-- CAP_STAT.RDBAD, R285 (0). -/
def CAP_STAT_RDBAD : Fld := ⟨.CAP_STAT, 5, 5, .w1c, .l2, .num 0⟩
/-- CAP_STAT.FIRSTDONE, R285 (0). -/
def CAP_STAT_FIRSTDONE : Fld := ⟨.CAP_STAT, 4, 4, .ro, .l2, .num 0⟩
/-- CAP_STAT.MAPOVR, R285 (0). -/
def CAP_STAT_MAPOVR : Fld := ⟨.CAP_STAT, 3, 3, .w1c, .l2, .num 0⟩
/-- CAP_STAT.FLOSS, R285 (0). -/
def CAP_STAT_FLOSS : Fld := ⟨.CAP_STAT, 2, 2, .w1c, .l2, .num 0⟩
/-- CAP_STAT.ELOSS, R285 (0). -/
def CAP_STAT_ELOSS : Fld := ⟨.CAP_STAT, 1, 1, .w1c, .l2, .num 0⟩
/-- CAP_ELOG.BUDGET, R285 (0x0000). -/
def CAP_ELOG_BUDGET : Fld := ⟨.CAP_ELOG, 15, 0, .rw, .l1, .num 0⟩
/-- CAP_PFC.PFC, R285 (0x0000_0000). -/
def CAP_PFC_PFC : Fld := ⟨.CAP_PFC, 31, 0, .ro, .l2, .num 0⟩
/-- CAP_LOST.LOST, R285 (0x0000_0000). -/
def CAP_LOST_LOST : Fld := ⟨.CAP_LOST, 31, 0, .rc, .l2, .num 0⟩
/-- CAP_FILL.FILL, R285 (0). -/
def CAP_FILL_FILL : Fld := ⟨.CAP_FILL, 24, 0, .ro, .l2, .num 0⟩
/-- CAP_THR.THR, R285 (0x000). -/
def CAP_THR_THR : Fld := ⟨.CAP_THR, 11, 0, .rw, .l1, .num 0⟩
/-- PIN_CFG.SETTLE, R95 (0x10). -/
def PIN_CFG_SETTLE : Fld := ⟨.PIN_CFG, 23, 16, .rw, .l1, .num 16⟩
/-- PIN_CFG.FILT_CMP, R95 (0). -/
def PIN_CFG_FILT_CMP : Fld := ⟨.PIN_CFG, 11, 11, .rw, .l1, .num 0⟩
/-- PIN_CFG.FSEL, R95 (0b011). -/
def PIN_CFG_FSEL : Fld := ⟨.PIN_CFG, 10, 8, .rw, .l1, .num 3⟩
/-- PIN_CFG.FILT, R95 (0b01). -/
def PIN_CFG_FILT : Fld := ⟨.PIN_CFG, 7, 6, .rw, .l1, .num 1⟩
/-- PIN_CFG.HYST, R95 (0b00). -/
def PIN_CFG_HYST : Fld := ⟨.PIN_CFG, 5, 4, .rw, .l1, .num 0⟩
/-- PIN_CFG.OFF_STATE, R95 (0b00). -/
def PIN_CFG_OFF_STATE : Fld := ⟨.PIN_CFG, 3, 2, .rw, .l1, .num 0⟩
/-- PIN_CFG.DRV_EN, R95 (0). -/
def PIN_CFG_DRV_EN : Fld := ⟨.PIN_CFG, 1, 1, .rw, .l3, .num 0⟩
/-- PIN_CFG.USE, R95 (0). -/
def PIN_CFG_USE : Fld := ⟨.PIN_CFG, 0, 0, .rw, .l1, .num 0⟩
/-- PIN_WATCH.REARM, R95 (0x0). -/
def PIN_WATCH_REARM : Fld := ⟨.PIN_WATCH, 19, 16, .rw, .l1, .num 0⟩
/-- PIN_WATCH.TRIP_EN, R95 (0). -/
def PIN_WATCH_TRIP_EN : Fld := ⟨.PIN_WATCH, 9, 9, .rw, .l1, .num 0⟩
/-- PIN_WATCH.WAKE, R95 (0). -/
def PIN_WATCH_WAKE : Fld := ⟨.PIN_WATCH, 8, 8, .rw, .l1, .num 0⟩
/-- PIN_WATCH.EV_RATE, R95 (0). -/
def PIN_WATCH_EV_RATE : Fld := ⟨.PIN_WATCH, 7, 7, .rw, .l1, .num 0⟩
/-- PIN_WATCH.EV_INIT, R95 (0). -/
def PIN_WATCH_EV_INIT : Fld := ⟨.PIN_WATCH, 6, 6, .rw, .l1, .num 0⟩
/-- PIN_WATCH.EV_MODE, R95 (0). -/
def PIN_WATCH_EV_MODE : Fld := ⟨.PIN_WATCH, 5, 5, .rw, .l1, .num 0⟩
/-- PIN_WATCH.TARGET, R95 (0b10). -/
def PIN_WATCH_TARGET : Fld := ⟨.PIN_WATCH, 4, 3, .rw, .l1, .num 2⟩
/-- PIN_WATCH.MODE, R95 (0b01). -/
def PIN_WATCH_MODE : Fld := ⟨.PIN_WATCH, 2, 1, .rw, .l1, .num 1⟩
/-- PIN_WATCH.EN, R95 (0). -/
def PIN_WATCH_EN : Fld := ⟨.PIN_WATCH, 0, 0, .rw, .l1, .num 0⟩
/-- PIN_STAT.RAISES, R95 (0x00). -/
def PIN_STAT_RAISES : Fld := ⟨.PIN_STAT, 23, 16, .ro, .l1, .num 0⟩
/-- PIN_STAT.LSET, R95 (0x0). -/
def PIN_STAT_LSET : Fld := ⟨.PIN_STAT, 15, 12, .ro, .l1, .num 0⟩
/-- PIN_STAT.SAFE, R95 (1). -/
def PIN_STAT_SAFE : Fld := ⟨.PIN_STAT, 11, 11, .ro, .l1, .num 1⟩
/-- PIN_STAT.SETTLING, R95 (0). -/
def PIN_STAT_SETTLING : Fld := ⟨.PIN_STAT, 10, 10, .ro, .l1, .num 0⟩
/-- PIN_STAT.BIAS, R95 (0b101). -/
def PIN_STAT_BIAS : Fld := ⟨.PIN_STAT, 9, 7, .ro, .l1, .num 5⟩
/-- PIN_STAT.DRV, R95 (0b000). -/
def PIN_STAT_DRV : Fld := ⟨.PIN_STAT, 6, 4, .ro, .l1, .num 0⟩
/-- PIN_STAT.RAW, R95 (0b01). -/
def PIN_STAT_RAW : Fld := ⟨.PIN_STAT, 3, 2, .ro, .l1, .num 1⟩
/-- PIN_STAT.FSTATE, R95 (0b11). -/
def PIN_STAT_FSTATE : Fld := ⟨.PIN_STAT, 1, 0, .ro, .l1, .num 3⟩
/-- PIN_FLAG.NOWATCH, R95 (0). -/
def PIN_FLAG_NOWATCH : Fld := ⟨.PIN_FLAG, 4, 4, .w1c, .l1, .num 0⟩
/-- PIN_FLAG.CFG_BUSY, R95 (0). -/
def PIN_FLAG_CFG_BUSY : Fld := ⟨.PIN_FLAG, 3, 3, .w1c, .l1, .num 0⟩
/-- PIN_FLAG.TRIPCAUSE, R95 (0). -/
def PIN_FLAG_TRIPCAUSE : Fld := ⟨.PIN_FLAG, 2, 2, .w1c, .l1, .num 0⟩
/-- PIN_FLAG.STUCK, R95 (0). -/
def PIN_FLAG_STUCK : Fld := ⟨.PIN_FLAG, 1, 1, .w1c, .l1, .num 0⟩
/-- PIN_FLAG.RATE, R95 (0). -/
def PIN_FLAG_RATE : Fld := ⟨.PIN_FLAG, 0, 0, .w1c, .l1, .num 0⟩
/-- PIN_LVL_A.VIH, R95 (safe code). -/
def PIN_LVL_A_VIH : Fld := ⟨.PIN_LVL_A, 29, 16, .ro, .l1, .num 0xCCD⟩
/-- PIN_LVL_A.VIL, R95 (safe code). -/
def PIN_LVL_A_VIL : Fld := ⟨.PIN_LVL_A, 13, 0, .ro, .l1, .num 0xCCD⟩
/-- PIN_LVL_B.VTT, R95 (safe code). -/
def PIN_LVL_B_VTT : Fld := ⟨.PIN_LVL_B, 29, 16, .ro, .l1, .num 0xCCD⟩
/-- PIN_LVL_B.VOH, R95 (safe code). -/
def PIN_LVL_B_VOH : Fld := ⟨.PIN_LVL_B, 13, 0, .ro, .l1, .num 0xCCD⟩
/-- PIN_LVL_C.VOL, R95 (safe code). -/
def PIN_LVL_C_VOL : Fld := ⟨.PIN_LVL_C, 29, 16, .ro, .l1, .num 0xCCD⟩
/-- PIN_LVL_C.ILOAD, R95 (safe code). -/
def PIN_LVL_C_ILOAD : Fld := ⟨.PIN_LVL_C, 13, 0, .ro, .l1, .num 0x0⟩
/-- PIN_LVL_D.SAFE, R95 (1). -/
def PIN_LVL_D_SAFE : Fld := ⟨.PIN_LVL_D, 20, 20, .ro, .l1, .num 1⟩
/-- PIN_LVL_D.LSET, R95 (0x0). -/
def PIN_LVL_D_LSET : Fld := ⟨.PIN_LVL_D, 19, 16, .ro, .l1, .num 0⟩
/-- PIN_LVL_D.VCOM, R95 (safe code). -/
def PIN_LVL_D_VCOM : Fld := ⟨.PIN_LVL_D, 13, 0, .ro, .l1, .num 0xCCD⟩
/-- PIN_REARM_CNT.EVENTS, R95 (0x0000). -/
def PIN_REARM_CNT_EVENTS : Fld := ⟨.PIN_REARM_CNT, 15, 0, .rc, .l1, .num 0⟩
/-- PIN_PMU_CTL.GO, R339 (0). -/
def PIN_PMU_CTL_GO : Fld := ⟨.PIN_PMU_CTL, 31, 31, .wo, .l2, .num 0⟩
/-- PIN_PMU_CTL.DISC, R339 (0). -/
def PIN_PMU_CTL_DISC : Fld := ⟨.PIN_PMU_CTL, 30, 30, .wo, .l2, .num 0⟩
/-- PIN_PMU_CTL.SETUP, R339 (0x000). -/
def PIN_PMU_CTL_SETUP : Fld := ⟨.PIN_PMU_CTL, 8, 0, .rw, .l1, .num 0⟩
/-- PIN_PMU_STAT.STATE, R339 (0b00). -/
def PIN_PMU_STAT_STATE : Fld := ⟨.PIN_PMU_STAT, 31, 30, .ro, .l2, .num 0⟩
/-- PIN_PMU_STAT.CONN, R339 (0). -/
def PIN_PMU_STAT_CONN : Fld := ⟨.PIN_PMU_STAT, 29, 29, .ro, .l2, .num 0⟩
/-- PIN_PMU_STAT.KEPT, R339 (0). -/
def PIN_PMU_STAT_KEPT : Fld := ⟨.PIN_PMU_STAT, 28, 28, .ro, .l2, .num 0⟩
/-- PIN_PMU_STAT.RANGE, R339 (0b000). -/
def PIN_PMU_STAT_RANGE : Fld := ⟨.PIN_PMU_STAT, 27, 25, .ro, .l2, .num 0⟩
/-- PIN_PMU_STAT.MODE, R339 (0b00). -/
def PIN_PMU_STAT_MODE : Fld := ⟨.PIN_PMU_STAT, 24, 23, .ro, .l2, .num 0⟩
/-- PIN_PMU_STAT.DRVBLK, R339 (0). -/
def PIN_PMU_STAT_DRVBLK : Fld := ⟨.PIN_PMU_STAT, 22, 22, .w1c, .l2, .num 0⟩
/-- PIN_PMU_STAT.REG, R339 (0). -/
def PIN_PMU_STAT_REG : Fld := ⟨.PIN_PMU_STAT, 21, 21, .ro, .l2, .num 0⟩
/-- PIN_PMU_STAT.OWNV, R339 (0). -/
def PIN_PMU_STAT_OWNV : Fld := ⟨.PIN_PMU_STAT, 16, 16, .ro, .l2, .num 0⟩
/-- PIN_PMU_STAT.OWNER, R339 (0x00). -/
def PIN_PMU_STAT_OWNER : Fld := ⟨.PIN_PMU_STAT, 15, 8, .ro, .l2, .num 0⟩
/-- PIN_PMU_RES.RES, R339 (0x0000_0000). -/
def PIN_PMU_RES_RES : Fld := ⟨.PIN_PMU_RES, 31, 0, .ro, .l2, .num 0⟩
/-- PIN_TDC_CAL.VALID, R311 (0). -/
def PIN_TDC_CAL_VALID : Fld := ⟨.PIN_TDC_CAL, 31, 31, .ro, .l1, .num 0⟩
/-- PIN_TDC_CAL.CALBAD, R311 (0). -/
def PIN_TDC_CAL_CALBAD : Fld := ⟨.PIN_TDC_CAL, 30, 30, .w1c, .l1, .num 0⟩
/-- PIN_TDC_CAL.RESID, R311 (0x0000). -/
def PIN_TDC_CAL_RESID : Fld := ⟨.PIN_TDC_CAL, 15, 0, .ro, .l1, .num 0⟩
/-- PIN_TDC_SRC.SRC, R311 (0). -/
def PIN_TDC_SRC_SRC : Fld := ⟨.PIN_TDC_SRC, 31, 31, .ro, .l2, .num 0⟩
/-- PIN_TDC_SRC.UNIT, R311 (0x00). -/
def PIN_TDC_SRC_UNIT : Fld := ⟨.PIN_TDC_SRC, 5, 0, .ro, .l2, .num 0⟩
end F

/-- The fields of each register, from the top bit down; bits no field names are reserved (R5). -/
def Reg.fields : Reg → List Fld
  | .GLB_ID => [F.GLB_ID_PART, F.GLB_ID_REV]
  | .GLB_ROLE => [F.GLB_ROLE_ANCHOR, F.GLB_ROLE_TMASTER, F.GLB_ROLE_NUMV, F.GLB_ROLE_DEVNUM, F.GLB_ROLE_POS_X, F.GLB_ROLE_POS_Y, F.GLB_ROLE_DEVCOUNT]
  | .GLB_UNITS => [F.GLB_UNITS_ECLK_LOCK, F.GLB_UNITS_XTAL_OK, F.GLB_UNITS_PD_POWERED, F.GLB_UNITS_PD_OK]
  | .GLB_SAFECODE => [F.GLB_SAFECODE_OTHER_DEF, F.GLB_SAFECODE_PIN_DEF]
  | .RST_STAT => [F.RST_STAT_STAGE, F.RST_STAT_LEVEL, F.RST_STAT_SRC, F.RST_STAT_DEFER, F.RST_STAT_ASSERT, F.RST_STAT_TRIES, F.RST_STAT_STRAP]
  | .RST_CTL => [F.RST_CTL_WDFIRE, F.RST_CTL_CONTINUE, F.RST_CTL_LEVEL]
  | .RST_MAP => [F.RST_MAP_MAP, F.RST_MAP_POR]
  | .RST_NVSEL => [F.RST_NVSEL_NEWV, F.RST_NVSEL_NEWACK, F.RST_NVSEL_NEWEST, F.RST_NVSEL_SLOT]
  | .RST_NVACK => [F.RST_NVACK_ACK]
  | .RST_NVREC => [F.RST_NVREC_REC]
  | .TRUST_STAT => [F.TRUST_STAT_FWSRC, F.TRUST_STAT_KEYSLOT, F.TRUST_STAT_REVOKED, F.TRUST_STAT_FWCNT, F.TRUST_STAT_UCCNT, F.TRUST_STAT_BUSY, F.TRUST_STAT_MTPLOCK]
  | .TRUST_FWID => [F.TRUST_FWID_IMG_ID]
  | .TRUST_FWSVN => [F.TRUST_FWSVN_ROMVER, F.TRUST_FWSVN_SVN]
  | .TRUST_CTL => [F.TRUST_CTL_OP, F.TRUST_CTL_VALUE]
  | .TRUST_RES => [F.TRUST_RES_RESULT]
  | .WT_NOW_LO => [F.WT_NOW_LO_NOW_LO]
  | .WT_NOW_HI => [F.WT_NOW_HI_NOW_HI]
  | .WT_EPOCH => [F.WT_EPOCH_EPOCH]
  | .WT_CTL => [F.WT_CTL_MASTER_DEV, F.WT_CTL_REFOUT_SEL, F.WT_CTL_REFOUT_EN, F.WT_CTL_REF_SEL]
  | .WT_XTAL => [F.WT_XTAL_TCOMP_EN, F.WT_XTAL_TCOMP, F.WT_XTAL_AGE]
  | .WT_OFFSET => [F.WT_OFFSET_OFFSET]
  | .WT_STAT => [F.WT_STAT_MASTER, F.WT_STAT_WRAP, F.WT_STAT_SNAP_BUSY, F.WT_STAT_JUMPED, F.WT_STAT_REF_LOST, F.WT_STAT_REF_OK, F.WT_STAT_SYNC]
  | .WT_WM => [F.WT_WM_PERIOD, F.WT_WM_EN]
  | .WT_WM_LAST_LO => [F.WT_WM_LAST_LO_LAST_LO]
  | .WT_WM_LAST_HI => [F.WT_WM_LAST_HI_LAST_HI]
  | .WT_SNAP_TLO => [F.WT_SNAP_TLO_TLO]
  | .WT_SNAP_THI => [F.WT_SNAP_THI_THI]
  | .WT_SNAP_CTL => [F.WT_SNAP_CTL_DISARM, F.WT_SNAP_CTL_LATE, F.WT_SNAP_CTL_DONE, F.WT_SNAP_CTL_ARM]
  | .WT_SNAP_ALO => [F.WT_SNAP_ALO_ALO]
  | .WT_SNAP_AHI => [F.WT_SNAP_AHI_AHI]
  | .MSIX_ADDR_LO => [F.MSIX_ADDR_LO_ADDR_LO]
  | .MSIX_ADDR_HI => [F.MSIX_ADDR_HI_ADDR_HI]
  | .MSIX_DATA => [F.MSIX_DATA_DATA]
  | .MSIX_CTL => [F.MSIX_CTL_MASK]
  | .QP_SQB_LO => [F.QP_SQB_LO_BASE_LO]
  | .QP_SQB_HI => [F.QP_SQB_HI_BASE_HI]
  | .QP_CQB_LO => [F.QP_CQB_LO_BASE_LO]
  | .QP_CQB_HI => [F.QP_CQB_HI_BASE_HI]
  | .QP_CFG => [F.QP_CFG_EN, F.QP_CFG_FRES, F.QP_CFG_PRIO, F.QP_CFG_ASID, F.QP_CFG_LAT, F.QP_CFG_SQSZ, F.QP_CFG_CQSZ]
  | .QP_IRQ => [F.QP_IRQ_IEN, F.QP_IRQ_VEC, F.QP_IRQ_CNT, F.QP_IRQ_TIME]
  | .QP_HEAD => [F.QP_HEAD_CQ_TAIL, F.QP_HEAD_SQ_HEAD]
  | .QP_STAT => [F.QP_STAT_STATE, F.QP_STAT_DBERR, F.QP_STAT_CQERR, F.QP_STAT_CFGBUSY, F.QP_STAT_XFLT, F.QP_STAT_PRE, F.QP_STAT_INFL, F.QP_STAT_DBTAIL]
  | .EVR_BASE_LO => [F.EVR_BASE_LO_BASE_LO]
  | .EVR_BASE_HI => [F.EVR_BASE_HI_BASE_HI]
  | .EVR_CFG => [F.EVR_CFG_EN, F.EVR_CFG_ASID, F.EVR_CFG_SZ]
  | .EVR_IRQ => [F.EVR_IRQ_IEN, F.EVR_IRQ_VEC, F.EVR_IRQ_CNT, F.EVR_IRQ_TIME]
  | .EVR_TAIL => [F.EVR_TAIL_WRAP, F.EVR_TAIL_TAIL]
  | .EVR_STAT => [F.EVR_STAT_OVF, F.EVR_STAT_HDERR, F.EVR_STAT_XFLT, F.EVR_STAT_KEPT]
  | .EVR_LOST => [F.EVR_LOST_LOST]
  | .MSIX_PBA => [F.MSIX_PBA_PBA]
  | .HQ_GEN => [F.HQ_GEN_GEN]
  | .HQ_QCTL => [F.HQ_QCTL_OP, F.HQ_QCTL_QP]
  | .HQ_LINK => [F.HQ_LINK_WIDTH, F.HQ_LINK_SPEED]
  | .MMU_CFG => [F.MMU_CFG_FVEC, F.MMU_CFG_FIEN, F.MMU_CFG_FTMO]
  | .MMU_STAT => [F.MMU_STAT_FTO, F.MMU_STAT_FRBAD, F.MMU_STAT_INVBUSY, F.MMU_STAT_OPEN]
  | .MMU_INV => [F.MMU_INV_OP, F.MMU_INV_BUSY, F.MMU_INV_ASID]
  | .MMU_INV_ALO => [F.MMU_INV_ALO_ALO]
  | .MMU_INV_AHI => [F.MMU_INV_AHI_AHI]
  | .MMU_INV_NPG => [F.MMU_INV_NPG_NPG]
  | .MMU_FRESUME => [F.MMU_FRESUME_ACTION, F.MMU_FRESUME_GEN, F.MMU_FRESUME_SLOT]
  | .MMU_FIDX => [F.MMU_FIDX_NEXT]
  | .MMU_FLOG0 => [F.MMU_FLOG0_STATE, F.MMU_FLOG0_GEN, F.MMU_FLOG0_QP, F.MMU_FLOG0_ORIGIN, F.MMU_FLOG0_EVR, F.MMU_FLOG0_WRITE, F.MMU_FLOG0_FRES, F.MMU_FLOG0_CAUSE]
  | .MMU_FLOG1 => [F.MMU_FLOG1_CID, F.MMU_FLOG1_OPC, F.MMU_FLOG1_ASID]
  | .MMU_FLOG2 => [F.MMU_FLOG2_ADDR_LO]
  | .MMU_FLOG3 => [F.MMU_FLOG3_ADDR_HI]
  | .MMU_FLOG4 => [F.MMU_FLOG4_STAMP_LO]
  | .MMU_FLOG5 => [F.MMU_FLOG5_STAMP_HI]
  | .MMU_FLOG6 => [F.MMU_FLOG6_PROG]
  | .PRE_CTL => [F.PRE_CTL_OP, F.PRE_CTL_QP]
  | .PRE_TLO => [F.PRE_TLO_TLO]
  | .PRE_THI => [F.PRE_THI_THI]
  | .PRE_STAT => [F.PRE_STAT_RLATE, F.PRE_STAT_PBAD]
  | .PRE_PEND_LO => [F.PRE_PEND_LO_PEND_LO]
  | .PRE_PEND_HI => [F.PRE_PEND_HI_PEND_HI]
  | .PRE_YIELD => [F.PRE_YIELD_YIELD]
  | .MMU_ROOT_LO => [F.MMU_ROOT_LO_BASE_LO, F.MMU_ROOT_LO_BYPASS, F.MMU_ROOT_LO_V]
  | .MMU_ROOT_HI => [F.MMU_ROOT_HI_BASE_HI]
  | .FAB_CFG => [F.FAB_CFG_AUTODISC, F.FAB_CFG_HBPER, F.FAB_CFG_LOSTN, F.FAB_CFG_ISOTMO]
  | .FAB_STAT => [F.FAB_STAT_ISOLATED, F.FAB_STAT_SEQGAP, F.FAB_STAT_ORD, F.FAB_STAT_UPPORT, F.FAB_STAT_UPV, F.FAB_STAT_BHOPS]
  | .FAB_DCTL => [F.FAB_DCTL_OP, F.FAB_DCTL_DEV]
  | .FAB_DSTAT => [F.FAB_DSTAT_RESULT, F.FAB_DSTAT_FOUND, F.FAB_DSTAT_ERRPORT, F.FAB_DSTAT_ERRX, F.FAB_DSTAT_ERRY]
  | .FAB_EXT => [F.FAB_EXT_WM1, F.FAB_EXT_HM1, F.FAB_EXT_AX, F.FAB_EXT_AY, F.FAB_EXT_MX, F.FAB_EXT_MY]
  | .FAB_PRES_LO => [F.FAB_PRES_LO_PRES]
  | .FAB_PRES_HI => [F.FAB_PRES_HI_PRES]
  | .FAB_LOST_LO => [F.FAB_LOST_LO_LOST]
  | .FAB_LOST_HI => [F.FAB_LOST_HI_LOST]
  | .FAB_ORDER_LO => [F.FAB_ORDER_LO_ORDER]
  | .FAB_ORDER_HI => [F.FAB_ORDER_HI_ORDER]
  | .FAB_ARB => [F.FAB_ARB_W3, F.FAB_ARB_W2]
  | .FAB_DROP => [F.FAB_DROP_DROP]
  | .FAB_UID_LO => [F.FAB_UID_LO_UID]
  | .FAB_UID_HI => [F.FAB_UID_HI_UID]
  | .FAB_PCTL => [F.FAB_PCTL_DISABLE, F.FAB_PCTL_RETRAIN, F.FAB_PCTL_UNFENCE, F.FAB_PCTL_MAXW]
  | .FAB_PSTAT => [F.FAB_PSTAT_STATE, F.FAB_PSTAT_WIDTH, F.FAB_PSTAT_LATV, F.FAB_PSTAT_LATBAD, F.FAB_PSTAT_PEERV, F.FAB_PSTAT_PEERPORT, F.FAB_PSTAT_PEERDEV, F.FAB_PSTAT_SPREAD]
  | .FAB_PLAT => [F.FAB_PLAT_INLAT]
  | .FAB_PASYM => [F.FAB_PASYM_PASYM]
  | .FAB_PERR => [F.FAB_PERR_CRC, F.FAB_PERR_REPLAY]
  | .FAB_PTRIM => [F.FAB_PTRIM_DTRIM]
  | .FAB_DETOUR => [F.FAB_DETOUR_V, F.FAB_DETOUR_PORT, F.FAB_DETOUR_FLIP, F.FAB_DETOUR_TCM, F.FAB_DETOUR_XLO, F.FAB_DETOUR_XHI, F.FAB_DETOUR_YLO, F.FAB_DETOUR_YHI]
  | .PWR_CTL => [F.PWR_CTL_WAKEN_EN, F.PWR_CTL_MAXDEPTH, F.PWR_CTL_DWELL]
  | .PWR_STAT => [F.PWR_STAT_STATE, F.PWR_STAT_TARGET, F.PWR_STAT_TOL, F.PWR_STAT_HOLD]
  | .PWR_WAKE => [F.PWR_WAKE_CAUSE]
  | .PWR_BUDGET => [F.PWR_BUDGET_SITEW, F.PWR_BUDGET_BUDGET]
  | .PWR_EST => [F.PWR_EST_PEAK, F.PWR_EST_EST]
  | .PWR_GSTAT => [F.PWR_GSTAT_REFUSED, F.PWR_GSTAT_OVER]
  | .THM_T => [F.THM_T_VALID, F.THM_T_RATE, F.THM_T_TEMP]
  | .THM_THR => [F.THM_THR_SHUT, F.THM_THR_CRIT, F.THM_THR_HOT, F.THM_THR_WARN]
  | .THM_CFG => [F.THM_CFG_RATE, F.THM_CFG_HYST, F.THM_CFG_MARGIN, F.THM_CFG_XCHK, F.THM_CFG_NLVL]
  | .THM_LIM => [F.THM_LIM_L3, F.THM_LIM_L2, F.THM_LIM_L1]
  | .THM_DOM => [F.THM_DOM_LEVEL, F.THM_DOM_FLOOR, F.THM_DOM_HELD, F.THM_DOM_RATEUP, F.THM_DOM_RUNNING, F.THM_DOM_TEMP]
  | .THM_STAT => [F.THM_STAT_SHUT, F.THM_STAT_PRIORSHUT, F.THM_STAT_NOSENS, F.THM_STAT_RATEHI, F.THM_STAT_FAILED]
  | .THM_CTL => [F.THM_CTL_RELEASE]
  | .FLT_CTL => [F.FLT_CTL_FLOCK, F.FLT_CTL_FUNIT, F.FLT_CTL_NSEV]
  | .FLT_STAT => [F.FLT_STAT_SAFE, F.FLT_STAT_SELF, F.FLT_STAT_FIRSTV, F.FLT_STAT_SECONDV, F.FLT_STAT_CLRBAD, F.FLT_STAT_CFGBAD, F.FLT_STAT_SAFEWR, F.FLT_STAT_EXITBAD, F.FLT_STAT_PENDN]
  | .FLT_SECCNT => [F.FLT_SECCNT_COUNT]
  | .FLT_SAFE => [F.FLT_SAFE_ACTIVE, F.FLT_SAFE_ENTER, F.FLT_SAFE_EXIT, F.FLT_SAFE_CAUSE, F.FLT_SAFE_ESCTMO]
  | .FLT_DEGR => [F.FLT_DEGR_PORTS, F.FLT_DEGR_DIES, F.FLT_DEGR_RAILS, F.FLT_DEGR_PODS]
  | .FLT_FIRST => [F.FLT_FIRST_REC]
  | .FLT_SECOND => [F.FLT_SECOND_REC]
  | .FLT_PEND => [F.FLT_PEND_PEND]
  | .FLT_CAUSE => [F.FLT_CAUSE_CAUSE]
  | .FLT_SRC => [F.FLT_SRC_FORCE, F.FLT_SRC_FIXED, F.FLT_SRC_REACT, F.FLT_SRC_SEV]
  | .FLT_CNT => [F.FLT_CNT_COUNT]
  | .EVT_CFG => [F.EVT_CFG_SYSRING]
  | .EVT_ROUTE => [F.EVT_ROUTE_EN0, F.EVT_ROUTE_RING0, F.EVT_ROUTE_EN1, F.EVT_ROUTE_RING1, F.EVT_ROUTE_EN2, F.EVT_ROUTE_RING2, F.EVT_ROUTE_EN3, F.EVT_ROUTE_RING3]
  | .SVP_CFG => [F.SVP_CFG_MODE, F.SVP_CFG_SCPOL, F.SVP_CFG_SCPHA, F.SVP_CFG_SEV, F.SVP_CFG_SEN, F.SVP_CFG_MYSEL, F.SVP_CFG_DIV, F.SVP_CFG_MCPOL, F.SVP_CFG_MCPHA, F.SVP_CFG_LSBF, F.SVP_CFG_WLEN]
  | .SVP_MCTL => [F.SVP_MCTL_HOLD, F.SVP_MCTL_RELEASE, F.SVP_MCTL_MEV, F.SVP_MCTL_GAP, F.SVP_MCTL_SEL]
  | .SVP_MTX => [F.SVP_MTX_TX]
  | .SVP_MRX => [F.SVP_MRX_RX]
  | .SVP_STAT => [F.SVP_STAT_ACTIVE, F.SVP_STAT_SELD, F.SVP_STAT_MBUSY, F.SVP_STAT_SHORT, F.SVP_STAT_END, F.SVP_STAT_SERR, F.SVP_STAT_SCOUNT, F.SVP_STAT_WBUF]
  | .CLK_XMODE => [F.CLK_XMODE_MODE]
  | .CLK_XSTAT => [F.CLK_XSTAT_FLUSH, F.CLK_XSTAT_OVF, F.CLK_XSTAT_STALE, F.CLK_XSTAT_NOAGREE]
  | .CLK_XOVF => [F.CLK_XOVF_COUNT]
  | .IU_RES => [F.IU_RES_RES]
  | .IU_CTL => [F.IU_CTL_RSV, F.IU_CTL_ABORT, F.IU_CTL_GO, F.IU_CTL_SETUP]
  | .IU_STAT => [F.IU_STAT_STATE, F.IU_STAT_REG, F.IU_STAT_OWNV, F.IU_STAT_OWNER, F.IU_STAT_ATTEMPTS]
  | .IU_GSTAT => [F.IU_GSTAT_QDEPTH, F.IU_GSTAT_BUSY, F.IU_GSTAT_NOUNIT]
  | .IU_CAL => [F.IU_CAL_DT, F.IU_CAL_AUTO, F.IU_CAL_RUN]
  | .IU_CALST => [F.IU_CALST_CBUSY, F.IU_CALST_DUE, F.IU_CALST_BAD, F.IU_CALST_REFUSED, F.IU_CALST_WORST]
  | .PMC_CNT_LO => [F.PMC_CNT_LO_CNT_LO]
  | .PMC_CNT_HI => [F.PMC_CNT_HI_CNT_HI]
  | .PMC_SEL => [F.PMC_SEL_CHAIN, F.PMC_SEL_OVEV, F.PMC_SEL_UNIT, F.PMC_SEL_EVENT]
  | .PMC_OVF => [F.PMC_OVF_OVF]
  | .PMC_LOSS => [F.PMC_LOSS_LOSS]
  | .PMC_STAT => [F.PMC_STAT_SELBAD]
  | .PMC_SHD_LO => [F.PMC_SHD_LO_SLO]
  | .PMC_SHD_HI => [F.PMC_SHD_HI_SHI]
  | .PMC_SHD_STAT => [F.PMC_SHD_STAT_DIEOK]
  | .PMC_SHD_OVF => [F.PMC_SHD_OVF_SOVF]
  | .PMC_SHD_LOSS => [F.PMC_SHD_LOSS_SLOSS]
  | .SITE_PSTAT => [F.SITE_PSTAT_FAIL, F.SITE_PSTAT_MTO, F.SITE_PSTAT_WLATE, F.SITE_PSTAT_ETO, F.SITE_PSTAT_BTO, F.SITE_PSTAT_AWGLOST, F.SITE_PSTAT_LDEPTH, F.SITE_PSTAT_CDEPTH]
  | .SITE_FCOUNT => [F.SITE_FCOUNT_FCOUNT]
  | .SITE_FFPOS_LO => [F.SITE_FFPOS_LO_FFPOS_LO]
  | .SITE_FFPOS_HI => [F.SITE_FFPOS_HI_FFPOS_HI]
  | .SITE_VPOS_LO => [F.SITE_VPOS_LO_VPOS_LO]
  | .SITE_VPOS_HI => [F.SITE_VPOS_HI_VPOS_HI]
  | .SITE_TAGRES => [F.SITE_TAGRES_TAGRES]
  | .SITE_VVAL => [F.SITE_VVAL_VVALID]
  | .SITE_V => [F.SITE_V_V]
  | .SITE_FCTL => [F.SITE_FCTL_FENCE, F.SITE_FCTL_UNFENCE, F.SITE_FCTL_ARM_REQ, F.SITE_FCTL_ARM_RECOV, F.SITE_FCTL_ARM_ENTRY, F.SITE_FCTL_ARM_START]
  | .SITE_FSTAT => [F.SITE_FSTAT_HUSK, F.SITE_FSTAT_ARMED, F.SITE_FSTAT_ARMSRC, F.SITE_FSTAT_UNFBAD, F.SITE_FSTAT_INSTEP, F.SITE_FSTAT_LINK, F.SITE_FSTAT_FAULT, F.SITE_FSTAT_SOFT, F.SITE_FSTAT_PIN, F.SITE_FSTAT_RAILI, F.SITE_FSTAT_RAILV, F.SITE_FSTAT_FENCES]
  | .SITE_FSTAMP_LO => [F.SITE_FSTAMP_LO_FSTAMP_LO]
  | .SITE_FSTAMP_HI => [F.SITE_FSTAMP_HI_FSTAMP_HI]
  | .SITE_RSEQ => [F.SITE_RSEQ_SEQ, F.SITE_RSEQ_ORDER, F.SITE_RSEQ_DELAY]
  | .RAIL_CFG => [F.RAIL_CFG_RSH, F.RAIL_CFG_SLEW, F.RAIL_CFG_SETTLE, F.RAIL_CFG_REMOTE, F.RAIL_CFG_SMUX]
  | .RAIL_SET => [F.RAIL_SET_TARGET, F.RAIL_SET_ILIM]
  | .RAIL_CTL => [F.RAIL_CTL_OFF, F.RAIL_CTL_ON]
  | .RAIL_VWIN => [F.RAIL_VWIN_VHI, F.RAIL_VWIN_VLO]
  | .RAIL_IWIN => [F.RAIL_IWIN_IHI, F.RAIL_IWIN_ILO]
  | .RAIL_MON => [F.RAIL_MON_WAKE, F.RAIL_MON_IEV, F.RAIL_MON_VEV, F.RAIL_MON_ITRIP_LO, F.RAIL_MON_ITRIP_HI, F.RAIL_MON_VTRIP_LO, F.RAIL_MON_VTRIP_HI, F.RAIL_MON_IFSEL, F.RAIL_MON_IFILT, F.RAIL_MON_IMODE, F.RAIL_MON_FSETTLE, F.RAIL_MON_VFSEL, F.RAIL_MON_VFILT, F.RAIL_MON_VMODE]
  | .RAIL_STAT => [F.RAIL_STAT_STATE, F.RAIL_STAT_VWS, F.RAIL_STAT_IWS, F.RAIL_STAT_PROF, F.RAIL_STAT_ARMED, F.RAIL_STAT_SITEV, F.RAIL_STAT_SITE]
  | .RAIL_FLAG => [F.RAIL_FLAG_NOREG, F.RAIL_FLAG_LIMITED, F.RAIL_FLAG_BUSY, F.RAIL_FLAG_TRIPCAUSE_I, F.RAIL_FLAG_TRIPCAUSE_V, F.RAIL_FLAG_ICROSS, F.RAIL_FLAG_VCROSS]
  | .RAIL_VRD => [F.RAIL_VRD_V]
  | .RAIL_IRD => [F.RAIL_IRD_I]
  | .RAIL_IPK => [F.RAIL_IPK_IPK]
  | .RAIL_PROF => [F.RAIL_PROF_TARGET, F.RAIL_PROF_SLEW, F.RAIL_PROF_EXIT]
  | .AWG_CFG => [F.AWG_CFG_HOSTV, F.AWG_CFG_HOST, F.AWG_CFG_DIV]
  | .AWG_SPAN => [F.AWG_SPAN_MUTE, F.AWG_SPAN_SPAN]
  | .AWG_CTL => [F.AWG_CTL_START, F.AWG_CTL_STOP, F.AWG_CTL_MEVA, F.AWG_CTL_MEVB, F.AWG_CTL_ENTRY]
  | .AWG_STAT => [F.AWG_STAT_STATE, F.AWG_STAT_MUTED, F.AWG_STAT_HOSTBAD, F.AWG_STAT_BUSY, F.AWG_STAT_UR, F.AWG_STAT_END, F.AWG_STAT_FLTMUTE, F.AWG_STAT_LASTEV]
  | .AWG_POS => [F.AWG_POS_POS]
  | .AWG_SAMPLES => [F.AWG_SAMPLES_SAMPLES]
  | .AWG_IDLE => [F.AWG_IDLE_IDLE]
  | .AWG_ARMBY => [F.AWG_ARMBY_ARMV, F.AWG_ARMBY_POD]
  | .STRM_CFG => [F.STRM_CFG_EN, F.STRM_CFG_QP, F.STRM_CFG_STAGE_M1, F.STRM_CFG_STAGE_BASE]
  | .STRM_STAT => [F.STRM_STAT_UNDERRUN, F.STRM_STAT_BUSY, F.STRM_STAT_STAGEBAD, F.STRM_STAT_BLOCK, F.STRM_STAT_PODS, F.STRM_STAT_STAGED]
  | .STRM_FED => [F.STRM_FED_FED]
  | .STRM_URCNT => [F.STRM_URCNT_URCNT, F.STRM_URCNT_LAG]
  | .POOL_STAT => [F.POOL_STAT_PINNED]
  | .POOL_RD => [F.POOL_RD_RD]
  | .LEDG_CFG => [F.LEDG_CFG_THRESH, F.LEDG_CFG_NONE_EN, F.LEDG_CFG_FULL_POL]
  | .LEDG_WR => [F.LEDG_WR_WRAP, F.LEDG_WR_INDEX]
  | .LEDG_RD => [F.LEDG_RD_WRAP, F.LEDG_RD_INDEX]
  | .LEDG_STAT => [F.LEDG_STAT_ABOVE, F.LEDG_STAT_DROPPED, F.LEDG_STAT_RDBAD, F.LEDG_STAT_LOST, F.LEDG_STAT_HOLDING]
  | .LEDG_FILL => [F.LEDG_FILL_FILL]
  | .LEDG_BINS => [F.LEDG_BINS_NONE, F.LEDG_BINS_ERROR, F.LEDG_BINS_FENCED]
  | .LEDG_LOST => [F.LEDG_LOST_LOST]
  | .LEDG_DROP => [F.LEDG_DROP_DROP]
  | .CAP_GCTL => [F.CAP_GCTL_APPLY]
  | .CAP_GSTAT => [F.CAP_GSTAT_PARTBAD]
  | .CAP_APSEL => [F.CAP_APSEL_TGT, F.CAP_APSEL_WIN]
  | .ENG_CTL => [F.ENG_CTL_GAP_FAIL]
  | .ENG_STAT => [F.ENG_STAT_STATE, F.ENG_STAT_ERR, F.ENG_STAT_GAP]
  | .ENG_PC => [F.ENG_PC_PC]
  | .ENG_GAP => [F.ENG_GAP_TICKS]
  | .ENG_UCTL => [F.ENG_UCTL_ULIM, F.ENG_UCTL_BRK_EN, F.ENG_UCTL_STEP, F.ENG_UCTL_RESUME, F.ENG_UCTL_STOP, F.ENG_UCTL_COMPAT]
  | .ENG_USTAT => [F.ENG_USTAT_STOPPED, F.ENG_USTAT_ATWORD, F.ENG_USTAT_SCAUSE, F.ENG_USTAT_ATOM, F.ENG_USTAT_USER, F.ENG_USTAT_NANO_OK, F.ENG_USTAT_MODE, F.ENG_USTAT_MDEPTH, F.ENG_USTAT_ZNC, F.ENG_USTAT_MPC]
  | .ENG_UBRK => [F.ENG_UBRK_UADDR]
  | .ENG_UIMG => [F.ENG_UIMG_IMG_ID]
  | .ENG_UINFO => [F.ENG_UINFO_NUOPS, F.ENG_UINFO_NNANO]
  | .ENG_USVN => [F.ENG_USVN_SVN]
  | .ENG_UREG => [F.ENG_UREG_U]
  | .ENG_RA_CTL => [F.ENG_RA_CTL_PMODE, F.ENG_RA_CTL_SPR_EN, F.ENG_RA_CTL_PCLR]
  | .ENG_RA_STAT => [F.ENG_RA_STAT_OQ, F.ENG_RA_STAT_SEB, F.ENG_RA_STAT_CKPT, F.ENG_RA_STAT_SPROUT, F.ENG_RA_STAT_SPSTOP, F.ENG_RA_STAT_STALL, F.ENG_RA_STAT_SPDROP]
  | .ENG_RA_QSET => [F.ENG_RA_QSET_GANG, F.ENG_RA_QSET_TSET]
  | .ENG_RA_QRES => [F.ENG_RA_QRES_VALID, F.ENG_RA_QRES_DEC]
  | .ENG_RA_QSH => [F.ENG_RA_QSH_SHADOW1]
  | .ENG_RA_SHADOW => [F.ENG_RA_SHADOW_EARLY, F.ENG_RA_SHADOW_ITER]
  | .ENG_RA_MISP => [F.ENG_RA_MISP_MISP]
  | .ENG_RA_RES => [F.ENG_RA_RES_RES]
  | .ENG_RA_SQ => [F.ENG_RA_SQ_SQ]
  | .ENG_RA_HOLD => [F.ENG_RA_HOLD_HOLD]
  | .ENG_SEG => [F.ENG_SEG_STATE, F.ENG_SEG_CONSUME, F.ENG_SEG_KIND, F.ENG_SEG_POLICY, F.ENG_SEG_LEN_M1, F.ENG_SEG_LBASE, F.ENG_SEG_NEXT_V, F.ENG_SEG_NEXT]
  | .ENG_PM_CTL => [F.ENG_PM_CTL_STALL_TMO]
  | .ENG_PM_PAD => [F.ENG_PM_PAD_PAD]
  | .ENG_PM_STAT => [F.ENG_PM_STAT_LASTPOL, F.ENG_PM_STAT_WRACT, F.ENG_PM_STAT_LOADERR, F.ENG_PM_STAT_UR, F.ENG_PM_STAT_CURSEG]
  | .ENG_PM_UR => [F.ENG_PM_UR_UR]
  | .ENG_PM_PADN => [F.ENG_PM_PADN_PADN]
  | .ENG_PM_XWAIT => [F.ENG_PM_XWAIT_XWAIT]
  | .ENG_PM_QSEG => [F.ENG_PM_QSEG_QSEG]
  | .ENG_PM_QREM => [F.ENG_PM_QREM_QREM]
  | .ENG_PM_QSRC => [F.ENG_PM_QSRC_QSRC]
  | .POD_TIM_CTL => [F.POD_TIM_CTL_RECAL_DT, F.POD_TIM_CTL_EYE_RUN, F.POD_TIM_CTL_RECAL_AUTO]
  | .POD_TIM_STAT => [F.POD_TIM_STAT_DESKEW, F.POD_TIM_STAT_RECAL_DUE, F.POD_TIM_STAT_EYE_LOW, F.POD_TIM_STAT_EYE_BUSY, F.POD_TIM_STAT_COLLIDE, F.POD_TIM_STAT_UNLOADED, F.POD_TIM_STAT_TSET]
  | .POD_TIM_COLL => [F.POD_TIM_COLL_DROPPED]
  | .POD_TIM_EYE => [F.POD_TIM_EYE_EYE_M, F.POD_TIM_EYE_EYE_F]
  | .POD_TIM_LOADED_LO => [F.POD_TIM_LOADED_LO_LOADED_LO]
  | .POD_TIM_LOADED_HI => [F.POD_TIM_LOADED_HI_LOADED_HI]
  | .POD_LVL_CFG => [F.POD_LVL_CFG_SETTLE_MASK, F.POD_LVL_CFG_SETTLE]
  | .POD_LVL_STAT => [F.POD_LVL_STAT_APPLIED, F.POD_LVL_STAT_SETTLING, F.POD_LVL_STAT_LSET]
  | .POD_LVL_MASKED => [F.POD_LVL_MASKED_MASKED]
  | .CAP_CFG => [F.CAP_CFG_SCALE, F.CAP_CFG_MAP_UNITS, F.CAP_CFG_FIRST_N, F.CAP_CFG_FMODE]
  | .CAP_PART => [F.CAP_PART_SIZE, F.CAP_PART_BASE]
  | .CAP_PNEXT => [F.CAP_PNEXT_SIZE, F.CAP_PNEXT_BASE]
  | .CAP_MAPSTART => [F.CAP_MAPSTART_MAPSTART]
  | .CAP_WR => [F.CAP_WR_WRAP, F.CAP_WR_OFFSET]
  | .CAP_RD => [F.CAP_RD_WRAP, F.CAP_RD_OFFSET]
  | .CAP_STAT => [F.CAP_STAT_EFIFO, F.CAP_STAT_FULL, F.CAP_STAT_CFGBAD, F.CAP_STAT_DEAD, F.CAP_STAT_ERATE, F.CAP_STAT_BUSY, F.CAP_STAT_RDBAD, F.CAP_STAT_FIRSTDONE, F.CAP_STAT_MAPOVR, F.CAP_STAT_FLOSS, F.CAP_STAT_ELOSS]
  | .CAP_ELOG => [F.CAP_ELOG_BUDGET]
  | .CAP_PFC => [F.CAP_PFC_PFC]
  | .CAP_LOST => [F.CAP_LOST_LOST]
  | .CAP_FILL => [F.CAP_FILL_FILL]
  | .CAP_THR => [F.CAP_THR_THR]
  | .PIN_CFG => [F.PIN_CFG_SETTLE, F.PIN_CFG_FILT_CMP, F.PIN_CFG_FSEL, F.PIN_CFG_FILT, F.PIN_CFG_HYST, F.PIN_CFG_OFF_STATE, F.PIN_CFG_DRV_EN, F.PIN_CFG_USE]
  | .PIN_WATCH => [F.PIN_WATCH_REARM, F.PIN_WATCH_TRIP_EN, F.PIN_WATCH_WAKE, F.PIN_WATCH_EV_RATE, F.PIN_WATCH_EV_INIT, F.PIN_WATCH_EV_MODE, F.PIN_WATCH_TARGET, F.PIN_WATCH_MODE, F.PIN_WATCH_EN]
  | .PIN_STAT => [F.PIN_STAT_RAISES, F.PIN_STAT_LSET, F.PIN_STAT_SAFE, F.PIN_STAT_SETTLING, F.PIN_STAT_BIAS, F.PIN_STAT_DRV, F.PIN_STAT_RAW, F.PIN_STAT_FSTATE]
  | .PIN_FLAG => [F.PIN_FLAG_NOWATCH, F.PIN_FLAG_CFG_BUSY, F.PIN_FLAG_TRIPCAUSE, F.PIN_FLAG_STUCK, F.PIN_FLAG_RATE]
  | .PIN_LVL_A => [F.PIN_LVL_A_VIH, F.PIN_LVL_A_VIL]
  | .PIN_LVL_B => [F.PIN_LVL_B_VTT, F.PIN_LVL_B_VOH]
  | .PIN_LVL_C => [F.PIN_LVL_C_VOL, F.PIN_LVL_C_ILOAD]
  | .PIN_LVL_D => [F.PIN_LVL_D_SAFE, F.PIN_LVL_D_LSET, F.PIN_LVL_D_VCOM]
  | .PIN_REARM_CNT => [F.PIN_REARM_CNT_EVENTS]
  | .PIN_PMU_CTL => [F.PIN_PMU_CTL_GO, F.PIN_PMU_CTL_DISC, F.PIN_PMU_CTL_SETUP]
  | .PIN_PMU_STAT => [F.PIN_PMU_STAT_STATE, F.PIN_PMU_STAT_CONN, F.PIN_PMU_STAT_KEPT, F.PIN_PMU_STAT_RANGE, F.PIN_PMU_STAT_MODE, F.PIN_PMU_STAT_DRVBLK, F.PIN_PMU_STAT_REG, F.PIN_PMU_STAT_OWNV, F.PIN_PMU_STAT_OWNER]
  | .PIN_PMU_RES => [F.PIN_PMU_RES_RES]
  | .PIN_TDC_CAL => [F.PIN_TDC_CAL_VALID, F.PIN_TDC_CAL_CALBAD, F.PIN_TDC_CAL_RESID]
  | .PIN_TDC_SRC => [F.PIN_TDC_SRC_SRC, F.PIN_TDC_SRC_UNIT]

/-- Where a register lies: the offset of instance (0, 0), and the number of instances and the stride in
bytes of each of its two indices. -/
structure Place where
  base : Nat
  n1 : Nat
  s1 : Nat
  n2 : Nat
  s2 : Nat
deriving DecidableEq, Repr

/-- The index of 22_address_map.md. -/
def Reg.place : Reg → Place
  | .GLB_ID => ⟨0x0, 1, 0x0, 1, 0x0⟩
  | .GLB_ROLE => ⟨0x4, 1, 0x0, 1, 0x0⟩
  | .GLB_UNITS => ⟨0x8, 1, 0x0, 1, 0x0⟩
  | .GLB_SAFECODE => ⟨0x20, 1, 0x0, 1, 0x0⟩
  | .RST_STAT => ⟨0x1000, 1, 0x0, 1, 0x0⟩
  | .RST_CTL => ⟨0x1004, 1, 0x0, 1, 0x0⟩
  | .RST_MAP => ⟨0x1008, 1, 0x0, 1, 0x0⟩
  | .RST_NVSEL => ⟨0x1010, 1, 0x0, 1, 0x0⟩
  | .RST_NVACK => ⟨0x1014, 1, 0x0, 1, 0x0⟩
  | .RST_NVREC => ⟨0x1040, 16, 0x4, 1, 0x0⟩
  | .TRUST_STAT => ⟨0x2000, 1, 0x0, 1, 0x0⟩
  | .TRUST_FWID => ⟨0x2004, 1, 0x0, 1, 0x0⟩
  | .TRUST_FWSVN => ⟨0x2008, 1, 0x0, 1, 0x0⟩
  | .TRUST_CTL => ⟨0x2010, 1, 0x0, 1, 0x0⟩
  | .TRUST_RES => ⟨0x2014, 1, 0x0, 1, 0x0⟩
  | .WT_NOW_LO => ⟨0x3000, 1, 0x0, 1, 0x0⟩
  | .WT_NOW_HI => ⟨0x3004, 1, 0x0, 1, 0x0⟩
  | .WT_EPOCH => ⟨0x3008, 1, 0x0, 1, 0x0⟩
  | .WT_CTL => ⟨0x300C, 1, 0x0, 1, 0x0⟩
  | .WT_XTAL => ⟨0x3010, 1, 0x0, 1, 0x0⟩
  | .WT_OFFSET => ⟨0x3014, 1, 0x0, 1, 0x0⟩
  | .WT_STAT => ⟨0x3018, 1, 0x0, 1, 0x0⟩
  | .WT_WM => ⟨0x301C, 1, 0x0, 1, 0x0⟩
  | .WT_WM_LAST_LO => ⟨0x3020, 1, 0x0, 1, 0x0⟩
  | .WT_WM_LAST_HI => ⟨0x3024, 1, 0x0, 1, 0x0⟩
  | .WT_SNAP_TLO => ⟨0x3040, 4, 0x20, 1, 0x0⟩
  | .WT_SNAP_THI => ⟨0x3044, 4, 0x20, 1, 0x0⟩
  | .WT_SNAP_CTL => ⟨0x3048, 4, 0x20, 1, 0x0⟩
  | .WT_SNAP_ALO => ⟨0x304C, 4, 0x20, 1, 0x0⟩
  | .WT_SNAP_AHI => ⟨0x3050, 4, 0x20, 1, 0x0⟩
  | .MSIX_ADDR_LO => ⟨0x4000, 256, 0x10, 1, 0x0⟩
  | .MSIX_ADDR_HI => ⟨0x4004, 256, 0x10, 1, 0x0⟩
  | .MSIX_DATA => ⟨0x4008, 256, 0x10, 1, 0x0⟩
  | .MSIX_CTL => ⟨0x400C, 256, 0x10, 1, 0x0⟩
  | .QP_SQB_LO => ⟨0x5000, 64, 0x20, 1, 0x0⟩
  | .QP_SQB_HI => ⟨0x5004, 64, 0x20, 1, 0x0⟩
  | .QP_CQB_LO => ⟨0x5008, 64, 0x20, 1, 0x0⟩
  | .QP_CQB_HI => ⟨0x500C, 64, 0x20, 1, 0x0⟩
  | .QP_CFG => ⟨0x5010, 64, 0x20, 1, 0x0⟩
  | .QP_IRQ => ⟨0x5014, 64, 0x20, 1, 0x0⟩
  | .QP_HEAD => ⟨0x5018, 64, 0x20, 1, 0x0⟩
  | .QP_STAT => ⟨0x501C, 64, 0x20, 1, 0x0⟩
  | .EVR_BASE_LO => ⟨0x5800, 8, 0x20, 1, 0x0⟩
  | .EVR_BASE_HI => ⟨0x5804, 8, 0x20, 1, 0x0⟩
  | .EVR_CFG => ⟨0x5808, 8, 0x20, 1, 0x0⟩
  | .EVR_IRQ => ⟨0x580C, 8, 0x20, 1, 0x0⟩
  | .EVR_TAIL => ⟨0x5810, 8, 0x20, 1, 0x0⟩
  | .EVR_STAT => ⟨0x5814, 8, 0x20, 1, 0x0⟩
  | .EVR_LOST => ⟨0x5818, 8, 0x20, 1, 0x0⟩
  | .MSIX_PBA => ⟨0x5900, 8, 0x4, 1, 0x0⟩
  | .HQ_GEN => ⟨0x5A00, 1, 0x0, 1, 0x0⟩
  | .HQ_QCTL => ⟨0x5A04, 1, 0x0, 1, 0x0⟩
  | .HQ_LINK => ⟨0x5A08, 1, 0x0, 1, 0x0⟩
  | .MMU_CFG => ⟨0x6000, 1, 0x0, 1, 0x0⟩
  | .MMU_STAT => ⟨0x6004, 1, 0x0, 1, 0x0⟩
  | .MMU_INV => ⟨0x6008, 1, 0x0, 1, 0x0⟩
  | .MMU_INV_ALO => ⟨0x600C, 1, 0x0, 1, 0x0⟩
  | .MMU_INV_AHI => ⟨0x6010, 1, 0x0, 1, 0x0⟩
  | .MMU_INV_NPG => ⟨0x6014, 1, 0x0, 1, 0x0⟩
  | .MMU_FRESUME => ⟨0x6018, 1, 0x0, 1, 0x0⟩
  | .MMU_FIDX => ⟨0x601C, 1, 0x0, 1, 0x0⟩
  | .MMU_FLOG0 => ⟨0x6100, 16, 0x20, 1, 0x0⟩
  | .MMU_FLOG1 => ⟨0x6104, 16, 0x20, 1, 0x0⟩
  | .MMU_FLOG2 => ⟨0x6108, 16, 0x20, 1, 0x0⟩
  | .MMU_FLOG3 => ⟨0x610C, 16, 0x20, 1, 0x0⟩
  | .MMU_FLOG4 => ⟨0x6110, 16, 0x20, 1, 0x0⟩
  | .MMU_FLOG5 => ⟨0x6114, 16, 0x20, 1, 0x0⟩
  | .MMU_FLOG6 => ⟨0x6118, 16, 0x20, 1, 0x0⟩
  | .PRE_CTL => ⟨0x6400, 1, 0x0, 1, 0x0⟩
  | .PRE_TLO => ⟨0x6404, 1, 0x0, 1, 0x0⟩
  | .PRE_THI => ⟨0x6408, 1, 0x0, 1, 0x0⟩
  | .PRE_STAT => ⟨0x640C, 1, 0x0, 1, 0x0⟩
  | .PRE_PEND_LO => ⟨0x6410, 1, 0x0, 1, 0x0⟩
  | .PRE_PEND_HI => ⟨0x6414, 1, 0x0, 1, 0x0⟩
  | .PRE_YIELD => ⟨0x6418, 1, 0x0, 1, 0x0⟩
  | .MMU_ROOT_LO => ⟨0x6800, 256, 0x8, 1, 0x0⟩
  | .MMU_ROOT_HI => ⟨0x6804, 256, 0x8, 1, 0x0⟩
  | .FAB_CFG => ⟨0x7000, 1, 0x0, 1, 0x0⟩
  | .FAB_STAT => ⟨0x7004, 1, 0x0, 1, 0x0⟩
  | .FAB_DCTL => ⟨0x7008, 1, 0x0, 1, 0x0⟩
  | .FAB_DSTAT => ⟨0x700C, 1, 0x0, 1, 0x0⟩
  | .FAB_EXT => ⟨0x7010, 1, 0x0, 1, 0x0⟩
  | .FAB_PRES_LO => ⟨0x7014, 1, 0x0, 1, 0x0⟩
  | .FAB_PRES_HI => ⟨0x7018, 1, 0x0, 1, 0x0⟩
  | .FAB_LOST_LO => ⟨0x701C, 1, 0x0, 1, 0x0⟩
  | .FAB_LOST_HI => ⟨0x7020, 1, 0x0, 1, 0x0⟩
  | .FAB_ORDER_LO => ⟨0x7024, 1, 0x0, 1, 0x0⟩
  | .FAB_ORDER_HI => ⟨0x7028, 1, 0x0, 1, 0x0⟩
  | .FAB_ARB => ⟨0x702C, 1, 0x0, 1, 0x0⟩
  | .FAB_DROP => ⟨0x7030, 1, 0x0, 1, 0x0⟩
  | .FAB_UID_LO => ⟨0x7034, 1, 0x0, 1, 0x0⟩
  | .FAB_UID_HI => ⟨0x7038, 1, 0x0, 1, 0x0⟩
  | .FAB_PCTL => ⟨0x7100, 4, 0x20, 1, 0x0⟩
  | .FAB_PSTAT => ⟨0x7104, 4, 0x20, 1, 0x0⟩
  | .FAB_PLAT => ⟨0x7108, 4, 0x20, 1, 0x0⟩
  | .FAB_PASYM => ⟨0x710C, 4, 0x20, 1, 0x0⟩
  | .FAB_PERR => ⟨0x7110, 4, 0x20, 1, 0x0⟩
  | .FAB_PTRIM => ⟨0x7114, 4, 0x20, 1, 0x0⟩
  | .FAB_DETOUR => ⟨0x7200, 16, 0x4, 1, 0x0⟩
  | .PWR_CTL => ⟨0x8000, 1, 0x0, 1, 0x0⟩
  | .PWR_STAT => ⟨0x8004, 1, 0x0, 1, 0x0⟩
  | .PWR_WAKE => ⟨0x8008, 1, 0x0, 1, 0x0⟩
  | .PWR_BUDGET => ⟨0x800C, 1, 0x0, 1, 0x0⟩
  | .PWR_EST => ⟨0x8010, 1, 0x0, 1, 0x0⟩
  | .PWR_GSTAT => ⟨0x8014, 1, 0x0, 1, 0x0⟩
  | .THM_T => ⟨0x9000, 5, 0x4, 1, 0x0⟩
  | .THM_THR => ⟨0x9020, 1, 0x0, 1, 0x0⟩
  | .THM_CFG => ⟨0x9024, 1, 0x0, 1, 0x0⟩
  | .THM_LIM => ⟨0x9028, 1, 0x0, 1, 0x0⟩
  | .THM_DOM => ⟨0x9030, 4, 0x4, 1, 0x0⟩
  | .THM_STAT => ⟨0x9040, 1, 0x0, 1, 0x0⟩
  | .THM_CTL => ⟨0x9044, 1, 0x0, 1, 0x0⟩
  | .FLT_CTL => ⟨0xA000, 1, 0x0, 1, 0x0⟩
  | .FLT_STAT => ⟨0xA004, 1, 0x0, 1, 0x0⟩
  | .FLT_SECCNT => ⟨0xA008, 1, 0x0, 1, 0x0⟩
  | .FLT_SAFE => ⟨0xA00C, 1, 0x0, 1, 0x0⟩
  | .FLT_DEGR => ⟨0xA010, 1, 0x0, 1, 0x0⟩
  | .FLT_FIRST => ⟨0xA020, 8, 0x4, 1, 0x0⟩
  | .FLT_SECOND => ⟨0xA040, 8, 0x4, 1, 0x0⟩
  | .FLT_PEND => ⟨0xA080, 12, 0x4, 1, 0x0⟩
  | .FLT_CAUSE => ⟨0xA0C0, 12, 0x4, 1, 0x0⟩
  | .FLT_SRC => ⟨0xA800, 384, 0x4, 1, 0x0⟩
  | .FLT_CNT => ⟨0xB000, 384, 0x4, 1, 0x0⟩
  | .EVT_CFG => ⟨0xC000, 1, 0x0, 1, 0x0⟩
  | .EVT_ROUTE => ⟨0xC100, 576, 0x4, 1, 0x0⟩
  | .SVP_CFG => ⟨0xD000, 1, 0x0, 1, 0x0⟩
  | .SVP_MCTL => ⟨0xD004, 1, 0x0, 1, 0x0⟩
  | .SVP_MTX => ⟨0xD008, 1, 0x0, 1, 0x0⟩
  | .SVP_MRX => ⟨0xD00C, 1, 0x0, 1, 0x0⟩
  | .SVP_STAT => ⟨0xD010, 1, 0x0, 1, 0x0⟩
  | .CLK_XMODE => ⟨0xE000, 1, 0x0, 1, 0x0⟩
  | .CLK_XSTAT => ⟨0xE004, 1, 0x0, 1, 0x0⟩
  | .CLK_XOVF => ⟨0xE008, 1, 0x0, 1, 0x0⟩
  | .IU_RES => ⟨0xF000, 64, 0x30, 12, 0x4⟩
  | .IU_CTL => ⟨0xFC00, 64, 0x4, 1, 0x0⟩
  | .IU_STAT => ⟨0xFD00, 64, 0x4, 1, 0x0⟩
  | .IU_GSTAT => ⟨0xFE00, 1, 0x0, 1, 0x0⟩
  | .IU_CAL => ⟨0xFE04, 1, 0x0, 1, 0x0⟩
  | .IU_CALST => ⟨0xFE08, 1, 0x0, 1, 0x0⟩
  | .PMC_CNT_LO => ⟨0x10000, 512, 0x8, 1, 0x0⟩
  | .PMC_CNT_HI => ⟨0x10004, 512, 0x8, 1, 0x0⟩
  | .PMC_SEL => ⟨0x11000, 512, 0x4, 1, 0x0⟩
  | .PMC_OVF => ⟨0x11800, 16, 0x4, 1, 0x0⟩
  | .PMC_LOSS => ⟨0x11840, 16, 0x4, 1, 0x0⟩
  | .PMC_STAT => ⟨0x11880, 1, 0x0, 1, 0x0⟩
  | .PMC_SHD_LO => ⟨0x12000, 4, 0x1000, 512, 0x8⟩
  | .PMC_SHD_HI => ⟨0x12004, 4, 0x1000, 512, 0x8⟩
  | .PMC_SHD_STAT => ⟨0x16000, 4, 0x4, 1, 0x0⟩
  | .PMC_SHD_OVF => ⟨0x16100, 4, 0x80, 16, 0x4⟩
  | .PMC_SHD_LOSS => ⟨0x16140, 4, 0x80, 16, 0x4⟩
  | .SITE_PSTAT => ⟨0x20000, 128, 0x200, 1, 0x0⟩
  | .SITE_FCOUNT => ⟨0x20004, 128, 0x200, 1, 0x0⟩
  | .SITE_FFPOS_LO => ⟨0x20008, 128, 0x200, 1, 0x0⟩
  | .SITE_FFPOS_HI => ⟨0x2000C, 128, 0x200, 1, 0x0⟩
  | .SITE_VPOS_LO => ⟨0x20010, 128, 0x200, 1, 0x0⟩
  | .SITE_VPOS_HI => ⟨0x20014, 128, 0x200, 1, 0x0⟩
  | .SITE_TAGRES => ⟨0x20018, 128, 0x200, 1, 0x0⟩
  | .SITE_VVAL => ⟨0x20020, 128, 0x200, 1, 0x0⟩
  | .SITE_V => ⟨0x20040, 128, 0x200, 16, 0x4⟩
  | .SITE_FCTL => ⟨0x20080, 128, 0x200, 1, 0x0⟩
  | .SITE_FSTAT => ⟨0x20084, 128, 0x200, 1, 0x0⟩
  | .SITE_FSTAMP_LO => ⟨0x20088, 128, 0x200, 1, 0x0⟩
  | .SITE_FSTAMP_HI => ⟨0x2008C, 128, 0x200, 1, 0x0⟩
  | .SITE_RSEQ => ⟨0x20090, 128, 0x200, 1, 0x0⟩
  | .RAIL_CFG => ⟨0x30000, 128, 0x200, 1, 0x0⟩
  | .RAIL_SET => ⟨0x30004, 128, 0x200, 1, 0x0⟩
  | .RAIL_CTL => ⟨0x30008, 128, 0x200, 1, 0x0⟩
  | .RAIL_VWIN => ⟨0x3000C, 128, 0x200, 1, 0x0⟩
  | .RAIL_IWIN => ⟨0x30010, 128, 0x200, 1, 0x0⟩
  | .RAIL_MON => ⟨0x30014, 128, 0x200, 1, 0x0⟩
  | .RAIL_STAT => ⟨0x30018, 128, 0x200, 1, 0x0⟩
  | .RAIL_FLAG => ⟨0x3001C, 128, 0x200, 1, 0x0⟩
  | .RAIL_VRD => ⟨0x30020, 128, 0x200, 1, 0x0⟩
  | .RAIL_IRD => ⟨0x30024, 128, 0x200, 1, 0x0⟩
  | .RAIL_IPK => ⟨0x30028, 128, 0x200, 1, 0x0⟩
  | .RAIL_PROF => ⟨0x30040, 128, 0x200, 4, 0x4⟩
  | .AWG_CFG => ⟨0x40000, 32, 0x40, 1, 0x0⟩
  | .AWG_SPAN => ⟨0x40004, 32, 0x40, 1, 0x0⟩
  | .AWG_CTL => ⟨0x40008, 32, 0x40, 1, 0x0⟩
  | .AWG_STAT => ⟨0x4000C, 32, 0x40, 1, 0x0⟩
  | .AWG_POS => ⟨0x40010, 32, 0x40, 1, 0x0⟩
  | .AWG_SAMPLES => ⟨0x40014, 32, 0x40, 1, 0x0⟩
  | .AWG_IDLE => ⟨0x40018, 32, 0x40, 1, 0x0⟩
  | .AWG_ARMBY => ⟨0x4001C, 32, 0x40, 1, 0x0⟩
  | .STRM_CFG => ⟨0x48000, 16, 0x40, 1, 0x0⟩
  | .STRM_STAT => ⟨0x48004, 16, 0x40, 1, 0x0⟩
  | .STRM_FED => ⟨0x48008, 16, 0x40, 1, 0x0⟩
  | .STRM_URCNT => ⟨0x4800C, 16, 0x40, 1, 0x0⟩
  | .POOL_STAT => ⟨0x48400, 1, 0x0, 1, 0x0⟩
  | .POOL_RD => ⟨0x48404, 1, 0x0, 1, 0x0⟩
  | .LEDG_CFG => ⟨0x50000, 1, 0x0, 1, 0x0⟩
  | .LEDG_WR => ⟨0x50004, 1, 0x0, 1, 0x0⟩
  | .LEDG_RD => ⟨0x50008, 1, 0x0, 1, 0x0⟩
  | .LEDG_STAT => ⟨0x5000C, 1, 0x0, 1, 0x0⟩
  | .LEDG_FILL => ⟨0x50010, 1, 0x0, 1, 0x0⟩
  | .LEDG_BINS => ⟨0x50014, 1, 0x0, 1, 0x0⟩
  | .LEDG_LOST => ⟨0x50018, 1, 0x0, 1, 0x0⟩
  | .LEDG_DROP => ⟨0x5001C, 1, 0x0, 1, 0x0⟩
  | .CAP_GCTL => ⟨0x50100, 1, 0x0, 1, 0x0⟩
  | .CAP_GSTAT => ⟨0x50104, 1, 0x0, 1, 0x0⟩
  | .CAP_APSEL => ⟨0x50108, 1, 0x0, 1, 0x0⟩
  | .ENG_CTL => ⟨0x60000, 256, 0x400, 1, 0x0⟩
  | .ENG_STAT => ⟨0x60004, 256, 0x400, 1, 0x0⟩
  | .ENG_PC => ⟨0x60008, 256, 0x400, 1, 0x0⟩
  | .ENG_GAP => ⟨0x6000C, 256, 0x400, 1, 0x0⟩
  | .ENG_UCTL => ⟨0x60010, 256, 0x400, 1, 0x0⟩
  | .ENG_USTAT => ⟨0x60014, 256, 0x400, 1, 0x0⟩
  | .ENG_UBRK => ⟨0x60018, 256, 0x400, 1, 0x0⟩
  | .ENG_UIMG => ⟨0x6001C, 256, 0x400, 1, 0x0⟩
  | .ENG_UINFO => ⟨0x60020, 256, 0x400, 1, 0x0⟩
  | .ENG_USVN => ⟨0x60024, 256, 0x400, 1, 0x0⟩
  | .ENG_UREG => ⟨0x60040, 256, 0x400, 16, 0x4⟩
  | .ENG_RA_CTL => ⟨0x60080, 256, 0x400, 1, 0x0⟩
  | .ENG_RA_STAT => ⟨0x60084, 256, 0x400, 1, 0x0⟩
  | .ENG_RA_QSET => ⟨0x60088, 256, 0x400, 1, 0x0⟩
  | .ENG_RA_QRES => ⟨0x6008C, 256, 0x400, 1, 0x0⟩
  | .ENG_RA_QSH => ⟨0x60090, 256, 0x400, 1, 0x0⟩
  | .ENG_RA_SHADOW => ⟨0x60094, 256, 0x400, 1, 0x0⟩
  | .ENG_RA_MISP => ⟨0x60098, 256, 0x400, 1, 0x0⟩
  | .ENG_RA_RES => ⟨0x6009C, 256, 0x400, 1, 0x0⟩
  | .ENG_RA_SQ => ⟨0x600A0, 256, 0x400, 1, 0x0⟩
  | .ENG_RA_HOLD => ⟨0x600A4, 256, 0x400, 1, 0x0⟩
  | .ENG_SEG => ⟨0x60100, 256, 0x400, 64, 0x4⟩
  | .ENG_PM_CTL => ⟨0x60200, 256, 0x400, 1, 0x0⟩
  | .ENG_PM_PAD => ⟨0x60204, 256, 0x400, 1, 0x0⟩
  | .ENG_PM_STAT => ⟨0x60208, 256, 0x400, 1, 0x0⟩
  | .ENG_PM_UR => ⟨0x6020C, 256, 0x400, 1, 0x0⟩
  | .ENG_PM_PADN => ⟨0x60210, 256, 0x400, 1, 0x0⟩
  | .ENG_PM_XWAIT => ⟨0x60214, 256, 0x400, 1, 0x0⟩
  | .ENG_PM_QSEG => ⟨0x60218, 256, 0x400, 1, 0x0⟩
  | .ENG_PM_QREM => ⟨0x6021C, 256, 0x400, 1, 0x0⟩
  | .ENG_PM_QSRC => ⟨0x60220, 256, 0x400, 1, 0x0⟩
  | .POD_TIM_CTL => ⟨0x60300, 256, 0x400, 1, 0x0⟩
  | .POD_TIM_STAT => ⟨0x60304, 256, 0x400, 1, 0x0⟩
  | .POD_TIM_COLL => ⟨0x60308, 256, 0x400, 1, 0x0⟩
  | .POD_TIM_EYE => ⟨0x60310, 256, 0x400, 4, 0x4⟩
  | .POD_TIM_LOADED_LO => ⟨0x60320, 256, 0x400, 1, 0x0⟩
  | .POD_TIM_LOADED_HI => ⟨0x60324, 256, 0x400, 1, 0x0⟩
  | .POD_LVL_CFG => ⟨0x60380, 256, 0x400, 1, 0x0⟩
  | .POD_LVL_STAT => ⟨0x60384, 256, 0x400, 1, 0x0⟩
  | .POD_LVL_MASKED => ⟨0x60388, 256, 0x400, 1, 0x0⟩
  | .CAP_CFG => ⟨0x60390, 256, 0x400, 1, 0x0⟩
  | .CAP_PART => ⟨0x60394, 256, 0x400, 1, 0x0⟩
  | .CAP_PNEXT => ⟨0x60398, 256, 0x400, 1, 0x0⟩
  | .CAP_MAPSTART => ⟨0x6039C, 256, 0x400, 1, 0x0⟩
  | .CAP_WR => ⟨0x603A0, 256, 0x400, 1, 0x0⟩
  | .CAP_RD => ⟨0x603A4, 256, 0x400, 1, 0x0⟩
  | .CAP_STAT => ⟨0x603A8, 256, 0x400, 1, 0x0⟩
  | .CAP_ELOG => ⟨0x603AC, 256, 0x400, 1, 0x0⟩
  | .CAP_PFC => ⟨0x603B0, 256, 0x400, 4, 0x4⟩
  | .CAP_LOST => ⟨0x603C0, 256, 0x400, 1, 0x0⟩
  | .CAP_FILL => ⟨0x603C4, 256, 0x400, 1, 0x0⟩
  | .CAP_THR => ⟨0x603C8, 256, 0x400, 1, 0x0⟩
  | .PIN_CFG => ⟨0xA0000, 1024, 0x100, 1, 0x0⟩
  | .PIN_WATCH => ⟨0xA0004, 1024, 0x100, 1, 0x0⟩
  | .PIN_STAT => ⟨0xA0008, 1024, 0x100, 1, 0x0⟩
  | .PIN_FLAG => ⟨0xA000C, 1024, 0x100, 1, 0x0⟩
  | .PIN_LVL_A => ⟨0xA0010, 1024, 0x100, 1, 0x0⟩
  | .PIN_LVL_B => ⟨0xA0014, 1024, 0x100, 1, 0x0⟩
  | .PIN_LVL_C => ⟨0xA0018, 1024, 0x100, 1, 0x0⟩
  | .PIN_LVL_D => ⟨0xA001C, 1024, 0x100, 1, 0x0⟩
  | .PIN_REARM_CNT => ⟨0xA0020, 1024, 0x100, 1, 0x0⟩
  | .PIN_PMU_CTL => ⟨0xA0040, 1024, 0x100, 1, 0x0⟩
  | .PIN_PMU_STAT => ⟨0xA0044, 1024, 0x100, 1, 0x0⟩
  | .PIN_PMU_RES => ⟨0xA0048, 1024, 0x100, 8, 0x4⟩
  | .PIN_TDC_CAL => ⟨0xA00C0, 1024, 0x100, 1, 0x0⟩
  | .PIN_TDC_SRC => ⟨0xA00C4, 1024, 0x100, 1, 0x0⟩

/-- Registers of the window, part 0. -/
def Reg.part0 : List Reg :=
  [Reg.GLB_ID, Reg.GLB_ROLE, Reg.GLB_UNITS, Reg.GLB_SAFECODE, Reg.RST_STAT, Reg.RST_CTL,
   Reg.RST_MAP, Reg.RST_NVSEL, Reg.RST_NVACK, Reg.RST_NVREC, Reg.TRUST_STAT, Reg.TRUST_FWID,
   Reg.TRUST_FWSVN, Reg.TRUST_CTL, Reg.TRUST_RES, Reg.WT_NOW_LO, Reg.WT_NOW_HI, Reg.WT_EPOCH,
   Reg.WT_CTL, Reg.WT_XTAL, Reg.WT_OFFSET, Reg.WT_STAT, Reg.WT_WM, Reg.WT_WM_LAST_LO]

/-- Registers of the window, part 1. -/
def Reg.part1 : List Reg :=
  [Reg.WT_WM_LAST_HI, Reg.WT_SNAP_TLO, Reg.WT_SNAP_THI, Reg.WT_SNAP_CTL, Reg.WT_SNAP_ALO, Reg.WT_SNAP_AHI,
   Reg.MSIX_ADDR_LO, Reg.MSIX_ADDR_HI, Reg.MSIX_DATA, Reg.MSIX_CTL, Reg.QP_SQB_LO, Reg.QP_SQB_HI,
   Reg.QP_CQB_LO, Reg.QP_CQB_HI, Reg.QP_CFG, Reg.QP_IRQ, Reg.QP_HEAD, Reg.QP_STAT,
   Reg.EVR_BASE_LO, Reg.EVR_BASE_HI, Reg.EVR_CFG, Reg.EVR_IRQ, Reg.EVR_TAIL, Reg.EVR_STAT]

/-- Registers of the window, part 2. -/
def Reg.part2 : List Reg :=
  [Reg.EVR_LOST, Reg.MSIX_PBA, Reg.HQ_GEN, Reg.HQ_QCTL, Reg.HQ_LINK, Reg.MMU_CFG,
   Reg.MMU_STAT, Reg.MMU_INV, Reg.MMU_INV_ALO, Reg.MMU_INV_AHI, Reg.MMU_INV_NPG, Reg.MMU_FRESUME,
   Reg.MMU_FIDX, Reg.MMU_FLOG0, Reg.MMU_FLOG1, Reg.MMU_FLOG2, Reg.MMU_FLOG3, Reg.MMU_FLOG4,
   Reg.MMU_FLOG5, Reg.MMU_FLOG6, Reg.PRE_CTL, Reg.PRE_TLO, Reg.PRE_THI, Reg.PRE_STAT]

/-- Registers of the window, part 3. -/
def Reg.part3 : List Reg :=
  [Reg.PRE_PEND_LO, Reg.PRE_PEND_HI, Reg.PRE_YIELD, Reg.MMU_ROOT_LO, Reg.MMU_ROOT_HI, Reg.FAB_CFG,
   Reg.FAB_STAT, Reg.FAB_DCTL, Reg.FAB_DSTAT, Reg.FAB_EXT, Reg.FAB_PRES_LO, Reg.FAB_PRES_HI,
   Reg.FAB_LOST_LO, Reg.FAB_LOST_HI, Reg.FAB_ORDER_LO, Reg.FAB_ORDER_HI, Reg.FAB_ARB, Reg.FAB_DROP,
   Reg.FAB_UID_LO, Reg.FAB_UID_HI, Reg.FAB_PCTL, Reg.FAB_PSTAT, Reg.FAB_PLAT, Reg.FAB_PASYM]

/-- Registers of the window, part 4. -/
def Reg.part4 : List Reg :=
  [Reg.FAB_PERR, Reg.FAB_PTRIM, Reg.FAB_DETOUR, Reg.PWR_CTL, Reg.PWR_STAT, Reg.PWR_WAKE,
   Reg.PWR_BUDGET, Reg.PWR_EST, Reg.PWR_GSTAT, Reg.THM_T, Reg.THM_THR, Reg.THM_CFG,
   Reg.THM_LIM, Reg.THM_DOM, Reg.THM_STAT, Reg.THM_CTL, Reg.FLT_CTL, Reg.FLT_STAT,
   Reg.FLT_SECCNT, Reg.FLT_SAFE, Reg.FLT_DEGR, Reg.FLT_FIRST, Reg.FLT_SECOND, Reg.FLT_PEND]

/-- Registers of the window, part 5. -/
def Reg.part5 : List Reg :=
  [Reg.FLT_CAUSE, Reg.FLT_SRC, Reg.FLT_CNT, Reg.EVT_CFG, Reg.EVT_ROUTE, Reg.SVP_CFG,
   Reg.SVP_MCTL, Reg.SVP_MTX, Reg.SVP_MRX, Reg.SVP_STAT, Reg.CLK_XMODE, Reg.CLK_XSTAT,
   Reg.CLK_XOVF, Reg.IU_RES, Reg.IU_CTL, Reg.IU_STAT, Reg.IU_GSTAT, Reg.IU_CAL,
   Reg.IU_CALST, Reg.PMC_CNT_LO, Reg.PMC_CNT_HI, Reg.PMC_SEL, Reg.PMC_OVF, Reg.PMC_LOSS]

/-- Registers of the window, part 6. -/
def Reg.part6 : List Reg :=
  [Reg.PMC_STAT, Reg.PMC_SHD_LO, Reg.PMC_SHD_HI, Reg.PMC_SHD_STAT, Reg.PMC_SHD_OVF, Reg.PMC_SHD_LOSS,
   Reg.SITE_PSTAT, Reg.SITE_FCOUNT, Reg.SITE_FFPOS_LO, Reg.SITE_FFPOS_HI, Reg.SITE_VPOS_LO, Reg.SITE_VPOS_HI,
   Reg.SITE_TAGRES, Reg.SITE_VVAL, Reg.SITE_V, Reg.SITE_FCTL, Reg.SITE_FSTAT, Reg.SITE_FSTAMP_LO,
   Reg.SITE_FSTAMP_HI, Reg.SITE_RSEQ, Reg.RAIL_CFG, Reg.RAIL_SET, Reg.RAIL_CTL, Reg.RAIL_VWIN]

/-- Registers of the window, part 7. -/
def Reg.part7 : List Reg :=
  [Reg.RAIL_IWIN, Reg.RAIL_MON, Reg.RAIL_STAT, Reg.RAIL_FLAG, Reg.RAIL_VRD, Reg.RAIL_IRD,
   Reg.RAIL_IPK, Reg.RAIL_PROF, Reg.AWG_CFG, Reg.AWG_SPAN, Reg.AWG_CTL, Reg.AWG_STAT,
   Reg.AWG_POS, Reg.AWG_SAMPLES, Reg.AWG_IDLE, Reg.AWG_ARMBY, Reg.STRM_CFG, Reg.STRM_STAT,
   Reg.STRM_FED, Reg.STRM_URCNT, Reg.POOL_STAT, Reg.POOL_RD, Reg.LEDG_CFG, Reg.LEDG_WR]

/-- Registers of the window, part 8. -/
def Reg.part8 : List Reg :=
  [Reg.LEDG_RD, Reg.LEDG_STAT, Reg.LEDG_FILL, Reg.LEDG_BINS, Reg.LEDG_LOST, Reg.LEDG_DROP,
   Reg.CAP_GCTL, Reg.CAP_GSTAT, Reg.CAP_APSEL, Reg.ENG_CTL, Reg.ENG_STAT, Reg.ENG_PC,
   Reg.ENG_GAP, Reg.ENG_UCTL, Reg.ENG_USTAT, Reg.ENG_UBRK, Reg.ENG_UIMG, Reg.ENG_UINFO,
   Reg.ENG_USVN, Reg.ENG_UREG, Reg.ENG_RA_CTL, Reg.ENG_RA_STAT, Reg.ENG_RA_QSET, Reg.ENG_RA_QRES]

/-- Registers of the window, part 9. -/
def Reg.part9 : List Reg :=
  [Reg.ENG_RA_QSH, Reg.ENG_RA_SHADOW, Reg.ENG_RA_MISP, Reg.ENG_RA_RES, Reg.ENG_RA_SQ, Reg.ENG_RA_HOLD,
   Reg.ENG_SEG, Reg.ENG_PM_CTL, Reg.ENG_PM_PAD, Reg.ENG_PM_STAT, Reg.ENG_PM_UR, Reg.ENG_PM_PADN,
   Reg.ENG_PM_XWAIT, Reg.ENG_PM_QSEG, Reg.ENG_PM_QREM, Reg.ENG_PM_QSRC, Reg.POD_TIM_CTL, Reg.POD_TIM_STAT,
   Reg.POD_TIM_COLL, Reg.POD_TIM_EYE, Reg.POD_TIM_LOADED_LO, Reg.POD_TIM_LOADED_HI, Reg.POD_LVL_CFG, Reg.POD_LVL_STAT]

/-- Registers of the window, part 10. -/
def Reg.part10 : List Reg :=
  [Reg.POD_LVL_MASKED, Reg.CAP_CFG, Reg.CAP_PART, Reg.CAP_PNEXT, Reg.CAP_MAPSTART, Reg.CAP_WR,
   Reg.CAP_RD, Reg.CAP_STAT, Reg.CAP_ELOG, Reg.CAP_PFC, Reg.CAP_LOST, Reg.CAP_FILL,
   Reg.CAP_THR, Reg.PIN_CFG, Reg.PIN_WATCH, Reg.PIN_STAT, Reg.PIN_FLAG, Reg.PIN_LVL_A,
   Reg.PIN_LVL_B, Reg.PIN_LVL_C, Reg.PIN_LVL_D, Reg.PIN_REARM_CNT, Reg.PIN_PMU_CTL, Reg.PIN_PMU_STAT]

/-- Registers of the window, part 11. -/
def Reg.part11 : List Reg :=
  [Reg.PIN_PMU_RES, Reg.PIN_TDC_CAL, Reg.PIN_TDC_SRC]

/-- Every register, in the order of the window's blocks. -/
def Reg.all : List Reg :=
  List.flatten [Reg.part0, Reg.part1, Reg.part2, Reg.part3, Reg.part4, Reg.part5, Reg.part6, Reg.part7, Reg.part8, Reg.part9, Reg.part10, Reg.part11]

/-- The instance of a register that lies at a window offset, if one does (R579). -/
def Reg.at? (r : Reg) (off : Nat) : Option (Nat × Nat) :=
  let p := r.place
  if off < p.base then none else
  let d := off - p.base
  let i := if p.s1 = 0 then 0 else d / p.s1
  let e := if p.s1 = 0 then d else d % p.s1
  let j := if p.s2 = 0 then 0 else e / p.s2
  let z := if p.s2 = 0 then e else e % p.s2
  if i < p.n1 ∧ j < p.n2 ∧ z = 0 then some (i, j) else none

/-- A register instance. -/
structure RegAt where
  reg : Reg
  i : Nat
  j : Nat
deriving DecidableEq, Repr

/-- The register instance that the index names at an offset (R578, R579). -/
def decodeOffset (off : Nat) : Option RegAt :=
  Reg.all.findSome? (fun r => (r.at? off).map (fun p => ⟨r, p.1, p.2⟩))

/-- The offset of an instance. -/
def RegAt.offset (a : RegAt) : Nat := a.reg.place.base + a.reg.place.s1 * a.i + a.reg.place.s2 * a.j

/-- Factory severity and reaction of an engine-die fault source (R491 and R540); `none`: reserved. -/
def engineSource (i : Nat) : Option (Nat × Nat) :=
  if i ≤ 5 then some (3, 6) else
  if i ≤ 8 then some (1, 1) else
  if i = 9 ∨ i = 11 then some (1, 1) else
  if i = 10 then some (2, 1) else
  if 12 ≤ i ∧ i ≤ 15 then some (2, 2) else
  if i = 16 ∨ i = 18 then some (1, 1) else
  if i = 17 then some (2, 1) else
  if i = 19 then some (3, 6) else
  if 20 ≤ i ∧ i ≤ 23 then some (1, 1) else
  if i = 24 then some (2, 1) else
  if i = 25 then some (3, 6) else
  if 32 ≤ i ∧ i ≤ 35 then some (2, 5) else
  if 36 ≤ i ∧ i ≤ 39 then some (1, 1) else
  if 40 ≤ i ∧ i ≤ 43 then some (2, 1) else
  if 44 ≤ i ∧ i ≤ 46 then some (1, 1) else
  if i = 47 then some (2, 1) else
  if i = 51 then some (0, 1) else
  if i = 52 ∨ i = 54 then some (2, 1) else
  if 48 ≤ i ∧ i ≤ 53 then some (1, 1) else none

/-- Factory severity and reaction of source j of a pin die (R492). -/
def pinDieSource (j : Nat) : Option (Nat × Nat) :=
  if j = 0 ∨ j = 4 ∨ j = 6 ∨ j = 10 then some (2, 2) else
  if j = 1 ∨ j = 2 ∨ j = 3 ∨ j = 5 ∨ j = 11 then some (1, 1) else
  if j = 7 then some (2, 3) else
  if j = 8 ∨ j = 9 then some (2, 4) else none

/-- Factory (severity, reaction) of a fault source, `none` for a reserved number (R490). -/
def faultFactory (i : Nat) : Option (Nat × Nat) :=
  if i < 128 then engineSource i else if i < 384 then pinDieSource ((i - 128) % 64) else none

/-- The value a field takes on its reset (R7), for instance i. -/
def RstVal.eval (r : RstVal) (i : Nat) : Nat :=
  match r with
  | .num n => n
  | .sixteenN => 16 * i
  | .fltFixed => if i = 0 then 1 else 0
  | .fltReact => ((faultFactory i).map (·.2)).getD 0
  | .fltSev => ((faultFactory i).map (·.1)).getD 0

end Sys2Proof.Machine
end

