-- ==== Sys2Proof/Machine/UnitParts.lean ====
section
/-! DEFINITION. The state of interval units, PMU measurements, waveform outputs, rails and site fencing that
no register shows whole, and their setup entries (chapters 10 to 12). -/

namespace Sys2Proof.Machine

/-- A source word (R292): KIND 0 none, 1 pin, 2 marker, 3 trigger input; EDGE 0 rise, 1 fall, 2 either. -/
structure Source where
  kind : Nat := 0
  edge : Nat := 0
  index : Nat := 0
deriving DecidableEq, Repr

/-- An interval setup entry (R290). -/
structure IuSetup where
  mode : Nat := 0
  vsel : Nat := 0
  vsh : Nat := 0
  presc : Nat := 0
  nM1 : Nat := 0
  start : Source := {}
  stop : Source := {}
  cycM1 : Nat := 0
  tmo : Nat := 0
  rec_ : Bool := false
deriving DecidableEq, Repr

/-- A request for an interval unit (R304): site, setup entry, value register, number of the measurement,
boundary tick, lowest-numbered pod of the gang. -/
structure IuReq where
  site : Nat
  setup : Nat
  dst : Nat
  tok : Nat
  tick : Stamp
  lead : Nat
deriving DecidableEq, Repr

/-- An interval unit's measurement (R294 to R302). `starts` and `stops` hold the qualifying stamps of the
present attempt in the order they came, `anchor` the edge that PERIOD and FREQUENCY count from, `endT` the
end of the last attempt. -/
structure IuX where
  busy : Bool := false
  reg : Bool := false
  site : Nat := 0
  dst : Nat := 0
  tok : Nat := 0
  setup : Nat := 0
  e : IuSetup := {}
  startSrc : Source := {}
  stopSrc : Source := {}
  begT : Stamp := 0
  starts : List Stamp := []
  stops : List Stamp := []
  anchor : Option Stamp := none
  missed : Bool := false
  done : Nat := 0
  nvalid : Nat := 0
  sum : Int := 0
  sumsq : Int := 0
  lo : Int := 0
  hi : Int := 0
  ntmo : Nat := 0
  nrej : Nat := 0
  flags : Nat := 0
  last : Stamp := 0
  endT : Option Stamp := none
  waitCal : Bool := false
deriving DecidableEq, Repr

/-- A PMU setup entry (R316). -/
structure PmuSetup where
  mode : Nat := 0
  range : Nat := 0
  rpath : Bool := false
  keep : Bool := false
  limfail : Bool := false
  ftag : Nat := 0
  vred : Nat := 0
  iunit : Bool := false
  settle : Nat := 0
  force : Int := 0
  clampLo : Nat := 0
  clampHi : Nat := 0
  conv : Nat := 0
  trig : Nat := 0
  rec_ : Bool := false
  wsrc : Nat := 0
  nM1 : Nat := 0
  limlo : Int := 0
  limhi : Int := 0
  tmo : Nat := 0
deriving DecidableEq, Repr

/-- A PMU measurement (R318, R320): its number, owner (no site for a register start), value register, setup,
its pins in site-pin order, its boundary tick, the vector position there and the word's place in program order, whether it has started on
its pins, and the pins that have ended. -/
structure PmuMeas where
  tok : Nat
  site : Option Nat
  dst : Nat
  setup : Nat
  pins : List Nat
  b : Stamp
  vp : Nat
  seq : Nat
  started : Bool
  ended : List Nat
deriving DecidableEq, Repr

/-- A waveform output beside its registers (R331 to R336): address playing, first slot's tick, the tick at which
a pending start, stop, mute, unmute acts, the arming marker and its site, the state to return to after a span
change, whether the next sample is missing, the code shown, the last command of a gang, whether PAD plays, the tick of
the last slot, the gang's command that acts in the present tick (site, operation, marker, entry). -/
structure WaveX where
  pc : PAddr := ⟨0, 0⟩
  next : Stamp := 0
  startAt : Option (Stamp × PAddr) := none
  stopAt : Option Stamp := none
  fireT : Option Stamp := none
  arm : Option (Nat × Nat × PAddr) := none
  muteAt : Option Stamp := none
  unmuteAt : Option Stamp := none
  back : Nat := 0
  spanChange : Bool := false
  wait : Bool := false
  code : Nat := 0
  cmdTick : Stamp := 0
  cmdLead : Nat := 0
  cmdSite : Nat := 0
  pad : Bool := false
  slotAt : Stamp := 0
  cmd : Option (Nat × Nat × Nat × PAddr) := none
deriving DecidableEq, Repr

/-- A pin die beside its registers: temperature and end of the last delay recalibration (R115), of the last calibration of
its TDCs (R309); the correction of its references, in DAC steps / 256 (R485). -/
structure DieX where
  recalTemp : Int := 0
  recalEnd : Option Stamp := none
  calTemp : Int := 0
  calEnd : Option Stamp := none
  comp : Int := 0
  compT : Option Stamp := none
deriving DecidableEq, Repr

/-- A ramp or an OFF that waits for the other rail of its site (R351): target (0 for down to off), slew,
what it waits for (1 the other rail's regulation, 2 the other rail's OFF), and the end of DELAY once known. -/
structure RailWait where
  target : Nat
  slew : Nat
  cond : Nat
  delay : Bool
  till : Option Stamp
deriving DecidableEq, Repr

/-- A rail beside its registers (R345 to R349): filtered monitor states (3 UNKNOWN) with the ticks they changed
at, target and slew in force, ramp start tick and reach tick, the tick of declared regulation,
what waits, the state LIMIT came from, the profile's slew and EXIT, the tick it was tripped or turned off;
the largest current sample and up to when, the last change of SMUX, the last samples before it (R352). -/
structure RailX where
  v : Nat := 3
  i : Nat := 3
  vT : Stamp := 0
  iT : Stamp := 0
  target : Nat := 0
  slew : Nat := 0
  t0 : Stamp := 0
  reach : Stamp := 0
  regT : Option Stamp := none
  wait : Option RailWait := none
  fromSt : Nat := 0
  toOff : Bool := false
  profSlew : Nat := 0
  exit : Bool := false
  offT : Stamp := 0
  ipk : Option Int := none
  ipkFrom : Stamp := 0
  smuxT : Stamp := 0
  vAt : Option Stamp := none
  iAt : Option Stamp := none
  noregT : Option Stamp := none
  noregDone : Bool := false
deriving DecidableEq, Repr

/-- An open window of a site's trip path (R358): its ARMSRC code, its opening tick, whether it waits for its
opening event (a recovery window), and for each rail the tick in which it qualified. -/
structure TripWin where
  src : Nat
  opened : Stamp
  waits : Bool
  quals : List (Nat × Option Stamp)
deriving DecidableEq, Repr

/-- The fencing state of a site beside its registers: open windows, the one opened last first; the tick the path
became armed. -/
structure SiteX where
  wins : List TripWin := []
  armedT : Stamp := 0
deriving DecidableEq, Repr

end Sys2Proof.Machine
end

