-- ==== Sys2Proof/Machine/State.lean ====
section
/-! DEFINITION. The state of the device, its faults and refusals, and the state right after reset. -/

namespace Sys2Proof.Machine

/-- A step that stops with a fault. -/
inductive Fault where
  /-- Raised by no command. Safe. -/
  | none
deriving DecidableEq, Repr

/-- A step that the model refuses. -/
inductive Refusal where
  /-- A command that has no meaning yet, by its mnemonic. Safe. -/
  | notModelled (mnemonic : String)
deriving DecidableEq, Repr

/-- The key of one register field: register, low bit, instance. -/
structure FKey where
  reg : Reg
  lo : Nat
  i : Nat
  j : Nat
deriving DecidableEq, Repr

/-- The order of field keys. -/
def FKey.code (k : FKey) : Nat := Nat.pair (Nat.pair k.reg.ctorIdx k.lo) (Nat.pair k.i k.j)

/-- The reset value of a field key (R7); 0 where no field starts at that bit. -/
def FKey.reset (k : FKey) : Nat :=
  match k.reg.fields.find? (fun f => f.lo == k.lo) with
  | some f => f.rst.eval k.i
  | none => 0

/-- A site of the site map (R396): its pods and rails, ascending, and its pin die. -/
structure SiteDef where
  pods : List Nat
  rails : List Nat
  die : Nat
deriving DecidableEq, Repr

/-- An accepted STEP_RUN (R392): its queue pair and CID, entry, rail profile, step number, start tick,
named sites, whether the ready check has passed, whether it has started, and how each site ended
(1 halted, 2 fenced, 3 engine error); the tick of the last end or visible entry (R30), and of the last change of the members
of its barriers (R150). -/
structure StepRun where
  qp : Nat
  cid : Nat
  entry : Nat
  rprof : Nat
  stepNo : Nat
  startT : Stamp
  sites : List Nat
  checked : Bool
  started : Bool
  ended : List (Nat × Nat)
  lastT : Stamp
  memT : Option Stamp := none
deriving DecidableEq, Repr

/-- An event record on its way to a ring (R398). -/
structure EvRec where
  src : Nat
  kind : Nat
  stamp : Stamp
  seq : Nat
  info : Nat
  payload : List Nat
  ring : Option Nat
deriving DecidableEq, Repr

/-- A fault detected and not yet taken by the collector (R495): source, unit, DETAIL, forced, tick. -/
structure FaultIn where
  src : Nat
  unit : Nat
  detail : Nat
  forced : Bool
  stamp : Stamp
deriving DecidableEq, Repr

/-- A fence reaction in force (R500): its source and the unit it names: kind 1 a pod, 2 a rail, 4 a port, 6 a pin die
whole. -/
structure FenceIn where
  src : Nat
  kind : Nat
  unit : Nat
deriving DecidableEq, Repr

/-- A ledger entry that has committed and is not yet visible (R277, R280): its source number, site and
STEP_RUN, commit tick, and its fields; `hold` while it waits for a slot outside the reserve (R281). -/
structure LEnt where
  src : Nat
  site : Nat
  commitT : Stamp
  stamp : Stamp
  fcount : Nat
  va : Nat
  vb : Nat
  ffpos : Nat
  step : Nat
  result : Nat
  err : Nat
  vaP : Bool
  vbP : Bool
  caploss : Bool
  bin : Nat
  hold : Bool
deriving DecidableEq, Repr

/-- A performance counter: its count without wrapping (for a counter that selects TICK, less the ticks
counted so far), and how many of its overflows have been taken (R569, R573). -/
structure PmcX where
  cnt : Int := 0
  wraps : Nat := 0
deriving DecidableEq, Repr

/-- The device. -/
structure State where
  /-- The commands that wait, first in first out. -/
  pending : List Instr
  /-- Every register field that differs from its reset value. -/
  regs : Store FKey Nat
  /-- Halves latched by the read of the other half, where the register they come from is stored whole (R55, R163, R373). -/
  latch : Store FKey Nat
  /-- Wafer time (R31). -/
  now : Stamp
  /-- The model's own counter of free values (assumption 6). -/
  free : Nat
  gangs : NStore Gang
  pods : NStore PodX
  pins : NStore PinX
  ius : NStore IuX
  iuq : List IuReq
  iuSetup : Store Nat (Option IuSetup)
  pmuSetup : Store Nat (Option PmuSetup)
  pmus : List PmuMeas
  waves : NStore WaveX
  rails : NStore RailX
  sites : NStore SiteX
  dies : NStore DieX
  segMem : Memory
  poolMem : Memory
  /-- Pool granules that hold an uncorrectable error (R232). -/
  poolBad : List Nat
  capMem : Memory
  ledgMem : Memory
  mtpMem : Memory
  siteMap : Store Nat (Option SiteDef)
  runs : List StepRun
  evq : List EvRec
  seqs : NStore Nat
  faultq : List FaultIn
  fences : List FenceIn
  pmc : NStore PmcX
  ledgq : List LEnt
  ledgAbove : Bool
  qps : NStore QpX
  evrs : NStore EvrX
  /-- Cached translations, the newest first (R415). -/
  tlb : List Tlb
  /-- Faults that wait for a slot of the fault log (R419), the oldest first. -/
  mmuq : List MFault
  strms : NStore StrmX
  snaps : NStore SnapX
  wm : WmX
  /-- Jumps of wafer time so far (R44). -/
  jumps : Nat
  /-- Whether the PCIe function is in D3hot (R376). -/
  d3hot : Bool
  /-- What has left the device, in order. -/
  out : List OutMsg
  /-- The queue pair last served by a descriptor fetch (R382) and by a data chunk (R425). -/
  rr : Nat
  lastChunk : Option Nat
  time : TimeX
  ports : NStore PortX
  fab : FabX
  pwr : PwrX
  sensors : NStore SensorX
  doms : NStore DomX
  rst : RstX
  safeX : SafeX
  /-- Conditions of live fault sources that hold: source, unit, DETAIL (R490). -/
  live : List (Nat × Nat × Nat)
  xings : NStore XingX
  /-- Register writes held while ECLK is stopped (R549): offset and value. -/
  shadowWr : List (Nat × Nat)
  /-- Register accesses that wait at a crossing (R17). -/
  xwait : List XAcc
  svp : SvpX
  trigs : NStore TrigX
  jtag : JtagX
  /-- Shadow banks of the performance counters (R576): bank 512 s + c. -/
  shd : NStore Nat
  /-- Supplies out of range (R585): a number of R583, and the pin die for a supply of the pin dies (4 for the device). -/
  badSup : List (Nat × Nat)
  /-- Numbers given to measurements. -/
  tok : Nat
  /-- The tick of the last restart of every filter (R78). -/
  fRestart : Stamp
  /-- Ticks counted by the TICK event on the engine die and on the pin dies (R571). -/
  tickAcc : Nat
  tickDie : Nat
  /-- Causes of wake requests not yet taken (R474), in the bits of PWR_WAKE.CAUSE. -/
  wakeAsk : Nat
  /-- A wake in progress (R473): the tick it ends and the power state it goes to. -/
  wake : Option (Stamp × Nat)
  /-- The pin safe codes in force (R91 to R93): seven codes per pin die. -/
  safePin : List Nat
  /-- The rail safe codes in force (R368, R369), five per pin die, and the waveform idle codes (R337). -/
  safeRail : List Nat
  safeWave : List Nat
  /-- The register fields as they stood when the present tick began (R6). -/
  atTick : Store FKey Nat
deriving DecidableEq, Repr

/-- The factory default codes of the four pin dies (R93): six voltage DACs and ILOAD, in the section's order. -/
def factorySafe : List Nat :=
  List.flatten (List.replicate 4 [0x0CCD, 0x0CCD, 0x0CCD, 0x0CCD, 0x0CCD, 0, 0x0CCD])

/-- The factory default rail codes (R369), VLO, VHI, ILO, IHI and ILIM of each pin die, and idle codes (R337). -/
def factoryRail : List Nat := List.flatten (List.replicate 4 [0, 0x3FF, 0, 0xC4, 0xC4])
def factoryWave : List Nat := List.replicate 32 0x2000

/-- The device right after power-on: every register at its reset value, memories empty, no command waiting. -/
def State.reset : State :=
  { pending := [], regs := [], latch := [], now := 0, free := 0, gangs := [], pods := [], pins := [], ius := [], iuq := [], iuSetup := [],
    pmuSetup := [], pmus := [], waves := [], rails := [], sites := [], dies := [], segMem := [],
    poolMem := [], poolBad := [], capMem := [], ledgMem := [], mtpMem := [], siteMap := [], runs := [], evq := [], seqs := [],
    faultq := [], fences := [], pmc := [], ledgq := [], ledgAbove := false, qps := [], evrs := [], tlb := [],
    mmuq := [], strms := [], snaps := [], wm := {}, jumps := 0, d3hot := false, out := [], rr := 63, lastChunk := none,
    time := {}, ports := [], fab := {}, pwr := {}, sensors := [], doms := [], rst := {}, safeX := {}, live := [], xings := [],
    shadowWr := [], xwait := [], svp := {}, trigs := [], jtag := {}, shd := [], badSup := [], tok := 1, fRestart := 0, tickAcc := 0, tickDie := 0, wakeAsk := 0, wake := none,
    safePin := factorySafe, safeRail := factoryRail, safeWave := factoryWave, atTick := [] }

end Sys2Proof.Machine
end

