-- ==== Sys2Proof/Machine/Ops.lean ====
section
/-! DEFINITION. Named operations every meaning shares: register fields, instances, sites, events, performance
counter pulses, fault detections. -/

namespace Sys2Proof.Machine

/-- The key of instance (i, j) of a field. -/
def Fld.key (f : Fld) (i j : Nat) : FKey := ⟨f.reg, f.lo, i, j⟩

/-- The value of a field of instance (i, j): what was last stored, or the reset value. -/
def State.rd (s : State) (f : Fld) (i : Nat := 0) (j : Nat := 0) : Nat :=
  Store.get FKey.reset s.regs (f.key i j)

/-- Storing a value, truncated to the field's width. -/
def State.wr (s : State) (f : Fld) (v : Nat) (i : Nat := 0) (j : Nat := 0) : State :=
  { s with regs := Store.put FKey.code FKey.reset s.regs (f.key i j) (v % 2 ^ f.width) }

/-- Whether a one-bit field is 1. -/
def State.on (s : State) (f : Fld) (i : Nat := 0) (j : Nat := 0) : Bool := s.rd f i j == 1

/-- Adding to a counting field, saturating at all ones. -/
def State.bump (s : State) (f : Fld) (k : Nat) (i : Nat := 0) (j : Nat := 0) : State :=
  s.wr f (satAdd (2 ^ f.width - 1) (s.rd f i j) k) i j

/-- Storing one value in the same field of several instances. -/
def State.wrAll (s : State) (f : Fld) (v : Nat) (is : List Nat) : State :=
  is.foldl (fun s i => s.wr f v i) s

/-- A 64-bit stamp held in a LO and a HI register. -/
def State.wrStamp (s : State) (lo hi : Fld) (t : Stamp) (i : Nat := 0) : State :=
  (s.wr lo (loWord t.toNat) i).wr hi (hiWord t.toNat) i

/-- Register fields of a reset level or of lesser reach take their reset values (R7), where `p` picks
the instances that the reset reaches. -/
def FKey.clears (k : FKey) (l : Lvl) : Bool :=
  match k.reg.fields.find? (fun f => f.lo == k.lo) with
  | some f => decide (l.reach ≤ f.lvl.reach)
  | none => true
def State.resetRegs (s : State) (l : Lvl) (p : FKey → Bool) : State :=
  { s with
    regs := s.regs.filter (fun e => !(p e.1 && e.1.clears l))
    latch := s.latch.filter (fun e => !(p e.1 && e.1.clears l))
    atTick := s.atTick.filter (fun e => !(p e.1 && e.1.clears l)) }

/-- The gang of a site, a pod, a pin. -/
def State.gang (s : State) (n : Nat) : Gang := s.gangs.at {} n
def State.setGang (s : State) (n : Nat) (g : Gang) : State := { s with gangs := s.gangs.set {} n g }
def State.pod (s : State) (n : Nat) : PodX := s.pods.at {} n
def State.setPod (s : State) (n : Nat) (p : PodX) : State := { s with pods := s.pods.set {} n p }
def State.pin (s : State) (n : Nat) : PinX := s.pins.at {} n
def State.setPin (s : State) (n : Nat) (p : PinX) : State := { s with pins := s.pins.set {} n p }
def State.iu (s : State) (n : Nat) : IuX := s.ius.at {} n
def State.setIu (s : State) (n : Nat) (x : IuX) : State := { s with ius := s.ius.set {} n x }
def State.wave (s : State) (n : Nat) : WaveX := s.waves.at {} n
def State.setWave (s : State) (n : Nat) (x : WaveX) : State := { s with waves := s.waves.set {} n x }
def State.rail (s : State) (n : Nat) : RailX := s.rails.at {} n
def State.setRail (s : State) (n : Nat) (x : RailX) : State := { s with rails := s.rails.set {} n x }
def State.siteX (s : State) (n : Nat) : SiteX := s.sites.at {} n
def State.setSiteX (s : State) (n : Nat) (x : SiteX) : State := { s with sites := s.sites.set {} n x }

def State.die (s : State) (n : Nat) : DieX := s.dies.at {} n
def State.setDie (s : State) (n : Nat) (x : DieX) : State := { s with dies := s.dies.set {} n x }

def State.qp (s : State) (n : Nat) : QpX := s.qps.at {} n
def State.setQp (s : State) (n : Nat) (x : QpX) : State := { s with qps := s.qps.set {} n x }
def State.evr (s : State) (n : Nat) : EvrX := s.evrs.at {} n
def State.setEvr (s : State) (n : Nat) (x : EvrX) : State := { s with evrs := s.evrs.set {} n x }
def State.strm (s : State) (n : Nat) : StrmX := s.strms.at {} n
def State.setStrm (s : State) (n : Nat) (x : StrmX) : State := { s with strms := s.strms.set {} n x }
def State.snap (s : State) (n : Nat) : SnapX := s.snaps.at {} n
def State.setSnap (s : State) (n : Nat) (x : SnapX) : State := { s with snaps := s.snaps.set {} n x }

/-- The site map's entry of a site. -/
def State.site (s : State) (n : Nat) : Option SiteDef := Store.get (fun _ => none) s.siteMap n

/-- The pods, rails and lowest-numbered pod of a site; a site the map does not define has none. -/
def State.podsOf (s : State) (n : Nat) : List Nat := ((s.site n).map (·.pods)).getD []
def State.railsOf (s : State) (n : Nat) : List Nat := ((s.site n).map (·.rails)).getD []
def State.lead (s : State) (n : Nat) : Nat := (s.podsOf n).headD 0

/-- The pins of a pod, of a site. -/
def pinsOfPod (p : Nat) : List Nat := [4 * p, 4 * p + 1, 4 * p + 2, 4 * p + 3]
def State.pinsOf (s : State) (n : Nat) : List Nat := (s.podsOf n).flatMap pinsOfPod

/-- The site that a pod, a rail belongs to. -/
def State.siteOfPod (s : State) (p : Nat) : Option Nat :=
  s.siteMap.findSome? (fun e => match e.2 with
    | some d => if d.pods.contains p then some e.1 else none
    | none => none)
def State.siteOfRail (s : State) (r : Nat) : Option Nat :=
  s.siteMap.findSome? (fun e => match e.2 with
    | some d => if d.rails.contains r then some e.1 else none
    | none => none)

/-- The sites the map defines. -/
def State.sitesDefined (s : State) : List Nat :=
  s.siteMap.filterMap (fun e => if e.2.isSome then some e.1 else none)

/-- The pin die of a pod, pin, rail, waveform output. -/
def dieOfPod (p : Nat) : Nat := p / 64
def dieOfPin (p : Nat) : Nat := p / 256
def dieOfRail (r : Nat) : Nat := r / 32
def dieOfWave (w : Nat) : Nat := w / 8

/-- ENG_STAT.STATE codes (R162). -/
def stIdle : Nat := 0
def stArmed : Nat := 1
def stRun : Nat := 2
def stWait : Nat := 3
def stBarrier : Nat := 4
def stHalted : Nat := 5
def stError : Nat := 6
def stHusk : Nat := 7
def stSaved : Nat := 8

/-- The engine state of a site's gang, and setting it in every pod of the gang. -/
def State.gstate (s : State) (n : Nat) : Nat := s.rd F.ENG_STAT_STATE (s.lead n)
def State.setGstate (s : State) (n : Nat) (v : Nat) : State := s.wrAll F.ENG_STAT_STATE v (s.podsOf n)

/-- Whether the gang of a site runs: in RUN, WAIT, BARRIER or SAVED. -/
def State.running (s : State) (n : Nat) : Bool :=
  (s.site n).isSome && (s.gstate n == stRun || s.gstate n == stWait || s.gstate n == stBarrier || s.gstate n == stSaved)

/-- Whether a pod belongs to a running gang, and whether any gang of the device, of a pin die runs. -/
def State.podRuns (s : State) (p : Nat) : Bool :=
  match s.siteOfPod p with | some n => s.running n | none => false
def State.anyRuns (s : State) : Bool := s.sitesDefined.any s.running
def State.dieRuns (s : State) (k : Nat) : Bool :=
  s.sitesDefined.any (fun n => s.running n && dieOfPod (s.lead n) == k)

/-- Which counters count an event: PMC_SEL names its code and unit and CHAIN does not apply (R572, R574). -/
def pulseTargets (regs : Store FKey Nat) (code unit : Nat) (anyUnit : Bool) : List Nat :=
  regs.filterMap (fun e =>
    if e.1.reg = .PMC_SEL ∧ e.1.lo = 0 ∧ e.2 = code ∧
        (anyUnit = true ∨ Store.get FKey.reset regs (F.PMC_SEL_UNIT.key e.1.i 0) = unit) ∧
        Store.get FKey.reset regs (F.PMC_SEL_CHAIN.key e.1.i 0) = 0
    then some e.1.i else none)

/-- A counter with n more occurrences. -/
def PmcX.plus (x : PmcX) (n : Nat) : PmcX := { x with cnt := x.cnt + n }

/-- R569: n occurrences of an event of a unit are added to every counter that selects it. -/
def State.pulse (s : State) (code unit : Nat) (n : Nat := 1) (anyUnit : Bool := false) : State :=
  { s with
    pmc := (pulseTargets s.regs code unit anyUnit).foldl (fun m c => m.set {} c ((m.at {} c).plus n)) s.pmc }

/-- An event counter sees an event (R154). -/
def EvCnt.see (c : EvCnt) (src : Nat) (stamp : Stamp) : EvCnt :=
  if c.src = src ∧ ahead stamp c.fromT ≥ 0 then { c with seen := stamp :: c.seen } else c

/-- The count, of the events stamped before `till` where one is given, saturating (R154). -/
def EvCnt.count (c : EvCnt) (till : Option Stamp) : Nat :=
  min (2 ^ 32 - 1) (c.base + (c.seen.filter (fun x => match till with | some t => decide (ahead x t < 0) | none => true)).length)

/-- A counter that takes a value at a tick goes on counting from there (R154). -/
def EvCnt.load (c : EvCnt) (v : Nat) (t : Stamp) : EvCnt :=
  { c with base := v, fromT := t, seen := c.seen.filter (fun x => decide (ahead x t ≥ 0)) }

/-- A wait sees an event of a source stamped at or after its boundary tick, up to the tick of its timeout; `t`
is the tick in which it reaches the engines, 64 ticks before the wait ends (R149). -/
def GWait.see (w : GWait) (src : Nat) (stamp t : Stamp) : GWait :=
  match w.kind, w.bt with
  | .event q none, some b =>
    if q = src ∧ ahead stamp b ≥ 0 ∧ ahead t (after b ((w.tmo + 1) * 64)) ≤ 0 then
      { w with kind := .event q (some t), endAt := some (after (tickOf t) 64) }
    else w
  | _, _ => w

/-- The earliest boundary tick that something of the gang may still count events from: the pins' end, and
the boundary ticks of side effects that have not committed (R206). -/
def Gang.horizon (g : Gang) : Stamp :=
  g.seb.foldl (fun h e => match e.bt with | some b => if ahead b h < 0 then b else h | none => h) g.pinEnd

/-- A gang's waits and event counters see an event (R149, R154, R397); it is kept while a boundary tick at or
before its stamp may still become known. -/
def Gang.seeEvent (g : Gang) (src : Nat) (stamp t : Stamp) : Gang :=
  let h := g.horizon
  { g with
    recent := (g.recent ++ [(src, stamp, t)]).filter (fun e => decide (ahead e.2.1 h ≥ 0))
    wait := g.wait.map (fun w => w.see src stamp t)
    evcnt := g.evcnt.map (fun (e : Nat × Option EvCnt) => (e.1, e.2.map (fun c => c.see src stamp))) }

/-- The ring that EVT_ROUTE gives a source, if it is delivered and enabled (R397, R409). -/
def State.routeOf (s : State) (src : Nat) : Option Nat :=
  let j := src % 4
  let en := if j = 0 then s.on F.EVT_ROUTE_EN0 (src / 4) else if j = 1 then s.on F.EVT_ROUTE_EN1 (src / 4)
    else if j = 2 then s.on F.EVT_ROUTE_EN2 (src / 4) else s.on F.EVT_ROUTE_EN3 (src / 4)
  let ring := if j = 0 then s.rd F.EVT_ROUTE_RING0 (src / 4) else if j = 1 then s.rd F.EVT_ROUTE_RING1 (src / 4)
    else if j = 2 then s.rd F.EVT_ROUTE_RING2 (src / 4) else s.rd F.EVT_ROUTE_RING3 (src / 4)
  if src < 2304 ∧ en = true ∧ s.on F.EVR_CFG_EN ring = true then some ring else none

/-- A record joins those on their way to a ring, if it has one. -/
def State.emit (s : State) (r : EvRec) : State := if r.ring.isSome then { s with evq := s.evq ++ [r] } else s

/-- R397 to R399: an event of a source is raised: every consumer sees it, and its record waits for its ring. -/
def State.raise (s : State) (src info : Nat) (payload : List Nat) (stamp : Stamp) : State :=
  let q := s.seqs.at 0 src
  let s := s.emit (EvRec.mk src 1 stamp q info payload (s.routeOf src))
  let s := { s with
    seqs := s.seqs.set 0 src ((q + 1) % 65536)
    gangs := s.gangs.map (fun (e : Nat × Gang) => (e.1, e.2.seeEvent src stamp s.now)) }
  s.pulse 0x38 src

/-- A record of another kind waits for its ring: the one given, or that of its source (R397, R398). -/
def State.record (s : State) (src kind : Nat) (payload : List Nat) (stamp : Stamp) (ring : Option Nat) : State :=
  let q := s.seqs.at 0 src
  let to_ := match ring with
    | some e => if s.on F.EVR_CFG_EN e then some e else none
    | none => s.routeOf src
  let s := s.emit (EvRec.mk src kind stamp q 0 payload to_)
  { s with seqs := s.seqs.set 0 src ((q + 1) % 65536) }

/-- Whether a source's cause persists: marked live in the tables of R491 and R492. -/
def liveSource (i : Nat) : Bool :=
  if i < 128 then decide (1 ≤ i ∧ i ≤ 3) || i == 19 || decide (23 ≤ i ∧ i ≤ 25) || decide (32 ≤ i ∧ i ≤ 35)
    || decide (40 ≤ i ∧ i ≤ 43) || i == 45 || i == 47
  else (i - 128) % 64 == 0 || (i - 128) % 64 == 3 || (i - 128) % 64 == 4 || (i - 128) % 64 == 8

/-- A fault is detected; the collector takes it at FAULT_DETECTED (R495). A persistent cause holds from now on (R490). -/
def State.detect (s : State) (src : Nat) (unit detail : Nat) : State :=
  { s with
    faultq := s.faultq ++ [FaultIn.mk src unit detail false s.now]
    live := if liveSource src && !(s.live.any (fun e => e.1 == src && e.2.1 == unit)) then s.live ++ [(src, unit, detail)]
      else s.live }

/-- The condition of a persistent cause stops holding, for one unit or for all: its FLT_CAUSE bit returns to 0 once none
holds (R490, R504). -/
def State.endLive (s : State) (src : Nat) (unit : Option Nat) : State :=
  let rest := s.live.filter (fun e => !(e.1 == src && (match unit with | some u => e.2.1 == u | none => true)))
  let s := { s with live := rest }
  if rest.any (fun e => e.1 == src) then s
  else s.wr F.FLT_CAUSE_CAUSE (withoutBit (s.rd F.FLT_CAUSE_CAUSE (src / 32)) (src % 32)) (src / 32)

/-- Whether a fence reaction in force holds a pod, a rail (R500). -/
def State.podFenced (s : State) (p : Nat) : Bool :=
  s.fences.any (fun f => (f.kind == 1 && f.unit == p) || (f.kind == 6 && f.unit == dieOfPod p))
def State.railFenced (s : State) (r : Nat) : Bool :=
  s.fences.any (fun f => (f.kind == 2 && f.unit == r) || (f.kind == 6 && f.unit == dieOfRail r))

/-- Whether the safe state is in force (R506). -/
def State.safe (s : State) : Bool := s.on F.FLT_SAFE_ACTIVE

/-- Whether a pin die's link is up (R11). -/
def State.dieOk (s : State) (k : Nat) : Bool := hasBit (s.rd F.GLB_UNITS_PD_OK) k

/-- The number of the next free value is used up. -/
def State.tookFree (s : State) : State := { s with free := s.free + 1 }

end Sys2Proof.Machine
end

