-- ==== Sys2Proof/Machine/PinOps.lean ====
section
/-! DEFINITION. Shared operations on pins: placement of drive and compare edges (R101 to R114), comparator
history, majority filters (R76 to R81), capture of fails (R259 to R264), active load and driver state. -/

namespace Sys2Proof.Machine

/-- Placed times are whole numbers of 1/8000 tick: an offset unit of 0.25 ps is three of them (R106). -/
def fineTick : Int := 8000
def fineUnit : Int := 3

/-- The fine time of a tick, and the stamp of a fine time: the 1/1024 tick it lies in (R48, assumption 8). -/
def fineOf (t : Stamp) : Int := (t.toNat / 1024 : Nat) * 8000
def stampOf (t : Int) : Stamp := BitVec.ofInt 64 (t * 128 / 1000)

/-- The whole tick a fine time lies in. -/
def fineFloor (t : Int) : Int := t / 8000

/-- Whether a fine time has come: its tick is not after the present tick (R34). -/
def fineDue (t : Int) (now : Stamp) : Bool := reached (tickOf (stampOf t)) now

/-- 330 ps and 250 ps (R109) in fine time. -/
def gap330 : Int := 3960
def gap250 : Int := 3000

/-! ### Filters -/

/-- Sample period of a filter clock in ticks (R76). -/
def fselTicks (fsel : Nat) : Nat :=
  if fsel = 0 then 1 else if fsel = 1 then 4 else if fsel = 2 then 16 else if fsel = 3 then 15 else 1500

/-- Whether a filter clock derives from ECLK (R76, R80). -/
def fselEclk (fsel : Nat) : Bool := decide (fsel ≤ 2)

/-- n and k of a filter (R76, R78): bypassed 1 of 1, 3 of 5, 5 of 9. -/
def filtN (filt : Nat) : Nat := if filt = 0 then 1 else if filt = 1 then 5 else 9
def filtK (filt : Nat) : Nat := if filt = 0 then 1 else if filt = 1 then 3 else 5

/-- The extended count EPOCH × 2^54 + ticks at a stamp of the present epoch (R41, R76). -/
def extCount (epoch : Nat) (t : Stamp) : Nat := epoch * 2 ^ 54 + t.toNat / 1024

/-- The state that k of the last n samples show, if one does. -/
def majority (win : List Nat) (n k : Nat) : Option Nat :=
  let w := win.take n
  if (w.filter (· == 0)).length ≥ k then some 0
  else if (w.filter (· == 1)).length ≥ k then some 1
  else if (w.filter (· == 2)).length ≥ k then some 2
  else none

/-- One sample taken by a filter at tick t: window, rate window (R86), and the filtered state (R76, R78). A clean step is decided
at its k-th sample, as the k-of-n wording of R76 has it (DEDUCED, assumption 158). A filter that has left UNKNOWN does not go back
to it but by a restart. -/
def Filter.sample (f : Filter) (filt settle raw p : Nat) (t : Stamp) : Filter :=
  let n := filtN filt
  let k := filtK filt
  let ch := match f.win with | [] => 0 | r :: _ => if r = raw then 0 else 1
  let win := (raw :: f.win).take 9
  let taken := f.taken + 1
  let changes := f.changes + ch
  let rate := if f.wcount + 1 ≥ 32 ∧ changes ≥ 16 then some t else f.rate
  let st := if f.st = 3 ∧ taken < max settle n then 3 else
    match majority win n k with
    | some s => if f.st = 3 ∨ f.st ≠ s then s else f.st
    | none => f.st
  { f with
    win := win, taken := taken, rate := rate, st := st, rawS := raw
    changes := if f.wcount + 1 ≥ 32 then 0 else changes
    wcount := if f.wcount + 1 ≥ 32 then 0 else f.wcount + 1
    decs := if st = f.st then f.decs else f.decs ++ [FDec.mk f.st st t]
    since := if st = f.st then f.since else t - ticks (k * p) }

/-- m samples of one raw state, the last at tick t and each p ticks after the one before. -/
def Filter.samples (f : Filter) (filt settle raw p : Nat) (t : Stamp) : Nat → Filter
  | 0 => f
  | m + 1 => (f.sample filt settle raw p (t - ticks (p * m))).samples filt settle raw p t m

/-- The filter brought up to tick `now` with an unchanged raw state: it samples in the ticks whose extended
count is a multiple of the period (R76). Past 300 samples of one state only the counts go on. -/
def Filter.catchUp (f : Filter) (filt settle raw fsel epoch : Nat) (now : Stamp) : Filter :=
  let p := fselTicks fsel
  let a := (now - f.upto).toNat / 1024
  let m := extCount epoch now / p - (extCount epoch now - a) / p
  let last := now - ticks (extCount epoch now % p)
  let g := if m ≤ 300 then f.samples filt settle raw p last m
    else { f.samples filt settle raw p (last - ticks (p * (m - 300))) 300 with
           taken := f.taken + m, wcount := (f.wcount + m) % 32, changes := 0 }
  { g with upto := now }

/-- R78: the filter restarts to UNKNOWN at a tick. -/
def Filter.restart (f : Filter) (now : Stamp) : Filter := { upto := now, since := now, rawS := f.rawS }

/-- R79: the window filled with copies of the raw sample; no event. -/
def Filter.reseed (f : Filter) (raw : Nat) (now : Stamp) : Filter :=
  { f with win := List.replicate 9 raw, st := raw, since := if f.st = raw then f.since else now, decs := f.decs }

/-- The power state in force (R468 codes): 0 ACTIVE, 1 GATE, 2 IDLE, 3 NAP, 4 DEEP. -/
def State.power (s : State) : Nat := s.rd F.PWR_STAT_STATE

/-- Whether ECLK is stopped (R32, R468, R486). -/
def State.eclkOff (s : State) : Bool := decide (s.power ≥ 2) || !s.on F.GLB_UNITS_ECLK_LOCK

/-- The epoch of the present tick: a wrap that is not yet taken in counts (R33). -/
def State.epochNow (s : State) : Nat := s.rd F.WT_EPOCH_EPOCH + ofBool s.time.wrapDue

/-- R482: a pod held at NAP bias: it belongs to no site and hosts no waveform output, and its domain is at level 2 or above or
was within the last 400 µs. -/
def State.napPod (s : State) (p : Nat) : Bool :=
  let k := dieOfPod p
  let late := match (s.doms.at {} k).fellT with
    | some t => decide (ahead s.now (after t 600000) < 0)
    | none => false
  (decide (s.rd F.THM_DOM_LEVEL k ≥ 2) || late) && (s.siteOfPod p).isNone
    && !(List.range 32).any (fun w => s.on F.AWG_CFG_HOSTV w && s.rd F.AWG_CFG_HOST w == p)

/-- The pins that a pin die goes on watching in DEEP: the 16 lowest of those with EN, WAKE and MODE at M3 (R89). -/
def State.deepPins (s : State) (die : Nat) : List Nat :=
  (((List.range 256).map (fun i => 256 * die + i)).filter (fun q =>
    s.on F.PIN_WATCH_EN q && s.on F.PIN_WATCH_WAKE q && s.rd F.PIN_WATCH_MODE q == 3)).take 16

/-- The comparator bias of a pin, in the codes of PIN_STAT.BIAS (R74, R88, R89, R482). It is off where USE and PIN_WATCH.EN are
both 0, and in DEEP on every pin that is not watched (DESIGN CHOICE, assumption 38). -/
def State.bias (s : State) (q : Nat) : Nat :=
  let use := s.on F.PIN_CFG_USE q
  let en := s.on F.PIN_WATCH_EN q
  let mode := s.rd F.PIN_WATCH_MODE q
  if s.power = 4 then (if (s.deepPins (q / 256)).contains q then 3 else 5)
  else if use && decide (s.power ≤ 1) && !s.napPod (q / 4) then 4
  else if !use && !en then 5
  else if s.power = 3 ∨ s.napPod (q / 4) = true then max 1 mode else mode

/-- The filter of a pin at the present tick: restarted first if every filter restarted since (R78), held while its comparator is
off (R89, R91) or its clock is stopped (R80), run at 1.000 µs per sample in DEEP (R89). -/
def State.pinFilter (s : State) (n : Nat) : Filter :=
  let x := s.pin n
  let f := if ahead s.fRestart x.filter.upto > 0 then x.filter.restart s.fRestart else x.filter
  let fsel := if s.power = 4 then 4 else s.rd F.PIN_CFG_FSEL n
  if s.bias n = 5 ∨ (s.eclkOff = true ∧ fselEclk fsel = true) then f
  else f.catchUp (s.rd F.PIN_CFG_FILT n) (s.rd F.PIN_CFG_SETTLE n) x.raw fsel s.epochNow s.now

/-- The pin with its filter brought up to the present tick. -/
def State.syncPin (s : State) (n : Nat) : State := s.setPin n { s.pin n with filter := s.pinFilter n }

/-- R78: the filter of a pin restarts now. -/
def State.restartPin (s : State) (n : Nat) : State := s.setPin n { s.pin n with filter := (s.pinFilter n).restart s.now }

/-- Every pin's filter brought up to the present tick: before its clocks, or wafer time, change. -/
def State.syncPins (s : State) : State := (List.range 1024).foldl (fun (s : State) (q : Nat) => s.syncPin q) s

/-! ### Driver -/

/-- The driver state in force at a tick: the last due drive edge (R60). -/
def PinX.driver (x : PinX) (now : Stamp) : Nat :=
  x.drv.foldl (fun st e => if fineDue e.t now then e.st else st) x.drvNow

/-- Drive edges that are due folded into the present state. -/
def PinX.settleDrv (x : PinX) (now : Stamp) : PinX :=
  { x with drvNow := x.driver now, drv := x.drv.filter (fun e => !fineDue e.t now) }

/-- Whether a pin's PMU force or sense path is closed, and whether it holds the driver and the load off: in FVMI and FIMV, not in
MV (R314). -/
def State.pmuConn (s : State) (n : Nat) : Bool := s.on F.PIN_PMU_STAT_CONN n
def State.pmuBlocks (s : State) (n : Nat) : Bool := s.pmuConn n && s.rd F.PIN_PMU_STAT_MODE n != 2

/-- R119: the level that an eye measurement drives on a pin in the present tick, if one runs on it: the first of the tick's two bits. -/
def State.eyeDrives (s : State) (n : Nat) : Option Nat :=
  match (s.pod (n / 4)).eyeEnd with
  | some t =>
    if (s.pod (n / 4)).eyePins.contains n ∧ reached t s.now = false then
      some (if Config.prbs7 n (2 * ((s.now - (t - ticks 750000)).toNat / 1024)) then 2 else 1)
    else none
  | none => none

/-- Whether a supply of a pin die is outside its window (R583, R585). -/
def State.starved (s : State) (k : Nat) : Bool := s.badSup.any (fun e => e.2 == k)

/-- PIN_STAT.DRV (R60, R62, R63): high impedance while USE or DRV_EN is 0 or a supply of the die is out of range (R585), 0b100 while
tripped; an eye measurement drives its PRBS7
(R119). -/
def State.pinDrv (s : State) (n : Nat) : Nat :=
  let x := s.pin n
  if x.tripped then 4
  else if s.rd F.PIN_CFG_USE n = 0 ∨ s.rd F.PIN_CFG_DRV_EN n = 0 ∨ s.starved (dieOfPin n) = true then 0
  else match s.eyeDrives n with
    | some v => v
    | none => x.driver s.now

/-- R120: an eye measurement of a pod ends at once, with 0 on every pin. -/
def State.eyeStop (s : State) (p : Nat) : State :=
  if (s.pod p).eyeEnd.isNone then s
  else
    let s := (s.setPod p { s.pod p with eyeEnd := none, eyePins := [] }).wr F.POD_TIM_STAT_EYE_BUSY 0 p
    (((s.wr F.POD_TIM_EYE_EYE_M 0 p 0).wr F.POD_TIM_EYE_EYE_M 0 p 1).wr F.POD_TIM_EYE_EYE_M 0 p 2).wr F.POD_TIM_EYE_EYE_M 0 p 3

/-- The driver forced to a state, its pending edges dropped. -/
def State.forceDrv (s : State) (n st : Nat) : State := s.setPin n { s.pin n with drvNow := st, drv := [] }

/-- PIN_CFG.OFF_STATE as a driver state. -/
def State.offState (s : State) (n : Nat) : Nat := if s.rd F.PIN_CFG_OFF_STATE n = 1 then 3 else 0

/-- R71, R88, R314, R482: whether the active load is connected. -/
def State.loadOn (s : State) (n : Nat) : Bool :=
  s.pinDrv n == 0 && s.on F.PIN_CFG_USE n && (s.pin n).loadMode != 0 && !(s.pin n).tripped && decide (s.power < 3)
    && !s.napPod (n / 4) && !s.pmuBlocks n && !s.starved (dieOfPin n)


/-! ### Edges of one vector period -/

/-- The drive codes of R101, in a set with DDR clear or set (R105). -/
def isDrive (code : Nat) : Bool := code == 0 || code == 1 || code == 3 || code == 13 || code == 11 || code == 12

/-- Codes for which a DOFF edge acts (R101): every code that is not a drive code, and D0EH and D1EL. -/
def doffActs (ddr : Bool) (code : Nat) : Bool := !isDrive code || (!ddr && (code == 11 || code == 12))

/-- First and second data value of a drive code, given the prior drive value (R105, R127). -/
def dataVals (ddr : Bool) (code : Nat) (prior : Bool) : Bool × Bool :=
  if code = 0 then (false, false) else if code = 1 then (true, true)
  else if code = 3 then (prior, prior) else if code = 13 then (!prior, !prior)
  else if code = 11 then (false, ddr) else if code = 12 then (true, !ddr) else (prior, prior)

/-- What a code expects at the first and second strobe: 0 LOW, 1 MID, 2 HIGH, 3 LOW or HIGH, 4 the opposite of
the previous state, 5 captured only; `none`: no compare (R75, R105). -/
def expects (ddr : Bool) (code : Nat) : Option (Nat × Nat) :=
  if code = 4 then some (0, 0) else if code = 5 then some (2, 2)
  else if code = 6 then (if ddr then some (0, 2) else some (1, 1))
  else if code = 7 then (if ddr then some (2, 0) else some (3, 3))
  else if code = 9 then some (4, 4) else if code = 10 then some (5, 5)
  else if code = 11 then (if ddr then none else some (2, 2))
  else if code = 12 then (if ddr then none else some (0, 0)) else none

/-- Sorting slots by offset, earlier slot first on a tie ("in slot order after sorting by offset"). -/
def sortSlots : List Slot → List Slot
  | [] => []
  | x :: t => ins x (sortSlots t)
where
  ins (x : Slot) : List Slot → List Slot
    | [] => [x]
    | y :: t => if x.off ≤ y.off then x :: y :: t else y :: ins x t

/-- The state that a drive edge calls for, if it acts: type, code, present state, values, return mode, off state. A return to the
complement is to that of the vector's data, in a DDR set of its second value (R101, R106). -/
def edgeCalls (ddr : Bool) (ty code st : Nat) (d : Bool × Bool) (ret off : Nat) : Option Nat :=
  let lvl (b : Bool) : Nat := if b then 2 else 1
  if ty = 1 then (if isDrive code && (st == 0 || st == 3) then some (lvl d.1) else none)
  else if ty = 2 then (if isDrive code then some (lvl d.1) else none)
  else if ty = 3 then (if isDrive code then some (lvl d.2) else none)
  else if ty = 4 then
    (if isDrive code then
      some (if ret = 0 then 1 else if ret = 1 then 2 else if ret = 2 then lvl (!(if ddr then d.2 else d.1)) else off) else none)
  else if ty = 5 then (if doffActs ddr code then some off else none)
  else none

/-- R113: what is taken from a drive edge's nominal time, by its transition. -/
def drvCorrection (k : Deskew) (vih vil old new : Nat) : Int :=
  if new = 0 ∨ new = 3 ∨ old = 0 ∨ old = 3 then
    (if old = new then k.onOff else k.onOff)
  else
    let lo (st : Nat) : Nat := if st = 2 then vih else vil
    if old = new then (if new = 2 then k.drvRise else k.drvFall)
    else if lo new > lo old then k.drvRise else if lo new < lo old then k.drvFall
    else (if new = 2 then k.drvRise else k.drvFall)

/-- R114: the phase and the vernier tap for a residue, given a pin's trims: the largest phase whose trim is not above the residue,
and the tap that comes nearest, the lowest on a tie. -/
def selectTaps (phase vern : List Int) (r : Int) : Nat × Nat :=
  let p := ((List.range phase.length).filter (fun i => decide (phase.getD i 0 ≤ r))).foldl max 0
  let err (t : Nat) : Nat := (phase.getD p 0 + vern.getD t 0 - r).natAbs
  (p, (List.range vern.length).foldl (fun b t => if err t < err b then t else b) 0)

/-- R114: the taps of a pin for a placed time: its residue below one tick is split by the pin's trims. -/
def tapsOf (q : Nat) (t : Int) : Nat × Nat :=
  selectTaps ((List.range 64).map (Config.phaseTrim q)) ((List.range 64).map (Config.vernTrim q)) (t % 8000)

/-- What the placing of a pin's drive edges carries along; `lastDon` the offset of a DON that called for a level. -/
structure DrvAcc where
  x : PinX
  st : Nat
  prior : Bool
  dropped : Nat
  blocked : Bool
  lastDon : Option Nat

/-- A drive edge takes its place among those that are to come, by its time. -/
def putEdge (e : DrvEdge) : List DrvEdge → List DrvEdge
  | [] => [e]
  | a :: l => if e.t < a.t then e :: a :: l else a :: putEdge e l

/-- One drive edge placed (R101, R109 to R114): `live` whether the driver may act, `conn` whether the PMU blocks it (R314). A DAT0 at
the offset of a DON that acts is one edge with it, at run time as in the load check of R107 (DESIGN CHOICE, assumption 166). The
prior drive value follows the edges that drive the pin (R127). -/
def placeDrive (q : Nat) (ddr : Bool) (code ret off vih vil : Nat) (k : Deskew) (live conn : Bool) (d : Bool × Bool) (t0 : Int)
    (a : DrvAcc) (e : Slot) : DrvAcc :=
  match edgeCalls ddr e.ty code a.st d ret off with
  | none => a
  | some new =>
    if e.ty = 2 ∧ a.lastDon = some e.off then a else
    let a := if e.ty = 1 then { a with lastDon := some e.off } else a
    let t := t0 + fineUnit * e.off - fineUnit * drvCorrection k vih vil a.st new
    let late := match a.x.lastDrv with | some l => decide (t < l + gap330) | none => false
    if late then { a with dropped := a.dropped + 1 } else
    let data := e.ty == 1 || e.ty == 2 || e.ty == 3
    let acts := live && !conn
    { a with
      x := { a.x with
        lastDrv := some t
        drv := if acts then putEdge ⟨t, new, tapsOf q t⟩ a.x.drv else a.x.drv }
      st := if acts then new else a.st
      prior := if data && acts then decide (new = 2) else a.prior
      blocked := a.blocked || (live && conn) }

/-- R102: a DZ without a DOFF edge turns the driver off at the vector's start. That is no edge of the drive train: it is neither
dropped nor counted, and no later edge is held to it; its time is corrected as a transition into the off state (DESIGN CHOICE,
assumption 167). -/
def turnOff (q off : Nat) (k : Deskew) (live conn : Bool) (t0 : Int) (a : DrvAcc) : DrvAcc :=
  let t := t0 - fineUnit * k.onOff
  if live && !conn then { a with x := { a.x with drv := putEdge ⟨t, off, tapsOf q t⟩ a.x.drv }, st := off }
  else { a with blocked := a.blocked || (live && conn) }

/-- R113: the shift of a compare edge, (CMP_RISE + CMP_FALL) / 2 in 0.25 ps, halves toward plus infinity. -/
def cmpShift (k : Deskew) : Int := (k.cmpRise + k.cmpFall + 1) / 2

/-- What the placing of a pin's compare edges carries along; `open_` holds a window's WOPEN. -/
structure CmpAcc where
  x : PinX
  dropped : Nat
  open_ : Option (Int × Bool)
  count : Nat

/-- One compare edge placed (R103, R104, R109, R110, R113, R114). A WCLOSE is held to 250 ps after its own WOPEN if that was placed,
otherwise to 330 ps after the edge before. -/
def placeCmp (q code pos : Nat) (nofail nocap : Bool) (ex : Nat × Nat) (k : Deskew) (t0 : Int) (a : CmpAcc) (e : Slot) :
    CmpAcc :=
  let t := t0 + fineUnit * e.off + fineUnit * cmpShift k
  let own := match a.open_ with | some (_, dropped) => !dropped | none => false
  let least := if e.ty = 9 ∧ own = true then gap250 else gap330
  let late := match a.x.lastCmp with | some l => decide (t < l + least) | none => false
  let keep := if late then a.x.lastCmp else some t
  let dr := if late then a.dropped + 1 else a.dropped
  if e.ty = 8 then { a with x := { a.x with lastCmp := keep }, dropped := dr, open_ := some (t, late) }
  else if e.ty = 9 then
    match a.open_ with
    | none => a
    | some (o, od) =>
      { x := { a.x with
          lastCmp := keep
          cmp := a.x.cmp ++ [CmpEdge.mk o t (od || late) 2 code ex.1 pos nofail nocap (tapsOf q o) (tapsOf q t)] }
        dropped := dr, open_ := none, count := a.count + 1 }
  else if e.ty = 6 ∨ e.ty = 7 then
    { a with
      x := { a.x with
        lastCmp := keep
        cmp := a.x.cmp ++ [CmpEdge.mk t t late (e.ty - 6) code (if e.ty = 6 then ex.1 else ex.2) pos nofail nocap (tapsOf q t)
          (tapsOf q t)] }
      dropped := dr, count := a.count + 1 }
  else a

/-! ### Comparator history and compares -/

/-- The raw state at a fine time, from the transitions kept since the oldest pending compare. -/
def PinX.rawAt (x : PinX) (t : Int) : Nat :=
  match (x.hist.filter (fun e => decide (e.1 ≤ t))).getLast? with
  | some e => e.2
  | none => match x.hist.head? with | some _ => 1 | none => x.raw

/-- R75: whether a state passes an expectation, given the previous strobe state. -/
def passes (ex state prev : Nat) : Bool :=
  if state = 3 then decide (ex = 5)
  else if ex = 0 then decide (state = 0) else if ex = 1 then decide (state = 1) else if ex = 2 then decide (state = 2)
  else if ex = 3 then decide (state = 0 ∨ state = 2)
  else if ex = 4 then decide ((state = 0 ∨ state = 2) ∧ (prev = 0 ∨ prev = 2) ∧ state ≠ prev)
  else true

/-! ### Capture of fails and lost records -/

/-- R270: one more lost record of a cause in a pod (pin 4: of none): its run, CAP_LOST, the cause's flag, and CAPLOSS for the
site's later entries (R271). -/
def State.lose (s : State) (pod cause pin : Nat) (stamp : Stamp) (flag : Fld) : State :=
  let x := s.pod pod
  let runs := if x.losses.any (fun r => r.cause == cause)
    then x.losses.map (fun r => if r.cause = cause
      then { r with pinMask := withBit r.pinMask pin, count := satAdd (2 ^ 32 - 1) r.count 1, last := stamp } else r)
    else (x.losses.takeWhile (fun r => decide (r.cause < cause))) ++ [LossRun.mk cause (withBit 0 pin) 1 stamp stamp]
      ++ (x.losses.dropWhile (fun r => decide (r.cause < cause)))
  let s := s.setPod pod { x with losses := runs }
  let s := (s.bump F.CAP_LOST_LOST 1 pod).wr flag 1 pod
  let s := s.pulse 0x11 (4 * pod + (if pin < 4 then pin else 0))
  match s.siteOfPod pod with
  | some n => s.setGang n { s.gang n with capLoss := true }
  | none => s

/-- A record joins a pod's fail queue of 32, or is lost for FAILQ (R268, R270). -/
def State.pushFail (s : State) (pod : Nat) (r : CapRec) : State :=
  let x := s.pod pod
  if x.failq.length ≥ 32 then s.lose pod 4 r.pin r.stamp F.CAP_STAT_FLOSS
  else s.setPod pod { x with failq := x.failq ++ [r] }

/-- A FAIL or CAPT record (R262). -/
def failRecord (ty pin edge state code : Nat) (nofail : Bool) (pos : Nat) (stamp : Stamp) : CapRec :=
  CapRec.mk ty pin stamp [ty * 2 ^ 60 + pin * 2 ^ 58 + edge * 2 ^ 56 + state * 2 ^ 54 + code * 2 ^ 50 + ofBool nofail * 2 ^ 49
    + pos % 2 ^ 48, stamp.toNat] 0 0

/-- Units of a pod's fail map: MAP_UNITS, or 0 when not below SIZE (R253). -/
def State.mapUnits (s : State) (pod : Nat) : Nat :=
  let m := s.rd F.CAP_CFG_MAP_UNITS pod
  if m < s.rd F.CAP_PART_SIZE pod then m else 0

/-- R263: the map bit of a capture fail, or MAPOVR. -/
def State.mapFail (s : State) (pod pin pos : Nat) : State :=
  let m := s.mapUnits pod
  let start := s.rd F.CAP_MAPSTART_MAPSTART pod
  let b := (pos - start) / 2 ^ s.rd F.CAP_CFG_SCALE pod
  if pos < start ∨ b ≥ 8192 * m then s.wr F.CAP_STAT_MAPOVR 1 pod else
  let a := 4096 * s.rd F.CAP_PART_BASE pod + 1024 * m * pin + b / 8
  { s with capMem := s.capMem.write a ((s.capMem.byte a) ||| BitVec.ofNat 8 (2 ^ (b % 8))) }

/-- R259 to R263: a capture fail of a pin of a pod. -/
def State.captureFail (s : State) (pod pin : Nat) (e : CmpEdge) (state : Nat) : State :=
  let s := (s.wr F.CAP_PFC_PFC (satAdd (2 ^ 32 - 1) (s.rd F.CAP_PFC_PFC pod pin) 1) pod pin).pulse 0x02 pod
  let mode := s.rd F.CAP_CFG_FMODE pod
  let s := if mode ≥ 2 then s.mapFail pod pin e.pos else s
  if mode % 2 = 0 then s else
  let x := s.pod pod
  let lim := s.rd F.CAP_CFG_FIRST_N pod
  if lim ≠ 0 ∧ x.firstCnt ≥ lim then s.wr F.CAP_STAT_FIRSTDONE 1 pod else
  let s := s.setPod pod { x with firstCnt := x.firstCnt + 1 }
  let s := if lim ≠ 0 ∧ x.firstCnt + 1 ≥ lim then s.wr F.CAP_STAT_FIRSTDONE 1 pod else s
  s.pushFail pod (failRecord 1 pin e.edge state e.code e.nofail e.pos (stampOf e.t))

end Sys2Proof.Machine
end

