-- ==== Sys2Proof/Machine/Ledger.lean ====
section
/-! DEFINITION. The result ledger (R276 to R284): entries, their commit, visibility and space. -/

namespace Sys2Proof.Machine

/-- LEDG_FILL: entries written and not yet read, from the two indices and their WRAP bits (R276). -/
def State.ledgFill (s : State) : Nat :=
  let w := s.rd F.LEDG_WR_INDEX + 65536 * s.rd F.LEDG_WR_WRAP
  let r := s.rd F.LEDG_RD_INDEX + 65536 * s.rd F.LEDG_RD_WRAP
  (w + 131072 - r) % 131072

/-- Entries committed and not yet read, those not yet visible included (R281); held commits take no slot. -/
def State.ledgCommitted (s : State) : Nat := s.ledgFill + (s.ledgq.filter (fun e => !e.hold)).length

/-- The 32 bytes of an entry (R277). -/
def LEnt.bytes (e : LEnt) (phase dev : Nat) : List Nat :=
  toBytes 32 (e.stamp.toNat + e.fcount * 2 ^ 64 + e.va * 2 ^ 96 + e.vb * 2 ^ 128 + e.ffpos * 2 ^ 160
    + (phase + e.result * 2 + e.step % 4096 * 16) * 2 ^ 208
    + (e.site + dev * 2 ^ 7 + e.err * 2 ^ 13 + ofBool e.vaP * 2 ^ 19 + ofBool e.vbP * 2 ^ 20
        + ofBool (e.fcount == 2 ^ 32 - 1) * 2 ^ 21 + ofBool e.caploss * 2 ^ 22 + e.bin * 2 ^ 24) * 2 ^ 224)

/-- The site's first-fail position as the registers hold it. -/
def State.ffpos (s : State) (n : Nat) : Nat := s.rd F.SITE_FFPOS_LO_FFPOS_LO n + s.rd F.SITE_FFPOS_HI_FFPOS_HI n * 2 ^ 32

/-- The source number of a site's ledger entries and attention event (R50). -/
def State.attnSrc (s : State) (n : Nat) : Nat := 1024 + 2 * s.lead n

/-- R278, R279, R282: a device-written entry for a site, at most one per STEP_RUN, written also into the
reserve; with 65,536 entries committed and not read it is lost. -/
def State.deviceEntry (s : State) (n result err bin : Nat) (stamp : Stamp) : State :=
  let g := s.gang n
  if g.devEntry then s else
  let s := s.setGang n { g with devEntry := true }
  if s.ledgCommitted ≥ 65536 then (s.bump F.LEDG_LOST_LOST 1).wr F.LEDG_STAT_LOST 1 else
  { s with ledgq := s.ledgq ++ [LEnt.mk (s.attnSrc n) n s.now stamp (s.rd F.SITE_FCOUNT_FCOUNT n) 0 0 (s.ffpos n)
      g.stepNo result err false false g.capLoss bin false] }

/-- Of the committed entries the one that becomes visible next: least commit tick, then least source (R280). -/
def nextVisible : List LEnt → Option LEnt
  | [] => none
  | e :: t => match nextVisible t with
    | none => if e.hold then none else some e
    | some b => if e.hold then some b
      else if ahead e.commitT b.commitT < 0 ∨ (e.commitT = b.commitT ∧ e.src ≤ b.src) then some e else some b

/-- R280: the next committed entry is written into the slot at LEDG_WR, which advances. -/
def State.ledgerVisible (s : State) : State :=
  match nextVisible s.ledgq with
  | none => s
  | some e =>
    let i := s.rd F.LEDG_WR_INDEX
    let w := s.rd F.LEDG_WR_WRAP
    let s := { s with
      ledgq := s.ledgq.erase e
      runs := s.runs.map (fun (r : StepRun) => if r.started && r.sites.contains e.site then { r with lastT := s.now } else r)
      ledgMem := s.ledgMem.writeBytes (32 * i) (e.bytes (1 - w) (s.rd F.GLB_ROLE_DEVNUM)) }
    let s := (s.wr F.LEDG_WR_INDEX ((i + 1) % 65536)).wr F.LEDG_WR_WRAP (if i = 65535 then 1 - w else w)
    s.pulse 0x30 0 1 true

end Sys2Proof.Machine
end

