-- ==== Sys2Proof/Machine/SiteOps.lean ====
section
/-! DEFINITION. Operations on a site's committed program state (R135 to R138): fail state, tags, value
registers, gang counters, waits that a measurement ends. -/

namespace Sys2Proof.Machine

/-- Whether a clear of the fail state, or an entry that reads it, waits in the side-effect buffer, so that
fails after it must be told from fails before it (R206). -/
def Gang.clearPending (g : Gang) : Bool :=
  g.seb.any (fun e => match e.eff with | .fclr c => c | .ledg .. => true | .cnt k _ _ _ => k == 2 | _ => false)

/-- R137: one failing vector of place `seq` in program order at position `pos`. -/
def State.siteFail (s : State) (n seq pos : Nat) : State :=
  let first := s.rd F.SITE_FCOUNT_FCOUNT n == 0
  let s := (s.wr F.SITE_PSTAT_FAIL 1 n).bump F.SITE_FCOUNT_FCOUNT 1 n
  let s := if first then (s.wr F.SITE_FFPOS_LO_FFPOS_LO (loWord pos) n).wr F.SITE_FFPOS_HI_FFPOS_HI (pos / 2 ^ 32) n else s
  let g := s.gang n
  if g.clearPending then s.setGang n { g with fails := g.fails ++ [(seq, pos)] } else s

/-- The fails kept that lie after a place in program order. -/
def Gang.failsAfter (g : Gang) (seq : Nat) : List (Nat × Nat) := g.fails.filter (fun f => decide (seq < f.1))

/-- R159, R206: the fail state is cleared of everything before a place in program order. -/
def State.clearFail (s : State) (n seq : Nat) : State :=
  let g := s.gang n
  let rest := g.failsAfter seq
  let s := s.setGang n { g with fails := rest }
  let s := (s.wr F.SITE_PSTAT_FAIL (ofBool (!rest.isEmpty)) n).wr F.SITE_FCOUNT_FCOUNT rest.length n
  let pos := match rest with | [] => 2 ^ 48 - 1 | f :: _ => f.2
  (s.wr F.SITE_FFPOS_LO_FFPOS_LO (loWord pos) n).wr F.SITE_FFPOS_HI_FFPOS_HI (pos / 2 ^ 32) n

/-- A tag's result: 0 NONE, 1 PASS, 2 FAIL (R163). -/
def State.tagRes (s : State) (n tag : Nat) : Nat := bits (s.rd F.SITE_TAGRES_TAGRES n) (2 * tag - 1) (2 * tag - 2)

/-- A tag takes a result; tag 0 is none. The field holds bits [31:2] of the register. -/
def State.setTag (s : State) (n tag res : Nat) : State :=
  if tag = 0 then s else
  let v := s.rd F.SITE_TAGRES_TAGRES n
  s.wr F.SITE_TAGRES_TAGRES (v - bits v (2 * tag - 1) (2 * tag - 2) * 2 ^ (2 * tag - 2) + res * 2 ^ (2 * tag - 2)) n

/-- A gang counter: the register, or the events counted so far where it counts (R154). -/
def State.gc (s : State) (n k : Nat) : Nat :=
  match Store.get (fun _ => none) (s.gang n).evcnt k with
  | some c => c.count none
  | none => s.rd F.SITE_V_V n (12 + k)

/-- A tag takes the result of something at a place in program order, unless something after that has set it (R145). -/
def State.setTagAt (s : State) (n tag res seq : Nat) : State :=
  let g := s.gang n
  if tag = 0 ∨ seq + 1 < g.tagSeq.at 0 tag then s
  else (s.setGang n { g with tagSeq := g.tagSeq.set 0 tag (seq + 1) }).setTag n tag res

/-- A gang counter takes a value at a boundary tick; where it counts events, it goes on from that value (R154). -/
def State.loadGc (s : State) (n k v : Nat) (t : Stamp) : State :=
  let g := s.gang n
  match Store.get (fun _ => none) g.evcnt k with
  | some c => s.setGang n { g with evcnt := Store.put id (fun _ => none) g.evcnt k (some (c.load v t)) }
  | none => s.wr F.SITE_V_V v n (12 + k)

/-- A gang counter takes a value and counts no events. -/
def State.setGc (s : State) (n k v : Nat) : State :=
  let g := s.gang n
  (s.setGang n { g with evcnt := Store.put id (fun _ => none) g.evcnt k none }).wr F.SITE_V_V v n (12 + k)

/-- Counting events stops with those stamped before a tick, where one is given (R154). -/
def State.evStop (s : State) (n k : Nat) (till : Option Stamp) : State :=
  match Store.get (fun _ => none) (s.gang n).evcnt k with
  | some c => s.setGc n k (c.count till)
  | none => s

/-- Counting stops in every gang counter of a site. -/
def State.evStopAll (s : State) (n : Nat) : State :=
  ((s.evStop n 0 none).evStop n 1 none |>.evStop n 2 none).evStop n 3 none

/-- A value register, GC[0] to GC[3] being V[12] to V[15]. -/
def State.vreg (s : State) (n k : Nat) : Nat := if k ≥ 12 then s.gc n (k - 12) else s.rd F.SITE_V_V n k

/-- Whether a value register is valid. -/
def State.vvalid (s : State) (n k : Nat) : Bool := hasBit (s.rd F.SITE_VVAL_VVALID n) k

/-- Whether everything posted before a place in a word has committed or ended (R173). -/
def Gang.allBefore (g : Gang) (q ix : Nat) : Bool :=
  g.seb.all (fun e => !(decide (e.seq < q) || (e.seq == q && decide (e.ix < ix)))) && g.meas.isEmpty

/-- The measurement that a gang's wait is for (R155, R173): that of its own word, or the last one into its register. -/
def Gang.waitsFor (g : Gang) (tok dst : Nat) : Bool :=
  match g.wait with
  | none => false
  | some w => match w.kind with
    | .meas d => if w.micro then d == dst && g.vMeas.at 0 dst == tok
      else g.measInfo.any (fun e => e.1 == tok && e.2.1 == w.seq)
    | _ => false

/-- A gang's wait for a measurement ends 64 ticks after the write (R155); a wait for COMMIT ends when nothing
posted before it is left (R173). `tok`: the measurement that has just ended and its register. -/
def Gang.settleWaits (g : Gang) (tok : Option (Nat × Nat)) (now : Stamp) : Gang :=
  match g.wait with
  | none => g
  | some w =>
    let ends := match w.kind with
      | .meas _ => (match tok with | some t => g.waitsFor t.1 t.2 | none => false)
      | .commit => w.bt.isSome && g.allBefore w.seq w.ix
      | _ => false
    if ends && w.endAt.isNone then
      { g with wait := some { w with endAt := some (match w.kind with | .meas _ => after now 64 | _ => now) } }
    else g

/-- R155: a measurement numbered `tok` ends with a result for V[dst]; an earlier one of the same register, or
none, is discarded. -/
def State.measResult (s : State) (n dst tok v : Nat) : State :=
  let g := s.gang n
  let keep := g.vMeas.at 0 dst == tok
  let g := { g with meas := g.meas.filter (· ≠ tok) }.settleWaits (some (tok, dst)) s.now
  let s := s.setGang n (if keep then { g with vEnd := Store.put id (fun _ => none) g.vEnd dst (some s.now) } else g)
  if keep then (s.wr F.SITE_V_V v n dst).wr F.SITE_VVAL_VVALID (withBit (s.rd F.SITE_VVAL_VVALID n) dst) n else s

/-- Bits 26 to 29 of SITE_PSTAT (R172): 0 AWGLOST, 1 BTO, 2 ETO, 3 WLATE. -/
def State.pflag (s : State) (n k : Nat) : State :=
  if k = 0 then s.wr F.SITE_PSTAT_AWGLOST 1 n else if k = 1 then s.wr F.SITE_PSTAT_BTO 1 n
  else if k = 2 then s.wr F.SITE_PSTAT_ETO 1 n else s.wr F.SITE_PSTAT_WLATE 1 n

/-- The site pin k of a gang (R292), if it has one. -/
def State.sitePin (s : State) (n k : Nat) : Option Nat := (s.podsOf n)[k / 4]?.map (fun p => 4 * p + k % 4)

/-- The code of a gang's site map: lowest pod, for OWNER and POD fields. -/
def State.ownerOf (s : State) (n : Option Nat) : Nat := match n with | some k => s.lead k | none => 0

end Sys2Proof.Machine
end

