-- ==== Sys2Proof/Machine/RailOps.lean ====
section
/-! DEFINITION. Rails (R344 to R352), the windows of a site's trip path (R358), what asserts its trip input
(R359, R360). -/

namespace Sys2Proof.Machine

/-- RAIL_STAT.STATE codes (R345). -/
def rlOff : Nat := 0
def rlUp : Nat := 1
def rlReg : Nat := 2
def rlLimit : Nat := 3
def rlDown : Nat := 4
def rlTripped : Nat := 5

/-- The state of a rail. -/
def State.railSt (s : State) (r : Nat) : Nat := s.rd F.RAIL_STAT_STATE r

/-- The voltage sensed at a rail now, in 100 µV: 0 V in OFF, otherwise what the outside world shows. -/
def State.railV (s : State) (r : Nat) : Nat := if s.railSt r = rlOff then 0 else Config.railVolts r s.now

/-- R344: the target that a TARGET value stands for. -/
def railTarget (t : Nat) : Nat := if t = 0 then 0 else min 50000 (max 5000 t)

/-- Ticks of a ramp over d units of 100 µV at a slew in 0.1 V/ms (R346). -/
def rampTicks (d slew : Nat) : Nat := (d * 1500 + max 1 slew - 1) / max 1 slew

/-- RAIL_CFG.SLEW, where a profile's SLEW is 0 (R349). -/
def State.slewOf (s : State) (r slew : Nat) : Nat := if slew = 0 then max 1 (s.rd F.RAIL_CFG_SLEW r) else slew

/-- The windows of a site with a ramp up of one of its rails taken into account (R358): that rail has not yet
qualified in the windows opened by an event of this tick. -/
def State.unqualify (s : State) (n r : Nat) : State :=
  let x := s.siteX n
  s.setSiteX n { x with
    wins := x.wins.map (fun w => if w.opened = s.now ∧ ¬w.waits then
      { w with quals := w.quals.map (fun q => if q.1 = r then (r, none) else q) } else w) }

/-- A rail qualifies in its site's windows, in the tick of its regulation (R358). -/
def State.qualify (s : State) (r : Nat) : State :=
  match s.siteOfRail r with
  | none => s
  | some n =>
    let x := s.siteX n
    s.setSiteX n { x with
      wins := x.wins.map (fun w => { w with
        quals := w.quals.map (fun q => if q.1 = r ∧ q.2 = none then (r, some s.now) else q) }) }

/-- R345, R346: a ramp toward a target begins. -/
def State.startRamp (s : State) (r target slew : Nat) : State :=
  let v := s.railV r
  let up := decide (v ≤ target)
  let d := if up then target - v else v - target
  let x := s.rail r
  let s := s.setRail r { x with
    target := target, slew := slew, t0 := s.now, toOff := false, regT := none
    reach := after s.now (rampTicks d slew), noregDone := false, wait := none }
  let s := s.wr F.RAIL_STAT_STATE (if up then rlUp else rlDown) r
  if up then match s.siteOfRail r with | some n => s.unqualify n r | none => s else s

/-- R348: a ramp down to 0.5 V and OFF begins; a rail in OFF stays there. -/
def State.startDown (s : State) (r slew : Nat) : State :=
  if s.railSt r = rlOff ∨ s.railSt r = rlTripped then s.setRail r { s.rail r with wait := none } else
  let v := s.railV r
  let x := s.rail r
  (s.setRail r { x with
    target := 0, slew := slew, t0 := s.now, toOff := true, regT := none
    reach := after s.now (rampTicks (v - 5000) slew), wait := none }).wr F.RAIL_STAT_STATE rlDown r

/-- A ramp to a target, or down for 0. -/
def State.ramp (s : State) (r target slew : Nat) : State :=
  if target = 0 then s.startDown r slew else s.startRamp r target slew

/-- Which way an action moves a rail: 0 not at all, 1 up, 2 down to a level, 3 down to OFF. -/
def State.rampDir (s : State) (r : Nat) (target : Option Nat) : Nat :=
  match target with
  | none => 0
  | some 0 => if s.railSt r = rlOff then 0 else 3
  | some t => if s.railV r ≤ t then 1 else 2

/-- R351: an action that ramps the rails of a site: one (rail, target, slew) entry per rail it ramps. With SEQ
at 0, or one rail, all act at once; else the rails move in order. -/
def State.rampSite (s : State) (n : Nat) (acts : List (Nat × Nat × Nat)) : State :=
  let go (s : State) (a : Nat × Nat × Nat) : State := s.ramp a.1 a.2.1 a.2.2
  let hold (s : State) (a : Nat × Nat × Nat) (cond : Nat) (delay : Bool) : State :=
    let s := s.setRail a.1 { s.rail a.1 with wait := some ⟨a.2.1, a.2.2, cond, delay, none⟩ }
    if delay then s.unqualify n a.1 else s
  match s.railsOf n, acts with
  | [lo, hi], [a, b] =>
    if s.rd F.SITE_RSEQ_SEQ n = 0 ∨ a.1 ≠ lo ∨ b.1 ≠ hi then acts.foldl go s else
    let first := if s.rd F.SITE_RSEQ_ORDER n = 0 then a else b
    let second := if s.rd F.SITE_RSEQ_ORDER n = 0 then b else a
    let d1 := s.rampDir first.1 (some first.2.1)
    let d2 := s.rampDir second.1 (some second.2.1)
    if d1 = 0 ∨ d2 = 0 then acts.foldl go s
    else if d1 = 1 ∧ d2 = 1 then hold (go s first) second 1 true
    else if d1 = 1 then hold (go s second) first (if d2 = 3 then 2 else 1) true
    else if d2 = 1 then hold (go s first) second (if d1 = 3 then 2 else 1) true
    else hold (go s second) first (if d2 = 3 then 2 else 1) false
  | _, _ => acts.foldl go s

/-- The other rail of a rail's site, if it has one. -/
def State.otherRail (s : State) (r : Nat) : Option Nat :=
  match s.siteOfRail r with
  | some n => (s.railsOf n).find? (· ≠ r)
  | none => none

/-- R351: a rail that waited for `cond` of its neighbour starts, or its DELAY begins. -/
def State.releaseWait (s : State) (r cond : Nat) : State :=
  match s.otherRail r with
  | none => s
  | some o =>
    match (s.rail o).wait with
    | none => s
    | some w =>
      if w.cond ≠ cond then s
      else if w.delay then
        let us := match s.siteOfRail o with | some n => s.rd F.SITE_RSEQ_DELAY n | none => 0
        if us = 0 then s.ramp o w.target w.slew
        else s.setRail o { s.rail o with wait := some { w with cond := 0, till := some (after s.now (us * tUs)) } }
      else s.ramp o w.target w.slew

/-! ### Windows of the trip path -/

/-- R358: a window opens. Every rail that neither ramps up nor starts a ramp up in this tick has qualified. -/
def State.openWindow (s : State) (n src : Nat) (waits : Bool) : State :=
  let x := s.siteX n
  let q := (s.railsOf n).map (fun r =>
    (r, if s.railSt r = rlUp ∨ (s.railSt r = rlLimit ∧ (s.rail r).fromSt = rlUp) then none else some s.now))
  s.setSiteX n { x with wins := TripWin.mk src s.now waits q :: x.wins.filter (·.src ≠ src) }

/-- R358: the opening event of a recovery window that waits for one. -/
def State.wakeRecovery (s : State) (n : Nat) : State :=
  let x := s.siteX n
  let q := (s.railsOf n).map (fun r =>
    (r, if s.railSt r = rlUp ∨ (s.railSt r = rlLimit ∧ (s.rail r).fromSt = rlUp) then none else some s.now))
  s.setSiteX n { x with
    wins := x.wins.map (fun w => if w.src = 3 ∧ w.waits then TripWin.mk 3 s.now false q else w) }

/-- The enable of a window's source. -/
def State.winEnabled (s : State) (n src : Nat) : Bool :=
  if src = 1 then s.on F.SITE_FCTL_ARM_START n else if src = 2 then s.on F.SITE_FCTL_ARM_ENTRY n
  else if src = 3 then s.on F.SITE_FCTL_ARM_RECOV n else s.on F.SITE_FCTL_ARM_REQ n

/-- R358: ARMED and ARMSRC as the open windows and their enables now give them; a husk keeps its ARMSRC. -/
def State.refreshArm (s : State) (n : Nat) : State :=
  let src := (((s.siteX n).wins.filter (fun w => s.winEnabled n w.src)).head?.map (·.src)).getD 0
  let was := s.on F.SITE_FSTAT_ARMED n
  let s := s.wr F.SITE_FSTAT_ARMED (ofBool (src != 0)) n
  let s := if src ≠ 0 ∧ was = false then s.setSiteX n { s.siteX n with armedT := s.now } else s
  if s.on F.SITE_FSTAT_HUSK n then s else s.wr F.SITE_FSTAT_ARMSRC src n

/-- R358: whether a window's time has come: SETTLE µs after every rail qualified. -/
def State.winDone (s : State) (w : TripWin) : Bool :=
  !w.waits && w.src != 4 &&
  w.quals.all (fun q => match q.2 with
    | some t => reached (after t (s.rd F.RAIL_CFG_SETTLE q.1 * tUs)) s.now
    | none => false)

/-! ### The trip input -/

/-- A rail monitor's state with the LOW side of the voltage window left out where R355 says so. -/
def State.vwin (s : State) (r : Nat) : Nat :=
  let x := (s.rail r).v
  if x = 0 ∧ (s.railSt r = rlOff ∨ s.railSt r = rlUp ∨ s.railSt r = rlDown) then 1 else x

/-- What asserts a site's trip input now (R359): its kind (0 voltage, 1 current, 2 pin), its rail or pin, its stamp. In DEEP no pin
contributes (R88). -/
def State.tripSources (s : State) (n : Nat) : List (Nat × Nat × Stamp) :=
  let rails := (s.railsOf n).flatMap (fun r =>
    let v := s.vwin r
    let i := (s.rail r).i
    (if (v = 0 ∧ s.on F.RAIL_MON_VTRIP_LO r) ∨ (v = 2 ∧ s.on F.RAIL_MON_VTRIP_HI r) then [(0, r, (s.rail r).vT)] else [])
    ++ (if s.on F.RAIL_FLAG_NOREG r ∧ s.on F.RAIL_MON_VTRIP_LO r then [(0, r, ((s.rail r).noregT).getD s.now)] else [])
    ++ (if (i = 0 ∧ s.on F.RAIL_MON_ITRIP_LO r) ∨ (i = 2 ∧ s.on F.RAIL_MON_ITRIP_HI r) then [(1, r, (s.rail r).iT)] else []))
  let pins := if s.power = 4 then [] else (s.pinsOf n).filterMap (fun p =>
    let f := s.pinFilter p
    if s.on F.PIN_WATCH_TRIP_EN p = true ∧ f.st ≠ 3 ∧
        (if s.rd F.PIN_WATCH_TARGET p = 3 then f.st ≠ 1 else f.st = s.rd F.PIN_WATCH_TARGET p)
    then some (2, p, f.since) else none)
  rails ++ pins

/-- The cause bits [21:16] that a list of trip sources sets, and TRIPCAUSE in its rail or pin (R360). -/
def State.noteCause (s : State) (n : Nat) (c : Nat × Nat × Stamp) : State :=
  if c.1 = 0 then (s.wr F.SITE_FSTAT_RAILV 1 n).wr F.RAIL_FLAG_TRIPCAUSE_V 1 c.2.1
  else if c.1 = 1 then (s.wr F.SITE_FSTAT_RAILI 1 n).wr F.RAIL_FLAG_TRIPCAUSE_I 1 c.2.1
  else (s.wr F.SITE_FSTAT_PIN 1 n).wr F.PIN_FLAG_TRIPCAUSE 1 c.2.1

/-- The later of two stamps, the earlier (R34). -/
def later (a b : Stamp) : Stamp := if ahead a b ≥ 0 then a else b
def earlier (a b : Stamp) : Stamp := if ahead a b ≤ 0 then a else b

/-- R360: the trip stamp: the earliest of the sources, each counted from the tick of arming. -/
def tripStamp (armed now : Stamp) : List (Nat × Nat × Stamp) → Stamp
  | [] => now
  | [c] => later c.2.2 armed
  | c :: t => earlier (later c.2.2 armed) (tripStamp armed now t)

end Sys2Proof.Machine
end

