-- ==== Sys2Proof/Machine/MeasOps.lean ====
section
/-! DEFINITION. Shared operations of interval units (R292 to R306) and of the PMUs (R312 to R328). -/

namespace Sys2Proof.Machine

/-- A quotient rounded to nearest, halves up (assumption 9). -/
def roundDiv (a : Int) (b : Nat) : Int := if b = 0 then 0 else (2 * a + b) / (2 * b : Nat)

/-- A value held to −0x7FFF_FFFF to 0x7FFF_FFFF, and whether that changed it (R301, R323). -/
def sat32 (v : Int) : Int × Bool :=
  if v > 2147483647 then (2147483647, true) else if v < -2147483647 then (-2147483647, true) else (v, false)

/-! ### Interval units -/

/-- Flags of the result block (R302). -/
def fNoValid : Nat := 0
def fOrder : Nat := 1
def fDead : Nat := 2
def fTmo : Nat := 3
def fNear : Nat := 4
def fSat : Nat := 5
def fBadSetup : Nat := 6
def fNoUnit : Nat := 7
def fReg : Nat := 8
def fCalDue : Nat := 9

/-- A loaded interval setup entry. -/
def State.iuEntry (s : State) (k : Nat) : Option IuSetup := Store.get (fun _ => none) s.iuSetup k

/-- R292: a PIN source of a gang names a site pin; its device pin takes its place. -/
def State.srcPin (s : State) (site : Option Nat) (c : Source) : Option Nat :=
  if c.kind ≠ 1 then none else
  match site with
  | some n => s.sitePin n c.index
  | none => if c.index < 1024 then some c.index else none

/-- R293: whether a source is one that the measurement may use. -/
def State.srcOk (s : State) (site : Option Nat) (c : Source) : Bool :=
  if c.kind = 1 then (match s.srcPin site c with | some p => s.on F.PIN_CFG_USE p | none => false)
  else if c.kind = 2 then site.isSome else true

/-- The interval measurements of a result block, low word first (R302). -/
def IuX.block (x : IuX) (unit pod site : Nat) : List Nat :=
  let n := x.nvalid
  let mean := roundDiv x.sum n
  let v := if n < 2 then 0 else ((n * x.sumsq - x.sum * x.sum) * 1024 / (n * (n - 1) : Nat)).toNat
  let sdev := (Nat.sqrt v + 1) / 2
  let freq := if x.e.mode ≥ 2 ∧ x.sum > 0 then (roundDiv (1536000000000 * n) x.sum.toNat).toNat else 0
  let reg := if x.reg then 0 else 1
  [x.last.toNat,
   ofSigned 48 mean + x.flags % 65536 * 2 ^ 48,
   ofSigned 48 (if n = 0 then 0 else x.lo) + unit * 2 ^ 48 + x.e.mode * 2 ^ 54 + x.setup % 256 * 2 ^ 56,
   ofSigned 48 (if n = 0 then 0 else x.hi) + reg * (pod * 2 ^ 48 + site * 2 ^ 56),
   sdev % 2 ^ 32 + freq % 2 ^ 32 * 2 ^ 32,
   n + min 65535 x.ntmo * 2 ^ 32 + min 65535 x.nrej * 2 ^ 48]

/-- R301: the value written to V[DST], and whether it saturated. -/
def IuX.value (x : IuX) : Nat × Bool :=
  let n := x.nvalid
  let bad := hasBit x.flags fBadSetup || hasBit x.flags fNoUnit
  if x.e.mode = 3 then
    (if n = 0 ∨ bad then 2 ^ 32 - 1 else (roundDiv (1536000000000 * n) x.sum.toNat).toNat % 2 ^ 32, false)
  else if bad ∨ (n = 0 ∧ x.e.vsel ≠ 4) then (2 ^ 31, false)
  else
    let v := if n < 2 then 0 else ((n * x.sumsq - x.sum * x.sum) * 1024 / (n * (n - 1) : Nat)).toNat
    let st : Int := if x.e.vsel = 0 then roundDiv x.sum n else if x.e.vsel = 1 then ((Nat.sqrt v + 1) / 2 : Nat)
      else if x.e.vsel = 2 then x.lo else if x.e.vsel = 3 then x.hi else n
    let r := sat32 (roundDiv st (2 ^ x.e.vsh))
    (ofSigned 32 r.1, r.2)

/-- The source number of an interval record: its stop pin or trigger, its start pin in PERIOD and FREQUENCY;
a marker stop takes the gang's attention source (R302, assumption 10). -/
def State.iuSource (s : State) (x : IuX) : Nat :=
  let c := if x.e.mode ≥ 2 then x.startSrc else x.stopSrc
  if c.kind = 1 then c.index else if c.kind = 3 then 2216 + c.index else s.attnSrc x.site

/-- R302: the result of a measurement on unit u: IU_RES, V[DST], the MEASURE record. -/
def State.iuWrite (s : State) (u : Nat) (x : IuX) : State :=
  let v := x.value
  let x := if v.2 ∧ !x.reg then { x with flags := withBit x.flags fSat } else x
  let blk := x.block u (s.lead x.site) x.site
  let s := (List.range 12).foldl (fun s k =>
    let w := blk.getD (k / 2) 0
    s.wr F.IU_RES_RES (if k % 2 = 0 then loWord w else hiWord w) u k) s
  let s := if x.reg then s else s.measResult x.site x.dst x.tok v.1
  if x.e.rec_ then s.record (s.iuSource x) 5 blk x.last none else s

/-- PIN_TDC_SRC of the pins a unit uses (R311). -/
def State.markSources (s : State) (u : Nat) (x : IuX) (on : Bool) : State :=
  [x.startSrc, x.stopSrc].foldl (fun s c =>
    if c.kind = 1 then (s.wr F.PIN_TDC_SRC_SRC (ofBool on) c.index).wr F.PIN_TDC_SRC_UNIT (if on then u else 0) c.index
    else s) s

/-- A source with its device pin in place of a site pin. -/
def State.placeSrc (s : State) (site : Option Nat) (c : Source) : Source :=
  match s.srcPin site c with | some p => { c with index := p } | none => c

/-- Whether a source lies on a pin die that is calibrating (R309), or whose table is factory or deferred. -/
def State.srcCal (s : State) (c : Source) : Bool :=
  c.kind == 1 && hasBit (s.rd F.IU_CALST_CBUSY) (dieOfPin c.index)
def State.srcDue (s : State) (c : Source) : Bool :=
  c.kind == 1 && (!s.on F.PIN_TDC_CAL_VALID c.index || hasBit (s.rd F.IU_CALST_DUE) (dieOfPin c.index))

/-- The start tick of a measurement, its block fields empty. -/
def State.iuFresh (s : State) (site : Option Nat) (setup dst tok : Nat) : IuX :=
  let e := (s.iuEntry setup).getD {}
  let a := s.placeSrc site e.start
  let b := s.placeSrc site e.stop
  { busy := true, reg := site.isNone, site := site.getD 0, dst := dst, tok := tok, setup := setup, e := e,
    startSrc := a, stopSrc := b, begT := s.now, last := s.now
    flags := (if site.isNone then 2 ^ fReg else 0) + (if s.srcDue a || s.srcDue b then 2 ^ fCalDue else 0)
    waitCal := site.isNone && (s.srcCal a || s.srcCal b) }

/-- R293, R304, R305: a measurement starts on a unit, or ends at once with BADSETUP. -/
def State.iuStart (s : State) (u : Nat) (site : Option Nat) (setup dst tok : Nat) : State :=
  let x := s.iuFresh site setup dst tok
  let ok := (s.iuEntry setup).isSome && s.srcOk site x.e.start && s.srcOk site x.e.stop
  let s := (((s.wr F.IU_STAT_REG (ofBool x.reg) u).wr F.IU_STAT_OWNV (ofBool site.isSome) u).wr
    F.IU_STAT_OWNER (s.ownerOf site) u).wr F.IU_STAT_ATTEMPTS 0 u
  if ok then
    ((s.setIu u x).wr F.IU_STAT_STATE 1 u).markSources u x true
  else
    ((s.setIu u { x with busy := false }).iuWrite u
      { x with flags := withBit (withBit x.flags fBadSetup) fNoValid }).wr F.IU_STAT_STATE 2 u

/-- Whether a unit can be granted (R304). -/
def State.iuFree (s : State) (u : Nat) : Bool := s.rd F.IU_STAT_STATE u != 1 && !s.on F.IU_CTL_RSV u

/-- R304: a request joins the queue, or ends at once with NOUNIT. No unit has it, and R302 states no UNIT for its block: a free value
(assumption 174). -/
def State.iuRequest (s : State) (r : IuReq) : State :=
  if s.iuq.length ≥ 256 then
    let x := s.iuFresh (some r.site) r.setup r.dst r.tok
    let x := { x with flags := withBit (withBit x.flags fNoUnit) fNoValid }
    let s := s.wr F.IU_GSTAT_NOUNIT 1
    let s := s.measResult r.site r.dst r.tok x.value.1
    let s := if x.e.rec_ then
        s.record (s.iuSource x) 5 (x.block ((Config.noUnit s.free).toNat) (s.lead r.site) r.site) s.now none else s
    s.tookFree
  else
    let before (a b : IuReq) : Bool := decide (ahead a.tick b.tick < 0 ∨ (a.tick = b.tick ∧ a.lead ≤ b.lead))
    { s with iuq := s.iuq.takeWhile (fun a => before a r) ++ [r] ++ s.iuq.dropWhile (fun a => before a r) }

/-- A unit's measurement ends with no result (R305, R306). -/
def State.iuDrop (s : State) (u : Nat) : State :=
  let x := s.iu u
  ((s.setIu u {}).markSources u x false).wr F.IU_STAT_STATE 0 u

/-- R306: every interval measurement and request of a gang ends at once. -/
def State.iuEndSite (s : State) (n : Nat) : State :=
  let s := { s with iuq := s.iuq.filter (·.site ≠ n) }
  (List.range 64).foldl (fun s u => let x := s.iu u; if x.busy ∧ !x.reg ∧ x.site = n then s.iuDrop u else s) s

/-- Whether a transition from one raw state to another is the edge that a source names (R289). -/
def edgeIs (edge old new : Nat) : Bool :=
  old != new && ((edge != 1 && new == 2) || (edge != 0 && new == 0))

/-- What a unit makes of an edge of a pin: 0 nothing, 1 an edge that only its counter takes, 2 one that it needs
stamped (R288). -/
def IuX.needs (x : IuX) (q old new : Nat) : Nat :=
  let isStart := x.startSrc.kind == 1 && x.startSrc.index == q && edgeIs x.startSrc.edge old new
  let isStop := x.stopSrc.kind == 1 && x.stopSrc.index == q && edgeIs x.stopSrc.edge old new
  if !x.busy then 0
  else if x.e.mode ≥ 2 then
    (if isStart then
      (let k := x.starts.length + (if x.anchor.isSome then 1 else 0)
       if k % (x.e.cycM1 + 1) = 0 then 2 else 1)
     else 0)
  else if isStart || isStop then 2 else 0

/-- A stamp reaches a unit as a start, a stop or both; one that is both is a start only (R294). -/
def IuX.take (x : IuX) (asStart asStop : Bool) (t : Stamp) : IuX :=
  if x.waitCal ∨ !x.busy ∨ (ahead t x.begT < 0 ∧ (x.e.mode < 2 ∨ x.anchor = none)) then x
  else if asStart ∧ (x.e.mode ≥ 2 ∨ x.starts = []) then { x with starts := x.starts ++ [t] }
  else if asStop then { x with stops := x.stops ++ [t] }
  else x

/-- A pin's transition reaches the units that use it as a source. -/
def State.iuPinEdge (s : State) (pin old new : Nat) (t : Stamp) : State :=
  { s with ius := s.ius.map (fun (e : Nat × IuX) =>
      let x := e.2
      (e.1, x.take (x.startSrc.kind == 1 && x.startSrc.index == pin && edgeIs x.startSrc.edge old new)
        (x.stopSrc.kind == 1 && x.stopSrc.index == pin && edgeIs x.stopSrc.edge old new) t)) }

/-- R288, R299: what a transition that the dead time hides is to a unit: one that only its counter takes is counted; one that it
needs, between the start or anchor of its attempt and the attempt's end, is reported as missed. -/
def IuX.miss (x : IuX) (q old new : Nat) (t : Stamp) : IuX :=
  let isStart := x.startSrc.kind == 1 && x.startSrc.index == q && edgeIs x.startSrc.edge old new
  let isStop := x.stopSrc.kind == 1 && x.stopSrc.index == q && edgeIs x.stopSrc.edge old new
  let n := x.needs q old new
  let wanted := if x.e.mode ≥ 2 then x.anchor.isSome || x.starts != []
    else if x.e.mode = 1 then isStop && x.starts != []
    else isStart && x.starts == [] && x.stops != [] || isStop && x.stops == [] && x.starts != []
  if n = 1 then x.take true false t else if n = 2 ∧ wanted = true then { x with missed := true } else x
def State.iuMissed (s : State) (pin old new : Nat) (t : Stamp) : State :=
  { s with ius := s.ius.map (fun (e : Nat × IuX) => (e.1, e.2.miss pin old new t)) }

/-- A marker of a gang or a trigger input reaches the units that use it (R292). -/
def State.iuOther (s : State) (kind index : Nat) (site : Option Nat) (edge : Nat) (t : Stamp) : State :=
  let hit (x : IuX) (c : Source) : Bool :=
    c.kind == kind && c.index == index && (kind != 2 || (!x.reg && site == some x.site))
      && (kind != 3 || c.edge == 2 || c.edge == edge)
  { s with ius := s.ius.map (fun (e : Nat × IuX) =>
      (e.1, e.2.take (hit e.2 e.2.startSrc) (hit e.2 e.2.stopSrc) t)) }

/-! ### Parametric measurement units -/

/-- A loaded PMU setup entry. -/
def State.pmuEntry (s : State) (k : Nat) : Option PmuSetup := Store.get (fun _ => none) s.pmuSetup k

/-- Conversion time in ticks (R316). -/
def convTicks (c : Nat) : Nat :=
  (if c ≤ 4 then 4 * 2 ^ c else if c = 5 then 256 else 1024) * tUs

/-- The PMU flags of R326. -/
def pClamp : Nat := 0
def pOvr : Nat := 1
def pLim : Nat := 2
def pTmo : Nat := 3
def pSat : Nat := 4
def pBad : Nat := 5
def pCorr : Nat := 6
def pReg : Nat := 7

/-- The setup of a measurement, zeros where the entry is unloaded. -/
def State.pmuE (s : State) (m : PmuMeas) : PmuSetup := (s.pmuEntry m.setup).getD {}

/-- Signed readings of the conversions of a pin in result units, as whole numbers. -/
def PmuX.values (p : PmuX) : List Int := p.samples.map (signed 33)

/-- Least and greatest of a list. -/
def listMin : List Int → Int
  | [] => 0
  | [a] => a
  | a :: t => min a (listMin t)
def listMax : List Int → Int
  | [] => 0
  | [a] => a
  | a :: t => max a (listMax t)

/-- R323: MEAN of a pin. -/
def PmuX.mean (p : PmuX) : Int := roundDiv p.values.sum p.samples.length

/-- R323: whether a pin is out of limits. -/
def PmuX.outOf (p : PmuX) (e : PmuSetup) : Bool :=
  p.samples.isEmpty || decide (p.mean < e.limlo ∨ p.mean > e.limhi) || hasBit p.flags pClamp || hasBit p.flags pOvr

/-- R326: a pin's result block, in 64-bit words; of a pin without a conversion the values that the spec does not state
are free. -/
def State.pmuBlock (s : State) (m : PmuMeas) (pin : Nat) : List Nat :=
  let p := (s.pin pin).pmu
  let e := s.pmuE m
  let fl := (if p.outOf e then withBit p.flags pLim else p.flags)
  let own := match m.site with | some n => s.lead n + n * 256 | none => 0
  let none_ := p.samples.isEmpty
  let free (k : Nat) (v : Nat) : Nat := if none_ then Config.pmuUnstated (s.free + pin) k % 2 ^ 32 else v
  [if none_ && !hasBit p.flags pBad then Config.pmuUnstated (s.free + pin) 3 % 2 ^ 64 else p.lastEnd.toNat,
   free 0 (ofSigned 32 p.mean) + free 1 (ofSigned 32 (listMin p.values)) * 2 ^ 32,
   free 2 (ofSigned 32 (listMax p.values)) + min 65535 p.taken * 2 ^ 32 + fl * 2 ^ 48,
   m.setup % 512 + (if none_ then Config.pmuUnstated (s.free + pin) 4 % 8 else e.range) * 2 ^ 9 + e.mode * 2 ^ 12 + ofBool e.iunit * 2 ^ 14 + pin * 2 ^ 16 + own * 2 ^ 32]

/-- R324: the value of V[DST]. -/
def State.pmuValue (s : State) (m : PmuMeas) : Nat :=
  let e := s.pmuE m
  let xs := m.pins.map (fun q => (s.pin q).pmu)
  let means := xs.map PmuX.mean
  if xs = [] then 2 ^ 31
  else if e.vred = 4 then (xs.filter (fun p => p.outOf e)).length
  else if e.vred = 5 then
    match m.site with
    | some n => ((List.range 32).filter (fun k => match s.sitePin n k with
        | some q => m.pins.contains q && (s.pin q).pmu.outOf e | none => false)).foldl (fun v k => v + 2 ^ k) 0
    | none => 0
  else if xs.any (fun p => p.samples.isEmpty) then 2 ^ 31
  else ofSigned 32 (
    if e.vred = 0 then means.headD 0 else if e.vred = 1 then listMin means else if e.vred = 2 then listMax means
    else means.foldl (fun a b => if b.natAbs > a.natAbs then b else a) (means.headD 0))

/-- R320, R323 to R326: the results of a measurement are written in one tick. A record's stamp is its block's STAMP, of a pin without
a conversion too (DESIGN CHOICE, assumption 59). -/
def State.pmuWrite (s : State) (m : PmuMeas) : State :=
  let e := s.pmuE m
  let bad := m.pins.any (fun q => (s.pin q).pmu.outOf e)
  let v := s.pmuValue m
  let s0 := s
  let s := m.pins.foldl (fun s q =>
    let blk := s0.pmuBlock m q
    let s := (List.range 8).foldl (fun s k =>
      let w := blk.getD (k / 2) 0
      s.wr F.PIN_PMU_RES_RES (if k % 2 = 0 then loWord w else hiWord w) q k) s
    let s := s.wr F.PIN_PMU_STAT_STATE 2 q
    if e.rec_ then s.record q 6 blk (BitVec.ofNat 64 (blk.getD 0 0)) none else s) s
  let s := { s with pmus := s.pmus.filter (·.tok ≠ m.tok), free := s.free + 1024 }
  match m.site with
  | none => s
  | some n =>
    let s := s.measResult n m.dst m.tok v
    let s := if e.ftag ≠ 0 then s.setTag n e.ftag (if bad then 2 else 1) else s
    if e.limfail ∧ bad then s.siteFail n m.seq m.vp else s

/-- Whether an output plays or is armed (R327). -/
def State.waveActive (s : State) (w : Nat) : Bool := s.rd F.AWG_STAT_STATE w != 0

/-- R327: whether a measurement ends at B with BADSETUP. -/
def State.pmuBad (s : State) (m : PmuMeas) : Bool :=
  match s.pmuEntry m.setup with
  | none => true
  | some e => m.pins.any (fun q => !s.on F.PIN_CFG_USE q)
    || ((e.trig == 5 || e.trig == 6) && !s.waveActive e.wsrc)
    || (m.site.isNone && decide (1 ≤ e.trig ∧ e.trig ≤ 4))

/-- Whether a pin's PMU is busy with an earlier measurement. -/
def State.pmuBusy (s : State) (q : Nat) : Bool := s.rd F.PIN_PMU_STAT_STATE q == 1

/-- R318, R322: the connect phase of a pin begins. -/
def State.pmuConnect (s : State) (m : PmuMeas) (e : PmuSetup) (q : Nat) : State :=
  let x := s.pin q
  let kept := s.on F.PIN_PMU_STAT_CONN q
  let sameMode := kept && s.rd F.PIN_PMU_STAT_MODE q == e.mode
  let sameRange := sameMode && (e.mode == 2 || s.rd F.PIN_PMU_STAT_RANGE q == e.range)
  let t := if sameRange then 0 else if sameMode then 3000 else if kept then 3000 else 1500
  let fl := if m.site.isNone then 2 ^ pReg else 0
  let p : PmuX := { phase := 1, until_ := after s.now t, setup := m.setup, site := m.site, dst := m.dst, tok := m.tok
                    reg := m.site.isNone, lastEnd := s.now, flags := fl }
  let s := s.setPin q { x with pmu := p }
  let s := if e.mode < 2 then s.forceDrv q 0 else s
  let s := ((s.wr F.PIN_PMU_STAT_STATE 1 q).wr F.PIN_PMU_STAT_CONN 1 q).wr F.PIN_PMU_STAT_KEPT 0 q
  let s := (s.wr F.PIN_PMU_STAT_MODE e.mode q).wr F.PIN_PMU_STAT_RANGE e.range q
  ((s.wr F.PIN_PMU_STAT_REG (ofBool m.site.isNone) q).wr F.PIN_PMU_STAT_OWNV (ofBool m.site.isSome) q).wr
    F.PIN_PMU_STAT_OWNER (s.ownerOf m.site) q

/-- A measurement starts on its pins if all are free: it connects, or ends at once with BADSETUP. -/
def State.pmuTry (s : State) (m : PmuMeas) : State :=
  if m.started ∨ m.pins.any s.pmuBusy then s else
  let m := { m with b := s.now, started := true }
  let s := { s with pmus := s.pmus.map (fun a => if a.tok = m.tok then m else a) }
  if s.pmuBad m || m.pins.isEmpty then
    (m.pins.foldl (fun s q => s.setPin q { s.pin q with
      pmu := { (s.pin q).pmu with
        samples := []
        taken := 0
        lastEnd := s.now
        setup := m.setup
        tok := m.tok
        flags := 2 ^ pBad + (if m.site.isNone then 2 ^ pReg else 0) } }) s).pmuWrite m
  else m.pins.foldl (fun s q => s.pmuConnect m (s.pmuE m) q) s

/-- Whether an earlier measurement that has not started waits for one of a measurement's pins. -/
def State.pmuBehind (s : State) (m : PmuMeas) : Bool :=
  (s.pmus.takeWhile (fun a => a.tok != m.tok)).any (fun a => !a.started && a.pins.any (fun q => m.pins.contains q))

/-- R318, R328: a PMU measurement is requested at the present tick. -/
def State.pmuRequest (s : State) (site : Option Nat) (dst setup : Nat) (pins : List Nat) (vp seq tok : Nat) : State :=
  let m : PmuMeas := ⟨tok, site, dst, setup, pins, s.now, vp, seq, false, []⟩
  let s := { s with pmus := s.pmus ++ [m] }
  if s.pmuBehind m then s else s.pmuTry m

/-- Measurements that waited for pins start, in order. -/
def State.pmuWake (s : State) : State :=
  s.pmus.foldl (fun s m => if m.started ∨ s.pmuBehind m = true then s else s.pmuTry m) s

/-- A pin's path opens (R318, R321). -/
def State.pmuOpen (s : State) (q : Nat) : State :=
  let p := (s.pin q).pmu
  let s := s.setPin q { s.pin q with pmu := { p with phase := 0 } }
  ((s.wr F.PIN_PMU_STAT_CONN 0 q).wr F.PIN_PMU_STAT_KEPT 0 q)

/-- A pin of a measurement has ended; when the last one has, the results are written (R320). -/
def State.pmuPinEnded (s : State) (q : Nat) : State :=
  let tok := (s.pin q).pmu.tok
  match s.pmus.find? (fun m => m.tok == tok && m.started) with
  | none => s
  | some m =>
    let m := { m with ended := if m.ended.contains q then m.ended else m.ended ++ [q] }
    let s := { s with pmus := s.pmus.map (fun a => if a.tok = tok then m else a) }
    if m.pins.all (fun r => m.ended.contains r) then (s.pmuWrite m).pmuWake else s

/-- R321: every PMU measurement of a gang ends with no result, and every PMU of the gang opens its path. -/
def State.pmuEndSite (s : State) (n : Nat) : State :=
  let s := { s with pmus := s.pmus.filter (fun m => m.site ≠ some n) }
  (s.pinsOf n).foldl (fun s q =>
    let s := if s.rd F.PIN_PMU_STAT_STATE q = 1 then s.wr F.PIN_PMU_STAT_STATE 0 q else s
    let s := if s.pmuConn q then s.pmuOpen q else s.setPin q { s.pin q with pmu := { (s.pin q).pmu with phase := 0 } }
    s) s

/-- R306, R321: the measurements of a gang end at once with no result. -/
def State.measEndSite (s : State) (n : Nat) : State :=
  let s := (s.iuEndSite n).pmuEndSite n
  s.setGang n { s.gang n with meas := [] }

/-- A marker of a gang, or of an output, triggers the PMU conversions that wait for it (R319): code 1 to 4 a
gang marker, 5 and 6 a waveform marker. -/
def State.pmuTrigger (s : State) (pins : List Nat) (code wave : Nat) (t : Stamp) : State :=
  pins.foldl (fun s q =>
    let x := s.pin q
    let p := x.pmu
    match s.pmuEntry p.setup with
    | some e =>
      let from_ := match p.convEnd with | some c => c | none => if p.phase = 3 then p.trigT else p.until_
      if e.trig = code ∧ (code ≤ 4 ∨ e.wsrc = wave) ∧ (p.phase = 2 ∨ p.phase = 3) ∧ p.trigNext = none ∧ ahead t from_ ≥ 0
      then s.setPin q { x with pmu := { p with trigNext := some t } } else s
    | none => s) s

end Sys2Proof.Machine
end

