-- ==== Sys2Proof/Machine/SegOps.lean ====
section
/-! DEFINITION. Segments of the local stores (R220 to R232) and stream windows (R236 to R239). -/

namespace Sys2Proof.Machine

/-- Segment states (R224) and kinds (R222). -/
def sgFree : Nat := 0
def sgLoading : Nat := 1
def sgReady : Nat := 2
def sgActive : Nat := 3
def sgRetired : Nat := 4
def sgUndef : Nat := 7
def kdProgram : Nat := 0
def kdWave : Nat := 1
def kdStream : Nat := 2

/-- A segment entry of a pod. -/
def State.seg (s : State) (pod k : Nat) : SegX := (s.pod pod).segs.at {} k
def State.setSeg (s : State) (pod k : Nat) (x : SegX) : State :=
  s.setPod pod { s.pod pod with segs := (s.pod pod).segs.set {} k x }

/-- Whether an entry may be fetched from (R224). -/
def SegX.fetchable (x : SegX) : Bool := x.st == sgReady || x.st == sgActive

/-- Whether a pod hosts a waveform output (R329). -/
def State.hostOf (s : State) (pod : Nat) : Option Nat :=
  (List.range 32).find? (fun w => s.on F.AWG_CFG_HOSTV w && s.rd F.AWG_CFG_HOST w == pod)

/-- Units in a granule: 64 program words, 256 short words or 256 samples (R220, R221). -/
def State.unitsPerGranule (s : State) (pod : Nat) (x : SegX) : Nat :=
  if x.kind = kdWave ∨ (x.kind = kdStream ∧ (s.hostOf pod).isSome) then 256
  else if s.on F.ENG_UCTL_COMPAT pod then 256 else 64

/-- The length of an entry in its units (R221). -/
def State.segUnits (s : State) (pod : Nat) (x : SegX) : Nat := s.unitsPerGranule pod x * x.len

/-- Whether the unit at an offset is present: always within a fetchable PROGRAM or WAVE entry (R225), once its
granule is delivered in a STREAM entry (R240). -/
def State.unitReady (s : State) (pod : Nat) (x : SegX) (off : Nat) : Bool :=
  x.fetchable && (x.kind != kdStream || decide (off / s.unitsPerGranule pod x < x.got))

/-- The byte address in the local stores of granule g of an entry. -/
def granuleAddr (pod : Nat) (x : SegX) (g : Nat) : Nat := 131072 * pod + 512 * (x.lbase + g)

/-- The place of a program word, or sample, within an entry: a stream offset is taken round its window (R238). -/
def State.winOff (s : State) (pod : Nat) (x : SegX) (off : Nat) : Nat :=
  if x.kind = kdStream then off % max 1 (s.segUnits pod x) else off

/-- The program word number w, and sample number k, of an entry's local granules. -/
def State.localWord (s : State) (pod : Nat) (x : SegX) (w : Nat) : Nat := s.segMem.num (granuleAddr pod x 0 + 8 * w) 8
def State.localSample (s : State) (pod : Nat) (x : SegX) (k : Nat) : Nat := s.segMem.num (granuleAddr pod x 0 + 2 * k) 2

/-- A refill of an entry begins from a pool granule, in a class of R245. -/
def State.startLoad (s : State) (pod k src cls : Nat) : State :=
  let x := s.seg pod k
  s.setSeg pod k { x with st := sgLoading, src := src, cls := cls }

/-- R228: a CONSUME entry retires: it reloads while reloads remain. -/
def State.retire (s : State) (pod k : Nat) : State :=
  let x := s.seg pod k
  if x.consume = false then s
  else if x.rem = 0 then s.setSeg pod k { x with st := sgRetired }
  else { (s.setSeg pod k { x with rem := x.rem - 1, ord := s.tok }).startLoad pod k (x.src + x.adv) 3 with tok := s.tok + 1 }

/-- R229: the entries of a pod at the end of a step. -/
def State.rewindPod (s : State) (pod : Nat) : State :=
  (List.range 64).foldl (fun s k =>
    let x := s.seg pod k
    let x1 := if x.st = sgActive then { x with st := sgReady } else x
    let s := if x.st = sgActive then s.setSeg pod k x1 else s
    if x1.rewind ∧ (x1.src ≠ x1.pbase ∨ x1.st = sgRetired) then
      (s.setSeg pod k { x1 with rem := x1.reloads }).startLoad pod k x1.pbase 4
    else s) s

/-- A pool granule's bytes. -/
def State.poolGranule (s : State) (g : Nat) : List Nat := s.poolMem.read (512 * g) 512

/-- n granules copied from the pool into an entry. -/
def State.copyIn (s : State) (pod : Nat) (x : SegX) (src : Nat) : Nat → State
  | 0 => s
  | n + 1 =>
    let s := { s with segMem := s.segMem.writeBytes (granuleAddr pod x n) (s.poolGranule (src + n)) }
    s.copyIn pod x src n

/-- The best class of R245 among the loads of a pod; 9 where there is none. -/
def State.bestClass (s : State) (pod : Nat) : Nat :=
  (List.range 64).foldl (fun b k => let x := s.seg pod k; if x.st = sgLoading ∧ x.kind ≠ kdStream ∧ x.cls < b then x.cls else b) 9

/-- Whether an entry's load is the oldest retirement of its pod that reloads (R245). -/
def State.oldestReload (s : State) (pod k : Nat) : Bool :=
  let o := (s.seg pod k).ord
  (List.range 64).all (fun j => let x := s.seg pod j; x.st != sgLoading || x.kind == kdStream || x.cls != 3 || decide (o ≤ x.ord))

/-- The first load of a pod still to be written into an entry ends: READY (R224). -/
def State.finishLoad (s : State) (pod k : Nat) : State :=
  let x := s.seg pod k
  let s := (s.copyIn pod x x.src x.len).setSeg pod k { x with st := sgReady, cls := 0 }
  (s.pulse 0x09 pod x.len).bump F.POOL_RD_RD x.len

/-- A waiting crossing or stream granule goes before every other load of its pod (R245). -/
def State.urgent (s : State) (pod k : Nat) : State :=
  let x := s.seg pod k
  if x.st = sgLoading ∧ x.cls < 5 then s.setSeg pod k { x with cls := 1 } else s

/-! ### Streams -/

/-- The pods bound to a stream slot and their entries (R236). -/
def State.bound (s : State) (strm : Nat) : List (Nat × Nat) :=
  (s.pods.map (·.1)).flatMap (fun p =>
    ((s.pod p).segs.filter (fun e => e.2.st != sgUndef && e.2.kind == kdStream && e.2.slot == strm)).map (fun e => (p, e.1)))

/-- R240: a pod under-runs at a granule of a stream slot, counted from the setting of EN. -/
def State.streamUr (s : State) (pod t g : Nat) (at_ : Stamp) : State :=
  let x := s.strm t
  let s := s.setStrm t { x with unders := x.unders ++ [g] }
  ((s.wr F.STRM_STAT_UNDERRUN 1 t).bump F.STRM_URCNT_URCNT 1 t).raise (1952 + t) 1 [pod + g * 2 ^ 32] at_

/-- The oldest granule of a stream window that something of the pod's gang refers to (R238): the fetch
position, stacks, an armed MATCH, checkpoints, the sprout, PSAFE marks. -/
def Thread.oldest (t : Thread) (seg upg : Nat) (m : Nat) : Nat :=
  let see (m : Nat) (a : PAddr) : Nat := if a.seg = seg then min m (a.off / upg) else m
  let m := see (see m t.pc) t.word
  let m := t.calls.foldl see m
  let m := (t.loops.map (·.addr)).foldl see m
  match t.mctr, t.mtarget with | some _, some c => see m c | _, _ => m

/-- The stream words of an entry that a path has fetched (R239). -/
def Thread.head (t : Thread) (x : SegX) (seg : Nat) : Nat := max x.head (t.heads.at 0 seg)

def Ckpt.threads (c : Ckpt) : List Thread :=
  c.alt :: (match c.kind with | .mtch _ _ _ _ _ its => its.map (·.th) | _ => [])

def Gang.threads (g : Gang) : List Thread :=
  g.main :: (g.ckpts.flatMap Ckpt.threads ++ (match g.sprout with | some p => [p.th] | none => []) ++ g.safes.map (·.th)
    ++ (match g.wait with | some w => [w.th] | none => []))

/-- The granules of a pod's stream window that are released: those before the oldest one held. A pod of a
husk holds none (R363). -/
def State.released (s : State) (pod k : Nat) : Nat :=
  let x := s.seg pod k
  let upg := max 1 (s.unitsPerGranule pod x)
  let base := x.head / upg
  match s.hostOf pod with
  | some w => if s.rd F.AWG_STAT_STATE w ≥ 2 ∧ (s.wave w).pc.seg = k then min base ((s.wave w).pc.off / upg) else base
  | none =>
    match s.siteOfPod pod with
    | none => base
    | some n =>
      let g := s.gang n
      let base := g.main.head x k / upg
      if s.running n ∨ g.prep = true then g.threads.foldl (fun m t => t.oldest k upg m) base else base

/-- Whether a stream's next granule can be copied into a pod's window: it is in staging, and a window granule is free (R237,
R238). -/
def State.streamFree (s : State) (pod k : Nat) : Bool :=
  let x := s.seg pod k
  x.st != sgUndef && x.kind == kdStream && s.on F.STRM_CFG_EN x.slot && decide (x.got < (s.strm x.slot).fed)
    && decide (x.got < s.released pod k + x.len)

/-- Whether a pod has such a delivery, which goes before reloads and other loads (R245). -/
def State.streamDue (s : State) (pod : Nat) : Bool := (s.pod pod).segs.any (fun e => s.streamFree pod e.1)

end Sys2Proof.Machine
end

