-- ==== Sys2Proof/Machine/WaveOps.lean ====
section
/-! DEFINITION. Waveform outputs (R329 to R338): states, slots, samples, events. -/

namespace Sys2Proof.Machine

/-- AWG_STAT.STATE codes (R333) and LASTEV causes (R340). -/
def wvIdle : Nat := 0
def wvArmed : Nat := 1
def wvPlay : Nat := 2
def wvMuting : Nat := 3
def evUnderrun : Nat := 1
def evEnd : Nat := 2
def evMarkA : Nat := 3
def evMarkB : Nat := 4
def evFault : Nat := 5

def State.waveSt (s : State) (w : Nat) : Nat := s.rd F.AWG_STAT_STATE w

/-- Event 1920 + w with its cause (R335, R399). -/
def State.waveEvent (s : State) (w cause : Nat) (t : Stamp) : State :=
  let s := s.wr F.AWG_STAT_LASTEV cause w
  s.raise (1920 + w) cause [s.rd F.AWG_POS_POS w] t

/-- R329, R500: whether an output's host pod allows it to play. -/
def State.hostOk (s : State) (w : Nat) : Bool :=
  s.on F.AWG_CFG_HOSTV w && dieOfPod (s.rd F.AWG_CFG_HOST w) == dieOfWave w && (s.siteOfPod (s.rd F.AWG_CFG_HOST w)).isNone
    && !s.podFenced (s.rd F.AWG_CFG_HOST w)

/-- Whether an output plays: in PLAY, or in MUTING out of PLAY (R333, R336). -/
def State.wavePlays (s : State) (w : Nat) : Bool :=
  s.waveSt w == wvPlay || (s.waveSt w == wvMuting && (s.wave w).back == wvPlay)

/-- The state of an output is set; within a span change it is the state to return to (R336). -/
def State.setWaveSt (s : State) (w st : Nat) : State :=
  if s.waveSt w = wvMuting then s.setWave w { s.wave w with back := st } else s.wr F.AWG_STAT_STATE st w

/-- An output goes to IDLE and shows its idle code; its step ends, and its entries rewind (R229, R243). -/
def State.waveIdle (s : State) (w : Nat) : State :=
  let x := s.wave w
  let played := s.wavePlays w
  let s := s.setWave w { x with
    startAt := none, stopAt := none, arm := none, fireT := none, wait := false, pad := false, code := s.rd F.AWG_IDLE_IDLE w }
  let s := (s.setWaveSt w wvIdle).wr F.AWG_ARMBY_ARMV 0 w
  if played ∧ s.on F.AWG_CFG_HOSTV w then s.rewindPod (s.rd F.AWG_CFG_HOST w) else s

/-- Slot length in ticks (R331). -/
def State.slotTicks (s : State) (w : Nat) : Nat := s.rd F.AWG_CFG_DIV w + 1

/-- Whether a slot begins now and has not been played; an output that does not play takes every tick as a slot's
(assumption 11). -/
def State.slotNow (s : State) (w : Nat) : Bool := !s.wavePlays w || (s.wave w).next == s.now

/-- The address a sample is played from, the crossing of an entry's end taken (R226, R243): `none` where
NEXT_V is 0. -/
def State.waveNext (s : State) (pod : Nat) (a : PAddr) : Option PAddr :=
  let x := s.seg pod a.seg
  if x.kind ≠ kdStream ∧ a.off ≥ s.segUnits pod x then (if x.nextV then some ⟨x.next, 0⟩ else none) else some a

/-- Whether the sample that an output needs next can be fetched (R243). -/
def State.waveReady (s : State) (w : Nat) : Bool :=
  let pod := s.rd F.AWG_CFG_HOST w
  match s.waveNext pod (s.wave w).pc with
  | none => false
  | some a => s.unitReady pod (s.seg pod a.seg) a.off

/-- A 16-bit sample plays in the slot that begins now: it is counted, and its markers are raised (R331, R332). -/
def State.playSample (s : State) (w v : Nat) : State :=
  let x := s.wave w
  let s := (s.bump F.AWG_SAMPLES_SAMPLES 1 w).pulse 0x1A w
  let s := s.setWave w { x with next := after s.now (s.slotTicks w), slotAt := s.now, code := v % 16384 }
  let mark (s : State) (b code cause : Nat) (en : Fld) : State :=
    if hasBit v b then
      let s := s.pmuTrigger (s.pmus.flatMap (·.pins)) code w s.now
      if s.on en w then s.waveEvent w cause s.now else s
    else s
  mark (mark s 14 5 evMarkA F.AWG_CTL_MEVA) 15 6 evMarkB F.AWG_CTL_MEVB

/-- R331: one slot begins at the present tick: the sample at the output's address plays and the address moves on, or
PAD plays. Where the sample is not there, or the entry has ended, the output waits for WAVE_UNDERRUN or PLAY_END. -/
def State.playSlot (s : State) (w : Nat) : State :=
  let x := s.wave w
  let pod := s.rd F.AWG_CFG_HOST w
  match s.waveNext pod x.pc with
  | none => s.setWave w { x with next := after s.now (s.slotTicks w), slotAt := s.now, wait := true }
  | some a =>
    if s.waveReady w = false then
      (if x.pad then s.playSample w (s.rd F.ENG_PM_PAD_PAD pod % 65536)
       else s.setWave w { x with next := after s.now (s.slotTicks w), slotAt := s.now, wait := true })
    else
      let s := if a.seg ≠ x.pc.seg then s.retire pod x.pc.seg else s
      let g := s.seg pod a.seg
      let s := s.setSeg pod a.seg { g with st := sgActive, head := max g.head (a.off + 1) }
      let v := s.localSample pod g (s.winOff pod g a.off)
      let s := (s.wr F.AWG_POS_POS (PAddr.num ⟨a.seg, s.winOff pod g a.off⟩) w).wr F.ENG_PM_STAT_CURSEG a.seg pod
      (s.setWave w { x with pc := ⟨a.seg, a.off + 1⟩, wait := false, pad := false }).playSample w v

/-- Playing starts at an address in the slot that begins now (R334). -/
def State.waveBegin (s : State) (w : Nat) (a : PAddr) : State :=
  let x := s.wave w
  let pod := s.rd F.AWG_CFG_HOST w
  let g := s.seg pod a.seg
  let a := if g.kind = kdStream then ⟨a.seg, g.head⟩ else a
  let s := s.setWave w { x with
    pc := a, startAt := none, stopAt := none, arm := none, fireT := none, wait := false, pad := false }
  let s := ((s.setWaveSt w wvPlay).wr F.AWG_ARMBY_ARMV 0 w).wr F.AWG_SAMPLES_SAMPLES 0 w
  s.playSlot w

/-- R336: a pending mute, unmute or span change acts at a slot boundary after its write. -/
def State.waveMute (s : State) (w : Nat) : State :=
  let x := s.wave w
  match x.muteAt with
  | none => s
  | some t =>
    if reached t s.now = false ∨ t = s.now ∨ s.slotNow w = false then s else
    if x.spanChange then
      let st := s.waveSt w
      ((s.setWave w { x with
        muteAt := none, spanChange := false, unmuteAt := some (after s.now 1500)
        back := if st = wvMuting then x.back else st }).wr F.AWG_STAT_STATE wvMuting w).wr F.AWG_STAT_MUTED 1 w
    else (s.setWave w { x with muteAt := none }).wr F.AWG_STAT_MUTED
      (ofBool (s.on F.AWG_SPAN_MUTE w || s.waveSt w == wvMuting)) w

/-- Where the slot after the one that holds the present tick begins. -/
def State.slotEnd (s : State) (w : Nat) : Stamp :=
  if (s.wave w).next = s.now then after s.now (s.slotTicks w) else (s.wave w).next

/-- Whether the present tick lies in the slot of an entry's last sample, its first tick among them (R244). -/
def State.lastSlot (s : State) (w : Nat) : Bool :=
  let x := s.wave w
  let pod := s.rd F.AWG_CFG_HOST w
  let last (a : PAddr) (k : Nat) : Bool :=
    let g := s.seg pod a.seg
    g.kind != kdStream && decide (a.off + k ≥ s.segUnits pod g)
  s.wavePlays w &&
    (if x.next = s.now then (match s.waveNext pod x.pc with | some a => s.waveReady w && last a 1 | none => false)
     else !x.wait && last x.pc 0)

/-- R334, R244: a STOP ends playing at the slot that begins now, or at the next; the last sample of an entry still plays. -/
def State.waveStop (s : State) (w : Nat) : State :=
  if s.slotNow w = true ∧ s.lastSlot w = false then s.waveIdle w else s.setWave w { s.wave w with stopAt := some (s.slotEnd w) }

/-- R156, R334, R244: the command of a gang that acts in the present tick is carried out. -/
def State.awgDo (s : State) (w : Nat) : State :=
  match (s.wave w).cmd with
  | none => s
  | some (n, op, mks, entry) =>
    let s := s.setWave w { s.wave w with cmd := none }
    if op = 0 then
      (if s.lastSlot w then
        (s.setWave w { s.wave w with startAt := some (s.slotEnd w, entry), arm := none, fireT := none }).wr F.AWG_ARMBY_ARMV 0 w
       else s.waveBegin w entry)
    else if op = 1 then s.waveStop w
    else
      let s := s.setWave w { s.wave w with arm := some (n, mks, entry), fireT := none }
      let s := (s.wr F.AWG_ARMBY_ARMV 1 w).wr F.AWG_ARMBY_POD (s.lead n) w
      if s.wavePlays w then s else s.setWaveSt w wvArmed

/-- What an output does at the end of a tick that nothing else has decided (R331, R334, R336): a mute, a gang's command, a register
START, a STOP, the next sample. -/
def State.waveTick (s : State) (w : Nat) : State :=
  let s := (s.waveMute w).awgDo w
  let x := s.wave w
  let due (o : Option Stamp) : Bool := match o with | some t => reached t s.now | none => false
  let play (s : State) : State :=
    if s.wavePlays w ∧ x.next = s.now then (if due x.stopAt then s.waveIdle w else s.playSlot w) else s
  match x.startAt with
  | some (t, a) =>
    if reached t s.now = false then play s
    else if s.hostOk w then s.waveBegin w a
    else (s.setWave w { x with startAt := none }).wr F.AWG_STAT_HOSTBAD 1 w
  | none => play s

/-- Whether a START or STOP taken in the slot of an entry's last sample stands in place of the crossing (R244). -/
def State.lastCmd (s : State) (w : Nat) : Bool :=
  let x := s.wave w
  (match x.cmd with | some c => c.2.1 != 2 | none => false) || x.stopAt.isSome
    || (match x.startAt with | some e => decide (ahead e.1 s.now ≤ 0) | none => false)

/-- R156, R329: an AWG command of a gang acts in the present tick: 0 START, 1 STOP, 2 ARM. Of two gangs' commands in one tick
that of the higher lowest-numbered pod takes effect, so it is carried out at the tick's end. -/
def State.awgCommand (s : State) (n op mks w : Nat) (entry : PAddr) : State :=
  if s.hostOk w = false then (s.wr F.SITE_PSTAT_AWGLOST 1 n).wr F.AWG_STAT_HOSTBAD 1 w else
  let x := s.wave w
  let lead := s.lead n
  let clash := x.cmdTick == s.now && x.cmdSite != n + 1 && x.cmdSite != 0
  if clash ∧ x.cmdLead > lead then s.wr F.SITE_PSTAT_AWGLOST 1 n else
  let s := if clash then s.wr F.SITE_PSTAT_AWGLOST 1 (x.cmdSite - 1) else s
  let s := if clash then s else s.awgDo w
  s.setWave w { s.wave w with cmdTick := s.now, cmdLead := lead, cmdSite := n + 1, cmd := some (n, op, mks, entry) }

/-- R338: an output is muted and goes to IDLE for a fault. -/
def State.faultMute (s : State) (w : Nat) : State :=
  let s := s.waveIdle w
  let s := s.setWave w { s.wave w with muteAt := none, unmuteAt := none, spanChange := false, back := wvIdle }
  let s := (((s.wr F.AWG_STAT_STATE wvIdle w).wr F.AWG_SPAN_MUTE 1 w).wr F.AWG_STAT_MUTED 1 w).wr F.AWG_STAT_FLTMUTE 1 w
  s.waveEvent w evFault s.now

/-- R363: an ARM pending from a gang is cancelled. -/
def State.cancelArms (s : State) (n : Nat) : State :=
  (List.range 32).foldl (fun s w =>
    let x := s.wave w
    match x.arm with
    | some (m, _, _) =>
      if m = n then
        let s := (s.setWave w { x with arm := none, fireT := none }).wr F.AWG_ARMBY_ARMV 0 w
        if s.wavePlays w then s else s.setWaveSt w wvIdle
      else s
    | none => s) s

/-- R157, R334: the first marker of a gang after an ARM names the tick at which the output starts. -/
def State.markWaves (s : State) (n k : Nat) (t : Stamp) : State :=
  (List.range 32).foldl (fun s w =>
    let x := s.wave w
    match x.arm, x.fireT with
    | some (m, j, _), none => if m = n ∧ j = k ∧ ahead t x.cmdTick ≥ 0 then s.setWave w { x with fireT := some t } else s
    | _, _ => s) s

end Sys2Proof.Machine
end

