-- ==== Sys2Proof/Machine/Gang.lean ====
section
/-! DEFINITION. What every word of a gang shares: program order and boundary ticks (R129, R130), fetch through
the segment table (R123, R226 to R227, R239), engine errors (R161, R208), the end of a step (R229, R306, R321,
R349), aborts (R185) and husks (R363). -/

namespace Sys2Proof.Machine

/-! ### Program order and boundary ticks -/

/-- A checkpoint's place in program order: an armed MATCH stands at its first undecided iteration (R201). -/
def Ckpt.place (c : Ckpt) : Nat :=
  match c.kind with
  | .mtch _ _ _ _ _ (i :: _) => i.seq
  | _ => c.seq

/-- Whether a checkpoint is of a branch that has not resolved; a MATCH with no open iteration is not. -/
def Ckpt.open_ (c : Ckpt) : Bool :=
  match c.kind with
  | .mtch _ _ _ _ _ its => !its.isEmpty
  | _ => true

/-- Whether a checkpoint is of an unresolved branch before a place in a word: for a user word's read, also in that word (R197). -/
def Ckpt.blocks (c : Ckpt) (q ix : Nat) : Bool :=
  c.open_ && (decide (c.place < q) || (match c.kind with | .user _ _ _ k => c.seq == q && decide (k ≤ ix) | _ => false))

/-- No branch before a place in program order is unresolved. -/
def Gang.clearBefore (g : Gang) (q : Nat) (ix : Nat := 0) : Bool := g.ckpts.all (fun c => !c.blocks q ix)

/-- The number after every operation of a word. -/
def wordEnd : Nat := 2 ^ 20

/-- Side effects that are launched with the output stream and act at the pin die (R205). -/
def Eff.atPin : Eff → Bool
  | .lvl _ => true
  | .load .. => true
  | .log .. => true
  | .meas .. => true
  | .awg .. => true
  | _ => false

/-- Fields of a vector word (R126). -/
def vwNofail (v : Nat) : Bool := hasBit v 27
def vwNocap (v : Nat) : Bool := hasBit v 26
def vwTag (v : Nat) : Nat := bits v 31 28
def vwTset (v : Nat) : Nat := bits v 21 16
def vwMk (v : Nat) : Nat := bits v 25 22
def vwPin (v i : Nat) : Nat := bits v (4 * i + 3) (4 * i)

/-- The boundary tick of a place in program order is known: every vector and wait before it has been launched
or timed (R129). -/
def Gang.known (g : Gang) (q : Nat) : Bool :=
  g.oq.all (fun e => decide (q ≤ e.seq)) &&
  (match g.wait with | some w => decide (q ≤ w.seq) || w.endAt.isSome | none => true)

/-- That tick: the end of the last vector, or of a wait before the place (R129, R130). -/
def Gang.edge (g : Gang) (q : Nat) : Stamp :=
  match g.wait with
  | some w => (match w.endAt with | some t => if w.seq < q then later g.pinEnd t else g.pinEnd | none => g.pinEnd)
  | none => g.pinEnd

/-- The tick in which the outcome that a MATCH iteration tests is known: its tag's last vector before it, in flight
or resolved (R199, R210). -/
def Gang.tagDue (g : Gang) (q tag : Nat) : Option Stamp :=
  if g.oq.any (fun e => decide (e.seq < q) && (match e.words with | [] => false | w :: _ => vwTag w.2 == tag)) then none else
  match (g.flights.filter (fun f => decide (f.seq < q) && vwTag f.vw == tag)).getLast? with
  | some f => some (match f.dec with | some d => after f.t0 d | none => f.launch)
  | none => some (g.tagD.at 0 tag)

/-- R197, R210: whether what stands at a place in a word may be launched, to start at tick `t0`: no branch before it is unresolved,
but for an armed MATCH where it follows an iteration boundary that lies before the earliest cut that any open decision could
make. -/
def Gang.shadowAllows (g : Gang) (q ix : Nat) (t0 : Stamp) : Bool :=
  g.ckpts.all (fun c => match c.kind with
    | .mtch _ _ tag _ _ its =>
      let before := its.filter (fun i => decide (i.seq < q))
      match before, before.getLast? with
      | [], _ => true
      | i :: _, some j => (match j.bt, g.tagDue i.seq tag with
        | some b, some d => decide (ahead (if g.launched > j.seq then b else later b t0) (after d 48) < 0)
        | _, _ => false)
      | _, none => true
    | _ => !c.blocks q ix)

/-- Every pod of a gang has done the operation of a user routine at a place: what the gang does there is one effect (R172, R177). -/
def Gang.complete (g : Gang) (q ix : Nat) : Bool :=
  !(g.main.inRoutine && g.main.wordSeq == q) || g.main.cpu.all (fun e => !e.2.active || decide (ix < e.2.opIdx))

/-- The first kept event that satisfies a wait for a source from a boundary tick on (R149). -/
def Gang.eventSince (g : Gang) (src tmo : Nat) (b : Stamp) : Option Stamp :=
  (g.recent.find? (fun e => e.1 == src && decide (ahead e.2.1 b ≥ 0) &&
    decide (ahead e.2.2 (after b ((tmo + 1) * 64)) ≤ 0))).map (·.2.2)

/-- The end of a routine's wait for a value register whose measurement has ended (R173): 64 ticks after the write; none while a
measurement into it is open. -/
def Gang.measEnd (g : Gang) (w : GWait) (dst : Nat) (b : Stamp) : Option Stamp :=
  let posted := g.seb.any (fun e => (match e.eff with | .meas _ d _ _ _ => d == dst | _ => false)
    && (decide (e.seq < w.seq) || (e.seq == w.seq && decide (e.ix < w.ix))))
  if w.micro = false ∨ posted = true ∨ g.meas.contains (g.vMeas.at 0 dst) = true then none
  else some (match Store.get (fun _ => none) g.vEnd dst with | some t => later b (after t 64) | none => b)

/-- A wait whose boundary tick is known: its end where that is fixed with it (R148 to R151, R173). -/
def Gang.timeWait (g : Gang) (w : GWait) (b : Stamp) : GWait :=
  match w.kind with
  | .time base1 n =>
    let target := after (if base1 then b else g.startT) n
    { w with bt := some b, endAt := some (if ahead target b > 0 then target else b) }
  | .event src _ =>
    match g.eventSince src w.tmo b with
    | some t => { w with bt := some b, kind := .event src (some t), endAt := some (after (tickOf t) 64) }
    | none => { w with bt := some b }
  | .barrier bar _ => { w with bt := some b, kind := .barrier bar (some b) }
  | .meas d => { w with bt := some b, endAt := g.measEnd w d b }
  | .commit => { w with bt := some b, endAt := if g.allBefore w.seq w.ix then some b else none }

/-- The position of the last vector launched. -/
def Gang.lastPos (g : Gang) : Option Nat := if g.vpos = 0 then none else some (g.vpos - 1)

/-- The boundary tick of a side effect, once known, and the tick in which one at the pins acts, no earlier than 48 ticks after it is
launched (R129, R205, R197). -/
def Gang.fixEntry (g : Gang) (now : Stamp) (e : SebEntry) : SebEntry :=
  let e := if e.bt = none ∧ g.known e.seq = true then { e with bt := some (g.edge e.seq), vp := g.lastPos } else e
  match e.bt with
  | none => e
  | some b =>
    let t0 := if g.started then later b (after now 48) else b
    if e.eff.atPin = true ∧ e.go = none ∧ (e.pod.isSome || g.complete e.seq e.ix) = true ∧ g.shadowAllows e.seq e.ix t0 = true then { e with go := some t0 } else e

/-- A safe point's boundary tick once known; it is one that a pre-emption may take where every branch before it has resolved by its
launch tick, and is forgotten where one resolves later, or once its launch tick has passed with no request (R216). -/
def Gang.fixSafe (g : Gang) (now : Stamp) (m : SafeMark) : Option SafeMark :=
  let m := if m.bt = none ∧ g.known m.seq = true then { m with bt := some (g.edge m.seq) } else m
  match m.bt with
  | none => some m
  | some b =>
    let gone := decide (ahead (after now 48) b > 0)
    if m.ok = true then (if gone ∧ g.preempt = none then none else some m)
    else if g.clearBefore m.seq m.ix = false then (if gone then none else some m)
    else match g.lastRes with
      | some t => if ahead (after t 48) b ≤ 0 then some { m with ok := true } else none
      | none => some { m with ok := true }

/-- The wait of a gang, its boundary tick set once known. -/
def Gang.knownWait (g : Gang) : Option GWait :=
  g.wait.map (fun w => if w.bt = none ∧ g.known w.seq = true then g.timeWait w g.pinEnd else w)

/-- Boundary ticks that have become known are set: of the wait, of side effects, of MATCH iterations, of safe points; a wait at a
crossing counts from the tick in which no branch before it is unresolved (R215). -/
def Gang.fix (g : Gang) (now : Stamp) : Gang :=
  let g := { g with wait := g.knownWait }
  let fixIter (i : MatchIter) : MatchIter :=
    if i.bt = none ∧ g.known i.seq = true then { i with bt := some (g.edge i.seq) } else i
  let fixCk (c : Ckpt) : Ckpt :=
    match c.kind with
    | .mtch h f t l a its => { c with kind := .mtch h f t l a (its.map fixIter) }
    | _ => c
  let g := { g with
    ckpts := g.ckpts.map fixCk
    exh := g.exh.map (fun (e : Exhaust) => if e.vp = none ∧ g.known e.seq = true then { e with vp := g.lastPos } else e)
    cross := g.cross.map (fun (c : Cross) =>
      if c.since = none ∧ c.ur = none ∧ g.clearBefore g.seqNext wordEnd = true then { c with since := some now } else c) }
  { g with seb := g.seb.map (g.fixEntry now), safes := g.safes.filterMap (g.fixSafe now) }

/-- Boundary ticks of a gang brought up to date; a running gang that has reached a wait shows it. -/
def State.fix (s : State) (n : Nat) : State :=
  let g := (s.gang n).fix s.now
  let s := s.setGang n g
  match g.wait with
  | some w =>
    if w.bt.isSome && g.clearBefore w.seq && !g.stopped && s.gstate n == stRun then
      s.setGstate n (match w.kind with | .barrier .. => stBarrier | _ => stWait)
    else s
  | none => s

/-- R216: the first safe point at which a gang takes its pending pre-emption: its launch tick comes after the request. One that may
still turn out to be it holds what follows. -/
def Gang.safePoint (g : Gang) : Option SafeMark :=
  match g.preempt with
  | none => none
  | some rq => g.safes.find? (fun m => match m.bt with | some b => decide (ahead b (after rq 48) > 0) | none => false)

/-! ### Threads -/

/-- The thread of a path. -/
def Gang.thread (g : Gang) (p : Path) : Option Thread :=
  match p with
  | .main => some g.main
  | .sprout => g.sprout.map (·.th)

def Gang.setThread (g : Gang) (p : Path) (t : Thread) : Gang :=
  match p with
  | .main => { g with main := t }
  | .sprout => { g with sprout := g.sprout.map (fun x => { x with th := t }) }

/-- The micro-machine of a pod on a path. -/
def Thread.micro (t : Thread) (pod : Nat) : MicroSt := t.cpu.at {} pod
def Thread.setMicro (t : Thread) (pod : Nat) (m : MicroSt) : Thread := { t with cpu := t.cpu.set {} pod m }

/-- Popping k loop entries (R143): `none` where fewer are open. -/
def Thread.popLoops (t : Thread) (k : Nat) : Option Thread :=
  if k ≤ t.loops.length then some { t with loops := t.loops.drop k } else none

/-- A sprout before the word that it stops at: within a routine, the word is undone (R204). -/
def Sprout.backTo (x : Sprout) : Sprout :=
  if x.th.inRoutine then
    { x with
      th := x.at0
      oq := x.oq.filter (fun e => e.seq != x.th.wordSeq)
      seb := x.seb.filter (fun e => e.seq != x.th.wordSeq) }
  else x

/-- The sprout stops, with its reason in ENG_RA_STAT.SPSTOP. -/
def State.stopSprout (s : State) (n why : Nat) : State :=
  let g := s.gang n
  let s := s.setGang n { g with sprout := g.sprout.map (fun x => { x.backTo with stop := why }) }
  s.wrAll F.ENG_RA_STAT_SPSTOP why (s.podsOf n)

/-- ENG_RA_STAT.STALL records why the main path waits (R209). -/
def State.stall (s : State) (n why : Nat) : State := s.wrAll F.ENG_RA_STAT_STALL why (s.podsOf n)

/-- A program address as registers show it: a stream offset taken round its window. -/
def State.shown (s : State) (pod : Nat) (a : PAddr) : Nat := PAddr.num ⟨a.seg, s.winOff pod (s.seg pod a.seg) a.off⟩

/-- R136, R138: the position of the last vector before which every one has resolved; until a step starts, that of the last one (R135). -/
def State.vposShown (s : State) (n : Nat) : Nat :=
  let g := s.gang n
  match g.before with
  | some b => b.1
  | none => match g.flights with
    | [] => g.vpos - 1
    | f :: _ => f.pos - 1

/-- The program state that registers may show (R138, R186): that of the main path, or of its oldest unresolved branch, and the address
of the last committed word. -/
def Gang.shownAt (g : Gang) : Thread × PAddr :=
  match g.ckpts.find? (fun c => c.open_ && g.clearBefore c.place) with
  | none => (g.main, g.main.word)
  | some c => match c.kind with
    | .mtch _ _ _ _ _ (i :: _) => (i.th, c.word)
    | _ => (c.alt, c.word)

/-- R138, R162, R163: what registers show of the main path: the words that no unresolved branch stands before. The stream words that
it has fetched are the pods' own once no branch is unresolved (R239). -/
def State.publish (s : State) (n : Nat) : State :=
  let g := s.gang n
  if g.started then
    let t := g.shownAt
    let s := (s.wr F.SITE_PSTAT_LDEPTH t.1.loops.length n).wr F.SITE_PSTAT_CDEPTH t.1.calls.length n
    let clear := g.clearBefore g.seqNext wordEnd
    (s.podsOf n).foldl (fun s p =>
      let x := s.seg p g.main.word.seg
      let s := if clear ∧ x.kind = kdStream ∧ x.head < g.main.heads.at 0 g.main.word.seg
        then s.setSeg p g.main.word.seg { x with head := g.main.heads.at 0 g.main.word.seg } else s
      (s.wr F.ENG_PC_PC (s.shown p t.2) p).wr F.ENG_PM_STAT_CURSEG t.2.seg p) s
  else s

/-- Hold ticks of a gang are gaps (R132), counted apart where a launch was not allowed (R197); with GAP_FAIL the gap is a failing
vector. -/
def State.countGap (s : State) (n k : Nat) (blocked : Bool) (seq : Nat) : State :=
  let s := (s.podsOf n).foldl (fun s p =>
    let s := ((s.wr F.ENG_STAT_GAP 1 p).bump F.ENG_GAP_TICKS k p).pulse 0x06 p k
    if blocked then s.bump F.ENG_RA_HOLD_HOLD k p else s) s
  if s.on F.ENG_CTL_GAP_FAIL (s.lead n) then s.siteFail n seq (s.gang n).vpos else s

/-- A wait at a crossing ends with its gang: the hold ticks of a STALL have been gaps (R234). -/
def State.closeCross (s : State) (n : Nat) : State :=
  let g := s.gang n
  match g.cross with
  | some c =>
    if (match c.ur with | some u => u.1 == 3 | none => false) && decide (ahead s.now g.pinEnd > 0)
    then s.countGap n ((s.now - g.pinEnd).toNat / 1024) false g.seqNext else s
  | none => s

/-! ### The end of a step -/

/-- R349: at the end of a gang that leaves no husk, rails with EXIT ramp down at the slew of the profile
applied at the step's start. -/
def State.exitRails (s : State) (n : Nat) : State :=
  s.rampSite n ((s.railsOf n).filterMap (fun r =>
    if (s.rail r).exit ∧ s.railSt r ≠ rlOff ∧ s.railSt r ≠ rlTripped
    then some (r, 0, s.slewOf r (s.rail r).profSlew) else none))

/-- The run that a gang belongs to has one more site ended: 1 halted, 2 fenced, 3 engine error (R30). -/
def State.siteEnded (s : State) (n how : Nat) : State :=
  { s with runs := s.runs.map (fun r =>
      if r.sites.contains n && r.checked && !(r.ended.any (fun e => e.1 == n)) then
        { r with ended := r.ended ++ [(n, how)], lastT := s.now, memT := some s.now } else r) }

/-- What the end of a step does whichever way it ends (R154, R229): counting and logging
stop (R265), entries are due to rewind. -/
def State.endStep (s : State) (n : Nat) : State :=
  let s := s.evStopAll n
  let s := (s.pinsOf n).foldl (fun s q => s.setPin q { s.pin q with logOn := false, lg := [] }) s
  let g := s.gang n
  s.setGang n { g with
    cross := none, wait := none, sprout := none, ckpts := [], safes := [], retire := [], exh := [], brks := []
    shadowTo := none, prep := false, started := false, recent := [], dropped := none, used := [], rewindDue := true }

/-- R185, R217: queues and checkpoints emptied, side effects not committed discarded. Launched vectors stay. -/
def State.dropRunAhead (s : State) (n : Nat) : State :=
  let g := s.gang n
  s.setGang n { g with
    oq := [], seb := [], ckpts := [], sprout := none, wait := none, cross := none, held := none, safes := []
    stopReq := none, stopped := false, stepped := false, retire := [], exh := [], brks := [], dropped := none
    shadowTo := none, preempt := none }

/-- STOPPED, ATWORD and STOP cleared in the pods of a gang (R185). -/
def State.clearStopped (s : State) (n : Nat) : State :=
  let ps := s.podsOf n
  ((s.wrAll F.ENG_USTAT_STOPPED 0 ps).wrAll F.ENG_USTAT_ATWORD 0 ps).wrAll F.ENG_UCTL_STOP 0 ps

/-! ### Engine errors -/

/-- Error codes (R161, R195, R218, R247). -/
def erIllegal : Nat := 0x01
def erRsvd : Nat := 0x02
def erLockstep : Nat := 0x03
def erPeriod : Nat := 0x04
def erUnloaded : Nat := 0x05
def erCstkOvf : Nat := 0x06
def erCstkUnf : Nat := 0x07
def erLoopOvf : Nat := 0x08
def erLoopUnf : Nat := 0x09
def erLoopRet : Nat := 0x0A
def erMnest : Nat := 0x0B
def erBadAddr : Nat := 0x0C
def erUatom : Nat := 0x10
def erUstkOvf : Nat := 0x11
def erUstkUnf : Nat := 0x12
def erUlong : Nat := 0x13
def erUmismatch : Nat := 0x14
def erNano : Nat := 0x15
def erUparity : Nat := 0x16
def erRaParity : Nat := 0x20
def erUnderrun : Nat := 0x28
def erSegend : Nat := 0x29
def erStrmaddr : Nat := 0x2A
def erXkind : Nat := 0x2B

/-- Whether everything before a place in program order has been done at the pins (R161). -/
def Gang.drained (g : Gang) (q : Nat) (now : Stamp) : Bool :=
  g.clearBefore q wordEnd && g.oq.all (fun e => decide (q ≤ e.seq)) && g.flights.all (fun f => decide (q ≤ f.seq)) &&
  (match g.wait with | some w => decide (q ≤ w.seq) | none => true) && reached g.pinEnd now

/-- R161: an engine error halts a gang: state, code and address in its pods, the fail flag, the event, the ledger's ERROR entry. -/
def State.haltErr (s : State) (n : Nat) (h : HeldErr) : State :=
  let ps := s.podsOf n
  let s := (s.setGstate n stError).wrAll F.ENG_STAT_ERR h.code ps
  let s := ps.foldl (fun s p => s.wr F.ENG_PC_PC (s.shown p h.pc) p) s
  let s := s.wr F.SITE_PSTAT_FAIL 1 n
  let s := if h.code = erUnloaded then s.wrAll F.POD_TIM_STAT_UNLOADED 1 h.pods else s
  let s := s.raise (1025 + 2 * s.lead n) h.code
    [s.shown (s.lead n) h.pc + n * 2 ^ 32 + h.pod * 2 ^ 40] s.now
  let s := s.deviceEntry n 3 h.code (s.rd F.LEDG_BINS_ERROR) s.now
  let g := s.gang n
  let s := s.setGang n { g with
    held := none, oq := [], seb := g.seb.filter (fun e => decide (e.seq < h.seq)), stopReq := none, stopped := false }
  let s := (s.clearStopped n).measEndSite n
  ((s.endStep n).siteEnded n 3).exitRails n

/-- R161, R208: a held engine error halts the gang once everything before its word has completed. -/
def State.raiseErr (s : State) (n : Nat) : State :=
  match (s.gang n).held with
  | none => s
  | some h => if (s.gang n).started = false ∨ (s.gang n).drained h.seq s.now = false then s else s.haltErr n h

/-- R185, R174, R218: a parity error in a pod halts its gang at once, as an engine error does: what is posted is discarded, no further
vector is issued. A gang that has not started is halted when it starts. -/
def State.parityErr (s : State) (pod code : Nat) : State :=
  match s.siteOfPod pod with
  | none => s
  | some n =>
    let g := s.gang n
    let h : HeldErr := ⟨code, 0, g.main.word, pod, [pod]⟩
    if s.running n then ((s.closeCross n).dropRunAhead n).haltErr n h
    else if s.gstate n = stArmed then s.setGang n { g with held := some h }
    else s

/-- R161, R204, R208: an engine error on a word: a sprout stops before it, the main path holds it. `more`: the pods that it shows
in beside the one that it names. -/
def State.engineErr (s : State) (n : Nat) (p : Path) (code seq : Nat) (pc : PAddr) (pod : Nat) (more : List Nat := []) : State :=
  match p with
  | .sprout => s.stopSprout n 6
  | .main =>
    let g := s.gang n
    if g.held.isSome then s else (s.setGang n { g with held := some ⟨code, seq, pc, pod, pod :: more⟩ }).raiseErr n

/-! ### Aborts and husks -/

/-- R185: the gang of a site is aborted: nothing posted commits, no further vector is issued. -/
def State.abortGang (s : State) (n : Nat) : State :=
  ((((s.closeCross n).dropRunAhead n).clearStopped n).measEndSite n).endStep n

/-- Whether a gang has a step in progress: armed by an accepted STEP_RUN or running. -/
def State.inStep (s : State) (n : Nat) : Bool := s.running n

/-- R63, R120, R363: the drivers of a pin go to high impedance, its PMU path opens, its logging and the eye measurement of its pod
stop. -/
def State.tripPin (s : State) (q : Nat) : State :=
  let x := s.pin q
  let s := s.setPin q { x with tripped := true, drvNow := 0, drv := [], logOn := false, lg := [] }
  (if s.pmuConn q then s.pmuOpen q else s).eyeStop (q / 4)

/-- A rail goes to TRIPPED (R345, R363). -/
def State.tripRail (s : State) (r : Nat) : State :=
  (s.setRail r { s.rail r with offT := s.now, wait := none, regT := none, toOff := false, exit := false }).wr
    F.RAIL_STAT_STATE rlTripped r

/-- The cause bits [21:16] of SITE_FSTAT. -/
def State.causes (s : State) (n : Nat) : Nat :=
  s.rd F.SITE_FSTAT_RAILV n + 2 * s.rd F.SITE_FSTAT_RAILI n + 4 * s.rd F.SITE_FSTAT_PIN n
    + 8 * s.rd F.SITE_FSTAT_SOFT n + 16 * s.rd F.SITE_FSTAT_FAULT n + 32 * s.rd F.SITE_FSTAT_LINK n

/-- R28: commits of a site stamped at or after a trip, and not yet visible, are taken back; the site's entry for the
step is FENCED, also where its gang has halted with them. A LEDG that waits for a full ledger (R281) is taken back whatever its
stamp: its commit waits, so R27 discards it (DESIGN CHOICE, assumption 168). -/
def State.takeBack (s : State) (n : Nat) (stamp : Stamp) : State :=
  let late (e : LEnt) : Bool := e.site == n && (e.hold || decide (ahead e.stamp stamp ≥ 0))
  let dev := s.ledgq.any (fun e => late e && e.result ≥ 2)
  let g := s.gang n
  let s := s.setGang n { g with devEntry := g.devEntry && !dev }
  { s with
    ledgq := s.ledgq.filter (fun e => !late e)
    runs := s.runs.map (fun (r : StepRun) => if r.checked then
      { r with ended := r.ended.map (fun e => if e.1 = n then (n, 2) else e) } else r) }

/-- R363: the site becomes a husk with a trip stamp; its cause bits have been set. A site that is one already
only has those (R365). A step is in progress while the gang runs, or where its last ledger entry was committed no earlier than
the trip's stamp, be it visible by now (R28). `stands`: a parity error has halted the gang, its ERROR entry stands (R501). -/
def State.makeHusk (s : State) (n : Nat) (stamp : Stamp) (stands : Bool := false) : State :=
  if s.on F.SITE_FSTAT_HUSK n then s else
  let inStep := s.inStep n || !stands && (s.ledgq.any (fun e => e.site == n && decide (ahead e.stamp stamp ≥ 0))
    || (match (s.gang n).lastCommit with | some t => decide (ahead t stamp ≥ 0) | none => false))
  let armed := s.rd F.SITE_FSTAT_ARMSRC n
  let s := ((s.wr F.SITE_FSTAT_HUSK 1 n).wr F.SITE_FSTAT_INSTEP (ofBool inStep) n).bump F.SITE_FSTAT_FENCES 1 n
  let s := s.wrStamp F.SITE_FSTAMP_LO_FSTAMP_LO F.SITE_FSTAMP_HI_FSTAMP_HI stamp n
  let s := (s.pinsOf n).foldl (fun s q => s.tripPin q) s
  let s := (s.railsOf n).foldl (fun s r => s.tripRail r) s
  let armedRun := s.gstate n == stArmed
  let s := if inStep then (s.takeBack n stamp).deviceEntry n 2 0 (s.rd F.LEDG_BINS_FENCED) stamp else s
  let s := if inStep then s.siteEnded n 2 else s
  let s := if s.inStep n ∨ armedRun = true then s.abortGang n else (s.dropRunAhead n).measEndSite n
  let s := (s.setGstate n stHusk).cancelArms n
  let s := s.refreshArm n
  match s.railsOf n with
  | [] => s
  | r :: _ => s.raise (1538 + 3 * r) (s.causes n) [n + armed * 2 ^ 8 + ofBool inStep * 2 ^ 11] stamp

end Sys2Proof.Machine
end

