-- ==== Sys2Proof/Machine/Dispatching.lean ====
section
/-! DEFINITION. Dispatch of program words (R122 to R125, R132, R133, R164, R191 to R194), branch targets, the
side-effect buffer, conditions, prediction and the sprout (R200 to R204, R209). -/

namespace Sys2Proof.Machine

/-- Bits hi to lo set. -/
def mask (hi lo : Nat) : Nat := 2 ^ (hi + 1) - 2 ^ lo

/-- The opcode of a program word (R122). -/
def opOf (w : Nat) : Nat := bits w 63 58

/-- The opcodes of R124. -/
def opVec : Nat := 0x01
def opLoop : Nat := 0x04
def opEndl : Nat := 0x05
def opJmp : Nat := 0x08
def opCall : Nat := 0x09
def opRet : Nat := 0x0A
def opMatch : Nat := 0x0C
def opJfail : Nat := 0x0D
def opJpass : Nat := 0x0E
def opWaitt : Nat := 0x10
def opWaitev : Nat := 0x11
def opGsync : Nat := 0x12
def opSetlvl : Nat := 0x14
def opSetload : Nat := 0x15
def opCnt : Nat := 0x18
def opLogon : Nat := 0x1C
def opLogoff : Nat := 0x1D
def opMeas : Nat := 0x20
def opAwg : Nat := 0x21
def opPsafe : Nat := 0x28
def opLedg : Nat := 0x29
def opHalt : Nat := 0x3E
def opNop : Nat := 0x3F

/-- The opcodes of R124 in its order, which gives the factory routines their entries (R175). -/
def factoryOps : List Nat :=
  [opVec, opLoop, opEndl, opJmp, opCall, opRet, opMatch, opJfail, opJpass, opWaitt, opWaitev, opGsync, opSetlvl,
   opSetload, opCnt, opLogon, opLogoff, opMeas, opAwg, opPsafe, opLedg, opHalt, opNop]

/-- The field bits [57:0] of an opcode (R126, R139); the others are reserved. -/
def wordFields (op : Nat) : Nat :=
  if op = opVec then mask 47 0
  else if op = opLoop then mask 55 32
  else if op = opJmp then mask 57 56 + mask 21 0
  else if op = opCall then mask 21 0
  else if op = opMatch then mask 57 32 + mask 21 0
  else if op = opJfail ∨ op = opJpass then mask 57 26 + mask 21 0
  else if op = opWaitt then mask 57 57 + mask 47 0
  else if op = opWaitev then mask 56 40 + mask 31 0
  else if op = opGsync then mask 56 48 + mask 31 0
  else if op = opSetlvl then mask 3 0
  else if op = opSetload then mask 57 42 + mask 3 0
  else if op = opCnt then mask 57 55 + mask 53 40 + mask 31 0
  else if op = opLogon ∨ op = opLogoff then mask 3 0
  else if op = opMeas then mask 57 40 + mask 35 35 + mask 3 0
  else if op = opAwg then mask 57 54 + mask 52 48 + mask 21 0
  else if op = opLedg then mask 57 57 + mask 55 18
  else if op = opHalt then mask 1 0
  else if op = opNop then mask 0 0
  else 0

/-- The pod-local bits of an opcode (R126, R139). -/
def wordLocal (op : Nat) : Nat :=
  if op = opVec then mask 15 0
  else if op = opSetload then mask 57 42 + mask 3 0
  else if op = opLogon ∨ op = opLogoff ∨ op = opMeas then mask 3 0
  else 0

/-- Whether a field of a word is out of its range or unused and not 0 (R139, R304, R316). -/
def wordRange (w : Nat) : Bool :=
  let op := opOf w
  if op = opMatch then bits w 55 52 == 0
  else if op = opJfail ∨ op = opJpass then
    let cond := bits w 55 54
    let idx := bits w 53 50
    (cond == 1 && idx == 0) || (cond == 3 && decide (idx > 3)) || ((cond == 0 || cond == 2) && idx != 0)
      || (cond != 3 && bits w 49 26 != 0)
  else if op = opWaitev then decide (bits w 51 40 > 2303)
  else if op = opCnt then decide (bits w 57 55 ≥ 6) || (bits w 57 55 != 4 && bits w 51 40 != 0) || decide (bits w 51 40 > 2303)
  else if op = opMeas then
    decide (bits w 57 56 > 1) || decide (bits w 55 52 > 11)
      || decide (bits w 51 40 ≥ if bits w 57 56 = 0 then 512 else 256)
  else if op = opAwg then bits w 57 56 == 3
  else false

/-- The bits of a word outside a mask. -/
def outside (w m : Nat) : Nat := Nat.land w (2 ^ 58 - 1 - m)

/-- The first pod whose word differs from the first pod's in a control bit (R133), or breaks R122. -/
def wordsErr (ws : List (Nat × Nat)) : Option (Nat × Nat) :=
  match ws with
  | [] => none
  | (_, w0) :: _ =>
    let op := opOf w0
    let loc := if factoryOps.contains op then wordLocal op else mask 57 0
    match ws.find? (fun e => opOf e.2 != op || outside e.2 loc != outside w0 loc) with
    | some e => some (erLockstep, e.1)
    | none =>
      if factoryOps.contains op then
        match ws.find? (fun e => outside e.2 (wordFields op) != 0 || wordRange e.2) with
        | some e => some (erRsvd, e.1)
        | none => none
      else none

/-! ### Fetch -/

/-- R192, R193: the native word that a short word stands for, at its offset; `none`: NANO. -/
def Image.expand (im : Image) (short seg off : Nat) : Option Nat :=
  match im.nano[short % 512]? with
  | none => none
  | some nw =>
    let opnd := bits short 15 9
    let mode := bits nw 95 93
    let pos := bits nw 92 87
    let tpl := nw % 2 ^ 64
    if bits nw 86 64 ≠ 0 ∨ pos > 57 then none
    else if mode = 0 then some tpl
    else if mode = 1 then some (tpl - bits tpl (pos + 6) pos * 2 ^ pos + opnd * 2 ^ pos)
    else if mode = 2 then
      let f := bits tpl (pos + 15) pos
      some ((tpl - f * 2 ^ pos + (f + opnd) % 65536 * 2 ^ pos) % 2 ^ 64)
    else if mode = 3 then
      some (tpl - tpl % 2 ^ 22 + (off + ofSigned 16 (signed 7 opnd)) % 65536 + seg * 65536)
    else none

/-- What a fetch at an address gives. -/
inductive Fetch where
  | words (ws : List (Nat × Nat))
  | wait
  | cross
  | err (code pod : Nat)

/-- The program word, or the short word's native word, of a pod at an address (R191). -/
def State.wordAt (s : State) (pod : Nat) (a : PAddr) : Option Nat :=
  let x := s.seg pod a.seg
  let off := s.winOff pod x a.off
  if s.on F.ENG_UCTL_COMPAT pod then
    let short := bits (s.localWord pod x (off / 4)) (16 * (off % 4) + 15) (16 * (off % 4))
    (s.pod pod).image.expand short a.seg (off % 65536)
  else some (s.localWord pod x off)

/-- Whether an address is past the last word of its entry in a pod. -/
def State.pastEnd (s : State) (pod : Nat) (a : PAddr) : Bool :=
  let x := s.seg pod a.seg
  x.kind != kdStream && decide (a.off ≥ s.segUnits pod x)

/-- R133, R164: the words of every pod of a gang at an address. -/
def State.fetch (s : State) (n : Nat) (a : PAddr) : Fetch :=
  let ps := s.podsOf n
  if s.pastEnd (s.lead n) a then .cross else
  match ps.find? (fun p => s.pastEnd p a) with
  | some p => .err erLockstep p
  | none =>
    if ps.all (fun p => s.unitReady p (s.seg p a.seg) a.off) then
      match ps.find? (fun p => (s.wordAt p a).isNone) with
      | some p => .err erNano p
      | none => .words (ps.map (fun p => (p, (s.wordAt p a).getD 0)))
    else .wait

/-! ### A word being carried out -/

/-- A word at its dispatch: site, path, address, place in program order, the word of each pod. -/
structure Ctx where
  n : Nat
  p : Path
  a : PAddr
  seq : Nat
  ws : List (Nat × Nat)

/-- The word of the gang's lowest-numbered pod, which gives the control fields. -/
def Ctx.w (c : Ctx) : Nat := match c.ws with | [] => 0 | e :: _ => e.2

/-- The address after a word (R123). -/
def PAddr.succ (a : PAddr) : PAddr := ⟨a.seg, a.off + 1⟩

/-- The next of the slots of R194, four in every 15 ticks from the step's start, after a tick. -/
def nextSlot (start now : Stamp) : Stamp :=
  let r := (now - start).toNat / 1024
  let base := r - r % 15
  let q := r % 15
  after start (base + (if q < 4 then 4 else if q < 8 then 8 else if q < 12 then 12 else 15))

/-- A dispatch no earlier than a tick, and in compatibility mode no earlier than the slot after the last dispatch (R194). -/
def State.slotted (s : State) (n : Nat) (t last : Stamp) : Stamp :=
  if s.on F.ENG_UCTL_COMPAT (s.lead n) then later t (nextSlot (s.gang n).startT last) else t

/-- When the next word may be dispatched after a word of a given cost. -/
def State.nextDispatch (s : State) (n cost : Nat) : Stamp := s.slotted n (after s.now cost) s.now

/-- An entry that the main path of a running gang dispatches from is ACTIVE (R224); one dispatched from before the start becomes so
at the start. -/
def State.touch (s : State) (n : Nat) (a : PAddr) : State :=
  if s.running n then
    (s.podsOf n).foldl (fun s p => s.setSeg p a.seg { s.seg p a.seg with st := sgActive }) s
  else s.setGang n { s.gang n with used := a :: (s.gang n).used }

/-- A path has fetched a word: the stream words of its entry up to it have been fetched (R239). -/
def Thread.fetched (t : Thread) (a : PAddr) : Thread := { t with heads := t.heads.set 0 a.seg (max (t.heads.at 0 a.seg) (a.off + 1)) }

/-- The path not predicted of a checkpoint, from its first word; `none` where it meets an engine error. -/
def Ckpt.exitThread (c : Ckpt) : Thread :=
  { c.alt with pc := c.alt.pc.succ, mctr := none, mtarget := none, lastMatch := .matched }

/-! ### Branch targets -/

/-- R123, R227, R239: a branch target checked in every pod: the address continued at, or the error and its pod. `th` is the path
that branches, which a stream's head is of. -/
def State.target (s : State) (n : Nat) (th : Thread) (a t : PAddr) (jump : Bool) : Except (Nat × Nat) PAddr :=
  let bad := (s.podsOf n).findSome? (fun p =>
    let x := s.seg p t.seg
    if x.st ≠ sgUndef ∧ x.kind = kdWave then some (erXkind, p)
    else if x.fetchable = false then some (erBadAddr, p)
    else if x.kind = kdStream then (if jump && t.seg != a.seg then none else some (erStrmaddr, p))
    else if t.off > s.segUnits p x then some (erBadAddr, p) else none)
  match bad with
  | some e => .error e
  | none =>
    let x := s.seg (s.lead n) t.seg
    .ok (if x.kind = kdStream then ⟨t.seg, th.head x t.seg⟩ else t)

/-- R123, R142, R239: an address that RET or ENDL goes back to: its entry is READY or ACTIVE in every pod. -/
def State.backTarget (s : State) (n : Nat) (t : PAddr) : Except (Nat × Nat) PAddr :=
  match (s.podsOf n).find? (fun p => !(s.seg p t.seg).fetchable) with
  | some p => .error (erBadAddr, p)
  | none => .ok t

/-- R239: the target of a MATCH: within a stream entry a word still held, otherwise as any branch. -/
def State.matchTarget (s : State) (n : Nat) (th : Thread) (a t : PAddr) : Except (Nat × Nat) PAddr :=
  let lead := s.lead n
  let x := s.seg lead t.seg
  if x.fetchable = true ∧ x.kind = kdStream ∧ t.seg = a.seg then
    let u := max 1 (s.segUnits lead x)
    let back := (a.off % u + u - t.off % u) % u
    let k := a.off - back
    if back ≤ a.off ∧ k / max 1 (s.unitsPerGranule lead x) ≥ s.released lead t.seg then .ok ⟨t.seg, k⟩
    else .error (erStrmaddr, lead)
  else s.target n th a t false

/-! ### Queues -/

/-- Entries of a side-effect buffer that a list takes: each effect of the gang one in every pod, each effect of one pod one in that
pod; the fullest pod counts (R209). -/
def sebCount (l : List SebEntry) : Nat :=
  let l := l.filter (fun e => match e.eff with | .mend .. => false | _ => true)
  let own (p : Nat) : Nat := (l.filter (fun e => match e.pod with | some x => x.1 == p | none => false)).length
  (l.filter (fun e => e.pod.isNone)).length + (l.filterMap (·.pod)).foldl (fun m p => max m (own p.1)) 0

/-- Entries of the side-effect buffer in use, of its 32 (R209). -/
def Gang.sebUsed (g : Gang) : Nat := sebCount (g.seb ++ (match g.sprout with | some p => p.seb | none => []))

/-- The sprout is dropped to free its entries (R209). -/
def State.dropSprout (s : State) (n : Nat) : State :=
  let ps := s.podsOf n
  ((s.setGang n { s.gang n with sprout := none, dropped := (s.gang n).sprout.map (·.owner) }).wrAll F.ENG_RA_STAT_SPDROP 1 ps).wrAll F.ENG_RA_STAT_SPSTOP 7 ps

/-- R204, R209: room for k more side effects on a path: `.error` where the word waits. A full buffer discards a sprout that holds
entries in it. -/
def State.room (s : State) (n : Nat) (p : Path) (k : Nat) : Except State State :=
  let g := s.gang n
  match p with
  | .main =>
    if g.sebUsed + k ≤ 32 then .ok s
    else match g.sprout with
      | some sp =>
        if sp.seb = [] then .error s
        else
          let s := s.dropSprout n
          if (s.gang n).sebUsed + k ≤ 32 then .ok s else .error s
      | none => .error s
  | .sprout =>
    match g.sprout with
    | some sp => if sebCount sp.seb + k ≤ 8 ∧ g.sebUsed + k ≤ 32 then .ok s else .error s
    | none => .error s

/-- Side effects join a path's buffer. -/
def Gang.post (g : Gang) (p : Path) (es : List SebEntry) : Gang :=
  match p with
  | .main => { g with seb := g.seb ++ es }
  | .sprout => { g with sprout := g.sprout.map (fun x => { x with seb := x.seb ++ es }) }

/-- The output queue of a path. -/
def Gang.queue (g : Gang) (p : Path) : List OqEntry :=
  match p with
  | .main => g.oq
  | .sprout => match g.sprout with | some x => x.oq | none => []

def Gang.setQueue (g : Gang) (p : Path) (q : List OqEntry) : Gang :=
  match p with
  | .main => { g with oq := q }
  | .sprout => { g with sprout := g.sprout.map (fun x => { x with oq := q }) }

/-! ### Conditions -/

/-- The place in program order that a path's words before its own entries end at: a sprout's follow its word, of an armed MATCH
everything that the loop has run (R204). -/
def Gang.base (g : Gang) (p : Path) (q : Nat) : Nat :=
  match p, g.sprout with
  | .sprout, some x => if x.forMatch then q else x.owner
  | _, _ => q

/-- The vectors between two places in program order whose outcome is open, as the words of their lowest pod. -/
def Gang.pendingVecs (g : Gang) (p : Path) (q : Nat) (from_ : Nat := 0) : List Nat :=
  let b := g.base p q
  (g.flights.filter (fun f => decide (from_ ≤ f.seq ∧ f.seq < b))).map (·.vw)
    ++ (g.oq.filter (fun e => decide (from_ ≤ e.seq ∧ e.seq < b))).map (fun e => match e.words with | [] => 0 | x :: _ => x.2)
    ++ (match p with
        | .sprout => (g.queue .sprout).map (fun e => match e.words with | [] => 0 | x :: _ => x.2)
        | .main => [])

/-- The side effects before a place in program order that have not committed. -/
def Gang.pendingEffs (g : Gang) (p : Path) (q : Nat) (from_ : Nat := 0) : List Eff :=
  (g.seb.filter (fun e => decide (from_ ≤ e.seq ∧ e.seq < g.base p q))).map (·.eff)
    ++ (match p with | .sprout => (match g.sprout with | some x => x.seb.map (·.eff) | none => []) | .main => [])

/-- Whether an effect clears the fail state. -/
def Eff.clears : Eff → Bool
  | .fclr c => c
  | .ledg _ _ _ _ _ _ _ c => c
  | _ => false

/-- The place of the last clear of the fail state before a place in program order that has not committed. -/
def Gang.lastClear (g : Gang) (p : Path) (q : Nat) : Option Nat :=
  ((g.seb.filter (fun e => decide (e.seq < g.base p q) && e.eff.clears)).getLast?).map (·.seq)

/-- A PMU measurement of the site that has not ended and was started by a word before a place (R325). -/
def State.openPmu (s : State) (n q : Nat) : List PmuMeas :=
  s.pmus.filter (fun m => m.site == some n && decide (m.seq < q))

/-- Setup entries of the PMU measurements still to start. -/
def State.toStart (s : State) (effs : List Eff) : List PmuSetup :=
  effs.filterMap (fun e => match e with | .meas 0 _ k _ _ => s.pmuEntry k | _ => none)

/-- Whether a failing vector may still enter the fail state between two places in program order for a cause other than a vector: a
timeout, an exhaustion, a measurement's limit, an FMARK (R137, R146, R149, R151, R325). -/
def State.failOpen (s : State) (n : Nat) (p : Path) (q from_ : Nat) : Bool :=
  let g := s.gang n
  let q := g.base p q
  let effs := g.pendingEffs p q from_
  effs.any (fun e => match e with | .fmark => true | .mend x f _ => x && f | _ => false)
    || (match g.wait with | some w => decide (from_ ≤ w.seq ∧ w.seq < q) && w.failto | none => false)
    || (s.openPmu n q).any (fun m => decide (from_ ≤ m.seq) && (s.pmuE m).limfail) || (s.toStart effs).any (·.limfail)
    || g.exh.any (fun e => decide (from_ ≤ e.seq ∧ e.seq < q) && e.failto)
    || g.ckpts.any (fun c => c.open_ && decide (c.place < q) && (match c.kind with | .mtch _ f _ _ _ _ => f | _ => false))

/-- Whether a tag's result before a place may still change for a cause other than a vector. -/
def State.tagOpen (s : State) (n : Nat) (p : Path) (q idx : Nat) : Bool :=
  let g := s.gang n
  let q := g.base p q
  let effs := g.pendingEffs p q
  (match g.wait with | some w => decide (w.seq < q) && w.tag == idx | none => false)
    || effs.any (fun e => match e with | .tagset t _ => t == idx | _ => false)
    || (s.openPmu n q).any (fun m => (s.pmuE m).ftag == idx) || (s.toStart effs).any (fun e => e.ftag == idx)

/-- R144, R200: a condition as it stands before a place in program order: 0 PASS, 1 FAIL, 2 NONE; `none` while
its value can still change. With `pred` the vectors whose outcome is open are taken to pass (R202). -/
def State.evalCond (s : State) (n : Nat) (p : Path) (th : Thread) (q cond idx imm : Nat) (pred : Bool := false) : Option Nat :=
  let g := s.gang n
  if cond = 0 then
    let after_ (k : Nat) : Bool := g.fails.any (fun f => decide (k < f.1 ∧ f.1 < q))
    let cleared := g.lastClear p q
    let from_ := match cleared with | some k => k + 1 | none => 0
    let sprClear := match p, g.sprout with | .sprout, some x => x.seb.any (fun e => e.eff.clears) | _, _ => false
    let failed := match cleared with
      | some k => after_ k
      | none => decide (s.rd F.SITE_FCOUNT_FCOUNT n > (g.failsAfter q).length) || (s.on F.SITE_PSTAT_FAIL n && (g.failsAfter q).isEmpty)
    let more := s.failOpen n p q from_ || (!pred && (g.pendingVecs p q from_).any (fun v => !vwNofail v))
    if sprClear then none else if failed then some 1 else if more then none else some 0
  else if cond = 1 then
    if s.tagOpen n p q idx then none
    else if (g.pendingVecs p q).any (fun v => vwTag v == idx) then (if pred then some 0 else none)
    else some (if s.tagRes n idx = 1 then 0 else if s.tagRes n idx = 2 then 1 else 2)
  else if cond = 2 then
    if g.exh.any (fun e => decide (e.seq < g.base p q)) then none else some (match th.lastMatch with | .exhausted => 1 | _ => 0)
  else
    if (g.pendingEffs p q).any (fun e => match e with | .cnt _ i _ _ => i == idx | _ => false) then none else
    match Store.get (fun _ => none) g.evcnt idx with
    | some c =>
      if p = .main ∧ g.known q = true ∧ reached (after (g.edge q) 64) s.now = true then
        some (if c.count (some (g.edge q)) ≥ imm then 1 else 0)
      else none
    | none => some (if s.gc n idx ≥ imm then 1 else 0)

/-! ### Prediction -/

/-- R203: the predictor counter of a branch address. -/
def predIdx (a : PAddr) : Nat := Nat.xor (a.off % 256) (a.seg * 4 % 256) % 256

def State.predictor (s : State) (n : Nat) (a : PAddr) : Nat := (s.pod (s.lead n)).pred.at 1 (predIdx a)

/-- A resolved branch updates its counter. -/
def State.learn (s : State) (n : Nat) (a : PAddr) (taken : Bool) : State :=
  let l := s.lead n
  let v := s.predictor n a
  s.setPod l { s.pod l with pred := (s.pod l).pred.set 1 (predIdx a) (if taken then min 3 (v + 1) else v - 1) }

/-- A JFAIL or JPASS carried out one way: the thread after it, or its error (R143, R144). -/
def State.condThread (s : State) (n : Nat) (th : Thread) (a : PAddr) (taken : Bool) (popl : Nat) (t : PAddr) :
    Except (Nat × Nat) Thread :=
  if taken then
    match th.popLoops popl with
    | none => .error (erLoopUnf, s.lead n)
    | some th =>
      match s.target n th a t false with
      | .error e => .error e
      | .ok b => .ok { th with pc := b }
  else .ok { th with pc := a.succ }

/-- The path that a checkpoint did not predict, from its first word. -/
def State.altPath (s : State) (n : Nat) (c : Ckpt) : Except (Nat × Nat) Thread :=
  match c.kind with
  | .cond _ _ _ _ popl t => s.condThread n c.alt c.word (!c.taken) popl t
  | .mtch .. => .ok c.exitThread
  | .user .. => .ok c.alt

/-- R204: with SPR_EN at 1 a sprout is begun for the oldest speculative word, unless it was dropped (R209); user words get none
(assumption 12). -/
def State.ensureSprout (s : State) (n : Nat) : State :=
  let g := s.gang n
  if s.on F.ENG_RA_CTL_SPR_EN (s.lead n) = false ∨ g.sprout.isSome = true then s else
  match g.ckpts.find? (fun c => c.open_) with
  | none => s
  | some c =>
    match c.kind with
    | .user .. => s
    | _ =>
      if g.dropped = some c.seq then s else
      let isM := match c.kind with | .mtch .. => true | _ => false
      let s := s.wrAll F.ENG_RA_STAT_SPSTOP 0 (s.podsOf n)
      match s.altPath n c with
      | .ok th => s.setGang n { g with sprout := some { owner := c.seq, th := { th with nextDisp := s.now }, oq := [], seb := [], stop := 0, forMatch := isM } }
      | .error _ => (s.setGang n { g with sprout := some { owner := c.seq, th := c.alt, oq := [], seb := [], stop := 6, forMatch := isM } }).stopSprout n 6

/-! ### Dispatch -/

/-- Micro-ops of the factory routine of an opcode (R175). -/
def routineLen (op : Nat) : Nat :=
  if op = opLedg then 4 else if op = opMeas then 3
  else if [opCall, opRet, opSetlvl, opSetload, opAwg, opWaitt, opWaitev, opGsync].contains op then 2 else 1

/-- The micro-addresses of the factory routine of an opcode (R175). -/
def routineAddrs (op : Nat) : List Nat :=
  let k := factoryOps.findIdx (· == op)
  (List.range (routineLen op)).map (fun i => 4 * k + i)

/-- R164: what a factory word leaves in every engine: W, NPC, an empty micro-stack, the micro-PC of its routine's last micro-op. -/
def Ctx.loaded (c : Ctx) (cpu : NStore MicroSt) (npc : PAddr) : NStore MicroSt :=
  c.ws.foldl (fun (m : NStore MicroSt) (e : Nat × Nat) =>
    m.set {} e.1 { m.at {} e.1 with
      w := e.2, npc := npc, ustack := [], region := false
      upc := if factoryOps.contains (opOf c.w) then ((routineAddrs (opOf c.w)).getLast?).getD 0 else (m.at {} e.1).upc }) cpu

/-- R186: the micro-ops of a factory routine at which a pod has a breakpoint. -/
def State.breaks (s : State) (c : Ctx) : List (Nat × Nat) :=
  match c.p with
  | .sprout => []
  | .main => (c.ws.filter (fun e => s.on F.ENG_UCTL_BRK_EN e.1 && factoryOps.contains (opOf c.w)
      && (routineAddrs (opOf c.w)).contains (s.rd F.ENG_UBRK_UADDR e.1))).map (fun e => (c.seq, e.1))

/-- The thread of a word being carried out, once it has been: the next word is dispatched after `cost` cycles. -/
def State.doneThread (s : State) (c : Ctx) (th : Thread) (cost : Nat) : Thread :=
  { th with
    word := c.a, wordSeq := c.seq, inRoutine := false, gangOps := [], nextDisp := s.nextDispatch c.n cost, dispT := s.now
    cpu := c.loaded th.cpu th.pc }.fetched c.a

/-- Its gang, with the thread and the word's place in program order taken in. -/
def State.doneGang (s : State) (c : Ctx) (th : Thread) (cost : Nat) : Gang :=
  let g := s.gang c.n
  { g.setThread c.p (s.doneThread c th cost) with
    seqNext := max g.seqNext (c.seq + 1), stepped := g.stepped || g.stopReq == some 2, brks := g.brks ++ s.breaks c }

/-- A word has been dispatched and carried out: its path goes on with `th` after `cost` cycles. -/
def State.done (s : State) (c : Ctx) (th : Thread) (cost : Nat) : State :=
  let s := s.setGang c.n (s.doneGang c th cost)
  let s := (s.podsOf c.n).foldl (fun s p => s.pulse 0x03 p) s
  let s := match c.p with | .main => s.touch c.n c.a | .sprout => s
  (((s.fix c.n).ensureSprout c.n).publish c.n).raiseErr c.n

/-- A word that posts side effects and goes on at its successor. -/
def State.postWord (s : State) (c : Ctx) (th : Thread) (effs : List Eff) (region : Bool) (cost : Nat) : State :=
  match s.room c.n c.p effs.length with
  | .error s => (match c.p with | .main => s.stall c.n 2 | .sprout => s.stopSprout c.n 5)
  | .ok s =>
    let es := effs.zipIdx.map (fun e => SebEntry.mk c.seq e.2 (if region then some (c.seq * wordEnd) else none) none none e.1 none none)
    (s.setGang c.n ((s.gang c.n).post c.p es)).done c { th with pc := c.a.succ } cost

/-- A stop has been requested, and the present dispatch is its point: nothing further is dispatched (R182, R217). -/
def Gang.stopDue (g : Gang) : Bool :=
  match g.stopReq with
  | none => false
  | some k => k != 2 || g.stepped

/-- R178: whether the pods of a gang hold one image and one mode; the pod that does not. -/
def State.imageMismatch (s : State) (n : Nat) : Option Nat :=
  let l := s.lead n
  (s.podsOf n).find? (fun p => s.rd F.ENG_UIMG_IMG_ID p != s.rd F.ENG_UIMG_IMG_ID l
    || s.rd F.ENG_UCTL_COMPAT p != s.rd F.ENG_UCTL_COMPAT l
    || (s.on F.ENG_UCTL_COMPAT p && !s.on F.ENG_USTAT_NANO_OK p))

/-- Whether a path may dispatch its next word now; a sprout only in a tick in which the main path has not dispatched (R204), a gang
that has not started only while its pods match (R178). -/
def State.canDispatch (s : State) (n : Nat) (p : Path) : Bool :=
  let g := s.gang n
  let st := s.gstate n
  g.prep && !g.stopped && g.held.isNone && (g.started || (s.imageMismatch n).isNone) && (st == stArmed || st == stRun || st == stWait || st == stBarrier) &&
  (match p with
   | .main => !g.main.inRoutine && reached g.main.nextDisp s.now && g.cross.isNone && !g.stopDue
   | .sprout => match g.sprout with
     | some x => x.stop == 0 && !x.th.inRoutine && reached x.th.nextDisp s.now && g.main.dispT != s.now
     | none => false)

/-- Whether a path falls through into the next granule of a stream entry (R240). -/
def State.granuleEdge (s : State) (n : Nat) (th : Thread) : Bool :=
  let l := s.lead n
  let x := s.seg l th.pc.seg
  x.kind == kdStream && th.word.seg == th.pc.seg && th.pc.off == th.word.off + 1
    && th.pc.off % max 1 (s.unitsPerGranule l x) == 0

/-- One word of a path is dispatched where its opcode is accepted: engine errors of R122, R125, R133 and R192
first, else what `act` makes of it. A fetch across the end of an entry stops a sprout (R204). -/
def State.dispatch (s : State) (n : Nat) (p : Path) (compat : Bool) (accept : Nat → Bool) (act : Ctx → Thread → State → State) :
    State :=
  if s.canDispatch n p = false ∨ s.on F.ENG_UCTL_COMPAT (s.lead n) ≠ compat then s else
  match (s.gang n).thread p with
  | none => s
  | some th =>
    let q := (s.gang n).seqNext
    if p = .sprout ∧ s.granuleEdge n th = true then s.stopSprout n 4 else
    match s.fetch n th.pc with
    | .cross => match p with | .sprout => s.stopSprout n 4 | .main => s
    | .wait => match p with | .sprout => s.stopSprout n 4 | .main => s
    | .err code pod => s.engineErr n p code q th.pc pod
    | .words ws =>
      let c : Ctx := ⟨n, p, th.pc, q, ws⟩
      if accept (opOf c.w) = false then s else
      match wordsErr ws with
      | some (code, pod) => s.engineErr n p code q th.pc pod
      | none => act c th s

/-- One native word of one opcode of R124. -/
def State.dispatchOp (s : State) (n : Nat) (p : Path) (op : Nat) (act : Ctx → Thread → State → State) : State :=
  s.dispatch n p false (· == op) act

end Sys2Proof.Machine
end

