-- ==== Sys2Proof/Machine/Program.lean ====
section
/-! DEFINITION. The program words of R124: what the dispatch of each does (chapter 05, with the routines of
R175 carried out whole), the illegal opcode (R125), user opcodes (R164 to R166) and short words (R191 to R194). -/

namespace Sys2Proof.Machine

/-- An engine error of a word being carried out. -/
def Ctx.error (c : Ctx) (code pod : Nat) (s : State) (more : List Nat := []) : State := s.engineErr c.n c.p code c.seq c.a pod more

/-- The TARGET of a word. -/
def targetOf (w : Nat) : PAddr := PAddr.ofNum (w % 2 ^ 22)

/-- A timing set of a pod. -/
def State.tset (s : State) (pod k : Nat) : Option TSet := Store.get (fun _ => none) (s.pod pod).tsets k

/-- R100, R133: whether a vector's timing set is missing in a pod, or its period differs among the pods. -/
def State.vecErr (s : State) (n k : Nat) : Option (Nat × Nat) :=
  let ps := s.podsOf n
  match ps.find? (fun p => (s.tset p k).isNone) with
  | some p => some (erUnloaded, p)
  | none =>
    let per (p : Nat) : Nat := match s.tset p k with | some t => t.period | none => 0
    match ps.find? (fun p => per p != per (s.lead n)) with
    | some p => some (erPeriod, p)
    | none => none

/-- The pods of a gang that lack a timing set (R100). -/
def State.lackSet (s : State) (n k : Nat) : List Nat := (s.podsOf n).filter (fun p => (s.tset p k).isNone)

/-- Room for one more VEC in a path's queue: 64 entries, a sprout's 16 (R209, R204). -/
def State.oqRoom (s : State) (n : Nat) (p : Path) : Bool :=
  decide (((s.gang n).queue p).length < match p with | .main => 64 | .sprout => 16)

/-- What a full queue does. -/
def State.oqFull (s : State) (n : Nat) (p : Path) : State :=
  match p with | .main => s.stall n 1 | .sprout => s.stopSprout n 1

/-- VEC, R140: its vectors join the output queue. -/
def vecEffect (c : Ctx) (th : Thread) (s : State) : State :=
  match s.vecErr c.n (vwTset c.w) with
  | some (code, pod) => c.error code pod s (s.lackSet c.n (vwTset c.w))
  | none =>
    if s.oqRoom c.n c.p = false then s.oqFull c.n c.p else
    let e : OqEntry := ⟨c.seq, 0, c.ws.map (fun x => (x.1, x.2 % 2 ^ 32)), bits c.w 47 32 + 1, s.now⟩
    let g := s.gang c.n
    (s.setGang c.n (g.setQueue c.p (g.queue c.p ++ [e]))).done c { th with pc := c.a.succ } 1

/-- LOOP, R141. -/
def loopEffect (c : Ctx) (th : Thread) (s : State) : State :=
  if th.loops.length ≥ 4 then c.error erLoopOvf (s.lead c.n) s else
  s.done c { th with pc := c.a.succ, loops := ⟨c.a.succ, bits c.w 55 32, th.calls.length⟩ :: th.loops } 1

/-- ENDL, R141. -/
def endlEffect (c : Ctx) (th : Thread) (s : State) : State :=
  match th.loops with
  | [] => c.error erLoopUnf (s.lead c.n) s
  | e :: t =>
    if e.count = 0 then s.done c { th with pc := c.a.succ, loops := t } 1
    else match s.backTarget c.n e.addr with
      | .error x => c.error x.1 x.2 s
      | .ok b => s.done c { th with pc := b, loops := { e with count := e.count - 1 } :: t } 1

/-- JMP, R143. -/
def jmpEffect (c : Ctx) (th : Thread) (s : State) : State :=
  match th.popLoops (bits c.w 57 56) with
  | none => c.error erLoopUnf (s.lead c.n) s
  | some th =>
    match s.target c.n th c.a (targetOf c.w) true with
    | .error e => c.error e.1 e.2 s
    | .ok b => s.done c { th with pc := b } 1

/-- CALL, R142. -/
def callEffect (c : Ctx) (th : Thread) (s : State) : State :=
  if th.calls.length ≥ 16 then c.error erCstkOvf (s.lead c.n) s else
  match s.target c.n th c.a (targetOf c.w) true with
  | .error e => c.error e.1 e.2 s
  | .ok b => s.done c { th with pc := b, calls := c.a.succ :: th.calls } 2

/-- RET, R142. -/
def retEffect (c : Ctx) (th : Thread) (s : State) : State :=
  match th.calls with
  | [] => c.error erCstkUnf (s.lead c.n) s
  | a :: t =>
    let openHere := match th.loops with | [] => false | e :: _ => e.depth == th.calls.length
    if openHere then c.error erLoopRet (s.lead c.n) s
    else match s.backTarget c.n a with
      | .error x => c.error x.1 x.2 s
      | .ok b => s.done c { th with pc := b, calls := t } 2

/-- The thread after a MATCH that leaves its loop: by a match, or by exhaustion (R146). -/
def Thread.leaveMatch (th : Thread) (a : PAddr) (how : LastMatch) : Thread :=
  { th with pc := a.succ, mctr := none, mtarget := none, lastMatch := how }

/-- A MATCH that has ended at its dispatch: its end joins the side-effect buffer, to show in program order. `show_`: by a match with
no shadow (R212). -/
def State.matchEnds (s : State) (c : Ctx) (th : Thread) (exh failto show_ : Bool) : State :=
  let g := s.gang c.n
  let g := match c.p with
    | .main => { g with ckpts := g.ckpts.filter (fun k => k.open_ || k.word != c.a) }
    | .sprout => g
  (s.setGang c.n (g.post c.p [SebEntry.mk c.seq 0 none none none (.mend exh failto show_) none none])).done c
    (th.leaveMatch c.a (if exh then .exhausted else .matched)) 1

/-- The sprout's entries take the place of squashed ones (R213), renumbered after everything dispatched. -/
def Sprout.renumber (x : Sprout) (k : Nat) : Sprout :=
  { x with
    oq := x.oq.map (fun e => { e with seq := e.seq + k })
    seb := x.seb.map (fun e => { e with seq := e.seq + k, region := e.region.map (· + k * wordEnd) })
    th := { x.th with wordSeq := x.th.wordSeq + k } }

/-- The main path continues on a path that was not predicted, decided in tick `d`: the sprout where one stands for it, else the
thread itself, 4 or 10 ticks later; at once where the path was the one predicted (R213). -/
def State.redirect (s : State) (n : Nat) (th : Thread) (useSprout predicted : Bool) (d : Stamp) : State :=
  let g := s.gang n
  let next (k : Nat) : Stamp := s.slotted n (after d (if predicted then 0 else k)) g.main.dispT
  match g.sprout with
  | some x =>
    let x := x.backTo
    if useSprout ∧ (x.oq ≠ [] ∨ x.seb ≠ [] ∨ x.th.pc ≠ th.pc) then
      let y := x.renumber g.seqNext
      s.setGang n { g with
        main := { y.th with nextDisp := later y.th.nextDisp (next 4) }
        oq := g.oq ++ y.oq
        seb := g.seb ++ y.seb
        sprout := none
        seqNext := g.seqNext + g.seqNext }
    else s.setGang n { g with main := { th with nextDisp := next 10 }, sprout := none }
  | none => s.setGang n { g with main := { th with nextDisp := next 10 } }

/-- Whether a path that starts from another state than a sprout's word stands for the same routine registers and stacks (R201,
R214): only then does the sprout take its place. -/
def Thread.same (a b : Thread) : Bool :=
  let regs (t : Thread) : List (Nat × NStore Nat × Bool × Bool × Bool) := t.cpu.map (fun e => (e.1, e.2.u, e.2.z, e.2.n, e.2.c))
  regs a == regs b && a.loops == b.loops && a.calls == b.calls

/-- The shadow's length shown at an exit by match (R212), and whether the counter ended it (R211). -/
def State.showShadow (s : State) (n iter : Nat) (early : Bool) : State :=
  let ps := s.podsOf n
  (s.wrAll F.ENG_RA_SHADOW_ITER iter ps).wrAll F.ENG_RA_SHADOW_EARLY (ofBool early) ps

/-- MATCH within a shadow whose cut had not been dispatched when the loop decided PASS in tick `d` (R210, R211). The next iteration
could start no earlier than `d` + 48, since none of it has been launched, so this boundary is the cut: the MATCH decides nothing
and leaves the loop. -/
def matchShadow (c : Ctx) (th : Thread) (d : Stamp) (k : Nat) (s : State) : State :=
  let g := s.gang c.n
  let ctr := match th.mctr with | some m => m.1 | none => 0
  let own := g.ckpts.find? (fun k => match k.kind with | .mtch .. => k.word == c.a | _ => false)
  let s := s.setGang c.n { g with
    shadowTo := none
    ckpts := g.ckpts.filter (fun k => match k.kind with | .mtch .. => k.word != c.a | _ => true) }
  let s := s.showShadow c.n k (ctr == 0)
  let s := s.matchEnds c th false false false
  let out := (s.gang c.n).main
  match (s.gang c.n).sprout with
  | some x => if x.forMatch then
      s.redirect c.n out (match own with | some o => th.same o.alt && x.owner == o.seq | none => false) false d else s
  | none => s

/-- The result of a MATCH's tag before it, where it is known (R200). -/
def State.matchTag (s : State) (n : Nat) (p : Path) (th : Thread) (q tag : Nat) : Option Nat := s.evalCond n p th q 1 tag 0

/-- MATCH, R146, R201, R202, R210. The loop path is computed as the main path and the exit as the sprout,
whatever HINT says, so that the shadow's vectors come from the main path (assumption 13). -/
def matchEffect (c : Ctx) (th : Thread) (s : State) : State :=
  let g := s.gang c.n
  let tag := bits c.w 55 52
  let failto := hasBit c.w 56
  let limit := bits c.w 51 32
  let other := match th.mctr with | some m => m.2 != c.a | none => false
  if other then c.error erMnest (s.lead c.n) s else
  match c.p, g.shadowTo with
  | .main, some (d, k) => matchShadow c th d k s
  | _, _ =>
    let ctr := match th.mctr with | some m => m.1 | none => limit
    match s.matchTag c.n c.p th c.seq tag with
    | some 0 => s.matchEnds c th false false true
    | some _ =>
      if ctr = 0 then s.matchEnds c th true failto false else
      match s.matchTarget c.n th c.a (targetOf c.w) with
      | .error e => c.error e.1 e.2 s
      | .ok b => s.done c { th with pc := b, mctr := some (ctr - 1, c.a), mtarget := some b } 1
    | none =>
      match c.p with
      | .sprout => s.stopSprout c.n 2
      | .main =>
        let iter : MatchIter := ⟨c.seq, none, th⟩
        let mine (k : Ckpt) : Bool := match k.kind with | .mtch .. => k.word == c.a | _ => false
        if ctr = 0 then
          (s.setGang c.n { g with exh := g.exh ++ [⟨c.seq, tag, failto, none⟩] }).done c (th.leaveMatch c.a .none) 1
        else if g.ckpts.any mine = false ∧ g.ckpts.length ≥ 4 then s.stall c.n 3
        else
          match s.matchTarget c.n th c.a (targetOf c.w) with
          | .error e => c.error e.1 e.2 s
          | .ok b =>
            let add (k : Ckpt) : Ckpt :=
              match k.kind with
              | .mtch h f t l a its => if k.word = c.a then { k with kind := .mtch h f t l a (its ++ [iter]) } else k
              | _ => k
            let cks := if g.ckpts.any mine then g.ckpts.map add
              else g.ckpts ++ [Ckpt.mk c.seq (.mtch (hasBit c.w 57) failto tag limit (targetOf c.w) [iter]) true c.a th]
            (s.setGang c.n { g with ckpts := cks }).done c
              { th with pc := b, mctr := some (ctr - 1, c.a), mtarget := some b } 1

/-- JFAIL and JPASS, R144, R200 to R202. -/
def condEffect (isFail : Bool) (c : Ctx) (th : Thread) (s : State) : State :=
  let w := c.w
  let cond := bits w 55 54
  let idx := bits w 53 50
  let imm := bits w 49 26
  let popl := bits w 57 56
  let t := targetOf w
  if (s.gang c.n).started = false then s else
  match s.evalCond c.n c.p th c.seq cond idx imm with
  | some v =>
    let taken := decide (v = if isFail then 1 else 0)
    match s.condThread c.n th c.a taken popl t with
    | .error e => c.error e.1 e.2 s
    | .ok th => (s.learn c.n c.a taken).done c th 1
  | none =>
    match c.p with
    | .sprout => s.stopSprout c.n 2
    | .main =>
      let g := s.gang c.n
      let mode := s.rd F.ENG_RA_CTL_PMODE (s.lead c.n)
      if mode = 3 then s.stall c.n 4
      else if g.ckpts.length ≥ 4 then s.stall c.n 3
      else
        let taken := if mode = 0 then decide (s.predictor c.n c.a ≥ 2) else decide (mode = 2)
        let ck : Ckpt := ⟨c.seq, .cond isFail cond idx imm popl t, taken, c.a, th⟩
        let s := s.setGang c.n { g with ckpts := g.ckpts ++ [ck] }
        match s.condThread c.n th c.a taken popl t with
        | .error e =>
          (s.done c th 1).engineErr c.n .main e.1 (c.seq + 1) c.a e.2
        | .ok th => s.done c th 1

/-- A word that waits at the pins: a wait joins the gang, one at a time (assumption 14). -/
def waitWord (c : Ctx) (th : Thread) (kind : WaitKind) (tag : Nat) (failto : Bool) (tmo : Nat) (s : State) : State :=
  match c.p with
  | .sprout => s.stopSprout c.n 3
  | .main =>
    let g := s.gang c.n
    if g.wait.isSome then s else
    let th := { th with pc := c.a.succ }
    let after_ := { th with word := c.a, wordSeq := c.seq, gangOps := [], cpu := c.loaded th.cpu c.a.succ, dispT := s.now }.fetched c.a
    (s.setGang c.n { g with wait := some ⟨c.seq, kind, tag, failto, tmo, none, none, false, 0, after_⟩ }).done c th 2

/-- WAITT, R148. -/
def waittEffect (c : Ctx) (th : Thread) (s : State) : State :=
  waitWord c th (.time (hasBit c.w 57) (bits c.w 47 0)) 0 false 0 s

/-- WAITEV, R149. -/
def waitevEffect (c : Ctx) (th : Thread) (s : State) : State :=
  waitWord c th (.event (bits c.w 51 40) none) (bits c.w 55 52) (hasBit c.w 56) (bits c.w 31 0) s

/-- GSYNC, R150. -/
def gsyncEffect (c : Ctx) (th : Thread) (s : State) : State :=
  waitWord c th (.barrier (bits c.w 51 48) none) (bits c.w 55 52) (hasBit c.w 56) (bits c.w 31 0) s

/-- SETLVL, R152. -/
def setlvlEffect (c : Ctx) (th : Thread) (s : State) : State := s.postWord c th [.lvl (bits c.w 3 0)] false 2

/-- SETLOAD, R152. -/
def setloadEffect (c : Ctx) (th : Thread) (s : State) : State :=
  s.postWord c th [.load (c.ws.map (fun e => (e.1, bits e.2 55 42, bits e.2 57 56, bits e.2 3 0)))] false 2

/-- CNT, R154. -/
def cntEffect (c : Ctx) (th : Thread) (s : State) : State :=
  s.postWord c th [.cnt (bits c.w 57 55) (bits c.w 53 52) (bits c.w 51 40) (bits c.w 31 0)] false 1

/-- LOGON and LOGOFF, R153. -/
def logEffect (on : Bool) (c : Ctx) (th : Thread) (s : State) : State :=
  s.postWord c th [.log on (c.ws.map (fun e => (e.1, bits e.2 3 0)))] false 1

/-- MEAS, R155. -/
def measEffect (c : Ctx) (th : Thread) (s : State) : State :=
  let w := c.w
  let dst := bits w 55 52
  let eff : Eff := .meas (bits w 57 56) dst (bits w 51 40) (hasBit w 35) (c.ws.map (fun e => (e.1, bits e.2 3 0)))
  if hasBit w 35 = false then s.postWord c th [eff] false 3 else
  match c.p with
  | .sprout => s.stopSprout c.n 3
  | .main =>
    if (s.gang c.n).wait.isSome then s else
    match s.room c.n c.p 1 with
    | .error s => s.stall c.n 2
    | .ok s =>
      let g := s.gang c.n
      let th := { th with pc := c.a.succ }
      let after_ := { th with word := c.a, wordSeq := c.seq, gangOps := [], cpu := c.loaded th.cpu c.a.succ, dispT := s.now }.fetched c.a
      (s.setGang c.n { g.post c.p [SebEntry.mk c.seq 0 none none none eff none none] with
        wait := some ⟨c.seq, .meas dst, 0, false, 0, none, none, false, 1, after_⟩ }).done c th 3

/-- AWG, R156. -/
def awgEffect (c : Ctx) (th : Thread) (s : State) : State :=
  s.postWord c th [.awg (bits c.w 57 56) (bits c.w 55 54) (bits c.w 52 48) (bits c.w 21 0)] false 2

/-- PSAFE, R158: a safe point of the main path; it has no effect while no pre-emption takes it. -/
def psafeEffect (c : Ctx) (th : Thread) (s : State) : State :=
  match c.p with
  | .sprout => s.stopSprout c.n 3
  | .main =>
    let g := s.gang c.n
    let th := { th with pc := c.a.succ }
    let at_ := { th with word := c.a, wordSeq := c.seq, cpu := c.loaded th.cpu c.a.succ }.fetched c.a
    (s.setGang c.n { g with safes := g.safes ++ [⟨c.seq + 1, 0, none, at_, false⟩] }).done c th 1

/-- LEDG, R159: the entry and the clearing of the fail state, bound in one region; its routine leaves W[49:18] and W[57:50] in U1
and U2 of every engine (R175). -/
def ledgEffect (c : Ctx) (th : Thread) (s : State) : State :=
  let w := c.w
  let th := { th with cpu := c.ws.foldl (fun (m : NStore MicroSt) (e : Nat × Nat) =>
    m.set {} e.1 { m.at {} e.1 with u := ((m.at {} e.1).u.set 0 1 (bits e.2 49 18)).set 0 2 (bits e.2 57 50) }) th.cpu }
  s.postWord c th
    [.ledg (bits w 55 44) (bits w 43 36) (bits w 35 28) (bits w 27 24) (bits w 23 20) (hasBit w 19) (hasBit w 18) (hasBit w 57),
     .fclr (hasBit w 57)] true 4

/-- Whether everything before the end of a gang's program has been done: vectors driven and resolved (R145), waits over, side effects
committed, measurements ended, no ledger entry of the site held (R160, R281). -/
def State.allDone (s : State) (n : Nat) : Bool :=
  let g := s.gang n
  g.ckpts.all (fun c => !c.open_) && g.oq.isEmpty && g.flights.isEmpty && g.wait.isNone && g.exh.isEmpty && reached g.pinEnd s.now && g.seb.isEmpty
    && g.meas.isEmpty && s.ledgq.all (fun e => !(e.site == n && e.hold))

/-- R160: the gang of a site halts. A crossing whose first word is the HALT retires its entry with it (R228). -/
def State.haltGang (s : State) (n : Nat) (attn : Bool) (addr : Nat) : State :=
  let g := s.gang n
  let s := s.setGstate n stHalted
  let s := if attn then s.raise (s.attnSrc n) 1 [addr + n * 2 ^ 32] s.now else s
  let s := if g.ledgDone = false ∧ s.on F.LEDG_CFG_NONE_EN = true
    then (s.deviceEntry n 4 0 (s.rd F.LEDG_BINS_NONE) g.pinEnd).setGang n
      { (s.deviceEntry n 4 0 (s.rd F.LEDG_BINS_NONE) g.pinEnd).gang n with lastCommit := some g.pinEnd } else s
  let s := s.measEndSite n
  let s := (s.gang n).retire.foldl (fun s (e : Nat × Nat) => s.retire (e.1 / 64) (e.1 % 64)) s
  let g := s.gang n
  let s := s.setGang n { g with stopReq := none, stopped := false, preempt := none, retire := [] }
  (((s.clearStopped n).endStep n).siteEnded n 1).exitRails n

/-- R160: with PARK at 1 the drivers of a site go to their off states. -/
def State.park (s : State) (n : Nat) : State :=
  (s.pinsOf n).foldl (fun s q => if s.rd F.PIN_CFG_USE q = 1 ∧ s.rd F.PIN_CFG_DRV_EN q = 1 ∧ (s.pin q).tripped = false
    then s.forceDrv q (s.offState q) else s) s

/-- The gang has reached the boundary tick of a place: nothing before it is open at the pins, and no pre-emption takes a safe point
before it (R158, R205). -/
def Gang.atBoundary (g : Gang) (q : Nat) (now : Stamp) : Bool :=
  g.started && g.known q && g.clearBefore q wordEnd && g.wait.isNone && reached g.pinEnd now && g.safePoint.isNone

/-- HALT, R160: drivers park at the boundary tick, and the gang halts once all before it is done. -/
def haltEffect (c : Ctx) (th : Thread) (s : State) : State :=
  match c.p with
  | .sprout => s.stopSprout c.n 3
  | .main =>
    let s := s.touch c.n c.a
    if (s.gang c.n).atBoundary c.seq s.now = false then s else
    let s := if hasBit c.w 0 then s.park c.n else s
    if s.allDone c.n = false then s else
    let s := (s.setGang c.n { s.gang c.n with
      main := { th with word := c.a, wordSeq := c.seq, cpu := c.loaded th.cpu c.a.succ } }).publish c.n
    s.haltGang c.n (hasBit c.w 1) (s.shown (s.lead c.n) c.a)

/-- NOP, R160. -/
def nopEffect (c : Ctx) (th : Thread) (s : State) : State :=
  if hasBit c.w 0 then s.postWord c th [.attn 2 (s.shown (s.lead c.n) c.a)] false 1
  else s.done c { th with pc := c.a.succ } 1

/-- The user routine of an opcode in the gang's image: its micro-address (R164, R187). -/
def State.userEntry (s : State) (n op : Nat) : Option Nat :=
  match (s.pod (s.lead n)).image.entries[op]? with
  | some e => if hasBit e 31 ∧ ¬factoryOps.contains op then some (e % 2048) else none
  | none => none

/-- ILLEGAL, R125. -/
def illegalEffect (c : Ctx) (_ : Thread) (s : State) : State := c.error erIllegal (s.lead c.n) s

/-- A user opcode, R164: every pod starts its routine; U registers and flags are kept. -/
def userEffect (c : Ctx) (th : Thread) (s : State) : State :=
  match s.userEntry c.n (opOf c.w) with
  | none => illegalEffect c th s
  | some upc =>
    let cpu := c.ws.foldl (fun (m : NStore MicroSt) e =>
      m.set {} e.1 { m.at {} e.1 with
        active := true
        done := false
        upc := upc
        ustack := []
        w := e.2
        npc := c.a.succ
        region := false
        regionOps := 0
        regionCycles := 0
        regNo := 0
        commitPt := true
        opIdx := 0
        podIx := 0
        waited := 0
        waitFrom := none
        ready := s.now }) th.cpu
    let g := s.gang c.n
    let th0 := th
    let th := { th with
      word := c.a, wordSeq := c.seq, inRoutine := true, gangOps := [], cpu := cpu, dispT := s.now
      vposAt := g.vpos + ((g.oq.filter (fun (e : OqEntry) => decide (e.seq < c.seq))).map OqEntry.rpt).sum }.fetched c.a
    let g := { g.setThread c.p th with seqNext := max g.seqNext (c.seq + 1) }
    let g := match c.p with
      | .main => g
      | .sprout => { g with sprout := g.sprout.map (fun x => { x with at0 := th0 }) }
    let s := s.setGang c.n g
    let s := (s.podsOf c.n).foldl (fun s p => s.pulse 0x03 p) s
    match c.p with | .main => s.touch c.n c.a | .sprout => s

/-- A word by its opcode, through the entry table (R164, R175). -/
def wordEffect (c : Ctx) (th : Thread) (s : State) : State :=
  let op := opOf c.w
  if op = opVec then vecEffect c th s else if op = opLoop then loopEffect c th s
  else if op = opEndl then endlEffect c th s else if op = opJmp then jmpEffect c th s
  else if op = opCall then callEffect c th s else if op = opRet then retEffect c th s
  else if op = opMatch then matchEffect c th s else if op = opJfail then condEffect true c th s
  else if op = opJpass then condEffect false c th s else if op = opWaitt then waittEffect c th s
  else if op = opWaitev then waitevEffect c th s else if op = opGsync then gsyncEffect c th s
  else if op = opSetlvl then setlvlEffect c th s else if op = opSetload then setloadEffect c th s
  else if op = opCnt then cntEffect c th s else if op = opLogon then logEffect true c th s
  else if op = opLogoff then logEffect false c th s else if op = opMeas then measEffect c th s
  else if op = opAwg then awgEffect c th s else if op = opPsafe then psafeEffect c th s
  else if op = opLedg then ledgEffect c th s else if op = opHalt then haltEffect c th s
  else if op = opNop then nopEffect c th s else userEffect c th s

end Sys2Proof.Machine
end

