-- ==== Sys2Proof/Machine/Micro.lean ====
section
/-! DEFINITION. Micro-operations (R167 to R180): operand formats, ALU, sequencing, program stacks, reads of site
state, side effects and waits of user routines. Factory routines are carried out whole at dispatch. -/

namespace Sys2Proof.Machine

/-! ### Operand fields (R167, R169) -/

def uUop (m : Nat) : Nat := bits m 31 26
def uCl (m : Nat) : Nat := bits m 25 24
def uA (m : Nat) : Bool := hasBit m 23
def uC (m : Nat) : Bool := hasBit m 22
def uE (m : Nat) : Bool := hasBit m 21
def uRd (m : Nat) : Nat := bits m 20 17
def uRa (m : Nat) : Nat := bits m 16 13
def uRb (m : Nat) : Nat := bits m 12 9
def uImm9 (m : Nat) : Nat := bits m 8 0
def uImm17 (m : Nat) : Nat := bits m 16 0
def uKsub (m : Nat) : Nat := bits m 20 19
def uKra (m : Nat) : Nat := bits m 18 15

/-- A U register; U0 reads 0 (R170). -/
def MicroSt.reg (x : MicroSt) (k : Nat) : Nat := if k = 0 then 0 else x.u.at 0 k

/-- A write of a U register; U0 ignores it (R170). -/
def MicroSt.setReg (x : MicroSt) (k v : Nat) : MicroSt :=
  if k = 0 then x else { x with u := x.u.set 0 k (v % 2 ^ 32) }

/-- src of format R: rb when imm9 is 0, else imm9 sign-extended (R169). -/
def MicroSt.src (x : MicroSt) (m : Nat) : Nat :=
  if uImm9 m = 0 then x.reg (uRb m) else ofSigned 32 (signed 9 (uImm9 m))

/-- Cycles of a micro-op (R167, R168). -/
def MicroSt.cycLen (x : MicroSt) (m : Nat) : Nat := if uCl m = 3 then x.reg 15 % 256 + 1 else uCl m + 1

/-- Flags Z and N of a result; C is the carry or borrow given (assumption 15). -/
def MicroSt.zn (x : MicroSt) (v : Nat) : MicroSt := { x with z := v % 2 ^ 32 == 0, n := hasBit v 31 }

/-- ADD, SUB, AND, OR, XOR (R171): rd and the flags. C is the carry out of ADD, the borrow of SUB, clear after
a logical operation. -/
def MicroSt.alu (x : MicroSt) (m op : Nat) : MicroSt :=
  let a := x.reg (uRa m)
  let b := x.src m
  let v := if op = 4 then (a + b) % 2 ^ 32 else if op = 5 then (a + 2 ^ 32 - b) % 2 ^ 32
    else if op = 6 then Nat.land a b else if op = 7 then Nat.lor a b else Nat.xor a b
  let c := if op = 4 then decide (a + b ≥ 2 ^ 32) else if op = 5 then decide (a < b) else false
  { (x.setReg (uRd m) v).zn v with c := c }

/-- CMP: the flags of ra − src (R171). -/
def MicroSt.cmp (x : MicroSt) (m : Nat) : MicroSt :=
  let a := x.reg (uRa m)
  let b := x.src m
  { x.zn ((a + 2 ^ 32 - b) % 2 ^ 32) with c := decide (a < b) }

/-- SHL and SHR by src[4:0] (R171): Z and N set, C kept. -/
def MicroSt.shift (x : MicroSt) (m : Nat) (left : Bool) : MicroSt :=
  let a := x.reg (uRa m)
  let k := x.src m % 32
  let v := if left then a * 2 ^ k % 2 ^ 32 else a / 2 ^ k
  (x.setReg (uRd m) v).zn v

/-- FLD: a field of W; bits above bit 63 read 0 (R171). -/
def MicroSt.fld (x : MicroSt) (m : Nat) : MicroSt :=
  let lsb := bits m 16 11
  let width := bits m 10 6 + 1
  x.setReg (uRd m) (x.w % 2 ^ 64 / 2 ^ lsb % 2 ^ width)

/-- UBR conditions (R171). -/
def MicroSt.ubr (x : MicroSt) (k : Nat) : Bool :=
  if k = 0 then true else if k = 1 then x.z else if k = 2 then !x.z else if k = 3 then x.n else if k = 4 then !x.n
  else if k = 5 then x.c else if k = 6 then !x.c else false

/-! ### One micro-op -/

/-- A micro-op being carried out: site, path, pod, thread, the op, the place in program order of its word. -/
structure MCtx where
  n : Nat
  p : Path
  pod : Nat
  th : Thread
  m : Nat
  seq : Nat

/-- What a micro-op comes to: it goes on with a new machine state, waits, or halts the gang. -/
inductive MRes where
  | go (x : MicroSt) (s : State)
  | wait (s : State)
  | err (code : Nat)

/-- The micro-op at an engine's micro-PC: of the user area (R174). -/
def State.microAt (s : State) (pod upc : Nat) : Option Nat :=
  if upc < 0x400 then none else (s.pod pod).image.uops[upc - 0x400]?

/-- The parts of R180 that a micro-op breaks: more than 8 SEFX, a WAIT, SAFEPT, GHALT, UCALL or URET, more than
64 cycles, an end within a region. A micro-op that opens a region counts from 0. -/
def MicroSt.regionErr (x : MicroSt) (m : Nat) : Bool :=
  let inside := x.region || uA m
  let sefx := (if x.region then x.regionOps else 0) + ofBool (uUop m == 0x1C)
  let cyc := (if x.region then x.regionCycles else 0) + x.cycLen m
  let after := if uA m then !x.region else x.region
  inside && (decide (sefx > 8) || decide (cyc > 64)
    || [0x11, 0x12, 0x1D, 0x1F, 0x20].contains (uUop m) || (uE m && after))

/-- The atomic region that a micro-op's side effect belongs to, numbered within its word (R180). -/
def MicroSt.regionOf (x : MicroSt) (m seq : Nat) : Option Nat :=
  if x.region || uA m then some (seq * wordEnd + (if x.region then x.regNo else x.regNo + 1)) else none

/-- Region, commit point, time and micro-PC after a micro-op whose effect has been applied (R168, R180, R181). -/
def MicroSt.advance (x0 x : MicroSt) (m : Nat) (jump : Option Nat) (now : Stamp) : MicroSt :=
  let open_ := if uA m then !x0.region else x0.region
  let inside := x0.region || uA m
  let len := x0.cycLen m
  { x with
    upc := (match jump with | some k => k | none => x0.upc + 1) % 2048
    region := open_
    regNo := if uA m && !x0.region then x0.regNo + 1 else x0.regNo
    regionOps := if inside then (if x0.region then x0.regionOps else 0) + ofBool (uUop m == 0x1C) else 0
    regionCycles := if inside then (if x0.region then x0.regionCycles else 0) + len else 0
    commitPt := uC m && !inside
    done := uE m
    ready := after now len }

/-- Issue cost of a routine so far, in cycles: the time since its dispatch less that spent within WAIT micro-ops after their first
cycle (R165). -/
def Thread.spent (t : Thread) (pod : Nat) (now : Stamp) : Nat :=
  let x := t.micro pod
  (now - t.dispT).toNat / 1024 - x.waited - (match x.waitFrom with | some f => (now - f).toNat / 1024 | none => 0)

/-- R179: whether a routine has run longer than its gang's limit. -/
def State.pastLimit (s : State) (n : Nat) (t : Thread) : Bool :=
  t.inRoutine && (s.podsOf n).any (fun p => decide (t.spent p s.now > (s.rd F.ENG_UCTL_ULIM (s.lead n) + 1) * 64))

/-- All pods of a gang have reached E: the next word is dispatched at NPC, which must be one, with the same gang-scope operations
done (R164, R177). -/
def State.routineEnd (s : State) (n : Nat) (p : Path) : State :=
  let g := s.gang n
  match g.thread p with
  | none => s
  | some th =>
    let ps := s.podsOf n
    if ps.all (fun q => (th.micro q).done) = false then s else
    let npc := (th.micro (s.lead n)).npc
    match ps.find? (fun q => (th.micro q).npc != npc || (th.micro q).opIdx != th.gangOps.length) with
    | some q => s.engineErr n p erLockstep th.wordSeq th.word q
    | none =>
      match (if npc = th.word.succ then (.ok npc : Except (Nat × Nat) PAddr) else
          if th.calls.contains npc || (th.loops.map (·.addr)).contains npc then s.backTarget n npc
          else s.target n th th.word npc false) with
      | .error e => s.engineErr n p e.1 th.wordSeq th.word e.2
      | .ok npc =>
        let last := ps.foldl (fun t q => later t (th.micro q).ready) s.now
        let cpu := ps.foldl (fun (m : NStore MicroSt) q => m.set {} q { m.at {} q with active := false }) th.cpu
        let th := { th with pc := npc, inRoutine := false, gangOps := [], cpu := cpu, nextDisp := s.slotted n last th.dispT }
        let g := { g.setThread p th with stepped := g.stepped || g.stopReq == some 2 }
        (((s.setGang n g).fix n).publish n).ensureSprout n

/-- One micro-op of an engine on a path, where its UOP is `uop` (R168, R171). -/
def State.micro (s : State) (pod : Nat) (p : Path) (uop : Nat) (act : MCtx → MicroSt → State → MRes)
    (jump : MicroSt → Nat → Option Nat) : State :=
  match s.siteOfPod pod with
  | none => s
  | some n =>
    let g := s.gang n
    match g.thread p with
    | none => s
    | some th =>
      let x := th.micro pod
      if !g.prep || s.gstate n == stSaved || !th.inRoutine || !x.active || x.done || g.stopped || g.held.isSome || !reached x.ready s.now
          || (p == .sprout && !((g.sprout.map (fun sp => sp.stop == 0)).getD false)) then s else
      match s.microAt pod x.upc with
      | none => s
      | some m =>
        if uUop m ≠ uop then s else
        if s.pastLimit n th then s.engineErr n p erUlong th.wordSeq th.word (s.lead n) else
        if x.regionErr m then s.engineErr n p erUatom th.wordSeq th.word pod else
        match act ⟨n, p, pod, th, m, th.wordSeq⟩ x s with
        | .wait s => s
        | .err code => s.engineErr n p code th.wordSeq th.word pod
        | .go y s =>
          let g := s.gang n
          match g.thread p with
          | none => s
          | some th =>
            let y := x.advance y m (jump x m) s.now
            let brk := p == .main && s.on F.ENG_UCTL_BRK_EN pod && s.rd F.ENG_UBRK_UADDR pod == x.upc
            let g := g.setThread p (th.setMicro pod y)
            let s := s.setGang n { g with
              stepped := g.stepped || g.stopReq == some 2
              brks := if brk then g.brks ++ [(th.wordSeq, pod)] else g.brks }
            if uE m then s.routineEnd n p else s

/-- A micro-op that only changes the engine's own registers. -/
def State.microPure (s : State) (pod : Nat) (p : Path) (uop : Nat) (f : MicroSt → Nat → MicroSt) : State :=
  s.micro pod p uop (fun c x s => .go (f x c.m) s) (fun _ _ => none)

/-! ### Gang-scope micro-ops (R172, R177) -/

/-- A gang-scope micro-op: the first pod of the gang to reach it does it; the others must do the same, and take
its result. -/
def gangOp (c : MCtx) (x : MicroSt) (s : State) (kind a b : Nat) (first : State → Except Nat (Option (Nat × State)))
    (fin : Nat → MicroSt → MicroSt) : MRes :=
  match c.th.gangOps[x.opIdx]? with
  | some o =>
    if o.kind ≠ kind ∨ o.a ≠ a ∨ o.b ≠ b then .err erLockstep
    else .go { fin o.res x with opIdx := x.opIdx + 1 } s
  | none =>
    match first s with
    | .error code => .err code
    | .ok none => .wait s
    | .ok (some (r, s)) =>
      let g := s.gang c.n
      match g.thread c.p with
      | none => .wait s
      | some th =>
        .go { fin r x with opIdx := x.opIdx + 1 }
          (s.setGang c.n (g.setThread c.p { th with gangOps := th.gangOps ++ [⟨kind, a, b, r⟩] }))

/-- The thread of a micro-op's path changed. -/
def State.onThread (s : State) (c : MCtx) (f : Thread → Thread) : State :=
  let g := s.gang c.n
  match g.thread c.p with
  | none => s
  | some th => s.setGang c.n (g.setThread c.p (f th))

/-- LSTK (R171); the operands that the pods must share are those its sub-operation uses (R177): push, decrement (result 1 where it was exhausted, with the count left at 0: DESIGN CHOICE, assumption 169), pop. -/
def lstkAct (c : MCtx) (x : MicroSt) (s : State) : MRes :=
  let v := x.reg (uKra c.m)
  let sub := uKsub c.m
  gangOp c x s (0x1500 + sub) (if sub = 0 then v else if sub = 2 then v % 4 else 0) (if sub = 0 then PAddr.num x.npc else 0) (fun s =>
    if sub = 0 then
      (if c.th.loops.length ≥ 4 then .error erLoopOvf
       else .ok (some (0, s.onThread c (fun t => { t with loops := ⟨x.npc, v, t.calls.length⟩ :: t.loops }))))
    else if sub = 1 then
      match c.th.loops with
      | [] => .error erLoopUnf
      | e :: t =>
        if e.count = 0 then .ok (some (1, s))
        else .ok (some (0, s.onThread c (fun h => { h with loops := { e with count := e.count - 1 } :: t })))
    else if sub = 2 then
      match c.th.popLoops (v % 4) with
      | none => .error erLoopUnf
      | some h => .ok (some (0, s.onThread c (fun _ => h)))
    else .ok (some (0, s)))
    (fun r x => if sub = 1 then { x with z := r == 1 } else x)

/-- CSTK (R171): push NPC, pop into NPC. -/
def cstkAct (c : MCtx) (x : MicroSt) (s : State) : MRes :=
  let sub := uKsub c.m
  gangOp c x s (0x1600 + sub) (if sub = 0 then PAddr.num x.npc else 0) 0 (fun s =>
    if sub = 0 then
      (if c.th.calls.length ≥ 16 then .error erCstkOvf
       else .ok (some (0, s.onThread c (fun t => { t with calls := x.npc :: t.calls }))))
    else if sub = 1 then
      match c.th.calls with
      | [] => .error erCstkUnf
      | a :: t =>
        let openHere := match c.th.loops with | [] => false | e :: _ => e.depth == c.th.calls.length
        if openHere then .error erLoopRet
        else .ok (some (a.seg + 64 * a.off + 1, s.onThread c (fun h => { h with calls := t })))
    else .ok (some (0, s)))
    (fun r x => if sub = 1 ∧ r > 0 then { x with npc := ⟨(r - 1) % 64, (r - 1) / 64⟩ } else x)

/-- MCTR (R171): load and arm for the word at PC, decrement, set idle. -/
def mctrAct (c : MCtx) (x : MicroSt) (s : State) : MRes :=
  let v := x.reg (uKra c.m)
  let sub := uKsub c.m
  gangOp c x s (0x1700 + sub) (if sub = 0 then v else 0) 0 (fun s =>
    let other := match c.th.mctr with | some e => e.2 != c.th.word | none => false
    if sub = 0 then
      (if other then .error erMnest else .ok (some (0, s.onThread c (fun t => { t with mctr := some (v, t.word), mtarget := none }))))
    else if sub = 1 then
      (if other then .error erMnest else
       let k := match c.th.mctr with | some e => e.1 | none => 0
       .ok (some (ofBool (k == 0), s.onThread c (fun t => { t with mctr := some (k - 1, t.word) }))))
    else if sub = 2 then .ok (some (0, s.onThread c (fun t => { t with mctr := none, mtarget := none })))
    else .ok (some (0, s)))
    (fun r x => if sub = 1 then { x with z := r == 1 } else x)

/-! ### Reads of site state (R170, R202) -/

/-- A read of unresolved vectors on the main path: a checkpoint at the read is taken, or the word's widened (R201). It holds the
whole routine as it stood before the read, to which a wrong prediction returns (DESIGN CHOICE, assumption 31). -/
def State.userCkpt (s : State) (c : MCtx) (ix : Nat) (onFail : Bool) (tags : Nat) : Option State :=
  match c.p with
  | .sprout => none
  | .main =>
    let g := s.gang c.n
    let mine (k : Ckpt) : Bool := k.seq == c.seq && (match k.kind with | .user .. => true | _ => false)
    if g.ckpts.any mine then
      some (s.setGang c.n { g with ckpts := g.ckpts.map (fun k => match k.kind with
        | .user f t b i => if k.seq = c.seq then { k with kind := .user (f || onFail) (Nat.lor t tags) b i } else k
        | _ => k) })
    else if g.ckpts.length ≥ 4 then none
    else some (s.setGang c.n { g with ckpts := g.ckpts ++ [⟨c.seq, .user onFail tags 0 ix, true, c.th.word, c.th⟩] })

/-- A read that cannot be predicted now: the sprout stops, the main path waits (R202, R209). -/
def readWaits (c : MCtx) (s : State) : MRes :=
  match c.p with
  | .sprout => .wait (s.stopSprout c.n 2)
  | .main => .wait (s.stall c.n (if (s.gang c.n).ckpts.length ≥ 4 then 3 else 4))

/-- A value read that depends on vectors not resolved is read as though they pass (R202). -/
def specRead (c : MCtx) (x : MicroSt) (s : State) (pending onFail : Bool) (tags : Nat) (fin : MicroSt → MicroSt) : MRes :=
  if pending then
    match s.userCkpt c x.opIdx onFail tags with
    | some s => .go (fin x) s
    | none => readWaits c s
  else .go (fin x) s

/-- The tag results with every open vector taken as PASS. -/
def State.predTags (s : State) (n : Nat) (vs : List Nat) : Nat :=
  vs.foldl (fun r v =>
    let t := vwTag v
    if t = 0 then r else r - bits r (2 * t + 1) (2 * t) * 4 ^ t + 4 ^ t) (s.rd F.SITE_TAGRES_TAGRES n * 4)

/-- GETS (R170). Site state that depends on open vectors alone is read as though they pass; what depends on a wait, a clear, a
measurement or a counter that has not committed waits (R202). -/
def getsAct (c : MCtx) (x : MicroSt) (s : State) : MRes :=
  let g := s.gang c.n
  let sel := uImm9 c.m
  let put (v : Nat) (x : MicroSt) : MicroSt := x.setReg (uRd c.m) v
  let vs := g.pendingVecs c.p c.seq
  let effs := g.pendingEffs c.p c.seq
  if sel = 0 then .go (put (PAddr.num c.th.word) x) s
  else if sel = 1 then .go (put (PAddr.num x.npc) x) s
  else if sel = 2 then
    match c.p with
    | .sprout => readWaits c s
    | .main => .go (put (if c.th.vposAt = 0 then 2 ^ 32 - 1 else (c.th.vposAt - 1) % 2 ^ 32) x) s
  else if g.started = false ∧ ((3 ≤ sel ∧ sel ≤ 0x0A) ∨ 0x20 ≤ sel) then readWaits c s
  else if sel = 3 ∨ sel = 4 then
    if effs.any Eff.clears || s.failOpen c.n c.p c.seq 0 then readWaits c s else
    specRead c x s (vs.any (fun v => !vwNofail v)) true 0
      (put (if sel = 3 then s.rd F.SITE_FCOUNT_FCOUNT c.n else s.rd F.SITE_PSTAT_FAIL c.n))
  else if sel = 5 then
    if (List.range 16).any (fun t => t != 0 && s.tagOpen c.n c.p c.seq t) then readWaits c s else
    specRead c x s (vs.any (fun v => vwTag v != 0)) false 0xFFFE (put (s.predTags c.n vs))
  else if 6 ≤ sel ∧ sel ≤ 9 then
    if effs.any (fun e => match e with | .cnt _ i _ _ => i == sel - 6 | _ => false) then readWaits c s
    else match Store.get (fun _ => none) g.evcnt (sel - 6) with
      | none => .go (put (s.gc c.n (sel - 6)) x) s
      | some k =>
        if c.p = .main ∧ g.known c.seq = true ∧ reached (after (g.edge c.seq) 64) s.now = true then
          .go (put (k.count (some (g.edge c.seq))) x) s
        else readWaits c s
  else if sel = 0x0A then
    if g.meas ≠ [] ∨ effs.any (fun e => match e with | .meas .. => true | _ => false) then readWaits c s
    else .go (put (s.rd F.SITE_VVAL_VVALID c.n) x) s
  else if sel = 0x0B then .go (put (match c.th.loops with | [] => 0 | e :: _ => e.count) x) s
  else if sel = 0x0C then .go (put c.th.calls.length x) s
  else if sel = 0x0D then .go (put (match c.th.mctr with | some k => k.1 | none => 0) x) s
  else if sel = 0x0E then .go (put c.pod x) s
  else if sel = 0x0F then .go (put (s.lead c.n) x) s
  else if sel = 0x10 then
    if c.p = .main ∧ g.known c.seq = true then
      .go (put (min (2 ^ 32 - 1) ((g.edge c.seq - g.startT).toNat / 1024)) x) s else readWaits c s
  else if 0x20 ≤ sel ∧ sel ≤ 0x2B then
    let k := sel - 0x20
    let open_ := g.measInfo.any (fun e => g.meas.contains e.1 && e.2.2 == k)
    if open_ ∨ effs.any (fun e => match e with | .meas _ d _ _ _ => d == k | _ => false) then readWaits c s
    else .go (put (if s.vvalid c.n k then s.rd F.SITE_V_V c.n k else 0) x) s
  else .go x s

/-- COND (R171): rd and Z. -/
def condAct (c : MCtx) (x : MicroSt) (s : State) : MRes :=
  let cond := bits c.m 16 15
  let idx := bits c.m 14 11
  let fin (v : Nat) (x : MicroSt) : MicroSt := { x.setReg (uRd c.m) v with z := v == 0 }
  if (s.gang c.n).started = false then readWaits c s else
  match s.evalCond c.n c.p c.th c.seq cond idx (x.reg (bits c.m 10 7)) with
  | some v => .go (fin v x) s
  | none =>
    match s.evalCond c.n c.p c.th c.seq cond idx 0 true with
    | some v => if cond ≤ 1 then specRead c x s true (cond == 0) (if cond = 1 then 2 ^ idx else 0) (fin v) else readWaits c s
    | none => readWaits c s

/-! ### Vectors and side effects of user routines -/

/-- ISSUE (R171, R177): each pod gives its vector word; control fields must agree. -/
def issueAct (c : MCtx) (x : MicroSt) (s : State) : MRes :=
  let own := hasBit c.m 20
  let vw := if own then x.reg (uRa c.m) else x.w % 2 ^ 32
  let rpt := (if own then x.reg (uRb c.m) % 65536 else bits x.w 47 32) + 1
  let g := s.gang c.n
  match c.th.gangOps[x.opIdx]? with
  | some o =>
    if o.kind ≠ 0x1400 ∨ o.a ≠ vw / 65536 ∨ o.b ≠ rpt then .err erLockstep else
    let q := (g.queue c.p).map (fun f => if f.seq = c.seq ∧ f.ix = x.opIdx then
      { f with words := f.words.filter (fun w => w.1 != c.pod) ++ [(c.pod, vw)] } else f)
    .go { x with opIdx := x.opIdx + 1 } (s.setGang c.n (g.setQueue c.p q))
  | none =>
    match s.vecErr c.n (vwTset vw) with
    | some (code, pod) => .wait (s.engineErr c.n c.p code c.seq c.th.word pod (s.lackSet c.n (vwTset vw)))
    | none =>
      if s.oqRoom c.n c.p = false then .wait (s.oqFull c.n c.p) else
      let s := s.setGang c.n (g.setQueue c.p (g.queue c.p ++ [OqEntry.mk c.seq x.opIdx [(c.pod, vw)] rpt s.now]))
      .go { x with opIdx := x.opIdx + 1 }
        (s.onThread c (fun t => { t with gangOps := t.gangOps ++ [⟨0x1400, vw / 65536, rpt, 0⟩] }))

/-- The gang effect that a SEFX kind posts (R172), or RSVD. -/
def sefxEff (kind ra rb : Nat) : Except Nat Eff :=
  if kind = 0x00 then .ok (.lvl (ra % 16))
  else if kind = 0x04 then
    let op := bits ra 25 23
    let src := bits ra 19 8
    if op ≥ 6 ∨ src > 2303 ∨ (op ≠ 4 ∧ src ≠ 0) then .error erRsvd else .ok (.cnt op (bits ra 21 20) src rb)
  else if kind = 0x06 then
    if bits ra 25 24 = 3 then .error erRsvd
    else .ok (.awg (bits ra 25 24) (bits ra 23 22) (bits ra 20 16) (rb % 2 ^ 22))
  else if kind = 0x07 then
    let v := ra + rb % 256 * 2 ^ 32
    .ok (.ledg (bits v 37 26) (bits v 25 18) (bits v 17 10) (bits v 9 6) (bits v 5 2) (hasBit v 1) (hasBit v 0) false)
  else if kind = 0x08 then .ok (.fclr (hasBit ra 7))
  else if kind = 0x09 then .ok .fmark
  else if kind = 0x0A then if ra > 3 then .error erRsvd else .ok (.pflag ra)
  else if kind = 0x0B then .ok (.tagset (ra % 16) (rb % 4))
  else .ok (.attn 3 0)

/-- The operands of a gang kind that must agree among the pods. -/
def sefxKey (kind ra rb : Nat) : Nat × Nat :=
  if kind = 0x00 then (ra % 16, 0) else if kind = 0x08 then (bits ra 7 7, 0)
  else if kind = 0x09 ∨ kind = 0x0C then (0, 0) else if kind = 0x0A then (ra, 0)
  else if kind = 0x0B then (ra % 16, rb % 4) else if kind = 0x07 then (ra, rb % 256) else (ra, rb)

/-- An entry of the buffer that the pods of a gang fill in together. -/
def Gang.mergeSeb (g : Gang) (p : Path) (seq ix : Nat) (f : Eff → Eff) : Gang :=
  let up (l : List SebEntry) : List SebEntry :=
    l.map (fun e => if e.seq = seq ∧ e.ix = ix ∧ e.pod = none then { e with eff := f e.eff } else e)
  match p with
  | .main => { g with seb := up g.seb }
  | .sprout => { g with sprout := g.sprout.map (fun x => { x with seb := up x.seb }) }

/-- Posting one side effect of a micro-op; `none`: the buffer is full and SEFX stalls (R172, R209). -/
def postMicro (c : MCtx) (x : MicroSt) (e : Eff) (pod : Option (Nat × Nat)) (s : State) : Except State State :=
  match s.room c.n c.p 1 with
  | .error s => .error s
  | .ok s =>
    let g := s.gang c.n
    .ok ((s.setGang c.n (g.post c.p [SebEntry.mk c.seq x.opIdx (x.regionOf c.m c.seq) none none e pod none])).fix c.n)

/-- What a full buffer does to SEFX. -/
def sefxFull (c : MCtx) (s : State) : State :=
  match c.p with | .main => s.stall c.n 2 | .sprout => s.stopSprout c.n 5

/-- SEFX (R172). A pod kind acts on its own pod alone; MEAS adds this pod's PMASK to the gang's entry. -/
def sefxAct (c : MCtx) (x : MicroSt) (s : State) : MRes :=
  let kind := bits c.m 20 15
  let ra := x.reg (bits c.m 14 11)
  let rb := x.reg (bits c.m 10 7)
  if kind = 0x01 ∨ kind = 0x02 ∨ kind = 0x03 then
    let e : Eff := if kind = 0x01 then .load [(c.pod, bits ra 15 2, ra % 4, rb % 16)] else .log (kind == 0x02) [(c.pod, rb % 16)]
    match postMicro c x e (some (c.pod, x.podIx)) s with
    | .error s => .wait (sefxFull c s)
    | .ok s => .go { x with podIx := x.podIx + 1 } s
  else if kind = 0x05 then
    let k := bits ra 25 24
    let dst := bits ra 23 20
    let setup := bits ra 19 8
    if k > 1 ∨ dst > 11 ∨ setup ≥ (if k = 0 then 512 else 256) then .err erRsvd else
    match c.th.gangOps[x.opIdx]? with
    | some o =>
      if o.kind ≠ 0x1C05 ∨ o.a ≠ ra then .err erLockstep else
      .go { x with opIdx := x.opIdx + 1 }
        (s.setGang c.n ((s.gang c.n).mergeSeb c.p c.seq x.opIdx (fun e => match e with
          | .meas k d u w ps => .meas k d u w (ps.filter (fun e => e.1 != c.pod) ++ [(c.pod, rb % 16)])
          | e => e)))
    | none =>
      match postMicro c x (.meas k dst setup false [(c.pod, rb % 16)]) none s with
      | .error s => .wait (sefxFull c s)
      | .ok s => .go { x with opIdx := x.opIdx + 1 }
          (s.onThread c (fun t => { t with gangOps := t.gangOps ++ [⟨0x1C05, ra, 0, 0⟩] }))
  else
    let key := sefxKey kind ra rb
    match c.th.gangOps[x.opIdx]? with
    | some o =>
      if o.kind ≠ 0x1C00 + kind ∨ o.a ≠ key.1 ∨ o.b ≠ key.2 then .err erLockstep
      else .go { x with opIdx := x.opIdx + 1 } s
    | none =>
      match sefxEff kind ra rb with
      | .error code => .err code
      | .ok e =>
        let e := match e with | .attn k _ => .attn k (s.shown c.pod c.th.word) | e => e
        match postMicro c x e none s with
        | .error s => .wait (sefxFull c s)
        | .ok s => .go { x with opIdx := x.opIdx + 1 }
            (s.onThread c (fun t => { t with gangOps := t.gangOps ++ [⟨0x1C00 + kind, key.1, key.2, 0⟩] }))

/-! ### Waits, safe points and the end of a step in user routines -/

/-- The wait that a WAIT micro-op asks for (R173). -/
def waitOf (m ra rb : Nat) : WaitKind × Nat :=
  let k := bits m 20 18
  if k = 0 then (.time (hasBit m 17) (ra + rb % 65536 * 2 ^ 32), 0)
  else if k = 1 then (.event (ra % 4096) none, rb)
  else if k = 2 then (.barrier (ra % 16) none, rb)
  else if k = 3 then (.meas (ra % 16), 0)
  else (.commit, 0)

/-- The result of the WAIT at an index of a gang's routine: 1 satisfied, 2 timed out; 0 while it waits. -/
def Thread.waitRes (t : Thread) (ix : Nat) : Option GangOp := t.gangOps[ix]?

/-- WAIT (R173): the first engine starts the wait; every engine stays in the micro-op until it has ended, then
takes Z. -/
def waitAct (c : MCtx) (x : MicroSt) (s : State) : MRes :=
  match c.p with
  | .sprout => .wait (s.stopSprout c.n 3)
  | .main =>
    let ra := x.reg (bits c.m 16 13)
    let rb := x.reg (bits c.m 12 9)
    match c.th.gangOps[x.opIdx]? with
    | some o =>
      if o.kind ≠ 0x1D00 + bits c.m 20 18 ∨ o.a ≠ ra ∨ o.b ≠ rb then .err erLockstep
      else if o.res = 0 then
        .wait (s.onThread c (fun t => t.setMicro c.pod { x with
          commitPt := true, waitFrom := some (match x.waitFrom with | some f => f | none => after s.now 1) }))
      else
        let spent := match x.waitFrom with | some f => if ahead s.now f > 0 then (s.now - f).toNat / 1024 else 0 | none => 0
        .go { x with opIdx := x.opIdx + 1, z := o.res == 1, waited := x.waited + spent, waitFrom := none } s
    | none =>
      let g := s.gang c.n
      if g.wait.isSome then .wait s else
      if bits c.m 20 18 = 1 ∧ ra % 4096 > 2303 then .err erRsvd else
      let kd := waitOf c.m ra rb
      let g := { g with wait := some ⟨c.seq, kd.1, 0, false, kd.2, none, none, true, x.opIdx, {}⟩ }
      let s := s.setGang c.n g
      let s := s.onThread c (fun t => { (t.setMicro c.pod { x with commitPt := true, waitFrom := some (after s.now 1) }) with
        gangOps := t.gangOps ++ [⟨0x1D00 + bits c.m 20 18, ra, rb, 0⟩] })
      .wait (s.fix c.n)

/-- A user routine's wait has ended: its engines take Z. -/
def Thread.endWait (t : Thread) (ok : Bool) : Thread :=
  { t with gangOps := t.gangOps.map (fun o => if o.kind / 256 = 0x1D ∧ o.res = 0 then
      { o with res := if ok then 1 else 2 } else o) }

/-- SAFEPT, R158, R166, R216: a safe point within the word, at its boundary tick. It has no effect while no pre-emption takes it; on
resume the routine goes on at the SAFEPT, which then has none. -/
def safeptAct (c : MCtx) (x : MicroSt) (s : State) : MRes :=
  match c.p with
  | .sprout => .wait (s.stopSprout c.n 3)
  | .main =>
    gangOp c x s 0x1F00 0 0 (fun s =>
      let g := s.gang c.n
      .ok (some (0, (s.setGang c.n { g with safes := g.safes ++ [⟨c.seq, x.opIdx, none, c.th, false⟩] }).fix c.n)))
      (fun _ x => x)

/-- GHALT (R171): as HALT with PARK = ra[0] and ATTN = ra[1]. -/
def ghaltAct (c : MCtx) (x : MicroSt) (s : State) : MRes :=
  match c.p with
  | .sprout => .wait (s.stopSprout c.n 3)
  | .main =>
    let v := x.reg (uRa c.m)
    if (s.gang c.n).atBoundary c.seq s.now = false then .wait s else
    let s := if hasBit v 0 then s.park c.n else s
    if s.allDone c.n = false then .wait s else
    .wait ((s.publish c.n).haltGang c.n (hasBit v 1) (s.shown c.pod c.th.word))

end Sys2Proof.Machine
end

