-- ==== Sys2Proof/Machine/VectorOps.lean ====
section
/-! DEFINITION. What a program does at its pins: level sets and loads (R66 to R72), logging (R153), and one
period of a vector: placement of its edges (R101 to R113), compares, windows of the edge log, markers (R157). -/

namespace Sys2Proof.Machine

/-! ### Levels and load -/

/-- The safe codes of a pin die as a block (R91, R92). -/
def State.safeBlock (s : State) (die : Nat) : LBlock :=
  let c (k : Nat) : Nat := s.safePin.getD (7 * die + k) 0
  ⟨c 0, c 1, c 2, c 3, c 4, c 5, c 6, 0⟩

/-- The seven DACs of a pin take a block's codes (R66, R68). -/
def State.setLevels (s : State) (q : Nat) (b : LBlock) : State :=
  let s := (s.wr F.PIN_LVL_A_VIH b.vih q).wr F.PIN_LVL_A_VIL b.vil q
  let s := (s.wr F.PIN_LVL_B_VTT b.vtt q).wr F.PIN_LVL_B_VOH b.voh q
  let s := (s.wr F.PIN_LVL_C_VOL b.vol q).wr F.PIN_LVL_C_ILOAD b.iload q
  let s := s.wr F.PIN_LVL_D_VCOM b.vcom q
  s.setPin q { s.pin q with loadMode := b.mode }

/-- R68, R70: a level set is applied to a pod in this tick; an unloaded entry applies the safe codes. The settle
timer starts, or restarts from this tick, and pins whose VOH or VOL code changed are noted for the reseed at its end. -/
def State.applyLevels (s : State) (pod k : Nat) : State :=
  let x := s.pod pod
  let set := Store.get (fun _ => none) x.lsets k
  let blocks := match set with | some l => l | none => List.replicate 4 (s.safeBlock (dieOfPod pod))
  let changed := ((List.range 4).filter (fun i =>
    let b := blocks.getD i {}
    s.rd F.PIN_LVL_B_VOH (4 * pod + i) != b.voh || s.rd F.PIN_LVL_C_VOL (4 * pod + i) != b.vol))
  let mask := changed.foldl (fun m i => withBit m i) (if x.settleEnd.isSome then x.settlePins else 0)
  let s := (List.range 4).foldl (fun s i =>
    let q := 4 * pod + i
    let s := s.setLevels q (blocks.getD i {})
    ((s.wr F.PIN_LVL_D_LSET k q).wr F.PIN_LVL_D_SAFE (ofBool set.isNone) q)) s
  let s := s.wr F.POD_LVL_STAT_LSET k pod
  let s := if set.isSome then s.wr F.POD_LVL_STAT_APPLIED 1 pod else s
  let s := s.wr F.POD_LVL_STAT_SETTLING 1 pod
  let stop := after s.now (s.rd F.POD_LVL_CFG_SETTLE pod * 64)
  s.setPod pod { s.pod pod with
    settleEnd := some stop
    settleRuns := (x.settleRuns.filter (fun r => decide (ahead (after r.2 200000) s.now > 0))).map (fun r =>
      (r.1, if ahead r.2 s.now > 0 then s.now else r.2)) ++ [(s.now, stop)]
    settlePins := mask }

/-- R152: SETLOAD's part for one pod. -/
def State.applyLoad (s : State) (pod iload mode pmask : Nat) : State :=
  (bitsSet 4 pmask).foldl (fun s i =>
    let q := 4 * pod + i
    (s.wr F.PIN_LVL_C_ILOAD iload q).setPin q { (s.wr F.PIN_LVL_C_ILOAD iload q).pin q with loadMode := mode }) s

/-- R153: continuous edge logging of a pod's pins on or off. -/
def State.applyLog (s : State) (pod pmask : Nat) (on : Bool) : State :=
  (bitsSet 4 pmask).foldl (fun s i => s.setPin (4 * pod + i) { s.pin (4 * pod + i) with logOn := on }) s

/-! ### One period of a vector -/

/-- Slots of a pin in a timing set, of one train, in order of their offsets. -/
def trainOf (slots : List Slot) (drive : Bool) : List Slot :=
  (sortSlots slots).filter (fun e => if drive then decide (1 ≤ e.ty ∧ e.ty ≤ 5) else decide (6 ≤ e.ty ∧ e.ty ≤ 9))

/-- Edges dropped in a pod are counted (R110). -/
def State.countDrops (s : State) (pod k : Nat) : State :=
  if k = 0 then s else (s.bump F.POD_TIM_COLL_DROPPED k pod).wr F.POD_TIM_STAT_COLLIDE 1 pod

/-- R101 to R113, R127, R131: the edges of one pin for one period that starts at tick `t0`. Pin code 0xF acts as
EX and raises a fault record that names the pod. A pad period compares nothing (R234). -/
def State.placePin (s : State) (pod i : Nat) (ts : TSet) (code pos : Nat) (nofail nocap pad : Bool)
    (t0 : Stamp) : State :=
  let q := 4 * pod + i
  let s := if code = 15 then s.detect 16 pod q else s
  let x := (s.pin q).settleDrv s.now
  let slots := ts.slots.getD i []
  let k := (s.pod pod).deskew.at {} i
  let f0 := fineOf t0
  let off := s.offState q
  let vih := s.rd F.PIN_LVL_A_VIH q
  let vil := s.rd F.PIN_LVL_A_VIL q
  let live := s.rd F.PIN_CFG_USE q == 1 && s.rd F.PIN_CFG_DRV_EN q == 1 && !x.tripped
  let conn := s.pmuBlocks q
  let ret := ts.ret.getD i 0
  let st0 := match x.drv.getLast? with | some e => e.st | none => x.drvNow
  let hasDrv := slots.any (fun e => e.ty == 1 || e.ty == 2)
  let hasOff := slots.any (fun e => e.ty == 5)
  let d := dataVals ts.ddr code x.prior
  let train := if isDrive code && !hasDrv then [] else trainOf slots true
  let acc0 : DrvAcc := ⟨x, st0, x.prior, 0, false, none⟩
  let acc0 := if code = 2 ∧ hasOff = false then turnOff q off k live conn f0 acc0 else acc0
  let acc := train.foldl (placeDrive q ts.ddr code ret off vih vil k live conn d f0) acc0
  let y := { acc.x with prior := acc.prior }
  let s := if acc.blocked then s.wr F.PIN_PMU_STAT_DRVBLK 1 q else s
  let s := s.countDrops pod acc.dropped
  let y := if code = 14 then { y with lg := y.lg ++ [(t0, after t0 ts.period)] } else y
  if s.rd F.PIN_CFG_USE q = 0 then s.setPin q y else
  match (if pad then none else expects ts.ddr code) with
  | none => s.setPin q y
  | some ex =>
    let y := if y.cmp = [] then { y with hist := [(fineOf s.now - fineTick, y.raw)] } else y
    let c := (trainOf slots false).foldl (placeCmp q code pos nofail nocap ex k f0) ⟨y, 0, none, 0⟩
    (s.setPin q c.x).countDrops pod c.dropped

/-- The consumers of one marker of a gang, raised in tick `t` (R157): interval units, PMU conversions, waveform
outputs, TRIG_OUT, performance counters. -/
def State.raiseMarker (s : State) (n k : Nat) (t : Stamp) : State :=
  let s := s.iuOther 2 k (some n) 0 t
  let s := s.pmuTrigger (s.pinsOf n) (k + 1) 0 t
  let s := s.markWaves n k t
  s.pulse (0x0A + k) (s.lead n)

/-- R157: the markers of periods that have begun are raised, with the tick of the period's start as their stamp. -/
def State.raiseMarks (s : State) : State :=
  s.sitesDefined.foldl (fun (s : State) (n : Nat) =>
    let g := s.gang n
    let due := g.mkq.filter (fun e => reached e.2 s.now)
    if due = [] then s else
    due.foldl (fun (s : State) (e : Nat × Stamp) => s.raiseMarker n e.1 e.2)
      (s.setGang n { g with mkq := g.mkq.filter (fun e => !reached e.2 s.now) })) s

/-- A period with marker k set: TRIG_OUT holds to its end (R592). -/
def Gang.mark (g : Gang) (k : Nat) (t stop : Stamp) : Gang :=
  { g with
    marks := Store.put id (fun _ => none) g.marks k (match Store.get (fun _ => none) g.marks k,
        Store.get (fun _ => none) g.markEnd k with
      | some a, some e => if e = t then some a else some t
      | _, _ => some t)
    markEnd := Store.put id (fun _ => none) g.markEnd k (some stop) }

/-- R592: the end of the output's pulse: the last period of its run, no less than 15 ticks after its rise. -/
def TrigX.fall (x : TrigX) : Stamp := later (after x.roseT 15) x.endT

/-- R592: a period that raises marker k from tick t: a rise is due where the output is low then; a run that goes on holds it. -/
def State.trigMark (s : State) (k : Nat) (t stop : Stamp) : State :=
  let x := s.trigs.at {} k
  if x.due.isNone ∧ (x.outHigh = false ∨ reached x.fall t = true) ∧ ¬ (x.outHigh = true ∧ ahead x.endT t ≥ 0) then
    { s with trigs := s.trigs.set {} k { x with due := some t, endT := stop } }
  else if (x.outHigh = true ∨ x.due.isSome = true) ∧ ahead x.endT t ≥ 0 then
    { s with trigs := s.trigs.set {} k { x with endT := later x.endT stop } }
  else s

/-- R197, R136, R198, R199: one period of a gang's vector is launched, starting at tick `t0`. -/
def State.launch (s : State) (n : Nat) (e : OqEntry) (t0 : Stamp) : State :=
  let g := s.gang n
  let vw := match e.words with | [] => 0 | x :: _ => x.2
  let k := vwTset vw
  let nofail := vwNofail vw
  let nocap := vwNocap vw
  let pos := g.vpos
  let s := e.words.foldl (fun s (w : Nat × Nat) =>
    match s.tset w.1 k with
    | none => s
    | some ts =>
      let s := (s.wr F.POD_TIM_STAT_TSET k w.1).pulse 0x01 w.1
      (List.range 4).foldl (fun s i => s.placePin w.1 i ts (vwPin w.2 i) pos nofail nocap false t0) s) s
  let period := match s.tset (s.lead n) k with | some t => t.period | none => 1
  let stop := after t0 period
  let compares := e.words.any (fun (w : Nat × Nat) =>
    match s.tset w.1 k with
    | none => false
    | some ts => (List.range 4).any (fun i =>
        s.rd F.PIN_CFG_USE (4 * w.1 + i) == 1 && (expects ts.ddr (vwPin w.2 i)).isSome
          && vwPin w.2 i != 10 && (ts.slots.getD i []).any (fun e => decide (6 ≤ e.ty))))
  let captures := e.words.any (fun (w : Nat × Nat) =>
    match s.tset w.1 k with
    | none => false
    | some ts => (List.range 4).any (fun i =>
        s.rd F.PIN_CFG_USE (4 * w.1 + i) == 1 && vwPin w.2 i == 10
          && (ts.slots.getD i []).any (fun e => decide (6 ≤ e.ty))))
  let left := if compares then 2 else if captures then 1 else 0
  let dec := if compares then Store.get (fun _ => none) (s.gang n).dec k else none
  let mks := bitsSet 4 (vwMk vw)
  let s := mks.foldl (fun (s : State) (j : Nat) => s.trigMark j t0 stop) s
  let g : Gang := mks.foldl (fun (g : Gang) j => g.mark j t0 stop) (s.gang n)
  let g := { g with
    vpos := pos + 1, pinEnd := stop, mkq := g.mkq ++ mks.map (fun k => (k, t0))
    flights := g.flights ++ [Flight.mk e.seq pos t0 dec vw left false s.now]
    oq := g.oq.map (fun (o : OqEntry) => if o.seq = e.seq ∧ o.ix = e.ix then { o with rpt := o.rpt - 1 } else o) }
  let g := { g with oq := g.oq.filter (fun o => decide (o.rpt > 0)) }
  ((s.setGang n g).fix n).publish n

end Sys2Proof.Machine
end

