-- ==== Sys2Proof/Machine/RunOps.lean ====
section
/-! DEFINITION. Shared operations of run-ahead and speculation (chapter 07): decision offsets, commit of side
effects, squashes, match decisions, waits, segment crossings and under-runs, safe points, stops. -/

namespace Sys2Proof.Machine

/-! ### Decision offsets -/

/-- What one pin adds to DEC in a timing set (R198): nothing without USE or a compare edge. -/
def State.decPin (s : State) (q : Nat) (ts : TSet) : Option Int :=
  if s.rd F.PIN_CFG_USE q = 0 then none else
  let k := (s.pod (q / 4)).deskew.at {} (q % 4)
  let ends := ((ts.slots.getD (q % 4) []).filter (fun e => e.ty == 6 || e.ty == 7 || e.ty == 9)).map
    (fun e => fineFloor (fineUnit * e.off + fineUnit * cmpShift k))
  match ends with
  | [] => none
  | x :: t =>
    let f := if s.on F.PIN_CFG_FILT_CMP q = true ∧ s.rd F.PIN_CFG_FILT q ≠ 0
      then filtK (s.rd F.PIN_CFG_FILT q) * fselTicks (s.rd F.PIN_CFG_FSEL q) else 0
    some (t.foldl max x + f + 8)

/-- R198: DEC of a timing set over some pods; `none` for a set without compares. -/
def State.decOf (s : State) (pods : List Nat) (k : Nat) : Option Nat :=
  let xs := pods.flatMap (fun p => match s.tset p k with
    | some ts => (pinsOfPod p).filterMap (fun q => s.decPin q ts)
    | none => [])
  match xs with
  | [] => none
  | x :: t => some (t.foldl max x).toNat

/-- The decision offsets of a gang for a step. -/
def State.decTable (s : State) (n : Nat) : Store Nat (Option Nat) :=
  (List.range 64).foldl (fun m k => Store.put id (fun _ => none) m k (s.decOf (s.podsOf n) k)) []

/-! ### Side effects -/

/-- The order of entries of the buffer: program order, then the order within a word. -/
def SebEntry.before (a b : SebEntry) : Bool := decide (a.seq < b.seq) || (a.seq == b.seq && decide (a.ix < b.ix))

/-- Entries that belong to one atomic region (R180). -/
def SebEntry.together (a b : SebEntry) : Bool := a.region.isSome && a.region == b.region

/-- Whether every vector before a place in program order has resolved (R199). -/
def Gang.resolvedBefore (g : Gang) (q : Nat) : Bool :=
  g.oq.all (fun e => decide (q ≤ e.seq)) && g.flights.all (fun f => decide (q ≤ f.seq))

/-- Whether every measurement into a value register that a word before a place started has ended (R159). -/
def Gang.measDone (g : Gang) (q dst : Nat) : Bool :=
  g.measInfo.all (fun e => !(g.meas.contains e.1 && decide (e.2.1 < q) && e.2.2 == dst)) &&
  g.seb.all (fun e => match e.eff with | .meas _ d _ _ _ => !(d == dst && decide (e.seq < q)) | _ => true)

/-- Whether an effect waits for the vectors before it: those that read or clear the fail state (R145). -/
def Eff.readsFails : Eff → Bool
  | .fclr c => c
  | .fmark => true
  | .cnt k _ _ _ => k == 2
  | .ledg .. => true
  | _ => false

/-- What one effect needs: one at the pins its launch; the others their boundary tick and the resolution of every earlier branch, in
program order; a LEDG, with the clear bound to it, the outcomes and measurements before it in place of the tick (R159, R205, R206).
No effect of a word with an engine error, or of one behind a safe point that a pre-emption takes, is among them (R158, R185). -/
def Gang.effReady (g : Gang) (now : Stamp) (ledg : Bool) (e : SebEntry) : Bool :=
  (match g.held with | some h => decide (e.seq < h.seq) | none => true) &&
  (match g.safePoint with | some m => decide (e.seq < m.seq) || (e.seq == m.seq && decide (e.ix < m.ix)) | none => true) &&
  (if e.eff.atPin then (match e.go with | some t => reached t now | none => false)
   else
    (ledg || (match e.bt with | some b => reached b now | none => false)) && (e.pod.isSome || g.complete e.seq e.ix)
      && g.clearBefore e.seq e.ix && g.seb.all (fun f => f.eff.atPin || !f.before e || f.together e)
      && (!e.eff.readsFails || g.resolvedBefore e.seq)
      && (match e.eff with | .ledg _ _ _ va vb _ _ _ => g.measDone e.seq va && g.measDone e.seq vb | _ => true))

/-- Whether an effect is a ledger entry, or a clear of the fail state. -/
def Eff.isLedg : Eff → Bool
  | .ledg .. => true
  | _ => false
def Eff.isClear : Eff → Bool
  | .fclr _ => true
  | _ => false

/-- Whether an entry, with its region, can commit now. -/
def Gang.canCommit (g : Gang) (now : Stamp) (e : SebEntry) : Bool :=
  if e.region.isNone then g.effReady now e.eff.isLedg e
  else
    let own := g.seb.filter (fun f => f.together e)
    let ledg := own.any (fun f => f.eff.isLedg)
    !(g.main.inRoutine && g.main.cpu.any (fun x => x.2.active && x.2.region && e.region == some (g.main.wordSeq * wordEnd + x.2.regNo)))
      && own.all (fun f => g.effReady now (ledg && (f.eff.isLedg || f.eff.isClear)) f)

/-- Whether an entry's region, or the entry, holds a ledger entry. -/
def Gang.ledgWith (g : Gang) (e : SebEntry) : Bool :=
  g.seb.any (fun f => (f == e || f.together e) && (match f.eff with | .ledg .. => true | _ => false))

/-- R281: one LEDG's entry commits, waits for a slot, or is dropped. Its fail state is that of the vectors before
it in program order. -/
def State.commitLedg (s : State) (n : Nat) (e : SebEntry) (step binp binf va vb : Nat) (vaen vben : Bool) : State :=
  let g := s.gang n
  let after_ := (g.failsAfter e.seq).length
  let all := s.rd F.SITE_FCOUNT_FCOUNT n
  let count := all - after_
  let failed := s.on F.SITE_PSTAT_FAIL n && (decide (count > 0) || after_ == 0)
  let valid (k : Nat) : Bool := decide (k ≥ 12) || s.vvalid n k
  let vaP := vaen && valid va
  let vbP := vben && valid vb
  let full := decide (s.ledgCommitted ≥ 65536 - 128)
  let drop := full && s.on F.LEDG_CFG_FULL_POL
  let ent : LEnt := LEnt.mk (s.attnSrc n) n s.now s.now count (if vaP then s.vreg n va else 0)
    (if vbP then s.vreg n vb else 0) (if count > 0 then s.ffpos n else 2 ^ 48 - 1) step (ofBool failed) 0 vaP vbP
    g.capLoss (if failed then binf else binp) (full && !drop)
  if drop then (s.bump F.LEDG_DROP_DROP 1).wr F.LEDG_STAT_DROPPED 1
  else
    let s := { s with ledgq := s.ledgq ++ [ent] }
    let s := s.setGang n { s.gang n with ledgDone := true, lastCommit := some s.now }
    if full then s.wr F.LEDG_STAT_HOLDING 1 else s

/-- A measurement numbered and noted at its start (R155). -/
def State.beginMeas (s : State) (n seq kind dst setup : Nat) (pmasks : List (Nat × Nat)) (b : Stamp) (vp : Option Nat) : State :=
  let tok := s.tok
  let g := s.gang n
  let s := { s with tok := tok + 1 }
  let s := s.setGang n { g with
    meas := g.meas ++ [tok], measInfo := g.measInfo ++ [(tok, seq, dst)], vMeas := g.vMeas.set 0 dst tok }
  if kind = 0 then
    s.pmuRequest (some n) dst setup
      (pmasks.flatMap (fun e => (bitsSet 4 e.2).map (fun i => 4 * e.1 + i))) (vp.getD (2 ^ 48 - 1)) seq tok
  else s.iuRequest ⟨n, setup, dst, tok, b, s.lead n⟩

/-- CNT on a gang counter at its boundary tick (R154). -/
def State.commitCnt (s : State) (n : Nat) (e : SebEntry) (b : Stamp) (op idx src imm : Nat) : State :=
  if op = 0 then s.loadGc n idx imm b
  else if op = 1 then
    let v := match Store.get (fun _ => none) (s.gang n).evcnt idx with
      | some c => c.count (some b)
      | none => s.gc n idx
    s.loadGc n idx ((v + imm) % 2 ^ 32) b
  else if op = 2 then s.loadGc n idx (s.rd F.SITE_FCOUNT_FCOUNT n - ((s.gang n).failsAfter e.seq).length) b
  else if op = 3 then s.loadGc n idx (match e.vp with | some v => loWord v | none => 2 ^ 32 - 1) b
  else if op = 4 then
    let s := s.setGc n idx 0
    let g := s.gang n
    let c : EvCnt := { src := src, fromT := b, seen := [] }
    let c := g.recent.foldl (fun (c : EvCnt) x => c.see x.1 x.2.1) c
    s.setGang n { g with evcnt := Store.put id (fun _ => none) g.evcnt idx (some c) }
  else s.evStop n idx (some b)

/-- One side effect takes place (R152 to R156, R172, R206). -/
def State.commitEff (s : State) (n : Nat) (e : SebEntry) : State :=
  let b := e.bt.getD s.now
  match e.eff with
  | .lvl k => (s.podsOf n).foldl (fun s p => s.applyLevels p k) s
  | .load xs => xs.foldl (fun s x => s.applyLoad x.1 x.2.1 x.2.2.1 x.2.2.2) s
  | .log on xs => xs.foldl (fun s x => s.applyLog x.1 x.2 on) s
  | .cnt op idx src imm => s.commitCnt n e b op idx src imm
  | .meas kind dst setup _ pm => s.beginMeas n e.seq kind dst setup pm (e.go.getD b) e.vp
  | .awg op mks w entry => s.awgCommand n op mks w (PAddr.ofNum entry)
  | .ledg step bp bf va vb vaen vben _ => s.commitLedg n e step bp bf va vb vaen vben
  | .fclr clr => if clr then s.clearFail n e.seq else s
  | .fmark => s.siteFail n e.seq (e.vp.getD 0)
  | .pflag k => s.pflag n k
  | .tagset tag res =>
    if res = 1 ∨ res = 2 then s.setTagAt n tag res e.seq
    else (s.setTagAt n tag ((Config.tagOther s.free).toNat % 3) e.seq).tookFree
  | .attn cause addr => s.raise (s.attnSrc n) cause [addr + n * 2 ^ 32] b
  | .mend exh failto show_ =>
    let s := s.wr F.SITE_PSTAT_MTO (ofBool exh) n
    if exh then (if failto then s.siteFail n e.seq (e.vp.getD 0) else s)
    else if show_ then s.showShadow n 0 false else s

/-- An entry and its region leave the buffer and take place, in order. -/
def State.commit (s : State) (n : Nat) (e : SebEntry) : State :=
  let g := s.gang n
  let own (f : SebEntry) : Bool := f == e || f.together e
  let es := g.seb.filter own
  let s := s.setGang n { g with seb := g.seb.filter (fun f => !own f) }
  let s := es.foldl (fun s f => s.commitEff n f) s
  let g := (s.gang n).settleWaits none s.now
  (((s.setGang n g).fix n).publish n).raiseErr n

/-! ### Squashes -/

/-- R207: everything from a place in a word on leaves the queues; ENG_RA_SQ counts the vectors' entries. `own` says which effects
that a pod of the word has posted for itself stay. -/
def State.squash (s : State) (n q : Nat) (ix : Nat := wordEnd) (own : Nat × Nat → Bool := fun _ => true) : State :=
  let g := s.gang n
  let keep (k : Nat) : Bool := decide (k ≤ q)
  let stays (k i : Nat) : Bool := decide (k < q) || (k == q && decide (i < ix))
  let gone := (g.oq.filter (fun e => !stays e.seq e.ix)).length
  let s := s.setGang n { g with
    oq := g.oq.filter (fun e => stays e.seq e.ix)
    seb := g.seb.filter (fun e => match e.pod with
      | some x => decide (e.seq < q) || (e.seq == q && (ix == wordEnd || own x))
      | none => stays e.seq e.ix)
    ckpts := g.ckpts.filter (fun c => keep c.seq)
    wait := g.wait.filter (fun w => stays w.seq w.ix)
    safes := g.safes.filter (fun m => stays m.seq m.ix || (m.seq == q + 1 && m.ix == 0))
    held := g.held.filter (fun h => if ix = wordEnd then decide (h.seq ≤ q) else decide (h.seq < q))
    exh := g.exh.filter (fun e => keep e.seq)
    retire := g.retire.filter (fun e => keep e.2)
    brks := g.brks.filter (fun e => keep e.1)
    cross := none }
  (s.podsOf n).foldl (fun s p => (s.bump F.ENG_RA_SQ_SQ gone p).pulse 0x04 p gone) s

/-- A misprediction, a resolution counted in every pod of a gang (R213, R219). -/
def State.countMisp (s : State) (n : Nat) : State :=
  (s.podsOf n).foldl (fun s p => (s.bump F.ENG_RA_MISP_MISP 1 p).pulse 0x05 p) s
def State.countRes (s : State) (n k : Nat) : State :=
  let s := s.setGang n { s.gang n with lastRes := some s.now }
  (s.podsOf n).foldl (fun s p => s.bump F.ENG_RA_RES_RES k p) s

/-- The sprout of a word is discarded (R204). -/
def State.endSprout (s : State) (n owner : Nat) : State :=
  let g := s.gang n
  match g.sprout with
  | some x => if x.owner = owner then s.setGang n { g with sprout := none } else s
  | none => s

/-- What follows every resolution. -/
def State.settle (s : State) (n : Nat) : State := (((s.fix n).ensureSprout n).publish n).raiseErr n

/-- Whether the sprout of a checkpoint stands for a path: it is that checkpoint's, and began in the same state (R213, R214). -/
def Gang.sproutFor (g : Gang) (c : Ckpt) (th : Thread) : Bool :=
  match g.sprout with | some x => x.owner == c.seq && th.same c.alt | none => false

/-- R213: the main path goes on along the path a checkpoint did not predict, from tick `d`. -/
def State.mispredict (s : State) (n : Nat) (c : Ckpt) (cut : Nat) (th : Thread) (d : Stamp) : State :=
  let use := (s.gang n).sproutFor c th
  let s := (s.countMisp n).squash n cut
  let g := s.gang n
  let s := s.setGang n { g with ckpts := g.ckpts.filter (fun k => k.seq != c.seq) }
  s.redirect n th use false d

/-- R200: the condition of a checkpoint of JFAIL or JPASS resolves, with 0 PASS, 1 FAIL, 2 NONE. -/
def State.resolveCond (s : State) (n : Nat) (c : Ckpt) (isFail : Bool) (v : Nat) : State :=
  let taken := decide (v = if isFail then 1 else 0)
  let s := (s.countRes n 1).learn n c.word taken
  if taken = c.taken then
    let g := s.gang n
    ((s.setGang n { g with ckpts := g.ckpts.filter (fun k => k.seq != c.seq) }).endSprout n c.seq).settle n
  else
    match s.altPath n c with
    | .ok th => (s.mispredict n c c.seq th s.now).settle n
    | .error e =>
      let s := s.mispredict n c c.seq c.alt s.now
      (s.engineErr n .main e.1 c.seq c.word e.2).settle n

/-- Whether a user word's reads can still change (R200): vectors before it that they depend on are open. -/
def Gang.userOpen (g : Gang) (q : Nat) (onFail : Bool) (tags : Nat) : Bool :=
  (g.pendingVecs .main q).any (fun v => (onFail && !vwNofail v) || (vwTag v != 0 && hasBit tags (vwTag v)))

/-- R200, R202, R213: a user word's checkpoint resolves; where its read was wrong, everything from the read on is squashed, and the
routine goes on at the read as it stood there (DESIGN CHOICE, assumption 31). -/
def State.resolveUser (s : State) (n : Nat) (c : Ckpt) : State :=
  let s := s.countRes n 1
  let drop (s : State) : State := s.setGang n { s.gang n with ckpts := (s.gang n).ckpts.filter (fun k => k.seq != c.seq) }
  match c.kind with
  | .user _ _ bad ix =>
    if c.taken ∧ bad = 0 then ((drop s).endSprout n c.seq).settle n
    else
      let s := drop ((s.countMisp n).squash n c.seq ix (fun x => decide (x.2 < (c.alt.micro x.1).podIx)))
      let th := { c.alt with cpu := c.alt.cpu.map (fun e => (e.1, { e.2 with ready := later e.2.ready (after s.now 10) })) }
      (s.setGang n { s.gang n with main := th }).settle n
  | _ => s

/-! ### MATCH -/

/-- The last MATCH of a thread whose exhaustion was open ends. -/
def Thread.lastIs (t : Thread) (how : LastMatch) : Thread :=
  if t.lastMatch = .none then { t with lastMatch := how } else t

/-- R146: an exhausted MATCH's tag resolves: it was a match after all, with no shadow (R212), or MTO is set, and the exhaustion enters
the fail state at the MATCH's position. -/
def State.endExhausted (s : State) (n : Nat) (e : Exhaust) (pass : Bool) (iter : Nat) (early : Bool) : State :=
  let how : LastMatch := if pass then .matched else .exhausted
  let g := s.gang n
  let s := s.setGang n { g with
    exh := g.exh.filter (fun x => x.seq != e.seq)
    main := g.main.lastIs how
    sprout := g.sprout.map (fun x => { x with th := x.th.lastIs how })
    ckpts := g.ckpts.map (fun c => { c with alt := if c.seq > e.seq then c.alt.lastIs how else c.alt }) }
  let s := s.wr F.SITE_PSTAT_MTO (ofBool (!pass)) n
  if pass then s.showShadow n iter early
  else if e.failto then s.siteFail n e.seq (e.vp.getD 0) else s

/-- R210 to R213: a MATCH decides PASS in tick D; `its` are its open iterations, the deciding one first. The cut is the first of
their boundaries at which the next iteration would start at or after D + 48: one that lies there, or one that no launched vector
follows. Where none is, the next boundary dispatched is the cut. -/
def State.matchPass (s : State) (n : Nat) (c : Ckpt) (hint : Bool) (its : List MatchIter) (d : Stamp) : State :=
  let g := s.gang n
  let late (i : MatchIter) : Bool := decide (g.launched ≤ i.seq)
    || (match i.bt with | none => true | some b => decide (ahead b (after d 48) ≥ 0))
  let k := its.findIdx late
  let s := (s.countRes n 1).wr F.SITE_PSTAT_MTO 0 n
  match its[k]? with
  | some j =>
    let s := s.showShadow n k false
    let th := { (j.th.leaveMatch c.word .matched) with word := c.word, wordSeq := j.seq }
    if hint then
      let use := (s.gang n).sproutFor c j.th
      let s := s.squash n j.seq
      let g := s.gang n
      ((s.setGang n { g with ckpts := g.ckpts.filter (fun k => k.seq != c.seq) }).redirect n th use true d).settle n
    else ((s.mispredict n c j.seq th d)).settle n
  | none =>
    let s := if hint then s else s.countMisp n
    let s := s.setGang n { s.gang n with ckpts := (s.gang n).ckpts.filter (fun k => k.seq != c.seq) }
    match g.exh.find? (fun e => decide (c.seq < e.seq)) with
    | some e => ((s.endExhausted n e true its.length true).endSprout n c.seq).settle n
    | none => (s.setGang n { s.gang n with shadowTo := some (d, its.length) }).settle n

/-! ### Waits -/

/-- A wait ends at tick `t`, satisfied or timed out (R148 to R151, R155, R173). The next vector starts in that tick, also after a
timeout, which no launch can foresee. -/
def State.endWait (s : State) (n : Nat) (ok : Bool) (t : Stamp) : State :=
  let g := s.gang n
  match g.wait with
  | none => s
  | some w =>
    let s := s.setTagAt n w.tag (if ok then 1 else 2) w.seq
    let g := s.gang n
    let g := { g with
      wait := none
      pinEnd := later g.pinEnd t
      noLead := !ok
      tagD := if w.tag = 0 then g.tagD else g.tagD.set 0 w.tag t
      main := if w.micro then g.main.endWait ok else g.main }
    let s := s.setGang n g
    let vp := if g.vpos = 0 then 0 else g.vpos - 1
    let s := if ok = false ∧ w.failto = true then s.siteFail n w.seq vp else s
    let s := if s.gstate n = stWait ∨ s.gstate n = stBarrier then s.setGstate n stRun else s
    s.settle n

/-- The timeout tick of a wait whose boundary tick is known (R149, R151). -/
def GWait.timeout (w : GWait) : Option Stamp := w.bt.map (fun b => after b ((w.tmo + 1) * 64))

/-- R150: the gangs that are members of a STEP_RUN's barriers. -/
def State.members (s : State) (r : StepRun) : List Nat :=
  r.sites.filter (fun n => s.running n && !(r.ended.any (fun e => e.1 == n)))

/-- The arrival tick of a gang at a barrier (R150). -/
def Gang.arrivedAt (g : Gang) (bar : Nat) : Option Stamp :=
  match g.wait with
  | some w => (match w.kind with
    | .barrier b a => if b = bar ∧ w.endAt = none ∧ g.clearBefore w.seq = true then a else none
    | _ => none)
  | none => none

/-! ### Crossings and under-run -/

/-- Whether the main path stands at a crossing or a stream granule that it may not fetch yet, and the entry it
waits for in a pod: the entry continued at, and the offset there (R226, R233, R240). -/
def State.crossAt (s : State) (n : Nat) : Option PAddr :=
  let g := s.gang n
  let a := g.main.pc
  let l := s.lead n
  let x := s.seg l a.seg
  if s.pastEnd l a then some ⟨x.next, 0⟩
  else if x.kind = kdStream then some a else none

/-- Whether an address can be fetched in every pod of a gang. -/
def State.allReady (s : State) (n : Nat) (a : PAddr) : Bool :=
  (s.podsOf n).all (fun p => s.unitReady p (s.seg p a.seg) a.off)

/-- The main path goes on at an address: a crossing's old entry is to retire with the next word (R228). -/
def State.crossTo (s : State) (n : Nat) (a : PAddr) : State :=
  let g := s.gang n
  let old := g.main.pc.seg
  let crossed := g.main.pc ≠ a
  s.setGang n { g with
    main := { g.main with pc := a }
    cross := none
    retire := if crossed then g.retire ++ (s.podsOf n).map (fun p => (64 * p + old, g.seqNext)) else g.retire }

/-- A tick, or more, of a wait at a crossing before its deadline is counted, unless an earlier branch is unresolved (R233, R215). -/
def State.countXwait (s : State) (n k : Nat) : State :=
  match (s.gang n).cross with
  | some c =>
    if c.since.isSome && c.ur.isNone then (s.podsOf n).foldl (fun s p => (s.bump F.ENG_PM_XWAIT_XWAIT k p).pulse 0x07 p k) s else s
  | none => s

/-- The PAD words of a gang's pods (R234). -/
def State.padWords (s : State) (n : Nat) : List (Nat × Nat) := (s.podsOf n).map (fun p => (p, s.rd F.ENG_PM_PAD_PAD p))

/-- R235: the checks of the PAD words at a deadline. -/
def State.padErr (s : State) (n : Nat) : Option (Nat × Nat) :=
  let ws := s.padWords n
  match ws with
  | [] => none
  | (_, v) :: _ =>
    match ws.find? (fun e => e.2 / 65536 != v / 65536) with
    | some e => some (erLockstep, e.1)
    | none => s.vecErr n (vwTset v)

/-- A pin code with its compares left out (R234). -/
def padCode (c : Nat) : Nat := if 4 ≤ c ∧ c ≤ 7 ∨ c = 9 ∨ c = 10 then 8 else c

/-- One pad period of a gang starts at tick `t0`. -/
def State.launchPad (s : State) (n : Nat) (t0 : Stamp) : State :=
  let ws := s.padWords n
  let k := match ws with | [] => 0 | e :: _ => vwTset e.2
  let s := ws.foldl (fun s (w : Nat × Nat) =>
    match s.tset w.1 k with
    | none => s
    | some ts =>
      let s := s.bump F.ENG_PM_PADN_PADN 1 w.1
      (List.range 4).foldl (fun s i => s.placePin w.1 i ts (padCode (vwPin w.2 i)) 0 true true true t0) s) s
  let period := match s.tset (s.lead n) k with | some t => t.period | none => 1
  let g := s.gang n
  (s.setGang n { g with pinEnd := after t0 period }).fix n

/-- A gang halts with UNDERRUN (R234, R235). -/
def State.underrunHalt (s : State) (n pol : Nat) : State :=
  let g := s.gang n
  let s := s.closeCross n
  let s := (s.setGang n { s.gang n with cross := none }).wrAll F.ENG_PM_STAT_LASTPOL pol (s.podsOf n)
  s.engineErr n .main erUnderrun g.seqNext g.main.pc (s.lead n)

/-- R233, R240: the under-run deadline of a wait at a crossing. -/
def State.underrun (s : State) (n : Nat) (c : Cross) : State :=
  let ps := s.podsOf n
  let lead := s.lead n
  let e := s.seg lead c.seg
  let s := ps.foldl (fun s p => ((s.wr F.ENG_PM_STAT_UR 1 p).bump F.ENG_PM_UR_UR 1 p).pulse 0x08 p) s
  let s := if c.strm then
      let p := ps.foldl (fun (b : Nat) (p : Nat) => if (s.seg p c.seg).got < (s.seg b c.seg).got then p else b) lead
      s.streamUr p e.slot (s.seg p c.seg).got s.now
    else s
  if e.policy = 0 then s.underrunHalt n 1
  else if e.policy = 1 then
    match s.padErr n with
    | some (code, pod) =>
      let g := s.gang n
      (s.setGang n { g with cross := none }).engineErr n .main code g.seqNext g.main.pc pod
        (match s.padWords n with | [] => [] | e :: _ => s.lackSet n (vwTset e.2))
    | none =>
      let s := s.wrAll F.ENG_PM_STAT_LASTPOL 2 ps
      s.setGang n { s.gang n with cross := some { c with ur := some (2, s.now) } }
  else
    let s := s.wrAll F.ENG_PM_STAT_LASTPOL 3 ps
    s.setGang n { s.gang n with cross := some { c with ur := some (3, s.now) } }

/-! ### Safe points and stops -/

/-- R158, R216, R428: the gang saves itself at a PSAFE's boundary tick and stops there. -/
def State.takeSafe (s : State) (n : Nat) : State :=
  match (s.gang n).safePoint with
  | none => s
  | some m =>
    match m.bt with
    | none => s
    | some b =>
      if reached b s.now = false ∨ m.ok = false then s else
      let s := s.squash n m.seq m.ix (fun x => decide (x.2 < (m.th.micro x.1).podIx))
      let g := s.gang n
      let s := s.setGang n { g with
        main := m.th
        safes := []
        sprout := none
        seqNext := g.seqNext + 1 }
      (s.setGstate n stSaved).publish n

/-- Whether a pod within a routine is at a commit point in the present tick: the micro-op with C has ended, or it is in a WAIT
(R181). -/
def MicroSt.atCommit (x : MicroSt) (now : Stamp) : Bool := x.commitPt && !x.region && reached x.ready now

/-- A wait of a factory word in which a stop can be taken: its engines are in the WAIT of its routine, and nothing after it has been
launched (R175, R182). -/
def Gang.stopWait (g : Gang) : Option GWait :=
  match g.wait with
  | some w => if w.micro = false ∧ g.launched ≤ w.seq ∧ g.clearBefore w.seq wordEnd = true then some w else none
  | none => none

/-- R182, R217: whether the gang is at a point where it can take a stop: `some true` at a dispatch. -/
def State.stopPoint (s : State) (n : Nat) : Option Bool :=
  let g := s.gang n
  if g.stopWait.isSome then some false
  else if g.ckpts.any (·.open_) then none
  else if g.main.inRoutine = false then some true
  else if (s.podsOf n).all (fun p => (g.main.micro p).atCommit s.now) then some false
  else none

/-- R182, R217: the gang stops. In the wait of a factory word everything after it is squashed, to be dispatched again on resume. -/
def State.takeStop (s : State) (n cause : Nat) (atWord : Bool) : State :=
  let s := match (s.gang n).stopWait with
    | some w => (s.squash n w.seq).setGang n { (s.squash n w.seq).gang n with main := w.th, seqNext := (s.gang n).seqNext + 1 }
    | none => s
  let g := s.gang n
  let ps := s.podsOf n
  let s := s.setGang n { g with stopReq := none, stopped := true, sprout := none, stepped := false }
  let s := (s.wrAll F.ENG_USTAT_STOPPED 1 ps).wrAll F.ENG_USTAT_ATWORD (ofBool atWord) ps
  (s.wrAll F.ENG_USTAT_SCAUSE cause ps).publish n

/-- R183: a stopped gang resumes; its next vector starts no earlier than 64 ticks from now. -/
def State.resumeGang (s : State) (n : Nat) (step : Bool) : State :=
  let g := s.gang n
  let s := s.clearStopped n
  let s := s.setGang n { g with
    stopped := false
    stopReq := if step then some 2 else none
    stepped := false
    noGap := true
    pinEnd := later g.pinEnd (after s.now 64)
    main := { g.main with nextDisp := s.slotted n (later g.main.nextDisp s.now) g.main.dispT } }
  s.settle n

/-- A stop request of a cause reaches a gang (R182): 0 software, 1 breakpoint. -/
def State.requestStop (s : State) (n cause : Nat) : State :=
  let g := s.gang n
  if s.running n = false ∨ g.stopped = true then s
  else if g.stopReq.isSome then s else s.setGang n { g with stopReq := some cause }

end Sys2Proof.Machine
end

