-- ==== Sys2Proof/Machine/Words.lean ====
section
/-! DEFINITION. The meanings of the program words (R122 to R166, R191 to R194): each is dispatched where the gang's
path stands at a word of its opcode. -/

namespace Sys2Proof.Machine

open Sys2Proof

/-- The outcome of a machine that goes on. -/
abbrev Out := Host.Outcome State Fault Refusal

/-- VEC, R140. -/
def execVec (site : SiteId) (path : Path) (s : State) : Out :=
  .next (s.dispatchOp site path opVec vecEffect)

/-- LOOP, R141. -/
def execLoop (site : SiteId) (path : Path) (s : State) : Out :=
  .next (s.dispatchOp site path opLoop loopEffect)

/-- ENDL, R141. -/
def execEndl (site : SiteId) (path : Path) (s : State) : Out :=
  .next (s.dispatchOp site path opEndl endlEffect)

/-- JMP, R143. -/
def execJmp (site : SiteId) (path : Path) (s : State) : Out :=
  .next (s.dispatchOp site path opJmp jmpEffect)

/-- CALL, R142. -/
def execCall (site : SiteId) (path : Path) (s : State) : Out :=
  .next (s.dispatchOp site path opCall callEffect)

/-- RET, R142. -/
def execRet (site : SiteId) (path : Path) (s : State) : Out :=
  .next (s.dispatchOp site path opRet retEffect)

/-- MATCH, R146. -/
def execMatchW (site : SiteId) (path : Path) (s : State) : Out :=
  .next (s.dispatchOp site path opMatch matchEffect)

/-- JFAIL, R144. -/
def execJfail (site : SiteId) (path : Path) (s : State) : Out :=
  .next (s.dispatchOp site path opJfail (condEffect true))

/-- JPASS, R144. -/
def execJpass (site : SiteId) (path : Path) (s : State) : Out :=
  .next (s.dispatchOp site path opJpass (condEffect false))

/-- WAITT, R148. -/
def execWaitt (site : SiteId) (path : Path) (s : State) : Out :=
  .next (s.dispatchOp site path opWaitt waittEffect)

/-- WAITEV, R149. -/
def execWaitev (site : SiteId) (path : Path) (s : State) : Out :=
  .next (s.dispatchOp site path opWaitev waitevEffect)

/-- GSYNC, R150. -/
def execGsync (site : SiteId) (path : Path) (s : State) : Out :=
  .next (s.dispatchOp site path opGsync gsyncEffect)

/-- SETLVL, R152. -/
def execSetlvl (site : SiteId) (path : Path) (s : State) : Out :=
  .next (s.dispatchOp site path opSetlvl setlvlEffect)

/-- SETLOAD, R152. -/
def execSetload (site : SiteId) (path : Path) (s : State) : Out :=
  .next (s.dispatchOp site path opSetload setloadEffect)

/-- CNT, R154. -/
def execCnt (site : SiteId) (path : Path) (s : State) : Out :=
  .next (s.dispatchOp site path opCnt cntEffect)

/-- LOGON, R153. -/
def execLogon (site : SiteId) (path : Path) (s : State) : Out :=
  .next (s.dispatchOp site path opLogon (logEffect true))

/-- LOGOFF, R153. -/
def execLogoff (site : SiteId) (path : Path) (s : State) : Out :=
  .next (s.dispatchOp site path opLogoff (logEffect false))

/-- MEAS, R155. -/
def execMeas (site : SiteId) (path : Path) (s : State) : Out :=
  .next (s.dispatchOp site path opMeas measEffect)

/-- AWG, R156. -/
def execAwg (site : SiteId) (path : Path) (s : State) : Out :=
  .next (s.dispatchOp site path opAwg awgEffect)

/-- PSAFE, R158, R426: a pre-emption takes the first safe point whose boundary it allows; otherwise the word is
dispatched. -/
def execPsafe (site : SiteId) (path : Path) (s : State) : Out :=
  .next (match path with
    | .main => if ((s.gang site).safePoint).isSome then s.takeSafe site else s.dispatchOp site path opPsafe psafeEffect
    | .sprout => s.dispatchOp site path opPsafe psafeEffect)

/-- LEDG, R159. -/
def execLedg (site : SiteId) (path : Path) (s : State) : Out :=
  .next (s.dispatchOp site path opLedg ledgEffect)

/-- HALT, R160. -/
def execHalt (site : SiteId) (path : Path) (s : State) : Out :=
  .next (s.dispatchOp site path opHalt haltEffect)

/-- NOP, R160. -/
def execNop (site : SiteId) (path : Path) (s : State) : Out :=
  .next (s.dispatchOp site path opNop nopEffect)
/-- ILLEGAL_OPCODE, R125: a word whose opcode has no routine. -/
def execIllegalOpcode (site : SiteId) (path : Path) (s : State) : Out :=
  .next (s.dispatch site path false (fun op => !factoryOps.contains op && (s.userEntry site op).isNone) illegalEffect)

/-- USER_OPCODE, R164, R166: a word whose opcode names a user routine. -/
def execUserOpcode (site : SiteId) (path : Path) (s : State) : Out :=
  .next (s.dispatch site path false (fun op => (s.userEntry site op).isSome) userEffect)

/-- SHORT_WORD, R191 to R194: a short word, expanded and carried out as the native word it stands for. -/
def execShortWord (site : SiteId) (path : Path) (s : State) : Out :=
  .next (s.dispatch site path true (fun _ => true) wordEffect)

/-- The opcodes whose factory routine is a fused micro-op (R175): every opcode of R124 whose routine is not made of
other micro-ops. -/
def fusedOps : List Nat :=
  [opVec, opLoop, opEndl, opJmp, opMatch, opJfail, opJpass, opCnt, opLogon, opLogoff, opPsafe, opHalt, opNop]

/-- FUSED, R175: a factory fused micro-op carries out the routine it belongs to. -/
def execFused (site : SiteId) (path : Path) (s : State) : Out :=
  .next (if path = .main ∧ ((s.gang site).safePoint).isSome = true then s.takeSafe site
    else s.dispatch site path false (fun op => fusedOps.contains op) wordEffect)

end Sys2Proof.Machine
end

