-- ==== Sys2Proof/Machine/MicroRows.lean ====
section
/-! DEFINITION. The meanings of the micro-operations (R167 to R173), one engine and path each. -/

namespace Sys2Proof.Machine

open Sys2Proof

/-- UNOP: no effect. R171. -/
def execUUnop (pod : PodId) (path : Path) (s : State) : Out :=
  .next (s.microPure pod path 0x00 (fun x _ => x))

/-- MOV: rd ← ra. R171. -/
def execUMov (pod : PodId) (path : Path) (s : State) : Out :=
  .next (s.microPure pod path 0x01 (fun x m => x.setReg (uRd m) (x.reg (uRa m))))

/-- LDI: rd ← imm17, zero-extended. R171. -/
def execULdi (pod : PodId) (path : Path) (s : State) : Out :=
  .next (s.microPure pod path 0x02 (fun x m => x.setReg (uRd m) (uImm17 m)))

/-- LDH: rd[31:17] ← imm17[14:0]; rd[16:0] kept. R171. -/
def execULdh (pod : PodId) (path : Path) (s : State) : Out :=
  .next (s.microPure pod path 0x03 (fun x m => x.setReg (uRd m) (uImm17 m % 2 ^ 15 * 2 ^ 17 + x.reg (uRd m) % 2 ^ 17)))

/-- ADD: rd ← ra + src, flags. R171. -/
def execUAdd (pod : PodId) (path : Path) (s : State) : Out :=
  .next (s.microPure pod path 0x04 (fun x m => x.alu m 4))

/-- SUB: rd ← ra − src, flags. R171. -/
def execUSub (pod : PodId) (path : Path) (s : State) : Out :=
  .next (s.microPure pod path 0x05 (fun x m => x.alu m 5))

/-- AND: rd ← ra ∧ src, flags. R171. -/
def execUAnd (pod : PodId) (path : Path) (s : State) : Out :=
  .next (s.microPure pod path 0x06 (fun x m => x.alu m 6))

/-- OR: rd ← ra ∨ src, flags. R171. -/
def execUOr (pod : PodId) (path : Path) (s : State) : Out :=
  .next (s.microPure pod path 0x07 (fun x m => x.alu m 7))

/-- XOR: rd ← ra xor src, flags. R171. -/
def execUXor (pod : PodId) (path : Path) (s : State) : Out :=
  .next (s.microPure pod path 0x08 (fun x m => x.alu m 8))

/-- SHL: rd ← ra shifted left by src[4:0]; Z, N. R171. -/
def execUShl (pod : PodId) (path : Path) (s : State) : Out :=
  .next (s.microPure pod path 0x09 (fun x m => x.shift m true))

/-- SHR: rd ← ra shifted right by src[4:0]; Z, N. R171. -/
def execUShr (pod : PodId) (path : Path) (s : State) : Out :=
  .next (s.microPure pod path 0x0A (fun x m => x.shift m false))

/-- FLD: rd ← a field of W. R171. -/
def execUFld (pod : PodId) (path : Path) (s : State) : Out :=
  .next (s.microPure pod path 0x0B (fun x m => x.fld m))

/-- CMP: flags of ra − src. R171. -/
def execUCmp (pod : PodId) (path : Path) (s : State) : Out :=
  .next (s.microPure pod path 0x0C (fun x m => x.cmp m))

/-- GETS: rd ← a selector of R170. R171. -/
def execUGets (pod : PodId) (path : Path) (s : State) : Out :=
  .next (s.micro pod path 0x0D (getsAct) (fun _ _ => none))

/-- UBR: the micro-PC branches where the condition holds. R171. -/
def execUUbr (pod : PodId) (path : Path) (s : State) : Out :=
  .next (s.micro pod path 0x10 (fun _ x s => .go x s) (fun x m => if x.ubr (uRd m) then some (m % 2048) else none))

/-- UCALL, R176: pushes micro-PC + 1 and branches; a ninth push is USTK_OVF. R171. -/
def execUUcall (pod : PodId) (path : Path) (s : State) : Out :=
  .next (s.micro pod path 0x11 (fun _ x s => if x.ustack.length ≥ 8 then .err erUstkOvf else .go { x with ustack := (x.upc + 1) % 2048 :: x.ustack } s) (fun _ m => some (m % 2048)))

/-- URET, R176: the micro-PC takes the popped entry; an empty stack is USTK_UNF. R171. -/
def execUUret (pod : PodId) (path : Path) (s : State) : Out :=
  .next (s.micro pod path 0x12 (fun _ x s => match x.ustack with
    | [] => .err erUstkUnf
    | _ :: t => .go { x with ustack := t } s) (fun x _ => x.ustack.head?))

/-- SETPC: NPC ← ra[21:0]. R171. -/
def execUSetpc (pod : PodId) (path : Path) (s : State) : Out :=
  .next (s.micro pod path 0x13 (fun c x s => .go { x with npc := PAddr.ofNum (x.reg (uRa c.m)) } s) (fun _ _ => none))

/-- ISSUE: a vector joins the output queue. R171. -/
def execUIssue (pod : PodId) (path : Path) (s : State) : Out :=
  .next (s.micro pod path 0x14 (issueAct) (fun _ _ => none))

/-- LSTK: loop-stack push, decrement, pop. R171. -/
def execULstk (pod : PodId) (path : Path) (s : State) : Out :=
  .next (s.micro pod path 0x15 (lstkAct) (fun _ _ => none))

/-- CSTK: call-stack push, pop. R171. -/
def execUCstk (pod : PodId) (path : Path) (s : State) : Out :=
  .next (s.micro pod path 0x16 (cstkAct) (fun _ _ => none))

/-- MCTR: match counter load, decrement, idle. R171. -/
def execUMctr (pod : PodId) (path : Path) (s : State) : Out :=
  .next (s.micro pod path 0x17 (mctrAct) (fun _ _ => none))

/-- COND: rd and Z from a condition. R171. -/
def execUCond (pod : PodId) (path : Path) (s : State) : Out :=
  .next (s.micro pod path 0x18 (condAct) (fun _ _ => none))

/-- SEFX, R172: a side effect is posted. R171. -/
def execUSefx (pod : PodId) (path : Path) (s : State) : Out :=
  .next (s.micro pod path 0x1C (sefxAct) (fun _ _ => none))

/-- WAIT, R173. R171. -/
def execUWait (pod : PodId) (path : Path) (s : State) : Out :=
  .next (s.micro pod path 0x1D (waitAct) (fun _ _ => none))

/-- UERR: the gang halts with 0x18 + imm17[2:0]. R171. -/
def execUUerr (pod : PodId) (path : Path) (s : State) : Out :=
  .next (s.micro pod path 0x1E (fun c _ _ => .err (0x18 + uImm17 c.m % 8)) (fun _ _ => none))

/-- SAFEPT, R158: as PSAFE. R171. -/
def execUSafept (pod : PodId) (path : Path) (s : State) : Out :=
  .next (s.micro pod path 0x1F (safeptAct) (fun _ _ => none))

/-- GHALT: as HALT. R171. -/
def execUGhalt (pod : PodId) (path : Path) (s : State) : Out :=
  .next (s.micro pod path 0x20 (ghaltAct) (fun _ _ => none))

end Sys2Proof.Machine
end

