-- ==== Sys2Proof/Machine/RunAhead.lean ====
section
/-! DEFINITION. The meanings of run-ahead: commits, launches, resolutions, waits, stops, queries (chapters 05 to 07).
A command whose moment has not come leaves the state as it is (assumption 1). -/

namespace Sys2Proof.Machine

open Sys2Proof

/-- SIDE_EFFECT_COMMIT, R205, R206, R180: the first entry in program order that can commit does, with its region;
ledger entries commit by LEDGER_COMMIT. -/
def execSideEffectCommit (site : SiteId) (s : State) : Out :=
  let g := s.gang site
  .next (match g.seb.find? (fun e => g.canCommit s.now e && !g.ledgWith e) with
    | some e => s.commit site e
    | none => s)

/-- LEDGER_COMMIT, R159, R281: the first LEDG of the site commits, with its region. -/
def execLedgerCommit (site : SiteId) (s : State) : Out :=
  let g := s.gang site
  .next (match g.seb.find? (fun e => e.eff.isLedg) with
    | some e => if g.canCommit s.now e then s.commit site e else s
    | none => s)

/-- LEDGER_HOLD_RELEASE, R281: the oldest held commit of a site takes its slot once one outside the reserve is free. -/
def execLedgerHoldRelease (site : SiteId) (s : State) : Out :=
  .next (
    if s.ledgCommitted ≥ 65536 - 128 then s else
    match s.ledgq.find? (fun e => e.hold && e.site == site.val) with
    | none => s
    | some e =>
      let q := s.ledgq.erase e ++ [{ e with hold := false, commitT := s.now }]
      { s with ledgq := q }.wr F.LEDG_STAT_HOLDING (ofBool (q.any (·.hold))))

/-- LEDGER_ENTRY_VISIBLE, R280: the next committed entry is written at LEDG_WR. -/
def execLedgerEntryVisible (s : State) : Out := .next s.ledgerVisible

/-- Hold ticks before a vector are gaps (R132), counted apart where the vector was in its queue at its launch tick
(R197). -/
def State.countHold (s : State) (n : Nat) (e : OqEntry) (due t0 : Stamp) : State :=
  if ahead t0 due ≤ 0 ∨ (s.gang n).noGap = true then s
  else s.countGap n ((t0 - due).toNat / 1024) (decide (ahead e.inAt (due - ticks 48) ≤ 0)) e.seq

/-- The tick in which a period launched now starts: 48 ticks on, or when the last ends (R197); after a wait that timed out in the tick
of its end (R149, R151). -/
def Gang.startNow (g : Gang) (due now : Stamp) : Stamp :=
  if g.noLead then (if ahead now (after due 1) ≤ 0 then due else now) else later due (after now 48)

/-- VECTOR_LAUNCH, R197, R132, R210, R234: the next period of the output queue is launched 48 ticks before it starts,
or later with hold ticks; with the queue empty and PAD in force, the next pad period. -/
def execVectorLaunch (site : SiteId) (s : State) : Out :=
  let n := site.val
  let s := s.fix n
  let g := s.gang n
  let st := s.gstate n
  .next (
    if !g.prep || !(st == stArmed || st == stRun || st == stWait || st == stBarrier) then s else
    match g.oq with
    | e :: _ =>
      let due := g.edge e.seq
      let t0 := g.startNow due s.now
      let soon := decide (ahead due (after s.now 48) ≤ 0)
      let waits := match g.wait with | some w => decide (w.seq < e.seq) && w.endAt.isNone | none => false
      let saved := match g.safePoint with | some m => decide (m.seq < e.seq) || (m.seq == e.seq && decide (m.ix ≤ e.ix)) | none => false
      let lost := match g.held with | some h => decide (h.seq ≤ e.seq) | none => false
      if !soon || waits || saved || lost || !g.complete e.seq e.ix || !g.shadowAllows e.seq e.ix t0 then s else
      let s := s.countHold n e due t0
      let s := s.launch n e t0
      (s.setGang n { s.gang n with noGap := false, noLead := false, launched := e.seq + 1 }).raiseErr n
    | [] =>
      let t0 := later g.pinEnd (after s.now 48)
      match g.cross with
      | some c => if decide (ahead g.pinEnd (after s.now 48) ≤ 0) && (match c.ur with | some u => u.1 == 2 | none => false)
          then s.launchPad n t0 else s
      | none => s)

/-- The tick in which a launched vector resolves (R199). -/
def Flight.due (f : Flight) : Stamp := match f.dec with | some d => after f.t0 d | none => f.launch

/-- Whether a launched vector can resolve: its tick has come, its compares have been judged, and no MATCH before it still has to
decide on the same tag. -/
def State.flightReady (s : State) (n : Nat) (f : Flight) : Bool :=
  let g := s.gang n
  let judged := (s.pinsOf n).all (fun q => (s.pin q).cmp.all (fun e => e.pos != f.pos)) || f.left != 2
  let earlier := g.flights.takeWhile (fun x => x != f)
  let tag := vwTag f.vw
  let decideFirst := g.ckpts.any (fun c => match c.kind with
    | .mtch _ _ t _ _ (i :: _) => t == tag && decide (i.seq ≤ f.seq) && (match g.tagDue i.seq t with
        | some d => reached d s.now && !(g.flights.any (fun x => decide (x.seq < i.seq) && vwTag x.vw == t))
        | none => false)
    | _ => false)
  reached f.due s.now && judged && !decideFirst
    && !(tag != 0 && earlier.any (fun x => vwTag x.vw == tag && reached x.due s.now))

/-- VECTOR_RESOLVE, R199, R128, R137: the first launched vector, in program order, whose resolution tick has come takes its
outcome: a compare-free one at its launch, whatever is in flight before it. -/
def execVectorResolve (site : SiteId) (s : State) : Out :=
  let n := site.val
  let g := s.gang n
  .next (match g.flights.find? (s.flightReady n) with
    | none => s
    | some f =>
      let tag := vwTag f.vw
      let nofail := vwNofail f.vw
      let hit (c : Ckpt) : Ckpt := match c.kind with
        | .user onFail tags bad ix =>
          if c.seq ≤ f.seq then c else
          let bad' := if tag != 0 && hasBit tags tag then (if f.failed then withBit bad tag else Nat.land bad (2 ^ 16 - 1 - 2 ^ tag)) else bad
          { c with kind := .user onFail tags bad' ix, taken := c.taken && !(f.failed && onFail && !nofail) }
        | _ => c
      let s := s.setGang n { g with
        flights := g.flights.erase f
        tagD := if tag = 0 ∨ f.seq + 1 < g.tagSeq.at 0 tag then g.tagD else g.tagD.set 0 tag f.due
        ckpts := g.ckpts.map hit }
      let s := s.setTagAt n tag (if f.failed then 2 else 1) f.seq
      let s := if f.failed ∧ nofail = false then s.siteFail n f.seq f.pos else s
      s.settle n)

/-- BRANCH_RESOLVE, R200, R213: the oldest speculative JFAIL, JPASS or user word whose condition is known resolves. -/
def execBranchResolve (site : SiteId) (s : State) : Out :=
  let n := site.val
  let g := s.gang n
  let known (c : Ckpt) : Bool := match c.kind with
    | .cond _ cond idx imm _ _ => (s.evalCond n .main c.alt c.seq cond idx imm).isSome
    | .user onFail tags _ _ => !c.taken || !g.userOpen c.seq onFail tags
    | .mtch .. => false
  .next (match g.ckpts.find? known with
    | none => s
    | some c =>
      match c.kind with
      | .cond isFail cond idx imm _ _ =>
        (match s.evalCond n .main c.alt c.seq cond idx imm with
         | some v => s.resolveCond n c isFail v
         | none => s)
      | .user .. => s.resolveUser n c
      | .mtch .. => s)

/-- MATCH_DECISION, R210 to R213: the oldest open decision of an armed MATCH, or of an exhausted one, is taken. -/
def execMatchDecision (site : SiteId) (s : State) : Out :=
  let n := site.val
  let g := s.gang n
  .next (match g.ckpts.find? (fun c => match c.kind with | .mtch _ _ _ _ _ (_ :: _) => true | _ => false) with
    | some c =>
      (match c.kind with
       | .mtch hintExit _ tag _ _ (i :: its) =>
         (match s.evalCond n .main i.th i.seq 1 tag 0 with
          | none => s
          | some 0 => s.matchPass n c hintExit (i :: its) (g.tagD.at 0 tag)
          | some _ =>
            let s := s.countRes n 1
            let s := if hintExit then s.countMisp n else s
            let up (k : Ckpt) : Ckpt := if k.seq = c.seq then
              { k with kind := (match k.kind with | .mtch h f tg l a _ => .mtch h f tg l a its | o => o) } else k
            let g := s.gang n
            let left := its.isEmpty && g.exh.any (fun e => decide (c.seq < e.seq))
            (s.setGang n { g with ckpts := (g.ckpts.map up).filter (fun k => !(left && k.seq == c.seq)) }).settle n)
       | _ => s)
    | none =>
      match g.exh with
      | e :: _ =>
        (match s.evalCond n .main g.main e.seq 1 e.tag 0 with
         | none => s
         | some v => (s.endExhausted n e (v == 0) 0 false).settle n)
      | [] => s)

/-- Whether a wait of a gang may end: the gang is not stopped (R183), and no branch before the wait is unresolved (R205). -/
def Gang.mayEnd (g : Gang) (w : GWait) : Bool := !g.stopped && g.clearBefore w.seq w.ix

/-- WAITT_END, R148: the wait ends at its target; a target already past at the boundary tick sets WLATE. -/
def execWaittEnd (site : SiteId) (s : State) : Out :=
  let n := site.val
  let g := s.gang n
  .next (match g.wait with
    | some w =>
      (match w.kind, w.bt, w.endAt with
       | .time base1 k, some b, some t =>
         if reached t s.now = false ∨ g.mayEnd w = false then s else
         let target := after (if base1 then b else g.startT) k
         let s := if ahead target b > 0 then s else s.wr F.SITE_PSTAT_WLATE 1 n
         s.endWait n true t
       | .commit, _, some t => if reached t s.now && g.mayEnd w then s.endWait n true t else s
       | _, _, _ => s)
    | none => s)

/-- WAITEV_EVENT, R149: the wait ends with PASS 64 ticks after a satisfying event reached the engines. -/
def execWaitevEvent (site : SiteId) (s : State) : Out :=
  let n := site.val
  .next (match (s.gang n).wait with
    | some w =>
      (match w.kind, w.endAt with
       | .event _ (some _), some t => if reached t s.now && (s.gang n).mayEnd w then s.endWait n true t else s
       | _, _ => s)
    | none => s)

/-- WAITEV_TIMEOUT, R149: no satisfying event came in time: FAIL and ETO. An event of the timeout's own tick wins, so the wait ends
once that tick is past. -/
def execWaitevTimeout (site : SiteId) (s : State) : Out :=
  let n := site.val
  .next (match (s.gang n).wait with
    | some w =>
      (match w.kind, w.timeout with
       | .event _ none, some t =>
         if decide (ahead s.now t > 0) && (s.gang n).mayEnd w then (s.pflag n 2).endWait n false t else s
       | _, _ => s)
    | none => s)

/-- BARRIER_RELEASE, R150: every member of a STEP_RUN's barrier has arrived; each starts its next vector 96 ticks
after the later of the last arrival and the last change of membership. -/
def execBarrierRelease (qp : QpId) (cid : Nat) (bar : Nat) (s : State) : Out :=
  .next (match s.runs.find? (fun r => r.qp == qp.val && r.cid == cid && r.started) with
    | none => s
    | some r =>
      let ms := s.members r
      let at_ := ms.filterMap (fun n => (s.gang n).arrivedAt bar)
      if ms = [] ∨ at_.length ≠ ms.length ∨ at_.any (fun t => !reached t s.now) = true then s else
      let last := match r.memT with | some t => at_.foldl later t | none => match at_ with | [] => s.now | t :: ts => ts.foldl later t
      ms.foldl (fun s n =>
        let g := s.gang n
        let g := { g with wait := g.wait.map (fun w => { w with endAt := some (after last 96) }) }
        (s.setGang n g).fix n) s)

/-- R151: a gang that times out leaves the arrived set: a barrier that it had arrived at, and that has not released yet, does not. -/
def State.leaveBarrier (s : State) (n : Nat) : State :=
  match (s.gang n).wait with
  | none => s
  | some w =>
    match w.kind, w.endAt with
    | .barrier bar _, some t =>
      let others := (s.runs.filter (fun r => r.started && r.sites.contains n)).flatMap s.members
      others.foldl (fun s m =>
        let g := s.gang m
        s.setGang m { g with wait := g.wait.map (fun v => match v.kind with
          | .barrier b _ => if b = bar ∧ v.endAt = some t ∧ m ≠ n then { v with endAt := none } else v
          | _ => v) }) s
    | _, _ => s

/-- GSYNC_TIMEOUT, R151, and the end of a wait at a released barrier (R150): with PASS in the release tick, else
with FAIL and BTO at the timeout. -/
def execGsyncTimeout (site : SiteId) (s : State) : Out :=
  let n := site.val
  .next (match (s.gang n).wait with
    | some w =>
      if (s.gang n).mayEnd w = false then s else
      (match w.kind, w.endAt, w.timeout with
       | .barrier .., some t, some o =>
         if ahead t o > 0 ∧ reached o s.now = true then ((s.leaveBarrier n).pflag n 1).endWait n false o
         else if reached t s.now then s.endWait n true t else s
       | .barrier .., none, some o => if reached o s.now then (s.pflag n 1).endWait n false o else s
       | _, _, _ => s)
    | none => s)

/-- MEAS_WAIT_END, R155: the pins go on 64 ticks after the result was written. -/
def execMeasWaitEnd (site : SiteId) (s : State) : Out :=
  let n := site.val
  .next (match (s.gang n).wait with
    | some w =>
      (match w.kind, w.endAt with
       | .meas _, some t => if reached t s.now && (s.gang n).mayEnd w then s.endWait n true t else s
       | _, _ => s)
    | none => s)

/-- ENG_UCTL_STOP, R182: a stop request by any pod of a running gang; to a pod of none it is ignored. -/
def execEngUctlStop (pod : PodId) (s : State) : Out :=
  .next (match s.siteOfPod pod with
    | none => s
    | some n => if s.running n then (s.wr F.ENG_UCTL_STOP 1 pod).requestStop n 0 else s)

/-- STOP_TAKEN, R182, R217. -/
def execStopTaken (site : SiteId) (s : State) : Out :=
  let n := site.val
  let g := s.gang n
  .next (match g.stopReq with
    | none => s
    | some k =>
      if g.stopped = true ∨ s.running n = false ∨ (k = 2 ∧ g.stepped = false) then s else
      match s.stopPoint n with
      | some w => s.takeStop n k w
      | none => s)

/-- ENG_UCTL_RESUME, R183. -/
def execEngUctlResume (pod : PodId) (s : State) : Out :=
  .next (match s.siteOfPod pod with
    | none => s
    | some n => if (s.gang n).stopped then s.resumeGang n false else s)

/-- ENG_UCTL_STEP, R184. -/
def execEngUctlStep (pod : PodId) (s : State) : Out :=
  .next (match s.siteOfPod pod with
    | none => s
    | some n => if (s.gang n).stopped then s.resumeGang n true else s)

/-- BREAKPOINT, R186: the micro-op at ENG_UBRK.UADDR that the pod has run commits, every branch before it being resolved. -/
def execBreakpoint (pod : PodId) (s : State) : Out :=
  .next (match s.siteOfPod pod with
    | none => s
    | some n =>
      let g := s.gang n
      if s.running n = false ∨ g.stopped = true then s else
      match g.brks.find? (fun e => e.2 == pod.val && g.clearBefore e.1 wordEnd) with
      | none => s
      | some e => (s.setGang n { g with brks := g.brks.erase e }).requestStop n 1)

/-- ROUTINE_LIMIT, R179: a routine has run more than (ULIM + 1) × 64 cycles. -/
def execRoutineLimit (site : SiteId) (s : State) : Out :=
  let n := site.val
  let g := s.gang n
  .next (if g.prep = false then s
    else if s.pastLimit n g.main then s.engineErr n .main erUlong g.main.wordSeq g.main.word (s.lead n)
    else match g.sprout with
      | some x => if s.pastLimit n x.th then s.stopSprout n 6 else s
      | none => s)

/-- ENG_RA_CTL_PCLR, R203: every predictor counter takes 0b01. -/
def execEngRaCtlPclr (pod : PodId) (s : State) : Out := .next (s.setPod pod { s.pod pod with pred := [] })

/-- ENG_RA_QSET, R212: the query takes a timing set; its results follow at each read. -/
def execEngRaQset (pod : PodId) (value : BitVec 32) (s : State) : Out :=
  .next ((s.wr F.ENG_RA_QSET_TSET (bits value.toNat 5 0) pod).wr F.ENG_RA_QSET_GANG (bit value.toNat 6) pod)

end Sys2Proof.Machine
end

