-- ==== Sys2Proof/Machine/Pattern.lean ====
section
/-! DEFINITION. The meanings of segment crossings, under-run, retirement, refill and rewind (R224 to R235). -/

namespace Sys2Proof.Machine

open Sys2Proof

/-- Whether the main path of a gang could dispatch but for a wait at a crossing. -/
def State.atCross (s : State) (n : Nat) : Bool :=
  let g := s.gang n
  let st := s.gstate n
  g.prep && !g.stopped && g.held.isNone && !g.main.inRoutine && reached g.main.nextDisp s.now && !g.stopDue
    && (st == stArmed || st == stRun || st == stWait || st == stBarrier)

/-- SEGMENT_CROSSING, R226, R233, R240: the main path continues at NEXT:0, or at the next stream granule, waits for it,
or halts with SEGEND or XKIND, whichever pod's entry calls for it; pods whose NEXT differ are out of lockstep (R134). -/
def execSegmentCrossing (site : SiteId) (s : State) : Out :=
  let n := site.val
  let g := s.gang n
  let lead := s.lead n
  .next (
    if s.atCross n = false then s else
    match s.crossAt n with
    | none => s
    | some a =>
      let x := s.seg lead g.main.pc.seg
      let crossing := s.pastEnd lead g.main.pc
      let bad (f : Nat → Bool) : Option Nat := if crossing then (s.podsOf n).find? f else none
      if crossing ∧ (match g.cross with | some c => c.ur.isSome | none => false) = true then s
      else match bad (fun p => !(s.seg p g.main.pc.seg).nextV) with
      | some p => s.engineErr n .main erSegend g.seqNext g.main.pc p
      | none =>
        match bad (fun p => (s.seg p (s.seg p g.main.pc.seg).next).st == sgUndef || (s.seg p (s.seg p g.main.pc.seg).next).kind == kdWave) with
        | some p => s.engineErr n .main erXkind g.seqNext g.main.pc p
        | none =>
          match bad (fun p => (s.seg p g.main.pc.seg).next != x.next) with
          | some p => s.engineErr n .main erLockstep g.seqNext g.main.pc p
          | none =>
            if s.allReady n a then
              (match g.cross with
               | some c => if c.ur.isSome then s else s.crossTo n a
               | none => if crossing then s.crossTo n a else s)
            else
              let s := (s.podsOf n).foldl (fun s p => s.urgent p a.seg) s
              match g.cross with
              | some _ => s
              | none => s.setGang n { s.gang n with cross := some ⟨a.seg,
                  if g.clearBefore g.seqNext wordEnd then some s.now else none, (s.seg lead a.seg).kind == kdStream, none⟩ })

/-- Whether a gang's wait has reached its deadline (R233): the first launch tick at which the output queue is empty; a wait on an
unresolved path has none (R215). -/
def State.urDue (s : State) (n : Nat) (c : Cross) : Bool :=
  let g := s.gang n
  let waits := match g.wait with | some w => w.endAt.isNone | none => false
  let there := match s.crossAt n with | some a => s.allReady n a | none => true
  !(c.ur.isSome || !g.oq.isEmpty || waits || !decide (ahead g.pinEnd (after s.now 48) ≤ 0) || there || g.ckpts.any (·.open_))

/-- UNDERRUN_DEADLINE, R233 to R235: a wait at a crossing under-runs. -/
def execUnderrunDeadline (site : SiteId) (s : State) : Out :=
  let n := site.val
  .next (match (s.gang n).cross with
    | none => s
    | some c => if c.strm = false ∧ s.urDue n c = true then s.underrun n c else s)

/-- UNDERRUN_END, R234: the entry became fetchable in every pod: the gang goes on. -/
def execUnderrunEnd (site : SiteId) (s : State) : Out :=
  let n := site.val
  let g := s.gang n
  .next (match g.cross, s.crossAt n with
    | some c, some a => if c.ur.isSome && s.allReady n a then (s.crossTo n a).settle n else s
    | _, _ => s)

/-- STALL_TIMEOUT, R235: a STALL or PAD lasted too long: the gang halts with UNDERRUN. -/
def execStallTimeout (site : SiteId) (s : State) : Out :=
  let n := site.val
  let g := s.gang n
  .next (match g.cross with
    | some c =>
      (match c.ur with
       | some u =>
         if reached (after u.2 ((s.rd F.ENG_PM_CTL_STALL_TMO (s.lead n) + 1) * 1024)) s.now then s.underrunHalt n 4 else s
       | none => s)
    | none => s)

/-- RETIREMENT, R228: a CONSUME entry retires in a pod once the first word reached by a crossing out of it has
committed; its reload begins. -/
def execRetirement (pod : PodId) (seg : Fin 64) (s : State) : Out :=
  .next (match s.siteOfPod pod with
    | none => s
    | some n =>
      let g := s.gang n
      match g.retire.find? (fun e => e.1 == 64 * pod.val + seg.val) with
      | none => s
      | some e =>
        if g.seqNext ≤ e.2 ∨ g.clearBefore e.2 wordEnd = false then s
        else (s.setGang n { g with retire := g.retire.erase e }).retire pod seg)

/-- REFILL_DONE, R224, R245: a load of an entry from the pool has written its last granule; a load of a lower class waits, and of
the reloads the oldest retirement goes first. None ends in the safe state (R506). -/
def execRefillDone (pod : PodId) (seg : Fin 64) (s : State) : Out :=
  let x := s.seg pod seg
  .next (
    if s.safe = true ∨ x.st ≠ sgLoading ∨ x.cls ≥ 5 ∨ x.kind = kdStream ∨ x.cls ≠ s.bestClass pod
        ∨ (2 < x.cls ∧ s.streamDue pod = true) ∨ (x.cls = 3 ∧ s.oldestReload pod seg = false)
        ∨ s.poolBad.any (fun g => decide (x.src ≤ g ∧ g < x.src + x.len)) = true then s
    else s.finishLoad pod seg)

/-- POOL_ERROR, R232: a refill reads an uncorrectable pool error: the entry becomes FREE. -/
def execPoolError (pod : PodId) (seg : Fin 64) (granule : Nat) (s : State) : Out :=
  let x := s.seg pod seg
  .next (
    if x.st ≠ sgLoading ∨ x.cls = 5 ∨ granule < x.src ∨ x.src + x.len ≤ granule then s else
    let s := { s with poolBad := if s.poolBad.contains granule then s.poolBad else s.poolBad ++ [granule] }
    ((s.setSeg pod seg { x with st := sgFree, cls := 0 }).wr F.ENG_PM_STAT_LOADERR 1 pod).detect 10 0 granule)

/-- REWIND, R229: at the end of a gang's step its ACTIVE entries become READY and REWIND entries refill from PBASE. -/
def execRewind (site : SiteId) (s : State) : Out :=
  let n := site.val
  let g := s.gang n
  .next (if g.rewindDue then
      (s.podsOf n).foldl (fun s p => s.rewindPod p) (s.setGang n { g with rewindDue := false })
    else s)

end Sys2Proof.Machine
end

