-- ==== Sys2Proof/Machine/PinRows.lean ====
section
/-! DEFINITION. The meanings of the pin commands: strobes and windows (R75, R103, R104), settle timer and reseed
(R70, R79), filter decisions and watch events (R77 to R87), raw transitions and the edge log (R265 to R270, R287,
R288), writes of PIN_CFG and PIN_WATCH (R90). -/

namespace Sys2Proof.Machine

open Sys2Proof

/-! ### Settle timer -/

/-- Whether a pod's settle timer ran in a tick, in any tick of a span (R70). -/
def State.settledIn (s : State) (pod : Nat) (a b : Stamp) : Bool :=
  (s.pod pod).settleRuns.any (fun r => decide (ahead (tickOf b) r.1 ≥ 0 ∧ ahead (tickOf a) r.2 < 0))

/-- Whether a compare of a pod is masked (R70): its span meets the running timer and SETTLE_MASK is 1. -/
def State.masked (s : State) (pod : Nat) (e : CmpEdge) : Bool :=
  s.on F.POD_LVL_CFG_SETTLE_MASK pod && s.settledIn pod (stampOf e.t) (stampOf e.tc)

/-! ### Compares -/

/-- The sample period of a pin's filter in force. -/
def State.filtPeriod (s : State) (q : Nat) : Nat := fselTicks (if s.power = 4 then 4 else s.rd F.PIN_CFG_FSEL q)

/-- The filtered state in force at a tick not after the present one (R81). -/
def State.filteredAt (s : State) (q : Nat) (t : Stamp) : Nat :=
  let f := s.pinFilter q
  match f.decs.find? (fun d => decide (ahead d.t t > 0)) with
  | some d => d.old
  | none => f.st

/-- Whether a pin's strobes use the filtered state (R81). -/
def State.filtCmp (s : State) (q : Nat) : Bool := s.on F.PIN_CFG_FILT_CMP q && s.rd F.PIN_CFG_FILT q != 0

/-- The tick in which the state of a strobe is known. -/
def State.strobeKnown (s : State) (q : Nat) (e : CmpEdge) : Stamp :=
  let t := tickOf (stampOf e.t)
  if s.filtCmp q then after t (filtK (s.rd F.PIN_CFG_FILT q) * s.filtPeriod q) else t

/-- The first pending compare of a pin leaves; with none left the history is dropped. -/
def PinX.dropCmp (x : PinX) : PinX :=
  let rest := x.cmp.tail
  { x with cmp := rest, hist := if rest = [] then [] else x.hist }

/-- A failing compare of a pin marks its vector (R128) and is a capture fail unless NOCAP is set (R259). -/
def State.cmpFail (s : State) (q : Nat) (e : CmpEdge) (state : Nat) : State :=
  let s := match s.siteOfPod (q / 4) with
    | some n =>
      let g := s.gang n
      s.setGang n { g with
        flights := g.flights.map (fun (f : Flight) => if f.pos = e.pos then { f with failed := true } else f) }
    | none => s
  if e.nocap then s else s.captureFail (q / 4) (q % 4) e state

/-- A strobe or a window masked by the settle timer: it acts as EX and is counted (R70, R75). -/
def State.cmpMasked (s : State) (q : Nat) : State :=
  (s.setPin q (s.pin q).dropCmp).bump F.POD_LVL_MASKED_MASKED 1 (q / 4)

/-- The outcome of a compare: previous strobe state, capture of a CP, fail. -/
def State.cmpDone (s : State) (q : Nat) (e : CmpEdge) (prev state : Nat) (ok : Bool) (shown : Nat) : State :=
  let s := s.setPin q { (s.pin q).dropCmp with prev := prev }
  let s := s.pulse 0x12 q
  if e.expect = 5 then s.pushFail (q / 4) (failRecord 2 (q % 4) e.edge state e.code e.nofail e.pos (stampOf e.t))
  else if ok then s else s.cmpFail q e shown

/-- STROBE, R75, R103, R81, R110, R264: the oldest placed strobe of a pin is compared. -/
def execStrobe (pin : PinId) (s : State) : Out :=
  let q := pin.val
  let x := s.pin q
  .next (match x.cmp with
    | [] => s
    | e :: _ =>
      if e.edge = 2 ∨ reached (s.strobeKnown q e) s.now = false then s
      else if s.masked (q / 4) e then s.cmpMasked q
      else if e.dropped then s.cmpDone q e 3 3 false 3
      else
        let state := if s.filtCmp q then s.filteredAt q (s.strobeKnown q e) else x.rawAt e.t
        s.cmpDone q e state state (passes e.expect state x.prev) state)

/-- The spells of one raw state between WOPEN and WCLOSE: state, start, end, in fine time. -/
def spells (stop : Int) (st : Nat) (from_ : Int) : List (Int × Nat) → List (Nat × Int × Int)
  | [] => [(st, from_, stop)]
  | (t, v) :: rest =>
    if t ≤ from_ then spells stop v from_ rest
    else if t ≥ stop then [(st, from_, stop)]
    else (st, from_, t) :: spells stop v t rest

/-- The departures from what a window wants: neighbouring spells joined, each with its first state and length. -/
def departures (good : Nat → Bool) : List (Nat × Int × Int) → List (Nat × Int)
  | [] => []
  | (st, a, b) :: rest =>
    if good st then departures good rest
    else match rest, departures good rest with
      | (st', _, _) :: _, (x, l) :: more => if good st' then (st, b - a) :: (x, l) :: more else (st, b - a + l) :: more
      | _, more => (st, b - a) :: more

/-- The first departure of a window that fails it, with the number of free values taken (R104): one of 250 ps or
more does, a shorter one may. -/
def failing (free : Nat) : List (Nat × Int) → Option Nat × Nat
  | [] => (none, free)
  | (st, l) :: rest =>
    if l ≥ gap250 then (some st, free)
    else if Config.shortGlitchSeen free then (some st, free + 1)
    else failing (free + 1) rest

/-- WINDOW_COMPARE, R104, R75, R262: the oldest window of a pin whose WCLOSE has come. -/
def execWindowCompare (pin : PinId) (s : State) : Out :=
  let q := pin.val
  let x := s.pin q
  .next (match x.cmp with
    | [] => s
    | e :: _ =>
      if e.edge ≠ 2 ∨ fineDue e.tc s.now = false then s
      else if s.masked (q / 4) e then s.cmpMasked q
      else if e.dropped then s.cmpDone q e 3 3 false 3
      else
        let first := x.rawAt e.t
        if e.expect = 5 then s.cmpDone q e first first true first
        else if passes e.expect first x.prev = false then s.cmpDone q e first first false first
        else
          let good (v : Nat) : Bool := if e.expect = 4 then v == first else passes e.expect v 3
          let r := failing s.free (departures good (spells e.tc first e.t x.hist))
          let s := { s with free := r.2 }
          match r.1 with
          | some v => s.cmpDone q e first first false v
          | none => s.cmpDone q e first first true first)

/-! ### Watch -/

/-- Whether a filtered state is the target of a pin's watch (R84). -/
def State.atTarget (s : State) (q st : Nat) : Bool :=
  if s.rd F.PIN_WATCH_TARGET q = 3 then st == 0 || st == 2 else st == s.rd F.PIN_WATCH_TARGET q

/-- Whether watch events of a pin are suppressed at a tick (R70, R86, R89). -/
def State.watchHeld (s : State) (q : Nat) (t : Stamp) : Bool :=
  s.settledIn (q / 4) t t || s.on F.PIN_FLAG_RATE q || (s.power == 4 && !(s.deepPins (q / 256)).contains q)

/-- The re-raise interval of a pin in ticks (R85). -/
def State.rearmTicks (s : State) (q : Nat) : Nat := 2 ^ s.rd F.PIN_WATCH_REARM q * tUs

/-- A watch event of a pin is raised (R84, R399); `counts` for those that RAISES counts (R85). -/
def State.watchEvent (s : State) (q info : Nat) (counts : Bool) (t : Stamp) : State :=
  let s := if counts then s.bump F.PIN_STAT_RAISES 1 q else s
  let s := (s.bump F.PIN_REARM_CNT_EVENTS 1 q).pulse 0x13 q
  s.raise q info [s.rd F.PIN_STAT_RAISES q + s.rd F.PIN_WATCH_TARGET q * 2 ^ 8] t

/-- The re-raise interval starts with the target taken at a tick, or ends with the target left (R85). RAISES, which counts the
events since the target was taken, returns to 0 as soon as the target is left (DESIGN CHOICE, assumption 159). -/
def State.watchSpan (s : State) (q : Nat) (start : Option Stamp) : State :=
  (s.setPin q { s.pin q with
    rearm := start.map (fun t => after t (s.rearmTicks q)), reraises := 0 }).wr F.PIN_STAT_RAISES 0 q

/-- R85: ends of the interval that passed outside LEVEL mode raise nothing: the next end is the first one still to come. -/
def State.skipEnds (s : State) (q : Nat) : State :=
  match (s.pin q).rearm with
  | none => s
  | some t =>
    if reached t s.now then
      let k := (s.now - t).toNat / 1024 / s.rearmTicks q + 1
      s.setPin q { s.pin q with rearm := some (after t (k * s.rearmTicks q)) }
    else s

/-- The fixed decision delay of a pin's filter in ticks (R76, R77). -/
def State.decDelay (s : State) (q : Nat) : Nat := filtK (s.rd F.PIN_CFG_FILT q) * s.filtPeriod q

/-- A wake request of a cause bit of PWR_WAKE is pending for WAKE_REQUEST (R474). -/
def State.askWake (s : State) (cause : Nat) : State :=
  if s.power < 1 then s else { s with wakeAsk := withBit s.wakeAsk cause }

/-- The oldest decision of a pin's filter that has not been announced leaves its list. -/
def State.takeDec (s : State) (q : Nat) : State :=
  let x := s.pin q
  s.setPin q { x with filter := { x.filter with decs := x.filter.decs.tail } }

/-- R78, R83 to R87: a filter decision reaches the consumers of the filtered state; `init` on leaving UNKNOWN. -/
def State.decided (s : State) (q : Nat) (d : FDec) (init : Bool) : State :=
  let now := s.atTarget q d.new
  let was := !init && s.atTarget q d.old
  let stamp := d.t - ticks (s.decDelay q)
  let en := s.on F.PIN_WATCH_EN q
  let held := s.watchHeld q d.t
  if now && !was then
    let s := s.watchSpan q (if en then some d.t else none)
    let s := if en && !held && (!init || s.on F.PIN_WATCH_EV_INIT q)
      then s.watchEvent q (d.new + (if init then 2 ^ 4 else 0)) true stamp else s
    if s.on F.PIN_WATCH_WAKE q && !init && s.power ≥ 2 && !s.on F.PIN_FLAG_RATE q
        && (s.power != 4 || (s.deepPins (q / 256)).contains q) then s.askWake 3 else s
  else if was && !now then s.watchSpan q none
  else s

/-- FILTER_SETTLED, R78: the filtered state first leaves UNKNOWN. -/
def execFilterSettled (pin : PinId) (s : State) : Out :=
  let q := pin.val
  let s1 := s.syncPin q
  .next (match (s1.pin q).filter.decs with
    | d :: _ => if d.old = 3 then (s1.takeDec q).decided q d true else s
    | [] => s)

/-- FILTER_DECISION, R84, R87: the filtered state changes. -/
def execFilterDecision (pin : PinId) (s : State) : Out :=
  let q := pin.val
  let s1 := s.syncPin q
  .next (match (s1.pin q).filter.decs with
    | d :: _ => if d.old = 3 then s else (s1.takeDec q).decided q d false
    | [] => s)

/-- LEVEL_REARM, R85: the re-raise interval of a pin ends. -/
def execLevelRearm (pin : PinId) (s : State) : Out :=
  let q := pin.val
  let x := s.pin q
  .next (match x.rearm with
    | none => s
    | some t =>
      if reached t s.now = false ∨ s.on F.PIN_WATCH_EN q = false ∨ s.on F.PIN_WATCH_EV_MODE q = false then s else
      let s := s.setPin q { x with rearm := some (after t (s.rearmTicks q)) }
      let st := (s.pinFilter q).st
      if s.watchHeld q t ∨ x.reraises ≥ 16 then s else
      let s := s.setPin q { s.pin q with reraises := x.reraises + 1 }
      let s := s.watchEvent q (st % 4 + 2 ^ 2) true t
      if x.reraises + 1 ≥ 16 then s.wr F.PIN_FLAG_STUCK 1 q else s)

/-- RATE_WINDOW, R86: a window of 32 samples held 16 or more changes. A pin that is STUCK raises no event for it (R85). -/
def execRateWindow (pin : PinId) (s : State) : Out :=
  let q := pin.val
  let s1 := s.syncPin q
  let x := s1.pin q
  .next (match x.filter.rate with
    | none => s
    | some t =>
      let s1 := s1.setPin q { x with filter := { x.filter with rate := none } }
      if s1.on F.PIN_FLAG_RATE q then s1 else
      let held := s1.watchHeld q t || decide (x.reraises ≥ 16)
      let s1 := s1.wr F.PIN_FLAG_RATE 1 q
      if s1.on F.PIN_WATCH_EN q && s1.on F.PIN_WATCH_EV_RATE q && !held then
        s1.watchEvent q (x.filter.st + 2 ^ 3) false t
      else s1)

/-- The current raw sample of a pin: the latest its filter has taken since the restart; before the first one, the comparator's
raw state (DESIGN CHOICE, assumption 160). -/
def PinX.sampleNow (x : PinX) : Nat := x.filter.win.headD x.raw

/-- R79: the filter of a pin is reseeded; the target taken or left this way starts or ends its interval (R85). A filter whose
comparator is off, and that has taken no sample, has none to copy. -/
def State.reseedPin (s : State) (q : Nat) : State :=
  let s := s.syncPin q
  let x := s.pin q
  let old := x.filter.st
  let raw := x.sampleNow
  if s.bias q = 5 ∧ x.filter.win = [] then s else
  let s := s.setPin q { x with filter := x.filter.reseed raw s.now }
  let was := old != 3 && s.atTarget q old
  let now := s.atTarget q raw
  if now && !was then s.watchSpan q (if s.on F.PIN_WATCH_EN q then some s.now else none)
  else if was && !now then s.watchSpan q none else s

/-- LEVEL_SETTLE_EXPIRY, R70, R79. -/
def execLevelSettleExpiry (pod : PodId) (s : State) : Out :=
  let x := s.pod pod
  .next (match x.settleEnd with
    | none => s
    | some t =>
      if reached t s.now = false then s else
      let s := (s.setPod pod { x with settleEnd := none, settlePins := 0 }).wr F.POD_LVL_STAT_SETTLING 0 pod
      (bitsSet 4 x.settlePins).foldl (fun s i => s.reseedPin (4 * pod.val + i)) s)

/-! ### Raw transitions -/

/-- A transition's stamp: its tick and fine time corrected to the reference plane, to the nearest 1/1024 tick
(R113, R287, assumption 17); while ECLK is stopped, the count alone, which moves by 15 ticks (R32). -/
def tdcStamp (k : Deskew) (rising : Bool) (t : Int) : Stamp :=
  let c := t - fineUnit * (if rising then k.cmpRise else k.cmpFall)
  BitVec.ofInt 64 ((c * 128 + 500) / 1000)

/-- Whether a pin is a source of a busy unit, and the most that any unit makes of an edge (R288). -/
def State.sourceOf (s : State) (q : Nat) : Bool :=
  s.ius.any (fun e => e.2.busy && ((e.2.startSrc.kind == 1 && e.2.startSrc.index == q)
    || (e.2.stopSrc.kind == 1 && e.2.stopSrc.index == q)))
def State.needOf (s : State) (q old new : Nat) : Nat := s.ius.foldl (fun m e => max m (e.2.needs q old new)) 0

/-- Whether a pin's transitions are logged at a stamp: by a window of LG, by LOGON (R265). -/
def PinX.logged (x : PinX) (t : Stamp) : Bool × Bool :=
  (x.lg.any (fun w => decide (ahead t w.1 ≥ 0 ∧ ahead t w.2 < 0)), x.logOn)

/-- A stamped transition goes to the edge log: over BUDGET it is lost for RATE, at a full FIFO for FIFO
(R266, R269, R270). -/
def State.logEdge (s : State) (q new : Nat) (win : Bool) (t : Stamp) : State :=
  let pod := q / 4
  let x := s.pin q
  let b := s.rd F.CAP_ELOG_BUDGET pod
  let w := s.now.toNat / 1024 / 1536 + 1
  let cnt := if x.budgetWin = w then x.budgetCnt else 0
  if b ≠ 0 ∧ cnt ≥ b then s.lose pod 2 (q % 4) t F.CAP_STAT_ERATE else
  let s := s.setPin q { x with budgetWin := w, budgetCnt := cnt + 1 }
  let y := s.pod pod
  if y.efifo.length ≥ 64 then s.lose pod 3 (q % 4) t F.CAP_STAT_ELOSS
  else s.setPod pod { y with efifo := y.efifo ++ [EdgeRec.mk (q % 4) new win t (s.rd F.WT_EPOCH_EPOCH) s.jumps] }

/-- RAW_TRANSITION, R73, R265, R268, R287, R288: the comparator of a pin takes a new raw state, `frac` of 1/8000
tick after the start of the present tick. -/
def execRawTransition (pin : PinId) (raw frac : Nat) (s : State) : Out :=
  let q := pin.val
  let s1 := s.syncPin q
  let x := s1.pin q
  let old := x.raw
  .next (
    if raw = old ∨ raw > 2 ∨ frac ≥ 8000 then s else
    let t := fineOf s1.now + frac
    let s1 := s1.setPin q { x with raw := raw, hist := if x.cmp = [] then [] else x.hist ++ [(t, raw)] }
    let stamp := if s1.eclkOff then s1.now else tdcStamp ((s1.pod (q / 4)).deskew.at {} (q % 4)) (decide (raw > old)) t
    let lg := x.logged stamp
    let logs := s1.on F.PIN_CFG_USE q && (lg.1 || lg.2)
    let need := s1.needOf q old raw
    let dead := match x.lastTdc with | some l => decide ((t - l) % (2 ^ 54 * fineTick) < fineTick) | none => false
    if s1.sourceOf q && need != 2 then
      let s1 := if need = 1 then s1.iuPinEdge q old raw stamp else s1
      if logs then s1.lose (q / 4) 1 (q % 4) stamp F.CAP_STAT_DEAD else s1
    else if dead then
      let s1 := s1.iuMissed q old raw stamp
      if logs then s1.lose (q / 4) 1 (q % 4) stamp F.CAP_STAT_DEAD else s1
    else
      let s1 := (s1.setPin q { s1.pin q with lastTdc := some t }).pulse 0x10 q
      let s1 := s1.iuPinEdge q old raw stamp
      if logs then s1.logEdge q raw lg.1 stamp else s1)

/-! ### PIN_CFG and PIN_WATCH -/

/-- The filter of a pin restarts and its watch forgets the target (R78). -/
def State.refilter (s : State) (q : Nat) : State := (s.restartPin q).watchSpan q none

/-- R90, R62, R78: a write of PIN_CFG. -/
def State.writePinCfg (s : State) (q v : Nat) : State :=
  let s0 := s.syncPin q
  let bias := s.bias q
  let want := [(F.PIN_CFG_USE, bit v 0), (F.PIN_CFG_DRV_EN, bit v 1), (F.PIN_CFG_OFF_STATE, bits v 3 2),
    (F.PIN_CFG_HYST, bits v 5 4), (F.PIN_CFG_FILT, bits v 7 6), (F.PIN_CFG_FSEL, bits v 10 8), (F.PIN_CFG_FILT_CMP, bit v 11)]
  let changed := want.any (fun e => s0.rd e.1 q != e.2)
  let busy := match s.siteOfPod (q / 4) with | some n => s.running n || s.gstate n == stArmed | none => false
  let s1 := s0.wr F.PIN_CFG_SETTLE (bits v 23 16) q
  if busy then (if changed then s1.wr F.PIN_FLAG_CFG_BUSY 1 q else s1)
  else
    let restart := decide (s0.rd F.PIN_CFG_FILT q ≠ bits v 7 6 ∨ s0.rd F.PIN_CFG_FSEL q ≠ bits v 10 8)
    let s2 := want.foldl (fun s e => s.wr e.1 e.2 q) s1
    let s2 := if s2.on F.PIN_CFG_USE q && s2.on F.PIN_CFG_DRV_EN q then s2 else s2.forceDrv q 0
    if restart || s2.bias q != bias then s2.refilter q else s2

/-- R90, R78: a write of PIN_WATCH takes effect at once. A new TARGET ends the re-raise interval; if the filtered state already
equals it, none starts until the state next takes it (DESIGN CHOICE, assumption 159). -/
def State.writePinWatch (s : State) (q v : Nat) : State :=
  let s0 := s.syncPin q
  let bias := s.bias q
  let was := s0.on F.PIN_WATCH_EN q
  let tgt := s0.rd F.PIN_WATCH_TARGET q
  let s1 := [(F.PIN_WATCH_REARM, bits v 19 16), (F.PIN_WATCH_TRIP_EN, bit v 9), (F.PIN_WATCH_WAKE, bit v 8),
    (F.PIN_WATCH_EV_RATE, bit v 7), (F.PIN_WATCH_EV_INIT, bit v 6), (F.PIN_WATCH_EV_MODE, bit v 5),
    (F.PIN_WATCH_TARGET, bits v 4 3), (F.PIN_WATCH_MODE, bits v 2 1), (F.PIN_WATCH_EN, bit v 0)].foldl
    (fun s (e : Fld × Nat) => s.wr e.1 e.2 q) s0
  if (!was && s1.on F.PIN_WATCH_EN q) || s1.bias q != bias then s1.refilter q
  else if s1.rd F.PIN_WATCH_TARGET q ≠ tgt ∨ s1.on F.PIN_WATCH_EN q = false then s1.watchSpan q none
  else if s0.on F.PIN_WATCH_EV_MODE q = false ∧ s1.on F.PIN_WATCH_EV_MODE q = true then s1.skipEnds q else s1

/-- PIN_CFG_WRITE. -/
def execPinCfgWrite (pin : PinId) (value : BitVec 32) (s : State) : Out := .next (s.writePinCfg pin value.toNat)

/-- PIN_WATCH_WRITE. -/
def execPinWatchWrite (pin : PinId) (value : BitVec 32) (s : State) : Out := .next (s.writePinWatch pin value.toNat)

end Sys2Proof.Machine
end

