-- ==== Sys2Proof/Machine/RailRows.lean ====
section
/-! DEFINITION. The meanings of rail, trip and fence commands (R344 to R367), and the writes of rail and fence
registers that have rules of their own. -/

namespace Sys2Proof.Machine

open Sys2Proof

/-! ### Monitors -/

/-- The filter fields of a rail's monitor: FILT, FSEL (R354). -/
def State.monFilt (s : State) (r mon : Nat) : Nat := if mon = 0 then s.rd F.RAIL_MON_VFILT r else s.rd F.RAIL_MON_IFILT r
def State.monFsel (s : State) (r mon : Nat) : Nat := if mon = 0 then s.rd F.RAIL_MON_VFSEL r else s.rd F.RAIL_MON_IFSEL r

/-- A monitor's filtered state and the tick, or stamp, since when it holds. -/
def State.monState (s : State) (r mon : Nat) : Nat := if mon = 0 then (s.rail r).v else (s.rail r).i
def State.setMon (s : State) (r mon st : Nat) (t : Stamp) : State :=
  let x := s.rail r
  s.setRail r (if mon = 0 then { x with v := st, vT := t } else { x with i := st, iT := t })

/-- R354, R78: a monitor's filter restarts. -/
def State.restartMon (s : State) (r mon : Nat) : State := s.setMon r mon 3 s.now

/-- Whether a monitor's filter can decide in the present tick: its clock runs and samples now, and the settle count
has passed since a restart (R76, R78, R80, R354). -/
def State.monDecides (s : State) (r mon : Nat) : Bool :=
  let p := fselTicks (s.monFsel r mon)
  let ext := extCount (s.rd F.WT_EPOCH_EPOCH) s.now
  let x := s.rail r
  let since := later s.fRestart (if mon = 0 then x.vT else x.iT)
  let taken := ext / p - (ext - (s.now - since).toNat / 1024) / p
  ext % p == 0 && !(decide (s.power ≥ 2) && fselEclk (s.monFsel r mon)) && s.power != 4
    && (s.monState r mon != 3 || decide (taken ≥ max (s.rd F.RAIL_MON_FSETTLE r) (filtN (s.monFilt r mon))))

/-- The latest instant of the converter of a phase and spacing (R352). -/
def State.sampleTick (s : State) (phase every : Nat) : Stamp :=
  tickOf s.now - ticks ((extCount (s.rd F.WT_EPOCH_EPOCH) s.now + every - phase) % every)
/-- The tick of the latest voltage, current sample: with voltage only no current sample is taken, and the other way round; a tick before
the last change of SMUX belongs to the mode before. -/
def State.vSample (s : State) (r : Nat) : Option Stamp :=
  let m := s.rd F.RAIL_CFG_SMUX r
  let x := s.rail r
  let t := s.sampleTick 0 (if m = 1 then 1500 else 3000)
  if m = 2 ∨ ahead t x.smuxT ≤ 0 then x.vAt else some t
def State.iSample (s : State) (r : Nat) : Option Stamp :=
  let m := s.rd F.RAIL_CFG_SMUX r
  let x := s.rail r
  let t := if m = 2 then s.sampleTick 0 1500 else s.sampleTick 1500 3000
  if m = 1 ∨ ahead t x.smuxT ≤ 0 then x.iAt else some t
def State.railVrd (s : State) (r : Nat) : Nat := ((s.vSample r).map (fun t => Config.railVolts r t % 65536)).getD 0
def State.railIrd (s : State) (r : Nat) : Nat := ((s.iSample r).map (fun t => ofSigned 16 (Config.railAmps r t))).getD 0

/-- The largest current sample since the last read of RAIL_IPK (R352), none where none was taken. -/
def State.railPeak (s : State) (r : Nat) : Option Int :=
  let m := s.rd F.RAIL_CFG_SMUX r
  let x := s.rail r
  match s.iSample r with
  | none => x.ipk
  | some last =>
    let step := if m = 2 then 1500 else 3000
    let n := if m = 1 ∨ ahead last x.ipkFrom ≤ 0 then 0 else ((last - x.ipkFrom).toNat / 1024 + step - 1) / step
    (List.range n).foldl (fun (p : Option Int) (k : Nat) =>
      let v := Config.railAmps r (last - ticks (k * step))
      match p with
      | some w => some (max v w)
      | none => some v) x.ipk

/-- RAIL_CROSSING, R353 to R357, R361: a monitor's filter decides a new window state; with ILO at 0 the current window has no low
side. -/
def execRailCrossing (rail : RailId) (mon : Fin 2) (st : Fin 3) (s : State) : Out :=
  let r := rail.val
  let old := s.monState r mon
  .next (
    if st.val = old ∨ s.monDecides r mon = false ∨ (mon.val = 1 ∧ st.val = 0 ∧ s.rd F.RAIL_IWIN_ILO r = 0) then s else
    let k := filtK (s.monFilt r mon) * fselTicks (s.monFsel r mon)
    let stamp := s.now - ticks k
    let s := s.setMon r mon st stamp
    let quiet := decide (mon.val = 0 ∧ st.val = 0) && (s.railSt r == rlOff || s.railSt r == rlUp || s.railSt r == rlDown)
    if old ≠ 1 ∨ quiet = true then s else
    let s := if mon.val = 0 then s.wr F.RAIL_FLAG_VCROSS 1 r else s.wr F.RAIL_FLAG_ICROSS 1 r
    let s := s.pulse 0x18 r
    let s := if mon.val = 0 then
        (if s.on F.RAIL_MON_VEV r then s.raise (1536 + 3 * r) st [s.railVrd r] stamp else s)
      else (if s.on F.RAIL_MON_IEV r then s.raise (1537 + 3 * r) st [s.railIrd r] stamp else s)
    if s.on F.RAIL_MON_WAKE r then s.askWake 4 else s)

/-! ### Regulation -/

/-- REGULATION_CHECK, R346, R351, R358: a check in a tick whose extended count is a multiple of 3,000. -/
def execRegulationCheck (rail : RailId) (s : State) : Out :=
  let r := rail.val
  let x := s.rail r
  let st := s.railSt r
  .next (
    if extCount (s.rd F.WT_EPOCH_EPOCH) s.now % 3000 ≠ 0 ∨ reached x.reach s.now = false
        ∨ !(st == rlUp || (st == rlDown && !x.toOff)) = true then s else
    let v := s.railV r
    let d := if v ≤ x.target then x.target - v else v - x.target
    if d * 50 > 200 * 50 + x.target then s else
    let s := (s.setRail r { x with regT := some s.now }).wr F.RAIL_STAT_STATE rlReg r
    (s.qualify r).releaseWait r 1)

/-- NOREG, R346: regulation not declared 1 ms after the ramp reached its target. -/
def execNoreg (rail : RailId) (s : State) : Out :=
  let r := rail.val
  let x := s.rail r
  let st := s.railSt r
  .next (
    if reached (after x.reach tMs) s.now = false ∨ x.regT.isSome = true ∨ x.noregDone = true ∨ x.toOff = true
        ∨ x.wait.isSome = true ∨ !(st == rlUp || st == rlDown || (st == rlLimit && x.fromSt == rlUp)) = true then s else
    let s := (s.setRail r { x with noregT := some s.now, noregDone := true }).wr F.RAIL_FLAG_NOREG 1 r
    if s.on F.RAIL_MON_VEV r then s.raise (1536 + 3 * r) (x.v + 4) [s.railVrd r] s.now else s)

/-- RAIL_LIMIT, R345, R347: the limit comparator finds the current at ILIM in RAMP_UP or REG. -/
def execRailLimit (rail : RailId) (s : State) : Out :=
  let r := rail.val
  let st := s.railSt r
  .next (
    if !(st == rlUp || st == rlReg) then s else
    ((s.setRail r { s.rail r with fromSt := st }).wr F.RAIL_STAT_STATE rlLimit r).wr F.RAIL_FLAG_LIMITED 1 r)

/-- RAIL_LIMIT_EXIT, R347: the demanded current has fallen 2 % below ILIM. -/
def execRailLimitExit (rail : RailId) (s : State) : Out :=
  let r := rail.val
  .next (if s.railSt r = rlLimit then s.wr F.RAIL_STAT_STATE (s.rail r).fromSt r else s)

/-- RAMP_DOWN_END, R348, R351: the ramp reached 0.5 V: OFF. -/
def execRampDownEnd (rail : RailId) (s : State) : Out :=
  let r := rail.val
  let x := s.rail r
  .next (
    if s.railSt r ≠ rlDown ∨ x.toOff = false ∨ reached x.reach s.now = false then s else
    ((s.setRail r { x with offT := s.now, toOff := false }).wr F.RAIL_STAT_STATE rlOff r).releaseWait r 2)

/-- RAIL_SEQUENCE_DELAY, R351: DELAY of a rail that waited for its neighbour ends. -/
def execRailSequenceDelay (rail : RailId) (s : State) : Out :=
  let r := rail.val
  .next (match (s.rail r).wait with
    | some w =>
      (match w.till with
       | some t => if reached t s.now then s.ramp r w.target w.slew else s
       | none => s)
    | none => s)

/-! ### Rail registers -/

/-- R350: whether a write of RAIL_CTL, RAIL_SET or RAIL_CFG is ignored. -/
def State.railBusy (s : State) (r : Nat) : Bool :=
  match s.siteOfRail r with
  | none => true
  | some n => s.on F.SITE_FSTAT_HUSK n || s.running n

/-- R350, R358, R508: RAIL_CTL.ON. -/
def State.railOn (s : State) (r : Nat) : State :=
  if s.safe then s.wr F.FLT_STAT_SAFEWR 1
  else if s.railBusy r then s.wr F.RAIL_FLAG_BUSY 1 r
  else match s.siteOfRail r with
    | none => s
    | some n =>
      let s := (s.openWindow n 1 false).wakeRecovery n
      (s.rampSite n [(r, railTarget (s.rd F.RAIL_SET_TARGET r), s.slewOf r 0)]).refreshArm n

/-- R350: RAIL_CTL.OFF. -/
def State.railOff (s : State) (r : Nat) : State :=
  if s.railBusy r then s.wr F.RAIL_FLAG_BUSY 1 r
  else match s.siteOfRail r with
    | none => s
    | some n => s.rampSite n [(r, 0, s.slewOf r 0)]

/-- RAIL_CTL_ON. -/
def execRailCtlOn (rail : RailId) (s : State) : Out := .next (s.railOn rail)

/-- RAIL_CTL_OFF. -/
def execRailCtlOff (rail : RailId) (s : State) : Out := .next (s.railOff rail)

/-- R350: a write of RAIL_CTL; with both bits at 1 it is ignored. -/
def State.writeRailCtl (s : State) (r v : Nat) : State :=
  if hasBit v 0 && hasBit v 1 then s.wr F.RAIL_FLAG_BUSY 1 r
  else if hasBit v 0 then s.railOn r
  else if hasBit v 1 then s.railOff r else s

/-- R350: a write of RAIL_SET, of RAIL_CFG. -/
def State.writeRailSet (s : State) (r v : Nat) : State :=
  if s.railBusy r then s.wr F.RAIL_FLAG_BUSY 1 r
  else (s.wr F.RAIL_SET_TARGET (bits v 31 16) r).wr F.RAIL_SET_ILIM (bits v 9 0) r
def State.writeRailCfg (s : State) (r v : Nat) : State :=
  if s.railBusy r then s.wr F.RAIL_FLAG_BUSY 1 r
  else
    let s := if bits v 1 0 = s.rd F.RAIL_CFG_SMUX r then s
      else s.setRail r { s.rail r with
        ipk := s.railPeak r, ipkFrom := s.now, smuxT := s.now, vAt := s.vSample r, iAt := s.iSample r }
    [(F.RAIL_CFG_RSH, bits v 31 24), (F.RAIL_CFG_SLEW, bits v 23 16), (F.RAIL_CFG_SETTLE, bits v 15 8),
      (F.RAIL_CFG_REMOTE, bit v 2), (F.RAIL_CFG_SMUX, bits v 1 0)].foldl (fun s (e : Fld × Nat) => s.wr e.1 e.2 r) s

/-- R354: writes of the thresholds and of RAIL_MON; what changes a monitor restarts its filter. -/
def State.writeRailVwin (s : State) (r v : Nat) : State :=
  let t := (s.wr F.RAIL_VWIN_VHI (bits v 25 16) r).wr F.RAIL_VWIN_VLO (bits v 9 0) r
  if t.regs = s.regs then t else t.restartMon r 0
def State.writeRailIwin (s : State) (r v : Nat) : State :=
  let t := (s.wr F.RAIL_IWIN_IHI (bits v 25 16) r).wr F.RAIL_IWIN_ILO (bits v 9 0) r
  if t.regs = s.regs then t else t.restartMon r 1
def State.writeRailMon (s : State) (r v : Nat) : State :=
  let wrs (l : List (Fld × Nat)) (s : State) : State := l.foldl (fun s (e : Fld × Nat) => s.wr e.1 e.2 r) s
  let a := wrs [(F.RAIL_MON_VFSEL, bits v 6 4), (F.RAIL_MON_VFILT, bits v 3 2), (F.RAIL_MON_VMODE, bits v 1 0)] s
  let a := if a.regs = s.regs then a else a.restartMon r 0
  let b := wrs [(F.RAIL_MON_IFSEL, bits v 22 20), (F.RAIL_MON_IFILT, bits v 19 18), (F.RAIL_MON_IMODE, bits v 17 16)] a
  let b := if b.regs = a.regs then b else b.restartMon r 1
  wrs [(F.RAIL_MON_WAKE, bit v 29), (F.RAIL_MON_IEV, bit v 28), (F.RAIL_MON_VEV, bit v 27), (F.RAIL_MON_ITRIP_LO, bit v 26),
    (F.RAIL_MON_ITRIP_HI, bit v 25), (F.RAIL_MON_VTRIP_LO, bit v 24), (F.RAIL_MON_VTRIP_HI, bit v 23),
    (F.RAIL_MON_FSETTLE, bits v 15 8)] b

/-! ### Trip path, fences -/

/-- WINDOW_CLOSE, R358: windows of a site whose time has come close. -/
def execWindowClose (site : SiteId) (s : State) : Out :=
  let n := site.val
  let x := s.siteX n
  .next ((s.setSiteX n { x with wins := x.wins.filter (fun w => !s.winDone w) }).refreshArm n)

/-- ARM_REQ, R358: the request window opens, or closes. -/
def State.armReq (s : State) (n : Nat) (on : Bool) : State :=
  let s := s.wr F.SITE_FCTL_ARM_REQ (ofBool on) n
  let x := s.siteX n
  let s := if on then (if x.wins.any (·.src == 4) then s else s.openWindow n 4 false)
    else s.setSiteX n { x with wins := x.wins.filter (·.src ≠ 4) }
  s.refreshArm n

/-- ARM_REQ. -/
def execArmReq (site : SiteId) (on : Bool) (s : State) : Out := .next (s.armReq site on)

/-- SITE_TRIP, R359, R360, R363, R365: what asserts the trip input of an armed site trips it; a husk records it only. -/
def execSiteTrip (site : SiteId) (s : State) : Out :=
  let n := site.val
  let cs := s.tripSources n
  .next (
    if s.on F.SITE_FSTAT_ARMED n = false ∨ cs = [] then s else
    let s := cs.foldl (fun s c => s.noteCause n c) s
    s.makeHusk n (tripStamp (s.siteX n).armedT s.now cs))

/-- R362, R365: a software fence of a site that the map defines. -/
def State.fence (s : State) (n : Nat) : State :=
  if (s.site n).isNone then s else (s.wr F.SITE_FSTAT_SOFT 1 n).makeHusk n s.now

/-- FENCE. -/
def execFence (site : SiteId) (s : State) : Out := .next (s.fence site)

/-- R366: whether an unfence is refused. -/
def State.unfenceBad (s : State) (n : Nat) : Bool :=
  s.safe || !s.on F.SITE_FSTAT_HUSK n || (s.podsOf n).any s.podFenced || (s.railsOf n).any s.railFenced
    || !s.dieOk (dieOfPod (s.lead n))
    || (s.railsOf n).any (fun r => decide (ahead s.now (after (s.rail r).offT 300) < 0))

/-- R366, R367, R508: an unfence. -/
def State.unfence (s : State) (n : Nat) : State :=
  if s.unfenceBad n then
    (if s.safe then s.wr F.FLT_STAT_SAFEWR 1 else s).wr F.SITE_FSTAT_UNFBAD 1 n
  else
    let s := [F.SITE_FSTAT_HUSK, F.SITE_FSTAT_LINK, F.SITE_FSTAT_FAULT, F.SITE_FSTAT_SOFT, F.SITE_FSTAT_PIN,
      F.SITE_FSTAT_RAILI, F.SITE_FSTAT_RAILV].foldl (fun s f => s.wr f 0 n) s
    let s := (s.railsOf n).foldl (fun s r => s.wr F.RAIL_STAT_STATE rlOff r) s
    let s := s.setGstate n stIdle
    let s := (s.pinsOf n).foldl (fun s q => s.setPin q { s.pin q with tripped := false }) s
    (s.openWindow n 3 true).refreshArm n

/-- UNFENCE. -/
def execUnfence (site : SiteId) (s : State) : Out := .next (s.unfence site)

/-- R4, R358, R362, R366: a write of SITE_FCTL. -/
def State.writeFctl (s : State) (n v : Nat) : State :=
  let s := ((s.wr F.SITE_FCTL_ARM_RECOV (bit v 2) n).wr F.SITE_FCTL_ARM_ENTRY (bit v 1) n).wr F.SITE_FCTL_ARM_START (bit v 0) n
  let s := s.armReq n (hasBit v 3)
  let s := if hasBit v 31 then s.fence n else s
  if hasBit v 30 then s.unfence n else s

/-- The sites of a pin die, the waveform outputs of a pin die. -/
def State.sitesOfDie (s : State) (k : Nat) : List Nat := s.sitesDefined.filter (fun n => dieOfPod (s.lead n) == k)
def wavesOfDie (k : Nat) : List Nat := (List.range 8).map (fun i => 8 * k + i)

/-- DIE_LINK_FAIL, R11, R338, R362: the die link of a pin die fails: its sites become husks with cause LINK, its
outputs mute, and LINK_DOWN is detected at the collector. -/
def execDieLinkFail (die : DieId) (s : State) : Out :=
  let k := die.val
  .next (
    if s.dieOk k = false then s else
    let s := s.wr F.GLB_UNITS_PD_OK (withoutBit (s.rd F.GLB_UNITS_PD_OK) k)
    let s := s.detect (128 + 64 * k) k 0
    let s := (s.sitesOfDie k).foldl (fun s n => (s.wr F.SITE_FSTAT_LINK 1 n).makeHusk n s.now) s
    (wavesOfDie k).foldl (fun s w => s.faultMute w) s)

end Sys2Proof.Machine
end

