-- ==== Sys2Proof/Machine/WaveRows.lean ====
section
/-! DEFINITION. The meanings of the waveform commands (R243, R244, R329 to R340), and the writes of the waveform registers
that have rules of their own. -/

namespace Sys2Proof.Machine

open Sys2Proof

/-- R334, R508: AWG_CTL.START. -/
def State.awgStart (s : State) (w : Nat) : State :=
  if s.safe then s.wr F.FLT_STAT_SAFEWR 1
  else if s.hostOk w = false then s.wr F.AWG_STAT_HOSTBAD 1 w
  else if s.wavePlays w then s
  else
    let s := s.setWave w { s.wave w with
      startAt := some (after s.now 1500, PAddr.ofNum (s.rd F.AWG_CTL_ENTRY w)), arm := none, fireT := none }
    s.wr F.AWG_ARMBY_ARMV 0 w

/-- AWG_START. -/
def execAwgStart (w : WaveId) (s : State) : Out := .next (s.awgStart w)

/-- R334, R244: AWG_CTL.STOP. -/
def State.awgStop (s : State) (w : Nat) : State := s.waveStop w

/-- AWG_STOP. -/
def execAwgStop (w : WaveId) (s : State) : Out := .next (s.awgStop w)

/-- ARM_FIRE, R334, R156: the marker's period has started; markers that begin in the present tick are raised. -/
def execArmFire (w : WaveId) (s : State) : Out :=
  let s := (s.awgDo w).raiseMarks
  let x := s.wave w
  .next (match x.arm, x.fireT with
    | some (_, _, a), some t => if reached t s.now then s.waveBegin w a else s
    | _, _ => s)

/-- PLAY_END, R335: a crossing with NEXT_V at 0, at the slot after the entry's last sample. -/
def execPlayEnd (w : WaveId) (s : State) : Out :=
  let x := s.wave w
  .next (
    if s.wavePlays w = false ∨ (s.waveNext (s.rd F.AWG_CFG_HOST w) x.pc).isSome = true
        ∨ !(x.wait || s.slotNow w) = true ∨ s.lastCmd w = true then s else
    ((s.waveIdle w).wr F.AWG_STAT_END 1 w).waveEvent w evEnd (if x.wait then x.slotAt else s.now))

/-- WAVE_UNDERRUN, R243: the sample that the present slot needs is not there: PAD plays, or the output stops. -/
def execWaveUnderrun (w : WaveId) (s : State) : Out :=
  let x := s.wave w
  let pod := s.rd F.AWG_CFG_HOST w
  .next (
    if s.wavePlays w = false ∨ x.pad = true ∨ s.waveReady w = true ∨ !(x.wait || s.slotNow w) = true ∨ s.lastCmd w = true then s else
    match s.waveNext pod x.pc with
    | none => s
    | some a =>
      let g := s.seg pod a.seg
      let t := if x.wait then x.slotAt else s.now
      let s := s.urgent pod a.seg
      let s := (((s.wr F.AWG_STAT_UR 1 w).wr F.ENG_PM_STAT_UR 1 pod).bump F.ENG_PM_UR_UR 1 pod).pulse 0x08 pod
      let s := s.waveEvent w evUnderrun t
      let s := if g.kind = kdStream then
          s.streamUr pod g.slot g.got t
        else s
      if g.policy = 0 then (s.wr F.ENG_PM_STAT_LASTPOL 1 pod).waveIdle w
      else
        let s := s.wr F.ENG_PM_STAT_LASTPOL (if g.policy = 1 then 2 else 3) pod
        let s := s.setWave w { s.wave w with pad := true, wait := false }
        if x.wait then
          let s := s.playSample w (s.rd F.ENG_PM_PAD_PAD pod % 65536)
          s.setWave w { s.wave w with next := x.next, slotAt := x.slotAt }
        else s.playSlot w)

/-- R336: a write that changes AWG_SPAN.SPAN. -/
def State.spanWrite (s : State) (w span : Nat) : State :=
  if s.rd F.AWG_SPAN_SPAN w = span then s else
  (s.wr F.AWG_SPAN_SPAN span w).setWave w { s.wave w with spanChange := true, muteAt := some s.now }

/-- SPAN_CHANGE. -/
def execSpanChange (w : WaveId) (span : Fin 8) (s : State) : Out := .next (s.spanWrite w span)

/-- UNMUTE, R336: the first slot boundary at least 1,500 ticks after the mute. -/
def execUnmute (w : WaveId) (s : State) : Out :=
  let x := s.wave w
  .next (match x.unmuteAt with
    | none => s
    | some t =>
      if reached t s.now = false ∨ !(s.slotNow w || decide (ahead x.slotAt t ≥ 0)) = true then s else
      let s := (s.setWave w { x with unmuteAt := none }).wr F.AWG_STAT_STATE x.back w
      s.wr F.AWG_STAT_MUTED (s.rd F.AWG_SPAN_MUTE w) w)

/-- R336, R508: a write of AWG_SPAN.MUTE: 1 mutes at the next slot boundary; 0 ends that at once. -/
def State.muteWrite (s : State) (w : Nat) (on : Bool) : State :=
  if !on && s.safe then s.wr F.FLT_STAT_SAFEWR 1
  else
    let x := s.wave w
    let s := s.wr F.AWG_SPAN_MUTE (ofBool on) w
    if on then s.setWave w { x with muteAt := some (x.muteAt.getD s.now) }
    else (s.setWave w { x with muteAt := if x.spanChange then x.muteAt else none }).wr F.AWG_STAT_MUTED (ofBool (s.waveSt w == wvMuting)) w

/-- MUTE. -/
def execMute (w : WaveId) (on : Bool) (s : State) : Out := .next (s.muteWrite w on)

/-- Whether a fault of R338 holds an output: its host fenced, its die link down, the safe state. -/
def State.waveFault (s : State) (w : Nat) : Bool :=
  s.safe || !s.dieOk (dieOfWave w) || (s.on F.AWG_CFG_HOSTV w && s.podFenced (s.rd F.AWG_CFG_HOST w))

/-- FAULT_MUTE, R338: an output that such a fault strikes and that is not muted and idle already. -/
def execFaultMute (w : WaveId) (s : State) : Out :=
  .next (
    if s.waveFault w = false ∨ (s.waveSt w = wvIdle ∧ s.on F.AWG_STAT_MUTED w = true ∧ (s.wave w).startAt = none) then s
    else s.faultMute w)

/-- R340: a write of AWG_CFG. -/
def State.awgCfgWrite (s : State) (w v : Nat) : State :=
  if s.waveSt w ≠ wvIdle then s.wr F.AWG_STAT_BUSY 1 w
  else [(F.AWG_CFG_HOSTV, bit v 31), (F.AWG_CFG_HOST, bits v 27 20), (F.AWG_CFG_DIV, bits v 15 0)].foldl
    (fun s (e : Fld × Nat) => s.wr e.1 e.2 w) s

/-- AWG_CFG_WRITE. -/
def execAwgCfgWrite (w : WaveId) (value : BitVec 32) (s : State) : Out := .next (s.awgCfgWrite w value.toNat)

/-- R336, R337: a write of AWG_SPAN. -/
def State.writeAwgSpan (s : State) (w v : Nat) : State :=
  let s := s.spanWrite w (bits v 2 0)
  s.muteWrite w (hasBit v 8)

/-- R333, R337: a write of AWG_IDLE; an output that does not play shows the new code. -/
def State.writeAwgIdle (s : State) (w v : Nat) : State :=
  let s := s.wr F.AWG_IDLE_IDLE (bits v 13 0) w
  if s.wavePlays w then s else s.setWave w { s.wave w with code := bits v 13 0 }

/-- R334, R340: a write of AWG_CTL; a STOP in it comes first. -/
def State.writeAwgCtl (s : State) (w v : Nat) : State :=
  let s := [(F.AWG_CTL_MEVA, bit v 27), (F.AWG_CTL_MEVB, bit v 26), (F.AWG_CTL_ENTRY, bits v 21 0)].foldl
    (fun s (e : Fld × Nat) => s.wr e.1 e.2 w) s
  let s := if hasBit v 30 then s.awgStop w else s
  if hasBit v 31 then s.awgStart w else s

end Sys2Proof.Machine
end

