-- ==== Sys2Proof/Machine/PmuRows.lean ====
section
/-! DEFINITION. The meanings of the PMU commands (R312 to R328). -/

namespace Sys2Proof.Machine

open Sys2Proof

/-- CONNECT_END, R318: the connect phase of a pin has ended; SETTLE µs of settling begin. -/
def execConnectEnd (pin : PinId) (s : State) : Out :=
  let x := s.pin pin
  let p := x.pmu
  .next (
    if p.phase ≠ 1 ∨ reached p.until_ s.now = false then s else
    s.setPin pin { x with pmu := { p with
      phase := 2, until_ := after p.until_ (((s.pmuEntry p.setup).getD {}).settle * tUs) } })

/-- SETTLE_END, R318: conversions may begin. -/
def execSettleEnd (pin : PinId) (s : State) : Out :=
  let x := s.pin pin
  let p := x.pmu
  .next (
    if p.phase ≠ 2 ∨ reached p.until_ s.now = false then s else
    s.setPin pin { x with pmu := { p with phase := 3, trigT := p.until_ } })

/-- Full scale of a range in pA (R312). -/
def rangePa (range : Nat) : Int := if range = 4 then 32000000000 else 2000000 * 10 ^ range

/-- The correction along the path of a pin in µV, for a current in pA, and whether ±500 mV limited it (R315). -/
def pathCorrection (rpath : Nat) (pa : Int) : Int × Bool :=
  let c := roundDiv (pa * rpath) 100000000
  if c > 500000 then (500000, true) else if c < -500000 then (-500000, true) else (c, false)

/-- The convert phase of a pin ends at a tick (R318, R319). -/
def PmuX.toDisconnect (p : PmuX) (keep : Bool) (t : Stamp) : PmuX :=
  { p with phase := 4, until_ := if keep then t else after t 1500 }

/-- CONVERSION, R313, R315, R318, R319, R323: a conversion that began at its trigger ends. `value` is what the converter
measured, µV or pA; `clamp` and `ovr` whether a limit acted and whether it lay beyond the span. -/
def execConversion (pin : PinId) (value : Int) (clamp ovr : Bool) (s : State) : Out :=
  let x := s.pin pin
  let p := x.pmu
  let e := (s.pmuEntry p.setup).getD {}
  let start := if e.trig = 0 then some (p.convEnd.getD p.trigT) else p.trigNext
  .next (match start with
    | none => s
    | some t0 =>
      let t := after t0 (convTicks e.conv)
      if p.phase ≠ 3 ∨ reached t s.now = false then s else
      let rpath := ((s.pod (pin / 4)).deskew.at {} (pin % 4)).rpath
      let pa := if e.mode = 0 then value else roundDiv (e.force * rangePa e.range) 32768
      let c := if e.rpath && e.mode != 2 then pathCorrection rpath pa else (0, false)
      let v := if e.mode = 0 then (if e.iunit then roundDiv value 1000 else value)
        else if e.mode = 1 then value - c.1 else value
      let r := sat32 v
      let fl := p.flags
      let fl := if clamp && e.mode != 2 then withBit fl pClamp else fl
      let fl := if ovr then withBit fl pOvr else fl
      let fl := if r.2 then withBit fl pSat else fl
      let fl := if c.2 then withBit fl pCorr else fl
      let p := { p with
        samples := p.samples ++ [ofSigned 33 r.1], taken := p.taken + 1, convEnd := some t, lastEnd := t, trigNext := none
        flags := fl, corr := if e.mode = 0 then c.1 else p.corr }
      let p := if p.taken ≥ e.nM1 + 1 then p.toDisconnect e.keep t else p
      (s.setPin pin { x with pmu := p }).pulse 0x3D pin)

/-- TRIGGER_TIMEOUT, R319: no trigger came in time. -/
def execTriggerTimeout (pin : PinId) (s : State) : Out :=
  let x := s.pin pin
  let p := x.pmu
  let e := (s.pmuEntry p.setup).getD {}
  let t := after (p.convEnd.getD p.trigT) ((e.tmo + 1) * 64)
  .next (
    if p.phase ≠ 3 ∨ e.trig = 0 ∨ p.trigNext.isSome = true ∨ reached t s.now = false then s else
    s.setPin pin { x with pmu := { p.toDisconnect e.keep t with flags := withBit p.flags pTmo } })

/-- DISCONNECT_END, R318, R320, R328: the disconnect phase of a pin has ended; the last pin's end writes the results. -/
def execDisconnectEnd (pin : PinId) (s : State) : Out :=
  let x := s.pin pin
  let p := x.pmu
  let e := (s.pmuEntry p.setup).getD {}
  .next (
    if p.phase ≠ 4 ∨ reached p.until_ s.now = false then s
    else if p.disc then (s.setPin pin { x with pmu := { p with disc := false } }).pmuOpen pin
    else
      let s := if e.keep then (s.setPin pin { x with pmu := { p with phase := 5 } }).wr F.PIN_PMU_STAT_KEPT 1 pin
        else s.pmuOpen pin
      s.pmuPinEnded pin)

/-- R328, R508: PIN_PMU_CTL.GO. -/
def State.pmuGo (s : State) (q : Nat) : State :=
  if s.safe then s.wr F.FLT_STAT_SAFEWR 1
  else if s.podRuns (q / 4) || s.pmuBusy q then s.wr F.PIN_FLAG_CFG_BUSY 1 q
  else
    let tok := s.tok
    { s with tok := tok + 1 }.pmuRequest none 0 (s.rd F.PIN_PMU_CTL_SETUP q) [q] 0 0 tok

/-- PIN_PMU_GO. -/
def execPinPmuGo (pin : PinId) (s : State) : Out := .next (s.pmuGo pin)

/-- R328: PIN_PMU_CTL.DISC. -/
def State.pmuDisc (s : State) (q : Nat) : State :=
  let x := s.pin q
  if x.pmu.phase = 5 ∧ x.pmu.reg then
    s.setPin q { x with pmu := { x.pmu with phase := 4, until_ := after s.now 1500, disc := true } }
  else s

/-- DISC. -/
def execDisc (pin : PinId) (s : State) : Out := .next (s.pmuDisc pin)

/-- R328: a write of PIN_PMU_CTL. -/
def State.writePmuCtl (s : State) (q v : Nat) : State :=
  let s := s.wr F.PIN_PMU_CTL_SETUP (bits v 8 0) q
  let s := if hasBit v 30 then s.pmuDisc q else s
  if hasBit v 31 then s.pmuGo q else s

end Sys2Proof.Machine
end

