-- ==== Sys2Proof/Machine/IuRows.lean ====
section
/-! DEFINITION. The meanings of the interval-unit commands (R294 to R306), of the calibrations of TDCs and interpolators
(R308, R309, R115) and of the eye measurement (R119, R120). -/

namespace Sys2Proof.Machine

open Sys2Proof

/-! ### Attempts -/

/-- UNIT_GRANT, R304: the head of the queue is granted the lowest-numbered free unit. -/
def execUnitGrant (s : State) : Out :=
  .next (match s.iuq, (List.range 64).find? s.iuFree with
    | r :: rest, some u => { s with iuq := rest }.iuStart u (some r.site) r.setup r.dst r.tok
    | _, _ => s)

/-- How an attempt ends: the stamp of its end, its sample, the stops ignored before it (R295), what the edges left over are. -/
structure AttemptEnd where
  stamp : Stamp
  sample : Int
  early : Nat
  anchor : Option Stamp
  starts : List Stamp

/-- R295: the stops taken before an attempt's start, which are ignored and counted. -/
def IuX.early (x : IuX) : Nat :=
  if x.e.mode ≠ 1 then 0 else
  match x.starts with | [] => 0 | a :: _ => (x.stops.filter (fun t => decide (ahead t a < 0))).length

/-- What the edges taken so far make of the present attempt (R294 to R296). -/
def IuX.attempt (x : IuX) : Option AttemptEnd :=
  if x.e.mode ≥ 2 then
    let c := x.e.cycM1 + 1
    let seq := match x.anchor with | some a => a :: x.starts | none => x.starts
    match seq.head?, seq[c]? with
    | some a, some b => some ⟨b, roundDiv (ahead b a) c, 0, some b, seq.drop (c + 1)⟩
    | _, _ => none
  else
    match x.starts with
    | [] => none
    | a :: _ =>
      if x.e.mode = 1 then
        match x.stops.find? (fun t => decide (ahead t a ≥ 0)) with
        | some b => some ⟨b, ahead b a, x.early, none, []⟩
        | none => none
      else
        match x.stops with
        | b :: _ => some ⟨later a b, ahead b a, 0, none, []⟩
        | [] => none

/-- The tick at which an attempt times out (R298). -/
def IuX.limit (x : IuX) : Stamp := after x.begT ((x.e.tmo + 1) * 64)

/-- An attempt has ended at a stamp; the next begins in the tick after. -/
def IuX.nextAttempt (x : IuX) (t : Stamp) (anchor : Option Stamp) (starts : List Stamp) : IuX :=
  { x with
    done := x.done + 1, last := t, endT := some t, begT := after (tickOf t) 1, anchor := anchor, starts := starts
    stops := [], missed := false }

/-- A valid sample enters the statistics (R299, R300). -/
def IuX.take1 (x : IuX) (v : Int) : IuX :=
  { x with
    nvalid := x.nvalid + 1, sum := x.sum + v, sumsq := x.sumsq + v * v
    lo := if x.nvalid = 0 then v else min x.lo v
    hi := if x.nvalid = 0 then v else max x.hi v
    flags := if v.natAbs < 16 then withBit x.flags fNear else x.flags }

/-- ATTEMPTS counts an attempt that has ended. -/
def State.countAttempt (s : State) (u : Nat) : State := s.bump F.IU_STAT_ATTEMPTS 1 u

/-- Whether a unit is within its attempts. -/
def IuX.attempting (x : IuX) : Bool := x.busy && !x.waitCal && decide (x.done < x.e.nM1 + 1)

/-- ATTEMPT_END, R294 to R299. -/
def execAttemptEnd (unit : UnitId) (s : State) : Out :=
  let u := unit.val
  let x := s.iu u
  .next (match x.attempt with
    | none => s
    | some a =>
      if !x.attempting || !reached (tickOf a.stamp) s.now || decide (ahead (tickOf a.stamp) x.limit > 0) then s else
      let x := { x with
        nrej := x.nrej + a.early, flags := if a.early > 0 then withBit x.flags fOrder else x.flags }
      let y := if x.missed
        then { x with nrej := x.nrej + 1, flags := withBit x.flags fDead }.nextAttempt a.stamp none []
        else (x.take1 a.sample).nextAttempt a.stamp a.anchor a.starts
      let s := (s.setIu u y).countAttempt u
      if x.missed then s else s.pulse 0x3C u)

/-- ATTEMPT_TIMEOUT, R298. -/
def execAttemptTimeout (unit : UnitId) (s : State) : Out :=
  let u := unit.val
  let x := s.iu u
  let in_ := match x.attempt with | some a => decide (ahead (tickOf a.stamp) x.limit ≤ 0) | none => false
  .next (
    if !x.attempting || in_ || !reached x.limit s.now then s else
    let y := { x with
      ntmo := x.ntmo + 1, nrej := x.nrej + x.early
      flags := withBit (if x.early > 0 then withBit x.flags fOrder else x.flags) fTmo }.nextAttempt x.limit none []
    (s.setIu u y).countAttempt u)

/-- IU_RESULT, R300 to R303: the last attempt has ended. -/
def execIuResult (unit : UnitId) (s : State) : Out :=
  let u := unit.val
  let x := s.iu u
  .next (
    if x.busy = false ∨ x.done < x.e.nM1 + 1 then s else
    let x := if x.nvalid = 0 then { x with flags := withBit x.flags fNoValid } else x
    let s := (s.setIu u { x with busy := false }).markSources u x false
    (s.iuWrite u x).wr F.IU_STAT_STATE 2 u)

/-- R305, R508: IU_CTL.GO. -/
def State.iuGo (s : State) (u : Nat) : State :=
  if s.safe then s.wr F.FLT_STAT_SAFEWR 1
  else if s.on F.IU_CTL_RSV u && s.rd F.IU_STAT_STATE u != 1 then s.iuStart u none (s.rd F.IU_CTL_SETUP u) 0 0
  else s

/-- GO. -/
def execGo (unit : UnitId) (s : State) : Out := .next (s.iuGo unit)

/-- R305: IU_CTL.ABORT. -/
def State.iuAbort (s : State) (u : Nat) : State :=
  let x := s.iu u
  if x.busy && x.reg && decide (x.done < x.e.nM1 + 1) then s.iuDrop u else s

/-- ABORT. -/
def execAbort (unit : UnitId) (s : State) : Out := .next (s.iuAbort unit)

/-- R304, R305: a write of IU_CTL. -/
def State.writeIuCtl (s : State) (u v : Nat) : State :=
  let s := s.wr F.IU_CTL_SETUP (bits v 7 0) u
  let s := if s.rd F.IU_STAT_STATE u = 1 then s else s.wr F.IU_CTL_RSV (bit v 31) u
  let s := if hasBit v 9 then s.iuAbort u else s
  if hasBit v 8 then s.iuGo u else s

/-! ### Calibration of the TDCs -/

/-- The temperature of a pin die, signed, 0.125 °C per code (R478). -/
def State.dieTemp (s : State) (k : Nat) : Int := signed 16 (s.rd F.THM_T_TEMP (1 + k))

/-- Whether the start tick of an accepted STEP_RUN naming a site of a pin die lies less than `t` ticks ahead. -/
def State.runAhead (s : State) (k t : Nat) : Bool :=
  s.runs.any (fun r => !r.started && r.sites.any (fun n => dieOfPod (s.lead n) == k)
    && decide (ahead r.startT (after s.now t) < 0))

/-- The length of a calibration, 8.4 ms, and 2 µs. -/
def calTicks : Nat := 12600000

/-- R309: the conditions of a calibration on request. -/
def State.calOk (s : State) (k : Nat) : Bool :=
  !s.dieRuns k && !s.runAhead k (calTicks + 2 * tUs)
    && s.ius.all (fun e => !(e.2.busy && (dieOfPin e.2.startSrc.index == k && e.2.startSrc.kind == 1
      || dieOfPin e.2.stopSrc.index == k && e.2.stopSrc.kind == 1)))

/-- A calibration of a pin die begins. -/
def State.calStart (s : State) (k : Nat) : State :=
  (s.setDie k { s.die k with calEnd := some (after s.now calTicks), calTemp := s.dieTemp k }).wr F.IU_CALST_CBUSY
    (withBit (s.rd F.IU_CALST_CBUSY) k)

/-- R309: IU_CAL.RUN: every pin die asked for that is not calibrating already. -/
def State.calRun (s : State) (dies : Nat) : State :=
  (bitsSet 4 dies).foldl (fun s k =>
    if hasBit (s.rd F.IU_CALST_CBUSY) k then s
    else if s.calOk k then s.calStart k else s.wr F.IU_CALST_REFUSED 1) s

/-- IU_CAL_RUN. -/
def execIuCalRun (dies : BitVec 4) (s : State) : Out := .next (s.calRun dies.toNat)

/-- Whether a temperature has moved by more than a field of whole °C, 0 acting as 1 (R115, R309). -/
def movedBy (old new : Int) (dt : Nat) : Bool := decide ((new - old).natAbs > 8 * max 1 dt)

/-- CALIBRATION, R309: an automatic calibration that is due, by temperature or deferred, runs or is deferred. -/
def execCalibration (die : DieId) (s : State) : Out :=
  let k := die.val
  let due := s.on F.IU_CAL_AUTO
    && (movedBy (s.die k).calTemp (s.dieTemp k) (s.rd F.IU_CAL_DT) || hasBit (s.rd F.IU_CALST_DUE) k)
  .next (
    if !due || hasBit (s.rd F.IU_CALST_CBUSY) k || !s.dieOk k then s
    else if s.calOk k then s.calStart k
    else s.wr F.IU_CALST_DUE (withBit (s.rd F.IU_CALST_DUE) k))

/-- What a calibration does to one pin: its residue in 0.01 ps, and whether every bin of both passes was hit (R308). -/
def State.calPin (s : State) (q resid : Nat) (full : Bool) : State :=
  let s := s.wr F.PIN_TDC_CAL_RESID (min 65535 resid) q
  if resid ≤ 200 ∧ full then (s.wr F.PIN_TDC_CAL_VALID 1 q)
  else (s.wr F.PIN_TDC_CAL_CALBAD 1 q).wr F.IU_CALST_BAD (withBit (s.rd F.IU_CALST_BAD) (dieOfPin q))

/-- CALIBRATION_END, R308, R309: after 8.4 ms. `resid` gives what the random edges gave of the die's pins in order; a pin it
does not list took no edge. -/
def execCalibrationEnd (die : DieId) (resid : List (Nat × Bool)) (s : State) : Out :=
  let k := die.val
  let x := s.die k
  .next (match x.calEnd with
    | none => s
    | some t =>
      if reached t s.now = false then s else
      let s := s.setDie k { x with calEnd := none }
      let s := (s.wr F.IU_CALST_CBUSY (withoutBit (s.rd F.IU_CALST_CBUSY) k)).wr F.IU_CALST_DUE
        (withoutBit (s.rd F.IU_CALST_DUE) k)
      let s := (List.range 256).foldl (fun s i =>
        let r := resid.getD i (0, false)
        s.calPin (256 * k + i) r.1 r.2) s
      let worst := (List.range 1024).foldl (fun m q => max m (s.rd F.PIN_TDC_CAL_RESID q)) 0
      let s := s.wr F.IU_CALST_WORST worst
      let bad := (List.range 256).any (fun i => let r := resid.getD i (0, false); !(decide (r.1 ≤ 200) && r.2))
      let s := if bad then s.detect (128 + 64 * k + 5) k 0 else s
      { s with ius := s.ius.map (fun (e : Nat × IuX) =>
          let u := e.2
          if u.waitCal && !(s.srcCal u.startSrc || s.srcCal u.stopSrc)
          then (e.1, { u with waitCal := false, begT := s.now }) else e) })

/-! ### Delay recalibration and eye -/

/-- RECALIBRATION, R115: the interpolators of a pin die whose temperature has moved are recalibrated, or the recalibration is
deferred. -/
def execRecalibration (die : DieId) (s : State) : Out :=
  let k := die.val
  let x := s.die k
  let pods := (List.range 64).map (fun i => 64 * k + i)
  let moved (p : Nat) : Bool := s.on F.POD_TIM_CTL_RECAL_AUTO p
    && (movedBy x.recalTemp (s.dieTemp k) (s.rd F.POD_TIM_CTL_RECAL_DT p) || s.on F.POD_TIM_STAT_RECAL_DUE p)
  let due := pods.filter moved
  let busy := match x.recalEnd with | some t => !reached t s.now | none => false
  .next (
    if due.isEmpty || busy || !s.dieOk k then s
    else if s.dieRuns k || s.runAhead k (12 * tUs + 2 * tUs) then s.wrAll F.POD_TIM_STAT_RECAL_DUE 1 due
    else (s.setDie k { x with recalTemp := s.dieTemp k, recalEnd := some (after s.now (12 * tUs)) }).wrAll
      F.POD_TIM_STAT_RECAL_DUE 0 pods)

/-- R119, R120, R508: POD_TIM_CTL.EYE_RUN. -/
def State.eyeRun (s : State) (pod : Nat) : State :=
  if s.safe then s.wr F.FLT_STAT_SAFEWR 1
  else if s.podRuns pod then s.wr F.PIN_FLAG_CFG_BUSY 1 (4 * pod)
  else if s.on F.POD_TIM_STAT_EYE_BUSY pod then s
  else
    let pins := (pinsOfPod pod).filter (fun q => s.on F.PIN_CFG_USE q && s.on F.PIN_CFG_DRV_EN q)
    (s.setPod pod { s.pod pod with eyeEnd := some (after s.now 750000), eyePins := pins }).wr F.POD_TIM_STAT_EYE_BUSY 1 pod

/-- EYE_RUN. -/
def execEyeRun (pod : PodId) (s : State) : Out := .next (s.eyeRun pod)

/-- EYE_DONE, R119: the sweep has ended; `widths` gives the widest error-free run of each pin in ps. -/
def execEyeDone (pod : PodId) (widths : List Nat) (s : State) : Out :=
  let p := pod.val
  let x := s.pod p
  .next (match x.eyeEnd with
    | none => s
    | some t =>
      if reached t s.now = false then s else
      let s := (s.setPod p { x with eyeEnd := none, eyePins := [] }).wr F.POD_TIM_STAT_EYE_BUSY 0 p
      (List.range 4).foldl (fun s i =>
        let on := x.eyePins.contains (4 * p + i)
        let m := if on then min 65535 (widths.getD i 0) else 0
        let s := s.wr F.POD_TIM_EYE_EYE_M m p i
        if on && decide (m + 20 < (Config.otpEye (4 * p + i)).toNat) then s.wr F.POD_TIM_STAT_EYE_LOW 1 p else s) s)

/-- R115, R119: a write of POD_TIM_CTL. -/
def State.writeTimCtl (s : State) (pod v : Nat) : State :=
  let s := (s.wr F.POD_TIM_CTL_RECAL_DT (bits v 11 8) pod).wr F.POD_TIM_CTL_RECAL_AUTO (bit v 0) pod
  if hasBit v 1 then s.eyeRun pod else s

/-- R309: a write of IU_CAL. -/
def State.writeIuCal (s : State) (v : Nat) : State :=
  ((s.wr F.IU_CAL_DT (bits v 15 12)).wr F.IU_CAL_AUTO (bit v 8)).calRun (bits v 3 0)

end Sys2Proof.Machine
end

