-- ==== Sys2Proof/Machine/CaptureRows.lean ====
section
/-! DEFINITION. The meanings of the capture and ledger commands (R251 to R284), and the writes of their registers that have
rules of their own. -/

namespace Sys2Proof.Machine

open Sys2Proof

/-! ### Descriptors that move capture data -/

/-- OPC of a descriptor (R386). -/
def Desc.opc (d : Desc) : Nat := bits d.raw 7 0

/-- Whether a capture upload of a pod, any upload, a drain is pending: started, and its completion not written (R272). -/
def State.descsStarted (s : State) : List Desc := s.qps.flatMap (fun e => e.2.fetched.filter (·.started))
def State.cplsWaiting (s : State) : List Cpl := s.qps.flatMap (fun e => e.2.cplq)
def State.capPending (s : State) (pod : Nat) : Bool :=
  s.descsStarted.any (fun d => d.opc == 9 && bits d.raw 71 64 == pod) || s.cplsWaiting.any (fun c => c.opc == 9 && c.pod == pod)
def State.anyUpload (s : State) : Bool := s.descsStarted.any (fun d => d.opc == 9) || s.cplsWaiting.any (fun c => c.opc == 9)
def State.drainPending (s : State) : Bool := s.descsStarted.any (fun d => d.opc == 10) || s.cplsWaiting.any (fun c => c.opc == 10)

/-! ### Rings -/

/-- Bytes of a pod's ring, its first byte in capture memory (R253). -/
def State.ringSize (s : State) (pod : Nat) : Nat := 4096 * (s.rd F.CAP_PART_SIZE pod - s.mapUnits pod)
def State.ringBase (s : State) (pod : Nat) : Nat := 4096 * (s.rd F.CAP_PART_BASE pod + s.mapUnits pod)

/-- CAP_FILL (R254). -/
def State.capFill (s : State) (pod : Nat) : Nat :=
  let r := s.ringSize pod
  if s.rd F.CAP_WR_WRAP pod = s.rd F.CAP_RD_WRAP pod then s.rd F.CAP_WR_OFFSET pod - s.rd F.CAP_RD_OFFSET pod
  else r + s.rd F.CAP_WR_OFFSET pod - s.rd F.CAP_RD_OFFSET pod

/-- Free bytes of a pod's ring. -/
def State.capFree (s : State) (pod : Nat) : Nat := s.ringSize pod - s.capFill pod

/-- Bytes written into capture memory from an offset of the ring on, round its end. -/
def State.ringWrite (s : State) (pod off : Nat) : List Nat → State
  | [] => s
  | b :: t =>
    let r := max 1 (s.ringSize pod)
    { s with capMem := s.capMem.write (s.ringBase pod + off % r) (BitVec.ofNat 8 b) }.ringWrite pod (off + 1) t

/-- n bytes read from an offset of the ring on. -/
def State.ringRead (s : State) (pod off : Nat) : Nat → List Nat
  | 0 => []
  | n + 1 =>
    let r := max 1 (s.ringSize pod)
    (s.capMem.byte (s.ringBase pod + off % r)).toNat :: s.ringRead pod (off + 1) n

/-- R275: whether CAP_FILL stands at the threshold; below it the CAPTURE record is armed again. -/
def State.capAbove (s : State) (pod : Nat) : Bool :=
  let t := s.rd F.CAP_THR_THR pod
  t != 0 && decide (s.capFill pod ≥ 4096 * t)
def State.rearmCapture (s : State) (pod : Nat) : State :=
  if s.capAbove pod then s else s.setPod pod { s.pod pod with above := false }

/-- A record of 64-bit words goes into a pod's ring, and CAP_WR advances (R254). -/
def State.putRecord (s : State) (pod : Nat) (words : List Nat) : State :=
  let off := s.rd F.CAP_WR_OFFSET pod
  let r := s.ringSize pod
  let s := s.ringWrite pod off (words.flatMap (toBytes 8))
  let next := off + 8 * words.length
  (s.wr F.CAP_WR_OFFSET (if next ≥ r then next - r else next) pod).wr F.CAP_WR_WRAP
    (if next ≥ r then 1 - s.rd F.CAP_WR_WRAP pod else s.rd F.CAP_WR_WRAP pod) pod

/-- A LOSS record of a run (R270). -/
def LossRun.words (r : LossRun) : List Nat :=
  [7 * 2 ^ 60 + r.cause * 2 ^ 56 + r.pinMask % 16 * 2 ^ 52 + r.count, r.first.toNat, r.last.toNat]

/-- The record that a pod writes next: those of one pin in the order of their stamps (R257). -/
inductive NextRec where
  | none
  | queued (step : Bool) (r : CapRec)
  | edge (e : EdgeRec)

/-- The pod's next record: its STEP record, or the earlier of the heads of its fail queue and its edge FIFO. -/
def PodX.nextRec (x : PodX) : NextRec :=
  match x.stepq, x.failq, x.efifo with
  | r :: _, _, _ => .queued true r
  | [], r :: _, [] => .queued false r
  | [], [], e :: _ => .edge e
  | [], r :: _, e :: _ => if ahead r.stamp e.stamp ≤ 0 then .queued false r else .edge e
  | [], [], [] => .none

/-- R267: why a SYNC record must come before an EDGE record: 1 delta range, 2 epoch, 3 jump; 0 for none. Epoch and jumps are those at
the two stamps. -/
def State.syncWhy (s : State) (pod : Nat) (e : EdgeRec) : Nat :=
  let x := s.pod pod
  let d := ahead e.stamp x.refStamp
  if x.refJump ≠ e.jp then 3
  else if x.refEpoch ≠ e.ep then 2
  else if d ≥ 2 ^ 47 ∨ d < -2 ^ 47 then 1 else 0

/-- The reference stamp is a record's (R266), with the epoch and the jumps at it. -/
def State.setRef (s : State) (pod : Nat) (t : Stamp) (ep jp : Nat) : State :=
  s.setPod pod { s.pod pod with refStamp := t, refEpoch := ep, refJump := jp }

/-- The pod's next record leaves its queue. -/
def State.popRec (s : State) (pod : Nat) : State :=
  let x := s.pod pod
  match x.nextRec with
  | .queued true _ => s.setPod pod { x with stepq := x.stepq.tail }
  | .queued false _ => s.setPod pod { x with failq := x.failq.tail }
  | .edge _ => s.setPod pod { x with efifo := x.efifo.tail }
  | .none => s

/-- The words of the pod's next record, and whether they are a SYNC that comes before it. -/
def State.nextWords (s : State) (pod : Nat) : Option (List Nat × Bool) :=
  match (s.pod pod).nextRec with
  | .none => none
  | .queued _ r => some (r.words, false)
  | .edge e =>
    let why := s.syncWhy pod e
    if why ≠ 0 then some ([5 * 2 ^ 60 + why * 2 ^ 56 + e.ep, e.stamp.toNat], true)
    else some ([4 * 2 ^ 60 + e.pin * 2 ^ 58 + e.state * 2 ^ 56 + ofBool e.win * 2 ^ 55
      + ofSigned 48 (ahead e.stamp (s.pod pod).refStamp)], false)

/-- Whether the pod's next record, with the LOSS records due before it, fits (R254, R270). -/
def State.recFits (s : State) (pod : Nat) (len : Nat) : Bool :=
  decide (s.capFree pod ≥ len + 24 * (s.pod pod).losses.length + 24)

/-- A record lost for want of room (R270), or in a partition of no unit (R251). -/
def State.loseFull (s : State) (pod pin : Nat) (stamp : Stamp) (flag : Fld) : State :=
  let s := s.lose pod 5 pin stamp flag
  if s.rd F.CAP_PART_SIZE pod = 0 then s.setPod pod { s.pod pod with losses := [] } else s

/-- RECORD_WRITE, R254, R256, R257, R266, R267, R270: the pod's next record goes into its ring or is lost. LOSS records that
are due come first (LOSS_RECORD). -/
def execRecordWrite (pod : PodId) (s : State) : Out :=
  let p := pod.val
  .next (match s.nextWords p, (s.pod p).nextRec with
    | some (ws, sync), r =>
      if s.recFits p (8 * ws.length) then
        (if !(s.pod p).losses.isEmpty then s
         else
          let s := if sync then s else s.popRec p
          let s := s.putRecord p ws
          match r with
          | .edge e => s.setRef p e.stamp e.ep e.jp
          | .queued true c => s.setRef p c.stamp c.ep c.jp
          | _ => s)
      else
        let s := s.popRec p
        (match r with
         | .edge e =>
           let s := if sync then s.loseFull p e.pin e.stamp F.CAP_STAT_ELOSS else s
           s.loseFull p e.pin e.stamp F.CAP_STAT_ELOSS
         | .queued _ c => s.loseFull p c.pin c.stamp F.CAP_STAT_FLOSS
         | .none => s)
    | none, _ => s)

/-- LOSS_RECORD, R254, R270: the first open run's record is written before the pod's next record, or at the end of its
step. -/
def execLossRecord (pod : PodId) (s : State) : Out :=
  let p := pod.val
  let x := s.pod p
  .next (match x.losses with
    | [] => s
    | r :: rest =>
      let due := !s.podRuns p || (match s.nextWords p with | some (ws, _) => s.recFits p (8 * ws.length) | none => false)
      if s.rd F.CAP_PART_SIZE p = 0 then s.setPod p { x with losses := [] }
      else if !due || decide (s.capFree p < 24) then s
      else (s.setPod p { x with losses := rest }).putRecord p r.words)

/-- R275: a write of CAP_THR moves the threshold; a fill that stands above the new one has not risen to it. -/
def State.thrWrite (s : State) (p v : Nat) : State :=
  let s := s.wr F.CAP_THR_THR (bits v 11 0) p
  s.setPod p { s.pod p with above := s.capAbove p }

/-- CAPTURE_THRESHOLD, R275. -/
def execCaptureThreshold (pod : PodId) (s : State) : Out :=
  let p := pod.val
  .next (
    if !s.capAbove p || (s.pod p).above then s else
    (s.setPod p { s.pod p with above := true }).record (4 * p) 3 [p + s.capFill p * 2 ^ 32] s.now none)

/-! ### Partition, read pointers, configuration -/

/-- R252: whether the partition that CAP_PNEXT gives is accepted. -/
def State.partOk (s : State) : Bool :=
  let ps := ((List.range 256).map (fun p => (s.rd F.CAP_PNEXT_BASE p, s.rd F.CAP_PNEXT_SIZE p))).filter (fun e => e.2 != 0)
  !s.anyRuns && !s.anyUpload && ps.all (fun e => decide (e.1 + e.2 ≤ 4096)) &&
  (List.range ps.length).all (fun i => (List.range i).all (fun j =>
    let a := ps.getD i (0, 0)
    let b := ps.getD j (0, 0)
    decide (a.1 + a.2 ≤ b.1 ∨ b.1 + b.2 ≤ a.1)))

/-- A pod's ring becomes empty at offset 0. -/
def State.emptyRing (s : State) (p : Nat) : State :=
  (((s.wr F.CAP_WR_WRAP 0 p).wr F.CAP_WR_OFFSET 0 p).wr F.CAP_RD_WRAP 0 p).wr F.CAP_RD_OFFSET 0 p

/-- R253: a MAP_UNITS not below SIZE sets CAP_STAT.CFGBAD. -/
def State.mapCheck (s : State) (p : Nat) : State :=
  let m := s.rd F.CAP_CFG_MAP_UNITS p
  if m ≠ 0 ∧ m ≥ s.rd F.CAP_PART_SIZE p then s.wr F.CAP_STAT_CFGBAD 1 p else s

/-- R252: an accepted apply takes CAP_PNEXT, empties every ring and loses the contents of capture memory, which then reads
as memory that nothing has written (assumption 4). -/
def State.apply (s : State) : State :=
  if s.partOk then
    (List.range 256).foldl (fun s p =>
      ((((s.wr F.CAP_PART_BASE (s.rd F.CAP_PNEXT_BASE p) p).wr F.CAP_PART_SIZE (s.rd F.CAP_PNEXT_SIZE p) p).emptyRing
        p).rearmCapture p).mapCheck p) { s with capMem := [] }
  else s.wr F.CAP_GSTAT_PARTBAD 1

/-- APPLY. -/
def execApply (s : State) : Out := .next s.apply

/-- R273: a write of CAP_RD. -/
def State.capRdWrite (s : State) (p v : Nat) : State :=
  let r := s.ringSize p
  let pos (w o : Nat) : Nat := w * r + o
  let old := pos (s.rd F.CAP_RD_WRAP p) (s.rd F.CAP_RD_OFFSET p)
  let new := pos (bit v 24) (bits v 23 0)
  let step := (new + 2 * r - old) % (2 * max 1 r)
  if s.capPending p || decide (bits v 23 0 ≥ max 1 r) || decide (step > s.capFill p) then s.wr F.CAP_STAT_RDBAD 1 p
  else ((s.wr F.CAP_RD_WRAP (bit v 24) p).wr F.CAP_RD_OFFSET (bits v 23 0) p).rearmCapture p

/-- CAP_RD_WRITE. -/
def execCapRdWrite (pod : PodId) (value : BitVec 32) (s : State) : Out := .next (s.capRdWrite pod value.toNat)

/-- R253: a write of CAP_CFG, CAP_ELOG or CAP_MAPSTART (0, 1, 2). -/
def State.capCfgWrite (s : State) (p reg v : Nat) : State :=
  let m := bits v 23 20
  let changes := decide (reg = 0 ∧ m ≠ s.rd F.CAP_CFG_MAP_UNITS p)
  if s.podRuns p || (changes && decide (s.capFill p ≠ 0)) then s.wr F.CAP_STAT_BUSY 1 p
  else if reg = 1 then s.wr F.CAP_ELOG_BUDGET (bits v 15 0) p
  else if reg = 2 then s.wr F.CAP_MAPSTART_MAPSTART v p
  else
    let s := [(F.CAP_CFG_SCALE, bits v 28 24), (F.CAP_CFG_MAP_UNITS, m), (F.CAP_CFG_FIRST_N, bits v 19 8),
      (F.CAP_CFG_FMODE, bits v 1 0)].foldl (fun s (e : Fld × Nat) => s.wr e.1 e.2 p) s
    let s := s.mapCheck p
    if changes then (s.emptyRing p).rearmCapture p else s

/-- CAP_CFG_WRITE. -/
def execCapCfgWrite (pod : PodId) (reg : Fin 3) (value : BitVec 32) (s : State) : Out :=
  .next (s.capCfgWrite pod reg value.toNat)

/-! ### Ledger -/

/-- Whether LEDG_FILL stands at its threshold (R284). -/
def State.ledgOver (s : State) : Bool :=
  let t := s.rd F.LEDG_CFG_THRESH
  t != 0 && decide (s.ledgFill ≥ 256 * t)

/-- The read index moves; below the threshold the LEDGER record is armed again. -/
def State.setLedgRd (s : State) (wrap index : Nat) : State :=
  let s := (s.wr F.LEDG_RD_WRAP wrap).wr F.LEDG_RD_INDEX index
  if s.ledgOver then s else { s with ledgAbove := false }

/-- R284: a write of LEDG_CFG; a fill that stands above a new threshold has not risen to it. -/
def State.ledgCfgWrite (s : State) (v : Nat) : State :=
  let s := ((s.wr F.LEDG_CFG_THRESH (bits v 15 8)).wr F.LEDG_CFG_NONE_EN (bit v 1)).wr F.LEDG_CFG_FULL_POL (bit v 0)
  { s with ledgAbove := s.ledgOver }

/-- R284: a write of LEDG_RD. -/
def State.ledgRdWrite (s : State) (v : Nat) : State :=
  let old := s.rd F.LEDG_RD_INDEX + 65536 * s.rd F.LEDG_RD_WRAP
  let step := (bits v 16 0 + 131072 - old) % 131072
  if s.drainPending || decide (step > s.ledgFill) then s.wr F.LEDG_STAT_RDBAD 1
  else s.setLedgRd (bit v 16) (bits v 15 0)

/-- LEDG_RD_WRITE. -/
def execLedgRdWrite (value : BitVec 32) (s : State) : Out := .next (s.ledgRdWrite value.toNat)

/-- LEDGER_THRESHOLD, R284. -/
def execLedgerThreshold (s : State) : Out :=
  .next (
    if !s.ledgOver || s.ledgAbove then s
    else { s with ledgAbove := true }.record 0xFFF 4 [s.ledgFill] s.now (some (s.rd F.EVT_CFG_SYSRING)))

end Sys2Proof.Machine
end

