-- ==== Sys2Proof/Machine/FabOps.lean ====
section
/-! DEFINITION. Fabric operations: port states (R436), packets, credit and replay (R439, R440), routing, detours and drops
(R443 to R445), end-to-end order (R458). A packet is taken as a whole: its head flit's header and the payload of all its flits
(assumption 18). -/

namespace Sys2Proof

/-- The flits of a packet, and the credit channel it uses (R439, R440). -/
def Flit.flits (f : Flit) : Nat := f.more + 1
def Flit.vc (f : Flit) : Nat := if f.det = 1 then 2 else f.ord % 2
def Flit.channel (f : Flit) : Nat := 3 * (f.tc - 1) + f.vc

/-- A link-local flit, or a flit that carries only ACK and credit. -/
def Flit.link (ty ack : Nat) (nak : Bool) (cvc ccnt : Nat) (bytes : List Nat) : Flit :=
  { crcOk := true, seq := 0, ack := ack, nak := nak, cvc := cvc, ccnt := ccnt, ty := ty, tc := 0, ord := 0, det := 0, dx := 0,
    dy := 0, src := 0, hops := 0, more := 0, pseq := 0, bytes := bytes }

/-- A number of n bytes at an offset of a payload (R2). -/
def Flit.field (f : Flit) (off n : Nat) : Nat := Machine.ofBytes ((f.bytes.drop off).take n)

end Sys2Proof

namespace Sys2Proof.Machine

open Sys2Proof

/-- Port states (R436). -/
def ptNopeer : Nat := 0
def ptTrain : Nat := 1
def ptLatency : Nat := 2
def ptUp : Nat := 3
def ptDown : Nat := 4
def ptFenced : Nat := 5
def ptMiswired : Nat := 6
def ptDisabled : Nat := 7

/-- Packet types (R441). -/
def tyIdle : Nat := 0
def tyLmeas : Nat := 1
def tyBeacon : Nat := 2
def tyDisc : Nat := 3
def tyRegRd : Nat := 4
def tyRegWr : Nat := 5
def tyRegCpl : Nat := 6
def tyDoorbell : Nat := 7
def tyIrq : Nat := 8
def tyCtrl : Nat := 9
def tyDmaRd : Nat := 10
def tyDmaWr : Nat := 11
def tyDmaCpl : Nat := 12

def State.port (s : State) (p : Nat) : PortX := s.ports.at {} p
def State.setPort (s : State) (p : Nat) (x : PortX) : State := { s with ports := s.ports.set {} p x }
def State.portSt (s : State) (p : Nat) : Nat := s.rd F.FAB_PSTAT_STATE p

/-- The device's own number, whether it is the anchor, the number of the timing master. -/
def State.dev (s : State) : Nat := s.rd F.GLB_ROLE_DEVNUM
def State.anchor (s : State) : Bool := s.on F.GLB_ROLE_ANCHOR
def State.tmaster (s : State) : Bool := s.on F.GLB_ROLE_TMASTER

/-- The port opposite to a port (R435). -/
def opposite (p : Nat) : Nat := (p + 2) % 4

/-- An event of a port, with the detail of R399. -/
def State.portEvent (s : State) (p k info : Nat) : State := s.raise (1968 + 8 * p + k) info [s.portSt p] s.now

/-- A port enters a state; R463's events UP, DOWN and RETRAIN, R462's and R491's faults. -/
def State.setPortSt (s : State) (p st : Nat) : State :=
  let old := s.portSt p
  let s := (s.wr F.FAB_PSTAT_STATE st p).setPort p { s.port p with since := s.now, retry := false }
  let s := if st = ptUp then (s.portEvent p 1 0).endLive (32 + p) none else s
  let s := if st = ptDown ∨ st = ptFenced ∨ st = ptMiswired then s.portEvent p 2 0 else s
  let s := if st = ptTrain ∧ old = ptUp then s.portEvent p 3 0 else s
  let s := if st = ptDown then s.detect (32 + p) p 0 else s
  let s := if st = ptMiswired then s.detect (40 + p) p 0 else s
  if old = ptMiswired ∧ st ≠ ptMiswired then s.endLive (40 + p) none else s

/-- Unacknowledged flits of a port. -/
def PortX.unacked (x : PortX) : Nat := (x.replay.map Flit.flits).sum

/-- R440: a packet is sent only when credit exists for the whole of it and fewer than 256 flits stay unacknowledged. -/
def State.canSend (s : State) (p : Nat) (f : Flit) : Bool :=
  let x := s.port p
  s.portSt p == ptUp && decide (x.unacked + f.flits ≤ 256) && decide (f.flits ≤ x.credit.getD f.channel 0)

/-- A packet is sent on a port, and kept until it is acknowledged. -/
def State.transmit (s : State) (p : Nat) (f : Flit) : State :=
  let x := s.port p
  let f := { f with seq := x.txSeq, ack := x.rxSeq, nak := false, cvc := 0, ccnt := 0 }
  let s := s.setPort p { x with
    txSeq := (x.txSeq + f.flits) % 4096
    replay := x.replay ++ [f]
    credit := x.credit.set f.channel (x.credit.getD f.channel 0 - f.flits) }
  ({ s with out := s.out ++ [OutMsg.flit p f] }).pulse 0x28 p f.flits

/-- R442: which of a port's waiting packets goes next: TC1 first, then TC2 and TC3 by the weights of FAB_ARB. -/
def State.nextHeld (s : State) (p : Nat) : Option (Flit × Stamp) :=
  let x := s.port p
  let first (tc : Nat) : Option (Flit × Stamp) := (x.held.find? (fun e => e.1.tc == tc)).bind (fun e =>
    if s.canSend p e.1 then some e else none)
  match first 1, first 2, first 3 with
  | some e, _, _ => some e
  | none, some e, none => some e
  | none, none, some e => some e
  | none, some e2, some e3 => if x.arb2 > 0 ∨ x.arb3 = 0 then some e2 else some e3
  | none, none, none => none

/-- A class has used up flits of its share of the present round (R442). -/
def PortX.spend (x : PortX) (w2 w3 : Nat) (f : Flit) : PortX :=
  let a2 := if f.tc = 2 then x.arb2 - f.flits else x.arb2
  let a3 := if f.tc = 3 then x.arb3 - f.flits else x.arb3
  if f.tc = 1 then x else if a2 = 0 ∧ a3 = 0 then { x with arb2 := max 1 w2, arb3 := max 1 w3 } else { x with arb2 := a2, arb3 := a3 }

/-- The waiting packets of a port leave while they may. -/
def State.drainPort (s : State) (p : Nat) : Nat → State
  | 0 => s
  | n + 1 =>
    match s.nextHeld p with
    | none => s
    | some e =>
      let x := s.port p
      let s := s.setPort p { (x.spend (s.rd F.FAB_ARB_W2) (s.rd F.FAB_ARB_W3) e.1) with held := x.held.erase e }
      (s.transmit p e.1).drainPort p n

/-- A packet joins those that wait for a port, and leaves at once where it may. -/
def State.enqueue (s : State) (p : Nat) (f : Flit) : State :=
  let x := s.port p
  let s := s.setPort p { x with held := x.held ++ [(f, s.now)] }
  s.drainPort p (x.held.length + 1)

/-- R445: a packet is dropped; the DROP event of a port is raised once per microsecond. -/
def State.dropPacket (s : State) (p : Nat) : State :=
  let s := s.bump F.FAB_DROP_DROP 1
  let x := s.port p
  if (match x.dropT with | some t => decide (ahead s.now (after t tUs) ≥ 0) | none => true) then
    (s.setPort p { x with dropT := some s.now }).portEvent p 7 0
  else s

/-- R444: the first detour entry that applies to a packet: its port and FLIP. -/
def State.detourOf (s : State) (f : Flit) : Option (Nat × Bool) :=
  ((List.range 16).find? (fun k =>
    s.on F.FAB_DETOUR_V k && decide (s.rd F.FAB_DETOUR_XLO k ≤ f.dx) && decide (f.dx ≤ s.rd F.FAB_DETOUR_XHI k)
      && decide (s.rd F.FAB_DETOUR_YLO k ≤ f.dy) && decide (f.dy ≤ s.rd F.FAB_DETOUR_YHI k) && hasBit (s.rd F.FAB_DETOUR_TCM k) f.tc && s.portSt (s.rd F.FAB_DETOUR_PORT k) == ptUp)).map
    (fun k => (s.rd F.FAB_DETOUR_PORT k, s.on F.FAB_DETOUR_FLIP k))

/-- R444: a packet leaves a port that is not available by a detour. -/
def State.detour (s : State) (p : Nat) (f : Flit) (q : Nat) (flip : Bool) : State :=
  let x := s.port p
  let s := if (match x.detourT with | some t => decide (ahead s.now (after t tUs) ≥ 0) | none => true) then
      (s.setPort p { x with detourT := some s.now }).portEvent p 6 0
    else s
  s.enqueue q { f with det := 1, ord := if flip then 1 - f.ord else f.ord }

/-- R438, R444, R445: a packet for a port is sent or waits for it, leaves by a detour, or is dropped. -/
def State.output (s : State) (p : Nat) (f : Flit) : State :=
  if s.portSt p = ptUp then s.enqueue p f
  else
    match s.detourOf f with
    | some d => s.detour p f d.1 d.2
    | none =>
      if s.portSt p = ptTrain ∨ s.portSt p = ptLatency then
        s.setPort p { s.port p with held := (s.port p).held ++ [(f, s.now)] }
      else s.dropPacket p

/-- R443: the port toward a position, or none at the position itself. -/
def State.routePort (s : State) (f : Flit) : Option Nat :=
  let x := s.rd F.GLB_ROLE_POS_X
  let y := s.rd F.GLB_ROLE_POS_Y
  let px := if f.dx > x then 1 else 3
  let py := if f.dy > y then 2 else 0
  if f.dx = x ∧ f.dy = y then none
  else if f.ord = 0 then some (if f.dx ≠ x then px else py)
  else some (if f.dy ≠ y then py else px)

/-- A link that starts afresh: nothing waits, is unacknowledged or has been accepted; all credit is there. -/
def PortX.fresh (x : PortX) : PortX :=
  { x with held := [], replay := [], txSeq := 0, rxSeq := 4095, replays := 0, credit := List.replicate 9 16, naked := false }

/-- The packets that wait for a port, and those unacknowledged, when the port stops being available: they leave by
detours; in TRAIN and LATENCY the rest stays, otherwise it is dropped (R438, R444, R445) and the link starts afresh. -/
def State.portLost (s : State) (p : Nat) : State :=
  let x := s.port p
  let keep := s.portSt p == ptTrain || s.portSt p == ptLatency
  let s := if keep then s
    else s.setPort p x.fresh
  let s := x.replay.foldl (fun s f => match s.detourOf f with
    | some d => s.detour p f d.1 d.2
    | none => if keep then s else s.dropPacket p) s
  let gone := x.held.filter (fun e => (s.detourOf e.1).isSome)
  let s := if keep then s.setPort p { s.port p with held := (s.port p).held.filter (fun e => !gone.contains e) } else s
  x.held.foldl (fun s e => match s.detourOf e.1 with
    | some d => s.detour p e.1 d.1 d.2
    | none => if keep then s else s.dropPacket p) s

/-- R438, R444: detour entries that have come to apply since a state before take the packets held by ports that train, and the
unacknowledged ones that no entry applied to. -/
def State.newDetours (s old : State) : State :=
  ((List.range 4).filter (fun p => s.portSt p == ptTrain || s.portSt p == ptLatency)).foldl (fun (s : State) (p : Nat) =>
    let x := s.port p
    let gone := x.held.filter (fun e => (s.detourOf e.1).isSome)
    let s := s.setPort p { x with held := x.held.filter (fun e => (s.detourOf e.1).isNone) }
    ((x.replay.filter (fun f => (old.detourOf f).isNone)) ++ gone.map (·.1)).foldl (fun s f => match s.detourOf f with
      | some d => s.detour p f d.1 d.2
      | none => s) s) s

/-- The position of a device number (R453): row-major, counted from 1, the anchor's position skipped. -/
def FabX.posOf (x : FabX) (d : Nat) : Nat × Nat :=
  let a := x.ay * x.w + x.ax
  let i := if d = 0 then a else if d ≤ a then d - 1 else d
  (i % max 1 x.w, i / max 1 x.w)

/-- The number of a position. -/
def FabX.numOf (x : FabX) (px py : Nat) : Nat :=
  let a := x.ay * x.w + x.ax
  let i := py * x.w + px
  if i = a then 0 else if i < a then i + 1 else i

/-- Whether a device number is present and not lost (R20, R453, R459). -/
def State.present (s : State) (d : Nat) : Bool :=
  let pres := if d < 32 then hasBit (s.rd F.FAB_PRES_LO_PRES) d else hasBit (s.rd F.FAB_PRES_HI_PRES) (d - 32)
  let lost := if d < 32 then hasBit (s.rd F.FAB_LOST_LO_LOST) d else hasBit (s.rd F.FAB_LOST_HI_LOST) (d - 32)
  pres && !lost

/-- The order of traffic from this device to another (R444). -/
def State.orderTo (s : State) (d : Nat) : Nat :=
  if s.anchor then (if d < 32 then bit (s.rd F.FAB_ORDER_LO_ORDER) d else bit (s.rd F.FAB_ORDER_HI_ORDER) (d - 32))
  else 1 - s.rd F.FAB_STAT_ORD

/-- A packet made here for another device: its PSEQ is the next to that device (R458). -/
def State.sendTo (s : State) (d ty tc : Nat) (head data : List Nat) : State :=
  let pos := s.fab.posOf d
  let q := s.fab.txP.at 0 d
  let head := (head ++ List.replicate 64 0).take 64
  let f : Flit := {
    crcOk := true, seq := 0, ack := 0, nak := false, cvc := 0, ccnt := 0, ty := ty, tc := tc, ord := s.orderTo d,
    det := 0, dx := pos.1, dy := pos.2, src := s.dev, hops := 15, more := (data.length + 63) / 64, pseq := q,
    bytes := head ++ data }
  let s := { s with fab := { s.fab with txP := s.fab.txP.set 0 d ((q + 1) % 65536) } }
  match s.routePort f with
  | none => s
  | some p => s.output p f

/-- A DISC packet that leaves by its source route (R441, R443): the OP and what follows at +8. -/
def discBytes (route : List Nat) (rest : List Nat) : List Nat :=
  let word := (List.range route.length).foldl (fun w i => w + route.getD i 0 * 4 ^ i) 0
  toBytes 4 route.length ++ toBytes 4 word ++ rest
def State.sendDisc (s : State) (route : List Nat) (rest : List Nat) : State :=
  match route with
  | [] => s
  | p :: _ =>
    s.output p { crcOk := true, seq := 0, ack := 0, nak := false, cvc := 0, ccnt := 0, ty := tyDisc, tc := 1, ord := 0, det := 0,
                 dx := 0, dy := 0, src := s.dev, hops := 15, more := 0, pseq := 0, bytes := discBytes route rest }

/-- A CTRL packet (R441). -/
def State.sendCtrl (s : State) (d op arg num : Nat) : State :=
  s.sendTo d tyCtrl 1 (toBytes 4 op ++ toBytes 4 arg ++ toBytes 8 num) []

/-- ACK and returned credit of a flit act at the transmitter (R440): acknowledged packets leave the replay buffer. -/
def State.takeAck (s : State) (p : Nat) (f : Flit) : State :=
  let x := s.port p
  let done (g : Flit) : Bool := decide ((f.ack + 4096 - (g.seq + g.more) % 4096) % 4096 < 2048)
  let rest := x.replay.filter (fun g => !done g)
  let x1 := { x with
    replay := rest
    replays := if rest.length < x.replay.length then 0 else x.replays
    credit := if f.cvc < 9 then x.credit.set f.cvc (min 16 (x.credit.getD f.cvc 0 + f.ccnt)) else x.credit }
  (s.setPort p x1).drainPort p x.held.length

/-- A flit with a wrong CRC is counted; 1,024 within 1 ms raise ERRRATE and its fault (R463, R491). -/
def State.crcError (s : State) (p : Nat) : State :=
  let s := s.bump F.FAB_PERR_CRC 1 p
  let x := s.port p
  let l := s.now :: x.crcs.filter (fun t => decide (ahead s.now (after t tMs) < 0))
  if l.length ≥ 1024 then ((s.setPort p { x with crcs := [] }).portEvent p 5 0).detect (36 + p) p 0
  else s.setPort p { x with crcs := l }

/-- A flit of any kind has arrived on a port (R438, R572). -/
def State.flitIn (s : State) (p n : Nat) : State := (s.setPort p { s.port p with lastRx := s.now }).pulse 0x29 p n

/-- An IDLE flit leaves, with the last accepted SEQ, a NAK, returned credit. -/
def State.sendIdle (s : State) (p : Nat) (nak : Bool) (cvc ccnt : Nat) : State :=
  ({ s with out := s.out ++ [OutMsg.link p (Flit.link tyIdle (s.port p).rxSeq nak cvc ccnt [])] }).pulse 0x28 p

/-- R440: an error brings a NAK; a flit out of SEQ order brings none after the NAK that its error brought (assumption 177). -/
def State.sendNak (s : State) (p : Nat) : State := (s.setPort p { s.port p with naked := true }).sendIdle p true 0 0

/-- The credit of an accepted packet is returned, at most seven flits at a time (R439, R440). -/
def State.giveCredit (s : State) (p : Nat) (f : Flit) : State :=
  let s := s.sendIdle p false f.channel (min 7 f.flits)
  if f.flits > 7 then s.sendIdle p false f.channel (f.flits - 7) else s

/-- The packets from a device that follow the one last accepted and were held for it come in (R458). -/
def State.releaseAhead (s : State) (d : Nat) : Nat → State
  | 0 => s
  | n + 1 =>
    let want := (s.fab.rxP.at 65535 d + 1) % 65536
    match s.fab.ahead_.find? (fun e => e.1 == d && e.2.2.pseq == want) with
    | none =>
      if s.fab.ahead_.any (fun e => e.1 == d) then s
      else { s with fab := { s.fab with gapT := Store.put id (fun _ => none) s.fab.gapT d none } }
    | some e =>
      let s := { s with
        fab := { s.fab with
          ahead_ := s.fab.ahead_.erase e
          rxP := s.fab.rxP.set 65535 d want
          inbox := s.fab.inbox ++ [e.2] } }
      s.releaseAhead d n

/-- R458, R463: a packet reaches its device: it acts once, in PSEQ order. A CTRL packet raises MSG, stamped with the tick it
left its sender's port, which the port's inbound latency gives. -/
def State.deliver (s : State) (p : Nat) (f : Flit) : State :=
  let s := if f.ty = tyCtrl then
      s.raise (1968 + 8 * p) (bits (f.field 0 1) 7 0) [f.src]
        (tickOf (s.now - BitVec.ofNat 64 (s.rd F.FAB_PLAT_INLAT p)))
    else s
  if f.ty = tyDisc then { s with fab := { s.fab with inbox := s.fab.inbox ++ [(p, f)] } }
  else
    let last := s.fab.rxP.at 65535 f.src
    let d := (f.pseq + 65536 - last) % 65536
    if d = 0 ∨ d ≥ 32768 then s
    else if d = 1 then
      let s := { s with
        fab := { s.fab with rxP := s.fab.rxP.set 65535 f.src f.pseq, inbox := s.fab.inbox ++ [(p, f)] } }
      s.releaseAhead f.src (s.fab.ahead_.length + 1)
    else if s.fab.ahead_.any (fun e => e.1 == f.src && e.2.2.pseq == f.pseq) then s
    else
      let g := Store.get (fun _ => none) s.fab.gapT f.src
      { s with
        fab := { s.fab with
          ahead_ := s.fab.ahead_ ++ [(f.src, p, f)]
          gapT := Store.put id (fun _ => none) s.fab.gapT f.src (match g with | some t => some t | none => some s.now) } }

/-- The head of the inbox, if it is a packet of a type that `ok` picks, and the state without it. -/
def State.takeIn (s : State) (ok : Flit → Bool) : Option (Nat × Flit × State) :=
  match s.fab.inbox with
  | [] => none
  | e :: rest => if ok e.2 then some (e.1, e.2, { s with fab := { s.fab with inbox := rest } }) else none

end Sys2Proof.Machine
end

