-- ==== Sys2Proof/Machine/HostOps.lean ====
section
/-! DEFINITION. What the host queues share: translation of addresses (R410 to R420), reads and writes of host memory for
the anchor and for members (R375, R457), interrupts (R401), descriptors and their completion (R386 to R390). -/

namespace Sys2Proof.Machine

open Sys2Proof

/-! ### Translation -/

/-- A translation: a host physical address, a fault with its cause (R417), or a walk whose entries have not all been read. -/
inductive Xlat where
  | ok (pa : Nat)
  | bad (cause : Nat)
  | wait
deriving DecidableEq, Repr

def caNoasid : Nat := 1
def caRange : Nat := 2
def caNotpresent : Nat := 3
def caPerm : Nat := 4
def caRsvd : Nat := 5
def caWalkerr : Nat := 6

/-- R413, R414: a walk from a table of a level, with the rights along the path so far and the entries it passes. -/
def walkFrom (asid va : Nat) (write : Bool) (lvl : Nat) (rd wr : Bool) (seen : List Tlb) : Walk → Xlat × List Tlb
  | [] => (.wait, [])
  | none :: _ => (.bad caWalkerr, [])
  | some e :: rest =>
    let e := e.toNat
    let leaf := hasBit e 1
    let rd := rd && hasBit e 2
    let wr := wr && hasBit e 3
    let misaligned := leaf && ((lvl == 2 && bits e 29 12 != 0) || (lvl == 1 && bits e 20 12 != 0))
    let reserved := bits e 7 4 != 0 || hasBit e 63 || (lvl == 3 && leaf) || (lvl == 0 && !leaf) || misaligned
    let span := 2 ^ (12 + 9 * lvl)
    let t := Tlb.mk asid lvl (va / span) (bits e 51 12 * 4096) rd wr leaf
    if hasBit e 0 = false then (.bad caNotpresent, [])
    else if reserved then (.bad caRsvd, [])
    else if leaf then
      if (write && !wr) || (!write && !rd) then (.bad caPerm, [])
      else (.ok (bits e 51 12 * 4096 + va % span), seen ++ [t])
    else walkFrom asid va write (lvl - 1) rd wr (seen ++ [t]) rest

/-- The cached entries for an address of a space (R415). -/
def State.cached (s : State) (asid va : Nat) (leaf : Bool) : List Tlb :=
  s.tlb.filter (fun t => t.asid == asid && t.leaf == leaf && t.tag == va / 2 ^ (12 + 9 * t.level))

/-- R415: entries join the cache, at most 4,096 leaves and 256 others, the oldest going first (assumption 19). -/
def cacheAll (c : List Tlb) (new : List Tlb) : List Tlb :=
  let c := new.reverse ++ c.filter (fun t => !new.any (fun u => u.asid == t.asid && u.level == t.level && u.tag == t.tag
    && u.leaf == t.leaf))
  (c.filter (·.leaf)).take 4096 ++ (c.filter (fun t => !t.leaf)).take 256

/-- R411 to R415: the translation of one address for a read or a write. -/
def State.translate (s : State) (asid va : Nat) (write : Bool) (walk : Walk) : Xlat × State :=
  if s.on F.MMU_ROOT_LO_V asid = false then (.bad caNoasid, s)
  else if s.on F.MMU_ROOT_LO_BYPASS asid then (.ok va, s)
  else if va / 2 ^ 48 ≠ 0 then (.bad caRange, s)
  else
    match s.cached asid va true with
    | t :: _ =>
      if (write && !t.wr) || (!write && !t.rd) then (.bad caPerm, s) else (.ok (t.out + va % 2 ^ (12 + 9 * t.level)), s)
    | [] =>
      let low := (s.cached asid va false).foldl (fun (b : Option Tlb) t => match b with
        | some u => if t.level < u.level then some t else some u
        | none => some t) none
      let r := match low with
        | some t => walkFrom asid va write (t.level - 1) t.rd t.wr [] walk
        | none => walkFrom asid va write 3 true true [] walk
      match r.1 with
      | .wait => (.wait, s)
      | x => (x, ({ s with tlb := cacheAll s.tlb r.2 }).pulse 0x24 0 1 true)

/-! ### Host memory and messages -/

/-- R376, R460, R469: host traffic stops in D3hot, while isolated, in DEEP. -/
def State.hostOpen (s : State) : Bool :=
  !s.d3hot && !s.on F.FAB_STAT_ISOLATED && s.power != 4

/-- Bytes cut into pieces of at most 512 (R457). -/
def pieces : Nat → Nat → List Nat → List (Nat × List Nat)
  | 0, _, _ => []
  | n + 1, a, l => if l.isEmpty then [] else (a, l.take 512) :: pieces n (a + 512) (l.drop 512)

/-- Bytes written to host memory: by the anchor itself, by a member through it (R375, R457). -/
def State.hostWrite (s : State) (tc pa : Nat) (b : List Nat) : State :=
  let s := s.pulse 0x23 0 ((b.length + 63) / 64) true
  if s.anchor then { s with out := s.out ++ [OutMsg.write pa b] }
  else (pieces (b.length / 512 + 1) pa b).foldl
    (fun s (e : Nat × List Nat) => s.sendTo 0 tyDmaWr tc (toBytes 8 e.1 ++ toBytes 8 e.2.length) e.2) s

/-- The first TAG after the last that no read of this member holds (R374: up to 256 outstanding). -/
def FabX.freeTag (x : FabX) : Option Nat :=
  ((List.range 256).map (fun i => (x.tag + i) % 256)).find? (fun t => !x.tags.any (fun e => e.tag == t))

/-- A read of host memory is issued: by the anchor itself, by a member through it (R457). -/
def State.hostRead (s : State) (tc pa len : Nat) (target : HostTarget) : State :=
  let s := s.pulse 0x22 0 ((len + 63) / 64) true
  if s.anchor then { s with out := s.out ++ [OutMsg.read pa len target] }
  else
    match s.fab.freeTag with
    | none => s
    | some t =>
      let s := { s with fab := { s.fab with tag := (t + 1) % 256, tags := s.fab.tags ++ [TagRd.mk t target len []] } }
      s.sendTo 0 tyDmaRd tc (toBytes 8 pa ++ toBytes 4 len ++ toBytes 4 t) []

/-- R401, R408: the anchor's MSI-X message of a vector: a masked vector becomes pending. -/
def State.msix (s : State) (vec : Nat) : State :=
  if s.on F.MSIX_CTL_MASK vec then
    s.wr F.MSIX_PBA_PBA (withBit (s.rd F.MSIX_PBA_PBA (vec / 32)) (vec % 32)) (vec / 32)
  else { s with out := s.out ++ [OutMsg.msi (join (s.rd F.MSIX_ADDR_LO_ADDR_LO vec) (s.rd F.MSIX_ADDR_HI_ADDR_HI vec))
      (s.rd F.MSIX_DATA_DATA vec)] }

/-- R401: an interrupt of this device: a member sends it to the anchor on TC1. -/
def State.interrupt (s : State) (vec : Nat) : State := if s.anchor then s.msix vec else s.sendTo 0 tyIrq 1 [vec] []

/-! ### Queue pairs -/

def qsDisabled : Nat := 0
def qsRun : Nat := 1
def qsHalted : Nat := 2
def qsDraining : Nat := 3

/-- Completion status codes (R390). -/
def stOk : Nat := 0
def stPartial : Nat := 1
def stAborted : Nat := 2
def stPreempted : Nat := 3
def stXlat : Nat := 4
def stLate : Nat := 5
def stUnderrun : Nat := 6
def stFenced : Nat := 7
def stBad : Nat := 8
def stAuth : Nat := 9
def stTimeout : Nat := 10
def stThermal : Nat := 11
def stSafe : Nat := 12
def stLost : Nat := 13

def State.qpState (s : State) (q : Nat) : Nat := s.rd F.QP_STAT_STATE q
def State.sqSize (s : State) (q : Nat) : Nat := 2 ^ (min 12 (s.rd F.QP_CFG_SQSZ q) + 4)
def State.cqSize (s : State) (q : Nat) : Nat := 2 ^ (min 12 (s.rd F.QP_CFG_CQSZ q) + 4)
def State.sqBase (s : State) (q : Nat) : Nat := join (s.rd F.QP_SQB_LO_BASE_LO q * 4096) (s.rd F.QP_SQB_HI_BASE_HI q)
def State.cqBase (s : State) (q : Nat) : Nat := join (s.rd F.QP_CQB_LO_BASE_LO q * 4096) (s.rd F.QP_CQB_HI_BASE_HI q)
def State.evrSize (s : State) (e : Nat) : Nat := 2 ^ (min 10 (s.rd F.EVR_CFG_SZ e) + 6)
def State.evrBase (s : State) (e : Nat) : Nat := join (s.rd F.EVR_BASE_LO_BASE_LO e * 4096) (s.rd F.EVR_BASE_HI_BASE_HI e)

/-- R426: whether PREEMPT is in force for a queue pair. -/
def State.preempted (s : State) (q : Nat) : Bool :=
  if q < 32 then hasBit (s.rd F.PRE_PEND_LO_PEND_LO) q else hasBit (s.rd F.PRE_PEND_HI_PEND_HI) (q - 32)
def State.setPreempt (s : State) (q : Nat) (on : Bool) : State :=
  let set (v b : Nat) : Nat := if on then withBit v b else withoutBit v b
  if q < 32 then s.wr F.PRE_PEND_LO_PEND_LO (set (s.rd F.PRE_PEND_LO_PEND_LO) q)
  else s.wr F.PRE_PEND_HI_PEND_HI (set (s.rd F.PRE_PEND_HI_PEND_HI) (q - 32))

/-- Descriptors fetched and not completed (R382): those under work and those whose completion waits. -/
def State.inFlight (s : State) (q : Nat) : Nat := (s.qp q).fetched.length + (s.qp q).cplq.length

/-- R399: a queue pair enters HALTED, or is DISABLED after draining: event 2000 + 2q with QP_STAT after the change. -/
def State.qpEvent (s : State) (q info : Nat) : State :=
  let b (f : Fld) : Nat := s.rd f q * 2 ^ f.lo
  let stat := b F.QP_STAT_STATE + b F.QP_STAT_DBERR + b F.QP_STAT_CQERR + b F.QP_STAT_CFGBUSY + b F.QP_STAT_XFLT
    + b F.QP_STAT_PRE + s.inFlight q * 65536 + b F.QP_STAT_DBTAIL
  s.raise (2000 + 2 * q) info [stat] s.now
def State.haltQp (s : State) (q : Nat) : State :=
  if s.qpState q = qsRun then (s.wr F.QP_STAT_STATE qsHalted q).qpEvent q 1 else s

/-- A field of a descriptor: bits [hi:lo] counted from a byte offset (R386). -/
def Desc.f (d : Desc) (off hi lo : Nat) : Nat := bits d.raw (8 * off + hi) (8 * off + lo)
def Desc.cid (d : Desc) : Nat := d.f 0 31 16
def Desc.irq (d : Desc) : Bool := d.f 0 8 8 == 1
def Desc.fence (d : Desc) : Bool := d.f 0 9 9 == 1
def Desc.src (d : Desc) : Nat := d.f 16 63 0
def Desc.pods (d : Desc) : List Nat := bitsSet 256 (d.f 24 255 0)

/-- A fetched descriptor of a queue pair by its CID, the oldest first; putting one back. -/
def State.desc (s : State) (q cid : Nat) : Option Desc := (s.qp q).fetched.find? (fun d => d.cid == cid)
def State.putDesc (s : State) (q : Nat) (d : Desc) : State :=
  let x := s.qp q
  s.setQp q { x with fetched := x.fetched.map (fun e => if e.idx = d.idx then d else e) }

/-- R389, R390: a descriptor ends: its completion waits to be written. -/
def State.finish (s : State) (q : Nat) (d : Desc) (status r0 r1 detail : Nat) : State :=
  let x := s.qp q
  s.setQp q { x with
    fetched := x.fetched.filter (fun e => e.idx != d.idx)
    cplq := x.cplq ++ [Cpl.mk d.idx d.cid d.opc d.irq status r0 r1 detail (d.f 8 7 0)] }

/-- A descriptor ends with BAD_DESC and a reason (R388). -/
def State.badDesc (s : State) (q : Nat) (d : Desc) (why : Nat) : State := s.finish q d stBad 0 0 why

def dRsvdOpc : Nat := 1
def dMustZero : Nat := 2
def dRange : Nat := 3
def dAlign : Nat := 4
def dData : Nat := 5
def dState : Nat := 6
def dPinned : Nat := 7
def dNoSlot : Nat := 8

/-- The fields of a command after the header (R391, R395, R539): low bit and width. -/
def cmdFields (opc : Nat) : List (Nat × Nat) :=
  match opc with
  | 2 => [(64, 24), (96, 12), (128, 64), (192, 128)]
  | 3 => [(64, 6), (80, 9), (96, 10), (128, 64), (192, 256)]
  | 4 => [(64, 7), (128, 64), (192, 256)]
  | 5 => [(64, 6), (96, 16), (192, 256)]
  | 6 => [(64, 16), (96, 17), (128, 64)]
  | 7 => [(64, 32), (128, 64), (192, 256)]
  | 8 => [(64, 4), (96, 16), (128, 64)]
  | 9 => [(64, 8), (96, 32), (128, 64)]
  | 10 => [(96, 17), (128, 64)]
  | 11 => [(128, 64)]
  | 16 => [(64, 32), (128, 64)]
  | 17 => [(64, 16), (96, 16), (128, 64)]
  | 18 => [(64, 32), (128, 64), (192, 256)]
  | _ => []

/-- Whether a code is a command of R391. -/
def knownOpc (opc : Nat) : Bool := decide (1 ≤ opc ∧ opc ≤ 11) || decide (16 ≤ opc ∧ opc ≤ 18)

/-- The descriptor without the fields it may use: R386's must-be-0 bits. -/
def Desc.unused (d : Desc) : Nat :=
  (([(0, 10), (16, 25)] ++ cmdFields (bits d.raw 7 0)).foldl
    (fun v (e : Nat × Nat) => v - bits d.raw (e.1 + e.2 - 1) e.1 * 2 ^ e.1) d.raw)

/-- Commands that move data through SRC or DST, which must be 64 B aligned (R387). -/
def movesData (opc : Nat) : Bool :=
  opc == 3 || opc == 4 || opc == 6 || opc == 7 || opc == 8 || opc == 9 || opc == 10 || opc == 16 || opc == 17 || opc == 18

/-- R388: the checks that every command has: OPC, must-be-0 bits, alignment; 0 where none fails. HOLD carries out only four
commands (R524). -/
def State.headerCheck (s : State) (d : Desc) : Nat :=
  if knownOpc d.opc = false then dRsvdOpc
  else if d.unused ≠ 0 then dMustZero
  else if movesData d.opc = true ∧ d.src % 64 ≠ 0 then dAlign
  else if s.rd F.RST_STAT_STAGE = 14 ∧ d.opc ≠ 1 ∧ d.opc ≠ 16 ∧ d.opc ≠ 17 ∧ d.opc ≠ 18 then dState
  else 0

/-- R383: whether a fetched descriptor may start: every earlier one of its queue pair has started, with FENCE has
completed. -/
def State.mayStart (s : State) (q : Nat) (d : Desc) : Bool :=
  let x := s.qp q
  !d.started && !d.accepted
    && x.fetched.all (fun e => decide (d.idx ≤ e.idx) || ((e.started || e.accepted) && !d.fence))
    && (!d.fence || x.cplq.all (fun c => decide (d.idx ≤ c.idx)))

/-- R388, R406: descriptors that may start and fail a check of every command, or find the safe state, complete. -/
def State.settleQ (s : State) (q : Nat) : Nat → State
  | 0 => s
  | n + 1 =>
    match (s.qp q).fetched.find? (fun d => s.mayStart q d && (s.headerCheck d != 0 || s.safe)) with
    | none => s
    | some d => (if s.safe then s.finish q d stSafe 0 0 0 else s.badDesc q d (s.headerCheck d)).settleQ q n

/-- A descriptor that a command row names starts, if it is of that command and may start (R383, R388). -/
def State.start (s : State) (q cid opc : Nat) : Option (Desc × State) :=
  match s.desc q cid with
  | none => none
  | some d =>
    if d.opc ≠ opc then none
    else if d.started then some (d, s)
    else if s.mayStart q d && s.headerCheck d == 0 && !s.safe then
      let d := { d with started := true }
      some (d, (s.putDesc q d).settleQ q 17)
    else none

/-- A descriptor ends, and what follows it in its queue pair is looked at. -/
def State.endDesc (s : State) (q : Nat) (d : Desc) (status r0 r1 detail : Nat) : State :=
  (s.finish q d status r0 r1 detail).settleQ q 17

/-! ### Data transfers -/

/-- A fault of a transfer or ring access joins those that wait for the log (R419). -/
def State.newFault (s : State) (origin unit idx cid opc asid addr : Nat) (write : Bool) (cause prog : Nat) (fres : Bool) :
    State :=
  { s with mmuq := s.mmuq ++ [MFault.mk origin unit idx cid opc asid addr write cause prog fres s.now] }

/-- The direction of a command's data: CAP_UPLOAD, LEDG_DRAIN and ATTEST write (R391). -/
def writesHost (opc : Nat) : Bool := opc == 9 || opc == 10 || opc == 18

/-- The granules of a slot's staging ring, and where a granule of a stream lies in it (R237, R249). -/
def State.stageLen (s : State) (t : Nat) : Nat := max 3 (s.rd F.STRM_CFG_STAGE_M1 t) + 1
def State.stageAt (s : State) (t g : Nat) : Nat := s.rd F.STRM_CFG_STAGE_BASE t + g % s.stageLen t

/-- Granules delivered to every pod bound to a slot (R237); all that were fetched where none is bound. -/
def State.delivered (s : State) (t : Nat) : Nat :=
  (s.bound t).foldl (fun (m : Nat) (e : Nat × Nat) => min m (s.seg e.1 e.2).got) (s.strm t).fed

/-- Granules in staging (R237, R249). -/
def State.staged (s : State) (t : Nat) : Nat := (s.strm t).fed - s.delivered t

/-- Where the next byte of a transfer lies, and how many bytes its next part has: a granule of a stream, or all that is left. -/
def Desc.at_ (d : Desc) : Nat := (d.src + (if d.opc = 8 then 512 * d.moved + d.data.length else d.moved)) % 2 ^ 64
def Desc.left (d : Desc) : Nat := if d.opc = 8 then 512 - d.data.length else d.total - d.moved
def Desc.prog (d : Desc) : Nat := if d.opc = 8 then 512 * d.moved + d.data.length else d.moved

/-- A transfer with a chunk to move now (R425); a stream's, while staging has room and its granule is the next (R237, R241). -/
def State.chunkReady (s : State) (q : Nat) (d : Desc) : Bool :=
  d.started && d.accepted && movesData d.opc && !d.faulted && !d.held && d.reading == 0 && decide (d.moved < d.total)
    && !s.preempted q
    && (d.opc != 8 || ((s.strm (d.f 8 3 0)).fed == d.first + d.moved && decide (s.staged (d.f 8 3 0) < s.stageLen (d.f 8 3 0))
      && decide (d.data.length < 512)))

/-! ### What goes ahead of data -/

/-- R382, R426, R404: whether a queue pair is ready to fetch. -/
def State.readyToFetch (s : State) (q : Nat) : Bool :=
  let x := s.qp q
  let n := s.inFlight q
  let used := (s.rd F.QP_HEAD_CQ_TAIL q + s.cqSize q - x.cqHead) % s.cqSize q
  s.qpState q == qsRun && s.rd F.QP_STAT_DBTAIL q != s.rd F.QP_HEAD_SQ_HEAD q && decide (n < 16)
    && decide (used + n + 1 ≤ s.cqSize q - 1)
    && !s.preempted q && !x.fetching && !x.sqFault && !x.cqFault

/-- R382: the queue pair served next: the highest PRIO, round-robin within it. -/
def State.fetchTurn (s : State) : Option Nat :=
  ((List.range 64).map (fun i => (s.rr + 1 + i) % 64)).foldl (fun (b : Option Nat) q =>
    if s.readyToFetch q then
      (match b with
      | some r => if s.rd F.QP_CFG_PRIO q > s.rd F.QP_CFG_PRIO r then some q else some r
      | none => some q)
    else b) none

/-- R404, R474, R524: whether descriptors are fetched now: the host is reachable, the device is ACTIVE and READY or in HOLD. -/
def State.fetchOpen (s : State) : Bool :=
  s.hostOpen && s.power == 0 && (s.rd F.RST_STAT_STAGE == 7 || s.rd F.RST_STAT_STAGE == 14)

/-- Whether an event ring can take a record now (R376, R400). -/
def State.evrFree (s : State) (e : Nat) : Bool :=
  s.on F.EVR_CFG_EN e && s.hostOpen && !(s.evr e).fault
    && (s.rd F.EVR_TAIL_TAIL e + 1) % s.evrSize e != (s.evr e).head

/-- R425: SQ fetches, CQ writes and event-record writes that can go now; they go ahead of data of every class. -/
def State.ringsBusy (s : State) : Bool :=
  (s.fetchOpen && s.fetchTurn.isSome)
    || (List.range 64).any (fun q => !(s.qp q).cplq.isEmpty && !(s.qp q).cqFault)
    || (List.range 8).any (fun e => s.evrFree e
      && (!(s.evr e).kept.isEmpty || (s.evr e).lost.isSome || s.evq.any (fun r => r.ring == some e)))

/-- R425: the queue pair whose transfer has the next chunk: the highest class that has one ready, round-robin within it. -/
def State.chunkTurn (s : State) : Option Nat :=
  let ready := ((List.range 64).map (fun i => ((s.lastChunk.getD 63) + 1 + i) % 64)).filter
    (fun q => (s.qp q).fetched.any (s.chunkReady q))
  ready.foldl (fun (b : Option Nat) q => match b with
    | some r => if s.rd F.QP_CFG_PRIO q > s.rd F.QP_CFG_PRIO r then some q else some r
    | none => some q) none

/-- R425: a chunk of a queue pair moves; a transfer that had more to move and was passed over has yielded. -/
def State.takeChunk (s : State) (q : Nat) : State :=
  let yielded := match s.lastChunk with
    | some r => decide (r ≠ q) && (s.qp r).fetched.any (fun d => s.chunkReady r d && decide (0 < d.moved))
    | none => false
  let s := if yielded then s.bump F.PRE_YIELD_YIELD 1 else s
  { s with lastChunk := some q }

/-- The bytes of the next chunk of a transfer: it never crosses a 4 KiB boundary (R418, R425). -/
def chunkLen (addr left : Nat) : Nat := min left (4096 - addr % 4096)

/-- The traffic class of a descriptor's data (R442). -/
def dataClass (opc : Nat) : Nat := if opc = 9 ∨ opc = 10 then 3 else 2

/-- R414, R418, R425: the next chunk of a descriptor's source is asked for, if it is this queue pair's turn. -/
def State.readChunk (s : State) (q : Nat) (d : Desc) (walk : Walk) : State :=
  let asid := s.rd F.QP_CFG_ASID q
  let n := chunkLen d.at_ d.left
  if s.chunkReady q d = false ∨ s.chunkTurn ≠ some q ∨ s.hostOpen = false ∨ s.ringsBusy = true then s
  else
    match s.translate asid d.at_ false walk with
    | (.wait, s) => s
    | (.bad c, s) =>
      (s.putDesc q { d with faulted := true }).newFault 0 q d.idx d.cid d.opc asid d.at_ false c d.prog (s.on F.QP_CFG_FRES q)
    | (.ok pa, s) =>
      ((s.takeChunk q).putDesc q { d with reading := n, stale := false }).hostRead (dataClass d.opc) pa n
        (.data (Fin.ofNat 64 q) d.cid)

/-- R418, R425: the next chunk of a descriptor's bytes is written to its destination. -/
def State.writeChunk (s : State) (q : Nat) (d : Desc) (b : List Nat) (walk : Walk) : State :=
  let asid := s.rd F.QP_CFG_ASID q
  let b := b.take (chunkLen d.at_ d.left)
  if s.chunkReady q d = false ∨ s.chunkTurn ≠ some q ∨ s.hostOpen = false ∨ s.ringsBusy = true then s
  else
    match s.translate asid d.at_ true walk with
    | (.wait, s) => s
    | (.bad c, s) =>
      (s.putDesc q { d with faulted := true }).newFault 1 q d.idx d.cid d.opc asid d.at_ true c d.prog (s.on F.QP_CFG_FRES q)
    | (.ok pa, s) =>
      ((s.takeChunk q).putDesc q { d with moved := d.moved + b.length }).hostWrite (dataClass d.opc) pa b

end Sys2Proof.Machine
end

