-- ==== Sys2Proof/Machine/TableOps.lean ====
section
/-! DEFINITION. The tables that descriptors load: their layouts (R66, R106, R117, R222, R290, R292, R316, R396, R187) and the checks a
load makes (R67, R107, R118, R223, R291, R317, R396, R188, R532). -/

namespace Sys2Proof.Machine

open Sys2Proof

/-- A number of n bytes at an offset of a list of bytes (R2). -/
def num (b : List Nat) (off n : Nat) : Nat := ofBytes ((b.drop off).take n)

/-- Whether n bytes from an offset are all 0. -/
def zeros (b : List Nat) (off n : Nat) : Bool := ((b.drop off).take n).all (· == 0)

/-! ### Level sets -/

/-- R66: a pin's block of a level set, its check of R67. -/
def lblockOf (b : List Nat) : LBlock :=
  { vih := num b 0 2, vil := num b 2 2, vtt := num b 4 2, voh := num b 6 2, vol := num b 8 2, iload := num b 10 2
    vcom := num b 12 2, mode := bits (num b 14 2) 1 0 }
def lblockOk (b : List Nat) : Bool :=
  (List.range 7).all (fun i => decide (num b (2 * i) 2 < 16384)) && decide (num b 14 2 < 4) && decide (num b 8 2 ≤ num b 6 2)
def lsetOf (b : List Nat) : List LBlock := (List.range 4).map (fun i => lblockOf (b.drop (16 * i)))
def lsetOk (b : List Nat) : Bool := (List.range 4).all (fun i => lblockOk (b.drop (16 * i)))

/-! ### Timing sets -/

/-- R106: a timing set. -/
def slotsOf (b : List Nat) (i : Nat) : List Slot :=
  (List.range 6).map (fun k => let w := num b (32 + 24 * i + 4 * k) 4; Slot.mk (bits w 31 28) (bits w 27 0))
def tsetOf (b : List Nat) : TSet :=
  { period := num b 0 2 + 1
    ddr := hasBit (num b 2 2) 8
    ret := (List.range 4).map (fun i => bits (num b 2 2) (2 * i + 1) (2 * i))
    slots := (List.range 4).map (fun i => (slotsOf b i).filter (fun e => e.ty != 0)) }

/-- The offset of an edge type among a pin's slots. -/
def edgeAt (l : List Slot) (ty : Nat) : Option Nat := (l.find? (fun e => e.ty == ty)).map (·.off)

/-- `a` before `b`, where both are present. -/
def before (strict : Bool) : Option Nat → Option Nat → Bool
  | some x, some y => if strict then decide (x < y) else decide (x ≤ y)
  | _, _ => true

/-- The offsets of a train in order, DON at DAT0's offset counting once. -/
def trainOffs (l : List Slot) (lo hi : Nat) : List Nat :=
  let t := (sortSlots l).filter (fun e => decide (lo ≤ e.ty) && decide (e.ty ≤ hi))
  (t.filter (fun e => !(e.ty == 1 && edgeAt l 2 == some e.off))).map (·.off)

/-- Whether neighbours of an ordered list lie at least `d` apart. -/
def spaced (d : Nat) : List Nat → Bool
  | x :: y :: t => decide (x + d ≤ y) && spaced d (y :: t)
  | _ => true

/-- Whether a train leaves 330 ps before it repeats; a period of P ticks is 8,000 P / 3 units. -/
def wraps (period : Nat) (l : List Nat) : Bool :=
  match l, l.getLast? with
  | x :: _, some y => decide (3 * y + 3960 ≤ 3 * x + 8000 * period)
  | _, _ => true

/-- R107: the checks of one pin of a timing set. A window's own edges are held to 250 ps only. -/
def pinSlotsOk (period : Nat) (ddr : Bool) (all : List Slot) : Bool :=
  let l := all.filter (fun e => e.ty != 0)
  let e := edgeAt l
  let drv := trainOffs l 1 5
  let cmp := trainOffs l 6 9
  let has (ty : Nat) : Bool := (e ty).isSome
  all.all (fun x => if x.ty = 0 then x.off == 0 else decide (x.ty ≤ 9) && decide (3 * x.off < 8000 * (period + 64)))
    && (List.range 10).all (fun ty => ty == 0 || decide ((l.filter (fun x => x.ty == ty)).length ≤ 1))
    && before false (e 1) (e 2) && before true (e 1) (e 3) && before true (e 1) (e 4) && before true (e 2) (e 3)
    && before true (e 2) (e 4) && before true (e 3) (e 4) && [1, 2, 3, 4].all (fun ty => before true (e ty) (e 5))
    && (if ddr then has 2 == has 3 else !has 3)
    && (!has 7 || has 6) && before true (e 6) (e 7)
    && has 8 == has 9 && !(has 8 && has 6)
    && (match e 8, e 9 with | some o, some c => decide (o + 1000 ≤ c) | _, _ => true)
    && spaced 1320 drv && wraps period drv && (has 8 || spaced 1320 cmp) && wraps period cmp

/-- R107: a timing set passes its check. -/
def tsetOk (b : List Nat) : Bool :=
  zeros b 4 28 && decide (num b 2 2 < 512)
    && (List.range 4).all (fun i => pinSlotsOk (num b 0 2 + 1) (hasBit (num b 2 2) 8) (slotsOf b i))

/-! ### Deskew -/

/-- R117, R118: a pin's deskew entry and its check. -/
def deskewOf (b : List Nat) : Deskew :=
  { drvRise := signed 16 (num b 0 2), drvFall := signed 16 (num b 2 2), cmpRise := signed 16 (num b 4 2)
    cmpFall := signed 16 (num b 6 2), onOff := signed 16 (num b 8 2), rpath := num b 10 2 }
def deskewOk (b : List Nat) : Bool := (List.range 4).all (fun i => zeros b (16 * i + 12) 4)

/-! ### Segment table -/

/-- R222: an entry; an undefined one is 0 throughout. -/
def segOf (b : List Nat) : SegX :=
  if hasBit (num b 12 1) 0 = false then {}
  else
    { st := if hasBit (num b 12 1) 1 then sgLoading else sgFree
      len := num b 0 1 + 1, lbase := num b 1 1, next := bits (num b 2 1) 5 0, nextV := hasBit (num b 2 1) 6
      consume := hasBit (num b 2 1) 7, policy := bits (num b 3 1) 1 0, kind := bits (num b 3 1) 3 2, slot := bits (num b 3 1) 7 4
      pbase := num b 4 2, adv := num b 6 2, reloads := num b 8 3, rewind := hasBit (num b 12 1) 2, rem := num b 8 3
      src := num b 4 2, cls := if hasBit (num b 12 1) 1 then 4 else 0 }

/-- R223: what an entry itself must satisfy. -/
def segEntryOk (b : List Nat) : Bool :=
  let x := segOf b
  let loadnow := hasBit (num b 12 1) 1
  if hasBit (num b 12 1) 0 = false then zeros b 0 16
  else
    decide (num b 12 4 < 8) && zeros b 11 1 && decide (x.len ≥ 4) && x.policy != 3 && x.kind != 3
      && (x.kind == kdStream || x.slot == 0) && decide (x.lbase + x.len ≤ 256)
      && decide (x.pbase + x.reloads * x.adv + x.len ≤ 65536) && !(x.kind == kdWave && x.policy == 2)
      && (x.kind != kdStream || (!x.consume && x.pbase == 0 && x.adv == 0 && x.reloads == 0 && !loadnow && !x.rewind))

/-- Whether the local granules of two defined entries overlap. -/
def SegX.overlaps (x y : SegX) : Bool :=
  x.st != sgUndef && y.st != sgUndef && decide (x.lbase < y.lbase + y.len) && decide (y.lbase < x.lbase + x.len)

/-- R223: a load of entries from `first` on passes in a pod. -/
def State.segTableOk (s : State) (pod first : Nat) (es : List (List Nat)) : Bool :=
  let new := es.map segOf
  let at_ (k : Nat) : SegX := if first ≤ k ∧ k < first + new.length then new.getD (k - first) {} else s.seg pod k
  es.all segEntryOk
    && (List.range new.length).all (fun i => let st := (s.seg pod (first + i)).st; st != sgLoading && st != sgActive)
    && (List.range new.length).all (fun i => (List.range 64).all (fun k => k == first + i || !(new.getD i {}).overlaps (at_ k)))

/-! ### Interval setups -/

/-- R292: a source word and its reserved bits. -/
def sourceOf (w : Nat) : Source := { kind := bits w 3 0, edge := bits w 5 4, index := bits w 25 16 }
def sourceOk (w : Nat) : Bool :=
  decide (bits w 3 0 ≤ 3) && bits w 15 6 == 0 && bits w 31 26 == 0
    && (if bits w 3 0 = 2 then bits w 5 4 == 0 else bits w 5 4 != 3)

/-- R290, R291. -/
def iuSetupOf (b : List Nat) : IuSetup :=
  { mode := bits (num b 0 1) 1 0, vsel := bits (num b 0 1) 7 4, vsh := bits (num b 1 1) 3 0, presc := bits (num b 1 1) 5 4
    nM1 := num b 2 2, start := sourceOf (num b 4 4), stop := sourceOf (num b 8 4), cycM1 := num b 12 2, tmo := num b 16 4
    rec_ := hasBit (num b 20 1) 0 }
def iuSetupOk (b : List Nat) : Bool :=
  let e := iuSetupOf b
  let interval := decide (e.mode ≤ 1)
  bits (num b 0 1) 3 2 == 0 && bits (num b 1 1) 7 6 == 0 && zeros b 14 2 && decide (num b 20 4 < 2) && zeros b 24 8
    && decide (e.vsel ≤ 4) && sourceOk (num b 4 4) && sourceOk (num b 8 4)
    && (if interval then e.start.kind != 0 && e.stop.kind != 0 && e.cycM1 == 0 else e.start.kind == 1 && zeros b 8 4)
    && (e.presc == 0 || (!interval && e.start.edge == 0 && (e.cycM1 + 1) % 2 ^ e.presc == 0))

/-! ### PMU setups -/

/-- R316, R317. -/
def pmuSetupOf (b : List Nat) : PmuSetup :=
  { mode := bits (num b 0 1) 1 0, range := bits (num b 0 1) 4 2, rpath := hasBit (num b 0 1) 5, keep := hasBit (num b 0 1) 6
    limfail := hasBit (num b 0 1) 7, ftag := bits (num b 1 1) 3 0, vred := bits (num b 1 1) 6 4, iunit := hasBit (num b 1 1) 7
    settle := num b 2 2, force := signed 32 (num b 4 4), clampLo := num b 8 2, clampHi := num b 10 2
    conv := bits (num b 12 1) 2 0, trig := bits (num b 13 1) 3 0, rec_ := hasBit (num b 13 1) 4, wsrc := bits (num b 14 1) 4 0
    nM1 := num b 16 2, limlo := signed 32 (num b 20 4), limhi := signed 32 (num b 24 4), tmo := num b 28 4 }
def pmuSetupOk (b : List Nat) : Bool :=
  let e := pmuSetupOf b
  e.mode != 3 && (e.mode == 2 || decide (e.range ≤ 4)) && decide (e.vred ≤ 5) && e.conv != 7 && decide (e.trig ≤ 6)
    && decide (num b 8 2 < 16384) && decide (num b 10 2 < 16384) && bits (num b 12 1) 7 3 == 0 && bits (num b 13 1) 7 5 == 0
    && decide (num b 14 2 < 32) && zeros b 18 2 && (e.trig == 5 || e.trig == 6 || e.wsrc == 0)
    && (e.mode == 1 || (e.clampLo == 0 && e.clampHi == 0)) && decide (e.clampLo ≤ e.clampHi) && decide (e.limlo ≤ e.limhi)
    && (if e.mode = 0 then decide (-1500000 ≤ e.force) && decide (e.force ≤ 6000000)
        else if e.mode = 1 then decide (-32768 ≤ e.force) && decide (e.force ≤ 32767) else e.force == 0)

/-! ### Site map -/

/-- R396: an entry of the site map; none where VALID is 0. -/
def siteOf (b : List Nat) : Option SiteDef :=
  if hasBit (num b 8 1) 7 = false then none
  else
    let die := bits (num b 8 1) 1 0
    some {
      pods := (bitsSet 64 (num b 0 8)).map (fun i => 64 * die + i)
      rails := (if hasBit (num b 9 1) 7 then [bits (num b 9 1) 6 0] else [])
        ++ (if hasBit (num b 10 1) 7 then [bits (num b 10 1) 6 0] else [])
      die := die }
def siteEntryOk (b : List Nat) : Bool :=
  if hasBit (num b 8 1) 7 = false then zeros b 0 16
  else bits (num b 8 1) 6 2 == 0 && zeros b 11 5 && !zeros b 0 8 && hasBit (num b 9 1) 7
    && (hasBit (num b 10 1) 7 || num b 10 1 == 0)

/-- The map as it will stand after entries from `first` on are loaded. -/
def State.mapAfter (s : State) (first : Nat) (es : List (List Nat)) : List (Nat × SiteDef) :=
  (List.range 128).filterMap (fun n =>
    ((if first ≤ n ∧ n < first + es.length then siteOf (es.getD (n - first) []) else s.site n).map (fun d => (n, d))))

/-- R12, R14, R396: the map is valid. -/
def State.mapOk (s : State) (m : List (Nat × SiteDef)) : Bool :=
  let pods := m.flatMap (·.2.pods)
  let rails := m.flatMap (·.2.rails)
  m.all (fun e => decide (1 ≤ e.2.pods.length ∧ e.2.pods.length ≤ 64) && decide (1 ≤ e.2.rails.length ∧ e.2.rails.length ≤ 2)
      && e.2.rails.all (fun r => dieOfRail r == e.2.die))
    && decide (pods.eraseDups.length = pods.length) && decide (rails.eraseDups.length = rails.length)
    && pods.all (fun p => (s.hostOf p).isNone)

/-- R396, R500, R11: a load that changes a husk's entry, puts a unit under fence into a site, or a site on a pin die that is not
in order, meets a state that forbids it (assumption 20 for the last). -/
def State.mapForbidden (s : State) (first : Nat) (es : List (List Nat)) : Bool :=
  (List.range es.length).any (fun i =>
    let n := first + i
    let d := siteOf (es.getD i [])
    (d != s.site n && s.on F.SITE_FSTAT_HUSK n)
      || (match d with
        | some d => d.pods.any s.podFenced || d.rails.any s.railFenced || (d != (s.site n).getD d && !s.dieOk d.die)
            || ((s.site n).isNone && !s.dieOk d.die)
        | none => false))

/-! ### Images -/

/-- R188: a micro-op of a user area of n words passes its check. -/
def uopOk (n w : Nat) : Bool :=
  let op := bits w 31 26
  let target := decide (1024 ≤ bits w 10 0) && decide (bits w 10 0 < 1024 + n)
  (decide (op ≤ 13) || decide (16 ≤ op ∧ op ≤ 24) || decide (28 ≤ op ∧ op ≤ 32))
    && !((op == 13 || op == 29) && bits w 25 24 == 0)
    && !((op == 16 || op == 17 || op == 18) && hasBit w 21)
    && (!(op == 0 || op == 18 || op == 31) || bits w 20 0 == 0)
    && (op != 11 || bits w 5 0 == 0)
    && (op != 13 || decide (bits w 8 0 ≤ 16) || decide (32 ≤ bits w 8 0 ∧ bits w 8 0 ≤ 43))
    && (!(op == 16 || op == 17) || (bits w 16 11 == 0 && target))
    && (op != 16 || decide (bits w 20 17 ≤ 6))
    && (!(op == 21 || op == 22 || op == 23) || bits w 14 0 == 0)
    && (!(op == 21 || op == 23) || bits w 20 19 != 3)
    && (op != 22 || decide (bits w 20 19 ≤ 1))
    && (op != 24 || bits w 6 0 == 0)
    && (op != 28 || (bits w 6 0 == 0 && decide (bits w 20 15 ≤ 12)))
    && (op != 29 || (bits w 8 0 == 0 && decide (bits w 20 18 ≤ 4)))

/-- R187: sizes and parts of a microcode image. -/
def imgNuops (b : List Nat) : Nat := num b 8 2
def imgNnano (b : List Nat) : Nat := num b 10 2
def imgSpan (b : List Nat) : Nat := 320 + 4 * imgNuops b + 12 * imgNnano b
def imageOf (b : List Nat) : Image :=
  { uops := (List.range (imgNuops b)).map (fun i => num b (320 + 4 * i) 4)
    nano := (List.range (imgNnano b)).map (fun k => num b (320 + 4 * imgNuops b + 12 * k) 12)
    entries := (List.range 64).map (fun op => num b (64 + 4 * op) 4) }

/-- R187, R188: an image's format passes its check. -/
def imageOk (b : List Nat) : Bool :=
  let n := imgNuops b
  let x := imageOf b
  num b 0 4 == 0x54554D43 && num b 4 2 == 1 && decide (num b 6 1 ≤ 1) && zeros b 7 1 && decide (n ≤ 1024)
    && decide (imgNnano b ≤ 512) && (num b 6 1 == 1 || imgNnano b == 0) && num b 12 4 != 0 && zeros b 18 46
    && decide (imgSpan b ≤ b.length) && x.uops.all (uopOk n)
    && (List.range 64).all (fun op =>
      let e := x.entries.getD op 0
      bits e 30 11 == 0 && (if factoryOps.contains op then e == 0
        else !hasBit e 31 || (decide (1024 ≤ e % 2048) && decide (e % 2048 < 1024 + n))))

/-- R531: a firmware image's header passes its check. -/
def fwOk (b : List Nat) : Bool :=
  num b 0 4 == 0x54465743 && num b 4 2 == 1 && zeros b 6 2 && num b 8 4 % 8 == 0 && decide (8 ≤ num b 8 4)
    && decide (num b 8 4 ≤ 393216) && num b 12 4 != 0 && zeros b 18 46

/-- R532: the first check that an image fails; `span` its digested bytes, `svn` its version, `least` its kind's rollback counter;
0 where it passes. A slot not programmed matches no key (R533). -/
def authCode (revoked : Nat) (wellFormed : Bool) (b : List Nat) (span svn least : Nat) : Nat :=
  let g := b.drop span
  let slot := num g 4 4
  let pub := (g.drop 8).take 2592
  if wellFormed = false ∨ b.length ≠ span + 7232 ∨ num g 0 4 ≠ 0x54534742 ∨ slot ≥ 4 ∨ zeros g 7227 5 = false then 1
  else if hasBit revoked slot = true ∨ Config.keyDigest slot ≠ some (Config.sha3 pub) then 2
  else if Config.mldsaVerifies pub (Config.sha3 (b.take span)) ((g.drop 2600).take 4627) = false then 3
  else if svn < least then 4
  else 0

/-- The key slot of an image (R532). -/
def imageSlot (b : List Nat) (span : Nat) : Nat := num (b.drop span) 4 4

end Sys2Proof.Machine
end

