-- ==== Sys2Proof/Machine/MmuOps.lean ====
section
/-! DEFINITION. How descriptors end early, streams (R236 to R242, R394, R424), and the fault log (R417 to R423). -/

namespace Sys2Proof.Machine

open Sys2Proof

/-! ### Capture uploads and ledger drains -/

/-- The length of the capture record at a ring offset, by its type (R256). -/
def State.recLen (s : State) (pod off : Nat) : Nat :=
  match bits (ofBytes (s.ringRead pod off 8)) 63 60 with
  | 4 => 8
  | 7 => 24
  | _ => 16

/-- The bytes of whole records from a ring offset on, up to a limit (R272). -/
def State.wholeRecs (s : State) (pod off limit : Nat) : Nat → Nat
  | 0 => 0
  | n + 1 =>
    let l := s.recLen pod off
    if l > limit then 0 else l + s.wholeRecs pod ((off + l) % max 1 (s.ringSize pod)) (limit - l) n

/-- CAP_RD advances over the whole records among the bytes moved (R272, R421). -/
def State.endUpload (s : State) (pod moved : Nat) : State :=
  let whole := s.wholeRecs pod (s.rd F.CAP_RD_OFFSET pod) moved (moved / 8 + 1)
  let size := max 1 (s.ringSize pod)
  let o := s.rd F.CAP_RD_OFFSET pod + whole
  let s := if o ≥ size then s.wr F.CAP_RD_WRAP (1 - s.rd F.CAP_RD_WRAP pod) pod else s
  (s.wr F.CAP_RD_OFFSET (o % size) pod).rearmCapture pod

/-- LEDG_RD advances over the whole entries among the bytes moved (R284, R421). -/
def State.endDrain (s : State) (moved : Nat) : State :=
  let i := s.rd F.LEDG_RD_INDEX + moved / 32
  s.setLedgRd (if i ≥ 65536 then 1 - s.rd F.LEDG_RD_WRAP else s.rd F.LEDG_RD_WRAP) (i % 65536)

/-- The registers that RESULT1 of an upload and of a drain shows. -/
def State.capRdNow (s : State) (pod : Nat) : Nat := s.rd F.CAP_RD_WRAP pod * 2 ^ F.CAP_RD_WRAP.lo + s.rd F.CAP_RD_OFFSET pod * 2 ^ F.CAP_RD_OFFSET.lo
def State.ledgRdNow (s : State) : Nat := s.rd F.LEDG_RD_WRAP * 2 ^ F.LEDG_RD_WRAP.lo + s.rd F.LEDG_RD_INDEX * 2 ^ F.LEDG_RD_INDEX.lo

/-! ### Streams -/

/-- A stream descriptor's slot, its started descriptors in order with their queue pair. -/
def State.feedDescs (s : State) (t : Nat) : List (Nat × Desc) :=
  let q := s.rd F.STRM_CFG_QP t
  ((s.qp q).fetched.filter (fun d => d.opc == 8 && d.started && d.f 8 3 0 == t)).map (fun d => (q, d))

/-- The fetched descriptors of a slot, started or not (R242). -/
def State.slotDescs (s : State) (t : Nat) : List (Nat × Desc) :=
  let q := s.rd F.STRM_CFG_QP t
  ((s.qp q).fetched.filter (fun d => d.opc == 8 && d.f 8 3 0 == t)).map (fun d => (q, d))

/-- R242: an EN write from 1 to 0 discards what is staged and not delivered, empties the bound entries, and completes the slot's
descriptors with ABORTED, but for one that ends otherwise. -/
def State.streamOff (s : State) (t : Nat) (but : Option Nat) : State :=
  let gone := s.delivered t
  let s := (s.slotDescs t).foldl (fun (s : State) (e : Nat × Desc) =>
    if but = some e.2.idx then s else s.finish e.1 e.2 stAborted (if e.2.started then min e.2.total (gone - e.2.first) else 0) 0 0) s
  let s := (s.bound t).foldl (fun (s : State) (e : Nat × Nat) => s.setSeg e.1 e.2 { s.seg e.1 e.2 with st := sgLoading, got := 0, head := 0 }) s
  (s.setStrm t {}).wr F.STRM_CFG_EN 0 t

/-! ### Transfers that end early -/

/-- R421: a started transfer ends with XLAT_FAULT, PREEMPTED or SAFE_STATE: what its completed part leaves. R421 does not list
REFILL, which only the safe state ends: its entries become FREE as those of SEG_LOAD do (DESIGN CHOICE, assumption 179). -/
def State.endTransfer (s : State) (q : Nat) (d : Desc) (status detail : Nat) : State :=
  let fed := min d.total (s.delivered (d.f 8 3 0) - d.first)
  let s := match d.opc with
    | 4 => d.pods.foldl (fun (s : State) (p : Nat) =>
        let x := s.seg p (d.f 8 5 0)
        if x.st = sgLoading ∧ x.cls = 5 then s.setSeg p (d.f 8 5 0) { x with st := sgFree, cls := 0 } else s) s
    | 5 => d.pods.foldl (fun (s : State) (p : Nat) =>
        let x := s.seg p (d.f 8 5 0)
        if x.st = sgLoading ∧ x.cls = 6 then s.setSeg p (d.f 8 5 0) { x with st := sgFree, cls := 0 } else s) s
    | 8 => if status = stXlat ∨ status = stPreempted then s.streamOff (d.f 8 3 0) (some d.idx) else s
    | 9 => s.endUpload (d.f 8 7 0) d.moved
    | 10 => s.endDrain d.moved
    | _ => s
  let r0 := match d.opc with
    | 6 => d.moved / 512
    | 8 => fed
    | 9 => d.moved
    | 10 => d.moved / 32
    | _ => 0
  let r1 := match d.opc with
    | 9 => s.capRdNow (d.f 8 7 0)
    | 10 => s.ledgRdNow
    | _ => 0
  s.endDesc q d status r0 r1 detail

/-! ### The fault log -/

def flEmpty : Nat := 0
def flOpen : Nat := 1
def flClosed : Nat := 2

/-- Whether a slot is OPEN; the queue pair or event ring whose access it holds. -/
def State.slotOpen (s : State) (k : Nat) : Bool := s.rd F.MMU_FLOG0_STATE k == flOpen
def State.slotRing (s : State) (k : Nat) : Bool := s.rd F.MMU_FLOG0_ORIGIN k == 4

/-- The slots OPEN for a queue pair. -/
def State.openOf (s : State) (q : Nat) : List Nat :=
  (List.range 16).filter (fun k => s.slotOpen k && !s.slotRing k && s.rd F.MMU_FLOG0_QP k == q)

/-- A slot's state changes: MMU_STAT.OPEN and the XFLT bits follow (R419, R420). -/
def State.setSlot (s : State) (k st : Nat) : State :=
  let s := s.wr F.MMU_FLOG0_STATE st k
  let s := s.wr F.MMU_STAT_OPEN ((List.range 16).filter s.slotOpen).length
  if s.slotRing k then
    let e := s.rd F.MMU_FLOG0_EVR k
    s.wr F.EVR_STAT_XFLT (ofBool ((List.range 16).any (fun j => s.slotOpen j && s.slotRing j && s.rd F.MMU_FLOG0_EVR j == e))) e
  else
    let q := s.rd F.MMU_FLOG0_QP k
    s.wr F.QP_STAT_XFLT (ofBool (!(s.openOf q).isEmpty)) q

/-- The fault-log slot that is written next: the first that is not OPEN from MMU_FIDX.NEXT on (R419). -/
def State.nextSlot (s : State) : Option Nat :=
  ((List.range 16).map (fun i => (s.rd F.MMU_FIDX_NEXT + i) % 16)).find? (fun k => !s.slotOpen k)

/-- R419: a slot is written with a new GEN. -/
def State.writeSlot (s : State) (k : Nat) (m : MFault) (st : Nat) : State :=
  let ring := m.origin == 4
  let s := s.wr F.MMU_FLOG0_GEN ((s.rd F.MMU_FLOG0_GEN k + 1) % 256) k
  let s := s.wr F.MMU_FLOG0_QP (if ring then 0 else m.unit) k
  let s := (s.wr F.MMU_FLOG0_ORIGIN m.origin k).wr F.MMU_FLOG0_EVR (if ring then m.unit else 0) k
  let s := (s.wr F.MMU_FLOG0_WRITE (ofBool m.write) k).wr F.MMU_FLOG0_FRES (ofBool m.fres) k
  let s := (s.wr F.MMU_FLOG0_CAUSE m.cause k).wr F.MMU_FLOG1_CID m.cid k
  let s := (s.wr F.MMU_FLOG1_OPC m.opc k).wr F.MMU_FLOG1_ASID m.asid k
  let s := (s.wr F.MMU_FLOG2_ADDR_LO (loWord m.addr) k).wr F.MMU_FLOG3_ADDR_HI (hiWord m.addr) k
  let s := s.wrStamp F.MMU_FLOG4_STAMP_LO F.MMU_FLOG5_STAMP_HI m.stamp k
  let s := (s.wr F.MMU_FLOG6_PROG m.prog k).wr F.MMU_FIDX_NEXT ((k + 1) % 16)
  s.setSlot k st

/-- The descriptor that a slot's fault holds. -/
def State.slotDesc (s : State) (k : Nat) : Option Desc :=
  (s.qp (s.rd F.MMU_FLOG0_QP k)).fetched.find? (fun d => d.cid == s.rd F.MMU_FLOG1_CID k && d.faulted)

/-- The DETAIL of XLAT_FAULT (R420). -/
def State.slotDetail (s : State) (k : Nat) : Nat :=
  s.rd F.MMU_FLOG0_CAUSE k + 16 * s.rd F.MMU_FLOG0_WRITE k + 256 * k + 4096 * s.rd F.MMU_FLOG0_GEN k

/-- R422: an OPEN slot is aborted: it becomes CLOSED, and what it held ends. -/
def State.abortSlot (s : State) (k : Nat) : State :=
  let o := s.rd F.MMU_FLOG0_ORIGIN k
  let q := s.rd F.MMU_FLOG0_QP k
  let e := s.rd F.MMU_FLOG0_EVR k
  let d := s.slotDesc k
  let s := s.setSlot k flClosed
  if o ≤ 1 then
    match d with
    | some d => s.endTransfer q d stXlat (s.slotDetail k)
    | none => s
  else if o = 2 then (s.setQp q { s.qp q with sqFault := false }).haltQp q
  else if o = 3 then
    let x := s.qp q
    ((s.setQp q { x with cqFault := false, cplq := x.cplq.drop 1 }).wr F.QP_STAT_CQERR 1 q).haltQp q
  else
    let x := s.evr e
    let mine := s.evq.filter (fun r => r.ring == some e)
    let s := s.bump F.EVR_LOST_LOST (x.kept.length + mine.length) e
    let s := { s with evq := s.evq.filter (fun r => r.ring != some e) }
    ((s.setEvr e { x with kept := [], lost := none, fault := false }).wr F.EVR_CFG_EN 0 e)

end Sys2Proof.Machine
end

