-- ==== Sys2Proof/Machine/HostRows.lean ====
section
/-! DEFINITION. The meanings of the doorbells, of descriptor fetch, completions, event records, interrupts, translation faults
and pre-emption (chapters 13 and 14). -/

namespace Sys2Proof.Machine

open Sys2Proof

/-! ### Doorbells -/

/-- R381: whether an index lies on the path from a head to a tail, both ends included. -/
def onPath (v head tail size : Nat) : Bool :=
  decide (v < size) && decide ((v + size - head) % size ≤ (tail + size - head) % size)

/-- R378, R381: a SQ_TAIL value reaches its queue pair. -/
def State.sqTail (s : State) (q v : Nat) : State :=
  if v ≥ s.sqSize q then (s.wr F.QP_STAT_DBERR 1 q).haltQp q
  else (s.wr F.QP_STAT_DBTAIL v q).pulse 0x21 q

/-- R378, R381: a CQ_HEAD value reaches its queue pair. -/
def State.cqHead (s : State) (q v : Nat) : State :=
  let x := s.qp q
  if onPath v x.cqHead (s.rd F.QP_HEAD_CQ_TAIL q) (s.cqSize q) = false then s.wr F.QP_STAT_CQERR 1 q
  else (s.setQp q { x with cqHead := v }).pulse 0x21 q

/-- R378, R381: an EVR_HEAD value reaches its event ring. -/
def State.evrHead (s : State) (e v : Nat) : State :=
  let x := s.evr e
  if onPath v x.head (s.rd F.EVR_TAIL_TAIL e) (s.evrSize e) = false then s.wr F.EVR_STAT_HDERR 1 e
  else s.setEvr e { x with head := v }

/-- R516: an L0 or L1 reset holds the engine die: it acts, and its release sequence has not begun. -/
def State.inReset (s : State) : Bool :=
  s.rst.seen != 0 && decide (s.rst.level ≤ 1) && !s.rst.releasing && !s.rst.deferred

/-- R525: whether doorbells are accepted: from ENGINE on. -/
def State.bellsOpen (s : State) : Bool :=
  decide (3 ≤ s.rd F.RST_STAT_STAGE) && s.rd F.RST_STAT_STAGE != 15 && !s.inReset

/-- R378: a doorbell at an offset of this device's page; it starts a wake (R404, R474). -/
def State.ring (s : State) (off v : Nat) : State :=
  let k := off / 16
  if s.bellsOpen = false then s
  else if off % 16 = 0 ∧ k < 64 then (s.sqTail k v).askWake 1
  else if off % 16 = 4 ∧ k < 64 then (s.cqHead k v).askWake 1
  else if off % 16 = 0 ∧ k < 72 then (s.evrHead (k - 64) v).askWake 1
  else s

/-- R20, R379: a doorbell write to the page of a device, at the anchor: its own, or forwarded on TC1. -/
def State.bell (s : State) (dev off v : Nat) : State :=
  if s.anchor = false then s
  else if dev = s.dev then s.ring off v
  else if s.present dev = false then { s with out := s.out ++ [OutMsg.unsupported] }
  else s.sendTo dev tyDoorbell 1 (toBytes 4 off ++ toBytes 4 v) []

/-- SQ_TAIL, R378. -/
def execSqTail (dev : Fin 64) (qp : QpId) (value : BitVec 32) (s : State) : Out := .next (s.bell dev (16 * qp) value.toNat)

/-- CQ_HEAD, R378, R381. -/
def execCqHead (dev : Fin 64) (qp : QpId) (value : BitVec 32) (s : State) : Out := .next (s.bell dev (16 * qp + 4) value.toNat)

/-- EVR_HEAD, R378, R381. -/
def execEvrHead (dev : Fin 64) (evr : EvrId) (value : BitVec 32) (s : State) : Out :=
  .next (s.bell dev (1024 + 16 * evr) value.toNat)

/-! ### Descriptor fetch -/

/-- DESCRIPTOR_FETCH, R382: the device asks for the descriptor at the SQ head, translating its address (R410, R414). -/
def execDescriptorFetch (qp : QpId) (walk : Walk) (s : State) : Out :=
  let q := qp.val
  let a := (s.sqBase q + 64 * s.rd F.QP_HEAD_SQ_HEAD q) % 2 ^ 64
  let asid := s.rd F.QP_CFG_ASID q
  .next (
    if s.fetchTurn ≠ some q ∨ s.fetchOpen = false then s
    else
      match s.translate asid a false walk with
      | (.wait, s) => s
      | (.bad c, s) => (s.setQp q { s.qp q with sqFault := true }).newFault 2 q 0 0 0 asid a false c 0 (s.on F.QP_CFG_FRES q)
      | (.ok pa, s) => ({ s.setQp q { s.qp q with fetching := true, stale := false } with rr := q }).hostRead 2 pa 64 (.sq qp))

/-- R388: a fetched descriptor joins those of its queue pair. -/
def State.fetched (s : State) (q : Nat) (raw : List Nat) : State :=
  let x := s.qp q
  let s := s.setQp q { x with
    fetching := false
    next := x.next + 1
    fetched := x.fetched ++ [{ idx := x.next, raw := ofBytes raw }] }
  (s.wr F.QP_HEAD_SQ_HEAD ((s.rd F.QP_HEAD_SQ_HEAD q + 1) % s.sqSize q) q).settleQ q 17

/-- What a host read brings (none: an error) reaches what it was for; a failed read is made again. -/
def State.hostData (s : State) (target : HostTarget) (b : Option (List Nat)) : State :=
  match target with
  | .sq q =>
    if (s.qp q).fetching = false then s else
    match b with
    | some raw => if raw.length = 64 then s.fetched q raw else s.setQp q { s.qp q with fetching := false }
    | none => s.setQp q { s.qp q with fetching := false }
  | .data q cid =>
    match (s.qp q).fetched.find? (fun d => d.cid == cid && decide (0 < d.reading)) with
    | none => s
    | some d =>
      match b with
      | some raw =>
        if raw.length = d.reading then
          s.putDesc q { d with data := d.data ++ raw, moved := if d.opc = 8 then d.moved else d.moved + raw.length, reading := 0 }
        else s.putDesc q { d with reading := 0 }
      | none => s.putDesc q { d with reading := 0 }
  | .relay _ _ => s

/-- R457: the anchor returns read data to a member in packets of up to 512 B, or a status. -/
def State.returnDma (s : State) (r : DmaRd) (status : Nat) (b : List Nat) : State :=
  let s := { s with fab := { s.fab with dma := s.fab.dma.filter (fun e => !(e.dev == r.dev && e.tag == r.tag)) } }
  let head (n st : Nat) : List Nat := toBytes 8 0 ++ toBytes 4 n ++ toBytes 2 r.tag ++ toBytes 2 st
  if status ≠ 0 then s.sendTo r.dev tyDmaCpl r.tc (head 0 status) []
  else (pieces (b.length / 512 + 1) 0 b).foldl
    (fun (s : State) (e : Nat × List Nat) => s.sendTo r.dev tyDmaCpl r.tc (head e.2.length 0) e.2) s

/-- PCIE_COMPLETION, R457: the host answers a read of the anchor. -/
def execPcieCompletion (target : HostTarget) (data : Option (List Byte)) (s : State) : Out :=
  let b := data.map (fun l => l.map BitVec.toNat)
  .next (
    if s.anchor = false then s
    else
      match target with
      | .relay dev tag =>
        (match s.fab.dma.find? (fun r => r.dev == dev && r.tag == tag) with
        | none => s
        | some r =>
          (match b with
          | some l => if l.length = r.len then s.returnDma r 0 l else s.returnDma r 1 []
          | none => s.returnDma r 1 []))
      | t => s.hostData t b)

/-- NOP_COMMAND, R391. -/
def execNopCommand (qp : QpId) (cid : Nat) (s : State) : Out :=
  .next (match s.start qp cid 1 with
    | none => s
    | some (d, s) => s.endDesc qp d stOk 0 0 0)

/-! ### Completions, records, interrupts -/

/-- The bytes of a completion entry (R389). -/
def State.cplBytes (s : State) (q : Nat) (c : Cpl) : List Nat :=
  toBytes 8 s.now.toNat ++ toBytes 4 (c.cid + c.status * 65536 + c.opc * 2 ^ 24)
    ++ toBytes 4 (s.rd F.QP_HEAD_SQ_HEAD q + q * 65536 + s.dev * 2 ^ 22 + (s.qp q).phase * 2 ^ 31)
    ++ toBytes 8 c.r0 ++ toBytes 4 c.r1 ++ toBytes 4 c.detail

/-- COMPLETION_WRITE, R389: the next completion of a queue pair goes into its CQ. -/
def execCompletionWrite (qp : QpId) (walk : Walk) (s : State) : Out :=
  let q := qp.val
  let tail := s.rd F.QP_HEAD_CQ_TAIL q
  let a := (s.cqBase q + 32 * tail) % 2 ^ 64
  let asid := s.rd F.QP_CFG_ASID q
  .next (match (s.qp q).cplq with
    | [] => s
    | c :: rest =>
      if s.hostOpen = false ∨ (s.qp q).cqFault = true then s
      else
        match s.translate asid a true walk with
        | (.wait, s) => s
        | (.bad x, s) =>
          (s.setQp q { s.qp q with cqFault := true }).newFault 3 q 0 0 0 asid a true x 0 (s.on F.QP_CFG_FRES q)
        | (.ok pa, s) =>
          let s := s.hostWrite (dataClass c.opc) pa (s.cplBytes q c)
          let wraps := tail + 1 ≥ s.cqSize q
          let x := s.qp q
          let counts := c.irq && s.on F.QP_IRQ_IEN q
          let s := s.setQp q { x with
            cplq := rest
            phase := if wraps then 1 - x.phase else x.phase
            oldest := if counts && x.pend == 0 then s.now else x.oldest
            pend := if counts then x.pend + 1 else x.pend }
          ((s.wr F.QP_HEAD_CQ_TAIL (if wraps then 0 else tail + 1) q).pulse 0x20 q).settleQ q 17)

/-- The 64-bit words of an event record but for PHASE (R398). -/
def EvRec.words (r : EvRec) (dev : Nat) : List Nat :=
  let src := if r.kind = 2 ∨ r.kind = 4 ∨ r.kind = 7 then 0xFFF else r.src
  [r.stamp.toNat, src + r.kind * 65536 + dev * 2 ^ 24 + r.seq * 2 ^ 32 + r.info * 2 ^ 48] ++ r.payload

/-- A record is written at the tail of an event ring; a translation fault holds the ring's writes. The flag says whether
it was written. -/
def State.writeRecord (s : State) (e : Nat) (words : List Nat) (walk : Walk) : Bool × State :=
  let tail := s.rd F.EVR_TAIL_TAIL e
  let a := (s.evrBase e + 64 * tail) % 2 ^ 64
  let asid := s.rd F.EVR_CFG_ASID e
  match s.translate asid a true walk with
  | (.wait, s) => (false, s)
  | (.bad c, s) => (false, (s.setEvr e { s.evr e with fault := true }).newFault 4 e 0 0 0 asid a true c 0 false)
  | (.ok pa, s) =>
    let x := s.evr e
    let words := words.set 1 (words.getD 1 0 + x.phase * 2 ^ 31)
    let s := s.hostWrite 2 pa (((words ++ List.replicate 8 0).take 8).flatMap (toBytes 8))
    let wraps := tail + 1 ≥ s.evrSize e
    let counts := s.on F.EVR_IRQ_IEN e
    let s := s.setEvr e { x with
      phase := if wraps then 1 - x.phase else x.phase
      oldest := if counts && x.pend == 0 then s.now else x.oldest
      pend := if counts then x.pend + 1 else x.pend }
    let s := s.wr F.EVR_TAIL_TAIL (if wraps then 0 else tail + 1) e
    let s := if wraps then s.wr F.EVR_TAIL_WRAP (1 - s.rd F.EVR_TAIL_WRAP e) e else s
    (true, s.pulse 0x31 0 1 true)

/-- A record that finds the ring and what is kept for it full is lost (R400). -/
def State.loseRecord (s : State) (e : Nat) (stamp : Stamp) : State :=
  let x := s.evr e
  let t := stamp.toNat
  let s := s.setEvr e { x with lost := some (match x.lost with | some (n, a, _) => (n + 1, a, t) | none => (1, t, t)) }
  (s.wr F.EVR_STAT_OVF 1 e).bump F.EVR_LOST_LOST 1 e

/-- EVENT_RECORD_WRITE, R397 to R400: the next record of a ring is written; while the ring takes none, it is kept on chip,
or lost. -/
def execEventRecordWrite (evr : EvrId) (walk : Walk) (s : State) : Out :=
  let e := evr.val
  let x := s.evr e
  let head := s.evq.find? (fun r => r.ring == some e)
  .next (
    if s.evrFree e && x.lost.isNone then
      (match x.kept, head with
      | w :: _, _ =>
        let r := s.writeRecord e w walk
        if r.1 then r.2.setEvr e { r.2.evr e with kept := (r.2.evr e).kept.drop 1 } else r.2
      | [], some h =>
        let r := s.writeRecord e (h.words s.dev) walk
        if r.1 then { r.2 with evq := r.2.evq.erase h } else r.2
      | [], none => s)
    else
      match head with
      | none => s
      | some h =>
        let s := { s with evq := s.evq.erase h }
        if x.kept.length < 256 then s.setEvr e { x with kept := x.kept ++ [h.words s.dev] } else s.loseRecord e h.stamp)

/-- RLOSS, R400: a slot is free after losses: one record says how many, before those kept. -/
def execRloss (evr : EvrId) (walk : Walk) (s : State) : Out :=
  let e := evr.val
  .next (match (s.evr e).lost with
    | none => s
    | some (n, a, b) =>
      if s.evrFree e = false then s
      else
        let q := s.seqs.at 0 0xFFF
        let r := s.writeRecord e ((EvRec.mk 0xFFF 7 s.now q 0 [min n (2 ^ 32 - 1), a, b] none).words s.dev) walk
        if r.1 then
          let t := r.2.setEvr e { r.2.evr e with lost := none }
          { t with seqs := t.seqs.set 0 0xFFF ((q + 1) % 65536) }
        else r.2)

/-- A ring's items pending for an interrupt, the tick of the oldest, IEN, VEC, CNT and TIME (R402). -/
def State.irqOf (s : State) (ring : RingId) : Nat × Stamp × Bool × Nat × Nat × Nat :=
  match ring with
  | .qp q => ((s.qp q).pend, (s.qp q).oldest, s.on F.QP_IRQ_IEN q, s.rd F.QP_IRQ_VEC q, s.rd F.QP_IRQ_CNT q, s.rd F.QP_IRQ_TIME q)
  | .evr e =>
    ((s.evr e).pend, (s.evr e).oldest, s.on F.EVR_IRQ_IEN e, s.rd F.EVR_IRQ_VEC e, s.rd F.EVR_IRQ_CNT e, s.rd F.EVR_IRQ_TIME e)

/-- R402: the message of a ring is sent, which clears its count. -/
def State.sendIrq (s : State) (ring : RingId) : State :=
  let v := (s.irqOf ring).2.2.2.1
  match ring with
  | .qp q => (s.setQp q { s.qp q with pend := 0 }).interrupt v
  | .evr e => (s.setEvr e { s.evr e with pend := 0 }).interrupt v

/-- INTERRUPT, R402: the count of pending items has reached its threshold. -/
def execInterrupt (ring : RingId) (s : State) : Out :=
  let r := s.irqOf ring
  .next (if r.2.2.1 && s.hostOpen && decide (r.1 ≥ max 1 r.2.2.2.2.1) then s.sendIrq ring else s)

/-- INTERRUPT_TIME, R402: the oldest pending item has waited TIME microseconds. -/
def execInterruptTime (ring : RingId) (s : State) : Out :=
  let r := s.irqOf ring
  .next (if r.2.2.1 && s.hostOpen && decide (0 < r.1 ∧ 0 < r.2.2.2.2.2) && reached (after r.2.1 (r.2.2.2.2.2 * tUs)) s.now
    then s.sendIrq ring else s)

/-! ### Enabling and flushing -/

/-- A write of QP_CFG (R384, R408). -/
def State.writeQpCfg (s : State) (q v : Nat) : State :=
  let st := s.qpState q
  let old := s.on F.QP_CFG_EN q
  let sizes := bits v 7 0
  let s := ((s.wr F.QP_CFG_FRES (bit v 30) q).wr F.QP_CFG_PRIO (bits v 29 27) q).wr F.QP_CFG_ASID (bits v 23 16) q
  let s := s.wr F.QP_CFG_LAT (bits v 15 8) q
  let s := if st = qsDisabled then (s.wr F.QP_CFG_SQSZ (bits v 7 4) q).wr F.QP_CFG_CQSZ (bits v 3 0) q
    else if sizes ≠ s.rd F.QP_CFG_SQSZ q * 16 + s.rd F.QP_CFG_CQSZ q then s.wr F.QP_STAT_CFGBUSY 1 q else s
  if hasBit v 31 && !old then
    if st = qsDisabled then
      let s := (s.wr F.QP_CFG_EN 1 q).wr F.QP_STAT_STATE qsRun q
      let s := ((s.wr F.QP_HEAD_SQ_HEAD 0 q).wr F.QP_HEAD_CQ_TAIL 0 q).wr F.QP_STAT_DBTAIL 0 q
      s.setQp q {}
    else s
  else if !hasBit v 31 && old then
    let s := s.wr F.QP_CFG_EN 0 q
    if st = qsRun ∨ st = qsHalted then s.wr F.QP_STAT_STATE qsDraining q else s
  else s

/-- QP_CFG as it reads. -/
def State.qpCfg (s : State) (q : Nat) : Nat :=
  s.rd F.QP_CFG_EN q * 2 ^ 31 + s.rd F.QP_CFG_FRES q * 2 ^ 30 + s.rd F.QP_CFG_PRIO q * 2 ^ 27 + s.rd F.QP_CFG_ASID q * 65536
    + s.rd F.QP_CFG_LAT q * 256 + s.rd F.QP_CFG_SQSZ q * 16 + s.rd F.QP_CFG_CQSZ q

/-- QP_CFG_EN, R384: a write that gives EN a value and every other field its present one. -/
def execQpCfgEn (qp : QpId) (on : Bool) (s : State) : Out :=
  .next (s.writeQpCfg qp (if on then withBit (s.qpCfg qp) 31 else withoutBit (s.qpCfg qp) 31))

/-- DRAIN_END, R384, R423: every fetched descriptor has completed, and no slot of the fault log is OPEN for it. -/
def execDrainEnd (qp : QpId) (s : State) : Out :=
  let q := qp.val
  let x := s.qp q
  .next (
    if s.qpState q = qsDraining ∧ s.inFlight q = 0 ∧ x.fetching = false ∧ (s.openOf q).isEmpty = true
        ∧ s.mmuq.all (fun m => m.origin == 4 || m.unit != q) = true then
      (s.wr F.QP_STAT_STATE qsDisabled q).qpEvent q 2
    else s)

/-- A write of EVR_CFG (R408). -/
def State.writeEvrCfg (s : State) (e v : Nat) : State :=
  let old := s.on F.EVR_CFG_EN e
  let s := s.wr F.EVR_CFG_ASID (bits v 23 16) e
  let s := if old then s else s.wr F.EVR_CFG_SZ (bits v 3 0) e
  let s := s.wr F.EVR_CFG_EN (bit v 31) e
  if hasBit v 31 && !old then ((s.wr F.EVR_TAIL_TAIL 0 e).wr F.EVR_TAIL_WRAP 0 e).setEvr e {}
  else if !hasBit v 31 && old then
    { s.setEvr e { s.evr e with kept := [], lost := none, pend := 0 } with evq := s.evq.filter (fun r => r.ring != some e) }
  else s

/-- EVR_CFG_EN, R408: a write that gives EN a value and every other field its present one. -/
def execEvrCfgEn (evr : EvrId) (on : Bool) (s : State) : Out :=
  .next (s.writeEvrCfg evr (ofBool on * 2 ^ 31 + s.rd F.EVR_CFG_ASID evr * 65536 + s.rd F.EVR_CFG_SZ evr))

/-- An accepted STEP_RUN that has not started is withdrawn: its engines return from ARMED to IDLE (R385). -/
def State.withdraw (s : State) (q cid : Nat) : State :=
  match s.runs.find? (fun r => r.qp == q && r.cid == cid && !r.started) with
  | none => s
  | some r =>
    let s := r.sites.foldl (fun (s : State) (n : Nat) =>
      if s.gstate n = stArmed then ((s.dropRunAhead n).setGang n { (s.dropRunAhead n).gang n with prep := false }).setGstate n stIdle
      else s) s
    { s with runs := s.runs.erase r }

/-- R385: every fetched descriptor of a queue pair that has not started, or is held, completes with ABORTED. -/
def State.flush (s : State) (q : Nat) : State :=
  ((s.qp q).fetched.filter (fun d => !d.started || d.held)).foldl
    (fun (s : State) (d : Desc) => (s.withdraw q d.cid).finish q d stAborted 0 0 0) s

/-- FLUSH, R385. -/
def execFlush (qp : QpId) (s : State) : Out := .next (s.flush qp)

/-- D3HOT, R376: the anchor's function enters or leaves D3hot. -/
def execD3hot (on : Bool) (s : State) : Out := .next (if s.anchor then { s with d3hot := on } else s)

/-! ### Translation -/

/-- TRANSLATION_FAULT, R419, R420: the oldest fault not yet in the log is written into it, and holds or ends what it struck. -/
def execTranslationFault (s : State) : Out :=
  .next (match s.mmuq, s.nextSlot with
    | m :: rest, some k =>
      let held := m.origin ≥ 2 || m.fres
      let s := ({ s with mmuq := rest }).writeSlot k m (if held then flOpen else flClosed)
      let s := if m.origin = 4 then s
        else s.raise (2001 + 2 * m.unit) 1 [k + 256 * s.rd F.MMU_FLOG0_GEN k] s.now
      let s := if s.on F.MMU_CFG_FIEN then s.interrupt (s.rd F.MMU_CFG_FVEC) else s
      if held then s
      else
        match (s.qp m.unit).fetched.find? (fun d => d.idx == m.idx) with
        | none => s
        | some d => s.endTransfer m.unit d stXlat (s.slotDetail k)
    | _, _ => s)

/-- Whether an invalidation of an OP covers a cached entry (R416). -/
def State.invCovers (s : State) (op asid : Nat) (t : Tlb) : Bool :=
  let a := (s.rd F.MMU_INV_ALO_ALO * 4096 + s.rd F.MMU_INV_AHI_AHI * 2 ^ 32)
  let e := a + 4096 * max 1 (s.rd F.MMU_INV_NPG_NPG)
  let span := 2 ^ (12 + 9 * t.level)
  op == 1 || (op == 2 && t.asid == asid)
    || (op == 3 && t.asid == asid && (!t.leaf || (decide (t.tag * span < e) && decide (a < (t.tag + 1) * span))))

/-- R416: reads outstanding through entries that an invalidation covers are marked. -/
def State.markStale (s : State) (gone : List Tlb) : State :=
  (List.range 64).foldl (fun (s : State) (q : Nat) =>
    let x := s.qp q
    let asid := s.rd F.QP_CFG_ASID q
    let through (va : Nat) : Bool := gone.any (fun t => t.asid == asid && t.tag == va / 2 ^ (12 + 9 * t.level))
    let sq := x.fetching && (x.stale || through ((s.sqBase q + 64 * s.rd F.QP_HEAD_SQ_HEAD q) % 2 ^ 64))
    let ds := x.fetched.map (fun d => { d with stale := decide (0 < d.reading) && (d.stale || through d.at_) })
    if sq = x.stale ∧ ds = x.fetched then s else s.setQp q { x with stale := sq, fetched := ds }) s

/-- R416: a write of MMU_INV. -/
def State.writeMmuInv (s : State) (op asid : Nat) : State :=
  if s.on F.MMU_INV_BUSY then s.wr F.MMU_STAT_INVBUSY 1
  else
    let s := s.wr F.MMU_INV_ASID asid
    if op = 0 then s
    else
      let gone := s.tlb.filter (s.invCovers op asid)
      ({ s.markStale gone with tlb := s.tlb.filter (fun t => !s.invCovers op asid t) }).wr F.MMU_INV_BUSY 1

/-- MMU_INV, R416. -/
def execMmuInv (op : Fin 4) (asid : BitVec 8) (s : State) : Out := .next (s.writeMmuInv op asid.toNat)

/-- INVALIDATION_DONE, R416: no request issued through an invalidated entry is outstanding. -/
def execInvalidationDone (s : State) : Out :=
  .next (if s.qps.all (fun e => !(e.2.fetching && e.2.stale) && e.2.fetched.all (fun d => d.reading == 0 || !d.stale))
    then s.wr F.MMU_INV_BUSY 0 else s)

/-- R422: whether a write of MMU_FRESUME names an OPEN slot and its GEN. -/
def State.slotNamed (s : State) (k gen : Nat) : Bool := s.slotOpen k && s.rd F.MMU_FLOG0_GEN k == gen

/-- RETRY, R422: the faulting page is translated again. -/
def State.retrySlot (s : State) (k : Nat) (walk : Walk) : State :=
  let o := s.rd F.MMU_FLOG0_ORIGIN k
  let q := s.rd F.MMU_FLOG0_QP k
  let e := s.rd F.MMU_FLOG0_EVR k
  let asid := s.rd F.MMU_FLOG1_ASID k
  let a := join (s.rd F.MMU_FLOG2_ADDR_LO k) (s.rd F.MMU_FLOG3_ADDR_HI k)
  let w := s.on F.MMU_FLOG0_WRITE k
  let d := s.slotDesc k
  match s.translate asid a w walk with
  | (.wait, s) => s
  | (.bad c, s) =>
    let s := s.setSlot k flClosed
    s.newFault o (if o = 4 then e else q) ((d.map (·.idx)).getD 0) (s.rd F.MMU_FLOG1_CID k) (s.rd F.MMU_FLOG1_OPC k) asid a w c
      (s.rd F.MMU_FLOG6_PROG k) (s.on F.MMU_FLOG0_FRES k)
  | (.ok _, s) =>
    let s := s.setSlot k flClosed
    if o ≤ 1 then (match d with | some d => s.putDesc q { d with faulted := false } | none => s)
    else if o = 2 then s.setQp q { s.qp q with sqFault := false }
    else if o = 3 then s.setQp q { s.qp q with cqFault := false }
    else s.setEvr e { s.evr e with fault := false }

/-- RETRY, R422. -/
def execRetry (slot : Fin 16) (gen : BitVec 8) (walk : Walk) (s : State) : Out :=
  .next (if s.slotNamed slot gen.toNat then s.retrySlot slot walk else s.wr F.MMU_STAT_FRBAD 1)

/-- FAULT_ABORT, R422. -/
def execFaultAbort (slot : Fin 16) (gen : BitVec 8) (s : State) : Out :=
  .next (if s.slotNamed slot gen.toNat then s.abortSlot slot else s.wr F.MMU_STAT_FRBAD 1)

/-- FTMO, R423: a slot has been OPEN for FTMO milliseconds. -/
def execFtmo (slot : Fin 16) (s : State) : Out :=
  let k := slot.val
  let since : Stamp := BitVec.ofNat 64 (join (s.rd F.MMU_FLOG4_STAMP_LO k) (s.rd F.MMU_FLOG5_STAMP_HI k))
  let t := s.rd F.MMU_CFG_FTMO
  .next (if s.slotOpen k = true ∧ t ≠ 0 ∧ reached (after since (t * tMs)) s.now = true
    then (s.abortSlot k).wr F.MMU_STAT_FTO 1 else s)

/-! ### Pre-emption -/

/-- The sites of the STEP_RUNs of a queue pair that have started. -/
def State.sitesOfQp (s : State) (q : Nat) : List Nat := (s.runs.filter (fun r => r.qp == q && r.started)).flatMap (·.sites)

/-- R426: PREEMPT. -/
def State.preempt (s : State) (q : Nat) : State :=
  if s.qpState q ≠ qsRun ∨ s.preempted q = true then s.wr F.PRE_STAT_PBAD 1
  else
    (s.sitesOfQp q).foldl (fun (s : State) (n : Nat) =>
      if s.running n then s.setGang n { s.gang n with preempt := some s.now } else s) (s.setPreempt q true)

/-- PREEMPT, R426. -/
def execPreempt (qp : QpId) (s : State) : Out := .next (s.preempt qp)

/-- R426: a transfer paused at a chunk boundary, with data still to move. -/
def Desc.paused (d : Desc) : Bool := d.started && d.accepted && movesData d.opc && d.reading == 0 && decide (d.moved < d.total)

/-- PREEMPTED, R427: every started descriptor of the queue pair is paused, saved or ended. -/
def execPreempted (qp : QpId) (s : State) : Out :=
  let q := qp.val
  .next (
    if s.preempted q && !s.on F.QP_STAT_PRE q && (s.qp q).fetched.all (fun d => !d.started || d.opc == 2 || d.held || d.paused)
        && (s.sitesOfQp q).all (fun n => !s.running n || s.gstate n == stSaved) then
      (s.wr F.QP_STAT_PRE 1 q).raise (2001 + 2 * q) 2 [0] s.now
    else s)

/-- R429, R430: RESUME with the T of PRE_TLO and PRE_THI: saved gangs wait for GANG_RESTART, the others lose their request. -/
def State.resumeQp (s : State) (q : Nat) : State :=
  if s.preempted q = false then s else
  let t := tickOf (BitVec.ofNat 64 (join (s.rd F.PRE_TLO_TLO) (s.rd F.PRE_THI_THI)))
  let least := after s.now 1500
  let late := sooner t s.now 1500
  let s := (s.setPreempt q false).wr F.QP_STAT_PRE 0 q
  (s.sitesOfQp q).foldl (fun (s : State) (n : Nat) =>
    let s := s.setGang n { s.gang n with preempt := none }
    if s.gstate n = stSaved then
      let s := { s with pwr := { s.pwr with resumes := s.pwr.resumes ++ [(n, if late then least else t)] } }
      if late then s.wr F.PRE_STAT_RLATE 1 else s
    else s) s

/-- RESUME, R429. -/
def execResume (qp : QpId) (s : State) : Out := .next (s.resumeQp qp)

/-- R431: DISCARD ends a queue pair's pre-empted work. -/
def State.discard (s : State) (q : Nat) : State :=
  if s.preempted q = false then s else
  let sites := s.sitesOfQp q
  let saved := sites.filter (fun n => s.gstate n == stSaved)
  let s := ((s.qp q).fetched.filter (·.paused)).foldl
    (fun (s : State) (d : Desc) =>
      let s := ((s.openOf q).filter (fun k => decide (s.rd F.MMU_FLOG0_ORIGIN k ≤ 1) && s.rd F.MMU_FLOG1_CID k == d.cid)).foldl
        (fun (s : State) (k : Nat) => s.setSlot k flClosed) s
      ({ s with mmuq := s.mmuq.filter (fun m => !(decide (m.origin ≤ 1) && m.unit == q && m.idx == d.idx)) }).endTransfer q d
        stPreempted 0) s
  let s := saved.foldl (fun (s : State) (n : Nat) => (s.setGang n { s.gang n with pinEnd := s.now }).haltGang n false 0) s
  let s := { s with
    runs := s.runs.map (fun (r : StepRun) =>
      if r.qp == q && r.started && r.sites.any saved.contains && r.sites.all (fun (n : Nat) => r.ended.any (fun (e : Nat × Nat) => e.1 == n)) then
        { r with ended := r.ended.map (fun (e : Nat × Nat) => if saved.contains e.1 then (e.1, 4) else e) }
      else r)
    pwr := { s.pwr with resumes := s.pwr.resumes.filter (fun e => !saved.contains e.1) } }
  let s := sites.foldl (fun (s : State) (n : Nat) => s.setGang n { s.gang n with preempt := none }) s
  (s.setPreempt q false).wr F.QP_STAT_PRE 0 q

/-- DISCARD, R431. -/
def execDiscard (qp : QpId) (s : State) : Out := .next (s.discard qp)

end Sys2Proof.Machine
end

