-- ==== Sys2Proof/Machine/LoadRows.lean ====
section
/-! DEFINITION. The meanings of the commands that descriptors carry (R391 to R396, R529, R538, R539): each row takes its
descriptor one stage further: checked, held, data moved, carried out, completed. -/

namespace Sys2Proof.Machine

open Sys2Proof

/-! ### Stages of a descriptor -/

/-- Whether a pod that a load names belongs to a running gang (R25). -/
def State.podsRun (s : State) (d : Desc) : Bool := d.pods.any s.podRuns

/-- R539: a command of the steward is at work. -/
def Desc.steward (d : Desc) : Bool := d.opc == 16 || d.opc == 17 || d.opc == 18
def State.trustBusy (s : State) : Bool := s.descsStarted.any (fun d => d.steward && !d.held)

/-- The tables of TBL_LOAD (R395): entry size, number of entries, whether per pod; no size for a reserved TYPE. -/
def tblSize (ty : Nat) : Nat := match ty with | 1 => 128 | 2 => 64 | 3 => 64 | 4 => 16 | 5 => 16 | 6 => 32 | 7 => 32 | _ => 0
def tblCount (ty : Nat) : Nat := match ty with | 1 => 64 | 2 => 16 | 3 => 1 | 4 => 64 | 5 => 128 | 6 => 256 | 7 => 512 | _ => 0
def tblPods (ty : Nat) : Bool := decide (1 ≤ ty ∧ ty ≤ 4)
def Desc.ty (d : Desc) : Nat := d.f 8 3 0
def Desc.share (d : Desc) : Bool := d.f 8 4 4 == 1
def Desc.nent (d : Desc) : Nat := d.f 12 9 0 + 1

/-- R25, R395, R539: what a started load or command of the steward waits for. -/
def State.blockedBy (s : State) (d : Desc) : Bool :=
  if d.opc = 3 then (if d.ty = 5 then s.anyRuns else tblPods d.ty && s.podsRun d)
  else if d.opc = 4 ∨ d.opc = 5 ∨ d.opc = 7 then s.podsRun d
  else if d.opc = 16 then s.anyRuns
  else false

/-- The next place among held commands of the steward (R539). -/
def State.nextPlace (s : State) : Nat := s.descsStarted.foldl (fun (m : Nat) (e : Desc) => if e.steward then max m (e.first + 1) else m) 1

/-- A descriptor is held under R25 or R539. -/
def State.hold (s : State) (q : Nat) (d : Desc) : State :=
  s.putDesc q { d with held := true, first := if d.steward && d.first == 0 then s.nextPlace else d.first }

/-- One stage of a descriptor: `check` its fields (R388), then `begin` it once nothing holds it (R25), then go on. -/
def State.advance (s : State) (qp cid opc : Nat) (check : State → Desc → Nat) (begin_ go : Desc → State → State) : State :=
  match s.start qp cid opc with
  | none => s
  | some (d, s) =>
    if d.held then s
    else if d.accepted then go d s
    else
      let why := check s d
      if why ≠ 0 then s.endDesc qp d stBad 0 0 why
      else if s.blockedBy d = true
          ∨ (d.steward = true ∧ d.first = 0 ∧ s.descsStarted.any (fun e => e.steward && !e.held && (e.accepted || e.first != 0)) = true) then
        s.hold qp d
      else begin_ d s

/-- A descriptor begins to move so many bytes (or granules). -/
def State.begins (s : State) (q : Nat) (d : Desc) (total : Nat) : State := s.putDesc q { d with accepted := true, total := total }

/-- The data of a load is read, and carried out once it is whole and nothing holds it (R25, R421). -/
def State.moveThen (s : State) (q : Nat) (d : Desc) (walk : Walk) (carry : Desc → State → State) : State :=
  if d.moved < d.total then s.readChunk q d walk
  else if s.blockedBy d then s.hold q d
  else carry d s

/-- HELD_LOAD_RELEASE, R25, R426, R539: what held a load has ended, and its queue pair is not pre-empted. -/
def execHeldLoadRelease (qp : QpId) (cid : Nat) (s : State) : Out :=
  .next (match s.desc qp cid with
    | none => s
    | some d =>
      if d.started = false ∨ d.held = false ∨ s.blockedBy d = true ∨ s.preempted qp = true then s
      else if d.steward = true ∧ (s.trustBusy = true
          ∨ s.descsStarted.any (fun e => e.steward && e.held && decide (e.first < d.first)) = true) then s
      else s.putDesc qp { d with held := false })

/-! ### TBL_LOAD -/

/-- R395: the fields of a TBL_LOAD. -/
def tblCheck (_ : State) (d : Desc) : Nat :=
  let n := tblCount d.ty
  if n = 0 then dRange
  else if tblPods d.ty = false ∧ d.f 24 255 0 ≠ 0 then dMustZero
  else if d.f 8 24 16 + d.nent > n then dRange
  else if d.f 8 5 5 = 1 ∧ (d.ty ≠ 2 ∨ d.nent ≠ 1) then dRange
  else 0

/-- The entries of a load's data for its i-th pod. -/
def Desc.entries (d : Desc) (i : Nat) : List (List Nat) :=
  let size := tblSize d.ty
  let base := if d.share then 0 else i * d.nent * size
  (List.range d.nent).map (fun k => (d.data.drop (base + k * size)).take size)

/-- R236: a STREAM entry loaded while its slot's feed runs joins it at the oldest granule still in staging (assumption 170). -/
def State.boundAt (s : State) (x : SegX) (pod : Nat) : SegX :=
  if x.kind = kdStream ∧ s.on F.STRM_CFG_EN x.slot = true then
    { x with got := s.delivered x.slot, head := s.delivered x.slot * s.unitsPerGranule pod x }
  else x

/-- Entries of a per-pod table are written (R108, R222, R395). -/
def State.writeTable (s : State) (ty pod first : Nat) (es : List (List Nat)) : State :=
  (List.range es.length).foldl (fun (s : State) (k : Nat) =>
    let b := es.getD k []
    let x := s.pod pod
    let at_ := first + k
    if ty = 1 then
      let s := s.setPod pod { x with tsets := Store.put id (fun _ => none) x.tsets at_ (some (tsetOf b)) }
      if at_ < 32 then s.wr F.POD_TIM_LOADED_LO_LOADED_LO (withBit (s.rd F.POD_TIM_LOADED_LO_LOADED_LO pod) at_) pod
      else s.wr F.POD_TIM_LOADED_HI_LOADED_HI (withBit (s.rd F.POD_TIM_LOADED_HI_LOADED_HI pod) (at_ - 32)) pod
    else if ty = 2 then s.setPod pod { x with lsets := Store.put id (fun _ => none) x.lsets at_ (some (lsetOf b)) }
    else if ty = 3 then
      s.setPod pod { x with deskew := (List.range 4).foldl (fun (m : NStore Deskew) (i : Nat) =>
        m.set {} i (deskewOf (b.drop (16 * i)))) x.deskew, deskewed := true }
    else s.setSeg pod at_ (s.boundAt (segOf b) pod)) s

/-- Whether a per-pod table's entries pass their check (R67, R107, R118, R223); 6 for an entry LOADING or ACTIVE. -/
def State.tableWhy (s : State) (ty pod first : Nat) (es : List (List Nat)) : Nat :=
  if ty = 4 then
    if (List.range es.length).any (fun k => let st := (s.seg pod (first + k)).st; st == sgLoading || st == sgActive) then dState
    else if s.segTableOk pod first es then 0 else dData
  else if es.all (fun b => if ty = 1 then tsetOk b else if ty = 2 then lsetOk b else deskewOk b) then 0 else dData

/-- R14: a pod that has left its site without joining another is idle: its drivers are at high impedance, its compares are off. -/
def State.idlePods (s : State) (old : List Nat) : State :=
  (old.filter (fun p => (s.siteOfPod p).isNone)).foldl (fun (s : State) (p : Nat) =>
    (pinsOfPod p).foldl (fun (s : State) (q : Nat) =>
      s.setPin q { s.pin q with drvNow := 0, drv := [], cmp := [], hist := [], lg := [], logOn := false }) s) s

/-- Interval and PMU setup entries, and the site map (R14, R290, R316, R396). -/
def State.writeShared (s : State) (ty first : Nat) (es : List (List Nat)) : State :=
  let old := s.sitesDefined.flatMap s.podsOf
  let s := (List.range es.length).foldl (fun (s : State) (k : Nat) =>
    let b := es.getD k []
    let at_ := first + k
    if ty = 5 then { s with siteMap := Store.put id (fun _ => none) s.siteMap at_ (siteOf b) }
    else if ty = 6 then { s with iuSetup := Store.put id (fun _ => none) s.iuSetup at_ (some (iuSetupOf b)) }
    else { s with pmuSetup := Store.put id (fun _ => none) s.pmuSetup at_ (some (pmuSetupOf b)) }) s
  if ty = 5 then s.idlePods old else s

/-- R291, R317, R396: the checks of those. -/
def State.sharedWhy (s : State) (ty first : Nat) (es : List (List Nat)) : Nat :=
  if ty = 5 then
    if es.all siteEntryOk && s.mapOk (s.mapAfter first es) then (if s.mapForbidden first es then dState else 0) else dData
  else if es.all (fun b => if ty = 6 then iuSetupOk b else pmuSetupOk b) then 0 else dData

/-- R395: a whole TBL_LOAD is carried out, or fails and writes nothing. -/
def State.tblCarry (s : State) (q : Nat) (d : Desc) : State :=
  let first := d.f 8 24 16
  if tblPods d.ty then
    let ps := d.pods
    let idx := List.range ps.length
    let why := idx.foldl (fun (w : Nat) (i : Nat) => if w ≠ 0 then w else s.tableWhy d.ty (ps.getD i 0) first (d.entries i)) 0
    if why ≠ 0 then s.endDesc q d stBad 0 0 why
    else
      let s := idx.foldl (fun (s : State) (i : Nat) => s.writeTable d.ty (ps.getD i 0) first (d.entries i)) s
      let s := if d.f 8 5 5 = 1 then ps.foldl (fun (s : State) (p : Nat) => s.applyLevels p first) s else s
      s.endDesc q d stOk 0 (d.nent * ps.length) 0
  else
    let why := s.sharedWhy d.ty first (d.entries 0)
    if why ≠ 0 then s.endDesc q d stBad 0 0 why
    else (s.writeShared d.ty first (d.entries 0)).endDesc q d stOk 0 d.nent 0

/-- TBL_LOAD, R395. -/
def execTblLoad (qp : QpId) (cid : Nat) (walk : Walk) (s : State) : Out :=
  .next (s.advance qp cid 3 tblCheck
    (fun d s => s.begins qp d (tblSize d.ty * d.nent * (if tblPods d.ty && !d.share then d.pods.length else 1)))
    (fun d s => s.moveThen qp d walk (fun d s => s.tblCarry qp d)))

/-! ### SEG_LOAD, REFILL, POOL_LOAD -/

/-- R230, R393: an entry that is undefined, of KIND STREAM, LOADING or ACTIVE in a named pod; WRACT for the last two. -/
def State.segBars (s : State) (d : Desc) (k : Nat) : Bool :=
  d.pods.any (fun p => let x := s.seg p k; x.st == sgUndef || x.kind == kdStream || x.st == sgLoading || x.st == sgActive)
def State.noteWract (s : State) (d : Desc) (k : Nat) : State :=
  d.pods.foldl (fun (s : State) (p : Nat) =>
    let x := s.seg p k
    if x.st = sgLoading ∨ x.st = sgActive then s.wr F.ENG_PM_STAT_WRACT 1 p else s) s

/-- Bytes from host memory written into an entry. -/
def State.bytesIn (s : State) (pod : Nat) (x : SegX) (b : List Nat) : State :=
  { s with segMem := s.segMem.writeBytes (granuleAddr pod x 0) b }

/-- SEG_LOAD carried out (R228, R393): each pod's entry takes its data, and all become READY together. -/
def State.segCarry (s : State) (q : Nat) (d : Desc) : State :=
  let k := d.f 8 5 0
  let share := d.f 8 6 6 == 1
  let r := d.pods.foldl (fun (r : State × Nat) (p : Nat) =>
    let x := r.1.seg p k
    let n := 512 * x.len
    let s := (r.1.bytesIn p x ((d.data.drop (if share then 0 else r.2)).take n)).setSeg p k { x with st := sgReady, cls := 0 }
    (s.pulse 0x09 p x.len, r.2 + n)) (s, 0)
  r.1.endDesc q d stOk 0 0 0

/-- SEG_LOAD, R393. -/
def execSegLoad (qp : QpId) (cid : Nat) (walk : Walk) (s : State) : Out :=
  .next (s.advance qp cid 4 (fun _ _ => 0)
    (fun d s =>
      let k := d.f 8 5 0
      if s.segBars d k then (s.noteWract d k).endDesc qp d stBad 0 0 dState
      else
        let lens := d.pods.map (fun p => 512 * (s.seg p k).len)
        let total := if d.f 8 6 6 = 1 then lens.foldl max 0 else lens.sum
        let s := d.pods.foldl (fun (s : State) (p : Nat) =>
          let x := s.seg p k
          s.setSeg p k { x with st := sgLoading, cls := 5 }) s
        s.begins qp d total)
    (fun d s => if d.moved < d.total then s.readChunk qp d walk else s.segCarry qp d))

/-- REFILL, R393: the entry is written from the pool in every named pod; the entries become READY together, but for those that a
pool error left FREE (R232). -/
def execRefill (qp : QpId) (cid : Nat) (s : State) : Out :=
  .next (s.advance qp cid 5 (fun _ _ => 0)
    (fun d s =>
      let k := d.f 8 5 0
      let src := d.f 12 15 0
      if s.segBars d k then (s.noteWract d k).endDesc qp d stBad 0 0 dState
      else if d.pods.any (fun p => decide (src + (s.seg p k).len > 65536)) then s.endDesc qp d stBad 0 0 dRange
      else (d.pods.foldl (fun (s : State) (p : Nat) => s.startLoad p k src 6) s).begins qp d 0)
    (fun d s =>
      let k := d.f 8 5 0
      let load (p : Nat) : Bool := (s.seg p k).st == sgLoading
      if d.pods.any (fun p => load p && (decide (s.bestClass p < 4)
          || s.poolBad.any (fun g => decide ((s.seg p k).src ≤ g ∧ g < (s.seg p k).src + (s.seg p k).len)))) then s
      else
        let free := (d.pods.filter (fun p => (s.seg p k).st == sgFree)).length
        let s := (d.pods.filter load).foldl (fun (s : State) (p : Nat) => s.finishLoad p k) s
        s.endDesc qp d stOk 0 free 0))

/-- Whether the remaining reloads of a CONSUME entry read a granule (R228, R231). -/
def SegX.reloads_ (x : SegX) (g : Nat) : Bool :=
  x.st != sgUndef && x.consume && decide (0 < x.rem) && decide (x.src ≤ g) &&
    (if x.adv = 0 then decide (g < x.src + x.len)
     else
      let hi := min x.rem ((g - x.src) / x.adv)
      let lo := max 1 ((g + 1 - x.src - x.len + x.adv - 1) / x.adv)
      decide (lo ≤ hi))

/-- R231, R242: whether a pool granule is pinned: the source of a load, in the remaining reloads of a running gang's entry, in
the staging range of an enabled stream slot (but one). -/
def State.pinned (s : State) (g : Nat) (but : Option Nat) : Bool :=
  s.pods.any (fun e => e.2.segs.any (fun k =>
      (k.2.st == sgLoading && k.2.cls != 5 && k.2.kind != kdStream && decide (k.2.src ≤ g ∧ g < k.2.src + k.2.len))
        || (s.podRuns e.1 && k.2.reloads_ g)))
    || (List.range 16).any (fun t => but != some t && s.on F.STRM_CFG_EN t
        && decide (s.rd F.STRM_CFG_STAGE_BASE t ≤ g ∧ g < s.rd F.STRM_CFG_STAGE_BASE t + s.stageLen t))

/-- R231: the granules of a POOL_LOAD that have arrived whole are written, which clears their errors. -/
def State.poolIn (s : State) (q : Nat) (d : Desc) : State :=
  let n := d.moved / 512
  let pg := d.f 8 15 0
  let s := { s with
    poolMem := s.poolMem.writeBytes (512 * (pg + d.first)) ((d.data.drop (512 * d.first)).take (512 * (n - d.first)))
    poolBad := s.poolBad.filter (fun g => !(decide (pg + d.first ≤ g ∧ g < pg + n))) }
  s.putDesc q { d with first := n }

/-- POOL_LOAD, R231, R391. -/
def execPoolLoad (qp : QpId) (cid : Nat) (walk : Walk) (s : State) : Out :=
  .next (s.advance qp cid 6
    (fun _ d => let n := d.f 12 16 0; if n = 0 ∨ n > 65536 ∨ d.f 8 15 0 + n > 65536 then dRange else 0)
    (fun d s =>
      let pg := d.f 8 15 0
      let n := d.f 12 16 0
      if (List.range n).any (fun i => s.pinned (pg + i) none) then (s.wr F.POOL_STAT_PINNED 1).endDesc qp d stBad 0 0 dPinned
      else s.begins qp d (512 * n))
    (fun d s =>
      let s := s.poolIn qp d
      let d := { d with first := d.moved / 512 }
      if d.moved < d.total then s.readChunk qp d walk else s.endDesc qp d stOk 0 0 0))

/-! ### UCODE_LOAD -/

/-- The rollback counters and revoked slots now (R533). -/
def State.fwcnt (s : State) : Nat := max Config.otpFwcnt.val s.rst.fwcnt
def State.uccnt (s : State) : Nat := max Config.otpUccnt.val s.rst.uccnt
def State.revokedNow (s : State) : Nat := Nat.lor Config.otpRevoked.toNat s.rst.revoked

/-- R189: an image is installed in a pod. -/
def State.install (s : State) (b : List Nat) (p : Nat) : State :=
  let mode := num b 6 1
  let im := imageOf b
  let s := s.setPod p { s.pod p with image := { im with nano := if mode = 1 then im.nano else [] } }
  let s := ((s.wr F.ENG_UIMG_IMG_ID (num b 12 4) p).wr F.ENG_UINFO_NUOPS (imgNuops b) p).wr F.ENG_UINFO_NNANO (imgNnano b) p
  let s := (s.wr F.ENG_USVN_SVN (num b 16 2) p).wr F.ENG_USTAT_MODE mode p
  (s.wr F.ENG_USTAT_NANO_OK (ofBool (mode = 1)) p).wr F.ENG_USTAT_USER 1 p

/-- UCODE_LOAD, R188, R189. -/
def execUcodeLoad (qp : QpId) (cid : Nat) (walk : Walk) (s : State) : Out :=
  .next (s.advance qp cid 7 (fun _ _ => 0)
    (fun d s => s.begins qp d (d.f 8 31 0))
    (fun d s => s.moveThen qp d walk (fun d s =>
      let b := d.data
      if imageOk b = false then s.endDesc qp d stBad 0 0 dData
      else
        let code := authCode s.revokedNow true b (imgSpan b) (num b 16 2) s.uccnt
        if code ≠ 0 then s.endDesc qp d stAuth 0 0 code
        else (d.pods.foldl (fun (s : State) (p : Nat) => s.install b p) s).endDesc qp d stOk 0 0 0)))

/-! ### STREAM, CAP_UPLOAD, LEDG_DRAIN -/

/-- STREAM, R237, R391, R394, R424: the descriptor joins its slot's feed, and completes once its granules have reached every bound
pod. -/
def execStream (qp : QpId) (cid : Nat) (walk : Walk) (s : State) : Out :=
  .next (s.advance qp cid 8
    (fun s d =>
      let t := d.f 8 3 0
      if s.on F.STRM_CFG_EN t = false ∨ s.rd F.STRM_CFG_QP t ≠ qp.val ∨ s.on F.QP_CFG_FRES qp = false then dState else 0)
    (fun d s =>
      let t := d.f 8 3 0
      let first := (s.feedDescs t).foldl (fun (m : Nat) (e : Nat × Desc) => max m (e.2.first + e.2.total)) (s.strm t).fed
      s.begins qp { d with first := first } (d.f 12 15 0 + 1))
    (fun d s =>
      let t := d.f 8 3 0
      if d.moved = d.total ∧ s.delivered t ≥ d.first + d.total then
        s.endDesc qp d (if (s.strm t).unders.any (fun g => decide (d.first ≤ g ∧ g < d.first + d.total)) then stUnderrun else stOk) d.total 0 0
      else s.readChunk qp d walk))

/-- CAP_UPLOAD, R272. -/
def execCapUpload (qp : QpId) (cid : Nat) (walk : Walk) (s : State) : Out :=
  .next (s.advance qp cid 9 (fun _ d => if d.f 12 31 0 % 8 ≠ 0 then dRange else 0)
    (fun d s =>
      let p := d.f 8 7 0
      s.begins qp d (s.wholeRecs p (s.rd F.CAP_RD_OFFSET p) (min (d.f 12 31 0) (s.capFill p)) (s.capFill p / 8 + 1)))
    (fun d s =>
      let p := d.f 8 7 0
      if d.moved < d.total then s.writeChunk qp d (s.ringRead p (s.rd F.CAP_RD_OFFSET p + d.moved) (chunkLen d.at_ d.left)) walk
      else
        let s := s.endUpload p d.moved
        s.endDesc qp d stOk d.moved (s.capRdNow p) 0))

/-- Ledger bytes from an entry on, round the end of the ledger. -/
def State.ledgBytes (s : State) (a n : Nat) : List Nat :=
  let a := a % 2 ^ 21
  let k := min n (2 ^ 21 - a)
  s.ledgMem.read a k ++ s.ledgMem.read 0 (n - k)

/-- LEDG_DRAIN, R284. -/
def execLedgDrain (qp : QpId) (cid : Nat) (walk : Walk) (s : State) : Out :=
  .next (s.advance qp cid 10 (fun _ d => let n := d.f 12 16 0; if n = 0 ∨ n > 65536 then dRange else 0)
    (fun d s => s.begins qp d (32 * min (d.f 12 16 0) s.ledgFill))
    (fun d s =>
      if d.moved < d.total then s.writeChunk qp d (s.ledgBytes (32 * s.rd F.LEDG_RD_INDEX + d.moved) (chunkLen d.at_ d.left)) walk
      else
        let s := s.endDrain d.moved
        s.endDesc qp d stOk (d.moved / 32) s.ledgRdNow 0))

/-! ### SNAPSHOT and STEP_RUN -/

/-- R56 to R58: a slot is armed for a target. -/
def State.armSnap (s : State) (k : Nat) (t : Stamp) (desc : Option (Nat × Nat)) : State :=
  let t := tickOf t
  let least := after s.now 1500
  let late := sooner t s.now 1500
  (s.setSnap k { at_ := some (if late then least else t), late := late, desc := desc }).wr F.WT_SNAP_CTL_ARM 1 k

/-- SNAPSHOT, R56: the descriptor takes the lowest-numbered free slot. -/
def execSnapshot (qp : QpId) (cid : Nat) (s : State) : Out :=
  .next (s.advance qp cid 11 (fun _ _ => 0)
    (fun d s =>
      match (List.range 4).find? (fun k => !s.on F.WT_SNAP_CTL_ARM k) with
      | none => s.endDesc qp d stBad 0 0 dNoSlot
      | some k => (s.begins qp d 0).armSnap k (BitVec.ofNat 64 (d.f 16 63 0)) (some (qp.val, d.idx)))
    (fun _ s => s))

/-- R392: the fields of a STEP_RUN. -/
def State.stepCheck (s : State) (d : Desc) : Nat :=
  let sites := bitsSet 128 (d.f 24 127 0)
  if sites.isEmpty ∨ sites.any (fun n => (s.site n).isNone) = true
      ∨ s.runs.any (fun r => !r.sites.all (fun (n : Nat) => r.ended.any (fun (e : Nat × Nat) => e.1 == n) || s.gstate n == stHusk)
          && r.sites.any sites.contains) = true then dRange
  else 0

/-- STEP_RUN, R392: accepted; the named sites that are no husks are armed for its start tick. -/
def execStepRun (qp : QpId) (cid : Nat) (s : State) : Out :=
  .next (match s.start qp cid 2 with
    | none => s
    | some (d, s) =>
      if d.accepted then s
      else
        let why := s.stepCheck d
        if why ≠ 0 then s.endDesc qp d stBad 0 0 why
        else
          let sites := bitsSet 128 (d.f 24 127 0)
          let t := tickOf (BitVec.ofNat 64 (d.f 16 63 0))
          let s := s.putDesc qp { d with started := false, accepted := true }
          let s := { s with
            runs := s.runs ++ [{ qp := qp.val, cid := d.cid, entry := d.f 8 21 0, rprof := d.f 8 23 22, stepNo := d.f 12 11 0,
                                 startT := t, sites := sites, checked := false, started := false, ended := [], lastT := t }] }
          let s := sites.foldl (fun (s : State) (n : Nat) => if s.gstate n = stHusk then s else s.setGstate n stArmed) s
          s.settleQ qp 17)

/-! ### The steward's commands -/

/-- R529, R532: a firmware image has passed: the steward switches to it. -/
def State.runImage (s : State) (b : List Nat) (src : Nat) : State :=
  let span := 64 + num b 8 4
  let s := (s.wr F.TRUST_STAT_FWSRC src).wr F.TRUST_STAT_KEYSLOT (imageSlot b span)
  let s := (s.wr F.TRUST_FWID_IMG_ID (num b 12 4)).wr F.TRUST_FWSVN_SVN (num b 16 2)
  { s with rst := { s.rst with fwDigest := Config.sha3 (b.take span) } }

/-- The first check of R532 that a firmware image fails; 0 where it passes. -/
def State.fwCode (s : State) (b : List Nat) : Nat :=
  authCode s.revokedNow (fwOk b) b (64 + num b 8 4) (num b 16 2) s.fwcnt

/-- FW_LOAD, R524, R529, R532, R539. -/
def execFwLoad (qp : QpId) (cid : Nat) (walk : Walk) (s : State) : Out :=
  .next (s.advance qp cid 16 (fun _ _ => 0)
    (fun d s => s.begins qp d (d.f 8 31 0))
    (fun d s => s.moveThen qp d walk (fun d s =>
      let b := d.data
      let code := s.fwCode b
      if code ≠ 0 then s.endDesc qp d stAuth 0 0 code
      else
        let s := s.runImage b 2
        let s := if s.rd F.RST_STAT_STAGE = 14 then { s with rst := { s.rst with fwKept := true } } else s
        s.endDesc qp d stOk (num b 12 4) (num b 16 2) 0)))

/-- R535, R539: bytes of the MTP sections that must be 0. -/
def mtpZero (a : Nat) : Bool :=
  decide (0x1048 ≤ a ∧ a ≤ 0x107F) || decide (0x10C8 ≤ a ∧ a ≤ 0x10FF) || decide (0x1148 ≤ a ∧ a ≤ 0x11FF)

/-- R519, R535: the pulse of a row begins; it ends with the row written, if its verify passes. -/
def State.pulseRow (s : State) (row : Nat) (b : List Nat) : State :=
  { s with rst := { s.rst with pulse := some { row := row, bytes := b } } }
def State.endPulse (s : State) (verified : Bool) : State :=
  match s.rst.pulse with
  | none => s
  | some p =>
    { s with
      mtpMem := if verified then s.mtpMem.writeBytes p.row p.bytes else s.mtpMem
      rst := { s.rst with pulse := none } }

/-- MTP_WRITE, R539: rows are programmed in ascending order, each by one pulse that begins at one command and ends at the next,
which says whether the row verified. -/
def execMtpWrite (qp : QpId) (cid : Nat) (walk : Walk) (verified : Bool) (s : State) : Out :=
  .next (s.advance qp cid 17
    (fun s d =>
      let off := d.f 8 15 0
      let len := d.f 12 15 0
      if off % 64 ≠ 0 ∨ len % 64 ≠ 0 ∨ off < 0x1000 ∨ off + len > 0x1200 then dRange
      else if s.on F.TRUST_STAT_MTPLOCK then dState else 0)
    (fun d s => (s.putDesc qp { d with accepted := true, total := d.f 12 15 0, first := 0 }))
    (fun d s =>
      let off := d.f 8 15 0
      if d.moved < d.total then s.readChunk qp d walk
      else if d.first = 0 ∧ (List.range d.total).any (fun i => mtpZero (off + i) && d.data.getD i 0 != 0) = true then
        s.endDesc qp d stBad 0 0 dData
      else if 64 * d.first ≥ d.total then s.endDesc qp d stOk d.first 0 0
      else
        match s.rst.pulse with
        | none => if s.rst.deferred then s else s.pulseRow (off + 64 * d.first) ((d.data.drop (64 * d.first)).take 64)
        | some p =>
          if p.row < 0x1000 ∨ s.rst.deferred = true then s
          else
            let s := s.endPulse verified
            if verified = false then (s.detect 50 0 p.row).endDesc qp d stAborted d.first 0 0x20
            else if 64 * (d.first + 1) ≥ d.total then s.endDesc qp d stOk (d.first + 1) 0 0
            else s.putDesc qp { d with first := d.first + 1 }))

/-- R538: the attestation report. -/
def State.report (s : State) (nonce : List Nat) : List Nat :=
  let uc := (List.range 256).flatMap (fun p =>
    toBytes 4 (s.rd F.ENG_UIMG_IMG_ID p) ++ toBytes 2 (s.rd F.ENG_USVN_SVN p) ++ toBytes 1 (s.rd F.ENG_USTAT_MODE p) ++ [0])
  let part := toBytes 4 0x54415452 ++ toBytes 2 1 ++ toBytes 2 s.dev
    ++ toBytes 8 Config.otpUid.toNat ++ toBytes 4 (s.rd F.GLB_ID_PART * 65536 + s.rd F.GLB_ID_REV * 256) ++ toBytes 4 Config.romVersion.toNat
    ++ toBytes 4 (s.rd F.TRUST_FWID_IMG_ID) ++ toBytes 2 (s.rd F.TRUST_FWSVN_SVN) ++ toBytes 1 (s.rd F.TRUST_STAT_FWSRC)
    ++ toBytes 1 (s.rd F.TRUST_STAT_KEYSLOT + 16 * s.revokedNow) ++ toBytes 1 s.fwcnt ++ toBytes 1 s.uccnt
    ++ toBytes 2 (s.rd F.RST_STAT_STRAP) ++ toBytes 4 (s.rd F.RST_MAP_MAP * 4 + s.rd F.RST_MAP_POR) ++ toBytes 8 s.now.toNat
    ++ (nonce ++ List.replicate 32 0).take 32
    ++ (if s.rd F.TRUST_STAT_FWSRC = 0 then Config.romDigest else s.rst.fwDigest) ++ Config.sha3 uc
  let head := (part ++ List.replicate 256 0).take 256
  let body := head ++ (Config.identityKey ++ List.replicate 2592 0).take 2592
  body ++ (Config.identityCert ++ List.replicate 4627 0).take 4627 ++ (Config.identitySign (Config.sha3 body) ++ List.replicate 4627 0).take 4627
    ++ [0, 0]

/-- ATTEST, R538, R539. -/
def execAttest (qp : QpId) (cid : Nat) (walk : Walk) (s : State) : Out :=
  .next (s.advance qp cid 18 (fun _ d => if d.f 8 31 0 < 12104 then dRange else 0)
    (fun d s => s.putDesc qp { d with accepted := true, total := 12104, data := s.report (toBytes 32 (d.f 24 255 0)) })
    (fun d s =>
      if d.moved < d.total then s.writeChunk qp d (d.data.drop d.moved) walk else s.endDesc qp d stOk 12104 0 0))

end Sys2Proof.Machine
end

