-- ==== Sys2Proof/Machine/RunRows.lean ====
section
/-! DEFINITION. The meanings of the ready check, the start, the completion and the restart of a STEP_RUN's gangs (R24, R29, R30,
R135, R178, R258, R349, R426, R429, R476, R481). -/

namespace Sys2Proof.Machine

open Sys2Proof

/-- The STEP_RUN of a descriptor. -/
def State.run (s : State) (q cid : Nat) : Option StepRun := s.runs.find? (fun r => r.qp == q && r.cid == cid)

/-- A STEP_RUN ends before it starts: its engines return to IDLE, its descriptor completes. -/
def State.refuseRun (s : State) (r : StepRun) (status detail : Nat) : State :=
  let s := s.withdraw r.qp r.cid
  match (s.qp r.qp).fetched.find? (fun d => d.cid == r.cid && d.accepted) with
  | none => s
  | some d => s.endDesc r.qp d status 0 0 detail

/-- The sites that a STEP_RUN would start: those named that are no husks. -/
def State.startable (s : State) (r : StepRun) : List Nat := r.sites.filter (fun n => s.gstate n != stHusk)

/-- R24, R309: whether a STEP_RUN is ready: descriptors before it have completed, its entry's segment can be fetched in every
engine, no pin die of its sites calibrates past T − 2 µs, the device is ACTIVE. -/
def State.runReady (s : State) (r : StepRun) : Bool :=
  let by_ := after r.startT (2 ^ 54 - 2 * tUs)
  let idx := (((s.qp r.qp).fetched.find? (fun d => d.cid == r.cid && d.accepted)).map (·.idx)).getD 0
  let seg := (PAddr.ofNum r.entry).seg
  (s.qp r.qp).fetched.all (fun d => decide (idx ≤ d.idx))
    && (s.startable r).all (fun n => (s.podsOf n).all (fun p => (s.seg p seg).fetchable))
    && (s.startable r).all (fun n => match (s.die (dieOfPod (s.lead n))).calEnd with
        | some t => decide (ahead t by_ ≤ 0)
        | none => true)
    && s.power == 0

/-- R481: the domains over the limit of their level, as a mask. -/
def State.overLimit (s : State) (r : StepRun) : Nat :=
  ((List.range 4).filter (fun k =>
    let lvl := s.rd F.THM_DOM_LEVEL k
    let lim := if lvl = 1 then s.rd F.THM_LIM_L1 else if lvl = 2 then s.rd F.THM_LIM_L2 else s.rd F.THM_LIM_L3
    let inDom (n : Nat) : Bool := dieOfPod (s.lead n) == k
    lvl != 0 && decide ((s.sitesDefined.filter (fun n => inDom n && s.running n)).length
      + ((s.startable r).filter inDom).length > lim))).foldl (fun (m : Nat) (k : Nat) => m + 2 ^ k) 0

/-- R476: whether the projected power exceeds the budget. -/
def State.overBudget (s : State) (r : StepRun) : Bool :=
  let w := s.rd F.PWR_BUDGET_SITEW
  w != 0 && decide (10 * s.rd F.PWR_EST_EST + (s.startable r).length * w > 10 * s.rd F.PWR_BUDGET_BUDGET)

/-- R24, R135: the engines of a site begin to fetch for a step. The registers go on showing the last step's vector position and
engine state until the start. -/
def State.prepare (s : State) (r : StepRun) (n : Nat) : State :=
  let s := if (s.gang n).rewindDue then (s.podsOf n).foldl (fun (s : State) (p : Nat) => s.rewindPod p) s else s
  let old := s.gang n
  s.setGang n {
    startT := r.startT
    stepNo := r.stepNo
    pinEnd := r.startT
    main := { pc := PAddr.ofNum r.entry, nextDisp := s.now }
    before := some (s.vposShown n, old.main.cpu)
    prep := true }

/-- STEP_RUN_READY_CHECK, R24, R476, R481: at T − 2 µs. -/
def execStepRunReadyCheck (qp : QpId) (cid : Nat) (s : State) : Out :=
  .next (match s.run qp cid with
    | none => s
    | some r =>
      let by_ := after r.startT (2 ^ 54 - 2 * tUs)
      if r.checked = true ∨ reached by_ s.now = false then s
      else if ahead by_ s.now < 0 ∨ s.runReady r = false then s.refuseRun r stTimeout 0
      else
        let mask := s.overLimit r
        let budget := s.overBudget r
        if mask ≠ 0 ∨ budget = true then
          let s := if budget then (s.wr F.PWR_GSTAT_REFUSED 1).raise 2140 1 [0] s.now else s
          s.refuseRun r stThermal (mask + (if budget then 16 else 0))
        else
          let s := { s with runs := s.runs.map (fun (e : StepRun) => if e = r then { e with checked := true } else e) }
          (s.startable r).foldl (fun (s : State) (n : Nat) => s.prepare r n) s)

/-- R135: the state of a started site. -/
def State.resetSite (s : State) (n : Nat) : State :=
  let s := ((s.wr F.SITE_PSTAT_FAIL 0 n).wr F.SITE_FCOUNT_FCOUNT 0 n).wr F.SITE_TAGRES_TAGRES 0 n
  let s := (s.wr F.SITE_FFPOS_LO_FFPOS_LO (2 ^ 32 - 1) n).wr F.SITE_FFPOS_HI_FFPOS_HI (2 ^ 16 - 1) n
  let s := ((s.wr F.SITE_PSTAT_MTO 0 n).wr F.SITE_PSTAT_WLATE 0 n).wr F.SITE_PSTAT_ETO 0 n
  let s := (s.wr F.SITE_PSTAT_BTO 0 n).wr F.SITE_PSTAT_AWGLOST 0 n
  let s := s.wr F.SITE_VVAL_VVALID 0xF000 n
  (List.range 4).foldl (fun (s : State) (k : Nat) => s.setGc n k 0) s

/-- R258: a pod's STEP record, and its fail counts and map cleared. -/
def State.stepRecord (s : State) (n : Nat) (start : Stamp) (p : Nat) : State :=
  let words := [8 * 2 ^ 60 + n * 2 ^ 32 + s.rd F.WT_EPOCH_EPOCH, start.toNat]
  let x := s.pod p
  let s := s.setPod p { x with stepq := x.stepq ++ [CapRec.mk 8 4 start words (s.rd F.WT_EPOCH_EPOCH) s.jumps], firstCnt := 0 }
  let s := (List.range 4).foldl (fun (s : State) (i : Nat) => s.wr F.CAP_PFC_PFC 0 p i) s
  let s := s.wr F.CAP_STAT_FIRSTDONE 0 p
  { s with capMem := s.capMem.clear (4096 * s.rd F.CAP_PART_BASE p) (4096 * s.mapUnits p) }

/-- R349: rail profile RPROF is applied to the rails of a started site. -/
def State.applyProfile (s : State) (n prof : Nat) : State :=
  let s := ((s.openWindow n 2 false).wakeRecovery n)
  let rails := s.railsOf n
  let tgt (r : Nat) : Nat := s.rd F.RAIL_PROF_TARGET r prof
  let slew (r : Nat) : Nat := s.rd F.RAIL_PROF_SLEW r prof
  let acts := (rails.filter (fun r => tgt r != 0xFFFF)).map (fun r => (r, railTarget (tgt r), s.slewOf r (slew r)))
  let s := rails.foldl (fun (s : State) (r : Nat) =>
    let s := (s.setRail r { s.rail r with exit := s.on F.RAIL_PROF_EXIT r prof, profSlew := slew r }).wr F.RAIL_STAT_PROF prof r
    if tgt r = 0xFFFF ∨ tgt r = 0 then s else s.wr F.RAIL_SET_TARGET (tgt r) r) s
  (s.rampSite n acts).refreshArm n

/-- R135, R178, R258, R349: a site of a STEP_RUN starts; a husk leaves a FENCED entry stamped with the start tick (R29). -/
def State.startSite (s : State) (r : StepRun) (n : Nat) : State :=
  if s.gstate n = stHusk then
    ((s.setGang n { s.gang n with stepNo := r.stepNo, devEntry := false }).deviceEntry n 2 0 (s.rd F.LEDG_BINS_FENCED) r.startT).siteEnded n 2
  else
    let ps := s.podsOf n
    let s := s.resetSite n
    let s := s.wrAll F.ENG_STAT_ERR 0 ps
    let dec := s.decTable n
    let g := s.gang n
    let s := s.setGang n { g with
      started := true
      capLoss := false
      before := none
      dec := dec
      flights := g.flights.map (fun (f : Flight) => if f.left = 2 then { f with dec := Store.get (fun _ => none) dec (vwTset f.vw) } else f) }
    let s := s.setGstate n stRun
    let s := g.used.foldl (fun (s : State) (a : PAddr) => s.touch n a) s
    let s := ps.foldl (fun (s : State) (p : Nat) => s.stepRecord n r.startT p) s
    let s := s.applyProfile n r.rprof
    match s.imageMismatch n with
    | none => s.settle n
    | some p =>
      let g := s.gang n
      let s := s.setGang n { g with oq := [], seb := [], ckpts := [], sprout := none, flights := [], prep := true }
      (s.engineErr n .main erUmismatch 0 (PAddr.ofNum r.entry) p).settle n

/-- GANG_START, R135: at the start tick of a STEP_RUN that has passed its check. -/
def execGangStart (qp : QpId) (cid : Nat) (s : State) : Out :=
  .next (match s.run qp cid with
    | none => s
    | some r =>
      if r.checked = false ∨ r.started = true ∨ reached r.startT s.now = false then s
      else if s.preempted qp then s.refuseRun r stPreempted 0
      else
        let s := { s with runs := s.runs.map (fun (e : StepRun) => if e = r then { e with started := true } else e) }
        let s := match (s.qp qp).fetched.find? (fun d => d.cid == r.cid && d.accepted) with
          | some d => s.putDesc qp { d with started := true }
          | none => s
        r.sites.foldl (fun (s : State) (n : Nat) => s.startSite r n) s)

/-- STEP_RUN_COMPLETION, R30, R283, R391, R406, R431. -/
def execStepRunCompletion (qp : QpId) (cid : Nat) (s : State) : Out :=
  .next (match s.run qp cid with
    | none => s
    | some r =>
      let how (k : Nat) : Nat := (r.ended.filter (fun e => e.2 == k)).length
      let done := r.started && r.sites.all (fun (n : Nat) => r.ended.any (fun (e : Nat × Nat) => e.1 == n))
        && s.ledgq.all (fun (e : LEnt) => !r.sites.contains e.site)
      if done = false then s
      else
        let status := if s.safe then stSafe else if how 4 > 0 then stPreempted else if how 2 = 0 then stOk
          else if how 2 = r.sites.length then stFenced else stPartial
        let s := { s with runs := s.runs.erase r }
        match (s.qp qp).fetched.find? (fun d => d.cid == r.cid && d.accepted) with
        | none => s
        | some d => s.endDesc qp d status r.lastT.toNat (how 1 + how 4 + 256 * how 2 + 65536 * how 3) 0)

/-- GANG_RESTART, R429: a saved gang reloads its context, and its next vector starts at the tick its RESUME gave. -/
def execGangRestart (site : SiteId) (s : State) : Out :=
  let n := site.val
  .next (match s.pwr.resumes.find? (fun e => e.1 == n) with
    | none => s
    | some e =>
      let s := { s with pwr := { s.pwr with resumes := s.pwr.resumes.erase e } }
      if s.gstate n ≠ stSaved then s
      else
        let g := s.gang n
        ((s.setGang n { g with
          preempt := none
          noGap := true
          pinEnd := e.2
          main := { g.main with nextDisp := s.slotted n (later g.main.nextDisp s.now) g.main.dispT } }).setGstate n stRun).settle n)

end Sys2Proof.Machine
end

