-- ==== Sys2Proof/Machine/StreamRows.lean ====
section
/-! DEFINITION. The meanings of the stream commands (R236 to R242). -/

namespace Sys2Proof.Machine

open Sys2Proof

/-- The descriptor that holds the next granule of a slot's feed. -/
def State.nextFeed (s : State) (t : Nat) : Option (Nat × Desc) :=
  (s.feedDescs t).find? (fun e => e.2.accepted && e.2.first + e.2.moved == (s.strm t).fed && decide (e.2.moved < e.2.total))

/-- STREAM_GRANULE_FETCH, R237: the next granule of a slot's feed is read, and goes into staging once it is whole; none does in
the safe state (R506). -/
def execStreamGranuleFetch (strm : StrmId) (walk : Walk) (s : State) : Out :=
  let t := strm.val
  .next (if s.safe then s else match s.nextFeed t with
    | none => s
    | some (q, d) =>
      if d.data.length < 512 then s.readChunk q d walk
      else
        let x := s.strm t
        let s := { s with poolMem := s.poolMem.writeBytes (512 * s.stageAt t x.fed) (d.data.take 512) }
        let s := (s.setStrm t { x with fed := x.fed + 1 }).wr F.STRM_FED_FED (s.rd F.STRM_FED_FED t + 1) t
        (s.putDesc q { d with moved := d.moved + 1, data := [] }).wr F.STRM_STAT_BLOCK 0 t)

/-- STREAM_GRANULE_DELIVER, R237, R238, R245: the next granule is copied from staging into a bound pod's window, except in the
safe state (R506). -/
def execStreamGranuleDeliver (strm : StrmId) (pod : PodId) (s : State) : Out :=
  let t := strm.val
  .next (match (s.bound t).find? (fun e => e.1 == pod.val) with
    | none => s
    | some (p, k) =>
      let x := s.seg p k
      if s.safe = true ∨ s.streamFree p k = false ∨ s.bestClass p < 2 then s
      else
        let b := s.poolMem.read (512 * s.stageAt t x.got) 512
        let s := { s with segMem := s.segMem.writeBytes (granuleAddr p x (x.got % max 1 x.len)) b }
        let st := if x.st = sgFree ∨ x.st = sgLoading then sgReady else x.st
        (s.setSeg p k { x with got := x.got + 1, st := st, cls := 0 }).pulse 0x09 p)

/-- STREAM_UNDERRUN, R240: a fetch that waits for a granule of its stream has reached its deadline. -/
def execStreamUnderrun (pod : PodId) (s : State) : Out :=
  .next (match s.siteOfPod pod with
    | none => s
    | some n =>
      match (s.gang n).cross with
      | none => s
      | some c => if c.strm = true ∧ s.urDue n c = true then s.underrun n c else s)

/-- R241: whether a cause of STRM_STAT.BLOCK stops a slot's feed now. -/
def State.feedStops (s : State) (t cause : Nat) : Bool :=
  let pending := s.feedDescs t
  if cause = 1 then pending.all (fun e => e.2.moved == e.2.total)
  else if cause = 2 then pending.any (fun e => e.2.faulted)
  else if cause = 3 then s.preempted (s.rd F.STRM_CFG_QP t)
  else if cause = 4 then !s.anchor && s.hostOpen == false
  else cause == 5 && decide (s.staged t ≥ s.stageLen t)

/-- STREAM_FEED_STOP, R241. In the safe state BLOCK keeps its last cause (R506). -/
def execStreamFeedStop (strm : StrmId) (cause : Nat) (s : State) : Out :=
  .next (if s.on F.STRM_CFG_EN strm && !s.safe && s.feedStops strm cause then s.wr F.STRM_STAT_BLOCK cause strm else s)

/-- R242: a write of STRM_CFG. -/
def State.writeStrmCfg (s : State) (t v : Nat) : State :=
  let old := s.on F.STRM_CFG_EN t
  let base := bits v 15 0
  let len := max 3 (bits v 23 16) + 1
  let fields (s : State) : State :=
    ((s.wr F.STRM_CFG_QP (bits v 29 24) t).wr F.STRM_CFG_STAGE_M1 (bits v 23 16) t).wr F.STRM_CFG_STAGE_BASE base t
  if (s.bound t).any (fun e => s.podRuns e.1) then s.wr F.STRM_STAT_BUSY 1 t
  else if old && !hasBit v 31 then fields (s.streamOff t none)
  else if !old && hasBit v 31 then
    if base + len > 65536 ∨ (List.range len).any (fun i => s.pinned (base + i) (some t)) = true then s.wr F.STRM_STAT_STAGEBAD 1 t
    else (((fields s).wr F.STRM_CFG_EN 1 t).wr F.STRM_FED_FED 0 t).setStrm t {}
  else fields s

/-- STRM_CFG_WRITE, R242. -/
def execStrmCfgWrite (strm : StrmId) (value : BitVec 32) (s : State) : Out := .next (s.writeStrmCfg strm value.toNat)

end Sys2Proof.Machine
end

