-- ==== Sys2Proof/Machine/FaultOps.lean ====
section
/-! DEFINITION. The fault collector (R490 to R505) and the safe state (R506, R507): records, reactions, L3 resets, entry. -/

namespace Sys2Proof.Machine

open Sys2Proof

/-! ### Sources -/

/-- The kind of unit a source names, in the codes of UKIND (R490 to R492, R496). -/
def sourceKind (i : Nat) : Nat :=
  if i < 128 then
    if 11 ≤ i ∧ i ≤ 16 then 1
    else if 32 ≤ i ∧ i ≤ 43 then 4
    else if 44 ≤ i ∧ i ≤ 46 then 5
    else 0
  else
    let j := (i - 128) % 64
    if j = 6 ∨ j = 7 ∨ j = 11 then 1 else if j = 8 ∨ j = 9 then 2 else if j = 10 then 3 else 6

/-- The die code of a source (R490). -/
def sourceDie (i : Nat) : Nat := if i < 128 then 0 else 1 + (i - 128) / 64

/-- Whether a unit is an instance of a source's kind (R503). -/
def validUnit (i unit : Nat) : Bool :=
  let k := (i - 128) / 64
  match sourceKind i with
  | 1 => if i < 128 then decide (unit < 256) else dieOfPod unit == k && decide (unit < 256)
  | 2 => dieOfRail unit == k && decide (unit < 128)
  | 3 => dieOfWave unit == k && decide (unit < 32)
  | 4 => decide (unit < 4)
  | 5 => decide (unit < 64)
  | 6 => unit == k
  | _ => true

/-- Whether a reaction is allowed for a kind of unit (R493). -/
def reactionOk (kind react : Nat) : Bool :=
  match react with
  | 0 => true
  | 1 => true
  | 2 => kind == 1 || kind == 3 || kind == 6
  | 3 => kind == 1 || kind == 2
  | 4 => kind == 2 || kind == 6
  | 5 => kind == 4
  | 6 => true
  | _ => false

/-! ### L3 resets -/

/-- The registers of a pod that an L3 reset of it clears (R255). -/
def capFlags : List Reg := [.CAP_WR, .CAP_RD, .CAP_STAT, .CAP_PFC, .CAP_LOST, .CAP_FILL]

/-- The SITE program registers (R163). -/
def siteProg : List Reg :=
  [.SITE_PSTAT, .SITE_FCOUNT, .SITE_FFPOS_LO, .SITE_FFPOS_HI, .SITE_VPOS_LO, .SITE_VPOS_HI, .SITE_TAGRES, .SITE_VVAL, .SITE_V]

/-- R190: a pod is left with no user image. -/
def State.noImage (s : State) (p : Nat) : State :=
  let s := s.setPod p { s.pod p with image := {} }
  [F.ENG_UIMG_IMG_ID, F.ENG_UINFO_NUOPS, F.ENG_UINFO_NNANO, F.ENG_USVN_SVN, F.ENG_USTAT_MODE, F.ENG_USTAT_NANO_OK,
    F.ENG_USTAT_USER].foldl (fun (s : State) (f : Fld) => s.wr f 0 p) s

/-- The image loads in progress, with their queue pairs. -/
def State.imageLoads (s : State) : List (Nat × Desc) :=
  (List.range 64).flatMap (fun q =>
    ((s.qp q).fetched.filter (fun d => d.opc == 7 && d.started && !d.held)).map (fun d => (q, d)))

/-- R190: a reset of a pod that arrives during an image load leaves every pod that the load names without one; the load ends
(DESIGN CHOICE: with ABORTED, assumption 172). -/
def State.cutLoads (s : State) (p : Nat) : State :=
  (s.imageLoads.filter (fun e => e.2.pods.contains p)).foldl (fun (s : State) (e : Nat × Desc) =>
    (e.2.pods.foldl (fun (s : State) (p : Nat) => s.noImage p) s).finish e.1 e.2 stAborted 0 0 0) s

/-- An L3 reset of a pod: R64 (DRV_EN, drivers, loads), R255 (its capture), R321 (its PMU paths), R338 (an output that it
hosts). -/
def State.resetPod (s : State) (p : Nat) : State :=
  let s := s.cutLoads p
  let s := (pinsOfPod p).foldl (fun (s : State) (q : Nat) =>
    let s := (s.wr F.PIN_CFG_DRV_EN 0 q).forceDrv q 0
    let s := s.setPin q { s.pin q with loadMode := 0 }
    if s.pmuConn q then s.pmuOpen q else s) s
  let s := s.resetRegs .l2 (fun k => capFlags.contains k.reg && k.i == p)
  let x := s.pod p
  let s := s.setPod p { x with efifo := [], failq := [], stepq := [], losses := [], refStamp := 0, refEpoch := 0, refJump := 0, firstCnt := 0, above := false }
  let s := { s with capMem := s.capMem.clear (4096 * s.rd F.CAP_PART_BASE p) (4096 * s.mapUnits p) }
  (List.range 32).foldl (fun (s : State) (w : Nat) =>
    if s.on F.AWG_CFG_HOSTV w ∧ s.rd F.AWG_CFG_HOST w = p then s.faultMute w else s) s

/-- R362: a site becomes a husk with cause FAULT. -/
def State.faultHusk (s : State) (n : Nat) (stamp : Stamp) (stands : Bool := false) : State :=
  (s.wr F.SITE_FSTAT_FAULT 1 n).makeHusk n stamp stands

/-- An L3 reset of a rail (R370): it is turned off, and its site becomes a husk. -/
def State.resetRail (s : State) (r : Nat) (stamp : Stamp) : State :=
  match s.siteOfRail r with
  | some n => s.faultHusk n stamp
  | none => s.tripRail r

/-- An L3 reset of a site's program registers (R163, R493). -/
def State.resetProg (s : State) (n : Nat) : State :=
  let s := s.resetRegs .l2 (fun k => siteProg.contains k.reg && k.i == n)
  s.setGang n { s.gang n with
    evcnt := [], vMeas := [], vEnd := [], tagD := [], tagSeq := [], vpos := 0, flights := [], before := none }

/-! ### Reactions -/

/-- R501: whether a parity error that a source reports has already halted a site's gang. -/
def State.halted (s : State) (src n : Nat) : Bool := (src == 13 || src == 14) && s.gstate n == stError

/-- A fence comes into force (R500). -/
def State.addFence (s : State) (src kind unit : Nat) : State :=
  if s.fences.contains (FenceIn.mk src kind unit) then s else { s with fences := s.fences ++ [FenceIn.mk src kind unit] }

/-- FENCE_POD of a pod (R493). -/
def State.fencePod (s : State) (src p : Nat) (stamp : Stamp) : State :=
  let s := s.addFence src 1 p
  let s := match s.siteOfPod p with
    | some n => s.faultHusk n stamp (s.halted src n)
    | none => s
  s.resetPod p

/-- FENCE_RAIL of a rail (R493). -/
def State.fenceRail (s : State) (src r : Nat) (stamp : Stamp) : State := (s.addFence src 2 r).resetRail r stamp

/-- A pin die fenced whole (R493): every pod and every rail of it. -/
def State.fenceDie (s : State) (src k : Nat) (stamp : Stamp) : State :=
  let s := s.addFence src 6 k
  let s := (s.sitesOfDie k).foldl (fun (s : State) (n : Nat) => s.faultHusk n stamp) s
  let s := ((List.range 64).map (fun i => 64 * k + i)).foldl (fun (s : State) (p : Nat) => s.resetPod p) s
  ((List.range 32).map (fun i => 32 * k + i)).foldl (fun (s : State) (r : Nat) =>
    if (s.siteOfRail r).isNone then s.tripRail r else s) s

/-- FENCE_SITE of the site of a pod or rail (R493): its registers reset once its entry has their values. -/
def State.fenceSite (s : State) (src n : Nat) (stamp : Stamp) : State :=
  let ps := s.podsOf n
  let rs := s.railsOf n
  let s := ps.foldl (fun (s : State) (p : Nat) => s.addFence src 1 p) s
  let s := rs.foldl (fun (s : State) (r : Nat) => s.addFence src 2 r) s
  let s := s.faultHusk n stamp (s.halted src n)
  (ps.foldl (fun (s : State) (p : Nat) => s.resetPod p) s).resetProg n

/-- FENCE_PORT (R493): the port enters FENCED. -/
def State.fencePort (s : State) (src p : Nat) : State := ((s.addFence src 4 p).setPortSt p ptFenced).portLost p

/-! ### The safe state -/

/-- The words of FLT_FIRST and FLT_SECOND that an NV record carries (R536). -/
def State.recWords (s : State) (f : Fld) : List Nat := [0, 1, 4].flatMap (fun w => toBytes 4 (s.rd f w))

/-- An NV event record is decided on: its content is captured in the NV buffer (R520, R536). -/
def State.nvRecord (s : State) (ty : Nat) (stamp : Stamp) (payload : List Nat) : State :=
  { s with
    rst := { s.rst with
      nvq := s.rst.nvq ++ [NvRec.mk ty stamp (s.rd F.WT_EPOCH_EPOCH) (if s.on F.GLB_ROLE_NUMV then s.dev else 0) payload] } }

/-- A fetched descriptor completes with SAFE_STATE (R406, R506): a started transfer leaves what R421 gives; a started
STEP_RUN completes once its entries are visible. -/
def State.safeDesc (s : State) (q idx : Nat) : State :=
  match (s.qp q).fetched.find? (fun d => d.idx == idx) with
  | none => s
  | some d =>
    if d.opc = 2 ∧ d.started = true then s
    else if d.started = true ∧ (movesData d.opc = true ∨ d.opc = 5) ∧ d.held = false then
      let s := ((s.openOf q).filter (fun k => decide (s.rd F.MMU_FLOG0_ORIGIN k ≤ 1) && s.rd F.MMU_FLOG1_CID k == d.cid)).foldl
        (fun (s : State) (k : Nat) => s.setSlot k flClosed) s
      ({ s with mmuq := s.mmuq.filter (fun m => !(decide (m.origin ≤ 1) && m.unit == q && m.idx == d.idx)) }).endTransfer q d stSafe 0
    else
      let s := { s with
        runs := s.runs.filter (fun (r : StepRun) => !(d.opc == 2 && r.qp == q && r.cid == d.cid && !r.started))
        snaps := s.snaps.map (fun (e : Nat × SnapX) => if e.2.desc = some (q, idx) then (e.1, { e.2 with desc := none }) else e) }
      s.endDesc q d stSafe 0 0 0

/-- R506, R507: entry to the safe state with a cause: 1 a reaction, 2 the collector, 3 shutdown, 4 software. -/
def State.enterSafe (s : State) (cause : Nat) : State :=
  if s.safe then s else
  let s := (((s.wr F.FLT_SAFE_ACTIVE 1).wr F.FLT_STAT_SAFE 1)).wr F.FLT_SAFE_CAUSE cause
  let s := { s with safeX := { s.safeX with since := s.now, byCollector := cause == 2 } }
  let s := s.sitesDefined.foldl (fun (s : State) (n : Nat) => s.faultHusk n s.now) s
  let s := (List.range 32).foldl (fun (s : State) (w : Nat) => s.faultMute w) s
  let s := (List.range 64).foldl (fun (s : State) (q : Nat) =>
    ((s.qp q).fetched.map (·.idx)).foldl (fun (s : State) (i : Nat) => s.safeDesc q i) s) s
  if cause = 3 then s
  else s.nvRecord 1 s.now (s.recWords F.FLT_FIRST_REC ++ s.recWords F.FLT_SECOND_REC ++ toBytes 2 (s.rd F.FLT_SECCNT_COUNT)
    ++ toBytes 1 cause)

/-! ### Records -/

/-- The reaction of a fault is carried out (R493). -/
def State.react (s : State) (f : FaultIn) (react : Nat) : State :=
  let kind := sourceKind f.src
  let u := f.unit
  match react with
  | 2 => if kind = 6 then s.fenceDie f.src u f.stamp
         else if kind = 3 then (if s.on F.AWG_CFG_HOSTV u then s.fencePod f.src (s.rd F.AWG_CFG_HOST u) f.stamp else s)
         else s.fencePod f.src u f.stamp
  | 3 => if kind = 2 then
           (match s.siteOfRail u with | some n => s.fenceSite f.src n f.stamp | none => s.fenceRail f.src u f.stamp)
         else (match s.siteOfPod u with | some n => s.fenceSite f.src n f.stamp | none => s.fencePod f.src u f.stamp)
  | 4 => if kind = 6 then s.fenceDie f.src u f.stamp else s.fenceRail f.src u f.stamp
  | 5 => s.fencePort f.src u
  | 6 => s.enterSafe 1
  | _ => s

/-- The eight words of a fault record (R496). -/
def faultWords (f : FaultIn) (sev react seq : Nat) : List Nat :=
  [2 ^ 31 + sourceKind f.src * 2 ^ 28 + (if sourceKind f.src = 0 then 0 else f.unit % 256) * 2 ^ 20 + sourceDie f.src * 2 ^ 16
    + ofBool f.forced * 2 ^ 14 + sev * 2 ^ 12 + react * 2 ^ 9 + f.src,
   f.detail % 2 ^ 32, loWord f.stamp.toNat, hiWord f.stamp.toNat, seq, 0, 0, 0]

/-- Eight words are written to FLT_FIRST or FLT_SECOND. -/
def State.putRecWords (s : State) (f : Fld) (ws : List Nat) : State :=
  (List.range 8).foldl (fun (s : State) (w : Nat) => s.wr f (ws.getD w 0) w) s

/-- The per-source sequence number of a fault record (R50, R496), and the state with the next. -/
def State.faultSeq (s : State) (i : Nat) : Nat × State :=
  let q := s.seqs.at 0 (4096 + i)
  (q, { s with seqs := s.seqs.set 0 (4096 + i) ((q + 1) % 65536) })

/-- R495: the pending bit, the count and the live cause of a source. -/
def State.markFault (s : State) (f : FaultIn) (sev react : Nat) : State :=
  let j := f.src / 32
  let b := f.src % 32
  let s := (s.wr F.FLT_PEND_PEND (withBit (s.rd F.FLT_PEND_PEND j) b) j).bump F.FLT_CNT_COUNT 1 f.src
  let s := { s with safeX := { s.safeX with sevs := s.safeX.sevs.set 0 f.src (if react = 0 then 0 else sev + 1) } }
  if f.forced = false ∧ s.live.any (fun e => e.1 == f.src) = true then
    s.wr F.FLT_CAUSE_CAUSE (withBit (s.rd F.FLT_CAUSE_CAUSE j) b) j
  else s

/-- R495 to R498: a fault is taken: pending bit and count, its record, its summary event, its reaction. -/
def State.takeFault (s : State) (f : FaultIn) : State :=
  if (faultFactory f.src).isNone then s else
  let sev := s.rd F.FLT_SRC_SEV f.src
  let react := s.rd F.FLT_SRC_REACT f.src
  let s := s.markFault f sev react
  if react = 0 then s else
  let (q, s) := s.faultSeq f.src
  let ws := faultWords f sev react q
  let s := if s.on F.FLT_STAT_FIRSTV = false then (s.putRecWords F.FLT_FIRST_REC ws).wr F.FLT_STAT_FIRSTV 1
    else if s.on F.FLT_STAT_SECONDV = false then (s.putRecWords F.FLT_SECOND_REC ws).wr F.FLT_STAT_SECONDV 1
    else s.bump F.FLT_SECCNT_COUNT 1
  let s := s.raise (2144 + f.src / 6) f.src [join (ws.getD 0 0) (ws.getD 1 0)] f.stamp
  s.react f react

/-- The order in which faults are taken: by tick, then by severity, the highest first, then by source (R499). -/
def State.faultBefore (s : State) (a b : FaultIn) : Bool :=
  let sa := s.rd F.FLT_SRC_SEV a.src
  let sb := s.rd F.FLT_SRC_SEV b.src
  if a.stamp ≠ b.stamp then decide (ahead a.stamp b.stamp < 0)
  else if sa ≠ sb then decide (sb < sa) else decide (a.src < b.src)

/-- A fault put in its place among others. -/
def State.insertFault (s : State) (f : FaultIn) : List FaultIn → List FaultIn
  | [] => [f]
  | g :: t => if s.faultBefore f g then f :: g :: t else g :: s.insertFault f t

/-- Whether the collector runs: on the engine die, once it has left reset (R521, R600). -/
def State.collectorRuns (s : State) : Bool :=
  decide (3 ≤ s.rd F.RST_STAT_STAGE) && s.rd F.RST_STAT_STAGE != 15 && s.on F.GLB_UNITS_ECLK_LOCK || s.safe

/-- R499: every fault that waits at the collector is taken. -/
def State.takeFaults (s : State) : State :=
  let fs := s.faultq.foldl (fun (l : List FaultIn) (f : FaultIn) => s.insertFault f l) []
  fs.foldl (fun (s : State) (f : FaultIn) => s.takeFault f) { s with faultq := [] }

/-- R504: writing ones to FLT_PEND[j]: the bits whose cause does not hold clear, and with them the fences they hold. -/
def State.clearPend (s : State) (j v : Nat) : State :=
  (bitsSet 32 v).foldl (fun (s : State) (b : Nat) =>
    if hasBit (s.rd F.FLT_CAUSE_CAUSE j) b then s.wr F.FLT_STAT_CLRBAD 1
    else
      let s := s.wr F.FLT_PEND_PEND (withoutBit (s.rd F.FLT_PEND_PEND j) b) j
      { s with
        fences := s.fences.filter (fun f => f.src != 32 * j + b)
        safeX := { s.safeX with sevs := s.safeX.sevs.set 0 (32 * j + b) 0 } }) s

/-- FAULT_N is driven low (R511, R523, R526): until the trims are committed, in BOOTFAIL, in the safe state, and for a pending
bit of a recorded severity at or above NSEV; with VDD_IO out of range it cannot be (R585). -/
def State.faultN (s : State) : Bool :=
  let st := s.rd F.RST_STAT_STAGE
  !s.badSup.contains (10, 4) &&
    (st == 1 || st == 2 || st == 15 || s.safe || s.safeX.sevs.any (fun e => decide (e.2 ≥ s.rd F.FLT_CTL_NSEV + 1)))

/-- The units under fence (R500, FLT_DEGR): ports, dies, rails, pods. -/
def State.degrPorts (s : State) : Nat :=
  (List.range 4).foldl (fun (v p : Nat) => if s.fences.any (fun f => f.kind == 4 && f.unit == p) then withBit v p else v) 0
def State.degrDies (s : State) : Nat :=
  (List.range 4).foldl (fun (v k : Nat) => if s.fences.any (fun f => f.kind == 6 && f.unit == k) then withBit v k else v) 0
def State.degrRails (s : State) : Nat := ((List.range 128).filter s.railFenced).length
def State.degrPods (s : State) : Nat := ((List.range 256).filter s.podFenced).length

end Sys2Proof.Machine
end

