-- ==== Sys2Proof/Machine/ResetOps.lean ====
section
/-! DEFINITION. Resets (R513 to R520): what each level reaches (R515), assertion, escalation, deferral; the MTP and NV rows
(R535 to R537). -/

namespace Sys2Proof.Machine

open Sys2Proof

/-! ### CRC-32 (R92) -/

/-- CRC-32 with the IEEE 802.3 polynomial, bit by bit, of a list of bytes. -/
def crcBits : Nat → Nat → Nat
  | 0, c => c
  | n + 1, c => crcBits n (if c % 2 = 1 then (c / 2) ^^^ 0xEDB88320 else c / 2)
def crc32 (b : List Nat) : Nat := (b.foldl (fun (c x : Nat) => crcBits 8 (c ^^^ (x % 256))) 0xFFFFFFFF) ^^^ 0xFFFFFFFF

/-! ### NV event record (R536, R537) -/

/-- A slot of the NV event record, as bytes; whether it is erased, whether it holds a valid record. -/
def State.nvSlot (s : State) (k : Nat) : List Nat := s.mtpMem.read (64 * k) 64
def nvErased (b : List Nat) : Bool := b.all (· == 0)
def nvBytes (b : List Nat) : List Nat := b.take 4 ++ [0xFF] ++ ((b.drop 5).take 55)
def nvValid (b : List Nat) : Bool := !nvErased b && num b 60 4 == crc32 (nvBytes b)

/-- The newest valid record: its SEQ leads every other by a signed 16-bit difference (R537). -/
def State.nvNewest (s : State) : Option Nat :=
  let valid := (List.range 64).filter (fun k => nvValid (s.nvSlot k))
  let seq (k : Nat) : Nat := num (s.nvSlot k) 2 2
  valid.find? (fun k => valid.all (fun j => j == k || decide ((seq k + 65536 - seq j) % 65536 < 32768)))

/-- The SEQ and the row of the record that is written next. -/
def State.nvNext (s : State) : Nat :=
  if s.on F.RST_NVSEL_NEWV then (num (s.nvSlot (s.rd F.RST_NVSEL_NEWEST)) 2 2 + 1) % 65536 else 0

/-- The 64 bytes of a record (R536). -/
def nvRow (r : NvRec) (seq : Nat) : List Nat :=
  let b := toBytes 1 r.ty ++ [1] ++ toBytes 2 seq ++ [0xFF, 0, 0, 0] ++ toBytes 8 r.stamp.toNat ++ toBytes 2 r.epoch
    ++ toBytes 1 r.dev ++ [0] ++ (r.payload ++ List.replicate 40 0).take 40
  b ++ toBytes 4 (crc32 b)

/-- A programming pulse begins for the next NV record, or for an acknowledgement that waits (R519, R537). -/
def State.startNv (s : State) : State :=
  if s.rst.pulse.isSome then s else
  match s.rst.nvq with
  | r :: _ => s.pulseRow (64 * (s.nvNext % 64)) (nvRow r s.nvNext)
  | [] =>
    if s.rst.ackDue && s.on F.RST_NVSEL_NEWV then
      let k := s.rd F.RST_NVSEL_NEWEST
      { s.pulseRow (64 * k) (s.nvSlot k |>.set 4 0) with rst := { (s.pulseRow (64 * k) (s.nvSlot k |>.set 4 0)).rst with ackDue := false } }
    else { s with rst := { s.rst with ackDue := false } }

/-- A pulse of an NV row ends (R519, R537); a row that fails its verify is written again. -/
def State.endNv (s : State) (verified : Bool) : State :=
  match s.rst.pulse with
  | none => s
  | some p =>
    if p.row ≥ 0x1000 then s
    else
      let s := s.endPulse verified
      let ack := p.bytes.getD 4 0 == 0
      if verified = false then (if ack then { s with rst := { s.rst with ackDue := true } } else s)
      else if ack then (if s.rd F.RST_NVSEL_NEWEST = p.row / 64 then s.wr F.RST_NVSEL_NEWACK 1 else s)
      else
        let s := { s with rst := { s.rst with nvq := s.rst.nvq.drop 1 } }
        ((s.wr F.RST_NVSEL_NEWV 1).wr F.RST_NVSEL_NEWACK 0).wr F.RST_NVSEL_NEWEST (p.row / 64)

/-! ### What a reset does -/

/-- Every driver goes to high impedance (R519). -/
def State.pinsOff (s : State) : State :=
  s.pins.foldl (fun (s : State) (e : Nat × PinX) => s.forceDrv e.1 0) s

/-- Rails and husks at a reset of a level (R370): L0 and L1 turn every pass device off, L2 ramps down every rail that is on;
husks and trip holds are cleared. -/
def State.railsReset (s : State) (lv : Nat) : State :=
  let s := (List.range 128).foldl (fun (s : State) (r : Nat) =>
    let st := s.railSt r
    let x := s.rail r
    if lv ≤ 1 then (s.setRail r { ipkFrom := s.now, smuxT := s.now }).wr F.RAIL_STAT_STATE rlOff r
    else
      let s := s.setRail r { x with wait := none, exit := false, toOff := false }
      if st = rlUp ∨ st = rlReg ∨ st = rlLimit then s.startDown r (s.slewOf r 0)
      else if st = rlTripped then s.wr F.RAIL_STAT_STATE rlOff r
      else s) s
  let s := (List.range 128).foldl (fun (s : State) (n : Nat) => s.wr F.SITE_FSTAT_HUSK 0 n) s
  s.pins.foldl (fun (s : State) (e : Nat × PinX) => s.setPin e.1 { s.pin e.1 with tripped := false }) s

/-- The registers of queue pairs, event rings and the fault log, which an L2 reset clears last (R405, R423). -/
def hqRegs : List Reg :=
  [.QP_SQB_LO, .QP_SQB_HI, .QP_CQB_LO, .QP_CQB_HI, .QP_CFG, .QP_IRQ, .QP_HEAD, .QP_STAT, .EVR_BASE_LO, .EVR_BASE_HI, .EVR_CFG,
   .EVR_IRQ, .EVR_TAIL, .EVR_STAT, .EVR_LOST, .EVT_CFG, .EVT_ROUTE, .MMU_STAT, .MMU_FIDX, .MMU_FLOG0, .MMU_FLOG1, .MMU_FLOG2,
   .MMU_FLOG3, .MMU_FLOG4, .MMU_FLOG5, .MMU_FLOG6]

/-- R405: every fetched descriptor completes with ABORTED, and no more are fetched. -/
def State.abortQueues (s : State) : State :=
  let s := { s with mmuq := [] }
  let s := (s.imageLoads.flatMap (·.2.pods)).foldl (fun (s : State) (p : Nat) => s.noImage p) s
  (List.range 64).foldl (fun (s : State) (q : Nat) =>
    let s := (s.qp q).fetched.foldl (fun (s : State) (d : Desc) => s.finish q d stAborted 0 0 0) s
    if s.qpState q = qsDisabled then s else s.wr F.QP_STAT_STATE qsHalted q) s

/-- R405, R423: queue state and the fault log are cleared; every queue pair and event ring is disabled. -/
def State.clearQueues (s : State) : State :=
  { s.resetRegs .l2 (fun k => hqRegs.contains k.reg) with qps := [], evrs := [], evq := [], mmuq := [], rr := 63, lastChunk := none }

/-- The hidden state of a pod and of a pin at a reset: L2 keeps tables, images, the prior drive value and the previous strobe
state (R75, R190, R515), and the settle timer and the eye measurement, whose SETTLING and EYE_BUSY are L1 (R70, R119). -/
def PodX.reset (x : PodX) (lv : Nat) : PodX :=
  if lv ≤ 1 then {}
  else
    { tsets := x.tsets, lsets := x.lsets, deskew := x.deskew, deskewed := x.deskewed, image := x.image
      settleEnd := x.settleEnd, settleRuns := x.settleRuns, settlePins := x.settlePins, eyeEnd := x.eyeEnd, eyePins := x.eyePins }
def PinX.reset (x : PinX) (lv : Nat) (now : Stamp) : PinX :=
  { raw := x.raw
    prev := if lv = 2 then x.prev else 3
    prior := x.prior && decide (lv = 2)
    filter := (if lv = 2 then x.filter else {}).restart now }

/-- What an L2 reset and every reset of greater reach does to engines, pattern pool, local stores, capture, streams,
measurements, outputs and filters (R515). -/
def State.resetWork (s : State) (lv : Nat) : State :=
  let s := s.pods.foldl (fun (s : State) (e : Nat × PodX) => s.setPod e.1 (e.2.reset lv)) s
  let s := s.pins.foldl (fun (s : State) (e : Nat × PinX) => s.setPin e.1 (e.2.reset lv s.now)) s
  let s := s.wrAll F.WT_SNAP_CTL_ARM 0 [0, 1, 2, 3]
  { s with
    gangs := [], sites := [], runs := [], ius := [], iuq := [], pmus := [], waves := [], strms := [], snaps := [], segMem := [],
    poolMem := [], poolBad := [], capMem := [], fRestart := s.now, pwr := { s.pwr with resumes := [] } }

/-- R600: live causes that an L1 or L0 reset itself ends, with the ports and the fabric (assumption 180); those that an L0 reset
ends besides, with the sensors and THM_STAT. -/
def fabricCause (i : Nat) : Bool := decide (32 ≤ i ∧ i ≤ 35) || decide (40 ≤ i ∧ i ≤ 43) || i == 45 || i == 47
def thermalCause (i : Nat) : Bool := decide (23 ≤ i ∧ i ≤ 25) || (decide (128 ≤ i) && (i - 128) % 64 == 3)

/-- What an L1 reset and an L0 reset do besides (R515, R571): tables, ledger, collector, queues, fabric, translation, steward.
AGE and TCOMP are L0, so the ramp of R38 and the updates of R37 go on. -/
def State.resetSystem (s : State) : State :=
  { s with
    siteMap := [], iuSetup := [], pmuSetup := [], dies := [], faultq := [], fences := [], safeX := {}, pmc := [],
    shd := [], tickAcc := 0, tickDie := 0, ledgMem := [], ledgq := [], ledgAbove := false, qps := [], evrs := [], evq := [],
    seqs := [], tlb := [], mmuq := [], rr := 63, lastChunk := none
    time := { ageNow := s.time.ageNow, ageT := s.time.ageT, tcompT := s.time.tcompT, wrapDue := s.time.wrapDue, refT := s.now }
    wm := {}, ports := [], fab := {}, d3hot := false,
    xings := [], shadowWr := [], svp := {}, trigs := [], pwr := {}, wakeAsk := 0, wake := none,
    live := s.live.filter (fun e => !fabricCause e.1)
    rst := { s.rst with
      fwKept := false, fwDigest := [], dies := 0, redetect := s.live.filter (fun e => !fabricCause e.1), wdWarned := false, dieN := 0
      dieT := none } }

/-- What an L0 reset does besides (R35, R515): wafer time, the parsnip, the NV buffer. -/
def State.resetAll (s : State) : State :=
  { s with
    now := 0, time := {}, rails := [], xwait := [], sensors := [], doms := [], jtag := {}, safePin := factorySafe, safeRail := factoryRail, safeWave := factoryWave,
    live := s.live.filter (fun e => !thermalCause e.1)
    rst := { s.rst with nvq := [], pulse := none, ackDue := false, redetect := s.rst.redetect.filter (fun e => !thermalCause e.1) } }

/-- R22: the role of a device after a reset at L1 or L0: an anchor is numbered and is the timing master. -/
def State.roleReset (s : State) : State :=
  let a := s.rd F.GLB_ROLE_ANCHOR
  let s := (s.wr F.GLB_ROLE_TMASTER a).wr F.GLB_ROLE_NUMV a
  if a = 1 then s.wr F.WT_STAT_SYNC 0 else s

/-- R515: a reset of a level acts. `count`: HQ_GEN counts it (R405). -/
def State.applyReset (s : State) (lv : Nat) (count : Bool) : State :=
  let s := s.pinsOff.railsReset lv
  let gen := s.rd F.HQ_GEN_GEN
  let s := if lv = 2 then s.abortQueues else s
  let s := s.resetWork lv
  let s := if lv = 0 then s.resetSystem.resetAll.resetRegs .l0 (fun _ => true)
    else if lv = 1 then s.resetSystem.resetRegs .l1 (fun _ => true)
    else s.resetRegs .l2 (fun k => !hqRegs.contains k.reg)
  let s := s.wr F.HQ_GEN_GEN (if lv = 0 then 1 else if count then (gen + 1) % 2 ^ 32 else gen)
  let s := if lv ≤ 1 then s.roleReset else s
  let s := if lv = 1 then s.wr F.RST_STAT_STAGE 3 else s
  s.wr F.RST_STAT_ASSERT (ofBool (s.rst.on != 0))

/-- The level that the reset map gives a source (R513, R514). -/
def State.srcLevel (s : State) (i : Nat) : Nat :=
  if i = 0 then 0
  else
    let c := bits (s.rd F.RST_MAP_MAP) (2 * i - 1) (2 * i - 2)
    if c < 3 then c else if i = 4 ∧ s.rd F.RST_CTL_LEVEL = 2 then 2 else 1

/-- Whether a pulse, or an NV record that is decided and not written, defers resets (R519, R520). -/
def State.pulsing (s : State) : Bool := s.rst.pulse.isSome || !s.rst.nvq.isEmpty

/-- R519: what a deferred reset does at once. -/
def State.deferReset (s : State) : State :=
  let s := { s with rst := { s.rst with deferred := true } }
  let s := (s.pinsOff.wr F.RST_STAT_DEFER 1).wr F.RST_STAT_ASSERT 1
  let s := (List.range 32).foldl (fun (s : State) (w : Nat) => s.faultMute w) s
  s.railsReset s.rst.level

/-- R519: a POR cuts a pulse short: what its row holds then is open. -/
def State.cutPulse (s : State) : State :=
  match s.rst.pulse with
  | none => s
  | some p =>
    let n := s.free
    { s with
      free := n + 1
      mtpMem := s.mtpMem.writeBytes p.row ((List.range 64).map (fun i => (Config.cutRow n i).toNat))
      rst := { s.rst with pulse := none } }

/-- R516: a reset source asserts. A source that the device ignores does nothing (R513); one of no greater reach than a reset that
holds already only joins it; in BOOTFAIL only one at L0 acts (R523). -/
def State.assertSrc (s : State) (i : Nat) : State :=
  if (i = 2 ∧ s.anchor = false) ∨ (i = 3 ∧ s.anchor = true) then s else
  let r := s.rst
  let lv := min r.level (s.srcLevel i)
  let holds := decide (r.seen ≠ 0) && decide (r.level ≤ lv) && !r.releasing
  let s := { s with
    rst := { r with on := withBit r.on i, seen := withBit r.seen i, level := lv, releasing := false } }
  let s := s.wr F.RST_STAT_ASSERT 1
  if s.rd F.RST_STAT_STAGE = 15 ∧ lv ≠ 0 then s
  else if i ≠ 0 ∧ s.pulsing = true then s.deferReset
  else if r.deferred ∧ i ≠ 0 then s
  else
    let s := if i = 0 then { s.cutPulse.wr F.RST_STAT_DEFER 0 with rst := { s.cutPulse.rst with deferred := false } } else s
    if holds then s else s.applyReset lv (r.seen == 0)

/-- A reset source deasserts (R516). -/
def State.deassertSrc (s : State) (i : Nat) : State :=
  let s := { s with rst := { s.rst with on := withoutBit s.rst.on i } }
  s.wr F.RST_STAT_ASSERT (ofBool (s.rst.on != 0))

/-! ### Safe codes -/

/-- Whether a safe-code section of MTP has its tag, version and CRC (R93, R337, R369). -/
def State.sectionOk (s : State) (base tag : Nat) : Bool :=
  let b := s.mtpMem.read base 72
  num b 0 2 == tag && num b 2 2 == 1 && num b 68 4 == crc32 (b.take 68)

/-- R92, R93, R337, R368, R369: the three sections are read, each whole or not at all. -/
def State.readSafe (s : State) : State :=
  let cell (a : Nat) : Nat := s.mtpMem.num a 2
  let s := if s.sectionOk 0x1000 0x5043 then
      { s with
        safePin := (List.range 28).map (fun i => cell (0x1004 + 16 * (i / 7) + 2 * (i % 7)) % 16384) }
    else ({ s with safePin := factorySafe }.wr F.GLB_SAFECODE_PIN_DEF 1).detect 6 0 0
  let s := if s.sectionOk 0x1080 0x5241 then
      { s with
        safeRail := (List.range 20).map (fun i => cell (0x1084 + 16 * (i / 5) + 2 * (i % 5)) % 1024) }
    else ({ s with safeRail := factoryRail }.wr F.GLB_SAFECODE_OTHER_DEF (withBit (s.rd F.GLB_SAFECODE_OTHER_DEF) 0)).detect 7 0 0
  if s.sectionOk 0x1100 0x5747 then
    { s with safeWave := (List.range 32).map (fun w => cell (0x1104 + 2 * w) % 16384) }
  else ({ s with safeWave := factoryWave }.wr F.GLB_SAFECODE_OTHER_DEF (withBit (s.rd F.GLB_SAFECODE_OTHER_DEF) 1)).detect 8 0 0

/-- R91, R337, R368: the safe codes stand in the DACs, thresholds, limits and idle codes. -/
def State.applySafe (s : State) : State :=
  let s := (List.range 128).foldl (fun (s : State) (r : Nat) =>
    let c (k : Nat) : Nat := s.safeRail.getD (5 * dieOfRail r + k) 0
    let s := (s.wr F.RAIL_VWIN_VLO (c 0) r).wr F.RAIL_VWIN_VHI (c 1) r
    ((s.wr F.RAIL_IWIN_ILO (c 2) r).wr F.RAIL_IWIN_IHI (c 3) r).wr F.RAIL_SET_ILIM (c 4) r) s
  let s := (List.range 32).foldl (fun (s : State) (w : Nat) =>
    let c := s.safeWave.getD w 0
    (s.wr F.AWG_IDLE_IDLE c w).setWave w { s.wave w with code := c }) s
  ((List.range 4).filter (fun k => (s.safePin.drop (7 * k)).take 7 != factorySafe.take 7)).foldl (fun (s : State) (k : Nat) =>
    let c (i : Nat) : Nat := s.safePin.getD (7 * k + i) 0
    ((List.range 256).map (fun i => 256 * k + i)).foldl (fun (s : State) (q : Nat) =>
      let s := ((s.wr F.PIN_LVL_A_VIH (c 0) q).wr F.PIN_LVL_A_VIL (c 1) q).wr F.PIN_LVL_B_VTT (c 2) q
      let s := ((s.wr F.PIN_LVL_B_VOH (c 3) q).wr F.PIN_LVL_C_VOL (c 4) q).wr F.PIN_LVL_C_ILOAD (c 5) q
      s.wr F.PIN_LVL_D_VCOM (c 6) q) s) s

end Sys2Proof.Machine
end

