-- ==== Sys2Proof/Machine/PowOps.lean ====
section
/-! DEFINITION. Power states (R468 to R474): target, holds, entry and wake; temperature domains (R480, R484); shutdown (R486). -/

namespace Sys2Proof.Machine

open Sys2Proof

def pwActive : Nat := 0
def pwGate : Nat := 1
def pwIdle : Nat := 2
def pwNap : Nat := 3
def pwDeep : Nat := 4

/-- Wake time of a state in ticks (R468). -/
def wakeTicks (st : Nat) : Nat :=
  if st = 0 then 0 else if st = 1 then 30 else if st = 2 then 22500 else if st = 3 then 600000 else 12000000

/-- The deepest state whose wake time a tolerance code allows (R404). -/
def tolDepth (c : Nat) : Nat := if c ≥ 216 then 4 else if c ≥ 168 then 3 else if c ≥ 117 then 2 else if c ≥ 12 then 1 else 0

/-- The device's latency tolerance code, if a queue pair in RUN or an outstanding descriptor gives one (R404, R470). -/
def State.tolerance (s : State) : Option Nat :=
  let qs := (List.range 64).flatMap (fun q =>
    let lat := s.rd F.QP_CFG_LAT q
    (if s.qpState q = qsRun then [lat] else []) ++
      (s.qp q).fetched.map (fun (d : Desc) => if d.f 4 8 8 = 1 then d.f 4 7 0 else lat))
  qs.foldl (fun (m : Option Nat) (c : Nat) => match m with | some k => some (min k c) | none => some c) none

/-- The wafer times of pending timed actions (R472). -/
def State.timed (s : State) : List Stamp :=
  (s.runs.filter (fun (r : StepRun) => !r.started)).map (·.startT)
    ++ (s.snaps.filter (fun (e : Nat × SnapX) => s.on F.WT_SNAP_CTL_ARM e.1)).filterMap (fun (e : Nat × SnapX) => e.2.at_)
    ++ s.pwr.resumes.map (·.2)

/-- The deepest state whose wake ends no later than T less 4 µs (R472). -/
def State.timedDepth (s : State) (t : Stamp) : Nat :=
  let left := ahead (t - ticks 6000) s.now
  let fits (st : Nat) : Bool := decide (left ≥ 1024 * (wakeTicks st : Int))
  if fits 4 then 4 else if fits 3 then 3 else if fits 2 then 2 else if fits 1 then 1 else 0

/-- The holds of R471 that are in force, each with the deepest state it allows, the lowest code first. A gang that is STOPPED
keeps its ENG_STAT.STATE (R182) and counts under 0x7, not under 0x1 (DEDUCED, assumption 178). -/
def State.holds (s : State) : List (Nat × Nat) :=
  let gangIn (l : List Nat) : Bool := s.sitesDefined.any (fun n => l.contains (s.gstate n))
  let halted (n : Nat) : Bool := s.on F.ENG_USTAT_STOPPED (s.lead n)
  let stopped := s.sitesDefined.any halted
  let active := s.sitesDefined.any (fun n => [stArmed, stRun, stWait, stBarrier].contains (s.gstate n) && !halted n)
  let descs := s.qps.any (fun (e : Nat × QpX) =>
    e.2.fetched.any (fun (d : Desc) => (d.started && (movesData d.opc || d.opc == 5)) || d.held))
  let railIn (l : List Nat) : Bool := (List.range 128).any (fun r => l.contains (s.railSt r))
  let h (on : Bool) (code st : Nat) : List (Nat × Nat) := if on then [(code, st)] else []
  List.flatten [
    h active 1 0,
    h descs 2 0,
    h (!s.iuq.isEmpty || s.ius.any (fun (e : Nat × IuX) => s.rd F.IU_STAT_STATE e.1 == 1) || !s.pmus.isEmpty
      || s.pins.any (fun (e : Nat × PinX) => s.pmuBusy e.1 || s.pmuConn e.1)) 3 0,
    h ((List.range 32).any (fun w => s.waveSt w != wvIdle)) 4 0,
    h (s.dies.any (fun (e : Nat × DieX) => e.2.recalEnd.isSome || e.2.calEnd.isSome)
      || s.pods.any (fun (e : Nat × PodX) => e.2.eyeEnd.isSome)) 5 0,
    h (railIn [rlUp, rlDown, rlLimit]) 6 0,
    h (stopped || gangIn [stSaved]) 7 1,
    h (railIn [rlReg]) 8 3,
    s.timed.map (fun (t : Stamp) => (9, s.timedDepth t))]

/-- R470, R471: the target state that some holds and a tolerance allow, before the hold of a member that waits for SLEEP. -/
def State.targetFrom (s : State) (hs : List (Nat × Nat)) (tol : Option Nat) : Nat :=
  let m := hs.foldl (fun (d : Nat) (e : Nat × Nat) => min d e.2) 4
  min m (min (min 4 (s.rd F.PWR_CTL_MAXDEPTH)) (match tol with | some c => tolDepth c | none => 4))

/-- Whether the hold of R471 on a member without SLEEP applies to its own target. -/
def State.sleepHold (s : State) (own : Nat) : Bool := own == 4 && !s.anchor && !s.fab.sleep

/-- R470: the target state. -/
def State.powTarget (s : State) : Nat :=
  let own := s.targetFrom s.holds s.tolerance
  if s.sleepHold own then 3 else own

/-- R471: the code of the hold that limits the target t, the lowest first; 0 where none does. -/
def State.holdCode (s : State) (hs : List (Nat × Nat)) (own t : Nat) : Nat :=
  if t = 4 then 0
  else
    match hs.find? (fun e => e.2 == t) with
    | some e => e.1
    | none => if s.sleepHold own then 10 else if s.rd F.PWR_CTL_MAXDEPTH = t then 11 else 12

/-- R470: the target of the present tick is computed and shown, and since when each state or a deeper one has been the target. -/
def State.trackTarget (s : State) : State :=
  let hs := s.holds
  let tol := s.tolerance
  let own := s.targetFrom hs tol
  let t := if s.sleepHold own then 3 else own
  let s := ((s.wr F.PWR_STAT_TARGET t).wr F.PWR_STAT_TOL (tol.getD 0)).wr F.PWR_STAT_HOLD (s.holdCode hs own t)
  { s with
    pwr := { s.pwr with
      since := (List.range 5).map (fun k => if k ≤ t then s.pwr.since.getD k 0 else s.now) } }

/-- R473: ticks that the target must have stayed at a state or deeper. -/
def State.dwell (s : State) (st : Nat) : Nat := if st ≤ 1 then 64 else max 1 (s.rd F.PWR_CTL_DWELL) * 15000

/-- R473: the deepest state below the present one whose dwell has passed; the present one where none has. -/
def State.dueState (s : State) : Nat :=
  let cur := s.power
  let t := s.powTarget
  ((List.range 5).filter (fun k => decide (cur < k) && decide (k ≤ t)
    && decide (ahead s.now (after (s.pwr.since.getD k 0) (s.dwell k)) ≥ 0))).foldl (fun (m k : Nat) => max m k) cur

/-- R78: the filters of the pins whose comparator bias differs from what it was in another state of the device. -/
def State.rebias (s : State) (old : State) : State :=
  (List.range 1024).foldl (fun (s : State) (q : Nat) => if old.bias q = s.bias q then s else s.refilter q) s

/-- The filters of some pins restart. -/
def State.refilterAll (s : State) (l : List Nat) : State := l.foldl (fun (s : State) (q : Nat) => s.refilter q) s

/-- R89: on entering DEEP the pins that stay watched restart; every other watched pin is flagged. -/
def State.keepDeep (s : State) : State :=
  let kept := (List.range 4).flatMap s.deepPins
  let s := s.refilterAll kept
  (List.range 1024).foldl (fun (s : State) (q : Nat) =>
    if s.on F.PIN_WATCH_EN q = true ∧ kept.contains q = false then s.wr F.PIN_FLAG_NOWATCH 1 q else s) s

/-- R78: the filters with an ECLK-derived clock restart when ECLK returns. -/
def State.eclkBack (s : State) : State :=
  let s := (List.range 1024).foldl (fun (s : State) (q : Nat) =>
    if fselEclk (s.rd F.PIN_CFG_FSEL q) = true then s.refilter q else s) s
  (List.range 128).foldl (fun (s : State) (r : Nat) =>
    let s := if fselEclk (s.rd F.RAIL_MON_VFSEL r) = true then s.restartMon r 0 else s
    if fselEclk (s.rd F.RAIL_MON_IFSEL r) = true then s.restartMon r 1 else s) s

/-- R52 to R55: the oldest stamp not yet delivered, with its source. -/
def State.oldest (s : State) : Option (Stamp × Nat) :=
  let ev := s.evq.filterMap (fun (r : EvRec) => if r.kind = 2 then none else some (r.stamp, r.src))
  let kept := s.evrs.flatMap (fun (e : Nat × EvrX) =>
    (e.2.kept.map (fun (w : List Nat) => (BitVec.ofNat 64 (w.getD 0 0), w.getD 1 0 % 4096)))
      ++ (match e.2.lost with | some l => [(BitVec.ofNat 64 l.2.1, 4095)] | none => []))
  let cap := s.pods.flatMap (fun (e : Nat × PodX) =>
    (e.2.efifo.map (fun (x : EdgeRec) => (x.stamp, 4 * e.1 + x.pin)))
      ++ (e.2.failq ++ e.2.stepq).map (fun (x : CapRec) => (x.stamp, 4 * e.1 + min 3 x.pin))
      ++ (e.2.losses.map (fun (x : LossRun) => (x.first, 4 * e.1 + ((bitsSet 4 x.pinMask).headD 0)))))
  let ledg := s.ledgq.map (fun (e : LEnt) => (e.stamp, e.src))
  let flt := s.faultq.map (fun (f : FaultIn) => (f.stamp, 2144 + f.src / 6))
  let pm := s.pmus.flatMap (fun (m : PmuMeas) =>
    if m.started = true ∧ (s.pmuE m).rec_ = true then
      (m.pins.filter (fun q => m.ended.contains q || (s.pin q).pmu.phase == 4)).map (fun q => ((s.pin q).pmu.lastEnd, q))
    else [])
  let iu := s.ius.filterMap (fun (e : Nat × IuX) =>
    if e.2.busy = true ∧ e.2.done ≥ e.2.e.nM1 + 1 ∧ e.2.e.rec_ = true then some (e.2.last, s.iuSource e.2) else none)
  (ev ++ kept ++ cap ++ ledg ++ flt ++ pm ++ iu).foldl (fun (b : Option (Stamp × Nat)) (e : Stamp × Nat) => match b with
    | some c => if ahead e.1 c.1 < 0 then some e else some c
    | none => some e) none

/-- The order of the SYNC states from the best to the worst: R55 names the worst but ranks none; the bounds of R43 rank LOCKED,
HOLDOVER, then the two without a bound (DESIGN CHOICE, assumption 162). -/
def syncRank (c : Nat) : Nat := if c = 0 then 0 else if c = 2 then 1 else if c = 1 then 2 else 3
def worseSync (a b : Nat) : Nat := if syncRank a ≥ syncRank b then a else b

/-- R54, R55, R398: a watermark record with a watermark time goes to every enabled ring. -/
def State.watermark (s : State) (w : Stamp) : State :=
  let held := decide (ahead w (s.now - ticks 3000) < 0)
  let src := match s.oldest with | some e => e.2 | none => 0
  let worst := worseSync s.wm.worst (s.rd F.WT_STAT_SYNC)
  let payload := s.rd F.WT_EPOCH_EPOCH + worst * 2 ^ 16 + ofBool s.wm.jumped * 2 ^ 18 + ofBool held * 2 ^ 19
    + (if held then src * 2 ^ 20 else 0)
  let q := s.seqs.at 0 4095
  let s := ((List.range 8).filter (fun e => s.on F.EVR_CFG_EN e)).foldl (fun (s : State) (e : Nat) =>
    s.emit (EvRec.mk 4095 2 w q 0 [payload] (some e))) s
  let s := s.wrStamp F.WT_WM_LAST_LO_LAST_LO F.WT_WM_LAST_HI_LAST_HI w
  { s with
    seqs := s.seqs.set 0 4095 ((q + 1) % 65536)
    wm := { last := s.now, worst := s.rd F.WT_STAT_SYNC, jumped := false, wrapped := false } }

/-- R54: the watermark time: the earlier of the present time less 2 µs and the oldest stamp not yet delivered; it never
decreases but across a jump. -/
def State.wmTime (s : State) : Stamp :=
  let base := s.now - ticks 3000
  let w := tickOf (match s.oldest with | some e => earlier base e.1 | none => base)
  let last := BitVec.ofNat 64 (join (s.rd F.WT_WM_LAST_LO_LAST_LO) (s.rd F.WT_WM_LAST_HI_LAST_HI))
  if s.wm.jumped then w else later w last

/-- The pin dies that are out of reset and whose links have not failed (R11). -/
def State.diesUp (s : State) : Nat :=
  (List.range 4).foldl (fun (v k : Nat) =>
    if hasBit s.rst.dies k && !s.live.any (fun e => e.1 == 128 + 64 * k) then withBit v k else v) 0

/-- Whether the engine PLL may run: it has not lost lock (R491, source 1), and the device is not shut down (R486). -/
def State.pllOk (s : State) : Bool := !s.live.any (fun e => e.1 == 1) && !s.on F.THM_STAT_SHUT

/-- R468, R473, R474: the device enters a power state: event 2141, clocks, bias, filters; DEEP stops the fabric ports. -/
def State.setPower (s : State) (st : Nat) : State :=
  let old := s
  let s := s.syncPins
  let s := s.wr F.PWR_STAT_STATE st
  let s := s.wr F.GLB_UNITS_ECLK_LOCK (ofBool (decide (st ≤ 1) && s.pllOk))
  let s := if st = 4 then (s.wr F.GLB_UNITS_PD_POWERED 0).wr F.GLB_UNITS_PD_OK 0
    else if old.power = 4 ∧ s.on F.THM_STAT_SHUT = false then (s.wr F.GLB_UNITS_PD_POWERED s.rst.dies).wr F.GLB_UNITS_PD_OK s.diesUp else s
  let s := if st = 4 ∨ old.power = 4 then
      (List.range 4).foldl (fun (s : State) (p : Nat) =>
        let ps := s.portSt p
        if ps = ptUp ∨ ps = ptLatency ∨ ps = ptTrain ∨ ps = ptDown then
          let s := (s.wr F.FAB_PSTAT_LATV 0 p).wr F.FAB_PSTAT_WIDTH 0 p
          (s.wr F.FAB_PSTAT_STATE ptTrain p).setPort p { (s.port p).fresh with since := s.now, retry := false }
        else s) s
    else s
  let s := { s with fab := { s.fab with sleep := s.fab.sleep && decide (st = 4) } }
  let s := if old.power = 4 ∧ st ≠ 4 then
      { s with
        fab := { s.fab with
          isoT := s.now, hbT := s.now
          wakeDue := if s.anchor then (List.range 64).filter (fun d => d != 0 && s.present d) else [0] } }
    else s
  let s := s.rebias old
  let s := if st = 4 then s.keepDeep else if old.power = 4 then s.refilterAll ((List.range 4).flatMap old.deepPins) else s
  let s := if st ≤ 1 ∧ old.power ≥ 2 then s.eclkBack else s
  let s := if st = 3 ∨ old.power = 3 then
      (List.range 128).foldl (fun (s : State) (r : Nat) =>
        let s := if s.rd F.RAIL_MON_VMODE r = 0 then s.restartMon r 0 else s
        if s.rd F.RAIL_MON_IMODE r = 0 then s.restartMon r 1 else s) s
    else s
  s.raise 2141 st [0] s.now

/-! ### Temperature -/

/-- A sensor's reading in 0.125 °C, its rate in 0.5 °C/s, whether it is valid. -/
def State.temp (s : State) (k : Nat) : Int := signed 16 (s.rd F.THM_T_TEMP k)
def State.tempRate (s : State) (k : Nat) : Int := signed 8 (s.rd F.THM_T_RATE k)
def State.tempOk (s : State) (k : Nat) : Bool := s.on F.THM_T_VALID k

def State.validSensors (s : State) : List Nat := (List.range 5).filter s.tempOk

/-- The hottest of some sensors. -/
def State.hottest (s : State) (l : List Nat) : Option Nat :=
  l.foldl (fun (b : Option Nat) (k : Nat) => match b with
    | some j => if s.temp k > s.temp j then some k else some j
    | none => some k) none

/-- R480, R484: a domain's temperature and the sensor that gives it. -/
def State.domTemp (s : State) (k : Nat) : Int × Nat :=
  if s.on F.THM_DOM_HELD k = false ∧ s.tempOk 0 = true ∧ s.tempOk (1 + k) = true then
    (if s.temp (1 + k) ≥ s.temp 0 then (s.temp (1 + k), 1 + k) else (s.temp 0, 0))
  else
    match s.hottest s.validSensors with
    | some j => (s.temp j + 8 * s.rd F.THM_CFG_MARGIN, j)
    | none => (s.temp (1 + k), 1 + k)

/-- The level of a temperature (R480). -/
def State.tempLevel (s : State) (t : Int) : Nat :=
  if t ≥ 8 * s.rd F.THM_THR_CRIT then 3 else if t ≥ 8 * s.rd F.THM_THR_HOT then 2 else if t ≥ 8 * s.rd F.THM_THR_WARN then 1 else 0

/-- The sensor of a domain whose rate is at or above THM_CFG.RATE, if one is (R480). -/
def State.fastSensor (s : State) (k : Nat) : Option Nat :=
  let lim := s.rd F.THM_CFG_RATE
  if lim = 0 then none else [0, 1 + k].find? (fun j => s.tempOk j && decide (s.tempRate j ≥ lim))

/-- The level that is due for a domain, the sensor it is due to, whether by rate (R480, R484). -/
def State.dueLevel (s : State) (k : Nat) : Nat × Nat × Bool :=
  if s.validSensors.length < 2 then (3, (s.domTemp k).2, false)
  else
    let (t, j) := s.domTemp k
    let l := s.tempLevel t
    let floor := if s.on F.THM_DOM_HELD k then s.rd F.THM_DOM_FLOOR k else 0
    match s.fastSensor k with
    | some f => if max 1 (min 3 (l + 1)) > max l floor then (max 1 (min 3 (l + 1)), f, true) else (max l floor, j, false)
    | none => (max l floor, j, false)

/-- R480, R482: a domain's level changes: its event, the wake request, the bias of idle pods. -/
def State.setLevel (s : State) (k lvl sensor : Nat) (byRate : Bool) : State :=
  let old := s.rd F.THM_DOM_LEVEL k
  if old = lvl then s
  else
    let before := s
    let s := (s.wr F.THM_DOM_LEVEL lvl k).wr F.THM_DOM_RATEUP (ofBool byRate) k
    let x := s.doms.at {} k
    let s := { s with
      doms := s.doms.set {} k { x with
        by_ := sensor, coolT := none, fellT := if old ≥ 2 ∧ lvl < 2 then some s.now else if lvl ≥ 2 then none else x.fellT } }
    let s := (s.raise ((if byRate then 2133 else 2128) + sensor) lvl [0] s.now).askWake 7
    s.rebias before

/-- Whether a domain is cool enough for the level below its own (R480). -/
def State.domCool (s : State) (k : Nat) : Bool :=
  let lvl := s.rd F.THM_DOM_LEVEL k
  let thr := if lvl = 3 then s.rd F.THM_THR_CRIT else if lvl = 2 then s.rd F.THM_THR_HOT else s.rd F.THM_THR_WARN
  let floor := if s.on F.THM_DOM_HELD k then s.rd F.THM_DOM_FLOOR k else 0
  lvl != 0 && decide (2 ≤ s.validSensors.length) && decide (floor < lvl)
    && decide ((s.domTemp k).1 ≤ 8 * (thr : Int) - 8 * s.rd F.THM_CFG_HYST) && (s.fastSensor k).isNone

/-- R480: a domain's temperature and level follow a reading: a rise at once; since when it has been cool. -/
def State.trackDom (s : State) (k : Nat) : State :=
  let s := s.wr F.THM_DOM_TEMP (ofSigned 16 (s.domTemp k).1) k
  let (lvl, sensor, byRate) := s.dueLevel k
  let s := if lvl > s.rd F.THM_DOM_LEVEL k then s.setLevel k lvl sensor byRate else s
  let x := s.doms.at {} k
  let cool := s.domCool k
  { s with doms := s.doms.set {} k { x with coolT := if cool then (match x.coolT with | some t => some t | none => some s.now) else none } }

/-- R483: THERM_N is driven low. -/
def State.thermN (s : State) : Bool :=
  !s.badSup.contains (10, 4) &&
    (s.on F.THM_STAT_SHUT || (List.range 4).any (fun k => decide (s.rd F.THM_CFG_NLVL ≤ s.rd F.THM_DOM_LEVEL k)))

/-- The shutdown threshold in °C (R486, THM_THR.SHUT). -/
def State.shutAt (s : State) : Nat := min 0x73 (s.rd F.THM_THR_SHUT)

/-- R486: shutdown at a reading of a sensor. -/
def State.shutdown (s : State) (sensor : Nat) : State :=
  if s.on F.THM_STAT_SHUT then s
  else
    let temps := (List.range 5).flatMap (fun k => toBytes 2 (s.rd F.THM_T_TEMP k))
    let levels := (List.range 4).foldl (fun (v k : Nat) => v + s.rd F.THM_DOM_LEVEL k * 4 ^ k) 0
    let s := (s.syncPins.wr F.THM_STAT_SHUT 1).nvRecord 2 s.now (temps ++ [sensor, levels])
    let s := (s.detect 25 0 0).enterSafe 3
    let s := ((s.wr F.GLB_UNITS_PD_POWERED 0).wr F.GLB_UNITS_PD_OK 0).wr F.GLB_UNITS_ECLK_LOCK 0
    s.raise 2139 sensor [0] s.now

/-- R487: the shutdown ends: the pin dies and ECLK run again where the power state and the PLL allow (R11). -/
def State.endShut (s : State) : State :=
  let s := (s.wr F.THM_STAT_SHUT 0).endLive 25 none
  let s := if s.power = 4 then s else (s.wr F.GLB_UNITS_PD_POWERED s.rst.dies).wr F.GLB_UNITS_PD_OK s.diesUp
  if s.power ≤ 1 ∧ s.pllOk = true then (s.wr F.GLB_UNITS_ECLK_LOCK 1).eclkBack else s

end Sys2Proof.Machine
end

