-- ==== Sys2Proof/Machine/PmcOps.lean ====
section
/-! DEFINITION. Performance counters (R568 to R576): counts, loads, selections, overflow, shadow banks. -/

namespace Sys2Proof.Machine

open Sys2Proof

/-- Ticks counted by the TICK event where a counter lies (R568, R571). -/
def State.tickOfPmc (s : State) (c : Nat) : Nat := if c < 384 then s.tickAcc else s.tickDie

/-- Whether CHAIN applies to a counter (R574), whether it counts ticks. -/
def State.chained (s : State) (c : Nat) : Bool := s.on F.PMC_SEL_CHAIN c
def State.ticking (s : State) (c : Nat) : Bool := s.rd F.PMC_SEL_EVENT c == 0 && !s.chained c

/-- A counter without wrapping, the overflows of the counter below that it has not yet taken in included (R569, R574). -/
def State.pmcFull (s : State) : Nat → Int
  | 0 => (s.pmc.at {} 0).cnt + (if s.ticking 0 then s.tickOfPmc 0 else 0)
  | c + 1 =>
    let x := s.pmc.at {} (c + 1)
    if s.chained (c + 1) then x.cnt + (s.pmcFull c / (2 ^ 48 : Nat) - (s.pmc.at {} c).wraps)
    else x.cnt + (if s.ticking (c + 1) then s.tickOfPmc (c + 1) else 0)

/-- The 48-bit count (R569). -/
def State.pmcCount (s : State) (c : Nat) : Nat := (s.pmcFull c % (2 ^ 48 : Nat)).toNat

/-- A counter is made to show a count from now on (R575). -/
def State.pmcLoad (s : State) (c v : Nat) : State :=
  let base : Int := if s.chained c then
      (match c with
       | 0 => 0
       | b + 1 => s.pmcFull b / (2 ^ 48 : Nat) - (s.pmc.at {} b).wraps)
    else if s.ticking c then s.tickOfPmc c else 0
  { s with pmc := s.pmc.set {} c { cnt := (v : Int) - base, wraps := 0 } }

/-- Instances of an event's unit (R572): none where the code is reserved. -/
def eventUnits (code : Nat) : Option Nat :=
  if code = 0 ∨ code = 0x22 ∨ code = 0x23 ∨ code = 0x24 ∨ code = 0x30 ∨ code = 0x31 ∨ code = 0x3C ∨ code = 0x3D then some 4096
  else if 1 ≤ code ∧ code ≤ 0x0D then some 256
  else if 0x10 ≤ code ∧ code ≤ 0x13 then some 1024
  else if code = 0x18 ∨ code = 0x19 then some 128
  else if code = 0x1A then some 32
  else if code = 0x20 ∨ code = 0x21 then some 64
  else if 0x28 ≤ code ∧ code ≤ 0x2A then some 4
  else if code = 0x38 then some 2304
  else if code = 0x40 then some 5
  else none

/-- Whether a counter may select an event of a unit (R568, R572). -/
def selOk (c code unit : Nat) : Bool :=
  match eventUnits code with
  | none => false
  | some n =>
    decide (unit < n) && (decide (c < 384) ||
      (let k := (c - 384) / 32
       code == 0 || (decide (0x10 ≤ code ∧ code ≤ 0x13) && dieOfPin unit == k)
         || ((code == 0x18 || code == 0x19) && dieOfRail unit == k) || (code == 0x1A && dieOfWave unit == k)))

/-- R572, R574: a write of PMC_SEL: the count stands, the selection changes, or the write is ignored with SELBAD. -/
def State.pmcSelect (s : State) (c v : Nat) : State :=
  if selOk c (bits v 7 0) (bits v 23 12) = false then s.wr F.PMC_STAT_SELBAD 1
  else
    let shown := s.pmcFull c
    let chain := if c = 0 ∨ (c ≥ 384 ∧ (c - 384) % 32 = 0) then 0 else bit v 31
    let s := ((s.wr F.PMC_SEL_EVENT (bits v 7 0) c).wr F.PMC_SEL_UNIT (bits v 23 12) c).wr F.PMC_SEL_OVEV (bit v 30) c
    let s := s.wr F.PMC_SEL_CHAIN chain c
    let w := (s.pmc.at {} c).wraps
    let s := s.pmcLoad c 0
    let x := s.pmc.at {} c
    { s with pmc := s.pmc.set {} c { cnt := x.cnt + shown, wraps := w } }

/-- R576: at a snapshot every counter, and the overflow and loss flags, are copied into a slot's shadow bank; a pin die whose link is
down, or in DEEP, copies nothing. -/
def State.shadowCopy (s : State) (k : Nat) : State :=
  let ok := if s.power = 4 then 0 else s.rd F.GLB_UNITS_PD_OK
  let takes (c : Nat) : Bool := decide (c < 384) || hasBit ok ((c - 384) / 32)
  let m := (List.range 512).foldl (fun (m : NStore Nat) (c : Nat) =>
    if takes c then m.set 0 (512 * k + c) (s.pmcCount c) else m) s.shd
  let s := { s with shd := m }
  let s := (List.range 16).foldl (fun (s : State) (j : Nat) =>
    if takes (32 * j) then (s.wr F.PMC_SHD_OVF_SOVF (s.rd F.PMC_OVF_OVF j) k j).wr F.PMC_SHD_LOSS_SLOSS (s.rd F.PMC_LOSS_LOSS j) k j
    else s) s
  s.wr F.PMC_SHD_STAT_DIEOK ok k

end Sys2Proof.Machine
end

