-- ==== Sys2Proof/Machine/TimeRows.lean ====
section
/-! DEFINITION. The commands of wafer time (R31 to R59, R446 to R450) and the counter accesses of R575. -/

namespace Sys2Proof.Machine

open Sys2Proof

/-! ### The tick -/

/-- Ticks by which the counter advances at once: 15 while ECLK is stopped (R31, R32). -/
def State.stride (s : State) : Nat := if s.eclkOff then 15 else 1

/-- R33: the tick field has wrapped. -/
def State.takeWrap (s : State) : State :=
  if s.time.wrapDue then
    let s := (s.wr F.WT_EPOCH_EPOCH (s.rd F.WT_EPOCH_EPOCH + 1)).wr F.WT_STAT_WRAP 1
    { s with time := { s.time with wrapDue := false }, wm := { s.wm with wrapped := true } }
  else s

/-- R571, R572: the events that count ticks: TICK, STATE, RAIL_LIMIT. -/
def State.countTicks (s : State) (n : Nat) : State :=
  let deep := s.power == 4
  let s := { s with
    tickAcc := if deep then s.tickAcc else s.tickAcc + n
    tickDie := if s.power ≤ 1 then s.tickDie + n else s.tickDie }
  let s := if deep then s else s.pulse 0x40 s.power n
  (List.range 128).foldl (fun (s : State) (r : Nat) => if s.railSt r = rlLimit then s.pulse 0x19 r n else s) s

/-- What the present tick still does before it ends: a wrap is taken in, sample slots begin (R331), markers of periods that have begun are
raised (R157), a held engine error is raised (R161), a wait at a crossing is counted (R233), the worst SYNC state is kept (R55). -/
def State.endTick (s : State) : State :=
  let s := s.takeWrap
  let s := if s.on F.GLB_UNITS_ECLK_LOCK then (List.range 32).foldl (fun (s : State) (w : Nat) => s.waveTick w) s else s
  let s := s.raiseMarks
  let s := s.sitesDefined.foldl (fun (s : State) (n : Nat) => (s.raiseErr n).countXwait n s.stride) s
  { s with wm := { s.wm with worst := worseSync s.wm.worst (s.rd F.WT_STAT_SYNC) } }

/-- WRAP, R33. -/
def execWrap (s : State) : Out := .next s.takeWrap

/-- R36: the count is read, and its high half latched. -/
def State.readNow (s : State) : State := s.wr F.WT_NOW_HI_NOW_HI (hiWord s.now.toNat)

/-- WT_NOW_LO_READ, R36. -/
def execWtNowLoRead (s : State) : Out :=
  .next (let s := s.readNow
    { s with out := s.out ++ [OutMsg.value (loWord s.now.toNat)] })

/-- R575: a count is read, and its high half latched. -/
def State.readPmc (s : State) (c : Nat) : State := s.wr F.PMC_CNT_HI_CNT_HI (s.pmcCount c / 2 ^ 32) c

/-- PMC_CNT_LO_READ, R575. -/
def execPmcCntLoRead (pmc : PmcId) (s : State) : Out :=
  .next (let v := loWord (s.pmcCount pmc)
    let s := s.readPmc pmc
    { s with out := s.out ++ [OutMsg.value v] })

/-- R575: a count is loaded with the staged high half. -/
def State.writePmc (s : State) (c v : Nat) : State := s.pmcLoad c (s.rd F.PMC_CNT_HI_CNT_HI c * 2 ^ 32 + v % 2 ^ 32)

/-- PMC_CNT_LO_WRITE, R575. -/
def execPmcCntLoWrite (pmc : PmcId) (value : BitVec 32) (s : State) : Out := .next (s.writePmc pmc value.toNat)

/-! ### Crystal and reference -/

/-- A value moved toward another by no more than a step. -/
def toward (v target : Int) (step : Nat) : Int :=
  if target > v + step then v + step else if target < v - step then v - step else target

/-- The temperature of a die that the compensations of R37 and R485 take: its sensor's where that is valid, else the one that the
command brings (R478 leaves it open; DESIGN CHOICE, assumption 161). -/
def State.tableTemp (s : State) (sensor : Nat) (temp : BitVec 16) : Int :=
  if s.on F.THM_T_VALID sensor then signed 16 (s.rd F.THM_T_TEMP sensor) else temp.toInt

/-- TCOMP_UPDATE, R37: every 1 ms, by no more than 1 ppb, toward what the OTP table gives at the engine-die temperature. The table's
contents are a free value (DESIGN CHOICE, assumption 161). -/
def execTcompUpdate (temp : BitVec 16) (s : State) : Out :=
  .next (
    let due := match s.time.tcompT with | some t => decide (ahead s.now (after t tMs) ≥ 0) | none => true
    if s.on F.WT_XTAL_TCOMP_EN = false ∨ due = false then s
    else
      let v := toward (signed 12 (s.rd F.WT_XTAL_TCOMP)) (Config.xtalTable (s.tableTemp 0 temp)) 1
      ({ s with time := { s.time with tcompT := some s.now } }).wr F.WT_XTAL_TCOMP (ofSigned 12 v))

/-- COMPENSATION, R485: every 1 ms the references of a pin die move toward their tables at that die's temperature, a level by no
more than 0.25 of a DAC step. The tables' contents are a free value (DESIGN CHOICE, assumption 161). -/
def execCompensation (die : DieId) (temp : BitVec 16) (s : State) : Out :=
  .next (
    let x := s.die die
    let due := match x.compT with | some t => decide (ahead s.now (after t tMs) ≥ 0) | none => true
    if s.dieOk die = false ∨ due = false then s
    else s.setDie die { x with comp := toward x.comp (Config.refTable die (s.tableTemp (1 + die.val) temp)) 64, compT := some s.now })

/-- R38: the ageing correction in force, in 0.1 ppb: a ramp of at most 1 ppb per millisecond toward AGE. -/
def State.ageInForce (s : State) : Int :=
  let ms := (s.now - s.time.ageT).toNat / 1024 / tMs
  toward s.time.ageNow (signed 16 (s.rd F.WT_XTAL_AGE)) (10 * ms)

/-- R38: AGE is written; the ramp goes on from the correction in force. -/
def State.writeAge (s : State) (v : Nat) : State :=
  let a := s.ageInForce
  ({ s with time := { s.time with ageNow := a, ageT := s.now } }).wr F.WT_XTAL_AGE v

/-- AGE_WRITE, R38. -/
def execAgeWrite (value : BitVec 16) (s : State) : Out := .next (s.writeAge value.toNat)

/-- R40: REF_SEL is written: REF_OK says whether REFIN is present at the selected frequency, so it returns to 0 with a new selection
until the reference has been found at it (DESIGN CHOICE, assumption 163). -/
def State.selectRef (s : State) (v : Nat) : State :=
  if s.rd F.WT_CTL_REF_SEL = v % 4 then s
  else { (s.wr F.WT_CTL_REF_SEL v).wr F.WT_STAT_REF_OK 0 with time := { s.time with refT := s.now } }

/-- Whether a house reference is selected (WT_CTL.REF_SEL). -/
def State.refSel (s : State) : Bool := s.rd F.WT_CTL_REF_SEL == 1 || s.rd F.WT_CTL_REF_SEL == 2

/-- REFERENCE_LOST, R40: the master holds its rate and raises the fault record. -/
def execReferenceLost (s : State) : Out :=
  .next (
    if s.refSel = false ∨ s.on F.WT_STAT_REF_OK = false then s
    else
      let s := (s.wr F.WT_STAT_REF_OK 0).wr F.WT_STAT_REF_LOST 1
      let s := { s with time := { s.time with refT := s.now } }
      if s.tmaster then s.detect 22 0 0 else s)

/-- REFERENCE_RELOCK, R40: REFIN has been present for 10 ms, so no less than that has passed since it was lost or selected; the
master slews back to it. The rate of the counter against true time is no state of the model (assumption 163). -/
def execReferenceRelock (s : State) : Out :=
  .next (
    if s.refSel ∧ ahead s.now (after s.time.refT (10 * tMs)) ≥ 0 then s.wr F.WT_STAT_REF_OK 1 else s)

/-- REFOUT (R41): high for the first half of its period, from the ticks at which the extended count is a multiple of it; held low
while REFOUT_EN is 0. -/
def State.refout (s : State) : Bool :=
  let p := if s.on F.WT_CTL_REFOUT_SEL then 150 else 15
  s.on F.WT_CTL_REFOUT_EN && decide (2 * (extCount (s.rd F.WT_EPOCH_EPOCH) s.now % p) < p)

/-! ### SYNC states -/

def syLocked : Nat := 0
def syAcq : Nat := 1
def syHold : Nat := 2
def syUnsync : Nat := 3

/-- R43, R45: a SYNC state is entered; entering and leaving UNSYNC raise fault records. -/
def State.setSync (s : State) (st : Nat) : State :=
  let old := s.rd F.WT_STAT_SYNC
  let s := s.wr F.WT_STAT_SYNC st
  let s := { s with
    time := { s.time with syncT := s.now, good := 0 }
    wm := { s.wm with worst := worseSync s.wm.worst st } }
  if st = syUnsync ∧ old ≠ syUnsync then s.detect 20 0 0
  else if old = syUnsync ∧ st ≠ syUnsync then s.detect 21 0 0 else s

/-- R43, R47: the device learns which device is the timing master. -/
def State.newMaster (s : State) (m : Nat) : State :=
  if s.rd F.WT_STAT_MASTER = m ∧ s.tmaster = (m == s.dev) then s
  else
    let s := (s.wr F.WT_STAT_MASTER m).wr F.FAB_STAT_UPV 0
    let s := { s with
      ports := s.ports.map (fun (e : Nat × PortX) => (e.1, { e.2 with bhops := none, better := 0 }))
      time := { s.time with sent := none, slew := 0 } }
    if m = s.dev then ((s.wr F.GLB_ROLE_TMASTER 1).wr F.WT_OFFSET_OFFSET 0).setSync syLocked
    else (s.wr F.GLB_ROLE_TMASTER 0).setSync syAcq

/-- R47, R441: MASTER_DEV is written on the anchor: every present member is told; FAB_EXT shows the master's place. -/
def State.writeMaster (s : State) (m : Nat) : State :=
  if s.anchor = false then s
  else
    let s := s.wr F.WT_CTL_MASTER_DEV m
    let pos := s.fab.posOf m
    let s := (s.wr F.FAB_EXT_MX pos.1).wr F.FAB_EXT_MY pos.2
    let s := ((List.range 64).filter (fun d => d != 0 && s.present d)).foldl (fun (s : State) (d : Nat) => s.sendCtrl d 4 m 0) s
    s.newMaster m

/-- MASTER_DEV_WRITE, R47. -/
def execMasterDevWrite (dev : Fin 64) (s : State) : Out := .next (s.writeMaster dev)

/-- A beacon's payload (R448). -/
def beaconBytes (t : Nat) (corr : Int) (epoch master bhops bseq : Nat) : List Nat :=
  toBytes 8 t ++ toBytes 8 (ofSigned 64 corr) ++ toBytes 2 epoch ++ toBytes 1 master ++ toBytes 1 bhops ++ toBytes 4 bseq

/-- Whether a port carries beacons (R447, R448). -/
def State.beaconPort (s : State) (p : Nat) : Bool := s.portSt p == ptUp && s.on F.FAB_PSTAT_LATV p

/-- BEACON_SEND, R448: every 1,536 ticks; `frac` is the fraction of the departure stamps. -/
def execBeaconSend (frac : Fin 1024) (s : State) : Out :=
  .next (
    let due := match s.time.sent with | some t => decide (ahead s.now (after t 1536) ≥ 0) | none => true
    if s.tmaster = false ∨ due = false ∨ s.power = 4 then s
    else
      let b := beaconBytes (s.now.toNat + frac.val) 0 (s.rd F.WT_EPOCH_EPOCH) s.dev 1 s.time.bseq
      let s := ((List.range 4).filter s.beaconPort).foldl (fun (s : State) (p : Nat) =>
        ({ s with out := s.out ++ [OutMsg.link p (Flit.link tyBeacon 0 false 0 0 b)] }).pulse 0x28 p) s
      { s with time := { s.time with sent := some s.now, bseq := (s.time.bseq + 1) % 2 ^ 32 } })

/-- R450: the first hop of the XY and of the YX route toward the master. -/
def State.masterHop (s : State) (yx : Bool) : Option Nat :=
  let m := s.fab.posOf (s.rd F.WT_STAT_MASTER)
  let x := s.rd F.GLB_ROLE_POS_X
  let y := s.rd F.GLB_ROLE_POS_Y
  let px := if m.1 > x then 1 else 3
  let py := if m.2 > y then 2 else 0
  if m.1 = x ∧ m.2 = y then none
  else if yx then some (if m.2 ≠ y then py else px) else some (if m.1 ≠ x then px else py)

/-- R450: the port preferred among those that have offered beacons and still do. -/
def State.bestPort (s : State) : Option Nat :=
  let fresh (p : Nat) : Bool := s.beaconPort p && (s.port p).bhops.isSome && decide (ahead s.now (after (s.port p).bT 6144) < 0)
  let rank (p : Nat) : Nat := if s.masterHop false = some p then 0 else if s.masterHop true = some p then 1 else 2 + p
  ((List.range 4).filter fresh).foldl (fun (b : Option Nat) (p : Nat) => match b with
    | none => some p
    | some q =>
      let hp := (s.port p).bhops.getD 15
      let hq := (s.port q).bhops.getD 15
      if hp < hq ∨ (hp = hq ∧ rank p < rank q) then some p else some q) none

/-- The upstream port is set (R450). -/
def State.setUpstream (s : State) (p : Option Nat) : State :=
  match p with
  | none => s.wr F.FAB_STAT_UPV 0
  | some p =>
    let s := ((s.wr F.FAB_STAT_UPV 1).wr F.FAB_STAT_UPPORT p).wr F.FAB_STAT_BHOPS ((s.port p).bhops.getD 0)
    (List.range 4).foldl (fun (s : State) (q : Nat) => s.setPort q { s.port q with better := 0 }) s

/-- UPSTREAM_CHANGE, R450: no valid beacon for 4 intervals, or 64 in succession from another port with BHOPS at least 2 lower. -/
def execUpstreamChange (s : State) : Out :=
  .next (
    if s.tmaster then s
    else
      let lost := s.on F.FAB_STAT_UPV && decide (ahead s.now (after (s.port (s.rd F.FAB_STAT_UPPORT)).bT 6144) ≥ 0)
      if lost then s.setUpstream s.bestPort
      else
        match (List.range 4).find? (fun p => decide ((s.port p).better ≥ 64) && s.beaconPort p) with
        | some _ => s.setUpstream s.bestPort
        | none => s)

/-! ### Jumps -/

/-- The device's own timers run through a jump (R44): each of the ticks they count from or to moves with the count. Stamps of what
has happened stay (DESIGN CHOICE, assumption 164). -/
def TimeX.jump (x : TimeX) (d : Stamp) : TimeX :=
  { x with
    ageT := x.ageT - d, tcompT := x.tcompT.map (· - d), lastValid := x.lastValid - d, syncT := x.syncT - d
    sent := x.sent.map (· - d), refT := x.refT - d, slew := 0 }
def PinX.jump (x : PinX) (d : Stamp) : PinX :=
  { x with
    filter := { x.filter with upto := x.filter.upto - d }
    rearm := x.rearm.map (· - d)
    lastTdc := x.lastTdc.map (· - d.toInt / 1024 * fineTick)
    pmu := { x.pmu with
      until_ := x.pmu.until_ - d, convEnd := x.pmu.convEnd.map (· - d), trigT := x.pmu.trigT - d, trigNext := x.pmu.trigNext.map (· - d) } }
def PodX.jump (x : PodX) (d : Stamp) : PodX :=
  { x with
    settleEnd := x.settleEnd.map (· - d), settleRuns := x.settleRuns.map (fun r => (r.1 - d, r.2 - d)), eyeEnd := x.eyeEnd.map (· - d) }
def PortX.jump (x : PortX) (d : Stamp) : PortX :=
  { x with
    since := x.since - d, held := x.held.map (fun e => (e.1, e.2 - d)), lastRx := x.lastRx - d, detourT := x.detourT.map (· - d)
    dropT := x.dropT.map (· - d), crcs := x.crcs.map (· - d), t1 := x.t1.map (· - d), bT := x.bT - d }
def DieX.jump (x : DieX) (d : Stamp) : DieX :=
  { x with recalEnd := x.recalEnd.map (· - d), calEnd := x.calEnd.map (· - d), compT := x.compT.map (· - d) }
def RailX.jump (x : RailX) (d : Stamp) : RailX :=
  { x with
    vT := x.vT - d, iT := x.iT - d, noregT := x.noregT.map (· - d)
    t0 := x.t0 - d, reach := x.reach - d, regT := x.regT.map (· - d)
    wait := x.wait.map (fun w => { w with till := w.till.map (· - d) })
    offT := x.offT - d, ipkFrom := x.ipkFrom - d, smuxT := x.smuxT - d, vAt := x.vAt.map (· - d), iAt := x.iAt.map (· - d) }
def SiteX.jump (x : SiteX) (d : Stamp) : SiteX :=
  { x with
    armedT := x.armedT - d
    wins := x.wins.map (fun w => { w with opened := w.opened - d, quals := w.quals.map (fun e => (e.1, e.2.map (· - d))) }) }
def WaveX.jump (x : WaveX) (d : Stamp) : WaveX :=
  { x with
    next := x.next - d, startAt := x.startAt.map (fun e => (e.1 - d, e.2)), stopAt := x.stopAt.map (· - d), fireT := x.fireT.map (· - d)
    muteAt := x.muteAt.map (· - d), unmuteAt := x.unmuteAt.map (· - d), cmdTick := x.cmdTick - d, slotAt := x.slotAt - d }
def SensorX.jump (x : SensorX) (d : Stamp) : SensorX :=
  { hist := x.hist.map (fun e => (e.1 - d, e.2)), offT := x.offT.map (· - d), okT := x.okT.map (· - d) }
def DomX.jump (x : DomX) (d : Stamp) : DomX := { x with coolT := x.coolT.map (· - d), fellT := x.fellT.map (· - d) }
def TrigX.jump (x : TrigX) (d : Stamp) : TrigX :=
  { x with inT := x.inT.map (· - d), roseT := x.roseT - d, endT := x.endT - d, due := x.due.map (· - d) }
def FabX.jump (x : FabX) (d : Stamp) : FabX :=
  { x with
    gapT := x.gapT.map (fun (e : Nat × Option Stamp) => (e.1, e.2.map (· - d)))
    relays := x.relays.map (fun r => { r with sentT := r.sentT - d }), dma := x.dma.map (fun r => { r with sentT := r.sentT - d })
    disc := { x.disc with started := x.disc.started - d, cur := x.disc.cur.map (fun p => { p with sentT := p.sentT - d }) }
    hbT := x.hbT - d, isoT := x.isoT - d }

/-- R33, R44: what the units, the dies and the rails, the ports, the queues and the rest have due moves with the count. -/
def State.jumpUnits (s : State) (d : Stamp) : State :=
  { s with
    pins := s.pins.map (fun (e : Nat × PinX) => (e.1, e.2.jump d))
    pods := s.pods.map (fun (e : Nat × PodX) => (e.1, e.2.jump d))
    sites := s.sites.map (fun (e : Nat × SiteX) => (e.1, e.2.jump d))
    waves := s.waves.map (fun (e : Nat × WaveX) => (e.1, e.2.jump d)) }
def State.jumpParts (s : State) (d : Stamp) : State :=
  { s with
    dies := s.dies.map (fun (e : Nat × DieX) => (e.1, e.2.jump d))
    rails := s.rails.map (fun (e : Nat × RailX) => (e.1, e.2.jump d))
    sensors := s.sensors.map (fun (e : Nat × SensorX) => (e.1, e.2.jump d))
    doms := s.doms.map (fun (e : Nat × DomX) => (e.1, e.2.jump d)) }
def State.jumpPorts (s : State) (d : Stamp) : State :=
  { s with
    ports := s.ports.map (fun (e : Nat × PortX) => (e.1, e.2.jump d))
    fab := s.fab.jump d
    trigs := s.trigs.map (fun (e : Nat × TrigX) => (e.1, e.2.jump d))
    xwait := s.xwait.map (fun a => { a with since := a.since - d }) }
def State.jumpHost (s : State) (d : Stamp) : State :=
  { s with
    qps := s.qps.map (fun (e : Nat × QpX) => (e.1, { e.2 with oldest := e.2.oldest - d }))
    evrs := s.evrs.map (fun (e : Nat × EvrX) => (e.1, { e.2 with oldest := e.2.oldest - d }))
    fRestart := s.fRestart - d
    wake := s.wake.map (fun e => (e.1 - d, e.2)) }
def State.jumpCare (s : State) (d : Stamp) : State :=
  { s with
    safeX := { s.safeX with since := s.safeX.since - d }
    pwr := { s.pwr with since := s.pwr.since.map (· - d), deepW := none }
    rst := { s.rst with wdT := s.rst.wdT - d, dieT := s.rst.dieT.map (· - d) } }

/-- R33, R44: wafer time jumps back by k ticks. Every filter first takes the samples of the ticks that were. EPOCH is left alone,
whatever epoch the beacon carries (DESIGN CHOICE, assumption 164). -/
def State.jump (s : State) (k : Int) : State :=
  let d : Stamp := BitVec.ofInt 64 (k * 1024)
  let s := s.syncPins.wr F.WT_STAT_JUMPED 1
  let s := ((((s.jumpUnits d).jumpParts d).jumpPorts d).jumpHost d).jumpCare d
  { s with
    now := s.now - BitVec.ofInt 64 (k * 1024)
    jumps := s.jumps + 1
    time := s.time.jump d
    wm := { s.wm with jumped := true, last := s.wm.last - d } }

/-- R43, R44: wafer time is corrected by a measured offset: a jump in ACQUIRING with no gang running, otherwise a slew. -/
def State.steer (s : State) (off : Int) : State :=
  let t := roundDiv off 1024
  if s.rd F.WT_STAT_SYNC = syAcq ∧ s.anyRuns = false ∧ t ≠ 0 then s.jump t
  else { s with time := { s.time with slew := off } }

/-- R43: beacons in succession with an offset within 100 ps bring LOCKED. -/
def State.countGood (s : State) (off : Int) : State :=
  let good := if off.natAbs ≤ 153 then s.time.good + 1 else 0
  let s := { s with time := { s.time with good := good } }
  if good ≥ 64 ∧ s.rd F.WT_STAT_SYNC ≠ syLocked then s.setSync syLocked else s

/-- R449: a valid beacon gives the offset, steers, and leaves on every other port with what the device adds. -/
def State.takeBeacon (s : State) (p : Nat) (f : Flit) (frac : Nat) (transit : List Nat) : State :=
  let inlat : Int := signed 32 (s.rd F.FAB_PLAT_INLAT p)
  let corr := signed 64 (f.field 8 8)
  let arrive := s.now + BitVec.ofNat 64 frac
  let off := (arrive - BitVec.ofNat 64 (f.field 0 8) - BitVec.ofInt 64 (corr + inlat)).toInt
  let others := (List.range 4).filter (fun q => q != p && s.beaconPort q)
  let s := (others.zip (List.range others.length)).foldl (fun (s : State) (e : Nat × Nat) =>
    let b := beaconBytes (f.field 0 8) (corr + inlat + (transit.getD e.2 0 : Nat)) (f.field 16 2) (f.field 18 1) (f.field 19 1 + 1) (f.field 20 4)
    ({ s with out := s.out ++ [OutMsg.link e.1 (Flit.link tyBeacon 0 false 0 0 b)] }).pulse 0x28 e.1) s
  let s := (s.wr F.WT_OFFSET_OFFSET (ofSigned 32 off)).wr F.FAB_STAT_BHOPS (f.field 19 1)
  let s := { s with time := { s.time with lastValid := s.now } }
  let s := if s.rd F.WT_STAT_SYNC = syUnsync then s.setSync syAcq else s
  (s.steer off).countGood off

/-- BEACON, R449, R450. -/
def execBeacon (port : PortId) (flit : Flit) (frac : Fin 1024) (transit : List Nat) (s : State) : Out :=
  .next (
    let p := port.val
    if s.portSt p ≠ ptUp ∨ s.power = 4 then s
    else
      let s := s.flitIn p 1
      if flit.crcOk = false then s.crcError p
      else
        let bh := bits (flit.field 19 1) 3 0
        let offered := !s.tmaster && flit.field 18 1 % 64 == s.rd F.WT_STAT_MASTER && decide (bh ≤ 14) && s.beaconPort p
        if offered = false then s
        else
          let cur := s.rd F.FAB_STAT_BHOPS
          let x := s.port p
          let s := s.setPort p { x with
            bhops := some bh, bT := s.now, better := if s.on F.FAB_STAT_UPV = true ∧ s.rd F.FAB_STAT_UPPORT ≠ p ∧ bh + 2 ≤ cur then x.better + 1 else 0 }
          let s := if s.on F.FAB_STAT_UPV then s else s.setUpstream s.bestPort
          if s.rd F.FAB_STAT_UPPORT = p ∧ s.on F.FAB_STAT_UPV = true then s.takeBeacon p flit frac.val transit else s)

/-- HOLDOVER, R43: 16 beacon intervals without a valid beacon while LOCKED. -/
def execHoldover (s : State) : Out :=
  .next (
    if s.tmaster = false ∧ s.rd F.WT_STAT_SYNC = syLocked ∧ ahead s.now (after s.time.lastValid 24576) ≥ 0 then s.setSync syHold
    else s)

/-- UNSYNC, R43, R45: HOLDOVER for 1 ms, or an offset beyond 125 ps in LOCKED. -/
def execUnsync (s : State) : Out :=
  .next (
    let st := s.rd F.WT_STAT_SYNC
    let far := (signed 32 (s.rd F.WT_OFFSET_OFFSET)).natAbs > 192
    if s.tmaster = false ∧ ((st = syHold ∧ ahead s.now (after s.time.syncT tMs) ≥ 0) ∨ (st = syLocked ∧ far)) then s.setSync syUnsync
    else s)

/-! ### Watermarks and snapshots -/

/-- WATERMARK, R54, R469: every PERIOD microseconds and at each wrap. -/
def execWatermark (s : State) : Out :=
  .next (
    let due := s.wm.wrapped || decide (ahead s.now (after s.wm.last (max 4 (s.rd F.WT_WM_PERIOD) * 1500)) ≥ 0)
    if s.on F.WT_WM_EN = false ∨ s.power = 4 ∨ due = false then s else s.watermark s.wmTime)

/-- R56: ARM of a slot by its register. -/
def State.armSlot (s : State) (k : Nat) : State :=
  if s.on F.WT_SNAP_CTL_ARM k then s.wr F.WT_STAT_SNAP_BUSY 1
  else s.armSnap k (BitVec.ofNat 64 (join (s.rd F.WT_SNAP_TLO_TLO k) (s.rd F.WT_SNAP_THI_THI k))) none

/-- ARM, R56 to R58. -/
def execArm (snap : SnapId) (s : State) : Out := .next (s.armSlot snap)

/-- The descriptor that armed a slot completes (R57 to R59). -/
def State.snapDone (s : State) (k status tick : Nat) : State :=
  match (s.snap k).desc with
  | none => s
  | some e =>
    match (s.qp e.1).fetched.find? (fun d => d.idx == e.2) with
    | none => s
    | some d => s.endDesc e.1 d status tick k 0

/-- R59: DISARM frees an armed slot, but not in the tick of the snapshot. -/
def State.disarmSlot (s : State) (k : Nat) : State :=
  let x := s.snap k
  if s.on F.WT_SNAP_CTL_ARM k = false ∨ x.at_ = some s.now then s
  else ((s.snapDone k stAborted 0).wr F.WT_SNAP_CTL_ARM 0 k).setSnap k {}

/-- DISARM, R59. -/
def execDisarm (snap : SnapId) (s : State) : Out := .next (s.disarmSlot snap)

/-- SNAPSHOT_TAKEN, R57, R58, R576. -/
def execSnapshotTaken (snap : SnapId) (s : State) : Out :=
  .next (
    let x := s.snap snap
    match x.at_ with
    | none => s
    | some t =>
      if s.on F.WT_SNAP_CTL_ARM snap = false ∨ reached t s.now = false then s
      else
        let s := s.shadowCopy snap
        let s := s.snapDone snap (if x.late then stLate else stOk) t.toNat
        let s := ((s.wr F.WT_SNAP_CTL_ARM 0 snap).wr F.WT_SNAP_CTL_DONE 1 snap)
        let s := if x.late then s.wr F.WT_SNAP_CTL_LATE 1 snap else s
        (s.wrStamp F.WT_SNAP_ALO_ALO F.WT_SNAP_AHI_AHI t snap).setSnap snap {})

end Sys2Proof.Machine
end

