-- ==== Sys2Proof/Machine/PowerRows.lean ====
section
/-! DEFINITION. The commands of power states and thermal management (R468 to R489). -/

namespace Sys2Proof.Machine

open Sys2Proof

/-- R464: the anchor sends SLEEP to every member. -/
def State.sendSleep (s : State) : State :=
  ((List.range 64).filter (fun d => d != 0 && s.present d)).foldl (fun (s : State) (d : Nat) => s.sendCtrl d 5 0 0) s

/-- R469: whether entering DEEP needs a watermark with the present tick first. -/
def State.deepMark (s : State) : Bool :=
  s.on F.WT_WM_EN && (List.range 8).any (fun e => s.on F.EVR_CFG_EN e) && s.pwr.deepW != some s.now

/-- R464, R469: the device enters DEEP once a watermark whose W is the entry tick has been written where rings can be; the anchor
sends SLEEP where every present device has chosen DEEP. -/
def State.enterDeep (s : State) (deep : Bool) : State :=
  if s.deepMark then { s.watermark s.now with pwr := { s.pwr with deepW := some s.now } }
  else if s.hostOpen && s.evq.any (fun r => r.kind == 2) then s
  else (if s.anchor = true ∧ deep = true then s.sendSleep else s).setPower 4

/-- POWER_STATE_CHANGE, R464, R473, R474: a wake that has run its time ends in ACTIVE; otherwise the device moves toward its target.
`deep`: every present device has chosen DEEP. -/
def execPowerStateChange (deep : Bool) (s : State) : Out :=
  .next (match s.wake with
    | some w => if reached w.1 s.now then { s with wake := none }.setPower w.2 else s
    | none =>
      let cur := s.power
      let t := s.powTarget
      if t < cur then (if t = 0 then { s with wake := some (after s.now (wakeTicks cur), 0) } else s.setPower t)
      else if s.dueState = cur then s
      else if s.dueState = 4 then s.enterDeep deep
      else s.setPower s.dueState)

/-- R472: whether the wake for a timed action must begin now. -/
def State.timedWake (s : State) : Bool :=
  s.timed.any (fun (t : Stamp) => decide (ahead (t - ticks 6000) s.now ≤ 1024 * (wakeTicks s.power : Int)))

/-- WAKE_REQUEST, R472, R474: the causes that ask for a wake are recorded, and the wake begins. -/
def execWakeRequest (s : State) : Out :=
  .next (
    if s.power = 0 then s
    else
      let s := if s.timedWake then s.askWake 2 else s
      if s.wakeAsk = 0 then s
      else
        let s := s.wr F.PWR_WAKE_CAUSE (Nat.lor (s.rd F.PWR_WAKE_CAUSE) s.wakeAsk)
        { s with
          wakeAsk := 0
          wake := match s.wake with
            | some w => some w
            | none => some (after s.now (wakeTicks s.power), 0) })

/-- WAKE_N, R474: low for at least 1 µs, in cycles of the crystal. -/
def execWakeN (crystals : Nat) (s : State) : Out :=
  .next (if crystals ≥ 100 ∧ s.on F.PWR_CTL_WAKEN_EN = true then s.askWake 5 else s)

/-- POWER_ESTIMATE, R475, R477. -/
def execPowerEstimate (est : BitVec 16) (s : State) : Out :=
  .next (
    let e := est.toNat
    let s := (s.wr F.PWR_EST_EST e).wr F.PWR_EST_PEAK (max e (s.rd F.PWR_EST_PEAK))
    if e > s.rd F.PWR_BUDGET_BUDGET ∧ s.anyRuns = true ∧ s.on F.PWR_GSTAT_OVER = false then
      (s.wr F.PWR_GSTAT_OVER 1).raise 2140 2 [0] s.now
    else s)

/-- A reading put in its place among others in rising order. -/
def insertInt (v : Int) : List Int → List Int
  | [] => [v]
  | a :: t => if v ≤ a then v :: a :: t else a :: insertInt v t

/-- The middle of some readings; of an even number, the mean of the two in the middle. -/
def median (l : List Int) : Int :=
  let m := l.foldl (fun (a : List Int) (v : Int) => insertInt v a) []
  let n := m.length
  if n = 0 then 0 else if n % 2 = 1 then m.getD (n / 2) 0 else roundDiv (m.getD (n / 2 - 1) 0 + m.getD (n / 2) 0) 2

/-- Whether a reading differs from the median of the valid sensors by more than XCHK (R479). -/
def State.offMedian (s : State) (k : Nat) (t : Int) : Bool :=
  let others := (List.range 5).filter (fun j => j == k || s.tempOk j)
  let m := median (others.map (fun j => if j = k then t else s.temp j))
  decide ((t - m).natAbs > 8 * s.rd F.THM_CFG_XCHK)

/-- R479: a sensor fails the cross-check. -/
def State.sensorFail (s : State) (k : Nat) : State :=
  if hasBit (s.rd F.THM_STAT_FAILED) k then s
  else
    let s := (s.wr F.THM_T_VALID 0 k).wr F.THM_STAT_FAILED (withBit (s.rd F.THM_STAT_FAILED) k)
    let s := s.raise 2138 k [0] s.now
    let s := if k = 0 then s.detect 23 0 0 else s.detect (128 + 64 * (k - 1) + 3) (k - 1) 0
    (List.range 4).foldl (fun (s : State) (d : Nat) =>
      if k = 1 + d ∨ (k = 0 ∧ (s.doms.at {} d).by_ = 0 ∧ s.rd F.THM_DOM_LEVEL d ≠ 0) then
        if s.on F.THM_DOM_HELD d then s else (s.wr F.THM_DOM_FLOOR (s.rd F.THM_DOM_LEVEL d) d).wr F.THM_DOM_HELD 1 d
      else s) s

/-- R484: whether fewer than two sensors are valid. -/
def State.trackSensors (s : State) : State :=
  let few := decide (s.validSensors.length < 2)
  let was := s.on F.THM_STAT_NOSENS
  let s := s.wr F.THM_STAT_NOSENS (ofBool few)
  if few && !was then s.detect 24 0 0 else if was && !few then s.endLive 24 none else s

/-- R478: the rate of rise over the last 100 ms in 0.5 °C/s: against the oldest reading of that span. -/
def riseRate (hist : List (Stamp × Int)) (now : Stamp) (t : Int) : Int :=
  match hist.getLast? with
  | none => 0
  | some e =>
    let dt := (now - e.1).toNat / 1024
    if dt = 0 then 0 else max (-128) (min 127 (roundDiv ((t - e.2) * 375000000) dt))

/-- The readings of the last 100 ms, and the newest older one. -/
def keepHist (now : Stamp) : List (Stamp × Int) → List (Stamp × Int)
  | [] => []
  | e :: t => if ahead now (after e.1 150000000) ≥ 0 then [e] else e :: keepHist now t

/-- SENSOR_READING, R478 to R480, R484, R486; `broken` where the converter reports an open or short diode. -/
def execSensorReading (sensor : Fin 5) (temp : BitVec 16) (broken : Bool) (s : State) : Out :=
  .next (
    let k := sensor.val
    let t := temp.toInt
    let x := s.sensors.at {} k
    let hist := keepHist s.now x.hist
    let rate := riseRate hist s.now t
    let bad := broken || decide (t < -320) || decide (t > 1200)
    let off := !bad && s.offMedian k t
    let offT := if off then (match x.offT with | some o => some o | none => some s.now) else none
    let late := match offT with | some o => decide (ahead s.now (after o tMs) ≥ 0) | none => false
    let failed := hasBit (s.rd F.THM_STAT_FAILED) k
    let okT := if failed ∧ bad = false ∧ off = false then (match x.okT with | some o => some o | none => some s.now) else none
    let s := { s with sensors := s.sensors.set {} k { hist := (s.now, t) :: hist, offT := offT, okT := okT } }
    let s := (s.wr F.THM_T_TEMP temp.toNat k).wr F.THM_T_RATE (ofSigned 8 rate) k
    let s := if bad || late then s.sensorFail k else if failed then s else s.wr F.THM_T_VALID 1 k
    let s := s.trackSensors
    let s := if s.tempOk k ∧ s.rd F.THM_CFG_RATE ≠ 0 ∧ rate ≥ s.rd F.THM_CFG_RATE then
        s.wr F.THM_STAT_RATEHI (withBit (s.rd F.THM_STAT_RATEHI) k) else s
    let s := (List.range 4).foldl (fun (s : State) (d : Nat) => s.trackDom d) s
    if s.tempOk k ∧ t ≥ 8 * s.shutAt then s.shutdown k else s)

/-- SENSOR_RECOVER, R479: a failed sensor that has passed the check for 100 ms. -/
def execSensorRecover (sensor : Fin 5) (s : State) : Out :=
  .next (
    let k := sensor.val
    let x := s.sensors.at {} k
    match x.okT with
    | none => s
    | some t =>
      if hasBit (s.rd F.THM_STAT_FAILED) k = false ∨ ahead s.now (after t 150000000) < 0 then s
      else
        let s := (s.wr F.THM_STAT_FAILED (withoutBit (s.rd F.THM_STAT_FAILED) k)).wr F.THM_T_VALID 1 k
        let s := { s with sensors := s.sensors.set {} k { x with okT := none, offT := none } }
        let s := (if k = 0 then s.endLive 23 none else s.endLive (128 + 64 * (k - 1) + 3) none).trackSensors
        (List.range 4).foldl (fun (s : State) (d : Nat) => s.trackDom d) s)

/-- LEVEL_LOWER, R480: by one, after 10 ms below the threshold less the hysteresis. -/
def execLevelLower (die : DieId) (s : State) : Out :=
  .next (
    let k := die.val
    match (s.doms.at {} k).coolT with
    | none => s
    | some t =>
      if s.domCool k = false ∨ ahead s.now (after t 15000000) < 0 then s
      else
        let lvl := s.rd F.THM_DOM_LEVEL k - 1
        (s.setLevel k lvl (s.domTemp k).2 false).trackDom k)

/-- R487: a write of 1 to THM_STAT.SHUT. -/
def State.shutClear (s : State) : State :=
  if s.on F.THM_STAT_SHUT ∧ s.validSensors.all (fun k => decide (s.temp k ≤ 8 * (s.shutAt : Int) - 120)) = true then s.endShut else s

/-- SHUT_CLEAR, R487. -/
def execShutClear (s : State) : Out := .next s.shutClear

/-- R484: RELEASE removes the floors of domains whose sensors have not failed. -/
def State.releaseFloors (s : State) : State :=
  let s := (List.range 4).foldl (fun (s : State) (d : Nat) =>
    if s.on F.THM_DOM_HELD d ∧ s.tempOk 0 = true ∧ s.tempOk (1 + d) = true then
      (s.wr F.THM_DOM_HELD 0 d).wr F.THM_DOM_FLOOR 0 d else s) s
  (List.range 4).foldl (fun (s : State) (d : Nat) => s.trackDom d) s

/-- RELEASE, R484. -/
def execRelease (s : State) : Out := .next s.releaseFloors

end Sys2Proof.Machine
end

