-- ==== Sys2Proof/Machine/FaultRows.lean ====
section
/-! DEFINITION. The commands of the fault collector and the safe state (R490 to R511, R600), and the supplies (R585). -/

namespace Sys2Proof.Machine

open Sys2Proof

/-- Whether a fault may be reported from outside the device's own state: the source exists and names a valid unit, and its
condition can arise (R491). -/
def State.canReport (s : State) (e : FaultEvent) : Bool :=
  (faultFactory e.src).isSome && validUnit e.src e.unit
    && (e.src.val != 1 || s.on F.GLB_UNITS_ECLK_LOCK) && (e.src.val != 2 || s.on F.GLB_UNITS_XTAL_OK)
    && (!(decide (17 ≤ e.src.val ∧ e.src.val ≤ 19)) || s.anchor)

/-- The detail of a fault report as its record holds it: 0 where the source's table gives none (R491, R492, R496). -/
def reportDetail (e : FaultEvent) : Nat :=
  let j := (e.src.val - 128) % 64
  if [3, 9, 10, 11, 12, 50].contains e.src.val || (decide (128 ≤ e.src.val) && [2, 4, 7].contains j) then e.detail else 0

/-- R185, R218: what an uncorrectable store error or a parity error does to the gang of its pod before the collector has it: 13 at a
local-store fetch and 14 in a store of R174 give UPARITY. For the stores of R218, which give RA_PARITY, the report of source 14
carries their code, 0x20 (DESIGN CHOICE, assumption 171). -/
def State.parity (s : State) (e : FaultEvent) : State :=
  if e.src.val = 13 then s.parityErr e.unit erUparity
  else if e.src.val = 14 then s.parityErr e.unit (if e.detail = erRaParity then erRaParity else erUparity)
  else s

/-- FAULT_DETECTED, R490, R495 to R499: the faults that wait, and those reported in the present tick, are taken in order. While
the collector does not run, a condition that persists is found again when it does (R600). -/
def execFaultDetected (events : List FaultEvent) (s : State) : Out :=
  .next (
    let es := events.filter s.canReport
    if s.collectorRuns then
      let s := es.foldl (fun (s : State) (e : FaultEvent) => (s.parity e).detect e.src e.unit (reportDetail e)) s
      let s := s.takeFaults
      if es.any (fun e => e.src.val == 1) then s.syncPins.wr F.GLB_UNITS_ECLK_LOCK 0 else s
    else
      es.foldl (fun (s : State) (e : FaultEvent) =>
        if liveSource e.src && !s.live.any (fun l => l.1 == e.src.val && l.2.1 == e.unit) then
          { s with
            live := s.live ++ [(e.src.val, e.unit, (reportDetail e))]
            rst := { s.rst with redetect := s.rst.redetect ++ [(e.src.val, e.unit, (reportDetail e))] } }
        else s) s)

/-- R503: a source is forced. -/
def State.forceFault (s : State) (i : Nat) : State :=
  if s.on F.FLT_CTL_FLOCK ∨ (faultFactory i).isNone = true then s
  else if validUnit i (s.rd F.FLT_CTL_FUNIT) = false then s.wr F.FLT_STAT_CFGBAD 1
  else
    let u := if sourceKind i = 0 then 0 else s.rd F.FLT_CTL_FUNIT
    { s with faultq := s.faultq ++ [FaultIn.mk i u 0 true s.now] }

/-- FORCE, R503. -/
def execForce (src : SrcId) (s : State) : Out := .next (s.forceFault src)

/-- R494, R503: a write of FLT_SRC. -/
def State.writeFltSrc (s : State) (i v : Nat) : State :=
  let sev := bits v 1 0
  let react := bits v 6 4
  if (faultFactory i).isNone then s.wr F.FLT_STAT_CFGBAD 1
  else if i = 0 then
    let s := if sev ≠ 3 ∨ react ≠ 6 then s.wr F.FLT_STAT_CFGBAD 1 else s
    if hasBit v 31 then s.forceFault i else s
  else if reactionOk (sourceKind i) react = false ∨ decide (react = 6) ≠ decide (sev = 3) then s.wr F.FLT_STAT_CFGBAD 1
  else
    let s := (s.wr F.FLT_SRC_REACT react i).wr F.FLT_SRC_SEV sev i
    if hasBit v 31 then s.forceFault i else s

/-- FLT_SRC_WRITE, R494. -/
def execFltSrcWrite (src : SrcId) (value : BitVec 32) (s : State) : Out := .next (s.writeFltSrc src value.toNat)

/-- FLT_PEND_CLEAR, R504. -/
def execFltPendClear (word : Fin 12) (value : BitVec 32) (s : State) : Out := .next (s.clearPend word value.toNat)

/-- COLLECTOR_SWEEP, R505, R509: the collector's check of its own words; `bad` names a failing word, or all ones a disagreement of
its two copies. -/
def execCollectorSweep (bad : Option (BitVec 32)) (s : State) : Out :=
  .next (match bad with
    | none => { s with safeX := { s.safeX with sweepOk := true } }
    | some d =>
      if s.safe ∧ s.safeX.byCollector = true then s.assertSrc 5
      else
        let f := FaultIn.mk 0 0 d.toNat false s.now
        let s := (s.markFault f 3 6).wr F.FLT_STAT_SELF 1
        let (q, s) := s.faultSeq 0
        let ws := faultWords f 3 6 q
        let s := (s.putRecWords F.FLT_FIRST_REC ws).wr F.FLT_STAT_FIRSTV 1
        let s := s.raise 2144 0 [join (ws.getD 0 0) (ws.getD 1 0)] s.now
        { s with safeX := { s.safeX with sweepOk := false } }.enterSafe 2)

/-- ENTER, R506. -/
def execEnter (s : State) : Out := .next (s.enterSafe 4)

/-- R510: whether nothing pending, no shutdown and no failed sweep keeps the safe state. -/
def State.mayExit (s : State) : Bool :=
  (List.range 384).all (fun i => !hasBit (s.rd F.FLT_PEND_PEND (i / 32)) (i % 32) || (s.rd F.FLT_SRC_SEV i != 3 && i != 0))
    && !s.on F.THM_STAT_SHUT && s.safeX.sweepOk

/-- R510: a write of 1 to FLT_SAFE.EXIT. -/
def State.exitSafe (s : State) : State :=
  if s.mayExit then (s.wr F.FLT_SAFE_ACTIVE 0).wr F.FLT_STAT_SAFE 0 else s.wr F.FLT_STAT_EXITBAD 1

/-- EXIT, R510. -/
def execExit (s : State) : Out := .next s.exitSafe

/-- SAFE_ESC, R509: a pin die has not confirmed its safe state, or ESCTMO has passed. -/
def execSafeEsc (unconfirmed : Bool) (s : State) : Out :=
  .next (
    let t := s.rd F.FLT_SAFE_ESCTMO
    let past := t != 0 && decide (ahead s.now (after s.safeX.since (t * tMs)) ≥ 0)
    if s.safe ∧ (unconfirmed || past) = true then s.assertSrc 5 else s)

/-- NV_RECORD_WRITE, R519, R520, R537: the pulse of the next record begins, or the one under way ends; `verified` is the outcome of
its verify. -/
def execNvRecordWrite (verified : Bool) (s : State) : Out :=
  .next (match s.rst.pulse with
    | none => s.startNv
    | some _ => s.endNv verified)

/-- LIVE_CAUSE_REDETECT, R600: engine-die sources once the collector runs, those of a pin die once it has left reset. -/
def execLiveCauseRedetect (s : State) : Out :=
  .next (
    if s.collectorRuns = false then s
    else
      let ready (e : Nat × Nat × Nat) : Bool := decide (e.1 < 128) || hasBit s.rst.dies ((e.1 - 128) / 64)
      let now := s.rst.redetect.filter ready
      let s := { s with rst := { s.rst with redetect := s.rst.redetect.filter (fun e => !ready e) } }
      now.foldl (fun (s : State) (e : Nat × Nat × Nat) => if s.live.contains e then s.detect e.1 e.2.1 e.2.2 else s) s)

/-- The live sources whose conditions lie outside the device's own state: PLL_UNLOCK, XTAL_FAIL, ED_SUPPLY, HOST_DOWN, PD_SUPPLY,
GATE_FLT (R491, R492). -/
def outerCause (i : Nat) : Bool :=
  i == 1 || i == 2 || i == 3 || i == 19 || (decide (128 ≤ i) && ((i - 128) % 64 == 4 || (i - 128) % 64 == 8))

/-- LIVE_CAUSE_END, R490. -/
def execLiveCauseEnd (src : SrcId) (s : State) : Out :=
  .next (
    let i := src.val
    let out := (decide (128 ≤ i) && (i - 128) % 64 == 4 && s.starved ((i - 128) / 64)) || (i == 3 && s.badSup.any (fun e => decide (e.1 ≤ 5)))
    if outerCause i = false ∨ out = true ∨ s.live.any (fun e => e.1 == i) = false then s
    else
      let s := s.endLive i none
      if i = 1 ∧ s.rd F.RST_STAT_STAGE ≠ 0 ∧ s.power ≤ 1 ∧ s.on F.THM_STAT_SHUT = false then
        (s.wr F.GLB_UNITS_ECLK_LOCK 1).eclkBack
      else s)

/-- DIE_LINK_RETRAIN, R11, R492: a failed die link works again. -/
def execDieLinkRetrain (die : DieId) (s : State) : Out :=
  .next (
    let k := die.val
    if s.dieOk k ∨ hasBit s.rst.dies k = false ∨ s.power = 4 ∨ s.on F.THM_STAT_SHUT = true
        ∨ s.live.any (fun e => e.1 == 128 + 64 * k) = false then s
    else (s.wr F.GLB_UNITS_PD_OK (withBit (s.rd F.GLB_UNITS_PD_OK) k)).endLive (128 + 64 * k) none)

/-- A supply's number in the order of R583. -/
def supplyIx (v : Supply) : Nat :=
  match v with
  | .vddCore => 0 | .vddSram => 1 | .vddD2d => 2 | .vddPhy => 3 | .vddPhyh => 4 | .vddAon => 5 | .vddPe => 6 | .vddPea => 7
  | .vpePos => 8 | .vpeNeg => 9 | .vddIo => 10

/-- The place of a supply in DETAIL of ED_SUPPLY and PD_SUPPLY (R491, R492). -/
def supplyDetail (i : Nat) : Nat := if i ≤ 5 then i else i - 6

/-- SUPPLY_OUT_OF_RANGE, R491, R492, R513, R585: pins of the die at high impedance, its outputs off, its pass devices off; VDD_AON
asserts POR. -/
def execSupplyOutOfRange (supply : Supply) (die : DieId) (s : State) : Out :=
  .next (
    let i := supplyIx supply
    let k := die.val
    let key := (i, if 6 ≤ i ∧ i ≤ 9 then k else 4)
    if s.badSup.contains key then s
    else
      let s := { s with badSup := s.badSup ++ [key] }
      if i = 5 then (s.detect 3 0 5).assertSrc 0
      else if i < 5 then s.detect 3 0 (supplyDetail i)
      else if i = 10 then s
      else
        let s := ((List.range 256).map (fun j => 256 * k + j)).foldl (fun (s : State) (q : Nat) => s.forceDrv q 0) s
        let s := (wavesOfDie k).foldl (fun (s : State) (w : Nat) => s.faultMute w) s
        let s := ((List.range 32).map (fun j => 32 * k + j)).foldl (fun (s : State) (r : Nat) =>
          if s.railSt r = rlOff then s else s.tripRail r) s
        if hasBit s.rst.dies k then s.detect (128 + 64 * k + 4) k (supplyDetail i) else s)

/-- R11: a pin die that has passed its link and trim check sets PD_OK. -/
def State.dieReports (s : State) (k : Nat) : State :=
  ((s.wr F.GLB_UNITS_PD_OK (withBit (s.rd F.GLB_UNITS_PD_OK) k)).setDie k { s.die k with calTemp := s.temp (1 + k) }).endLive (128 + 64 * k) none

/-- R585: a pin die that was held in reset for its supplies leaves it; after SETTLE it sets PD_OK too. -/
def State.lateDie (s : State) (k : Nat) : State :=
  let st := s.rd F.RST_STAT_STAGE
  if hasBit s.rst.dies k = true ∨ s.rst.dieN ≤ k ∨ st < 4 ∨ st = 15 then s
  else
    let s := { s with rst := { s.rst with dies := withBit s.rst.dies k } }
    let s := s.wr F.GLB_UNITS_PD_POWERED (withBit (s.rd F.GLB_UNITS_PD_POWERED) k)
    if st ≤ 5 then s else s.dieReports k

/-- SUPPLY_IN_RANGE, R585: a cause ends; a pin die that was held in reset for its supplies is released. -/
def execSupplyInRange (supply : Supply) (die : DieId) (s : State) : Out :=
  .next (
    let i := supplyIx supply
    let k := die.val
    let key := (i, if 6 ≤ i ∧ i ≤ 9 then k else 4)
    if s.badSup.contains key = false then s
    else
      let s := { s with badSup := s.badSup.erase key }
      if i ≤ 5 then (if s.badSup.any (fun e => decide (e.1 ≤ 5)) then s else s.endLive 3 none)
      else if i = 10 ∨ s.starved k = true then s
      else (s.endLive (128 + 64 * k + 4) none).lateDie k)

end Sys2Proof.Machine
end

