-- ==== Sys2Proof/Machine/ResetRows.lean ====
section
/-! DEFINITION. The commands of resets, boot and trust (R513 to R542). -/

namespace Sys2Proof.Machine

open Sys2Proof

/-! ### Sources -/

/-- POR, R513: VDD_AON has fallen below its threshold, or has stayed above it for 1 ms. -/
def execPor (low : Bool) (s : State) : Out :=
  .next (if low then (if hasBit s.rst.on 0 then s else s.assertSrc 0) else s.deassertSrc 0)

/-- R518: ten samples of a level in succession, taken at the crystal clock, assert or deassert a source. -/
def State.resetPinEdge (s : State) (i : Nat) (low : Bool) (samples : Nat) : State :=
  if samples < 10 then s
  else if low then (if hasBit s.rst.on i then s else s.assertSrc i)
  else s.deassertSrc i

/-- RESET_N, R518. -/
def execResetN (low : Bool) (samples : Nat) (s : State) : Out := .next (s.resetPinEdge 1 low samples)

/-- PERST_N, R513, R518. -/
def execPerstN (low : Bool) (samples : Nat) (s : State) : Out := .next (s.resetPinEdge 2 low samples)

/-- Whether steward firmware runs (R521, R524). -/
def State.fwRuns (s : State) : Bool :=
  let st := s.rd F.RST_STAT_STAGE
  s.rst.on == 0 && (st == 5 || st == 7 || st == 14)

/-- WDOG, R530: the watchdog has expired 50 ms after its warning, or the steward has taken an exception. -/
def execWdog (crash : Bool) (s : State) : Out :=
  .next (
    if s.fwRuns = false then s
    else if crash then (let t := s.detect 52 0 0
      (if t.collectorRuns then t.takeFaults else t).assertSrc 4)
    else if s.rst.wdWarned = false ∨ ahead s.now (after s.rst.wdT (50 * tMs)) < 0 then s
    else
      (s.nvRecord 4 s.now ([2 ^ 4, s.srcLevel 4] ++ toBytes 4 (s.rd F.FLT_FIRST_REC 0) ++ toBytes 4 (s.rd F.FLT_FIRST_REC 1))).assertSrc 4)

/-- WDOG_WARN, R530: 50 ms have passed since the steward last restarted its watchdog, so no less since the last warning. -/
def execWdogWarn (s : State) : Out :=
  .next (
    if s.fwRuns = false ∨ (s.rst.wdWarned = true ∧ ahead s.now (after s.rst.wdT (50 * tMs)) < 0) then s
    else ({ s with rst := { s.rst with wdWarned := true, wdT := s.now } }).detect 53 0 0)

/-- WDFIRE, R513: a write of RST_CTL.WDFIRE. -/
def execWdfire (s : State) : Out := .next (s.assertSrc 4)

/-! ### Release -/

/-- R516, R521: the release sequence begins: the level and the sources are shown, and no source counts as asserted any more. -/
def State.beginRelease (s : State) : State :=
  let r := s.rst
  let s := ((s.wr F.RST_STAT_LEVEL r.level).wr F.RST_STAT_SRC r.seen).wr F.RST_STAT_ASSERT 0
  { s with rst := { r with on := 0, releasing := true } }

/-- The release sequence has ended (R516). -/
def State.endRelease (s : State) : State := { s with rst := { s.rst with seen := 0, level := 3, releasing := false } }

/-- Whether a completion still waits to be written (R405). -/
def State.cplLeft (s : State) : Bool := s.qps.any (fun (e : Nat × QpX) => !e.2.cplq.isEmpty && !e.2.cqFault)

/-- R522, R537: the OTP load has passed: trims, options and counters are committed, the safe-code sections read, the NV event
record scanned. -/
def State.commitOtp (s : State) (b : BootIn) : State :=
  let s := (s.wr F.RST_MAP_MAP Config.otpMap.toNat).wr F.FAB_UID_LO_UID (loWord Config.otpUid.toNat)
  let s := (s.wr F.FAB_UID_HI_UID (hiWord Config.otpUid.toNat)).wr F.TRUST_FWSVN_ROMVER Config.romVersion.toNat
  let s := (List.range 4).foldl (fun (s : State) (p : Nat) => s.wr F.FAB_PTRIM_DTRIM (Config.otpDtrim p).toNat p) s
  let s := ((s.wr F.TRUST_STAT_REVOKED s.revokedNow).wr F.TRUST_STAT_FWCNT s.fwcnt).wr F.TRUST_STAT_UCCNT s.uccnt
  let s := if b.corrected then s.detect 48 0 0 else s
  let s := s.readSafe
  let s := (List.range 64).foldl (fun (s : State) (k : Nat) =>
    if nvErased (s.nvSlot k) ∨ nvValid (s.nvSlot k) = true then s else s.detect 51 0 k) s
  match s.nvNewest with
  | none => s
  | some k =>
    let acked := num (s.nvSlot k) 4 1 == 0
    let s := ((s.wr F.RST_NVSEL_NEWV 1).wr F.RST_NVSEL_NEWEST k).wr F.RST_NVSEL_NEWACK (ofBool acked)
    if num (s.nvSlot k) 0 1 = 2 ∧ acked = false then s.wr F.THM_STAT_PRIORSHUT 1 else s

/-- R521 to R523: stage OTP: a load that passes is committed; the third that fails ends in BOOTFAIL. -/
def State.otpStage (s : State) (b : BootIn) : State :=
  let tries := s.rd F.RST_STAT_TRIES + 1
  let s := s.wr F.RST_STAT_TRIES tries
  match b.otpBad with
  | none => (s.commitOtp b).wr F.RST_STAT_STAGE 3
  | some a =>
    if tries < 3 then s
    else ((s.nvRecord 3 s.now (toBytes 4 a ++ toBytes 1 tries)).wr F.RST_STAT_STAGE 15).endRelease

/-- R521, R524: stage ENGINE ends: ECLK runs, the safe codes stand, the host link of the anchor trains; HOLD by its strap. -/
def State.engineStage (s : State) (b : BootIn) : State :=
  let s := (s.wr F.GLB_UNITS_ECLK_LOCK 1).applySafe
  let s := if s.anchor then (s.wr F.HQ_LINK_WIDTH b.width).wr F.HQ_LINK_SPEED b.speed else s
  let s := { s with
    fRestart := s.now
    fab := { s.fab with
      isoT := s.now, hbT := s.now
      disc := { s.fab.disc with due := s.anchor && s.on F.FAB_CFG_AUTODISC, afterRst := true, started := s.now } } }
  s.wr F.RST_STAT_STAGE (if hasBit (s.rd F.RST_STAT_STRAP) 1 then 14 else 4)

/-- R528: the firmware that runs: one kept from HOLD, the boot flash's if it passes, otherwise the ROM's. -/
def State.bootFirmware (s : State) (b : BootIn) : State :=
  if s.rst.fwKept then s
  else
    match b.flash with
    | none => s.detect 49 0 0
    | some img =>
      let img := img.map (·.toNat)
      let code := s.fwCode img
      if code = 0 then s.runImage img 1 else s.detect 49 0 code

/-- R10, R521, R585: the next pin die of the release leaves reset, if its supplies are in range. -/
def State.releaseDie (s : State) : State :=
  let k := s.rst.dieN
  let out := if s.starved k then s.rst.dies else withBit s.rst.dies k
  { s.wr F.GLB_UNITS_PD_POWERED out with rst := { s.rst with dies := out, dieN := k + 1, dieT := some s.now } }

/-- R10, R521: stage FIRMWARE: the firmware is obtained, then pin dies 0 to 3 leave reset in this order, one at each step and 1.5 ms
apart; the last ends the stage. -/
def State.firmwareStage (s : State) (b : BootIn) : State :=
  let s := if s.rst.dieN = 0 then s.bootFirmware b else s
  let wait := match s.rst.dieT with | some t => decide (ahead s.now (after t 2250000) < 0) | none => false
  if wait then s
  else
    let s := s.releaseDie
    if s.rst.dieN ≥ 4 then s.wr F.RST_STAT_STAGE 5 else s

/-- R11: the pin dies that have passed their link and trim check set PD_OK. -/
def State.diesReport (s : State) (b : BootIn) : State :=
  (List.range 4).foldl (fun (s : State) (k : Nat) =>
    if hasBit s.rst.dies k ∧ hasBit b.dies.toNat k ∧ s.dieOk k = false then s.dieReports k else s) s

/-- R11, R521, R585: stage SETTLE ends: each pin die has set PD_OK, or LINK_DOWN or PD_SUPPLY is raised for it. -/
def State.settleStage (s : State) : State :=
  let s := (List.range 4).foldl (fun (s : State) (k : Nat) =>
    if hasBit s.rst.dies k = false then s.detect (128 + 64 * k + 4) k ((s.badSup.find? (fun e => e.2 == k)).map (fun e => supplyDetail e.1) |>.getD 0)
    else if s.dieOk k then s
    else s.detect (128 + 64 * k) k 0) s
  ((s.wr F.RST_STAT_STAGE 7)).endRelease

/-- RESET_RELEASE, R516, R517, R521 to R528: with every source deasserted, the sequence of the level in force goes on by one stage,
given what the stage finds. -/
def execResetRelease (boot : BootIn) (s : State) : Out :=
  .next (
    let r := s.rst
    if r.seen = 0 ∨ r.deferred = true ∨ r.on % 8 ≠ 0 ∨ s.rd F.RST_STAT_STAGE = 15 then s
    else if r.level = 2 then (if s.cplLeft then s else s.beginRelease.clearQueues.endRelease)
    else if r.releasing = false then
      (if r.level = 1 then s.beginRelease
       else if s.badSup.any (fun e => decide (e.1 ≤ 5) || e.1 == 10) then s
       else
        let s := s.beginRelease.wr F.RST_STAT_STRAP boot.strap.toNat
        ((s.wr F.GLB_ROLE_ANCHOR (bit boot.strap.toNat 0)).roleReset).wr F.RST_STAT_STAGE 1)
    else
      match s.rd F.RST_STAT_STAGE with
      | 1 => if boot.done then (s.wr F.GLB_UNITS_XTAL_OK 1).wr F.RST_STAT_STAGE 2 else s
      | 2 => if boot.done then s.otpStage boot else s
      | 3 => if boot.done then s.engineStage boot else s
      | 4 => if boot.done then s.firmwareStage boot else s
      | 5 => if boot.done then (s.diesReport boot).settleStage else s.diesReport boot
      | _ => s)

/-- DEFERRED_RESET, R519, R520: the pulse has ended and been verified, and no NV record waits: the reset acts. -/
def execDeferredReset (verified : Bool) (s : State) : Out :=
  .next (
    if s.rst.deferred = false then s
    else
      let s := match s.rst.pulse with
        | none => s
        | some p =>
          if p.row < 0x1000 then s.endNv verified
          else if verified then s.endPulse true else (s.endPulse false).detect 50 0 p.row
      if s.pulsing then s
      else
        let s := { s with rst := { s.rst with deferred := false } }
        (s.wr F.RST_STAT_DEFER 0).applyReset s.rst.level true)

/-- R524: a write of RST_CTL.CONTINUE resumes at FIRMWARE. -/
def State.leaveHold (s : State) : State := if s.rd F.RST_STAT_STAGE = 14 then s.wr F.RST_STAT_STAGE 4 else s

/-- CONTINUE, R524. -/
def execContinueW (s : State) : Out := .next s.leaveHold

/-! ### Trust -/

/-- The outcome of an OTP operation (R534). -/
def State.trustRes (s : State) (r : Nat) : State := s.wr F.TRUST_RES_RESULT r

/-- R534: a rollback counter is raised by programming, unless it stands there already. -/
def State.rollup (s : State) (fw : Bool) (v : Nat) (verified : Bool) : State :=
  let refused := decide (v > 64) ||
    (if fw then s.rd F.TRUST_STAT_FWSRC != 0 && decide (v > s.rd F.TRUST_FWSVN_SVN)
     else (List.range 256).any (fun p => s.rd F.ENG_UIMG_IMG_ID p != 0 && decide (s.rd F.ENG_USVN_SVN p < v)))
  if s.trustBusy then s
  else if refused then s.trustRes 3
  else if v ≤ (if fw then s.fwcnt else s.uccnt) then s.trustRes 2
  else if verified = false then (s.detect 54 0 0).trustRes 4
  else if fw then ({ s with rst := { s.rst with fwcnt := v } }.wr F.TRUST_STAT_FWCNT v).trustRes 2
  else ({ s with rst := { s.rst with uccnt := v } }.wr F.TRUST_STAT_UCCNT v).trustRes 2

/-- ROLLUP_FW, R534. -/
def execRollupFw (value : BitVec 8) (verified : Bool) (s : State) : Out := .next (s.rollup true value.toNat verified)

/-- ROLLUP_UC, R534. -/
def execRollupUc (value : BitVec 8) (verified : Bool) (s : State) : Out := .next (s.rollup false value.toNat verified)

/-- R534: a key slot is revoked. -/
def State.revokeSlot (s : State) (v : Nat) (verified : Bool) : State :=
  let k := v % 4
  let usable (j : Nat) : Bool := (Config.keyDigest j).isSome && !hasBit s.revokedNow j
  if s.trustBusy then s
  else if hasBit s.revokedNow k then s.trustRes 2
  else if (s.rd F.TRUST_STAT_FWSRC ≠ 0 ∧ s.rd F.TRUST_STAT_KEYSLOT = k) ∨ (List.range 4).any (fun j => j != k && usable j) = false then
    s.trustRes 3
  else if verified = false then (s.detect 54 0 0).trustRes 4
  else
    let s := { s with rst := { s.rst with revoked := withBit s.rst.revoked k } }
    (s.wr F.TRUST_STAT_REVOKED s.revokedNow).trustRes 2

/-- REVOKE, R534. -/
def execRevoke (value : BitVec 8) (verified : Bool) (s : State) : Out := .next (s.revokeSlot value.toNat verified)

/-- R537: the newest NV record is acknowledged, by a pulse of its own. -/
def State.ackNv (s : State) : State := ({ s with rst := { s.rst with ackDue := true } }).startNv

/-- ACK, R537. -/
def execAck (s : State) : Out := .next s.ackNv

/-- R487, R537: PRIORSHUT is cleared, which acknowledges the record. -/
def State.clearPrior (s : State) : State :=
  if s.on F.THM_STAT_PRIORSHUT then (s.wr F.THM_STAT_PRIORSHUT 0).ackNv else s

/-- PRIORSHUT_CLEAR, R537. -/
def execPriorshutClear (s : State) : Out := .next s.clearPrior

/-- MTPLOCK, R542. -/
def execMtplock (s : State) : Out := .next (s.wr F.TRUST_STAT_MTPLOCK 1)

end Sys2Proof.Machine
end

