-- ==== Sys2Proof/Machine/MeshOps.lean ====
section
/-! DEFINITION. What the fabric commands share: link training and latency (R437 to R447), packets as they come in (R440, R443),
discovery (R452 to R455), lost members and relayed reads (R456 to R461). -/

namespace Sys2Proof.Machine

open Sys2Proof

/-- Whether the fabric ports run: from ENGINE on (R521), and not in DEEP (R464). -/
def State.linksOn (s : State) : Bool := s.bellsOpen && s.power != 4

/-! ### Links -/

/-- R436, R438: a port enters TRAIN: what waits for it and what is unacknowledged leaves by detours where one applies. -/
def State.toTrain (s : State) (p : Nat) : State :=
  let s := s.setPortSt p ptTrain
  (((s.wr F.FAB_PSTAT_WIDTH 0 p).wr F.FAB_PSTAT_LATV 0 p).wr F.FAB_PSTAT_PEERV 0 p).portLost p

/-- A port leaves service: DOWN, FENCED, MISWIRED, DISABLED or NOPEER (R436, R438). -/
def State.toIdle (s : State) (p st : Nat) : State :=
  let s := s.setPortSt p st
  ((s.wr F.FAB_PSTAT_WIDTH 0 p).wr F.FAB_PSTAT_LATV 0 p).portLost p

/-- R437, R466: the widest set of working lanes that MAXW allows, as WIDTH shows it; 0 where no set works. -/
def laneSet (working maxw : Nat) : Nat :=
  let four := decide (maxw = 0 ∨ maxw = 3) && working == 15
  let two := maxw != 2 && (working % 4 == 3 || working / 4 % 4 == 3)
  let one := working % 2 == 1 || working / 8 % 2 == 1
  if four then 3 else if two then 2 else if one then 1 else 0

/-- R447: a latency probe leaves, or the answer to one. -/
def State.sendLmeas (s : State) (p : Nat) (bytes : List Nat) : State :=
  ({ s with out := s.out ++ [OutMsg.link p (Flit.link tyLmeas 0 false 0 0 bytes)] }).pulse 0x28 p
def State.sendProbe (s : State) (p : Nat) (depart : Stamp) : State :=
  let x := s.port p
  (s.setPort p { x with t1 := some depart }).sendLmeas p (toBytes 8 x.idx)

/-- R447: the inbound latency from the sum of 256 round trips, the trims of both ends and the trace asymmetry. -/
def State.inlat (s : State) (p : Nat) (sum trim : Int) : Int :=
  roundDiv (sum - 256 * (signed 16 (s.rd F.FAB_PTRIM_DTRIM p) - trim + signed 16 (s.rd F.FAB_PASYM_PASYM p))) 512
def State.setInlat (s : State) (p : Nat) : State :=
  match (s.port p).meas with
  | some m => s.wr F.FAB_PLAT_INLAT (ofSigned 32 (s.inlat p m.1 m.2)) p
  | none => s

/-- R447: a write of FAB_PASYM recomputes INLAT from the last mean. -/
def State.writePasym (s : State) (p v : Nat) : State :=
  (s.wr F.FAB_PASYM_PASYM v p).setInlat p

/-- R447: whether a measurement's four attempts, or one with a spread of no more than 64, are over. -/
def PortX.measured (x : PortX) : Bool := decide (x.idx ≥ 256) && (decide (x.hi - x.lo ≤ 64) || decide (x.attempt ≥ 4))

/-- R447: a reply has come: its round trip joins the attempt; the next probe leaves at `depart`. -/
def State.takeReply (s : State) (p : Nat) (f : Flit) (arrive depart : Stamp) : State :=
  let x := s.port p
  match x.t1 with
  | none => s
  | some t1 =>
    if f.field 0 1 ≠ x.idx then s
    else
      let rtt := (arrive - t1).toInt - (BitVec.ofNat 64 (f.field 16 8) - BitVec.ofNat 64 (f.field 8 8)).toInt
      let x := { x with
        t1 := none
        idx := x.idx + 1
        lo := if x.idx = 0 then rtt else min x.lo rtt
        hi := if x.idx = 0 then rtt else max x.hi rtt
        sum := if x.idx = 0 then rtt else x.sum + rtt
        trim := signed 16 (f.field 24 2) }
      let x := if x.idx ≥ 256 ∧ x.measured = false then { x with idx := 0, attempt := x.attempt + 1 } else x
      let s := s.setPort p x
      if x.measured then s else s.sendProbe p depart

/-- R440: packets not acknowledged are sent again from ACK + 1. -/
def State.replayAll (s : State) (p : Nat) : State :=
  let x := s.port p
  if x.replay.isEmpty then s
  else
    let s := { s with out := s.out ++ x.replay.map (fun (f : Flit) => OutMsg.flit p { f with ack := x.rxSeq }) }
    let s := (s.bump F.FAB_PERR_REPLAY x.unacked p).pulse 0x2A p x.unacked
    (s.pulse 0x28 p x.unacked).setPort p { x with replays := x.replays + 1 }

/-- R464: WAKE leaves for each device it is due to whose route begins at a port that is UP. -/
def State.sendWakes (s : State) (p : Nat) : State :=
  let hop (d : Nat) : Option Nat :=
    let pos := s.fab.posOf d
    s.routePort { Flit.link tyCtrl 0 false 0 0 [] with ord := s.orderTo d, dx := pos.1, dy := pos.2 }
  let now := s.fab.wakeDue.filter (fun d => hop d == some p)
  let s := { s with fab := { s.fab with wakeDue := s.fab.wakeDue.filter (fun d => !now.contains d) } }
  now.foldl (fun (s : State) (d : Nat) => s.sendCtrl d 6 0 0) s

/-- R438, R447: the measurement ends and the port enters UP: what was held and what is unacknowledged goes out. -/
def State.linkUp (s : State) (p : Nat) : State :=
  let old := s
  let x := s.port p
  let s := if x.measured then
      let spread := (x.hi - x.lo).toNat
      let good := spread ≤ 64
      let s := (s.setPort p { x with meas := some (x.sum, x.trim) }).setInlat p
      let s := (s.wr F.FAB_PSTAT_SPREAD (min spread 32767) p).wr F.FAB_PSTAT_LATV (ofBool good) p
      if good then s else s.wr F.FAB_PSTAT_LATBAD 1 p
    else (s.wr F.FAB_PSTAT_LATV 0 p).wr F.FAB_PSTAT_LATBAD 1 p
  let s := s.setPortSt p ptUp
  let s := s.portEvent p 4 (1 - s.rd F.FAB_PSTAT_LATV p)
  let x := s.port p
  let s := s.setPort p { x with lastRx := s.now, held := x.held.map (fun (e : Flit × Stamp) => (e.1, s.now)) }
  (((s.replayAll p).drainPort p x.held.length).newDetours old).sendWakes p

/-! ### Packets that come in -/

/-- Whether a packet's OP is one that R441 names. -/
def flitKnown (f : Flit) : Bool :=
  if f.ty = tyDisc then decide (1 ≤ f.field 8 1 ∧ f.field 8 1 ≤ 3)
  else if f.ty = tyCtrl then decide (1 ≤ f.field 0 1 ∧ f.field 0 1 ≤ 6) else true

/-- A packet that has reached this device (R441, R458): FABRIC_RST acts whatever the order of its sender, which has been reset. -/
def State.accept (s : State) (p : Nat) (f : Flit) : State :=
  if flitKnown f = false then s
  else if f.ty = tyCtrl ∧ f.field 0 1 = 3 then
    { (s.raise (1968 + 8 * p) 3 [f.src] (tickOf (s.now - BitVec.ofNat 64 (s.rd F.FAB_PLAT_INLAT p)))) with
      fab := { s.fab with inbox := s.fab.inbox ++ [(p, f)] } }
  else s.deliver p f

/-- R443, R445: a packet accepted from a port goes where it is bound for. -/
def State.forward (s : State) (p : Nat) (f : Flit) : State :=
  let next : Flit := { f with hops := f.hops - 1 }
  if f.ty ≥ 13 then s.bump F.FAB_DROP_DROP 1
  else if f.ty = tyDisc then
    let done := 16 - f.hops
    if done ≥ f.field 0 1 % 16 then s.accept p f
    else if f.hops ≤ 1 then s.dropPacket p
    else s.output (f.field 4 4 / 4 ^ done % 4) next
  else if s.on F.GLB_ROLE_NUMV = false then s.dropPacket p
  else
    match s.routePort f with
    | none => s.accept p f
    | some q => if f.hops ≤ 1 then s.dropPacket p else s.output q next

/-- R440: a sequenced packet arrives: taken in SEQ order only; a repeated one is discarded; the first one too far on
brings a NAK. -/
def State.sequenced (s : State) (p : Nat) (f : Flit) : State :=
  let x := s.port p
  let d := (f.seq + 4096 - x.rxSeq) % 4096
  if d = 1 then
    let s := s.setPort p { x with rxSeq := (f.seq + f.more) % 4096, naked := false }
    (s.giveCredit p f).forward p f
  else if d = 0 ∨ d ≥ 2048 then s
  else if x.naked then s
  else s.sendNak p

/-! ### Members -/

def State.memberAt (s : State) (d : Nat) : Option MemberX := Store.get (fun _ => none) s.fab.members d
def State.setMember (s : State) (d : Nat) (m : MemberX) : State :=
  { s with fab := { s.fab with members := Store.put id (fun _ => none) s.fab.members d (some m) } }

/-- A bit of a register pair that has one bit for each device. -/
def State.wrDev (s : State) (lo hi : Fld) (d : Nat) (on : Bool) : State :=
  let set (v k : Nat) : Nat := if on then withBit v k else withoutBit v k
  if d < 32 then s.wr lo (set (s.rd lo) d) else s.wr hi (set (s.rd hi) (d - 32)) 

/-- R456: the next waiting read of a member is sent while fewer than 32 are outstanding. -/
def State.sendReads (s : State) (d : Nat) : Nat → State
  | 0 => s
  | n + 1 =>
    let mine := s.fab.relays.filter (fun (r : RelayRd) => r.dev == d)
    match s.fab.waiting.find? (fun e => e.1 == d), (List.range 256).find? (fun t => !mine.any (fun (r : RelayRd) => r.tag == t)) with
    | some e, some t =>
      if mine.length ≥ 32 then s
      else
        let s := { s with
          fab := { s.fab with waiting := s.fab.waiting.erase e, relays := s.fab.relays ++ [RelayRd.mk d t s.now] } }
        (s.sendTo d tyRegRd 1 (toBytes 4 (e.2 + t * 2 ^ 24)) []).sendReads d n
    | _, _ => s

/-- A relayed read ends with a value (R456). -/
def State.endRead (s : State) (d tag v : Nat) : State :=
  if s.fab.relays.any (fun (r : RelayRd) => r.dev == d && r.tag == tag) = false then s
  else
    let s := { s with
      out := s.out ++ [OutMsg.value v]
      fab := { s.fab with relays := s.fab.relays.filter (fun (r : RelayRd) => !(r.dev == d && r.tag == tag)) } }
    s.sendReads d 1

/-- R459: the anchor declares a member lost. -/
def State.declareLost (s : State) (d : Nat) : State :=
  if d = 0 ∨ s.present d = false then s
  else
    let n := (s.fab.relays.filter (fun (r : RelayRd) => r.dev == d)).length + (s.fab.waiting.filter (fun e => e.1 == d)).length
    let s := (s.wrDev F.FAB_LOST_LO_LOST F.FAB_LOST_HI_LOST d true).detect 45 d 0
    let s := match s.memberAt d with | some m => s.setMember d { m with asked := false, missed := 0 } | none => s
    { s with
      out := s.out ++ List.replicate n (OutMsg.value 0xFFFFFFFF)
      fab := { s.fab with
        relays := s.fab.relays.filter (fun (r : RelayRd) => r.dev != d)
        waiting := s.fab.waiting.filter (fun e => e.1 != d)
        dma := s.fab.dma.filter (fun (r : DmaRd) => r.dev != d)
        ahead_ := s.fab.ahead_.filter (fun e => e.1 != d)
        gapT := Store.put id (fun _ => none) s.fab.gapT d none
        lostDue := s.fab.lostDue ++ [d] } }

/-- R454, R461: FABRIC_RST goes to a member; both ends count their packets afresh from then on. -/
def State.sendReset (s : State) (d : Nat) : State :=
  let s := s.sendCtrl d 3 0 0
  { s with
    fab := { s.fab with
      txP := s.fab.txP.set 0 d 0
      rxP := s.fab.rxP.set 65535 d 65535
      ahead_ := s.fab.ahead_.filter (fun e => e.1 != d)
      gapT := Store.put id (fun _ => none) s.fab.gapT d none } }

/-! ### Discovery -/

def rsRunning : Nat := 1
def rsOk : Nat := 2
def rsMiswired : Nat := 3
def rsInconsistent : Nat := 4
def rsTooLarge : Nat := 5
def rsChanged : Nat := 6
def rsBusy : Nat := 7
def rsRejoinFail : Nat := 8

def State.uid (s : State) : Nat := join (s.rd F.FAB_UID_LO_UID) (s.rd F.FAB_UID_HI_UID)
def State.setDisc (s : State) (d : DiscX) : State := { s with fab := { s.fab with disc := d } }

/-- The route of a probe. -/
def Probe.route (b : Probe) : List Nat := if b.rejoin.isSome then b.node.route else b.node.route ++ [b.port]

/-- R441, R452: a probe leaves by its source route. -/
def State.sendDiscProbe (s : State) (b : Probe) : State :=
  (s.setDisc { s.fab.disc with cur := some { b with sentT := s.now } }).sendDisc b.route [1, 0, 0, 0, 0, 0, 0, 0]

/-- Discovery or a rejoin ends with a result. -/
def State.endDisc (s : State) (res : Nat) : State :=
  (s.setDisc { s.fab.disc with on := false, due := false, todo := [], cur := none }).wr F.FAB_DSTAT_RESULT res

/-- R452: a failure found at a device through a port. -/
def State.failDisc (s : State) (res : Nat) (u : Node) (p : Nat) : State :=
  let s := ((s.wr F.FAB_DSTAT_ERRX (u.x % 8).toNat).wr F.FAB_DSTAT_ERRY (u.y % 8).toNat).wr F.FAB_DSTAT_ERRPORT p
  s.endDisc res

/-- A step through a port (R452). -/
def Node.step (u : Node) (p : Nat) : Int × Int :=
  (if p = 1 then u.x + 1 else if p = 3 then u.x - 1 else u.x, if p = 0 then u.y - 1 else if p = 2 then u.y + 1 else u.y)

/-- R452: the orders of the members of a mesh: by position in row-major order, the less loaded first hop taking the next. -/
def orderMesh (w h ax ay : Nat) : List (Nat × Nat) :=
  let cells := (List.range (w * h)).filter (fun i => i != ay * w + ax)
  let r := cells.foldl (fun (a : List (Nat × Nat) × List Nat) (i : Nat) =>
    let x := i % w
    let y := i / w
    let px := if x > ax then 1 else 3
    let py := if y > ay then 2 else 0
    let ord := if y = ay then 0 else if x = ax then 1 else if a.2.getD px 0 ≤ a.2.getD py 0 then 0 else 1
    let hop := if ord = 0 then px else py
    (a.1 ++ [(a.1.length + 1, ord)], a.2.set hop (a.2.getD hop 0 + 1))) (([] : List (Nat × Nat)), [0, 0, 0, 0])
  r.1

/-- ASSIGN to a member, by its route (R441, R452). -/
def State.sendAssign (s : State) (d : Nat) (m : MemberX) : State :=
  let x := s.fab
  let word := d + m.x * 2 ^ 6 + m.y * 2 ^ 9 + (x.w - 1) * 2 ^ 12 + (x.h - 1) * 2 ^ 15 + x.ax * 2 ^ 18 + x.ay * 2 ^ 21
    + s.orderTo d * 2 ^ 24
  s.sendDisc m.route ([3, 0, 0, 0, 0, 0, 0, 0] ++ toBytes 4 word)

/-- R453, R455: a member found is kept, counted as present and told its number. -/
def State.adopt (s : State) (n : Node) (left top : Int) : State :=
  let x := (n.x - left).toNat
  let y := (n.y - top).toNat
  let d := s.fab.numOf x y
  if d = 0 then s.setMember 0 { uid := n.uid, x := x, y := y }
  else
    let m : MemberX := { uid := n.uid, x := x, y := y, route := n.route }
    ((s.setMember d m).wrDev F.FAB_PRES_LO_PRES F.FAB_PRES_HI_PRES d true).sendAssign d m

/-- The registers of the mesh and of the anchor's own place (R453, R465). -/
def State.setMesh (s : State) (w h ax ay : Nat) : State :=
  let s := { s with fab := { s.fab with w := w, h := h, ax := ax, ay := ay } }
  let s := ((s.wr F.FAB_EXT_WM1 (w - 1)).wr F.FAB_EXT_HM1 (h - 1)).wr F.FAB_EXT_AX ax
  let mp := s.fab.posOf (s.rd F.WT_STAT_MASTER)
  let s := ((s.wr F.FAB_EXT_AY ay).wr F.FAB_EXT_MX mp.1).wr F.FAB_EXT_MY mp.2
  let s := ((s.wr F.GLB_ROLE_POS_X ax).wr F.GLB_ROLE_POS_Y ay).wr F.GLB_ROLE_DEVCOUNT (w * h)
  (orderMesh w h ax ay).foldl (fun (s : State) (e : Nat × Nat) => s.wrDev F.FAB_ORDER_LO_ORDER F.FAB_ORDER_HI_ORDER e.1 (e.2 == 1)) s

/-- R452, R453, R455: the queue is empty: the mesh is laid out and its members are numbered, or what an earlier discovery found is
kept. -/
def State.finishDisc (s : State) : State :=
  let found := s.fab.disc.found
  let left := found.foldl (fun (m : Int) (n : Node) => min m n.x) 0
  let top := found.foldl (fun (m : Int) (n : Node) => min m n.y) 0
  let w := (found.foldl (fun (m : Int) (n : Node) => max m n.x) 0 - left).toNat + 1
  let h := (found.foldl (fun (m : Int) (n : Node) => max m n.y) 0 - top).toNat + 1
  let ax := (-left).toNat
  let ay := (-top).toNat
  let earlier := (s.memberAt 0).isSome
  if w > 8 ∨ h > 8 then s.endDisc rsTooLarge
  else if earlier ∧ ¬ (w = s.fab.w ∧ h = s.fab.h ∧ ax = s.fab.ax ∧ ay = s.fab.ay) then s.endDisc rsChanged
  else
    let old := (List.range 64).filter (fun d => d != 0 && s.present d)
    let s := if earlier then s else s.setMesh w h ax ay
    let num (n : Node) : Nat := s.fab.numOf (n.x - left).toNat (n.y - top).toNat
    let listed (d : Nat) : Bool := if d < 32 then hasBit (s.rd F.FAB_PRES_LO_PRES) d else hasBit (s.rd F.FAB_PRES_HI_PRES) (d - 32)
    let fresh := found.filter (fun (n : Node) => !(earlier && listed (num n)))
    let s := fresh.foldl (fun (s : State) (n : Node) => s.adopt n left top) s
    let gone := old.filter (fun d => !found.any (fun (n : Node) => num n == d))
    let s := gone.foldl (fun (s : State) (d : Nat) => s.declareLost d) s
    (s.wr F.FAB_DSTAT_FOUND (found.length - 1)).endDisc rsOk

/-- R452: the next probe of the queue, or its end; from the anchor only through ports that are UP. -/
def State.nextProbe (s : State) : Nat → State
  | 0 => s
  | n + 1 =>
    let d := s.fab.disc
    match d.todo with
    | [] => ({ s with fab := { s.fab with disc := { d with cur := none } } }).finishDisc
    | e :: rest =>
      let s := s.setDisc { d with todo := rest, cur := none }
      if (e.1.route.isEmpty ∧ s.portSt e.2 ≠ ptUp) ∨ e.1.route.length ≥ 14 then s.nextProbe n
      else s.sendDiscProbe (Probe.mk e.1 e.2 none s.now false)

/-- R452: discovery begins at the anchor. -/
def State.beginDisc (s : State) (afterRst : Bool) : State :=
  let me := Node.mk s.uid 0 0 []
  let s := s.setDisc { due := false, on := true, afterRst := afterRst, started := s.now, todo := [0, 1, 2, 3].map (fun p => (me, p)), cur := none, found := [me] }
  (s.wr F.FAB_DSTAT_RESULT rsRunning).nextProbe 5

/-- The number of probes that a mesh can still ask for. -/
def State.discFuel (s : State) : Nat := s.fab.disc.todo.length + 5

/-- R452, R454: a reply to the probe under way. -/
def State.discReply (s : State) (b : Probe) (uid inport : Nat) (numbered : Bool) : State :=
  let d := s.fab.disc
  if inport ≠ opposite b.port ∨ uid = b.node.uid then s.failDisc rsMiswired b.node b.port
  else
    let q := b.node.step b.port
    match d.found.find? (fun (n : Node) => n.uid == uid) with
    | some n => if (n.x, n.y) ≠ q then s.failDisc rsInconsistent b.node b.port else s.nextProbe s.discFuel
    | none =>
      if d.afterRst ∧ numbered = true then
        let f : Flit := {
          crcOk := true, seq := 0, ack := 0, nak := false, cvc := 0, ccnt := 0, ty := tyCtrl, tc := 1, ord := 0, det := 0,
          dx := (q.1 % 8).toNat, dy := (q.2 % 8).toNat, src := s.dev, hops := 15, more := 0, pseq := 0,
          bytes := toBytes 4 3 ++ List.replicate 60 0 }
        let s := if b.rst then s else s.output (b.route.headD 0) f
        s.setDisc { d with cur := some { b with sentT := s.now, rst := true } }
      else
        let n := Node.mk uid q.1 q.2 b.route
        let s := s.setDisc { d with found := d.found ++ [n], todo := d.todo ++ [0, 1, 2, 3].map (fun p => (n, p)) }
        s.nextProbe s.discFuel

/-- R461: a rejoining device has answered: the identifier is checked, the device reset, numbered again and present. -/
def State.rejoined (s : State) (dev uid : Nat) : State :=
  match s.memberAt dev with
  | none => s.endDisc rsRejoinFail
  | some m =>
    if uid ≠ m.uid then s.endDisc rsRejoinFail
    else
      let s := (s.sendReset dev).sendAssign dev m
      let s := (s.wrDev F.FAB_LOST_LO_LOST F.FAB_LOST_HI_LOST dev false).wrDev F.FAB_PRES_LO_PRES F.FAB_PRES_HI_PRES dev true
      let s := { s with fab := { s.fab with lostDue := s.fab.lostDue.filter (fun d => d != dev) } }
      (s.endLive 45 (some dev)).endDisc rsOk

/-- R452: the probe under way has had no reply in 10 µs; one that follows FABRIC_RST is made again while discovery is within its
5 ms. -/
def State.probeTimeout (s : State) (b : Probe) : State :=
  if b.rejoin.isSome then s.endDisc rsRejoinFail
  else if b.rst ∧ ahead s.now (after s.fab.disc.started (5 * tMs)) < 0 then s.sendDiscProbe b
  else s.nextProbe s.discFuel

/-- R452: each port has left TRAIN or has spent 1 ms in NOPEER. -/
def State.portsSettled (s : State) : Bool :=
  (List.range 4).all (fun p => s.portSt p != ptTrain && (s.portSt p != ptNopeer || decide (ahead s.now (after s.fab.disc.started tMs) ≥ 0)))

/-- R452, R461: START, refused while discovery runs or a gang runs. -/
def State.startDisc (s : State) : State :=
  if s.anchor = false then s
  else if s.fab.disc.on ∨ s.anyRuns = true then s.wr F.FAB_DSTAT_RESULT rsBusy
  else s.beginDisc false

/-- R461: FENCE declares a device lost and resets it. -/
def State.fenceDev (s : State) (d : Nat) : State :=
  if s.anchor = false then s
  else if s.fab.disc.on then s.wr F.FAB_DSTAT_RESULT rsBusy
  else if d = 0 ∨ (s.memberAt d).isNone = true then s
  else (s.declareLost d).sendReset d

/-- R461: REJOIN probes a device by its recorded route. -/
def State.rejoinDev (s : State) (d : Nat) : State :=
  if s.anchor = false then s
  else if s.fab.disc.on then s.wr F.FAB_DSTAT_RESULT rsBusy
  else
    match s.memberAt d with
    | none => s.wr F.FAB_DSTAT_RESULT rsRejoinFail
    | some m =>
      if d = 0 then s.wr F.FAB_DSTAT_RESULT rsRejoinFail
      else
        let b := Probe.mk (Node.mk m.uid m.x m.y m.route) 0 (some d) s.now false
        ((s.setDisc { s.fab.disc with on := true, started := s.now }).wr F.FAB_DSTAT_RESULT rsRunning).sendDiscProbe b

/-- R461, R465: a write of FAB_DCTL. -/
def State.writeDctl (s : State) (v : Nat) : State :=
  let op := bits v 31 30
  if op = 1 then s.startDisc else if op = 2 then s.fenceDev (v % 64) else if op = 3 then s.rejoinDev (v % 64) else s

/-- R466: RETRAIN of an UP or DOWN port. -/
def State.retrainPort (s : State) (p : Nat) : State :=
  if s.portSt p = ptUp ∨ s.portSt p = ptDown then s.toTrain p else s

/-- R462, R500: UNFENCE returns a FENCED port to TRAIN once no fence is in force on it. -/
def State.unfencePort (s : State) (p : Nat) : State :=
  if s.portSt p = ptFenced ∧ s.fences.any (fun (f : FenceIn) => f.kind == 4 && f.unit == p) = false then s.toTrain p else s

/-- R436: DISABLE holds a port DISABLED, and lets it go: to NOPEER, or to FENCED while a fence is in force. -/
def State.disablePort (s : State) (p : Nat) (on : Bool) : State :=
  let s := s.wr F.FAB_PCTL_DISABLE (ofBool on) p
  if on then (if s.portSt p = ptDisabled then s else s.toIdle p ptDisabled)
  else if s.portSt p = ptDisabled then
    s.setPortSt p (if s.fences.any (fun (f : FenceIn) => f.kind == 4 && f.unit == p) then ptFenced else ptNopeer)
  else s

/-- R466: a write of FAB_PCTL. -/
def State.writePctl (s : State) (p v : Nat) : State :=
  let s := s.wr F.FAB_PCTL_MAXW (bits v 28 27) p
  let s := if hasBit v 31 ≠ s.on F.FAB_PCTL_DISABLE p then s.disablePort p (hasBit v 31) else s
  let s := if hasBit v 30 then s.retrainPort p else s
  if hasBit v 29 then s.unfencePort p else s

end Sys2Proof.Machine
end

