-- ==== Sys2Proof/Machine/RegOps.lean ====
section
/-! DEFINITION. The register window (R3 to R6, R578 to R581): what each register reads as, what a read and a write of it do,
where an access waits (R17, R467, R525, R549). -/

namespace Sys2Proof.Machine

open Sys2Proof

/-! ### Fields that no one stores -/

/-- The main path of an engine's gang, and the engine's micro-machine (R196): until a step starts, that of the last one (R135). -/
def State.gangOfPod (s : State) (p : Nat) : Gang := match s.siteOfPod p with | some n => s.gang n | none => {}
def State.microOf (s : State) (p : Nat) : MicroSt :=
  let g := s.gangOfPod p
  match g.before with | some b => b.2.at {} p | none => g.main.micro p

/-- The pods that a query of ENG_RA_QSET covers, and whether it is valid (R212, R219). -/
def State.queryPods (s : State) (p : Nat) : List Nat :=
  if s.on F.ENG_RA_QSET_GANG p then (match s.siteOfPod p with | some n => s.podsOf n | none => []) else [p]
def State.queryValid (s : State) (p : Nat) : Bool :=
  (s.tset p (s.rd F.ENG_RA_QSET_TSET p)).isSome && !(s.queryPods p).isEmpty
def State.queryDec (s : State) (p : Nat) : Option Nat :=
  if s.queryValid p then s.decOf (s.queryPods p) (s.rd F.ENG_RA_QSET_TSET p) else none
def State.queryShadow (s : State) (p : Nat) : Nat :=
  match s.queryDec p, s.tset p (s.rd F.ENG_RA_QSET_TSET p) with
  | some d, some t => (d + 48 - t.period + t.period - 1) / t.period
  | _, _ => 0

/-- Engine registers that show hidden state (R196, R219). -/
def State.engField (s : State) (f : Fld) (p j : Nat) : Nat :=
  let g := s.gangOfPod p
  let m := s.microOf p
  let stopped := s.on F.ENG_USTAT_STOPPED p
  if f = F.ENG_USTAT_ATOM then ofBool m.region
  else if f = F.ENG_USTAT_MDEPTH then m.ustack.length
  else if f = F.ENG_USTAT_ZNC then 4 * ofBool m.z + 2 * ofBool m.n + ofBool m.c
  else if f = F.ENG_USTAT_MPC then m.upc
  else if f = F.ENG_UREG_U then (if stopped then m.reg j else 0)
  else if f = F.ENG_RA_STAT_OQ then g.oq.length
  else if f = F.ENG_RA_STAT_SEB then g.sebUsed
  else if f = F.ENG_RA_STAT_CKPT then g.ckpts.length
  else if f = F.ENG_RA_STAT_SPROUT then (match g.sprout with | some x => x.oq.length | none => 0)
  else if f = F.ENG_RA_QRES_VALID then ofBool (s.queryValid p)
  else if f = F.ENG_RA_QRES_DEC then (s.queryDec p).getD 0
  else if f = F.ENG_RA_QSH_SHADOW1 then s.queryShadow p
  else s.rd f p j

/-- Segment registers of a pod (R248). -/
def State.segField (s : State) (f : Fld) (p j : Nat) : Nat :=
  let x := s.seg p j
  if f = F.ENG_SEG_STATE then x.st
  else if f = F.ENG_SEG_CONSUME then ofBool x.consume
  else if f = F.ENG_SEG_KIND then x.kind
  else if f = F.ENG_SEG_POLICY then x.policy
  else if f = F.ENG_SEG_LEN_M1 then x.len - 1
  else if f = F.ENG_SEG_LBASE then x.lbase
  else if f = F.ENG_SEG_NEXT_V then ofBool x.nextV
  else x.next

/-- Registers of a pin, a rail and a pod that copy or show hidden state (R95, R121, R285, R372). -/
def State.pinField (s : State) (f : Fld) (q : Nat) : Nat :=
  if f = F.PIN_STAT_LSET then s.rd F.PIN_LVL_D_LSET q
  else if f = F.PIN_STAT_SAFE then s.rd F.PIN_LVL_D_SAFE q
  else if f = F.PIN_STAT_SETTLING then s.rd F.POD_LVL_STAT_SETTLING (q / 4)
  else if f = F.PIN_STAT_BIAS then s.bias q
  else if f = F.PIN_STAT_DRV then s.pinDrv q
  else if f = F.PIN_STAT_RAW then (s.pinFilter q).rawS
  else if f = F.PIN_STAT_FSTATE then (s.pinFilter q).st
  else s.rd f q
def State.railField (s : State) (f : Fld) (r : Nat) : Nat :=
  let site := s.siteOfRail r
  if f = F.RAIL_STAT_VWS then s.monState r 0
  else if f = F.RAIL_STAT_IWS then s.monState r 1
  else if f = F.RAIL_STAT_ARMED then (match site with | some n => s.rd F.SITE_FSTAT_ARMED n | none => 0)
  else if f = F.RAIL_STAT_SITEV then ofBool site.isSome
  else if f = F.RAIL_STAT_SITE then site.getD 0
  else if f = F.RAIL_VRD_V then s.railVrd r
  else if f = F.RAIL_IRD_I then s.railIrd r
  else if f = F.RAIL_IPK_IPK then (match s.railPeak r with | some v => ofSigned 16 v | none => 0)
  else s.rd f r
def State.podField (s : State) (f : Fld) (p j : Nat) : Nat :=
  if f = F.POD_TIM_STAT_DESKEW then ofBool (s.pod p).deskewed
  else if f = F.POD_TIM_EYE_EYE_M then
    (if s.on F.PIN_CFG_USE (4 * p + j) && s.on F.PIN_CFG_DRV_EN (4 * p + j) then s.rd f p j else 0)
  else if f = F.POD_TIM_EYE_EYE_F then (Config.otpEye (4 * p + j)).toNat
  else if f = F.CAP_STAT_EFIFO then (s.pod p).efifo.length
  else if f = F.CAP_STAT_FULL then ofBool (decide (s.capFree p < 32))
  else if f = F.CAP_FILL_FILL then s.capFill p
  else if f = F.ENG_PM_QREM_QREM then (s.seg p (s.rd F.ENG_PM_QSEG_QSEG p)).rem
  else if f = F.ENG_PM_QSRC_QSRC then (s.seg p (s.rd F.ENG_PM_QSEG_QSEG p)).src
  else s.rd f p j

/-- Granules between the fastest and the slowest pod bound to a stream (R249). -/
def State.strmLag (s : State) (t : Nat) : Nat :=
  let got := (s.bound t).map (fun (e : Nat × Nat) => (s.seg e.1 e.2).got)
  got.foldl max 0 - s.delivered t

/-- Registers of the engine die that count or copy (R249, R286, R310, R408, R488, R512, R541, R542, R567, R577). -/
def State.coreField (s : State) (f : Fld) (i j : Nat) : Nat :=
  if f = F.RST_NVREC_REC then
    (let row := s.rd F.RST_NVSEL_SLOT
     if row > 71 then 0 else s.mtpMem.num (64 * row + 4 * i) 4)
  else if f = F.TRUST_STAT_BUSY then ofBool s.trustBusy
  else if f = F.WT_NOW_LO_NOW_LO then loWord s.now.toNat
  else if f = F.QP_STAT_INFL then s.inFlight i
  else if f = F.EVR_STAT_KEPT then (s.evr i).kept.length
  else if f = F.THM_DOM_RUNNING then (s.sitesDefined.filter (fun n => s.running n && dieOfPod (s.lead n) == i)).length
  else if f = F.FLT_STAT_PENDN then ((List.range 12).map (fun k => popCount 32 (s.rd F.FLT_PEND_PEND k))).sum
  else if f = F.FLT_DEGR_PORTS then s.degrPorts
  else if f = F.FLT_DEGR_DIES then s.degrDies
  else if f = F.FLT_DEGR_RAILS then s.degrRails
  else if f = F.FLT_DEGR_PODS then s.degrPods
  else if f = F.FLT_SRC_FIXED then ofBool (decide (i = 0))
  else if f = F.SVP_STAT_ACTIVE then ofBool s.svp.word.isSome
  else if f = F.SVP_STAT_SELD then ofBool (s.svp.sel != 15 || s.svp.phase != .idle)
  else if f = F.SVP_STAT_WBUF then s.svp.wbuf.length
  else if f = F.IU_GSTAT_QDEPTH then s.iuq.length
  else if f = F.IU_GSTAT_BUSY then ((List.range 64).filter (fun u => s.rd F.IU_STAT_STATE u == 1)).length
  else if f = F.PMC_CNT_LO_CNT_LO then loWord (s.pmcCount i)
  else if f = F.PMC_SHD_LO_SLO then loWord (s.shd.at 0 (512 * i + j))
  else if f = F.STRM_STAT_PODS then ((s.bound i).map (·.1)).eraseDups.length
  else if f = F.STRM_STAT_STAGED then s.staged i
  else if f = F.STRM_URCNT_LAG then s.strmLag i
  else if f = F.LEDG_STAT_ABOVE then ofBool s.ledgOver
  else if f = F.LEDG_FILL_FILL then s.ledgFill
  else if f = F.SITE_VPOS_LO_VPOS_LO then loWord (s.vposShown i)
  else if f = F.SITE_V_V then s.vreg i j
  else s.rd f i j

/-- The registers whose fields show hidden state, by the function that shows it. -/
def engRegs : List Reg := [.ENG_USTAT, .ENG_UREG, .ENG_RA_STAT, .ENG_RA_QRES, .ENG_RA_QSH]
def railRegs : List Reg := [.RAIL_STAT, .RAIL_VRD, .RAIL_IRD, .RAIL_IPK]
def podRegs : List Reg := [.POD_TIM_STAT, .POD_TIM_EYE, .CAP_STAT, .CAP_FILL, .ENG_PM_QREM, .ENG_PM_QSRC]
/-- Halves that a read of the other half latches while the register itself is stored whole (R55, R163, R373). -/
def latchRegs : List Reg := [.SITE_FFPOS_HI, .SITE_FSTAMP_HI, .WT_WM_LAST_HI]

/-- What a field reads as. -/
def State.field (s : State) (f : Fld) (i j : Nat) : Nat :=
  if f.acc = .wo then 0
  else if engRegs.contains f.reg then s.engField f i j
  else if f.reg = .ENG_SEG then s.segField f i j
  else if f.reg = .PIN_STAT then s.pinField f i
  else if railRegs.contains f.reg then s.railField f i
  else if podRegs.contains f.reg then s.podField f i j
  else if latchRegs.contains f.reg then Store.get FKey.reset s.latch (f.key i j)
  else s.coreField f i j

/-- Registers that the anchor alone has (R581). -/
def anchorOnly (r : Reg) : Bool :=
  [Reg.MSIX_ADDR_LO, .MSIX_ADDR_HI, .MSIX_DATA, .MSIX_CTL, .MSIX_PBA, .HQ_LINK, .FAB_DCTL, .FAB_DSTAT, .FAB_EXT, .FAB_PRES_LO,
   .FAB_PRES_HI, .FAB_LOST_LO, .FAB_LOST_HI, .FAB_ORDER_LO, .FAB_ORDER_HI].contains r

/-- Whether a field exists on this device (R41, R581). -/
def State.has (s : State) (f : Fld) : Bool := s.anchor || !(anchorOnly f.reg || f == F.WT_CTL_MASTER_DEV)

/-- R6: what a field held when the present tick began. -/
def State.before (s : State) (f : Fld) (i j : Nat) : Nat := Store.get FKey.reset s.atTick (f.key i j)

/-- R6: a field that a read clears is read as it stood before the events of the present tick. -/
def State.fieldRead (s : State) (f : Fld) (i j : Nat) : Nat :=
  if f.acc = .rc ∧ f.reg ≠ .RAIL_IPK then min (s.before f i j) (s.rd f i j) else s.field f i j

/-- What a register reads as: its fields in their bits, reserved bits 0 (R4 to R6, R581). -/
def State.regValue (s : State) (a : RegAt) : Nat :=
  (a.reg.fields.map (fun f => if s.has f then s.fieldRead f a.i a.j % 2 ^ f.width * 2 ^ f.lo else 0)).sum

/-- R6: some of a field is taken away, as it stood before the events of the present tick: what they have added stays. -/
def State.takeField (s : State) (f : Fld) (v i j : Nat) : State :=
  let s := s.wr f (s.rd f i j - v) i j
  { s with atTick := Store.put FKey.code FKey.reset s.atTick (f.key i j) (s.before f i j - v) }

/-- The half that a read of a register latches (R36, R55, R163, R373, R575, R576). -/
def State.latchHalf (s : State) (a : RegAt) : State :=
  let keep (f : Fld) : State := { s with latch := Store.put FKey.code FKey.reset s.latch (f.key a.i 0) (s.rd f a.i) }
  match a.reg with
  | .WT_NOW_LO => s.readNow
  | .PMC_CNT_LO => s.readPmc a.i
  | .PMC_SHD_LO => s.wr F.PMC_SHD_HI_SHI (s.shd.at 0 (512 * a.i + a.j) / 2 ^ 32) a.i a.j
  | .SITE_VPOS_LO => s.wr F.SITE_VPOS_HI_VPOS_HI (s.vposShown a.i / 2 ^ 32) a.i
  | .SITE_FFPOS_LO => keep F.SITE_FFPOS_HI_FFPOS_HI
  | .SITE_FSTAMP_LO => keep F.SITE_FSTAMP_HI_FSTAMP_HI
  | .WT_WM_LAST_LO => keep F.WT_WM_LAST_HI_LAST_HI
  | .RAIL_IPK => s.setRail a.i { s.rail a.i with ipk := none, ipkFrom := s.now }
  | _ => s

/-- R4, R6: a read returns the value, and then clears what a read clears and latches what a read latches. -/
def State.regRead (s : State) (a : RegAt) : Nat × State :=
  let v := s.regValue a
  (v, a.reg.fields.foldl (fun (s : State) (f : Fld) =>
    if f.acc = .rc then s.takeField f (min (s.before f a.i a.j) (s.rd f a.i a.j)) a.i a.j else s) (s.latchHalf a))

/-! ### Writes -/

/-- R4, R6: a write of one field by its access code. -/
def State.writeField (s : State) (f : Fld) (v i j : Nat) : State :=
  let w := bits v f.hi f.lo
  match f.acc with
  | .rw => s.wr f w i j
  | .w1c => s.takeField f (Nat.land (Nat.land (s.rd f i j) (s.before f i j)) w) i j
  | .w1s => s.wr f (Nat.lor (s.rd f i j) w) i j
  | _ => s

/-- A write of a register whose fields do no more than their access codes say. -/
def State.plainWrite (s : State) (a : RegAt) (v : Nat) : State :=
  a.reg.fields.foldl (fun (s : State) (f : Fld) => if s.has f then s.writeField f v a.i a.j else s) s

/-- R534: a write of TRUST_CTL; whether an OTP bit passes its verify is the part's doing. -/
def State.writeTrust (s : State) (v : Nat) : State :=
  let op := bits v 31 30
  let ok := Config.otpTakes s.free
  if op = 0 then s
  else if op = 3 then s.tookFree.revokeSlot (bits v 7 0) ok
  else s.tookFree.rollup (op == 1) (bits v 7 0) ok

/-- R541: a write of RST_CTL. -/
def State.writeRstCtl (s : State) (v : Nat) : State :=
  let s := s.wr F.RST_CTL_LEVEL (bits v 29 28)
  let s := if hasBit v 30 then s.leaveHold else s
  if hasBit v 31 then s.assertSrc 4 else s

/-- R40, R41, R47: a write of WT_CTL; a new timing master is named. -/
def State.writeWtCtl (s : State) (v : Nat) : State :=
  let s := ((s.wr F.WT_CTL_REFOUT_SEL (bit v 9)).wr F.WT_CTL_REFOUT_EN (bit v 8)).selectRef (bits v 5 4)
  if s.anchor = false ∨ s.rd F.WT_CTL_MASTER_DEV = bits v 21 16 then s else s.writeMaster (bits v 21 16)

/-- R56, R59: a write of WT_SNAP_CTL. -/
def State.writeSnapCtl (s : State) (k v : Nat) : State :=
  let s := (s.writeField F.WT_SNAP_CTL_LATE v k 0).writeField F.WT_SNAP_CTL_DONE v k 0
  let s := if hasBit v 3 then s.disarmSlot k else s
  if hasBit v 0 then s.armSlot k else s

/-- R401, R408: a write of a vector's mask: a pending message goes out when it is unmasked. -/
def State.writeMask (s : State) (k v : Nat) : State :=
  if s.anchor = false then s
  else
    let s := s.wr F.MSIX_CTL_MASK (bit v 0) k
    if hasBit v 0 = false ∧ hasBit (s.rd F.MSIX_PBA_PBA (k / 32)) (k % 32) = true then
      (s.wr F.MSIX_PBA_PBA (withoutBit (s.rd F.MSIX_PBA_PBA (k / 32)) (k % 32)) (k / 32)).msix k
    else s

/-- R422: a write of MMU_FRESUME. -/
def State.writeFresume (s : State) (v : Nat) : State :=
  let op := bits v 31 30
  let k := bits v 3 0
  if op = 1 ∨ op = 2 then
    (if s.slotNamed k (bits v 15 8) = false then s.wr F.MMU_STAT_FRBAD 1
     else if op = 1 then s.retrySlot k [] else s.abortSlot k)
  else s

/-- R426, R429, R431: a write of PRE_CTL. -/
def State.writePre (s : State) (v : Nat) : State :=
  let op := bits v 31 30
  let q := bits v 5 0
  if op = 1 then s.preempt q else if op = 2 then s.resumeQp q else if op = 3 then s.discard q else s

/-- R487, R537: a write of THM_STAT. -/
def State.writeThmStat (s : State) (v : Nat) : State :=
  let s := s.writeField F.THM_STAT_RATEHI v 0 0
  let s := if hasBit v 31 then s.shutClear else s
  if hasBit v 30 then s.clearPrior else s

/-- R506, R510: a write of FLT_SAFE. -/
def State.writeSafe (s : State) (v : Nat) : State :=
  let s := s.wr F.FLT_SAFE_ESCTMO (bits v 15 0)
  let s := if hasBit v 30 then s.enterSafe 4 else s
  if hasBit v 29 then s.exitSafe else s

/-- R182 to R184, R191, R196: a write of ENG_UCTL. -/
def State.writeUctl (s : State) (p v : Nat) : State :=
  let s := (s.wr F.ENG_UCTL_ULIM (bits v 31 24) p).wr F.ENG_UCTL_BRK_EN (bit v 4) p
  let s := if s.podRuns p then s else s.wr F.ENG_UCTL_COMPAT (bit v 0) p
  match s.siteOfPod p with
  | none => s
  | some n =>
    let s := if hasBit v 2 ∧ (s.gang n).stopped = true then s.resumeGang n false else s
    let s := if hasBit v 3 ∧ (s.gang n).stopped = true then s.resumeGang n true else s
    if hasBit v 1 ∧ s.running n = true then (s.wr F.ENG_UCTL_STOP 1 p).requestStop n 0 else s

/-! ### Service port writes (R555 to R557) -/

/-- Whether the steward drives the port (R555). -/
def State.stewardPort (s : State) : Bool := s.rd F.RST_STAT_STAGE == 4

/-- Whether a selection is answered: slave mode, enabled, a select code, and no steward at the port (R555, R559). -/
def State.svpSlave (s : State) : Bool :=
  s.rd F.SVP_CFG_MODE == 2 && s.on F.SVP_CFG_SEN && s.rd F.SVP_CFG_MYSEL != 15 && !s.stewardPort

/-- The events of the service port carry SVP_STAT (R399, R565). -/
def State.svpEvent (s : State) (src info : Nat) : State := s.raise src info [s.regValue ⟨.SVP_STAT, 0, 0⟩] s.now

/-- R564, R565: the transaction of the slave ends; a slot left in its middle is discarded. A read that still waits at a crossing ends
there, with its value for nobody. -/
def State.svpEnd (s : State) (cut : Bool) : State :=
  let s := { s with
    svp := { s.svp with phase := .idle, asked := false, got := none, failed := false }
    xwait := s.xwait.map (fun (e : XAcc) => if e.from_ = XFrom.svp ∧ e.write = false then { e with from_ := .gone } else e) }
  let s := if cut then (s.wr F.SVP_STAT_SHORT 1).svpEvent 2210 0 else s
  if s.on F.SVP_CFG_SEV then s.svpEvent 2209 (s.rd F.SVP_STAT_SCOUNT) else s

/-- A write of SVP_CFG: one that changes MODE while a word shifts or the device is selected is ignored (R555); one after which the
select code no longer selects the device ends its transaction (R559). -/
def State.writeSvpCfg (s : State) (v : Nat) : State :=
  if bits v 31 30 ≠ s.rd F.SVP_CFG_MODE ∧ (s.svp.word.isSome = true ∨ s.svp.phase ≠ .idle) then s.wr F.SVP_STAT_MBUSY 1
  else
    let t := s.plainWrite ⟨.SVP_CFG, 0, 0⟩ v
    if s.svp.phase ≠ .idle ∧ (t.svpSlave = false ∨ t.rd F.SVP_CFG_MYSEL ≠ s.rd F.SVP_CFG_MYSEL) then t.svpEnd false else t

/-- R557: RELEASE returns SEL to 0xF, after the word in progress. -/
def State.svpRelease (s : State) : State :=
  if s.stewardPort then s.wr F.SVP_STAT_MBUSY 1
  else if s.svp.word.isSome then { s with svp := { s.svp with release := true } }
  else { s with svp := { s.svp with sel := 15 } }

/-- A write of SVP_MCTL (R555, R557). -/
def State.writeSvpMctl (s : State) (v : Nat) : State :=
  if s.stewardPort then s.wr F.SVP_STAT_MBUSY 1
  else
    let s := s.plainWrite ⟨.SVP_MCTL, 0, 0⟩ v
    if hasBit v 30 then s.svpRelease else s

/-- The bits of a master word (R556). -/
def State.svpBits (s : State) : Nat := max 3 (s.rd F.SVP_CFG_WLEN) + 1

/-- R557: a write of SVP_MTX starts a word. -/
def State.writeSvpMtx (s : State) (v : Nat) : State :=
  if s.stewardPort = true ∨ s.svp.word.isSome = true then s.wr F.SVP_STAT_MBUSY 1
  else if s.rd F.SVP_CFG_MODE ≠ 1 then s
  else
    let w := v % 2 ^ s.svpBits
    { s with
      svp := { s.svp with sel := s.rd F.SVP_MCTL_SEL, word := some w }
      out := s.out ++ [OutMsg.svp (s.rd F.SVP_MCTL_SEL) w] }

/-- R547: the modes of crossings 3 and 6 are selected. -/
def State.writeXmode (s : State) (v : Nat) : State :=
  s.wr F.CLK_XMODE_MODE (0xB7 + 8 * bit v 3 + 64 * bit v 6)

/-! ### The write of any register -/

/-- Registers of a site, a rail, an output, a stream, the ledger, capture, a pod, a pin. -/
def State.writeWork (s : State) (a : RegAt) (v : Nat) : State :=
  let i := a.i
  match a.reg with
  | .SITE_FCTL => s.writeFctl i v
  | .RAIL_CTL => s.writeRailCtl i v
  | .RAIL_SET => s.writeRailSet i v
  | .RAIL_CFG => s.writeRailCfg i v
  | .RAIL_VWIN => s.writeRailVwin i v
  | .RAIL_IWIN => s.writeRailIwin i v
  | .RAIL_MON => s.writeRailMon i v
  | .AWG_CFG => s.awgCfgWrite i v
  | .AWG_SPAN => s.writeAwgSpan i v
  | .AWG_CTL => s.writeAwgCtl i v
  | .AWG_IDLE => s.writeAwgIdle i v
  | .STRM_CFG => s.writeStrmCfg i v
  | .LEDG_RD => s.ledgRdWrite v
  | .LEDG_CFG => s.ledgCfgWrite v
  | .CAP_THR => s.thrWrite i v
  | .CAP_GCTL => if hasBit v 0 then s.apply else s
  | .CAP_RD => s.capRdWrite i v
  | .CAP_CFG => s.capCfgWrite i 0 v
  | .CAP_ELOG => s.capCfgWrite i 1 v
  | .CAP_MAPSTART => s.capCfgWrite i 2 v
  | .ENG_UCTL => s.writeUctl i v
  | .ENG_RA_CTL =>
    let s := s.plainWrite a v
    if hasBit v 0 then s.setPod i { s.pod i with pred := [] } else s
  | .POD_TIM_CTL => s.writeTimCtl i v
  | .PIN_CFG => s.writePinCfg i v
  | .PIN_WATCH => s.writePinWatch i v
  | .PIN_PMU_CTL => s.writePmuCtl i v
  | _ => s.plainWrite a v

/-- Registers of the queues, translation and the fabric. -/
def State.writeHost (s : State) (a : RegAt) (v : Nat) : State :=
  let i := a.i
  match a.reg with
  | .MSIX_CTL => s.writeMask i v
  | .QP_SQB_LO | .QP_SQB_HI | .QP_CQB_LO | .QP_CQB_HI =>
    if s.qpState i = qsDisabled then s.plainWrite a v else s.wr F.QP_STAT_CFGBUSY 1 i
  | .QP_CFG => s.writeQpCfg i v
  | .EVR_BASE_LO | .EVR_BASE_HI => if s.on F.EVR_CFG_EN i then s else s.plainWrite a v
  | .EVR_CFG => s.writeEvrCfg i v
  | .HQ_QCTL => if bits v 31 30 = 1 then s.flush (bits v 5 0) else s
  | .MMU_INV => s.writeMmuInv (bits v 31 30) (bits v 7 0)
  | .MMU_FRESUME => s.writeFresume v
  | .PRE_CTL => s.writePre v
  | .FAB_DCTL => s.writeDctl v
  | .FAB_PCTL => s.writePctl i v
  | .FAB_PASYM => s.writePasym i (bits v 15 0)
  | .FAB_DETOUR => (s.plainWrite a v).newDetours s
  | _ => s.writeWork a v

/-- R4: what a write of a register does. -/
def State.regWrite (s : State) (a : RegAt) (v : Nat) : State :=
  let i := a.i
  match a.reg with
  | .RST_CTL => s.writeRstCtl v
  | .RST_NVACK => if hasBit v 0 then s.ackNv else s
  | .TRUST_CTL => s.writeTrust v
  | .WT_CTL => s.writeWtCtl v
  | .WT_XTAL => (s.wr F.WT_XTAL_TCOMP_EN (bit v 31)).writeAge (bits v 15 0)
  | .WT_SNAP_CTL => s.writeSnapCtl i v
  | .THM_STAT => s.writeThmStat v
  | .THM_CTL => if hasBit v 0 then s.releaseFloors else s
  | .FLT_SAFE => s.writeSafe v
  | .FLT_PEND => s.clearPend i v
  | .FLT_SRC => s.writeFltSrc i v
  | .SVP_CFG => s.writeSvpCfg v
  | .SVP_MCTL => s.writeSvpMctl v
  | .SVP_MTX => s.writeSvpMtx v
  | .CLK_XMODE => s.writeXmode v
  | .IU_CTL => s.writeIuCtl i v
  | .IU_CAL => s.writeIuCal v
  | .PMC_CNT_LO => s.writePmc i v
  | .PMC_SEL => s.pmcSelect i v
  | _ => s.writeHost a v

/-! ### Where an access waits -/

/-- The block of the window in which an offset lies, and one more than the instance where the block is indexed (R578). -/
def blockOf (off : Nat) : Nat × Nat :=
  let row := ([0x1000, 0x2000, 0x3000, 0x4000, 0x6000, 0x7000, 0x8000, 0x9000, 0xA000, 0xC000, 0xD000, 0xE000, 0xF000, 0x10000,
    0x20000, 0x30000, 0x40000, 0x48000, 0x50000, 0x60000, 0xA0000, 0xE0000, 0x100000].filter (fun b => decide (b ≤ off))).length
  let at_ (base stop stride : Nat) : Option Nat := if base ≤ off ∧ off < stop then some ((off - base) / stride + 1) else none
  let inst := [at_ 0x3040 0x30C0 0x20, at_ 0x5000 0x5800 0x20, at_ 0x5800 0x5900 0x20, at_ 0x6100 0x6300 0x20, at_ 0x7100 0x7180 0x20,
    at_ 0x20000 0x30000 0x200, at_ 0x30000 0x40000 0x200, at_ 0x40000 0x40800 0x40, at_ 0x48000 0x48400 0x40,
    at_ 0x60000 0xA0000 0x400, at_ 0xA0000 0xE0000 0x100].findSome? id
  (row, inst.getD 0)

/-- Blocks that the parsnip serves (R467, R525), behind crossing 0, behind crossing 1 (R544). -/
def parsnipBlock (b : Nat) : Bool := b == 0 || b == 1 || b == 7 || b == 8
def eclkBlock (b : Nat) : Bool := b == 13 || b == 15 || b == 17 || b == 18 || b == 19 || b == 20
def dieBlock (b : Nat) : Bool := b == 16 || b == 21

/-- The crossing that an access waits at: 1 and the pin die, or 0 (R544). -/
def crossingOf (a : RegAt) : Nat × Nat :=
  let b := (blockOf a.offset).1
  if b = 16 then (1, dieOfRail a.i) else if b = 21 then (1, dieOfPin a.i) else (0, 0)

/-- What becomes of an access: it is carried out, goes to the shadow copies of stopped engine registers, waits, or is not answered. -/
inductive Way where
  | now | shadow | wait | dead
deriving DecidableEq, Repr

/-- R17, R467, R523, R525, R543, R549: what becomes of an access to a register. -/
def State.way (s : State) (a : RegAt) : Way :=
  let stage := s.rd F.RST_STAT_STAGE
  let b := (blockOf a.offset).1
  if stage < 3 ∨ stage = 15 then .dead
  else if parsnipBlock b then .now
  else if stage = 3 ∨ s.power = 4 then .wait
  else if dieBlock b then
    (let k := (crossingOf a).2
     if s.power = 3 ∨ s.dieOk k = false ∨ hasBit s.rst.dies k = false then .wait else .now)
  else if eclkBlock b then (if s.power ≥ 2 then .shadow else if s.on F.GLB_UNITS_ECLK_LOCK then .now else .wait)
  else .now

/-- R274: what a read of the aperture returns: capture memory or the ledger. -/
def State.aperture (s : State) (off : Nat) : Nat :=
  let a := s.rd F.CAP_APSEL_WIN * 0x100000 + (off - 0x100000)
  let t := s.rd F.CAP_APSEL_TGT
  if t = 0 then s.capMem.num a 4 else if t = 1 ∧ a < 0x200000 then s.ledgMem.num a 4 else 0

/-- An access ends: with the value read, or in error (R17, R456, R562). -/
def State.answer (s : State) (from_ : XFrom) (write : Bool) (v : Nat) (status : Nat) : State :=
  match from_ with
  | .host => if write then s else { s with out := s.out ++ [OutMsg.value v] }
  | .fabric tag => if write then s else s.sendTo 0 tyRegCpl 1 (toBytes 4 (tag * 2 ^ 24 + status) ++ toBytes 4 v) []
  | .svp =>
    if write then
      let s := { s with svp := { s.svp with wbuf := s.svp.wbuf.tail } }
      if status = 0 then s else (s.wr F.SVP_STAT_SERR 1).svpEvent 2212 0
    else { s with svp := { s.svp with got := some v, failed := status != 0 } }
  | .gone => s

/-- An access to a register is carried out. -/
def State.perform (s : State) (from_ : XFrom) (write : Bool) (a : RegAt) (v : Nat) : State :=
  if write then (s.regWrite a v).answer from_ true 0 0
  else
    let r := s.regRead a
    r.2.answer from_ false r.1 0

/-- An access waits at its crossing. -/
def State.waitAccess (s : State) (from_ : XFrom) (write : Bool) (off v : Nat) : State :=
  { s with xwait := s.xwait ++ [XAcc.mk from_ write off v s.now] }

/-- Whether an earlier access waits at the same crossing. -/
def behind (l : List XAcc) (a : RegAt) : Bool :=
  l.any (fun (e : XAcc) => match decodeOffset e.off with
    | some b => crossingOf b == crossingOf a && (eclkBlock (blockOf e.off).1 == eclkBlock (blockOf a.offset).1)
    | none => false)

/-- An access to this device's window that has reached it: a named register, the aperture, or nothing (R274, R579, R580). -/
def State.access (s : State) (from_ : XFrom) (write : Bool) (off v : Nat) : State :=
  match decodeOffset off with
  | none =>
    if s.rd F.RST_STAT_STAGE < 3 ∨ s.rd F.RST_STAT_STAGE = 15 then s
    else (if s.power = 4 ∧ parsnipBlock (blockOf off).1 = false then s.askWake 0 else s).answer from_ write (if off ≥ 0x100000 ∧ !write then s.aperture off else 0) 0
  | some a =>
    let s := if s.power = 4 ∧ s.way a = .wait then s.askWake 0 else s
    let held := behind s.xwait a || (eclkBlock (blockOf off).1 && !s.shadowWr.isEmpty)
    match s.way a with
    | .dead => s
    | .now => if held then s.waitAccess from_ write off v else s.perform from_ write a v
    | .wait => s.waitAccess from_ write off v
    | .shadow =>
      if write = false then s.perform from_ write a v
      else if s.shadowWr.length < 16 ∧ behind s.xwait a = false then
        ({ s.askWake 0 with shadowWr := s.shadowWr ++ [(off, v)] }).answer from_ true 0 0
      else (s.askWake 0).waitAccess from_ write off v

/-- The accesses that wait, in order: each whose domain runs again is carried out (R17, R549). -/
def State.serveWaiting (s : State) : State :=
  if s.xwait.isEmpty then s
  else
    let r := s.xwait.foldl (fun (r : State × List XAcc) (e : XAcc) =>
      match decodeOffset e.off with
      | none => r
      | some a =>
        if behind r.2 a ∨ (eclkBlock (blockOf e.off).1 && !r.1.shadowWr.isEmpty) = true then (r.1, r.2 ++ [e])
        else
          match r.1.way a with
          | .now => (r.1.perform e.from_ e.write a e.val, r.2)
          | _ => (r.1, r.2 ++ [e])) ({ s with xwait := [] }, ([] : List XAcc))
    { r.1 with xwait := r.2 ++ r.1.xwait }

/-- R17: an access that has waited 4 µs at a crossing ends in error; a write that waits behind the sixteen held for stopped engine
registers does not (R549). -/
def State.accessTimeout (s : State) (x die off : Nat) (write : Bool) : State :=
  let mine (e : XAcc) : Bool := e.off == off && e.write == write && decide (ahead s.now (after e.since 6000) ≥ 0)
    && (match decodeOffset e.off with | some a => crossingOf a == (x, if x = 1 then die else 0) && s.way a == .wait | none => false)
  match s.xwait.find? mine with
  | none => s
  | some e =>
    let s := { s with xwait := s.xwait.erase e }
    let s := s.answer e.from_ e.write 0xFFFFFFFF 1
    if x = 1 then s.detect (128 + 64 * die + 2) die off else s

/-- R3, R20, R456, R467: an access of the host to the window of a device, at the anchor. -/
def State.hostAccess (s : State) (dev off size : Nat) (write : Bool) (v : Nat) : State :=
  let stage := s.rd F.RST_STAT_STAGE
  if s.anchor = false ∨ stage < 3 ∨ stage = 15 then s
  else if size ≠ 4 ∨ off % 4 ≠ 0 then { s with out := s.out ++ [OutMsg.unsupported] }
  else if dev = s.dev then s.access .host write off v
  else if s.present dev = false then { s with out := s.out ++ [OutMsg.unsupported] }
  else
    let s := if s.power = 4 then s.askWake 0 else s
    if write then s.sendTo dev tyRegWr 1 (toBytes 4 off ++ toBytes 4 v) []
    else ({ s with fab := { s.fab with waiting := s.fab.waiting ++ [(dev, off)] } }).sendReads dev 1

/-- R549: writes held while ECLK was stopped are applied, in order. -/
def State.applyShadow (s : State) : State :=
  if s.power ≥ 2 ∨ s.on F.GLB_UNITS_ECLK_LOCK = false then s
  else s.shadowWr.foldl (fun (s : State) (e : Nat × Nat) =>
    match decodeOffset e.1 with
    | some a => s.regWrite a e.2
    | none => s) { s with shadowWr := [] }

end Sys2Proof.Machine
end

