-- ==== Sys2Proof/Machine/RegRows.lean ====
section
/-! DEFINITION. The tick, the accesses of the host to registers, and the clock crossings (R4, R17, R31, R543 to R552). -/

namespace Sys2Proof.Machine

open Sys2Proof

/-- TICK, R31, R32, R331, R470: wafer time advances; accesses that waited for a domain that runs again are carried out (R17). Before the parsnip starts it stands still (R35, R521). -/
def execTick (s : State) : Out :=
  .next (
    if s.rd F.RST_STAT_STAGE = 0 then s
    else
      let s := s.endTick
      let n := s.stride
      let t := s.now + ticks n
      let s := { s with now := t, time := { s.time with wrapDue := decide (t.toNat < s.now.toNat) }, atTick := s.regs }
      (s.countTicks n).trackTarget.serveWaiting)

/-- REGISTER_WRITE, R4, R20. -/
def execRegisterWrite (dev : Fin 64) (offset : BitVec 21) (size : Nat) (value : BitVec 32) (s : State) : Out :=
  .next (s.hostAccess dev offset.toNat size true value.toNat)

/-- REGISTER_READ, R4, R20. -/
def execRegisterRead (dev : Fin 64) (offset : BitVec 21) (size : Nat) (s : State) : Out :=
  .next (s.hostAccess dev offset.toNat size false 0)

/-! ### Crossings -/

/-- CROSSING_TIMEOUT, R17, R549. -/
def execCrossingTimeout (x : Fin 2) (die : DieId) (offset : BitVec 21) (write : Bool) (s : State) : Out :=
  .next (s.accessTimeout x die offset.toNat write)

def State.xing (s : State) (x : Nat) : XingX := s.xings.at {} x
def State.setXing (s : State) (x : Nat) (y : XingX) : State := { s with xings := s.xings.set {} x y }

/-- A bit of a field that has one for each crossing. -/
def State.xbit (s : State) (f : Fld) (x : Nat) (on : Bool) : State :=
  s.wr f (if on then withBit (s.rd f) x else withoutBit (s.rd f) x)

/-- STALE shows for the selectable crossings (R546). -/
def State.stale (s : State) (x : Nat) (on : Bool) : State := if x = 3 ∨ x = 6 then s.xbit F.CLK_XSTAT_STALE x on else s

/-- R544, R547: crossings that carry values, and whether one is in held-value mode. -/
def carriesValue (x : Nat) : Bool := x != 2 && x != 7
def carriesPulses (x : Nat) : Bool := x == 0 || x == 2 || x == 7
def State.heldMode (s : State) (x : Nat) : Bool := hasBit (s.rd F.CLK_XMODE_MODE) x

/-- R545: the destination takes a sample in double-sample mode. -/
def State.xSample (s : State) (x v : Nat) : State :=
  if carriesValue x = false ∨ s.heldMode x = true then s
  else
    let y := s.xing x
    let s := s.stale x false
    if y.last = some v then s.setXing x { y with src := v, last := some v, dest := v, differ := 0 }
    else
      let n := if y.last.isSome then y.differ + 1 else 0
      let s := s.setXing x { y with src := v, last := some v, differ := min 16 n }
      if n = 16 then s.xbit F.CLK_XSTAT_NOAGREE x true else s

/-- R546: the source value changes in held-value mode. -/
def State.xChange (s : State) (x v : Nat) : State :=
  if carriesValue x = false ∨ s.heldMode x = false then s
  else
    let y := s.xing x
    if y.req then (if v = y.src then s else (s.setXing x { y with src := v, newer := true }).stale x true)
    else (s.setXing x { y with src := v, held := v, dest := v, req := true }).stale x false

/-- R546, R548: a request is acknowledged: the newest value, or the pending count, goes with the next. -/
def State.xAck (s : State) (x : Nat) : State :=
  let y := s.xing x
  let z := if y.flight = 0 then y
    else if y.pend > 0 then { y with flight := y.pend, pend := 0, marked := false } else { y with flight := 0, marked := false }
  if z.req = false then s.setXing x z
  else if z.newer = false then s.setXing x { z with req := false }
  else (s.setXing x { z with held := z.src, dest := z.src, newer := false }).stale x false

/-- R548, R570: pulses for a counter: one goes with a request, seven wait, and the rest is lost. -/
def State.xPulses (s : State) (x n c : Nat) : State :=
  if carriesPulses x = false then s
  else
    let y := s.xing x
    let first := if y.flight = 0 then min 1 n else 0
    let kept := min (n - first) (7 - y.pend)
    let lost := n - first - kept
    let s := s.setXing x { y with flight := y.flight + first, pend := y.pend + kept, marked := y.marked || decide (0 < lost) }
    if lost = 0 then s
    else
      let s := (s.xbit F.CLK_XSTAT_OVF x true).bump F.CLK_XOVF_COUNT lost
      if x = 7 then s
      else
        let k := s.pmc.at {} c
        let s := { s with pmc := s.pmc.set {} c { k with cnt := k.cnt - lost } }
        if x = 2 then s.wr F.PMC_LOSS_LOSS (withBit (s.rd F.PMC_LOSS_LOSS (c / 32)) (c % 32)) (c / 32) else s

/-- CROSSING_TRANSFER, R545 to R548. -/
def execCrossingTransfer (x : Fin 8) (ev : Xfer) (s : State) : Out :=
  .next (match ev with
    | .sample v => s.xSample x v.toNat
    | .change v => s.xChange x v.toNat
    | .ack => s.xAck x
    | .pulses n pmc => s.xPulses x n pmc)

/-- R551: records that wait in the edge FIFOs of pin dies in reset are lost with cause FIFO. -/
def State.loseFifos (s : State) : State :=
  s.pods.foldl (fun (s : State) (e : Nat × PodX) =>
    if hasBit s.rst.dies (dieOfPod e.1) then s
    else
      let s := e.2.efifo.foldl (fun (s : State) (r : EdgeRec) => s.lose e.1 3 r.pin r.stamp F.CAP_STAT_ELOSS) s
      s.setPod e.1 { s.pod e.1 with efifo := [] }) s

/-- CROSSING_FLUSH, R551. -/
def execCrossingFlush (x : Fin 8) (s : State) : Out :=
  .next (
    let y := s.xing x
    let n := y.flight + y.pend
    let s := if n > 0 then (s.xbit F.CLK_XSTAT_OVF x true).bump F.CLK_XOVF_COUNT n else s
    let s := ((s.setXing x {}).xbit F.CLK_XSTAT_FLUSH x true).stale x true
    if x.val = 1 ∨ x.val = 2 then s.loseFifos else s)

/-- SHADOW_WRITE_APPLY, R549. -/
def execShadowWriteApply (s : State) : Out := .next s.applyShadow

/-- CLK_XMODE_WRITE, R547. -/
def execClkXmodeWrite (value : BitVec 32) (s : State) : Out := .next (s.writeXmode value.toNat)

end Sys2Proof.Machine
end

