-- ==== Sys2Proof/Machine/FabRows.lean ====
section
/-! DEFINITION. The commands of the Mladrun fabric (R436 to R466). A packet that has reached this device waits in the inbox until
the command of its kind takes it. -/

namespace Sys2Proof.Machine

open Sys2Proof

/-! ### Port states -/

/-- SIGNAL_DETECT, R436. -/
def execSignalDetect (port : PortId) (s : State) : Out :=
  .next (if s.portSt port = ptNopeer ∧ s.linksOn = true then s.toTrain port else s)

/-- R437, R447: training has succeeded with a set of lanes and a right peer: the latency measurement begins. -/
def State.startLatency (s : State) (p : Nat) (depart : Stamp) : State :=
  let s := s.setPortSt p ptLatency
  (s.setPort p { s.port p with idx := 0, t1 := none, attempt := 1, lo := 0, hi := 0, sum := 0 }).sendProbe p depart

/-- TRAINING_DONE, R436, R437: the lanes that work, what the peer says, the departure stamp of the first probe. -/
def execTrainingDone (port : PortId) (working : BitVec 4) (peer : Peer) (depart : Stamp) (s : State) : Out :=
  let p := port.val
  let w := laneSet working.toNat (s.rd F.FAB_PCTL_MAXW p)
  let trains := s.portSt p == ptTrain || (s.portSt p == ptDown && (s.port p).retry)
  .next (
    if s.linksOn = false ∨ trains = false ∨ w = 0 then s
    else
      let s := (((s.wr F.FAB_PSTAT_WIDTH w p).wr F.FAB_PSTAT_PEERV 1 p).wr F.FAB_PSTAT_PEERPORT peer.port p).wr F.FAB_PSTAT_PEERDEV peer.dev p
      let s := s.setPort p { s.port p with uid := peer.uid }
      if peer.port ≠ opposite p ∨ peer.uid = s.uid then s.toIdle p ptMiswired else s.startLatency p depart)

/-- Whether a port has been in its state, or waits to retry, for some ticks. -/
def State.portFor (s : State) (p n : Nat) : Bool := decide (ahead s.now (after (s.port p).since n) ≥ 0)

/-- TRAINING_TIMEOUT, R436: 300 µs. -/
def execTrainingTimeout (port : PortId) (s : State) : Out :=
  .next (if s.portSt port = ptTrain ∧ s.linksOn = true ∧ s.portFor port (300 * tUs) = true then s.toIdle port ptDown else s)

/-- TRAINING_RETRY, R436: every 10 ms. -/
def execTrainingRetry (port : PortId) (s : State) : Out :=
  .next (
    if s.portSt port = ptDown ∧ s.linksOn = true ∧ s.portFor port (10 * tMs) = true then
      s.setPort port { s.port port with retry := true, since := s.now }
    else s)

/-- LATENCY_MEASUREMENT, R447: the measurement has ended, or has used up its 60 µs. -/
def execLatencyMeasurement (port : PortId) (s : State) : Out :=
  .next (
    if s.portSt port = ptLatency ∧ s.linksOn = true ∧ ((s.port port).measured = true ∨ s.portFor port (60 * tUs) = true) then
      s.linkUp port
    else s)

/-- RETRAIN, R438: lock is lost, a flit has been replayed eight times, or nothing has come for 1 µs. -/
def execRetrain (port : PortId) (lockLost : Bool) (s : State) : Out :=
  let x := s.port port
  let silent := decide (ahead s.now (after x.lastRx tUs) ≥ 0)
  .next (
    if s.portSt port = ptUp ∧ s.linksOn = true ∧ (lockLost = true ∨ x.replays ≥ 8 ∨ silent = true) then
      (s.setPort port { x with replays := 0 }).toTrain port
    else s)

/-- PORT_RETRAIN, R466. -/
def execPortRetrain (port : PortId) (s : State) : Out := .next (s.retrainPort port)

/-- PORT_UNFENCE, R462. -/
def execPortUnfence (port : PortId) (s : State) : Out := .next (s.unfencePort port)

/-- DISABLE, R436. -/
def execDisable (port : PortId) (on : Bool) (s : State) : Out := .next (s.disablePort port on)

/-- FAB_PASYM_WRITE, R447. -/
def execFabPasymWrite (port : PortId) (value : BitVec 16) (s : State) : Out := .next (s.writePasym port value.toNat)

/-! ### Flits -/

/-- Whether a port takes flits of the link: it has trained. -/
def State.linked (s : State) (p : Nat) : Bool := s.linksOn && (s.portSt p == ptLatency || s.portSt p == ptUp)

/-- LMEAS, R440, R446, R447: stamped as it arrives; `depart` is the stamp of the flit that answers it. -/
def execLmeas (port : PortId) (flit : Flit) (arrive depart : Stamp) (s : State) : Out :=
  let p := port.val
  .next (
    if s.linked p = false ∨ flit.ty ≠ tyLmeas then s
    else
      let s := s.flitIn p 1
      if flit.crcOk = false then s.crcError p
      else if flit.field 1 1 % 2 = 0 then
        s.sendLmeas p (toBytes 8 (flit.field 0 1 + 256) ++ toBytes 8 arrive.toNat ++ toBytes 8 depart.toNat
          ++ toBytes 2 (s.rd F.FAB_PTRIM_DTRIM p))
      else if s.portSt p = ptLatency then s.takeReply p flit arrive depart else s)

/-- The ACK, NAK and credit fields of a good flit (R440). -/
def State.takeFields (s : State) (p : Nat) (f : Flit) : State :=
  let s := s.takeAck p f
  if f.nak && s.portSt p == ptUp then s.replayAll p else s

/-- NAK, R440: a flit with NAK makes the transmitter replay from ACK + 1. -/
def execNak (port : PortId) (flit : Flit) (s : State) : Out :=
  let p := port.val
  .next (
    if s.linked p = false ∨ flit.nak = false ∨ flit.ty ≠ tyIdle then s
    else
      let s := s.flitIn p 1
      if flit.crcOk then s.takeFields p flit else s.crcError p)

/-- IDLE_FLIT, R440. -/
def execIdleFlit (port : PortId) (flit : Flit) (s : State) : Out :=
  let p := port.val
  .next (
    if s.linked p = false ∨ flit.ty ≠ tyIdle then s
    else
      let s := s.flitIn p 1
      if flit.crcOk then s.takeFields p flit else s.crcError p)

/-- ROUTED_FLIT, R440, R443 to R445. In DEEP only WAKE gets through, to the detector of a port (R464). -/
def execRoutedFlit (port : PortId) (flit : Flit) (s : State) : Out :=
  let p := port.val
  .next (
    if flit.ty < tyDisc then s
    else if s.power = 4 ∧ flit.ty = tyCtrl ∧ flit.field 0 1 = 6 ∧ flit.crcOk = true then
      { s with fab := { s.fab with inbox := s.fab.inbox ++ [(p, flit)] } }
    else if s.linked p = false then s
    else
      let s := s.flitIn p flit.flits
      if flit.crcOk = false then (s.crcError p).sendNak p
      else (s.takeFields p flit).sequenced p flit)

/-- PACKET_DROP, R445: packets that have waited 2 ms for credit are dropped. -/
def execPacketDrop (port : PortId) (s : State) : Out :=
  let p := port.val
  let x := s.port p
  let old (e : Flit × Stamp) : Bool := decide (ahead s.now (after e.2 (2 * tMs)) ≥ 0)
  .next (
    if s.portSt p ≠ ptUp then s
    else
      (x.held.filter old).foldl (fun (s : State) (_ : Flit × Stamp) => s.dropPacket p)
        (s.setPort p { x with held := x.held.filter (fun (e : Flit × Stamp) => !old e) }))

/-! ### Discovery -/

/-- The source route of a DISC packet (R441). -/
def discRoute (f : Flit) : List Nat := (List.range (f.field 0 1 % 16)).map (fun i => f.field 4 4 / 4 ^ i % 4)

/-- Packets of a type, or of a type and OP. -/
def isTy (ty : Nat) (f : Flit) : Bool := f.ty == ty
def isDisc (op : Nat) (f : Flit) : Bool := f.ty == tyDisc && f.field 8 1 == op
def isCtrl (op : Nat) (f : Flit) : Bool := f.ty == tyCtrl && f.field 0 1 == op

/-- PROBE, R441, R452: the device answers with its identifier and the port, by the way back. -/
def execProbe (s : State) : Out :=
  .next (match s.takeIn (isDisc 1) with
    | none => s
    | some (p, f, s) =>
      let r := discRoute f
      let back := p :: (r.take (r.length - 1)).reverse.map opposite
      s.sendDisc back (toBytes 8 2 ++ toBytes 8 s.uid ++ toBytes 8 (p + 4 * s.rd F.GLB_ROLE_NUMV)))

/-- REPLY, R452, R461: the answer to the probe under way. -/
def execReply (s : State) : Out :=
  .next (match s.takeIn (isDisc 2) with
    | none => s
    | some (_, f, s) =>
      if s.anchor = false then s
      else
        match s.fab.disc.cur with
        | none => s
        | some b =>
          let r := b.route
          let back := (r.take (r.length - 1)).reverse.map opposite
          if (discRoute f).drop 1 ≠ back then s
          else
            match b.rejoin with
            | some dev => s.rejoined dev (f.field 16 8)
            | none => s.discReply b (f.field 16 8) (f.field 24 1 % 4) (hasBit (f.field 24 1) 2))

/-- ASSIGN, R441, R453: the member takes its number, position and order. -/
def execAssign (s : State) : Out :=
  .next (match s.takeIn (isDisc 3) with
    | none => s
    | some (_, f, s) =>
      if s.anchor then s
      else
        let v := f.field 16 4
        let s := ((s.wr F.GLB_ROLE_DEVNUM (bits v 5 0)).wr F.GLB_ROLE_POS_X (bits v 8 6)).wr F.GLB_ROLE_POS_Y (bits v 11 9)
        let s := ((s.wr F.GLB_ROLE_NUMV 1).wr F.GLB_ROLE_DEVCOUNT ((bits v 14 12 + 1) * (bits v 17 15 + 1))).wr F.FAB_STAT_ORD (bit v 24)
        { s with
          fab := { s.fab with w := bits v 14 12 + 1, h := bits v 17 15 + 1, ax := bits v 20 18, ay := bits v 23 21 } })

/-- DISCOVERY, R452: discovery that follows a reset begins once the ports have settled; a probe without an answer ends after 10 µs. -/
def execDiscovery (s : State) : Out :=
  .next (
    if s.anchor = false ∨ s.linksOn = false then s
    else if s.fab.disc.on then
      (match s.fab.disc.cur with
       | none => s
       | some b => if ahead s.now (after b.sentT (10 * tUs)) ≥ 0 then s.probeTimeout b else s)
    else if s.fab.disc.due ∧ s.portsSettled = true then s.beginDisc true else s)

/-- START, R452. -/
def execStart (s : State) : Out := .next s.startDisc

/-- FAB_FENCE, R461. -/
def execFabFence (dev : Fin 64) (s : State) : Out := .next (s.fenceDev dev)

/-- REJOIN, R461. -/
def execRejoin (dev : Fin 64) (s : State) : Out := .next (s.rejoinDev dev)

/-! ### Relayed access -/

/-- REG_RD, R456: a relayed read is performed as a local access; an unaligned one is not supported. -/
def execRegRd (s : State) : Out :=
  .next (match s.takeIn (isTy tyRegRd) with
    | none => s
    | some (_, f, s) =>
      let off := f.field 0 4 % 2 ^ 21
      let tag := f.field 3 1
      if s.anchor then s
      else if off % 4 ≠ 0 then s.answer (.fabric tag) false 0xFFFFFFFF 2
      else s.access (.fabric tag) false off 0)

/-- REG_WR, R456. -/
def execRegWr (s : State) : Out :=
  .next (match s.takeIn (isTy tyRegWr) with
    | none => s
    | some (_, f, s) =>
      let off := f.field 0 4 % 2 ^ 21
      if s.anchor = true ∨ off % 4 ≠ 0 then s else s.access (.fabric (f.field 3 1)) true off (f.field 4 4))

/-- REG_CPL, R456: the anchor completes the read of the host. -/
def execRegCpl (s : State) : Out :=
  .next (match s.takeIn (isTy tyRegCpl) with
    | none => s
    | some (_, f, s) =>
      if s.anchor = false then s else s.endRead f.src (f.field 3 1) (if f.field 0 1 % 4 = 0 then f.field 4 4 else 0xFFFFFFFF))

/-- RELAYED_READ_TIMEOUT, R456: 16 µs. -/
def execRelayedReadTimeout (dev : Fin 64) (tag : BitVec 8) (s : State) : Out :=
  .next (
    match s.fab.relays.find? (fun (r : RelayRd) => r.dev == dev.val && r.tag == tag.toNat) with
    | none => s
    | some r =>
      if ahead s.now (after r.sentT (16 * tUs)) < 0 then s else (s.endRead dev tag.toNat 0xFFFFFFFF).detect 44 dev 0)

/-- DOORBELL, R379. -/
def execDoorbell (s : State) : Out :=
  .next (match s.takeIn (isTy tyDoorbell) with
    | none => s
    | some (_, f, s) => if s.anchor then s else s.ring (f.field 0 2 % 4096) (f.field 4 4))

/-- IRQ, R401: a member's interrupt. -/
def execIrq (s : State) : Out :=
  .next (match s.takeIn (isTy tyIrq) with
    | none => s
    | some (_, f, s) => if s.anchor = true ∧ s.present f.src = true then s.msix (f.field 0 1) else s)

/-! ### Host memory for members -/

/-- DMA_RD, R457: the anchor reads host memory for a member. -/
def execDmaRd (s : State) : Out :=
  .next (
    if s.anchor = true ∧ s.hostOpen = false then s
    else
      match s.takeIn (isTy tyDmaRd) with
      | none => s
      | some (_, f, s) =>
        if s.anchor = false ∨ s.present f.src = false then s
        else
          let len := f.field 8 2 % 8192
          let tag := f.field 12 1
          { s with
            fab := { s.fab with dma := s.fab.dma ++ [DmaRd.mk f.src tag f.tc len [] s.now] }
            out := s.out ++ [OutMsg.read (f.field 0 8) len (.relay f.src tag)] })

/-- DMA_WR, R457: the anchor writes host memory for a member. -/
def execDmaWr (s : State) : Out :=
  .next (
    if s.anchor = true ∧ s.hostOpen = false then s
    else
      match s.takeIn (isTy tyDmaWr) with
      | none => s
      | some (_, f, s) =>
        if s.anchor = false ∨ s.present f.src = false then s
        else { s with out := s.out ++ [OutMsg.write (f.field 0 8) ((f.bytes.drop 64).take (f.field 8 2 % 1024))] })

/-- A part of a member's read has come (R457): it ends with the last part, or with a status other than OK. -/
def State.takeCpl (s : State) (f : Flit) : State :=
  let tag := f.field 12 1
  match s.fab.tags.find? (fun (e : TagRd) => e.tag == tag) with
  | none => s
  | some e =>
    let rest := s.fab.tags.filter (fun (e : TagRd) => e.tag != tag)
    let got := e.got ++ (f.bytes.drop 64).take (f.field 8 2 % 1024)
    if f.field 14 1 % 4 ≠ 0 then { s with fab := { s.fab with tags := rest } }.hostData e.target none
    else if got.length ≥ e.len then { s with fab := { s.fab with tags := rest } }.hostData e.target (some got)
    else { s with fab := { s.fab with tags := rest ++ [{ e with got := got }] } }

/-- DMA_CPL, R457. -/
def execDmaCpl (s : State) : Out :=
  .next (match s.takeIn (isTy tyDmaCpl) with
    | none => s
    | some (_, f, s) => if s.anchor then s else s.takeCpl f)

/-- DMA_TIMEOUT, R457: 50 µs. -/
def execDmaTimeout (dev : Fin 64) (tag : BitVec 8) (s : State) : Out :=
  .next (
    match s.fab.dma.find? (fun (r : DmaRd) => r.dev == dev.val && r.tag == tag.toNat) with
    | none => s
    | some r => if ahead s.now (after r.sentT (50 * tUs)) < 0 then s else s.returnDma r 2 [])

/-! ### Control packets -/

/-- R460: isolation ends. -/
def State.notIsolated (s : State) : State :=
  if s.on F.FAB_STAT_ISOLATED then (s.wr F.FAB_STAT_ISOLATED 0).endLive 47 none else s

/-- HEARTBEAT, R459, R460. -/
def execHeartbeat (s : State) : Out :=
  .next (match s.takeIn (isCtrl 1) with
    | none => s
    | some (_, f, s) =>
      if s.anchor then s
      else
        let s := s.notIsolated
        { s with fab := { s.fab with isoT := s.now } }.sendCtrl 0 2 0 (f.field 8 8))

/-- HB_REPLY, R459. -/
def execHbReply (s : State) : Out :=
  .next (match s.takeIn (isCtrl 2) with
    | none => s
    | some (_, f, s) =>
      if s.anchor = false then s
      else
        match s.memberAt f.src with
        | none => s
        | some m => s.setMember f.src { m with missed := 0, asked := false })

/-- R459, R465: ticks of a heartbeat period; heartbeats that may be missed. -/
def State.hbPeriod (s : State) : Nat := max 1 (s.rd F.FAB_CFG_HBPER) * (10 * tUs)
def State.lostN (s : State) : Nat := max 1 (s.rd F.FAB_CFG_LOSTN)

/-- HEARTBEAT_SEND, R459: one to each present member; an unanswered one counts. -/
def execHeartbeatSend (s : State) : Out :=
  .next (
    if s.anchor = false ∨ s.linksOn = false ∨ ahead s.now (after s.fab.hbT s.hbPeriod) < 0 then s
    else
      let n := s.fab.hbN
      let s := ((List.range 64).filter (fun d => d != 0 && s.present d)).foldl (fun (s : State) (d : Nat) =>
        (match s.memberAt d with
         | some m => s.setMember d { m with missed := if m.asked then m.missed + 1 else m.missed, asked := true }
         | none => s).sendCtrl d 1 0 n) s
      { s with fab := { s.fab with hbT := s.now, hbN := (n + 1) % 2 ^ 64 } })

/-- FABRIC_RST, R460, R513. -/
def execFabricRst (s : State) : Out :=
  .next (match s.takeIn (isCtrl 3) with
    | none => s
    | some (_, _, s) => if s.anchor then s else s.notIsolated.assertSrc 3)

/-- MASTER, R47, R441. -/
def execMaster (s : State) : Out :=
  .next (match s.takeIn (isCtrl 4) with
    | none => s
    | some (_, f, s) => if s.anchor then s else s.newMaster (f.field 4 1 % 64))

/-- SLEEP, R464. -/
def execSleep (s : State) : Out :=
  .next (match s.takeIn (isCtrl 5) with
    | none => s
    | some (_, _, s) => if s.anchor then s else { s with fab := { s.fab with sleep := true } })

/-- WAKE, R464, R474: it wakes this device; the anchor sends it on to every member. -/
def execWake (s : State) : Out :=
  .next (match s.takeIn (isCtrl 6) with
    | none => s
    | some (_, _, s) =>
      let s := s.askWake 6
      if s.anchor = false ∨ s.linksOn = false then s
      else
        let all := (List.range 64).filter (fun d => d != 0 && s.present d)
        ((List.range 4).filter (fun p => s.portSt p == ptUp)).foldl (fun (s : State) (p : Nat) => s.sendWakes p)
          { s with fab := { s.fab with wakeDue := all } })

/-! ### Failures -/

/-- R458: a member takes the packets held for a gap, in PSEQ order. -/
def State.takeHeld (s : State) (d : Nat) : Nat → State
  | 0 => s
  | n + 1 =>
    let last := s.fab.rxP.at 65535 d
    let dist (e : Nat × Nat × Flit) : Nat := (e.2.2.pseq + 65536 - last) % 65536
    let first := (s.fab.ahead_.filter (fun (e : Nat × Nat × Flit) => e.1 == d)).foldl
      (fun (b : Option (Nat × Nat × Flit)) (e : Nat × Nat × Flit) => match b with
        | some c => if dist e < dist c then some e else b
        | none => some e) none
    match first with
    | none => s
    | some e =>
      let s := { s with
        fab := { s.fab with
          ahead_ := s.fab.ahead_.erase e
          rxP := s.fab.rxP.set 65535 d e.2.2.pseq
          inbox := s.fab.inbox ++ [e.2] } }
      s.takeHeld d n

/-- PSEQ_GAP, R458: 20 µs. -/
def execPseqGap (dev : Fin 64) (s : State) : Out :=
  let d := dev.val
  .next (match Store.get (fun _ => none) s.fab.gapT d with
    | none => s
    | some t =>
      if ahead s.now (after t (20 * tUs)) < 0 then s
      else if s.anchor then s.declareLost d
      else
        let s := s.takeHeld d s.fab.ahead_.length
        let s := { s with fab := { s.fab with gapT := Store.put id (fun _ => none) s.fab.gapT d none } }
        (s.wr F.FAB_STAT_SEQGAP 1).detect 46 d 0)

/-- R389, R407: the entry that the anchor writes into a completion ring of a lost member. -/
def State.lostEntry (s : State) (dev : Nat) (r : QpId × BitVec 16 × Bool) : OutMsg :=
  OutMsg.peerLost dev r.1.val (toBytes 8 s.now.toNat ++ toBytes 4 (0xFFFF + stLost * 65536)
    ++ toBytes 4 (r.2.1.toNat + r.1.val * 65536 + dev * 2 ^ 22 + ofBool r.2.2 * 2 ^ 31) ++ toBytes 16 0)

/-- MEMBER_LOST, R407, R459: a member that leaves LOSTN heartbeats unanswered is lost; `rings` are the queue pairs of a lost member
that were in RUN, each with the index after its last fetched descriptor and the phase of its CQ. -/
def execMemberLost (dev : Fin 64) (rings : List (QpId × BitVec 16 × Bool)) (s : State) : Out :=
  let d := dev.val
  .next (
    if s.anchor = false then s
    else
      let s := match s.memberAt d with
        | some m => if m.missed ≥ s.lostN then s.declareLost d else s
        | none => s
      if s.fab.lostDue.contains d = false ∨ s.hostOpen = false then s
      else { s with
        out := s.out ++ rings.map (fun (r : QpId × BitVec 16 × Bool) => s.lostEntry d r)
        fab := { s.fab with lostDue := s.fab.lostDue.filter (fun e => e != d) } })

/-- ISOLATED, R460. -/
def execIsolated (s : State) : Out :=
  .next (
    if s.anchor = true ∨ s.linksOn = false ∨ s.on F.FAB_STAT_ISOLATED = true ∨ ahead s.now (after s.fab.isoT (s.lostN * s.hbPeriod)) < 0 then s
    else ({ s.wr F.FAB_STAT_ISOLATED 1 with fab := { s.fab with isoT := s.now } }).detect 47 s.dev 0)

/-- ISOTMO, R460. -/
def execIsotmo (s : State) : Out :=
  let n := s.rd F.FAB_CFG_ISOTMO
  .next (
    if s.on F.FAB_STAT_ISOLATED = false ∨ n = 0 ∨ ahead s.now (after s.fab.isoT (n * tMs)) < 0 then s
    else s.sitesDefined.foldl (fun (s : State) (k : Nat) => s.faultHusk k s.now) s)

end Sys2Proof.Machine
end

