-- ==== Sys2Proof/Machine/SvpRows.lean ====
section
/-! DEFINITION. The service port (R553 to R567). -/

namespace Sys2Proof.Machine

open Sys2Proof

/-! ### Master -/

/-- SVP_MTX, R557. -/
def execSvpMtx (value : BitVec 32) (s : State) : Out := .next (s.writeSvpMtx value.toNat)

/-- SVP_RELEASE, R557. -/
def execSvpRelease (s : State) : Out := .next s.svpRelease

/-- MASTER_WORD_END, R557: the bits received are kept; the select is released unless HOLD keeps it. -/
def execMasterWordEnd (miso : BitVec 32) (s : State) : Out :=
  .next (
    if s.svp.word = none then s
    else
      let s := s.wr F.SVP_MRX_RX (miso.toNat % 2 ^ s.svpBits)
      let drop := s.svp.release || !s.on F.SVP_MCTL_HOLD
      let s := { s with
        svp := { s.svp with word := none, release := false, sel := if drop then 15 else s.svp.sel } }
      if s.on F.SVP_MCTL_MEV then s.svpEvent 2208 0 else s)

/-! ### Slave -/

/-- A slot of the slave leaves on SVP_MISO. -/
def State.svpSlot (s : State) (word : Nat) : State := { s with out := s.out ++ [OutMsg.slot word] }
def State.svpStatus (s : State) (code : Nat) : State := s.svpSlot (0x53560000 + code * 256 + s.rd F.SVP_STAT_SCOUNT)

/-- Status codes (R561). -/
def ssReady : Nat := 1
def ssBusy : Nat := 2
def ssEnd : Nat := 3
def ssError : Nat := 4

/-- COMMAND_WORD, R560, R561. A selection is an access that wakes a device in DEEP (R562). -/
def execCommandWord (word : BitVec 32) (s : State) : Out :=
  let w := word.toNat
  let stage := s.rd F.RST_STAT_STAGE
  .next (
    if s.svpSlave = false ∨ s.svp.phase ≠ .idle ∨ stage < 3 ∨ stage = 15 then s
    else
      let s := if s.power = 4 then s.askWake 0 else s
      let s := (s.wr F.SVP_STAT_SCOUNT 0).svpStatus 0
      let x := { s.svp with inc := hasBit w 30, off := bits w 20 0, asked := false, got := none, failed := false }
      if bits w 29 21 ≠ 0 ∨ w % 4 ≠ 0 then
        ({ s with svp := { x with phase := .refused } }.wr F.SVP_STAT_SERR 1).svpEvent 2212 0
      else { s with svp := { x with phase := if hasBit w 31 then .status else .write } })

/-- Whether an offset names a register of the same block as another (R563). -/
def sameBlock (a b : Nat) : Bool := (decodeOffset b).isSome && blockOf a == blockOf b

/-- R561, R563: a data word has passed: COUNT and the offset advance. -/
def State.svpAdvance (s : State) (phase : Slave) : State :=
  let s := s.wr F.SVP_STAT_SCOUNT ((s.rd F.SVP_STAT_SCOUNT + 1) % 256)
  let x := { s.svp with asked := false, got := none, failed := false }
  if x.inc = false then { s with svp := { x with phase := phase } }
  else if sameBlock x.off (x.off + 4) then { s with svp := { x with phase := phase, off := x.off + 4 } }
  else ({ s with svp := { x with phase := .ended } }.wr F.SVP_STAT_END 1).svpEvent 2211 0

/-- The read of a status slot starts: once, and behind every posted write (R562). -/
def State.svpStart (s : State) : State :=
  if s.svp.asked = true ∨ s.svp.wbuf ≠ [] then s
  else { s with svp := { s.svp with asked := true } }.access .svp false s.svp.off 0

/-- STATUS_SLOT, R561, R562: `waits`, the answer comes after the code is fixed. -/
def execStatusSlot (waits : Bool) (s : State) : Out :=
  .next (match s.svp.phase with
    | .status =>
      let s := s.svpStart
      if s.svp.got = none ∨ waits = true then s.svpStatus ssBusy
      else
        { (s.svpStatus (if s.svp.failed then ssError else ssReady)) with svp := { s.svp with phase := .data } }
    | .refused => s.svpStatus ssError
    | .ended => s.svpStatus ssEnd
    | _ => s)

/-- DATA_WORD, R561 to R563: a word returned, or one written through the buffer of four. -/
def execDataWord (word : BitVec 32) (s : State) : Out :=
  .next (match s.svp.phase with
    | .data => (s.svpSlot (s.svp.got.getD 0)).svpAdvance .status
    | .write =>
      if s.svp.wbuf.length ≥ 4 then s.svpStatus ssBusy
      else
        let s := s.svpStatus ssReady
        { s with svp := { s.svp with wbuf := s.svp.wbuf ++ [(s.svp.off, word.toNat)] } }.svpAdvance .write
    | .refused => s.svpStatus ssError
    | .ended => s.svpStatus ssEnd
    | _ => s)

/-- SELECT_RELEASE, R564: the transaction ends; one that ends within its command word returns no data word. -/
def execSelectRelease (bitsLeft : Bool) (s : State) : Out :=
  .next (
    if s.svpSlave = false ∨ (s.svp.phase = .idle ∧ bitsLeft = false) then s
    else (if s.svp.phase = .idle then s.wr F.SVP_STAT_SCOUNT 0 else s).svpEnd bitsLeft)

/-- POSTED_WRITE, R562: the oldest posted write is carried out. -/
def execPostedWrite (s : State) : Out :=
  .next (match s.svp.wbuf with
    | [] => s
    | e :: _ =>
      if s.xwait.any (fun (a : XAcc) => a.from_ == XFrom.svp && a.write) then s else s.access .svp true e.1 e.2)

end Sys2Proof.Machine
end

