-- ==== Sys2Proof/Machine/TrigRows.lean ====
section
/-! DEFINITION. Performance counters (R572 to R574), triggers (R591, R592) and boundary scan (R593). -/

namespace Sys2Proof.Machine

open Sys2Proof

/-- PMC_SEL_WRITE, R572. -/
def execPmcSelWrite (pmc : PmcId) (value : BitVec 32) (s : State) : Out := .next (s.pmcSelect pmc value.toNat)

/-- COUNTER_OVERFLOW, R573, R574: a wrap of a counter that has not been taken in yet. -/
def execCounterOverflow (pmc : PmcId) (s : State) : Out :=
  let c := pmc.val
  .next (
    let x : PmcX := s.pmc.at {} c
    if s.pmcFull c / (2 ^ 48 : Nat) ≤ x.wraps then s
    else
      let s := { s with pmc := s.pmc.set {} c { x with wraps := x.wraps + 1 } }
      let s := if s.chained (c + 1) ∧ c + 1 < 512 then
          (let y : PmcX := s.pmc.at {} (c + 1)
           { s with pmc := s.pmc.set {} (c + 1) { y with cnt := y.cnt + 1 } })
        else s
      let s := s.wr F.PMC_OVF_OVF (withBit (s.rd F.PMC_OVF_OVF (c / 32)) (c % 32)) (c / 32)
      if s.on F.PMC_SEL_OVEV c then s.raise (2224 + c / 8) c [0] s.now else s)

/-! ### Triggers -/

/-- The stamp of a transition within the present tick; while ECLK is stopped its resolution is that of the count (R32). -/
def State.fracStamp (s : State) (frac : Fin 1024) : Stamp := if s.eclkOff then s.now else s.now + BitVec.ofNat 64 frac.val

/-- TRIG_IN, R591: a transition; one less than 2 ns after the last is neither stamped nor raised. -/
def execTrigIn (input : Fin 4) (high : Bool) (frac : Fin 1024) (s : State) : Out :=
  let i := input.val
  .next (
    let x := s.trigs.at {} i
    let t := s.fracStamp frac
    if x.inHigh = high then s
    else
      let short := match x.inT with | some u => decide (ahead t (u + ticks 3) < 0) | none => false
      let s := { s with trigs := s.trigs.set {} i { x with inHigh := high, inT := some t } }
      if short then s
      else (s.raise (2216 + i) (if high then 0 else 1) [] t).iuOther 3 i none (if high then 0 else 1) t)

/-- TRIG_OUT, R592: a rise that a marker vector has made due. -/
def execTrigOut (output : Fin 4) (s : State) : Out :=
  let i := output.val
  .next (
    let x := s.trigs.at {} i
    match x.due with
    | none => s
    | some t =>
      if reached t s.now = false ∨ x.outHigh = true then s
      else if s.power ≥ 2 then { s with trigs := s.trigs.set {} i { x with due := none } }
      else ({ s with trigs := s.trigs.set {} i { x with outHigh := true, roseT := t, due := none } }).raise (2220 + i) 0 [] t)

/-- TRIG_OUT_FALL, R592. -/
def execTrigOutFall (output : Fin 4) (s : State) : Out :=
  let i := output.val
  .next (
    let x := s.trigs.at {} i
    if x.outHigh = true ∧ (reached x.fall s.now = true ∨ x.due.isSome = true) then
      { s with trigs := s.trigs.set {} i { x with outHigh := false } }
    else s)

/-! ### Boundary scan -/

/-- The cells of the boundary chain: the 34 balls of R588, REFIN being the 35th (R597). -/
def chainLen : Nat := 35

/-- IDCODE: version, part, manufacturer (R593; IEEE 1149.1). -/
def idcode : Nat := 1 + Config.jtagMaker.toNat * 2 + 0x1024 * 2 ^ 12 + 0xB * 2 ^ 28

/-- The instruction in force: EXTEST counts only while RESET_N is low (R593). -/
def State.jtagIr (s : State) : Nat :=
  let ir := s.jtag.ir
  if ir = 3 ∧ hasBit s.rst.on 1 = false then 0 else if ir > 3 then 0 else ir

/-- What a data register captures. -/
def State.jtagCapture (s : State) : List Bool :=
  if s.jtagIr = 1 then (List.range 32).map (fun i => hasBit idcode i)
  else if s.jtagIr = 0 then [false]
  else (List.range chainLen).map (fun i => Config.ballLevel s.free i)

/-- BOUNDARY_SCAN, R593: an instruction is loaded, a data register is captured and shifted, or the controller is reset. -/
def execBoundaryScan (op : Jtag) (s : State) : Out :=
  .next (match op with
    | .instr ir => { s with jtag := { s.jtag with ir := if ir.val ≤ 3 then ir.val else 0 } }
    | .shift tdi =>
      let all := s.jtagCapture ++ tdi
      let n := tdi.length
      let s := { s with
        jtag := { s.jtag with dr := all.drop n }
        out := s.out ++ [OutMsg.scan (all.take n)] }
      if s.jtagIr = 0 ∨ s.jtagIr = 1 then s else s.tookFree
    | .reset => { s with jtag := {} })

end Sys2Proof.Machine
end

