-- ==== Sys2Proof/Machine/Dispatch.lean ====
section
/-! DEFINITION. One arm per command: the call of its meaning. -/

namespace Sys2Proof.Machine

open Sys2Proof

/-- The effect of a command on everything but the queue. -/
def exec (i : Instr) (s : State) : Host.Outcome State Fault Refusal :=
  match i with
  | .vec site path => Sys2Proof.Machine.execVec site path s
  | .loop site path => Sys2Proof.Machine.execLoop site path s
  | .endl site path => Sys2Proof.Machine.execEndl site path s
  | .jmp site path => Sys2Proof.Machine.execJmp site path s
  | .call site path => Sys2Proof.Machine.execCall site path s
  | .ret site path => Sys2Proof.Machine.execRet site path s
  | .matchW site path => Sys2Proof.Machine.execMatchW site path s
  | .jfail site path => Sys2Proof.Machine.execJfail site path s
  | .jpass site path => Sys2Proof.Machine.execJpass site path s
  | .waitt site path => Sys2Proof.Machine.execWaitt site path s
  | .waitev site path => Sys2Proof.Machine.execWaitev site path s
  | .gsync site path => Sys2Proof.Machine.execGsync site path s
  | .setlvl site path => Sys2Proof.Machine.execSetlvl site path s
  | .setload site path => Sys2Proof.Machine.execSetload site path s
  | .cnt site path => Sys2Proof.Machine.execCnt site path s
  | .logon site path => Sys2Proof.Machine.execLogon site path s
  | .logoff site path => Sys2Proof.Machine.execLogoff site path s
  | .meas site path => Sys2Proof.Machine.execMeas site path s
  | .awg site path => Sys2Proof.Machine.execAwg site path s
  | .psafe site path => Sys2Proof.Machine.execPsafe site path s
  | .ledg site path => Sys2Proof.Machine.execLedg site path s
  | .halt site path => Sys2Proof.Machine.execHalt site path s
  | .nop site path => Sys2Proof.Machine.execNop site path s
  | .illegalOpcode site path => Sys2Proof.Machine.execIllegalOpcode site path s
  | .userOpcode site path => Sys2Proof.Machine.execUserOpcode site path s
  | .shortWord site path => Sys2Proof.Machine.execShortWord site path s
  | .uUnop pod path => Sys2Proof.Machine.execUUnop pod path s
  | .uMov pod path => Sys2Proof.Machine.execUMov pod path s
  | .uLdi pod path => Sys2Proof.Machine.execULdi pod path s
  | .uLdh pod path => Sys2Proof.Machine.execULdh pod path s
  | .uAdd pod path => Sys2Proof.Machine.execUAdd pod path s
  | .uSub pod path => Sys2Proof.Machine.execUSub pod path s
  | .uAnd pod path => Sys2Proof.Machine.execUAnd pod path s
  | .uOr pod path => Sys2Proof.Machine.execUOr pod path s
  | .uXor pod path => Sys2Proof.Machine.execUXor pod path s
  | .uShl pod path => Sys2Proof.Machine.execUShl pod path s
  | .uShr pod path => Sys2Proof.Machine.execUShr pod path s
  | .uFld pod path => Sys2Proof.Machine.execUFld pod path s
  | .uCmp pod path => Sys2Proof.Machine.execUCmp pod path s
  | .uGets pod path => Sys2Proof.Machine.execUGets pod path s
  | .uUbr pod path => Sys2Proof.Machine.execUUbr pod path s
  | .uUcall pod path => Sys2Proof.Machine.execUUcall pod path s
  | .uUret pod path => Sys2Proof.Machine.execUUret pod path s
  | .uSetpc pod path => Sys2Proof.Machine.execUSetpc pod path s
  | .uIssue pod path => Sys2Proof.Machine.execUIssue pod path s
  | .uLstk pod path => Sys2Proof.Machine.execULstk pod path s
  | .uCstk pod path => Sys2Proof.Machine.execUCstk pod path s
  | .uMctr pod path => Sys2Proof.Machine.execUMctr pod path s
  | .uCond pod path => Sys2Proof.Machine.execUCond pod path s
  | .uSefx pod path => Sys2Proof.Machine.execUSefx pod path s
  | .uWait pod path => Sys2Proof.Machine.execUWait pod path s
  | .uUerr pod path => Sys2Proof.Machine.execUUerr pod path s
  | .uSafept pod path => Sys2Proof.Machine.execUSafept pod path s
  | .uGhalt pod path => Sys2Proof.Machine.execUGhalt pod path s
  | .fused site path => Sys2Proof.Machine.execFused site path s
  | .sideEffectCommit site => Sys2Proof.Machine.execSideEffectCommit site s
  | .gangStart qp cid => Sys2Proof.Machine.execGangStart qp cid s
  | .stepRunReadyCheck qp cid => Sys2Proof.Machine.execStepRunReadyCheck qp cid s
  | .vectorLaunch site => Sys2Proof.Machine.execVectorLaunch site s
  | .vectorResolve site => Sys2Proof.Machine.execVectorResolve site s
  | .strobe pin => Sys2Proof.Machine.execStrobe pin s
  | .windowCompare pin => Sys2Proof.Machine.execWindowCompare pin s
  | .branchResolve site => Sys2Proof.Machine.execBranchResolve site s
  | .matchDecision site => Sys2Proof.Machine.execMatchDecision site s
  | .waittEnd site => Sys2Proof.Machine.execWaittEnd site s
  | .waitevEvent site => Sys2Proof.Machine.execWaitevEvent site s
  | .waitevTimeout site => Sys2Proof.Machine.execWaitevTimeout site s
  | .barrierRelease qp cid bar => Sys2Proof.Machine.execBarrierRelease qp cid bar s
  | .gsyncTimeout site => Sys2Proof.Machine.execGsyncTimeout site s
  | .measWaitEnd site => Sys2Proof.Machine.execMeasWaitEnd site s
  | .ledgerCommit site => Sys2Proof.Machine.execLedgerCommit site s
  | .ledgerHoldRelease site => Sys2Proof.Machine.execLedgerHoldRelease site s
  | .ledgerEntryVisible => Sys2Proof.Machine.execLedgerEntryVisible s
  | .stepRunCompletion qp cid => Sys2Proof.Machine.execStepRunCompletion qp cid s
  | .engUctlStop pod => Sys2Proof.Machine.execEngUctlStop pod s
  | .stopTaken site => Sys2Proof.Machine.execStopTaken site s
  | .engUctlResume pod => Sys2Proof.Machine.execEngUctlResume pod s
  | .engUctlStep pod => Sys2Proof.Machine.execEngUctlStep pod s
  | .breakpoint pod => Sys2Proof.Machine.execBreakpoint pod s
  | .routineLimit site => Sys2Proof.Machine.execRoutineLimit site s
  | .engRaCtlPclr pod => Sys2Proof.Machine.execEngRaCtlPclr pod s
  | .engRaQset pod value => Sys2Proof.Machine.execEngRaQset pod value s
  | .segmentCrossing site => Sys2Proof.Machine.execSegmentCrossing site s
  | .underrunDeadline site => Sys2Proof.Machine.execUnderrunDeadline site s
  | .underrunEnd site => Sys2Proof.Machine.execUnderrunEnd site s
  | .stallTimeout site => Sys2Proof.Machine.execStallTimeout site s
  | .retirement pod seg => Sys2Proof.Machine.execRetirement pod seg s
  | .refillDone pod seg => Sys2Proof.Machine.execRefillDone pod seg s
  | .poolError pod seg granule => Sys2Proof.Machine.execPoolError pod seg granule s
  | .rewind site => Sys2Proof.Machine.execRewind site s
  | .streamGranuleFetch strm walk => Sys2Proof.Machine.execStreamGranuleFetch strm walk s
  | .streamGranuleDeliver strm pod => Sys2Proof.Machine.execStreamGranuleDeliver strm pod s
  | .streamUnderrun pod => Sys2Proof.Machine.execStreamUnderrun pod s
  | .streamFeedStop strm cause => Sys2Proof.Machine.execStreamFeedStop strm cause s
  | .strmCfgWrite strm value => Sys2Proof.Machine.execStrmCfgWrite strm value s
  | .levelSettleExpiry pod => Sys2Proof.Machine.execLevelSettleExpiry pod s
  | .filterSettled pin => Sys2Proof.Machine.execFilterSettled pin s
  | .filterDecision pin => Sys2Proof.Machine.execFilterDecision pin s
  | .levelRearm pin => Sys2Proof.Machine.execLevelRearm pin s
  | .rateWindow pin => Sys2Proof.Machine.execRateWindow pin s
  | .rawTransition pin raw frac => Sys2Proof.Machine.execRawTransition pin raw frac s
  | .pinCfgWrite pin value => Sys2Proof.Machine.execPinCfgWrite pin value s
  | .pinWatchWrite pin value => Sys2Proof.Machine.execPinWatchWrite pin value s
  | .siteTrip site => Sys2Proof.Machine.execSiteTrip site s
  | .railCrossing rail mon st => Sys2Proof.Machine.execRailCrossing rail mon st s
  | .regulationCheck rail => Sys2Proof.Machine.execRegulationCheck rail s
  | .noreg rail => Sys2Proof.Machine.execNoreg rail s
  | .railLimit rail => Sys2Proof.Machine.execRailLimit rail s
  | .railLimitExit rail => Sys2Proof.Machine.execRailLimitExit rail s
  | .rampDownEnd rail => Sys2Proof.Machine.execRampDownEnd rail s
  | .railSequenceDelay rail => Sys2Proof.Machine.execRailSequenceDelay rail s
  | .windowClose site => Sys2Proof.Machine.execWindowClose site s
  | .railCtlOn rail => Sys2Proof.Machine.execRailCtlOn rail s
  | .railCtlOff rail => Sys2Proof.Machine.execRailCtlOff rail s
  | .fence site => Sys2Proof.Machine.execFence site s
  | .unfence site => Sys2Proof.Machine.execUnfence site s
  | .armReq site on => Sys2Proof.Machine.execArmReq site on s
  | .dieLinkFail die => Sys2Proof.Machine.execDieLinkFail die s
  | .recalibration die => Sys2Proof.Machine.execRecalibration die s
  | .eyeRun pod => Sys2Proof.Machine.execEyeRun pod s
  | .eyeDone pod widths => Sys2Proof.Machine.execEyeDone pod widths s
  | .iuCalRun dies => Sys2Proof.Machine.execIuCalRun dies s
  | .calibration die => Sys2Proof.Machine.execCalibration die s
  | .calibrationEnd die resid => Sys2Proof.Machine.execCalibrationEnd die resid s
  | .unitGrant => Sys2Proof.Machine.execUnitGrant s
  | .attemptEnd unit => Sys2Proof.Machine.execAttemptEnd unit s
  | .attemptTimeout unit => Sys2Proof.Machine.execAttemptTimeout unit s
  | .iuResult unit => Sys2Proof.Machine.execIuResult unit s
  | .go unit => Sys2Proof.Machine.execGo unit s
  | .abort unit => Sys2Proof.Machine.execAbort unit s
  | .connectEnd pin => Sys2Proof.Machine.execConnectEnd pin s
  | .settleEnd pin => Sys2Proof.Machine.execSettleEnd pin s
  | .conversion pin value clamp ovr => Sys2Proof.Machine.execConversion pin value clamp ovr s
  | .triggerTimeout pin => Sys2Proof.Machine.execTriggerTimeout pin s
  | .disconnectEnd pin => Sys2Proof.Machine.execDisconnectEnd pin s
  | .pinPmuGo pin => Sys2Proof.Machine.execPinPmuGo pin s
  | .disc pin => Sys2Proof.Machine.execDisc pin s
  | .awgStart w => Sys2Proof.Machine.execAwgStart w s
  | .awgStop w => Sys2Proof.Machine.execAwgStop w s
  | .armFire w => Sys2Proof.Machine.execArmFire w s
  | .playEnd w => Sys2Proof.Machine.execPlayEnd w s
  | .waveUnderrun w => Sys2Proof.Machine.execWaveUnderrun w s
  | .spanChange w span => Sys2Proof.Machine.execSpanChange w span s
  | .unmute w => Sys2Proof.Machine.execUnmute w s
  | .mute w on => Sys2Proof.Machine.execMute w on s
  | .faultMute w => Sys2Proof.Machine.execFaultMute w s
  | .awgCfgWrite w value => Sys2Proof.Machine.execAwgCfgWrite w value s
  | .recordWrite pod => Sys2Proof.Machine.execRecordWrite pod s
  | .lossRecord pod => Sys2Proof.Machine.execLossRecord pod s
  | .captureThreshold pod => Sys2Proof.Machine.execCaptureThreshold pod s
  | .apply => Sys2Proof.Machine.execApply s
  | .capRdWrite pod value => Sys2Proof.Machine.execCapRdWrite pod value s
  | .capCfgWrite pod reg value => Sys2Proof.Machine.execCapCfgWrite pod reg value s
  | .ledgRdWrite value => Sys2Proof.Machine.execLedgRdWrite value s
  | .ledgerThreshold => Sys2Proof.Machine.execLedgerThreshold s
  | .tick => Sys2Proof.Machine.execTick s
  | .wrap => Sys2Proof.Machine.execWrap s
  | .wtNowLoRead => Sys2Proof.Machine.execWtNowLoRead s
  | .pmcCntLoRead pmc => Sys2Proof.Machine.execPmcCntLoRead pmc s
  | .pmcCntLoWrite pmc value => Sys2Proof.Machine.execPmcCntLoWrite pmc value s
  | .tcompUpdate temp => Sys2Proof.Machine.execTcompUpdate temp s
  | .compensation die temp => Sys2Proof.Machine.execCompensation die temp s
  | .ageWrite value => Sys2Proof.Machine.execAgeWrite value s
  | .referenceLost => Sys2Proof.Machine.execReferenceLost s
  | .referenceRelock => Sys2Proof.Machine.execReferenceRelock s
  | .masterDevWrite dev => Sys2Proof.Machine.execMasterDevWrite dev s
  | .beaconSend frac => Sys2Proof.Machine.execBeaconSend frac s
  | .beacon port flit frac transit => Sys2Proof.Machine.execBeacon port flit frac transit s
  | .holdover => Sys2Proof.Machine.execHoldover s
  | .unsync => Sys2Proof.Machine.execUnsync s
  | .upstreamChange => Sys2Proof.Machine.execUpstreamChange s
  | .watermark => Sys2Proof.Machine.execWatermark s
  | .arm snap => Sys2Proof.Machine.execArm snap s
  | .disarm snap => Sys2Proof.Machine.execDisarm snap s
  | .snapshotTaken snap => Sys2Proof.Machine.execSnapshotTaken snap s
  | .sqTail dev qp value => Sys2Proof.Machine.execSqTail dev qp value s
  | .cqHead dev qp value => Sys2Proof.Machine.execCqHead dev qp value s
  | .evrHead dev evr value => Sys2Proof.Machine.execEvrHead dev evr value s
  | .descriptorFetch qp walk => Sys2Proof.Machine.execDescriptorFetch qp walk s
  | .nopCommand qp cid => Sys2Proof.Machine.execNopCommand qp cid s
  | .stepRun qp cid => Sys2Proof.Machine.execStepRun qp cid s
  | .tblLoad qp cid walk => Sys2Proof.Machine.execTblLoad qp cid walk s
  | .segLoad qp cid walk => Sys2Proof.Machine.execSegLoad qp cid walk s
  | .refill qp cid => Sys2Proof.Machine.execRefill qp cid s
  | .poolLoad qp cid walk => Sys2Proof.Machine.execPoolLoad qp cid walk s
  | .ucodeLoad qp cid walk => Sys2Proof.Machine.execUcodeLoad qp cid walk s
  | .stream qp cid walk => Sys2Proof.Machine.execStream qp cid walk s
  | .capUpload qp cid walk => Sys2Proof.Machine.execCapUpload qp cid walk s
  | .ledgDrain qp cid walk => Sys2Proof.Machine.execLedgDrain qp cid walk s
  | .snapshot qp cid => Sys2Proof.Machine.execSnapshot qp cid s
  | .fwLoad qp cid walk => Sys2Proof.Machine.execFwLoad qp cid walk s
  | .mtpWrite qp cid walk verified => Sys2Proof.Machine.execMtpWrite qp cid walk verified s
  | .attest qp cid walk => Sys2Proof.Machine.execAttest qp cid walk s
  | .heldLoadRelease qp cid => Sys2Proof.Machine.execHeldLoadRelease qp cid s
  | .completionWrite qp walk => Sys2Proof.Machine.execCompletionWrite qp walk s
  | .eventRecordWrite evr walk => Sys2Proof.Machine.execEventRecordWrite evr walk s
  | .rloss evr walk => Sys2Proof.Machine.execRloss evr walk s
  | .interrupt ring => Sys2Proof.Machine.execInterrupt ring s
  | .interruptTime ring => Sys2Proof.Machine.execInterruptTime ring s
  | .qpCfgEn qp on => Sys2Proof.Machine.execQpCfgEn qp on s
  | .drainEnd qp => Sys2Proof.Machine.execDrainEnd qp s
  | .evrCfgEn evr on => Sys2Proof.Machine.execEvrCfgEn evr on s
  | .flush qp => Sys2Proof.Machine.execFlush qp s
  | .d3hot on => Sys2Proof.Machine.execD3hot on s
  | .translationFault => Sys2Proof.Machine.execTranslationFault s
  | .mmuInv op asid => Sys2Proof.Machine.execMmuInv op asid s
  | .invalidationDone => Sys2Proof.Machine.execInvalidationDone s
  | .retry slot gen walk => Sys2Proof.Machine.execRetry slot gen walk s
  | .faultAbort slot gen => Sys2Proof.Machine.execFaultAbort slot gen s
  | .ftmo slot => Sys2Proof.Machine.execFtmo slot s
  | .preempt qp => Sys2Proof.Machine.execPreempt qp s
  | .preempted qp => Sys2Proof.Machine.execPreempted qp s
  | .resume qp => Sys2Proof.Machine.execResume qp s
  | .gangRestart site => Sys2Proof.Machine.execGangRestart site s
  | .discard qp => Sys2Proof.Machine.execDiscard qp s
  | .signalDetect port => Sys2Proof.Machine.execSignalDetect port s
  | .trainingDone port working peer depart => Sys2Proof.Machine.execTrainingDone port working peer depart s
  | .trainingTimeout port => Sys2Proof.Machine.execTrainingTimeout port s
  | .trainingRetry port => Sys2Proof.Machine.execTrainingRetry port s
  | .latencyMeasurement port => Sys2Proof.Machine.execLatencyMeasurement port s
  | .retrain port lockLost => Sys2Proof.Machine.execRetrain port lockLost s
  | .lmeas port flit arrive depart => Sys2Proof.Machine.execLmeas port flit arrive depart s
  | .nak port flit => Sys2Proof.Machine.execNak port flit s
  | .routedFlit port flit => Sys2Proof.Machine.execRoutedFlit port flit s
  | .packetDrop port => Sys2Proof.Machine.execPacketDrop port s
  | .probe => Sys2Proof.Machine.execProbe s
  | .reply => Sys2Proof.Machine.execReply s
  | .assign => Sys2Proof.Machine.execAssign s
  | .regRd => Sys2Proof.Machine.execRegRd s
  | .regWr => Sys2Proof.Machine.execRegWr s
  | .regCpl => Sys2Proof.Machine.execRegCpl s
  | .relayedReadTimeout dev tag => Sys2Proof.Machine.execRelayedReadTimeout dev tag s
  | .doorbell => Sys2Proof.Machine.execDoorbell s
  | .irq => Sys2Proof.Machine.execIrq s
  | .heartbeat => Sys2Proof.Machine.execHeartbeat s
  | .hbReply => Sys2Proof.Machine.execHbReply s
  | .heartbeatSend => Sys2Proof.Machine.execHeartbeatSend s
  | .fabricRst => Sys2Proof.Machine.execFabricRst s
  | .master => Sys2Proof.Machine.execMaster s
  | .sleep => Sys2Proof.Machine.execSleep s
  | .wake => Sys2Proof.Machine.execWake s
  | .dmaRd => Sys2Proof.Machine.execDmaRd s
  | .dmaWr => Sys2Proof.Machine.execDmaWr s
  | .dmaCpl => Sys2Proof.Machine.execDmaCpl s
  | .dmaTimeout dev tag => Sys2Proof.Machine.execDmaTimeout dev tag s
  | .pseqGap dev => Sys2Proof.Machine.execPseqGap dev s
  | .memberLost dev rings => Sys2Proof.Machine.execMemberLost dev rings s
  | .isolated => Sys2Proof.Machine.execIsolated s
  | .isotmo => Sys2Proof.Machine.execIsotmo s
  | .discovery => Sys2Proof.Machine.execDiscovery s
  | .start => Sys2Proof.Machine.execStart s
  | .fabFence dev => Sys2Proof.Machine.execFabFence dev s
  | .rejoin dev => Sys2Proof.Machine.execRejoin dev s
  | .portRetrain port => Sys2Proof.Machine.execPortRetrain port s
  | .portUnfence port => Sys2Proof.Machine.execPortUnfence port s
  | .disable port on => Sys2Proof.Machine.execDisable port on s
  | .fabPasymWrite port value => Sys2Proof.Machine.execFabPasymWrite port value s
  | .powerStateChange deep => Sys2Proof.Machine.execPowerStateChange deep s
  | .wakeRequest => Sys2Proof.Machine.execWakeRequest s
  | .wakeN crystals => Sys2Proof.Machine.execWakeN crystals s
  | .powerEstimate est => Sys2Proof.Machine.execPowerEstimate est s
  | .sensorReading sensor temp broken => Sys2Proof.Machine.execSensorReading sensor temp broken s
  | .sensorRecover sensor => Sys2Proof.Machine.execSensorRecover sensor s
  | .levelLower die => Sys2Proof.Machine.execLevelLower die s
  | .shutClear => Sys2Proof.Machine.execShutClear s
  | .release => Sys2Proof.Machine.execRelease s
  | .faultDetected events => Sys2Proof.Machine.execFaultDetected events s
  | .force src => Sys2Proof.Machine.execForce src s
  | .fltSrcWrite src value => Sys2Proof.Machine.execFltSrcWrite src value s
  | .fltPendClear word value => Sys2Proof.Machine.execFltPendClear word value s
  | .collectorSweep bad => Sys2Proof.Machine.execCollectorSweep bad s
  | .enter => Sys2Proof.Machine.execEnter s
  | .exit => Sys2Proof.Machine.execExit s
  | .safeEsc unconfirmed => Sys2Proof.Machine.execSafeEsc unconfirmed s
  | .nvRecordWrite verified => Sys2Proof.Machine.execNvRecordWrite verified s
  | .liveCauseRedetect => Sys2Proof.Machine.execLiveCauseRedetect s
  | .por low => Sys2Proof.Machine.execPor low s
  | .resetN low samples => Sys2Proof.Machine.execResetN low samples s
  | .perstN low samples => Sys2Proof.Machine.execPerstN low samples s
  | .wdog crash => Sys2Proof.Machine.execWdog crash s
  | .wdogWarn => Sys2Proof.Machine.execWdogWarn s
  | .wdfire => Sys2Proof.Machine.execWdfire s
  | .resetRelease boot => Sys2Proof.Machine.execResetRelease boot s
  | .deferredReset verified => Sys2Proof.Machine.execDeferredReset verified s
  | .continueW => Sys2Proof.Machine.execContinueW s
  | .rollupFw value verified => Sys2Proof.Machine.execRollupFw value verified s
  | .rollupUc value verified => Sys2Proof.Machine.execRollupUc value verified s
  | .revoke value verified => Sys2Proof.Machine.execRevoke value verified s
  | .ack => Sys2Proof.Machine.execAck s
  | .priorshutClear => Sys2Proof.Machine.execPriorshutClear s
  | .mtplock => Sys2Proof.Machine.execMtplock s
  | .crossingTimeout x die offset write => Sys2Proof.Machine.execCrossingTimeout x die offset write s
  | .crossingTransfer x ev => Sys2Proof.Machine.execCrossingTransfer x ev s
  | .crossingFlush x => Sys2Proof.Machine.execCrossingFlush x s
  | .shadowWriteApply => Sys2Proof.Machine.execShadowWriteApply s
  | .clkXmodeWrite value => Sys2Proof.Machine.execClkXmodeWrite value s
  | .svpMtx value => Sys2Proof.Machine.execSvpMtx value s
  | .masterWordEnd miso => Sys2Proof.Machine.execMasterWordEnd miso s
  | .svpRelease => Sys2Proof.Machine.execSvpRelease s
  | .commandWord word => Sys2Proof.Machine.execCommandWord word s
  | .statusSlot waits => Sys2Proof.Machine.execStatusSlot waits s
  | .dataWord word => Sys2Proof.Machine.execDataWord word s
  | .selectRelease bitsLeft => Sys2Proof.Machine.execSelectRelease bitsLeft s
  | .postedWrite => Sys2Proof.Machine.execPostedWrite s
  | .pmcSelWrite pmc value => Sys2Proof.Machine.execPmcSelWrite pmc value s
  | .counterOverflow pmc => Sys2Proof.Machine.execCounterOverflow pmc s
  | .trigIn input high frac => Sys2Proof.Machine.execTrigIn input high frac s
  | .trigOut output => Sys2Proof.Machine.execTrigOut output s
  | .trigOutFall output => Sys2Proof.Machine.execTrigOutFall output s
  | .registerWrite dev offset size value => Sys2Proof.Machine.execRegisterWrite dev offset size value s
  | .registerRead dev offset size => Sys2Proof.Machine.execRegisterRead dev offset size s
  | .idleFlit port flit => Sys2Proof.Machine.execIdleFlit port flit s
  | .pcieCompletion target data => Sys2Proof.Machine.execPcieCompletion target data s
  | .liveCauseEnd src => Sys2Proof.Machine.execLiveCauseEnd src s
  | .dieLinkRetrain die => Sys2Proof.Machine.execDieLinkRetrain die s
  | .supplyOutOfRange supply die => Sys2Proof.Machine.execSupplyOutOfRange supply die s
  | .supplyInRange supply die => Sys2Proof.Machine.execSupplyInRange supply die s
  | .boundaryScan op => Sys2Proof.Machine.execBoundaryScan op s

end Sys2Proof.Machine
end

