-- ==== Sys2Proof/Safety.lean ====
section
/-! DEFINITION. What counts as a safe run, in the terms the statements use: the canonical form of the stores, whole ticks of
wafer time, and runs that neither fault nor are refused. -/

namespace Sys2Proof.Machine

open Sys2Proof

/-- The register store lists each field once, in the order of its code, and no field at its reset value. -/
def State.regsOk (s : State) : Bool := Store.wf FKey.code FKey.reset s.regs

/-- The on-chip memories are in canonical form: segments, pool, capture, ledger, MTP. -/
def State.memsOk (s : State) : Bool := s.segMem.wf && s.poolMem.wf && s.capMem.wf && s.ledgMem.wf && s.mtpMem.wf

/-- Wafer time counts whole ticks (R31): its fraction is 0. -/
def State.wholeTicks (s : State) : Bool := s.now.toNat % 1024 == 0

/-- The state is in canonical form. -/
def State.canonical (s : State) : Bool := s.regsOk && s.memsOk && s.wholeTicks

/-- A run of k steps neither faults nor is refused. -/
def runs (k : Nat) (s : State) : Prop := ∃ t, Host.Core.run Sys2Proof.core k s = .next t

/-- Every run from a state goes on for ever. -/
def safe (s : State) : Prop := ∀ k, runs k s

/-! ### Frames -/

/-- The parts of the state beside the registers and the queue. -/
inductive Part where
  | latch | now | free | gangs | pods | pins | ius | iuq | iuSetup | pmuSetup | pmus | waves | rails | sites | dies | segMem | poolMem
  | poolBad | capMem | ledgMem | mtpMem | siteMap | runs | evq | seqs | faultq | fences | pmc | ledgq | ledgAbove | qps | evrs | tlb
  | mmuq | strms | snaps | wm | jumps | d3hot | out | rr | lastChunk | time | ports | fab | pwr | sensors | doms | rst | safeX | live
  | xings | shadowWr | xwait | svp | trigs | jtag | shd | badSup | tok | fRestart | tickAcc | tickDie | wakeAsk | wake | safePin
  | safeRail | safeWave | atTick
deriving DecidableEq, Repr

/-- A part of the state is as before. -/
def State.same (s t : State) : Part → Prop
  | .latch => t.latch = s.latch
  | .now => t.now = s.now
  | .free => t.free = s.free
  | .gangs => t.gangs = s.gangs
  | .pods => t.pods = s.pods
  | .pins => t.pins = s.pins
  | .ius => t.ius = s.ius
  | .iuq => t.iuq = s.iuq
  | .iuSetup => t.iuSetup = s.iuSetup
  | .pmuSetup => t.pmuSetup = s.pmuSetup
  | .pmus => t.pmus = s.pmus
  | .waves => t.waves = s.waves
  | .rails => t.rails = s.rails
  | .sites => t.sites = s.sites
  | .dies => t.dies = s.dies
  | .segMem => t.segMem = s.segMem
  | .poolMem => t.poolMem = s.poolMem
  | .poolBad => t.poolBad = s.poolBad
  | .capMem => t.capMem = s.capMem
  | .ledgMem => t.ledgMem = s.ledgMem
  | .mtpMem => t.mtpMem = s.mtpMem
  | .siteMap => t.siteMap = s.siteMap
  | .runs => t.runs = s.runs
  | .evq => t.evq = s.evq
  | .seqs => t.seqs = s.seqs
  | .faultq => t.faultq = s.faultq
  | .fences => t.fences = s.fences
  | .pmc => t.pmc = s.pmc
  | .ledgq => t.ledgq = s.ledgq
  | .ledgAbove => t.ledgAbove = s.ledgAbove
  | .qps => t.qps = s.qps
  | .evrs => t.evrs = s.evrs
  | .tlb => t.tlb = s.tlb
  | .mmuq => t.mmuq = s.mmuq
  | .strms => t.strms = s.strms
  | .snaps => t.snaps = s.snaps
  | .wm => t.wm = s.wm
  | .jumps => t.jumps = s.jumps
  | .d3hot => t.d3hot = s.d3hot
  | .out => t.out = s.out
  | .rr => t.rr = s.rr
  | .lastChunk => t.lastChunk = s.lastChunk
  | .time => t.time = s.time
  | .ports => t.ports = s.ports
  | .fab => t.fab = s.fab
  | .pwr => t.pwr = s.pwr
  | .sensors => t.sensors = s.sensors
  | .doms => t.doms = s.doms
  | .rst => t.rst = s.rst
  | .safeX => t.safeX = s.safeX
  | .live => t.live = s.live
  | .xings => t.xings = s.xings
  | .shadowWr => t.shadowWr = s.shadowWr
  | .xwait => t.xwait = s.xwait
  | .svp => t.svp = s.svp
  | .trigs => t.trigs = s.trigs
  | .jtag => t.jtag = s.jtag
  | .shd => t.shd = s.shd
  | .badSup => t.badSup = s.badSup
  | .tok => t.tok = s.tok
  | .fRestart => t.fRestart = s.fRestart
  | .tickAcc => t.tickAcc = s.tickAcc
  | .tickDie => t.tickDie = s.tickDie
  | .wakeAsk => t.wakeAsk = s.wakeAsk
  | .wake => t.wake = s.wake
  | .safePin => t.safePin = s.safePin
  | .safeRail => t.safeRail = s.safeRail
  | .safeWave => t.safeWave = s.safeWave
  | .atTick => t.atTick = s.atTick

/-- Every register. -/
def everyReg : List Reg := (List.range 267).map Reg.ofNat

/-- The registers that a command may write: what it is about, what its effect sets off at once, and what it reports in. -/
def regsOf : Instr → List Reg
  | .vec .. | .loop .. | .endl .. | .jmp .. | .call .. | .ret .. | .jfail .. | .jpass .. | .waitt .. | .waitev .. | .gsync ..
  | .setlvl .. | .setload .. | .cnt .. | .logon .. | .logoff .. | .meas .. | .awg .. | .ledg .. | .halt .. | .nop .. | .uUnop ..
  | .uMov .. | .uLdi .. | .uLdh .. | .uAdd .. | .uSub .. | .uAnd .. | .uOr .. | .uXor .. | .uShl .. | .uShr .. | .uFld .. | .uCmp ..
  | .uGets .. | .uUbr .. | .uUcall .. | .uUret .. | .uSetpc .. | .uIssue .. | .uLstk .. | .uCstk .. | .uMctr .. | .uCond .. | .uSefx ..
  | .uWait .. | .uUerr .. | .uSafept .. | .uGhalt .. | .engUctlResume .. | .engUctlStep .. | .underrunEnd .. | .gangRestart .. =>
    [.IU_STAT, .SITE_PSTAT, .SITE_V, .RAIL_STAT, .LEDG_STAT, .LEDG_LOST, .ENG_STAT, .ENG_PC, .ENG_UCTL, .ENG_USTAT, .ENG_RA_STAT,
     .ENG_PM_STAT, .POD_TIM_STAT, .PIN_PMU_STAT, .PIN_TDC_SRC]
  | .matchW .. | .shortWord .. =>
    [.IU_STAT, .SITE_PSTAT, .SITE_V, .RAIL_STAT, .LEDG_STAT, .LEDG_LOST, .ENG_STAT, .ENG_PC, .ENG_UCTL, .ENG_USTAT, .ENG_RA_STAT,
     .ENG_RA_SHADOW, .ENG_PM_STAT, .POD_TIM_STAT, .PIN_PMU_STAT, .PIN_TDC_SRC]
  | .psafe .. =>
    [.IU_STAT, .SITE_PSTAT, .SITE_V, .RAIL_STAT, .LEDG_STAT, .LEDG_LOST, .ENG_STAT, .ENG_PC, .ENG_UCTL, .ENG_USTAT, .ENG_RA_STAT,
     .ENG_RA_SQ, .ENG_PM_STAT, .POD_TIM_STAT, .PIN_PMU_STAT, .PIN_TDC_SRC]
  | .illegalOpcode .. | .userOpcode .. | .routineLimit .. | .segmentCrossing .. =>
    [.IU_STAT, .SITE_PSTAT, .SITE_V, .RAIL_STAT, .LEDG_STAT, .LEDG_LOST, .ENG_STAT, .ENG_PC, .ENG_UCTL, .ENG_USTAT, .ENG_RA_STAT,
     .POD_TIM_STAT, .PIN_PMU_STAT, .PIN_TDC_SRC]
  | .fused .. =>
    [.IU_STAT, .SITE_PSTAT, .SITE_V, .RAIL_STAT, .LEDG_STAT, .LEDG_LOST, .ENG_STAT, .ENG_PC, .ENG_UCTL, .ENG_USTAT, .ENG_RA_STAT,
     .ENG_RA_SHADOW, .ENG_RA_SQ, .ENG_PM_STAT, .POD_TIM_STAT, .PIN_PMU_STAT, .PIN_TDC_SRC]
  | .sideEffectCommit .. | .ledgerCommit .. =>
    [.IU_STAT, .IU_GSTAT, .SITE_PSTAT, .SITE_FCOUNT, .SITE_FFPOS_LO, .SITE_FFPOS_HI, .SITE_TAGRES, .SITE_VVAL, .SITE_V, .RAIL_STAT,
     .AWG_CTL, .AWG_STAT, .AWG_POS, .AWG_SAMPLES, .AWG_ARMBY, .LEDG_STAT, .LEDG_LOST, .LEDG_DROP, .ENG_STAT, .ENG_PC, .ENG_UCTL,
     .ENG_USTAT, .ENG_RA_SHADOW, .ENG_PM_STAT, .POD_TIM_STAT, .POD_LVL_STAT, .PIN_LVL_A, .PIN_LVL_B, .PIN_LVL_C, .PIN_LVL_D,
     .PIN_PMU_STAT, .PIN_PMU_RES, .PIN_TDC_SRC]
  | .gangStart .. =>
    [.IU_STAT, .SITE_PSTAT, .SITE_FCOUNT, .SITE_FFPOS_LO, .SITE_FFPOS_HI, .SITE_TAGRES, .SITE_VVAL, .SITE_V, .SITE_FSTAT, .RAIL_SET,
     .RAIL_STAT, .LEDG_STAT, .LEDG_LOST, .ENG_STAT, .ENG_PC, .ENG_UCTL, .ENG_USTAT, .ENG_RA_STAT, .ENG_PM_STAT, .POD_TIM_STAT,
     .CAP_STAT, .CAP_PFC, .PIN_PMU_STAT, .PIN_TDC_SRC]
  | .stepRunReadyCheck .. =>
    [.PWR_GSTAT, .ENG_STAT]
  | .vectorLaunch .. =>
    [.IU_STAT, .SITE_PSTAT, .SITE_FCOUNT, .SITE_FFPOS_LO, .SITE_FFPOS_HI, .SITE_V, .RAIL_STAT, .LEDG_STAT, .LEDG_LOST, .ENG_STAT,
     .ENG_PC, .ENG_GAP, .ENG_UCTL, .ENG_USTAT, .ENG_RA_HOLD, .ENG_PM_STAT, .ENG_PM_PADN, .POD_TIM_STAT, .POD_TIM_COLL, .PIN_PMU_STAT,
     .PIN_TDC_SRC]
  | .vectorResolve .. | .waittEnd .. | .waitevEvent .. | .waitevTimeout .. | .gsyncTimeout .. | .measWaitEnd .. =>
    [.IU_STAT, .SITE_PSTAT, .SITE_FCOUNT, .SITE_FFPOS_LO, .SITE_FFPOS_HI, .SITE_TAGRES, .SITE_V, .RAIL_STAT, .LEDG_STAT, .LEDG_LOST,
     .ENG_STAT, .ENG_PC, .ENG_UCTL, .ENG_USTAT, .ENG_RA_STAT, .ENG_PM_STAT, .POD_TIM_STAT, .PIN_PMU_STAT, .PIN_TDC_SRC]
  | .strobe .. | .windowCompare .. =>
    [.POD_LVL_MASKED, .CAP_STAT, .CAP_PFC, .CAP_LOST]
  | .branchResolve .. =>
    [.IU_STAT, .SITE_PSTAT, .SITE_V, .RAIL_STAT, .LEDG_STAT, .LEDG_LOST, .ENG_STAT, .ENG_PC, .ENG_UCTL, .ENG_USTAT, .ENG_RA_STAT,
     .ENG_RA_MISP, .ENG_RA_RES, .ENG_RA_SQ, .ENG_PM_STAT, .POD_TIM_STAT, .PIN_PMU_STAT, .PIN_TDC_SRC]
  | .matchDecision .. =>
    [.IU_STAT, .SITE_PSTAT, .SITE_FCOUNT, .SITE_FFPOS_LO, .SITE_FFPOS_HI, .SITE_V, .RAIL_STAT, .LEDG_STAT, .LEDG_LOST, .ENG_STAT,
     .ENG_PC, .ENG_UCTL, .ENG_USTAT, .ENG_RA_STAT, .ENG_RA_SHADOW, .ENG_RA_MISP, .ENG_RA_RES, .ENG_RA_SQ, .ENG_PM_STAT, .POD_TIM_STAT,
     .PIN_PMU_STAT, .PIN_TDC_SRC]
  | .barrierRelease .. | .stepRun .. | .flush .. =>
    [.ENG_STAT]
  | .ledgerHoldRelease .. =>
    [.LEDG_STAT]
  | .ledgerEntryVisible .. =>
    [.LEDG_WR]
  | .stepRunCompletion .. | .breakpoint .. | .engRaCtlPclr .. | .retirement .. | .rewind .. | .streamGranuleDeliver .. | .connectEnd ..
  | .settleEnd .. | .conversion .. | .triggerTimeout .. | .disc .. | .captureThreshold .. | .ledgerThreshold .. | .pmcCntLoWrite ..
  | .compensation .. | .beaconSend .. | .nopCommand .. | .heldLoadRelease .. | .d3hot .. | .trainingRetry .. | .hbReply .. | .sleep ..
  | .dmaRd .. | .dmaWr .. | .wakeN .. | .liveCauseRedetect .. | .wdogWarn .. | .ack .. | .trigIn .. | .trigOut .. | .trigOutFall ..
  | .boundaryScan .. =>
    []
  | .engUctlStop .. =>
    [.ENG_UCTL]
  | .stopTaken .. =>
    [.SITE_PSTAT, .ENG_PC, .ENG_USTAT, .ENG_RA_SQ, .ENG_PM_STAT]
  | .engRaQset .. =>
    [.ENG_RA_QSET]
  | .underrunDeadline .. | .streamUnderrun .. =>
    [.IU_STAT, .SITE_PSTAT, .SITE_FCOUNT, .SITE_FFPOS_LO, .SITE_FFPOS_HI, .SITE_V, .RAIL_STAT, .STRM_STAT, .STRM_URCNT, .LEDG_STAT,
     .LEDG_LOST, .ENG_STAT, .ENG_PC, .ENG_GAP, .ENG_UCTL, .ENG_USTAT, .ENG_RA_STAT, .ENG_RA_HOLD, .ENG_PM_STAT, .ENG_PM_UR,
     .POD_TIM_STAT, .PIN_PMU_STAT, .PIN_TDC_SRC]
  | .stallTimeout .. =>
    [.IU_STAT, .SITE_PSTAT, .SITE_FCOUNT, .SITE_FFPOS_LO, .SITE_FFPOS_HI, .SITE_V, .RAIL_STAT, .LEDG_STAT, .LEDG_LOST, .ENG_STAT,
     .ENG_PC, .ENG_GAP, .ENG_UCTL, .ENG_USTAT, .ENG_RA_STAT, .ENG_RA_HOLD, .ENG_PM_STAT, .POD_TIM_STAT, .PIN_PMU_STAT, .PIN_TDC_SRC]
  | .refillDone .. =>
    [.POOL_RD]
  | .poolError .. =>
    [.ENG_PM_STAT]
  | .streamGranuleFetch .. =>
    [.PRE_YIELD, .FAB_DROP, .STRM_STAT, .STRM_FED]
  | .streamFeedStop .. =>
    [.STRM_STAT]
  | .strmCfgWrite .. =>
    [.STRM_CFG, .STRM_STAT, .STRM_FED]
  | .levelSettleExpiry .. =>
    [.POD_LVL_STAT, .PIN_STAT]
  | .filterSettled .. | .filterDecision .. =>
    [.PIN_STAT, .PIN_REARM_CNT]
  | .levelRearm .. | .rateWindow .. =>
    [.PIN_STAT, .PIN_FLAG, .PIN_REARM_CNT]
  | .rawTransition .. =>
    [.CAP_STAT, .CAP_LOST]
  | .pinCfgWrite .. =>
    [.PIN_CFG, .PIN_STAT, .PIN_FLAG]
  | .pinWatchWrite .. =>
    [.PIN_WATCH, .PIN_STAT]
  | .siteTrip .. =>
    [.IU_STAT, .SITE_PSTAT, .SITE_FCOUNT, .SITE_FFPOS_LO, .SITE_FFPOS_HI, .SITE_V, .SITE_FSTAT, .SITE_FSTAMP_LO, .SITE_FSTAMP_HI,
     .RAIL_STAT, .RAIL_FLAG, .AWG_STAT, .AWG_ARMBY, .LEDG_STAT, .LEDG_LOST, .ENG_STAT, .ENG_GAP, .ENG_UCTL, .ENG_USTAT, .ENG_RA_HOLD,
     .POD_TIM_STAT, .POD_TIM_EYE, .PIN_FLAG, .PIN_PMU_STAT, .PIN_TDC_SRC]
  | .railCrossing .. | .noreg .. =>
    [.RAIL_FLAG]
  | .regulationCheck .. | .railLimitExit .. | .rampDownEnd .. | .railSequenceDelay .. =>
    [.RAIL_STAT]
  | .railLimit .. | .railCtlOff .. =>
    [.RAIL_STAT, .RAIL_FLAG]
  | .windowClose .. =>
    [.SITE_FSTAT]
  | .railCtlOn .. =>
    [.FLT_STAT, .SITE_FSTAT, .RAIL_STAT, .RAIL_FLAG]
  | .fence .. | .isotmo .. =>
    [.IU_STAT, .SITE_PSTAT, .SITE_FCOUNT, .SITE_FFPOS_LO, .SITE_FFPOS_HI, .SITE_V, .SITE_FSTAT, .SITE_FSTAMP_LO, .SITE_FSTAMP_HI,
     .RAIL_STAT, .AWG_STAT, .AWG_ARMBY, .LEDG_STAT, .LEDG_LOST, .ENG_STAT, .ENG_GAP, .ENG_UCTL, .ENG_USTAT, .ENG_RA_HOLD,
     .POD_TIM_STAT, .POD_TIM_EYE, .PIN_PMU_STAT, .PIN_TDC_SRC]
  | .unfence .. =>
    [.FLT_STAT, .SITE_FSTAT, .RAIL_STAT, .ENG_STAT]
  | .armReq .. =>
    [.SITE_FCTL, .SITE_FSTAT]
  | .dieLinkFail .. =>
    [.GLB_UNITS, .IU_STAT, .SITE_PSTAT, .SITE_FCOUNT, .SITE_FFPOS_LO, .SITE_FFPOS_HI, .SITE_V, .SITE_FSTAT, .SITE_FSTAMP_LO,
     .SITE_FSTAMP_HI, .RAIL_STAT, .AWG_SPAN, .AWG_STAT, .AWG_ARMBY, .LEDG_STAT, .LEDG_LOST, .ENG_STAT, .ENG_GAP, .ENG_UCTL, .ENG_USTAT,
     .ENG_RA_HOLD, .POD_TIM_STAT, .POD_TIM_EYE, .PIN_PMU_STAT, .PIN_TDC_SRC]
  | .recalibration .. =>
    [.POD_TIM_STAT]
  | .eyeRun .. =>
    [.FLT_STAT, .POD_TIM_STAT, .PIN_FLAG]
  | .eyeDone .. =>
    [.POD_TIM_STAT, .POD_TIM_EYE]
  | .iuCalRun .. | .calibration .. =>
    [.IU_CALST]
  | .calibrationEnd .. =>
    [.IU_CALST, .PIN_TDC_CAL]
  | .unitGrant .. | .iuResult .. =>
    [.IU_RES, .IU_STAT, .SITE_VVAL, .SITE_V, .PIN_TDC_SRC]
  | .attemptEnd .. | .attemptTimeout .. =>
    [.IU_STAT]
  | .go .. =>
    [.FLT_STAT, .IU_RES, .IU_STAT, .SITE_VVAL, .SITE_V, .PIN_TDC_SRC]
  | .abort .. =>
    [.IU_STAT, .PIN_TDC_SRC]
  | .disconnectEnd .. =>
    [.SITE_PSTAT, .SITE_FCOUNT, .SITE_FFPOS_LO, .SITE_FFPOS_HI, .SITE_TAGRES, .SITE_VVAL, .SITE_V, .PIN_PMU_STAT, .PIN_PMU_RES]
  | .pinPmuGo .. =>
    [.FLT_STAT, .SITE_PSTAT, .SITE_FCOUNT, .SITE_FFPOS_LO, .SITE_FFPOS_HI, .SITE_TAGRES, .SITE_VVAL, .SITE_V, .PIN_FLAG, .PIN_PMU_STAT,
     .PIN_PMU_RES]
  | .awgStart .. =>
    [.FLT_STAT, .AWG_STAT, .AWG_ARMBY]
  | .awgStop .. | .playEnd .. =>
    [.AWG_STAT, .AWG_ARMBY]
  | .armFire .. =>
    [.AWG_CTL, .AWG_STAT, .AWG_POS, .AWG_SAMPLES, .AWG_ARMBY, .ENG_PM_STAT]
  | .waveUnderrun .. =>
    [.AWG_CTL, .AWG_STAT, .AWG_POS, .AWG_SAMPLES, .AWG_ARMBY, .STRM_STAT, .STRM_URCNT, .ENG_PM_STAT, .ENG_PM_UR]
  | .spanChange .. =>
    [.AWG_SPAN]
  | .unmute .. =>
    [.AWG_STAT]
  | .mute .. =>
    [.FLT_STAT, .AWG_SPAN, .AWG_STAT]
  | .faultMute .. =>
    [.AWG_SPAN, .AWG_STAT, .AWG_ARMBY]
  | .awgCfgWrite .. =>
    [.AWG_CFG, .AWG_STAT]
  | .recordWrite .. =>
    [.CAP_WR, .CAP_STAT, .CAP_LOST]
  | .lossRecord .. =>
    [.CAP_WR]
  | .apply .. =>
    [.CAP_GSTAT, .CAP_PART, .CAP_WR, .CAP_RD, .CAP_STAT]
  | .capRdWrite .. =>
    [.CAP_RD, .CAP_STAT]
  | .capCfgWrite .. =>
    [.CAP_CFG, .CAP_MAPSTART, .CAP_WR, .CAP_RD, .CAP_STAT, .CAP_ELOG]
  | .ledgRdWrite .. =>
    [.LEDG_RD, .LEDG_STAT]
  | .tick .. | .regRd .. | .regWr .. | .fabricRst .. | .faultDetected .. | .collectorSweep .. | .safeEsc .. | .por .. | .resetN ..
  | .perstN .. | .wdog .. | .wdfire .. | .resetRelease .. | .deferredReset .. | .shadowWriteApply .. | .statusSlot .. | .postedWrite ..
  | .registerWrite .. | .registerRead .. | .supplyOutOfRange .. => everyReg
  | .wrap .. =>
    [.WT_EPOCH, .WT_STAT]
  | .wtNowLoRead .. =>
    [.WT_NOW_HI]
  | .pmcCntLoRead .. =>
    [.PMC_CNT_HI]
  | .tcompUpdate .. | .ageWrite .. =>
    [.WT_XTAL]
  | .referenceLost .. | .referenceRelock .. | .holdover .. | .unsync .. =>
    [.WT_STAT]
  | .masterDevWrite .. =>
    [.GLB_ROLE, .WT_CTL, .WT_OFFSET, .WT_STAT, .FAB_STAT, .FAB_EXT, .FAB_DROP]
  | .beacon .. =>
    [.WT_OFFSET, .WT_STAT, .FAB_STAT, .FAB_PERR]
  | .upstreamChange .. | .isolated .. =>
    [.FAB_STAT]
  | .watermark .. =>
    [.WT_WM_LAST_LO, .WT_WM_LAST_HI]
  | .arm .. =>
    [.WT_STAT, .WT_SNAP_CTL]
  | .disarm .. | .snapshot .. =>
    [.WT_SNAP_CTL]
  | .snapshotTaken .. =>
    [.WT_SNAP_CTL, .WT_SNAP_ALO, .WT_SNAP_AHI, .PMC_SHD_STAT, .PMC_SHD_OVF, .PMC_SHD_LOSS]
  | .sqTail .. | .cqHead .. | .evrHead .. =>
    [.QP_STAT, .EVR_STAT, .FAB_DROP]
  | .descriptorFetch .. | .packetDrop .. | .probe .. | .regCpl .. | .relayedReadTimeout .. | .heartbeatSend .. | .wake ..
  | .dmaTimeout .. =>
    [.FAB_DROP]
  | .tblLoad .. =>
    [.PRE_YIELD, .FAB_DROP, .POD_TIM_LOADED_LO, .POD_TIM_LOADED_HI, .POD_LVL_STAT, .PIN_LVL_A, .PIN_LVL_B, .PIN_LVL_C, .PIN_LVL_D]
  | .segLoad .. =>
    [.PRE_YIELD, .FAB_DROP, .ENG_PM_STAT]
  | .refill .. =>
    [.POOL_RD, .ENG_PM_STAT]
  | .poolLoad .. =>
    [.PRE_YIELD, .FAB_DROP, .POOL_STAT]
  | .ucodeLoad .. =>
    [.PRE_YIELD, .FAB_DROP, .ENG_USTAT, .ENG_UIMG, .ENG_UINFO, .ENG_USVN]
  | .stream .. | .mtpWrite .. | .attest .. =>
    [.PRE_YIELD, .FAB_DROP]
  | .capUpload .. =>
    [.PRE_YIELD, .FAB_DROP, .CAP_RD]
  | .ledgDrain .. =>
    [.PRE_YIELD, .FAB_DROP, .LEDG_RD]
  | .fwLoad .. =>
    [.TRUST_STAT, .TRUST_FWID, .TRUST_FWSVN, .PRE_YIELD, .FAB_DROP]
  | .completionWrite .. | .pcieCompletion .. =>
    [.QP_HEAD, .FAB_DROP]
  | .eventRecordWrite .. =>
    [.EVR_TAIL, .EVR_STAT, .EVR_LOST, .FAB_DROP]
  | .rloss .. =>
    [.EVR_TAIL, .FAB_DROP]
  | .interrupt .. | .interruptTime .. =>
    [.MSIX_PBA, .FAB_DROP]
  | .qpCfgEn .. =>
    [.QP_CFG, .QP_HEAD, .QP_STAT]
  | .drainEnd .. | .preempted .. =>
    [.QP_STAT]
  | .evrCfgEn .. =>
    [.EVR_CFG, .EVR_TAIL]
  | .translationFault .. =>
    [.QP_STAT, .EVR_STAT, .MSIX_PBA, .MMU_STAT, .MMU_FIDX, .MMU_FLOG0, .MMU_FLOG1, .MMU_FLOG2, .MMU_FLOG3, .MMU_FLOG4, .MMU_FLOG5,
     .MMU_FLOG6, .FAB_DROP, .STRM_CFG, .LEDG_RD, .CAP_RD]
  | .mmuInv .. =>
    [.MMU_STAT, .MMU_INV]
  | .invalidationDone .. =>
    [.MMU_INV]
  | .retry .. =>
    [.QP_STAT, .EVR_STAT, .MMU_STAT, .MMU_FLOG0]
  | .faultAbort .. | .ftmo .. =>
    [.QP_STAT, .EVR_CFG, .EVR_STAT, .EVR_LOST, .MMU_STAT, .MMU_FLOG0, .STRM_CFG, .LEDG_RD, .CAP_RD]
  | .preempt .. =>
    [.PRE_STAT, .PRE_PEND_LO, .PRE_PEND_HI]
  | .resume .. =>
    [.QP_STAT, .PRE_STAT, .PRE_PEND_LO, .PRE_PEND_HI]
  | .discard .. =>
    [.QP_STAT, .EVR_STAT, .MMU_STAT, .MMU_FLOG0, .PRE_PEND_LO, .PRE_PEND_HI, .IU_STAT, .SITE_V, .RAIL_STAT, .STRM_CFG, .LEDG_RD,
     .LEDG_STAT, .LEDG_LOST, .ENG_STAT, .ENG_UCTL, .ENG_USTAT, .CAP_RD, .PIN_PMU_STAT, .PIN_TDC_SRC]
  | .signalDetect .. | .trainingDone .. | .trainingTimeout .. | .retrain .. | .portRetrain .. | .portUnfence .. =>
    [.FAB_DROP, .FAB_PSTAT, .FLT_CAUSE]
  | .latencyMeasurement .. =>
    [.FAB_DROP, .FAB_PSTAT, .FAB_PLAT, .FAB_PERR, .FLT_CAUSE]
  | .lmeas .. | .nak .. | .idleFlit .. =>
    [.FAB_PERR]
  | .routedFlit .. =>
    [.FAB_DROP, .FAB_PERR]
  | .reply .. =>
    [.GLB_ROLE, .FAB_DSTAT, .FAB_EXT, .FAB_PRES_LO, .FAB_PRES_HI, .FAB_LOST_LO, .FAB_LOST_HI, .FAB_ORDER_LO, .FAB_ORDER_HI, .FAB_DROP,
     .FLT_CAUSE]
  | .assign .. =>
    [.GLB_ROLE, .FAB_STAT]
  | .doorbell .. =>
    [.QP_STAT, .EVR_STAT]
  | .irq .. =>
    [.MSIX_PBA]
  | .heartbeat .. =>
    [.FAB_STAT, .FAB_DROP, .FLT_CAUSE]
  | .master .. =>
    [.GLB_ROLE, .WT_OFFSET, .WT_STAT, .FAB_STAT]
  | .dmaCpl .. =>
    [.QP_HEAD]
  | .pseqGap .. =>
    [.FAB_STAT, .FAB_LOST_LO, .FAB_LOST_HI]
  | .memberLost .. =>
    [.FAB_LOST_LO, .FAB_LOST_HI]
  | .discovery .. | .start .. =>
    [.GLB_ROLE, .FAB_DSTAT, .FAB_EXT, .FAB_PRES_LO, .FAB_PRES_HI, .FAB_LOST_LO, .FAB_LOST_HI, .FAB_ORDER_LO, .FAB_ORDER_HI, .FAB_DROP]
  | .fabFence .. =>
    [.FAB_DSTAT, .FAB_LOST_LO, .FAB_LOST_HI, .FAB_DROP]
  | .rejoin .. =>
    [.FAB_DSTAT, .FAB_DROP]
  | .disable .. =>
    [.FAB_DROP, .FAB_PCTL, .FAB_PSTAT, .FLT_CAUSE]
  | .fabPasymWrite .. =>
    [.FAB_PLAT, .FAB_PASYM]
  | .powerStateChange .. =>
    [.GLB_UNITS, .WT_WM_LAST_LO, .WT_WM_LAST_HI, .FAB_DROP, .FAB_PSTAT, .PWR_STAT, .PIN_STAT, .PIN_FLAG]
  | .wakeRequest .. =>
    [.PWR_WAKE]
  | .powerEstimate .. =>
    [.PWR_EST, .PWR_GSTAT]
  | .sensorReading .. =>
    [.GLB_UNITS, .QP_STAT, .EVR_STAT, .MMU_STAT, .MMU_FLOG0, .THM_T, .THM_DOM, .THM_STAT, .FLT_STAT, .FLT_SAFE, .FLT_FIRST,
     .FLT_SECOND, .FLT_CAUSE, .IU_STAT, .SITE_PSTAT, .SITE_FCOUNT, .SITE_FFPOS_LO, .SITE_FFPOS_HI, .SITE_V, .SITE_FSTAT,
     .SITE_FSTAMP_LO, .SITE_FSTAMP_HI, .RAIL_STAT, .AWG_SPAN, .AWG_STAT, .AWG_ARMBY, .STRM_CFG, .LEDG_RD, .LEDG_STAT, .LEDG_LOST,
     .ENG_STAT, .ENG_GAP, .ENG_UCTL, .ENG_USTAT, .ENG_RA_HOLD, .POD_TIM_STAT, .POD_TIM_EYE, .CAP_RD, .PIN_STAT, .PIN_PMU_STAT,
     .PIN_TDC_SRC]
  | .sensorRecover .. =>
    [.THM_T, .THM_DOM, .THM_STAT, .FLT_CAUSE, .PIN_STAT]
  | .levelLower .. | .release .. =>
    [.THM_DOM, .PIN_STAT]
  | .shutClear .. =>
    [.GLB_UNITS, .THM_STAT, .FLT_CAUSE, .PIN_STAT]
  | .force .. =>
    [.FLT_STAT]
  | .fltSrcWrite .. =>
    [.FLT_STAT, .FLT_SRC]
  | .fltPendClear .. =>
    [.FLT_STAT, .FLT_PEND]
  | .enter .. =>
    [.QP_STAT, .EVR_STAT, .MMU_STAT, .MMU_FLOG0, .FLT_STAT, .FLT_SAFE, .FLT_FIRST, .FLT_SECOND, .IU_STAT, .SITE_PSTAT, .SITE_FCOUNT,
     .SITE_FFPOS_LO, .SITE_FFPOS_HI, .SITE_V, .SITE_FSTAT, .SITE_FSTAMP_LO, .SITE_FSTAMP_HI, .RAIL_STAT, .AWG_SPAN, .AWG_STAT,
     .AWG_ARMBY, .STRM_CFG, .LEDG_RD, .LEDG_STAT, .LEDG_LOST, .ENG_STAT, .ENG_GAP, .ENG_UCTL, .ENG_USTAT, .ENG_RA_HOLD, .POD_TIM_STAT,
     .POD_TIM_EYE, .CAP_RD, .PIN_PMU_STAT, .PIN_TDC_SRC]
  | .exit .. =>
    [.FLT_STAT, .FLT_SAFE]
  | .nvRecordWrite .. =>
    [.RST_NVSEL]
  | .continueW .. =>
    [.RST_STAT]
  | .rollupFw .. | .rollupUc .. | .revoke .. =>
    [.TRUST_STAT, .TRUST_RES]
  | .priorshutClear .. =>
    [.THM_STAT]
  | .mtplock .. =>
    [.TRUST_STAT]
  | .crossingTimeout .. =>
    [.FAB_DROP, .SVP_STAT]
  | .crossingTransfer .. =>
    [.CLK_XSTAT, .CLK_XOVF, .PMC_LOSS]
  | .crossingFlush .. =>
    [.CLK_XSTAT, .CLK_XOVF, .CAP_STAT, .CAP_LOST]
  | .clkXmodeWrite .. =>
    [.CLK_XMODE]
  | .svpMtx .. | .svpRelease .. | .commandWord .. | .dataWord .. | .selectRelease .. =>
    [.SVP_STAT]
  | .masterWordEnd .. =>
    [.SVP_MRX]
  | .pmcSelWrite .. =>
    [.PMC_SEL, .PMC_STAT]
  | .counterOverflow .. =>
    [.PMC_OVF]
  | .liveCauseEnd .. =>
    [.GLB_UNITS, .FLT_CAUSE, .PIN_STAT]
  | .dieLinkRetrain .. | .supplyInRange .. =>
    [.GLB_UNITS, .FLT_CAUSE]

/-- The parts of the state beside the registers that a command may change. -/
def partsOf : Instr → List Part
  | .vec .. | .loop .. | .endl .. | .jmp .. | .call .. | .ret .. | .matchW .. | .jfail .. | .jpass .. | .waitt .. | .waitev ..
  | .gsync .. | .setlvl .. | .setload .. | .cnt .. | .logon .. | .logoff .. | .meas .. | .awg .. | .psafe .. | .ledg .. | .nop ..
  | .userOpcode .. | .uUnop .. | .uMov .. | .uLdi .. | .uLdh .. | .uAdd .. | .uSub .. | .uAnd .. | .uOr .. | .uXor .. | .uShl ..
  | .uShr .. | .uFld .. | .uCmp .. | .uGets .. | .uUbr .. | .uUcall .. | .uUret .. | .uSetpc .. | .uIssue .. | .uLstk .. | .uCstk ..
  | .uMctr .. | .uCond .. | .uSefx .. | .uWait .. | .uUerr .. | .uSafept .. | .vectorResolve .. | .branchResolve .. | .matchDecision ..
  | .waittEnd .. | .waitevEvent .. | .waitevTimeout .. | .gsyncTimeout .. | .measWaitEnd .. | .engUctlResume .. | .engUctlStep ..
  | .segmentCrossing .. | .underrunEnd .. =>
    [.gangs, .pods, .pins, .ius, .iuq, .pmus, .rails, .sites, .runs, .evq, .seqs, .pmc, .ledgq]
  | .halt .. | .shortWord .. | .uGhalt .. | .fused .. =>
    [.gangs, .pods, .pins, .ius, .iuq, .pmus, .rails, .sites, .runs, .evq, .seqs, .pmc, .ledgq, .tok]
  | .illegalOpcode .. | .routineLimit .. | .stallTimeout .. =>
    [.gangs, .pins, .ius, .iuq, .pmus, .rails, .sites, .runs, .evq, .seqs, .pmc, .ledgq]
  | .sideEffectCommit .. | .ledgerCommit .. =>
    [.free, .gangs, .pods, .pins, .ius, .iuq, .pmus, .waves, .rails, .sites, .runs, .evq, .seqs, .pmc, .ledgq, .tok]
  | .gangStart .. =>
    [.gangs, .pods, .pins, .ius, .iuq, .pmus, .rails, .sites, .capMem, .runs, .evq, .seqs, .pmc, .ledgq, .qps]
  | .stepRunReadyCheck .. =>
    [.gangs, .pods, .runs, .evq, .seqs, .pmc, .qps]
  | .vectorLaunch .. =>
    [.gangs, .pods, .pins, .ius, .iuq, .pmus, .rails, .sites, .runs, .evq, .seqs, .faultq, .pmc, .ledgq, .live, .trigs]
  | .strobe .. =>
    [.gangs, .pods, .pins, .capMem, .pmc]
  | .windowCompare .. =>
    [.free, .gangs, .pods, .pins, .capMem, .pmc]
  | .barrierRelease .. | .engUctlStop .. | .breakpoint .. | .preempt .. =>
    [.gangs]
  | .ledgerHoldRelease .. =>
    [.ledgq]
  | .ledgerEntryVisible .. =>
    [.ledgMem, .runs, .pmc, .ledgq]
  | .stepRunCompletion .. | .stepRun .. =>
    [.runs, .qps]
  | .stopTaken .. =>
    [.gangs, .pods, .pmc]
  | .engRaCtlPclr .. | .eyeRun .. | .eyeDone .. | .capRdWrite .. | .capCfgWrite .. =>
    [.pods]
  | .engRaQset .. | .streamFeedStop .. | .railLimitExit .. | .awgCfgWrite .. | .referenceRelock .. | .invalidationDone ..
  | .fabPasymWrite .. | .exit .. | .continueW .. | .mtplock .. | .clkXmodeWrite .. =>
    []
  | .underrunDeadline .. | .streamUnderrun .. =>
    [.gangs, .pins, .ius, .iuq, .pmus, .rails, .sites, .runs, .evq, .seqs, .pmc, .ledgq, .strms]
  | .retirement .. =>
    [.gangs, .pods, .tok]
  | .refillDone .. | .streamGranuleDeliver .. =>
    [.pods, .segMem, .pmc]
  | .poolError .. =>
    [.pods, .poolBad, .faultq, .live]
  | .rewind .. =>
    [.gangs, .pods]
  | .streamGranuleFetch .. =>
    [.gangs, .poolMem, .evq, .seqs, .pmc, .qps, .tlb, .mmuq, .strms, .out, .lastChunk, .ports, .fab]
  | .strmCfgWrite .. =>
    [.pods, .qps, .strms]
  | .levelSettleExpiry .. =>
    [.pods, .pins]
  | .filterSettled .. | .filterDecision .. =>
    [.gangs, .pins, .evq, .seqs, .pmc, .wakeAsk]
  | .levelRearm .. | .rateWindow .. =>
    [.gangs, .pins, .evq, .seqs, .pmc]
  | .rawTransition .. =>
    [.gangs, .pods, .pins, .ius, .pmc]
  | .pinCfgWrite .. | .pinWatchWrite .. | .connectEnd .. | .settleEnd .. | .triggerTimeout .. | .disc .. =>
    [.pins]
  | .siteTrip .. | .fence .. | .isotmo .. =>
    [.gangs, .pods, .pins, .ius, .iuq, .pmus, .waves, .rails, .sites, .runs, .evq, .seqs, .pmc, .ledgq]
  | .railCrossing .. =>
    [.gangs, .rails, .evq, .seqs, .pmc, .wakeAsk]
  | .regulationCheck .. | .rampDownEnd .. | .railSequenceDelay .. | .railCtlOn .. | .railCtlOff .. =>
    [.rails, .sites]
  | .noreg .. =>
    [.gangs, .rails, .evq, .seqs, .pmc]
  | .railLimit .. =>
    [.rails]
  | .windowClose .. | .armReq .. =>
    [.sites]
  | .unfence .. =>
    [.pins, .sites]
  | .dieLinkFail .. =>
    [.gangs, .pods, .pins, .ius, .iuq, .pmus, .waves, .rails, .sites, .runs, .evq, .seqs, .faultq, .pmc, .ledgq, .live]
  | .recalibration .. | .iuCalRun .. | .calibration .. | .compensation .. =>
    [.dies]
  | .calibrationEnd .. =>
    [.ius, .dies, .faultq, .live]
  | .unitGrant .. =>
    [.gangs, .ius, .iuq, .evq, .seqs]
  | .attemptEnd .. =>
    [.ius, .pmc]
  | .attemptTimeout .. | .abort .. =>
    [.ius]
  | .iuResult .. | .go .. =>
    [.gangs, .ius, .evq, .seqs]
  | .conversion .. =>
    [.pins, .pmc]
  | .disconnectEnd .. =>
    [.free, .gangs, .pins, .pmus, .evq, .seqs]
  | .pinPmuGo .. =>
    [.free, .gangs, .pins, .pmus, .evq, .seqs, .tok]
  | .awgStart .. | .spanChange .. | .unmute .. | .mute .. =>
    [.waves]
  | .awgStop .. =>
    [.pods, .waves]
  | .armFire .. =>
    [.gangs, .pods, .pins, .ius, .waves, .evq, .seqs, .pmc, .tok]
  | .playEnd .. | .faultMute .. =>
    [.gangs, .pods, .waves, .evq, .seqs, .pmc]
  | .waveUnderrun .. =>
    [.gangs, .pods, .pins, .waves, .evq, .seqs, .pmc, .strms, .tok]
  | .recordWrite .. =>
    [.gangs, .pods, .capMem, .pmc]
  | .lossRecord .. | .apply .. =>
    [.pods, .capMem]
  | .captureThreshold .. =>
    [.pods, .evq, .seqs]
  | .ledgRdWrite .. =>
    [.ledgAbove]
  | .ledgerThreshold .. =>
    [.evq, .seqs, .ledgAbove]
  | .tick .. | .regRd .. | .regWr .. | .shadowWriteApply .. | .statusSlot .. | .postedWrite .. | .registerWrite .. | .registerRead .. =>
    [.latch, .now, .free, .gangs, .pods, .pins, .ius, .iuq, .iuSetup, .pmuSetup, .pmus, .waves, .rails, .sites, .dies, .segMem,
     .poolMem, .poolBad, .capMem, .ledgMem, .mtpMem, .siteMap, .runs, .evq, .seqs, .faultq, .fences, .pmc, .ledgq, .ledgAbove, .qps,
     .evrs, .tlb, .mmuq, .strms, .snaps, .wm, .d3hot, .out, .rr, .lastChunk, .time, .ports, .fab, .pwr, .sensors, .doms, .rst, .safeX,
     .live, .xings, .shadowWr, .xwait, .svp, .trigs, .jtag, .shd, .tok, .fRestart, .tickAcc, .tickDie, .wakeAsk, .wake, .safePin,
     .safeRail, .safeWave, .atTick]
  | .wrap .. =>
    [.wm, .time]
  | .wtNowLoRead .. | .pmcCntLoRead .. =>
    [.out]
  | .pmcCntLoWrite .. | .pmcSelWrite .. =>
    [.pmc]
  | .tcompUpdate .. | .ageWrite .. =>
    [.time]
  | .referenceLost .. =>
    [.faultq, .time, .live]
  | .masterDevWrite .. =>
    [.gangs, .evq, .seqs, .faultq, .pmc, .wm, .out, .time, .ports, .fab, .live]
  | .beaconSend .. =>
    [.pmc, .out, .time]
  | .beacon .. =>
    [.now, .gangs, .pods, .pins, .waves, .rails, .sites, .dies, .evq, .seqs, .faultq, .pmc, .qps, .evrs, .wm, .jumps, .out, .time,
     .ports, .fab, .pwr, .sensors, .doms, .rst, .safeX, .live, .xwait, .trigs, .fRestart, .wake]
  | .holdover .. | .unsync .. =>
    [.faultq, .wm, .time, .live]
  | .upstreamChange .. | .trainingRetry .. =>
    [.ports]
  | .watermark .. =>
    [.evq, .seqs, .wm]
  | .arm .. =>
    [.snaps]
  | .disarm .. | .snapshot .. =>
    [.qps, .snaps]
  | .snapshotTaken .. =>
    [.qps, .snaps, .shd]
  | .sqTail .. | .cqHead .. | .evrHead .. =>
    [.gangs, .evq, .seqs, .pmc, .qps, .evrs, .out, .ports, .fab, .wakeAsk]
  | .descriptorFetch .. =>
    [.gangs, .evq, .seqs, .pmc, .qps, .tlb, .mmuq, .out, .rr, .ports, .fab]
  | .nopCommand .. | .heldLoadRelease .. | .qpCfgEn .. =>
    [.qps]
  | .tblLoad .. =>
    [.gangs, .pods, .pins, .iuSetup, .pmuSetup, .siteMap, .evq, .seqs, .pmc, .qps, .tlb, .mmuq, .out, .lastChunk, .ports, .fab]
  | .segLoad .. =>
    [.gangs, .pods, .segMem, .evq, .seqs, .pmc, .qps, .tlb, .mmuq, .out, .lastChunk, .ports, .fab]
  | .refill .. =>
    [.pods, .segMem, .pmc, .qps]
  | .poolLoad .. =>
    [.gangs, .poolMem, .poolBad, .evq, .seqs, .pmc, .qps, .tlb, .mmuq, .out, .lastChunk, .ports, .fab]
  | .ucodeLoad .. | .capUpload .. =>
    [.gangs, .pods, .evq, .seqs, .pmc, .qps, .tlb, .mmuq, .out, .lastChunk, .ports, .fab]
  | .stream .. | .attest .. =>
    [.gangs, .evq, .seqs, .pmc, .qps, .tlb, .mmuq, .out, .lastChunk, .ports, .fab]
  | .ledgDrain .. =>
    [.gangs, .evq, .seqs, .pmc, .ledgAbove, .qps, .tlb, .mmuq, .out, .lastChunk, .ports, .fab]
  | .fwLoad .. =>
    [.gangs, .evq, .seqs, .pmc, .qps, .tlb, .mmuq, .out, .lastChunk, .ports, .fab, .rst]
  | .mtpWrite .. =>
    [.gangs, .mtpMem, .evq, .seqs, .faultq, .pmc, .qps, .tlb, .mmuq, .out, .lastChunk, .ports, .fab, .rst, .live]
  | .completionWrite .. =>
    [.gangs, .evq, .seqs, .pmc, .qps, .tlb, .mmuq, .out, .ports, .fab]
  | .eventRecordWrite .. | .rloss .. =>
    [.gangs, .evq, .seqs, .pmc, .evrs, .tlb, .mmuq, .out, .ports, .fab]
  | .interrupt .. | .interruptTime .. =>
    [.gangs, .evq, .seqs, .pmc, .qps, .evrs, .out, .ports, .fab]
  | .drainEnd .. | .preempted .. | .powerEstimate .. | .counterOverflow .. =>
    [.gangs, .evq, .seqs, .pmc]
  | .evrCfgEn .. =>
    [.evq, .evrs]
  | .flush .. =>
    [.gangs, .runs, .qps]
  | .d3hot .. =>
    [.d3hot]
  | .translationFault .. =>
    [.gangs, .pods, .evq, .seqs, .pmc, .ledgAbove, .qps, .mmuq, .strms, .out, .ports, .fab]
  | .mmuInv .. =>
    [.qps, .tlb]
  | .retry .. =>
    [.pmc, .qps, .evrs, .tlb, .mmuq]
  | .faultAbort .. | .ftmo .. =>
    [.gangs, .pods, .evq, .seqs, .pmc, .ledgAbove, .qps, .evrs, .strms]
  | .resume .. =>
    [.gangs, .pwr]
  | .gangRestart .. =>
    [.gangs, .pods, .pins, .ius, .iuq, .pmus, .rails, .sites, .runs, .evq, .seqs, .pmc, .ledgq, .pwr]
  | .discard .. =>
    [.gangs, .pods, .pins, .ius, .iuq, .pmus, .rails, .sites, .runs, .evq, .seqs, .pmc, .ledgq, .ledgAbove, .qps, .mmuq, .strms, .pwr,
     .tok]
  | .signalDetect .. | .trainingDone .. | .trainingTimeout .. | .retrain .. | .lmeas .. | .nak .. | .portRetrain .. | .portUnfence ..
  | .disable .. | .idleFlit .. =>
    [.gangs, .evq, .seqs, .faultq, .pmc, .out, .ports, .live]
  | .latencyMeasurement .. | .routedFlit .. | .reply .. | .relayedReadTimeout .. | .discovery .. | .start .. | .fabFence .. =>
    [.gangs, .evq, .seqs, .faultq, .pmc, .out, .ports, .fab, .live]
  | .packetDrop .. =>
    [.gangs, .evq, .seqs, .pmc, .ports]
  | .probe .. | .regCpl .. | .heartbeatSend .. | .dmaTimeout .. | .rejoin .. =>
    [.gangs, .evq, .seqs, .pmc, .out, .ports, .fab]
  | .assign .. | .hbReply .. | .sleep .. =>
    [.fab]
  | .doorbell .. =>
    [.gangs, .evq, .seqs, .pmc, .qps, .evrs, .fab, .wakeAsk]
  | .irq .. | .dmaRd .. | .dmaWr .. =>
    [.out, .fab]
  | .heartbeat .. =>
    [.gangs, .evq, .seqs, .pmc, .out, .ports, .fab, .live]
  | .fabricRst .. | .collectorSweep .. | .safeEsc .. | .por .. | .resetN .. | .perstN .. | .wdfire .. =>
    [.latch, .now, .free, .gangs, .pods, .pins, .ius, .iuq, .iuSetup, .pmuSetup, .pmus, .waves, .rails, .sites, .dies, .segMem,
     .poolMem, .poolBad, .capMem, .ledgMem, .mtpMem, .siteMap, .runs, .evq, .seqs, .faultq, .fences, .pmc, .ledgq, .ledgAbove, .qps,
     .evrs, .tlb, .mmuq, .strms, .snaps, .wm, .d3hot, .rr, .lastChunk, .time, .ports, .fab, .pwr, .sensors, .doms, .rst, .safeX, .live,
     .xings, .shadowWr, .xwait, .svp, .trigs, .jtag, .shd, .fRestart, .tickAcc, .tickDie, .wakeAsk, .wake, .safePin, .safeRail,
     .safeWave, .atTick]
  | .master .. =>
    [.faultq, .wm, .time, .ports, .fab, .live]
  | .wake .. =>
    [.gangs, .evq, .seqs, .pmc, .out, .ports, .fab, .wakeAsk]
  | .dmaCpl .. =>
    [.qps, .fab]
  | .pseqGap .. | .memberLost .. =>
    [.faultq, .out, .fab, .live]
  | .isolated .. =>
    [.faultq, .fab, .live]
  | .powerStateChange .. =>
    [.gangs, .pins, .rails, .evq, .seqs, .pmc, .wm, .out, .ports, .fab, .pwr, .wake]
  | .wakeRequest .. =>
    [.wakeAsk, .wake]
  | .wakeN .. =>
    [.wakeAsk]
  | .sensorReading .. =>
    [.gangs, .pods, .pins, .ius, .iuq, .pmus, .waves, .rails, .sites, .runs, .evq, .seqs, .faultq, .pmc, .ledgq, .ledgAbove, .qps,
     .mmuq, .strms, .snaps, .sensors, .doms, .rst, .safeX, .live, .wakeAsk]
  | .sensorRecover .. =>
    [.gangs, .pins, .evq, .seqs, .faultq, .pmc, .sensors, .doms, .live, .wakeAsk]
  | .levelLower .. | .release .. =>
    [.gangs, .pins, .evq, .seqs, .pmc, .doms, .wakeAsk]
  | .shutClear .. | .liveCauseEnd .. =>
    [.pins, .rails, .live]
  | .faultDetected .. =>
    [.latch, .gangs, .pods, .pins, .ius, .iuq, .pmus, .waves, .rails, .sites, .capMem, .runs, .evq, .seqs, .faultq, .fences, .pmc,
     .ledgq, .ledgAbove, .qps, .mmuq, .strms, .snaps, .out, .ports, .rst, .safeX, .live, .atTick]
  | .force .. | .fltSrcWrite .. =>
    [.faultq]
  | .fltPendClear .. =>
    [.fences, .safeX]
  | .enter .. =>
    [.gangs, .pods, .pins, .ius, .iuq, .pmus, .waves, .rails, .sites, .runs, .evq, .seqs, .pmc, .ledgq, .ledgAbove, .qps, .mmuq,
     .strms, .snaps, .rst, .safeX]
  | .nvRecordWrite .. =>
    [.mtpMem, .rst]
  | .liveCauseRedetect .. | .wdogWarn .. | .rollupFw .. | .rollupUc .. | .revoke .. =>
    [.faultq, .rst, .live]
  | .wdog .. =>
    [.latch, .now, .free, .gangs, .pods, .pins, .ius, .iuq, .iuSetup, .pmuSetup, .pmus, .waves, .rails, .sites, .dies, .segMem,
     .poolMem, .poolBad, .capMem, .ledgMem, .mtpMem, .siteMap, .runs, .evq, .seqs, .faultq, .fences, .pmc, .ledgq, .ledgAbove, .qps,
     .evrs, .tlb, .mmuq, .strms, .snaps, .wm, .d3hot, .out, .rr, .lastChunk, .time, .ports, .fab, .pwr, .sensors, .doms, .rst, .safeX,
     .live, .xings, .shadowWr, .xwait, .svp, .trigs, .jtag, .shd, .fRestart, .tickAcc, .tickDie, .wakeAsk, .wake, .safePin, .safeRail,
     .safeWave, .atTick]
  | .resetRelease .. =>
    [.latch, .waves, .dies, .evq, .faultq, .qps, .evrs, .mmuq, .rr, .lastChunk, .fab, .rst, .live, .fRestart, .safePin, .safeRail,
     .safeWave, .atTick]
  | .deferredReset .. =>
    [.latch, .now, .gangs, .pods, .pins, .ius, .iuq, .iuSetup, .pmuSetup, .pmus, .waves, .rails, .sites, .dies, .segMem, .poolMem,
     .poolBad, .capMem, .ledgMem, .mtpMem, .siteMap, .runs, .evq, .seqs, .faultq, .fences, .pmc, .ledgq, .ledgAbove, .qps, .evrs, .tlb,
     .mmuq, .strms, .snaps, .wm, .d3hot, .rr, .lastChunk, .time, .ports, .fab, .pwr, .sensors, .doms, .rst, .safeX, .live, .xings,
     .shadowWr, .xwait, .svp, .trigs, .jtag, .shd, .fRestart, .tickAcc, .tickDie, .wakeAsk, .wake, .safePin, .safeRail, .safeWave,
     .atTick]
  | .ack .. | .priorshutClear .. =>
    [.rst]
  | .crossingTimeout .. =>
    [.gangs, .evq, .seqs, .faultq, .pmc, .out, .ports, .fab, .live, .xwait, .svp]
  | .crossingTransfer .. =>
    [.pmc, .xings]
  | .crossingFlush .. =>
    [.gangs, .pods, .pmc, .xings]
  | .svpMtx .. =>
    [.out, .svp]
  | .masterWordEnd .. =>
    [.gangs, .evq, .seqs, .pmc, .svp]
  | .svpRelease .. =>
    [.svp]
  | .commandWord .. =>
    [.gangs, .evq, .seqs, .pmc, .out, .svp, .wakeAsk]
  | .dataWord .. =>
    [.gangs, .evq, .seqs, .pmc, .out, .svp]
  | .selectRelease .. =>
    [.gangs, .evq, .seqs, .pmc, .xwait, .svp]
  | .trigIn .. =>
    [.gangs, .ius, .evq, .seqs, .pmc, .trigs]
  | .trigOut .. =>
    [.gangs, .evq, .seqs, .pmc, .trigs]
  | .trigOutFall .. =>
    [.trigs]
  | .pcieCompletion .. =>
    [.gangs, .evq, .seqs, .pmc, .qps, .out, .ports, .fab]
  | .dieLinkRetrain .. =>
    [.live]
  | .supplyOutOfRange .. =>
    [.latch, .now, .free, .gangs, .pods, .pins, .ius, .iuq, .iuSetup, .pmuSetup, .pmus, .waves, .rails, .sites, .dies, .segMem,
     .poolMem, .poolBad, .capMem, .ledgMem, .mtpMem, .siteMap, .runs, .evq, .seqs, .faultq, .fences, .pmc, .ledgq, .ledgAbove, .qps,
     .evrs, .tlb, .mmuq, .strms, .snaps, .wm, .d3hot, .rr, .lastChunk, .time, .ports, .fab, .pwr, .sensors, .doms, .rst, .safeX, .live,
     .xings, .shadowWr, .xwait, .svp, .trigs, .jtag, .shd, .badSup, .fRestart, .tickAcc, .tickDie, .wakeAsk, .wake, .safePin,
     .safeRail, .safeWave, .atTick]
  | .supplyInRange .. =>
    [.dies, .rst, .live, .badSup]
  | .boundaryScan .. =>
    [.free, .out, .jtag]

/-! ### Program words -/

/-- The word of the lowest-numbered pod, which gives the control fields. -/
def firstWord (ws : List (Nat × Nat)) : Nat := match ws with | [] => 0 | e :: _ => e.2

/-- A path of a site's gang dispatches its next word now: it may, the mode is the one asked for, `th` is the path's thread, and
every pod's word at its address is there, alike in its control bits and within its ranges (R122, R133). -/
structure Ready (s : State) (n : Nat) (p : Path) (compat : Bool) (th : Thread) (ws : List (Nat × Nat)) : Prop where
  can : s.canDispatch n p = true
  mode : s.on F.ENG_UCTL_COMPAT (s.lead n) = compat
  path : (s.gang n).thread p = some th
  edge : p = .sprout → s.granuleEdge n th = false
  words : s.fetch n th.pc = .words ws
  good : wordsErr ws = none

/-- The thread `th'` of a path once the word at the address of `th` has been dispatched: the word is named, the next one is
dispatched after `cost` cycles (R132), every engine holds its word and the address after it with an empty micro-stack (R164). -/
def State.wentOn (s : State) (n : Nat) (p : Path) (ws : List (Nat × Nat)) (th th' : Thread) (cost : Nat) : Thread :=
  s.doneThread ⟨n, p, th.pc, (s.gang n).seqNext, ws⟩ th' cost

/-- A LEDG leaves fields of its word in U1 and U2 of every engine (R175). -/
def ledgThread (th : Thread) (ws : List (Nat × Nat)) : Thread :=
  { th with cpu := ws.foldl (fun (m : NStore MicroSt) (e : Nat × Nat) =>
    m.set {} e.1 { m.at {} e.1 with u := ((m.at {} e.1).u.set 0 1 (bits e.2 49 18)).set 0 2 (bits e.2 57 50) }) th.cpu }

/-- The side-effect buffer has room for k more effects of a path (R209). -/
def State.roomFor (s : State) (n : Nat) (p : Path) (k : Nat) : Prop := ∃ u, s.room n p k = .ok u

/-- The side effects that a path has posted and not committed, in program order. -/
def Gang.effsOf (g : Gang) (p : Path) : List Eff :=
  match p with
  | .main => g.seb.map (·.eff)
  | .sprout => match g.sprout with | some x => x.seb.map (·.eff) | none => []

/-- An engine error of a word of the main path (R161): the gang holds it until everything before the word has completed, or has
halted with it in every pod. -/
def State.erred (t : State) (n code : Nat) : Prop :=
  (∃ h, (t.gang n).held = some h ∧ h.code = code)
    ∨ ∀ p ∈ t.podsOf n, t.rd F.ENG_STAT_STATE p = stError ∧ t.rd F.ENG_STAT_ERR p = code

/-! ### Micro-operations -/

/-- An engine of a gang stands at a micro-op of its user routine on a path and carries it out now: `m` is the micro-op at its
micro-PC, not the routine's last, it keeps the rules of R180 and its routine is within its limit (R179). -/
structure MicroReady (s : State) (pod : Nat) (p : Path) (uop : Nat) (n : Nat) (th : Thread) (m : Nat) : Prop where
  site : s.siteOfPod pod = some n
  path : (s.gang n).thread p = some th
  prep : (s.gang n).prep = true
  unsaved : s.gstate n ≠ stSaved
  goes : (s.gang n).stopped = false
  held : (s.gang n).held = none
  routine : th.inRoutine = true
  active : (th.micro pod).active = true
  undone : (th.micro pod).done = false
  due : reached (th.micro pod).ready s.now = true
  sprout : p = .sprout → ∃ x, (s.gang n).sprout = some x ∧ x.stop = 0
  here : s.microAt pod (th.micro pod).upc = some m
  op : uUop m = uop
  limit : s.pastLimit n th = false
  region : (th.micro pod).regionErr m = false
  more : uE m = false

/-- An engine of a path of a gang. -/
def State.engine (s : State) (n : Nat) (p : Path) (pod : Nat) : Option MicroSt := ((s.gang n).thread p).map (·.micro pod)

/-- The engine after a micro-op that writes `v` to register `d` where one is named, with flags z, ng, c, a new NPC and a new micro-PC;
the other engines of the path are as they were. -/
def State.engineWrote (s t : State) (n : Nat) (p : Path) (pod : Nat) (d : Option Nat) (v : Nat) (z ng c : Bool) (npc : PAddr) (upc : Nat) :
    Prop :=
  ∃ x y, s.engine n p pod = some x ∧ t.engine n p pod = some y ∧
    (∀ k, y.reg k = if some k = d ∧ k ≠ 0 then v % 2 ^ 32 else x.reg k) ∧ y.z = z ∧ y.n = ng ∧ y.c = c ∧ y.npc = npc ∧ y.upc = upc % 2048 ∧
    ∀ q, q ≠ pod → t.engine n p q = s.engine n p q

/-- A kind of wait without what has been seen of it. -/
def WaitKind.bare : WaitKind → WaitKind
  | .event q _ => .event q none
  | .barrier b _ => .barrier b none
  | k => k

/-- A gang's thread on a path after a gang-scope micro-op of an engine: loop stack, call stack, match counter; Z of the engine. -/
def State.stacks (t : State) (n : Nat) (p : Path) (pod : Nat) (loops : List LoopEntry) (calls : List PAddr) (mctr : Option (Nat × PAddr))
    (z : Bool) : Prop :=
  ∃ th, (t.gang n).thread p = some th ∧ th.loops = loops ∧ th.calls = calls ∧ th.mctr = mctr ∧ (th.micro pod).z = z

/-! ### Run-ahead -/

/-- The gang of a site is resumed from a wait: RUN in every pod where it was in WAIT or BARRIER, no wait open, and the pins go on at
`at_` at the earliest. -/
def State.waitOver (s t : State) (n : Nat) (at_ : Stamp) : Prop :=
  (t.gang n).wait = none ∧ (t.gang n).pinEnd = later (s.gang n).pinEnd at_ ∧
    (s.gstate n = stWait ∨ s.gstate n = stBarrier → ∀ p ∈ s.podsOf n, t.rd F.ENG_STAT_STATE p = stRun)

/-- The tag of a wait that has ended shows its result, unless a later word has set the tag already. -/
def State.tagged (s t : State) (n : Nat) (w : GWait) (res : Nat) : Prop :=
  w.tag ≠ 0 → w.tag < 16 → (s.gang n).tagSeq.at 0 w.tag ≤ w.seq + 1 → t.tagRes n w.tag = res

/-- The latest of some moments. -/
def lastOf (now : Stamp) : List Stamp → Stamp
  | [] => now
  | t :: ts => ts.foldl later t

/-! ### Descriptors -/

/-- The completion of a descriptor waits to be written, with a status, results and detail (R389, R390). -/
def State.completed (t : State) (q : Nat) (d : Desc) (status r0 r1 detail : Nat) : Prop :=
  Cpl.mk d.idx d.cid d.opc d.irq status r0 r1 detail (d.f 8 7 0) ∈ (t.qp q).cplq

/-! ### Rails and the trip path -/

/-- A ramp of a rail toward a level above 0 V began now: its state, its level, and the tick it reaches it (R345, R346). -/
def State.rampTo (s t : State) (r target slew : Nat) : Prop :=
  t.railSt r = (if s.railV r ≤ target then rlUp else rlDown) ∧ (t.rail r).target = target ∧ (t.rail r).wait = none ∧
  (t.rail r).toOff = false ∧ (t.rail r).reach = after s.now (rampTicks (if s.railV r ≤ target then target - s.railV r else s.railV r - target) slew)

/-- A ramp of a rail down to 0.5 V and OFF began now (R348). -/
def State.rampOff (s t : State) (r slew : Nat) : Prop :=
  t.railSt r = rlDown ∧ (t.rail r).target = 0 ∧ (t.rail r).wait = none ∧ (t.rail r).toOff = true ∧
  (t.rail r).reach = after s.now (rampTicks (s.railV r - 5000) slew)

/-- The open window of a site with its enable at 1 that opened last: its ARMSRC code, 0 for none (R358). -/
def State.armSource (s : State) (n : Nat) : Nat := (((s.siteX n).wins.filter (fun w => s.winEnabled n w.src)).head?.map (·.src)).getD 0

/-- The site is a husk of the stamp: HUSK, FSTAMP, the state of its engines, its pins and rails (R363). -/
def State.huskAt (t : State) (n : Nat) (stamp : Stamp) : Prop :=
  t.on F.SITE_FSTAT_HUSK n = true ∧ (∀ p ∈ t.podsOf n, t.rd F.ENG_STAT_STATE p = stHusk) ∧ t.rd F.SITE_FSTAMP_LO_FSTAMP_LO n = loWord stamp.toNat ∧
  t.rd F.SITE_FSTAMP_HI_FSTAMP_HI n = hiWord stamp.toNat % 2 ^ F.SITE_FSTAMP_HI_FSTAMP_HI.width ∧ (∀ r ∈ t.railsOf n, t.railSt r = rlTripped) ∧
  t.rd F.SITE_FSTAT_ARMED n = ofBool (t.armSource n != 0)

/-! ### Interval units -/

/-- The setup entry of a measurement is loaded and names sources that it may use (R293). -/
def State.iuUsable (s : State) (site : Option Nat) (setup : Nat) : Bool :=
  (s.iuEntry setup).isSome && s.srcOk site ((s.iuEntry setup).getD {}).start && s.srcOk site ((s.iuEntry setup).getD {}).stop

/-- A measurement runs on a unit from this tick: for a gang's request or a register, with its setup entry, no sample taken (R304, R305). -/
def State.iuRuns (s t : State) (u : Nat) (site : Option Nat) (setup dst tok : Nat) : Prop :=
  t.rd F.IU_STAT_STATE u = 1 ∧ t.rd F.IU_STAT_OWNV u = ofBool site.isSome ∧ t.rd F.IU_STAT_ATTEMPTS u = 0 ∧ (t.iu u).busy = true ∧
  (t.iu u).reg = site.isNone ∧ (t.iu u).begT = s.now ∧ (t.iu u).e = (s.iuEntry setup).getD {} ∧ (t.iu u).done = 0 ∧ (t.iu u).nvalid = 0 ∧
  (t.iu u).dst = dst ∧ (t.iu u).tok = tok

/-- An attempt of a unit has ended at a stamp: the next one begins in the tick after it (R294 to R299). -/
def State.attemptOver (s t : State) (u : Nat) (st : Stamp) : Prop :=
  (t.iu u).done = (s.iu u).done + 1 ∧ (t.iu u).last = st ∧ (t.iu u).begT = after (tickOf st) 1 ∧ (t.iu u).stops = [] ∧ (t.iu u).missed = false ∧
  t.rd F.IU_STAT_ATTEMPTS u = min (2 ^ F.IU_STAT_ATTEMPTS.width - 1) (s.rd F.IU_STAT_ATTEMPTS u + 1)

/-! ### Event records, capture rings -/

/-- Where a source is routed to an enabled ring, its event waits to be written to it: info and stamp (R395, R396). -/
def State.raised (s t : State) (src info : Nat) (st : Stamp) : Prop :=
  ∀ ring, s.routeOf src = some ring → t.evq.any (fun r => r.src == src && r.kind == 1 && r.info == info && r.stamp == st && r.ring == some ring) = true

/-- A record of a kind waits to be written to the ring given (R395). -/
def State.recorded (t : State) (src kind : Nat) (payload : List Nat) (st : Stamp) (ring : Nat) : Prop :=
  t.evq.any (fun r => r.src == src && r.kind == kind && r.payload == payload && r.stamp == st && r.ring == some ring) = true

/-- A record of 64-bit words went into a pod's ring at CAP_WR, round the ring's end, and nothing else of capture memory changed;
CAP_WR moved past it (R253, R254). -/
def State.ringTook (s t : State) (p : Nat) (words : List Nat) : Prop :=
  let off := s.rd F.CAP_WR_OFFSET p
  let r := s.ringSize p
  t.rd F.CAP_WR_OFFSET p = (if off + 8 * words.length ≥ r then off + 8 * words.length - r else off + 8 * words.length) ∧
  (∀ i b, (words.flatMap (toBytes 8))[i]? = some b → t.capMem.byte (s.ringBase p + (off + i) % r) = BitVec.ofNat 8 b) ∧
  ∀ a, (∀ i, i < 8 * words.length → a ≠ s.ringBase p + (off + i) % r) → t.capMem.byte a = s.capMem.byte a

/-! ### Commands of descriptors -/

/-- The descriptor of a queue pair and CID is accepted, of the command `opc`, and nothing holds it. -/
structure UnderWay (s : State) (q cid opc : Nat) (d : Desc) : Prop where
  named : s.desc q cid = some d
  is : d.opc = opc
  started : d.started = true
  accepted : d.accepted = true
  free : d.held = false

/-- The descriptor of a queue pair and CID starts, or has started and is free again, and its fields are not yet checked; `u` is the state
with it started (R383, R388). -/
structure Starts (s : State) (q cid opc : Nat) (d : Desc) (u : State) : Prop where
  start : s.start q cid opc = some (d, u)
  fresh : d.accepted = false
  free : d.held = false

/-- Where a pod's bytes lie in the data of a SEG_LOAD: at 0 where they are shared, else after those of the lower pods (R393). -/
def State.segDataAt (s : State) (d : Desc) (p : Nat) : Nat :=
  if d.f 8 6 6 = 1 then 0 else 512 * ((d.pods.takeWhile (· != p)).map (fun r => (s.seg r (d.f 8 5 0)).len)).sum

end Sys2Proof.Machine
end

