-- ==== Sys2Proof/Certificates/Slice0/Obligations.lean ====
section
/-! DEFINITION. The statements for the provers. -/

open Sys2Proof Sys2Proof.Machine

/-- For every state whose queue starts with a command, the step answers what that command's meaning answers on the state with the rest of the queue. With nothing waiting the block idles: the state is unchanged (the model's choice, log entry 2). The queue is the model's own. -/
def Obligations.StepRunsFrontCommand : Prop :=
  (∀ (s : State) (c : Instr) (rest : List Instr), s.pending = c :: rest → step s = exec c { s with pending := rest }) ∧
  (∀ s : State, s.pending = [] → step s = .next s)

/-- No command stops the model: each answers a next state from every state, with the queue as it was; so a step takes exactly the command at the front of the queue. (The queue is the model's own: commands reach it from outside alone.) -/
def Obligations.CommandsKeepTheQueue : Prop :=
  (∀ (c : Instr) (s : State), ∃ t, exec c s = .next t ∧ t.pending = s.pending) ∧
  (∀ (s : State) (c : Instr) (rest : List Instr), s.pending = c :: rest → ∃ t, step s = .next t ∧ t.pending = rest)

/-- For each of the 318 commands, every field of every register outside the command's list of registers, in every instance, reads after it what it read before. The list holds the registers the command is about, those its immediate consequences reach and those it reports in. -/
def Obligations.RegistersFrame : Prop :=
  ∀ (c : Instr) (s t : State), exec c s = .next t → ∀ (f : Fld) (i j : Nat), f.reg ∉ regsOf c → t.rd f i j = s.rd f i j

/-- For each of the 318 commands, every part of the state beside the registers (wafer time, the engines' gangs, each unit's hidden state, the on-chip memories, the queues towards the host, the links) that is not in the command's list is the same after it. -/
def Obligations.PartsFrame : Prop :=
  ∀ (c : Instr) (s t : State), exec c s = .next t → ∀ p : Part, p ∉ partsOf c → s.same t p

/-- From every state in canonical form, each step answers a next state in canonical form: the registers list each field once and none at its reset value, each on-chip memory lists rising addresses and no zero byte, and wafer time is a whole number of ticks. -/
def Obligations.StepKeepsCanonical : Prop :=
  ∀ s t : State, s.canonical = true → step s = .next t → t.canonical = true

/-- At reset the state is in canonical form; wafer time is 0 and counts; every register field reads its reset value; the memories list nothing, so that every byte reads 0 (log entry 4); no command waits. -/
def Obligations.ResetState : Prop :=
  State.reset.canonical = true ∧ State.reset.now = 0 ∧ State.reset.pending = [] ∧
  (∀ (f : Fld) (i j : Nat), State.reset.rd f i j = FKey.reset ⟨f.reg, f.lo, i, j⟩) ∧
  (∀ a, State.reset.segMem.byte a = 0 ∧ State.reset.poolMem.byte a = 0 ∧ State.reset.capMem.byte a = 0 ∧ State.reset.ledgMem.byte a = 0 ∧
    State.reset.mtpMem.byte a = 0)

/-- A LOOP that is dispatched pushes the address of the word after it, its count less one and the call depth; a fifth open loop is error LOOP_OVF on the main path. ENDL decrements the top entry and continues at its address, or pops it when the count is exhausted and continues at its successor; an address whose segment entry is not READY or ACTIVE is error BADADDR, and with no entry it is error LOOP_UNF. -/
def Obligations.LoopsNest : Prop :=
  ∀ (s : State) (n : SiteId) (p : Path) (th : Thread) (ws : List (Nat × Nat)), Ready s n p false th ws →
    (opOf (firstWord ws) = opLoop → th.loops.length < 4 → ∃ t, exec (.loop n p) s = .next t ∧
      (t.gang n).thread p = some (s.wentOn n p ws th { th with
        pc := th.pc.succ
        loops := ⟨th.pc.succ, bits (firstWord ws) 55 32, th.calls.length⟩ :: th.loops } 1)) ∧
    (opOf (firstWord ws) = opLoop → 4 ≤ th.loops.length → p = .main → ∃ t, exec (.loop n p) s = .next t ∧
      t.erred n erLoopOvf) ∧
    (opOf (firstWord ws) = opEndl → ∀ e rest, th.loops = e :: rest → (e.count ≠ 0 → s.backTarget n e.addr = .ok e.addr) →
      ∃ t, exec (.endl n p) s = .next t ∧
      (t.gang n).thread p = some (s.wentOn n p ws th (if e.count = 0 then { th with pc := th.pc.succ, loops := rest }
        else { th with pc := e.addr, loops := { e with count := e.count - 1 } :: rest }) 1)) ∧
    (opOf (firstWord ws) = opEndl → ∀ e rest x, th.loops = e :: rest → e.count ≠ 0 → s.backTarget n e.addr = .error x → p = .main →
      ∃ t, exec (.endl n p) s = .next t ∧ t.erred n erBadAddr) ∧
    (opOf (firstWord ws) = opEndl → th.loops = [] → p = .main → ∃ t, exec (.endl n p) s = .next t ∧ t.erred n erLoopUnf)

/-- A CALL that is dispatched with fewer than sixteen open calls and a target that can be continued at pushes the address of its successor and continues there; a seventeenth is error CSTK_OVF. RET pops the stack and continues at the popped address; on an empty stack it is error CSTK_UNF, and with the top loop entry pushed at the current depth LOOP_RET. JMP discards POPL loop entries and continues at TARGET; with fewer open loops it is error LOOP_UNF. -/
def Obligations.CallsAndJumps : Prop :=
  ∀ (s : State) (n : SiteId) (p : Path) (th : Thread) (ws : List (Nat × Nat)), Ready s n p false th ws →
    (opOf (firstWord ws) = opCall → th.calls.length < 16 →
      ∀ b, s.target n th th.pc (targetOf (firstWord ws)) true = .ok b → ∃ t, exec (.call n p) s = .next t ∧
      (t.gang n).thread p = some (s.wentOn n p ws th { th with pc := b, calls := th.pc.succ :: th.calls } 2)) ∧
    (opOf (firstWord ws) = opCall → 16 ≤ th.calls.length → p = .main → ∃ t, exec (.call n p) s = .next t ∧
      t.erred n erCstkOvf) ∧
    (opOf (firstWord ws) = opRet → ∀ a rest, th.calls = a :: rest → s.backTarget n a = .ok a →
      (∀ e ∈ th.loops.head?, e.depth ≠ th.calls.length) → ∃ t, exec (.ret n p) s = .next t ∧
      (t.gang n).thread p = some (s.wentOn n p ws th { th with pc := a, calls := rest } 2)) ∧
    (opOf (firstWord ws) = opRet → th.calls = [] → p = .main → ∃ t, exec (.ret n p) s = .next t ∧ t.erred n erCstkUnf) ∧
    (opOf (firstWord ws) = opRet → ∀ a rest, th.calls = a :: rest →
      (∃ e ∈ th.loops.head?, e.depth = th.calls.length) → p = .main → ∃ t, exec (.ret n p) s = .next t ∧
      t.erred n erLoopRet) ∧
    (opOf (firstWord ws) = opJmp → bits (firstWord ws) 57 56 ≤ th.loops.length →
      ∀ b, s.target n th th.pc (targetOf (firstWord ws)) true = .ok b → ∃ t, exec (.jmp n p) s = .next t ∧
      (t.gang n).thread p = some (s.wentOn n p ws th { th with
        pc := b
        loops := th.loops.drop (bits (firstWord ws) 57 56) } 1)) ∧
    (opOf (firstWord ws) = opJmp → th.loops.length < bits (firstWord ws) 57 56 → p = .main →
      ∃ t, exec (.jmp n p) s = .next t ∧ t.erred n erLoopUnf)

/-- A VEC that is dispatched, whose timing set every pod holds with one period, and whose path's queue has room, joins the end of that queue with the low 32 bits of every pod's word, RPT + 1 periods and the present tick, and the path goes on at the next word after one cycle. A short word that expands to a VEC does the same. With the queue of the main path full, the path stays where it is and STALL says so. -/
def Obligations.VectorsQueue : Prop :=
  ∀ (s : State) (n : SiteId) (p : Path) (th : Thread) (ws : List (Nat × Nat)) (compat : Bool), Ready s n p compat th ws →
    opOf (firstWord ws) = opVec → s.vecErr n (vwTset (firstWord ws)) = none →
    (s.oqRoom n p = true → ∃ t, exec (if compat then .shortWord n p else .vec n p) s = .next t ∧
      (t.gang n).thread p = some (s.wentOn n p ws th { th with pc := th.pc.succ } 1) ∧
      (t.gang n).queue p = (s.gang n).queue p ++ [⟨(s.gang n).seqNext, 0, ws.map (fun x => (x.1, x.2 % 2 ^ 32)),
        bits (firstWord ws) 47 32 + 1, s.now⟩]) ∧
    (s.oqRoom n p = false → p = .main → ∃ t, exec (if compat then .shortWord n p else .vec n p) s = .next t ∧
      t.gang n = s.gang n ∧ ∀ q ∈ s.podsOf n, t.rd F.ENG_RA_STAT_STALL q = 1)

/-- A MATCH that is dispatched on a sprout, or on the main path outside a shadow, and whose counter is not armed for another word: with its tag's result PASS it continues at its successor and the counter is idle; with FAIL or NONE and a counter (loaded with LIMIT where it is idle) that is not 0, it decrements the counter and continues at TARGET; with the counter at 0 the loop is exhausted and the path continues at the successor. -/
def Obligations.MatchLoops : Prop :=
  ∀ (s : State) (n : SiteId) (p : Path) (th : Thread) (ws : List (Nat × Nat)), Ready s n p false th ws →
    opOf (firstWord ws) = opMatch → (p = .main → (s.gang n).shadowTo = none) → (∀ m ∈ th.mctr, m.2 = th.pc) →
    (s.matchTag n p th (s.gang n).seqNext (bits (firstWord ws) 55 52) = some 0 → ∃ t, exec (.matchW n p) s = .next t ∧
      (t.gang n).thread p = some (s.wentOn n p ws th { th with pc := th.pc.succ, mctr := none, mtarget := none, lastMatch := .matched } 1)) ∧
    (∀ r, s.matchTag n p th (s.gang n).seqNext (bits (firstWord ws) 55 52) = some r → r ≠ 0 →
      ∀ k, k = (th.mctr.map (·.1)).getD (bits (firstWord ws) 51 32) →
      (k = 0 → ∃ t, exec (.matchW n p) s = .next t ∧
        (t.gang n).thread p = some (s.wentOn n p ws th { th with pc := th.pc.succ, mctr := none, mtarget := none, lastMatch := .exhausted } 1)) ∧
      (k ≠ 0 → ∀ b, s.matchTarget n th th.pc (targetOf (firstWord ws)) = .ok b → ∃ t, exec (.matchW n p) s = .next t ∧
        (t.gang n).thread p = some (s.wentOn n p ws th { th with pc := b, mctr := some (k - 1, th.pc), mtarget := some b } 1)))

/-- A JFAIL or JPASS that is dispatched in a gang that has started, with its condition known (0 PASS, 1 FAIL, 2 neither): JFAIL is taken on FAIL, JPASS on PASS. Not taken, the path continues at the successor. Taken, with POPL loops open and a target that can be continued at, it discards POPL entries and continues at TARGET. -/
def Obligations.ConditionsBranch : Prop :=
  ∀ (s : State) (n : SiteId) (p : Path) (th : Thread) (ws : List (Nat × Nat)) (isFail : Bool) (v : Nat), Ready s n p false th ws →
    opOf (firstWord ws) = (if isFail then opJfail else opJpass) → (s.gang n).started = true →
    s.evalCond n p th (s.gang n).seqNext (bits (firstWord ws) 55 54) (bits (firstWord ws) 53 50) (bits (firstWord ws) 49 26)
      = some v →
    (v ≠ (if isFail then 1 else 0) → ∃ t, exec (if isFail then .jfail n p else .jpass n p) s = .next t ∧
      (t.gang n).thread p = some (s.wentOn n p ws th { th with pc := th.pc.succ } 1)) ∧
    (v = (if isFail then 1 else 0) → bits (firstWord ws) 57 56 ≤ th.loops.length →
      ∀ b, s.target n th th.pc (targetOf (firstWord ws)) false = .ok b →
      ∃ t, exec (if isFail then .jfail n p else .jpass n p) s = .next t ∧
      (t.gang n).thread p = some (s.wentOn n p ws th { th with
        pc := b
        loops := th.loops.drop (bits (firstWord ws) 57 56) } 1))

/-- Each of these words, dispatched with room in the side-effect buffer for what it posts, appends its effects with the fields of the word (pod-local fields from every pod's own word) to those of its path, and the path goes on at the successor after the word's cost. MEAS is the form with WAIT at 0. A LEDG posts the entry and the clearing of the fail state, and sets U1 and U2. A NOP with ATTN at 0 posts nothing. -/
def Obligations.WordsPost : Prop :=
  ∀ (s : State) (n : SiteId) (p : Path) (th : Thread) (ws : List (Nat × Nat)) (w : Nat), Ready s n p false th ws →
    w = firstWord ws → ∀ (c : Instr) (op cost : Nat) (effs : List Eff),
    (c, op, cost, effs) ∈ [
      (Instr.setlvl n p, opSetlvl, 2, [Eff.lvl (bits w 3 0)]),
      (.setload n p, opSetload, 2, [.load (ws.map (fun e => (e.1, bits e.2 55 42, bits e.2 57 56, bits e.2 3 0)))]),
      (.cnt n p, opCnt, 1, [.cnt (bits w 57 55) (bits w 53 52) (bits w 51 40) (bits w 31 0)]),
      (.logon n p, opLogon, 1, [.log true (ws.map (fun e => (e.1, bits e.2 3 0)))]),
      (.logoff n p, opLogoff, 1, [.log false (ws.map (fun e => (e.1, bits e.2 3 0)))]),
      (.awg n p, opAwg, 2, [.awg (bits w 57 56) (bits w 55 54) (bits w 52 48) (bits w 21 0)]),
      (.ledg n p, opLedg, 4, [.ledg (bits w 55 44) (bits w 43 36) (bits w 35 28) (bits w 27 24) (bits w 23 20) (hasBit w 19)
        (hasBit w 18) (hasBit w 57), .fclr (hasBit w 57)])]
      ++ (if hasBit w 35 then [] else [(.meas n p, opMeas, 3, [.meas (bits w 57 56) (bits w 55 52) (bits w 51 40) false
        (ws.map (fun e => (e.1, bits e.2 3 0)))])])
      ++ [(.nop n p, opNop, 1, if hasBit w 0 then [.attn 2 (s.shown (s.lead n) th.pc)] else [])] →
    opOf w = op → s.roomFor n p effs.length →
    ∃ t, exec c s = .next t ∧
      (t.gang n).thread p = some (s.wentOn n p ws th { if op = opLedg then ledgThread th ws else th with pc := th.pc.succ } cost) ∧
      (t.gang n).effsOf p = (s.gang n).effsOf p ++ effs

/-- Each of these words, dispatched on the main path of a gang that has no wait open (and, for MEAS, with room for its side effect), opens a wait at its place in program order with the fields of the word, and the path goes on at its successor. -/
def Obligations.WordsWait : Prop :=
  ∀ (s : State) (n : SiteId) (th : Thread) (ws : List (Nat × Nat)) (w : Nat), Ready s n .main false th ws → w = firstWord ws →
    (s.gang n).wait = none →
    (opOf w = opWaitt → ∃ t, exec (.waitt n .main) s = .next t ∧
      (t.gang n).main = s.wentOn n .main ws th { th with pc := th.pc.succ } 2 ∧
      ∃ x, (t.gang n).wait = some x ∧ x.seq = (s.gang n).seqNext ∧ x.kind = .time (hasBit w 57) (bits w 47 0)) ∧
    (opOf w = opWaitev → ∃ t, exec (.waitev n .main) s = .next t ∧
      (t.gang n).main = s.wentOn n .main ws th { th with pc := th.pc.succ } 2 ∧
      ∃ x seen, (t.gang n).wait = some x ∧ x.seq = (s.gang n).seqNext ∧ x.kind = .event (bits w 51 40) seen ∧
        x.tag = bits w 55 52 ∧ x.failto = hasBit w 56 ∧ x.tmo = bits w 31 0) ∧
    (opOf w = opGsync → ∃ t, exec (.gsync n .main) s = .next t ∧
      (t.gang n).main = s.wentOn n .main ws th { th with pc := th.pc.succ } 2 ∧
      ∃ x arrived, (t.gang n).wait = some x ∧ x.seq = (s.gang n).seqNext ∧ x.kind = .barrier (bits w 51 48) arrived ∧
        x.tag = bits w 55 52 ∧ x.failto = hasBit w 56 ∧ x.tmo = bits w 31 0) ∧
    (opOf w = opMeas → hasBit w 35 = true → s.roomFor n .main 1 → ∃ t, exec (.meas n .main) s = .next t ∧
      (t.gang n).main = s.wentOn n .main ws th { th with pc := th.pc.succ } 3 ∧
      (∃ x, (t.gang n).wait = some x ∧ x.seq = (s.gang n).seqNext ∧ x.kind = .meas (bits w 55 52)) ∧
      (t.gang n).effsOf .main = (s.gang n).effsOf .main ++ [.meas (bits w 57 56) (bits w 55 52) (bits w 51 40) true
        (ws.map (fun e => (e.1, bits e.2 3 0)))])

/-- A HALT dispatched on the main path once everything before it is done (with PARK at 1, the pins parked) leaves ENG_STAT.STATE of every pod HALTED. PSAFE on the main path with no pre-emption to take goes on, and behind a vector not yet launched it leaves a safe point marked at its place. A word with neither a factory nor a user routine is error ILLEGAL on the main path. A user opcode starts its routine in every pod at the micro-address of its entry. FUSED at a LOOP pushes the loop entry. -/
def Obligations.WordsEndAndBegin : Prop :=
  ∀ (s : State) (n : SiteId) (p : Path) (th : Thread) (ws : List (Nat × Nat)), Ready s n p false th ws →
    (p = .main → opOf (firstWord ws) = opHalt → (s.gang n).atBoundary (s.gang n).seqNext s.now = true →
      s.allDone n = true → ∃ t, exec (.halt n p) s = .next t ∧ ∀ q ∈ s.podsOf n, t.rd F.ENG_STAT_STATE q = stHalted) ∧
    (p = .main → opOf (firstWord ws) = opPsafe → (s.gang n).safePoint = none → ∃ t, exec (.psafe n p) s = .next t ∧
      (t.gang n).main = s.wentOn n p ws th { th with pc := th.pc.succ } 1 ∧
      ((∃ e ∈ (s.gang n).oq, e.seq ≤ (s.gang n).seqNext) → ∃ m ∈ (t.gang n).safes, m.seq = (s.gang n).seqNext + 1 ∧
        m.th.pc = th.pc.succ ∧ m.th.word = th.pc)) ∧
    (p = .main → factoryOps.contains (opOf (firstWord ws)) = false → s.userEntry n (opOf (firstWord ws)) = none →
      ∃ t, exec (.illegalOpcode n p) s = .next t ∧ t.erred n erIllegal) ∧
    (∀ upc, s.userEntry n (opOf (firstWord ws)) = some upc → ∃ t, exec (.userOpcode n p) s = .next t ∧
      ∃ th', (t.gang n).thread p = some th' ∧ th'.inRoutine = true ∧ th'.word = th.pc ∧
        ∀ e ∈ ws, (th'.micro e.1).active = true ∧ (th'.micro e.1).done = false ∧ (th'.micro e.1).upc = upc) ∧
    ((s.gang n).safePoint = none → opOf (firstWord ws) = opLoop → th.loops.length < 4 → ∃ t, exec (.fused n p) s = .next t ∧
      (t.gang n).thread p = some (s.wentOn n p ws th { th with
        pc := th.pc.succ
        loops := ⟨th.pc.succ, bits (firstWord ws) 55 32, th.calls.length⟩ :: th.loops } 1))

/-- An engine that carries out UNOP, MOV, LDI, LDH, ADD, SUB, AND, OR, XOR, SHL, SHR, FLD, CMP or SETPC (not the last of its routine) writes rd with the result (U0 ignores the write), sets Z, N and C as listed, and goes on at the next micro-op; the other engines of the path keep theirs. C after a logical operation is the model's choice (assumption 15). -/
def Obligations.MicroRegisters : Prop :=
  ∀ (s : State) (pod : PodId) (p : Path) (n : Nat) (th : Thread) (m : Nat) (x : MicroSt) (i : Instr) (uop : Nat) (d : Option Nat) (v : Nat)
    (z ng c : Bool) (npc : PAddr),
    MicroReady s pod p uop n th m → x = th.micro pod →
    (let a := x.reg (uRa m)
     let b := x.src m
     let rd := some (uRd m)
     let sum := (a + b) % 2 ^ 32
     let diff := (a + 2 ^ 32 - b) % 2 ^ 32
     let left := a * 2 ^ (b % 32) % 2 ^ 32
     let right := a / 2 ^ (b % 32)
     (i, uop, d, v, z, ng, c, npc) ∈ [
      (Instr.uUnop pod p, 0x00, none, 0, x.z, x.n, x.c, x.npc),
      (.uMov pod p, 0x01, rd, a, x.z, x.n, x.c, x.npc),
      (.uLdi pod p, 0x02, rd, uImm17 m, x.z, x.n, x.c, x.npc),
      (.uLdh pod p, 0x03, rd, uImm17 m % 2 ^ 15 * 2 ^ 17 + x.reg (uRd m) % 2 ^ 17, x.z, x.n, x.c, x.npc),
      (.uAdd pod p, 0x04, rd, sum, sum == 0, hasBit sum 31, decide (a + b ≥ 2 ^ 32), x.npc),
      (.uSub pod p, 0x05, rd, diff, diff == 0, hasBit diff 31, decide (a < b), x.npc),
      (.uAnd pod p, 0x06, rd, Nat.land a b, Nat.land a b % 2 ^ 32 == 0, hasBit (Nat.land a b) 31, false, x.npc),
      (.uOr pod p, 0x07, rd, Nat.lor a b, Nat.lor a b % 2 ^ 32 == 0, hasBit (Nat.lor a b) 31, false, x.npc),
      (.uXor pod p, 0x08, rd, Nat.xor a b, Nat.xor a b % 2 ^ 32 == 0, hasBit (Nat.xor a b) 31, false, x.npc),
      (.uShl pod p, 0x09, rd, left, left == 0, hasBit left 31, x.c, x.npc),
      (.uShr pod p, 0x0A, rd, right, right % 2 ^ 32 == 0, hasBit right 31, x.c, x.npc),
      (.uFld pod p, 0x0B, rd, x.w % 2 ^ 64 / 2 ^ bits m 16 11 % 2 ^ (bits m 10 6 + 1), x.z, x.n, x.c, x.npc),
      (.uCmp pod p, 0x0C, none, 0, diff == 0, hasBit diff 31, decide (a < b), x.npc),
      (.uSetpc pod p, 0x13, none, 0, x.z, x.n, x.c, PAddr.ofNum (x.reg (uRa m)))]) →
    ∃ t, exec i s = .next t ∧ s.engineWrote t n p pod d v z ng c npc (x.upc + 1)

/-- UBR goes to its micro-address where its condition on the flags holds, else on. UCALL pushes the next micro-address and branches; with eight entries on the stack it is USTK_OVF. URET pops into the micro-PC; with none it is USTK_UNF. UERR is error 0x18 + imm17[2:0]. Errors are those of the main path. -/
def Obligations.MicroSequencing : Prop :=
  ∀ (s : State) (pod : PodId) (p : Path) (n : Nat) (th : Thread) (m : Nat) (x : MicroSt), x = th.micro pod →
    (MicroReady s pod p 0x10 n th m → ∃ t, exec (.uUbr pod p) s = .next t ∧
      s.engineWrote t n p pod none 0 x.z x.n x.c x.npc (if x.ubr (uRd m) then m % 2048 else x.upc + 1) ∧
      (t.engine n p pod).map (·.ustack) = some x.ustack) ∧
    (MicroReady s pod p 0x11 n th m → x.ustack.length < 8 → ∃ t, exec (.uUcall pod p) s = .next t ∧
      s.engineWrote t n p pod none 0 x.z x.n x.c x.npc (m % 2048) ∧
      (t.engine n p pod).map (·.ustack) = some ((x.upc + 1) % 2048 :: x.ustack)) ∧
    (MicroReady s pod .main 0x11 n th m → 8 ≤ x.ustack.length → ∃ t, exec (.uUcall pod .main) s = .next t ∧ t.erred n erUstkOvf) ∧
    (MicroReady s pod p 0x12 n th m → ∀ a rest, x.ustack = a :: rest → ∃ t, exec (.uUret pod p) s = .next t ∧
      s.engineWrote t n p pod none 0 x.z x.n x.c x.npc a ∧ (t.engine n p pod).map (·.ustack) = some rest) ∧
    (MicroReady s pod .main 0x12 n th m → x.ustack = [] → ∃ t, exec (.uUret pod .main) s = .next t ∧ t.erred n erUstkUnf) ∧
    (MicroReady s pod .main 0x1E n th m → ∃ t, exec (.uUerr pod .main) s = .next t ∧ t.erred n (0x18 + uImm17 m % 8))

/-- The first engine of a gang to reach the micro-op does it; a later one takes its result, and one with other operands is LOCKSTEP. LSTK 0 pushes NPC, ra and the call depth (four at most, else LOOP_OVF); 1 decrements the top count, Z telling that it was 0, when the entry stays as it is (model's choice, assumption 169; none: LOOP_UNF); 2 pops ra entries (fewer: LOOP_UNF). CSTK 0 pushes NPC (sixteen at most, else CSTK_OVF); 1 pops into NPC (none: CSTK_UNF; a loop opened at this depth: LOOP_RET). MCTR 0 loads ra and arms the word, 1 decrements, Z telling that it was 0 (both MNEST while another word is armed), 2 sets it idle. -/
def Obligations.MicroStacks : Prop :=
  ∀ (s : State) (pod : PodId) (p : Path) (n : Nat) (th : Thread) (m : Nat) (x : MicroSt) (v : Nat), x = th.micro pod → v = x.reg (uKra m) →
    (th.gangOps[x.opIdx]? = none →
      (MicroReady s pod p 0x15 n th m →
        (uKsub m = 0 → th.loops.length < 4 → ∃ t, exec (.uLstk pod p) s = .next t ∧
          t.stacks n p pod (⟨x.npc, v, th.calls.length⟩ :: th.loops) th.calls th.mctr x.z) ∧
        (uKsub m = 0 → 4 ≤ th.loops.length → p = .main → ∃ t, exec (.uLstk pod p) s = .next t ∧ t.erred n erLoopOvf) ∧
        (uKsub m = 1 → ∀ e rest, th.loops = e :: rest → ∃ t, exec (.uLstk pod p) s = .next t ∧
          t.stacks n p pod ((if e.count = 0 then e else { e with count := e.count - 1 }) :: rest) th.calls th.mctr (e.count == 0)) ∧
        (uKsub m = 1 → th.loops = [] → p = .main → ∃ t, exec (.uLstk pod p) s = .next t ∧ t.erred n erLoopUnf) ∧
        (uKsub m = 2 → v % 4 ≤ th.loops.length → ∃ t, exec (.uLstk pod p) s = .next t ∧
          t.stacks n p pod (th.loops.drop (v % 4)) th.calls th.mctr x.z) ∧
        (uKsub m = 2 → th.loops.length < v % 4 → p = .main → ∃ t, exec (.uLstk pod p) s = .next t ∧ t.erred n erLoopUnf)) ∧
      (MicroReady s pod p 0x16 n th m →
        (uKsub m = 0 → th.calls.length < 16 → ∃ t, exec (.uCstk pod p) s = .next t ∧
          t.stacks n p pod th.loops (x.npc :: th.calls) th.mctr x.z) ∧
        (uKsub m = 0 → 16 ≤ th.calls.length → p = .main → ∃ t, exec (.uCstk pod p) s = .next t ∧ t.erred n erCstkOvf) ∧
        (uKsub m = 1 → ∀ a rest, th.calls = a :: rest → a.seg < 64 → (∀ e ∈ th.loops.head?, e.depth ≠ th.calls.length) →
          ∃ t, exec (.uCstk pod p) s = .next t ∧ t.stacks n p pod th.loops rest th.mctr x.z ∧
          (t.engine n p pod).map (·.npc) = some a) ∧
        (uKsub m = 1 → th.calls = [] → p = .main → ∃ t, exec (.uCstk pod p) s = .next t ∧ t.erred n erCstkUnf) ∧
        (uKsub m = 1 → ∀ a rest e l, th.calls = a :: rest → th.loops = e :: l → e.depth = th.calls.length → p = .main →
          ∃ t, exec (.uCstk pod p) s = .next t ∧ t.erred n erLoopRet)) ∧
      (MicroReady s pod p 0x17 n th m →
        ((∀ k ∈ th.mctr, k.2 = th.word) → uKsub m = 0 → ∃ t, exec (.uMctr pod p) s = .next t ∧
          t.stacks n p pod th.loops th.calls (some (v, th.word)) x.z) ∧
        (uKsub m = 1 → ∀ k, th.mctr = some (k, th.word) → ∃ t, exec (.uMctr pod p) s = .next t ∧
          t.stacks n p pod th.loops th.calls (some (k - 1, th.word)) (k == 0)) ∧
        (uKsub m < 2 → ∀ k w, th.mctr = some (k, w) → w ≠ th.word → p = .main → ∃ t, exec (.uMctr pod p) s = .next t ∧
          t.erred n erMnest) ∧
        (uKsub m = 2 → ∃ t, exec (.uMctr pod p) s = .next t ∧ t.stacks n p pod th.loops th.calls none x.z))) ∧
    (∀ o, th.gangOps[x.opIdx]? = some o →
      (MicroReady s pod p 0x15 n th m → o.kind = 0x1500 + uKsub m →
        o.a = (if uKsub m = 0 then v else if uKsub m = 2 then v % 4 else 0) → o.b = (if uKsub m = 0 then PAddr.num x.npc else 0) → ∃ t, exec (.uLstk pod p) s = .next t ∧
        t.stacks n p pod th.loops th.calls th.mctr (if uKsub m = 1 then o.res == 1 else x.z)) ∧
      (MicroReady s pod p 0x16 n th m → o.kind = 0x1600 + uKsub m →
        o.a = (if uKsub m = 0 then PAddr.num x.npc else 0) → o.b = 0 → ∃ t, exec (.uCstk pod p) s = .next t ∧
        t.stacks n p pod th.loops th.calls th.mctr x.z ∧
        (uKsub m = 1 → 0 < o.res → (t.engine n p pod).map (·.npc) = some ⟨(o.res - 1) % 64, (o.res - 1) / 64⟩)) ∧
      (MicroReady s pod p 0x17 n th m → o.kind = 0x1700 + uKsub m →
        o.a = (if uKsub m = 0 then v else 0) → o.b = 0 → ∃ t, exec (.uMctr pod p) s = .next t ∧
        t.stacks n p pod th.loops th.calls th.mctr (if uKsub m = 1 then o.res == 1 else x.z)) ∧
      (∀ i u, (i, u) ∈ [(Instr.uLstk pod .main, 0x15), (.uCstk pod .main, 0x16), (.uMctr pod .main, 0x17)] → p = .main →
        MicroReady s pod p u n th m → o.kind ≠ u * 256 + uKsub m → ∃ t, exec i s = .next t ∧ t.erred n erLockstep))

/-- GETS writes the selected value (word, NPC, top loop count, call depth, match counter, pod, lowest pod). COND with a known condition writes it to rd and Z. ISSUE of the first engine puts its vector on the path's queue. SEFX of the first engine posts the effect its kind names; a pod kind posts its own pod's; a reserved operand is RSVD. WAIT of the first engine on the main path opens the wait. SAFEPT goes on (a request takes it at its boundary tick). GHALT once everything before it is done, with PARK at 0, leaves every pod HALTED. -/
def Obligations.MicroSiteState : Prop :=
  ∀ (s : State) (pod : PodId) (p : Path) (n : Nat) (th : Thread) (m : Nat) (x : MicroSt), x = th.micro pod →
    (MicroReady s pod p 0x0D n th m → ∀ v, (uImm9 m, v) ∈ [(0x00, PAddr.num th.word), (0x01, PAddr.num x.npc),
        (0x0B, (th.loops.head?.map (·.count)).getD 0), (0x0C, th.calls.length), (0x0D, (th.mctr.map (·.1)).getD 0), (0x0E, pod.val),
        (0x0F, s.lead n)] → ∃ t, exec (.uGets pod p) s = .next t ∧
      s.engineWrote t n p pod (some (uRd m)) v x.z x.n x.c x.npc (x.upc + 1)) ∧
    (MicroReady s pod p 0x18 n th m → (s.gang n).started = true →
      ∀ v, s.evalCond n p th th.wordSeq (bits m 16 15) (bits m 14 11) (x.reg (bits m 10 7)) = some v →
      ∃ t, exec (.uCond pod p) s = .next t ∧
      s.engineWrote t n p pod (some (uRd m)) v (v == 0) x.n x.c x.npc (x.upc + 1)) ∧
    (MicroReady s pod p 0x14 n th m → th.gangOps[x.opIdx]? = none → ∀ vw rpt,
      (vw, rpt) = (if hasBit m 20 = true then (x.reg (uRa m), x.reg (uRb m) % 65536 + 1) else (x.w % 2 ^ 32, bits x.w 47 32 + 1)) →
      s.vecErr n (vwTset vw) = none → s.oqRoom n p = true → ∃ t, exec (.uIssue pod p) s = .next t ∧
      (t.gang n).queue p = (s.gang n).queue p ++ [⟨th.wordSeq, x.opIdx, [(pod.val, vw)], rpt, s.now⟩]) ∧
    (MicroReady s pod p 0x1C n th m → s.roomFor n p 1 → ∀ kind ra rb, kind = bits m 20 15 → ra = x.reg (bits m 14 11) →
      rb = x.reg (bits m 10 7) →
      (∀ e, kind ∉ [1, 2, 3, 5] → kind < 0x0C → th.gangOps[x.opIdx]? = none → sefxEff kind ra rb = .ok e →
        ∃ t, exec (.uSefx pod p) s = .next t ∧ (t.gang n).effsOf p = (s.gang n).effsOf p ++ [e]) ∧
      (∀ e, (kind, e) ∈ [(1, Eff.load [(pod.val, bits ra 15 2, ra % 4, rb % 16)]), (2, .log true [(pod.val, rb % 16)]),
          (3, .log false [(pod.val, rb % 16)])] →
        ∃ t, exec (.uSefx pod p) s = .next t ∧ (t.gang n).effsOf p = (s.gang n).effsOf p ++ [e]) ∧
      (kind = 5 → th.gangOps[x.opIdx]? = none → bits ra 25 24 ≤ 1 → bits ra 23 20 ≤ 11 →
        bits ra 19 8 < (if bits ra 25 24 = 0 then 512 else 256) →
        ∃ t, exec (.uSefx pod p) s = .next t ∧ (t.gang n).effsOf p =
          (s.gang n).effsOf p ++ [.meas (bits ra 25 24) (bits ra 23 20) (bits ra 19 8) false [(pod.val, rb % 16)]]) ∧
      (∀ c, p = .main → kind ∉ [1, 2, 3, 5] → th.gangOps[x.opIdx]? = none → sefxEff kind ra rb = .error c →
        ∃ t, exec (.uSefx pod p) s = .next t ∧ t.erred n erRsvd)) ∧
    (MicroReady s pod .main 0x1D n th m → th.gangOps[x.opIdx]? = none → (s.gang n).wait = none → ∀ ra rb,
      ra = x.reg (bits m 16 13) → rb = x.reg (bits m 12 9) → (bits m 20 18 = 1 → ra % 4096 ≤ 2303) →
      ∃ t y, exec (.uWait pod .main) s = .next t ∧ (t.gang n).wait = some y ∧ y.seq = th.wordSeq ∧ y.ix = x.opIdx ∧ y.micro = true ∧
      y.kind.bare = (waitOf m ra rb).1 ∧ y.tmo = (waitOf m ra rb).2) ∧
    (MicroReady s pod .main 0x1F n th m → th.gangOps[x.opIdx]? = none →
      ∃ t, exec (.uSafept pod .main) s = .next t ∧ s.engineWrote t n .main pod none 0 x.z x.n x.c x.npc (x.upc + 1)) ∧
    (MicroReady s pod .main 0x20 n th m → (s.gang n).atBoundary th.wordSeq s.now = true → hasBit (x.reg (uRa m)) 0 = false →
      s.allDone n = true → ∃ t, exec (.uGhalt pod .main) s = .next t ∧ ∀ q ∈ s.podsOf n, t.rd F.ENG_STAT_STATE q = stHalted)

/-- The first entry of a site's side-effect buffer that can commit and is not bound to a LEDG leaves it with the entries of its atomic region, and the others stay in order. On its own, LVL shows the level set in every pod; CNT LOAD puts the number in a gang counter that counts no events; FCLR with nothing failed behind it clears the fail flag; PFLAG sets the flag that it names. A LEDG with only the clearing of the fail state in its region, and with room outside the reserve, appends its entry, stamped now, with its step number and site. -/
def Obligations.CommitsTakeEffect : Prop :=
  ∀ (s : State) (n : SiteId) (e : SebEntry), (s.gang n).held = none →
    ((s.gang n).seb.find? (fun e => (s.gang n).canCommit s.now e && !(s.gang n).ledgWith e) = some e →
      (∃ t, exec (.sideEffectCommit n) s = .next t ∧
        (t.gang n).effsOf .main = ((s.gang n).seb.filter (fun f => !(f == e || f.together e))).map (·.eff)) ∧
      (e.region = none → (s.gang n).seb.filter (fun f => f == e) = [e] →
        (∀ k, e.eff = .lvl k → k < 16 → ∃ t, exec (.sideEffectCommit n) s = .next t ∧ ∀ p ∈ s.podsOf n, t.rd F.POD_LVL_STAT_LSET p = k) ∧
        (∀ idx src imm, e.eff = .cnt 0 idx src imm → imm < 2 ^ 32 → idx < 4 →
          Store.get (fun _ => none) (s.gang n).evcnt idx = none → ∃ t, exec (.sideEffectCommit n) s = .next t ∧ t.gc n idx = imm) ∧
        (∀ k f, e.eff = .pflag k → (k, f) ∈ [(0, F.SITE_PSTAT_AWGLOST), (1, F.SITE_PSTAT_BTO), (2, F.SITE_PSTAT_ETO), (3, F.SITE_PSTAT_WLATE)] →
          ∃ t, exec (.sideEffectCommit n) s = .next t ∧ t.on f n = true) ∧
        (e.eff = .fclr true → (s.gang n).failsAfter e.seq = [] → ∃ t, exec (.sideEffectCommit n) s = .next t ∧
          t.on F.SITE_PSTAT_FAIL n = false ∧ t.rd F.SITE_FCOUNT_FCOUNT n = 0))) ∧
    (∀ step bp bf va vb vaen vben clr, e.eff = .ledg step bp bf va vb vaen vben clr →
      (s.gang n).seb.find? (fun e => e.eff.isLedg) = some e → (s.gang n).canCommit s.now e = true →
      (∃ f c, f.eff = .fclr c ∧ (s.gang n).seb.filter (fun f => f == e || f.together e) = [e, f]) → s.ledgCommitted < 65408 →
      ∃ t x, exec (.ledgerCommit n) s = .next t ∧ t.ledgq = s.ledgq ++ [x] ∧ x.site = n.val ∧ x.step = step ∧ x.hold = false ∧
        x.commitT = s.now)

/-- With room outside the reserve, the oldest held commit of the site leaves its hold and is stamped now. The next committed entry leaves the queue, its 32 bytes stand in the slot at LEDG_WR, every other byte of the ledger memory is as before, and LEDG_WR advances, WRAP turning over after slot 65,535. -/
def Obligations.LedgerEntriesAppear : Prop :=
  ∀ (s : State) (e : LEnt),
    (∀ n : SiteId, s.ledgCommitted < 65408 → s.ledgq.find? (fun e => e.hold && e.site == n.val) = some e →
      ∃ t, exec (.ledgerHoldRelease n) s = .next t ∧ t.ledgq = s.ledgq.erase e ++ [{ e with hold := false, commitT := s.now }]) ∧
    (nextVisible s.ledgq = some e → s.rd F.LEDG_WR_WRAP < 2 → s.rd F.LEDG_WR_INDEX < 65536 →
      ∃ t, exec .ledgerEntryVisible s = .next t ∧ t.ledgq = s.ledgq.erase e ∧
      (∀ k, k < 32 → (t.ledgMem.byte (32 * s.rd F.LEDG_WR_INDEX + k)).toNat =
        (e.bytes (1 - s.rd F.LEDG_WR_WRAP) (s.rd F.GLB_ROLE_DEVNUM)).getD k 0 % 256) ∧
      (∀ a, a < 32 * s.rd F.LEDG_WR_INDEX ∨ 32 * s.rd F.LEDG_WR_INDEX + 32 ≤ a → t.ledgMem.byte a = s.ledgMem.byte a) ∧
      t.rd F.LEDG_WR_INDEX = (s.rd F.LEDG_WR_INDEX + 1) % 65536 ∧
      t.rd F.LEDG_WR_WRAP = if s.rd F.LEDG_WR_INDEX = 65535 then 1 - s.rd F.LEDG_WR_WRAP else s.rd F.LEDG_WR_WRAP)

/-- A gang whose next queued vector is complete, due within 48 ticks and not held back launches one period: it joins those in flight at its position and start tick, and the vector position goes up by one. The first launched vector whose resolution tick has come, once judged, leaves flight; its tag takes FAIL or PASS; a fail of a vector without NOFAIL sets the fail flag and adds one to the count. -/
def Obligations.VectorsLaunchAndResolve : Prop :=
  ∀ (s : State) (n : SiteId) (g : Gang), (s.gang n).held = none →
    (g = (s.gang n).fix s.now → ∀ e rest, g.oq = e :: rest → g.prep = true → g.wait = none → g.preempt = none → g.noLead = false →
      g.complete e.seq e.ix = true → g.shadowAllows e.seq e.ix (later g.pinEnd (after s.now 48)) = true →
      ahead g.pinEnd (after s.now 48) ≤ 0 → s.gstate n ∈ [stArmed, stRun, stWait, stBarrier] →
      ∃ t f, exec (.vectorLaunch n) s = .next t ∧ (t.gang n).flights = (s.gang n).flights ++ [f] ∧ f.seq = e.seq ∧
        f.pos = (s.gang n).vpos ∧ f.t0 = later g.pinEnd (after s.now 48) ∧ f.launch = s.now ∧ (t.gang n).vpos = (s.gang n).vpos + 1) ∧
    (∀ f, (s.gang n).flights.find? (s.flightReady n) = some f →
      ∃ t, exec (.vectorResolve n) s = .next t ∧ (t.gang n).flights = (s.gang n).flights.erase f ∧
      (vwTag f.vw ≠ 0 → vwTag f.vw < 16 → (s.gang n).tagSeq.at 0 (vwTag f.vw) ≤ f.seq + 1 →
        t.tagRes n (vwTag f.vw) = if f.failed then 2 else 1) ∧
      (f.failed = true → vwNofail f.vw = false → t.on F.SITE_PSTAT_FAIL n = true ∧
        t.rd F.SITE_FCOUNT_FCOUNT n = min (2 ^ 32 - 1) (s.rd F.SITE_FCOUNT_FCOUNT n + 1)))

/-- A JFAIL or JPASS checkpoint, the oldest, whose condition is known resolves: predicted right, the main path stays as it is and the checkpoint is gone; predicted wrong, with no sprout and with the other path's start free of errors, the main path is the other path's thread, dispatching ten ticks on (at the next slot under COMPAT). The oldest open decision of a MATCH that FAILs is taken: its iteration leaves the checkpoint. -/
def Obligations.BranchesResolve : Prop :=
  ∀ (s : State) (n : SiteId) (c : Ckpt) (tail : List Ckpt), (s.gang n).held = none → (s.gang n).ckpts = c :: tail →
    (∀ isFail cond idx imm popl tgt v, c.kind = .cond isFail cond idx imm popl tgt →
      s.evalCond n .main c.alt c.seq cond idx imm = some v →
      (c.taken = decide (v = if isFail then 1 else 0) → ∃ t, exec (.branchResolve n) s = .next t ∧
        (t.gang n).main = (s.gang n).main ∧ ∀ k ∈ (t.gang n).ckpts, k.seq ≠ c.seq) ∧
      (c.taken ≠ decide (v = if isFail then 1 else 0) → (s.gang n).sprout = none →
        ∀ th, ((s.countRes n 1).learn n c.word (!c.taken)).altPath n c = .ok th →
        ∃ t, exec (.branchResolve n) s = .next t ∧
        (t.gang n).main = { th with nextDisp := s.slotted n (after s.now 10) (s.gang n).main.dispT } ∧
        ∀ k ∈ (t.gang n).ckpts, k.seq < c.seq)) ∧
    (∀ h f tag l a i its v, c.kind = .mtch h f tag l a (i :: its) →
      s.evalCond n .main i.th i.seq 1 tag 0 = some v → v ≠ 0 → ∃ t, exec (.matchDecision n) s = .next t ∧
        ∀ k ∈ (t.gang n).ckpts, k.seq = c.seq → ∀ h f tg l a js, k.kind = .mtch h f tg l a js →
          js.map (·.seq) = its.map (·.seq))

/-- A timed wait ends at its target (WLATE where the target was past at the boundary tick). WAITEV ends with PASS 64 ticks after a satisfying event, or once its timeout is past with FAIL and ETO. A wait at a released barrier ends in the release tick with PASS, one not released by its timeout with FAIL and BTO. A wait for a measurement ends 64 ticks after the result. Every member of a STEP_RUN's barrier, once all have arrived, is released 96 ticks after the later of the last arrival and the last change of membership. -/
def Obligations.WaitsEnd : Prop :=
  ∀ (s : State) (n : SiteId) (w : GWait), (s.gang n).held = none → (s.gang n).wait = some w → (s.gang n).mayEnd w = true →
    (∀ base1 k b t0, w.kind = .time base1 k → w.bt = some b → w.endAt = some t0 → reached t0 s.now = true →
      ∃ t, exec (.waittEnd n) s = .next t ∧ s.waitOver t n t0 ∧
      (ahead (after (if base1 then b else (s.gang n).startT) k) b ≤ 0 → t.on F.SITE_PSTAT_WLATE n = true)) ∧
    (∀ q x t0, w.kind = .event q (some x) → w.endAt = some t0 → reached t0 s.now = true → ∃ t, exec (.waitevEvent n) s = .next t ∧
      s.waitOver t n t0 ∧ s.tagged t n w 1) ∧
    (∀ q t0, w.kind = .event q none → w.timeout = some t0 → ahead s.now t0 > 0 → ∃ t, exec (.waitevTimeout n) s = .next t ∧
      s.waitOver t n t0 ∧ t.on F.SITE_PSTAT_ETO n = true ∧ s.tagged t n w 2) ∧
    (∀ b o t0, w.kind = .barrier b o → w.timeout = some t0 →
      (w.endAt = none → reached t0 s.now = true → ∃ t, exec (.gsyncTimeout n) s = .next t ∧
        s.waitOver t n t0 ∧ t.on F.SITE_PSTAT_BTO n = true ∧ s.tagged t n w 2) ∧
      (∀ t1, w.endAt = some t1 → ahead t1 t0 ≤ 0 → reached t1 s.now = true → ∃ t, exec (.gsyncTimeout n) s = .next t ∧
        s.waitOver t n t1 ∧ s.tagged t n w 1)) ∧
    (∀ d t0, w.kind = .meas d → w.endAt = some t0 → reached t0 s.now = true → ∃ t, exec (.measWaitEnd n) s = .next t ∧ s.waitOver t n t0) ∧
    (∀ (q : QpId) cid bar r, s.runs.find? (fun r => r.qp == q.val && r.cid == cid && r.started) = some r → n.val ∈ s.members r →
      (∀ m ∈ s.members r, ∃ a, (s.gang m).arrivedAt bar = some a ∧ reached a s.now = true) → ∃ t, exec (.barrierRelease q cid bar) s = .next t ∧
      ∀ m ∈ s.members r, ∃ x, (t.gang m).wait = some x ∧
        x.endAt = some (after (lastOf s.now (r.memT.toList ++ (s.members r).filterMap (fun m => (s.gang m).arrivedAt bar))) 96))

/-- STOP of a pod of a running gang asks for a stop; at a point that allows it the gang is stopped, USTAT says so with the cause and ATWORD; RESUME and STEP start a stopped gang again, STEP asking for the next stop. A breakpoint that has been met, with every branch before it resolved, asks for a stop. A routine past its limit is error ULONG. PCLR sets every predictor counter to 1, QSET holds what was written. -/
def Obligations.StopsAndSteps : Prop :=
  ∀ (s : State) (pod : PodId) (n : SiteId), s.siteOfPod pod = some n.val → (s.gang n).held = none →
    (s.running n = true → (s.gang n).stopped = false → (s.gang n).stopReq = none → ∃ t, exec (.engUctlStop pod) s = .next t ∧
      (t.gang n).stopReq = some 0 ∧ t.rd F.ENG_UCTL_STOP pod = 1) ∧
    (∀ k w, (s.gang n).stopReq = some k → (s.gang n).stopped = false → s.running n = true → (k = 2 → (s.gang n).stepped = true) →
      k < 4 → s.stopPoint n = some w → ∃ t, exec (.stopTaken n) s = .next t ∧ (t.gang n).stopped = true ∧ (t.gang n).stopReq = none ∧
      ∀ p ∈ s.podsOf n, t.rd F.ENG_USTAT_STOPPED p = 1 ∧ t.rd F.ENG_USTAT_ATWORD p = ofBool w ∧ t.rd F.ENG_USTAT_SCAUSE p = k) ∧
    ((s.gang n).stopped = true → ∃ t, exec (.engUctlResume pod) s = .next t ∧ (t.gang n).stopped = false ∧ (t.gang n).stopReq = none ∧
      ∀ p ∈ s.podsOf n, t.rd F.ENG_USTAT_STOPPED p = 0) ∧
    ((s.gang n).stopped = true → ∃ t, exec (.engUctlStep pod) s = .next t ∧ (t.gang n).stopped = false ∧ (t.gang n).stopReq = some 2) ∧
    (∀ e, s.running n = true → (s.gang n).stopped = false → (s.gang n).stopReq = none →
      (s.gang n).brks.find? (fun e => e.2 == pod.val && (s.gang n).clearBefore e.1 wordEnd) = some e →
      ∃ t, exec (.breakpoint pod) s = .next t ∧ (t.gang n).stopReq = some 1 ∧ (t.gang n).brks = (s.gang n).brks.erase e) ∧
    ((s.gang n).prep = true → s.pastLimit n (s.gang n).main = true → ∃ t, exec (.routineLimit n) s = .next t ∧ t.erred n erUlong) ∧
    (∃ t, exec (.engRaCtlPclr pod) s = .next t ∧ ∀ a, (t.pod pod).pred.at 1 a = 1) ∧
    (∀ v : BitVec 32, ∃ t, exec (.engRaQset pod v) s = .next t ∧ t.rd F.ENG_RA_QSET_TSET pod = v.toNat % 64 ∧
      t.rd F.ENG_RA_QSET_GANG pod = v.toNat / 64 % 2)

/-- Past an entry's end a gang with a pod without a continuation halts with SEGEND, with a pod whose continuation is undefined or a WAVE with XKIND; it goes on at offset 0 of NEXT where every pod can fetch it, noting the old entry for retirement, and waits otherwise (the wait counts from now where no earlier branch is open). At its deadline the policy HALT is error UNDERRUN; PAD, with its words sound, and STALL note the under-run from now, and UR and the policy show in every pod. When the entry can be fetched the wait ends and the gang goes on there; a STALL or PAD of ENG_PM_CTL.STALL_TMO + 1 ticks is error UNDERRUN. -/
def Obligations.CrossingsAndUnderruns : Prop :=
  ∀ (s : State) (n : SiteId), (s.gang n).held = none →
    (∀ (x : SegX) (nx : PodId → SegX), x = s.seg (s.lead n) (s.gang n).main.pc.seg → (∀ p, nx p = s.seg p (s.gang n).main.pc.seg) →
        s.atCross n = true → s.pastEnd (s.lead n) (s.gang n).main.pc = true → (s.gang n).cross = none → (∀ p ∈ s.podsOf n, p < 256) →
      ((∃ p : PodId, p.val ∈ s.podsOf n ∧ (nx p).nextV = false) → ∃ t, exec (.segmentCrossing n) s = .next t ∧ t.erred n erSegend) ∧
      ((∀ p : PodId, p.val ∈ s.podsOf n → (nx p).nextV = true) →
        (∃ p : PodId, p.val ∈ s.podsOf n ∧ ((s.seg p (nx p).next).st = sgUndef ∨ (s.seg p (nx p).next).kind = kdWave)) →
        ∃ t, exec (.segmentCrossing n) s = .next t ∧ t.erred n erXkind) ∧
      ((∀ p : PodId, p.val ∈ s.podsOf n → (nx p).nextV = true ∧ (nx p).next = x.next ∧ (s.seg p (nx p).next).st ≠ sgUndef ∧
          (s.seg p (nx p).next).kind ≠ kdWave) →
        (s.allReady n ⟨x.next, 0⟩ = true → (s.gang n).main.pc ≠ ⟨x.next, 0⟩ → ∃ t, exec (.segmentCrossing n) s = .next t ∧
          (t.gang n).main.pc = ⟨x.next, 0⟩ ∧ (t.gang n).cross = none ∧
          ∀ p ∈ s.podsOf n, (64 * p + (s.gang n).main.pc.seg, (s.gang n).seqNext) ∈ (t.gang n).retire) ∧
        (s.allReady n ⟨x.next, 0⟩ = false → ∃ t, exec (.segmentCrossing n) s = .next t ∧ (t.gang n).main = (s.gang n).main ∧
          (t.gang n).cross = some ⟨x.next, if (s.gang n).clearBefore (s.gang n).seqNext wordEnd then some s.now else none,
            (s.seg (s.lead n) x.next).kind == kdStream, none⟩))) ∧
    (∀ c, (s.gang n).cross = some c → c.strm = false → s.urDue n c = true →
      ((s.seg (s.lead n) c.seg).policy = 0 → ∃ t, exec (.underrunDeadline n) s = .next t ∧ t.erred n erUnderrun) ∧
      ((s.seg (s.lead n) c.seg).policy = 1 → s.padErr n = none → ∃ t, exec (.underrunDeadline n) s = .next t ∧
        (t.gang n).cross = some { c with ur := some (2, s.now) } ∧
        ∀ p ∈ s.podsOf n, t.rd F.ENG_PM_STAT_UR p = 1 ∧ t.rd F.ENG_PM_STAT_LASTPOL p = 2) ∧
      (1 < (s.seg (s.lead n) c.seg).policy → ∃ t, exec (.underrunDeadline n) s = .next t ∧
        (t.gang n).cross = some { c with ur := some (3, s.now) } ∧
        ∀ p ∈ s.podsOf n, t.rd F.ENG_PM_STAT_UR p = 1 ∧ t.rd F.ENG_PM_STAT_LASTPOL p = 3)) ∧
    (∀ c a, (s.gang n).cross = some c → c.ur.isSome = true → s.crossAt n = some a → s.allReady n a = true →
      ∃ t, exec (.underrunEnd n) s = .next t ∧ (t.gang n).main.pc = a ∧ (t.gang n).cross = none) ∧
    (∀ c k t0, (s.gang n).cross = some c → c.ur = some (k, t0) →
      reached (after t0 ((s.rd F.ENG_PM_CTL_STALL_TMO (s.lead n) + 1) * 1024)) s.now = true →
      ∃ t, exec (.stallTimeout n) s = .next t ∧ t.erred n erUnderrun)

/-- A CONSUME entry left by a crossing whose first word has committed retires: RETIRED with no reloads left, else its reload of ADV granules on begins. The last granule of a load that is its pod's next one (best class, the oldest retirement first among reloads, no stream before it that is due, not in the safe state) makes the entry READY with the pool's bytes, and no other byte of the local stores changes. A pool error frees the entry and shows LOADERR. At the end of the step ACTIVE entries become READY and REWIND entries that have moved or retired load from PBASE again. -/
def Obligations.SegmentsLoadAndRetire : Prop :=
  ∀ (s : State),
    (∀ (pod : PodId) (k : Fin 64) n e, s.siteOfPod pod = some n →
      (s.gang n).retire.find? (fun e => e.1 == 64 * pod.val + k.val) = some e → e.2 < (s.gang n).seqNext → (s.gang n).clearBefore e.2 wordEnd = true →
      (s.seg pod k).consume = true → ∃ t, exec (.retirement pod k) s = .next t ∧ (t.gang n).retire = (s.gang n).retire.erase e ∧
      ((s.seg pod k).rem = 0 → (t.seg pod k).st = sgRetired) ∧
      ((s.seg pod k).rem ≠ 0 → (t.seg pod k).st = sgLoading ∧ (t.seg pod k).src = (s.seg pod k).src + (s.seg pod k).adv ∧
        (t.seg pod k).rem = (s.seg pod k).rem - 1)) ∧
    (∀ (pod : PodId) (k : Fin 64), s.safe = false → (s.seg pod k).st = sgLoading → (s.seg pod k).cls < 5 → (s.seg pod k).kind ≠ kdStream →
      (2 < (s.seg pod k).cls → s.streamDue pod = false) → ((s.seg pod k).cls = 3 → s.oldestReload pod k = true) →
      (s.seg pod k).cls = s.bestClass pod →
      s.poolBad.any (fun g => decide ((s.seg pod k).src ≤ g ∧ g < (s.seg pod k).src + (s.seg pod k).len)) = false →
      ∃ t, exec (.refillDone pod k) s = .next t ∧ (t.seg pod k).st = sgReady ∧
      (∀ i, i < 512 * (s.seg pod k).len → t.segMem.byte (granuleAddr pod (s.seg pod k) 0 + i) = s.poolMem.byte (512 * (s.seg pod k).src + i)) ∧
      ∀ a, a < granuleAddr pod (s.seg pod k) 0 ∨ granuleAddr pod (s.seg pod k) (s.seg pod k).len ≤ a → t.segMem.byte a = s.segMem.byte a) ∧
    (∀ (pod : PodId) (k : Fin 64) (g : Nat), (s.seg pod k).st = sgLoading → (s.seg pod k).cls ≠ 5 → (s.seg pod k).src ≤ g →
      g < (s.seg pod k).src + (s.seg pod k).len → ∃ t, exec (.poolError pod k g) s = .next t ∧ (t.seg pod k).st = sgFree ∧
      t.rd F.ENG_PM_STAT_LOADERR pod = 1 ∧ g ∈ t.poolBad) ∧
    (∀ n : SiteId, (s.gang n).rewindDue = true → ∃ t, exec (.rewind n) s = .next t ∧ (t.gang n).rewindDue = false ∧
      ∀ p ∈ s.podsOf n, ∀ k, k < 64 →
        ((s.seg p k).rewind = true ∧ ((s.seg p k).src ≠ (s.seg p k).pbase ∨ (s.seg p k).st = sgRetired) →
          (t.seg p k).st = sgLoading ∧ (t.seg p k).src = (s.seg p k).pbase ∧ (t.seg p k).rem = (s.seg p k).reloads) ∧
        ((s.seg p k).rewind = false → (s.seg p k).st = sgActive → (t.seg p k).st = sgReady))

/-- At T - 2 us a step that is ready, within the thermal limits and the power budget, has its gangs fetch from its entry for its start tick; over a limit it ends with THERMAL and its domains. A site that starts has no fail, no tag result, and valid gang counters only. Once every named site has ended and its entries are visible the step leaves, its descriptor completing OK where no site was fenced or preempted. A saved gang that restarts is in RUN again. -/
def Obligations.StepsStartAndEnd : Prop :=
  ∀ (s : State) (q : QpId) (cid : Nat) (r : StepRun), s.run q cid = some r →
    (r.checked = false → ahead (after r.startT (2 ^ 54 - 2 * tUs)) s.now = 0 → s.runReady r = true →
      (s.overLimit r = 0 → s.overBudget r = false → ∃ t, exec (.stepRunReadyCheck q cid) s = .next t ∧
        t.runs = s.runs.map (fun e => if e = r then { e with checked := true } else e) ∧
        ∀ n ∈ s.startable r, (t.gang n).main.pc = PAddr.ofNum r.entry ∧ (t.gang n).startT = r.startT ∧ (t.gang n).stepNo = r.stepNo ∧
          (t.gang n).prep = true) ∧
      (s.overLimit r ≠ 0 → s.overBudget r = false → ∀ d, (s.qp r.qp).fetched.find? (fun d => d.cid == r.cid && d.accepted) = some d →
        ∃ t, exec (.stepRunReadyCheck q cid) s = .next t ∧ t.completed r.qp d stThermal 0 0 (s.overLimit r))) ∧
    (r.checked = true → r.started = false → reached r.startT s.now = true → s.preempted q = false → ∀ n rest, r.sites = n :: rest →
      s.gstate n ≠ stHusk → ∃ t, exec (.gangStart q cid) s = .next t ∧ t.rd F.SITE_FCOUNT_FCOUNT n = 0 ∧ t.rd F.SITE_TAGRES_TAGRES n = 0 ∧
      t.rd F.SITE_VVAL_VVALID n = 0xF000 ∧ t.rd F.SITE_FFPOS_LO_FFPOS_LO n = 2 ^ 32 - 1 ∧ t.rd F.SITE_FFPOS_HI_FFPOS_HI n = 2 ^ 16 - 1) ∧
    (r.started = true → r.sites.all (fun n => r.ended.any (fun e => e.1 == n)) = true →
      s.ledgq.all (fun e => !r.sites.contains e.site) = true → ∃ t, exec (.stepRunCompletion q cid) s = .next t ∧ t.runs = s.runs.erase r ∧
      ∀ d, (s.qp r.qp).fetched.find? (fun d => d.cid == r.cid && d.accepted) = some d → s.safe = false →
        (∀ e ∈ r.ended, e.2 ≠ 2 ∧ e.2 ≠ 4) → t.completed r.qp d stOk r.lastT.toNat
          ((r.ended.filter (fun e => e.2 == 1)).length + 65536 * (r.ended.filter (fun e => e.2 == 3)).length) 0) ∧
    (∀ (n : SiteId) e, s.pwr.resumes.find? (fun e => e.1 == n.val) = some e → s.gstate n = stSaved → (s.gang n).held = none →
      (s.gang n).wait = none → ∃ t, exec (.gangRestart n) s = .next t ∧ t.pwr.resumes = s.pwr.resumes.erase e ∧
      (t.gang n).preempt = none ∧ (t.gang n).pinEnd = e.2 ∧ ∀ p ∈ s.podsOf n, t.rd F.ENG_STAT_STATE p = stRun)

/-- Out of the safe state, a granule that has arrived whole is written into its place of the staging ring, and no other byte of the pool; the slot has fed one more and is not blocked. A delivery copies the next granule into a bound pod's window, and no other byte of the local stores. An under-run at a stream shows UNDERRUN. A feed that stops shows its cause. STRM_CFG is BUSY while a bound pod runs; a write of EN from 0 to 1 takes the ring and the queue pair and starts with nothing fed; one from 1 to 0 stops the slot. -/
def Obligations.StreamsFeedAndDeliver : Prop :=
  ∀ (s : State) (t : StrmId),
    (∀ q d walk, s.safe = false → s.nextFeed t = some (q, d) → 512 ≤ d.data.length → ∃ u, exec (.streamGranuleFetch t walk) s = .next u ∧
      (u.strm t).fed = (s.strm t).fed + 1 ∧ u.rd F.STRM_FED_FED t = (s.rd F.STRM_FED_FED t + 1) % 2 ^ 32 ∧ u.rd F.STRM_STAT_BLOCK t = 0 ∧
      (∀ i, i < 512 → u.poolMem.byte (512 * s.stageAt t (s.strm t).fed + i) = BitVec.ofNat 8 (d.data.getD i 0)) ∧
      ∀ a, a < 512 * s.stageAt t (s.strm t).fed ∨ 512 * s.stageAt t (s.strm t).fed + 512 ≤ a → u.poolMem.byte a = s.poolMem.byte a) ∧
    (∀ (p : PodId) k, (s.bound t).find? (fun e => e.1 == p.val) = some (p.val, k) → s.safe = false → s.streamFree p k = true → 2 ≤ s.bestClass p →
      ∃ u, exec (.streamGranuleDeliver t p) s = .next u ∧ (u.seg p k).got = (s.seg p k).got + 1 ∧
      (∀ i, i < 512 → u.segMem.byte (granuleAddr p (s.seg p k) ((s.seg p k).got % max 1 (s.seg p k).len) + i) =
        s.poolMem.byte (512 * s.stageAt t (s.seg p k).got + i)) ∧
      ∀ a, a < granuleAddr p (s.seg p k) ((s.seg p k).got % max 1 (s.seg p k).len) ∨
        granuleAddr p (s.seg p k) ((s.seg p k).got % max 1 (s.seg p k).len) + 512 ≤ a → u.segMem.byte a = s.segMem.byte a) ∧
    (∀ (p : PodId) n c, s.siteOfPod p = some n → (s.gang n).cross = some c → c.strm = true → s.urDue n c = true →
      1 < (s.seg (s.lead n) c.seg).policy → ∃ u, exec (.streamUnderrun p) s = .next u ∧
      u.rd F.STRM_STAT_UNDERRUN (s.seg (s.lead n) c.seg).slot = 1 ∧ (u.gang n).cross = some { c with ur := some (3, s.now) }) ∧
    (∀ cause, s.safe = false → s.on F.STRM_CFG_EN t = true → s.feedStops t cause = true → cause < 8 → ∃ u, exec (.streamFeedStop t cause) s = .next u ∧
      u.rd F.STRM_STAT_BLOCK t = cause) ∧
    (∀ v : BitVec 32, ((s.bound t).any (fun e => s.podRuns e.1) = true → ∃ u, exec (.strmCfgWrite t v) s = .next u ∧
        u.rd F.STRM_STAT_BUSY t = 1 ∧ u.rd F.STRM_CFG_EN t = s.rd F.STRM_CFG_EN t) ∧
      ((s.bound t).any (fun e => s.podRuns e.1) = false →
        (s.on F.STRM_CFG_EN t = false → hasBit v.toNat 31 = true → bits v.toNat 15 0 + (max 3 (bits v.toNat 23 16) + 1) ≤ 65536 →
          (∀ i, i < max 3 (bits v.toNat 23 16) + 1 → s.pinned (bits v.toNat 15 0 + i) (some t.val) = false) →
          ∃ u, exec (.strmCfgWrite t v) s = .next u ∧ u.rd F.STRM_CFG_EN t = 1 ∧ u.rd F.STRM_CFG_QP t = bits v.toNat 29 24 ∧
            u.rd F.STRM_CFG_STAGE_BASE t = bits v.toNat 15 0 ∧ u.rd F.STRM_FED_FED t = 0 ∧ (u.strm t).fed = 0) ∧
        (s.on F.STRM_CFG_EN t = true → hasBit v.toNat 31 = false → ∃ u, exec (.strmCfgWrite t v) s = .next u ∧
          u.rd F.STRM_CFG_EN t = 0 ∧ (u.strm t).fed = 0)))

/-- The oldest compare of a pin leaves when its state is known. Masked by the settle timer it counts in MASKED and nothing fails. A strobe that passes becomes the previous strobe state and changes no memory; one that fails marks its vector's flight, counts in the pin's fail counter, and changes no byte of the capture memory but its map byte. A window that begins as wanted and holds no departure passes; one whose first state is wrong fails. -/
def Obligations.PinComparesJudge : Prop :=
  ∀ (s : State) (q : PinId) (e : CmpEdge) (rest : List CmpEdge), (s.pin q).cmp = e :: rest → e.dropped = false → e.expect ≠ 5 →
    ∀ p i, p = q.val / 4 → i = q.val % 4 → ∀ passed failed : State → Nat → Prop,
      (∀ t v, passed t v ↔ (t.pin q).cmp = rest ∧ (t.pin q).prev = v ∧ t.capMem = s.capMem ∧ ∀ n, t.gang n = s.gang n) →
      (∀ t v, failed t v ↔ (t.pin q).cmp = rest ∧ (t.pin q).prev = v ∧
        (∀ n, s.siteOfPod p = some n → (t.gang n).flights =
          (s.gang n).flights.map (fun f => if f.pos = e.pos then { f with failed := true } else f)) ∧
        (e.nocap = false → t.rd F.CAP_PFC_PFC p i = min (2 ^ 32 - 1) (s.rd F.CAP_PFC_PFC p i + 1)) ∧
        ∀ a, a ≠ 4096 * s.rd F.CAP_PART_BASE p + 1024 * s.mapUnits p * i + (e.pos - s.rd F.CAP_MAPSTART_MAPSTART p)
            / 2 ^ s.rd F.CAP_CFG_SCALE p / 8 → t.capMem.byte a = s.capMem.byte a) →
      (e.edge ≠ 2 → reached (s.strobeKnown q e) s.now = true → s.filtCmp q = false →
        (s.masked p e = true → ∃ t, exec (.strobe q) s = .next t ∧ (t.pin q).cmp = rest ∧
          t.rd F.POD_LVL_MASKED_MASKED p = satAdd (2 ^ F.POD_LVL_MASKED_MASKED.width - 1) (s.rd F.POD_LVL_MASKED_MASKED p) 1) ∧
        (s.masked p e = false → passes e.expect ((s.pin q).rawAt e.t) (s.pin q).prev = true →
          ∃ t, exec (.strobe q) s = .next t ∧ passed t ((s.pin q).rawAt e.t)) ∧
        (s.masked p e = false → passes e.expect ((s.pin q).rawAt e.t) (s.pin q).prev = false →
          ∃ t, exec (.strobe q) s = .next t ∧ failed t ((s.pin q).rawAt e.t))) ∧
      (e.edge = 2 → fineDue e.tc s.now = true → s.masked p e = false →
        (passes e.expect ((s.pin q).rawAt e.t) (s.pin q).prev = true →
          departures (fun v => if e.expect = 4 then v == (s.pin q).rawAt e.t else passes e.expect v 3)
            (spells e.tc ((s.pin q).rawAt e.t) e.t (s.pin q).hist) = [] →
          ∃ t, exec (.windowCompare q) s = .next t ∧ passed t ((s.pin q).rawAt e.t)) ∧
        (passes e.expect ((s.pin q).rawAt e.t) (s.pin q).prev = false →
          ∃ t, exec (.windowCompare q) s = .next t ∧ failed t ((s.pin q).rawAt e.t)))

/-- When a pod's settle timer runs out it no longer settles. A filter decision that takes an enabled watch's target, unless suppressed, counts the first raise and starts the re-raise interval; leaving UNKNOWN does so with EV_INIT. At the end of an interval a watch in event mode raises again, up to 16 times, and starts the next interval. A window of many changes sets RATE. A raw transition within the tick becomes the pin's raw state. -/
def Obligations.PinWatchFollows : Prop :=
  ∀ (s : State),
    (∀ (p : PodId) t0, (s.pod p).settleEnd = some t0 → reached t0 s.now = true → ∃ t, exec (.levelSettleExpiry p) s = .next t ∧
      (t.pod p).settleEnd = none ∧ t.rd F.POD_LVL_STAT_SETTLING p = 0) ∧
    (∀ (q : PinId) d rest, ((s.syncPin q).pin q).filter.decs = d :: rest → s.on F.PIN_WATCH_EN q = true → s.watchHeld q d.t = false →
      s.atTarget q d.new = true →
      (d.old = 3 → s.on F.PIN_WATCH_EV_INIT q = true → ∃ t, exec (.filterSettled q) s = .next t ∧ (t.pin q).filter.decs = rest ∧
        t.rd F.PIN_STAT_RAISES q = 1 ∧ (t.pin q).rearm = some (after d.t (2 ^ s.rd F.PIN_WATCH_REARM q * tUs))) ∧
      (d.old ≠ 3 → s.atTarget q d.old = false → ∃ t, exec (.filterDecision q) s = .next t ∧ (t.pin q).filter.decs = rest ∧
        t.rd F.PIN_STAT_RAISES q = 1 ∧ (t.pin q).rearm = some (after d.t (2 ^ s.rd F.PIN_WATCH_REARM q * tUs)))) ∧
    (∀ (q : PinId) t0, (s.pin q).rearm = some t0 → reached t0 s.now = true → s.on F.PIN_WATCH_EN q = true → s.on F.PIN_WATCH_EV_MODE q = true →
      s.watchHeld q t0 = false → (s.pin q).reraises < 16 → ∃ t, exec (.levelRearm q) s = .next t ∧
      (t.pin q).rearm = some (after t0 (2 ^ s.rd F.PIN_WATCH_REARM q * tUs)) ∧ (t.pin q).reraises = (s.pin q).reraises + 1 ∧
      t.rd F.PIN_STAT_RAISES q = satAdd (2 ^ F.PIN_STAT_RAISES.width - 1) (s.rd F.PIN_STAT_RAISES q) 1 ∧
      ((s.pin q).reraises = 15 → t.rd F.PIN_FLAG_STUCK q = 1)) ∧
    (∀ (q : PinId) t0, ((s.syncPin q).pin q).filter.rate = some t0 → s.on F.PIN_FLAG_RATE q = false → ∃ t, exec (.rateWindow q) s = .next t ∧
      t.rd F.PIN_FLAG_RATE q = 1 ∧ (t.pin q).filter.rate = none) ∧
    (∀ (q : PinId) raw frac, raw ≠ (s.pin q).raw → raw ≤ 2 → frac < 8000 → ∃ t, exec (.rawTransition q raw frac) s = .next t ∧
      (t.pin q).raw = raw)

/-- A write of PIN_CFG of a pin whose gang neither runs nor is armed stores every field; while it runs, or is armed, only SETTLE is stored, and CFG_BUSY is set where another field would have changed. A write of PIN_WATCH stores every field. -/
def Obligations.PinConfigurationWrites : Prop :=
  ∀ (s : State) (q : PinId) (v : BitVec 32) (busy : Bool),
    busy = ((s.siteOfPod (q.val / 4)).map (fun n => s.running n || s.gstate n == stArmed)).getD false →
    (busy = false → ∃ t, exec (.pinCfgWrite q v) s = .next t ∧ t.rd F.PIN_CFG_USE q = bit v.toNat 0 ∧
      t.rd F.PIN_CFG_DRV_EN q = bit v.toNat 1 ∧ t.rd F.PIN_CFG_OFF_STATE q = bits v.toNat 3 2 ∧ t.rd F.PIN_CFG_HYST q = bits v.toNat 5 4 ∧
      t.rd F.PIN_CFG_FILT q = bits v.toNat 7 6 ∧ t.rd F.PIN_CFG_FSEL q = bits v.toNat 10 8 ∧ t.rd F.PIN_CFG_FILT_CMP q = bit v.toNat 11 ∧
      t.rd F.PIN_CFG_SETTLE q = bits v.toNat 23 16) ∧
    (busy = true → ∃ t, exec (.pinCfgWrite q v) s = .next t ∧ t.rd F.PIN_CFG_SETTLE q = bits v.toNat 23 16 ∧
      t.rd F.PIN_CFG_USE q = s.rd F.PIN_CFG_USE q ∧ t.rd F.PIN_CFG_FILT q = s.rd F.PIN_CFG_FILT q ∧
      (bit v.toNat 0 ≠ s.rd F.PIN_CFG_USE q → t.rd F.PIN_FLAG_CFG_BUSY q = 1)) ∧
    (∃ t, exec (.pinWatchWrite q v) s = .next t ∧ t.rd F.PIN_WATCH_EN q = bit v.toNat 0 ∧ t.rd F.PIN_WATCH_MODE q = bits v.toNat 2 1 ∧
      t.rd F.PIN_WATCH_TARGET q = bits v.toNat 4 3 ∧ t.rd F.PIN_WATCH_EV_MODE q = bit v.toNat 5 ∧ t.rd F.PIN_WATCH_EV_INIT q = bit v.toNat 6 ∧
      t.rd F.PIN_WATCH_EV_RATE q = bit v.toNat 7 ∧ t.rd F.PIN_WATCH_WAKE q = bit v.toNat 8 ∧ t.rd F.PIN_WATCH_TRIP_EN q = bit v.toNat 9 ∧
      t.rd F.PIN_WATCH_REARM q = bits v.toNat 19 16)

/-- A 4-byte write of this device's window anywhere in APER, 0x10_0000 to 0x1F_FFFF, answers a next state that is the state itself: nothing of the device changes, no running gang is disturbed and no error is reported; and the same of a write that the service port or a fabric packet makes, but for the port's own queue of posted writes, from which the write leaves. In DEEP the access also asks for a wake, as any access outside the GLB, RST, PWR and THM blocks does (R467), and does nothing else. -/
def Obligations.ApertureWritesDoNothing : Prop :=
  (∀ (s : State) (dev : Fin 64) (offset : BitVec 21) (value : BitVec 32), dev.val = s.dev → 0x100000 ≤ offset.toNat →
    offset.toNat % 4 = 0 → s.anchor = true → 3 ≤ s.rd F.RST_STAT_STAGE → s.rd F.RST_STAT_STAGE ≠ 15 →
    exec (.registerWrite dev offset 4 value) s = .next (if s.power = 4 then s.askWake 0 else s)) ∧
  (∀ (s : State) (dev : Fin 64) (offset : BitVec 21) (value : BitVec 32), dev.val = s.dev → 0x100000 ≤ offset.toNat →
    offset.toNat % 4 = 0 → s.power ≠ 4 → exec (.registerWrite dev offset 4 value) s = .next s) ∧
  (∀ (s : State) (off v tag : Nat), 0x100000 ≤ off → 3 ≤ s.rd F.RST_STAT_STAGE → s.rd F.RST_STAT_STAGE ≠ 15 →
    s.access (.fabric tag) true off v = if s.power = 4 then s.askWake 0 else s) ∧
  (∀ (s : State) (off v : Nat), 0x100000 ≤ off → 3 ≤ s.rd F.RST_STAT_STAGE → s.rd F.RST_STAT_STAGE ≠ 15 →
    s.access .svp true off v = { (if s.power = 4 then s.askWake 0 else s) with svp := { s.svp with wbuf := s.svp.wbuf.tail } })

/-- A check that finds a ramped rail within its window sets REG; 1 ms without one sets NOREG; the limit comparator sets LIMIT and LIMITED, and leaves it; a ramp down that ended leaves OFF; a delay that ended starts its rail's ramp. A monitor that decides a new state holds it (the current window has no low side while ILO is 0), and flags it where it leaves IN, the low side of the voltage window aside in OFF and ramps. ON ramps to TARGET and OFF ramps down, unless the site runs or is a husk (BUSY) or the device is in the safe state (SAFEWR, for ON). -/
def Obligations.RailsMoveAndWatch : Prop :=
  ∀ (s : State) (r : RailId),
    (extCount (s.rd F.WT_EPOCH_EPOCH) s.now % 3000 = 0 → reached (s.rail r).reach s.now = true →
      (s.railSt r = rlUp ∨ (s.railSt r = rlDown ∧ (s.rail r).toOff = false)) → s.railV r ≤ (s.rail r).target + (200 + (s.rail r).target / 50) →
      (s.rail r).target ≤ s.railV r + (200 + (s.rail r).target / 50) →
      ∃ t, exec (.regulationCheck r) s = .next t ∧ t.railSt r = rlReg ∧ (t.rail r).regT = some s.now) ∧
    (reached (after (s.rail r).reach tMs) s.now = true → (s.rail r).regT = none → (s.rail r).noregDone = false → (s.rail r).toOff = false →
      (s.rail r).wait = none → (s.railSt r = rlUp ∨ s.railSt r = rlDown ∨ (s.railSt r = rlLimit ∧ (s.rail r).fromSt = rlUp)) →
      ∃ t, exec (.noreg r) s = .next t ∧ t.rd F.RAIL_FLAG_NOREG r = 1 ∧ t.railSt r = s.railSt r ∧
        (s.on F.RAIL_MON_VEV r = false → t.evq = s.evq)) ∧
    ((s.railSt r = rlUp ∨ s.railSt r = rlReg) → ∃ t, exec (.railLimit r) s = .next t ∧ t.railSt r = rlLimit ∧ t.rd F.RAIL_FLAG_LIMITED r = 1 ∧
      (t.rail r).fromSt = s.railSt r) ∧
    (s.railSt r = rlLimit → ((s.rail r).fromSt = rlUp ∨ (s.rail r).fromSt = rlReg) →
      ∃ t, exec (.railLimitExit r) s = .next t ∧ t.railSt r = (s.rail r).fromSt) ∧
    (s.railSt r = rlDown → (s.rail r).toOff = true → reached (s.rail r).reach s.now = true →
      ∃ t, exec (.rampDownEnd r) s = .next t ∧ t.railSt r = rlOff ∧ (t.rail r).offT = s.now) ∧
    (∀ w t0, (s.rail r).wait = some w → w.till = some t0 → reached t0 s.now = true → ∃ t, exec (.railSequenceDelay r) s = .next t ∧
      (w.target ≠ 0 → s.rampTo t r w.target w.slew) ∧
      (w.target = 0 → s.railSt r ≠ rlOff → s.railSt r ≠ rlTripped → s.rampOff t r w.slew)) ∧
    (∀ (mon : Fin 2) (st : Fin 3), s.monState r mon ≠ st → s.monDecides r mon = true →
      (mon = 1 → st = 0 → s.rd F.RAIL_IWIN_ILO r ≠ 0) → ∃ t, exec (.railCrossing r mon st) s = .next t ∧
      t.monState r mon = st ∧
      (s.monState r mon = 1 → (mon = 1 ∨ st = 2 ∨ s.railSt r = rlReg ∨ s.railSt r = rlLimit) →
        (if mon = 0 then t.rd F.RAIL_FLAG_VCROSS r else t.rd F.RAIL_FLAG_ICROSS r) = 1) ∧
      (mon = 0 → st = 0 → (s.railSt r = rlOff ∨ s.railSt r = rlUp ∨ s.railSt r = rlDown) → t.regs = s.regs ∧ t.evq = s.evq ∧ t.wakeAsk = s.wakeAsk)) ∧
    (∀ n, s.siteOfRail r = some n → s.railBusy r = false →
      (s.safe = false → s.rd F.RAIL_SET_TARGET r ≠ 0 → ∃ t, exec (.railCtlOn r) s = .next t ∧
        s.rampTo t r (min 50000 (max 5000 (s.rd F.RAIL_SET_TARGET r))) (max 1 (s.rd F.RAIL_CFG_SLEW r))) ∧
      (s.railSt r ≠ rlOff → s.railSt r ≠ rlTripped → ∃ t, exec (.railCtlOff r) s = .next t ∧ s.rampOff t r (max 1 (s.rd F.RAIL_CFG_SLEW r)))) ∧
    (s.safe = true → ∃ t, exec (.railCtlOn r) s = .next t ∧ t.rd F.FLT_STAT_SAFEWR = 1 ∧ t.rails = s.rails) ∧
    (s.railBusy r = true → ∃ t, exec (.railCtlOff r) s = .next t ∧ t.rd F.RAIL_FLAG_BUSY r = 1 ∧ t.rails = s.rails)

/-- A window whose time has come closes, the request window opens and closes with ARM_REQ, and ARMED then says whether an open window has its enable at 1. On an armed site the sources of the trip input make it a husk with the trip stamp; a fence makes a defined site a husk with cause SOFT now; the failure of a die link does so for every site of the die with cause LINK. A cause that strikes a husk leaves its stamp. An accepted unfence clears HUSK and its causes, leaves the rails OFF and the gang IDLE, and opens the recovery window; a refused one sets UNFBAD. -/
def Obligations.TripPathAndFences : Prop :=
  ∀ (s : State) (n : SiteId),
    (∃ t, exec (.windowClose n) s = .next t ∧ (t.siteX n).wins = (s.siteX n).wins.filter (fun w => !s.winDone w) ∧
      t.rd F.SITE_FSTAT_ARMED n = ofBool (t.armSource n != 0)) ∧
    (∀ on, ∃ t, exec (.armReq n on) s = .next t ∧ t.on F.SITE_FCTL_ARM_REQ n = on ∧ (t.siteX n).wins.any (·.src == 4) = on ∧
      t.rd F.SITE_FSTAT_ARMED n = ofBool (t.armSource n != 0)) ∧
    (s.on F.SITE_FSTAT_HUSK n = false →
      (s.on F.SITE_FSTAT_ARMED n = true → s.tripSources n ≠ [] → ∃ t, exec (.siteTrip n) s = .next t ∧
        t.huskAt n (tripStamp (s.siteX n).armedT s.now (s.tripSources n)) ∧
        ∀ c ∈ s.tripSources n, (if c.1 = 0 then t.rd F.SITE_FSTAT_RAILV n else if c.1 = 1 then t.rd F.SITE_FSTAT_RAILI n else t.rd F.SITE_FSTAT_PIN n) = 1) ∧
      ((s.site n).isSome = true → ∃ t, exec (.fence n) s = .next t ∧ t.huskAt n s.now ∧ t.rd F.SITE_FSTAT_SOFT n = 1)) ∧
    (s.on F.SITE_FSTAT_HUSK n = true → (s.site n).isSome = true → ∃ t, exec (.fence n) s = .next t ∧ t.rd F.SITE_FSTAT_SOFT n = 1 ∧
      t.rd F.SITE_FSTAMP_LO_FSTAMP_LO n = s.rd F.SITE_FSTAMP_LO_FSTAMP_LO n ∧ t.evq = s.evq ∧ t.ledgq = s.ledgq) ∧
    (∀ die : DieId, s.dieOk die = true → ∃ t, exec (.dieLinkFail die) s = .next t ∧ t.dieOk die = false ∧
      ∀ m ∈ s.sitesOfDie die, t.on F.SITE_FSTAT_HUSK m = true ∧ t.rd F.SITE_FSTAT_LINK m = 1) ∧
    (s.unfenceBad n = true → ∃ t, exec (.unfence n) s = .next t ∧ t.rd F.SITE_FSTAT_UNFBAD n = 1 ∧
      t.on F.SITE_FSTAT_HUSK n = s.on F.SITE_FSTAT_HUSK n ∧ t.rails = s.rails) ∧
    (s.unfenceBad n = false → ∃ t, exec (.unfence n) s = .next t ∧ t.on F.SITE_FSTAT_HUSK n = false ∧
      (∀ f ∈ [F.SITE_FSTAT_LINK, F.SITE_FSTAT_FAULT, F.SITE_FSTAT_SOFT, F.SITE_FSTAT_PIN, F.SITE_FSTAT_RAILI, F.SITE_FSTAT_RAILV], t.rd f n = 0) ∧
      (∀ r ∈ s.railsOf n, t.railSt r = rlOff) ∧ (∀ p ∈ s.podsOf n, t.rd F.ENG_STAT_STATE p = stIdle) ∧
      (t.siteX n).wins.any (fun w => w.src == 3 && w.waits) = true)

/-- The head of the queue gets the lowest free unit, where its entry is usable a measurement from this tick and else an end at once. An attempt that ends within its limit gives its sample to count, sum, square sum and extremes, or is rejected where an edge was missed; one that does not end counts as a timeout. INTERVAL_SIGNED takes first stop minus first start, PERIOD the edges after the anchor. After the last attempt the unit is DONE and its block holds the last stamp and the number of samples. GO starts a reserved unit, SAFEWR in the safe state, and ABORT ends a register's measurement with no result. -/
def Obligations.IntervalUnitsMeasure : Prop :=
  ∀ (s : State) (u : UnitId),
    (∀ r rest v, s.iuq = r :: rest → (List.range 64).find? s.iuFree = some v → ∃ t, exec .unitGrant s = .next t ∧ t.iuq = rest ∧
      (s.iuUsable (some r.site) r.setup = true → s.iuRuns t v (some r.site) r.setup r.dst r.tok) ∧
      (s.iuUsable (some r.site) r.setup = false → t.rd F.IU_STAT_STATE v = 2 ∧ (t.iu v).busy = false)) ∧
    ((s.iu u).attempting = true → ∀ a, (s.iu u).attempt = some a → reached (tickOf a.stamp) s.now = true →
      ahead (tickOf a.stamp) (s.iu u).limit ≤ 0 → ∃ t, exec (.attemptEnd u) s = .next t ∧ s.attemptOver t u a.stamp ∧
      ((s.iu u).missed = false → (t.iu u).nvalid = (s.iu u).nvalid + 1 ∧ (t.iu u).sum = (s.iu u).sum + a.sample ∧
        (t.iu u).sumsq = (s.iu u).sumsq + a.sample * a.sample ∧ ((s.iu u).nvalid ≠ 0 →
        (t.iu u).lo = min (s.iu u).lo a.sample ∧ (t.iu u).hi = max (s.iu u).hi a.sample) ∧ (t.iu u).nrej = (s.iu u).nrej + a.early) ∧
      ((s.iu u).missed = true → (t.iu u).nvalid = (s.iu u).nvalid ∧ (t.iu u).sum = (s.iu u).sum ∧ (t.iu u).nrej = (s.iu u).nrej + a.early + 1 ∧
        hasBit (t.iu u).flags fDead = true) ∧
      (∀ p q, (s.iu u).e.mode = 0 → (s.iu u).starts.head? = some p → (s.iu u).stops.head? = some q → a.sample = ahead q p) ∧
      (∀ p q, 2 ≤ (s.iu u).e.mode → (s.iu u).anchor = some p → (s.iu u).starts[(s.iu u).e.cycM1]? = some q →
        a.sample = roundDiv (ahead q p) ((s.iu u).e.cycM1 + 1) ∧ a.stamp = q ∧ ((s.iu u).missed = false → (t.iu u).anchor = some q))) ∧
    ((s.iu u).attempting = true → (∀ a, (s.iu u).attempt = some a → ahead (tickOf a.stamp) (s.iu u).limit > 0) → reached (s.iu u).limit s.now = true →
      ∃ t, exec (.attemptTimeout u) s = .next t ∧ s.attemptOver t u (s.iu u).limit ∧ (t.iu u).ntmo = (s.iu u).ntmo + 1 ∧ (t.iu u).nrej = (s.iu u).nrej + (s.iu u).early ∧
      (t.iu u).nvalid = (s.iu u).nvalid ∧ (t.iu u).sum = (s.iu u).sum ∧ hasBit (t.iu u).flags fTmo = true) ∧
    ((s.iu u).busy = true → (s.iu u).e.nM1 + 1 ≤ (s.iu u).done → ∃ t, exec (.iuResult u) s = .next t ∧ (t.iu u).busy = false ∧
      t.rd F.IU_STAT_STATE u = 2 ∧ t.rd F.IU_RES_RES u 0 = loWord (s.iu u).last.toNat ∧ t.rd F.IU_RES_RES u 1 = hiWord (s.iu u).last.toNat ∧
      t.rd F.IU_RES_RES u 10 = (s.iu u).nvalid % 2 ^ 32) ∧
    (s.safe = true → ∃ t, exec (.go u) s = .next t ∧ t.rd F.FLT_STAT_SAFEWR = 1 ∧ t.ius = s.ius) ∧
    (s.safe = false → s.on F.IU_CTL_RSV u = true → s.rd F.IU_STAT_STATE u ≠ 1 → s.iuUsable none (s.rd F.IU_CTL_SETUP u) = true →
      ∃ t, exec (.go u) s = .next t ∧ s.iuRuns t u none (s.rd F.IU_CTL_SETUP u) 0 0) ∧
    ((s.iu u).busy = true → (s.iu u).reg = true → (s.iu u).done < (s.iu u).e.nM1 + 1 →
      ∃ t, exec (.abort u) s = .next t ∧ t.rd F.IU_STAT_STATE u = 0 ∧ (t.iu u).busy = false) ∧
    ((s.iu u).done = (s.iu u).e.nM1 + 1 → ∃ t, exec (.abort u) s = .next t ∧ t = s)

/-- A pin die whose temperature moved is recalibrated, 12 us, or marked due while gangs run or a step is near; the same of its TDCs, 8.4 ms, by request (refused, REFUSED) or by itself (DUE). A calibration that ended leaves each pin its residue and VALID where it is at most 200 with every bin hit, else CALBAD. An eye measurement begins on a pod that belongs to no running gang, for its pins that drive, and its end gives each such pin its width and every other pin 0; in the safe state it does not begin. -/
def Obligations.CalibrationAndEyes : Prop :=
  ∀ (s : State) (k : DieId) (p : PodId),
    ((∃ i, i < 64 ∧ s.on F.POD_TIM_CTL_RECAL_AUTO (64 * k + i) = true ∧ movedBy (s.die k).recalTemp (s.dieTemp k) (s.rd F.POD_TIM_CTL_RECAL_DT (64 * k + i)) = true) →
      (s.die k).recalEnd = none → s.dieOk k = true →
      (s.dieRuns k = true → ∃ t, exec (.recalibration k) s = .next t ∧ t.dies = s.dies ∧ ∀ i, i < 64 → s.on F.POD_TIM_CTL_RECAL_AUTO (64 * k + i) = true →
        movedBy (s.die k).recalTemp (s.dieTemp k) (s.rd F.POD_TIM_CTL_RECAL_DT (64 * k + i)) = true → t.rd F.POD_TIM_STAT_RECAL_DUE (64 * k + i) = 1) ∧
      (s.dieRuns k = false → s.runAhead k (14 * tUs) = false → ∃ t, exec (.recalibration k) s = .next t ∧ (t.die k).recalTemp = s.dieTemp k ∧
        (t.die k).recalEnd = some (after s.now (12 * tUs)) ∧ ∀ i, i < 64 → t.rd F.POD_TIM_STAT_RECAL_DUE (64 * k + i) = 0)) ∧
    (s.on F.IU_CAL_AUTO = true → movedBy (s.die k).calTemp (s.dieTemp k) (s.rd F.IU_CAL_DT) = true → hasBit (s.rd F.IU_CALST_CBUSY) k = false → s.dieOk k = true →
      (s.calOk k = true → ∃ t, exec (.calibration k) s = .next t ∧ (t.die k).calEnd = some (after s.now calTicks) ∧ hasBit (t.rd F.IU_CALST_CBUSY) k = true) ∧
      (s.calOk k = false → ∃ t, exec (.calibration k) s = .next t ∧ t.dies = s.dies ∧ hasBit (t.rd F.IU_CALST_DUE) k = true)) ∧
    (∀ dies, hasBit dies.toNat k = true → hasBit (s.rd F.IU_CALST_CBUSY) k = false →
      (s.calOk k = true → ∃ t, exec (.iuCalRun dies) s = .next t ∧ (t.die k).calEnd = some (after s.now calTicks) ∧ hasBit (t.rd F.IU_CALST_CBUSY) k = true) ∧
      (s.calOk k = false → ∃ t, exec (.iuCalRun dies) s = .next t ∧ t.die k = s.die k ∧ t.rd F.IU_CALST_REFUSED = 1)) ∧
    (∀ (resid : List (Nat × Bool)) t0, (s.die k).calEnd = some t0 → reached t0 s.now = true → ∃ t, exec (.calibrationEnd k resid) s = .next t ∧
      (t.die k).calEnd = none ∧ hasBit (t.rd F.IU_CALST_CBUSY) k = false ∧ ∀ i, i < 256 →
        t.rd F.PIN_TDC_CAL_RESID (256 * k + i) = min 65535 (resid.getD i (0, false)).1 ∧
        (if (resid.getD i (0, false)).1 ≤ 200 ∧ (resid.getD i (0, false)).2 = true then t.rd F.PIN_TDC_CAL_VALID (256 * k + i) = 1
          else t.rd F.PIN_TDC_CAL_CALBAD (256 * k + i) = 1)) ∧
    (s.safe = true → ∃ t, exec (.eyeRun p) s = .next t ∧ t.rd F.FLT_STAT_SAFEWR = 1 ∧ t.pods = s.pods) ∧
    (s.safe = false → (s.podRuns p = true → ∃ t, exec (.eyeRun p) s = .next t ∧ t.rd F.PIN_FLAG_CFG_BUSY (4 * p) = 1 ∧ t.pods = s.pods) ∧
      (s.podRuns p = false → s.on F.POD_TIM_STAT_EYE_BUSY p = false → ∃ t, exec (.eyeRun p) s = .next t ∧ t.on F.POD_TIM_STAT_EYE_BUSY p = true ∧
        (t.pod p).eyeEnd = some (after s.now 750000) ∧
        (t.pod p).eyePins = (pinsOfPod p).filter (fun q => s.on F.PIN_CFG_USE q && s.on F.PIN_CFG_DRV_EN q))) ∧
    (∀ (widths : List Nat) t0, (s.pod p).eyeEnd = some t0 → reached t0 s.now = true →
      ∃ t, exec (.eyeDone p widths) s = .next t ∧ t.on F.POD_TIM_STAT_EYE_BUSY p = false ∧ ∀ i, i < 4 →
        t.rd F.POD_TIM_EYE_EYE_M p i = if (s.pod p).eyePins.contains (4 * p + i) then min 65535 (widths.getD i 0) else 0)

/-- After the connect phase SETTLE us of settling follow, then conversions. A conversion ends its time after its start, adds its sample, and after the last one the disconnect phase begins, 1,500 ticks, or none where KEEP is 1; a missing trigger ends the convert phase with TMO. At its end the path opens or is kept, the pin leaves the measurement, and the last pin's end writes the results (DONE). GO begins on a pin that is free, at its setup, with the path connected, unless the setup is unloaded (BADSETUP, DONE at once) or the pin's pod runs (CFG_BUSY); the safe state refuses it. DISC opens a path a register kept. -/
def Obligations.ParametricUnitsMeasure : Prop :=
  ∀ (s : State) (q : PinId) (p : PmuX) (e : PmuSetup), p = (s.pin q).pmu → e = (s.pmuEntry p.setup).getD {} →
    (p.phase = 1 → reached p.until_ s.now = true → ∃ t, exec (.connectEnd q) s = .next t ∧ (t.pin q).pmu.phase = 2 ∧
      (t.pin q).pmu.until_ = after p.until_ (e.settle * tUs)) ∧
    (p.phase = 2 → reached p.until_ s.now = true → ∃ t, exec (.settleEnd q) s = .next t ∧ (t.pin q).pmu.phase = 3 ∧ (t.pin q).pmu.trigT = p.until_) ∧
    (∀ value clamp ovr t0, p.phase = 3 → (if e.trig = 0 then some (p.convEnd.getD p.trigT) else p.trigNext) = some t0 →
      reached (after t0 (convTicks e.conv)) s.now = true → ∃ t, exec (.conversion q value clamp ovr) s = .next t ∧
      (t.pin q).pmu.taken = p.taken + 1 ∧ (t.pin q).pmu.lastEnd = after t0 (convTicks e.conv) ∧ (t.pin q).pmu.trigNext = none ∧
      (e.mode = 0 → e.iunit = false → value.natAbs ≤ 2147483647 → (t.pin q).pmu.samples = p.samples ++ [ofSigned 33 value]) ∧
      (p.taken < e.nM1 → (t.pin q).pmu.phase = 3) ∧
      (e.nM1 ≤ p.taken → (t.pin q).pmu.phase = 4 ∧
        (t.pin q).pmu.until_ = after t0 (convTicks e.conv) + (if e.keep then 0 else ticks 1500))) ∧
    (p.phase = 3 → e.trig ≠ 0 → p.trigNext = none → reached (after (p.convEnd.getD p.trigT) ((e.tmo + 1) * 64)) s.now = true →
      ∃ t, exec (.triggerTimeout q) s = .next t ∧ (t.pin q).pmu.phase = 4 ∧ hasBit (t.pin q).pmu.flags pTmo = true ∧ (t.pin q).pmu.samples = p.samples) ∧
    (p.phase = 4 → reached p.until_ s.now = true →
      (p.disc = true → ∃ t, exec (.disconnectEnd q) s = .next t ∧ (t.pin q).pmu.phase = 0 ∧ t.rd F.PIN_PMU_STAT_CONN q = 0) ∧
      (∀ m, p.disc = false → s.pmus = [m] → m.tok = p.tok → m.started = true →
        ((∃ r ∈ m.pins, r ≠ q ∧ m.ended.contains r = false) → ∃ t, exec (.disconnectEnd q) s = .next t ∧ t.pmus.all (fun a => a.ended.contains q) = true ∧
          (if e.keep then (t.pin q).pmu.phase = 5 ∧ t.rd F.PIN_PMU_STAT_KEPT q = 1 else (t.pin q).pmu.phase = 0 ∧ t.rd F.PIN_PMU_STAT_CONN q = 0)) ∧
        ((∀ r ∈ m.pins, r = q ∨ m.ended.contains r = true) → ∃ t, exec (.disconnectEnd q) s = .next t ∧ t.pmus = [] ∧
          ∀ r ∈ m.pins, t.rd F.PIN_PMU_STAT_STATE r = 2))) ∧
    (s.safe = true → ∃ t, exec (.pinPmuGo q) s = .next t ∧ t.rd F.FLT_STAT_SAFEWR = 1 ∧ t.pmus = s.pmus) ∧
    (s.safe = false → (s.podRuns (q / 4) || s.pmuBusy q) = true → ∃ t, exec (.pinPmuGo q) s = .next t ∧ t.rd F.PIN_FLAG_CFG_BUSY q = 1 ∧ t.pmus = s.pmus) ∧
    (s.safe = false → (s.podRuns (q / 4) || s.pmuBusy q) = false → s.pmus = [] →
      (∀ g, s.pmuEntry (s.rd F.PIN_PMU_CTL_SETUP q) = some g → s.on F.PIN_CFG_USE q = true →
        (g.trig = 0 ∨ (4 < g.trig ∧ (g.trig ≤ 6 → s.waveActive g.wsrc = true))) → ∃ t, exec (.pinPmuGo q) s = .next t ∧
        t.rd F.PIN_PMU_STAT_STATE q = 1 ∧ t.rd F.PIN_PMU_STAT_CONN q = 1 ∧ t.rd F.PIN_PMU_STAT_REG q = 1 ∧ (t.pin q).pmu.phase = 1 ∧
        (t.pin q).pmu.setup = s.rd F.PIN_PMU_CTL_SETUP q ∧ t.pmus.map (·.started) = [true]) ∧
      (s.pmuEntry (s.rd F.PIN_PMU_CTL_SETUP q) = none → ∃ t, exec (.pinPmuGo q) s = .next t ∧ t.rd F.PIN_PMU_STAT_STATE q = 2 ∧ t.pmus = [] ∧
        hasBit (t.pin q).pmu.flags pBad = true)) ∧
    (p.phase = 5 → p.reg = true → ∃ t, exec (.disc q) s = .next t ∧ (t.pin q).pmu.phase = 4 ∧ (t.pin q).pmu.disc = true ∧
      (t.pin q).pmu.until_ = after s.now 1500) ∧
    (p.phase ≠ 5 ∨ p.reg = false → ∃ t, exec (.disc q) s = .next t ∧ t = s)

/-- START of an output whose host is right begins 1,500 ticks later and cancels an ARM; HOSTBAD else, and SAFEWR in the safe state. STOP acts at a slot boundary, or at the slot's end. An ARM whose marker's period has come (the gang's commands and markers of the tick taken first), PLAY begins with a slot now. With no command in the last sample's slot, the end of the last entry sets END and IDLE; an underrun sets UR and, with policy 0, IDLE, else it plays on with PAD. A new span mutes from the next slot; UNMUTE returns to the state before. A mute is taken at any time, an unmute not in the safe state. A fault mutes and stops; AWG_CFG is written in IDLE only. -/
def Obligations.WaveformOutputsPlay : Prop :=
  ∀ (s : State) (w : WaveId),
    (s.safe = true → ∃ t, exec (.awgStart w) s = .next t ∧ t.rd F.FLT_STAT_SAFEWR = 1 ∧ t.waves = s.waves) ∧
    (s.safe = false → s.hostOk w = false → ∃ t, exec (.awgStart w) s = .next t ∧ t.rd F.AWG_STAT_HOSTBAD w = 1 ∧ t.waves = s.waves) ∧
    (s.safe = false → s.hostOk w = true → s.wavePlays w = false → ∃ t, exec (.awgStart w) s = .next t ∧ t.rd F.AWG_ARMBY_ARMV w = 0 ∧
      (t.wave w).startAt = some (after s.now 1500, PAddr.ofNum (s.rd F.AWG_CTL_ENTRY w)) ∧ (t.wave w).arm = none) ∧
    ((s.slotNow w = false ∨ s.lastSlot w = true) → ∃ t, exec (.awgStop w) s = .next t ∧ (t.wave w).stopAt = some (s.slotEnd w) ∧
      t.waveSt w = s.waveSt w) ∧
    (s.slotNow w = true → s.lastSlot w = false → s.waveSt w ≠ wvMuting → ∃ t, exec (.awgStop w) s = .next t ∧ t.waveSt w = wvIdle ∧ (t.wave w).code = s.rd F.AWG_IDLE_IDLE w ∧
      t.rd F.AWG_ARMBY_ARMV w = 0) ∧
    (∀ n k a t0 (u : State), u = (s.awgDo w).raiseMarks → (u.wave w).arm = some (n, k, a) → (u.wave w).fireT = some t0 → reached t0 u.now = true →
      u.waveSt w ≠ wvMuting → ∃ t, exec (.armFire w) s = .next t ∧ t.waveSt w = wvPlay ∧ t.rd F.AWG_ARMBY_ARMV w = 0 ∧ (t.wave w).arm = none ∧
      (t.wave w).slotAt = u.now ∧ (t.wave w).next = after u.now (u.rd F.AWG_CFG_DIV w + 1)) ∧
    (s.waveSt w = wvPlay → ((s.wave w).wait = true ∨ s.slotNow w = true) → s.lastCmd w = false →
      (s.waveNext (s.rd F.AWG_CFG_HOST w) (s.wave w).pc = none → ∃ t, exec (.playEnd w) s = .next t ∧ t.waveSt w = wvIdle ∧ t.rd F.AWG_STAT_END w = 1 ∧
        t.rd F.AWG_STAT_LASTEV w = evEnd) ∧
      (∀ a, s.waveNext (s.rd F.AWG_CFG_HOST w) (s.wave w).pc = some a → (s.wave w).pad = false → s.waveReady w = false →
        (s.seg (s.rd F.AWG_CFG_HOST w) a.seg).policy = 0 → ∃ t, exec (.waveUnderrun w) s = .next t ∧ t.rd F.AWG_STAT_UR w = 1 ∧ t.waveSt w = wvIdle ∧
        t.rd F.AWG_STAT_LASTEV w = evUnderrun) ∧
      (∀ a, s.waveNext (s.rd F.AWG_CFG_HOST w) (s.wave w).pc = some a → (s.wave w).pad = false → s.waveReady w = false →
        (s.seg (s.rd F.AWG_CFG_HOST w) a.seg).policy ≠ 0 → ∃ t, exec (.waveUnderrun w) s = .next t ∧ t.rd F.AWG_STAT_UR w = 1 ∧ t.waveSt w = wvPlay ∧
        (t.wave w).code = s.rd F.ENG_PM_PAD_PAD (s.rd F.AWG_CFG_HOST w) % 16384)) ∧
    (∀ span : Fin 8, s.rd F.AWG_SPAN_SPAN w ≠ span → ∃ t, exec (.spanChange w span) s = .next t ∧ t.rd F.AWG_SPAN_SPAN w = span ∧
      (t.wave w).spanChange = true ∧ (t.wave w).muteAt = some s.now) ∧
    (∀ t0, (s.wave w).unmuteAt = some t0 → reached t0 s.now = true → (s.slotNow w = true ∨ 0 ≤ ahead (s.wave w).slotAt t0) → (s.wave w).back ≤ 3 → ∃ t, exec (.unmute w) s = .next t ∧
      t.waveSt w = (s.wave w).back ∧ t.rd F.AWG_STAT_MUTED w = s.rd F.AWG_SPAN_MUTE w % 2 ∧ (t.wave w).unmuteAt = none) ∧
    (∀ on, (on = true ∨ s.safe = false) → ∃ t, exec (.mute w on) s = .next t ∧ t.on F.AWG_SPAN_MUTE w = on ∧
      (t.wave w).muteAt = (if on then some ((s.wave w).muteAt.getD s.now) else if (s.wave w).spanChange then (s.wave w).muteAt else none)) ∧
    (s.safe = true → ∃ t, exec (.mute w false) s = .next t ∧ t.rd F.FLT_STAT_SAFEWR = 1 ∧ t.rd F.AWG_SPAN_MUTE w = s.rd F.AWG_SPAN_MUTE w ∧ t.waves = s.waves) ∧
    (s.waveFault w = true → (s.waveSt w ≠ wvIdle ∨ s.on F.AWG_STAT_MUTED w = false ∨ (s.wave w).startAt.isSome = true) → ∃ t, exec (.faultMute w) s = .next t ∧ t.waveSt w = wvIdle ∧ t.rd F.AWG_STAT_MUTED w = 1 ∧
      t.rd F.AWG_SPAN_MUTE w = 1 ∧ t.rd F.AWG_STAT_FLTMUTE w = 1 ∧ t.rd F.AWG_STAT_LASTEV w = evFault) ∧
    (∀ v : BitVec 32, (s.waveSt w = wvIdle → ∃ t, exec (.awgCfgWrite w v) s = .next t ∧ t.rd F.AWG_CFG_HOSTV w = bit v.toNat 31 ∧
        t.rd F.AWG_CFG_HOST w = bits v.toNat 27 20 ∧ t.rd F.AWG_CFG_DIV w = bits v.toNat 15 0) ∧
      (s.waveSt w ≠ wvIdle → ∃ t, exec (.awgCfgWrite w v) s = .next t ∧ t.rd F.AWG_STAT_BUSY w = 1 ∧ t.rd F.AWG_CFG_DIV w = s.rd F.AWG_CFG_DIV w))

/-- The pod's next record, or the SYNC before it, goes into the ring where it fits and no LOSS record is due; it is lost where it does not fit. The first LOSS record goes in once it is due. A fill at its threshold writes one record, CAPTURE to the route of pin 0 of the pod or LEDGER to the system ring. An accepted APPLY gives every pod its next partition with an empty ring and loses the contents (which then read as memory nothing has written: log entry 4). CAP_RD and LEDG_RD move within the fill, or RDBAD. The configuration of a pod is written where it does not run and its ring is empty or its map does not change, or BUSY. -/
def Obligations.CaptureRingsAndLedger : Prop :=
  ∀ (s : State) (p : PodId),
    (s.ringSize p ≤ 2 ^ 24 → s.rd F.CAP_WR_OFFSET p < s.ringSize p →
      (∀ ws sync, s.nextWords p = some (ws, sync) → s.recFits p (8 * ws.length) = true → (s.pod p).losses = [] →
        ∃ t, exec (.recordWrite p) s = .next t ∧ s.ringTook t p ws ∧ (sync = true → (t.pod p).efifo = (s.pod p).efifo) ∧
        (∀ e, sync = true → (s.pod p).nextRec = .edge e → (t.pod p).refStamp = e.stamp)) ∧
      (∀ r rest, (s.pod p).losses = r :: rest → s.podRuns p = false → s.rd F.CAP_PART_SIZE p ≠ 0 → 24 ≤ s.capFree p →
        ∃ t, exec (.lossRecord p) s = .next t ∧ (t.pod p).losses = rest ∧ s.ringTook t p r.words)) ∧
    (∀ ws step c, s.nextWords p = some (ws, false) → (s.pod p).nextRec = .queued step c → s.recFits p (8 * ws.length) = false →
      ∃ t, exec (.recordWrite p) s = .next t ∧ t.capMem = s.capMem ∧ t.rd F.CAP_STAT_FLOSS p = 1 ∧
      t.rd F.CAP_LOST_LOST p = min (2 ^ F.CAP_LOST_LOST.width - 1) (s.rd F.CAP_LOST_LOST p + 1)) ∧
    (s.capAbove p = true → (s.pod p).above = false → ∃ t, exec (.captureThreshold p) s = .next t ∧ (t.pod p).above = true ∧
      ∀ ring, s.routeOf (4 * p) = some ring → t.recorded (4 * p) 3 [p + s.capFill p * 2 ^ 32] s.now ring) ∧
    (s.partOk = true → ∃ t, exec .apply s = .next t ∧ (∀ a, t.capMem.byte a = 0) ∧
      t.rd F.CAP_PART_BASE p = s.rd F.CAP_PNEXT_BASE p % 2 ^ F.CAP_PART_BASE.width ∧ t.rd F.CAP_PART_SIZE p = s.rd F.CAP_PNEXT_SIZE p % 2 ^ F.CAP_PART_SIZE.width ∧
      t.rd F.CAP_WR_OFFSET p = 0 ∧ t.rd F.CAP_WR_WRAP p = 0 ∧ t.rd F.CAP_RD_OFFSET p = 0 ∧ t.rd F.CAP_RD_WRAP p = 0) ∧
    (s.partOk = false → ∃ t, exec .apply s = .next t ∧ t.rd F.CAP_GSTAT_PARTBAD = 1 ∧ t.capMem = s.capMem) ∧
    (∀ v : BitVec 32, (s.podRuns p = true → ∀ reg, ∃ t, exec (.capCfgWrite p reg v) s = .next t ∧ t.rd F.CAP_STAT_BUSY p = 1 ∧
        t.rd F.CAP_CFG_FMODE p = s.rd F.CAP_CFG_FMODE p) ∧
      (s.podRuns p = false → (∃ t, exec (.capCfgWrite p 1 v) s = .next t ∧ t.rd F.CAP_ELOG_BUDGET p = bits v.toNat 15 0) ∧
        (∃ t, exec (.capCfgWrite p 2 v) s = .next t ∧ t.rd F.CAP_MAPSTART_MAPSTART p = v.toNat) ∧
        (s.capFill p = 0 → ∃ t, exec (.capCfgWrite p 0 v) s = .next t ∧ t.rd F.CAP_CFG_SCALE p = bits v.toNat 28 24 ∧
          t.rd F.CAP_CFG_MAP_UNITS p = bits v.toNat 23 20 ∧ t.rd F.CAP_CFG_FIRST_N p = bits v.toNat 19 8 ∧ t.rd F.CAP_CFG_FMODE p = bits v.toNat 1 0)) ∧
      (s.capPending p = true → ∃ t, exec (.capRdWrite p v) s = .next t ∧ t.rd F.CAP_STAT_RDBAD p = 1 ∧ t.rd F.CAP_RD_OFFSET p = s.rd F.CAP_RD_OFFSET p) ∧
      (s.capPending p = false → s.rd F.CAP_RD_WRAP p = bit v.toNat 24 → s.rd F.CAP_RD_OFFSET p ≤ bits v.toNat 23 0 →
        bits v.toNat 23 0 < s.ringSize p → bits v.toNat 23 0 - s.rd F.CAP_RD_OFFSET p ≤ s.capFill p →
        ∃ t, exec (.capRdWrite p v) s = .next t ∧ t.rd F.CAP_RD_OFFSET p = bits v.toNat 23 0 ∧ t.rd F.CAP_RD_WRAP p = bit v.toNat 24) ∧
      (s.drainPending = false → (bits v.toNat 16 0 + 131072 - (s.rd F.LEDG_RD_INDEX + 65536 * s.rd F.LEDG_RD_WRAP)) % 131072 ≤ s.ledgFill →
        ∃ t, exec (.ledgRdWrite v) s = .next t ∧ t.rd F.LEDG_RD_INDEX = bits v.toNat 15 0 ∧ t.rd F.LEDG_RD_WRAP = bit v.toNat 16) ∧
      (s.drainPending = true → ∃ t, exec (.ledgRdWrite v) s = .next t ∧ t.rd F.LEDG_STAT_RDBAD = 1 ∧ t.rd F.LEDG_RD_INDEX = s.rd F.LEDG_RD_INDEX)) ∧
    (s.ledgOver = true → s.ledgAbove = false → ∃ t, exec .ledgerThreshold s = .next t ∧ t.ledgAbove = true ∧
      (s.on F.EVR_CFG_EN (s.rd F.EVT_CFG_SYSRING) = true → t.recorded 0xFFF 4 [s.ledgFill] s.now (s.rd F.EVT_CFG_SYSRING)))

/-- A tick, from the first release stage on and with no access waiting, advances time by 1 tick, or 15 while ECLK is stopped. A wrap due adds one to EPOCH. Reading a low half shows the count and latches its high half; writing a counter's low half loads it with the staged high half. Every 1 ms TCOMP moves by at most 1 ppb toward its table's value (free: log entry 161), and so do a pin die's references; AGE is taken as written, ramping from the correction in force. A lost reference clears REF_OK and sets REF_LOST; one present for 10 ms sets REF_OK (log entry 163). -/
def Obligations.TimePasses : Prop :=
  ∀ (s : State),
    (s.rd F.RST_STAT_STAGE ≠ 0 → s.xwait = [] → ∃ t, exec .tick s = .next t ∧ t.now = s.now + ticks (if s.eclkOff then 15 else 1)) ∧
    (s.rd F.RST_STAT_STAGE = 0 → exec .tick s = .next s) ∧
    (s.time.wrapDue = true → ∃ t, exec .wrap s = .next t ∧ t.rd F.WT_EPOCH_EPOCH = (s.rd F.WT_EPOCH_EPOCH + 1) % 2 ^ 16 ∧
      t.rd F.WT_STAT_WRAP = 1 ∧ t.time.wrapDue = false ∧ t.now = s.now) ∧
    (s.time.wrapDue = false → exec .wrap s = .next s) ∧
    (∃ t, exec .wtNowLoRead s = .next t ∧ t.out = s.out ++ [OutMsg.value (loWord s.now.toNat)] ∧ t.rd F.WT_NOW_HI_NOW_HI = hiWord s.now.toNat ∧
      t.now = s.now) ∧
    (∀ c : PmcId, (∃ t, exec (.pmcCntLoRead c) s = .next t ∧ t.out = s.out ++ [OutMsg.value (loWord (s.pmcCount c))] ∧
        t.rd F.PMC_CNT_HI_CNT_HI c = s.pmcCount c / 2 ^ 32 % 2 ^ 16) ∧
      ∀ v : BitVec 32, ∃ t, exec (.pmcCntLoWrite c v) s = .next t ∧
        t.pmcCount c = (s.rd F.PMC_CNT_HI_CNT_HI c * 2 ^ 32 + v.toNat) % 2 ^ 48) ∧
    (s.on F.WT_XTAL_TCOMP_EN = true → (∀ t0, s.time.tcompT = some t0 → 0 ≤ ahead s.now (after t0 tMs)) → ∀ temp : BitVec 16,
      ∃ t, exec (.tcompUpdate temp) s = .next t ∧ t.time.tcompT = some s.now ∧
      t.rd F.WT_XTAL_TCOMP = ofSigned 12 (toward (signed 12 (s.rd F.WT_XTAL_TCOMP)) (Config.xtalTable (s.tableTemp 0 temp)) 1)) ∧
    (∀ k : DieId, s.dieOk k = true → (∀ t0, (s.die k).compT = some t0 → 0 ≤ ahead s.now (after t0 tMs)) → ∀ temp : BitVec 16,
      ∃ t, exec (.compensation k temp) s = .next t ∧ (t.die k).compT = some s.now ∧ (t.die k).comp = toward (s.die k).comp (Config.refTable k (s.tableTemp (1 + k) temp)) 64) ∧
    (∀ v : BitVec 16, ∃ t, exec (.ageWrite v) s = .next t ∧ t.rd F.WT_XTAL_AGE = v.toNat ∧ t.time.ageNow = s.ageInForce ∧ t.time.ageT = s.now) ∧
    (s.refSel = true → s.on F.WT_STAT_REF_OK = true → ∃ t, exec .referenceLost s = .next t ∧ t.rd F.WT_STAT_REF_OK = 0 ∧ t.rd F.WT_STAT_REF_LOST = 1 ∧
      t.rd F.WT_STAT_SYNC = s.rd F.WT_STAT_SYNC ∧
      t.faultq = if s.tmaster then s.faultq ++ [FaultIn.mk 22 0 0 false s.now] else s.faultq) ∧
    (s.refSel = true → 0 ≤ ahead s.now (after s.time.refT (10 * tMs)) → ∃ t, exec .referenceRelock s = .next t ∧ t.rd F.WT_STAT_REF_OK = 1)

/-- A write of MASTER_DEV on the anchor makes that device the master; off the anchor it does nothing. A master whose 1,536 ticks have passed sends one beacon from every port that carries them, stamped now with the fraction given, and counts its sequence number. A valid beacon at the upstream port gives OFFSET as arrival less its time, correction and INLAT, and BHOPS. 16 intervals without one leave LOCKED for HOLDOVER, 1 ms of it or an offset beyond 125 ps for UNSYNC with a fault record. With no beacon for 4 intervals the best port becomes the upstream one. -/
def Obligations.WaferTimeFollowsItsMaster : Prop :=
  ∀ (s : State),
    (∀ d : Fin 64, (s.anchor = true → ∃ t, exec (.masterDevWrite d) s = .next t ∧ t.rd F.WT_CTL_MASTER_DEV = d ∧ t.rd F.WT_STAT_MASTER = d ∧
        t.tmaster = (d.val == s.dev)) ∧
      (s.anchor = false → exec (.masterDevWrite d) s = .next s)) ∧
    (∀ frac : Fin 1024, s.tmaster = true → s.power ≠ 4 → (∀ t0, s.time.sent = some t0 → 0 ≤ ahead s.now (after t0 1536)) →
      ∃ t, exec (.beaconSend frac) s = .next t ∧ t.time.sent = some s.now ∧ t.time.bseq = (s.time.bseq + 1) % 2 ^ 32 ∧
      t.out = s.out ++ ((List.range 4).filter s.beaconPort).map (fun p => OutMsg.link p (Flit.link tyBeacon 0 false 0 0
        (beaconBytes (s.now.toNat + frac.val) 0 (s.rd F.WT_EPOCH_EPOCH) s.dev 1 s.time.bseq)))) ∧
    (∀ (p : PortId) (f : Flit) (frac : Fin 1024) (transit : List Nat), s.portSt p = ptUp → s.power ≠ 4 → f.crcOk = true → s.tmaster = false →
      f.field 18 1 % 64 = s.rd F.WT_STAT_MASTER → bits (f.field 19 1) 3 0 ≤ 14 → s.beaconPort p = true → s.on F.FAB_STAT_UPV = true →
      s.rd F.FAB_STAT_UPPORT = p → ∃ t, exec (.beacon p f frac transit) s = .next t ∧ t.rd F.FAB_STAT_BHOPS = f.field 19 1 % 16 ∧
      t.rd F.WT_OFFSET_OFFSET = ofSigned 32 (s.now + BitVec.ofNat 64 frac - BitVec.ofNat 64 (f.field 0 8) -
        BitVec.ofInt 64 (signed 64 (f.field 8 8) + signed 32 (s.rd F.FAB_PLAT_INLAT p))).toInt) ∧
    (s.tmaster = false → s.rd F.WT_STAT_SYNC = syLocked → 0 ≤ ahead s.now (after s.time.lastValid 24576) → ∃ t, exec .holdover s = .next t ∧
      t.rd F.WT_STAT_SYNC = syHold ∧ t.time.syncT = s.now) ∧
    (s.tmaster = false → (s.rd F.WT_STAT_SYNC = syHold ∧ 0 ≤ ahead s.now (after s.time.syncT tMs) ∨
        s.rd F.WT_STAT_SYNC = syLocked ∧ 192 < (signed 32 (s.rd F.WT_OFFSET_OFFSET)).natAbs) → ∃ t, exec .unsync s = .next t ∧
      t.rd F.WT_STAT_SYNC = syUnsync ∧ t.faultq = s.faultq ++ [FaultIn.mk 20 0 0 false s.now]) ∧
    (s.tmaster = false → s.on F.FAB_STAT_UPV = true → 0 ≤ ahead s.now (after (s.port (s.rd F.FAB_STAT_UPPORT)).bT 6144) →
      ∃ t, exec .upstreamChange s = .next t ∧ t.on F.FAB_STAT_UPV = s.bestPort.isSome ∧
      ∀ p, s.bestPort = some p → p < 4 → t.rd F.FAB_STAT_UPPORT = p)

/-- A watermark that is due writes a record to every enabled ring, shows W in WT_WM_LAST, and starts the next period. ARM of a free slot arms it for its T, or 1,500 ticks on where T is nearer than that (LATE); of an armed one sets SNAP_BUSY. A snapshot whose tick has come copies every counter that can be read into the slot's shadow, shows its tick, DONE and LATE, completes the descriptor that armed it, and frees the slot. DISARM frees an armed slot before its tick. -/
def Obligations.WatermarksAndSnapshots : Prop :=
  ∀ (s : State),
    (s.on F.WT_WM_EN = true → s.power ≠ 4 → (s.wm.wrapped = true ∨ 0 ≤ ahead s.now (after s.wm.last (max 4 (s.rd F.WT_WM_PERIOD) * 1500))) →
      ∃ t, exec .watermark s = .next t ∧ t.rd F.WT_WM_LAST_LO_LAST_LO = loWord s.wmTime.toNat ∧ t.rd F.WT_WM_LAST_HI_LAST_HI = hiWord s.wmTime.toNat ∧
      t.wm.last = s.now ∧ t.wm.wrapped = false ∧ t.wm.jumped = false ∧ t.wm.worst = s.rd F.WT_STAT_SYNC ∧
      ∀ e, e < 8 → s.on F.EVR_CFG_EN e = true → ∃ payload, t.recorded 4095 2 payload s.wmTime e) ∧
    (∀ k : SnapId, ∀ T, T = tickOf (BitVec.ofNat 64 (join (s.rd F.WT_SNAP_TLO_TLO k) (s.rd F.WT_SNAP_THI_THI k))) →
      (s.on F.WT_SNAP_CTL_ARM k = false → ∃ t, exec (.arm k) s = .next t ∧ t.on F.WT_SNAP_CTL_ARM k = true ∧
        (t.snap k).at_ = some (if sooner T s.now 1500 then after s.now 1500 else T) ∧ (t.snap k).late = sooner T s.now 1500) ∧
      (s.on F.WT_SNAP_CTL_ARM k = true → ∃ t, exec (.arm k) s = .next t ∧ t.rd F.WT_STAT_SNAP_BUSY = 1 ∧ t.snaps = s.snaps) ∧
      (s.on F.WT_SNAP_CTL_ARM k = true → (s.snap k).at_ ≠ some s.now → ∃ t, exec (.disarm k) s = .next t ∧ t.on F.WT_SNAP_CTL_ARM k = false ∧
        t.snap k = {}) ∧
      (∀ t0, s.on F.WT_SNAP_CTL_ARM k = true → (s.snap k).at_ = some t0 → reached t0 s.now = true → ∃ t, exec (.snapshotTaken k) s = .next t ∧
        t.on F.WT_SNAP_CTL_ARM k = false ∧ t.on F.WT_SNAP_CTL_DONE k = true ∧ ((s.snap k).late = true → t.on F.WT_SNAP_CTL_LATE k = true) ∧
        t.rd F.WT_SNAP_ALO_ALO k = loWord t0.toNat ∧ t.rd F.WT_SNAP_AHI_AHI k = hiWord t0.toNat ∧ t.snap k = {} ∧
        (∀ c, c < 384 → t.shd.at 0 (512 * k + c) = s.pmcCount c) ∧
        (∀ q i d, (s.snap k).desc = some (q, i) → (s.qp q).fetched.find? (fun d => d.idx == i) = some d →
          t.completed q d (if (s.snap k).late then stLate else stOk) t0.toNat k 0)))

/-- A doorbell in range sets SQ_TAIL, CQ_HEAD or EVR_HEAD of this device; out of range SQ_TAIL sets DBERR and halts the queue pair, CQ_HEAD sets CQERR, EVR_HEAD sets HDERR. The fetch whose turn it is reads 64 bytes at the SQ head, where its translation succeeds; where it fails, the queue pair holds its fetches and the fault waits for the log. A completion that waits is written at the CQ tail with the phase, and the tail advances. A record that waits for a ring with room is written at its tail; for one without, it is kept on chip. After losses one record of RLOSS goes first, and the losses are told. -/
def Obligations.RingsMoveDescriptorsAndRecords : Prop :=
  ∀ (s : State),
    (∀ (dev : Fin 64) (q : QpId) (v : BitVec 32), s.anchor = true → dev.val = s.dev → s.bellsOpen = true →
      (v.toNat < s.sqSize q → ∃ t, exec (.sqTail dev q v) s = .next t ∧ t.rd F.QP_STAT_DBTAIL q = v.toNat) ∧
      (s.sqSize q ≤ v.toNat → ∃ t, exec (.sqTail dev q v) s = .next t ∧ t.rd F.QP_STAT_DBERR q = 1 ∧ (s.qpState q = qsRun → t.qpState q = qsHalted)) ∧
      (onPath v.toNat (s.qp q).cqHead (s.rd F.QP_HEAD_CQ_TAIL q) (s.cqSize q) = true → ∃ t, exec (.cqHead dev q v) s = .next t ∧ (t.qp q).cqHead = v.toNat) ∧
      (onPath v.toNat (s.qp q).cqHead (s.rd F.QP_HEAD_CQ_TAIL q) (s.cqSize q) = false → ∃ t, exec (.cqHead dev q v) s = .next t ∧
        t.rd F.QP_STAT_CQERR q = 1 ∧ t.qps = s.qps)) ∧
    (∀ (dev : Fin 64) (e : EvrId) (v : BitVec 32), s.anchor = true → dev.val = s.dev → s.bellsOpen = true →
      (onPath v.toNat (s.evr e).head (s.rd F.EVR_TAIL_TAIL e) (s.evrSize e) = true → ∃ t, exec (.evrHead dev e v) s = .next t ∧ (t.evr e).head = v.toNat) ∧
      (onPath v.toNat (s.evr e).head (s.rd F.EVR_TAIL_TAIL e) (s.evrSize e) = false → ∃ t, exec (.evrHead dev e v) s = .next t ∧
        t.rd F.EVR_STAT_HDERR e = 1 ∧ t.evrs = s.evrs)) ∧
    (∀ (q : QpId) walk x, s.fetchTurn = some q.val → s.fetchOpen = true →
      x = (s.translate (s.rd F.QP_CFG_ASID q) ((s.sqBase q + 64 * s.rd F.QP_HEAD_SQ_HEAD q) % 2 ^ 64) false walk).1 →
      (∀ pa, x = .ok pa → ∃ t, exec (.descriptorFetch q walk) s = .next t ∧ (t.qp q).fetching = true ∧ t.rr = q ∧
        (s.anchor = true → t.out = s.out ++ [OutMsg.read pa 64 (.sq q)])) ∧
      (∀ c, x = .bad c → ∃ t, exec (.descriptorFetch q walk) s = .next t ∧ (t.qp q).sqFault = true ∧
        t.mmuq = s.mmuq ++ [MFault.mk 2 q 0 0 0 (s.rd F.QP_CFG_ASID q) ((s.sqBase q + 64 * s.rd F.QP_HEAD_SQ_HEAD q) % 2 ^ 64) false c 0
          (s.on F.QP_CFG_FRES q) s.now])) ∧
    (∀ (q : QpId) walk c rest pa, (s.qp q).cplq = c :: rest → s.hostOpen = true → (s.qp q).cqFault = false →
      (s.translate (s.rd F.QP_CFG_ASID q) ((s.cqBase q + 32 * s.rd F.QP_HEAD_CQ_TAIL q) % 2 ^ 64) true walk).1 = .ok pa →
      ∃ t, exec (.completionWrite q walk) s = .next t ∧ (∃ more, (t.qp q).cplq = rest ++ more) ∧
      t.rd F.QP_HEAD_CQ_TAIL q = (if s.cqSize q ≤ s.rd F.QP_HEAD_CQ_TAIL q + 1 then 0 else s.rd F.QP_HEAD_CQ_TAIL q + 1) ∧
      (t.qp q).phase = (if s.cqSize q ≤ s.rd F.QP_HEAD_CQ_TAIL q + 1 then 1 - (s.qp q).phase else (s.qp q).phase) ∧
      (s.anchor = true → t.out = s.out ++ [OutMsg.write pa (s.cplBytes q c)])) ∧
    (∀ (e : EvrId) walk h, s.evq.find? (fun r => r.ring == some e.val) = some h →
      (∀ pa, s.evrFree e = true → (s.evr e).lost = none → (s.evr e).kept = [] →
        (s.translate (s.rd F.EVR_CFG_ASID e) ((s.evrBase e + 64 * s.rd F.EVR_TAIL_TAIL e) % 2 ^ 64) true walk).1 = .ok pa →
        ∃ t, exec (.eventRecordWrite e walk) s = .next t ∧ (s.anchor = true → t.evq = s.evq.erase h) ∧
        t.rd F.EVR_TAIL_TAIL e = if s.evrSize e ≤ s.rd F.EVR_TAIL_TAIL e + 1 then 0 else s.rd F.EVR_TAIL_TAIL e + 1) ∧
      (s.evrFree e = false → (s.evr e).kept.length < 256 → ∃ t, exec (.eventRecordWrite e walk) s = .next t ∧ t.evq = s.evq.erase h ∧
        (t.evr e).kept = (s.evr e).kept ++ [h.words s.dev])) ∧
    (∀ (e : EvrId) walk n a b pa, (s.evr e).lost = some (n, a, b) → s.evrFree e = true →
      (s.translate (s.rd F.EVR_CFG_ASID e) ((s.evrBase e + 64 * s.rd F.EVR_TAIL_TAIL e) % 2 ^ 64) true walk).1 = .ok pa →
      ∃ t, exec (.rloss e walk) s = .next t ∧ (t.evr e).lost = none ∧ (t.evr e).kept = (s.evr e).kept ∧
      t.rd F.EVR_TAIL_TAIL e = if s.evrSize e ≤ s.rd F.EVR_TAIL_TAIL e + 1 then 0 else s.rd F.EVR_TAIL_TAIL e + 1)

/-- A ring with IEN 1 whose pending items reach its count, or whose oldest has waited TIME, sends the message of its vector, which clears its count; a masked vector becomes pending at the anchor. EN from 0 to 1 makes a DISABLED queue pair RUN with its indexes 0; from 1 to 0 makes it DRAINING; it is DISABLED, with its event, once nothing fetched is left. EN from 0 to 1 of an event ring starts it at 0; from 1 to 0 drops what waits for it. FLUSH ends every fetched descriptor that has not started or is held with ABORTED. D3hot is the anchor's. -/
def Obligations.QueuePairsAreSetUpAndDrain : Prop :=
  ∀ (s : State),
    (∀ (r : RingId), (s.irqOf r).2.2.1 = true → s.hostOpen = true →
      (max 1 (s.irqOf r).2.2.2.2.1 ≤ (s.irqOf r).1 → ∃ t, exec (.interrupt r) s = .next t ∧ (t.irqOf r).1 = 0 ∧
        (s.anchor = true → s.on F.MSIX_CTL_MASK (s.irqOf r).2.2.2.1 = false → t.out = s.out ++ [OutMsg.msi (join (s.rd F.MSIX_ADDR_LO_ADDR_LO (s.irqOf r).2.2.2.1)
          (s.rd F.MSIX_ADDR_HI_ADDR_HI (s.irqOf r).2.2.2.1)) (s.rd F.MSIX_DATA_DATA (s.irqOf r).2.2.2.1)]) ∧
        (s.anchor = true → s.on F.MSIX_CTL_MASK (s.irqOf r).2.2.2.1 = true → t.out = s.out ∧
          hasBit (t.rd F.MSIX_PBA_PBA ((s.irqOf r).2.2.2.1 / 32)) ((s.irqOf r).2.2.2.1 % 32) = true)) ∧
      (0 < (s.irqOf r).1 → 0 < (s.irqOf r).2.2.2.2.2 → reached (after (s.irqOf r).2.1 ((s.irqOf r).2.2.2.2.2 * tUs)) s.now = true →
        ∃ t, exec (.interruptTime r) s = .next t ∧ (t.irqOf r).1 = 0)) ∧
    (∀ q : QpId,
      (s.qpState q = qsDisabled → s.on F.QP_CFG_EN q = false → ∃ t, exec (.qpCfgEn q true) s = .next t ∧ t.on F.QP_CFG_EN q = true ∧
        t.qpState q = qsRun ∧ t.rd F.QP_HEAD_SQ_HEAD q = 0 ∧ t.rd F.QP_HEAD_CQ_TAIL q = 0 ∧ t.rd F.QP_STAT_DBTAIL q = 0 ∧ t.qp q = {}) ∧
      (s.qpState q = qsRun ∨ s.qpState q = qsHalted → s.on F.QP_CFG_EN q = true → ∃ t, exec (.qpCfgEn q false) s = .next t ∧
        t.on F.QP_CFG_EN q = false ∧ t.qpState q = qsDraining ∧ t.qps = s.qps) ∧
      (s.qpState q = qsDraining → s.inFlight q = 0 → (s.qp q).fetching = false → s.openOf q = [] →
        (∀ m ∈ s.mmuq, m.origin = 4 ∨ m.unit ≠ q.val) → ∃ t, exec (.drainEnd q) s = .next t ∧ t.qpState q = qsDisabled ∧ s.raised t (2000 + 2 * q) 2 s.now) ∧
      (∃ t, exec (.flush q) s = .next t ∧ (t.qp q).cplq = (s.qp q).cplq ++ ((s.qp q).fetched.filter (fun d => !d.started || d.held)).map
          (fun d => Cpl.mk d.idx d.cid d.opc d.irq stAborted 0 0 0 (d.f 8 7 0)) ∧
        ∀ d ∈ (t.qp q).fetched, d ∈ (s.qp q).fetched ∧ d.started = true ∧ d.held = false)) ∧
    (∀ e : EvrId, s.rd F.EVR_CFG_ASID e < 256 → s.rd F.EVR_CFG_SZ e < 16 →
      (s.on F.EVR_CFG_EN e = false → ∃ t, exec (.evrCfgEn e true) s = .next t ∧ t.on F.EVR_CFG_EN e = true ∧ t.rd F.EVR_TAIL_TAIL e = 0 ∧
        t.rd F.EVR_TAIL_WRAP e = 0 ∧ t.evr e = {}) ∧
      (s.on F.EVR_CFG_EN e = true → ∃ t, exec (.evrCfgEn e false) s = .next t ∧ t.on F.EVR_CFG_EN e = false ∧ (t.evr e).kept = [] ∧
        (t.evr e).lost = none ∧ (t.evr e).pend = 0 ∧ t.evq = s.evq.filter (fun r => r.ring != some e.val))) ∧
    (∀ on : Bool, (s.anchor = true → exec (.d3hot on) s = .next { s with d3hot := on }) ∧ (s.anchor = false → exec (.d3hot on) s = .next s))

/-- The oldest fault is written into the next slot with its cause and address, OPEN where it holds what it struck; otherwise the descriptor ends with XLAT_FAULT. An invalidation drops the entries it covers and is busy until no read through one is outstanding. RETRY and ABORT of an OPEN slot by its GEN close it: what it held goes on where the page now translates, or ends; with another GEN they set FRBAD. FTMO aborts. PREEMPT of a running queue pair asks its running gangs; once all is paused, saved or ended PRE is 1, with its event; RESUME and DISCARD end the pre-emption, DISCARD the saved gangs with it. -/
def Obligations.TranslationFaultsAndPreemption : Prop :=
  ∀ (s : State),
    (∀ m rest k, s.mmuq = m :: rest → s.nextSlot = some k → ∃ t, exec .translationFault s = .next t ∧ t.mmuq = rest ∧
      t.rd F.MMU_FLOG0_STATE k = (if 2 ≤ m.origin ∨ m.fres = true then flOpen else flClosed) ∧ t.rd F.MMU_FLOG0_CAUSE k = m.cause % 16 ∧
      t.rd F.MMU_FLOG0_GEN k = (s.rd F.MMU_FLOG0_GEN k + 1) % 256 ∧ t.rd F.MMU_FLOG2_ADDR_LO k = loWord m.addr ∧
      t.rd F.MMU_FLOG3_ADDR_HI k = hiWord m.addr ∧ t.rd F.MMU_FIDX_NEXT = (k + 1) % 16 ∧
      (m.origin < 2 → m.fres = false → ∀ d, (s.qp m.unit).fetched.find? (fun d => d.idx == m.idx) = some d →
        ∃ r0 r1 detail, t.completed m.unit d stXlat r0 r1 detail)) ∧
    (∀ (op : Fin 4) (asid : BitVec 8),
      (s.on F.MMU_INV_BUSY = true → ∃ t, exec (.mmuInv op asid) s = .next t ∧ t.rd F.MMU_STAT_INVBUSY = 1 ∧ t.tlb = s.tlb) ∧
      (s.on F.MMU_INV_BUSY = false → op ≠ 0 → ∃ t, exec (.mmuInv op asid) s = .next t ∧ t.rd F.MMU_INV_BUSY = 1 ∧
        t.tlb = s.tlb.filter (fun e => !s.invCovers op asid.toNat e))) ∧
    (s.qps.all (fun e => !(e.2.fetching && e.2.stale) && e.2.fetched.all (fun d => d.reading == 0 || !d.stale)) = true →
      ∃ t, exec .invalidationDone s = .next t ∧ t.rd F.MMU_INV_BUSY = 0) ∧
    (∀ (k : Fin 16) (gen : BitVec 8) walk,
      (s.slotNamed k gen.toNat = false → (∃ t, exec (.retry k gen walk) s = .next t ∧ t.rd F.MMU_STAT_FRBAD = 1 ∧ t.tlb = s.tlb) ∧
        ∃ t, exec (.faultAbort k gen) s = .next t ∧ t.rd F.MMU_STAT_FRBAD = 1 ∧ t.qps = s.qps) ∧
      (s.slotNamed k gen.toNat = true → ∀ o q e x, o = s.rd F.MMU_FLOG0_ORIGIN k → q = s.rd F.MMU_FLOG0_QP k → e = s.rd F.MMU_FLOG0_EVR k →
        x = (s.translate (s.rd F.MMU_FLOG1_ASID k) (join (s.rd F.MMU_FLOG2_ADDR_LO k) (s.rd F.MMU_FLOG3_ADDR_HI k)) (s.on F.MMU_FLOG0_WRITE k) walk).1 →
        (∀ pa, x = .ok pa → ∃ t, exec (.retry k gen walk) s = .next t ∧ t.rd F.MMU_FLOG0_STATE k = flClosed ∧ t.mmuq = s.mmuq ∧
          (o ≤ 1 → ∀ d, s.slotDesc k = some d → ∀ y ∈ (t.qp q).fetched, y.idx = d.idx → y.faulted = false) ∧
          (o = 2 → (t.qp q).sqFault = false) ∧ (o = 3 → (t.qp q).cqFault = false) ∧ (o = 4 → (t.evr e).fault = false)) ∧
        (∀ c, x = .bad c → ∃ t, exec (.retry k gen walk) s = .next t ∧ t.rd F.MMU_FLOG0_STATE k = flClosed ∧ t.mmuq.length = s.mmuq.length + 1) ∧
        (∃ t, exec (.faultAbort k gen) s = .next t ∧ t.rd F.MMU_FLOG0_STATE k = flClosed ∧
          (o ≤ 1 → ∀ d, s.slotDesc k = some d → ∃ r0 r1 detail, t.completed q d stXlat r0 r1 detail) ∧
          (o = 2 → (t.qp q).sqFault = false ∧ (s.qpState q = qsRun → t.qpState q = qsHalted)) ∧
          (o = 3 → (t.qp q).cqFault = false ∧ (t.qp q).cplq = (s.qp q).cplq.drop 1 ∧ t.rd F.QP_STAT_CQERR q = 1 ∧
            (s.qpState q = qsRun → t.qpState q = qsHalted)) ∧
          (o = 4 → t.rd F.EVR_CFG_EN e = 0 ∧ (t.evr e).kept = [] ∧ (t.evr e).fault = false ∧ t.evq = s.evq.filter (fun r => r.ring != some e)))) ∧
      (s.slotOpen k = true → s.rd F.MMU_CFG_FTMO ≠ 0 →
        reached (after (BitVec.ofNat 64 (join (s.rd F.MMU_FLOG4_STAMP_LO k) (s.rd F.MMU_FLOG5_STAMP_HI k))) (s.rd F.MMU_CFG_FTMO * tMs)) s.now = true →
        ∃ t, exec (.ftmo k) s = .next t ∧ t.rd F.MMU_FLOG0_STATE k = flClosed ∧ t.rd F.MMU_STAT_FTO = 1)) ∧
    (∀ q : QpId,
      (s.qpState q = qsRun → s.preempted q = false → ∃ t, exec (.preempt q) s = .next t ∧ t.preempted q = true ∧
        ∀ n ∈ s.sitesOfQp q, s.running n = true → (t.gang n).preempt = some s.now) ∧
      (s.qpState q ≠ qsRun ∨ s.preempted q = true → ∃ t, exec (.preempt q) s = .next t ∧ t.rd F.PRE_STAT_PBAD = 1 ∧ t.gangs = s.gangs) ∧
      (s.preempted q = true → s.on F.QP_STAT_PRE q = false → (∀ d ∈ (s.qp q).fetched, d.started = true → d.opc = 2 ∨ d.held = true ∨ d.paused = true) →
        (∀ n ∈ s.sitesOfQp q, s.running n = true → s.gstate n = stSaved) → ∃ t, exec (.preempted q) s = .next t ∧ t.rd F.QP_STAT_PRE q = 1 ∧
        s.raised t (2001 + 2 * q) 2 s.now) ∧
      (s.preempted q = true → (∃ t, exec (.resume q) s = .next t ∧ t.preempted q = false ∧ t.rd F.QP_STAT_PRE q = 0 ∧
          (∀ n ∈ s.sitesOfQp q, (t.gang n).preempt = none) ∧
          ∀ n ∈ s.sitesOfQp q, s.gstate n = stSaved → ∃ at_, (n, at_) ∈ t.pwr.resumes) ∧
        ∃ t, exec (.discard q) s = .next t ∧ t.preempted q = false ∧ t.rd F.QP_STAT_PRE q = 0 ∧ (∀ n ∈ s.sitesOfQp q, (t.gang n).preempt = none) ∧
          ∀ e ∈ t.pwr.resumes, ¬(e.1 ∈ s.sitesOfQp q ∧ s.gstate e.1 = stSaved)))

/-- A TBL_LOAD whose fields fail ends BAD_DESC; one that a running gang bars is held; else its data begins to move, by chunks as its turn comes. Whole and not held, it writes each named pod's entries of a per-pod table, or the entries of the site map, interval or PMU setups, no other entry, and completes OK with the number of entries; where an entry fails its check it writes nothing and ends BAD_DESC. A SEG_LOAD with an entry that bars it ends BAD_DESC; else every entry is LOADING. Whole, it writes each pod's bytes into its entry, no other byte of the local stores, and all become READY. A held load is released when what held it has ended. -/
def Obligations.LoadsFillTables : Prop :=
  ∀ (s : State) (q : QpId) (cid : Nat) (walk : Walk) (d : Desc) (u : State),
    (Starts s q cid 3 d u →
      (tblCheck u d ≠ 0 → ∃ t, exec (.tblLoad q cid walk) s = .next t ∧ t.completed q d stBad 0 0 (tblCheck u d)) ∧
      (tblCheck u d = 0 → u.blockedBy d = true → exec (.tblLoad q cid walk) s = .next (u.hold q d)) ∧
      (tblCheck u d = 0 → u.blockedBy d = false → exec (.tblLoad q cid walk) s = .next
        (u.begins q d (tblSize d.ty * d.nent * (if tblPods d.ty && !d.share then d.pods.length else 1))))) ∧
    (UnderWay s q cid 3 d →
      (∀ pa, d.moved < d.total → s.chunkReady q d = true → s.chunkTurn = some q.val → s.hostOpen = true → s.ringsBusy = false → s.anchor = true →
        (s.translate (s.rd F.QP_CFG_ASID q) d.at_ false walk).1 = .ok pa → ∃ t, exec (.tblLoad q cid walk) s = .next t ∧
        t.out = s.out ++ [OutMsg.read pa (chunkLen d.at_ d.left) (.data q d.cid)]) ∧
      (d.total ≤ d.moved → s.blockedBy d = true → exec (.tblLoad q cid walk) s = .next (s.hold q d)) ∧
      (d.total ≤ d.moved → s.blockedBy d = false → tblPods d.ty = true →
        ((∀ i, i < d.pods.length → s.tableWhy d.ty (d.pods.getD i 0) (d.f 8 24 16) (d.entries i) = 0) → ∃ t, exec (.tblLoad q cid walk) s = .next t ∧
          t.completed q d stOk 0 (d.nent * d.pods.length) 0 ∧ ∀ i, i < d.pods.length →
          (∀ k, k < d.nent → (d.ty = 1 → t.tset (d.pods.getD i 0) (d.f 8 24 16 + k) = some (tsetOf ((d.entries i).getD k []))) ∧
            (d.ty = 2 → Store.get (fun _ => none) (t.pod (d.pods.getD i 0)).lsets (d.f 8 24 16 + k) = some (lsetOf ((d.entries i).getD k []))) ∧
            (d.ty = 4 → (∃ got head, t.seg (d.pods.getD i 0) (d.f 8 24 16 + k) = { segOf ((d.entries i).getD k []) with got := got, head := head }) ∧
              ((segOf ((d.entries i).getD k [])).kind ≠ kdStream → t.seg (d.pods.getD i 0) (d.f 8 24 16 + k) = segOf ((d.entries i).getD k [])))) ∧
          ∀ k, k < d.f 8 24 16 ∨ d.f 8 24 16 + d.nent ≤ k → t.tset (d.pods.getD i 0) k = s.tset (d.pods.getD i 0) k ∧
            t.seg (d.pods.getD i 0) k = s.seg (d.pods.getD i 0) k) ∧
        (∀ i, i < d.pods.length → s.tableWhy d.ty (d.pods.getD i 0) (d.f 8 24 16) (d.entries i) ≠ 0 → ∃ t, exec (.tblLoad q cid walk) s = .next t ∧
          (∃ why, why ≠ 0 ∧ t.completed q d stBad 0 0 why) ∧ t.pods = s.pods)) ∧
      (d.total ≤ d.moved → s.blockedBy d = false → tblPods d.ty = false →
        (s.sharedWhy d.ty (d.f 8 24 16) (d.entries 0) = 0 → ∃ t, exec (.tblLoad q cid walk) s = .next t ∧ t.completed q d stOk 0 d.nent 0 ∧
          ∀ k, k < d.nent → (d.ty = 5 → t.site (d.f 8 24 16 + k) = siteOf ((d.entries 0).getD k [])) ∧
            (d.ty = 6 → t.iuEntry (d.f 8 24 16 + k) = some (iuSetupOf ((d.entries 0).getD k []))) ∧
            (d.ty = 7 → t.pmuEntry (d.f 8 24 16 + k) = some (pmuSetupOf ((d.entries 0).getD k [])))) ∧
        (s.sharedWhy d.ty (d.f 8 24 16) (d.entries 0) ≠ 0 → ∃ t, exec (.tblLoad q cid walk) s = .next t ∧
          t.completed q d stBad 0 0 (s.sharedWhy d.ty (d.f 8 24 16) (d.entries 0)) ∧ t.siteMap = s.siteMap ∧ t.iuSetup = s.iuSetup ∧ t.pmuSetup = s.pmuSetup))) ∧
    (Starts s q cid 4 d u → u.blockedBy d = false →
      (u.segBars d (d.f 8 5 0) = true → ∃ t, exec (.segLoad q cid walk) s = .next t ∧ t.completed q d stBad 0 0 dState) ∧
      (u.segBars d (d.f 8 5 0) = false → ∃ t, exec (.segLoad q cid walk) s = .next t ∧ ∀ p ∈ d.pods, (t.seg p (d.f 8 5 0)).st = sgLoading ∧
        (t.seg p (d.f 8 5 0)).cls = 5)) ∧
    (UnderWay s q cid 4 d → d.total ≤ d.moved → (∀ p ∈ d.pods, (s.seg p (d.f 8 5 0)).lbase + (s.seg p (d.f 8 5 0)).len ≤ 256 ∧
        s.segDataAt d p + 512 * (s.seg p (d.f 8 5 0)).len ≤ d.data.length) → ∃ t, exec (.segLoad q cid walk) s = .next t ∧ t.completed q d stOk 0 0 0 ∧
      (∀ p ∈ d.pods, (t.seg p (d.f 8 5 0)).st = sgReady ∧ ∀ i, i < 512 * (s.seg p (d.f 8 5 0)).len →
        t.segMem.byte (granuleAddr p (s.seg p (d.f 8 5 0)) 0 + i) = BitVec.ofNat 8 (d.data.getD (s.segDataAt d p + i) 0)) ∧
      ∀ a, (∀ p ∈ d.pods, a < granuleAddr p (s.seg p (d.f 8 5 0)) 0 ∨ granuleAddr p (s.seg p (d.f 8 5 0)) 0 + 512 * (s.seg p (d.f 8 5 0)).len ≤ a) →
        t.segMem.byte a = s.segMem.byte a) ∧
    (s.desc q cid = some d → d.started = true → d.held = true → s.blockedBy d = false → s.preempted q = false → d.steward = false →
      exec (.heldLoadRelease q cid) s = .next (s.putDesc q { d with held := false }))

/-- A REFILL with nothing that bars it has its entries LOADING from its source; when the pool's turn comes each is written with its source granules, no other byte of the local stores, all become READY, and it completes OK. A POOL_LOAD that reads a pinned granule ends BAD_DESC with PINNED; the granules that have arrived are written at their place, no other byte of the pool, and lose their errors. A UCODE_LOAD whose image passes installs it in every named pod; one whose format or signature fails ends BAD_DESC or AUTH_FAIL. A firmware image that passes is switched to. A row of the MTP begins its pulse; verified, its 64 bytes are written and no other byte; not verified, the command ends ABORTED. -/
def Obligations.PoolAndMicrocodeAreLoaded : Prop :=
  ∀ (s : State) (q : QpId) (cid : Nat) (walk : Walk) (d : Desc) (u : State),
    (Starts s q cid 5 d u → u.blockedBy d = false →
      (u.segBars d (d.f 8 5 0) = true → ∃ t, exec (.refill q cid) s = .next t ∧ t.completed q d stBad 0 0 dState) ∧
      (u.segBars d (d.f 8 5 0) = false → (∃ p ∈ d.pods, 65536 < d.f 12 15 0 + (u.seg p (d.f 8 5 0)).len) →
        ∃ t, exec (.refill q cid) s = .next t ∧ t.completed q d stBad 0 0 dRange) ∧
      (u.segBars d (d.f 8 5 0) = false → (∀ p ∈ d.pods, d.f 12 15 0 + (u.seg p (d.f 8 5 0)).len ≤ 65536) →
        ∃ t, exec (.refill q cid) s = .next t ∧ ∀ p ∈ d.pods, (t.seg p (d.f 8 5 0)).st = sgLoading ∧ (t.seg p (d.f 8 5 0)).src = d.f 12 15 0)) ∧
    (UnderWay s q cid 5 d → (∀ p ∈ d.pods, (s.seg p (d.f 8 5 0)).st = sgLoading ∧ 4 ≤ s.bestClass p ∧
        (s.seg p (d.f 8 5 0)).lbase + (s.seg p (d.f 8 5 0)).len ≤ 256 ∧
        ∀ g ∈ s.poolBad, g < (s.seg p (d.f 8 5 0)).src ∨ (s.seg p (d.f 8 5 0)).src + (s.seg p (d.f 8 5 0)).len ≤ g) →
      ∃ t, exec (.refill q cid) s = .next t ∧ t.completed q d stOk 0 0 0 ∧
      (∀ p ∈ d.pods, (t.seg p (d.f 8 5 0)).st = sgReady ∧ ∀ i, i < 512 * (s.seg p (d.f 8 5 0)).len →
        t.segMem.byte (granuleAddr p (s.seg p (d.f 8 5 0)) 0 + i) = s.poolMem.byte (512 * (s.seg p (d.f 8 5 0)).src + i)) ∧
      ∀ a, (∀ p ∈ d.pods, a < granuleAddr p (s.seg p (d.f 8 5 0)) 0 ∨ granuleAddr p (s.seg p (d.f 8 5 0)) 0 + 512 * (s.seg p (d.f 8 5 0)).len ≤ a) →
        t.segMem.byte a = s.segMem.byte a) ∧
    (Starts s q cid 6 d u → d.f 12 16 0 ≠ 0 → d.f 8 15 0 + d.f 12 16 0 ≤ 65536 →
      ((∃ i, i < d.f 12 16 0 ∧ u.pinned (d.f 8 15 0 + i) none = true) → ∃ t, exec (.poolLoad q cid walk) s = .next t ∧
        t.rd F.POOL_STAT_PINNED = 1 ∧ t.completed q d stBad 0 0 dPinned) ∧
      ((∀ i, i < d.f 12 16 0 → u.pinned (d.f 8 15 0 + i) none = false) → exec (.poolLoad q cid walk) s = .next (u.begins q d (512 * d.f 12 16 0)))) ∧
    (UnderWay s q cid 6 d → d.first ≤ d.moved / 512 → d.moved ≤ d.data.length → ∃ t, exec (.poolLoad q cid walk) s = .next t ∧
      (d.total ≤ d.moved → t.completed q { d with first := d.moved / 512 } stOk 0 0 0) ∧
      (∀ i, i < 512 * (d.moved / 512 - d.first) →
        t.poolMem.byte (512 * (d.f 8 15 0 + d.first) + i) = BitVec.ofNat 8 (d.data.getD (512 * d.first + i) 0)) ∧
      (∀ a, a < 512 * (d.f 8 15 0 + d.first) ∨ 512 * (d.f 8 15 0 + d.moved / 512) ≤ a → t.poolMem.byte a = s.poolMem.byte a) ∧
      ∀ g, d.f 8 15 0 + d.first ≤ g → g < d.f 8 15 0 + d.moved / 512 → g ∉ t.poolBad) ∧
    (UnderWay s q cid 7 d → d.total ≤ d.moved → s.blockedBy d = false → ∀ code, code = authCode s.revokedNow true d.data (imgSpan d.data) (num d.data 16 2) s.uccnt →
      (imageOk d.data = false → ∃ t, exec (.ucodeLoad q cid walk) s = .next t ∧ t.completed q d stBad 0 0 dData ∧ t.pods = s.pods) ∧
      (imageOk d.data = true → code ≠ 0 → ∃ t, exec (.ucodeLoad q cid walk) s = .next t ∧ t.completed q d stAuth 0 0 code ∧ t.pods = s.pods) ∧
      (imageOk d.data = true → code = 0 → ∃ t, exec (.ucodeLoad q cid walk) s = .next t ∧ t.completed q d stOk 0 0 0 ∧
        ∀ p ∈ d.pods, (t.pod p).image.uops = (imageOf d.data).uops ∧ (t.pod p).image.entries = (imageOf d.data).entries ∧
          t.rd F.ENG_USTAT_USER p = 1 ∧ t.rd F.ENG_UIMG_IMG_ID p = num d.data 12 4 % 2 ^ 32 ∧ t.rd F.ENG_USVN_SVN p = num d.data 16 2 % 2 ^ 16)) ∧
    (UnderWay s q cid 16 d → d.total ≤ d.moved → s.blockedBy d = false →
      (s.fwCode d.data ≠ 0 → ∃ t, exec (.fwLoad q cid walk) s = .next t ∧ t.completed q d stAuth 0 0 (s.fwCode d.data) ∧ t.rst = s.rst) ∧
      (s.fwCode d.data = 0 → ∃ t, exec (.fwLoad q cid walk) s = .next t ∧ t.completed q d stOk (num d.data 12 4) (num d.data 16 2) 0 ∧
        t.rd F.TRUST_STAT_FWSRC = 2 ∧ t.rd F.TRUST_FWID_IMG_ID = num d.data 12 4 % 2 ^ 32 ∧ t.rd F.TRUST_FWSVN_SVN = num d.data 16 2 % 2 ^ 16)) ∧
    (UnderWay s q cid 17 d → d.total ≤ d.moved → 64 * d.first < d.total → s.rst.deferred = false →
      (∀ i, i < d.total → mtpZero (d.f 8 15 0 + i) = true → d.data.getD i 0 = 0) → ∀ verified : Bool,
      (s.rst.pulse = none → ∃ t, exec (.mtpWrite q cid walk verified) s = .next t ∧ t.mtpMem = s.mtpMem ∧
        t.rst.pulse = some { row := d.f 8 15 0 + 64 * d.first, bytes := (d.data.drop (64 * d.first)).take 64 }) ∧
      (∀ p, s.rst.pulse = some p → 0x1000 ≤ p.row → p.bytes.length = 64 →
        (verified = true → ∃ t, exec (.mtpWrite q cid walk true) s = .next t ∧ t.rst.pulse = none ∧
          (∀ i, i < 64 → t.mtpMem.byte (p.row + i) = BitVec.ofNat 8 (p.bytes.getD i 0)) ∧
          (∀ a, a < p.row ∨ p.row + 64 ≤ a → t.mtpMem.byte a = s.mtpMem.byte a) ∧
          (d.total ≤ 64 * (d.first + 1) → t.completed q d stOk (d.first + 1) 0 0)) ∧
        (verified = false → ∃ t, exec (.mtpWrite q cid walk false) s = .next t ∧ t.rst.pulse = none ∧ t.mtpMem = s.mtpMem ∧
          t.completed q d stAborted d.first 0 0x20 ∧ t.faultq = s.faultq ++ [FaultIn.mk 50 0 p.row false s.now])))

/-- A NOP completes OK. A STEP_RUN whose sites can run arms each that is no husk for its start tick; else it ends BAD_DESC. A STREAM joins its slot's feed, and completes once its granules have reached every bound pod, UNDERRUN where one was late. A CAP_UPLOAD and a LEDG_DRAIN write their bytes chunk by chunk as their turn comes, then move the read pointer past what they moved and complete OK with it. A SNAPSHOT takes the lowest free slot for its tick, or ends BAD_DESC where there is none. An ATTEST makes its report, and completes once it has been written. -/
def Obligations.StepsStreamsAndUploadsRun : Prop :=
  ∀ (s : State) (q : QpId) (cid : Nat) (walk : Walk) (d : Desc) (u : State),
    (s.start q cid 1 = some (d, u) → ∃ t, exec (.nopCommand q cid) s = .next t ∧ t.completed q d stOk 0 0 0) ∧
    (Starts s q cid 2 d u →
      (u.stepCheck d ≠ 0 → ∃ t, exec (.stepRun q cid) s = .next t ∧ t.completed q d stBad 0 0 (u.stepCheck d) ∧ t.runs = u.runs) ∧
      (u.stepCheck d = 0 → ∃ t, exec (.stepRun q cid) s = .next t ∧ (∃ r, t.runs = u.runs ++ [r] ∧ r.qp = q.val ∧ r.cid = d.cid ∧ r.entry = d.f 8 21 0 ∧
          r.startT = tickOf (BitVec.ofNat 64 (d.f 16 63 0)) ∧ r.sites = bitsSet 128 (d.f 24 127 0) ∧ r.started = false) ∧
        ∀ n ∈ bitsSet 128 (d.f 24 127 0), u.gstate n ≠ stHusk → ∀ p ∈ u.podsOf n, t.rd F.ENG_STAT_STATE p = stArmed)) ∧
    (Starts s q cid 8 d u → u.on F.STRM_CFG_EN (d.f 8 3 0) = true → u.rd F.STRM_CFG_QP (d.f 8 3 0) = q → u.on F.QP_CFG_FRES q = true →
      ∀ a, a = (u.feedDescs (d.f 8 3 0)).foldl (fun m e => max m (e.2.first + e.2.total)) (u.strm (d.f 8 3 0)).fed →
      exec (.stream q cid walk) s = .next (u.begins q { d with first := a } (d.f 12 15 0 + 1))) ∧
    (UnderWay s q cid 8 d → d.moved = d.total → d.first + d.total ≤ s.delivered (d.f 8 3 0) → ∃ t, exec (.stream q cid walk) s = .next t ∧
      t.completed q d (if (s.strm (d.f 8 3 0)).unders.any (fun g => decide (d.first ≤ g ∧ g < d.first + d.total)) then stUnderrun else stOk) d.total 0 0) ∧
    (UnderWay s q cid 9 d →
      (∀ pa, d.moved < d.total → s.chunkReady q d = true → s.chunkTurn = some q.val → s.hostOpen = true → s.ringsBusy = false → s.anchor = true →
        (s.translate (s.rd F.QP_CFG_ASID q) d.at_ true walk).1 = .ok pa → ∃ t, exec (.capUpload q cid walk) s = .next t ∧
        t.out = s.out ++ [OutMsg.write pa (s.ringRead (d.f 8 7 0) (s.rd F.CAP_RD_OFFSET (d.f 8 7 0) + d.moved) (chunkLen d.at_ d.left))]) ∧
      (d.total ≤ d.moved → ∃ t, exec (.capUpload q cid walk) s = .next t ∧ (∃ r1, t.completed q d stOk d.moved r1 0) ∧
        t.rd F.CAP_RD_OFFSET (d.f 8 7 0) = (s.rd F.CAP_RD_OFFSET (d.f 8 7 0) +
          s.wholeRecs (d.f 8 7 0) (s.rd F.CAP_RD_OFFSET (d.f 8 7 0)) d.moved (d.moved / 8 + 1)) % max 1 (s.ringSize (d.f 8 7 0)) % 2 ^ 24)) ∧
    (UnderWay s q cid 10 d →
      (∀ pa, d.moved < d.total → s.chunkReady q d = true → s.chunkTurn = some q.val → s.hostOpen = true → s.ringsBusy = false → s.anchor = true →
        (s.translate (s.rd F.QP_CFG_ASID q) d.at_ true walk).1 = .ok pa → ∃ t, exec (.ledgDrain q cid walk) s = .next t ∧
        t.out = s.out ++ [OutMsg.write pa ((s.ledgBytes (32 * s.rd F.LEDG_RD_INDEX + d.moved) (chunkLen d.at_ d.left)).take (chunkLen d.at_ d.left))]) ∧
      (d.total ≤ d.moved → ∃ t, exec (.ledgDrain q cid walk) s = .next t ∧ (∃ r1, t.completed q d stOk (d.moved / 32) r1 0) ∧
        t.rd F.LEDG_RD_INDEX = (s.rd F.LEDG_RD_INDEX + d.moved / 32) % 65536)) ∧
    (Starts s q cid 11 d u →
      (∀ k, (List.range 4).find? (fun k => !u.on F.WT_SNAP_CTL_ARM k) = some k → exec (.snapshot q cid) s = .next
        ((u.begins q d 0).armSnap k (BitVec.ofNat 64 (d.f 16 63 0)) (some (q.val, d.idx)))) ∧
      ((∀ k, k < 4 → u.on F.WT_SNAP_CTL_ARM k = true) → ∃ t, exec (.snapshot q cid) s = .next t ∧ t.completed q d stBad 0 0 dNoSlot)) ∧
    (Starts s q cid 18 d u → 12104 ≤ d.f 8 31 0 → u.descsStarted.any (fun e => e.steward && !e.held && (e.accepted || e.first != 0)) = false →
      exec (.attest q cid walk) s = .next (u.putDesc q { d with accepted := true, total := 12104, data := u.report (toBytes 32 (d.f 24 255 0)) })) ∧
    (UnderWay s q cid 18 d → d.total ≤ d.moved → ∃ t, exec (.attest q cid walk) s = .next t ∧ t.completed q d stOk 12104 0 0)

/-- A signal at a NOPEER port starts training. Training that succeeds with lanes and the right peer gives LATENCY, shows width and peer and sends the first LMEAS; a wrong peer gives MISWIRED; 300 us without success DOWN, which retries every 10 ms. A measurement that has ended, or has used up its time, brings the port up, LATV 1 where the spread is within bounds, else LATBAD. Lost lock, eight replays or silence train an UP port again, as RETRAIN does. UNFENCE and DISABLE move the port as R462 and R436 say. A request is answered with its stamps; the answer to the probe under way adds its round trip to the sum and sends the next. -/
def Obligations.PortsTrainAndMeasure : Prop :=
  ∀ (s : State) (p : PortId),
    (s.portSt p = ptNopeer → s.linksOn = true → ∃ t, exec (.signalDetect p) s = .next t ∧ t.portSt p = ptTrain) ∧
    (∀ (working : BitVec 4) (peer : Peer) (depart : Stamp) w, s.linksOn = true → s.portSt p = ptTrain ∨ s.portSt p = ptDown ∧ (s.port p).retry = true →
      w = laneSet working.toNat (s.rd F.FAB_PCTL_MAXW p) → w ≠ 0 →
      (peer.port = opposite p → peer.uid ≠ s.uid → ∃ t, exec (.trainingDone p working peer depart) s = .next t ∧ t.portSt p = ptLatency ∧
        t.rd F.FAB_PSTAT_WIDTH p = w ∧ t.rd F.FAB_PSTAT_PEERV p = 1 ∧ t.rd F.FAB_PSTAT_PEERPORT p = peer.port % 4 ∧
        t.rd F.FAB_PSTAT_PEERDEV p = peer.dev % 64 ∧ (t.port p).uid = peer.uid ∧ (t.port p).t1 = some depart ∧ (t.port p).idx = 0 ∧
        t.out = s.out ++ [OutMsg.link p (Flit.link tyLmeas 0 false 0 0 (toBytes 8 0))]) ∧
      (peer.port ≠ opposite p ∨ peer.uid = s.uid → ∃ t, exec (.trainingDone p working peer depart) s = .next t ∧ t.portSt p = ptMiswired ∧
        t.rd F.FAB_PSTAT_WIDTH p = 0)) ∧
    (s.portSt p = ptTrain → s.linksOn = true → s.portFor p (300 * tUs) = true → ∃ t, exec (.trainingTimeout p) s = .next t ∧ t.portSt p = ptDown ∧
      t.faultq = s.faultq ++ [FaultIn.mk (32 + p) p 0 false s.now]) ∧
    (s.portSt p = ptDown → s.linksOn = true → s.portFor p (10 * tMs) = true → ∃ t, exec (.trainingRetry p) s = .next t ∧ t.portSt p = ptDown ∧
      (t.port p).retry = true ∧ (t.port p).since = s.now) ∧
    (s.portSt p = ptLatency → s.linksOn = true → (s.port p).measured = true ∨ s.portFor p (60 * tUs) = true →
      ∃ t, exec (.latencyMeasurement p) s = .next t ∧ t.portSt p = ptUp ∧
      ((s.port p).measured = true → ((s.port p).hi - (s.port p).lo).toNat ≤ 64 → t.rd F.FAB_PSTAT_LATV p = 1) ∧
      ((s.port p).measured = false ∨ 64 < ((s.port p).hi - (s.port p).lo).toNat → t.rd F.FAB_PSTAT_LATV p = 0 ∧ t.rd F.FAB_PSTAT_LATBAD p = 1)) ∧
    (∀ lost : Bool, s.portSt p = ptUp → s.linksOn = true → lost = true ∨ 8 ≤ (s.port p).replays ∨ 0 ≤ ahead s.now (after (s.port p).lastRx tUs) →
      ∃ t, exec (.retrain p lost) s = .next t ∧ t.portSt p = ptTrain ∧ t.rd F.FAB_PSTAT_LATV p = 0 ∧ t.rd F.FAB_PSTAT_PEERV p = 0) ∧
    (s.portSt p = ptUp ∨ s.portSt p = ptDown → ∃ t, exec (.portRetrain p) s = .next t ∧ t.portSt p = ptTrain) ∧
    (s.portSt p ≠ ptUp → s.portSt p ≠ ptDown → exec (.portRetrain p) s = .next s) ∧
    (s.portSt p = ptFenced → s.fences.any (fun f => f.kind == 4 && f.unit == p.val) = false → ∃ t, exec (.portUnfence p) s = .next t ∧ t.portSt p = ptTrain) ∧
    (s.fences.any (fun f => f.kind == 4 && f.unit == p.val) = true → exec (.portUnfence p) s = .next s) ∧
    (s.portSt p ≠ ptDisabled → ∃ t, exec (.disable p true) s = .next t ∧ t.portSt p = ptDisabled ∧ t.rd F.FAB_PCTL_DISABLE p = 1) ∧
    (s.portSt p = ptDisabled → ∃ t, exec (.disable p false) s = .next t ∧ t.rd F.FAB_PCTL_DISABLE p = 0 ∧
      t.portSt p = if s.fences.any (fun f => f.kind == 4 && f.unit == p.val) then ptFenced else ptNopeer) ∧
    (∀ v : BitVec 16, ∃ t, exec (.fabPasymWrite p v) s = .next t ∧ t.rd F.FAB_PASYM_PASYM p = v.toNat) ∧
    (∀ (f : Flit) (arrive depart : Stamp), s.linked p = true → f.ty = tyLmeas → f.crcOk = true →
      (f.field 1 1 % 2 = 0 → ∃ t, exec (.lmeas p f arrive depart) s = .next t ∧ t.out = s.out ++ [OutMsg.link p (Flit.link tyLmeas 0 false 0 0
        (toBytes 8 (f.field 0 1 + 256) ++ toBytes 8 arrive.toNat ++ toBytes 8 depart.toNat ++ toBytes 2 (s.rd F.FAB_PTRIM_DTRIM p)))]) ∧
      (∀ t1 rtt, f.field 1 1 % 2 = 1 → s.portSt p = ptLatency → (s.port p).t1 = some t1 → f.field 0 1 = (s.port p).idx → (s.port p).idx < 255 →
        rtt = (arrive - t1).toInt - (BitVec.ofNat 64 (f.field 16 8) - BitVec.ofNat 64 (f.field 8 8)).toInt →
        ∃ t, exec (.lmeas p f arrive depart) s = .next t ∧ (t.port p).idx = (s.port p).idx + 1 ∧ (t.port p).t1 = some depart ∧
        (t.port p).sum = (if (s.port p).idx = 0 then rtt else (s.port p).sum + rtt)))

/-- A good idle flit removes the acknowledged packets from its port's replay buffer; with NAK the rest are sent again. A packet for this device, next in SEQ and in PSEQ, is accepted once and waits for its command; a wrong CRC brings a NAK. Packets that have waited 2 ms are dropped. A PROBE is answered by the way back; the anchor's discovery takes a right REPLY as a device found and a wrong one as miswired; a rejoining device that answers as itself is present again, another fails. ASSIGN gives a member its number and place. START is refused while a discovery or a gang runs; FENCE declares a device lost; REJOIN probes it. -/
def Obligations.PacketsTravelAndDevicesAreFound : Prop :=
  ∀ (s : State),
    (∀ (p : PortId) (f : Flit), s.linked p = true → f.ty = tyIdle → f.crcOk = true → (s.port p).held = [] → ∀ rest,
      rest = (s.port p).replay.filter (fun g => !decide ((f.ack + 4096 - (g.seq + g.more) % 4096) % 4096 < 2048)) →
      (f.nak = false → ∃ t, exec (.idleFlit p f) s = .next t ∧ (t.port p).replay = rest ∧ t.out = s.out) ∧
      (f.nak = true → s.portSt p = ptUp → ∃ t, exec (.nak p f) s = .next t ∧ (t.port p).replay = rest ∧
        t.out = s.out ++ rest.map (fun g => OutMsg.flit p { g with ack := (s.port p).rxSeq }))) ∧
    (∀ (p : PortId) (f : Flit), s.linked p = true → 3 ≤ f.ty →
      (f.crcOk = true → (f.seq + 4096 - (s.port p).rxSeq) % 4096 = 1 → tyDisc < f.ty → f.ty < 13 → s.on F.GLB_ROLE_NUMV = true →
        f.dx = s.rd F.GLB_ROLE_POS_X → f.dy = s.rd F.GLB_ROLE_POS_Y → flitKnown f = true → ¬(f.ty = tyCtrl ∧ f.field 0 1 = 3) →
        (f.pseq + 65536 - s.fab.rxP.at 65535 f.src) % 65536 = 1 → ∃ t, exec (.routedFlit p f) s = .next t ∧
        (t.port p).rxSeq = (f.seq + f.more) % 4096 ∧ ∃ more, t.fab.inbox = s.fab.inbox ++ (p.val, f) :: more) ∧
      (f.crcOk = false → ∃ t, exec (.routedFlit p f) s = .next t ∧ t.fab.inbox = s.fab.inbox ∧
        t.out = s.out ++ [OutMsg.link p (Flit.link tyIdle (s.port p).rxSeq true 0 0 [])])) ∧
    (∀ p : PortId, s.portSt p = ptUp → ∃ t, exec (.packetDrop p) s = .next t ∧
      (t.port p).held = (s.port p).held.filter (fun e => !decide (ahead s.now (after e.2 (2 * tMs)) ≥ 0))) ∧
    (∀ p f u, s.takeIn (isDisc 1) = some (p, f, u) → exec .probe s = .next (u.sendDisc
      (p :: ((discRoute f).take ((discRoute f).length - 1)).reverse.map opposite)
      (toBytes 8 2 ++ toBytes 8 s.uid ++ toBytes 8 (p + 4 * s.rd F.GLB_ROLE_NUMV)))) ∧
    (∀ p f u b, s.takeIn (isDisc 2) = some (p, f, u) → s.anchor = true → s.fab.disc.cur = some b →
      (discRoute f).drop 1 = (b.route.take (b.route.length - 1)).reverse.map opposite →
      (b.rejoin = none → f.field 24 1 % 4 ≠ opposite b.port ∨ f.field 16 8 = b.node.uid → ∃ t, exec .reply s = .next t ∧
        t.rd F.FAB_DSTAT_RESULT = rsMiswired ∧ t.rd F.FAB_DSTAT_ERRPORT = b.port % 4 ∧ t.fab.disc.on = false) ∧
      (b.rejoin = none → f.field 24 1 % 4 = opposite b.port → f.field 16 8 ≠ b.node.uid → (∀ n ∈ s.fab.disc.found, n.uid ≠ f.field 16 8) →
        s.fab.disc.afterRst = false → ∃ t, exec .reply s = .next t ∧
        t.fab.disc.found = s.fab.disc.found ++ [Node.mk (f.field 16 8) (b.node.step b.port).1 (b.node.step b.port).2 b.route]) ∧
      (∀ dev m, b.rejoin = some dev → s.memberAt dev = some m →
        (f.field 16 8 = m.uid → ∃ t, exec .reply s = .next t ∧ t.rd F.FAB_DSTAT_RESULT = rsOk) ∧
        (f.field 16 8 ≠ m.uid → ∃ t, exec .reply s = .next t ∧ t.rd F.FAB_DSTAT_RESULT = rsRejoinFail))) ∧
    (∀ p f u v, s.takeIn (isDisc 3) = some (p, f, u) → s.anchor = false → v = f.field 16 4 → ∃ t, exec .assign s = .next t ∧
      t.rd F.GLB_ROLE_DEVNUM = bits v 5 0 ∧ t.rd F.GLB_ROLE_POS_X = bits v 8 6 ∧ t.rd F.GLB_ROLE_POS_Y = bits v 11 9 ∧
      t.rd F.GLB_ROLE_NUMV = 1 ∧ t.rd F.GLB_ROLE_DEVCOUNT = (bits v 14 12 + 1) * (bits v 17 15 + 1) ∧ t.fab.w = bits v 14 12 + 1 ∧
      t.fab.h = bits v 17 15 + 1 ∧ t.fab.ax = bits v 20 18 ∧ t.fab.ay = bits v 23 21) ∧
    (s.anchor = true →
      (s.fab.disc.on = true ∨ s.anyRuns = true → ∃ t, exec .start s = .next t ∧ t.rd F.FAB_DSTAT_RESULT = rsBusy ∧ t.fab = s.fab) ∧
      (s.fab.disc.on = false → s.anyRuns = false → ∃ t, exec .start s = .next t ∧ t.fab.disc.started = s.now ∧ t.fab.disc.afterRst = false) ∧
      (s.linksOn = true → s.fab.disc.on = false → s.fab.disc.due = true → s.portsSettled = true → ∃ t, exec .discovery s = .next t ∧
        t.fab.disc.due = false ∧ t.fab.disc.started = s.now ∧ t.fab.disc.afterRst = true) ∧
      (∀ b, s.linksOn = true → s.fab.disc.on = true → s.fab.disc.cur = some b → 0 ≤ ahead s.now (after b.sentT (10 * tUs)) → b.rejoin.isSome = true →
        ∃ t, exec .discovery s = .next t ∧ t.fab.disc.on = false ∧ t.rd F.FAB_DSTAT_RESULT = rsRejoinFail) ∧
      (∀ d : Fin 64, d ≠ 0 → s.fab.disc.on = false → ∀ m, s.memberAt d = some m →
        (s.present d = true → ∃ t, exec (.fabFence d) s = .next t ∧ t.present d = false ∧ d.val ∈ t.fab.lostDue ∧
          t.faultq = s.faultq ++ [FaultIn.mk 45 d 0 false s.now]) ∧
        (∃ t, exec (.rejoin d) s = .next t ∧ t.rd F.FAB_DSTAT_RESULT = rsRunning ∧ t.fab.disc.on = true ∧
          ∃ b, t.fab.disc.cur = some b ∧ b.rejoin = some d.val ∧ b.node.route = m.route)))

/-- A member carries out a relayed read or write as a local access (an unaligned read is not supported), and a relayed doorbell; the anchor answers the host's read with the member's value, or with all ones after 16 us, with its fault. It sends a member's interrupt, reads and writes host memory for it, and returns the data, or a status after 50 us. The host's answer to the anchor's own read is the descriptor fetched, or the next bytes of a transfer; a member takes its parts the same way. -/
def Obligations.RelayedTrafficIsServed : Prop :=
  ∀ (s : State),
    (∀ p f u, s.takeIn (isTy tyRegRd) = some (p, f, u) → s.anchor = false →
      (f.field 0 4 % 2 ^ 21 % 4 = 0 → exec .regRd s = .next (u.access (.fabric (f.field 3 1)) false (f.field 0 4 % 2 ^ 21) 0)) ∧
      (f.field 0 4 % 2 ^ 21 % 4 ≠ 0 → exec .regRd s = .next (u.sendTo 0 tyRegCpl 1 (toBytes 4 (f.field 3 1 * 2 ^ 24 + 2) ++ toBytes 4 0xFFFFFFFF) []))) ∧
    (∀ p f u, s.takeIn (isTy tyRegWr) = some (p, f, u) → s.anchor = false → f.field 0 4 % 2 ^ 21 % 4 = 0 →
      exec .regWr s = .next (u.access (.fabric (f.field 3 1)) true (f.field 0 4 % 2 ^ 21) (f.field 4 4))) ∧
    (∀ p f u, s.takeIn (isTy tyRegCpl) = some (p, f, u) → s.anchor = true → s.fab.relays.any (fun r => r.dev == f.src && r.tag == f.field 3 1) = true →
      (∀ e ∈ s.fab.waiting, e.1 ≠ f.src) → ∃ t, exec .regCpl s = .next t ∧
      t.out = s.out ++ [OutMsg.value (if f.field 0 1 % 4 = 0 then f.field 4 4 else 0xFFFFFFFF)] ∧
      t.fab.relays = s.fab.relays.filter (fun r => !(r.dev == f.src && r.tag == f.field 3 1))) ∧
    (∀ (d : Fin 64) (tag : BitVec 8) r, s.fab.relays.find? (fun r => r.dev == d.val && r.tag == tag.toNat) = some r →
      0 ≤ ahead s.now (after r.sentT (16 * tUs)) → (∀ e ∈ s.fab.waiting, e.1 ≠ d.val) → ∃ t, exec (.relayedReadTimeout d tag) s = .next t ∧
      t.out = s.out ++ [OutMsg.value 0xFFFFFFFF] ∧ t.faultq = s.faultq ++ [FaultIn.mk 44 d 0 false s.now] ∧
      t.fab.relays = s.fab.relays.filter (fun r => !(r.dev == d.val && r.tag == tag.toNat))) ∧
    (∀ p f u, s.takeIn (isTy tyDoorbell) = some (p, f, u) → s.anchor = false → exec .doorbell s = .next (u.ring (f.field 0 2 % 4096) (f.field 4 4))) ∧
    (∀ p f u, s.takeIn (isTy tyIrq) = some (p, f, u) → s.anchor = true → s.present f.src = true → exec .irq s = .next (u.msix (f.field 0 1))) ∧
    (∀ p f u, s.takeIn (isTy tyDmaRd) = some (p, f, u) → s.anchor = true → s.hostOpen = true → s.present f.src = true →
      ∃ t, exec .dmaRd s = .next t ∧ t.out = s.out ++ [OutMsg.read (f.field 0 8) (f.field 8 2 % 8192) (.relay f.src (f.field 12 1))] ∧
      t.fab.dma = s.fab.dma ++ [DmaRd.mk f.src (f.field 12 1) f.tc (f.field 8 2 % 8192) [] s.now]) ∧
    (∀ p f u, s.takeIn (isTy tyDmaWr) = some (p, f, u) → s.anchor = true → s.hostOpen = true → s.present f.src = true →
      ∃ t, exec .dmaWr s = .next t ∧ t.out = s.out ++ [OutMsg.write (f.field 0 8) ((f.bytes.drop 64).take (f.field 8 2 % 1024))]) ∧
    (∀ p f u e, s.takeIn (isTy tyDmaCpl) = some (p, f, u) → s.anchor = false → s.fab.tags.find? (fun e => e.tag == f.field 12 1) = some e →
      (f.field 14 1 % 4 = 0 → e.got.length + ((f.bytes.drop 64).take (f.field 8 2 % 1024)).length < e.len → ∃ t, exec .dmaCpl s = .next t ∧
        t.fab.tags = s.fab.tags.filter (fun e => e.tag != f.field 12 1) ++ [{ e with got := e.got ++ (f.bytes.drop 64).take (f.field 8 2 % 1024) }] ∧
        t.qps = s.qps) ∧
      (f.field 14 1 % 4 = 0 → e.len ≤ e.got.length + ((f.bytes.drop 64).take (f.field 8 2 % 1024)).length → exec .dmaCpl s =
        .next (({ u with fab := { u.fab with tags := s.fab.tags.filter (fun e => e.tag != f.field 12 1) } } : State).hostData e.target
          (some (e.got ++ (f.bytes.drop 64).take (f.field 8 2 % 1024)))))) ∧
    (∀ (d : Fin 64) (tag : BitVec 8) r, s.fab.dma.find? (fun r => r.dev == d.val && r.tag == tag.toNat) = some r →
      0 ≤ ahead s.now (after r.sentT (50 * tUs)) → ∃ t, exec (.dmaTimeout d tag) s = .next t ∧
      t.fab.dma = s.fab.dma.filter (fun e => !(e.dev == d.val && e.tag == tag.toNat))) ∧
    (∀ (q : QpId) (l : List Byte), s.anchor = true → s.safe = false →
      ((s.qp q).fetching = true → l.length = 64 → ∃ t, exec (.pcieCompletion (.sq q) (some l)) s = .next t ∧ (t.qp q).fetching = false ∧
        (t.qp q).next = (s.qp q).next + 1 ∧ t.rd F.QP_HEAD_SQ_HEAD q = (s.rd F.QP_HEAD_SQ_HEAD q + 1) % s.sqSize q) ∧
      ((s.qp q).fetching = true → ∃ t, exec (.pcieCompletion (.sq q) none) s = .next t ∧ (t.qp q).fetching = false ∧ t.regs = s.regs) ∧
      (∀ cid d, (s.qp q).fetched.find? (fun d => d.cid == cid && decide (0 < d.reading)) = some d → l.length = d.reading →
        ∀ k, k = (if d.opc = 8 then d.moved else d.moved + l.length) → exec (.pcieCompletion (.data q cid) (some l)) s =
          .next (s.putDesc q { d with data := d.data ++ l.map BitVec.toNat, moved := k, reading := 0 })) ∧
      (∀ dev tag r, s.fab.dma.find? (fun r => r.dev == dev && r.tag == tag) = some r → ∃ t, exec (.pcieCompletion (.relay dev tag) (some l)) s = .next t ∧
        t.fab.dma = s.fab.dma.filter (fun e => !(e.dev == dev && e.tag == tag))))

/-- A heartbeat ends a member's isolation; an answer clears the count of its member; the anchor sends one each period and counts the unanswered. FABRIC_RST ends isolation and asserts its reset source; MASTER names the timing master; SLEEP is noted; WAKE asks for a wake. A gap in PSEQ of 20 us makes the anchor declare the device lost, and a member go on with SEQGAP and a fault. A member that has missed LOSTN heartbeats is lost, and its rings are told. A member that hears nothing for LOSTN periods is isolated; after ISOTMO its sites become husks. -/
def Obligations.MembersAreWatched : Prop :=
  ∀ (s : State),
    (∀ p f u, s.takeIn (isCtrl 1) = some (p, f, u) → s.anchor = false → ∃ t, exec .heartbeat s = .next t ∧ t.fab.isoT = s.now ∧
      t.on F.FAB_STAT_ISOLATED = false) ∧
    (∀ p f u m, s.takeIn (isCtrl 2) = some (p, f, u) → s.anchor = true → s.memberAt f.src = some m → ∃ t, exec .hbReply s = .next t ∧
      t.memberAt f.src = some { m with missed := 0, asked := false }) ∧
    (s.anchor = true → s.linksOn = true → 0 ≤ ahead s.now (after s.fab.hbT s.hbPeriod) → ∃ t, exec .heartbeatSend s = .next t ∧ t.fab.hbT = s.now ∧
      t.fab.hbN = (s.fab.hbN + 1) % 2 ^ 64 ∧ ∀ d m, 0 < d → d < 64 → s.present d = true → s.memberAt d = some m →
      t.memberAt d = some { m with missed := (if m.asked then m.missed + 1 else m.missed), asked := true }) ∧
    (∀ p f u, s.takeIn (isCtrl 3) = some (p, f, u) → s.anchor = false → exec .fabricRst s = .next (u.notIsolated.assertSrc 3)) ∧
    (∀ p f u, s.takeIn (isCtrl 4) = some (p, f, u) → s.anchor = false → ∃ t, exec .master s = .next t ∧ t.rd F.WT_STAT_MASTER = f.field 4 1 % 64) ∧
    (∀ p f u, s.takeIn (isCtrl 5) = some (p, f, u) → s.anchor = false → ∃ t, exec .sleep s = .next t ∧ t.fab.sleep = true) ∧
    (∀ p f u, s.takeIn (isCtrl 6) = some (p, f, u) → 1 ≤ s.power → ∃ t, exec .wake s = .next t ∧ hasBit t.wakeAsk 6 = true) ∧
    (∀ (d : Fin 64) t0, Store.get (fun _ => none) s.fab.gapT d.val = some t0 → 0 ≤ ahead s.now (after t0 (20 * tUs)) →
      (s.anchor = true → d ≠ 0 → s.present d = true → ∃ t, exec (.pseqGap d) s = .next t ∧ t.present d = false) ∧
      (s.anchor = false → ∃ t, exec (.pseqGap d) s = .next t ∧ t.rd F.FAB_STAT_SEQGAP = 1 ∧ Store.get (fun _ => none) t.fab.gapT d.val = none ∧
        t.faultq = s.faultq ++ [FaultIn.mk 46 d 0 false s.now])) ∧
    (∀ (d : Fin 64) rings m, s.anchor = true → s.memberAt d = some m → s.lostN ≤ m.missed → d ≠ 0 → s.present d = true →
      ∃ t, exec (.memberLost d rings) s = .next t ∧ t.present d = false ∧
      (s.hostOpen = true → d.val ∉ t.fab.lostDue ∧ ∀ r ∈ rings, s.lostEntry d r ∈ t.out)) ∧
    (s.anchor = false → s.linksOn = true → s.on F.FAB_STAT_ISOLATED = false → 0 ≤ ahead s.now (after s.fab.isoT (s.lostN * s.hbPeriod)) →
      ∃ t, exec .isolated s = .next t ∧ t.on F.FAB_STAT_ISOLATED = true ∧ t.fab.isoT = s.now ∧
      t.faultq = s.faultq ++ [FaultIn.mk 47 s.dev 0 false s.now]) ∧
    (s.on F.FAB_STAT_ISOLATED = true → s.rd F.FAB_CFG_ISOTMO ≠ 0 → 0 ≤ ahead s.now (after s.fab.isoT (s.rd F.FAB_CFG_ISOTMO * tMs)) →
      ∃ t, exec .isotmo s = .next t ∧ ∀ n ∈ s.sitesDefined, t.on F.SITE_FSTAT_FAULT n = true ∧ t.on F.SITE_FSTAT_HUSK n = true)

/-- A wake that has run its time ends in its state. A target nearer to ACTIVE than the state is entered, ACTIVE after the state's wake time; a deeper state is entered when its dwell has passed; before DEEP a watermark with the present tick is written, and DEEP waits until it has left for the host's rings. The causes of a wake go to PWR_WAKE.CAUSE and the wake begins. WAKE_N low for 100 crystal cycles asks for a wake where it is enabled. The estimate goes to EST, PEAK keeps the largest, and an estimate above the budget while a gang runs sets OVER. -/
def Obligations.PowerStatesAndWakes : Prop :=
  ∀ (s : State),
    (∀ (deep : Bool),
      (∀ (w : Stamp) (st : Nat), s.wake = some (w, st) → st < 8 → reached w s.now = true →
        ∃ t, exec (.powerStateChange deep) s = .next t ∧ t.power = st ∧ t.wake = none) ∧
      (∀ w : Stamp × Nat, s.wake = some w → reached w.1 s.now = false → exec (.powerStateChange deep) s = .next s) ∧
      (s.wake = none → s.powTarget < s.power → s.powTarget = 0 → ∃ t, exec (.powerStateChange deep) s = .next t ∧
        t.wake = some (after s.now (wakeTicks s.power), 0) ∧ t.regs = s.regs) ∧
      (s.wake = none → s.powTarget < s.power → s.powTarget ≠ 0 → ∃ t, exec (.powerStateChange deep) s = .next t ∧ t.power = s.powTarget) ∧
      (s.wake = none → s.power ≤ s.powTarget → s.dueState = s.power → exec (.powerStateChange deep) s = .next s) ∧
      (s.wake = none → s.power ≤ s.powTarget → s.dueState ≠ s.power → s.dueState ≠ 4 →
        ∃ t, exec (.powerStateChange deep) s = .next t ∧ t.power = s.dueState) ∧
      (s.wake = none → s.power ≤ s.powTarget → s.dueState ≠ s.power → s.dueState = 4 →
        (s.deepMark = true → ∃ t, exec (.powerStateChange deep) s = .next t ∧ t.power = s.power ∧ t.pwr.deepW = some s.now ∧
          join (t.rd F.WT_WM_LAST_LO_LAST_LO) (t.rd F.WT_WM_LAST_HI_LAST_HI) = s.now.toNat) ∧
        (s.deepMark = false → s.hostOpen = true → s.evq.any (fun r => r.kind == 2) = true → exec (.powerStateChange deep) s = .next s) ∧
        (s.deepMark = false → s.hostOpen = false ∨ s.evq.any (fun r => r.kind == 2) = false →
          ∃ t, exec (.powerStateChange deep) s = .next t ∧ t.power = 4))) ∧
    (s.power ≠ 0 → s.timedWake = false →
      (s.wakeAsk = 0 → exec .wakeRequest s = .next s) ∧
      (s.wakeAsk ≠ 0 → ∃ t, exec .wakeRequest s = .next t ∧ t.wakeAsk = 0 ∧
        t.rd F.PWR_WAKE_CAUSE = Nat.lor (s.rd F.PWR_WAKE_CAUSE) s.wakeAsk % 2 ^ 8 ∧
        t.wake = (match s.wake with | some w => some w | none => some (after s.now (wakeTicks s.power), 0)))) ∧
    (s.power ≠ 0 → s.timedWake = true → ∃ t, exec .wakeRequest s = .next t ∧ t.wakeAsk = 0 ∧ t.wake.isSome = true ∧
      hasBit (t.rd F.PWR_WAKE_CAUSE) 2 = true) ∧
    (s.power = 0 → exec .wakeRequest s = .next s) ∧
    (∀ crystals : Nat,
      (100 ≤ crystals → s.on F.PWR_CTL_WAKEN_EN = true → 1 ≤ s.power → ∃ t, exec (.wakeN crystals) s = .next t ∧
        t.wakeAsk = withBit s.wakeAsk 5 ∧ t.regs = s.regs) ∧
      (crystals < 100 ∨ s.on F.PWR_CTL_WAKEN_EN = false → exec (.wakeN crystals) s = .next s)) ∧
    (∀ est : BitVec 16, s.rd F.PWR_EST_PEAK < 2 ^ 16 → ∃ t, exec (.powerEstimate est) s = .next t ∧ t.rd F.PWR_EST_EST = est.toNat ∧
      t.rd F.PWR_EST_PEAK = max est.toNat (s.rd F.PWR_EST_PEAK) ∧
      (s.rd F.PWR_BUDGET_BUDGET < est.toNat → s.anyRuns = true → t.on F.PWR_GSTAT_OVER = true) ∧
      (est.toNat ≤ s.rd F.PWR_BUDGET_BUDGET ∨ s.anyRuns = false → t.rd F.PWR_GSTAT_OVER = s.rd F.PWR_GSTAT_OVER ∧ t.evq = s.evq))

/-- A reading goes to THM_T; an open or short diode, or a reading out of range, fails its sensor, as does one off the median for 1 ms; a good reading is valid, and at the shutdown threshold shuts the device down. A failed sensor that has passed for 100 ms is valid again. A domain that has been cool for 10 ms falls by one level where no higher one is due. SHUT_CLEAR ends a shutdown where every valid sensor is 15 degrees below the threshold and does nothing otherwise. RELEASE removes HELD and FLOOR of each domain whose sensors are valid, and of no other. -/
def Obligations.TemperaturesLevelsAndShutdown : Prop :=
  ∀ (s : State),
    (∀ (k : Fin 5) (temp : BitVec 16) (broken : Bool), ∃ t, exec (.sensorReading k temp broken) s = .next t ∧ t.rd F.THM_T_TEMP k = temp.toNat ∧
      (broken = true ∨ temp.toInt < -320 ∨ 1200 < temp.toInt → hasBit (s.rd F.THM_STAT_FAILED) k = false →
        t.tempOk k = false ∧ hasBit (t.rd F.THM_STAT_FAILED) k = true) ∧
      (∀ o, (s.sensors.at {} k.val).offT = some o → broken = false → s.offMedian k temp.toInt = true → 0 ≤ ahead s.now (after o tMs) →
        hasBit (s.rd F.THM_STAT_FAILED) k = false → -320 ≤ temp.toInt → temp.toInt ≤ 1200 →
        t.tempOk k = false ∧ hasBit (t.rd F.THM_STAT_FAILED) k = true) ∧
      (broken = false → -320 ≤ temp.toInt → temp.toInt ≤ 1200 → s.offMedian k temp.toInt = false → hasBit (s.rd F.THM_STAT_FAILED) k = false →
        t.tempOk k = true ∧ t.rd F.THM_STAT_FAILED = s.rd F.THM_STAT_FAILED ∧
        (8 * (s.shutAt : Int) ≤ temp.toInt → t.on F.THM_STAT_SHUT = true))) ∧
    (∀ (k : Fin 5) (o : Stamp), (s.sensors.at {} k.val).okT = some o → hasBit (s.rd F.THM_STAT_FAILED) k = true → 0 ≤ ahead s.now (after o 150000000) →
      ∃ t, exec (.sensorRecover k) s = .next t ∧ t.tempOk k = true ∧ hasBit (t.rd F.THM_STAT_FAILED) k = false) ∧
    (∀ (k : Fin 5), (s.sensors.at {} k.val).okT = none → exec (.sensorRecover k) s = .next s) ∧
    (∀ (d : DieId) (c : Stamp), (s.doms.at {} d.val).coolT = some c → 0 ≤ ahead s.now (after c 15000000) → s.domCool d = true →
      s.rd F.THM_DOM_LEVEL d < 4 → (s.dueLevel d).1 ≤ s.rd F.THM_DOM_LEVEL d - 1 →
      ∃ t, exec (.levelLower d) s = .next t ∧ t.rd F.THM_DOM_LEVEL d = s.rd F.THM_DOM_LEVEL d - 1) ∧
    (∀ (d : DieId), (s.doms.at {} d.val).coolT = none ∨ s.domCool d = false → exec (.levelLower d) s = .next s) ∧
    (s.on F.THM_STAT_SHUT = true → (∀ k ∈ s.validSensors, s.temp k ≤ 8 * (s.shutAt : Int) - 120) →
      ∃ t, exec .shutClear s = .next t ∧ t.rd F.THM_STAT_SHUT = 0 ∧ t.live = s.live.filter (fun e => e.1 != 25)) ∧
    (s.on F.THM_STAT_SHUT = false ∨ (∃ k ∈ s.validSensors, 8 * (s.shutAt : Int) - 120 < s.temp k) → exec .shutClear s = .next s) ∧
    (∃ t, exec .release s = .next t ∧ ∀ d : DieId, s.on F.THM_DOM_HELD d = true →
      (s.tempOk 0 = true → s.tempOk (1 + d) = true → t.rd F.THM_DOM_HELD d = 0 ∧ t.rd F.THM_DOM_FLOOR d = 0) ∧
      (s.tempOk 0 = false ∨ s.tempOk (1 + d) = false → t.on F.THM_DOM_HELD d = true ∧ t.rd F.THM_DOM_FLOOR d = s.rd F.THM_DOM_FLOOR d))

/-- A fault sets its pending bit; unless ignored it fills FLT_FIRST, then FLT_SECOND, and its reaction acts; before the collector runs a live cause is kept to be found again. A forced fault waits unless forcing is locked or its unit is no valid one. FLT_SRC takes a legal severity and reaction, and CFGBAD tells of another. A pending bit clears with its fences unless its cause holds. A failed sweep enters the safe state with cause 2; a second one there, or an unconfirmed die, asserts reset source 5. ENTER makes every site a husk; EXIT leaves where nothing holds it, else EXITBAD. -/
def Obligations.FaultsAreRecordedAndReactedTo : Prop :=
  ∀ (s : State),
    (∀ (e : FaultEvent), e.src.val ≠ 1 → e.src.val ≠ 13 → e.src.val ≠ 14 → s.canReport e = true → s.collectorRuns = true → s.faultq = [] →
      ∃ t, exec (.faultDetected [e]) s = .next t ∧ hasBit (t.rd F.FLT_PEND_PEND (e.src / 32)) (e.src % 32) = true ∧
      (s.rd F.FLT_SRC_REACT e.src = 0 → t.evq = s.evq ∧ t.fences = s.fences ∧ t.rd F.FLT_STAT_FIRSTV = s.rd F.FLT_STAT_FIRSTV) ∧
      (s.rd F.FLT_SRC_REACT e.src = 6 → t.safe = true) ∧
      (∀ f ws, f = FaultIn.mk e.src e.unit (reportDetail e) false s.now →
        ws = faultWords f (s.rd F.FLT_SRC_SEV e.src) (s.rd F.FLT_SRC_REACT e.src) (s.seqs.at 0 (4096 + e.src.val)) → s.rd F.FLT_SRC_REACT e.src ≠ 0 →
        (s.on F.FLT_STAT_FIRSTV = false → t.on F.FLT_STAT_FIRSTV = true ∧
          ∀ w : Fin 8, t.rd F.FLT_FIRST_REC w = ws.getD w 0 % 2 ^ 32) ∧
        (s.on F.FLT_STAT_FIRSTV = true → s.on F.FLT_STAT_SECONDV = false → t.on F.FLT_STAT_SECONDV = true ∧
          ∀ w : Fin 8, t.rd F.FLT_SECOND_REC w = ws.getD w 0 % 2 ^ 32 ∧ t.rd F.FLT_FIRST_REC w = s.rd F.FLT_FIRST_REC w))) ∧
    (∀ (e : FaultEvent), s.canReport e = true → s.collectorRuns = false → ∃ t, exec (.faultDetected [e]) s = .next t ∧ t.faultq = s.faultq ∧
      (liveSource e.src = true → s.live.any (fun l => l.1 == e.src.val && l.2.1 == e.unit) = false →
        t.live = s.live ++ [(e.src.val, e.unit, reportDetail e)] ∧ t.rst.redetect = s.rst.redetect ++ [(e.src.val, e.unit, reportDetail e)])) ∧
    (∀ src : SrcId,
      (s.on F.FLT_CTL_FLOCK = true → exec (.force src) s = .next s) ∧
      (s.on F.FLT_CTL_FLOCK = false → (faultFactory src).isSome = true →
        (validUnit src (s.rd F.FLT_CTL_FUNIT) = false → ∃ t, exec (.force src) s = .next t ∧ t.rd F.FLT_STAT_CFGBAD = 1 ∧ t.faultq = s.faultq) ∧
        (validUnit src (s.rd F.FLT_CTL_FUNIT) = true → ∃ t, exec (.force src) s = .next t ∧ t.regs = s.regs ∧
          t.faultq = s.faultq ++ [FaultIn.mk src (if sourceKind src = 0 then 0 else s.rd F.FLT_CTL_FUNIT) 0 true s.now])) ∧
      (∀ value : BitVec 32, src.val ≠ 0 → (faultFactory src).isSome = true → hasBit value.toNat 31 = false →
        (reactionOk (sourceKind src) (bits value.toNat 6 4) = true → (bits value.toNat 6 4 = 6 ↔ bits value.toNat 1 0 = 3) →
          ∃ t, exec (.fltSrcWrite src value) s = .next t ∧ t.rd F.FLT_SRC_REACT src = bits value.toNat 6 4 ∧
          t.rd F.FLT_SRC_SEV src = bits value.toNat 1 0 ∧ t.faultq = s.faultq) ∧
        (reactionOk (sourceKind src) (bits value.toNat 6 4) = false ∨ ¬(bits value.toNat 6 4 = 6 ↔ bits value.toNat 1 0 = 3) →
          ∃ t, exec (.fltSrcWrite src value) s = .next t ∧ t.rd F.FLT_STAT_CFGBAD = 1 ∧ t.rd F.FLT_SRC_REACT src = s.rd F.FLT_SRC_REACT src ∧
          t.rd F.FLT_SRC_SEV src = s.rd F.FLT_SRC_SEV src))) ∧
    (∀ (word : Fin 12) (value : BitVec 32), ∃ t, exec (.fltPendClear word value) s = .next t ∧ ∀ b : Fin 32,
      (hasBit value.toNat b = true → hasBit (s.rd F.FLT_CAUSE_CAUSE word) b = false → hasBit (t.rd F.FLT_PEND_PEND word) b = false ∧
        ∀ f ∈ t.fences, f.src ≠ 32 * word.val + b.val) ∧
      (hasBit value.toNat b = true → hasBit (s.rd F.FLT_CAUSE_CAUSE word) b = true → t.rd F.FLT_STAT_CLRBAD = 1) ∧
      (hasBit value.toNat b = false ∨ hasBit (s.rd F.FLT_CAUSE_CAUSE word) b = true →
        hasBit (t.rd F.FLT_PEND_PEND word) b = hasBit (s.rd F.FLT_PEND_PEND word) b)) ∧
    (∃ t, exec (.collectorSweep none) s = .next t ∧ t.safeX.sweepOk = true ∧ t.regs = s.regs) ∧
    (∀ d : BitVec 32,
      (s.safe = true → s.safeX.byCollector = true → ∃ t, exec (.collectorSweep (some d)) s = .next t ∧ hasBit t.rst.on 5 = true ∧
        t.rd F.RST_STAT_ASSERT = 1) ∧
      (s.safe = false → ∃ t, exec (.collectorSweep (some d)) s = .next t ∧ t.safe = true ∧ t.rd F.FLT_SAFE_CAUSE = 2 ∧
        t.safeX.byCollector = true ∧ t.safeX.sweepOk = false ∧ t.on F.FLT_STAT_SELF = true ∧ t.on F.FLT_STAT_FIRSTV = true ∧
        t.rd F.FLT_FIRST_REC 1 = d.toNat)) ∧
    (s.safe = true → exec .enter s = .next s) ∧
    (s.safe = false → ∃ t, exec .enter s = .next t ∧ t.safe = true ∧ t.rd F.FLT_SAFE_CAUSE = 4 ∧ t.safeX.since = s.now ∧
      ∀ n ∈ s.sitesDefined, t.on F.SITE_FSTAT_FAULT n = true) ∧
    (s.mayExit = true → ∃ t, exec .exit s = .next t ∧ t.safe = false ∧ t.rd F.FLT_STAT_SAFE = 0) ∧
    (s.mayExit = false → ∃ t, exec .exit s = .next t ∧ t.rd F.FLT_STAT_EXITBAD = 1 ∧ t.safe = s.safe) ∧
    (∀ unconfirmed : Bool,
      (s.safe = true → unconfirmed = true ∨ s.rd F.FLT_SAFE_ESCTMO ≠ 0 ∧ 0 ≤ ahead s.now (after s.safeX.since (s.rd F.FLT_SAFE_ESCTMO * tMs)) →
        ∃ t, exec (.safeEsc unconfirmed) s = .next t ∧ hasBit t.rst.on 5 = true ∧ t.rd F.RST_STAT_ASSERT = 1) ∧
      (s.safe = false ∨ unconfirmed = false ∧ s.rd F.FLT_SAFE_ESCTMO = 0 → exec (.safeEsc unconfirmed) s = .next s))

/-- Once the collector runs, the causes kept at a reset that still hold are detected again, those of a pin die once it has left reset. A cause that ends leaves FLT_CAUSE. A failed die link that trains again sets its PD_OK bit. A supply of the engine die out of range raises ED_SUPPLY, VDD_AON asserts POR, and one of a pin die puts its pins at high impedance, trips its rails and mutes its outputs; back in range, its cause ends and a pin die held in reset for it is released. -/
def Obligations.LiveCausesAndSuppliesComeAndGo : Prop :=
  ∀ (s : State),
    (s.collectorRuns = false → exec .liveCauseRedetect s = .next s) ∧
    (∀ (e : Nat × Nat × Nat), s.collectorRuns = true → s.rst.redetect = [e] → e.1 < 128 ∨ hasBit s.rst.dies ((e.1 - 128) / 64) = true →
      ∃ t, exec .liveCauseRedetect s = .next t ∧ t.rst.redetect = [] ∧
      (s.live.contains e = true → t.faultq = s.faultq ++ [FaultIn.mk e.1 e.2.1 e.2.2 false s.now]) ∧
      (s.live.contains e = false → t.faultq = s.faultq)) ∧
    (∀ (e : Nat × Nat × Nat), s.collectorRuns = true → s.rst.redetect = [e] → 128 ≤ e.1 → hasBit s.rst.dies ((e.1 - 128) / 64) = false →
      ∃ t, exec .liveCauseRedetect s = .next t ∧ t.rst.redetect = [e] ∧ t.faultq = s.faultq) ∧
    (∀ src : SrcId,
      (outerCause src = false ∨ s.live.any (fun e => e.1 == src.val) = false → exec (.liveCauseEnd src) s = .next s) ∧
      (outerCause src = true → s.live.any (fun e => e.1 == src.val) = true → (128 ≤ src.val → s.starved ((src - 128) / 64) = false) →
        s.badSup.any (fun e => decide (e.1 ≤ 5)) = false → ∃ t, exec (.liveCauseEnd src) s = .next t ∧
        t.live = s.live.filter (fun e => e.1 != src.val) ∧ hasBit (t.rd F.FLT_CAUSE_CAUSE (src / 32)) (src % 32) = false ∧
        (src.val = 1 → s.rd F.RST_STAT_STAGE ≠ 0 → s.power ≤ 1 → s.on F.THM_STAT_SHUT = false → t.on F.GLB_UNITS_ECLK_LOCK = true))) ∧
    (∀ die : DieId,
      (s.dieOk die = false → hasBit s.rst.dies die = true → s.power ≠ 4 → s.on F.THM_STAT_SHUT = false →
        s.live.any (fun e => e.1 == 128 + 64 * die.val) = true → ∃ t, exec (.dieLinkRetrain die) s = .next t ∧ t.dieOk die = true ∧
        t.live = s.live.filter (fun e => e.1 != 128 + 64 * die.val)) ∧
      (s.dieOk die = true ∨ s.power = 4 → exec (.dieLinkRetrain die) s = .next s)) ∧
    (∀ (supply : Supply) (die : DieId) i key, i = supplyIx supply → key = (i, if 6 ≤ i ∧ i ≤ 9 then die.val else 4) →
      (s.badSup.contains key = true → exec (.supplyOutOfRange supply die) s = .next s) ∧
      (s.badSup.contains key = false → ∃ t, exec (.supplyOutOfRange supply die) s = .next t ∧ t.badSup = s.badSup ++ [key] ∧
        (i < 5 → t.faultq = s.faultq ++ [FaultIn.mk 3 0 i false s.now]) ∧
        (i = 5 → hasBit t.rst.on 0 = true ∧ t.rd F.RST_STAT_ASSERT = 1) ∧
        (i = 10 → t.regs = s.regs ∧ t.faultq = s.faultq) ∧
        (6 ≤ i → i ≤ 9 → (∀ j : Fin 256, (t.pin (256 * die.val + j.val)).drvNow = 0) ∧
          (∀ j : Fin 32, t.railSt (32 * die.val + j.val) = if s.railSt (32 * die.val + j.val) = rlOff then rlOff else rlTripped) ∧
          (∀ j : Fin 8, t.on F.AWG_STAT_MUTED (8 * die.val + j.val) = true) ∧
          (hasBit s.rst.dies die = true → t.faultq = s.faultq ++ [FaultIn.mk (128 + 64 * die.val + 4) die (supplyDetail i) false s.now]))) ∧
      (s.badSup.contains key = false → exec (.supplyInRange supply die) s = .next s) ∧
      (s.badSup.contains key = true → ∃ t, exec (.supplyInRange supply die) s = .next t ∧ t.badSup = s.badSup.erase key ∧
        (i ≤ 5 → (s.badSup.erase key).any (fun e => decide (e.1 ≤ 5)) = false → t.live = s.live.filter (fun e => e.1 != 3)) ∧
        (6 ≤ i → i ≤ 9 → (s.badSup.erase key).any (fun e => e.2 == die.val) = false →
          t.live.any (fun e => e.1 == 128 + 64 * die.val + 4) = false ∧
          (hasBit s.rst.dies die = false → die.val < s.rst.dieN → 4 ≤ s.rd F.RST_STAT_STAGE → s.rd F.RST_STAT_STAGE ≠ 15 →
            hasBit t.rst.dies die = true))))

/-- A reset source that asserts is noted and brings the reset to its level: POR to L0, the others to the level of the reset map. A reset that acts empties engines, runs and queues; L0 starts wafer time at 0, L1 leaves stage ENGINE, HQ_GEN counts it. Pins act after ten equal samples. While an NV record waits or a pulse runs, every reset but POR is deferred; the pulse of each record is followed by the next, and the deferred reset then acts. The steward's watchdog warns after 50 ms and asserts its source 50 ms later, or at once on an exception. -/
def Obligations.ResetSourcesAssertAndLevelsAct : Prop :=
  ∀ (s : State),
    (hasBit s.rst.on 0 = false → ∃ t, exec (.por true) s = .next t ∧ hasBit t.rst.on 0 = true ∧ t.rd F.RST_STAT_ASSERT = 1 ∧ t.rst.level = 0 ∧
      (s.rst.seen = 0 → t.now = 0 ∧ t.gangs = [] ∧ t.qps = [] ∧ t.rd F.HQ_GEN_GEN = 1)) ∧
    (hasBit s.rst.on 0 = true → exec (.por true) s = .next s) ∧
    (∃ t, exec (.por false) s = .next t ∧ t.rst.on = withoutBit s.rst.on 0 ∧ t.rd F.RST_STAT_ASSERT = (if t.rst.on = 0 then 0 else 1)) ∧
    (∀ (low : Bool) (samples : Nat),
      (samples < 10 → exec (.resetN low samples) s = .next s ∧ exec (.perstN low samples) s = .next s) ∧
      (10 ≤ samples → low = false → ∃ t, exec (.resetN low samples) s = .next t ∧ t.rst.on = withoutBit s.rst.on 1 ∧
        t.rd F.RST_STAT_ASSERT = if t.rst.on = 0 then 0 else 1) ∧
      (10 ≤ samples → low = true → hasBit s.rst.on 1 = false → ∃ t, exec (.resetN low samples) s = .next t ∧ hasBit t.rst.on 1 = true ∧
        t.rd F.RST_STAT_ASSERT = 1 ∧ t.rst.level = min s.rst.level (s.srcLevel 1) ∧
        (s.rst.seen = 0 → s.rst.deferred = false → s.pulsing = false → s.rd F.RST_STAT_STAGE ≠ 15 → t.gangs = [] ∧ t.runs = [] ∧
          (t.rst.level = 1 → t.rd F.RST_STAT_STAGE = 3 ∧ t.rd F.HQ_GEN_GEN = (s.rd F.HQ_GEN_GEN + 1) % 2 ^ 32 ∧ t.now = s.now ∧ t.qps = []) ∧
          (t.rst.level = 2 → t.rd F.HQ_GEN_GEN = (s.rd F.HQ_GEN_GEN + 1) % 2 ^ 32 ∧ t.now = s.now)) ∧
        (s.pulsing = true → s.rd F.RST_STAT_STAGE ≠ 15 → t.rst.deferred = true ∧ t.rd F.RST_STAT_DEFER = 1)) ∧
      (10 ≤ samples → low = true → hasBit s.rst.on 1 = true → exec (.resetN low samples) s = .next s) ∧
      (10 ≤ samples → low = true → s.anchor = false → exec (.perstN low samples) s = .next s) ∧
      (10 ≤ samples → low = true → s.anchor = true → hasBit s.rst.on 2 = false → ∃ t, exec (.perstN low samples) s = .next t ∧
        hasBit t.rst.on 2 = true ∧ t.rd F.RST_STAT_ASSERT = 1 ∧ t.rst.level = min s.rst.level (s.srcLevel 2))) ∧
    (∃ t, exec .wdfire s = .next t ∧ hasBit t.rst.on 4 = true ∧ t.rd F.RST_STAT_ASSERT = 1) ∧
    (∀ crash : Bool,
      (s.fwRuns = false → exec (.wdog crash) s = .next s) ∧
      (s.fwRuns = true → crash = true ∨ s.rst.wdWarned = true ∧ 0 ≤ ahead s.now (after s.rst.wdT (50 * tMs)) →
        ∃ t, exec (.wdog crash) s = .next t ∧ hasBit t.rst.on 4 = true ∧ t.rd F.RST_STAT_ASSERT = 1)) ∧
    (s.fwRuns = true → s.rst.wdWarned = false ∨ 0 ≤ ahead s.now (after s.rst.wdT (50 * tMs)) → ∃ t, exec .wdogWarn s = .next t ∧
      t.rst.wdWarned = true ∧ t.rst.wdT = s.now ∧ t.faultq = s.faultq ++ [FaultIn.mk 53 0 0 false s.now]) ∧
    (∀ verified : Bool,
      (s.rst.deferred = false → exec (.deferredReset verified) s = .next s) ∧
      (s.rst.deferred = true → s.rst.pulse = none → s.rst.nvq = [] → ∃ t, exec (.deferredReset verified) s = .next t ∧ t.rst.deferred = false ∧
        t.rd F.RST_STAT_DEFER = 0 ∧ t.gangs = [] ∧ t.runs = []) ∧
      (s.rst.deferred = true → s.rst.pulse = none → s.rst.nvq ≠ [] → exec (.deferredReset verified) s = .next s) ∧
      (∀ r rest, s.rst.pulse = none → s.rst.nvq = r :: rest → ∃ t, exec (.nvRecordWrite verified) s = .next t ∧ t.regs = s.regs ∧
        t.rst.pulse = some { row := 64 * (s.nvNext % 64), bytes := nvRow r s.nvNext }) ∧
      (∀ p, s.rst.pulse = some p → p.row < 0x1000 → p.bytes.getD 4 0 ≠ 0 →
        (verified = true → ∃ t, exec (.nvRecordWrite verified) s = .next t ∧ t.rst.pulse = none ∧ t.rst.nvq = s.rst.nvq.drop 1 ∧
          t.mtpMem = s.mtpMem.writeBytes p.row p.bytes ∧ t.rd F.RST_NVSEL_NEWV = 1 ∧ t.rd F.RST_NVSEL_NEWACK = 0 ∧
          t.rd F.RST_NVSEL_NEWEST = p.row / 64) ∧
        (verified = false → ∃ t, exec (.nvRecordWrite verified) s = .next t ∧ t.rst.pulse = none ∧ t.rst.nvq = s.rst.nvq ∧ t.mtpMem = s.mtpMem ∧
          t.regs = s.regs))) ∧
    (s.rst.pulse = none → s.rst.nvq = [] → s.on F.RST_NVSEL_NEWV = true → ∃ t, exec .ack s = .next t ∧ t.regs = s.regs ∧ t.rst.pulse = some
      { row := 64 * s.rd F.RST_NVSEL_NEWEST, bytes := (s.nvSlot (s.rd F.RST_NVSEL_NEWEST)).set 4 0 }) ∧
    (s.rst.pulse.isSome = true → ∃ t, exec .ack s = .next t ∧ t.rst.ackDue = true ∧ t.rst.pulse = s.rst.pulse) ∧
    (s.on F.THM_STAT_PRIORSHUT = true → ∃ t, exec .priorshutClear s = .next t ∧ t.rd F.THM_STAT_PRIORSHUT = 0 ∧
      (s.rst.pulse = none → s.rst.nvq = [] → s.on F.RST_NVSEL_NEWV = true → t.rst.pulse.isSome = true)) ∧
    (s.on F.THM_STAT_PRIORSHUT = false → exec .priorshutClear s = .next s)

/-- With every source deasserted the release goes on from stage to stage: straps, crystal, OTP, engine (HOLD by its strap), firmware and the four pin dies in order, settle; an OTP load that fails a third time ends in BOOTFAIL; CONTINUE leaves HOLD. L2 clears the queues once no completion waits. A rollback counter rises to its value by a verified programming, a key slot is revoked; a value it has already, a refused one and a failed verify are told by TRUST_RES. MTPLOCK is set. -/
def Obligations.ReleaseGoesByStagesAndTrustIsRaised : Prop :=
  ∀ (s : State),
    (∀ b : BootIn,
      (s.rst.seen = 0 ∨ s.rst.deferred = true ∨ s.rst.on % 8 ≠ 0 ∨ s.rd F.RST_STAT_STAGE = 15 → exec (.resetRelease b) s = .next s) ∧
      (s.rst.seen ≠ 0 → s.rst.deferred = false → s.rst.on % 8 = 0 → s.rd F.RST_STAT_STAGE ≠ 15 →
        (s.rst.level = 2 → s.cplLeft = false → ∃ t, exec (.resetRelease b) s = .next t ∧ t.rst.seen = 0 ∧ t.rst.on = 0 ∧ t.rst.level = 3 ∧
          t.rd F.RST_STAT_LEVEL = 2 ∧ t.rd F.RST_STAT_SRC = s.rst.seen % 2 ^ 6 ∧ t.rd F.RST_STAT_ASSERT = 0 ∧ t.qps = [] ∧ t.evrs = []) ∧
        (s.rst.level = 2 → s.cplLeft = true → exec (.resetRelease b) s = .next s) ∧
        (s.rst.level = 1 → s.rst.releasing = false → ∃ t, exec (.resetRelease b) s = .next t ∧ t.rst.releasing = true ∧ t.rst.on = 0 ∧
          t.rd F.RST_STAT_LEVEL = 1 ∧ t.rd F.RST_STAT_SRC = s.rst.seen % 2 ^ 6) ∧
        (s.rst.level = 0 → s.rst.releasing = false → s.badSup = [] → ∃ t, exec (.resetRelease b) s = .next t ∧ t.rst.releasing = true ∧
          t.rd F.RST_STAT_STAGE = 1 ∧ t.rd F.RST_STAT_STRAP = b.strap.toNat ∧ t.rd F.GLB_ROLE_ANCHOR = bit b.strap.toNat 0 ∧
          t.rd F.GLB_ROLE_TMASTER = bit b.strap.toNat 0) ∧
        (s.rst.level ≠ 2 → s.rst.releasing = true →
          (b.done = false → 1 ≤ s.rd F.RST_STAT_STAGE → s.rd F.RST_STAT_STAGE ≤ 4 → exec (.resetRelease b) s = .next s) ∧
          (b.done = true → s.rd F.RST_STAT_STAGE = 1 → ∃ t, exec (.resetRelease b) s = .next t ∧ t.rd F.RST_STAT_STAGE = 2 ∧
            t.on F.GLB_UNITS_XTAL_OK = true) ∧
          (b.done = true → s.rd F.RST_STAT_STAGE = 2 → b.otpBad = none → ∃ t, exec (.resetRelease b) s = .next t ∧ t.rd F.RST_STAT_STAGE = 3 ∧
            t.rd F.RST_MAP_MAP = Config.otpMap.toNat ∧ t.rd F.TRUST_STAT_FWCNT = s.fwcnt % 2 ^ 8 ∧ t.rd F.TRUST_STAT_UCCNT = s.uccnt % 2 ^ 8) ∧
          (∀ a, b.done = true → s.rd F.RST_STAT_STAGE = 2 → b.otpBad = some a → s.rd F.RST_STAT_TRIES < 3 → ∃ t, exec (.resetRelease b) s = .next t ∧
            t.rd F.RST_STAT_TRIES = s.rd F.RST_STAT_TRIES + 1 ∧ t.rd F.RST_STAT_STAGE = if s.rd F.RST_STAT_TRIES = 2 then 15 else 2) ∧
          (b.done = true → s.rd F.RST_STAT_STAGE = 3 → ∃ t, exec (.resetRelease b) s = .next t ∧ t.on F.GLB_UNITS_ECLK_LOCK = true ∧
            t.rd F.RST_STAT_STAGE = (if hasBit (s.rd F.RST_STAT_STRAP) 1 then 14 else 4) ∧
            ∀ (w : WaveId), t.rd F.AWG_IDLE_IDLE w = s.safeWave.getD w 0 % 2 ^ 14) ∧
          (b.done = true → s.rd F.RST_STAT_STAGE = 4 → s.rst.dieT = none → s.rst.dieN < 4 → ∃ t, exec (.resetRelease b) s = .next t ∧
            t.rst.dieN = s.rst.dieN + 1 ∧ t.rst.dieT = some s.now ∧
            t.rst.dies = (if s.starved s.rst.dieN then s.rst.dies else withBit s.rst.dies s.rst.dieN) ∧
            t.rd F.RST_STAT_STAGE = if s.rst.dieN = 3 then 5 else 4) ∧
          (b.done = true → s.rd F.RST_STAT_STAGE = 5 → ∃ t, exec (.resetRelease b) s = .next t ∧ t.rd F.RST_STAT_STAGE = 7 ∧ t.rst.seen = 0 ∧
            t.rst.releasing = false ∧ ∀ k : DieId, hasBit s.rst.dies k = true → hasBit b.dies.toNat k = true → t.dieOk k = true)))) ∧
    (s.rd F.RST_STAT_STAGE = 14 → ∃ t, exec .continueW s = .next t ∧ t.rd F.RST_STAT_STAGE = 4) ∧
    (s.rd F.RST_STAT_STAGE ≠ 14 → exec .continueW s = .next s) ∧
    (∀ (value : BitVec 8) (verified : Bool), s.trustBusy = false →
      (64 < value.toNat → ∃ t u, exec (.rollupFw value verified) s = .next t ∧ exec (.rollupUc value verified) s = .next u ∧
        t.rd F.TRUST_RES_RESULT = 3 ∧ u.rd F.TRUST_RES_RESULT = 3 ∧ t.rst = s.rst ∧ u.rst = s.rst) ∧
      (value.toNat ≤ 64 → s.rd F.TRUST_STAT_FWSRC = 0 ∨ value.toNat ≤ s.rd F.TRUST_FWSVN_SVN →
        (value.toNat ≤ s.fwcnt → ∃ t, exec (.rollupFw value verified) s = .next t ∧ t.rd F.TRUST_RES_RESULT = 2 ∧ t.rst = s.rst) ∧
        (s.fwcnt < value.toNat → verified = true → ∃ t, exec (.rollupFw value verified) s = .next t ∧ t.rd F.TRUST_RES_RESULT = 2 ∧
          t.fwcnt = value.toNat ∧ t.rd F.TRUST_STAT_FWCNT = value.toNat) ∧
        (s.fwcnt < value.toNat → verified = false → ∃ t, exec (.rollupFw value verified) s = .next t ∧ t.rd F.TRUST_RES_RESULT = 4 ∧
          t.rst = s.rst ∧ t.faultq = s.faultq ++ [FaultIn.mk 54 0 0 false s.now])) ∧
      (value.toNat ≤ 64 → (∀ p : PodId, s.rd F.ENG_UIMG_IMG_ID p = 0 ∨ value.toNat ≤ s.rd F.ENG_USVN_SVN p) →
        (value.toNat ≤ s.uccnt → ∃ t, exec (.rollupUc value verified) s = .next t ∧ t.rd F.TRUST_RES_RESULT = 2 ∧ t.rst = s.rst) ∧
        (s.uccnt < value.toNat → verified = true → ∃ t, exec (.rollupUc value verified) s = .next t ∧ t.rd F.TRUST_RES_RESULT = 2 ∧
          t.uccnt = value.toNat ∧ t.rd F.TRUST_STAT_UCCNT = value.toNat)) ∧
      (∀ k, k = value.toNat % 4 →
        (hasBit s.revokedNow k = true → ∃ t, exec (.revoke value verified) s = .next t ∧ t.rd F.TRUST_RES_RESULT = 2 ∧ t.rst = s.rst) ∧
        (hasBit s.revokedNow k = false → s.rd F.TRUST_STAT_FWSRC ≠ 0 → s.rd F.TRUST_STAT_KEYSLOT = k →
          ∃ t, exec (.revoke value verified) s = .next t ∧ t.rd F.TRUST_RES_RESULT = 3 ∧ t.rst = s.rst) ∧
        (hasBit s.revokedNow k = false → s.rd F.TRUST_STAT_FWSRC = 0 →
          (∃ j : Fin 4, j.val ≠ k ∧ (Config.keyDigest j).isSome = true ∧ hasBit s.revokedNow j = false) →
          (verified = true → ∃ t, exec (.revoke value verified) s = .next t ∧ t.rd F.TRUST_RES_RESULT = 2 ∧ hasBit t.revokedNow k = true ∧
            hasBit (t.rd F.TRUST_STAT_REVOKED) k = true) ∧
          (verified = false → ∃ t, exec (.revoke value verified) s = .next t ∧ t.rd F.TRUST_RES_RESULT = 4 ∧ t.rst = s.rst)))) ∧
    (s.trustBusy = true → ∀ (value : BitVec 8) (verified : Bool), exec (.rollupFw value verified) s = .next s ∧
      exec (.rollupUc value verified) s = .next s ∧ exec (.revoke value verified) s = .next s) ∧
    (∃ t, exec .mtplock s = .next t ∧ t.rd F.TRUST_STAT_MTPLOCK = 1)

/-- A host access of four aligned bytes to this device's own window reads or writes the register at once where its domain runs and nothing waits before it, waits where it does not, or is held in the shadow copies of stopped engine registers, which are applied in order when the clock runs. An unaligned access, or one to an absent device, is unsupported. An access that has waited 4 us ends in error. Crossings: a sample seen twice goes through, a held value when acknowledged, pulses one at a time with seven pending and the rest lost; a flush empties a crossing; CLK_XMODE selects modes 3 and 6. -/
def Obligations.RegisterAccessesAndClockCrossings : Prop :=
  ∀ (s : State),
    (∀ (dev : Fin 64) (offset : BitVec 21) (value : BitVec 32) (a : RegAt), s.anchor = true → 3 ≤ s.rd F.RST_STAT_STAGE → s.rd F.RST_STAT_STAGE ≠ 15 →
      dev.val = s.dev → offset.toNat % 4 = 0 → decodeOffset offset.toNat = some a → behind s.xwait a = false →
      (s.way a = .now → (eclkBlock (blockOf offset.toNat).1 && !s.shadowWr.isEmpty) = false →
        exec (.registerWrite dev offset 4 value) s = .next (s.regWrite a value.toNat) ∧
        ∃ t, exec (.registerRead dev offset 4) s = .next t ∧ t = { (s.regRead a).2 with out := (s.regRead a).2.out ++ [OutMsg.value (s.regValue a)] }) ∧
      (s.way a = .wait → s.power ≠ 4 →
        (∃ t, exec (.registerWrite dev offset 4 value) s = .next t ∧ t.regs = s.regs ∧
          t.xwait = s.xwait ++ [XAcc.mk .host true offset.toNat value.toNat s.now]) ∧
        (∃ t, exec (.registerRead dev offset 4) s = .next t ∧ t.regs = s.regs ∧
          t.xwait = s.xwait ++ [XAcc.mk .host false offset.toNat 0 s.now])) ∧
      (s.way a = .shadow → s.shadowWr.length < 16 → ∃ t, exec (.registerWrite dev offset 4 value) s = .next t ∧ t.regs = s.regs ∧
        t.shadowWr = s.shadowWr ++ [(offset.toNat, value.toNat)] ∧ t.wakeAsk = (if s.power < 1 then s.wakeAsk else withBit s.wakeAsk 0))) ∧
    (∀ (dev : Fin 64) (offset : BitVec 21) (size : Nat) (value : BitVec 32), s.anchor = true → 3 ≤ s.rd F.RST_STAT_STAGE →
      s.rd F.RST_STAT_STAGE ≠ 15 → size ≠ 4 ∨ offset.toNat % 4 ≠ 0 ∨ (dev.val ≠ s.dev ∧ s.present dev = false) →
      exec (.registerWrite dev offset size value) s = .next { s with out := s.out ++ [OutMsg.unsupported] } ∧
      exec (.registerRead dev offset size) s = .next { s with out := s.out ++ [OutMsg.unsupported] }) ∧
    (∀ (x : Fin 2) (die : DieId) (offset : BitVec 21) (write : Bool) (a : RegAt) (e : XAcc), s.xwait = [e] → e.from_ = .host → e.write = write →
      e.off = offset.toNat → decodeOffset offset.toNat = some a → crossingOf a = (x.val, if x = 1 then die.val else 0) → s.way a = .wait →
      0 ≤ ahead s.now (after e.since 6000) → ∃ t, exec (.crossingTimeout x die offset write) s = .next t ∧ t.xwait = [] ∧
      t.out = (if write then s.out else s.out ++ [OutMsg.value 0xFFFFFFFF]) ∧
      t.faultq = if x = 1 then s.faultq ++ [FaultIn.mk (128 + 64 * die.val + 2) die offset.toNat false s.now] else s.faultq) ∧
    (∀ (x : Fin 2) (die : DieId) (offset : BitVec 21) (write : Bool), s.xwait = [] → exec (.crossingTimeout x die offset write) s = .next s) ∧
    (∀ (x : Fin 8) (v : BitVec 32) y, y = s.xing x →
      (carriesValue x = true → s.heldMode x = false → y.last = some v.toNat → ∃ t, exec (.crossingTransfer x (.sample v)) s = .next t ∧
        (t.xing x).dest = v.toNat) ∧
      (carriesValue x = true → s.heldMode x = false → y.last ≠ some v.toNat → ∃ t, exec (.crossingTransfer x (.sample v)) s = .next t ∧
        (t.xing x).dest = y.dest ∧ (t.xing x).last = some v.toNat ∧ (y.last.isSome = true → y.differ = 15 →
          hasBit (t.rd F.CLK_XSTAT_NOAGREE) x = true)) ∧
      (carriesValue x = true → s.heldMode x = true → y.req = false → ∃ t, exec (.crossingTransfer x (.change v)) s = .next t ∧
        (t.xing x).dest = v.toNat ∧ (t.xing x).req = true) ∧
      (carriesValue x = true → s.heldMode x = true → y.req = true → v.toNat ≠ y.src → ∃ t, exec (.crossingTransfer x (.change v)) s = .next t ∧
        (t.xing x).dest = y.dest ∧ (t.xing x).newer = true ∧ (x = 3 ∨ x = 6 → hasBit (t.rd F.CLK_XSTAT_STALE) x = true)) ∧
      (y.flight = 0 → y.req = true → y.newer = true → ∃ t, exec (.crossingTransfer x .ack) s = .next t ∧ (t.xing x).dest = y.src ∧
        (t.xing x).req = true ∧ (t.xing x).newer = false) ∧
      (y.flight = 0 → y.req = true → y.newer = false → ∃ t, exec (.crossingTransfer x .ack) s = .next t ∧ (t.xing x).req = false ∧
        (t.xing x).dest = y.dest) ∧
      (∀ c : PmcId, carriesPulses x = true → y.flight = 1 → y.pend = 7 → ∃ t, exec (.crossingTransfer x (.pulses 1 c)) s = .next t ∧
        (t.xing x).pend = 7 ∧ (t.xing x).marked = true ∧ hasBit (t.rd F.CLK_XSTAT_OVF) x = true) ∧
      (∀ c : PmcId, carriesPulses x = true → y.flight = 0 → y.pend = 0 → ∃ t, exec (.crossingTransfer x (.pulses 1 c)) s = .next t ∧
        (t.xing x).flight = 1 ∧ t.regs = s.regs) ∧
      (∃ t, exec (.crossingFlush x) s = .next t ∧ t.xing x = {} ∧ hasBit (t.rd F.CLK_XSTAT_FLUSH) x = true ∧
        (0 < y.flight + y.pend → hasBit (t.rd F.CLK_XSTAT_OVF) x = true))) ∧
    (∀ off v a, s.power < 2 → s.on F.GLB_UNITS_ECLK_LOCK = true → s.shadowWr = [(off, v)] → decodeOffset off = some a →
      exec .shadowWriteApply s = .next (({ s with shadowWr := [] } : State).regWrite a v)) ∧
    (2 ≤ s.power ∨ s.on F.GLB_UNITS_ECLK_LOCK = false → exec .shadowWriteApply s = .next s) ∧
    (∀ value : BitVec 32, ∃ t, exec (.clkXmodeWrite value) s = .next t ∧
      t.rd F.CLK_XMODE_MODE = 0xB7 + 8 * bit value.toNat 3 + 64 * bit value.toNat 6)

/-- A write of SVP_MTX shifts a word and drives the select; its end keeps what came back. A command word starts a read or a write, or is refused; status slots tell READY with the value or BUSY; data words return a value or enter the write buffer, COUNT and the offset advancing; a released select ends the transaction. A counter selects a legal event, and SELBAD tells of another; an overflow sets its bit. A trigger input stamps its transitions 2 ns apart; an output rises when due and falls when its time has passed. The codes of the scan's instructions are the model's (log entry 157). -/
def Obligations.ServicePortCountersTriggersAndScan : Prop :=
  ∀ (s : State),
    (∀ v : BitVec 32,
      (s.stewardPort = false → s.svp.word = none → s.rd F.SVP_CFG_MODE = 1 → ∃ t, exec (.svpMtx v) s = .next t ∧
        t.svp.sel = s.rd F.SVP_MCTL_SEL ∧ t.svp.word = some (v.toNat % 2 ^ s.svpBits) ∧
        t.out = s.out ++ [OutMsg.svp (s.rd F.SVP_MCTL_SEL) (v.toNat % 2 ^ s.svpBits)]) ∧
      (s.stewardPort = true ∨ s.svp.word.isSome = true → ∃ t, exec (.svpMtx v) s = .next t ∧ t.rd F.SVP_STAT_MBUSY = 1 ∧ t.svp = s.svp) ∧
      (s.svp.word.isSome = true → ∃ t, exec (.masterWordEnd v) s = .next t ∧ t.rd F.SVP_MRX_RX = v.toNat % 2 ^ s.svpBits ∧ t.svp.word = none ∧
        t.svp.sel = if s.svp.release = true ∨ s.on F.SVP_MCTL_HOLD = false then 15 else s.svp.sel) ∧
      (s.svp.word = none → exec (.masterWordEnd v) s = .next s) ∧
      (s.svpSlave = true → s.svp.phase = .idle → 3 ≤ s.rd F.RST_STAT_STAGE → s.rd F.RST_STAT_STAGE ≠ 15 →
        ∃ t, exec (.commandWord v) s = .next t ∧ t.out = s.out ++ [OutMsg.slot 0x53560000] ∧ t.rd F.SVP_STAT_SCOUNT = 0 ∧
        (bits v.toNat 29 21 = 0 → v.toNat % 4 = 0 → t.svp.phase = (if hasBit v.toNat 31 then .status else .write) ∧
          t.svp.off = bits v.toNat 20 0 ∧ t.svp.inc = hasBit v.toNat 30) ∧
        (bits v.toNat 29 21 ≠ 0 ∨ v.toNat % 4 ≠ 0 → t.svp.phase = .refused ∧ t.rd F.SVP_STAT_SERR = 1)) ∧
      (s.svpSlave = false ∨ s.svp.phase ≠ .idle → exec (.commandWord v) s = .next s) ∧
      (s.svp.phase = .data → ∃ t, exec (.dataWord v) s = .next t ∧ t.out = s.out ++ [OutMsg.slot (s.svp.got.getD 0)] ∧
        t.rd F.SVP_STAT_SCOUNT = (s.rd F.SVP_STAT_SCOUNT + 1) % 256 ∧
        (s.svp.inc = false → t.svp.phase = .status ∧ t.svp.off = s.svp.off ∧ t.svp.got = none) ∧
        (s.svp.inc = true → sameBlock s.svp.off (s.svp.off + 4) = true → t.svp.phase = .status ∧ t.svp.off = s.svp.off + 4) ∧
        (s.svp.inc = true → sameBlock s.svp.off (s.svp.off + 4) = false → t.svp.phase = .ended ∧ t.rd F.SVP_STAT_END = 1)) ∧
      (s.svp.phase = .write → s.svp.wbuf.length < 4 → s.svp.inc = false → ∃ t, exec (.dataWord v) s = .next t ∧
        t.svp.wbuf = s.svp.wbuf ++ [(s.svp.off, v.toNat)] ∧ t.svp.phase = .write ∧ t.rd F.SVP_STAT_SCOUNT = (s.rd F.SVP_STAT_SCOUNT + 1) % 256 ∧
        t.out = s.out ++ [OutMsg.slot (0x53560000 + ssReady * 256 + s.rd F.SVP_STAT_SCOUNT)]) ∧
      (s.svp.phase = .write → 4 ≤ s.svp.wbuf.length → exec (.dataWord v) s = .next (s.svpStatus ssBusy))) ∧
    (s.stewardPort = false → s.svp.word = none → ∃ t, exec .svpRelease s = .next t ∧ t.svp.sel = 15) ∧
    (s.stewardPort = false → s.svp.word.isSome = true → ∃ t, exec .svpRelease s = .next t ∧ t.svp.release = true ∧ t.svp.sel = s.svp.sel) ∧
    (s.stewardPort = true → ∃ t, exec .svpRelease s = .next t ∧ t.rd F.SVP_STAT_MBUSY = 1 ∧ t.svp = s.svp) ∧
    (∀ waits : Bool,
      (∀ v, s.svp.phase = .status → s.svp.asked = true → s.svp.got = some v → waits = false → ∃ t, exec (.statusSlot waits) s = .next t ∧
        t.svp.phase = .data ∧ t.svp.got = some v ∧ t.out = s.out ++ [OutMsg.slot (0x53560000
          + (if s.svp.failed then ssError else ssReady) * 256 + s.rd F.SVP_STAT_SCOUNT)]) ∧
      (s.svp.phase = .status → s.svp.asked = true → s.svp.got = none ∨ waits = true → exec (.statusSlot waits) s = .next (s.svpStatus ssBusy)) ∧
      (s.svp.phase = .refused → exec (.statusSlot waits) s = .next (s.svpStatus ssError)) ∧
      (s.svp.phase = .ended → exec (.statusSlot waits) s = .next (s.svpStatus ssEnd)) ∧
      (s.svpSlave = true → s.svp.phase ≠ .idle → ∃ t, exec (.selectRelease waits) s = .next t ∧ t.svp.phase = .idle ∧ t.svp.got = none ∧
        (waits = true → t.rd F.SVP_STAT_SHORT = 1)) ∧
      (s.svpSlave = false → exec (.selectRelease waits) s = .next s)) ∧
    (s.svp.wbuf = [] → exec .postedWrite s = .next s) ∧
    (∀ e rest, s.svp.wbuf = e :: rest → (∀ a ∈ s.xwait, a.from_ ≠ .svp) → exec .postedWrite s = .next (s.access .svp true e.1 e.2)) ∧
    (∀ (c : PmcId) (v : BitVec 32),
      (selOk c (bits v.toNat 7 0) (bits v.toNat 23 12) = true → ∃ t, exec (.pmcSelWrite c v) s = .next t ∧ t.rd F.PMC_SEL_EVENT c = bits v.toNat 7 0 ∧
        t.rd F.PMC_SEL_UNIT c = bits v.toNat 23 12 ∧ t.rd F.PMC_SEL_OVEV c = bit v.toNat 30 ∧ t.pmcFull c = s.pmcFull c) ∧
      (selOk c (bits v.toNat 7 0) (bits v.toNat 23 12) = false → ∃ t, exec (.pmcSelWrite c v) s = .next t ∧ t.rd F.PMC_STAT_SELBAD = 1 ∧
        t.pmc = s.pmc ∧ t.rd F.PMC_SEL_EVENT c = s.rd F.PMC_SEL_EVENT c) ∧
      ((s.pmc.at {} c.val).wraps < s.pmcFull c / (2 ^ 48 : Nat) → ∃ t, exec (.counterOverflow c) s = .next t ∧
        (t.pmc.at {} c.val).wraps = (s.pmc.at {} c.val).wraps + 1 ∧ hasBit (t.rd F.PMC_OVF_OVF (c.val / 32)) (c.val % 32) = true) ∧
      (s.pmcFull c / (2 ^ 48 : Nat) ≤ (s.pmc.at {} c.val).wraps → exec (.counterOverflow c) s = .next s)) ∧
    (∀ (i : Fin 4) x, x = s.trigs.at {} i.val →
      (∀ (high : Bool) (frac : Fin 1024),
        (x.inHigh = high → exec (.trigIn i high frac) s = .next s) ∧
        (x.inHigh ≠ high → ∃ t, exec (.trigIn i high frac) s = .next t ∧ (t.trigs.at {} i.val).inHigh = high ∧
          (t.trigs.at {} i.val).inT = some (s.fracStamp frac) ∧
          (∀ u, x.inT = some u → ahead (s.fracStamp frac) (u + ticks 3) < 0 → t.evq = s.evq ∧ t.ius = s.ius) ∧
          (∀ ring, x.inT = none → s.routeOf (2216 + i.val) = some ring → t.evq = s.evq ++
            [EvRec.mk (2216 + i.val) 1 (s.fracStamp frac) (s.seqs.at 0 (2216 + i.val)) (if high then 0 else 1) [] (some ring)]))) ∧
      (∀ d, x.due = some d → reached d s.now = true → x.outHigh = false →
        (s.power < 2 → ∃ t, exec (.trigOut i) s = .next t ∧ (t.trigs.at {} i.val).outHigh = true ∧ (t.trigs.at {} i.val).roseT = d ∧
          (t.trigs.at {} i.val).due = none) ∧
        (2 ≤ s.power → ∃ t, exec (.trigOut i) s = .next t ∧ (t.trigs.at {} i.val).outHigh = false ∧ (t.trigs.at {} i.val).due = none)) ∧
      (x.due = none ∨ x.outHigh = true → exec (.trigOut i) s = .next s) ∧
      (x.outHigh = true → reached x.fall s.now = true ∨ x.due.isSome = true → ∃ t, exec (.trigOutFall i) s = .next t ∧
        (t.trigs.at {} i.val).outHigh = false) ∧
      (x.outHigh = false → exec (.trigOutFall i) s = .next s)) ∧
    (∃ t, exec (.boundaryScan .reset) s = .next t ∧ t.jtag = {}) ∧
    (∀ ir : Fin 5, ∃ t, exec (.boundaryScan (.instr ir)) s = .next t ∧ t.jtag.ir = if ir.val ≤ 3 then ir.val else 0) ∧
    (∀ tdi : List Bool, ∃ t, exec (.boundaryScan (.shift tdi)) s = .next t ∧ t.jtag.dr = (s.jtagCapture ++ tdi).drop tdi.length ∧
      t.out = s.out ++ [OutMsg.scan ((s.jtagCapture ++ tdi).take tdi.length)])
end

