-- ==== Sys2Proof/Laws/Store.lean ====
section
/-! SUPPORT. The laws of the sparse stores: what a read gives after a write, and that every store operation keeps the
canonical form. -/

namespace Sys2Proof.Machine

variable {κ α : Type}

theorem Store.get_filter [DecidableEq κ] {d : κ → α} (m : Store κ α) (p : κ → Bool) (k : κ) :
    Store.get d (m.filter (fun e => p e.1)) k = if p k then Store.get d m k else d k := by
  induction m with
  | nil => simp [Store.get]
  | cons e t ih =>
    obtain ⟨k', v⟩ := e
    by_cases hp : p k' = true
    · rw [List.filter_cons_of_pos (by exact hp)]
      by_cases hk : k' = k
      · subst hk; simp [Store.get, hp]
      · simp only [Store.get, hk, if_false]; exact ih
    · rw [List.filter_cons_of_neg (by exact hp)]
      by_cases hk : k' = k
      · subst hk; simp only [hp] at ih ⊢; simpa using ih
      · simp only [Store.get, hk, if_false]; exact ih

theorem Store.get_erase_ne [DecidableEq κ] {d : κ → α} (m : Store κ α) {k k' : κ} (h : k' ≠ k) :
    Store.get d (m.erase k) k' = Store.get d m k' := by
  have := Store.get_filter (d := d) m (fun x => decide (x ≠ k)) k'
  simpa [Store.erase, h] using this

theorem Store.get_erase_eq [DecidableEq κ] {d : κ → α} (m : Store κ α) (k : κ) : Store.get d (m.erase k) k = d k := by
  have := Store.get_filter (d := d) m (fun x => decide (x ≠ k)) k
  simpa [Store.erase] using this

theorem Store.get_insert [DecidableEq κ] {d : κ → α} (code : κ → Nat) (m : Store κ α) (k k' : κ) (v : α)
    (h : Store.get d m k = d k ∨ k' ≠ k) (hn : ∀ e ∈ m, e.1 ≠ k) :
    Store.get d (m.insert code k v) k' = if k' = k then v else Store.get d m k' := by
  induction m with
  | nil => by_cases hk : k = k' <;> simp [Store.insert, Store.get, hk, eq_comm]
  | cons e t ih =>
    obtain ⟨k1, v1⟩ := e
    have hne : k1 ≠ k := hn (k1, v1) (by simp)
    have hn' : ∀ e ∈ t, e.1 ≠ k := fun e he => hn e (by simp [he])
    simp only [Store.insert]
    split
    · by_cases hk : k = k'
      · subst hk; simp [Store.get]
      · have hk' : ¬k' = k := fun hh => hk hh.symm
        simp [Store.get, hk, hk']
    · by_cases hk : k1 = k'
      · subst hk; simp [Store.get, hne]
      · simp only [Store.get, hk, if_false]
        refine ih ?_ hn'
        rcases h with h | h
        · left; simpa [Store.get, hne] using h
        · right; exact h

theorem Store.mem_erase_ne [DecidableEq κ] (m : Store κ α) (k : κ) : ∀ e ∈ m.erase k, e.1 ≠ k := by
  intro e he
  simpa using (List.mem_filter.1 he).2

/-- Reading what was written. -/
theorem Store.get_put_eq [DecidableEq κ] [DecidableEq α] (code : κ → Nat) (d : κ → α) (m : Store κ α) (k : κ) (v : α) :
    Store.get d (Store.put code d m k v) k = v := by
  unfold Store.put
  split
  · next h => rw [Store.get_erase_eq, h]
  · rw [Store.get_insert code _ _ _ _ (.inl (Store.get_erase_eq m k)) (Store.mem_erase_ne m k)]; simp

/-- Reading another key. -/
theorem Store.get_put_ne [DecidableEq κ] [DecidableEq α] {code : κ → Nat} {d : κ → α} (m : Store κ α) {k k' : κ} (v : α)
    (h : k' ≠ k) : Store.get d (Store.put code d m k v) k' = Store.get d m k' := by
  unfold Store.put
  split
  · exact Store.get_erase_ne m h
  · rw [Store.get_insert code _ _ _ _ (.inl (Store.get_erase_eq m k)) (Store.mem_erase_ne m k), if_neg h, Store.get_erase_ne m h]

/-! ### The canonical form -/

/-- The canonical form said by List.Pairwise. -/
theorem Store.wf_iff [DecidableEq α] (code : κ → Nat) (d : κ → α) (m : Store κ α) :
    Store.wf code d m = true ↔ m.Pairwise (fun a b => code a.1 < code b.1) ∧ ∀ e ∈ m, e.2 ≠ d e.1 := by
  induction m with
  | nil => simp [Store.wf]
  | cons e t ih =>
    obtain ⟨k, v⟩ := e
    cases t with
    | nil => simp [Store.wf]
    | cons e' t' =>
      obtain ⟨k', v'⟩ := e'
      simp only [Store.wf, Bool.and_eq_true, decide_eq_true_eq, ih, List.pairwise_cons, List.mem_cons]
      constructor
      · rintro ⟨⟨h1, h2⟩, ⟨h3, h4⟩, h5⟩
        refine ⟨⟨?_, h3, h4⟩, ?_⟩
        · rintro a (rfl | ha)
          · exact h2
          · exact h2.trans (h3 a ha)
        · rintro a (rfl | ha)
          · exact h1
          · exact h5 a ha
      · rintro ⟨⟨h1, h3, h4⟩, h5⟩
        exact ⟨⟨h5 _ (.inl rfl), h1 _ (.inl rfl)⟩, ⟨h3, h4⟩, fun a ha => h5 a (.inr ha)⟩

theorem Store.filter_wf [DecidableEq α] {code : κ → Nat} {d : κ → α} {m : Store κ α} (h : Store.wf code d m = true)
    (p : κ × α → Bool) : Store.wf code d (m.filter p) = true := by
  rw [Store.wf_iff] at h ⊢
  exact ⟨h.1.filter p, fun e he => h.2 e (List.mem_filter.1 he).1⟩

theorem Store.mem_insert {code : κ → Nat} {m : Store κ α} {k : κ} {v : α} {e : κ × α} :
    e ∈ m.insert code k v ↔ e = (k, v) ∨ e ∈ m := by
  induction m with
  | nil => simp [Store.insert]
  | cons p t ih =>
    simp only [Store.insert]
    split
    · simp
    · simp only [List.mem_cons, ih]; tauto

theorem Store.insert_wf [DecidableEq α] {code : κ → Nat} {d : κ → α} {m : Store κ α} (h : Store.wf code d m = true)
    {k : κ} {v : α} (hv : v ≠ d k) (hn : ∀ e ∈ m, code e.1 ≠ code k) : Store.wf code d (m.insert code k v) = true := by
  rw [Store.wf_iff] at h ⊢
  refine ⟨?_, fun e he => ?_⟩
  · obtain ⟨hp, -⟩ := h
    induction m with
    | nil => simp [Store.insert]
    | cons p t ih =>
      simp only [Store.insert]
      have hp' := List.pairwise_cons.1 hp
      split
      · next hlt =>
        refine List.pairwise_cons.2 ⟨?_, hp⟩
        rintro a (_ | ha)
        · exact hlt
        · exact hlt.trans (hp'.1 a (by assumption))
      · next hge =>
        refine List.pairwise_cons.2 ⟨?_, ih (fun e he => hn e (by simp [he])) hp'.2⟩
        intro a ha
        rcases Store.mem_insert.1 ha with rfl | ha
        · have := hn p (by simp)
          simp only
          omega
        · exact hp'.1 a ha
  · rcases Store.mem_insert.1 he with rfl | he
    · exact hv
    · exact h.2 e he

theorem Store.put_wf [DecidableEq κ] [DecidableEq α] {code : κ → Nat} {d : κ → α} {m : Store κ α}
    (h : Store.wf code d m = true) (hc : ∀ a b, code a = code b → a = b) (k : κ) (v : α) :
    Store.wf code d (Store.put code d m k v) = true := by
  unfold Store.put
  split
  · exact Store.filter_wf h _
  · next hv => exact Store.insert_wf (Store.filter_wf h _) hv (fun e he hh => Store.mem_erase_ne m k e he (hc _ _ hh))

/-! ### Register keys -/

theorem Reg.ctorIdx_inj {a b : Reg} (h : a.ctorIdx = b.ctorIdx) : a = b := by
  rw [← Reg.ofNat_ctorIdx a, h, Reg.ofNat_ctorIdx]

theorem FKey.code_inj {a b : FKey} (h : a.code = b.code) : a = b := by
  obtain ⟨r, l, i, j⟩ := a
  obtain ⟨r', l', i', j'⟩ := b
  simp only [FKey.code, Nat.pair_eq_pair] at h
  obtain ⟨⟨h1, rfl⟩, rfl, rfl⟩ := h
  rw [Reg.ctorIdx_inj h1]

theorem FKey.put_wf {m : Store FKey Nat} (h : Store.wf FKey.code FKey.reset m = true) (k : FKey) (v : Nat) :
    Store.wf FKey.code FKey.reset (Store.put FKey.code FKey.reset m k v) = true := Store.put_wf h (fun _ _ => FKey.code_inj) k v

/-! ### Memories -/

theorem Memory.write_wf {m : Memory} (h : m.wf = true) (a : Nat) (b : Byte) : (m.write a b).wf = true :=
  Store.put_wf h (fun _ _ hh => hh) a b

theorem Memory.writeBytes_wf {m : Memory} (h : m.wf = true) (a : Nat) (l : List Nat) : (m.writeBytes a l).wf = true := by
  induction l generalizing m a with
  | nil => exact h
  | cons b t ih => exact ih (Memory.write_wf h _ _) _

theorem Memory.clear_wf {m : Memory} (h : m.wf = true) (a n : Nat) : (m.clear a n).wf = true := Store.filter_wf h _

theorem Memory.byte_write (m : Memory) (a : Nat) (b : Byte) (x : Nat) :
    (m.write a b).byte x = if x = a then b else m.byte x := by
  by_cases h : x = a
  · subst h; simpa [Memory.byte, Memory.write] using Store.get_put_eq id _ m x b
  · rw [if_neg h]; exact Store.get_put_ne m b h

theorem Memory.byte_writeBytes_out (m : Memory) (a : Nat) (l : List Nat) (x : Nat) (h : x < a ∨ a + l.length ≤ x) :
    (m.writeBytes a l).byte x = m.byte x := by
  induction l generalizing m a with
  | nil => rfl
  | cons b t ih =>
    simp only [List.length_cons] at h
    rw [Memory.writeBytes, ih _ _ (by omega), Memory.byte_write, if_neg (by omega)]

theorem Memory.byte_writeBytes_in (m : Memory) (a : Nat) (l : List Nat) (i : Nat) (h : i < l.length) :
    (m.writeBytes a l).byte (a + i) = BitVec.ofNat 8 (l.getD i 0) := by
  induction l generalizing m a i with
  | nil => simp at h
  | cons b t ih =>
    cases i with
    | zero => rw [Memory.writeBytes, Memory.byte_writeBytes_out _ _ _ _ (by omega), Memory.byte_write]; simp
    | succ i =>
      have := ih (m.write a (BitVec.ofNat 8 b)) (a + 1) i (by simpa using h)
      rw [Memory.writeBytes, show a + (i + 1) = a + 1 + i by omega, this]; simp

theorem Memory.byte_clear (m : Memory) (a n x : Nat) :
    (m.clear a n).byte x = if x < a ∨ a + n ≤ x then m.byte x else 0 := by
  have := Store.get_filter (d := fun _ => (0 : Byte)) m (fun y => decide (y < a ∨ a + n ≤ y)) x
  simpa [Memory.byte, Memory.clear] using this

/-! ### Numbered instances -/

theorem NStore.at_set {α : Type} [DecidableEq α] (d : α) (m : NStore α) (n k : Nat) (v : α) :
    (m.set d n v).at d k = if k = n then v else m.at d k := by
  by_cases h : k = n
  · subst h; rw [if_pos rfl]; exact Store.get_put_eq id _ m k v
  · rw [if_neg h]; exact Store.get_put_ne m v h

end Sys2Proof.Machine
end

