-- ==== Sys2Proof/Laws/Does.lean ====
section
/-! SUPPORT. What an operation may touch, said once: Does F R s t holds where t differs from s only in the state fields whose
bit is set in F and in the register fields whose register's bit is set in R, keeps the queue, and is in canonical form
wherever s is. Every operation and every meaning has one such lemma (named after it, ending in does); they compose. -/

namespace Sys2Proof.Machine

/-- Every bit of a is a bit of b. -/
abbrev Sub (a b : Nat) : Prop := a &&& b = a

theorem Sub.bit {a b i : Nat} (h : Sub a b) (hb : b.testBit i = false) : a.testBit i = false := by
  have h2 := congrArg (fun x => x.testBit i) h
  simp only [Nat.testBit_and, hb, Bool.and_false] at h2
  exact h2.symm

theorem Sub.refl (a : Nat) : Sub a a := Nat.and_self a

theorem Sub.zero (a : Nat) : Sub 0 a := Nat.zero_and a

theorem Sub.trans {a b c : Nat} (h : Sub a b) (h2 : Sub b c) : Sub a c := by
  unfold Sub at *
  rw [← h, Nat.and_assoc, h2]

/-- One bit of a mask. -/
abbrev Has (R i : Nat) : Prop := R.testBit i = true

theorem Has.sub {R i : Nat} (h : Has R i) : Sub (2 ^ i) R := by
  apply Nat.eq_of_testBit_eq
  intro j
  simp only [Nat.testBit_and, Nat.testBit_two_pow]
  by_cases hj : i = j
  · subst hj; simpa [Has] using h
  · simp [hj]

theorem Does.clash {R i : Nat} {p : Prop} (h : Has R i) (h' : R.testBit i = false) : p := by
  rw [h] at h'; exact nomatch h'

/-- What an operation from s to t may touch. -/
structure Does (F R : Nat) (s t : State) : Prop where
  pending : t.pending = s.pending
  latch : F.testBit 0 = false → t.latch = s.latch
  now : F.testBit 1 = false → t.now = s.now
  free : F.testBit 2 = false → t.free = s.free
  gangs : F.testBit 3 = false → t.gangs = s.gangs
  pods : F.testBit 4 = false → t.pods = s.pods
  pins : F.testBit 5 = false → t.pins = s.pins
  ius : F.testBit 6 = false → t.ius = s.ius
  iuq : F.testBit 7 = false → t.iuq = s.iuq
  iuSetup : F.testBit 8 = false → t.iuSetup = s.iuSetup
  pmuSetup : F.testBit 9 = false → t.pmuSetup = s.pmuSetup
  pmus : F.testBit 10 = false → t.pmus = s.pmus
  waves : F.testBit 11 = false → t.waves = s.waves
  rails : F.testBit 12 = false → t.rails = s.rails
  sites : F.testBit 13 = false → t.sites = s.sites
  dies : F.testBit 14 = false → t.dies = s.dies
  segMem : F.testBit 15 = false → t.segMem = s.segMem
  poolMem : F.testBit 16 = false → t.poolMem = s.poolMem
  poolBad : F.testBit 17 = false → t.poolBad = s.poolBad
  capMem : F.testBit 18 = false → t.capMem = s.capMem
  ledgMem : F.testBit 19 = false → t.ledgMem = s.ledgMem
  mtpMem : F.testBit 20 = false → t.mtpMem = s.mtpMem
  siteMap : F.testBit 21 = false → t.siteMap = s.siteMap
  runs : F.testBit 22 = false → t.runs = s.runs
  evq : F.testBit 23 = false → t.evq = s.evq
  seqs : F.testBit 24 = false → t.seqs = s.seqs
  faultq : F.testBit 25 = false → t.faultq = s.faultq
  fences : F.testBit 26 = false → t.fences = s.fences
  pmc : F.testBit 27 = false → t.pmc = s.pmc
  ledgq : F.testBit 28 = false → t.ledgq = s.ledgq
  ledgAbove : F.testBit 29 = false → t.ledgAbove = s.ledgAbove
  qps : F.testBit 30 = false → t.qps = s.qps
  evrs : F.testBit 31 = false → t.evrs = s.evrs
  tlb : F.testBit 32 = false → t.tlb = s.tlb
  mmuq : F.testBit 33 = false → t.mmuq = s.mmuq
  strms : F.testBit 34 = false → t.strms = s.strms
  snaps : F.testBit 35 = false → t.snaps = s.snaps
  wm : F.testBit 36 = false → t.wm = s.wm
  jumps : F.testBit 37 = false → t.jumps = s.jumps
  d3hot : F.testBit 38 = false → t.d3hot = s.d3hot
  out : F.testBit 39 = false → t.out = s.out
  rr : F.testBit 40 = false → t.rr = s.rr
  lastChunk : F.testBit 41 = false → t.lastChunk = s.lastChunk
  time : F.testBit 42 = false → t.time = s.time
  ports : F.testBit 43 = false → t.ports = s.ports
  fab : F.testBit 44 = false → t.fab = s.fab
  pwr : F.testBit 45 = false → t.pwr = s.pwr
  sensors : F.testBit 46 = false → t.sensors = s.sensors
  doms : F.testBit 47 = false → t.doms = s.doms
  rst : F.testBit 48 = false → t.rst = s.rst
  safeX : F.testBit 49 = false → t.safeX = s.safeX
  live : F.testBit 50 = false → t.live = s.live
  xings : F.testBit 51 = false → t.xings = s.xings
  shadowWr : F.testBit 52 = false → t.shadowWr = s.shadowWr
  xwait : F.testBit 53 = false → t.xwait = s.xwait
  svp : F.testBit 54 = false → t.svp = s.svp
  trigs : F.testBit 55 = false → t.trigs = s.trigs
  jtag : F.testBit 56 = false → t.jtag = s.jtag
  shd : F.testBit 57 = false → t.shd = s.shd
  badSup : F.testBit 58 = false → t.badSup = s.badSup
  tok : F.testBit 59 = false → t.tok = s.tok
  fRestart : F.testBit 60 = false → t.fRestart = s.fRestart
  tickAcc : F.testBit 61 = false → t.tickAcc = s.tickAcc
  tickDie : F.testBit 62 = false → t.tickDie = s.tickDie
  wakeAsk : F.testBit 63 = false → t.wakeAsk = s.wakeAsk
  wake : F.testBit 64 = false → t.wake = s.wake
  safePin : F.testBit 65 = false → t.safePin = s.safePin
  safeRail : F.testBit 66 = false → t.safeRail = s.safeRail
  safeWave : F.testBit 67 = false → t.safeWave = s.safeWave
  atTick : F.testBit 68 = false → t.atTick = s.atTick
  regs : ∀ k : FKey, R.testBit k.reg.ctorIdx = false → Store.get FKey.reset t.regs k = Store.get FKey.reset s.regs k
  canon : s.canonical = true → t.canonical = true

theorem Does.refl (F R : Nat) (s : State) : Does F R s s :=
  ⟨rfl, fun _ => rfl, fun _ => rfl, fun _ => rfl, fun _ => rfl, fun _ => rfl, fun _ => rfl, fun _ => rfl, fun _ => rfl, fun _ => rfl, fun _ => rfl, fun _ => rfl, fun _ => rfl, fun _ => rfl, fun _ => rfl, fun _ => rfl, fun _ => rfl, fun _ => rfl, fun _ => rfl, fun _ => rfl, fun _ => rfl, fun _ => rfl, fun _ => rfl, fun _ => rfl, fun _ => rfl, fun _ => rfl, fun _ => rfl, fun _ => rfl, fun _ => rfl, fun _ => rfl, fun _ => rfl, fun _ => rfl, fun _ => rfl, fun _ => rfl, fun _ => rfl, fun _ => rfl, fun _ => rfl, fun _ => rfl, fun _ => rfl, fun _ => rfl, fun _ => rfl, fun _ => rfl, fun _ => rfl, fun _ => rfl, fun _ => rfl, fun _ => rfl, fun _ => rfl, fun _ => rfl, fun _ => rfl, fun _ => rfl, fun _ => rfl, fun _ => rfl, fun _ => rfl, fun _ => rfl, fun _ => rfl, fun _ => rfl, fun _ => rfl, fun _ => rfl, fun _ => rfl, fun _ => rfl, fun _ => rfl, fun _ => rfl, fun _ => rfl, fun _ => rfl, fun _ => rfl, fun _ => rfl, fun _ => rfl, fun _ => rfl, fun _ => rfl, fun _ => rfl, fun _ _ => rfl, id⟩

theorem Does.trans {F R : Nat} {s t u : State} (a : Does F R s t) (b : Does F R t u) : Does F R s u :=
  ⟨b.pending.trans a.pending, fun h => (b.latch h).trans (a.latch h),
    fun h => (b.now h).trans (a.now h),
    fun h => (b.free h).trans (a.free h),
    fun h => (b.gangs h).trans (a.gangs h),
    fun h => (b.pods h).trans (a.pods h),
    fun h => (b.pins h).trans (a.pins h),
    fun h => (b.ius h).trans (a.ius h),
    fun h => (b.iuq h).trans (a.iuq h),
    fun h => (b.iuSetup h).trans (a.iuSetup h),
    fun h => (b.pmuSetup h).trans (a.pmuSetup h),
    fun h => (b.pmus h).trans (a.pmus h),
    fun h => (b.waves h).trans (a.waves h),
    fun h => (b.rails h).trans (a.rails h),
    fun h => (b.sites h).trans (a.sites h),
    fun h => (b.dies h).trans (a.dies h),
    fun h => (b.segMem h).trans (a.segMem h),
    fun h => (b.poolMem h).trans (a.poolMem h),
    fun h => (b.poolBad h).trans (a.poolBad h),
    fun h => (b.capMem h).trans (a.capMem h),
    fun h => (b.ledgMem h).trans (a.ledgMem h),
    fun h => (b.mtpMem h).trans (a.mtpMem h),
    fun h => (b.siteMap h).trans (a.siteMap h),
    fun h => (b.runs h).trans (a.runs h),
    fun h => (b.evq h).trans (a.evq h),
    fun h => (b.seqs h).trans (a.seqs h),
    fun h => (b.faultq h).trans (a.faultq h),
    fun h => (b.fences h).trans (a.fences h),
    fun h => (b.pmc h).trans (a.pmc h),
    fun h => (b.ledgq h).trans (a.ledgq h),
    fun h => (b.ledgAbove h).trans (a.ledgAbove h),
    fun h => (b.qps h).trans (a.qps h),
    fun h => (b.evrs h).trans (a.evrs h),
    fun h => (b.tlb h).trans (a.tlb h),
    fun h => (b.mmuq h).trans (a.mmuq h),
    fun h => (b.strms h).trans (a.strms h),
    fun h => (b.snaps h).trans (a.snaps h),
    fun h => (b.wm h).trans (a.wm h),
    fun h => (b.jumps h).trans (a.jumps h),
    fun h => (b.d3hot h).trans (a.d3hot h),
    fun h => (b.out h).trans (a.out h),
    fun h => (b.rr h).trans (a.rr h),
    fun h => (b.lastChunk h).trans (a.lastChunk h),
    fun h => (b.time h).trans (a.time h),
    fun h => (b.ports h).trans (a.ports h),
    fun h => (b.fab h).trans (a.fab h),
    fun h => (b.pwr h).trans (a.pwr h),
    fun h => (b.sensors h).trans (a.sensors h),
    fun h => (b.doms h).trans (a.doms h),
    fun h => (b.rst h).trans (a.rst h),
    fun h => (b.safeX h).trans (a.safeX h),
    fun h => (b.live h).trans (a.live h),
    fun h => (b.xings h).trans (a.xings h),
    fun h => (b.shadowWr h).trans (a.shadowWr h),
    fun h => (b.xwait h).trans (a.xwait h),
    fun h => (b.svp h).trans (a.svp h),
    fun h => (b.trigs h).trans (a.trigs h),
    fun h => (b.jtag h).trans (a.jtag h),
    fun h => (b.shd h).trans (a.shd h),
    fun h => (b.badSup h).trans (a.badSup h),
    fun h => (b.tok h).trans (a.tok h),
    fun h => (b.fRestart h).trans (a.fRestart h),
    fun h => (b.tickAcc h).trans (a.tickAcc h),
    fun h => (b.tickDie h).trans (a.tickDie h),
    fun h => (b.wakeAsk h).trans (a.wakeAsk h),
    fun h => (b.wake h).trans (a.wake h),
    fun h => (b.safePin h).trans (a.safePin h),
    fun h => (b.safeRail h).trans (a.safeRail h),
    fun h => (b.safeWave h).trans (a.safeWave h),
    fun h => (b.atTick h).trans (a.atTick h),
    fun x h => (b.regs x h).trans (a.regs x h), fun h => b.canon (a.canon h)⟩

theorem Does.mono {F R G Q : Nat} {s t : State} (a : Does F R s t) (hf : Sub F G) (hr : Sub R Q) : Does G Q s t :=
  ⟨a.pending, fun h => a.latch (hf.bit h),
    fun h => a.now (hf.bit h),
    fun h => a.free (hf.bit h),
    fun h => a.gangs (hf.bit h),
    fun h => a.pods (hf.bit h),
    fun h => a.pins (hf.bit h),
    fun h => a.ius (hf.bit h),
    fun h => a.iuq (hf.bit h),
    fun h => a.iuSetup (hf.bit h),
    fun h => a.pmuSetup (hf.bit h),
    fun h => a.pmus (hf.bit h),
    fun h => a.waves (hf.bit h),
    fun h => a.rails (hf.bit h),
    fun h => a.sites (hf.bit h),
    fun h => a.dies (hf.bit h),
    fun h => a.segMem (hf.bit h),
    fun h => a.poolMem (hf.bit h),
    fun h => a.poolBad (hf.bit h),
    fun h => a.capMem (hf.bit h),
    fun h => a.ledgMem (hf.bit h),
    fun h => a.mtpMem (hf.bit h),
    fun h => a.siteMap (hf.bit h),
    fun h => a.runs (hf.bit h),
    fun h => a.evq (hf.bit h),
    fun h => a.seqs (hf.bit h),
    fun h => a.faultq (hf.bit h),
    fun h => a.fences (hf.bit h),
    fun h => a.pmc (hf.bit h),
    fun h => a.ledgq (hf.bit h),
    fun h => a.ledgAbove (hf.bit h),
    fun h => a.qps (hf.bit h),
    fun h => a.evrs (hf.bit h),
    fun h => a.tlb (hf.bit h),
    fun h => a.mmuq (hf.bit h),
    fun h => a.strms (hf.bit h),
    fun h => a.snaps (hf.bit h),
    fun h => a.wm (hf.bit h),
    fun h => a.jumps (hf.bit h),
    fun h => a.d3hot (hf.bit h),
    fun h => a.out (hf.bit h),
    fun h => a.rr (hf.bit h),
    fun h => a.lastChunk (hf.bit h),
    fun h => a.time (hf.bit h),
    fun h => a.ports (hf.bit h),
    fun h => a.fab (hf.bit h),
    fun h => a.pwr (hf.bit h),
    fun h => a.sensors (hf.bit h),
    fun h => a.doms (hf.bit h),
    fun h => a.rst (hf.bit h),
    fun h => a.safeX (hf.bit h),
    fun h => a.live (hf.bit h),
    fun h => a.xings (hf.bit h),
    fun h => a.shadowWr (hf.bit h),
    fun h => a.xwait (hf.bit h),
    fun h => a.svp (hf.bit h),
    fun h => a.trigs (hf.bit h),
    fun h => a.jtag (hf.bit h),
    fun h => a.shd (hf.bit h),
    fun h => a.badSup (hf.bit h),
    fun h => a.tok (hf.bit h),
    fun h => a.fRestart (hf.bit h),
    fun h => a.tickAcc (hf.bit h),
    fun h => a.tickDie (hf.bit h),
    fun h => a.wakeAsk (hf.bit h),
    fun h => a.wake (hf.bit h),
    fun h => a.safePin (hf.bit h),
    fun h => a.safeRail (hf.bit h),
    fun h => a.safeWave (hf.bit h),
    fun h => a.atTick (hf.bit h),
    fun x h => a.regs x (hr.bit h), a.canon⟩

/-- One more operation at the end. -/
theorem Does.step {m r F R : Nat} {s s1 t : State} (a : Does m r s1 t) (hf : Sub m F) (hr : Sub r R) (h : Does F R s s1) :
    Does F R s t := h.trans (a.mono hf hr)

/-- The value of a register that an operation does not touch. -/
theorem Does.rd {F R : Nat} {s t : State} (a : Does F R s t) (f : Fld) (i j : Nat) (h : R.testBit f.reg.ctorIdx = false) :
    t.rd f i j = s.rd f i j := a.regs (f.key i j) h

theorem Does.ite {F R : Nat} {s a b : State} {c : Prop} [Decidable c] (ha : c → Does F R s a) (hb : ¬c → Does F R s b) :
    Does F R s (if c then a else b) := by
  by_cases h : c
  · rw [if_pos h]; exact ha h
  · rw [if_neg h]; exact hb h

/-- A proof in two parts: what holds of a state on the way, and the rest. -/
theorem Does.via {F R : Nat} {s x t : State} (h : Does F R s x) (k : Does F R s x → Does F R s t) : Does F R s t := k h

theorem Does.foldl {α : Type} {F R : Nat} {s s1 : State} {f : State → α → State} {l : List α}
    (hf : ∀ t x, Does F R s t → Does F R s (f t x)) (h : Does F R s s1) : Does F R s (l.foldl f s1) := by
  induction l generalizing s1 with
  | nil => exact h
  | cons x l ih => exact ih (hf s1 x h)

theorem State.wr_does (s : State) (f : Fld) (v i j : Nat) : Does 0 (2 ^ f.reg.ctorIdx) s (s.wr f v i j) :=
  ⟨rfl, fun _ => rfl, fun _ => rfl, fun _ => rfl, fun _ => rfl, fun _ => rfl, fun _ => rfl, fun _ => rfl, fun _ => rfl, fun _ => rfl, fun _ => rfl, fun _ => rfl, fun _ => rfl, fun _ => rfl, fun _ => rfl, fun _ => rfl, fun _ => rfl, fun _ => rfl, fun _ => rfl, fun _ => rfl, fun _ => rfl, fun _ => rfl, fun _ => rfl, fun _ => rfl, fun _ => rfl, fun _ => rfl, fun _ => rfl, fun _ => rfl, fun _ => rfl, fun _ => rfl, fun _ => rfl, fun _ => rfl, fun _ => rfl, fun _ => rfl, fun _ => rfl, fun _ => rfl, fun _ => rfl, fun _ => rfl, fun _ => rfl, fun _ => rfl, fun _ => rfl, fun _ => rfl, fun _ => rfl, fun _ => rfl, fun _ => rfl, fun _ => rfl, fun _ => rfl, fun _ => rfl, fun _ => rfl, fun _ => rfl, fun _ => rfl, fun _ => rfl, fun _ => rfl, fun _ => rfl, fun _ => rfl, fun _ => rfl, fun _ => rfl, fun _ => rfl, fun _ => rfl, fun _ => rfl, fun _ => rfl, fun _ => rfl, fun _ => rfl, fun _ => rfl, fun _ => rfl, fun _ => rfl, fun _ => rfl, fun _ => rfl, fun _ => rfl, fun _ => rfl,
    fun k hk => by
      refine Store.get_put_ne s.regs _ ?_
      rintro rfl
      simp [Fld.key, Nat.testBit_two_pow_self] at hk,
    fun hc => by
      simp only [State.canonical, Bool.and_eq_true, State.regsOk, State.memsOk, State.wholeTicks] at hc ⊢
      exact ⟨⟨FKey.put_wf hc.1.1 _ _, hc.1.2⟩, hc.2⟩⟩

theorem Does.wr {F R : Nat} {s s1 : State} (f : Fld) (v i j : Nat) (hb : Has R f.reg.ctorIdx) (h : Does F R s s1) :
    Does F R s (s1.wr f v i j) := Does.step (State.wr_does s1 f v i j) (Sub.zero F) hb.sub h

theorem Does.bump {F R : Nat} {s s1 : State} (f : Fld) (k i j : Nat) (hb : Has R f.reg.ctorIdx) (h : Does F R s s1) :
    Does F R s (s1.bump f k i j) := Does.wr f _ i j hb h

theorem Does.wrAll {F R : Nat} {s s1 : State} (f : Fld) (v : Nat) (is : List Nat) (hb : Has R f.reg.ctorIdx)
    (h : Does F R s s1) : Does F R s (s1.wrAll f v is) := Does.foldl (fun _ x hx => Does.wr f v x 0 hb hx) h

theorem Does.wrStamp {F R : Nat} {s s1 : State} (lo hi : Fld) (t : Stamp) (i : Nat) (hl : Has R lo.reg.ctorIdx)
    (hh : Has R hi.reg.ctorIdx) (h : Does F R s s1) : Does F R s (s1.wrStamp lo hi t i) :=
  Does.wr hi _ i 0 hh (Does.wr lo _ i 0 hl h)

theorem Does.foldlFst {α β : Type} {F R : Nat} {s : State} {f : State × β → α → State × β} {b : State × β} {l : List α}
    (hf : ∀ r x, Does F R s r.1 → Does F R s (f r x).1) (h : Does F R s b.1) : Does F R s (l.foldl f b).1 := by
  induction l generalizing b with
  | nil => exact h
  | cons x l ih => exact ih (hf b x h)

theorem Does.dite {F R : Nat} {s : State} {c : Prop} [Decidable c] {a : c → State} {b : ¬c → State} (ha : ∀ h, Does F R s (a h))
    (hb : ∀ h, Does F R s (b h)) : Does F R s (dite c a b) := by
  by_cases h : c
  · rw [dif_pos h]; exact ha h
  · rw [dif_neg h]; exact hb h

/-- What a micro-op's result may touch. -/
def DoesM (F R : Nat) (s : State) : MRes → Prop
  | .go _ t => Does F R s t
  | .wait t => Does F R s t
  | .err _ => True

theorem DoesM.go {F R : Nat} {s t : State} {x : MicroSt} (h : Does F R s t) : DoesM F R s (.go x t) := h
theorem DoesM.wait {F R : Nat} {s t : State} (h : Does F R s t) : DoesM F R s (.wait t) := h
theorem DoesM.err (F R : Nat) (s : State) (c : Nat) : DoesM F R s (.err c) := trivial

theorem DoesM.via {F R : Nat} {s x : State} {t : MRes} (h : Does F R s x) (k : Does F R s x → DoesM F R s t) : DoesM F R s t := k h

theorem DoesM.ite {F R : Nat} {s : State} {a b : MRes} {c : Prop} [Decidable c]
    (ha : c → DoesM F R s a) (hb : ¬c → DoesM F R s b) : DoesM F R s (if c then a else b) := by
  by_cases h : c
  · rw [if_pos h]; exact ha h
  · rw [if_neg h]; exact hb h

theorem DoesM.step {m r F R : Nat} {s s1 : State} {x : MRes} (a : DoesM m r s1 x) (hf : Sub m F) (hr : Sub r R)
    (h : Does F R s s1) : DoesM F R s x := by
  cases x with
  | go y t => exact Does.step a hf hr h
  | wait t => exact Does.step a hf hr h
  | err c => trivial

/-- A meaning answers a next state that an operation of these bounds reaches. -/
def DoesO (F R : Nat) (s : State) (o : Host.Outcome State Fault Refusal) : Prop := ∃ t, o = .next t ∧ Does F R s t

theorem DoesO.next {F R : Nat} {s t : State} (h : Does F R s t) : DoesO F R s (.next t) := ⟨t, rfl, h⟩

theorem DoesO.via {F R : Nat} {s x : State} {o : Host.Outcome State Fault Refusal} (h : Does F R s x)
    (k : Does F R s x → DoesO F R s o) : DoesO F R s o := k h

theorem DoesO.ite {F R : Nat} {s : State} {a b : Host.Outcome State Fault Refusal} {c : Prop} [Decidable c]
    (ha : c → DoesO F R s a) (hb : ¬c → DoesO F R s b) : DoesO F R s (if c then a else b) := by
  by_cases h : c
  · rw [if_pos h]; exact ha h
  · rw [if_neg h]; exact hb h

theorem DoesO.mono {F R G Q : Nat} {s : State} {o : Host.Outcome State Fault Refusal} (a : DoesO F R s o) (hf : Sub F G)
    (hr : Sub R Q) : DoesO G Q s o := a.imp (fun _ h => ⟨h.1, h.2.mono hf hr⟩)

end Sys2Proof.Machine
end

