-- ==== Sys2Proof/Laws/DoesOps.lean ====
section
/-! SUPPORT. What each operation and meaning of Machine/Ops.lean may touch. -/

namespace Sys2Proof.Machine

open Sys2Proof

set_option linter.unusedVariables false

/-- The mask of all registers. -/
theorem all_bit {i : ℕ} (h : i < 267) : Nat.testBit 0x7ffffffffffffffffffffffffffffffffffffffffffffffffffffffffffffffffff i = true := by
  rw [show (0x7ffffffffffffffffffffffffffffffffffffffffffffffffffffffffffffffffff : ℕ) = 2 ^ 267 - 1 by decide, Nat.testBit_two_pow_sub_one]
  simpa using h

/-- Whole ticks stay whole. -/
theorem wholeTicks_add {s : State} (h : s.wholeTicks = true) (n : Nat) :
    ({ s with now := s.now + ticks n } : State).wholeTicks = true := by
  simp only [State.wholeTicks, beq_iff_eq, ticks, BitVec.toNat_add, BitVec.toNat_ofNat] at h ⊢
  omega

theorem wholeTicks_sub {s : State} (h : s.wholeTicks = true) (k : Int) :
    ({ s with now := s.now - BitVec.ofInt 64 (k * 1024) } : State).wholeTicks = true := by
  simp only [State.wholeTicks, beq_iff_eq, BitVec.toNat_sub, BitVec.toNat_ofInt] at h ⊢
  omega

/-- Every register has an index below the number of registers. -/
theorem Reg.ctorIdx_lt (r : Reg) : r.ctorIdx < 267 := by
  cases r <;> decide

/-- A reset of registers: every other field is kept. -/
theorem State.resetRegs_does (s : State) (l : Lvl) (p : FKey → Bool) :
    Does 0x100000000000000001 0x7ffffffffffffffffffffffffffffffffffffffffffffffffffffffffffffffffff s (s.resetRegs l p) := by
  refine Does.trans (t := { s with regs := s.regs.filter (fun e => !(p e.1 && e.1.clears l)) }) ?_
    (Does.upd_atTick _ (by decide) (Does.upd_latch _ (by decide) (Does.refl ..)))
  have h0 := Does.refl 0x100000000000000001 0x7ffffffffffffffffffffffffffffffffffffffffffffffffffffffffffffffffff s
  refine { h0 with regs := ?_, canon := ?_ }
  · intro k hk
    have : k.reg.ctorIdx < 267 := Reg.ctorIdx_lt k.reg
    rw [all_bit this] at hk
    exact nomatch hk
  · intro hc
    simp only [State.canonical, Bool.and_eq_true, State.regsOk] at hc ⊢
    exact ⟨⟨Store.filter_wf hc.1.1 _, hc.1.2⟩, hc.2⟩

theorem State.setGang_does (s : State) (n : ℕ) (g : Gang) :
    Does 0x8 0x0 s (State.setGang s n g) := by
  unfold State.setGang
  refine Does.upd_gangs _ (by decide) ?_
  exact Does.refl ..

theorem State.setPod_does (s : State) (n : ℕ) (p : PodX) :
    Does 0x10 0x0 s (State.setPod s n p) := by
  unfold State.setPod
  refine Does.upd_pods _ (by decide) ?_
  exact Does.refl ..

theorem State.setPin_does (s : State) (n : ℕ) (p : PinX) :
    Does 0x20 0x0 s (State.setPin s n p) := by
  unfold State.setPin
  refine Does.upd_pins _ (by decide) ?_
  exact Does.refl ..

theorem State.setIu_does (s : State) (n : ℕ) (x : IuX) :
    Does 0x40 0x0 s (State.setIu s n x) := by
  unfold State.setIu
  refine Does.upd_ius _ (by decide) ?_
  exact Does.refl ..

theorem State.setWave_does (s : State) (n : ℕ) (x : WaveX) :
    Does 0x800 0x0 s (State.setWave s n x) := by
  unfold State.setWave
  refine Does.upd_waves _ (by decide) ?_
  exact Does.refl ..

theorem State.setRail_does (s : State) (n : ℕ) (x : RailX) :
    Does 0x1000 0x0 s (State.setRail s n x) := by
  unfold State.setRail
  refine Does.upd_rails _ (by decide) ?_
  exact Does.refl ..

theorem State.setSiteX_does (s : State) (n : ℕ) (x : SiteX) :
    Does 0x2000 0x0 s (State.setSiteX s n x) := by
  unfold State.setSiteX
  refine Does.upd_sites _ (by decide) ?_
  exact Does.refl ..

theorem State.setDie_does (s : State) (n : ℕ) (x : DieX) :
    Does 0x4000 0x0 s (State.setDie s n x) := by
  unfold State.setDie
  refine Does.upd_dies _ (by decide) ?_
  exact Does.refl ..

theorem State.setQp_does (s : State) (n : ℕ) (x : QpX) :
    Does 0x40000000 0x0 s (State.setQp s n x) := by
  unfold State.setQp
  refine Does.upd_qps _ (by decide) ?_
  exact Does.refl ..

theorem State.setEvr_does (s : State) (n : ℕ) (x : EvrX) :
    Does 0x80000000 0x0 s (State.setEvr s n x) := by
  unfold State.setEvr
  refine Does.upd_evrs _ (by decide) ?_
  exact Does.refl ..

theorem State.setStrm_does (s : State) (n : ℕ) (x : StrmX) :
    Does 0x400000000 0x0 s (State.setStrm s n x) := by
  unfold State.setStrm
  refine Does.upd_strms _ (by decide) ?_
  exact Does.refl ..

theorem State.setSnap_does (s : State) (n : ℕ) (x : SnapX) :
    Does 0x800000000 0x0 s (State.setSnap s n x) := by
  unfold State.setSnap
  refine Does.upd_snaps _ (by decide) ?_
  exact Does.refl ..

theorem State.setGstate_does (s : State) (n : ℕ) (v : ℕ) :
    Does 0x0 0x400000000000000000000000000000000000000000000000000 s (State.setGstate s n v) := by
  unfold State.setGstate
  refine Does.wrAll _ _ _ (by decide) ?_
  exact Does.refl ..

theorem State.pulse_does (s : State) (code : ℕ) (unit : ℕ) (n : ℕ) (anyUnit : Bool) :
    Does 0x8000000 0x0 s (State.pulse s code unit n anyUnit) := by
  unfold State.pulse
  refine Does.upd_pmc _ (by decide) ?_
  exact Does.refl ..

theorem State.emit_does (s : State) (r : EvRec) :
    Does 0x800000 0x0 s (State.emit s r) := by
  unfold State.emit
  refine Does.ite (fun _ => ?_) (fun _ => ?_)
  · refine Does.upd_evq _ (by decide) ?_
    exact Does.refl ..
  · exact Does.refl ..

theorem State.raise_does (s : State) (src : ℕ) (info : ℕ) (payload : List ℕ) (stamp : Stamp) :
    Does 0x9800008 0x0 s (State.raise s src info payload stamp) := by
  unfold State.raise
  extract_lets +onlyGivenNames x0
  clear_value x0
  extract_lets +onlyGivenNames x1
  refine Does.via (x := x1) ?_ (fun _ => ?_)
  · subst x1
    refine Does.step (State.emit_does ..) (by decide) (by decide) ?_
    exact Does.refl ..
  clear_value x1
  extract_lets +onlyGivenNames x2
  refine Does.via (x := x2) ?_ (fun _ => ?_)
  · subst x2
    refine Does.upd_gangs_seqs _ _ (by decide) (by decide) ?_
    assumption
  clear_value x2
  refine Does.step (State.pulse_does ..) (by decide) (by decide) ?_
  assumption

theorem State.record_does (s : State) (src : ℕ) (kind : ℕ) (payload : List ℕ) (stamp : Stamp) (ring : Option ℕ) :
    Does 0x1800000 0x0 s (State.record s src kind payload stamp ring) := by
  unfold State.record
  extract_lets +onlyGivenNames x0
  clear_value x0
  extract_lets +onlyGivenNames x1
  clear_value x1
  extract_lets +onlyGivenNames x2
  refine Does.via (x := x2) ?_ (fun _ => ?_)
  · subst x2
    refine Does.step (State.emit_does ..) (by decide) (by decide) ?_
    exact Does.refl ..
  clear_value x2
  refine Does.upd_seqs _ (by decide) ?_
  assumption

theorem State.detect_does (s : State) (src : ℕ) (unit : ℕ) (detail : ℕ) :
    Does 0x4000002000000 0x0 s (State.detect s src unit detail) := by
  unfold State.detect
  refine Does.upd_faultq_live _ _ (by decide) (by decide) ?_
  exact Does.refl ..

theorem State.endLive_does (s : State) (src : ℕ) (unit : Option ℕ) :
    Does 0x4000000000000 0x1000000000000000000000000000000 s (State.endLive s src unit) := by
  unfold State.endLive
  extract_lets +onlyGivenNames x0
  clear_value x0
  extract_lets +onlyGivenNames x1
  refine Does.via (x := x1) ?_ (fun _ => ?_)
  · subst x1
    refine Does.upd_live _ (by decide) ?_
    exact Does.refl ..
  clear_value x1
  refine Does.ite (fun _ => ?_) (fun _ => ?_)
  · assumption
  · refine Does.wr _ _ _ _ (by decide) ?_
    assumption

theorem State.tookFree_does (s : State) :
    Does 0x4 0x0 s (State.tookFree s) := by
  unfold State.tookFree
  refine Does.upd_free _ (by decide) ?_
  exact Does.refl ..

end Sys2Proof.Machine
end

