-- ==== Sys2Proof/Laws/DoesLedger.lean ====
section
/-! SUPPORT. What each operation and meaning of Machine/Ledger.lean may touch. -/

namespace Sys2Proof.Machine

open Sys2Proof

set_option linter.unusedVariables false

theorem State.deviceEntry_does (s : State) (n : ℕ) (result : ℕ) (err : ℕ) (bin : ℕ) (stamp : Stamp) :
    Does 0x10000008 0x12000000000000000000000000000000000000000000000000 s (State.deviceEntry s n result err bin stamp) := by
  unfold State.deviceEntry
  extract_lets +onlyGivenNames x0
  clear_value x0
  refine Does.ite (fun _ => ?_) (fun _ => ?_)
  · exact Does.refl ..
  · extract_lets +onlyGivenNames x1
    refine Does.via (x := x1) ?_ (fun _ => ?_)
    · subst x1
      refine Does.step (State.setGang_does ..) (by decide) (by decide) ?_
      exact Does.refl ..
    clear_value x1
    refine Does.ite (fun _ => ?_) (fun _ => ?_)
    · refine Does.wr _ _ _ _ (by decide) ?_
      refine Does.bump _ _ _ _ (by decide) ?_
      assumption
    · refine Does.upd_ledgq _ (by decide) ?_
      assumption

theorem State.ledgerVisible_does (s : State) :
    Does 0x18480000 0x800000000000000000000000000000000000000000000000 s (State.ledgerVisible s) := by
  unfold State.ledgerVisible
  split
  · exact Does.refl ..
  · extract_lets +onlyGivenNames x0
    clear_value x0
    extract_lets +onlyGivenNames x1
    clear_value x1
    extract_lets +onlyGivenNames x2
    refine Does.via (x := x2) ?_ (fun _ => ?_)
    · subst x2
      refine Does.upd_ledgMem_runs_ledgq _ _ _ ?_ (by decide) (by decide) (by decide) ?_
      · exact fun h => Memory.writeBytes_wf h _ _
      · exact Does.refl ..
    clear_value x2
    extract_lets +onlyGivenNames x3
    refine Does.via (x := x3) ?_ (fun _ => ?_)
    · subst x3
      refine Does.wr _ _ _ _ (by decide) ?_
      refine Does.wr _ _ _ _ (by decide) ?_
      assumption
    clear_value x3
    refine Does.step (State.pulse_does ..) (by decide) (by decide) ?_
    assumption

end Sys2Proof.Machine
end

