-- ==== Sys2Proof/Laws/DoesSiteOps.lean ====
section
/-! SUPPORT. What each operation and meaning of Machine/SiteOps.lean may touch. -/

namespace Sys2Proof.Machine

open Sys2Proof

set_option linter.unusedVariables false

theorem State.siteFail_does (s : State) (n : ℕ) (seq : ℕ) (pos : ℕ) :
    Does 0x8 0x3c0000000000000000000000000000000000000 s (State.siteFail s n seq pos) := by
  unfold State.siteFail
  extract_lets +onlyGivenNames x0
  clear_value x0
  extract_lets +onlyGivenNames x1
  refine Does.via (x := x1) ?_ (fun _ => ?_)
  · subst x1
    refine Does.bump _ _ _ _ (by decide) ?_
    refine Does.wr _ _ _ _ (by decide) ?_
    exact Does.refl ..
  clear_value x1
  extract_lets +onlyGivenNames x2
  refine Does.via (x := x2) ?_ (fun _ => ?_)
  · subst x2
    refine Does.ite (fun _ => ?_) (fun _ => ?_)
    · refine Does.wr _ _ _ _ (by decide) ?_
      refine Does.wr _ _ _ _ (by decide) ?_
      assumption
    · assumption
  clear_value x2
  extract_lets +onlyGivenNames x3
  clear_value x3
  refine Does.ite (fun _ => ?_) (fun _ => ?_)
  · refine Does.step (State.setGang_does ..) (by decide) (by decide) ?_
    assumption
  · assumption

theorem State.clearFail_does (s : State) (n : ℕ) (seq : ℕ) :
    Does 0x8 0x3c0000000000000000000000000000000000000 s (State.clearFail s n seq) := by
  unfold State.clearFail
  extract_lets +onlyGivenNames x0
  clear_value x0
  extract_lets +onlyGivenNames x1
  clear_value x1
  extract_lets +onlyGivenNames x2
  refine Does.via (x := x2) ?_ (fun _ => ?_)
  · subst x2
    refine Does.step (State.setGang_does ..) (by decide) (by decide) ?_
    exact Does.refl ..
  clear_value x2
  extract_lets +onlyGivenNames x3
  refine Does.via (x := x3) ?_ (fun _ => ?_)
  · subst x3
    refine Does.wr _ _ _ _ (by decide) ?_
    refine Does.wr _ _ _ _ (by decide) ?_
    assumption
  clear_value x3
  extract_lets +onlyGivenNames x4
  clear_value x4
  refine Does.wr _ _ _ _ (by decide) ?_
  refine Does.wr _ _ _ _ (by decide) ?_
  assumption

theorem State.setTag_does (s : State) (n : ℕ) (tag : ℕ) (res : ℕ) :
    Does 0x0 0x1000000000000000000000000000000000000000 s (State.setTag s n tag res) := by
  unfold State.setTag
  refine Does.ite (fun _ => ?_) (fun _ => ?_)
  · exact Does.refl ..
  · extract_lets +onlyGivenNames x0
    clear_value x0
    refine Does.wr _ _ _ _ (by decide) ?_
    exact Does.refl ..

theorem State.setTagAt_does (s : State) (n : ℕ) (tag : ℕ) (res : ℕ) (seq : ℕ) :
    Does 0x8 0x1000000000000000000000000000000000000000 s (State.setTagAt s n tag res seq) := by
  unfold State.setTagAt
  extract_lets +onlyGivenNames x0
  clear_value x0
  refine Does.ite (fun _ => ?_) (fun _ => ?_)
  · exact Does.refl ..
  · refine Does.step (State.setTag_does ..) (by decide) (by decide) ?_
    refine Does.step (State.setGang_does ..) (by decide) (by decide) ?_
    exact Does.refl ..

theorem State.loadGc_does (s : State) (n : ℕ) (k : ℕ) (v : ℕ) (t : Stamp) :
    Does 0x8 0x4000000000000000000000000000000000000000 s (State.loadGc s n k v t) := by
  unfold State.loadGc
  extract_lets +onlyGivenNames x0
  clear_value x0
  split
  · refine Does.step (State.setGang_does ..) (by decide) (by decide) ?_
    exact Does.refl ..
  · refine Does.wr _ _ _ _ (by decide) ?_
    exact Does.refl ..

theorem State.setGc_does (s : State) (n : ℕ) (k : ℕ) (v : ℕ) :
    Does 0x8 0x4000000000000000000000000000000000000000 s (State.setGc s n k v) := by
  unfold State.setGc
  extract_lets +onlyGivenNames x0
  clear_value x0
  refine Does.wr _ _ _ _ (by decide) ?_
  refine Does.step (State.setGang_does ..) (by decide) (by decide) ?_
  exact Does.refl ..

theorem State.evStop_does (s : State) (n : ℕ) (k : ℕ) (till : Option Stamp) :
    Does 0x8 0x4000000000000000000000000000000000000000 s (State.evStop s n k till) := by
  unfold State.evStop
  split
  · refine Does.step (State.setGc_does ..) (by decide) (by decide) ?_
    exact Does.refl ..
  · exact Does.refl ..

theorem State.evStopAll_does (s : State) (n : ℕ) :
    Does 0x8 0x4000000000000000000000000000000000000000 s (State.evStopAll s n) := by
  unfold State.evStopAll
  refine Does.step (State.evStop_does ..) (by decide) (by decide) ?_
  refine Does.step (State.evStop_does ..) (by decide) (by decide) ?_
  refine Does.step (State.evStop_does ..) (by decide) (by decide) ?_
  refine Does.step (State.evStop_does ..) (by decide) (by decide) ?_
  exact Does.refl ..

theorem State.measResult_does (s : State) (n : ℕ) (dst : ℕ) (tok : ℕ) (v : ℕ) :
    Does 0x8 0x6000000000000000000000000000000000000000 s (State.measResult s n dst tok v) := by
  unfold State.measResult
  extract_lets +onlyGivenNames x0
  clear_value x0
  extract_lets +onlyGivenNames x1
  clear_value x1
  extract_lets +onlyGivenNames x2
  clear_value x2
  extract_lets +onlyGivenNames x3
  refine Does.via (x := x3) ?_ (fun _ => ?_)
  · subst x3
    refine Does.step (State.setGang_does ..) (by decide) (by decide) ?_
    exact Does.refl ..
  clear_value x3
  refine Does.ite (fun _ => ?_) (fun _ => ?_)
  · refine Does.wr _ _ _ _ (by decide) ?_
    refine Does.wr _ _ _ _ (by decide) ?_
    assumption
  · assumption

theorem State.pflag_does (s : State) (n : ℕ) (k : ℕ) :
    Does 0x0 0x40000000000000000000000000000000000000 s (State.pflag s n k) := by
  unfold State.pflag
  refine Does.ite (fun _ => ?_) (fun _ => ?_)
  · refine Does.wr _ _ _ _ (by decide) ?_
    exact Does.refl ..
  · refine Does.ite (fun _ => ?_) (fun _ => ?_)
    · refine Does.wr _ _ _ _ (by decide) ?_
      exact Does.refl ..
    · refine Does.ite (fun _ => ?_) (fun _ => ?_)
      · refine Does.wr _ _ _ _ (by decide) ?_
        exact Does.refl ..
      · refine Does.wr _ _ _ _ (by decide) ?_
        exact Does.refl ..

end Sys2Proof.Machine
end

