-- ==== Sys2Proof/Laws/DoesSegOps.lean ====
section
/-! SUPPORT. What each operation and meaning of Machine/SegOps.lean may touch. -/

namespace Sys2Proof.Machine

open Sys2Proof

set_option linter.unusedVariables false

theorem State.setSeg_does (s : State) (pod : ℕ) (k : ℕ) (x : SegX) :
    Does 0x10 0x0 s (State.setSeg s pod k x) := by
  unfold State.setSeg
  refine Does.step (State.setPod_does ..) (by decide) (by decide) ?_
  exact Does.refl ..

theorem State.startLoad_does (s : State) (pod : ℕ) (k : ℕ) (src : ℕ) (cls : ℕ) :
    Does 0x10 0x0 s (State.startLoad s pod k src cls) := by
  unfold State.startLoad
  extract_lets +onlyGivenNames x0
  clear_value x0
  refine Does.step (State.setSeg_does ..) (by decide) (by decide) ?_
  exact Does.refl ..

theorem State.retire_does (s : State) (pod : ℕ) (k : ℕ) :
    Does 0x800000000000010 0x0 s (State.retire s pod k) := by
  unfold State.retire
  extract_lets +onlyGivenNames x0
  clear_value x0
  refine Does.ite (fun _ => ?_) (fun _ => ?_)
  · exact Does.refl ..
  · refine Does.ite (fun _ => ?_) (fun _ => ?_)
    · refine Does.step (State.setSeg_does ..) (by decide) (by decide) ?_
      exact Does.refl ..
    · extract_lets +onlyGivenNames x1
      refine Does.via (x := x1) ?_ (fun _ => ?_)
      · subst x1
        refine Does.step (State.startLoad_does ..) (by decide) (by decide) ?_
        refine Does.step (State.setSeg_does ..) (by decide) (by decide) ?_
        exact Does.refl ..
      clear_value x1
      refine Does.upd_tok _ (by decide) ?_
      assumption

theorem State.rewindPod_does (s : State) (pod : ℕ) :
    Does 0x10 0x0 s (State.rewindPod s pod) := by
  unfold State.rewindPod
  refine Does.foldl (fun _ _ _ => ?_) ?_
  · extract_lets +onlyGivenNames x0
    clear_value x0
    extract_lets +onlyGivenNames x1
    clear_value x1
    extract_lets +onlyGivenNames x2
    refine Does.via (x := x2) ?_ (fun _ => ?_)
    · subst x2
      refine Does.ite (fun _ => ?_) (fun _ => ?_)
      · refine Does.step (State.setSeg_does ..) (by decide) (by decide) ?_
        assumption
      · assumption
    clear_value x2
    refine Does.ite (fun _ => ?_) (fun _ => ?_)
    · refine Does.step (State.startLoad_does ..) (by decide) (by decide) ?_
      refine Does.step (State.setSeg_does ..) (by decide) (by decide) ?_
      assumption
    · assumption
  · exact Does.refl ..

theorem State.copyIn_does (s : State) (pod : ℕ) (x : SegX) (src : ℕ) (a4 : ℕ) :
    Does 0x8000 0x0 s (State.copyIn s pod x src a4) := by
  induction' a4 with n ih generalizing s pod x src
  · unfold State.copyIn
    exact Does.refl ..
  · unfold State.copyIn
    extract_lets +onlyGivenNames x0
    refine Does.via (x := x0) ?_ (fun _ => ?_)
    · subst x0
      refine Does.upd_segMem _ ?_ (by decide) ?_
      · exact fun h => Memory.writeBytes_wf h _ _
      · exact Does.refl ..
    clear_value x0
    refine Does.step (ih ..) (Sub.refl _) (Sub.refl _) ?_
    assumption

theorem State.finishLoad_does (s : State) (pod : ℕ) (k : ℕ) :
    Does 0x8008010 0x200000000000000000000000000000000000000000000000 s (State.finishLoad s pod k) := by
  unfold State.finishLoad
  extract_lets +onlyGivenNames x0
  clear_value x0
  extract_lets +onlyGivenNames x1
  refine Does.via (x := x1) ?_ (fun _ => ?_)
  · subst x1
    refine Does.step (State.setSeg_does ..) (by decide) (by decide) ?_
    refine Does.step (State.copyIn_does ..) (by decide) (by decide) ?_
    exact Does.refl ..
  clear_value x1
  refine Does.bump _ _ _ _ (by decide) ?_
  refine Does.step (State.pulse_does ..) (by decide) (by decide) ?_
  assumption

theorem State.urgent_does (s : State) (pod : ℕ) (k : ℕ) :
    Does 0x10 0x0 s (State.urgent s pod k) := by
  unfold State.urgent
  extract_lets +onlyGivenNames x0
  clear_value x0
  refine Does.ite (fun _ => ?_) (fun _ => ?_)
  · refine Does.step (State.setSeg_does ..) (by decide) (by decide) ?_
    exact Does.refl ..
  · exact Does.refl ..

theorem State.streamUr_does (s : State) (pod : ℕ) (t : ℕ) (g : ℕ) (at_ : Stamp) :
    Does 0x409800008 0xa0000000000000000000000000000000000000000000000 s (State.streamUr s pod t g at_) := by
  unfold State.streamUr
  extract_lets +onlyGivenNames x0
  clear_value x0
  extract_lets +onlyGivenNames x1
  refine Does.via (x := x1) ?_ (fun _ => ?_)
  · subst x1
    refine Does.step (State.setStrm_does ..) (by decide) (by decide) ?_
    exact Does.refl ..
  clear_value x1
  refine Does.step (State.raise_does ..) (by decide) (by decide) ?_
  refine Does.bump _ _ _ _ (by decide) ?_
  refine Does.wr _ _ _ _ (by decide) ?_
  assumption

end Sys2Proof.Machine
end

