-- ==== Sys2Proof/Laws/DoesPinOps.lean ====
section
/-! SUPPORT. What each operation and meaning of Machine/PinOps.lean may touch. -/

namespace Sys2Proof.Machine

open Sys2Proof

set_option linter.unusedVariables false

theorem State.syncPin_does (s : State) (n : ℕ) :
    Does 0x20 0x0 s (State.syncPin s n) := by
  unfold State.syncPin
  refine Does.step (State.setPin_does ..) (by decide) (by decide) ?_
  exact Does.refl ..

theorem State.restartPin_does (s : State) (n : ℕ) :
    Does 0x20 0x0 s (State.restartPin s n) := by
  unfold State.restartPin
  refine Does.step (State.setPin_does ..) (by decide) (by decide) ?_
  exact Does.refl ..

theorem State.syncPins_does (s : State) :
    Does 0x20 0x0 s (State.syncPins s) := by
  unfold State.syncPins
  refine Does.foldl (fun _ _ _ => ?_) ?_
  · refine Does.step (State.syncPin_does ..) (by decide) (by decide) ?_
    assumption
  · exact Does.refl ..

theorem State.eyeStop_does (s : State) (p : ℕ) :
    Does 0x10 0xa0000000000000000000000000000000000000000000000000000000000 s (State.eyeStop s p) := by
  unfold State.eyeStop
  refine Does.ite (fun _ => ?_) (fun _ => ?_)
  · exact Does.refl ..
  · extract_lets +onlyGivenNames x0
    clear_value x0
    extract_lets +onlyGivenNames x1
    refine Does.via (x := x1) ?_ (fun _ => ?_)
    · subst x1
      refine Does.wr _ _ _ _ (by decide) ?_
      refine Does.step (State.setPod_does ..) (by decide) (by decide) ?_
      exact Does.refl ..
    clear_value x1
    refine Does.wr _ _ _ _ (by decide) ?_
    refine Does.wr _ _ _ _ (by decide) ?_
    refine Does.wr _ _ _ _ (by decide) ?_
    refine Does.wr _ _ _ _ (by decide) ?_
    assumption

theorem State.forceDrv_does (s : State) (n : ℕ) (st : ℕ) :
    Does 0x20 0x0 s (State.forceDrv s n st) := by
  unfold State.forceDrv
  refine Does.step (State.setPin_does ..) (by decide) (by decide) ?_
  exact Does.refl ..

theorem State.lose_doesF3 {F R : Nat} {s0 s : State} {pod cause pin : Nat} {stamp : Stamp} {flag : Fld}
    (hF : Sub 0x8000018 F) (hR : Sub 0x400000000000000000000000000000000000000000000000000000000000000 R) (hb : Has R flag.reg.ctorIdx) (h : Does F R s0 s) :
    Does F R s0 (s.lose pod cause pin stamp flag) := by
  have h1 : Does F R s0 (s.setPod pod (s.pod pod)) := Does.step (State.setPod_does ..) (Sub.trans (by decide) hF) (Sub.zero R) h
  unfold State.lose
  extract_lets x runs s1 s2 s3
  have h1 : Does F R s0 s1 := Does.step (State.setPod_does ..) (Sub.trans (by decide) hF) (Sub.zero R) h
  have h2 : Does F R s0 s2 :=
    Does.wr _ _ _ _ hb (Does.step (Does.bump _ _ _ _ (by decide) (Does.refl 0 0x400000000000000000000000000000000000000000000000000000000000000 s1)) (Sub.zero F) hR h1)
  have h3 : Does F R s0 s3 := Does.step (State.pulse_does ..) (Sub.trans (by decide) hF) (Sub.zero R) h2
  split
  · exact Does.step (State.setGang_does ..) (Sub.trans (by decide) hF) (Sub.zero R) h3
  · exact h3

theorem State.pushFail_does (s : State) (pod : ℕ) (r : CapRec) :
    Does 0x8000018 0x480000000000000000000000000000000000000000000000000000000000000 s (State.pushFail s pod r) := by
  unfold State.pushFail
  extract_lets +onlyGivenNames x0
  clear_value x0
  refine Does.ite (fun _ => ?_) (fun _ => ?_)
  · refine State.lose_doesF3 (by decide) (by decide) (by decide) ?_
    exact Does.refl ..
  · refine Does.step (State.setPod_does ..) (by decide) (by decide) ?_
    exact Does.refl ..

theorem State.mapFail_does (s : State) (pod : ℕ) (pin : ℕ) (pos : ℕ) :
    Does 0x40000 0x80000000000000000000000000000000000000000000000000000000000000 s (State.mapFail s pod pin pos) := by
  unfold State.mapFail
  extract_lets +onlyGivenNames x0
  clear_value x0
  extract_lets +onlyGivenNames x1
  clear_value x1
  extract_lets +onlyGivenNames x2
  clear_value x2
  refine Does.ite (fun _ => ?_) (fun _ => ?_)
  · refine Does.wr _ _ _ _ (by decide) ?_
    exact Does.refl ..
  · extract_lets +onlyGivenNames x3
    clear_value x3
    refine Does.upd_capMem _ ?_ (by decide) ?_
    · exact fun h => Memory.write_wf h _ _
    · exact Does.refl ..

theorem State.captureFail_does (s : State) (pod : ℕ) (pin : ℕ) (e : CmpEdge) (state : ℕ) :
    Does 0x8040018 0x680000000000000000000000000000000000000000000000000000000000000 s (State.captureFail s pod pin e state) := by
  unfold State.captureFail
  extract_lets +onlyGivenNames x0
  refine Does.via (x := x0) ?_ (fun _ => ?_)
  · subst x0
    refine Does.step (State.pulse_does ..) (by decide) (by decide) ?_
    refine Does.wr _ _ _ _ (by decide) ?_
    exact Does.refl ..
  clear_value x0
  extract_lets +onlyGivenNames x1
  clear_value x1
  extract_lets +onlyGivenNames x2
  refine Does.via (x := x2) ?_ (fun _ => ?_)
  · subst x2
    refine Does.ite (fun _ => ?_) (fun _ => ?_)
    · refine Does.step (State.mapFail_does ..) (by decide) (by decide) ?_
      assumption
    · assumption
  clear_value x2
  refine Does.ite (fun _ => ?_) (fun _ => ?_)
  · assumption
  · extract_lets +onlyGivenNames x3
    clear_value x3
    extract_lets +onlyGivenNames x4
    clear_value x4
    refine Does.ite (fun _ => ?_) (fun _ => ?_)
    · refine Does.wr _ _ _ _ (by decide) ?_
      assumption
    · extract_lets +onlyGivenNames x5
      refine Does.via (x := x5) ?_ (fun _ => ?_)
      · subst x5
        refine Does.step (State.setPod_does ..) (by decide) (by decide) ?_
        assumption
      clear_value x5
      extract_lets +onlyGivenNames x6
      refine Does.via (x := x6) ?_ (fun _ => ?_)
      · subst x6
        refine Does.ite (fun _ => ?_) (fun _ => ?_)
        · refine Does.wr _ _ _ _ (by decide) ?_
          assumption
        · assumption
      clear_value x6
      refine Does.step (State.pushFail_does ..) (by decide) (by decide) ?_
      assumption

end Sys2Proof.Machine
end

