-- ==== Sys2Proof/Laws/DoesRailOps.lean ====
section
/-! SUPPORT. What each operation and meaning of Machine/RailOps.lean may touch. -/

namespace Sys2Proof.Machine

open Sys2Proof

set_option linter.unusedVariables false

theorem State.unqualify_does (s : State) (n : ℕ) (r : ℕ) :
    Does 0x2000 0x0 s (State.unqualify s n r) := by
  unfold State.unqualify
  extract_lets +onlyGivenNames x0
  clear_value x0
  refine Does.step (State.setSiteX_does ..) (by decide) (by decide) ?_
  exact Does.refl ..

theorem State.qualify_does (s : State) (r : ℕ) :
    Does 0x2000 0x0 s (State.qualify s r) := by
  unfold State.qualify
  split
  · exact Does.refl ..
  · extract_lets +onlyGivenNames x0
    clear_value x0
    refine Does.step (State.setSiteX_does ..) (by decide) (by decide) ?_
    exact Does.refl ..

theorem State.startRamp_does (s : State) (r : ℕ) (target : ℕ) (slew : ℕ) :
    Does 0x3000 0x4000000000000000000000000000000000000000000 s (State.startRamp s r target slew) := by
  unfold State.startRamp
  extract_lets +onlyGivenNames x0
  clear_value x0
  extract_lets +onlyGivenNames x1
  clear_value x1
  extract_lets +onlyGivenNames x2
  clear_value x2
  extract_lets +onlyGivenNames x3
  clear_value x3
  extract_lets +onlyGivenNames x4
  refine Does.via (x := x4) ?_ (fun _ => ?_)
  · subst x4
    refine Does.step (State.setRail_does ..) (by decide) (by decide) ?_
    exact Does.refl ..
  clear_value x4
  extract_lets +onlyGivenNames x5
  refine Does.via (x := x5) ?_ (fun _ => ?_)
  · subst x5
    refine Does.wr _ _ _ _ (by decide) ?_
    assumption
  clear_value x5
  refine Does.ite (fun _ => ?_) (fun _ => ?_)
  · split
    · refine Does.step (State.unqualify_does ..) (by decide) (by decide) ?_
      assumption
    · assumption
  · assumption

theorem State.startDown_does (s : State) (r : ℕ) (slew : ℕ) :
    Does 0x1000 0x4000000000000000000000000000000000000000000 s (State.startDown s r slew) := by
  unfold State.startDown
  refine Does.ite (fun _ => ?_) (fun _ => ?_)
  · refine Does.step (State.setRail_does ..) (by decide) (by decide) ?_
    exact Does.refl ..
  · extract_lets +onlyGivenNames x0
    clear_value x0
    extract_lets +onlyGivenNames x1
    clear_value x1
    refine Does.wr _ _ _ _ (by decide) ?_
    refine Does.step (State.setRail_does ..) (by decide) (by decide) ?_
    exact Does.refl ..

theorem State.ramp_does (s : State) (r : ℕ) (target : ℕ) (slew : ℕ) :
    Does 0x3000 0x4000000000000000000000000000000000000000000 s (State.ramp s r target slew) := by
  unfold State.ramp
  refine Does.ite (fun _ => ?_) (fun _ => ?_)
  · refine Does.step (State.startDown_does ..) (by decide) (by decide) ?_
    exact Does.refl ..
  · refine Does.step (State.startRamp_does ..) (by decide) (by decide) ?_
    exact Does.refl ..

theorem State.rampSite_does (s : State) (n : ℕ) (acts : List (ℕ × ℕ × ℕ)) :
    Does 0x3000 0x4000000000000000000000000000000000000000000 s (State.rampSite s n acts) := by
  unfold State.rampSite
  extract_lets +onlyGivenNames x0
  subst x0
  extract_lets +onlyGivenNames x1
  subst x1
  split
  · refine Does.ite (fun _ => ?_) (fun _ => ?_)
    · simp only [List.foldl_cons, List.foldl_nil]
      refine Does.step (State.ramp_does ..) (by decide) (by decide) ?_
      refine Does.step (State.ramp_does ..) (by decide) (by decide) ?_
      exact Does.refl ..
    · extract_lets +onlyGivenNames x2
      clear_value x2
      extract_lets +onlyGivenNames x3
      clear_value x3
      extract_lets +onlyGivenNames x4
      clear_value x4
      extract_lets +onlyGivenNames x5
      clear_value x5
      refine Does.ite (fun _ => ?_) (fun _ => ?_)
      · simp only [List.foldl_cons, List.foldl_nil]
        refine Does.step (State.ramp_does ..) (by decide) (by decide) ?_
        refine Does.step (State.ramp_does ..) (by decide) (by decide) ?_
        exact Does.refl ..
      · refine Does.ite (fun _ => ?_) (fun _ => ?_)
        · beta_reduce
          extract_lets +onlyGivenNames x6
          clear_value x6
          extract_lets +onlyGivenNames x7
          refine Does.via (x := x7) ?_ (fun _ => ?_)
          · subst x7
            refine Does.step (State.setRail_does ..) (by decide) (by decide) ?_
            refine Does.step (State.ramp_does ..) (by decide) (by decide) ?_
            exact Does.refl ..
          clear_value x7
          refine Does.ite (fun _ => ?_) (fun _ => ?_)
          · refine Does.step (State.unqualify_does ..) (by decide) (by decide) ?_
            assumption
          · assumption
        · refine Does.ite (fun _ => ?_) (fun _ => ?_)
          · beta_reduce
            extract_lets +onlyGivenNames x8
            clear_value x8
            extract_lets +onlyGivenNames x9
            refine Does.via (x := x9) ?_ (fun _ => ?_)
            · subst x9
              refine Does.step (State.setRail_does ..) (by decide) (by decide) ?_
              refine Does.step (State.ramp_does ..) (by decide) (by decide) ?_
              exact Does.refl ..
            clear_value x9
            refine Does.ite (fun _ => ?_) (fun _ => ?_)
            · refine Does.step (State.unqualify_does ..) (by decide) (by decide) ?_
              assumption
            · assumption
          · refine Does.ite (fun _ => ?_) (fun _ => ?_)
            · beta_reduce
              extract_lets +onlyGivenNames x10
              clear_value x10
              extract_lets +onlyGivenNames x11
              refine Does.via (x := x11) ?_ (fun _ => ?_)
              · subst x11
                refine Does.step (State.setRail_does ..) (by decide) (by decide) ?_
                refine Does.step (State.ramp_does ..) (by decide) (by decide) ?_
                exact Does.refl ..
              clear_value x11
              refine Does.ite (fun _ => ?_) (fun _ => ?_)
              · refine Does.step (State.unqualify_does ..) (by decide) (by decide) ?_
                assumption
              · assumption
            · beta_reduce
              extract_lets +onlyGivenNames x12
              clear_value x12
              extract_lets +onlyGivenNames x13
              refine Does.via (x := x13) ?_ (fun _ => ?_)
              · subst x13
                refine Does.step (State.setRail_does ..) (by decide) (by decide) ?_
                refine Does.step (State.ramp_does ..) (by decide) (by decide) ?_
                exact Does.refl ..
              clear_value x13
              refine Does.ite (fun _ => ?_) (fun _ => ?_)
              · refine Does.step (State.unqualify_does ..) (by decide) (by decide) ?_
                assumption
              · assumption
  · refine Does.foldl (fun _ _ _ => ?_) ?_
    · refine Does.step (State.ramp_does ..) (by decide) (by decide) ?_
      assumption
    · exact Does.refl ..

theorem State.releaseWait_does (s : State) (r : ℕ) (cond : ℕ) :
    Does 0x3000 0x4000000000000000000000000000000000000000000 s (State.releaseWait s r cond) := by
  unfold State.releaseWait
  split
  · exact Does.refl ..
  · split
    · exact Does.refl ..
    · refine Does.ite (fun _ => ?_) (fun _ => ?_)
      · exact Does.refl ..
      · refine Does.ite (fun _ => ?_) (fun _ => ?_)
        · extract_lets +onlyGivenNames x0
          clear_value x0
          refine Does.ite (fun _ => ?_) (fun _ => ?_)
          · refine Does.step (State.ramp_does ..) (by decide) (by decide) ?_
            exact Does.refl ..
          · refine Does.step (State.setRail_does ..) (by decide) (by decide) ?_
            exact Does.refl ..
        · refine Does.step (State.ramp_does ..) (by decide) (by decide) ?_
          exact Does.refl ..

theorem State.openWindow_does (s : State) (n : ℕ) (src : ℕ) (waits : Bool) :
    Does 0x2000 0x0 s (State.openWindow s n src waits) := by
  unfold State.openWindow
  extract_lets +onlyGivenNames x0
  clear_value x0
  extract_lets +onlyGivenNames x1
  clear_value x1
  refine Does.step (State.setSiteX_does ..) (by decide) (by decide) ?_
  exact Does.refl ..

theorem State.wakeRecovery_does (s : State) (n : ℕ) :
    Does 0x2000 0x0 s (State.wakeRecovery s n) := by
  unfold State.wakeRecovery
  extract_lets +onlyGivenNames x0
  clear_value x0
  extract_lets +onlyGivenNames x1
  clear_value x1
  refine Does.step (State.setSiteX_does ..) (by decide) (by decide) ?_
  exact Does.refl ..

theorem State.refreshArm_does (s : State) (n : ℕ) :
    Does 0x2000 0x10000000000000000000000000000000000000000 s (State.refreshArm s n) := by
  unfold State.refreshArm
  extract_lets +onlyGivenNames x0
  extract_lets +onlyGivenNames x1
  extract_lets +onlyGivenNames x2
  refine Does.via (x := x2) ?_ (fun _ => ?_)
  · subst x2
    refine Does.wr _ _ _ _ (by decide) ?_
    exact Does.refl ..
  clear_value x2
  extract_lets +onlyGivenNames x3
  clear_value x3
  extract_lets +onlyGivenNames x4
  refine Does.via (x := x4) ?_ (fun _ => ?_)
  · subst x4
    refine Does.ite (fun _ => ?_) (fun _ => ?_)
    · refine Does.step (State.setSiteX_does ..) (by decide) (by decide) ?_
      assumption
    · assumption
  clear_value x4
  refine Does.ite (fun _ => ?_) (fun _ => ?_)
  · assumption
  · refine Does.wr _ _ _ _ (by decide) ?_
    assumption

theorem State.noteCause_does (s : State) (n : ℕ) (c : ℕ × ℕ × Stamp) :
    Does 0x0 0x10000000000000000000008010000000000000000000000000000000000000000 s (State.noteCause s n c) := by
  unfold State.noteCause
  refine Does.ite (fun _ => ?_) (fun _ => ?_)
  · refine Does.wr _ _ _ _ (by decide) ?_
    refine Does.wr _ _ _ _ (by decide) ?_
    exact Does.refl ..
  · refine Does.ite (fun _ => ?_) (fun _ => ?_)
    · refine Does.wr _ _ _ _ (by decide) ?_
      refine Does.wr _ _ _ _ (by decide) ?_
      exact Does.refl ..
    · refine Does.wr _ _ _ _ (by decide) ?_
      refine Does.wr _ _ _ _ (by decide) ?_
      exact Does.refl ..

end Sys2Proof.Machine
end

