-- ==== Sys2Proof/Laws/DoesMeasOps.lean ====
section
/-! SUPPORT. What each operation and meaning of Machine/MeasOps.lean may touch. -/

namespace Sys2Proof.Machine

open Sys2Proof

set_option linter.unusedVariables false

theorem State.iuWrite_does (s : State) (u : ℕ) (x : IuX) :
    Does 0x1800008 0x6000002000000000000000000000000000000000 s (State.iuWrite s u x) := by
  unfold State.iuWrite
  extract_lets +onlyGivenNames x0
  clear_value x0
  extract_lets +onlyGivenNames x1
  clear_value x1
  extract_lets +onlyGivenNames x2
  clear_value x2
  extract_lets +onlyGivenNames x3
  refine Does.via (x := x3) ?_ (fun _ => ?_)
  · subst x3
    refine Does.foldl (fun _ _ _ => ?_) ?_
    · extract_lets +onlyGivenNames x4
      clear_value x4
      refine Does.wr _ _ _ _ (by decide) ?_
      assumption
    · exact Does.refl ..
  clear_value x3
  extract_lets +onlyGivenNames x5
  refine Does.via (x := x5) ?_ (fun _ => ?_)
  · subst x5
    refine Does.ite (fun _ => ?_) (fun _ => ?_)
    · assumption
    · refine Does.step (State.measResult_does ..) (by decide) (by decide) ?_
      assumption
  clear_value x5
  refine Does.ite (fun _ => ?_) (fun _ => ?_)
  · refine Does.step (State.record_does ..) (by decide) (by decide) ?_
    assumption
  · assumption

theorem State.markSources_does (s : State) (u : ℕ) (x : IuX) (on : Bool) :
    Does 0x0 0x4000000000000000000000000000000000000000000000000000000000000000000 s (State.markSources s u x on) := by
  unfold State.markSources
  simp only [List.foldl_cons, List.foldl_nil]
  refine Does.ite (fun _ => ?_) (fun _ => ?_)
  · refine Does.wr _ _ _ _ (by decide) ?_
    refine Does.wr _ _ _ _ (by decide) ?_
    refine Does.ite (fun _ => ?_) (fun _ => ?_)
    · refine Does.wr _ _ _ _ (by decide) ?_
      refine Does.wr _ _ _ _ (by decide) ?_
      exact Does.refl ..
    · exact Does.refl ..
  · refine Does.ite (fun _ => ?_) (fun _ => ?_)
    · refine Does.wr _ _ _ _ (by decide) ?_
      refine Does.wr _ _ _ _ (by decide) ?_
      exact Does.refl ..
    · exact Does.refl ..

theorem State.iuStart_does (s : State) (u : ℕ) (site : Option ℕ) (setup : ℕ) (dst : ℕ) (tok : ℕ) :
    Does 0x1800048 0x400000000000000000000000000600000a000000000000000000000000000000000 s (State.iuStart s u site setup dst tok) := by
  unfold State.iuStart
  extract_lets +onlyGivenNames x0
  clear_value x0
  extract_lets +onlyGivenNames x1
  clear_value x1
  extract_lets +onlyGivenNames x2
  refine Does.via (x := x2) ?_ (fun _ => ?_)
  · subst x2
    refine Does.wr _ _ _ _ (by decide) ?_
    refine Does.wr _ _ _ _ (by decide) ?_
    refine Does.wr _ _ _ _ (by decide) ?_
    refine Does.wr _ _ _ _ (by decide) ?_
    exact Does.refl ..
  clear_value x2
  refine Does.ite (fun _ => ?_) (fun _ => ?_)
  · refine Does.step (State.markSources_does ..) (by decide) (by decide) ?_
    refine Does.wr _ _ _ _ (by decide) ?_
    refine Does.step (State.setIu_does ..) (by decide) (by decide) ?_
    assumption
  · refine Does.wr _ _ _ _ (by decide) ?_
    refine Does.step (State.iuWrite_does ..) (by decide) (by decide) ?_
    refine Does.step (State.setIu_does ..) (by decide) (by decide) ?_
    assumption

theorem State.iuRequest_does (s : State) (r : IuReq) :
    Does 0x180008c 0x6000010000000000000000000000000000000000 s (State.iuRequest s r) := by
  unfold State.iuRequest
  refine Does.ite (fun _ => ?_) (fun _ => ?_)
  · extract_lets +onlyGivenNames x0
    clear_value x0
    extract_lets +onlyGivenNames x1
    clear_value x1
    extract_lets +onlyGivenNames x2
    refine Does.via (x := x2) ?_ (fun _ => ?_)
    · subst x2
      refine Does.wr _ _ _ _ (by decide) ?_
      exact Does.refl ..
    clear_value x2
    extract_lets +onlyGivenNames x3
    refine Does.via (x := x3) ?_ (fun _ => ?_)
    · subst x3
      refine Does.step (State.measResult_does ..) (by decide) (by decide) ?_
      assumption
    clear_value x3
    extract_lets +onlyGivenNames x4
    refine Does.via (x := x4) ?_ (fun _ => ?_)
    · subst x4
      refine Does.ite (fun _ => ?_) (fun _ => ?_)
      · refine Does.step (State.record_does ..) (by decide) (by decide) ?_
        assumption
      · assumption
    clear_value x4
    refine Does.step (State.tookFree_does ..) (by decide) (by decide) ?_
    assumption
  · extract_lets +onlyGivenNames x5
    clear_value x5
    refine Does.upd_iuq _ (by decide) ?_
    exact Does.refl ..

theorem State.iuDrop_does (s : State) (u : ℕ) :
    Does 0x40 0x4000000000000000000000000000000008000000000000000000000000000000000 s (State.iuDrop s u) := by
  unfold State.iuDrop
  extract_lets +onlyGivenNames x0
  clear_value x0
  refine Does.wr _ _ _ _ (by decide) ?_
  refine Does.step (State.markSources_does ..) (by decide) (by decide) ?_
  refine Does.step (State.setIu_does ..) (by decide) (by decide) ?_
  exact Does.refl ..

theorem State.iuEndSite_does (s : State) (n : ℕ) :
    Does 0xc0 0x4000000000000000000000000000000008000000000000000000000000000000000 s (State.iuEndSite s n) := by
  unfold State.iuEndSite
  extract_lets +onlyGivenNames x0
  refine Does.via (x := x0) ?_ (fun _ => ?_)
  · subst x0
    refine Does.upd_iuq _ (by decide) ?_
    exact Does.refl ..
  clear_value x0
  refine Does.foldl (fun _ _ _ => ?_) ?_
  · extract_lets +onlyGivenNames x1
    clear_value x1
    refine Does.ite (fun _ => ?_) (fun _ => ?_)
    · refine Does.step (State.iuDrop_does ..) (by decide) (by decide) ?_
      assumption
    · assumption
  · assumption

theorem State.iuPinEdge_does (s : State) (pin : ℕ) (old : ℕ) (new : ℕ) (t : Stamp) :
    Does 0x40 0x0 s (State.iuPinEdge s pin old new t) := by
  unfold State.iuPinEdge
  refine Does.upd_ius _ (by decide) ?_
  exact Does.refl ..

theorem State.iuMissed_does (s : State) (pin : ℕ) (old : ℕ) (new : ℕ) (t : Stamp) :
    Does 0x40 0x0 s (State.iuMissed s pin old new t) := by
  unfold State.iuMissed
  refine Does.upd_ius _ (by decide) ?_
  exact Does.refl ..

theorem State.iuOther_does (s : State) (kind : ℕ) (index : ℕ) (site : Option ℕ) (edge : ℕ) (t : Stamp) :
    Does 0x40 0x0 s (State.iuOther s kind index site edge t) := by
  unfold State.iuOther
  extract_lets +onlyGivenNames x0
  clear_value x0
  refine Does.upd_ius _ (by decide) ?_
  exact Does.refl ..

theorem State.pmuWrite_does (s : State) (m : PmuMeas) :
    Does 0x180040c 0x18000000000000000000000000073c0000000000000000000000000000000000000 s (State.pmuWrite s m) := by
  unfold State.pmuWrite
  extract_lets +onlyGivenNames x0
  clear_value x0
  extract_lets +onlyGivenNames x1
  clear_value x1
  extract_lets +onlyGivenNames x2
  clear_value x2
  extract_lets +onlyGivenNames x3
  refine Does.via (x := x3) ?_ (fun _ => ?_)
  · subst x3
    exact Does.refl ..
  clear_value x3
  extract_lets +onlyGivenNames x4
  refine Does.via (x := x4) ?_ (fun _ => ?_)
  · subst x4
    refine Does.foldl (fun _ _ _ => ?_) ?_
    · extract_lets +onlyGivenNames x5
      clear_value x5
      extract_lets +onlyGivenNames x6
      refine Does.via (x := x6) ?_ (fun _ => ?_)
      · subst x6
        refine Does.foldl (fun _ _ _ => ?_) ?_
        · extract_lets +onlyGivenNames x7
          clear_value x7
          refine Does.wr _ _ _ _ (by decide) ?_
          assumption
        · assumption
      clear_value x6
      extract_lets +onlyGivenNames x8
      refine Does.via (x := x8) ?_ (fun _ => ?_)
      · subst x8
        refine Does.wr _ _ _ _ (by decide) ?_
        assumption
      clear_value x8
      refine Does.ite (fun _ => ?_) (fun _ => ?_)
      · refine Does.step (State.record_does ..) (by decide) (by decide) ?_
        assumption
      · assumption
    · exact Does.refl ..
  clear_value x4
  extract_lets +onlyGivenNames x9
  refine Does.via (x := x9) ?_ (fun _ => ?_)
  · subst x9
    refine Does.upd_free_pmus _ _ (by decide) (by decide) ?_
    assumption
  clear_value x9
  split
  · assumption
  · extract_lets +onlyGivenNames x10
    refine Does.via (x := x10) ?_ (fun _ => ?_)
    · subst x10
      refine Does.step (State.measResult_does ..) (by decide) (by decide) ?_
      assumption
    clear_value x10
    extract_lets +onlyGivenNames x11
    refine Does.via (x := x11) ?_ (fun _ => ?_)
    · subst x11
      refine Does.ite (fun _ => ?_) (fun _ => ?_)
      · refine Does.step (State.setTag_does ..) (by decide) (by decide) ?_
        assumption
      · assumption
    clear_value x11
    refine Does.ite (fun _ => ?_) (fun _ => ?_)
    · refine Does.step (State.siteFail_does ..) (by decide) (by decide) ?_
      assumption
    · assumption

theorem State.pmuConnect_does (s : State) (m : PmuMeas) (e : PmuSetup) (q : ℕ) :
    Does 0x20 0x800000000000000000000000000000000000000000000000000000000000000000 s (State.pmuConnect s m e q) := by
  unfold State.pmuConnect
  extract_lets +onlyGivenNames x0
  clear_value x0
  extract_lets +onlyGivenNames x1
  clear_value x1
  extract_lets +onlyGivenNames x2
  clear_value x2
  extract_lets +onlyGivenNames x3
  clear_value x3
  extract_lets +onlyGivenNames x4
  clear_value x4
  extract_lets +onlyGivenNames x5
  clear_value x5
  extract_lets +onlyGivenNames x6
  clear_value x6
  extract_lets +onlyGivenNames x7
  refine Does.via (x := x7) ?_ (fun _ => ?_)
  · subst x7
    refine Does.step (State.setPin_does ..) (by decide) (by decide) ?_
    exact Does.refl ..
  clear_value x7
  extract_lets +onlyGivenNames x8
  refine Does.via (x := x8) ?_ (fun _ => ?_)
  · subst x8
    refine Does.ite (fun _ => ?_) (fun _ => ?_)
    · refine Does.step (State.forceDrv_does ..) (by decide) (by decide) ?_
      assumption
    · assumption
  clear_value x8
  extract_lets +onlyGivenNames x9
  refine Does.via (x := x9) ?_ (fun _ => ?_)
  · subst x9
    refine Does.wr _ _ _ _ (by decide) ?_
    refine Does.wr _ _ _ _ (by decide) ?_
    refine Does.wr _ _ _ _ (by decide) ?_
    assumption
  clear_value x9
  extract_lets +onlyGivenNames x10
  refine Does.via (x := x10) ?_ (fun _ => ?_)
  · subst x10
    refine Does.wr _ _ _ _ (by decide) ?_
    refine Does.wr _ _ _ _ (by decide) ?_
    assumption
  clear_value x10
  refine Does.wr _ _ _ _ (by decide) ?_
  refine Does.wr _ _ _ _ (by decide) ?_
  refine Does.wr _ _ _ _ (by decide) ?_
  assumption

theorem State.pmuTry_does (s : State) (m : PmuMeas) :
    Does 0x180042c 0x18000000000000000000000000073c0000000000000000000000000000000000000 s (State.pmuTry s m) := by
  unfold State.pmuTry
  refine Does.ite (fun _ => ?_) (fun _ => ?_)
  · exact Does.refl ..
  · extract_lets +onlyGivenNames x0
    clear_value x0
    extract_lets +onlyGivenNames x1
    refine Does.via (x := x1) ?_ (fun _ => ?_)
    · subst x1
      refine Does.upd_pmus _ (by decide) ?_
      exact Does.refl ..
    clear_value x1
    refine Does.ite (fun _ => ?_) (fun _ => ?_)
    · refine Does.step (State.pmuWrite_does ..) (by decide) (by decide) ?_
      refine Does.foldl (fun _ _ _ => ?_) ?_
      · refine Does.step (State.setPin_does ..) (by decide) (by decide) ?_
        assumption
      · assumption
    · refine Does.foldl (fun _ _ _ => ?_) ?_
      · refine Does.step (State.pmuConnect_does ..) (by decide) (by decide) ?_
        assumption
      · assumption

theorem State.pmuRequest_does (s : State) (site : Option ℕ) (dst : ℕ) (setup : ℕ) (pins : List ℕ) (vp : ℕ) (seq : ℕ) (tok : ℕ) :
    Does 0x180042c 0x18000000000000000000000000073c0000000000000000000000000000000000000 s (State.pmuRequest s site dst setup pins vp seq tok) := by
  unfold State.pmuRequest
  extract_lets +onlyGivenNames x0
  clear_value x0
  extract_lets +onlyGivenNames x1
  refine Does.via (x := x1) ?_ (fun _ => ?_)
  · subst x1
    refine Does.upd_pmus _ (by decide) ?_
    exact Does.refl ..
  clear_value x1
  refine Does.ite (fun _ => ?_) (fun _ => ?_)
  · assumption
  · refine Does.step (State.pmuTry_does ..) (by decide) (by decide) ?_
    assumption

theorem State.pmuWake_does (s : State) :
    Does 0x180042c 0x18000000000000000000000000073c0000000000000000000000000000000000000 s (State.pmuWake s) := by
  unfold State.pmuWake
  refine Does.foldl (fun _ _ _ => ?_) ?_
  · refine Does.ite (fun _ => ?_) (fun _ => ?_)
    · assumption
    · refine Does.step (State.pmuTry_does ..) (by decide) (by decide) ?_
      assumption
  · exact Does.refl ..

theorem State.pmuOpen_does (s : State) (q : ℕ) :
    Does 0x20 0x800000000000000000000000000000000000000000000000000000000000000000 s (State.pmuOpen s q) := by
  unfold State.pmuOpen
  extract_lets +onlyGivenNames x0
  clear_value x0
  extract_lets +onlyGivenNames x1
  clear_value x1
  extract_lets +onlyGivenNames x2
  refine Does.via (x := x2) ?_ (fun _ => ?_)
  · subst x2
    refine Does.step (State.setPin_does ..) (by decide) (by decide) ?_
    exact Does.refl ..
  clear_value x2
  refine Does.wr _ _ _ _ (by decide) ?_
  refine Does.wr _ _ _ _ (by decide) ?_
  assumption

theorem State.pmuPinEnded_does (s : State) (q : ℕ) :
    Does 0x180042c 0x18000000000000000000000000073c0000000000000000000000000000000000000 s (State.pmuPinEnded s q) := by
  unfold State.pmuPinEnded
  extract_lets +onlyGivenNames x0
  clear_value x0
  split
  · exact Does.refl ..
  · extract_lets +onlyGivenNames x1
    clear_value x1
    extract_lets +onlyGivenNames x2
    refine Does.via (x := x2) ?_ (fun _ => ?_)
    · subst x2
      refine Does.upd_pmus _ (by decide) ?_
      exact Does.refl ..
    clear_value x2
    refine Does.ite (fun _ => ?_) (fun _ => ?_)
    · refine Does.step (State.pmuWake_does ..) (by decide) (by decide) ?_
      refine Does.step (State.pmuWrite_does ..) (by decide) (by decide) ?_
      assumption
    · assumption

theorem State.pmuEndSite_does (s : State) (n : ℕ) :
    Does 0x420 0x800000000000000000000000000000000000000000000000000000000000000000 s (State.pmuEndSite s n) := by
  unfold State.pmuEndSite
  extract_lets +onlyGivenNames x0
  refine Does.via (x := x0) ?_ (fun _ => ?_)
  · subst x0
    refine Does.upd_pmus _ (by decide) ?_
    exact Does.refl ..
  clear_value x0
  refine Does.foldl (fun _ _ _ => ?_) ?_
  · extract_lets +onlyGivenNames x1
    refine Does.via (x := x1) ?_ (fun _ => ?_)
    · subst x1
      refine Does.ite (fun _ => ?_) (fun _ => ?_)
      · refine Does.wr _ _ _ _ (by decide) ?_
        assumption
      · assumption
    clear_value x1
    extract_lets +onlyGivenNames x2
    clear_value x2
    extract_lets +onlyGivenNames x3
    clear_value x3
    extract_lets +onlyGivenNames x4
    refine Does.via (x := x4) ?_ (fun _ => ?_)
    · subst x4
      refine Does.ite (fun _ => ?_) (fun _ => ?_)
      · refine Does.step (State.pmuOpen_does ..) (by decide) (by decide) ?_
        assumption
      · refine Does.step (State.setPin_does ..) (by decide) (by decide) ?_
        assumption
    clear_value x4
    assumption
  · assumption

theorem State.measEndSite_does (s : State) (n : ℕ) :
    Does 0x4e8 0x4800000000000000000000000000000008000000000000000000000000000000000 s (State.measEndSite s n) := by
  unfold State.measEndSite
  extract_lets +onlyGivenNames x0
  refine Does.via (x := x0) ?_ (fun _ => ?_)
  · subst x0
    refine Does.step (State.pmuEndSite_does ..) (by decide) (by decide) ?_
    refine Does.step (State.iuEndSite_does ..) (by decide) (by decide) ?_
    exact Does.refl ..
  clear_value x0
  refine Does.step (State.setGang_does ..) (by decide) (by decide) ?_
  assumption

theorem State.pmuTrigger_does (s : State) (pins : List ℕ) (code : ℕ) (wave : ℕ) (t : Stamp) :
    Does 0x20 0x0 s (State.pmuTrigger s pins code wave t) := by
  unfold State.pmuTrigger
  refine Does.foldl (fun _ _ _ => ?_) ?_
  · extract_lets +onlyGivenNames x0
    clear_value x0
    extract_lets +onlyGivenNames x1
    clear_value x1
    split
    · extract_lets +onlyGivenNames x2
      clear_value x2
      refine Does.ite (fun _ => ?_) (fun _ => ?_)
      · refine Does.step (State.setPin_does ..) (by decide) (by decide) ?_
        assumption
      · assumption
    · assumption
  · exact Does.refl ..

end Sys2Proof.Machine
end

