-- ==== Sys2Proof/Laws/DoesWaveOps.lean ====
section
/-! SUPPORT. What each operation and meaning of Machine/WaveOps.lean may touch. -/

namespace Sys2Proof.Machine

open Sys2Proof

set_option linter.unusedVariables false

theorem State.waveEvent_does (s : State) (w : ℕ) (cause : ℕ) (t : Stamp) :
    Does 0x9800008 0x800000000000000000000000000000000000000000000 s (State.waveEvent s w cause t) := by
  unfold State.waveEvent
  extract_lets +onlyGivenNames x0
  refine Does.via (x := x0) ?_ (fun _ => ?_)
  · subst x0
    refine Does.wr _ _ _ _ (by decide) ?_
    exact Does.refl ..
  clear_value x0
  refine Does.step (State.raise_does ..) (by decide) (by decide) ?_
  assumption

theorem State.setWaveSt_does (s : State) (w : ℕ) (st : ℕ) :
    Does 0x800 0x800000000000000000000000000000000000000000000 s (State.setWaveSt s w st) := by
  unfold State.setWaveSt
  refine Does.ite (fun _ => ?_) (fun _ => ?_)
  · refine Does.step (State.setWave_does ..) (by decide) (by decide) ?_
    exact Does.refl ..
  · refine Does.wr _ _ _ _ (by decide) ?_
    exact Does.refl ..

theorem State.waveIdle_does (s : State) (w : ℕ) :
    Does 0x810 0x8800000000000000000000000000000000000000000000 s (State.waveIdle s w) := by
  unfold State.waveIdle
  extract_lets +onlyGivenNames x0
  clear_value x0
  extract_lets +onlyGivenNames x1
  clear_value x1
  extract_lets +onlyGivenNames x2
  refine Does.via (x := x2) ?_ (fun _ => ?_)
  · subst x2
    refine Does.step (State.setWave_does ..) (by decide) (by decide) ?_
    exact Does.refl ..
  clear_value x2
  extract_lets +onlyGivenNames x3
  refine Does.via (x := x3) ?_ (fun _ => ?_)
  · subst x3
    refine Does.wr _ _ _ _ (by decide) ?_
    refine Does.step (State.setWaveSt_does ..) (by decide) (by decide) ?_
    assumption
  clear_value x3
  refine Does.ite (fun _ => ?_) (fun _ => ?_)
  · refine Does.step (State.rewindPod_does ..) (by decide) (by decide) ?_
    assumption
  · assumption

theorem State.playSample_does (s : State) (w : ℕ) (v : ℕ) :
    Does 0x9800828 0x2c00000000000000000000000000000000000000000000 s (State.playSample s w v) := by
  unfold State.playSample
  extract_lets +onlyGivenNames x0
  clear_value x0
  extract_lets +onlyGivenNames x1
  refine Does.via (x := x1) ?_ (fun _ => ?_)
  · subst x1
    refine Does.step (State.pulse_does ..) (by decide) (by decide) ?_
    refine Does.bump _ _ _ _ (by decide) ?_
    exact Does.refl ..
  clear_value x1
  extract_lets +onlyGivenNames x2
  refine Does.via (x := x2) ?_ (fun _ => ?_)
  · subst x2
    refine Does.step (State.setWave_does ..) (by decide) (by decide) ?_
    assumption
  clear_value x2
  extract_lets +onlyGivenNames x3
  subst x3
  beta_reduce
  refine Does.ite (fun _ => ?_) (fun _ => ?_)
  · extract_lets +onlyGivenNames x4
    refine Does.via (x := x4) ?_ (fun _ => ?_)
    · subst x4
      refine Does.step (State.pmuTrigger_does ..) (by decide) (by decide) ?_
      assumption
    clear_value x4
    extract_lets +onlyGivenNames x5
    refine Does.via (x := x5) ?_ (fun _ => ?_)
    · subst x5
      refine Does.step (State.pmuTrigger_does ..) (by decide) (by decide) ?_
      refine Does.ite (fun _ => ?_) (fun _ => ?_)
      · refine Does.ite (fun _ => ?_) (fun _ => ?_)
        · refine Does.step (State.waveEvent_does ..) (by decide) (by decide) ?_
          assumption
        · assumption
      · assumption
    clear_value x5
    refine Does.ite (fun _ => ?_) (fun _ => ?_)
    · refine Does.step (State.waveEvent_does ..) (by decide) (by decide) ?_
      assumption
    · assumption
  · refine Does.ite (fun _ => ?_) (fun _ => ?_)
    · extract_lets +onlyGivenNames x6
      refine Does.via (x := x6) ?_ (fun _ => ?_)
      · subst x6
        refine Does.step (State.pmuTrigger_does ..) (by decide) (by decide) ?_
        assumption
      clear_value x6
      refine Does.ite (fun _ => ?_) (fun _ => ?_)
      · refine Does.step (State.waveEvent_does ..) (by decide) (by decide) ?_
        assumption
      · assumption
    · assumption

theorem State.playSlot_does (s : State) (w : ℕ) :
    Does 0x800000009800838 0x200000000003c00000000000000000000000000000000000000000000 s (State.playSlot s w) := by
  unfold State.playSlot
  extract_lets +onlyGivenNames x0
  clear_value x0
  extract_lets +onlyGivenNames x1
  clear_value x1
  split
  · refine Does.step (State.setWave_does ..) (by decide) (by decide) ?_
    exact Does.refl ..
  · refine Does.ite (fun _ => ?_) (fun _ => ?_)
    · refine Does.ite (fun _ => ?_) (fun _ => ?_)
      · refine Does.step (State.playSample_does ..) (by decide) (by decide) ?_
        exact Does.refl ..
      · refine Does.step (State.setWave_does ..) (by decide) (by decide) ?_
        exact Does.refl ..
    · extract_lets +onlyGivenNames x2
      refine Does.via (x := x2) ?_ (fun _ => ?_)
      · subst x2
        refine Does.ite (fun _ => ?_) (fun _ => ?_)
        · refine Does.step (State.retire_does ..) (by decide) (by decide) ?_
          exact Does.refl ..
        · exact Does.refl ..
      clear_value x2
      extract_lets +onlyGivenNames x3
      clear_value x3
      extract_lets +onlyGivenNames x4
      refine Does.via (x := x4) ?_ (fun _ => ?_)
      · subst x4
        refine Does.step (State.setSeg_does ..) (by decide) (by decide) ?_
        assumption
      clear_value x4
      extract_lets +onlyGivenNames x5
      clear_value x5
      extract_lets +onlyGivenNames x6
      refine Does.via (x := x6) ?_ (fun _ => ?_)
      · subst x6
        refine Does.wr _ _ _ _ (by decide) ?_
        refine Does.wr _ _ _ _ (by decide) ?_
        assumption
      clear_value x6
      refine Does.step (State.playSample_does ..) (by decide) (by decide) ?_
      refine Does.step (State.setWave_does ..) (by decide) (by decide) ?_
      assumption

theorem State.waveBegin_does (s : State) (w : ℕ) (a : PAddr) :
    Does 0x800000009800838 0x20000000000bc00000000000000000000000000000000000000000000 s (State.waveBegin s w a) := by
  unfold State.waveBegin
  extract_lets +onlyGivenNames x0
  clear_value x0
  extract_lets +onlyGivenNames x1
  clear_value x1
  extract_lets +onlyGivenNames x2
  clear_value x2
  extract_lets +onlyGivenNames x3
  clear_value x3
  extract_lets +onlyGivenNames x4
  refine Does.via (x := x4) ?_ (fun _ => ?_)
  · subst x4
    refine Does.step (State.setWave_does ..) (by decide) (by decide) ?_
    exact Does.refl ..
  clear_value x4
  extract_lets +onlyGivenNames x5
  refine Does.via (x := x5) ?_ (fun _ => ?_)
  · subst x5
    refine Does.wr _ _ _ _ (by decide) ?_
    refine Does.wr _ _ _ _ (by decide) ?_
    refine Does.step (State.setWaveSt_does ..) (by decide) (by decide) ?_
    assumption
  clear_value x5
  refine Does.step (State.playSlot_does ..) (by decide) (by decide) ?_
  assumption

theorem State.waveMute_does (s : State) (w : ℕ) :
    Does 0x800 0x800000000000000000000000000000000000000000000 s (State.waveMute s w) := by
  unfold State.waveMute
  extract_lets +onlyGivenNames x0
  clear_value x0
  split
  · exact Does.refl ..
  · refine Does.ite (fun _ => ?_) (fun _ => ?_)
    · exact Does.refl ..
    · refine Does.ite (fun _ => ?_) (fun _ => ?_)
      · extract_lets +onlyGivenNames x1
        clear_value x1
        refine Does.wr _ _ _ _ (by decide) ?_
        refine Does.wr _ _ _ _ (by decide) ?_
        refine Does.step (State.setWave_does ..) (by decide) (by decide) ?_
        exact Does.refl ..
      · refine Does.wr _ _ _ _ (by decide) ?_
        refine Does.step (State.setWave_does ..) (by decide) (by decide) ?_
        exact Does.refl ..

theorem State.waveStop_does (s : State) (w : ℕ) :
    Does 0x810 0x8800000000000000000000000000000000000000000000 s (State.waveStop s w) := by
  unfold State.waveStop
  refine Does.ite (fun _ => ?_) (fun _ => ?_)
  · refine Does.step (State.waveIdle_does ..) (by decide) (by decide) ?_
    exact Does.refl ..
  · refine Does.step (State.setWave_does ..) (by decide) (by decide) ?_
    exact Does.refl ..

theorem State.awgDo_does (s : State) (w : ℕ) :
    Does 0x800000009800838 0x20000000000bc00000000000000000000000000000000000000000000 s (State.awgDo s w) := by
  unfold State.awgDo
  split
  · exact Does.refl ..
  · extract_lets +onlyGivenNames x0
    clear_value x0
    extract_lets +onlyGivenNames x1
    refine Does.via (x := x1) ?_ (fun _ => ?_)
    · subst x1
      refine Does.step (State.setWave_does ..) (by decide) (by decide) ?_
      exact Does.refl ..
    clear_value x1
    refine Does.ite (fun _ => ?_) (fun _ => ?_)
    · refine Does.ite (fun _ => ?_) (fun _ => ?_)
      · refine Does.wr _ _ _ _ (by decide) ?_
        refine Does.step (State.setWave_does ..) (by decide) (by decide) ?_
        assumption
      · refine Does.step (State.waveBegin_does ..) (by decide) (by decide) ?_
        assumption
    · refine Does.ite (fun _ => ?_) (fun _ => ?_)
      · refine Does.step (State.waveStop_does ..) (by decide) (by decide) ?_
        assumption
      · extract_lets +onlyGivenNames x2
        clear_value x2
        extract_lets +onlyGivenNames x3
        refine Does.via (x := x3) ?_ (fun _ => ?_)
        · subst x3
          refine Does.step (State.setWave_does ..) (by decide) (by decide) ?_
          assumption
        clear_value x3
        extract_lets +onlyGivenNames x4
        refine Does.via (x := x4) ?_ (fun _ => ?_)
        · subst x4
          refine Does.wr _ _ _ _ (by decide) ?_
          refine Does.wr _ _ _ _ (by decide) ?_
          assumption
        clear_value x4
        refine Does.ite (fun _ => ?_) (fun _ => ?_)
        · assumption
        · refine Does.step (State.setWaveSt_does ..) (by decide) (by decide) ?_
          assumption

theorem State.waveTick_does (s : State) (w : ℕ) :
    Does 0x800000009800838 0x20000000000bc00000000000000000000000000000000000000000000 s (State.waveTick s w) := by
  unfold State.waveTick
  extract_lets +onlyGivenNames x0
  refine Does.via (x := x0) ?_ (fun _ => ?_)
  · subst x0
    refine Does.step (State.awgDo_does ..) (by decide) (by decide) ?_
    refine Does.step (State.waveMute_does ..) (by decide) (by decide) ?_
    exact Does.refl ..
  clear_value x0
  extract_lets +onlyGivenNames x1
  clear_value x1
  extract_lets +onlyGivenNames x2
  clear_value x2
  extract_lets +onlyGivenNames x3
  subst x3
  split
  · refine Does.ite (fun _ => ?_) (fun _ => ?_)
    · beta_reduce
      refine Does.ite (fun _ => ?_) (fun _ => ?_)
      · refine Does.ite (fun _ => ?_) (fun _ => ?_)
        · refine Does.step (State.waveIdle_does ..) (by decide) (by decide) ?_
          assumption
        · refine Does.step (State.playSlot_does ..) (by decide) (by decide) ?_
          assumption
      · assumption
    · refine Does.ite (fun _ => ?_) (fun _ => ?_)
      · refine Does.step (State.waveBegin_does ..) (by decide) (by decide) ?_
        assumption
      · refine Does.wr _ _ _ _ (by decide) ?_
        refine Does.step (State.setWave_does ..) (by decide) (by decide) ?_
        assumption
  · beta_reduce
    refine Does.ite (fun _ => ?_) (fun _ => ?_)
    · refine Does.ite (fun _ => ?_) (fun _ => ?_)
      · refine Does.step (State.waveIdle_does ..) (by decide) (by decide) ?_
        assumption
      · refine Does.step (State.playSlot_does ..) (by decide) (by decide) ?_
        assumption
    · assumption

theorem State.awgCommand_does (s : State) (n : ℕ) (op : ℕ) (mks : ℕ) (w : ℕ) (entry : PAddr) :
    Does 0x800000009800838 0x20000000000bc00000040000000000000000000000000000000000000 s (State.awgCommand s n op mks w entry) := by
  unfold State.awgCommand
  refine Does.ite (fun _ => ?_) (fun _ => ?_)
  · refine Does.wr _ _ _ _ (by decide) ?_
    refine Does.wr _ _ _ _ (by decide) ?_
    exact Does.refl ..
  · extract_lets +onlyGivenNames x0
    clear_value x0
    extract_lets +onlyGivenNames x1
    clear_value x1
    extract_lets +onlyGivenNames x2
    clear_value x2
    refine Does.ite (fun _ => ?_) (fun _ => ?_)
    · refine Does.wr _ _ _ _ (by decide) ?_
      exact Does.refl ..
    · extract_lets +onlyGivenNames x3
      refine Does.via (x := x3) ?_ (fun _ => ?_)
      · subst x3
        refine Does.ite (fun _ => ?_) (fun _ => ?_)
        · refine Does.wr _ _ _ _ (by decide) ?_
          exact Does.refl ..
        · exact Does.refl ..
      clear_value x3
      extract_lets +onlyGivenNames x4
      refine Does.via (x := x4) ?_ (fun _ => ?_)
      · subst x4
        refine Does.ite (fun _ => ?_) (fun _ => ?_)
        · assumption
        · refine Does.step (State.awgDo_does ..) (by decide) (by decide) ?_
          assumption
      clear_value x4
      refine Does.step (State.setWave_does ..) (by decide) (by decide) ?_
      assumption

theorem State.faultMute_does (s : State) (w : ℕ) :
    Does 0x9800818 0x8a00000000000000000000000000000000000000000000 s (State.faultMute s w) := by
  unfold State.faultMute
  extract_lets +onlyGivenNames x0
  refine Does.via (x := x0) ?_ (fun _ => ?_)
  · subst x0
    refine Does.step (State.waveIdle_does ..) (by decide) (by decide) ?_
    exact Does.refl ..
  clear_value x0
  extract_lets +onlyGivenNames x1
  clear_value x1
  extract_lets +onlyGivenNames x2
  refine Does.via (x := x2) ?_ (fun _ => ?_)
  · subst x2
    refine Does.step (State.setWave_does ..) (by decide) (by decide) ?_
    assumption
  clear_value x2
  extract_lets +onlyGivenNames x3
  refine Does.via (x := x3) ?_ (fun _ => ?_)
  · subst x3
    refine Does.wr _ _ _ _ (by decide) ?_
    refine Does.wr _ _ _ _ (by decide) ?_
    refine Does.wr _ _ _ _ (by decide) ?_
    refine Does.wr _ _ _ _ (by decide) ?_
    assumption
  clear_value x3
  refine Does.step (State.waveEvent_does ..) (by decide) (by decide) ?_
  assumption

theorem State.cancelArms_does (s : State) (n : ℕ) :
    Does 0x800 0x8800000000000000000000000000000000000000000000 s (State.cancelArms s n) := by
  unfold State.cancelArms
  refine Does.foldl (fun _ _ _ => ?_) ?_
  · extract_lets +onlyGivenNames x0
    clear_value x0
    split
    · refine Does.ite (fun _ => ?_) (fun _ => ?_)
      · extract_lets +onlyGivenNames x1
        refine Does.via (x := x1) ?_ (fun _ => ?_)
        · subst x1
          refine Does.wr _ _ _ _ (by decide) ?_
          refine Does.step (State.setWave_does ..) (by decide) (by decide) ?_
          assumption
        clear_value x1
        refine Does.ite (fun _ => ?_) (fun _ => ?_)
        · assumption
        · refine Does.step (State.setWaveSt_does ..) (by decide) (by decide) ?_
          assumption
      · assumption
    · assumption
  · exact Does.refl ..

theorem State.markWaves_does (s : State) (n : ℕ) (k : ℕ) (t : Stamp) :
    Does 0x800 0x0 s (State.markWaves s n k t) := by
  unfold State.markWaves
  refine Does.foldl (fun _ _ _ => ?_) ?_
  · extract_lets +onlyGivenNames x0
    clear_value x0
    split
    · refine Does.ite (fun _ => ?_) (fun _ => ?_)
      · refine Does.step (State.setWave_does ..) (by decide) (by decide) ?_
        assumption
      · assumption
    · assumption
  · exact Does.refl ..

end Sys2Proof.Machine
end

