-- ==== Sys2Proof/Laws/DoesGang.lean ====
section
/-! SUPPORT. What each operation and meaning of Machine/Gang.lean may touch. -/

namespace Sys2Proof.Machine

open Sys2Proof

set_option linter.unusedVariables false

theorem State.fix_does (s : State) (n : ℕ) :
    Does 0x8 0x400000000000000000000000000000000000000000000000000 s (State.fix s n) := by
  unfold State.fix
  extract_lets +onlyGivenNames x0
  clear_value x0
  extract_lets +onlyGivenNames x1
  refine Does.via (x := x1) ?_ (fun _ => ?_)
  · subst x1
    refine Does.step (State.setGang_does ..) (by decide) (by decide) ?_
    exact Does.refl ..
  clear_value x1
  split
  · refine Does.ite (fun _ => ?_) (fun _ => ?_)
    · refine Does.step (State.setGstate_does ..) (by decide) (by decide) ?_
      assumption
    · assumption
  · assumption

theorem State.stopSprout_does (s : State) (n : ℕ) (why : ℕ) :
    Does 0x8 0x200000000000000000000000000000000000000000000000000000 s (State.stopSprout s n why) := by
  unfold State.stopSprout
  extract_lets +onlyGivenNames x0
  clear_value x0
  extract_lets +onlyGivenNames x1
  refine Does.via (x := x1) ?_ (fun _ => ?_)
  · subst x1
    refine Does.step (State.setGang_does ..) (by decide) (by decide) ?_
    exact Does.refl ..
  clear_value x1
  refine Does.wrAll _ _ _ (by decide) ?_
  assumption

theorem State.stall_does (s : State) (n : ℕ) (why : ℕ) :
    Does 0x0 0x200000000000000000000000000000000000000000000000000000 s (State.stall s n why) := by
  unfold State.stall
  refine Does.wrAll _ _ _ (by decide) ?_
  exact Does.refl ..

theorem State.publish_does (s : State) (n : ℕ) :
    Does 0x10 0x200000800000000000040000000000000000000000000000000000000 s (State.publish s n) := by
  unfold State.publish
  extract_lets +onlyGivenNames x0
  clear_value x0
  refine Does.ite (fun _ => ?_) (fun _ => ?_)
  · extract_lets +onlyGivenNames x1
    clear_value x1
    extract_lets +onlyGivenNames x2
    refine Does.via (x := x2) ?_ (fun _ => ?_)
    · subst x2
      refine Does.wr _ _ _ _ (by decide) ?_
      refine Does.wr _ _ _ _ (by decide) ?_
      exact Does.refl ..
    clear_value x2
    extract_lets +onlyGivenNames x3
    clear_value x3
    refine Does.foldl (fun _ _ _ => ?_) ?_
    · extract_lets +onlyGivenNames x4
      clear_value x4
      extract_lets +onlyGivenNames x5
      refine Does.via (x := x5) ?_ (fun _ => ?_)
      · subst x5
        refine Does.ite (fun _ => ?_) (fun _ => ?_)
        · refine Does.step (State.setSeg_does ..) (by decide) (by decide) ?_
          assumption
        · assumption
      clear_value x5
      refine Does.wr _ _ _ _ (by decide) ?_
      refine Does.wr _ _ _ _ (by decide) ?_
      assumption
    · assumption
  · exact Does.refl ..

theorem State.countGap_does (s : State) (n : ℕ) (k : ℕ) (blocked : Bool) (seq : ℕ) :
    Does 0x8000008 0x200014000000000003c0000000000000000000000000000000000000 s (State.countGap s n k blocked seq) := by
  unfold State.countGap
  extract_lets +onlyGivenNames x0
  refine Does.via (x := x0) ?_ (fun _ => ?_)
  · subst x0
    refine Does.foldl (fun _ _ _ => ?_) ?_
    · extract_lets +onlyGivenNames x1
      refine Does.via (x := x1) ?_ (fun _ => ?_)
      · subst x1
        refine Does.step (State.pulse_does ..) (by decide) (by decide) ?_
        refine Does.bump _ _ _ _ (by decide) ?_
        refine Does.wr _ _ _ _ (by decide) ?_
        assumption
      clear_value x1
      refine Does.ite (fun _ => ?_) (fun _ => ?_)
      · refine Does.bump _ _ _ _ (by decide) ?_
        assumption
      · assumption
    · exact Does.refl ..
  clear_value x0
  refine Does.ite (fun _ => ?_) (fun _ => ?_)
  · refine Does.step (State.siteFail_does ..) (by decide) (by decide) ?_
    assumption
  · assumption

theorem State.closeCross_does (s : State) (n : ℕ) :
    Does 0x8000008 0x200014000000000003c0000000000000000000000000000000000000 s (State.closeCross s n) := by
  unfold State.closeCross
  extract_lets +onlyGivenNames x0
  clear_value x0
  split
  · refine Does.ite (fun _ => ?_) (fun _ => ?_)
    · refine Does.step (State.countGap_does ..) (by decide) (by decide) ?_
      exact Does.refl ..
    · exact Does.refl ..
  · exact Does.refl ..

theorem State.exitRails_does (s : State) (n : ℕ) :
    Does 0x3000 0x4000000000000000000000000000000000000000000 s (State.exitRails s n) := by
  unfold State.exitRails
  refine Does.step (State.rampSite_does ..) (by decide) (by decide) ?_
  exact Does.refl ..

theorem State.siteEnded_does (s : State) (n : ℕ) (how : ℕ) :
    Does 0x400000 0x0 s (State.siteEnded s n how) := by
  unfold State.siteEnded
  refine Does.upd_runs _ (by decide) ?_
  exact Does.refl ..

theorem State.endStep_does (s : State) (n : ℕ) :
    Does 0x28 0x4000000000000000000000000000000000000000 s (State.endStep s n) := by
  unfold State.endStep
  extract_lets +onlyGivenNames x0
  refine Does.via (x := x0) ?_ (fun _ => ?_)
  · subst x0
    refine Does.step (State.evStopAll_does ..) (by decide) (by decide) ?_
    exact Does.refl ..
  clear_value x0
  extract_lets +onlyGivenNames x1
  refine Does.via (x := x1) ?_ (fun _ => ?_)
  · subst x1
    refine Does.foldl (fun _ _ _ => ?_) ?_
    · refine Does.step (State.setPin_does ..) (by decide) (by decide) ?_
      assumption
    · assumption
  clear_value x1
  extract_lets +onlyGivenNames x2
  clear_value x2
  refine Does.step (State.setGang_does ..) (by decide) (by decide) ?_
  assumption

theorem State.dropRunAhead_does (s : State) (n : ℕ) :
    Does 0x8 0x0 s (State.dropRunAhead s n) := by
  unfold State.dropRunAhead
  extract_lets +onlyGivenNames x0
  clear_value x0
  refine Does.step (State.setGang_does ..) (by decide) (by decide) ?_
  exact Does.refl ..

theorem State.clearStopped_does (s : State) (n : ℕ) :
    Does 0x0 0x6000000000000000000000000000000000000000000000000000 s (State.clearStopped s n) := by
  unfold State.clearStopped
  extract_lets +onlyGivenNames x0
  clear_value x0
  refine Does.wrAll _ _ _ (by decide) ?_
  refine Does.wrAll _ _ _ (by decide) ?_
  refine Does.wrAll _ _ _ (by decide) ?_
  exact Does.refl ..

theorem State.haltErr_does (s : State) (n : ℕ) (h : HeldErr) :
    Does 0x19c034e8 0x4800000020000006c12000004004040008000000000000000000000000000000000 s (State.haltErr s n h) := by
  unfold State.haltErr
  extract_lets +onlyGivenNames x0
  clear_value x0
  extract_lets +onlyGivenNames x1
  refine Does.via (x := x1) ?_ (fun _ => ?_)
  · subst x1
    refine Does.wrAll _ _ _ (by decide) ?_
    refine Does.step (State.setGstate_does ..) (by decide) (by decide) ?_
    exact Does.refl ..
  clear_value x1
  extract_lets +onlyGivenNames x2
  refine Does.via (x := x2) ?_ (fun _ => ?_)
  · subst x2
    refine Does.foldl (fun _ _ _ => ?_) ?_
    · refine Does.wr _ _ _ _ (by decide) ?_
      assumption
    · assumption
  clear_value x2
  extract_lets +onlyGivenNames x3
  refine Does.via (x := x3) ?_ (fun _ => ?_)
  · subst x3
    refine Does.wr _ _ _ _ (by decide) ?_
    assumption
  clear_value x3
  extract_lets +onlyGivenNames x4
  refine Does.via (x := x4) ?_ (fun _ => ?_)
  · subst x4
    refine Does.ite (fun _ => ?_) (fun _ => ?_)
    · refine Does.wrAll _ _ _ (by decide) ?_
      assumption
    · assumption
  clear_value x4
  extract_lets +onlyGivenNames x5
  refine Does.via (x := x5) ?_ (fun _ => ?_)
  · subst x5
    refine Does.step (State.raise_does ..) (by decide) (by decide) ?_
    assumption
  clear_value x5
  extract_lets +onlyGivenNames x6
  refine Does.via (x := x6) ?_ (fun _ => ?_)
  · subst x6
    refine Does.step (State.deviceEntry_does ..) (by decide) (by decide) ?_
    assumption
  clear_value x6
  extract_lets +onlyGivenNames x7
  clear_value x7
  extract_lets +onlyGivenNames x8
  refine Does.via (x := x8) ?_ (fun _ => ?_)
  · subst x8
    refine Does.step (State.setGang_does ..) (by decide) (by decide) ?_
    assumption
  clear_value x8
  extract_lets +onlyGivenNames x9
  refine Does.via (x := x9) ?_ (fun _ => ?_)
  · subst x9
    refine Does.step (State.measEndSite_does ..) (by decide) (by decide) ?_
    refine Does.step (State.clearStopped_does ..) (by decide) (by decide) ?_
    assumption
  clear_value x9
  refine Does.step (State.exitRails_does ..) (by decide) (by decide) ?_
  refine Does.step (State.siteEnded_does ..) (by decide) (by decide) ?_
  refine Does.step (State.endStep_does ..) (by decide) (by decide) ?_
  assumption

theorem State.raiseErr_does (s : State) (n : ℕ) :
    Does 0x19c034e8 0x4800000020000006c12000004004040008000000000000000000000000000000000 s (State.raiseErr s n) := by
  unfold State.raiseErr
  split
  · exact Does.refl ..
  · refine Does.ite (fun _ => ?_) (fun _ => ?_)
    · exact Does.refl ..
    · refine Does.step (State.haltErr_does ..) (by decide) (by decide) ?_
      exact Does.refl ..

theorem State.parityErr_does (s : State) (pod : ℕ) (code : ℕ) :
    Does 0x19c034e8 0x4800000020020007c120000040043c0008000000000000000000000000000000000 s (State.parityErr s pod code) := by
  unfold State.parityErr
  split
  · exact Does.refl ..
  · extract_lets +onlyGivenNames x0
    clear_value x0
    extract_lets +onlyGivenNames x1
    clear_value x1
    refine Does.ite (fun _ => ?_) (fun _ => ?_)
    · refine Does.step (State.haltErr_does ..) (by decide) (by decide) ?_
      refine Does.step (State.dropRunAhead_does ..) (by decide) (by decide) ?_
      refine Does.step (State.closeCross_does ..) (by decide) (by decide) ?_
      exact Does.refl ..
    · refine Does.ite (fun _ => ?_) (fun _ => ?_)
      · refine Does.step (State.setGang_does ..) (by decide) (by decide) ?_
        exact Does.refl ..
      · exact Does.refl ..

theorem State.engineErr_does (s : State) (n : ℕ) (p : Path) (code : ℕ) (seq : ℕ) (pc : PAddr) (pod : ℕ) (more : List ℕ) :
    Does 0x19c034e8 0x4800000020000206c12000004004040008000000000000000000000000000000000 s (State.engineErr s n p code seq pc pod more) := by
  unfold State.engineErr
  split
  · refine Does.step (State.stopSprout_does ..) (by decide) (by decide) ?_
    exact Does.refl ..
  · extract_lets +onlyGivenNames x0
    clear_value x0
    refine Does.ite (fun _ => ?_) (fun _ => ?_)
    · exact Does.refl ..
    · refine Does.step (State.raiseErr_does ..) (by decide) (by decide) ?_
      refine Does.step (State.setGang_does ..) (by decide) (by decide) ?_
      exact Does.refl ..

theorem State.abortGang_does (s : State) (n : ℕ) :
    Does 0x80004e8 0x48000000000200074000000000043c0008000000000000000000000000000000000 s (State.abortGang s n) := by
  unfold State.abortGang
  refine Does.step (State.endStep_does ..) (by decide) (by decide) ?_
  refine Does.step (State.measEndSite_does ..) (by decide) (by decide) ?_
  refine Does.step (State.clearStopped_does ..) (by decide) (by decide) ?_
  refine Does.step (State.dropRunAhead_does ..) (by decide) (by decide) ?_
  refine Does.step (State.closeCross_does ..) (by decide) (by decide) ?_
  exact Does.refl ..

theorem State.tripPin_does (s : State) (q : ℕ) :
    Does 0x30 0x8000000a0000000000000000000000000000000000000000000000000000000000 s (State.tripPin s q) := by
  unfold State.tripPin
  extract_lets +onlyGivenNames x0
  clear_value x0
  extract_lets +onlyGivenNames x1
  refine Does.via (x := x1) ?_ (fun _ => ?_)
  · subst x1
    refine Does.step (State.setPin_does ..) (by decide) (by decide) ?_
    exact Does.refl ..
  clear_value x1
  refine Does.step (State.eyeStop_does ..) (by decide) (by decide) ?_
  refine Does.ite (fun _ => ?_) (fun _ => ?_)
  · refine Does.step (State.pmuOpen_does ..) (by decide) (by decide) ?_
    assumption
  · assumption

theorem State.tripRail_does (s : State) (r : ℕ) :
    Does 0x1000 0x4000000000000000000000000000000000000000000 s (State.tripRail s r) := by
  unfold State.tripRail
  refine Does.wr _ _ _ _ (by decide) ?_
  refine Does.step (State.setRail_does ..) (by decide) (by decide) ?_
  exact Does.refl ..

theorem State.takeBack_does (s : State) (n : ℕ) (stamp : Stamp) :
    Does 0x10400008 0x0 s (State.takeBack s n stamp) := by
  unfold State.takeBack
  extract_lets +onlyGivenNames x0
  clear_value x0
  extract_lets +onlyGivenNames x1
  clear_value x1
  extract_lets +onlyGivenNames x2
  clear_value x2
  extract_lets +onlyGivenNames x3
  refine Does.via (x := x3) ?_ (fun _ => ?_)
  · subst x3
    refine Does.step (State.setGang_does ..) (by decide) (by decide) ?_
    exact Does.refl ..
  clear_value x3
  refine Does.upd_runs_ledgq _ _ (by decide) (by decide) ?_
  assumption

theorem State.makeHusk_does (s : State) (n : ℕ) (stamp : Stamp) (stands : Bool) :
    Does 0x19c03cf8 0x48000000a00200074120088040743c0008000000000000000000000000000000000 s (State.makeHusk s n stamp stands) := by
  unfold State.makeHusk
  refine Does.ite (fun _ => ?_) (fun _ => ?_)
  · exact Does.refl ..
  · extract_lets +onlyGivenNames x0
    clear_value x0
    extract_lets +onlyGivenNames x1
    clear_value x1
    extract_lets +onlyGivenNames x2
    refine Does.via (x := x2) ?_ (fun _ => ?_)
    · subst x2
      refine Does.bump _ _ _ _ (by decide) ?_
      refine Does.wr _ _ _ _ (by decide) ?_
      refine Does.wr _ _ _ _ (by decide) ?_
      exact Does.refl ..
    clear_value x2
    extract_lets +onlyGivenNames x3
    refine Does.via (x := x3) ?_ (fun _ => ?_)
    · subst x3
      refine Does.wrStamp _ _ _ _ (by decide) (by decide) ?_
      assumption
    clear_value x3
    extract_lets +onlyGivenNames x4
    refine Does.via (x := x4) ?_ (fun _ => ?_)
    · subst x4
      refine Does.foldl (fun _ _ _ => ?_) ?_
      · refine Does.step (State.tripPin_does ..) (by decide) (by decide) ?_
        assumption
      · assumption
    clear_value x4
    extract_lets +onlyGivenNames x5
    refine Does.via (x := x5) ?_ (fun _ => ?_)
    · subst x5
      refine Does.foldl (fun _ _ _ => ?_) ?_
      · refine Does.step (State.tripRail_does ..) (by decide) (by decide) ?_
        assumption
      · assumption
    clear_value x5
    extract_lets +onlyGivenNames x6
    clear_value x6
    extract_lets +onlyGivenNames x7
    refine Does.via (x := x7) ?_ (fun _ => ?_)
    · subst x7
      refine Does.ite (fun _ => ?_) (fun _ => ?_)
      · refine Does.step (State.deviceEntry_does ..) (by decide) (by decide) ?_
        refine Does.step (State.takeBack_does ..) (by decide) (by decide) ?_
        assumption
      · assumption
    clear_value x7
    extract_lets +onlyGivenNames x8
    refine Does.via (x := x8) ?_ (fun _ => ?_)
    · subst x8
      refine Does.ite (fun _ => ?_) (fun _ => ?_)
      · refine Does.step (State.siteEnded_does ..) (by decide) (by decide) ?_
        assumption
      · assumption
    clear_value x8
    extract_lets +onlyGivenNames x9
    refine Does.via (x := x9) ?_ (fun _ => ?_)
    · subst x9
      refine Does.ite (fun _ => ?_) (fun _ => ?_)
      · refine Does.step (State.abortGang_does ..) (by decide) (by decide) ?_
        assumption
      · refine Does.step (State.measEndSite_does ..) (by decide) (by decide) ?_
        refine Does.step (State.dropRunAhead_does ..) (by decide) (by decide) ?_
        assumption
    clear_value x9
    extract_lets +onlyGivenNames x10
    refine Does.via (x := x10) ?_ (fun _ => ?_)
    · subst x10
      refine Does.step (State.cancelArms_does ..) (by decide) (by decide) ?_
      refine Does.step (State.setGstate_does ..) (by decide) (by decide) ?_
      assumption
    clear_value x10
    extract_lets +onlyGivenNames x11
    refine Does.via (x := x11) ?_ (fun _ => ?_)
    · subst x11
      refine Does.step (State.refreshArm_does ..) (by decide) (by decide) ?_
      assumption
    clear_value x11
    split
    · assumption
    · refine Does.step (State.raise_does ..) (by decide) (by decide) ?_
      assumption

end Sys2Proof.Machine
end

