-- ==== Sys2Proof/Laws/DoesDispatching.lean ====
section
/-! SUPPORT. What each operation and meaning of Machine/Dispatching.lean may touch. -/

namespace Sys2Proof.Machine

open Sys2Proof

set_option linter.unusedVariables false

theorem State.touch_does (s : State) (n : ℕ) (a : PAddr) :
    Does 0x18 0x0 s (State.touch s n a) := by
  unfold State.touch
  refine Does.ite (fun _ => ?_) (fun _ => ?_)
  · refine Does.foldl (fun _ _ _ => ?_) ?_
    · refine Does.step (State.setSeg_does ..) (by decide) (by decide) ?_
      assumption
    · exact Does.refl ..
  · refine Does.step (State.setGang_does ..) (by decide) (by decide) ?_
    exact Does.refl ..

theorem State.dropSprout_does (s : State) (n : ℕ) :
    Does 0x8 0x200000000000000000000000000000000000000000000000000000 s (State.dropSprout s n) := by
  unfold State.dropSprout
  extract_lets +onlyGivenNames x0
  clear_value x0
  refine Does.wrAll _ _ _ (by decide) ?_
  refine Does.wrAll _ _ _ (by decide) ?_
  refine Does.step (State.setGang_does ..) (by decide) (by decide) ?_
  exact Does.refl ..

theorem State.room_doesOk {s t : State} {n k : ℕ} {p : Path} (h : s.room n p k = .ok t) :
    Does 0x8 0x200000000000000000000000000000000000000000000000000000 s t := by
  unfold State.room at h
  dsimp only at h
  repeat' split at h
  all_goals first
    | (injection h with h; subst h; exact Does.refl ..)
    | (injection h with h; subst h; exact State.dropSprout_does ..)
    | injection h

theorem State.room_doesErr {s t : State} {n k : ℕ} {p : Path} (h : s.room n p k = .error t) :
    Does 0x8 0x200000000000000000000000000000000000000000000000000000 s t := by
  unfold State.room at h
  dsimp only at h
  repeat' split at h
  all_goals first
    | (injection h with h; subst h; exact Does.refl ..)
    | (injection h with h; subst h; exact State.dropSprout_does ..)
    | injection h


theorem State.learn_does (s : State) (n : ℕ) (a : PAddr) (taken : Bool) :
    Does 0x10 0x0 s (State.learn s n a taken) := by
  unfold State.learn
  extract_lets +onlyGivenNames x0
  clear_value x0
  extract_lets +onlyGivenNames x1
  clear_value x1
  refine Does.step (State.setPod_does ..) (by decide) (by decide) ?_
  exact Does.refl ..

theorem State.ensureSprout_does (s : State) (n : ℕ) :
    Does 0x8 0x200000000000000000000000000000000000000000000000000000 s (State.ensureSprout s n) := by
  unfold State.ensureSprout
  extract_lets +onlyGivenNames x0
  clear_value x0
  refine Does.ite (fun _ => ?_) (fun _ => ?_)
  · exact Does.refl ..
  · split
    · exact Does.refl ..
    · split
      · exact Does.refl ..
      · refine Does.ite (fun _ => ?_) (fun _ => ?_)
        · exact Does.refl ..
        · extract_lets +onlyGivenNames x1
          clear_value x1
          extract_lets +onlyGivenNames x2
          refine Does.via (x := x2) ?_ (fun _ => ?_)
          · subst x2
            refine Does.wrAll _ _ _ (by decide) ?_
            exact Does.refl ..
          clear_value x2
          split
          · refine Does.step (State.setGang_does ..) (by decide) (by decide) ?_
            assumption
          · refine Does.step (State.stopSprout_does ..) (by decide) (by decide) ?_
            refine Does.step (State.setGang_does ..) (by decide) (by decide) ?_
            assumption

theorem State.done_does (s : State) (c : Ctx) (th : Thread) (cost : ℕ) :
    Does 0x19c034f8 0x4800000020200206c12000004004040008000000000000000000000000000000000 s (State.done s c th cost) := by
  unfold State.done
  extract_lets +onlyGivenNames x0
  refine Does.via (x := x0) ?_ (fun _ => ?_)
  · subst x0
    refine Does.step (State.setGang_does ..) (by decide) (by decide) ?_
    exact Does.refl ..
  clear_value x0
  extract_lets +onlyGivenNames x1
  refine Does.via (x := x1) ?_ (fun _ => ?_)
  · subst x1
    refine Does.foldl (fun _ _ _ => ?_) ?_
    · refine Does.step (State.pulse_does ..) (by decide) (by decide) ?_
      assumption
    · assumption
  clear_value x1
  extract_lets +onlyGivenNames x2
  refine Does.via (x := x2) ?_ (fun _ => ?_)
  · subst x2
    split
    · refine Does.step (State.touch_does ..) (by decide) (by decide) ?_
      assumption
    · assumption
  clear_value x2
  refine Does.step (State.raiseErr_does ..) (by decide) (by decide) ?_
  refine Does.step (State.publish_does ..) (by decide) (by decide) ?_
  refine Does.step (State.ensureSprout_does ..) (by decide) (by decide) ?_
  refine Does.step (State.fix_does ..) (by decide) (by decide) ?_
  assumption

theorem State.postWord_does (s : State) (c : Ctx) (th : Thread) (effs : List Eff) (region : Bool) (cost : ℕ) :
    Does 0x19c034f8 0x4800000020200206c12000004004040008000000000000000000000000000000000 s (State.postWord s c th effs region cost) := by
  unfold State.postWord
  split
  · split
    · refine Does.step (State.stall_does ..) (by decide) (by decide) ?_
      refine Does.step (State.room_doesErr (by assumption)) (by decide) (by decide) ?_
      exact Does.refl ..
    · refine Does.step (State.stopSprout_does ..) (by decide) (by decide) ?_
      refine Does.step (State.room_doesErr (by assumption)) (by decide) (by decide) ?_
      exact Does.refl ..
  · extract_lets +onlyGivenNames x0
    clear_value x0
    refine Does.step (State.done_does ..) (by decide) (by decide) ?_
    refine Does.step (State.setGang_does ..) (by decide) (by decide) ?_
    refine Does.step (State.room_doesOk (by assumption)) (by decide) (by decide) ?_
    exact Does.refl ..

theorem State.dispatch_doesH {F R : Nat} {s0 s : State} {n : ℕ} {p : Path} {compat : Bool} {accept : ℕ → Bool}
    {act : Ctx → Thread → State → State} (hF : Sub 0x19c034e8 F) (hR : Sub 0x4800000020000206c12000004004040008000000000000000000000000000000000 R) (hact : ∀ c th s, Does F R s (act c th s))
    (h : Does F R s0 s) : Does F R s0 (s.dispatch n p compat accept act) := by
  refine h.trans ?_
  have he : ∀ code q a pod, Does F R s (s.engineErr n p code q a pod) := fun code q a pod =>
    (State.engineErr_does ..).mono (Sub.trans (by decide) hF) (Sub.trans (by decide) hR)
  have hs : ∀ k, Does F R s (s.stopSprout n k) := fun k =>
    (State.stopSprout_does ..).mono (Sub.trans (by decide) hF) (Sub.trans (by decide) hR)
  unfold State.dispatch
  split
  · exact Does.refl ..
  · split
    · exact Does.refl ..
    · extract_lets q
      split
      · exact hs _
      · split
        · split
          · exact hs _
          · exact Does.refl ..
        · split
          · exact hs _
          · exact Does.refl ..
        · exact he ..
        · extract_lets c
          split
          · exact Does.refl ..
          · split
            · exact he ..
            · exact hact ..

theorem State.dispatchOp_doesH {F R : Nat} {s0 s : State} {n : ℕ} {p : Path} {op : ℕ}
    {act : Ctx → Thread → State → State} (hF : Sub 0x19c034e8 F) (hR : Sub 0x4800000020000206c12000004004040008000000000000000000000000000000000 R) (hact : ∀ c th s, Does F R s (act c th s))
    (h : Does F R s0 s) : Does F R s0 (s.dispatchOp n p op act) := State.dispatch_doesH hF hR hact h

end Sys2Proof.Machine
end

