-- ==== Sys2Proof/Laws/DoesProgram.lean ====
section
/-! SUPPORT. What each operation and meaning of Machine/Program.lean may touch. -/

namespace Sys2Proof.Machine

open Sys2Proof

set_option linter.unusedVariables false

theorem Ctx.error_does (c : Ctx) (code : ℕ) (pod : ℕ) (s : State) (more : List ℕ) :
    Does 0x19c034e8 0x4800000020000206c12000004004040008000000000000000000000000000000000 s (Ctx.error c code pod s more) := by
  unfold Ctx.error
  refine Does.step (State.engineErr_does ..) (by decide) (by decide) ?_
  exact Does.refl ..

theorem State.oqFull_does (s : State) (n : ℕ) (p : Path) :
    Does 0x8 0x200000000000000000000000000000000000000000000000000000 s (State.oqFull s n p) := by
  unfold State.oqFull
  split
  · refine Does.step (State.stall_does ..) (by decide) (by decide) ?_
    exact Does.refl ..
  · refine Does.step (State.stopSprout_does ..) (by decide) (by decide) ?_
    exact Does.refl ..

theorem vecEffect_does (c : Ctx) (th : Thread) (s : State) :
    Does 0x19c034f8 0x4800000020200206c12000004004040008000000000000000000000000000000000 s (vecEffect c th s) := by
  unfold vecEffect
  split
  · refine Does.step (Ctx.error_does ..) (by decide) (by decide) ?_
    exact Does.refl ..
  · refine Does.ite (fun _ => ?_) (fun _ => ?_)
    · refine Does.step (State.oqFull_does ..) (by decide) (by decide) ?_
      exact Does.refl ..
    · extract_lets +onlyGivenNames x0
      clear_value x0
      extract_lets +onlyGivenNames x1
      clear_value x1
      refine Does.step (State.done_does ..) (by decide) (by decide) ?_
      refine Does.step (State.setGang_does ..) (by decide) (by decide) ?_
      exact Does.refl ..

theorem loopEffect_does (c : Ctx) (th : Thread) (s : State) :
    Does 0x19c034f8 0x4800000020200206c12000004004040008000000000000000000000000000000000 s (loopEffect c th s) := by
  unfold loopEffect
  refine Does.ite (fun _ => ?_) (fun _ => ?_)
  · refine Does.step (Ctx.error_does ..) (by decide) (by decide) ?_
    exact Does.refl ..
  · refine Does.step (State.done_does ..) (by decide) (by decide) ?_
    exact Does.refl ..

theorem endlEffect_does (c : Ctx) (th : Thread) (s : State) :
    Does 0x19c034f8 0x4800000020200206c12000004004040008000000000000000000000000000000000 s (endlEffect c th s) := by
  unfold endlEffect
  split
  · refine Does.step (Ctx.error_does ..) (by decide) (by decide) ?_
    exact Does.refl ..
  · refine Does.ite (fun _ => ?_) (fun _ => ?_)
    · refine Does.step (State.done_does ..) (by decide) (by decide) ?_
      exact Does.refl ..
    · split
      · refine Does.step (Ctx.error_does ..) (by decide) (by decide) ?_
        exact Does.refl ..
      · refine Does.step (State.done_does ..) (by decide) (by decide) ?_
        exact Does.refl ..

theorem jmpEffect_does (c : Ctx) (th : Thread) (s : State) :
    Does 0x19c034f8 0x4800000020200206c12000004004040008000000000000000000000000000000000 s (jmpEffect c th s) := by
  unfold jmpEffect
  split
  · refine Does.step (Ctx.error_does ..) (by decide) (by decide) ?_
    exact Does.refl ..
  · split
    · refine Does.step (Ctx.error_does ..) (by decide) (by decide) ?_
      exact Does.refl ..
    · refine Does.step (State.done_does ..) (by decide) (by decide) ?_
      exact Does.refl ..

theorem callEffect_does (c : Ctx) (th : Thread) (s : State) :
    Does 0x19c034f8 0x4800000020200206c12000004004040008000000000000000000000000000000000 s (callEffect c th s) := by
  unfold callEffect
  refine Does.ite (fun _ => ?_) (fun _ => ?_)
  · refine Does.step (Ctx.error_does ..) (by decide) (by decide) ?_
    exact Does.refl ..
  · split
    · refine Does.step (Ctx.error_does ..) (by decide) (by decide) ?_
      exact Does.refl ..
    · refine Does.step (State.done_does ..) (by decide) (by decide) ?_
      exact Does.refl ..

theorem retEffect_does (c : Ctx) (th : Thread) (s : State) :
    Does 0x19c034f8 0x4800000020200206c12000004004040008000000000000000000000000000000000 s (retEffect c th s) := by
  unfold retEffect
  split
  · refine Does.step (Ctx.error_does ..) (by decide) (by decide) ?_
    exact Does.refl ..
  · extract_lets +onlyGivenNames x0
    clear_value x0
    refine Does.ite (fun _ => ?_) (fun _ => ?_)
    · refine Does.step (Ctx.error_does ..) (by decide) (by decide) ?_
      exact Does.refl ..
    · split
      · refine Does.step (Ctx.error_does ..) (by decide) (by decide) ?_
        exact Does.refl ..
      · refine Does.step (State.done_does ..) (by decide) (by decide) ?_
        exact Does.refl ..

theorem State.matchEnds_does (s : State) (c : Ctx) (th : Thread) (exh : Bool) (failto : Bool) (show_ : Bool) :
    Does 0x19c034f8 0x4800000020200206c12000004004040008000000000000000000000000000000000 s (State.matchEnds s c th exh failto show_) := by
  unfold State.matchEnds
  extract_lets +onlyGivenNames x0
  clear_value x0
  extract_lets +onlyGivenNames x1
  clear_value x1
  refine Does.step (State.done_does ..) (by decide) (by decide) ?_
  refine Does.step (State.setGang_does ..) (by decide) (by decide) ?_
  exact Does.refl ..

theorem State.redirect_does (s : State) (n : ℕ) (th : Thread) (useSprout : Bool) (predicted : Bool) (d : Stamp) :
    Does 0x8 0x0 s (State.redirect s n th useSprout predicted d) := by
  unfold State.redirect
  extract_lets +onlyGivenNames x0
  clear_value x0
  extract_lets +onlyGivenNames x1
  clear_value x1
  split
  · extract_lets +onlyGivenNames x2
    clear_value x2
    refine Does.ite (fun _ => ?_) (fun _ => ?_)
    · extract_lets +onlyGivenNames x3
      clear_value x3
      refine Does.step (State.setGang_does ..) (by decide) (by decide) ?_
      exact Does.refl ..
    · refine Does.step (State.setGang_does ..) (by decide) (by decide) ?_
      exact Does.refl ..
  · refine Does.step (State.setGang_does ..) (by decide) (by decide) ?_
    exact Does.refl ..

theorem State.showShadow_does (s : State) (n : ℕ) (iter : ℕ) (early : Bool) :
    Does 0x0 0x2000000000000000000000000000000000000000000000000000000 s (State.showShadow s n iter early) := by
  unfold State.showShadow
  extract_lets +onlyGivenNames x0
  clear_value x0
  refine Does.wrAll _ _ _ (by decide) ?_
  refine Does.wrAll _ _ _ (by decide) ?_
  exact Does.refl ..

theorem matchShadow_does (c : Ctx) (th : Thread) (d : Stamp) (k : ℕ) (s : State) :
    Does 0x19c034f8 0x4800000020202206c12000004004040008000000000000000000000000000000000 s (matchShadow c th d k s) := by
  unfold matchShadow
  extract_lets +onlyGivenNames x0
  clear_value x0
  extract_lets +onlyGivenNames x1
  clear_value x1
  extract_lets +onlyGivenNames x2
  clear_value x2
  extract_lets +onlyGivenNames x3
  refine Does.via (x := x3) ?_ (fun _ => ?_)
  · subst x3
    refine Does.step (State.setGang_does ..) (by decide) (by decide) ?_
    exact Does.refl ..
  clear_value x3
  extract_lets +onlyGivenNames x4
  refine Does.via (x := x4) ?_ (fun _ => ?_)
  · subst x4
    refine Does.step (State.showShadow_does ..) (by decide) (by decide) ?_
    assumption
  clear_value x4
  extract_lets +onlyGivenNames x5
  refine Does.via (x := x5) ?_ (fun _ => ?_)
  · subst x5
    refine Does.step (State.matchEnds_does ..) (by decide) (by decide) ?_
    assumption
  clear_value x5
  extract_lets +onlyGivenNames x6
  clear_value x6
  split
  · refine Does.ite (fun _ => ?_) (fun _ => ?_)
    · refine Does.step (State.redirect_does ..) (by decide) (by decide) ?_
      assumption
    · assumption
  · assumption

theorem matchEffect_does (c : Ctx) (th : Thread) (s : State) :
    Does 0x19c034f8 0x4800000020202206c12000004004040008000000000000000000000000000000000 s (matchEffect c th s) := by
  unfold matchEffect
  extract_lets +onlyGivenNames x0
  clear_value x0
  extract_lets +onlyGivenNames x1
  clear_value x1
  extract_lets +onlyGivenNames x2
  clear_value x2
  extract_lets +onlyGivenNames x3
  clear_value x3
  extract_lets +onlyGivenNames x4
  clear_value x4
  refine Does.ite (fun _ => ?_) (fun _ => ?_)
  · refine Does.step (Ctx.error_does ..) (by decide) (by decide) ?_
    exact Does.refl ..
  · split
    · refine Does.step (matchShadow_does ..) (by decide) (by decide) ?_
      exact Does.refl ..
    · extract_lets +onlyGivenNames x5
      clear_value x5
      split
      · refine Does.step (State.matchEnds_does ..) (by decide) (by decide) ?_
        exact Does.refl ..
      · refine Does.ite (fun _ => ?_) (fun _ => ?_)
        · refine Does.step (State.matchEnds_does ..) (by decide) (by decide) ?_
          exact Does.refl ..
        · split
          · refine Does.step (Ctx.error_does ..) (by decide) (by decide) ?_
            exact Does.refl ..
          · refine Does.step (State.done_does ..) (by decide) (by decide) ?_
            exact Does.refl ..
      · split
        · refine Does.step (State.stopSprout_does ..) (by decide) (by decide) ?_
          exact Does.refl ..
        · extract_lets +onlyGivenNames x6
          clear_value x6
          extract_lets +onlyGivenNames x7
          clear_value x7
          refine Does.ite (fun _ => ?_) (fun _ => ?_)
          · refine Does.step (State.done_does ..) (by decide) (by decide) ?_
            refine Does.step (State.setGang_does ..) (by decide) (by decide) ?_
            exact Does.refl ..
          · refine Does.ite (fun _ => ?_) (fun _ => ?_)
            · refine Does.step (State.stall_does ..) (by decide) (by decide) ?_
              exact Does.refl ..
            · split
              · refine Does.step (Ctx.error_does ..) (by decide) (by decide) ?_
                exact Does.refl ..
              · extract_lets +onlyGivenNames x8
                clear_value x8
                extract_lets +onlyGivenNames x9
                clear_value x9
                refine Does.step (State.done_does ..) (by decide) (by decide) ?_
                refine Does.step (State.setGang_does ..) (by decide) (by decide) ?_
                exact Does.refl ..

theorem condEffect_does (isFail : Bool) (c : Ctx) (th : Thread) (s : State) :
    Does 0x19c034f8 0x4800000020200206c12000004004040008000000000000000000000000000000000 s (condEffect isFail c th s) := by
  unfold condEffect
  extract_lets +onlyGivenNames x0
  clear_value x0
  extract_lets +onlyGivenNames x1
  clear_value x1
  extract_lets +onlyGivenNames x2
  clear_value x2
  extract_lets +onlyGivenNames x3
  clear_value x3
  extract_lets +onlyGivenNames x4
  clear_value x4
  extract_lets +onlyGivenNames x5
  clear_value x5
  refine Does.ite (fun _ => ?_) (fun _ => ?_)
  · exact Does.refl ..
  · split
    · extract_lets +onlyGivenNames x6
      clear_value x6
      split
      · refine Does.step (Ctx.error_does ..) (by decide) (by decide) ?_
        exact Does.refl ..
      · refine Does.step (State.done_does ..) (by decide) (by decide) ?_
        refine Does.step (State.learn_does ..) (by decide) (by decide) ?_
        exact Does.refl ..
    · split
      · refine Does.step (State.stopSprout_does ..) (by decide) (by decide) ?_
        exact Does.refl ..
      · extract_lets +onlyGivenNames x7
        clear_value x7
        extract_lets +onlyGivenNames x8
        clear_value x8
        refine Does.ite (fun _ => ?_) (fun _ => ?_)
        · refine Does.step (State.stall_does ..) (by decide) (by decide) ?_
          exact Does.refl ..
        · refine Does.ite (fun _ => ?_) (fun _ => ?_)
          · refine Does.step (State.stall_does ..) (by decide) (by decide) ?_
            exact Does.refl ..
          · extract_lets +onlyGivenNames x9
            clear_value x9
            extract_lets +onlyGivenNames x10
            clear_value x10
            extract_lets +onlyGivenNames x11
            refine Does.via (x := x11) ?_ (fun _ => ?_)
            · subst x11
              refine Does.step (State.setGang_does ..) (by decide) (by decide) ?_
              exact Does.refl ..
            clear_value x11
            split
            · refine Does.step (State.engineErr_does ..) (by decide) (by decide) ?_
              refine Does.step (State.done_does ..) (by decide) (by decide) ?_
              assumption
            · refine Does.step (State.done_does ..) (by decide) (by decide) ?_
              assumption

theorem waitWord_does (c : Ctx) (th : Thread) (kind : WaitKind) (tag : ℕ) (failto : Bool) (tmo : ℕ) (s : State) :
    Does 0x19c034f8 0x4800000020200206c12000004004040008000000000000000000000000000000000 s (waitWord c th kind tag failto tmo s) := by
  unfold waitWord
  split
  · refine Does.step (State.stopSprout_does ..) (by decide) (by decide) ?_
    exact Does.refl ..
  · extract_lets +onlyGivenNames x0
    clear_value x0
    refine Does.ite (fun _ => ?_) (fun _ => ?_)
    · exact Does.refl ..
    · extract_lets +onlyGivenNames x1
      clear_value x1
      extract_lets +onlyGivenNames x2
      clear_value x2
      refine Does.step (State.done_does ..) (by decide) (by decide) ?_
      refine Does.step (State.setGang_does ..) (by decide) (by decide) ?_
      exact Does.refl ..

theorem waittEffect_does (c : Ctx) (th : Thread) (s : State) :
    Does 0x19c034f8 0x4800000020200206c12000004004040008000000000000000000000000000000000 s (waittEffect c th s) := by
  unfold waittEffect
  refine Does.step (waitWord_does ..) (by decide) (by decide) ?_
  exact Does.refl ..

theorem waitevEffect_does (c : Ctx) (th : Thread) (s : State) :
    Does 0x19c034f8 0x4800000020200206c12000004004040008000000000000000000000000000000000 s (waitevEffect c th s) := by
  unfold waitevEffect
  refine Does.step (waitWord_does ..) (by decide) (by decide) ?_
  exact Does.refl ..

theorem gsyncEffect_does (c : Ctx) (th : Thread) (s : State) :
    Does 0x19c034f8 0x4800000020200206c12000004004040008000000000000000000000000000000000 s (gsyncEffect c th s) := by
  unfold gsyncEffect
  refine Does.step (waitWord_does ..) (by decide) (by decide) ?_
  exact Does.refl ..

theorem setlvlEffect_does (c : Ctx) (th : Thread) (s : State) :
    Does 0x19c034f8 0x4800000020200206c12000004004040008000000000000000000000000000000000 s (setlvlEffect c th s) := by
  unfold setlvlEffect
  refine Does.step (State.postWord_does ..) (by decide) (by decide) ?_
  exact Does.refl ..

theorem setloadEffect_does (c : Ctx) (th : Thread) (s : State) :
    Does 0x19c034f8 0x4800000020200206c12000004004040008000000000000000000000000000000000 s (setloadEffect c th s) := by
  unfold setloadEffect
  refine Does.step (State.postWord_does ..) (by decide) (by decide) ?_
  exact Does.refl ..

theorem cntEffect_does (c : Ctx) (th : Thread) (s : State) :
    Does 0x19c034f8 0x4800000020200206c12000004004040008000000000000000000000000000000000 s (cntEffect c th s) := by
  unfold cntEffect
  refine Does.step (State.postWord_does ..) (by decide) (by decide) ?_
  exact Does.refl ..

theorem logEffect_does (on : Bool) (c : Ctx) (th : Thread) (s : State) :
    Does 0x19c034f8 0x4800000020200206c12000004004040008000000000000000000000000000000000 s (logEffect on c th s) := by
  unfold logEffect
  refine Does.step (State.postWord_does ..) (by decide) (by decide) ?_
  exact Does.refl ..

theorem measEffect_does (c : Ctx) (th : Thread) (s : State) :
    Does 0x19c034f8 0x4800000020200206c12000004004040008000000000000000000000000000000000 s (measEffect c th s) := by
  unfold measEffect
  extract_lets +onlyGivenNames x0
  clear_value x0
  extract_lets +onlyGivenNames x1
  clear_value x1
  extract_lets +onlyGivenNames x2
  clear_value x2
  refine Does.ite (fun _ => ?_) (fun _ => ?_)
  · refine Does.step (State.postWord_does ..) (by decide) (by decide) ?_
    exact Does.refl ..
  · split
    · refine Does.step (State.stopSprout_does ..) (by decide) (by decide) ?_
      exact Does.refl ..
    · refine Does.ite (fun _ => ?_) (fun _ => ?_)
      · exact Does.refl ..
      · split
        · refine Does.step (State.stall_does ..) (by decide) (by decide) ?_
          refine Does.step (State.room_doesErr (by assumption)) (by decide) (by decide) ?_
          exact Does.refl ..
        · extract_lets +onlyGivenNames x3
          clear_value x3
          extract_lets +onlyGivenNames x4
          clear_value x4
          extract_lets +onlyGivenNames x5
          clear_value x5
          refine Does.step (State.done_does ..) (by decide) (by decide) ?_
          refine Does.step (State.setGang_does ..) (by decide) (by decide) ?_
          refine Does.step (State.room_doesOk (by assumption)) (by decide) (by decide) ?_
          exact Does.refl ..

theorem awgEffect_does (c : Ctx) (th : Thread) (s : State) :
    Does 0x19c034f8 0x4800000020200206c12000004004040008000000000000000000000000000000000 s (awgEffect c th s) := by
  unfold awgEffect
  refine Does.step (State.postWord_does ..) (by decide) (by decide) ?_
  exact Does.refl ..

theorem psafeEffect_does (c : Ctx) (th : Thread) (s : State) :
    Does 0x19c034f8 0x4800000020200206c12000004004040008000000000000000000000000000000000 s (psafeEffect c th s) := by
  unfold psafeEffect
  split
  · refine Does.step (State.stopSprout_does ..) (by decide) (by decide) ?_
    exact Does.refl ..
  · extract_lets +onlyGivenNames x0
    clear_value x0
    extract_lets +onlyGivenNames x1
    clear_value x1
    extract_lets +onlyGivenNames x2
    clear_value x2
    refine Does.step (State.done_does ..) (by decide) (by decide) ?_
    refine Does.step (State.setGang_does ..) (by decide) (by decide) ?_
    exact Does.refl ..

theorem ledgEffect_does (c : Ctx) (th : Thread) (s : State) :
    Does 0x19c034f8 0x4800000020200206c12000004004040008000000000000000000000000000000000 s (ledgEffect c th s) := by
  unfold ledgEffect
  extract_lets +onlyGivenNames x0
  clear_value x0
  extract_lets +onlyGivenNames x1
  clear_value x1
  refine Does.step (State.postWord_does ..) (by decide) (by decide) ?_
  exact Does.refl ..

theorem State.haltGang_does (s : State) (n : ℕ) (attn : Bool) (addr : ℕ) :
    Does 0x800000019c034f8 0x4800000000000006412000004004000008000000000000000000000000000000000 s (State.haltGang s n attn addr) := by
  unfold State.haltGang
  extract_lets +onlyGivenNames x0
  clear_value x0
  extract_lets +onlyGivenNames x1
  refine Does.via (x := x1) ?_ (fun _ => ?_)
  · subst x1
    refine Does.step (State.setGstate_does ..) (by decide) (by decide) ?_
    exact Does.refl ..
  clear_value x1
  extract_lets +onlyGivenNames x2
  refine Does.via (x := x2) ?_ (fun _ => ?_)
  · subst x2
    refine Does.ite (fun _ => ?_) (fun _ => ?_)
    · refine Does.step (State.raise_does ..) (by decide) (by decide) ?_
      assumption
    · assumption
  clear_value x2
  extract_lets +onlyGivenNames x3
  clear_value x3
  extract_lets +onlyGivenNames x4
  refine Does.via (x := x4) ?_ (fun _ => ?_)
  · subst x4
    refine Does.ite (fun _ => ?_) (fun _ => ?_)
    · refine Does.step (State.setGang_does ..) (by decide) (by decide) ?_
      refine Does.step (State.deviceEntry_does ..) (by decide) (by decide) ?_
      assumption
    · assumption
  clear_value x4
  extract_lets +onlyGivenNames x5
  refine Does.via (x := x5) ?_ (fun _ => ?_)
  · subst x5
    refine Does.step (State.measEndSite_does ..) (by decide) (by decide) ?_
    assumption
  clear_value x5
  extract_lets +onlyGivenNames x6
  refine Does.via (x := x6) ?_ (fun _ => ?_)
  · subst x6
    refine Does.foldl (fun _ _ _ => ?_) ?_
    · refine Does.step (State.retire_does ..) (by decide) (by decide) ?_
      assumption
    · assumption
  clear_value x6
  extract_lets +onlyGivenNames x7
  clear_value x7
  extract_lets +onlyGivenNames x8
  refine Does.via (x := x8) ?_ (fun _ => ?_)
  · subst x8
    refine Does.step (State.setGang_does ..) (by decide) (by decide) ?_
    assumption
  clear_value x8
  refine Does.step (State.exitRails_does ..) (by decide) (by decide) ?_
  refine Does.step (State.siteEnded_does ..) (by decide) (by decide) ?_
  refine Does.step (State.endStep_does ..) (by decide) (by decide) ?_
  refine Does.step (State.clearStopped_does ..) (by decide) (by decide) ?_
  assumption

theorem State.park_does (s : State) (n : ℕ) :
    Does 0x20 0x0 s (State.park s n) := by
  unfold State.park
  refine Does.foldl (fun _ _ _ => ?_) ?_
  · refine Does.ite (fun _ => ?_) (fun _ => ?_)
    · refine Does.step (State.forceDrv_does ..) (by decide) (by decide) ?_
      assumption
    · assumption
  · exact Does.refl ..

theorem haltEffect_does (c : Ctx) (th : Thread) (s : State) :
    Does 0x800000019c034f8 0x4800000000200206c12000004004040008000000000000000000000000000000000 s (haltEffect c th s) := by
  unfold haltEffect
  split
  · refine Does.step (State.stopSprout_does ..) (by decide) (by decide) ?_
    exact Does.refl ..
  · extract_lets +onlyGivenNames x0
    refine Does.via (x := x0) ?_ (fun _ => ?_)
    · subst x0
      refine Does.step (State.touch_does ..) (by decide) (by decide) ?_
      exact Does.refl ..
    clear_value x0
    refine Does.ite (fun _ => ?_) (fun _ => ?_)
    · assumption
    · extract_lets +onlyGivenNames x1
      refine Does.via (x := x1) ?_ (fun _ => ?_)
      · subst x1
        refine Does.ite (fun _ => ?_) (fun _ => ?_)
        · refine Does.step (State.park_does ..) (by decide) (by decide) ?_
          assumption
        · assumption
      clear_value x1
      refine Does.ite (fun _ => ?_) (fun _ => ?_)
      · assumption
      · extract_lets +onlyGivenNames x2
        clear_value x2
        extract_lets +onlyGivenNames x3
        refine Does.via (x := x3) ?_ (fun _ => ?_)
        · subst x3
          refine Does.step (State.publish_does ..) (by decide) (by decide) ?_
          refine Does.step (State.setGang_does ..) (by decide) (by decide) ?_
          assumption
        clear_value x3
        refine Does.step (State.haltGang_does ..) (by decide) (by decide) ?_
        assumption

theorem nopEffect_does (c : Ctx) (th : Thread) (s : State) :
    Does 0x19c034f8 0x4800000020200206c12000004004040008000000000000000000000000000000000 s (nopEffect c th s) := by
  unfold nopEffect
  refine Does.ite (fun _ => ?_) (fun _ => ?_)
  · refine Does.step (State.postWord_does ..) (by decide) (by decide) ?_
    exact Does.refl ..
  · refine Does.step (State.done_does ..) (by decide) (by decide) ?_
    exact Does.refl ..

theorem illegalEffect_does (c : Ctx) (a1 : Thread) (s : State) :
    Does 0x19c034e8 0x4800000020000206c12000004004040008000000000000000000000000000000000 s (illegalEffect c a1 s) := by
  unfold illegalEffect
  refine Does.step (Ctx.error_does ..) (by decide) (by decide) ?_
  exact Does.refl ..

theorem userEffect_does (c : Ctx) (th : Thread) (s : State) :
    Does 0x19c034f8 0x4800000020000206c12000004004040008000000000000000000000000000000000 s (userEffect c th s) := by
  unfold userEffect
  split
  · refine Does.step (illegalEffect_does ..) (by decide) (by decide) ?_
    exact Does.refl ..
  · extract_lets +onlyGivenNames x0
    clear_value x0
    extract_lets +onlyGivenNames x1
    clear_value x1
    extract_lets +onlyGivenNames x2
    clear_value x2
    extract_lets +onlyGivenNames x3
    clear_value x3
    extract_lets +onlyGivenNames x4
    clear_value x4
    extract_lets +onlyGivenNames x5
    clear_value x5
    extract_lets +onlyGivenNames x6
    clear_value x6
    extract_lets +onlyGivenNames x7
    refine Does.via (x := x7) ?_ (fun _ => ?_)
    · subst x7
      refine Does.step (State.setGang_does ..) (by decide) (by decide) ?_
      exact Does.refl ..
    clear_value x7
    extract_lets +onlyGivenNames x8
    refine Does.via (x := x8) ?_ (fun _ => ?_)
    · subst x8
      refine Does.foldl (fun _ _ _ => ?_) ?_
      · refine Does.step (State.pulse_does ..) (by decide) (by decide) ?_
        assumption
      · assumption
    clear_value x8
    split
    · refine Does.step (State.touch_does ..) (by decide) (by decide) ?_
      assumption
    · assumption

theorem wordEffect_does (c : Ctx) (th : Thread) (s : State) :
    Does 0x800000019c034f8 0x4800000020202206c12000004004040008000000000000000000000000000000000 s (wordEffect c th s) := by
  unfold wordEffect
  extract_lets +onlyGivenNames x0
  clear_value x0
  refine Does.ite (fun _ => ?_) (fun _ => ?_)
  · refine Does.step (vecEffect_does ..) (by decide) (by decide) ?_
    exact Does.refl ..
  · refine Does.ite (fun _ => ?_) (fun _ => ?_)
    · refine Does.step (loopEffect_does ..) (by decide) (by decide) ?_
      exact Does.refl ..
    · refine Does.ite (fun _ => ?_) (fun _ => ?_)
      · refine Does.step (endlEffect_does ..) (by decide) (by decide) ?_
        exact Does.refl ..
      · refine Does.ite (fun _ => ?_) (fun _ => ?_)
        · refine Does.step (jmpEffect_does ..) (by decide) (by decide) ?_
          exact Does.refl ..
        · refine Does.ite (fun _ => ?_) (fun _ => ?_)
          · refine Does.step (callEffect_does ..) (by decide) (by decide) ?_
            exact Does.refl ..
          · refine Does.ite (fun _ => ?_) (fun _ => ?_)
            · refine Does.step (retEffect_does ..) (by decide) (by decide) ?_
              exact Does.refl ..
            · refine Does.ite (fun _ => ?_) (fun _ => ?_)
              · refine Does.step (matchEffect_does ..) (by decide) (by decide) ?_
                exact Does.refl ..
              · refine Does.ite (fun _ => ?_) (fun _ => ?_)
                · refine Does.step (condEffect_does ..) (by decide) (by decide) ?_
                  exact Does.refl ..
                · refine Does.ite (fun _ => ?_) (fun _ => ?_)
                  · refine Does.step (condEffect_does ..) (by decide) (by decide) ?_
                    exact Does.refl ..
                  · refine Does.ite (fun _ => ?_) (fun _ => ?_)
                    · refine Does.step (waittEffect_does ..) (by decide) (by decide) ?_
                      exact Does.refl ..
                    · refine Does.ite (fun _ => ?_) (fun _ => ?_)
                      · refine Does.step (waitevEffect_does ..) (by decide) (by decide) ?_
                        exact Does.refl ..
                      · refine Does.ite (fun _ => ?_) (fun _ => ?_)
                        · refine Does.step (gsyncEffect_does ..) (by decide) (by decide) ?_
                          exact Does.refl ..
                        · refine Does.ite (fun _ => ?_) (fun _ => ?_)
                          · refine Does.step (setlvlEffect_does ..) (by decide) (by decide) ?_
                            exact Does.refl ..
                          · refine Does.ite (fun _ => ?_) (fun _ => ?_)
                            · refine Does.step (setloadEffect_does ..) (by decide) (by decide) ?_
                              exact Does.refl ..
                            · refine Does.ite (fun _ => ?_) (fun _ => ?_)
                              · refine Does.step (cntEffect_does ..) (by decide) (by decide) ?_
                                exact Does.refl ..
                              · refine Does.ite (fun _ => ?_) (fun _ => ?_)
                                · refine Does.step (logEffect_does ..) (by decide) (by decide) ?_
                                  exact Does.refl ..
                                · refine Does.ite (fun _ => ?_) (fun _ => ?_)
                                  · refine Does.step (logEffect_does ..) (by decide) (by decide) ?_
                                    exact Does.refl ..
                                  · refine Does.ite (fun _ => ?_) (fun _ => ?_)
                                    · refine Does.step (measEffect_does ..) (by decide) (by decide) ?_
                                      exact Does.refl ..
                                    · refine Does.ite (fun _ => ?_) (fun _ => ?_)
                                      · refine Does.step (awgEffect_does ..) (by decide) (by decide) ?_
                                        exact Does.refl ..
                                      · refine Does.ite (fun _ => ?_) (fun _ => ?_)
                                        · refine Does.step (psafeEffect_does ..) (by decide) (by decide) ?_
                                          exact Does.refl ..
                                        · refine Does.ite (fun _ => ?_) (fun _ => ?_)
                                          · refine Does.step (ledgEffect_does ..) (by decide) (by decide) ?_
                                            exact Does.refl ..
                                          · refine Does.ite (fun _ => ?_) (fun _ => ?_)
                                            · refine Does.step (haltEffect_does ..) (by decide) (by decide) ?_
                                              exact Does.refl ..
                                            · refine Does.ite (fun _ => ?_) (fun _ => ?_)
                                              · refine Does.step (nopEffect_does ..) (by decide) (by decide) ?_
                                                exact Does.refl ..
                                              · refine Does.step (userEffect_does ..) (by decide) (by decide) ?_
                                                exact Does.refl ..

end Sys2Proof.Machine
end

