-- ==== Sys2Proof/Laws/DoesMicro.lean ====
section
/-! SUPPORT. What each operation and meaning of Machine/Micro.lean may touch. -/

namespace Sys2Proof.Machine

open Sys2Proof

set_option linter.unusedVariables false

theorem State.routineEnd_does (s : State) (n : ℕ) (p : Path) :
    Does 0x19c034f8 0x4800000020200206c12000004004040008000000000000000000000000000000000 s (State.routineEnd s n p) := by
  unfold State.routineEnd
  extract_lets +onlyGivenNames x0
  clear_value x0
  split
  · exact Does.refl ..
  · extract_lets +onlyGivenNames x1
    clear_value x1
    refine Does.ite (fun _ => ?_) (fun _ => ?_)
    · exact Does.refl ..
    · extract_lets +onlyGivenNames x2
      clear_value x2
      split
      · refine Does.step (State.engineErr_does ..) (by decide) (by decide) ?_
        exact Does.refl ..
      · split
        · refine Does.step (State.engineErr_does ..) (by decide) (by decide) ?_
          exact Does.refl ..
        · extract_lets +onlyGivenNames x3
          clear_value x3
          extract_lets +onlyGivenNames x4
          clear_value x4
          extract_lets +onlyGivenNames x5
          clear_value x5
          extract_lets +onlyGivenNames x6
          clear_value x6
          extract_lets +onlyGivenNames x7
          clear_value x7
          refine Does.step (State.ensureSprout_does ..) (by decide) (by decide) ?_
          refine Does.step (State.publish_does ..) (by decide) (by decide) ?_
          refine Does.step (State.fix_does ..) (by decide) (by decide) ?_
          refine Does.step (State.setGang_does ..) (by decide) (by decide) ?_
          exact Does.refl ..

theorem State.micro_doesH {F R : Nat} {s0 s : State} {pod : ℕ} {p : Path} {uop : ℕ}
    {act : MCtx → MicroSt → State → MRes} {jump : MicroSt → ℕ → Option ℕ} (hF : Sub 0x19c034f8 F) (hR : Sub 0x4800000020200206c12000004004040008000000000000000000000000000000000 R)
    (hact : ∀ c x s, DoesM F R s (act c x s)) (h : Does F R s0 s) : Does F R s0 (s.micro pod p uop act jump) := by
  refine h.trans ?_
  have he : ∀ n code q a pod, Does F R s (s.engineErr n p code q a pod) := fun n code q a pod =>
    (State.engineErr_does ..).mono (Sub.trans (by decide) hF) (Sub.trans (by decide) hR)
  unfold State.micro
  split
  · exact Does.refl ..
  next n _ =>
    extract_lets g
    split
    · exact Does.refl ..
    next th _ =>
      extract_lets x
      split
      · exact Does.refl ..
      · split
        · exact Does.refl ..
        next m _ =>
          split
          · exact Does.refl ..
          · split
            · exact he ..
            · split
              · exact he ..
              · have ha := hact ⟨n, p, pod, th, m, th.wordSeq⟩ x s
                split
                next t ht => rw [ht] at ha; exact ha
                · exact he ..
                next y t ht =>
                  rw [ht] at ha
                  extract_lets g2
                  split
                  · exact ha
                  · dsimp only
                    have h2 : ∀ g, Does F R s (t.setGang n g) := fun g =>
                      Does.step (State.setGang_does ..) (Sub.trans (by decide) hF) (Sub.zero R) ha
                    split
                    · exact Does.step (State.routineEnd_does ..) (Sub.trans (by decide) hF) (Sub.trans (by decide) hR) (h2 _)
                    · exact h2 _

theorem State.microPure_does (s : State) (pod : ℕ) (p : Path) (uop : ℕ) (f : MicroSt → ℕ → MicroSt) :
    Does 0x19c034f8 0x4800000020200206c12000004004040008000000000000000000000000000000000 s (State.microPure s pod p uop f) := by
  unfold State.microPure
  refine State.micro_doesH (by decide) (by decide) (fun _ _ x0 => ?_) ?_
  · refine DoesM.go ?_
    exact Does.refl ..
  · exact Does.refl ..

/-- What the first engine of a gang-scope micro-op may touch. -/
def DoesE (F R : Nat) (s : State) : Except ℕ (Option (ℕ × State)) → Prop
  | .ok (some (_, t)) => Does F R s t
  | _ => True

theorem DoesE.err (F R : Nat) (s : State) (c : ℕ) : DoesE F R s (.error c) := trivial
theorem DoesE.none (F R : Nat) (s : State) : DoesE F R s (.ok none) := trivial
theorem DoesE.some {F R : Nat} {s t : State} {r : ℕ} (h : Does F R s t) : DoesE F R s (.ok (some (r, t))) := h

theorem DoesE.via {F R : Nat} {s x : State} {t : Except ℕ (Option (ℕ × State))} (h : Does F R s x)
    (k : Does F R s x → DoesE F R s t) : DoesE F R s t := k h

theorem DoesE.ite {F R : Nat} {s : State} {a b : Except ℕ (Option (ℕ × State))} {c : Prop} [Decidable c]
    (ha : c → DoesE F R s a) (hb : ¬c → DoesE F R s b) : DoesE F R s (if c then a else b) := by
  by_cases h : c
  · rw [if_pos h]; exact ha h
  · rw [if_neg h]; exact hb h

theorem gangOp_doesH {F R : Nat} {s : State} {c : MCtx} {x : MicroSt} {kind a b : ℕ}
    {first : State → Except ℕ (Option (ℕ × State))} {fin : ℕ → MicroSt → MicroSt} (hF : Sub 0x8 F)
    (hact : ∀ s, DoesE F R s (first s)) : DoesM F R s (gangOp c x s kind a b first fin) := by
  unfold gangOp
  split
  · split
    · exact DoesM.err ..
    · exact Does.refl ..
  · have hf := hact s
    split
    · exact DoesM.err ..
    · exact Does.refl ..
    next r t ht =>
      rw [ht] at hf
      extract_lets g
      split
      · exact hf
      · exact Does.step (State.setGang_does ..) hF (Sub.zero R) hf

theorem State.onThread_does (s : State) (c : MCtx) (f : Thread → Thread) :
    Does 0x8 0x0 s (State.onThread s c f) := by
  unfold State.onThread
  extract_lets +onlyGivenNames x0
  clear_value x0
  split
  · exact Does.refl ..
  · refine Does.step (State.setGang_does ..) (by decide) (by decide) ?_
    exact Does.refl ..

theorem lstkAct_does (c : MCtx) (x : MicroSt) (s : State) :
    DoesM 0x8 0x0 s (lstkAct c x s) := by
  unfold lstkAct
  extract_lets +onlyGivenNames x0
  clear_value x0
  extract_lets +onlyGivenNames x1
  clear_value x1
  refine gangOp_doesH (by decide) (fun x2 => ?_)
  refine DoesE.ite (fun _ => ?_) (fun _ => ?_)
  · refine DoesE.ite (fun _ => ?_) (fun _ => ?_)
    · exact DoesE.err ..
    · refine DoesE.some ?_
      refine Does.step (State.onThread_does ..) (by decide) (by decide) ?_
      exact Does.refl ..
  · refine DoesE.ite (fun _ => ?_) (fun _ => ?_)
    · split
      · exact DoesE.err ..
      · refine DoesE.ite (fun _ => ?_) (fun _ => ?_)
        · refine DoesE.some ?_
          exact Does.refl ..
        · refine DoesE.some ?_
          refine Does.step (State.onThread_does ..) (by decide) (by decide) ?_
          exact Does.refl ..
    · refine DoesE.ite (fun _ => ?_) (fun _ => ?_)
      · split
        · exact DoesE.err ..
        · refine DoesE.some ?_
          refine Does.step (State.onThread_does ..) (by decide) (by decide) ?_
          exact Does.refl ..
      · refine DoesE.some ?_
        exact Does.refl ..

theorem cstkAct_does (c : MCtx) (x : MicroSt) (s : State) :
    DoesM 0x8 0x0 s (cstkAct c x s) := by
  unfold cstkAct
  extract_lets +onlyGivenNames x0
  clear_value x0
  refine gangOp_doesH (by decide) (fun x1 => ?_)
  refine DoesE.ite (fun _ => ?_) (fun _ => ?_)
  · refine DoesE.ite (fun _ => ?_) (fun _ => ?_)
    · exact DoesE.err ..
    · refine DoesE.some ?_
      refine Does.step (State.onThread_does ..) (by decide) (by decide) ?_
      exact Does.refl ..
  · refine DoesE.ite (fun _ => ?_) (fun _ => ?_)
    · split
      · exact DoesE.err ..
      · extract_lets +onlyGivenNames x2
        clear_value x2
        refine DoesE.ite (fun _ => ?_) (fun _ => ?_)
        · exact DoesE.err ..
        · refine DoesE.some ?_
          refine Does.step (State.onThread_does ..) (by decide) (by decide) ?_
          exact Does.refl ..
    · refine DoesE.some ?_
      exact Does.refl ..

theorem mctrAct_does (c : MCtx) (x : MicroSt) (s : State) :
    DoesM 0x8 0x0 s (mctrAct c x s) := by
  unfold mctrAct
  extract_lets +onlyGivenNames x0
  clear_value x0
  extract_lets +onlyGivenNames x1
  clear_value x1
  refine gangOp_doesH (by decide) (fun x2 => ?_)
  extract_lets +onlyGivenNames x3
  clear_value x3
  refine DoesE.ite (fun _ => ?_) (fun _ => ?_)
  · refine DoesE.ite (fun _ => ?_) (fun _ => ?_)
    · exact DoesE.err ..
    · refine DoesE.some ?_
      refine Does.step (State.onThread_does ..) (by decide) (by decide) ?_
      exact Does.refl ..
  · refine DoesE.ite (fun _ => ?_) (fun _ => ?_)
    · refine DoesE.ite (fun _ => ?_) (fun _ => ?_)
      · exact DoesE.err ..
      · extract_lets +onlyGivenNames x4
        clear_value x4
        refine DoesE.some ?_
        refine Does.step (State.onThread_does ..) (by decide) (by decide) ?_
        exact Does.refl ..
    · refine DoesE.ite (fun _ => ?_) (fun _ => ?_)
      · refine DoesE.some ?_
        refine Does.step (State.onThread_does ..) (by decide) (by decide) ?_
        exact Does.refl ..
      · refine DoesE.some ?_
        exact Does.refl ..

theorem State.userCkpt_does {s t : State} {c : MCtx} {ix : ℕ} {onFail : Bool} {tags : ℕ} (h : s.userCkpt c ix onFail tags = some t) :
    Does 0x8 0x0 s t := by
  unfold State.userCkpt at h
  split at h
  · cases h
  · extract_lets g mine at h
    split at h
    · cases h; exact State.setGang_does ..
    · split at h
      · cases h
      · cases h; exact State.setGang_does ..

theorem readWaits_does (c : MCtx) (s : State) :
    DoesM 0x8 0x200000000000000000000000000000000000000000000000000000 s (readWaits c s) := by
  unfold readWaits
  split
  · refine DoesM.wait ?_
    refine Does.step (State.stopSprout_does ..) (by decide) (by decide) ?_
    exact Does.refl ..
  · refine DoesM.wait ?_
    refine Does.step (State.stall_does ..) (by decide) (by decide) ?_
    exact Does.refl ..

theorem specRead_does (c : MCtx) (x : MicroSt) (s : State) (pending : Bool) (onFail : Bool) (tags : ℕ) (fin : MicroSt → MicroSt) :
    DoesM 0x8 0x200000000000000000000000000000000000000000000000000000 s (specRead c x s pending onFail tags fin) := by
  unfold specRead
  refine DoesM.ite (fun _ => ?_) (fun _ => ?_)
  · split
    · refine DoesM.go ?_
      refine Does.step (State.userCkpt_does (by assumption)) (by decide) (by decide) ?_
      exact Does.refl ..
    · refine DoesM.step (readWaits_does ..) (by decide) (by decide) ?_
      exact Does.refl ..
  · refine DoesM.go ?_
    exact Does.refl ..

theorem getsAct_does (c : MCtx) (x : MicroSt) (s : State) :
    DoesM 0x8 0x200000000000000000000000000000000000000000000000000000 s (getsAct c x s) := by
  unfold getsAct
  extract_lets +onlyGivenNames x0
  clear_value x0
  extract_lets +onlyGivenNames x1
  clear_value x1
  extract_lets +onlyGivenNames x2
  clear_value x2
  extract_lets +onlyGivenNames x3
  clear_value x3
  extract_lets +onlyGivenNames x4
  clear_value x4
  refine DoesM.ite (fun _ => ?_) (fun _ => ?_)
  · refine DoesM.go ?_
    exact Does.refl ..
  · refine DoesM.ite (fun _ => ?_) (fun _ => ?_)
    · refine DoesM.go ?_
      exact Does.refl ..
    · refine DoesM.ite (fun _ => ?_) (fun _ => ?_)
      · split
        · refine DoesM.step (readWaits_does ..) (by decide) (by decide) ?_
          exact Does.refl ..
        · refine DoesM.go ?_
          exact Does.refl ..
      · refine DoesM.ite (fun _ => ?_) (fun _ => ?_)
        · refine DoesM.step (readWaits_does ..) (by decide) (by decide) ?_
          exact Does.refl ..
        · refine DoesM.ite (fun _ => ?_) (fun _ => ?_)
          · refine DoesM.ite (fun _ => ?_) (fun _ => ?_)
            · refine DoesM.step (readWaits_does ..) (by decide) (by decide) ?_
              exact Does.refl ..
            · refine DoesM.step (specRead_does ..) (by decide) (by decide) ?_
              exact Does.refl ..
          · refine DoesM.ite (fun _ => ?_) (fun _ => ?_)
            · refine DoesM.ite (fun _ => ?_) (fun _ => ?_)
              · refine DoesM.step (readWaits_does ..) (by decide) (by decide) ?_
                exact Does.refl ..
              · refine DoesM.step (specRead_does ..) (by decide) (by decide) ?_
                exact Does.refl ..
            · refine DoesM.ite (fun _ => ?_) (fun _ => ?_)
              · refine DoesM.ite (fun _ => ?_) (fun _ => ?_)
                · refine DoesM.step (readWaits_does ..) (by decide) (by decide) ?_
                  exact Does.refl ..
                · split
                  · refine DoesM.go ?_
                    exact Does.refl ..
                  · refine DoesM.ite (fun _ => ?_) (fun _ => ?_)
                    · refine DoesM.go ?_
                      exact Does.refl ..
                    · refine DoesM.step (readWaits_does ..) (by decide) (by decide) ?_
                      exact Does.refl ..
              · refine DoesM.ite (fun _ => ?_) (fun _ => ?_)
                · refine DoesM.ite (fun _ => ?_) (fun _ => ?_)
                  · refine DoesM.step (readWaits_does ..) (by decide) (by decide) ?_
                    exact Does.refl ..
                  · refine DoesM.go ?_
                    exact Does.refl ..
                · refine DoesM.ite (fun _ => ?_) (fun _ => ?_)
                  · refine DoesM.go ?_
                    exact Does.refl ..
                  · refine DoesM.ite (fun _ => ?_) (fun _ => ?_)
                    · refine DoesM.go ?_
                      exact Does.refl ..
                    · refine DoesM.ite (fun _ => ?_) (fun _ => ?_)
                      · refine DoesM.go ?_
                        exact Does.refl ..
                      · refine DoesM.ite (fun _ => ?_) (fun _ => ?_)
                        · refine DoesM.go ?_
                          exact Does.refl ..
                        · refine DoesM.ite (fun _ => ?_) (fun _ => ?_)
                          · refine DoesM.go ?_
                            exact Does.refl ..
                          · refine DoesM.ite (fun _ => ?_) (fun _ => ?_)
                            · refine DoesM.ite (fun _ => ?_) (fun _ => ?_)
                              · refine DoesM.go ?_
                                exact Does.refl ..
                              · refine DoesM.step (readWaits_does ..) (by decide) (by decide) ?_
                                exact Does.refl ..
                            · refine DoesM.ite (fun _ => ?_) (fun _ => ?_)
                              · extract_lets +onlyGivenNames x5
                                clear_value x5
                                extract_lets +onlyGivenNames x6
                                clear_value x6
                                refine DoesM.ite (fun _ => ?_) (fun _ => ?_)
                                · refine DoesM.step (readWaits_does ..) (by decide) (by decide) ?_
                                  exact Does.refl ..
                                · refine DoesM.go ?_
                                  exact Does.refl ..
                              · refine DoesM.go ?_
                                exact Does.refl ..

theorem condAct_does (c : MCtx) (x : MicroSt) (s : State) :
    DoesM 0x8 0x200000000000000000000000000000000000000000000000000000 s (condAct c x s) := by
  unfold condAct
  extract_lets +onlyGivenNames x0
  clear_value x0
  extract_lets +onlyGivenNames x1
  clear_value x1
  extract_lets +onlyGivenNames x2
  clear_value x2
  refine DoesM.ite (fun _ => ?_) (fun _ => ?_)
  · refine DoesM.step (readWaits_does ..) (by decide) (by decide) ?_
    exact Does.refl ..
  · split
    · refine DoesM.go ?_
      exact Does.refl ..
    · split
      · refine DoesM.ite (fun _ => ?_) (fun _ => ?_)
        · refine DoesM.step (specRead_does ..) (by decide) (by decide) ?_
          exact Does.refl ..
        · refine DoesM.step (readWaits_does ..) (by decide) (by decide) ?_
          exact Does.refl ..
      · refine DoesM.step (readWaits_does ..) (by decide) (by decide) ?_
        exact Does.refl ..

theorem issueAct_does (c : MCtx) (x : MicroSt) (s : State) :
    DoesM 0x19c034e8 0x4800000020000206c12000004004040008000000000000000000000000000000000 s (issueAct c x s) := by
  unfold issueAct
  extract_lets +onlyGivenNames x0
  clear_value x0
  extract_lets +onlyGivenNames x1
  clear_value x1
  extract_lets +onlyGivenNames x2
  clear_value x2
  extract_lets +onlyGivenNames x3
  clear_value x3
  split
  · refine DoesM.ite (fun _ => ?_) (fun _ => ?_)
    · exact DoesM.err ..
    · extract_lets +onlyGivenNames x4
      clear_value x4
      refine DoesM.go ?_
      refine Does.step (State.setGang_does ..) (by decide) (by decide) ?_
      exact Does.refl ..
  · split
    · refine DoesM.wait ?_
      refine Does.step (State.engineErr_does ..) (by decide) (by decide) ?_
      exact Does.refl ..
    · refine DoesM.ite (fun _ => ?_) (fun _ => ?_)
      · refine DoesM.wait ?_
        refine Does.step (State.oqFull_does ..) (by decide) (by decide) ?_
        exact Does.refl ..
      · extract_lets +onlyGivenNames x5
        refine DoesM.via (x := x5) ?_ (fun _ => ?_)
        · subst x5
          refine Does.step (State.setGang_does ..) (by decide) (by decide) ?_
          exact Does.refl ..
        clear_value x5
        refine DoesM.go ?_
        refine Does.step (State.onThread_does ..) (by decide) (by decide) ?_
        assumption

theorem postMicro_doesOk {s t : State} {c : MCtx} {x : MicroSt} {e : Eff} {pod : Option (ℕ × ℕ)}
    (h : postMicro c x e pod s = .ok t) : Does 0x8 0x200400000000000000000000000000000000000000000000000000 s t := by
  unfold postMicro at h
  split at h
  · cases h
  · extract_lets g at h
    cases h
    refine Does.step (State.fix_does ..) (by decide) (by decide) ?_
    refine Does.step (State.setGang_does ..) (by decide) (by decide) ?_
    refine Does.step (State.room_doesOk (by assumption)) (by decide) (by decide) ?_
    exact Does.refl ..

theorem postMicro_doesErr {s t : State} {c : MCtx} {x : MicroSt} {e : Eff} {pod : Option (ℕ × ℕ)}
    (h : postMicro c x e pod s = .error t) : Does 0x8 0x200400000000000000000000000000000000000000000000000000 s t := by
  unfold postMicro at h
  split at h
  · cases h
    exact (State.room_doesErr (by assumption)).mono (by decide) (by decide)
  · cases h

theorem sefxFull_does (c : MCtx) (s : State) :
    Does 0x8 0x200000000000000000000000000000000000000000000000000000 s (sefxFull c s) := by
  unfold sefxFull
  split
  · refine Does.step (State.stall_does ..) (by decide) (by decide) ?_
    exact Does.refl ..
  · refine Does.step (State.stopSprout_does ..) (by decide) (by decide) ?_
    exact Does.refl ..

theorem sefxAct_does (c : MCtx) (x : MicroSt) (s : State) :
    DoesM 0x8 0x200400000000000000000000000000000000000000000000000000 s (sefxAct c x s) := by
  unfold sefxAct
  extract_lets +onlyGivenNames x0
  clear_value x0
  extract_lets +onlyGivenNames x1
  clear_value x1
  extract_lets +onlyGivenNames x2
  clear_value x2
  refine DoesM.ite (fun _ => ?_) (fun _ => ?_)
  · extract_lets +onlyGivenNames x3
    clear_value x3
    split
    · refine DoesM.wait ?_
      refine Does.step (sefxFull_does ..) (by decide) (by decide) ?_
      refine Does.step (postMicro_doesErr (by assumption)) (by decide) (by decide) ?_
      exact Does.refl ..
    · refine DoesM.go ?_
      refine Does.step (postMicro_doesOk (by assumption)) (by decide) (by decide) ?_
      exact Does.refl ..
  · refine DoesM.ite (fun _ => ?_) (fun _ => ?_)
    · extract_lets +onlyGivenNames x4
      clear_value x4
      extract_lets +onlyGivenNames x5
      clear_value x5
      extract_lets +onlyGivenNames x6
      clear_value x6
      refine DoesM.ite (fun _ => ?_) (fun _ => ?_)
      · exact DoesM.err ..
      · split
        · refine DoesM.ite (fun _ => ?_) (fun _ => ?_)
          · exact DoesM.err ..
          · refine DoesM.go ?_
            refine Does.step (State.setGang_does ..) (by decide) (by decide) ?_
            exact Does.refl ..
        · split
          · refine DoesM.wait ?_
            refine Does.step (sefxFull_does ..) (by decide) (by decide) ?_
            refine Does.step (postMicro_doesErr (by assumption)) (by decide) (by decide) ?_
            exact Does.refl ..
          · refine DoesM.go ?_
            refine Does.step (State.onThread_does ..) (by decide) (by decide) ?_
            refine Does.step (postMicro_doesOk (by assumption)) (by decide) (by decide) ?_
            exact Does.refl ..
    · extract_lets +onlyGivenNames x7
      clear_value x7
      split
      · refine DoesM.ite (fun _ => ?_) (fun _ => ?_)
        · exact DoesM.err ..
        · refine DoesM.go ?_
          exact Does.refl ..
      · split
        · exact DoesM.err ..
        · extract_lets +onlyGivenNames x8
          clear_value x8
          split
          · refine DoesM.wait ?_
            refine Does.step (sefxFull_does ..) (by decide) (by decide) ?_
            refine Does.step (postMicro_doesErr (by assumption)) (by decide) (by decide) ?_
            exact Does.refl ..
          · refine DoesM.go ?_
            refine Does.step (State.onThread_does ..) (by decide) (by decide) ?_
            refine Does.step (postMicro_doesOk (by assumption)) (by decide) (by decide) ?_
            exact Does.refl ..

theorem waitAct_does (c : MCtx) (x : MicroSt) (s : State) :
    DoesM 0x8 0x200400000000000000000000000000000000000000000000000000 s (waitAct c x s) := by
  unfold waitAct
  split
  · refine DoesM.wait ?_
    refine Does.step (State.stopSprout_does ..) (by decide) (by decide) ?_
    exact Does.refl ..
  · extract_lets +onlyGivenNames x0
    clear_value x0
    extract_lets +onlyGivenNames x1
    clear_value x1
    split
    · refine DoesM.ite (fun _ => ?_) (fun _ => ?_)
      · exact DoesM.err ..
      · refine DoesM.ite (fun _ => ?_) (fun _ => ?_)
        · refine DoesM.wait ?_
          refine Does.step (State.onThread_does ..) (by decide) (by decide) ?_
          exact Does.refl ..
        · extract_lets +onlyGivenNames x2
          clear_value x2
          refine DoesM.go ?_
          exact Does.refl ..
    · extract_lets +onlyGivenNames x3
      clear_value x3
      refine DoesM.ite (fun _ => ?_) (fun _ => ?_)
      · refine DoesM.wait ?_
        exact Does.refl ..
      · refine DoesM.ite (fun _ => ?_) (fun _ => ?_)
        · exact DoesM.err ..
        · extract_lets +onlyGivenNames x4
          clear_value x4
          extract_lets +onlyGivenNames x5
          clear_value x5
          extract_lets +onlyGivenNames x6
          refine DoesM.via (x := x6) ?_ (fun _ => ?_)
          · subst x6
            refine Does.step (State.setGang_does ..) (by decide) (by decide) ?_
            exact Does.refl ..
          clear_value x6
          extract_lets +onlyGivenNames x7
          refine DoesM.via (x := x7) ?_ (fun _ => ?_)
          · subst x7
            refine Does.step (State.onThread_does ..) (by decide) (by decide) ?_
            assumption
          clear_value x7
          refine DoesM.wait ?_
          refine Does.step (State.fix_does ..) (by decide) (by decide) ?_
          assumption

theorem safeptAct_does (c : MCtx) (x : MicroSt) (s : State) :
    DoesM 0x8 0x200400000000000000000000000000000000000000000000000000 s (safeptAct c x s) := by
  unfold safeptAct
  split
  · refine DoesM.wait ?_
    refine Does.step (State.stopSprout_does ..) (by decide) (by decide) ?_
    exact Does.refl ..
  · refine gangOp_doesH (by decide) (fun x0 => ?_)
    extract_lets +onlyGivenNames x1
    clear_value x1
    refine DoesE.some ?_
    refine Does.step (State.fix_does ..) (by decide) (by decide) ?_
    refine Does.step (State.setGang_does ..) (by decide) (by decide) ?_
    exact Does.refl ..

theorem ghaltAct_does (c : MCtx) (x : MicroSt) (s : State) :
    DoesM 0x800000019c034f8 0x4800000000200206c12000004004040008000000000000000000000000000000000 s (ghaltAct c x s) := by
  unfold ghaltAct
  split
  · refine DoesM.wait ?_
    refine Does.step (State.stopSprout_does ..) (by decide) (by decide) ?_
    exact Does.refl ..
  · extract_lets +onlyGivenNames x0
    clear_value x0
    refine DoesM.ite (fun _ => ?_) (fun _ => ?_)
    · refine DoesM.wait ?_
      exact Does.refl ..
    · extract_lets +onlyGivenNames x1
      refine DoesM.via (x := x1) ?_ (fun _ => ?_)
      · subst x1
        refine Does.ite (fun _ => ?_) (fun _ => ?_)
        · refine Does.step (State.park_does ..) (by decide) (by decide) ?_
          exact Does.refl ..
        · exact Does.refl ..
      clear_value x1
      refine DoesM.ite (fun _ => ?_) (fun _ => ?_)
      · refine DoesM.wait ?_
        assumption
      · refine DoesM.wait ?_
        refine Does.step (State.haltGang_does ..) (by decide) (by decide) ?_
        refine Does.step (State.publish_does ..) (by decide) (by decide) ?_
        assumption

end Sys2Proof.Machine
end

