-- ==== Sys2Proof/Laws/DoesVectorOps.lean ====
section
/-! SUPPORT. What each operation and meaning of Machine/VectorOps.lean may touch. -/

namespace Sys2Proof.Machine

open Sys2Proof

set_option linter.unusedVariables false

theorem State.setLevels_does (s : State) (q : ℕ) (b : LBlock) :
    Does 0x20 0x1e0000000000000000000000000000000000000000000000000000000000000000 s (State.setLevels s q b) := by
  unfold State.setLevels
  extract_lets +onlyGivenNames x0
  refine Does.via (x := x0) ?_ (fun _ => ?_)
  · subst x0
    refine Does.wr _ _ _ _ (by decide) ?_
    refine Does.wr _ _ _ _ (by decide) ?_
    exact Does.refl ..
  clear_value x0
  extract_lets +onlyGivenNames x1
  refine Does.via (x := x1) ?_ (fun _ => ?_)
  · subst x1
    refine Does.wr _ _ _ _ (by decide) ?_
    refine Does.wr _ _ _ _ (by decide) ?_
    assumption
  clear_value x1
  extract_lets +onlyGivenNames x2
  refine Does.via (x := x2) ?_ (fun _ => ?_)
  · subst x2
    refine Does.wr _ _ _ _ (by decide) ?_
    refine Does.wr _ _ _ _ (by decide) ?_
    assumption
  clear_value x2
  extract_lets +onlyGivenNames x3
  refine Does.via (x := x3) ?_ (fun _ => ?_)
  · subst x3
    refine Does.wr _ _ _ _ (by decide) ?_
    assumption
  clear_value x3
  refine Does.step (State.setPin_does ..) (by decide) (by decide) ?_
  assumption

theorem State.applyLevels_does (s : State) (pod : ℕ) (k : ℕ) :
    Does 0x30 0x1e0000800000000000000000000000000000000000000000000000000000000000 s (State.applyLevels s pod k) := by
  unfold State.applyLevels
  extract_lets +onlyGivenNames x0
  clear_value x0
  extract_lets +onlyGivenNames x1
  clear_value x1
  extract_lets +onlyGivenNames x2
  clear_value x2
  extract_lets +onlyGivenNames x3
  clear_value x3
  extract_lets +onlyGivenNames x4
  clear_value x4
  extract_lets +onlyGivenNames x5
  refine Does.via (x := x5) ?_ (fun _ => ?_)
  · subst x5
    refine Does.foldl (fun _ _ _ => ?_) ?_
    · extract_lets +onlyGivenNames x6
      clear_value x6
      extract_lets +onlyGivenNames x7
      refine Does.via (x := x7) ?_ (fun _ => ?_)
      · subst x7
        refine Does.step (State.setLevels_does ..) (by decide) (by decide) ?_
        assumption
      clear_value x7
      refine Does.wr _ _ _ _ (by decide) ?_
      refine Does.wr _ _ _ _ (by decide) ?_
      assumption
    · exact Does.refl ..
  clear_value x5
  extract_lets +onlyGivenNames x8
  refine Does.via (x := x8) ?_ (fun _ => ?_)
  · subst x8
    refine Does.wr _ _ _ _ (by decide) ?_
    assumption
  clear_value x8
  extract_lets +onlyGivenNames x9
  refine Does.via (x := x9) ?_ (fun _ => ?_)
  · subst x9
    refine Does.ite (fun _ => ?_) (fun _ => ?_)
    · refine Does.wr _ _ _ _ (by decide) ?_
      assumption
    · assumption
  clear_value x9
  extract_lets +onlyGivenNames x10
  refine Does.via (x := x10) ?_ (fun _ => ?_)
  · subst x10
    refine Does.wr _ _ _ _ (by decide) ?_
    assumption
  clear_value x10
  extract_lets +onlyGivenNames x11
  clear_value x11
  refine Does.step (State.setPod_does ..) (by decide) (by decide) ?_
  assumption

theorem State.applyLoad_does (s : State) (pod : ℕ) (iload : ℕ) (mode : ℕ) (pmask : ℕ) :
    Does 0x20 0x80000000000000000000000000000000000000000000000000000000000000000 s (State.applyLoad s pod iload mode pmask) := by
  unfold State.applyLoad
  refine Does.foldl (fun _ _ _ => ?_) ?_
  · extract_lets +onlyGivenNames x0
    clear_value x0
    refine Does.step (State.setPin_does ..) (by decide) (by decide) ?_
    refine Does.wr _ _ _ _ (by decide) ?_
    assumption
  · exact Does.refl ..

theorem State.applyLog_does (s : State) (pod : ℕ) (pmask : ℕ) (on : Bool) :
    Does 0x20 0x0 s (State.applyLog s pod pmask on) := by
  unfold State.applyLog
  refine Does.foldl (fun _ _ _ => ?_) ?_
  · refine Does.step (State.setPin_does ..) (by decide) (by decide) ?_
    assumption
  · exact Does.refl ..

theorem State.countDrops_does (s : State) (pod : ℕ) (k : ℕ) :
    Does 0x0 0x60000000000000000000000000000000000000000000000000000000000 s (State.countDrops s pod k) := by
  unfold State.countDrops
  refine Does.ite (fun _ => ?_) (fun _ => ?_)
  · exact Does.refl ..
  · refine Does.wr _ _ _ _ (by decide) ?_
    refine Does.bump _ _ _ _ (by decide) ?_
    exact Does.refl ..

theorem State.placePin_does (s : State) (pod : ℕ) (i : ℕ) (ts : TSet) (code : ℕ) (pos : ℕ) (nofail : Bool) (nocap : Bool) (pad : Bool) (t0 : Stamp) :
    Does 0x4000002000020 0x800000060000000000000000000000000000000000000000000000000000000000 s (State.placePin s pod i ts code pos nofail nocap pad t0) := by
  unfold State.placePin
  extract_lets +onlyGivenNames x0
  clear_value x0
  extract_lets +onlyGivenNames x1
  refine Does.via (x := x1) ?_ (fun _ => ?_)
  · subst x1
    refine Does.ite (fun _ => ?_) (fun _ => ?_)
    · refine Does.step (State.detect_does ..) (by decide) (by decide) ?_
      exact Does.refl ..
    · exact Does.refl ..
  clear_value x1
  extract_lets +onlyGivenNames x2
  clear_value x2
  extract_lets +onlyGivenNames x3
  clear_value x3
  extract_lets +onlyGivenNames x4
  clear_value x4
  extract_lets +onlyGivenNames x5
  clear_value x5
  extract_lets +onlyGivenNames x6
  clear_value x6
  extract_lets +onlyGivenNames x7
  clear_value x7
  extract_lets +onlyGivenNames x8
  clear_value x8
  extract_lets +onlyGivenNames x9
  clear_value x9
  extract_lets +onlyGivenNames x10
  clear_value x10
  extract_lets +onlyGivenNames x11
  clear_value x11
  extract_lets +onlyGivenNames x12
  clear_value x12
  extract_lets +onlyGivenNames x13
  clear_value x13
  extract_lets +onlyGivenNames x14
  clear_value x14
  extract_lets +onlyGivenNames x15
  clear_value x15
  extract_lets +onlyGivenNames x16
  clear_value x16
  extract_lets +onlyGivenNames x17
  clear_value x17
  extract_lets +onlyGivenNames x18
  clear_value x18
  extract_lets +onlyGivenNames x19
  clear_value x19
  extract_lets +onlyGivenNames x20
  clear_value x20
  extract_lets +onlyGivenNames x21
  clear_value x21
  extract_lets +onlyGivenNames x22
  refine Does.via (x := x22) ?_ (fun _ => ?_)
  · subst x22
    refine Does.ite (fun _ => ?_) (fun _ => ?_)
    · refine Does.wr _ _ _ _ (by decide) ?_
      assumption
    · assumption
  clear_value x22
  extract_lets +onlyGivenNames x23
  refine Does.via (x := x23) ?_ (fun _ => ?_)
  · subst x23
    refine Does.step (State.countDrops_does ..) (by decide) (by decide) ?_
    assumption
  clear_value x23
  extract_lets +onlyGivenNames x24
  clear_value x24
  refine Does.ite (fun _ => ?_) (fun _ => ?_)
  · refine Does.step (State.setPin_does ..) (by decide) (by decide) ?_
    assumption
  · split
    · refine Does.step (State.setPin_does ..) (by decide) (by decide) ?_
      assumption
    · extract_lets +onlyGivenNames x25
      clear_value x25
      extract_lets +onlyGivenNames x26
      clear_value x26
      refine Does.step (State.countDrops_does ..) (by decide) (by decide) ?_
      refine Does.step (State.setPin_does ..) (by decide) (by decide) ?_
      assumption

theorem State.raiseMarker_does (s : State) (n : ℕ) (k : ℕ) (t : Stamp) :
    Does 0x8000860 0x0 s (State.raiseMarker s n k t) := by
  unfold State.raiseMarker
  extract_lets +onlyGivenNames x0
  refine Does.via (x := x0) ?_ (fun _ => ?_)
  · subst x0
    refine Does.step (State.iuOther_does ..) (by decide) (by decide) ?_
    exact Does.refl ..
  clear_value x0
  extract_lets +onlyGivenNames x1
  refine Does.via (x := x1) ?_ (fun _ => ?_)
  · subst x1
    refine Does.step (State.pmuTrigger_does ..) (by decide) (by decide) ?_
    assumption
  clear_value x1
  extract_lets +onlyGivenNames x2
  refine Does.via (x := x2) ?_ (fun _ => ?_)
  · subst x2
    refine Does.step (State.markWaves_does ..) (by decide) (by decide) ?_
    assumption
  clear_value x2
  refine Does.step (State.pulse_does ..) (by decide) (by decide) ?_
  assumption

theorem State.raiseMarks_does (s : State) :
    Does 0x8000868 0x0 s (State.raiseMarks s) := by
  unfold State.raiseMarks
  refine Does.foldl (fun _ _ _ => ?_) ?_
  · extract_lets +onlyGivenNames x0
    clear_value x0
    extract_lets +onlyGivenNames x1
    clear_value x1
    refine Does.ite (fun _ => ?_) (fun _ => ?_)
    · assumption
    · refine Does.foldl (fun _ _ _ => ?_) ?_
      · refine Does.step (State.raiseMarker_does ..) (by decide) (by decide) ?_
        assumption
      · refine Does.step (State.setGang_does ..) (by decide) (by decide) ?_
        assumption
  · exact Does.refl ..

theorem State.trigMark_does (s : State) (k : ℕ) (t : Stamp) (stop : Stamp) :
    Does 0x80000000000000 0x0 s (State.trigMark s k t stop) := by
  unfold State.trigMark
  extract_lets +onlyGivenNames x0
  clear_value x0
  refine Does.ite (fun _ => ?_) (fun _ => ?_)
  · refine Does.upd_trigs _ (by decide) ?_
    exact Does.refl ..
  · refine Does.ite (fun _ => ?_) (fun _ => ?_)
    · refine Does.upd_trigs _ (by decide) ?_
      exact Does.refl ..
    · exact Does.refl ..

theorem State.launch_does (s : State) (n : ℕ) (e : OqEntry) (t0 : Stamp) :
    Does 0x8400000a000038 0x800000060200000c00000000000040000000000000000000000000000000000000 s (State.launch s n e t0) := by
  unfold State.launch
  extract_lets +onlyGivenNames x0
  clear_value x0
  extract_lets +onlyGivenNames x1
  clear_value x1
  extract_lets +onlyGivenNames x2
  clear_value x2
  extract_lets +onlyGivenNames x3
  clear_value x3
  extract_lets +onlyGivenNames x4
  clear_value x4
  extract_lets +onlyGivenNames x5
  clear_value x5
  extract_lets +onlyGivenNames x6
  refine Does.via (x := x6) ?_ (fun _ => ?_)
  · subst x6
    refine Does.foldl (fun _ _ _ => ?_) ?_
    · split
      · assumption
      · extract_lets +onlyGivenNames x7
        refine Does.via (x := x7) ?_ (fun _ => ?_)
        · subst x7
          refine Does.step (State.pulse_does ..) (by decide) (by decide) ?_
          refine Does.wr _ _ _ _ (by decide) ?_
          assumption
        clear_value x7
        refine Does.foldl (fun _ _ _ => ?_) ?_
        · refine Does.step (State.placePin_does ..) (by decide) (by decide) ?_
          assumption
        · assumption
    · exact Does.refl ..
  clear_value x6
  extract_lets +onlyGivenNames x8
  clear_value x8
  extract_lets +onlyGivenNames x9
  clear_value x9
  extract_lets +onlyGivenNames x10
  clear_value x10
  extract_lets +onlyGivenNames x11
  clear_value x11
  extract_lets +onlyGivenNames x12
  clear_value x12
  extract_lets +onlyGivenNames x13
  clear_value x13
  extract_lets +onlyGivenNames x14
  clear_value x14
  extract_lets +onlyGivenNames x15
  refine Does.via (x := x15) ?_ (fun _ => ?_)
  · subst x15
    refine Does.foldl (fun _ _ _ => ?_) ?_
    · refine Does.step (State.trigMark_does ..) (by decide) (by decide) ?_
      assumption
    · assumption
  clear_value x15
  extract_lets +onlyGivenNames x16
  clear_value x16
  extract_lets +onlyGivenNames x17
  clear_value x17
  extract_lets +onlyGivenNames x18
  clear_value x18
  refine Does.step (State.publish_does ..) (by decide) (by decide) ?_
  refine Does.step (State.fix_does ..) (by decide) (by decide) ?_
  refine Does.step (State.setGang_does ..) (by decide) (by decide) ?_
  assumption

end Sys2Proof.Machine
end

