-- ==== Sys2Proof/Laws/DoesRunOps.lean ====
section
/-! SUPPORT. What each operation and meaning of Machine/RunOps.lean may touch. -/

namespace Sys2Proof.Machine

open Sys2Proof

set_option linter.unusedVariables false

theorem State.commitLedg_does (s : State) (n : ℕ) (e : SebEntry) (step : ℕ) (binp : ℕ) (binf : ℕ) (va : ℕ) (vb : ℕ) (vaen : Bool) (vben : Bool) :
    Does 0x10000008 0x22000000000000000000000000000000000000000000000000 s (State.commitLedg s n e step binp binf va vb vaen vben) := by
  unfold State.commitLedg
  extract_lets +onlyGivenNames x0
  clear_value x0
  extract_lets +onlyGivenNames x1
  clear_value x1
  extract_lets +onlyGivenNames x2
  clear_value x2
  extract_lets +onlyGivenNames x3
  clear_value x3
  extract_lets +onlyGivenNames x4
  clear_value x4
  extract_lets +onlyGivenNames x5
  clear_value x5
  extract_lets +onlyGivenNames x6
  clear_value x6
  extract_lets +onlyGivenNames x7
  clear_value x7
  extract_lets +onlyGivenNames x8
  clear_value x8
  extract_lets +onlyGivenNames x9
  clear_value x9
  extract_lets +onlyGivenNames x10
  clear_value x10
  refine Does.ite (fun _ => ?_) (fun _ => ?_)
  · refine Does.wr _ _ _ _ (by decide) ?_
    refine Does.bump _ _ _ _ (by decide) ?_
    exact Does.refl ..
  · extract_lets +onlyGivenNames x11
    refine Does.via (x := x11) ?_ (fun _ => ?_)
    · subst x11
      refine Does.upd_ledgq _ (by decide) ?_
      exact Does.refl ..
    clear_value x11
    extract_lets +onlyGivenNames x12
    clear_value x12
    extract_lets +onlyGivenNames x13
    refine Does.via (x := x13) ?_ (fun _ => ?_)
    · subst x13
      refine Does.step (State.setGang_does ..) (by decide) (by decide) ?_
      assumption
    clear_value x13
    refine Does.ite (fun _ => ?_) (fun _ => ?_)
    · refine Does.wr _ _ _ _ (by decide) ?_
      assumption
    · assumption

theorem State.beginMeas_does (s : State) (n : ℕ) (seq : ℕ) (kind : ℕ) (dst : ℕ) (setup : ℕ) (pmasks : List (ℕ × ℕ)) (b : Stamp) (vp : Option ℕ) :
    Does 0x8000000018004ac 0x18000000000000000000000000073c0010000000000000000000000000000000000 s (State.beginMeas s n seq kind dst setup pmasks b vp) := by
  unfold State.beginMeas
  extract_lets +onlyGivenNames x0
  clear_value x0
  extract_lets +onlyGivenNames x1
  clear_value x1
  extract_lets +onlyGivenNames x2
  refine Does.via (x := x2) ?_ (fun _ => ?_)
  · subst x2
    refine Does.upd_tok _ (by decide) ?_
    exact Does.refl ..
  clear_value x2
  extract_lets +onlyGivenNames x3
  refine Does.via (x := x3) ?_ (fun _ => ?_)
  · subst x3
    refine Does.step (State.setGang_does ..) (by decide) (by decide) ?_
    assumption
  clear_value x3
  refine Does.ite (fun _ => ?_) (fun _ => ?_)
  · refine Does.step (State.pmuRequest_does ..) (by decide) (by decide) ?_
    assumption
  · refine Does.step (State.iuRequest_does ..) (by decide) (by decide) ?_
    assumption

theorem State.commitCnt_does (s : State) (n : ℕ) (e : SebEntry) (b : Stamp) (op : ℕ) (idx : ℕ) (src : ℕ) (imm : ℕ) :
    Does 0x8 0x4000000000000000000000000000000000000000 s (State.commitCnt s n e b op idx src imm) := by
  unfold State.commitCnt
  refine Does.ite (fun _ => ?_) (fun _ => ?_)
  · refine Does.step (State.loadGc_does ..) (by decide) (by decide) ?_
    exact Does.refl ..
  · refine Does.ite (fun _ => ?_) (fun _ => ?_)
    · extract_lets +onlyGivenNames x0
      clear_value x0
      refine Does.step (State.loadGc_does ..) (by decide) (by decide) ?_
      exact Does.refl ..
    · refine Does.ite (fun _ => ?_) (fun _ => ?_)
      · refine Does.step (State.loadGc_does ..) (by decide) (by decide) ?_
        exact Does.refl ..
      · refine Does.ite (fun _ => ?_) (fun _ => ?_)
        · refine Does.step (State.loadGc_does ..) (by decide) (by decide) ?_
          exact Does.refl ..
        · refine Does.ite (fun _ => ?_) (fun _ => ?_)
          · extract_lets +onlyGivenNames x1
            refine Does.via (x := x1) ?_ (fun _ => ?_)
            · subst x1
              refine Does.step (State.setGc_does ..) (by decide) (by decide) ?_
              exact Does.refl ..
            clear_value x1
            extract_lets +onlyGivenNames x2
            clear_value x2
            extract_lets +onlyGivenNames x3
            clear_value x3
            extract_lets +onlyGivenNames x4
            clear_value x4
            refine Does.step (State.setGang_does ..) (by decide) (by decide) ?_
            assumption
          · refine Does.step (State.evStop_does ..) (by decide) (by decide) ?_
            exact Does.refl ..

theorem State.commitEff_does (s : State) (n : ℕ) (e : SebEntry) :
    Does 0x800000019800cbc 0x19e000080020200002200bc000073c0010000000000000000000000000000000000 s (State.commitEff s n e) := by
  unfold State.commitEff
  extract_lets +onlyGivenNames x0
  clear_value x0
  split
  · refine Does.foldl (fun _ _ _ => ?_) ?_
    · refine Does.step (State.applyLevels_does ..) (by decide) (by decide) ?_
      assumption
    · exact Does.refl ..
  · refine Does.foldl (fun _ _ _ => ?_) ?_
    · refine Does.step (State.applyLoad_does ..) (by decide) (by decide) ?_
      assumption
    · exact Does.refl ..
  · refine Does.foldl (fun _ _ _ => ?_) ?_
    · refine Does.step (State.applyLog_does ..) (by decide) (by decide) ?_
      assumption
    · exact Does.refl ..
  · refine Does.step (State.commitCnt_does ..) (by decide) (by decide) ?_
    exact Does.refl ..
  · refine Does.step (State.beginMeas_does ..) (by decide) (by decide) ?_
    exact Does.refl ..
  · refine Does.step (State.awgCommand_does ..) (by decide) (by decide) ?_
    exact Does.refl ..
  · refine Does.step (State.commitLedg_does ..) (by decide) (by decide) ?_
    exact Does.refl ..
  · refine Does.ite (fun _ => ?_) (fun _ => ?_)
    · refine Does.step (State.clearFail_does ..) (by decide) (by decide) ?_
      exact Does.refl ..
    · exact Does.refl ..
  · refine Does.step (State.siteFail_does ..) (by decide) (by decide) ?_
    exact Does.refl ..
  · refine Does.step (State.pflag_does ..) (by decide) (by decide) ?_
    exact Does.refl ..
  · refine Does.ite (fun _ => ?_) (fun _ => ?_)
    · refine Does.step (State.setTagAt_does ..) (by decide) (by decide) ?_
      exact Does.refl ..
    · refine Does.step (State.tookFree_does ..) (by decide) (by decide) ?_
      refine Does.step (State.setTagAt_does ..) (by decide) (by decide) ?_
      exact Does.refl ..
  · refine Does.step (State.raise_does ..) (by decide) (by decide) ?_
    exact Does.refl ..
  · extract_lets +onlyGivenNames x1
    refine Does.via (x := x1) ?_ (fun _ => ?_)
    · subst x1
      refine Does.wr _ _ _ _ (by decide) ?_
      exact Does.refl ..
    clear_value x1
    refine Does.ite (fun _ => ?_) (fun _ => ?_)
    · refine Does.ite (fun _ => ?_) (fun _ => ?_)
      · refine Does.step (State.siteFail_does ..) (by decide) (by decide) ?_
        assumption
      · assumption
    · refine Does.ite (fun _ => ?_) (fun _ => ?_)
      · refine Does.step (State.showShadow_does ..) (by decide) (by decide) ?_
        assumption
      · assumption

theorem State.commit_does (s : State) (n : ℕ) (e : SebEntry) :
    Does 0x800000019c03cfc 0x59e0000820202006c3200bc040073c0018000000000000000000000000000000000 s (State.commit s n e) := by
  unfold State.commit
  extract_lets +onlyGivenNames x0
  clear_value x0
  extract_lets +onlyGivenNames x1
  clear_value x1
  extract_lets +onlyGivenNames x2
  clear_value x2
  extract_lets +onlyGivenNames x3
  refine Does.via (x := x3) ?_ (fun _ => ?_)
  · subst x3
    refine Does.step (State.setGang_does ..) (by decide) (by decide) ?_
    exact Does.refl ..
  clear_value x3
  extract_lets +onlyGivenNames x4
  refine Does.via (x := x4) ?_ (fun _ => ?_)
  · subst x4
    refine Does.foldl (fun _ _ _ => ?_) ?_
    · refine Does.step (State.commitEff_does ..) (by decide) (by decide) ?_
      assumption
    · assumption
  clear_value x4
  extract_lets +onlyGivenNames x5
  clear_value x5
  refine Does.step (State.raiseErr_does ..) (by decide) (by decide) ?_
  refine Does.step (State.publish_does ..) (by decide) (by decide) ?_
  refine Does.step (State.fix_does ..) (by decide) (by decide) ?_
  refine Does.step (State.setGang_does ..) (by decide) (by decide) ?_
  assumption

theorem State.squash_does (s : State) (n : ℕ) (q : ℕ) (ix : ℕ) (own : ℕ × ℕ → Bool) :
    Does 0x8000008 0x10000000000000000000000000000000000000000000000000000000 s (State.squash s n q ix own) := by
  unfold State.squash
  extract_lets +onlyGivenNames x0
  clear_value x0
  extract_lets +onlyGivenNames x1
  clear_value x1
  extract_lets +onlyGivenNames x2
  clear_value x2
  extract_lets +onlyGivenNames x3
  clear_value x3
  extract_lets +onlyGivenNames x4
  refine Does.via (x := x4) ?_ (fun _ => ?_)
  · subst x4
    refine Does.step (State.setGang_does ..) (by decide) (by decide) ?_
    exact Does.refl ..
  clear_value x4
  refine Does.foldl (fun _ _ _ => ?_) ?_
  · refine Does.step (State.pulse_does ..) (by decide) (by decide) ?_
    refine Does.bump _ _ _ _ (by decide) ?_
    assumption
  · assumption

theorem State.countMisp_does (s : State) (n : ℕ) :
    Does 0x8000000 0x4000000000000000000000000000000000000000000000000000000 s (State.countMisp s n) := by
  unfold State.countMisp
  refine Does.foldl (fun _ _ _ => ?_) ?_
  · refine Does.step (State.pulse_does ..) (by decide) (by decide) ?_
    refine Does.bump _ _ _ _ (by decide) ?_
    assumption
  · exact Does.refl ..

theorem State.countRes_does (s : State) (n : ℕ) (k : ℕ) :
    Does 0x8 0x8000000000000000000000000000000000000000000000000000000 s (State.countRes s n k) := by
  unfold State.countRes
  extract_lets +onlyGivenNames x0
  clear_value x0
  extract_lets +onlyGivenNames x1
  refine Does.via (x := x1) ?_ (fun _ => ?_)
  · subst x1
    refine Does.step (State.setGang_does ..) (by decide) (by decide) ?_
    exact Does.refl ..
  clear_value x1
  refine Does.foldl (fun _ _ _ => ?_) ?_
  · refine Does.bump _ _ _ _ (by decide) ?_
    assumption
  · assumption

theorem State.endSprout_does (s : State) (n : ℕ) (owner : ℕ) :
    Does 0x8 0x0 s (State.endSprout s n owner) := by
  unfold State.endSprout
  extract_lets +onlyGivenNames x0
  clear_value x0
  split
  · refine Does.ite (fun _ => ?_) (fun _ => ?_)
    · refine Does.step (State.setGang_does ..) (by decide) (by decide) ?_
      exact Does.refl ..
    · exact Does.refl ..
  · exact Does.refl ..

theorem State.settle_does (s : State) (n : ℕ) :
    Does 0x19c034f8 0x4800000020200206c12000004004040008000000000000000000000000000000000 s (State.settle s n) := by
  unfold State.settle
  refine Does.step (State.raiseErr_does ..) (by decide) (by decide) ?_
  refine Does.step (State.publish_does ..) (by decide) (by decide) ?_
  refine Does.step (State.ensureSprout_does ..) (by decide) (by decide) ?_
  refine Does.step (State.fix_does ..) (by decide) (by decide) ?_
  exact Does.refl ..

theorem State.mispredict_does (s : State) (n : ℕ) (c : Ckpt) (cut : ℕ) (th : Thread) (d : Stamp) :
    Does 0x8000008 0x14000000000000000000000000000000000000000000000000000000 s (State.mispredict s n c cut th d) := by
  unfold State.mispredict
  extract_lets +onlyGivenNames x0
  clear_value x0
  extract_lets +onlyGivenNames x1
  refine Does.via (x := x1) ?_ (fun _ => ?_)
  · subst x1
    refine Does.step (State.squash_does ..) (by decide) (by decide) ?_
    refine Does.step (State.countMisp_does ..) (by decide) (by decide) ?_
    exact Does.refl ..
  clear_value x1
  extract_lets +onlyGivenNames x2
  clear_value x2
  extract_lets +onlyGivenNames x3
  refine Does.via (x := x3) ?_ (fun _ => ?_)
  · subst x3
    refine Does.step (State.setGang_does ..) (by decide) (by decide) ?_
    assumption
  clear_value x3
  refine Does.step (State.redirect_does ..) (by decide) (by decide) ?_
  assumption

theorem State.resolveCond_does (s : State) (n : ℕ) (c : Ckpt) (isFail : Bool) (v : ℕ) :
    Does 0x19c034f8 0x480000002021c206c12000004004040008000000000000000000000000000000000 s (State.resolveCond s n c isFail v) := by
  unfold State.resolveCond
  extract_lets +onlyGivenNames x0
  clear_value x0
  extract_lets +onlyGivenNames x1
  refine Does.via (x := x1) ?_ (fun _ => ?_)
  · subst x1
    refine Does.step (State.learn_does ..) (by decide) (by decide) ?_
    refine Does.step (State.countRes_does ..) (by decide) (by decide) ?_
    exact Does.refl ..
  clear_value x1
  refine Does.ite (fun _ => ?_) (fun _ => ?_)
  · extract_lets +onlyGivenNames x2
    clear_value x2
    refine Does.step (State.settle_does ..) (by decide) (by decide) ?_
    refine Does.step (State.endSprout_does ..) (by decide) (by decide) ?_
    refine Does.step (State.setGang_does ..) (by decide) (by decide) ?_
    assumption
  · split
    · refine Does.step (State.settle_does ..) (by decide) (by decide) ?_
      refine Does.step (State.mispredict_does ..) (by decide) (by decide) ?_
      assumption
    · extract_lets +onlyGivenNames x3
      refine Does.via (x := x3) ?_ (fun _ => ?_)
      · subst x3
        refine Does.step (State.mispredict_does ..) (by decide) (by decide) ?_
        assumption
      clear_value x3
      refine Does.step (State.settle_does ..) (by decide) (by decide) ?_
      refine Does.step (State.engineErr_does ..) (by decide) (by decide) ?_
      assumption

theorem State.resolveUser_does (s : State) (n : ℕ) (c : Ckpt) :
    Does 0x19c034f8 0x480000002021c206c12000004004040008000000000000000000000000000000000 s (State.resolveUser s n c) := by
  unfold State.resolveUser
  extract_lets +onlyGivenNames x0
  refine Does.via (x := x0) ?_ (fun _ => ?_)
  · subst x0
    refine Does.step (State.countRes_does ..) (by decide) (by decide) ?_
    exact Does.refl ..
  clear_value x0
  extract_lets +onlyGivenNames x1
  subst x1
  split
  · refine Does.ite (fun _ => ?_) (fun _ => ?_)
    · refine Does.step (State.settle_does ..) (by decide) (by decide) ?_
      refine Does.step (State.endSprout_does ..) (by decide) (by decide) ?_
      beta_reduce
      refine Does.step (State.setGang_does ..) (by decide) (by decide) ?_
      assumption
    · extract_lets +onlyGivenNames x2
      refine Does.via (x := x2) ?_ (fun _ => ?_)
      · subst x2
        beta_reduce
        refine Does.step (State.setGang_does ..) (by decide) (by decide) ?_
        refine Does.step (State.squash_does ..) (by decide) (by decide) ?_
        refine Does.step (State.countMisp_does ..) (by decide) (by decide) ?_
        assumption
      clear_value x2
      extract_lets +onlyGivenNames x3
      clear_value x3
      extract_lets +onlyGivenNames x4
      clear_value x4
      refine Does.step (State.settle_does ..) (by decide) (by decide) ?_
      refine Does.step (State.setGang_does ..) (by decide) (by decide) ?_
      assumption
  · assumption

theorem State.endExhausted_does (s : State) (n : ℕ) (e : Exhaust) (pass : Bool) (iter : ℕ) (early : Bool) :
    Does 0x8 0x20000000000000003c0000000000000000000000000000000000000 s (State.endExhausted s n e pass iter early) := by
  unfold State.endExhausted
  extract_lets +onlyGivenNames x0
  clear_value x0
  extract_lets +onlyGivenNames x1
  clear_value x1
  extract_lets +onlyGivenNames x2
  refine Does.via (x := x2) ?_ (fun _ => ?_)
  · subst x2
    refine Does.step (State.setGang_does ..) (by decide) (by decide) ?_
    exact Does.refl ..
  clear_value x2
  extract_lets +onlyGivenNames x3
  refine Does.via (x := x3) ?_ (fun _ => ?_)
  · subst x3
    refine Does.wr _ _ _ _ (by decide) ?_
    assumption
  clear_value x3
  refine Does.ite (fun _ => ?_) (fun _ => ?_)
  · refine Does.step (State.showShadow_does ..) (by decide) (by decide) ?_
    assumption
  · refine Does.ite (fun _ => ?_) (fun _ => ?_)
    · refine Does.step (State.siteFail_does ..) (by decide) (by decide) ?_
      assumption
    · assumption

theorem State.matchPass_does (s : State) (n : ℕ) (c : Ckpt) (hint : Bool) (its : List MatchIter) (d : Stamp) :
    Does 0x19c034f8 0x480000002021e206c120000040043c0008000000000000000000000000000000000 s (State.matchPass s n c hint its d) := by
  unfold State.matchPass
  extract_lets +onlyGivenNames x0
  clear_value x0
  extract_lets +onlyGivenNames x1
  clear_value x1
  extract_lets +onlyGivenNames x2
  clear_value x2
  extract_lets +onlyGivenNames x3
  refine Does.via (x := x3) ?_ (fun _ => ?_)
  · subst x3
    refine Does.wr _ _ _ _ (by decide) ?_
    refine Does.step (State.countRes_does ..) (by decide) (by decide) ?_
    exact Does.refl ..
  clear_value x3
  split
  · extract_lets +onlyGivenNames x4
    refine Does.via (x := x4) ?_ (fun _ => ?_)
    · subst x4
      refine Does.step (State.showShadow_does ..) (by decide) (by decide) ?_
      assumption
    clear_value x4
    extract_lets +onlyGivenNames x5
    clear_value x5
    extract_lets +onlyGivenNames x6
    clear_value x6
    refine Does.ite (fun _ => ?_) (fun _ => ?_)
    · extract_lets +onlyGivenNames x7
      clear_value x7
      extract_lets +onlyGivenNames x8
      refine Does.via (x := x8) ?_ (fun _ => ?_)
      · subst x8
        refine Does.step (State.squash_does ..) (by decide) (by decide) ?_
        assumption
      clear_value x8
      extract_lets +onlyGivenNames x9
      clear_value x9
      refine Does.step (State.settle_does ..) (by decide) (by decide) ?_
      refine Does.step (State.redirect_does ..) (by decide) (by decide) ?_
      refine Does.step (State.setGang_does ..) (by decide) (by decide) ?_
      assumption
    · refine Does.step (State.settle_does ..) (by decide) (by decide) ?_
      refine Does.step (State.mispredict_does ..) (by decide) (by decide) ?_
      assumption
  · extract_lets +onlyGivenNames x10
    refine Does.via (x := x10) ?_ (fun _ => ?_)
    · subst x10
      refine Does.ite (fun _ => ?_) (fun _ => ?_)
      · assumption
      · refine Does.step (State.countMisp_does ..) (by decide) (by decide) ?_
        assumption
    clear_value x10
    extract_lets +onlyGivenNames x11
    clear_value x11
    extract_lets +onlyGivenNames x12
    refine Does.via (x := x12) ?_ (fun _ => ?_)
    · subst x12
      refine Does.step (State.setGang_does ..) (by decide) (by decide) ?_
      assumption
    clear_value x12
    split
    · refine Does.step (State.settle_does ..) (by decide) (by decide) ?_
      refine Does.step (State.endSprout_does ..) (by decide) (by decide) ?_
      refine Does.step (State.endExhausted_does ..) (by decide) (by decide) ?_
      assumption
    · refine Does.step (State.settle_does ..) (by decide) (by decide) ?_
      refine Does.step (State.setGang_does ..) (by decide) (by decide) ?_
      assumption

theorem State.endWait_does (s : State) (n : ℕ) (ok : Bool) (t : Stamp) :
    Does 0x19c034f8 0x4800000020200206c120000040053c0008000000000000000000000000000000000 s (State.endWait s n ok t) := by
  unfold State.endWait
  extract_lets +onlyGivenNames x0
  clear_value x0
  split
  · exact Does.refl ..
  · extract_lets +onlyGivenNames x1
    refine Does.via (x := x1) ?_ (fun _ => ?_)
    · subst x1
      refine Does.step (State.setTagAt_does ..) (by decide) (by decide) ?_
      exact Does.refl ..
    clear_value x1
    extract_lets +onlyGivenNames x2
    clear_value x2
    extract_lets +onlyGivenNames x3
    clear_value x3
    extract_lets +onlyGivenNames x4
    refine Does.via (x := x4) ?_ (fun _ => ?_)
    · subst x4
      refine Does.step (State.setGang_does ..) (by decide) (by decide) ?_
      assumption
    clear_value x4
    extract_lets +onlyGivenNames x5
    clear_value x5
    extract_lets +onlyGivenNames x6
    refine Does.via (x := x6) ?_ (fun _ => ?_)
    · subst x6
      refine Does.ite (fun _ => ?_) (fun _ => ?_)
      · refine Does.step (State.siteFail_does ..) (by decide) (by decide) ?_
        assumption
      · assumption
    clear_value x6
    extract_lets +onlyGivenNames x7
    refine Does.via (x := x7) ?_ (fun _ => ?_)
    · subst x7
      refine Does.ite (fun _ => ?_) (fun _ => ?_)
      · refine Does.step (State.setGstate_does ..) (by decide) (by decide) ?_
        assumption
      · assumption
    clear_value x7
    refine Does.step (State.settle_does ..) (by decide) (by decide) ?_
    assumption

theorem State.crossTo_does (s : State) (n : ℕ) (a : PAddr) :
    Does 0x8 0x0 s (State.crossTo s n a) := by
  unfold State.crossTo
  extract_lets +onlyGivenNames x0
  clear_value x0
  extract_lets +onlyGivenNames x1
  clear_value x1
  extract_lets +onlyGivenNames x2
  refine Does.step (State.setGang_does ..) (by decide) (by decide) ?_
  exact Does.refl ..

theorem State.countXwait_does (s : State) (n : ℕ) (k : ℕ) :
    Does 0x8000000 0x1000000000000000000000000000000000000000000000000000000000 s (State.countXwait s n k) := by
  unfold State.countXwait
  split
  · refine Does.ite (fun _ => ?_) (fun _ => ?_)
    · refine Does.foldl (fun _ _ _ => ?_) ?_
      · refine Does.step (State.pulse_does ..) (by decide) (by decide) ?_
        refine Does.bump _ _ _ _ (by decide) ?_
        assumption
      · exact Does.refl ..
    · exact Does.refl ..
  · exact Does.refl ..

theorem State.launchPad_does (s : State) (n : ℕ) (t0 : Stamp) :
    Does 0x4000002000028 0x800000060800000400000000000000000000000000000000000000000000000000 s (State.launchPad s n t0) := by
  unfold State.launchPad
  extract_lets +onlyGivenNames x0
  clear_value x0
  extract_lets +onlyGivenNames x1
  clear_value x1
  extract_lets +onlyGivenNames x2
  refine Does.via (x := x2) ?_ (fun _ => ?_)
  · subst x2
    refine Does.foldl (fun _ _ _ => ?_) ?_
    · split
      · assumption
      · extract_lets +onlyGivenNames x3
        refine Does.via (x := x3) ?_ (fun _ => ?_)
        · subst x3
          refine Does.bump _ _ _ _ (by decide) ?_
          assumption
        clear_value x3
        refine Does.foldl (fun _ _ _ => ?_) ?_
        · refine Does.step (State.placePin_does ..) (by decide) (by decide) ?_
          assumption
        · assumption
    · exact Does.refl ..
  clear_value x2
  extract_lets +onlyGivenNames x4
  clear_value x4
  extract_lets +onlyGivenNames x5
  clear_value x5
  refine Does.step (State.fix_does ..) (by decide) (by decide) ?_
  refine Does.step (State.setGang_does ..) (by decide) (by decide) ?_
  assumption

theorem State.underrunHalt_does (s : State) (n : ℕ) (pol : ℕ) :
    Does 0x19c034e8 0x4800000020220207c120000040043c0008000000000000000000000000000000000 s (State.underrunHalt s n pol) := by
  unfold State.underrunHalt
  extract_lets +onlyGivenNames x0
  clear_value x0
  extract_lets +onlyGivenNames x1
  refine Does.via (x := x1) ?_ (fun _ => ?_)
  · subst x1
    refine Does.step (State.closeCross_does ..) (by decide) (by decide) ?_
    exact Does.refl ..
  clear_value x1
  extract_lets +onlyGivenNames x2
  clear_value x2
  extract_lets +onlyGivenNames x3
  refine Does.via (x := x3) ?_ (fun _ => ?_)
  · subst x3
    refine Does.wrAll _ _ _ (by decide) ?_
    refine Does.step (State.setGang_does ..) (by decide) (by decide) ?_
    assumption
  clear_value x3
  refine Does.step (State.engineErr_does ..) (by decide) (by decide) ?_
  assumption

theorem State.underrun_does (s : State) (n : ℕ) (c : Cross) :
    Does 0x419c034e8 0x4800000020620207c120a00040043c0008000000000000000000000000000000000 s (State.underrun s n c) := by
  unfold State.underrun
  extract_lets +onlyGivenNames x0
  clear_value x0
  extract_lets +onlyGivenNames x1
  clear_value x1
  extract_lets +onlyGivenNames x2
  clear_value x2
  extract_lets +onlyGivenNames x3
  refine Does.via (x := x3) ?_ (fun _ => ?_)
  · subst x3
    refine Does.foldl (fun _ _ _ => ?_) ?_
    · refine Does.step (State.pulse_does ..) (by decide) (by decide) ?_
      refine Does.bump _ _ _ _ (by decide) ?_
      refine Does.wr _ _ _ _ (by decide) ?_
      assumption
    · exact Does.refl ..
  clear_value x3
  extract_lets +onlyGivenNames x4
  clear_value x4
  extract_lets +onlyGivenNames x5
  refine Does.via (x := x5) ?_ (fun _ => ?_)
  · subst x5
    refine Does.ite (fun _ => ?_) (fun _ => ?_)
    · refine Does.step (State.streamUr_does ..) (by decide) (by decide) ?_
      assumption
    · assumption
  clear_value x5
  refine Does.ite (fun _ => ?_) (fun _ => ?_)
  · refine Does.step (State.underrunHalt_does ..) (by decide) (by decide) ?_
    assumption
  · refine Does.ite (fun _ => ?_) (fun _ => ?_)
    · split
      · extract_lets +onlyGivenNames x6
        clear_value x6
        refine Does.step (State.engineErr_does ..) (by decide) (by decide) ?_
        refine Does.step (State.setGang_does ..) (by decide) (by decide) ?_
        assumption
      · extract_lets +onlyGivenNames x7
        refine Does.via (x := x7) ?_ (fun _ => ?_)
        · subst x7
          refine Does.wrAll _ _ _ (by decide) ?_
          assumption
        clear_value x7
        refine Does.step (State.setGang_does ..) (by decide) (by decide) ?_
        assumption
    · extract_lets +onlyGivenNames x8
      refine Does.via (x := x8) ?_ (fun _ => ?_)
      · subst x8
        refine Does.wrAll _ _ _ (by decide) ?_
        assumption
      clear_value x8
      refine Does.step (State.setGang_does ..) (by decide) (by decide) ?_
      assumption

theorem State.takeSafe_does (s : State) (n : ℕ) :
    Does 0x8000018 0x210000c00000000000040000000000000000000000000000000000000 s (State.takeSafe s n) := by
  unfold State.takeSafe
  split
  · exact Does.refl ..
  · split
    · exact Does.refl ..
    · refine Does.ite (fun _ => ?_) (fun _ => ?_)
      · exact Does.refl ..
      · extract_lets +onlyGivenNames x0
        refine Does.via (x := x0) ?_ (fun _ => ?_)
        · subst x0
          refine Does.step (State.squash_does ..) (by decide) (by decide) ?_
          exact Does.refl ..
        clear_value x0
        extract_lets +onlyGivenNames x1
        clear_value x1
        extract_lets +onlyGivenNames x2
        refine Does.via (x := x2) ?_ (fun _ => ?_)
        · subst x2
          refine Does.step (State.setGang_does ..) (by decide) (by decide) ?_
          assumption
        clear_value x2
        refine Does.step (State.publish_does ..) (by decide) (by decide) ?_
        refine Does.step (State.setGstate_does ..) (by decide) (by decide) ?_
        assumption

theorem State.takeStop_does (s : State) (n : ℕ) (cause : ℕ) (atWord : Bool) :
    Does 0x8000018 0x210004800000000000040000000000000000000000000000000000000 s (State.takeStop s n cause atWord) := by
  unfold State.takeStop
  extract_lets +onlyGivenNames x0
  refine Does.via (x := x0) ?_ (fun _ => ?_)
  · subst x0
    split
    · refine Does.step (State.setGang_does ..) (by decide) (by decide) ?_
      refine Does.step (State.squash_does ..) (by decide) (by decide) ?_
      exact Does.refl ..
    · exact Does.refl ..
  clear_value x0
  extract_lets +onlyGivenNames x1
  clear_value x1
  extract_lets +onlyGivenNames x2
  clear_value x2
  extract_lets +onlyGivenNames x3
  refine Does.via (x := x3) ?_ (fun _ => ?_)
  · subst x3
    refine Does.step (State.setGang_does ..) (by decide) (by decide) ?_
    assumption
  clear_value x3
  extract_lets +onlyGivenNames x4
  refine Does.via (x := x4) ?_ (fun _ => ?_)
  · subst x4
    refine Does.wrAll _ _ _ (by decide) ?_
    refine Does.wrAll _ _ _ (by decide) ?_
    assumption
  clear_value x4
  refine Does.step (State.publish_does ..) (by decide) (by decide) ?_
  refine Does.wrAll _ _ _ (by decide) ?_
  assumption

theorem State.resumeGang_does (s : State) (n : ℕ) (step : Bool) :
    Does 0x19c034f8 0x4800000020200206c12000004004040008000000000000000000000000000000000 s (State.resumeGang s n step) := by
  unfold State.resumeGang
  extract_lets +onlyGivenNames x0
  clear_value x0
  extract_lets +onlyGivenNames x1
  refine Does.via (x := x1) ?_ (fun _ => ?_)
  · subst x1
    refine Does.step (State.clearStopped_does ..) (by decide) (by decide) ?_
    exact Does.refl ..
  clear_value x1
  extract_lets +onlyGivenNames x2
  clear_value x2
  extract_lets +onlyGivenNames x3
  refine Does.via (x := x3) ?_ (fun _ => ?_)
  · subst x3
    refine Does.step (State.setGang_does ..) (by decide) (by decide) ?_
    assumption
  clear_value x3
  refine Does.step (State.settle_does ..) (by decide) (by decide) ?_
  assumption

theorem State.requestStop_does (s : State) (n : ℕ) (cause : ℕ) :
    Does 0x8 0x0 s (State.requestStop s n cause) := by
  unfold State.requestStop
  extract_lets +onlyGivenNames x0
  clear_value x0
  refine Does.ite (fun _ => ?_) (fun _ => ?_)
  · exact Does.refl ..
  · refine Does.ite (fun _ => ?_) (fun _ => ?_)
    · exact Does.refl ..
    · refine Does.step (State.setGang_does ..) (by decide) (by decide) ?_
      exact Does.refl ..

end Sys2Proof.Machine
end

