-- ==== Sys2Proof/Laws/DoesWords.lean ====
section
/-! SUPPORT. What each operation and meaning of Machine/Words.lean may touch. -/

namespace Sys2Proof.Machine

open Sys2Proof

set_option linter.unusedVariables false

theorem execVec_does (site : SiteId) (path : Path) (s : State) :
    DoesO 0x19c034f8 0x4800000020200206c12000004004040008000000000000000000000000000000000 s (execVec site path s) := by
  unfold execVec
  refine DoesO.next ?_
  refine State.dispatchOp_doesH (by decide) (by decide) (fun _ _ x0 => ?_) ?_
  · refine Does.step (vecEffect_does ..) (by decide) (by decide) ?_
    exact Does.refl ..
  · exact Does.refl ..

theorem execLoop_does (site : SiteId) (path : Path) (s : State) :
    DoesO 0x19c034f8 0x4800000020200206c12000004004040008000000000000000000000000000000000 s (execLoop site path s) := by
  unfold execLoop
  refine DoesO.next ?_
  refine State.dispatchOp_doesH (by decide) (by decide) (fun _ _ x0 => ?_) ?_
  · refine Does.step (loopEffect_does ..) (by decide) (by decide) ?_
    exact Does.refl ..
  · exact Does.refl ..

theorem execEndl_does (site : SiteId) (path : Path) (s : State) :
    DoesO 0x19c034f8 0x4800000020200206c12000004004040008000000000000000000000000000000000 s (execEndl site path s) := by
  unfold execEndl
  refine DoesO.next ?_
  refine State.dispatchOp_doesH (by decide) (by decide) (fun _ _ x0 => ?_) ?_
  · refine Does.step (endlEffect_does ..) (by decide) (by decide) ?_
    exact Does.refl ..
  · exact Does.refl ..

theorem execJmp_does (site : SiteId) (path : Path) (s : State) :
    DoesO 0x19c034f8 0x4800000020200206c12000004004040008000000000000000000000000000000000 s (execJmp site path s) := by
  unfold execJmp
  refine DoesO.next ?_
  refine State.dispatchOp_doesH (by decide) (by decide) (fun _ _ x0 => ?_) ?_
  · refine Does.step (jmpEffect_does ..) (by decide) (by decide) ?_
    exact Does.refl ..
  · exact Does.refl ..

theorem execCall_does (site : SiteId) (path : Path) (s : State) :
    DoesO 0x19c034f8 0x4800000020200206c12000004004040008000000000000000000000000000000000 s (execCall site path s) := by
  unfold execCall
  refine DoesO.next ?_
  refine State.dispatchOp_doesH (by decide) (by decide) (fun _ _ x0 => ?_) ?_
  · refine Does.step (callEffect_does ..) (by decide) (by decide) ?_
    exact Does.refl ..
  · exact Does.refl ..

theorem execRet_does (site : SiteId) (path : Path) (s : State) :
    DoesO 0x19c034f8 0x4800000020200206c12000004004040008000000000000000000000000000000000 s (execRet site path s) := by
  unfold execRet
  refine DoesO.next ?_
  refine State.dispatchOp_doesH (by decide) (by decide) (fun _ _ x0 => ?_) ?_
  · refine Does.step (retEffect_does ..) (by decide) (by decide) ?_
    exact Does.refl ..
  · exact Does.refl ..

theorem execMatchW_does (site : SiteId) (path : Path) (s : State) :
    DoesO 0x19c034f8 0x4800000020202206c12000004004040008000000000000000000000000000000000 s (execMatchW site path s) := by
  unfold execMatchW
  refine DoesO.next ?_
  refine State.dispatchOp_doesH (by decide) (by decide) (fun _ _ x0 => ?_) ?_
  · refine Does.step (matchEffect_does ..) (by decide) (by decide) ?_
    exact Does.refl ..
  · exact Does.refl ..

theorem execJfail_does (site : SiteId) (path : Path) (s : State) :
    DoesO 0x19c034f8 0x4800000020200206c12000004004040008000000000000000000000000000000000 s (execJfail site path s) := by
  unfold execJfail
  refine DoesO.next ?_
  refine State.dispatchOp_doesH (by decide) (by decide) (fun _ _ x0 => ?_) ?_
  · refine Does.step (condEffect_does ..) (by decide) (by decide) ?_
    exact Does.refl ..
  · exact Does.refl ..

theorem execJpass_does (site : SiteId) (path : Path) (s : State) :
    DoesO 0x19c034f8 0x4800000020200206c12000004004040008000000000000000000000000000000000 s (execJpass site path s) := by
  unfold execJpass
  refine DoesO.next ?_
  refine State.dispatchOp_doesH (by decide) (by decide) (fun _ _ x0 => ?_) ?_
  · refine Does.step (condEffect_does ..) (by decide) (by decide) ?_
    exact Does.refl ..
  · exact Does.refl ..

theorem execWaitt_does (site : SiteId) (path : Path) (s : State) :
    DoesO 0x19c034f8 0x4800000020200206c12000004004040008000000000000000000000000000000000 s (execWaitt site path s) := by
  unfold execWaitt
  refine DoesO.next ?_
  refine State.dispatchOp_doesH (by decide) (by decide) (fun _ _ x0 => ?_) ?_
  · refine Does.step (waittEffect_does ..) (by decide) (by decide) ?_
    exact Does.refl ..
  · exact Does.refl ..

theorem execWaitev_does (site : SiteId) (path : Path) (s : State) :
    DoesO 0x19c034f8 0x4800000020200206c12000004004040008000000000000000000000000000000000 s (execWaitev site path s) := by
  unfold execWaitev
  refine DoesO.next ?_
  refine State.dispatchOp_doesH (by decide) (by decide) (fun _ _ x0 => ?_) ?_
  · refine Does.step (waitevEffect_does ..) (by decide) (by decide) ?_
    exact Does.refl ..
  · exact Does.refl ..

theorem execGsync_does (site : SiteId) (path : Path) (s : State) :
    DoesO 0x19c034f8 0x4800000020200206c12000004004040008000000000000000000000000000000000 s (execGsync site path s) := by
  unfold execGsync
  refine DoesO.next ?_
  refine State.dispatchOp_doesH (by decide) (by decide) (fun _ _ x0 => ?_) ?_
  · refine Does.step (gsyncEffect_does ..) (by decide) (by decide) ?_
    exact Does.refl ..
  · exact Does.refl ..

theorem execSetlvl_does (site : SiteId) (path : Path) (s : State) :
    DoesO 0x19c034f8 0x4800000020200206c12000004004040008000000000000000000000000000000000 s (execSetlvl site path s) := by
  unfold execSetlvl
  refine DoesO.next ?_
  refine State.dispatchOp_doesH (by decide) (by decide) (fun _ _ x0 => ?_) ?_
  · refine Does.step (setlvlEffect_does ..) (by decide) (by decide) ?_
    exact Does.refl ..
  · exact Does.refl ..

theorem execSetload_does (site : SiteId) (path : Path) (s : State) :
    DoesO 0x19c034f8 0x4800000020200206c12000004004040008000000000000000000000000000000000 s (execSetload site path s) := by
  unfold execSetload
  refine DoesO.next ?_
  refine State.dispatchOp_doesH (by decide) (by decide) (fun _ _ x0 => ?_) ?_
  · refine Does.step (setloadEffect_does ..) (by decide) (by decide) ?_
    exact Does.refl ..
  · exact Does.refl ..

theorem execCnt_does (site : SiteId) (path : Path) (s : State) :
    DoesO 0x19c034f8 0x4800000020200206c12000004004040008000000000000000000000000000000000 s (execCnt site path s) := by
  unfold execCnt
  refine DoesO.next ?_
  refine State.dispatchOp_doesH (by decide) (by decide) (fun _ _ x0 => ?_) ?_
  · refine Does.step (cntEffect_does ..) (by decide) (by decide) ?_
    exact Does.refl ..
  · exact Does.refl ..

theorem execLogon_does (site : SiteId) (path : Path) (s : State) :
    DoesO 0x19c034f8 0x4800000020200206c12000004004040008000000000000000000000000000000000 s (execLogon site path s) := by
  unfold execLogon
  refine DoesO.next ?_
  refine State.dispatchOp_doesH (by decide) (by decide) (fun _ _ x0 => ?_) ?_
  · refine Does.step (logEffect_does ..) (by decide) (by decide) ?_
    exact Does.refl ..
  · exact Does.refl ..

theorem execLogoff_does (site : SiteId) (path : Path) (s : State) :
    DoesO 0x19c034f8 0x4800000020200206c12000004004040008000000000000000000000000000000000 s (execLogoff site path s) := by
  unfold execLogoff
  refine DoesO.next ?_
  refine State.dispatchOp_doesH (by decide) (by decide) (fun _ _ x0 => ?_) ?_
  · refine Does.step (logEffect_does ..) (by decide) (by decide) ?_
    exact Does.refl ..
  · exact Does.refl ..

theorem execMeas_does (site : SiteId) (path : Path) (s : State) :
    DoesO 0x19c034f8 0x4800000020200206c12000004004040008000000000000000000000000000000000 s (execMeas site path s) := by
  unfold execMeas
  refine DoesO.next ?_
  refine State.dispatchOp_doesH (by decide) (by decide) (fun _ _ x0 => ?_) ?_
  · refine Does.step (measEffect_does ..) (by decide) (by decide) ?_
    exact Does.refl ..
  · exact Does.refl ..

theorem execAwg_does (site : SiteId) (path : Path) (s : State) :
    DoesO 0x19c034f8 0x4800000020200206c12000004004040008000000000000000000000000000000000 s (execAwg site path s) := by
  unfold execAwg
  refine DoesO.next ?_
  refine State.dispatchOp_doesH (by decide) (by decide) (fun _ _ x0 => ?_) ?_
  · refine Does.step (awgEffect_does ..) (by decide) (by decide) ?_
    exact Does.refl ..
  · exact Does.refl ..

theorem execPsafe_does (site : SiteId) (path : Path) (s : State) :
    DoesO 0x19c034f8 0x4800000020210206c12000004004040008000000000000000000000000000000000 s (execPsafe site path s) := by
  unfold execPsafe
  refine DoesO.next ?_
  split
  · refine Does.ite (fun _ => ?_) (fun _ => ?_)
    · refine Does.step (State.takeSafe_does ..) (by decide) (by decide) ?_
      exact Does.refl ..
    · refine State.dispatchOp_doesH (by decide) (by decide) (fun _ _ x0 => ?_) ?_
      · refine Does.step (psafeEffect_does ..) (by decide) (by decide) ?_
        exact Does.refl ..
      · exact Does.refl ..
  · refine State.dispatchOp_doesH (by decide) (by decide) (fun _ _ x1 => ?_) ?_
    · refine Does.step (psafeEffect_does ..) (by decide) (by decide) ?_
      exact Does.refl ..
    · exact Does.refl ..

theorem execLedg_does (site : SiteId) (path : Path) (s : State) :
    DoesO 0x19c034f8 0x4800000020200206c12000004004040008000000000000000000000000000000000 s (execLedg site path s) := by
  unfold execLedg
  refine DoesO.next ?_
  refine State.dispatchOp_doesH (by decide) (by decide) (fun _ _ x0 => ?_) ?_
  · refine Does.step (ledgEffect_does ..) (by decide) (by decide) ?_
    exact Does.refl ..
  · exact Does.refl ..

theorem execHalt_does (site : SiteId) (path : Path) (s : State) :
    DoesO 0x800000019c034f8 0x4800000020200206c12000004004040008000000000000000000000000000000000 s (execHalt site path s) := by
  unfold execHalt
  refine DoesO.next ?_
  refine State.dispatchOp_doesH (by decide) (by decide) (fun _ _ x0 => ?_) ?_
  · refine Does.step (haltEffect_does ..) (by decide) (by decide) ?_
    exact Does.refl ..
  · exact Does.refl ..

theorem execNop_does (site : SiteId) (path : Path) (s : State) :
    DoesO 0x19c034f8 0x4800000020200206c12000004004040008000000000000000000000000000000000 s (execNop site path s) := by
  unfold execNop
  refine DoesO.next ?_
  refine State.dispatchOp_doesH (by decide) (by decide) (fun _ _ x0 => ?_) ?_
  · refine Does.step (nopEffect_does ..) (by decide) (by decide) ?_
    exact Does.refl ..
  · exact Does.refl ..

theorem execIllegalOpcode_does (site : SiteId) (path : Path) (s : State) :
    DoesO 0x19c034e8 0x4800000020000206c12000004004040008000000000000000000000000000000000 s (execIllegalOpcode site path s) := by
  unfold execIllegalOpcode
  refine DoesO.next ?_
  refine State.dispatch_doesH (by decide) (by decide) (fun _ _ x0 => ?_) ?_
  · refine Does.step (illegalEffect_does ..) (by decide) (by decide) ?_
    exact Does.refl ..
  · exact Does.refl ..

theorem execUserOpcode_does (site : SiteId) (path : Path) (s : State) :
    DoesO 0x19c034f8 0x4800000020000206c12000004004040008000000000000000000000000000000000 s (execUserOpcode site path s) := by
  unfold execUserOpcode
  refine DoesO.next ?_
  refine State.dispatch_doesH (by decide) (by decide) (fun _ _ x0 => ?_) ?_
  · refine Does.step (userEffect_does ..) (by decide) (by decide) ?_
    exact Does.refl ..
  · exact Does.refl ..

theorem execShortWord_does (site : SiteId) (path : Path) (s : State) :
    DoesO 0x800000019c034f8 0x4800000020202206c12000004004040008000000000000000000000000000000000 s (execShortWord site path s) := by
  unfold execShortWord
  refine DoesO.next ?_
  refine State.dispatch_doesH (by decide) (by decide) (fun _ _ x0 => ?_) ?_
  · refine Does.step (wordEffect_does ..) (by decide) (by decide) ?_
    exact Does.refl ..
  · exact Does.refl ..

theorem execFused_does (site : SiteId) (path : Path) (s : State) :
    DoesO 0x800000019c034f8 0x4800000020212206c12000004004040008000000000000000000000000000000000 s (execFused site path s) := by
  unfold execFused
  refine DoesO.next ?_
  refine Does.ite (fun _ => ?_) (fun _ => ?_)
  · refine Does.step (State.takeSafe_does ..) (by decide) (by decide) ?_
    exact Does.refl ..
  · refine State.dispatch_doesH (by decide) (by decide) (fun _ _ x0 => ?_) ?_
    · refine Does.step (wordEffect_does ..) (by decide) (by decide) ?_
      exact Does.refl ..
    · exact Does.refl ..

end Sys2Proof.Machine
end

