-- ==== Sys2Proof/Laws/DoesMicroRows.lean ====
section
/-! SUPPORT. What each operation and meaning of Machine/MicroRows.lean may touch. -/

namespace Sys2Proof.Machine

open Sys2Proof

set_option linter.unusedVariables false

theorem execUUnop_does (pod : PodId) (path : Path) (s : State) :
    DoesO 0x19c034f8 0x4800000020200206c12000004004040008000000000000000000000000000000000 s (execUUnop pod path s) := by
  unfold execUUnop
  refine DoesO.next ?_
  refine Does.step (State.microPure_does ..) (by decide) (by decide) ?_
  exact Does.refl ..

theorem execUMov_does (pod : PodId) (path : Path) (s : State) :
    DoesO 0x19c034f8 0x4800000020200206c12000004004040008000000000000000000000000000000000 s (execUMov pod path s) := by
  unfold execUMov
  refine DoesO.next ?_
  refine Does.step (State.microPure_does ..) (by decide) (by decide) ?_
  exact Does.refl ..

theorem execULdi_does (pod : PodId) (path : Path) (s : State) :
    DoesO 0x19c034f8 0x4800000020200206c12000004004040008000000000000000000000000000000000 s (execULdi pod path s) := by
  unfold execULdi
  refine DoesO.next ?_
  refine Does.step (State.microPure_does ..) (by decide) (by decide) ?_
  exact Does.refl ..

theorem execULdh_does (pod : PodId) (path : Path) (s : State) :
    DoesO 0x19c034f8 0x4800000020200206c12000004004040008000000000000000000000000000000000 s (execULdh pod path s) := by
  unfold execULdh
  refine DoesO.next ?_
  refine Does.step (State.microPure_does ..) (by decide) (by decide) ?_
  exact Does.refl ..

theorem execUAdd_does (pod : PodId) (path : Path) (s : State) :
    DoesO 0x19c034f8 0x4800000020200206c12000004004040008000000000000000000000000000000000 s (execUAdd pod path s) := by
  unfold execUAdd
  refine DoesO.next ?_
  refine Does.step (State.microPure_does ..) (by decide) (by decide) ?_
  exact Does.refl ..

theorem execUSub_does (pod : PodId) (path : Path) (s : State) :
    DoesO 0x19c034f8 0x4800000020200206c12000004004040008000000000000000000000000000000000 s (execUSub pod path s) := by
  unfold execUSub
  refine DoesO.next ?_
  refine Does.step (State.microPure_does ..) (by decide) (by decide) ?_
  exact Does.refl ..

theorem execUAnd_does (pod : PodId) (path : Path) (s : State) :
    DoesO 0x19c034f8 0x4800000020200206c12000004004040008000000000000000000000000000000000 s (execUAnd pod path s) := by
  unfold execUAnd
  refine DoesO.next ?_
  refine Does.step (State.microPure_does ..) (by decide) (by decide) ?_
  exact Does.refl ..

theorem execUOr_does (pod : PodId) (path : Path) (s : State) :
    DoesO 0x19c034f8 0x4800000020200206c12000004004040008000000000000000000000000000000000 s (execUOr pod path s) := by
  unfold execUOr
  refine DoesO.next ?_
  refine Does.step (State.microPure_does ..) (by decide) (by decide) ?_
  exact Does.refl ..

theorem execUXor_does (pod : PodId) (path : Path) (s : State) :
    DoesO 0x19c034f8 0x4800000020200206c12000004004040008000000000000000000000000000000000 s (execUXor pod path s) := by
  unfold execUXor
  refine DoesO.next ?_
  refine Does.step (State.microPure_does ..) (by decide) (by decide) ?_
  exact Does.refl ..

theorem execUShl_does (pod : PodId) (path : Path) (s : State) :
    DoesO 0x19c034f8 0x4800000020200206c12000004004040008000000000000000000000000000000000 s (execUShl pod path s) := by
  unfold execUShl
  refine DoesO.next ?_
  refine Does.step (State.microPure_does ..) (by decide) (by decide) ?_
  exact Does.refl ..

theorem execUShr_does (pod : PodId) (path : Path) (s : State) :
    DoesO 0x19c034f8 0x4800000020200206c12000004004040008000000000000000000000000000000000 s (execUShr pod path s) := by
  unfold execUShr
  refine DoesO.next ?_
  refine Does.step (State.microPure_does ..) (by decide) (by decide) ?_
  exact Does.refl ..

theorem execUFld_does (pod : PodId) (path : Path) (s : State) :
    DoesO 0x19c034f8 0x4800000020200206c12000004004040008000000000000000000000000000000000 s (execUFld pod path s) := by
  unfold execUFld
  refine DoesO.next ?_
  refine Does.step (State.microPure_does ..) (by decide) (by decide) ?_
  exact Does.refl ..

theorem execUCmp_does (pod : PodId) (path : Path) (s : State) :
    DoesO 0x19c034f8 0x4800000020200206c12000004004040008000000000000000000000000000000000 s (execUCmp pod path s) := by
  unfold execUCmp
  refine DoesO.next ?_
  refine Does.step (State.microPure_does ..) (by decide) (by decide) ?_
  exact Does.refl ..

theorem execUGets_does (pod : PodId) (path : Path) (s : State) :
    DoesO 0x19c034f8 0x4800000020200206c12000004004040008000000000000000000000000000000000 s (execUGets pod path s) := by
  unfold execUGets
  refine DoesO.next ?_
  refine State.micro_doesH (by decide) (by decide) (fun _ _ x0 => ?_) ?_
  · refine DoesM.step (getsAct_does ..) (by decide) (by decide) ?_
    exact Does.refl ..
  · exact Does.refl ..

theorem execUUbr_does (pod : PodId) (path : Path) (s : State) :
    DoesO 0x19c034f8 0x4800000020200206c12000004004040008000000000000000000000000000000000 s (execUUbr pod path s) := by
  unfold execUUbr
  refine DoesO.next ?_
  refine State.micro_doesH (by decide) (by decide) (fun _ _ x0 => ?_) ?_
  · refine DoesM.go ?_
    exact Does.refl ..
  · exact Does.refl ..

theorem execUUcall_does (pod : PodId) (path : Path) (s : State) :
    DoesO 0x19c034f8 0x4800000020200206c12000004004040008000000000000000000000000000000000 s (execUUcall pod path s) := by
  unfold execUUcall
  refine DoesO.next ?_
  refine State.micro_doesH (by decide) (by decide) (fun _ _ x0 => ?_) ?_
  · refine DoesM.ite (fun _ => ?_) (fun _ => ?_)
    · exact DoesM.err ..
    · refine DoesM.go ?_
      exact Does.refl ..
  · exact Does.refl ..

theorem execUUret_does (pod : PodId) (path : Path) (s : State) :
    DoesO 0x19c034f8 0x4800000020200206c12000004004040008000000000000000000000000000000000 s (execUUret pod path s) := by
  unfold execUUret
  refine DoesO.next ?_
  refine State.micro_doesH (by decide) (by decide) (fun _ _ x0 => ?_) ?_
  · split
    · exact DoesM.err ..
    · refine DoesM.go ?_
      exact Does.refl ..
  · exact Does.refl ..

theorem execUSetpc_does (pod : PodId) (path : Path) (s : State) :
    DoesO 0x19c034f8 0x4800000020200206c12000004004040008000000000000000000000000000000000 s (execUSetpc pod path s) := by
  unfold execUSetpc
  refine DoesO.next ?_
  refine State.micro_doesH (by decide) (by decide) (fun _ _ x0 => ?_) ?_
  · refine DoesM.go ?_
    exact Does.refl ..
  · exact Does.refl ..

theorem execUIssue_does (pod : PodId) (path : Path) (s : State) :
    DoesO 0x19c034f8 0x4800000020200206c12000004004040008000000000000000000000000000000000 s (execUIssue pod path s) := by
  unfold execUIssue
  refine DoesO.next ?_
  refine State.micro_doesH (by decide) (by decide) (fun _ _ x0 => ?_) ?_
  · refine DoesM.step (issueAct_does ..) (by decide) (by decide) ?_
    exact Does.refl ..
  · exact Does.refl ..

theorem execULstk_does (pod : PodId) (path : Path) (s : State) :
    DoesO 0x19c034f8 0x4800000020200206c12000004004040008000000000000000000000000000000000 s (execULstk pod path s) := by
  unfold execULstk
  refine DoesO.next ?_
  refine State.micro_doesH (by decide) (by decide) (fun _ _ x0 => ?_) ?_
  · refine DoesM.step (lstkAct_does ..) (by decide) (by decide) ?_
    exact Does.refl ..
  · exact Does.refl ..

theorem execUCstk_does (pod : PodId) (path : Path) (s : State) :
    DoesO 0x19c034f8 0x4800000020200206c12000004004040008000000000000000000000000000000000 s (execUCstk pod path s) := by
  unfold execUCstk
  refine DoesO.next ?_
  refine State.micro_doesH (by decide) (by decide) (fun _ _ x0 => ?_) ?_
  · refine DoesM.step (cstkAct_does ..) (by decide) (by decide) ?_
    exact Does.refl ..
  · exact Does.refl ..

theorem execUMctr_does (pod : PodId) (path : Path) (s : State) :
    DoesO 0x19c034f8 0x4800000020200206c12000004004040008000000000000000000000000000000000 s (execUMctr pod path s) := by
  unfold execUMctr
  refine DoesO.next ?_
  refine State.micro_doesH (by decide) (by decide) (fun _ _ x0 => ?_) ?_
  · refine DoesM.step (mctrAct_does ..) (by decide) (by decide) ?_
    exact Does.refl ..
  · exact Does.refl ..

theorem execUCond_does (pod : PodId) (path : Path) (s : State) :
    DoesO 0x19c034f8 0x4800000020200206c12000004004040008000000000000000000000000000000000 s (execUCond pod path s) := by
  unfold execUCond
  refine DoesO.next ?_
  refine State.micro_doesH (by decide) (by decide) (fun _ _ x0 => ?_) ?_
  · refine DoesM.step (condAct_does ..) (by decide) (by decide) ?_
    exact Does.refl ..
  · exact Does.refl ..

theorem execUSefx_does (pod : PodId) (path : Path) (s : State) :
    DoesO 0x19c034f8 0x4800000020200206c12000004004040008000000000000000000000000000000000 s (execUSefx pod path s) := by
  unfold execUSefx
  refine DoesO.next ?_
  refine State.micro_doesH (by decide) (by decide) (fun _ _ x0 => ?_) ?_
  · refine DoesM.step (sefxAct_does ..) (by decide) (by decide) ?_
    exact Does.refl ..
  · exact Does.refl ..

theorem execUWait_does (pod : PodId) (path : Path) (s : State) :
    DoesO 0x19c034f8 0x4800000020200206c12000004004040008000000000000000000000000000000000 s (execUWait pod path s) := by
  unfold execUWait
  refine DoesO.next ?_
  refine State.micro_doesH (by decide) (by decide) (fun _ _ x0 => ?_) ?_
  · refine DoesM.step (waitAct_does ..) (by decide) (by decide) ?_
    exact Does.refl ..
  · exact Does.refl ..

theorem execUUerr_does (pod : PodId) (path : Path) (s : State) :
    DoesO 0x19c034f8 0x4800000020200206c12000004004040008000000000000000000000000000000000 s (execUUerr pod path s) := by
  unfold execUUerr
  refine DoesO.next ?_
  refine State.micro_doesH (by decide) (by decide) (fun _ _ x0 => ?_) ?_
  · exact DoesM.err ..
  · exact Does.refl ..

theorem execUSafept_does (pod : PodId) (path : Path) (s : State) :
    DoesO 0x19c034f8 0x4800000020200206c12000004004040008000000000000000000000000000000000 s (execUSafept pod path s) := by
  unfold execUSafept
  refine DoesO.next ?_
  refine State.micro_doesH (by decide) (by decide) (fun _ _ x0 => ?_) ?_
  · refine DoesM.step (safeptAct_does ..) (by decide) (by decide) ?_
    exact Does.refl ..
  · exact Does.refl ..

theorem execUGhalt_does (pod : PodId) (path : Path) (s : State) :
    DoesO 0x800000019c034f8 0x4800000020200206c12000004004040008000000000000000000000000000000000 s (execUGhalt pod path s) := by
  unfold execUGhalt
  refine DoesO.next ?_
  refine State.micro_doesH (by decide) (by decide) (fun _ _ x0 => ?_) ?_
  · refine DoesM.step (ghaltAct_does ..) (by decide) (by decide) ?_
    exact Does.refl ..
  · exact Does.refl ..

end Sys2Proof.Machine
end

