-- ==== Sys2Proof/Laws/DoesRunAhead.lean ====
section
/-! SUPPORT. What each operation and meaning of Machine/RunAhead.lean may touch. -/

namespace Sys2Proof.Machine

open Sys2Proof

set_option linter.unusedVariables false

theorem execSideEffectCommit_does (site : SiteId) (s : State) :
    DoesO 0x800000019c03cfc 0x59e0000820202006c3200bc040073c0018000000000000000000000000000000000 s (execSideEffectCommit site s) := by
  unfold execSideEffectCommit
  extract_lets +onlyGivenNames x0
  clear_value x0
  refine DoesO.next ?_
  split
  · refine Does.step (State.commit_does ..) (by decide) (by decide) ?_
    exact Does.refl ..
  · exact Does.refl ..

theorem execLedgerCommit_does (site : SiteId) (s : State) :
    DoesO 0x800000019c03cfc 0x59e0000820202006c3200bc040073c0018000000000000000000000000000000000 s (execLedgerCommit site s) := by
  unfold execLedgerCommit
  extract_lets +onlyGivenNames x0
  clear_value x0
  refine DoesO.next ?_
  split
  · refine Does.ite (fun _ => ?_) (fun _ => ?_)
    · refine Does.step (State.commit_does ..) (by decide) (by decide) ?_
      exact Does.refl ..
    · exact Does.refl ..
  · exact Does.refl ..

theorem execLedgerHoldRelease_does (site : SiteId) (s : State) :
    DoesO 0x10000000 0x2000000000000000000000000000000000000000000000000 s (execLedgerHoldRelease site s) := by
  unfold execLedgerHoldRelease
  refine DoesO.next ?_
  refine Does.ite (fun _ => ?_) (fun _ => ?_)
  · exact Does.refl ..
  · split
    · exact Does.refl ..
    · extract_lets +onlyGivenNames x0
      clear_value x0
      refine Does.wr _ _ _ _ (by decide) ?_
      refine Does.upd_ledgq _ (by decide) ?_
      exact Does.refl ..

theorem execLedgerEntryVisible_does (s : State) :
    DoesO 0x18480000 0x800000000000000000000000000000000000000000000000 s (execLedgerEntryVisible s) := by
  unfold execLedgerEntryVisible
  refine DoesO.next ?_
  refine Does.step (State.ledgerVisible_does ..) (by decide) (by decide) ?_
  exact Does.refl ..

theorem State.countHold_does (s : State) (n : ℕ) (e : OqEntry) (due : Stamp) (t0 : Stamp) :
    Does 0x8000008 0x200014000000000003c0000000000000000000000000000000000000 s (State.countHold s n e due t0) := by
  unfold State.countHold
  refine Does.ite (fun _ => ?_) (fun _ => ?_)
  · exact Does.refl ..
  · refine Does.step (State.countGap_does ..) (by decide) (by decide) ?_
    exact Does.refl ..

theorem execVectorLaunch_does (site : SiteId) (s : State) :
    DoesO 0x8400001bc034f8 0x4800000060a20007c120000040043c0008000000000000000000000000000000000 s (execVectorLaunch site s) := by
  unfold execVectorLaunch
  extract_lets +onlyGivenNames x0
  clear_value x0
  extract_lets +onlyGivenNames x1
  refine DoesO.via (x := x1) ?_ (fun _ => ?_)
  · subst x1
    refine Does.step (State.fix_does ..) (by decide) (by decide) ?_
    exact Does.refl ..
  clear_value x1
  extract_lets +onlyGivenNames x2
  clear_value x2
  extract_lets +onlyGivenNames x3
  clear_value x3
  refine DoesO.next ?_
  refine Does.ite (fun _ => ?_) (fun _ => ?_)
  · assumption
  · split
    · extract_lets +onlyGivenNames x4
      clear_value x4
      extract_lets +onlyGivenNames x5
      clear_value x5
      extract_lets +onlyGivenNames x6
      clear_value x6
      extract_lets +onlyGivenNames x7
      clear_value x7
      extract_lets +onlyGivenNames x8
      clear_value x8
      extract_lets +onlyGivenNames x9
      clear_value x9
      refine Does.ite (fun _ => ?_) (fun _ => ?_)
      · assumption
      · extract_lets +onlyGivenNames x10
        refine Does.via (x := x10) ?_ (fun _ => ?_)
        · subst x10
          refine Does.step (State.countHold_does ..) (by decide) (by decide) ?_
          assumption
        clear_value x10
        extract_lets +onlyGivenNames x11
        refine Does.via (x := x11) ?_ (fun _ => ?_)
        · subst x11
          refine Does.step (State.launch_does ..) (by decide) (by decide) ?_
          assumption
        clear_value x11
        refine Does.step (State.raiseErr_does ..) (by decide) (by decide) ?_
        refine Does.step (State.setGang_does ..) (by decide) (by decide) ?_
        assumption
    · extract_lets +onlyGivenNames x12
      clear_value x12
      split
      · refine Does.ite (fun _ => ?_) (fun _ => ?_)
        · refine Does.step (State.launchPad_does ..) (by decide) (by decide) ?_
          assumption
        · assumption
      · assumption

theorem execVectorResolve_does (site : SiteId) (s : State) :
    DoesO 0x19c034f8 0x4800000020200206c120000040053c0008000000000000000000000000000000000 s (execVectorResolve site s) := by
  unfold execVectorResolve
  extract_lets +onlyGivenNames x0
  clear_value x0
  extract_lets +onlyGivenNames x1
  clear_value x1
  refine DoesO.next ?_
  split
  · exact Does.refl ..
  · extract_lets +onlyGivenNames x2
    clear_value x2
    extract_lets +onlyGivenNames x3
    clear_value x3
    extract_lets +onlyGivenNames x4
    clear_value x4
    extract_lets +onlyGivenNames x5
    refine Does.via (x := x5) ?_ (fun _ => ?_)
    · subst x5
      refine Does.step (State.setGang_does ..) (by decide) (by decide) ?_
      exact Does.refl ..
    clear_value x5
    extract_lets +onlyGivenNames x6
    refine Does.via (x := x6) ?_ (fun _ => ?_)
    · subst x6
      refine Does.step (State.setTagAt_does ..) (by decide) (by decide) ?_
      assumption
    clear_value x6
    extract_lets +onlyGivenNames x7
    refine Does.via (x := x7) ?_ (fun _ => ?_)
    · subst x7
      refine Does.ite (fun _ => ?_) (fun _ => ?_)
      · refine Does.step (State.siteFail_does ..) (by decide) (by decide) ?_
        assumption
      · assumption
    clear_value x7
    refine Does.step (State.settle_does ..) (by decide) (by decide) ?_
    assumption

theorem execBranchResolve_does (site : SiteId) (s : State) :
    DoesO 0x19c034f8 0x480000002021c206c12000004004040008000000000000000000000000000000000 s (execBranchResolve site s) := by
  unfold execBranchResolve
  extract_lets +onlyGivenNames x0
  clear_value x0
  extract_lets +onlyGivenNames x1
  clear_value x1
  extract_lets +onlyGivenNames x2
  clear_value x2
  refine DoesO.next ?_
  split
  · exact Does.refl ..
  · split
    · split
      · refine Does.step (State.resolveCond_does ..) (by decide) (by decide) ?_
        exact Does.refl ..
      · exact Does.refl ..
    · refine Does.step (State.resolveUser_does ..) (by decide) (by decide) ?_
      exact Does.refl ..
    · exact Does.refl ..

theorem execMatchDecision_does (site : SiteId) (s : State) :
    DoesO 0x19c034f8 0x480000002021e206c120000040043c0008000000000000000000000000000000000 s (execMatchDecision site s) := by
  unfold execMatchDecision
  extract_lets +onlyGivenNames x0
  clear_value x0
  extract_lets +onlyGivenNames x1
  clear_value x1
  refine DoesO.next ?_
  split
  · split
    · split
      · exact Does.refl ..
      · refine Does.step (State.matchPass_does ..) (by decide) (by decide) ?_
        exact Does.refl ..
      · extract_lets +onlyGivenNames x2
        refine Does.via (x := x2) ?_ (fun _ => ?_)
        · subst x2
          refine Does.step (State.countRes_does ..) (by decide) (by decide) ?_
          exact Does.refl ..
        clear_value x2
        extract_lets +onlyGivenNames x3
        refine Does.via (x := x3) ?_ (fun _ => ?_)
        · subst x3
          refine Does.ite (fun _ => ?_) (fun _ => ?_)
          · refine Does.step (State.countMisp_does ..) (by decide) (by decide) ?_
            assumption
          · assumption
        clear_value x3
        extract_lets +onlyGivenNames x4
        clear_value x4
        extract_lets +onlyGivenNames x5
        clear_value x5
        extract_lets +onlyGivenNames x6
        clear_value x6
        refine Does.step (State.settle_does ..) (by decide) (by decide) ?_
        refine Does.step (State.setGang_does ..) (by decide) (by decide) ?_
        assumption
    · exact Does.refl ..
  · split
    · split
      · exact Does.refl ..
      · refine Does.step (State.settle_does ..) (by decide) (by decide) ?_
        refine Does.step (State.endExhausted_does ..) (by decide) (by decide) ?_
        exact Does.refl ..
    · exact Does.refl ..

theorem execWaittEnd_does (site : SiteId) (s : State) :
    DoesO 0x19c034f8 0x4800000020200206c120000040053c0008000000000000000000000000000000000 s (execWaittEnd site s) := by
  unfold execWaittEnd
  extract_lets +onlyGivenNames x0
  clear_value x0
  extract_lets +onlyGivenNames x1
  clear_value x1
  refine DoesO.next ?_
  split
  · split
    · refine Does.ite (fun _ => ?_) (fun _ => ?_)
      · exact Does.refl ..
      · extract_lets +onlyGivenNames x2
        clear_value x2
        extract_lets +onlyGivenNames x3
        refine Does.via (x := x3) ?_ (fun _ => ?_)
        · subst x3
          refine Does.ite (fun _ => ?_) (fun _ => ?_)
          · exact Does.refl ..
          · refine Does.wr _ _ _ _ (by decide) ?_
            exact Does.refl ..
        clear_value x3
        refine Does.step (State.endWait_does ..) (by decide) (by decide) ?_
        assumption
    · refine Does.ite (fun _ => ?_) (fun _ => ?_)
      · refine Does.step (State.endWait_does ..) (by decide) (by decide) ?_
        exact Does.refl ..
      · exact Does.refl ..
    · exact Does.refl ..
  · exact Does.refl ..

theorem execWaitevEvent_does (site : SiteId) (s : State) :
    DoesO 0x19c034f8 0x4800000020200206c120000040053c0008000000000000000000000000000000000 s (execWaitevEvent site s) := by
  unfold execWaitevEvent
  extract_lets +onlyGivenNames x0
  clear_value x0
  refine DoesO.next ?_
  split
  · split
    · refine Does.ite (fun _ => ?_) (fun _ => ?_)
      · refine Does.step (State.endWait_does ..) (by decide) (by decide) ?_
        exact Does.refl ..
      · exact Does.refl ..
    · exact Does.refl ..
  · exact Does.refl ..

theorem execWaitevTimeout_does (site : SiteId) (s : State) :
    DoesO 0x19c034f8 0x4800000020200206c120000040053c0008000000000000000000000000000000000 s (execWaitevTimeout site s) := by
  unfold execWaitevTimeout
  extract_lets +onlyGivenNames x0
  clear_value x0
  refine DoesO.next ?_
  split
  · split
    · refine Does.ite (fun _ => ?_) (fun _ => ?_)
      · refine Does.step (State.endWait_does ..) (by decide) (by decide) ?_
        refine Does.step (State.pflag_does ..) (by decide) (by decide) ?_
        exact Does.refl ..
      · exact Does.refl ..
    · exact Does.refl ..
  · exact Does.refl ..

theorem execBarrierRelease_does (qp : QpId) (cid : ℕ) (bar : ℕ) (s : State) :
    DoesO 0x8 0x400000000000000000000000000000000000000000000000000 s (execBarrierRelease qp cid bar s) := by
  unfold execBarrierRelease
  refine DoesO.next ?_
  split
  · exact Does.refl ..
  · extract_lets +onlyGivenNames x0
    clear_value x0
    extract_lets +onlyGivenNames x1
    clear_value x1
    refine Does.ite (fun _ => ?_) (fun _ => ?_)
    · exact Does.refl ..
    · extract_lets +onlyGivenNames x2
      clear_value x2
      refine Does.foldl (fun _ _ _ => ?_) ?_
      · extract_lets +onlyGivenNames x3
        clear_value x3
        extract_lets +onlyGivenNames x4
        clear_value x4
        refine Does.step (State.fix_does ..) (by decide) (by decide) ?_
        refine Does.step (State.setGang_does ..) (by decide) (by decide) ?_
        assumption
      · exact Does.refl ..

theorem State.leaveBarrier_does (s : State) (n : ℕ) :
    Does 0x8 0x0 s (State.leaveBarrier s n) := by
  unfold State.leaveBarrier
  split
  · exact Does.refl ..
  · split
    · extract_lets +onlyGivenNames x0
      clear_value x0
      refine Does.foldl (fun _ _ _ => ?_) ?_
      · extract_lets +onlyGivenNames x1
        clear_value x1
        refine Does.step (State.setGang_does ..) (by decide) (by decide) ?_
        assumption
      · exact Does.refl ..
    · exact Does.refl ..

theorem execGsyncTimeout_does (site : SiteId) (s : State) :
    DoesO 0x19c034f8 0x4800000020200206c120000040053c0008000000000000000000000000000000000 s (execGsyncTimeout site s) := by
  unfold execGsyncTimeout
  extract_lets +onlyGivenNames x0
  clear_value x0
  refine DoesO.next ?_
  split
  · refine Does.ite (fun _ => ?_) (fun _ => ?_)
    · exact Does.refl ..
    · split
      · refine Does.ite (fun _ => ?_) (fun _ => ?_)
        · refine Does.step (State.endWait_does ..) (by decide) (by decide) ?_
          refine Does.step (State.pflag_does ..) (by decide) (by decide) ?_
          refine Does.step (State.leaveBarrier_does ..) (by decide) (by decide) ?_
          exact Does.refl ..
        · refine Does.ite (fun _ => ?_) (fun _ => ?_)
          · refine Does.step (State.endWait_does ..) (by decide) (by decide) ?_
            exact Does.refl ..
          · exact Does.refl ..
      · refine Does.ite (fun _ => ?_) (fun _ => ?_)
        · refine Does.step (State.endWait_does ..) (by decide) (by decide) ?_
          refine Does.step (State.pflag_does ..) (by decide) (by decide) ?_
          exact Does.refl ..
        · exact Does.refl ..
      · exact Does.refl ..
  · exact Does.refl ..

theorem execMeasWaitEnd_does (site : SiteId) (s : State) :
    DoesO 0x19c034f8 0x4800000020200206c120000040053c0008000000000000000000000000000000000 s (execMeasWaitEnd site s) := by
  unfold execMeasWaitEnd
  extract_lets +onlyGivenNames x0
  clear_value x0
  refine DoesO.next ?_
  split
  · split
    · refine Does.ite (fun _ => ?_) (fun _ => ?_)
      · refine Does.step (State.endWait_does ..) (by decide) (by decide) ?_
        exact Does.refl ..
      · exact Does.refl ..
    · exact Does.refl ..
  · exact Does.refl ..

theorem execEngUctlStop_does (pod : PodId) (s : State) :
    DoesO 0x8 0x2000000000000000000000000000000000000000000000000000 s (execEngUctlStop pod s) := by
  unfold execEngUctlStop
  refine DoesO.next ?_
  split
  · exact Does.refl ..
  · refine Does.ite (fun _ => ?_) (fun _ => ?_)
    · refine Does.step (State.requestStop_does ..) (by decide) (by decide) ?_
      refine Does.wr _ _ _ _ (by decide) ?_
      exact Does.refl ..
    · exact Does.refl ..

theorem execStopTaken_does (site : SiteId) (s : State) :
    DoesO 0x8000018 0x210004800000000000040000000000000000000000000000000000000 s (execStopTaken site s) := by
  unfold execStopTaken
  extract_lets +onlyGivenNames x0
  clear_value x0
  extract_lets +onlyGivenNames x1
  clear_value x1
  refine DoesO.next ?_
  split
  · exact Does.refl ..
  · refine Does.ite (fun _ => ?_) (fun _ => ?_)
    · exact Does.refl ..
    · split
      · refine Does.step (State.takeStop_does ..) (by decide) (by decide) ?_
        exact Does.refl ..
      · exact Does.refl ..

theorem execEngUctlResume_does (pod : PodId) (s : State) :
    DoesO 0x19c034f8 0x4800000020200206c12000004004040008000000000000000000000000000000000 s (execEngUctlResume pod s) := by
  unfold execEngUctlResume
  refine DoesO.next ?_
  split
  · exact Does.refl ..
  · refine Does.ite (fun _ => ?_) (fun _ => ?_)
    · refine Does.step (State.resumeGang_does ..) (by decide) (by decide) ?_
      exact Does.refl ..
    · exact Does.refl ..

theorem execEngUctlStep_does (pod : PodId) (s : State) :
    DoesO 0x19c034f8 0x4800000020200206c12000004004040008000000000000000000000000000000000 s (execEngUctlStep pod s) := by
  unfold execEngUctlStep
  refine DoesO.next ?_
  split
  · exact Does.refl ..
  · refine Does.ite (fun _ => ?_) (fun _ => ?_)
    · refine Does.step (State.resumeGang_does ..) (by decide) (by decide) ?_
      exact Does.refl ..
    · exact Does.refl ..

theorem execBreakpoint_does (pod : PodId) (s : State) :
    DoesO 0x8 0x0 s (execBreakpoint pod s) := by
  unfold execBreakpoint
  refine DoesO.next ?_
  split
  · exact Does.refl ..
  · extract_lets +onlyGivenNames x0
    clear_value x0
    refine Does.ite (fun _ => ?_) (fun _ => ?_)
    · exact Does.refl ..
    · split
      · exact Does.refl ..
      · refine Does.step (State.requestStop_does ..) (by decide) (by decide) ?_
        refine Does.step (State.setGang_does ..) (by decide) (by decide) ?_
        exact Does.refl ..

theorem execRoutineLimit_does (site : SiteId) (s : State) :
    DoesO 0x19c034e8 0x4800000020000206c12000004004040008000000000000000000000000000000000 s (execRoutineLimit site s) := by
  unfold execRoutineLimit
  extract_lets +onlyGivenNames x0
  clear_value x0
  extract_lets +onlyGivenNames x1
  clear_value x1
  refine DoesO.next ?_
  refine Does.ite (fun _ => ?_) (fun _ => ?_)
  · exact Does.refl ..
  · refine Does.ite (fun _ => ?_) (fun _ => ?_)
    · refine Does.step (State.engineErr_does ..) (by decide) (by decide) ?_
      exact Does.refl ..
    · split
      · refine Does.ite (fun _ => ?_) (fun _ => ?_)
        · refine Does.step (State.stopSprout_does ..) (by decide) (by decide) ?_
          exact Does.refl ..
        · exact Does.refl ..
      · exact Does.refl ..

theorem execEngRaCtlPclr_does (pod : PodId) (s : State) :
    DoesO 0x10 0x0 s (execEngRaCtlPclr pod s) := by
  unfold execEngRaCtlPclr
  refine DoesO.next ?_
  refine Does.step (State.setPod_does ..) (by decide) (by decide) ?_
  exact Does.refl ..

theorem execEngRaQset_does (pod : PodId) (value : BitVec 32) (s : State) :
    DoesO 0x0 0x400000000000000000000000000000000000000000000000000000 s (execEngRaQset pod value s) := by
  unfold execEngRaQset
  refine DoesO.next ?_
  refine Does.wr _ _ _ _ (by decide) ?_
  refine Does.wr _ _ _ _ (by decide) ?_
  exact Does.refl ..

end Sys2Proof.Machine
end

