-- ==== Sys2Proof/Laws/DoesPattern.lean ====
section
/-! SUPPORT. What each operation and meaning of Machine/Pattern.lean may touch. -/

namespace Sys2Proof.Machine

open Sys2Proof

set_option linter.unusedVariables false

theorem execSegmentCrossing_does (site : SiteId) (s : State) :
    DoesO 0x19c034f8 0x4800000020000206c12000004004040008000000000000000000000000000000000 s (execSegmentCrossing site s) := by
  unfold execSegmentCrossing
  extract_lets +onlyGivenNames x0
  clear_value x0
  extract_lets +onlyGivenNames x1
  clear_value x1
  extract_lets +onlyGivenNames x2
  clear_value x2
  refine DoesO.next ?_
  refine Does.ite (fun _ => ?_) (fun _ => ?_)
  · exact Does.refl ..
  · split
    · exact Does.refl ..
    · extract_lets +onlyGivenNames x3
      clear_value x3
      extract_lets +onlyGivenNames x4
      clear_value x4
      extract_lets +onlyGivenNames x5
      clear_value x5
      refine Does.ite (fun _ => ?_) (fun _ => ?_)
      · exact Does.refl ..
      · split
        · refine Does.step (State.engineErr_does ..) (by decide) (by decide) ?_
          exact Does.refl ..
        · split
          · refine Does.step (State.engineErr_does ..) (by decide) (by decide) ?_
            exact Does.refl ..
          · split
            · refine Does.step (State.engineErr_does ..) (by decide) (by decide) ?_
              exact Does.refl ..
            · refine Does.ite (fun _ => ?_) (fun _ => ?_)
              · split
                · refine Does.ite (fun _ => ?_) (fun _ => ?_)
                  · exact Does.refl ..
                  · refine Does.step (State.crossTo_does ..) (by decide) (by decide) ?_
                    exact Does.refl ..
                · refine Does.ite (fun _ => ?_) (fun _ => ?_)
                  · refine Does.step (State.crossTo_does ..) (by decide) (by decide) ?_
                    exact Does.refl ..
                  · exact Does.refl ..
              · extract_lets +onlyGivenNames x6
                refine Does.via (x := x6) ?_ (fun _ => ?_)
                · subst x6
                  refine Does.foldl (fun _ _ _ => ?_) ?_
                  · refine Does.step (State.urgent_does ..) (by decide) (by decide) ?_
                    assumption
                  · exact Does.refl ..
                clear_value x6
                split
                · assumption
                · refine Does.step (State.setGang_does ..) (by decide) (by decide) ?_
                  assumption

theorem execUnderrunDeadline_does (site : SiteId) (s : State) :
    DoesO 0x419c034e8 0x4800000020620207c120a00040043c0008000000000000000000000000000000000 s (execUnderrunDeadline site s) := by
  unfold execUnderrunDeadline
  extract_lets +onlyGivenNames x0
  clear_value x0
  refine DoesO.next ?_
  split
  · exact Does.refl ..
  · refine Does.ite (fun _ => ?_) (fun _ => ?_)
    · refine Does.step (State.underrun_does ..) (by decide) (by decide) ?_
      exact Does.refl ..
    · exact Does.refl ..

theorem execUnderrunEnd_does (site : SiteId) (s : State) :
    DoesO 0x19c034f8 0x4800000020200206c12000004004040008000000000000000000000000000000000 s (execUnderrunEnd site s) := by
  unfold execUnderrunEnd
  extract_lets +onlyGivenNames x0
  clear_value x0
  extract_lets +onlyGivenNames x1
  clear_value x1
  refine DoesO.next ?_
  split
  · refine Does.ite (fun _ => ?_) (fun _ => ?_)
    · refine Does.step (State.settle_does ..) (by decide) (by decide) ?_
      refine Does.step (State.crossTo_does ..) (by decide) (by decide) ?_
      exact Does.refl ..
    · exact Does.refl ..
  · exact Does.refl ..

theorem execStallTimeout_does (site : SiteId) (s : State) :
    DoesO 0x19c034e8 0x4800000020220207c120000040043c0008000000000000000000000000000000000 s (execStallTimeout site s) := by
  unfold execStallTimeout
  extract_lets +onlyGivenNames x0
  clear_value x0
  extract_lets +onlyGivenNames x1
  clear_value x1
  refine DoesO.next ?_
  split
  · split
    · refine Does.ite (fun _ => ?_) (fun _ => ?_)
      · refine Does.step (State.underrunHalt_does ..) (by decide) (by decide) ?_
        exact Does.refl ..
      · exact Does.refl ..
    · exact Does.refl ..
  · exact Does.refl ..

theorem execRetirement_does (pod : PodId) (seg : Fin 64) (s : State) :
    DoesO 0x800000000000018 0x0 s (execRetirement pod seg s) := by
  unfold execRetirement
  refine DoesO.next ?_
  split
  · exact Does.refl ..
  · extract_lets +onlyGivenNames x0
    clear_value x0
    split
    · exact Does.refl ..
    · refine Does.ite (fun _ => ?_) (fun _ => ?_)
      · exact Does.refl ..
      · refine Does.step (State.retire_does ..) (by decide) (by decide) ?_
        refine Does.step (State.setGang_does ..) (by decide) (by decide) ?_
        exact Does.refl ..

theorem execRefillDone_does (pod : PodId) (seg : Fin 64) (s : State) :
    DoesO 0x8008010 0x200000000000000000000000000000000000000000000000 s (execRefillDone pod seg s) := by
  unfold execRefillDone
  extract_lets +onlyGivenNames x0
  clear_value x0
  refine DoesO.next ?_
  refine Does.ite (fun _ => ?_) (fun _ => ?_)
  · exact Does.refl ..
  · refine Does.step (State.finishLoad_does ..) (by decide) (by decide) ?_
    exact Does.refl ..

theorem execPoolError_does (pod : PodId) (seg : Fin 64) (granule : ℕ) (s : State) :
    DoesO 0x4000002020010 0x200000000000000000000000000000000000000000000000000000000 s (execPoolError pod seg granule s) := by
  unfold execPoolError
  extract_lets +onlyGivenNames x0
  clear_value x0
  refine DoesO.next ?_
  refine Does.ite (fun _ => ?_) (fun _ => ?_)
  · exact Does.refl ..
  · extract_lets +onlyGivenNames x1
    refine Does.via (x := x1) ?_ (fun _ => ?_)
    · subst x1
      refine Does.upd_poolBad _ (by decide) ?_
      exact Does.refl ..
    clear_value x1
    refine Does.step (State.detect_does ..) (by decide) (by decide) ?_
    refine Does.wr _ _ _ _ (by decide) ?_
    refine Does.step (State.setSeg_does ..) (by decide) (by decide) ?_
    assumption

theorem execRewind_does (site : SiteId) (s : State) :
    DoesO 0x18 0x0 s (execRewind site s) := by
  unfold execRewind
  extract_lets +onlyGivenNames x0
  clear_value x0
  extract_lets +onlyGivenNames x1
  clear_value x1
  refine DoesO.next ?_
  refine Does.ite (fun _ => ?_) (fun _ => ?_)
  · refine Does.foldl (fun _ _ _ => ?_) ?_
    · refine Does.step (State.rewindPod_does ..) (by decide) (by decide) ?_
      assumption
    · refine Does.step (State.setGang_does ..) (by decide) (by decide) ?_
      exact Does.refl ..
  · exact Does.refl ..

end Sys2Proof.Machine
end

