-- ==== Sys2Proof/Laws/DoesPinRows.lean ====
section
/-! SUPPORT. What each operation and meaning of Machine/PinRows.lean may touch. -/

namespace Sys2Proof.Machine

open Sys2Proof

set_option linter.unusedVariables false

theorem State.cmpFail_does (s : State) (q : ℕ) (e : CmpEdge) (state : ℕ) :
    Does 0x8040018 0x680000000000000000000000000000000000000000000000000000000000000 s (State.cmpFail s q e state) := by
  unfold State.cmpFail
  extract_lets +onlyGivenNames x0
  refine Does.via (x := x0) ?_ (fun _ => ?_)
  · subst x0
    split
    · extract_lets +onlyGivenNames x1
      clear_value x1
      refine Does.step (State.setGang_does ..) (by decide) (by decide) ?_
      exact Does.refl ..
    · exact Does.refl ..
  clear_value x0
  refine Does.ite (fun _ => ?_) (fun _ => ?_)
  · assumption
  · refine Does.step (State.captureFail_does ..) (by decide) (by decide) ?_
    assumption

theorem State.cmpMasked_does (s : State) (q : ℕ) :
    Does 0x20 0x1000000000000000000000000000000000000000000000000000000000000 s (State.cmpMasked s q) := by
  unfold State.cmpMasked
  refine Does.bump _ _ _ _ (by decide) ?_
  refine Does.step (State.setPin_does ..) (by decide) (by decide) ?_
  exact Does.refl ..

theorem State.cmpDone_does (s : State) (q : ℕ) (e : CmpEdge) (prev : ℕ) (state : ℕ) (ok : Bool) (shown : ℕ) :
    Does 0x8040038 0x680000000000000000000000000000000000000000000000000000000000000 s (State.cmpDone s q e prev state ok shown) := by
  unfold State.cmpDone
  extract_lets +onlyGivenNames x0
  clear_value x0
  extract_lets +onlyGivenNames x1
  refine Does.via (x := x1) ?_ (fun _ => ?_)
  · subst x1
    refine Does.step (State.setPin_does ..) (by decide) (by decide) ?_
    exact Does.refl ..
  clear_value x1
  extract_lets +onlyGivenNames x2
  refine Does.via (x := x2) ?_ (fun _ => ?_)
  · subst x2
    refine Does.step (State.pulse_does ..) (by decide) (by decide) ?_
    assumption
  clear_value x2
  refine Does.ite (fun _ => ?_) (fun _ => ?_)
  · refine Does.step (State.pushFail_does ..) (by decide) (by decide) ?_
    assumption
  · refine Does.ite (fun _ => ?_) (fun _ => ?_)
    · assumption
    · refine Does.step (State.cmpFail_does ..) (by decide) (by decide) ?_
      assumption

theorem execStrobe_does (pin : PinId) (s : State) :
    DoesO 0x8040038 0x681000000000000000000000000000000000000000000000000000000000000 s (execStrobe pin s) := by
  unfold execStrobe
  extract_lets +onlyGivenNames x0
  clear_value x0
  extract_lets +onlyGivenNames x1
  clear_value x1
  refine DoesO.next ?_
  split
  · exact Does.refl ..
  · refine Does.ite (fun _ => ?_) (fun _ => ?_)
    · exact Does.refl ..
    · refine Does.ite (fun _ => ?_) (fun _ => ?_)
      · refine Does.step (State.cmpMasked_does ..) (by decide) (by decide) ?_
        exact Does.refl ..
      · refine Does.ite (fun _ => ?_) (fun _ => ?_)
        · refine Does.step (State.cmpDone_does ..) (by decide) (by decide) ?_
          exact Does.refl ..
        · extract_lets +onlyGivenNames x2
          clear_value x2
          refine Does.step (State.cmpDone_does ..) (by decide) (by decide) ?_
          exact Does.refl ..

theorem execWindowCompare_does (pin : PinId) (s : State) :
    DoesO 0x804003c 0x681000000000000000000000000000000000000000000000000000000000000 s (execWindowCompare pin s) := by
  unfold execWindowCompare
  extract_lets +onlyGivenNames x0
  clear_value x0
  extract_lets +onlyGivenNames x1
  clear_value x1
  refine DoesO.next ?_
  split
  · exact Does.refl ..
  · refine Does.ite (fun _ => ?_) (fun _ => ?_)
    · exact Does.refl ..
    · refine Does.ite (fun _ => ?_) (fun _ => ?_)
      · refine Does.step (State.cmpMasked_does ..) (by decide) (by decide) ?_
        exact Does.refl ..
      · refine Does.ite (fun _ => ?_) (fun _ => ?_)
        · refine Does.step (State.cmpDone_does ..) (by decide) (by decide) ?_
          exact Does.refl ..
        · extract_lets +onlyGivenNames x2
          clear_value x2
          refine Does.ite (fun _ => ?_) (fun _ => ?_)
          · refine Does.step (State.cmpDone_does ..) (by decide) (by decide) ?_
            exact Does.refl ..
          · refine Does.ite (fun _ => ?_) (fun _ => ?_)
            · refine Does.step (State.cmpDone_does ..) (by decide) (by decide) ?_
              exact Does.refl ..
            · extract_lets +onlyGivenNames x3
              clear_value x3
              extract_lets +onlyGivenNames x4
              clear_value x4
              extract_lets +onlyGivenNames x5
              refine Does.via (x := x5) ?_ (fun _ => ?_)
              · subst x5
                refine Does.upd_free _ (by decide) ?_
                exact Does.refl ..
              clear_value x5
              split
              · refine Does.step (State.cmpDone_does ..) (by decide) (by decide) ?_
                assumption
              · refine Does.step (State.cmpDone_does ..) (by decide) (by decide) ?_
                assumption

theorem State.watchEvent_does (s : State) (q : ℕ) (info : ℕ) (counts : Bool) (t : Stamp) :
    Does 0x9800008 0x208000000000000000000000000000000000000000000000000000000000000000 s (State.watchEvent s q info counts t) := by
  unfold State.watchEvent
  extract_lets +onlyGivenNames x0
  refine Does.via (x := x0) ?_ (fun _ => ?_)
  · subst x0
    refine Does.ite (fun _ => ?_) (fun _ => ?_)
    · refine Does.bump _ _ _ _ (by decide) ?_
      exact Does.refl ..
    · exact Does.refl ..
  clear_value x0
  extract_lets +onlyGivenNames x1
  refine Does.via (x := x1) ?_ (fun _ => ?_)
  · subst x1
    refine Does.step (State.pulse_does ..) (by decide) (by decide) ?_
    refine Does.bump _ _ _ _ (by decide) ?_
    assumption
  clear_value x1
  refine Does.step (State.raise_does ..) (by decide) (by decide) ?_
  assumption

theorem State.watchSpan_does (s : State) (q : ℕ) (start : Option Stamp) :
    Does 0x20 0x8000000000000000000000000000000000000000000000000000000000000000 s (State.watchSpan s q start) := by
  unfold State.watchSpan
  refine Does.wr _ _ _ _ (by decide) ?_
  refine Does.step (State.setPin_does ..) (by decide) (by decide) ?_
  exact Does.refl ..

theorem State.skipEnds_does (s : State) (q : ℕ) :
    Does 0x20 0x0 s (State.skipEnds s q) := by
  unfold State.skipEnds
  split
  · exact Does.refl ..
  · refine Does.ite (fun _ => ?_) (fun _ => ?_)
    · extract_lets +onlyGivenNames x0
      clear_value x0
      refine Does.step (State.setPin_does ..) (by decide) (by decide) ?_
      exact Does.refl ..
    · exact Does.refl ..

theorem State.askWake_does (s : State) (cause : ℕ) :
    Does 0x8000000000000000 0x0 s (State.askWake s cause) := by
  unfold State.askWake
  refine Does.ite (fun _ => ?_) (fun _ => ?_)
  · exact Does.refl ..
  · refine Does.upd_wakeAsk _ (by decide) ?_
    exact Does.refl ..

theorem State.takeDec_does (s : State) (q : ℕ) :
    Does 0x20 0x0 s (State.takeDec s q) := by
  unfold State.takeDec
  extract_lets +onlyGivenNames x0
  clear_value x0
  refine Does.step (State.setPin_does ..) (by decide) (by decide) ?_
  exact Does.refl ..

theorem State.decided_does (s : State) (q : ℕ) (d : FDec) (init : Bool) :
    Does 0x8000000009800028 0x208000000000000000000000000000000000000000000000000000000000000000 s (State.decided s q d init) := by
  unfold State.decided
  extract_lets +onlyGivenNames x0
  clear_value x0
  extract_lets +onlyGivenNames x1
  clear_value x1
  extract_lets +onlyGivenNames x2
  clear_value x2
  extract_lets +onlyGivenNames x3
  clear_value x3
  extract_lets +onlyGivenNames x4
  clear_value x4
  refine Does.ite (fun _ => ?_) (fun _ => ?_)
  · extract_lets +onlyGivenNames x5
    refine Does.via (x := x5) ?_ (fun _ => ?_)
    · subst x5
      refine Does.step (State.watchSpan_does ..) (by decide) (by decide) ?_
      exact Does.refl ..
    clear_value x5
    extract_lets +onlyGivenNames x6
    refine Does.via (x := x6) ?_ (fun _ => ?_)
    · subst x6
      refine Does.ite (fun _ => ?_) (fun _ => ?_)
      · refine Does.step (State.watchEvent_does ..) (by decide) (by decide) ?_
        assumption
      · assumption
    clear_value x6
    refine Does.ite (fun _ => ?_) (fun _ => ?_)
    · refine Does.step (State.askWake_does ..) (by decide) (by decide) ?_
      assumption
    · assumption
  · refine Does.ite (fun _ => ?_) (fun _ => ?_)
    · refine Does.step (State.watchSpan_does ..) (by decide) (by decide) ?_
      exact Does.refl ..
    · exact Does.refl ..

theorem execFilterSettled_does (pin : PinId) (s : State) :
    DoesO 0x8000000009800028 0x208000000000000000000000000000000000000000000000000000000000000000 s (execFilterSettled pin s) := by
  unfold execFilterSettled
  extract_lets +onlyGivenNames x0
  clear_value x0
  extract_lets +onlyGivenNames x1
  refine DoesO.via (x := x1) ?_ (fun _ => ?_)
  · subst x1
    refine Does.step (State.syncPin_does ..) (by decide) (by decide) ?_
    exact Does.refl ..
  clear_value x1
  refine DoesO.next ?_
  split
  · refine Does.ite (fun _ => ?_) (fun _ => ?_)
    · refine Does.step (State.decided_does ..) (by decide) (by decide) ?_
      refine Does.step (State.takeDec_does ..) (by decide) (by decide) ?_
      assumption
    · exact Does.refl ..
  · exact Does.refl ..

theorem execFilterDecision_does (pin : PinId) (s : State) :
    DoesO 0x8000000009800028 0x208000000000000000000000000000000000000000000000000000000000000000 s (execFilterDecision pin s) := by
  unfold execFilterDecision
  extract_lets +onlyGivenNames x0
  clear_value x0
  extract_lets +onlyGivenNames x1
  refine DoesO.via (x := x1) ?_ (fun _ => ?_)
  · subst x1
    refine Does.step (State.syncPin_does ..) (by decide) (by decide) ?_
    exact Does.refl ..
  clear_value x1
  refine DoesO.next ?_
  split
  · refine Does.ite (fun _ => ?_) (fun _ => ?_)
    · exact Does.refl ..
    · refine Does.step (State.decided_does ..) (by decide) (by decide) ?_
      refine Does.step (State.takeDec_does ..) (by decide) (by decide) ?_
      assumption
  · exact Does.refl ..

theorem execLevelRearm_does (pin : PinId) (s : State) :
    DoesO 0x9800028 0x218000000000000000000000000000000000000000000000000000000000000000 s (execLevelRearm pin s) := by
  unfold execLevelRearm
  extract_lets +onlyGivenNames x0
  clear_value x0
  extract_lets +onlyGivenNames x1
  clear_value x1
  refine DoesO.next ?_
  split
  · exact Does.refl ..
  · refine Does.ite (fun _ => ?_) (fun _ => ?_)
    · exact Does.refl ..
    · extract_lets +onlyGivenNames x2
      refine Does.via (x := x2) ?_ (fun _ => ?_)
      · subst x2
        refine Does.step (State.setPin_does ..) (by decide) (by decide) ?_
        exact Does.refl ..
      clear_value x2
      extract_lets +onlyGivenNames x3
      clear_value x3
      refine Does.ite (fun _ => ?_) (fun _ => ?_)
      · assumption
      · extract_lets +onlyGivenNames x4
        clear_value x4
        extract_lets +onlyGivenNames x5
        refine Does.via (x := x5) ?_ (fun _ => ?_)
        · subst x5
          refine Does.step (State.setPin_does ..) (by decide) (by decide) ?_
          assumption
        clear_value x5
        extract_lets +onlyGivenNames x6
        refine Does.via (x := x6) ?_ (fun _ => ?_)
        · subst x6
          refine Does.step (State.watchEvent_does ..) (by decide) (by decide) ?_
          assumption
        clear_value x6
        refine Does.ite (fun _ => ?_) (fun _ => ?_)
        · refine Does.wr _ _ _ _ (by decide) ?_
          assumption
        · assumption

theorem execRateWindow_does (pin : PinId) (s : State) :
    DoesO 0x9800028 0x218000000000000000000000000000000000000000000000000000000000000000 s (execRateWindow pin s) := by
  unfold execRateWindow
  extract_lets +onlyGivenNames x0
  clear_value x0
  extract_lets +onlyGivenNames x1
  refine DoesO.via (x := x1) ?_ (fun _ => ?_)
  · subst x1
    refine Does.step (State.syncPin_does ..) (by decide) (by decide) ?_
    exact Does.refl ..
  clear_value x1
  extract_lets +onlyGivenNames x2
  clear_value x2
  refine DoesO.next ?_
  split
  · exact Does.refl ..
  · extract_lets +onlyGivenNames x3
    clear_value x3
    extract_lets +onlyGivenNames x4
    refine Does.via (x := x4) ?_ (fun _ => ?_)
    · subst x4
      refine Does.step (State.setPin_does ..) (by decide) (by decide) ?_
      assumption
    clear_value x4
    refine Does.ite (fun _ => ?_) (fun _ => ?_)
    · assumption
    · extract_lets +onlyGivenNames x5
      clear_value x5
      extract_lets +onlyGivenNames x6
      refine Does.via (x := x6) ?_ (fun _ => ?_)
      · subst x6
        refine Does.wr _ _ _ _ (by decide) ?_
        assumption
      clear_value x6
      refine Does.ite (fun _ => ?_) (fun _ => ?_)
      · refine Does.step (State.watchEvent_does ..) (by decide) (by decide) ?_
        assumption
      · assumption

theorem State.reseedPin_does (s : State) (q : ℕ) :
    Does 0x20 0x8000000000000000000000000000000000000000000000000000000000000000 s (State.reseedPin s q) := by
  unfold State.reseedPin
  extract_lets +onlyGivenNames x0
  refine Does.via (x := x0) ?_ (fun _ => ?_)
  · subst x0
    refine Does.step (State.syncPin_does ..) (by decide) (by decide) ?_
    exact Does.refl ..
  clear_value x0
  extract_lets +onlyGivenNames x1
  clear_value x1
  extract_lets +onlyGivenNames x2
  clear_value x2
  extract_lets +onlyGivenNames x3
  clear_value x3
  refine Does.ite (fun _ => ?_) (fun _ => ?_)
  · assumption
  · extract_lets +onlyGivenNames x4
    refine Does.via (x := x4) ?_ (fun _ => ?_)
    · subst x4
      refine Does.step (State.setPin_does ..) (by decide) (by decide) ?_
      assumption
    clear_value x4
    extract_lets +onlyGivenNames x5
    clear_value x5
    extract_lets +onlyGivenNames x6
    clear_value x6
    refine Does.ite (fun _ => ?_) (fun _ => ?_)
    · refine Does.step (State.watchSpan_does ..) (by decide) (by decide) ?_
      assumption
    · refine Does.ite (fun _ => ?_) (fun _ => ?_)
      · refine Does.step (State.watchSpan_does ..) (by decide) (by decide) ?_
        assumption
      · assumption

theorem execLevelSettleExpiry_does (pod : PodId) (s : State) :
    DoesO 0x30 0x8000800000000000000000000000000000000000000000000000000000000000 s (execLevelSettleExpiry pod s) := by
  unfold execLevelSettleExpiry
  extract_lets +onlyGivenNames x0
  clear_value x0
  refine DoesO.next ?_
  split
  · exact Does.refl ..
  · refine Does.ite (fun _ => ?_) (fun _ => ?_)
    · exact Does.refl ..
    · extract_lets +onlyGivenNames x1
      refine Does.via (x := x1) ?_ (fun _ => ?_)
      · subst x1
        refine Does.wr _ _ _ _ (by decide) ?_
        refine Does.step (State.setPod_does ..) (by decide) (by decide) ?_
        exact Does.refl ..
      clear_value x1
      refine Does.foldl (fun _ _ _ => ?_) ?_
      · refine Does.step (State.reseedPin_does ..) (by decide) (by decide) ?_
        assumption
      · assumption

theorem State.logEdge_does (s : State) (q : ℕ) (new : ℕ) (win : Bool) (t : Stamp) :
    Does 0x8000038 0x480000000000000000000000000000000000000000000000000000000000000 s (State.logEdge s q new win t) := by
  unfold State.logEdge
  extract_lets +onlyGivenNames x0
  clear_value x0
  extract_lets +onlyGivenNames x1
  clear_value x1
  extract_lets +onlyGivenNames x2
  clear_value x2
  extract_lets +onlyGivenNames x3
  clear_value x3
  extract_lets +onlyGivenNames x4
  clear_value x4
  refine Does.ite (fun _ => ?_) (fun _ => ?_)
  · refine State.lose_doesF3 (by decide) (by decide) (by decide) ?_
    exact Does.refl ..
  · extract_lets +onlyGivenNames x5
    refine Does.via (x := x5) ?_ (fun _ => ?_)
    · subst x5
      refine Does.step (State.setPin_does ..) (by decide) (by decide) ?_
      exact Does.refl ..
    clear_value x5
    extract_lets +onlyGivenNames x6
    clear_value x6
    refine Does.ite (fun _ => ?_) (fun _ => ?_)
    · refine State.lose_doesF3 (by decide) (by decide) (by decide) ?_
      assumption
    · refine Does.step (State.setPod_does ..) (by decide) (by decide) ?_
      assumption

theorem execRawTransition_does (pin : PinId) (raw : ℕ) (frac : ℕ) (s : State) :
    DoesO 0x8000078 0x480000000000000000000000000000000000000000000000000000000000000 s (execRawTransition pin raw frac s) := by
  unfold execRawTransition
  extract_lets +onlyGivenNames x0
  clear_value x0
  extract_lets +onlyGivenNames x1
  refine DoesO.via (x := x1) ?_ (fun _ => ?_)
  · subst x1
    refine Does.step (State.syncPin_does ..) (by decide) (by decide) ?_
    exact Does.refl ..
  clear_value x1
  extract_lets +onlyGivenNames x2
  clear_value x2
  extract_lets +onlyGivenNames x3
  clear_value x3
  refine DoesO.next ?_
  refine Does.ite (fun _ => ?_) (fun _ => ?_)
  · exact Does.refl ..
  · extract_lets +onlyGivenNames x4
    clear_value x4
    extract_lets +onlyGivenNames x5
    refine Does.via (x := x5) ?_ (fun _ => ?_)
    · subst x5
      refine Does.step (State.setPin_does ..) (by decide) (by decide) ?_
      assumption
    clear_value x5
    extract_lets +onlyGivenNames x6
    clear_value x6
    extract_lets +onlyGivenNames x7
    clear_value x7
    extract_lets +onlyGivenNames x8
    clear_value x8
    extract_lets +onlyGivenNames x9
    clear_value x9
    extract_lets +onlyGivenNames x10
    clear_value x10
    refine Does.ite (fun _ => ?_) (fun _ => ?_)
    · extract_lets +onlyGivenNames x11
      refine Does.via (x := x11) ?_ (fun _ => ?_)
      · subst x11
        refine Does.ite (fun _ => ?_) (fun _ => ?_)
        · refine Does.step (State.iuPinEdge_does ..) (by decide) (by decide) ?_
          assumption
        · assumption
      clear_value x11
      refine Does.ite (fun _ => ?_) (fun _ => ?_)
      · refine State.lose_doesF3 (by decide) (by decide) (by decide) ?_
        assumption
      · assumption
    · refine Does.ite (fun _ => ?_) (fun _ => ?_)
      · extract_lets +onlyGivenNames x12
        refine Does.via (x := x12) ?_ (fun _ => ?_)
        · subst x12
          refine Does.step (State.iuMissed_does ..) (by decide) (by decide) ?_
          assumption
        clear_value x12
        refine Does.ite (fun _ => ?_) (fun _ => ?_)
        · refine State.lose_doesF3 (by decide) (by decide) (by decide) ?_
          assumption
        · assumption
      · extract_lets +onlyGivenNames x13
        clear_value x13
        extract_lets +onlyGivenNames x14
        refine Does.via (x := x14) ?_ (fun _ => ?_)
        · subst x14
          refine Does.step (State.pulse_does ..) (by decide) (by decide) ?_
          refine Does.step (State.setPin_does ..) (by decide) (by decide) ?_
          assumption
        clear_value x14
        extract_lets +onlyGivenNames x15
        refine Does.via (x := x15) ?_ (fun _ => ?_)
        · subst x15
          refine Does.step (State.iuPinEdge_does ..) (by decide) (by decide) ?_
          assumption
        clear_value x15
        refine Does.ite (fun _ => ?_) (fun _ => ?_)
        · refine Does.step (State.logEdge_does ..) (by decide) (by decide) ?_
          assumption
        · assumption

theorem State.refilter_does (s : State) (q : ℕ) :
    Does 0x20 0x8000000000000000000000000000000000000000000000000000000000000000 s (State.refilter s q) := by
  unfold State.refilter
  refine Does.step (State.watchSpan_does ..) (by decide) (by decide) ?_
  refine Does.step (State.restartPin_does ..) (by decide) (by decide) ?_
  exact Does.refl ..

theorem State.writePinCfg_does (s : State) (q : ℕ) (v : ℕ) :
    Does 0x20 0x1a000000000000000000000000000000000000000000000000000000000000000 s (State.writePinCfg s q v) := by
  unfold State.writePinCfg
  extract_lets +onlyGivenNames x0
  refine Does.via (x := x0) ?_ (fun _ => ?_)
  · subst x0
    refine Does.step (State.syncPin_does ..) (by decide) (by decide) ?_
    exact Does.refl ..
  clear_value x0
  extract_lets +onlyGivenNames x1
  clear_value x1
  extract_lets +onlyGivenNames x2
  subst x2
  extract_lets +onlyGivenNames x3
  clear_value x3
  extract_lets +onlyGivenNames x4
  clear_value x4
  extract_lets +onlyGivenNames x5
  refine Does.via (x := x5) ?_ (fun _ => ?_)
  · subst x5
    refine Does.wr _ _ _ _ (by decide) ?_
    assumption
  clear_value x5
  refine Does.ite (fun _ => ?_) (fun _ => ?_)
  · refine Does.ite (fun _ => ?_) (fun _ => ?_)
    · refine Does.wr _ _ _ _ (by decide) ?_
      assumption
    · assumption
  · extract_lets +onlyGivenNames x6
    clear_value x6
    extract_lets +onlyGivenNames x7
    refine Does.via (x := x7) ?_ (fun _ => ?_)
    · subst x7
      simp only [List.foldl_cons, List.foldl_nil]
      refine Does.wr _ _ _ _ (by decide) ?_
      refine Does.wr _ _ _ _ (by decide) ?_
      refine Does.wr _ _ _ _ (by decide) ?_
      refine Does.wr _ _ _ _ (by decide) ?_
      refine Does.wr _ _ _ _ (by decide) ?_
      refine Does.wr _ _ _ _ (by decide) ?_
      refine Does.wr _ _ _ _ (by decide) ?_
      assumption
    clear_value x7
    extract_lets +onlyGivenNames x8
    refine Does.via (x := x8) ?_ (fun _ => ?_)
    · subst x8
      refine Does.ite (fun _ => ?_) (fun _ => ?_)
      · assumption
      · refine Does.step (State.forceDrv_does ..) (by decide) (by decide) ?_
        assumption
    clear_value x8
    refine Does.ite (fun _ => ?_) (fun _ => ?_)
    · refine Does.step (State.refilter_does ..) (by decide) (by decide) ?_
      assumption
    · assumption

theorem State.writePinWatch_does (s : State) (q : ℕ) (v : ℕ) :
    Does 0x20 0xc000000000000000000000000000000000000000000000000000000000000000 s (State.writePinWatch s q v) := by
  unfold State.writePinWatch
  extract_lets +onlyGivenNames x0
  refine Does.via (x := x0) ?_ (fun _ => ?_)
  · subst x0
    refine Does.step (State.syncPin_does ..) (by decide) (by decide) ?_
    exact Does.refl ..
  clear_value x0
  extract_lets +onlyGivenNames x1
  clear_value x1
  extract_lets +onlyGivenNames x2
  clear_value x2
  extract_lets +onlyGivenNames x3
  clear_value x3
  extract_lets +onlyGivenNames x4
  refine Does.via (x := x4) ?_ (fun _ => ?_)
  · subst x4
    simp only [List.foldl_cons, List.foldl_nil]
    refine Does.wr _ _ _ _ (by decide) ?_
    refine Does.wr _ _ _ _ (by decide) ?_
    refine Does.wr _ _ _ _ (by decide) ?_
    refine Does.wr _ _ _ _ (by decide) ?_
    refine Does.wr _ _ _ _ (by decide) ?_
    refine Does.wr _ _ _ _ (by decide) ?_
    refine Does.wr _ _ _ _ (by decide) ?_
    refine Does.wr _ _ _ _ (by decide) ?_
    refine Does.wr _ _ _ _ (by decide) ?_
    assumption
  clear_value x4
  refine Does.ite (fun _ => ?_) (fun _ => ?_)
  · refine Does.step (State.refilter_does ..) (by decide) (by decide) ?_
    assumption
  · refine Does.ite (fun _ => ?_) (fun _ => ?_)
    · refine Does.step (State.watchSpan_does ..) (by decide) (by decide) ?_
      assumption
    · refine Does.ite (fun _ => ?_) (fun _ => ?_)
      · refine Does.step (State.skipEnds_does ..) (by decide) (by decide) ?_
        assumption
      · assumption

theorem execPinCfgWrite_does (pin : PinId) (value : BitVec 32) (s : State) :
    DoesO 0x20 0x1a000000000000000000000000000000000000000000000000000000000000000 s (execPinCfgWrite pin value s) := by
  unfold execPinCfgWrite
  refine DoesO.next ?_
  refine Does.step (State.writePinCfg_does ..) (by decide) (by decide) ?_
  exact Does.refl ..

theorem execPinWatchWrite_does (pin : PinId) (value : BitVec 32) (s : State) :
    DoesO 0x20 0xc000000000000000000000000000000000000000000000000000000000000000 s (execPinWatchWrite pin value s) := by
  unfold execPinWatchWrite
  refine DoesO.next ?_
  refine Does.step (State.writePinWatch_does ..) (by decide) (by decide) ?_
  exact Does.refl ..

end Sys2Proof.Machine
end

