-- ==== Sys2Proof/Laws/DoesRailRows.lean ====
section
/-! SUPPORT. What each operation and meaning of Machine/RailRows.lean may touch. -/

namespace Sys2Proof.Machine

open Sys2Proof

set_option linter.unusedVariables false

theorem State.setMon_does (s : State) (r : ℕ) (mon : ℕ) (st : ℕ) (t : Stamp) :
    Does 0x1000 0x0 s (State.setMon s r mon st t) := by
  unfold State.setMon
  extract_lets +onlyGivenNames x0
  clear_value x0
  refine Does.step (State.setRail_does ..) (by decide) (by decide) ?_
  exact Does.refl ..

theorem State.restartMon_does (s : State) (r : ℕ) (mon : ℕ) :
    Does 0x1000 0x0 s (State.restartMon s r mon) := by
  unfold State.restartMon
  refine Does.step (State.setMon_does ..) (by decide) (by decide) ?_
  exact Does.refl ..

theorem execRailCrossing_does (rail : RailId) (mon : Fin 2) (st : Fin 3) (s : State) :
    DoesO 0x8000000009801008 0x8000000000000000000000000000000000000000000 s (execRailCrossing rail mon st s) := by
  unfold execRailCrossing
  extract_lets +onlyGivenNames x0
  clear_value x0
  extract_lets +onlyGivenNames x1
  clear_value x1
  refine DoesO.next ?_
  refine Does.ite (fun _ => ?_) (fun _ => ?_)
  · exact Does.refl ..
  · extract_lets +onlyGivenNames x2
    clear_value x2
    extract_lets +onlyGivenNames x3
    clear_value x3
    extract_lets +onlyGivenNames x4
    refine Does.via (x := x4) ?_ (fun _ => ?_)
    · subst x4
      refine Does.step (State.setMon_does ..) (by decide) (by decide) ?_
      exact Does.refl ..
    clear_value x4
    extract_lets +onlyGivenNames x5
    clear_value x5
    refine Does.ite (fun _ => ?_) (fun _ => ?_)
    · assumption
    · extract_lets +onlyGivenNames x6
      refine Does.via (x := x6) ?_ (fun _ => ?_)
      · subst x6
        refine Does.ite (fun _ => ?_) (fun _ => ?_)
        · refine Does.wr _ _ _ _ (by decide) ?_
          assumption
        · refine Does.wr _ _ _ _ (by decide) ?_
          assumption
      clear_value x6
      extract_lets +onlyGivenNames x7
      refine Does.via (x := x7) ?_ (fun _ => ?_)
      · subst x7
        refine Does.step (State.pulse_does ..) (by decide) (by decide) ?_
        assumption
      clear_value x7
      extract_lets +onlyGivenNames x8
      refine Does.via (x := x8) ?_ (fun _ => ?_)
      · subst x8
        refine Does.ite (fun _ => ?_) (fun _ => ?_)
        · refine Does.ite (fun _ => ?_) (fun _ => ?_)
          · refine Does.step (State.raise_does ..) (by decide) (by decide) ?_
            assumption
          · assumption
        · refine Does.ite (fun _ => ?_) (fun _ => ?_)
          · refine Does.step (State.raise_does ..) (by decide) (by decide) ?_
            assumption
          · assumption
      clear_value x8
      refine Does.ite (fun _ => ?_) (fun _ => ?_)
      · refine Does.step (State.askWake_does ..) (by decide) (by decide) ?_
        assumption
      · assumption

theorem execRegulationCheck_does (rail : RailId) (s : State) :
    DoesO 0x3000 0x4000000000000000000000000000000000000000000 s (execRegulationCheck rail s) := by
  unfold execRegulationCheck
  extract_lets +onlyGivenNames x0
  clear_value x0
  extract_lets +onlyGivenNames x1
  clear_value x1
  extract_lets +onlyGivenNames x2
  clear_value x2
  refine DoesO.next ?_
  refine Does.ite (fun _ => ?_) (fun _ => ?_)
  · exact Does.refl ..
  · extract_lets +onlyGivenNames x3
    clear_value x3
    extract_lets +onlyGivenNames x4
    clear_value x4
    refine Does.ite (fun _ => ?_) (fun _ => ?_)
    · exact Does.refl ..
    · extract_lets +onlyGivenNames x5
      refine Does.via (x := x5) ?_ (fun _ => ?_)
      · subst x5
        refine Does.wr _ _ _ _ (by decide) ?_
        refine Does.step (State.setRail_does ..) (by decide) (by decide) ?_
        exact Does.refl ..
      clear_value x5
      refine Does.step (State.releaseWait_does ..) (by decide) (by decide) ?_
      refine Does.step (State.qualify_does ..) (by decide) (by decide) ?_
      assumption

theorem execNoreg_does (rail : RailId) (s : State) :
    DoesO 0x9801008 0x8000000000000000000000000000000000000000000 s (execNoreg rail s) := by
  unfold execNoreg
  extract_lets +onlyGivenNames x0
  clear_value x0
  extract_lets +onlyGivenNames x1
  clear_value x1
  extract_lets +onlyGivenNames x2
  clear_value x2
  refine DoesO.next ?_
  refine Does.ite (fun _ => ?_) (fun _ => ?_)
  · exact Does.refl ..
  · extract_lets +onlyGivenNames x3
    refine Does.via (x := x3) ?_ (fun _ => ?_)
    · subst x3
      refine Does.wr _ _ _ _ (by decide) ?_
      refine Does.step (State.setRail_does ..) (by decide) (by decide) ?_
      exact Does.refl ..
    clear_value x3
    refine Does.ite (fun _ => ?_) (fun _ => ?_)
    · refine Does.step (State.raise_does ..) (by decide) (by decide) ?_
      assumption
    · assumption

theorem execRailLimit_does (rail : RailId) (s : State) :
    DoesO 0x1000 0xc000000000000000000000000000000000000000000 s (execRailLimit rail s) := by
  unfold execRailLimit
  extract_lets +onlyGivenNames x0
  clear_value x0
  extract_lets +onlyGivenNames x1
  clear_value x1
  refine DoesO.next ?_
  refine Does.ite (fun _ => ?_) (fun _ => ?_)
  · exact Does.refl ..
  · refine Does.wr _ _ _ _ (by decide) ?_
    refine Does.wr _ _ _ _ (by decide) ?_
    refine Does.step (State.setRail_does ..) (by decide) (by decide) ?_
    exact Does.refl ..

theorem execRailLimitExit_does (rail : RailId) (s : State) :
    DoesO 0x0 0x4000000000000000000000000000000000000000000 s (execRailLimitExit rail s) := by
  unfold execRailLimitExit
  extract_lets +onlyGivenNames x0
  clear_value x0
  refine DoesO.next ?_
  refine Does.ite (fun _ => ?_) (fun _ => ?_)
  · refine Does.wr _ _ _ _ (by decide) ?_
    exact Does.refl ..
  · exact Does.refl ..

theorem execRampDownEnd_does (rail : RailId) (s : State) :
    DoesO 0x3000 0x4000000000000000000000000000000000000000000 s (execRampDownEnd rail s) := by
  unfold execRampDownEnd
  extract_lets +onlyGivenNames x0
  clear_value x0
  extract_lets +onlyGivenNames x1
  clear_value x1
  refine DoesO.next ?_
  refine Does.ite (fun _ => ?_) (fun _ => ?_)
  · exact Does.refl ..
  · refine Does.step (State.releaseWait_does ..) (by decide) (by decide) ?_
    refine Does.wr _ _ _ _ (by decide) ?_
    refine Does.step (State.setRail_does ..) (by decide) (by decide) ?_
    exact Does.refl ..

theorem execRailSequenceDelay_does (rail : RailId) (s : State) :
    DoesO 0x3000 0x4000000000000000000000000000000000000000000 s (execRailSequenceDelay rail s) := by
  unfold execRailSequenceDelay
  extract_lets +onlyGivenNames x0
  clear_value x0
  refine DoesO.next ?_
  split
  · split
    · refine Does.ite (fun _ => ?_) (fun _ => ?_)
      · refine Does.step (State.ramp_does ..) (by decide) (by decide) ?_
        exact Does.refl ..
      · exact Does.refl ..
    · exact Does.refl ..
  · exact Does.refl ..

theorem State.railOn_does (s : State) (r : ℕ) :
    Does 0x3000 0xc010000000000020000000000000000000000000000 s (State.railOn s r) := by
  unfold State.railOn
  refine Does.ite (fun _ => ?_) (fun _ => ?_)
  · refine Does.wr _ _ _ _ (by decide) ?_
    exact Does.refl ..
  · refine Does.ite (fun _ => ?_) (fun _ => ?_)
    · refine Does.wr _ _ _ _ (by decide) ?_
      exact Does.refl ..
    · split
      · exact Does.refl ..
      · extract_lets +onlyGivenNames x0
        refine Does.via (x := x0) ?_ (fun _ => ?_)
        · subst x0
          refine Does.step (State.wakeRecovery_does ..) (by decide) (by decide) ?_
          refine Does.step (State.openWindow_does ..) (by decide) (by decide) ?_
          exact Does.refl ..
        clear_value x0
        refine Does.step (State.refreshArm_does ..) (by decide) (by decide) ?_
        refine Does.step (State.rampSite_does ..) (by decide) (by decide) ?_
        assumption

theorem State.railOff_does (s : State) (r : ℕ) :
    Does 0x3000 0xc000000000000000000000000000000000000000000 s (State.railOff s r) := by
  unfold State.railOff
  refine Does.ite (fun _ => ?_) (fun _ => ?_)
  · refine Does.wr _ _ _ _ (by decide) ?_
    exact Does.refl ..
  · split
    · exact Does.refl ..
    · refine Does.step (State.rampSite_does ..) (by decide) (by decide) ?_
      exact Does.refl ..

theorem execRailCtlOn_does (rail : RailId) (s : State) :
    DoesO 0x3000 0xc010000000000020000000000000000000000000000 s (execRailCtlOn rail s) := by
  unfold execRailCtlOn
  refine DoesO.next ?_
  refine Does.step (State.railOn_does ..) (by decide) (by decide) ?_
  exact Does.refl ..

theorem execRailCtlOff_does (rail : RailId) (s : State) :
    DoesO 0x3000 0xc000000000000000000000000000000000000000000 s (execRailCtlOff rail s) := by
  unfold execRailCtlOff
  refine DoesO.next ?_
  refine Does.step (State.railOff_does ..) (by decide) (by decide) ?_
  exact Does.refl ..

theorem State.writeRailCtl_does (s : State) (r : ℕ) (v : ℕ) :
    Does 0x3000 0xc010000000000020000000000000000000000000000 s (State.writeRailCtl s r v) := by
  unfold State.writeRailCtl
  refine Does.ite (fun _ => ?_) (fun _ => ?_)
  · refine Does.wr _ _ _ _ (by decide) ?_
    exact Does.refl ..
  · refine Does.ite (fun _ => ?_) (fun _ => ?_)
    · refine Does.step (State.railOn_does ..) (by decide) (by decide) ?_
      exact Does.refl ..
    · refine Does.ite (fun _ => ?_) (fun _ => ?_)
      · refine Does.step (State.railOff_does ..) (by decide) (by decide) ?_
        exact Does.refl ..
      · exact Does.refl ..

theorem State.writeRailSet_does (s : State) (r : ℕ) (v : ℕ) :
    Does 0x0 0x8200000000000000000000000000000000000000000 s (State.writeRailSet s r v) := by
  unfold State.writeRailSet
  refine Does.ite (fun _ => ?_) (fun _ => ?_)
  · refine Does.wr _ _ _ _ (by decide) ?_
    exact Does.refl ..
  · refine Does.wr _ _ _ _ (by decide) ?_
    refine Does.wr _ _ _ _ (by decide) ?_
    exact Does.refl ..

theorem State.writeRailCfg_does (s : State) (r : ℕ) (v : ℕ) :
    Does 0x1000 0x8100000000000000000000000000000000000000000 s (State.writeRailCfg s r v) := by
  unfold State.writeRailCfg
  refine Does.ite (fun _ => ?_) (fun _ => ?_)
  · refine Does.wr _ _ _ _ (by decide) ?_
    exact Does.refl ..
  · extract_lets +onlyGivenNames x0
    clear_value x0
    extract_lets +onlyGivenNames x1
    refine Does.via (x := x1) ?_ (fun _ => ?_)
    · subst x1
      refine Does.ite (fun _ => ?_) (fun _ => ?_)
      · exact Does.refl ..
      · refine Does.step (State.setRail_does ..) (by decide) (by decide) ?_
        exact Does.refl ..
    clear_value x1
    simp only [List.foldl_cons, List.foldl_nil]
    refine Does.wr _ _ _ _ (by decide) ?_
    refine Does.wr _ _ _ _ (by decide) ?_
    refine Does.wr _ _ _ _ (by decide) ?_
    refine Does.wr _ _ _ _ (by decide) ?_
    refine Does.wr _ _ _ _ (by decide) ?_
    assumption

theorem State.writeRailVwin_does (s : State) (r : ℕ) (v : ℕ) :
    Does 0x1000 0x800000000000000000000000000000000000000000 s (State.writeRailVwin s r v) := by
  unfold State.writeRailVwin
  extract_lets +onlyGivenNames x0
  refine Does.via (x := x0) ?_ (fun _ => ?_)
  · subst x0
    refine Does.wr _ _ _ _ (by decide) ?_
    refine Does.wr _ _ _ _ (by decide) ?_
    exact Does.refl ..
  clear_value x0
  refine Does.ite (fun _ => ?_) (fun _ => ?_)
  · assumption
  · refine Does.step (State.restartMon_does ..) (by decide) (by decide) ?_
    assumption

theorem State.writeRailIwin_does (s : State) (r : ℕ) (v : ℕ) :
    Does 0x1000 0x1000000000000000000000000000000000000000000 s (State.writeRailIwin s r v) := by
  unfold State.writeRailIwin
  extract_lets +onlyGivenNames x0
  refine Does.via (x := x0) ?_ (fun _ => ?_)
  · subst x0
    refine Does.wr _ _ _ _ (by decide) ?_
    refine Does.wr _ _ _ _ (by decide) ?_
    exact Does.refl ..
  clear_value x0
  refine Does.ite (fun _ => ?_) (fun _ => ?_)
  · assumption
  · refine Does.step (State.restartMon_does ..) (by decide) (by decide) ?_
    assumption

theorem State.writeRailMon_does (s : State) (r : ℕ) (v : ℕ) :
    Does 0x1000 0x2000000000000000000000000000000000000000000 s (State.writeRailMon s r v) := by
  unfold State.writeRailMon
  extract_lets +onlyGivenNames x0
  subst x0
  extract_lets +onlyGivenNames x1
  refine Does.via (x := x1) ?_ (fun _ => ?_)
  · subst x1
    beta_reduce
    simp only [List.foldl_cons, List.foldl_nil]
    refine Does.wr _ _ _ _ (by decide) ?_
    refine Does.wr _ _ _ _ (by decide) ?_
    refine Does.wr _ _ _ _ (by decide) ?_
    exact Does.refl ..
  clear_value x1
  extract_lets +onlyGivenNames x2
  refine Does.via (x := x2) ?_ (fun _ => ?_)
  · subst x2
    refine Does.ite (fun _ => ?_) (fun _ => ?_)
    · assumption
    · refine Does.step (State.restartMon_does ..) (by decide) (by decide) ?_
      assumption
  clear_value x2
  extract_lets +onlyGivenNames x3
  refine Does.via (x := x3) ?_ (fun _ => ?_)
  · subst x3
    beta_reduce
    simp only [List.foldl_cons, List.foldl_nil]
    refine Does.wr _ _ _ _ (by decide) ?_
    refine Does.wr _ _ _ _ (by decide) ?_
    refine Does.wr _ _ _ _ (by decide) ?_
    assumption
  clear_value x3
  extract_lets +onlyGivenNames x4
  refine Does.via (x := x4) ?_ (fun _ => ?_)
  · subst x4
    refine Does.ite (fun _ => ?_) (fun _ => ?_)
    · assumption
    · refine Does.step (State.restartMon_does ..) (by decide) (by decide) ?_
      assumption
  clear_value x4
  beta_reduce
  simp only [List.foldl_cons, List.foldl_nil]
  refine Does.wr _ _ _ _ (by decide) ?_
  refine Does.wr _ _ _ _ (by decide) ?_
  refine Does.wr _ _ _ _ (by decide) ?_
  refine Does.wr _ _ _ _ (by decide) ?_
  refine Does.wr _ _ _ _ (by decide) ?_
  refine Does.wr _ _ _ _ (by decide) ?_
  refine Does.wr _ _ _ _ (by decide) ?_
  refine Does.wr _ _ _ _ (by decide) ?_
  assumption

theorem execWindowClose_does (site : SiteId) (s : State) :
    DoesO 0x2000 0x10000000000000000000000000000000000000000 s (execWindowClose site s) := by
  unfold execWindowClose
  extract_lets +onlyGivenNames x0
  clear_value x0
  extract_lets +onlyGivenNames x1
  clear_value x1
  refine DoesO.next ?_
  refine Does.step (State.refreshArm_does ..) (by decide) (by decide) ?_
  refine Does.step (State.setSiteX_does ..) (by decide) (by decide) ?_
  exact Does.refl ..

theorem State.armReq_does (s : State) (n : ℕ) (on : Bool) :
    Does 0x2000 0x18000000000000000000000000000000000000000 s (State.armReq s n on) := by
  unfold State.armReq
  extract_lets +onlyGivenNames x0
  refine Does.via (x := x0) ?_ (fun _ => ?_)
  · subst x0
    refine Does.wr _ _ _ _ (by decide) ?_
    exact Does.refl ..
  clear_value x0
  extract_lets +onlyGivenNames x1
  clear_value x1
  extract_lets +onlyGivenNames x2
  refine Does.via (x := x2) ?_ (fun _ => ?_)
  · subst x2
    refine Does.ite (fun _ => ?_) (fun _ => ?_)
    · refine Does.ite (fun _ => ?_) (fun _ => ?_)
      · assumption
      · refine Does.step (State.openWindow_does ..) (by decide) (by decide) ?_
        assumption
    · refine Does.step (State.setSiteX_does ..) (by decide) (by decide) ?_
      assumption
  clear_value x2
  refine Does.step (State.refreshArm_does ..) (by decide) (by decide) ?_
  assumption

theorem execArmReq_does (site : SiteId) (on : Bool) (s : State) :
    DoesO 0x2000 0x18000000000000000000000000000000000000000 s (execArmReq site on s) := by
  unfold execArmReq
  refine DoesO.next ?_
  refine Does.step (State.armReq_does ..) (by decide) (by decide) ?_
  exact Does.refl ..

theorem execSiteTrip_does (site : SiteId) (s : State) :
    DoesO 0x19c03cf8 0x48100000a002000741200880c0743c0008000000000000000000000000000000000 s (execSiteTrip site s) := by
  unfold execSiteTrip
  extract_lets +onlyGivenNames x0
  clear_value x0
  extract_lets +onlyGivenNames x1
  clear_value x1
  refine DoesO.next ?_
  refine Does.ite (fun _ => ?_) (fun _ => ?_)
  · exact Does.refl ..
  · extract_lets +onlyGivenNames x2
    refine Does.via (x := x2) ?_ (fun _ => ?_)
    · subst x2
      refine Does.foldl (fun _ _ _ => ?_) ?_
      · refine Does.step (State.noteCause_does ..) (by decide) (by decide) ?_
        assumption
      · exact Does.refl ..
    clear_value x2
    refine Does.step (State.makeHusk_does ..) (by decide) (by decide) ?_
    assumption

theorem State.fence_does (s : State) (n : ℕ) :
    Does 0x19c03cf8 0x48000000a00200074120088040743c0008000000000000000000000000000000000 s (State.fence s n) := by
  unfold State.fence
  refine Does.ite (fun _ => ?_) (fun _ => ?_)
  · exact Does.refl ..
  · refine Does.step (State.makeHusk_does ..) (by decide) (by decide) ?_
    refine Does.wr _ _ _ _ (by decide) ?_
    exact Does.refl ..

theorem execFence_does (site : SiteId) (s : State) :
    DoesO 0x19c03cf8 0x48000000a00200074120088040743c0008000000000000000000000000000000000 s (execFence site s) := by
  unfold execFence
  refine DoesO.next ?_
  refine Does.step (State.fence_does ..) (by decide) (by decide) ?_
  exact Does.refl ..

theorem State.unfence_does (s : State) (n : ℕ) :
    Does 0x2020 0x400000004010000000000020000000000000000000000000000 s (State.unfence s n) := by
  unfold State.unfence
  refine Does.ite (fun _ => ?_) (fun _ => ?_)
  · refine Does.wr _ _ _ _ (by decide) ?_
    refine Does.ite (fun _ => ?_) (fun _ => ?_)
    · refine Does.wr _ _ _ _ (by decide) ?_
      exact Does.refl ..
    · exact Does.refl ..
  · extract_lets +onlyGivenNames x0
    refine Does.via (x := x0) ?_ (fun _ => ?_)
    · subst x0
      simp only [List.foldl_cons, List.foldl_nil]
      refine Does.wr _ _ _ _ (by decide) ?_
      refine Does.wr _ _ _ _ (by decide) ?_
      refine Does.wr _ _ _ _ (by decide) ?_
      refine Does.wr _ _ _ _ (by decide) ?_
      refine Does.wr _ _ _ _ (by decide) ?_
      refine Does.wr _ _ _ _ (by decide) ?_
      refine Does.wr _ _ _ _ (by decide) ?_
      exact Does.refl ..
    clear_value x0
    extract_lets +onlyGivenNames x1
    refine Does.via (x := x1) ?_ (fun _ => ?_)
    · subst x1
      refine Does.foldl (fun _ _ _ => ?_) ?_
      · refine Does.wr _ _ _ _ (by decide) ?_
        assumption
      · assumption
    clear_value x1
    extract_lets +onlyGivenNames x2
    refine Does.via (x := x2) ?_ (fun _ => ?_)
    · subst x2
      refine Does.step (State.setGstate_does ..) (by decide) (by decide) ?_
      assumption
    clear_value x2
    extract_lets +onlyGivenNames x3
    refine Does.via (x := x3) ?_ (fun _ => ?_)
    · subst x3
      refine Does.foldl (fun _ _ _ => ?_) ?_
      · refine Does.step (State.setPin_does ..) (by decide) (by decide) ?_
        assumption
      · assumption
    clear_value x3
    refine Does.step (State.refreshArm_does ..) (by decide) (by decide) ?_
    refine Does.step (State.openWindow_does ..) (by decide) (by decide) ?_
    assumption

theorem execUnfence_does (site : SiteId) (s : State) :
    DoesO 0x2020 0x400000004010000000000020000000000000000000000000000 s (execUnfence site s) := by
  unfold execUnfence
  refine DoesO.next ?_
  refine Does.step (State.unfence_does ..) (by decide) (by decide) ?_
  exact Does.refl ..

theorem State.writeFctl_does (s : State) (n : ℕ) (v : ℕ) :
    Does 0x19c03cf8 0x48000000a002000741200880407c3c0008000020000000000000000000000000000 s (State.writeFctl s n v) := by
  unfold State.writeFctl
  extract_lets +onlyGivenNames x0
  refine Does.via (x := x0) ?_ (fun _ => ?_)
  · subst x0
    refine Does.wr _ _ _ _ (by decide) ?_
    refine Does.wr _ _ _ _ (by decide) ?_
    refine Does.wr _ _ _ _ (by decide) ?_
    exact Does.refl ..
  clear_value x0
  extract_lets +onlyGivenNames x1
  refine Does.via (x := x1) ?_ (fun _ => ?_)
  · subst x1
    refine Does.step (State.armReq_does ..) (by decide) (by decide) ?_
    assumption
  clear_value x1
  extract_lets +onlyGivenNames x2
  refine Does.via (x := x2) ?_ (fun _ => ?_)
  · subst x2
    refine Does.ite (fun _ => ?_) (fun _ => ?_)
    · refine Does.step (State.fence_does ..) (by decide) (by decide) ?_
      assumption
    · assumption
  clear_value x2
  refine Does.ite (fun _ => ?_) (fun _ => ?_)
  · refine Does.step (State.unfence_does ..) (by decide) (by decide) ?_
    assumption
  · assumption

theorem execDieLinkFail_does (die : DieId) (s : State) :
    DoesO 0x400001bc03cf8 0x48000000a0020007412008a040743c0008000000000000000000000000000000004 s (execDieLinkFail die s) := by
  unfold execDieLinkFail
  extract_lets +onlyGivenNames x0
  clear_value x0
  refine DoesO.next ?_
  refine Does.ite (fun _ => ?_) (fun _ => ?_)
  · exact Does.refl ..
  · extract_lets +onlyGivenNames x1
    refine Does.via (x := x1) ?_ (fun _ => ?_)
    · subst x1
      refine Does.wr _ _ _ _ (by decide) ?_
      exact Does.refl ..
    clear_value x1
    extract_lets +onlyGivenNames x2
    refine Does.via (x := x2) ?_ (fun _ => ?_)
    · subst x2
      refine Does.step (State.detect_does ..) (by decide) (by decide) ?_
      assumption
    clear_value x2
    extract_lets +onlyGivenNames x3
    refine Does.via (x := x3) ?_ (fun _ => ?_)
    · subst x3
      refine Does.foldl (fun _ _ _ => ?_) ?_
      · refine Does.step (State.makeHusk_does ..) (by decide) (by decide) ?_
        refine Does.wr _ _ _ _ (by decide) ?_
        assumption
      · assumption
    clear_value x3
    refine Does.foldl (fun _ _ _ => ?_) ?_
    · refine Does.step (State.faultMute_does ..) (by decide) (by decide) ?_
      assumption
    · assumption

end Sys2Proof.Machine
end

