-- ==== Sys2Proof/Laws/DoesWaveRows.lean ====
section
/-! SUPPORT. What each operation and meaning of Machine/WaveRows.lean may touch. -/

namespace Sys2Proof.Machine

open Sys2Proof

set_option linter.unusedVariables false

theorem State.awgStart_does (s : State) (w : ℕ) :
    Does 0x800 0x8800000000000000020000000000000000000000000000 s (State.awgStart s w) := by
  unfold State.awgStart
  refine Does.ite (fun _ => ?_) (fun _ => ?_)
  · refine Does.wr _ _ _ _ (by decide) ?_
    exact Does.refl ..
  · refine Does.ite (fun _ => ?_) (fun _ => ?_)
    · refine Does.wr _ _ _ _ (by decide) ?_
      exact Does.refl ..
    · refine Does.ite (fun _ => ?_) (fun _ => ?_)
      · exact Does.refl ..
      · extract_lets +onlyGivenNames x0
        clear_value x0
        extract_lets +onlyGivenNames x1
        refine Does.via (x := x1) ?_ (fun _ => ?_)
        · subst x1
          refine Does.step (State.setWave_does ..) (by decide) (by decide) ?_
          exact Does.refl ..
        clear_value x1
        refine Does.wr _ _ _ _ (by decide) ?_
        assumption

theorem execAwgStart_does (w : WaveId) (s : State) :
    DoesO 0x800 0x8800000000000000020000000000000000000000000000 s (execAwgStart w s) := by
  unfold execAwgStart
  refine DoesO.next ?_
  refine Does.step (State.awgStart_does ..) (by decide) (by decide) ?_
  exact Does.refl ..

theorem State.awgStop_does (s : State) (w : ℕ) :
    Does 0x810 0x8800000000000000000000000000000000000000000000 s (State.awgStop s w) := by
  unfold State.awgStop
  refine Does.step (State.waveStop_does ..) (by decide) (by decide) ?_
  exact Does.refl ..

theorem execAwgStop_does (w : WaveId) (s : State) :
    DoesO 0x810 0x8800000000000000000000000000000000000000000000 s (execAwgStop w s) := by
  unfold execAwgStop
  refine DoesO.next ?_
  refine Does.step (State.awgStop_does ..) (by decide) (by decide) ?_
  exact Does.refl ..

theorem execArmFire_does (w : WaveId) (s : State) :
    DoesO 0x800000009800878 0x20000000000bc00000000000000000000000000000000000000000000 s (execArmFire w s) := by
  unfold execArmFire
  extract_lets +onlyGivenNames x0
  refine DoesO.via (x := x0) ?_ (fun _ => ?_)
  · subst x0
    refine Does.step (State.raiseMarks_does ..) (by decide) (by decide) ?_
    refine Does.step (State.awgDo_does ..) (by decide) (by decide) ?_
    exact Does.refl ..
  clear_value x0
  extract_lets +onlyGivenNames x1
  clear_value x1
  refine DoesO.next ?_
  split
  · refine Does.ite (fun _ => ?_) (fun _ => ?_)
    · refine Does.step (State.waveBegin_does ..) (by decide) (by decide) ?_
      assumption
    · assumption
  · assumption

theorem execPlayEnd_does (w : WaveId) (s : State) :
    DoesO 0x9800818 0x8800000000000000000000000000000000000000000000 s (execPlayEnd w s) := by
  unfold execPlayEnd
  extract_lets +onlyGivenNames x0
  clear_value x0
  refine DoesO.next ?_
  refine Does.ite (fun _ => ?_) (fun _ => ?_)
  · exact Does.refl ..
  · refine Does.step (State.waveEvent_does ..) (by decide) (by decide) ?_
    refine Does.wr _ _ _ _ (by decide) ?_
    refine Does.step (State.waveIdle_does ..) (by decide) (by decide) ?_
    exact Does.refl ..

theorem execWaveUnderrun_does (w : WaveId) (s : State) :
    DoesO 0x800000409800838 0x6000000000abc00000000000000000000000000000000000000000000 s (execWaveUnderrun w s) := by
  unfold execWaveUnderrun
  extract_lets +onlyGivenNames x0
  clear_value x0
  extract_lets +onlyGivenNames x1
  clear_value x1
  refine DoesO.next ?_
  refine Does.ite (fun _ => ?_) (fun _ => ?_)
  · exact Does.refl ..
  · split
    · exact Does.refl ..
    · extract_lets +onlyGivenNames x2
      clear_value x2
      extract_lets +onlyGivenNames x3
      clear_value x3
      extract_lets +onlyGivenNames x4
      refine Does.via (x := x4) ?_ (fun _ => ?_)
      · subst x4
        refine Does.step (State.urgent_does ..) (by decide) (by decide) ?_
        exact Does.refl ..
      clear_value x4
      extract_lets +onlyGivenNames x5
      refine Does.via (x := x5) ?_ (fun _ => ?_)
      · subst x5
        refine Does.step (State.pulse_does ..) (by decide) (by decide) ?_
        refine Does.bump _ _ _ _ (by decide) ?_
        refine Does.wr _ _ _ _ (by decide) ?_
        refine Does.wr _ _ _ _ (by decide) ?_
        assumption
      clear_value x5
      extract_lets +onlyGivenNames x6
      refine Does.via (x := x6) ?_ (fun _ => ?_)
      · subst x6
        refine Does.step (State.waveEvent_does ..) (by decide) (by decide) ?_
        assumption
      clear_value x6
      extract_lets +onlyGivenNames x7
      refine Does.via (x := x7) ?_ (fun _ => ?_)
      · subst x7
        refine Does.ite (fun _ => ?_) (fun _ => ?_)
        · refine Does.step (State.streamUr_does ..) (by decide) (by decide) ?_
          assumption
        · assumption
      clear_value x7
      refine Does.ite (fun _ => ?_) (fun _ => ?_)
      · refine Does.step (State.waveIdle_does ..) (by decide) (by decide) ?_
        refine Does.wr _ _ _ _ (by decide) ?_
        assumption
      · extract_lets +onlyGivenNames x8
        refine Does.via (x := x8) ?_ (fun _ => ?_)
        · subst x8
          refine Does.wr _ _ _ _ (by decide) ?_
          assumption
        clear_value x8
        extract_lets +onlyGivenNames x9
        clear_value x9
        extract_lets +onlyGivenNames x10
        refine Does.via (x := x10) ?_ (fun _ => ?_)
        · subst x10
          refine Does.step (State.setWave_does ..) (by decide) (by decide) ?_
          assumption
        clear_value x10
        refine Does.ite (fun _ => ?_) (fun _ => ?_)
        · extract_lets +onlyGivenNames x11
          refine Does.via (x := x11) ?_ (fun _ => ?_)
          · subst x11
            refine Does.step (State.playSample_does ..) (by decide) (by decide) ?_
            assumption
          clear_value x11
          refine Does.step (State.setWave_does ..) (by decide) (by decide) ?_
          assumption
        · refine Does.step (State.playSlot_does ..) (by decide) (by decide) ?_
          assumption

theorem State.spanWrite_does (s : State) (w : ℕ) (span : ℕ) :
    Does 0x800 0x200000000000000000000000000000000000000000000 s (State.spanWrite s w span) := by
  unfold State.spanWrite
  refine Does.ite (fun _ => ?_) (fun _ => ?_)
  · exact Does.refl ..
  · refine Does.step (State.setWave_does ..) (by decide) (by decide) ?_
    refine Does.wr _ _ _ _ (by decide) ?_
    exact Does.refl ..

theorem execSpanChange_does (w : WaveId) (span : Fin 8) (s : State) :
    DoesO 0x800 0x200000000000000000000000000000000000000000000 s (execSpanChange w span s) := by
  unfold execSpanChange
  refine DoesO.next ?_
  refine Does.step (State.spanWrite_does ..) (by decide) (by decide) ?_
  exact Does.refl ..

theorem execUnmute_does (w : WaveId) (s : State) :
    DoesO 0x800 0x800000000000000000000000000000000000000000000 s (execUnmute w s) := by
  unfold execUnmute
  extract_lets +onlyGivenNames x0
  clear_value x0
  refine DoesO.next ?_
  split
  · exact Does.refl ..
  · refine Does.ite (fun _ => ?_) (fun _ => ?_)
    · exact Does.refl ..
    · extract_lets +onlyGivenNames x1
      refine Does.via (x := x1) ?_ (fun _ => ?_)
      · subst x1
        refine Does.wr _ _ _ _ (by decide) ?_
        refine Does.step (State.setWave_does ..) (by decide) (by decide) ?_
        exact Does.refl ..
      clear_value x1
      refine Does.wr _ _ _ _ (by decide) ?_
      assumption

theorem State.muteWrite_does (s : State) (w : ℕ) (on : Bool) :
    Does 0x800 0xa00000000000000020000000000000000000000000000 s (State.muteWrite s w on) := by
  unfold State.muteWrite
  refine Does.ite (fun _ => ?_) (fun _ => ?_)
  · refine Does.wr _ _ _ _ (by decide) ?_
    exact Does.refl ..
  · extract_lets +onlyGivenNames x0
    clear_value x0
    extract_lets +onlyGivenNames x1
    refine Does.via (x := x1) ?_ (fun _ => ?_)
    · subst x1
      refine Does.wr _ _ _ _ (by decide) ?_
      exact Does.refl ..
    clear_value x1
    refine Does.ite (fun _ => ?_) (fun _ => ?_)
    · refine Does.step (State.setWave_does ..) (by decide) (by decide) ?_
      assumption
    · refine Does.wr _ _ _ _ (by decide) ?_
      refine Does.step (State.setWave_does ..) (by decide) (by decide) ?_
      assumption

theorem execMute_does (w : WaveId) (on : Bool) (s : State) :
    DoesO 0x800 0xa00000000000000020000000000000000000000000000 s (execMute w on s) := by
  unfold execMute
  refine DoesO.next ?_
  refine Does.step (State.muteWrite_does ..) (by decide) (by decide) ?_
  exact Does.refl ..

theorem execFaultMute_does (w : WaveId) (s : State) :
    DoesO 0x9800818 0x8a00000000000000000000000000000000000000000000 s (execFaultMute w s) := by
  unfold execFaultMute
  refine DoesO.next ?_
  refine Does.ite (fun _ => ?_) (fun _ => ?_)
  · exact Does.refl ..
  · refine Does.step (State.faultMute_does ..) (by decide) (by decide) ?_
    exact Does.refl ..

theorem State.awgCfgWrite_does (s : State) (w : ℕ) (v : ℕ) :
    Does 0x0 0x900000000000000000000000000000000000000000000 s (State.awgCfgWrite s w v) := by
  unfold State.awgCfgWrite
  refine Does.ite (fun _ => ?_) (fun _ => ?_)
  · refine Does.wr _ _ _ _ (by decide) ?_
    exact Does.refl ..
  · simp only [List.foldl_cons, List.foldl_nil]
    refine Does.wr _ _ _ _ (by decide) ?_
    refine Does.wr _ _ _ _ (by decide) ?_
    refine Does.wr _ _ _ _ (by decide) ?_
    exact Does.refl ..

theorem execAwgCfgWrite_does (w : WaveId) (value : BitVec 32) (s : State) :
    DoesO 0x0 0x900000000000000000000000000000000000000000000 s (execAwgCfgWrite w value s) := by
  unfold execAwgCfgWrite
  refine DoesO.next ?_
  refine Does.step (State.awgCfgWrite_does ..) (by decide) (by decide) ?_
  exact Does.refl ..

theorem State.writeAwgSpan_does (s : State) (w : ℕ) (v : ℕ) :
    Does 0x800 0xa00000000000000020000000000000000000000000000 s (State.writeAwgSpan s w v) := by
  unfold State.writeAwgSpan
  extract_lets +onlyGivenNames x0
  refine Does.via (x := x0) ?_ (fun _ => ?_)
  · subst x0
    refine Does.step (State.spanWrite_does ..) (by decide) (by decide) ?_
    exact Does.refl ..
  clear_value x0
  refine Does.step (State.muteWrite_does ..) (by decide) (by decide) ?_
  assumption

theorem State.writeAwgIdle_does (s : State) (w : ℕ) (v : ℕ) :
    Does 0x800 0x4000000000000000000000000000000000000000000000 s (State.writeAwgIdle s w v) := by
  unfold State.writeAwgIdle
  extract_lets +onlyGivenNames x0
  refine Does.via (x := x0) ?_ (fun _ => ?_)
  · subst x0
    refine Does.wr _ _ _ _ (by decide) ?_
    exact Does.refl ..
  clear_value x0
  refine Does.ite (fun _ => ?_) (fun _ => ?_)
  · assumption
  · refine Does.step (State.setWave_does ..) (by decide) (by decide) ?_
    assumption

theorem State.writeAwgCtl_does (s : State) (w : ℕ) (v : ℕ) :
    Does 0x810 0x8c00000000000000020000000000000000000000000000 s (State.writeAwgCtl s w v) := by
  unfold State.writeAwgCtl
  extract_lets +onlyGivenNames x0
  refine Does.via (x := x0) ?_ (fun _ => ?_)
  · subst x0
    simp only [List.foldl_cons, List.foldl_nil]
    refine Does.wr _ _ _ _ (by decide) ?_
    refine Does.wr _ _ _ _ (by decide) ?_
    refine Does.wr _ _ _ _ (by decide) ?_
    exact Does.refl ..
  clear_value x0
  extract_lets +onlyGivenNames x1
  refine Does.via (x := x1) ?_ (fun _ => ?_)
  · subst x1
    refine Does.ite (fun _ => ?_) (fun _ => ?_)
    · refine Does.step (State.awgStop_does ..) (by decide) (by decide) ?_
      assumption
    · assumption
  clear_value x1
  refine Does.ite (fun _ => ?_) (fun _ => ?_)
  · refine Does.step (State.awgStart_does ..) (by decide) (by decide) ?_
    assumption
  · assumption

end Sys2Proof.Machine
end

