-- ==== Sys2Proof/Laws/DoesPmuRows.lean ====
section
/-! SUPPORT. What each operation and meaning of Machine/PmuRows.lean may touch. -/

namespace Sys2Proof.Machine

open Sys2Proof

set_option linter.unusedVariables false

theorem execConnectEnd_does (pin : PinId) (s : State) :
    DoesO 0x20 0x0 s (execConnectEnd pin s) := by
  unfold execConnectEnd
  extract_lets +onlyGivenNames x0
  clear_value x0
  extract_lets +onlyGivenNames x1
  clear_value x1
  refine DoesO.next ?_
  refine Does.ite (fun _ => ?_) (fun _ => ?_)
  · exact Does.refl ..
  · refine Does.step (State.setPin_does ..) (by decide) (by decide) ?_
    exact Does.refl ..

theorem execSettleEnd_does (pin : PinId) (s : State) :
    DoesO 0x20 0x0 s (execSettleEnd pin s) := by
  unfold execSettleEnd
  extract_lets +onlyGivenNames x0
  clear_value x0
  extract_lets +onlyGivenNames x1
  clear_value x1
  refine DoesO.next ?_
  refine Does.ite (fun _ => ?_) (fun _ => ?_)
  · exact Does.refl ..
  · refine Does.step (State.setPin_does ..) (by decide) (by decide) ?_
    exact Does.refl ..

theorem execConversion_does (pin : PinId) (value : ℤ) (clamp : Bool) (ovr : Bool) (s : State) :
    DoesO 0x8000020 0x0 s (execConversion pin value clamp ovr s) := by
  unfold execConversion
  extract_lets +onlyGivenNames x0
  clear_value x0
  extract_lets +onlyGivenNames x1
  clear_value x1
  extract_lets +onlyGivenNames x2
  clear_value x2
  extract_lets +onlyGivenNames x3
  clear_value x3
  refine DoesO.next ?_
  split
  · exact Does.refl ..
  · extract_lets +onlyGivenNames x4
    clear_value x4
    refine Does.ite (fun _ => ?_) (fun _ => ?_)
    · exact Does.refl ..
    · extract_lets +onlyGivenNames x5
      clear_value x5
      extract_lets +onlyGivenNames x6
      clear_value x6
      extract_lets +onlyGivenNames x7
      clear_value x7
      extract_lets +onlyGivenNames x8
      clear_value x8
      extract_lets +onlyGivenNames x9
      clear_value x9
      extract_lets +onlyGivenNames x10
      clear_value x10
      extract_lets +onlyGivenNames x11
      clear_value x11
      extract_lets +onlyGivenNames x12
      clear_value x12
      extract_lets +onlyGivenNames x13
      clear_value x13
      extract_lets +onlyGivenNames x14
      clear_value x14
      extract_lets +onlyGivenNames x15
      clear_value x15
      extract_lets +onlyGivenNames x16
      clear_value x16
      refine Does.step (State.pulse_does ..) (by decide) (by decide) ?_
      refine Does.step (State.setPin_does ..) (by decide) (by decide) ?_
      exact Does.refl ..

theorem execTriggerTimeout_does (pin : PinId) (s : State) :
    DoesO 0x20 0x0 s (execTriggerTimeout pin s) := by
  unfold execTriggerTimeout
  extract_lets +onlyGivenNames x0
  clear_value x0
  extract_lets +onlyGivenNames x1
  clear_value x1
  extract_lets +onlyGivenNames x2
  clear_value x2
  extract_lets +onlyGivenNames x3
  clear_value x3
  refine DoesO.next ?_
  refine Does.ite (fun _ => ?_) (fun _ => ?_)
  · exact Does.refl ..
  · refine Does.step (State.setPin_does ..) (by decide) (by decide) ?_
    exact Does.refl ..

theorem execDisconnectEnd_does (pin : PinId) (s : State) :
    DoesO 0x180042c 0x18000000000000000000000000073c0000000000000000000000000000000000000 s (execDisconnectEnd pin s) := by
  unfold execDisconnectEnd
  extract_lets +onlyGivenNames x0
  clear_value x0
  extract_lets +onlyGivenNames x1
  clear_value x1
  extract_lets +onlyGivenNames x2
  clear_value x2
  refine DoesO.next ?_
  refine Does.ite (fun _ => ?_) (fun _ => ?_)
  · exact Does.refl ..
  · refine Does.ite (fun _ => ?_) (fun _ => ?_)
    · refine Does.step (State.pmuOpen_does ..) (by decide) (by decide) ?_
      refine Does.step (State.setPin_does ..) (by decide) (by decide) ?_
      exact Does.refl ..
    · extract_lets +onlyGivenNames x3
      refine Does.via (x := x3) ?_ (fun _ => ?_)
      · subst x3
        refine Does.ite (fun _ => ?_) (fun _ => ?_)
        · refine Does.wr _ _ _ _ (by decide) ?_
          refine Does.step (State.setPin_does ..) (by decide) (by decide) ?_
          exact Does.refl ..
        · refine Does.step (State.pmuOpen_does ..) (by decide) (by decide) ?_
          exact Does.refl ..
      clear_value x3
      refine Does.step (State.pmuPinEnded_does ..) (by decide) (by decide) ?_
      assumption

theorem State.pmuGo_does (s : State) (q : ℕ) :
    Does 0x80000000180042c 0x18100000000000000000000000073c0000000020000000000000000000000000000 s (State.pmuGo s q) := by
  unfold State.pmuGo
  refine Does.ite (fun _ => ?_) (fun _ => ?_)
  · refine Does.wr _ _ _ _ (by decide) ?_
    exact Does.refl ..
  · refine Does.ite (fun _ => ?_) (fun _ => ?_)
    · refine Does.wr _ _ _ _ (by decide) ?_
      exact Does.refl ..
    · extract_lets +onlyGivenNames x0
      clear_value x0
      refine Does.step (State.pmuRequest_does ..) (by decide) (by decide) ?_
      refine Does.upd_tok _ (by decide) ?_
      exact Does.refl ..

theorem execPinPmuGo_does (pin : PinId) (s : State) :
    DoesO 0x80000000180042c 0x18100000000000000000000000073c0000000020000000000000000000000000000 s (execPinPmuGo pin s) := by
  unfold execPinPmuGo
  refine DoesO.next ?_
  refine Does.step (State.pmuGo_does ..) (by decide) (by decide) ?_
  exact Does.refl ..

theorem State.pmuDisc_does (s : State) (q : ℕ) :
    Does 0x20 0x0 s (State.pmuDisc s q) := by
  unfold State.pmuDisc
  extract_lets +onlyGivenNames x0
  clear_value x0
  refine Does.ite (fun _ => ?_) (fun _ => ?_)
  · refine Does.step (State.setPin_does ..) (by decide) (by decide) ?_
    exact Does.refl ..
  · exact Does.refl ..

theorem execDisc_does (pin : PinId) (s : State) :
    DoesO 0x20 0x0 s (execDisc pin s) := by
  unfold execDisc
  refine DoesO.next ?_
  refine Does.step (State.pmuDisc_does ..) (by decide) (by decide) ?_
  exact Does.refl ..

theorem State.writePmuCtl_does (s : State) (q : ℕ) (v : ℕ) :
    Does 0x80000000180042c 0x1c100000000000000000000000073c0000000020000000000000000000000000000 s (State.writePmuCtl s q v) := by
  unfold State.writePmuCtl
  extract_lets +onlyGivenNames x0
  refine Does.via (x := x0) ?_ (fun _ => ?_)
  · subst x0
    refine Does.wr _ _ _ _ (by decide) ?_
    exact Does.refl ..
  clear_value x0
  extract_lets +onlyGivenNames x1
  refine Does.via (x := x1) ?_ (fun _ => ?_)
  · subst x1
    refine Does.ite (fun _ => ?_) (fun _ => ?_)
    · refine Does.step (State.pmuDisc_does ..) (by decide) (by decide) ?_
      assumption
    · assumption
  clear_value x1
  refine Does.ite (fun _ => ?_) (fun _ => ?_)
  · refine Does.step (State.pmuGo_does ..) (by decide) (by decide) ?_
    assumption
  · assumption

end Sys2Proof.Machine
end

