-- ==== Sys2Proof/Laws/DoesIuRows.lean ====
section
/-! SUPPORT. What each operation and meaning of Machine/IuRows.lean may touch. -/

namespace Sys2Proof.Machine

open Sys2Proof

set_option linter.unusedVariables false

theorem execUnitGrant_does (s : State) :
    DoesO 0x18000c8 0x400000000000000000000000000600000a000000000000000000000000000000000 s (execUnitGrant s) := by
  unfold execUnitGrant
  refine DoesO.next ?_
  split
  · refine Does.step (State.iuStart_does ..) (by decide) (by decide) ?_
    refine Does.upd_iuq _ (by decide) ?_
    exact Does.refl ..
  · exact Does.refl ..

theorem State.countAttempt_does (s : State) (u : ℕ) :
    Does 0x0 0x8000000000000000000000000000000000 s (State.countAttempt s u) := by
  unfold State.countAttempt
  refine Does.bump _ _ _ _ (by decide) ?_
  exact Does.refl ..

theorem execAttemptEnd_does (unit : UnitId) (s : State) :
    DoesO 0x8000040 0x8000000000000000000000000000000000 s (execAttemptEnd unit s) := by
  unfold execAttemptEnd
  extract_lets +onlyGivenNames x0
  clear_value x0
  extract_lets +onlyGivenNames x1
  clear_value x1
  refine DoesO.next ?_
  split
  · exact Does.refl ..
  · refine Does.ite (fun _ => ?_) (fun _ => ?_)
    · exact Does.refl ..
    · extract_lets +onlyGivenNames x2
      clear_value x2
      extract_lets +onlyGivenNames x3
      clear_value x3
      extract_lets +onlyGivenNames x4
      refine Does.via (x := x4) ?_ (fun _ => ?_)
      · subst x4
        refine Does.step (State.countAttempt_does ..) (by decide) (by decide) ?_
        refine Does.step (State.setIu_does ..) (by decide) (by decide) ?_
        exact Does.refl ..
      clear_value x4
      refine Does.ite (fun _ => ?_) (fun _ => ?_)
      · assumption
      · refine Does.step (State.pulse_does ..) (by decide) (by decide) ?_
        assumption

theorem execAttemptTimeout_does (unit : UnitId) (s : State) :
    DoesO 0x40 0x8000000000000000000000000000000000 s (execAttemptTimeout unit s) := by
  unfold execAttemptTimeout
  extract_lets +onlyGivenNames x0
  clear_value x0
  extract_lets +onlyGivenNames x1
  clear_value x1
  extract_lets +onlyGivenNames x2
  clear_value x2
  refine DoesO.next ?_
  refine Does.ite (fun _ => ?_) (fun _ => ?_)
  · exact Does.refl ..
  · extract_lets +onlyGivenNames x3
    clear_value x3
    refine Does.step (State.countAttempt_does ..) (by decide) (by decide) ?_
    refine Does.step (State.setIu_does ..) (by decide) (by decide) ?_
    exact Does.refl ..

theorem execIuResult_does (unit : UnitId) (s : State) :
    DoesO 0x1800048 0x400000000000000000000000000600000a000000000000000000000000000000000 s (execIuResult unit s) := by
  unfold execIuResult
  extract_lets +onlyGivenNames x0
  clear_value x0
  extract_lets +onlyGivenNames x1
  clear_value x1
  refine DoesO.next ?_
  refine Does.ite (fun _ => ?_) (fun _ => ?_)
  · exact Does.refl ..
  · extract_lets +onlyGivenNames x2
    clear_value x2
    extract_lets +onlyGivenNames x3
    refine Does.via (x := x3) ?_ (fun _ => ?_)
    · subst x3
      refine Does.step (State.markSources_does ..) (by decide) (by decide) ?_
      refine Does.step (State.setIu_does ..) (by decide) (by decide) ?_
      exact Does.refl ..
    clear_value x3
    refine Does.wr _ _ _ _ (by decide) ?_
    refine Does.step (State.iuWrite_does ..) (by decide) (by decide) ?_
    assumption

theorem State.iuGo_does (s : State) (u : ℕ) :
    Does 0x1800048 0x400000000000000000000000000600000a000020000000000000000000000000000 s (State.iuGo s u) := by
  unfold State.iuGo
  refine Does.ite (fun _ => ?_) (fun _ => ?_)
  · refine Does.wr _ _ _ _ (by decide) ?_
    exact Does.refl ..
  · refine Does.ite (fun _ => ?_) (fun _ => ?_)
    · refine Does.step (State.iuStart_does ..) (by decide) (by decide) ?_
      exact Does.refl ..
    · exact Does.refl ..

theorem execGo_does (unit : UnitId) (s : State) :
    DoesO 0x1800048 0x400000000000000000000000000600000a000020000000000000000000000000000 s (execGo unit s) := by
  unfold execGo
  refine DoesO.next ?_
  refine Does.step (State.iuGo_does ..) (by decide) (by decide) ?_
  exact Does.refl ..

theorem State.iuAbort_does (s : State) (u : ℕ) :
    Does 0x40 0x4000000000000000000000000000000008000000000000000000000000000000000 s (State.iuAbort s u) := by
  unfold State.iuAbort
  extract_lets +onlyGivenNames x0
  clear_value x0
  refine Does.ite (fun _ => ?_) (fun _ => ?_)
  · refine Does.step (State.iuDrop_does ..) (by decide) (by decide) ?_
    exact Does.refl ..
  · exact Does.refl ..

theorem execAbort_does (unit : UnitId) (s : State) :
    DoesO 0x40 0x4000000000000000000000000000000008000000000000000000000000000000000 s (execAbort unit s) := by
  unfold execAbort
  refine DoesO.next ?_
  refine Does.step (State.iuAbort_does ..) (by decide) (by decide) ?_
  exact Does.refl ..

theorem State.writeIuCtl_does (s : State) (u : ℕ) (v : ℕ) :
    Does 0x1800048 0x400000000000000000000000000600000e000020000000000000000000000000000 s (State.writeIuCtl s u v) := by
  unfold State.writeIuCtl
  extract_lets +onlyGivenNames x0
  refine Does.via (x := x0) ?_ (fun _ => ?_)
  · subst x0
    refine Does.wr _ _ _ _ (by decide) ?_
    exact Does.refl ..
  clear_value x0
  extract_lets +onlyGivenNames x1
  refine Does.via (x := x1) ?_ (fun _ => ?_)
  · subst x1
    refine Does.ite (fun _ => ?_) (fun _ => ?_)
    · assumption
    · refine Does.wr _ _ _ _ (by decide) ?_
      assumption
  clear_value x1
  extract_lets +onlyGivenNames x2
  refine Does.via (x := x2) ?_ (fun _ => ?_)
  · subst x2
    refine Does.ite (fun _ => ?_) (fun _ => ?_)
    · refine Does.step (State.iuAbort_does ..) (by decide) (by decide) ?_
      assumption
    · assumption
  clear_value x2
  refine Does.ite (fun _ => ?_) (fun _ => ?_)
  · refine Does.step (State.iuGo_does ..) (by decide) (by decide) ?_
    assumption
  · assumption

theorem State.calStart_does (s : State) (k : ℕ) :
    Does 0x4000 0x40000000000000000000000000000000000 s (State.calStart s k) := by
  unfold State.calStart
  refine Does.wr _ _ _ _ (by decide) ?_
  refine Does.step (State.setDie_does ..) (by decide) (by decide) ?_
  exact Does.refl ..

theorem State.calRun_does (s : State) (dies : ℕ) :
    Does 0x4000 0x40000000000000000000000000000000000 s (State.calRun s dies) := by
  unfold State.calRun
  refine Does.foldl (fun _ _ _ => ?_) ?_
  · refine Does.ite (fun _ => ?_) (fun _ => ?_)
    · assumption
    · refine Does.ite (fun _ => ?_) (fun _ => ?_)
      · refine Does.step (State.calStart_does ..) (by decide) (by decide) ?_
        assumption
      · refine Does.wr _ _ _ _ (by decide) ?_
        assumption
  · exact Does.refl ..

theorem execIuCalRun_does (dies : BitVec 4) (s : State) :
    DoesO 0x4000 0x40000000000000000000000000000000000 s (execIuCalRun dies s) := by
  unfold execIuCalRun
  refine DoesO.next ?_
  refine Does.step (State.calRun_does ..) (by decide) (by decide) ?_
  exact Does.refl ..

theorem execCalibration_does (die : DieId) (s : State) :
    DoesO 0x4000 0x40000000000000000000000000000000000 s (execCalibration die s) := by
  unfold execCalibration
  extract_lets +onlyGivenNames x0
  clear_value x0
  extract_lets +onlyGivenNames x1
  clear_value x1
  refine DoesO.next ?_
  refine Does.ite (fun _ => ?_) (fun _ => ?_)
  · exact Does.refl ..
  · refine Does.ite (fun _ => ?_) (fun _ => ?_)
    · refine Does.step (State.calStart_does ..) (by decide) (by decide) ?_
      exact Does.refl ..
    · refine Does.wr _ _ _ _ (by decide) ?_
      exact Does.refl ..

theorem State.calPin_does (s : State) (q : ℕ) (resid : ℕ) (full : Bool) :
    Does 0x0 0x2000000000000000000000000000000040000000000000000000000000000000000 s (State.calPin s q resid full) := by
  unfold State.calPin
  extract_lets +onlyGivenNames x0
  refine Does.via (x := x0) ?_ (fun _ => ?_)
  · subst x0
    refine Does.wr _ _ _ _ (by decide) ?_
    exact Does.refl ..
  clear_value x0
  refine Does.ite (fun _ => ?_) (fun _ => ?_)
  · refine Does.wr _ _ _ _ (by decide) ?_
    assumption
  · refine Does.wr _ _ _ _ (by decide) ?_
    refine Does.wr _ _ _ _ (by decide) ?_
    assumption

theorem execCalibrationEnd_does (die : DieId) (resid : List (ℕ × Bool)) (s : State) :
    DoesO 0x4000002004040 0x2000000000000000000000000000000040000000000000000000000000000000000 s (execCalibrationEnd die resid s) := by
  unfold execCalibrationEnd
  extract_lets +onlyGivenNames x0
  clear_value x0
  extract_lets +onlyGivenNames x1
  clear_value x1
  refine DoesO.next ?_
  split
  · exact Does.refl ..
  · refine Does.ite (fun _ => ?_) (fun _ => ?_)
    · exact Does.refl ..
    · extract_lets +onlyGivenNames x2
      refine Does.via (x := x2) ?_ (fun _ => ?_)
      · subst x2
        refine Does.step (State.setDie_does ..) (by decide) (by decide) ?_
        exact Does.refl ..
      clear_value x2
      extract_lets +onlyGivenNames x3
      refine Does.via (x := x3) ?_ (fun _ => ?_)
      · subst x3
        refine Does.wr _ _ _ _ (by decide) ?_
        refine Does.wr _ _ _ _ (by decide) ?_
        assumption
      clear_value x3
      extract_lets +onlyGivenNames x4
      refine Does.via (x := x4) ?_ (fun _ => ?_)
      · subst x4
        refine Does.foldl (fun _ _ _ => ?_) ?_
        · extract_lets +onlyGivenNames x5
          clear_value x5
          refine Does.step (State.calPin_does ..) (by decide) (by decide) ?_
          assumption
        · assumption
      clear_value x4
      extract_lets +onlyGivenNames x6
      clear_value x6
      extract_lets +onlyGivenNames x7
      refine Does.via (x := x7) ?_ (fun _ => ?_)
      · subst x7
        refine Does.wr _ _ _ _ (by decide) ?_
        assumption
      clear_value x7
      extract_lets +onlyGivenNames x8
      clear_value x8
      extract_lets +onlyGivenNames x9
      refine Does.via (x := x9) ?_ (fun _ => ?_)
      · subst x9
        refine Does.ite (fun _ => ?_) (fun _ => ?_)
        · refine Does.step (State.detect_does ..) (by decide) (by decide) ?_
          assumption
        · assumption
      clear_value x9
      refine Does.upd_ius _ (by decide) ?_
      assumption

theorem execRecalibration_does (die : DieId) (s : State) :
    DoesO 0x4000 0x20000000000000000000000000000000000000000000000000000000000 s (execRecalibration die s) := by
  unfold execRecalibration
  extract_lets +onlyGivenNames x0
  clear_value x0
  extract_lets +onlyGivenNames x1
  clear_value x1
  extract_lets +onlyGivenNames x2
  clear_value x2
  extract_lets +onlyGivenNames x3
  clear_value x3
  extract_lets +onlyGivenNames x4
  clear_value x4
  extract_lets +onlyGivenNames x5
  clear_value x5
  refine DoesO.next ?_
  refine Does.ite (fun _ => ?_) (fun _ => ?_)
  · exact Does.refl ..
  · refine Does.ite (fun _ => ?_) (fun _ => ?_)
    · refine Does.wrAll _ _ _ (by decide) ?_
      exact Does.refl ..
    · refine Does.wrAll _ _ _ (by decide) ?_
      refine Does.step (State.setDie_does ..) (by decide) (by decide) ?_
      exact Does.refl ..

theorem State.eyeRun_does (s : State) (pod : ℕ) :
    Does 0x10 0x10000020000000000000000000000000000020000000000000000000000000000 s (State.eyeRun s pod) := by
  unfold State.eyeRun
  refine Does.ite (fun _ => ?_) (fun _ => ?_)
  · refine Does.wr _ _ _ _ (by decide) ?_
    exact Does.refl ..
  · refine Does.ite (fun _ => ?_) (fun _ => ?_)
    · refine Does.wr _ _ _ _ (by decide) ?_
      exact Does.refl ..
    · refine Does.ite (fun _ => ?_) (fun _ => ?_)
      · exact Does.refl ..
      · extract_lets +onlyGivenNames x0
        clear_value x0
        refine Does.wr _ _ _ _ (by decide) ?_
        refine Does.step (State.setPod_does ..) (by decide) (by decide) ?_
        exact Does.refl ..

theorem execEyeRun_does (pod : PodId) (s : State) :
    DoesO 0x10 0x10000020000000000000000000000000000020000000000000000000000000000 s (execEyeRun pod s) := by
  unfold execEyeRun
  refine DoesO.next ?_
  refine Does.step (State.eyeRun_does ..) (by decide) (by decide) ?_
  exact Does.refl ..

theorem execEyeDone_does (pod : PodId) (widths : List ℕ) (s : State) :
    DoesO 0x10 0xa0000000000000000000000000000000000000000000000000000000000 s (execEyeDone pod widths s) := by
  unfold execEyeDone
  extract_lets +onlyGivenNames x0
  clear_value x0
  extract_lets +onlyGivenNames x1
  clear_value x1
  refine DoesO.next ?_
  split
  · exact Does.refl ..
  · refine Does.ite (fun _ => ?_) (fun _ => ?_)
    · exact Does.refl ..
    · extract_lets +onlyGivenNames x2
      refine Does.via (x := x2) ?_ (fun _ => ?_)
      · subst x2
        refine Does.wr _ _ _ _ (by decide) ?_
        refine Does.step (State.setPod_does ..) (by decide) (by decide) ?_
        exact Does.refl ..
      clear_value x2
      refine Does.foldl (fun _ _ _ => ?_) ?_
      · extract_lets +onlyGivenNames x3
        clear_value x3
        extract_lets +onlyGivenNames x4
        clear_value x4
        extract_lets +onlyGivenNames x5
        refine Does.via (x := x5) ?_ (fun _ => ?_)
        · subst x5
          refine Does.wr _ _ _ _ (by decide) ?_
          assumption
        clear_value x5
        refine Does.ite (fun _ => ?_) (fun _ => ?_)
        · refine Does.wr _ _ _ _ (by decide) ?_
          assumption
        · assumption
      · assumption

theorem State.writeTimCtl_does (s : State) (pod : ℕ) (v : ℕ) :
    Does 0x10 0x10000030000000000000000000000000000020000000000000000000000000000 s (State.writeTimCtl s pod v) := by
  unfold State.writeTimCtl
  extract_lets +onlyGivenNames x0
  refine Does.via (x := x0) ?_ (fun _ => ?_)
  · subst x0
    refine Does.wr _ _ _ _ (by decide) ?_
    refine Does.wr _ _ _ _ (by decide) ?_
    exact Does.refl ..
  clear_value x0
  refine Does.ite (fun _ => ?_) (fun _ => ?_)
  · refine Does.step (State.eyeRun_does ..) (by decide) (by decide) ?_
    assumption
  · assumption

theorem State.writeIuCal_does (s : State) (v : ℕ) :
    Does 0x4000 0x60000000000000000000000000000000000 s (State.writeIuCal s v) := by
  unfold State.writeIuCal
  refine Does.step (State.calRun_does ..) (by decide) (by decide) ?_
  refine Does.wr _ _ _ _ (by decide) ?_
  refine Does.wr _ _ _ _ (by decide) ?_
  exact Does.refl ..

end Sys2Proof.Machine
end

