-- ==== Sys2Proof/Laws/DoesCaptureRows.lean ====
section
/-! SUPPORT. What each operation and meaning of Machine/CaptureRows.lean may touch. -/

namespace Sys2Proof.Machine

open Sys2Proof

set_option linter.unusedVariables false

theorem State.ringWrite_does (s : State) (pod : ℕ) (off : ℕ) (a3 : List ℕ) :
    Does 0x40000 0x0 s (State.ringWrite s pod off a3) := by
  induction' a3 with b t ih generalizing s pod off
  · unfold State.ringWrite
    exact Does.refl ..
  · unfold State.ringWrite
    extract_lets +onlyGivenNames x0
    clear_value x0
    refine Does.step (ih ..) (Sub.refl _) (Sub.refl _) ?_
    refine Does.upd_capMem _ ?_ (by decide) ?_
    · exact fun h => Memory.write_wf h _ _
    · exact Does.refl ..

theorem State.rearmCapture_does (s : State) (pod : ℕ) :
    Does 0x10 0x0 s (State.rearmCapture s pod) := by
  unfold State.rearmCapture
  refine Does.ite (fun _ => ?_) (fun _ => ?_)
  · exact Does.refl ..
  · refine Does.step (State.setPod_does ..) (by decide) (by decide) ?_
    exact Does.refl ..

theorem State.putRecord_does (s : State) (pod : ℕ) (words : List ℕ) :
    Does 0x40000 0x20000000000000000000000000000000000000000000000000000000000000 s (State.putRecord s pod words) := by
  unfold State.putRecord
  extract_lets +onlyGivenNames x0
  clear_value x0
  extract_lets +onlyGivenNames x1
  clear_value x1
  extract_lets +onlyGivenNames x2
  refine Does.via (x := x2) ?_ (fun _ => ?_)
  · subst x2
    refine Does.step (State.ringWrite_does ..) (by decide) (by decide) ?_
    exact Does.refl ..
  clear_value x2
  extract_lets +onlyGivenNames x3
  clear_value x3
  refine Does.wr _ _ _ _ (by decide) ?_
  refine Does.wr _ _ _ _ (by decide) ?_
  assumption

theorem State.setRef_does (s : State) (pod : ℕ) (t : Stamp) (ep : ℕ) (jp : ℕ) :
    Does 0x10 0x0 s (State.setRef s pod t ep jp) := by
  unfold State.setRef
  refine Does.step (State.setPod_does ..) (by decide) (by decide) ?_
  exact Does.refl ..

theorem State.popRec_does (s : State) (pod : ℕ) :
    Does 0x10 0x0 s (State.popRec s pod) := by
  unfold State.popRec
  extract_lets +onlyGivenNames x0
  clear_value x0
  split
  · refine Does.step (State.setPod_does ..) (by decide) (by decide) ?_
    exact Does.refl ..
  · refine Does.step (State.setPod_does ..) (by decide) (by decide) ?_
    exact Does.refl ..
  · refine Does.step (State.setPod_does ..) (by decide) (by decide) ?_
    exact Does.refl ..
  · exact Does.refl ..

theorem State.loseFull_doesF3 {F R : Nat} {s0 s : State} {pod pin : Nat} {stamp : Stamp} {flag : Fld}
    (hF : Sub 0x8000018 F) (hR : Sub 0x400000000000000000000000000000000000000000000000000000000000000 R) (hb : Has R flag.reg.ctorIdx) (h : Does F R s0 s) :
    Does F R s0 (s.loseFull pod pin stamp flag) := by
  have h1 : Does F R s0 (s.lose pod 5 pin stamp flag) :=
    State.lose_doesF3 (Sub.trans (by decide) hF) (Sub.trans (by decide) hR) hb h
  exact Does.ite (fun _ => Does.step (State.setPod_does ..) (Sub.trans (by decide) hF) (Sub.zero R) h1) (fun _ => h1)

theorem execRecordWrite_does (pod : PodId) (s : State) :
    DoesO 0x8040018 0x4a0000000000000000000000000000000000000000000000000000000000000 s (execRecordWrite pod s) := by
  unfold execRecordWrite
  extract_lets +onlyGivenNames x0
  clear_value x0
  refine DoesO.next ?_
  split
  · refine Does.ite (fun _ => ?_) (fun _ => ?_)
    · refine Does.ite (fun _ => ?_) (fun _ => ?_)
      · exact Does.refl ..
      · extract_lets +onlyGivenNames x1
        refine Does.via (x := x1) ?_ (fun _ => ?_)
        · subst x1
          refine Does.ite (fun _ => ?_) (fun _ => ?_)
          · exact Does.refl ..
          · refine Does.step (State.popRec_does ..) (by decide) (by decide) ?_
            exact Does.refl ..
        clear_value x1
        extract_lets +onlyGivenNames x2
        refine Does.via (x := x2) ?_ (fun _ => ?_)
        · subst x2
          refine Does.step (State.putRecord_does ..) (by decide) (by decide) ?_
          assumption
        clear_value x2
        split
        · refine Does.step (State.setRef_does ..) (by decide) (by decide) ?_
          assumption
        · refine Does.step (State.setRef_does ..) (by decide) (by decide) ?_
          assumption
        · assumption
    · extract_lets +onlyGivenNames x3
      refine Does.via (x := x3) ?_ (fun _ => ?_)
      · subst x3
        refine Does.step (State.popRec_does ..) (by decide) (by decide) ?_
        exact Does.refl ..
      clear_value x3
      split
      · extract_lets +onlyGivenNames x4
        refine Does.via (x := x4) ?_ (fun _ => ?_)
        · subst x4
          refine Does.ite (fun _ => ?_) (fun _ => ?_)
          · refine State.loseFull_doesF3 (by decide) (by decide) (by decide) ?_
            assumption
          · assumption
        clear_value x4
        refine State.loseFull_doesF3 (by decide) (by decide) (by decide) ?_
        assumption
      · refine State.loseFull_doesF3 (by decide) (by decide) (by decide) ?_
        assumption
      · assumption
  · exact Does.refl ..

theorem execLossRecord_does (pod : PodId) (s : State) :
    DoesO 0x40010 0x20000000000000000000000000000000000000000000000000000000000000 s (execLossRecord pod s) := by
  unfold execLossRecord
  extract_lets +onlyGivenNames x0
  clear_value x0
  extract_lets +onlyGivenNames x1
  clear_value x1
  refine DoesO.next ?_
  split
  · exact Does.refl ..
  · extract_lets +onlyGivenNames x2
    clear_value x2
    refine Does.ite (fun _ => ?_) (fun _ => ?_)
    · refine Does.step (State.setPod_does ..) (by decide) (by decide) ?_
      exact Does.refl ..
    · refine Does.ite (fun _ => ?_) (fun _ => ?_)
      · exact Does.refl ..
      · refine Does.step (State.putRecord_does ..) (by decide) (by decide) ?_
        refine Does.step (State.setPod_does ..) (by decide) (by decide) ?_
        exact Does.refl ..

theorem State.thrWrite_does (s : State) (p : ℕ) (v : ℕ) :
    Does 0x10 0x1000000000000000000000000000000000000000000000000000000000000000 s (State.thrWrite s p v) := by
  unfold State.thrWrite
  extract_lets +onlyGivenNames x0
  refine Does.via (x := x0) ?_ (fun _ => ?_)
  · subst x0
    refine Does.wr _ _ _ _ (by decide) ?_
    exact Does.refl ..
  clear_value x0
  refine Does.step (State.setPod_does ..) (by decide) (by decide) ?_
  assumption

theorem execCaptureThreshold_does (pod : PodId) (s : State) :
    DoesO 0x1800010 0x0 s (execCaptureThreshold pod s) := by
  unfold execCaptureThreshold
  extract_lets +onlyGivenNames x0
  clear_value x0
  refine DoesO.next ?_
  refine Does.ite (fun _ => ?_) (fun _ => ?_)
  · exact Does.refl ..
  · refine Does.step (State.record_does ..) (by decide) (by decide) ?_
    refine Does.step (State.setPod_does ..) (by decide) (by decide) ?_
    exact Does.refl ..

theorem State.emptyRing_does (s : State) (p : ℕ) :
    Does 0x0 0x60000000000000000000000000000000000000000000000000000000000000 s (State.emptyRing s p) := by
  unfold State.emptyRing
  refine Does.wr _ _ _ _ (by decide) ?_
  refine Does.wr _ _ _ _ (by decide) ?_
  refine Does.wr _ _ _ _ (by decide) ?_
  refine Does.wr _ _ _ _ (by decide) ?_
  exact Does.refl ..

theorem State.mapCheck_does (s : State) (p : ℕ) :
    Does 0x0 0x80000000000000000000000000000000000000000000000000000000000000 s (State.mapCheck s p) := by
  unfold State.mapCheck
  extract_lets +onlyGivenNames x0
  clear_value x0
  refine Does.ite (fun _ => ?_) (fun _ => ?_)
  · refine Does.wr _ _ _ _ (by decide) ?_
    exact Does.refl ..
  · exact Does.refl ..

theorem State.apply_does (s : State) :
    Does 0x40010 0xe4000000000080000000000000000000000000000000000000000000000000 s (State.apply s) := by
  unfold State.apply
  refine Does.ite (fun _ => ?_) (fun _ => ?_)
  · refine Does.foldl (fun _ _ _ => ?_) ?_
    · refine Does.step (State.mapCheck_does ..) (by decide) (by decide) ?_
      refine Does.step (State.rearmCapture_does ..) (by decide) (by decide) ?_
      refine Does.step (State.emptyRing_does ..) (by decide) (by decide) ?_
      refine Does.wr _ _ _ _ (by decide) ?_
      refine Does.wr _ _ _ _ (by decide) ?_
      assumption
    · refine Does.upd_capMem _ ?_ (by decide) ?_
      · exact fun _ => rfl
      · exact Does.refl ..
  · refine Does.wr _ _ _ _ (by decide) ?_
    exact Does.refl ..

theorem execApply_does (s : State) :
    DoesO 0x40010 0xe4000000000080000000000000000000000000000000000000000000000000 s (execApply s) := by
  unfold execApply
  refine DoesO.next ?_
  refine Does.step (State.apply_does ..) (by decide) (by decide) ?_
  exact Does.refl ..

theorem State.capRdWrite_does (s : State) (p : ℕ) (v : ℕ) :
    Does 0x10 0xc0000000000000000000000000000000000000000000000000000000000000 s (State.capRdWrite s p v) := by
  unfold State.capRdWrite
  extract_lets +onlyGivenNames x0
  clear_value x0
  extract_lets +onlyGivenNames x1
  clear_value x1
  extract_lets +onlyGivenNames x2
  clear_value x2
  extract_lets +onlyGivenNames x3
  clear_value x3
  extract_lets +onlyGivenNames x4
  clear_value x4
  refine Does.ite (fun _ => ?_) (fun _ => ?_)
  · refine Does.wr _ _ _ _ (by decide) ?_
    exact Does.refl ..
  · refine Does.step (State.rearmCapture_does ..) (by decide) (by decide) ?_
    refine Does.wr _ _ _ _ (by decide) ?_
    refine Does.wr _ _ _ _ (by decide) ?_
    exact Does.refl ..

theorem execCapRdWrite_does (pod : PodId) (value : BitVec 32) (s : State) :
    DoesO 0x10 0xc0000000000000000000000000000000000000000000000000000000000000 s (execCapRdWrite pod value s) := by
  unfold execCapRdWrite
  refine DoesO.next ?_
  refine Does.step (State.capRdWrite_does ..) (by decide) (by decide) ?_
  exact Does.refl ..

theorem State.capCfgWrite_does (s : State) (p : ℕ) (reg : ℕ) (v : ℕ) :
    Does 0x10 0x1f2000000000000000000000000000000000000000000000000000000000000 s (State.capCfgWrite s p reg v) := by
  unfold State.capCfgWrite
  extract_lets +onlyGivenNames x0
  clear_value x0
  extract_lets +onlyGivenNames x1
  clear_value x1
  refine Does.ite (fun _ => ?_) (fun _ => ?_)
  · refine Does.wr _ _ _ _ (by decide) ?_
    exact Does.refl ..
  · refine Does.ite (fun _ => ?_) (fun _ => ?_)
    · refine Does.wr _ _ _ _ (by decide) ?_
      exact Does.refl ..
    · refine Does.ite (fun _ => ?_) (fun _ => ?_)
      · refine Does.wr _ _ _ _ (by decide) ?_
        exact Does.refl ..
      · extract_lets +onlyGivenNames x2
        refine Does.via (x := x2) ?_ (fun _ => ?_)
        · subst x2
          simp only [List.foldl_cons, List.foldl_nil]
          refine Does.wr _ _ _ _ (by decide) ?_
          refine Does.wr _ _ _ _ (by decide) ?_
          refine Does.wr _ _ _ _ (by decide) ?_
          refine Does.wr _ _ _ _ (by decide) ?_
          exact Does.refl ..
        clear_value x2
        extract_lets +onlyGivenNames x3
        refine Does.via (x := x3) ?_ (fun _ => ?_)
        · subst x3
          refine Does.step (State.mapCheck_does ..) (by decide) (by decide) ?_
          assumption
        clear_value x3
        refine Does.ite (fun _ => ?_) (fun _ => ?_)
        · refine Does.step (State.rearmCapture_does ..) (by decide) (by decide) ?_
          refine Does.step (State.emptyRing_does ..) (by decide) (by decide) ?_
          assumption
        · assumption

theorem execCapCfgWrite_does (pod : PodId) (reg : Fin 3) (value : BitVec 32) (s : State) :
    DoesO 0x10 0x1f2000000000000000000000000000000000000000000000000000000000000 s (execCapCfgWrite pod reg value s) := by
  unfold execCapCfgWrite
  refine DoesO.next ?_
  refine Does.step (State.capCfgWrite_does ..) (by decide) (by decide) ?_
  exact Does.refl ..

theorem State.setLedgRd_does (s : State) (wrap : ℕ) (index : ℕ) :
    Does 0x20000000 0x1000000000000000000000000000000000000000000000000 s (State.setLedgRd s wrap index) := by
  unfold State.setLedgRd
  extract_lets +onlyGivenNames x0
  refine Does.via (x := x0) ?_ (fun _ => ?_)
  · subst x0
    refine Does.wr _ _ _ _ (by decide) ?_
    refine Does.wr _ _ _ _ (by decide) ?_
    exact Does.refl ..
  clear_value x0
  refine Does.ite (fun _ => ?_) (fun _ => ?_)
  · assumption
  · refine Does.upd_ledgAbove _ (by decide) ?_
    assumption

theorem State.ledgCfgWrite_does (s : State) (v : ℕ) :
    Does 0x20000000 0x400000000000000000000000000000000000000000000000 s (State.ledgCfgWrite s v) := by
  unfold State.ledgCfgWrite
  extract_lets +onlyGivenNames x0
  refine Does.via (x := x0) ?_ (fun _ => ?_)
  · subst x0
    refine Does.wr _ _ _ _ (by decide) ?_
    refine Does.wr _ _ _ _ (by decide) ?_
    refine Does.wr _ _ _ _ (by decide) ?_
    exact Does.refl ..
  clear_value x0
  refine Does.upd_ledgAbove _ (by decide) ?_
  assumption

theorem State.ledgRdWrite_does (s : State) (v : ℕ) :
    Does 0x20000000 0x3000000000000000000000000000000000000000000000000 s (State.ledgRdWrite s v) := by
  unfold State.ledgRdWrite
  extract_lets +onlyGivenNames x0
  clear_value x0
  extract_lets +onlyGivenNames x1
  clear_value x1
  refine Does.ite (fun _ => ?_) (fun _ => ?_)
  · refine Does.wr _ _ _ _ (by decide) ?_
    exact Does.refl ..
  · refine Does.step (State.setLedgRd_does ..) (by decide) (by decide) ?_
    exact Does.refl ..

theorem execLedgRdWrite_does (value : BitVec 32) (s : State) :
    DoesO 0x20000000 0x3000000000000000000000000000000000000000000000000 s (execLedgRdWrite value s) := by
  unfold execLedgRdWrite
  refine DoesO.next ?_
  refine Does.step (State.ledgRdWrite_does ..) (by decide) (by decide) ?_
  exact Does.refl ..

theorem execLedgerThreshold_does (s : State) :
    DoesO 0x21800000 0x0 s (execLedgerThreshold s) := by
  unfold execLedgerThreshold
  refine DoesO.next ?_
  refine Does.ite (fun _ => ?_) (fun _ => ?_)
  · exact Does.refl ..
  · refine Does.step (State.record_does ..) (by decide) (by decide) ?_
    refine Does.upd_ledgAbove _ (by decide) ?_
    exact Does.refl ..

end Sys2Proof.Machine
end

