-- ==== Sys2Proof/Laws/DoesFabOps.lean ====
section
/-! SUPPORT. What each operation and meaning of Machine/FabOps.lean may touch. -/

namespace Sys2Proof.Machine

open Sys2Proof

set_option linter.unusedVariables false

theorem State.setPort_does (s : State) (p : ℕ) (x : PortX) :
    Does 0x80000000000 0x0 s (State.setPort s p x) := by
  unfold State.setPort
  refine Does.upd_ports _ (by decide) ?_
  exact Does.refl ..

theorem State.portEvent_does (s : State) (p : ℕ) (k : ℕ) (info : ℕ) :
    Does 0x9800008 0x0 s (State.portEvent s p k info) := by
  unfold State.portEvent
  refine Does.step (State.raise_does ..) (by decide) (by decide) ?_
  exact Does.refl ..

theorem State.setPortSt_does (s : State) (p : ℕ) (st : ℕ) :
    Does 0x408000b800008 0x1000000200000000000000000000000 s (State.setPortSt s p st) := by
  unfold State.setPortSt
  extract_lets +onlyGivenNames x0
  clear_value x0
  extract_lets +onlyGivenNames x1
  clear_value x1
  extract_lets +onlyGivenNames x2
  refine Does.via (x := x2) ?_ (fun _ => ?_)
  · subst x2
    refine Does.step (State.setPort_does ..) (by decide) (by decide) ?_
    refine Does.wr _ _ _ _ (by decide) ?_
    exact Does.refl ..
  clear_value x2
  extract_lets +onlyGivenNames x3
  refine Does.via (x := x3) ?_ (fun _ => ?_)
  · subst x3
    refine Does.ite (fun _ => ?_) (fun _ => ?_)
    · refine Does.step (State.endLive_does ..) (by decide) (by decide) ?_
      refine Does.step (State.portEvent_does ..) (by decide) (by decide) ?_
      assumption
    · assumption
  clear_value x3
  extract_lets +onlyGivenNames x4
  refine Does.via (x := x4) ?_ (fun _ => ?_)
  · subst x4
    refine Does.ite (fun _ => ?_) (fun _ => ?_)
    · refine Does.step (State.portEvent_does ..) (by decide) (by decide) ?_
      assumption
    · assumption
  clear_value x4
  extract_lets +onlyGivenNames x5
  refine Does.via (x := x5) ?_ (fun _ => ?_)
  · subst x5
    refine Does.ite (fun _ => ?_) (fun _ => ?_)
    · refine Does.step (State.portEvent_does ..) (by decide) (by decide) ?_
      assumption
    · assumption
  clear_value x5
  extract_lets +onlyGivenNames x6
  refine Does.via (x := x6) ?_ (fun _ => ?_)
  · subst x6
    refine Does.ite (fun _ => ?_) (fun _ => ?_)
    · refine Does.step (State.detect_does ..) (by decide) (by decide) ?_
      assumption
    · assumption
  clear_value x6
  extract_lets +onlyGivenNames x7
  refine Does.via (x := x7) ?_ (fun _ => ?_)
  · subst x7
    refine Does.ite (fun _ => ?_) (fun _ => ?_)
    · refine Does.step (State.detect_does ..) (by decide) (by decide) ?_
      assumption
    · assumption
  clear_value x7
  refine Does.ite (fun _ => ?_) (fun _ => ?_)
  · refine Does.step (State.endLive_does ..) (by decide) (by decide) ?_
    assumption
  · assumption

theorem State.transmit_does (s : State) (p : ℕ) (f : Flit) :
    Does 0x88008000000 0x0 s (State.transmit s p f) := by
  unfold State.transmit
  extract_lets +onlyGivenNames x0
  clear_value x0
  extract_lets +onlyGivenNames x1
  clear_value x1
  extract_lets +onlyGivenNames x2
  refine Does.via (x := x2) ?_ (fun _ => ?_)
  · subst x2
    refine Does.step (State.setPort_does ..) (by decide) (by decide) ?_
    exact Does.refl ..
  clear_value x2
  refine Does.step (State.pulse_does ..) (by decide) (by decide) ?_
  refine Does.upd_out _ (by decide) ?_
  assumption

theorem State.drainPort_does (s : State) (p : ℕ) (a2 : ℕ) :
    Does 0x88008000000 0x0 s (State.drainPort s p a2) := by
  induction' a2 with n ih generalizing s p
  · unfold State.drainPort
    exact Does.refl ..
  · unfold State.drainPort
    split
    · exact Does.refl ..
    · extract_lets +onlyGivenNames x0
      clear_value x0
      extract_lets +onlyGivenNames x1
      clear_value x1
      extract_lets +onlyGivenNames x2
      refine Does.via (x := x2) ?_ (fun _ => ?_)
      · subst x2
        refine Does.step (State.setPort_does ..) (by decide) (by decide) ?_
        exact Does.refl ..
      clear_value x2
      refine Does.step (ih ..) (Sub.refl _) (Sub.refl _) ?_
      refine Does.step (State.transmit_does ..) (by decide) (by decide) ?_
      assumption

theorem State.enqueue_does (s : State) (p : ℕ) (f : Flit) :
    Does 0x88008000000 0x0 s (State.enqueue s p f) := by
  unfold State.enqueue
  extract_lets +onlyGivenNames x0
  clear_value x0
  extract_lets +onlyGivenNames x1
  refine Does.via (x := x1) ?_ (fun _ => ?_)
  · subst x1
    refine Does.step (State.setPort_does ..) (by decide) (by decide) ?_
    exact Does.refl ..
  clear_value x1
  refine Does.step (State.drainPort_does ..) (by decide) (by decide) ?_
  assumption

theorem State.dropPacket_does (s : State) (p : ℕ) :
    Does 0x80009800008 0x20000000000000000000000 s (State.dropPacket s p) := by
  unfold State.dropPacket
  extract_lets +onlyGivenNames x0
  refine Does.via (x := x0) ?_ (fun _ => ?_)
  · subst x0
    refine Does.bump _ _ _ _ (by decide) ?_
    exact Does.refl ..
  clear_value x0
  extract_lets +onlyGivenNames x1
  clear_value x1
  refine Does.ite (fun _ => ?_) (fun _ => ?_)
  · refine Does.step (State.portEvent_does ..) (by decide) (by decide) ?_
    refine Does.step (State.setPort_does ..) (by decide) (by decide) ?_
    assumption
  · assumption

theorem State.detour_does (s : State) (p : ℕ) (f : Flit) (q : ℕ) (flip : Bool) :
    Does 0x88009800008 0x0 s (State.detour s p f q flip) := by
  unfold State.detour
  extract_lets +onlyGivenNames x0
  clear_value x0
  extract_lets +onlyGivenNames x1
  refine Does.via (x := x1) ?_ (fun _ => ?_)
  · subst x1
    refine Does.ite (fun _ => ?_) (fun _ => ?_)
    · refine Does.step (State.portEvent_does ..) (by decide) (by decide) ?_
      refine Does.step (State.setPort_does ..) (by decide) (by decide) ?_
      exact Does.refl ..
    · exact Does.refl ..
  clear_value x1
  refine Does.step (State.enqueue_does ..) (by decide) (by decide) ?_
  assumption

theorem State.output_does (s : State) (p : ℕ) (f : Flit) :
    Does 0x88009800008 0x20000000000000000000000 s (State.output s p f) := by
  unfold State.output
  refine Does.ite (fun _ => ?_) (fun _ => ?_)
  · refine Does.step (State.enqueue_does ..) (by decide) (by decide) ?_
    exact Does.refl ..
  · split
    · refine Does.step (State.detour_does ..) (by decide) (by decide) ?_
      exact Does.refl ..
    · refine Does.ite (fun _ => ?_) (fun _ => ?_)
      · refine Does.step (State.setPort_does ..) (by decide) (by decide) ?_
        exact Does.refl ..
      · refine Does.step (State.dropPacket_does ..) (by decide) (by decide) ?_
        exact Does.refl ..

theorem State.portLost_does (s : State) (p : ℕ) :
    Does 0x88009800008 0x20000000000000000000000 s (State.portLost s p) := by
  unfold State.portLost
  extract_lets +onlyGivenNames x0
  clear_value x0
  extract_lets +onlyGivenNames x1
  clear_value x1
  extract_lets +onlyGivenNames x2
  refine Does.via (x := x2) ?_ (fun _ => ?_)
  · subst x2
    refine Does.ite (fun _ => ?_) (fun _ => ?_)
    · exact Does.refl ..
    · refine Does.step (State.setPort_does ..) (by decide) (by decide) ?_
      exact Does.refl ..
  clear_value x2
  extract_lets +onlyGivenNames x3
  refine Does.via (x := x3) ?_ (fun _ => ?_)
  · subst x3
    refine Does.foldl (fun _ _ _ => ?_) ?_
    · split
      · refine Does.step (State.detour_does ..) (by decide) (by decide) ?_
        assumption
      · refine Does.ite (fun _ => ?_) (fun _ => ?_)
        · assumption
        · refine Does.step (State.dropPacket_does ..) (by decide) (by decide) ?_
          assumption
    · assumption
  clear_value x3
  extract_lets +onlyGivenNames x4
  clear_value x4
  extract_lets +onlyGivenNames x5
  clear_value x5
  extract_lets +onlyGivenNames x6
  refine Does.via (x := x6) ?_ (fun _ => ?_)
  · subst x6
    refine Does.ite (fun _ => ?_) (fun _ => ?_)
    · refine Does.step (State.setPort_does ..) (by decide) (by decide) ?_
      assumption
    · assumption
  clear_value x6
  refine Does.foldl (fun _ _ _ => ?_) ?_
  · split
    · refine Does.step (State.detour_does ..) (by decide) (by decide) ?_
      assumption
    · refine Does.ite (fun _ => ?_) (fun _ => ?_)
      · assumption
      · refine Does.step (State.dropPacket_does ..) (by decide) (by decide) ?_
        assumption
  · assumption

theorem State.newDetours_does (s : State) (old : State) :
    Does 0x88009800008 0x0 s (State.newDetours s old) := by
  unfold State.newDetours
  refine Does.foldl (fun _ _ _ => ?_) ?_
  · extract_lets +onlyGivenNames x0
    clear_value x0
    extract_lets +onlyGivenNames x1
    clear_value x1
    extract_lets +onlyGivenNames x2
    refine Does.via (x := x2) ?_ (fun _ => ?_)
    · subst x2
      refine Does.step (State.setPort_does ..) (by decide) (by decide) ?_
      assumption
    clear_value x2
    refine Does.foldl (fun _ _ _ => ?_) ?_
    · split
      · refine Does.step (State.detour_does ..) (by decide) (by decide) ?_
        assumption
      · assumption
    · assumption
  · exact Does.refl ..

theorem State.sendTo_does (s : State) (d : ℕ) (ty : ℕ) (tc : ℕ) (head : List ℕ) (data : List ℕ) :
    Does 0x188009800008 0x20000000000000000000000 s (State.sendTo s d ty tc head data) := by
  unfold State.sendTo
  extract_lets +onlyGivenNames x0
  clear_value x0
  extract_lets +onlyGivenNames x1
  clear_value x1
  extract_lets +onlyGivenNames x2
  clear_value x2
  extract_lets +onlyGivenNames x3
  clear_value x3
  extract_lets +onlyGivenNames x4
  clear_value x4
  extract_lets +onlyGivenNames x5
  refine Does.via (x := x5) ?_ (fun _ => ?_)
  · subst x5
    refine Does.upd_fab _ (by decide) ?_
    exact Does.refl ..
  clear_value x5
  split
  · assumption
  · refine Does.step (State.output_does ..) (by decide) (by decide) ?_
    assumption

theorem State.sendDisc_does (s : State) (route : List ℕ) (rest : List ℕ) :
    Does 0x88009800008 0x20000000000000000000000 s (State.sendDisc s route rest) := by
  unfold State.sendDisc
  split
  · exact Does.refl ..
  · refine Does.step (State.output_does ..) (by decide) (by decide) ?_
    exact Does.refl ..

theorem State.sendCtrl_does (s : State) (d : ℕ) (op : ℕ) (arg : ℕ) (num : ℕ) :
    Does 0x188009800008 0x20000000000000000000000 s (State.sendCtrl s d op arg num) := by
  unfold State.sendCtrl
  refine Does.step (State.sendTo_does ..) (by decide) (by decide) ?_
  exact Does.refl ..

theorem State.takeAck_does (s : State) (p : ℕ) (f : Flit) :
    Does 0x88008000000 0x0 s (State.takeAck s p f) := by
  unfold State.takeAck
  extract_lets +onlyGivenNames x0
  clear_value x0
  extract_lets +onlyGivenNames x1
  clear_value x1
  extract_lets +onlyGivenNames x2
  clear_value x2
  extract_lets +onlyGivenNames x3
  clear_value x3
  refine Does.step (State.drainPort_does ..) (by decide) (by decide) ?_
  refine Does.step (State.setPort_does ..) (by decide) (by decide) ?_
  exact Does.refl ..

theorem State.crcError_does (s : State) (p : ℕ) :
    Does 0x408000b800008 0x1000000000000000000000000 s (State.crcError s p) := by
  unfold State.crcError
  extract_lets +onlyGivenNames x0
  refine Does.via (x := x0) ?_ (fun _ => ?_)
  · subst x0
    refine Does.bump _ _ _ _ (by decide) ?_
    exact Does.refl ..
  clear_value x0
  extract_lets +onlyGivenNames x1
  clear_value x1
  extract_lets +onlyGivenNames x2
  clear_value x2
  refine Does.ite (fun _ => ?_) (fun _ => ?_)
  · refine Does.step (State.detect_does ..) (by decide) (by decide) ?_
    refine Does.step (State.portEvent_does ..) (by decide) (by decide) ?_
    refine Does.step (State.setPort_does ..) (by decide) (by decide) ?_
    assumption
  · refine Does.step (State.setPort_does ..) (by decide) (by decide) ?_
    assumption

theorem State.flitIn_does (s : State) (p : ℕ) (n : ℕ) :
    Does 0x80008000000 0x0 s (State.flitIn s p n) := by
  unfold State.flitIn
  refine Does.step (State.pulse_does ..) (by decide) (by decide) ?_
  refine Does.step (State.setPort_does ..) (by decide) (by decide) ?_
  exact Does.refl ..

theorem State.sendIdle_does (s : State) (p : ℕ) (nak : Bool) (cvc : ℕ) (ccnt : ℕ) :
    Does 0x8008000000 0x0 s (State.sendIdle s p nak cvc ccnt) := by
  unfold State.sendIdle
  refine Does.step (State.pulse_does ..) (by decide) (by decide) ?_
  refine Does.upd_out _ (by decide) ?_
  exact Does.refl ..

theorem State.sendNak_does (s : State) (p : ℕ) :
    Does 0x88008000000 0x0 s (State.sendNak s p) := by
  unfold State.sendNak
  refine Does.step (State.sendIdle_does ..) (by decide) (by decide) ?_
  refine Does.step (State.setPort_does ..) (by decide) (by decide) ?_
  exact Does.refl ..

theorem State.giveCredit_does (s : State) (p : ℕ) (f : Flit) :
    Does 0x8008000000 0x0 s (State.giveCredit s p f) := by
  unfold State.giveCredit
  extract_lets +onlyGivenNames x0
  refine Does.via (x := x0) ?_ (fun _ => ?_)
  · subst x0
    refine Does.step (State.sendIdle_does ..) (by decide) (by decide) ?_
    exact Does.refl ..
  clear_value x0
  refine Does.ite (fun _ => ?_) (fun _ => ?_)
  · refine Does.step (State.sendIdle_does ..) (by decide) (by decide) ?_
    assumption
  · assumption

theorem State.releaseAhead_does (s : State) (d : ℕ) (a2 : ℕ) :
    Does 0x100000000000 0x0 s (State.releaseAhead s d a2) := by
  induction' a2 with n ih generalizing s d
  · unfold State.releaseAhead
    exact Does.refl ..
  · unfold State.releaseAhead
    extract_lets +onlyGivenNames x0
    clear_value x0
    split
    · refine Does.ite (fun _ => ?_) (fun _ => ?_)
      · exact Does.refl ..
      · refine Does.upd_fab _ (by decide) ?_
        exact Does.refl ..
    · extract_lets +onlyGivenNames x1
      clear_value x1
      extract_lets +onlyGivenNames x2
      refine Does.via (x := x2) ?_ (fun _ => ?_)
      · subst x2
        refine Does.upd_fab _ (by decide) ?_
        exact Does.refl ..
      clear_value x2
      refine Does.step (ih ..) (Sub.refl _) (Sub.refl _) ?_
      assumption

theorem State.deliver_does (s : State) (p : ℕ) (f : Flit) :
    Does 0x100009800008 0x0 s (State.deliver s p f) := by
  unfold State.deliver
  extract_lets +onlyGivenNames x0
  refine Does.via (x := x0) ?_ (fun _ => ?_)
  · subst x0
    refine Does.ite (fun _ => ?_) (fun _ => ?_)
    · refine Does.step (State.raise_does ..) (by decide) (by decide) ?_
      exact Does.refl ..
    · exact Does.refl ..
  clear_value x0
  refine Does.ite (fun _ => ?_) (fun _ => ?_)
  · refine Does.upd_fab _ (by decide) ?_
    assumption
  · extract_lets +onlyGivenNames x1
    clear_value x1
    extract_lets +onlyGivenNames x2
    clear_value x2
    refine Does.ite (fun _ => ?_) (fun _ => ?_)
    · assumption
    · refine Does.ite (fun _ => ?_) (fun _ => ?_)
      · extract_lets +onlyGivenNames x3
        clear_value x3
        extract_lets +onlyGivenNames x4
        refine Does.via (x := x4) ?_ (fun _ => ?_)
        · subst x4
          refine Does.upd_fab _ (by decide) ?_
          assumption
        clear_value x4
        refine Does.step (State.releaseAhead_does ..) (by decide) (by decide) ?_
        assumption
      · refine Does.ite (fun _ => ?_) (fun _ => ?_)
        · assumption
        · extract_lets +onlyGivenNames x5
          clear_value x5
          refine Does.upd_fab _ (by decide) ?_
          assumption

theorem State.takeIn_does {s t : State} {ok : Flit → Bool} {p : ℕ} {f : Flit} (h : s.takeIn ok = some (p, f, t)) :
    Does 0x100000000000 0x0 s t := by
  unfold State.takeIn at h
  split at h
  · cases h
  · split at h
    · cases h; exact Does.upd_fab _ (by decide) (Does.refl ..)
    · cases h

end Sys2Proof.Machine
end

