-- ==== Sys2Proof/Laws/DoesHostOps.lean ====
section
/-! SUPPORT. What each operation and meaning of Machine/HostOps.lean may touch. -/

namespace Sys2Proof.Machine

open Sys2Proof

set_option linter.unusedVariables false

theorem State.translate_does {s t : State} {asid va : ℕ} {write : Bool} {walk : Walk} {x : Xlat} (h : s.translate asid va write walk = (x, t)) :
    Does 0x108000000 0x0 s t := by
  have h2 : t = (s.translate asid va write walk).2 := by rw [h]
  rw [h2]
  unfold State.translate
  split
  · exact Does.refl ..
  · split
    · exact Does.refl ..
    · split
      · exact Does.refl ..
      · split
        · split
          · exact Does.refl ..
          · exact Does.refl ..
        · extract_lets low r
          split
          · exact Does.refl ..
          · refine Does.step (State.pulse_does ..) (by decide) (by decide) ?_
            exact Does.upd_tlb _ (by decide) (Does.refl ..)

theorem State.hostWrite_does (s : State) (tc : ℕ) (pa : ℕ) (b : List ℕ) :
    Does 0x188009800008 0x20000000000000000000000 s (State.hostWrite s tc pa b) := by
  unfold State.hostWrite
  extract_lets +onlyGivenNames x0
  refine Does.via (x := x0) ?_ (fun _ => ?_)
  · subst x0
    refine Does.step (State.pulse_does ..) (by decide) (by decide) ?_
    exact Does.refl ..
  clear_value x0
  refine Does.ite (fun _ => ?_) (fun _ => ?_)
  · refine Does.upd_out _ (by decide) ?_
    assumption
  · refine Does.foldl (fun _ _ _ => ?_) ?_
    · refine Does.step (State.sendTo_does ..) (by decide) (by decide) ?_
      assumption
    · assumption

theorem State.hostRead_does (s : State) (tc : ℕ) (pa : ℕ) (len : ℕ) (target : HostTarget) :
    Does 0x188009800008 0x20000000000000000000000 s (State.hostRead s tc pa len target) := by
  unfold State.hostRead
  extract_lets +onlyGivenNames x0
  refine Does.via (x := x0) ?_ (fun _ => ?_)
  · subst x0
    refine Does.step (State.pulse_does ..) (by decide) (by decide) ?_
    exact Does.refl ..
  clear_value x0
  refine Does.ite (fun _ => ?_) (fun _ => ?_)
  · refine Does.upd_out _ (by decide) ?_
    assumption
  · split
    · assumption
    · extract_lets +onlyGivenNames x1
      clear_value x1
      extract_lets +onlyGivenNames x2
      refine Does.via (x := x2) ?_ (fun _ => ?_)
      · subst x2
        refine Does.upd_fab _ (by decide) ?_
        assumption
      clear_value x2
      refine Does.step (State.sendTo_does ..) (by decide) (by decide) ?_
      assumption

theorem State.msix_does (s : State) (vec : ℕ) :
    Does 0x8000000000 0x2000000000000 s (State.msix s vec) := by
  unfold State.msix
  refine Does.ite (fun _ => ?_) (fun _ => ?_)
  · refine Does.wr _ _ _ _ (by decide) ?_
    exact Does.refl ..
  · refine Does.upd_out _ (by decide) ?_
    exact Does.refl ..

theorem State.interrupt_does (s : State) (vec : ℕ) :
    Does 0x188009800008 0x20000000002000000000000 s (State.interrupt s vec) := by
  unfold State.interrupt
  refine Does.ite (fun _ => ?_) (fun _ => ?_)
  · refine Does.step (State.msix_does ..) (by decide) (by decide) ?_
    exact Does.refl ..
  · refine Does.step (State.sendTo_does ..) (by decide) (by decide) ?_
    exact Does.refl ..

theorem State.setPreempt_does (s : State) (q : ℕ) (on : Bool) :
    Does 0x0 0x3000000000000000000 s (State.setPreempt s q on) := by
  unfold State.setPreempt
  extract_lets +onlyGivenNames x0
  clear_value x0
  refine Does.ite (fun _ => ?_) (fun _ => ?_)
  · refine Does.wr _ _ _ _ (by decide) ?_
    exact Does.refl ..
  · refine Does.wr _ _ _ _ (by decide) ?_
    exact Does.refl ..

theorem State.qpEvent_does (s : State) (q : ℕ) (info : ℕ) :
    Does 0x9800008 0x0 s (State.qpEvent s q info) := by
  unfold State.qpEvent
  extract_lets +onlyGivenNames x0
  subst x0
  extract_lets +onlyGivenNames x1
  clear_value x1
  refine Does.step (State.raise_does ..) (by decide) (by decide) ?_
  exact Does.refl ..

theorem State.haltQp_does (s : State) (q : ℕ) :
    Does 0x9800008 0x20000000000 s (State.haltQp s q) := by
  unfold State.haltQp
  refine Does.ite (fun _ => ?_) (fun _ => ?_)
  · refine Does.step (State.qpEvent_does ..) (by decide) (by decide) ?_
    refine Does.wr _ _ _ _ (by decide) ?_
    exact Does.refl ..
  · exact Does.refl ..

theorem State.putDesc_does (s : State) (q : ℕ) (d : Desc) :
    Does 0x40000000 0x0 s (State.putDesc s q d) := by
  unfold State.putDesc
  extract_lets +onlyGivenNames x0
  clear_value x0
  refine Does.step (State.setQp_does ..) (by decide) (by decide) ?_
  exact Does.refl ..

theorem State.finish_does (s : State) (q : ℕ) (d : Desc) (status : ℕ) (r0 : ℕ) (r1 : ℕ) (detail : ℕ) :
    Does 0x40000000 0x0 s (State.finish s q d status r0 r1 detail) := by
  unfold State.finish
  extract_lets +onlyGivenNames x0
  clear_value x0
  refine Does.step (State.setQp_does ..) (by decide) (by decide) ?_
  exact Does.refl ..

theorem State.badDesc_does (s : State) (q : ℕ) (d : Desc) (why : ℕ) :
    Does 0x40000000 0x0 s (State.badDesc s q d why) := by
  unfold State.badDesc
  refine Does.step (State.finish_does ..) (by decide) (by decide) ?_
  exact Does.refl ..

theorem State.settleQ_does (s : State) (q : ℕ) (a2 : ℕ) :
    Does 0x40000000 0x0 s (State.settleQ s q a2) := by
  induction' a2 with n ih generalizing s q
  · unfold State.settleQ
    exact Does.refl ..
  · unfold State.settleQ
    split
    · exact Does.refl ..
    · refine Does.step (ih ..) (Sub.refl _) (Sub.refl _) ?_
      refine Does.ite (fun _ => ?_) (fun _ => ?_)
      · refine Does.step (State.finish_does ..) (by decide) (by decide) ?_
        exact Does.refl ..
      · refine Does.step (State.badDesc_does ..) (by decide) (by decide) ?_
        exact Does.refl ..

theorem State.start_does {s t : State} {q cid opc : ℕ} {d : Desc} (h : s.start q cid opc = some (d, t)) :
    Does 0x40000000 0x0 s t := by
  unfold State.start at h
  split at h
  · cases h
  · split at h
    · cases h
    · split at h
      · cases h; exact Does.refl ..
      · split at h
        · simp only [Option.some.injEq, Prod.mk.injEq] at h
          obtain ⟨-, rfl⟩ := h
          refine Does.step (State.settleQ_does ..) (by decide) (by decide) ?_
          exact (State.putDesc_does ..).mono (by decide) (by decide)
        · cases h

theorem State.endDesc_does (s : State) (q : ℕ) (d : Desc) (status : ℕ) (r0 : ℕ) (r1 : ℕ) (detail : ℕ) :
    Does 0x40000000 0x0 s (State.endDesc s q d status r0 r1 detail) := by
  unfold State.endDesc
  refine Does.step (State.settleQ_does ..) (by decide) (by decide) ?_
  refine Does.step (State.finish_does ..) (by decide) (by decide) ?_
  exact Does.refl ..

theorem State.newFault_does (s : State) (origin : ℕ) (unit : ℕ) (idx : ℕ) (cid : ℕ) (opc : ℕ) (asid : ℕ) (addr : ℕ) (write : Bool) (cause : ℕ) (prog : ℕ) (fres : Bool) :
    Does 0x200000000 0x0 s (State.newFault s origin unit idx cid opc asid addr write cause prog fres) := by
  unfold State.newFault
  refine Does.upd_mmuq _ (by decide) ?_
  exact Does.refl ..

theorem State.takeChunk_does (s : State) (q : ℕ) :
    Does 0x20000000000 0x4000000000000000000 s (State.takeChunk s q) := by
  unfold State.takeChunk
  extract_lets +onlyGivenNames x0
  clear_value x0
  extract_lets +onlyGivenNames x1
  refine Does.via (x := x1) ?_ (fun _ => ?_)
  · subst x1
    refine Does.ite (fun _ => ?_) (fun _ => ?_)
    · refine Does.bump _ _ _ _ (by decide) ?_
      exact Does.refl ..
    · exact Does.refl ..
  clear_value x1
  refine Does.upd_lastChunk _ (by decide) ?_
  assumption

theorem State.readChunk_does (s : State) (q : ℕ) (d : Desc) (walk : Walk) :
    Does 0x1a8349800008 0x20004000000000000000000 s (State.readChunk s q d walk) := by
  unfold State.readChunk
  extract_lets +onlyGivenNames x0
  clear_value x0
  extract_lets +onlyGivenNames x1
  clear_value x1
  refine Does.ite (fun _ => ?_) (fun _ => ?_)
  · exact Does.refl ..
  · split
    · refine Does.step (State.translate_does (by assumption)) (by decide) (by decide) ?_
      exact Does.refl ..
    · refine Does.step (State.newFault_does ..) (by decide) (by decide) ?_
      refine Does.step (State.putDesc_does ..) (by decide) (by decide) ?_
      refine Does.step (State.translate_does (by assumption)) (by decide) (by decide) ?_
      exact Does.refl ..
    · refine Does.step (State.hostRead_does ..) (by decide) (by decide) ?_
      refine Does.step (State.putDesc_does ..) (by decide) (by decide) ?_
      refine Does.step (State.takeChunk_does ..) (by decide) (by decide) ?_
      refine Does.step (State.translate_does (by assumption)) (by decide) (by decide) ?_
      exact Does.refl ..

theorem State.writeChunk_does (s : State) (q : ℕ) (d : Desc) (b : List ℕ) (walk : Walk) :
    Does 0x1a8349800008 0x20004000000000000000000 s (State.writeChunk s q d b walk) := by
  unfold State.writeChunk
  extract_lets +onlyGivenNames x0
  clear_value x0
  extract_lets +onlyGivenNames x1
  clear_value x1
  refine Does.ite (fun _ => ?_) (fun _ => ?_)
  · exact Does.refl ..
  · split
    · refine Does.step (State.translate_does (by assumption)) (by decide) (by decide) ?_
      exact Does.refl ..
    · refine Does.step (State.newFault_does ..) (by decide) (by decide) ?_
      refine Does.step (State.putDesc_does ..) (by decide) (by decide) ?_
      refine Does.step (State.translate_does (by assumption)) (by decide) (by decide) ?_
      exact Does.refl ..
    · refine Does.step (State.hostWrite_does ..) (by decide) (by decide) ?_
      refine Does.step (State.putDesc_does ..) (by decide) (by decide) ?_
      refine Does.step (State.takeChunk_does ..) (by decide) (by decide) ?_
      refine Does.step (State.translate_does (by assumption)) (by decide) (by decide) ?_
      exact Does.refl ..

end Sys2Proof.Machine
end

