-- ==== Sys2Proof/Laws/DoesMmuOps.lean ====
section
/-! SUPPORT. What each operation and meaning of Machine/MmuOps.lean may touch. -/

namespace Sys2Proof.Machine

open Sys2Proof

set_option linter.unusedVariables false

theorem State.endUpload_does (s : State) (pod : ℕ) (moved : ℕ) :
    Does 0x10 0x40000000000000000000000000000000000000000000000000000000000000 s (State.endUpload s pod moved) := by
  unfold State.endUpload
  extract_lets +onlyGivenNames x0
  clear_value x0
  extract_lets +onlyGivenNames x1
  clear_value x1
  extract_lets +onlyGivenNames x2
  clear_value x2
  extract_lets +onlyGivenNames x3
  refine Does.via (x := x3) ?_ (fun _ => ?_)
  · subst x3
    refine Does.ite (fun _ => ?_) (fun _ => ?_)
    · refine Does.wr _ _ _ _ (by decide) ?_
      exact Does.refl ..
    · exact Does.refl ..
  clear_value x3
  refine Does.step (State.rearmCapture_does ..) (by decide) (by decide) ?_
  refine Does.wr _ _ _ _ (by decide) ?_
  assumption

theorem State.endDrain_does (s : State) (moved : ℕ) :
    Does 0x20000000 0x1000000000000000000000000000000000000000000000000 s (State.endDrain s moved) := by
  unfold State.endDrain
  extract_lets +onlyGivenNames x0
  clear_value x0
  refine Does.step (State.setLedgRd_does ..) (by decide) (by decide) ?_
  exact Does.refl ..

theorem State.streamOff_does (s : State) (t : ℕ) (but : Option ℕ) :
    Does 0x440000010 0x10000000000000000000000000000000000000000000000 s (State.streamOff s t but) := by
  unfold State.streamOff
  extract_lets +onlyGivenNames x0
  clear_value x0
  extract_lets +onlyGivenNames x1
  refine Does.via (x := x1) ?_ (fun _ => ?_)
  · subst x1
    refine Does.foldl (fun _ _ _ => ?_) ?_
    · refine Does.ite (fun _ => ?_) (fun _ => ?_)
      · assumption
      · refine Does.step (State.finish_does ..) (by decide) (by decide) ?_
        assumption
    · exact Does.refl ..
  clear_value x1
  extract_lets +onlyGivenNames x2
  refine Does.via (x := x2) ?_ (fun _ => ?_)
  · subst x2
    refine Does.foldl (fun _ _ _ => ?_) ?_
    · refine Does.step (State.setSeg_does ..) (by decide) (by decide) ?_
      assumption
    · assumption
  clear_value x2
  refine Does.wr _ _ _ _ (by decide) ?_
  refine Does.step (State.setStrm_does ..) (by decide) (by decide) ?_
  assumption

theorem State.endTransfer_does (s : State) (q : ℕ) (d : Desc) (status : ℕ) (detail : ℕ) :
    Does 0x460000010 0x40000000000001010000000000000000000000000000000000000000000000 s (State.endTransfer s q d status detail) := by
  unfold State.endTransfer
  extract_lets +onlyGivenNames x0
  clear_value x0
  extract_lets +onlyGivenNames x1
  refine Does.via (x := x1) ?_ (fun _ => ?_)
  · subst x1
    split
    · refine Does.foldl (fun _ _ _ => ?_) ?_
      · extract_lets +onlyGivenNames x2
        clear_value x2
        refine Does.ite (fun _ => ?_) (fun _ => ?_)
        · refine Does.step (State.setSeg_does ..) (by decide) (by decide) ?_
          assumption
        · assumption
      · exact Does.refl ..
    · refine Does.foldl (fun _ _ _ => ?_) ?_
      · extract_lets +onlyGivenNames x3
        clear_value x3
        refine Does.ite (fun _ => ?_) (fun _ => ?_)
        · refine Does.step (State.setSeg_does ..) (by decide) (by decide) ?_
          assumption
        · assumption
      · exact Does.refl ..
    · refine Does.ite (fun _ => ?_) (fun _ => ?_)
      · refine Does.step (State.streamOff_does ..) (by decide) (by decide) ?_
        exact Does.refl ..
      · exact Does.refl ..
    · refine Does.step (State.endUpload_does ..) (by decide) (by decide) ?_
      exact Does.refl ..
    · refine Does.step (State.endDrain_does ..) (by decide) (by decide) ?_
      exact Does.refl ..
    · exact Does.refl ..
  clear_value x1
  extract_lets +onlyGivenNames x4
  clear_value x4
  extract_lets +onlyGivenNames x5
  clear_value x5
  refine Does.step (State.endDesc_does ..) (by decide) (by decide) ?_
  assumption

theorem State.setSlot_does (s : State) (k : ℕ) (st : ℕ) :
    Does 0x0 0x2040820000000000 s (State.setSlot s k st) := by
  unfold State.setSlot
  extract_lets +onlyGivenNames x0
  refine Does.via (x := x0) ?_ (fun _ => ?_)
  · subst x0
    refine Does.wr _ _ _ _ (by decide) ?_
    exact Does.refl ..
  clear_value x0
  extract_lets +onlyGivenNames x1
  refine Does.via (x := x1) ?_ (fun _ => ?_)
  · subst x1
    refine Does.wr _ _ _ _ (by decide) ?_
    assumption
  clear_value x1
  refine Does.ite (fun _ => ?_) (fun _ => ?_)
  · extract_lets +onlyGivenNames x2
    clear_value x2
    refine Does.wr _ _ _ _ (by decide) ?_
    assumption
  · extract_lets +onlyGivenNames x3
    clear_value x3
    refine Does.wr _ _ _ _ (by decide) ?_
    assumption

theorem State.writeSlot_does (s : State) (k : ℕ) (m : MFault) (st : ℕ) :
    Does 0x0 0xff040820000000000 s (State.writeSlot s k m st) := by
  unfold State.writeSlot
  extract_lets +onlyGivenNames x0
  clear_value x0
  extract_lets +onlyGivenNames x1
  refine Does.via (x := x1) ?_ (fun _ => ?_)
  · subst x1
    refine Does.wr _ _ _ _ (by decide) ?_
    exact Does.refl ..
  clear_value x1
  extract_lets +onlyGivenNames x2
  refine Does.via (x := x2) ?_ (fun _ => ?_)
  · subst x2
    refine Does.wr _ _ _ _ (by decide) ?_
    assumption
  clear_value x2
  extract_lets +onlyGivenNames x3
  refine Does.via (x := x3) ?_ (fun _ => ?_)
  · subst x3
    refine Does.wr _ _ _ _ (by decide) ?_
    refine Does.wr _ _ _ _ (by decide) ?_
    assumption
  clear_value x3
  extract_lets +onlyGivenNames x4
  refine Does.via (x := x4) ?_ (fun _ => ?_)
  · subst x4
    refine Does.wr _ _ _ _ (by decide) ?_
    refine Does.wr _ _ _ _ (by decide) ?_
    assumption
  clear_value x4
  extract_lets +onlyGivenNames x5
  refine Does.via (x := x5) ?_ (fun _ => ?_)
  · subst x5
    refine Does.wr _ _ _ _ (by decide) ?_
    refine Does.wr _ _ _ _ (by decide) ?_
    assumption
  clear_value x5
  extract_lets +onlyGivenNames x6
  refine Does.via (x := x6) ?_ (fun _ => ?_)
  · subst x6
    refine Does.wr _ _ _ _ (by decide) ?_
    refine Does.wr _ _ _ _ (by decide) ?_
    assumption
  clear_value x6
  extract_lets +onlyGivenNames x7
  refine Does.via (x := x7) ?_ (fun _ => ?_)
  · subst x7
    refine Does.wr _ _ _ _ (by decide) ?_
    refine Does.wr _ _ _ _ (by decide) ?_
    assumption
  clear_value x7
  extract_lets +onlyGivenNames x8
  refine Does.via (x := x8) ?_ (fun _ => ?_)
  · subst x8
    refine Does.wrStamp _ _ _ _ (by decide) (by decide) ?_
    assumption
  clear_value x8
  extract_lets +onlyGivenNames x9
  refine Does.via (x := x9) ?_ (fun _ => ?_)
  · subst x9
    refine Does.wr _ _ _ _ (by decide) ?_
    refine Does.wr _ _ _ _ (by decide) ?_
    assumption
  clear_value x9
  refine Does.step (State.setSlot_does ..) (by decide) (by decide) ?_
  assumption

theorem State.abortSlot_does (s : State) (k : ℕ) :
    Does 0x4e9800018 0x40000000000001010000000000000000000000000000002041920000000000 s (State.abortSlot s k) := by
  unfold State.abortSlot
  extract_lets +onlyGivenNames x0
  clear_value x0
  extract_lets +onlyGivenNames x1
  clear_value x1
  extract_lets +onlyGivenNames x2
  clear_value x2
  extract_lets +onlyGivenNames x3
  clear_value x3
  extract_lets +onlyGivenNames x4
  refine Does.via (x := x4) ?_ (fun _ => ?_)
  · subst x4
    refine Does.step (State.setSlot_does ..) (by decide) (by decide) ?_
    exact Does.refl ..
  clear_value x4
  refine Does.ite (fun _ => ?_) (fun _ => ?_)
  · split
    · refine Does.step (State.endTransfer_does ..) (by decide) (by decide) ?_
      assumption
    · assumption
  · refine Does.ite (fun _ => ?_) (fun _ => ?_)
    · refine Does.step (State.haltQp_does ..) (by decide) (by decide) ?_
      refine Does.step (State.setQp_does ..) (by decide) (by decide) ?_
      assumption
    · refine Does.ite (fun _ => ?_) (fun _ => ?_)
      · extract_lets +onlyGivenNames x5
        clear_value x5
        refine Does.step (State.haltQp_does ..) (by decide) (by decide) ?_
        refine Does.wr _ _ _ _ (by decide) ?_
        refine Does.step (State.setQp_does ..) (by decide) (by decide) ?_
        assumption
      · extract_lets +onlyGivenNames x6
        clear_value x6
        extract_lets +onlyGivenNames x7
        clear_value x7
        extract_lets +onlyGivenNames x8
        refine Does.via (x := x8) ?_ (fun _ => ?_)
        · subst x8
          refine Does.bump _ _ _ _ (by decide) ?_
          assumption
        clear_value x8
        extract_lets +onlyGivenNames x9
        refine Does.via (x := x9) ?_ (fun _ => ?_)
        · subst x9
          refine Does.upd_evq _ (by decide) ?_
          assumption
        clear_value x9
        refine Does.wr _ _ _ _ (by decide) ?_
        refine Does.step (State.setEvr_does ..) (by decide) (by decide) ?_
        assumption

end Sys2Proof.Machine
end

