-- ==== Sys2Proof/Laws/DoesHostRows.lean ====
section
/-! SUPPORT. What each operation and meaning of Machine/HostRows.lean may touch. -/

namespace Sys2Proof.Machine

open Sys2Proof

set_option linter.unusedVariables false

theorem State.sqTail_does (s : State) (q : ℕ) (v : ℕ) :
    Does 0x9800008 0x20000000000 s (State.sqTail s q v) := by
  unfold State.sqTail
  refine Does.ite (fun _ => ?_) (fun _ => ?_)
  · refine Does.step (State.haltQp_does ..) (by decide) (by decide) ?_
    refine Does.wr _ _ _ _ (by decide) ?_
    exact Does.refl ..
  · refine Does.step (State.pulse_does ..) (by decide) (by decide) ?_
    refine Does.wr _ _ _ _ (by decide) ?_
    exact Does.refl ..

theorem State.cqHead_does (s : State) (q : ℕ) (v : ℕ) :
    Does 0x48000000 0x20000000000 s (State.cqHead s q v) := by
  unfold State.cqHead
  extract_lets +onlyGivenNames x0
  clear_value x0
  refine Does.ite (fun _ => ?_) (fun _ => ?_)
  · refine Does.wr _ _ _ _ (by decide) ?_
    exact Does.refl ..
  · refine Does.step (State.pulse_does ..) (by decide) (by decide) ?_
    refine Does.step (State.setQp_does ..) (by decide) (by decide) ?_
    exact Does.refl ..

theorem State.evrHead_does (s : State) (e : ℕ) (v : ℕ) :
    Does 0x80000000 0x800000000000 s (State.evrHead s e v) := by
  unfold State.evrHead
  extract_lets +onlyGivenNames x0
  clear_value x0
  refine Does.ite (fun _ => ?_) (fun _ => ?_)
  · refine Does.wr _ _ _ _ (by decide) ?_
    exact Does.refl ..
  · refine Does.step (State.setEvr_does ..) (by decide) (by decide) ?_
    exact Does.refl ..

theorem State.ring_does (s : State) (off : ℕ) (v : ℕ) :
    Does 0x80000000c9800008 0x820000000000 s (State.ring s off v) := by
  unfold State.ring
  extract_lets +onlyGivenNames x0
  clear_value x0
  refine Does.ite (fun _ => ?_) (fun _ => ?_)
  · exact Does.refl ..
  · refine Does.ite (fun _ => ?_) (fun _ => ?_)
    · refine Does.step (State.askWake_does ..) (by decide) (by decide) ?_
      refine Does.step (State.sqTail_does ..) (by decide) (by decide) ?_
      exact Does.refl ..
    · refine Does.ite (fun _ => ?_) (fun _ => ?_)
      · refine Does.step (State.askWake_does ..) (by decide) (by decide) ?_
        refine Does.step (State.cqHead_does ..) (by decide) (by decide) ?_
        exact Does.refl ..
      · refine Does.ite (fun _ => ?_) (fun _ => ?_)
        · refine Does.step (State.askWake_does ..) (by decide) (by decide) ?_
          refine Does.step (State.evrHead_does ..) (by decide) (by decide) ?_
          exact Does.refl ..
        · exact Does.refl ..

theorem State.bell_does (s : State) (dev : ℕ) (off : ℕ) (v : ℕ) :
    Does 0x80001880c9800008 0x20000000000820000000000 s (State.bell s dev off v) := by
  unfold State.bell
  refine Does.ite (fun _ => ?_) (fun _ => ?_)
  · exact Does.refl ..
  · refine Does.ite (fun _ => ?_) (fun _ => ?_)
    · refine Does.step (State.ring_does ..) (by decide) (by decide) ?_
      exact Does.refl ..
    · refine Does.ite (fun _ => ?_) (fun _ => ?_)
      · refine Does.upd_out _ (by decide) ?_
        exact Does.refl ..
      · refine Does.step (State.sendTo_does ..) (by decide) (by decide) ?_
        exact Does.refl ..

theorem execSqTail_does (dev : Fin 64) (qp : QpId) (value : BitVec 32) (s : State) :
    DoesO 0x80001880c9800008 0x20000000000820000000000 s (execSqTail dev qp value s) := by
  unfold execSqTail
  refine DoesO.next ?_
  refine Does.step (State.bell_does ..) (by decide) (by decide) ?_
  exact Does.refl ..

theorem execCqHead_does (dev : Fin 64) (qp : QpId) (value : BitVec 32) (s : State) :
    DoesO 0x80001880c9800008 0x20000000000820000000000 s (execCqHead dev qp value s) := by
  unfold execCqHead
  refine DoesO.next ?_
  refine Does.step (State.bell_does ..) (by decide) (by decide) ?_
  exact Does.refl ..

theorem execEvrHead_does (dev : Fin 64) (evr : EvrId) (value : BitVec 32) (s : State) :
    DoesO 0x80001880c9800008 0x20000000000820000000000 s (execEvrHead dev evr value s) := by
  unfold execEvrHead
  refine DoesO.next ?_
  refine Does.step (State.bell_does ..) (by decide) (by decide) ?_
  exact Does.refl ..

theorem execDescriptorFetch_does (qp : QpId) (walk : Walk) (s : State) :
    DoesO 0x198349800008 0x20000000000000000000000 s (execDescriptorFetch qp walk s) := by
  unfold execDescriptorFetch
  extract_lets +onlyGivenNames x0
  clear_value x0
  extract_lets +onlyGivenNames x1
  clear_value x1
  extract_lets +onlyGivenNames x2
  clear_value x2
  refine DoesO.next ?_
  refine Does.ite (fun _ => ?_) (fun _ => ?_)
  · exact Does.refl ..
  · split
    · refine Does.step (State.translate_does (by assumption)) (by decide) (by decide) ?_
      exact Does.refl ..
    · refine Does.step (State.newFault_does ..) (by decide) (by decide) ?_
      refine Does.step (State.setQp_does ..) (by decide) (by decide) ?_
      refine Does.step (State.translate_does (by assumption)) (by decide) (by decide) ?_
      exact Does.refl ..
    · refine Does.step (State.hostRead_does ..) (by decide) (by decide) ?_
      extract_lets +onlyGivenNames x3
      clear_value x3
      extract_lets +onlyGivenNames x4
      refine Does.via (x := x4) ?_ (fun _ => ?_)
      · subst x4
        refine Does.step (State.setQp_does ..) (by decide) (by decide) ?_
        refine Does.step (State.translate_does (by assumption)) (by decide) (by decide) ?_
        exact Does.refl ..
      clear_value x4
      refine Does.upd_rr _ (by decide) ?_
      assumption

theorem State.fetched_does (s : State) (q : ℕ) (raw : List ℕ) :
    Does 0x40000000 0x10000000000 s (State.fetched s q raw) := by
  unfold State.fetched
  extract_lets +onlyGivenNames x0
  clear_value x0
  extract_lets +onlyGivenNames x1
  refine Does.via (x := x1) ?_ (fun _ => ?_)
  · subst x1
    refine Does.step (State.setQp_does ..) (by decide) (by decide) ?_
    exact Does.refl ..
  clear_value x1
  refine Does.step (State.settleQ_does ..) (by decide) (by decide) ?_
  refine Does.wr _ _ _ _ (by decide) ?_
  assumption

theorem State.hostData_does (s : State) (target : HostTarget) (b : Option (List ℕ)) :
    Does 0x40000000 0x10000000000 s (State.hostData s target b) := by
  unfold State.hostData
  split
  · refine Does.ite (fun _ => ?_) (fun _ => ?_)
    · exact Does.refl ..
    · split
      · refine Does.ite (fun _ => ?_) (fun _ => ?_)
        · refine Does.step (State.fetched_does ..) (by decide) (by decide) ?_
          exact Does.refl ..
        · refine Does.step (State.setQp_does ..) (by decide) (by decide) ?_
          exact Does.refl ..
      · refine Does.step (State.setQp_does ..) (by decide) (by decide) ?_
        exact Does.refl ..
  · split
    · exact Does.refl ..
    · split
      · refine Does.ite (fun _ => ?_) (fun _ => ?_)
        · refine Does.step (State.putDesc_does ..) (by decide) (by decide) ?_
          exact Does.refl ..
        · refine Does.step (State.putDesc_does ..) (by decide) (by decide) ?_
          exact Does.refl ..
      · refine Does.step (State.putDesc_does ..) (by decide) (by decide) ?_
        exact Does.refl ..
  · exact Does.refl ..

theorem State.returnDma_does (s : State) (r : DmaRd) (status : ℕ) (b : List ℕ) :
    Does 0x188009800008 0x20000000000000000000000 s (State.returnDma s r status b) := by
  unfold State.returnDma
  extract_lets +onlyGivenNames x0
  clear_value x0
  extract_lets +onlyGivenNames x1
  refine Does.via (x := x1) ?_ (fun _ => ?_)
  · subst x1
    refine Does.upd_fab _ (by decide) ?_
    exact Does.refl ..
  clear_value x1
  extract_lets +onlyGivenNames x2
  clear_value x2
  refine Does.ite (fun _ => ?_) (fun _ => ?_)
  · refine Does.step (State.sendTo_does ..) (by decide) (by decide) ?_
    assumption
  · refine Does.foldl (fun _ _ _ => ?_) ?_
    · refine Does.step (State.sendTo_does ..) (by decide) (by decide) ?_
      assumption
    · assumption

theorem execPcieCompletion_does (target : HostTarget) (data : Option (List Byte)) (s : State) :
    DoesO 0x188049800008 0x20000000000010000000000 s (execPcieCompletion target data s) := by
  unfold execPcieCompletion
  extract_lets +onlyGivenNames x0
  clear_value x0
  refine DoesO.next ?_
  refine Does.ite (fun _ => ?_) (fun _ => ?_)
  · exact Does.refl ..
  · split
    · split
      · exact Does.refl ..
      · split
        · refine Does.ite (fun _ => ?_) (fun _ => ?_)
          · refine Does.step (State.returnDma_does ..) (by decide) (by decide) ?_
            exact Does.refl ..
          · refine Does.step (State.returnDma_does ..) (by decide) (by decide) ?_
            exact Does.refl ..
        · refine Does.step (State.returnDma_does ..) (by decide) (by decide) ?_
          exact Does.refl ..
    · refine Does.step (State.hostData_does ..) (by decide) (by decide) ?_
      exact Does.refl ..

theorem execNopCommand_does (qp : QpId) (cid : ℕ) (s : State) :
    DoesO 0x40000000 0x0 s (execNopCommand qp cid s) := by
  unfold execNopCommand
  refine DoesO.next ?_
  split
  · exact Does.refl ..
  · refine Does.step (State.endDesc_does ..) (by decide) (by decide) ?_
    refine Does.step (State.start_does (by assumption)) (by decide) (by decide) ?_
    exact Does.refl ..

theorem execCompletionWrite_does (qp : QpId) (walk : Walk) (s : State) :
    DoesO 0x188349800008 0x20000000000010000000000 s (execCompletionWrite qp walk s) := by
  unfold execCompletionWrite
  extract_lets +onlyGivenNames x0
  clear_value x0
  extract_lets +onlyGivenNames x1
  clear_value x1
  extract_lets +onlyGivenNames x2
  clear_value x2
  extract_lets +onlyGivenNames x3
  clear_value x3
  refine DoesO.next ?_
  split
  · exact Does.refl ..
  · refine Does.ite (fun _ => ?_) (fun _ => ?_)
    · exact Does.refl ..
    · split
      · refine Does.step (State.translate_does (by assumption)) (by decide) (by decide) ?_
        exact Does.refl ..
      · refine Does.step (State.newFault_does ..) (by decide) (by decide) ?_
        refine Does.step (State.setQp_does ..) (by decide) (by decide) ?_
        refine Does.step (State.translate_does (by assumption)) (by decide) (by decide) ?_
        exact Does.refl ..
      · extract_lets +onlyGivenNames x4
        refine Does.via (x := x4) ?_ (fun _ => ?_)
        · subst x4
          refine Does.step (State.hostWrite_does ..) (by decide) (by decide) ?_
          refine Does.step (State.translate_does (by assumption)) (by decide) (by decide) ?_
          exact Does.refl ..
        clear_value x4
        extract_lets +onlyGivenNames x5
        extract_lets +onlyGivenNames x6
        clear_value x6
        extract_lets +onlyGivenNames x7
        clear_value x7
        extract_lets +onlyGivenNames x8
        refine Does.via (x := x8) ?_ (fun _ => ?_)
        · subst x8
          refine Does.step (State.setQp_does ..) (by decide) (by decide) ?_
          assumption
        clear_value x8
        refine Does.step (State.settleQ_does ..) (by decide) (by decide) ?_
        refine Does.step (State.pulse_does ..) (by decide) (by decide) ?_
        refine Does.wr _ _ _ _ (by decide) ?_
        assumption

theorem State.writeRecord_does {s t : State} {e : ℕ} {words : List ℕ} {walk : Walk} {b : Bool} (h : s.writeRecord e words walk = (b, t)) :
    Does 0x188389800008 0x20000000000400000000000 s t := by
  have h2 : t = (s.writeRecord e words walk).2 := by rw [h]
  rw [h2]
  unfold State.writeRecord
  extract_lets tail a asid
  split
  · exact (State.translate_does (by assumption)).mono (by decide) (by decide)
  · refine Does.step (State.newFault_does ..) (by decide) (by decide) ?_
    refine Does.step (State.setEvr_does ..) (by decide) (by decide) ?_
    exact (State.translate_does (by assumption)).mono (by decide) (by decide)
  next pa u hu =>
    extract_lets x words1 s1 wraps counts s2 s3 s4
    have h1 : Does 0x188389800008 0x20000000000400000000000 s s1 := Does.step (State.hostWrite_does ..) (by decide) (by decide)
      ((State.translate_does hu).mono (by decide) (by decide))
    have h2 : Does 0x188389800008 0x20000000000400000000000 s s2 := Does.step (State.setEvr_does ..) (by decide) (by decide) h1
    have h3 : Does 0x188389800008 0x20000000000400000000000 s s3 := Does.wr _ _ _ _ (by decide) h2
    have h4 : Does 0x188389800008 0x20000000000400000000000 s s4 := Does.ite (fun _ => Does.wr _ _ _ _ (by decide) h3) (fun _ => h3)
    exact Does.step (State.pulse_does ..) (by decide) (by decide) h4

theorem State.writeRecord_doesS (s : State) (e : ℕ) (words : List ℕ) (walk : Walk) :
    Does 0x188389800008 0x20000000000400000000000 s (s.writeRecord e words walk).2 := State.writeRecord_does (b := (s.writeRecord e words walk).1) rfl

theorem State.loseRecord_does (s : State) (e : ℕ) (stamp : Stamp) :
    Does 0x80000000 0x1800000000000 s (State.loseRecord s e stamp) := by
  unfold State.loseRecord
  extract_lets +onlyGivenNames x0
  clear_value x0
  extract_lets +onlyGivenNames x1
  clear_value x1
  extract_lets +onlyGivenNames x2
  refine Does.via (x := x2) ?_ (fun _ => ?_)
  · subst x2
    refine Does.step (State.setEvr_does ..) (by decide) (by decide) ?_
    exact Does.refl ..
  clear_value x2
  refine Does.bump _ _ _ _ (by decide) ?_
  refine Does.wr _ _ _ _ (by decide) ?_
  assumption

theorem execEventRecordWrite_does (evr : EvrId) (walk : Walk) (s : State) :
    DoesO 0x188389800008 0x20000000001c00000000000 s (execEventRecordWrite evr walk s) := by
  unfold execEventRecordWrite
  extract_lets +onlyGivenNames x0
  clear_value x0
  extract_lets +onlyGivenNames x1
  clear_value x1
  extract_lets +onlyGivenNames x2
  clear_value x2
  refine DoesO.next ?_
  refine Does.ite (fun _ => ?_) (fun _ => ?_)
  · split
    · extract_lets +onlyGivenNames x3
      subst x3
      refine Does.ite (fun _ => ?_) (fun _ => ?_)
      · refine Does.step (State.setEvr_does ..) (by decide) (by decide) ?_
        refine Does.step (State.writeRecord_doesS ..) (by decide) (by decide) ?_
        exact Does.refl ..
      · refine Does.step (State.writeRecord_doesS ..) (by decide) (by decide) ?_
        exact Does.refl ..
    · extract_lets +onlyGivenNames x4
      subst x4
      refine Does.ite (fun _ => ?_) (fun _ => ?_)
      · extract_lets +onlyGivenNames x5
        refine Does.via (x := x5) ?_ (fun _ => ?_)
        · subst x5
          refine Does.step (State.writeRecord_doesS ..) (by decide) (by decide) ?_
          exact Does.refl ..
        clear_value x5
        refine Does.upd_evq _ (by decide) ?_
        assumption
      · refine Does.step (State.writeRecord_doesS ..) (by decide) (by decide) ?_
        exact Does.refl ..
    · exact Does.refl ..
  · split
    · exact Does.refl ..
    · extract_lets +onlyGivenNames x6
      refine Does.via (x := x6) ?_ (fun _ => ?_)
      · subst x6
        refine Does.upd_evq _ (by decide) ?_
        exact Does.refl ..
      clear_value x6
      refine Does.ite (fun _ => ?_) (fun _ => ?_)
      · refine Does.step (State.setEvr_does ..) (by decide) (by decide) ?_
        assumption
      · refine Does.step (State.loseRecord_does ..) (by decide) (by decide) ?_
        assumption

theorem execRloss_does (evr : EvrId) (walk : Walk) (s : State) :
    DoesO 0x188389800008 0x20000000000400000000000 s (execRloss evr walk s) := by
  unfold execRloss
  extract_lets +onlyGivenNames x0
  clear_value x0
  refine DoesO.next ?_
  split
  · exact Does.refl ..
  · refine Does.ite (fun _ => ?_) (fun _ => ?_)
    · exact Does.refl ..
    · extract_lets +onlyGivenNames x1
      clear_value x1
      extract_lets +onlyGivenNames x2
      subst x2
      refine Does.ite (fun _ => ?_) (fun _ => ?_)
      · extract_lets +onlyGivenNames x3
        clear_value x3
        extract_lets +onlyGivenNames x4
        refine Does.via (x := x4) ?_ (fun _ => ?_)
        · subst x4
          refine Does.step (State.setEvr_does ..) (by decide) (by decide) ?_
          refine Does.step (State.writeRecord_doesS ..) (by decide) (by decide) ?_
          exact Does.refl ..
        clear_value x4
        refine Does.upd_seqs _ (by decide) ?_
        assumption
      · refine Does.step (State.writeRecord_doesS ..) (by decide) (by decide) ?_
        exact Does.refl ..

theorem State.sendIrq_does (s : State) (ring : RingId) :
    Does 0x1880c9800008 0x20000000002000000000000 s (State.sendIrq s ring) := by
  unfold State.sendIrq
  extract_lets +onlyGivenNames x0
  clear_value x0
  split
  · refine Does.step (State.interrupt_does ..) (by decide) (by decide) ?_
    refine Does.step (State.setQp_does ..) (by decide) (by decide) ?_
    exact Does.refl ..
  · refine Does.step (State.interrupt_does ..) (by decide) (by decide) ?_
    refine Does.step (State.setEvr_does ..) (by decide) (by decide) ?_
    exact Does.refl ..

theorem execInterrupt_does (ring : RingId) (s : State) :
    DoesO 0x1880c9800008 0x20000000002000000000000 s (execInterrupt ring s) := by
  unfold execInterrupt
  extract_lets +onlyGivenNames x0
  clear_value x0
  refine DoesO.next ?_
  refine Does.ite (fun _ => ?_) (fun _ => ?_)
  · refine Does.step (State.sendIrq_does ..) (by decide) (by decide) ?_
    exact Does.refl ..
  · exact Does.refl ..

theorem execInterruptTime_does (ring : RingId) (s : State) :
    DoesO 0x1880c9800008 0x20000000002000000000000 s (execInterruptTime ring s) := by
  unfold execInterruptTime
  extract_lets +onlyGivenNames x0
  clear_value x0
  refine DoesO.next ?_
  refine Does.ite (fun _ => ?_) (fun _ => ?_)
  · refine Does.step (State.sendIrq_does ..) (by decide) (by decide) ?_
    exact Does.refl ..
  · exact Does.refl ..

theorem State.writeQpCfg_does (s : State) (q : ℕ) (v : ℕ) :
    Does 0x40000000 0x34000000000 s (State.writeQpCfg s q v) := by
  unfold State.writeQpCfg
  extract_lets +onlyGivenNames x0
  clear_value x0
  extract_lets +onlyGivenNames x1
  clear_value x1
  extract_lets +onlyGivenNames x2
  clear_value x2
  extract_lets +onlyGivenNames x3
  refine Does.via (x := x3) ?_ (fun _ => ?_)
  · subst x3
    refine Does.wr _ _ _ _ (by decide) ?_
    refine Does.wr _ _ _ _ (by decide) ?_
    refine Does.wr _ _ _ _ (by decide) ?_
    exact Does.refl ..
  clear_value x3
  extract_lets +onlyGivenNames x4
  refine Does.via (x := x4) ?_ (fun _ => ?_)
  · subst x4
    refine Does.wr _ _ _ _ (by decide) ?_
    assumption
  clear_value x4
  extract_lets +onlyGivenNames x5
  refine Does.via (x := x5) ?_ (fun _ => ?_)
  · subst x5
    refine Does.ite (fun _ => ?_) (fun _ => ?_)
    · refine Does.wr _ _ _ _ (by decide) ?_
      refine Does.wr _ _ _ _ (by decide) ?_
      assumption
    · refine Does.ite (fun _ => ?_) (fun _ => ?_)
      · refine Does.wr _ _ _ _ (by decide) ?_
        assumption
      · assumption
  clear_value x5
  refine Does.ite (fun _ => ?_) (fun _ => ?_)
  · refine Does.ite (fun _ => ?_) (fun _ => ?_)
    · extract_lets +onlyGivenNames x6
      refine Does.via (x := x6) ?_ (fun _ => ?_)
      · subst x6
        refine Does.wr _ _ _ _ (by decide) ?_
        refine Does.wr _ _ _ _ (by decide) ?_
        assumption
      clear_value x6
      extract_lets +onlyGivenNames x7
      refine Does.via (x := x7) ?_ (fun _ => ?_)
      · subst x7
        refine Does.wr _ _ _ _ (by decide) ?_
        refine Does.wr _ _ _ _ (by decide) ?_
        refine Does.wr _ _ _ _ (by decide) ?_
        assumption
      clear_value x7
      refine Does.step (State.setQp_does ..) (by decide) (by decide) ?_
      assumption
    · assumption
  · refine Does.ite (fun _ => ?_) (fun _ => ?_)
    · extract_lets +onlyGivenNames x8
      refine Does.via (x := x8) ?_ (fun _ => ?_)
      · subst x8
        refine Does.wr _ _ _ _ (by decide) ?_
        assumption
      clear_value x8
      refine Does.ite (fun _ => ?_) (fun _ => ?_)
      · refine Does.wr _ _ _ _ (by decide) ?_
        assumption
      · assumption
    · assumption

theorem execQpCfgEn_does (qp : QpId) (on : Bool) (s : State) :
    DoesO 0x40000000 0x34000000000 s (execQpCfgEn qp on s) := by
  unfold execQpCfgEn
  refine DoesO.next ?_
  refine Does.step (State.writeQpCfg_does ..) (by decide) (by decide) ?_
  exact Does.refl ..

theorem execDrainEnd_does (qp : QpId) (s : State) :
    DoesO 0x9800008 0x20000000000 s (execDrainEnd qp s) := by
  unfold execDrainEnd
  extract_lets +onlyGivenNames x0
  clear_value x0
  extract_lets +onlyGivenNames x1
  clear_value x1
  refine DoesO.next ?_
  refine Does.ite (fun _ => ?_) (fun _ => ?_)
  · refine Does.step (State.qpEvent_does ..) (by decide) (by decide) ?_
    refine Does.wr _ _ _ _ (by decide) ?_
    exact Does.refl ..
  · exact Does.refl ..

theorem State.writeEvrCfg_does (s : State) (e : ℕ) (v : ℕ) :
    Does 0x80800000 0x500000000000 s (State.writeEvrCfg s e v) := by
  unfold State.writeEvrCfg
  extract_lets +onlyGivenNames x0
  clear_value x0
  extract_lets +onlyGivenNames x1
  refine Does.via (x := x1) ?_ (fun _ => ?_)
  · subst x1
    refine Does.wr _ _ _ _ (by decide) ?_
    exact Does.refl ..
  clear_value x1
  extract_lets +onlyGivenNames x2
  refine Does.via (x := x2) ?_ (fun _ => ?_)
  · subst x2
    refine Does.ite (fun _ => ?_) (fun _ => ?_)
    · assumption
    · refine Does.wr _ _ _ _ (by decide) ?_
      assumption
  clear_value x2
  extract_lets +onlyGivenNames x3
  refine Does.via (x := x3) ?_ (fun _ => ?_)
  · subst x3
    refine Does.wr _ _ _ _ (by decide) ?_
    assumption
  clear_value x3
  refine Does.ite (fun _ => ?_) (fun _ => ?_)
  · refine Does.step (State.setEvr_does ..) (by decide) (by decide) ?_
    refine Does.wr _ _ _ _ (by decide) ?_
    refine Does.wr _ _ _ _ (by decide) ?_
    assumption
  · refine Does.ite (fun _ => ?_) (fun _ => ?_)
    · extract_lets +onlyGivenNames x4
      clear_value x4
      extract_lets +onlyGivenNames x5
      refine Does.via (x := x5) ?_ (fun _ => ?_)
      · subst x5
        refine Does.step (State.setEvr_does ..) (by decide) (by decide) ?_
        assumption
      clear_value x5
      refine Does.upd_evq _ (by decide) ?_
      assumption
    · assumption

theorem execEvrCfgEn_does (evr : EvrId) (on : Bool) (s : State) :
    DoesO 0x80800000 0x500000000000 s (execEvrCfgEn evr on s) := by
  unfold execEvrCfgEn
  refine DoesO.next ?_
  refine Does.step (State.writeEvrCfg_does ..) (by decide) (by decide) ?_
  exact Does.refl ..

theorem State.withdraw_does (s : State) (q : ℕ) (cid : ℕ) :
    Does 0x400008 0x400000000000000000000000000000000000000000000000000 s (State.withdraw s q cid) := by
  unfold State.withdraw
  split
  · exact Does.refl ..
  · extract_lets +onlyGivenNames x0
    refine Does.via (x := x0) ?_ (fun _ => ?_)
    · subst x0
      refine Does.foldl (fun _ _ _ => ?_) ?_
      · refine Does.ite (fun _ => ?_) (fun _ => ?_)
        · refine Does.step (State.setGstate_does ..) (by decide) (by decide) ?_
          refine Does.step (State.setGang_does ..) (by decide) (by decide) ?_
          refine Does.step (State.dropRunAhead_does ..) (by decide) (by decide) ?_
          assumption
        · assumption
      · exact Does.refl ..
    clear_value x0
    refine Does.upd_runs _ (by decide) ?_
    assumption

theorem State.flush_does (s : State) (q : ℕ) :
    Does 0x40400008 0x400000000000000000000000000000000000000000000000000 s (State.flush s q) := by
  unfold State.flush
  refine Does.foldl (fun _ _ _ => ?_) ?_
  · refine Does.step (State.finish_does ..) (by decide) (by decide) ?_
    refine Does.step (State.withdraw_does ..) (by decide) (by decide) ?_
    assumption
  · exact Does.refl ..

theorem execFlush_does (qp : QpId) (s : State) :
    DoesO 0x40400008 0x400000000000000000000000000000000000000000000000000 s (execFlush qp s) := by
  unfold execFlush
  refine DoesO.next ?_
  refine Does.step (State.flush_does ..) (by decide) (by decide) ?_
  exact Does.refl ..

theorem execD3hot_does (on : Bool) (s : State) :
    DoesO 0x4000000000 0x0 s (execD3hot on s) := by
  unfold execD3hot
  refine DoesO.next ?_
  refine Does.ite (fun _ => ?_) (fun _ => ?_)
  · refine Does.upd_d3hot _ (by decide) ?_
    exact Does.refl ..
  · exact Does.refl ..

theorem execTranslationFault_does (s : State) :
    DoesO 0x188669800018 0x400000000000010100000000000000000000000200000ff042820000000000 s (execTranslationFault s) := by
  unfold execTranslationFault
  refine DoesO.next ?_
  split
  · extract_lets +onlyGivenNames x0
    clear_value x0
    extract_lets +onlyGivenNames x1
    refine Does.via (x := x1) ?_ (fun _ => ?_)
    · subst x1
      refine Does.step (State.writeSlot_does ..) (by decide) (by decide) ?_
      refine Does.upd_mmuq _ (by decide) ?_
      exact Does.refl ..
    clear_value x1
    extract_lets +onlyGivenNames x2
    refine Does.via (x := x2) ?_ (fun _ => ?_)
    · subst x2
      refine Does.ite (fun _ => ?_) (fun _ => ?_)
      · assumption
      · refine Does.step (State.raise_does ..) (by decide) (by decide) ?_
        assumption
    clear_value x2
    extract_lets +onlyGivenNames x3
    refine Does.via (x := x3) ?_ (fun _ => ?_)
    · subst x3
      refine Does.ite (fun _ => ?_) (fun _ => ?_)
      · refine Does.step (State.interrupt_does ..) (by decide) (by decide) ?_
        assumption
      · assumption
    clear_value x3
    refine Does.ite (fun _ => ?_) (fun _ => ?_)
    · assumption
    · split
      · assumption
      · refine Does.step (State.endTransfer_does ..) (by decide) (by decide) ?_
        assumption
  · exact Does.refl ..

theorem State.markStale_does (s : State) (gone : List Tlb) :
    Does 0x40000000 0x0 s (State.markStale s gone) := by
  unfold State.markStale
  refine Does.foldl (fun _ _ _ => ?_) ?_
  · extract_lets +onlyGivenNames x0
    clear_value x0
    extract_lets +onlyGivenNames x1
    clear_value x1
    extract_lets +onlyGivenNames x2
    clear_value x2
    extract_lets +onlyGivenNames x3
    clear_value x3
    extract_lets +onlyGivenNames x4
    clear_value x4
    refine Does.ite (fun _ => ?_) (fun _ => ?_)
    · assumption
    · refine Does.step (State.setQp_does ..) (by decide) (by decide) ?_
      assumption
  · exact Does.refl ..

theorem State.writeMmuInv_does (s : State) (op : ℕ) (asid : ℕ) :
    Does 0x140000000 0xc0000000000000 s (State.writeMmuInv s op asid) := by
  unfold State.writeMmuInv
  refine Does.ite (fun _ => ?_) (fun _ => ?_)
  · refine Does.wr _ _ _ _ (by decide) ?_
    exact Does.refl ..
  · extract_lets +onlyGivenNames x0
    refine Does.via (x := x0) ?_ (fun _ => ?_)
    · subst x0
      refine Does.wr _ _ _ _ (by decide) ?_
      exact Does.refl ..
    clear_value x0
    refine Does.ite (fun _ => ?_) (fun _ => ?_)
    · assumption
    · extract_lets +onlyGivenNames x1
      clear_value x1
      refine Does.wr _ _ _ _ (by decide) ?_
      extract_lets +onlyGivenNames x2
      refine Does.via (x := x2) ?_ (fun _ => ?_)
      · subst x2
        refine Does.step (State.markStale_does ..) (by decide) (by decide) ?_
        assumption
      clear_value x2
      refine Does.upd_tlb _ (by decide) ?_
      assumption

theorem execMmuInv_does (op : Fin 4) (asid : BitVec 8) (s : State) :
    DoesO 0x140000000 0xc0000000000000 s (execMmuInv op asid s) := by
  unfold execMmuInv
  refine DoesO.next ?_
  refine Does.step (State.writeMmuInv_does ..) (by decide) (by decide) ?_
  exact Does.refl ..

theorem execInvalidationDone_does (s : State) :
    DoesO 0x0 0x80000000000000 s (execInvalidationDone s) := by
  unfold execInvalidationDone
  refine DoesO.next ?_
  refine Does.ite (fun _ => ?_) (fun _ => ?_)
  · refine Does.wr _ _ _ _ (by decide) ?_
    exact Does.refl ..
  · exact Does.refl ..

theorem State.retrySlot_does (s : State) (k : ℕ) (walk : Walk) :
    Does 0x3c8000000 0x2040820000000000 s (State.retrySlot s k walk) := by
  unfold State.retrySlot
  extract_lets +onlyGivenNames x0
  clear_value x0
  extract_lets +onlyGivenNames x1
  clear_value x1
  extract_lets +onlyGivenNames x2
  clear_value x2
  extract_lets +onlyGivenNames x3
  clear_value x3
  extract_lets +onlyGivenNames x4
  clear_value x4
  extract_lets +onlyGivenNames x5
  clear_value x5
  extract_lets +onlyGivenNames x6
  clear_value x6
  split
  · refine Does.step (State.translate_does (by assumption)) (by decide) (by decide) ?_
    exact Does.refl ..
  · extract_lets +onlyGivenNames x7
    refine Does.via (x := x7) ?_ (fun _ => ?_)
    · subst x7
      refine Does.step (State.setSlot_does ..) (by decide) (by decide) ?_
      refine Does.step (State.translate_does (by assumption)) (by decide) (by decide) ?_
      exact Does.refl ..
    clear_value x7
    refine Does.step (State.newFault_does ..) (by decide) (by decide) ?_
    assumption
  · extract_lets +onlyGivenNames x8
    refine Does.via (x := x8) ?_ (fun _ => ?_)
    · subst x8
      refine Does.step (State.setSlot_does ..) (by decide) (by decide) ?_
      refine Does.step (State.translate_does (by assumption)) (by decide) (by decide) ?_
      exact Does.refl ..
    clear_value x8
    refine Does.ite (fun _ => ?_) (fun _ => ?_)
    · split
      · refine Does.step (State.putDesc_does ..) (by decide) (by decide) ?_
        assumption
      · assumption
    · refine Does.ite (fun _ => ?_) (fun _ => ?_)
      · refine Does.step (State.setQp_does ..) (by decide) (by decide) ?_
        assumption
      · refine Does.ite (fun _ => ?_) (fun _ => ?_)
        · refine Does.step (State.setQp_does ..) (by decide) (by decide) ?_
          assumption
        · refine Does.step (State.setEvr_does ..) (by decide) (by decide) ?_
          assumption

theorem execRetry_does (slot : Fin 16) (gen : BitVec 8) (walk : Walk) (s : State) :
    DoesO 0x3c8000000 0x2040820000000000 s (execRetry slot gen walk s) := by
  unfold execRetry
  refine DoesO.next ?_
  refine Does.ite (fun _ => ?_) (fun _ => ?_)
  · refine Does.step (State.retrySlot_does ..) (by decide) (by decide) ?_
    exact Does.refl ..
  · refine Does.wr _ _ _ _ (by decide) ?_
    exact Does.refl ..

theorem execFaultAbort_does (slot : Fin 16) (gen : BitVec 8) (s : State) :
    DoesO 0x4e9800018 0x40000000000001010000000000000000000000000000002041920000000000 s (execFaultAbort slot gen s) := by
  unfold execFaultAbort
  refine DoesO.next ?_
  refine Does.ite (fun _ => ?_) (fun _ => ?_)
  · refine Does.step (State.abortSlot_does ..) (by decide) (by decide) ?_
    exact Does.refl ..
  · refine Does.wr _ _ _ _ (by decide) ?_
    exact Does.refl ..

theorem execFtmo_does (slot : Fin 16) (s : State) :
    DoesO 0x4e9800018 0x40000000000001010000000000000000000000000000002041920000000000 s (execFtmo slot s) := by
  unfold execFtmo
  extract_lets +onlyGivenNames x0
  clear_value x0
  extract_lets +onlyGivenNames x1
  clear_value x1
  extract_lets +onlyGivenNames x2
  clear_value x2
  refine DoesO.next ?_
  refine Does.ite (fun _ => ?_) (fun _ => ?_)
  · refine Does.wr _ _ _ _ (by decide) ?_
    refine Does.step (State.abortSlot_does ..) (by decide) (by decide) ?_
    exact Does.refl ..
  · exact Does.refl ..

theorem State.preempt_does (s : State) (q : ℕ) :
    Does 0x8 0x3800000000000000000 s (State.preempt s q) := by
  unfold State.preempt
  refine Does.ite (fun _ => ?_) (fun _ => ?_)
  · refine Does.wr _ _ _ _ (by decide) ?_
    exact Does.refl ..
  · refine Does.foldl (fun _ _ _ => ?_) ?_
    · refine Does.ite (fun _ => ?_) (fun _ => ?_)
      · refine Does.step (State.setGang_does ..) (by decide) (by decide) ?_
        assumption
      · assumption
    · refine Does.step (State.setPreempt_does ..) (by decide) (by decide) ?_
      exact Does.refl ..

theorem execPreempt_does (qp : QpId) (s : State) :
    DoesO 0x8 0x3800000000000000000 s (execPreempt qp s) := by
  unfold execPreempt
  refine DoesO.next ?_
  refine Does.step (State.preempt_does ..) (by decide) (by decide) ?_
  exact Does.refl ..

theorem execPreempted_does (qp : QpId) (s : State) :
    DoesO 0x9800008 0x20000000000 s (execPreempted qp s) := by
  unfold execPreempted
  extract_lets +onlyGivenNames x0
  clear_value x0
  refine DoesO.next ?_
  refine Does.ite (fun _ => ?_) (fun _ => ?_)
  · refine Does.step (State.raise_does ..) (by decide) (by decide) ?_
    refine Does.wr _ _ _ _ (by decide) ?_
    exact Does.refl ..
  · exact Does.refl ..

theorem State.resumeQp_does (s : State) (q : ℕ) :
    Does 0x200000000008 0x3800000020000000000 s (State.resumeQp s q) := by
  unfold State.resumeQp
  refine Does.ite (fun _ => ?_) (fun _ => ?_)
  · exact Does.refl ..
  · extract_lets +onlyGivenNames x0
    clear_value x0
    extract_lets +onlyGivenNames x1
    clear_value x1
    extract_lets +onlyGivenNames x2
    clear_value x2
    extract_lets +onlyGivenNames x3
    refine Does.via (x := x3) ?_ (fun _ => ?_)
    · subst x3
      refine Does.wr _ _ _ _ (by decide) ?_
      refine Does.step (State.setPreempt_does ..) (by decide) (by decide) ?_
      exact Does.refl ..
    clear_value x3
    refine Does.foldl (fun _ _ _ => ?_) ?_
    · extract_lets +onlyGivenNames x4
      clear_value x4
      extract_lets +onlyGivenNames x5
      refine Does.via (x := x5) ?_ (fun _ => ?_)
      · subst x5
        refine Does.step (State.setGang_does ..) (by decide) (by decide) ?_
        assumption
      clear_value x5
      refine Does.ite (fun _ => ?_) (fun _ => ?_)
      · extract_lets +onlyGivenNames x6
        clear_value x6
        extract_lets +onlyGivenNames x7
        refine Does.via (x := x7) ?_ (fun _ => ?_)
        · subst x7
          refine Does.upd_pwr _ (by decide) ?_
          assumption
        clear_value x7
        refine Does.ite (fun _ => ?_) (fun _ => ?_)
        · refine Does.wr _ _ _ _ (by decide) ?_
          assumption
        · assumption
      · assumption
    · assumption

theorem execResume_does (qp : QpId) (s : State) :
    DoesO 0x200000000008 0x3800000020000000000 s (execResume qp s) := by
  unfold execResume
  refine DoesO.next ?_
  refine Does.step (State.resumeQp_does ..) (by decide) (by decide) ?_
  exact Does.refl ..

theorem State.discard_does (s : State) (q : ℕ) :
    Does 0x800200679c034f8 0x4800040000000006413010004004000008000000000000003002040820000000000 s (State.discard s q) := by
  unfold State.discard
  refine Does.ite (fun _ => ?_) (fun _ => ?_)
  · exact Does.refl ..
  · extract_lets +onlyGivenNames x0
    clear_value x0
    extract_lets +onlyGivenNames x1
    clear_value x1
    extract_lets +onlyGivenNames x2
    refine Does.via (x := x2) ?_ (fun _ => ?_)
    · subst x2
      refine Does.foldl (fun _ _ _ => ?_) ?_
      · extract_lets +onlyGivenNames x3
        refine Does.via (x := x3) ?_ (fun _ => ?_)
        · subst x3
          refine Does.foldl (fun _ _ _ => ?_) ?_
          · refine Does.step (State.setSlot_does ..) (by decide) (by decide) ?_
            assumption
          · assumption
        clear_value x3
        refine Does.step (State.endTransfer_does ..) (by decide) (by decide) ?_
        refine Does.upd_mmuq _ (by decide) ?_
        assumption
      · exact Does.refl ..
    clear_value x2
    extract_lets +onlyGivenNames x4
    refine Does.via (x := x4) ?_ (fun _ => ?_)
    · subst x4
      refine Does.foldl (fun _ _ _ => ?_) ?_
      · refine Does.step (State.haltGang_does ..) (by decide) (by decide) ?_
        refine Does.step (State.setGang_does ..) (by decide) (by decide) ?_
        assumption
      · assumption
    clear_value x4
    extract_lets +onlyGivenNames x5
    clear_value x5
    extract_lets +onlyGivenNames x6
    refine Does.via (x := x6) ?_ (fun _ => ?_)
    · subst x6
      refine Does.upd_runs_pwr _ _ (by decide) (by decide) ?_
      assumption
    clear_value x6
    extract_lets +onlyGivenNames x7
    refine Does.via (x := x7) ?_ (fun _ => ?_)
    · subst x7
      refine Does.foldl (fun _ _ _ => ?_) ?_
      · refine Does.step (State.setGang_does ..) (by decide) (by decide) ?_
        assumption
      · assumption
    clear_value x7
    refine Does.wr _ _ _ _ (by decide) ?_
    refine Does.step (State.setPreempt_does ..) (by decide) (by decide) ?_
    assumption

theorem execDiscard_does (qp : QpId) (s : State) :
    DoesO 0x800200679c034f8 0x4800040000000006413010004004000008000000000000003002040820000000000 s (execDiscard qp s) := by
  unfold execDiscard
  refine DoesO.next ?_
  refine Does.step (State.discard_does ..) (by decide) (by decide) ?_
  exact Does.refl ..

end Sys2Proof.Machine
end

