-- ==== Sys2Proof/Laws/DoesLoadRows.lean ====
section
/-! SUPPORT. What each operation and meaning of Machine/LoadRows.lean may touch. -/

namespace Sys2Proof.Machine

open Sys2Proof

set_option linter.unusedVariables false

theorem State.hold_does (s : State) (q : ℕ) (d : Desc) :
    Does 0x40000000 0x0 s (State.hold s q d) := by
  unfold State.hold
  refine Does.step (State.putDesc_does ..) (by decide) (by decide) ?_
  exact Does.refl ..

theorem State.advance_doesH {F R : Nat} {s0 s : State} {qp cid opc : ℕ} {check : State → Desc → ℕ}
    {begin_ go : Desc → State → State} (hF : Sub 0x40000000 F) (hR : Sub 0x0 R) (hb : ∀ d s, Does F R s (begin_ d s))
    (hg : ∀ d s, Does F R s (go d s)) (h : Does F R s0 s) : Does F R s0 (s.advance qp cid opc check begin_ go) := by
  refine h.trans ?_
  unfold State.advance
  split
  · exact Does.refl ..
  next d t ht =>
    have hs : Does F R s t := (State.start_does ht).mono (Sub.trans (by decide) hF) (Sub.trans (by decide) hR)
    split
    · exact hs
    · split
      · exact hs.trans (hg ..)
      · extract_lets why
        split
        · exact Does.step (State.endDesc_does ..) (Sub.trans (by decide) hF) (Sub.trans (by decide) hR) hs
        · split
          · exact Does.step (State.hold_does ..) (Sub.trans (by decide) hF) (Sub.trans (by decide) hR) hs
          · exact hs.trans (hb ..)

theorem State.begins_does (s : State) (q : ℕ) (d : Desc) (total : ℕ) :
    Does 0x40000000 0x0 s (State.begins s q d total) := by
  unfold State.begins
  refine Does.step (State.putDesc_does ..) (by decide) (by decide) ?_
  exact Does.refl ..

theorem State.moveThen_doesH {F R : Nat} {s0 s : State} {q : ℕ} {d : Desc} {walk : Walk}
    {carry : Desc → State → State} (hF : Sub 0x1a8349800008 F) (hR : Sub 0x20004000000000000000000 R) (hc : ∀ d s, Does F R s (carry d s))
    (h : Does F R s0 s) : Does F R s0 (s.moveThen q d walk carry) := by
  refine h.trans ?_
  unfold State.moveThen
  refine Does.ite (fun _ => ?_) (fun _ => Does.ite (fun _ => ?_) (fun _ => hc ..))
  · exact (State.readChunk_does ..).mono (Sub.trans (by decide) hF) (Sub.trans (by decide) hR)
  · exact (State.hold_does ..).mono (Sub.trans (by decide) hF) (Sub.trans (by decide) hR)

theorem execHeldLoadRelease_does (qp : QpId) (cid : ℕ) (s : State) :
    DoesO 0x40000000 0x0 s (execHeldLoadRelease qp cid s) := by
  unfold execHeldLoadRelease
  refine DoesO.next ?_
  split
  · exact Does.refl ..
  · refine Does.ite (fun _ => ?_) (fun _ => ?_)
    · exact Does.refl ..
    · refine Does.ite (fun _ => ?_) (fun _ => ?_)
      · exact Does.refl ..
      · refine Does.step (State.putDesc_does ..) (by decide) (by decide) ?_
        exact Does.refl ..

theorem State.writeTable_does (s : State) (ty : ℕ) (pod : ℕ) (first : ℕ) (es : List (List ℕ)) :
    Does 0x10 0x300000000000000000000000000000000000000000000000000000000000 s (State.writeTable s ty pod first es) := by
  unfold State.writeTable
  refine Does.foldl (fun _ _ _ => ?_) ?_
  · extract_lets +onlyGivenNames x0
    clear_value x0
    extract_lets +onlyGivenNames x1
    clear_value x1
    extract_lets +onlyGivenNames x2
    clear_value x2
    refine Does.ite (fun _ => ?_) (fun _ => ?_)
    · extract_lets +onlyGivenNames x3
      refine Does.via (x := x3) ?_ (fun _ => ?_)
      · subst x3
        refine Does.step (State.setPod_does ..) (by decide) (by decide) ?_
        assumption
      clear_value x3
      refine Does.ite (fun _ => ?_) (fun _ => ?_)
      · refine Does.wr _ _ _ _ (by decide) ?_
        assumption
      · refine Does.wr _ _ _ _ (by decide) ?_
        assumption
    · refine Does.ite (fun _ => ?_) (fun _ => ?_)
      · refine Does.step (State.setPod_does ..) (by decide) (by decide) ?_
        assumption
      · refine Does.ite (fun _ => ?_) (fun _ => ?_)
        · refine Does.step (State.setPod_does ..) (by decide) (by decide) ?_
          assumption
        · refine Does.step (State.setSeg_does ..) (by decide) (by decide) ?_
          assumption
  · exact Does.refl ..

theorem State.idlePods_does (s : State) (old : List ℕ) :
    Does 0x20 0x0 s (State.idlePods s old) := by
  unfold State.idlePods
  refine Does.foldl (fun _ _ _ => ?_) ?_
  · refine Does.foldl (fun _ _ _ => ?_) ?_
    · refine Does.step (State.setPin_does ..) (by decide) (by decide) ?_
      assumption
    · assumption
  · exact Does.refl ..

theorem State.writeShared_does (s : State) (ty : ℕ) (first : ℕ) (es : List (List ℕ)) :
    Does 0x200320 0x0 s (State.writeShared s ty first es) := by
  unfold State.writeShared
  extract_lets +onlyGivenNames x0
  clear_value x0
  extract_lets +onlyGivenNames x1
  refine Does.via (x := x1) ?_ (fun _ => ?_)
  · subst x1
    refine Does.foldl (fun _ _ _ => ?_) ?_
    · extract_lets +onlyGivenNames x2
      clear_value x2
      extract_lets +onlyGivenNames x3
      clear_value x3
      refine Does.ite (fun _ => ?_) (fun _ => ?_)
      · refine Does.upd_siteMap _ (by decide) ?_
        assumption
      · refine Does.ite (fun _ => ?_) (fun _ => ?_)
        · refine Does.upd_iuSetup _ (by decide) ?_
          assumption
        · refine Does.upd_pmuSetup _ (by decide) ?_
          assumption
    · exact Does.refl ..
  clear_value x1
  refine Does.ite (fun _ => ?_) (fun _ => ?_)
  · refine Does.step (State.idlePods_does ..) (by decide) (by decide) ?_
    assumption
  · assumption

theorem State.tblCarry_does (s : State) (q : ℕ) (d : Desc) :
    Does 0x40200330 0x1e0000b00000000000000000000000000000000000000000000000000000000000 s (State.tblCarry s q d) := by
  unfold State.tblCarry
  extract_lets +onlyGivenNames x0
  clear_value x0
  refine Does.ite (fun _ => ?_) (fun _ => ?_)
  · extract_lets +onlyGivenNames x1
    clear_value x1
    extract_lets +onlyGivenNames x2
    clear_value x2
    extract_lets +onlyGivenNames x3
    clear_value x3
    refine Does.ite (fun _ => ?_) (fun _ => ?_)
    · refine Does.step (State.endDesc_does ..) (by decide) (by decide) ?_
      exact Does.refl ..
    · extract_lets +onlyGivenNames x4
      refine Does.via (x := x4) ?_ (fun _ => ?_)
      · subst x4
        refine Does.foldl (fun _ _ _ => ?_) ?_
        · refine Does.step (State.writeTable_does ..) (by decide) (by decide) ?_
          assumption
        · exact Does.refl ..
      clear_value x4
      extract_lets +onlyGivenNames x5
      refine Does.via (x := x5) ?_ (fun _ => ?_)
      · subst x5
        refine Does.ite (fun _ => ?_) (fun _ => ?_)
        · refine Does.foldl (fun _ _ _ => ?_) ?_
          · refine Does.step (State.applyLevels_does ..) (by decide) (by decide) ?_
            assumption
          · assumption
        · assumption
      clear_value x5
      refine Does.step (State.endDesc_does ..) (by decide) (by decide) ?_
      assumption
  · extract_lets +onlyGivenNames x6
    clear_value x6
    refine Does.ite (fun _ => ?_) (fun _ => ?_)
    · refine Does.step (State.endDesc_does ..) (by decide) (by decide) ?_
      exact Does.refl ..
    · refine Does.step (State.endDesc_does ..) (by decide) (by decide) ?_
      refine Does.step (State.writeShared_does ..) (by decide) (by decide) ?_
      exact Does.refl ..

theorem execTblLoad_does (qp : QpId) (cid : ℕ) (walk : Walk) (s : State) :
    DoesO 0x1a8349a00338 0x1e0000b00000000000000000000000000000000000020004000000000000000000 s (execTblLoad qp cid walk s) := by
  unfold execTblLoad
  refine DoesO.next ?_
  refine State.advance_doesH (by decide) (by decide) (fun _ x0 => ?_) (fun _ x0 => ?_) ?_
  · refine Does.step (State.begins_does ..) (by decide) (by decide) ?_
    exact Does.refl ..
  · refine State.moveThen_doesH (by decide) (by decide) (fun _ x1 => ?_) ?_
    · refine Does.step (State.tblCarry_does ..) (by decide) (by decide) ?_
      exact Does.refl ..
    · exact Does.refl ..
  · exact Does.refl ..

theorem State.noteWract_does (s : State) (d : Desc) (k : ℕ) :
    Does 0x0 0x200000000000000000000000000000000000000000000000000000000 s (State.noteWract s d k) := by
  unfold State.noteWract
  refine Does.foldl (fun _ _ _ => ?_) ?_
  · extract_lets +onlyGivenNames x0
    clear_value x0
    refine Does.ite (fun _ => ?_) (fun _ => ?_)
    · refine Does.wr _ _ _ _ (by decide) ?_
      assumption
    · assumption
  · exact Does.refl ..

theorem State.bytesIn_does (s : State) (pod : ℕ) (x : SegX) (b : List ℕ) :
    Does 0x8000 0x0 s (State.bytesIn s pod x b) := by
  unfold State.bytesIn
  refine Does.upd_segMem _ ?_ (by decide) ?_
  · exact fun h => Memory.writeBytes_wf h _ _
  · exact Does.refl ..

theorem State.segCarry_does (s : State) (q : ℕ) (d : Desc) :
    Does 0x48008010 0x0 s (State.segCarry s q d) := by
  unfold State.segCarry
  extract_lets +onlyGivenNames x0
  clear_value x0
  extract_lets +onlyGivenNames x1
  clear_value x1
  extract_lets +onlyGivenNames x2
  subst x2
  refine Does.step (State.endDesc_does ..) (by decide) (by decide) ?_
  refine Does.foldlFst (fun _ _ _ => ?_) ?_
  · extract_lets +onlyGivenNames x3
    clear_value x3
    extract_lets +onlyGivenNames x4
    clear_value x4
    extract_lets +onlyGivenNames x5
    refine Does.via (x := x5) ?_ (fun _ => ?_)
    · subst x5
      refine Does.step (State.setSeg_does ..) (by decide) (by decide) ?_
      refine Does.step (State.bytesIn_does ..) (by decide) (by decide) ?_
      assumption
    clear_value x5
    dsimp only
    refine Does.step (State.pulse_does ..) (by decide) (by decide) ?_
    assumption
  · dsimp only
    exact Does.refl ..

theorem execSegLoad_does (qp : QpId) (cid : ℕ) (walk : Walk) (s : State) :
    DoesO 0x1a8349808018 0x200000000000000000000000000000000020004000000000000000000 s (execSegLoad qp cid walk s) := by
  unfold execSegLoad
  refine DoesO.next ?_
  refine State.advance_doesH (by decide) (by decide) (fun _ x0 => ?_) (fun _ x0 => ?_) ?_
  · extract_lets +onlyGivenNames x1
    clear_value x1
    refine Does.ite (fun _ => ?_) (fun _ => ?_)
    · refine Does.step (State.endDesc_does ..) (by decide) (by decide) ?_
      refine Does.step (State.noteWract_does ..) (by decide) (by decide) ?_
      exact Does.refl ..
    · extract_lets +onlyGivenNames x2
      clear_value x2
      extract_lets +onlyGivenNames x3
      clear_value x3
      extract_lets +onlyGivenNames x4
      refine Does.via (x := x4) ?_ (fun _ => ?_)
      · subst x4
        refine Does.foldl (fun _ _ _ => ?_) ?_
        · extract_lets +onlyGivenNames x5
          clear_value x5
          refine Does.step (State.setSeg_does ..) (by decide) (by decide) ?_
          assumption
        · exact Does.refl ..
      clear_value x4
      refine Does.step (State.begins_does ..) (by decide) (by decide) ?_
      assumption
  · refine Does.ite (fun _ => ?_) (fun _ => ?_)
    · refine Does.step (State.readChunk_does ..) (by decide) (by decide) ?_
      exact Does.refl ..
    · refine Does.step (State.segCarry_does ..) (by decide) (by decide) ?_
      exact Does.refl ..
  · exact Does.refl ..

theorem execRefill_does (qp : QpId) (cid : ℕ) (s : State) :
    DoesO 0x48008010 0x200000000200000000000000000000000000000000000000000000000 s (execRefill qp cid s) := by
  unfold execRefill
  refine DoesO.next ?_
  refine State.advance_doesH (by decide) (by decide) (fun _ x0 => ?_) (fun _ x0 => ?_) ?_
  · extract_lets +onlyGivenNames x1
    clear_value x1
    extract_lets +onlyGivenNames x2
    clear_value x2
    refine Does.ite (fun _ => ?_) (fun _ => ?_)
    · refine Does.step (State.endDesc_does ..) (by decide) (by decide) ?_
      refine Does.step (State.noteWract_does ..) (by decide) (by decide) ?_
      exact Does.refl ..
    · refine Does.ite (fun _ => ?_) (fun _ => ?_)
      · refine Does.step (State.endDesc_does ..) (by decide) (by decide) ?_
        exact Does.refl ..
      · refine Does.step (State.begins_does ..) (by decide) (by decide) ?_
        refine Does.foldl (fun _ _ _ => ?_) ?_
        · refine Does.step (State.startLoad_does ..) (by decide) (by decide) ?_
          assumption
        · exact Does.refl ..
  · extract_lets +onlyGivenNames x3
    clear_value x3
    extract_lets +onlyGivenNames x4
    clear_value x4
    refine Does.ite (fun _ => ?_) (fun _ => ?_)
    · exact Does.refl ..
    · extract_lets +onlyGivenNames x5
      clear_value x5
      extract_lets +onlyGivenNames x6
      refine Does.via (x := x6) ?_ (fun _ => ?_)
      · subst x6
        refine Does.foldl (fun _ _ _ => ?_) ?_
        · refine Does.step (State.finishLoad_does ..) (by decide) (by decide) ?_
          assumption
        · exact Does.refl ..
      clear_value x6
      refine Does.step (State.endDesc_does ..) (by decide) (by decide) ?_
      assumption
  · exact Does.refl ..

theorem State.poolIn_does (s : State) (q : ℕ) (d : Desc) :
    Does 0x40030000 0x0 s (State.poolIn s q d) := by
  unfold State.poolIn
  extract_lets +onlyGivenNames x0
  clear_value x0
  extract_lets +onlyGivenNames x1
  clear_value x1
  extract_lets +onlyGivenNames x2
  refine Does.via (x := x2) ?_ (fun _ => ?_)
  · subst x2
    refine Does.upd_poolMem_poolBad _ _ ?_ (by decide) (by decide) ?_
    · exact fun h => Memory.writeBytes_wf h _ _
    · exact Does.refl ..
  clear_value x2
  refine Does.step (State.putDesc_does ..) (by decide) (by decide) ?_
  assumption

theorem execPoolLoad_does (qp : QpId) (cid : ℕ) (walk : Walk) (s : State) :
    DoesO 0x1a8349830008 0x100000000000000000000000020004000000000000000000 s (execPoolLoad qp cid walk s) := by
  unfold execPoolLoad
  refine DoesO.next ?_
  refine State.advance_doesH (by decide) (by decide) (fun _ x0 => ?_) (fun _ x0 => ?_) ?_
  · extract_lets +onlyGivenNames x1
    clear_value x1
    extract_lets +onlyGivenNames x2
    clear_value x2
    refine Does.ite (fun _ => ?_) (fun _ => ?_)
    · refine Does.step (State.endDesc_does ..) (by decide) (by decide) ?_
      refine Does.wr _ _ _ _ (by decide) ?_
      exact Does.refl ..
    · refine Does.step (State.begins_does ..) (by decide) (by decide) ?_
      exact Does.refl ..
  · extract_lets +onlyGivenNames x3
    refine Does.via (x := x3) ?_ (fun _ => ?_)
    · subst x3
      refine Does.step (State.poolIn_does ..) (by decide) (by decide) ?_
      exact Does.refl ..
    clear_value x3
    extract_lets +onlyGivenNames x4
    refine Does.ite (fun _ => ?_) (fun _ => ?_)
    · refine Does.step (State.readChunk_does ..) (by decide) (by decide) ?_
      assumption
    · refine Does.step (State.endDesc_does ..) (by decide) (by decide) ?_
      assumption
  · exact Does.refl ..

theorem State.install_does (s : State) (b : List ℕ) (p : ℕ) :
    Does 0x10 0x74000000000000000000000000000000000000000000000000000 s (State.install s b p) := by
  unfold State.install
  extract_lets +onlyGivenNames x0
  clear_value x0
  extract_lets +onlyGivenNames x1
  clear_value x1
  extract_lets +onlyGivenNames x2
  clear_value x2
  extract_lets +onlyGivenNames x3
  refine Does.via (x := x3) ?_ (fun _ => ?_)
  · subst x3
    refine Does.step (State.setPod_does ..) (by decide) (by decide) ?_
    exact Does.refl ..
  clear_value x3
  extract_lets +onlyGivenNames x4
  refine Does.via (x := x4) ?_ (fun _ => ?_)
  · subst x4
    refine Does.wr _ _ _ _ (by decide) ?_
    refine Does.wr _ _ _ _ (by decide) ?_
    refine Does.wr _ _ _ _ (by decide) ?_
    assumption
  clear_value x4
  extract_lets +onlyGivenNames x5
  refine Does.via (x := x5) ?_ (fun _ => ?_)
  · subst x5
    refine Does.wr _ _ _ _ (by decide) ?_
    refine Does.wr _ _ _ _ (by decide) ?_
    assumption
  clear_value x5
  refine Does.wr _ _ _ _ (by decide) ?_
  refine Does.wr _ _ _ _ (by decide) ?_
  assumption

theorem execUcodeLoad_does (qp : QpId) (cid : ℕ) (walk : Walk) (s : State) :
    DoesO 0x1a8349800018 0x74000000000000000000000000000020004000000000000000000 s (execUcodeLoad qp cid walk s) := by
  unfold execUcodeLoad
  refine DoesO.next ?_
  refine State.advance_doesH (by decide) (by decide) (fun _ x0 => ?_) (fun _ x0 => ?_) ?_
  · refine Does.step (State.begins_does ..) (by decide) (by decide) ?_
    exact Does.refl ..
  · refine State.moveThen_doesH (by decide) (by decide) (fun _ x1 => ?_) ?_
    · extract_lets +onlyGivenNames x2
      clear_value x2
      refine Does.ite (fun _ => ?_) (fun _ => ?_)
      · refine Does.step (State.endDesc_does ..) (by decide) (by decide) ?_
        exact Does.refl ..
      · extract_lets +onlyGivenNames x3
        clear_value x3
        refine Does.ite (fun _ => ?_) (fun _ => ?_)
        · refine Does.step (State.endDesc_does ..) (by decide) (by decide) ?_
          exact Does.refl ..
        · refine Does.step (State.endDesc_does ..) (by decide) (by decide) ?_
          refine Does.foldl (fun _ _ _ => ?_) ?_
          · refine Does.step (State.install_does ..) (by decide) (by decide) ?_
            assumption
          · exact Does.refl ..
    · exact Does.refl ..
  · exact Does.refl ..

theorem execStream_does (qp : QpId) (cid : ℕ) (walk : Walk) (s : State) :
    DoesO 0x1a8349800008 0x20004000000000000000000 s (execStream qp cid walk s) := by
  unfold execStream
  refine DoesO.next ?_
  refine State.advance_doesH (by decide) (by decide) (fun _ x0 => ?_) (fun _ x0 => ?_) ?_
  · extract_lets +onlyGivenNames x1
    clear_value x1
    extract_lets +onlyGivenNames x2
    clear_value x2
    refine Does.step (State.begins_does ..) (by decide) (by decide) ?_
    exact Does.refl ..
  · extract_lets +onlyGivenNames x3
    clear_value x3
    refine Does.ite (fun _ => ?_) (fun _ => ?_)
    · refine Does.step (State.endDesc_does ..) (by decide) (by decide) ?_
      exact Does.refl ..
    · refine Does.step (State.readChunk_does ..) (by decide) (by decide) ?_
      exact Does.refl ..
  · exact Does.refl ..

theorem execCapUpload_does (qp : QpId) (cid : ℕ) (walk : Walk) (s : State) :
    DoesO 0x1a8349800018 0x40000000000000000000000000000000000000020004000000000000000000 s (execCapUpload qp cid walk s) := by
  unfold execCapUpload
  refine DoesO.next ?_
  refine State.advance_doesH (by decide) (by decide) (fun _ x0 => ?_) (fun _ x0 => ?_) ?_
  · extract_lets +onlyGivenNames x1
    clear_value x1
    refine Does.step (State.begins_does ..) (by decide) (by decide) ?_
    exact Does.refl ..
  · extract_lets +onlyGivenNames x2
    clear_value x2
    refine Does.ite (fun _ => ?_) (fun _ => ?_)
    · refine Does.step (State.writeChunk_does ..) (by decide) (by decide) ?_
      exact Does.refl ..
    · extract_lets +onlyGivenNames x3
      refine Does.via (x := x3) ?_ (fun _ => ?_)
      · subst x3
        refine Does.step (State.endUpload_does ..) (by decide) (by decide) ?_
        exact Does.refl ..
      clear_value x3
      refine Does.step (State.endDesc_does ..) (by decide) (by decide) ?_
      assumption
  · exact Does.refl ..

theorem execLedgDrain_does (qp : QpId) (cid : ℕ) (walk : Walk) (s : State) :
    DoesO 0x1a8369800008 0x1000000000000000000000000020004000000000000000000 s (execLedgDrain qp cid walk s) := by
  unfold execLedgDrain
  refine DoesO.next ?_
  refine State.advance_doesH (by decide) (by decide) (fun _ x0 => ?_) (fun _ x0 => ?_) ?_
  · refine Does.step (State.begins_does ..) (by decide) (by decide) ?_
    exact Does.refl ..
  · refine Does.ite (fun _ => ?_) (fun _ => ?_)
    · refine Does.step (State.writeChunk_does ..) (by decide) (by decide) ?_
      exact Does.refl ..
    · extract_lets +onlyGivenNames x1
      refine Does.via (x := x1) ?_ (fun _ => ?_)
      · subst x1
        refine Does.step (State.endDrain_does ..) (by decide) (by decide) ?_
        exact Does.refl ..
      clear_value x1
      refine Does.step (State.endDesc_does ..) (by decide) (by decide) ?_
      assumption
  · exact Does.refl ..

theorem State.armSnap_does (s : State) (k : ℕ) (t : Stamp) (desc : Option (ℕ × ℕ)) :
    Does 0x800000000 0x8000000 s (State.armSnap s k t desc) := by
  unfold State.armSnap
  extract_lets +onlyGivenNames x0
  clear_value x0
  extract_lets +onlyGivenNames x1
  clear_value x1
  extract_lets +onlyGivenNames x2
  clear_value x2
  refine Does.wr _ _ _ _ (by decide) ?_
  refine Does.step (State.setSnap_does ..) (by decide) (by decide) ?_
  exact Does.refl ..

theorem execSnapshot_does (qp : QpId) (cid : ℕ) (s : State) :
    DoesO 0x840000000 0x8000000 s (execSnapshot qp cid s) := by
  unfold execSnapshot
  refine DoesO.next ?_
  refine State.advance_doesH (by decide) (by decide) (fun _ x0 => ?_) (fun _ x0 => ?_) ?_
  · split
    · refine Does.step (State.endDesc_does ..) (by decide) (by decide) ?_
      exact Does.refl ..
    · refine Does.step (State.armSnap_does ..) (by decide) (by decide) ?_
      refine Does.step (State.begins_does ..) (by decide) (by decide) ?_
      exact Does.refl ..
  · exact Does.refl ..
  · exact Does.refl ..

theorem execStepRun_does (qp : QpId) (cid : ℕ) (s : State) :
    DoesO 0x40400000 0x400000000000000000000000000000000000000000000000000 s (execStepRun qp cid s) := by
  unfold execStepRun
  refine DoesO.next ?_
  split
  · exact Does.refl ..
  · refine Does.ite (fun _ => ?_) (fun _ => ?_)
    · refine Does.step (State.start_does (by assumption)) (by decide) (by decide) ?_
      exact Does.refl ..
    · extract_lets +onlyGivenNames x0
      clear_value x0
      refine Does.ite (fun _ => ?_) (fun _ => ?_)
      · refine Does.step (State.endDesc_does ..) (by decide) (by decide) ?_
        refine Does.step (State.start_does (by assumption)) (by decide) (by decide) ?_
        exact Does.refl ..
      · extract_lets +onlyGivenNames x1
        clear_value x1
        extract_lets +onlyGivenNames x2
        clear_value x2
        extract_lets +onlyGivenNames x3
        refine Does.via (x := x3) ?_ (fun _ => ?_)
        · subst x3
          refine Does.step (State.putDesc_does ..) (by decide) (by decide) ?_
          refine Does.step (State.start_does (by assumption)) (by decide) (by decide) ?_
          exact Does.refl ..
        clear_value x3
        extract_lets +onlyGivenNames x4
        refine Does.via (x := x4) ?_ (fun _ => ?_)
        · subst x4
          refine Does.upd_runs _ (by decide) ?_
          assumption
        clear_value x4
        extract_lets +onlyGivenNames x5
        refine Does.via (x := x5) ?_ (fun _ => ?_)
        · subst x5
          refine Does.foldl (fun _ _ _ => ?_) ?_
          · refine Does.ite (fun _ => ?_) (fun _ => ?_)
            · assumption
            · refine Does.step (State.setGstate_does ..) (by decide) (by decide) ?_
              assumption
          · assumption
        clear_value x5
        refine Does.step (State.settleQ_does ..) (by decide) (by decide) ?_
        assumption

theorem State.runImage_does (s : State) (b : List ℕ) (src : ℕ) :
    Does 0x1000000000000 0x1c00 s (State.runImage s b src) := by
  unfold State.runImage
  extract_lets +onlyGivenNames x0
  clear_value x0
  extract_lets +onlyGivenNames x1
  refine Does.via (x := x1) ?_ (fun _ => ?_)
  · subst x1
    refine Does.wr _ _ _ _ (by decide) ?_
    refine Does.wr _ _ _ _ (by decide) ?_
    exact Does.refl ..
  clear_value x1
  extract_lets +onlyGivenNames x2
  refine Does.via (x := x2) ?_ (fun _ => ?_)
  · subst x2
    refine Does.wr _ _ _ _ (by decide) ?_
    refine Does.wr _ _ _ _ (by decide) ?_
    assumption
  clear_value x2
  refine Does.upd_rst _ (by decide) ?_
  assumption

theorem execFwLoad_does (qp : QpId) (cid : ℕ) (walk : Walk) (s : State) :
    DoesO 0x11a8349800008 0x20004000000000000001c00 s (execFwLoad qp cid walk s) := by
  unfold execFwLoad
  refine DoesO.next ?_
  refine State.advance_doesH (by decide) (by decide) (fun _ x0 => ?_) (fun _ x0 => ?_) ?_
  · refine Does.step (State.begins_does ..) (by decide) (by decide) ?_
    exact Does.refl ..
  · refine State.moveThen_doesH (by decide) (by decide) (fun _ x1 => ?_) ?_
    · extract_lets +onlyGivenNames x2
      clear_value x2
      extract_lets +onlyGivenNames x3
      clear_value x3
      refine Does.ite (fun _ => ?_) (fun _ => ?_)
      · refine Does.step (State.endDesc_does ..) (by decide) (by decide) ?_
        exact Does.refl ..
      · extract_lets +onlyGivenNames x4
        refine Does.via (x := x4) ?_ (fun _ => ?_)
        · subst x4
          refine Does.step (State.runImage_does ..) (by decide) (by decide) ?_
          exact Does.refl ..
        clear_value x4
        extract_lets +onlyGivenNames x5
        clear_value x5
        extract_lets +onlyGivenNames x6
        refine Does.via (x := x6) ?_ (fun _ => ?_)
        · subst x6
          refine Does.ite (fun _ => ?_) (fun _ => ?_)
          · refine Does.upd_rst _ (by decide) ?_
            assumption
          · assumption
        clear_value x6
        refine Does.step (State.endDesc_does ..) (by decide) (by decide) ?_
        assumption
    · exact Does.refl ..
  · exact Does.refl ..

theorem State.pulseRow_does (s : State) (row : ℕ) (b : List ℕ) :
    Does 0x1000000000000 0x0 s (State.pulseRow s row b) := by
  unfold State.pulseRow
  refine Does.upd_rst _ (by decide) ?_
  exact Does.refl ..

theorem State.endPulse_does (s : State) (verified : Bool) :
    Does 0x1000000100000 0x0 s (State.endPulse s verified) := by
  unfold State.endPulse
  split
  · exact Does.refl ..
  · refine Does.upd_mtpMem_rst _ _ ?_ (by decide) (by decide) ?_
    · exact fun h => by split; exact Memory.writeBytes_wf h _ _; exact h
    · exact Does.refl ..

theorem execMtpWrite_does (qp : QpId) (cid : ℕ) (walk : Walk) (verified : Bool) (s : State) :
    DoesO 0x51a834b900008 0x20004000000000000000000 s (execMtpWrite qp cid walk verified s) := by
  unfold execMtpWrite
  refine DoesO.next ?_
  refine State.advance_doesH (by decide) (by decide) (fun _ x0 => ?_) (fun _ x0 => ?_) ?_
  · refine Does.step (State.putDesc_does ..) (by decide) (by decide) ?_
    exact Does.refl ..
  · extract_lets +onlyGivenNames x1
    clear_value x1
    refine Does.ite (fun _ => ?_) (fun _ => ?_)
    · refine Does.step (State.readChunk_does ..) (by decide) (by decide) ?_
      exact Does.refl ..
    · refine Does.ite (fun _ => ?_) (fun _ => ?_)
      · refine Does.step (State.endDesc_does ..) (by decide) (by decide) ?_
        exact Does.refl ..
      · refine Does.ite (fun _ => ?_) (fun _ => ?_)
        · refine Does.step (State.endDesc_does ..) (by decide) (by decide) ?_
          exact Does.refl ..
        · split
          · refine Does.ite (fun _ => ?_) (fun _ => ?_)
            · exact Does.refl ..
            · refine Does.step (State.pulseRow_does ..) (by decide) (by decide) ?_
              exact Does.refl ..
          · refine Does.ite (fun _ => ?_) (fun _ => ?_)
            · exact Does.refl ..
            · extract_lets +onlyGivenNames x2
              refine Does.via (x := x2) ?_ (fun _ => ?_)
              · subst x2
                refine Does.step (State.endPulse_does ..) (by decide) (by decide) ?_
                exact Does.refl ..
              clear_value x2
              refine Does.ite (fun _ => ?_) (fun _ => ?_)
              · refine Does.step (State.endDesc_does ..) (by decide) (by decide) ?_
                refine Does.step (State.detect_does ..) (by decide) (by decide) ?_
                assumption
              · refine Does.ite (fun _ => ?_) (fun _ => ?_)
                · refine Does.step (State.endDesc_does ..) (by decide) (by decide) ?_
                  assumption
                · refine Does.step (State.putDesc_does ..) (by decide) (by decide) ?_
                  assumption
  · exact Does.refl ..

theorem execAttest_does (qp : QpId) (cid : ℕ) (walk : Walk) (s : State) :
    DoesO 0x1a8349800008 0x20004000000000000000000 s (execAttest qp cid walk s) := by
  unfold execAttest
  refine DoesO.next ?_
  refine State.advance_doesH (by decide) (by decide) (fun _ x0 => ?_) (fun _ x0 => ?_) ?_
  · refine Does.step (State.putDesc_does ..) (by decide) (by decide) ?_
    exact Does.refl ..
  · refine Does.ite (fun _ => ?_) (fun _ => ?_)
    · refine Does.step (State.writeChunk_does ..) (by decide) (by decide) ?_
      exact Does.refl ..
    · refine Does.step (State.endDesc_does ..) (by decide) (by decide) ?_
      exact Does.refl ..
  · exact Does.refl ..

end Sys2Proof.Machine
end

