-- ==== Sys2Proof/Laws/DoesRunRows.lean ====
section
/-! SUPPORT. What each operation and meaning of Machine/RunRows.lean may touch. -/

namespace Sys2Proof.Machine

open Sys2Proof

set_option linter.unusedVariables false

theorem State.refuseRun_does (s : State) (r : StepRun) (status : ℕ) (detail : ℕ) :
    Does 0x40400008 0x400000000000000000000000000000000000000000000000000 s (State.refuseRun s r status detail) := by
  unfold State.refuseRun
  extract_lets +onlyGivenNames x0
  refine Does.via (x := x0) ?_ (fun _ => ?_)
  · subst x0
    refine Does.step (State.withdraw_does ..) (by decide) (by decide) ?_
    exact Does.refl ..
  clear_value x0
  split
  · assumption
  · refine Does.step (State.endDesc_does ..) (by decide) (by decide) ?_
    assumption

theorem State.prepare_does (s : State) (r : StepRun) (n : ℕ) :
    Does 0x18 0x0 s (State.prepare s r n) := by
  unfold State.prepare
  extract_lets +onlyGivenNames x0
  refine Does.via (x := x0) ?_ (fun _ => ?_)
  · subst x0
    refine Does.ite (fun _ => ?_) (fun _ => ?_)
    · refine Does.foldl (fun _ _ _ => ?_) ?_
      · refine Does.step (State.rewindPod_does ..) (by decide) (by decide) ?_
        assumption
      · exact Does.refl ..
    · exact Does.refl ..
  clear_value x0
  extract_lets +onlyGivenNames x1
  clear_value x1
  refine Does.step (State.setGang_does ..) (by decide) (by decide) ?_
  assumption

theorem execStepRunReadyCheck_does (qp : QpId) (cid : ℕ) (s : State) :
    DoesO 0x49c00018 0x400000000000000000000000100000000000000000000000000 s (execStepRunReadyCheck qp cid s) := by
  unfold execStepRunReadyCheck
  refine DoesO.next ?_
  split
  · exact Does.refl ..
  · extract_lets +onlyGivenNames x0
    clear_value x0
    refine Does.ite (fun _ => ?_) (fun _ => ?_)
    · exact Does.refl ..
    · refine Does.ite (fun _ => ?_) (fun _ => ?_)
      · refine Does.step (State.refuseRun_does ..) (by decide) (by decide) ?_
        exact Does.refl ..
      · extract_lets +onlyGivenNames x1
        clear_value x1
        extract_lets +onlyGivenNames x2
        clear_value x2
        refine Does.ite (fun _ => ?_) (fun _ => ?_)
        · extract_lets +onlyGivenNames x3
          refine Does.via (x := x3) ?_ (fun _ => ?_)
          · subst x3
            refine Does.ite (fun _ => ?_) (fun _ => ?_)
            · refine Does.step (State.raise_does ..) (by decide) (by decide) ?_
              refine Does.wr _ _ _ _ (by decide) ?_
              exact Does.refl ..
            · exact Does.refl ..
          clear_value x3
          refine Does.step (State.refuseRun_does ..) (by decide) (by decide) ?_
          assumption
        · extract_lets +onlyGivenNames x4
          refine Does.via (x := x4) ?_ (fun _ => ?_)
          · subst x4
            refine Does.upd_runs _ (by decide) ?_
            exact Does.refl ..
          clear_value x4
          refine Does.foldl (fun _ _ _ => ?_) ?_
          · refine Does.step (State.prepare_does ..) (by decide) (by decide) ?_
            assumption
          · assumption

theorem State.resetSite_does (s : State) (n : ℕ) :
    Does 0x8 0x73c0000000000000000000000000000000000000 s (State.resetSite s n) := by
  unfold State.resetSite
  extract_lets +onlyGivenNames x0
  refine Does.via (x := x0) ?_ (fun _ => ?_)
  · subst x0
    refine Does.wr _ _ _ _ (by decide) ?_
    refine Does.wr _ _ _ _ (by decide) ?_
    refine Does.wr _ _ _ _ (by decide) ?_
    exact Does.refl ..
  clear_value x0
  extract_lets +onlyGivenNames x1
  refine Does.via (x := x1) ?_ (fun _ => ?_)
  · subst x1
    refine Does.wr _ _ _ _ (by decide) ?_
    refine Does.wr _ _ _ _ (by decide) ?_
    assumption
  clear_value x1
  extract_lets +onlyGivenNames x2
  refine Does.via (x := x2) ?_ (fun _ => ?_)
  · subst x2
    refine Does.wr _ _ _ _ (by decide) ?_
    refine Does.wr _ _ _ _ (by decide) ?_
    refine Does.wr _ _ _ _ (by decide) ?_
    assumption
  clear_value x2
  extract_lets +onlyGivenNames x3
  refine Does.via (x := x3) ?_ (fun _ => ?_)
  · subst x3
    refine Does.wr _ _ _ _ (by decide) ?_
    refine Does.wr _ _ _ _ (by decide) ?_
    assumption
  clear_value x3
  extract_lets +onlyGivenNames x4
  refine Does.via (x := x4) ?_ (fun _ => ?_)
  · subst x4
    refine Does.wr _ _ _ _ (by decide) ?_
    assumption
  clear_value x4
  refine Does.foldl (fun _ _ _ => ?_) ?_
  · refine Does.step (State.setGc_does ..) (by decide) (by decide) ?_
    assumption
  · assumption

theorem State.stepRecord_does (s : State) (n : ℕ) (start : Stamp) (p : ℕ) :
    Does 0x40010 0x280000000000000000000000000000000000000000000000000000000000000 s (State.stepRecord s n start p) := by
  unfold State.stepRecord
  extract_lets +onlyGivenNames x0
  clear_value x0
  extract_lets +onlyGivenNames x1
  clear_value x1
  extract_lets +onlyGivenNames x2
  refine Does.via (x := x2) ?_ (fun _ => ?_)
  · subst x2
    refine Does.step (State.setPod_does ..) (by decide) (by decide) ?_
    exact Does.refl ..
  clear_value x2
  extract_lets +onlyGivenNames x3
  refine Does.via (x := x3) ?_ (fun _ => ?_)
  · subst x3
    refine Does.foldl (fun _ _ _ => ?_) ?_
    · refine Does.wr _ _ _ _ (by decide) ?_
      assumption
    · assumption
  clear_value x3
  extract_lets +onlyGivenNames x4
  refine Does.via (x := x4) ?_ (fun _ => ?_)
  · subst x4
    refine Does.wr _ _ _ _ (by decide) ?_
    assumption
  clear_value x4
  refine Does.upd_capMem _ ?_ (by decide) ?_
  · exact fun h => Memory.clear_wf h _ _
  · assumption

theorem State.applyProfile_does (s : State) (n : ℕ) (prof : ℕ) :
    Does 0x3000 0x4210000000000000000000000000000000000000000 s (State.applyProfile s n prof) := by
  unfold State.applyProfile
  extract_lets +onlyGivenNames x0
  refine Does.via (x := x0) ?_ (fun _ => ?_)
  · subst x0
    refine Does.step (State.wakeRecovery_does ..) (by decide) (by decide) ?_
    refine Does.step (State.openWindow_does ..) (by decide) (by decide) ?_
    exact Does.refl ..
  clear_value x0
  extract_lets +onlyGivenNames x1
  clear_value x1
  extract_lets +onlyGivenNames x2
  clear_value x2
  extract_lets +onlyGivenNames x3
  clear_value x3
  extract_lets +onlyGivenNames x4
  clear_value x4
  extract_lets +onlyGivenNames x5
  refine Does.via (x := x5) ?_ (fun _ => ?_)
  · subst x5
    refine Does.foldl (fun _ _ _ => ?_) ?_
    · extract_lets +onlyGivenNames x6
      clear_value x6
      extract_lets +onlyGivenNames x7
      refine Does.via (x := x7) ?_ (fun _ => ?_)
      · subst x7
        refine Does.wr _ _ _ _ (by decide) ?_
        refine Does.step (State.setRail_does ..) (by decide) (by decide) ?_
        assumption
      clear_value x7
      refine Does.ite (fun _ => ?_) (fun _ => ?_)
      · assumption
      · refine Does.wr _ _ _ _ (by decide) ?_
        assumption
    · assumption
  clear_value x5
  refine Does.step (State.refreshArm_does ..) (by decide) (by decide) ?_
  refine Does.step (State.rampSite_does ..) (by decide) (by decide) ?_
  assumption

theorem State.startSite_does (s : State) (r : StepRun) (n : ℕ) :
    Does 0x19c434f8 0x4800280020200206c120000042173c0008000000000000000000000000000000000 s (State.startSite s r n) := by
  unfold State.startSite
  refine Does.ite (fun _ => ?_) (fun _ => ?_)
  · refine Does.step (State.siteEnded_does ..) (by decide) (by decide) ?_
    refine Does.step (State.deviceEntry_does ..) (by decide) (by decide) ?_
    refine Does.step (State.setGang_does ..) (by decide) (by decide) ?_
    exact Does.refl ..
  · extract_lets +onlyGivenNames x0
    clear_value x0
    extract_lets +onlyGivenNames x1
    refine Does.via (x := x1) ?_ (fun _ => ?_)
    · subst x1
      refine Does.step (State.resetSite_does ..) (by decide) (by decide) ?_
      exact Does.refl ..
    clear_value x1
    extract_lets +onlyGivenNames x2
    refine Does.via (x := x2) ?_ (fun _ => ?_)
    · subst x2
      refine Does.wrAll _ _ _ (by decide) ?_
      assumption
    clear_value x2
    extract_lets +onlyGivenNames x3
    clear_value x3
    extract_lets +onlyGivenNames x4
    clear_value x4
    extract_lets +onlyGivenNames x5
    refine Does.via (x := x5) ?_ (fun _ => ?_)
    · subst x5
      refine Does.step (State.setGang_does ..) (by decide) (by decide) ?_
      assumption
    clear_value x5
    extract_lets +onlyGivenNames x6
    refine Does.via (x := x6) ?_ (fun _ => ?_)
    · subst x6
      refine Does.step (State.setGstate_does ..) (by decide) (by decide) ?_
      assumption
    clear_value x6
    extract_lets +onlyGivenNames x7
    refine Does.via (x := x7) ?_ (fun _ => ?_)
    · subst x7
      refine Does.foldl (fun _ _ _ => ?_) ?_
      · refine Does.step (State.touch_does ..) (by decide) (by decide) ?_
        assumption
      · assumption
    clear_value x7
    extract_lets +onlyGivenNames x8
    refine Does.via (x := x8) ?_ (fun _ => ?_)
    · subst x8
      refine Does.foldl (fun _ _ _ => ?_) ?_
      · refine Does.step (State.stepRecord_does ..) (by decide) (by decide) ?_
        assumption
      · assumption
    clear_value x8
    extract_lets +onlyGivenNames x9
    refine Does.via (x := x9) ?_ (fun _ => ?_)
    · subst x9
      refine Does.step (State.applyProfile_does ..) (by decide) (by decide) ?_
      assumption
    clear_value x9
    split
    · refine Does.step (State.settle_does ..) (by decide) (by decide) ?_
      assumption
    · extract_lets +onlyGivenNames x10
      clear_value x10
      extract_lets +onlyGivenNames x11
      refine Does.via (x := x11) ?_ (fun _ => ?_)
      · subst x11
        refine Does.step (State.setGang_does ..) (by decide) (by decide) ?_
        assumption
      clear_value x11
      refine Does.step (State.settle_does ..) (by decide) (by decide) ?_
      refine Does.step (State.engineErr_does ..) (by decide) (by decide) ?_
      assumption

theorem execGangStart_does (qp : QpId) (cid : ℕ) (s : State) :
    DoesO 0x59c434f8 0x4800280020200206c120000042173c0008000000000000000000000000000000000 s (execGangStart qp cid s) := by
  unfold execGangStart
  refine DoesO.next ?_
  split
  · exact Does.refl ..
  · refine Does.ite (fun _ => ?_) (fun _ => ?_)
    · exact Does.refl ..
    · refine Does.ite (fun _ => ?_) (fun _ => ?_)
      · refine Does.step (State.refuseRun_does ..) (by decide) (by decide) ?_
        exact Does.refl ..
      · extract_lets +onlyGivenNames x0
        refine Does.via (x := x0) ?_ (fun _ => ?_)
        · subst x0
          refine Does.upd_runs _ (by decide) ?_
          exact Does.refl ..
        clear_value x0
        extract_lets +onlyGivenNames x1
        refine Does.via (x := x1) ?_ (fun _ => ?_)
        · subst x1
          split
          · refine Does.step (State.putDesc_does ..) (by decide) (by decide) ?_
            assumption
          · assumption
        clear_value x1
        refine Does.foldl (fun _ _ _ => ?_) ?_
        · refine Does.step (State.startSite_does ..) (by decide) (by decide) ?_
          assumption
        · assumption

theorem execStepRunCompletion_does (qp : QpId) (cid : ℕ) (s : State) :
    DoesO 0x40400000 0x0 s (execStepRunCompletion qp cid s) := by
  unfold execStepRunCompletion
  refine DoesO.next ?_
  split
  · exact Does.refl ..
  · extract_lets +onlyGivenNames x0
    clear_value x0
    extract_lets +onlyGivenNames x1
    clear_value x1
    refine Does.ite (fun _ => ?_) (fun _ => ?_)
    · exact Does.refl ..
    · extract_lets +onlyGivenNames x2
      clear_value x2
      extract_lets +onlyGivenNames x3
      refine Does.via (x := x3) ?_ (fun _ => ?_)
      · subst x3
        refine Does.upd_runs _ (by decide) ?_
        exact Does.refl ..
      clear_value x3
      split
      · assumption
      · refine Does.step (State.endDesc_does ..) (by decide) (by decide) ?_
        assumption

theorem execGangRestart_does (site : SiteId) (s : State) :
    DoesO 0x200019c034f8 0x4800000020200206c12000004004040008000000000000000000000000000000000 s (execGangRestart site s) := by
  unfold execGangRestart
  extract_lets +onlyGivenNames x0
  clear_value x0
  refine DoesO.next ?_
  split
  · exact Does.refl ..
  · extract_lets +onlyGivenNames x1
    clear_value x1
    extract_lets +onlyGivenNames x2
    refine Does.via (x := x2) ?_ (fun _ => ?_)
    · subst x2
      refine Does.upd_pwr _ (by decide) ?_
      exact Does.refl ..
    clear_value x2
    refine Does.ite (fun _ => ?_) (fun _ => ?_)
    · assumption
    · extract_lets +onlyGivenNames x3
      clear_value x3
      refine Does.step (State.settle_does ..) (by decide) (by decide) ?_
      refine Does.step (State.setGstate_does ..) (by decide) (by decide) ?_
      refine Does.step (State.setGang_does ..) (by decide) (by decide) ?_
      assumption

end Sys2Proof.Machine
end

