-- ==== Sys2Proof/Laws/DoesStreamRows.lean ====
section
/-! SUPPORT. What each operation and meaning of Machine/StreamRows.lean may touch. -/

namespace Sys2Proof.Machine

open Sys2Proof

set_option linter.unusedVariables false

theorem execStreamGranuleFetch_does (strm : StrmId) (walk : Walk) (s : State) :
    DoesO 0x1a8749810008 0x60000000000000000000000020004000000000000000000 s (execStreamGranuleFetch strm walk s) := by
  unfold execStreamGranuleFetch
  extract_lets +onlyGivenNames x0
  clear_value x0
  refine DoesO.next ?_
  refine Does.ite (fun _ => ?_) (fun _ => ?_)
  · exact Does.refl ..
  · split
    · exact Does.refl ..
    · refine Does.ite (fun _ => ?_) (fun _ => ?_)
      · refine Does.step (State.readChunk_does ..) (by decide) (by decide) ?_
        exact Does.refl ..
      · extract_lets +onlyGivenNames x1
        clear_value x1
        extract_lets +onlyGivenNames x2
        refine Does.via (x := x2) ?_ (fun _ => ?_)
        · subst x2
          refine Does.upd_poolMem _ ?_ (by decide) ?_
          · exact fun h => Memory.writeBytes_wf h _ _
          · exact Does.refl ..
        clear_value x2
        extract_lets +onlyGivenNames x3
        refine Does.via (x := x3) ?_ (fun _ => ?_)
        · subst x3
          refine Does.wr _ _ _ _ (by decide) ?_
          refine Does.step (State.setStrm_does ..) (by decide) (by decide) ?_
          assumption
        clear_value x3
        refine Does.wr _ _ _ _ (by decide) ?_
        refine Does.step (State.putDesc_does ..) (by decide) (by decide) ?_
        assumption

theorem execStreamGranuleDeliver_does (strm : StrmId) (pod : PodId) (s : State) :
    DoesO 0x8008010 0x0 s (execStreamGranuleDeliver strm pod s) := by
  unfold execStreamGranuleDeliver
  extract_lets +onlyGivenNames x0
  clear_value x0
  refine DoesO.next ?_
  split
  · exact Does.refl ..
  · extract_lets +onlyGivenNames x1
    clear_value x1
    refine Does.ite (fun _ => ?_) (fun _ => ?_)
    · exact Does.refl ..
    · extract_lets +onlyGivenNames x2
      clear_value x2
      extract_lets +onlyGivenNames x3
      refine Does.via (x := x3) ?_ (fun _ => ?_)
      · subst x3
        refine Does.upd_segMem _ ?_ (by decide) ?_
        · exact fun h => Memory.writeBytes_wf h _ _
        · exact Does.refl ..
      clear_value x3
      extract_lets +onlyGivenNames x4
      clear_value x4
      refine Does.step (State.pulse_does ..) (by decide) (by decide) ?_
      refine Does.step (State.setSeg_does ..) (by decide) (by decide) ?_
      assumption

theorem execStreamUnderrun_does (pod : PodId) (s : State) :
    DoesO 0x419c034e8 0x4800000020620207c120a00040043c0008000000000000000000000000000000000 s (execStreamUnderrun pod s) := by
  unfold execStreamUnderrun
  refine DoesO.next ?_
  split
  · exact Does.refl ..
  · split
    · exact Does.refl ..
    · refine Does.ite (fun _ => ?_) (fun _ => ?_)
      · refine Does.step (State.underrun_does ..) (by decide) (by decide) ?_
        exact Does.refl ..
      · exact Does.refl ..

theorem execStreamFeedStop_does (strm : StrmId) (cause : ℕ) (s : State) :
    DoesO 0x0 0x20000000000000000000000000000000000000000000000 s (execStreamFeedStop strm cause s) := by
  unfold execStreamFeedStop
  refine DoesO.next ?_
  refine Does.ite (fun _ => ?_) (fun _ => ?_)
  · refine Does.wr _ _ _ _ (by decide) ?_
    exact Does.refl ..
  · exact Does.refl ..

theorem State.writeStrmCfg_does (s : State) (t : ℕ) (v : ℕ) :
    Does 0x440000010 0x70000000000000000000000000000000000000000000000 s (State.writeStrmCfg s t v) := by
  unfold State.writeStrmCfg
  extract_lets +onlyGivenNames x0
  clear_value x0
  extract_lets +onlyGivenNames x1
  clear_value x1
  extract_lets +onlyGivenNames x2
  clear_value x2
  extract_lets +onlyGivenNames x3
  subst x3
  refine Does.ite (fun _ => ?_) (fun _ => ?_)
  · refine Does.wr _ _ _ _ (by decide) ?_
    exact Does.refl ..
  · refine Does.ite (fun _ => ?_) (fun _ => ?_)
    · beta_reduce
      refine Does.wr _ _ _ _ (by decide) ?_
      refine Does.wr _ _ _ _ (by decide) ?_
      refine Does.wr _ _ _ _ (by decide) ?_
      refine Does.step (State.streamOff_does ..) (by decide) (by decide) ?_
      exact Does.refl ..
    · refine Does.ite (fun _ => ?_) (fun _ => ?_)
      · refine Does.ite (fun _ => ?_) (fun _ => ?_)
        · refine Does.wr _ _ _ _ (by decide) ?_
          exact Does.refl ..
        · refine Does.step (State.setStrm_does ..) (by decide) (by decide) ?_
          refine Does.wr _ _ _ _ (by decide) ?_
          refine Does.wr _ _ _ _ (by decide) ?_
          beta_reduce
          refine Does.wr _ _ _ _ (by decide) ?_
          refine Does.wr _ _ _ _ (by decide) ?_
          refine Does.wr _ _ _ _ (by decide) ?_
          exact Does.refl ..
      · beta_reduce
        refine Does.wr _ _ _ _ (by decide) ?_
        refine Does.wr _ _ _ _ (by decide) ?_
        refine Does.wr _ _ _ _ (by decide) ?_
        exact Does.refl ..

theorem execStrmCfgWrite_does (strm : StrmId) (value : BitVec 32) (s : State) :
    DoesO 0x440000010 0x70000000000000000000000000000000000000000000000 s (execStrmCfgWrite strm value s) := by
  unfold execStrmCfgWrite
  refine DoesO.next ?_
  refine Does.step (State.writeStrmCfg_does ..) (by decide) (by decide) ?_
  exact Does.refl ..

end Sys2Proof.Machine
end

