-- ==== Sys2Proof/Laws/DoesFaultOps.lean ====
section
/-! SUPPORT. What each operation and meaning of Machine/FaultOps.lean may touch. -/

namespace Sys2Proof.Machine

open Sys2Proof

set_option linter.unusedVariables false

theorem State.noImage_does (s : State) (p : ℕ) :
    Does 0x10 0x74000000000000000000000000000000000000000000000000000 s (State.noImage s p) := by
  unfold State.noImage
  extract_lets +onlyGivenNames x0
  clear_value x0
  extract_lets +onlyGivenNames x1
  refine Does.via (x := x1) ?_ (fun _ => ?_)
  · subst x1
    refine Does.step (State.setPod_does ..) (by decide) (by decide) ?_
    exact Does.refl ..
  clear_value x1
  simp only [List.foldl_cons, List.foldl_nil]
  refine Does.wr _ _ _ _ (by decide) ?_
  refine Does.wr _ _ _ _ (by decide) ?_
  refine Does.wr _ _ _ _ (by decide) ?_
  refine Does.wr _ _ _ _ (by decide) ?_
  refine Does.wr _ _ _ _ (by decide) ?_
  refine Does.wr _ _ _ _ (by decide) ?_
  refine Does.wr _ _ _ _ (by decide) ?_
  assumption

theorem State.cutLoads_does (s : State) (p : ℕ) :
    Does 0x40000010 0x74000000000000000000000000000000000000000000000000000 s (State.cutLoads s p) := by
  unfold State.cutLoads
  refine Does.foldl (fun _ _ _ => ?_) ?_
  · refine Does.step (State.finish_does ..) (by decide) (by decide) ?_
    refine Does.foldl (fun _ _ _ => ?_) ?_
    · refine Does.step (State.noImage_does ..) (by decide) (by decide) ?_
      assumption
    · assumption
  · exact Does.refl ..

theorem State.resetPod_does (s : State) (p : ℕ) :
    Does 0x100000000049840839 0x7ffffffffffffffffffffffffffffffffffffffffffffffffffffffffffffffffff s (State.resetPod s p) := by
  unfold State.resetPod
  extract_lets +onlyGivenNames x0
  refine Does.via (x := x0) ?_ (fun _ => ?_)
  · subst x0
    refine Does.step (State.cutLoads_does ..) (by decide) (by decide) ?_
    exact Does.refl ..
  clear_value x0
  extract_lets +onlyGivenNames x1
  refine Does.via (x := x1) ?_ (fun _ => ?_)
  · subst x1
    refine Does.foldl (fun _ _ _ => ?_) ?_
    · extract_lets +onlyGivenNames x2
      refine Does.via (x := x2) ?_ (fun _ => ?_)
      · subst x2
        refine Does.step (State.forceDrv_does ..) (by decide) (by decide) ?_
        refine Does.wr _ _ _ _ (by decide) ?_
        assumption
      clear_value x2
      extract_lets +onlyGivenNames x3
      clear_value x3
      extract_lets +onlyGivenNames x4
      refine Does.via (x := x4) ?_ (fun _ => ?_)
      · subst x4
        refine Does.step (State.setPin_does ..) (by decide) (by decide) ?_
        assumption
      clear_value x4
      refine Does.ite (fun _ => ?_) (fun _ => ?_)
      · refine Does.step (State.pmuOpen_does ..) (by decide) (by decide) ?_
        assumption
      · assumption
    · assumption
  clear_value x1
  extract_lets +onlyGivenNames x5
  refine Does.via (x := x5) ?_ (fun _ => ?_)
  · subst x5
    refine Does.step (State.resetRegs_does ..) (by decide) (by decide) ?_
    assumption
  clear_value x5
  extract_lets +onlyGivenNames x6
  clear_value x6
  extract_lets +onlyGivenNames x7
  refine Does.via (x := x7) ?_ (fun _ => ?_)
  · subst x7
    refine Does.step (State.setPod_does ..) (by decide) (by decide) ?_
    assumption
  clear_value x7
  extract_lets +onlyGivenNames x8
  refine Does.via (x := x8) ?_ (fun _ => ?_)
  · subst x8
    refine Does.upd_capMem _ ?_ (by decide) ?_
    · exact fun h => Memory.clear_wf h _ _
    · assumption
  clear_value x8
  refine Does.foldl (fun _ _ _ => ?_) ?_
  · refine Does.ite (fun _ => ?_) (fun _ => ?_)
    · refine Does.step (State.faultMute_does ..) (by decide) (by decide) ?_
      assumption
    · assumption
  · assumption

theorem State.faultHusk_does (s : State) (n : ℕ) (stamp : Stamp) (stands : Bool) :
    Does 0x19c03cf8 0x48000000a00200074120088040743c0008000000000000000000000000000000000 s (State.faultHusk s n stamp stands) := by
  unfold State.faultHusk
  refine Does.step (State.makeHusk_does ..) (by decide) (by decide) ?_
  refine Does.wr _ _ _ _ (by decide) ?_
  exact Does.refl ..

theorem State.resetRail_does (s : State) (r : ℕ) (stamp : Stamp) :
    Does 0x19c03cf8 0x48000000a00200074120088040743c0008000000000000000000000000000000000 s (State.resetRail s r stamp) := by
  unfold State.resetRail
  split
  · refine Does.step (State.faultHusk_does ..) (by decide) (by decide) ?_
    exact Does.refl ..
  · refine Does.step (State.tripRail_does ..) (by decide) (by decide) ?_
    exact Does.refl ..

theorem State.resetProg_does (s : State) (n : ℕ) :
    Does 0x100000000000000009 0x7ffffffffffffffffffffffffffffffffffffffffffffffffffffffffffffffffff s (State.resetProg s n) := by
  unfold State.resetProg
  extract_lets +onlyGivenNames x0
  refine Does.via (x := x0) ?_ (fun _ => ?_)
  · subst x0
    refine Does.step (State.resetRegs_does ..) (by decide) (by decide) ?_
    exact Does.refl ..
  clear_value x0
  refine Does.step (State.setGang_does ..) (by decide) (by decide) ?_
  assumption

theorem State.addFence_does (s : State) (src : ℕ) (kind : ℕ) (unit : ℕ) :
    Does 0x4000000 0x0 s (State.addFence s src kind unit) := by
  unfold State.addFence
  refine Does.ite (fun _ => ?_) (fun _ => ?_)
  · exact Does.refl ..
  · refine Does.upd_fences _ (by decide) ?_
    exact Does.refl ..

theorem State.fencePod_does (s : State) (src : ℕ) (p : ℕ) (stamp : Stamp) :
    Does 0x10000000005dc43cf9 0x7ffffffffffffffffffffffffffffffffffffffffffffffffffffffffffffffffff s (State.fencePod s src p stamp) := by
  unfold State.fencePod
  extract_lets +onlyGivenNames x0
  refine Does.via (x := x0) ?_ (fun _ => ?_)
  · subst x0
    refine Does.step (State.addFence_does ..) (by decide) (by decide) ?_
    exact Does.refl ..
  clear_value x0
  extract_lets +onlyGivenNames x1
  refine Does.via (x := x1) ?_ (fun _ => ?_)
  · subst x1
    split
    · refine Does.step (State.faultHusk_does ..) (by decide) (by decide) ?_
      assumption
    · assumption
  clear_value x1
  refine Does.step (State.resetPod_does ..) (by decide) (by decide) ?_
  assumption

theorem State.fenceRail_does (s : State) (src : ℕ) (r : ℕ) (stamp : Stamp) :
    Does 0x1dc03cf8 0x48000000a00200074120088040743c0008000000000000000000000000000000000 s (State.fenceRail s src r stamp) := by
  unfold State.fenceRail
  refine Does.step (State.resetRail_does ..) (by decide) (by decide) ?_
  refine Does.step (State.addFence_does ..) (by decide) (by decide) ?_
  exact Does.refl ..

theorem State.fenceDie_does (s : State) (src : ℕ) (k : ℕ) (stamp : Stamp) :
    Does 0x10000000005dc43cf9 0x7ffffffffffffffffffffffffffffffffffffffffffffffffffffffffffffffffff s (State.fenceDie s src k stamp) := by
  unfold State.fenceDie
  extract_lets +onlyGivenNames x0
  refine Does.via (x := x0) ?_ (fun _ => ?_)
  · subst x0
    refine Does.step (State.addFence_does ..) (by decide) (by decide) ?_
    exact Does.refl ..
  clear_value x0
  extract_lets +onlyGivenNames x1
  refine Does.via (x := x1) ?_ (fun _ => ?_)
  · subst x1
    refine Does.foldl (fun _ _ _ => ?_) ?_
    · refine Does.step (State.faultHusk_does ..) (by decide) (by decide) ?_
      assumption
    · assumption
  clear_value x1
  extract_lets +onlyGivenNames x2
  refine Does.via (x := x2) ?_ (fun _ => ?_)
  · subst x2
    refine Does.foldl (fun _ _ _ => ?_) ?_
    · refine Does.step (State.resetPod_does ..) (by decide) (by decide) ?_
      assumption
    · assumption
  clear_value x2
  refine Does.foldl (fun _ _ _ => ?_) ?_
  · refine Does.ite (fun _ => ?_) (fun _ => ?_)
    · refine Does.step (State.tripRail_does ..) (by decide) (by decide) ?_
      assumption
    · assumption
  · assumption

theorem State.fenceSite_does (s : State) (src : ℕ) (n : ℕ) (stamp : Stamp) :
    Does 0x10000000005dc43cf9 0x7ffffffffffffffffffffffffffffffffffffffffffffffffffffffffffffffffff s (State.fenceSite s src n stamp) := by
  unfold State.fenceSite
  extract_lets +onlyGivenNames x0
  clear_value x0
  extract_lets +onlyGivenNames x1
  clear_value x1
  extract_lets +onlyGivenNames x2
  refine Does.via (x := x2) ?_ (fun _ => ?_)
  · subst x2
    refine Does.foldl (fun _ _ _ => ?_) ?_
    · refine Does.step (State.addFence_does ..) (by decide) (by decide) ?_
      assumption
    · exact Does.refl ..
  clear_value x2
  extract_lets +onlyGivenNames x3
  refine Does.via (x := x3) ?_ (fun _ => ?_)
  · subst x3
    refine Does.foldl (fun _ _ _ => ?_) ?_
    · refine Does.step (State.addFence_does ..) (by decide) (by decide) ?_
      assumption
    · assumption
  clear_value x3
  extract_lets +onlyGivenNames x4
  refine Does.via (x := x4) ?_ (fun _ => ?_)
  · subst x4
    refine Does.step (State.faultHusk_does ..) (by decide) (by decide) ?_
    assumption
  clear_value x4
  refine Does.step (State.resetProg_does ..) (by decide) (by decide) ?_
  refine Does.foldl (fun _ _ _ => ?_) ?_
  · refine Does.step (State.resetPod_does ..) (by decide) (by decide) ?_
    assumption
  · assumption

theorem State.fencePort_does (s : State) (src : ℕ) (p : ℕ) :
    Does 0x408800f800008 0x1000000220000000000000000000000 s (State.fencePort s src p) := by
  unfold State.fencePort
  refine Does.step (State.portLost_does ..) (by decide) (by decide) ?_
  refine Does.step (State.setPortSt_does ..) (by decide) (by decide) ?_
  refine Does.step (State.addFence_does ..) (by decide) (by decide) ?_
  exact Does.refl ..

theorem State.nvRecord_does (s : State) (ty : ℕ) (stamp : Stamp) (payload : List ℕ) :
    Does 0x1000000000000 0x0 s (State.nvRecord s ty stamp payload) := by
  unfold State.nvRecord
  refine Does.upd_rst _ (by decide) ?_
  exact Does.refl ..

theorem State.safeDesc_does (s : State) (q : ℕ) (idx : ℕ) :
    Does 0xe60400010 0x40000000000001010000000000000000000000000000002040820000000000 s (State.safeDesc s q idx) := by
  unfold State.safeDesc
  split
  · exact Does.refl ..
  · refine Does.ite (fun _ => ?_) (fun _ => ?_)
    · exact Does.refl ..
    · refine Does.ite (fun _ => ?_) (fun _ => ?_)
      · extract_lets +onlyGivenNames x0
        refine Does.via (x := x0) ?_ (fun _ => ?_)
        · subst x0
          refine Does.foldl (fun _ _ _ => ?_) ?_
          · refine Does.step (State.setSlot_does ..) (by decide) (by decide) ?_
            assumption
          · exact Does.refl ..
        clear_value x0
        refine Does.step (State.endTransfer_does ..) (by decide) (by decide) ?_
        refine Does.upd_mmuq _ (by decide) ?_
        assumption
      · extract_lets +onlyGivenNames x1
        refine Does.via (x := x1) ?_ (fun _ => ?_)
        · subst x1
          refine Does.upd_runs_snaps _ _ (by decide) (by decide) ?_
          exact Does.refl ..
        clear_value x1
        refine Does.step (State.endDesc_does ..) (by decide) (by decide) ?_
        assumption

theorem State.enterSafe_does (s : State) (cause : ℕ) :
    Does 0x3000e79c03cf8 0x48000400a0020007413018a040743c00080006a0000000000002040820000000000 s (State.enterSafe s cause) := by
  unfold State.enterSafe
  refine Does.ite (fun _ => ?_) (fun _ => ?_)
  · exact Does.refl ..
  · extract_lets +onlyGivenNames x0
    refine Does.via (x := x0) ?_ (fun _ => ?_)
    · subst x0
      refine Does.wr _ _ _ _ (by decide) ?_
      refine Does.wr _ _ _ _ (by decide) ?_
      refine Does.wr _ _ _ _ (by decide) ?_
      exact Does.refl ..
    clear_value x0
    extract_lets +onlyGivenNames x1
    clear_value x1
    extract_lets +onlyGivenNames x2
    refine Does.via (x := x2) ?_ (fun _ => ?_)
    · subst x2
      refine Does.upd_safeX _ (by decide) ?_
      assumption
    clear_value x2
    extract_lets +onlyGivenNames x3
    refine Does.via (x := x3) ?_ (fun _ => ?_)
    · subst x3
      refine Does.foldl (fun _ _ _ => ?_) ?_
      · refine Does.step (State.faultHusk_does ..) (by decide) (by decide) ?_
        assumption
      · assumption
    clear_value x3
    extract_lets +onlyGivenNames x4
    refine Does.via (x := x4) ?_ (fun _ => ?_)
    · subst x4
      refine Does.foldl (fun _ _ _ => ?_) ?_
      · refine Does.step (State.faultMute_does ..) (by decide) (by decide) ?_
        assumption
      · assumption
    clear_value x4
    extract_lets +onlyGivenNames x5
    refine Does.via (x := x5) ?_ (fun _ => ?_)
    · subst x5
      refine Does.foldl (fun _ _ _ => ?_) ?_
      · refine Does.foldl (fun _ _ _ => ?_) ?_
        · refine Does.step (State.safeDesc_does ..) (by decide) (by decide) ?_
          assumption
        · assumption
      · assumption
    clear_value x5
    refine Does.ite (fun _ => ?_) (fun _ => ?_)
    · assumption
    · refine Does.step (State.nvRecord_does ..) (by decide) (by decide) ?_
      assumption

theorem State.react_does (s : State) (f : FaultIn) (react : ℕ) :
    Does 0x100007088e7fc43cf9 0x7ffffffffffffffffffffffffffffffffffffffffffffffffffffffffffffffffff s (State.react s f react) := by
  unfold State.react
  extract_lets +onlyGivenNames x0
  clear_value x0
  extract_lets +onlyGivenNames x1
  clear_value x1
  split
  · refine Does.ite (fun _ => ?_) (fun _ => ?_)
    · refine Does.step (State.fenceDie_does ..) (by decide) (by decide) ?_
      exact Does.refl ..
    · refine Does.ite (fun _ => ?_) (fun _ => ?_)
      · refine Does.ite (fun _ => ?_) (fun _ => ?_)
        · refine Does.step (State.fencePod_does ..) (by decide) (by decide) ?_
          exact Does.refl ..
        · exact Does.refl ..
      · refine Does.step (State.fencePod_does ..) (by decide) (by decide) ?_
        exact Does.refl ..
  · refine Does.ite (fun _ => ?_) (fun _ => ?_)
    · split
      · refine Does.step (State.fenceSite_does ..) (by decide) (by decide) ?_
        exact Does.refl ..
      · refine Does.step (State.fenceRail_does ..) (by decide) (by decide) ?_
        exact Does.refl ..
    · split
      · refine Does.step (State.fenceSite_does ..) (by decide) (by decide) ?_
        exact Does.refl ..
      · refine Does.step (State.fencePod_does ..) (by decide) (by decide) ?_
        exact Does.refl ..
  · refine Does.ite (fun _ => ?_) (fun _ => ?_)
    · refine Does.step (State.fenceDie_does ..) (by decide) (by decide) ?_
      exact Does.refl ..
    · refine Does.step (State.fenceRail_does ..) (by decide) (by decide) ?_
      exact Does.refl ..
  · refine Does.step (State.fencePort_does ..) (by decide) (by decide) ?_
    exact Does.refl ..
  · refine Does.step (State.enterSafe_does ..) (by decide) (by decide) ?_
    exact Does.refl ..
  · exact Does.refl ..

theorem State.putRecWords_doesF1 {F R : Nat} {s0 s : State} {f : Fld} {ws : List Nat} (hb : Has R f.reg.ctorIdx)
    (h : Does F R s0 s) : Does F R s0 (s.putRecWords f ws) := Does.foldl (fun _ _ ht => Does.wr _ _ _ _ hb ht) h

theorem State.faultSeq_does {s t : State} {i q : ℕ} (h : s.faultSeq i = (q, t)) : Does 0x1000000 0x0 s t := by
  cases h
  exact Does.upd_seqs _ (by decide) (Does.refl ..)

theorem State.markFault_does (s : State) (f : FaultIn) (sev : ℕ) (react : ℕ) :
    Does 0x2000000000000 0x5800000000000000000000000000000 s (State.markFault s f sev react) := by
  unfold State.markFault
  extract_lets +onlyGivenNames x0
  clear_value x0
  extract_lets +onlyGivenNames x1
  clear_value x1
  extract_lets +onlyGivenNames x2
  refine Does.via (x := x2) ?_ (fun _ => ?_)
  · subst x2
    refine Does.bump _ _ _ _ (by decide) ?_
    refine Does.wr _ _ _ _ (by decide) ?_
    exact Does.refl ..
  extract_lets +onlyGivenNames x3
  clear_value x3
  extract_lets +onlyGivenNames x4
  refine Does.via (x := x4) ?_ (fun _ => ?_)
  · subst x4
    refine Does.upd_safeX _ (by decide) ?_
    assumption
  refine Does.ite (fun _ => ?_) (fun _ => ?_)
  · refine Does.wr _ _ _ _ (by decide) ?_
    assumption
  · assumption

theorem State.takeFault_does (s : State) (f : FaultIn) :
    Does 0x100007088e7fc43cf9 0x7ffffffffffffffffffffffffffffffffffffffffffffffffffffffffffffffffff s (State.takeFault s f) := by
  unfold State.takeFault
  refine Does.ite (fun _ => ?_) (fun _ => ?_)
  · exact Does.refl ..
  · extract_lets +onlyGivenNames x0
    clear_value x0
    extract_lets +onlyGivenNames x1
    clear_value x1
    extract_lets +onlyGivenNames x2
    refine Does.via (x := x2) ?_ (fun _ => ?_)
    · subst x2
      refine Does.step (State.markFault_does ..) (by decide) (by decide) ?_
      exact Does.refl ..
    clear_value x2
    refine Does.ite (fun _ => ?_) (fun _ => ?_)
    · assumption
    · split
      extract_lets +onlyGivenNames x3
      clear_value x3
      extract_lets +onlyGivenNames x4
      refine Does.via (x := x4) ?_ (fun _ => ?_)
      · subst x4
        refine Does.ite (fun _ => ?_) (fun _ => ?_)
        · refine Does.wr _ _ _ _ (by decide) ?_
          refine State.putRecWords_doesF1 (by decide) ?_
          refine Does.step (State.faultSeq_does (by assumption)) (by decide) (by decide) ?_
          assumption
        · refine Does.ite (fun _ => ?_) (fun _ => ?_)
          · refine Does.wr _ _ _ _ (by decide) ?_
            refine State.putRecWords_doesF1 (by decide) ?_
            refine Does.step (State.faultSeq_does (by assumption)) (by decide) (by decide) ?_
            assumption
          · refine Does.bump _ _ _ _ (by decide) ?_
            refine Does.step (State.faultSeq_does (by assumption)) (by decide) (by decide) ?_
            assumption
      clear_value x4
      extract_lets +onlyGivenNames x5
      refine Does.via (x := x5) ?_ (fun _ => ?_)
      · subst x5
        refine Does.step (State.raise_does ..) (by decide) (by decide) ?_
        assumption
      clear_value x5
      refine Does.step (State.react_does ..) (by decide) (by decide) ?_
      assumption

theorem State.takeFaults_does (s : State) :
    Does 0x100007088e7fc43cf9 0x7ffffffffffffffffffffffffffffffffffffffffffffffffffffffffffffffffff s (State.takeFaults s) := by
  unfold State.takeFaults
  extract_lets +onlyGivenNames x0
  clear_value x0
  refine Does.foldl (fun _ _ _ => ?_) ?_
  · refine Does.step (State.takeFault_does ..) (by decide) (by decide) ?_
    assumption
  · refine Does.upd_faultq _ (by decide) ?_
    exact Does.refl ..

theorem State.clearPend_does (s : State) (j : ℕ) (v : ℕ) :
    Does 0x2000004000000 0x820000000000000000000000000000 s (State.clearPend s j v) := by
  unfold State.clearPend
  refine Does.foldl (fun _ _ _ => ?_) ?_
  · refine Does.ite (fun _ => ?_) (fun _ => ?_)
    · refine Does.wr _ _ _ _ (by decide) ?_
      assumption
    · extract_lets +onlyGivenNames x0
      refine Does.via (x := x0) ?_ (fun _ => ?_)
      · subst x0
        refine Does.wr _ _ _ _ (by decide) ?_
        assumption
      clear_value x0
      refine Does.upd_fences_safeX _ _ (by decide) (by decide) ?_
      assumption
  · exact Does.refl ..

end Sys2Proof.Machine
end

