-- ==== Sys2Proof/Laws/DoesResetOps.lean ====
section
/-! SUPPORT. What each operation and meaning of Machine/ResetOps.lean may touch. -/

namespace Sys2Proof.Machine

open Sys2Proof

set_option linter.unusedVariables false

theorem State.startNv_does (s : State) :
    Does 0x1000000000000 0x0 s (State.startNv s) := by
  unfold State.startNv
  refine Does.ite (fun _ => ?_) (fun _ => ?_)
  · exact Does.refl ..
  · split
    · refine Does.step (State.pulseRow_does ..) (by decide) (by decide) ?_
      exact Does.refl ..
    · refine Does.ite (fun _ => ?_) (fun _ => ?_)
      · extract_lets +onlyGivenNames x0
        clear_value x0
        extract_lets +onlyGivenNames x1
        refine Does.via (x := x1) ?_ (fun _ => ?_)
        · subst x1
          refine Does.step (State.pulseRow_does ..) (by decide) (by decide) ?_
          exact Does.refl ..
        clear_value x1
        refine Does.upd_rst _ (by decide) ?_
        assumption
      · refine Does.upd_rst _ (by decide) ?_
        exact Does.refl ..

theorem State.endNv_does (s : State) (verified : Bool) :
    Does 0x1000000100000 0x80 s (State.endNv s verified) := by
  unfold State.endNv
  split
  · exact Does.refl ..
  · refine Does.ite (fun _ => ?_) (fun _ => ?_)
    · exact Does.refl ..
    · extract_lets +onlyGivenNames x0
      refine Does.via (x := x0) ?_ (fun _ => ?_)
      · subst x0
        refine Does.step (State.endPulse_does ..) (by decide) (by decide) ?_
        exact Does.refl ..
      clear_value x0
      extract_lets +onlyGivenNames x1
      clear_value x1
      refine Does.ite (fun _ => ?_) (fun _ => ?_)
      · refine Does.ite (fun _ => ?_) (fun _ => ?_)
        · refine Does.upd_rst _ (by decide) ?_
          assumption
        · assumption
      · refine Does.ite (fun _ => ?_) (fun _ => ?_)
        · refine Does.ite (fun _ => ?_) (fun _ => ?_)
          · refine Does.wr _ _ _ _ (by decide) ?_
            assumption
          · assumption
        · extract_lets +onlyGivenNames x2
          clear_value x2
          extract_lets +onlyGivenNames x3
          refine Does.via (x := x3) ?_ (fun _ => ?_)
          · subst x3
            refine Does.upd_rst _ (by decide) ?_
            assumption
          clear_value x3
          refine Does.wr _ _ _ _ (by decide) ?_
          refine Does.wr _ _ _ _ (by decide) ?_
          refine Does.wr _ _ _ _ (by decide) ?_
          assumption

theorem State.pinsOff_does (s : State) :
    Does 0x20 0x0 s (State.pinsOff s) := by
  unfold State.pinsOff
  refine Does.foldl (fun _ _ _ => ?_) ?_
  · refine Does.step (State.forceDrv_does ..) (by decide) (by decide) ?_
    assumption
  · exact Does.refl ..

theorem State.railsReset_does (s : State) (lv : ℕ) :
    Does 0x1020 0x4010000000000000000000000000000000000000000 s (State.railsReset s lv) := by
  unfold State.railsReset
  extract_lets +onlyGivenNames x0
  refine Does.via (x := x0) ?_ (fun _ => ?_)
  · subst x0
    refine Does.foldl (fun _ _ _ => ?_) ?_
    · extract_lets +onlyGivenNames x1
      clear_value x1
      extract_lets +onlyGivenNames x2
      clear_value x2
      refine Does.ite (fun _ => ?_) (fun _ => ?_)
      · refine Does.wr _ _ _ _ (by decide) ?_
        refine Does.step (State.setRail_does ..) (by decide) (by decide) ?_
        assumption
      · extract_lets +onlyGivenNames x3
        refine Does.via (x := x3) ?_ (fun _ => ?_)
        · subst x3
          refine Does.step (State.setRail_does ..) (by decide) (by decide) ?_
          assumption
        clear_value x3
        refine Does.ite (fun _ => ?_) (fun _ => ?_)
        · refine Does.step (State.startDown_does ..) (by decide) (by decide) ?_
          assumption
        · refine Does.ite (fun _ => ?_) (fun _ => ?_)
          · refine Does.wr _ _ _ _ (by decide) ?_
            assumption
          · assumption
    · exact Does.refl ..
  clear_value x0
  extract_lets +onlyGivenNames x4
  refine Does.via (x := x4) ?_ (fun _ => ?_)
  · subst x4
    refine Does.foldl (fun _ _ _ => ?_) ?_
    · refine Does.wr _ _ _ _ (by decide) ?_
      assumption
    · assumption
  clear_value x4
  refine Does.foldl (fun _ _ _ => ?_) ?_
  · refine Does.step (State.setPin_does ..) (by decide) (by decide) ?_
    assumption
  · assumption

theorem State.abortQueues_does (s : State) :
    Does 0x240000010 0x74000000000000000000000000000000000000000020000000000 s (State.abortQueues s) := by
  unfold State.abortQueues
  extract_lets +onlyGivenNames x0
  refine Does.via (x := x0) ?_ (fun _ => ?_)
  · subst x0
    refine Does.upd_mmuq _ (by decide) ?_
    exact Does.refl ..
  clear_value x0
  extract_lets +onlyGivenNames x1
  refine Does.via (x := x1) ?_ (fun _ => ?_)
  · subst x1
    refine Does.foldl (fun _ _ _ => ?_) ?_
    · refine Does.step (State.noImage_does ..) (by decide) (by decide) ?_
      assumption
    · assumption
  clear_value x1
  refine Does.foldl (fun _ _ _ => ?_) ?_
  · extract_lets +onlyGivenNames x2
    refine Does.via (x := x2) ?_ (fun _ => ?_)
    · subst x2
      refine Does.foldl (fun _ _ _ => ?_) ?_
      · refine Does.step (State.finish_does ..) (by decide) (by decide) ?_
        assumption
      · assumption
    clear_value x2
    refine Does.ite (fun _ => ?_) (fun _ => ?_)
    · assumption
    · refine Does.wr _ _ _ _ (by decide) ?_
      assumption
  · assumption

theorem State.clearQueues_does (s : State) :
    Does 0x1000000302c0800001 0x7ffffffffffffffffffffffffffffffffffffffffffffffffffffffffffffffffff s (State.clearQueues s) := by
  unfold State.clearQueues
  extract_lets +onlyGivenNames x0
  refine Does.via (x := x0) ?_ (fun _ => ?_)
  · subst x0
    refine Does.step (State.resetRegs_does ..) (by decide) (by decide) ?_
    exact Does.refl ..
  clear_value x0
  refine Does.upd_evq_qps_and6 _ _ _ _ _ _ (by decide) (by decide) (by decide) (by decide) (by decide) (by decide) ?_
  assumption

theorem State.resetWork_does (s : State) (lv : ℕ) :
    Does 0x1000200c0047acf8 0x8000000 s (State.resetWork s lv) := by
  unfold State.resetWork
  extract_lets +onlyGivenNames x0
  refine Does.via (x := x0) ?_ (fun _ => ?_)
  · subst x0
    refine Does.foldl (fun _ _ _ => ?_) ?_
    · refine Does.step (State.setPod_does ..) (by decide) (by decide) ?_
      assumption
    · exact Does.refl ..
  clear_value x0
  extract_lets +onlyGivenNames x1
  refine Does.via (x := x1) ?_ (fun _ => ?_)
  · subst x1
    refine Does.foldl (fun _ _ _ => ?_) ?_
    · refine Does.step (State.setPin_does ..) (by decide) (by decide) ?_
      assumption
    · assumption
  clear_value x1
  extract_lets +onlyGivenNames x2
  refine Does.via (x := x2) ?_ (fun _ => ?_)
  · subst x2
    refine Does.wrAll _ _ _ (by decide) ?_
    assumption
  clear_value x2
  refine Does.upd_gangs_ius_and15 _ _ _ _ _ _ _ _ _ _ _ _ _ _ _ ?_ ?_ ?_ (by decide) (by decide) (by decide) (by decide) (by decide) (by decide) (by decide) (by decide) (by decide) (by decide) (by decide) (by decide) (by decide) (by decide) (by decide) ?_
  · exact fun _ => rfl
  · exact fun _ => rfl
  · exact fun _ => rfl
  · assumption

theorem State.resetSystem_does (s : State) :
    Does 0x1e2df3f53ffa84300 0x0 s (State.resetSystem s) := by
  unfold State.resetSystem
  refine Does.upd_iuSetup_pmuSetup_and36 _ _ _ _ _ _ _ _ _ _ _ _ _ _ _ _ _ _ _ _ _ _ _ _ _ _ _ _ _ _ _ _ _ _ _ _ ?_ (by decide) (by decide) (by decide) (by decide) (by decide) (by decide) (by decide) (by decide) (by decide) (by decide) (by decide) (by decide) (by decide) (by decide) (by decide) (by decide) (by decide) (by decide) (by decide) (by decide) (by decide) (by decide) (by decide) (by decide) (by decide) (by decide) (by decide) (by decide) (by decide) (by decide) (by decide) (by decide) (by decide) (by decide) (by decide) (by decide) ?_
  · exact fun _ => rfl
  · exact Does.refl ..

theorem State.resetAll_does (s : State) :
    Does 0xe0125c40000001002 0x0 s (State.resetAll s) := by
  unfold State.resetAll
  refine Does.upd_now_rails_and12 _ _ _ _ _ _ _ _ _ _ _ _ ?_ (by decide) (by decide) (by decide) (by decide) (by decide) (by decide) (by decide) (by decide) (by decide) (by decide) (by decide) (by decide) ?_
  · exact fun _ => rfl
  · exact Does.refl ..

theorem State.roleReset_does (s : State) :
    Does 0x0 0x200002 s (State.roleReset s) := by
  unfold State.roleReset
  extract_lets +onlyGivenNames x0
  clear_value x0
  extract_lets +onlyGivenNames x1
  refine Does.via (x := x1) ?_ (fun _ => ?_)
  · subst x1
    refine Does.wr _ _ _ _ (by decide) ?_
    refine Does.wr _ _ _ _ (by decide) ?_
    exact Does.refl ..
  clear_value x1
  refine Does.ite (fun _ => ?_) (fun _ => ?_)
  · refine Does.wr _ _ _ _ (by decide) ?_
    assumption
  · assumption

theorem State.applyReset_does (s : State) (lv : ℕ) (count : Bool) :
    Does 0x1ff3ffff5fffeffffb 0x7ffffffffffffffffffffffffffffffffffffffffffffffffffffffffffffffffff s (State.applyReset s lv count) := by
  unfold State.applyReset
  extract_lets +onlyGivenNames x0
  refine Does.via (x := x0) ?_ (fun _ => ?_)
  · subst x0
    refine Does.step (State.railsReset_does ..) (by decide) (by decide) ?_
    refine Does.step (State.pinsOff_does ..) (by decide) (by decide) ?_
    exact Does.refl ..
  clear_value x0
  extract_lets +onlyGivenNames x1
  clear_value x1
  extract_lets +onlyGivenNames x2
  refine Does.via (x := x2) ?_ (fun _ => ?_)
  · subst x2
    refine Does.ite (fun _ => ?_) (fun _ => ?_)
    · refine Does.step (State.abortQueues_does ..) (by decide) (by decide) ?_
      assumption
    · assumption
  clear_value x2
  extract_lets +onlyGivenNames x3
  refine Does.via (x := x3) ?_ (fun _ => ?_)
  · subst x3
    refine Does.step (State.resetWork_does ..) (by decide) (by decide) ?_
    assumption
  clear_value x3
  extract_lets +onlyGivenNames x4
  refine Does.via (x := x4) ?_ (fun _ => ?_)
  · subst x4
    refine Does.ite (fun _ => ?_) (fun _ => ?_)
    · refine Does.step (State.resetRegs_does ..) (by decide) (by decide) ?_
      refine Does.step (State.resetAll_does ..) (by decide) (by decide) ?_
      refine Does.step (State.resetSystem_does ..) (by decide) (by decide) ?_
      assumption
    · refine Does.ite (fun _ => ?_) (fun _ => ?_)
      · refine Does.step (State.resetRegs_does ..) (by decide) (by decide) ?_
        refine Does.step (State.resetSystem_does ..) (by decide) (by decide) ?_
        assumption
      · refine Does.step (State.resetRegs_does ..) (by decide) (by decide) ?_
        assumption
  clear_value x4
  extract_lets +onlyGivenNames x5
  refine Does.via (x := x5) ?_ (fun _ => ?_)
  · subst x5
    refine Does.wr _ _ _ _ (by decide) ?_
    assumption
  clear_value x5
  extract_lets +onlyGivenNames x6
  refine Does.via (x := x6) ?_ (fun _ => ?_)
  · subst x6
    refine Does.ite (fun _ => ?_) (fun _ => ?_)
    · refine Does.step (State.roleReset_does ..) (by decide) (by decide) ?_
      assumption
    · assumption
  clear_value x6
  extract_lets +onlyGivenNames x7
  refine Does.via (x := x7) ?_ (fun _ => ?_)
  · subst x7
    refine Does.ite (fun _ => ?_) (fun _ => ?_)
    · refine Does.wr _ _ _ _ (by decide) ?_
      assumption
    · assumption
  clear_value x7
  refine Does.wr _ _ _ _ (by decide) ?_
  assumption

theorem State.deferReset_does (s : State) :
    Does 0x1000009801838 0x8a04010000000000000000000000000000000000000010 s (State.deferReset s) := by
  unfold State.deferReset
  extract_lets +onlyGivenNames x0
  clear_value x0
  extract_lets +onlyGivenNames x1
  refine Does.via (x := x1) ?_ (fun _ => ?_)
  · subst x1
    refine Does.upd_rst _ (by decide) ?_
    exact Does.refl ..
  clear_value x1
  extract_lets +onlyGivenNames x2
  refine Does.via (x := x2) ?_ (fun _ => ?_)
  · subst x2
    refine Does.wr _ _ _ _ (by decide) ?_
    refine Does.wr _ _ _ _ (by decide) ?_
    refine Does.step (State.pinsOff_does ..) (by decide) (by decide) ?_
    assumption
  clear_value x2
  extract_lets +onlyGivenNames x3
  refine Does.via (x := x3) ?_ (fun _ => ?_)
  · subst x3
    refine Does.foldl (fun _ _ _ => ?_) ?_
    · refine Does.step (State.faultMute_does ..) (by decide) (by decide) ?_
      assumption
    · assumption
  clear_value x3
  refine Does.step (State.railsReset_does ..) (by decide) (by decide) ?_
  assumption

theorem State.cutPulse_does (s : State) :
    Does 0x1000000100004 0x0 s (State.cutPulse s) := by
  unfold State.cutPulse
  split
  · exact Does.refl ..
  · extract_lets +onlyGivenNames x0
    clear_value x0
    refine Does.upd_free_mtpMem_rst _ _ _ ?_ (by decide) (by decide) (by decide) ?_
    · exact fun h => Memory.writeBytes_wf h _ _
    · exact Does.refl ..

theorem State.assertSrc_does (s : State) (i : ℕ) :
    Does 0x1ff3ffff5fffffffff 0x7ffffffffffffffffffffffffffffffffffffffffffffffffffffffffffffffffff s (State.assertSrc s i) := by
  unfold State.assertSrc
  refine Does.ite (fun _ => ?_) (fun _ => ?_)
  · exact Does.refl ..
  · extract_lets +onlyGivenNames x0
    extract_lets +onlyGivenNames x1
    extract_lets +onlyGivenNames x2
    clear_value x2
    extract_lets +onlyGivenNames x3
    refine Does.via (x := x3) ?_ (fun _ => ?_)
    · subst x3
      refine Does.upd_rst _ (by decide) ?_
      exact Does.refl ..
    extract_lets +onlyGivenNames x4
    refine Does.via (x := x4) ?_ (fun _ => ?_)
    · subst x4
      refine Does.wr _ _ _ _ (by decide) ?_
      assumption
    refine Does.ite (fun _ => ?_) (fun _ => ?_)
    · assumption
    · refine Does.ite (fun _ => ?_) (fun _ => ?_)
      · refine Does.step (State.deferReset_does ..) (by decide) (by decide) ?_
        assumption
      · refine Does.ite (fun _ => ?_) (fun _ => ?_)
        · assumption
        · extract_lets +onlyGivenNames x5
          refine Does.via (x := x5) ?_ (fun _ => ?_)
          · subst x5
            refine Does.wr _ _ _ _ (by decide) ?_
            refine Does.step (State.cutPulse_does ..) (by decide) (by decide) ?_
            assumption
          clear_value x5
          extract_lets +onlyGivenNames x6
          clear_value x6
          extract_lets +onlyGivenNames x7
          refine Does.via (x := x7) ?_ (fun _ => ?_)
          · subst x7
            refine Does.ite (fun _ => ?_) (fun _ => ?_)
            · refine Does.upd_rst _ (by decide) ?_
              assumption
            · assumption
          clear_value x7
          refine Does.ite (fun _ => ?_) (fun _ => ?_)
          · assumption
          · refine Does.step (State.applyReset_does ..) (by decide) (by decide) ?_
            assumption

theorem State.deassertSrc_does (s : State) (i : ℕ) :
    Does 0x1000000000000 0x10 s (State.deassertSrc s i) := by
  unfold State.deassertSrc
  extract_lets +onlyGivenNames x0
  clear_value x0
  extract_lets +onlyGivenNames x1
  refine Does.via (x := x1) ?_ (fun _ => ?_)
  · subst x1
    refine Does.upd_rst _ (by decide) ?_
    exact Does.refl ..
  clear_value x1
  refine Does.wr _ _ _ _ (by decide) ?_
  assumption

theorem State.readSafe_does (s : State) :
    Does 0xe0004000002000000 0x8 s (State.readSafe s) := by
  unfold State.readSafe
  extract_lets +onlyGivenNames x0
  clear_value x0
  extract_lets +onlyGivenNames x1
  refine Does.via (x := x1) ?_ (fun _ => ?_)
  · subst x1
    refine Does.ite (fun _ => ?_) (fun _ => ?_)
    · refine Does.upd_safePin _ (by decide) ?_
      exact Does.refl ..
    · refine Does.step (State.detect_does ..) (by decide) (by decide) ?_
      refine Does.wr _ _ _ _ (by decide) ?_
      refine Does.upd_safePin _ (by decide) ?_
      exact Does.refl ..
  clear_value x1
  extract_lets +onlyGivenNames x2
  refine Does.via (x := x2) ?_ (fun _ => ?_)
  · subst x2
    refine Does.ite (fun _ => ?_) (fun _ => ?_)
    · refine Does.upd_safeRail _ (by decide) ?_
      assumption
    · refine Does.step (State.detect_does ..) (by decide) (by decide) ?_
      refine Does.wr _ _ _ _ (by decide) ?_
      refine Does.upd_safeRail _ (by decide) ?_
      assumption
  clear_value x2
  refine Does.ite (fun _ => ?_) (fun _ => ?_)
  · refine Does.upd_safeWave _ (by decide) ?_
    assumption
  · refine Does.step (State.detect_does ..) (by decide) (by decide) ?_
    refine Does.wr _ _ _ _ (by decide) ?_
    refine Does.upd_safeWave _ (by decide) ?_
    assumption

theorem State.applySafe_does (s : State) :
    Does 0x800 0x1e0000000000000000004001a00000000000000000000000000000000000000000 s (State.applySafe s) := by
  unfold State.applySafe
  extract_lets +onlyGivenNames x0
  refine Does.via (x := x0) ?_ (fun _ => ?_)
  · subst x0
    refine Does.foldl (fun _ _ _ => ?_) ?_
    · extract_lets +onlyGivenNames x1
      clear_value x1
      extract_lets +onlyGivenNames x2
      refine Does.via (x := x2) ?_ (fun _ => ?_)
      · subst x2
        refine Does.wr _ _ _ _ (by decide) ?_
        refine Does.wr _ _ _ _ (by decide) ?_
        assumption
      clear_value x2
      refine Does.wr _ _ _ _ (by decide) ?_
      refine Does.wr _ _ _ _ (by decide) ?_
      refine Does.wr _ _ _ _ (by decide) ?_
      assumption
    · exact Does.refl ..
  clear_value x0
  extract_lets +onlyGivenNames x3
  refine Does.via (x := x3) ?_ (fun _ => ?_)
  · subst x3
    refine Does.foldl (fun _ _ _ => ?_) ?_
    · extract_lets +onlyGivenNames x4
      clear_value x4
      refine Does.step (State.setWave_does ..) (by decide) (by decide) ?_
      refine Does.wr _ _ _ _ (by decide) ?_
      assumption
    · assumption
  clear_value x3
  refine Does.foldl (fun _ _ _ => ?_) ?_
  · extract_lets +onlyGivenNames x5
    clear_value x5
    refine Does.foldl (fun _ _ _ => ?_) ?_
    · extract_lets +onlyGivenNames x6
      refine Does.via (x := x6) ?_ (fun _ => ?_)
      · subst x6
        refine Does.wr _ _ _ _ (by decide) ?_
        refine Does.wr _ _ _ _ (by decide) ?_
        refine Does.wr _ _ _ _ (by decide) ?_
        assumption
      clear_value x6
      extract_lets +onlyGivenNames x7
      refine Does.via (x := x7) ?_ (fun _ => ?_)
      · subst x7
        refine Does.wr _ _ _ _ (by decide) ?_
        refine Does.wr _ _ _ _ (by decide) ?_
        refine Does.wr _ _ _ _ (by decide) ?_
        assumption
      clear_value x7
      refine Does.wr _ _ _ _ (by decide) ?_
      assumption
    · assumption
  · assumption

end Sys2Proof.Machine
end

