-- ==== Sys2Proof/Laws/DoesPowOps.lean ====
section
/-! SUPPORT. What each operation and meaning of Machine/PowOps.lean may touch. -/

namespace Sys2Proof.Machine

open Sys2Proof

set_option linter.unusedVariables false

theorem State.trackTarget_does (s : State) :
    Does 0x200000000000 0x10000000000000000000000000 s (State.trackTarget s) := by
  unfold State.trackTarget
  extract_lets +onlyGivenNames x0
  clear_value x0
  extract_lets +onlyGivenNames x1
  clear_value x1
  extract_lets +onlyGivenNames x2
  clear_value x2
  extract_lets +onlyGivenNames x3
  clear_value x3
  extract_lets +onlyGivenNames x4
  refine Does.via (x := x4) ?_ (fun _ => ?_)
  · subst x4
    refine Does.wr _ _ _ _ (by decide) ?_
    refine Does.wr _ _ _ _ (by decide) ?_
    refine Does.wr _ _ _ _ (by decide) ?_
    exact Does.refl ..
  clear_value x4
  refine Does.upd_pwr _ (by decide) ?_
  assumption

theorem State.rebias_does (s : State) (old : State) :
    Does 0x20 0x8000000000000000000000000000000000000000000000000000000000000000 s (State.rebias s old) := by
  unfold State.rebias
  refine Does.foldl (fun _ _ _ => ?_) ?_
  · refine Does.ite (fun _ => ?_) (fun _ => ?_)
    · assumption
    · refine Does.step (State.refilter_does ..) (by decide) (by decide) ?_
      assumption
  · exact Does.refl ..

theorem State.refilterAll_does (s : State) (l : List ℕ) :
    Does 0x20 0x8000000000000000000000000000000000000000000000000000000000000000 s (State.refilterAll s l) := by
  unfold State.refilterAll
  refine Does.foldl (fun _ _ _ => ?_) ?_
  · refine Does.step (State.refilter_does ..) (by decide) (by decide) ?_
    assumption
  · exact Does.refl ..

theorem State.keepDeep_does (s : State) :
    Does 0x20 0x18000000000000000000000000000000000000000000000000000000000000000 s (State.keepDeep s) := by
  unfold State.keepDeep
  extract_lets +onlyGivenNames x0
  clear_value x0
  extract_lets +onlyGivenNames x1
  refine Does.via (x := x1) ?_ (fun _ => ?_)
  · subst x1
    refine Does.step (State.refilterAll_does ..) (by decide) (by decide) ?_
    exact Does.refl ..
  clear_value x1
  refine Does.foldl (fun _ _ _ => ?_) ?_
  · refine Does.ite (fun _ => ?_) (fun _ => ?_)
    · refine Does.wr _ _ _ _ (by decide) ?_
      assumption
    · assumption
  · assumption

theorem State.eclkBack_does (s : State) :
    Does 0x1020 0x8000000000000000000000000000000000000000000000000000000000000000 s (State.eclkBack s) := by
  unfold State.eclkBack
  extract_lets +onlyGivenNames x0
  refine Does.via (x := x0) ?_ (fun _ => ?_)
  · subst x0
    refine Does.foldl (fun _ _ _ => ?_) ?_
    · refine Does.ite (fun _ => ?_) (fun _ => ?_)
      · refine Does.step (State.refilter_does ..) (by decide) (by decide) ?_
        assumption
      · assumption
    · exact Does.refl ..
  clear_value x0
  refine Does.foldl (fun _ _ _ => ?_) ?_
  · extract_lets +onlyGivenNames x1
    refine Does.via (x := x1) ?_ (fun _ => ?_)
    · subst x1
      refine Does.ite (fun _ => ?_) (fun _ => ?_)
      · refine Does.step (State.restartMon_does ..) (by decide) (by decide) ?_
        assumption
      · assumption
    clear_value x1
    refine Does.ite (fun _ => ?_) (fun _ => ?_)
    · refine Does.step (State.restartMon_does ..) (by decide) (by decide) ?_
      assumption
    · assumption
  · assumption

theorem State.watermark_does (s : State) (w : Stamp) :
    Does 0x1001800000 0x1800000 s (State.watermark s w) := by
  unfold State.watermark
  extract_lets +onlyGivenNames x0
  clear_value x0
  extract_lets +onlyGivenNames x1
  clear_value x1
  extract_lets +onlyGivenNames x2
  clear_value x2
  extract_lets +onlyGivenNames x3
  clear_value x3
  extract_lets +onlyGivenNames x4
  clear_value x4
  extract_lets +onlyGivenNames x5
  refine Does.via (x := x5) ?_ (fun _ => ?_)
  · subst x5
    refine Does.foldl (fun _ _ _ => ?_) ?_
    · refine Does.step (State.emit_does ..) (by decide) (by decide) ?_
      assumption
    · exact Does.refl ..
  clear_value x5
  extract_lets +onlyGivenNames x6
  refine Does.via (x := x6) ?_ (fun _ => ?_)
  · subst x6
    refine Does.wrStamp _ _ _ _ (by decide) (by decide) ?_
    assumption
  clear_value x6
  refine Does.upd_seqs_wm _ _ (by decide) (by decide) ?_
  assumption

theorem State.setPower_does (s : State) (st : ℕ) :
    Does 0x180009801028 0x18000000000000000000000000000000000000010200000000000000000000004 s (State.setPower s st) := by
  unfold State.setPower
  extract_lets +onlyGivenNames x0
  refine Does.via (x := x0) ?_ (fun _ => ?_)
  · subst x0
    exact Does.refl ..
  clear_value x0
  extract_lets +onlyGivenNames x1
  refine Does.via (x := x1) ?_ (fun _ => ?_)
  · subst x1
    refine Does.step (State.syncPins_does ..) (by decide) (by decide) ?_
    exact Does.refl ..
  clear_value x1
  extract_lets +onlyGivenNames x2
  refine Does.via (x := x2) ?_ (fun _ => ?_)
  · subst x2
    refine Does.wr _ _ _ _ (by decide) ?_
    assumption
  clear_value x2
  extract_lets +onlyGivenNames x3
  refine Does.via (x := x3) ?_ (fun _ => ?_)
  · subst x3
    refine Does.wr _ _ _ _ (by decide) ?_
    assumption
  clear_value x3
  extract_lets +onlyGivenNames x4
  refine Does.via (x := x4) ?_ (fun _ => ?_)
  · subst x4
    refine Does.ite (fun _ => ?_) (fun _ => ?_)
    · refine Does.wr _ _ _ _ (by decide) ?_
      refine Does.wr _ _ _ _ (by decide) ?_
      assumption
    · refine Does.ite (fun _ => ?_) (fun _ => ?_)
      · refine Does.wr _ _ _ _ (by decide) ?_
        refine Does.wr _ _ _ _ (by decide) ?_
        assumption
      · assumption
  clear_value x4
  extract_lets +onlyGivenNames x5
  refine Does.via (x := x5) ?_ (fun _ => ?_)
  · subst x5
    refine Does.ite (fun _ => ?_) (fun _ => ?_)
    · refine Does.foldl (fun _ _ _ => ?_) ?_
      · extract_lets +onlyGivenNames x6
        clear_value x6
        refine Does.ite (fun _ => ?_) (fun _ => ?_)
        · extract_lets +onlyGivenNames x7
          refine Does.via (x := x7) ?_ (fun _ => ?_)
          · subst x7
            refine Does.wr _ _ _ _ (by decide) ?_
            refine Does.wr _ _ _ _ (by decide) ?_
            assumption
          clear_value x7
          refine Does.step (State.setPort_does ..) (by decide) (by decide) ?_
          refine Does.wr _ _ _ _ (by decide) ?_
          assumption
        · assumption
      · assumption
    · assumption
  clear_value x5
  extract_lets +onlyGivenNames x8
  clear_value x8
  extract_lets +onlyGivenNames x9
  refine Does.via (x := x9) ?_ (fun _ => ?_)
  · subst x9
    refine Does.upd_fab _ (by decide) ?_
    assumption
  clear_value x9
  extract_lets +onlyGivenNames x10
  clear_value x10
  extract_lets +onlyGivenNames x11
  refine Does.via (x := x11) ?_ (fun _ => ?_)
  · subst x11
    refine Does.ite (fun _ => ?_) (fun _ => ?_)
    · refine Does.upd_fab _ (by decide) ?_
      assumption
    · assumption
  clear_value x11
  extract_lets +onlyGivenNames x12
  refine Does.via (x := x12) ?_ (fun _ => ?_)
  · subst x12
    refine Does.step (State.rebias_does ..) (by decide) (by decide) ?_
    assumption
  clear_value x12
  extract_lets +onlyGivenNames x13
  refine Does.via (x := x13) ?_ (fun _ => ?_)
  · subst x13
    refine Does.ite (fun _ => ?_) (fun _ => ?_)
    · refine Does.step (State.keepDeep_does ..) (by decide) (by decide) ?_
      assumption
    · refine Does.ite (fun _ => ?_) (fun _ => ?_)
      · refine Does.step (State.refilterAll_does ..) (by decide) (by decide) ?_
        assumption
      · assumption
  clear_value x13
  extract_lets +onlyGivenNames x14
  refine Does.via (x := x14) ?_ (fun _ => ?_)
  · subst x14
    refine Does.ite (fun _ => ?_) (fun _ => ?_)
    · refine Does.step (State.eclkBack_does ..) (by decide) (by decide) ?_
      assumption
    · assumption
  clear_value x14
  extract_lets +onlyGivenNames x15
  refine Does.via (x := x15) ?_ (fun _ => ?_)
  · subst x15
    refine Does.ite (fun _ => ?_) (fun _ => ?_)
    · refine Does.foldl (fun _ _ _ => ?_) ?_
      · extract_lets +onlyGivenNames x16
        refine Does.via (x := x16) ?_ (fun _ => ?_)
        · subst x16
          refine Does.ite (fun _ => ?_) (fun _ => ?_)
          · refine Does.step (State.restartMon_does ..) (by decide) (by decide) ?_
            assumption
          · assumption
        clear_value x16
        refine Does.ite (fun _ => ?_) (fun _ => ?_)
        · refine Does.step (State.restartMon_does ..) (by decide) (by decide) ?_
          assumption
        · assumption
      · assumption
    · assumption
  clear_value x15
  refine Does.step (State.raise_does ..) (by decide) (by decide) ?_
  assumption

theorem State.setLevel_does (s : State) (k : ℕ) (lvl : ℕ) (sensor : ℕ) (byRate : Bool) :
    Does 0x8000800009800028 0x8000000000000000000000000000000000002000000000000000000000000000 s (State.setLevel s k lvl sensor byRate) := by
  unfold State.setLevel
  extract_lets +onlyGivenNames x0
  clear_value x0
  refine Does.ite (fun _ => ?_) (fun _ => ?_)
  · exact Does.refl ..
  · extract_lets +onlyGivenNames x1
    refine Does.via (x := x1) ?_ (fun _ => ?_)
    · subst x1
      exact Does.refl ..
    clear_value x1
    extract_lets +onlyGivenNames x2
    refine Does.via (x := x2) ?_ (fun _ => ?_)
    · subst x2
      refine Does.wr _ _ _ _ (by decide) ?_
      refine Does.wr _ _ _ _ (by decide) ?_
      exact Does.refl ..
    clear_value x2
    extract_lets +onlyGivenNames x3
    clear_value x3
    extract_lets +onlyGivenNames x4
    refine Does.via (x := x4) ?_ (fun _ => ?_)
    · subst x4
      refine Does.upd_doms _ (by decide) ?_
      assumption
    clear_value x4
    extract_lets +onlyGivenNames x5
    refine Does.via (x := x5) ?_ (fun _ => ?_)
    · subst x5
      refine Does.step (State.askWake_does ..) (by decide) (by decide) ?_
      refine Does.step (State.raise_does ..) (by decide) (by decide) ?_
      assumption
    clear_value x5
    refine Does.step (State.rebias_does ..) (by decide) (by decide) ?_
    assumption

theorem State.trackDom_does (s : State) (k : ℕ) :
    Does 0x8000800009800028 0x8000000000000000000000000000000000002000000000000000000000000000 s (State.trackDom s k) := by
  unfold State.trackDom
  extract_lets +onlyGivenNames x0
  refine Does.via (x := x0) ?_ (fun _ => ?_)
  · subst x0
    refine Does.wr _ _ _ _ (by decide) ?_
    exact Does.refl ..
  clear_value x0
  split
  extract_lets +onlyGivenNames x1
  refine Does.via (x := x1) ?_ (fun _ => ?_)
  · subst x1
    refine Does.ite (fun _ => ?_) (fun _ => ?_)
    · refine Does.step (State.setLevel_does ..) (by decide) (by decide) ?_
      assumption
    · assumption
  clear_value x1
  extract_lets +onlyGivenNames x2
  clear_value x2
  extract_lets +onlyGivenNames x3
  clear_value x3
  refine Does.upd_doms _ (by decide) ?_
  assumption

theorem State.shutdown_does (s : State) (sensor : ℕ) :
    Does 0x7000e7bc03cf8 0x48000400a0020007413018a040743c00080006a4000000000002040820000000004 s (State.shutdown s sensor) := by
  unfold State.shutdown
  refine Does.ite (fun _ => ?_) (fun _ => ?_)
  · exact Does.refl ..
  · extract_lets +onlyGivenNames x0
    clear_value x0
    extract_lets +onlyGivenNames x1
    clear_value x1
    extract_lets +onlyGivenNames x2
    refine Does.via (x := x2) ?_ (fun _ => ?_)
    · subst x2
      refine Does.step (State.nvRecord_does ..) (by decide) (by decide) ?_
      refine Does.wr _ _ _ _ (by decide) ?_
      refine Does.step (State.syncPins_does ..) (by decide) (by decide) ?_
      exact Does.refl ..
    clear_value x2
    extract_lets +onlyGivenNames x3
    refine Does.via (x := x3) ?_ (fun _ => ?_)
    · subst x3
      refine Does.step (State.enterSafe_does ..) (by decide) (by decide) ?_
      refine Does.step (State.detect_does ..) (by decide) (by decide) ?_
      assumption
    clear_value x3
    extract_lets +onlyGivenNames x4
    refine Does.via (x := x4) ?_ (fun _ => ?_)
    · subst x4
      refine Does.wr _ _ _ _ (by decide) ?_
      refine Does.wr _ _ _ _ (by decide) ?_
      refine Does.wr _ _ _ _ (by decide) ?_
      assumption
    clear_value x4
    refine Does.step (State.raise_does ..) (by decide) (by decide) ?_
    assumption

theorem State.endShut_does (s : State) :
    Does 0x4000000001020 0x8000000000000000000000000000000001004000000000000000000000000004 s (State.endShut s) := by
  unfold State.endShut
  extract_lets +onlyGivenNames x0
  refine Does.via (x := x0) ?_ (fun _ => ?_)
  · subst x0
    refine Does.step (State.endLive_does ..) (by decide) (by decide) ?_
    refine Does.wr _ _ _ _ (by decide) ?_
    exact Does.refl ..
  clear_value x0
  extract_lets +onlyGivenNames x1
  refine Does.via (x := x1) ?_ (fun _ => ?_)
  · subst x1
    refine Does.ite (fun _ => ?_) (fun _ => ?_)
    · assumption
    · refine Does.wr _ _ _ _ (by decide) ?_
      refine Does.wr _ _ _ _ (by decide) ?_
      assumption
  clear_value x1
  refine Does.ite (fun _ => ?_) (fun _ => ?_)
  · refine Does.step (State.eclkBack_does ..) (by decide) (by decide) ?_
    refine Does.wr _ _ _ _ (by decide) ?_
    assumption
  · assumption

end Sys2Proof.Machine
end

