-- ==== Sys2Proof/Laws/DoesPmcOps.lean ====
section
/-! SUPPORT. What each operation and meaning of Machine/PmcOps.lean may touch. -/

namespace Sys2Proof.Machine

open Sys2Proof

set_option linter.unusedVariables false

theorem State.pmcLoad_does (s : State) (c : ℕ) (v : ℕ) :
    Does 0x8000000 0x0 s (State.pmcLoad s c v) := by
  unfold State.pmcLoad
  extract_lets +onlyGivenNames x0
  clear_value x0
  refine Does.upd_pmc _ (by decide) ?_
  exact Does.refl ..

theorem State.pmcSelect_does (s : State) (c : ℕ) (v : ℕ) :
    Does 0x8000000 0x1200000000000000000000000000000000000 s (State.pmcSelect s c v) := by
  unfold State.pmcSelect
  refine Does.ite (fun _ => ?_) (fun _ => ?_)
  · refine Does.wr _ _ _ _ (by decide) ?_
    exact Does.refl ..
  · extract_lets +onlyGivenNames x0
    clear_value x0
    extract_lets +onlyGivenNames x1
    clear_value x1
    extract_lets +onlyGivenNames x2
    refine Does.via (x := x2) ?_ (fun _ => ?_)
    · subst x2
      refine Does.wr _ _ _ _ (by decide) ?_
      refine Does.wr _ _ _ _ (by decide) ?_
      refine Does.wr _ _ _ _ (by decide) ?_
      exact Does.refl ..
    clear_value x2
    extract_lets +onlyGivenNames x3
    refine Does.via (x := x3) ?_ (fun _ => ?_)
    · subst x3
      refine Does.wr _ _ _ _ (by decide) ?_
      assumption
    clear_value x3
    extract_lets +onlyGivenNames x4
    clear_value x4
    extract_lets +onlyGivenNames x5
    refine Does.via (x := x5) ?_ (fun _ => ?_)
    · subst x5
      refine Does.step (State.pmcLoad_does ..) (by decide) (by decide) ?_
      assumption
    clear_value x5
    extract_lets +onlyGivenNames x6
    clear_value x6
    refine Does.upd_pmc _ (by decide) ?_
    assumption

theorem State.shadowCopy_does (s : State) (k : ℕ) :
    Does 0x200000000000000 0x38000000000000000000000000000000000000 s (State.shadowCopy s k) := by
  unfold State.shadowCopy
  extract_lets +onlyGivenNames x0
  clear_value x0
  extract_lets +onlyGivenNames x1
  clear_value x1
  extract_lets +onlyGivenNames x2
  clear_value x2
  extract_lets +onlyGivenNames x3
  refine Does.via (x := x3) ?_ (fun _ => ?_)
  · subst x3
    refine Does.upd_shd _ (by decide) ?_
    exact Does.refl ..
  clear_value x3
  extract_lets +onlyGivenNames x4
  refine Does.via (x := x4) ?_ (fun _ => ?_)
  · subst x4
    refine Does.foldl (fun _ _ _ => ?_) ?_
    · refine Does.ite (fun _ => ?_) (fun _ => ?_)
      · refine Does.wr _ _ _ _ (by decide) ?_
        refine Does.wr _ _ _ _ (by decide) ?_
        assumption
      · assumption
    · assumption
  clear_value x4
  refine Does.wr _ _ _ _ (by decide) ?_
  assumption

end Sys2Proof.Machine
end

