-- ==== Sys2Proof/Laws/DoesTimeRows.lean ====
section
/-! SUPPORT. What each operation and meaning of Machine/TimeRows.lean may touch. -/

namespace Sys2Proof.Machine

open Sys2Proof

set_option linter.unusedVariables false

theorem State.takeWrap_does (s : State) :
    Does 0x41000000000 0x220000 s (State.takeWrap s) := by
  unfold State.takeWrap
  refine Does.ite (fun _ => ?_) (fun _ => ?_)
  · extract_lets +onlyGivenNames x0
    refine Does.via (x := x0) ?_ (fun _ => ?_)
    · subst x0
      refine Does.wr _ _ _ _ (by decide) ?_
      refine Does.wr _ _ _ _ (by decide) ?_
      exact Does.refl ..
    clear_value x0
    refine Does.upd_wm_time _ _ (by decide) (by decide) ?_
    assumption
  · exact Does.refl ..

theorem State.countTicks_does (s : State) (n : ℕ) :
    Does 0x6000000008000000 0x0 s (State.countTicks s n) := by
  unfold State.countTicks
  extract_lets +onlyGivenNames x0
  clear_value x0
  extract_lets +onlyGivenNames x1
  refine Does.via (x := x1) ?_ (fun _ => ?_)
  · subst x1
    refine Does.upd_tickAcc_tickDie _ _ (by decide) (by decide) ?_
    exact Does.refl ..
  clear_value x1
  extract_lets +onlyGivenNames x2
  refine Does.via (x := x2) ?_ (fun _ => ?_)
  · subst x2
    refine Does.ite (fun _ => ?_) (fun _ => ?_)
    · assumption
    · refine Does.step (State.pulse_does ..) (by decide) (by decide) ?_
      assumption
  clear_value x2
  refine Does.foldl (fun _ _ _ => ?_) ?_
  · refine Does.ite (fun _ => ?_) (fun _ => ?_)
    · refine Does.step (State.pulse_does ..) (by decide) (by decide) ?_
      assumption
    · assumption
  · assumption

theorem State.endTick_does (s : State) :
    Does 0x800041019c03cf8 0x4800000021200006c1200bc04004040008000000000000000000000000000220000 s (State.endTick s) := by
  unfold State.endTick
  extract_lets +onlyGivenNames x0
  refine Does.via (x := x0) ?_ (fun _ => ?_)
  · subst x0
    refine Does.step (State.takeWrap_does ..) (by decide) (by decide) ?_
    exact Does.refl ..
  clear_value x0
  extract_lets +onlyGivenNames x1
  refine Does.via (x := x1) ?_ (fun _ => ?_)
  · subst x1
    refine Does.ite (fun _ => ?_) (fun _ => ?_)
    · refine Does.foldl (fun _ _ _ => ?_) ?_
      · refine Does.step (State.waveTick_does ..) (by decide) (by decide) ?_
        assumption
      · assumption
    · assumption
  clear_value x1
  extract_lets +onlyGivenNames x2
  refine Does.via (x := x2) ?_ (fun _ => ?_)
  · subst x2
    refine Does.step (State.raiseMarks_does ..) (by decide) (by decide) ?_
    assumption
  clear_value x2
  extract_lets +onlyGivenNames x3
  refine Does.via (x := x3) ?_ (fun _ => ?_)
  · subst x3
    refine Does.foldl (fun _ _ _ => ?_) ?_
    · refine Does.step (State.countXwait_does ..) (by decide) (by decide) ?_
      refine Does.step (State.raiseErr_does ..) (by decide) (by decide) ?_
      assumption
    · assumption
  clear_value x3
  refine Does.upd_wm _ (by decide) ?_
  assumption

theorem execWrap_does (s : State) :
    DoesO 0x41000000000 0x220000 s (execWrap s) := by
  unfold execWrap
  refine DoesO.next ?_
  refine Does.step (State.takeWrap_does ..) (by decide) (by decide) ?_
  exact Does.refl ..

theorem State.readNow_does (s : State) :
    Does 0x0 0x10000 s (State.readNow s) := by
  unfold State.readNow
  refine Does.wr _ _ _ _ (by decide) ?_
  exact Does.refl ..

theorem execWtNowLoRead_does (s : State) :
    DoesO 0x8000000000 0x10000 s (execWtNowLoRead s) := by
  unfold execWtNowLoRead
  refine DoesO.next ?_
  extract_lets +onlyGivenNames x0
  refine Does.via (x := x0) ?_ (fun _ => ?_)
  · subst x0
    refine Does.step (State.readNow_does ..) (by decide) (by decide) ?_
    exact Does.refl ..
  clear_value x0
  refine Does.upd_out _ (by decide) ?_
  assumption

theorem State.readPmc_does (s : State) (c : ℕ) :
    Does 0x0 0x100000000000000000000000000000000000 s (State.readPmc s c) := by
  unfold State.readPmc
  refine Does.wr _ _ _ _ (by decide) ?_
  exact Does.refl ..

theorem execPmcCntLoRead_does (pmc : PmcId) (s : State) :
    DoesO 0x8000000000 0x100000000000000000000000000000000000 s (execPmcCntLoRead pmc s) := by
  unfold execPmcCntLoRead
  refine DoesO.next ?_
  extract_lets +onlyGivenNames x0
  clear_value x0
  extract_lets +onlyGivenNames x1
  refine Does.via (x := x1) ?_ (fun _ => ?_)
  · subst x1
    refine Does.step (State.readPmc_does ..) (by decide) (by decide) ?_
    exact Does.refl ..
  clear_value x1
  refine Does.upd_out _ (by decide) ?_
  assumption

theorem State.writePmc_does (s : State) (c : ℕ) (v : ℕ) :
    Does 0x8000000 0x0 s (State.writePmc s c v) := by
  unfold State.writePmc
  refine Does.step (State.pmcLoad_does ..) (by decide) (by decide) ?_
  exact Does.refl ..

theorem execPmcCntLoWrite_does (pmc : PmcId) (value : BitVec 32) (s : State) :
    DoesO 0x8000000 0x0 s (execPmcCntLoWrite pmc value s) := by
  unfold execPmcCntLoWrite
  refine DoesO.next ?_
  refine Does.step (State.writePmc_does ..) (by decide) (by decide) ?_
  exact Does.refl ..

theorem execTcompUpdate_does (temp : BitVec 16) (s : State) :
    DoesO 0x40000000000 0x80000 s (execTcompUpdate temp s) := by
  unfold execTcompUpdate
  refine DoesO.next ?_
  extract_lets +onlyGivenNames x0
  clear_value x0
  refine Does.ite (fun _ => ?_) (fun _ => ?_)
  · exact Does.refl ..
  · extract_lets +onlyGivenNames x1
    clear_value x1
    refine Does.wr _ _ _ _ (by decide) ?_
    refine Does.upd_time _ (by decide) ?_
    exact Does.refl ..

theorem execCompensation_does (die : DieId) (temp : BitVec 16) (s : State) :
    DoesO 0x4000 0x0 s (execCompensation die temp s) := by
  unfold execCompensation
  refine DoesO.next ?_
  extract_lets +onlyGivenNames x0
  clear_value x0
  extract_lets +onlyGivenNames x1
  clear_value x1
  refine Does.ite (fun _ => ?_) (fun _ => ?_)
  · exact Does.refl ..
  · refine Does.step (State.setDie_does ..) (by decide) (by decide) ?_
    exact Does.refl ..

theorem State.writeAge_does (s : State) (v : ℕ) :
    Does 0x40000000000 0x80000 s (State.writeAge s v) := by
  unfold State.writeAge
  extract_lets +onlyGivenNames x0
  clear_value x0
  refine Does.wr _ _ _ _ (by decide) ?_
  refine Does.upd_time _ (by decide) ?_
  exact Does.refl ..

theorem execAgeWrite_does (value : BitVec 16) (s : State) :
    DoesO 0x40000000000 0x80000 s (execAgeWrite value s) := by
  unfold execAgeWrite
  refine DoesO.next ?_
  refine Does.step (State.writeAge_does ..) (by decide) (by decide) ?_
  exact Does.refl ..

theorem State.selectRef_does (s : State) (v : ℕ) :
    Does 0x40000000000 0x240000 s (State.selectRef s v) := by
  unfold State.selectRef
  refine Does.ite (fun _ => ?_) (fun _ => ?_)
  · exact Does.refl ..
  · extract_lets +onlyGivenNames x0
    refine Does.via (x := x0) ?_ (fun _ => ?_)
    · subst x0
      refine Does.wr _ _ _ _ (by decide) ?_
      refine Does.wr _ _ _ _ (by decide) ?_
      exact Does.refl ..
    clear_value x0
    refine Does.upd_time _ (by decide) ?_
    assumption

theorem execReferenceLost_does (s : State) :
    DoesO 0x4040002000000 0x200000 s (execReferenceLost s) := by
  unfold execReferenceLost
  refine DoesO.next ?_
  refine Does.ite (fun _ => ?_) (fun _ => ?_)
  · exact Does.refl ..
  · extract_lets +onlyGivenNames x0
    refine Does.via (x := x0) ?_ (fun _ => ?_)
    · subst x0
      refine Does.wr _ _ _ _ (by decide) ?_
      refine Does.wr _ _ _ _ (by decide) ?_
      exact Does.refl ..
    clear_value x0
    extract_lets +onlyGivenNames x1
    clear_value x1
    extract_lets +onlyGivenNames x2
    refine Does.via (x := x2) ?_ (fun _ => ?_)
    · subst x2
      refine Does.upd_time _ (by decide) ?_
      assumption
    clear_value x2
    refine Does.ite (fun _ => ?_) (fun _ => ?_)
    · refine Does.step (State.detect_does ..) (by decide) (by decide) ?_
      assumption
    · assumption

theorem execReferenceRelock_does (s : State) :
    DoesO 0x0 0x200000 s (execReferenceRelock s) := by
  unfold execReferenceRelock
  refine DoesO.next ?_
  refine Does.ite (fun _ => ?_) (fun _ => ?_)
  · refine Does.wr _ _ _ _ (by decide) ?_
    exact Does.refl ..
  · exact Does.refl ..

theorem State.setSync_does (s : State) (st : ℕ) :
    Does 0x4041002000000 0x200000 s (State.setSync s st) := by
  unfold State.setSync
  extract_lets +onlyGivenNames x0
  clear_value x0
  extract_lets +onlyGivenNames x1
  refine Does.via (x := x1) ?_ (fun _ => ?_)
  · subst x1
    refine Does.wr _ _ _ _ (by decide) ?_
    exact Does.refl ..
  clear_value x1
  extract_lets +onlyGivenNames x2
  clear_value x2
  extract_lets +onlyGivenNames x3
  clear_value x3
  extract_lets +onlyGivenNames x4
  refine Does.via (x := x4) ?_ (fun _ => ?_)
  · subst x4
    refine Does.upd_wm_time _ _ (by decide) (by decide) ?_
    assumption
  clear_value x4
  refine Does.ite (fun _ => ?_) (fun _ => ?_)
  · refine Does.step (State.detect_does ..) (by decide) (by decide) ?_
    assumption
  · refine Does.ite (fun _ => ?_) (fun _ => ?_)
    · refine Does.step (State.detect_does ..) (by decide) (by decide) ?_
      assumption
    · assumption

theorem State.newMaster_does (s : State) (m : ℕ) :
    Does 0x40c1002000000 0x40000000000000300002 s (State.newMaster s m) := by
  unfold State.newMaster
  refine Does.ite (fun _ => ?_) (fun _ => ?_)
  · exact Does.refl ..
  · extract_lets +onlyGivenNames x0
    refine Does.via (x := x0) ?_ (fun _ => ?_)
    · subst x0
      refine Does.wr _ _ _ _ (by decide) ?_
      refine Does.wr _ _ _ _ (by decide) ?_
      exact Does.refl ..
    clear_value x0
    extract_lets +onlyGivenNames x1
    clear_value x1
    extract_lets +onlyGivenNames x2
    refine Does.via (x := x2) ?_ (fun _ => ?_)
    · subst x2
      refine Does.upd_time_ports _ _ (by decide) (by decide) ?_
      assumption
    clear_value x2
    refine Does.ite (fun _ => ?_) (fun _ => ?_)
    · refine Does.step (State.setSync_does ..) (by decide) (by decide) ?_
      refine Does.wr _ _ _ _ (by decide) ?_
      refine Does.wr _ _ _ _ (by decide) ?_
      assumption
    · refine Does.step (State.setSync_does ..) (by decide) (by decide) ?_
      refine Does.wr _ _ _ _ (by decide) ?_
      assumption

theorem State.writeMaster_does (s : State) (m : ℕ) :
    Does 0x41c900b800008 0x20240000000000000340002 s (State.writeMaster s m) := by
  unfold State.writeMaster
  refine Does.ite (fun _ => ?_) (fun _ => ?_)
  · exact Does.refl ..
  · extract_lets +onlyGivenNames x0
    refine Does.via (x := x0) ?_ (fun _ => ?_)
    · subst x0
      refine Does.wr _ _ _ _ (by decide) ?_
      exact Does.refl ..
    clear_value x0
    extract_lets +onlyGivenNames x1
    clear_value x1
    extract_lets +onlyGivenNames x2
    refine Does.via (x := x2) ?_ (fun _ => ?_)
    · subst x2
      refine Does.wr _ _ _ _ (by decide) ?_
      refine Does.wr _ _ _ _ (by decide) ?_
      assumption
    clear_value x2
    extract_lets +onlyGivenNames x3
    refine Does.via (x := x3) ?_ (fun _ => ?_)
    · subst x3
      refine Does.foldl (fun _ _ _ => ?_) ?_
      · refine Does.step (State.sendCtrl_does ..) (by decide) (by decide) ?_
        assumption
      · assumption
    clear_value x3
    refine Does.step (State.newMaster_does ..) (by decide) (by decide) ?_
    assumption

theorem execMasterDevWrite_does (dev : Fin 64) (s : State) :
    DoesO 0x41c900b800008 0x20240000000000000340002 s (execMasterDevWrite dev s) := by
  unfold execMasterDevWrite
  refine DoesO.next ?_
  refine Does.step (State.writeMaster_does ..) (by decide) (by decide) ?_
  exact Does.refl ..

theorem execBeaconSend_does (frac : Fin 1024) (s : State) :
    DoesO 0x48008000000 0x0 s (execBeaconSend frac s) := by
  unfold execBeaconSend
  refine DoesO.next ?_
  extract_lets +onlyGivenNames x0
  clear_value x0
  refine Does.ite (fun _ => ?_) (fun _ => ?_)
  · exact Does.refl ..
  · extract_lets +onlyGivenNames x1
    clear_value x1
    extract_lets +onlyGivenNames x2
    refine Does.via (x := x2) ?_ (fun _ => ?_)
    · subst x2
      refine Does.foldl (fun _ _ _ => ?_) ?_
      · refine Does.step (State.pulse_does ..) (by decide) (by decide) ?_
        refine Does.upd_out _ (by decide) ?_
        assumption
      · exact Does.refl ..
    clear_value x2
    refine Does.upd_time _ (by decide) ?_
    assumption

theorem State.setUpstream_does (s : State) (p : Option ℕ) :
    Does 0x80000000000 0x40000000000000000000 s (State.setUpstream s p) := by
  unfold State.setUpstream
  split
  · refine Does.wr _ _ _ _ (by decide) ?_
    exact Does.refl ..
  · extract_lets +onlyGivenNames x0
    refine Does.via (x := x0) ?_ (fun _ => ?_)
    · subst x0
      refine Does.wr _ _ _ _ (by decide) ?_
      refine Does.wr _ _ _ _ (by decide) ?_
      refine Does.wr _ _ _ _ (by decide) ?_
      exact Does.refl ..
    clear_value x0
    refine Does.foldl (fun _ _ _ => ?_) ?_
    · refine Does.step (State.setPort_does ..) (by decide) (by decide) ?_
      assumption
    · assumption

theorem execUpstreamChange_does (s : State) :
    DoesO 0x80000000000 0x40000000000000000000 s (execUpstreamChange s) := by
  unfold execUpstreamChange
  refine DoesO.next ?_
  refine Does.ite (fun _ => ?_) (fun _ => ?_)
  · exact Does.refl ..
  · extract_lets +onlyGivenNames x0
    clear_value x0
    refine Does.ite (fun _ => ?_) (fun _ => ?_)
    · refine Does.step (State.setUpstream_does ..) (by decide) (by decide) ?_
      exact Does.refl ..
    · split
      · refine Does.step (State.setUpstream_does ..) (by decide) (by decide) ?_
        exact Does.refl ..
      · exact Does.refl ..

theorem State.jumpUnits_does (s : State) (d : Stamp) :
    Does 0x2830 0x0 s (State.jumpUnits s d) := by
  unfold State.jumpUnits
  refine Does.upd_pods_pins_waves_sites _ _ _ _ (by decide) (by decide) (by decide) (by decide) ?_
  exact Does.refl ..

theorem State.jumpParts_does (s : State) (d : Stamp) :
    Does 0xc00000005000 0x0 s (State.jumpParts s d) := by
  unfold State.jumpParts
  refine Does.upd_rails_dies_sensors_doms _ _ _ _ (by decide) (by decide) (by decide) (by decide) ?_
  exact Does.refl ..

theorem State.jumpPorts_does (s : State) (d : Stamp) :
    Does 0xa0180000000000 0x0 s (State.jumpPorts s d) := by
  unfold State.jumpPorts
  refine Does.upd_ports_fab_xwait_trigs _ _ _ _ (by decide) (by decide) (by decide) (by decide) ?_
  exact Does.refl ..

theorem State.jumpHost_does (s : State) (d : Stamp) :
    Does 0x110000000c0000000 0x0 s (State.jumpHost s d) := by
  unfold State.jumpHost
  refine Does.upd_qps_evrs_fRestart_wake _ _ _ _ (by decide) (by decide) (by decide) (by decide) ?_
  exact Does.refl ..

theorem State.jumpCare_does (s : State) (d : Stamp) :
    Does 0x3200000000000 0x0 s (State.jumpCare s d) := by
  unfold State.jumpCare
  refine Does.upd_pwr_rst_safeX _ _ _ (by decide) (by decide) (by decide) ?_
  exact Does.refl ..

theorem State.jump_does (s : State) (k : ℤ) :
    Does 0x110a3fc30c0007832 0x200000 s (State.jump s k) := by
  unfold State.jump
  extract_lets +onlyGivenNames x0
  clear_value x0
  extract_lets +onlyGivenNames x1
  refine Does.via (x := x1) ?_ (fun _ => ?_)
  · subst x1
    refine Does.wr _ _ _ _ (by decide) ?_
    refine Does.step (State.syncPins_does ..) (by decide) (by decide) ?_
    exact Does.refl ..
  clear_value x1
  extract_lets +onlyGivenNames x2
  refine Does.via (x := x2) ?_ (fun _ => ?_)
  · subst x2
    refine Does.step (State.jumpCare_does ..) (by decide) (by decide) ?_
    refine Does.step (State.jumpHost_does ..) (by decide) (by decide) ?_
    refine Does.step (State.jumpPorts_does ..) (by decide) (by decide) ?_
    refine Does.step (State.jumpParts_does ..) (by decide) (by decide) ?_
    refine Does.step (State.jumpUnits_does ..) (by decide) (by decide) ?_
    assumption
  clear_value x2
  refine Does.upd_now_wm_jumps_time _ _ _ _ ?_ (by decide) (by decide) (by decide) (by decide) ?_
  · exact fun h => wholeTicks_sub h _
  · assumption

theorem State.steer_does (s : State) (off : ℤ) :
    Does 0x110a3fc30c0007832 0x200000 s (State.steer s off) := by
  unfold State.steer
  extract_lets +onlyGivenNames x0
  subst x0
  refine Does.ite (fun _ => ?_) (fun _ => ?_)
  · refine Does.step (State.jump_does ..) (by decide) (by decide) ?_
    exact Does.refl ..
  · refine Does.upd_time _ (by decide) ?_
    exact Does.refl ..

theorem State.countGood_does (s : State) (off : ℤ) :
    Does 0x4041002000000 0x200000 s (State.countGood s off) := by
  unfold State.countGood
  extract_lets +onlyGivenNames x0
  clear_value x0
  extract_lets +onlyGivenNames x1
  clear_value x1
  extract_lets +onlyGivenNames x2
  refine Does.via (x := x2) ?_ (fun _ => ?_)
  · subst x2
    refine Does.upd_time _ (by decide) ?_
    exact Does.refl ..
  clear_value x2
  refine Does.ite (fun _ => ?_) (fun _ => ?_)
  · refine Does.step (State.setSync_does ..) (by decide) (by decide) ?_
    assumption
  · assumption

theorem State.takeBeacon_does (s : State) (p : ℕ) (f : Flit) (frac : ℕ) (transit : List ℕ) :
    Does 0x110a7fcb0ca007832 0x40000000000000300000 s (State.takeBeacon s p f frac transit) := by
  unfold State.takeBeacon
  extract_lets +onlyGivenNames x0
  clear_value x0
  extract_lets +onlyGivenNames x1
  clear_value x1
  extract_lets +onlyGivenNames x2
  clear_value x2
  extract_lets +onlyGivenNames x3
  clear_value x3
  extract_lets +onlyGivenNames x4
  clear_value x4
  extract_lets +onlyGivenNames x5
  refine Does.via (x := x5) ?_ (fun _ => ?_)
  · subst x5
    refine Does.foldl (fun _ _ _ => ?_) ?_
    · extract_lets +onlyGivenNames x6
      clear_value x6
      refine Does.step (State.pulse_does ..) (by decide) (by decide) ?_
      refine Does.upd_out _ (by decide) ?_
      assumption
    · exact Does.refl ..
  clear_value x5
  extract_lets +onlyGivenNames x7
  refine Does.via (x := x7) ?_ (fun _ => ?_)
  · subst x7
    refine Does.wr _ _ _ _ (by decide) ?_
    refine Does.wr _ _ _ _ (by decide) ?_
    assumption
  clear_value x7
  extract_lets +onlyGivenNames x8
  clear_value x8
  extract_lets +onlyGivenNames x9
  refine Does.via (x := x9) ?_ (fun _ => ?_)
  · subst x9
    refine Does.upd_time _ (by decide) ?_
    assumption
  clear_value x9
  extract_lets +onlyGivenNames x10
  refine Does.via (x := x10) ?_ (fun _ => ?_)
  · subst x10
    refine Does.ite (fun _ => ?_) (fun _ => ?_)
    · refine Does.step (State.setSync_does ..) (by decide) (by decide) ?_
      assumption
    · assumption
  clear_value x10
  refine Does.step (State.countGood_does ..) (by decide) (by decide) ?_
  refine Does.step (State.steer_does ..) (by decide) (by decide) ?_
  assumption

theorem execBeacon_does (port : PortId) (flit : Flit) (frac : Fin 1024) (transit : List ℕ) (s : State) :
    DoesO 0x110a7fcb0cb80783a 0x1000040000000000000300000 s (execBeacon port flit frac transit s) := by
  unfold execBeacon
  refine DoesO.next ?_
  extract_lets +onlyGivenNames x0
  clear_value x0
  refine Does.ite (fun _ => ?_) (fun _ => ?_)
  · exact Does.refl ..
  · extract_lets +onlyGivenNames x1
    refine Does.via (x := x1) ?_ (fun _ => ?_)
    · subst x1
      refine Does.step (State.flitIn_does ..) (by decide) (by decide) ?_
      exact Does.refl ..
    clear_value x1
    refine Does.ite (fun _ => ?_) (fun _ => ?_)
    · refine Does.step (State.crcError_does ..) (by decide) (by decide) ?_
      assumption
    · extract_lets +onlyGivenNames x2
      clear_value x2
      extract_lets +onlyGivenNames x3
      clear_value x3
      refine Does.ite (fun _ => ?_) (fun _ => ?_)
      · assumption
      · extract_lets +onlyGivenNames x4
        clear_value x4
        extract_lets +onlyGivenNames x5
        clear_value x5
        extract_lets +onlyGivenNames x6
        refine Does.via (x := x6) ?_ (fun _ => ?_)
        · subst x6
          refine Does.step (State.setPort_does ..) (by decide) (by decide) ?_
          assumption
        clear_value x6
        extract_lets +onlyGivenNames x7
        refine Does.via (x := x7) ?_ (fun _ => ?_)
        · subst x7
          refine Does.ite (fun _ => ?_) (fun _ => ?_)
          · assumption
          · refine Does.step (State.setUpstream_does ..) (by decide) (by decide) ?_
            assumption
        clear_value x7
        refine Does.ite (fun _ => ?_) (fun _ => ?_)
        · refine Does.step (State.takeBeacon_does ..) (by decide) (by decide) ?_
          assumption
        · assumption

theorem execHoldover_does (s : State) :
    DoesO 0x4041002000000 0x200000 s (execHoldover s) := by
  unfold execHoldover
  refine DoesO.next ?_
  refine Does.ite (fun _ => ?_) (fun _ => ?_)
  · refine Does.step (State.setSync_does ..) (by decide) (by decide) ?_
    exact Does.refl ..
  · exact Does.refl ..

theorem execUnsync_does (s : State) :
    DoesO 0x4041002000000 0x200000 s (execUnsync s) := by
  unfold execUnsync
  refine DoesO.next ?_
  extract_lets +onlyGivenNames x0
  clear_value x0
  extract_lets +onlyGivenNames x1
  refine Does.ite (fun _ => ?_) (fun _ => ?_)
  · refine Does.step (State.setSync_does ..) (by decide) (by decide) ?_
    exact Does.refl ..
  · exact Does.refl ..

theorem execWatermark_does (s : State) :
    DoesO 0x1001800000 0x1800000 s (execWatermark s) := by
  unfold execWatermark
  refine DoesO.next ?_
  extract_lets +onlyGivenNames x0
  clear_value x0
  refine Does.ite (fun _ => ?_) (fun _ => ?_)
  · exact Does.refl ..
  · refine Does.step (State.watermark_does ..) (by decide) (by decide) ?_
    exact Does.refl ..

theorem State.armSlot_does (s : State) (k : ℕ) :
    Does 0x800000000 0x8200000 s (State.armSlot s k) := by
  unfold State.armSlot
  refine Does.ite (fun _ => ?_) (fun _ => ?_)
  · refine Does.wr _ _ _ _ (by decide) ?_
    exact Does.refl ..
  · refine Does.step (State.armSnap_does ..) (by decide) (by decide) ?_
    exact Does.refl ..

theorem execArm_does (snap : SnapId) (s : State) :
    DoesO 0x800000000 0x8200000 s (execArm snap s) := by
  unfold execArm
  refine DoesO.next ?_
  refine Does.step (State.armSlot_does ..) (by decide) (by decide) ?_
  exact Does.refl ..

theorem State.snapDone_does (s : State) (k : ℕ) (status : ℕ) (tick : ℕ) :
    Does 0x40000000 0x0 s (State.snapDone s k status tick) := by
  unfold State.snapDone
  split
  · exact Does.refl ..
  · split
    · exact Does.refl ..
    · refine Does.step (State.endDesc_does ..) (by decide) (by decide) ?_
      exact Does.refl ..

theorem State.disarmSlot_does (s : State) (k : ℕ) :
    Does 0x840000000 0x8000000 s (State.disarmSlot s k) := by
  unfold State.disarmSlot
  extract_lets +onlyGivenNames x0
  clear_value x0
  refine Does.ite (fun _ => ?_) (fun _ => ?_)
  · exact Does.refl ..
  · refine Does.step (State.setSnap_does ..) (by decide) (by decide) ?_
    refine Does.wr _ _ _ _ (by decide) ?_
    refine Does.step (State.snapDone_does ..) (by decide) (by decide) ?_
    exact Does.refl ..

theorem execDisarm_does (snap : SnapId) (s : State) :
    DoesO 0x840000000 0x8000000 s (execDisarm snap s) := by
  unfold execDisarm
  refine DoesO.next ?_
  refine Does.step (State.disarmSlot_does ..) (by decide) (by decide) ?_
  exact Does.refl ..

theorem execSnapshotTaken_does (snap : SnapId) (s : State) :
    DoesO 0x200000840000000 0x38000000000000000000000000000038000000 s (execSnapshotTaken snap s) := by
  unfold execSnapshotTaken
  refine DoesO.next ?_
  extract_lets +onlyGivenNames x0
  clear_value x0
  split
  · exact Does.refl ..
  · refine Does.ite (fun _ => ?_) (fun _ => ?_)
    · exact Does.refl ..
    · extract_lets +onlyGivenNames x1
      refine Does.via (x := x1) ?_ (fun _ => ?_)
      · subst x1
        refine Does.step (State.shadowCopy_does ..) (by decide) (by decide) ?_
        exact Does.refl ..
      clear_value x1
      extract_lets +onlyGivenNames x2
      refine Does.via (x := x2) ?_ (fun _ => ?_)
      · subst x2
        refine Does.step (State.snapDone_does ..) (by decide) (by decide) ?_
        assumption
      clear_value x2
      extract_lets +onlyGivenNames x3
      refine Does.via (x := x3) ?_ (fun _ => ?_)
      · subst x3
        refine Does.wr _ _ _ _ (by decide) ?_
        refine Does.wr _ _ _ _ (by decide) ?_
        assumption
      clear_value x3
      extract_lets +onlyGivenNames x4
      refine Does.via (x := x4) ?_ (fun _ => ?_)
      · subst x4
        refine Does.ite (fun _ => ?_) (fun _ => ?_)
        · refine Does.wr _ _ _ _ (by decide) ?_
          assumption
        · assumption
      clear_value x4
      refine Does.step (State.setSnap_does ..) (by decide) (by decide) ?_
      refine Does.wrStamp _ _ _ _ (by decide) (by decide) ?_
      assumption

end Sys2Proof.Machine
end

