-- ==== Sys2Proof/Laws/DoesPowerRows.lean ====
section
/-! SUPPORT. What each operation and meaning of Machine/PowerRows.lean may touch. -/

namespace Sys2Proof.Machine

open Sys2Proof

set_option linter.unusedVariables false

theorem State.sendSleep_does (s : State) :
    Does 0x188009800008 0x20000000000000000000000 s (State.sendSleep s) := by
  unfold State.sendSleep
  refine Does.foldl (fun _ _ _ => ?_) ?_
  · refine Does.step (State.sendCtrl_does ..) (by decide) (by decide) ?_
    assumption
  · exact Does.refl ..

theorem State.enterDeep_does (s : State) (deep : Bool) :
    Does 0x389009801028 0x18000000000000000000000000000000000000010220000000000000001800004 s (State.enterDeep s deep) := by
  unfold State.enterDeep
  refine Does.ite (fun _ => ?_) (fun _ => ?_)
  · extract_lets +onlyGivenNames x0
    refine Does.via (x := x0) ?_ (fun _ => ?_)
    · subst x0
      refine Does.step (State.watermark_does ..) (by decide) (by decide) ?_
      exact Does.refl ..
    clear_value x0
    refine Does.upd_pwr _ (by decide) ?_
    assumption
  · refine Does.ite (fun _ => ?_) (fun _ => ?_)
    · exact Does.refl ..
    · refine Does.step (State.setPower_does ..) (by decide) (by decide) ?_
      refine Does.ite (fun _ => ?_) (fun _ => ?_)
      · refine Does.step (State.sendSleep_does ..) (by decide) (by decide) ?_
        exact Does.refl ..
      · exact Does.refl ..

theorem execPowerStateChange_does (deep : Bool) (s : State) :
    DoesO 0x10000389009801028 0x18000000000000000000000000000000000000010220000000000000001800004 s (execPowerStateChange deep s) := by
  unfold execPowerStateChange
  refine DoesO.next ?_
  split
  · refine Does.ite (fun _ => ?_) (fun _ => ?_)
    · refine Does.step (State.setPower_does ..) (by decide) (by decide) ?_
      refine Does.upd_wake _ (by decide) ?_
      exact Does.refl ..
    · exact Does.refl ..
  · extract_lets +onlyGivenNames x0
    clear_value x0
    extract_lets +onlyGivenNames x1
    clear_value x1
    refine Does.ite (fun _ => ?_) (fun _ => ?_)
    · refine Does.ite (fun _ => ?_) (fun _ => ?_)
      · refine Does.upd_wake _ (by decide) ?_
        exact Does.refl ..
      · refine Does.step (State.setPower_does ..) (by decide) (by decide) ?_
        exact Does.refl ..
    · refine Does.ite (fun _ => ?_) (fun _ => ?_)
      · exact Does.refl ..
      · refine Does.ite (fun _ => ?_) (fun _ => ?_)
        · refine Does.step (State.enterDeep_does ..) (by decide) (by decide) ?_
          exact Does.refl ..
        · refine Does.step (State.setPower_does ..) (by decide) (by decide) ?_
          exact Does.refl ..

theorem execWakeRequest_does (s : State) :
    DoesO 0x18000000000000000 0x20000000000000000000000000 s (execWakeRequest s) := by
  unfold execWakeRequest
  refine DoesO.next ?_
  refine Does.ite (fun _ => ?_) (fun _ => ?_)
  · exact Does.refl ..
  · extract_lets +onlyGivenNames x0
    refine Does.via (x := x0) ?_ (fun _ => ?_)
    · subst x0
      refine Does.ite (fun _ => ?_) (fun _ => ?_)
      · refine Does.step (State.askWake_does ..) (by decide) (by decide) ?_
        exact Does.refl ..
      · exact Does.refl ..
    clear_value x0
    refine Does.ite (fun _ => ?_) (fun _ => ?_)
    · assumption
    · extract_lets +onlyGivenNames x1
      refine Does.via (x := x1) ?_ (fun _ => ?_)
      · subst x1
        refine Does.wr _ _ _ _ (by decide) ?_
        assumption
      clear_value x1
      refine Does.upd_wakeAsk_wake _ _ (by decide) (by decide) ?_
      assumption

theorem execWakeN_does (crystals : ℕ) (s : State) :
    DoesO 0x8000000000000000 0x0 s (execWakeN crystals s) := by
  unfold execWakeN
  refine DoesO.next ?_
  refine Does.ite (fun _ => ?_) (fun _ => ?_)
  · refine Does.step (State.askWake_does ..) (by decide) (by decide) ?_
    exact Does.refl ..
  · exact Does.refl ..

theorem execPowerEstimate_does (est : BitVec 16) (s : State) :
    DoesO 0x9800008 0x180000000000000000000000000 s (execPowerEstimate est s) := by
  unfold execPowerEstimate
  refine DoesO.next ?_
  extract_lets +onlyGivenNames x0
  clear_value x0
  extract_lets +onlyGivenNames x1
  refine Does.via (x := x1) ?_ (fun _ => ?_)
  · subst x1
    refine Does.wr _ _ _ _ (by decide) ?_
    refine Does.wr _ _ _ _ (by decide) ?_
    exact Does.refl ..
  clear_value x1
  refine Does.ite (fun _ => ?_) (fun _ => ?_)
  · refine Does.step (State.raise_does ..) (by decide) (by decide) ?_
    refine Does.wr _ _ _ _ (by decide) ?_
    assumption
  · assumption

theorem State.sensorFail_does (s : State) (k : ℕ) :
    Does 0x400000b800008 0x6200000000000000000000000000 s (State.sensorFail s k) := by
  unfold State.sensorFail
  refine Does.ite (fun _ => ?_) (fun _ => ?_)
  · exact Does.refl ..
  · extract_lets +onlyGivenNames x0
    refine Does.via (x := x0) ?_ (fun _ => ?_)
    · subst x0
      refine Does.wr _ _ _ _ (by decide) ?_
      refine Does.wr _ _ _ _ (by decide) ?_
      exact Does.refl ..
    clear_value x0
    extract_lets +onlyGivenNames x1
    refine Does.via (x := x1) ?_ (fun _ => ?_)
    · subst x1
      refine Does.step (State.raise_does ..) (by decide) (by decide) ?_
      assumption
    clear_value x1
    extract_lets +onlyGivenNames x2
    refine Does.via (x := x2) ?_ (fun _ => ?_)
    · subst x2
      refine Does.ite (fun _ => ?_) (fun _ => ?_)
      · refine Does.step (State.detect_does ..) (by decide) (by decide) ?_
        assumption
      · refine Does.step (State.detect_does ..) (by decide) (by decide) ?_
        assumption
    clear_value x2
    refine Does.foldl (fun _ _ _ => ?_) ?_
    · refine Does.ite (fun _ => ?_) (fun _ => ?_)
      · refine Does.ite (fun _ => ?_) (fun _ => ?_)
        · assumption
        · refine Does.wr _ _ _ _ (by decide) ?_
          refine Does.wr _ _ _ _ (by decide) ?_
          assumption
      · assumption
    · assumption

theorem State.trackSensors_does (s : State) :
    Does 0x4000002000000 0x1004000000000000000000000000000 s (State.trackSensors s) := by
  unfold State.trackSensors
  extract_lets +onlyGivenNames x0
  clear_value x0
  extract_lets +onlyGivenNames x1
  clear_value x1
  extract_lets +onlyGivenNames x2
  refine Does.via (x := x2) ?_ (fun _ => ?_)
  · subst x2
    refine Does.wr _ _ _ _ (by decide) ?_
    exact Does.refl ..
  clear_value x2
  refine Does.ite (fun _ => ?_) (fun _ => ?_)
  · refine Does.step (State.detect_does ..) (by decide) (by decide) ?_
    assumption
  · refine Does.ite (fun _ => ?_) (fun _ => ?_)
    · refine Does.step (State.endLive_does ..) (by decide) (by decide) ?_
      assumption
    · assumption

theorem execSensorReading_does (sensor : Fin 5) (temp : BitVec 16) (broken : Bool) (s : State) :
    DoesO 0x8007c00e7bc03cf8 0x48080400a0020007413018a040743c00080016a6200000000002040820000000004 s (execSensorReading sensor temp broken s) := by
  unfold execSensorReading
  refine DoesO.next ?_
  extract_lets +onlyGivenNames x0
  extract_lets +onlyGivenNames x1
  extract_lets +onlyGivenNames x2
  extract_lets +onlyGivenNames x3
  extract_lets +onlyGivenNames x4
  extract_lets +onlyGivenNames x5
  extract_lets +onlyGivenNames x6
  extract_lets +onlyGivenNames x7
  extract_lets +onlyGivenNames x8
  extract_lets +onlyGivenNames x9
  extract_lets +onlyGivenNames x10
  extract_lets +onlyGivenNames x11
  refine Does.via (x := x11) ?_ (fun _ => ?_)
  · subst x11
    refine Does.upd_sensors _ (by decide) ?_
    exact Does.refl ..
  extract_lets +onlyGivenNames x12
  refine Does.via (x := x12) ?_ (fun _ => ?_)
  · subst x12
    refine Does.wr _ _ _ _ (by decide) ?_
    refine Does.wr _ _ _ _ (by decide) ?_
    assumption
  extract_lets +onlyGivenNames x13
  refine Does.via (x := x13) ?_ (fun _ => ?_)
  · subst x13
    refine Does.ite (fun _ => ?_) (fun _ => ?_)
    · refine Does.step (State.sensorFail_does ..) (by decide) (by decide) ?_
      assumption
    · refine Does.ite (fun _ => ?_) (fun _ => ?_)
      · assumption
      · refine Does.wr _ _ _ _ (by decide) ?_
        assumption
  extract_lets +onlyGivenNames x14
  refine Does.via (x := x14) ?_ (fun _ => ?_)
  · subst x14
    refine Does.step (State.trackSensors_does ..) (by decide) (by decide) ?_
    assumption
  extract_lets +onlyGivenNames x15
  refine Does.via (x := x15) ?_ (fun _ => ?_)
  · subst x15
    refine Does.ite (fun _ => ?_) (fun _ => ?_)
    · refine Does.wr _ _ _ _ (by decide) ?_
      assumption
    · assumption
  clear_value x15
  extract_lets +onlyGivenNames x16
  refine Does.via (x := x16) ?_ (fun _ => ?_)
  · subst x16
    refine Does.foldl (fun _ _ _ => ?_) ?_
    · refine Does.step (State.trackDom_does ..) (by decide) (by decide) ?_
      assumption
    · assumption
  clear_value x16
  refine Does.ite (fun _ => ?_) (fun _ => ?_)
  · refine Does.step (State.shutdown_does ..) (by decide) (by decide) ?_
    assumption
  · assumption

theorem execSensorRecover_does (sensor : Fin 5) (s : State) :
    DoesO 0x8004c0000b800028 0x8000000000000000000000000000000001006200000000000000000000000000 s (execSensorRecover sensor s) := by
  unfold execSensorRecover
  refine DoesO.next ?_
  extract_lets +onlyGivenNames x0
  clear_value x0
  extract_lets +onlyGivenNames x1
  clear_value x1
  split
  · exact Does.refl ..
  · refine Does.ite (fun _ => ?_) (fun _ => ?_)
    · exact Does.refl ..
    · extract_lets +onlyGivenNames x2
      refine Does.via (x := x2) ?_ (fun _ => ?_)
      · subst x2
        refine Does.wr _ _ _ _ (by decide) ?_
        refine Does.wr _ _ _ _ (by decide) ?_
        exact Does.refl ..
      clear_value x2
      extract_lets +onlyGivenNames x3
      refine Does.via (x := x3) ?_ (fun _ => ?_)
      · subst x3
        refine Does.upd_sensors _ (by decide) ?_
        assumption
      clear_value x3
      extract_lets +onlyGivenNames x4
      refine Does.via (x := x4) ?_ (fun _ => ?_)
      · subst x4
        refine Does.step (State.trackSensors_does ..) (by decide) (by decide) ?_
        refine Does.ite (fun _ => ?_) (fun _ => ?_)
        · refine Does.step (State.endLive_does ..) (by decide) (by decide) ?_
          assumption
        · refine Does.step (State.endLive_does ..) (by decide) (by decide) ?_
          assumption
      clear_value x4
      refine Does.foldl (fun _ _ _ => ?_) ?_
      · refine Does.step (State.trackDom_does ..) (by decide) (by decide) ?_
        assumption
      · assumption

theorem execLevelLower_does (die : DieId) (s : State) :
    DoesO 0x8000800009800028 0x8000000000000000000000000000000000002000000000000000000000000000 s (execLevelLower die s) := by
  unfold execLevelLower
  refine DoesO.next ?_
  extract_lets +onlyGivenNames x0
  clear_value x0
  split
  · exact Does.refl ..
  · refine Does.ite (fun _ => ?_) (fun _ => ?_)
    · exact Does.refl ..
    · extract_lets +onlyGivenNames x1
      clear_value x1
      refine Does.step (State.trackDom_does ..) (by decide) (by decide) ?_
      refine Does.step (State.setLevel_does ..) (by decide) (by decide) ?_
      exact Does.refl ..

theorem State.shutClear_does (s : State) :
    Does 0x4000000001020 0x8000000000000000000000000000000001004000000000000000000000000004 s (State.shutClear s) := by
  unfold State.shutClear
  refine Does.ite (fun _ => ?_) (fun _ => ?_)
  · refine Does.step (State.endShut_does ..) (by decide) (by decide) ?_
    exact Does.refl ..
  · exact Does.refl ..

theorem execShutClear_does (s : State) :
    DoesO 0x4000000001020 0x8000000000000000000000000000000001004000000000000000000000000004 s (execShutClear s) := by
  unfold execShutClear
  refine DoesO.next ?_
  refine Does.step (State.shutClear_does ..) (by decide) (by decide) ?_
  exact Does.refl ..

theorem State.releaseFloors_does (s : State) :
    Does 0x8000800009800028 0x8000000000000000000000000000000000002000000000000000000000000000 s (State.releaseFloors s) := by
  unfold State.releaseFloors
  extract_lets +onlyGivenNames x0
  refine Does.via (x := x0) ?_ (fun _ => ?_)
  · subst x0
    refine Does.foldl (fun _ _ _ => ?_) ?_
    · refine Does.ite (fun _ => ?_) (fun _ => ?_)
      · refine Does.wr _ _ _ _ (by decide) ?_
        refine Does.wr _ _ _ _ (by decide) ?_
        assumption
      · assumption
    · exact Does.refl ..
  clear_value x0
  refine Does.foldl (fun _ _ _ => ?_) ?_
  · refine Does.step (State.trackDom_does ..) (by decide) (by decide) ?_
    assumption
  · assumption

theorem execRelease_does (s : State) :
    DoesO 0x8000800009800028 0x8000000000000000000000000000000000002000000000000000000000000000 s (execRelease s) := by
  unfold execRelease
  refine DoesO.next ?_
  refine Does.step (State.releaseFloors_does ..) (by decide) (by decide) ?_
  exact Does.refl ..

end Sys2Proof.Machine
end

