-- ==== Sys2Proof/Laws/DoesFaultRows.lean ====
section
/-! SUPPORT. What each operation and meaning of Machine/FaultRows.lean may touch. -/

namespace Sys2Proof.Machine

open Sys2Proof

set_option linter.unusedVariables false

theorem State.parity_does (s : State) (e : FaultEvent) :
    Does 0x19c034e8 0x4800000020020007c120000040043c0008000000000000000000000000000000000 s (State.parity s e) := by
  unfold State.parity
  refine Does.ite (fun _ => ?_) (fun _ => ?_)
  · refine Does.step (State.parityErr_does ..) (by decide) (by decide) ?_
    exact Does.refl ..
  · refine Does.ite (fun _ => ?_) (fun _ => ?_)
    · refine Does.step (State.parityErr_does ..) (by decide) (by decide) ?_
      exact Does.refl ..
    · exact Does.refl ..

theorem execFaultDetected_does (events : List FaultEvent) (s : State) :
    DoesO 0x100007088e7fc43cf9 0x7ffffffffffffffffffffffffffffffffffffffffffffffffffffffffffffffffff s (execFaultDetected events s) := by
  unfold execFaultDetected
  refine DoesO.next ?_
  extract_lets +onlyGivenNames x0
  clear_value x0
  refine Does.ite (fun _ => ?_) (fun _ => ?_)
  · extract_lets +onlyGivenNames x1
    refine Does.via (x := x1) ?_ (fun _ => ?_)
    · subst x1
      refine Does.foldl (fun _ _ _ => ?_) ?_
      · refine Does.step (State.detect_does ..) (by decide) (by decide) ?_
        refine Does.step (State.parity_does ..) (by decide) (by decide) ?_
        assumption
      · exact Does.refl ..
    clear_value x1
    extract_lets +onlyGivenNames x2
    refine Does.via (x := x2) ?_ (fun _ => ?_)
    · subst x2
      refine Does.step (State.takeFaults_does ..) (by decide) (by decide) ?_
      assumption
    clear_value x2
    refine Does.ite (fun _ => ?_) (fun _ => ?_)
    · refine Does.wr _ _ _ _ (by decide) ?_
      refine Does.step (State.syncPins_does ..) (by decide) (by decide) ?_
      assumption
    · assumption
  · refine Does.foldl (fun _ _ _ => ?_) ?_
    · refine Does.ite (fun _ => ?_) (fun _ => ?_)
      · refine Does.upd_rst_live _ _ (by decide) (by decide) ?_
        assumption
      · assumption
    · exact Does.refl ..

theorem State.forceFault_does (s : State) (i : ℕ) :
    Does 0x2000000 0x20000000000000000000000000000 s (State.forceFault s i) := by
  unfold State.forceFault
  refine Does.ite (fun _ => ?_) (fun _ => ?_)
  · exact Does.refl ..
  · refine Does.ite (fun _ => ?_) (fun _ => ?_)
    · refine Does.wr _ _ _ _ (by decide) ?_
      exact Does.refl ..
    · extract_lets +onlyGivenNames x0
      clear_value x0
      refine Does.upd_faultq _ (by decide) ?_
      exact Does.refl ..

theorem execForce_does (src : SrcId) (s : State) :
    DoesO 0x2000000 0x20000000000000000000000000000 s (execForce src s) := by
  unfold execForce
  refine DoesO.next ?_
  refine Does.step (State.forceFault_does ..) (by decide) (by decide) ?_
  exact Does.refl ..

theorem State.writeFltSrc_does (s : State) (i : ℕ) (v : ℕ) :
    Does 0x2000000 0x2020000000000000000000000000000 s (State.writeFltSrc s i v) := by
  unfold State.writeFltSrc
  extract_lets +onlyGivenNames x0
  clear_value x0
  extract_lets +onlyGivenNames x1
  clear_value x1
  refine Does.ite (fun _ => ?_) (fun _ => ?_)
  · refine Does.wr _ _ _ _ (by decide) ?_
    exact Does.refl ..
  · refine Does.ite (fun _ => ?_) (fun _ => ?_)
    · extract_lets +onlyGivenNames x2
      refine Does.via (x := x2) ?_ (fun _ => ?_)
      · subst x2
        refine Does.ite (fun _ => ?_) (fun _ => ?_)
        · refine Does.wr _ _ _ _ (by decide) ?_
          exact Does.refl ..
        · exact Does.refl ..
      clear_value x2
      refine Does.ite (fun _ => ?_) (fun _ => ?_)
      · refine Does.step (State.forceFault_does ..) (by decide) (by decide) ?_
        assumption
      · assumption
    · refine Does.ite (fun _ => ?_) (fun _ => ?_)
      · refine Does.wr _ _ _ _ (by decide) ?_
        exact Does.refl ..
      · extract_lets +onlyGivenNames x3
        refine Does.via (x := x3) ?_ (fun _ => ?_)
        · subst x3
          refine Does.wr _ _ _ _ (by decide) ?_
          refine Does.wr _ _ _ _ (by decide) ?_
          exact Does.refl ..
        clear_value x3
        refine Does.ite (fun _ => ?_) (fun _ => ?_)
        · refine Does.step (State.forceFault_does ..) (by decide) (by decide) ?_
          assumption
        · assumption

theorem execFltSrcWrite_does (src : SrcId) (value : BitVec 32) (s : State) :
    DoesO 0x2000000 0x2020000000000000000000000000000 s (execFltSrcWrite src value s) := by
  unfold execFltSrcWrite
  refine DoesO.next ?_
  refine Does.step (State.writeFltSrc_does ..) (by decide) (by decide) ?_
  exact Does.refl ..

theorem execFltPendClear_does (word : Fin 12) (value : BitVec 32) (s : State) :
    DoesO 0x2000004000000 0x820000000000000000000000000000 s (execFltPendClear word value s) := by
  unfold execFltPendClear
  refine DoesO.next ?_
  refine Does.step (State.clearPend_does ..) (by decide) (by decide) ?_
  exact Does.refl ..

theorem execCollectorSweep_does (bad : Option (BitVec 32)) (s : State) :
    DoesO 0x1ff3ffff5fffffffff 0x7ffffffffffffffffffffffffffffffffffffffffffffffffffffffffffffffffff s (execCollectorSweep bad s) := by
  unfold execCollectorSweep
  refine DoesO.next ?_
  split
  · refine Does.upd_safeX _ (by decide) ?_
    exact Does.refl ..
  · refine Does.ite (fun _ => ?_) (fun _ => ?_)
    · refine Does.step (State.assertSrc_does ..) (by decide) (by decide) ?_
      exact Does.refl ..
    · extract_lets +onlyGivenNames x0
      clear_value x0
      extract_lets +onlyGivenNames x1
      refine Does.via (x := x1) ?_ (fun _ => ?_)
      · subst x1
        refine Does.wr _ _ _ _ (by decide) ?_
        refine Does.step (State.markFault_does ..) (by decide) (by decide) ?_
        exact Does.refl ..
      clear_value x1
      split
      extract_lets +onlyGivenNames x2
      clear_value x2
      extract_lets +onlyGivenNames x3
      refine Does.via (x := x3) ?_ (fun _ => ?_)
      · subst x3
        refine Does.wr _ _ _ _ (by decide) ?_
        refine State.putRecWords_doesF1 (by decide) ?_
        refine Does.step (State.faultSeq_does (by assumption)) (by decide) (by decide) ?_
        assumption
      clear_value x3
      extract_lets +onlyGivenNames x4
      refine Does.via (x := x4) ?_ (fun _ => ?_)
      · subst x4
        refine Does.step (State.raise_does ..) (by decide) (by decide) ?_
        assumption
      clear_value x4
      refine Does.step (State.enterSafe_does ..) (by decide) (by decide) ?_
      refine Does.upd_safeX _ (by decide) ?_
      assumption

theorem execEnter_does (s : State) :
    DoesO 0x3000e79c03cf8 0x48000400a0020007413018a040743c00080006a0000000000002040820000000000 s (execEnter s) := by
  unfold execEnter
  refine DoesO.next ?_
  refine Does.step (State.enterSafe_does ..) (by decide) (by decide) ?_
  exact Does.refl ..

theorem State.exitSafe_does (s : State) :
    Does 0x0 0xa0000000000000000000000000000 s (State.exitSafe s) := by
  unfold State.exitSafe
  refine Does.ite (fun _ => ?_) (fun _ => ?_)
  · refine Does.wr _ _ _ _ (by decide) ?_
    refine Does.wr _ _ _ _ (by decide) ?_
    exact Does.refl ..
  · refine Does.wr _ _ _ _ (by decide) ?_
    exact Does.refl ..

theorem execExit_does (s : State) :
    DoesO 0x0 0xa0000000000000000000000000000 s (execExit s) := by
  unfold execExit
  refine DoesO.next ?_
  refine Does.step (State.exitSafe_does ..) (by decide) (by decide) ?_
  exact Does.refl ..

theorem execSafeEsc_does (unconfirmed : Bool) (s : State) :
    DoesO 0x1ff3ffff5fffffffff 0x7ffffffffffffffffffffffffffffffffffffffffffffffffffffffffffffffffff s (execSafeEsc unconfirmed s) := by
  unfold execSafeEsc
  refine DoesO.next ?_
  extract_lets +onlyGivenNames x0
  clear_value x0
  extract_lets +onlyGivenNames x1
  clear_value x1
  refine Does.ite (fun _ => ?_) (fun _ => ?_)
  · refine Does.step (State.assertSrc_does ..) (by decide) (by decide) ?_
    exact Does.refl ..
  · exact Does.refl ..

theorem execNvRecordWrite_does (verified : Bool) (s : State) :
    DoesO 0x1000000100000 0x80 s (execNvRecordWrite verified s) := by
  unfold execNvRecordWrite
  refine DoesO.next ?_
  split
  · refine Does.step (State.startNv_does ..) (by decide) (by decide) ?_
    exact Does.refl ..
  · refine Does.step (State.endNv_does ..) (by decide) (by decide) ?_
    exact Does.refl ..

theorem execLiveCauseRedetect_does (s : State) :
    DoesO 0x5000002000000 0x0 s (execLiveCauseRedetect s) := by
  unfold execLiveCauseRedetect
  refine DoesO.next ?_
  refine Does.ite (fun _ => ?_) (fun _ => ?_)
  · exact Does.refl ..
  · extract_lets +onlyGivenNames x0
    clear_value x0
    extract_lets +onlyGivenNames x1
    clear_value x1
    extract_lets +onlyGivenNames x2
    clear_value x2
    extract_lets +onlyGivenNames x3
    refine Does.via (x := x3) ?_ (fun _ => ?_)
    · subst x3
      refine Does.upd_rst _ (by decide) ?_
      exact Does.refl ..
    clear_value x3
    refine Does.foldl (fun _ _ _ => ?_) ?_
    · refine Does.ite (fun _ => ?_) (fun _ => ?_)
      · refine Does.step (State.detect_does ..) (by decide) (by decide) ?_
        assumption
      · assumption
    · assumption

theorem execLiveCauseEnd_does (src : SrcId) (s : State) :
    DoesO 0x4000000001020 0x8000000000000000000000000000000001000000000000000000000000000004 s (execLiveCauseEnd src s) := by
  unfold execLiveCauseEnd
  refine DoesO.next ?_
  extract_lets +onlyGivenNames x0
  clear_value x0
  extract_lets +onlyGivenNames x1
  clear_value x1
  refine Does.ite (fun _ => ?_) (fun _ => ?_)
  · exact Does.refl ..
  · extract_lets +onlyGivenNames x2
    refine Does.via (x := x2) ?_ (fun _ => ?_)
    · subst x2
      refine Does.step (State.endLive_does ..) (by decide) (by decide) ?_
      exact Does.refl ..
    clear_value x2
    refine Does.ite (fun _ => ?_) (fun _ => ?_)
    · refine Does.step (State.eclkBack_does ..) (by decide) (by decide) ?_
      refine Does.wr _ _ _ _ (by decide) ?_
      assumption
    · assumption

theorem execDieLinkRetrain_does (die : DieId) (s : State) :
    DoesO 0x4000000000000 0x1000000000000000000000000000004 s (execDieLinkRetrain die s) := by
  unfold execDieLinkRetrain
  refine DoesO.next ?_
  extract_lets +onlyGivenNames x0
  clear_value x0
  refine Does.ite (fun _ => ?_) (fun _ => ?_)
  · exact Does.refl ..
  · refine Does.step (State.endLive_does ..) (by decide) (by decide) ?_
    refine Does.wr _ _ _ _ (by decide) ?_
    exact Does.refl ..

theorem execSupplyOutOfRange_does (supply : Supply) (die : DieId) (s : State) :
    DoesO 0x1ff7ffff5fffffffff 0x7ffffffffffffffffffffffffffffffffffffffffffffffffffffffffffffffffff s (execSupplyOutOfRange supply die s) := by
  unfold execSupplyOutOfRange
  refine DoesO.next ?_
  extract_lets +onlyGivenNames x0
  clear_value x0
  extract_lets +onlyGivenNames x1
  clear_value x1
  extract_lets +onlyGivenNames x2
  clear_value x2
  refine Does.ite (fun _ => ?_) (fun _ => ?_)
  · exact Does.refl ..
  · extract_lets +onlyGivenNames x3
    refine Does.via (x := x3) ?_ (fun _ => ?_)
    · subst x3
      refine Does.upd_badSup _ (by decide) ?_
      exact Does.refl ..
    clear_value x3
    refine Does.ite (fun _ => ?_) (fun _ => ?_)
    · refine Does.step (State.assertSrc_does ..) (by decide) (by decide) ?_
      refine Does.step (State.detect_does ..) (by decide) (by decide) ?_
      assumption
    · refine Does.ite (fun _ => ?_) (fun _ => ?_)
      · refine Does.step (State.detect_does ..) (by decide) (by decide) ?_
        assumption
      · refine Does.ite (fun _ => ?_) (fun _ => ?_)
        · assumption
        · extract_lets +onlyGivenNames x4
          refine Does.via (x := x4) ?_ (fun _ => ?_)
          · subst x4
            refine Does.foldl (fun _ _ _ => ?_) ?_
            · refine Does.step (State.forceDrv_does ..) (by decide) (by decide) ?_
              assumption
            · assumption
          clear_value x4
          extract_lets +onlyGivenNames x5
          refine Does.via (x := x5) ?_ (fun _ => ?_)
          · subst x5
            refine Does.foldl (fun _ _ _ => ?_) ?_
            · refine Does.step (State.faultMute_does ..) (by decide) (by decide) ?_
              assumption
            · assumption
          clear_value x5
          extract_lets +onlyGivenNames x6
          refine Does.via (x := x6) ?_ (fun _ => ?_)
          · subst x6
            refine Does.foldl (fun _ _ _ => ?_) ?_
            · refine Does.ite (fun _ => ?_) (fun _ => ?_)
              · assumption
              · refine Does.step (State.tripRail_does ..) (by decide) (by decide) ?_
                assumption
            · assumption
          clear_value x6
          refine Does.ite (fun _ => ?_) (fun _ => ?_)
          · refine Does.step (State.detect_does ..) (by decide) (by decide) ?_
            assumption
          · assumption

theorem State.dieReports_does (s : State) (k : ℕ) :
    Does 0x4000000004000 0x1000000000000000000000000000004 s (State.dieReports s k) := by
  unfold State.dieReports
  refine Does.step (State.endLive_does ..) (by decide) (by decide) ?_
  refine Does.step (State.setDie_does ..) (by decide) (by decide) ?_
  refine Does.wr _ _ _ _ (by decide) ?_
  exact Does.refl ..

theorem State.lateDie_does (s : State) (k : ℕ) :
    Does 0x5000000004000 0x1000000000000000000000000000004 s (State.lateDie s k) := by
  unfold State.lateDie
  extract_lets +onlyGivenNames x0
  clear_value x0
  refine Does.ite (fun _ => ?_) (fun _ => ?_)
  · exact Does.refl ..
  · extract_lets +onlyGivenNames x1
    clear_value x1
    extract_lets +onlyGivenNames x2
    refine Does.via (x := x2) ?_ (fun _ => ?_)
    · subst x2
      refine Does.upd_rst _ (by decide) ?_
      exact Does.refl ..
    clear_value x2
    extract_lets +onlyGivenNames x3
    refine Does.via (x := x3) ?_ (fun _ => ?_)
    · subst x3
      refine Does.wr _ _ _ _ (by decide) ?_
      assumption
    clear_value x3
    refine Does.ite (fun _ => ?_) (fun _ => ?_)
    · assumption
    · refine Does.step (State.dieReports_does ..) (by decide) (by decide) ?_
      assumption

theorem execSupplyInRange_does (supply : Supply) (die : DieId) (s : State) :
    DoesO 0x405000000004000 0x1000000000000000000000000000004 s (execSupplyInRange supply die s) := by
  unfold execSupplyInRange
  refine DoesO.next ?_
  extract_lets +onlyGivenNames x0
  clear_value x0
  extract_lets +onlyGivenNames x1
  clear_value x1
  extract_lets +onlyGivenNames x2
  clear_value x2
  refine Does.ite (fun _ => ?_) (fun _ => ?_)
  · exact Does.refl ..
  · extract_lets +onlyGivenNames x3
    refine Does.via (x := x3) ?_ (fun _ => ?_)
    · subst x3
      refine Does.upd_badSup _ (by decide) ?_
      exact Does.refl ..
    clear_value x3
    refine Does.ite (fun _ => ?_) (fun _ => ?_)
    · refine Does.ite (fun _ => ?_) (fun _ => ?_)
      · assumption
      · refine Does.step (State.endLive_does ..) (by decide) (by decide) ?_
        assumption
    · refine Does.ite (fun _ => ?_) (fun _ => ?_)
      · assumption
      · refine Does.step (State.lateDie_does ..) (by decide) (by decide) ?_
        refine Does.step (State.endLive_does ..) (by decide) (by decide) ?_
        assumption

end Sys2Proof.Machine
end

