-- ==== Sys2Proof/Laws/DoesResetRows.lean ====
section
/-! SUPPORT. What each operation and meaning of Machine/ResetRows.lean may touch. -/

namespace Sys2Proof.Machine

open Sys2Proof

set_option linter.unusedVariables false

theorem execPor_does (low : Bool) (s : State) :
    DoesO 0x1ff3ffff5fffffffff 0x7ffffffffffffffffffffffffffffffffffffffffffffffffffffffffffffffffff s (execPor low s) := by
  unfold execPor
  refine DoesO.next ?_
  refine Does.ite (fun _ => ?_) (fun _ => ?_)
  · refine Does.ite (fun _ => ?_) (fun _ => ?_)
    · exact Does.refl ..
    · refine Does.step (State.assertSrc_does ..) (by decide) (by decide) ?_
      exact Does.refl ..
  · refine Does.step (State.deassertSrc_does ..) (by decide) (by decide) ?_
    exact Does.refl ..

theorem State.resetPinEdge_does (s : State) (i : ℕ) (low : Bool) (samples : ℕ) :
    Does 0x1ff3ffff5fffffffff 0x7ffffffffffffffffffffffffffffffffffffffffffffffffffffffffffffffffff s (State.resetPinEdge s i low samples) := by
  unfold State.resetPinEdge
  refine Does.ite (fun _ => ?_) (fun _ => ?_)
  · exact Does.refl ..
  · refine Does.ite (fun _ => ?_) (fun _ => ?_)
    · refine Does.ite (fun _ => ?_) (fun _ => ?_)
      · exact Does.refl ..
      · refine Does.step (State.assertSrc_does ..) (by decide) (by decide) ?_
        exact Does.refl ..
    · refine Does.step (State.deassertSrc_does ..) (by decide) (by decide) ?_
      exact Does.refl ..

theorem execResetN_does (low : Bool) (samples : ℕ) (s : State) :
    DoesO 0x1ff3ffff5fffffffff 0x7ffffffffffffffffffffffffffffffffffffffffffffffffffffffffffffffffff s (execResetN low samples s) := by
  unfold execResetN
  refine DoesO.next ?_
  refine Does.step (State.resetPinEdge_does ..) (by decide) (by decide) ?_
  exact Does.refl ..

theorem execPerstN_does (low : Bool) (samples : ℕ) (s : State) :
    DoesO 0x1ff3ffff5fffffffff 0x7ffffffffffffffffffffffffffffffffffffffffffffffffffffffffffffffffff s (execPerstN low samples s) := by
  unfold execPerstN
  refine DoesO.next ?_
  refine Does.step (State.resetPinEdge_does ..) (by decide) (by decide) ?_
  exact Does.refl ..

theorem execWdog_does (crash : Bool) (s : State) :
    DoesO 0x1ff3ffffdfffffffff 0x7ffffffffffffffffffffffffffffffffffffffffffffffffffffffffffffffffff s (execWdog crash s) := by
  unfold execWdog
  refine DoesO.next ?_
  refine Does.ite (fun _ => ?_) (fun _ => ?_)
  · exact Does.refl ..
  · refine Does.ite (fun _ => ?_) (fun _ => ?_)
    · extract_lets +onlyGivenNames x0
      refine Does.via (x := x0) ?_ (fun _ => ?_)
      · subst x0
        refine Does.step (State.detect_does ..) (by decide) (by decide) ?_
        exact Does.refl ..
      clear_value x0
      refine Does.step (State.assertSrc_does ..) (by decide) (by decide) ?_
      refine Does.ite (fun _ => ?_) (fun _ => ?_)
      · refine Does.step (State.takeFaults_does ..) (by decide) (by decide) ?_
        assumption
      · assumption
    · refine Does.ite (fun _ => ?_) (fun _ => ?_)
      · exact Does.refl ..
      · refine Does.step (State.assertSrc_does ..) (by decide) (by decide) ?_
        refine Does.step (State.nvRecord_does ..) (by decide) (by decide) ?_
        exact Does.refl ..

theorem execWdogWarn_does (s : State) :
    DoesO 0x5000002000000 0x0 s (execWdogWarn s) := by
  unfold execWdogWarn
  refine DoesO.next ?_
  refine Does.ite (fun _ => ?_) (fun _ => ?_)
  · exact Does.refl ..
  · refine Does.step (State.detect_does ..) (by decide) (by decide) ?_
    refine Does.upd_rst _ (by decide) ?_
    exact Does.refl ..

theorem execWdfire_does (s : State) :
    DoesO 0x1ff3ffff5fffffffff 0x7ffffffffffffffffffffffffffffffffffffffffffffffffffffffffffffffffff s (execWdfire s) := by
  unfold execWdfire
  refine DoesO.next ?_
  refine Does.step (State.assertSrc_does ..) (by decide) (by decide) ?_
  exact Does.refl ..

theorem State.beginRelease_does (s : State) :
    Does 0x1000000000000 0x10 s (State.beginRelease s) := by
  unfold State.beginRelease
  extract_lets +onlyGivenNames x0
  clear_value x0
  extract_lets +onlyGivenNames x1
  refine Does.via (x := x1) ?_ (fun _ => ?_)
  · subst x1
    refine Does.wr _ _ _ _ (by decide) ?_
    refine Does.wr _ _ _ _ (by decide) ?_
    refine Does.wr _ _ _ _ (by decide) ?_
    exact Does.refl ..
  clear_value x1
  refine Does.upd_rst _ (by decide) ?_
  assumption

theorem State.endRelease_does (s : State) :
    Does 0x1000000000000 0x0 s (State.endRelease s) := by
  unfold State.endRelease
  refine Does.upd_rst _ (by decide) ?_
  exact Does.refl ..

theorem State.commitOtp_does (s : State) (b : BootIn) :
    Does 0xe0004000002000000 0x40020c00000000000000000014c8 s (State.commitOtp s b) := by
  unfold State.commitOtp
  extract_lets +onlyGivenNames x0
  refine Does.via (x := x0) ?_ (fun _ => ?_)
  · subst x0
    refine Does.wr _ _ _ _ (by decide) ?_
    refine Does.wr _ _ _ _ (by decide) ?_
    exact Does.refl ..
  clear_value x0
  extract_lets +onlyGivenNames x1
  refine Does.via (x := x1) ?_ (fun _ => ?_)
  · subst x1
    refine Does.wr _ _ _ _ (by decide) ?_
    refine Does.wr _ _ _ _ (by decide) ?_
    assumption
  clear_value x1
  extract_lets +onlyGivenNames x2
  refine Does.via (x := x2) ?_ (fun _ => ?_)
  · subst x2
    refine Does.foldl (fun _ _ _ => ?_) ?_
    · refine Does.wr _ _ _ _ (by decide) ?_
      assumption
    · assumption
  clear_value x2
  extract_lets +onlyGivenNames x3
  refine Does.via (x := x3) ?_ (fun _ => ?_)
  · subst x3
    refine Does.wr _ _ _ _ (by decide) ?_
    refine Does.wr _ _ _ _ (by decide) ?_
    refine Does.wr _ _ _ _ (by decide) ?_
    assumption
  clear_value x3
  extract_lets +onlyGivenNames x4
  refine Does.via (x := x4) ?_ (fun _ => ?_)
  · subst x4
    refine Does.ite (fun _ => ?_) (fun _ => ?_)
    · refine Does.step (State.detect_does ..) (by decide) (by decide) ?_
      assumption
    · assumption
  clear_value x4
  extract_lets +onlyGivenNames x5
  refine Does.via (x := x5) ?_ (fun _ => ?_)
  · subst x5
    refine Does.step (State.readSafe_does ..) (by decide) (by decide) ?_
    assumption
  clear_value x5
  extract_lets +onlyGivenNames x6
  refine Does.via (x := x6) ?_ (fun _ => ?_)
  · subst x6
    refine Does.foldl (fun _ _ _ => ?_) ?_
    · refine Does.ite (fun _ => ?_) (fun _ => ?_)
      · assumption
      · refine Does.step (State.detect_does ..) (by decide) (by decide) ?_
        assumption
    · assumption
  clear_value x6
  split
  · assumption
  · extract_lets +onlyGivenNames x7
    clear_value x7
    extract_lets +onlyGivenNames x8
    refine Does.via (x := x8) ?_ (fun _ => ?_)
    · subst x8
      refine Does.wr _ _ _ _ (by decide) ?_
      refine Does.wr _ _ _ _ (by decide) ?_
      refine Does.wr _ _ _ _ (by decide) ?_
      assumption
    clear_value x8
    refine Does.ite (fun _ => ?_) (fun _ => ?_)
    · refine Does.wr _ _ _ _ (by decide) ?_
      assumption
    · assumption

theorem State.otpStage_does (s : State) (b : BootIn) :
    Does 0xe0005000002000000 0x40020c00000000000000000014d8 s (State.otpStage s b) := by
  unfold State.otpStage
  extract_lets +onlyGivenNames x0
  clear_value x0
  extract_lets +onlyGivenNames x1
  refine Does.via (x := x1) ?_ (fun _ => ?_)
  · subst x1
    refine Does.wr _ _ _ _ (by decide) ?_
    exact Does.refl ..
  clear_value x1
  split
  · refine Does.wr _ _ _ _ (by decide) ?_
    refine Does.step (State.commitOtp_does ..) (by decide) (by decide) ?_
    assumption
  · refine Does.ite (fun _ => ?_) (fun _ => ?_)
    · assumption
    · refine Does.step (State.endRelease_does ..) (by decide) (by decide) ?_
      refine Does.wr _ _ _ _ (by decide) ?_
      refine Does.step (State.nvRecord_does ..) (by decide) (by decide) ?_
      assumption

theorem State.engineStage_does (s : State) (b : BootIn) :
    Does 0x1000100000000800 0x1e0000000000000000004001a00000000000000000000000000010000000000014 s (State.engineStage s b) := by
  unfold State.engineStage
  extract_lets +onlyGivenNames x0
  refine Does.via (x := x0) ?_ (fun _ => ?_)
  · subst x0
    refine Does.step (State.applySafe_does ..) (by decide) (by decide) ?_
    refine Does.wr _ _ _ _ (by decide) ?_
    exact Does.refl ..
  clear_value x0
  extract_lets +onlyGivenNames x1
  refine Does.via (x := x1) ?_ (fun _ => ?_)
  · subst x1
    refine Does.ite (fun _ => ?_) (fun _ => ?_)
    · refine Does.wr _ _ _ _ (by decide) ?_
      refine Does.wr _ _ _ _ (by decide) ?_
      assumption
    · assumption
  clear_value x1
  extract_lets +onlyGivenNames x2
  clear_value x2
  extract_lets +onlyGivenNames x3
  clear_value x3
  extract_lets +onlyGivenNames x4
  refine Does.via (x := x4) ?_ (fun _ => ?_)
  · subst x4
    refine Does.upd_fab_fRestart _ _ (by decide) (by decide) ?_
    assumption
  clear_value x4
  refine Does.wr _ _ _ _ (by decide) ?_
  assumption

theorem State.bootFirmware_does (s : State) (b : BootIn) :
    Does 0x5000002000000 0x1c00 s (State.bootFirmware s b) := by
  unfold State.bootFirmware
  refine Does.ite (fun _ => ?_) (fun _ => ?_)
  · exact Does.refl ..
  · split
    · refine Does.step (State.detect_does ..) (by decide) (by decide) ?_
      exact Does.refl ..
    · extract_lets +onlyGivenNames x0
      clear_value x0
      extract_lets +onlyGivenNames x1
      clear_value x1
      refine Does.ite (fun _ => ?_) (fun _ => ?_)
      · refine Does.step (State.runImage_does ..) (by decide) (by decide) ?_
        exact Does.refl ..
      · refine Does.step (State.detect_does ..) (by decide) (by decide) ?_
        exact Does.refl ..

theorem State.releaseDie_does (s : State) :
    Does 0x1000000000000 0x4 s (State.releaseDie s) := by
  unfold State.releaseDie
  extract_lets +onlyGivenNames x0
  clear_value x0
  extract_lets +onlyGivenNames x1
  clear_value x1
  extract_lets +onlyGivenNames x2
  refine Does.via (x := x2) ?_ (fun _ => ?_)
  · subst x2
    refine Does.wr _ _ _ _ (by decide) ?_
    exact Does.refl ..
  clear_value x2
  refine Does.upd_rst _ (by decide) ?_
  assumption

theorem State.firmwareStage_does (s : State) (b : BootIn) :
    Does 0x5000002000000 0x1c14 s (State.firmwareStage s b) := by
  unfold State.firmwareStage
  extract_lets +onlyGivenNames x0
  refine Does.via (x := x0) ?_ (fun _ => ?_)
  · subst x0
    refine Does.ite (fun _ => ?_) (fun _ => ?_)
    · refine Does.step (State.bootFirmware_does ..) (by decide) (by decide) ?_
      exact Does.refl ..
    · exact Does.refl ..
  clear_value x0
  extract_lets +onlyGivenNames x1
  clear_value x1
  refine Does.ite (fun _ => ?_) (fun _ => ?_)
  · assumption
  · extract_lets +onlyGivenNames x2
    refine Does.via (x := x2) ?_ (fun _ => ?_)
    · subst x2
      refine Does.step (State.releaseDie_does ..) (by decide) (by decide) ?_
      assumption
    clear_value x2
    refine Does.ite (fun _ => ?_) (fun _ => ?_)
    · refine Does.wr _ _ _ _ (by decide) ?_
      assumption
    · assumption

theorem State.diesReport_does (s : State) (b : BootIn) :
    Does 0x4000000004000 0x1000000000000000000000000000004 s (State.diesReport s b) := by
  unfold State.diesReport
  refine Does.foldl (fun _ _ _ => ?_) ?_
  · refine Does.ite (fun _ => ?_) (fun _ => ?_)
    · refine Does.step (State.dieReports_does ..) (by decide) (by decide) ?_
      assumption
    · assumption
  · exact Does.refl ..

theorem State.settleStage_does (s : State) :
    Does 0x5000002000000 0x10 s (State.settleStage s) := by
  unfold State.settleStage
  extract_lets +onlyGivenNames x0
  refine Does.via (x := x0) ?_ (fun _ => ?_)
  · subst x0
    refine Does.foldl (fun _ _ _ => ?_) ?_
    · refine Does.ite (fun _ => ?_) (fun _ => ?_)
      · refine Does.step (State.detect_does ..) (by decide) (by decide) ?_
        assumption
      · refine Does.ite (fun _ => ?_) (fun _ => ?_)
        · assumption
        · refine Does.step (State.detect_does ..) (by decide) (by decide) ?_
          assumption
    · exact Does.refl ..
  clear_value x0
  refine Does.step (State.endRelease_does ..) (by decide) (by decide) ?_
  refine Does.wr _ _ _ _ (by decide) ?_
  assumption

theorem execResetRelease_does (boot : BootIn) (s : State) :
    DoesO 0x1e10051302c2804801 0x7ffffffffffffffffffffffffffffffffffffffffffffffffffffffffffffffffff s (execResetRelease boot s) := by
  unfold execResetRelease
  refine DoesO.next ?_
  extract_lets +onlyGivenNames x0
  clear_value x0
  refine Does.ite (fun _ => ?_) (fun _ => ?_)
  · exact Does.refl ..
  · refine Does.ite (fun _ => ?_) (fun _ => ?_)
    · refine Does.ite (fun _ => ?_) (fun _ => ?_)
      · exact Does.refl ..
      · refine Does.step (State.endRelease_does ..) (by decide) (by decide) ?_
        refine Does.step (State.clearQueues_does ..) (by decide) (by decide) ?_
        refine Does.step (State.beginRelease_does ..) (by decide) (by decide) ?_
        exact Does.refl ..
    · refine Does.ite (fun _ => ?_) (fun _ => ?_)
      · refine Does.ite (fun _ => ?_) (fun _ => ?_)
        · refine Does.step (State.beginRelease_does ..) (by decide) (by decide) ?_
          exact Does.refl ..
        · refine Does.ite (fun _ => ?_) (fun _ => ?_)
          · exact Does.refl ..
          · extract_lets +onlyGivenNames x1
            refine Does.via (x := x1) ?_ (fun _ => ?_)
            · subst x1
              refine Does.wr _ _ _ _ (by decide) ?_
              refine Does.step (State.beginRelease_does ..) (by decide) (by decide) ?_
              exact Does.refl ..
            clear_value x1
            refine Does.wr _ _ _ _ (by decide) ?_
            refine Does.step (State.roleReset_does ..) (by decide) (by decide) ?_
            refine Does.wr _ _ _ _ (by decide) ?_
            assumption
      · split
        · refine Does.ite (fun _ => ?_) (fun _ => ?_)
          · refine Does.wr _ _ _ _ (by decide) ?_
            refine Does.wr _ _ _ _ (by decide) ?_
            exact Does.refl ..
          · exact Does.refl ..
        · refine Does.ite (fun _ => ?_) (fun _ => ?_)
          · refine Does.step (State.otpStage_does ..) (by decide) (by decide) ?_
            exact Does.refl ..
          · exact Does.refl ..
        · refine Does.ite (fun _ => ?_) (fun _ => ?_)
          · refine Does.step (State.engineStage_does ..) (by decide) (by decide) ?_
            exact Does.refl ..
          · exact Does.refl ..
        · refine Does.ite (fun _ => ?_) (fun _ => ?_)
          · refine Does.step (State.firmwareStage_does ..) (by decide) (by decide) ?_
            exact Does.refl ..
          · exact Does.refl ..
        · refine Does.ite (fun _ => ?_) (fun _ => ?_)
          · refine Does.step (State.settleStage_does ..) (by decide) (by decide) ?_
            refine Does.step (State.diesReport_does ..) (by decide) (by decide) ?_
            exact Does.refl ..
          · refine Does.step (State.diesReport_does ..) (by decide) (by decide) ?_
            exact Does.refl ..
        · exact Does.refl ..

theorem execDeferredReset_does (verified : Bool) (s : State) :
    DoesO 0x1ff3ffff5ffffffffb 0x7ffffffffffffffffffffffffffffffffffffffffffffffffffffffffffffffffff s (execDeferredReset verified s) := by
  unfold execDeferredReset
  refine DoesO.next ?_
  refine Does.ite (fun _ => ?_) (fun _ => ?_)
  · exact Does.refl ..
  · extract_lets +onlyGivenNames x0
    refine Does.via (x := x0) ?_ (fun _ => ?_)
    · subst x0
      split
      · exact Does.refl ..
      · refine Does.ite (fun _ => ?_) (fun _ => ?_)
        · refine Does.step (State.endNv_does ..) (by decide) (by decide) ?_
          exact Does.refl ..
        · refine Does.ite (fun _ => ?_) (fun _ => ?_)
          · refine Does.step (State.endPulse_does ..) (by decide) (by decide) ?_
            exact Does.refl ..
          · refine Does.step (State.detect_does ..) (by decide) (by decide) ?_
            refine Does.step (State.endPulse_does ..) (by decide) (by decide) ?_
            exact Does.refl ..
    clear_value x0
    refine Does.ite (fun _ => ?_) (fun _ => ?_)
    · assumption
    · extract_lets +onlyGivenNames x1
      clear_value x1
      extract_lets +onlyGivenNames x2
      refine Does.via (x := x2) ?_ (fun _ => ?_)
      · subst x2
        refine Does.upd_rst _ (by decide) ?_
        assumption
      clear_value x2
      refine Does.step (State.applyReset_does ..) (by decide) (by decide) ?_
      refine Does.wr _ _ _ _ (by decide) ?_
      assumption

theorem State.leaveHold_does (s : State) :
    Does 0x0 0x10 s (State.leaveHold s) := by
  unfold State.leaveHold
  refine Does.ite (fun _ => ?_) (fun _ => ?_)
  · refine Does.wr _ _ _ _ (by decide) ?_
    exact Does.refl ..
  · exact Does.refl ..

theorem execContinueW_does (s : State) :
    DoesO 0x0 0x10 s (execContinueW s) := by
  unfold execContinueW
  refine DoesO.next ?_
  refine Does.step (State.leaveHold_does ..) (by decide) (by decide) ?_
  exact Does.refl ..

theorem State.trustRes_does (s : State) (r : ℕ) :
    Does 0x0 0x4000 s (State.trustRes s r) := by
  unfold State.trustRes
  refine Does.wr _ _ _ _ (by decide) ?_
  exact Does.refl ..

theorem State.rollup_does (s : State) (fw : Bool) (v : ℕ) (verified : Bool) :
    Does 0x5000002000000 0x4400 s (State.rollup s fw v verified) := by
  unfold State.rollup
  extract_lets +onlyGivenNames x0
  clear_value x0
  refine Does.ite (fun _ => ?_) (fun _ => ?_)
  · exact Does.refl ..
  · refine Does.ite (fun _ => ?_) (fun _ => ?_)
    · refine Does.step (State.trustRes_does ..) (by decide) (by decide) ?_
      exact Does.refl ..
    · refine Does.ite (fun _ => ?_) (fun _ => ?_)
      · refine Does.step (State.trustRes_does ..) (by decide) (by decide) ?_
        exact Does.refl ..
      · refine Does.ite (fun _ => ?_) (fun _ => ?_)
        · refine Does.step (State.trustRes_does ..) (by decide) (by decide) ?_
          refine Does.step (State.detect_does ..) (by decide) (by decide) ?_
          exact Does.refl ..
        · refine Does.ite (fun _ => ?_) (fun _ => ?_)
          · refine Does.step (State.trustRes_does ..) (by decide) (by decide) ?_
            refine Does.wr _ _ _ _ (by decide) ?_
            refine Does.upd_rst _ (by decide) ?_
            exact Does.refl ..
          · refine Does.step (State.trustRes_does ..) (by decide) (by decide) ?_
            refine Does.wr _ _ _ _ (by decide) ?_
            refine Does.upd_rst _ (by decide) ?_
            exact Does.refl ..

theorem execRollupFw_does (value : BitVec 8) (verified : Bool) (s : State) :
    DoesO 0x5000002000000 0x4400 s (execRollupFw value verified s) := by
  unfold execRollupFw
  refine DoesO.next ?_
  refine Does.step (State.rollup_does ..) (by decide) (by decide) ?_
  exact Does.refl ..

theorem execRollupUc_does (value : BitVec 8) (verified : Bool) (s : State) :
    DoesO 0x5000002000000 0x4400 s (execRollupUc value verified s) := by
  unfold execRollupUc
  refine DoesO.next ?_
  refine Does.step (State.rollup_does ..) (by decide) (by decide) ?_
  exact Does.refl ..

theorem State.revokeSlot_does (s : State) (v : ℕ) (verified : Bool) :
    Does 0x5000002000000 0x4400 s (State.revokeSlot s v verified) := by
  unfold State.revokeSlot
  extract_lets +onlyGivenNames x0
  clear_value x0
  extract_lets +onlyGivenNames x1
  clear_value x1
  refine Does.ite (fun _ => ?_) (fun _ => ?_)
  · exact Does.refl ..
  · refine Does.ite (fun _ => ?_) (fun _ => ?_)
    · refine Does.step (State.trustRes_does ..) (by decide) (by decide) ?_
      exact Does.refl ..
    · refine Does.ite (fun _ => ?_) (fun _ => ?_)
      · refine Does.step (State.trustRes_does ..) (by decide) (by decide) ?_
        exact Does.refl ..
      · refine Does.ite (fun _ => ?_) (fun _ => ?_)
        · refine Does.step (State.trustRes_does ..) (by decide) (by decide) ?_
          refine Does.step (State.detect_does ..) (by decide) (by decide) ?_
          exact Does.refl ..
        · extract_lets +onlyGivenNames x2
          clear_value x2
          extract_lets +onlyGivenNames x3
          refine Does.via (x := x3) ?_ (fun _ => ?_)
          · subst x3
            refine Does.upd_rst _ (by decide) ?_
            exact Does.refl ..
          clear_value x3
          refine Does.step (State.trustRes_does ..) (by decide) (by decide) ?_
          refine Does.wr _ _ _ _ (by decide) ?_
          assumption

theorem execRevoke_does (value : BitVec 8) (verified : Bool) (s : State) :
    DoesO 0x5000002000000 0x4400 s (execRevoke value verified s) := by
  unfold execRevoke
  refine DoesO.next ?_
  refine Does.step (State.revokeSlot_does ..) (by decide) (by decide) ?_
  exact Does.refl ..

theorem State.ackNv_does (s : State) :
    Does 0x1000000000000 0x0 s (State.ackNv s) := by
  unfold State.ackNv
  refine Does.step (State.startNv_does ..) (by decide) (by decide) ?_
  refine Does.upd_rst _ (by decide) ?_
  exact Does.refl ..

theorem execAck_does (s : State) :
    DoesO 0x1000000000000 0x0 s (execAck s) := by
  unfold execAck
  refine DoesO.next ?_
  refine Does.step (State.ackNv_does ..) (by decide) (by decide) ?_
  exact Does.refl ..

theorem State.clearPrior_does (s : State) :
    Does 0x1000000000000 0x4000000000000000000000000000 s (State.clearPrior s) := by
  unfold State.clearPrior
  refine Does.ite (fun _ => ?_) (fun _ => ?_)
  · refine Does.step (State.ackNv_does ..) (by decide) (by decide) ?_
    refine Does.wr _ _ _ _ (by decide) ?_
    exact Does.refl ..
  · exact Does.refl ..

theorem execPriorshutClear_does (s : State) :
    DoesO 0x1000000000000 0x4000000000000000000000000000 s (execPriorshutClear s) := by
  unfold execPriorshutClear
  refine DoesO.next ?_
  refine Does.step (State.clearPrior_does ..) (by decide) (by decide) ?_
  exact Does.refl ..

theorem execMtplock_does (s : State) :
    DoesO 0x0 0x400 s (execMtplock s) := by
  unfold execMtplock
  refine DoesO.next ?_
  refine Does.wr _ _ _ _ (by decide) ?_
  exact Does.refl ..

end Sys2Proof.Machine
end

