-- ==== Sys2Proof/Laws/DoesMeshOps.lean ====
section
/-! SUPPORT. What each operation and meaning of Machine/MeshOps.lean may touch. -/

namespace Sys2Proof.Machine

open Sys2Proof

set_option linter.unusedVariables false

theorem State.toTrain_does (s : State) (p : ℕ) :
    Does 0x408800b800008 0x1000000220000000000000000000000 s (State.toTrain s p) := by
  unfold State.toTrain
  extract_lets +onlyGivenNames x0
  refine Does.via (x := x0) ?_ (fun _ => ?_)
  · subst x0
    refine Does.step (State.setPortSt_does ..) (by decide) (by decide) ?_
    exact Does.refl ..
  clear_value x0
  refine Does.step (State.portLost_does ..) (by decide) (by decide) ?_
  refine Does.wr _ _ _ _ (by decide) ?_
  refine Does.wr _ _ _ _ (by decide) ?_
  refine Does.wr _ _ _ _ (by decide) ?_
  assumption

theorem State.toIdle_does (s : State) (p : ℕ) (st : ℕ) :
    Does 0x408800b800008 0x1000000220000000000000000000000 s (State.toIdle s p st) := by
  unfold State.toIdle
  extract_lets +onlyGivenNames x0
  refine Does.via (x := x0) ?_ (fun _ => ?_)
  · subst x0
    refine Does.step (State.setPortSt_does ..) (by decide) (by decide) ?_
    exact Does.refl ..
  clear_value x0
  refine Does.step (State.portLost_does ..) (by decide) (by decide) ?_
  refine Does.wr _ _ _ _ (by decide) ?_
  refine Does.wr _ _ _ _ (by decide) ?_
  assumption

theorem State.sendLmeas_does (s : State) (p : ℕ) (bytes : List ℕ) :
    Does 0x8008000000 0x0 s (State.sendLmeas s p bytes) := by
  unfold State.sendLmeas
  refine Does.step (State.pulse_does ..) (by decide) (by decide) ?_
  refine Does.upd_out _ (by decide) ?_
  exact Does.refl ..

theorem State.sendProbe_does (s : State) (p : ℕ) (depart : Stamp) :
    Does 0x88008000000 0x0 s (State.sendProbe s p depart) := by
  unfold State.sendProbe
  extract_lets +onlyGivenNames x0
  clear_value x0
  refine Does.step (State.sendLmeas_does ..) (by decide) (by decide) ?_
  refine Does.step (State.setPort_does ..) (by decide) (by decide) ?_
  exact Does.refl ..

theorem State.setInlat_does (s : State) (p : ℕ) :
    Does 0x0 0x400000000000000000000000 s (State.setInlat s p) := by
  unfold State.setInlat
  split
  · refine Does.wr _ _ _ _ (by decide) ?_
    exact Does.refl ..
  · exact Does.refl ..

theorem State.writePasym_does (s : State) (p : ℕ) (v : ℕ) :
    Does 0x0 0xc00000000000000000000000 s (State.writePasym s p v) := by
  unfold State.writePasym
  refine Does.step (State.setInlat_does ..) (by decide) (by decide) ?_
  refine Does.wr _ _ _ _ (by decide) ?_
  exact Does.refl ..

theorem State.takeReply_does (s : State) (p : ℕ) (f : Flit) (arrive : Stamp) (depart : Stamp) :
    Does 0x88008000000 0x0 s (State.takeReply s p f arrive depart) := by
  unfold State.takeReply
  extract_lets +onlyGivenNames x0
  clear_value x0
  split
  · exact Does.refl ..
  · refine Does.ite (fun _ => ?_) (fun _ => ?_)
    · exact Does.refl ..
    · extract_lets +onlyGivenNames x1
      extract_lets +onlyGivenNames x2
      extract_lets +onlyGivenNames x3
      clear_value x3
      extract_lets +onlyGivenNames x4
      refine Does.via (x := x4) ?_ (fun _ => ?_)
      · subst x4
        refine Does.step (State.setPort_does ..) (by decide) (by decide) ?_
        exact Does.refl ..
      clear_value x4
      refine Does.ite (fun _ => ?_) (fun _ => ?_)
      · assumption
      · refine Does.step (State.sendProbe_does ..) (by decide) (by decide) ?_
        assumption

theorem State.replayAll_does (s : State) (p : ℕ) :
    Does 0x88008000000 0x1000000000000000000000000 s (State.replayAll s p) := by
  unfold State.replayAll
  extract_lets +onlyGivenNames x0
  clear_value x0
  refine Does.ite (fun _ => ?_) (fun _ => ?_)
  · exact Does.refl ..
  · extract_lets +onlyGivenNames x1
    refine Does.via (x := x1) ?_ (fun _ => ?_)
    · subst x1
      refine Does.upd_out _ (by decide) ?_
      exact Does.refl ..
    clear_value x1
    extract_lets +onlyGivenNames x2
    refine Does.via (x := x2) ?_ (fun _ => ?_)
    · subst x2
      refine Does.step (State.pulse_does ..) (by decide) (by decide) ?_
      refine Does.bump _ _ _ _ (by decide) ?_
      assumption
    clear_value x2
    refine Does.step (State.setPort_does ..) (by decide) (by decide) ?_
    refine Does.step (State.pulse_does ..) (by decide) (by decide) ?_
    assumption

theorem State.sendWakes_does (s : State) (p : ℕ) :
    Does 0x188009800008 0x20000000000000000000000 s (State.sendWakes s p) := by
  unfold State.sendWakes
  extract_lets +onlyGivenNames x0
  clear_value x0
  extract_lets +onlyGivenNames x1
  clear_value x1
  extract_lets +onlyGivenNames x2
  clear_value x2
  extract_lets +onlyGivenNames x3
  clear_value x3
  extract_lets +onlyGivenNames x4
  refine Does.via (x := x4) ?_ (fun _ => ?_)
  · subst x4
    refine Does.upd_fab _ (by decide) ?_
    exact Does.refl ..
  clear_value x4
  refine Does.foldl (fun _ _ _ => ?_) ?_
  · refine Does.step (State.sendCtrl_does ..) (by decide) (by decide) ?_
    assumption
  · assumption

theorem State.linkUp_does (s : State) (p : ℕ) :
    Does 0x418800b800008 0x1000001620000000000000000000000 s (State.linkUp s p) := by
  unfold State.linkUp
  extract_lets +onlyGivenNames x0
  refine Does.via (x := x0) ?_ (fun _ => ?_)
  · subst x0
    exact Does.refl ..
  clear_value x0
  extract_lets +onlyGivenNames x1
  clear_value x1
  extract_lets +onlyGivenNames x2
  clear_value x2
  extract_lets +onlyGivenNames x3
  extract_lets +onlyGivenNames x4
  refine Does.via (x := x4) ?_ (fun _ => ?_)
  · subst x4
    refine Does.step (State.setInlat_does ..) (by decide) (by decide) ?_
    refine Does.step (State.setPort_does ..) (by decide) (by decide) ?_
    exact Does.refl ..
  clear_value x4
  extract_lets +onlyGivenNames x5
  refine Does.via (x := x5) ?_ (fun _ => ?_)
  · subst x5
    refine Does.wr _ _ _ _ (by decide) ?_
    refine Does.wr _ _ _ _ (by decide) ?_
    assumption
  clear_value x5
  extract_lets +onlyGivenNames x6
  refine Does.via (x := x6) ?_ (fun _ => ?_)
  · subst x6
    refine Does.ite (fun _ => ?_) (fun _ => ?_)
    · refine Does.ite (fun _ => ?_) (fun _ => ?_)
      · assumption
      · refine Does.wr _ _ _ _ (by decide) ?_
        assumption
    · refine Does.wr _ _ _ _ (by decide) ?_
      refine Does.wr _ _ _ _ (by decide) ?_
      exact Does.refl ..
  clear_value x6
  extract_lets +onlyGivenNames x7
  refine Does.via (x := x7) ?_ (fun _ => ?_)
  · subst x7
    refine Does.step (State.setPortSt_does ..) (by decide) (by decide) ?_
    assumption
  clear_value x7
  extract_lets +onlyGivenNames x8
  refine Does.via (x := x8) ?_ (fun _ => ?_)
  · subst x8
    refine Does.step (State.portEvent_does ..) (by decide) (by decide) ?_
    assumption
  clear_value x8
  extract_lets +onlyGivenNames x9
  clear_value x9
  extract_lets +onlyGivenNames x10
  refine Does.via (x := x10) ?_ (fun _ => ?_)
  · subst x10
    refine Does.step (State.setPort_does ..) (by decide) (by decide) ?_
    assumption
  clear_value x10
  refine Does.step (State.sendWakes_does ..) (by decide) (by decide) ?_
  refine Does.step (State.newDetours_does ..) (by decide) (by decide) ?_
  refine Does.step (State.drainPort_does ..) (by decide) (by decide) ?_
  refine Does.step (State.replayAll_does ..) (by decide) (by decide) ?_
  assumption

theorem State.accept_does (s : State) (p : ℕ) (f : Flit) :
    Does 0x100009800008 0x0 s (State.accept s p f) := by
  unfold State.accept
  refine Does.ite (fun _ => ?_) (fun _ => ?_)
  · exact Does.refl ..
  · refine Does.ite (fun _ => ?_) (fun _ => ?_)
    · extract_lets +onlyGivenNames x0
      refine Does.via (x := x0) ?_ (fun _ => ?_)
      · subst x0
        refine Does.step (State.raise_does ..) (by decide) (by decide) ?_
        exact Does.refl ..
      clear_value x0
      refine Does.upd_fab _ (by decide) ?_
      assumption
    · refine Does.step (State.deliver_does ..) (by decide) (by decide) ?_
      exact Does.refl ..

theorem State.forward_does (s : State) (p : ℕ) (f : Flit) :
    Does 0x188009800008 0x20000000000000000000000 s (State.forward s p f) := by
  unfold State.forward
  extract_lets +onlyGivenNames x0
  clear_value x0
  refine Does.ite (fun _ => ?_) (fun _ => ?_)
  · refine Does.bump _ _ _ _ (by decide) ?_
    exact Does.refl ..
  · refine Does.ite (fun _ => ?_) (fun _ => ?_)
    · extract_lets +onlyGivenNames x1
      clear_value x1
      refine Does.ite (fun _ => ?_) (fun _ => ?_)
      · refine Does.step (State.accept_does ..) (by decide) (by decide) ?_
        exact Does.refl ..
      · refine Does.ite (fun _ => ?_) (fun _ => ?_)
        · refine Does.step (State.dropPacket_does ..) (by decide) (by decide) ?_
          exact Does.refl ..
        · refine Does.step (State.output_does ..) (by decide) (by decide) ?_
          exact Does.refl ..
    · refine Does.ite (fun _ => ?_) (fun _ => ?_)
      · refine Does.step (State.dropPacket_does ..) (by decide) (by decide) ?_
        exact Does.refl ..
      · split
        · refine Does.step (State.accept_does ..) (by decide) (by decide) ?_
          exact Does.refl ..
        · refine Does.ite (fun _ => ?_) (fun _ => ?_)
          · refine Does.step (State.dropPacket_does ..) (by decide) (by decide) ?_
            exact Does.refl ..
          · refine Does.step (State.output_does ..) (by decide) (by decide) ?_
            exact Does.refl ..

theorem State.sequenced_does (s : State) (p : ℕ) (f : Flit) :
    Does 0x188009800008 0x20000000000000000000000 s (State.sequenced s p f) := by
  unfold State.sequenced
  extract_lets +onlyGivenNames x0
  clear_value x0
  extract_lets +onlyGivenNames x1
  clear_value x1
  refine Does.ite (fun _ => ?_) (fun _ => ?_)
  · extract_lets +onlyGivenNames x2
    refine Does.via (x := x2) ?_ (fun _ => ?_)
    · subst x2
      refine Does.step (State.setPort_does ..) (by decide) (by decide) ?_
      exact Does.refl ..
    clear_value x2
    refine Does.step (State.forward_does ..) (by decide) (by decide) ?_
    refine Does.step (State.giveCredit_does ..) (by decide) (by decide) ?_
    assumption
  · refine Does.ite (fun _ => ?_) (fun _ => ?_)
    · exact Does.refl ..
    · refine Does.ite (fun _ => ?_) (fun _ => ?_)
      · exact Does.refl ..
      · refine Does.step (State.sendNak_does ..) (by decide) (by decide) ?_
        exact Does.refl ..

theorem State.setMember_does (s : State) (d : ℕ) (m : MemberX) :
    Does 0x100000000000 0x0 s (State.setMember s d m) := by
  unfold State.setMember
  refine Does.upd_fab _ (by decide) ?_
  exact Does.refl ..

theorem State.wrDev_doesF2 {F R : Nat} {s0 s : State} {lo hi : Fld} {d : Nat} {on : Bool} (hl : Has R lo.reg.ctorIdx)
    (hh : Has R hi.reg.ctorIdx) (h : Does F R s0 s) : Does F R s0 (s.wrDev lo hi d on) := by
  unfold State.wrDev
  exact Does.ite (fun _ => Does.wr _ _ _ _ hl h) (fun _ => Does.wr _ _ _ _ hh h)

theorem State.sendReads_does (s : State) (d : ℕ) (a2 : ℕ) :
    Does 0x188009800008 0x20000000000000000000000 s (State.sendReads s d a2) := by
  induction' a2 with n ih generalizing s d
  · unfold State.sendReads
    exact Does.refl ..
  · unfold State.sendReads
    extract_lets +onlyGivenNames x0
    clear_value x0
    split
    · refine Does.ite (fun _ => ?_) (fun _ => ?_)
      · exact Does.refl ..
      · extract_lets +onlyGivenNames x1
        clear_value x1
        extract_lets +onlyGivenNames x2
        refine Does.via (x := x2) ?_ (fun _ => ?_)
        · subst x2
          refine Does.upd_fab _ (by decide) ?_
          exact Does.refl ..
        clear_value x2
        refine Does.step (ih ..) (Sub.refl _) (Sub.refl _) ?_
        refine Does.step (State.sendTo_does ..) (by decide) (by decide) ?_
        assumption
    · exact Does.refl ..

theorem State.endRead_does (s : State) (d : ℕ) (tag : ℕ) (v : ℕ) :
    Does 0x188009800008 0x20000000000000000000000 s (State.endRead s d tag v) := by
  unfold State.endRead
  refine Does.ite (fun _ => ?_) (fun _ => ?_)
  · exact Does.refl ..
  · extract_lets +onlyGivenNames x0
    clear_value x0
    extract_lets +onlyGivenNames x1
    refine Does.via (x := x1) ?_ (fun _ => ?_)
    · subst x1
      refine Does.upd_out_fab _ _ (by decide) (by decide) ?_
      exact Does.refl ..
    clear_value x1
    refine Does.step (State.sendReads_does ..) (by decide) (by decide) ?_
    assumption

theorem State.declareLost_does (s : State) (d : ℕ) :
    Does 0x4108002000000 0x3000000000000000000000 s (State.declareLost s d) := by
  unfold State.declareLost
  refine Does.ite (fun _ => ?_) (fun _ => ?_)
  · exact Does.refl ..
  · extract_lets +onlyGivenNames x0
    clear_value x0
    extract_lets +onlyGivenNames x1
    refine Does.via (x := x1) ?_ (fun _ => ?_)
    · subst x1
      refine Does.step (State.detect_does ..) (by decide) (by decide) ?_
      refine State.wrDev_doesF2 (by decide) (by decide) ?_
      exact Does.refl ..
    clear_value x1
    extract_lets +onlyGivenNames x2
    refine Does.via (x := x2) ?_ (fun _ => ?_)
    · subst x2
      split
      · refine Does.step (State.setMember_does ..) (by decide) (by decide) ?_
        assumption
      · assumption
    clear_value x2
    refine Does.upd_out_fab _ _ (by decide) (by decide) ?_
    assumption

theorem State.sendReset_does (s : State) (d : ℕ) :
    Does 0x188009800008 0x20000000000000000000000 s (State.sendReset s d) := by
  unfold State.sendReset
  extract_lets +onlyGivenNames x0
  refine Does.via (x := x0) ?_ (fun _ => ?_)
  · subst x0
    refine Does.step (State.sendCtrl_does ..) (by decide) (by decide) ?_
    exact Does.refl ..
  clear_value x0
  refine Does.upd_fab _ (by decide) ?_
  assumption

theorem State.setDisc_does (s : State) (d : DiscX) :
    Does 0x100000000000 0x0 s (State.setDisc s d) := by
  unfold State.setDisc
  refine Does.upd_fab _ (by decide) ?_
  exact Does.refl ..

theorem State.sendDiscProbe_does (s : State) (b : Probe) :
    Does 0x188009800008 0x20000000000000000000000 s (State.sendDiscProbe s b) := by
  unfold State.sendDiscProbe
  refine Does.step (State.sendDisc_does ..) (by decide) (by decide) ?_
  refine Does.step (State.setDisc_does ..) (by decide) (by decide) ?_
  exact Does.refl ..

theorem State.endDisc_does (s : State) (res : ℕ) :
    Does 0x100000000000 0x100000000000000000000 s (State.endDisc s res) := by
  unfold State.endDisc
  refine Does.wr _ _ _ _ (by decide) ?_
  refine Does.step (State.setDisc_does ..) (by decide) (by decide) ?_
  exact Does.refl ..

theorem State.failDisc_does (s : State) (res : ℕ) (u : Node) (p : ℕ) :
    Does 0x100000000000 0x100000000000000000000 s (State.failDisc s res u p) := by
  unfold State.failDisc
  extract_lets +onlyGivenNames x0
  refine Does.via (x := x0) ?_ (fun _ => ?_)
  · subst x0
    refine Does.wr _ _ _ _ (by decide) ?_
    refine Does.wr _ _ _ _ (by decide) ?_
    refine Does.wr _ _ _ _ (by decide) ?_
    exact Does.refl ..
  clear_value x0
  refine Does.step (State.endDisc_does ..) (by decide) (by decide) ?_
  assumption

theorem State.sendAssign_does (s : State) (d : ℕ) (m : MemberX) :
    Does 0x88009800008 0x20000000000000000000000 s (State.sendAssign s d m) := by
  unfold State.sendAssign
  extract_lets +onlyGivenNames x0
  clear_value x0
  extract_lets +onlyGivenNames x1
  clear_value x1
  refine Does.step (State.sendDisc_does ..) (by decide) (by decide) ?_
  exact Does.refl ..

theorem State.adopt_does (s : State) (n : Node) (left : ℤ) (top : ℤ) :
    Does 0x188009800008 0x20c00000000000000000000 s (State.adopt s n left top) := by
  unfold State.adopt
  extract_lets +onlyGivenNames x0
  clear_value x0
  extract_lets +onlyGivenNames x1
  clear_value x1
  extract_lets +onlyGivenNames x2
  clear_value x2
  refine Does.ite (fun _ => ?_) (fun _ => ?_)
  · refine Does.step (State.setMember_does ..) (by decide) (by decide) ?_
    exact Does.refl ..
  · extract_lets +onlyGivenNames x3
    clear_value x3
    refine Does.step (State.sendAssign_does ..) (by decide) (by decide) ?_
    refine State.wrDev_doesF2 (by decide) (by decide) ?_
    refine Does.step (State.setMember_does ..) (by decide) (by decide) ?_
    exact Does.refl ..

theorem State.setMesh_does (s : State) (w : ℕ) (h : ℕ) (ax : ℕ) (ay : ℕ) :
    Does 0x100000000000 0xc200000000000000000002 s (State.setMesh s w h ax ay) := by
  unfold State.setMesh
  extract_lets +onlyGivenNames x0
  clear_value x0
  extract_lets +onlyGivenNames x1
  refine Does.via (x := x1) ?_ (fun _ => ?_)
  · subst x1
    refine Does.upd_fab _ (by decide) ?_
    exact Does.refl ..
  clear_value x1
  extract_lets +onlyGivenNames x2
  refine Does.via (x := x2) ?_ (fun _ => ?_)
  · subst x2
    refine Does.wr _ _ _ _ (by decide) ?_
    refine Does.wr _ _ _ _ (by decide) ?_
    refine Does.wr _ _ _ _ (by decide) ?_
    assumption
  clear_value x2
  extract_lets +onlyGivenNames x3
  clear_value x3
  extract_lets +onlyGivenNames x4
  refine Does.via (x := x4) ?_ (fun _ => ?_)
  · subst x4
    refine Does.wr _ _ _ _ (by decide) ?_
    refine Does.wr _ _ _ _ (by decide) ?_
    refine Does.wr _ _ _ _ (by decide) ?_
    assumption
  clear_value x4
  extract_lets +onlyGivenNames x5
  refine Does.via (x := x5) ?_ (fun _ => ?_)
  · subst x5
    refine Does.wr _ _ _ _ (by decide) ?_
    refine Does.wr _ _ _ _ (by decide) ?_
    refine Does.wr _ _ _ _ (by decide) ?_
    assumption
  clear_value x5
  refine Does.foldl (fun _ _ _ => ?_) ?_
  · refine State.wrDev_doesF2 (by decide) (by decide) ?_
    assumption
  · assumption

theorem State.finishDisc_does (s : State) :
    Does 0x418800b800008 0x2ff00000000000000000002 s (State.finishDisc s) := by
  unfold State.finishDisc
  extract_lets +onlyGivenNames x0
  clear_value x0
  extract_lets +onlyGivenNames x1
  clear_value x1
  extract_lets +onlyGivenNames x2
  clear_value x2
  extract_lets +onlyGivenNames x3
  clear_value x3
  extract_lets +onlyGivenNames x4
  clear_value x4
  extract_lets +onlyGivenNames x5
  clear_value x5
  extract_lets +onlyGivenNames x6
  clear_value x6
  extract_lets +onlyGivenNames x7
  clear_value x7
  refine Does.ite (fun _ => ?_) (fun _ => ?_)
  · refine Does.step (State.endDisc_does ..) (by decide) (by decide) ?_
    exact Does.refl ..
  · refine Does.ite (fun _ => ?_) (fun _ => ?_)
    · refine Does.step (State.endDisc_does ..) (by decide) (by decide) ?_
      exact Does.refl ..
    · extract_lets +onlyGivenNames x8
      clear_value x8
      extract_lets +onlyGivenNames x9
      refine Does.via (x := x9) ?_ (fun _ => ?_)
      · subst x9
        refine Does.ite (fun _ => ?_) (fun _ => ?_)
        · exact Does.refl ..
        · refine Does.step (State.setMesh_does ..) (by decide) (by decide) ?_
          exact Does.refl ..
      clear_value x9
      extract_lets +onlyGivenNames x10
      clear_value x10
      extract_lets +onlyGivenNames x11
      clear_value x11
      extract_lets +onlyGivenNames x12
      clear_value x12
      extract_lets +onlyGivenNames x13
      refine Does.via (x := x13) ?_ (fun _ => ?_)
      · subst x13
        refine Does.foldl (fun _ _ _ => ?_) ?_
        · refine Does.step (State.adopt_does ..) (by decide) (by decide) ?_
          assumption
        · assumption
      clear_value x13
      extract_lets +onlyGivenNames x14
      clear_value x14
      extract_lets +onlyGivenNames x15
      refine Does.via (x := x15) ?_ (fun _ => ?_)
      · subst x15
        refine Does.foldl (fun _ _ _ => ?_) ?_
        · refine Does.step (State.declareLost_does ..) (by decide) (by decide) ?_
          assumption
        · assumption
      clear_value x15
      refine Does.step (State.endDisc_does ..) (by decide) (by decide) ?_
      refine Does.wr _ _ _ _ (by decide) ?_
      assumption

theorem State.nextProbe_does (s : State) (a1 : ℕ) :
    Does 0x418800b800008 0x2ff00000000000000000002 s (State.nextProbe s a1) := by
  induction' a1 with n ih generalizing s
  · unfold State.nextProbe
    exact Does.refl ..
  · unfold State.nextProbe
    extract_lets +onlyGivenNames x0
    clear_value x0
    split
    · refine Does.step (State.finishDisc_does ..) (by decide) (by decide) ?_
      refine Does.upd_fab _ (by decide) ?_
      exact Does.refl ..
    · extract_lets +onlyGivenNames x1
      refine Does.via (x := x1) ?_ (fun _ => ?_)
      · subst x1
        refine Does.step (State.setDisc_does ..) (by decide) (by decide) ?_
        exact Does.refl ..
      clear_value x1
      refine Does.ite (fun _ => ?_) (fun _ => ?_)
      · refine Does.step (ih ..) (Sub.refl _) (Sub.refl _) ?_
        assumption
      · refine Does.step (State.sendDiscProbe_does ..) (by decide) (by decide) ?_
        assumption

theorem State.beginDisc_does (s : State) (afterRst : Bool) :
    Does 0x418800b800008 0x2ff00000000000000000002 s (State.beginDisc s afterRst) := by
  unfold State.beginDisc
  extract_lets +onlyGivenNames x0
  clear_value x0
  extract_lets +onlyGivenNames x1
  refine Does.via (x := x1) ?_ (fun _ => ?_)
  · subst x1
    refine Does.step (State.setDisc_does ..) (by decide) (by decide) ?_
    exact Does.refl ..
  clear_value x1
  refine Does.step (State.nextProbe_does ..) (by decide) (by decide) ?_
  refine Does.wr _ _ _ _ (by decide) ?_
  assumption

theorem State.discReply_does (s : State) (b : Probe) (uid : ℕ) (inport : ℕ) (numbered : Bool) :
    Does 0x418800b800008 0x2ff00000000000000000002 s (State.discReply s b uid inport numbered) := by
  unfold State.discReply
  extract_lets +onlyGivenNames x0
  clear_value x0
  refine Does.ite (fun _ => ?_) (fun _ => ?_)
  · refine Does.step (State.failDisc_does ..) (by decide) (by decide) ?_
    exact Does.refl ..
  · extract_lets +onlyGivenNames x1
    clear_value x1
    split
    · refine Does.ite (fun _ => ?_) (fun _ => ?_)
      · refine Does.step (State.failDisc_does ..) (by decide) (by decide) ?_
        exact Does.refl ..
      · refine Does.step (State.nextProbe_does ..) (by decide) (by decide) ?_
        exact Does.refl ..
    · refine Does.ite (fun _ => ?_) (fun _ => ?_)
      · extract_lets +onlyGivenNames x2
        clear_value x2
        extract_lets +onlyGivenNames x3
        refine Does.via (x := x3) ?_ (fun _ => ?_)
        · subst x3
          refine Does.ite (fun _ => ?_) (fun _ => ?_)
          · exact Does.refl ..
          · refine Does.step (State.output_does ..) (by decide) (by decide) ?_
            exact Does.refl ..
        clear_value x3
        refine Does.step (State.setDisc_does ..) (by decide) (by decide) ?_
        assumption
      · extract_lets +onlyGivenNames x4
        clear_value x4
        extract_lets +onlyGivenNames x5
        refine Does.via (x := x5) ?_ (fun _ => ?_)
        · subst x5
          refine Does.step (State.setDisc_does ..) (by decide) (by decide) ?_
          exact Does.refl ..
        clear_value x5
        refine Does.step (State.nextProbe_does ..) (by decide) (by decide) ?_
        assumption

theorem State.rejoined_does (s : State) (dev : ℕ) (uid : ℕ) :
    Does 0x4188009800008 0x1000000023d00000000000000000000 s (State.rejoined s dev uid) := by
  unfold State.rejoined
  split
  · refine Does.step (State.endDisc_does ..) (by decide) (by decide) ?_
    exact Does.refl ..
  · refine Does.ite (fun _ => ?_) (fun _ => ?_)
    · refine Does.step (State.endDisc_does ..) (by decide) (by decide) ?_
      exact Does.refl ..
    · extract_lets +onlyGivenNames x0
      refine Does.via (x := x0) ?_ (fun _ => ?_)
      · subst x0
        refine Does.step (State.sendAssign_does ..) (by decide) (by decide) ?_
        refine Does.step (State.sendReset_does ..) (by decide) (by decide) ?_
        exact Does.refl ..
      clear_value x0
      extract_lets +onlyGivenNames x1
      refine Does.via (x := x1) ?_ (fun _ => ?_)
      · subst x1
        refine State.wrDev_doesF2 (by decide) (by decide) ?_
        refine State.wrDev_doesF2 (by decide) (by decide) ?_
        assumption
      clear_value x1
      extract_lets +onlyGivenNames x2
      clear_value x2
      extract_lets +onlyGivenNames x3
      refine Does.via (x := x3) ?_ (fun _ => ?_)
      · subst x3
        refine Does.upd_fab _ (by decide) ?_
        assumption
      clear_value x3
      refine Does.step (State.endDisc_does ..) (by decide) (by decide) ?_
      refine Does.step (State.endLive_does ..) (by decide) (by decide) ?_
      assumption

theorem State.probeTimeout_does (s : State) (b : Probe) :
    Does 0x418800b800008 0x2ff00000000000000000002 s (State.probeTimeout s b) := by
  unfold State.probeTimeout
  refine Does.ite (fun _ => ?_) (fun _ => ?_)
  · refine Does.step (State.endDisc_does ..) (by decide) (by decide) ?_
    exact Does.refl ..
  · refine Does.ite (fun _ => ?_) (fun _ => ?_)
    · refine Does.step (State.sendDiscProbe_does ..) (by decide) (by decide) ?_
      exact Does.refl ..
    · refine Does.step (State.nextProbe_does ..) (by decide) (by decide) ?_
      exact Does.refl ..

theorem State.startDisc_does (s : State) :
    Does 0x418800b800008 0x2ff00000000000000000002 s (State.startDisc s) := by
  unfold State.startDisc
  refine Does.ite (fun _ => ?_) (fun _ => ?_)
  · exact Does.refl ..
  · refine Does.ite (fun _ => ?_) (fun _ => ?_)
    · refine Does.wr _ _ _ _ (by decide) ?_
      exact Does.refl ..
    · refine Does.step (State.beginDisc_does ..) (by decide) (by decide) ?_
      exact Does.refl ..

theorem State.fenceDev_does (s : State) (d : ℕ) :
    Does 0x418800b800008 0x23100000000000000000000 s (State.fenceDev s d) := by
  unfold State.fenceDev
  refine Does.ite (fun _ => ?_) (fun _ => ?_)
  · exact Does.refl ..
  · refine Does.ite (fun _ => ?_) (fun _ => ?_)
    · refine Does.wr _ _ _ _ (by decide) ?_
      exact Does.refl ..
    · refine Does.ite (fun _ => ?_) (fun _ => ?_)
      · exact Does.refl ..
      · refine Does.step (State.sendReset_does ..) (by decide) (by decide) ?_
        refine Does.step (State.declareLost_does ..) (by decide) (by decide) ?_
        exact Does.refl ..

theorem State.rejoinDev_does (s : State) (d : ℕ) :
    Does 0x188009800008 0x20100000000000000000000 s (State.rejoinDev s d) := by
  unfold State.rejoinDev
  refine Does.ite (fun _ => ?_) (fun _ => ?_)
  · exact Does.refl ..
  · refine Does.ite (fun _ => ?_) (fun _ => ?_)
    · refine Does.wr _ _ _ _ (by decide) ?_
      exact Does.refl ..
    · split
      · refine Does.wr _ _ _ _ (by decide) ?_
        exact Does.refl ..
      · refine Does.ite (fun _ => ?_) (fun _ => ?_)
        · refine Does.wr _ _ _ _ (by decide) ?_
          exact Does.refl ..
        · extract_lets +onlyGivenNames x0
          clear_value x0
          refine Does.step (State.sendDiscProbe_does ..) (by decide) (by decide) ?_
          refine Does.wr _ _ _ _ (by decide) ?_
          refine Does.step (State.setDisc_does ..) (by decide) (by decide) ?_
          exact Does.refl ..

theorem State.writeDctl_does (s : State) (v : ℕ) :
    Does 0x418800b800008 0x2ff00000000000000000002 s (State.writeDctl s v) := by
  unfold State.writeDctl
  extract_lets +onlyGivenNames x0
  clear_value x0
  refine Does.ite (fun _ => ?_) (fun _ => ?_)
  · refine Does.step (State.startDisc_does ..) (by decide) (by decide) ?_
    exact Does.refl ..
  · refine Does.ite (fun _ => ?_) (fun _ => ?_)
    · refine Does.step (State.fenceDev_does ..) (by decide) (by decide) ?_
      exact Does.refl ..
    · refine Does.ite (fun _ => ?_) (fun _ => ?_)
      · refine Does.step (State.rejoinDev_does ..) (by decide) (by decide) ?_
        exact Does.refl ..
      · exact Does.refl ..

theorem State.retrainPort_does (s : State) (p : ℕ) :
    Does 0x408800b800008 0x1000000220000000000000000000000 s (State.retrainPort s p) := by
  unfold State.retrainPort
  refine Does.ite (fun _ => ?_) (fun _ => ?_)
  · refine Does.step (State.toTrain_does ..) (by decide) (by decide) ?_
    exact Does.refl ..
  · exact Does.refl ..

theorem State.unfencePort_does (s : State) (p : ℕ) :
    Does 0x408800b800008 0x1000000220000000000000000000000 s (State.unfencePort s p) := by
  unfold State.unfencePort
  refine Does.ite (fun _ => ?_) (fun _ => ?_)
  · refine Does.step (State.toTrain_does ..) (by decide) (by decide) ?_
    exact Does.refl ..
  · exact Does.refl ..

theorem State.disablePort_does (s : State) (p : ℕ) (on : Bool) :
    Does 0x408800b800008 0x1000000320000000000000000000000 s (State.disablePort s p on) := by
  unfold State.disablePort
  extract_lets +onlyGivenNames x0
  refine Does.via (x := x0) ?_ (fun _ => ?_)
  · subst x0
    refine Does.wr _ _ _ _ (by decide) ?_
    exact Does.refl ..
  clear_value x0
  refine Does.ite (fun _ => ?_) (fun _ => ?_)
  · refine Does.ite (fun _ => ?_) (fun _ => ?_)
    · assumption
    · refine Does.step (State.toIdle_does ..) (by decide) (by decide) ?_
      assumption
  · refine Does.ite (fun _ => ?_) (fun _ => ?_)
    · refine Does.step (State.setPortSt_does ..) (by decide) (by decide) ?_
      assumption
    · assumption

theorem State.writePctl_does (s : State) (p : ℕ) (v : ℕ) :
    Does 0x408800b800008 0x1000000320000000000000000000000 s (State.writePctl s p v) := by
  unfold State.writePctl
  extract_lets +onlyGivenNames x0
  refine Does.via (x := x0) ?_ (fun _ => ?_)
  · subst x0
    refine Does.wr _ _ _ _ (by decide) ?_
    exact Does.refl ..
  clear_value x0
  extract_lets +onlyGivenNames x1
  refine Does.via (x := x1) ?_ (fun _ => ?_)
  · subst x1
    refine Does.ite (fun _ => ?_) (fun _ => ?_)
    · refine Does.step (State.disablePort_does ..) (by decide) (by decide) ?_
      assumption
    · assumption
  clear_value x1
  extract_lets +onlyGivenNames x2
  refine Does.via (x := x2) ?_ (fun _ => ?_)
  · subst x2
    refine Does.ite (fun _ => ?_) (fun _ => ?_)
    · refine Does.step (State.retrainPort_does ..) (by decide) (by decide) ?_
      assumption
    · assumption
  clear_value x2
  refine Does.ite (fun _ => ?_) (fun _ => ?_)
  · refine Does.step (State.unfencePort_does ..) (by decide) (by decide) ?_
    assumption
  · assumption

end Sys2Proof.Machine
end

