-- ==== Sys2Proof/Laws/DoesRegOps.lean ====
section
/-! SUPPORT. What each operation and meaning of Machine/RegOps.lean may touch. -/

namespace Sys2Proof.Machine

open Sys2Proof

set_option linter.unusedVariables false

theorem has_all (r : Reg) : Has 0x7ffffffffffffffffffffffffffffffffffffffffffffffffffffffffffffffffff r.ctorIdx :=
  all_bit (Reg.ctorIdx_lt r)

theorem State.takeField_doesF2 {F R : Nat} {s0 s : State} {f : Fld} {v i j : Nat} (ha : Has F 68)
    (hb : Has R f.reg.ctorIdx) (h : Does F R s0 s) : Does F R s0 (s.takeField f v i j) :=
  Does.upd_atTick _ ha (Does.wr _ _ _ _ hb h)

theorem State.latchHalf_does (s : State) (a : RegAt) :
    Does 0x1001 0x40a04100000000000000000000000000001010000 s (State.latchHalf s a) := by
  unfold State.latchHalf
  extract_lets +onlyGivenNames x0
  subst x0
  split
  · refine Does.step (State.readNow_does ..) (by decide) (by decide) ?_
    exact Does.refl ..
  · refine Does.step (State.readPmc_does ..) (by decide) (by decide) ?_
    exact Does.refl ..
  · refine Does.wr _ _ _ _ (by decide) ?_
    exact Does.refl ..
  · refine Does.wr _ _ _ _ (by decide) ?_
    exact Does.refl ..
  · beta_reduce
    refine Does.upd_latch _ (by decide) ?_
    exact Does.refl ..
  · beta_reduce
    refine Does.upd_latch _ (by decide) ?_
    exact Does.refl ..
  · beta_reduce
    refine Does.upd_latch _ (by decide) ?_
    exact Does.refl ..
  · refine Does.step (State.setRail_does ..) (by decide) (by decide) ?_
    exact Does.refl ..
  · exact Does.refl ..

theorem State.regRead_does (s : State) (a : RegAt) :
    Does 0x100000000000001001 0x7ffffffffffffffffffffffffffffffffffffffffffffffffffffffffffffffffff s (State.regRead s a).2 :=
  Does.foldl (fun _ f ht => Does.ite (fun _ => State.takeField_doesF2 (by decide) (has_all f.reg) ht) (fun _ => ht))
    (Does.step (State.latchHalf_does ..) (by decide) (by decide) (Does.refl ..))

theorem State.writeField_doesF2 {F R : Nat} {s0 s : State} {f : Fld} {v i j : Nat} (ha : Has F 68)
    (hb : Has R f.reg.ctorIdx) (h : Does F R s0 s) : Does F R s0 (s.writeField f v i j) := by
  unfold State.writeField
  extract_lets w
  split
  · exact Does.wr _ _ _ _ hb h
  · exact State.takeField_doesF2 ha hb h
  · exact Does.wr _ _ _ _ hb h
  · exact h

theorem State.plainWrite_does (s : State) (a : RegAt) (v : ℕ) :
    Does 0x100000000000000000 0x7ffffffffffffffffffffffffffffffffffffffffffffffffffffffffffffffffff s (State.plainWrite s a v) :=
  Does.foldl (fun _ f ht => Does.ite (fun _ => State.writeField_doesF2 (by decide) (has_all f.reg) ht) (fun _ => ht)) (Does.refl ..)

theorem State.writeTrust_does (s : State) (v : ℕ) :
    Does 0x5000002000004 0x4400 s (State.writeTrust s v) := by
  unfold State.writeTrust
  extract_lets +onlyGivenNames x0
  clear_value x0
  extract_lets +onlyGivenNames x1
  clear_value x1
  refine Does.ite (fun _ => ?_) (fun _ => ?_)
  · exact Does.refl ..
  · refine Does.ite (fun _ => ?_) (fun _ => ?_)
    · refine Does.step (State.revokeSlot_does ..) (by decide) (by decide) ?_
      refine Does.step (State.tookFree_does ..) (by decide) (by decide) ?_
      exact Does.refl ..
    · refine Does.step (State.rollup_does ..) (by decide) (by decide) ?_
      refine Does.step (State.tookFree_does ..) (by decide) (by decide) ?_
      exact Does.refl ..

theorem State.writeRstCtl_does (s : State) (v : ℕ) :
    Does 0x1ff3ffff5fffffffff 0x7ffffffffffffffffffffffffffffffffffffffffffffffffffffffffffffffffff s (State.writeRstCtl s v) := by
  unfold State.writeRstCtl
  extract_lets +onlyGivenNames x0
  refine Does.via (x := x0) ?_ (fun _ => ?_)
  · subst x0
    refine Does.wr _ _ _ _ (by decide) ?_
    exact Does.refl ..
  clear_value x0
  extract_lets +onlyGivenNames x1
  refine Does.via (x := x1) ?_ (fun _ => ?_)
  · subst x1
    refine Does.ite (fun _ => ?_) (fun _ => ?_)
    · refine Does.step (State.leaveHold_does ..) (by decide) (by decide) ?_
      assumption
    · assumption
  clear_value x1
  refine Does.ite (fun _ => ?_) (fun _ => ?_)
  · refine Does.step (State.assertSrc_does ..) (by decide) (by decide) ?_
    assumption
  · assumption

theorem State.writeWtCtl_does (s : State) (v : ℕ) :
    Does 0x41c900b800008 0x20240000000000000340002 s (State.writeWtCtl s v) := by
  unfold State.writeWtCtl
  extract_lets +onlyGivenNames x0
  refine Does.via (x := x0) ?_ (fun _ => ?_)
  · subst x0
    refine Does.step (State.selectRef_does ..) (by decide) (by decide) ?_
    refine Does.wr _ _ _ _ (by decide) ?_
    refine Does.wr _ _ _ _ (by decide) ?_
    exact Does.refl ..
  clear_value x0
  refine Does.ite (fun _ => ?_) (fun _ => ?_)
  · assumption
  · refine Does.step (State.writeMaster_does ..) (by decide) (by decide) ?_
    assumption

theorem State.writeSnapCtl_does (s : State) (k : ℕ) (v : ℕ) :
    Does 0x100000000840000000 0x8200000 s (State.writeSnapCtl s k v) := by
  unfold State.writeSnapCtl
  extract_lets +onlyGivenNames x0
  refine Does.via (x := x0) ?_ (fun _ => ?_)
  · subst x0
    refine State.writeField_doesF2 (by decide) (by decide) ?_
    refine State.writeField_doesF2 (by decide) (by decide) ?_
    exact Does.refl ..
  clear_value x0
  extract_lets +onlyGivenNames x1
  refine Does.via (x := x1) ?_ (fun _ => ?_)
  · subst x1
    refine Does.ite (fun _ => ?_) (fun _ => ?_)
    · refine Does.step (State.disarmSlot_does ..) (by decide) (by decide) ?_
      assumption
    · assumption
  clear_value x1
  refine Does.ite (fun _ => ?_) (fun _ => ?_)
  · refine Does.step (State.armSlot_does ..) (by decide) (by decide) ?_
    assumption
  · assumption

theorem State.writeMask_does (s : State) (k : ℕ) (v : ℕ) :
    Does 0x8000000000 0x2000200000000 s (State.writeMask s k v) := by
  unfold State.writeMask
  refine Does.ite (fun _ => ?_) (fun _ => ?_)
  · exact Does.refl ..
  · extract_lets +onlyGivenNames x0
    refine Does.via (x := x0) ?_ (fun _ => ?_)
    · subst x0
      refine Does.wr _ _ _ _ (by decide) ?_
      exact Does.refl ..
    clear_value x0
    refine Does.ite (fun _ => ?_) (fun _ => ?_)
    · refine Does.step (State.msix_does ..) (by decide) (by decide) ?_
      refine Does.wr _ _ _ _ (by decide) ?_
      assumption
    · assumption

theorem State.writeFresume_does (s : State) (v : ℕ) :
    Does 0x7e9800018 0x40000000000001010000000000000000000000000000002041920000000000 s (State.writeFresume s v) := by
  unfold State.writeFresume
  extract_lets +onlyGivenNames x0
  clear_value x0
  extract_lets +onlyGivenNames x1
  clear_value x1
  refine Does.ite (fun _ => ?_) (fun _ => ?_)
  · refine Does.ite (fun _ => ?_) (fun _ => ?_)
    · refine Does.wr _ _ _ _ (by decide) ?_
      exact Does.refl ..
    · refine Does.ite (fun _ => ?_) (fun _ => ?_)
      · refine Does.step (State.retrySlot_does ..) (by decide) (by decide) ?_
        exact Does.refl ..
      · refine Does.step (State.abortSlot_does ..) (by decide) (by decide) ?_
        exact Does.refl ..
  · exact Does.refl ..

theorem State.writePre_does (s : State) (v : ℕ) :
    Does 0x800200679c034f8 0x4800040000000006413010004004000008000000000000003802040820000000000 s (State.writePre s v) := by
  unfold State.writePre
  extract_lets +onlyGivenNames x0
  clear_value x0
  extract_lets +onlyGivenNames x1
  clear_value x1
  refine Does.ite (fun _ => ?_) (fun _ => ?_)
  · refine Does.step (State.preempt_does ..) (by decide) (by decide) ?_
    exact Does.refl ..
  · refine Does.ite (fun _ => ?_) (fun _ => ?_)
    · refine Does.step (State.resumeQp_does ..) (by decide) (by decide) ?_
      exact Does.refl ..
    · refine Does.ite (fun _ => ?_) (fun _ => ?_)
      · refine Does.step (State.discard_does ..) (by decide) (by decide) ?_
        exact Does.refl ..
      · exact Does.refl ..

theorem State.writeThmStat_does (s : State) (v : ℕ) :
    Does 0x100005000000001020 0x8000000000000000000000000000000001004000000000000000000000000004 s (State.writeThmStat s v) := by
  unfold State.writeThmStat
  extract_lets +onlyGivenNames x0
  refine Does.via (x := x0) ?_ (fun _ => ?_)
  · subst x0
    refine State.writeField_doesF2 (by decide) (by decide) ?_
    exact Does.refl ..
  clear_value x0
  extract_lets +onlyGivenNames x1
  refine Does.via (x := x1) ?_ (fun _ => ?_)
  · subst x1
    refine Does.ite (fun _ => ?_) (fun _ => ?_)
    · refine Does.step (State.shutClear_does ..) (by decide) (by decide) ?_
      assumption
    · assumption
  clear_value x1
  refine Does.ite (fun _ => ?_) (fun _ => ?_)
  · refine Does.step (State.clearPrior_does ..) (by decide) (by decide) ?_
    assumption
  · assumption

theorem State.writeSafe_does (s : State) (v : ℕ) :
    Does 0x3000e79c03cf8 0x48000400a0020007413018a040743c00080006a0000000000002040820000000000 s (State.writeSafe s v) := by
  unfold State.writeSafe
  extract_lets +onlyGivenNames x0
  refine Does.via (x := x0) ?_ (fun _ => ?_)
  · subst x0
    refine Does.wr _ _ _ _ (by decide) ?_
    exact Does.refl ..
  clear_value x0
  extract_lets +onlyGivenNames x1
  refine Does.via (x := x1) ?_ (fun _ => ?_)
  · subst x1
    refine Does.ite (fun _ => ?_) (fun _ => ?_)
    · refine Does.step (State.enterSafe_does ..) (by decide) (by decide) ?_
      assumption
    · assumption
  clear_value x1
  refine Does.ite (fun _ => ?_) (fun _ => ?_)
  · refine Does.step (State.exitSafe_does ..) (by decide) (by decide) ?_
    assumption
  · assumption

theorem State.writeUctl_does (s : State) (p : ℕ) (v : ℕ) :
    Does 0x19c034f8 0x4800000020200206c12000004004040008000000000000000000000000000000000 s (State.writeUctl s p v) := by
  unfold State.writeUctl
  extract_lets +onlyGivenNames x0
  refine Does.via (x := x0) ?_ (fun _ => ?_)
  · subst x0
    refine Does.wr _ _ _ _ (by decide) ?_
    refine Does.wr _ _ _ _ (by decide) ?_
    exact Does.refl ..
  clear_value x0
  extract_lets +onlyGivenNames x1
  refine Does.via (x := x1) ?_ (fun _ => ?_)
  · subst x1
    refine Does.ite (fun _ => ?_) (fun _ => ?_)
    · assumption
    · refine Does.wr _ _ _ _ (by decide) ?_
      assumption
  clear_value x1
  split
  · assumption
  · extract_lets +onlyGivenNames x2
    refine Does.via (x := x2) ?_ (fun _ => ?_)
    · subst x2
      refine Does.ite (fun _ => ?_) (fun _ => ?_)
      · refine Does.step (State.resumeGang_does ..) (by decide) (by decide) ?_
        assumption
      · assumption
    clear_value x2
    extract_lets +onlyGivenNames x3
    refine Does.via (x := x3) ?_ (fun _ => ?_)
    · subst x3
      refine Does.ite (fun _ => ?_) (fun _ => ?_)
      · refine Does.step (State.resumeGang_does ..) (by decide) (by decide) ?_
        assumption
      · assumption
    clear_value x3
    refine Does.ite (fun _ => ?_) (fun _ => ?_)
    · refine Does.step (State.requestStop_does ..) (by decide) (by decide) ?_
      refine Does.wr _ _ _ _ (by decide) ?_
      assumption
    · assumption

theorem State.svpEvent_does (s : State) (src : ℕ) (info : ℕ) :
    Does 0x9800008 0x0 s (State.svpEvent s src info) := by
  unfold State.svpEvent
  refine Does.step (State.raise_does ..) (by decide) (by decide) ?_
  exact Does.refl ..

theorem State.svpEnd_does (s : State) (cut : Bool) :
    Does 0x60000009800008 0x200000000000000000000000000000000 s (State.svpEnd s cut) := by
  unfold State.svpEnd
  extract_lets +onlyGivenNames x0
  clear_value x0
  extract_lets +onlyGivenNames x1
  refine Does.via (x := x1) ?_ (fun _ => ?_)
  · subst x1
    refine Does.upd_xwait_svp _ _ (by decide) (by decide) ?_
    exact Does.refl ..
  clear_value x1
  extract_lets +onlyGivenNames x2
  refine Does.via (x := x2) ?_ (fun _ => ?_)
  · subst x2
    refine Does.ite (fun _ => ?_) (fun _ => ?_)
    · refine Does.step (State.svpEvent_does ..) (by decide) (by decide) ?_
      refine Does.wr _ _ _ _ (by decide) ?_
      assumption
    · assumption
  clear_value x2
  refine Does.ite (fun _ => ?_) (fun _ => ?_)
  · refine Does.step (State.svpEvent_does ..) (by decide) (by decide) ?_
    assumption
  · assumption

theorem State.writeSvpCfg_does (s : State) (v : ℕ) :
    Does 0x100060000009800008 0x7ffffffffffffffffffffffffffffffffffffffffffffffffffffffffffffffffff s (State.writeSvpCfg s v) := by
  unfold State.writeSvpCfg
  refine Does.ite (fun _ => ?_) (fun _ => ?_)
  · refine Does.wr _ _ _ _ (by decide) ?_
    exact Does.refl ..
  · extract_lets +onlyGivenNames x0
    refine Does.via (x := x0) ?_ (fun _ => ?_)
    · subst x0
      refine Does.step (State.plainWrite_does ..) (by decide) (by decide) ?_
      exact Does.refl ..
    clear_value x0
    refine Does.ite (fun _ => ?_) (fun _ => ?_)
    · refine Does.step (State.svpEnd_does ..) (by decide) (by decide) ?_
      assumption
    · assumption

theorem State.svpRelease_does (s : State) :
    Does 0x40000000000000 0x200000000000000000000000000000000 s (State.svpRelease s) := by
  unfold State.svpRelease
  refine Does.ite (fun _ => ?_) (fun _ => ?_)
  · refine Does.wr _ _ _ _ (by decide) ?_
    exact Does.refl ..
  · refine Does.ite (fun _ => ?_) (fun _ => ?_)
    · refine Does.upd_svp _ (by decide) ?_
      exact Does.refl ..
    · refine Does.upd_svp _ (by decide) ?_
      exact Does.refl ..

theorem State.writeSvpMctl_does (s : State) (v : ℕ) :
    Does 0x100040000000000000 0x7ffffffffffffffffffffffffffffffffffffffffffffffffffffffffffffffffff s (State.writeSvpMctl s v) := by
  unfold State.writeSvpMctl
  refine Does.ite (fun _ => ?_) (fun _ => ?_)
  · refine Does.wr _ _ _ _ (by decide) ?_
    exact Does.refl ..
  · extract_lets +onlyGivenNames x0
    refine Does.via (x := x0) ?_ (fun _ => ?_)
    · subst x0
      refine Does.step (State.plainWrite_does ..) (by decide) (by decide) ?_
      exact Does.refl ..
    clear_value x0
    refine Does.ite (fun _ => ?_) (fun _ => ?_)
    · refine Does.step (State.svpRelease_does ..) (by decide) (by decide) ?_
      assumption
    · assumption

theorem State.writeSvpMtx_does (s : State) (v : ℕ) :
    Does 0x40008000000000 0x200000000000000000000000000000000 s (State.writeSvpMtx s v) := by
  unfold State.writeSvpMtx
  refine Does.ite (fun _ => ?_) (fun _ => ?_)
  · refine Does.wr _ _ _ _ (by decide) ?_
    exact Does.refl ..
  · refine Does.ite (fun _ => ?_) (fun _ => ?_)
    · exact Does.refl ..
    · extract_lets +onlyGivenNames x0
      clear_value x0
      refine Does.upd_out_svp _ _ (by decide) (by decide) ?_
      exact Does.refl ..

theorem State.writeXmode_does (s : State) (v : ℕ) :
    Does 0x0 0x400000000000000000000000000000000 s (State.writeXmode s v) := by
  unfold State.writeXmode
  refine Does.wr _ _ _ _ (by decide) ?_
  exact Does.refl ..

theorem State.writeWork_does (s : State) (a : RegAt) (v : ℕ) :
    Does 0x100800000479c43cfc 0x7ffffffffffffffffffffffffffffffffffffffffffffffffffffffffffffffffff s (State.writeWork s a v) := by
  unfold State.writeWork
  extract_lets +onlyGivenNames x0
  clear_value x0
  split
  · refine Does.step (State.writeFctl_does ..) (by decide) (by decide) ?_
    exact Does.refl ..
  · refine Does.step (State.writeRailCtl_does ..) (by decide) (by decide) ?_
    exact Does.refl ..
  · refine Does.step (State.writeRailSet_does ..) (by decide) (by decide) ?_
    exact Does.refl ..
  · refine Does.step (State.writeRailCfg_does ..) (by decide) (by decide) ?_
    exact Does.refl ..
  · refine Does.step (State.writeRailVwin_does ..) (by decide) (by decide) ?_
    exact Does.refl ..
  · refine Does.step (State.writeRailIwin_does ..) (by decide) (by decide) ?_
    exact Does.refl ..
  · refine Does.step (State.writeRailMon_does ..) (by decide) (by decide) ?_
    exact Does.refl ..
  · refine Does.step (State.awgCfgWrite_does ..) (by decide) (by decide) ?_
    exact Does.refl ..
  · refine Does.step (State.writeAwgSpan_does ..) (by decide) (by decide) ?_
    exact Does.refl ..
  · refine Does.step (State.writeAwgCtl_does ..) (by decide) (by decide) ?_
    exact Does.refl ..
  · refine Does.step (State.writeAwgIdle_does ..) (by decide) (by decide) ?_
    exact Does.refl ..
  · refine Does.step (State.writeStrmCfg_does ..) (by decide) (by decide) ?_
    exact Does.refl ..
  · refine Does.step (State.ledgRdWrite_does ..) (by decide) (by decide) ?_
    exact Does.refl ..
  · refine Does.step (State.ledgCfgWrite_does ..) (by decide) (by decide) ?_
    exact Does.refl ..
  · refine Does.step (State.thrWrite_does ..) (by decide) (by decide) ?_
    exact Does.refl ..
  · refine Does.ite (fun _ => ?_) (fun _ => ?_)
    · refine Does.step (State.apply_does ..) (by decide) (by decide) ?_
      exact Does.refl ..
    · exact Does.refl ..
  · refine Does.step (State.capRdWrite_does ..) (by decide) (by decide) ?_
    exact Does.refl ..
  · refine Does.step (State.capCfgWrite_does ..) (by decide) (by decide) ?_
    exact Does.refl ..
  · refine Does.step (State.capCfgWrite_does ..) (by decide) (by decide) ?_
    exact Does.refl ..
  · refine Does.step (State.capCfgWrite_does ..) (by decide) (by decide) ?_
    exact Does.refl ..
  · refine Does.step (State.writeUctl_does ..) (by decide) (by decide) ?_
    exact Does.refl ..
  · extract_lets +onlyGivenNames x1
    refine Does.via (x := x1) ?_ (fun _ => ?_)
    · subst x1
      refine Does.step (State.plainWrite_does ..) (by decide) (by decide) ?_
      exact Does.refl ..
    clear_value x1
    refine Does.ite (fun _ => ?_) (fun _ => ?_)
    · refine Does.step (State.setPod_does ..) (by decide) (by decide) ?_
      assumption
    · assumption
  · refine Does.step (State.writeTimCtl_does ..) (by decide) (by decide) ?_
    exact Does.refl ..
  · refine Does.step (State.writePinCfg_does ..) (by decide) (by decide) ?_
    exact Does.refl ..
  · refine Does.step (State.writePinWatch_does ..) (by decide) (by decide) ?_
    exact Does.refl ..
  · refine Does.step (State.writePmuCtl_does ..) (by decide) (by decide) ?_
    exact Does.refl ..
  · refine Does.step (State.plainWrite_does ..) (by decide) (by decide) ?_
    exact Does.refl ..

theorem State.writeHost_does (s : State) (a : RegAt) (v : ℕ) :
    Does 0x1008043887fbc43cfc 0x7ffffffffffffffffffffffffffffffffffffffffffffffffffffffffffffffffff s (State.writeHost s a v) := by
  unfold State.writeHost
  extract_lets +onlyGivenNames x0
  clear_value x0
  split
  · refine Does.step (State.writeMask_does ..) (by decide) (by decide) ?_
    exact Does.refl ..
  · refine Does.ite (fun _ => ?_) (fun _ => ?_)
    · refine Does.step (State.plainWrite_does ..) (by decide) (by decide) ?_
      exact Does.refl ..
    · refine Does.wr _ _ _ _ (by decide) ?_
      exact Does.refl ..
  · refine Does.ite (fun _ => ?_) (fun _ => ?_)
    · refine Does.step (State.plainWrite_does ..) (by decide) (by decide) ?_
      exact Does.refl ..
    · refine Does.wr _ _ _ _ (by decide) ?_
      exact Does.refl ..
  · refine Does.ite (fun _ => ?_) (fun _ => ?_)
    · refine Does.step (State.plainWrite_does ..) (by decide) (by decide) ?_
      exact Does.refl ..
    · refine Does.wr _ _ _ _ (by decide) ?_
      exact Does.refl ..
  · refine Does.ite (fun _ => ?_) (fun _ => ?_)
    · refine Does.step (State.plainWrite_does ..) (by decide) (by decide) ?_
      exact Does.refl ..
    · refine Does.wr _ _ _ _ (by decide) ?_
      exact Does.refl ..
  · refine Does.step (State.writeQpCfg_does ..) (by decide) (by decide) ?_
    exact Does.refl ..
  · refine Does.ite (fun _ => ?_) (fun _ => ?_)
    · exact Does.refl ..
    · refine Does.step (State.plainWrite_does ..) (by decide) (by decide) ?_
      exact Does.refl ..
  · refine Does.ite (fun _ => ?_) (fun _ => ?_)
    · exact Does.refl ..
    · refine Does.step (State.plainWrite_does ..) (by decide) (by decide) ?_
      exact Does.refl ..
  · refine Does.step (State.writeEvrCfg_does ..) (by decide) (by decide) ?_
    exact Does.refl ..
  · refine Does.ite (fun _ => ?_) (fun _ => ?_)
    · refine Does.step (State.flush_does ..) (by decide) (by decide) ?_
      exact Does.refl ..
    · exact Does.refl ..
  · refine Does.step (State.writeMmuInv_does ..) (by decide) (by decide) ?_
    exact Does.refl ..
  · refine Does.step (State.writeFresume_does ..) (by decide) (by decide) ?_
    exact Does.refl ..
  · refine Does.step (State.writePre_does ..) (by decide) (by decide) ?_
    exact Does.refl ..
  · refine Does.step (State.writeDctl_does ..) (by decide) (by decide) ?_
    exact Does.refl ..
  · refine Does.step (State.writePctl_does ..) (by decide) (by decide) ?_
    exact Does.refl ..
  · refine Does.step (State.writePasym_does ..) (by decide) (by decide) ?_
    exact Does.refl ..
  · refine Does.step (State.newDetours_does ..) (by decide) (by decide) ?_
    refine Does.step (State.plainWrite_does ..) (by decide) (by decide) ?_
    exact Does.refl ..
  · refine Does.step (State.writeWork_does ..) (by decide) (by decide) ?_
    exact Does.refl ..

theorem State.regWrite_does (s : State) (a : RegAt) (v : ℕ) :
    Does 0x1ffbffffdfffffffff 0x7ffffffffffffffffffffffffffffffffffffffffffffffffffffffffffffffffff s (State.regWrite s a v) := by
  unfold State.regWrite
  extract_lets +onlyGivenNames x0
  clear_value x0
  split
  · refine Does.step (State.writeRstCtl_does ..) (by decide) (by decide) ?_
    exact Does.refl ..
  · refine Does.ite (fun _ => ?_) (fun _ => ?_)
    · refine Does.step (State.ackNv_does ..) (by decide) (by decide) ?_
      exact Does.refl ..
    · exact Does.refl ..
  · refine Does.step (State.writeTrust_does ..) (by decide) (by decide) ?_
    exact Does.refl ..
  · refine Does.step (State.writeWtCtl_does ..) (by decide) (by decide) ?_
    exact Does.refl ..
  · refine Does.step (State.writeAge_does ..) (by decide) (by decide) ?_
    refine Does.wr _ _ _ _ (by decide) ?_
    exact Does.refl ..
  · refine Does.step (State.writeSnapCtl_does ..) (by decide) (by decide) ?_
    exact Does.refl ..
  · refine Does.step (State.writeThmStat_does ..) (by decide) (by decide) ?_
    exact Does.refl ..
  · refine Does.ite (fun _ => ?_) (fun _ => ?_)
    · refine Does.step (State.releaseFloors_does ..) (by decide) (by decide) ?_
      exact Does.refl ..
    · exact Does.refl ..
  · refine Does.step (State.writeSafe_does ..) (by decide) (by decide) ?_
    exact Does.refl ..
  · refine Does.step (State.clearPend_does ..) (by decide) (by decide) ?_
    exact Does.refl ..
  · refine Does.step (State.writeFltSrc_does ..) (by decide) (by decide) ?_
    exact Does.refl ..
  · refine Does.step (State.writeSvpCfg_does ..) (by decide) (by decide) ?_
    exact Does.refl ..
  · refine Does.step (State.writeSvpMctl_does ..) (by decide) (by decide) ?_
    exact Does.refl ..
  · refine Does.step (State.writeSvpMtx_does ..) (by decide) (by decide) ?_
    exact Does.refl ..
  · refine Does.step (State.writeXmode_does ..) (by decide) (by decide) ?_
    exact Does.refl ..
  · refine Does.step (State.writeIuCtl_does ..) (by decide) (by decide) ?_
    exact Does.refl ..
  · refine Does.step (State.writeIuCal_does ..) (by decide) (by decide) ?_
    exact Does.refl ..
  · refine Does.step (State.writePmc_does ..) (by decide) (by decide) ?_
    exact Does.refl ..
  · refine Does.step (State.pmcSelect_does ..) (by decide) (by decide) ?_
    exact Does.refl ..
  · refine Does.step (State.writeHost_does ..) (by decide) (by decide) ?_
    exact Does.refl ..

theorem State.answer_does (s : State) (from_ : XFrom) (write : Bool) (v : ℕ) (status : ℕ) :
    Does 0x40188009800008 0x200000000020000000000000000000000 s (State.answer s from_ write v status) := by
  unfold State.answer
  split
  · refine Does.ite (fun _ => ?_) (fun _ => ?_)
    · exact Does.refl ..
    · refine Does.upd_out _ (by decide) ?_
      exact Does.refl ..
  · refine Does.ite (fun _ => ?_) (fun _ => ?_)
    · exact Does.refl ..
    · refine Does.step (State.sendTo_does ..) (by decide) (by decide) ?_
      exact Does.refl ..
  · refine Does.ite (fun _ => ?_) (fun _ => ?_)
    · extract_lets +onlyGivenNames x0
      clear_value x0
      extract_lets +onlyGivenNames x1
      refine Does.via (x := x1) ?_ (fun _ => ?_)
      · subst x1
        refine Does.upd_svp _ (by decide) ?_
        exact Does.refl ..
      clear_value x1
      refine Does.ite (fun _ => ?_) (fun _ => ?_)
      · assumption
      · refine Does.step (State.svpEvent_does ..) (by decide) (by decide) ?_
        refine Does.wr _ _ _ _ (by decide) ?_
        assumption
    · refine Does.upd_svp _ (by decide) ?_
      exact Does.refl ..
  · exact Does.refl ..

theorem State.perform_does (s : State) (from_ : XFrom) (write : Bool) (a : RegAt) (v : ℕ) :
    Does 0x1ffbffffdfffffffff 0x7ffffffffffffffffffffffffffffffffffffffffffffffffffffffffffffffffff s (State.perform s from_ write a v) := by
  unfold State.perform
  refine Does.ite (fun _ => ?_) (fun _ => ?_)
  · refine Does.step (State.answer_does ..) (by decide) (by decide) ?_
    refine Does.step (State.regWrite_does ..) (by decide) (by decide) ?_
    exact Does.refl ..
  · extract_lets +onlyGivenNames x0
    subst x0
    refine Does.step (State.answer_does ..) (by decide) (by decide) ?_
    refine Does.step (State.regRead_does ..) (by decide) (by decide) ?_
    exact Does.refl ..

theorem State.waitAccess_does (s : State) (from_ : XFrom) (write : Bool) (off : ℕ) (v : ℕ) :
    Does 0x20000000000000 0x0 s (State.waitAccess s from_ write off v) := by
  unfold State.waitAccess
  refine Does.upd_xwait _ (by decide) ?_
  exact Does.refl ..

theorem State.access_does (s : State) (from_ : XFrom) (write : Bool) (off : ℕ) (v : ℕ) :
    Does 0x1ffbffffdfffffffff 0x7ffffffffffffffffffffffffffffffffffffffffffffffffffffffffffffffffff s (State.access s from_ write off v) := by
  unfold State.access
  split
  · refine Does.ite (fun _ => ?_) (fun _ => ?_)
    · exact Does.refl ..
    · refine Does.step (State.answer_does ..) (by decide) (by decide) ?_
      refine Does.ite (fun _ => ?_) (fun _ => ?_)
      · refine Does.step (State.askWake_does ..) (by decide) (by decide) ?_
        exact Does.refl ..
      · exact Does.refl ..
  · extract_lets +onlyGivenNames x0
    refine Does.via (x := x0) ?_ (fun _ => ?_)
    · subst x0
      refine Does.ite (fun _ => ?_) (fun _ => ?_)
      · refine Does.step (State.askWake_does ..) (by decide) (by decide) ?_
        exact Does.refl ..
      · exact Does.refl ..
    clear_value x0
    extract_lets +onlyGivenNames x1
    clear_value x1
    split
    · assumption
    · refine Does.ite (fun _ => ?_) (fun _ => ?_)
      · refine Does.step (State.waitAccess_does ..) (by decide) (by decide) ?_
        assumption
      · refine Does.step (State.perform_does ..) (by decide) (by decide) ?_
        assumption
    · refine Does.step (State.waitAccess_does ..) (by decide) (by decide) ?_
      assumption
    · refine Does.ite (fun _ => ?_) (fun _ => ?_)
      · refine Does.step (State.perform_does ..) (by decide) (by decide) ?_
        assumption
      · refine Does.ite (fun _ => ?_) (fun _ => ?_)
        · refine Does.step (State.answer_does ..) (by decide) (by decide) ?_
          extract_lets +onlyGivenNames x2
          refine Does.via (x := x2) ?_ (fun _ => ?_)
          · subst x2
            refine Does.step (State.askWake_does ..) (by decide) (by decide) ?_
            assumption
          clear_value x2
          refine Does.upd_shadowWr _ (by decide) ?_
          assumption
        · refine Does.step (State.waitAccess_does ..) (by decide) (by decide) ?_
          refine Does.step (State.askWake_does ..) (by decide) (by decide) ?_
          assumption

theorem State.serveWaiting_does (s : State) :
    Does 0x1ffbffffdfffffffff 0x7ffffffffffffffffffffffffffffffffffffffffffffffffffffffffffffffffff s (State.serveWaiting s) := by
  unfold State.serveWaiting
  refine Does.ite (fun _ => ?_) (fun _ => ?_)
  · exact Does.refl ..
  · extract_lets +onlyGivenNames x0
    subst x0
    extract_lets +onlyGivenNames x1
    refine Does.via (x := x1) ?_ (fun _ => ?_)
    · subst x1
      refine Does.foldlFst (fun _ _ _ => ?_) ?_
      · split
        · assumption
        · split
          · dsimp only
            assumption
          · split
            · dsimp only
              refine Does.step (State.perform_does ..) (by decide) (by decide) ?_
              assumption
            · dsimp only
              assumption
      · dsimp only
        refine Does.upd_xwait _ (by decide) ?_
        exact Does.refl ..
    clear_value x1
    refine Does.upd_xwait _ (by decide) ?_
    assumption

theorem State.accessTimeout_does (s : State) (x : ℕ) (die : ℕ) (off : ℕ) (write : Bool) :
    Does 0x6418800b800008 0x200000000020000000000000000000000 s (State.accessTimeout s x die off write) := by
  unfold State.accessTimeout
  extract_lets +onlyGivenNames x0
  clear_value x0
  split
  · exact Does.refl ..
  · extract_lets +onlyGivenNames x1
    refine Does.via (x := x1) ?_ (fun _ => ?_)
    · subst x1
      refine Does.upd_xwait _ (by decide) ?_
      exact Does.refl ..
    clear_value x1
    extract_lets +onlyGivenNames x2
    refine Does.via (x := x2) ?_ (fun _ => ?_)
    · subst x2
      refine Does.step (State.answer_does ..) (by decide) (by decide) ?_
      assumption
    clear_value x2
    refine Does.ite (fun _ => ?_) (fun _ => ?_)
    · refine Does.step (State.detect_does ..) (by decide) (by decide) ?_
      assumption
    · assumption

theorem State.hostAccess_does (s : State) (dev : ℕ) (off : ℕ) (size : ℕ) (write : Bool) (v : ℕ) :
    Does 0x1ffbffffdfffffffff 0x7ffffffffffffffffffffffffffffffffffffffffffffffffffffffffffffffffff s (State.hostAccess s dev off size write v) := by
  unfold State.hostAccess
  extract_lets +onlyGivenNames x0
  clear_value x0
  refine Does.ite (fun _ => ?_) (fun _ => ?_)
  · exact Does.refl ..
  · refine Does.ite (fun _ => ?_) (fun _ => ?_)
    · refine Does.upd_out _ (by decide) ?_
      exact Does.refl ..
    · refine Does.ite (fun _ => ?_) (fun _ => ?_)
      · refine Does.step (State.access_does ..) (by decide) (by decide) ?_
        exact Does.refl ..
      · refine Does.ite (fun _ => ?_) (fun _ => ?_)
        · refine Does.upd_out _ (by decide) ?_
          exact Does.refl ..
        · extract_lets +onlyGivenNames x1
          refine Does.via (x := x1) ?_ (fun _ => ?_)
          · subst x1
            refine Does.ite (fun _ => ?_) (fun _ => ?_)
            · refine Does.step (State.askWake_does ..) (by decide) (by decide) ?_
              exact Does.refl ..
            · exact Does.refl ..
          clear_value x1
          refine Does.ite (fun _ => ?_) (fun _ => ?_)
          · refine Does.step (State.sendTo_does ..) (by decide) (by decide) ?_
            assumption
          · refine Does.step (State.sendReads_does ..) (by decide) (by decide) ?_
            refine Does.upd_fab _ (by decide) ?_
            assumption

theorem State.applyShadow_does (s : State) :
    Does 0x1ffbffffdfffffffff 0x7ffffffffffffffffffffffffffffffffffffffffffffffffffffffffffffffffff s (State.applyShadow s) := by
  unfold State.applyShadow
  refine Does.ite (fun _ => ?_) (fun _ => ?_)
  · exact Does.refl ..
  · refine Does.foldl (fun _ _ _ => ?_) ?_
    · split
      · refine Does.step (State.regWrite_does ..) (by decide) (by decide) ?_
        assumption
      · assumption
    · refine Does.upd_shadowWr _ (by decide) ?_
      exact Does.refl ..

end Sys2Proof.Machine
end

