-- ==== Sys2Proof/Laws/DoesRegRows.lean ====
section
/-! SUPPORT. What each operation and meaning of Machine/RegRows.lean may touch. -/

namespace Sys2Proof.Machine

open Sys2Proof

set_option linter.unusedVariables false

theorem execTick_does (s : State) :
    DoesO 0x1ffbffffdfffffffff 0x7ffffffffffffffffffffffffffffffffffffffffffffffffffffffffffffffffff s (execTick s) := by
  unfold execTick
  refine DoesO.next ?_
  refine Does.ite (fun _ => ?_) (fun _ => ?_)
  · exact Does.refl ..
  · extract_lets +onlyGivenNames x0
    refine Does.via (x := x0) ?_ (fun _ => ?_)
    · subst x0
      refine Does.step (State.endTick_does ..) (by decide) (by decide) ?_
      exact Does.refl ..
    clear_value x0
    extract_lets +onlyGivenNames x1
    subst x1
    extract_lets +onlyGivenNames x2
    subst x2
    extract_lets +onlyGivenNames x3
    subst x3
    extract_lets +onlyGivenNames x4
    refine Does.via (x := x4) ?_ (fun _ => ?_)
    · subst x4
      refine Does.upd_now_time_atTick _ _ _ ?_ (by decide) (by decide) (by decide) ?_
      · exact fun h => wholeTicks_add h _
      · assumption
    clear_value x4
    refine Does.step (State.serveWaiting_does ..) (by decide) (by decide) ?_
    refine Does.step (State.trackTarget_does ..) (by decide) (by decide) ?_
    refine Does.step (State.countTicks_does ..) (by decide) (by decide) ?_
    assumption

theorem execRegisterWrite_does (dev : Fin 64) (offset : BitVec 21) (size : ℕ) (value : BitVec 32) (s : State) :
    DoesO 0x1ffbffffdfffffffff 0x7ffffffffffffffffffffffffffffffffffffffffffffffffffffffffffffffffff s (execRegisterWrite dev offset size value s) := by
  unfold execRegisterWrite
  refine DoesO.next ?_
  refine Does.step (State.hostAccess_does ..) (by decide) (by decide) ?_
  exact Does.refl ..

theorem execRegisterRead_does (dev : Fin 64) (offset : BitVec 21) (size : ℕ) (s : State) :
    DoesO 0x1ffbffffdfffffffff 0x7ffffffffffffffffffffffffffffffffffffffffffffffffffffffffffffffffff s (execRegisterRead dev offset size s) := by
  unfold execRegisterRead
  refine DoesO.next ?_
  refine Does.step (State.hostAccess_does ..) (by decide) (by decide) ?_
  exact Does.refl ..

theorem execCrossingTimeout_does (x : Fin 2) (die : DieId) (offset : BitVec 21) (write : Bool) (s : State) :
    DoesO 0x6418800b800008 0x200000000020000000000000000000000 s (execCrossingTimeout x die offset write s) := by
  unfold execCrossingTimeout
  refine DoesO.next ?_
  refine Does.step (State.accessTimeout_does ..) (by decide) (by decide) ?_
  exact Does.refl ..

theorem State.setXing_does (s : State) (x : ℕ) (y : XingX) :
    Does 0x8000000000000 0x0 s (State.setXing s x y) := by
  unfold State.setXing
  refine Does.upd_xings _ (by decide) ?_
  exact Does.refl ..

theorem State.xbit_doesF1 {F R : Nat} {s0 s : State} {f : Fld} {x : Nat} {on : Bool} (hb : Has R f.reg.ctorIdx)
    (h : Does F R s0 s) : Does F R s0 (s.xbit f x on) := Does.wr _ _ _ _ hb h

theorem State.stale_does (s : State) (x : ℕ) (on : Bool) :
    Does 0x0 0x800000000000000000000000000000000 s (State.stale s x on) := by
  unfold State.stale
  refine Does.ite (fun _ => ?_) (fun _ => ?_)
  · refine State.xbit_doesF1 (by decide) ?_
    exact Does.refl ..
  · exact Does.refl ..

theorem State.xSample_does (s : State) (x : ℕ) (v : ℕ) :
    Does 0x8000000000000 0x800000000000000000000000000000000 s (State.xSample s x v) := by
  unfold State.xSample
  refine Does.ite (fun _ => ?_) (fun _ => ?_)
  · exact Does.refl ..
  · extract_lets +onlyGivenNames x0
    clear_value x0
    extract_lets +onlyGivenNames x1
    refine Does.via (x := x1) ?_ (fun _ => ?_)
    · subst x1
      refine Does.step (State.stale_does ..) (by decide) (by decide) ?_
      exact Does.refl ..
    clear_value x1
    refine Does.ite (fun _ => ?_) (fun _ => ?_)
    · refine Does.step (State.setXing_does ..) (by decide) (by decide) ?_
      assumption
    · extract_lets +onlyGivenNames x2
      clear_value x2
      extract_lets +onlyGivenNames x3
      refine Does.via (x := x3) ?_ (fun _ => ?_)
      · subst x3
        refine Does.step (State.setXing_does ..) (by decide) (by decide) ?_
        assumption
      clear_value x3
      refine Does.ite (fun _ => ?_) (fun _ => ?_)
      · refine State.xbit_doesF1 (by decide) ?_
        assumption
      · assumption

theorem State.xChange_does (s : State) (x : ℕ) (v : ℕ) :
    Does 0x8000000000000 0x800000000000000000000000000000000 s (State.xChange s x v) := by
  unfold State.xChange
  refine Does.ite (fun _ => ?_) (fun _ => ?_)
  · exact Does.refl ..
  · extract_lets +onlyGivenNames x0
    clear_value x0
    refine Does.ite (fun _ => ?_) (fun _ => ?_)
    · refine Does.ite (fun _ => ?_) (fun _ => ?_)
      · exact Does.refl ..
      · refine Does.step (State.stale_does ..) (by decide) (by decide) ?_
        refine Does.step (State.setXing_does ..) (by decide) (by decide) ?_
        exact Does.refl ..
    · refine Does.step (State.stale_does ..) (by decide) (by decide) ?_
      refine Does.step (State.setXing_does ..) (by decide) (by decide) ?_
      exact Does.refl ..

theorem State.xAck_does (s : State) (x : ℕ) :
    Does 0x8000000000000 0x800000000000000000000000000000000 s (State.xAck s x) := by
  unfold State.xAck
  extract_lets +onlyGivenNames x0
  clear_value x0
  extract_lets +onlyGivenNames x1
  clear_value x1
  refine Does.ite (fun _ => ?_) (fun _ => ?_)
  · refine Does.step (State.setXing_does ..) (by decide) (by decide) ?_
    exact Does.refl ..
  · refine Does.ite (fun _ => ?_) (fun _ => ?_)
    · refine Does.step (State.setXing_does ..) (by decide) (by decide) ?_
      exact Does.refl ..
    · refine Does.step (State.stale_does ..) (by decide) (by decide) ?_
      refine Does.step (State.setXing_does ..) (by decide) (by decide) ?_
      exact Does.refl ..

theorem State.xPulses_does (s : State) (x : ℕ) (n : ℕ) (c : ℕ) :
    Does 0x8000008000000 0x801800000000000000000000000000000000 s (State.xPulses s x n c) := by
  unfold State.xPulses
  refine Does.ite (fun _ => ?_) (fun _ => ?_)
  · exact Does.refl ..
  · extract_lets +onlyGivenNames x0
    clear_value x0
    extract_lets +onlyGivenNames x1
    clear_value x1
    extract_lets +onlyGivenNames x2
    clear_value x2
    extract_lets +onlyGivenNames x3
    clear_value x3
    extract_lets +onlyGivenNames x4
    refine Does.via (x := x4) ?_ (fun _ => ?_)
    · subst x4
      refine Does.step (State.setXing_does ..) (by decide) (by decide) ?_
      exact Does.refl ..
    clear_value x4
    refine Does.ite (fun _ => ?_) (fun _ => ?_)
    · assumption
    · extract_lets +onlyGivenNames x5
      refine Does.via (x := x5) ?_ (fun _ => ?_)
      · subst x5
        refine Does.bump _ _ _ _ (by decide) ?_
        refine State.xbit_doesF1 (by decide) ?_
        assumption
      clear_value x5
      refine Does.ite (fun _ => ?_) (fun _ => ?_)
      · assumption
      · extract_lets +onlyGivenNames x6
        clear_value x6
        extract_lets +onlyGivenNames x7
        refine Does.via (x := x7) ?_ (fun _ => ?_)
        · subst x7
          refine Does.upd_pmc _ (by decide) ?_
          assumption
        clear_value x7
        refine Does.ite (fun _ => ?_) (fun _ => ?_)
        · refine Does.wr _ _ _ _ (by decide) ?_
          assumption
        · assumption

theorem execCrossingTransfer_does (x : Fin 8) (ev : Xfer) (s : State) :
    DoesO 0x8000008000000 0x801800000000000000000000000000000000 s (execCrossingTransfer x ev s) := by
  unfold execCrossingTransfer
  refine DoesO.next ?_
  split
  · refine Does.step (State.xSample_does ..) (by decide) (by decide) ?_
    exact Does.refl ..
  · refine Does.step (State.xChange_does ..) (by decide) (by decide) ?_
    exact Does.refl ..
  · refine Does.step (State.xAck_does ..) (by decide) (by decide) ?_
    exact Does.refl ..
  · refine Does.step (State.xPulses_does ..) (by decide) (by decide) ?_
    exact Does.refl ..

theorem State.loseFifos_does (s : State) :
    Does 0x8000018 0x480000000000000000000000000000000000000000000000000000000000000 s (State.loseFifos s) := by
  unfold State.loseFifos
  refine Does.foldl (fun _ _ _ => ?_) ?_
  · refine Does.ite (fun _ => ?_) (fun _ => ?_)
    · assumption
    · extract_lets +onlyGivenNames x0
      refine Does.via (x := x0) ?_ (fun _ => ?_)
      · subst x0
        refine Does.foldl (fun _ _ _ => ?_) ?_
        · refine State.lose_doesF3 (by decide) (by decide) (by decide) ?_
          assumption
        · assumption
      clear_value x0
      refine Does.step (State.setPod_does ..) (by decide) (by decide) ?_
      assumption
  · exact Does.refl ..

theorem execCrossingFlush_does (x : Fin 8) (s : State) :
    DoesO 0x8000008000018 0x480000000000000000000000000001800000000000000000000000000000000 s (execCrossingFlush x s) := by
  unfold execCrossingFlush
  refine DoesO.next ?_
  extract_lets +onlyGivenNames x0
  clear_value x0
  extract_lets +onlyGivenNames x1
  clear_value x1
  extract_lets +onlyGivenNames x2
  refine Does.via (x := x2) ?_ (fun _ => ?_)
  · subst x2
    refine Does.ite (fun _ => ?_) (fun _ => ?_)
    · refine Does.bump _ _ _ _ (by decide) ?_
      refine State.xbit_doesF1 (by decide) ?_
      exact Does.refl ..
    · exact Does.refl ..
  clear_value x2
  extract_lets +onlyGivenNames x3
  refine Does.via (x := x3) ?_ (fun _ => ?_)
  · subst x3
    refine Does.step (State.stale_does ..) (by decide) (by decide) ?_
    refine State.xbit_doesF1 (by decide) ?_
    refine Does.step (State.setXing_does ..) (by decide) (by decide) ?_
    assumption
  clear_value x3
  refine Does.ite (fun _ => ?_) (fun _ => ?_)
  · refine Does.step (State.loseFifos_does ..) (by decide) (by decide) ?_
    assumption
  · assumption

theorem execShadowWriteApply_does (s : State) :
    DoesO 0x1ffbffffdfffffffff 0x7ffffffffffffffffffffffffffffffffffffffffffffffffffffffffffffffffff s (execShadowWriteApply s) := by
  unfold execShadowWriteApply
  refine DoesO.next ?_
  refine Does.step (State.applyShadow_does ..) (by decide) (by decide) ?_
  exact Does.refl ..

theorem execClkXmodeWrite_does (value : BitVec 32) (s : State) :
    DoesO 0x0 0x400000000000000000000000000000000 s (execClkXmodeWrite value s) := by
  unfold execClkXmodeWrite
  refine DoesO.next ?_
  refine Does.step (State.writeXmode_does ..) (by decide) (by decide) ?_
  exact Does.refl ..

end Sys2Proof.Machine
end

