-- ==== Sys2Proof/Laws/DoesFabRows.lean ====
section
/-! SUPPORT. What each operation and meaning of Machine/FabRows.lean may touch. -/

namespace Sys2Proof.Machine

open Sys2Proof

set_option linter.unusedVariables false

theorem execSignalDetect_does (port : PortId) (s : State) :
    DoesO 0x408800b800008 0x1000000220000000000000000000000 s (execSignalDetect port s) := by
  unfold execSignalDetect
  refine DoesO.next ?_
  refine Does.ite (fun _ => ?_) (fun _ => ?_)
  · refine Does.step (State.toTrain_does ..) (by decide) (by decide) ?_
    exact Does.refl ..
  · exact Does.refl ..

theorem State.startLatency_does (s : State) (p : ℕ) (depart : Stamp) :
    Does 0x408800b800008 0x1000000200000000000000000000000 s (State.startLatency s p depart) := by
  unfold State.startLatency
  extract_lets +onlyGivenNames x0
  refine Does.via (x := x0) ?_ (fun _ => ?_)
  · subst x0
    refine Does.step (State.setPortSt_does ..) (by decide) (by decide) ?_
    exact Does.refl ..
  clear_value x0
  refine Does.step (State.sendProbe_does ..) (by decide) (by decide) ?_
  refine Does.step (State.setPort_does ..) (by decide) (by decide) ?_
  assumption

theorem execTrainingDone_does (port : PortId) (working : BitVec 4) (peer : Peer) (depart : Stamp) (s : State) :
    DoesO 0x408800b800008 0x1000000220000000000000000000000 s (execTrainingDone port working peer depart s) := by
  unfold execTrainingDone
  extract_lets +onlyGivenNames x0
  clear_value x0
  extract_lets +onlyGivenNames x1
  clear_value x1
  extract_lets +onlyGivenNames x2
  clear_value x2
  refine DoesO.next ?_
  refine Does.ite (fun _ => ?_) (fun _ => ?_)
  · exact Does.refl ..
  · extract_lets +onlyGivenNames x3
    refine Does.via (x := x3) ?_ (fun _ => ?_)
    · subst x3
      refine Does.wr _ _ _ _ (by decide) ?_
      refine Does.wr _ _ _ _ (by decide) ?_
      refine Does.wr _ _ _ _ (by decide) ?_
      refine Does.wr _ _ _ _ (by decide) ?_
      exact Does.refl ..
    clear_value x3
    extract_lets +onlyGivenNames x4
    clear_value x4
    extract_lets +onlyGivenNames x5
    refine Does.via (x := x5) ?_ (fun _ => ?_)
    · subst x5
      refine Does.step (State.setPort_does ..) (by decide) (by decide) ?_
      assumption
    clear_value x5
    refine Does.ite (fun _ => ?_) (fun _ => ?_)
    · refine Does.step (State.toIdle_does ..) (by decide) (by decide) ?_
      assumption
    · refine Does.step (State.startLatency_does ..) (by decide) (by decide) ?_
      assumption

theorem execTrainingTimeout_does (port : PortId) (s : State) :
    DoesO 0x408800b800008 0x1000000220000000000000000000000 s (execTrainingTimeout port s) := by
  unfold execTrainingTimeout
  refine DoesO.next ?_
  refine Does.ite (fun _ => ?_) (fun _ => ?_)
  · refine Does.step (State.toIdle_does ..) (by decide) (by decide) ?_
    exact Does.refl ..
  · exact Does.refl ..

theorem execTrainingRetry_does (port : PortId) (s : State) :
    DoesO 0x80000000000 0x0 s (execTrainingRetry port s) := by
  unfold execTrainingRetry
  refine DoesO.next ?_
  refine Does.ite (fun _ => ?_) (fun _ => ?_)
  · refine Does.step (State.setPort_does ..) (by decide) (by decide) ?_
    exact Does.refl ..
  · exact Does.refl ..

theorem execLatencyMeasurement_does (port : PortId) (s : State) :
    DoesO 0x418800b800008 0x1000001620000000000000000000000 s (execLatencyMeasurement port s) := by
  unfold execLatencyMeasurement
  refine DoesO.next ?_
  refine Does.ite (fun _ => ?_) (fun _ => ?_)
  · refine Does.step (State.linkUp_does ..) (by decide) (by decide) ?_
    exact Does.refl ..
  · exact Does.refl ..

theorem execRetrain_does (port : PortId) (lockLost : Bool) (s : State) :
    DoesO 0x408800b800008 0x1000000220000000000000000000000 s (execRetrain port lockLost s) := by
  unfold execRetrain
  extract_lets +onlyGivenNames x0
  clear_value x0
  extract_lets +onlyGivenNames x1
  clear_value x1
  refine DoesO.next ?_
  refine Does.ite (fun _ => ?_) (fun _ => ?_)
  · refine Does.step (State.toTrain_does ..) (by decide) (by decide) ?_
    refine Does.step (State.setPort_does ..) (by decide) (by decide) ?_
    exact Does.refl ..
  · exact Does.refl ..

theorem execPortRetrain_does (port : PortId) (s : State) :
    DoesO 0x408800b800008 0x1000000220000000000000000000000 s (execPortRetrain port s) := by
  unfold execPortRetrain
  refine DoesO.next ?_
  refine Does.step (State.retrainPort_does ..) (by decide) (by decide) ?_
  exact Does.refl ..

theorem execPortUnfence_does (port : PortId) (s : State) :
    DoesO 0x408800b800008 0x1000000220000000000000000000000 s (execPortUnfence port s) := by
  unfold execPortUnfence
  refine DoesO.next ?_
  refine Does.step (State.unfencePort_does ..) (by decide) (by decide) ?_
  exact Does.refl ..

theorem execDisable_does (port : PortId) (on : Bool) (s : State) :
    DoesO 0x408800b800008 0x1000000320000000000000000000000 s (execDisable port on s) := by
  unfold execDisable
  refine DoesO.next ?_
  refine Does.step (State.disablePort_does ..) (by decide) (by decide) ?_
  exact Does.refl ..

theorem execFabPasymWrite_does (port : PortId) (value : BitVec 16) (s : State) :
    DoesO 0x0 0xc00000000000000000000000 s (execFabPasymWrite port value s) := by
  unfold execFabPasymWrite
  refine DoesO.next ?_
  refine Does.step (State.writePasym_does ..) (by decide) (by decide) ?_
  exact Does.refl ..

theorem execLmeas_does (port : PortId) (flit : Flit) (arrive : Stamp) (depart : Stamp) (s : State) :
    DoesO 0x408800b800008 0x1000000000000000000000000 s (execLmeas port flit arrive depart s) := by
  unfold execLmeas
  extract_lets +onlyGivenNames x0
  clear_value x0
  refine DoesO.next ?_
  refine Does.ite (fun _ => ?_) (fun _ => ?_)
  · exact Does.refl ..
  · extract_lets +onlyGivenNames x1
    refine Does.via (x := x1) ?_ (fun _ => ?_)
    · subst x1
      refine Does.step (State.flitIn_does ..) (by decide) (by decide) ?_
      exact Does.refl ..
    clear_value x1
    refine Does.ite (fun _ => ?_) (fun _ => ?_)
    · refine Does.step (State.crcError_does ..) (by decide) (by decide) ?_
      assumption
    · refine Does.ite (fun _ => ?_) (fun _ => ?_)
      · refine Does.step (State.sendLmeas_does ..) (by decide) (by decide) ?_
        assumption
      · refine Does.ite (fun _ => ?_) (fun _ => ?_)
        · refine Does.step (State.takeReply_does ..) (by decide) (by decide) ?_
          assumption
        · assumption

theorem State.takeFields_does (s : State) (p : ℕ) (f : Flit) :
    Does 0x88008000000 0x1000000000000000000000000 s (State.takeFields s p f) := by
  unfold State.takeFields
  extract_lets +onlyGivenNames x0
  refine Does.via (x := x0) ?_ (fun _ => ?_)
  · subst x0
    refine Does.step (State.takeAck_does ..) (by decide) (by decide) ?_
    exact Does.refl ..
  clear_value x0
  refine Does.ite (fun _ => ?_) (fun _ => ?_)
  · refine Does.step (State.replayAll_does ..) (by decide) (by decide) ?_
    assumption
  · assumption

theorem execNak_does (port : PortId) (flit : Flit) (s : State) :
    DoesO 0x408800b800008 0x1000000000000000000000000 s (execNak port flit s) := by
  unfold execNak
  extract_lets +onlyGivenNames x0
  clear_value x0
  refine DoesO.next ?_
  refine Does.ite (fun _ => ?_) (fun _ => ?_)
  · exact Does.refl ..
  · extract_lets +onlyGivenNames x1
    refine Does.via (x := x1) ?_ (fun _ => ?_)
    · subst x1
      refine Does.step (State.flitIn_does ..) (by decide) (by decide) ?_
      exact Does.refl ..
    clear_value x1
    refine Does.ite (fun _ => ?_) (fun _ => ?_)
    · refine Does.step (State.takeFields_does ..) (by decide) (by decide) ?_
      assumption
    · refine Does.step (State.crcError_does ..) (by decide) (by decide) ?_
      assumption

theorem execIdleFlit_does (port : PortId) (flit : Flit) (s : State) :
    DoesO 0x408800b800008 0x1000000000000000000000000 s (execIdleFlit port flit s) := by
  unfold execIdleFlit
  extract_lets +onlyGivenNames x0
  clear_value x0
  refine DoesO.next ?_
  refine Does.ite (fun _ => ?_) (fun _ => ?_)
  · exact Does.refl ..
  · extract_lets +onlyGivenNames x1
    refine Does.via (x := x1) ?_ (fun _ => ?_)
    · subst x1
      refine Does.step (State.flitIn_does ..) (by decide) (by decide) ?_
      exact Does.refl ..
    clear_value x1
    refine Does.ite (fun _ => ?_) (fun _ => ?_)
    · refine Does.step (State.takeFields_does ..) (by decide) (by decide) ?_
      assumption
    · refine Does.step (State.crcError_does ..) (by decide) (by decide) ?_
      assumption

theorem execRoutedFlit_does (port : PortId) (flit : Flit) (s : State) :
    DoesO 0x418800b800008 0x1020000000000000000000000 s (execRoutedFlit port flit s) := by
  unfold execRoutedFlit
  extract_lets +onlyGivenNames x0
  clear_value x0
  refine DoesO.next ?_
  refine Does.ite (fun _ => ?_) (fun _ => ?_)
  · exact Does.refl ..
  · refine Does.ite (fun _ => ?_) (fun _ => ?_)
    · refine Does.upd_fab _ (by decide) ?_
      exact Does.refl ..
    · refine Does.ite (fun _ => ?_) (fun _ => ?_)
      · exact Does.refl ..
      · extract_lets +onlyGivenNames x1
        refine Does.via (x := x1) ?_ (fun _ => ?_)
        · subst x1
          refine Does.step (State.flitIn_does ..) (by decide) (by decide) ?_
          exact Does.refl ..
        clear_value x1
        refine Does.ite (fun _ => ?_) (fun _ => ?_)
        · refine Does.step (State.sendNak_does ..) (by decide) (by decide) ?_
          refine Does.step (State.crcError_does ..) (by decide) (by decide) ?_
          assumption
        · refine Does.step (State.sequenced_does ..) (by decide) (by decide) ?_
          refine Does.step (State.takeFields_does ..) (by decide) (by decide) ?_
          assumption

theorem execPacketDrop_does (port : PortId) (s : State) :
    DoesO 0x80009800008 0x20000000000000000000000 s (execPacketDrop port s) := by
  unfold execPacketDrop
  extract_lets +onlyGivenNames x0
  clear_value x0
  extract_lets +onlyGivenNames x1
  clear_value x1
  extract_lets +onlyGivenNames x2
  clear_value x2
  refine DoesO.next ?_
  refine Does.ite (fun _ => ?_) (fun _ => ?_)
  · exact Does.refl ..
  · refine Does.foldl (fun _ _ _ => ?_) ?_
    · refine Does.step (State.dropPacket_does ..) (by decide) (by decide) ?_
      assumption
    · refine Does.step (State.setPort_does ..) (by decide) (by decide) ?_
      exact Does.refl ..

theorem execProbe_does (s : State) :
    DoesO 0x188009800008 0x20000000000000000000000 s (execProbe s) := by
  unfold execProbe
  refine DoesO.next ?_
  split
  · exact Does.refl ..
  · extract_lets +onlyGivenNames x0
    clear_value x0
    extract_lets +onlyGivenNames x1
    clear_value x1
    refine Does.step (State.sendDisc_does ..) (by decide) (by decide) ?_
    refine Does.step (State.takeIn_does (by assumption)) (by decide) (by decide) ?_
    exact Does.refl ..

theorem execReply_does (s : State) :
    DoesO 0x418800b800008 0x100000002ff00000000000000000002 s (execReply s) := by
  unfold execReply
  refine DoesO.next ?_
  split
  · exact Does.refl ..
  · refine Does.ite (fun _ => ?_) (fun _ => ?_)
    · refine Does.step (State.takeIn_does (by assumption)) (by decide) (by decide) ?_
      exact Does.refl ..
    · split
      · refine Does.step (State.takeIn_does (by assumption)) (by decide) (by decide) ?_
        exact Does.refl ..
      · extract_lets +onlyGivenNames x0
        clear_value x0
        extract_lets +onlyGivenNames x1
        clear_value x1
        refine Does.ite (fun _ => ?_) (fun _ => ?_)
        · refine Does.step (State.takeIn_does (by assumption)) (by decide) (by decide) ?_
          exact Does.refl ..
        · split
          · refine Does.step (State.rejoined_does ..) (by decide) (by decide) ?_
            refine Does.step (State.takeIn_does (by assumption)) (by decide) (by decide) ?_
            exact Does.refl ..
          · refine Does.step (State.discReply_does ..) (by decide) (by decide) ?_
            refine Does.step (State.takeIn_does (by assumption)) (by decide) (by decide) ?_
            exact Does.refl ..

theorem execAssign_does (s : State) :
    DoesO 0x100000000000 0x40000000000000000002 s (execAssign s) := by
  unfold execAssign
  refine DoesO.next ?_
  split
  · exact Does.refl ..
  · refine Does.ite (fun _ => ?_) (fun _ => ?_)
    · refine Does.step (State.takeIn_does (by assumption)) (by decide) (by decide) ?_
      exact Does.refl ..
    · extract_lets +onlyGivenNames x0
      clear_value x0
      extract_lets +onlyGivenNames x1
      refine Does.via (x := x1) ?_ (fun _ => ?_)
      · subst x1
        refine Does.wr _ _ _ _ (by decide) ?_
        refine Does.wr _ _ _ _ (by decide) ?_
        refine Does.wr _ _ _ _ (by decide) ?_
        refine Does.step (State.takeIn_does (by assumption)) (by decide) (by decide) ?_
        exact Does.refl ..
      clear_value x1
      extract_lets +onlyGivenNames x2
      refine Does.via (x := x2) ?_ (fun _ => ?_)
      · subst x2
        refine Does.wr _ _ _ _ (by decide) ?_
        refine Does.wr _ _ _ _ (by decide) ?_
        refine Does.wr _ _ _ _ (by decide) ?_
        assumption
      clear_value x2
      refine Does.upd_fab _ (by decide) ?_
      assumption

theorem execDiscovery_does (s : State) :
    DoesO 0x418800b800008 0x2ff00000000000000000002 s (execDiscovery s) := by
  unfold execDiscovery
  refine DoesO.next ?_
  refine Does.ite (fun _ => ?_) (fun _ => ?_)
  · exact Does.refl ..
  · refine Does.ite (fun _ => ?_) (fun _ => ?_)
    · split
      · exact Does.refl ..
      · refine Does.ite (fun _ => ?_) (fun _ => ?_)
        · refine Does.step (State.probeTimeout_does ..) (by decide) (by decide) ?_
          exact Does.refl ..
        · exact Does.refl ..
    · refine Does.ite (fun _ => ?_) (fun _ => ?_)
      · refine Does.step (State.beginDisc_does ..) (by decide) (by decide) ?_
        exact Does.refl ..
      · exact Does.refl ..

theorem execStart_does (s : State) :
    DoesO 0x418800b800008 0x2ff00000000000000000002 s (execStart s) := by
  unfold execStart
  refine DoesO.next ?_
  refine Does.step (State.startDisc_does ..) (by decide) (by decide) ?_
  exact Does.refl ..

theorem execFabFence_does (dev : Fin 64) (s : State) :
    DoesO 0x418800b800008 0x23100000000000000000000 s (execFabFence dev s) := by
  unfold execFabFence
  refine DoesO.next ?_
  refine Does.step (State.fenceDev_does ..) (by decide) (by decide) ?_
  exact Does.refl ..

theorem execRejoin_does (dev : Fin 64) (s : State) :
    DoesO 0x188009800008 0x20100000000000000000000 s (execRejoin dev s) := by
  unfold execRejoin
  refine DoesO.next ?_
  refine Does.step (State.rejoinDev_does ..) (by decide) (by decide) ?_
  exact Does.refl ..

theorem execRegRd_does (s : State) :
    DoesO 0x1ffbffffdfffffffff 0x7ffffffffffffffffffffffffffffffffffffffffffffffffffffffffffffffffff s (execRegRd s) := by
  unfold execRegRd
  refine DoesO.next ?_
  split
  · exact Does.refl ..
  · extract_lets +onlyGivenNames x0
    extract_lets +onlyGivenNames x1
    clear_value x1
    refine Does.ite (fun _ => ?_) (fun _ => ?_)
    · refine Does.step (State.takeIn_does (by assumption)) (by decide) (by decide) ?_
      exact Does.refl ..
    · refine Does.ite (fun _ => ?_) (fun _ => ?_)
      · refine Does.step (State.answer_does ..) (by decide) (by decide) ?_
        refine Does.step (State.takeIn_does (by assumption)) (by decide) (by decide) ?_
        exact Does.refl ..
      · refine Does.step (State.access_does ..) (by decide) (by decide) ?_
        refine Does.step (State.takeIn_does (by assumption)) (by decide) (by decide) ?_
        exact Does.refl ..

theorem execRegWr_does (s : State) :
    DoesO 0x1ffbffffdfffffffff 0x7ffffffffffffffffffffffffffffffffffffffffffffffffffffffffffffffffff s (execRegWr s) := by
  unfold execRegWr
  refine DoesO.next ?_
  split
  · exact Does.refl ..
  · extract_lets +onlyGivenNames x0
    refine Does.ite (fun _ => ?_) (fun _ => ?_)
    · refine Does.step (State.takeIn_does (by assumption)) (by decide) (by decide) ?_
      exact Does.refl ..
    · refine Does.step (State.access_does ..) (by decide) (by decide) ?_
      refine Does.step (State.takeIn_does (by assumption)) (by decide) (by decide) ?_
      exact Does.refl ..

theorem execRegCpl_does (s : State) :
    DoesO 0x188009800008 0x20000000000000000000000 s (execRegCpl s) := by
  unfold execRegCpl
  refine DoesO.next ?_
  split
  · exact Does.refl ..
  · refine Does.ite (fun _ => ?_) (fun _ => ?_)
    · refine Does.step (State.takeIn_does (by assumption)) (by decide) (by decide) ?_
      exact Does.refl ..
    · refine Does.step (State.endRead_does ..) (by decide) (by decide) ?_
      refine Does.step (State.takeIn_does (by assumption)) (by decide) (by decide) ?_
      exact Does.refl ..

theorem execRelayedReadTimeout_does (dev : Fin 64) (tag : BitVec 8) (s : State) :
    DoesO 0x418800b800008 0x20000000000000000000000 s (execRelayedReadTimeout dev tag s) := by
  unfold execRelayedReadTimeout
  refine DoesO.next ?_
  split
  · exact Does.refl ..
  · refine Does.ite (fun _ => ?_) (fun _ => ?_)
    · exact Does.refl ..
    · refine Does.step (State.detect_does ..) (by decide) (by decide) ?_
      refine Does.step (State.endRead_does ..) (by decide) (by decide) ?_
      exact Does.refl ..

theorem execDoorbell_does (s : State) :
    DoesO 0x80001000c9800008 0x820000000000 s (execDoorbell s) := by
  unfold execDoorbell
  refine DoesO.next ?_
  split
  · exact Does.refl ..
  · refine Does.ite (fun _ => ?_) (fun _ => ?_)
    · refine Does.step (State.takeIn_does (by assumption)) (by decide) (by decide) ?_
      exact Does.refl ..
    · refine Does.step (State.ring_does ..) (by decide) (by decide) ?_
      refine Does.step (State.takeIn_does (by assumption)) (by decide) (by decide) ?_
      exact Does.refl ..

theorem execIrq_does (s : State) :
    DoesO 0x108000000000 0x2000000000000 s (execIrq s) := by
  unfold execIrq
  refine DoesO.next ?_
  split
  · exact Does.refl ..
  · refine Does.ite (fun _ => ?_) (fun _ => ?_)
    · refine Does.step (State.msix_does ..) (by decide) (by decide) ?_
      refine Does.step (State.takeIn_does (by assumption)) (by decide) (by decide) ?_
      exact Does.refl ..
    · refine Does.step (State.takeIn_does (by assumption)) (by decide) (by decide) ?_
      exact Does.refl ..

theorem execDmaRd_does (s : State) :
    DoesO 0x108000000000 0x0 s (execDmaRd s) := by
  unfold execDmaRd
  refine DoesO.next ?_
  refine Does.ite (fun _ => ?_) (fun _ => ?_)
  · exact Does.refl ..
  · split
    · exact Does.refl ..
    · refine Does.ite (fun _ => ?_) (fun _ => ?_)
      · refine Does.step (State.takeIn_does (by assumption)) (by decide) (by decide) ?_
        exact Does.refl ..
      · extract_lets +onlyGivenNames x0
        clear_value x0
        extract_lets +onlyGivenNames x1
        clear_value x1
        refine Does.upd_out_fab _ _ (by decide) (by decide) ?_
        refine Does.step (State.takeIn_does (by assumption)) (by decide) (by decide) ?_
        exact Does.refl ..

theorem execDmaWr_does (s : State) :
    DoesO 0x108000000000 0x0 s (execDmaWr s) := by
  unfold execDmaWr
  refine DoesO.next ?_
  refine Does.ite (fun _ => ?_) (fun _ => ?_)
  · exact Does.refl ..
  · split
    · exact Does.refl ..
    · refine Does.ite (fun _ => ?_) (fun _ => ?_)
      · refine Does.step (State.takeIn_does (by assumption)) (by decide) (by decide) ?_
        exact Does.refl ..
      · refine Does.upd_out _ (by decide) ?_
        refine Does.step (State.takeIn_does (by assumption)) (by decide) (by decide) ?_
        exact Does.refl ..

theorem State.takeCpl_does (s : State) (f : Flit) :
    Does 0x100040000000 0x10000000000 s (State.takeCpl s f) := by
  unfold State.takeCpl
  extract_lets +onlyGivenNames x0
  clear_value x0
  split
  · exact Does.refl ..
  · extract_lets +onlyGivenNames x1
    clear_value x1
    extract_lets +onlyGivenNames x2
    clear_value x2
    refine Does.ite (fun _ => ?_) (fun _ => ?_)
    · refine Does.step (State.hostData_does ..) (by decide) (by decide) ?_
      refine Does.upd_fab _ (by decide) ?_
      exact Does.refl ..
    · refine Does.ite (fun _ => ?_) (fun _ => ?_)
      · refine Does.step (State.hostData_does ..) (by decide) (by decide) ?_
        refine Does.upd_fab _ (by decide) ?_
        exact Does.refl ..
      · refine Does.upd_fab _ (by decide) ?_
        exact Does.refl ..

theorem execDmaCpl_does (s : State) :
    DoesO 0x100040000000 0x10000000000 s (execDmaCpl s) := by
  unfold execDmaCpl
  refine DoesO.next ?_
  split
  · exact Does.refl ..
  · refine Does.ite (fun _ => ?_) (fun _ => ?_)
    · refine Does.step (State.takeIn_does (by assumption)) (by decide) (by decide) ?_
      exact Does.refl ..
    · refine Does.step (State.takeCpl_does ..) (by decide) (by decide) ?_
      refine Does.step (State.takeIn_does (by assumption)) (by decide) (by decide) ?_
      exact Does.refl ..

theorem execDmaTimeout_does (dev : Fin 64) (tag : BitVec 8) (s : State) :
    DoesO 0x188009800008 0x20000000000000000000000 s (execDmaTimeout dev tag s) := by
  unfold execDmaTimeout
  refine DoesO.next ?_
  split
  · exact Does.refl ..
  · refine Does.ite (fun _ => ?_) (fun _ => ?_)
    · exact Does.refl ..
    · refine Does.step (State.returnDma_does ..) (by decide) (by decide) ?_
      exact Does.refl ..

theorem State.notIsolated_does (s : State) :
    Does 0x4000000000000 0x1000000000040000000000000000000 s (State.notIsolated s) := by
  unfold State.notIsolated
  refine Does.ite (fun _ => ?_) (fun _ => ?_)
  · refine Does.step (State.endLive_does ..) (by decide) (by decide) ?_
    refine Does.wr _ _ _ _ (by decide) ?_
    exact Does.refl ..
  · exact Does.refl ..

theorem execHeartbeat_does (s : State) :
    DoesO 0x4188009800008 0x1000000020040000000000000000000 s (execHeartbeat s) := by
  unfold execHeartbeat
  refine DoesO.next ?_
  split
  · exact Does.refl ..
  · refine Does.ite (fun _ => ?_) (fun _ => ?_)
    · refine Does.step (State.takeIn_does (by assumption)) (by decide) (by decide) ?_
      exact Does.refl ..
    · extract_lets +onlyGivenNames x0
      refine Does.via (x := x0) ?_ (fun _ => ?_)
      · subst x0
        refine Does.step (State.notIsolated_does ..) (by decide) (by decide) ?_
        refine Does.step (State.takeIn_does (by assumption)) (by decide) (by decide) ?_
        exact Does.refl ..
      clear_value x0
      refine Does.step (State.sendCtrl_does ..) (by decide) (by decide) ?_
      refine Does.upd_fab _ (by decide) ?_
      assumption

theorem execHbReply_does (s : State) :
    DoesO 0x100000000000 0x0 s (execHbReply s) := by
  unfold execHbReply
  refine DoesO.next ?_
  split
  · exact Does.refl ..
  · refine Does.ite (fun _ => ?_) (fun _ => ?_)
    · refine Does.step (State.takeIn_does (by assumption)) (by decide) (by decide) ?_
      exact Does.refl ..
    · split
      · refine Does.step (State.takeIn_does (by assumption)) (by decide) (by decide) ?_
        exact Does.refl ..
      · refine Does.step (State.setMember_does ..) (by decide) (by decide) ?_
        refine Does.step (State.takeIn_does (by assumption)) (by decide) (by decide) ?_
        exact Does.refl ..

theorem execHeartbeatSend_does (s : State) :
    DoesO 0x188009800008 0x20000000000000000000000 s (execHeartbeatSend s) := by
  unfold execHeartbeatSend
  refine DoesO.next ?_
  refine Does.ite (fun _ => ?_) (fun _ => ?_)
  · exact Does.refl ..
  · extract_lets +onlyGivenNames x0
    clear_value x0
    extract_lets +onlyGivenNames x1
    refine Does.via (x := x1) ?_ (fun _ => ?_)
    · subst x1
      refine Does.foldl (fun _ _ _ => ?_) ?_
      · refine Does.step (State.sendCtrl_does ..) (by decide) (by decide) ?_
        split
        · refine Does.step (State.setMember_does ..) (by decide) (by decide) ?_
          assumption
        · assumption
      · exact Does.refl ..
    clear_value x1
    refine Does.upd_fab _ (by decide) ?_
    assumption

theorem execFabricRst_does (s : State) :
    DoesO 0x1ff3ffff5fffffffff 0x7ffffffffffffffffffffffffffffffffffffffffffffffffffffffffffffffffff s (execFabricRst s) := by
  unfold execFabricRst
  refine DoesO.next ?_
  split
  · exact Does.refl ..
  · refine Does.ite (fun _ => ?_) (fun _ => ?_)
    · refine Does.step (State.takeIn_does (by assumption)) (by decide) (by decide) ?_
      exact Does.refl ..
    · refine Does.step (State.assertSrc_does ..) (by decide) (by decide) ?_
      refine Does.step (State.notIsolated_does ..) (by decide) (by decide) ?_
      refine Does.step (State.takeIn_does (by assumption)) (by decide) (by decide) ?_
      exact Does.refl ..

theorem execMaster_does (s : State) :
    DoesO 0x41c1002000000 0x40000000000000300002 s (execMaster s) := by
  unfold execMaster
  refine DoesO.next ?_
  split
  · exact Does.refl ..
  · refine Does.ite (fun _ => ?_) (fun _ => ?_)
    · refine Does.step (State.takeIn_does (by assumption)) (by decide) (by decide) ?_
      exact Does.refl ..
    · refine Does.step (State.newMaster_does ..) (by decide) (by decide) ?_
      refine Does.step (State.takeIn_does (by assumption)) (by decide) (by decide) ?_
      exact Does.refl ..

theorem execSleep_does (s : State) :
    DoesO 0x100000000000 0x0 s (execSleep s) := by
  unfold execSleep
  refine DoesO.next ?_
  split
  · exact Does.refl ..
  · refine Does.ite (fun _ => ?_) (fun _ => ?_)
    · refine Does.step (State.takeIn_does (by assumption)) (by decide) (by decide) ?_
      exact Does.refl ..
    · refine Does.upd_fab _ (by decide) ?_
      refine Does.step (State.takeIn_does (by assumption)) (by decide) (by decide) ?_
      exact Does.refl ..

theorem execWake_does (s : State) :
    DoesO 0x8000188009800008 0x20000000000000000000000 s (execWake s) := by
  unfold execWake
  refine DoesO.next ?_
  split
  · exact Does.refl ..
  · extract_lets +onlyGivenNames x0
    refine Does.via (x := x0) ?_ (fun _ => ?_)
    · subst x0
      refine Does.step (State.askWake_does ..) (by decide) (by decide) ?_
      refine Does.step (State.takeIn_does (by assumption)) (by decide) (by decide) ?_
      exact Does.refl ..
    clear_value x0
    refine Does.ite (fun _ => ?_) (fun _ => ?_)
    · assumption
    · extract_lets +onlyGivenNames x1
      clear_value x1
      refine Does.foldl (fun _ _ _ => ?_) ?_
      · refine Does.step (State.sendWakes_does ..) (by decide) (by decide) ?_
        assumption
      · refine Does.upd_fab _ (by decide) ?_
        assumption

theorem State.takeHeld_does (s : State) (d : ℕ) (a2 : ℕ) :
    Does 0x100000000000 0x0 s (State.takeHeld s d a2) := by
  induction' a2 with n ih generalizing s d
  · unfold State.takeHeld
    exact Does.refl ..
  · unfold State.takeHeld
    extract_lets +onlyGivenNames x0
    clear_value x0
    extract_lets +onlyGivenNames x1
    clear_value x1
    extract_lets +onlyGivenNames x2
    clear_value x2
    split
    · exact Does.refl ..
    · extract_lets +onlyGivenNames x3
      clear_value x3
      extract_lets +onlyGivenNames x4
      refine Does.via (x := x4) ?_ (fun _ => ?_)
      · subst x4
        refine Does.upd_fab _ (by decide) ?_
        exact Does.refl ..
      clear_value x4
      refine Does.step (ih ..) (Sub.refl _) (Sub.refl _) ?_
      assumption

theorem execPseqGap_does (dev : Fin 64) (s : State) :
    DoesO 0x4108002000000 0x3040000000000000000000 s (execPseqGap dev s) := by
  unfold execPseqGap
  extract_lets +onlyGivenNames x0
  clear_value x0
  refine DoesO.next ?_
  split
  · exact Does.refl ..
  · refine Does.ite (fun _ => ?_) (fun _ => ?_)
    · exact Does.refl ..
    · refine Does.ite (fun _ => ?_) (fun _ => ?_)
      · refine Does.step (State.declareLost_does ..) (by decide) (by decide) ?_
        exact Does.refl ..
      · extract_lets +onlyGivenNames x1
        refine Does.via (x := x1) ?_ (fun _ => ?_)
        · subst x1
          refine Does.step (State.takeHeld_does ..) (by decide) (by decide) ?_
          exact Does.refl ..
        clear_value x1
        extract_lets +onlyGivenNames x2
        clear_value x2
        extract_lets +onlyGivenNames x3
        refine Does.via (x := x3) ?_ (fun _ => ?_)
        · subst x3
          refine Does.upd_fab _ (by decide) ?_
          assumption
        clear_value x3
        refine Does.step (State.detect_does ..) (by decide) (by decide) ?_
        refine Does.wr _ _ _ _ (by decide) ?_
        assumption

theorem execMemberLost_does (dev : Fin 64) (rings : List (QpId × BitVec 16 × Bool)) (s : State) :
    DoesO 0x4108002000000 0x3000000000000000000000 s (execMemberLost dev rings s) := by
  unfold execMemberLost
  extract_lets +onlyGivenNames x0
  clear_value x0
  refine DoesO.next ?_
  refine Does.ite (fun _ => ?_) (fun _ => ?_)
  · exact Does.refl ..
  · extract_lets +onlyGivenNames x1
    refine Does.via (x := x1) ?_ (fun _ => ?_)
    · subst x1
      split
      · refine Does.ite (fun _ => ?_) (fun _ => ?_)
        · refine Does.step (State.declareLost_does ..) (by decide) (by decide) ?_
          exact Does.refl ..
        · exact Does.refl ..
      · exact Does.refl ..
    clear_value x1
    refine Does.ite (fun _ => ?_) (fun _ => ?_)
    · assumption
    · refine Does.upd_out_fab _ _ (by decide) (by decide) ?_
      assumption

theorem execIsolated_does (s : State) :
    DoesO 0x4100002000000 0x40000000000000000000 s (execIsolated s) := by
  unfold execIsolated
  refine DoesO.next ?_
  refine Does.ite (fun _ => ?_) (fun _ => ?_)
  · exact Does.refl ..
  · refine Does.step (State.detect_does ..) (by decide) (by decide) ?_
    extract_lets +onlyGivenNames x0
    refine Does.via (x := x0) ?_ (fun _ => ?_)
    · subst x0
      refine Does.wr _ _ _ _ (by decide) ?_
      exact Does.refl ..
    clear_value x0
    refine Does.upd_fab _ (by decide) ?_
    assumption

theorem execIsotmo_does (s : State) :
    DoesO 0x19c03cf8 0x48000000a00200074120088040743c0008000000000000000000000000000000000 s (execIsotmo s) := by
  unfold execIsotmo
  extract_lets +onlyGivenNames x0
  clear_value x0
  refine DoesO.next ?_
  refine Does.ite (fun _ => ?_) (fun _ => ?_)
  · exact Does.refl ..
  · refine Does.foldl (fun _ _ _ => ?_) ?_
    · refine Does.step (State.faultHusk_does ..) (by decide) (by decide) ?_
      assumption
    · exact Does.refl ..

end Sys2Proof.Machine
end

