-- ==== Sys2Proof/Laws/DoesSvpRows.lean ====
section
/-! SUPPORT. What each operation and meaning of Machine/SvpRows.lean may touch. -/

namespace Sys2Proof.Machine

open Sys2Proof

set_option linter.unusedVariables false

theorem execSvpMtx_does (value : BitVec 32) (s : State) :
    DoesO 0x40008000000000 0x200000000000000000000000000000000 s (execSvpMtx value s) := by
  unfold execSvpMtx
  refine DoesO.next ?_
  refine Does.step (State.writeSvpMtx_does ..) (by decide) (by decide) ?_
  exact Does.refl ..

theorem execSvpRelease_does (s : State) :
    DoesO 0x40000000000000 0x200000000000000000000000000000000 s (execSvpRelease s) := by
  unfold execSvpRelease
  refine DoesO.next ?_
  refine Does.step (State.svpRelease_does ..) (by decide) (by decide) ?_
  exact Does.refl ..

theorem execMasterWordEnd_does (miso : BitVec 32) (s : State) :
    DoesO 0x40000009800008 0x100000000000000000000000000000000 s (execMasterWordEnd miso s) := by
  unfold execMasterWordEnd
  refine DoesO.next ?_
  refine Does.ite (fun _ => ?_) (fun _ => ?_)
  · exact Does.refl ..
  · extract_lets +onlyGivenNames x0
    refine Does.via (x := x0) ?_ (fun _ => ?_)
    · subst x0
      refine Does.wr _ _ _ _ (by decide) ?_
      exact Does.refl ..
    clear_value x0
    extract_lets +onlyGivenNames x1
    clear_value x1
    extract_lets +onlyGivenNames x2
    clear_value x2
    extract_lets +onlyGivenNames x3
    refine Does.via (x := x3) ?_ (fun _ => ?_)
    · subst x3
      refine Does.upd_svp _ (by decide) ?_
      assumption
    clear_value x3
    refine Does.ite (fun _ => ?_) (fun _ => ?_)
    · refine Does.step (State.svpEvent_does ..) (by decide) (by decide) ?_
      assumption
    · assumption

theorem State.svpSlot_does (s : State) (word : ℕ) :
    Does 0x8000000000 0x0 s (State.svpSlot s word) := by
  unfold State.svpSlot
  refine Does.upd_out _ (by decide) ?_
  exact Does.refl ..

theorem State.svpStatus_does (s : State) (code : ℕ) :
    Does 0x8000000000 0x0 s (State.svpStatus s code) := by
  unfold State.svpStatus
  refine Does.step (State.svpSlot_does ..) (by decide) (by decide) ?_
  exact Does.refl ..

theorem execCommandWord_does (word : BitVec 32) (s : State) :
    DoesO 0x8040008009800008 0x200000000000000000000000000000000 s (execCommandWord word s) := by
  unfold execCommandWord
  extract_lets +onlyGivenNames x0
  clear_value x0
  extract_lets +onlyGivenNames x1
  clear_value x1
  refine DoesO.next ?_
  refine Does.ite (fun _ => ?_) (fun _ => ?_)
  · exact Does.refl ..
  · extract_lets +onlyGivenNames x2
    refine Does.via (x := x2) ?_ (fun _ => ?_)
    · subst x2
      refine Does.ite (fun _ => ?_) (fun _ => ?_)
      · refine Does.step (State.askWake_does ..) (by decide) (by decide) ?_
        exact Does.refl ..
      · exact Does.refl ..
    clear_value x2
    extract_lets +onlyGivenNames x3
    refine Does.via (x := x3) ?_ (fun _ => ?_)
    · subst x3
      refine Does.step (State.svpStatus_does ..) (by decide) (by decide) ?_
      refine Does.wr _ _ _ _ (by decide) ?_
      assumption
    clear_value x3
    extract_lets +onlyGivenNames x4
    clear_value x4
    extract_lets +onlyGivenNames x5
    clear_value x5
    refine Does.ite (fun _ => ?_) (fun _ => ?_)
    · refine Does.step (State.svpEvent_does ..) (by decide) (by decide) ?_
      refine Does.wr _ _ _ _ (by decide) ?_
      refine Does.upd_svp _ (by decide) ?_
      assumption
    · refine Does.upd_svp _ (by decide) ?_
      assumption

theorem State.svpAdvance_does (s : State) (phase : Slave) :
    Does 0x40000009800008 0x200000000000000000000000000000000 s (State.svpAdvance s phase) := by
  unfold State.svpAdvance
  extract_lets +onlyGivenNames x0
  refine Does.via (x := x0) ?_ (fun _ => ?_)
  · subst x0
    refine Does.wr _ _ _ _ (by decide) ?_
    exact Does.refl ..
  clear_value x0
  extract_lets +onlyGivenNames x1
  clear_value x1
  extract_lets +onlyGivenNames x2
  clear_value x2
  refine Does.ite (fun _ => ?_) (fun _ => ?_)
  · refine Does.upd_svp _ (by decide) ?_
    assumption
  · refine Does.ite (fun _ => ?_) (fun _ => ?_)
    · refine Does.upd_svp _ (by decide) ?_
      assumption
    · refine Does.step (State.svpEvent_does ..) (by decide) (by decide) ?_
      refine Does.wr _ _ _ _ (by decide) ?_
      refine Does.upd_svp _ (by decide) ?_
      assumption

theorem State.svpStart_does (s : State) :
    Does 0x1ffbffffdfffffffff 0x7ffffffffffffffffffffffffffffffffffffffffffffffffffffffffffffffffff s (State.svpStart s) := by
  unfold State.svpStart
  refine Does.ite (fun _ => ?_) (fun _ => ?_)
  · exact Does.refl ..
  · refine Does.step (State.access_does ..) (by decide) (by decide) ?_
    refine Does.upd_svp _ (by decide) ?_
    exact Does.refl ..

theorem execStatusSlot_does (waits : Bool) (s : State) :
    DoesO 0x1ffbffffdfffffffff 0x7ffffffffffffffffffffffffffffffffffffffffffffffffffffffffffffffffff s (execStatusSlot waits s) := by
  unfold execStatusSlot
  refine DoesO.next ?_
  split
  · extract_lets +onlyGivenNames x0
    refine Does.via (x := x0) ?_ (fun _ => ?_)
    · subst x0
      refine Does.step (State.svpStart_does ..) (by decide) (by decide) ?_
      exact Does.refl ..
    clear_value x0
    refine Does.ite (fun _ => ?_) (fun _ => ?_)
    · refine Does.step (State.svpStatus_does ..) (by decide) (by decide) ?_
      assumption
    · extract_lets +onlyGivenNames x1
      refine Does.via (x := x1) ?_ (fun _ => ?_)
      · subst x1
        refine Does.step (State.svpStatus_does ..) (by decide) (by decide) ?_
        assumption
      clear_value x1
      refine Does.upd_svp _ (by decide) ?_
      assumption
  · refine Does.step (State.svpStatus_does ..) (by decide) (by decide) ?_
    exact Does.refl ..
  · refine Does.step (State.svpStatus_does ..) (by decide) (by decide) ?_
    exact Does.refl ..
  · exact Does.refl ..

theorem execDataWord_does (word : BitVec 32) (s : State) :
    DoesO 0x40008009800008 0x200000000000000000000000000000000 s (execDataWord word s) := by
  unfold execDataWord
  refine DoesO.next ?_
  split
  · refine Does.step (State.svpAdvance_does ..) (by decide) (by decide) ?_
    refine Does.step (State.svpSlot_does ..) (by decide) (by decide) ?_
    exact Does.refl ..
  · refine Does.ite (fun _ => ?_) (fun _ => ?_)
    · refine Does.step (State.svpStatus_does ..) (by decide) (by decide) ?_
      exact Does.refl ..
    · extract_lets +onlyGivenNames x0
      refine Does.via (x := x0) ?_ (fun _ => ?_)
      · subst x0
        refine Does.step (State.svpStatus_does ..) (by decide) (by decide) ?_
        exact Does.refl ..
      clear_value x0
      refine Does.step (State.svpAdvance_does ..) (by decide) (by decide) ?_
      refine Does.upd_svp _ (by decide) ?_
      assumption
  · refine Does.step (State.svpStatus_does ..) (by decide) (by decide) ?_
    exact Does.refl ..
  · refine Does.step (State.svpStatus_does ..) (by decide) (by decide) ?_
    exact Does.refl ..
  · exact Does.refl ..

theorem execSelectRelease_does (bitsLeft : Bool) (s : State) :
    DoesO 0x60000009800008 0x200000000000000000000000000000000 s (execSelectRelease bitsLeft s) := by
  unfold execSelectRelease
  refine DoesO.next ?_
  refine Does.ite (fun _ => ?_) (fun _ => ?_)
  · exact Does.refl ..
  · refine Does.step (State.svpEnd_does ..) (by decide) (by decide) ?_
    refine Does.ite (fun _ => ?_) (fun _ => ?_)
    · refine Does.wr _ _ _ _ (by decide) ?_
      exact Does.refl ..
    · exact Does.refl ..

theorem execPostedWrite_does (s : State) :
    DoesO 0x1ffbffffdfffffffff 0x7ffffffffffffffffffffffffffffffffffffffffffffffffffffffffffffffffff s (execPostedWrite s) := by
  unfold execPostedWrite
  refine DoesO.next ?_
  split
  · exact Does.refl ..
  · refine Does.ite (fun _ => ?_) (fun _ => ?_)
    · exact Does.refl ..
    · refine Does.step (State.access_does ..) (by decide) (by decide) ?_
      exact Does.refl ..

end Sys2Proof.Machine
end

