-- ==== Sys2Proof/Laws/DoesTrigRows.lean ====
section
/-! SUPPORT. What each operation and meaning of Machine/TrigRows.lean may touch. -/

namespace Sys2Proof.Machine

open Sys2Proof

set_option linter.unusedVariables false

theorem execPmcSelWrite_does (pmc : PmcId) (value : BitVec 32) (s : State) :
    DoesO 0x8000000 0x1200000000000000000000000000000000000 s (execPmcSelWrite pmc value s) := by
  unfold execPmcSelWrite
  refine DoesO.next ?_
  refine Does.step (State.pmcSelect_does ..) (by decide) (by decide) ?_
  exact Does.refl ..

theorem execCounterOverflow_does (pmc : PmcId) (s : State) :
    DoesO 0x9800008 0x400000000000000000000000000000000000 s (execCounterOverflow pmc s) := by
  unfold execCounterOverflow
  extract_lets +onlyGivenNames x0
  refine DoesO.next ?_
  extract_lets +onlyGivenNames x1
  clear_value x1
  refine Does.ite (fun _ => ?_) (fun _ => ?_)
  · exact Does.refl ..
  · extract_lets +onlyGivenNames x2
    refine Does.via (x := x2) ?_ (fun _ => ?_)
    · subst x2
      refine Does.upd_pmc _ (by decide) ?_
      exact Does.refl ..
    extract_lets +onlyGivenNames x3
    clear_value x3
    extract_lets +onlyGivenNames x4
    refine Does.via (x := x4) ?_ (fun _ => ?_)
    · subst x4
      refine Does.ite (fun _ => ?_) (fun _ => ?_)
      · refine Does.upd_pmc _ (by decide) ?_
        assumption
      · assumption
    clear_value x4
    extract_lets +onlyGivenNames x5
    refine Does.via (x := x5) ?_ (fun _ => ?_)
    · subst x5
      refine Does.wr _ _ _ _ (by decide) ?_
      assumption
    clear_value x5
    refine Does.ite (fun _ => ?_) (fun _ => ?_)
    · refine Does.step (State.raise_does ..) (by decide) (by decide) ?_
      assumption
    · assumption

theorem execTrigIn_does (input : Fin 4) (high : Bool) (frac : Fin 1024) (s : State) :
    DoesO 0x80000009800048 0x0 s (execTrigIn input high frac s) := by
  unfold execTrigIn
  extract_lets +onlyGivenNames x0
  clear_value x0
  refine DoesO.next ?_
  extract_lets +onlyGivenNames x1
  clear_value x1
  extract_lets +onlyGivenNames x2
  clear_value x2
  refine Does.ite (fun _ => ?_) (fun _ => ?_)
  · exact Does.refl ..
  · extract_lets +onlyGivenNames x3
    clear_value x3
    extract_lets +onlyGivenNames x4
    refine Does.via (x := x4) ?_ (fun _ => ?_)
    · subst x4
      refine Does.upd_trigs _ (by decide) ?_
      exact Does.refl ..
    clear_value x4
    refine Does.ite (fun _ => ?_) (fun _ => ?_)
    · assumption
    · refine Does.step (State.iuOther_does ..) (by decide) (by decide) ?_
      refine Does.step (State.raise_does ..) (by decide) (by decide) ?_
      assumption

theorem execTrigOut_does (output : Fin 4) (s : State) :
    DoesO 0x80000009800008 0x0 s (execTrigOut output s) := by
  unfold execTrigOut
  extract_lets +onlyGivenNames x0
  clear_value x0
  refine DoesO.next ?_
  extract_lets +onlyGivenNames x1
  clear_value x1
  split
  · exact Does.refl ..
  · refine Does.ite (fun _ => ?_) (fun _ => ?_)
    · exact Does.refl ..
    · refine Does.ite (fun _ => ?_) (fun _ => ?_)
      · refine Does.upd_trigs _ (by decide) ?_
        exact Does.refl ..
      · refine Does.step (State.raise_does ..) (by decide) (by decide) ?_
        refine Does.upd_trigs _ (by decide) ?_
        exact Does.refl ..

theorem execTrigOutFall_does (output : Fin 4) (s : State) :
    DoesO 0x80000000000000 0x0 s (execTrigOutFall output s) := by
  unfold execTrigOutFall
  extract_lets +onlyGivenNames x0
  clear_value x0
  refine DoesO.next ?_
  extract_lets +onlyGivenNames x1
  clear_value x1
  refine Does.ite (fun _ => ?_) (fun _ => ?_)
  · refine Does.upd_trigs _ (by decide) ?_
    exact Does.refl ..
  · exact Does.refl ..

theorem execBoundaryScan_does (op : Jtag) (s : State) :
    DoesO 0x100008000000004 0x0 s (execBoundaryScan op s) := by
  unfold execBoundaryScan
  refine DoesO.next ?_
  split
  · refine Does.upd_jtag _ (by decide) ?_
    exact Does.refl ..
  · extract_lets +onlyGivenNames x0
    clear_value x0
    extract_lets +onlyGivenNames x1
    clear_value x1
    extract_lets +onlyGivenNames x2
    extract_lets +onlyGivenNames x3
    refine Does.via (x := x3) ?_ (fun _ => ?_)
    · subst x3
      refine Does.upd_out_jtag _ _ (by decide) (by decide) ?_
      exact Does.refl ..
    refine Does.ite (fun _ => ?_) (fun _ => ?_)
    · assumption
    · refine Does.step (State.tookFree_does ..) (by decide) (by decide) ?_
      assumption
  · refine Does.upd_jtag _ (by decide) ?_
    exact Does.refl ..

end Sys2Proof.Machine
end

