-- ==== Sys2Proof/Laws/Exec.lean ====
section
/-! SUPPORT. What the meaning of each command may touch, over all commands: exec answers a next state that keeps the queue, keeps
the canonical form, and differs only in the parts and registers listed for the command. -/

namespace Sys2Proof.Machine

open Sys2Proof

/-- The place of a part in a mask. -/
def Part.bit : Part → Nat
  | .latch => 0
  | .now => 1
  | .free => 2
  | .gangs => 3
  | .pods => 4
  | .pins => 5
  | .ius => 6
  | .iuq => 7
  | .iuSetup => 8
  | .pmuSetup => 9
  | .pmus => 10
  | .waves => 11
  | .rails => 12
  | .sites => 13
  | .dies => 14
  | .segMem => 15
  | .poolMem => 16
  | .poolBad => 17
  | .capMem => 18
  | .ledgMem => 19
  | .mtpMem => 20
  | .siteMap => 21
  | .runs => 22
  | .evq => 23
  | .seqs => 24
  | .faultq => 25
  | .fences => 26
  | .pmc => 27
  | .ledgq => 28
  | .ledgAbove => 29
  | .qps => 30
  | .evrs => 31
  | .tlb => 32
  | .mmuq => 33
  | .strms => 34
  | .snaps => 35
  | .wm => 36
  | .jumps => 37
  | .d3hot => 38
  | .out => 39
  | .rr => 40
  | .lastChunk => 41
  | .time => 42
  | .ports => 43
  | .fab => 44
  | .pwr => 45
  | .sensors => 46
  | .doms => 47
  | .rst => 48
  | .safeX => 49
  | .live => 50
  | .xings => 51
  | .shadowWr => 52
  | .xwait => 53
  | .svp => 54
  | .trigs => 55
  | .jtag => 56
  | .shd => 57
  | .badSup => 58
  | .tok => 59
  | .fRestart => 60
  | .tickAcc => 61
  | .tickDie => 62
  | .wakeAsk => 63
  | .wake => 64
  | .safePin => 65
  | .safeRail => 66
  | .safeWave => 67
  | .atTick => 68

/-- A list of parts as a mask. -/
def partMask (l : List Part) : Nat := l.foldl (fun m p => m ||| 2 ^ p.bit) 0

/-- A list of registers as a mask. -/
def regMask (l : List Reg) : Nat := l.foldl (fun m r => m ||| 2 ^ r.ctorIdx) 0

theorem mask_out {α : Type} (f : α → Nat) (l : List α) (i m : Nat) (hm : m.testBit i = false) (h : ∀ a ∈ l, f a ≠ i) :
    (l.foldl (fun m a => m ||| 2 ^ f a) m).testBit i = false := by
  induction l generalizing m with
  | nil => exact hm
  | cons a t ih =>
    refine ih _ ?_ (fun b hb => h b (List.mem_cons_of_mem _ hb))
    rw [Nat.testBit_or, hm, Nat.testBit_two_pow_of_ne (h a (List.mem_cons_self ..))]
    rfl

theorem regMask_out {l : List Reg} {r : Reg} (h : r ∉ l) : (regMask l).testBit r.ctorIdx = false :=
  mask_out _ l _ 0 (Nat.zero_testBit _) (fun a ha he => h (by rw [← Reg.ctorIdx_inj he]; exact ha))

theorem Part.bit_inj {p q : Part} (h : p.bit = q.bit) : p = q := by
  have key : ∀ p : Part, Part.ofNat p.bit = p := by intro p; cases p <;> rfl
  rw [← key p, h, key q]

theorem partMask_out {l : List Part} {p : Part} (h : p ∉ l) : (partMask l).testBit p.bit = false :=
  mask_out _ l _ 0 (Nat.zero_testBit _) (fun a ha he => h (by rw [← Part.bit_inj he]; exact ha))

theorem Does.same {F R : Nat} {s t : State} (h : Does F R s t) {p : Part} (hp : F.testBit p.bit = false) : s.same t p := by
  cases p with
  | latch => exact h.latch hp
  | now => exact h.now hp
  | free => exact h.free hp
  | gangs => exact h.gangs hp
  | pods => exact h.pods hp
  | pins => exact h.pins hp
  | ius => exact h.ius hp
  | iuq => exact h.iuq hp
  | iuSetup => exact h.iuSetup hp
  | pmuSetup => exact h.pmuSetup hp
  | pmus => exact h.pmus hp
  | waves => exact h.waves hp
  | rails => exact h.rails hp
  | sites => exact h.sites hp
  | dies => exact h.dies hp
  | segMem => exact h.segMem hp
  | poolMem => exact h.poolMem hp
  | poolBad => exact h.poolBad hp
  | capMem => exact h.capMem hp
  | ledgMem => exact h.ledgMem hp
  | mtpMem => exact h.mtpMem hp
  | siteMap => exact h.siteMap hp
  | runs => exact h.runs hp
  | evq => exact h.evq hp
  | seqs => exact h.seqs hp
  | faultq => exact h.faultq hp
  | fences => exact h.fences hp
  | pmc => exact h.pmc hp
  | ledgq => exact h.ledgq hp
  | ledgAbove => exact h.ledgAbove hp
  | qps => exact h.qps hp
  | evrs => exact h.evrs hp
  | tlb => exact h.tlb hp
  | mmuq => exact h.mmuq hp
  | strms => exact h.strms hp
  | snaps => exact h.snaps hp
  | wm => exact h.wm hp
  | jumps => exact h.jumps hp
  | d3hot => exact h.d3hot hp
  | out => exact h.out hp
  | rr => exact h.rr hp
  | lastChunk => exact h.lastChunk hp
  | time => exact h.time hp
  | ports => exact h.ports hp
  | fab => exact h.fab hp
  | pwr => exact h.pwr hp
  | sensors => exact h.sensors hp
  | doms => exact h.doms hp
  | rst => exact h.rst hp
  | safeX => exact h.safeX hp
  | live => exact h.live hp
  | xings => exact h.xings hp
  | shadowWr => exact h.shadowWr hp
  | xwait => exact h.xwait hp
  | svp => exact h.svp hp
  | trigs => exact h.trigs hp
  | jtag => exact h.jtag hp
  | shd => exact h.shd hp
  | badSup => exact h.badSup hp
  | tok => exact h.tok hp
  | fRestart => exact h.fRestart hp
  | tickAcc => exact h.tickAcc hp
  | tickDie => exact h.tickDie hp
  | wakeAsk => exact h.wakeAsk hp
  | wake => exact h.wake hp
  | safePin => exact h.safePin hp
  | safeRail => exact h.safeRail hp
  | safeWave => exact h.safeWave hp
  | atTick => exact h.atTick hp

theorem DoesO.of_eq {F R G Q : Nat} {s : State} {o : Host.Outcome State Fault Refusal} (h : DoesO F R s o) (hf : F = G) (hr : R = Q) :
    DoesO G Q s o := hf ▸ hr ▸ h

theorem parts_0 :
    (432026872 = partMask 
    [.gangs, .pods, .pins, .ius, .iuq, .pmus, .rails, .sites, .runs, .evq, .seqs, .pmc, .ledgq]) ∧
    (576460752735450360 = partMask 
    [.gangs, .pods, .pins, .ius, .iuq, .pmus, .rails, .sites, .runs, .evq, .seqs, .pmc, .ledgq, .tok]) ∧
    (432026856 = partMask 
    [.gangs, .pins, .ius, .iuq, .pmus, .rails, .sites, .runs, .evq, .seqs, .pmc, .ledgq]) ∧
    (576460752735452412 = partMask 
    [.free, .gangs, .pods, .pins, .ius, .iuq, .pmus, .waves, .rails, .sites, .runs, .evq, .seqs, .pmc, .ledgq, .tok]) ∧
    (1506030840 = partMask 
    [.gangs, .pods, .pins, .ius, .iuq, .pmus, .rails, .sites, .capMem, .runs, .evq, .seqs, .pmc, .ledgq, .qps]) ∧
    (1237319704 = partMask 
    [.gangs, .pods, .runs, .evq, .seqs, .pmc, .qps]) ∧
    (37154697391387896 = partMask 
    [.gangs, .pods, .pins, .ius, .iuq, .pmus, .rails, .sites, .runs, .evq, .seqs, .faultq, .pmc, .ledgq, .live, .trigs]) ∧
    (134479928 = partMask 
    [.gangs, .pods, .pins, .capMem, .pmc]) ∧
    (134479932 = partMask 
    [.free, .gangs, .pods, .pins, .capMem, .pmc]) ∧
    (8 = partMask 
    [.gangs]) ∧
    (268435456 = partMask 
    [.ledgq]) ∧
    (407371776 = partMask 
    [.ledgMem, .runs, .pmc, .ledgq]) ∧
    (1077936128 = partMask 
    [.runs, .qps]) ∧
    (134217752 = partMask 
    [.gangs, .pods, .pmc]) ∧
    (16 = partMask 
    [.pods]) ∧
    (0 = partMask 
    []) ∧
    (17611896040 = partMask 
    [.gangs, .pins, .ius, .iuq, .pmus, .rails, .sites, .runs, .evq, .seqs, .pmc, .ledgq, .strms]) ∧
    (576460752303423512 = partMask 
    [.gangs, .pods, .tok]) ∧
    (134250512 = partMask 
    [.pods, .segMem, .pmc]) ∧
    (1125899940528144 = partMask 
    [.pods, .poolBad, .faultq, .live]) ∧
    (24 = partMask 
    [.gangs, .pods]) ∧
    (29168356098056 = partMask 
    [.gangs, .poolMem, .evq, .seqs, .pmc, .qps, .tlb, .mmuq, .strms, .out, .lastChunk, .ports, .fab]) ∧
    (18253611024 = partMask 
    [.pods, .qps, .strms]) ∧
    (48 = partMask 
    [.pods, .pins]) := by decide +kernel

theorem parts_1 :
    (9223372037014159400 = partMask 
    [.gangs, .pins, .evq, .seqs, .pmc, .wakeAsk]) ∧
    (159383592 = partMask 
    [.gangs, .pins, .evq, .seqs, .pmc]) ∧
    (134217848 = partMask 
    [.gangs, .pods, .pins, .ius, .pmc]) ∧
    (32 = partMask 
    [.pins]) ∧
    (432028920 = partMask 
    [.gangs, .pods, .pins, .ius, .iuq, .pmus, .waves, .rails, .sites, .runs, .evq, .seqs, .pmc, .ledgq]) ∧
    (9223372037014163464 = partMask 
    [.gangs, .rails, .evq, .seqs, .pmc, .wakeAsk]) ∧
    (12288 = partMask 
    [.rails, .sites]) ∧
    (159387656 = partMask 
    [.gangs, .rails, .evq, .seqs, .pmc]) ∧
    (4096 = partMask 
    [.rails]) ∧
    (8192 = partMask 
    [.sites]) ∧
    (8224 = partMask 
    [.pins, .sites]) ∧
    (1125900372425976 = partMask 
    [.gangs, .pods, .pins, .ius, .iuq, .pmus, .waves, .rails, .sites, .runs, .evq, .seqs, .faultq, .pmc, .ledgq, .live]) ∧
    (16384 = partMask 
    [.dies]) ∧
    (1125899940413504 = partMask 
    [.ius, .dies, .faultq, .live]) ∧
    (25166024 = partMask 
    [.gangs, .ius, .iuq, .evq, .seqs]) ∧
    (134217792 = partMask 
    [.ius, .pmc]) ∧
    (64 = partMask 
    [.ius]) ∧
    (25165896 = partMask 
    [.gangs, .ius, .evq, .seqs]) ∧
    (134217760 = partMask 
    [.pins, .pmc]) ∧
    (25166892 = partMask 
    [.free, .gangs, .pins, .pmus, .evq, .seqs]) ∧
    (576460752328590380 = partMask 
    [.free, .gangs, .pins, .pmus, .evq, .seqs, .tok]) ∧
    (2048 = partMask 
    [.waves]) ∧
    (2064 = partMask 
    [.pods, .waves]) ∧
    (576460752462809208 = partMask 
    [.gangs, .pods, .pins, .ius, .waves, .evq, .seqs, .pmc, .tok]) := by decide +kernel

theorem parts_2 :
    (159385624 = partMask 
    [.gangs, .pods, .waves, .evq, .seqs, .pmc]) ∧
    (576460769642678328 = partMask 
    [.gangs, .pods, .pins, .waves, .evq, .seqs, .pmc, .strms, .tok]) ∧
    (134479896 = partMask 
    [.gangs, .pods, .capMem, .pmc]) ∧
    (262160 = partMask 
    [.pods, .capMem]) ∧
    (25165840 = partMask 
    [.pods, .evq, .seqs]) ∧
    (536870912 = partMask 
    [.ledgAbove]) ∧
    (562036736 = partMask 
    [.evq, .seqs, .ledgAbove]) ∧
    (590007579845114986495 = partMask 
    [.latch, .now, .free, .gangs, .pods, .pins, .ius, .iuq, .iuSetup, .pmuSetup, .pmus, .waves, .rails, .sites, .dies, .segMem,
     .poolMem, .poolBad, .capMem, .ledgMem, .mtpMem, .siteMap, .runs, .evq, .seqs, .faultq, .fences, .pmc, .ledgq, .ledgAbove, .qps,
     .evrs, .tlb, .mmuq, .strms, .snaps, .wm, .d3hot, .out, .rr, .lastChunk, .time, .ports, .fab, .pwr, .sensors, .doms, .rst, .safeX,
     .live, .xings, .shadowWr, .xwait, .svp, .trigs, .jtag, .shd, .tok, .fRestart, .tickAcc, .tickDie, .wakeAsk, .wake, .safePin,
     .safeRail, .safeWave, .atTick]) ∧
    (4466765987840 = partMask 
    [.wm, .time]) ∧
    (549755813888 = partMask 
    [.out]) ∧
    (134217728 = partMask 
    [.pmc]) ∧
    (4398046511104 = partMask 
    [.time]) ∧
    (1130297986908160 = partMask 
    [.faultq, .time, .live]) ∧
    (1157304900648968 = partMask 
    [.gangs, .evq, .seqs, .faultq, .pmc, .wm, .out, .time, .ports, .fab, .live]) ∧
    (4947936542720 = partMask 
    [.pmc, .out, .time]) ∧
    (19646949735685716026 = partMask 
    [.now, .gangs, .pods, .pins, .waves, .rails, .sites, .dies, .evq, .seqs, .faultq, .pmc, .qps, .evrs, .wm, .jumps, .out, .time,
     .ports, .fab, .pwr, .sensors, .doms, .rst, .safeX, .live, .xwait, .trigs, .fRestart, .wake]) ∧
    (1130366706384896 = partMask 
    [.faultq, .wm, .time, .live]) ∧
    (8796093022208 = partMask 
    [.ports]) ∧
    (68744642560 = partMask 
    [.evq, .seqs, .wm]) ∧
    (34359738368 = partMask 
    [.snaps]) ∧
    (35433480192 = partMask 
    [.qps, .snaps]) ∧
    (144115223509336064 = partMask 
    [.qps, .snaps, .shd]) ∧
    (9223398978270265352 = partMask 
    [.gangs, .evq, .seqs, .pmc, .qps, .evrs, .out, .ports, .fab, .wakeAsk]) ∧
    (28051664535560 = partMask 
    [.gangs, .evq, .seqs, .pmc, .qps, .tlb, .mmuq, .out, .rr, .ports, .fab]) := by decide +kernel

theorem parts_3 :
    (1073741824 = partMask 
    [.qps]) ∧
    (29151178261304 = partMask 
    [.gangs, .pods, .pins, .iuSetup, .pmuSetup, .siteMap, .evq, .seqs, .pmc, .qps, .tlb, .mmuq, .out, .lastChunk, .ports, .fab]) ∧
    (29151176196120 = partMask 
    [.gangs, .pods, .segMem, .evq, .seqs, .pmc, .qps, .tlb, .mmuq, .out, .lastChunk, .ports, .fab]) ∧
    (1207992336 = partMask 
    [.pods, .segMem, .pmc, .qps]) ∧
    (29151176359944 = partMask 
    [.gangs, .poolMem, .poolBad, .evq, .seqs, .pmc, .qps, .tlb, .mmuq, .out, .lastChunk, .ports, .fab]) ∧
    (29151176163352 = partMask 
    [.gangs, .pods, .evq, .seqs, .pmc, .qps, .tlb, .mmuq, .out, .lastChunk, .ports, .fab]) ∧
    (29151176163336 = partMask 
    [.gangs, .evq, .seqs, .pmc, .qps, .tlb, .mmuq, .out, .lastChunk, .ports, .fab]) ∧
    (29151713034248 = partMask 
    [.gangs, .evq, .seqs, .pmc, .ledgAbove, .qps, .tlb, .mmuq, .out, .lastChunk, .ports, .fab]) ∧
    (310626152873992 = partMask 
    [.gangs, .evq, .seqs, .pmc, .qps, .tlb, .mmuq, .out, .lastChunk, .ports, .fab, .rst]) ∧
    (1436526094319624 = partMask 
    [.gangs, .mtpMem, .evq, .seqs, .faultq, .pmc, .qps, .tlb, .mmuq, .out, .lastChunk, .ports, .fab, .rst, .live]) ∧
    (26952152907784 = partMask 
    [.gangs, .evq, .seqs, .pmc, .qps, .tlb, .mmuq, .out, .ports, .fab]) ∧
    (26953226649608 = partMask 
    [.gangs, .evq, .seqs, .pmc, .evrs, .tlb, .mmuq, .out, .ports, .fab]) ∧
    (26941415489544 = partMask 
    [.gangs, .evq, .seqs, .pmc, .qps, .evrs, .out, .ports, .fab]) ∧
    (159383560 = partMask 
    [.gangs, .evq, .seqs, .pmc]) ∧
    (2155872256 = partMask 
    [.evq, .evrs]) ∧
    (1077936136 = partMask 
    [.gangs, .runs, .qps]) ∧
    (274877906944 = partMask 
    [.d3hot]) ∧
    (26965574680600 = partMask 
    [.gangs, .pods, .evq, .seqs, .pmc, .ledgAbove, .qps, .mmuq, .strms, .out, .ports, .fab]) ∧
    (5368709120 = partMask 
    [.qps, .tlb]) ∧
    (16240345088 = partMask 
    [.pmc, .qps, .evrs, .tlb, .mmuq]) ∧
    (21097349144 = partMask 
    [.gangs, .pods, .evq, .seqs, .pmc, .ledgAbove, .qps, .evrs, .strms]) ∧
    (35184372088840 = partMask 
    [.gangs, .pwr]) ∧
    (35184804115704 = partMask 
    [.gangs, .pods, .pins, .ius, .iuq, .pmus, .rails, .sites, .runs, .evq, .seqs, .pmc, .ledgq, .pwr]) ∧
    (576495964487955704 = partMask 
    [.gangs, .pods, .pins, .ius, .iuq, .pmus, .rails, .sites, .runs, .evq, .seqs, .pmc, .ledgq, .ledgAbove, .qps, .mmuq, .strms, .pwr,
     .tok]) := by decide +kernel

theorem parts_4 :
    (1135245948616712 = partMask 
    [.gangs, .evq, .seqs, .faultq, .pmc, .out, .ports, .live]) ∧
    (1152838134661128 = partMask 
    [.gangs, .evq, .seqs, .faultq, .pmc, .out, .ports, .fab, .live]) ∧
    (8796252405768 = partMask 
    [.gangs, .evq, .seqs, .pmc, .ports]) ∧
    (26938194264072 = partMask 
    [.gangs, .evq, .seqs, .pmc, .out, .ports, .fab]) ∧
    (17592186044416 = partMask 
    [.fab]) ∧
    (9223389632421429256 = partMask 
    [.gangs, .evq, .seqs, .pmc, .qps, .evrs, .fab, .wakeAsk]) ∧
    (18141941858304 = partMask 
    [.out, .fab]) ∧
    (1152838101106696 = partMask 
    [.gangs, .evq, .seqs, .pmc, .out, .ports, .fab, .live]) ∧
    (589431118543055749119 = partMask 
    [.latch, .now, .free, .gangs, .pods, .pins, .ius, .iuq, .iuSetup, .pmuSetup, .pmus, .waves, .rails, .sites, .dies, .segMem,
     .poolMem, .poolBad, .capMem, .ledgMem, .mtpMem, .siteMap, .runs, .evq, .seqs, .faultq, .fences, .pmc, .ledgq, .ledgAbove, .qps,
     .evrs, .tlb, .mmuq, .strms, .snaps, .wm, .d3hot, .rr, .lastChunk, .time, .ports, .fab, .pwr, .sensors, .doms, .rst, .safeX, .live,
     .xings, .shadowWr, .xwait, .svp, .trigs, .jtag, .shd, .fRestart, .tickAcc, .tickDie, .wakeAsk, .wake, .safePin, .safeRail,
     .safeWave, .atTick]) ∧
    (1156754985451520 = partMask 
    [.faultq, .wm, .time, .ports, .fab, .live]) ∧
    (9223398975049039880 = partMask 
    [.gangs, .evq, .seqs, .pmc, .out, .ports, .fab, .wakeAsk]) ∧
    (17593259786240 = partMask 
    [.qps, .fab]) ∧
    (1144041882255360 = partMask 
    [.faultq, .out, .fab, .live]) ∧
    (1143492126441472 = partMask 
    [.faultq, .fab, .live]) ∧
    (18446806264995385384 = partMask 
    [.gangs, .pins, .rails, .evq, .seqs, .pmc, .wm, .out, .ports, .fab, .pwr, .wake]) ∧
    (27670116110564327424 = partMask 
    [.wakeAsk, .wake]) ∧
    (9223372036854775808 = partMask 
    [.wakeAsk]) ∧
    (9225553530130021624 = partMask 
    [.gangs, .pods, .pins, .ius, .iuq, .pmus, .waves, .rails, .sites, .runs, .evq, .seqs, .faultq, .pmc, .ledgq, .ledgAbove, .qps,
     .mmuq, .strms, .snaps, .sensors, .doms, .rst, .safeX, .live, .wakeAsk]) ∧
    (9224709043187089448 = partMask 
    [.gangs, .pins, .evq, .seqs, .faultq, .pmc, .sensors, .doms, .live, .wakeAsk]) ∧
    (9223512774502514728 = partMask 
    [.gangs, .pins, .evq, .seqs, .pmc, .doms, .wakeAsk]) ∧
    (1125899906846752 = partMask 
    [.pins, .rails, .live]) ∧
    (295149884912311745785 = partMask 
    [.latch, .gangs, .pods, .pins, .ius, .iuq, .pmus, .waves, .rails, .sites, .capMem, .runs, .evq, .seqs, .faultq, .fences, .pmc,
     .ledgq, .ledgAbove, .qps, .mmuq, .strms, .snaps, .out, .ports, .rst, .safeX, .live, .atTick]) ∧
    (33554432 = partMask 
    [.faultq]) ∧
    (562950020530176 = partMask 
    [.fences, .safeX]) := by decide +kernel

theorem parts_5 :
    (844487102315768 = partMask 
    [.gangs, .pods, .pins, .ius, .iuq, .pmus, .waves, .rails, .sites, .runs, .evq, .seqs, .pmc, .ledgq, .ledgAbove, .qps, .mmuq,
     .strms, .snaps, .rst, .safeX]) ∧
    (281474977759232 = partMask 
    [.mtpMem, .rst]) ∧
    (1407374917107712 = partMask 
    [.faultq, .rst, .live]) ∧
    (589431119092811563007 = partMask 
    [.latch, .now, .free, .gangs, .pods, .pins, .ius, .iuq, .iuSetup, .pmuSetup, .pmus, .waves, .rails, .sites, .dies, .segMem,
     .poolMem, .poolBad, .capMem, .ledgMem, .mtpMem, .siteMap, .runs, .evq, .seqs, .faultq, .fences, .pmc, .ledgq, .ledgAbove, .qps,
     .evrs, .tlb, .mmuq, .strms, .snaps, .wm, .d3hot, .out, .rr, .lastChunk, .time, .ports, .fab, .pwr, .sensors, .doms, .rst, .safeX,
     .live, .xings, .shadowWr, .xwait, .svp, .trigs, .jtag, .shd, .fRestart, .tickAcc, .tickDie, .wakeAsk, .wake, .safePin, .safeRail,
     .safeWave, .atTick]) ∧
    (554556671993350998017 = partMask 
    [.latch, .waves, .dies, .evq, .faultq, .qps, .evrs, .mmuq, .rr, .lastChunk, .fab, .rst, .live, .fRestart, .safePin, .safeRail,
     .safeWave, .atTick]) ∧
    (589431118543055749115 = partMask 
    [.latch, .now, .gangs, .pods, .pins, .ius, .iuq, .iuSetup, .pmuSetup, .pmus, .waves, .rails, .sites, .dies, .segMem, .poolMem,
     .poolBad, .capMem, .ledgMem, .mtpMem, .siteMap, .runs, .evq, .seqs, .faultq, .fences, .pmc, .ledgq, .ledgAbove, .qps, .evrs, .tlb,
     .mmuq, .strms, .snaps, .wm, .d3hot, .rr, .lastChunk, .time, .ports, .fab, .pwr, .sensors, .doms, .rst, .safeX, .live, .xings,
     .shadowWr, .xwait, .svp, .trigs, .jtag, .shd, .fRestart, .tickAcc, .tickDie, .wakeAsk, .wake, .safePin, .safeRail, .safeWave,
     .atTick]) ∧
    (281474976710656 = partMask 
    [.rst]) ∧
    (28174435898884104 = partMask 
    [.gangs, .evq, .seqs, .faultq, .pmc, .out, .ports, .fab, .live, .xwait, .svp]) ∧
    (2251799947902976 = partMask 
    [.pmc, .xings]) ∧
    (2251799947903000 = partMask 
    [.gangs, .pods, .pmc, .xings]) ∧
    (18014948265295872 = partMask 
    [.out, .svp]) ∧
    (18014398668865544 = partMask 
    [.gangs, .evq, .seqs, .pmc, .svp]) ∧
    (18014398509481984 = partMask 
    [.svp]) ∧
    (9241386985279455240 = partMask 
    [.gangs, .evq, .seqs, .pmc, .out, .svp, .wakeAsk]) ∧
    (18014948424679432 = partMask 
    [.gangs, .evq, .seqs, .pmc, .out, .svp]) ∧
    (27021597923606536 = partMask 
    [.gangs, .evq, .seqs, .pmc, .xwait, .svp]) ∧
    (36028797178347592 = partMask 
    [.gangs, .ius, .evq, .seqs, .pmc, .trigs]) ∧
    (36028797178347528 = partMask 
    [.gangs, .evq, .seqs, .pmc, .trigs]) ∧
    (36028797018963968 = partMask 
    [.trigs]) ∧
    (26939268005896 = partMask 
    [.gangs, .evq, .seqs, .pmc, .qps, .out, .ports, .fab]) ∧
    (1125899906842624 = partMask 
    [.live]) ∧
    (589719348919207460863 = partMask 
    [.latch, .now, .free, .gangs, .pods, .pins, .ius, .iuq, .iuSetup, .pmuSetup, .pmus, .waves, .rails, .sites, .dies, .segMem,
     .poolMem, .poolBad, .capMem, .ledgMem, .mtpMem, .siteMap, .runs, .evq, .seqs, .faultq, .fences, .pmc, .ledgq, .ledgAbove, .qps,
     .evrs, .tlb, .mmuq, .strms, .snaps, .wm, .d3hot, .rr, .lastChunk, .time, .ports, .fab, .pwr, .sensors, .doms, .rst, .safeX, .live,
     .xings, .shadowWr, .xwait, .svp, .trigs, .jtag, .shd, .badSup, .fRestart, .tickAcc, .tickDie, .wakeAsk, .wake, .safePin,
     .safeRail, .safeWave, .atTick]) ∧
    (289637751035281408 = partMask 
    [.dies, .rst, .live, .badSup]) ∧
    (72058143793741828 = partMask 
    [.free, .out, .jtag]) := by decide +kernel

theorem regs_0 :
    (133392486815245683052567958766820507333056949305230646307934616109713058256912384 = regMask 
    [.IU_STAT, .SITE_PSTAT, .SITE_V, .RAIL_STAT, .LEDG_STAT, .LEDG_LOST, .ENG_STAT, .ENG_PC, .ENG_UCTL, .ENG_USTAT, .ENG_RA_STAT,
     .ENG_PM_STAT, .POD_TIM_STAT, .PIN_PMU_STAT, .PIN_TDC_SRC]) ∧
    (133392486815245893677151295881193903169112316646095284098125417207935566878867456 = regMask 
    [.IU_STAT, .SITE_PSTAT, .SITE_V, .RAIL_STAT, .LEDG_STAT, .LEDG_LOST, .ENG_STAT, .ENG_PC, .ENG_UCTL, .ENG_USTAT, .ENG_RA_STAT,
     .ENG_RA_SHADOW, .ENG_PM_STAT, .POD_TIM_STAT, .PIN_PMU_STAT, .PIN_TDC_SRC]) ∧
    (133392486815247368049234655681807674021499888032147748629461024895493127232552960 = regMask 
    [.IU_STAT, .SITE_PSTAT, .SITE_V, .RAIL_STAT, .LEDG_STAT, .LEDG_LOST, .ENG_STAT, .ENG_PC, .ENG_UCTL, .ENG_USTAT, .ENG_RA_STAT,
     .ENG_RA_SQ, .ENG_PM_STAT, .POD_TIM_STAT, .PIN_PMU_STAT, .PIN_TDC_SRC]) ∧
    (133392486815191763159233657487231173302882910043883372019089534964750851036413952 = regMask 
    [.IU_STAT, .SITE_PSTAT, .SITE_V, .RAIL_STAT, .LEDG_STAT, .LEDG_LOST, .ENG_STAT, .ENG_PC, .ENG_UCTL, .ENG_USTAT, .ENG_RA_STAT,
     .POD_TIM_STAT, .PIN_PMU_STAT, .PIN_TDC_SRC]) ∧
    (133392486815247578673817992796181069857555255373012386419651825993715635854508032 = regMask 
    [.IU_STAT, .SITE_PSTAT, .SITE_V, .RAIL_STAT, .LEDG_STAT, .LEDG_LOST, .ENG_STAT, .ENG_PC, .ENG_UCTL, .ENG_USTAT, .ENG_RA_STAT,
     .ENG_RA_SHADOW, .ENG_RA_SQ, .ENG_PM_STAT, .POD_TIM_STAT, .PIN_PMU_STAT, .PIN_TDC_SRC]) ∧
    (166509025220541844793649189078034330918601970401193866584337353616271078083002368 = regMask 
    [.IU_STAT, .IU_GSTAT, .SITE_PSTAT, .SITE_FCOUNT, .SITE_FFPOS_LO, .SITE_FFPOS_HI, .SITE_TAGRES, .SITE_VVAL, .SITE_V, .RAIL_STAT,
     .AWG_CTL, .AWG_STAT, .AWG_POS, .AWG_SAMPLES, .AWG_ARMBY, .LEDG_STAT, .LEDG_LOST, .LEDG_DROP, .ENG_STAT, .ENG_PC, .ENG_UCTL,
     .ENG_USTAT, .ENG_RA_SHADOW, .ENG_PM_STAT, .POD_TIM_STAT, .POD_LVL_STAT, .PIN_LVL_A, .PIN_LVL_B, .PIN_LVL_C, .PIN_LVL_D,
     .PIN_PMU_STAT, .PIN_PMU_RES, .PIN_TDC_SRC]) ∧
    (133393617597367141218538892077269506367963696118960866310457157873328626153291776 = regMask 
    [.IU_STAT, .SITE_PSTAT, .SITE_FCOUNT, .SITE_FFPOS_LO, .SITE_FFPOS_HI, .SITE_TAGRES, .SITE_VVAL, .SITE_V, .SITE_FSTAT, .RAIL_SET,
     .RAIL_STAT, .LEDG_STAT, .LEDG_LOST, .ENG_STAT, .ENG_PC, .ENG_UCTL, .ENG_USTAT, .ENG_RA_STAT, .ENG_PM_STAT, .POD_TIM_STAT,
     .CAP_STAT, .CAP_PFC, .PIN_PMU_STAT, .PIN_TDC_SRC]) ∧
    (6427752177035961102167848369384932819692463645555118592491520 = regMask 
    [.PWR_GSTAT, .ENG_STAT]) ∧
    (133392486843071704868075363003386727430132716516351280589521199606589809919787008 = regMask 
    [.IU_STAT, .SITE_PSTAT, .SITE_FCOUNT, .SITE_FFPOS_LO, .SITE_FFPOS_HI, .SITE_V, .RAIL_STAT, .LEDG_STAT, .LEDG_LOST, .ENG_STAT,
     .ENG_PC, .ENG_GAP, .ENG_UCTL, .ENG_USTAT, .ENG_RA_HOLD, .ENG_PM_STAT, .ENG_PM_PADN, .POD_TIM_STAT, .POD_TIM_COLL, .PIN_PMU_STAT,
     .PIN_TDC_SRC]) ∧
    (133392486815245683052567958766820618658376980370101368854240233170333696111149056 = regMask 
    [.IU_STAT, .SITE_PSTAT, .SITE_FCOUNT, .SITE_FFPOS_LO, .SITE_FFPOS_HI, .SITE_TAGRES, .SITE_V, .RAIL_STAT, .LEDG_STAT, .LEDG_LOST,
     .ENG_STAT, .ENG_PC, .ENG_UCTL, .ENG_USTAT, .ENG_RA_STAT, .ENG_PM_STAT, .POD_TIM_STAT, .PIN_PMU_STAT, .PIN_TDC_SRC]) ∧
    (2941800362856009908756190338736959328852760688297905565272474325152211927040 = regMask 
    [.POD_LVL_MASKED, .CAP_STAT, .CAP_PFC, .CAP_LOST]) ∧
    (133392486815248631796734678368048049037832092077335575370605831484828178964283392 = regMask 
    [.IU_STAT, .SITE_PSTAT, .SITE_V, .RAIL_STAT, .LEDG_STAT, .LEDG_LOST, .ENG_STAT, .ENG_PC, .ENG_UCTL, .ENG_USTAT, .ENG_RA_STAT,
     .ENG_RA_MISP, .ENG_RA_RES, .ENG_RA_SQ, .ENG_PM_STAT, .POD_TIM_STAT, .PIN_PMU_STAT, .PIN_TDC_SRC]) ∧
    (133392486815248842421318015482421464855355157301638547976800204875982596944691200 = regMask 
    [.IU_STAT, .SITE_PSTAT, .SITE_FCOUNT, .SITE_FFPOS_LO, .SITE_FFPOS_HI, .SITE_V, .RAIL_STAT, .LEDG_STAT, .LEDG_LOST, .ENG_STAT,
     .ENG_PC, .ENG_UCTL, .ENG_USTAT, .ENG_RA_STAT, .ENG_RA_SHADOW, .ENG_RA_MISP, .ENG_RA_RES, .ENG_RA_SQ, .ENG_PM_STAT, .POD_TIM_STAT,
     .PIN_PMU_STAT, .PIN_TDC_SRC]) ∧
    (6427752177035961102167848369364650410088811975131171341205504 = regMask 
    [.ENG_STAT]) ∧
    (12554203470773361527671578846415332832204710888928069025792 = regMask 
    [.LEDG_STAT]) ∧
    (3138550867693340381917894711603833208051177722232017256448 = regMask 
    [.LEDG_WR]) ∧
    (0 = regMask 
    []) ∧
    (51422017416287688817342786954917203280710495801049370729644032 = regMask 
    [.ENG_UCTL]) ∧
    (55605005700537381223801984885941342787965050256074932598496720584704 = regMask 
    [.SITE_PSTAT, .ENG_PC, .ENG_USTAT, .ENG_RA_SQ, .ENG_PM_STAT]) ∧
    (26328072917139296674479506920917608079723773850137277813577744384 = regMask 
    [.ENG_RA_QSET]) ∧
    (133392486815356892858281209063403911702647333978180680034505795162913754748813312 = regMask 
    [.IU_STAT, .SITE_PSTAT, .SITE_FCOUNT, .SITE_FFPOS_LO, .SITE_FFPOS_HI, .SITE_V, .RAIL_STAT, .STRM_STAT, .STRM_URCNT, .LEDG_STAT,
     .LEDG_LOST, .ENG_STAT, .ENG_PC, .ENG_GAP, .ENG_UCTL, .ENG_USTAT, .ENG_RA_STAT, .ENG_RA_HOLD, .ENG_PM_STAT, .ENG_PM_UR,
     .POD_TIM_STAT, .PIN_PMU_STAT, .PIN_TDC_SRC]) ∧
    (133392486815249053071612361304938705100081918119961787407346253874729790931468288 = regMask 
    [.IU_STAT, .SITE_PSTAT, .SITE_FCOUNT, .SITE_FFPOS_LO, .SITE_FFPOS_HI, .SITE_V, .RAIL_STAT, .LEDG_STAT, .LEDG_LOST, .ENG_STAT,
     .ENG_PC, .ENG_GAP, .ENG_UCTL, .ENG_USTAT, .ENG_RA_STAT, .ENG_RA_HOLD, .ENG_PM_STAT, .POD_TIM_STAT, .PIN_PMU_STAT, .PIN_TDC_SRC]) ∧
    (784637716923335095479473677900958302012794430558004314112 = regMask 
    [.POOL_RD]) ∧
    (53919893334301279589334030174039261347274288845081144962207220498432 = regMask 
    [.ENG_PM_STAT]) := by decide +kernel

theorem regs_1 :
    (147119571923125330402401314607048670536507577345656225792 = regMask 
    [.PRE_YIELD, .FAB_DROP, .STRM_STAT, .STRM_FED]) ∧
    (49039857307708443467467104868809893875799651909875269632 = regMask 
    [.STRM_STAT]) ∧
    (171639500576979552136134867040834628565298781684563443712 = regMask 
    [.STRM_CFG, .STRM_STAT, .STRM_FED]) ∧
    (57896928042190486903950284153094325385892906074768719829207852807057211129856 = regMask 
    [.POD_LVL_STAT, .PIN_STAT]) ∧
    (3763242900212776351266057012782357005231274501633318331282371480257176713297920 = regMask 
    [.PIN_STAT, .PIN_REARM_CNT]) ∧
    (3879034989450092546689627997791044913084544486298958895321829064265089842937856 = regMask 
    [.PIN_STAT, .PIN_FLAG, .PIN_REARM_CNT]) ∧
    (2035407818624698747679958720855842130233261449200713039756090343889097981952 = regMask 
    [.CAP_STAT, .CAP_LOST]) ∧
    (188162145010638817563302850639117850261563725081665916564118574012858835664896 = regMask 
    [.PIN_CFG, .PIN_STAT, .PIN_FLAG]) ∧
    (86844066927987146567678238756515930889952488499230423029593188005934847229952 = regMask 
    [.PIN_WATCH, .PIN_STAT]) ∧
    (133508278959646406971134191415331329656658496808213987886699196100849921096155136 = regMask 
    [.IU_STAT, .SITE_PSTAT, .SITE_FCOUNT, .SITE_FFPOS_LO, .SITE_FFPOS_HI, .SITE_V, .SITE_FSTAT, .SITE_FSTAMP_LO, .SITE_FSTAMP_HI,
     .RAIL_STAT, .RAIL_FLAG, .AWG_STAT, .AWG_ARMBY, .LEDG_STAT, .LEDG_LOST, .ENG_STAT, .ENG_GAP, .ENG_UCTL, .ENG_USTAT, .ENG_RA_HOLD,
     .POD_TIM_STAT, .POD_TIM_EYE, .PIN_FLAG, .PIN_PMU_STAT, .PIN_TDC_SRC]) ∧
    (2993155353253689176481146537402947624255349848014848 = regMask 
    [.RAIL_FLAG]) ∧
    (1496577676626844588240573268701473812127674924007424 = regMask 
    [.RAIL_STAT]) ∧
    (4489733029880533764721719806104421436383024772022272 = regMask 
    [.RAIL_STAT, .RAIL_FLAG]) ∧
    (1461501637330902918203684832716283019655932542976 = regMask 
    [.SITE_FSTAT]) ∧
    (4491194531517864678024517208006792976463673363005440 = regMask 
    [.FLT_STAT, .SITE_FSTAT, .RAIL_STAT, .RAIL_FLAG]) ∧
    (133392486870409090775710620427329486395551537647067200785256790892586658118500352 = regMask 
    [.IU_STAT, .SITE_PSTAT, .SITE_FCOUNT, .SITE_FFPOS_LO, .SITE_FFPOS_HI, .SITE_V, .SITE_FSTAT, .SITE_FSTAMP_LO, .SITE_FSTAMP_HI,
     .RAIL_STAT, .AWG_STAT, .AWG_ARMBY, .LEDG_STAT, .LEDG_LOST, .ENG_STAT, .ENG_GAP, .ENG_UCTL, .ENG_USTAT, .ENG_RA_HOLD,
     .POD_TIM_STAT, .POD_TIM_EYE, .PIN_PMU_STAT, .PIN_TDC_SRC]) ∧
    (6427752178534000280432023870908021080692657327339494856196096 = regMask 
    [.FLT_STAT, .SITE_FSTAT, .RAIL_STAT, .ENG_STAT]) ∧
    (2192252455996354377305527249074424529483898814464 = regMask 
    [.SITE_FCTL, .SITE_FSTAT]) ∧
    (133392486870409090775710620618891429003787644941860579179045438844929048391450628 = regMask 
    [.GLB_UNITS, .IU_STAT, .SITE_PSTAT, .SITE_FCOUNT, .SITE_FFPOS_LO, .SITE_FFPOS_HI, .SITE_V, .SITE_FSTAT, .SITE_FSTAMP_LO,
     .SITE_FSTAMP_HI, .RAIL_STAT, .AWG_SPAN, .AWG_STAT, .AWG_ARMBY, .LEDG_STAT, .LEDG_LOST, .ENG_STAT, .ENG_GAP, .ENG_UCTL, .ENG_USTAT,
     .ENG_RA_HOLD, .POD_TIM_STAT, .POD_TIM_EYE, .PIN_PMU_STAT, .PIN_TDC_SRC]) ∧
    (13803492693581127574869511724554050904902217944340773110325048447598592 = regMask 
    [.POD_TIM_STAT]) ∧
    (115792103040808889004698559878199632407320899952452225449885951393954235678720 = regMask 
    [.FLT_STAT, .POD_TIM_STAT, .PIN_FLAG]) ∧
    (69017463467905637874347558622770254524511089721703865551625242237992960 = regMask 
    [.POD_TIM_STAT, .POD_TIM_EYE]) ∧
    (348449143727040986586495598010130648530944 = regMask 
    [.IU_CALST]) ∧
    (59285549689505892056868344324448208821222681292535009774788778610061653024178176 = regMask 
    [.IU_CALST, .PIN_TDC_CAL]) := by decide +kernel

theorem regs_2 :
    (118571099379011784113736688648896965704916908564917614112370974567424498639831040 = regMask 
    [.IU_RES, .IU_STAT, .SITE_VVAL, .SITE_V, .PIN_TDC_SRC]) ∧
    (43556142965880123323311949751266331066368 = regMask 
    [.IU_STAT]) ∧
    (118571099379011784113736688648896965704916908575302207829440629824485491298271232 = regMask 
    [.FLT_STAT, .IU_RES, .IU_STAT, .SITE_VVAL, .SITE_V, .PIN_TDC_SRC]) ∧
    (118571099379011784113736688648896417641792020440581817699727877973854311082360832 = regMask 
    [.IU_STAT, .PIN_TDC_SRC]) ∧
    (44464162267129419042651258243336817431337396971030906577555567375286786993422336 = regMask 
    [.SITE_PSTAT, .SITE_FCOUNT, .SITE_FFPOS_LO, .SITE_FFPOS_HI, .SITE_TAGRES, .SITE_VVAL, .SITE_V, .PIN_PMU_STAT, .PIN_PMU_RES]) ∧
    (44579954356366735238074829228345505339190666966081140858664680216355692781502464 = regMask 
    [.FLT_STAT, .SITE_PSTAT, .SITE_FCOUNT, .SITE_FFPOS_LO, .SITE_FFPOS_HI, .SITE_TAGRES, .SITE_VVAL, .SITE_V, .PIN_FLAG, .PIN_PMU_STAT,
     .PIN_PMU_RES]) ∧
    (13026212097360055296056334324494697716016343531219058688 = regMask 
    [.FLT_STAT, .AWG_STAT, .AWG_ARMBY]) ∧
    (13026212097360055296045949730777628060759282538560618496 = regMask 
    [.AWG_STAT, .AWG_ARMBY]) ∧
    (53919893334319286411939204368124971924843304977988665146892877824000 = regMask 
    [.AWG_CTL, .AWG_STAT, .AWG_POS, .AWG_SAMPLES, .AWG_ARMBY, .ENG_PM_STAT]) ∧
    (161759680003167044877145806933540830143735932137529953330856695169024 = regMask 
    [.AWG_CTL, .AWG_STAT, .AWG_POS, .AWG_SAMPLES, .AWG_ARMBY, .STRM_STAT, .STRM_URCNT, .ENG_PM_STAT, .ENG_PM_UR]) ∧
    (191561942608236107294793378393788647952342390272950272 = regMask 
    [.AWG_SPAN]) ∧
    (766247770432944429179173513575154591809369561091801088 = regMask 
    [.AWG_STAT]) ∧
    (957809713041180536484351485686012895018772944023191552 = regMask 
    [.FLT_STAT, .AWG_SPAN, .AWG_STAT]) ∧
    (13217774039968291403340743109171416708711624928833568768 = regMask 
    [.AWG_SPAN, .AWG_STAT, .AWG_ARMBY]) ∧
    (862028741737062482826570202772048915785540756228276224 = regMask 
    [.AWG_CFG, .AWG_STAT]) ∧
    (2091946924697607046226624240879615522739740933900732846415981742330461814784 = regMask 
    [.CAP_WR, .CAP_STAT, .CAP_LOST]) ∧
    (56539106072908298546665520023773392506479484700019806659891398441363832832 = regMask 
    [.CAP_WR]) ∧
    (402841130769472430614013959664523192589712499068942383553223105291134959616 = regMask 
    [.CAP_GSTAT, .CAP_PART, .CAP_WR, .CAP_RD, .CAP_STAT]) ∧
    (339234636437449791279993120142640355038876908200118839959348390648182996992 = regMask 
    [.CAP_RD, .CAP_STAT]) ∧
    (879889838259635396132482155369973420882086980644058241144559888243724648448 = regMask 
    [.CAP_CFG, .CAP_MAPSTART, .CAP_WR, .CAP_RD, .CAP_STAT, .CAP_ELOG]) ∧
    (18831305206160042291507368269622999248307066333392103538688 = regMask 
    [.LEDG_RD, .LEDG_STAT]) ∧
    (237142198758023568227473377297792835283496928595231875152809132048206089502588927 = regMask everyReg) ∧
    (2228224 = regMask 
    [.WT_EPOCH, .WT_STAT]) ∧
    (65536 = regMask 
    [.WT_NOW_HI]) := by decide +kernel

theorem regs_3 :
    (1393796574908163946345982392040522594123776 = regMask 
    [.PMC_CNT_HI]) ∧
    (524288 = regMask 
    [.WT_XTAL]) ∧
    (2097152 = regMask 
    [.WT_STAT]) ∧
    (621690102736823053096058882 = regMask 
    [.GLB_ROLE, .WT_CTL, .WT_OFFSET, .WT_STAT, .FAB_STAT, .FAB_EXT, .FAB_DROP]) ∧
    (79228464745719241250840772608 = regMask 
    [.WT_OFFSET, .WT_STAT, .FAB_STAT, .FAB_PERR]) ∧
    (302231454903657293676544 = regMask 
    [.FAB_STAT]) ∧
    (25165824 = regMask 
    [.WT_WM_LAST_LO, .WT_WM_LAST_HI]) ∧
    (136314880 = regMask 
    [.WT_STAT, .WT_SNAP_CTL]) ∧
    (134217728 = regMask 
    [.WT_SNAP_CTL]) ∧
    (1248841731117714895926000223268308245274427392 = regMask 
    [.WT_SNAP_CTL, .WT_SNAP_ALO, .WT_SNAP_AHI, .PMC_SHD_STAT, .PMC_SHD_OVF, .PMC_SHD_LOSS]) ∧
    (618970019642833073961172992 = regMask 
    [.QP_STAT, .EVR_STAT, .FAB_DROP]) ∧
    (618970019642690137449562112 = regMask 
    [.FAB_DROP]) ∧
    (3473763891826842897846356138777668996354579171364396642160670337463273308291072 = regMask 
    [.PRE_YIELD, .FAB_DROP, .POD_TIM_LOADED_LO, .POD_TIM_LOADED_HI, .POD_LVL_STAT, .PIN_LVL_A, .PIN_LVL_B, .PIN_LVL_C, .PIN_LVL_D]) ∧
    (53919893334301279589334030174039261347274907833990253583823250915328 = regMask 
    [.PRE_YIELD, .FAB_DROP, .ENG_PM_STAT]) ∧
    (53919893335085917306257365269518735025175247147093939392765224812544 = regMask 
    [.POOL_RD, .ENG_PM_STAT]) ∧
    (392318858461667547739736838951098139915505836895032573952 = regMask 
    [.PRE_YIELD, .FAB_DROP, .POOL_STAT]) ∧
    (2982477010144685951405881643385197790900197665569485118349770752 = regMask 
    [.PRE_YIELD, .FAB_DROP, .ENG_USTAT, .ENG_UIMG, .ENG_UINFO, .ENG_USVN]) ∧
    (618988909108621616030416896 = regMask 
    [.PRE_YIELD, .FAB_DROP]) ∧
    (113078212145816597093331040047546785012958969400658602228891418498758082560 = regMask 
    [.PRE_YIELD, .FAB_DROP, .CAP_RD]) ∧
    (6277101735386680763835789423208285405011464066080064929792 = regMask 
    [.PRE_YIELD, .FAB_DROP, .LEDG_RD]) ∧
    (618988909108621616030424064 = regMask 
    [.TRUST_STAT, .TRUST_FWID, .TRUST_FWSVN, .PRE_YIELD, .FAB_DROP]) ∧
    (618970019642691236961189888 = regMask 
    [.QP_HEAD, .FAB_DROP]) ∧
    (618970019643182718658805760 = regMask 
    [.EVR_TAIL, .EVR_STAT, .EVR_LOST, .FAB_DROP]) ∧
    (618970019642760506193739776 = regMask 
    [.EVR_TAIL, .FAB_DROP]) := by decide +kernel

theorem regs_4 :
    (618970019643253087402983424 = regMask 
    [.MSIX_PBA, .FAB_DROP]) ∧
    (3573412790272 = regMask 
    [.QP_CFG, .QP_HEAD, .QP_STAT]) ∧
    (2199023255552 = regMask 
    [.QP_STAT]) ∧
    (87960930222080 = regMask 
    [.EVR_CFG, .EVR_TAIL]) ∧
    (113078212145816603394952704088081770582481945042729946673694461398869868544 = regMask 
    [.QP_STAT, .EVR_STAT, .MSIX_PBA, .MMU_STAT, .MMU_FIDX, .MMU_FLOG0, .MMU_FLOG1, .MMU_FLOG2, .MMU_FLOG3, .MMU_FLOG4, .MMU_FLOG5,
     .MMU_FLOG6, .FAB_DROP, .STRM_CFG, .LEDG_RD, .CAP_RD]) ∧
    (54043195528445952 = regMask 
    [.MMU_STAT, .MMU_INV]) ∧
    (36028797018963968 = regMask 
    [.MMU_INV]) ∧
    (2324000344234786816 = regMask 
    [.QP_STAT, .EVR_STAT, .MMU_STAT, .MMU_FLOG0]) ∧
    (113078212145816603394952704088081770582481945042110976362362366713097355264 = regMask 
    [.QP_STAT, .EVR_CFG, .EVR_STAT, .EVR_LOST, .MMU_STAT, .MMU_FLOG0, .STRM_CFG, .LEDG_RD, .CAP_RD]) ∧
    (16528282690043758247936 = regMask 
    [.PRE_STAT, .PRE_PEND_LO, .PRE_PEND_HI]) ∧
    (16528282692242781503488 = regMask 
    [.QP_STAT, .PRE_STAT, .PRE_PEND_LO, .PRE_PEND_HI]) ∧
    (133392599879600403105363961941345488788762591717432974445388772847545671605026816 = regMask 
    [.QP_STAT, .EVR_STAT, .MMU_STAT, .MMU_FLOG0, .PRE_PEND_LO, .PRE_PEND_HI, .IU_STAT, .SITE_V, .RAIL_STAT, .STRM_CFG, .LEDG_RD,
     .LEDG_STAT, .LEDG_LOST, .ENG_STAT, .ENG_UCTL, .ENG_USTAT, .CAP_RD, .PIN_PMU_STAT, .PIN_TDC_SRC]) ∧
    (1329228006307406206829539396922900480 = regMask 
    [.FAB_DROP, .FAB_PSTAT, .FLT_CAUSE]) ∧
    (1329228105342609349659961388852838400 = regMask 
    [.FAB_DROP, .FAB_PSTAT, .FAB_PLAT, .FAB_PERR, .FLT_CAUSE]) ∧
    (79228162514264337593543950336 = regMask 
    [.FAB_PERR]) ∧
    (79847132533907027730993512448 = regMask 
    [.FAB_DROP, .FAB_PERR]) ∧
    (1329227996712161976548227637279981570 = regMask 
    [.GLB_ROLE, .FAB_DSTAT, .FAB_EXT, .FAB_PRES_LO, .FAB_PRES_HI, .FAB_LOST_LO, .FAB_LOST_HI, .FAB_ORDER_LO, .FAB_ORDER_HI, .FAB_DROP,
     .FLT_CAUSE]) ∧
    (302231454903657293676546 = regMask 
    [.GLB_ROLE, .FAB_STAT]) ∧
    (142936511610880 = regMask 
    [.QP_STAT, .EVR_STAT]) ∧
    (562949953421312 = regMask 
    [.MSIX_PBA]) ∧
    (1329227996404188124001400855023583232 = regMask 
    [.FAB_STAT, .FAB_DROP, .FLT_CAUSE]) ∧
    (302231454903657296822274 = regMask 
    [.GLB_ROLE, .WT_OFFSET, .WT_STAT, .FAB_STAT]) ∧
    (1099511627776 = regMask 
    [.QP_HEAD]) ∧
    (58330670796405857679572992 = regMask 
    [.FAB_STAT, .FAB_LOST_LO, .FAB_LOST_HI]) := by decide +kernel

theorem regs_5 :
    (58028439341502200385896448 = regMask 
    [.FAB_LOST_LO, .FAB_LOST_HI]) ∧
    (927246103644420576999636994 = regMask 
    [.GLB_ROLE, .FAB_DSTAT, .FAB_EXT, .FAB_PRES_LO, .FAB_PRES_HI, .FAB_LOST_LO, .FAB_LOST_HI, .FAB_ORDER_LO, .FAB_ORDER_HI, .FAB_DROP]) ∧
    (678207384803806967010164736 = regMask 
    [.FAB_DSTAT, .FAB_LOST_LO, .FAB_LOST_HI, .FAB_DROP]) ∧
    (620178945462304766624268288 = regMask 
    [.FAB_DSTAT, .FAB_DROP]) ∧
    (1329228011259166363971060496519397376 = regMask 
    [.FAB_DROP, .FAB_PCTL, .FAB_PSTAT, .FLT_CAUSE]) ∧
    (59421121885698253195157962752 = regMask 
    [.FAB_PLAT, .FAB_PASYM]) ∧
    (173688133855974293135356477513031861779904976999739019149748531145703065387012 = regMask 
    [.GLB_UNITS, .WT_WM_LAST_LO, .WT_WM_LAST_HI, .FAB_DROP, .FAB_PSTAT, .PWR_STAT, .PIN_STAT, .PIN_FLAG]) ∧
    (2535301200456458802993406410752 = regMask 
    [.PWR_WAKE]) ∧
    (30423614405477505635920876929024 = regMask 
    [.PWR_EST, .PWR_GSTAT]) ∧
    (133450495993239894690025801064099861039484864297737580502806995228587152694575108 = regMask 
    [.GLB_UNITS, .QP_STAT, .EVR_STAT, .MMU_STAT, .MMU_FLOG0, .THM_T, .THM_DOM, .THM_STAT, .FLT_STAT, .FLT_SAFE, .FLT_FIRST,
     .FLT_SECOND, .FLT_CAUSE, .IU_STAT, .SITE_PSTAT, .SITE_FCOUNT, .SITE_FFPOS_LO, .SITE_FFPOS_HI, .SITE_V, .SITE_FSTAT,
     .SITE_FSTAMP_LO, .SITE_FSTAMP_HI, .RAIL_STAT, .AWG_SPAN, .AWG_STAT, .AWG_ARMBY, .STRM_CFG, .LEDG_RD, .LEDG_STAT, .LEDG_LOST,
     .ENG_STAT, .ENG_GAP, .ENG_UCTL, .ENG_USTAT, .ENG_RA_HOLD, .POD_TIM_STAT, .POD_TIM_EYE, .CAP_RD, .PIN_STAT, .PIN_PMU_STAT,
     .PIN_TDC_SRC]) ∧
    (57896044618658097711785492504343953926636323548492208093465397357847471194112 = regMask 
    [.THM_T, .THM_DOM, .THM_STAT, .FLT_CAUSE, .PIN_STAT]) ∧
    (57896044618658097711785492504343953926634992981857389336582245570268605972480 = regMask 
    [.THM_DOM, .PIN_STAT]) ∧
    (57896044618658097711785492504343953926636322858890281569308602943640927469572 = regMask 
    [.GLB_UNITS, .THM_STAT, .FLT_CAUSE, .PIN_STAT]) ∧
    (10384593717069655257060992658440192 = regMask 
    [.FLT_STAT]) ∧
    (2668840585286901401064675113219129344 = regMask 
    [.FLT_STAT, .FLT_SRC]) ∧
    (674998591609527591708964522798612480 = regMask 
    [.FLT_STAT, .FLT_PEND]) ∧
    (133392599948621236592314015571595517085558227974189088294713529831229305223380992 = regMask 
    [.QP_STAT, .EVR_STAT, .MMU_STAT, .MMU_FLOG0, .FLT_STAT, .FLT_SAFE, .FLT_FIRST, .FLT_SECOND, .IU_STAT, .SITE_PSTAT, .SITE_FCOUNT,
     .SITE_FFPOS_LO, .SITE_FFPOS_HI, .SITE_V, .SITE_FSTAT, .SITE_FSTAMP_LO, .SITE_FSTAMP_HI, .RAIL_STAT, .AWG_SPAN, .AWG_STAT,
     .AWG_ARMBY, .STRM_CFG, .LEDG_RD, .LEDG_STAT, .LEDG_LOST, .ENG_STAT, .ENG_GAP, .ENG_UCTL, .ENG_USTAT, .ENG_RA_HOLD, .POD_TIM_STAT,
     .POD_TIM_EYE, .CAP_RD, .PIN_PMU_STAT, .PIN_TDC_SRC]) ∧
    (51922968585348276285304963292200960 = regMask 
    [.FLT_STAT, .FLT_SAFE]) ∧
    (128 = regMask 
    [.RST_NVSEL]) ∧
    (16 = regMask 
    [.RST_STAT]) ∧
    (17408 = regMask 
    [.TRUST_STAT, .TRUST_RES]) ∧
    (1298074214633706907132624082305024 = regMask 
    [.THM_STAT]) ∧
    (1024 = regMask 
    [.TRUST_STAT]) ∧
    (680564733842495896946391905000985985024 = regMask 
    [.FAB_DROP, .SVP_STAT]) := by decide +kernel

theorem regs_6 :
    (11158539376071414093890980126902543190065152 = regMask 
    [.CLK_XSTAT, .CLK_XOVF, .PMC_LOSS]) ∧
    (2035407818624698747679958720855842138400038255303236162877080922251535056896 = regMask 
    [.CLK_XSTAT, .CLK_XOVF, .CAP_STAT, .CAP_LOST]) ∧
    (1361129467683753853853498429727072845824 = regMask 
    [.CLK_XMODE]) ∧
    (680564733841876926926749214863536422912 = regMask 
    [.SVP_STAT]) ∧
    (340282366920938463463374607431768211456 = regMask 
    [.SVP_MRX]) ∧
    (25088338348346951034227683056729406694227968 = regMask 
    [.PMC_SEL, .PMC_STAT]) ∧
    (5575186299632655785383929568162090376495104 = regMask 
    [.PMC_OVF]) ∧
    (57896044618658097711785492504343953926636321560816066935601695811016845164548 = regMask 
    [.GLB_UNITS, .FLT_CAUSE, .PIN_STAT]) ∧
    (1329227995784915872903807060280344580 = regMask 
    [.GLB_UNITS, .FLT_CAUSE]) := by decide +kernel


/-- Every command answers a next state within its lists. -/
theorem exec_does (c : Instr) (s : State) : DoesO (partMask (partsOf c)) (regMask (regsOf c)) s (exec c s) :=
  match c with
  | .vec site path => (Sys2Proof.Machine.execVec_does site path s).of_eq (parts_0.1) (regs_0.1)
  | .loop site path => (Sys2Proof.Machine.execLoop_does site path s).of_eq (parts_0.1) (regs_0.1)
  | .endl site path => (Sys2Proof.Machine.execEndl_does site path s).of_eq (parts_0.1) (regs_0.1)
  | .jmp site path => (Sys2Proof.Machine.execJmp_does site path s).of_eq (parts_0.1) (regs_0.1)
  | .call site path => (Sys2Proof.Machine.execCall_does site path s).of_eq (parts_0.1) (regs_0.1)
  | .ret site path => (Sys2Proof.Machine.execRet_does site path s).of_eq (parts_0.1) (regs_0.1)
  | .matchW site path => (Sys2Proof.Machine.execMatchW_does site path s).of_eq (parts_0.1) (regs_0.2.1)
  | .jfail site path => (Sys2Proof.Machine.execJfail_does site path s).of_eq (parts_0.1) (regs_0.1)
  | .jpass site path => (Sys2Proof.Machine.execJpass_does site path s).of_eq (parts_0.1) (regs_0.1)
  | .waitt site path => (Sys2Proof.Machine.execWaitt_does site path s).of_eq (parts_0.1) (regs_0.1)
  | .waitev site path => (Sys2Proof.Machine.execWaitev_does site path s).of_eq (parts_0.1) (regs_0.1)
  | .gsync site path => (Sys2Proof.Machine.execGsync_does site path s).of_eq (parts_0.1) (regs_0.1)
  | .setlvl site path => (Sys2Proof.Machine.execSetlvl_does site path s).of_eq (parts_0.1) (regs_0.1)
  | .setload site path => (Sys2Proof.Machine.execSetload_does site path s).of_eq (parts_0.1) (regs_0.1)
  | .cnt site path => (Sys2Proof.Machine.execCnt_does site path s).of_eq (parts_0.1) (regs_0.1)
  | .logon site path => (Sys2Proof.Machine.execLogon_does site path s).of_eq (parts_0.1) (regs_0.1)
  | .logoff site path => (Sys2Proof.Machine.execLogoff_does site path s).of_eq (parts_0.1) (regs_0.1)
  | .meas site path => (Sys2Proof.Machine.execMeas_does site path s).of_eq (parts_0.1) (regs_0.1)
  | .awg site path => (Sys2Proof.Machine.execAwg_does site path s).of_eq (parts_0.1) (regs_0.1)
  | .psafe site path => (Sys2Proof.Machine.execPsafe_does site path s).of_eq (parts_0.1) (regs_0.2.2.1)
  | .ledg site path => (Sys2Proof.Machine.execLedg_does site path s).of_eq (parts_0.1) (regs_0.1)
  | .halt site path => (Sys2Proof.Machine.execHalt_does site path s).of_eq (parts_0.2.1) (regs_0.1)
  | .nop site path => (Sys2Proof.Machine.execNop_does site path s).of_eq (parts_0.1) (regs_0.1)
  | .illegalOpcode site path => (Sys2Proof.Machine.execIllegalOpcode_does site path s).of_eq (parts_0.2.2.1) (regs_0.2.2.2.1)
  | .userOpcode site path => (Sys2Proof.Machine.execUserOpcode_does site path s).of_eq (parts_0.1) (regs_0.2.2.2.1)
  | .shortWord site path => (Sys2Proof.Machine.execShortWord_does site path s).of_eq (parts_0.2.1) (regs_0.2.1)
  | .uUnop pod path => (Sys2Proof.Machine.execUUnop_does pod path s).of_eq (parts_0.1) (regs_0.1)
  | .uMov pod path => (Sys2Proof.Machine.execUMov_does pod path s).of_eq (parts_0.1) (regs_0.1)
  | .uLdi pod path => (Sys2Proof.Machine.execULdi_does pod path s).of_eq (parts_0.1) (regs_0.1)
  | .uLdh pod path => (Sys2Proof.Machine.execULdh_does pod path s).of_eq (parts_0.1) (regs_0.1)
  | .uAdd pod path => (Sys2Proof.Machine.execUAdd_does pod path s).of_eq (parts_0.1) (regs_0.1)
  | .uSub pod path => (Sys2Proof.Machine.execUSub_does pod path s).of_eq (parts_0.1) (regs_0.1)
  | .uAnd pod path => (Sys2Proof.Machine.execUAnd_does pod path s).of_eq (parts_0.1) (regs_0.1)
  | .uOr pod path => (Sys2Proof.Machine.execUOr_does pod path s).of_eq (parts_0.1) (regs_0.1)
  | .uXor pod path => (Sys2Proof.Machine.execUXor_does pod path s).of_eq (parts_0.1) (regs_0.1)
  | .uShl pod path => (Sys2Proof.Machine.execUShl_does pod path s).of_eq (parts_0.1) (regs_0.1)
  | .uShr pod path => (Sys2Proof.Machine.execUShr_does pod path s).of_eq (parts_0.1) (regs_0.1)
  | .uFld pod path => (Sys2Proof.Machine.execUFld_does pod path s).of_eq (parts_0.1) (regs_0.1)
  | .uCmp pod path => (Sys2Proof.Machine.execUCmp_does pod path s).of_eq (parts_0.1) (regs_0.1)
  | .uGets pod path => (Sys2Proof.Machine.execUGets_does pod path s).of_eq (parts_0.1) (regs_0.1)
  | .uUbr pod path => (Sys2Proof.Machine.execUUbr_does pod path s).of_eq (parts_0.1) (regs_0.1)
  | .uUcall pod path => (Sys2Proof.Machine.execUUcall_does pod path s).of_eq (parts_0.1) (regs_0.1)
  | .uUret pod path => (Sys2Proof.Machine.execUUret_does pod path s).of_eq (parts_0.1) (regs_0.1)
  | .uSetpc pod path => (Sys2Proof.Machine.execUSetpc_does pod path s).of_eq (parts_0.1) (regs_0.1)
  | .uIssue pod path => (Sys2Proof.Machine.execUIssue_does pod path s).of_eq (parts_0.1) (regs_0.1)
  | .uLstk pod path => (Sys2Proof.Machine.execULstk_does pod path s).of_eq (parts_0.1) (regs_0.1)
  | .uCstk pod path => (Sys2Proof.Machine.execUCstk_does pod path s).of_eq (parts_0.1) (regs_0.1)
  | .uMctr pod path => (Sys2Proof.Machine.execUMctr_does pod path s).of_eq (parts_0.1) (regs_0.1)
  | .uCond pod path => (Sys2Proof.Machine.execUCond_does pod path s).of_eq (parts_0.1) (regs_0.1)
  | .uSefx pod path => (Sys2Proof.Machine.execUSefx_does pod path s).of_eq (parts_0.1) (regs_0.1)
  | .uWait pod path => (Sys2Proof.Machine.execUWait_does pod path s).of_eq (parts_0.1) (regs_0.1)
  | .uUerr pod path => (Sys2Proof.Machine.execUUerr_does pod path s).of_eq (parts_0.1) (regs_0.1)
  | .uSafept pod path => (Sys2Proof.Machine.execUSafept_does pod path s).of_eq (parts_0.1) (regs_0.1)
  | .uGhalt pod path => (Sys2Proof.Machine.execUGhalt_does pod path s).of_eq (parts_0.2.1) (regs_0.1)
  | .fused site path => (Sys2Proof.Machine.execFused_does site path s).of_eq (parts_0.2.1) (regs_0.2.2.2.2.1)
  | .sideEffectCommit site => (Sys2Proof.Machine.execSideEffectCommit_does site s).of_eq (parts_0.2.2.2.1) (regs_0.2.2.2.2.2.1)
  | .gangStart qp cid => (Sys2Proof.Machine.execGangStart_does qp cid s).of_eq (parts_0.2.2.2.2.1) (regs_0.2.2.2.2.2.2.1)
  | .stepRunReadyCheck qp cid => (Sys2Proof.Machine.execStepRunReadyCheck_does qp cid s).of_eq (parts_0.2.2.2.2.2.1) (regs_0.2.2.2.2.2.2.2.1)
  | .vectorLaunch site => (Sys2Proof.Machine.execVectorLaunch_does site s).of_eq (parts_0.2.2.2.2.2.2.1) (regs_0.2.2.2.2.2.2.2.2.1)
  | .vectorResolve site => (Sys2Proof.Machine.execVectorResolve_does site s).of_eq (parts_0.1) (regs_0.2.2.2.2.2.2.2.2.2.1)
  | .strobe pin => (Sys2Proof.Machine.execStrobe_does pin s).of_eq (parts_0.2.2.2.2.2.2.2.1) (regs_0.2.2.2.2.2.2.2.2.2.2.1)
  | .windowCompare pin => (Sys2Proof.Machine.execWindowCompare_does pin s).of_eq (parts_0.2.2.2.2.2.2.2.2.1) (regs_0.2.2.2.2.2.2.2.2.2.2.1)
  | .branchResolve site => (Sys2Proof.Machine.execBranchResolve_does site s).of_eq (parts_0.1) (regs_0.2.2.2.2.2.2.2.2.2.2.2.1)
  | .matchDecision site => (Sys2Proof.Machine.execMatchDecision_does site s).of_eq (parts_0.1) (regs_0.2.2.2.2.2.2.2.2.2.2.2.2.1)
  | .waittEnd site => (Sys2Proof.Machine.execWaittEnd_does site s).of_eq (parts_0.1) (regs_0.2.2.2.2.2.2.2.2.2.1)
  | .waitevEvent site => (Sys2Proof.Machine.execWaitevEvent_does site s).of_eq (parts_0.1) (regs_0.2.2.2.2.2.2.2.2.2.1)
  | .waitevTimeout site => (Sys2Proof.Machine.execWaitevTimeout_does site s).of_eq (parts_0.1) (regs_0.2.2.2.2.2.2.2.2.2.1)
  | .barrierRelease qp cid bar => (Sys2Proof.Machine.execBarrierRelease_does qp cid bar s).of_eq (parts_0.2.2.2.2.2.2.2.2.2.1) (regs_0.2.2.2.2.2.2.2.2.2.2.2.2.2.1)
  | .gsyncTimeout site => (Sys2Proof.Machine.execGsyncTimeout_does site s).of_eq (parts_0.1) (regs_0.2.2.2.2.2.2.2.2.2.1)
  | .measWaitEnd site => (Sys2Proof.Machine.execMeasWaitEnd_does site s).of_eq (parts_0.1) (regs_0.2.2.2.2.2.2.2.2.2.1)
  | .ledgerCommit site => (Sys2Proof.Machine.execLedgerCommit_does site s).of_eq (parts_0.2.2.2.1) (regs_0.2.2.2.2.2.1)
  | .ledgerHoldRelease site => (Sys2Proof.Machine.execLedgerHoldRelease_does site s).of_eq (parts_0.2.2.2.2.2.2.2.2.2.2.1) (regs_0.2.2.2.2.2.2.2.2.2.2.2.2.2.2.1)
  | .ledgerEntryVisible => (Sys2Proof.Machine.execLedgerEntryVisible_does s).of_eq (parts_0.2.2.2.2.2.2.2.2.2.2.2.1) (regs_0.2.2.2.2.2.2.2.2.2.2.2.2.2.2.2.1)
  | .stepRunCompletion qp cid => (Sys2Proof.Machine.execStepRunCompletion_does qp cid s).of_eq (parts_0.2.2.2.2.2.2.2.2.2.2.2.2.1) (regs_0.2.2.2.2.2.2.2.2.2.2.2.2.2.2.2.2.1)
  | .engUctlStop pod => (Sys2Proof.Machine.execEngUctlStop_does pod s).of_eq (parts_0.2.2.2.2.2.2.2.2.2.1) (regs_0.2.2.2.2.2.2.2.2.2.2.2.2.2.2.2.2.2.1)
  | .stopTaken site => (Sys2Proof.Machine.execStopTaken_does site s).of_eq (parts_0.2.2.2.2.2.2.2.2.2.2.2.2.2.1) (regs_0.2.2.2.2.2.2.2.2.2.2.2.2.2.2.2.2.2.2.1)
  | .engUctlResume pod => (Sys2Proof.Machine.execEngUctlResume_does pod s).of_eq (parts_0.1) (regs_0.1)
  | .engUctlStep pod => (Sys2Proof.Machine.execEngUctlStep_does pod s).of_eq (parts_0.1) (regs_0.1)
  | .breakpoint pod => (Sys2Proof.Machine.execBreakpoint_does pod s).of_eq (parts_0.2.2.2.2.2.2.2.2.2.1) (regs_0.2.2.2.2.2.2.2.2.2.2.2.2.2.2.2.2.1)
  | .routineLimit site => (Sys2Proof.Machine.execRoutineLimit_does site s).of_eq (parts_0.2.2.1) (regs_0.2.2.2.1)
  | .engRaCtlPclr pod => (Sys2Proof.Machine.execEngRaCtlPclr_does pod s).of_eq (parts_0.2.2.2.2.2.2.2.2.2.2.2.2.2.2.1) (regs_0.2.2.2.2.2.2.2.2.2.2.2.2.2.2.2.2.1)
  | .engRaQset pod value => (Sys2Proof.Machine.execEngRaQset_does pod value s).of_eq (parts_0.2.2.2.2.2.2.2.2.2.2.2.2.2.2.2.1) (regs_0.2.2.2.2.2.2.2.2.2.2.2.2.2.2.2.2.2.2.2.1)
  | .segmentCrossing site => (Sys2Proof.Machine.execSegmentCrossing_does site s).of_eq (parts_0.1) (regs_0.2.2.2.1)
  | .underrunDeadline site => (Sys2Proof.Machine.execUnderrunDeadline_does site s).of_eq (parts_0.2.2.2.2.2.2.2.2.2.2.2.2.2.2.2.2.1) (regs_0.2.2.2.2.2.2.2.2.2.2.2.2.2.2.2.2.2.2.2.2.1)
  | .underrunEnd site => (Sys2Proof.Machine.execUnderrunEnd_does site s).of_eq (parts_0.1) (regs_0.1)
  | .stallTimeout site => (Sys2Proof.Machine.execStallTimeout_does site s).of_eq (parts_0.2.2.1) (regs_0.2.2.2.2.2.2.2.2.2.2.2.2.2.2.2.2.2.2.2.2.2.1)
  | .retirement pod seg => (Sys2Proof.Machine.execRetirement_does pod seg s).of_eq (parts_0.2.2.2.2.2.2.2.2.2.2.2.2.2.2.2.2.2.1) (regs_0.2.2.2.2.2.2.2.2.2.2.2.2.2.2.2.2.1)
  | .refillDone pod seg => (Sys2Proof.Machine.execRefillDone_does pod seg s).of_eq (parts_0.2.2.2.2.2.2.2.2.2.2.2.2.2.2.2.2.2.2.1) (regs_0.2.2.2.2.2.2.2.2.2.2.2.2.2.2.2.2.2.2.2.2.2.2.1)
  | .poolError pod seg granule => (Sys2Proof.Machine.execPoolError_does pod seg granule s).of_eq (parts_0.2.2.2.2.2.2.2.2.2.2.2.2.2.2.2.2.2.2.2.1) (regs_0.2.2.2.2.2.2.2.2.2.2.2.2.2.2.2.2.2.2.2.2.2.2.2)
  | .rewind site => (Sys2Proof.Machine.execRewind_does site s).of_eq (parts_0.2.2.2.2.2.2.2.2.2.2.2.2.2.2.2.2.2.2.2.2.1) (regs_0.2.2.2.2.2.2.2.2.2.2.2.2.2.2.2.2.1)
  | .streamGranuleFetch strm walk => (Sys2Proof.Machine.execStreamGranuleFetch_does strm walk s).of_eq (parts_0.2.2.2.2.2.2.2.2.2.2.2.2.2.2.2.2.2.2.2.2.2.1) (regs_1.1)
  | .streamGranuleDeliver strm pod => (Sys2Proof.Machine.execStreamGranuleDeliver_does strm pod s).of_eq (parts_0.2.2.2.2.2.2.2.2.2.2.2.2.2.2.2.2.2.2.1) (regs_0.2.2.2.2.2.2.2.2.2.2.2.2.2.2.2.2.1)
  | .streamUnderrun pod => (Sys2Proof.Machine.execStreamUnderrun_does pod s).of_eq (parts_0.2.2.2.2.2.2.2.2.2.2.2.2.2.2.2.2.1) (regs_0.2.2.2.2.2.2.2.2.2.2.2.2.2.2.2.2.2.2.2.2.1)
  | .streamFeedStop strm cause => (Sys2Proof.Machine.execStreamFeedStop_does strm cause s).of_eq (parts_0.2.2.2.2.2.2.2.2.2.2.2.2.2.2.2.1) (regs_1.2.1)
  | .strmCfgWrite strm value => (Sys2Proof.Machine.execStrmCfgWrite_does strm value s).of_eq (parts_0.2.2.2.2.2.2.2.2.2.2.2.2.2.2.2.2.2.2.2.2.2.2.1) (regs_1.2.2.1)
  | .levelSettleExpiry pod => (Sys2Proof.Machine.execLevelSettleExpiry_does pod s).of_eq (parts_0.2.2.2.2.2.2.2.2.2.2.2.2.2.2.2.2.2.2.2.2.2.2.2) (regs_1.2.2.2.1)
  | .filterSettled pin => (Sys2Proof.Machine.execFilterSettled_does pin s).of_eq (parts_1.1) (regs_1.2.2.2.2.1)
  | .filterDecision pin => (Sys2Proof.Machine.execFilterDecision_does pin s).of_eq (parts_1.1) (regs_1.2.2.2.2.1)
  | .levelRearm pin => (Sys2Proof.Machine.execLevelRearm_does pin s).of_eq (parts_1.2.1) (regs_1.2.2.2.2.2.1)
  | .rateWindow pin => (Sys2Proof.Machine.execRateWindow_does pin s).of_eq (parts_1.2.1) (regs_1.2.2.2.2.2.1)
  | .rawTransition pin raw frac => (Sys2Proof.Machine.execRawTransition_does pin raw frac s).of_eq (parts_1.2.2.1) (regs_1.2.2.2.2.2.2.1)
  | .pinCfgWrite pin value => (Sys2Proof.Machine.execPinCfgWrite_does pin value s).of_eq (parts_1.2.2.2.1) (regs_1.2.2.2.2.2.2.2.1)
  | .pinWatchWrite pin value => (Sys2Proof.Machine.execPinWatchWrite_does pin value s).of_eq (parts_1.2.2.2.1) (regs_1.2.2.2.2.2.2.2.2.1)
  | .siteTrip site => (Sys2Proof.Machine.execSiteTrip_does site s).of_eq (parts_1.2.2.2.2.1) (regs_1.2.2.2.2.2.2.2.2.2.1)
  | .railCrossing rail mon st => (Sys2Proof.Machine.execRailCrossing_does rail mon st s).of_eq (parts_1.2.2.2.2.2.1) (regs_1.2.2.2.2.2.2.2.2.2.2.1)
  | .regulationCheck rail => (Sys2Proof.Machine.execRegulationCheck_does rail s).of_eq (parts_1.2.2.2.2.2.2.1) (regs_1.2.2.2.2.2.2.2.2.2.2.2.1)
  | .noreg rail => (Sys2Proof.Machine.execNoreg_does rail s).of_eq (parts_1.2.2.2.2.2.2.2.1) (regs_1.2.2.2.2.2.2.2.2.2.2.1)
  | .railLimit rail => (Sys2Proof.Machine.execRailLimit_does rail s).of_eq (parts_1.2.2.2.2.2.2.2.2.1) (regs_1.2.2.2.2.2.2.2.2.2.2.2.2.1)
  | .railLimitExit rail => (Sys2Proof.Machine.execRailLimitExit_does rail s).of_eq (parts_0.2.2.2.2.2.2.2.2.2.2.2.2.2.2.2.1) (regs_1.2.2.2.2.2.2.2.2.2.2.2.1)
  | .rampDownEnd rail => (Sys2Proof.Machine.execRampDownEnd_does rail s).of_eq (parts_1.2.2.2.2.2.2.1) (regs_1.2.2.2.2.2.2.2.2.2.2.2.1)
  | .railSequenceDelay rail => (Sys2Proof.Machine.execRailSequenceDelay_does rail s).of_eq (parts_1.2.2.2.2.2.2.1) (regs_1.2.2.2.2.2.2.2.2.2.2.2.1)
  | .windowClose site => (Sys2Proof.Machine.execWindowClose_does site s).of_eq (parts_1.2.2.2.2.2.2.2.2.2.1) (regs_1.2.2.2.2.2.2.2.2.2.2.2.2.2.1)
  | .railCtlOn rail => (Sys2Proof.Machine.execRailCtlOn_does rail s).of_eq (parts_1.2.2.2.2.2.2.1) (regs_1.2.2.2.2.2.2.2.2.2.2.2.2.2.2.1)
  | .railCtlOff rail => (Sys2Proof.Machine.execRailCtlOff_does rail s).of_eq (parts_1.2.2.2.2.2.2.1) (regs_1.2.2.2.2.2.2.2.2.2.2.2.2.1)
  | .fence site => (Sys2Proof.Machine.execFence_does site s).of_eq (parts_1.2.2.2.2.1) (regs_1.2.2.2.2.2.2.2.2.2.2.2.2.2.2.2.1)
  | .unfence site => (Sys2Proof.Machine.execUnfence_does site s).of_eq (parts_1.2.2.2.2.2.2.2.2.2.2.1) (regs_1.2.2.2.2.2.2.2.2.2.2.2.2.2.2.2.2.1)
  | .armReq site on => (Sys2Proof.Machine.execArmReq_does site on s).of_eq (parts_1.2.2.2.2.2.2.2.2.2.1) (regs_1.2.2.2.2.2.2.2.2.2.2.2.2.2.2.2.2.2.1)
  | .dieLinkFail die => (Sys2Proof.Machine.execDieLinkFail_does die s).of_eq (parts_1.2.2.2.2.2.2.2.2.2.2.2.1) (regs_1.2.2.2.2.2.2.2.2.2.2.2.2.2.2.2.2.2.2.1)
  | .recalibration die => (Sys2Proof.Machine.execRecalibration_does die s).of_eq (parts_1.2.2.2.2.2.2.2.2.2.2.2.2.1) (regs_1.2.2.2.2.2.2.2.2.2.2.2.2.2.2.2.2.2.2.2.1)
  | .eyeRun pod => (Sys2Proof.Machine.execEyeRun_does pod s).of_eq (parts_0.2.2.2.2.2.2.2.2.2.2.2.2.2.2.1) (regs_1.2.2.2.2.2.2.2.2.2.2.2.2.2.2.2.2.2.2.2.2.1)
  | .eyeDone pod widths => (Sys2Proof.Machine.execEyeDone_does pod widths s).of_eq (parts_0.2.2.2.2.2.2.2.2.2.2.2.2.2.2.1) (regs_1.2.2.2.2.2.2.2.2.2.2.2.2.2.2.2.2.2.2.2.2.2.1)
  | .iuCalRun dies => (Sys2Proof.Machine.execIuCalRun_does dies s).of_eq (parts_1.2.2.2.2.2.2.2.2.2.2.2.2.1) (regs_1.2.2.2.2.2.2.2.2.2.2.2.2.2.2.2.2.2.2.2.2.2.2.1)
  | .calibration die => (Sys2Proof.Machine.execCalibration_does die s).of_eq (parts_1.2.2.2.2.2.2.2.2.2.2.2.2.1) (regs_1.2.2.2.2.2.2.2.2.2.2.2.2.2.2.2.2.2.2.2.2.2.2.1)
  | .calibrationEnd die resid => (Sys2Proof.Machine.execCalibrationEnd_does die resid s).of_eq (parts_1.2.2.2.2.2.2.2.2.2.2.2.2.2.1) (regs_1.2.2.2.2.2.2.2.2.2.2.2.2.2.2.2.2.2.2.2.2.2.2.2)
  | .unitGrant => (Sys2Proof.Machine.execUnitGrant_does s).of_eq (parts_1.2.2.2.2.2.2.2.2.2.2.2.2.2.2.1) (regs_2.1)
  | .attemptEnd unit => (Sys2Proof.Machine.execAttemptEnd_does unit s).of_eq (parts_1.2.2.2.2.2.2.2.2.2.2.2.2.2.2.2.1) (regs_2.2.1)
  | .attemptTimeout unit => (Sys2Proof.Machine.execAttemptTimeout_does unit s).of_eq (parts_1.2.2.2.2.2.2.2.2.2.2.2.2.2.2.2.2.1) (regs_2.2.1)
  | .iuResult unit => (Sys2Proof.Machine.execIuResult_does unit s).of_eq (parts_1.2.2.2.2.2.2.2.2.2.2.2.2.2.2.2.2.2.1) (regs_2.1)
  | .go unit => (Sys2Proof.Machine.execGo_does unit s).of_eq (parts_1.2.2.2.2.2.2.2.2.2.2.2.2.2.2.2.2.2.1) (regs_2.2.2.1)
  | .abort unit => (Sys2Proof.Machine.execAbort_does unit s).of_eq (parts_1.2.2.2.2.2.2.2.2.2.2.2.2.2.2.2.2.1) (regs_2.2.2.2.1)
  | .connectEnd pin => (Sys2Proof.Machine.execConnectEnd_does pin s).of_eq (parts_1.2.2.2.1) (regs_0.2.2.2.2.2.2.2.2.2.2.2.2.2.2.2.2.1)
  | .settleEnd pin => (Sys2Proof.Machine.execSettleEnd_does pin s).of_eq (parts_1.2.2.2.1) (regs_0.2.2.2.2.2.2.2.2.2.2.2.2.2.2.2.2.1)
  | .conversion pin value clamp ovr => (Sys2Proof.Machine.execConversion_does pin value clamp ovr s).of_eq (parts_1.2.2.2.2.2.2.2.2.2.2.2.2.2.2.2.2.2.2.1) (regs_0.2.2.2.2.2.2.2.2.2.2.2.2.2.2.2.2.1)
  | .triggerTimeout pin => (Sys2Proof.Machine.execTriggerTimeout_does pin s).of_eq (parts_1.2.2.2.1) (regs_0.2.2.2.2.2.2.2.2.2.2.2.2.2.2.2.2.1)
  | .disconnectEnd pin => (Sys2Proof.Machine.execDisconnectEnd_does pin s).of_eq (parts_1.2.2.2.2.2.2.2.2.2.2.2.2.2.2.2.2.2.2.2.1) (regs_2.2.2.2.2.1)
  | .pinPmuGo pin => (Sys2Proof.Machine.execPinPmuGo_does pin s).of_eq (parts_1.2.2.2.2.2.2.2.2.2.2.2.2.2.2.2.2.2.2.2.2.1) (regs_2.2.2.2.2.2.1)
  | .disc pin => (Sys2Proof.Machine.execDisc_does pin s).of_eq (parts_1.2.2.2.1) (regs_0.2.2.2.2.2.2.2.2.2.2.2.2.2.2.2.2.1)
  | .awgStart w => (Sys2Proof.Machine.execAwgStart_does w s).of_eq (parts_1.2.2.2.2.2.2.2.2.2.2.2.2.2.2.2.2.2.2.2.2.2.1) (regs_2.2.2.2.2.2.2.1)
  | .awgStop w => (Sys2Proof.Machine.execAwgStop_does w s).of_eq (parts_1.2.2.2.2.2.2.2.2.2.2.2.2.2.2.2.2.2.2.2.2.2.2.1) (regs_2.2.2.2.2.2.2.2.1)
  | .armFire w => (Sys2Proof.Machine.execArmFire_does w s).of_eq (parts_1.2.2.2.2.2.2.2.2.2.2.2.2.2.2.2.2.2.2.2.2.2.2.2) (regs_2.2.2.2.2.2.2.2.2.1)
  | .playEnd w => (Sys2Proof.Machine.execPlayEnd_does w s).of_eq (parts_2.1) (regs_2.2.2.2.2.2.2.2.1)
  | .waveUnderrun w => (Sys2Proof.Machine.execWaveUnderrun_does w s).of_eq (parts_2.2.1) (regs_2.2.2.2.2.2.2.2.2.2.1)
  | .spanChange w span => (Sys2Proof.Machine.execSpanChange_does w span s).of_eq (parts_1.2.2.2.2.2.2.2.2.2.2.2.2.2.2.2.2.2.2.2.2.2.1) (regs_2.2.2.2.2.2.2.2.2.2.2.1)
  | .unmute w => (Sys2Proof.Machine.execUnmute_does w s).of_eq (parts_1.2.2.2.2.2.2.2.2.2.2.2.2.2.2.2.2.2.2.2.2.2.1) (regs_2.2.2.2.2.2.2.2.2.2.2.2.1)
  | .mute w on => (Sys2Proof.Machine.execMute_does w on s).of_eq (parts_1.2.2.2.2.2.2.2.2.2.2.2.2.2.2.2.2.2.2.2.2.2.1) (regs_2.2.2.2.2.2.2.2.2.2.2.2.2.1)
  | .faultMute w => (Sys2Proof.Machine.execFaultMute_does w s).of_eq (parts_2.1) (regs_2.2.2.2.2.2.2.2.2.2.2.2.2.2.1)
  | .awgCfgWrite w value => (Sys2Proof.Machine.execAwgCfgWrite_does w value s).of_eq (parts_0.2.2.2.2.2.2.2.2.2.2.2.2.2.2.2.1) (regs_2.2.2.2.2.2.2.2.2.2.2.2.2.2.2.1)
  | .recordWrite pod => (Sys2Proof.Machine.execRecordWrite_does pod s).of_eq (parts_2.2.2.1) (regs_2.2.2.2.2.2.2.2.2.2.2.2.2.2.2.2.1)
  | .lossRecord pod => (Sys2Proof.Machine.execLossRecord_does pod s).of_eq (parts_2.2.2.2.1) (regs_2.2.2.2.2.2.2.2.2.2.2.2.2.2.2.2.2.1)
  | .captureThreshold pod => (Sys2Proof.Machine.execCaptureThreshold_does pod s).of_eq (parts_2.2.2.2.2.1) (regs_0.2.2.2.2.2.2.2.2.2.2.2.2.2.2.2.2.1)
  | .apply => (Sys2Proof.Machine.execApply_does s).of_eq (parts_2.2.2.2.1) (regs_2.2.2.2.2.2.2.2.2.2.2.2.2.2.2.2.2.2.1)
  | .capRdWrite pod value => (Sys2Proof.Machine.execCapRdWrite_does pod value s).of_eq (parts_0.2.2.2.2.2.2.2.2.2.2.2.2.2.2.1) (regs_2.2.2.2.2.2.2.2.2.2.2.2.2.2.2.2.2.2.2.1)
  | .capCfgWrite pod reg value => (Sys2Proof.Machine.execCapCfgWrite_does pod reg value s).of_eq (parts_0.2.2.2.2.2.2.2.2.2.2.2.2.2.2.1) (regs_2.2.2.2.2.2.2.2.2.2.2.2.2.2.2.2.2.2.2.2.1)
  | .ledgRdWrite value => (Sys2Proof.Machine.execLedgRdWrite_does value s).of_eq (parts_2.2.2.2.2.2.1) (regs_2.2.2.2.2.2.2.2.2.2.2.2.2.2.2.2.2.2.2.2.2.1)
  | .ledgerThreshold => (Sys2Proof.Machine.execLedgerThreshold_does s).of_eq (parts_2.2.2.2.2.2.2.1) (regs_0.2.2.2.2.2.2.2.2.2.2.2.2.2.2.2.2.1)
  | .tick => (Sys2Proof.Machine.execTick_does s).of_eq (parts_2.2.2.2.2.2.2.2.1) (regs_2.2.2.2.2.2.2.2.2.2.2.2.2.2.2.2.2.2.2.2.2.2.1)
  | .wrap => (Sys2Proof.Machine.execWrap_does s).of_eq (parts_2.2.2.2.2.2.2.2.2.1) (regs_2.2.2.2.2.2.2.2.2.2.2.2.2.2.2.2.2.2.2.2.2.2.2.1)
  | .wtNowLoRead => (Sys2Proof.Machine.execWtNowLoRead_does s).of_eq (parts_2.2.2.2.2.2.2.2.2.2.1) (regs_2.2.2.2.2.2.2.2.2.2.2.2.2.2.2.2.2.2.2.2.2.2.2.2)
  | .pmcCntLoRead pmc => (Sys2Proof.Machine.execPmcCntLoRead_does pmc s).of_eq (parts_2.2.2.2.2.2.2.2.2.2.1) (regs_3.1)
  | .pmcCntLoWrite pmc value => (Sys2Proof.Machine.execPmcCntLoWrite_does pmc value s).of_eq (parts_2.2.2.2.2.2.2.2.2.2.2.1) (regs_0.2.2.2.2.2.2.2.2.2.2.2.2.2.2.2.2.1)
  | .tcompUpdate temp => (Sys2Proof.Machine.execTcompUpdate_does temp s).of_eq (parts_2.2.2.2.2.2.2.2.2.2.2.2.1) (regs_3.2.1)
  | .compensation die temp => (Sys2Proof.Machine.execCompensation_does die temp s).of_eq (parts_1.2.2.2.2.2.2.2.2.2.2.2.2.1) (regs_0.2.2.2.2.2.2.2.2.2.2.2.2.2.2.2.2.1)
  | .ageWrite value => (Sys2Proof.Machine.execAgeWrite_does value s).of_eq (parts_2.2.2.2.2.2.2.2.2.2.2.2.1) (regs_3.2.1)
  | .referenceLost => (Sys2Proof.Machine.execReferenceLost_does s).of_eq (parts_2.2.2.2.2.2.2.2.2.2.2.2.2.1) (regs_3.2.2.1)
  | .referenceRelock => (Sys2Proof.Machine.execReferenceRelock_does s).of_eq (parts_0.2.2.2.2.2.2.2.2.2.2.2.2.2.2.2.1) (regs_3.2.2.1)
  | .masterDevWrite dev => (Sys2Proof.Machine.execMasterDevWrite_does dev s).of_eq (parts_2.2.2.2.2.2.2.2.2.2.2.2.2.2.1) (regs_3.2.2.2.1)
  | .beaconSend frac => (Sys2Proof.Machine.execBeaconSend_does frac s).of_eq (parts_2.2.2.2.2.2.2.2.2.2.2.2.2.2.2.1) (regs_0.2.2.2.2.2.2.2.2.2.2.2.2.2.2.2.2.1)
  | .beacon port flit frac transit => (Sys2Proof.Machine.execBeacon_does port flit frac transit s).of_eq (parts_2.2.2.2.2.2.2.2.2.2.2.2.2.2.2.2.1) (regs_3.2.2.2.2.1)
  | .holdover => (Sys2Proof.Machine.execHoldover_does s).of_eq (parts_2.2.2.2.2.2.2.2.2.2.2.2.2.2.2.2.2.1) (regs_3.2.2.1)
  | .unsync => (Sys2Proof.Machine.execUnsync_does s).of_eq (parts_2.2.2.2.2.2.2.2.2.2.2.2.2.2.2.2.2.1) (regs_3.2.2.1)
  | .upstreamChange => (Sys2Proof.Machine.execUpstreamChange_does s).of_eq (parts_2.2.2.2.2.2.2.2.2.2.2.2.2.2.2.2.2.2.1) (regs_3.2.2.2.2.2.1)
  | .watermark => (Sys2Proof.Machine.execWatermark_does s).of_eq (parts_2.2.2.2.2.2.2.2.2.2.2.2.2.2.2.2.2.2.2.1) (regs_3.2.2.2.2.2.2.1)
  | .arm snap => (Sys2Proof.Machine.execArm_does snap s).of_eq (parts_2.2.2.2.2.2.2.2.2.2.2.2.2.2.2.2.2.2.2.2.1) (regs_3.2.2.2.2.2.2.2.1)
  | .disarm snap => (Sys2Proof.Machine.execDisarm_does snap s).of_eq (parts_2.2.2.2.2.2.2.2.2.2.2.2.2.2.2.2.2.2.2.2.2.1) (regs_3.2.2.2.2.2.2.2.2.1)
  | .snapshotTaken snap => (Sys2Proof.Machine.execSnapshotTaken_does snap s).of_eq (parts_2.2.2.2.2.2.2.2.2.2.2.2.2.2.2.2.2.2.2.2.2.2.1) (regs_3.2.2.2.2.2.2.2.2.2.1)
  | .sqTail dev qp value => (Sys2Proof.Machine.execSqTail_does dev qp value s).of_eq (parts_2.2.2.2.2.2.2.2.2.2.2.2.2.2.2.2.2.2.2.2.2.2.2.1) (regs_3.2.2.2.2.2.2.2.2.2.2.1)
  | .cqHead dev qp value => (Sys2Proof.Machine.execCqHead_does dev qp value s).of_eq (parts_2.2.2.2.2.2.2.2.2.2.2.2.2.2.2.2.2.2.2.2.2.2.2.1) (regs_3.2.2.2.2.2.2.2.2.2.2.1)
  | .evrHead dev evr value => (Sys2Proof.Machine.execEvrHead_does dev evr value s).of_eq (parts_2.2.2.2.2.2.2.2.2.2.2.2.2.2.2.2.2.2.2.2.2.2.2.1) (regs_3.2.2.2.2.2.2.2.2.2.2.1)
  | .descriptorFetch qp walk => (Sys2Proof.Machine.execDescriptorFetch_does qp walk s).of_eq (parts_2.2.2.2.2.2.2.2.2.2.2.2.2.2.2.2.2.2.2.2.2.2.2.2) (regs_3.2.2.2.2.2.2.2.2.2.2.2.1)
  | .nopCommand qp cid => (Sys2Proof.Machine.execNopCommand_does qp cid s).of_eq (parts_3.1) (regs_0.2.2.2.2.2.2.2.2.2.2.2.2.2.2.2.2.1)
  | .stepRun qp cid => (Sys2Proof.Machine.execStepRun_does qp cid s).of_eq (parts_0.2.2.2.2.2.2.2.2.2.2.2.2.1) (regs_0.2.2.2.2.2.2.2.2.2.2.2.2.2.1)
  | .tblLoad qp cid walk => (Sys2Proof.Machine.execTblLoad_does qp cid walk s).of_eq (parts_3.2.1) (regs_3.2.2.2.2.2.2.2.2.2.2.2.2.1)
  | .segLoad qp cid walk => (Sys2Proof.Machine.execSegLoad_does qp cid walk s).of_eq (parts_3.2.2.1) (regs_3.2.2.2.2.2.2.2.2.2.2.2.2.2.1)
  | .refill qp cid => (Sys2Proof.Machine.execRefill_does qp cid s).of_eq (parts_3.2.2.2.1) (regs_3.2.2.2.2.2.2.2.2.2.2.2.2.2.2.1)
  | .poolLoad qp cid walk => (Sys2Proof.Machine.execPoolLoad_does qp cid walk s).of_eq (parts_3.2.2.2.2.1) (regs_3.2.2.2.2.2.2.2.2.2.2.2.2.2.2.2.1)
  | .ucodeLoad qp cid walk => (Sys2Proof.Machine.execUcodeLoad_does qp cid walk s).of_eq (parts_3.2.2.2.2.2.1) (regs_3.2.2.2.2.2.2.2.2.2.2.2.2.2.2.2.2.1)
  | .stream qp cid walk => (Sys2Proof.Machine.execStream_does qp cid walk s).of_eq (parts_3.2.2.2.2.2.2.1) (regs_3.2.2.2.2.2.2.2.2.2.2.2.2.2.2.2.2.2.1)
  | .capUpload qp cid walk => (Sys2Proof.Machine.execCapUpload_does qp cid walk s).of_eq (parts_3.2.2.2.2.2.1) (regs_3.2.2.2.2.2.2.2.2.2.2.2.2.2.2.2.2.2.2.1)
  | .ledgDrain qp cid walk => (Sys2Proof.Machine.execLedgDrain_does qp cid walk s).of_eq (parts_3.2.2.2.2.2.2.2.1) (regs_3.2.2.2.2.2.2.2.2.2.2.2.2.2.2.2.2.2.2.2.1)
  | .snapshot qp cid => (Sys2Proof.Machine.execSnapshot_does qp cid s).of_eq (parts_2.2.2.2.2.2.2.2.2.2.2.2.2.2.2.2.2.2.2.2.2.1) (regs_3.2.2.2.2.2.2.2.2.1)
  | .fwLoad qp cid walk => (Sys2Proof.Machine.execFwLoad_does qp cid walk s).of_eq (parts_3.2.2.2.2.2.2.2.2.1) (regs_3.2.2.2.2.2.2.2.2.2.2.2.2.2.2.2.2.2.2.2.2.1)
  | .mtpWrite qp cid walk verified => (Sys2Proof.Machine.execMtpWrite_does qp cid walk verified s).of_eq (parts_3.2.2.2.2.2.2.2.2.2.1) (regs_3.2.2.2.2.2.2.2.2.2.2.2.2.2.2.2.2.2.1)
  | .attest qp cid walk => (Sys2Proof.Machine.execAttest_does qp cid walk s).of_eq (parts_3.2.2.2.2.2.2.1) (regs_3.2.2.2.2.2.2.2.2.2.2.2.2.2.2.2.2.2.1)
  | .heldLoadRelease qp cid => (Sys2Proof.Machine.execHeldLoadRelease_does qp cid s).of_eq (parts_3.1) (regs_0.2.2.2.2.2.2.2.2.2.2.2.2.2.2.2.2.1)
  | .completionWrite qp walk => (Sys2Proof.Machine.execCompletionWrite_does qp walk s).of_eq (parts_3.2.2.2.2.2.2.2.2.2.2.1) (regs_3.2.2.2.2.2.2.2.2.2.2.2.2.2.2.2.2.2.2.2.2.2.1)
  | .eventRecordWrite evr walk => (Sys2Proof.Machine.execEventRecordWrite_does evr walk s).of_eq (parts_3.2.2.2.2.2.2.2.2.2.2.2.1) (regs_3.2.2.2.2.2.2.2.2.2.2.2.2.2.2.2.2.2.2.2.2.2.2.1)
  | .rloss evr walk => (Sys2Proof.Machine.execRloss_does evr walk s).of_eq (parts_3.2.2.2.2.2.2.2.2.2.2.2.1) (regs_3.2.2.2.2.2.2.2.2.2.2.2.2.2.2.2.2.2.2.2.2.2.2.2)
  | .interrupt ring => (Sys2Proof.Machine.execInterrupt_does ring s).of_eq (parts_3.2.2.2.2.2.2.2.2.2.2.2.2.1) (regs_4.1)
  | .interruptTime ring => (Sys2Proof.Machine.execInterruptTime_does ring s).of_eq (parts_3.2.2.2.2.2.2.2.2.2.2.2.2.1) (regs_4.1)
  | .qpCfgEn qp on => (Sys2Proof.Machine.execQpCfgEn_does qp on s).of_eq (parts_3.1) (regs_4.2.1)
  | .drainEnd qp => (Sys2Proof.Machine.execDrainEnd_does qp s).of_eq (parts_3.2.2.2.2.2.2.2.2.2.2.2.2.2.1) (regs_4.2.2.1)
  | .evrCfgEn evr on => (Sys2Proof.Machine.execEvrCfgEn_does evr on s).of_eq (parts_3.2.2.2.2.2.2.2.2.2.2.2.2.2.2.1) (regs_4.2.2.2.1)
  | .flush qp => (Sys2Proof.Machine.execFlush_does qp s).of_eq (parts_3.2.2.2.2.2.2.2.2.2.2.2.2.2.2.2.1) (regs_0.2.2.2.2.2.2.2.2.2.2.2.2.2.1)
  | .d3hot on => (Sys2Proof.Machine.execD3hot_does on s).of_eq (parts_3.2.2.2.2.2.2.2.2.2.2.2.2.2.2.2.2.1) (regs_0.2.2.2.2.2.2.2.2.2.2.2.2.2.2.2.2.1)
  | .translationFault => (Sys2Proof.Machine.execTranslationFault_does s).of_eq (parts_3.2.2.2.2.2.2.2.2.2.2.2.2.2.2.2.2.2.1) (regs_4.2.2.2.2.1)
  | .mmuInv op asid => (Sys2Proof.Machine.execMmuInv_does op asid s).of_eq (parts_3.2.2.2.2.2.2.2.2.2.2.2.2.2.2.2.2.2.2.1) (regs_4.2.2.2.2.2.1)
  | .invalidationDone => (Sys2Proof.Machine.execInvalidationDone_does s).of_eq (parts_0.2.2.2.2.2.2.2.2.2.2.2.2.2.2.2.1) (regs_4.2.2.2.2.2.2.1)
  | .retry slot gen walk => (Sys2Proof.Machine.execRetry_does slot gen walk s).of_eq (parts_3.2.2.2.2.2.2.2.2.2.2.2.2.2.2.2.2.2.2.2.1) (regs_4.2.2.2.2.2.2.2.1)
  | .faultAbort slot gen => (Sys2Proof.Machine.execFaultAbort_does slot gen s).of_eq (parts_3.2.2.2.2.2.2.2.2.2.2.2.2.2.2.2.2.2.2.2.2.1) (regs_4.2.2.2.2.2.2.2.2.1)
  | .ftmo slot => (Sys2Proof.Machine.execFtmo_does slot s).of_eq (parts_3.2.2.2.2.2.2.2.2.2.2.2.2.2.2.2.2.2.2.2.2.1) (regs_4.2.2.2.2.2.2.2.2.1)
  | .preempt qp => (Sys2Proof.Machine.execPreempt_does qp s).of_eq (parts_0.2.2.2.2.2.2.2.2.2.1) (regs_4.2.2.2.2.2.2.2.2.2.1)
  | .preempted qp => (Sys2Proof.Machine.execPreempted_does qp s).of_eq (parts_3.2.2.2.2.2.2.2.2.2.2.2.2.2.1) (regs_4.2.2.1)
  | .resume qp => (Sys2Proof.Machine.execResume_does qp s).of_eq (parts_3.2.2.2.2.2.2.2.2.2.2.2.2.2.2.2.2.2.2.2.2.2.1) (regs_4.2.2.2.2.2.2.2.2.2.2.1)
  | .gangRestart site => (Sys2Proof.Machine.execGangRestart_does site s).of_eq (parts_3.2.2.2.2.2.2.2.2.2.2.2.2.2.2.2.2.2.2.2.2.2.2.1) (regs_0.1)
  | .discard qp => (Sys2Proof.Machine.execDiscard_does qp s).of_eq (parts_3.2.2.2.2.2.2.2.2.2.2.2.2.2.2.2.2.2.2.2.2.2.2.2) (regs_4.2.2.2.2.2.2.2.2.2.2.2.1)
  | .signalDetect port => (Sys2Proof.Machine.execSignalDetect_does port s).of_eq (parts_4.1) (regs_4.2.2.2.2.2.2.2.2.2.2.2.2.1)
  | .trainingDone port working peer depart => (Sys2Proof.Machine.execTrainingDone_does port working peer depart s).of_eq (parts_4.1) (regs_4.2.2.2.2.2.2.2.2.2.2.2.2.1)
  | .trainingTimeout port => (Sys2Proof.Machine.execTrainingTimeout_does port s).of_eq (parts_4.1) (regs_4.2.2.2.2.2.2.2.2.2.2.2.2.1)
  | .trainingRetry port => (Sys2Proof.Machine.execTrainingRetry_does port s).of_eq (parts_2.2.2.2.2.2.2.2.2.2.2.2.2.2.2.2.2.2.1) (regs_0.2.2.2.2.2.2.2.2.2.2.2.2.2.2.2.2.1)
  | .latencyMeasurement port => (Sys2Proof.Machine.execLatencyMeasurement_does port s).of_eq (parts_4.2.1) (regs_4.2.2.2.2.2.2.2.2.2.2.2.2.2.1)
  | .retrain port lockLost => (Sys2Proof.Machine.execRetrain_does port lockLost s).of_eq (parts_4.1) (regs_4.2.2.2.2.2.2.2.2.2.2.2.2.1)
  | .lmeas port flit arrive depart => (Sys2Proof.Machine.execLmeas_does port flit arrive depart s).of_eq (parts_4.1) (regs_4.2.2.2.2.2.2.2.2.2.2.2.2.2.2.1)
  | .nak port flit => (Sys2Proof.Machine.execNak_does port flit s).of_eq (parts_4.1) (regs_4.2.2.2.2.2.2.2.2.2.2.2.2.2.2.1)
  | .routedFlit port flit => (Sys2Proof.Machine.execRoutedFlit_does port flit s).of_eq (parts_4.2.1) (regs_4.2.2.2.2.2.2.2.2.2.2.2.2.2.2.2.1)
  | .packetDrop port => (Sys2Proof.Machine.execPacketDrop_does port s).of_eq (parts_4.2.2.1) (regs_3.2.2.2.2.2.2.2.2.2.2.2.1)
  | .probe => (Sys2Proof.Machine.execProbe_does s).of_eq (parts_4.2.2.2.1) (regs_3.2.2.2.2.2.2.2.2.2.2.2.1)
  | .reply => (Sys2Proof.Machine.execReply_does s).of_eq (parts_4.2.1) (regs_4.2.2.2.2.2.2.2.2.2.2.2.2.2.2.2.2.1)
  | .assign => (Sys2Proof.Machine.execAssign_does s).of_eq (parts_4.2.2.2.2.1) (regs_4.2.2.2.2.2.2.2.2.2.2.2.2.2.2.2.2.2.1)
  | .regRd => (Sys2Proof.Machine.execRegRd_does s).of_eq (parts_2.2.2.2.2.2.2.2.1) (regs_2.2.2.2.2.2.2.2.2.2.2.2.2.2.2.2.2.2.2.2.2.2.1)
  | .regWr => (Sys2Proof.Machine.execRegWr_does s).of_eq (parts_2.2.2.2.2.2.2.2.1) (regs_2.2.2.2.2.2.2.2.2.2.2.2.2.2.2.2.2.2.2.2.2.2.1)
  | .regCpl => (Sys2Proof.Machine.execRegCpl_does s).of_eq (parts_4.2.2.2.1) (regs_3.2.2.2.2.2.2.2.2.2.2.2.1)
  | .relayedReadTimeout dev tag => (Sys2Proof.Machine.execRelayedReadTimeout_does dev tag s).of_eq (parts_4.2.1) (regs_3.2.2.2.2.2.2.2.2.2.2.2.1)
  | .doorbell => (Sys2Proof.Machine.execDoorbell_does s).of_eq (parts_4.2.2.2.2.2.1) (regs_4.2.2.2.2.2.2.2.2.2.2.2.2.2.2.2.2.2.2.1)
  | .irq => (Sys2Proof.Machine.execIrq_does s).of_eq (parts_4.2.2.2.2.2.2.1) (regs_4.2.2.2.2.2.2.2.2.2.2.2.2.2.2.2.2.2.2.2.1)
  | .heartbeat => (Sys2Proof.Machine.execHeartbeat_does s).of_eq (parts_4.2.2.2.2.2.2.2.1) (regs_4.2.2.2.2.2.2.2.2.2.2.2.2.2.2.2.2.2.2.2.2.1)
  | .hbReply => (Sys2Proof.Machine.execHbReply_does s).of_eq (parts_4.2.2.2.2.1) (regs_0.2.2.2.2.2.2.2.2.2.2.2.2.2.2.2.2.1)
  | .heartbeatSend => (Sys2Proof.Machine.execHeartbeatSend_does s).of_eq (parts_4.2.2.2.1) (regs_3.2.2.2.2.2.2.2.2.2.2.2.1)
  | .fabricRst => (Sys2Proof.Machine.execFabricRst_does s).of_eq (parts_4.2.2.2.2.2.2.2.2.1) (regs_2.2.2.2.2.2.2.2.2.2.2.2.2.2.2.2.2.2.2.2.2.2.1)
  | .master => (Sys2Proof.Machine.execMaster_does s).of_eq (parts_4.2.2.2.2.2.2.2.2.2.1) (regs_4.2.2.2.2.2.2.2.2.2.2.2.2.2.2.2.2.2.2.2.2.2.1)
  | .sleep => (Sys2Proof.Machine.execSleep_does s).of_eq (parts_4.2.2.2.2.1) (regs_0.2.2.2.2.2.2.2.2.2.2.2.2.2.2.2.2.1)
  | .wake => (Sys2Proof.Machine.execWake_does s).of_eq (parts_4.2.2.2.2.2.2.2.2.2.2.1) (regs_3.2.2.2.2.2.2.2.2.2.2.2.1)
  | .dmaRd => (Sys2Proof.Machine.execDmaRd_does s).of_eq (parts_4.2.2.2.2.2.2.1) (regs_0.2.2.2.2.2.2.2.2.2.2.2.2.2.2.2.2.1)
  | .dmaWr => (Sys2Proof.Machine.execDmaWr_does s).of_eq (parts_4.2.2.2.2.2.2.1) (regs_0.2.2.2.2.2.2.2.2.2.2.2.2.2.2.2.2.1)
  | .dmaCpl => (Sys2Proof.Machine.execDmaCpl_does s).of_eq (parts_4.2.2.2.2.2.2.2.2.2.2.2.1) (regs_4.2.2.2.2.2.2.2.2.2.2.2.2.2.2.2.2.2.2.2.2.2.2.1)
  | .dmaTimeout dev tag => (Sys2Proof.Machine.execDmaTimeout_does dev tag s).of_eq (parts_4.2.2.2.1) (regs_3.2.2.2.2.2.2.2.2.2.2.2.1)
  | .pseqGap dev => (Sys2Proof.Machine.execPseqGap_does dev s).of_eq (parts_4.2.2.2.2.2.2.2.2.2.2.2.2.1) (regs_4.2.2.2.2.2.2.2.2.2.2.2.2.2.2.2.2.2.2.2.2.2.2.2)
  | .memberLost dev rings => (Sys2Proof.Machine.execMemberLost_does dev rings s).of_eq (parts_4.2.2.2.2.2.2.2.2.2.2.2.2.1) (regs_5.1)
  | .isolated => (Sys2Proof.Machine.execIsolated_does s).of_eq (parts_4.2.2.2.2.2.2.2.2.2.2.2.2.2.1) (regs_3.2.2.2.2.2.1)
  | .isotmo => (Sys2Proof.Machine.execIsotmo_does s).of_eq (parts_1.2.2.2.2.1) (regs_1.2.2.2.2.2.2.2.2.2.2.2.2.2.2.2.1)
  | .discovery => (Sys2Proof.Machine.execDiscovery_does s).of_eq (parts_4.2.1) (regs_5.2.1)
  | .start => (Sys2Proof.Machine.execStart_does s).of_eq (parts_4.2.1) (regs_5.2.1)
  | .fabFence dev => (Sys2Proof.Machine.execFabFence_does dev s).of_eq (parts_4.2.1) (regs_5.2.2.1)
  | .rejoin dev => (Sys2Proof.Machine.execRejoin_does dev s).of_eq (parts_4.2.2.2.1) (regs_5.2.2.2.1)
  | .portRetrain port => (Sys2Proof.Machine.execPortRetrain_does port s).of_eq (parts_4.1) (regs_4.2.2.2.2.2.2.2.2.2.2.2.2.1)
  | .portUnfence port => (Sys2Proof.Machine.execPortUnfence_does port s).of_eq (parts_4.1) (regs_4.2.2.2.2.2.2.2.2.2.2.2.2.1)
  | .disable port on => (Sys2Proof.Machine.execDisable_does port on s).of_eq (parts_4.1) (regs_5.2.2.2.2.1)
  | .fabPasymWrite port value => (Sys2Proof.Machine.execFabPasymWrite_does port value s).of_eq (parts_0.2.2.2.2.2.2.2.2.2.2.2.2.2.2.2.1) (regs_5.2.2.2.2.2.1)
  | .powerStateChange deep => (Sys2Proof.Machine.execPowerStateChange_does deep s).of_eq (parts_4.2.2.2.2.2.2.2.2.2.2.2.2.2.2.1) (regs_5.2.2.2.2.2.2.1)
  | .wakeRequest => (Sys2Proof.Machine.execWakeRequest_does s).of_eq (parts_4.2.2.2.2.2.2.2.2.2.2.2.2.2.2.2.1) (regs_5.2.2.2.2.2.2.2.1)
  | .wakeN crystals => (Sys2Proof.Machine.execWakeN_does crystals s).of_eq (parts_4.2.2.2.2.2.2.2.2.2.2.2.2.2.2.2.2.1) (regs_0.2.2.2.2.2.2.2.2.2.2.2.2.2.2.2.2.1)
  | .powerEstimate est => (Sys2Proof.Machine.execPowerEstimate_does est s).of_eq (parts_3.2.2.2.2.2.2.2.2.2.2.2.2.2.1) (regs_5.2.2.2.2.2.2.2.2.1)
  | .sensorReading sensor temp broken => (Sys2Proof.Machine.execSensorReading_does sensor temp broken s).of_eq (parts_4.2.2.2.2.2.2.2.2.2.2.2.2.2.2.2.2.2.1) (regs_5.2.2.2.2.2.2.2.2.2.1)
  | .sensorRecover sensor => (Sys2Proof.Machine.execSensorRecover_does sensor s).of_eq (parts_4.2.2.2.2.2.2.2.2.2.2.2.2.2.2.2.2.2.2.1) (regs_5.2.2.2.2.2.2.2.2.2.2.1)
  | .levelLower die => (Sys2Proof.Machine.execLevelLower_does die s).of_eq (parts_4.2.2.2.2.2.2.2.2.2.2.2.2.2.2.2.2.2.2.2.1) (regs_5.2.2.2.2.2.2.2.2.2.2.2.1)
  | .shutClear => (Sys2Proof.Machine.execShutClear_does s).of_eq (parts_4.2.2.2.2.2.2.2.2.2.2.2.2.2.2.2.2.2.2.2.2.1) (regs_5.2.2.2.2.2.2.2.2.2.2.2.2.1)
  | .release => (Sys2Proof.Machine.execRelease_does s).of_eq (parts_4.2.2.2.2.2.2.2.2.2.2.2.2.2.2.2.2.2.2.2.1) (regs_5.2.2.2.2.2.2.2.2.2.2.2.1)
  | .faultDetected events => (Sys2Proof.Machine.execFaultDetected_does events s).of_eq (parts_4.2.2.2.2.2.2.2.2.2.2.2.2.2.2.2.2.2.2.2.2.2.1) (regs_2.2.2.2.2.2.2.2.2.2.2.2.2.2.2.2.2.2.2.2.2.2.1)
  | .force src => (Sys2Proof.Machine.execForce_does src s).of_eq (parts_4.2.2.2.2.2.2.2.2.2.2.2.2.2.2.2.2.2.2.2.2.2.2.1) (regs_5.2.2.2.2.2.2.2.2.2.2.2.2.2.1)
  | .fltSrcWrite src value => (Sys2Proof.Machine.execFltSrcWrite_does src value s).of_eq (parts_4.2.2.2.2.2.2.2.2.2.2.2.2.2.2.2.2.2.2.2.2.2.2.1) (regs_5.2.2.2.2.2.2.2.2.2.2.2.2.2.2.1)
  | .fltPendClear word value => (Sys2Proof.Machine.execFltPendClear_does word value s).of_eq (parts_4.2.2.2.2.2.2.2.2.2.2.2.2.2.2.2.2.2.2.2.2.2.2.2) (regs_5.2.2.2.2.2.2.2.2.2.2.2.2.2.2.2.1)
  | .collectorSweep bad => (Sys2Proof.Machine.execCollectorSweep_does bad s).of_eq (parts_4.2.2.2.2.2.2.2.2.1) (regs_2.2.2.2.2.2.2.2.2.2.2.2.2.2.2.2.2.2.2.2.2.2.1)
  | .enter => (Sys2Proof.Machine.execEnter_does s).of_eq (parts_5.1) (regs_5.2.2.2.2.2.2.2.2.2.2.2.2.2.2.2.2.1)
  | .exit => (Sys2Proof.Machine.execExit_does s).of_eq (parts_0.2.2.2.2.2.2.2.2.2.2.2.2.2.2.2.1) (regs_5.2.2.2.2.2.2.2.2.2.2.2.2.2.2.2.2.2.1)
  | .safeEsc unconfirmed => (Sys2Proof.Machine.execSafeEsc_does unconfirmed s).of_eq (parts_4.2.2.2.2.2.2.2.2.1) (regs_2.2.2.2.2.2.2.2.2.2.2.2.2.2.2.2.2.2.2.2.2.2.1)
  | .nvRecordWrite verified => (Sys2Proof.Machine.execNvRecordWrite_does verified s).of_eq (parts_5.2.1) (regs_5.2.2.2.2.2.2.2.2.2.2.2.2.2.2.2.2.2.2.1)
  | .liveCauseRedetect => (Sys2Proof.Machine.execLiveCauseRedetect_does s).of_eq (parts_5.2.2.1) (regs_0.2.2.2.2.2.2.2.2.2.2.2.2.2.2.2.2.1)
  | .por low => (Sys2Proof.Machine.execPor_does low s).of_eq (parts_4.2.2.2.2.2.2.2.2.1) (regs_2.2.2.2.2.2.2.2.2.2.2.2.2.2.2.2.2.2.2.2.2.2.1)
  | .resetN low samples => (Sys2Proof.Machine.execResetN_does low samples s).of_eq (parts_4.2.2.2.2.2.2.2.2.1) (regs_2.2.2.2.2.2.2.2.2.2.2.2.2.2.2.2.2.2.2.2.2.2.1)
  | .perstN low samples => (Sys2Proof.Machine.execPerstN_does low samples s).of_eq (parts_4.2.2.2.2.2.2.2.2.1) (regs_2.2.2.2.2.2.2.2.2.2.2.2.2.2.2.2.2.2.2.2.2.2.1)
  | .wdog crash => (Sys2Proof.Machine.execWdog_does crash s).of_eq (parts_5.2.2.2.1) (regs_2.2.2.2.2.2.2.2.2.2.2.2.2.2.2.2.2.2.2.2.2.2.1)
  | .wdogWarn => (Sys2Proof.Machine.execWdogWarn_does s).of_eq (parts_5.2.2.1) (regs_0.2.2.2.2.2.2.2.2.2.2.2.2.2.2.2.2.1)
  | .wdfire => (Sys2Proof.Machine.execWdfire_does s).of_eq (parts_4.2.2.2.2.2.2.2.2.1) (regs_2.2.2.2.2.2.2.2.2.2.2.2.2.2.2.2.2.2.2.2.2.2.1)
  | .resetRelease boot => (Sys2Proof.Machine.execResetRelease_does boot s).of_eq (parts_5.2.2.2.2.1) (regs_2.2.2.2.2.2.2.2.2.2.2.2.2.2.2.2.2.2.2.2.2.2.1)
  | .deferredReset verified => (Sys2Proof.Machine.execDeferredReset_does verified s).of_eq (parts_5.2.2.2.2.2.1) (regs_2.2.2.2.2.2.2.2.2.2.2.2.2.2.2.2.2.2.2.2.2.2.1)
  | .continueW => (Sys2Proof.Machine.execContinueW_does s).of_eq (parts_0.2.2.2.2.2.2.2.2.2.2.2.2.2.2.2.1) (regs_5.2.2.2.2.2.2.2.2.2.2.2.2.2.2.2.2.2.2.2.1)
  | .rollupFw value verified => (Sys2Proof.Machine.execRollupFw_does value verified s).of_eq (parts_5.2.2.1) (regs_5.2.2.2.2.2.2.2.2.2.2.2.2.2.2.2.2.2.2.2.2.1)
  | .rollupUc value verified => (Sys2Proof.Machine.execRollupUc_does value verified s).of_eq (parts_5.2.2.1) (regs_5.2.2.2.2.2.2.2.2.2.2.2.2.2.2.2.2.2.2.2.2.1)
  | .revoke value verified => (Sys2Proof.Machine.execRevoke_does value verified s).of_eq (parts_5.2.2.1) (regs_5.2.2.2.2.2.2.2.2.2.2.2.2.2.2.2.2.2.2.2.2.1)
  | .ack => (Sys2Proof.Machine.execAck_does s).of_eq (parts_5.2.2.2.2.2.2.1) (regs_0.2.2.2.2.2.2.2.2.2.2.2.2.2.2.2.2.1)
  | .priorshutClear => (Sys2Proof.Machine.execPriorshutClear_does s).of_eq (parts_5.2.2.2.2.2.2.1) (regs_5.2.2.2.2.2.2.2.2.2.2.2.2.2.2.2.2.2.2.2.2.2.1)
  | .mtplock => (Sys2Proof.Machine.execMtplock_does s).of_eq (parts_0.2.2.2.2.2.2.2.2.2.2.2.2.2.2.2.1) (regs_5.2.2.2.2.2.2.2.2.2.2.2.2.2.2.2.2.2.2.2.2.2.2.1)
  | .crossingTimeout x die offset write => (Sys2Proof.Machine.execCrossingTimeout_does x die offset write s).of_eq (parts_5.2.2.2.2.2.2.2.1) (regs_5.2.2.2.2.2.2.2.2.2.2.2.2.2.2.2.2.2.2.2.2.2.2.2)
  | .crossingTransfer x ev => (Sys2Proof.Machine.execCrossingTransfer_does x ev s).of_eq (parts_5.2.2.2.2.2.2.2.2.1) (regs_6.1)
  | .crossingFlush x => (Sys2Proof.Machine.execCrossingFlush_does x s).of_eq (parts_5.2.2.2.2.2.2.2.2.2.1) (regs_6.2.1)
  | .shadowWriteApply => (Sys2Proof.Machine.execShadowWriteApply_does s).of_eq (parts_2.2.2.2.2.2.2.2.1) (regs_2.2.2.2.2.2.2.2.2.2.2.2.2.2.2.2.2.2.2.2.2.2.1)
  | .clkXmodeWrite value => (Sys2Proof.Machine.execClkXmodeWrite_does value s).of_eq (parts_0.2.2.2.2.2.2.2.2.2.2.2.2.2.2.2.1) (regs_6.2.2.1)
  | .svpMtx value => (Sys2Proof.Machine.execSvpMtx_does value s).of_eq (parts_5.2.2.2.2.2.2.2.2.2.2.1) (regs_6.2.2.2.1)
  | .masterWordEnd miso => (Sys2Proof.Machine.execMasterWordEnd_does miso s).of_eq (parts_5.2.2.2.2.2.2.2.2.2.2.2.1) (regs_6.2.2.2.2.1)
  | .svpRelease => (Sys2Proof.Machine.execSvpRelease_does s).of_eq (parts_5.2.2.2.2.2.2.2.2.2.2.2.2.1) (regs_6.2.2.2.1)
  | .commandWord word => (Sys2Proof.Machine.execCommandWord_does word s).of_eq (parts_5.2.2.2.2.2.2.2.2.2.2.2.2.2.1) (regs_6.2.2.2.1)
  | .statusSlot waits => (Sys2Proof.Machine.execStatusSlot_does waits s).of_eq (parts_2.2.2.2.2.2.2.2.1) (regs_2.2.2.2.2.2.2.2.2.2.2.2.2.2.2.2.2.2.2.2.2.2.1)
  | .dataWord word => (Sys2Proof.Machine.execDataWord_does word s).of_eq (parts_5.2.2.2.2.2.2.2.2.2.2.2.2.2.2.1) (regs_6.2.2.2.1)
  | .selectRelease bitsLeft => (Sys2Proof.Machine.execSelectRelease_does bitsLeft s).of_eq (parts_5.2.2.2.2.2.2.2.2.2.2.2.2.2.2.2.1) (regs_6.2.2.2.1)
  | .postedWrite => (Sys2Proof.Machine.execPostedWrite_does s).of_eq (parts_2.2.2.2.2.2.2.2.1) (regs_2.2.2.2.2.2.2.2.2.2.2.2.2.2.2.2.2.2.2.2.2.2.1)
  | .pmcSelWrite pmc value => (Sys2Proof.Machine.execPmcSelWrite_does pmc value s).of_eq (parts_2.2.2.2.2.2.2.2.2.2.2.1) (regs_6.2.2.2.2.2.1)
  | .counterOverflow pmc => (Sys2Proof.Machine.execCounterOverflow_does pmc s).of_eq (parts_3.2.2.2.2.2.2.2.2.2.2.2.2.2.1) (regs_6.2.2.2.2.2.2.1)
  | .trigIn input high frac => (Sys2Proof.Machine.execTrigIn_does input high frac s).of_eq (parts_5.2.2.2.2.2.2.2.2.2.2.2.2.2.2.2.2.1) (regs_0.2.2.2.2.2.2.2.2.2.2.2.2.2.2.2.2.1)
  | .trigOut output => (Sys2Proof.Machine.execTrigOut_does output s).of_eq (parts_5.2.2.2.2.2.2.2.2.2.2.2.2.2.2.2.2.2.1) (regs_0.2.2.2.2.2.2.2.2.2.2.2.2.2.2.2.2.1)
  | .trigOutFall output => (Sys2Proof.Machine.execTrigOutFall_does output s).of_eq (parts_5.2.2.2.2.2.2.2.2.2.2.2.2.2.2.2.2.2.2.1) (regs_0.2.2.2.2.2.2.2.2.2.2.2.2.2.2.2.2.1)
  | .registerWrite dev offset size value => (Sys2Proof.Machine.execRegisterWrite_does dev offset size value s).of_eq (parts_2.2.2.2.2.2.2.2.1) (regs_2.2.2.2.2.2.2.2.2.2.2.2.2.2.2.2.2.2.2.2.2.2.1)
  | .registerRead dev offset size => (Sys2Proof.Machine.execRegisterRead_does dev offset size s).of_eq (parts_2.2.2.2.2.2.2.2.1) (regs_2.2.2.2.2.2.2.2.2.2.2.2.2.2.2.2.2.2.2.2.2.2.1)
  | .idleFlit port flit => (Sys2Proof.Machine.execIdleFlit_does port flit s).of_eq (parts_4.1) (regs_4.2.2.2.2.2.2.2.2.2.2.2.2.2.2.1)
  | .pcieCompletion target data => (Sys2Proof.Machine.execPcieCompletion_does target data s).of_eq (parts_5.2.2.2.2.2.2.2.2.2.2.2.2.2.2.2.2.2.2.2.1) (regs_3.2.2.2.2.2.2.2.2.2.2.2.2.2.2.2.2.2.2.2.2.2.1)
  | .liveCauseEnd src => (Sys2Proof.Machine.execLiveCauseEnd_does src s).of_eq (parts_4.2.2.2.2.2.2.2.2.2.2.2.2.2.2.2.2.2.2.2.2.1) (regs_6.2.2.2.2.2.2.2.1)
  | .dieLinkRetrain die => (Sys2Proof.Machine.execDieLinkRetrain_does die s).of_eq (parts_5.2.2.2.2.2.2.2.2.2.2.2.2.2.2.2.2.2.2.2.2.1) (regs_6.2.2.2.2.2.2.2.2)
  | .supplyOutOfRange supply die => (Sys2Proof.Machine.execSupplyOutOfRange_does supply die s).of_eq (parts_5.2.2.2.2.2.2.2.2.2.2.2.2.2.2.2.2.2.2.2.2.2.1) (regs_2.2.2.2.2.2.2.2.2.2.2.2.2.2.2.2.2.2.2.2.2.2.1)
  | .supplyInRange supply die => (Sys2Proof.Machine.execSupplyInRange_does supply die s).of_eq (parts_5.2.2.2.2.2.2.2.2.2.2.2.2.2.2.2.2.2.2.2.2.2.2.1) (regs_6.2.2.2.2.2.2.2.2)
  | .boundaryScan op => (Sys2Proof.Machine.execBoundaryScan_does op s).of_eq (parts_5.2.2.2.2.2.2.2.2.2.2.2.2.2.2.2.2.2.2.2.2.2.2.2) (regs_0.2.2.2.2.2.2.2.2.2.2.2.2.2.2.2.2.1)

end Sys2Proof.Machine
end

