-- ==== Sys2Proof/Laws/State.lean ====
section
/-! SUPPORT. What each update of the state leaves: one lemma per field per update, true by rfl; what a register field and an
instance read as after a write. -/

namespace Sys2Proof.Machine

/-! ### Register fields -/

theorem Fld.key_ne {f g : Fld} (h : f.reg ≠ g.reg ∨ f.lo ≠ g.lo) (i j k l : Nat) : g.key k l ≠ f.key i j := by
  intro e
  rcases h with h | h
  · exact h (congrArg FKey.reg e).symm
  · exact h (congrArg FKey.lo e).symm

theorem Fld.key_inst {f : Fld} {i j k l : Nat} (h : k ≠ i ∨ l ≠ j) : f.key k l ≠ f.key i j := by
  intro e
  rcases h with h | h
  · exact h (congrArg FKey.i e)
  · exact h (congrArg FKey.j e)

/-- A field reads as what was written, to its width. -/
@[simp] theorem State.rd_wr (s : State) (f : Fld) (v i j : Nat) : (s.wr f v i j).rd f i j = v % 2 ^ f.width :=
  Store.get_put_eq _ _ _ _ _

/-- Another field keeps its value. -/
theorem State.rd_wr_ne (s : State) {f g : Fld} (v i j k l : Nat) (h : f.reg ≠ g.reg ∨ f.lo ≠ g.lo) :
    (s.wr f v i j).rd g k l = s.rd g k l := Store.get_put_ne _ _ (Fld.key_ne h i j k l)

/-- Another instance keeps its value. -/
theorem State.rd_wr_inst (s : State) (f : Fld) (v i j k l : Nat) (h : k ≠ i ∨ l ≠ j) :
    (s.wr f v i j).rd f k l = s.rd f k l := Store.get_put_ne _ _ (Fld.key_inst h)

/-- A write into every instance of a list. -/
theorem State.rd_wrAll (s : State) (f : Fld) (v : Nat) (is : List Nat) (i : Nat) :
    (s.wrAll f v is).rd f i = if i ∈ is then v % 2 ^ f.width else s.rd f i := by
  unfold State.wrAll
  induction is generalizing s with
  | nil => simp
  | cons a t ih =>
    simp only [List.foldl_cons, ih, List.mem_cons]
    by_cases hi : i ∈ t
    · simp [hi]
    · by_cases ha : i = a
      · subst ha; simp [hi]
      · simp [hi, ha, State.rd_wr_inst _ _ _ _ _ _ _ (.inl ha)]

theorem State.rd_wrAll_ne (s : State) {f g : Fld} (v : Nat) (is : List Nat) (k l : Nat) (h : f.reg ≠ g.reg ∨ f.lo ≠ g.lo) :
    (s.wrAll f v is).rd g k l = s.rd g k l := by
  unfold State.wrAll
  induction is generalizing s with
  | nil => rfl
  | cons a t ih => simp only [List.foldl_cons, ih, State.rd_wr_ne _ _ _ _ _ _ h]

/-! ### Instances -/

@[simp] theorem State.gang_setGang (s : State) (n : Nat) (x : Gang) : (s.setGang n x).gang n = x := Store.get_put_eq _ _ _ _ _

theorem State.gang_setGang_ne (s : State) (n : Nat) (x : Gang) (m : Nat) (h : m ≠ n) : (s.setGang n x).gang m = s.gang m :=
  Store.get_put_ne _ _ h

@[simp] theorem State.rd_setGang (s : State) (n : Nat) (x : Gang) (f : Fld) (i j : Nat) : (s.setGang n x).rd f i j = s.rd f i j := rfl

@[simp] theorem State.pod_setGang (s : State) (n : Nat) (x : Gang) (m : Nat) : (s.setGang n x).pod m = s.pod m := rfl
@[simp] theorem State.pin_setGang (s : State) (n : Nat) (x : Gang) (m : Nat) : (s.setGang n x).pin m = s.pin m := rfl
@[simp] theorem State.iu_setGang (s : State) (n : Nat) (x : Gang) (m : Nat) : (s.setGang n x).iu m = s.iu m := rfl
@[simp] theorem State.wave_setGang (s : State) (n : Nat) (x : Gang) (m : Nat) : (s.setGang n x).wave m = s.wave m := rfl
@[simp] theorem State.rail_setGang (s : State) (n : Nat) (x : Gang) (m : Nat) : (s.setGang n x).rail m = s.rail m := rfl
@[simp] theorem State.siteX_setGang (s : State) (n : Nat) (x : Gang) (m : Nat) : (s.setGang n x).siteX m = s.siteX m := rfl
@[simp] theorem State.die_setGang (s : State) (n : Nat) (x : Gang) (m : Nat) : (s.setGang n x).die m = s.die m := rfl
@[simp] theorem State.qp_setGang (s : State) (n : Nat) (x : Gang) (m : Nat) : (s.setGang n x).qp m = s.qp m := rfl
@[simp] theorem State.evr_setGang (s : State) (n : Nat) (x : Gang) (m : Nat) : (s.setGang n x).evr m = s.evr m := rfl
@[simp] theorem State.strm_setGang (s : State) (n : Nat) (x : Gang) (m : Nat) : (s.setGang n x).strm m = s.strm m := rfl
@[simp] theorem State.snap_setGang (s : State) (n : Nat) (x : Gang) (m : Nat) : (s.setGang n x).snap m = s.snap m := rfl

@[simp] theorem State.pod_setPod (s : State) (n : Nat) (x : PodX) : (s.setPod n x).pod n = x := Store.get_put_eq _ _ _ _ _

theorem State.pod_setPod_ne (s : State) (n : Nat) (x : PodX) (m : Nat) (h : m ≠ n) : (s.setPod n x).pod m = s.pod m :=
  Store.get_put_ne _ _ h

@[simp] theorem State.rd_setPod (s : State) (n : Nat) (x : PodX) (f : Fld) (i j : Nat) : (s.setPod n x).rd f i j = s.rd f i j := rfl

@[simp] theorem State.gang_setPod (s : State) (n : Nat) (x : PodX) (m : Nat) : (s.setPod n x).gang m = s.gang m := rfl
@[simp] theorem State.pin_setPod (s : State) (n : Nat) (x : PodX) (m : Nat) : (s.setPod n x).pin m = s.pin m := rfl
@[simp] theorem State.iu_setPod (s : State) (n : Nat) (x : PodX) (m : Nat) : (s.setPod n x).iu m = s.iu m := rfl
@[simp] theorem State.wave_setPod (s : State) (n : Nat) (x : PodX) (m : Nat) : (s.setPod n x).wave m = s.wave m := rfl
@[simp] theorem State.rail_setPod (s : State) (n : Nat) (x : PodX) (m : Nat) : (s.setPod n x).rail m = s.rail m := rfl
@[simp] theorem State.siteX_setPod (s : State) (n : Nat) (x : PodX) (m : Nat) : (s.setPod n x).siteX m = s.siteX m := rfl
@[simp] theorem State.die_setPod (s : State) (n : Nat) (x : PodX) (m : Nat) : (s.setPod n x).die m = s.die m := rfl
@[simp] theorem State.qp_setPod (s : State) (n : Nat) (x : PodX) (m : Nat) : (s.setPod n x).qp m = s.qp m := rfl
@[simp] theorem State.evr_setPod (s : State) (n : Nat) (x : PodX) (m : Nat) : (s.setPod n x).evr m = s.evr m := rfl
@[simp] theorem State.strm_setPod (s : State) (n : Nat) (x : PodX) (m : Nat) : (s.setPod n x).strm m = s.strm m := rfl
@[simp] theorem State.snap_setPod (s : State) (n : Nat) (x : PodX) (m : Nat) : (s.setPod n x).snap m = s.snap m := rfl

@[simp] theorem State.pin_setPin (s : State) (n : Nat) (x : PinX) : (s.setPin n x).pin n = x := Store.get_put_eq _ _ _ _ _

theorem State.pin_setPin_ne (s : State) (n : Nat) (x : PinX) (m : Nat) (h : m ≠ n) : (s.setPin n x).pin m = s.pin m :=
  Store.get_put_ne _ _ h

@[simp] theorem State.rd_setPin (s : State) (n : Nat) (x : PinX) (f : Fld) (i j : Nat) : (s.setPin n x).rd f i j = s.rd f i j := rfl

@[simp] theorem State.gang_setPin (s : State) (n : Nat) (x : PinX) (m : Nat) : (s.setPin n x).gang m = s.gang m := rfl
@[simp] theorem State.pod_setPin (s : State) (n : Nat) (x : PinX) (m : Nat) : (s.setPin n x).pod m = s.pod m := rfl
@[simp] theorem State.iu_setPin (s : State) (n : Nat) (x : PinX) (m : Nat) : (s.setPin n x).iu m = s.iu m := rfl
@[simp] theorem State.wave_setPin (s : State) (n : Nat) (x : PinX) (m : Nat) : (s.setPin n x).wave m = s.wave m := rfl
@[simp] theorem State.rail_setPin (s : State) (n : Nat) (x : PinX) (m : Nat) : (s.setPin n x).rail m = s.rail m := rfl
@[simp] theorem State.siteX_setPin (s : State) (n : Nat) (x : PinX) (m : Nat) : (s.setPin n x).siteX m = s.siteX m := rfl
@[simp] theorem State.die_setPin (s : State) (n : Nat) (x : PinX) (m : Nat) : (s.setPin n x).die m = s.die m := rfl
@[simp] theorem State.qp_setPin (s : State) (n : Nat) (x : PinX) (m : Nat) : (s.setPin n x).qp m = s.qp m := rfl
@[simp] theorem State.evr_setPin (s : State) (n : Nat) (x : PinX) (m : Nat) : (s.setPin n x).evr m = s.evr m := rfl
@[simp] theorem State.strm_setPin (s : State) (n : Nat) (x : PinX) (m : Nat) : (s.setPin n x).strm m = s.strm m := rfl
@[simp] theorem State.snap_setPin (s : State) (n : Nat) (x : PinX) (m : Nat) : (s.setPin n x).snap m = s.snap m := rfl

@[simp] theorem State.iu_setIu (s : State) (n : Nat) (x : IuX) : (s.setIu n x).iu n = x := Store.get_put_eq _ _ _ _ _

theorem State.iu_setIu_ne (s : State) (n : Nat) (x : IuX) (m : Nat) (h : m ≠ n) : (s.setIu n x).iu m = s.iu m :=
  Store.get_put_ne _ _ h

@[simp] theorem State.rd_setIu (s : State) (n : Nat) (x : IuX) (f : Fld) (i j : Nat) : (s.setIu n x).rd f i j = s.rd f i j := rfl

@[simp] theorem State.gang_setIu (s : State) (n : Nat) (x : IuX) (m : Nat) : (s.setIu n x).gang m = s.gang m := rfl
@[simp] theorem State.pod_setIu (s : State) (n : Nat) (x : IuX) (m : Nat) : (s.setIu n x).pod m = s.pod m := rfl
@[simp] theorem State.pin_setIu (s : State) (n : Nat) (x : IuX) (m : Nat) : (s.setIu n x).pin m = s.pin m := rfl
@[simp] theorem State.wave_setIu (s : State) (n : Nat) (x : IuX) (m : Nat) : (s.setIu n x).wave m = s.wave m := rfl
@[simp] theorem State.rail_setIu (s : State) (n : Nat) (x : IuX) (m : Nat) : (s.setIu n x).rail m = s.rail m := rfl
@[simp] theorem State.siteX_setIu (s : State) (n : Nat) (x : IuX) (m : Nat) : (s.setIu n x).siteX m = s.siteX m := rfl
@[simp] theorem State.die_setIu (s : State) (n : Nat) (x : IuX) (m : Nat) : (s.setIu n x).die m = s.die m := rfl
@[simp] theorem State.qp_setIu (s : State) (n : Nat) (x : IuX) (m : Nat) : (s.setIu n x).qp m = s.qp m := rfl
@[simp] theorem State.evr_setIu (s : State) (n : Nat) (x : IuX) (m : Nat) : (s.setIu n x).evr m = s.evr m := rfl
@[simp] theorem State.strm_setIu (s : State) (n : Nat) (x : IuX) (m : Nat) : (s.setIu n x).strm m = s.strm m := rfl
@[simp] theorem State.snap_setIu (s : State) (n : Nat) (x : IuX) (m : Nat) : (s.setIu n x).snap m = s.snap m := rfl

@[simp] theorem State.wave_setWave (s : State) (n : Nat) (x : WaveX) : (s.setWave n x).wave n = x := Store.get_put_eq _ _ _ _ _

theorem State.wave_setWave_ne (s : State) (n : Nat) (x : WaveX) (m : Nat) (h : m ≠ n) : (s.setWave n x).wave m = s.wave m :=
  Store.get_put_ne _ _ h

@[simp] theorem State.rd_setWave (s : State) (n : Nat) (x : WaveX) (f : Fld) (i j : Nat) : (s.setWave n x).rd f i j = s.rd f i j := rfl

@[simp] theorem State.gang_setWave (s : State) (n : Nat) (x : WaveX) (m : Nat) : (s.setWave n x).gang m = s.gang m := rfl
@[simp] theorem State.pod_setWave (s : State) (n : Nat) (x : WaveX) (m : Nat) : (s.setWave n x).pod m = s.pod m := rfl
@[simp] theorem State.pin_setWave (s : State) (n : Nat) (x : WaveX) (m : Nat) : (s.setWave n x).pin m = s.pin m := rfl
@[simp] theorem State.iu_setWave (s : State) (n : Nat) (x : WaveX) (m : Nat) : (s.setWave n x).iu m = s.iu m := rfl
@[simp] theorem State.rail_setWave (s : State) (n : Nat) (x : WaveX) (m : Nat) : (s.setWave n x).rail m = s.rail m := rfl
@[simp] theorem State.siteX_setWave (s : State) (n : Nat) (x : WaveX) (m : Nat) : (s.setWave n x).siteX m = s.siteX m := rfl
@[simp] theorem State.die_setWave (s : State) (n : Nat) (x : WaveX) (m : Nat) : (s.setWave n x).die m = s.die m := rfl
@[simp] theorem State.qp_setWave (s : State) (n : Nat) (x : WaveX) (m : Nat) : (s.setWave n x).qp m = s.qp m := rfl
@[simp] theorem State.evr_setWave (s : State) (n : Nat) (x : WaveX) (m : Nat) : (s.setWave n x).evr m = s.evr m := rfl
@[simp] theorem State.strm_setWave (s : State) (n : Nat) (x : WaveX) (m : Nat) : (s.setWave n x).strm m = s.strm m := rfl
@[simp] theorem State.snap_setWave (s : State) (n : Nat) (x : WaveX) (m : Nat) : (s.setWave n x).snap m = s.snap m := rfl

@[simp] theorem State.rail_setRail (s : State) (n : Nat) (x : RailX) : (s.setRail n x).rail n = x := Store.get_put_eq _ _ _ _ _

theorem State.rail_setRail_ne (s : State) (n : Nat) (x : RailX) (m : Nat) (h : m ≠ n) : (s.setRail n x).rail m = s.rail m :=
  Store.get_put_ne _ _ h

@[simp] theorem State.rd_setRail (s : State) (n : Nat) (x : RailX) (f : Fld) (i j : Nat) : (s.setRail n x).rd f i j = s.rd f i j := rfl

@[simp] theorem State.gang_setRail (s : State) (n : Nat) (x : RailX) (m : Nat) : (s.setRail n x).gang m = s.gang m := rfl
@[simp] theorem State.pod_setRail (s : State) (n : Nat) (x : RailX) (m : Nat) : (s.setRail n x).pod m = s.pod m := rfl
@[simp] theorem State.pin_setRail (s : State) (n : Nat) (x : RailX) (m : Nat) : (s.setRail n x).pin m = s.pin m := rfl
@[simp] theorem State.iu_setRail (s : State) (n : Nat) (x : RailX) (m : Nat) : (s.setRail n x).iu m = s.iu m := rfl
@[simp] theorem State.wave_setRail (s : State) (n : Nat) (x : RailX) (m : Nat) : (s.setRail n x).wave m = s.wave m := rfl
@[simp] theorem State.siteX_setRail (s : State) (n : Nat) (x : RailX) (m : Nat) : (s.setRail n x).siteX m = s.siteX m := rfl
@[simp] theorem State.die_setRail (s : State) (n : Nat) (x : RailX) (m : Nat) : (s.setRail n x).die m = s.die m := rfl
@[simp] theorem State.qp_setRail (s : State) (n : Nat) (x : RailX) (m : Nat) : (s.setRail n x).qp m = s.qp m := rfl
@[simp] theorem State.evr_setRail (s : State) (n : Nat) (x : RailX) (m : Nat) : (s.setRail n x).evr m = s.evr m := rfl
@[simp] theorem State.strm_setRail (s : State) (n : Nat) (x : RailX) (m : Nat) : (s.setRail n x).strm m = s.strm m := rfl
@[simp] theorem State.snap_setRail (s : State) (n : Nat) (x : RailX) (m : Nat) : (s.setRail n x).snap m = s.snap m := rfl

@[simp] theorem State.siteX_setSiteX (s : State) (n : Nat) (x : SiteX) : (s.setSiteX n x).siteX n = x := Store.get_put_eq _ _ _ _ _

theorem State.siteX_setSiteX_ne (s : State) (n : Nat) (x : SiteX) (m : Nat) (h : m ≠ n) : (s.setSiteX n x).siteX m = s.siteX m :=
  Store.get_put_ne _ _ h

@[simp] theorem State.rd_setSiteX (s : State) (n : Nat) (x : SiteX) (f : Fld) (i j : Nat) : (s.setSiteX n x).rd f i j = s.rd f i j := rfl

@[simp] theorem State.gang_setSiteX (s : State) (n : Nat) (x : SiteX) (m : Nat) : (s.setSiteX n x).gang m = s.gang m := rfl
@[simp] theorem State.pod_setSiteX (s : State) (n : Nat) (x : SiteX) (m : Nat) : (s.setSiteX n x).pod m = s.pod m := rfl
@[simp] theorem State.pin_setSiteX (s : State) (n : Nat) (x : SiteX) (m : Nat) : (s.setSiteX n x).pin m = s.pin m := rfl
@[simp] theorem State.iu_setSiteX (s : State) (n : Nat) (x : SiteX) (m : Nat) : (s.setSiteX n x).iu m = s.iu m := rfl
@[simp] theorem State.wave_setSiteX (s : State) (n : Nat) (x : SiteX) (m : Nat) : (s.setSiteX n x).wave m = s.wave m := rfl
@[simp] theorem State.rail_setSiteX (s : State) (n : Nat) (x : SiteX) (m : Nat) : (s.setSiteX n x).rail m = s.rail m := rfl
@[simp] theorem State.die_setSiteX (s : State) (n : Nat) (x : SiteX) (m : Nat) : (s.setSiteX n x).die m = s.die m := rfl
@[simp] theorem State.qp_setSiteX (s : State) (n : Nat) (x : SiteX) (m : Nat) : (s.setSiteX n x).qp m = s.qp m := rfl
@[simp] theorem State.evr_setSiteX (s : State) (n : Nat) (x : SiteX) (m : Nat) : (s.setSiteX n x).evr m = s.evr m := rfl
@[simp] theorem State.strm_setSiteX (s : State) (n : Nat) (x : SiteX) (m : Nat) : (s.setSiteX n x).strm m = s.strm m := rfl
@[simp] theorem State.snap_setSiteX (s : State) (n : Nat) (x : SiteX) (m : Nat) : (s.setSiteX n x).snap m = s.snap m := rfl

@[simp] theorem State.die_setDie (s : State) (n : Nat) (x : DieX) : (s.setDie n x).die n = x := Store.get_put_eq _ _ _ _ _

theorem State.die_setDie_ne (s : State) (n : Nat) (x : DieX) (m : Nat) (h : m ≠ n) : (s.setDie n x).die m = s.die m :=
  Store.get_put_ne _ _ h

@[simp] theorem State.rd_setDie (s : State) (n : Nat) (x : DieX) (f : Fld) (i j : Nat) : (s.setDie n x).rd f i j = s.rd f i j := rfl

@[simp] theorem State.gang_setDie (s : State) (n : Nat) (x : DieX) (m : Nat) : (s.setDie n x).gang m = s.gang m := rfl
@[simp] theorem State.pod_setDie (s : State) (n : Nat) (x : DieX) (m : Nat) : (s.setDie n x).pod m = s.pod m := rfl
@[simp] theorem State.pin_setDie (s : State) (n : Nat) (x : DieX) (m : Nat) : (s.setDie n x).pin m = s.pin m := rfl
@[simp] theorem State.iu_setDie (s : State) (n : Nat) (x : DieX) (m : Nat) : (s.setDie n x).iu m = s.iu m := rfl
@[simp] theorem State.wave_setDie (s : State) (n : Nat) (x : DieX) (m : Nat) : (s.setDie n x).wave m = s.wave m := rfl
@[simp] theorem State.rail_setDie (s : State) (n : Nat) (x : DieX) (m : Nat) : (s.setDie n x).rail m = s.rail m := rfl
@[simp] theorem State.siteX_setDie (s : State) (n : Nat) (x : DieX) (m : Nat) : (s.setDie n x).siteX m = s.siteX m := rfl
@[simp] theorem State.qp_setDie (s : State) (n : Nat) (x : DieX) (m : Nat) : (s.setDie n x).qp m = s.qp m := rfl
@[simp] theorem State.evr_setDie (s : State) (n : Nat) (x : DieX) (m : Nat) : (s.setDie n x).evr m = s.evr m := rfl
@[simp] theorem State.strm_setDie (s : State) (n : Nat) (x : DieX) (m : Nat) : (s.setDie n x).strm m = s.strm m := rfl
@[simp] theorem State.snap_setDie (s : State) (n : Nat) (x : DieX) (m : Nat) : (s.setDie n x).snap m = s.snap m := rfl

@[simp] theorem State.qp_setQp (s : State) (n : Nat) (x : QpX) : (s.setQp n x).qp n = x := Store.get_put_eq _ _ _ _ _

theorem State.qp_setQp_ne (s : State) (n : Nat) (x : QpX) (m : Nat) (h : m ≠ n) : (s.setQp n x).qp m = s.qp m :=
  Store.get_put_ne _ _ h

@[simp] theorem State.rd_setQp (s : State) (n : Nat) (x : QpX) (f : Fld) (i j : Nat) : (s.setQp n x).rd f i j = s.rd f i j := rfl

@[simp] theorem State.gang_setQp (s : State) (n : Nat) (x : QpX) (m : Nat) : (s.setQp n x).gang m = s.gang m := rfl
@[simp] theorem State.pod_setQp (s : State) (n : Nat) (x : QpX) (m : Nat) : (s.setQp n x).pod m = s.pod m := rfl
@[simp] theorem State.pin_setQp (s : State) (n : Nat) (x : QpX) (m : Nat) : (s.setQp n x).pin m = s.pin m := rfl
@[simp] theorem State.iu_setQp (s : State) (n : Nat) (x : QpX) (m : Nat) : (s.setQp n x).iu m = s.iu m := rfl
@[simp] theorem State.wave_setQp (s : State) (n : Nat) (x : QpX) (m : Nat) : (s.setQp n x).wave m = s.wave m := rfl
@[simp] theorem State.rail_setQp (s : State) (n : Nat) (x : QpX) (m : Nat) : (s.setQp n x).rail m = s.rail m := rfl
@[simp] theorem State.siteX_setQp (s : State) (n : Nat) (x : QpX) (m : Nat) : (s.setQp n x).siteX m = s.siteX m := rfl
@[simp] theorem State.die_setQp (s : State) (n : Nat) (x : QpX) (m : Nat) : (s.setQp n x).die m = s.die m := rfl
@[simp] theorem State.evr_setQp (s : State) (n : Nat) (x : QpX) (m : Nat) : (s.setQp n x).evr m = s.evr m := rfl
@[simp] theorem State.strm_setQp (s : State) (n : Nat) (x : QpX) (m : Nat) : (s.setQp n x).strm m = s.strm m := rfl
@[simp] theorem State.snap_setQp (s : State) (n : Nat) (x : QpX) (m : Nat) : (s.setQp n x).snap m = s.snap m := rfl

@[simp] theorem State.evr_setEvr (s : State) (n : Nat) (x : EvrX) : (s.setEvr n x).evr n = x := Store.get_put_eq _ _ _ _ _

theorem State.evr_setEvr_ne (s : State) (n : Nat) (x : EvrX) (m : Nat) (h : m ≠ n) : (s.setEvr n x).evr m = s.evr m :=
  Store.get_put_ne _ _ h

@[simp] theorem State.rd_setEvr (s : State) (n : Nat) (x : EvrX) (f : Fld) (i j : Nat) : (s.setEvr n x).rd f i j = s.rd f i j := rfl

@[simp] theorem State.gang_setEvr (s : State) (n : Nat) (x : EvrX) (m : Nat) : (s.setEvr n x).gang m = s.gang m := rfl
@[simp] theorem State.pod_setEvr (s : State) (n : Nat) (x : EvrX) (m : Nat) : (s.setEvr n x).pod m = s.pod m := rfl
@[simp] theorem State.pin_setEvr (s : State) (n : Nat) (x : EvrX) (m : Nat) : (s.setEvr n x).pin m = s.pin m := rfl
@[simp] theorem State.iu_setEvr (s : State) (n : Nat) (x : EvrX) (m : Nat) : (s.setEvr n x).iu m = s.iu m := rfl
@[simp] theorem State.wave_setEvr (s : State) (n : Nat) (x : EvrX) (m : Nat) : (s.setEvr n x).wave m = s.wave m := rfl
@[simp] theorem State.rail_setEvr (s : State) (n : Nat) (x : EvrX) (m : Nat) : (s.setEvr n x).rail m = s.rail m := rfl
@[simp] theorem State.siteX_setEvr (s : State) (n : Nat) (x : EvrX) (m : Nat) : (s.setEvr n x).siteX m = s.siteX m := rfl
@[simp] theorem State.die_setEvr (s : State) (n : Nat) (x : EvrX) (m : Nat) : (s.setEvr n x).die m = s.die m := rfl
@[simp] theorem State.qp_setEvr (s : State) (n : Nat) (x : EvrX) (m : Nat) : (s.setEvr n x).qp m = s.qp m := rfl
@[simp] theorem State.strm_setEvr (s : State) (n : Nat) (x : EvrX) (m : Nat) : (s.setEvr n x).strm m = s.strm m := rfl
@[simp] theorem State.snap_setEvr (s : State) (n : Nat) (x : EvrX) (m : Nat) : (s.setEvr n x).snap m = s.snap m := rfl

@[simp] theorem State.strm_setStrm (s : State) (n : Nat) (x : StrmX) : (s.setStrm n x).strm n = x := Store.get_put_eq _ _ _ _ _

theorem State.strm_setStrm_ne (s : State) (n : Nat) (x : StrmX) (m : Nat) (h : m ≠ n) : (s.setStrm n x).strm m = s.strm m :=
  Store.get_put_ne _ _ h

@[simp] theorem State.rd_setStrm (s : State) (n : Nat) (x : StrmX) (f : Fld) (i j : Nat) : (s.setStrm n x).rd f i j = s.rd f i j := rfl

@[simp] theorem State.gang_setStrm (s : State) (n : Nat) (x : StrmX) (m : Nat) : (s.setStrm n x).gang m = s.gang m := rfl
@[simp] theorem State.pod_setStrm (s : State) (n : Nat) (x : StrmX) (m : Nat) : (s.setStrm n x).pod m = s.pod m := rfl
@[simp] theorem State.pin_setStrm (s : State) (n : Nat) (x : StrmX) (m : Nat) : (s.setStrm n x).pin m = s.pin m := rfl
@[simp] theorem State.iu_setStrm (s : State) (n : Nat) (x : StrmX) (m : Nat) : (s.setStrm n x).iu m = s.iu m := rfl
@[simp] theorem State.wave_setStrm (s : State) (n : Nat) (x : StrmX) (m : Nat) : (s.setStrm n x).wave m = s.wave m := rfl
@[simp] theorem State.rail_setStrm (s : State) (n : Nat) (x : StrmX) (m : Nat) : (s.setStrm n x).rail m = s.rail m := rfl
@[simp] theorem State.siteX_setStrm (s : State) (n : Nat) (x : StrmX) (m : Nat) : (s.setStrm n x).siteX m = s.siteX m := rfl
@[simp] theorem State.die_setStrm (s : State) (n : Nat) (x : StrmX) (m : Nat) : (s.setStrm n x).die m = s.die m := rfl
@[simp] theorem State.qp_setStrm (s : State) (n : Nat) (x : StrmX) (m : Nat) : (s.setStrm n x).qp m = s.qp m := rfl
@[simp] theorem State.evr_setStrm (s : State) (n : Nat) (x : StrmX) (m : Nat) : (s.setStrm n x).evr m = s.evr m := rfl
@[simp] theorem State.snap_setStrm (s : State) (n : Nat) (x : StrmX) (m : Nat) : (s.setStrm n x).snap m = s.snap m := rfl

@[simp] theorem State.snap_setSnap (s : State) (n : Nat) (x : SnapX) : (s.setSnap n x).snap n = x := Store.get_put_eq _ _ _ _ _

theorem State.snap_setSnap_ne (s : State) (n : Nat) (x : SnapX) (m : Nat) (h : m ≠ n) : (s.setSnap n x).snap m = s.snap m :=
  Store.get_put_ne _ _ h

@[simp] theorem State.rd_setSnap (s : State) (n : Nat) (x : SnapX) (f : Fld) (i j : Nat) : (s.setSnap n x).rd f i j = s.rd f i j := rfl

@[simp] theorem State.gang_setSnap (s : State) (n : Nat) (x : SnapX) (m : Nat) : (s.setSnap n x).gang m = s.gang m := rfl
@[simp] theorem State.pod_setSnap (s : State) (n : Nat) (x : SnapX) (m : Nat) : (s.setSnap n x).pod m = s.pod m := rfl
@[simp] theorem State.pin_setSnap (s : State) (n : Nat) (x : SnapX) (m : Nat) : (s.setSnap n x).pin m = s.pin m := rfl
@[simp] theorem State.iu_setSnap (s : State) (n : Nat) (x : SnapX) (m : Nat) : (s.setSnap n x).iu m = s.iu m := rfl
@[simp] theorem State.wave_setSnap (s : State) (n : Nat) (x : SnapX) (m : Nat) : (s.setSnap n x).wave m = s.wave m := rfl
@[simp] theorem State.rail_setSnap (s : State) (n : Nat) (x : SnapX) (m : Nat) : (s.setSnap n x).rail m = s.rail m := rfl
@[simp] theorem State.siteX_setSnap (s : State) (n : Nat) (x : SnapX) (m : Nat) : (s.setSnap n x).siteX m = s.siteX m := rfl
@[simp] theorem State.die_setSnap (s : State) (n : Nat) (x : SnapX) (m : Nat) : (s.setSnap n x).die m = s.die m := rfl
@[simp] theorem State.qp_setSnap (s : State) (n : Nat) (x : SnapX) (m : Nat) : (s.setSnap n x).qp m = s.qp m := rfl
@[simp] theorem State.evr_setSnap (s : State) (n : Nat) (x : SnapX) (m : Nat) : (s.setSnap n x).evr m = s.evr m := rfl
@[simp] theorem State.strm_setSnap (s : State) (n : Nat) (x : SnapX) (m : Nat) : (s.setSnap n x).strm m = s.strm m := rfl

@[simp] theorem State.gang_wr (s : State) (f : Fld) (v i j m : Nat) : (s.wr f v i j).gang m = s.gang m := rfl
@[simp] theorem State.pod_wr (s : State) (f : Fld) (v i j m : Nat) : (s.wr f v i j).pod m = s.pod m := rfl
@[simp] theorem State.pin_wr (s : State) (f : Fld) (v i j m : Nat) : (s.wr f v i j).pin m = s.pin m := rfl
@[simp] theorem State.iu_wr (s : State) (f : Fld) (v i j m : Nat) : (s.wr f v i j).iu m = s.iu m := rfl
@[simp] theorem State.wave_wr (s : State) (f : Fld) (v i j m : Nat) : (s.wr f v i j).wave m = s.wave m := rfl
@[simp] theorem State.rail_wr (s : State) (f : Fld) (v i j m : Nat) : (s.wr f v i j).rail m = s.rail m := rfl
@[simp] theorem State.siteX_wr (s : State) (f : Fld) (v i j m : Nat) : (s.wr f v i j).siteX m = s.siteX m := rfl
@[simp] theorem State.die_wr (s : State) (f : Fld) (v i j m : Nat) : (s.wr f v i j).die m = s.die m := rfl
@[simp] theorem State.qp_wr (s : State) (f : Fld) (v i j m : Nat) : (s.wr f v i j).qp m = s.qp m := rfl
@[simp] theorem State.evr_wr (s : State) (f : Fld) (v i j m : Nat) : (s.wr f v i j).evr m = s.evr m := rfl
@[simp] theorem State.strm_wr (s : State) (f : Fld) (v i j m : Nat) : (s.wr f v i j).strm m = s.strm m := rfl
@[simp] theorem State.snap_wr (s : State) (f : Fld) (v i j m : Nat) : (s.wr f v i j).snap m = s.snap m := rfl

/-! ### One lemma per field per update -/

@[simp] theorem State.wr_pending (s : State) (f : Fld) (v i j : Nat) : (s.wr f v i j).pending = s.pending := rfl
@[simp] theorem State.wr_latch (s : State) (f : Fld) (v i j : Nat) : (s.wr f v i j).latch = s.latch := rfl
@[simp] theorem State.wr_now (s : State) (f : Fld) (v i j : Nat) : (s.wr f v i j).now = s.now := rfl
@[simp] theorem State.wr_free (s : State) (f : Fld) (v i j : Nat) : (s.wr f v i j).free = s.free := rfl
@[simp] theorem State.wr_gangs (s : State) (f : Fld) (v i j : Nat) : (s.wr f v i j).gangs = s.gangs := rfl
@[simp] theorem State.wr_pods (s : State) (f : Fld) (v i j : Nat) : (s.wr f v i j).pods = s.pods := rfl
@[simp] theorem State.wr_pins (s : State) (f : Fld) (v i j : Nat) : (s.wr f v i j).pins = s.pins := rfl
@[simp] theorem State.wr_ius (s : State) (f : Fld) (v i j : Nat) : (s.wr f v i j).ius = s.ius := rfl
@[simp] theorem State.wr_iuq (s : State) (f : Fld) (v i j : Nat) : (s.wr f v i j).iuq = s.iuq := rfl
@[simp] theorem State.wr_iuSetup (s : State) (f : Fld) (v i j : Nat) : (s.wr f v i j).iuSetup = s.iuSetup := rfl
@[simp] theorem State.wr_pmuSetup (s : State) (f : Fld) (v i j : Nat) : (s.wr f v i j).pmuSetup = s.pmuSetup := rfl
@[simp] theorem State.wr_pmus (s : State) (f : Fld) (v i j : Nat) : (s.wr f v i j).pmus = s.pmus := rfl
@[simp] theorem State.wr_waves (s : State) (f : Fld) (v i j : Nat) : (s.wr f v i j).waves = s.waves := rfl
@[simp] theorem State.wr_rails (s : State) (f : Fld) (v i j : Nat) : (s.wr f v i j).rails = s.rails := rfl
@[simp] theorem State.wr_sites (s : State) (f : Fld) (v i j : Nat) : (s.wr f v i j).sites = s.sites := rfl
@[simp] theorem State.wr_dies (s : State) (f : Fld) (v i j : Nat) : (s.wr f v i j).dies = s.dies := rfl
@[simp] theorem State.wr_segMem (s : State) (f : Fld) (v i j : Nat) : (s.wr f v i j).segMem = s.segMem := rfl
@[simp] theorem State.wr_poolMem (s : State) (f : Fld) (v i j : Nat) : (s.wr f v i j).poolMem = s.poolMem := rfl
@[simp] theorem State.wr_poolBad (s : State) (f : Fld) (v i j : Nat) : (s.wr f v i j).poolBad = s.poolBad := rfl
@[simp] theorem State.wr_capMem (s : State) (f : Fld) (v i j : Nat) : (s.wr f v i j).capMem = s.capMem := rfl
@[simp] theorem State.wr_ledgMem (s : State) (f : Fld) (v i j : Nat) : (s.wr f v i j).ledgMem = s.ledgMem := rfl
@[simp] theorem State.wr_mtpMem (s : State) (f : Fld) (v i j : Nat) : (s.wr f v i j).mtpMem = s.mtpMem := rfl
@[simp] theorem State.wr_siteMap (s : State) (f : Fld) (v i j : Nat) : (s.wr f v i j).siteMap = s.siteMap := rfl
@[simp] theorem State.wr_runs (s : State) (f : Fld) (v i j : Nat) : (s.wr f v i j).runs = s.runs := rfl
@[simp] theorem State.wr_evq (s : State) (f : Fld) (v i j : Nat) : (s.wr f v i j).evq = s.evq := rfl
@[simp] theorem State.wr_seqs (s : State) (f : Fld) (v i j : Nat) : (s.wr f v i j).seqs = s.seqs := rfl
@[simp] theorem State.wr_faultq (s : State) (f : Fld) (v i j : Nat) : (s.wr f v i j).faultq = s.faultq := rfl
@[simp] theorem State.wr_fences (s : State) (f : Fld) (v i j : Nat) : (s.wr f v i j).fences = s.fences := rfl
@[simp] theorem State.wr_pmc (s : State) (f : Fld) (v i j : Nat) : (s.wr f v i j).pmc = s.pmc := rfl
@[simp] theorem State.wr_ledgq (s : State) (f : Fld) (v i j : Nat) : (s.wr f v i j).ledgq = s.ledgq := rfl
@[simp] theorem State.wr_ledgAbove (s : State) (f : Fld) (v i j : Nat) : (s.wr f v i j).ledgAbove = s.ledgAbove := rfl
@[simp] theorem State.wr_qps (s : State) (f : Fld) (v i j : Nat) : (s.wr f v i j).qps = s.qps := rfl
@[simp] theorem State.wr_evrs (s : State) (f : Fld) (v i j : Nat) : (s.wr f v i j).evrs = s.evrs := rfl
@[simp] theorem State.wr_tlb (s : State) (f : Fld) (v i j : Nat) : (s.wr f v i j).tlb = s.tlb := rfl
@[simp] theorem State.wr_mmuq (s : State) (f : Fld) (v i j : Nat) : (s.wr f v i j).mmuq = s.mmuq := rfl
@[simp] theorem State.wr_strms (s : State) (f : Fld) (v i j : Nat) : (s.wr f v i j).strms = s.strms := rfl
@[simp] theorem State.wr_snaps (s : State) (f : Fld) (v i j : Nat) : (s.wr f v i j).snaps = s.snaps := rfl
@[simp] theorem State.wr_wm (s : State) (f : Fld) (v i j : Nat) : (s.wr f v i j).wm = s.wm := rfl
@[simp] theorem State.wr_jumps (s : State) (f : Fld) (v i j : Nat) : (s.wr f v i j).jumps = s.jumps := rfl
@[simp] theorem State.wr_d3hot (s : State) (f : Fld) (v i j : Nat) : (s.wr f v i j).d3hot = s.d3hot := rfl
@[simp] theorem State.wr_out (s : State) (f : Fld) (v i j : Nat) : (s.wr f v i j).out = s.out := rfl
@[simp] theorem State.wr_rr (s : State) (f : Fld) (v i j : Nat) : (s.wr f v i j).rr = s.rr := rfl
@[simp] theorem State.wr_lastChunk (s : State) (f : Fld) (v i j : Nat) : (s.wr f v i j).lastChunk = s.lastChunk := rfl
@[simp] theorem State.wr_time (s : State) (f : Fld) (v i j : Nat) : (s.wr f v i j).time = s.time := rfl
@[simp] theorem State.wr_ports (s : State) (f : Fld) (v i j : Nat) : (s.wr f v i j).ports = s.ports := rfl
@[simp] theorem State.wr_fab (s : State) (f : Fld) (v i j : Nat) : (s.wr f v i j).fab = s.fab := rfl
@[simp] theorem State.wr_pwr (s : State) (f : Fld) (v i j : Nat) : (s.wr f v i j).pwr = s.pwr := rfl
@[simp] theorem State.wr_sensors (s : State) (f : Fld) (v i j : Nat) : (s.wr f v i j).sensors = s.sensors := rfl
@[simp] theorem State.wr_doms (s : State) (f : Fld) (v i j : Nat) : (s.wr f v i j).doms = s.doms := rfl
@[simp] theorem State.wr_rst (s : State) (f : Fld) (v i j : Nat) : (s.wr f v i j).rst = s.rst := rfl
@[simp] theorem State.wr_safeX (s : State) (f : Fld) (v i j : Nat) : (s.wr f v i j).safeX = s.safeX := rfl
@[simp] theorem State.wr_live (s : State) (f : Fld) (v i j : Nat) : (s.wr f v i j).live = s.live := rfl
@[simp] theorem State.wr_xings (s : State) (f : Fld) (v i j : Nat) : (s.wr f v i j).xings = s.xings := rfl
@[simp] theorem State.wr_shadowWr (s : State) (f : Fld) (v i j : Nat) : (s.wr f v i j).shadowWr = s.shadowWr := rfl
@[simp] theorem State.wr_xwait (s : State) (f : Fld) (v i j : Nat) : (s.wr f v i j).xwait = s.xwait := rfl
@[simp] theorem State.wr_svp (s : State) (f : Fld) (v i j : Nat) : (s.wr f v i j).svp = s.svp := rfl
@[simp] theorem State.wr_trigs (s : State) (f : Fld) (v i j : Nat) : (s.wr f v i j).trigs = s.trigs := rfl
@[simp] theorem State.wr_jtag (s : State) (f : Fld) (v i j : Nat) : (s.wr f v i j).jtag = s.jtag := rfl
@[simp] theorem State.wr_shd (s : State) (f : Fld) (v i j : Nat) : (s.wr f v i j).shd = s.shd := rfl
@[simp] theorem State.wr_badSup (s : State) (f : Fld) (v i j : Nat) : (s.wr f v i j).badSup = s.badSup := rfl
@[simp] theorem State.wr_tok (s : State) (f : Fld) (v i j : Nat) : (s.wr f v i j).tok = s.tok := rfl
@[simp] theorem State.wr_fRestart (s : State) (f : Fld) (v i j : Nat) : (s.wr f v i j).fRestart = s.fRestart := rfl
@[simp] theorem State.wr_tickAcc (s : State) (f : Fld) (v i j : Nat) : (s.wr f v i j).tickAcc = s.tickAcc := rfl
@[simp] theorem State.wr_tickDie (s : State) (f : Fld) (v i j : Nat) : (s.wr f v i j).tickDie = s.tickDie := rfl
@[simp] theorem State.wr_wakeAsk (s : State) (f : Fld) (v i j : Nat) : (s.wr f v i j).wakeAsk = s.wakeAsk := rfl
@[simp] theorem State.wr_wake (s : State) (f : Fld) (v i j : Nat) : (s.wr f v i j).wake = s.wake := rfl
@[simp] theorem State.wr_safePin (s : State) (f : Fld) (v i j : Nat) : (s.wr f v i j).safePin = s.safePin := rfl
@[simp] theorem State.wr_safeRail (s : State) (f : Fld) (v i j : Nat) : (s.wr f v i j).safeRail = s.safeRail := rfl
@[simp] theorem State.wr_safeWave (s : State) (f : Fld) (v i j : Nat) : (s.wr f v i j).safeWave = s.safeWave := rfl
@[simp] theorem State.wr_atTick (s : State) (f : Fld) (v i j : Nat) : (s.wr f v i j).atTick = s.atTick := rfl

@[simp] theorem State.setGang_pending (s : State) (n : Nat) (x : Gang) : (s.setGang n x).pending = s.pending := rfl
@[simp] theorem State.setGang_regs (s : State) (n : Nat) (x : Gang) : (s.setGang n x).regs = s.regs := rfl
@[simp] theorem State.setGang_latch (s : State) (n : Nat) (x : Gang) : (s.setGang n x).latch = s.latch := rfl
@[simp] theorem State.setGang_now (s : State) (n : Nat) (x : Gang) : (s.setGang n x).now = s.now := rfl
@[simp] theorem State.setGang_free (s : State) (n : Nat) (x : Gang) : (s.setGang n x).free = s.free := rfl
@[simp] theorem State.setGang_pods (s : State) (n : Nat) (x : Gang) : (s.setGang n x).pods = s.pods := rfl
@[simp] theorem State.setGang_pins (s : State) (n : Nat) (x : Gang) : (s.setGang n x).pins = s.pins := rfl
@[simp] theorem State.setGang_ius (s : State) (n : Nat) (x : Gang) : (s.setGang n x).ius = s.ius := rfl
@[simp] theorem State.setGang_iuq (s : State) (n : Nat) (x : Gang) : (s.setGang n x).iuq = s.iuq := rfl
@[simp] theorem State.setGang_iuSetup (s : State) (n : Nat) (x : Gang) : (s.setGang n x).iuSetup = s.iuSetup := rfl
@[simp] theorem State.setGang_pmuSetup (s : State) (n : Nat) (x : Gang) : (s.setGang n x).pmuSetup = s.pmuSetup := rfl
@[simp] theorem State.setGang_pmus (s : State) (n : Nat) (x : Gang) : (s.setGang n x).pmus = s.pmus := rfl
@[simp] theorem State.setGang_waves (s : State) (n : Nat) (x : Gang) : (s.setGang n x).waves = s.waves := rfl
@[simp] theorem State.setGang_rails (s : State) (n : Nat) (x : Gang) : (s.setGang n x).rails = s.rails := rfl
@[simp] theorem State.setGang_sites (s : State) (n : Nat) (x : Gang) : (s.setGang n x).sites = s.sites := rfl
@[simp] theorem State.setGang_dies (s : State) (n : Nat) (x : Gang) : (s.setGang n x).dies = s.dies := rfl
@[simp] theorem State.setGang_segMem (s : State) (n : Nat) (x : Gang) : (s.setGang n x).segMem = s.segMem := rfl
@[simp] theorem State.setGang_poolMem (s : State) (n : Nat) (x : Gang) : (s.setGang n x).poolMem = s.poolMem := rfl
@[simp] theorem State.setGang_poolBad (s : State) (n : Nat) (x : Gang) : (s.setGang n x).poolBad = s.poolBad := rfl
@[simp] theorem State.setGang_capMem (s : State) (n : Nat) (x : Gang) : (s.setGang n x).capMem = s.capMem := rfl
@[simp] theorem State.setGang_ledgMem (s : State) (n : Nat) (x : Gang) : (s.setGang n x).ledgMem = s.ledgMem := rfl
@[simp] theorem State.setGang_mtpMem (s : State) (n : Nat) (x : Gang) : (s.setGang n x).mtpMem = s.mtpMem := rfl
@[simp] theorem State.setGang_siteMap (s : State) (n : Nat) (x : Gang) : (s.setGang n x).siteMap = s.siteMap := rfl
@[simp] theorem State.setGang_runs (s : State) (n : Nat) (x : Gang) : (s.setGang n x).runs = s.runs := rfl
@[simp] theorem State.setGang_evq (s : State) (n : Nat) (x : Gang) : (s.setGang n x).evq = s.evq := rfl
@[simp] theorem State.setGang_seqs (s : State) (n : Nat) (x : Gang) : (s.setGang n x).seqs = s.seqs := rfl
@[simp] theorem State.setGang_faultq (s : State) (n : Nat) (x : Gang) : (s.setGang n x).faultq = s.faultq := rfl
@[simp] theorem State.setGang_fences (s : State) (n : Nat) (x : Gang) : (s.setGang n x).fences = s.fences := rfl
@[simp] theorem State.setGang_pmc (s : State) (n : Nat) (x : Gang) : (s.setGang n x).pmc = s.pmc := rfl
@[simp] theorem State.setGang_ledgq (s : State) (n : Nat) (x : Gang) : (s.setGang n x).ledgq = s.ledgq := rfl
@[simp] theorem State.setGang_ledgAbove (s : State) (n : Nat) (x : Gang) : (s.setGang n x).ledgAbove = s.ledgAbove := rfl
@[simp] theorem State.setGang_qps (s : State) (n : Nat) (x : Gang) : (s.setGang n x).qps = s.qps := rfl
@[simp] theorem State.setGang_evrs (s : State) (n : Nat) (x : Gang) : (s.setGang n x).evrs = s.evrs := rfl
@[simp] theorem State.setGang_tlb (s : State) (n : Nat) (x : Gang) : (s.setGang n x).tlb = s.tlb := rfl
@[simp] theorem State.setGang_mmuq (s : State) (n : Nat) (x : Gang) : (s.setGang n x).mmuq = s.mmuq := rfl
@[simp] theorem State.setGang_strms (s : State) (n : Nat) (x : Gang) : (s.setGang n x).strms = s.strms := rfl
@[simp] theorem State.setGang_snaps (s : State) (n : Nat) (x : Gang) : (s.setGang n x).snaps = s.snaps := rfl
@[simp] theorem State.setGang_wm (s : State) (n : Nat) (x : Gang) : (s.setGang n x).wm = s.wm := rfl
@[simp] theorem State.setGang_jumps (s : State) (n : Nat) (x : Gang) : (s.setGang n x).jumps = s.jumps := rfl
@[simp] theorem State.setGang_d3hot (s : State) (n : Nat) (x : Gang) : (s.setGang n x).d3hot = s.d3hot := rfl
@[simp] theorem State.setGang_out (s : State) (n : Nat) (x : Gang) : (s.setGang n x).out = s.out := rfl
@[simp] theorem State.setGang_rr (s : State) (n : Nat) (x : Gang) : (s.setGang n x).rr = s.rr := rfl
@[simp] theorem State.setGang_lastChunk (s : State) (n : Nat) (x : Gang) : (s.setGang n x).lastChunk = s.lastChunk := rfl
@[simp] theorem State.setGang_time (s : State) (n : Nat) (x : Gang) : (s.setGang n x).time = s.time := rfl
@[simp] theorem State.setGang_ports (s : State) (n : Nat) (x : Gang) : (s.setGang n x).ports = s.ports := rfl
@[simp] theorem State.setGang_fab (s : State) (n : Nat) (x : Gang) : (s.setGang n x).fab = s.fab := rfl
@[simp] theorem State.setGang_pwr (s : State) (n : Nat) (x : Gang) : (s.setGang n x).pwr = s.pwr := rfl
@[simp] theorem State.setGang_sensors (s : State) (n : Nat) (x : Gang) : (s.setGang n x).sensors = s.sensors := rfl
@[simp] theorem State.setGang_doms (s : State) (n : Nat) (x : Gang) : (s.setGang n x).doms = s.doms := rfl
@[simp] theorem State.setGang_rst (s : State) (n : Nat) (x : Gang) : (s.setGang n x).rst = s.rst := rfl
@[simp] theorem State.setGang_safeX (s : State) (n : Nat) (x : Gang) : (s.setGang n x).safeX = s.safeX := rfl
@[simp] theorem State.setGang_live (s : State) (n : Nat) (x : Gang) : (s.setGang n x).live = s.live := rfl
@[simp] theorem State.setGang_xings (s : State) (n : Nat) (x : Gang) : (s.setGang n x).xings = s.xings := rfl
@[simp] theorem State.setGang_shadowWr (s : State) (n : Nat) (x : Gang) : (s.setGang n x).shadowWr = s.shadowWr := rfl
@[simp] theorem State.setGang_xwait (s : State) (n : Nat) (x : Gang) : (s.setGang n x).xwait = s.xwait := rfl
@[simp] theorem State.setGang_svp (s : State) (n : Nat) (x : Gang) : (s.setGang n x).svp = s.svp := rfl
@[simp] theorem State.setGang_trigs (s : State) (n : Nat) (x : Gang) : (s.setGang n x).trigs = s.trigs := rfl
@[simp] theorem State.setGang_jtag (s : State) (n : Nat) (x : Gang) : (s.setGang n x).jtag = s.jtag := rfl
@[simp] theorem State.setGang_shd (s : State) (n : Nat) (x : Gang) : (s.setGang n x).shd = s.shd := rfl
@[simp] theorem State.setGang_badSup (s : State) (n : Nat) (x : Gang) : (s.setGang n x).badSup = s.badSup := rfl
@[simp] theorem State.setGang_tok (s : State) (n : Nat) (x : Gang) : (s.setGang n x).tok = s.tok := rfl
@[simp] theorem State.setGang_fRestart (s : State) (n : Nat) (x : Gang) : (s.setGang n x).fRestart = s.fRestart := rfl
@[simp] theorem State.setGang_tickAcc (s : State) (n : Nat) (x : Gang) : (s.setGang n x).tickAcc = s.tickAcc := rfl
@[simp] theorem State.setGang_tickDie (s : State) (n : Nat) (x : Gang) : (s.setGang n x).tickDie = s.tickDie := rfl
@[simp] theorem State.setGang_wakeAsk (s : State) (n : Nat) (x : Gang) : (s.setGang n x).wakeAsk = s.wakeAsk := rfl
@[simp] theorem State.setGang_wake (s : State) (n : Nat) (x : Gang) : (s.setGang n x).wake = s.wake := rfl
@[simp] theorem State.setGang_safePin (s : State) (n : Nat) (x : Gang) : (s.setGang n x).safePin = s.safePin := rfl
@[simp] theorem State.setGang_safeRail (s : State) (n : Nat) (x : Gang) : (s.setGang n x).safeRail = s.safeRail := rfl
@[simp] theorem State.setGang_safeWave (s : State) (n : Nat) (x : Gang) : (s.setGang n x).safeWave = s.safeWave := rfl
@[simp] theorem State.setGang_atTick (s : State) (n : Nat) (x : Gang) : (s.setGang n x).atTick = s.atTick := rfl

@[simp] theorem State.setPod_pending (s : State) (n : Nat) (x : PodX) : (s.setPod n x).pending = s.pending := rfl
@[simp] theorem State.setPod_regs (s : State) (n : Nat) (x : PodX) : (s.setPod n x).regs = s.regs := rfl
@[simp] theorem State.setPod_latch (s : State) (n : Nat) (x : PodX) : (s.setPod n x).latch = s.latch := rfl
@[simp] theorem State.setPod_now (s : State) (n : Nat) (x : PodX) : (s.setPod n x).now = s.now := rfl
@[simp] theorem State.setPod_free (s : State) (n : Nat) (x : PodX) : (s.setPod n x).free = s.free := rfl
@[simp] theorem State.setPod_gangs (s : State) (n : Nat) (x : PodX) : (s.setPod n x).gangs = s.gangs := rfl
@[simp] theorem State.setPod_pins (s : State) (n : Nat) (x : PodX) : (s.setPod n x).pins = s.pins := rfl
@[simp] theorem State.setPod_ius (s : State) (n : Nat) (x : PodX) : (s.setPod n x).ius = s.ius := rfl
@[simp] theorem State.setPod_iuq (s : State) (n : Nat) (x : PodX) : (s.setPod n x).iuq = s.iuq := rfl
@[simp] theorem State.setPod_iuSetup (s : State) (n : Nat) (x : PodX) : (s.setPod n x).iuSetup = s.iuSetup := rfl
@[simp] theorem State.setPod_pmuSetup (s : State) (n : Nat) (x : PodX) : (s.setPod n x).pmuSetup = s.pmuSetup := rfl
@[simp] theorem State.setPod_pmus (s : State) (n : Nat) (x : PodX) : (s.setPod n x).pmus = s.pmus := rfl
@[simp] theorem State.setPod_waves (s : State) (n : Nat) (x : PodX) : (s.setPod n x).waves = s.waves := rfl
@[simp] theorem State.setPod_rails (s : State) (n : Nat) (x : PodX) : (s.setPod n x).rails = s.rails := rfl
@[simp] theorem State.setPod_sites (s : State) (n : Nat) (x : PodX) : (s.setPod n x).sites = s.sites := rfl
@[simp] theorem State.setPod_dies (s : State) (n : Nat) (x : PodX) : (s.setPod n x).dies = s.dies := rfl
@[simp] theorem State.setPod_segMem (s : State) (n : Nat) (x : PodX) : (s.setPod n x).segMem = s.segMem := rfl
@[simp] theorem State.setPod_poolMem (s : State) (n : Nat) (x : PodX) : (s.setPod n x).poolMem = s.poolMem := rfl
@[simp] theorem State.setPod_poolBad (s : State) (n : Nat) (x : PodX) : (s.setPod n x).poolBad = s.poolBad := rfl
@[simp] theorem State.setPod_capMem (s : State) (n : Nat) (x : PodX) : (s.setPod n x).capMem = s.capMem := rfl
@[simp] theorem State.setPod_ledgMem (s : State) (n : Nat) (x : PodX) : (s.setPod n x).ledgMem = s.ledgMem := rfl
@[simp] theorem State.setPod_mtpMem (s : State) (n : Nat) (x : PodX) : (s.setPod n x).mtpMem = s.mtpMem := rfl
@[simp] theorem State.setPod_siteMap (s : State) (n : Nat) (x : PodX) : (s.setPod n x).siteMap = s.siteMap := rfl
@[simp] theorem State.setPod_runs (s : State) (n : Nat) (x : PodX) : (s.setPod n x).runs = s.runs := rfl
@[simp] theorem State.setPod_evq (s : State) (n : Nat) (x : PodX) : (s.setPod n x).evq = s.evq := rfl
@[simp] theorem State.setPod_seqs (s : State) (n : Nat) (x : PodX) : (s.setPod n x).seqs = s.seqs := rfl
@[simp] theorem State.setPod_faultq (s : State) (n : Nat) (x : PodX) : (s.setPod n x).faultq = s.faultq := rfl
@[simp] theorem State.setPod_fences (s : State) (n : Nat) (x : PodX) : (s.setPod n x).fences = s.fences := rfl
@[simp] theorem State.setPod_pmc (s : State) (n : Nat) (x : PodX) : (s.setPod n x).pmc = s.pmc := rfl
@[simp] theorem State.setPod_ledgq (s : State) (n : Nat) (x : PodX) : (s.setPod n x).ledgq = s.ledgq := rfl
@[simp] theorem State.setPod_ledgAbove (s : State) (n : Nat) (x : PodX) : (s.setPod n x).ledgAbove = s.ledgAbove := rfl
@[simp] theorem State.setPod_qps (s : State) (n : Nat) (x : PodX) : (s.setPod n x).qps = s.qps := rfl
@[simp] theorem State.setPod_evrs (s : State) (n : Nat) (x : PodX) : (s.setPod n x).evrs = s.evrs := rfl
@[simp] theorem State.setPod_tlb (s : State) (n : Nat) (x : PodX) : (s.setPod n x).tlb = s.tlb := rfl
@[simp] theorem State.setPod_mmuq (s : State) (n : Nat) (x : PodX) : (s.setPod n x).mmuq = s.mmuq := rfl
@[simp] theorem State.setPod_strms (s : State) (n : Nat) (x : PodX) : (s.setPod n x).strms = s.strms := rfl
@[simp] theorem State.setPod_snaps (s : State) (n : Nat) (x : PodX) : (s.setPod n x).snaps = s.snaps := rfl
@[simp] theorem State.setPod_wm (s : State) (n : Nat) (x : PodX) : (s.setPod n x).wm = s.wm := rfl
@[simp] theorem State.setPod_jumps (s : State) (n : Nat) (x : PodX) : (s.setPod n x).jumps = s.jumps := rfl
@[simp] theorem State.setPod_d3hot (s : State) (n : Nat) (x : PodX) : (s.setPod n x).d3hot = s.d3hot := rfl
@[simp] theorem State.setPod_out (s : State) (n : Nat) (x : PodX) : (s.setPod n x).out = s.out := rfl
@[simp] theorem State.setPod_rr (s : State) (n : Nat) (x : PodX) : (s.setPod n x).rr = s.rr := rfl
@[simp] theorem State.setPod_lastChunk (s : State) (n : Nat) (x : PodX) : (s.setPod n x).lastChunk = s.lastChunk := rfl
@[simp] theorem State.setPod_time (s : State) (n : Nat) (x : PodX) : (s.setPod n x).time = s.time := rfl
@[simp] theorem State.setPod_ports (s : State) (n : Nat) (x : PodX) : (s.setPod n x).ports = s.ports := rfl
@[simp] theorem State.setPod_fab (s : State) (n : Nat) (x : PodX) : (s.setPod n x).fab = s.fab := rfl
@[simp] theorem State.setPod_pwr (s : State) (n : Nat) (x : PodX) : (s.setPod n x).pwr = s.pwr := rfl
@[simp] theorem State.setPod_sensors (s : State) (n : Nat) (x : PodX) : (s.setPod n x).sensors = s.sensors := rfl
@[simp] theorem State.setPod_doms (s : State) (n : Nat) (x : PodX) : (s.setPod n x).doms = s.doms := rfl
@[simp] theorem State.setPod_rst (s : State) (n : Nat) (x : PodX) : (s.setPod n x).rst = s.rst := rfl
@[simp] theorem State.setPod_safeX (s : State) (n : Nat) (x : PodX) : (s.setPod n x).safeX = s.safeX := rfl
@[simp] theorem State.setPod_live (s : State) (n : Nat) (x : PodX) : (s.setPod n x).live = s.live := rfl
@[simp] theorem State.setPod_xings (s : State) (n : Nat) (x : PodX) : (s.setPod n x).xings = s.xings := rfl
@[simp] theorem State.setPod_shadowWr (s : State) (n : Nat) (x : PodX) : (s.setPod n x).shadowWr = s.shadowWr := rfl
@[simp] theorem State.setPod_xwait (s : State) (n : Nat) (x : PodX) : (s.setPod n x).xwait = s.xwait := rfl
@[simp] theorem State.setPod_svp (s : State) (n : Nat) (x : PodX) : (s.setPod n x).svp = s.svp := rfl
@[simp] theorem State.setPod_trigs (s : State) (n : Nat) (x : PodX) : (s.setPod n x).trigs = s.trigs := rfl
@[simp] theorem State.setPod_jtag (s : State) (n : Nat) (x : PodX) : (s.setPod n x).jtag = s.jtag := rfl
@[simp] theorem State.setPod_shd (s : State) (n : Nat) (x : PodX) : (s.setPod n x).shd = s.shd := rfl
@[simp] theorem State.setPod_badSup (s : State) (n : Nat) (x : PodX) : (s.setPod n x).badSup = s.badSup := rfl
@[simp] theorem State.setPod_tok (s : State) (n : Nat) (x : PodX) : (s.setPod n x).tok = s.tok := rfl
@[simp] theorem State.setPod_fRestart (s : State) (n : Nat) (x : PodX) : (s.setPod n x).fRestart = s.fRestart := rfl
@[simp] theorem State.setPod_tickAcc (s : State) (n : Nat) (x : PodX) : (s.setPod n x).tickAcc = s.tickAcc := rfl
@[simp] theorem State.setPod_tickDie (s : State) (n : Nat) (x : PodX) : (s.setPod n x).tickDie = s.tickDie := rfl
@[simp] theorem State.setPod_wakeAsk (s : State) (n : Nat) (x : PodX) : (s.setPod n x).wakeAsk = s.wakeAsk := rfl
@[simp] theorem State.setPod_wake (s : State) (n : Nat) (x : PodX) : (s.setPod n x).wake = s.wake := rfl
@[simp] theorem State.setPod_safePin (s : State) (n : Nat) (x : PodX) : (s.setPod n x).safePin = s.safePin := rfl
@[simp] theorem State.setPod_safeRail (s : State) (n : Nat) (x : PodX) : (s.setPod n x).safeRail = s.safeRail := rfl
@[simp] theorem State.setPod_safeWave (s : State) (n : Nat) (x : PodX) : (s.setPod n x).safeWave = s.safeWave := rfl
@[simp] theorem State.setPod_atTick (s : State) (n : Nat) (x : PodX) : (s.setPod n x).atTick = s.atTick := rfl

@[simp] theorem State.setPin_pending (s : State) (n : Nat) (x : PinX) : (s.setPin n x).pending = s.pending := rfl
@[simp] theorem State.setPin_regs (s : State) (n : Nat) (x : PinX) : (s.setPin n x).regs = s.regs := rfl
@[simp] theorem State.setPin_latch (s : State) (n : Nat) (x : PinX) : (s.setPin n x).latch = s.latch := rfl
@[simp] theorem State.setPin_now (s : State) (n : Nat) (x : PinX) : (s.setPin n x).now = s.now := rfl
@[simp] theorem State.setPin_free (s : State) (n : Nat) (x : PinX) : (s.setPin n x).free = s.free := rfl
@[simp] theorem State.setPin_gangs (s : State) (n : Nat) (x : PinX) : (s.setPin n x).gangs = s.gangs := rfl
@[simp] theorem State.setPin_pods (s : State) (n : Nat) (x : PinX) : (s.setPin n x).pods = s.pods := rfl
@[simp] theorem State.setPin_ius (s : State) (n : Nat) (x : PinX) : (s.setPin n x).ius = s.ius := rfl
@[simp] theorem State.setPin_iuq (s : State) (n : Nat) (x : PinX) : (s.setPin n x).iuq = s.iuq := rfl
@[simp] theorem State.setPin_iuSetup (s : State) (n : Nat) (x : PinX) : (s.setPin n x).iuSetup = s.iuSetup := rfl
@[simp] theorem State.setPin_pmuSetup (s : State) (n : Nat) (x : PinX) : (s.setPin n x).pmuSetup = s.pmuSetup := rfl
@[simp] theorem State.setPin_pmus (s : State) (n : Nat) (x : PinX) : (s.setPin n x).pmus = s.pmus := rfl
@[simp] theorem State.setPin_waves (s : State) (n : Nat) (x : PinX) : (s.setPin n x).waves = s.waves := rfl
@[simp] theorem State.setPin_rails (s : State) (n : Nat) (x : PinX) : (s.setPin n x).rails = s.rails := rfl
@[simp] theorem State.setPin_sites (s : State) (n : Nat) (x : PinX) : (s.setPin n x).sites = s.sites := rfl
@[simp] theorem State.setPin_dies (s : State) (n : Nat) (x : PinX) : (s.setPin n x).dies = s.dies := rfl
@[simp] theorem State.setPin_segMem (s : State) (n : Nat) (x : PinX) : (s.setPin n x).segMem = s.segMem := rfl
@[simp] theorem State.setPin_poolMem (s : State) (n : Nat) (x : PinX) : (s.setPin n x).poolMem = s.poolMem := rfl
@[simp] theorem State.setPin_poolBad (s : State) (n : Nat) (x : PinX) : (s.setPin n x).poolBad = s.poolBad := rfl
@[simp] theorem State.setPin_capMem (s : State) (n : Nat) (x : PinX) : (s.setPin n x).capMem = s.capMem := rfl
@[simp] theorem State.setPin_ledgMem (s : State) (n : Nat) (x : PinX) : (s.setPin n x).ledgMem = s.ledgMem := rfl
@[simp] theorem State.setPin_mtpMem (s : State) (n : Nat) (x : PinX) : (s.setPin n x).mtpMem = s.mtpMem := rfl
@[simp] theorem State.setPin_siteMap (s : State) (n : Nat) (x : PinX) : (s.setPin n x).siteMap = s.siteMap := rfl
@[simp] theorem State.setPin_runs (s : State) (n : Nat) (x : PinX) : (s.setPin n x).runs = s.runs := rfl
@[simp] theorem State.setPin_evq (s : State) (n : Nat) (x : PinX) : (s.setPin n x).evq = s.evq := rfl
@[simp] theorem State.setPin_seqs (s : State) (n : Nat) (x : PinX) : (s.setPin n x).seqs = s.seqs := rfl
@[simp] theorem State.setPin_faultq (s : State) (n : Nat) (x : PinX) : (s.setPin n x).faultq = s.faultq := rfl
@[simp] theorem State.setPin_fences (s : State) (n : Nat) (x : PinX) : (s.setPin n x).fences = s.fences := rfl
@[simp] theorem State.setPin_pmc (s : State) (n : Nat) (x : PinX) : (s.setPin n x).pmc = s.pmc := rfl
@[simp] theorem State.setPin_ledgq (s : State) (n : Nat) (x : PinX) : (s.setPin n x).ledgq = s.ledgq := rfl
@[simp] theorem State.setPin_ledgAbove (s : State) (n : Nat) (x : PinX) : (s.setPin n x).ledgAbove = s.ledgAbove := rfl
@[simp] theorem State.setPin_qps (s : State) (n : Nat) (x : PinX) : (s.setPin n x).qps = s.qps := rfl
@[simp] theorem State.setPin_evrs (s : State) (n : Nat) (x : PinX) : (s.setPin n x).evrs = s.evrs := rfl
@[simp] theorem State.setPin_tlb (s : State) (n : Nat) (x : PinX) : (s.setPin n x).tlb = s.tlb := rfl
@[simp] theorem State.setPin_mmuq (s : State) (n : Nat) (x : PinX) : (s.setPin n x).mmuq = s.mmuq := rfl
@[simp] theorem State.setPin_strms (s : State) (n : Nat) (x : PinX) : (s.setPin n x).strms = s.strms := rfl
@[simp] theorem State.setPin_snaps (s : State) (n : Nat) (x : PinX) : (s.setPin n x).snaps = s.snaps := rfl
@[simp] theorem State.setPin_wm (s : State) (n : Nat) (x : PinX) : (s.setPin n x).wm = s.wm := rfl
@[simp] theorem State.setPin_jumps (s : State) (n : Nat) (x : PinX) : (s.setPin n x).jumps = s.jumps := rfl
@[simp] theorem State.setPin_d3hot (s : State) (n : Nat) (x : PinX) : (s.setPin n x).d3hot = s.d3hot := rfl
@[simp] theorem State.setPin_out (s : State) (n : Nat) (x : PinX) : (s.setPin n x).out = s.out := rfl
@[simp] theorem State.setPin_rr (s : State) (n : Nat) (x : PinX) : (s.setPin n x).rr = s.rr := rfl
@[simp] theorem State.setPin_lastChunk (s : State) (n : Nat) (x : PinX) : (s.setPin n x).lastChunk = s.lastChunk := rfl
@[simp] theorem State.setPin_time (s : State) (n : Nat) (x : PinX) : (s.setPin n x).time = s.time := rfl
@[simp] theorem State.setPin_ports (s : State) (n : Nat) (x : PinX) : (s.setPin n x).ports = s.ports := rfl
@[simp] theorem State.setPin_fab (s : State) (n : Nat) (x : PinX) : (s.setPin n x).fab = s.fab := rfl
@[simp] theorem State.setPin_pwr (s : State) (n : Nat) (x : PinX) : (s.setPin n x).pwr = s.pwr := rfl
@[simp] theorem State.setPin_sensors (s : State) (n : Nat) (x : PinX) : (s.setPin n x).sensors = s.sensors := rfl
@[simp] theorem State.setPin_doms (s : State) (n : Nat) (x : PinX) : (s.setPin n x).doms = s.doms := rfl
@[simp] theorem State.setPin_rst (s : State) (n : Nat) (x : PinX) : (s.setPin n x).rst = s.rst := rfl
@[simp] theorem State.setPin_safeX (s : State) (n : Nat) (x : PinX) : (s.setPin n x).safeX = s.safeX := rfl
@[simp] theorem State.setPin_live (s : State) (n : Nat) (x : PinX) : (s.setPin n x).live = s.live := rfl
@[simp] theorem State.setPin_xings (s : State) (n : Nat) (x : PinX) : (s.setPin n x).xings = s.xings := rfl
@[simp] theorem State.setPin_shadowWr (s : State) (n : Nat) (x : PinX) : (s.setPin n x).shadowWr = s.shadowWr := rfl
@[simp] theorem State.setPin_xwait (s : State) (n : Nat) (x : PinX) : (s.setPin n x).xwait = s.xwait := rfl
@[simp] theorem State.setPin_svp (s : State) (n : Nat) (x : PinX) : (s.setPin n x).svp = s.svp := rfl
@[simp] theorem State.setPin_trigs (s : State) (n : Nat) (x : PinX) : (s.setPin n x).trigs = s.trigs := rfl
@[simp] theorem State.setPin_jtag (s : State) (n : Nat) (x : PinX) : (s.setPin n x).jtag = s.jtag := rfl
@[simp] theorem State.setPin_shd (s : State) (n : Nat) (x : PinX) : (s.setPin n x).shd = s.shd := rfl
@[simp] theorem State.setPin_badSup (s : State) (n : Nat) (x : PinX) : (s.setPin n x).badSup = s.badSup := rfl
@[simp] theorem State.setPin_tok (s : State) (n : Nat) (x : PinX) : (s.setPin n x).tok = s.tok := rfl
@[simp] theorem State.setPin_fRestart (s : State) (n : Nat) (x : PinX) : (s.setPin n x).fRestart = s.fRestart := rfl
@[simp] theorem State.setPin_tickAcc (s : State) (n : Nat) (x : PinX) : (s.setPin n x).tickAcc = s.tickAcc := rfl
@[simp] theorem State.setPin_tickDie (s : State) (n : Nat) (x : PinX) : (s.setPin n x).tickDie = s.tickDie := rfl
@[simp] theorem State.setPin_wakeAsk (s : State) (n : Nat) (x : PinX) : (s.setPin n x).wakeAsk = s.wakeAsk := rfl
@[simp] theorem State.setPin_wake (s : State) (n : Nat) (x : PinX) : (s.setPin n x).wake = s.wake := rfl
@[simp] theorem State.setPin_safePin (s : State) (n : Nat) (x : PinX) : (s.setPin n x).safePin = s.safePin := rfl
@[simp] theorem State.setPin_safeRail (s : State) (n : Nat) (x : PinX) : (s.setPin n x).safeRail = s.safeRail := rfl
@[simp] theorem State.setPin_safeWave (s : State) (n : Nat) (x : PinX) : (s.setPin n x).safeWave = s.safeWave := rfl
@[simp] theorem State.setPin_atTick (s : State) (n : Nat) (x : PinX) : (s.setPin n x).atTick = s.atTick := rfl

@[simp] theorem State.setIu_pending (s : State) (n : Nat) (x : IuX) : (s.setIu n x).pending = s.pending := rfl
@[simp] theorem State.setIu_regs (s : State) (n : Nat) (x : IuX) : (s.setIu n x).regs = s.regs := rfl
@[simp] theorem State.setIu_latch (s : State) (n : Nat) (x : IuX) : (s.setIu n x).latch = s.latch := rfl
@[simp] theorem State.setIu_now (s : State) (n : Nat) (x : IuX) : (s.setIu n x).now = s.now := rfl
@[simp] theorem State.setIu_free (s : State) (n : Nat) (x : IuX) : (s.setIu n x).free = s.free := rfl
@[simp] theorem State.setIu_gangs (s : State) (n : Nat) (x : IuX) : (s.setIu n x).gangs = s.gangs := rfl
@[simp] theorem State.setIu_pods (s : State) (n : Nat) (x : IuX) : (s.setIu n x).pods = s.pods := rfl
@[simp] theorem State.setIu_pins (s : State) (n : Nat) (x : IuX) : (s.setIu n x).pins = s.pins := rfl
@[simp] theorem State.setIu_iuq (s : State) (n : Nat) (x : IuX) : (s.setIu n x).iuq = s.iuq := rfl
@[simp] theorem State.setIu_iuSetup (s : State) (n : Nat) (x : IuX) : (s.setIu n x).iuSetup = s.iuSetup := rfl
@[simp] theorem State.setIu_pmuSetup (s : State) (n : Nat) (x : IuX) : (s.setIu n x).pmuSetup = s.pmuSetup := rfl
@[simp] theorem State.setIu_pmus (s : State) (n : Nat) (x : IuX) : (s.setIu n x).pmus = s.pmus := rfl
@[simp] theorem State.setIu_waves (s : State) (n : Nat) (x : IuX) : (s.setIu n x).waves = s.waves := rfl
@[simp] theorem State.setIu_rails (s : State) (n : Nat) (x : IuX) : (s.setIu n x).rails = s.rails := rfl
@[simp] theorem State.setIu_sites (s : State) (n : Nat) (x : IuX) : (s.setIu n x).sites = s.sites := rfl
@[simp] theorem State.setIu_dies (s : State) (n : Nat) (x : IuX) : (s.setIu n x).dies = s.dies := rfl
@[simp] theorem State.setIu_segMem (s : State) (n : Nat) (x : IuX) : (s.setIu n x).segMem = s.segMem := rfl
@[simp] theorem State.setIu_poolMem (s : State) (n : Nat) (x : IuX) : (s.setIu n x).poolMem = s.poolMem := rfl
@[simp] theorem State.setIu_poolBad (s : State) (n : Nat) (x : IuX) : (s.setIu n x).poolBad = s.poolBad := rfl
@[simp] theorem State.setIu_capMem (s : State) (n : Nat) (x : IuX) : (s.setIu n x).capMem = s.capMem := rfl
@[simp] theorem State.setIu_ledgMem (s : State) (n : Nat) (x : IuX) : (s.setIu n x).ledgMem = s.ledgMem := rfl
@[simp] theorem State.setIu_mtpMem (s : State) (n : Nat) (x : IuX) : (s.setIu n x).mtpMem = s.mtpMem := rfl
@[simp] theorem State.setIu_siteMap (s : State) (n : Nat) (x : IuX) : (s.setIu n x).siteMap = s.siteMap := rfl
@[simp] theorem State.setIu_runs (s : State) (n : Nat) (x : IuX) : (s.setIu n x).runs = s.runs := rfl
@[simp] theorem State.setIu_evq (s : State) (n : Nat) (x : IuX) : (s.setIu n x).evq = s.evq := rfl
@[simp] theorem State.setIu_seqs (s : State) (n : Nat) (x : IuX) : (s.setIu n x).seqs = s.seqs := rfl
@[simp] theorem State.setIu_faultq (s : State) (n : Nat) (x : IuX) : (s.setIu n x).faultq = s.faultq := rfl
@[simp] theorem State.setIu_fences (s : State) (n : Nat) (x : IuX) : (s.setIu n x).fences = s.fences := rfl
@[simp] theorem State.setIu_pmc (s : State) (n : Nat) (x : IuX) : (s.setIu n x).pmc = s.pmc := rfl
@[simp] theorem State.setIu_ledgq (s : State) (n : Nat) (x : IuX) : (s.setIu n x).ledgq = s.ledgq := rfl
@[simp] theorem State.setIu_ledgAbove (s : State) (n : Nat) (x : IuX) : (s.setIu n x).ledgAbove = s.ledgAbove := rfl
@[simp] theorem State.setIu_qps (s : State) (n : Nat) (x : IuX) : (s.setIu n x).qps = s.qps := rfl
@[simp] theorem State.setIu_evrs (s : State) (n : Nat) (x : IuX) : (s.setIu n x).evrs = s.evrs := rfl
@[simp] theorem State.setIu_tlb (s : State) (n : Nat) (x : IuX) : (s.setIu n x).tlb = s.tlb := rfl
@[simp] theorem State.setIu_mmuq (s : State) (n : Nat) (x : IuX) : (s.setIu n x).mmuq = s.mmuq := rfl
@[simp] theorem State.setIu_strms (s : State) (n : Nat) (x : IuX) : (s.setIu n x).strms = s.strms := rfl
@[simp] theorem State.setIu_snaps (s : State) (n : Nat) (x : IuX) : (s.setIu n x).snaps = s.snaps := rfl
@[simp] theorem State.setIu_wm (s : State) (n : Nat) (x : IuX) : (s.setIu n x).wm = s.wm := rfl
@[simp] theorem State.setIu_jumps (s : State) (n : Nat) (x : IuX) : (s.setIu n x).jumps = s.jumps := rfl
@[simp] theorem State.setIu_d3hot (s : State) (n : Nat) (x : IuX) : (s.setIu n x).d3hot = s.d3hot := rfl
@[simp] theorem State.setIu_out (s : State) (n : Nat) (x : IuX) : (s.setIu n x).out = s.out := rfl
@[simp] theorem State.setIu_rr (s : State) (n : Nat) (x : IuX) : (s.setIu n x).rr = s.rr := rfl
@[simp] theorem State.setIu_lastChunk (s : State) (n : Nat) (x : IuX) : (s.setIu n x).lastChunk = s.lastChunk := rfl
@[simp] theorem State.setIu_time (s : State) (n : Nat) (x : IuX) : (s.setIu n x).time = s.time := rfl
@[simp] theorem State.setIu_ports (s : State) (n : Nat) (x : IuX) : (s.setIu n x).ports = s.ports := rfl
@[simp] theorem State.setIu_fab (s : State) (n : Nat) (x : IuX) : (s.setIu n x).fab = s.fab := rfl
@[simp] theorem State.setIu_pwr (s : State) (n : Nat) (x : IuX) : (s.setIu n x).pwr = s.pwr := rfl
@[simp] theorem State.setIu_sensors (s : State) (n : Nat) (x : IuX) : (s.setIu n x).sensors = s.sensors := rfl
@[simp] theorem State.setIu_doms (s : State) (n : Nat) (x : IuX) : (s.setIu n x).doms = s.doms := rfl
@[simp] theorem State.setIu_rst (s : State) (n : Nat) (x : IuX) : (s.setIu n x).rst = s.rst := rfl
@[simp] theorem State.setIu_safeX (s : State) (n : Nat) (x : IuX) : (s.setIu n x).safeX = s.safeX := rfl
@[simp] theorem State.setIu_live (s : State) (n : Nat) (x : IuX) : (s.setIu n x).live = s.live := rfl
@[simp] theorem State.setIu_xings (s : State) (n : Nat) (x : IuX) : (s.setIu n x).xings = s.xings := rfl
@[simp] theorem State.setIu_shadowWr (s : State) (n : Nat) (x : IuX) : (s.setIu n x).shadowWr = s.shadowWr := rfl
@[simp] theorem State.setIu_xwait (s : State) (n : Nat) (x : IuX) : (s.setIu n x).xwait = s.xwait := rfl
@[simp] theorem State.setIu_svp (s : State) (n : Nat) (x : IuX) : (s.setIu n x).svp = s.svp := rfl
@[simp] theorem State.setIu_trigs (s : State) (n : Nat) (x : IuX) : (s.setIu n x).trigs = s.trigs := rfl
@[simp] theorem State.setIu_jtag (s : State) (n : Nat) (x : IuX) : (s.setIu n x).jtag = s.jtag := rfl
@[simp] theorem State.setIu_shd (s : State) (n : Nat) (x : IuX) : (s.setIu n x).shd = s.shd := rfl
@[simp] theorem State.setIu_badSup (s : State) (n : Nat) (x : IuX) : (s.setIu n x).badSup = s.badSup := rfl
@[simp] theorem State.setIu_tok (s : State) (n : Nat) (x : IuX) : (s.setIu n x).tok = s.tok := rfl
@[simp] theorem State.setIu_fRestart (s : State) (n : Nat) (x : IuX) : (s.setIu n x).fRestart = s.fRestart := rfl
@[simp] theorem State.setIu_tickAcc (s : State) (n : Nat) (x : IuX) : (s.setIu n x).tickAcc = s.tickAcc := rfl
@[simp] theorem State.setIu_tickDie (s : State) (n : Nat) (x : IuX) : (s.setIu n x).tickDie = s.tickDie := rfl
@[simp] theorem State.setIu_wakeAsk (s : State) (n : Nat) (x : IuX) : (s.setIu n x).wakeAsk = s.wakeAsk := rfl
@[simp] theorem State.setIu_wake (s : State) (n : Nat) (x : IuX) : (s.setIu n x).wake = s.wake := rfl
@[simp] theorem State.setIu_safePin (s : State) (n : Nat) (x : IuX) : (s.setIu n x).safePin = s.safePin := rfl
@[simp] theorem State.setIu_safeRail (s : State) (n : Nat) (x : IuX) : (s.setIu n x).safeRail = s.safeRail := rfl
@[simp] theorem State.setIu_safeWave (s : State) (n : Nat) (x : IuX) : (s.setIu n x).safeWave = s.safeWave := rfl
@[simp] theorem State.setIu_atTick (s : State) (n : Nat) (x : IuX) : (s.setIu n x).atTick = s.atTick := rfl

@[simp] theorem State.setWave_pending (s : State) (n : Nat) (x : WaveX) : (s.setWave n x).pending = s.pending := rfl
@[simp] theorem State.setWave_regs (s : State) (n : Nat) (x : WaveX) : (s.setWave n x).regs = s.regs := rfl
@[simp] theorem State.setWave_latch (s : State) (n : Nat) (x : WaveX) : (s.setWave n x).latch = s.latch := rfl
@[simp] theorem State.setWave_now (s : State) (n : Nat) (x : WaveX) : (s.setWave n x).now = s.now := rfl
@[simp] theorem State.setWave_free (s : State) (n : Nat) (x : WaveX) : (s.setWave n x).free = s.free := rfl
@[simp] theorem State.setWave_gangs (s : State) (n : Nat) (x : WaveX) : (s.setWave n x).gangs = s.gangs := rfl
@[simp] theorem State.setWave_pods (s : State) (n : Nat) (x : WaveX) : (s.setWave n x).pods = s.pods := rfl
@[simp] theorem State.setWave_pins (s : State) (n : Nat) (x : WaveX) : (s.setWave n x).pins = s.pins := rfl
@[simp] theorem State.setWave_ius (s : State) (n : Nat) (x : WaveX) : (s.setWave n x).ius = s.ius := rfl
@[simp] theorem State.setWave_iuq (s : State) (n : Nat) (x : WaveX) : (s.setWave n x).iuq = s.iuq := rfl
@[simp] theorem State.setWave_iuSetup (s : State) (n : Nat) (x : WaveX) : (s.setWave n x).iuSetup = s.iuSetup := rfl
@[simp] theorem State.setWave_pmuSetup (s : State) (n : Nat) (x : WaveX) : (s.setWave n x).pmuSetup = s.pmuSetup := rfl
@[simp] theorem State.setWave_pmus (s : State) (n : Nat) (x : WaveX) : (s.setWave n x).pmus = s.pmus := rfl
@[simp] theorem State.setWave_rails (s : State) (n : Nat) (x : WaveX) : (s.setWave n x).rails = s.rails := rfl
@[simp] theorem State.setWave_sites (s : State) (n : Nat) (x : WaveX) : (s.setWave n x).sites = s.sites := rfl
@[simp] theorem State.setWave_dies (s : State) (n : Nat) (x : WaveX) : (s.setWave n x).dies = s.dies := rfl
@[simp] theorem State.setWave_segMem (s : State) (n : Nat) (x : WaveX) : (s.setWave n x).segMem = s.segMem := rfl
@[simp] theorem State.setWave_poolMem (s : State) (n : Nat) (x : WaveX) : (s.setWave n x).poolMem = s.poolMem := rfl
@[simp] theorem State.setWave_poolBad (s : State) (n : Nat) (x : WaveX) : (s.setWave n x).poolBad = s.poolBad := rfl
@[simp] theorem State.setWave_capMem (s : State) (n : Nat) (x : WaveX) : (s.setWave n x).capMem = s.capMem := rfl
@[simp] theorem State.setWave_ledgMem (s : State) (n : Nat) (x : WaveX) : (s.setWave n x).ledgMem = s.ledgMem := rfl
@[simp] theorem State.setWave_mtpMem (s : State) (n : Nat) (x : WaveX) : (s.setWave n x).mtpMem = s.mtpMem := rfl
@[simp] theorem State.setWave_siteMap (s : State) (n : Nat) (x : WaveX) : (s.setWave n x).siteMap = s.siteMap := rfl
@[simp] theorem State.setWave_runs (s : State) (n : Nat) (x : WaveX) : (s.setWave n x).runs = s.runs := rfl
@[simp] theorem State.setWave_evq (s : State) (n : Nat) (x : WaveX) : (s.setWave n x).evq = s.evq := rfl
@[simp] theorem State.setWave_seqs (s : State) (n : Nat) (x : WaveX) : (s.setWave n x).seqs = s.seqs := rfl
@[simp] theorem State.setWave_faultq (s : State) (n : Nat) (x : WaveX) : (s.setWave n x).faultq = s.faultq := rfl
@[simp] theorem State.setWave_fences (s : State) (n : Nat) (x : WaveX) : (s.setWave n x).fences = s.fences := rfl
@[simp] theorem State.setWave_pmc (s : State) (n : Nat) (x : WaveX) : (s.setWave n x).pmc = s.pmc := rfl
@[simp] theorem State.setWave_ledgq (s : State) (n : Nat) (x : WaveX) : (s.setWave n x).ledgq = s.ledgq := rfl
@[simp] theorem State.setWave_ledgAbove (s : State) (n : Nat) (x : WaveX) : (s.setWave n x).ledgAbove = s.ledgAbove := rfl
@[simp] theorem State.setWave_qps (s : State) (n : Nat) (x : WaveX) : (s.setWave n x).qps = s.qps := rfl
@[simp] theorem State.setWave_evrs (s : State) (n : Nat) (x : WaveX) : (s.setWave n x).evrs = s.evrs := rfl
@[simp] theorem State.setWave_tlb (s : State) (n : Nat) (x : WaveX) : (s.setWave n x).tlb = s.tlb := rfl
@[simp] theorem State.setWave_mmuq (s : State) (n : Nat) (x : WaveX) : (s.setWave n x).mmuq = s.mmuq := rfl
@[simp] theorem State.setWave_strms (s : State) (n : Nat) (x : WaveX) : (s.setWave n x).strms = s.strms := rfl
@[simp] theorem State.setWave_snaps (s : State) (n : Nat) (x : WaveX) : (s.setWave n x).snaps = s.snaps := rfl
@[simp] theorem State.setWave_wm (s : State) (n : Nat) (x : WaveX) : (s.setWave n x).wm = s.wm := rfl
@[simp] theorem State.setWave_jumps (s : State) (n : Nat) (x : WaveX) : (s.setWave n x).jumps = s.jumps := rfl
@[simp] theorem State.setWave_d3hot (s : State) (n : Nat) (x : WaveX) : (s.setWave n x).d3hot = s.d3hot := rfl
@[simp] theorem State.setWave_out (s : State) (n : Nat) (x : WaveX) : (s.setWave n x).out = s.out := rfl
@[simp] theorem State.setWave_rr (s : State) (n : Nat) (x : WaveX) : (s.setWave n x).rr = s.rr := rfl
@[simp] theorem State.setWave_lastChunk (s : State) (n : Nat) (x : WaveX) : (s.setWave n x).lastChunk = s.lastChunk := rfl
@[simp] theorem State.setWave_time (s : State) (n : Nat) (x : WaveX) : (s.setWave n x).time = s.time := rfl
@[simp] theorem State.setWave_ports (s : State) (n : Nat) (x : WaveX) : (s.setWave n x).ports = s.ports := rfl
@[simp] theorem State.setWave_fab (s : State) (n : Nat) (x : WaveX) : (s.setWave n x).fab = s.fab := rfl
@[simp] theorem State.setWave_pwr (s : State) (n : Nat) (x : WaveX) : (s.setWave n x).pwr = s.pwr := rfl
@[simp] theorem State.setWave_sensors (s : State) (n : Nat) (x : WaveX) : (s.setWave n x).sensors = s.sensors := rfl
@[simp] theorem State.setWave_doms (s : State) (n : Nat) (x : WaveX) : (s.setWave n x).doms = s.doms := rfl
@[simp] theorem State.setWave_rst (s : State) (n : Nat) (x : WaveX) : (s.setWave n x).rst = s.rst := rfl
@[simp] theorem State.setWave_safeX (s : State) (n : Nat) (x : WaveX) : (s.setWave n x).safeX = s.safeX := rfl
@[simp] theorem State.setWave_live (s : State) (n : Nat) (x : WaveX) : (s.setWave n x).live = s.live := rfl
@[simp] theorem State.setWave_xings (s : State) (n : Nat) (x : WaveX) : (s.setWave n x).xings = s.xings := rfl
@[simp] theorem State.setWave_shadowWr (s : State) (n : Nat) (x : WaveX) : (s.setWave n x).shadowWr = s.shadowWr := rfl
@[simp] theorem State.setWave_xwait (s : State) (n : Nat) (x : WaveX) : (s.setWave n x).xwait = s.xwait := rfl
@[simp] theorem State.setWave_svp (s : State) (n : Nat) (x : WaveX) : (s.setWave n x).svp = s.svp := rfl
@[simp] theorem State.setWave_trigs (s : State) (n : Nat) (x : WaveX) : (s.setWave n x).trigs = s.trigs := rfl
@[simp] theorem State.setWave_jtag (s : State) (n : Nat) (x : WaveX) : (s.setWave n x).jtag = s.jtag := rfl
@[simp] theorem State.setWave_shd (s : State) (n : Nat) (x : WaveX) : (s.setWave n x).shd = s.shd := rfl
@[simp] theorem State.setWave_badSup (s : State) (n : Nat) (x : WaveX) : (s.setWave n x).badSup = s.badSup := rfl
@[simp] theorem State.setWave_tok (s : State) (n : Nat) (x : WaveX) : (s.setWave n x).tok = s.tok := rfl
@[simp] theorem State.setWave_fRestart (s : State) (n : Nat) (x : WaveX) : (s.setWave n x).fRestart = s.fRestart := rfl
@[simp] theorem State.setWave_tickAcc (s : State) (n : Nat) (x : WaveX) : (s.setWave n x).tickAcc = s.tickAcc := rfl
@[simp] theorem State.setWave_tickDie (s : State) (n : Nat) (x : WaveX) : (s.setWave n x).tickDie = s.tickDie := rfl
@[simp] theorem State.setWave_wakeAsk (s : State) (n : Nat) (x : WaveX) : (s.setWave n x).wakeAsk = s.wakeAsk := rfl
@[simp] theorem State.setWave_wake (s : State) (n : Nat) (x : WaveX) : (s.setWave n x).wake = s.wake := rfl
@[simp] theorem State.setWave_safePin (s : State) (n : Nat) (x : WaveX) : (s.setWave n x).safePin = s.safePin := rfl
@[simp] theorem State.setWave_safeRail (s : State) (n : Nat) (x : WaveX) : (s.setWave n x).safeRail = s.safeRail := rfl
@[simp] theorem State.setWave_safeWave (s : State) (n : Nat) (x : WaveX) : (s.setWave n x).safeWave = s.safeWave := rfl
@[simp] theorem State.setWave_atTick (s : State) (n : Nat) (x : WaveX) : (s.setWave n x).atTick = s.atTick := rfl

@[simp] theorem State.setRail_pending (s : State) (n : Nat) (x : RailX) : (s.setRail n x).pending = s.pending := rfl
@[simp] theorem State.setRail_regs (s : State) (n : Nat) (x : RailX) : (s.setRail n x).regs = s.regs := rfl
@[simp] theorem State.setRail_latch (s : State) (n : Nat) (x : RailX) : (s.setRail n x).latch = s.latch := rfl
@[simp] theorem State.setRail_now (s : State) (n : Nat) (x : RailX) : (s.setRail n x).now = s.now := rfl
@[simp] theorem State.setRail_free (s : State) (n : Nat) (x : RailX) : (s.setRail n x).free = s.free := rfl
@[simp] theorem State.setRail_gangs (s : State) (n : Nat) (x : RailX) : (s.setRail n x).gangs = s.gangs := rfl
@[simp] theorem State.setRail_pods (s : State) (n : Nat) (x : RailX) : (s.setRail n x).pods = s.pods := rfl
@[simp] theorem State.setRail_pins (s : State) (n : Nat) (x : RailX) : (s.setRail n x).pins = s.pins := rfl
@[simp] theorem State.setRail_ius (s : State) (n : Nat) (x : RailX) : (s.setRail n x).ius = s.ius := rfl
@[simp] theorem State.setRail_iuq (s : State) (n : Nat) (x : RailX) : (s.setRail n x).iuq = s.iuq := rfl
@[simp] theorem State.setRail_iuSetup (s : State) (n : Nat) (x : RailX) : (s.setRail n x).iuSetup = s.iuSetup := rfl
@[simp] theorem State.setRail_pmuSetup (s : State) (n : Nat) (x : RailX) : (s.setRail n x).pmuSetup = s.pmuSetup := rfl
@[simp] theorem State.setRail_pmus (s : State) (n : Nat) (x : RailX) : (s.setRail n x).pmus = s.pmus := rfl
@[simp] theorem State.setRail_waves (s : State) (n : Nat) (x : RailX) : (s.setRail n x).waves = s.waves := rfl
@[simp] theorem State.setRail_sites (s : State) (n : Nat) (x : RailX) : (s.setRail n x).sites = s.sites := rfl
@[simp] theorem State.setRail_dies (s : State) (n : Nat) (x : RailX) : (s.setRail n x).dies = s.dies := rfl
@[simp] theorem State.setRail_segMem (s : State) (n : Nat) (x : RailX) : (s.setRail n x).segMem = s.segMem := rfl
@[simp] theorem State.setRail_poolMem (s : State) (n : Nat) (x : RailX) : (s.setRail n x).poolMem = s.poolMem := rfl
@[simp] theorem State.setRail_poolBad (s : State) (n : Nat) (x : RailX) : (s.setRail n x).poolBad = s.poolBad := rfl
@[simp] theorem State.setRail_capMem (s : State) (n : Nat) (x : RailX) : (s.setRail n x).capMem = s.capMem := rfl
@[simp] theorem State.setRail_ledgMem (s : State) (n : Nat) (x : RailX) : (s.setRail n x).ledgMem = s.ledgMem := rfl
@[simp] theorem State.setRail_mtpMem (s : State) (n : Nat) (x : RailX) : (s.setRail n x).mtpMem = s.mtpMem := rfl
@[simp] theorem State.setRail_siteMap (s : State) (n : Nat) (x : RailX) : (s.setRail n x).siteMap = s.siteMap := rfl
@[simp] theorem State.setRail_runs (s : State) (n : Nat) (x : RailX) : (s.setRail n x).runs = s.runs := rfl
@[simp] theorem State.setRail_evq (s : State) (n : Nat) (x : RailX) : (s.setRail n x).evq = s.evq := rfl
@[simp] theorem State.setRail_seqs (s : State) (n : Nat) (x : RailX) : (s.setRail n x).seqs = s.seqs := rfl
@[simp] theorem State.setRail_faultq (s : State) (n : Nat) (x : RailX) : (s.setRail n x).faultq = s.faultq := rfl
@[simp] theorem State.setRail_fences (s : State) (n : Nat) (x : RailX) : (s.setRail n x).fences = s.fences := rfl
@[simp] theorem State.setRail_pmc (s : State) (n : Nat) (x : RailX) : (s.setRail n x).pmc = s.pmc := rfl
@[simp] theorem State.setRail_ledgq (s : State) (n : Nat) (x : RailX) : (s.setRail n x).ledgq = s.ledgq := rfl
@[simp] theorem State.setRail_ledgAbove (s : State) (n : Nat) (x : RailX) : (s.setRail n x).ledgAbove = s.ledgAbove := rfl
@[simp] theorem State.setRail_qps (s : State) (n : Nat) (x : RailX) : (s.setRail n x).qps = s.qps := rfl
@[simp] theorem State.setRail_evrs (s : State) (n : Nat) (x : RailX) : (s.setRail n x).evrs = s.evrs := rfl
@[simp] theorem State.setRail_tlb (s : State) (n : Nat) (x : RailX) : (s.setRail n x).tlb = s.tlb := rfl
@[simp] theorem State.setRail_mmuq (s : State) (n : Nat) (x : RailX) : (s.setRail n x).mmuq = s.mmuq := rfl
@[simp] theorem State.setRail_strms (s : State) (n : Nat) (x : RailX) : (s.setRail n x).strms = s.strms := rfl
@[simp] theorem State.setRail_snaps (s : State) (n : Nat) (x : RailX) : (s.setRail n x).snaps = s.snaps := rfl
@[simp] theorem State.setRail_wm (s : State) (n : Nat) (x : RailX) : (s.setRail n x).wm = s.wm := rfl
@[simp] theorem State.setRail_jumps (s : State) (n : Nat) (x : RailX) : (s.setRail n x).jumps = s.jumps := rfl
@[simp] theorem State.setRail_d3hot (s : State) (n : Nat) (x : RailX) : (s.setRail n x).d3hot = s.d3hot := rfl
@[simp] theorem State.setRail_out (s : State) (n : Nat) (x : RailX) : (s.setRail n x).out = s.out := rfl
@[simp] theorem State.setRail_rr (s : State) (n : Nat) (x : RailX) : (s.setRail n x).rr = s.rr := rfl
@[simp] theorem State.setRail_lastChunk (s : State) (n : Nat) (x : RailX) : (s.setRail n x).lastChunk = s.lastChunk := rfl
@[simp] theorem State.setRail_time (s : State) (n : Nat) (x : RailX) : (s.setRail n x).time = s.time := rfl
@[simp] theorem State.setRail_ports (s : State) (n : Nat) (x : RailX) : (s.setRail n x).ports = s.ports := rfl
@[simp] theorem State.setRail_fab (s : State) (n : Nat) (x : RailX) : (s.setRail n x).fab = s.fab := rfl
@[simp] theorem State.setRail_pwr (s : State) (n : Nat) (x : RailX) : (s.setRail n x).pwr = s.pwr := rfl
@[simp] theorem State.setRail_sensors (s : State) (n : Nat) (x : RailX) : (s.setRail n x).sensors = s.sensors := rfl
@[simp] theorem State.setRail_doms (s : State) (n : Nat) (x : RailX) : (s.setRail n x).doms = s.doms := rfl
@[simp] theorem State.setRail_rst (s : State) (n : Nat) (x : RailX) : (s.setRail n x).rst = s.rst := rfl
@[simp] theorem State.setRail_safeX (s : State) (n : Nat) (x : RailX) : (s.setRail n x).safeX = s.safeX := rfl
@[simp] theorem State.setRail_live (s : State) (n : Nat) (x : RailX) : (s.setRail n x).live = s.live := rfl
@[simp] theorem State.setRail_xings (s : State) (n : Nat) (x : RailX) : (s.setRail n x).xings = s.xings := rfl
@[simp] theorem State.setRail_shadowWr (s : State) (n : Nat) (x : RailX) : (s.setRail n x).shadowWr = s.shadowWr := rfl
@[simp] theorem State.setRail_xwait (s : State) (n : Nat) (x : RailX) : (s.setRail n x).xwait = s.xwait := rfl
@[simp] theorem State.setRail_svp (s : State) (n : Nat) (x : RailX) : (s.setRail n x).svp = s.svp := rfl
@[simp] theorem State.setRail_trigs (s : State) (n : Nat) (x : RailX) : (s.setRail n x).trigs = s.trigs := rfl
@[simp] theorem State.setRail_jtag (s : State) (n : Nat) (x : RailX) : (s.setRail n x).jtag = s.jtag := rfl
@[simp] theorem State.setRail_shd (s : State) (n : Nat) (x : RailX) : (s.setRail n x).shd = s.shd := rfl
@[simp] theorem State.setRail_badSup (s : State) (n : Nat) (x : RailX) : (s.setRail n x).badSup = s.badSup := rfl
@[simp] theorem State.setRail_tok (s : State) (n : Nat) (x : RailX) : (s.setRail n x).tok = s.tok := rfl
@[simp] theorem State.setRail_fRestart (s : State) (n : Nat) (x : RailX) : (s.setRail n x).fRestart = s.fRestart := rfl
@[simp] theorem State.setRail_tickAcc (s : State) (n : Nat) (x : RailX) : (s.setRail n x).tickAcc = s.tickAcc := rfl
@[simp] theorem State.setRail_tickDie (s : State) (n : Nat) (x : RailX) : (s.setRail n x).tickDie = s.tickDie := rfl
@[simp] theorem State.setRail_wakeAsk (s : State) (n : Nat) (x : RailX) : (s.setRail n x).wakeAsk = s.wakeAsk := rfl
@[simp] theorem State.setRail_wake (s : State) (n : Nat) (x : RailX) : (s.setRail n x).wake = s.wake := rfl
@[simp] theorem State.setRail_safePin (s : State) (n : Nat) (x : RailX) : (s.setRail n x).safePin = s.safePin := rfl
@[simp] theorem State.setRail_safeRail (s : State) (n : Nat) (x : RailX) : (s.setRail n x).safeRail = s.safeRail := rfl
@[simp] theorem State.setRail_safeWave (s : State) (n : Nat) (x : RailX) : (s.setRail n x).safeWave = s.safeWave := rfl
@[simp] theorem State.setRail_atTick (s : State) (n : Nat) (x : RailX) : (s.setRail n x).atTick = s.atTick := rfl

@[simp] theorem State.setSiteX_pending (s : State) (n : Nat) (x : SiteX) : (s.setSiteX n x).pending = s.pending := rfl
@[simp] theorem State.setSiteX_regs (s : State) (n : Nat) (x : SiteX) : (s.setSiteX n x).regs = s.regs := rfl
@[simp] theorem State.setSiteX_latch (s : State) (n : Nat) (x : SiteX) : (s.setSiteX n x).latch = s.latch := rfl
@[simp] theorem State.setSiteX_now (s : State) (n : Nat) (x : SiteX) : (s.setSiteX n x).now = s.now := rfl
@[simp] theorem State.setSiteX_free (s : State) (n : Nat) (x : SiteX) : (s.setSiteX n x).free = s.free := rfl
@[simp] theorem State.setSiteX_gangs (s : State) (n : Nat) (x : SiteX) : (s.setSiteX n x).gangs = s.gangs := rfl
@[simp] theorem State.setSiteX_pods (s : State) (n : Nat) (x : SiteX) : (s.setSiteX n x).pods = s.pods := rfl
@[simp] theorem State.setSiteX_pins (s : State) (n : Nat) (x : SiteX) : (s.setSiteX n x).pins = s.pins := rfl
@[simp] theorem State.setSiteX_ius (s : State) (n : Nat) (x : SiteX) : (s.setSiteX n x).ius = s.ius := rfl
@[simp] theorem State.setSiteX_iuq (s : State) (n : Nat) (x : SiteX) : (s.setSiteX n x).iuq = s.iuq := rfl
@[simp] theorem State.setSiteX_iuSetup (s : State) (n : Nat) (x : SiteX) : (s.setSiteX n x).iuSetup = s.iuSetup := rfl
@[simp] theorem State.setSiteX_pmuSetup (s : State) (n : Nat) (x : SiteX) : (s.setSiteX n x).pmuSetup = s.pmuSetup := rfl
@[simp] theorem State.setSiteX_pmus (s : State) (n : Nat) (x : SiteX) : (s.setSiteX n x).pmus = s.pmus := rfl
@[simp] theorem State.setSiteX_waves (s : State) (n : Nat) (x : SiteX) : (s.setSiteX n x).waves = s.waves := rfl
@[simp] theorem State.setSiteX_rails (s : State) (n : Nat) (x : SiteX) : (s.setSiteX n x).rails = s.rails := rfl
@[simp] theorem State.setSiteX_dies (s : State) (n : Nat) (x : SiteX) : (s.setSiteX n x).dies = s.dies := rfl
@[simp] theorem State.setSiteX_segMem (s : State) (n : Nat) (x : SiteX) : (s.setSiteX n x).segMem = s.segMem := rfl
@[simp] theorem State.setSiteX_poolMem (s : State) (n : Nat) (x : SiteX) : (s.setSiteX n x).poolMem = s.poolMem := rfl
@[simp] theorem State.setSiteX_poolBad (s : State) (n : Nat) (x : SiteX) : (s.setSiteX n x).poolBad = s.poolBad := rfl
@[simp] theorem State.setSiteX_capMem (s : State) (n : Nat) (x : SiteX) : (s.setSiteX n x).capMem = s.capMem := rfl
@[simp] theorem State.setSiteX_ledgMem (s : State) (n : Nat) (x : SiteX) : (s.setSiteX n x).ledgMem = s.ledgMem := rfl
@[simp] theorem State.setSiteX_mtpMem (s : State) (n : Nat) (x : SiteX) : (s.setSiteX n x).mtpMem = s.mtpMem := rfl
@[simp] theorem State.setSiteX_siteMap (s : State) (n : Nat) (x : SiteX) : (s.setSiteX n x).siteMap = s.siteMap := rfl
@[simp] theorem State.setSiteX_runs (s : State) (n : Nat) (x : SiteX) : (s.setSiteX n x).runs = s.runs := rfl
@[simp] theorem State.setSiteX_evq (s : State) (n : Nat) (x : SiteX) : (s.setSiteX n x).evq = s.evq := rfl
@[simp] theorem State.setSiteX_seqs (s : State) (n : Nat) (x : SiteX) : (s.setSiteX n x).seqs = s.seqs := rfl
@[simp] theorem State.setSiteX_faultq (s : State) (n : Nat) (x : SiteX) : (s.setSiteX n x).faultq = s.faultq := rfl
@[simp] theorem State.setSiteX_fences (s : State) (n : Nat) (x : SiteX) : (s.setSiteX n x).fences = s.fences := rfl
@[simp] theorem State.setSiteX_pmc (s : State) (n : Nat) (x : SiteX) : (s.setSiteX n x).pmc = s.pmc := rfl
@[simp] theorem State.setSiteX_ledgq (s : State) (n : Nat) (x : SiteX) : (s.setSiteX n x).ledgq = s.ledgq := rfl
@[simp] theorem State.setSiteX_ledgAbove (s : State) (n : Nat) (x : SiteX) : (s.setSiteX n x).ledgAbove = s.ledgAbove := rfl
@[simp] theorem State.setSiteX_qps (s : State) (n : Nat) (x : SiteX) : (s.setSiteX n x).qps = s.qps := rfl
@[simp] theorem State.setSiteX_evrs (s : State) (n : Nat) (x : SiteX) : (s.setSiteX n x).evrs = s.evrs := rfl
@[simp] theorem State.setSiteX_tlb (s : State) (n : Nat) (x : SiteX) : (s.setSiteX n x).tlb = s.tlb := rfl
@[simp] theorem State.setSiteX_mmuq (s : State) (n : Nat) (x : SiteX) : (s.setSiteX n x).mmuq = s.mmuq := rfl
@[simp] theorem State.setSiteX_strms (s : State) (n : Nat) (x : SiteX) : (s.setSiteX n x).strms = s.strms := rfl
@[simp] theorem State.setSiteX_snaps (s : State) (n : Nat) (x : SiteX) : (s.setSiteX n x).snaps = s.snaps := rfl
@[simp] theorem State.setSiteX_wm (s : State) (n : Nat) (x : SiteX) : (s.setSiteX n x).wm = s.wm := rfl
@[simp] theorem State.setSiteX_jumps (s : State) (n : Nat) (x : SiteX) : (s.setSiteX n x).jumps = s.jumps := rfl
@[simp] theorem State.setSiteX_d3hot (s : State) (n : Nat) (x : SiteX) : (s.setSiteX n x).d3hot = s.d3hot := rfl
@[simp] theorem State.setSiteX_out (s : State) (n : Nat) (x : SiteX) : (s.setSiteX n x).out = s.out := rfl
@[simp] theorem State.setSiteX_rr (s : State) (n : Nat) (x : SiteX) : (s.setSiteX n x).rr = s.rr := rfl
@[simp] theorem State.setSiteX_lastChunk (s : State) (n : Nat) (x : SiteX) : (s.setSiteX n x).lastChunk = s.lastChunk := rfl
@[simp] theorem State.setSiteX_time (s : State) (n : Nat) (x : SiteX) : (s.setSiteX n x).time = s.time := rfl
@[simp] theorem State.setSiteX_ports (s : State) (n : Nat) (x : SiteX) : (s.setSiteX n x).ports = s.ports := rfl
@[simp] theorem State.setSiteX_fab (s : State) (n : Nat) (x : SiteX) : (s.setSiteX n x).fab = s.fab := rfl
@[simp] theorem State.setSiteX_pwr (s : State) (n : Nat) (x : SiteX) : (s.setSiteX n x).pwr = s.pwr := rfl
@[simp] theorem State.setSiteX_sensors (s : State) (n : Nat) (x : SiteX) : (s.setSiteX n x).sensors = s.sensors := rfl
@[simp] theorem State.setSiteX_doms (s : State) (n : Nat) (x : SiteX) : (s.setSiteX n x).doms = s.doms := rfl
@[simp] theorem State.setSiteX_rst (s : State) (n : Nat) (x : SiteX) : (s.setSiteX n x).rst = s.rst := rfl
@[simp] theorem State.setSiteX_safeX (s : State) (n : Nat) (x : SiteX) : (s.setSiteX n x).safeX = s.safeX := rfl
@[simp] theorem State.setSiteX_live (s : State) (n : Nat) (x : SiteX) : (s.setSiteX n x).live = s.live := rfl
@[simp] theorem State.setSiteX_xings (s : State) (n : Nat) (x : SiteX) : (s.setSiteX n x).xings = s.xings := rfl
@[simp] theorem State.setSiteX_shadowWr (s : State) (n : Nat) (x : SiteX) : (s.setSiteX n x).shadowWr = s.shadowWr := rfl
@[simp] theorem State.setSiteX_xwait (s : State) (n : Nat) (x : SiteX) : (s.setSiteX n x).xwait = s.xwait := rfl
@[simp] theorem State.setSiteX_svp (s : State) (n : Nat) (x : SiteX) : (s.setSiteX n x).svp = s.svp := rfl
@[simp] theorem State.setSiteX_trigs (s : State) (n : Nat) (x : SiteX) : (s.setSiteX n x).trigs = s.trigs := rfl
@[simp] theorem State.setSiteX_jtag (s : State) (n : Nat) (x : SiteX) : (s.setSiteX n x).jtag = s.jtag := rfl
@[simp] theorem State.setSiteX_shd (s : State) (n : Nat) (x : SiteX) : (s.setSiteX n x).shd = s.shd := rfl
@[simp] theorem State.setSiteX_badSup (s : State) (n : Nat) (x : SiteX) : (s.setSiteX n x).badSup = s.badSup := rfl
@[simp] theorem State.setSiteX_tok (s : State) (n : Nat) (x : SiteX) : (s.setSiteX n x).tok = s.tok := rfl
@[simp] theorem State.setSiteX_fRestart (s : State) (n : Nat) (x : SiteX) : (s.setSiteX n x).fRestart = s.fRestart := rfl
@[simp] theorem State.setSiteX_tickAcc (s : State) (n : Nat) (x : SiteX) : (s.setSiteX n x).tickAcc = s.tickAcc := rfl
@[simp] theorem State.setSiteX_tickDie (s : State) (n : Nat) (x : SiteX) : (s.setSiteX n x).tickDie = s.tickDie := rfl
@[simp] theorem State.setSiteX_wakeAsk (s : State) (n : Nat) (x : SiteX) : (s.setSiteX n x).wakeAsk = s.wakeAsk := rfl
@[simp] theorem State.setSiteX_wake (s : State) (n : Nat) (x : SiteX) : (s.setSiteX n x).wake = s.wake := rfl
@[simp] theorem State.setSiteX_safePin (s : State) (n : Nat) (x : SiteX) : (s.setSiteX n x).safePin = s.safePin := rfl
@[simp] theorem State.setSiteX_safeRail (s : State) (n : Nat) (x : SiteX) : (s.setSiteX n x).safeRail = s.safeRail := rfl
@[simp] theorem State.setSiteX_safeWave (s : State) (n : Nat) (x : SiteX) : (s.setSiteX n x).safeWave = s.safeWave := rfl
@[simp] theorem State.setSiteX_atTick (s : State) (n : Nat) (x : SiteX) : (s.setSiteX n x).atTick = s.atTick := rfl

@[simp] theorem State.setDie_pending (s : State) (n : Nat) (x : DieX) : (s.setDie n x).pending = s.pending := rfl
@[simp] theorem State.setDie_regs (s : State) (n : Nat) (x : DieX) : (s.setDie n x).regs = s.regs := rfl
@[simp] theorem State.setDie_latch (s : State) (n : Nat) (x : DieX) : (s.setDie n x).latch = s.latch := rfl
@[simp] theorem State.setDie_now (s : State) (n : Nat) (x : DieX) : (s.setDie n x).now = s.now := rfl
@[simp] theorem State.setDie_free (s : State) (n : Nat) (x : DieX) : (s.setDie n x).free = s.free := rfl
@[simp] theorem State.setDie_gangs (s : State) (n : Nat) (x : DieX) : (s.setDie n x).gangs = s.gangs := rfl
@[simp] theorem State.setDie_pods (s : State) (n : Nat) (x : DieX) : (s.setDie n x).pods = s.pods := rfl
@[simp] theorem State.setDie_pins (s : State) (n : Nat) (x : DieX) : (s.setDie n x).pins = s.pins := rfl
@[simp] theorem State.setDie_ius (s : State) (n : Nat) (x : DieX) : (s.setDie n x).ius = s.ius := rfl
@[simp] theorem State.setDie_iuq (s : State) (n : Nat) (x : DieX) : (s.setDie n x).iuq = s.iuq := rfl
@[simp] theorem State.setDie_iuSetup (s : State) (n : Nat) (x : DieX) : (s.setDie n x).iuSetup = s.iuSetup := rfl
@[simp] theorem State.setDie_pmuSetup (s : State) (n : Nat) (x : DieX) : (s.setDie n x).pmuSetup = s.pmuSetup := rfl
@[simp] theorem State.setDie_pmus (s : State) (n : Nat) (x : DieX) : (s.setDie n x).pmus = s.pmus := rfl
@[simp] theorem State.setDie_waves (s : State) (n : Nat) (x : DieX) : (s.setDie n x).waves = s.waves := rfl
@[simp] theorem State.setDie_rails (s : State) (n : Nat) (x : DieX) : (s.setDie n x).rails = s.rails := rfl
@[simp] theorem State.setDie_sites (s : State) (n : Nat) (x : DieX) : (s.setDie n x).sites = s.sites := rfl
@[simp] theorem State.setDie_segMem (s : State) (n : Nat) (x : DieX) : (s.setDie n x).segMem = s.segMem := rfl
@[simp] theorem State.setDie_poolMem (s : State) (n : Nat) (x : DieX) : (s.setDie n x).poolMem = s.poolMem := rfl
@[simp] theorem State.setDie_poolBad (s : State) (n : Nat) (x : DieX) : (s.setDie n x).poolBad = s.poolBad := rfl
@[simp] theorem State.setDie_capMem (s : State) (n : Nat) (x : DieX) : (s.setDie n x).capMem = s.capMem := rfl
@[simp] theorem State.setDie_ledgMem (s : State) (n : Nat) (x : DieX) : (s.setDie n x).ledgMem = s.ledgMem := rfl
@[simp] theorem State.setDie_mtpMem (s : State) (n : Nat) (x : DieX) : (s.setDie n x).mtpMem = s.mtpMem := rfl
@[simp] theorem State.setDie_siteMap (s : State) (n : Nat) (x : DieX) : (s.setDie n x).siteMap = s.siteMap := rfl
@[simp] theorem State.setDie_runs (s : State) (n : Nat) (x : DieX) : (s.setDie n x).runs = s.runs := rfl
@[simp] theorem State.setDie_evq (s : State) (n : Nat) (x : DieX) : (s.setDie n x).evq = s.evq := rfl
@[simp] theorem State.setDie_seqs (s : State) (n : Nat) (x : DieX) : (s.setDie n x).seqs = s.seqs := rfl
@[simp] theorem State.setDie_faultq (s : State) (n : Nat) (x : DieX) : (s.setDie n x).faultq = s.faultq := rfl
@[simp] theorem State.setDie_fences (s : State) (n : Nat) (x : DieX) : (s.setDie n x).fences = s.fences := rfl
@[simp] theorem State.setDie_pmc (s : State) (n : Nat) (x : DieX) : (s.setDie n x).pmc = s.pmc := rfl
@[simp] theorem State.setDie_ledgq (s : State) (n : Nat) (x : DieX) : (s.setDie n x).ledgq = s.ledgq := rfl
@[simp] theorem State.setDie_ledgAbove (s : State) (n : Nat) (x : DieX) : (s.setDie n x).ledgAbove = s.ledgAbove := rfl
@[simp] theorem State.setDie_qps (s : State) (n : Nat) (x : DieX) : (s.setDie n x).qps = s.qps := rfl
@[simp] theorem State.setDie_evrs (s : State) (n : Nat) (x : DieX) : (s.setDie n x).evrs = s.evrs := rfl
@[simp] theorem State.setDie_tlb (s : State) (n : Nat) (x : DieX) : (s.setDie n x).tlb = s.tlb := rfl
@[simp] theorem State.setDie_mmuq (s : State) (n : Nat) (x : DieX) : (s.setDie n x).mmuq = s.mmuq := rfl
@[simp] theorem State.setDie_strms (s : State) (n : Nat) (x : DieX) : (s.setDie n x).strms = s.strms := rfl
@[simp] theorem State.setDie_snaps (s : State) (n : Nat) (x : DieX) : (s.setDie n x).snaps = s.snaps := rfl
@[simp] theorem State.setDie_wm (s : State) (n : Nat) (x : DieX) : (s.setDie n x).wm = s.wm := rfl
@[simp] theorem State.setDie_jumps (s : State) (n : Nat) (x : DieX) : (s.setDie n x).jumps = s.jumps := rfl
@[simp] theorem State.setDie_d3hot (s : State) (n : Nat) (x : DieX) : (s.setDie n x).d3hot = s.d3hot := rfl
@[simp] theorem State.setDie_out (s : State) (n : Nat) (x : DieX) : (s.setDie n x).out = s.out := rfl
@[simp] theorem State.setDie_rr (s : State) (n : Nat) (x : DieX) : (s.setDie n x).rr = s.rr := rfl
@[simp] theorem State.setDie_lastChunk (s : State) (n : Nat) (x : DieX) : (s.setDie n x).lastChunk = s.lastChunk := rfl
@[simp] theorem State.setDie_time (s : State) (n : Nat) (x : DieX) : (s.setDie n x).time = s.time := rfl
@[simp] theorem State.setDie_ports (s : State) (n : Nat) (x : DieX) : (s.setDie n x).ports = s.ports := rfl
@[simp] theorem State.setDie_fab (s : State) (n : Nat) (x : DieX) : (s.setDie n x).fab = s.fab := rfl
@[simp] theorem State.setDie_pwr (s : State) (n : Nat) (x : DieX) : (s.setDie n x).pwr = s.pwr := rfl
@[simp] theorem State.setDie_sensors (s : State) (n : Nat) (x : DieX) : (s.setDie n x).sensors = s.sensors := rfl
@[simp] theorem State.setDie_doms (s : State) (n : Nat) (x : DieX) : (s.setDie n x).doms = s.doms := rfl
@[simp] theorem State.setDie_rst (s : State) (n : Nat) (x : DieX) : (s.setDie n x).rst = s.rst := rfl
@[simp] theorem State.setDie_safeX (s : State) (n : Nat) (x : DieX) : (s.setDie n x).safeX = s.safeX := rfl
@[simp] theorem State.setDie_live (s : State) (n : Nat) (x : DieX) : (s.setDie n x).live = s.live := rfl
@[simp] theorem State.setDie_xings (s : State) (n : Nat) (x : DieX) : (s.setDie n x).xings = s.xings := rfl
@[simp] theorem State.setDie_shadowWr (s : State) (n : Nat) (x : DieX) : (s.setDie n x).shadowWr = s.shadowWr := rfl
@[simp] theorem State.setDie_xwait (s : State) (n : Nat) (x : DieX) : (s.setDie n x).xwait = s.xwait := rfl
@[simp] theorem State.setDie_svp (s : State) (n : Nat) (x : DieX) : (s.setDie n x).svp = s.svp := rfl
@[simp] theorem State.setDie_trigs (s : State) (n : Nat) (x : DieX) : (s.setDie n x).trigs = s.trigs := rfl
@[simp] theorem State.setDie_jtag (s : State) (n : Nat) (x : DieX) : (s.setDie n x).jtag = s.jtag := rfl
@[simp] theorem State.setDie_shd (s : State) (n : Nat) (x : DieX) : (s.setDie n x).shd = s.shd := rfl
@[simp] theorem State.setDie_badSup (s : State) (n : Nat) (x : DieX) : (s.setDie n x).badSup = s.badSup := rfl
@[simp] theorem State.setDie_tok (s : State) (n : Nat) (x : DieX) : (s.setDie n x).tok = s.tok := rfl
@[simp] theorem State.setDie_fRestart (s : State) (n : Nat) (x : DieX) : (s.setDie n x).fRestart = s.fRestart := rfl
@[simp] theorem State.setDie_tickAcc (s : State) (n : Nat) (x : DieX) : (s.setDie n x).tickAcc = s.tickAcc := rfl
@[simp] theorem State.setDie_tickDie (s : State) (n : Nat) (x : DieX) : (s.setDie n x).tickDie = s.tickDie := rfl
@[simp] theorem State.setDie_wakeAsk (s : State) (n : Nat) (x : DieX) : (s.setDie n x).wakeAsk = s.wakeAsk := rfl
@[simp] theorem State.setDie_wake (s : State) (n : Nat) (x : DieX) : (s.setDie n x).wake = s.wake := rfl
@[simp] theorem State.setDie_safePin (s : State) (n : Nat) (x : DieX) : (s.setDie n x).safePin = s.safePin := rfl
@[simp] theorem State.setDie_safeRail (s : State) (n : Nat) (x : DieX) : (s.setDie n x).safeRail = s.safeRail := rfl
@[simp] theorem State.setDie_safeWave (s : State) (n : Nat) (x : DieX) : (s.setDie n x).safeWave = s.safeWave := rfl
@[simp] theorem State.setDie_atTick (s : State) (n : Nat) (x : DieX) : (s.setDie n x).atTick = s.atTick := rfl

@[simp] theorem State.setQp_pending (s : State) (n : Nat) (x : QpX) : (s.setQp n x).pending = s.pending := rfl
@[simp] theorem State.setQp_regs (s : State) (n : Nat) (x : QpX) : (s.setQp n x).regs = s.regs := rfl
@[simp] theorem State.setQp_latch (s : State) (n : Nat) (x : QpX) : (s.setQp n x).latch = s.latch := rfl
@[simp] theorem State.setQp_now (s : State) (n : Nat) (x : QpX) : (s.setQp n x).now = s.now := rfl
@[simp] theorem State.setQp_free (s : State) (n : Nat) (x : QpX) : (s.setQp n x).free = s.free := rfl
@[simp] theorem State.setQp_gangs (s : State) (n : Nat) (x : QpX) : (s.setQp n x).gangs = s.gangs := rfl
@[simp] theorem State.setQp_pods (s : State) (n : Nat) (x : QpX) : (s.setQp n x).pods = s.pods := rfl
@[simp] theorem State.setQp_pins (s : State) (n : Nat) (x : QpX) : (s.setQp n x).pins = s.pins := rfl
@[simp] theorem State.setQp_ius (s : State) (n : Nat) (x : QpX) : (s.setQp n x).ius = s.ius := rfl
@[simp] theorem State.setQp_iuq (s : State) (n : Nat) (x : QpX) : (s.setQp n x).iuq = s.iuq := rfl
@[simp] theorem State.setQp_iuSetup (s : State) (n : Nat) (x : QpX) : (s.setQp n x).iuSetup = s.iuSetup := rfl
@[simp] theorem State.setQp_pmuSetup (s : State) (n : Nat) (x : QpX) : (s.setQp n x).pmuSetup = s.pmuSetup := rfl
@[simp] theorem State.setQp_pmus (s : State) (n : Nat) (x : QpX) : (s.setQp n x).pmus = s.pmus := rfl
@[simp] theorem State.setQp_waves (s : State) (n : Nat) (x : QpX) : (s.setQp n x).waves = s.waves := rfl
@[simp] theorem State.setQp_rails (s : State) (n : Nat) (x : QpX) : (s.setQp n x).rails = s.rails := rfl
@[simp] theorem State.setQp_sites (s : State) (n : Nat) (x : QpX) : (s.setQp n x).sites = s.sites := rfl
@[simp] theorem State.setQp_dies (s : State) (n : Nat) (x : QpX) : (s.setQp n x).dies = s.dies := rfl
@[simp] theorem State.setQp_segMem (s : State) (n : Nat) (x : QpX) : (s.setQp n x).segMem = s.segMem := rfl
@[simp] theorem State.setQp_poolMem (s : State) (n : Nat) (x : QpX) : (s.setQp n x).poolMem = s.poolMem := rfl
@[simp] theorem State.setQp_poolBad (s : State) (n : Nat) (x : QpX) : (s.setQp n x).poolBad = s.poolBad := rfl
@[simp] theorem State.setQp_capMem (s : State) (n : Nat) (x : QpX) : (s.setQp n x).capMem = s.capMem := rfl
@[simp] theorem State.setQp_ledgMem (s : State) (n : Nat) (x : QpX) : (s.setQp n x).ledgMem = s.ledgMem := rfl
@[simp] theorem State.setQp_mtpMem (s : State) (n : Nat) (x : QpX) : (s.setQp n x).mtpMem = s.mtpMem := rfl
@[simp] theorem State.setQp_siteMap (s : State) (n : Nat) (x : QpX) : (s.setQp n x).siteMap = s.siteMap := rfl
@[simp] theorem State.setQp_runs (s : State) (n : Nat) (x : QpX) : (s.setQp n x).runs = s.runs := rfl
@[simp] theorem State.setQp_evq (s : State) (n : Nat) (x : QpX) : (s.setQp n x).evq = s.evq := rfl
@[simp] theorem State.setQp_seqs (s : State) (n : Nat) (x : QpX) : (s.setQp n x).seqs = s.seqs := rfl
@[simp] theorem State.setQp_faultq (s : State) (n : Nat) (x : QpX) : (s.setQp n x).faultq = s.faultq := rfl
@[simp] theorem State.setQp_fences (s : State) (n : Nat) (x : QpX) : (s.setQp n x).fences = s.fences := rfl
@[simp] theorem State.setQp_pmc (s : State) (n : Nat) (x : QpX) : (s.setQp n x).pmc = s.pmc := rfl
@[simp] theorem State.setQp_ledgq (s : State) (n : Nat) (x : QpX) : (s.setQp n x).ledgq = s.ledgq := rfl
@[simp] theorem State.setQp_ledgAbove (s : State) (n : Nat) (x : QpX) : (s.setQp n x).ledgAbove = s.ledgAbove := rfl
@[simp] theorem State.setQp_evrs (s : State) (n : Nat) (x : QpX) : (s.setQp n x).evrs = s.evrs := rfl
@[simp] theorem State.setQp_tlb (s : State) (n : Nat) (x : QpX) : (s.setQp n x).tlb = s.tlb := rfl
@[simp] theorem State.setQp_mmuq (s : State) (n : Nat) (x : QpX) : (s.setQp n x).mmuq = s.mmuq := rfl
@[simp] theorem State.setQp_strms (s : State) (n : Nat) (x : QpX) : (s.setQp n x).strms = s.strms := rfl
@[simp] theorem State.setQp_snaps (s : State) (n : Nat) (x : QpX) : (s.setQp n x).snaps = s.snaps := rfl
@[simp] theorem State.setQp_wm (s : State) (n : Nat) (x : QpX) : (s.setQp n x).wm = s.wm := rfl
@[simp] theorem State.setQp_jumps (s : State) (n : Nat) (x : QpX) : (s.setQp n x).jumps = s.jumps := rfl
@[simp] theorem State.setQp_d3hot (s : State) (n : Nat) (x : QpX) : (s.setQp n x).d3hot = s.d3hot := rfl
@[simp] theorem State.setQp_out (s : State) (n : Nat) (x : QpX) : (s.setQp n x).out = s.out := rfl
@[simp] theorem State.setQp_rr (s : State) (n : Nat) (x : QpX) : (s.setQp n x).rr = s.rr := rfl
@[simp] theorem State.setQp_lastChunk (s : State) (n : Nat) (x : QpX) : (s.setQp n x).lastChunk = s.lastChunk := rfl
@[simp] theorem State.setQp_time (s : State) (n : Nat) (x : QpX) : (s.setQp n x).time = s.time := rfl
@[simp] theorem State.setQp_ports (s : State) (n : Nat) (x : QpX) : (s.setQp n x).ports = s.ports := rfl
@[simp] theorem State.setQp_fab (s : State) (n : Nat) (x : QpX) : (s.setQp n x).fab = s.fab := rfl
@[simp] theorem State.setQp_pwr (s : State) (n : Nat) (x : QpX) : (s.setQp n x).pwr = s.pwr := rfl
@[simp] theorem State.setQp_sensors (s : State) (n : Nat) (x : QpX) : (s.setQp n x).sensors = s.sensors := rfl
@[simp] theorem State.setQp_doms (s : State) (n : Nat) (x : QpX) : (s.setQp n x).doms = s.doms := rfl
@[simp] theorem State.setQp_rst (s : State) (n : Nat) (x : QpX) : (s.setQp n x).rst = s.rst := rfl
@[simp] theorem State.setQp_safeX (s : State) (n : Nat) (x : QpX) : (s.setQp n x).safeX = s.safeX := rfl
@[simp] theorem State.setQp_live (s : State) (n : Nat) (x : QpX) : (s.setQp n x).live = s.live := rfl
@[simp] theorem State.setQp_xings (s : State) (n : Nat) (x : QpX) : (s.setQp n x).xings = s.xings := rfl
@[simp] theorem State.setQp_shadowWr (s : State) (n : Nat) (x : QpX) : (s.setQp n x).shadowWr = s.shadowWr := rfl
@[simp] theorem State.setQp_xwait (s : State) (n : Nat) (x : QpX) : (s.setQp n x).xwait = s.xwait := rfl
@[simp] theorem State.setQp_svp (s : State) (n : Nat) (x : QpX) : (s.setQp n x).svp = s.svp := rfl
@[simp] theorem State.setQp_trigs (s : State) (n : Nat) (x : QpX) : (s.setQp n x).trigs = s.trigs := rfl
@[simp] theorem State.setQp_jtag (s : State) (n : Nat) (x : QpX) : (s.setQp n x).jtag = s.jtag := rfl
@[simp] theorem State.setQp_shd (s : State) (n : Nat) (x : QpX) : (s.setQp n x).shd = s.shd := rfl
@[simp] theorem State.setQp_badSup (s : State) (n : Nat) (x : QpX) : (s.setQp n x).badSup = s.badSup := rfl
@[simp] theorem State.setQp_tok (s : State) (n : Nat) (x : QpX) : (s.setQp n x).tok = s.tok := rfl
@[simp] theorem State.setQp_fRestart (s : State) (n : Nat) (x : QpX) : (s.setQp n x).fRestart = s.fRestart := rfl
@[simp] theorem State.setQp_tickAcc (s : State) (n : Nat) (x : QpX) : (s.setQp n x).tickAcc = s.tickAcc := rfl
@[simp] theorem State.setQp_tickDie (s : State) (n : Nat) (x : QpX) : (s.setQp n x).tickDie = s.tickDie := rfl
@[simp] theorem State.setQp_wakeAsk (s : State) (n : Nat) (x : QpX) : (s.setQp n x).wakeAsk = s.wakeAsk := rfl
@[simp] theorem State.setQp_wake (s : State) (n : Nat) (x : QpX) : (s.setQp n x).wake = s.wake := rfl
@[simp] theorem State.setQp_safePin (s : State) (n : Nat) (x : QpX) : (s.setQp n x).safePin = s.safePin := rfl
@[simp] theorem State.setQp_safeRail (s : State) (n : Nat) (x : QpX) : (s.setQp n x).safeRail = s.safeRail := rfl
@[simp] theorem State.setQp_safeWave (s : State) (n : Nat) (x : QpX) : (s.setQp n x).safeWave = s.safeWave := rfl
@[simp] theorem State.setQp_atTick (s : State) (n : Nat) (x : QpX) : (s.setQp n x).atTick = s.atTick := rfl

@[simp] theorem State.setEvr_pending (s : State) (n : Nat) (x : EvrX) : (s.setEvr n x).pending = s.pending := rfl
@[simp] theorem State.setEvr_regs (s : State) (n : Nat) (x : EvrX) : (s.setEvr n x).regs = s.regs := rfl
@[simp] theorem State.setEvr_latch (s : State) (n : Nat) (x : EvrX) : (s.setEvr n x).latch = s.latch := rfl
@[simp] theorem State.setEvr_now (s : State) (n : Nat) (x : EvrX) : (s.setEvr n x).now = s.now := rfl
@[simp] theorem State.setEvr_free (s : State) (n : Nat) (x : EvrX) : (s.setEvr n x).free = s.free := rfl
@[simp] theorem State.setEvr_gangs (s : State) (n : Nat) (x : EvrX) : (s.setEvr n x).gangs = s.gangs := rfl
@[simp] theorem State.setEvr_pods (s : State) (n : Nat) (x : EvrX) : (s.setEvr n x).pods = s.pods := rfl
@[simp] theorem State.setEvr_pins (s : State) (n : Nat) (x : EvrX) : (s.setEvr n x).pins = s.pins := rfl
@[simp] theorem State.setEvr_ius (s : State) (n : Nat) (x : EvrX) : (s.setEvr n x).ius = s.ius := rfl
@[simp] theorem State.setEvr_iuq (s : State) (n : Nat) (x : EvrX) : (s.setEvr n x).iuq = s.iuq := rfl
@[simp] theorem State.setEvr_iuSetup (s : State) (n : Nat) (x : EvrX) : (s.setEvr n x).iuSetup = s.iuSetup := rfl
@[simp] theorem State.setEvr_pmuSetup (s : State) (n : Nat) (x : EvrX) : (s.setEvr n x).pmuSetup = s.pmuSetup := rfl
@[simp] theorem State.setEvr_pmus (s : State) (n : Nat) (x : EvrX) : (s.setEvr n x).pmus = s.pmus := rfl
@[simp] theorem State.setEvr_waves (s : State) (n : Nat) (x : EvrX) : (s.setEvr n x).waves = s.waves := rfl
@[simp] theorem State.setEvr_rails (s : State) (n : Nat) (x : EvrX) : (s.setEvr n x).rails = s.rails := rfl
@[simp] theorem State.setEvr_sites (s : State) (n : Nat) (x : EvrX) : (s.setEvr n x).sites = s.sites := rfl
@[simp] theorem State.setEvr_dies (s : State) (n : Nat) (x : EvrX) : (s.setEvr n x).dies = s.dies := rfl
@[simp] theorem State.setEvr_segMem (s : State) (n : Nat) (x : EvrX) : (s.setEvr n x).segMem = s.segMem := rfl
@[simp] theorem State.setEvr_poolMem (s : State) (n : Nat) (x : EvrX) : (s.setEvr n x).poolMem = s.poolMem := rfl
@[simp] theorem State.setEvr_poolBad (s : State) (n : Nat) (x : EvrX) : (s.setEvr n x).poolBad = s.poolBad := rfl
@[simp] theorem State.setEvr_capMem (s : State) (n : Nat) (x : EvrX) : (s.setEvr n x).capMem = s.capMem := rfl
@[simp] theorem State.setEvr_ledgMem (s : State) (n : Nat) (x : EvrX) : (s.setEvr n x).ledgMem = s.ledgMem := rfl
@[simp] theorem State.setEvr_mtpMem (s : State) (n : Nat) (x : EvrX) : (s.setEvr n x).mtpMem = s.mtpMem := rfl
@[simp] theorem State.setEvr_siteMap (s : State) (n : Nat) (x : EvrX) : (s.setEvr n x).siteMap = s.siteMap := rfl
@[simp] theorem State.setEvr_runs (s : State) (n : Nat) (x : EvrX) : (s.setEvr n x).runs = s.runs := rfl
@[simp] theorem State.setEvr_evq (s : State) (n : Nat) (x : EvrX) : (s.setEvr n x).evq = s.evq := rfl
@[simp] theorem State.setEvr_seqs (s : State) (n : Nat) (x : EvrX) : (s.setEvr n x).seqs = s.seqs := rfl
@[simp] theorem State.setEvr_faultq (s : State) (n : Nat) (x : EvrX) : (s.setEvr n x).faultq = s.faultq := rfl
@[simp] theorem State.setEvr_fences (s : State) (n : Nat) (x : EvrX) : (s.setEvr n x).fences = s.fences := rfl
@[simp] theorem State.setEvr_pmc (s : State) (n : Nat) (x : EvrX) : (s.setEvr n x).pmc = s.pmc := rfl
@[simp] theorem State.setEvr_ledgq (s : State) (n : Nat) (x : EvrX) : (s.setEvr n x).ledgq = s.ledgq := rfl
@[simp] theorem State.setEvr_ledgAbove (s : State) (n : Nat) (x : EvrX) : (s.setEvr n x).ledgAbove = s.ledgAbove := rfl
@[simp] theorem State.setEvr_qps (s : State) (n : Nat) (x : EvrX) : (s.setEvr n x).qps = s.qps := rfl
@[simp] theorem State.setEvr_tlb (s : State) (n : Nat) (x : EvrX) : (s.setEvr n x).tlb = s.tlb := rfl
@[simp] theorem State.setEvr_mmuq (s : State) (n : Nat) (x : EvrX) : (s.setEvr n x).mmuq = s.mmuq := rfl
@[simp] theorem State.setEvr_strms (s : State) (n : Nat) (x : EvrX) : (s.setEvr n x).strms = s.strms := rfl
@[simp] theorem State.setEvr_snaps (s : State) (n : Nat) (x : EvrX) : (s.setEvr n x).snaps = s.snaps := rfl
@[simp] theorem State.setEvr_wm (s : State) (n : Nat) (x : EvrX) : (s.setEvr n x).wm = s.wm := rfl
@[simp] theorem State.setEvr_jumps (s : State) (n : Nat) (x : EvrX) : (s.setEvr n x).jumps = s.jumps := rfl
@[simp] theorem State.setEvr_d3hot (s : State) (n : Nat) (x : EvrX) : (s.setEvr n x).d3hot = s.d3hot := rfl
@[simp] theorem State.setEvr_out (s : State) (n : Nat) (x : EvrX) : (s.setEvr n x).out = s.out := rfl
@[simp] theorem State.setEvr_rr (s : State) (n : Nat) (x : EvrX) : (s.setEvr n x).rr = s.rr := rfl
@[simp] theorem State.setEvr_lastChunk (s : State) (n : Nat) (x : EvrX) : (s.setEvr n x).lastChunk = s.lastChunk := rfl
@[simp] theorem State.setEvr_time (s : State) (n : Nat) (x : EvrX) : (s.setEvr n x).time = s.time := rfl
@[simp] theorem State.setEvr_ports (s : State) (n : Nat) (x : EvrX) : (s.setEvr n x).ports = s.ports := rfl
@[simp] theorem State.setEvr_fab (s : State) (n : Nat) (x : EvrX) : (s.setEvr n x).fab = s.fab := rfl
@[simp] theorem State.setEvr_pwr (s : State) (n : Nat) (x : EvrX) : (s.setEvr n x).pwr = s.pwr := rfl
@[simp] theorem State.setEvr_sensors (s : State) (n : Nat) (x : EvrX) : (s.setEvr n x).sensors = s.sensors := rfl
@[simp] theorem State.setEvr_doms (s : State) (n : Nat) (x : EvrX) : (s.setEvr n x).doms = s.doms := rfl
@[simp] theorem State.setEvr_rst (s : State) (n : Nat) (x : EvrX) : (s.setEvr n x).rst = s.rst := rfl
@[simp] theorem State.setEvr_safeX (s : State) (n : Nat) (x : EvrX) : (s.setEvr n x).safeX = s.safeX := rfl
@[simp] theorem State.setEvr_live (s : State) (n : Nat) (x : EvrX) : (s.setEvr n x).live = s.live := rfl
@[simp] theorem State.setEvr_xings (s : State) (n : Nat) (x : EvrX) : (s.setEvr n x).xings = s.xings := rfl
@[simp] theorem State.setEvr_shadowWr (s : State) (n : Nat) (x : EvrX) : (s.setEvr n x).shadowWr = s.shadowWr := rfl
@[simp] theorem State.setEvr_xwait (s : State) (n : Nat) (x : EvrX) : (s.setEvr n x).xwait = s.xwait := rfl
@[simp] theorem State.setEvr_svp (s : State) (n : Nat) (x : EvrX) : (s.setEvr n x).svp = s.svp := rfl
@[simp] theorem State.setEvr_trigs (s : State) (n : Nat) (x : EvrX) : (s.setEvr n x).trigs = s.trigs := rfl
@[simp] theorem State.setEvr_jtag (s : State) (n : Nat) (x : EvrX) : (s.setEvr n x).jtag = s.jtag := rfl
@[simp] theorem State.setEvr_shd (s : State) (n : Nat) (x : EvrX) : (s.setEvr n x).shd = s.shd := rfl
@[simp] theorem State.setEvr_badSup (s : State) (n : Nat) (x : EvrX) : (s.setEvr n x).badSup = s.badSup := rfl
@[simp] theorem State.setEvr_tok (s : State) (n : Nat) (x : EvrX) : (s.setEvr n x).tok = s.tok := rfl
@[simp] theorem State.setEvr_fRestart (s : State) (n : Nat) (x : EvrX) : (s.setEvr n x).fRestart = s.fRestart := rfl
@[simp] theorem State.setEvr_tickAcc (s : State) (n : Nat) (x : EvrX) : (s.setEvr n x).tickAcc = s.tickAcc := rfl
@[simp] theorem State.setEvr_tickDie (s : State) (n : Nat) (x : EvrX) : (s.setEvr n x).tickDie = s.tickDie := rfl
@[simp] theorem State.setEvr_wakeAsk (s : State) (n : Nat) (x : EvrX) : (s.setEvr n x).wakeAsk = s.wakeAsk := rfl
@[simp] theorem State.setEvr_wake (s : State) (n : Nat) (x : EvrX) : (s.setEvr n x).wake = s.wake := rfl
@[simp] theorem State.setEvr_safePin (s : State) (n : Nat) (x : EvrX) : (s.setEvr n x).safePin = s.safePin := rfl
@[simp] theorem State.setEvr_safeRail (s : State) (n : Nat) (x : EvrX) : (s.setEvr n x).safeRail = s.safeRail := rfl
@[simp] theorem State.setEvr_safeWave (s : State) (n : Nat) (x : EvrX) : (s.setEvr n x).safeWave = s.safeWave := rfl
@[simp] theorem State.setEvr_atTick (s : State) (n : Nat) (x : EvrX) : (s.setEvr n x).atTick = s.atTick := rfl

@[simp] theorem State.setStrm_pending (s : State) (n : Nat) (x : StrmX) : (s.setStrm n x).pending = s.pending := rfl
@[simp] theorem State.setStrm_regs (s : State) (n : Nat) (x : StrmX) : (s.setStrm n x).regs = s.regs := rfl
@[simp] theorem State.setStrm_latch (s : State) (n : Nat) (x : StrmX) : (s.setStrm n x).latch = s.latch := rfl
@[simp] theorem State.setStrm_now (s : State) (n : Nat) (x : StrmX) : (s.setStrm n x).now = s.now := rfl
@[simp] theorem State.setStrm_free (s : State) (n : Nat) (x : StrmX) : (s.setStrm n x).free = s.free := rfl
@[simp] theorem State.setStrm_gangs (s : State) (n : Nat) (x : StrmX) : (s.setStrm n x).gangs = s.gangs := rfl
@[simp] theorem State.setStrm_pods (s : State) (n : Nat) (x : StrmX) : (s.setStrm n x).pods = s.pods := rfl
@[simp] theorem State.setStrm_pins (s : State) (n : Nat) (x : StrmX) : (s.setStrm n x).pins = s.pins := rfl
@[simp] theorem State.setStrm_ius (s : State) (n : Nat) (x : StrmX) : (s.setStrm n x).ius = s.ius := rfl
@[simp] theorem State.setStrm_iuq (s : State) (n : Nat) (x : StrmX) : (s.setStrm n x).iuq = s.iuq := rfl
@[simp] theorem State.setStrm_iuSetup (s : State) (n : Nat) (x : StrmX) : (s.setStrm n x).iuSetup = s.iuSetup := rfl
@[simp] theorem State.setStrm_pmuSetup (s : State) (n : Nat) (x : StrmX) : (s.setStrm n x).pmuSetup = s.pmuSetup := rfl
@[simp] theorem State.setStrm_pmus (s : State) (n : Nat) (x : StrmX) : (s.setStrm n x).pmus = s.pmus := rfl
@[simp] theorem State.setStrm_waves (s : State) (n : Nat) (x : StrmX) : (s.setStrm n x).waves = s.waves := rfl
@[simp] theorem State.setStrm_rails (s : State) (n : Nat) (x : StrmX) : (s.setStrm n x).rails = s.rails := rfl
@[simp] theorem State.setStrm_sites (s : State) (n : Nat) (x : StrmX) : (s.setStrm n x).sites = s.sites := rfl
@[simp] theorem State.setStrm_dies (s : State) (n : Nat) (x : StrmX) : (s.setStrm n x).dies = s.dies := rfl
@[simp] theorem State.setStrm_segMem (s : State) (n : Nat) (x : StrmX) : (s.setStrm n x).segMem = s.segMem := rfl
@[simp] theorem State.setStrm_poolMem (s : State) (n : Nat) (x : StrmX) : (s.setStrm n x).poolMem = s.poolMem := rfl
@[simp] theorem State.setStrm_poolBad (s : State) (n : Nat) (x : StrmX) : (s.setStrm n x).poolBad = s.poolBad := rfl
@[simp] theorem State.setStrm_capMem (s : State) (n : Nat) (x : StrmX) : (s.setStrm n x).capMem = s.capMem := rfl
@[simp] theorem State.setStrm_ledgMem (s : State) (n : Nat) (x : StrmX) : (s.setStrm n x).ledgMem = s.ledgMem := rfl
@[simp] theorem State.setStrm_mtpMem (s : State) (n : Nat) (x : StrmX) : (s.setStrm n x).mtpMem = s.mtpMem := rfl
@[simp] theorem State.setStrm_siteMap (s : State) (n : Nat) (x : StrmX) : (s.setStrm n x).siteMap = s.siteMap := rfl
@[simp] theorem State.setStrm_runs (s : State) (n : Nat) (x : StrmX) : (s.setStrm n x).runs = s.runs := rfl
@[simp] theorem State.setStrm_evq (s : State) (n : Nat) (x : StrmX) : (s.setStrm n x).evq = s.evq := rfl
@[simp] theorem State.setStrm_seqs (s : State) (n : Nat) (x : StrmX) : (s.setStrm n x).seqs = s.seqs := rfl
@[simp] theorem State.setStrm_faultq (s : State) (n : Nat) (x : StrmX) : (s.setStrm n x).faultq = s.faultq := rfl
@[simp] theorem State.setStrm_fences (s : State) (n : Nat) (x : StrmX) : (s.setStrm n x).fences = s.fences := rfl
@[simp] theorem State.setStrm_pmc (s : State) (n : Nat) (x : StrmX) : (s.setStrm n x).pmc = s.pmc := rfl
@[simp] theorem State.setStrm_ledgq (s : State) (n : Nat) (x : StrmX) : (s.setStrm n x).ledgq = s.ledgq := rfl
@[simp] theorem State.setStrm_ledgAbove (s : State) (n : Nat) (x : StrmX) : (s.setStrm n x).ledgAbove = s.ledgAbove := rfl
@[simp] theorem State.setStrm_qps (s : State) (n : Nat) (x : StrmX) : (s.setStrm n x).qps = s.qps := rfl
@[simp] theorem State.setStrm_evrs (s : State) (n : Nat) (x : StrmX) : (s.setStrm n x).evrs = s.evrs := rfl
@[simp] theorem State.setStrm_tlb (s : State) (n : Nat) (x : StrmX) : (s.setStrm n x).tlb = s.tlb := rfl
@[simp] theorem State.setStrm_mmuq (s : State) (n : Nat) (x : StrmX) : (s.setStrm n x).mmuq = s.mmuq := rfl
@[simp] theorem State.setStrm_snaps (s : State) (n : Nat) (x : StrmX) : (s.setStrm n x).snaps = s.snaps := rfl
@[simp] theorem State.setStrm_wm (s : State) (n : Nat) (x : StrmX) : (s.setStrm n x).wm = s.wm := rfl
@[simp] theorem State.setStrm_jumps (s : State) (n : Nat) (x : StrmX) : (s.setStrm n x).jumps = s.jumps := rfl
@[simp] theorem State.setStrm_d3hot (s : State) (n : Nat) (x : StrmX) : (s.setStrm n x).d3hot = s.d3hot := rfl
@[simp] theorem State.setStrm_out (s : State) (n : Nat) (x : StrmX) : (s.setStrm n x).out = s.out := rfl
@[simp] theorem State.setStrm_rr (s : State) (n : Nat) (x : StrmX) : (s.setStrm n x).rr = s.rr := rfl
@[simp] theorem State.setStrm_lastChunk (s : State) (n : Nat) (x : StrmX) : (s.setStrm n x).lastChunk = s.lastChunk := rfl
@[simp] theorem State.setStrm_time (s : State) (n : Nat) (x : StrmX) : (s.setStrm n x).time = s.time := rfl
@[simp] theorem State.setStrm_ports (s : State) (n : Nat) (x : StrmX) : (s.setStrm n x).ports = s.ports := rfl
@[simp] theorem State.setStrm_fab (s : State) (n : Nat) (x : StrmX) : (s.setStrm n x).fab = s.fab := rfl
@[simp] theorem State.setStrm_pwr (s : State) (n : Nat) (x : StrmX) : (s.setStrm n x).pwr = s.pwr := rfl
@[simp] theorem State.setStrm_sensors (s : State) (n : Nat) (x : StrmX) : (s.setStrm n x).sensors = s.sensors := rfl
@[simp] theorem State.setStrm_doms (s : State) (n : Nat) (x : StrmX) : (s.setStrm n x).doms = s.doms := rfl
@[simp] theorem State.setStrm_rst (s : State) (n : Nat) (x : StrmX) : (s.setStrm n x).rst = s.rst := rfl
@[simp] theorem State.setStrm_safeX (s : State) (n : Nat) (x : StrmX) : (s.setStrm n x).safeX = s.safeX := rfl
@[simp] theorem State.setStrm_live (s : State) (n : Nat) (x : StrmX) : (s.setStrm n x).live = s.live := rfl
@[simp] theorem State.setStrm_xings (s : State) (n : Nat) (x : StrmX) : (s.setStrm n x).xings = s.xings := rfl
@[simp] theorem State.setStrm_shadowWr (s : State) (n : Nat) (x : StrmX) : (s.setStrm n x).shadowWr = s.shadowWr := rfl
@[simp] theorem State.setStrm_xwait (s : State) (n : Nat) (x : StrmX) : (s.setStrm n x).xwait = s.xwait := rfl
@[simp] theorem State.setStrm_svp (s : State) (n : Nat) (x : StrmX) : (s.setStrm n x).svp = s.svp := rfl
@[simp] theorem State.setStrm_trigs (s : State) (n : Nat) (x : StrmX) : (s.setStrm n x).trigs = s.trigs := rfl
@[simp] theorem State.setStrm_jtag (s : State) (n : Nat) (x : StrmX) : (s.setStrm n x).jtag = s.jtag := rfl
@[simp] theorem State.setStrm_shd (s : State) (n : Nat) (x : StrmX) : (s.setStrm n x).shd = s.shd := rfl
@[simp] theorem State.setStrm_badSup (s : State) (n : Nat) (x : StrmX) : (s.setStrm n x).badSup = s.badSup := rfl
@[simp] theorem State.setStrm_tok (s : State) (n : Nat) (x : StrmX) : (s.setStrm n x).tok = s.tok := rfl
@[simp] theorem State.setStrm_fRestart (s : State) (n : Nat) (x : StrmX) : (s.setStrm n x).fRestart = s.fRestart := rfl
@[simp] theorem State.setStrm_tickAcc (s : State) (n : Nat) (x : StrmX) : (s.setStrm n x).tickAcc = s.tickAcc := rfl
@[simp] theorem State.setStrm_tickDie (s : State) (n : Nat) (x : StrmX) : (s.setStrm n x).tickDie = s.tickDie := rfl
@[simp] theorem State.setStrm_wakeAsk (s : State) (n : Nat) (x : StrmX) : (s.setStrm n x).wakeAsk = s.wakeAsk := rfl
@[simp] theorem State.setStrm_wake (s : State) (n : Nat) (x : StrmX) : (s.setStrm n x).wake = s.wake := rfl
@[simp] theorem State.setStrm_safePin (s : State) (n : Nat) (x : StrmX) : (s.setStrm n x).safePin = s.safePin := rfl
@[simp] theorem State.setStrm_safeRail (s : State) (n : Nat) (x : StrmX) : (s.setStrm n x).safeRail = s.safeRail := rfl
@[simp] theorem State.setStrm_safeWave (s : State) (n : Nat) (x : StrmX) : (s.setStrm n x).safeWave = s.safeWave := rfl
@[simp] theorem State.setStrm_atTick (s : State) (n : Nat) (x : StrmX) : (s.setStrm n x).atTick = s.atTick := rfl

@[simp] theorem State.setSnap_pending (s : State) (n : Nat) (x : SnapX) : (s.setSnap n x).pending = s.pending := rfl
@[simp] theorem State.setSnap_regs (s : State) (n : Nat) (x : SnapX) : (s.setSnap n x).regs = s.regs := rfl
@[simp] theorem State.setSnap_latch (s : State) (n : Nat) (x : SnapX) : (s.setSnap n x).latch = s.latch := rfl
@[simp] theorem State.setSnap_now (s : State) (n : Nat) (x : SnapX) : (s.setSnap n x).now = s.now := rfl
@[simp] theorem State.setSnap_free (s : State) (n : Nat) (x : SnapX) : (s.setSnap n x).free = s.free := rfl
@[simp] theorem State.setSnap_gangs (s : State) (n : Nat) (x : SnapX) : (s.setSnap n x).gangs = s.gangs := rfl
@[simp] theorem State.setSnap_pods (s : State) (n : Nat) (x : SnapX) : (s.setSnap n x).pods = s.pods := rfl
@[simp] theorem State.setSnap_pins (s : State) (n : Nat) (x : SnapX) : (s.setSnap n x).pins = s.pins := rfl
@[simp] theorem State.setSnap_ius (s : State) (n : Nat) (x : SnapX) : (s.setSnap n x).ius = s.ius := rfl
@[simp] theorem State.setSnap_iuq (s : State) (n : Nat) (x : SnapX) : (s.setSnap n x).iuq = s.iuq := rfl
@[simp] theorem State.setSnap_iuSetup (s : State) (n : Nat) (x : SnapX) : (s.setSnap n x).iuSetup = s.iuSetup := rfl
@[simp] theorem State.setSnap_pmuSetup (s : State) (n : Nat) (x : SnapX) : (s.setSnap n x).pmuSetup = s.pmuSetup := rfl
@[simp] theorem State.setSnap_pmus (s : State) (n : Nat) (x : SnapX) : (s.setSnap n x).pmus = s.pmus := rfl
@[simp] theorem State.setSnap_waves (s : State) (n : Nat) (x : SnapX) : (s.setSnap n x).waves = s.waves := rfl
@[simp] theorem State.setSnap_rails (s : State) (n : Nat) (x : SnapX) : (s.setSnap n x).rails = s.rails := rfl
@[simp] theorem State.setSnap_sites (s : State) (n : Nat) (x : SnapX) : (s.setSnap n x).sites = s.sites := rfl
@[simp] theorem State.setSnap_dies (s : State) (n : Nat) (x : SnapX) : (s.setSnap n x).dies = s.dies := rfl
@[simp] theorem State.setSnap_segMem (s : State) (n : Nat) (x : SnapX) : (s.setSnap n x).segMem = s.segMem := rfl
@[simp] theorem State.setSnap_poolMem (s : State) (n : Nat) (x : SnapX) : (s.setSnap n x).poolMem = s.poolMem := rfl
@[simp] theorem State.setSnap_poolBad (s : State) (n : Nat) (x : SnapX) : (s.setSnap n x).poolBad = s.poolBad := rfl
@[simp] theorem State.setSnap_capMem (s : State) (n : Nat) (x : SnapX) : (s.setSnap n x).capMem = s.capMem := rfl
@[simp] theorem State.setSnap_ledgMem (s : State) (n : Nat) (x : SnapX) : (s.setSnap n x).ledgMem = s.ledgMem := rfl
@[simp] theorem State.setSnap_mtpMem (s : State) (n : Nat) (x : SnapX) : (s.setSnap n x).mtpMem = s.mtpMem := rfl
@[simp] theorem State.setSnap_siteMap (s : State) (n : Nat) (x : SnapX) : (s.setSnap n x).siteMap = s.siteMap := rfl
@[simp] theorem State.setSnap_runs (s : State) (n : Nat) (x : SnapX) : (s.setSnap n x).runs = s.runs := rfl
@[simp] theorem State.setSnap_evq (s : State) (n : Nat) (x : SnapX) : (s.setSnap n x).evq = s.evq := rfl
@[simp] theorem State.setSnap_seqs (s : State) (n : Nat) (x : SnapX) : (s.setSnap n x).seqs = s.seqs := rfl
@[simp] theorem State.setSnap_faultq (s : State) (n : Nat) (x : SnapX) : (s.setSnap n x).faultq = s.faultq := rfl
@[simp] theorem State.setSnap_fences (s : State) (n : Nat) (x : SnapX) : (s.setSnap n x).fences = s.fences := rfl
@[simp] theorem State.setSnap_pmc (s : State) (n : Nat) (x : SnapX) : (s.setSnap n x).pmc = s.pmc := rfl
@[simp] theorem State.setSnap_ledgq (s : State) (n : Nat) (x : SnapX) : (s.setSnap n x).ledgq = s.ledgq := rfl
@[simp] theorem State.setSnap_ledgAbove (s : State) (n : Nat) (x : SnapX) : (s.setSnap n x).ledgAbove = s.ledgAbove := rfl
@[simp] theorem State.setSnap_qps (s : State) (n : Nat) (x : SnapX) : (s.setSnap n x).qps = s.qps := rfl
@[simp] theorem State.setSnap_evrs (s : State) (n : Nat) (x : SnapX) : (s.setSnap n x).evrs = s.evrs := rfl
@[simp] theorem State.setSnap_tlb (s : State) (n : Nat) (x : SnapX) : (s.setSnap n x).tlb = s.tlb := rfl
@[simp] theorem State.setSnap_mmuq (s : State) (n : Nat) (x : SnapX) : (s.setSnap n x).mmuq = s.mmuq := rfl
@[simp] theorem State.setSnap_strms (s : State) (n : Nat) (x : SnapX) : (s.setSnap n x).strms = s.strms := rfl
@[simp] theorem State.setSnap_wm (s : State) (n : Nat) (x : SnapX) : (s.setSnap n x).wm = s.wm := rfl
@[simp] theorem State.setSnap_jumps (s : State) (n : Nat) (x : SnapX) : (s.setSnap n x).jumps = s.jumps := rfl
@[simp] theorem State.setSnap_d3hot (s : State) (n : Nat) (x : SnapX) : (s.setSnap n x).d3hot = s.d3hot := rfl
@[simp] theorem State.setSnap_out (s : State) (n : Nat) (x : SnapX) : (s.setSnap n x).out = s.out := rfl
@[simp] theorem State.setSnap_rr (s : State) (n : Nat) (x : SnapX) : (s.setSnap n x).rr = s.rr := rfl
@[simp] theorem State.setSnap_lastChunk (s : State) (n : Nat) (x : SnapX) : (s.setSnap n x).lastChunk = s.lastChunk := rfl
@[simp] theorem State.setSnap_time (s : State) (n : Nat) (x : SnapX) : (s.setSnap n x).time = s.time := rfl
@[simp] theorem State.setSnap_ports (s : State) (n : Nat) (x : SnapX) : (s.setSnap n x).ports = s.ports := rfl
@[simp] theorem State.setSnap_fab (s : State) (n : Nat) (x : SnapX) : (s.setSnap n x).fab = s.fab := rfl
@[simp] theorem State.setSnap_pwr (s : State) (n : Nat) (x : SnapX) : (s.setSnap n x).pwr = s.pwr := rfl
@[simp] theorem State.setSnap_sensors (s : State) (n : Nat) (x : SnapX) : (s.setSnap n x).sensors = s.sensors := rfl
@[simp] theorem State.setSnap_doms (s : State) (n : Nat) (x : SnapX) : (s.setSnap n x).doms = s.doms := rfl
@[simp] theorem State.setSnap_rst (s : State) (n : Nat) (x : SnapX) : (s.setSnap n x).rst = s.rst := rfl
@[simp] theorem State.setSnap_safeX (s : State) (n : Nat) (x : SnapX) : (s.setSnap n x).safeX = s.safeX := rfl
@[simp] theorem State.setSnap_live (s : State) (n : Nat) (x : SnapX) : (s.setSnap n x).live = s.live := rfl
@[simp] theorem State.setSnap_xings (s : State) (n : Nat) (x : SnapX) : (s.setSnap n x).xings = s.xings := rfl
@[simp] theorem State.setSnap_shadowWr (s : State) (n : Nat) (x : SnapX) : (s.setSnap n x).shadowWr = s.shadowWr := rfl
@[simp] theorem State.setSnap_xwait (s : State) (n : Nat) (x : SnapX) : (s.setSnap n x).xwait = s.xwait := rfl
@[simp] theorem State.setSnap_svp (s : State) (n : Nat) (x : SnapX) : (s.setSnap n x).svp = s.svp := rfl
@[simp] theorem State.setSnap_trigs (s : State) (n : Nat) (x : SnapX) : (s.setSnap n x).trigs = s.trigs := rfl
@[simp] theorem State.setSnap_jtag (s : State) (n : Nat) (x : SnapX) : (s.setSnap n x).jtag = s.jtag := rfl
@[simp] theorem State.setSnap_shd (s : State) (n : Nat) (x : SnapX) : (s.setSnap n x).shd = s.shd := rfl
@[simp] theorem State.setSnap_badSup (s : State) (n : Nat) (x : SnapX) : (s.setSnap n x).badSup = s.badSup := rfl
@[simp] theorem State.setSnap_tok (s : State) (n : Nat) (x : SnapX) : (s.setSnap n x).tok = s.tok := rfl
@[simp] theorem State.setSnap_fRestart (s : State) (n : Nat) (x : SnapX) : (s.setSnap n x).fRestart = s.fRestart := rfl
@[simp] theorem State.setSnap_tickAcc (s : State) (n : Nat) (x : SnapX) : (s.setSnap n x).tickAcc = s.tickAcc := rfl
@[simp] theorem State.setSnap_tickDie (s : State) (n : Nat) (x : SnapX) : (s.setSnap n x).tickDie = s.tickDie := rfl
@[simp] theorem State.setSnap_wakeAsk (s : State) (n : Nat) (x : SnapX) : (s.setSnap n x).wakeAsk = s.wakeAsk := rfl
@[simp] theorem State.setSnap_wake (s : State) (n : Nat) (x : SnapX) : (s.setSnap n x).wake = s.wake := rfl
@[simp] theorem State.setSnap_safePin (s : State) (n : Nat) (x : SnapX) : (s.setSnap n x).safePin = s.safePin := rfl
@[simp] theorem State.setSnap_safeRail (s : State) (n : Nat) (x : SnapX) : (s.setSnap n x).safeRail = s.safeRail := rfl
@[simp] theorem State.setSnap_safeWave (s : State) (n : Nat) (x : SnapX) : (s.setSnap n x).safeWave = s.safeWave := rfl
@[simp] theorem State.setSnap_atTick (s : State) (n : Nat) (x : SnapX) : (s.setSnap n x).atTick = s.atTick := rfl

end Sys2Proof.Machine
end

