-- ==== Sys2Proof/Laws/Words.lean ====
section
/-! SUPPORT. What the dispatch of a word comes to, and what is left of a gang once a word has been carried out. -/

namespace Sys2Proof.Machine

open Sys2Proof

/-! ### Operations that leave the gangs alone -/

theorem State.wr_fold_gangs {α : Type} (f : State → α → State) (hf : ∀ s a, (f s a).gangs = s.gangs) (s : State) (l : List α) :
    (l.foldl f s).gangs = s.gangs := by
  induction l generalizing s with
  | nil => rfl
  | cons a t ih => simp only [List.foldl_cons, ih, hf]

theorem State.gang_of_gangs {s t : State} (h : t.gangs = s.gangs) (n : Nat) : t.gang n = s.gang n := by
  simp only [State.gang, h]

@[simp] theorem State.wrAll_gangs (s : State) (f : Fld) (v : Nat) (l : List Nat) : (s.wrAll f v l).gangs = s.gangs :=
  State.wr_fold_gangs (fun s i => s.wr f v i) (fun _ _ => rfl) s l

@[simp] theorem State.gang_wrAll (s : State) (f : Fld) (v : Nat) (l : List Nat) (n : Nat) : (s.wrAll f v l).gang n = s.gang n :=
  State.gang_of_gangs (State.wrAll_gangs s f v l) n

@[simp] theorem State.stall_gang (s : State) (n why m : Nat) : (s.stall n why).gang m = s.gang m := State.gang_wrAll ..

@[simp] theorem State.setGstate_gang (s : State) (n v m : Nat) : (s.setGstate n v).gang m = s.gang m := State.gang_wrAll ..

@[simp] theorem State.publish_gang (s : State) (n m : Nat) : (s.publish n).gang m = s.gang m := by
  refine State.gang_of_gangs ?_ m
  unfold State.publish
  extract_lets g
  split
  · refine (State.wr_fold_gangs _ (fun s p => ?_) _ _).trans rfl
    dsimp only
    change State.gangs (if _ then _ else _) = _
    split <;> rfl
  · rfl

theorem State.setSeg_gangs (s : State) (p k : Nat) (x : SegX) : (s.setSeg p k x).gangs = s.gangs := by
  unfold State.setSeg; rfl

/-- An entry dispatched from is ACTIVE, or noted until the gang starts. -/
theorem State.touch_gang (s : State) (n : Nat) (a : PAddr) : ∃ u, (s.touch n a).gang n = { s.gang n with used := u } := by
  unfold State.touch
  split
  · exact ⟨_, State.gang_of_gangs (State.wr_fold_gangs _ (fun s p => State.setSeg_gangs s p a.seg _) _ _) n⟩
  · exact ⟨_, State.gang_setGang ..⟩

/-! ### A gang brought up to date -/

/-- A wait after its boundary tick has become known. -/
structure GWait.Timed (w x : GWait) : Prop where
  seq : x.seq = w.seq
  tag : x.tag = w.tag
  failto : x.failto = w.failto
  tmo : x.tmo = w.tmo
  micro : x.micro = w.micro
  ix : x.ix = w.ix
  th : x.th = w.th
  time : ∀ b k, w.kind = .time b k → x.kind = .time b k
  event : ∀ q o, w.kind = .event q o → ∃ o', x.kind = .event q o'
  barrier : ∀ b o, w.kind = .barrier b o → ∃ o', x.kind = .barrier b o'
  meas : ∀ d, w.kind = .meas d → x.kind = .meas d
  commit : w.kind = .commit → x.kind = .commit

theorem GWait.Timed.refl (w : GWait) : w.Timed w := by
  constructor <;> intros <;> first | rfl | assumption | exact ⟨_, by assumption⟩

theorem Gang.timeWait_timed (g : Gang) (w : GWait) (b : Stamp) : w.Timed (g.timeWait w b) := by
  unfold Gang.timeWait
  obtain ⟨seq, kind, tag, failto, tmo, bt, endAt, micro, ix, th⟩ := w
  cases kind with
  | time base1 n => constructor <;> intros <;> simp_all
  | event q seen => dsimp only; split <;> (constructor <;> intros <;> simp_all)
  | barrier bar a => constructor <;> intros <;> simp_all
  | meas d => constructor <;> intros <;> simp_all
  | commit => constructor <;> intros <;> simp_all

/-- A posted side effect keeps its place, its region and what it does; what becomes known are its ticks. -/
structure SebEntry.Timed (e x : SebEntry) : Prop where
  seq : x.seq = e.seq
  ix : x.ix = e.ix
  region : x.region = e.region
  eff : x.eff = e.eff
  pod : x.pod = e.pod

theorem Gang.fixEntry_timed (g : Gang) (now : Stamp) (e : SebEntry) : e.Timed (g.fixEntry now e) := by
  unfold Gang.fixEntry
  dsimp only
  repeat' split
  all_goals exact ⟨rfl, rfl, rfl, rfl, rfl⟩

/-- What bringing a gang up to date changes: the wait, and in side effects, checkpoints, exhausted loops, a crossing and safe points
what has become known. -/
structure Gang.Fixed (g h : Gang) : Prop where
  startT : h.startT = g.startT
  stepNo : h.stepNo = g.stepNo
  run : h.run = g.run
  pinEnd : h.pinEnd = g.pinEnd
  seqNext : h.seqNext = g.seqNext
  vpos : h.vpos = g.vpos
  main : h.main = g.main
  sprout : h.sprout = g.sprout
  oq : h.oq = g.oq
  flights : h.flights = g.flights
  cross : h.cross.isSome = g.cross.isSome
  held : h.held = g.held
  shadowTo : h.shadowTo = g.shadowTo
  dec : h.dec = g.dec
  stopReq : h.stopReq = g.stopReq
  stopped : h.stopped = g.stopped
  ledgDone : h.ledgDone = g.ledgDone
  capLoss : h.capLoss = g.capLoss
  evcnt : h.evcnt = g.evcnt
  vMeas : h.vMeas = g.vMeas
  devEntry : h.devEntry = g.devEntry
  meas : h.meas = g.meas
  retire : h.retire = g.retire
  exh : h.exh.map (fun e => (e.seq, e.tag, e.failto)) = g.exh.map (fun e => (e.seq, e.tag, e.failto))
  tagD : h.tagD = g.tagD
  marks : h.marks = g.marks
  markEnd : h.markEnd = g.markEnd
  preempt : h.preempt = g.preempt
  fails : h.fails = g.fails
  prep : h.prep = g.prep
  stepped : h.stepped = g.stepped
  noGap : h.noGap = g.noGap
  started : h.started = g.started
  brks : h.brks = g.brks
  rewindDue : h.rewindDue = g.rewindDue
  measInfo : h.measInfo = g.measInfo
  recent : h.recent = g.recent
  lastCommit : h.lastCommit = g.lastCommit
  before : h.before = g.before
  lastRes : h.lastRes = g.lastRes
  noLead : h.noLead = g.noLead
  mkq : h.mkq = g.mkq
  tagSeq : h.tagSeq = g.tagSeq
  vEnd : h.vEnd = g.vEnd
  dropped : h.dropped = g.dropped
  launched : h.launched = g.launched
  used : h.used = g.used
  effs : h.seb.map (·.eff) = g.seb.map (·.eff)
  seb : ∀ x ∈ h.seb, ∃ e ∈ g.seb, e.Timed x
  cks : ∀ k ∈ h.ckpts, ∃ c ∈ g.ckpts, k.seq = c.seq ∧ k.taken = c.taken ∧ k.word = c.word ∧ k.alt = c.alt ∧
    ∀ hi f t l a js, k.kind = .mtch hi f t l a js → ∃ its, c.kind = .mtch hi f t l a its ∧ js.map (·.seq) = its.map (·.seq)
  noWait : g.wait = none → h.wait = none
  wait : ∀ w, g.wait = some w → ∃ x, h.wait = some x ∧ w.Timed x
  safes : ∀ m ∈ g.safes, m.bt = none → g.oq.all (fun e => decide (m.seq ≤ e.seq)) = false → m ∈ h.safes

/-- A checkpoint with the boundary ticks of its iterations set. -/
theorem Gang.fixCk_kept {cks : List Ckpt} (f : MatchIter → MatchIter) (hf : ∀ i, (f i).seq = i.seq) :
    ∀ k ∈ cks.map (fun (c : Ckpt) => match c.kind with
      | .mtch h x t l a its => { c with kind := .mtch h x t l a (its.map f) }
      | _ => c), ∃ c ∈ cks, k.seq = c.seq ∧ k.taken = c.taken ∧ k.word = c.word ∧ k.alt = c.alt ∧
    ∀ hi x t l a js, k.kind = .mtch hi x t l a js → ∃ its, c.kind = .mtch hi x t l a its ∧ js.map (·.seq) = its.map (·.seq) := by
  intro k hk
  obtain ⟨c, hc, rfl⟩ := List.mem_map.1 hk
  refine ⟨c, hc, ?_⟩
  cases hck : c.kind with
  | mtch h x t l a its =>
    refine ⟨rfl, rfl, rfl, rfl, ?_⟩
    intro hi x' t' l' a' js hj
    simp only [SpecKind.mtch.injEq] at hj
    obtain ⟨rfl, rfl, rfl, rfl, rfl, rfl⟩ := hj
    exact ⟨its, rfl, by simp [List.map_map, Function.comp_def, hf]⟩
  | cond => exact ⟨rfl, rfl, rfl, rfl, fun _ _ _ _ _ _ hj => by simp [hck] at hj⟩
  | user => exact ⟨rfl, rfl, rfl, rfl, fun _ _ _ _ _ _ hj => by simp [hck] at hj⟩

theorem Gang.fix_fixed (g : Gang) (now : Stamp) : g.Fixed (g.fix now) := by
  unfold Gang.fix
  dsimp only
  constructor <;> try rfl
  · cases g.cross <;> rfl
  · dsimp only
    rw [List.map_map]
    exact List.map_congr_left (fun a _ => by dsimp only [Function.comp]; split <;> rfl)
  · dsimp only
    rw [List.map_map]
    exact List.map_congr_left (fun a _ => (Gang.fixEntry_timed _ now a).eff)
  · intro x hx
    obtain ⟨e, he, rfl⟩ := List.mem_map.1 hx
    exact ⟨e, he, Gang.fixEntry_timed _ now e⟩
  · exact Gang.fixCk_kept _ (fun i => by split <;> rfl)
  · intro h
    simp [Gang.knownWait, h]
  · intro w hw
    refine ⟨_, by simp only [Gang.knownWait, hw]; rfl, ?_⟩
    dsimp only
    split
    · exact Gang.timeWait_timed g w _
    · exact GWait.Timed.refl w
  · intro m hm hb hk
    dsimp only
    rw [List.mem_filterMap]
    refine ⟨m, hm, ?_⟩
    have hk2 : ∀ (c : List Ckpt) (e : List Exhaust) (r : Option Cross),
        ({ g with wait := g.knownWait, ckpts := c, exh := e, cross := r } : Gang).known m.seq = false := by
      intro c e r
      unfold Gang.known
      rw [hk, Bool.false_and]
    unfold Gang.fixSafe
    simp only [hb, hk2, Bool.false_eq_true, and_false, if_false]

theorem State.fix_gang (s : State) (n : Nat) : (s.fix n).gang n = (s.gang n).fix s.now := by
  unfold State.fix
  dsimp only
  split
  · split
    · simp
    · simp
  · simp

/-- A measurement's or a commit's end may end the wait, and changes nothing else. -/
theorem Gang.settleWaits_eq (g : Gang) (tok : Option (Nat × Nat)) (now : Stamp) :
    ∃ w, g.settleWaits tok now = { g with wait := w } := by
  unfold Gang.settleWaits
  split
  · exact ⟨g.wait, rfl⟩
  · dsimp only
    repeat' split
    all_goals first | exact ⟨g.wait, rfl⟩ | exact ⟨_, rfl⟩

/-! ### Dispatch -/

/-- A word whose path is ready is carried out. -/
theorem State.dispatch_ready {s : State} {n : Nat} {p : Path} {compat : Bool} {th : Thread} {ws : List (Nat × Nat)}
    (h : Ready s n p compat th ws) (accept : Nat → Bool) (act : Ctx → Thread → State → State)
    (ha : accept (opOf (firstWord ws)) = true) :
    s.dispatch n p compat accept act = act ⟨n, p, th.pc, (s.gang n).seqNext, ws⟩ th s := by
  have hw : (⟨n, p, th.pc, (s.gang n).seqNext, ws⟩ : Ctx).w = firstWord ws := rfl
  unfold State.dispatch
  rw [if_neg (by simp [h.can, h.mode])]
  simp only [h.path]
  have he : ¬(p = .sprout ∧ s.granuleEdge n th = true) := fun hh => by simp [h.edge hh.1] at hh
  rw [if_neg he]
  simp only [h.words, hw, ha, h.good]
  rfl

theorem State.dispatchOp_ready {s : State} {n : Nat} {p : Path} {th : Thread} {ws : List (Nat × Nat)}
    (h : Ready s n p false th ws) {op : Nat} (act : Ctx → Thread → State → State) (ho : opOf (firstWord ws) = op) :
    s.dispatchOp n p op act = act ⟨n, p, th.pc, (s.gang n).seqNext, ws⟩ th s :=
  State.dispatch_ready h _ act (by simp [ho])

/-- A path that dispatches has no error held. -/
theorem Ready.held {s : State} {n : Nat} {p : Path} {compat : Bool} {th : Thread} {ws : List (Nat × Nat)}
    (h : Ready s n p compat th ws) : (s.gang n).held = none := by
  have := h.can
  unfold State.canDispatch at this
  simp only [Bool.and_eq_true, Option.isNone_iff_eq_none] at this
  exact this.1.1.1.2

@[simp] theorem Gang.thread_setThread (g : Gang) (p : Path) (t : Thread) :
    (g.setThread p t).thread p = (g.thread p).map (fun _ => t) := by
  cases p <;> simp [Gang.setThread, Gang.thread, Option.map_map, Function.comp_def]

theorem State.stopSprout_gang (s : State) (n why : Nat) : (s.stopSprout n why).gang n =
    { s.gang n with sprout := (s.gang n).sprout.map (fun x => { x.backTo with stop := why }) } := by
  unfold State.stopSprout
  dsimp only
  rw [State.gang_wrAll, State.gang_setGang]

theorem State.ensureSprout_gang (s : State) (n : Nat) : ∃ sp, (s.ensureSprout n).gang n = { s.gang n with sprout := sp } ∧
    ((s.gang n).sprout.isSome = true → sp = (s.gang n).sprout) := by
  unfold State.ensureSprout
  dsimp only
  split
  · exact ⟨_, rfl, fun _ => rfl⟩
  · next hno =>
    have hns : (s.gang n).sprout.isSome ≠ true := fun h => hno (.inr h)
    split
    · exact ⟨_, rfl, fun _ => rfl⟩
    · split
      · exact ⟨_, rfl, fun _ => rfl⟩
      · split
        · exact ⟨_, rfl, fun _ => rfl⟩
        · split
          · exact ⟨_, State.gang_setGang .., fun h => absurd h hns⟩
          · rw [State.stopSprout_gang, State.gang_setGang]
            exact ⟨_, rfl, fun h => absurd h hns⟩

theorem State.raiseErr_none {s : State} {n : Nat} (h : (s.gang n).held = none) : s.raiseErr n = s := by
  unfold State.raiseErr
  simp only [h]

/-- What is left of a gang in which no error is held once its boundary ticks are brought up to date, a sprout begun, and its
registers shown. -/
theorem State.settled_gang {s : State} {n : Nat} (hh : (s.gang n).held = none) :
    ∃ g sp, (s.gang n).Fixed g ∧ ((((s.fix n).ensureSprout n).publish n).raiseErr n).gang n = { g with sprout := sp } ∧
      (g.sprout.isSome = true → sp = g.sprout) := by
  obtain ⟨sp, h4, h5⟩ := State.ensureSprout_gang (s.fix n) n
  rw [State.fix_gang] at h4 h5
  have hf := Gang.fix_fixed (s.gang n) s.now
  have hg : (((s.fix n).ensureSprout n).publish n).gang n = { (s.gang n).fix s.now with sprout := sp } := by
    rw [State.publish_gang, h4]
  refine ⟨_, sp, hf, ?_, h5⟩
  rw [State.raiseErr_none]
  · exact hg
  · rw [hg]; exact hf.held.trans hh

/-- What is left of a gang in which no error is held once a word has been carried out. -/
theorem State.done_gang (s : State) (c : Ctx) (th : Thread) (cost : Nat) (hh : (s.gang c.n).held = none) :
    ∃ g sp u, ({ s.doneGang c th cost with used := u } : Gang).Fixed g ∧
      (s.done c th cost).gang c.n = { g with sprout := sp } ∧ (g.sprout.isSome = true → sp = g.sprout) := by
  have hh0 : (s.doneGang c th cost).held = none := by
    unfold State.doneGang; cases hp : c.p <;> simpa [Gang.setThread, hp] using hh
  have hpl : (List.foldl (fun (s : State) p => s.pulse 3 p) (s.setGang c.n (s.doneGang c th cost))
      ((s.setGang c.n (s.doneGang c th cost)).podsOf c.n)).gang c.n = s.doneGang c th cost := by
    rw [State.gang_of_gangs (State.wr_fold_gangs (fun (s : State) p => s.pulse 3 p) (fun _ _ => rfl) _ _)]; simp
  have key : ∀ u, ∀ b : State, b.gang c.n = { s.doneGang c th cost with used := u } →
      ∃ g sp u, ({ s.doneGang c th cost with used := u } : Gang).Fixed g ∧
        ((((b.fix c.n).ensureSprout c.n).publish c.n).raiseErr c.n).gang c.n = { g with sprout := sp } ∧
        (g.sprout.isSome = true → sp = g.sprout) := by
    intro u b hb
    obtain ⟨g, sp, h1, h2, h3⟩ := State.settled_gang (s := b) (n := c.n) (by rw [hb]; exact hh0)
    exact ⟨g, sp, u, hb ▸ h1, h2, h3⟩
  unfold State.done
  extract_lets s0 s1 s2 s3
  have hs3 : ∃ u, s3.gang c.n = { s.doneGang c th cost with used := u } := by
    dsimp only [s3]
    cases c.p with
    | main =>
      exact (State.touch_gang _ c.n c.a).imp (fun u hu => hu.trans (congrArg (fun g : Gang => { g with used := u }) hpl))
    | sprout => exact ⟨(s.doneGang c th cost).used, hpl⟩
  obtain ⟨u, hu⟩ := hs3
  exact key u s3 hu

/-- The thread of the path that carried a word out. -/
theorem State.done_thread (s : State) (c : Ctx) (th : Thread) (cost : Nat) (hh : (s.gang c.n).held = none)
    (hp : ((s.gang c.n).thread c.p).isSome = true) :
    ((s.done c th cost).gang c.n).thread c.p = some (s.doneThread c th cost) := by
  obtain ⟨g, sp, u, hf, hg, hs⟩ := State.done_gang s c th cost hh
  rw [hg]
  cases hcp : c.p with
  | main =>
    have := hf.main
    simp only [State.doneGang, hcp, Gang.setThread] at this
    simp only [Gang.thread, this]
  | sprout =>
    have hsp := hf.sprout
    rw [hcp] at hp
    simp only [State.doneGang, hcp, Gang.setThread] at hsp
    obtain ⟨x, hx⟩ := Option.isSome_iff_exists.1 (by simpa [Gang.thread] using hp : (s.gang c.n).sprout.isSome = true)
    rw [hx] at hsp
    rw [hs (by rw [hsp]; rfl), hsp]
    rfl

/-! ### Engine errors -/

theorem State.podsOf_of {s t : State} (h : t.siteMap = s.siteMap) (n : Nat) : t.podsOf n = s.podsOf n := by
  simp only [State.podsOf, State.site, h]

theorem State.lead_of {s t : State} (h : t.siteMap = s.siteMap) (n : Nat) : t.lead n = s.lead n := by
  simp only [State.lead, State.podsOf_of h]

theorem State.foldl_wr_rd {α : Type} (f : Fld) (v i : State → α → Nat) (g : Fld) (h : f.reg ≠ g.reg) (s : State) (l : List α) (j k : Nat) :
    (l.foldl (fun s a => s.wr f (v s a) (i s a)) s).rd g j k = s.rd g j k := by
  induction l generalizing s with
  | nil => rfl
  | cons a t ih => rw [List.foldl_cons, ih, State.rd_wr_ne _ _ _ _ _ _ (.inl h)]

theorem State.ite_wr_rd (s : State) (p : Prop) [Decidable p] (f : Fld) (v i : Nat) (g : Fld) (h : f.reg ≠ g.reg) (j k : Nat) :
    (if p then s.wr f v i else s).rd g j k = s.rd g j k := by
  split
  · exact State.rd_wr_ne _ _ _ _ _ _ (.inl h)
  · rfl

theorem State.ite_wrAll_rd (s : State) (p : Prop) [Decidable p] (f : Fld) (v : Nat) (l : List Nat) (g : Fld) (h : f.reg ≠ g.reg)
    (j : Nat) : (if p then s.wrAll f v l else s).rd g j 0 = s.rd g j 0 := by
  split
  · exact State.rd_wrAll_ne _ _ _ _ _ (.inl h)
  · rfl

/-- An engine error that halts a gang shows in every pod of it (R161). -/
theorem State.haltErr_shows (s : State) (n : Nat) (h : HeldErr) (hc : h.code < 64) :
    ∀ p ∈ (s.haltErr n h).podsOf n, (s.haltErr n h).rd F.ENG_STAT_STATE p = stError ∧ (s.haltErr n h).rd F.ENG_STAT_ERR p = h.code := by
  intro p hp
  rw [State.podsOf_of ((State.haltErr_does s n h).siteMap (by decide))] at hp
  unfold State.haltErr
  constructor
  all_goals
    rw [(State.exitRails_does _ _).rd _ _ _ (by decide), (State.siteEnded_does _ _ _).rd _ _ _ (by decide),
      (State.endStep_does _ _).rd _ _ _ (by decide), (State.measEndSite_does _ _).rd _ _ _ (by decide),
      (State.clearStopped_does _ _).rd _ _ _ (by decide), State.rd_setGang, (State.deviceEntry_does _ _ _ _ _ _).rd _ _ _ (by decide),
      (State.raise_does _ _ _ _ _).rd _ _ _ (by decide), State.ite_wrAll_rd _ _ _ _ _ _ (by decide),
      State.rd_wr_ne _ _ _ _ _ _ (.inl (by decide)), State.foldl_wr_rd _ _ _ _ (by decide)]
  · rw [State.rd_wrAll_ne _ _ _ _ _ (.inr (by decide)), State.setGstate, State.rd_wrAll, if_pos hp]
    rfl
  · rw [State.rd_wrAll, if_pos hp]
    exact Nat.mod_eq_of_lt hc

/-- A held error that is taken shows in every pod of the gang (R161). -/
theorem State.raiseErr_taken {s : State} {n : Nat} {h : HeldErr} (hh : (s.gang n).held = some h)
    (hs : (s.gang n).started = true) (hd : (s.gang n).drained h.seq s.now = true) : s.raiseErr n = s.haltErr n h := by
  unfold State.raiseErr
  simp only [hh]
  rw [if_neg (by simp [hs, hd])]

/-- An engine error of the main path is held, or has halted the gang. -/
theorem State.engineErr_erred {s : State} {n : Nat} (hh : (s.gang n).held = none) (code seq : Nat) (pc : PAddr) (pod : Nat)
    (more : List Nat) (hc : code < 64) : (s.engineErr n .main code seq pc pod more).erred n code := by
  unfold State.engineErr
  simp only [hh]
  rw [if_neg (by simp)]
  by_cases hr : (s.gang n).started = true ∧
      ({ s.gang n with held := some ⟨code, seq, pc, pod, pod :: more⟩ } : Gang).drained seq s.now = true
  · rw [State.raiseErr_taken (h := ⟨code, seq, pc, pod, pod :: more⟩) (by simp) (by simpa using hr.1) (by simpa using hr.2)]
    exact .inr (State.haltErr_shows _ _ _ hc)
  · left
    refine ⟨⟨code, seq, pc, pod, pod :: more⟩, ?_, rfl⟩
    unfold State.raiseErr
    simp only [State.gang_setGang, State.setGang_now]
    rw [if_pos]
    · simp
    · by_contra hx
      simp only [not_or, Bool.not_eq_false] at hx
      exact hr hx

end Sys2Proof.Machine
end

