-- ==== Sys2Proof/Laws/Reads.lean ====
section
/-! SUPPORT. Readings through the operations: what an operation that does not touch a part leaves of it, segment entries, folds over
instances, bytes copied between memories. -/

namespace Sys2Proof.Machine

theorem Does.gang {F R : Nat} {s t : State} (h : Does F R s t) (hf : F.testBit 3 = false) (n : Nat) : t.gang n = s.gang n :=
  State.gang_of_gangs (h.gangs hf) n
theorem Does.podX {F R : Nat} {s t : State} (h : Does F R s t) (hf : F.testBit 4 = false) (n : Nat) : t.pod n = s.pod n := by
  simp only [State.pod, h.pods hf]
theorem Does.pinX {F R : Nat} {s t : State} (h : Does F R s t) (hf : F.testBit 5 = false) (n : Nat) : t.pin n = s.pin n := by
  simp only [State.pin, h.pins hf]
theorem Does.podsOf {F R : Nat} {s t : State} (h : Does F R s t) (hf : F.testBit 21 = false) (n : Nat) : t.podsOf n = s.podsOf n :=
  State.podsOf_of (h.siteMap hf) n
theorem Does.segX {F R : Nat} {s t : State} (h : Does F R s t) (hf : F.testBit 4 = false) (n k : Nat) : t.seg n k = s.seg n k := by
  simp only [State.seg, h.podX hf]

@[simp] theorem State.seg_setSeg (s : State) (p k : Nat) (x : SegX) : (s.setSeg p k x).seg p k = x := by
  simp [State.seg, State.setSeg, NStore.at_set]
theorem State.seg_setSeg_ne (s : State) (p k : Nat) (x : SegX) (q j : Nat) (h : q ≠ p ∨ j ≠ k) : (s.setSeg p k x).seg q j = s.seg q j := by
  unfold State.seg State.setSeg
  by_cases hq : q = p
  · subst hq
    rw [State.pod_setPod]
    simp only [NStore.at_set]
    rw [if_neg (by rcases h with h | h <;> simp_all)]
  · rw [State.pod_setPod_ne _ _ _ _ hq]

@[simp] theorem State.pulse_seg (s : State) (c u n : Nat) (a : Bool) (m k : Nat) : (s.pulse c u n a).seg m k = s.seg m k := rfl
@[simp] theorem State.bump_seg (s : State) (f : Fld) (k i j : Nat) (m n : Nat) : (s.bump f k i j).seg m n = s.seg m n := rfl
theorem State.bump_rd_ne (s : State) {f g : Fld} (k i j a b : Nat) (h : f.reg ≠ g.reg ∨ f.lo ≠ g.lo) : (s.bump f k i j).rd g a b = s.rd g a b :=
  State.rd_wr_ne _ _ _ _ _ _ h

/-! ### Instances through the shared operations -/

@[simp] theorem State.gang_putDesc (s : State) (q : Nat) (d : Desc) (m : Nat) : (s.putDesc q d).gang m = s.gang m := rfl
@[simp] theorem State.pod_putDesc (s : State) (q : Nat) (d : Desc) (m : Nat) : (s.putDesc q d).pod m = s.pod m := rfl
@[simp] theorem State.pin_putDesc (s : State) (q : Nat) (d : Desc) (m : Nat) : (s.putDesc q d).pin m = s.pin m := rfl
@[simp] theorem State.iu_putDesc (s : State) (q : Nat) (d : Desc) (m : Nat) : (s.putDesc q d).iu m = s.iu m := rfl
@[simp] theorem State.wave_putDesc (s : State) (q : Nat) (d : Desc) (m : Nat) : (s.putDesc q d).wave m = s.wave m := rfl
@[simp] theorem State.rail_putDesc (s : State) (q : Nat) (d : Desc) (m : Nat) : (s.putDesc q d).rail m = s.rail m := rfl
@[simp] theorem State.siteX_putDesc (s : State) (q : Nat) (d : Desc) (m : Nat) : (s.putDesc q d).siteX m = s.siteX m := rfl
@[simp] theorem State.die_putDesc (s : State) (q : Nat) (d : Desc) (m : Nat) : (s.putDesc q d).die m = s.die m := rfl
@[simp] theorem State.evr_putDesc (s : State) (q : Nat) (d : Desc) (m : Nat) : (s.putDesc q d).evr m = s.evr m := rfl
@[simp] theorem State.strm_putDesc (s : State) (q : Nat) (d : Desc) (m : Nat) : (s.putDesc q d).strm m = s.strm m := rfl
@[simp] theorem State.snap_putDesc (s : State) (q : Nat) (d : Desc) (m : Nat) : (s.putDesc q d).snap m = s.snap m := rfl
@[simp] theorem State.rd_putDesc (s : State) (q : Nat) (d : Desc) (g : Fld) (i j : Nat) : (s.putDesc q d).rd g i j = s.rd g i j := rfl
@[simp] theorem State.putDesc_segMem (s : State) (q : Nat) (d : Desc) : (s.putDesc q d).segMem = s.segMem := rfl
@[simp] theorem State.putDesc_poolMem (s : State) (q : Nat) (d : Desc) : (s.putDesc q d).poolMem = s.poolMem := rfl
@[simp] theorem State.putDesc_capMem (s : State) (q : Nat) (d : Desc) : (s.putDesc q d).capMem = s.capMem := rfl
@[simp] theorem State.putDesc_now (s : State) (q : Nat) (d : Desc) : (s.putDesc q d).now = s.now := rfl

@[simp] theorem State.gang_pulse (s : State) (c u n : Nat) (a : Bool) (m : Nat) : (s.pulse c u n a).gang m = s.gang m := rfl
@[simp] theorem State.pod_pulse (s : State) (c u n : Nat) (a : Bool) (m : Nat) : (s.pulse c u n a).pod m = s.pod m := rfl
@[simp] theorem State.pin_pulse (s : State) (c u n : Nat) (a : Bool) (m : Nat) : (s.pulse c u n a).pin m = s.pin m := rfl
@[simp] theorem State.iu_pulse (s : State) (c u n : Nat) (a : Bool) (m : Nat) : (s.pulse c u n a).iu m = s.iu m := rfl
@[simp] theorem State.wave_pulse (s : State) (c u n : Nat) (a : Bool) (m : Nat) : (s.pulse c u n a).wave m = s.wave m := rfl
@[simp] theorem State.rail_pulse (s : State) (c u n : Nat) (a : Bool) (m : Nat) : (s.pulse c u n a).rail m = s.rail m := rfl
@[simp] theorem State.siteX_pulse (s : State) (c u n : Nat) (a : Bool) (m : Nat) : (s.pulse c u n a).siteX m = s.siteX m := rfl
@[simp] theorem State.die_pulse (s : State) (c u n : Nat) (a : Bool) (m : Nat) : (s.pulse c u n a).die m = s.die m := rfl
@[simp] theorem State.qp_pulse (s : State) (c u n : Nat) (a : Bool) (m : Nat) : (s.pulse c u n a).qp m = s.qp m := rfl
@[simp] theorem State.evr_pulse (s : State) (c u n : Nat) (a : Bool) (m : Nat) : (s.pulse c u n a).evr m = s.evr m := rfl
@[simp] theorem State.strm_pulse (s : State) (c u n : Nat) (a : Bool) (m : Nat) : (s.pulse c u n a).strm m = s.strm m := rfl
@[simp] theorem State.snap_pulse (s : State) (c u n : Nat) (a : Bool) (m : Nat) : (s.pulse c u n a).snap m = s.snap m := rfl
@[simp] theorem State.rd_pulse (s : State) (c u n : Nat) (a : Bool) (g : Fld) (i j : Nat) : (s.pulse c u n a).rd g i j = s.rd g i j := rfl
@[simp] theorem State.pulse_segMem (s : State) (c u n : Nat) (a : Bool) : (s.pulse c u n a).segMem = s.segMem := rfl
@[simp] theorem State.pulse_poolMem (s : State) (c u n : Nat) (a : Bool) : (s.pulse c u n a).poolMem = s.poolMem := rfl
@[simp] theorem State.pulse_capMem (s : State) (c u n : Nat) (a : Bool) : (s.pulse c u n a).capMem = s.capMem := rfl
@[simp] theorem State.pulse_now (s : State) (c u n : Nat) (a : Bool) : (s.pulse c u n a).now = s.now := rfl

@[simp] theorem State.gang_bump (s : State) (f : Fld) (k i j : Nat) (m : Nat) : (s.bump f k i j).gang m = s.gang m := rfl
@[simp] theorem State.pod_bump (s : State) (f : Fld) (k i j : Nat) (m : Nat) : (s.bump f k i j).pod m = s.pod m := rfl
@[simp] theorem State.pin_bump (s : State) (f : Fld) (k i j : Nat) (m : Nat) : (s.bump f k i j).pin m = s.pin m := rfl
@[simp] theorem State.iu_bump (s : State) (f : Fld) (k i j : Nat) (m : Nat) : (s.bump f k i j).iu m = s.iu m := rfl
@[simp] theorem State.wave_bump (s : State) (f : Fld) (k i j : Nat) (m : Nat) : (s.bump f k i j).wave m = s.wave m := rfl
@[simp] theorem State.rail_bump (s : State) (f : Fld) (k i j : Nat) (m : Nat) : (s.bump f k i j).rail m = s.rail m := rfl
@[simp] theorem State.siteX_bump (s : State) (f : Fld) (k i j : Nat) (m : Nat) : (s.bump f k i j).siteX m = s.siteX m := rfl
@[simp] theorem State.die_bump (s : State) (f : Fld) (k i j : Nat) (m : Nat) : (s.bump f k i j).die m = s.die m := rfl
@[simp] theorem State.qp_bump (s : State) (f : Fld) (k i j : Nat) (m : Nat) : (s.bump f k i j).qp m = s.qp m := rfl
@[simp] theorem State.evr_bump (s : State) (f : Fld) (k i j : Nat) (m : Nat) : (s.bump f k i j).evr m = s.evr m := rfl
@[simp] theorem State.strm_bump (s : State) (f : Fld) (k i j : Nat) (m : Nat) : (s.bump f k i j).strm m = s.strm m := rfl
@[simp] theorem State.snap_bump (s : State) (f : Fld) (k i j : Nat) (m : Nat) : (s.bump f k i j).snap m = s.snap m := rfl
@[simp] theorem State.bump_segMem (s : State) (f : Fld) (k i j : Nat) : (s.bump f k i j).segMem = s.segMem := rfl
@[simp] theorem State.bump_poolMem (s : State) (f : Fld) (k i j : Nat) : (s.bump f k i j).poolMem = s.poolMem := rfl
@[simp] theorem State.bump_capMem (s : State) (f : Fld) (k i j : Nat) : (s.bump f k i j).capMem = s.capMem := rfl
@[simp] theorem State.bump_now (s : State) (f : Fld) (k i j : Nat) : (s.bump f k i j).now = s.now := rfl

@[simp] theorem State.gang_setSeg (s : State) (p k : Nat) (x : SegX) (m : Nat) : (s.setSeg p k x).gang m = s.gang m := rfl
@[simp] theorem State.pin_setSeg (s : State) (p k : Nat) (x : SegX) (m : Nat) : (s.setSeg p k x).pin m = s.pin m := rfl
@[simp] theorem State.iu_setSeg (s : State) (p k : Nat) (x : SegX) (m : Nat) : (s.setSeg p k x).iu m = s.iu m := rfl
@[simp] theorem State.wave_setSeg (s : State) (p k : Nat) (x : SegX) (m : Nat) : (s.setSeg p k x).wave m = s.wave m := rfl
@[simp] theorem State.rail_setSeg (s : State) (p k : Nat) (x : SegX) (m : Nat) : (s.setSeg p k x).rail m = s.rail m := rfl
@[simp] theorem State.siteX_setSeg (s : State) (p k : Nat) (x : SegX) (m : Nat) : (s.setSeg p k x).siteX m = s.siteX m := rfl
@[simp] theorem State.die_setSeg (s : State) (p k : Nat) (x : SegX) (m : Nat) : (s.setSeg p k x).die m = s.die m := rfl
@[simp] theorem State.qp_setSeg (s : State) (p k : Nat) (x : SegX) (m : Nat) : (s.setSeg p k x).qp m = s.qp m := rfl
@[simp] theorem State.evr_setSeg (s : State) (p k : Nat) (x : SegX) (m : Nat) : (s.setSeg p k x).evr m = s.evr m := rfl
@[simp] theorem State.strm_setSeg (s : State) (p k : Nat) (x : SegX) (m : Nat) : (s.setSeg p k x).strm m = s.strm m := rfl
@[simp] theorem State.snap_setSeg (s : State) (p k : Nat) (x : SegX) (m : Nat) : (s.setSeg p k x).snap m = s.snap m := rfl
@[simp] theorem State.rd_setSeg (s : State) (p k : Nat) (x : SegX) (g : Fld) (i j : Nat) : (s.setSeg p k x).rd g i j = s.rd g i j := rfl
@[simp] theorem State.setSeg_segMem (s : State) (p k : Nat) (x : SegX) : (s.setSeg p k x).segMem = s.segMem := rfl
@[simp] theorem State.setSeg_poolMem (s : State) (p k : Nat) (x : SegX) : (s.setSeg p k x).poolMem = s.poolMem := rfl
@[simp] theorem State.setSeg_capMem (s : State) (p k : Nat) (x : SegX) : (s.setSeg p k x).capMem = s.capMem := rfl
@[simp] theorem State.setSeg_now (s : State) (p k : Nat) (x : SegX) : (s.setSeg p k x).now = s.now := rfl

@[simp] theorem State.gang_finish (s : State) (q : Nat) (d : Desc) (a b c e : Nat) (m : Nat) : (s.finish q d a b c e).gang m = s.gang m := rfl
@[simp] theorem State.pod_finish (s : State) (q : Nat) (d : Desc) (a b c e : Nat) (m : Nat) : (s.finish q d a b c e).pod m = s.pod m := rfl
@[simp] theorem State.pin_finish (s : State) (q : Nat) (d : Desc) (a b c e : Nat) (m : Nat) : (s.finish q d a b c e).pin m = s.pin m := rfl
@[simp] theorem State.iu_finish (s : State) (q : Nat) (d : Desc) (a b c e : Nat) (m : Nat) : (s.finish q d a b c e).iu m = s.iu m := rfl
@[simp] theorem State.wave_finish (s : State) (q : Nat) (d : Desc) (a b c e : Nat) (m : Nat) : (s.finish q d a b c e).wave m = s.wave m := rfl
@[simp] theorem State.rail_finish (s : State) (q : Nat) (d : Desc) (a b c e : Nat) (m : Nat) : (s.finish q d a b c e).rail m = s.rail m := rfl
@[simp] theorem State.siteX_finish (s : State) (q : Nat) (d : Desc) (a b c e : Nat) (m : Nat) : (s.finish q d a b c e).siteX m = s.siteX m := rfl
@[simp] theorem State.die_finish (s : State) (q : Nat) (d : Desc) (a b c e : Nat) (m : Nat) : (s.finish q d a b c e).die m = s.die m := rfl
@[simp] theorem State.evr_finish (s : State) (q : Nat) (d : Desc) (a b c e : Nat) (m : Nat) : (s.finish q d a b c e).evr m = s.evr m := rfl
@[simp] theorem State.strm_finish (s : State) (q : Nat) (d : Desc) (a b c e : Nat) (m : Nat) : (s.finish q d a b c e).strm m = s.strm m := rfl
@[simp] theorem State.snap_finish (s : State) (q : Nat) (d : Desc) (a b c e : Nat) (m : Nat) : (s.finish q d a b c e).snap m = s.snap m := rfl
@[simp] theorem State.rd_finish (s : State) (q : Nat) (d : Desc) (a b c e : Nat) (g : Fld) (i j : Nat) : (s.finish q d a b c e).rd g i j = s.rd g i j := rfl
@[simp] theorem State.finish_segMem (s : State) (q : Nat) (d : Desc) (a b c e : Nat) : (s.finish q d a b c e).segMem = s.segMem := rfl
@[simp] theorem State.finish_poolMem (s : State) (q : Nat) (d : Desc) (a b c e : Nat) : (s.finish q d a b c e).poolMem = s.poolMem := rfl
@[simp] theorem State.finish_capMem (s : State) (q : Nat) (d : Desc) (a b c e : Nat) : (s.finish q d a b c e).capMem = s.capMem := rfl
@[simp] theorem State.finish_now (s : State) (q : Nat) (d : Desc) (a b c e : Nat) : (s.finish q d a b c e).now = s.now := rfl

@[simp] theorem State.gang_detect (s : State) (a b c : Nat) (m : Nat) : (s.detect a b c).gang m = s.gang m := rfl
@[simp] theorem State.pod_detect (s : State) (a b c : Nat) (m : Nat) : (s.detect a b c).pod m = s.pod m := rfl
@[simp] theorem State.pin_detect (s : State) (a b c : Nat) (m : Nat) : (s.detect a b c).pin m = s.pin m := rfl
@[simp] theorem State.iu_detect (s : State) (a b c : Nat) (m : Nat) : (s.detect a b c).iu m = s.iu m := rfl
@[simp] theorem State.wave_detect (s : State) (a b c : Nat) (m : Nat) : (s.detect a b c).wave m = s.wave m := rfl
@[simp] theorem State.rail_detect (s : State) (a b c : Nat) (m : Nat) : (s.detect a b c).rail m = s.rail m := rfl
@[simp] theorem State.siteX_detect (s : State) (a b c : Nat) (m : Nat) : (s.detect a b c).siteX m = s.siteX m := rfl
@[simp] theorem State.die_detect (s : State) (a b c : Nat) (m : Nat) : (s.detect a b c).die m = s.die m := rfl
@[simp] theorem State.qp_detect (s : State) (a b c : Nat) (m : Nat) : (s.detect a b c).qp m = s.qp m := rfl
@[simp] theorem State.evr_detect (s : State) (a b c : Nat) (m : Nat) : (s.detect a b c).evr m = s.evr m := rfl
@[simp] theorem State.strm_detect (s : State) (a b c : Nat) (m : Nat) : (s.detect a b c).strm m = s.strm m := rfl
@[simp] theorem State.snap_detect (s : State) (a b c : Nat) (m : Nat) : (s.detect a b c).snap m = s.snap m := rfl
@[simp] theorem State.rd_detect (s : State) (a b c : Nat) (g : Fld) (i j : Nat) : (s.detect a b c).rd g i j = s.rd g i j := rfl
@[simp] theorem State.detect_segMem (s : State) (a b c : Nat) : (s.detect a b c).segMem = s.segMem := rfl
@[simp] theorem State.detect_poolMem (s : State) (a b c : Nat) : (s.detect a b c).poolMem = s.poolMem := rfl
@[simp] theorem State.detect_capMem (s : State) (a b c : Nat) : (s.detect a b c).capMem = s.capMem := rfl
@[simp] theorem State.detect_now (s : State) (a b c : Nat) : (s.detect a b c).now = s.now := rfl

/-- No field of another instance changes. -/
theorem State.rd_wr_other (s : State) (f g : Fld) (v i j k l : Nat) (h : k ≠ i ∨ l ≠ j) : (s.wr f v i j).rd g k l = s.rd g k l := by
  refine Store.get_put_ne _ _ (fun e => ?_)
  rcases h with h | h
  · exact h (congrArg FKey.i e)
  · exact h (congrArg FKey.j e)

/-- A fold over instances each of which writes 1 in a field of its own and nothing else of it. -/
theorem fold_sets {f : Fld} {v : Nat} (g : State → Nat → State) (hown : ∀ s p, (g s p).rd f p = v)
    (hoth : ∀ s p q, q ≠ p → (g s p).rd f q = s.rd f q) (l : List Nat) (s : State) :
    (∀ q ∈ l, (l.foldl g s).rd f q = v) ∧ ∀ q, q ∉ l → (l.foldl g s).rd f q = s.rd f q := by
  induction l generalizing s with
  | nil => simp
  | cons a t ih =>
    obtain ⟨h1, h2⟩ := ih (g s a)
    refine ⟨fun q hq => ?_, fun q hq => ?_⟩
    · by_cases hqt : q ∈ t
      · exact h1 q hqt
      · rcases List.mem_cons.1 hq with rfl | hq
        · rw [List.foldl_cons, h2 _ hqt, hown]
        · exact absurd hq hqt
    · simp only [List.mem_cons, not_or] at hq
      rw [List.foldl_cons, h2 _ hq.2, hoth _ _ _ hq.1]

theorem fold_keeps {α β : Type} (g : State → α → State) (obs : State → β) (h : ∀ s a, obs (g s a) = obs s) (l : List α) (s : State) :
    obs (l.foldl g s) = obs s := by
  induction l generalizing s with
  | nil => rfl
  | cons a t ih => rw [List.foldl_cons, ih, h]

theorem Memory.read_length (m : Memory) (a n : Nat) : (m.read a n).length = n := by
  induction n generalizing a with
  | zero => rfl
  | succ n ih => simp [Memory.read, ih]
theorem Memory.read_getD (m : Memory) (a n i : Nat) (h : i < n) : (m.read a n).getD i 0 = (m.byte (a + i)).toNat := by
  induction n generalizing a i with
  | zero => omega
  | succ n ih =>
    cases i with
    | zero => rfl
    | succ i => simp only [Memory.read, List.getD_cons_succ]; rw [ih _ _ (by omega)]; congr 2; omega
theorem Memory.byte_copy (m m2 : Memory) (a b n i : Nat) (h : i < n) : (m.writeBytes a (m2.read b n)).byte (a + i) = m2.byte (b + i) := by
  have hl := Memory.read_length m2 b n
  rw [Memory.byte_writeBytes_in _ _ _ _ (by omega)]
  rw [Memory.read_getD _ _ _ _ h]
  simp

end Sys2Proof.Machine
end

