-- ==== Sys2Proof/Tests/Slice0.lean ====
section
/-! SUPPORT. Tests: the checks of well-formedness refuse ill-formed commands, and for every statement a state and operands that
meet its hypotheses (witness_<statement>). -/

namespace Sys2Proof.Tests

open Sys2Proof Sys2Proof.Machine

/-- The memories and the register store of the reset state are in canonical form. -/
theorem test_reset_canonical : State.reset.canonical = true := by decide

/-! ### Ill-formed commands are refused, one for each check of wellFormed -/

/-- A packet with one header field out of its range. -/
def wideFlit : Flit := { (Flit.link 0 0 false 0 0 []) with seq := 4096 }

theorem test_wf_cids : [Instr.gangStart 0 65536, .stepRunReadyCheck 0 65536, .stepRunCompletion 0 65536, .nopCommand 0 65536, .stepRun 0 65536,
    .refill 0 65536, .snapshot 0 65536, .heldLoadRelease 0 65536].all (fun c => !wellFormed c) = true := by decide
theorem test_wf_numbers : [Instr.barrierRelease 0 0 16, .poolError 0 0 65536, .rawTransition 0 3 0, .rawTransition 0 0 8000,
    .faultDetected [⟨0, 4096, 0⟩], .faultDetected [⟨0, 0, 2 ^ 32⟩], .memberLost 0 (List.replicate 65 (0, 0, true)), .registerWrite 0 0 0 0,
    .registerRead 0 0 65, .streamFeedStop 0 6, .crossingTransfer 0 (.pulses (2 ^ 32) 0)].all (fun c => !wellFormed c) = true := by decide
theorem test_wf_flits : [Instr.lmeas 0 wideFlit 0 0, .nak 0 wideFlit, .routedFlit 0 wideFlit, .idleFlit 0 wideFlit,
    .beacon 0 wideFlit 0 []].all (fun c => !wellFormed c) = true := by decide
theorem test_wf_peers_and_targets : [Instr.trainingDone 0 0 ⟨0, 4, true, 0⟩ 0, .trainingDone 0 0 ⟨2 ^ 64, 0, true, 0⟩ 0,
    .trainingDone 0 0 ⟨0, 0, true, 64⟩ 0,
    .pcieCompletion (.data 0 65536) none, .pcieCompletion (.relay 64 0) none, .pcieCompletion (.relay 0 256) none].all
    (fun c => !wellFormed c) = true := by decide

/-! ### States -/

/-- The reset state with some fields written: field, value, instance. -/
def put (l : List (Fld × Nat × Nat)) : State := l.foldl (fun s e => s.wr e.1 e.2.1 e.2.2) State.reset

/-- Site 0 is pod 0 alone; its engine is in a state and its gang is as given; segment 0 of its pod begins with a word. -/
def gangAt (st : Nat) (g : Gang) (w : Nat) : State :=
  let x : SegX := { st := sgReady, len := 4, kind := 0 }
  let s := put [(F.ENG_STAT_STATE, st, 0)]
  let s := { s with siteMap := [(0, some ⟨[0], [], 0⟩)], segMem := Memory.writeBytes [] (granuleAddr 0 x 0) (toBytes 8 w) }
  (s.setPod 0 { s.pod 0 with segs := [(0, x)], tsets := [(0, some { period := 5, ddr := false, ret := [0, 0, 0, 0], slots := [] })] }).setGang 0 g

/-- Its gang runs, with a thread at the word. -/
def runAt (th : Thread) (w : Nat) : State := gangAt stRun { prep := true, started := true, main := th } w

/-- A word of an opcode with the bits below it. -/
def word (op rest : Nat) : Nat := op * 2 ^ 58 + rest

/-- Whether a fetch gives these words. -/
def gives (f : Fetch) (ws : List (Nat × Nat)) : Bool := match f with | .words l => l == ws | _ => false

theorem words_of_gives {f : Fetch} {ws : List (Nat × Nat)} (h : gives f ws = true) : f = .words ws := by
  cases f <;> simp_all [gives]

theorem ready_run (th : Thread) (w : Nat) (h : ((runAt th w).canDispatch 0 .main && !(runAt th w).on F.ENG_UCTL_COMPAT ((runAt th w).lead 0)
    && gives ((runAt th w).fetch 0 th.pc) [(0, w)] && decide (wordsErr [(0, w)] = none)
    && decide (((runAt th w).gang 0).main = th)) = true) :
    Ready (runAt th w) 0 .main false th [(0, w)] := by
  simp only [Bool.and_eq_true, decide_eq_true_eq, Bool.not_eq_true'] at h
  exact ⟨h.1.1.1.1, h.1.1.1.2, congrArg some h.2, nofun, words_of_gives h.1.1.2, h.1.2⟩

/-- An engine in a user routine, at micro-address 0x400, with registers and the like as given. -/
def routine (x : MicroSt) : Thread := { inRoutine := true, cpu := [(0, { x with active := true, upc := 0x400 })] }

/-- The gang of site 0 runs with a thread, its image holds one micro-op at 0x400. -/
def microAt (th : Thread) (m : Nat) : State :=
  let s := runAt th 0
  s.setPod 0 { s.pod 0 with image := { uops := [m] } }

/-- A micro-op of an opcode with the bits below CL, A, C and E. -/
def uop (op rest : Nat) : Nat := op * 2 ^ 26 + rest

theorem micro_run (th : Thread) (m op : Nat) (h : (decide ((microAt th m).siteOfPod 0 = some 0) && decide (((microAt th m).gang 0).main = th)
    && ((microAt th m).gang 0).prep && (microAt th m).gstate 0 != stSaved && !((microAt th m).gang 0).stopped
    && decide (((microAt th m).gang 0).held = none) && th.inRoutine && (th.micro 0).active && !(th.micro 0).done
    && reached (th.micro 0).ready (microAt th m).now && decide ((microAt th m).microAt 0 (th.micro 0).upc = some m) && decide (uUop m = op)
    && !(microAt th m).pastLimit 0 th && !(th.micro 0).regionErr m && !uE m) = true) :
    MicroReady (microAt th m) 0 .main op 0 th m := by
  simp only [Bool.and_eq_true, decide_eq_true_eq, Bool.not_eq_true', bne_iff_ne] at h
  obtain ⟨⟨⟨⟨⟨⟨⟨⟨⟨⟨⟨⟨⟨⟨a, b⟩, c⟩, d⟩, e⟩, f⟩, g⟩, i⟩, j⟩, k⟩, l⟩, o⟩, q⟩, r⟩, t⟩ := h
  exact ⟨a, congrArg some b, c, d, e, f, g, i, j, k, nofun, l, o, q, r, t⟩

/-- Site 0 runs with a gang, at address 0 of segment 0. -/
def ganged (g : Gang) : State := gangAt stRun { g with prep := true, started := true } 0

theorem witness_StepRunsFrontCommand : State.reset.pending = [] ∧ ({ State.reset with pending := [.mtplock, .tick] } : State).pending = [.mtplock, .tick] ∧
    ({ State.reset with pending := [.mtplock, .tick] } : State).canonical = true := by decide

theorem witness_Frames : (∃ t, exec .mtplock State.reset = .next t) ∧ F.WT_EPOCH_EPOCH.reg ∉ regsOf .mtplock ∧ Part.gangs ∉ partsOf .mtplock :=
  ⟨⟨_, rfl⟩, by decide, by decide⟩

theorem witness_LoopsNest :
    Ready (runAt {} (word opLoop 0)) 0 .main false {} [(0, word opLoop 0)] ∧
    (let th : Thread := { loops := List.replicate 4 ⟨⟨0, 0⟩, 1, 0⟩ }; Ready (runAt th (word opLoop 0)) 0 .main false th [(0, word opLoop 0)]) ∧
    (let th : Thread := { loops := [⟨⟨0, 0⟩, 1, 0⟩] }; Ready (runAt th (word opEndl 0)) 0 .main false th [(0, word opEndl 0)] ∧
      (runAt th (word opEndl 0)).backTarget 0 ⟨0, 0⟩ = .ok ⟨0, 0⟩) ∧
    (let th : Thread := { loops := [⟨⟨1, 0⟩, 1, 0⟩] }; Ready (runAt th (word opEndl 0)) 0 .main false th [(0, word opEndl 0)] ∧
      ∃ x, (runAt th (word opEndl 0)).backTarget 0 ⟨1, 0⟩ = .error x) ∧
    Ready (runAt {} (word opEndl 0)) 0 .main false {} [(0, word opEndl 0)] :=
  ⟨ready_run _ _ (by decide), ready_run _ _ (by decide), ⟨ready_run _ _ (by decide), by decide⟩,
    ⟨ready_run _ _ (by decide), _, rfl⟩, ready_run _ _ (by decide)⟩

theorem witness_CallsAndJumps :
    Ready (runAt {} (word opCall 0)) 0 .main false {} [(0, word opCall 0)] ∧
    (runAt {} (word opCall 0)).target 0 {} ⟨0, 0⟩ (targetOf (word opCall 0)) true = .ok ⟨0, 0⟩ ∧
    (let th : Thread := { calls := List.replicate 16 ⟨0, 0⟩ }; Ready (runAt th (word opCall 0)) 0 .main false th [(0, word opCall 0)]) ∧
    (let th : Thread := { calls := [⟨0, 0⟩] }; Ready (runAt th (word opRet 0)) 0 .main false th [(0, word opRet 0)] ∧
      (runAt th (word opRet 0)).backTarget 0 ⟨0, 0⟩ = .ok ⟨0, 0⟩) ∧
    (let th : Thread := { calls := [⟨0, 0⟩], loops := [⟨⟨0, 0⟩, 1, 1⟩] }; Ready (runAt th (word opRet 0)) 0 .main false th [(0, word opRet 0)]) ∧
    Ready (runAt {} (word opJmp 0)) 0 .main false {} [(0, word opJmp 0)] ∧
    Ready (runAt {} (word opJmp (2 ^ 56))) 0 .main false {} [(0, word opJmp (2 ^ 56))] :=
  ⟨ready_run _ _ (by decide), by decide, ready_run _ _ (by decide), ⟨ready_run _ _ (by decide), by decide⟩, ready_run _ _ (by decide),
    ready_run _ _ (by decide), ready_run _ _ (by decide)⟩

theorem witness_VectorsQueue : Ready (runAt {} (word opVec 0)) 0 .main false {} [(0, word opVec 0)] ∧
    (runAt {} (word opVec 0)).vecErr 0 (vwTset (word opVec 0)) = none ∧ (runAt {} (word opVec 0)).oqRoom 0 .main = true :=
  ⟨ready_run _ _ (by decide), by decide⟩

theorem witness_MatchLoops : Ready (runAt {} (word opMatch (3 * 2 ^ 52 + 2 ^ 32))) 0 .main false {} [(0, word opMatch (3 * 2 ^ 52 + 2 ^ 32))] ∧
    (runAt {} (word opMatch (3 * 2 ^ 52 + 2 ^ 32))).matchTag 0 .main {} 0 3 = some 2 ∧
    (runAt {} (word opMatch (3 * 2 ^ 52 + 2 ^ 32))).matchTarget 0 {} ⟨0, 0⟩ (targetOf (word opMatch (3 * 2 ^ 52 + 2 ^ 32))) = .ok ⟨0, 0⟩ :=
  ⟨ready_run _ _ (by decide), by decide, by decide⟩

theorem witness_ConditionsBranch : Ready (runAt {} (word opJpass 0)) 0 .main false {} [(0, word opJpass 0)] ∧
    (runAt {} (word opJpass 0)).evalCond 0 .main {} 0 0 0 0 = some 0 ∧
    (runAt {} (word opJpass 0)).target 0 {} ⟨0, 0⟩ (targetOf (word opJpass 0)) false = .ok ⟨0, 0⟩ ∧
    Ready (runAt {} (word opJfail 0)) 0 .main false {} [(0, word opJfail 0)] :=
  ⟨ready_run _ _ (by decide), by decide, by decide, ready_run _ _ (by decide)⟩

theorem witness_WordsPost :
    (∀ op ∈ [opSetlvl, opSetload, opCnt, opLogon, opLogoff, opAwg, opLedg, opMeas, opNop], Ready (runAt {} (word op 0)) 0 .main false {} [(0, word op 0)]) ∧
    (runAt {} (word opLedg 0)).roomFor 0 .main 2 :=
  ⟨fun op h => ready_run _ _ (by revert op; decide), ⟨_, rfl⟩⟩

theorem witness_WordsWait :
    (∀ op ∈ [opWaitt, opWaitev, opGsync], Ready (runAt {} (word op 0)) 0 .main false {} [(0, word op 0)]) ∧
    Ready (runAt {} (word opMeas (2 ^ 35))) 0 .main false {} [(0, word opMeas (2 ^ 35))] ∧
    (runAt {} (word opMeas (2 ^ 35))).roomFor 0 .main 1 :=
  ⟨fun op h => ready_run _ _ (by revert op; decide), ready_run _ _ (by decide), ⟨_, rfl⟩⟩

theorem witness_WordsEndAndBegin :
    Ready (runAt {} (word opHalt 0)) 0 .main false {} [(0, word opHalt 0)] ∧
    ((runAt {} (word opHalt 0)).gang 0).atBoundary 0 0 = true ∧ (runAt {} (word opHalt 0)).allDone 0 = true ∧
    Ready (runAt {} (word opPsafe 0)) 0 .main false {} [(0, word opPsafe 0)] ∧
    Ready (runAt {} (word 50 0)) 0 .main false {} [(0, word 50 0)] ∧ factoryOps.contains 50 = false ∧ (runAt {} (word 50 0)).userEntry 0 50 = none :=
  ⟨ready_run _ _ (by decide), by decide, by decide, ready_run _ _ (by decide), ready_run _ _ (by decide), by decide, by decide⟩

theorem witness_MicroRegisters : ∀ op ∈ [0, 1, 2, 3, 4, 5, 6, 7, 8, 9, 0x0A, 0x0B, 0x0C, 0x13],
    MicroReady (microAt (routine {}) (uop op 0)) 0 .main op 0 (routine {}) (uop op 0) :=
  fun _ h => micro_run _ _ _ (by revert h; decide +revert)

theorem witness_MicroSequencing :
    (∀ op ∈ [0x10, 0x11, 0x12, 0x1E], MicroReady (microAt (routine {}) (uop op 0)) 0 .main op 0 (routine {}) (uop op 0)) ∧
    (let th := routine { ustack := List.replicate 8 0x400 }
     ∀ op ∈ [0x11, 0x12], MicroReady (microAt th (uop op 0)) 0 .main op 0 th (uop op 0)) :=
  ⟨fun _ h => micro_run _ _ _ (by revert h; decide +revert), fun _ h => micro_run _ _ _ (by revert h; decide +revert)⟩

theorem witness_MicroStacks :
    (∀ m ∈ [uop 0x15 0, uop 0x15 (2 ^ 19), uop 0x15 (2 ^ 20), uop 0x16 0, uop 0x16 (2 ^ 19), uop 0x17 0, uop 0x17 (2 ^ 19), uop 0x17 (2 ^ 20)],
      MicroReady (microAt (routine {}) m) 0 .main (uUop m) 0 (routine {}) m) ∧
    (let th := { routine {} with loops := List.replicate 4 ⟨⟨0, 0⟩, 0, 0⟩, mctr := some (0, ⟨0, 0⟩) }
     ∀ op ∈ [0x15, 0x17], MicroReady (microAt th (uop op (2 ^ 19))) 0 .main op 0 th (uop op (2 ^ 19))) ∧
    (let th := { routine {} with loops := [⟨⟨0, 0⟩, 1, 16⟩], calls := List.replicate 16 ⟨0, 0⟩, mctr := some (1, ⟨1, 0⟩) }
     ∀ op ∈ [0x16, 0x17], MicroReady (microAt th (uop op (2 ^ 19))) 0 .main op 0 th (uop op (2 ^ 19))) ∧
    (let th := { routine {} with gangOps := [⟨0x1501, 0, 0, 1⟩] }
     MicroReady (microAt th (uop 0x15 (2 ^ 19))) 0 .main 0x15 0 th (uop 0x15 (2 ^ 19))) :=
  ⟨fun _ h => micro_run _ _ _ (by revert h; decide +revert), fun _ h => micro_run _ _ _ (by revert h; decide +revert),
    fun _ h => micro_run _ _ _ (by revert h; decide +revert), micro_run _ _ _ (by decide)⟩

theorem witness_MicroSiteState :
    (∀ op ∈ [0x0D, 0x14, 0x18, 0x1C, 0x1D, 0x1F, 0x20], MicroReady (microAt (routine {}) (uop op 0)) 0 .main op 0 (routine {}) (uop op 0)) ∧
    (microAt (routine {}) (uop 0x18 0)).evalCond 0 .main (routine {}) 0 0 0 0 = some 0 ∧
    (microAt (routine {}) (uop 0x14 0)).vecErr 0 0 = none ∧ (microAt (routine {}) (uop 0x14 0)).oqRoom 0 .main = true ∧
    (microAt (routine {}) (uop 0x1C 0)).roomFor 0 .main 1 ∧ sefxEff 0 0 0 = .ok (.lvl 0) ∧
    ((microAt (routine {}) (uop 0x20 0)).gang 0).atBoundary 0 0 = true ∧ (microAt (routine {}) (uop 0x20 0)).allDone 0 = true :=
  ⟨fun _ h => micro_run _ _ _ (by revert h; decide +revert), by decide, by decide, by decide, ⟨_, rfl⟩, rfl, by decide, by decide⟩

/-- A side effect of the first word, whose boundary was tick 0. -/
def posted (eff : Eff) (region : Option Nat) (ix : Nat) : SebEntry :=
  { seq := 0, ix := ix, region := region, bt := some 0, vp := some 0, eff := eff, go := some 0 }

theorem witness_CommitsTakeEffect :
    (∀ eff ∈ [Eff.lvl 15, .cnt 0 3 0 7, .pflag 3, .fclr true],
      let g := (ganged { seb := [posted eff none 0], seqNext := 1 }).gang 0
      g.held = none ∧ g.seb.find? (fun e => g.canCommit 0 e && !g.ledgWith e) = some (posted eff none 0)) ∧
    (let e := posted (.ledg 0 0 0 0 0 false false true) (some 0) 0
     let f := posted (.fclr true) (some 0) 1
     let s := ganged { seb := [e, f], seqNext := 1 }
     (s.gang 0).seb.find? (fun e => e.eff.isLedg) = some e ∧ (s.gang 0).canCommit 0 e = true ∧
      (s.gang 0).seb.filter (fun h => h == e || h.together e) = [e, f] ∧ s.ledgCommitted < 65408) := by decide

/-- A commit of site 0. -/
def commit (hold : Bool) : LEnt := ⟨0, 0, 0, 0, 0, 0, 0, 0, 0, 0, 0, false, false, false, 0, hold⟩

theorem witness_LedgerEntriesAppear :
    (let s : State := { State.reset with ledgq := [commit true] }
     s.ledgCommitted < 65408 ∧ s.ledgq.find? (fun e => e.hold && e.site == 0) = some (commit true)) ∧
    (let s : State := { put [(F.LEDG_WR_INDEX, 65535, 0)] with ledgq := [commit false] }
     nextVisible s.ledgq = some (commit false) ∧ s.rd F.LEDG_WR_WRAP < 2 ∧ s.rd F.LEDG_WR_INDEX = 65535) := by decide

theorem witness_VectorsLaunchAndResolve :
    (let s := ganged { oq := [⟨0, 0, [(0, 0)], 1, 0⟩], seqNext := 1 }
     let g := (s.gang 0).fix s.now
     g.oq = [⟨0, 0, [(0, 0)], 1, 0⟩] ∧ g.wait = none ∧ g.complete 0 0 = true ∧ g.shadowAllows 0 0 (later g.pinEnd (after s.now 48)) = true ∧
      ahead g.pinEnd (after s.now 48) ≤ 0 ∧ s.gstate 0 = stRun) ∧
    (let f : Flight := ⟨0, 0, 0, some 0, 15 * 2 ^ 28, 0, true, 0⟩
     let s := ganged { flights := [f], seqNext := 1 }
     (s.gang 0).flights.find? (s.flightReady 0) = some f ∧ vwTag f.vw = 15 ∧ vwNofail f.vw = false) := by decide

theorem witness_BranchesResolve :
    (∀ taken : Bool, let c : Ckpt := ⟨0, .cond false 0 0 0 0 ⟨0, 0⟩, taken, ⟨0, 0⟩, {}⟩
     let s := ganged { ckpts := [c], seqNext := 1 }
     (s.gang 0).ckpts = [c] ∧ s.evalCond 0 .main c.alt 0 0 0 0 = some 0 ∧ (s.gang 0).sprout = none) ∧
    (let i : MatchIter := ⟨0, some 0, {}⟩
     let c : Ckpt := ⟨0, .mtch false false 1 0 ⟨0, 0⟩ [i], false, ⟨0, 0⟩, {}⟩
     (ganged { ckpts := [c], seqNext := 1 }).evalCond 0 .main i.th i.seq 1 1 0 = some 2) := by decide

theorem witness_WaitsEnd :
    (∀ w ∈ [(⟨0, .time true 0, 0, false, 0, some 0, some 0, false, 0, {}⟩ : GWait), ⟨0, .event 0 (some 0), 15, false, 0, some 0, some 0, false, 0, {}⟩,
        ⟨0, .barrier 0 (some 0), 15, false, 0, some 0, none, false, 0, {}⟩, ⟨0, .meas 0, 0, false, 0, some 0, some 0, false, 0, {}⟩],
      let g := (ganged { wait := some w, seqNext := 1 }).gang 0
      g.held = none ∧ g.wait = some w ∧ g.mayEnd w = true ∧ w.endAt.all (fun t => reached t 0) = true) ∧
    (let r : StepRun := { qp := 0, cid := 0, entry := 0, rprof := 0, stepNo := 0, startT := 0, sites := [0], checked := true, started := true, ended := [], lastT := 0 }
     let s : State := { ganged { wait := some ⟨0, .barrier 15 (some 0), 0, false, 0, some 0, none, false, 0, {}⟩, seqNext := 1 } with runs := [r] }
     s.runs.find? (fun r => r.qp == 0 && r.cid == 0 && r.started) = some r ∧ s.members r = [0] ∧ (s.gang 0).arrivedAt 15 = some 0) := by decide

theorem witness_StopsAndSteps :
    (let s := ganged {}
     s.siteOfPod 0 = some 0 ∧ s.running 0 = true ∧ (s.gang 0).held = none ∧ (s.gang 0).stopReq = none) ∧
    (let s := ganged { stopReq := some 3 }
     s.running 0 = true ∧ s.stopPoint 0 = some true) ∧
    ((ganged { stopped := true }).gang 0).stopped = true ∧
    (let g := (ganged { brks := [(0, 0)], seqNext := 1 }).gang 0
     g.brks.find? (fun e => e.2 == 0 && g.clearBefore e.1 wordEnd) = some (0, 0)) ∧
    (let th := routine { ready := 100000000 }
     let s : State := { microAt th 0 with now := 100000000 }
     (s.gang 0).prep = true ∧ s.pastLimit 0 (s.gang 0).main = true) := by decide

/-- The segment entries of pod 0. -/
def withSegs (s : State) (l : List (Nat × SegX)) : State := s.setPod 0 { s.pod 0 with segs := l }

/-- Site 0 at the end of its entry 0, which continues at entry 1. -/
def atEnd (next : SegX) (c : Option Cross) : State :=
  withSegs (ganged { main := { pc := ⟨0, 256⟩ }, cross := c, seqNext := 1 })
    [(0, { st := sgActive, len := 4, nextV := true, next := 1 }), (1, next)]

theorem witness_CrossingsAndUnderruns :
    (let s := ganged { main := { pc := ⟨0, 256⟩ } }
     s.atCross 0 = true ∧ s.pastEnd (s.lead 0) (s.gang 0).main.pc = true ∧ (s.gang 0).cross = none ∧ (s.seg 0 0).nextV = false) ∧
    (let s := atEnd { st := sgReady, len := 1, kind := kdWave } none
     s.atCross 0 = true ∧ (s.seg 0 0).nextV = true ∧ (s.seg 0 1).kind = kdWave) ∧
    (atEnd { st := sgReady, len := 1 } none).allReady 0 ⟨1, 0⟩ = true ∧
    (let s := atEnd { st := sgLoading, len := 1 } none
     s.allReady 0 ⟨1, 0⟩ = false ∧ (s.gang 0).clearBefore 1 wordEnd = true) ∧
    (∀ policy < 3, let s := atEnd { st := sgLoading, len := 1, policy := policy } (some ⟨1, some 0, false, none⟩)
     s.urDue 0 ⟨1, some 0, false, none⟩ = true ∧ s.padErr 0 = none ∧ (s.seg (s.lead 0) 1).policy = policy) ∧
    (let s := atEnd { st := sgReady, len := 1 } (some ⟨1, some 0, false, some (3, 0)⟩)
     s.crossAt 0 = some ⟨1, 0⟩ ∧ s.allReady 0 ⟨1, 0⟩ = true) ∧
    reached (after 0 (((put []).rd F.ENG_PM_CTL_STALL_TMO + 1) * 1024)) (after 0 (65536 * 1024)) = true := by decide

theorem witness_SegmentsLoadAndRetire :
    (∀ rem < 2, let s := withSegs (ganged { retire := [(0, 0)], seqNext := 1 }) [(0, { st := sgActive, len := 1, consume := true, rem := rem })]
     s.siteOfPod 0 = some 0 ∧ (s.gang 0).retire.find? (fun e => e.1 == 0) = some (0, 0) ∧ (s.gang 0).clearBefore 0 wordEnd = true ∧
      (s.seg 0 0).consume = true) ∧
    (let s := withSegs (ganged {}) [(63, { st := sgLoading, len := 1, cls := 3 })]
     s.safe = false ∧ (s.seg 0 63).st = sgLoading ∧ s.streamDue 0 = false ∧ s.oldestReload 0 63 = true ∧ s.bestClass 0 = 3 ∧ s.poolBad = []) ∧
    (let s := withSegs (ganged { rewindDue := true }) [(0, { st := sgRetired, len := 1, rewind := true }), (1, { st := sgActive, len := 1 })]
     (s.gang 0).rewindDue = true ∧ (s.seg 0 0).rewind = true ∧ (s.seg 0 1).st = sgActive) := by decide

/-- A step of site 0 at entry 0 from a start tick. -/
def stepOf (startT : Stamp) (checked started : Bool) (ended : List (Nat × Nat)) : StepRun :=
  { qp := 0, cid := 0, entry := 0, rprof := 0, stepNo := 0, startT := startT, sites := [0], checked := checked, started := started, ended := ended, lastT := 0 }

theorem witness_StepsStartAndEnd :
    (let r := stepOf (ticks 3000) false false []
     let s : State := { gangAt stIdle {} 0 with runs := [r] }
     s.run 0 0 = some r ∧ ahead (after r.startT (2 ^ 54 - 2 * tUs)) s.now = 0 ∧ s.runReady r = true ∧ s.overLimit r = 0 ∧ s.overBudget r = false ∧
      s.startable r = [0]) ∧
    (let r := stepOf 0 true false []
     let s : State := { gangAt stArmed { prep := true } 0 with runs := [r] }
     s.run 0 0 = some r ∧ reached r.startT s.now = true ∧ s.preempted 0 = false ∧ s.gstate 0 ≠ stHusk) ∧
    (let r := stepOf 0 true true [(0, 1)]
     let s : State := { gangAt stHalted {} 0 with runs := [r] }
     s.run 0 0 = some r ∧ r.sites.all (fun n => r.ended.any (fun e => e.1 == n)) = true ∧ s.safe = false) ∧
    (let s : State := { gangAt stSaved {} 0 with pwr := { resumes := [(0, 0)] } }
     s.pwr.resumes.find? (fun e => e.1 == 0) = some (0, 0) ∧ s.gstate 0 = stSaved ∧ (s.gang 0).held = none ∧ (s.gang 0).wait = none) := by decide

/-- Stream slot 0 runs on queue pair 0 with a staging ring of four granules; `fed` granules have come. -/
def slotted (fed : Nat) (d : List Desc) (k : SegX) : State :=
  let s := withSegs (put [(F.STRM_CFG_EN, 1, 0), (F.STRM_CFG_STAGE_M1, 3, 0)]) [(0, k)]
  (s.setStrm 0 { s.strm 0 with fed := fed }).setQp 0 { s.qp 0 with fetched := d }

theorem witness_StreamsFeedAndDeliver :
    (let d : Desc := { idx := 0, raw := 8, started := true, accepted := true, total := 1, data := List.replicate 512 0 }
     let s := slotted 0 [d] {}
     s.safe = false ∧ (s.nextFeed 0).map (fun e => (e.1, e.2.idx)) = some (0, 0) ∧ d.data.length = 512) ∧
    (let s := slotted 1 [] { st := sgActive, len := 4, kind := kdStream }
     (s.bound 0).find? (fun e => e.1 == 0) = some (0, 0) ∧ s.streamFree 0 0 = true ∧ 2 ≤ s.bestClass 0) ∧
    (let c : Cross := ⟨0, some 0, true, none⟩
     let s := withSegs (ganged { cross := some c }) [(0, { st := sgActive, len := 4, kind := kdStream, policy := 2 })]
     s.siteOfPod 0 = some 0 ∧ s.urDue 0 c = true ∧ (s.seg (s.lead 0) 0).policy = 2) ∧
    (slotted 0 [] {}).feedStops 0 1 = true ∧
    ((slotted 0 [] {}).bound 0).any (fun e => (slotted 0 [] {}).podRuns e.1) = false ∧
    (let s := withSegs (ganged {}) [(0, { st := sgActive, len := 4, kind := kdStream })]
     (s.bound 0).any (fun e => s.podRuns e.1) = true) :=
  ⟨⟨by decide, by decide, List.length_replicate⟩, by decide⟩

/-- A strobe of pin 0 that wants a code, or a window compare. -/
def strobeOf (edge expect : Nat) : CmpEdge :=
  { t := 0, tc := 0, dropped := false, edge := edge, code := 0, expect := expect, pos := 0, nofail := false, nocap := false, taps := (0, 0), tapsC := (0, 0) }

/-- Pin 0 as given. -/
def pinned (x : PinX) : State := State.reset.setPin 0 x

theorem witness_PinComparesJudge :
    (let e := strobeOf 0 2
     let s := pinned { raw := 2, cmp := [e] }
     reached (s.strobeKnown 0 e) s.now = true ∧ s.filtCmp 0 = false ∧ s.masked 0 e = false ∧ passes e.expect ((s.pin 0).rawAt e.t) (s.pin 0).prev = true) ∧
    (let e := strobeOf 0 2
     let s := pinned { raw := 0, cmp := [e] }
     s.masked 0 e = false ∧ passes e.expect ((s.pin 0).rawAt e.t) (s.pin 0).prev = false) ∧
    (let e := strobeOf 2 2
     let s := pinned { raw := 2, cmp := [e] }
     fineDue e.tc s.now = true ∧ departures (fun v => if e.expect = 4 then v == (s.pin 0).rawAt e.t else passes e.expect v 3)
       (spells e.tc ((s.pin 0).rawAt e.t) e.t (s.pin 0).hist) = []) := by decide

theorem witness_PinWatchFollows :
    reached 0 (State.reset.setPod 0 { settleEnd := some 0 }).now = true ∧
    (∀ old ∈ [3, 1], let s := (put [(F.PIN_WATCH_EN, 1, 0), (F.PIN_WATCH_TARGET, 2, 0), (F.PIN_WATCH_EV_INIT, 1, 0)]).setPin 0 { filter := { decs := [⟨old, 2, 0⟩], st := 2 } }
     ((s.syncPin 0).pin 0).filter.decs = [⟨old, 2, 0⟩] ∧ s.watchHeld 0 0 = false ∧ s.atTarget 0 2 = true ∧ s.atTarget 0 1 = false) ∧
    (let s := (put [(F.PIN_WATCH_EN, 1, 0), (F.PIN_WATCH_EV_MODE, 1, 0)]).setPin 0 { rearm := some 0, reraises := 15 }
     reached 0 s.now = true ∧ s.watchHeld 0 0 = false ∧ (s.pin 0).reraises = 15) ∧
    (let s := pinned { filter := { rate := some 0 } }
     ((s.syncPin 0).pin 0).filter.rate = some 0 ∧ s.on F.PIN_FLAG_RATE 0 = false) := by decide

theorem witness_PinConfigurationWrites :
    (let s := State.reset
     ((s.siteOfPod 0).map (fun n => s.running n || s.gstate n == stArmed)).getD false = false) ∧
    (let s := ganged {}
     ((s.siteOfPod 0).map (fun n => s.running n || s.gstate n == stArmed)).getD false = true) := by decide

theorem witness_ApertureWritesDoNothing :
    let s := put [(F.GLB_ROLE_ANCHOR, 1, 0), (F.RST_STAT_STAGE, 7, 0)]
    (0 : Fin 64).val = s.dev ∧ (0x100000#21).toNat % 4 = 0 ∧ s.anchor = true ∧ s.rd F.RST_STAT_STAGE = 7 ∧ s.power = 0 := by decide

/-- Rail 0 in a state, in site 0 of pod 0. -/
def railed (st : Nat) (x : RailX) : State :=
  let s : State := { put [(F.RAIL_STAT_STATE, st, 0), (F.RAIL_SET_TARGET, 30000, 0)] with siteMap := [(0, some ⟨[0], [0], 0⟩)] }
  s.setRail 0 x

theorem witness_RailsMoveAndWatch :
    (let s := railed rlUp {}
     extCount (s.rd F.WT_EPOCH_EPOCH) s.now % 3000 = 0 ∧ reached (s.rail 0).reach s.now = true ∧ s.railSt 0 = rlUp) ∧
    (let s : State := { railed rlUp {} with now := after 0 tMs }
     reached (after (s.rail 0).reach tMs) s.now = true ∧ (s.rail 0).regT = none ∧ (s.rail 0).wait = none) ∧
    (railed rlLimit { fromSt := rlReg }).railSt 0 = rlLimit ∧
    (let s := railed rlDown { toOff := true }
     s.railSt 0 = rlDown ∧ (s.rail 0).toOff = true ∧ reached (s.rail 0).reach s.now = true) ∧
    (let w : RailWait := ⟨20000, 1, 0, true, some 0⟩
     (railed rlOff { wait := some w }).rail 0 = { wait := some w }) ∧
    (let s := railed rlReg { v := 1, i := 1 }
     ∀ mon : Fin 2, s.monState 0 mon ≠ 2 ∧ s.monDecides 0 mon = true) ∧
    (let s := railed rlOff {}
     s.siteOfRail 0 = some 0 ∧ s.railBusy 0 = false ∧ s.safe = false ∧ s.rd F.RAIL_SET_TARGET 0 ≠ 0) ∧
    (put [(F.FLT_SAFE_ACTIVE, 1, 0)]).safe = true ∧ State.reset.railBusy 0 = true := by decide

theorem witness_TripPathAndFences :
    (let s := (put [(F.SITE_FSTAT_ARMED, 1, 0), (F.RAIL_MON_VTRIP_HI, 1, 0), (F.RAIL_STAT_STATE, rlReg, 0)]).setRail 0 { v := 2 }
     let s : State := { s with siteMap := [(0, some ⟨[0], [0], 0⟩)] }
     s.on F.SITE_FSTAT_HUSK 0 = false ∧ s.on F.SITE_FSTAT_ARMED 0 = true ∧ s.tripSources 0 ≠ [] ∧ (s.site 0).isSome = true) ∧
    (let s := put [(F.GLB_UNITS_PD_OK, 15, 0)]
     ∀ die : DieId, s.dieOk die = true) ∧
    (let s : State := { put [(F.GLB_UNITS_PD_OK, 15, 0), (F.SITE_FSTAT_HUSK, 1, 0)] with siteMap := [(0, some ⟨[0], [], 0⟩)] }
     s.unfenceBad 0 = false) ∧
    State.reset.unfenceBad 0 = true := by decide

/-- Unit 0 as given. -/
def unitAt (x : IuX) : State := State.reset.setIu 0 x

theorem witness_IntervalUnitsMeasure :
    (let s : State := { State.reset with iuq := [⟨0, 0, 0, 0, 0, 0⟩], iuSetup := [(0, some {})] }
     (List.range 64).find? s.iuFree = some 0 ∧ s.iuUsable (some 0) 0 = true) ∧
    (let s : State := { State.reset with iuq := [⟨0, 0, 0, 0, 0, 0⟩] }
     s.iuUsable (some 0) 0 = false) ∧
    (let s := unitAt { busy := true, starts := [0], stops := [0] }
     (s.iu 0).attempting = true ∧ (s.iu 0).attempt.map (·.sample) = some 0 ∧ ahead (tickOf 0) (s.iu 0).limit ≤ 0) ∧
    (let s := unitAt { busy := true, e := { mode := 3 }, anchor := some 0, starts := [0] }
     (s.iu 0).attempting = true ∧ (s.iu 0).attempt.map (·.sample) = some 0 ∧ (s.iu 0).starts[(s.iu 0).e.cycM1]? = some 0) ∧
    (let s : State := { unitAt { busy := true } with now := after 0 (2 ^ 40) }
     (s.iu 0).attempt.isNone = true ∧ reached (s.iu 0).limit s.now = true) ∧
    (unitAt { busy := true, done := 1 }).iu 0 = { busy := true, done := 1 } ∧
    (let s : State := { put [(F.IU_CTL_RSV, 1, 0)] with iuSetup := [(0, some {})] }
     s.safe = false ∧ s.rd F.IU_STAT_STATE 0 ≠ 1 ∧ s.iuUsable none (s.rd F.IU_CTL_SETUP 0) = true) := by decide

theorem witness_CalibrationAndEyes :
    (let s := put [(F.POD_TIM_CTL_RECAL_AUTO, 1, 0), (F.GLB_UNITS_PD_OK, 15, 0), (F.THM_T_TEMP, 400, 1)]
     movedBy (s.die 0).recalTemp (s.dieTemp 0) (s.rd F.POD_TIM_CTL_RECAL_DT 0) = true ∧ (s.die 0).recalEnd = none ∧ s.dieRuns 0 = false ∧
      s.runAhead 0 (14 * tUs) = false) ∧
    (let s := put [(F.IU_CAL_AUTO, 1, 0), (F.GLB_UNITS_PD_OK, 15, 0), (F.THM_T_TEMP, 400, 1)]
     movedBy (s.die 0).calTemp (s.dieTemp 0) (s.rd F.IU_CAL_DT) = true ∧ hasBit (s.rd F.IU_CALST_CBUSY) 0 = false ∧ s.calOk 0 = true) ∧
    (let s := ganged {}
     s.dieRuns 0 = true ∧ s.calOk 0 = false ∧ s.podRuns 0 = true) ∧
    reached 0 (State.reset.setDie 0 { calEnd := some 0 }).now = true ∧ State.reset.podRuns 0 = false ∧
    State.reset.on F.POD_TIM_STAT_EYE_BUSY 0 = false := by decide

theorem witness_ParametricUnitsMeasure :
    (∀ ph ∈ [1, 2, 3, 4], let s := pinned { pmu := { phase := ph } }
     (s.pin 0).pmu.phase = ph ∧ reached (s.pin 0).pmu.until_ s.now = true) ∧
    (let s : State := { pinned { pmu := { phase := 3 } } with now := after 0 (2 ^ 30) }
     reached (after 0 (convTicks ((s.pmuEntry 0).getD {}).conv)) s.now = true) ∧
    (let s : State := { pinned { pmu := { phase := 3 } } with now := after 0 (2 ^ 30), pmuSetup := [(0, some { trig := 1 })] }
     ((s.pmuEntry 0).getD {}).trig = 1 ∧ reached (after 0 ((((s.pmuEntry 0).getD {}).tmo + 1) * 64)) s.now = true) ∧
    (let s : State := { put [(F.PIN_CFG_USE, 1, 0)] with pmuSetup := [(0, some {})] }
     s.safe = false ∧ (s.podRuns 0 || s.pmuBusy 0) = false ∧ s.pmuEntry (s.rd F.PIN_PMU_CTL_SETUP 0) = some {}) ∧
    (pinned { pmu := { phase := 5, reg := true } }).pmuBusy 0 = false ∧ (ganged {}).podRuns 0 = true := by decide

/-- Output 0 in a state, with pod 0 its host. -/
def waved (st : Nat) (x : WaveX) : State := (put [(F.AWG_CFG_HOSTV, 1, 0), (F.AWG_STAT_STATE, st, 0), (F.GLB_UNITS_PD_OK, 15, 0)]).setWave 0 x

theorem witness_WaveformOutputsPlay :
    (let s := waved wvIdle {}
     s.safe = false ∧ s.hostOk 0 = true ∧ s.wavePlays 0 = false ∧ s.slotNow 0 = true ∧ s.lastSlot 0 = false ∧ s.waveSt 0 = wvIdle) ∧
    State.reset.hostOk 0 = false ∧
    (let s := waved wvPlay { next := 1, wait := true }
     s.slotNow 0 = false ∧ s.waveSt 0 = wvPlay ∧ (s.wave 0).wait = true ∧ s.lastCmd 0 = false ∧
     s.waveNext (s.rd F.AWG_CFG_HOST 0) (s.wave 0).pc = none) ∧
    (let s := waved wvArmed { arm := some (0, 1, ⟨0, 0⟩), fireT := some 0 }
     let u := (s.awgDo 0).raiseMarks
     (u.wave 0).arm = some (0, 1, ⟨0, 0⟩) ∧ (u.wave 0).fireT = some 0 ∧ reached 0 u.now = true ∧ u.waveSt 0 ≠ wvMuting) ∧
    (∀ policy ∈ [0, 2], let s := withSegs (waved wvPlay { wait := true }) [(0, { st := sgActive, len := 4, kind := kdStream, policy := policy })]
     s.waveNext 0 (s.wave 0).pc = some ⟨0, 0⟩ ∧ (s.wave 0).pad = false ∧ s.waveReady 0 = false ∧ (s.seg 0 0).policy = policy) ∧
    (let s := waved wvMuting { unmuteAt := some 0, back := 1 }
     (s.wave 0).unmuteAt = some 0 ∧ reached 0 s.now = true ∧ s.slotNow 0 = true ∧ (s.wave 0).back ≤ 3) ∧
    (let s : State := put [(F.FLT_SAFE_ACTIVE, 1, 0), (F.AWG_STAT_STATE, wvPlay, 0)]
     s.waveFault 0 = true ∧ s.waveSt 0 ≠ wvIdle) := by decide

/-- Pod 0 with one unit of 4,096 octets as its partition, its fields as given. -/
def ringed (l : List (Fld × Nat × Nat)) (x : PodX) : State := (put ((F.CAP_PART_SIZE, 1, 0) :: l)).setPod 0 x

/-- The partitions of the reset state are 256 blocks of 16 units, none over another. -/
theorem witness_ApplyAccepted : State.reset.partOk = true := by
  have h : (List.range 256).map (fun p => (State.reset.rd F.CAP_PNEXT_BASE p, State.reset.rd F.CAP_PNEXT_SIZE p)) =
      (List.range 256).map (fun p => (16 * p, 16)) := by decide +kernel
  have f : ((List.range 256).map (fun p => (16 * p, 16))).filter (fun e => e.2 != 0) = (List.range 256).map (fun p => (16 * p, 16)) := by simp
  have r : (!State.reset.anyRuns && !State.reset.anyUpload) = true := by decide
  simp only [State.partOk, h, f, r, Bool.true_and, Bool.and_eq_true, List.all_eq_true, List.mem_range, List.length_map, List.length_range,
    decide_eq_true_eq]
  refine ⟨?_, fun i hi j hj => ?_⟩
  · simp; omega
  · simp [List.getD, hi, Nat.lt_trans hj hi]; omega

theorem witness_CaptureRingsAndLedger :
    (let s := ringed [] { failq := [⟨1, 0, 0, [1, 2], 0, 0⟩] }
     s.ringSize 0 ≤ 2 ^ 24 ∧ s.rd F.CAP_WR_OFFSET 0 < s.ringSize 0 ∧ s.nextWords 0 = some ([1, 2], false) ∧ s.recFits 0 16 = true ∧ (s.pod 0).losses = []) ∧
    (let s := ringed [] { efifo := [⟨0, 0, false, 2 ^ 60, 0, 0⟩] }
     (s.nextWords 0).map (·.2) = some true) ∧
    (let s := ringed [] { losses := [⟨1, 1, 1, 0, 0⟩] }
     s.podRuns 0 = false ∧ s.rd F.CAP_PART_SIZE 0 ≠ 0 ∧ 24 ≤ s.capFree 0) ∧
    (let s := (put [(F.CAP_PART_SIZE, 0, 0)]).setPod 0 { failq := [⟨1, 0, 0, [1, 2], 0, 0⟩] }
     s.nextWords 0 = some ([1, 2], false) ∧ s.recFits 0 16 = false) ∧
    (let s := ringed [(F.CAP_PART_SIZE, 2, 0), (F.CAP_THR_THR, 1, 0), (F.CAP_WR_OFFSET, 4096, 0)] {}
     s.capAbove 0 = true ∧ (s.pod 0).above = false) ∧
    (put [(F.CAP_PNEXT_SIZE, 4095, 0), (F.CAP_PNEXT_BASE, 2, 0)]).partOk = false ∧
    (ganged {}).podRuns 0 = true ∧
    (let s := ringed [(F.CAP_WR_OFFSET, 8, 0)] {}
     s.capPending 0 = false ∧ s.rd F.CAP_RD_WRAP 0 = 0 ∧ s.rd F.CAP_RD_OFFSET 0 ≤ 8 ∧ 8 < s.ringSize 0 ∧ 8 ≤ s.capFill 0) ∧
    (State.reset.setQp 0 { fetched := [{ idx := 0, raw := 9, started := true }] }).capPending 0 = true ∧
    (State.reset.setQp 0 { fetched := [{ idx := 0, raw := 10, started := true }] }).drainPending = true ∧ State.reset.drainPending = false ∧
    (let s := put [(F.LEDG_CFG_THRESH, 1, 0), (F.LEDG_WR_INDEX, 256, 0)]
     s.ledgOver = true ∧ s.ledgAbove = false) := by decide +kernel

/-- A state at a time. -/
def atTime (l : List (Fld × Nat × Nat)) (t : Stamp) : State := { put l with now := t }

theorem witness_TimePasses :
    (let s := put [(F.RST_STAT_STAGE, 7, 0)]
     s.rd F.RST_STAT_STAGE ≠ 0 ∧ s.xwait = []) ∧
    (∀ due ∈ [true, false], ({ State.reset with time := { wrapDue := due } } : State).time.wrapDue = due) ∧
    (let s : State := { atTime [(F.WT_XTAL_TCOMP_EN, 1, 0)] (after 0 tMs) with time := { tcompT := some 0 } }
     s.on F.WT_XTAL_TCOMP_EN = true ∧ 0 ≤ ahead s.now (after 0 tMs)) ∧
    (let s : State := (atTime [(F.GLB_UNITS_PD_OK, 15, 0)] (after 0 tMs)).setDie 0 { compT := some 0 }
     ∀ k : DieId, s.dieOk k = true) ∧
    (let s := atTime [(F.WT_CTL_REF_SEL, 1, 0), (F.WT_STAT_REF_OK, 1, 0)] (after 0 (10 * tMs))
     s.refSel = true ∧ s.on F.WT_STAT_REF_OK = true ∧ 0 ≤ ahead s.now (after s.time.refT (10 * tMs))) := by decide

theorem witness_WaferTimeFollowsItsMaster :
    (put [(F.GLB_ROLE_ANCHOR, 1, 0)]).anchor = true ∧ State.reset.anchor = false ∧
    (let s : State := { atTime [(F.GLB_ROLE_TMASTER, 1, 0)] (after 0 1536) with time := { sent := some 0 } }
     s.tmaster = true ∧ s.power ≠ 4 ∧ 0 ≤ ahead s.now (after 0 1536)) ∧
    (let s := put [(F.FAB_PSTAT_STATE, ptUp, 0), (F.FAB_PSTAT_LATV, 1, 0), (F.FAB_STAT_UPV, 1, 0)]
     let f := Flit.link tyBeacon 0 false 0 0 (beaconBytes 0 0 0 0 14 0)
     s.portSt 0 = ptUp ∧ s.power ≠ 4 ∧ f.crcOk = true ∧ s.tmaster = false ∧ f.field 18 1 % 64 = s.rd F.WT_STAT_MASTER ∧
     bits (f.field 19 1) 3 0 ≤ 14 ∧ s.beaconPort 0 = true ∧ s.on F.FAB_STAT_UPV = true ∧ s.rd F.FAB_STAT_UPPORT = 0) ∧
    (let s := atTime [(F.WT_STAT_SYNC, syLocked, 0)] (after 0 24576)
     s.rd F.WT_STAT_SYNC = syLocked ∧ 0 ≤ ahead s.now (after s.time.lastValid 24576)) ∧
    (let s := atTime [(F.WT_STAT_SYNC, syHold, 0)] (after 0 tMs)
     s.rd F.WT_STAT_SYNC = syHold ∧ 0 ≤ ahead s.now (after s.time.syncT tMs)) ∧
    (let s := put [(F.WT_STAT_SYNC, syLocked, 0), (F.WT_OFFSET_OFFSET, 193, 0)]
     s.rd F.WT_STAT_SYNC = syLocked ∧ 192 < (signed 32 (s.rd F.WT_OFFSET_OFFSET)).natAbs) ∧
    (let s : State := (atTime [(F.FAB_STAT_UPV, 1, 0), (F.FAB_PSTAT_STATE, ptUp, 1), (F.FAB_PSTAT_LATV, 1, 1)] (after 0 6144)).setPort 1 { bhops := some 1, bT := after 0 6144 }
     s.on F.FAB_STAT_UPV = true ∧ 0 ≤ ahead s.now (after (s.port (s.rd F.FAB_STAT_UPPORT)).bT 6144) ∧ s.bestPort = some 1) := by decide

theorem witness_WatermarksAndSnapshots :
    (let s := atTime [(F.WT_WM_EN, 1, 0), (F.EVR_CFG_EN, 1, 0)] (after 0 15000)
     s.on F.WT_WM_EN = true ∧ s.power ≠ 4 ∧ 0 ≤ ahead s.now (after s.wm.last (max 4 (s.rd F.WT_WM_PERIOD) * 1500)) ∧ s.on F.EVR_CFG_EN 0 = true) ∧
    State.reset.on F.WT_SNAP_CTL_ARM 0 = false ∧
    (let s := (put [(F.WT_SNAP_CTL_ARM, 1, 0)]).setSnap 0 { at_ := some 1 }
     s.on F.WT_SNAP_CTL_ARM 0 = true ∧ (s.snap 0).at_ ≠ some s.now) ∧
    (let d : Desc := { idx := 0, raw := 11, started := true }
     let s := ((put [(F.WT_SNAP_CTL_ARM, 1, 0)]).setSnap 0 { at_ := some 0, desc := some (0, 0) }).setQp 0 { fetched := [d] }
     s.on F.WT_SNAP_CTL_ARM 0 = true ∧ (s.snap 0).at_ = some 0 ∧ reached 0 s.now = true ∧ (s.snap 0).desc = some (0, 0) ∧
     (s.qp 0).fetched.find? (fun d => d.idx == 0) = some d) := by decide

theorem witness_RingsMoveDescriptorsAndRecords :
    (let s : State := { put [(F.GLB_ROLE_ANCHOR, 1, 0), (F.RST_STAT_STAGE, 7, 0)] with rst := { seen := 0 } }
     s.anchor = true ∧ s.dev = 0 ∧ s.bellsOpen = true ∧ 15 < s.sqSize 0 ∧ s.sqSize 0 ≤ 16 ∧
     onPath 0 (s.qp 0).cqHead (s.rd F.QP_HEAD_CQ_TAIL 0) (s.cqSize 0) = true ∧ onPath 1 (s.qp 0).cqHead (s.rd F.QP_HEAD_CQ_TAIL 0) (s.cqSize 0) = false ∧
     onPath 0 (s.evr 0).head (s.rd F.EVR_TAIL_TAIL 0) (s.evrSize 0) = true ∧ onPath 1 (s.evr 0).head (s.rd F.EVR_TAIL_TAIL 0) (s.evrSize 0) = false) ∧
    (let s := put [(F.RST_STAT_STAGE, 7, 0), (F.QP_STAT_STATE, qsRun, 0), (F.QP_STAT_DBTAIL, 1, 0)]
     s.fetchTurn = some 0 ∧ s.fetchOpen = true ∧ (s.translate 0 0 false []).1 = .bad caNoasid) ∧
    (let s := (put [(F.MMU_ROOT_LO_V, 1, 0), (F.MMU_ROOT_LO_BYPASS, 1, 0)]).setQp 0 { cplq := [⟨0, 0, 0, false, 0, 0, 0, 0, 0⟩] }
     (s.qp 0).cplq ≠ [] ∧ s.hostOpen = true ∧ (s.qp 0).cqFault = false ∧
     (s.translate (s.rd F.QP_CFG_ASID 0) ((s.cqBase 0 + 32 * s.rd F.QP_HEAD_CQ_TAIL 0) % 2 ^ 64) true []).1 = .ok 0) ∧
    (let h : EvRec := ⟨0, 0, 0, 0, 0, [], some 0⟩
     let s : State := { put [(F.MMU_ROOT_LO_V, 1, 0), (F.MMU_ROOT_LO_BYPASS, 1, 0), (F.EVR_CFG_EN, 1, 0)] with evq := [h] }
     s.evq.find? (fun r => r.ring == some 0) = some h ∧ s.evrFree 0 = true ∧ (s.evr 0).lost = none ∧ (s.evr 0).kept = [] ∧
     (s.translate (s.rd F.EVR_CFG_ASID 0) ((s.evrBase 0 + 64 * s.rd F.EVR_TAIL_TAIL 0) % 2 ^ 64) true []).1 = .ok 0 ∧
     ((s.setEvr 0 { lost := some (1, 0, 0) }).evr 0).lost = some (1, 0, 0) ∧ (s.setEvr 0 { lost := some (1, 0, 0) }).evrFree 0 = true) ∧
    State.reset.evrFree 0 = false ∧ (State.reset.evr 0).kept.length < 256 := by decide

theorem witness_QueuePairsAreSetUpAndDrain :
    (∀ mask : Fin 2, let s := (put [(F.QP_IRQ_IEN, 1, 0), (F.QP_IRQ_TIME, 1, 0), (F.GLB_ROLE_ANCHOR, 1, 0), (F.MSIX_CTL_MASK, mask, 0)]).setQp 0 { pend := 1 }
     (s.irqOf (.qp 0)).2.2.1 = true ∧ s.hostOpen = true ∧ max 1 (s.irqOf (.qp 0)).2.2.2.2.1 ≤ (s.irqOf (.qp 0)).1 ∧ s.anchor = true ∧
     s.rd F.MSIX_CTL_MASK (s.irqOf (.qp 0)).2.2.2.1 = mask) ∧
    (let s : State := { (put [(F.QP_IRQ_IEN, 1, 0), (F.QP_IRQ_TIME, 1, 0)]).setQp 0 { pend := 1 } with now := after 0 tUs }
     0 < (s.irqOf (.qp 0)).1 ∧ 0 < (s.irqOf (.qp 0)).2.2.2.2.2 ∧
     reached (after (s.irqOf (.qp 0)).2.1 ((s.irqOf (.qp 0)).2.2.2.2.2 * tUs)) s.now = true) ∧
    (State.reset.qpState 0 = qsDisabled ∧ State.reset.on F.QP_CFG_EN 0 = false) ∧
    (let s := put [(F.QP_STAT_STATE, qsRun, 0), (F.QP_CFG_EN, 1, 0)]
     s.qpState 0 = qsRun ∧ s.on F.QP_CFG_EN 0 = true) ∧
    (let s := put [(F.QP_STAT_STATE, qsDraining, 0)]
     s.qpState 0 = qsDraining ∧ s.inFlight 0 = 0 ∧ (s.qp 0).fetching = false ∧ s.openOf 0 = [] ∧ s.mmuq = []) ∧
    (∀ en : Fin 2, let s := put [(F.EVR_CFG_EN, en, 0)]
     s.rd F.EVR_CFG_ASID 0 < 256 ∧ s.rd F.EVR_CFG_SZ 0 < 16 ∧ s.rd F.EVR_CFG_EN 0 = en) := by decide

/-- Slot 0 of the fault log is open with generation 1, for a descriptor of queue pair 0. -/
def logged (origin : Nat) (l : List (Fld × Nat × Nat)) : State :=
  (put ([(F.MMU_FLOG0_STATE, flOpen, 0), (F.MMU_FLOG0_GEN, 1, 0), (F.MMU_FLOG0_ORIGIN, origin, 0)] ++ l)).setQp 0
    { fetched := [{ idx := 0, raw := 3, started := true, faulted := true }] }

theorem witness_TranslationFaultsAndPreemption :
    (let m : MFault := ⟨0, 0, 0, 0, 3, 0, 0, false, 1, 0, false, 0⟩
     let s : State := { logged 0 [] with mmuq := [m] }
     s.nextSlot = some 1 ∧ (s.qp 0).fetched.find? (fun d => d.idx == m.idx) = some { idx := 0, raw := 3, started := true, faulted := true }) ∧
    (put [(F.MMU_INV_BUSY, 1, 0)]).on F.MMU_INV_BUSY = true ∧ State.reset.on F.MMU_INV_BUSY = false ∧
    State.reset.qps.all (fun e => !(e.2.fetching && e.2.stale) && e.2.fetched.all (fun d => d.reading == 0 || !d.stale)) = true ∧
    (logged 0 []).slotNamed 0 2 = false ∧
    (∀ o ∈ [0, 1, 2, 3, 4], let s := logged o []
     s.slotNamed 0 1 = true ∧ s.rd F.MMU_FLOG0_ORIGIN 0 = o ∧ s.slotDesc 0 = some { idx := 0, raw := 3, started := true, faulted := true } ∧
     (s.translate 0 0 false []).1 = .bad caNoasid) ∧
    ((logged 0 [(F.MMU_ROOT_LO_V, 1, 0), (F.MMU_ROOT_LO_BYPASS, 1, 0)]).translate 0 0 false []).1 = .ok 0 ∧
    (let s : State := { logged 0 [(F.MMU_CFG_FTMO, 1, 0)] with now := after 0 tMs }
     s.slotOpen 0 = true ∧ s.rd F.MMU_CFG_FTMO ≠ 0 ∧
     reached (after (BitVec.ofNat 64 (join (s.rd F.MMU_FLOG4_STAMP_LO 0) (s.rd F.MMU_FLOG5_STAMP_HI 0))) (s.rd F.MMU_CFG_FTMO * tMs)) s.now = true) ∧
    (let s := put [(F.QP_STAT_STATE, qsRun, 0)]
     s.qpState 0 = qsRun ∧ s.preempted 0 = false) ∧
    State.reset.qpState 0 ≠ qsRun ∧
    (let s : State := { gangAt stSaved {} 0 with runs := [⟨0, 0, 0, 0, 0, 0, [0], true, true, [], 0, none⟩] }
     let s := (s.wr F.PRE_PEND_LO_PEND_LO 1)
     s.preempted 0 = true ∧ s.on F.QP_STAT_PRE 0 = false ∧ (s.qp 0).fetched = [] ∧ s.sitesOfQp 0 = [0] ∧ s.gstate 0 = stSaved) := by decide

/-- Queue pair 0 of the anchor runs with one descriptor, of an address space that passes addresses through. -/
def loading (d : Desc) (s : State := put []) : State :=
  ([(F.QP_STAT_STATE, qsRun, 0), (F.GLB_ROLE_ANCHOR, 1, 0), (F.MMU_ROOT_LO_V, 1, 0), (F.MMU_ROOT_LO_BYPASS, 1, 0)].foldl
    (fun s e => s.wr e.1 e.2.1 e.2.2) s).setQp 0 { fetched := [d] }

/-- A started descriptor: its opcode and the rest of its bits, how many octets of how many have moved. -/
def descOf (opc rest moved total : Nat) (data : List Nat := []) : Desc :=
  { idx := 0, raw := opc + rest, started := true, accepted := decide (0 < total), moved := moved, total := total, data := data }

theorem started_of {s : State} {opc : Nat} {d : Desc} (h : (decide (s.start 0 0 opc = some (d, s)) && !d.accepted && !d.held) = true) :
    Starts s 0 0 opc d s := by
  simp only [Bool.and_eq_true, decide_eq_true_eq, Bool.not_eq_true'] at h
  exact ⟨h.1.1, h.1.2, h.2⟩

theorem under_way_of {s : State} {opc : Nat} {d : Desc} (h : (decide (s.desc 0 0 = some d) && d.opc == opc && d.started && d.accepted && !d.held) = true) :
    UnderWay s 0 0 opc d := by
  simp only [Bool.and_eq_true, decide_eq_true_eq, beq_iff_eq, Bool.not_eq_true'] at h
  exact ⟨h.1.1.1.1, h.1.1.1.2, h.1.1.2, h.1.2, h.2⟩

/-- The bit of pod 0 in a descriptor's pods. -/
def pod0 : Nat := 2 ^ 192

theorem witness_LoadsStart :
    (let d := descOf 3 0 0 0
     Starts (loading d) 0 0 3 d (loading d) ∧ tblCheck (loading d) d ≠ 0) ∧
    (let d := descOf 3 (2 ^ 64 + pod0) 0 0
     let s := loading d (ganged {})
     Starts s 0 0 3 d s ∧ tblCheck s d = 0 ∧ s.blockedBy d = true ∧ (loading d).blockedBy d = false) ∧
    (let d := descOf 4 pod0 0 0
     let s := loading d
     Starts s 0 0 4 d s ∧ s.blockedBy d = false ∧ s.segBars d (d.f 8 5 0) = true ∧
     (withSegs s [(0, { st := sgReady, len := 1 })]).segBars d (d.f 8 5 0) = false) :=
  ⟨⟨started_of (by decide), by decide⟩, ⟨started_of (by decide), by decide⟩, ⟨started_of (by decide), by decide⟩⟩

theorem witness_LoadsEnd :
    (let d := descOf 3 (2 ^ 64 + pod0) 0 128
     let s := loading d
     UnderWay s 0 0 3 d ∧ s.chunkReady 0 d = true ∧ s.chunkTurn = some 0 ∧ s.hostOpen = true ∧ s.ringsBusy = false ∧ s.anchor = true ∧
     (s.translate (s.rd F.QP_CFG_ASID 0) d.at_ false []).1 = .ok 0) ∧
    (∀ ty ∈ [1, 2, 4], let d := descOf 3 (ty * 2 ^ 64 + pod0) 128 128 (List.replicate 128 0)
     let s := loading d
     UnderWay s 0 0 3 d ∧ d.pods = [0] ∧ s.blockedBy d = false ∧ s.tableWhy d.ty 0 (d.f 8 24 16) (d.entries 0) = 0) ∧
    (let d := descOf 3 (2 ^ 64 + pod0) 128 128 (List.replicate 128 255)
     let s := loading d
     UnderWay s 0 0 3 d ∧ s.tableWhy d.ty 0 (d.f 8 24 16) (d.entries 0) ≠ 0) ∧
    (∀ e ∈ [(5, List.replicate 16 0), (7, List.replicate 32 0)], let d := descOf 3 (e.1 * 2 ^ 64) 128 128 e.2
     let s := loading d
     UnderWay s 0 0 3 d ∧ s.blockedBy d = false ∧ tblPods d.ty = false ∧ s.sharedWhy d.ty (d.f 8 24 16) (d.entries 0) = 0) ∧
    (let d := descOf 3 (6 * 2 ^ 64) 128 128 (List.replicate 32 255)
     let s := loading d
     UnderWay s 0 0 3 d ∧ s.sharedWhy d.ty (d.f 8 24 16) (d.entries 0) ≠ 0) ∧
    (let d := descOf 4 pod0 512 512 (List.replicate 512 0)
     let s := withSegs (loading d) [(0, { st := sgLoading, len := 1, lbase := 255 })]
     UnderWay s 0 0 4 d ∧ d.pods = [0] ∧ (s.seg 0 (d.f 8 5 0)).lbase + (s.seg 0 (d.f 8 5 0)).len ≤ 256 ∧
     s.segDataAt d 0 + 512 * (s.seg 0 (d.f 8 5 0)).len ≤ d.data.length) ∧
    (let d : Desc := { descOf 3 0 0 0 with held := true }
     let s := loading d
     s.desc 0 0 = some d ∧ s.blockedBy d = false ∧ s.preempted 0 = false ∧ d.steward = false) :=
  ⟨⟨under_way_of (by decide), by decide +kernel⟩, by
    intro ty h
    simp only [List.mem_cons, List.not_mem_nil, or_false] at h
    rcases h with rfl | rfl | rfl <;> exact ⟨under_way_of (by decide +kernel), by decide +kernel⟩, ⟨under_way_of (by decide +kernel), by decide +kernel⟩, by
    intro e h
    simp only [List.mem_cons, List.not_mem_nil, or_false] at h
    rcases h with rfl | rfl <;> exact ⟨under_way_of (by decide +kernel), by decide +kernel⟩,
   ⟨under_way_of (by decide +kernel), by decide +kernel⟩, ⟨under_way_of (by decide +kernel), by decide +kernel⟩, by decide⟩

/-- A UCODE_LOAD's image of no micro-op, with identity 1. -/
def imageBytes : List Nat := [0x43, 0x4D, 0x55, 0x54, 1, 0, 0, 0, 0, 0, 0, 0, 1, 0, 0, 0] ++ List.replicate 304 0

/-- Where the digest of slot 0 and the signature hold, an image signed with it passes: the premise `code = 0` can be met. -/
theorem witness_AuthPasses (b g : List Nat) (h : b.length = 320 + 7232) (hg : b.drop 320 = g) (h0 : num g 0 4 = 0x54534742) (h1 : num g 4 4 = 0)
    (h2 : zeros g 7227 5 = true) (hk : Config.keyDigest 0 = some (Config.sha3 ((g.drop 8).take 2592)))
    (hv : Config.mldsaVerifies ((g.drop 8).take 2592) (Config.sha3 (b.take 320)) ((g.drop 2600).take 4627) = true) :
    authCode 0 true b 320 0 0 = 0 := by
  subst hg
  simpa [authCode, h, h0, h1, h2, hk, hasBit] using hv

theorem witness_PoolAndMicrocodeAreLoaded :
    (let d := descOf 5 pod0 0 0
     let s := withSegs (loading d) [(0, { st := sgReady, len := 1 })]
     Starts s 0 0 5 d s ∧ d.pods = [0] ∧ s.blockedBy d = false ∧ s.segBars d (d.f 8 5 0) = false ∧ d.f 12 15 0 + (s.seg 0 (d.f 8 5 0)).len ≤ 65536 ∧
     (loading d).segBars d (d.f 8 5 0) = true) ∧
    (let d := descOf 5 (65535 * 2 ^ 96 + pod0) 0 0
     65536 < d.f 12 15 0 + 2) ∧
    (let d := descOf 5 pod0 1 1
     let s := withSegs (loading d) [(0, { st := sgLoading, len := 1, lbase := 255, cls := 4 })]
     UnderWay s 0 0 5 d ∧ 4 ≤ s.bestClass 0 ∧ (s.seg 0 (d.f 8 5 0)).lbase + (s.seg 0 (d.f 8 5 0)).len ≤ 256 ∧ s.poolBad = []) ∧
    (let d := descOf 6 (65535 * 2 ^ 64 + 2 ^ 96) 0 0
     let s := loading d
     Starts s 0 0 6 d s ∧ d.f 12 16 0 ≠ 0 ∧ d.f 8 15 0 + d.f 12 16 0 ≤ 65536 ∧ s.pinned (d.f 8 15 0) none = false ∧
     (s.wr F.STRM_CFG_EN 1 0).pinned 0 none = true) ∧
    (let d := descOf 6 (2 ^ 96) 512 512 (List.replicate 512 0)
     UnderWay (loading d) 0 0 6 d ∧ d.first ≤ d.moved / 512 ∧ d.moved ≤ d.data.length) ∧
    (let d := descOf 7 pod0 320 320 imageBytes
     UnderWay (loading d) 0 0 7 d ∧ (loading d).blockedBy d = false ∧ imageOk d.data = true ∧ imageOk [] = false) ∧
    (let d := descOf 16 0 64 64 []
     UnderWay (loading d) 0 0 16 d ∧ (loading d).blockedBy d = false ∧ fwOk d.data = false) ∧
    (let d := descOf 17 (0x1000 * 2 ^ 64) 64 64 (List.replicate 64 1)
     let s := loading d
     UnderWay s 0 0 17 d ∧ 64 * d.first < d.total ∧ s.rst.deferred = false ∧ (List.range 64).all (fun i => !mtpZero (d.f 8 15 0 + i)) = true ∧
     s.rst.pulse = none) ∧
    (let p : PulseX := { row := 0x1000, bytes := List.replicate 64 1 }
     0x1000 ≤ p.row ∧ p.bytes.length = 64) :=
  ⟨⟨started_of (by decide), by decide⟩, by decide, ⟨under_way_of (by decide), by decide⟩, ⟨started_of (by decide), by decide +kernel⟩,
   ⟨under_way_of (by decide +kernel), by decide +kernel⟩, ⟨under_way_of (by decide +kernel), by decide +kernel⟩, ⟨under_way_of (by decide), by decide⟩,
   ⟨under_way_of (by decide +kernel), by decide +kernel⟩, by decide +kernel⟩

theorem witness_StepsStreamsAndUploadsRun :
    (let d : Desc := { idx := 0, raw := 1 }
     ((loading d).start 0 0 1).isSome = true) ∧
    (let d := descOf 2 0 0 0
     Starts (loading d) 0 0 2 d (loading d) ∧ (loading d).stepCheck d ≠ 0) ∧
    (let d := descOf 2 pod0 0 0
     let s := loading d (gangAt 0 {} 0)
     Starts s 0 0 2 d s ∧ s.stepCheck d = 0 ∧ s.gstate 0 ≠ stHusk ∧ s.podsOf 0 = [0]) ∧
    (let d := descOf 8 0 0 0
     let s := (loading d (put [(F.STRM_CFG_EN, 1, 0), (F.QP_CFG_FRES, 1, 0)]))
     Starts s 0 0 8 d s ∧ s.on F.STRM_CFG_EN (d.f 8 3 0) = true ∧ s.rd F.STRM_CFG_QP (d.f 8 3 0) = 0 ∧ s.on F.QP_CFG_FRES 0 = true) ∧
    (let d := descOf 8 0 1 1
     let s := (loading d).setStrm 0 { fed := 1 }
     UnderWay s 0 0 8 d ∧ d.moved = d.total ∧ d.first + d.total ≤ s.delivered (d.f 8 3 0)) ∧
    (∀ opc ∈ [9, 10], let d := descOf opc 0 0 64
     let s := loading d
     UnderWay s 0 0 opc d ∧ s.chunkReady 0 d = true ∧ s.chunkTurn = some 0 ∧ s.hostOpen = true ∧ s.ringsBusy = false ∧ s.anchor = true ∧
     (s.translate (s.rd F.QP_CFG_ASID 0) d.at_ true []).1 = .ok 0) ∧
    (let d := descOf 11 0 0 0
     let s := loading d
     Starts s 0 0 11 d s ∧ (List.range 4).find? (fun k => !s.on F.WT_SNAP_CTL_ARM k) = some 0) ∧
    (∀ k : Fin 4, (put ((List.range 4).map (fun k => (F.WT_SNAP_CTL_ARM, 1, k)))).on F.WT_SNAP_CTL_ARM k = true) ∧
    (let d := descOf 18 (12104 * 2 ^ 64) 0 0
     let s := loading d
     Starts s 0 0 18 d s ∧ 12104 ≤ d.f 8 31 0 ∧ s.descsStarted.any (fun e => e.steward && !e.held && (e.accepted || e.first != 0)) = false) ∧
    (let d := descOf 18 (12104 * 2 ^ 64) 12104 12104
     UnderWay (loading d) 0 0 18 d) :=
  ⟨by decide, ⟨started_of (by decide), by decide⟩, ⟨started_of (by decide), by decide +kernel⟩, ⟨started_of (by decide), by decide⟩,
   ⟨under_way_of (by decide), by decide⟩, by
    intro opc h
    simp only [List.mem_cons, List.not_mem_nil, or_false] at h
    rcases h with rfl | rfl <;> exact ⟨under_way_of (by decide), by decide +kernel⟩, ⟨started_of (by decide), by decide⟩, by decide,
   ⟨started_of (by decide), by decide⟩, under_way_of (by decide)⟩

/-- Port 0 in a state, out of reset, with fields written and a time. -/
def portAt (st : Nat) (l : List (Fld × Nat × Nat)) (x : PortX) (now : Stamp := 0) : State :=
  ({ put ((F.RST_STAT_STAGE, 7, 0) :: (F.FAB_PSTAT_STATE, st, 0) :: l) with rst := { seen := 0 }, now := now } : State).setPort 0 x

/-- A packet of a type with a payload. -/
def flitOf (ty : Nat) (bytes : List Nat) : Flit := { Flit.link ty 0 false 0 0 bytes with ack := 0 }

/-- A packet waits for its command at the anchor or at a member. -/
def boxed (anchor : Nat) (f : Flit) (fab : FabX := {}) : State :=
  { portAt ptUp [(F.GLB_ROLE_ANCHOR, anchor, 0)] {} with fab := { fab with inbox := [(0, f)] } }

theorem witness_PortsTrainAndMeasure :
    (∀ st : Fin 8, (portAt st [] {}).portSt 0 = st ∧ (portAt st [] {}).linksOn = true) ∧
    laneSet 1 ((portAt ptTrain [] {}).rd F.FAB_PCTL_MAXW 0) = 1 ∧ opposite 0 = 2 ∧ (portAt ptTrain [] {}).uid ≠ 1 ∧
    ((portAt ptDown [] { retry := true }).port 0).retry = true ∧
    (portAt ptTrain [] {} (after 0 (300 * tUs))).portFor 0 (300 * tUs) = true ∧ (portAt ptDown [] {} (after 0 (10 * tMs))).portFor 0 (10 * tMs) = true ∧
    ((portAt ptLatency [] { idx := 256, lo := 0, hi := 64 }).port 0).measured = true ∧
    (portAt ptLatency [] {} (after 0 (60 * tUs))).portFor 0 (60 * tUs) = true ∧ ((portAt ptLatency [] {}).port 0).measured = false ∧
    8 ≤ ((portAt ptUp [] { replays := 8 }).port 0).replays ∧ 0 ≤ ahead (after 0 tUs) (after ((portAt ptUp [] {}).port 0).lastRx tUs) ∧
    (portAt ptFenced [] {}).fences.any (fun f => f.kind == 4 && f.unit == 0) = false ∧
    ({ portAt ptFenced [] {} with fences := [⟨0, 4, 0⟩] } : State).fences.any (fun f => f.kind == 4 && f.unit == 0) = true ∧
    (let f := flitOf tyLmeas (toBytes 8 0)
     (portAt ptLatency [] {}).linked 0 = true ∧ f.ty = tyLmeas ∧ f.crcOk = true ∧ f.field 1 1 % 2 = 0) ∧
    (let f := flitOf tyLmeas (toBytes 8 256 ++ toBytes 16 0)
     let s := portAt ptLatency [] { t1 := some 0 }
     f.field 1 1 % 2 = 1 ∧ (s.port 0).t1 = some 0 ∧ f.field 0 1 = (s.port 0).idx ∧ (s.port 0).idx < 255) := by decide

theorem witness_PacketsTravelAndDevicesAreFound :
    (let f := flitOf tyIdle []
     (portAt ptUp [] {}).linked 0 = true ∧ f.ty = tyIdle ∧ f.crcOk = true ∧ ((portAt ptUp [] {}).port 0).held = [] ∧ f.nak = false) ∧
    (let f := flitOf tyRegRd (toBytes 4 0)
     let s := portAt ptUp [(F.GLB_ROLE_NUMV, 1, 0)] {}
     s.linked 0 = true ∧ (f.seq + 4096 - (s.port 0).rxSeq) % 4096 = 1 ∧ tyDisc < f.ty ∧ f.ty < 13 ∧ s.on F.GLB_ROLE_NUMV = true ∧
     f.dx = s.rd F.GLB_ROLE_POS_X ∧ f.dy = s.rd F.GLB_ROLE_POS_Y ∧ flitKnown f = true ∧ (f.pseq + 65536 - s.fab.rxP.at 65535 f.src) % 65536 = 1) ∧
    (∀ op ∈ [1, 2, 3], ((boxed 1 (flitOf tyDisc (toBytes 8 0 ++ toBytes 8 op))).takeIn (isDisc op)).isSome = true) ∧
    (let b : Probe := ⟨⟨1, 0, 0, []⟩, 0, none, 0, false⟩
     let f := flitOf tyDisc (toBytes 8 0 ++ toBytes 8 2 ++ toBytes 8 3 ++ toBytes 8 2)
     let s := boxed 1 f { disc := { cur := some b, on := true } }
     (discRoute f).drop 1 = (b.route.take (b.route.length - 1)).reverse.map opposite ∧ f.field 24 1 % 4 = opposite b.port ∧ f.field 16 8 ≠ b.node.uid ∧
     s.fab.disc.afterRst = false ∧ s.anchor = true) ∧
    (let f := flitOf tyDisc (toBytes 8 0 ++ toBytes 8 2 ++ toBytes 8 3 ++ toBytes 8 1)
     f.field 24 1 % 4 ≠ opposite 0) ∧
    (let s : State := ({ boxed 1 (flitOf tyDisc []) with fab := { disc := { cur := some ⟨⟨1, 0, 0, []⟩, 0, some 1, 0, false⟩ } } } : State).setMember 1 { uid := 3 }
     s.memberAt 1 = some { uid := 3 } ∧ s.fab.disc.on = false) ∧
    (boxed 0 (flitOf tyDisc [])).anchor = false ∧ (boxed 1 (flitOf tyDisc [])).anyRuns = false ∧ (ganged {}).anyRuns = true ∧
    (let s : State := { portAt ptUp [(F.FAB_PSTAT_STATE, ptUp, 1), (F.FAB_PSTAT_STATE, ptUp, 2), (F.FAB_PSTAT_STATE, ptUp, 3)] {} with fab := { disc := { due := true } } }
     s.linksOn = true ∧ s.fab.disc.on = false ∧ s.fab.disc.due = true ∧ s.portsSettled = true) ∧
    (let b : Probe := ⟨⟨1, 0, 0, []⟩, 0, some 1, 0, false⟩
     0 ≤ ahead (after 0 (10 * tUs)) (after b.sentT (10 * tUs)) ∧ b.rejoin.isSome = true) ∧
    ((portAt ptUp [(F.FAB_PRES_LO_PRES, 2, 0)] {}).setMember 1 {}).present 1 = true := by decide

theorem witness_RelayedTrafficIsServed :
    (∀ ty ∈ [tyRegRd, tyRegWr, tyRegCpl, tyDoorbell, tyIrq, tyDmaRd, tyDmaWr, tyDmaCpl], ∀ anchor : Fin 2,
     let s := boxed anchor (flitOf ty (toBytes 4 0))
     (s.takeIn (isTy ty)).isSome = true ∧ s.anchor = (anchor == 1) ∧ s.hostOpen = true) ∧
    (flitOf tyRegRd (toBytes 4 1)).field 0 4 % 2 ^ 21 % 4 ≠ 0 ∧
    (let s := boxed 1 (flitOf tyRegCpl (toBytes 4 0)) { relays := [⟨0, 0, 0⟩] }
     s.fab.relays.any (fun r => r.dev == 0 && r.tag == 0) = true ∧ s.fab.waiting = [] ∧
     s.fab.relays.find? (fun r => r.dev == 0 && r.tag == 0) = some ⟨0, 0, 0⟩ ∧ 0 ≤ ahead (after 0 (16 * tUs)) (after 0 (16 * tUs))) ∧
    (portAt ptUp [(F.FAB_PRES_LO_PRES, 1, 0)] {}).present 0 = true ∧
    (let f := flitOf tyDmaCpl (toBytes 8 0 ++ toBytes 8 64 ++ toBytes 48 0 ++ List.replicate 64 1)
     let s := boxed 0 f { tags := [⟨0, .sq 0, 64, []⟩] }
     s.fab.tags.find? (fun e => e.tag == f.field 12 1) = some ⟨0, .sq 0, 64, []⟩ ∧ f.field 14 1 % 4 = 0 ∧
     64 ≤ ((f.bytes.drop 64).take (f.field 8 2 % 1024)).length ∧ 0 + ((f.bytes.drop 64).take (f.field 8 2 % 1024)).length < 65) ∧
    (let s := boxed 1 (flitOf tyDmaRd []) { dma := [⟨0, 0, 0, 64, [], 0⟩] }
     s.fab.dma.find? (fun r => r.dev == 0 && r.tag == 0) = some ⟨0, 0, 0, 64, [], 0⟩ ∧ 0 ≤ ahead (after 0 (50 * tUs)) (after 0 (50 * tUs))) ∧
    (let d : Desc := { idx := 0, raw := 3, reading := 2 }
     let s := (boxed 1 (flitOf tyDmaRd [])).setQp 0 { fetching := true, fetched := [d] }
     s.anchor = true ∧ s.safe = false ∧ (s.qp 0).fetching = true ∧
     (s.qp 0).fetched.find? (fun d => d.cid == 0 && decide (0 < d.reading)) = some d) := by decide

theorem witness_MembersAreWatched :
    (∀ op ∈ [1, 2, 3, 4, 5, 6], let f := flitOf tyCtrl (toBytes 8 op)
     ((boxed 0 f).takeIn (isCtrl op)).isSome = true ∧ (boxed 0 f).anchor = false) ∧
    ((portAt ptUp [(F.FAB_PRES_LO_PRES, 3, 0)] {}).setMember 1 { missed := 4 }).memberAt 1 = some { missed := 4 } ∧
    (let s := portAt ptUp [(F.GLB_ROLE_ANCHOR, 1, 0)] {} (after 0 (300 * tUs))
     s.anchor = true ∧ s.linksOn = true ∧ 0 ≤ ahead s.now (after s.fab.hbT s.hbPeriod) ∧ s.lostN ≤ 4) ∧
    (let s : State := { portAt ptUp [] {} (after 0 (20 * tUs)) with fab := { gapT := [(1, some 0)] } }
     Store.get (fun _ => none) s.fab.gapT 1 = some 0 ∧ 0 ≤ ahead s.now (after 0 (20 * tUs))) ∧
    (let s := portAt ptUp [] {} (after 0 tMs)
     s.anchor = false ∧ s.linksOn = true ∧ s.on F.FAB_STAT_ISOLATED = false ∧ 0 ≤ ahead s.now (after s.fab.isoT (s.lostN * s.hbPeriod))) ∧
    (let s := portAt ptUp [(F.FAB_STAT_ISOLATED, 1, 0), (F.FAB_CFG_ISOTMO, 1, 0)] {} (after 0 tMs)
     s.on F.FAB_STAT_ISOLATED = true ∧ s.rd F.FAB_CFG_ISOTMO ≠ 0 ∧ 0 ≤ ahead s.now (after s.fab.isoT (s.rd F.FAB_CFG_ISOTMO * tMs))) ∧
    1 ≤ (put [(F.PWR_STAT_STATE, 1, 0)]).power := by decide

/-- A power state at a time far from the last change. -/
def powered (st : Nat) (l : List (Fld × Nat × Nat)) (x : State := State.reset) : State :=
  let s := put ([(F.PWR_STAT_STATE, st, 0), (F.GLB_ROLE_ANCHOR, 1, 0)] ++ l)
  { s with now := after 0 (2 ^ 50), wake := x.wake, wakeAsk := x.wakeAsk, evq := x.evq }

theorem witness_PowerStatesAndWakes :
    (let s := powered 3 [] { State.reset with wake := some (0, 0) }
     s.wake = some (0, 0) ∧ reached 0 s.now = true) ∧
    reached (after (after 0 (2 ^ 50)) 1) (powered 3 []).now = false ∧
    (let s := powered 3 [(F.PWR_CTL_MAXDEPTH, 0, 0)]
     s.wake = none ∧ s.powTarget < s.power ∧ s.powTarget = 0) ∧
    (let s := powered 3 [(F.PWR_CTL_MAXDEPTH, 1, 0)]
     s.powTarget < s.power ∧ s.powTarget ≠ 0) ∧
    (let s := powered 3 [(F.PWR_CTL_MAXDEPTH, 3, 0)]
     s.power ≤ s.powTarget ∧ s.dueState = s.power) ∧
    (let s := powered 0 [(F.PWR_CTL_MAXDEPTH, 3, 0)]
     s.power ≤ s.powTarget ∧ s.dueState ≠ s.power ∧ s.dueState ≠ 4) ∧
    (let s := powered 3 [(F.PWR_CTL_MAXDEPTH, 4, 0)] { State.reset with evq := [⟨0, 2, 0, 0, 0, [], some 0⟩] }
     s.power ≤ s.powTarget ∧ s.dueState = 4 ∧ s.deepMark = false ∧ s.hostOpen = true ∧ s.evq.any (fun r => r.kind == 2) = true) ∧
    (powered 3 [(F.PWR_CTL_MAXDEPTH, 4, 0), (F.WT_WM_EN, 1, 0), (F.EVR_CFG_EN, 1, 0)]).deepMark = true ∧
    (let s := powered 3 [] { State.reset with wakeAsk := 32 }
     s.power ≠ 0 ∧ s.timedWake = false ∧ s.wakeAsk ≠ 0) ∧
    (let s : State := { powered 3 [] with runs := [⟨0, 0, 0, 0, 0, 0, [0], false, false, [], 0, none⟩] }
     s.timedWake = true) ∧
    (powered 1 [(F.PWR_CTL_WAKEN_EN, 1, 0)]).on F.PWR_CTL_WAKEN_EN = true ∧
    State.reset.rd F.PWR_EST_PEAK < 2 ^ 16 ∧ State.reset.rd F.PWR_BUDGET_BUDGET < 2 ^ 16 - 1 ∧ (ganged {}).anyRuns = true := by decide

theorem witness_TemperaturesLevelsAndShutdown :
    (let s := put [(F.THM_T_VALID, 1, 0), (F.THM_T_VALID, 1, 1), (F.THM_T_VALID, 1, 2)]
     hasBit (s.rd F.THM_STAT_FAILED) 0 = false ∧ s.offMedian 0 0 = false ∧ s.offMedian 0 1200 = true) ∧
    (let s : State := { put [(F.THM_T_VALID, 1, 0), (F.THM_T_VALID, 1, 1), (F.THM_T_TEMP, 900, 1), (F.THM_T_TEMP, 900, 0)] with sensors := [(0, { offT := some 0 })] }
     s.offMedian 0 896 = false ∧ 8 * (s.shutAt : Int) ≤ 896 ∧ (s.sensors.at {} 0).offT = some 0) ∧
    (let s : State := { put [(F.THM_STAT_FAILED, 1, 0)] with sensors := [(0, { okT := some 0 })], now := after 0 150000000 }
     (s.sensors.at {} 0).okT = some 0 ∧ hasBit (s.rd F.THM_STAT_FAILED) 0 = true ∧ 0 ≤ ahead s.now (after 0 150000000)) ∧
    (let s : State := { put [(F.THM_DOM_LEVEL, 2, 0), (F.THM_T_VALID, 1, 0), (F.THM_T_VALID, 1, 1)] with doms := [(0, { coolT := some 0 })], now := after 0 15000000 }
     (s.doms.at {} 0).coolT = some 0 ∧ 0 ≤ ahead s.now (after 0 15000000) ∧ s.domCool 0 = true ∧ s.rd F.THM_DOM_LEVEL 0 < 4 ∧
     (s.dueLevel 0).1 ≤ s.rd F.THM_DOM_LEVEL 0 - 1) ∧
    (let s := put [(F.THM_STAT_SHUT, 1, 0), (F.THM_T_VALID, 1, 0), (F.THM_T_TEMP, 776, 0)]
     s.on F.THM_STAT_SHUT = true ∧ ∀ k ∈ s.validSensors, s.temp k ≤ 8 * (s.shutAt : Int) - 120) ∧
    (let s := put [(F.THM_T_VALID, 1, 0), (F.THM_T_TEMP, 777, 0)]
     0 ∈ s.validSensors ∧ 8 * (s.shutAt : Int) - 120 < s.temp 0) ∧
    (let s := put [(F.THM_DOM_HELD, 1, 0), (F.THM_T_VALID, 1, 0), (F.THM_T_VALID, 1, 1)]
     s.on F.THM_DOM_HELD 0 = true ∧ s.tempOk 0 = true ∧ s.tempOk 1 = true) := by decide

/-- The collector runs, in stage RUN. -/
def collecting (l : List (Fld × Nat × Nat)) : State := put ([(F.RST_STAT_STAGE, 7, 0), (F.GLB_UNITS_ECLK_LOCK, 1, 0)] ++ l)

theorem witness_FaultsAreRecordedAndReactedTo :
    (let e : FaultEvent := ⟨4, 0, 0⟩
     let s := collecting []
     e.src.val ≠ 1 ∧ e.src.val ≠ 13 ∧ e.src.val ≠ 14 ∧ s.canReport e = true ∧ s.collectorRuns = true ∧ s.faultq = [] ∧ s.on F.FLT_STAT_FIRSTV = false) ∧
    (∀ react ∈ [0, 1, 6], (collecting [(F.FLT_SRC_REACT, react, 4)]).rd F.FLT_SRC_REACT 4 = react) ∧
    (let s := collecting [(F.FLT_STAT_FIRSTV, 1, 0)]
     s.on F.FLT_STAT_FIRSTV = true ∧ s.on F.FLT_STAT_SECONDV = false) ∧
    (State.reset.canReport ⟨3, 0, 0⟩ = true ∧ State.reset.collectorRuns = false ∧ liveSource 3 = true ∧ State.reset.live = []) ∧
    (State.reset.on F.FLT_CTL_FLOCK = false ∧ (put [(F.FLT_CTL_FLOCK, 1, 0)]).on F.FLT_CTL_FLOCK = true ∧ (faultFactory 11).isSome = true ∧
      validUnit 11 256 = false ∧ validUnit 11 255 = true) ∧
    (reactionOk (sourceKind 11) 2 = true ∧ ¬(2 = 6 ↔ (3 : Nat) = 3) ∧ reactionOk (sourceKind 4) 2 = false) ∧
    (let s := put [(F.FLT_CAUSE_CAUSE, 1, 0), (F.FLT_PEND_PEND, 3, 0)]
     hasBit (s.rd F.FLT_CAUSE_CAUSE 0) 0 = true ∧ hasBit (s.rd F.FLT_CAUSE_CAUSE 0) 1 = false) ∧
    (let s : State := { put [(F.FLT_SAFE_ACTIVE, 1, 0)] with safeX := { byCollector := true } }
     s.safe = true ∧ s.safeX.byCollector = true) ∧
    State.reset.safe = false ∧ State.reset.mayExit = true ∧ (put [(F.THM_STAT_SHUT, 1, 0)]).mayExit = false ∧
    (let s : State := { put [(F.FLT_SAFE_ACTIVE, 1, 0), (F.FLT_SAFE_ESCTMO, 1, 0)] with now := after 0 tMs }
     s.rd F.FLT_SAFE_ESCTMO ≠ 0 ∧ 0 ≤ ahead s.now (after s.safeX.since (s.rd F.FLT_SAFE_ESCTMO * tMs))) := by decide +kernel

theorem witness_LiveCausesAndSuppliesComeAndGo :
    State.reset.collectorRuns = false ∧
    (∀ e ∈ [(3, 0, 0), (128, 0, 0)], ∀ dies : Fin 2, let s : State := { collecting [] with rst := { dies := dies, redetect := [e] } }
     s.collectorRuns = true ∧ s.rst.redetect = [e] ∧ s.live.contains e = false ∧ hasBit s.rst.dies 0 = (dies == 1)) ∧
    ({ collecting [] with live := [(3, 0, 0)] } : State).live.contains (3, 0, 0) = true ∧
    outerCause 4 = false ∧
    (let s : State := { collecting [] with live := [(1, 0, 0)] }
     outerCause 1 = true ∧ s.live.any (fun e => e.1 == 1) = true ∧ s.badSup = [] ∧ s.rd F.RST_STAT_STAGE ≠ 0 ∧ s.power ≤ 1 ∧
     s.on F.THM_STAT_SHUT = false) ∧
    (let s : State := { collecting [] with live := [(128, 0, 0)], rst := { dies := 1 } }
     s.dieOk 0 = false ∧ hasBit s.rst.dies 0 = true ∧ s.power ≠ 4 ∧ s.live.any (fun e => e.1 == 128) = true) ∧
    (put [(F.GLB_UNITS_PD_OK, 1, 0)]).dieOk 0 = true ∧
    (∀ v ∈ [Supply.vddCore, .vddAon, .vddPe, .vddIo], let key := (supplyIx v, if 6 ≤ supplyIx v ∧ supplyIx v ≤ 9 then 0 else 4)
     State.reset.badSup.contains key = false ∧ ({ State.reset with badSup := [key] } : State).badSup.contains key = true ∧
     ([key].erase key).any (fun e => decide (e.1 ≤ 5)) = false) ∧
    (let s : State := { put [(F.RST_STAT_STAGE, 4, 0)] with rst := { dieN := 1 } }
     hasBit s.rst.dies 0 = false ∧ 0 < s.rst.dieN ∧ 4 ≤ s.rd F.RST_STAT_STAGE ∧ s.rd F.RST_STAT_STAGE ≠ 15) := by decide

/-- A stage, with the reset's own state as given. -/
def staged (st : Nat) (x : RstX) (l : List (Fld × Nat × Nat) := []) : State := { put ((F.RST_STAT_STAGE, st, 0) :: l) with rst := x }

theorem witness_ResetSourcesAssertAndLevelsAct :
    (let s := staged 7 { on := 0, seen := 0, level := 3 } [(F.GLB_ROLE_ANCHOR, 1, 0)]
     hasBit s.rst.on 0 = false ∧ hasBit s.rst.on 1 = false ∧ hasBit s.rst.on 2 = false ∧ s.rst.seen = 0 ∧ s.rst.deferred = false ∧ s.pulsing = false ∧
     s.rd F.RST_STAT_STAGE ≠ 15 ∧ s.anchor = true) ∧
    hasBit State.reset.rst.on 0 = true ∧ hasBit ({ on := 2 } : RstX).on 1 = true ∧ State.reset.anchor = false ∧
    (∀ map ∈ [1, 2], min 3 ((staged 7 { on := 0, seen := 0, level := 3 } [(F.RST_MAP_MAP, map, 0)]).srcLevel 1) = map) ∧
    (staged 7 { on := 0, seen := 0, nvq := [⟨1, 0, 0, 0, []⟩] }).pulsing = true ∧
    State.reset.fwRuns = false ∧ (staged 7 { on := 0, wdWarned := true }).fwRuns = true ∧
    0 ≤ ahead (after 0 (50 * tMs)) (after (0 : Stamp) (50 * tMs)) ∧
    (let s := staged 7 { deferred := true }
     s.rst.deferred = true ∧ s.rst.pulse = none ∧ s.rst.nvq = []) ∧
    ({ pulse := some ⟨0, toBytes 8 (2 ^ 32)⟩ } : RstX).pulse = some ⟨0, toBytes 8 (2 ^ 32)⟩ ∧ (toBytes 8 (2 ^ 32)).getD 4 0 ≠ 0 ∧
    (staged 7 {} [(F.RST_NVSEL_NEWV, 1, 0)]).on F.RST_NVSEL_NEWV = true ∧
    (put [(F.THM_STAT_PRIORSHUT, 1, 0)]).on F.THM_STAT_PRIORSHUT = true ∧ State.reset.on F.THM_STAT_PRIORSHUT = false := by decide

theorem witness_ReleaseGoesByStagesAndTrustIsRaised :
    State.reset.rst.on % 8 ≠ 0 ∧
    (let s := staged 7 { on := 8, level := 2 }
     s.rst.seen ≠ 0 ∧ s.rst.deferred = false ∧ s.rst.on % 8 = 0 ∧ s.cplLeft = false) ∧
    ((staged 7 { on := 0, level := 2 }).setQp 0 { cplq := [⟨0, 0, 0, false, 0, 0, 0, 0, 0⟩] }).cplLeft = true ∧
    (∀ level ∈ [0, 1], let s := staged 0 { on := 0, level := level }
     s.rst.seen ≠ 0 ∧ s.rst.releasing = false ∧ s.badSup = [] ∧ s.rd F.RST_STAT_STAGE ≠ 15) ∧
    (∀ st ∈ [1, 2, 3, 4, 5, 14], (staged st {}).rd F.RST_STAT_STAGE = st) ∧
    (let s := staged 4 { on := 0, releasing := true, dieN := 3 } [(F.RST_STAT_TRIES, 2, 0)]
     s.rst.dieT = none ∧ s.rst.dieN < 4 ∧ s.rd F.RST_STAT_TRIES < 3) ∧
    State.reset.trustBusy = false ∧ State.reset.rd F.TRUST_STAT_FWSRC = 0 ∧ State.reset.rst.fwcnt = 0 ∧
    (State.reset.setQp 0 { fetched := [{ idx := 0, raw := 17, started := true }] }).trustBusy = true ∧
    (∀ p : Fin 4, State.reset.rd F.ENG_UIMG_IMG_ID p = 0) := by decide

/-- Where the OTP revokes no key slot and holds the digests of slots 0 and 1, slot 0 may be revoked. -/
theorem witness_RevokeAllowed (h : Config.otpRevoked = 0) (h1 : (Config.keyDigest 1).isSome = true) :
    hasBit State.reset.revokedNow 0 = false ∧ ∃ j : Fin 4, j.val ≠ 0 ∧ (Config.keyDigest j).isSome = true ∧ hasBit State.reset.revokedNow j = false := by
  refine ⟨?_, 1, by decide, h1, ?_⟩ <;> simp [State.revokedNow, h, State.reset, hasBit]

theorem witness_RegisterAccessesAndClockCrossings :
    (let s := put [(F.GLB_ROLE_ANCHOR, 1, 0), (F.RST_STAT_STAGE, 7, 0)]
     s.anchor = true ∧ 3 ≤ s.rd F.RST_STAT_STAGE ∧ s.rd F.RST_STAT_STAGE ≠ 15 ∧ s.dev = 0 ∧ (decodeOffset 0x1000).map (s.way ·) = some .now ∧
     (decodeOffset 0x1000).map (behind s.xwait ·) = some false ∧ eclkBlock (blockOf 0x1000).1 = false ∧ s.present 1 = false) ∧
    (let s := put [(F.RST_STAT_STAGE, 7, 0)]
     (decodeOffset 0xA0000).map (s.way ·) = some .wait ∧ (decodeOffset 0xA0000).map crossingOf = some (1, 0) ∧ s.power ≠ 4) ∧
    (let s := put [(F.RST_STAT_STAGE, 7, 0), (F.PWR_STAT_STATE, 2, 0)]
     (decodeOffset 0x20000).map (s.way ·) = some .shadow ∧ s.shadowWr = []) ∧
    0 ≤ ahead (after 0 6000) (after (0 : Stamp) 6000) ∧
    (∀ m : Fin 2, let s : State := put [(F.CLK_XMODE_MODE, 8 * m, 0)]
     carriesValue 3 = true ∧ s.heldMode 3 = (m == 1)) ∧
    carriesPulses 2 = true ∧
    (let s : State := { put [(F.GLB_UNITS_ECLK_LOCK, 1, 0)] with shadowWr := [(0x20000, 1)] }
     s.power < 2 ∧ s.on F.GLB_UNITS_ECLK_LOCK = true ∧ s.shadowWr = [(0x20000, 1)] ∧ (decodeOffset 0x20000).isSome = true) ∧
    2 ≤ (put [(F.PWR_STAT_STATE, 2, 0)]).power := by decide +kernel

theorem witness_ServicePortCountersTriggersAndScan :
    (let s := put [(F.SVP_CFG_MODE, 1, 0)]
     s.stewardPort = false ∧ s.svp.word = none ∧ s.rd F.SVP_CFG_MODE = 1) ∧
    (staged 4 {}).stewardPort = true ∧ ({ State.reset with svp := { word := some 1 } } : State).svp.word.isSome = true ∧
    (let s := put [(F.SVP_CFG_MODE, 2, 0), (F.SVP_CFG_SEN, 1, 0), (F.SVP_CFG_MYSEL, 0, 0), (F.RST_STAT_STAGE, 7, 0)]
     s.svpSlave = true ∧ s.svp.phase = .idle ∧ 3 ≤ s.rd F.RST_STAT_STAGE ∧ s.rd F.RST_STAT_STAGE ≠ 15) ∧
    (put [(F.SVP_CFG_SEN, 0, 0)]).svpSlave = false ∧
    sameBlock 0x1000 0x1004 = true ∧ sameBlock 0x1FFC 0x2000 = false ∧
    (let x : SvpX := { phase := .status, asked := true, got := some 1 }
     ({ State.reset with svp := x } : State).svp = x) ∧
    (let x : SvpX := { phase := .write, wbuf := [(0, 0), (4, 0), (8, 0), (12, 0)] }
     x.phase = .write ∧ 4 ≤ x.wbuf.length ∧ ({} : SvpX).wbuf.length < 4) ∧
    selOk 0 0 0 = true ∧ selOk 0 255 0 = false ∧
    (let s : State := { State.reset with pmc := [(0, { cnt := 2 ^ 48 })] }
     (s.pmc.at {} 0).wraps < s.pmcFull 0 / (2 ^ 48 : Nat)) ∧
    State.reset.pmcFull 0 / (2 ^ 48 : Nat) ≤ (State.reset.pmc.at {} 0).wraps ∧
    (let s := put [(F.EVT_ROUTE_EN0, 1, 554), (F.EVR_CFG_EN, 1, 0)]
     s.routeOf 2216 = some 0 ∧ (s.trigs.at {} 0).inHigh = false ∧ (s.trigs.at {} 0).inT = none) ∧
    (∀ st ∈ [0, 2], let s : State := { put [(F.PWR_STAT_STATE, st, 0)] with trigs := [(0, { due := some 0 })] }
     (s.trigs.at {} 0).due = some 0 ∧ reached 0 s.now = true ∧ (s.trigs.at {} 0).outHigh = false ∧ s.power = st) ∧
    (let x : TrigX := { outHigh := true, due := some 0 }
     x.outHigh = true ∧ x.due.isSome = true) := by decide +kernel

end Sys2Proof.Tests
end

/-! ### Scope: the step, the canonical form, the reset state -/

section
namespace Sys2Proof.Machine

open Sys2Proof

theorem step_of_pending_nil {s : State} (h : s.pending = []) : step s = .next s := by
  unfold step
  rw [h]

theorem step_of_pending_cons {s : State} {c : Instr} {rest : List Instr} (h : s.pending = c :: rest) :
    step s = exec c { s with pending := rest } := by
  unfold step
  rw [h]

/-- The state that a command answers lies within the command's lists of parts and registers. -/
theorem does_of_exec {c : Instr} {s t : State} (h : exec c s = .next t) :
    Does (partMask (partsOf c)) (regMask (regsOf c)) s t := by
  obtain ⟨u, hu, hd⟩ := exec_does c s
  obtain rfl : u = t := Host.Outcome.next.inj (hu.symm.trans h)
  exact hd

/-- The queue has no part in the canonical form. -/
theorem canonical_withPending (s : State) (l : List Instr) : ({ s with pending := l } : State).canonical = s.canonical := rfl

/-- Settles O1, by the two cases of the queue. -/
theorem stepRunsFrontCommand : Obligations.StepRunsFrontCommand :=
  ⟨fun _ _ _ => step_of_pending_cons, fun _ => step_of_pending_nil⟩

/-- Settles O2: the queue is in no command's bounds, and the front command runs on the state with the rest of it. -/
theorem commandsKeepTheQueue : Obligations.CommandsKeepTheQueue := by
  have keeps (c : Instr) (s : State) : ∃ t, exec c s = .next t ∧ t.pending = s.pending := by
    obtain ⟨t, ht, hd⟩ := exec_does c s
    exact ⟨t, ht, hd.pending⟩
  refine ⟨keeps, fun s c rest h => ?_⟩
  rw [step_of_pending_cons h]
  exact keeps c { s with pending := rest }

/-- Settles O3: a register outside a command's list is outside the list's mask, so the command's bounds keep its fields. -/
theorem registersFrame : Obligations.RegistersFrame :=
  fun _ _ _ h f i j hf => (does_of_exec h).rd f i j (regMask_out hf)

/-- Settles O5, by the two cases of the queue: an idle step keeps the state, and a command keeps the canonical form of the state with
the rest of the queue. -/
theorem stepKeepsCanonical : Obligations.StepKeepsCanonical := by
  intro s t hs h
  cases hq : s.pending with
  | nil =>
    rw [step_of_pending_nil hq] at h
    cases h
    exact hs
  | cons c rest =>
    rw [step_of_pending_cons hq] at h
    exact (does_of_exec h).canon ((canonical_withPending s rest).trans hs)

/-- No register field is listed at reset. -/
theorem State.rd_reset (f : Fld) (i j : Nat) : State.reset.rd f i j = FKey.reset ⟨f.reg, f.lo, i, j⟩ := rfl

theorem Memory.byte_nil (a : Nat) : Memory.byte [] a = 0 := rfl

/-- Settles O6: the reset state lists no register field and no byte. -/
theorem resetState : Obligations.ResetState := by
  have canonical : State.reset.canonical = true := by decide
  exact ⟨canonical, rfl, rfl, State.rd_reset,
    fun a => ⟨Memory.byte_nil a, Memory.byte_nil a, Memory.byte_nil a, Memory.byte_nil a, Memory.byte_nil a⟩⟩

end Sys2Proof.Machine
end

/-! ### Scope: register accesses of the host -/

section
namespace Sys2Proof.Machine

open Sys2Proof

theorem exec_registerWrite (dev : Fin 64) (offset : BitVec 21) (size : Nat) (value : BitVec 32) (s : State) :
    exec (.registerWrite dev offset size value) s = .next (s.hostAccess dev offset.toNat size true value.toNat) := rfl

theorem exec_registerRead (dev : Fin 64) (offset : BitVec 21) (size : Nat) (s : State) :
    exec (.registerRead dev offset size) s = .next (s.hostAccess dev offset.toNat size false 0) := rfl

theorem exec_crossingTimeout (x : Fin 2) (die : DieId) (offset : BitVec 21) (write : Bool) (s : State) :
    exec (.crossingTimeout x die offset write) s = .next (s.accessTimeout x die offset.toNat write) := rfl

theorem exec_shadowWriteApply (s : State) : exec .shadowWriteApply s = .next s.applyShadow := rfl

theorem exec_clkXmodeWrite (value : BitVec 32) (s : State) :
    exec (.clkXmodeWrite value) s = .next (s.writeXmode value.toNat) := rfl

/-- The anchor's register window is open: the straps are read and the boot has not failed (R20, R456). -/
structure HostWindow (s : State) : Prop where
  anchor : s.anchor = true
  stage : 3 ≤ s.rd F.RST_STAT_STAGE
  noFail : s.rd F.RST_STAT_STAGE ≠ 15

theorem HostWindow.isOpen {s : State} (h : HostWindow s) :
    ¬(s.anchor = false ∨ s.rd F.RST_STAT_STAGE < 3 ∨ s.rd F.RST_STAT_STAGE = 15) := by
  obtain ⟨ha, h3, h15⟩ := h
  rw [ha]
  simp only [Bool.true_eq_false, false_or]
  omega

/-- An aligned access of four bytes to the anchor's own window goes to that window. -/
theorem State.hostAccess_own {s : State} (h : HostWindow s) {dev off : Nat} (hd : dev = s.dev) (ho : off % 4 = 0) (write : Bool)
    (v : Nat) : s.hostAccess dev off 4 write v = s.access .host write off v := by
  simp only [State.hostAccess, if_neg h.isOpen, hd, ho, ne_eq, not_true_eq_false, or_self, if_false, if_true]

/-- An unaligned access, or one to an absent device, is unsupported (R20). -/
theorem State.hostAccess_unsupported {s : State} (h : HostWindow s) {dev off size : Nat}
    (hu : size ≠ 4 ∨ off % 4 ≠ 0 ∨ (dev ≠ s.dev ∧ s.present dev = false)) (write : Bool) (v : Nat) :
    s.hostAccess dev off size write v = { s with out := s.out ++ [OutMsg.unsupported] } := by
  simp only [State.hostAccess, if_neg h.isOpen]
  by_cases hs : size ≠ 4 ∨ off % 4 ≠ 0
  · rw [if_pos hs]
  · obtain ⟨hd, hp⟩ : dev ≠ s.dev ∧ s.present dev = false := by tauto
    rw [if_neg hs, if_neg hd, if_pos hp]

section
variable {s : State} {off : Nat} {a : RegAt} (ha : decodeOffset off = some a)
include ha

/-- An access whose domain runs, with nothing before it, is carried out at once. -/
theorem State.access_now (hw : s.way a = .now) (hb : behind s.xwait a = false)
    (hsh : (eclkBlock (blockOf off).1 && !s.shadowWr.isEmpty) = false) (from_ : XFrom) (write : Bool) (v : Nat) :
    s.access from_ write off v = s.perform from_ write a v := by
  simp [State.access, ha, hw, hb, hsh]

/-- An access whose domain does not run waits; outside DEEP it asks for no wake. -/
theorem State.access_wait (hw : s.way a = .wait) (hp : s.power ≠ 4) (from_ : XFrom) (write : Bool) (v : Nat) :
    s.access from_ write off v = s.waitAccess from_ write off v := by
  simp [State.access, ha, hw, hp]

/-- A write to a stopped engine register joins the shadow copies while fewer than sixteen are held (R549). -/
theorem State.access_shadow (hw : s.way a = .shadow) (hn : s.shadowWr.length < 16) (hb : behind s.xwait a = false) (from_ : XFrom)
    (v : Nat) : s.access from_ true off v =
      ({ s.askWake 0 with shadowWr := s.shadowWr ++ [(off, v)] } : State).answer from_ true 0 0 := by
  simp [State.access, ha, hw, hn, hb]

end

theorem State.perform_host_write (s : State) (a : RegAt) (v : Nat) : s.perform .host true a v = s.regWrite a v := rfl

theorem State.perform_host_read (s : State) (a : RegAt) (v : Nat) : s.perform .host false a v =
    { (s.regRead a).2 with out := (s.regRead a).2.out ++ [OutMsg.value (s.regValue a)] } := rfl

theorem State.askWake_regs (s : State) (cause : Nat) : (s.askWake cause).regs = s.regs := by
  unfold State.askWake
  split <;> rfl

theorem State.askWake_wakeAsk (s : State) (cause : Nat) :
    (s.askWake cause).wakeAsk = if s.power < 1 then s.wakeAsk else withBit s.wakeAsk cause := by
  unfold State.askWake
  split <;> rfl

/-- The only access that waits, a host's, has waited its 4 µs: it ends, a read with all ones, and crossing 1 tells of it (R17). -/
theorem State.accessTimeout_single {s : State} {e : XAcc} {a : RegAt} {x die : Nat} (hx : s.xwait = [e]) (hf : e.from_ = .host)
    (ha : decodeOffset e.off = some a) (hc : crossingOf a = (x, if x = 1 then die else 0)) (hw : s.way a = .wait)
    (ht : 0 ≤ ahead s.now (after e.since 6000)) :
    let t := s.accessTimeout x die e.off e.write
    t.xwait = [] ∧ t.out = (if e.write then s.out else s.out ++ [OutMsg.value 0xFFFFFFFF]) ∧
      t.faultq = if x = 1 then s.faultq ++ [FaultIn.mk (128 + 64 * die + 2) die e.off false s.now] else s.faultq := by
  intro t
  have hend : t = if x = 1 then ((({ s with xwait := [] } : State).answer .host e.write 0xFFFFFFFF 1).detect (128 + 64 * die + 2) die
      e.off) else ({ s with xwait := [] } : State).answer .host e.write 0xFFFFFFFF 1 := by
    simp [t, State.accessTimeout, hx, ha, hc, hw, ht, hf]
  rw [hend]
  cases e.write <;> split <;> exact ⟨rfl, rfl, rfl⟩

theorem State.accessTimeout_nil {s : State} (h : s.xwait = []) (x die off : Nat) (write : Bool) :
    s.accessTimeout x die off write = s := by
  simp [State.accessTimeout, h]

/-- One held write is applied once ECLK runs (R549). -/
theorem State.applyShadow_single {s : State} {off v : Nat} {a : RegAt} (hp : s.power < 2) (hl : s.on F.GLB_UNITS_ECLK_LOCK = true)
    (hs : s.shadowWr = [(off, v)]) (ha : decodeOffset off = some a) :
    s.applyShadow = ({ s with shadowWr := [] } : State).regWrite a v := by
  simp [State.applyShadow, hl, hs, ha, Nat.not_le.2 hp]

theorem State.applyShadow_stopped {s : State} (h : 2 ≤ s.power ∨ s.on F.GLB_UNITS_ECLK_LOCK = false) : s.applyShadow = s := if_pos h

/-- Six of the eight modes are fixed; what is written selects those of crossings 3 and 6 (R547). -/
theorem State.rd_writeXmode (s : State) (v : Nat) : (s.writeXmode v).rd F.CLK_XMODE_MODE = 0xB7 + 8 * bit v 3 + 64 * bit v 6 := by
  have h3 : bit v 3 < 2 := Nat.mod_lt _ (by decide)
  have h6 : bit v 6 < 2 := Nat.mod_lt _ (by decide)
  have hw : F.CLK_XMODE_MODE.width = 8 := rfl
  rw [State.writeXmode, State.rd_wr, hw]
  omega

end Sys2Proof.Machine
end

/-! ### Scope: the clock crossings -/

section
namespace Sys2Proof.Machine

open Sys2Proof

theorem exec_crossingTransfer_sample (x : Fin 8) (v : BitVec 32) (s : State) :
    exec (.crossingTransfer x (.sample v)) s = .next (s.xSample x v.toNat) := rfl

theorem exec_crossingTransfer_change (x : Fin 8) (v : BitVec 32) (s : State) :
    exec (.crossingTransfer x (.change v)) s = .next (s.xChange x v.toNat) := rfl

theorem exec_crossingTransfer_ack (x : Fin 8) (s : State) : exec (.crossingTransfer x .ack) s = .next (s.xAck x) := rfl

theorem exec_crossingTransfer_pulses (x : Fin 8) (n : Nat) (c : PmcId) (s : State) :
    exec (.crossingTransfer x (.pulses n c)) s = .next (s.xPulses x n c) := rfl

/-! #### Bits of a field that has one for each crossing -/

theorem hasBit_eq_testBit (v b : Nat) : hasBit v b = v.testBit b := by
  rw [hasBit, Nat.testBit_eq_decide_div_mod_eq]
  exact beq_eq_decide ..

theorem hasBit_withBit (v b : Nat) : hasBit (withBit v b) b = true := by
  unfold withBit
  split
  · assumption
  · next h =>
    rw [hasBit_eq_testBit] at h ⊢
    rw [Nat.add_comm, Nat.testBit_two_pow_add_eq, Bool.eq_false_of_not_eq_true h]
    rfl

theorem hasBit_mod_two_pow {w b : Nat} (v : Nat) (h : b < w) : hasBit (v % 2 ^ w) b = hasBit v b := by
  rw [hasBit_eq_testBit, hasBit_eq_testBit, Nat.testBit_mod_two_pow, decide_eq_true h, Bool.true_and]

/-- The bit of a crossing reads 1 once it is set. -/
theorem State.hasBit_rd_xbit (s : State) {f : Fld} {x : Nat} (h : x < f.width) : hasBit ((s.xbit f x true).rd f) x = true := by
  rw [State.xbit, State.rd_wr, if_pos rfl, hasBit_mod_two_pow _ h, hasBit_withBit]

theorem State.rd_xbit_ne (s : State) {f g : Fld} (x : Nat) (b : Bool) (h : f.reg ≠ g.reg ∨ f.lo ≠ g.lo) :
    (s.xbit f x b).rd g = s.rd g := State.rd_wr_ne _ _ _ _ _ _ h

theorem State.rd_stale_ne (s : State) {g : Fld} (x : Nat) (b : Bool)
    (h : F.CLK_XSTAT_STALE.reg ≠ g.reg ∨ F.CLK_XSTAT_STALE.lo ≠ g.lo) : (s.stale x b).rd g = s.rd g := by
  unfold State.stale
  split
  · exact State.rd_xbit_ne s x b h
  · rfl

theorem State.stale_selectable {x : Nat} (h : x = 3 ∨ x = 6) (s : State) (b : Bool) :
    s.stale x b = s.xbit F.CLK_XSTAT_STALE x b := if_pos h

/-! #### The hidden state of a crossing -/

@[simp] theorem State.xing_setXing (s : State) (x : Nat) (y : XingX) : (s.setXing x y).xing x = y := Store.get_put_eq _ _ _ _ _

@[simp] theorem State.setXing_regs (s : State) (x : Nat) (y : XingX) : (s.setXing x y).regs = s.regs := rfl

@[simp] theorem State.rd_setXing (s : State) (x : Nat) (y : XingX) (f : Fld) (i j : Nat) : (s.setXing x y).rd f i j = s.rd f i j := rfl

@[simp] theorem State.xing_wr (s : State) (f : Fld) (v i j x : Nat) : (s.wr f v i j).xing x = s.xing x := rfl

@[simp] theorem State.xing_bump (s : State) (f : Fld) (k i j x : Nat) : (s.bump f k i j).xing x = s.xing x := rfl

@[simp] theorem State.xing_xbit (s : State) (f : Fld) (x : Nat) (b : Bool) (z : Nat) : (s.xbit f x b).xing z = s.xing z := rfl

@[simp] theorem State.xing_stale (s : State) (x : Nat) (b : Bool) (z : Nat) : (s.stale x b).xing z = s.xing z := by
  unfold State.stale
  split <;> rfl

/-- Losing the records of the edge FIFOs touches no crossing and none of their registers. -/
theorem State.xing_loseFifos (s : State) (x : Nat) : s.loseFifos.xing x = s.xing x := by
  rw [State.xing, (State.loseFifos_does s).xings (by decide), State.xing]

theorem State.rd_loseFifos (s : State) {f : Fld} (h : f.reg = .CLK_XSTAT) : s.loseFifos.rd f = s.rd f :=
  (State.loseFifos_does s).rd f 0 0 (by rw [h]; decide)

/-! #### Double-sample mode (R545) -/

section
variable {s : State} {x v : Nat} (hc : carriesValue x = true) (hm : s.heldMode x = false)
include hc hm

/-- A value seen twice goes through. -/
theorem State.xSample_again (h : (s.xing x).last = some v) : ((s.xSample x v).xing x).dest = v := by
  simp [State.xSample, hc, hm, h]

/-- A new value is held for comparison only. -/
theorem State.xSample_new (h : (s.xing x).last ≠ some v) :
    ((s.xSample x v).xing x).dest = (s.xing x).dest ∧ ((s.xSample x v).xing x).last = some v := by
  simp [State.xSample, hc, hm, h, apply_ite (State.xing · x)]

/-- The sixteenth disagreement in a row sets NOAGREE. -/
theorem State.xSample_noAgree (hx : x < 8) (h : (s.xing x).last ≠ some v) (hl : (s.xing x).last.isSome = true)
    (hd : (s.xing x).differ = 15) : hasBit ((s.xSample x v).rd F.CLK_XSTAT_NOAGREE) x = true := by
  simp only [State.xSample, hc, hm, h, hl, hd, Bool.true_eq_false, Bool.false_eq_true, or_self, if_false, if_true]
  exact State.hasBit_rd_xbit _ hx

end

/-! #### Held-value mode (R546) -/

section
variable {s : State} {x v : Nat} (hc : carriesValue x = true) (hm : s.heldMode x = true)
include hc hm

/-- With no request open a change goes with one. -/
theorem State.xChange_free (hr : (s.xing x).req = false) :
    ((s.xChange x v).xing x).dest = v ∧ ((s.xChange x v).xing x).req = true := by
  simp [State.xChange, hc, hm, hr]

/-- With a request open a change waits, and a selectable crossing shows it in STALE. -/
theorem State.xChange_busy (hx : x < 8) (hr : (s.xing x).req = true) (hv : v ≠ (s.xing x).src) :
    ((s.xChange x v).xing x).dest = (s.xing x).dest ∧ ((s.xChange x v).xing x).newer = true ∧
      (x = 3 ∨ x = 6 → hasBit ((s.xChange x v).rd F.CLK_XSTAT_STALE) x = true) := by
  have hch : s.xChange x v = (s.setXing x { s.xing x with src := v, newer := true }).stale x true := by
    simp [State.xChange, hc, hm, hr, hv]
  rw [hch]
  refine ⟨by simp, by simp, fun hsel => ?_⟩
  rw [State.stale_selectable hsel]
  exact State.hasBit_rd_xbit _ hx

end

/-- The acknowledge of a request with a newer value behind it: the newest goes with the next (R546). -/
theorem State.xAck_newer {s : State} {x : Nat} (hf : (s.xing x).flight = 0) (hr : (s.xing x).req = true)
    (hn : (s.xing x).newer = true) : ((s.xAck x).xing x).dest = (s.xing x).src ∧ ((s.xAck x).xing x).req = true ∧
      ((s.xAck x).xing x).newer = false := by
  simp [State.xAck, hf, hr, hn]

theorem State.xAck_last {s : State} {x : Nat} (hf : (s.xing x).flight = 0) (hr : (s.xing x).req = true)
    (hn : (s.xing x).newer = false) : ((s.xAck x).xing x).req = false ∧ ((s.xAck x).xing x).dest = (s.xing x).dest := by
  simp [State.xAck, hf, hr, hn]

/-! #### Pulses and the flush (R548, R551) -/

/-- A pulse with one in flight and seven pending is lost: the crossing is marked and OVF set. -/
theorem State.xPulses_lost {s : State} {x : Nat} (hx : x < 8) (hc : carriesPulses x = true) (hf : (s.xing x).flight = 1)
    (hp : (s.xing x).pend = 7) (c : Nat) : ((s.xPulses x 1 c).xing x).pend = 7 ∧ ((s.xPulses x 1 c).xing x).marked = true ∧
      hasBit ((s.xPulses x 1 c).rd F.CLK_XSTAT_OVF) x = true := by
  unfold State.xPulses
  rw [if_neg (by simp [hc])]
  extract_lets y first kept lost s1 s2 k s3
  have hlost : lost = 1 := by simp [lost, kept, first, y, hf, hp]
  have hs2 : (s2.xing x).pend = 7 ∧ (s2.xing x).marked = true ∧ hasBit (s2.rd F.CLK_XSTAT_OVF) x = true := by
    refine ⟨by simp [s2, s1, kept, y, hp], by simp [s2, s1, hlost], ?_⟩
    rw [State.bump_rd_ne _ _ _ _ _ _ (.inl (by decide))]
    exact State.hasBit_rd_xbit _ hx
  obtain ⟨hpend, hmark, hovf⟩ := hs2
  clear_value s2
  rw [if_neg (by omega)]
  split
  · exact ⟨hpend, hmark, hovf⟩
  · split
    · rw [State.xing_wr, State.rd_wr_ne _ _ _ _ _ _ (.inl (by decide))]
      exact ⟨hpend, hmark, hovf⟩
    · exact ⟨hpend, hmark, hovf⟩

/-- A pulse with nothing in flight goes with a request. -/
theorem State.xPulses_sent {s : State} {x : Nat} (hc : carriesPulses x = true) (hf : (s.xing x).flight = 0)
    (hp : (s.xing x).pend = 0) (c : Nat) : ((s.xPulses x 1 c).xing x).flight = 1 ∧ (s.xPulses x 1 c).regs = s.regs := by
  simp [State.xPulses, hc, hf, hp]

/-- A flush empties the crossing and shows it in FLUSH; pulses that were on their way are lost, shown in OVF (R551). -/
theorem crossingFlush_empties (s : State) (x : Fin 8) : ∃ t, exec (.crossingFlush x) s = .next t ∧ t.xing x = {} ∧
    hasBit (t.rd F.CLK_XSTAT_FLUSH) x = true ∧
    (0 < (s.xing x).flight + (s.xing x).pend → hasBit (t.rd F.CLK_XSTAT_OVF) x = true) := by
  refine ⟨_, rfl, ?_⟩
  extract_lets y n s1 s2
  have hxing : s2.xing x = {} := by simp [s2]
  have hflush : hasBit (s2.rd F.CLK_XSTAT_FLUSH) x = true := by
    rw [State.rd_stale_ne _ _ _ (.inr (by decide))]
    exact State.hasBit_rd_xbit _ x.isLt
  have hovf : 0 < n → hasBit (s2.rd F.CLK_XSTAT_OVF) x = true := by
    intro hn
    have h1 : s1 = (s.xbit F.CLK_XSTAT_OVF x true).bump F.CLK_XOVF_COUNT n := if_pos hn
    rw [State.rd_stale_ne _ _ _ (.inr (by decide)), State.rd_xbit_ne _ _ _ (.inr (by decide)), State.rd_setXing, h1,
      State.bump_rd_ne _ _ _ _ _ _ (.inl (by decide))]
    exact State.hasBit_rd_xbit s x.isLt
  split
  · rw [State.xing_loseFifos, State.rd_loseFifos _ rfl, State.rd_loseFifos _ rfl]
    exact ⟨hxing, hflush, hovf⟩
  · exact ⟨hxing, hflush, hovf⟩

end Sys2Proof.Machine
end

/-! ### Scope: register accesses and clock crossings together -/

section
namespace Sys2Proof.Machine

open Sys2Proof

/-- A host access of four aligned bytes to the device's own window: carried out, waiting, or held in the shadow copies. -/
theorem hostAccess_outcomes {s : State} (h : HostWindow s) {dev : Fin 64} {offset : BitVec 21} (value : BitVec 32) {a : RegAt}
    (hd : dev.val = s.dev) (ho : offset.toNat % 4 = 0) (ha : decodeOffset offset.toNat = some a) (hb : behind s.xwait a = false) :
    (s.way a = .now → (eclkBlock (blockOf offset.toNat).1 && !s.shadowWr.isEmpty) = false →
      exec (.registerWrite dev offset 4 value) s = .next (s.regWrite a value.toNat) ∧
      ∃ t, exec (.registerRead dev offset 4) s = .next t ∧
        t = { (s.regRead a).2 with out := (s.regRead a).2.out ++ [OutMsg.value (s.regValue a)] }) ∧
    (s.way a = .wait → s.power ≠ 4 →
      (∃ t, exec (.registerWrite dev offset 4 value) s = .next t ∧ t.regs = s.regs ∧
        t.xwait = s.xwait ++ [XAcc.mk .host true offset.toNat value.toNat s.now]) ∧
      (∃ t, exec (.registerRead dev offset 4) s = .next t ∧ t.regs = s.regs ∧
        t.xwait = s.xwait ++ [XAcc.mk .host false offset.toNat 0 s.now])) ∧
    (s.way a = .shadow → s.shadowWr.length < 16 → ∃ t, exec (.registerWrite dev offset 4 value) s = .next t ∧ t.regs = s.regs ∧
      t.shadowWr = s.shadowWr ++ [(offset.toNat, value.toNat)] ∧
      t.wakeAsk = (if s.power < 1 then s.wakeAsk else withBit s.wakeAsk 0)) := by
  rw [exec_registerWrite, exec_registerRead, State.hostAccess_own h hd ho, State.hostAccess_own h hd ho]
  refine ⟨fun hw hs => ?_, fun hw hp => ?_, fun hw hn => ?_⟩
  · rw [State.access_now ha hw hb hs, State.access_now ha hw hb hs, State.perform_host_write, State.perform_host_read]
    exact ⟨rfl, _, rfl, rfl⟩
  · rw [State.access_wait ha hw hp, State.access_wait ha hw hp]
    exact ⟨⟨_, rfl, rfl, rfl⟩, _, rfl, rfl, rfl⟩
  · rw [State.access_shadow ha hw hn hb]
    exact ⟨_, rfl, State.askWake_regs s 0, rfl, State.askWake_wakeAsk s 0⟩

/-- Settles O59: the accesses by the way that an access takes, the crossings by what is on its way in them. -/
theorem registerAccessesAndClockCrossings : Obligations.RegisterAccessesAndClockCrossings := by
  intro s
  refine ⟨?own, ?unsupported, ?timeout, ?noAccess, ?crossing, ?apply, ?stopped, ?xmode⟩
  case own =>
    intro dev offset value a hanchor hstage hfail hd ho ha hb
    exact hostAccess_outcomes ⟨hanchor, hstage, hfail⟩ value hd ho ha hb
  case unsupported =>
    intro dev offset size value hanchor hstage hfail hu
    rw [exec_registerWrite, exec_registerRead, State.hostAccess_unsupported ⟨hanchor, hstage, hfail⟩ hu,
      State.hostAccess_unsupported ⟨hanchor, hstage, hfail⟩ hu]
    exact ⟨rfl, rfl⟩
  case timeout =>
    rintro x die offset _ a e hx hfrom rfl hoff ha hc hw ht
    rw [← hoff] at ha ⊢
    have hx1 : x.val = 1 ↔ x = 1 := (Fin.ext_iff (b := 1)).symm
    simp only [← hx1] at hc ⊢
    exact ⟨_, by rw [exec_crossingTimeout, ← hoff], State.accessTimeout_single hx hfrom ha hc hw ht⟩
  case noAccess =>
    intro x die offset write h
    rw [exec_crossingTimeout, State.accessTimeout_nil h]
  case crossing =>
    rintro x v _ rfl
    have sample := exec_crossingTransfer_sample x v s
    have change := exec_crossingTransfer_change x v s
    have ack := exec_crossingTransfer_ack x s
    have pulse := fun c => exec_crossingTransfer_pulses x 1 c s
    refine ⟨fun hc hm h => ⟨_, sample, State.xSample_again hc hm h⟩, fun hc hm h => ⟨_, sample, ?sampled⟩,
      fun hc hm hr => ⟨_, change, State.xChange_free hc hm hr⟩, fun hc hm hr hv => ⟨_, change, ?changed⟩,
      fun hf hr hn => ⟨_, ack, State.xAck_newer hf hr hn⟩, fun hf hr hn => ⟨_, ack, State.xAck_last hf hr hn⟩,
      fun c hc hf hp => ⟨_, pulse c, State.xPulses_lost x.isLt hc hf hp c⟩,
      fun c hc hf hp => ⟨_, pulse c, State.xPulses_sent hc hf hp c⟩, crossingFlush_empties s x⟩
    case sampled =>
      obtain ⟨hdest, hlast⟩ := State.xSample_new hc hm h
      exact ⟨hdest, hlast, State.xSample_noAgree hc hm x.isLt h⟩
    case changed =>
      obtain ⟨hdest, hnewer, hstale⟩ := State.xChange_busy hc hm x.isLt hr hv
      exact ⟨hdest, hnewer, fun hsel => hstale (hsel.imp (congrArg Fin.val) (congrArg Fin.val))⟩
  case apply =>
    intro off v a hp hl hs ha
    rw [exec_shadowWriteApply, State.applyShadow_single hp hl hs ha]
  case stopped =>
    intro h
    rw [exec_shadowWriteApply, State.applyShadow_stopped h]
  case xmode => exact fun value => ⟨_, exec_clkXmodeWrite value s, State.rd_writeXmode s _⟩

end Sys2Proof.Machine
end

/-! ### Scope: the parts of the state outside a command's list -/

section
namespace Sys2Proof.Machine

/-- Settles O4: a part outside a command's list is outside the list's mask, so the command's bounds keep it. -/
theorem partsFrame : Obligations.PartsFrame := fun _ _ _ h _ hp => (does_of_exec h).same (partMask_out hp)

end Sys2Proof.Machine
end

/-! ### Scope: the release sequence and the rollback counters -/

section
namespace Sys2Proof.Machine

open Sys2Proof

/-- A flag that an operation does not touch. -/
theorem Does.on {F R : Nat} {s t : State} (h : Does F R s t) (f : Fld) (i j : Nat) (hf : R.testBit f.reg.ctorIdx = false) :
    t.on f i j = s.on f i j := by
  rw [State.on, h.rd f i j hf, State.on]

/-- A flag reads as 1 once it is set. -/
theorem State.on_wr_one (s : State) {f : Fld} (i j : Nat) (h : 0 < f.width) : (s.wr f 1 i j).on f i j = true := by
  rw [State.on, State.rd_wr, Nat.mod_eq_of_lt (Nat.one_lt_two_pow h.ne')]
  rfl

/-! #### The start and the end of a release (R516) -/

/-- Every source has deasserted, no reset is deferred, and the boot has not failed: the release goes on (R516, R523). -/
structure ReleaseOpen (s : State) : Prop where
  seen : s.rst.seen ≠ 0
  now : s.rst.deferred = false
  sources : s.rst.on % 8 = 0
  noFail : s.rd F.RST_STAT_STAGE ≠ 15

theorem ReleaseOpen.goes {s : State} (h : ReleaseOpen s) :
    ¬(s.rst.seen = 0 ∨ s.rst.deferred = true ∨ s.rst.on % 8 ≠ 0 ∨ s.rd F.RST_STAT_STAGE = 15) := by
  obtain ⟨hs, hd, ho, hf⟩ := h
  simp [hs, hd, ho, hf]

theorem exec_resetRelease_closed {s : State} (b : BootIn)
    (h : s.rst.seen = 0 ∨ s.rst.deferred = true ∨ s.rst.on % 8 ≠ 0 ∨ s.rd F.RST_STAT_STAGE = 15) :
    exec (.resetRelease b) s = .next s := congrArg Host.Outcome.next (if_pos h)

section
variable {s : State} (h : ReleaseOpen s) (b : BootIn)
include h

theorem exec_resetRelease_level2 (hl : s.rst.level = 2) :
    exec (.resetRelease b) s = .next (if s.cplLeft then s else s.beginRelease.clearQueues.endRelease) :=
  congrArg Host.Outcome.next ((if_neg h.goes).trans (if_pos hl))

theorem exec_resetRelease_level1 (hl : s.rst.level = 1) (hr : s.rst.releasing = false) :
    exec (.resetRelease b) s = .next s.beginRelease :=
  congrArg Host.Outcome.next ((if_neg h.goes).trans ((if_neg (by omega)).trans ((if_pos hr).trans (if_pos hl))))

theorem exec_resetRelease_level0 (hl : s.rst.level = 0) (hr : s.rst.releasing = false) (hsup : s.badSup = []) :
    exec (.resetRelease b) s = .next ((((s.beginRelease.wr F.RST_STAT_STRAP b.strap.toNat).wr F.GLB_ROLE_ANCHOR
      (bit b.strap.toNat 0)).roleReset).wr F.RST_STAT_STAGE 1) := by
  have hsup' : ¬s.badSup.any (fun e => decide (e.1 ≤ 5) || e.1 == 10) = true := by simp [hsup]
  exact congrArg Host.Outcome.next ((if_neg h.goes).trans ((if_neg (by omega)).trans ((if_pos hr).trans
    ((if_neg (by omega)).trans (if_neg hsup')))))

/-- In the release sequence the stage decides what the command does. -/
theorem exec_resetRelease_stage (hl : s.rst.level ≠ 2) (hr : s.rst.releasing = true) :
    (b.done = false → 1 ≤ s.rd F.RST_STAT_STAGE → s.rd F.RST_STAT_STAGE ≤ 4 → exec (.resetRelease b) s = .next s) ∧
    (b.done = true → s.rd F.RST_STAT_STAGE = 1 →
      exec (.resetRelease b) s = .next ((s.wr F.GLB_UNITS_XTAL_OK 1).wr F.RST_STAT_STAGE 2)) ∧
    (b.done = true → s.rd F.RST_STAT_STAGE = 2 → exec (.resetRelease b) s = .next (s.otpStage b)) ∧
    (b.done = true → s.rd F.RST_STAT_STAGE = 3 → exec (.resetRelease b) s = .next (s.engineStage b)) ∧
    (b.done = true → s.rd F.RST_STAT_STAGE = 4 → exec (.resetRelease b) s = .next (s.firmwareStage b)) ∧
    (b.done = true → s.rd F.RST_STAT_STAGE = 5 → exec (.resetRelease b) s = .next (s.diesReport b).settleStage) := by
  have hr' : ¬s.rst.releasing = false := by simp [hr]
  have go : exec (.resetRelease b) s = .next _ :=
    congrArg Host.Outcome.next ((if_neg h.goes).trans ((if_neg hl).trans (if_neg hr')))
  rw [go]
  refine ⟨fun hd h1 h4 => ?_, fun hd hs => ?_, fun hd hs => ?_, fun hd hs => ?_, fun hd hs => ?_, fun hd hs => ?_⟩
  · obtain hs | hs | hs | hs : s.rd F.RST_STAT_STAGE = 1 ∨ s.rd F.RST_STAT_STAGE = 2 ∨ s.rd F.RST_STAT_STAGE = 3 ∨
      s.rd F.RST_STAT_STAGE = 4 := by omega
    all_goals simp [hs, hd]
  all_goals simp [hs, hd]

end

theorem State.beginRelease_rst (s : State) : s.beginRelease.rst = { s.rst with on := 0, releasing := true } := rfl

@[simp] theorem State.rd_endRelease (s : State) (f : Fld) (i j : Nat) : s.endRelease.rd f i j = s.rd f i j := rfl

/-- The release shows its level and its sources, and none as asserted. -/
theorem State.beginRelease_shows (s : State) :
    s.beginRelease.rd F.RST_STAT_LEVEL = s.rst.level % 2 ^ 2 ∧ s.beginRelease.rd F.RST_STAT_SRC = s.rst.seen % 2 ^ 6 ∧
      s.beginRelease.rd F.RST_STAT_ASSERT = 0 := by
  let u := ((s.wr F.RST_STAT_LEVEL s.rst.level).wr F.RST_STAT_SRC s.rst.seen).wr F.RST_STAT_ASSERT 0
  change u.rd F.RST_STAT_LEVEL = _ ∧ u.rd F.RST_STAT_SRC = _ ∧ u.rd F.RST_STAT_ASSERT = _
  simp (disch := decide) only [u, State.rd_wr, State.rd_wr_ne]
  exact ⟨rfl, rfl, rfl⟩

/-- A reset takes the fields that it picks and reaches to their reset values (R7). -/
theorem State.rd_resetRegs (s : State) (l : Lvl) (p : FKey → Bool) (f : Fld) (i j : Nat) :
    (s.resetRegs l p).rd f i j = if !(p (f.key i j) && (f.key i j).clears l) then s.rd f i j else (f.key i j).reset :=
  Store.get_filter s.regs (fun k => !(p k && k.clears l)) (f.key i j)

/-- Clearing the queues touches none but their own registers. -/
theorem State.rd_clearQueues (s : State) (f : Fld) (i j : Nat) (hf : hqRegs.contains f.reg = false) :
    s.clearQueues.rd f i j = s.rd f i j := by
  refine (State.rd_resetRegs s .l2 (fun k => hqRegs.contains k.reg) f i j).trans (if_pos ?_)
  rw [Fld.key, hf]
  rfl

/-- The release of a level 2 reset clears the queues and ends (R405, R516). -/
theorem State.release_level2 {s : State} (hl : s.rst.level = 2) :
    let t := s.beginRelease.clearQueues.endRelease
    t.rst.seen = 0 ∧ t.rst.on = 0 ∧ t.rst.level = 3 ∧ t.rd F.RST_STAT_LEVEL = 2 ∧ t.rd F.RST_STAT_SRC = s.rst.seen % 2 ^ 6 ∧
      t.rd F.RST_STAT_ASSERT = 0 ∧ t.qps = [] ∧ t.evrs = [] := by
  intro t
  have keeps (f : Fld) (hf : f.reg = .RST_STAT) : t.rd f = s.beginRelease.rd f := by
    refine State.rd_clearQueues s.beginRelease f 0 0 ?_
    rw [hf]
    decide
  obtain ⟨hlevel, hsrc, hassert⟩ := s.beginRelease_shows
  rw [keeps _ rfl, keeps _ rfl, keeps _ rfl, hlevel, hsrc, hassert, hl]
  exact ⟨rfl, rfl, rfl, rfl, rfl, rfl, rfl, rfl⟩

/-! #### Bits -/

/-- The bits of a number with one of them set. -/
theorem hasBit_withBit_eq (v b j : Nat) : hasBit (withBit v b) j = (decide (j = b) || hasBit v j) := by
  by_cases hj : j = b
  · subst hj; simp [hasBit_withBit]
  · rw [decide_eq_false hj, Bool.false_or]
    unfold withBit
    split
    · rfl
    · next h =>
      have heven : v / 2 ^ b % 2 = 0 := by simpa [hasBit] using h
      rw [hasBit_eq_testBit, hasBit_eq_testBit]
      rcases Nat.lt_or_gt_of_ne hj with hlt | hgt
      · rw [Nat.add_comm, Nat.testBit_two_pow_add_gt hlt]
      · have hdiv : (v + 2 ^ b) / 2 ^ (b + 1) = v / 2 ^ (b + 1) := by
          rw [Nat.pow_succ, ← Nat.div_div_eq_div_mul, ← Nat.div_div_eq_div_mul, Nat.add_div_right _ (Nat.two_pow_pos b)]
          omega
        obtain ⟨i, rfl⟩ := Nat.exists_eq_add_of_le' (Nat.succ_le_of_lt hgt)
        rw [← Nat.testBit_div_two_pow, hdiv, Nat.testBit_div_two_pow]

/-- The bits of a number with one of them cleared. -/
theorem hasBit_withoutBit_eq (v b j : Nat) : hasBit (withoutBit v b) j = (!decide (j = b) && hasBit v j) := by
  unfold withoutBit
  split
  · next h =>
    obtain ⟨w, rfl⟩ : ∃ w, v = w + 2 ^ b :=
      Nat.exists_eq_add_of_le' (Nat.ge_two_pow_of_testBit (by rwa [hasBit_eq_testBit] at h))
    have hw : hasBit w b = false := by
      rw [hasBit_eq_testBit, Nat.add_comm, Nat.testBit_two_pow_add_eq] at h
      rw [hasBit_eq_testBit]
      simpa using h
    have hv : w + 2 ^ b = withBit w b := by simp [withBit, hw]
    rw [Nat.add_sub_cancel, hv, hasBit_withBit_eq]
    by_cases hj : j = b
    · subst hj; simp [hw]
    · simp [hj]
  · next h =>
    by_cases hj : j = b
    · subst hj; simp [Bool.eq_false_of_not_eq_true h]
    · simp [hj]

/-! #### Folds over instances -/

/-- A fold over instances each of which writes a value of its own in a field of its own, where no step changes the values that the
later ones write. -/
theorem fold_writes {f : Fld} (v : State → Nat → Nat) (g : State → Nat → State) (hown : ∀ s p, (g s p).rd f p = v s p)
    (hval : ∀ s p q, v (g s p) q = v s q) (hoth : ∀ s p q, q ≠ p → (g s p).rd f q = s.rd f q) {l : List Nat} {p : Nat} (hp : p ∈ l)
    (s : State) : (l.foldl g s).rd f p = v s p := by
  induction l generalizing s with
  | nil => exact absurd hp List.not_mem_nil
  | cons a t ih =>
    by_cases ht : p ∈ t
    · rw [List.foldl_cons, ih ht, hval]
    · obtain rfl : p = a := (List.mem_cons.1 hp).resolve_right ht
      have keep : ∀ (t : List Nat) (s : State), p ∉ t → (t.foldl g s).rd f p = s.rd f p := by
        intro t
        induction t with
        | nil => exact fun _ _ => rfl
        | cons b t ih =>
          intro s h
          rw [List.mem_cons, not_or] at h
          rw [List.foldl_cons, ih _ h.2, hoth _ _ _ h.1]
      rw [List.foldl_cons, keep t _ ht, hown]

/-! #### The stages (R521 to R524) -/

/-- An anchor by its strap is the timing master; the sequence stands at stage XTAL (R22, R521). -/
theorem State.release_begins (s : State) (strap : BitVec 8) :
    let t := ((((s.beginRelease.wr F.RST_STAT_STRAP strap.toNat).wr F.GLB_ROLE_ANCHOR (bit strap.toNat 0)).roleReset).wr
      F.RST_STAT_STAGE 1)
    t.rst.releasing = true ∧ t.rd F.RST_STAT_STAGE = 1 ∧ t.rd F.RST_STAT_STRAP = strap.toNat ∧
      t.rd F.GLB_ROLE_ANCHOR = bit strap.toNat 0 ∧ t.rd F.GLB_ROLE_TMASTER = bit strap.toNat 0 := by
  intro t
  have hbit : bit strap.toNat 0 % 2 ^ 1 = bit strap.toNat 0 := Nat.mod_mod _ _
  let u := (s.beginRelease.wr F.RST_STAT_STRAP strap.toNat).wr F.GLB_ROLE_ANCHOR (bit strap.toNat 0)
  have hrole (f : Fld) (h : f.reg = .RST_STAT) : u.roleReset.rd f = u.rd f :=
    (State.roleReset_does u).rd f 0 0 (by rw [h]; decide)
  have hanchor : u.rd F.GLB_ROLE_ANCHOR = bit strap.toNat 0 := (State.rd_wr ..).trans hbit
  have hroles : u.roleReset.rd F.GLB_ROLE_ANCHOR = u.rd F.GLB_ROLE_ANCHOR ∧
      u.roleReset.rd F.GLB_ROLE_TMASTER = u.rd F.GLB_ROLE_ANCHOR % 2 ^ 1 := by
    unfold State.roleReset
    extract_lets a v
    have hv : v.rd F.GLB_ROLE_ANCHOR = u.rd F.GLB_ROLE_ANCHOR ∧ v.rd F.GLB_ROLE_TMASTER = u.rd F.GLB_ROLE_ANCHOR % 2 ^ 1 := by
      simp (disch := decide) only [v, a, State.rd_wr, State.rd_wr_ne, true_and]
      rfl
    split
    · exact ⟨(State.rd_wr_ne v 0 _ _ _ _ (.inl (by decide))).trans hv.1, (State.rd_wr_ne v 0 _ _ _ _ (.inl (by decide))).trans hv.2⟩
    · exact hv
  refine ⟨?_, State.rd_wr .., ?_, ?_, ?_⟩
  · exact congrArg RstX.releasing ((State.roleReset_does u).rst (by decide))
  · rw [State.rd_wr_ne _ _ _ _ _ _ (.inr (by decide)), hrole _ rfl, State.rd_wr_ne _ _ _ _ _ _ (.inl (by decide)), State.rd_wr]
    exact Nat.mod_eq_of_lt strap.isLt
  · rw [State.rd_wr_ne _ _ _ _ _ _ (.inl (by decide)), hroles.1, hanchor]
  · rw [State.rd_wr_ne _ _ _ _ _ _ (.inl (by decide)), hroles.2, hanchor, hbit]

/-- What an OTP load commits stands in the reset map and the trust counters: nothing that the commit does later touches them (R522). -/
theorem State.commitOtp_shows (s : State) (b : BootIn) :
    (s.commitOtp b).rd F.RST_MAP_MAP = Config.otpMap.toNat ∧ (s.commitOtp b).rd F.TRUST_STAT_FWCNT = s.fwcnt % 2 ^ 8 ∧
      (s.commitOtp b).rd F.TRUST_STAT_UCCNT = s.uccnt % 2 ^ 8 := by
  unfold State.commitOtp
  extract_lets s1 s2 s3 s4 s5 s6 s7
  have hrst : s3.rst = s.rst := fold_keeps _ State.rst (fun _ _ => by rfl) _ s2
  have hmap : s3.rd F.RST_MAP_MAP = Config.otpMap.toNat := by
    have h2 : s2.rd F.RST_MAP_MAP = Config.otpMap.toNat % 2 ^ F.RST_MAP_MAP.width := by
      simp (disch := decide) only [s2, s1, State.rd_wr, State.rd_wr_ne]
    rw [State.foldl_wr_rd F.FAB_PTRIM_DTRIM (fun _ p => (Config.otpDtrim p).toNat) (fun _ p => p) _ (by decide), h2]
    exact Nat.mod_eq_of_lt Config.otpMap.isLt
  have h4 : s4.rd F.RST_MAP_MAP = Config.otpMap.toNat ∧ s4.rd F.TRUST_STAT_FWCNT = s.fwcnt % 2 ^ 8 ∧
      s4.rd F.TRUST_STAT_UCCNT = s.uccnt % 2 ^ 8 := by
    simp (disch := decide) only [s4, State.rd_wr, State.rd_wr_ne, hmap, State.fwcnt, State.uccnt, hrst]
    exact ⟨trivial, rfl, rfl⟩
  clear_value s4
  have later (f : Fld) (hf : f.reg = .RST_MAP ∨ f.reg = .TRUST_STAT) : s7.rd f = s4.rd f := by
    have h5 : s5.rd f = s4.rd f := by simp only [s5]; split <;> rfl
    have h6 : s6.rd f = s5.rd f := (State.readSafe_does s5).rd f 0 0 (by rcases hf with h | h <;> rw [h] <;> decide)
    have h7 : s7.rd f = s6.rd f := fold_keeps _ (State.rd · f) (fun s k => by split <;> rfl) _ _
    rw [h7, h6, h5]
  rw [← later _ (.inl rfl), ← later _ (.inr rfl), ← later _ (.inr rfl)] at h4
  clear_value s7
  split
  · exact h4
  · extract_lets acked s8
    have h8 : s8.rd F.RST_MAP_MAP = s7.rd F.RST_MAP_MAP ∧ s8.rd F.TRUST_STAT_FWCNT = s7.rd F.TRUST_STAT_FWCNT ∧
        s8.rd F.TRUST_STAT_UCCNT = s7.rd F.TRUST_STAT_UCCNT := by
      simp (disch := decide) only [s8, State.rd_wr_ne, and_self]
    rw [← h8.1, ← h8.2.1, ← h8.2.2] at h4
    split
    · simpa (disch := decide) only [State.rd_wr_ne] using h4
    · exact h4

theorem State.otpStage_passed (s : State) {b : BootIn} (h : b.otpBad = none) :
    (s.otpStage b).rd F.RST_STAT_STAGE = 3 ∧ (s.otpStage b).rd F.RST_MAP_MAP = Config.otpMap.toNat ∧
      (s.otpStage b).rd F.TRUST_STAT_FWCNT = s.fwcnt % 2 ^ 8 ∧ (s.otpStage b).rd F.TRUST_STAT_UCCNT = s.uccnt % 2 ^ 8 := by
  have hstage : s.otpStage b = ((s.wr F.RST_STAT_TRIES (s.rd F.RST_STAT_TRIES + 1)).commitOtp b).wr F.RST_STAT_STAGE 3 := by
    simp only [State.otpStage, h]
  have hc := (s.wr F.RST_STAT_TRIES (s.rd F.RST_STAT_TRIES + 1)).commitOtp_shows b
  rw [hstage, State.rd_wr]
  simp (disch := decide) only [State.rd_wr_ne]
  exact ⟨rfl, hc⟩

/-- The third failed load ends in BOOTFAIL (R523). -/
theorem State.otpStage_failed {s : State} {b : BootIn} {a : Nat} (h : b.otpBad = some a) (hs : s.rd F.RST_STAT_STAGE = 2)
    (ht : s.rd F.RST_STAT_TRIES < 3) : (s.otpStage b).rd F.RST_STAT_TRIES = s.rd F.RST_STAT_TRIES + 1 ∧
      (s.otpStage b).rd F.RST_STAT_STAGE = if s.rd F.RST_STAT_TRIES = 2 then 15 else 2 := by
  have htries : (s.wr F.RST_STAT_TRIES (s.rd F.RST_STAT_TRIES + 1)).rd F.RST_STAT_TRIES = s.rd F.RST_STAT_TRIES + 1 := by
    rw [State.rd_wr]
    exact Nat.mod_eq_of_lt (show _ < 4 by omega)
  unfold State.otpStage
  extract_lets tries s1
  rw [h]
  dsimp only
  split
  · rw [if_neg (by omega), ← hs]
    exact ⟨htries, State.rd_wr_ne _ _ _ _ _ _ (.inr (by decide))⟩
  · rw [if_pos (by omega)]
    rw [State.rd_endRelease, State.rd_endRelease, State.rd_wr_ne _ _ _ _ _ _ (.inr (by decide)), State.rd_wr]
    exact ⟨htries, rfl⟩

/-- The safe codes stand in the idle codes of the waveform outputs (R337). -/
theorem State.applySafe_idle (s : State) (w : WaveId) : s.applySafe.rd F.AWG_IDLE_IDLE w = s.safeWave.getD w 0 % 2 ^ 14 := by
  unfold State.applySafe
  extract_lets s1 s2
  have hsafe : s1.safeWave = s.safeWave := fold_keeps _ State.safeWave (fun _ _ => by rfl) _ s
  have h2 : s2.rd F.AWG_IDLE_IDLE w = s1.safeWave.getD w 0 % 2 ^ 14 := by
    refine fold_writes (fun s p => s.safeWave.getD p 0 % 2 ^ 14) _ (fun s p => ?_) (fun s p q => ?_) (fun s p q h => ?_)
      (List.mem_range.2 w.isLt) s1
    · exact State.rd_wr s ..
    · rfl
    · exact State.rd_wr_inst s _ _ _ _ _ _ (.inl h)
  rw [← hsafe, ← h2]
  refine fold_keeps _ (State.rd · F.AWG_IDLE_IDLE w) (fun s k => ?_) _ _
  refine fold_keeps _ (State.rd · F.AWG_IDLE_IDLE w) (fun s q => ?_) _ _
  simp (disch := decide) only [State.rd_wr_ne]

theorem State.engineStage_ends (s : State) (b : BootIn) : (s.engineStage b).on F.GLB_UNITS_ECLK_LOCK = true ∧
    (s.engineStage b).rd F.RST_STAT_STAGE = (if hasBit (s.rd F.RST_STAT_STRAP) 1 then 14 else 4) ∧
    ∀ w : WaveId, (s.engineStage b).rd F.AWG_IDLE_IDLE w = s.safeWave.getD w 0 % 2 ^ 14 := by
  unfold State.engineStage
  extract_lets s1 s2 x y s3
  have hsafe : Does 0x800 0x1e0000000000000000004001a00000000000000000000000000000000000000000 (s.wr F.GLB_UNITS_ECLK_LOCK 1) s1 :=
    State.applySafe_does _
  have hidle (w : WaveId) : s1.rd F.AWG_IDLE_IDLE w = s.safeWave.getD w 0 % 2 ^ 14 := State.applySafe_idle _ w
  clear_value s1
  have hlink (f : Fld) (i : Nat) (hf : F.HQ_LINK_WIDTH.reg ≠ f.reg) : s2.rd f i = s1.rd f i := by
    simp only [s2]
    split
    · rw [State.rd_wr_ne (f := F.HQ_LINK_SPEED) _ _ _ _ _ _ (.inl hf), State.rd_wr_ne _ _ _ _ _ _ (.inl hf)]
    · rfl
  have hrd (f : Fld) (i : Nat) : s3.rd f i = s2.rd f i := rfl
  clear_value s3
  refine ⟨?_, ?_, fun w => ?_⟩
  · rw [State.on, State.rd_wr_ne _ _ _ _ _ _ (.inl (by decide)), hrd, hlink _ _ (by decide), hsafe.rd _ _ _ (by decide), State.rd_wr]
    rfl
  · rw [State.rd_wr, hrd, hlink _ _ (by decide), hsafe.rd _ _ _ (by decide), State.rd_wr_ne _ _ _ _ _ _ (.inl (by decide))]
    split <;> rfl
  · rw [State.rd_wr_ne _ _ _ _ _ _ (.inl (by decide)), hrd, hlink _ _ (by decide), hidle]

/-- Of the reset state the boot of the firmware changes its digest only. -/
theorem State.bootFirmware_rst (s : State) (b : BootIn) : ∃ x, (s.bootFirmware b).rst = { s.rst with fwDigest := x } := by
  unfold State.bootFirmware
  split
  · exact ⟨_, rfl⟩
  · split
    · exact ⟨_, rfl⟩
    · extract_lets img code
      split <;> exact ⟨_, rfl⟩

/-- One more pin die leaves reset, where its supplies are in range; the last ends the stage (R10, R521, R585). -/
theorem State.firmwareStage_releases {s : State} (b : BootIn) (hs : s.rd F.RST_STAT_STAGE = 4) (ht : s.rst.dieT = none)
    (hn : s.rst.dieN < 4) : (s.firmwareStage b).rst.dieN = s.rst.dieN + 1 ∧ (s.firmwareStage b).rst.dieT = some s.now ∧
      (s.firmwareStage b).rst.dies = (if s.starved s.rst.dieN then s.rst.dies else withBit s.rst.dies s.rst.dieN) ∧
      (s.firmwareStage b).rd F.RST_STAT_STAGE = if s.rst.dieN = 3 then 5 else 4 := by
  unfold State.firmwareStage
  extract_lets s1 wait s2
  obtain ⟨x, hrst⟩ : ∃ x, s1.rst = { s.rst with fwDigest := x } := by
    simp only [s1]
    split
    · exact s.bootFirmware_rst b
    · exact ⟨_, rfl⟩
  have hboot : Does 0x5000002000000 0x1c00 s s1 :=
    Does.ite (fun _ => State.bootFirmware_does s b) (fun _ => Does.refl ..)
  have hnow : s1.now = s.now := hboot.now (by decide)
  have hsup : s1.badSup = s.badSup := hboot.badSup (by decide)
  have hstage : s1.rd F.RST_STAT_STAGE = 4 := (hboot.rd F.RST_STAT_STAGE 0 0 (by decide)).trans hs
  have hwait : ¬wait = true := by simp [wait, hrst, ht]
  rw [if_neg hwait]
  have h2 : s2.rst = { s1.rst with
      dies := if s1.starved s1.rst.dieN then s1.rst.dies else withBit s1.rst.dies s1.rst.dieN
      dieN := s1.rst.dieN + 1
      dieT := some s1.now } := rfl
  have hstage2 : s2.rd F.RST_STAT_STAGE = 4 := (State.rd_wr_ne _ _ _ _ _ _ (.inl (by decide))).trans hstage
  rw [hrst, State.starved, hsup, hnow] at h2
  clear_value s2
  by_cases hlast : s.rst.dieN = 3
  · rw [if_pos (by rw [h2]; simp [hlast]), if_pos hlast, State.wr_rst, h2, State.rd_wr]
    exact ⟨rfl, rfl, rfl, rfl⟩
  · rw [if_neg (by rw [h2]; simp; omega), if_neg hlast, h2, hstage2]
    exact ⟨rfl, rfl, rfl, rfl⟩

/-- A die that reports sets its bit of PD_OK (R11). -/
theorem State.dieReports_dieOk (s : State) (k : Nat) {j : Nat} (hj : j < 4) :
    (s.dieReports k).dieOk j = (decide (j = k) || s.dieOk j) := by
  have hok : (s.dieReports k).rd F.GLB_UNITS_PD_OK = withBit (s.rd F.GLB_UNITS_PD_OK) k % 2 ^ 4 :=
    ((State.endLive_does _ _ _).rd F.GLB_UNITS_PD_OK 0 0 (by decide)).trans (State.rd_wr ..)
  rw [State.dieOk, hok, hasBit_mod_two_pow _ hj, hasBit_withBit_eq, State.dieOk]

/-- The dies that have passed their check, and those in order before, are in order after the report (R11). -/
theorem State.diesReport_dieOk (s : State) (b : BootIn) {j : Nat} (hj : j < 4)
    (h : (hasBit s.rst.dies j = true ∧ hasBit b.dies.toNat j = true) ∨ s.dieOk j = true) : (s.diesReport b).dieOk j = true := by
  have key : ∀ (l : List Nat) (t : State), t.rst = s.rst →
      t.dieOk j = true ∨ (j ∈ l ∧ hasBit s.rst.dies j = true ∧ hasBit b.dies.toNat j = true) →
      (l.foldl (fun (t : State) (k : Nat) =>
        if hasBit t.rst.dies k ∧ hasBit b.dies.toNat k ∧ t.dieOk k = false then t.dieReports k else t) t).dieOk j = true := by
    intro l
    induction l with
    | nil => exact fun t _ h => h.resolve_right (fun h => absurd h.1 List.not_mem_nil)
    | cons k l ih =>
      intro t ht h
      rw [List.foldl_cons]
      refine ih _ ?_ ?_
      · split
        · exact ((State.dieReports_does t k).rst (by decide)).trans ht
        · exact ht
      · split
        · next hrep =>
          rw [State.dieReports_dieOk t k hj]
          rcases h with h | ⟨hm, h⟩
          · simp [h]
          · rcases List.mem_cons.1 hm with rfl | hm
            · simp
            · exact .inr ⟨hm, h⟩
        · next hrep =>
          rcases h with h | ⟨hm, h⟩
          · exact .inl h
          · rcases List.mem_cons.1 hm with rfl | hm
            · refine .inl (Bool.eq_true_of_not_eq_false fun hok => hrep ?_)
              rw [ht]
              exact ⟨h.1, h.2, hok⟩
            · exact .inr ⟨hm, h⟩
  exact key _ s rfl (h.symm.imp_right fun h => ⟨List.mem_range.2 hj, h⟩)

theorem State.settleStage_ends (s : State) : s.settleStage.rd F.RST_STAT_STAGE = 7 ∧ s.settleStage.rst.seen = 0 ∧
    s.settleStage.rst.releasing = false := by
  unfold State.settleStage
  extract_lets s1
  rw [State.rd_endRelease, State.rd_wr]
  exact ⟨rfl, rfl, rfl⟩

theorem State.settleStage_dieOk (s : State) (j : Nat) : s.settleStage.dieOk j = s.dieOk j := by
  rw [State.dieOk, (State.settleStage_does s).rd F.GLB_UNITS_PD_OK 0 0 (by decide), State.dieOk]

/-! #### The rollback counters and the key slots (R534) -/

/-- Whether a rollback counter may not be raised to a value: above 64, or above the version of what runs. -/
def State.rollRefused (s : State) (fw : Bool) (v : Nat) : Bool :=
  decide (v > 64) || (if fw then s.rd F.TRUST_STAT_FWSRC != 0 && decide (v > s.rd F.TRUST_FWSVN_SVN)
    else (List.range 256).any (fun p => s.rd F.ENG_UIMG_IMG_ID p != 0 && decide (s.rd F.ENG_USVN_SVN p < v)))

theorem State.rollup_eq (s : State) (fw : Bool) (v : Nat) (verified : Bool) : s.rollup fw v verified =
    if s.trustBusy then s else if s.rollRefused fw v then s.trustRes 3
    else if v ≤ (if fw then s.fwcnt else s.uccnt) then s.trustRes 2
    else if verified = false then (s.detect 54 0 0).trustRes 4
    else if fw then ({ s with rst := { s.rst with fwcnt := v } }.wr F.TRUST_STAT_FWCNT v).trustRes 2
    else ({ s with rst := { s.rst with uccnt := v } }.wr F.TRUST_STAT_UCCNT v).trustRes 2 := rfl

theorem State.rollRefused_above {s : State} {v : Nat} (h : 64 < v) (fw : Bool) : s.rollRefused fw v = true := by
  simp [State.rollRefused, h]

theorem State.rollRefused_fw {s : State} {v : Nat} (h : v ≤ 64) (hv : s.rd F.TRUST_STAT_FWSRC = 0 ∨ v ≤ s.rd F.TRUST_FWSVN_SVN) :
    s.rollRefused true v = false := by
  rcases hv with hv | hv <;> simp [State.rollRefused, h, hv]

theorem State.rollRefused_uc {s : State} {v : Nat} (h : v ≤ 64)
    (hv : ∀ p : PodId, s.rd F.ENG_UIMG_IMG_ID p = 0 ∨ v ≤ s.rd F.ENG_USVN_SVN p) : s.rollRefused false v = false := by
  have hany : (List.range 256).any (fun p => s.rd F.ENG_UIMG_IMG_ID p != 0 && decide (s.rd F.ENG_USVN_SVN p < v)) = false := by
    refine List.any_eq_false.2 fun p hp => ?_
    rcases hv ⟨p, List.mem_range.1 hp⟩ with hp | hp <;> simp_all
  simp [State.rollRefused, h, hany]

section
variable {s : State} (hb : s.trustBusy = false)
include hb

theorem State.rollup_refused {fw : Bool} {v : Nat} (h : s.rollRefused fw v = true) (verified : Bool) :
    s.rollup fw v verified = s.trustRes 3 := by simp [State.rollup_eq, hb, h]

/-- A counter that stands at the value already is left there. -/
theorem State.rollup_stands {fw : Bool} {v : Nat} (h : s.rollRefused fw v = false) (hv : v ≤ if fw then s.fwcnt else s.uccnt)
    (verified : Bool) : s.rollup fw v verified = s.trustRes 2 := by
  rw [State.rollup_eq, hb, h, if_neg Bool.false_ne_true, if_neg Bool.false_ne_true, if_pos hv]

theorem State.rollup_failed {fw : Bool} {v : Nat} (h : s.rollRefused fw v = false) (hv : ¬v ≤ if fw then s.fwcnt else s.uccnt) :
    s.rollup fw v false = (s.detect 54 0 0).trustRes 4 := by
  rw [State.rollup_eq, hb, h, if_neg Bool.false_ne_true, if_neg Bool.false_ne_true, if_neg hv, if_pos rfl]

/-- A verified programming raises the counter of the firmware. -/
theorem State.rollup_fw {v : Nat} (h : s.rollRefused true v = false) (hv : s.fwcnt < v) (hw : v < 2 ^ 8) :
    (s.rollup true v true).rd F.TRUST_RES_RESULT = 2 ∧ (s.rollup true v true).fwcnt = v ∧
      (s.rollup true v true).rd F.TRUST_STAT_FWCNT = v := by
  have hroll : s.rollup true v true = ({ s with rst := { s.rst with fwcnt := v } }.wr F.TRUST_STAT_FWCNT v).trustRes 2 := by
    simp [State.rollup_eq, hb, h, hv]
  rw [hroll, State.trustRes, State.rd_wr, State.rd_wr_ne _ _ _ _ _ _ (.inl (by decide)), State.rd_wr]
  exact ⟨rfl, max_eq_right ((le_max_left _ _).trans hv.le), Nat.mod_eq_of_lt hw⟩

/-- A verified programming raises the counter of the images. -/
theorem State.rollup_uc {v : Nat} (h : s.rollRefused false v = false) (hv : s.uccnt < v) (hw : v < 2 ^ 8) :
    (s.rollup false v true).rd F.TRUST_RES_RESULT = 2 ∧ (s.rollup false v true).uccnt = v ∧
      (s.rollup false v true).rd F.TRUST_STAT_UCCNT = v := by
  have hroll : s.rollup false v true = ({ s with rst := { s.rst with uccnt := v } }.wr F.TRUST_STAT_UCCNT v).trustRes 2 := by
    simp [State.rollup_eq, hb, h, hv]
  rw [hroll, State.trustRes, State.rd_wr, State.rd_wr_ne _ _ _ _ _ _ (.inl (by decide)), State.rd_wr]
  exact ⟨rfl, max_eq_right ((le_max_left _ _).trans hv.le), Nat.mod_eq_of_lt hw⟩

theorem State.revokeSlot_stands {v : Nat} (h : hasBit s.revokedNow (v % 4) = true) (verified : Bool) :
    s.revokeSlot v verified = s.trustRes 2 := by simp [State.revokeSlot, hb, h]

/-- The slot of the firmware that runs is not revoked. -/
theorem State.revokeSlot_refused {v : Nat} (h : hasBit s.revokedNow (v % 4) = false) (hsrc : s.rd F.TRUST_STAT_FWSRC ≠ 0)
    (hslot : s.rd F.TRUST_STAT_KEYSLOT = v % 4) (verified : Bool) : s.revokeSlot v verified = s.trustRes 3 := by
  simp [State.revokeSlot, hb, h, hsrc, hslot]

/-- With another usable slot left, a slot that nothing runs from may be revoked: its programming decides. -/
theorem State.revokeSlot_programs {v : Nat} (h : hasBit s.revokedNow (v % 4) = false) (hsrc : s.rd F.TRUST_STAT_FWSRC = 0)
    (hleft : ∃ j : Fin 4, j.val ≠ v % 4 ∧ (Config.keyDigest j).isSome = true ∧ hasBit s.revokedNow j = false) (verified : Bool) :
    s.revokeSlot v verified = if verified = false then (s.detect 54 0 0).trustRes 4
      else let u : State := { s with rst := { s.rst with revoked := withBit s.rst.revoked (v % 4) } }
        (u.wr F.TRUST_STAT_REVOKED u.revokedNow).trustRes 2 := by
  obtain ⟨j, hj, hkey, hrev⟩ := hleft
  have hany : (List.range 4).any (fun j => j != v % 4 && ((Config.keyDigest j).isSome && !hasBit s.revokedNow j)) = true :=
    List.any_eq_true.2 ⟨j, List.mem_range.2 j.isLt, by simp [hj, hkey, hrev]⟩
  simp only [State.revokeSlot, hb, h, hsrc, hany]
  simp

end

/-- A slot whose bit is programmed is revoked, and TRUST_STAT shows it. -/
theorem State.revoked_shows (s : State) {k : Nat} (hk : k < 4) :
    let u : State := { s with rst := { s.rst with revoked := withBit s.rst.revoked k } }
    let t := (u.wr F.TRUST_STAT_REVOKED u.revokedNow).trustRes 2
    t.rd F.TRUST_RES_RESULT = 2 ∧ hasBit t.revokedNow k = true ∧ hasBit (t.rd F.TRUST_STAT_REVOKED) k = true := by
  intro u t
  have hu : hasBit u.revokedNow k = true := by
    rw [hasBit_eq_testBit]
    change (Config.otpRevoked.toNat ||| withBit s.rst.revoked k).testBit k = true
    rw [Nat.testBit_or, ← hasBit_eq_testBit _ k, ← hasBit_eq_testBit _ k, hasBit_withBit, Bool.or_true]
  refine ⟨State.rd_wr .., hu, ?_⟩
  change hasBit (((u.wr F.TRUST_STAT_REVOKED u.revokedNow).wr F.TRUST_RES_RESULT 2).rd F.TRUST_STAT_REVOKED) k = true
  rw [State.rd_wr_ne _ _ _ _ _ _ (.inl (by decide)), State.rd_wr,
    hasBit_mod_two_pow _ (show k < F.TRUST_STAT_REVOKED.width from hk), hu]

theorem exec_rollupFw (value : BitVec 8) (verified : Bool) (s : State) :
    exec (.rollupFw value verified) s = .next (s.rollup true value.toNat verified) := rfl

theorem exec_rollupUc (value : BitVec 8) (verified : Bool) (s : State) :
    exec (.rollupUc value verified) s = .next (s.rollup false value.toNat verified) := rfl

theorem exec_revoke (value : BitVec 8) (verified : Bool) (s : State) :
    exec (.revoke value verified) s = .next (s.revokeSlot value.toNat verified) := rfl

theorem State.trustRes_result (s : State) {r : Nat} (h : r < 8) : (s.trustRes r).rd F.TRUST_RES_RESULT = r :=
  (State.rd_wr ..).trans (Nat.mod_eq_of_lt h)

theorem State.trustRes_rst (s : State) (r : Nat) : (s.trustRes r).rst = s.rst := rfl

/-- Settles O58: the release by level and by stage, then what TRUST_CTL asks for. -/
theorem releaseGoesByStagesAndTrustIsRaised : Obligations.ReleaseGoesByStagesAndTrustIsRaised := by
  intro s
  refine ⟨fun b => ⟨exec_resetRelease_closed b, fun hseen hdef hon hfail => ?release⟩, fun h => ⟨_, rfl, ?hold⟩, fun h => ?noHold,
    fun value verified hb => ⟨fun hv => ?above, fun hv hsvn => ?fw, fun hv hsvn => ?uc, ?slot⟩, fun hb value verified => ?busy,
    ⟨_, rfl, State.rd_wr ..⟩⟩
  case release =>
    have h : ReleaseOpen s := ⟨hseen, hdef, hon, hfail⟩
    refine ⟨fun hl hc => ?_, fun hl hc => ?_, fun hl hr => ?_, fun hl hr hsup => ?_, fun hl hr => ?_⟩
    · rw [exec_resetRelease_level2 h b hl, hc]
      exact ⟨_, rfl, State.release_level2 hl⟩
    · rw [exec_resetRelease_level2 h b hl, hc]
      rfl
    · obtain ⟨hlevel, hsrc, -⟩ := s.beginRelease_shows
      rw [hl] at hlevel
      exact ⟨_, exec_resetRelease_level1 h b hl hr, rfl, rfl, hlevel, hsrc⟩
    · exact ⟨_, exec_resetRelease_level0 h b hl hr hsup, s.release_begins b.strap⟩
    · obtain ⟨hwait, hxtal, hload, hengine, hfirmware, hsettle⟩ := exec_resetRelease_stage h b hl hr
      refine ⟨hwait, fun hd hs => ⟨_, hxtal hd hs, State.rd_wr .., ?_⟩,
        fun hd hs hotp => ⟨_, hload hd hs, s.otpStage_passed hotp⟩,
        fun a hd hs hotp ht => ⟨_, hload hd hs, State.otpStage_failed hotp hs ht⟩,
        fun hd hs => ⟨_, hengine hd hs, s.engineStage_ends b⟩,
        fun hd hs ht hn => ⟨_, hfirmware hd hs, State.firmwareStage_releases b hs ht hn⟩,
        fun hd hs => ⟨_, hsettle hd hs, ?_⟩⟩
      · rw [State.on, State.rd_wr_ne _ _ _ _ _ _ (.inl (by decide)), State.rd_wr]
        rfl
      · obtain ⟨hstage, hseen, hrel⟩ := (s.diesReport b).settleStage_ends
        refine ⟨hstage, hseen, hrel, fun k hk hb => ?_⟩
        rw [State.settleStage_dieOk]
        exact s.diesReport_dieOk b k.isLt (.inl ⟨hk, hb⟩)
  case hold =>
    rw [State.leaveHold, if_pos h, State.rd_wr]
    rfl
  case noHold => exact congrArg Host.Outcome.next (if_neg h)
  case above =>
    rw [exec_rollupFw, exec_rollupUc, State.rollup_refused hb (State.rollRefused_above hv _),
      State.rollup_refused hb (State.rollRefused_above hv _)]
    exact ⟨_, _, rfl, rfl, State.trustRes_result s (by decide), State.trustRes_result s (by decide), rfl, rfl⟩
  case fw =>
    have hr := State.rollRefused_fw hv hsvn
    refine ⟨fun hc => ?_, fun hc hver => ?_, fun hc hver => ?_⟩
    · rw [exec_rollupFw, State.rollup_stands hb hr hc]
      exact ⟨_, rfl, State.trustRes_result s (by decide), rfl⟩
    · rw [exec_rollupFw, hver]
      exact ⟨_, rfl, State.rollup_fw hb hr hc value.isLt⟩
    · rw [exec_rollupFw, hver, State.rollup_failed hb hr (Nat.not_le.2 hc)]
      exact ⟨_, rfl, State.trustRes_result _ (by decide), rfl, rfl⟩
  case uc =>
    have hr := State.rollRefused_uc hv hsvn
    refine ⟨fun hc => ?_, fun hc hver => ?_⟩
    · rw [exec_rollupUc, State.rollup_stands hb hr hc]
      exact ⟨_, rfl, State.trustRes_result s (by decide), rfl⟩
    · rw [exec_rollupUc, hver]
      exact ⟨_, rfl, State.rollup_uc hb hr hc value.isLt⟩
  case slot =>
    rintro _ rfl
    rw [exec_revoke]
    refine ⟨fun hrev => ?_, fun hrev hsrc hslot => ?_, fun hrev hsrc hleft => ?_⟩
    · rw [State.revokeSlot_stands hb hrev]
      exact ⟨_, rfl, State.trustRes_result s (by decide), rfl⟩
    · rw [State.revokeSlot_refused hb hrev hsrc hslot]
      exact ⟨_, rfl, State.trustRes_result s (by decide), rfl⟩
    · rw [State.revokeSlot_programs hb hrev hsrc hleft]
      refine ⟨fun hver => ?_, fun hver => ?_⟩
      · rw [hver]
        exact ⟨_, rfl, s.revoked_shows (Nat.mod_lt _ (by decide))⟩
      · rw [hver]
        exact ⟨_, rfl, State.trustRes_result _ (by decide), rfl⟩
  case busy =>
    rw [exec_rollupFw, exec_rollupUc, exec_revoke, State.rollup_eq, State.rollup_eq, State.revokeSlot, hb]
    exact ⟨rfl, rfl, rfl⟩

end Sys2Proof.Machine
end

/-! ### Scope: live causes, die links and supplies -/

section
namespace Sys2Proof.Machine

open Sys2Proof

/-! #### Folds whose steps each bring one unit to a value -/

/-- Where a step brings its own unit to a value and takes none from it, a fold brings every unit it names to that value. -/
theorem fold_attains {α β : Type} {v : β} (g : State → α → State) (obs : State → α → β) (hown : ∀ s p, obs (g s p) p = v)
    (hkeep : ∀ s p q, q ≠ p → obs s q = v → obs (g s p) q = v) {l : List α} {q : α} (hq : q ∈ l) (s : State) :
    obs (l.foldl g s) q = v := by
  have stay (s : State) (p : α) (h : obs s q = v) : obs (g s p) q = v := by
    by_cases hqp : q = p
    · exact hqp ▸ hown s q
    · exact hkeep s p q hqp h
  have key : ∀ (l : List α) (s : State), q ∈ l ∨ obs s q = v → obs (l.foldl g s) q = v := by
    intro l
    induction l with
    | nil => exact fun s h => h.resolve_left List.not_mem_nil
    | cons p l ih =>
      intro s h
      refine ih (g s p) ?_
      rcases h with h | h
      · rcases List.mem_cons.1 h with rfl | h
        · exact .inr (hown s q)
        · exact .inl h
      · exact .inr (stay s p h)
  exact key l s (.inl hq)

/-- What every step of a fold leaves alone, the fold leaves alone. -/
theorem Does.each {α : Type} {F R : Nat} {g : State → α → State} (h : ∀ s a, Does F R s (g s a)) (l : List α) (s : State) :
    Does F R s (l.foldl g s) := Does.foldl (fun t a ht => ht.trans (h t a)) (.refl _ _ s)

/-! #### The live causes (R490, R600) -/

theorem exec_liveCauseRedetect_off {s : State} (h : s.collectorRuns = false) : exec .liveCauseRedetect s = .next s :=
  congrArg Host.Outcome.next (if_pos h)

/-- Whether the unit of a kept cause is there to be asked (R600). -/
def State.causeReady (s : State) (e : Nat × Nat × Nat) : Bool := decide (e.1 < 128) || hasBit s.rst.dies ((e.1 - 128) / 64)

/-- With one cause kept, the command finds it again where its unit is there and it still holds, or keeps it (R600). -/
theorem exec_liveCauseRedetect_one {s : State} {e : Nat × Nat × Nat} (hc : s.collectorRuns = true) (h : s.rst.redetect = [e]) :
    (s.causeReady e = true → exec .liveCauseRedetect s = .next (if s.live.contains e then
        State.detect { s with rst := { s.rst with redetect := [] } } e.1 e.2.1 e.2.2
        else { s with rst := { s.rst with redetect := [] } })) ∧
    (s.causeReady e = false → exec .liveCauseRedetect s = .next s) := by
  have hc' : ¬s.collectorRuns = false := by simp [hc]
  have go : exec .liveCauseRedetect s = .next ((s.rst.redetect.filter s.causeReady).foldl
      (fun (s : State) (e : Nat × Nat × Nat) => if s.live.contains e then s.detect e.1 e.2.1 e.2.2 else s)
      { s with rst := { s.rst with redetect := s.rst.redetect.filter (fun e => !s.causeReady e) } }) :=
    congrArg Host.Outcome.next (if_neg hc')
  have same : ({ s with rst := { s.rst with redetect := [e] } } : State) = s := by rw [← h]
  rw [go, h]
  refine ⟨fun hr => ?_, fun hr => ?_⟩
  · rw [List.filter_cons_of_pos hr, List.filter_cons_of_neg (by simp [hr])]
    rfl
  · rw [List.filter_cons_of_neg (p := s.causeReady) (by simp [hr]), List.filter_cons_of_pos (by simp [hr])]
    exact congrArg Host.Outcome.next same

/-- A source that ends is live on no unit, and FLT_CAUSE loses its bit (R490). -/
theorem State.endLive_none (s : State) (i : Nat) :
    s.endLive i none = ({ s with live := s.live.filter (fun e => e.1 != i) } : State).wr F.FLT_CAUSE_CAUSE
      (withoutBit (s.rd F.FLT_CAUSE_CAUSE (i / 32)) (i % 32)) (i / 32) := by
  have hp : (fun e : Nat × Nat × Nat => !(e.1 == i && true)) = fun e => e.1 != i := by
    funext e
    rw [Bool.and_true]
    rfl
  have hgone : ¬(s.live.filter (fun e => !(e.1 == i && true))).any (fun e => e.1 == i) = true := by simp
  rw [← hp]
  exact if_neg hgone

theorem State.endLive_live (s : State) (i : Nat) : (s.endLive i none).live = s.live.filter (fun e => e.1 != i) := by
  rw [State.endLive_none]
  rfl

/-- FLT_CAUSE shows no source that has ended (R490). -/
theorem State.endLive_cause (s : State) (i : Nat) :
    hasBit ((s.endLive i none).rd F.FLT_CAUSE_CAUSE (i / 32)) (i % 32) = false := by
  rw [State.endLive_none, State.rd_wr]
  refine (hasBit_mod_two_pow (w := 32) _ (Nat.mod_lt _ (by decide))).trans ?_
  rw [hasBit_withoutBit_eq, decide_eq_true rfl]
  rfl

/-- The clock that comes back restarts filters and monitors; flags and causes stay (R10, R490). -/
theorem State.eclkBack_keeps (s : State) (i : Nat) : s.eclkBack.live = s.live ∧
    s.eclkBack.rd F.FLT_CAUSE_CAUSE i = s.rd F.FLT_CAUSE_CAUSE i ∧
    s.eclkBack.on F.GLB_UNITS_ECLK_LOCK = s.on F.GLB_UNITS_ECLK_LOCK :=
  have h := s.eclkBack_does
  ⟨h.live (by decide), h.rd F.FLT_CAUSE_CAUSE i 0 (by decide), h.on F.GLB_UNITS_ECLK_LOCK 0 0 (by decide)⟩

theorem exec_liveCauseEnd_not {s : State} (src : SrcId) (h : outerCause src = false ∨ s.live.any (fun e => e.1 == src.val) = false) :
    exec (.liveCauseEnd src) s = .next s :=
  congrArg Host.Outcome.next (if_pos (h.imp_right .inr))

/-- A cause from outside ends; with the engine clock's its clock is locked and back (R490). -/
theorem exec_liveCauseEnd {s : State} {src : SrcId} (ho : outerCause src = true) (hl : s.live.any (fun e => e.1 == src.val) = true)
    (hs : 128 ≤ src.val → s.starved ((src.val - 128) / 64) = false) (hb : s.badSup.any (fun e => decide (e.1 ≤ 5)) = false) :
    exec (.liveCauseEnd src) s = .next (
      if src.val = 1 ∧ (s.endLive src none).rd F.RST_STAT_STAGE ≠ 0 ∧ (s.endLive src none).power ≤ 1 ∧
          (s.endLive src none).on F.THM_STAT_SHUT = false then
        ((s.endLive src none).wr F.GLB_UNITS_ECLK_LOCK 1).eclkBack
      else s.endLive src none) := by
  refine congrArg Host.Outcome.next (if_neg ?_)
  by_cases h : 128 ≤ src.val
  · simp [ho, hl, hb, hs h]
  · simp [ho, hl, hb, h]

/-- A cause that ends is live no more, FLT_CAUSE shows it no more, and the clock of source 1 is locked (R490). -/
theorem liveCauseEnd_ends {s : State} {src : SrcId} (ho : outerCause src = true) (hl : s.live.any (fun e => e.1 == src.val) = true)
    (hs : 128 ≤ src.val → s.starved ((src.val - 128) / 64) = false) (hb : s.badSup.any (fun e => decide (e.1 ≤ 5)) = false) :
    ∃ t, exec (.liveCauseEnd src) s = .next t ∧ t.live = s.live.filter (fun e => e.1 != src.val) ∧
      hasBit (t.rd F.FLT_CAUSE_CAUSE (src.val / 32)) (src.val % 32) = false ∧
      (src.val = 1 → s.rd F.RST_STAT_STAGE ≠ 0 → s.power ≤ 1 → s.on F.THM_STAT_SHUT = false →
        t.on F.GLB_UNITS_ECLK_LOCK = true) := by
  have hd := State.endLive_does s src none
  have hstage := hd.rd F.RST_STAT_STAGE 0 0 (by decide)
  have hpower : (s.endLive src none).power = s.power := hd.rd F.PWR_STAT_STATE 0 0 (by decide)
  have hshut := hd.on F.THM_STAT_SHUT 0 0 (by decide)
  have hlive := s.endLive_live src
  have hcause := s.endLive_cause src
  refine ⟨_, exec_liveCauseEnd ho hl hs hb, ?_⟩
  rw [hstage, hpower, hshut]
  split
  · obtain ⟨hl, hc, hlock⟩ := State.eclkBack_keeps ((s.endLive src none).wr F.GLB_UNITS_ECLK_LOCK 1) (src.val / 32)
    refine ⟨hl.trans hlive, ?_, fun _ _ _ _ => hlock.trans (State.on_wr_one _ _ _ (by decide))⟩
    rw [hc, State.rd_wr_ne _ _ _ _ _ _ (.inl (by decide))]
    exact hcause
  · next hcond => exact ⟨hlive, hcause, fun h1 h2 h3 h4 => absurd ⟨h1, h2, h3, h4⟩ hcond⟩

/-! #### A die link that trains again (R11, R492) -/

theorem exec_dieLinkRetrain_not {s : State} {die : DieId} (h : s.dieOk die = true ∨ s.power = 4) :
    exec (.dieLinkRetrain die) s = .next s :=
  congrArg Host.Outcome.next (if_pos (h.imp_right fun hp => .inr (.inl hp)))

/-- The link that trains again has its PD_OK bit, and its cause has ended. -/
theorem dieLinkRetrain_restores {s : State} {die : DieId} (ho : s.dieOk die = false) (hd : hasBit s.rst.dies die = true)
    (hp : s.power ≠ 4) (ht : s.on F.THM_STAT_SHUT = false) (hl : s.live.any (fun e => e.1 == 128 + 64 * die.val) = true) :
    ∃ t, exec (.dieLinkRetrain die) s = .next t ∧ t.dieOk die = true ∧
      t.live = s.live.filter (fun e => e.1 != 128 + 64 * die.val) := by
  refine ⟨_, congrArg Host.Outcome.next (if_neg (by simp [ho, hd, hp, ht, hl])), ?_, State.endLive_live _ _⟩
  have hok : ((s.wr F.GLB_UNITS_PD_OK (withBit (s.rd F.GLB_UNITS_PD_OK) die)).endLive (128 + 64 * die.val) none).rd
      F.GLB_UNITS_PD_OK = withBit (s.rd F.GLB_UNITS_PD_OK) die % 2 ^ 4 :=
    ((State.endLive_does _ _ _).rd F.GLB_UNITS_PD_OK 0 0 (by decide)).trans (State.rd_wr ..)
  rw [State.dieOk, hok, hasBit_mod_two_pow _ die.isLt, hasBit_withBit]

/-! #### VDD_AON asserts the power-on reset (R513, R585) -/

/-- A reset acts without any change of the sources that are asserted, and shows them (R517). -/
theorem State.applyReset_asserts (s : State) (lv : Nat) (count : Bool) : (s.applyReset lv count).rst.on = s.rst.on ∧
    (s.applyReset lv count).rd F.RST_STAT_ASSERT = ofBool (s.rst.on != 0) % 2 ^ F.RST_STAT_ASSERT.width := by
  unfold State.applyReset
  extract_lets s1 gen s2 s3 s4 s5 s6 s7
  have h1 : s1.rst = s.rst := ((State.railsReset_does _ _).rst (by decide)).trans (s.pinsOff_does.rst (by decide))
  have h2 : s2.rst = s1.rst := by
    unfold s2
    split
    · exact s1.abortQueues_does.rst (by decide)
    · rfl
  have h3 : s3.rst = s2.rst := (s2.resetWork_does lv).rst (by decide)
  have h4 : s4.rst.on = s3.rst.on := by
    unfold s4
    split
    · rfl
    · split <;> rfl
  have h6 : s6.rst = s5.rst := by
    unfold s6
    split
    · exact s5.roleReset_does.rst (by decide)
    · rfl
  have h7 : s7.rst = s6.rst := by
    unfold s7
    split <;> rfl
  have hon : s7.rst.on = s.rst.on := by
    calc s7.rst.on = s4.rst.on := by rw [h7, h6]; rfl
      _ = s.rst.on := by rw [h4, h3, h2, h1]
  rw [State.rd_wr, hon]
  exact ⟨hon, rfl⟩

theorem State.cutPulse_on (s : State) : s.cutPulse.rst.on = s.rst.on := by
  unfold State.cutPulse
  split <;> rfl

/-- POR is asserted, and RST_STAT shows it (R513). -/
theorem State.assertSrc_por (s : State) : hasBit (s.assertSrc 0).rst.on 0 = true ∧ (s.assertSrc 0).rd F.RST_STAT_ASSERT = 1 := by
  have hbit := hasBit_withBit s.rst.on 0
  have hnz : (withBit s.rst.on 0 != 0) = true := bne_iff_ne.2 fun h => by simp [h, hasBit] at hbit
  unfold State.assertSrc
  rw [if_neg (by simp)]
  extract_lets r lv holds s1 s2 cut x s3
  have hlv : lv = 0 := Nat.min_zero _
  have h3 : s3.rst.on = withBit s.rst.on 0 := s2.cutPulse_on
  have a3 : s3.rd F.RST_STAT_ASSERT = 1 := by
    change (s2.cutPulse.wr F.RST_STAT_DEFER 0).rd F.RST_STAT_ASSERT = 1
    rw [State.rd_wr_ne _ _ _ _ _ _ (.inr (by decide)), s2.cutPulse_does.rd F.RST_STAT_ASSERT 0 0 (by decide), State.rd_wr]
    rfl
  rw [if_neg (by simp [hlv]), if_neg (by simp), if_neg (by simp)]
  split
  · rw [h3]
    exact ⟨hbit, a3⟩
  · obtain ⟨hon, hassert⟩ := s3.applyReset_asserts lv (r.seen == 0)
    rw [hon, hassert, h3, hnz]
    exact ⟨hbit, rfl⟩

/-! #### What a pin die's supply takes down (R585) -/

theorem State.detect_faultq (s : State) (i u d : Nat) : (s.detect i u d).faultq = s.faultq ++ [FaultIn.mk i u d false s.now] := rfl

/-- An output that a fault mutes shows MUTED; the others keep theirs (R338). -/
theorem State.faultMute_muted (s : State) (w q : Nat) :
    (s.faultMute w).rd F.AWG_STAT_MUTED q = if q = w then 1 else s.rd F.AWG_STAT_MUTED q := by
  unfold State.faultMute State.waveEvent
  rw [(State.raise_does ..).rd F.AWG_STAT_MUTED q 0 (by decide), State.rd_wr_ne _ _ _ _ _ _ (.inr (by decide)),
    State.rd_wr_ne _ _ _ _ _ _ (.inr (by decide))]
  split
  · next h =>
    subst h
    exact State.rd_wr ..
  · next h =>
    rw [State.rd_wr_inst _ _ _ _ _ _ _ (.inl h), State.rd_wr_ne _ _ _ _ _ _ (.inl (by decide)),
      State.rd_wr_ne _ _ _ _ _ _ (.inr (by decide)), State.rd_setWave]
    unfold State.waveIdle
    extract_lets x played s1 s2
    have h2 : s2.rd F.AWG_STAT_MUTED q = s.rd F.AWG_STAT_MUTED q := by
      unfold s2 State.setWaveSt
      rw [State.rd_wr_ne _ _ _ _ _ _ (.inl (by decide))]
      split
      · rfl
      · exact State.rd_wr_ne _ _ _ _ _ _ (.inr (by decide))
    split
    · exact ((State.rewindPod_does _ _).rd F.AWG_STAT_MUTED q 0 (by decide)).trans h2
    · exact h2

/-- What a supply out of range does to its die: its pins at high impedance, its outputs muted, its rails that are not off tripped. -/
def State.dieUnpowered (s : State) (k : Nat) : State :=
  let s := ((List.range 256).map (fun j => 256 * k + j)).foldl (fun (s : State) (q : Nat) => s.forceDrv q 0) s
  let s := (wavesOfDie k).foldl (fun (s : State) (w : Nat) => s.faultMute w) s
  ((List.range 32).map (fun j => 32 * k + j)).foldl (fun (s : State) (r : Nat) =>
    if s.railSt r = rlOff then s else s.tripRail r) s

theorem mem_range_map_add {n j : Nat} (b : Nat) (h : j < n) : b + j ∈ (List.range n).map (fun j => b + j) :=
  List.mem_map_of_mem (List.mem_range.2 h)

/-- A step of `dieUnpowered` on its rails. -/
theorem State.tripUnlessOff_does (s : State) (r : Nat) :
    Does (1 <<< 12) (1 <<< Reg.RAIL_STAT.ctorIdx) s (if s.railSt r = rlOff then s else s.tripRail r) :=
  Does.ite (fun _ => .refl _ _ s) fun _ => (s.tripRail_does r).mono (by decide) (by decide)

theorem State.tripRail_railSt (s : State) (p q : Nat) : (s.tripRail p).railSt q = if q = p then rlTripped else s.railSt q := by
  split
  · next h =>
    subst h
    exact State.rd_wr ..
  · next h => exact State.rd_wr_inst _ _ _ _ _ _ _ (.inl h)

/-- What the missing supply leaves and takes of its die (R585). -/
theorem State.dieUnpowered_takes (s : State) (k : Nat) :
    (∀ j < 256, ((s.dieUnpowered k).pin (256 * k + j)).drvNow = 0) ∧
    (∀ j < 32, (s.dieUnpowered k).railSt (32 * k + j) = if s.railSt (32 * k + j) = rlOff then rlOff else rlTripped) ∧
    (∀ j < 8, (s.dieUnpowered k).on F.AWG_STAT_MUTED (8 * k + j) = true) ∧
    (s.dieUnpowered k).badSup = s.badSup ∧ (s.dieUnpowered k).faultq = s.faultq ∧ (s.dieUnpowered k).now = s.now ∧
    (s.dieUnpowered k).rst = s.rst := by
  unfold State.dieUnpowered
  extract_lets s1 s2
  have d1 := Does.each (fun s q => State.forceDrv_does s q 0) ((List.range 256).map (fun j => 256 * k + j)) s
  have d2 := Does.each State.faultMute_does (wavesOfDie k) s1
  have d3 := Does.each State.tripUnlessOff_does ((List.range 32).map (fun j => 32 * k + j)) s2
  have hpins : ∀ j < 256, (s1.pin (256 * k + j)).drvNow = 0 := fun j hj =>
    fold_attains (fun (s : State) (q : Nat) => s.forceDrv q 0) (fun s q => (s.pin q).drvNow)
      (fun s p => by simp [State.forceDrv]) (fun s p q hqp h => by simpa [State.forceDrv, State.pin_setPin_ne _ _ _ _ hqp] using h)
      (mem_range_map_add _ hj) s
  have hmuted : ∀ j < 8, s2.rd F.AWG_STAT_MUTED (8 * k + j) = 1 := fun j hj =>
    fold_attains (fun (s : State) (w : Nat) => s.faultMute w) (fun s q => s.rd F.AWG_STAT_MUTED q)
      (fun s p => by simp [State.faultMute_muted]) (fun s p q _ h => by simp [State.faultMute_muted, h])
      (mem_range_map_add _ hj) s1
  have hrails : ∀ j < 32, s2.railSt (32 * k + j) = s.railSt (32 * k + j) := fun j _ =>
    (d2.rd F.RAIL_STAT_STATE _ 0 (by decide)).trans (d1.rd F.RAIL_STAT_STATE _ 0 (by decide))
  refine ⟨fun j hj => ?_, fun j hj => ?_, fun j hj => ?_, ?_, ?_, ?_, ?_⟩
  · rw [d3.pinX (by decide), d2.pinX (by decide), hpins j hj]
  · rw [← hrails j hj]
    refine fold_writes (fun s r => if s.railSt r = rlOff then rlOff else rlTripped) _ ?_ ?_ ?_ (mem_range_map_add _ hj) s2
    · intro s p
      split
      · assumption
      · exact State.rd_wr ..
    · intro s p q
      have hst : (if s.railSt p = rlOff then s else s.tripRail p).railSt q =
          if q = p ∧ s.railSt p ≠ rlOff then rlTripped else s.railSt q := by
        split
        · next h => rw [if_neg fun hq => hq.2 h]
        · next h => simp only [State.tripRail_railSt, h, ne_eq, not_false_eq_true, and_true]
      simp only [hst]
      split
      · next h => rw [if_neg (by decide), h.1, if_neg h.2]
      · rfl
    · intro s p q hqp
      split
      · rfl
      · exact (State.tripRail_railSt s p q).trans (if_neg hqp)
  · rw [d3.on F.AWG_STAT_MUTED _ 0 (by decide), State.on, hmuted j hj]
    rfl
  · rw [d3.badSup (by decide), d2.badSup (by decide), d1.badSup (by decide)]
  · rw [d3.faultq (by decide), d2.faultq (by decide), d1.faultq (by decide)]
  · rw [d3.now (by decide), d2.now (by decide), d1.now (by decide)]
  · rw [d3.rst (by decide), d2.rst (by decide), d1.rst (by decide)]

/-- The key under which a supply out of range is noted: the engine die's, or the pin die's (R585). -/
def supplyKey (i k : Nat) : Nat × Nat := (i, if 6 ≤ i ∧ i ≤ 9 then k else 4)

/-- What a supply out of range does by its place in the device (R491, R492, R513, R585). -/
def State.supplyFails (s : State) (i k : Nat) : State :=
  if i = 5 then (s.detect 3 0 5).assertSrc 0
  else if i < 5 then s.detect 3 0 (supplyDetail i)
  else if i = 10 then s
  else if hasBit (s.dieUnpowered k).rst.dies k then (s.dieUnpowered k).detect (128 + 64 * k + 4) k (supplyDetail i)
  else s.dieUnpowered k

theorem State.supplyFails_badSup (s : State) (i k : Nat) : (s.supplyFails i k).badSup = s.badSup := by
  obtain ⟨-, -, -, hbad, -⟩ := s.dieUnpowered_takes k
  unfold State.supplyFails
  generalize s.dieUnpowered k = u at hbad ⊢
  split
  · exact (State.assertSrc_does _ _).badSup (by decide)
  · split
    · rfl
    · split
      · rfl
      · split <;> exact hbad

/-- A pin die's supply out of range takes its pins, rails and outputs, and a die that has left reset tells of it. -/
theorem State.supplyFails_die (s : State) {i k : Nat} (h6 : 6 ≤ i) (h9 : i ≤ 9) :
    (∀ j < 256, ((s.supplyFails i k).pin (256 * k + j)).drvNow = 0) ∧
    (∀ j < 32, (s.supplyFails i k).railSt (32 * k + j) = if s.railSt (32 * k + j) = rlOff then rlOff else rlTripped) ∧
    (∀ j < 8, (s.supplyFails i k).on F.AWG_STAT_MUTED (8 * k + j) = true) ∧
    (hasBit s.rst.dies k = true →
      (s.supplyFails i k).faultq = s.faultq ++ [FaultIn.mk (128 + 64 * k + 4) k (supplyDetail i) false s.now]) := by
  obtain ⟨hpins, hrails, hmuted, -, hq, hnow, hrst⟩ := s.dieUnpowered_takes k
  unfold State.supplyFails
  generalize s.dieUnpowered k = u at *
  rw [if_neg (by omega), if_neg (by omega), if_neg (by omega), hrst]
  split
  · exact ⟨hpins, hrails, hmuted, fun _ => by rw [State.detect_faultq, hq, hnow]⟩
  · next hd => exact ⟨hpins, hrails, hmuted, fun h => absurd h hd⟩

/-- A supply of the engine die out of range raises ED_SUPPLY, and VDD_AON asserts POR; VDD_IO does neither. -/
theorem State.supplyFails_engine (s : State) (i k : Nat) :
    (i < 5 → (s.supplyFails i k).faultq = s.faultq ++ [FaultIn.mk 3 0 i false s.now]) ∧
    (i = 5 → hasBit (s.supplyFails i k).rst.on 0 = true ∧ (s.supplyFails i k).rd F.RST_STAT_ASSERT = 1) ∧
    (i = 10 → s.supplyFails i k = s) := by
  refine ⟨fun h => ?_, fun h => ?_, fun h => ?_⟩
  · rw [State.supplyFails, if_neg h.ne, if_pos h, supplyDetail, if_pos h.le]
    rfl
  · rw [State.supplyFails, if_pos h]
    exact State.assertSrc_por _
  · rw [State.supplyFails, if_neg (by omega), if_neg (by omega), if_pos h]

theorem exec_supplyOutOfRange {s : State} (supply : Supply) (die : DieId) {i : Nat} (hi : i = supplyIx supply)
    (h : s.badSup.contains (supplyKey i die) = false) :
    exec (.supplyOutOfRange supply die) s =
      .next (State.supplyFails { s with badSup := s.badSup ++ [supplyKey i die] } i die) := by
  subst hi
  change execSupplyOutOfRange supply die s = _
  unfold execSupplyOutOfRange
  extract_lets i k key noted highZ muted u
  have hkey : ¬s.badSup.contains key = true := ne_true_of_eq_false h
  have hu : noted.dieUnpowered k = u := rfl
  change _ = Host.Outcome.next (noted.supplyFails i k)
  rw [if_neg hkey, State.supplyFails, hu]

/-! #### A supply back in range (R585) -/

/-- A pin die whose supplies are back is released from reset where the sequence has come to it; no cause of it begins. -/
theorem State.lateDie_releases (s : State) (k : Nat) (p : Nat × Nat × Nat → Bool) (h : s.live.any p = false) :
    (s.lateDie k).live.any p = false ∧
    (hasBit s.rst.dies k = false → k < s.rst.dieN → 4 ≤ s.rd F.RST_STAT_STAGE → s.rd F.RST_STAT_STAGE ≠ 15 →
      hasBit (s.lateDie k).rst.dies k = true) := by
  unfold State.lateDie
  extract_lets st x s1 s2
  have hlive : s2.live.any p = false := h
  have hdies : hasBit s2.rst.dies k = true := hasBit_withBit s.rst.dies k
  clear_value s2
  split
  · next hheld =>
    refine ⟨h, fun h1 h2 h3 h4 => absurd hheld ?_⟩
    simp only [h1, not_or]
    exact ⟨Bool.false_ne_true, by omega, by omega, h4⟩
  · split
    · exact ⟨hlive, fun _ _ _ _ => hdies⟩
    · refine ⟨?_, fun _ _ _ _ => ?_⟩
      · unfold State.dieReports
        rw [State.endLive_live, List.any_filter]
        refine List.any_eq_false.2 fun e he => ?_
        have := List.any_eq_false.1 hlive e he
        simp [this]
      · rw [(s2.dieReports_does k).rst (by decide)]
        exact hdies

/-- What a supply back in range does by its place in the device (R585). -/
def State.supplyReturns (s : State) (i k : Nat) : State :=
  if i ≤ 5 then (if s.badSup.any (fun e => decide (e.1 ≤ 5)) then s else s.endLive 3 none)
  else if i = 10 ∨ s.starved k = true then s
  else (s.endLive (128 + 64 * k + 4) none).lateDie k

theorem State.supplyReturns_badSup (s : State) (i k : Nat) : (s.supplyReturns i k).badSup = s.badSup := by
  unfold State.supplyReturns
  split
  · split
    · rfl
    · exact (State.endLive_does _ _ _).badSup (by decide)
  · split
    · rfl
    · exact ((State.lateDie_does _ _).badSup (by decide)).trans ((State.endLive_does _ _ _).badSup (by decide))

/-- With every supply of the engine die in range, ED_SUPPLY is live no more. -/
theorem State.supplyReturns_engine (s : State) {i : Nat} (k : Nat) (h5 : i ≤ 5)
    (hb : s.badSup.any (fun e => decide (e.1 ≤ 5)) = false) :
    (s.supplyReturns i k).live = s.live.filter (fun e => e.1 != 3) := by
  rw [State.supplyReturns, if_pos h5, if_neg (ne_true_of_eq_false hb), State.endLive_live]

/-- With every supply of a pin die in range, its PD_SUPPLY is live no more, and it leaves the reset it was held in. -/
theorem State.supplyReturns_die (s : State) {i k : Nat} (h6 : 6 ≤ i) (h9 : i ≤ 9) (hb : s.starved k = false) :
    (s.supplyReturns i k).live.any (fun e => e.1 == 128 + 64 * k + 4) = false ∧
    (hasBit s.rst.dies k = false → k < s.rst.dieN → 4 ≤ s.rd F.RST_STAT_STAGE → s.rd F.RST_STAT_STAGE ≠ 15 →
      hasBit (s.supplyReturns i k).rst.dies k = true) := by
  have hd := State.endLive_does s (128 + 64 * k + 4) none
  have hgo : ¬(i = 10 ∨ s.starved k = true) := by
    rw [hb, not_or]
    exact ⟨by omega, Bool.false_ne_true⟩
  rw [State.supplyReturns, if_neg (by omega), if_neg hgo]
  have := State.lateDie_releases (s.endLive (128 + 64 * k + 4) none) k (fun e => e.1 == 128 + 64 * k + 4)
    (by simp [State.endLive_live])
  rwa [hd.rst (by decide), hd.rd F.RST_STAT_STAGE 0 0 (by decide)] at this

theorem exec_supplyInRange {s : State} (supply : Supply) (die : DieId) {i : Nat} (hi : i = supplyIx supply)
    (h : s.badSup.contains (supplyKey i die) = true) :
    exec (.supplyInRange supply die) s =
      .next (State.supplyReturns { s with badSup := s.badSup.erase (supplyKey i die) } i die) := by
  subst hi
  exact congrArg Host.Outcome.next (if_neg (ne_false_of_eq_true h))

/-- Settles O56: each command by its equation, its state by what the causes, dies and supplies do. -/
theorem liveCausesAndSuppliesComeAndGo : Obligations.LiveCausesAndSuppliesComeAndGo := by
  unfold Obligations.LiveCausesAndSuppliesComeAndGo
  intro s
  refine ⟨exec_liveCauseRedetect_off, fun e hc h hready => ?_, fun e hc h h1 h2 => ?_,
    fun src => ⟨exec_liveCauseEnd_not src, liveCauseEnd_ends⟩, fun die => ⟨dieLinkRetrain_restores, exec_dieLinkRetrain_not⟩, fun supply die i key hi hkey => ?_⟩
  · obtain ⟨again, -⟩ := exec_liveCauseRedetect_one hc h
    refine ⟨_, again (by simpa [State.causeReady] using hready), ?_, fun hl => ?_, fun hl => ?_⟩
    · split <;> rfl
    · rw [if_pos hl]
      rfl
    · rw [if_neg (ne_true_of_eq_false hl)]
  · obtain ⟨-, kept⟩ := exec_liveCauseRedetect_one hc h
    exact ⟨s, kept (by simp [State.causeReady, h1, h2]), h, rfl⟩
  · obtain rfl : key = supplyKey i die := hkey
    refine ⟨fun h => ?_, fun h => ?_, fun h => ?_, fun h => ?_⟩
    · subst hi
      exact congrArg Host.Outcome.next (if_pos h)
    · refine ⟨_, exec_supplyOutOfRange supply die hi h, State.supplyFails_badSup _ i die, ?_⟩
      obtain ⟨hcore, haon, hio⟩ :=
        State.supplyFails_engine { s with badSup := s.badSup ++ [supplyKey i die] } i die
      refine ⟨hcore, haon, fun h10 => ?_, fun h6 h9 => ?_⟩
      · rw [hio h10]
        exact ⟨rfl, rfl⟩
      · obtain ⟨hpins, hrails, hmuted, hfault⟩ :=
          State.supplyFails_die { s with badSup := s.badSup ++ [supplyKey i die] } (k := die) h6 h9
        exact ⟨fun j => hpins j j.isLt, fun j => hrails j j.isLt, fun j => hmuted j j.isLt, hfault⟩
    · subst hi
      exact congrArg Host.Outcome.next (if_pos h)
    · exact ⟨_, exec_supplyInRange supply die hi h, State.supplyReturns_badSup _ i die,
        State.supplyReturns_engine { s with badSup := s.badSup.erase (supplyKey i die) } die,
        State.supplyReturns_die { s with badSup := s.badSup.erase (supplyKey i die) }⟩

end Sys2Proof.Machine
end

/-! ### Scope: trip windows, fences and husks -/

section
namespace Sys2Proof.Machine

open Sys2Proof

/-- Two operations in a row touch what either of them touches. -/
theorem Does.andThen {F G Q R : Nat} {s t u : State} (a : Does F R s t) (b : Does G Q t u) : Does (F ||| G) (R ||| Q) s u := by
  have left (a b : Nat) : Sub a (a ||| b) := Nat.eq_of_testBit_eq fun i => by
    rw [Nat.testBit_and, Nat.testBit_or, Bool.and_or_distrib_left, Bool.and_self]
    cases a.testBit i <;> rfl
  have right (a b : Nat) : Sub b (a ||| b) := Nat.or_comm b a ▸ left b a
  exact (a.mono (left ..) (left ..)).trans (b.mono (right ..) (right ..))

/-- A write to a field of one unit leaves that field of every other unit, and every field at another place, as it was. -/
theorem State.rd_wr_away (s : State) {f g : Fld} {m n : Nat} (v : Nat) (h : m ≠ n ∨ g.lo ≠ f.lo) : (s.wr g v n).rd f m = s.rd f m := by
  refine Store.get_put_ne _ _ fun hk => ?_
  obtain ⟨-, hlo, hi, -⟩ := FKey.mk.inj hk
  exact h.elim (fun h => h hi) fun h => h hlo.symm

theorem State.railsOf_of {s t : State} (h : t.siteMap = s.siteMap) (n : Nat) : t.railsOf n = s.railsOf n := by
  simp only [State.railsOf, State.site, h]

/-! #### The arm of a trip path (R359) -/

/-- Whether and by what a site is armed lies in its windows and its enables. -/
theorem State.armSource_of {parts regs : Nat} {s t : State} {n : Nat} (h : Does parts regs s t) (hf : regs.testBit Reg.SITE_FCTL.ctorIdx = false)
    (hw : (t.siteX n).wins = (s.siteX n).wins) : t.armSource n = s.armSource n := by
  have hen (src : Nat) : t.winEnabled n src = s.winEnabled n src := by
    unfold State.winEnabled
    rw [h.on F.SITE_FCTL_ARM_START n 0 hf, h.on F.SITE_FCTL_ARM_ENTRY n 0 hf, h.on F.SITE_FCTL_ARM_RECOV n 0 hf,
      h.on F.SITE_FCTL_ARM_REQ n 0 hf]
  unfold State.armSource
  simp only [hw, hen]

/-- After a refresh the site's windows are as they were, and ARMED says whether one of them has its enable at 1. -/
theorem State.refreshArm_shows (s : State) (n : Nat) : ((s.refreshArm n).siteX n).wins = (s.siteX n).wins ∧
    (s.refreshArm n).rd F.SITE_FSTAT_ARMED n = ofBool ((s.refreshArm n).armSource n != 0) := by
  have hwin : ((s.refreshArm n).siteX n).wins = (s.siteX n).wins ∧
      (s.refreshArm n).rd F.SITE_FSTAT_ARMED n = ofBool (s.armSource n != 0) := by
    unfold State.refreshArm
    extract_lets src was s1 x s2
    have h1 : s1.rd F.SITE_FSTAT_ARMED n = ofBool (s.armSource n != 0) := by
      refine (State.rd_wr ..).trans (Nat.mod_eq_of_lt ?_)
      change ofBool (src != 0) < 2
      cases src != 0 <;> decide
    have h2 : (s2.siteX n).wins = (s.siteX n).wins ∧ s2.rd F.SITE_FSTAT_ARMED n = ofBool (s.armSource n != 0) := by
      unfold s2
      split
      · rw [State.siteX_setSiteX]
        exact ⟨rfl, h1⟩
      · exact ⟨rfl, h1⟩
    split
    · exact h2
    · rw [State.rd_wr_ne _ _ _ _ _ _ (.inr (by decide))]
      exact h2
  rw [State.armSource_of (s.refreshArm_does n) (by decide) hwin.1]
  exact hwin

/-- A refresh writes ARMED and ARMSRC of its own site only. -/
theorem State.refreshArm_rd (s : State) (n : Nat) {f : Fld} (m : Nat)
    (h : m ≠ n ∨ f.lo ≠ F.SITE_FSTAT_ARMED.lo ∧ f.lo ≠ F.SITE_FSTAT_ARMSRC.lo) : (s.refreshArm n).rd f m = s.rd f m := by
  unfold State.refreshArm
  extract_lets src was s1 x s2
  have h1 : s1.rd f m = s.rd f m := State.rd_wr_away _ _ (h.imp_right fun h => h.1.symm)
  have h2 : s2.rd f m = s1.rd f m := by
    unfold s2
    split <;> rfl
  split
  · exact h2.trans h1
  · exact (State.rd_wr_away _ _ (h.imp_right fun h => h.2.symm)).trans (h2.trans h1)

/-! #### A husk (R360) -/

/-- What a fence does to the step, the entries and the gang of its site. -/
def State.huskStops (s : State) (n : Nat) (stamp : Stamp) (inStep armedRun : Bool) : State :=
  let s := if inStep then (s.takeBack n stamp).deviceEntry n 2 0 (s.rd F.LEDG_BINS_FENCED) stamp else s
  let s := if inStep then s.siteEnded n 2 else s
  if s.inStep n ∨ armedRun = true then s.abortGang n else (s.dropRunAhead n).measEndSite n

theorem State.huskStops_does (s : State) (n : Nat) (stamp : Stamp) (inStep armedRun : Bool) :
    Does 0x184004e8 0x48000000000200074120000000043c0008000000000000000000000000000000000 s (s.huskStops n stamp inStep armedRun) := by
  unfold State.huskStops
  extract_lets s1 s2
  have h1 : Does 0x184004e8 0x48000000000200074120000000043c0008000000000000000000000000000000000 s s1 :=
    Does.ite (fun _ => ((State.takeBack_does ..).mono (by decide) (by decide)).trans
      ((State.deviceEntry_does ..).mono (by decide) (by decide))) fun _ => .refl _ _ s
  have h2 : Does 0x184004e8 0x48000000000200074120000000043c0008000000000000000000000000000000000 s1 s2 :=
    Does.ite (fun _ => (State.siteEnded_does ..).mono (by decide) (by decide)) fun _ => .refl _ _ s1
  exact (h1.trans h2).trans (Does.ite (fun _ => (State.abortGang_does ..).mono (by decide) (by decide))
    fun _ => ((State.dropRunAhead_does ..).mono (by decide) (by decide)).trans
      ((State.measEndSite_does ..).mono (by decide) (by decide)))

/-- The fields of SITE_FSTAT that a fence writes of its site. -/
def huskFields : List Nat :=
  [F.SITE_FSTAT_HUSK.lo, F.SITE_FSTAT_INSTEP.lo, F.SITE_FSTAT_FENCES.lo, F.SITE_FSTAT_ARMED.lo, F.SITE_FSTAT_ARMSRC.lo]

/-- A site that is made a husk shows it with its stamp, its gang is fenced and its rails are tripped; SITE_FSTAT keeps its other
fields, and those of the other sites. -/
theorem State.makeHusk_fences {s : State} {n : Nat} (h : s.on F.SITE_FSTAT_HUSK n = false) (stamp : Stamp) :
    (s.makeHusk n stamp).huskAt n stamp ∧ ∀ (f : Fld) (m : Nat), f.reg = .SITE_FSTAT → m ≠ n ∨ f.lo ∉ huskFields →
      (s.makeHusk n stamp).rd f m = s.rd f m := by
  unfold State.makeHusk
  rw [if_neg (ne_true_of_eq_false h)]
  extract_lets inStep armed s1 s2 s3 s4 armedRun s5 s6 s7 s8 s9
  have d3 : Does _ _ s2 s3 := Does.each State.tripPin_does (s2.pinsOf n) s2
  have d4 : Does _ _ s3 s4 := Does.each State.tripRail_does (s3.railsOf n) s3
  have d7 : Does _ _ s4 s7 := s4.huskStops_does n stamp inStep armedRun
  have dg : Does _ _ s7 (s7.setGstate n stHusk) := s7.setGstate_does n stHusk
  have d8 : Does _ _ (s7.setGstate n stHusk) s8 := State.cancelArms_does ..
  have d9 : Does _ _ s8 s9 := s8.refreshArm_does n
  have hs1 : s1.rd F.SITE_FSTAT_HUSK n = 1 ∧ ∀ (f : Fld) (m : Nat), m ≠ n ∨ f.lo ∉ huskFields → s1.rd f m = s.rd f m := by
    refine ⟨?_, fun f m haway => ?_⟩
    · unfold s1 State.bump
      rw [State.rd_wr_ne _ _ _ _ _ _ (.inr (by decide)), State.rd_wr_ne _ _ _ _ _ _ (.inr (by decide)), State.rd_wr]
      rfl
    · simp only [huskFields, List.mem_cons, List.not_mem_nil, or_false, not_or] at haway
      unfold s1 State.bump
      rw [State.rd_wr_away _ _ (haway.imp_right fun ⟨_, _, hc, _⟩ => Ne.symm hc),
        State.rd_wr_away _ _ (haway.imp_right fun ⟨_, hi, _⟩ => Ne.symm hi),
        State.rd_wr_away _ _ (haway.imp_right fun ⟨hh, _⟩ => Ne.symm hh)]
  have hs2 : s2.rd F.SITE_FSTAMP_LO_FSTAMP_LO n = loWord stamp.toNat ∧
      s2.rd F.SITE_FSTAMP_HI_FSTAMP_HI n = hiWord stamp.toNat % 2 ^ F.SITE_FSTAMP_HI_FSTAMP_HI.width ∧
      ∀ (f : Fld) (m : Nat), f.reg = .SITE_FSTAT → s2.rd f m = s1.rd f m := by
    unfold s2 State.wrStamp
    refine ⟨?_, State.rd_wr .., fun f m hf => ?_⟩
    · rw [State.rd_wr_ne _ _ _ _ _ _ (.inl (by decide)), State.rd_wr]
      exact Nat.mod_eq_of_lt (Nat.mod_lt _ (by decide))
    · rw [State.rd_wr_ne _ _ _ _ _ _ (.inl (by rw [hf]; decide)), State.rd_wr_ne _ _ _ _ _ _ (.inl (by rw [hf]; decide))]
  have htrip : ∀ r ∈ s3.railsOf n, s4.railSt r = rlTripped := fun r hr =>
    fold_attains _ State.railSt (fun s p => (s.tripRail_railSt p p).trans (if_pos rfl))
      (fun s p q hqp hq => (s.tripRail_railSt p q).trans ((if_neg hqp).trans hq)) hr s3
  have hgate : ∀ p ∈ s7.podsOf n, (s7.setGstate n stHusk).rd F.ENG_STAT_STATE p = stHusk := fun p hp =>
    (State.rd_wrAll ..).trans (if_pos hp)
  obtain ⟨-, harmed⟩ : _ ∧ s9.rd F.SITE_FSTAT_ARMED n = ofBool (s9.armSource n != 0) := s8.refreshArm_shows n
  have hs9 (f : Fld) (m : Nat) (h : m ≠ n ∨ f.lo ≠ F.SITE_FSTAT_ARMED.lo ∧ f.lo ≠ F.SITE_FSTAT_ARMSRC.lo) :
      s9.rd f m = s8.rd f m := s8.refreshArm_rd n m h
  have d2g := ((d3.andThen d4).andThen d7).andThen dg
  have d28 := d2g.andThen d8
  have d49 := ((d7.andThen dg).andThen d8).andThen d9
  have dg9 := d8.andThen d9
  clear_value s9 s8 s7 s6 s5 armedRun s4 s3 s2 s1
  suffices tail : ∀ u, Does 0x9800008 0 s9 u → u.huskAt n stamp ∧ ∀ (f : Fld) (m : Nat), f.reg = .SITE_FSTAT →
      m ≠ n ∨ f.lo ∉ huskFields → u.rd f m = s.rd f m by
    split
    · exact tail _ (.refl _ _ s9)
    · exact tail _ (State.raise_does ..)
  intro u du
  have hu (f : Fld) (m : Nat) : u.rd f m = s9.rd f m := du.rd f m 0 (Nat.zero_testBit _)
  have hstat (f : Fld) (m : Nat) (hf : f.reg = .SITE_FSTAT) : s8.rd f m = s1.rd f m :=
    (d28.rd f m 0 (by rw [hf]; decide)).trans (hs2.2.2 f m hf)
  refine ⟨⟨?_, fun p hp => ?_, ?_, ?_, fun r hr => ?_, ?_⟩, fun f m hf haway => ?_⟩
  · rw [State.on, hu, hs9 _ n (.inr (by decide)), hstat _ _ rfl, hs1.1]
    rfl
  · rw [State.podsOf_of (du.siteMap (by decide)), State.podsOf_of ((dg.andThen dg9).siteMap (by decide))] at hp
    rw [hu, dg9.rd F.ENG_STAT_STATE p 0 (by decide), hgate p hp]
  · rw [hu, (d2g.andThen dg9).rd F.SITE_FSTAMP_LO_FSTAMP_LO n 0 (by decide), hs2.1]
  · rw [hu, (d2g.andThen dg9).rd F.SITE_FSTAMP_HI_FSTAMP_HI n 0 (by decide), hs2.2.1]
  · rw [State.railsOf_of (du.siteMap (by decide)), State.railsOf_of ((d4.andThen d49).siteMap (by decide))] at hr
    rw [State.railSt, hu, d49.rd F.RAIL_STAT_STATE r 0 (by decide)]
    exact htrip r hr
  · rw [hu, harmed, State.armSource_of du (Nat.zero_testBit _) (by simp only [State.siteX, du.sites (by decide)])]
  · have hlo : m ≠ n ∨ f.lo ≠ F.SITE_FSTAT_ARMED.lo ∧ f.lo ≠ F.SITE_FSTAT_ARMSRC.lo :=
      haway.imp_right fun h => ⟨fun he => h (by rw [he]; decide), fun he => h (by rw [he]; decide)⟩
    rw [hu, hs9 f m hlo, hstat f m hf, hs1.2 f m haway]

theorem State.makeHusk_husk {s : State} {n : Nat} (h : s.on F.SITE_FSTAT_HUSK n = true) (stamp : Stamp) : s.makeHusk n stamp = s :=
  if_pos h

/-! #### A trip and its causes (R358, R362) -/

/-- The cause that a trip source notes in SITE_FSTAT: its voltage, its current or a pin. -/
def tripCause (kind : Nat) : Fld := if kind = 0 then F.SITE_FSTAT_RAILV else if kind = 1 then F.SITE_FSTAT_RAILI else F.SITE_FSTAT_PIN

theorem tripCause_cases (kind : Nat) :
    tripCause kind = F.SITE_FSTAT_RAILV ∨ tripCause kind = F.SITE_FSTAT_RAILI ∨ tripCause kind = F.SITE_FSTAT_PIN := by
  unfold tripCause
  split
  · exact .inl rfl
  · split
    · exact .inr (.inl rfl)
    · exact .inr (.inr rfl)

theorem tripCause_of_lo {a b : Nat} (h : (tripCause a).lo = (tripCause b).lo) : tripCause a = tripCause b := by
  rcases tripCause_cases a with ha | ha | ha <;> rcases tripCause_cases b with hb | hb | hb <;> rw [ha, hb] at h ⊢ <;>
    exact absurd h (by decide)

/-- Of a site's status a trip source writes its own cause. -/
theorem State.noteCause_rd (s : State) (n : Nat) (c : Nat × Nat × Stamp) {f : Fld} (hf : f.reg = .SITE_FSTAT) :
    (s.noteCause n c).rd f n = (s.wr (tripCause c.1) 1 n).rd f n := by
  unfold State.noteCause tripCause
  split
  · exact State.rd_wr_ne _ _ _ _ _ _ (.inl (by rw [hf]; decide))
  · split <;> exact State.rd_wr_ne _ _ _ _ _ _ (.inl (by rw [hf]; decide))

theorem State.noteCause_own (s : State) (n : Nat) (c : Nat × Nat × Stamp) : (s.noteCause n c).rd (tripCause c.1) n = 1 := by
  rcases tripCause_cases c.1 with h | h | h <;>
    rw [s.noteCause_rd n c (by rw [h]; rfl), State.rd_wr, h] <;> rfl

/-- A cause once noted stays. -/
theorem State.noteCause_stays (s : State) (n : Nat) (c d : Nat × Nat × Stamp) (h : s.rd (tripCause d.1) n = 1) :
    (s.noteCause n c).rd (tripCause d.1) n = 1 := by
  by_cases hcd : tripCause d.1 = tripCause c.1
  · rw [hcd, State.noteCause_own]
  · have hlo : (tripCause c.1).lo ≠ (tripCause d.1).lo := fun h => hcd (tripCause_of_lo h.symm)
    have hreg : (tripCause d.1).reg = .SITE_FSTAT := by rcases tripCause_cases d.1 with hd | hd | hd <;> rw [hd] <;> rfl
    rw [s.noteCause_rd n c hreg, State.rd_wr_away _ _ (.inr hlo), h]

/-- The sources of a site's trip leave it no husk and note their causes. -/
theorem State.noteCauses (s : State) (n : Nat) (cs : List (Nat × Nat × Stamp)) :
    let t := cs.foldl (fun s c => s.noteCause n c) s
    t.siteX n = s.siteX n ∧ t.now = s.now ∧ t.on F.SITE_FSTAT_HUSK n = s.on F.SITE_FSTAT_HUSK n ∧
      ∀ c ∈ cs, t.rd (tripCause c.1) n = 1 := by
  have hd := Does.each (fun s c => State.noteCause_does s n c) cs s
  refine ⟨by simp only [State.siteX, hd.sites (by decide)], hd.now (by decide), ?_, fun c hc => ?_⟩
  · refine fold_keeps _ (fun s => s.on F.SITE_FSTAT_HUSK n) (fun s c => ?_) cs s
    have hlo : (tripCause c.1).lo ≠ F.SITE_FSTAT_HUSK.lo := by
      rcases tripCause_cases c.1 with h | h | h <;> rw [h] <;> decide
    rw [State.on, s.noteCause_rd n c rfl, State.rd_wr_away _ _ (.inr hlo), State.on]
  · exact fold_attains _ (fun s c => s.rd (tripCause c.1) n) (fun s c => s.noteCause_own n c)
      (fun s p q _ h => s.noteCause_stays n p q h) hc s

theorem siteTrip_fences {s : State} {n : SiteId} (hh : s.on F.SITE_FSTAT_HUSK n = false) (ha : s.on F.SITE_FSTAT_ARMED n = true)
    (hc : s.tripSources n ≠ []) : ∃ t, exec (.siteTrip n) s = .next t ∧
      t.huskAt n (tripStamp (s.siteX n).armedT s.now (s.tripSources n)) ∧ ∀ c ∈ s.tripSources n, t.rd (tripCause c.1) n = 1 := by
  obtain ⟨hx, hnow, hhusk, hcauses⟩ := s.noteCauses n (s.tripSources n)
  refine ⟨_, congrArg Host.Outcome.next (if_neg (by simp [ha, hc])), ?_⟩
  extract_lets u
  change u.siteX n = s.siteX n at hx
  change u.now = s.now at hnow
  obtain ⟨hat, hkeep⟩ := State.makeHusk_fences (hhusk.trans hh) (tripStamp (s.siteX n).armedT s.now (s.tripSources n))
  rw [hx, hnow]
  refine ⟨hat, fun c hc => ?_⟩
  have hf : (tripCause c.1).reg = .SITE_FSTAT ∧ (tripCause c.1).lo ∉ huskFields := by
    rcases tripCause_cases c.1 with h | h | h <;> rw [h] <;> decide
  rw [hkeep _ n hf.1 (.inr hf.2), hcauses c hc]

/-! #### Fences and the failure of a die link (R359, R365) -/

theorem exec_fence {s : State} {n : SiteId} (h : (s.site n).isSome = true) :
    exec (.fence n) s = .next ((s.wr F.SITE_FSTAT_SOFT 1 n).makeHusk n s.now) :=
  congrArg Host.Outcome.next (if_neg (by simpa [Option.isNone_iff_eq_none, Option.isSome_iff_ne_none] using h))

theorem fence_fences {s : State} {n : SiteId} (hh : s.on F.SITE_FSTAT_HUSK n = false) (h : (s.site n).isSome = true) :
    ∃ t, exec (.fence n) s = .next t ∧ t.huskAt n s.now ∧ t.rd F.SITE_FSTAT_SOFT n = 1 := by
  have hh' : (s.wr F.SITE_FSTAT_SOFT 1 n).on F.SITE_FSTAT_HUSK n = false := by
    rwa [State.on, State.rd_wr_ne _ _ _ _ _ _ (.inr (by decide))]
  obtain ⟨hat, hkeep⟩ := State.makeHusk_fences hh' s.now
  exact ⟨_, exec_fence h, hat, (hkeep _ n rfl (.inr (by decide))).trans (State.rd_wr ..)⟩

theorem fence_strikes {s : State} {n : SiteId} (hh : s.on F.SITE_FSTAT_HUSK n = true) (h : (s.site n).isSome = true) :
    ∃ t, exec (.fence n) s = .next t ∧ t.rd F.SITE_FSTAT_SOFT n = 1 ∧
      t.rd F.SITE_FSTAMP_LO_FSTAMP_LO n = s.rd F.SITE_FSTAMP_LO_FSTAMP_LO n ∧ t.evq = s.evq ∧ t.ledgq = s.ledgq := by
  have hh' : (s.wr F.SITE_FSTAT_SOFT 1 n).on F.SITE_FSTAT_HUSK n = true := by
    rwa [State.on, State.rd_wr_ne _ _ _ _ _ _ (.inr (by decide))]
  exact ⟨_, (exec_fence h).trans (congrArg Host.Outcome.next (State.makeHusk_husk hh' s.now)), State.rd_wr ..,
    State.rd_wr_ne _ _ _ _ _ _ (.inl (by decide)), rfl, rfl⟩

/-- What a site shows once its die link has failed: it is a husk, and its cause is the link. -/
def State.linkShown (s : State) (m : Nat) : Bool × Nat := (s.on F.SITE_FSTAT_HUSK m, s.rd F.SITE_FSTAT_LINK m)

/-- The failure of a die link makes a site a husk with cause LINK; every other site shows what it showed. -/
theorem State.linkHusk_shows (s : State) (n : Nat) (stamp : Stamp) :
    ((s.wr F.SITE_FSTAT_LINK 1 n).makeHusk n stamp).linkShown n = (true, 1) ∧
    ∀ m, m ≠ n → ((s.wr F.SITE_FSTAT_LINK 1 n).makeHusk n stamp).linkShown m = s.linkShown m := by
  have hown : (s.wr F.SITE_FSTAT_LINK 1 n).rd F.SITE_FSTAT_LINK n = 1 := State.rd_wr ..
  have hoth (m : Nat) (h : m ≠ n) : (s.wr F.SITE_FSTAT_LINK 1 n).linkShown m = s.linkShown m := by
    rw [State.linkShown, State.on, State.rd_wr_away _ _ (.inl h), State.rd_wr_away _ _ (.inl h)]
    rfl
  generalize s.wr F.SITE_FSTAT_LINK 1 n = u at *
  by_cases hh : u.on F.SITE_FSTAT_HUSK n = true
  · rw [State.makeHusk_husk hh]
    exact ⟨Prod.ext hh hown, hoth⟩
  · obtain ⟨⟨hhusk, -⟩, hkeep⟩ := State.makeHusk_fences (Bool.eq_false_of_not_eq_true hh) stamp
    refine ⟨Prod.ext hhusk ((hkeep _ n rfl (.inr (by decide))).trans hown), fun m h => ?_⟩
    rw [← hoth m h, State.linkShown, State.on, hkeep _ m rfl (.inl h), hkeep _ m rfl (.inl h)]
    rfl

theorem dieLinkFail_fences {s : State} {die : DieId} (h : s.dieOk die = true) : ∃ t, exec (.dieLinkFail die) s = .next t ∧
    t.dieOk die = false ∧ ∀ m ∈ s.sitesOfDie die, t.on F.SITE_FSTAT_HUSK m = true ∧ t.rd F.SITE_FSTAT_LINK m = 1 := by
  refine ⟨_, congrArg Host.Outcome.next (if_neg (by simp [h])), ?_⟩
  extract_lets s1 s2 s3
  have hok : s2.dieOk die = false := by
    refine (congrArg (hasBit · die) (State.rd_wr ..)).trans ((hasBit_mod_two_pow (w := 4) _ die.isLt).trans ?_)
    rw [hasBit_withoutBit_eq, decide_eq_true rfl]
    rfl
  have d3 := Does.each (fun s n => ((State.wr_does s F.SITE_FSTAT_LINK 1 n 0).andThen (State.makeHusk_does _ n s.now false)))
    (s2.sitesOfDie die) s2
  have d4 := Does.each State.faultMute_does (wavesOfDie die) s3
  refine ⟨?_, fun m hm => ?_⟩
  · rw [State.dieOk, d4.rd F.GLB_UNITS_PD_OK 0 0 (by decide), d3.rd F.GLB_UNITS_PD_OK 0 0 (by decide)]
    exact hok
  · have hshown : s3.linkShown m = (true, 1) :=
      fold_attains _ State.linkShown (fun s p => (s.linkHusk_shows p s.now).1)
        (fun s p q hqp hq => ((s.linkHusk_shows p s.now).2 q hqp).trans hq) (show m ∈ s2.sitesOfDie die from hm) s2
    rw [d4.on F.SITE_FSTAT_HUSK m 0 (by decide), d4.rd F.SITE_FSTAT_LINK m 0 (by decide)]
    exact Prod.mk.inj hshown

/-! #### Unfencing (R366, R367) -/

theorem unfence_refused {s : State} {n : SiteId} (h : s.unfenceBad n = true) : ∃ t, exec (.unfence n) s = .next t ∧
    t.rd F.SITE_FSTAT_UNFBAD n = 1 ∧ t.on F.SITE_FSTAT_HUSK n = s.on F.SITE_FSTAT_HUSK n ∧ t.rails = s.rails := by
  refine ⟨_, congrArg Host.Outcome.next (if_pos h), State.rd_wr .., ?_, ?_⟩
  · rw [State.on, State.rd_wr_ne _ _ _ _ _ _ (.inr (by decide))]
    split
    · rw [State.rd_wr_ne _ _ _ _ _ _ (.inl (by decide))]
      rfl
    · rfl
  · split <;> rfl

/-- A field that reads 0 does so after a write of 0 into any field. -/
theorem State.rd_wr_zero (s : State) {f : Fld} (g : Fld) (n : Nat) (h : s.rd f n = 0) : (s.wr g 0 n).rd f n = 0 := by
  by_cases hk : g.reg = f.reg ∧ g.lo = f.lo
  · have hkey : f.key n 0 = g.key n 0 := by simp [Fld.key, hk.1, hk.2]
    calc (s.wr g 0 n).rd f n = (s.wr g 0 n).rd g n := congrArg (Store.get FKey.reset _) hkey
      _ = 0 := (State.rd_wr ..).trans (Nat.zero_mod _)
  · rwa [State.rd_wr_ne _ _ _ _ _ _ (not_and_or.1 hk)]

/-- The flags of a husk: HUSK and its causes. -/
def huskFlags : List Fld := [F.SITE_FSTAT_HUSK, F.SITE_FSTAT_LINK, F.SITE_FSTAT_FAULT, F.SITE_FSTAT_SOFT, F.SITE_FSTAT_PIN,
  F.SITE_FSTAT_RAILI, F.SITE_FSTAT_RAILV]

theorem huskFlags_reg {f : Fld} (hf : f ∈ huskFlags) :
    f.reg = .SITE_FSTAT ∧ f.lo ≠ F.SITE_FSTAT_ARMED.lo ∧ f.lo ≠ F.SITE_FSTAT_ARMSRC.lo := by
  revert f
  decide

/-- An accepted unfence ends the husk, leaves its rails off and its gang idle, and opens the recovery window. -/
theorem State.unfence_ends {s : State} {n : Nat} (h : s.unfenceBad n = false) :
    (∀ f ∈ huskFlags, (s.unfence n).rd f n = 0) ∧ (∀ r ∈ s.railsOf n, (s.unfence n).railSt r = rlOff) ∧
    (∀ p ∈ s.podsOf n, (s.unfence n).rd F.ENG_STAT_STATE p = stIdle) ∧
    ((s.unfence n).siteX n).wins.any (fun w => w.src == 3 && w.waits) = true := by
  unfold State.unfence
  rw [if_neg (ne_true_of_eq_false h)]
  extract_lets s1 s2 s3 s4
  have hflags : ∀ f ∈ huskFlags, s1.rd f n = 0 := fun f hf =>
    fold_attains _ (fun s f => s.rd f n) (fun s f => (State.rd_wr ..).trans (Nat.zero_mod _))
      (fun s g f _ h => s.rd_wr_zero g n h) hf s
  have h1 : s1.siteMap = s.siteMap := rfl
  have d2 := Does.each (fun s r => State.wr_does s F.RAIL_STAT_STATE rlOff r 0) (s1.railsOf n) s1
  have d3 : Does _ _ s2 s3 := s2.setGstate_does n stIdle
  have d4 : Does _ _ s3 s4 := Does.each (fun s q => State.setPin_does s q { s.pin q with tripped := false }) (s3.pinsOf n) s3
  have d5 := (s4.openWindow_does n 3 true).andThen (State.refreshArm_does _ n)
  refine ⟨fun f hf => ?_, fun r hr => ?_, fun p hp => ?_, ?_⟩
  · obtain ⟨hreg, hlo⟩ := huskFlags_reg hf
    rw [State.refreshArm_rd _ _ _ (.inr hlo), (s4.openWindow_does n 3 true).rd f n 0 (by rw [hreg]; decide),
      d4.rd f n 0 (by rw [hreg]; decide), d3.rd f n 0 (by rw [hreg]; decide)]
    exact (d2.rd f n 0 (by rw [hreg]; decide)).trans (hflags f hf)
  · rw [State.railSt, d5.rd F.RAIL_STAT_STATE r 0 (by decide), d4.rd F.RAIL_STAT_STATE r 0 (by decide),
      d3.rd F.RAIL_STAT_STATE r 0 (by decide)]
    rw [← State.railsOf_of h1] at hr
    exact (fold_sets (fun s r => s.wr F.RAIL_STAT_STATE rlOff r) (fun s p => State.rd_wr ..)
      (fun s p q hqp => State.rd_wr_inst _ _ _ _ _ _ _ (.inl hqp)) (s1.railsOf n) s1).1 r hr
  · have hp2 : p ∈ s2.podsOf n := by rwa [d2.podsOf (by decide), State.podsOf_of h1]
    rw [d5.rd F.ENG_STAT_STATE p 0 (by decide), d4.rd F.ENG_STAT_STATE p 0 (by decide)]
    exact (State.rd_wrAll ..).trans (if_pos hp2)
  · rw [(State.refreshArm_shows _ n).1, State.openWindow, State.siteX_setSiteX]
    rfl

/-! #### Windows and the arm request (R359, R363) -/

theorem exec_windowClose (s : State) (n : SiteId) : exec (.windowClose n) s =
    .next ((s.setSiteX n { s.siteX n with wins := (s.siteX n).wins.filter (fun w => !s.winDone w) }).refreshArm n) := rfl

theorem exec_armReq (s : State) (n : SiteId) (on : Bool) : exec (.armReq n on) s = .next (s.armReq n on) := rfl

theorem exec_unfence (s : State) (n : SiteId) : exec (.unfence n) s = .next (s.unfence n) := rfl

/-- The request sets ARM_REQ, and opens or closes the request window. -/
theorem State.armReq_opens (s : State) (n : Nat) (on : Bool) : (s.armReq n on).on F.SITE_FCTL_ARM_REQ n = on ∧
    ((s.armReq n on).siteX n).wins.any (fun w => w.src == 4) = on ∧
    (s.armReq n on).rd F.SITE_FSTAT_ARMED n = ofBool ((s.armReq n on).armSource n != 0) := by
  unfold State.armReq
  extract_lets s1 x s2
  have hreq : s2.on F.SITE_FCTL_ARM_REQ n = on := by
    have h1 : s1.on F.SITE_FCTL_ARM_REQ n = on := by
      rw [State.on, State.rd_wr]
      cases on <;> rfl
    unfold s2
    split
    · split
      · exact h1
      · exact h1
    · exact h1
  have hwin : (s2.siteX n).wins.any (fun w => w.src == 4) = on := by
    unfold s2
    cases on
    · rw [if_neg Bool.false_ne_true, State.siteX_setSiteX]
      simp
    · rw [if_pos rfl]
      split
      · assumption
      · rw [State.openWindow, State.siteX_setSiteX]
        rfl
  obtain ⟨hw, ha⟩ := s2.refreshArm_shows n
  rw [(s2.refreshArm_does n).on F.SITE_FCTL_ARM_REQ n 0 (by decide), hw]
  exact ⟨hreq, hwin, ha⟩

/-- Settles O34: each command by its equation, the husk by `makeHusk_fences`, the arm by `refreshArm_shows`. -/
theorem tripPathAndFences : Obligations.TripPathAndFences := by
  unfold Obligations.TripPathAndFences
  intro s n
  refine ⟨⟨_, exec_windowClose s n, ?_⟩, fun on => ⟨_, exec_armReq s n on, State.armReq_opens s n on⟩,
    fun hh => ⟨fun ha hc => ?_, fence_fences hh⟩, fence_strikes, fun die => dieLinkFail_fences, unfence_refused,
    fun hb => ⟨_, exec_unfence s n, ?_⟩⟩
  · obtain ⟨hw, ha⟩ := State.refreshArm_shows
      (s.setSiteX n { s.siteX n with wins := (s.siteX n).wins.filter (fun w => !s.winDone w) }) n
    rw [State.siteX_setSiteX] at hw
    exact ⟨hw, ha⟩
  · obtain ⟨t, ht, hat, hcauses⟩ := siteTrip_fences hh ha hc
    refine ⟨t, ht, hat, fun c hm => ?_⟩
    have := hcauses c hm
    unfold tripCause at this
    split
    · next h => rwa [if_pos h] at this
    · next h =>
      rw [if_neg h] at this
      split
      · next h => rwa [if_pos h] at this
      · next h => rwa [if_neg h] at this
  · obtain ⟨hflags, hrails, hidle, hwin⟩ := State.unfence_ends hb
    refine ⟨?_, fun f hf => hflags f (List.mem_cons_of_mem _ hf), hrails, hidle, hwin⟩
    rw [State.on, hflags _ List.mem_cons_self]
    rfl

end Sys2Proof.Machine
end

/-! ### Scope: the descriptors' completions, and the steps' gangs -/

section
namespace Sys2Proof.Machine

open Sys2Proof

/-! #### The end of a descriptor (R389) -/

theorem State.finish_cplq (s : State) (q : Nat) (d : Desc) (status r0 r1 detail : Nat) :
    ((s.finish q d status r0 r1 detail).qp q).cplq =
      (s.qp q).cplq ++ [Cpl.mk d.idx d.cid d.opc d.irq status r0 r1 detail (d.f 8 7 0)] := by
  rw [State.finish, State.qp_setQp]

/-- The completions that wait in a queue stay there while the descriptors behind are settled. -/
theorem State.settleQ_keeps {c : Cpl} {q : Nat} (k : Nat) {s : State} (h : c ∈ (s.qp q).cplq) : c ∈ ((s.settleQ q k).qp q).cplq := by
  induction k generalizing s with
  | zero => exact h
  | succ k ih =>
    unfold State.settleQ
    split
    · exact h
    · refine ih ?_
      split
      · exact s.finish_cplq .. ▸ List.mem_append_left _ h
      · exact s.finish_cplq .. ▸ List.mem_append_left _ h

/-- A descriptor that ends has its completion in its queue (R389). -/
theorem State.endDesc_completed (s : State) (q : Nat) (d : Desc) (status r0 r1 detail : Nat) :
    (s.endDesc q d status r0 r1 detail).completed q d status r0 r1 detail :=
  State.settleQ_keeps 17 (by rw [State.finish_cplq]; exact List.mem_append_right _ (List.mem_singleton.2 rfl))

/-! #### The ready check (R24, R476, R481) -/

/-- What a site's gang holds for the step that it fetches for: its entry, its start tick, its number. -/
def State.fetchesFor (s : State) (n : Nat) : PAddr × Stamp × Nat × Bool :=
  ((s.gang n).main.pc, (s.gang n).startT, (s.gang n).stepNo, (s.gang n).prep)

/-- A site that is prepared fetches from the step's entry for its start; the other gangs stay as they were. -/
theorem State.prepare_fetchesFor (s : State) (r : StepRun) (n : Nat) :
    (s.prepare r n).fetchesFor n = (PAddr.ofNum r.entry, r.startT, r.stepNo, true) ∧
    ∀ m, m ≠ n → (s.prepare r n).fetchesFor m = s.fetchesFor m := by
  unfold State.prepare
  extract_lets s1 old
  have h1 : s1.gangs = s.gangs := by
    unfold s1
    split
    · exact (Does.each State.rewindPod_does (s.podsOf n) s).gangs (by decide)
    · rfl
  refine ⟨?_, fun m h => ?_⟩
  · rw [State.fetchesFor, State.gang_setGang]
  · rw [State.fetchesFor, State.gang_setGang_ne _ _ _ _ h, State.gang_of_gangs h1 m]
    rfl

/-- The device's answer to a step at its ready check: refused for its limits, or its gangs prepared. -/
theorem exec_stepRunReadyCheck {s : State} {q : QpId} {cid : Nat} {r : StepRun} (h : s.run q cid = some r) (hc : r.checked = false)
    (ht : ahead (after r.startT (2 ^ 54 - 2 * tUs)) s.now = 0) (hr : s.runReady r = true) (hb : s.overBudget r = false) :
    (s.overLimit r ≠ 0 → exec (.stepRunReadyCheck q cid) s = .next (s.refuseRun r stThermal (s.overLimit r))) ∧
    (s.overLimit r = 0 → exec (.stepRunReadyCheck q cid) s = .next ((s.startable r).foldl (fun s n => s.prepare r n)
      { s with runs := s.runs.map (fun e => if e = r then { e with checked := true } else e) })) := by
  have hopen : ¬(r.checked = true ∨ reached (after r.startT (2 ^ 54 - 2 * tUs)) s.now = false) := by
    rw [reached, ht]
    simp [hc]
  have hready : ¬(ahead (after r.startT (2 ^ 54 - 2 * tUs)) s.now < 0 ∨ s.runReady r = false) := by
    rw [ht]
    simp [hr]
  change (_ → execStepRunReadyCheck q cid s = _) ∧ (_ → execStepRunReadyCheck q cid s = _)
  unfold execStepRunReadyCheck
  simp only [h, if_neg hopen, if_neg hready, hb]
  refine ⟨fun hl => ?_, fun hl => ?_⟩
  · rw [if_pos (.inl hl)]
    rfl
  · rw [if_neg (by simp [hl])]
    rfl

/-- A step refused before its start ends its descriptor with the status and the detail. -/
theorem State.refuseRun_completed {s : State} {r : StepRun} {d : Desc} (status detail : Nat)
    (hd : (s.qp r.qp).fetched.find? (fun d => d.cid == r.cid && d.accepted) = some d) :
    (s.refuseRun r status detail).completed r.qp d status 0 0 detail := by
  have hq : (s.withdraw r.qp r.cid).qp r.qp = s.qp r.qp := by
    simp only [State.qp, (s.withdraw_does r.qp r.cid).qps (by decide)]
  unfold State.refuseRun
  simp only [hq, hd]
  exact State.endDesc_completed ..

theorem readyCheck_prepares {s : State} {q : QpId} {cid : Nat} {r : StepRun} (h : s.run q cid = some r) (hc : r.checked = false)
    (ht : ahead (after r.startT (2 ^ 54 - 2 * tUs)) s.now = 0) (hr : s.runReady r = true) (hl : s.overLimit r = 0)
    (hb : s.overBudget r = false) : ∃ t, exec (.stepRunReadyCheck q cid) s = .next t ∧
      t.runs = s.runs.map (fun e => if e = r then { e with checked := true } else e) ∧
      ∀ n ∈ s.startable r, (t.gang n).main.pc = PAddr.ofNum r.entry ∧ (t.gang n).startT = r.startT ∧ (t.gang n).stepNo = r.stepNo ∧
        (t.gang n).prep = true := by
  refine ⟨_, (exec_stepRunReadyCheck h hc ht hr hb).2 hl, ?_, fun n hn => ?_⟩
  · rw [(Does.each (fun s n => State.prepare_does s r n) _ _).runs (by decide)]
  · have hfetch := fold_attains (fun s n => State.prepare s r n) State.fetchesFor (fun s p => (s.prepare_fetchesFor r p).1)
      (fun s p m hm hq => ((s.prepare_fetchesFor r p).2 m hm).trans hq) hn
      { s with runs := s.runs.map (fun e => if e = r then { e with checked := true } else e) }
    simp only [State.fetchesFor, Prod.mk.injEq] at hfetch
    exact hfetch

/-! #### The start (R135) -/

/-- What shows that a site has started anew: no fail, no tag result, the counters alone valid, no first fail. -/
def State.shownStart (s : State) (n : Nat) : List Nat :=
  [s.rd F.SITE_FCOUNT_FCOUNT n, s.rd F.SITE_TAGRES_TAGRES n, s.rd F.SITE_VVAL_VVALID n, s.rd F.SITE_FFPOS_LO_FFPOS_LO n,
    s.rd F.SITE_FFPOS_HI_FFPOS_HI n]

/-- A site's state at its start (R135). -/
def freshSite : List Nat := [0, 0, 0xF000, 2 ^ 32 - 1, 2 ^ 16 - 1]

/-- The registers that `shownStart` reads. -/
def startRegs : Nat :=
  2 ^ Reg.SITE_FCOUNT.ctorIdx ||| 2 ^ Reg.SITE_TAGRES.ctorIdx ||| 2 ^ Reg.SITE_VVAL.ctorIdx ||| 2 ^ Reg.SITE_FFPOS_LO.ctorIdx |||
    2 ^ Reg.SITE_FFPOS_HI.ctorIdx

/-- An operation that touches none of them leaves what a started site shows. -/
theorem Does.shownStart {parts regs : Nat} {s t : State} (h : Does parts regs s t) (hr : regs &&& startRegs = 0) (n : Nat) :
    t.shownStart n = s.shownStart n := by
  have away (i : Nat) (hi : startRegs.testBit i = true) : regs.testBit i = false := by
    have := congrArg (·.testBit i) hr
    simpa [Nat.testBit_and, hi] using this
  unfold State.shownStart
  rw [h.rd F.SITE_FCOUNT_FCOUNT n 0 (away _ (by decide)), h.rd F.SITE_TAGRES_TAGRES n 0 (away _ (by decide)),
    h.rd F.SITE_VVAL_VVALID n 0 (away _ (by decide)), h.rd F.SITE_FFPOS_LO_FFPOS_LO n 0 (away _ (by decide)),
    h.rd F.SITE_FFPOS_HI_FFPOS_HI n 0 (away _ (by decide))]

theorem State.resetSite_fresh (s : State) (n : Nat) : (s.resetSite n).shownStart n = freshSite ∧
    ∀ m, m ≠ n → (s.resetSite n).shownStart m = s.shownStart m := by
  unfold State.resetSite
  extract_lets s1 s2 s3 s4 s5
  have d6 := Does.each (fun s k => State.setGc_does s n k 0) (List.range 4) s5
  refine ⟨(d6.shownStart (by decide) n).trans ?_, fun m h => (d6.shownStart (by decide) m).trans ?_⟩
  · unfold State.shownStart s5 s4 s3 s2 s1
    simp (disch := decide) only [State.rd_wr, State.rd_wr_ne]
    rfl
  · unfold State.shownStart s5 s4 s3 s2 s1
    simp only [State.rd_wr_away _ _ (.inl h)]

/-- A site that starts and is no husk shows a fresh state; a site that shows one goes on to show it, whatever site starts
(R135, R178, R258, R349). -/
theorem State.startSite_shows (s : State) (r : StepRun) (n : Nat) :
    (s.gstate n ≠ stHusk → (s.startSite r n).shownStart n = freshSite) ∧
    ∀ m, s.shownStart m = freshSite → (s.startSite r n).shownStart m = freshSite := by
  unfold State.startSite
  by_cases hh : s.gstate n = stHusk
  · rw [if_pos hh]
    have hd := (State.deviceEntry_does (s.setGang n { s.gang n with stepNo := r.stepNo, devEntry := false }) n 2 0
      (s.rd F.LEDG_BINS_FENCED) r.startT).andThen (State.siteEnded_does _ n 2)
    exact ⟨fun h => absurd hh h, fun m hm => (hd.shownStart (by decide) m).trans hm⟩
  · rw [if_neg hh]
    extract_lets ps s1 s2 dec g s3 s4 s5 s6 s7 g8 s8
    have d2 : Does _ _ s1 s2 := Does.each (fun s p => State.wr_does s F.ENG_STAT_ERR 0 p 0) ps s1
    have d3 : Does _ _ s2 s3 := s2.setGang_does n _
    have d4 : Does _ _ s3 s4 := s3.setGstate_does n stRun
    have d5 : Does _ _ s4 s5 := Does.each (fun s a => State.touch_does s n a) g.used s4
    have d6 : Does _ _ s5 s6 := Does.each (fun s p => State.stepRecord_does s n r.startT p) ps s5
    have d7 : Does _ _ s6 s7 := s6.applyProfile_does n r.rprof
    have d17 := ((((d2.andThen d3).andThen d4).andThen d5).andThen d6).andThen d7
    have d8 : Does _ _ s7 s8 := s7.setGang_does n _
    clear_value s8 s7 s6 s5 s4 s3 g dec s2
    have hend (m : Nat) : (match s7.imageMismatch n with
        | none => s7.settle n
        | some p => (s8.engineErr n Path.main erUmismatch 0 (PAddr.ofNum r.entry) p).settle n).shownStart m = s1.shownStart m := by
      rw [← d17.shownStart (by decide) m]
      split
      · exact (s7.settle_does n).shownStart (by decide) m
      · exact ((d8.andThen (State.engineErr_does ..)).andThen (State.settle_does ..)).shownStart (by decide) m
    obtain ⟨hown, hoth⟩ := s.resetSite_fresh n
    refine ⟨fun _ => (hend n).trans hown, fun m hm => (hend m).trans ?_⟩
    by_cases hmn : m = n
    · exact hmn ▸ hown
    · exact (hoth m hmn).trans hm

/-- A step whose first site is no husk starts it, and its other sites leave what it shows. -/
theorem gangStart_shows {s : State} {q : QpId} {cid : Nat} {r : StepRun} (h : s.run q cid = some r) (hc : r.checked = true)
    (hs : r.started = false) (ht : reached r.startT s.now = true) (hp : s.preempted q = false) {n : Nat} {rest : List Nat}
    (hsites : r.sites = n :: rest) (hh : s.gstate n ≠ stHusk) :
    ∃ t, exec (.gangStart q cid) s = .next t ∧ t.shownStart n = freshSite := by
  have hopen : ¬(r.checked = false ∨ r.started = true ∨ reached r.startT s.now = false) := by simp [hc, hs, ht]
  change ∃ t, execGangStart q cid s = .next t ∧ _
  unfold execGangStart
  simp only [h, if_neg hopen, if_neg (ne_true_of_eq_false hp), hsites, List.foldl_cons]
  refine ⟨_, rfl, ?_⟩
  have keep : ∀ (l : List Nat) (u : State), u.shownStart n = freshSite →
      (l.foldl (fun s n => s.startSite r n) u).shownStart n = freshSite := by
    intro l
    induction l with
    | nil => exact fun _ hu => hu
    | cons p l ih => exact fun u hu => ih _ ((u.startSite_shows r p).2 n hu)
  refine keep rest _ ((State.startSite_shows _ r n).1 ?_)
  split <;> exact hh

/-! #### The completion (R30, R391) -/

/-- A step whose sites have all ended leaves, and its descriptor ends with the counts of its sites. -/
theorem stepRunCompletion_ends {s : State} {q : QpId} {cid : Nat} {r : StepRun} (h : s.run q cid = some r) (hs : r.started = true)
    (he : r.sites.all (fun n => r.ended.any (fun e => e.1 == n)) = true)
    (hl : s.ledgq.all (fun e => !r.sites.contains e.site) = true) : ∃ t, exec (.stepRunCompletion q cid) s = .next t ∧
      t.runs = s.runs.erase r ∧ ∀ d, (s.qp r.qp).fetched.find? (fun d => d.cid == r.cid && d.accepted) = some d → s.safe = false →
        (∀ e ∈ r.ended, e.2 ≠ 2 ∧ e.2 ≠ 4) → t.completed r.qp d stOk r.lastT.toNat
          ((r.ended.filter (fun e => e.2 == 1)).length + 65536 * (r.ended.filter (fun e => e.2 == 3)).length) 0 := by
  have hq : r.qp = q := by
    have := List.find?_some h
    simp only [Bool.and_eq_true, beq_iff_eq] at this
    exact this.1
  have hdone : ¬(r.started && r.sites.all (fun (n : Nat) => r.ended.any (fun (e : Nat × Nat) => e.1 == n))
      && s.ledgq.all (fun (e : LEnt) => !r.sites.contains e.site)) = false := by simp only [hs, he, hl]; decide
  change ∃ t, execStepRunCompletion q cid s = .next t ∧ _
  unfold execStepRunCompletion
  simp only [h, if_neg hdone]
  refine ⟨_, rfl, ?_, fun d hd hsafe hok => ?_⟩
  · split
    · rfl
    · exact (State.endDesc_does ..).runs (by decide)
  · have none_of (k : Nat) (hk : ∀ e ∈ r.ended, e.2 ≠ k) : (r.ended.filter (fun e => e.2 == k)).length = 0 := by
      rw [List.length_eq_zero_iff, List.filter_eq_nil_iff]
      exact fun e he => by simpa using hk e he
    have h2 := none_of 2 fun e he => (hok e he).1
    have h4 := none_of 4 fun e he => (hok e he).2
    have hd' : (({ s with runs := s.runs.erase r } : State).qp q).fetched.find? (fun d => d.cid == r.cid && d.accepted) = some d := by
      rw [← hq]
      exact hd
    rw [hq, hd']
    simp only [h2, h4, hsafe, Bool.false_eq_true, if_false, gt_iff_lt, lt_irrefl, if_true, Nat.mul_zero, Nat.add_zero]
    exact State.endDesc_completed ..

/-! #### A saved gang restarts (R429) -/

/-- Bringing a gang that waits for nothing and holds no error up to date leaves the state of its engines. -/
theorem State.settle_keeps_state {s : State} {n : Nat} (hh : (s.gang n).held = none) (hw : (s.gang n).wait = none) (p : Nat) :
    (s.settle n).rd F.ENG_STAT_STATE p = s.rd F.ENG_STAT_STATE p := by
  have hfix : (s.fix n).rd F.ENG_STAT_STATE p = s.rd F.ENG_STAT_STATE p := by
    have hwait : ((s.gang n).fix s.now).wait = none := (Gang.fix_fixed (s.gang n) s.now).noWait hw
    unfold State.fix
    simp only [hwait]
    rfl
  have hheld : (((s.fix n).ensureSprout n).publish n).gang n = ((s.fix n).ensureSprout n).gang n := State.publish_gang ..
  obtain ⟨sp, hg, -⟩ := State.ensureSprout_gang (s.fix n) n
  have hnone : ((((s.fix n).ensureSprout n).publish n).gang n).held = none := by
    rw [hheld, hg, State.fix_gang]
    exact (Gang.fix_fixed (s.gang n) s.now).held.trans hh
  rw [State.settle, State.raiseErr_none hnone, (State.publish_does _ n).rd F.ENG_STAT_STATE p 0 (by decide),
    (State.ensureSprout_does _ n).rd F.ENG_STAT_STATE p 0 (by decide), hfix]

/-- A gang put into RUN, with no error held and nothing to wait for, is in RUN with its own preemption and pin end. -/
theorem State.settle_running (s : State) (n : Nat) (g : Gang) (hh : g.held = none) (hw : g.wait = none) :
    let t := ((s.setGang n g).setGstate n stRun).settle n
    t.pwr = s.pwr ∧ (t.gang n).preempt = g.preempt ∧ (t.gang n).pinEnd = g.pinEnd ∧
      ∀ p ∈ s.podsOf n, t.rd F.ENG_STAT_STATE p = stRun := by
  intro t
  have hgang : ((s.setGang n g).setGstate n stRun).gang n = g := by rw [State.setGstate_gang, State.gang_setGang]
  obtain ⟨h, sp, hfix, ht, -⟩ := State.settled_gang (s := (s.setGang n g).setGstate n stRun) (n := n) (by rw [hgang, hh])
  rw [hgang] at hfix
  change t.gang n = { h with sprout := sp } at ht
  have hpwr : t.pwr = ((s.setGang n g).setGstate n stRun).pwr := (State.settle_does _ n).pwr (by decide)
  refine ⟨hpwr.trans ((State.setGstate_does _ n stRun).pwr (by decide)), ?_, ?_, fun p hp => ?_⟩
  · rw [ht]
    exact hfix.preempt
  · rw [ht]
    exact hfix.pinEnd
  · rw [State.settle_keeps_state (by rw [hgang, hh]) (by rw [hgang, hw])]
    exact (State.rd_wrAll ..).trans (if_pos hp)

/-- A gang reloads its context and runs on, its next vector at the tick given. -/
def State.restartGang (s : State) (n : Nat) (at_ : Stamp) : State :=
  let g := s.gang n
  ((s.setGang n { g with
    preempt := none
    noGap := true
    pinEnd := at_
    main := { g.main with nextDisp := s.slotted n (later g.main.nextDisp s.now) g.main.dispT } }).setGstate n stRun).settle n

theorem exec_gangRestart {s : State} {n : SiteId} {e : Nat × Stamp} (h : s.pwr.resumes.find? (fun e => e.1 == n.val) = some e)
    (hs : s.gstate n = stSaved) :
    exec (.gangRestart n) s = .next (State.restartGang { s with pwr := { s.pwr with resumes := s.pwr.resumes.erase e } } n e.2) := by
  have go : exec (.gangRestart n) s = .next (match s.pwr.resumes.find? (fun e => e.1 == n.val) with
    | none => s
    | some e =>
      if s.gstate n ≠ stSaved then { s with pwr := { s.pwr with resumes := s.pwr.resumes.erase e } }
      else State.restartGang { s with pwr := { s.pwr with resumes := s.pwr.resumes.erase e } } n e.2) := rfl
  rw [go, h]
  exact congrArg Host.Outcome.next (if_neg (not_not_intro hs))

/-- A gang that restarts is no longer preempted, its next vector has the tick given, and its engines run. -/
theorem State.restartGang_runs {s : State} {n : Nat} (at_ : Stamp) (hh : (s.gang n).held = none) (hw : (s.gang n).wait = none) :
    (s.restartGang n at_).pwr = s.pwr ∧ ((s.restartGang n at_).gang n).preempt = none ∧
      ((s.restartGang n at_).gang n).pinEnd = at_ ∧ ∀ p ∈ s.podsOf n, (s.restartGang n at_).rd F.ENG_STAT_STATE p = stRun := by
  unfold State.restartGang
  exact State.settle_running s n _ hh hw

/-- Settles O27: the ready check, the start, the completion and the restart, each by what its steps leave. -/
theorem stepsStartAndEnd : Obligations.StepsStartAndEnd := by
  unfold Obligations.StepsStartAndEnd
  intro s q cid r hrun
  refine ⟨fun hc ht hr => ⟨readyCheck_prepares hrun hc ht hr, fun hl hb d hd => ?_⟩,
    fun hc hs ht hp n rest hsites hh => ?_, stepRunCompletion_ends hrun, fun n e he hs hh hw => ?_⟩
  · exact ⟨_, (exec_stepRunReadyCheck hrun hc ht hr hb).1 hl, State.refuseRun_completed _ _ hd⟩
  · obtain ⟨t, ht, hfresh⟩ := gangStart_shows hrun hc hs ht hp hsites hh
    simp only [State.shownStart, freshSite, List.cons.injEq, and_true] at hfresh
    exact ⟨t, ht, hfresh⟩
  · obtain ⟨hpwr, hrest⟩ :=
      State.restartGang_runs (s := { s with pwr := { s.pwr with resumes := s.pwr.resumes.erase e } }) e.2 hh hw
    exact ⟨_, exec_gangRestart he hs, congrArg (·.resumes) hpwr, hrest⟩

end Sys2Proof.Machine
end

/-! ### Scope: TBL_LOAD and SEG_LOAD -/

section
namespace Sys2Proof.Machine

open Sys2Proof

/-! #### The stages of a descriptor (R25, R388) -/

/-- A descriptor that starts is one of the command's. -/
theorem Starts.opc_eq {s u : State} {q cid opc : Nat} {d : Desc} (h : Starts s q cid opc d u) : d.opc = opc := by
  have hs := h.start
  unfold State.start at hs
  split at hs
  · exact absurd hs (by simp)
  · next e _ =>
    split at hs
    · exact absurd hs (by simp)
    · next hopc =>
      have he : e.opc = opc := not_not.1 hopc
      split at hs
      · obtain ⟨rfl, -⟩ := Prod.mk.inj (Option.some.inj hs)
        exact he
      · split at hs
        · obtain ⟨rfl, -⟩ := Prod.mk.inj (Option.some.inj hs)
          exact he
        · exact absurd hs (by simp)

/-- A load is no command of the steward. -/
theorem Desc.steward_load {d : Desc} (h : d.opc = 3 ∨ d.opc = 4) : d.steward = false := by
  unfold Desc.steward
  rcases h with h | h <;> rw [h] <;> rfl

section
variable {s u : State} {q cid opc : Nat} {d : Desc} (check : State → Desc → Nat) (begin_ go : Desc → State → State)

/-- A load that starts is checked, then held or begun. -/
theorem Starts.advance (h : Starts s q cid opc d u) (hl : d.steward = false) :
    (check u d ≠ 0 → s.advance q cid opc check begin_ go = u.endDesc q d stBad 0 0 (check u d)) ∧
    (check u d = 0 → u.blockedBy d = true → s.advance q cid opc check begin_ go = u.hold q d) ∧
    (check u d = 0 → u.blockedBy d = false → s.advance q cid opc check begin_ go = begin_ d u) := by
  obtain ⟨hstart, hfresh, hfree⟩ := h
  unfold State.advance
  simp only [hstart, hfresh, hfree, hl, Bool.false_eq_true, if_false, false_and, or_false]
  refine ⟨fun hc => if_pos hc, fun hc hb => ?_, fun hc hb => ?_⟩
  · rw [if_neg (not_not_intro hc), if_pos hb]
  · rw [if_neg (not_not_intro hc), if_neg (ne_true_of_eq_false hb)]

/-- A descriptor under way goes on. -/
theorem UnderWay.advance (h : UnderWay s q cid opc d) : s.advance q cid opc check begin_ go = go d s := by
  obtain ⟨hnamed, hopc, hstarted, hacc, hfree⟩ := h
  have hstart : s.start q cid opc = some (d, s) := by
    unfold State.start
    simp only [hnamed, hopc, hstarted, ne_eq, not_true_eq_false, if_false, if_true]
  unfold State.advance
  simp only [hstart, hacc, hfree, Bool.false_eq_true, if_false, if_true]

end

/-- The anchor asks the host for a read itself (R421). -/
theorem State.hostRead_out {s : State} (h : s.anchor = true) (tc pa len : Nat) (target : HostTarget) :
    (s.hostRead tc pa len target).out = s.out ++ [OutMsg.read pa len target] := by
  unfold State.hostRead
  extract_lets u
  have hu : u.anchor = true := h
  rw [if_pos hu]
  rfl

/-- A chunk whose turn has come is read at its translated address (R421). -/
theorem State.readChunk_out {s : State} {q : QpId} {d : Desc} {walk : Walk} {pa : Nat} (hr : s.chunkReady q d = true)
    (ht : s.chunkTurn = some q.val) (ho : s.hostOpen = true) (hb : s.ringsBusy = false) (ha : s.anchor = true)
    (hx : (s.translate (s.rd F.QP_CFG_ASID q) d.at_ false walk).1 = .ok pa) :
    (s.readChunk q d walk).out = s.out ++ [OutMsg.read pa (chunkLen d.at_ d.left) (.data q d.cid)] := by
  have hgo : ¬(s.chunkReady q d = false ∨ s.chunkTurn ≠ some q.val ∨ s.hostOpen = false ∨ s.ringsBusy = true) := by
    simp [hr, ht, ho, hb]
  obtain ⟨x, v, hxv⟩ : ∃ x v, s.translate (s.rd F.QP_CFG_ASID q) d.at_ false walk = (x, v) := ⟨_, _, rfl⟩
  have dv := State.translate_does hxv
  rw [hxv] at hx
  obtain rfl : x = .ok pa := hx
  unfold State.readChunk
  simp only [if_neg hgo, hxv]
  generalize hw : (v.takeChunk q).putDesc q { d with reading := chunkLen d.at_ d.left, stale := false } = w
  have dw : Does _ _ s w := hw ▸ (dv.andThen (State.takeChunk_does ..)).andThen (State.putDesc_does ..)
  rw [State.hostRead_out ((dw.on F.GLB_ROLE_ANCHOR 0 0 (by decide)).trans ha), dw.out (by decide), Fin.ofNat_val_eq_self]

/-! #### The entries of a per-pod table (R108, R222, R395) -/

/-- Where one step of a fold brings a property about and no other of its steps ends it, it holds after the fold. -/
theorem fold_reaches {α : Type} {P : State → Prop} {g : State → α → State} {l : List α} {q : α} (hq : q ∈ l)
    (hown : ∀ s, P (g s q)) (hkeep : ∀ s, ∀ p ∈ l, p ≠ q → P s → P (g s p)) (s : State) : P (l.foldl g s) := by
  have key : ∀ (m : List α) (s : State), m ⊆ l → q ∈ m ∨ P s → P (m.foldl g s) := by
    intro m
    induction m with
    | nil => exact fun s _ h => h.resolve_left List.not_mem_nil
    | cons p m ih =>
      intro s hm h
      refine ih (g s p) (List.subset_of_cons_subset hm) ?_
      by_cases hpq : p = q
      · exact .inr (hpq ▸ hown s)
      · exact h.imp (fun h => (List.mem_cons.1 h).resolve_left (Ne.symm hpq)) (hkeep s p (hm List.mem_cons_self) hpq)
  exact key l s (List.Subset.refl l) (.inl hq)

/-- Entry k of a pod's per-pod tables: its timing set, its level set and its segment. -/
def State.entryAt (s : State) (pod k : Nat) : Option TSet × Option (List LBlock) × SegX :=
  (s.tset pod k, Store.get (fun _ => none) (s.pod pod).lsets k, s.seg pod k)

theorem State.entryAt_of {s t : State} {pod : Nat} (k : Nat) (h : t.pod pod = s.pod pod) : t.entryAt pod k = s.entryAt pod k := by
  simp only [State.entryAt, State.tset, State.seg, h]

/-- What an entry of table ty holds that was loaded from its bytes; of a STREAM segment its place in the feed is its own. -/
def loadedFrom (ty : Nat) (b : List Nat) (x : Option TSet × Option (List LBlock) × SegX) : Prop :=
  (ty = 1 → x.1 = some (tsetOf b)) ∧ (ty = 2 → x.2.1 = some (lsetOf b)) ∧
  (ty = 4 → (∃ got head, x.2.2 = { segOf b with got := got, head := head }) ∧ ((segOf b).kind ≠ kdStream → x.2.2 = segOf b))

/-- One entry of a per-pod table is written. -/
def State.writeEntry (s : State) (ty pod at_ : Nat) (b : List Nat) : State :=
  let x := s.pod pod
  if ty = 1 then
    let s := s.setPod pod { x with tsets := Store.put id (fun _ => none) x.tsets at_ (some (tsetOf b)) }
    if at_ < 32 then s.wr F.POD_TIM_LOADED_LO_LOADED_LO (withBit (s.rd F.POD_TIM_LOADED_LO_LOADED_LO pod) at_) pod
    else s.wr F.POD_TIM_LOADED_HI_LOADED_HI (withBit (s.rd F.POD_TIM_LOADED_HI_LOADED_HI pod) (at_ - 32)) pod
  else if ty = 2 then s.setPod pod { x with lsets := Store.put id (fun _ => none) x.lsets at_ (some (lsetOf b)) }
  else if ty = 3 then
    s.setPod pod { x with deskew := (List.range 4).foldl (fun (m : NStore Deskew) (i : Nat) =>
      m.set {} i (deskewOf (b.drop (16 * i)))) x.deskew, deskewed := true }
  else s.setSeg pod at_ (s.boundAt (segOf b) pod)

theorem State.writeTable_eq (s : State) (ty pod first : Nat) (es : List (List Nat)) : s.writeTable ty pod first es =
    (List.range es.length).foldl (fun s k => s.writeEntry ty pod (first + k) (es.getD k [])) s := rfl

theorem State.boundAt_cases (s : State) (x : SegX) (pod : Nat) : (∃ got head, s.boundAt x pod = { x with got := got, head := head }) ∧
    (x.kind ≠ kdStream → s.boundAt x pod = x) := by
  unfold State.boundAt
  refine ⟨?_, fun h => if_neg fun hk => h hk.1⟩
  split
  · exact ⟨_, _, rfl⟩
  · exact ⟨x.got, x.head, rfl⟩

/-- An entry that is written holds what it was loaded from; every other entry stays as it was. -/
theorem State.writeEntry_entryAt (s : State) (ty pod a : Nat) (b : List Nat) :
    loadedFrom ty b ((s.writeEntry ty pod a b).entryAt pod a) ∧
    ∀ p k, p ≠ pod ∨ k ≠ a → (s.writeEntry ty pod a b).entryAt p k = s.entryAt p k := by
  have far (x : PodX) (p k : Nat) (h : p ≠ pod) : (s.setPod pod x).entryAt p k = s.entryAt p k :=
    State.entryAt_of k (State.pod_setPod_ne _ _ _ _ h)
  unfold State.writeEntry
  split
  · next h1 =>
    extract_lets x s1
    have hput : s1.tset pod a = some (tsetOf b) ∧ ∀ p k, p ≠ pod ∨ k ≠ a → s1.entryAt p k = s.entryAt p k := by
      refine ⟨?_, fun p k hpk => ?_⟩
      · rw [State.tset, State.pod_setPod]
        exact Store.get_put_eq id (fun _ => none) (s.pod pod).tsets a (some (tsetOf b))
      · by_cases hp : p = pod
        · subst hp
          simp only [State.entryAt, State.tset, State.seg, s1, State.pod_setPod]
          rw [Store.get_put_ne _ _ (hpk.resolve_left (not_not_intro rfl))]
        · exact far _ p k hp
    have hloaded : loadedFrom ty b (s1.entryAt pod a) :=
      ⟨fun _ => hput.1, fun h => absurd (h1.symm.trans h) (by decide), fun h => absurd (h1.symm.trans h) (by decide)⟩
    split <;> exact ⟨hloaded, hput.2⟩
  · next h1 =>
    split
    · next h2 =>
      refine ⟨⟨fun h => absurd h h1, fun _ => ?_, fun h => absurd (h2.symm.trans h) (by decide)⟩, fun p k hpk => ?_⟩
      · simp only [State.entryAt, State.pod_setPod]
        exact Store.get_put_eq ..
      · by_cases hp : p = pod
        · subst hp
          simp only [State.entryAt, State.tset, State.seg, State.pod_setPod]
          rw [Store.get_put_ne _ _ (hpk.resolve_left (not_not_intro rfl))]
        · exact far _ p k hp
    · next h2 =>
      split
      · next h3 =>
        refine ⟨⟨fun h => absurd h h1, fun h => absurd h h2, fun h => absurd (h3.symm.trans h) (by decide)⟩, fun p k _ => ?_⟩
        by_cases hp : p = pod
        · subst hp
          simp only [State.entryAt, State.tset, State.seg, State.pod_setPod]
        · exact far _ p k hp
      · refine ⟨⟨fun h => absurd h h1, fun h => absurd h h2, fun _ => ?_⟩, fun p k hpk => ?_⟩
        · rw [State.entryAt, State.seg_setSeg]
          exact s.boundAt_cases (segOf b) pod
        · by_cases hp : p = pod
          · subst hp
            rw [State.entryAt, State.seg_setSeg_ne _ _ _ _ _ _ hpk]
            simp only [State.entryAt, State.tset, State.setSeg, State.pod_setPod]
          · exact far _ p k hp

/-- The table of a pod: its entries hold what they were loaded from, the other entries stay as they were. -/
theorem State.writeTable_entryAt (s : State) (ty pod first : Nat) (es : List (List Nat)) :
    (∀ k < es.length, loadedFrom ty (es.getD k []) ((s.writeTable ty pod first es).entryAt pod (first + k))) ∧
    ∀ p k, p ≠ pod ∨ k < first ∨ first + es.length ≤ k → (s.writeTable ty pod first es).entryAt p k = s.entryAt p k := by
  rw [State.writeTable_eq]
  refine ⟨fun k hk => ?_, fun p k hpk => ?_⟩
  · refine fold_reaches (P := fun t => loadedFrom ty (es.getD k []) (t.entryAt pod (first + k))) (List.mem_range.2 hk)
      (fun t => (t.writeEntry_entryAt ty pod (first + k) (es.getD k [])).1) (fun t j _ hjk ht => ?_) s
    rwa [(t.writeEntry_entryAt ty pod (first + j) (es.getD j [])).2 pod (first + k) (.inr fun h => hjk (by omega))]
  · have key : ∀ (l : List Nat) (t : State), (∀ j ∈ l, j < es.length) →
        (l.foldl (fun s k => s.writeEntry ty pod (first + k) (es.getD k [])) t).entryAt p k = t.entryAt p k := by
      intro l
      induction l with
      | nil => exact fun _ _ => rfl
      | cons j l ih =>
        intro t hl
        rw [List.foldl_cons, ih _ fun i hi => hl i (List.mem_cons_of_mem _ hi)]
        refine (t.writeEntry_entryAt ty pod (first + j) (es.getD j [])).2 p k (hpk.imp_right fun h => ?_)
        have := hl j List.mem_cons_self
        omega
    exact key _ s fun j hj => List.mem_range.1 hj

/-- Level sets that are applied touch no entry of a table. -/
theorem State.applyLevels_entryAt (s : State) (pod first p k : Nat) : (s.applyLevels pod first).entryAt p k = s.entryAt p k := by
  unfold State.applyLevels
  extract_lets x set blocks changed mask s1 s2 s3 s4 stop y
  have d1 : s1.pods = s.pods := (Does.each (fun (t : State) (i : Nat) =>
    ((State.setLevels_does t (4 * pod + i) (blocks.getD i {})).andThen (State.wr_does _ F.PIN_LVL_D_LSET first (4 * pod + i) 0)).andThen
      (State.wr_does _ F.PIN_LVL_D_SAFE (ofBool set.isNone) (4 * pod + i) 0)) (List.range 4) s).pods (by decide)
  have h4 : s4.pods = s.pods := by
    have h3 : s3.pods = s1.pods := by
      unfold s3
      split <;> rfl
    exact h3.trans d1
  have hpod (n : Nat) : s4.pod n = s.pod n := by simp only [State.pod, h4]
  have hy : y = s.pod pod := hpod pod
  clear_value y s4
  by_cases hp : p = pod
  · subst hp
    simp only [State.entryAt, State.tset, State.seg, State.pod_setPod, hy]
  · exact State.entryAt_of k ((State.pod_setPod_ne _ _ _ _ hp).trans (hpod p))

/-! #### A whole TBL_LOAD of a per-pod table (R395) -/

/-- The pods that a load names are distinct. -/
theorem Desc.pods_nodup (d : Desc) : d.pods.Nodup := List.Nodup.filter _ List.nodup_range

theorem Desc.pods_getD_inj {d : Desc} {i j : Nat} (hi : i < d.pods.length) (hj : j < d.pods.length)
    (h : d.pods.getD i 0 = d.pods.getD j 0) : i = j := by
  rw [List.getD_eq_getElem _ _ hi, List.getD_eq_getElem _ _ hj] at h
  exact (d.pods_nodup.getElem_inj_iff).1 h

@[simp] theorem Desc.entries_length (d : Desc) (i : Nat) : (d.entries i).length = d.nent := by
  simp [Desc.entries]

/-- The first reason not to load any of a load's pods, 0 where there is none. -/
def State.loadWhy (s : State) (d : Desc) : Nat :=
  (List.range d.pods.length).foldl
    (fun (w : Nat) (i : Nat) => if w ≠ 0 then w else s.tableWhy d.ty (d.pods.getD i 0) (d.f 8 24 16) (d.entries i)) 0

/-- A fold that keeps the first value that is not 0 ends at 0 just where all the values are 0. -/
theorem foldl_first_eq_zero (v : Nat → Nat) (l : List Nat) (w : Nat) :
    l.foldl (fun w i => if w ≠ 0 then w else v i) w = 0 ↔ w = 0 ∧ ∀ i ∈ l, v i = 0 := by
  induction l generalizing w with
  | nil => simp
  | cons a l ih =>
    rw [List.foldl_cons, ih, List.forall_mem_cons]
    by_cases hw : w = 0 <;> simp [hw]

theorem State.loadWhy_eq_zero {s : State} {d : Desc} : s.loadWhy d = 0 ↔
    ∀ i, i < d.pods.length → s.tableWhy d.ty (d.pods.getD i 0) (d.f 8 24 16) (d.entries i) = 0 := by
  rw [State.loadWhy, foldl_first_eq_zero]
  simp

/-- The tables of a load's pods are written, and its level sets applied. -/
def State.loadTables (s : State) (d : Desc) : State :=
  let s := (List.range d.pods.length).foldl (fun (s : State) (i : Nat) =>
    s.writeTable d.ty (d.pods.getD i 0) (d.f 8 24 16) (d.entries i)) s
  if d.f 8 5 5 = 1 then d.pods.foldl (fun (s : State) (p : Nat) => s.applyLevels p (d.f 8 24 16)) s else s

/-- A load of a per-pod table writes nothing where an entry of any pod fails its check (R395). -/
theorem State.tblCarry_pods {s : State} {d : Desc} (q : Nat) (h : tblPods d.ty = true) :
    s.tblCarry q d = if s.loadWhy d ≠ 0 then s.endDesc q d stBad 0 0 (s.loadWhy d)
      else (s.loadTables d).endDesc q d stOk 0 (d.nent * d.pods.length) 0 := if_pos h

/-- Every named pod's entries hold what they were loaded from; its other entries stay as they were. -/
theorem State.loadTables_entryAt (s : State) (d : Desc) {i : Nat} (hi : i < d.pods.length) :
    (∀ k < d.nent, loadedFrom d.ty ((d.entries i).getD k [])
      ((s.loadTables d).entryAt (d.pods.getD i 0) (d.f 8 24 16 + k))) ∧
    ∀ k, k < d.f 8 24 16 ∨ d.f 8 24 16 + d.nent ≤ k →
      (s.loadTables d).entryAt (d.pods.getD i 0) k = s.entryAt (d.pods.getD i 0) k := by
  unfold State.loadTables
  extract_lets u
  have hlevels (p k : Nat) : (if d.f 8 5 5 = 1 then d.pods.foldl (fun (s : State) (p : Nat) => s.applyLevels p (d.f 8 24 16)) u
      else u).entryAt p k = u.entryAt p k := by
    split
    · exact fold_keeps _ (fun s => s.entryAt p k) (fun s j => s.applyLevels_entryAt j _ p k) d.pods u
    · rfl
  refine ⟨fun k hk => ?_, fun k hk => ?_⟩
  · rw [hlevels]
    refine fold_reaches (P := fun t => loadedFrom d.ty ((d.entries i).getD k []) (t.entryAt (d.pods.getD i 0) (d.f 8 24 16 + k)))
      (List.mem_range.2 hi) (fun t => (t.writeTable_entryAt _ _ _ _).1 k (by simpa using hk)) (fun t j hj hji ht => ?_) s
    rwa [(t.writeTable_entryAt _ _ _ _).2 _ _ (.inl fun h => hji (Desc.pods_getD_inj hi (List.mem_range.1 hj) h).symm)]
  · rw [hlevels]
    exact fold_keeps _ (fun s => s.entryAt (d.pods.getD i 0) k)
      (fun t j => (t.writeTable_entryAt _ _ _ _).2 _ _ (.inr (by simpa using hk))) (List.range d.pods.length) s

/-! #### A whole TBL_LOAD of a shared table (R396) -/

/-- Entry k of the shared tables: its site, its interval setup and its PMU setup. -/
def State.sharedAt (s : State) (k : Nat) : Option SiteDef × Option IuSetup × Option PmuSetup := (s.site k, s.iuEntry k, s.pmuEntry k)

/-- What an entry of shared table ty holds that was loaded from its bytes. -/
def sharedFrom (ty : Nat) (b : List Nat) (x : Option SiteDef × Option IuSetup × Option PmuSetup) : Prop :=
  (ty = 5 → x.1 = siteOf b) ∧ (ty = 6 → x.2.1 = some (iuSetupOf b)) ∧ (ty = 7 → x.2.2 = some (pmuSetupOf b))

/-- One entry of a shared table is written. -/
def State.writeSharedEntry (s : State) (ty at_ : Nat) (b : List Nat) : State :=
  if ty = 5 then { s with siteMap := Store.put id (fun _ => none) s.siteMap at_ (siteOf b) }
  else if ty = 6 then { s with iuSetup := Store.put id (fun _ => none) s.iuSetup at_ (some (iuSetupOf b)) }
  else { s with pmuSetup := Store.put id (fun _ => none) s.pmuSetup at_ (some (pmuSetupOf b)) }

/-- Where a site map is loaded the pods that leave their sites idle after its entries are written. -/
theorem State.writeShared_eq (s : State) (ty first : Nat) (es : List (List Nat)) : s.writeShared ty first es =
    if ty = 5 then ((List.range es.length).foldl (fun s k => s.writeSharedEntry ty (first + k) (es.getD k [])) s).idlePods
      (s.sitesDefined.flatMap s.podsOf)
    else (List.range es.length).foldl (fun s k => s.writeSharedEntry ty (first + k) (es.getD k [])) s := rfl

/-- An entry that is written holds what it was loaded from; every other entry stays as it was. -/
theorem State.writeSharedEntry_sharedAt (s : State) (ty a : Nat) (b : List Nat) :
    sharedFrom ty b ((s.writeSharedEntry ty a b).sharedAt a) ∧
    ∀ k, k ≠ a → (s.writeSharedEntry ty a b).sharedAt k = s.sharedAt k := by
  unfold State.writeSharedEntry
  split
  · next h5 =>
    refine ⟨⟨fun _ => Store.get_put_eq id (fun _ => none) s.siteMap a (siteOf b), fun h => absurd (h5.symm.trans h) (by decide),
      fun h => absurd (h5.symm.trans h) (by decide)⟩, fun k hk => Prod.ext (Store.get_put_ne _ _ hk) rfl⟩
  · next h5 =>
    split
    · next h6 =>
      refine ⟨⟨fun h => absurd h h5, fun _ => Store.get_put_eq id (fun _ => none) s.iuSetup a (some (iuSetupOf b)),
        fun h => absurd (h6.symm.trans h) (by decide)⟩, fun k hk => Prod.ext rfl (Prod.ext
          (Store.get_put_ne (code := id) (d := fun _ => none) s.iuSetup (some (iuSetupOf b)) hk) rfl)⟩
    · next h6 =>
      exact ⟨⟨fun h => absurd h h5, fun h => absurd h h6,
          fun _ => Store.get_put_eq id (fun _ => none) s.pmuSetup a (some (pmuSetupOf b))⟩, fun k hk => Prod.ext rfl (Prod.ext rfl
          (Store.get_put_ne (code := id) (d := fun _ => none) s.pmuSetup (some (pmuSetupOf b)) hk))⟩

theorem State.writeShared_sharedAt (s : State) (ty first : Nat) (es : List (List Nat)) {k : Nat} (hk : k < es.length) :
    sharedFrom ty (es.getD k []) ((s.writeShared ty first es).sharedAt (first + k)) := by
  have hfold : sharedFrom ty (es.getD k [])
      (((List.range es.length).foldl (fun s k => s.writeSharedEntry ty (first + k) (es.getD k [])) s).sharedAt (first + k)) :=
    fold_reaches (P := fun t => sharedFrom ty (es.getD k []) (t.sharedAt (first + k))) (List.mem_range.2 hk)
      (fun t => (t.writeSharedEntry_sharedAt ty (first + k) (es.getD k [])).1)
      (fun t j _ hjk ht => by
        rwa [(t.writeSharedEntry_sharedAt ty (first + j) (es.getD j [])).2 (first + k) fun h => hjk (by omega)]) s
  rw [State.writeShared_eq]
  split
  · generalize (List.range es.length).foldl _ s = u at hfold ⊢
    have hd := u.idlePods_does (s.sitesDefined.flatMap s.podsOf)
    simp only [State.sharedAt, State.site, State.iuEntry, State.pmuEntry, hd.siteMap (by decide), hd.iuSetup (by decide),
      hd.pmuSetup (by decide)]
    exact hfold
  · exact hfold

/-- A load of a shared table writes nothing where its entries fail their check (R396). -/
theorem State.tblCarry_shared {s : State} {d : Desc} (q : Nat) (h : tblPods d.ty = false) :
    s.tblCarry q d = if s.sharedWhy d.ty (d.f 8 24 16) (d.entries 0) ≠ 0 then
        s.endDesc q d stBad 0 0 (s.sharedWhy d.ty (d.f 8 24 16) (d.entries 0))
      else (s.writeShared d.ty (d.f 8 24 16) (d.entries 0)).endDesc q d stOk 0 d.nent 0 := if_neg (ne_true_of_eq_false h)

/-! #### SEG_LOAD (R393) -/

/-- The segments of a list of pods begin to load from the host. -/
def State.loadSegs (s : State) (l : List Nat) (k : Nat) : State :=
  l.foldl (fun (s : State) (p : Nat) => s.setSeg p k { s.seg p k with st := sgLoading, cls := 5 }) s

theorem State.loadSegs_seg (s : State) {l : List Nat} (k : Nat) {p : Nat} (hp : p ∈ l) :
    ((s.loadSegs l k).seg p k).st = sgLoading ∧ ((s.loadSegs l k).seg p k).cls = 5 :=
  Prod.mk.inj (fold_attains (v := (sgLoading, 5)) (fun (s : State) (p : Nat) => s.setSeg p k { s.seg p k with st := sgLoading, cls := 5 })
    (fun s p => ((s.seg p k).st, (s.seg p k).cls)) (fun s p => by rw [State.seg_setSeg])
    (fun s p q hqp hq => by rwa [State.seg_setSeg_ne _ _ _ _ _ _ (.inl hqp)]) hp s)

/-- A segment load that nothing holds ends where an entry bars it, and begins else. -/
def segBegin (q : Nat) (d : Desc) (s : State) : State :=
  let lens := d.pods.map (fun p => 512 * (s.seg p (d.f 8 5 0)).len)
  if s.segBars d (d.f 8 5 0) then (s.noteWract d (d.f 8 5 0)).endDesc q d stBad 0 0 dState
  else (s.loadSegs d.pods (d.f 8 5 0)).begins q d (if d.f 8 6 6 = 1 then lens.foldl max 0 else lens.sum)

/-- One pod's segment takes its bytes from the data at an offset, and is READY. -/
def State.takeSeg (s : State) (d : Desc) (off p : Nat) : State :=
  let x := s.seg p (d.f 8 5 0)
  ((s.bytesIn p x ((d.data.drop off).take (512 * x.len))).setSeg p (d.f 8 5 0) { x with st := sgReady, cls := 0 }).pulse 0x09 p x.len

/-- The segments of a list of pods take their bytes one after the other, or all the same ones. -/
def State.takeSegs (d : Desc) (l : List Nat) (r : State × Nat) : State × Nat :=
  l.foldl (fun r p => (r.1.takeSeg d (if d.f 8 6 6 == 1 then 0 else r.2) p, r.2 + 512 * (r.1.seg p (d.f 8 5 0)).len)) r

theorem State.segCarry_eq (s : State) (q : Nat) (d : Desc) :
    s.segCarry q d = (State.takeSegs d d.pods (s, 0)).1.endDesc q d stOk 0 0 0 := rfl

/-- Whether a byte of the local stores lies outside a pod's segment. -/
def State.outside (s : State) (p k a : Nat) : Prop :=
  a < granuleAddr p (s.seg p k) 0 ∨ granuleAddr p (s.seg p k) 0 + 512 * (s.seg p k).len ≤ a

/-- The bytes of a pod's segment are those of the data from an offset on. -/
def State.segHolds (t : State) (x : SegX) (d : Desc) (off p : Nat) : Prop :=
  ∀ i, i < 512 * x.len → t.segMem.byte (granuleAddr p x 0 + i) = BitVec.ofNat 8 (d.data.getD (off + i) 0)

theorem State.takeSeg_loads (s : State) (d : Desc) (off p : Nat) :
    (s.takeSeg d off p).seg p (d.f 8 5 0) = { s.seg p (d.f 8 5 0) with st := sgReady, cls := 0 } ∧
    (∀ r, r ≠ p → (s.takeSeg d off p).seg r (d.f 8 5 0) = s.seg r (d.f 8 5 0)) ∧
    (off + 512 * (s.seg p (d.f 8 5 0)).len ≤ d.data.length → (s.takeSeg d off p).segHolds (s.seg p (d.f 8 5 0)) d off p) ∧
    ∀ a, s.outside p (d.f 8 5 0) a → (s.takeSeg d off p).segMem.byte a = s.segMem.byte a := by
  unfold State.takeSeg
  extract_lets x
  generalize hu : (s.bytesIn p x ((d.data.drop off).take (512 * x.len))).setSeg p (d.f 8 5 0) { x with st := sgReady, cls := 0 } = u
  have hd := u.pulse_does 0x09 p x.len false
  have hmem : (u.pulse 0x09 p x.len).segMem = s.segMem.writeBytes (granuleAddr p x 0) ((d.data.drop off).take (512 * x.len)) := by
    rw [hd.segMem (by decide), ← hu]
    rfl
  refine ⟨?_, fun r hr => ?_, fun hlen i hi => ?_, fun a ha => ?_⟩
  · rw [hd.segX (by decide), ← hu, State.seg_setSeg]
  · rw [hd.segX (by decide), ← hu, State.seg_setSeg_ne _ _ _ _ _ _ (.inl hr)]
    rfl
  · have hin : i < ((d.data.drop off).take (512 * x.len)).length := by
      rw [List.length_take, List.length_drop]
      change i < 512 * x.len at hi
      change off + 512 * x.len ≤ d.data.length at hlen
      omega
    rw [hmem]
    change (s.segMem.writeBytes (granuleAddr p x 0) _).byte (granuleAddr p x 0 + i) = _
    rw [Memory.byte_writeBytes_in _ _ _ _ hin]
    rw [List.getD_eq_getElem?_getD, List.getElem?_take_of_lt hi, List.getElem?_drop, ← List.getD_eq_getElem?_getD]
  · rw [hmem]
    refine Memory.byte_writeBytes_out _ _ _ _ (ha.imp_right fun (h : granuleAddr p x 0 + 512 * x.len ≤ a) => ?_)
    rw [List.length_take]
    omega

/-- The place in the data of a pod's bytes, in a list of pods whose data begin at o. -/
def State.dataFrom (s : State) (d : Desc) (l : List Nat) (o p : Nat) : Nat :=
  if d.f 8 6 6 = 1 then 0 else o + 512 * ((l.takeWhile (· != p)).map (fun r => (s.seg r (d.f 8 5 0)).len)).sum

/-- Segments of two pods, each within its pod's 256 granules, have no byte in common. -/
theorem granules_apart {p q i : Nat} {x y : SegX} (hpq : p ≠ q) (hx : x.lbase + x.len ≤ 256) (hy : y.lbase + y.len ≤ 256)
    (hi : i < 512 * x.len) : granuleAddr p x 0 + i < granuleAddr q y 0 ∨ granuleAddr q y 0 + 512 * y.len ≤ granuleAddr p x 0 + i := by
  unfold granuleAddr
  omega

theorem State.dataFrom_self (s : State) (d : Desc) (b : Nat) (l : List Nat) (o : Nat) :
    s.dataFrom d (b :: l) o b = if d.f 8 6 6 == 1 then 0 else o := by
  rw [State.dataFrom, List.takeWhile_cons_of_neg (by simp)]
  simp

/-- Past the first pod the data go on behind its bytes; that its segment is READY does not move them. -/
theorem State.dataFrom_cons (s : State) (d : Desc) {b p off : Nat} {l : List Nat} (o : Nat) (hb : b ∉ l) (hp : p ∈ l) :
    s.dataFrom d (b :: l) o p = (s.takeSeg d off b).dataFrom d l (o + 512 * (s.seg b (d.f 8 5 0)).len) p := by
  have hbp : b ≠ p := fun h => hb (h ▸ hp)
  obtain ⟨-, hoth, -⟩ := s.takeSeg_loads d off b
  have hlens : (l.takeWhile (· != p)).map (fun r => ((s.takeSeg d off b).seg r (d.f 8 5 0)).len) =
      (l.takeWhile (· != p)).map (fun r => (s.seg r (d.f 8 5 0)).len) :=
    List.map_congr_left fun r hr => by rw [hoth r fun h => hb (h ▸ (List.takeWhile_sublist _).subset hr)]
  rw [State.dataFrom, State.dataFrom, hlens, List.takeWhile_cons_of_pos (by simp [hbp]), List.map_cons, List.sum_cons,
    Nat.mul_add, Nat.add_assoc]

/-- The segments of distinct pods are READY with their bytes of the data; nothing else of the local stores is written. -/
theorem State.takeSegs_loads (d : Desc) {l : List Nat} (hl : l.Nodup) (s : State) (o : Nat)
    (hfit : ∀ p ∈ l, (s.seg p (d.f 8 5 0)).lbase + (s.seg p (d.f 8 5 0)).len ≤ 256 ∧
      s.dataFrom d l o p + 512 * (s.seg p (d.f 8 5 0)).len ≤ d.data.length) :
    (∀ p ∈ l, ((State.takeSegs d l (s, o)).1.seg p (d.f 8 5 0)).st = sgReady ∧
      (State.takeSegs d l (s, o)).1.segHolds (s.seg p (d.f 8 5 0)) d (s.dataFrom d l o p) p) ∧
    (∀ p, p ∉ l → (State.takeSegs d l (s, o)).1.seg p (d.f 8 5 0) = s.seg p (d.f 8 5 0)) ∧
    ∀ a, (∀ p ∈ l, s.outside p (d.f 8 5 0) a) → (State.takeSegs d l (s, o)).1.segMem.byte a = s.segMem.byte a := by
  induction l generalizing s o with
  | nil => exact ⟨fun p hp => absurd hp List.not_mem_nil, fun _ _ => rfl, fun _ _ => rfl⟩
  | cons b l ih =>
    obtain ⟨hb, hl⟩ := List.nodup_cons.1 hl
    have hstep : State.takeSegs d (b :: l) (s, o) =
        State.takeSegs d l (s.takeSeg d (s.dataFrom d (b :: l) o b) b, o + 512 * (s.seg b (d.f 8 5 0)).len) := by
      rw [State.dataFrom_self]
      rfl
    obtain ⟨hown, hoth, hbytes, hframe⟩ := s.takeSeg_loads d (s.dataFrom d (b :: l) o b) b
    have hcons {p : Nat} (hp : p ∈ l) := s.dataFrom_cons d (off := s.dataFrom d (b :: l) o b) o hb hp
    have hne {p : Nat} (hp : p ∈ l) : p ≠ b := fun h => hb (h ▸ hp)
    rw [hstep]
    obtain ⟨ihown, ihoth, ihframe⟩ := ih hl (s.takeSeg d (s.dataFrom d (b :: l) o b) b) (o + 512 * (s.seg b (d.f 8 5 0)).len)
      fun p hp => by
        rw [hoth p (hne hp), ← hcons hp]
        exact hfit p (List.mem_cons_of_mem _ hp)
    have hout {p a : Nat} (hp : p ∈ l) (h : s.outside p (d.f 8 5 0) a) :
        (s.takeSeg d (s.dataFrom d (b :: l) o b) b).outside p (d.f 8 5 0) a := by
      rwa [State.outside, hoth p (hne hp)]
    obtain ⟨hbfit, hblen⟩ := hfit b List.mem_cons_self
    refine ⟨fun p hp => ?_, fun p hp => ?_, fun a ha => ?_⟩
    · rcases List.mem_cons.1 hp with rfl | hp
      · rw [ihoth p hb, hown]
        refine ⟨rfl, fun i hi => ?_⟩
        rw [ihframe _ fun r hr => hout hr ?_]
        · exact hbytes hblen i hi
        · exact granules_apart (hne hr).symm hbfit (hfit r (List.mem_cons_of_mem _ hr)).1 hi
      · have := ihown p hp
        rwa [hoth p (hne hp), ← hcons hp] at this
    · rw [List.mem_cons, not_or] at hp
      rw [ihoth p hp.2, hoth p hp.1]
    · rw [ihframe a fun p hp => hout hp (ha p (List.mem_cons_of_mem _ hp)), hframe a (ha b List.mem_cons_self)]

/-! #### The commands -/

theorem exec_tblLoad (s : State) (q : QpId) (cid : Nat) (walk : Walk) : exec (.tblLoad q cid walk) s =
    .next (s.advance q cid 3 tblCheck
      (fun d s => s.begins q d (tblSize d.ty * d.nent * (if tblPods d.ty && !d.share then d.pods.length else 1)))
      (fun d s => s.moveThen q d walk (fun d s => s.tblCarry q d))) := rfl

theorem exec_segLoad (s : State) (q : QpId) (cid : Nat) (walk : Walk) : exec (.segLoad q cid walk) s =
    .next (s.advance q cid 4 (fun _ _ => 0) (segBegin q)
      (fun d s => if d.moved < d.total then s.readChunk q d walk else s.segCarry q d)) := rfl

/-- A load whose data are whole is held where a running gang bars it, and else carried out. -/
theorem State.moveThen_whole (s : State) (q : Nat) {d : Desc} (walk : Walk) (carry : Desc → State → State) (h : d.total ≤ d.moved) :
    s.moveThen q d walk carry = if s.blockedBy d then s.hold q d else carry d s := if_neg (by omega)

section
variable {s u : State} {q : QpId} {cid : Nat} {walk : Walk} {d : Desc}

theorem tblLoad_starts (h : Starts s q cid 3 d u) :
    (tblCheck u d ≠ 0 → ∃ t, exec (.tblLoad q cid walk) s = .next t ∧ t.completed q d stBad 0 0 (tblCheck u d)) ∧
    (tblCheck u d = 0 → u.blockedBy d = true → exec (.tblLoad q cid walk) s = .next (u.hold q d)) ∧
    (tblCheck u d = 0 → u.blockedBy d = false → exec (.tblLoad q cid walk) s = .next
      (u.begins q d (tblSize d.ty * d.nent * (if tblPods d.ty && !d.share then d.pods.length else 1)))) := by
  obtain ⟨hbad, hheld, hbegun⟩ := h.advance tblCheck
    (fun d s => s.begins q d (tblSize d.ty * d.nent * (if tblPods d.ty && !d.share then d.pods.length else 1)))
    (fun d s => s.moveThen q d walk (fun d s => s.tblCarry q d)) (Desc.steward_load (.inl h.opc_eq))
  rw [exec_tblLoad]
  refine ⟨fun hc => ⟨_, congrArg Host.Outcome.next (hbad hc), State.endDesc_completed ..⟩,
    fun hc hb => congrArg Host.Outcome.next (hheld hc hb), fun hc hb => congrArg Host.Outcome.next (hbegun hc hb)⟩

theorem exec_tblLoad_on (h : UnderWay s q cid 3 d) :
    exec (.tblLoad q cid walk) s = .next (s.moveThen q d walk (fun d s => s.tblCarry q d)) :=
  (exec_tblLoad s q cid walk).trans (congrArg Host.Outcome.next (h.advance ..))

theorem exec_tblLoad_whole (h : UnderWay s q cid 3 d) (hm : d.total ≤ d.moved) :
    exec (.tblLoad q cid walk) s = .next (if s.blockedBy d then s.hold q d else s.tblCarry q d) :=
  (exec_tblLoad_on h).trans (congrArg Host.Outcome.next (State.moveThen_whole s q walk _ hm))

/-- A whole load of a per-pod table that nothing bars writes its entries in every named pod, or nothing. -/
theorem tblLoad_pods (h : UnderWay s q cid 3 d) (hm : d.total ≤ d.moved) (hb : s.blockedBy d = false) (hp : tblPods d.ty = true) :
    exec (.tblLoad q cid walk) s = .next (if s.loadWhy d ≠ 0 then s.endDesc q d stBad 0 0 (s.loadWhy d)
      else (s.loadTables d).endDesc q d stOk 0 (d.nent * d.pods.length) 0) := by
  rw [exec_tblLoad_whole h hm, if_neg (ne_true_of_eq_false hb), State.tblCarry_pods q hp]

theorem State.endDesc_entryAt (s : State) (d : Desc) (q status r0 r1 detail p k : Nat) :
    (s.endDesc q d status r0 r1 detail).entryAt p k = s.entryAt p k :=
  State.entryAt_of k ((State.endDesc_does ..).podX (by decide) p)

/-- Every named pod's entries are those that its data give, and the load says how many there are. -/
theorem tblLoad_pods_loads (h : UnderWay s q cid 3 d) (hm : d.total ≤ d.moved) (hb : s.blockedBy d = false)
    (hp : tblPods d.ty = true)
    (hok : ∀ i, i < d.pods.length → s.tableWhy d.ty (d.pods.getD i 0) (d.f 8 24 16) (d.entries i) = 0) :
    ∃ t, exec (.tblLoad q cid walk) s = .next t ∧ t.completed q d stOk 0 (d.nent * d.pods.length) 0 ∧ ∀ i, i < d.pods.length →
      (∀ k < d.nent, loadedFrom d.ty ((d.entries i).getD k []) (t.entryAt (d.pods.getD i 0) (d.f 8 24 16 + k))) ∧
      ∀ k, k < d.f 8 24 16 ∨ d.f 8 24 16 + d.nent ≤ k → t.entryAt (d.pods.getD i 0) k = s.entryAt (d.pods.getD i 0) k := by
  have hexec := tblLoad_pods (walk := walk) h hm hb hp
  rw [if_neg (not_not_intro (State.loadWhy_eq_zero.2 hok))] at hexec
  refine ⟨_, hexec, State.endDesc_completed .., fun i hi => ?_⟩
  simp only [State.endDesc_entryAt]
  exact s.loadTables_entryAt d hi

theorem tblLoad_pods_fails (h : UnderWay s q cid 3 d) (hm : d.total ≤ d.moved) (hb : s.blockedBy d = false)
    (hp : tblPods d.ty = true) {i : Nat} (hi : i < d.pods.length)
    (hbad : s.tableWhy d.ty (d.pods.getD i 0) (d.f 8 24 16) (d.entries i) ≠ 0) :
    ∃ t, exec (.tblLoad q cid walk) s = .next t ∧ (∃ why, why ≠ 0 ∧ t.completed q d stBad 0 0 why) ∧ t.pods = s.pods := by
  have hexec := tblLoad_pods (walk := walk) h hm hb hp
  have hwhy : s.loadWhy d ≠ 0 := fun h0 => hbad (State.loadWhy_eq_zero.1 h0 i hi)
  rw [if_pos hwhy] at hexec
  exact ⟨_, hexec, ⟨_, hwhy, State.endDesc_completed ..⟩, (State.endDesc_does ..).pods (by decide)⟩

/-- A whole load of a shared table that nothing bars writes its entries, or nothing. -/
theorem tblLoad_shared (h : UnderWay s q cid 3 d) (hm : d.total ≤ d.moved) (hb : s.blockedBy d = false) (hp : tblPods d.ty = false) :
    (s.sharedWhy d.ty (d.f 8 24 16) (d.entries 0) = 0 → ∃ t, exec (.tblLoad q cid walk) s = .next t ∧
      t.completed q d stOk 0 d.nent 0 ∧
      ∀ k < d.nent, sharedFrom d.ty ((d.entries 0).getD k []) (t.sharedAt (d.f 8 24 16 + k))) ∧
    (s.sharedWhy d.ty (d.f 8 24 16) (d.entries 0) ≠ 0 → ∃ t, exec (.tblLoad q cid walk) s = .next t ∧
      t.completed q d stBad 0 0 (s.sharedWhy d.ty (d.f 8 24 16) (d.entries 0)) ∧ t.siteMap = s.siteMap ∧ t.iuSetup = s.iuSetup ∧
      t.pmuSetup = s.pmuSetup) := by
  rw [exec_tblLoad_whole h hm, if_neg (ne_true_of_eq_false hb), State.tblCarry_shared q hp]
  refine ⟨fun hw => ?_, fun hw => ?_⟩
  · rw [if_neg (not_not_intro hw)]
    refine ⟨_, rfl, State.endDesc_completed .., fun k hk => ?_⟩
    have hload := s.writeShared_sharedAt d.ty (d.f 8 24 16) (d.entries 0) (k := k) (by simpa using hk)
    generalize s.writeShared d.ty (d.f 8 24 16) (d.entries 0) = v at hload ⊢
    have hd := v.endDesc_does q d stOk 0 d.nent 0
    simp only [State.sharedAt, State.site, State.iuEntry, State.pmuEntry, hd.siteMap (by decide), hd.iuSetup (by decide),
      hd.pmuSetup (by decide)]
    exact hload
  · rw [if_pos hw]
    have hd := s.endDesc_does q d stBad 0 0 (s.sharedWhy d.ty (d.f 8 24 16) (d.entries 0))
    exact ⟨_, rfl, State.endDesc_completed .., hd.siteMap (by decide), hd.iuSetup (by decide), hd.pmuSetup (by decide)⟩

/-- A segment load that starts ends where an entry bars it; else every named pod's entry is LOADING. -/
theorem segLoad_starts (h : Starts s q cid 4 d u) (hb : u.blockedBy d = false) :
    (u.segBars d (d.f 8 5 0) = true → ∃ t, exec (.segLoad q cid walk) s = .next t ∧ t.completed q d stBad 0 0 dState) ∧
    (u.segBars d (d.f 8 5 0) = false → ∃ t, exec (.segLoad q cid walk) s = .next t ∧
      ∀ p ∈ d.pods, (t.seg p (d.f 8 5 0)).st = sgLoading ∧ (t.seg p (d.f 8 5 0)).cls = 5) := by
  obtain ⟨-, -, hbegun⟩ := h.advance (fun _ _ => 0) (segBegin q)
    (fun d s => if d.moved < d.total then s.readChunk q d walk else s.segCarry q d) (Desc.steward_load (.inr h.opc_eq))
  rw [exec_segLoad, hbegun rfl hb, segBegin]
  refine ⟨fun hbar => ?_, fun hbar => ?_⟩
  · rw [if_pos hbar]
    exact ⟨_, rfl, State.endDesc_completed ..⟩
  · rw [if_neg (ne_true_of_eq_false hbar)]
    refine ⟨_, rfl, fun p hp => ?_⟩
    rw [State.begins, (State.putDesc_does ..).segX (by decide)]
    exact u.loadSegs_seg (d.f 8 5 0) hp

/-- A whole segment load writes each pod's bytes into its entry, and all become READY. -/
theorem segLoad_carried (h : UnderWay s q cid 4 d) (hm : d.total ≤ d.moved)
    (hfit : ∀ p ∈ d.pods, (s.seg p (d.f 8 5 0)).lbase + (s.seg p (d.f 8 5 0)).len ≤ 256 ∧
      s.segDataAt d p + 512 * (s.seg p (d.f 8 5 0)).len ≤ d.data.length) :
    ∃ t, exec (.segLoad q cid walk) s = .next t ∧ t.completed q d stOk 0 0 0 ∧
      (∀ p ∈ d.pods, (t.seg p (d.f 8 5 0)).st = sgReady ∧ t.segHolds (s.seg p (d.f 8 5 0)) d (s.segDataAt d p) p) ∧
      ∀ a, (∀ p ∈ d.pods, s.outside p (d.f 8 5 0) a) → t.segMem.byte a = s.segMem.byte a := by
  have hat (p : Nat) : s.dataFrom d d.pods 0 p = s.segDataAt d p := by rw [State.dataFrom, Nat.zero_add, State.segDataAt]
  obtain ⟨hloads, -, hframe⟩ := State.takeSegs_loads d d.pods_nodup s 0 fun p hp => by rw [hat]; exact hfit p hp
  have hexec : exec (.segLoad q cid walk) s = .next ((State.takeSegs d d.pods (s, 0)).1.endDesc q d stOk 0 0 0) := by
    rw [exec_segLoad, h.advance, if_neg (by omega), State.segCarry_eq]
  have hd := (State.takeSegs d d.pods (s, 0)).1.endDesc_does q d stOk 0 0 0
  refine ⟨_, hexec, State.endDesc_completed .., fun p hp => ?_, fun a ha => ?_⟩
  · have hp := hloads p hp
    rw [hat] at hp
    rwa [hd.segX (by decide), State.segHolds, hd.segMem (by decide)]
  · rw [hd.segMem (by decide), hframe a ha]

/-- A held load goes on once what held it has ended. -/
theorem exec_heldLoadRelease (hn : s.desc q cid = some d) (hs : d.started = true) (hh : d.held = true) (hb : s.blockedBy d = false)
    (hp : s.preempted q = false) (hst : d.steward = false) :
    exec (.heldLoadRelease q cid) s = .next (s.putDesc q { d with held := false }) := by
  change execHeldLoadRelease q cid s = _
  unfold execHeldLoadRelease
  simp only [hn, hs, hh, hb, hp, hst, Bool.true_eq_false, Bool.false_eq_true, or_self, if_false, false_and]

end

/-- Settles O46: the stages of `advance`, the entries that `loadTables` and `writeShared` write, the bytes of `takeSegs`. -/
theorem loadsFillTables : Obligations.LoadsFillTables := by
  unfold Obligations.LoadsFillTables
  intro s q cid walk d u
  refine ⟨tblLoad_starts, fun h => ⟨fun pa hm hr ht ho hb ha hx => ?_, fun hm hb => ?_, fun hm hb hp => ⟨fun hok => ?_, fun i => ?_⟩,
    fun hm hb hp => ⟨fun hw => ?_, (tblLoad_shared h hm hb hp).2⟩⟩, segLoad_starts, segLoad_carried, exec_heldLoadRelease⟩
  · refine ⟨_, exec_tblLoad_on h, ?_⟩
    rw [State.moveThen, if_pos hm]
    exact State.readChunk_out hr ht ho hb ha hx
  · rw [exec_tblLoad_whole h hm, if_pos hb]
  · obtain ⟨t, ht, hcompleted, hloads⟩ := tblLoad_pods_loads h hm hb hp hok
    refine ⟨t, ht, hcompleted, fun i hi => ?_⟩
    obtain ⟨hin, hout⟩ := hloads i hi
    refine ⟨hin, fun k hk => ?_⟩
    have := hout k hk
    simp only [State.entryAt, Prod.mk.injEq] at this
    obtain ⟨htset, -, hseg⟩ := this
    exact ⟨htset, hseg⟩
  · exact tblLoad_pods_fails h hm hb hp
  · exact (tblLoad_shared h hm hb hp).1 hw

end Sys2Proof.Machine
end

/-! ### Scope: wafer time, its crystal and its counters -/

section
namespace Sys2Proof.Machine

open Sys2Proof

/-! #### The tick (R31 to R33, R35) -/

/-- Before the first release stage the count stands still (R35; assumption 1). -/
theorem exec_tick_unreleased {s : State} (h : s.rd F.RST_STAT_STAGE = 0) : exec .tick s = .next s :=
  congrArg Host.Outcome.next (if_pos h)

theorem State.serveWaiting_nil {s : State} (h : s.xwait = []) : s.serveWaiting = s :=
  if_pos (List.isEmpty_iff.2 h)

/-- What a tick still does at its end moves neither the count nor the clock that the count runs by. -/
theorem State.endTick_keeps (s : State) :
    s.endTick.now = s.now ∧ s.endTick.stride = s.stride ∧ s.endTick.xwait = s.xwait := by
  have h := s.endTick_does
  have hpower : s.endTick.power = s.power := h.rd F.PWR_STAT_STATE 0 0 (by decide)
  have hoff : s.endTick.eclkOff = s.eclkOff := by
    unfold State.eclkOff
    rw [hpower, h.on F.GLB_UNITS_ECLK_LOCK 0 0 (by decide)]
  exact ⟨h.now (by decide), congrArg (fun b : Bool => if b then 15 else 1) hoff, h.xwait (by decide)⟩

/-- The count goes on to its next value, and the registers of the tick that begins are kept for reads (R6, R31 to R33). -/
def State.nextTick (s : State) : State :=
  let t := s.now + ticks s.stride
  { s with now := t, time := { s.time with wrapDue := decide (t.toNat < s.now.toNat) }, atTick := s.regs }

theorem State.nextTick_xwait (s : State) : s.nextTick.xwait = s.xwait := rfl

theorem exec_tick {s : State} (h : s.rd F.RST_STAT_STAGE ≠ 0) : exec .tick s =
    .next (s.endTick.nextTick.countTicks s.endTick.stride).trackTarget.serveWaiting := by
  change execTick s = _
  rw [execTick, if_neg h]
  rfl

theorem tick_advances {s : State} (hs : s.rd F.RST_STAT_STAGE ≠ 0) (hx : s.xwait = []) :
    ∃ t, exec .tick s = .next t ∧ t.now = s.now + ticks s.stride := by
  obtain ⟨hnow, hstride, hwait⟩ := s.endTick_keeps
  have hd := (s.endTick.nextTick.countTicks_does s.endTick.stride).andThen (State.trackTarget_does _)
  have hnone : (s.endTick.nextTick.countTicks s.endTick.stride).trackTarget.xwait = [] := by
    rw [hd.xwait (by decide), State.nextTick_xwait, hwait, hx]
  refine ⟨_, exec_tick hs, ?_⟩
  rw [State.serveWaiting_nil hnone, hd.now (by decide), State.nextTick, hnow, hstride]

/-- A WRAP that is not due leaves the state as it is (assumption 1). -/
theorem exec_wrap_not {s : State} (h : s.time.wrapDue = false) : exec .wrap s = .next s :=
  congrArg Host.Outcome.next (if_neg (ne_true_of_eq_false h))

theorem State.takeWrap_due {s : State} (h : s.time.wrapDue = true) :
    s.takeWrap = { (s.wr F.WT_EPOCH_EPOCH (s.rd F.WT_EPOCH_EPOCH + 1)).wr F.WT_STAT_WRAP 1 with
      time := { s.time with wrapDue := false }, wm := { s.wm with wrapped := true } } := if_pos h

/-- A WRAP that is due counts the epoch (R33). -/
theorem wrap_counts {s : State} (h : s.time.wrapDue = true) : ∃ t, exec .wrap s = .next t ∧
    t.rd F.WT_EPOCH_EPOCH = (s.rd F.WT_EPOCH_EPOCH + 1) % 2 ^ 16 ∧ t.rd F.WT_STAT_WRAP = 1 ∧ t.time.wrapDue = false ∧ t.now = s.now := by
  refine ⟨_, congrArg Host.Outcome.next (State.takeWrap_due h), ?_, ?_, rfl, rfl⟩
  · exact (State.rd_wr_ne (s.wr F.WT_EPOCH_EPOCH _) (f := F.WT_STAT_WRAP) 1 0 0 0 0 (.inl (by decide))).trans (State.rd_wr ..)
  · exact State.rd_wr (s.wr F.WT_EPOCH_EPOCH _) F.WT_STAT_WRAP 1 0 0

/-! #### The halves of a count (R36, R575) -/

theorem wtNowLoRead_latches (s : State) : ∃ t, exec .wtNowLoRead s = .next t ∧
    t.out = s.out ++ [OutMsg.value (loWord s.now.toNat)] ∧ t.rd F.WT_NOW_HI_NOW_HI = hiWord s.now.toNat ∧ t.now = s.now :=
  ⟨_, rfl, rfl, (State.rd_wr s F.WT_NOW_HI_NOW_HI _ 0 0).trans (Nat.mod_mod _ _), rfl⟩

theorem pmcCntLoRead_latches (s : State) (c : PmcId) : ∃ t, exec (.pmcCntLoRead c) s = .next t ∧
    t.out = s.out ++ [OutMsg.value (loWord (s.pmcCount c))] ∧ t.rd F.PMC_CNT_HI_CNT_HI c = s.pmcCount c / 2 ^ 32 % 2 ^ 16 :=
  ⟨_, rfl, rfl, State.rd_wr s F.PMC_CNT_HI_CNT_HI _ c 0⟩

/-- A load of a counter leaves the others. -/
theorem State.pmc_pmcLoad (s : State) {b c : Nat} (v : Nat) (h : b ≠ c) : (s.pmcLoad c v).pmc.at {} b = s.pmc.at {} b := by
  unfold State.pmcLoad
  rw [NStore.at_set, if_neg h]

/-- The counters below it in its chain show what they showed. -/
theorem State.pmcFull_pmcLoad_below (s : State) {b c : Nat} (v : Nat) (h : b < c) : (s.pmcLoad c v).pmcFull b = s.pmcFull b := by
  induction b with
  | zero =>
    rw [State.pmcFull, State.pmcFull, s.pmc_pmcLoad v h.ne]
    rfl
  | succ b ih =>
    have hb : b < c := Nat.lt_of_succ_lt h
    rw [State.pmcFull, State.pmcFull, s.pmc_pmcLoad v h.ne, s.pmc_pmcLoad v hb.ne, ih hb]
    rfl

/-- A loaded counter shows the count it was loaded with, whether it counts overflows, ticks or an event. -/
theorem State.pmcFull_pmcLoad (s : State) (c v : Nat) : (s.pmcLoad c v).pmcFull c = v := by
  have hchain (b : Nat) : (s.pmcLoad c v).chained b = s.chained b := rfl
  have htick (b : Nat) : (s.pmcLoad c v).ticking b = s.ticking b := rfl
  have hcount (b : Nat) : (s.pmcLoad c v).tickOfPmc b = s.tickOfPmc b := rfl
  cases c with
  | zero =>
    have hnot : s.chained 0 = true → s.ticking 0 = false := fun h => by simp [State.ticking, h]
    rw [State.pmcFull, htick, hcount]
    simp only [State.pmcLoad, NStore.at_set, if_true]
    split
    · next h => simp [hnot h]
    · split <;> simp
  | succ b =>
    have hb : b < b + 1 := Nat.lt_succ_self b
    rw [State.pmcFull, hchain, htick, hcount, s.pmc_pmcLoad v hb.ne, s.pmcFull_pmcLoad_below v hb]
    simp only [State.pmcLoad, NStore.at_set, if_true]
    split
    · simp
    · split <;> simp

theorem State.pmcCount_pmcLoad (s : State) (c v : Nat) : (s.pmcLoad c v).pmcCount c = v % 2 ^ 48 := by
  rw [State.pmcCount, State.pmcFull_pmcLoad, ← Int.natCast_emod, Int.toNat_natCast]

theorem pmcCntLoWrite_loads (s : State) (c : PmcId) (v : BitVec 32) : ∃ t, exec (.pmcCntLoWrite c v) s = .next t ∧
    t.pmcCount c = (s.rd F.PMC_CNT_HI_CNT_HI c * 2 ^ 32 + v.toNat) % 2 ^ 48 := by
  refine ⟨_, rfl, (State.pmcCount_pmcLoad ..).trans ?_⟩
  rw [Nat.mod_eq_of_lt v.isLt]

/-! #### Crystal and reference (R37, R38, R40, R485) -/

/-- Whether something done every n ticks is due: it has not been done, or n ticks have passed since. -/
def dueAfter (last : Option Stamp) (now : Stamp) (n : Nat) : Bool :=
  match last with | some t => decide (ahead now (after t n) ≥ 0) | none => true

theorem dueAfter_of {last : Option Stamp} {now : Stamp} {n : Nat} (h : ∀ t0, last = some t0 → 0 ≤ ahead now (after t0 n)) :
    dueAfter last now n = true := by
  cases last with
  | none => rfl
  | some t => exact decide_eq_true (h t rfl)

theorem ofSigned_mod (w : Nat) (i : Int) : ofSigned w i % 2 ^ w = ofSigned w i := by
  refine Nat.mod_eq_of_lt ?_
  have hpos : (0 : Int) < (2 ^ w : Nat) := Int.natCast_pos.2 (Nat.two_pow_pos w)
  exact (Int.toNat_lt (Int.emod_nonneg i hpos.ne')).2 (Int.emod_lt_of_pos i hpos)

theorem exec_tcompUpdate {s : State} (hen : s.on F.WT_XTAL_TCOMP_EN = true) (hdue : dueAfter s.time.tcompT s.now tMs = true)
    (temp : BitVec 16) : exec (.tcompUpdate temp) s = .next (({ s with time := { s.time with tcompT := some s.now } } : State).wr
      F.WT_XTAL_TCOMP (ofSigned 12 (toward (signed 12 (s.rd F.WT_XTAL_TCOMP)) (Config.xtalTable (s.tableTemp 0 temp)) 1))) := by
  have go : ¬(s.on F.WT_XTAL_TCOMP_EN = false ∨ dueAfter s.time.tcompT s.now tMs = false) := by simp [hen, hdue]
  exact congrArg Host.Outcome.next (if_neg go)

theorem exec_compensation {s : State} {k : DieId} (hok : s.dieOk k = true) (hdue : dueAfter (s.die k).compT s.now tMs = true)
    (temp : BitVec 16) : exec (.compensation k temp) s = .next (s.setDie k { s.die k with
      comp := toward (s.die k).comp (Config.refTable k (s.tableTemp (1 + k) temp)) 64, compT := some s.now }) := by
  have go : ¬(s.dieOk k = false ∨ dueAfter (s.die k).compT s.now tMs = false) := by simp [hok, hdue]
  exact congrArg Host.Outcome.next (if_neg go)

theorem ageWrite_ramps (s : State) (v : BitVec 16) : ∃ t, exec (.ageWrite v) s = .next t ∧ t.rd F.WT_XTAL_AGE = v.toNat ∧
    t.time.ageNow = s.ageInForce ∧ t.time.ageT = s.now :=
  ⟨_, rfl, (State.rd_wr ..).trans (Nat.mod_eq_of_lt v.isLt), rfl, rfl⟩

/-- A lost reference shows on every device and is a fault of the timing master alone (R40; assumption 112). -/
theorem referenceLost_shows {s : State} (hsel : s.refSel = true) (hok : s.on F.WT_STAT_REF_OK = true) :
    ∃ t, exec .referenceLost s = .next t ∧ t.rd F.WT_STAT_REF_OK = 0 ∧ t.rd F.WT_STAT_REF_LOST = 1 ∧
      t.rd F.WT_STAT_SYNC = s.rd F.WT_STAT_SYNC ∧
      t.faultq = if s.tmaster then s.faultq ++ [FaultIn.mk 22 0 0 false s.now] else s.faultq := by
  have go : ¬(s.refSel = false ∨ s.on F.WT_STAT_REF_OK = false) := by simp [hsel, hok]
  refine ⟨_, congrArg Host.Outcome.next (if_neg go), ?_⟩
  extract_lets u _ v
  have shown (g : Fld) : v.rd g = ((s.wr F.WT_STAT_REF_OK 0).wr F.WT_STAT_REF_LOST 1).rd g := rfl
  have hok' : v.rd F.WT_STAT_REF_OK = 0 := by
    rw [shown]
    simp (disch := decide) only [State.rd_wr_ne, State.rd_wr]
    rfl
  have hlost : v.rd F.WT_STAT_REF_LOST = 1 := State.rd_wr (s.wr F.WT_STAT_REF_OK 0) F.WT_STAT_REF_LOST 1 0 0
  have hsync : v.rd F.WT_STAT_SYNC = s.rd F.WT_STAT_SYNC := by
    rw [shown]
    simp (disch := decide) only [State.rd_wr_ne]
  have hmaster : v.tmaster = s.tmaster := by
    rw [State.tmaster, State.on, shown]
    simp (disch := decide) only [State.rd_wr_ne]
    rfl
  rw [hmaster]
  cases s.tmaster with
  | true => exact ⟨hok', hlost, hsync, State.detect_faultq ..⟩
  | false => exact ⟨hok', hlost, hsync, rfl⟩

theorem exec_referenceRelock {s : State} (hsel : s.refSel = true) (ht : 0 ≤ ahead s.now (after s.time.refT (10 * tMs))) :
    exec .referenceRelock s = .next (s.wr F.WT_STAT_REF_OK 1) := congrArg Host.Outcome.next (if_pos ⟨hsel, ht⟩)

/-- Settles O40: the tick by what it leaves of the clock, the counters by the load of one, the rest by the command's equation. -/
theorem timePasses : Obligations.TimePasses := by
  unfold Obligations.TimePasses
  intro s
  refine ⟨tick_advances, exec_tick_unreleased, wrap_counts, exec_wrap_not, wtNowLoRead_latches s,
    fun c => ⟨pmcCntLoRead_latches s c, pmcCntLoWrite_loads s c⟩, fun hen hdue temp => ?_, fun k hok hdue temp => ?_,
    ageWrite_ramps s, referenceLost_shows, fun hsel ht => ?_⟩
  · exact ⟨_, exec_tcompUpdate hen (dueAfter_of hdue) temp, rfl, (State.rd_wr ..).trans (ofSigned_mod 12 _)⟩
  · refine ⟨_, exec_compensation hok (dueAfter_of hdue) temp, ?_⟩
    rw [State.die_setDie]
    exact ⟨rfl, rfl⟩
  · exact ⟨_, exec_referenceRelock hsel ht, State.rd_wr ..⟩

end Sys2Proof.Machine
end

/-! ### Scope: the timing master, its beacons and the SYNC states -/

section
namespace Sys2Proof.Machine

open Sys2Proof

/-! #### The SYNC states (R43, R45) -/

theorem State.rd_setSync (s : State) (st : Nat) (f : Fld) (i j : Nat) : (s.setSync st).rd f i j = (s.wr F.WT_STAT_SYNC st).rd f i j := by
  unfold State.setSync
  extract_lets old u _ _ v
  split
  · rfl
  · split
    · rfl
    · rfl

theorem State.setSync_time (s : State) (st : Nat) : (s.setSync st).time = { s.time with syncT := s.now, good := 0 } := by
  unfold State.setSync
  extract_lets old u _ _ v
  split
  · rfl
  · split
    · rfl
    · rfl

/-- Entering UNSYNC raises its fault record (R45). -/
theorem State.setSync_unsync_faultq {s : State} (h : s.rd F.WT_STAT_SYNC ≠ syUnsync) :
    (s.setSync syUnsync).faultq = s.faultq ++ [FaultIn.mk 20 0 0 false s.now] :=
  (congrArg State.faultq (if_pos ⟨rfl, h⟩)).trans (State.detect_faultq ..)

theorem State.setSync_tmaster (s : State) (st : Nat) : (s.setSync st).tmaster = s.tmaster :=
  (s.setSync_does st).on F.GLB_ROLE_TMASTER 0 0 (by decide)

theorem holdover_enters {s : State} (hm : s.tmaster = false) (hl : s.rd F.WT_STAT_SYNC = syLocked)
    (ht : 0 ≤ ahead s.now (after s.time.lastValid 24576)) :
    ∃ t, exec .holdover s = .next t ∧ t.rd F.WT_STAT_SYNC = syHold ∧ t.time.syncT = s.now :=
  ⟨_, congrArg Host.Outcome.next (if_pos ⟨hm, hl, ht⟩), (State.rd_setSync ..).trans (State.rd_wr ..), congrArg TimeX.syncT (State.setSync_time ..)⟩

theorem unsync_enters {s : State} (hm : s.tmaster = false)
    (h : s.rd F.WT_STAT_SYNC = syHold ∧ 0 ≤ ahead s.now (after s.time.syncT tMs) ∨
      s.rd F.WT_STAT_SYNC = syLocked ∧ 192 < (signed 32 (s.rd F.WT_OFFSET_OFFSET)).natAbs) :
    ∃ t, exec .unsync s = .next t ∧ t.rd F.WT_STAT_SYNC = syUnsync ∧ t.faultq = s.faultq ++ [FaultIn.mk 20 0 0 false s.now] := by
  have hne : s.rd F.WT_STAT_SYNC ≠ syUnsync := by
    rcases h with ⟨h, -⟩ | ⟨h, -⟩
    · rw [h]; decide
    · rw [h]; decide
  exact ⟨_, congrArg Host.Outcome.next (if_pos ⟨hm, h⟩), (State.rd_setSync ..).trans (State.rd_wr ..), State.setSync_unsync_faultq hne⟩

/-! #### The timing master (R47) -/

/-- A device that learns the timing master's number shows it, and knows whether it is its own. -/
theorem State.newMaster_shows (s : State) {m : Nat} (hm : m < 64) :
    (s.newMaster m).rd F.WT_STAT_MASTER = m ∧ (s.newMaster m).tmaster = (m == s.dev) := by
  unfold State.newMaster
  split
  · next h => exact h
  · extract_lets u _ v
    have hdev : v.dev = s.dev := (State.rd_wr_ne (s.wr F.WT_STAT_MASTER m) (f := F.FAB_STAT_UPV) 0 0 0 0 0 (.inl (by decide))).trans
      (State.rd_wr_ne _ _ _ _ _ _ (.inl (by decide)))
    have hshown : v.rd F.WT_STAT_MASTER = m :=
      (State.rd_wr_ne (s.wr F.WT_STAT_MASTER m) (f := F.FAB_STAT_UPV) 0 0 0 0 0 (.inl (by decide))).trans
        ((State.rd_wr ..).trans (Nat.mod_eq_of_lt hm))
    rw [hdev, State.tmaster, State.on]
    split
    · next hown =>
      rw [hown, beq_self_eq_true, State.rd_setSync, State.rd_setSync]
      simp (disch := decide) only [State.rd_wr_ne, State.rd_wr]
      exact ⟨hown ▸ hshown, rfl⟩
    · next hother =>
      rw [beq_eq_false_iff_ne.2 hother, State.rd_setSync, State.rd_setSync]
      simp (disch := decide) only [State.rd_wr_ne, State.rd_wr]
      exact ⟨hshown, rfl⟩

theorem exec_masterDevWrite_member {s : State} (d : Fin 64) (h : s.anchor = false) : exec (.masterDevWrite d) s = .next s :=
  congrArg Host.Outcome.next (if_pos h)

theorem masterDevWrite_selects {s : State} (d : Fin 64) (h : s.anchor = true) : ∃ t, exec (.masterDevWrite d) s = .next t ∧
    t.rd F.WT_CTL_MASTER_DEV = d ∧ t.rd F.WT_STAT_MASTER = d ∧ t.tmaster = (d.val == s.dev) := by
  refine ⟨_, congrArg Host.Outcome.next (if_neg (ne_false_of_eq_true h)), ?_⟩
  extract_lets u pos v w
  have hctl : u.rd F.WT_CTL_MASTER_DEV = d := (State.rd_wr ..).trans (Nat.mod_eq_of_lt d.isLt)
  have hdev : u.dev = s.dev := State.rd_wr_ne _ _ _ _ _ _ (.inl (by decide))
  have hd : Does _ _ u w := ((State.wr_does u F.FAB_EXT_MX pos.1 0 0).andThen (State.wr_does _ F.FAB_EXT_MY pos.2 0 0)).andThen
    (Does.each (fun s i => State.sendCtrl_does s i 4 d 0) _ v)
  obtain ⟨hshown, hmaster⟩ := w.newMaster_shows d.isLt
  refine ⟨?_, hshown, hmaster.trans ?_⟩
  · rw [(State.newMaster_does w d).rd F.WT_CTL_MASTER_DEV 0 0 (by decide), hd.rd F.WT_CTL_MASTER_DEV 0 0 (by decide), hctl]
  · rw [State.dev, hd.rd F.GLB_ROLE_DEVNUM 0 0 (by decide)]
    exact congrArg (d.val == ·) hdev

/-! #### Beacons (R448, R449) -/

/-- One message sent from each port of a list. -/
theorem out_foldl_sent (msg : Nat → OutMsg) (l : List Nat) (s : State) :
    (l.foldl (fun (s : State) (p : Nat) => ({ s with out := s.out ++ [msg p] } : State).pulse 0x28 p) s).out = s.out ++ l.map msg := by
  induction l generalizing s with
  | nil => exact (List.append_nil _).symm
  | cons p l ih =>
    rw [List.foldl_cons, ih, List.map_cons]
    exact (List.append_cons ..).symm

theorem beaconSend_sends {s : State} (frac : Fin 1024) (hm : s.tmaster = true) (hp : s.power ≠ 4)
    (hdue : dueAfter s.time.sent s.now 1536 = true) :
    ∃ t, exec (.beaconSend frac) s = .next t ∧ t.time.sent = some s.now ∧ t.time.bseq = (s.time.bseq + 1) % 2 ^ 32 ∧
      t.out = s.out ++ ((List.range 4).filter s.beaconPort).map (fun p => OutMsg.link p (Flit.link tyBeacon 0 false 0 0
        (beaconBytes (s.now.toNat + frac.val) 0 (s.rd F.WT_EPOCH_EPOCH) s.dev 1 s.time.bseq))) := by
  have go : ¬(s.tmaster = false ∨ dueAfter s.time.sent s.now 1536 = false ∨ s.power = 4) := by simp [hm, hp, hdue]
  refine ⟨_, congrArg Host.Outcome.next (if_neg go), ?_⟩
  extract_lets b u
  have hnow : u.now = s.now := fold_keeps _ State.now (by intros; rfl) _ s
  have htime : u.time = s.time := fold_keeps _ State.time (by intros; rfl) _ s
  exact ⟨congrArg some hnow, congrArg (fun x => (TimeX.bseq x + 1) % 2 ^ 32) htime, out_foldl_sent _ _ s⟩

/-- A valid beacon gives the offset of its arrival from the master's time, and the hops it has come (R449). -/
theorem State.takeBeacon_shows (s : State) (p : Nat) (f : Flit) (frac : Nat) (transit : List Nat) :
    (s.takeBeacon p f frac transit).rd F.FAB_STAT_BHOPS = f.field 19 1 % 16 ∧
    (s.takeBeacon p f frac transit).rd F.WT_OFFSET_OFFSET = ofSigned 32 (s.now + BitVec.ofNat 64 frac - BitVec.ofNat 64 (f.field 0 8) -
      BitVec.ofInt 64 (signed 64 (f.field 8 8) + signed 32 (s.rd F.FAB_PLAT_INLAT p))).toInt := by
  unfold State.takeBeacon
  extract_lets inlat corr arrive off others u v _ w x
  have hbhops : w.rd F.FAB_STAT_BHOPS = f.field 19 1 % 16 := State.rd_wr ..
  have hoff : w.rd F.WT_OFFSET_OFFSET = ofSigned 32 off :=
    (State.rd_wr_ne _ _ _ _ _ _ (.inl (by decide))).trans ((State.rd_wr ..).trans (ofSigned_mod 32 off))
  have hx : Does _ _ w x := Does.ite (fun _ => w.setSync_does syAcq) (fun _ => .refl _ _ w)
  have hd := (hx.andThen (x.steer_does off)).andThen ((x.steer off).countGood_does off)
  exact ⟨(hd.rd F.FAB_STAT_BHOPS 0 0 (by decide)).trans hbhops, (hd.rd F.WT_OFFSET_OFFSET 0 0 (by decide)).trans hoff⟩

/-- Whether a beacon that came to a port is from the timing master, by a path that may be used (R449, R450). -/
def State.beaconOffered (s : State) (p : Nat) (f : Flit) : Bool :=
  !s.tmaster && f.field 18 1 % 64 == s.rd F.WT_STAT_MASTER && decide (bits (f.field 19 1) 3 0 ≤ 14) && s.beaconPort p

/-- A port notes the flit that has come and the hops of the beacon in it (R450). -/
def State.noteBeacon (s : State) (p : Nat) (f : Flit) : State :=
  let bh := bits (f.field 19 1) 3 0
  let u := s.flitIn p 1
  u.setPort p { u.port p with
    bhops := some bh
    bT := u.now
    better := if u.on F.FAB_STAT_UPV = true ∧ u.rd F.FAB_STAT_UPPORT ≠ p ∧ bh + 2 ≤ u.rd F.FAB_STAT_BHOPS then (u.port p).better + 1 else 0 }

theorem State.noteBeacon_does (s : State) (p : Nat) (f : Flit) : Does 0x80008000000 0 s (s.noteBeacon p f) :=
  (s.flitIn_does p 1).andThen (State.setPort_does _ p _)

theorem State.noteBeacon_now (s : State) (p : Nat) (f : Flit) : (s.noteBeacon p f).now = s.now := (s.noteBeacon_does p f).now (by decide)

theorem State.rd_noteBeacon (s : State) (p : Nat) (f : Flit) (g : Fld) (i j : Nat) : (s.noteBeacon p f).rd g i j = s.rd g i j :=
  (s.noteBeacon_does p f).rd g i j (Nat.zero_testBit _)

theorem exec_beacon (p : PortId) (f : Flit) (frac : Fin 1024) (transit : List Nat) (s : State) :
    exec (.beacon p f frac transit) s = .next (
      if s.portSt p ≠ ptUp ∨ s.power = 4 then s
      else if f.crcOk = false then (s.flitIn p 1).crcError p
      else if s.beaconOffered p f = false then s.flitIn p 1
      else
        let u := s.noteBeacon p f
        let v := if u.on F.FAB_STAT_UPV then u else u.setUpstream u.bestPort
        if v.rd F.FAB_STAT_UPPORT = p ∧ v.on F.FAB_STAT_UPV = true then v.takeBeacon p f frac transit else v) := rfl

/-- A valid beacon from the master at the upstream port is taken, once the port has noted it (R449, R450). -/
theorem exec_beacon_upstream {s : State} {p : PortId} {f : Flit} (frac : Fin 1024) (transit : List Nat) (hup : s.portSt p = ptUp)
    (hpow : s.power ≠ 4) (hcrc : f.crcOk = true) (hoffered : s.beaconOffered p f = true) (hupv : s.on F.FAB_STAT_UPV = true)
    (hupp : s.rd F.FAB_STAT_UPPORT = p) :
    exec (.beacon p f frac transit) s = .next ((s.noteBeacon p f).takeBeacon p f frac transit) := by
  have hstate : ¬(s.portSt p ≠ ptUp ∨ s.power = 4) := not_or.2 ⟨not_not_intro hup, hpow⟩
  have hv : (s.noteBeacon p f).on F.FAB_STAT_UPV = true := by rwa [State.on, State.rd_noteBeacon]
  have hp : (s.noteBeacon p f).rd F.FAB_STAT_UPPORT = p := by rwa [State.rd_noteBeacon]
  rw [exec_beacon, if_neg hstate, if_neg (ne_false_of_eq_true hcrc), if_neg (ne_false_of_eq_true hoffered)]
  simp only [if_pos hv, if_pos (And.intro hp hv)]

/-! #### The upstream port (R450) -/

theorem State.setUpstream_shows (s : State) (b : Option Nat) : (s.setUpstream b).on F.FAB_STAT_UPV = b.isSome ∧
    ∀ p, b = some p → p < 4 → (s.setUpstream b).rd F.FAB_STAT_UPPORT = p := by
  cases b with
  | none => exact ⟨congrArg (· == 1) (State.rd_wr s F.FAB_STAT_UPV 0 0 0), fun _ h => nomatch h⟩
  | some p =>
    simp only [State.setUpstream]
    generalize hu : State.wr (State.wr (State.wr s F.FAB_STAT_UPV 1) F.FAB_STAT_UPPORT p) F.FAB_STAT_BHOPS ((s.port p).bhops.getD 0) = u
    have hd := Does.each (fun (s : State) (q : Nat) => s.setPort_does q { s.port q with better := 0 }) (List.range 4) u
    refine ⟨?_, fun q hq hlt => ?_⟩
    · rw [hd.on F.FAB_STAT_UPV 0 0 (by decide), State.on, ← hu]
      simp (disch := decide) only [State.rd_wr_ne, State.rd_wr]
      rfl
    · obtain rfl : p = q := Option.some.inj hq
      rw [hd.rd F.FAB_STAT_UPPORT 0 0 (by decide), ← hu]
      simp (disch := decide) only [State.rd_wr_ne, State.rd_wr]
      exact Nat.mod_eq_of_lt hlt

theorem exec_upstreamChange_lost {s : State} (hm : s.tmaster = false) (hv : s.on F.FAB_STAT_UPV = true)
    (ht : 0 ≤ ahead s.now (after (s.port (s.rd F.FAB_STAT_UPPORT)).bT 6144)) :
    exec .upstreamChange s = .next (s.setUpstream s.bestPort) := by
  have hlost : (s.on F.FAB_STAT_UPV && decide (ahead s.now (after (s.port (s.rd F.FAB_STAT_UPPORT)).bT 6144) ≥ 0)) = true := by
    simp [hv, ht]
  exact congrArg Host.Outcome.next ((if_neg (ne_true_of_eq_false hm)).trans (if_pos hlost))

/-- Settles O41: the SYNC states by what entering one leaves, beacons by what a port sends and what a valid one shows. -/
theorem waferTimeFollowsItsMaster : Obligations.WaferTimeFollowsItsMaster := by
  unfold Obligations.WaferTimeFollowsItsMaster
  intro s
  refine ⟨fun d => ⟨masterDevWrite_selects d, exec_masterDevWrite_member d⟩,
    fun frac hm hp hdue => beaconSend_sends frac hm hp (dueAfter_of hdue),
    fun p f frac transit hup hpow hcrc hm hmaster hhops hport hupv hupp => ?_, holdover_enters, unsync_enters,
    fun hm hv ht => ⟨_, exec_upstreamChange_lost hm hv ht, s.setUpstream_shows s.bestPort⟩⟩
  have hoffered : s.beaconOffered p f = true := by simp [State.beaconOffered, hm, hmaster, hhops, hport]
  obtain ⟨hbhops, hoff⟩ := (s.noteBeacon p f).takeBeacon_shows p f frac transit
  rw [State.noteBeacon_now, State.rd_noteBeacon] at hoff
  exact ⟨_, exec_beacon_upstream frac transit hup hpow hcrc hoffered hupv hupp, hbhops, hoff⟩

end Sys2Proof.Machine
end

/-! ### Scope: watermarks and counter snapshots -/

section
namespace Sys2Proof.Machine

open Sys2Proof

/-! #### A stamp in two registers -/

section
variable {lo hi : Fld} (s : State) (t : Stamp) (i : Nat)

theorem State.rd_wrStamp_lo (hw : lo.width = 32) (h : hi.reg ≠ lo.reg ∨ hi.lo ≠ lo.lo) :
    (s.wrStamp lo hi t i).rd lo i = loWord t.toNat := by
  rw [State.wrStamp, State.rd_wr_ne _ _ _ _ _ _ h, State.rd_wr, hw]
  exact Nat.mod_mod _ _

theorem State.rd_wrStamp_hi (hw : hi.width = 32) : (s.wrStamp lo hi t i).rd hi i = hiWord t.toNat := by
  rw [State.wrStamp, State.rd_wr, hw]
  exact Nat.mod_mod _ _

theorem State.rd_wrStamp_ne {g : Fld} {j k : Nat} (hl : lo.reg ≠ g.reg ∨ lo.lo ≠ g.lo) (hh : hi.reg ≠ g.reg ∨ hi.lo ≠ g.lo) :
    (s.wrStamp lo hi t i).rd g j k = s.rd g j k := by
  rw [State.wrStamp, State.rd_wr_ne _ _ _ _ _ _ hh, State.rd_wr_ne _ _ _ _ _ _ hl]

end

/-! #### Watermarks (R54, R55) -/

theorem exec_watermark {s : State} (hen : s.on F.WT_WM_EN = true) (hp : s.power ≠ 4)
    (hdue : s.wm.wrapped = true ∨ 0 ≤ ahead s.now (after s.wm.last (max 4 (s.rd F.WT_WM_PERIOD) * 1500))) :
    exec .watermark s = .next (s.watermark s.wmTime) := by
  have hd : (s.wm.wrapped || decide (ahead s.now (after s.wm.last (max 4 (s.rd F.WT_WM_PERIOD) * 1500)) ≥ 0)) = true := by
    simpa using hdue
  have go : ¬(s.on F.WT_WM_EN = false ∨ s.power = 4 ∨
      (s.wm.wrapped || decide (ahead s.now (after s.wm.last (max 4 (s.rd F.WT_WM_PERIOD) * 1500)) ≥ 0)) = false) := by
    simp [hen, hp, hd]
  exact congrArg Host.Outcome.next (if_neg go)

/-- Records that each have a ring all come to wait for it. -/
theorem mem_evq_foldl_emit (r : Nat → EvRec) (hr : ∀ e, (r e).ring = some e) {l : List Nat} {e : Nat} (he : e ∈ l) (s : State) :
    r e ∈ (l.foldl (fun (s : State) (e : Nat) => s.emit (r e)) s).evq := by
  have hemit (s : State) (e : Nat) : (s.emit (r e)).evq = s.evq ++ [r e] := by rw [State.emit, hr e]; rfl
  refine fold_reaches (P := fun s => r e ∈ s.evq) he (fun s => ?_) (fun s p _ _ h => ?_) s
  · rw [hemit]
    exact List.mem_append_right _ (List.mem_singleton.2 rfl)
  · rw [hemit]
    exact List.mem_append_left _ h

theorem State.watermark_shows (s : State) (w : Stamp) :
    (s.watermark w).rd F.WT_WM_LAST_LO_LAST_LO = loWord w.toNat ∧ (s.watermark w).rd F.WT_WM_LAST_HI_LAST_HI = hiWord w.toNat ∧
    (s.watermark w).wm = { last := s.now, worst := s.rd F.WT_STAT_SYNC, jumped := false, wrapped := false } ∧
    ∀ e, e < 8 → s.on F.EVR_CFG_EN e = true → ∃ payload, (s.watermark w).recorded 4095 2 payload w e := by
  unfold State.watermark
  extract_lets held src worst payload q u v
  have hu : Does _ _ s u := Does.each (fun s e => s.emit_does (EvRec.mk 4095 2 w q 0 [payload] (some e))) _ s
  have hnow : v.now = s.now := hu.now (by decide)
  have hsync : v.rd F.WT_STAT_SYNC = s.rd F.WT_STAT_SYNC :=
    (State.rd_wrStamp_ne u _ _ (by decide) (by decide)).trans (hu.rd F.WT_STAT_SYNC 0 0 (by decide))
  refine ⟨u.rd_wrStamp_lo _ _ rfl (by decide), u.rd_wrStamp_hi _ _ rfl, ?_, fun e he hen => ⟨[payload], ?_⟩⟩
  · rw [hnow, hsync]
  · have hmem := mem_evq_foldl_emit (fun e => EvRec.mk 4095 2 w q 0 [payload] (some e)) (fun _ => rfl)
      (List.mem_filter (p := fun e => s.on F.EVR_CFG_EN e).2 ⟨List.mem_range.2 he, hen⟩) s
    exact List.any_eq_true.2 ⟨_, hmem, by simp⟩

/-! #### Snapshot slots (R56 to R59) -/

theorem arm_free {s : State} {k : SnapId} (h : s.on F.WT_SNAP_CTL_ARM k = false) {T : Stamp}
    (hT : T = tickOf (BitVec.ofNat 64 (join (s.rd F.WT_SNAP_TLO_TLO k) (s.rd F.WT_SNAP_THI_THI k)))) :
    ∃ t, exec (.arm k) s = .next t ∧ t.on F.WT_SNAP_CTL_ARM k = true ∧
      (t.snap k).at_ = some (if sooner T s.now 1500 then after s.now 1500 else T) ∧ (t.snap k).late = sooner T s.now 1500 := by
  subst hT
  refine ⟨_, congrArg Host.Outcome.next (if_neg (ne_true_of_eq_false h)), State.on_wr_one _ _ _ (by decide), ?_⟩
  unfold State.armSnap
  rw [State.snap_wr, State.snap_setSnap]
  exact ⟨rfl, rfl⟩

theorem arm_busy {s : State} {k : SnapId} (h : s.on F.WT_SNAP_CTL_ARM k = true) :
    ∃ t, exec (.arm k) s = .next t ∧ t.rd F.WT_STAT_SNAP_BUSY = 1 ∧ t.snaps = s.snaps :=
  ⟨_, congrArg Host.Outcome.next (if_pos h), State.rd_wr .., rfl⟩

/-- The descriptor that armed a slot completes where it is still there (R57, R59). -/
theorem State.snapDone_completed {s : State} {k q i : Nat} {d : Desc} (hd : (s.snap k).desc = some (q, i))
    (hf : (s.qp q).fetched.find? (fun d => d.idx == i) = some d) (status tick : Nat) :
    (s.snapDone k status tick).completed q d status tick k 0 := by
  unfold State.snapDone
  simp only [hd, hf]
  exact State.endDesc_completed ..

theorem disarm_frees {s : State} {k : SnapId} (ha : s.on F.WT_SNAP_CTL_ARM k = true) (ht : (s.snap k).at_ ≠ some s.now) :
    ∃ t, exec (.disarm k) s = .next t ∧ t.on F.WT_SNAP_CTL_ARM k = false ∧ t.snap k = {} := by
  have go : ¬(s.on F.WT_SNAP_CTL_ARM k = false ∨ (s.snap k).at_ = some s.now) := by simp [ha, ht]
  exact ⟨_, congrArg Host.Outcome.next (if_neg go), congrArg (· == 1) (State.rd_wr (s.snapDone k stAborted 0) F.WT_SNAP_CTL_ARM 0 k 0),
    State.snap_setSnap ..⟩

/-- What a fold writes at places of their own stands there after it. -/
theorem NStore.at_foldl_set {α : Type} [DecidableEq α] (d : α) (f : Nat → α) (p : Nat → Bool) (b : Nat) {c : Nat} (hp : p c = true)
    {l : List Nat} (hc : c ∈ l) (m : NStore α) :
    (l.foldl (fun (m : NStore α) (c : Nat) => if p c then m.set d (b + c) (f c) else m) m).at d (b + c) = f c := by
  have key : ∀ (l : List Nat) (m : NStore α), c ∈ l ∨ m.at d (b + c) = f c →
      (l.foldl (fun (m : NStore α) (c : Nat) => if p c then m.set d (b + c) (f c) else m) m).at d (b + c) = f c := by
    intro l
    induction l with
    | nil => exact fun m h => h.resolve_left List.not_mem_nil
    | cons a l ih =>
      intro m h
      rw [List.foldl_cons]
      refine ih _ ?_
      by_cases hac : c = a
      · subst hac
        exact .inr (by rw [if_pos hp, NStore.at_set, if_pos rfl])
      · refine h.imp (fun h => (List.mem_cons.1 h).resolve_left hac) (fun h => ?_)
        split
        · rwa [NStore.at_set, if_neg (by omega)]
        · exact h
  exact key l m (.inl hc)

/-- The counters of the engine die are all copied into the slot's shadow bank (R576). -/
theorem State.shadowCopy_shd (s : State) (k : Nat) {c : Nat} (hc : c < 384) : (s.shadowCopy k).shd.at 0 (512 * k + c) = s.pmcCount c := by
  unfold State.shadowCopy
  have hmem : c ∈ List.range 512 := List.mem_range.2 (by omega)
  generalize List.range 512 = l at hmem
  extract_lets ok takes m u v
  have htakes : takes c = true := by simp [takes, hc]
  have hv : v.shd = u.shd := fold_keeps _ State.shd (by
    intro s j
    split
    · rfl
    · rfl) _ u
  rw [State.wr_shd, hv]
  exact NStore.at_foldl_set 0 s.pmcCount takes (512 * k) htakes hmem s.shd

/-- A slot whose snapshot was taken shows its tick and is free (R57, R58). -/
def State.endSnap (s : State) (k : Nat) (late : Bool) (t : Stamp) : State :=
  let u := (s.wr F.WT_SNAP_CTL_ARM 0 k).wr F.WT_SNAP_CTL_DONE 1 k
  let v := if late then u.wr F.WT_SNAP_CTL_LATE 1 k else u
  (v.wrStamp F.WT_SNAP_ALO_ALO F.WT_SNAP_AHI_AHI t k).setSnap k {}

theorem exec_snapshotTaken {s : State} {k : SnapId} {t0 : Stamp} (ha : s.on F.WT_SNAP_CTL_ARM k = true) (hat : (s.snap k).at_ = some t0)
    (ht : reached t0 s.now = true) : exec (.snapshotTaken k) s = .next
      (((s.shadowCopy k).snapDone k (if (s.snap k).late then stLate else stOk) t0.toNat).endSnap k (s.snap k).late t0) := by
  have go : ¬(s.on F.WT_SNAP_CTL_ARM k = false ∨ reached t0 s.now = false) := by simp [ha, ht]
  change execSnapshotTaken k s = _
  unfold execSnapshotTaken
  simp only [hat, if_neg go]
  rfl

theorem State.endSnap_shows (s : State) (k : Nat) (late : Bool) (t : Stamp) :
    (s.endSnap k late t).on F.WT_SNAP_CTL_ARM k = false ∧ (s.endSnap k late t).on F.WT_SNAP_CTL_DONE k = true ∧
    (late = true → (s.endSnap k late t).on F.WT_SNAP_CTL_LATE k = true) ∧
    (s.endSnap k late t).rd F.WT_SNAP_ALO_ALO k = loWord t.toNat ∧ (s.endSnap k late t).rd F.WT_SNAP_AHI_AHI k = hiWord t.toNat ∧
    (s.endSnap k late t).snap k = {} := by
  unfold State.endSnap
  extract_lets u v
  have hu (g : Fld) (hg : F.WT_SNAP_CTL_LATE.reg ≠ g.reg ∨ F.WT_SNAP_CTL_LATE.lo ≠ g.lo) : v.rd g k = u.rd g k := by
    unfold v
    split
    · exact State.rd_wr_ne _ _ _ _ _ _ hg
    · rfl
  have hv (g : Fld) (hg : g.reg = .WT_SNAP_CTL) :
      ((v.wrStamp F.WT_SNAP_ALO_ALO F.WT_SNAP_AHI_AHI t k).setSnap k {}).rd g k = v.rd g k := by
    rw [State.rd_setSnap, State.rd_wrStamp_ne _ _ _ (.inl (by rw [hg]; decide)) (.inl (by rw [hg]; decide))]
  refine ⟨?_, ?_, fun hl => ?_, State.rd_wrStamp_lo _ _ _ rfl (by decide), State.rd_wrStamp_hi _ _ _ rfl, State.snap_setSnap ..⟩
  · rw [State.on, hv _ rfl, hu _ (by decide)]
    unfold u
    simp (disch := decide) only [State.rd_wr_ne, State.rd_wr]
    rfl
  · rw [State.on, hv _ rfl, hu _ (by decide)]
    unfold u
    rw [State.rd_wr]
    rfl
  · rw [State.on, hv _ rfl]
    unfold v
    rw [if_pos hl, State.rd_wr]
    rfl

theorem State.endSnap_keeps (s : State) (k : Nat) (late : Bool) (t : Stamp) :
    (s.endSnap k late t).shd = s.shd ∧ (s.endSnap k late t).qps = s.qps := by
  cases late with
  | true => simp [State.endSnap, State.wrStamp]
  | false => simp [State.endSnap, State.wrStamp]

/-- A snapshot taken leaves the counts in the slot's shadow bank, and the completion of the descriptor that armed it (R57, R576). -/
theorem State.snapshot_leaves (s : State) (k status tick : Nat) (late : Bool) (t0 : Stamp) :
    (∀ c, c < 384 → (((s.shadowCopy k).snapDone k status tick).endSnap k late t0).shd.at 0 (512 * k + c) = s.pmcCount c) ∧
    ∀ q i d, (s.snap k).desc = some (q, i) → (s.qp q).fetched.find? (fun d => d.idx == i) = some d →
      (((s.shadowCopy k).snapDone k status tick).endSnap k late t0).completed q d status tick k 0 := by
  have hcopy := s.shadowCopy_does k
  have hsnap : (s.shadowCopy k).snap k = s.snap k := by rw [State.snap, hcopy.snaps (by decide), State.snap]
  have hqp (q : Nat) : (s.shadowCopy k).qp q = s.qp q := by rw [State.qp, hcopy.qps (by decide), State.qp]
  have hdone := State.snapDone_does (s.shadowCopy k) k status tick
  obtain ⟨hshd, hqps⟩ := State.endSnap_keeps ((s.shadowCopy k).snapDone k status tick) k late t0
  refine ⟨fun c hc => ?_, fun q i d hd hf => ?_⟩
  · rw [hshd, hdone.shd (by decide), State.shadowCopy_shd s k hc]
  · rw [← hsnap] at hd
    rw [← hqp] at hf
    have hc := State.snapDone_completed hd hf status tick
    rw [State.completed, State.qp] at hc ⊢
    rw [hqps]
    exact hc

/-- Settles O42: the watermark by the records it emits, the slots by what arming, freeing and taking one leave. -/
theorem watermarksAndSnapshots : Obligations.WatermarksAndSnapshots := by
  unfold Obligations.WatermarksAndSnapshots
  intro s
  refine ⟨fun hen hp hdue => ?_, fun k T hT => ⟨fun h => arm_free h hT, arm_busy, disarm_frees, fun t0 ha hat ht => ?_⟩⟩
  · obtain ⟨hlo, hhi, hwm, hrec⟩ := s.watermark_shows s.wmTime
    refine ⟨_, exec_watermark hen hp hdue, hlo, hhi, ?_⟩
    rw [hwm]
    exact ⟨rfl, rfl, rfl, rfl, hrec⟩
  · obtain ⟨harm, hshown, hlate, hlo, hhi, hfree⟩ :=
      ((s.shadowCopy k).snapDone k (if (s.snap k).late then stLate else stOk) t0.toNat).endSnap_shows k (s.snap k).late t0
    exact ⟨_, exec_snapshotTaken ha hat ht, harm, hshown, hlate, hlo, hhi, hfree, s.snapshot_leaves k _ _ _ t0⟩

end Sys2Proof.Machine
end

/-! ### Scope: the compares of a pin -/

section
namespace Sys2Proof.Machine

open Sys2Proof

/-- A counting field reads one step on, up to all ones. -/
theorem State.rd_bump (s : State) (f : Fld) (k i j : Nat) :
    (s.bump f k i j).rd f i j = satAdd (2 ^ f.width - 1) (s.rd f i j) k :=
  (State.rd_wr ..).trans (Nat.mod_eq_of_lt (Nat.lt_of_le_pred (Nat.two_pow_pos _) (min_le_left _ _)))

/-! #### The capture of a fail (R259 to R270) -/

/-- A gang stored with the flights it had leaves every gang's flights. -/
theorem State.setGang_flights {s : State} {m : Nat} {g : Gang} (h : g.flights = (s.gang m).flights) (n : Nat) :
    ((s.setGang m g).gang n).flights = (s.gang n).flights := by
  by_cases hn : n = m
  · rw [hn, State.gang_setGang, h]
  · rw [State.gang_setGang_ne _ _ _ _ hn]

theorem State.lose_flights (s : State) (pod cause pin : Nat) (stamp : Stamp) (flag : Fld) (n : Nat) :
    ((s.lose pod cause pin stamp flag).gang n).flights = (s.gang n).flights := by
  unfold State.lose
  extract_lets x runs s1 s2 s3
  split
  · exact State.setGang_flights (s := s3) (by rfl) n
  · rfl

theorem State.pushFail_flights (s : State) (pod : Nat) (r : CapRec) (n : Nat) :
    ((s.pushFail pod r).gang n).flights = (s.gang n).flights := by
  unfold State.pushFail
  extract_lets x
  split
  · exact State.lose_flights ..
  · rfl

/-- The FAIL record of a capture fail, the last step of `State.captureFail`: none past the first CAP_CFG.FIRST_N (R261, R262). -/
def State.firstFail (s : State) (pod pin : Nat) (e : CmpEdge) (state : Nat) : State :=
  let x := s.pod pod
  let lim := s.rd F.CAP_CFG_FIRST_N pod
  if lim ≠ 0 ∧ x.firstCnt ≥ lim then s.wr F.CAP_STAT_FIRSTDONE 1 pod else
  let s := s.setPod pod { x with firstCnt := x.firstCnt + 1 }
  let s := if lim ≠ 0 ∧ x.firstCnt + 1 ≥ lim then s.wr F.CAP_STAT_FIRSTDONE 1 pod else s
  s.pushFail pod (failRecord 1 pin e.edge state e.code e.nofail e.pos (stampOf e.t))

/-- The fail counted in the pin's CAP_PFC, the first step of `State.captureFail` (R260). -/
def State.countFail (s : State) (pod pin : Nat) : State :=
  (s.wr F.CAP_PFC_PFC (satAdd (2 ^ 32 - 1) (s.rd F.CAP_PFC_PFC pod pin) 1) pod pin).pulse 0x02 pod

/-- A capture fail is counted, mapped where FMODE asks for the map, and recorded where it asks for records. -/
theorem State.captureFail_eq (s : State) (pod pin : Nat) (e : CmpEdge) (state : Nat) :
    s.captureFail pod pin e state =
      let c := s.countFail pod pin
      let m := if c.rd F.CAP_CFG_FMODE pod ≥ 2 then c.mapFail pod pin e.pos else c
      if c.rd F.CAP_CFG_FMODE pod % 2 = 0 then m else m.firstFail pod pin e state := rfl

theorem State.firstFail_does (s : State) (pod pin : Nat) (e : CmpEdge) (state : Nat) :
    Does 0x8000018 0x480000000000000000000000000000000000000000000000000000000000000 s (s.firstFail pod pin e state) := by
  unfold State.firstFail
  extract_lets x lim s1 s2
  have h1 : Does 0x8000018 0x480000000000000000000000000000000000000000000000000000000000000 s s1 :=
    Does.step (State.setPod_does ..) (by decide) (by decide) (.refl ..)
  refine Does.ite (fun _ => Does.wr _ _ _ _ (by decide) (.refl ..)) (fun _ => ?_)
  exact Does.step (State.pushFail_does ..) (by decide) (by decide) (Does.ite (fun _ => Does.wr _ _ _ _ (by decide) h1) (fun _ => h1))

theorem State.firstFail_flights (s : State) (pod pin : Nat) (e : CmpEdge) (state n : Nat) :
    ((s.firstFail pod pin e state).gang n).flights = (s.gang n).flights := by
  unfold State.firstFail
  extract_lets x lim s1 s2
  split
  · rfl
  · have h2 : s2.gang n = s.gang n := by
      unfold s2
      split <;> rfl
    rw [State.pushFail_flights, h2]

/-- The one octet of the fail map that a fail at a position may change (R263). -/
def State.mapOctet (s : State) (pod pin pos : Nat) : Nat :=
  4096 * s.rd F.CAP_PART_BASE pod + 1024 * s.mapUnits pod * pin + (pos - s.rd F.CAP_MAPSTART_MAPSTART pod) / 2 ^ s.rd F.CAP_CFG_SCALE pod / 8

theorem State.mapFail_byte (s : State) (pod pin pos : Nat) {a : Nat} (ha : a ≠ s.mapOctet pod pin pos) :
    (s.mapFail pod pin pos).capMem.byte a = s.capMem.byte a := by
  unfold State.mapFail
  extract_lets m start b a0
  split
  · rfl
  · exact (Memory.byte_write ..).trans (if_neg ha)

/-- What a capture fail shows: the pin's count, the flights as they were, and no octet changed but that of its map bit. -/
theorem State.captureFail_shows (s : State) (pod pin : Nat) (e : CmpEdge) (state : Nat) :
    (s.captureFail pod pin e state).rd F.CAP_PFC_PFC pod pin = min (2 ^ 32 - 1) (s.rd F.CAP_PFC_PFC pod pin + 1) ∧
    (∀ n, ((s.captureFail pod pin e state).gang n).flights = (s.gang n).flights) ∧
    ∀ a, a ≠ s.mapOctet pod pin e.pos → (s.captureFail pod pin e state).capMem.byte a = s.capMem.byte a := by
  rw [State.captureFail_eq]
  extract_lets c m
  have hcount : c.rd F.CAP_PFC_PFC pod pin = min (2 ^ 32 - 1) (s.rd F.CAP_PFC_PFC pod pin + 1) :=
    State.rd_bump s F.CAP_PFC_PFC 1 pod pin
  have hkeep {f : Fld} (i : Nat) (h : F.CAP_PFC_PFC.reg ≠ f.reg) : c.rd f i = s.rd f i := State.rd_wr_ne _ _ _ _ _ _ (.inl h)
  have hoct : c.mapOctet pod pin e.pos = s.mapOctet pod pin e.pos := by
    simp (disch := decide) only [State.mapOctet, State.mapUnits, hkeep]
  have hmap : Does 0x40000 0x80000000000000000000000000000000000000000000000000000000000000 c m :=
    Does.ite (fun _ => State.mapFail_does ..) (fun _ => .refl ..)
  have hbyte (a : Nat) (ha : a ≠ s.mapOctet pod pin e.pos) : m.capMem.byte a = s.capMem.byte a := by
    unfold m
    split
    · exact State.mapFail_byte c pod pin e.pos (hoct ▸ ha)
    · rfl
  have hm : m.rd F.CAP_PFC_PFC pod pin = min (2 ^ 32 - 1) (s.rd F.CAP_PFC_PFC pod pin + 1) := (hmap.rd _ _ _ (by decide)).trans hcount
  have hf (n : Nat) : (m.gang n).flights = (s.gang n).flights := congrArg Gang.flights (hmap.gang (by decide) n)
  have hrec := m.firstFail_does pod pin e state
  split
  · exact ⟨hm, hf, hbyte⟩
  · refine ⟨(hrec.rd _ _ _ (by decide)).trans hm, fun n => (State.firstFail_flights ..).trans (hf n), fun a ha => ?_⟩
    rw [hrec.capMem (by decide)]
    exact hbyte a ha

/-! #### The outcome of a compare (R75, R103, R104, R128) -/

/-- The flights of a pin's site with those of a position failed (R128). -/
def State.markFlights (s : State) (q pos : Nat) : State :=
  match s.siteOfPod (q / 4) with
  | some n => s.setGang n { s.gang n with
      flights := (s.gang n).flights.map (fun (f : Flight) => if f.pos = pos then { f with failed := true } else f) }
  | none => s

theorem State.cmpFail_eq (s : State) (q : Nat) (e : CmpEdge) (state : Nat) : s.cmpFail q e state =
    if e.nocap then s.markFlights q e.pos else (s.markFlights q e.pos).captureFail (q / 4) (q % 4) e state := rfl

theorem State.markFlights_does (s : State) (q pos : Nat) : Does 0x8 0 s (s.markFlights q pos) := by
  unfold State.markFlights
  split
  · exact State.setGang_does ..
  · exact .refl ..

theorem State.markFlights_flights {s : State} {q n : Nat} (h : s.siteOfPod (q / 4) = some n) (pos : Nat) :
    ((s.markFlights q pos).gang n).flights =
      (s.gang n).flights.map (fun f => if f.pos = pos then { f with failed := true } else f) := by
  simp [State.markFlights, h]

/-- What a failing compare shows: its vector's flights failed, and where it is captured the pin's count and map octet. -/
theorem State.cmpFail_shows (s : State) (q : Nat) (e : CmpEdge) (state : Nat) :
    (∀ n, s.siteOfPod (q / 4) = some n → ((s.cmpFail q e state).gang n).flights =
      (s.gang n).flights.map (fun f => if f.pos = e.pos then { f with failed := true } else f)) ∧
    (e.nocap = false → (s.cmpFail q e state).rd F.CAP_PFC_PFC (q / 4) (q % 4) =
      min (2 ^ 32 - 1) (s.rd F.CAP_PFC_PFC (q / 4) (q % 4) + 1)) ∧
    ∀ a, a ≠ s.mapOctet (q / 4) (q % 4) e.pos → (s.cmpFail q e state).capMem.byte a = s.capMem.byte a := by
  have hmark := s.markFlights_does q e.pos
  have hrd (f : Fld) (i j : Nat) : (s.markFlights q e.pos).rd f i j = s.rd f i j := hmark.rd f i j (Nat.zero_testBit _)
  have hcap : (s.markFlights q e.pos).capMem = s.capMem := hmark.capMem (by decide)
  obtain ⟨hcount, hflights, hbyte⟩ := (s.markFlights q e.pos).captureFail_shows (q / 4) (q % 4) e state
  rw [hrd] at hcount
  simp only [State.mapOctet, State.mapUnits, hrd, hcap] at hbyte
  rw [State.cmpFail_eq]
  split
  · next hn =>
    exact ⟨fun n h => State.markFlights_flights h e.pos, fun h => absurd (hn.symm.trans h) (by decide), fun a _ => by rw [hcap]⟩
  · exact ⟨fun n h => (hflights n).trans (State.markFlights_flights h e.pos), fun _ => hcount, hbyte⟩

/-- A compare that passed, with the state it leaves as the previous one. -/
def State.comparePassed (s t : State) (q : Nat) (rest : List CmpEdge) (v : Nat) : Prop :=
  (t.pin q).cmp = rest ∧ (t.pin q).prev = v ∧ t.capMem = s.capMem ∧ ∀ n, t.gang n = s.gang n

/-- A compare that failed, with the state it leaves as the previous one. -/
def State.compareFailed (s t : State) (q : Nat) (e : CmpEdge) (rest : List CmpEdge) (v : Nat) : Prop :=
  (t.pin q).cmp = rest ∧ (t.pin q).prev = v ∧
    (∀ n, s.siteOfPod (q / 4) = some n → (t.gang n).flights =
      (s.gang n).flights.map (fun f => if f.pos = e.pos then { f with failed := true } else f)) ∧
    (e.nocap = false → t.rd F.CAP_PFC_PFC (q / 4) (q % 4) = min (2 ^ 32 - 1) (s.rd F.CAP_PFC_PFC (q / 4) (q % 4) + 1)) ∧
    ∀ a, a ≠ s.mapOctet (q / 4) (q % 4) e.pos → t.capMem.byte a = s.capMem.byte a

/-- The pin and its counter after a compare has been taken, whatever its outcome. -/
def State.takeCmp (s : State) (q prev : Nat) : State := (s.setPin q { (s.pin q).dropCmp with prev := prev }).pulse 0x12 q

theorem State.takeCmp_pin (s : State) (q prev : Nat) : (s.takeCmp q prev).pin q = { (s.pin q).dropCmp with prev := prev } := by
  rw [State.takeCmp, State.pin_pulse, State.pin_setPin]

section
variable {s : State} {q : Nat} {e : CmpEdge} {rest : List CmpEdge}

/-- A compare that is not captured for its own sake (R75) fails or not, and that is all. -/
theorem State.cmpDone_eq (he : e.expect ≠ 5) (prev state : Nat) (ok : Bool) (shown : Nat) :
    s.cmpDone q e prev state ok shown = if ok then s.takeCmp q prev else (s.takeCmp q prev).cmpFail q e shown := if_neg he

theorem State.dropCmp_cmp {x : PinX} (h : x.cmp = e :: rest) : x.dropCmp.cmp = rest := congrArg List.tail h

theorem State.cmpDone_passes (hc : (s.pin q).cmp = e :: rest) (he : e.expect ≠ 5) (v state shown : Nat) :
    s.comparePassed (s.cmpDone q e v state true shown) q rest v := by
  rw [State.cmpDone_eq he, if_pos rfl, State.comparePassed, State.takeCmp_pin]
  exact ⟨State.dropCmp_cmp hc, rfl, rfl, fun _ => rfl⟩

theorem State.cmpDone_fails (hc : (s.pin q).cmp = e :: rest) (he : e.expect ≠ 5) (v state shown : Nat) :
    s.compareFailed (s.cmpDone q e v state false shown) q e rest v := by
  rw [State.cmpDone_eq he, if_neg Bool.false_ne_true, State.compareFailed,
    ((s.takeCmp q v).cmpFail_does q e shown).pinX (by decide), State.takeCmp_pin]
  exact ⟨State.dropCmp_cmp hc, rfl, (s.takeCmp q v).cmpFail_shows q e shown⟩

theorem State.cmpMasked_shows (hc : (s.pin q).cmp = e :: rest) : ((s.cmpMasked q).pin q).cmp = rest ∧
    (s.cmpMasked q).rd F.POD_LVL_MASKED_MASKED (q / 4) =
      satAdd (2 ^ F.POD_LVL_MASKED_MASKED.width - 1) (s.rd F.POD_LVL_MASKED_MASKED (q / 4)) 1 := by
  refine ⟨?_, State.rd_bump ..⟩
  rw [State.cmpMasked, State.pin_bump, State.pin_setPin]
  exact State.dropCmp_cmp hc

end

section
variable {s : State} {q : PinId} {e : CmpEdge} {rest : List CmpEdge}

/-- A strobe whose state is known, of a pin that compares the raw state. -/
theorem exec_strobe (hc : (s.pin q).cmp = e :: rest) (hd : e.dropped = false) (he : e.edge ≠ 2)
    (hk : reached (s.strobeKnown q e) s.now = true) (hf : s.filtCmp q = false) :
    exec (.strobe q) s = .next (if s.masked (q / 4) e then s.cmpMasked q else
      s.cmpDone q e ((s.pin q).rawAt e.t) ((s.pin q).rawAt e.t) (passes e.expect ((s.pin q).rawAt e.t) (s.pin q).prev)
        ((s.pin q).rawAt e.t)) := by
  change execStrobe q s = _
  simp [execStrobe, hc, hd, he, hk, hf]

/-- A window that is over fails where its first state is wrong. -/
theorem exec_windowCompare_fails (hc : (s.pin q).cmp = e :: rest) (hd : e.dropped = false) (h5 : e.expect ≠ 5) (he : e.edge = 2)
    (hk : fineDue e.tc s.now = true) (hm : s.masked (q / 4) e = false)
    (hp : passes e.expect ((s.pin q).rawAt e.t) (s.pin q).prev = false) :
    exec (.windowCompare q) s = .next (s.cmpDone q e ((s.pin q).rawAt e.t) ((s.pin q).rawAt e.t) false ((s.pin q).rawAt e.t)) := by
  change execWindowCompare q s = _
  simp [execWindowCompare, hc, hd, h5, he, hk, hm, hp]

/-- A window that is over passes where its first state is right and it holds no departure. -/
theorem exec_windowCompare_passes (hc : (s.pin q).cmp = e :: rest) (hd : e.dropped = false) (h5 : e.expect ≠ 5) (he : e.edge = 2)
    (hk : fineDue e.tc s.now = true) (hm : s.masked (q / 4) e = false)
    (hp : passes e.expect ((s.pin q).rawAt e.t) (s.pin q).prev = true)
    (hw : departures (fun v => if e.expect = 4 then v == (s.pin q).rawAt e.t else passes e.expect v 3)
      (spells e.tc ((s.pin q).rawAt e.t) e.t (s.pin q).hist) = []) :
    exec (.windowCompare q) s = .next (s.cmpDone q e ((s.pin q).rawAt e.t) ((s.pin q).rawAt e.t) true ((s.pin q).rawAt e.t)) := by
  change execWindowCompare q s = _
  simp [execWindowCompare, hc, hd, h5, he, hk, hm, hp, hw, failing]

end

/-- Settles O29: the strobe and the window each by the outcome of their compare. -/
theorem pinComparesJudge : Obligations.PinComparesJudge := by
  unfold Obligations.PinComparesJudge
  intro s q e rest hc hd h5 p i hp hi passed failed hpassed hfailed
  subst hp hi
  have pass {t : State} {v : Nat} (h : s.comparePassed t q rest v) : passed t v := (hpassed t v).2 h
  have fail {t : State} {v : Nat} (h : s.compareFailed t q e rest v) : failed t v := (hfailed t v).2 h
  refine ⟨fun he hk hf => ?_, fun he hk hm => ⟨fun hp hw => ?_, fun hp => ?_⟩⟩
  · rw [exec_strobe hc hd he hk hf]
    refine ⟨fun hm => ⟨_, rfl, ?_⟩, fun hm hp => ⟨_, rfl, ?_⟩, fun hm hp => ⟨_, rfl, ?_⟩⟩
    · rw [if_pos hm]
      exact State.cmpMasked_shows hc
    · rw [if_neg (Bool.eq_false_iff.1 hm), hp]
      exact pass (State.cmpDone_passes hc h5 _ _ _)
    · rw [if_neg (Bool.eq_false_iff.1 hm), hp]
      exact fail (State.cmpDone_fails hc h5 _ _ _)
  · exact ⟨_, exec_windowCompare_passes hc hd h5 he hk hm hp hw, pass (State.cmpDone_passes hc h5 _ _ _)⟩
  · exact ⟨_, exec_windowCompare_fails hc hd h5 he hk hm hp, fail (State.cmpDone_fails hc h5 _ _ _)⟩

end Sys2Proof.Machine
end

/-! ### Scope: the settle timer, the filters and the watch of a pin -/

section
namespace Sys2Proof.Machine

open Sys2Proof

/-! #### The settle timer (R70, R79) -/

/-- The pins named at the end of a settle time are seeded anew; nothing else of the pod moves. -/
theorem levelSettleExpiry_ends {s : State} {p : PodId} {t0 : Stamp} (h : (s.pod p).settleEnd = some t0) (ht : reached t0 s.now = true) :
    ∃ t, exec (.levelSettleExpiry p) s = .next t ∧ (t.pod p).settleEnd = none ∧ t.rd F.POD_LVL_STAT_SETTLING p = 0 := by
  have hexec : exec (.levelSettleExpiry p) s = .next ((bitsSet 4 (s.pod p).settlePins).foldl (fun s i => s.reseedPin (4 * p.val + i))
      ((s.setPod p { s.pod p with settleEnd := none, settlePins := 0 }).wr F.POD_LVL_STAT_SETTLING 0 p)) := by
    change execLevelSettleExpiry p s = _
    simp [execLevelSettleExpiry, h, ht]
  have hseed := Does.each (fun s i => State.reseedPin_does s (4 * p.val + i)) (bitsSet 4 (s.pod p).settlePins)
    ((s.setPod p { s.pod p with settleEnd := none, settlePins := 0 }).wr F.POD_LVL_STAT_SETTLING 0 p)
  refine ⟨_, hexec, ?_, ?_⟩
  · rw [hseed.podX (by decide), State.pod_wr, State.pod_setPod]
  · rw [hseed.rd _ _ _ (by decide), State.rd_wr]
    rfl

/-! #### Watch events (R84, R85) -/

/-- A counted watch event is one more raise, and leaves every pin. -/
theorem State.watchEvent_shows (s : State) (q info : Nat) (t : Stamp) :
    (s.watchEvent q info true t).rd F.PIN_STAT_RAISES q = satAdd (2 ^ F.PIN_STAT_RAISES.width - 1) (s.rd F.PIN_STAT_RAISES q) 1 ∧
    ∀ p, (s.watchEvent q info true t).pin p = s.pin p := by
  refine ⟨?_, fun p => (State.watchEvent_does s q info true t).pinX (by decide) p⟩
  unfold State.watchEvent
  extract_lets s1 s2
  rw [(State.raise_does ..).rd _ _ _ (Nat.zero_testBit _)]
  calc s2.rd F.PIN_STAT_RAISES q
    _ = s1.rd F.PIN_STAT_RAISES q := State.bump_rd_ne _ _ _ _ _ _ (.inl (by decide))
    _ = _ := State.rd_bump ..

/-- The interval of a target taken at a tick starts with no raise counted (R85). -/
theorem State.watchSpan_shows (s : State) (q : Nat) (t : Stamp) :
    (s.watchSpan q (some t)).rd F.PIN_STAT_RAISES q = 0 ∧
    (s.watchSpan q (some t)).pin q = { s.pin q with rearm := some (after t (s.rearmTicks q)), reraises := 0 } :=
  ⟨State.rd_wr .., (State.pin_wr ..).trans (State.pin_setPin ..)⟩

/-- A decision that takes the target of an enabled watch, not suppressed, is the first raise of a new interval; on leaving UNKNOWN
EV_INIT asks for it (R78, R84, R85). -/
theorem State.decided_raises {s : State} {q : Nat} {d : FDec} {init : Bool} (hen : s.on F.PIN_WATCH_EN q = true)
    (hheld : s.watchHeld q d.t = false) (hnew : s.atTarget q d.new = true) (hold : init = false → s.atTarget q d.old = false)
    (hinit : init = true → s.on F.PIN_WATCH_EV_INIT q = true) :
    (s.decided q d init).rd F.PIN_STAT_RAISES q = 1 ∧
    (s.decided q d init).pin q = { s.pin q with rearm := some (after d.t (s.rearmTicks q)), reraises := 0 } := by
  obtain ⟨hzero, hspan⟩ := s.watchSpan_shows q d.t
  have hkeep : (s.watchSpan q (some d.t)).on F.PIN_WATCH_EV_INIT q = s.on F.PIN_WATCH_EV_INIT q :=
    (s.watchSpan_does q (some d.t)).on _ _ _ (by decide)
  have hwas : (!init && s.atTarget q d.old) = false := by
    cases init with
    | true => rfl
    | false => exact hold rfl
  have hask : (!init || s.on F.PIN_WATCH_EV_INIT q) = true := by
    cases init with
    | true => exact hinit rfl
    | false => rfl
  unfold State.decided
  extract_lets now was stamp en held s1 s2
  rw [if_pos (by simp [now, was, hnew, hwas])]
  have h2 : s2 = (s.watchSpan q (some d.t)).watchEvent q (d.new + if init then 2 ^ 4 else 0) true stamp := by
    simp [s2, s1, en, held, hen, hheld, hkeep, hask]
  obtain ⟨hraise, hpin⟩ := (s.watchSpan q (some d.t)).watchEvent_shows q (d.new + if init then 2 ^ 4 else 0) stamp
  have hwake {c : Prop} [Decidable c] : Does 0x8000000000000000 0 s2 (if c then s2.askWake 3 else s2) :=
    Does.ite (fun _ => State.askWake_does ..) (fun _ => .refl ..)
  rw [hwake.rd _ _ _ (Nat.zero_testBit _), hwake.pinX (by decide), h2, hraise, hpin, hzero, hspan]
  exact ⟨rfl, rfl⟩

section
variable {s : State} {q : PinId} {d : FDec} {rest : List FDec}

theorem State.takeDec_pin (hq : (s.pin q).filter.decs = d :: rest) : ((s.takeDec q).pin q).filter.decs = rest := by
  rw [State.takeDec, State.pin_setPin, hq, List.tail_cons]

/-- A decision of a pin's filter, taken from its list, raises as `State.decided_raises` says. -/
theorem State.takeDec_raises {init : Bool} (hq : ((s.syncPin q).pin q).filter.decs = d :: rest) (hen : s.on F.PIN_WATCH_EN q = true)
    (hheld : s.watchHeld q d.t = false) (hnew : s.atTarget q d.new = true) (hold : init = false → s.atTarget q d.old = false)
    (hinit : init = true → s.on F.PIN_WATCH_EV_INIT q = true) :
    ((((s.syncPin q).takeDec q).decided q d init).pin q).filter.decs = rest ∧
    (((s.syncPin q).takeDec q).decided q d init).rd F.PIN_STAT_RAISES q = 1 ∧
    ((((s.syncPin q).takeDec q).decided q d init).pin q).rearm = some (after d.t (2 ^ s.rd F.PIN_WATCH_REARM q * tUs)) := by
  obtain ⟨hraise, hpin⟩ := State.decided_raises (s := (s.syncPin q).takeDec q) hen hheld hnew hold hinit
  rw [hpin]
  exact ⟨State.takeDec_pin hq, hraise, rfl⟩

theorem exec_filterSettled (hq : ((s.syncPin q).pin q).filter.decs = d :: rest) (ho : d.old = 3) :
    exec (.filterSettled q) s = .next (((s.syncPin q).takeDec q).decided q d true) := by
  change execFilterSettled q s = _
  simp [execFilterSettled, hq, ho]

theorem exec_filterDecision (hq : ((s.syncPin q).pin q).filter.decs = d :: rest) (ho : d.old ≠ 3) :
    exec (.filterDecision q) s = .next (((s.syncPin q).takeDec q).decided q d false) := by
  change execFilterDecision q s = _
  simp [execFilterDecision, hq, ho]

end

/-! #### Re-raises and rate windows (R85, R86) -/

/-- A pin's next re-raise interval, from the end of the one before (R85). -/
def State.nextInterval (s : State) (q : Nat) (t : Stamp) : State :=
  s.setPin q { s.pin q with rearm := some (after t (s.rearmTicks q)) }

/-- The raise at the end of an interval (R85). -/
def State.raiseAgain (s : State) (q : Nat) (t : Stamp) : State :=
  ((s.nextInterval q t).setPin q { (s.nextInterval q t).pin q with reraises := (s.pin q).reraises + 1 }).watchEvent q
    (((s.nextInterval q t).pinFilter q).st % 4 + 2 ^ 2) true t

theorem State.watchHeld_nextInterval (s : State) (q : Nat) (t u : Stamp) : (s.nextInterval q t).watchHeld q u = s.watchHeld q u := rfl

theorem State.raiseAgain_shows (s : State) (q : Nat) (t : Stamp) :
    (s.raiseAgain q t).rd F.PIN_STAT_RAISES q = satAdd (2 ^ F.PIN_STAT_RAISES.width - 1) (s.rd F.PIN_STAT_RAISES q) 1 ∧
    (s.raiseAgain q t).pin q = { s.pin q with rearm := some (after t (s.rearmTicks q)), reraises := (s.pin q).reraises + 1 } := by
  obtain ⟨hraise, hpin⟩ := State.watchEvent_shows ((s.nextInterval q t).setPin q { (s.nextInterval q t).pin q with
    reraises := (s.pin q).reraises + 1 }) q (((s.nextInterval q t).pinFilter q).st % 4 + 2 ^ 2) t
  refine ⟨hraise, (hpin q).trans ?_⟩
  rw [State.pin_setPin, State.nextInterval, State.pin_setPin]

/-- At the end of an interval a watch in LEVEL mode raises again, and is STUCK with the sixteenth (R85). -/
theorem exec_levelRearm {s : State} {q : PinId} {t : Stamp} (hr : (s.pin q).rearm = some t) (ht : reached t s.now = true)
    (hen : s.on F.PIN_WATCH_EN q = true) (hmode : s.on F.PIN_WATCH_EV_MODE q = true) (hheld : s.watchHeld q t = false)
    (hn : (s.pin q).reraises < 16) :
    exec (.levelRearm q) s = .next (if (s.pin q).reraises + 1 ≥ 16 then (s.raiseAgain q t).wr F.PIN_FLAG_STUCK 1 q else s.raiseAgain q t) := by
  have hheld' := (s.watchHeld_nextInterval q t t).trans hheld
  have hn' : ¬(s.pin q).reraises ≥ 16 := Nat.not_le.2 hn
  rw [State.nextInterval] at hheld'
  change execLevelRearm q s = _
  simp only [execLevelRearm, hr, ht, hen, hmode, hheld', hn', State.raiseAgain, State.nextInterval, Bool.true_eq_false, Bool.false_eq_true,
    or_self, if_false]

theorem levelRearm_raises {s : State} {q : PinId} {t0 : Stamp} (hr : (s.pin q).rearm = some t0) (ht : reached t0 s.now = true)
    (hen : s.on F.PIN_WATCH_EN q = true) (hmode : s.on F.PIN_WATCH_EV_MODE q = true) (hheld : s.watchHeld q t0 = false)
    (hn : (s.pin q).reraises < 16) : ∃ t, exec (.levelRearm q) s = .next t ∧
      (t.pin q).rearm = some (after t0 (2 ^ s.rd F.PIN_WATCH_REARM q * tUs)) ∧ (t.pin q).reraises = (s.pin q).reraises + 1 ∧
      t.rd F.PIN_STAT_RAISES q = satAdd (2 ^ F.PIN_STAT_RAISES.width - 1) (s.rd F.PIN_STAT_RAISES q) 1 ∧
      ((s.pin q).reraises = 15 → t.rd F.PIN_FLAG_STUCK q = 1) := by
  obtain ⟨hraise, hpin⟩ := s.raiseAgain_shows q t0
  refine ⟨_, exec_levelRearm hr ht hen hmode hheld hn, ?_⟩
  split
  · rw [State.pin_wr, State.rd_wr_ne _ _ _ _ _ _ (.inl (by decide)), State.rd_wr, hpin]
    exact ⟨rfl, rfl, hraise, fun _ => rfl⟩
  · next hlast =>
    rw [hpin]
    exact ⟨rfl, rfl, hraise, fun h => absurd (by omega) hlast⟩

/-- The announced rate window taken from a pin's filter. -/
def State.takeRate (s : State) (q : Nat) : State :=
  (s.syncPin q).setPin q { (s.syncPin q).pin q with filter := { ((s.syncPin q).pin q).filter with rate := none } }

theorem exec_rateWindow {s : State} {q : PinId} {t : Stamp} (hr : ((s.syncPin q).pin q).filter.rate = some t)
    (hf : s.on F.PIN_FLAG_RATE q = false) : exec (.rateWindow q) s = .next (
      let u := (s.takeRate q).wr F.PIN_FLAG_RATE 1 q
      if u.on F.PIN_WATCH_EN q && u.on F.PIN_WATCH_EV_RATE q &&
          !((s.takeRate q).watchHeld q t || decide (((s.syncPin q).pin q).reraises ≥ 16)) then
        u.watchEvent q (((s.syncPin q).pin q).filter.st + 2 ^ 3) false t
      else u) := by
  change execRateWindow q s = _
  simp only [execRateWindow, hr]
  exact congrArg Host.Outcome.next (if_neg (Bool.eq_false_iff.1 hf))

/-- A rate window of many changes is flagged once and taken from the filter (R86). -/
theorem rateWindow_flags {s : State} {q : PinId} {t0 : Stamp} (hr : ((s.syncPin q).pin q).filter.rate = some t0)
    (hf : s.on F.PIN_FLAG_RATE q = false) : ∃ t, exec (.rateWindow q) s = .next t ∧
      t.rd F.PIN_FLAG_RATE q = 1 ∧ (t.pin q).filter.rate = none := by
  refine ⟨_, exec_rateWindow hr hf, ?_⟩
  extract_lets u
  have hevent {c : Prop} [Decidable c] {info : Nat} : Does 0x9800008 0x208000000000000000000000000000000000000000000000000000000000000000 u
      (if c then u.watchEvent q info false t0 else u) := Does.ite (fun _ => State.watchEvent_does ..) (fun _ => .refl ..)
  rw [hevent.rd _ _ _ (by decide), hevent.pinX (by decide), State.rd_wr, State.pin_wr, State.takeRate, State.pin_setPin]
  exact ⟨rfl, rfl⟩

/-! #### Raw transitions (R73, R265 to R270, R288) -/

theorem State.lose_pin (s : State) (pod cause pin : Nat) (stamp : Stamp) (flag : Fld) (n : Nat) :
    (s.lose pod cause pin stamp flag).pin n = s.pin n := by
  unfold State.lose
  extract_lets x runs s1 s2 s3
  split <;> rfl

theorem State.logEdge_raw (s : State) (q new : Nat) (win : Bool) (t : Stamp) : ((s.logEdge q new win t).pin q).raw = (s.pin q).raw := by
  unfold State.logEdge
  extract_lets pod x b w cnt s1 y
  have h1 : (s1.pin q).raw = (s.pin q).raw := by rw [State.pin_setPin]
  split
  · rw [State.lose_pin]
  · split
    · rw [State.lose_pin, h1]
    · exact h1

/-- A transition that is lost, or not logged at all, leaves every pin. -/
theorem State.loseIf_pin (s : State) {c : Prop} [Decidable c] (pod cause pin : Nat) (stamp : Stamp) (flag : Fld) (n : Nat) :
    (if c then s.lose pod cause pin stamp flag else s).pin n = s.pin n := by
  split
  · exact State.lose_pin ..
  · rfl

/-- A raw transition becomes the pin's raw state, whoever sees the edge: a measurement, the edge log, or none. -/
theorem rawTransition_takes {s : State} {q : PinId} {raw frac : Nat} (hne : raw ≠ (s.pin q).raw) (hraw : raw ≤ 2) (hfrac : frac < 8000) :
    ∃ t, exec (.rawTransition q raw frac) s = .next t ∧ (t.pin q).raw = raw := by
  have hold : ((s.syncPin q).pin q).raw = (s.pin q).raw := by rw [State.syncPin, State.pin_setPin]
  refine ⟨_, congrArg Host.Outcome.next (if_neg ?_), ?_⟩
  · rw [hold]
    omega
  · extract_lets t taken stamp lg logs need dead started missed x sampled seen
    have htaken : (taken.pin q).raw = raw := congrArg PinX.raw (State.pin_setPin ..)
    have hstarted : Does 0x40 0 taken started := Does.ite (fun _ => State.iuPinEdge_does ..) (fun _ => .refl ..)
    have hmissed : Does 0x40 0 taken missed := State.iuMissed_does ..
    have hseen : (seen.pin q).raw = raw := by
      rw [(State.iuPinEdge_does sampled _ _ _ _).pinX (by decide), State.pin_pulse, State.pin_setPin]
      exact htaken
    split
    · rw [State.loseIf_pin, hstarted.pinX (by decide), htaken]
    · split
      · rw [State.loseIf_pin, hmissed.pinX (by decide), htaken]
      · split
        · rw [State.logEdge_raw, hseen]
        · exact hseen

/-- Settles O30: each watch of a pin by its own command. -/
theorem pinWatchFollows : Obligations.PinWatchFollows := by
  unfold Obligations.PinWatchFollows
  refine fun s => ⟨fun p t0 => levelSettleExpiry_ends, fun q d rest hq hen hheld hnew => ⟨fun ho hinit => ?_, fun ho hold => ?_⟩,
    fun q t0 => levelRearm_raises, fun q t0 => rateWindow_flags, fun q raw frac => rawTransition_takes⟩
  · exact ⟨_, exec_filterSettled hq ho, State.takeDec_raises hq hen hheld hnew (fun h => absurd h (by decide)) (fun _ => hinit)⟩
  · exact ⟨_, exec_filterDecision hq ho, State.takeDec_raises hq hen hheld hnew (fun _ => hold) (fun h => absurd h (by decide))⟩

end Sys2Proof.Machine
end

/-! ### Scope: the recalibration of delays, the calibration of TDCs and the eye measurement -/

section
namespace Sys2Proof.Machine

open Sys2Proof

/-! #### A fold whose step at one unit needs what the steps before it keep -/

/-- Where I holds until the fold comes to q, its step at q brings P about, and every step keeps P, P holds after the fold. -/
theorem fold_reaches_from {α : Type} {I P : State → Prop} {g : State → α → State} {l : List α} {q : α} (hq : q ∈ l)
    (hinv : ∀ s a, a ≠ q → I s → I (g s a)) (hown : ∀ s, I s → P (g s q)) (hkeep : ∀ s a, P s → P (g s a)) {s : State} (h : I s) :
    P (l.foldl g s) := by
  induction l generalizing s with
  | nil => exact absurd hq List.not_mem_nil
  | cons a l ih =>
    by_cases ha : a = q
    · rw [List.foldl_cons, ha]
      exact List.foldlRecOn l g (hown s h) fun t ht b _ => hkeep t b ht
    · exact ih ((List.mem_cons.1 hq).resolve_left (Ne.symm ha)) (hinv s a ha h)

/-! #### The recalibration of delays (R115) -/

/-- The pods of a pin die. -/
def podsOfDie (k : Nat) : List Nat := (List.range 64).map (fun i => 64 * k + i)

theorem mem_podsOfDie {k i : Nat} (h : i < 64) : 64 * k + i ∈ podsOfDie k := List.mem_map.2 ⟨i, List.mem_range.2 h, rfl⟩

/-- The pods of a die that ask for a recalibration: by its temperature, or by one that was deferred. -/
def State.recalDue (s : State) (k : Nat) : List Nat :=
  (podsOfDie k).filter (fun p => s.on F.POD_TIM_CTL_RECAL_AUTO p &&
    (movedBy (s.die k).recalTemp (s.dieTemp k) (s.rd F.POD_TIM_CTL_RECAL_DT p) || s.on F.POD_TIM_STAT_RECAL_DUE p))

theorem State.mem_recalDue {s : State} {k i : Nat} (hi : i < 64) (hauto : s.on F.POD_TIM_CTL_RECAL_AUTO (64 * k + i) = true)
    (hmoved : movedBy (s.die k).recalTemp (s.dieTemp k) (s.rd F.POD_TIM_CTL_RECAL_DT (64 * k + i)) = true) :
    64 * k + i ∈ s.recalDue k :=
  List.mem_filter.2 ⟨mem_podsOfDie hi, by rw [hauto, hmoved]; rfl⟩

/-- The recalibration of a pin die begins, and nothing of it is deferred any more. -/
def State.recalStart (s : State) (k : Nat) : State :=
  (s.setDie k { s.die k with recalTemp := s.dieTemp k, recalEnd := some (after s.now (12 * tUs)) }).wrAll F.POD_TIM_STAT_RECAL_DUE 0
    (podsOfDie k)

theorem State.wrAll_dies (s : State) (f : Fld) (v : Nat) (l : List Nat) : (s.wrAll f v l).dies = s.dies :=
  fold_keeps (fun (s : State) i => s.wr f v i) State.dies (fun _ _ => rfl) l s

section
variable {s : State} {k : DieId}

theorem exec_recalibration {p : Nat} (hdue : p ∈ s.recalDue k) (hend : (s.die k).recalEnd = none) (hok : s.dieOk k = true) :
    exec (.recalibration k) s = .next (if s.dieRuns k || s.runAhead k (14 * tUs) then s.wrAll F.POD_TIM_STAT_RECAL_DUE 1 (s.recalDue k)
      else s.recalStart k) := by
  have hsome : (s.recalDue k).isEmpty = false := List.isEmpty_eq_false_iff.2 (List.ne_nil_of_mem hdue)
  have go : ¬((s.recalDue k).isEmpty || (match (s.die k).recalEnd with | some t => !reached t s.now | none => false) ||
      !s.dieOk k) = true := by
    simp [hsome, hend, hok]
  exact congrArg Host.Outcome.next (if_neg go)

theorem recalibration_deferred {p : Nat} (hdue : p ∈ s.recalDue k) (hend : (s.die k).recalEnd = none) (hok : s.dieOk k = true)
    (hruns : s.dieRuns k = true) : ∃ t, exec (.recalibration k) s = .next t ∧ t.dies = s.dies ∧
      ∀ p ∈ s.recalDue k, t.rd F.POD_TIM_STAT_RECAL_DUE p = 1 := by
  refine ⟨_, exec_recalibration hdue hend hok, ?_⟩
  rw [if_pos (by rw [hruns]; rfl)]
  exact ⟨State.wrAll_dies .., fun p hp => by rw [State.rd_wrAll, if_pos hp]; rfl⟩

theorem recalibration_begins {p : Nat} (hdue : p ∈ s.recalDue k) (hend : (s.die k).recalEnd = none) (hok : s.dieOk k = true)
    (hruns : s.dieRuns k = false) (hahead : s.runAhead k (14 * tUs) = false) : ∃ t, exec (.recalibration k) s = .next t ∧
      (t.die k).recalTemp = s.dieTemp k ∧ (t.die k).recalEnd = some (after s.now (12 * tUs)) ∧
      ∀ p ∈ podsOfDie k, t.rd F.POD_TIM_STAT_RECAL_DUE p = 0 := by
  refine ⟨_, exec_recalibration hdue hend hok, ?_⟩
  rw [if_neg (by rw [hruns, hahead]; decide), State.recalStart, State.die, State.wrAll_dies]
  change ((s.setDie _ _).die _).recalTemp = _ ∧ ((s.setDie _ _).die _).recalEnd = _ ∧ _
  rw [State.die_setDie]
  exact ⟨rfl, rfl, fun p hp => by rw [State.rd_wrAll, if_pos hp]; rfl⟩

end

/-! #### A calibration begins (R309) -/

/-- An operation that touches no site, no start to come, no measurement, no time and no engine's state keeps the conditions of a
calibration on request. -/
theorem Does.calOk {P R : Nat} {s t : State} (h : Does P R s t) (hnow : P.testBit 1 = false) (hius : P.testBit 6 = false)
    (hsites : P.testBit 21 = false) (hruns : P.testBit 22 = false) (hstate : R.testBit F.ENG_STAT_STATE.reg.ctorIdx = false)
    (k : Nat) : t.calOk k = s.calOk k := by
  have hlead : t.lead = s.lead := funext (State.lead_of (h.siteMap hsites))
  have hrunning : t.running = s.running := funext fun n => by
    simp only [State.running, State.site, State.gstate, h.siteMap hsites, hlead, h.rd F.ENG_STAT_STATE _ _ hstate]
  simp only [State.calOk, State.dieRuns, State.sitesDefined, State.runAhead, h.now hnow, h.ius hius, h.siteMap hsites, h.runs hruns,
    hlead, hrunning]

/-- A pin die calibrates, from a tick on (R309). -/
structure State.CalBegun (s : State) (k : Nat) (at_ : Stamp) : Prop where
  ends : (s.die k).calEnd = some (after at_ calTicks)
  busy : hasBit (s.rd F.IU_CALST_CBUSY) k = true

theorem State.hasBit_calStart (s : State) (j : Nat) {k : Nat} (hk : k < 4) :
    hasBit ((s.calStart j).rd F.IU_CALST_CBUSY) k = (decide (k = j) || hasBit (s.rd F.IU_CALST_CBUSY) k) := by
  rw [State.calStart, State.rd_wr, hasBit_mod_two_pow _ (show k < F.IU_CALST_CBUSY.width from hk), hasBit_withBit_eq]

theorem State.calStart_begins (s : State) (k : DieId) : (s.calStart k).CalBegun k s.now where
  ends := by rw [State.calStart, State.die_wr, State.die_setDie]
  busy := by rw [State.hasBit_calStart s k k.isLt, decide_eq_true rfl, Bool.true_or]

theorem exec_calibration {s : State} {k : DieId} (hauto : s.on F.IU_CAL_AUTO = true)
    (hmoved : movedBy (s.die k).calTemp (s.dieTemp k) (s.rd F.IU_CAL_DT) = true) (hidle : hasBit (s.rd F.IU_CALST_CBUSY) k = false)
    (hok : s.dieOk k = true) : exec (.calibration k) s = .next (
      if s.calOk k then s.calStart k else s.wr F.IU_CALST_DUE (withBit (s.rd F.IU_CALST_DUE) k)) := by
  have go : ¬(!(s.on F.IU_CAL_AUTO && (movedBy (s.die k).calTemp (s.dieTemp k) (s.rd F.IU_CAL_DT) || hasBit (s.rd F.IU_CALST_DUE) k)) ||
      hasBit (s.rd F.IU_CALST_CBUSY) k || !s.dieOk k) = true := by
    simp [hauto, hmoved, hidle, hok]
  exact congrArg Host.Outcome.next (if_neg go)

theorem State.hasBit_rd_withBit (s : State) {f : Fld} {k : Nat} (hk : k < f.width) (v : Nat) :
    hasBit ((s.wr f (withBit v k)).rd f) k = true := by
  rw [State.rd_wr, hasBit_mod_two_pow _ hk, hasBit_withBit]

/-- A request for one die of those that IU_CAL.RUN names. -/
def State.calAsk (s : State) (k : Nat) : State :=
  if hasBit (s.rd F.IU_CALST_CBUSY) k then s else if s.calOk k then s.calStart k else s.wr F.IU_CALST_REFUSED 1

theorem mem_bitsSet {n v b : Nat} (hb : b < n) (h : hasBit v b = true) : b ∈ bitsSet n v :=
  List.mem_filter.2 ⟨List.mem_range.2 hb, h⟩

theorem State.calRun_eq (s : State) (dies : Nat) : s.calRun dies = (bitsSet 4 dies).foldl State.calAsk s := rfl

theorem State.calAsk_does (s : State) (j : Nat) : Does 0x4000 0x40000000000000000000000000000000000 s (s.calAsk j) :=
  Does.ite (fun _ => .refl ..) fun _ => Does.ite (fun _ => State.calStart_does ..) fun _ => .wr _ _ _ _ (by decide) (.refl ..)

theorem State.calOk_calAsk (s : State) (j k : Nat) : (s.calAsk j).calOk k = s.calOk k :=
  (s.calAsk_does j).calOk (by decide) (by decide) (by decide) (by decide) (by decide) k

theorem State.now_calAsk (s : State) (j : Nat) : (s.calAsk j).now = s.now := (s.calAsk_does j).now (by decide)

/-- A request that refuses a die tells so and changes no calibration. -/
theorem State.calAsk_refuses {s : State} {k : Nat} (hidle : hasBit (s.rd F.IU_CALST_CBUSY) k = false) (hok : s.calOk k = false) :
    s.calAsk k = s.wr F.IU_CALST_REFUSED 1 := by
  rw [State.calAsk, hidle, hok]
  rfl

theorem State.calAsk_starts {s : State} {k : Nat} (hidle : hasBit (s.rd F.IU_CALST_CBUSY) k = false) (hok : s.calOk k = true) :
    s.calAsk k = s.calStart k := by
  rw [State.calAsk, hidle, hok]
  rfl

/-- A request leaves a die that it does not name, one that calibrates already, and one that may not calibrate. -/
theorem State.calAsk_leaves {s : State} {j k : Nat} (hk : k < 4)
    (h : j ≠ k ∨ hasBit (s.rd F.IU_CALST_CBUSY) k = true ∨ s.calOk k = false) :
    (s.calAsk j).die k = s.die k ∧ hasBit ((s.calAsk j).rd F.IU_CALST_CBUSY) k = hasBit (s.rd F.IU_CALST_CBUSY) k := by
  unfold State.calAsk
  split
  · exact ⟨rfl, rfl⟩
  · next hidle =>
    split
    · next hok =>
      have hne : k ≠ j := by
        rintro rfl
        exact h.elim (· rfl) (·.elim hidle (Bool.eq_false_iff.1 · hok))
      rw [State.hasBit_calStart s j hk, decide_eq_false hne, State.calStart, State.die_wr, State.die_setDie_ne _ _ _ _ hne]
      exact ⟨rfl, rfl⟩
    · rw [State.die_wr, State.rd_wr_ne _ _ _ _ _ _ (.inr (by decide))]
      exact ⟨rfl, rfl⟩

/-- A refusal shows until software clears it. -/
theorem State.calAsk_keepsRefused {s : State} (j : Nat) (h : s.rd F.IU_CALST_REFUSED = 1) : (s.calAsk j).rd F.IU_CALST_REFUSED = 1 := by
  unfold State.calAsk
  split
  · exact h
  · split
    · rwa [State.calStart, State.rd_wr_ne _ _ _ _ _ _ (.inr (by decide)), State.rd_setDie]
    · exact State.rd_wr ..

section
variable {s : State} {k : DieId} {dies : BitVec 4} (hasked : hasBit dies.toNat k = true) (hidle : hasBit (s.rd F.IU_CALST_CBUSY) k = false)
include hasked hidle

/-- The other dies that are asked for first keep this one idle, and those asked for later leave it calibrating. -/
theorem State.calRun_begins (hok : s.calOk k = true) : (s.calRun dies.toNat).CalBegun k s.now := by
  rw [State.calRun_eq]
  refine fold_reaches_from (I := fun t => t.now = s.now ∧ t.calOk k = true ∧ hasBit (t.rd F.IU_CALST_CBUSY) k = false)
    (P := fun t => t.CalBegun k s.now) (mem_bitsSet k.isLt hasked) (fun t j hj h => ?_) (fun t h => ?_) (fun t j h => ?_) ⟨rfl, hok, hidle⟩
  · obtain ⟨hnow, hok, hidle⟩ := h
    exact ⟨(t.now_calAsk j).trans hnow, (t.calOk_calAsk j k).trans hok, (State.calAsk_leaves k.isLt (.inl hj)).2.trans hidle⟩
  · obtain ⟨hnow, hok, hidle⟩ := h
    rw [State.calAsk_starts hidle hok, ← hnow]
    exact t.calStart_begins k
  · obtain ⟨hdie, hbusy⟩ := State.calAsk_leaves (s := t) (j := j) k.isLt (.inr (.inl h.busy))
    exact ⟨by rw [hdie, h.ends], hbusy.trans h.busy⟩

theorem State.calRun_refuses (hok : s.calOk k = false) : (s.calRun dies.toNat).rd F.IU_CALST_REFUSED = 1 := by
  rw [State.calRun_eq]
  refine fold_reaches_from (I := fun t => t.calOk k = false ∧ hasBit (t.rd F.IU_CALST_CBUSY) k = false)
    (P := fun t => t.rd F.IU_CALST_REFUSED = 1) (mem_bitsSet k.isLt hasked) (fun t j hj h => ?_) (fun t h => ?_)
    (fun _ => State.calAsk_keepsRefused) ⟨hok, hidle⟩
  · obtain ⟨hok, hidle⟩ := h
    exact ⟨(t.calOk_calAsk j k).trans hok, (State.calAsk_leaves k.isLt (.inl hj)).2.trans hidle⟩
  · obtain ⟨hok, hidle⟩ := h
    rw [State.calAsk_refuses hidle hok]
    exact State.rd_wr ..

end

/-- A die that may not calibrate is left, whatever is asked for. -/
theorem State.calRun_die {s : State} {k : DieId} (hok : s.calOk k = false) (dies : Nat) : (s.calRun dies).die k = s.die k := by
  have hkept : (s.calRun dies).calOk k = false ∧ (s.calRun dies).die k = s.die k := by
    rw [State.calRun_eq]
    refine List.foldlRecOn (motive := fun (t : State) => t.calOk k = false ∧ t.die k = s.die k) _ _ ⟨hok, rfl⟩ fun t h j _ => ?_
    obtain ⟨hok, hdie⟩ := h
    exact ⟨(t.calOk_calAsk j k).trans hok, (State.calAsk_leaves k.isLt (.inr (.inr hok))).1.trans hdie⟩
  exact hkept.2

/-! #### A calibration ends (R308, R309) -/

/-- What a pin holds of a calibration that found a residue, and whether every bin was hit (R308). -/
def State.calFound (s : State) (q : Nat) (r : Nat × Bool) : Prop :=
  s.rd F.PIN_TDC_CAL_RESID q = min 65535 r.1 ∧
  if r.1 ≤ 200 ∧ r.2 = true then s.rd F.PIN_TDC_CAL_VALID q = 1 else s.rd F.PIN_TDC_CAL_CALBAD q = 1

theorem State.calFound_of {s t : State} {q : Nat} {r : Nat × Bool}
    (h : ∀ f : Fld, f.reg = .PIN_TDC_CAL → t.rd f q = s.rd f q) : t.calFound q r ↔ s.calFound q r := by
  rw [State.calFound, State.calFound, h _ rfl, h _ rfl, h _ rfl]

theorem State.calPin_found (s : State) (q : Nat) (r : Nat × Bool) : (s.calPin q r.1 r.2).calFound q r := by
  have hresid : min 65535 r.1 % 2 ^ F.PIN_TDC_CAL_RESID.width = min 65535 r.1 := Nat.mod_eq_of_lt (by change _ < 65536; omega)
  unfold State.calPin State.calFound
  extract_lets u
  have hu : u.rd F.PIN_TDC_CAL_RESID q = min 65535 r.1 := (State.rd_wr ..).trans hresid
  split
  · exact ⟨(State.rd_wr_ne _ _ _ _ _ _ (.inr (by decide))).trans hu, State.rd_wr ..⟩
  · simp (disch := decide) only [State.rd_wr_ne]
    exact ⟨hu, State.rd_wr ..⟩

theorem State.rd_calPin_other (s : State) {p q : Nat} (h : q ≠ p) (resid : Nat) (full : Bool) {f : Fld} (hf : f.reg = .PIN_TDC_CAL) :
    (s.calPin p resid full).rd f q = s.rd f q := by
  unfold State.calPin
  extract_lets u
  have hu : u.rd f q = s.rd f q := State.rd_wr_other _ _ _ _ _ _ _ _ (.inl h)
  split
  · rw [State.rd_wr_other _ _ _ _ _ _ _ _ (.inl h), hu]
  · rw [State.rd_wr_ne _ _ _ _ _ _ (.inl (by rw [hf]; decide)), State.rd_wr_other _ _ _ _ _ _ _ _ (.inl h), hu]

theorem State.cbusy_calPin (s : State) (q resid : Nat) (full : Bool) :
    (s.calPin q resid full).rd F.IU_CALST_CBUSY = s.rd F.IU_CALST_CBUSY := by
  unfold State.calPin
  split <;> simp (disch := decide) only [State.rd_wr_ne]

/-- The end of a calibration is no longer due, and its die neither calibrates nor is deferred (R309). -/
def State.calLeave (s : State) (k : Nat) : State :=
  let s := s.setDie k { s.die k with calEnd := none }
  (s.wr F.IU_CALST_CBUSY (withoutBit (s.rd F.IU_CALST_CBUSY) k)).wr F.IU_CALST_DUE (withoutBit (s.rd F.IU_CALST_DUE) k)

/-- Each pin of a die takes what the random edges gave of it (R308). -/
def State.calPins (s : State) (k : Nat) (resid : List (Nat × Bool)) : State :=
  (List.range 256).foldl (fun s i => let r := resid.getD i (0, false); s.calPin (256 * k + i) r.1 r.2) s

theorem State.calPins_found (s : State) (k : Nat) (resid : List (Nat × Bool)) {i : Nat} (hi : i < 256) :
    (s.calPins k resid).calFound (256 * k + i) (resid.getD i (0, false)) :=
  fold_reaches (P := fun t => t.calFound (256 * k + i) (resid.getD i (0, false))) (List.mem_range.2 hi)
    (fun t => t.calPin_found _ _)
    (fun t j _ hj => (State.calFound_of fun _ => t.rd_calPin_other (by omega) _ _).2) s

theorem State.calLeave_idle (s : State) (k : DieId) :
    ((s.calLeave k).die k).calEnd = none ∧ hasBit ((s.calLeave k).rd F.IU_CALST_CBUSY) k = false := by
  have hk : k.val < F.IU_CALST_CBUSY.width := k.isLt
  constructor
  · rw [State.calLeave, State.die_wr, State.die_wr, State.die_setDie]
  · rw [State.calLeave, State.rd_wr_ne _ _ _ _ _ _ (.inr (by decide)), State.rd_wr, hasBit_mod_two_pow _ hk, hasBit_withoutBit_eq,
      decide_eq_true rfl]
    rfl

/-- The worst residue is noted, a bad pin is a fault of its die, and the measurements that waited go on (R308, R309). -/
def State.calClose (s : State) (k : Nat) (resid : List (Nat × Bool)) : State :=
  let worst := (List.range 1024).foldl (fun m q => max m (s.rd F.PIN_TDC_CAL_RESID q)) 0
  let s := s.wr F.IU_CALST_WORST worst
  let bad := (List.range 256).any (fun i => let r := resid.getD i (0, false); !(decide (r.1 ≤ 200) && r.2))
  let s := if bad then s.detect (128 + 64 * k + 5) k 0 else s
  { s with ius := s.ius.map (fun (e : Nat × IuX) =>
      let u := e.2
      if u.waitCal && !(s.srcCal u.startSrc || s.srcCal u.stopSrc) then (e.1, { u with waitCal := false, begT := s.now }) else e) }

theorem State.rd_calClose (s : State) (k : Nat) (resid : List (Nat × Bool)) {f : Fld} (i : Nat)
    (h : F.IU_CALST_WORST.reg ≠ f.reg ∨ F.IU_CALST_WORST.lo ≠ f.lo) : (s.calClose k resid).rd f i = s.rd f i := by
  unfold State.calClose
  extract_lets worst u bad v
  clear_value worst bad
  have hv : v.rd f i = u.rd f i := by
    unfold v
    split <;> rfl
  exact hv.trans (State.rd_wr_ne _ _ _ _ _ _ h)

theorem State.calClose_dies (s : State) (k : Nat) (resid : List (Nat × Bool)) : (s.calClose k resid).dies = s.dies := by
  unfold State.calClose
  extract_lets worst u bad v
  clear_value worst bad
  change v.dies = s.dies
  unfold v
  split <;> rfl

theorem exec_calibrationEnd {s : State} {k : DieId} {t0 : Stamp} (resid : List (Nat × Bool)) (hend : (s.die k).calEnd = some t0)
    (ht : reached t0 s.now = true) :
    exec (.calibrationEnd k resid) s = .next (((s.calLeave k).calPins k resid).calClose k resid) := by
  change execCalibrationEnd k resid s = _
  unfold execCalibrationEnd
  simp only [hend, ht, Bool.true_eq_false, if_false]
  rfl

theorem calibrationEnd_shows {s : State} {k : DieId} {t0 : Stamp} (resid : List (Nat × Bool)) (hend : (s.die k).calEnd = some t0)
    (ht : reached t0 s.now = true) : ∃ t, exec (.calibrationEnd k resid) s = .next t ∧ (t.die k).calEnd = none ∧
      hasBit (t.rd F.IU_CALST_CBUSY) k = false ∧ ∀ i, i < 256 → t.calFound (256 * k + i) (resid.getD i (0, false)) := by
  obtain ⟨hleft, hidle⟩ := s.calLeave_idle k
  have hbusy : ((s.calLeave k).calPins k resid).rd F.IU_CALST_CBUSY = (s.calLeave k).rd F.IU_CALST_CBUSY :=
    fold_keeps _ (State.rd · F.IU_CALST_CBUSY) (fun t _ => t.cbusy_calPin _ _ _) _ _
  have hdies : ((s.calLeave k).calPins k resid).dies = (s.calLeave k).dies :=
    (Does.each (fun t _ => t.calPin_does _ _ _) _ _).dies (by decide)
  refine ⟨_, exec_calibrationEnd resid hend ht, ?_, ?_, fun i hi => ?_⟩
  · rwa [State.die, State.calClose_dies, hdies]
  · rwa [State.rd_calClose _ _ _ _ (.inr (by decide)), hbusy]
  · exact (State.calFound_of fun f hf => State.rd_calClose _ _ _ _ (.inl (by rw [hf]; decide))).2 (State.calPins_found _ _ _ hi)

/-! #### The eye measurement (R119, R120, R508) -/

section
variable {s : State} {p : PodId}

theorem eyeRun_ofSafe (hsafe : s.safe = true) : ∃ t, exec (.eyeRun p) s = .next t ∧ t.rd F.FLT_STAT_SAFEWR = 1 ∧ t.pods = s.pods :=
  ⟨_, congrArg Host.Outcome.next (if_pos hsafe), State.rd_wr .., rfl⟩

theorem eyeRun_ofRunning (hsafe : s.safe = false) (hruns : s.podRuns p = true) :
    ∃ t, exec (.eyeRun p) s = .next t ∧ t.rd F.PIN_FLAG_CFG_BUSY (4 * p) = 1 ∧ t.pods = s.pods :=
  ⟨_, congrArg Host.Outcome.next ((if_neg (Bool.eq_false_iff.1 hsafe)).trans (if_pos hruns)), State.rd_wr .., rfl⟩

/-- The pins of a pod that an eye measurement drives (R119). -/
def State.eyeDriven (s : State) (p : Nat) : List Nat := (pinsOfPod p).filter (fun q => s.on F.PIN_CFG_USE q && s.on F.PIN_CFG_DRV_EN q)

/-- The sweep of a pod begins: 0.5 ms (R119). -/
def State.eyeStart (s : State) (p : Nat) : State :=
  (s.setPod p { s.pod p with eyeEnd := some (after s.now 750000), eyePins := s.eyeDriven p }).wr F.POD_TIM_STAT_EYE_BUSY 1 p

theorem exec_eyeRun (hsafe : s.safe = false) (hruns : s.podRuns p = false) (hidle : s.on F.POD_TIM_STAT_EYE_BUSY p = false) :
    exec (.eyeRun p) s = .next (s.eyeStart p) :=
  congrArg Host.Outcome.next ((if_neg (Bool.eq_false_iff.1 hsafe)).trans ((if_neg (Bool.eq_false_iff.1 hruns)).trans
    (if_neg (Bool.eq_false_iff.1 hidle))))

theorem State.eyeStart_shows (s : State) (p : Nat) : (s.eyeStart p).on F.POD_TIM_STAT_EYE_BUSY p = true ∧
    ((s.eyeStart p).pod p).eyeEnd = some (after s.now 750000) ∧ ((s.eyeStart p).pod p).eyePins = s.eyeDriven p := by
  rw [State.eyeStart, State.pod_wr, State.pod_setPod]
  exact ⟨State.on_wr_one _ _ _ (by decide), rfl, rfl⟩

end

/-- The width an eye measurement gives pin i of a pod: 0 where it did not drive it. -/
def eyeWidth (pins : List Nat) (p : Nat) (widths : List Nat) (i : Nat) : Nat :=
  if pins.contains (4 * p + i) then min 65535 (widths.getD i 0) else 0

theorem eyeWidth_lt (pins : List Nat) (p : Nat) (widths : List Nat) (i : Nat) : eyeWidth pins p widths i < 65536 := by
  unfold eyeWidth
  split <;> omega

/-- Pin i of a pod takes its width, and the pod is marked where that is well below the factory's (R119). -/
def State.takeEye (s : State) (pins : List Nat) (p : Nat) (widths : List Nat) (i : Nat) : State :=
  let u := s.wr F.POD_TIM_EYE_EYE_M (eyeWidth pins p widths i) p i
  if pins.contains (4 * p + i) && decide (eyeWidth pins p widths i + 20 < (Config.otpEye (4 * p + i)).toNat) then
    u.wr F.POD_TIM_STAT_EYE_LOW 1 p
  else u

/-- Of the fields other than EYE_LOW only the width of the pin changes. -/
theorem State.rd_takeEye (s : State) (pins : List Nat) (p : Nat) (widths : List Nat) (i : Nat) {f : Fld} (j k : Nat)
    (h : F.POD_TIM_STAT_EYE_LOW.reg ≠ f.reg ∨ F.POD_TIM_STAT_EYE_LOW.lo ≠ f.lo) :
    (s.takeEye pins p widths i).rd f j k = (s.wr F.POD_TIM_EYE_EYE_M (eyeWidth pins p widths i) p i).rd f j k := by
  unfold State.takeEye
  extract_lets u
  split
  · exact State.rd_wr_ne _ _ _ _ _ _ h
  · rfl

/-- The sweep of a pod has ended. -/
def State.eyeEnded (s : State) (p : Nat) : State :=
  (s.setPod p { s.pod p with eyeEnd := none, eyePins := [] }).wr F.POD_TIM_STAT_EYE_BUSY 0 p

theorem exec_eyeDone {s : State} {p : PodId} {t0 : Stamp} (widths : List Nat) (hend : (s.pod p).eyeEnd = some t0)
    (ht : reached t0 s.now = true) : exec (.eyeDone p widths) s = .next ((List.range 4).foldl
      (fun t i => t.takeEye (s.pod p).eyePins p widths i) (s.eyeEnded p)) := by
  change execEyeDone p widths s = _
  unfold execEyeDone
  simp only [hend, ht, Bool.true_eq_false, if_false]
  rfl

theorem eyeDone_shows {s : State} {p : PodId} {t0 : Stamp} (widths : List Nat) (hend : (s.pod p).eyeEnd = some t0)
    (ht : reached t0 s.now = true) : ∃ t, exec (.eyeDone p widths) s = .next t ∧ t.on F.POD_TIM_STAT_EYE_BUSY p = false ∧
      ∀ i, i < 4 → t.rd F.POD_TIM_EYE_EYE_M p i = eyeWidth (s.pod p).eyePins p widths i := by
  refine ⟨_, exec_eyeDone widths hend ht, ?_, fun i hi => ?_⟩
  · have hbusy := fold_keeps (fun t i => t.takeEye (s.pod p).eyePins p widths i) (State.rd · F.POD_TIM_STAT_EYE_BUSY p)
      (fun t i => (t.rd_takeEye _ _ _ i p 0 (.inr (by decide))).trans (State.rd_wr_ne _ _ _ _ _ _ (.inl (by decide)))) (List.range 4)
      (s.eyeEnded p)
    rw [State.on, hbusy, State.eyeEnded, State.rd_wr]
    rfl
  · refine fold_reaches (P := fun t => t.rd F.POD_TIM_EYE_EYE_M p i = eyeWidth (s.pod p).eyePins p widths i) (List.mem_range.2 hi)
      (fun t => ?_) (fun t j _ hj h => ?_) _
    · rw [State.rd_takeEye _ _ _ _ _ _ _ (.inl (by decide)), State.rd_wr]
      exact Nat.mod_eq_of_lt (eyeWidth_lt ..)
    · rw [State.rd_takeEye _ _ _ _ _ _ _ (.inl (by decide)), State.rd_wr_inst _ _ _ _ _ _ _ (.inr (Ne.symm hj)), h]

/-- Settles O36: each of the three by the command that begins it and the one that ends it. -/
theorem calibrationAndEyes : Obligations.CalibrationAndEyes := by
  unfold Obligations.CalibrationAndEyes
  intro s k p
  refine ⟨?recalibration, ?automatic, ?asked, fun resid t0 => calibrationEnd_shows resid, eyeRun_ofSafe, ?eye,
    fun widths t0 => eyeDone_shows widths⟩
  case recalibration =>
    rintro ⟨i, hi, hauto, hmoved⟩ hend hok
    have hdue := State.mem_recalDue hi hauto hmoved
    refine ⟨fun hruns => ?_, fun hruns hahead => ?_⟩
    · obtain ⟨t, ht, hdies, hmarked⟩ := recalibration_deferred hdue hend hok hruns
      exact ⟨t, ht, hdies, fun j hj ha hm => hmarked _ (State.mem_recalDue hj ha hm)⟩
    · obtain ⟨t, ht, htemp, hends, hclear⟩ := recalibration_begins hdue hend hok hruns hahead
      exact ⟨t, ht, htemp, hends, fun j hj => hclear _ (mem_podsOfDie hj)⟩
  case automatic =>
    intro hauto hmoved hidle hok
    rw [exec_calibration hauto hmoved hidle hok]
    refine ⟨fun hcal => ⟨_, rfl, ?_⟩, fun hcal => ⟨_, rfl, ?_⟩⟩
    · rw [if_pos hcal]
      have hbegun := s.calStart_begins k
      exact ⟨hbegun.ends, hbegun.busy⟩
    · rw [if_neg (Bool.eq_false_iff.1 hcal)]
      exact ⟨rfl, s.hasBit_rd_withBit k.isLt _⟩
  case asked =>
    intro dies hasked hidle
    refine ⟨fun hcal => ⟨_, rfl, ?_⟩, fun hcal => ⟨_, rfl, State.calRun_die hcal _, State.calRun_refuses hasked hidle hcal⟩⟩
    have hbegun := State.calRun_begins hasked hidle hcal
    exact ⟨hbegun.ends, hbegun.busy⟩
  case eye =>
    exact fun hsafe => ⟨eyeRun_ofRunning hsafe, fun hruns hidle => ⟨_, exec_eyeRun hsafe hruns hidle, s.eyeStart_shows p⟩⟩

end Sys2Proof.Machine
end

/-! ### Scope: the dispatch of a program word -/

section
namespace Sys2Proof.Machine

open Sys2Proof

/-- The word that a path of a site stands at, as its dispatch carries it out. -/
abbrev State.wordCtx (s : State) (n : Nat) (p : Path) (th : Thread) (ws : List (Nat × Nat)) : Ctx :=
  ⟨n, p, th.pc, (s.gang n).seqNext, ws⟩

@[simp] theorem Ctx.w_eq_firstWord (n : Nat) (p : Path) (a : PAddr) (q : Nat) (ws : List (Nat × Nat)) :
    (Ctx.mk n p a q ws).w = firstWord ws := rfl

/-- What a word's effect may have done to the state before the word is done: no error is held, the path is still there, and the next
dispatch falls in the tick in which it fell before (R132, R194). -/
structure MidWord (s u : State) (n : Nat) (p : Path) : Prop where
  now : u.now = s.now
  siteMap : u.siteMap = s.siteMap
  compat : ∀ i, u.rd F.ENG_UCTL_COMPAT i = s.rd F.ENG_UCTL_COMPAT i
  startT : (u.gang n).startT = (s.gang n).startT
  held : (u.gang n).held = none
  path : ((u.gang n).thread p).isSome = true

theorem Ready.midWord {s : State} {n : Nat} {p : Path} {compat : Bool} {th : Thread} {ws : List (Nat × Nat)}
    (h : Ready s n p compat th ws) : MidWord s s n p :=
  ⟨rfl, rfl, fun _ => rfl, rfl, h.held, by rw [h.path]; rfl⟩

/-- An operation that touches neither time nor the site map nor the mode, and leaves the path in a gang without errors. -/
theorem MidWord.does {s u v : State} {n : Nat} {p : Path} {P R : Nat} (h : MidWord s u n p) (d : Does P R u v)
    (hnow : P.testBit 1 = false) (hmap : P.testBit 21 = false) (hmode : R.testBit F.ENG_UCTL_COMPAT.reg.ctorIdx = false)
    (hstart : (v.gang n).startT = (u.gang n).startT) (hheld : (v.gang n).held = (u.gang n).held)
    (hpath : ((v.gang n).thread p).isSome = ((u.gang n).thread p).isSome) : MidWord s v n p :=
  ⟨(d.now hnow).trans h.now, (d.siteMap hmap).trans h.siteMap, fun i => (d.rd _ i 0 hmode).trans (h.compat i),
    hstart.trans h.startT, hheld.trans h.held, hpath.trans h.path⟩

/-- A gang put back with its start, without errors, and with the path. -/
theorem MidWord.setGang {s u : State} {n : Nat} {p : Path} (h : MidWord s u n p) (g : Gang)
    (hstart : g.startT = (u.gang n).startT) (hheld : g.held = (u.gang n).held)
    (hpath : (g.thread p).isSome = ((u.gang n).thread p).isSome) : MidWord s (u.setGang n g) n p :=
  h.does (State.setGang_does u n g) (by decide) (by decide) (by decide) (by rwa [State.gang_setGang]) (by rwa [State.gang_setGang])
    (by rwa [State.gang_setGang])

theorem MidWord.nextDispatch {s u : State} {n : Nat} {p : Path} (h : MidWord s u n p) (cost : Nat) :
    u.nextDispatch n cost = s.nextDispatch n cost := by
  have hmode : u.on F.ENG_UCTL_COMPAT (u.lead n) = s.on F.ENG_UCTL_COMPAT (s.lead n) := by
    rw [State.lead_of h.siteMap]
    exact congrArg (· == 1) (h.compat _)
  simp only [State.nextDispatch, State.slotted, hmode, h.startT, h.now]

/-- The thread of a word that is done does not depend on what its effect has done before. -/
theorem MidWord.doneThread {s u : State} {c : Ctx} {p : Path} (h : MidWord s u c.n p) (th : Thread) (cost : Nat) :
    u.doneThread c th cost = s.doneThread c th cost := by
  simp only [State.doneThread, h.nextDispatch, h.now]

/-- The path of a word that is done goes on with the thread given. -/
theorem MidWord.done_thread {s u : State} {n : Nat} {p : Path} (h : MidWord s u n p) (ws : List (Nat × Nat))
    (th th' : Thread) (cost : Nat) :
    ((u.done (s.wordCtx n p th ws) th' cost).gang n).thread p = some (s.wentOn n p ws th th' cost) :=
  (State.done_thread u (s.wordCtx n p th ws) th' cost h.held h.path).trans
    (congrArg some (MidWord.doneThread (c := s.wordCtx n p th ws) h th' cost))

/-- A native word whose path is ready is carried out by its effect. -/
theorem Ready.dispatched {s : State} {n : Nat} {p : Path} {th : Thread} {ws : List (Nat × Nat)} (h : Ready s n p false th ws) {op : Nat}
    (ho : opOf (firstWord ws) = op) (act : Ctx → Thread → State → State) :
    (.next (s.dispatchOp n p op act) : Out) = .next (act (s.wordCtx n p th ws) th s) :=
  congrArg Host.Outcome.next (State.dispatchOp_ready h act ho)

theorem popLoops_of_le {th : Thread} {k : Nat} (h : k ≤ th.loops.length) : th.popLoops k = some { th with loops := th.loops.drop k } :=
  if_pos h

theorem popLoops_of_lt {th : Thread} {k : Nat} (h : th.loops.length < k) : th.popLoops k = none :=
  if_neg (Nat.not_le.2 h)

/-- The only error of an address gone back to is BADADDR (R123). -/
theorem State.backTarget_error {s : State} {n : Nat} {a : PAddr} {x : Nat × Nat} (h : s.backTarget n a = .error x) : x.1 = erBadAddr := by
  unfold State.backTarget at h
  split at h
  · exact (congrArg Prod.fst (Except.error.inj h)).symm
  · exact nomatch h

/-- An engine error of the main path's word is held, or has halted the gang (R161). -/
theorem Ready.error_erred {s : State} {n : Nat} {compat : Bool} {th : Thread} {ws : List (Nat × Nat)}
    (h : Ready s n .main compat th ws) {code : Nat} (hc : code < 64) (pod : Nat) (more : List Nat := []) :
    ((s.wordCtx n .main th ws).error code pod s more).erred n code :=
  State.engineErr_erred h.held code _ _ pod more hc

/-! #### Loops (R141) -/

section
variable {s : State} {n : Nat} {p : Path} {compat : Bool} {th : Thread} {ws : List (Nat × Nat)}

/-- A LOOP with an entry free pushes its loop, and its path goes on behind it. -/
theorem Ready.loop_pushes (h : Ready s n p compat th ws) (hl : th.loops.length < 4) :
    ((loopEffect (s.wordCtx n p th ws) th s).gang n).thread p = some (s.wentOn n p ws th { th with
      pc := th.pc.succ
      loops := ⟨th.pc.succ, bits (firstWord ws) 55 32, th.calls.length⟩ :: th.loops } 1) := by
  rw [loopEffect, if_neg (Nat.not_le.2 hl)]
  exact h.midWord.done_thread ..

/-- An ENDL whose loop is exhausted pops it; another one repeats it where the loop's address can be gone back to. -/
theorem Ready.endl_repeats (h : Ready s n p compat th ws) {e : LoopEntry} {rest : List LoopEntry} (he : th.loops = e :: rest)
    (hback : e.count ≠ 0 → s.backTarget n e.addr = .ok e.addr) :
    ((endlEffect (s.wordCtx n p th ws) th s).gang n).thread p = some (s.wentOn n p ws th
      (if e.count = 0 then { th with pc := th.pc.succ, loops := rest }
        else { th with pc := e.addr, loops := { e with count := e.count - 1 } :: rest }) 1) := by
  by_cases hz : e.count = 0
  · simp only [endlEffect, he, if_pos hz]
    exact h.midWord.done_thread ..
  · simp only [endlEffect, he, if_neg hz, hback hz]
    exact h.midWord.done_thread ..

end

/-- Settles O7: LOOP pushes or overflows, ENDL repeats, pops, or errs on its address or for want of an entry. -/
theorem loopsNest : Obligations.LoopsNest := by
  unfold Obligations.LoopsNest
  intro s n p th ws h
  have hloop (ho : opOf (firstWord ws) = opLoop) : exec (.loop n p) s = .next (loopEffect (s.wordCtx n p th ws) th s) :=
    h.dispatched ho loopEffect
  have hendl (ho : opOf (firstWord ws) = opEndl) : exec (.endl n p) s = .next (endlEffect (s.wordCtx n p th ws) th s) :=
    h.dispatched ho endlEffect
  refine ⟨fun ho hl => ⟨_, hloop ho, h.loop_pushes hl⟩, fun ho hl hp => ⟨_, hloop ho, ?_⟩,
    fun ho e rest he hback => ⟨_, hendl ho, h.endl_repeats he hback⟩, fun ho e rest x he hz hx hp => ⟨_, hendl ho, ?_⟩,
    fun ho he hp => ⟨_, hendl ho, ?_⟩⟩
  all_goals subst hp
  · rw [loopEffect, if_pos hl]
    exact h.error_erred (by decide) _
  · simp only [endlEffect, he, if_neg hz, hx, State.backTarget_error hx]
    exact h.error_erred (by decide) _
  · simp only [endlEffect, he]
    exact h.error_erred (by decide) _

/-! #### Calls and jumps (R142, R143) -/

/-- RET goes back to the popped address where the top loop was not pushed at the present depth. -/
theorem retEffect_returns {c : Ctx} {th : Thread} {s : State} {a b : PAddr} {rest : List PAddr} (ha : th.calls = a :: rest)
    (hd : ∀ e ∈ th.loops.head?, e.depth ≠ th.calls.length) (hb : s.backTarget c.n a = .ok b) :
    retEffect c th s = s.done c { th with pc := b, calls := rest } 2 := by
  cases hl : th.loops with
  | nil => simp only [retEffect, ha, hl, hb, Bool.false_eq_true, if_false]
  | cons e t =>
    have he : (e.depth == (a :: rest).length) = false := beq_false_of_ne (ha ▸ hd e (by rw [hl]; rfl))
    simp only [retEffect, ha, hl, he, hb, Bool.false_eq_true, if_false]

/-- RET with the top loop pushed at the present depth is error LOOP_RET. -/
theorem retEffect_loopRet {c : Ctx} {th : Thread} {s : State} {a : PAddr} {rest : List PAddr} (ha : th.calls = a :: rest)
    (hd : ∃ e ∈ th.loops.head?, e.depth = th.calls.length) : retEffect c th s = c.error erLoopRet (s.lead c.n) s := by
  obtain ⟨e, he, hd⟩ := hd
  cases hl : th.loops with
  | nil => simp [hl] at he
  | cons f t =>
    obtain rfl : f = e := by simpa [hl] using he
    have hd : (f.depth == (a :: rest).length) = true := beq_iff_eq.2 (ha ▸ hd)
    simp only [retEffect, ha, hl, hd, if_true]

/-- JMP with enough loops open pops them and goes to its target. -/
theorem jmpEffect_jumps {c : Ctx} {th : Thread} {s : State} {b : PAddr} (hl : bits c.w 57 56 ≤ th.loops.length)
    (hb : s.target c.n th c.a (targetOf c.w) true = .ok b) :
    jmpEffect c th s = s.done c { th with pc := b, loops := th.loops.drop (bits c.w 57 56) } 1 := by
  have ht : s.target c.n { th with loops := th.loops.drop (bits c.w 57 56) } c.a (targetOf c.w) true = .ok b := hb
  simp only [jmpEffect, popLoops_of_le hl, ht]

/-- Settles O8: CALL and RET by the depth of the call stack and of the top loop, JMP by the loops that it pops. -/
theorem callsAndJumps : Obligations.CallsAndJumps := by
  unfold Obligations.CallsAndJumps
  intro s n p th ws h
  have hcall (ho : opOf (firstWord ws) = opCall) : exec (.call n p) s = .next (callEffect (s.wordCtx n p th ws) th s) :=
    h.dispatched ho callEffect
  have hret (ho : opOf (firstWord ws) = opRet) : exec (.ret n p) s = .next (retEffect (s.wordCtx n p th ws) th s) :=
    h.dispatched ho retEffect
  have hjmp (ho : opOf (firstWord ws) = opJmp) : exec (.jmp n p) s = .next (jmpEffect (s.wordCtx n p th ws) th s) :=
    h.dispatched ho jmpEffect
  refine ⟨fun ho hl b hb => ⟨_, hcall ho, ?_⟩, fun ho hl hp => ⟨_, hcall ho, ?_⟩, fun ho a rest ha hb hd => ⟨_, hret ho, ?_⟩,
    fun ho ha hp => ⟨_, hret ho, ?_⟩, fun ho a rest ha hd hp => ⟨_, hret ho, ?_⟩, fun ho hl b hb => ⟨_, hjmp ho, ?_⟩,
    fun ho hl hp => ⟨_, hjmp ho, ?_⟩⟩
  · simp only [callEffect, if_neg (Nat.not_le.2 hl), Ctx.w_eq_firstWord, hb]
    exact h.midWord.done_thread ..
  · subst hp
    rw [callEffect, if_pos hl]
    exact h.error_erred (by decide) _
  · rw [retEffect_returns (c := s.wordCtx n p th ws) ha hd hb]
    exact h.midWord.done_thread ..
  · subst hp
    simp only [retEffect, ha]
    exact h.error_erred (by decide) _
  · subst hp
    rw [retEffect_loopRet ha hd]
    exact h.error_erred (by decide) _
  · rw [jmpEffect_jumps (c := s.wordCtx n p th ws) hl hb]
    exact h.midWord.done_thread ..
  · subst hp
    simp only [jmpEffect, Ctx.w_eq_firstWord, popLoops_of_lt hl]
    exact h.error_erred (by decide) _


/-! #### What a word that is done leaves of its path's queues -/

/-- A sprout that there is stays as the word leaves it. -/
theorem State.done_sprout {s : State} {c : Ctx} {th : Thread} {cost : Nat} (hh : (s.gang c.n).held = none)
    (hs : (s.doneGang c th cost).sprout.isSome = true) :
    ((s.done c th cost).gang c.n).sprout = (s.doneGang c th cost).sprout := by
  obtain ⟨g, sp, u, hf, hg, hsp⟩ := State.done_gang s c th cost hh
  have hgs : g.sprout = (s.doneGang c th cost).sprout := hf.sprout
  rw [hg]
  exact (hsp (hgs ▸ hs)).trans hgs

/-- A word of the sprout that is done leaves the sprout its queues. -/
theorem State.done_sproutPath {s : State} {c : Ctx} (th : Thread) (cost : Nat) (hh : (s.gang c.n).held = none) (hp : c.p = .sprout)
    {x : Sprout} (hx : (s.gang c.n).sprout = some x) :
    ((s.done c th cost).gang c.n).sprout = some { x with th := s.doneThread c th cost } := by
  have hsp : (s.doneGang c th cost).sprout = some { x with th := s.doneThread c th cost } := by
    simp only [State.doneGang, hp, Gang.setThread, hx, Option.map_some]
  rw [State.done_sprout hh (hsp ▸ rfl), hsp]

theorem Gang.exists_sprout {g : Gang} (h : (g.thread .sprout).isSome = true) : ∃ x, g.sprout = some x :=
  Option.isSome_iff_exists.1 (Option.isSome_map .. ▸ h)

/-- A word that is done leaves its path's output queue as its effect left it. -/
theorem MidWord.done_queue {s u : State} {n : Nat} {p : Path} (h : MidWord s u n p) (ws : List (Nat × Nat)) (th th' : Thread) (cost : Nat) :
    ((u.done (s.wordCtx n p th ws) th' cost).gang n).queue p = (u.gang n).queue p := by
  cases p with
  | main =>
    obtain ⟨g, sp, v, hf, hg, -⟩ := State.done_gang u (s.wordCtx n .main th ws) th' cost h.held
    rw [hg]
    exact hf.oq
  | sprout =>
    obtain ⟨x, hx⟩ := Gang.exists_sprout h.path
    have ht := State.done_sproutPath (c := s.wordCtx n .sprout th ws) th' cost h.held rfl hx
    simp only [Gang.queue, ht, hx]

/-- A word that is done leaves its path's side effects as its effect left them. -/
theorem MidWord.done_effsOf {s u : State} {n : Nat} {p : Path} (h : MidWord s u n p) (ws : List (Nat × Nat))
    (th th' : Thread) (cost : Nat) :
    ((u.done (s.wordCtx n p th ws) th' cost).gang n).effsOf p = (u.gang n).effsOf p := by
  cases p with
  | main =>
    obtain ⟨g, sp, v, hf, hg, -⟩ := State.done_gang u (s.wordCtx n .main th ws) th' cost h.held
    rw [hg]
    exact hf.effs
  | sprout =>
    obtain ⟨x, hx⟩ := Gang.exists_sprout h.path
    have ht := State.done_sproutPath (c := s.wordCtx n .sprout th ws) th' cost h.held rfl hx
    simp only [Gang.effsOf, ht, hx]

@[simp] theorem Gang.thread_setQueue_isSome (g : Gang) (p : Path) (q : List OqEntry) :
    ((g.setQueue p q).thread p).isSome = (g.thread p).isSome := by
  cases p <;> simp [Gang.setQueue, Gang.thread]

/-- The queue of a path that there is takes the entries given. -/
theorem Gang.queue_setQueue {g : Gang} {p : Path} (h : (g.thread p).isSome = true) (q : List OqEntry) : (g.setQueue p q).queue p = q := by
  cases p with
  | main => rfl
  | sprout =>
    obtain ⟨x, hx⟩ := Gang.exists_sprout h
    simp only [Gang.setQueue, Gang.queue, hx, Option.map_some]

@[simp] theorem Gang.setQueue_startT (g : Gang) (p : Path) (q : List OqEntry) : (g.setQueue p q).startT = g.startT := by cases p <;> rfl
@[simp] theorem Gang.setQueue_held (g : Gang) (p : Path) (q : List OqEntry) : (g.setQueue p q).held = g.held := by cases p <;> rfl

/-! #### Vectors (R140) -/

/-- A VEC with its timing set loaded and room in its path's queue joins the queue's end. -/
theorem Ready.vec_queues {s : State} {n : Nat} {p : Path} {compat : Bool} {th : Thread}
    {ws : List (Nat × Nat)} (h : Ready s n p compat th ws)
    (hv : s.vecErr n (vwTset (firstWord ws)) = none) (hr : s.oqRoom n p = true) :
    ((vecEffect (s.wordCtx n p th ws) th s).gang n).thread p = some (s.wentOn n p ws th { th with pc := th.pc.succ } 1) ∧
      ((vecEffect (s.wordCtx n p th ws) th s).gang n).queue p = (s.gang n).queue p ++ [⟨(s.gang n).seqNext, 0,
        ws.map (fun x => (x.1, x.2 % 2 ^ 32)), bits (firstWord ws) 47 32 + 1, s.now⟩] := by
  have hset := h.midWord.setGang ((s.gang n).setQueue p ((s.gang n).queue p ++ [⟨(s.gang n).seqNext, 0,
    ws.map (fun x => (x.1, x.2 % 2 ^ 32)), bits (firstWord ws) 47 32 + 1, s.now⟩])) (by simp) (by simp) (by simp)
  simp only [vecEffect, Ctx.w_eq_firstWord, hv, hr, Bool.true_eq_false, if_false]
  refine ⟨hset.done_thread .., (hset.done_queue ..).trans ?_⟩
  rw [State.gang_setGang]
  exact Gang.queue_setQueue h.midWord.path _

/-- Settles O9: a VEC, native or expanded, joins its path's queue, or the main path stalls before a full one. -/
theorem vectorsQueue : Obligations.VectorsQueue := by
  unfold Obligations.VectorsQueue
  intro s n p th ws compat h ho hv
  have hvec : exec (if compat then .shortWord n p else .vec n p) s = .next (vecEffect (s.wordCtx n p th ws) th s) := by
    cases compat with
    | true =>
      refine congrArg Host.Outcome.next ((State.dispatch_ready h _ wordEffect rfl).trans ?_)
      simp only [wordEffect, Ctx.w_eq_firstWord, ho, if_true]
    | false => exact h.dispatched ho vecEffect
  refine ⟨fun hr => ⟨_, hvec, h.vec_queues hv hr⟩, fun hr hp => ⟨_, hvec, ?_⟩⟩
  subst hp
  simp only [vecEffect, Ctx.w_eq_firstWord, hv, hr, if_true, State.oqFull]
  refine ⟨State.stall_gang .., fun q hq => ?_⟩
  rw [State.stall, State.rd_wrAll, if_pos hq]
  rfl

/-! #### MATCH (R146) -/

@[simp] theorem Gang.post_startT (g : Gang) (p : Path) (es : List SebEntry) : (g.post p es).startT = g.startT := by cases p <;> rfl
@[simp] theorem Gang.post_held (g : Gang) (p : Path) (es : List SebEntry) : (g.post p es).held = g.held := by cases p <;> rfl
@[simp] theorem Gang.thread_post_isSome (g : Gang) (p : Path) (es : List SebEntry) :
    ((g.post p es).thread p).isSome = (g.thread p).isSome := by
  cases p <;> simp [Gang.post, Gang.thread]

/-- A MATCH that ends at its dispatch leaves its loop. -/
theorem Ready.matchEnds_leaves {s : State} {n : Nat} {p : Path} {compat : Bool} {th : Thread} {ws : List (Nat × Nat)}
    (h : Ready s n p compat th ws) (exh failto show_ : Bool) :
    ((s.matchEnds (s.wordCtx n p th ws) th exh failto show_).gang n).thread p =
      some (s.wentOn n p ws th (th.leaveMatch th.pc (if exh then .exhausted else .matched)) 1) := by
  unfold State.matchEnds
  refine (h.midWord.setGang _ ?_ ?_ ?_).done_thread ..
  · cases p <;> simp
  · cases p <;> simp
  · cases p <;> simp [Gang.thread, Gang.post]

/-- The counter that a MATCH decides on: the armed one, or its LIMIT where none is (R146). -/
def Thread.counter (th : Thread) (limit : Nat) : Nat := (th.mctr.map (·.1)).getD limit

/-- A MATCH within no shadow, its counter not armed for another word, with its tag's result known: PASS leaves the loop, else the
counter decides. -/
theorem matchEffect_known {c : Ctx} {th : Thread} {s : State} {r : Nat} (hsh : c.p = .main → (s.gang c.n).shadowTo = none)
    (hm : ∀ m ∈ th.mctr, m.2 = c.a) (hr : s.matchTag c.n c.p th c.seq (bits c.w 55 52) = some r) :
    (r = 0 → matchEffect c th s = s.matchEnds c th false false true) ∧
    (r ≠ 0 → th.counter (bits c.w 51 32) = 0 → matchEffect c th s = s.matchEnds c th true (hasBit c.w 56) false) ∧
    (r ≠ 0 → th.counter (bits c.w 51 32) ≠ 0 → ∀ b, s.matchTarget c.n th c.a (targetOf c.w) = .ok b → matchEffect c th s =
      s.done c { th with pc := b, mctr := some (th.counter (bits c.w 51 32) - 1, c.a), mtarget := some b } 1) := by
  unfold matchEffect
  extract_lets g tag failto limit other ctr iter mine add
  have hother : other = false := by
    cases h : th.mctr with
    | none => simp only [other, h]
    | some m => simp only [other, h, hm m h, bne_self_eq_false]
  have hctr : ctr = th.counter limit := by
    unfold Thread.counter
    cases h : th.mctr <;> simp only [ctr, h] <;> rfl
  rw [if_neg (ne_true_of_eq_false hother)]
  change s.matchTag c.n c.p th c.seq tag = some r at hr
  clear_value add mine iter other ctr
  subst hctr
  split
  · next d k hp hg => exact nomatch (hsh hp).symm.trans hg
  · rw [hr]
    cases r with
    | zero => exact ⟨fun _ => rfl, fun hne => absurd rfl hne, fun hne => absurd rfl hne⟩
    | succ k =>
      refine ⟨nofun, fun _ hz => if_pos hz, fun _ hz b hb => (if_neg hz).trans ?_⟩
      rw [hb]

/-- Settles O10: by the tag's result, and by the counter where it is not PASS. -/
theorem matchLoops : Obligations.MatchLoops := by
  unfold Obligations.MatchLoops
  intro s n p th ws h ho hsh hm
  have hmatch : exec (.matchW n p) s = .next (matchEffect (s.wordCtx n p th ws) th s) :=
    h.dispatched ho matchEffect
  have known {r : Nat} := matchEffect_known (c := s.wordCtx n p th ws) (r := r) hsh hm
  refine ⟨fun hr => ⟨_, hmatch, ?_⟩, fun r hr hne k hk => ⟨fun hz => ⟨_, hmatch, ?_⟩, fun hz b hb => ⟨_, hmatch, ?_⟩⟩⟩
  · obtain ⟨passes, -, -⟩ := known hr
    rw [passes rfl]
    exact h.matchEnds_leaves ..
  · obtain ⟨-, exhausts, -⟩ := known hr
    rw [exhausts hne (hk.symm.trans hz)]
    exact h.matchEnds_leaves ..
  · obtain ⟨-, -, repeats⟩ := known hr
    subst hk
    rw [repeats hne hz b hb]
    exact h.midWord.done_thread ..

/-! #### JFAIL and JPASS (R144) -/

/-- A condition taken, with loops enough to pop and a target that can be continued at. -/
theorem State.condThread_taken {s : State} {n : Nat} {th : Thread} {a b t : PAddr} {popl : Nat} (hl : popl ≤ th.loops.length)
    (hb : s.target n th t a false = .ok b) : s.condThread n th t true popl a = .ok { th with pc := b, loops := th.loops.drop popl } := by
  have ht : s.target n { th with loops := th.loops.drop popl } t a false = .ok b := hb
  simp only [State.condThread, if_true, popLoops_of_le hl, ht]

/-- A JFAIL or JPASS of a started gang whose condition is known goes the way of it. -/
theorem Ready.cond_goes {s : State} {n : Nat} {p : Path} {compat : Bool} {th th' : Thread} {ws : List (Nat × Nat)}
    (h : Ready s n p compat th ws) {isFail : Bool} {v : Nat} (hs : (s.gang n).started = true)
    (hv : s.evalCond n p th (s.gang n).seqNext (bits (firstWord ws) 55 54) (bits (firstWord ws) 53 50) (bits (firstWord ws) 49 26) = some v)
    (ht : s.condThread n th th.pc (decide (v = if isFail then 1 else 0)) (bits (firstWord ws) 57 56) (targetOf (firstWord ws)) = .ok th') :
    ((condEffect isFail (s.wordCtx n p th ws) th s).gang n).thread p = some (s.wentOn n p ws th th' 1) := by
  have hlearn (taken : Bool) : MidWord s (s.learn n th.pc taken) n p := by
    have hg := (State.learn_does s n th.pc taken).gang (by decide) n
    exact h.midWord.does (State.learn_does ..) (by decide) (by decide) (by decide) (by rw [hg]) (by rw [hg]) (by rw [hg])
  simp only [condEffect, Ctx.w_eq_firstWord, hs, Bool.true_eq_false, if_false, hv, ht]
  exact (hlearn _).done_thread ..

/-- Settles O11: by whether the known condition is the one that the word jumps on. -/
theorem conditionsBranch : Obligations.ConditionsBranch := by
  unfold Obligations.ConditionsBranch
  intro s n p th ws isFail v h ho hs hv
  have hcond : exec (if isFail then .jfail n p else .jpass n p) s = .next (condEffect isFail (s.wordCtx n p th ws) th s) := by
    cases isFail <;> exact h.dispatched ho (condEffect _)
  refine ⟨fun hne => ⟨_, hcond, h.cond_goes hs hv ?_⟩, fun he hl b hb => ⟨_, hcond, h.cond_goes hs hv ?_⟩⟩
  · rw [decide_eq_false hne]
    rfl
  · rw [decide_eq_true he]
    exact State.condThread_taken hl hb

/-! #### Words that post side effects (R152 to R160) -/

/-- A word finds room as it is, or on the main path by dropping the sprout (R204, R209). -/
theorem State.room_ok {s u : State} {n : Nat} {p : Path} {k : Nat} (h : s.room n p k = .ok u) :
    u = s ∨ p = .main ∧ u = s.dropSprout n := by
  cases p with
  | main =>
    simp only [State.room] at h
    repeat' split at h
    all_goals cases h
    · exact .inl rfl
    · exact .inr ⟨rfl, rfl⟩
  | sprout =>
    simp only [State.room] at h
    repeat' split at h
    all_goals cases h
    exact .inl rfl

theorem State.dropSprout_gang (s : State) (n : Nat) :
    (s.dropSprout n).gang n = { s.gang n with sprout := none, dropped := (s.gang n).sprout.map (·.owner) } := by
  unfold State.dropSprout
  simp only [State.gang_wrAll, State.gang_setGang]

/-- Finding room leaves the path, its side effects and the gang's wait as they are. -/
theorem Ready.room_keeps {s u : State} {n : Nat} {p : Path} {compat : Bool} {th : Thread} {ws : List (Nat × Nat)}
    (h : Ready s n p compat th ws) {k : Nat} (hr : s.room n p k = .ok u) :
    MidWord s u n p ∧ (u.gang n).effsOf p = (s.gang n).effsOf p := by
  rcases State.room_ok hr with rfl | ⟨rfl, rfl⟩
  · exact ⟨h.midWord, rfl⟩
  · have hg := s.dropSprout_gang n
    exact ⟨h.midWord.does (State.dropSprout_does s n) (by decide) (by decide) (by decide) (by rw [hg]) (by rw [hg]) (by rw [hg]; rfl),
      by rw [hg]; rfl⟩

/-- The effects of a path that there is, with entries posted behind them. -/
theorem Gang.effsOf_post {g : Gang} {p : Path} (h : (g.thread p).isSome = true) (es : List SebEntry) :
    (g.post p es).effsOf p = g.effsOf p ++ es.map (·.eff) := by
  cases p with
  | main => exact List.map_append
  | sprout =>
    obtain ⟨x, hx⟩ := Gang.exists_sprout h
    simp only [Gang.post, Gang.effsOf, hx, Option.map_some, List.map_append]

theorem MidWord.post {s u : State} {n : Nat} {p : Path} (h : MidWord s u n p) (es : List SebEntry) :
    MidWord s (u.setGang n ((u.gang n).post p es)) n p :=
  h.setGang _ (by simp) (by simp) (by simp)

/-- A word that posts with room for its effects appends them, and its path goes on behind it. -/
theorem Ready.postWord_posts {s : State} {n : Nat} {p : Path} {compat : Bool} {th : Thread} {ws : List (Nat × Nat)}
    (h : Ready s n p compat th ws) {effs : List Eff} (hr : s.roomFor n p effs.length) (th' : Thread) (region : Bool) (cost : Nat) :
    ((s.postWord (s.wordCtx n p th ws) th' effs region cost).gang n).thread p =
        some (s.wentOn n p ws th { th' with pc := th.pc.succ } cost) ∧
      ((s.postWord (s.wordCtx n p th ws) th' effs region cost).gang n).effsOf p = (s.gang n).effsOf p ++ effs := by
  obtain ⟨u, hu⟩ := hr
  obtain ⟨hunder, heffs⟩ := h.room_keeps hu
  simp only [State.postWord, hu]
  refine ⟨(hunder.post _).done_thread .., ((hunder.post _).done_effsOf ..).trans ?_⟩
  rw [State.gang_setGang, Gang.effsOf_post hunder.path, heffs]
  simp [List.map_map, Function.comp_def, List.zipIdx_map_fst]

theorem Ready.exec_posts {s : State} {n : Nat} {p : Path} {compat : Bool} {th th' : Thread} {ws : List (Nat × Nat)}
    (h : Ready s n p compat th ws) {c : Instr} {effs : List Eff} {region : Bool} {cost : Nat} (hr : s.roomFor n p effs.length)
    (hc : exec c s = .next (s.postWord (s.wordCtx n p th ws) th' effs region cost)) : ∃ t, exec c s = .next t ∧
      (t.gang n).thread p = some (s.wentOn n p ws th { th' with pc := th.pc.succ } cost) ∧
      (t.gang n).effsOf p = (s.gang n).effsOf p ++ effs :=
  ⟨_, hc, h.postWord_posts hr th' region cost⟩

/-- A MEAS with WAIT at 0 posts its measurement and does not wait for it (R155). -/
theorem measEffect_posts {s : State} {n seq : Nat} {p : Path} {a : PAddr} {th : Thread} {ws : List (Nat × Nat)}
    (hw : hasBit (firstWord ws) 35 = false) : measEffect ⟨n, p, a, seq, ws⟩ th s = s.postWord ⟨n, p, a, seq, ws⟩ th
      [.meas (bits (firstWord ws) 57 56) (bits (firstWord ws) 55 52) (bits (firstWord ws) 51 40) false
        (ws.map (fun e => (e.1, bits e.2 3 0)))] false 3 := by
  simp only [measEffect, Ctx.w_eq_firstWord, hw, if_true]

/-- Settles O12: each word is one that posts its effects; a NOP without ATTN goes on with none. -/
theorem wordsPost : Obligations.WordsPost := by
  unfold Obligations.WordsPost
  intro s n p th ws w h hw c op cost effs hmem ho hr
  subst hw
  simp only [List.mem_append, List.mem_cons, List.not_mem_nil, or_false, Prod.mk.injEq] at hmem
  rcases hmem with ((⟨rfl, rfl, rfl, rfl⟩ | ⟨rfl, rfl, rfl, rfl⟩ | ⟨rfl, rfl, rfl, rfl⟩ | ⟨rfl, rfl, rfl, rfl⟩ | ⟨rfl, rfl, rfl, rfl⟩ |
    ⟨rfl, rfl, rfl, rfl⟩ | ⟨rfl, rfl, rfl, rfl⟩) | hmeas) | ⟨rfl, rfl, rfl, rfl⟩
  · exact h.exec_posts hr (h.dispatched ho setlvlEffect)
  · exact h.exec_posts hr (h.dispatched ho setloadEffect)
  · exact h.exec_posts hr (h.dispatched ho cntEffect)
  · exact h.exec_posts hr (h.dispatched ho (logEffect true))
  · exact h.exec_posts hr (h.dispatched ho (logEffect false))
  · exact h.exec_posts hr (h.dispatched ho awgEffect)
  · exact h.exec_posts hr (h.dispatched ho ledgEffect)
  · by_cases hwait : hasBit (firstWord ws) 35 = true
    · rw [if_pos hwait] at hmeas
      exact nomatch hmeas
    · have hwait := Bool.eq_false_iff.2 hwait
      simp only [hwait, Bool.false_eq_true, if_false, List.mem_singleton, Prod.mk.injEq] at hmeas
      obtain ⟨rfl, rfl, rfl, rfl⟩ := hmeas
      exact h.exec_posts hr ((h.dispatched ho measEffect).trans (congrArg _ (measEffect_posts hwait)))
  · by_cases hattn : hasBit (firstWord ws) 0 = true
    · simp only [hattn, if_true] at hr ⊢
      exact h.exec_posts hr ((h.dispatched ho nopEffect).trans (congrArg _ (if_pos hattn)))
    · have hgo : exec (.nop n p) s = .next (s.done (s.wordCtx n p th ws) { th with pc := th.pc.succ } 1) :=
        (h.dispatched ho nopEffect).trans (congrArg _ (if_neg hattn))
      refine ⟨_, hgo, h.midWord.done_thread .., (h.midWord.done_effsOf ..).trans ?_⟩
      rw [if_neg hattn, List.append_nil]

/-! #### Words that wait at the pins (R148 to R151, R155) -/

/-- The main path of a word that is done goes on with the thread given. -/
theorem MidWord.done_main {s u : State} {n : Nat} (h : MidWord s u n .main) (ws : List (Nat × Nat)) (th th' : Thread) (cost : Nat) :
    ((u.done (s.wordCtx n .main th ws) th' cost).gang n).main = s.wentOn n .main ws th th' cost :=
  Option.some.inj (h.done_thread ws th th' cost)

/-- A word that is done leaves the gang's wait, its boundary tick known by now. -/
theorem MidWord.done_wait {s u : State} {n : Nat} {p : Path} (h : MidWord s u n p) {w : GWait} (hw : (u.gang n).wait = some w)
    (ws : List (Nat × Nat)) (th th' : Thread) (cost : Nat) :
    ∃ x, ((u.done (s.wordCtx n p th ws) th' cost).gang n).wait = some x ∧ w.Timed x := by
  obtain ⟨g, sp, v, hf, hg, -⟩ := State.done_gang u (s.wordCtx n p th ws) th' cost h.held
  rw [hg]
  refine hf.wait w ?_
  cases p <;> exact hw

/-- A word that waits goes on behind it, with its wait open. -/
theorem Ready.waitWord_waits {s : State} {n : Nat} {compat : Bool} {th : Thread} {ws : List (Nat × Nat)} (h : Ready s n .main compat th ws)
    (hw : (s.gang n).wait = none) (kind : WaitKind) (tag : Nat) (failto : Bool) (tmo : Nat) :
    ((waitWord (s.wordCtx n .main th ws) th kind tag failto tmo s).gang n).main = s.wentOn n .main ws th { th with pc := th.pc.succ } 2 ∧
      ∃ w x : GWait, ((waitWord (s.wordCtx n .main th ws) th kind tag failto tmo s).gang n).wait = some x ∧ w.Timed x ∧
        w.seq = (s.gang n).seqNext ∧ w.kind = kind ∧ w.tag = tag ∧ w.failto = failto ∧ w.tmo = tmo := by
  simp only [waitWord, hw, Option.isSome_none, Bool.false_eq_true, if_false]
  have hset (w : GWait) := h.midWord.setGang { s.gang n with wait := some w } rfl rfl rfl
  have hwait (w : GWait) := (hset w).done_wait (w := w) (by rw [State.gang_setGang]) ws th { th with pc := th.pc.succ } 2
  obtain ⟨x, hx, ht⟩ := hwait _
  exact ⟨(hset _).done_main .., _, x, hx, ht, rfl, rfl, rfl, rfl, rfl⟩

/-- A MEAS with WAIT posts its measurement, waits for it, and goes on behind it. -/
theorem Ready.meas_waits {s : State} {n : Nat} {compat : Bool} {th : Thread} {ws : List (Nat × Nat)} (h : Ready s n .main compat th ws)
    (hw : (s.gang n).wait = none) (hm : hasBit (firstWord ws) 35 = true) (hr : s.roomFor n .main 1) :
    let t := measEffect (s.wordCtx n .main th ws) th s
    (t.gang n).main = s.wentOn n .main ws th { th with pc := th.pc.succ } 3 ∧
      (∃ x, (t.gang n).wait = some x ∧ x.seq = (s.gang n).seqNext ∧ x.kind = .meas (bits (firstWord ws) 55 52)) ∧
      (t.gang n).effsOf .main = (s.gang n).effsOf .main ++ [.meas (bits (firstWord ws) 57 56) (bits (firstWord ws) 55 52)
        (bits (firstWord ws) 51 40) true (ws.map (fun e => (e.1, bits e.2 3 0)))] := by
  obtain ⟨u, hu⟩ := hr
  obtain ⟨hmid, heffs⟩ := h.room_keeps hu
  simp only [measEffect, Ctx.w_eq_firstWord, hm, Bool.true_eq_false, if_false, hw, Option.isSome_none, Bool.false_eq_true, hu]
  have hset (es : List SebEntry) (w : GWait) := hmid.setGang { (u.gang n).post .main es with wait := some w } rfl rfl rfl
  have hwait (es : List SebEntry) (w : GWait) :=
    (hset es w).done_wait (w := w) (by rw [State.gang_setGang]) ws th { th with pc := th.pc.succ } 3
  obtain ⟨x, hx, ht⟩ := hwait _ _
  refine ⟨(hset _ _).done_main .., ⟨x, hx, ht.seq, ht.meas _ rfl⟩, ((hset _ _).done_effsOf ..).trans ?_⟩
  rw [State.gang_setGang, ← heffs]
  exact Gang.effsOf_post (p := .main) rfl _

/-- Settles O13: each word opens its wait, and MEAS posts its measurement with it. -/
theorem wordsWait : Obligations.WordsWait := by
  unfold Obligations.WordsWait
  intro s n th ws w h hw hnone
  subst hw
  refine ⟨fun ho => ⟨_, h.dispatched ho waittEffect, ?_⟩, fun ho => ⟨_, h.dispatched ho waitevEffect, ?_⟩,
      fun ho => ⟨_, h.dispatched ho gsyncEffect, ?_⟩,
    fun ho hm hr => ⟨_, h.dispatched ho measEffect, h.meas_waits hnone hm hr⟩⟩
  · obtain ⟨hmain, w, x, hx, ht, hseq, hkind, -⟩ := h.waitWord_waits hnone
      (.time (hasBit (firstWord ws) 57) (bits (firstWord ws) 47 0)) 0 false 0
    exact ⟨hmain, x, hx, ht.seq.trans hseq, ht.time _ _ hkind⟩
  · obtain ⟨hmain, w, x, hx, ht, hseq, hkind, htag, hfailto, htmo⟩ := h.waitWord_waits hnone (.event (bits (firstWord ws) 51 40) none)
      (bits (firstWord ws) 55 52) (hasBit (firstWord ws) 56) (bits (firstWord ws) 31 0)
    obtain ⟨seen, hseen⟩ := ht.event _ _ hkind
    exact ⟨hmain, x, seen, hx, ht.seq.trans hseq, hseen, ht.tag.trans htag, ht.failto.trans hfailto, ht.tmo.trans htmo⟩
  · obtain ⟨hmain, w, x, hx, ht, hseq, hkind, htag, hfailto, htmo⟩ := h.waitWord_waits hnone (.barrier (bits (firstWord ws) 51 48) none)
      (bits (firstWord ws) 55 52) (hasBit (firstWord ws) 56) (bits (firstWord ws) 31 0)
    obtain ⟨arrived, harr⟩ := ht.barrier _ _ hkind
    exact ⟨hmain, x, arrived, hx, ht.seq.trans hseq, harr, ht.tag.trans htag, ht.failto.trans hfailto, ht.tmo.trans htmo⟩

/-! #### HALT (R160) -/

/-- A gang that halts shows it in every pod. -/
theorem State.haltGang_halts (s : State) (n : Nat) (attn : Bool) (addr : Nat) :
    ∀ q ∈ s.podsOf n, (s.haltGang n attn addr).rd F.ENG_STAT_STATE q = stHalted := by
  intro q hq
  have hset : (s.setGstate n stHalted).rd F.ENG_STAT_STATE q = stHalted := (State.rd_wrAll ..).trans (if_pos hq)
  have hretire (l : List (Nat × Nat)) (u : State) : (l.foldl (fun s (e : Nat × Nat) => s.retire (e.1 / 64) (e.1 % 64)) u).rd
      F.ENG_STAT_STATE q = u.rd F.ENG_STAT_STATE q :=
    fold_keeps _ (·.rd F.ENG_STAT_STATE q) (fun u e => (State.retire_does u _ _).rd _ q 0 (by decide)) l u
  have hraise (p : Prop) [Decidable p] (u : State) (src info : Nat) (l : List Nat) (t : Stamp) :
      (if p then u.raise src info l t else u).rd F.ENG_STAT_STATE q = u.rd F.ENG_STAT_STATE q := by
    split
    · exact (State.raise_does ..).rd _ _ _ (by decide)
    · rfl
  have hentry (p : Prop) [Decidable p] (u : State) (a b c d : Nat) (t : Stamp) (g : Gang) :
      (if p then (u.deviceEntry a b c d t).setGang n g else u).rd F.ENG_STAT_STATE q = u.rd F.ENG_STAT_STATE q := by
    split
    · exact (State.deviceEntry_does ..).rd _ _ _ (by decide)
    · rfl
  unfold State.haltGang
  rw [(State.exitRails_does _ _).rd _ _ _ (by decide), (State.siteEnded_does _ _ _).rd _ _ _ (by decide),
    (State.endStep_does _ _).rd _ _ _ (by decide), (State.clearStopped_does _ _).rd _ _ _ (by decide), State.rd_setGang, hretire,
    (State.measEndSite_does _ _).rd _ _ _ (by decide), hentry, hraise, hset]

/-- Whether everything is done reads the gang, time and the ledger queue; which entries were dispatched from is no part of it. -/
theorem State.allDone_of {s u : State} {n : Nat} {a : List PAddr} (hg : u.gang n = { s.gang n with used := a }) (hn : u.now = s.now)
    (hq : u.ledgq = s.ledgq) : u.allDone n = s.allDone n := by
  unfold State.allDone
  rw [hg, hn, hq]

/-- A HALT of the main path at its boundary, with everything before it done, halts the gang. -/
theorem haltEffect_halts {s : State} {n : Nat} {th : Thread} {ws : List (Nat × Nat)}
    (hb : (s.gang n).atBoundary (s.gang n).seqNext s.now = true) (hd : s.allDone n = true) :
    ∀ q ∈ s.podsOf n, (haltEffect (s.wordCtx n .main th ws) th s).rd F.ENG_STAT_STATE q = stHalted := by
  intro q hq
  unfold haltEffect
  extract_lets s1 s2 g s3
  obtain ⟨v, hv⟩ : ∃ v, s1.gang n = { s.gang n with used := v } := s.touch_gang n th.pc
  have htouch : Does 0x38 0 s s1 := (s.touch_does n th.pc).mono (by decide) (Sub.zero 0)
  have hpark : Does 0x20 0 s1 s2 := Does.ite (fun _ => State.park_does ..) fun _ => Does.refl ..
  have hboth := htouch.trans (hpark.mono (by decide) (Sub.zero 0))
  have hpods : s3.podsOf n = s.podsOf n := ((State.publish_does _ n).podsOf (by decide) n).trans (hboth.podsOf (by decide) n)
  have hall : s2.allDone n = true :=
    (State.allDone_of ((hpark.gang (by decide) n).trans hv) (hboth.now (by decide)) (hboth.ledgq (by decide))).trans hd
  have hedge : (s1.gang n).atBoundary (s.gang n).seqNext s1.now = true := by
    rw [hv, htouch.now (by decide)]
    exact hb
  clear_value s3 s2 s1
  refine (congrArg (fun u : State => u.rd F.ENG_STAT_STATE q)
    ((if_neg (ne_of_eq_of_ne hedge (by decide))).trans (if_neg (ne_of_eq_of_ne hall (by decide))))).trans ?_
  exact State.haltGang_halts _ _ _ _ q (hpods.symm ▸ hq)

/-! #### PSAFE (R158) -/

/-- A safe point behind a vector that is not launched yet stays marked when the word is done. -/
theorem MidWord.done_safes {s u : State} {n : Nat} {p : Path} (h : MidWord s u n p) {m : SafeMark} (hm : m ∈ (u.gang n).safes)
    (hbt : m.bt = none) (hq : ∃ e ∈ (u.gang n).oq, e.seq < m.seq) (ws : List (Nat × Nat)) (th th' : Thread) (cost : Nat) :
    m ∈ ((u.done (s.wordCtx n p th ws) th' cost).gang n).safes := by
  obtain ⟨g, sp, v, hf, hg, -⟩ := State.done_gang u (s.wordCtx n p th ws) th' cost h.held
  rw [hg]
  refine hf.safes m ?_ hbt ?_
  · cases p <;> exact hm
  · obtain ⟨e, he, hlt⟩ := hq
    have hoq : e ∈ (u.doneGang (s.wordCtx n p th ws) th' cost).oq := by cases p <;> exact he
    exact List.all_eq_false.2 ⟨e, hoq, by simpa using hlt⟩

/-- A PSAFE of the main path goes on, and behind a vector not launched yet leaves its safe point marked. -/
theorem Ready.psafe_marks {s : State} {n : Nat} {compat : Bool} {th : Thread} {ws : List (Nat × Nat)} (h : Ready s n .main compat th ws) :
    let t := psafeEffect (s.wordCtx n .main th ws) th s
    (t.gang n).main = s.wentOn n .main ws th { th with pc := th.pc.succ } 1 ∧
      ((∃ e ∈ (s.gang n).oq, e.seq ≤ (s.gang n).seqNext) → ∃ m ∈ (t.gang n).safes, m.seq = (s.gang n).seqNext + 1 ∧
        m.th.pc = th.pc.succ ∧ m.th.word = th.pc) := by
  have hset (m : SafeMark) := h.midWord.setGang { s.gang n with safes := (s.gang n).safes ++ [m] } rfl rfl rfl
  have hsafes (m : SafeMark) (hbt : m.bt = none) (hq : ∃ e ∈ (s.gang n).oq, e.seq < m.seq) :=
    (hset m).done_safes (m := m) (by rw [State.gang_setGang]; exact List.mem_append_right _ (List.mem_singleton_self m)) hbt
      (by rwa [State.gang_setGang]) ws th { th with pc := th.pc.succ } 1
  exact ⟨(hset _).done_main .., fun ⟨e, he, hle⟩ => ⟨_, hsafes _ rfl ⟨e, he, Nat.lt_succ_of_le hle⟩, rfl, rfl, rfl⟩⟩

/-! #### User opcodes (R164) -/

/-- Where every step of a fold stores under its entry's number what satisfies a property, the fold leaves such a value under each. -/
theorem NStore.foldl_set_all {α : Type} [DecidableEq α] {d : α} {f : NStore α → Nat × Nat → α} {P : α → Prop} (hf : ∀ m e, P (f m e))
    {l : List (Nat × Nat)} {e : Nat × Nat} (he : e ∈ l) (m : NStore α) : P ((l.foldl (fun m e => m.set d e.1 (f m e)) m).at d e.1) := by
  have key (l : List (Nat × Nat)) (m : NStore α) (h : e ∈ l ∨ P (m.at d e.1)) :
      P ((l.foldl (fun m e => m.set d e.1 (f m e)) m).at d e.1) := by
    induction l generalizing m with
    | nil => exact h.resolve_left List.not_mem_nil
    | cons a l ih =>
      refine ih _ ?_
      rw [NStore.at_set]
      by_cases ha : e.1 = a.1
      · rw [if_pos ha]
        exact .inr (hf m a)
      · rw [if_neg ha]
        exact h.imp_left fun h => (List.mem_cons.1 h).resolve_left fun h => ha (congrArg Prod.fst h)
  exact key l m (.inl he)

/-- An engine that has its routine still to do, from a micro-address on. -/
def MicroSt.Begun (upc : Nat) (x : MicroSt) : Prop := x.active = true ∧ x.done = false ∧ x.upc = upc

/-- A user opcode starts its routine in every engine of its path. -/
theorem Ready.user_starts {s : State} {n : Nat} {p : Path} {compat : Bool} {th : Thread}
    {ws : List (Nat × Nat)} (h : Ready s n p compat th ws)
    {upc : Nat} (hu : s.userEntry n (opOf (firstWord ws)) = some upc) :
    ∃ th', ((userEffect (s.wordCtx n p th ws) th s).gang n).thread p = some th' ∧ th'.inRoutine = true ∧ th'.word = th.pc ∧
      ∀ e ∈ ws, (th'.micro e.1).active = true ∧ (th'.micro e.1).done = false ∧ (th'.micro e.1).upc = upc := by
  have hpulse (u : State) (l : List Nat) : (l.foldl (fun (s : State) p => s.pulse 0x03 p) u).gang n = u.gang n :=
    State.gang_of_gangs (State.wr_fold_gangs (fun (s : State) p => s.pulse 0x03 p) (fun _ _ => rfl) u l) n
  simp only [userEffect, Ctx.w_eq_firstWord, hu]
  cases p with
  | main =>
    obtain ⟨v, hv⟩ := State.touch_gang (List.foldl (fun (s : State) p => s.pulse 3 p) _ _) n th.pc
    rw [hv, hpulse, State.gang_setGang]
    exact ⟨_, rfl, rfl, rfl, fun e he => NStore.foldl_set_all (P := MicroSt.Begun upc) (fun _ _ => ⟨rfl, rfl, rfl⟩) he th.cpu⟩
  | sprout =>
    obtain ⟨x, hx⟩ := Gang.exists_sprout h.midWord.path
    rw [hpulse, State.gang_setGang]
    simp only [Gang.setThread, Gang.thread, hx, Option.map_some]
    exact ⟨_, rfl, rfl, rfl, fun e he => NStore.foldl_set_all (P := MicroSt.Begun upc) (fun _ _ => ⟨rfl, rfl, rfl⟩) he th.cpu⟩

/-- Settles O14: HALT, PSAFE, an illegal and a user opcode by what their effect leaves, FUSED by the word that it carries out. -/
theorem wordsEndAndBegin : Obligations.WordsEndAndBegin := by
  unfold Obligations.WordsEndAndBegin
  intro s n p th ws h
  refine ⟨fun hp ho hb hd => ?halt, fun hp ho hs => ?psafe, fun hp ho hu => ?illegal, fun upc hu => ?user, fun hs ho hl => ?fused⟩
  case halt =>
    subst hp
    exact ⟨_, h.dispatched ho haltEffect, haltEffect_halts hb hd⟩
  case psafe =>
    subst hp
    have hpsafe : exec (.psafe n .main) s = .next (psafeEffect (s.wordCtx n .main th ws) th s) := by
      refine Eq.trans (congrArg Host.Outcome.next (if_neg ?_)) (h.dispatched ho psafeEffect)
      rw [hs]
      decide
    exact ⟨_, hpsafe, h.psafe_marks⟩
  case illegal =>
    subst hp
    refine ⟨_, congrArg Host.Outcome.next (State.dispatch_ready h _ illegalEffect (by rw [ho, hu]; rfl)), h.error_erred (by decide) _⟩
  case user => exact ⟨_, congrArg Host.Outcome.next (State.dispatch_ready h _ userEffect (by simp [hu])), h.user_starts hu⟩
  case fused =>
    have hfused : exec (.fused n p) s = .next (loopEffect (s.wordCtx n p th ws) th s) := by
      refine congrArg Host.Outcome.next
          ((if_neg (by simp [hs])).trans ((State.dispatch_ready h _ wordEffect (by rw [ho]; decide)).trans ?_))
      simp only [wordEffect, Ctx.w_eq_firstWord, ho]
      rfl
    exact ⟨_, hfused, h.loop_pushes hl⟩

end Sys2Proof.Machine
end

/-! ### Scope: the launch and the resolution of vectors -/

section
namespace Sys2Proof.Machine

open Sys2Proof

/-! #### Gaps and fails: what they leave of a gang (R132, R137) -/

/-- A failing vector changes no more of the gang than the fails kept. -/
theorem State.siteFail_gang (s : State) (n seq pos : Nat) : ∃ l, (s.siteFail n seq pos).gang n = { s.gang n with fails := l } := by
  unfold State.siteFail
  extract_lets first s1 s2 g
  have hg : g = s.gang n := by
    dsimp only [g, s2]
    split <;> rfl
  split
  · exact ⟨_, (State.gang_setGang ..).trans (by rw [hg])⟩
  · exact ⟨_, hg⟩

/-- Hold ticks change no more of the gang than the fails kept. -/
theorem State.countHold_gang (s : State) (n : Nat) (e : OqEntry) (due t0 : Stamp) :
    ∃ l, (s.countHold n e due t0).gang n = { s.gang n with fails := l } := by
  unfold State.countHold
  split
  · exact ⟨_, rfl⟩
  · unfold State.countGap
    extract_lets s1
    have hs1 : s1.gang n = s.gang n := State.gang_of_gangs (State.wr_fold_gangs _ (fun u p => by dsimp only; split <;> rfl) _ _) n
    split
    · obtain ⟨l, hl⟩ := s1.siteFail_gang n e.seq (s1.gang n).vpos
      exact ⟨l, hl.trans (by rw [hs1])⟩
    · exact ⟨_, hs1⟩

/-! #### The launch of a period (R136, R197) -/

/-- What a gang has once a period of a queue entry is launched: the period in flight, and the position behind it. -/
structure Gang.Launched (g h : Gang) (e : OqEntry) (t0 now : Stamp) : Prop where
  flights : ∃ f, h.flights = g.flights ++ [f] ∧ f.seq = e.seq ∧ f.pos = g.vpos ∧ f.t0 = t0 ∧ f.launch = now
  vpos : h.vpos = g.vpos + 1
  held : h.held = g.held

/-- Markers change no more of the gang than its markers. -/
theorem Gang.foldl_mark (g : Gang) (mks : List Nat) (t stop : Stamp) :
    ∃ a b, mks.foldl (fun (g : Gang) j => g.mark j t stop) g = { g with marks := a, markEnd := b } := by
  induction mks generalizing g with
  | nil => exact ⟨_, _, rfl⟩
  | cons k l ih => exact ih (g.mark k t stop)

/-- A launched period is in flight. -/
theorem State.launch_launched (s : State) (n : Nat) (e : OqEntry) (t0 : Stamp) :
    (s.gang n).Launched ((s.launch n e t0).gang n) e t0 s.now := by
  unfold State.launch
  extract_lets g vw k nofail nocap pos s1 period stop compares captures left dec mks s2 g1 g2 g3
  have hplaced : Does 0x400000a000020 0x800000060200000c00000000000040000000000000000000000000000000000000 s s1 := by
    refine Does.foldl (fun u w hu => ?_) (Does.refl ..)
    split
    · exact hu
    · refine Does.foldl (fun v i hv => Does.step (State.placePin_does ..) (by decide) (by decide) hv) ?_
      exact Does.step (State.pulse_does ..) (by decide) (by decide) (hu.wr _ _ _ _ (by decide))
  have hmarked : Does 0x80000000000000 0 s1 s2 := Does.foldl (fun u k hu => hu.trans (State.trigMark_does u k ..)) (Does.refl ..)
  have hgang : s2.gang n = s.gang n := (hmarked.gang (by decide) n).trans (hplaced.gang (by decide) n)
  have hnow : s2.now = s.now := (hmarked.now (by decide)).trans (hplaced.now (by decide))
  obtain ⟨a, b, hg1⟩ : ∃ a b, g1 = { s2.gang n with marks := a, markEnd := b } := Gang.foldl_mark ..
  have hfixed := Gang.fix_fixed g3 s2.now
  have hend : (((s2.setGang n g3).fix n).publish n).gang n = g3.fix s2.now := by
    rw [State.publish_gang, State.fix_gang, State.gang_setGang, State.setGang_now]
  rw [hend]
  have hf : g3.flights = (s.gang n).flights ++ [Flight.mk e.seq pos t0 dec vw left false s2.now] := by
    dsimp only [g3, g2]
    rw [hg1, hgang]
  refine ⟨⟨_, hfixed.flights.trans hf, rfl, rfl, rfl, hnow⟩, hfixed.vpos, hfixed.held.trans ?_⟩
  dsimp only [g3, g2]
  rw [hg1, hgang]

/-- The launch of a period of the queue's first entry, with the hold ticks before it counted (R132, R197). -/
def State.launchFirst (s : State) (n : Nat) (e : OqEntry) (due t0 : Stamp) : State :=
  let s := (s.countHold n e due t0).launch n e t0
  (s.setGang n { s.gang n with noGap := false, noLead := false, launched := e.seq + 1 }).raiseErr n

/-- In a gang that holds no error the period is in flight. -/
theorem State.launchFirst_launched {s : State} {n : Nat} {e : OqEntry} {due t0 : Stamp} (hh : (s.gang n).held = none) :
    (s.gang n).Launched ((s.launchFirst n e due t0).gang n) e t0 s.now := by
  obtain ⟨l, hl⟩ := s.countHold_gang n e due t0
  have hnow : (s.countHold n e due t0).now = s.now := (State.countHold_does ..).now (by decide)
  obtain ⟨flights, vpos, held⟩ := State.launch_launched (s.countHold n e due t0) n e t0
  rw [hl, hnow] at flights
  rw [hl] at vpos held
  unfold State.launchFirst
  extract_lets u g
  rw [State.raiseErr_none (by rw [State.gang_setGang]; exact held.trans hh), State.gang_setGang]
  exact ⟨flights, vpos, held⟩

/-- What lets a gang brought up to date launch its queue's first entry at the tick `t0`: it runs, nothing before the entry is open, and
the entry is complete and due. -/
structure Gang.Launches (g : Gang) (now : Stamp) (e : OqEntry) (rest : List OqEntry) : Prop where
  queue : g.oq = e :: rest
  prep : g.prep = true
  wait : g.wait = none
  preempt : g.preempt = none
  lead : g.noLead = false
  held : g.held = none
  complete : g.complete e.seq e.ix = true
  shadow : g.shadowAllows e.seq e.ix (later g.pinEnd (after now 48)) = true
  due : ahead g.pinEnd (after now 48) ≤ 0

/-- A running gang that may launch its first entry launches a period of it, at the end of the last one or 48 ticks on (R197). -/
theorem exec_vectorLaunch {s : State} {n : SiteId} {e : OqEntry} {rest : List OqEntry} (h : ((s.gang n).fix s.now).Launches s.now e rest)
    (hst : s.gstate n ∈ [stArmed, stRun, stWait, stBarrier]) : exec (.vectorLaunch n) s = .next ((s.fix n).launchFirst n e
      ((s.gang n).fix s.now).pinEnd (later ((s.gang n).fix s.now).pinEnd (after s.now 48))) := by
  change execVectorLaunch n s = _
  unfold execVectorLaunch
  extract_lets m s1 g st
  have hg : g = (s.gang n).fix s.now := s.fix_gang n
  have hnow : s1.now = s.now := (State.fix_does s n).now (by decide)
  have hgstate : st = s.gstate n := by
    have hfix : s1 = s.setGang n ((s.gang n).fix s.now) := by
      unfold s1 State.fix
      simp only [m, h.wait]
    dsimp only [st]
    rw [hfix]
    rfl
  rw [← hg] at h ⊢
  have hedge : g.edge e.seq = g.pinEnd := by simp only [Gang.edge, h.wait]
  have hstart : g.startNow g.pinEnd s.now = later g.pinEnd (after s.now 48) := by
    simp only [Gang.startNow, h.lead, Bool.false_eq_true, if_false]
  have hsafe : g.safePoint = none := by simp only [Gang.safePoint, h.preempt]
  have hruns : (!g.prep || !(st == stArmed || st == stRun || st == stWait || st == stBarrier)) = false := by
    rw [h.prep, hgstate]
    simp only [List.mem_cons, List.not_mem_nil, or_false] at hst
    rcases hst with hst | hst | hst | hst <;> rw [hst] <;> rfl
  refine congrArg Host.Outcome.next ((if_neg (ne_true_of_eq_false hruns)).trans ?_)
  rw [h.queue]
  refine (if_neg ?_).trans (?_ : s1.launchFirst n e (g.edge e.seq) (g.startNow (g.edge e.seq) s1.now) = _)
  · simp only [hedge, hstart, hnow, hsafe, h.wait, h.held, h.complete, h.shadow, h.due]
    decide
  · rw [hedge, hnow, hstart]

/-! #### The resolution of a vector (R137, R199) -/

/-- Two bits of a number replaced, and the number cut above them, read as what they were replaced with. -/
theorem bits_replace {v k r w : Nat} (hr : r < 4) (hw : k + 2 ≤ w) :
    bits ((v - bits v (k + 1) k * 2 ^ k + r * 2 ^ k) % 2 ^ w) (k + 1) k = r := by
  have hbits (x : Nat) : bits x (k + 1) k = x / 2 ^ k % 4 := by
    rw [bits, show k + 1 + 1 - k = 2 by omega]
    rfl
  have hpos : 0 < 2 ^ k := Nat.two_pow_pos k
  have hcut (x : Nat) : x % 2 ^ w / 2 ^ k % 4 = x / 2 ^ k % 4 := by
    obtain ⟨d, rfl⟩ := Nat.exists_eq_add_of_le hw
    rw [show k + 2 + d = k + (2 + d) by omega, pow_add, Nat.mod_mul_right_div_self, pow_add]
    exact Nat.mod_mul_right_mod ..
  have hsplit : v - v / 2 ^ k % 4 * 2 ^ k + r * 2 ^ k = v % 2 ^ k + (v / 2 ^ k - v / 2 ^ k % 4 + r) * 2 ^ k := by
    have hv := Nat.mod_add_div' v (2 ^ k)
    have hle : v / 2 ^ k % 4 * 2 ^ k ≤ v / 2 ^ k * 2 ^ k := Nat.mul_le_mul_right _ (Nat.mod_le ..)
    rw [Nat.add_mul, Nat.sub_mul]
    omega
  rw [hbits, hbits, hcut, hsplit, Nat.add_mul_div_right _ _ hpos, Nat.div_eq_of_lt (Nat.mod_lt _ hpos)]
  omega

/-- A tag takes the result of a place, unless something later has set it. -/
theorem State.setTagAt_tagRes {s : State} {n tag res seq : Nat} (h0 : tag ≠ 0) (h16 : tag < 16) (hr : res < 4)
    (hs : (s.gang n).tagSeq.at 0 tag ≤ seq + 1) : (s.setTagAt n tag res seq).tagRes n tag = res := by
  unfold State.setTagAt State.setTag
  rw [if_neg (by simp only [not_or]; exact ⟨h0, Nat.not_lt.2 hs⟩), if_neg h0]
  obtain ⟨j, rfl⟩ := Nat.exists_eq_succ_of_ne_zero h0
  have hwidth : F.SITE_TAGRES_TAGRES.width = 30 := rfl
  unfold State.tagRes
  rw [State.rd_wr, hwidth, show 2 * j.succ - 1 = 2 * j + 1 by omega, show 2 * j.succ - 2 = 2 * j by omega]
  exact bits_replace hr (by omega)

theorem State.setTagAt_gang (s : State) (n tag res seq : Nat) : ∃ l, (s.setTagAt n tag res seq).gang n = { s.gang n with tagSeq := l } := by
  unfold State.setTagAt
  dsimp only
  split
  · exact ⟨_, rfl⟩
  · exact ⟨_, ((State.setTag_does ..).gang (by decide) n).trans (State.gang_setGang ..)⟩

/-- A failing vector sets the fail flag and adds one to the count (R137). -/
theorem State.siteFail_counts (s : State) (n seq pos : Nat) : (s.siteFail n seq pos).rd F.SITE_PSTAT_FAIL n = 1 ∧
    (s.siteFail n seq pos).rd F.SITE_FCOUNT_FCOUNT n = min (2 ^ 32 - 1) (s.rd F.SITE_FCOUNT_FCOUNT n + 1) := by
  unfold State.siteFail
  extract_lets first s1 s2 g
  have hend (f : Fld) : (if g.clearPending then s2.setGang n { g with fails := g.fails ++ [(seq, pos)] } else s2).rd f n = s2.rd f n := by
    split <;> rfl
  have hpos (f : Fld) (h1 : F.SITE_FFPOS_LO_FFPOS_LO.reg ≠ f.reg) (h2 : F.SITE_FFPOS_HI_FFPOS_HI.reg ≠ f.reg) : s2.rd f n = s1.rd f n := by
    dsimp only [s2]
    split
    · rw [State.rd_wr_ne _ _ _ _ _ _ (.inl h2), State.rd_wr_ne _ _ _ _ _ _ (.inl h1)]
    · rfl
  rw [hend, hend, hpos _ (by decide) (by decide), hpos _ (by decide) (by decide)]
  constructor
  · exact (State.bump_rd_ne _ _ _ _ _ _ (.inl (by decide))).trans (State.rd_wr ..)
  · have hcount : (s.wr F.SITE_PSTAT_FAIL 1 n).rd F.SITE_FCOUNT_FCOUNT n = s.rd F.SITE_FCOUNT_FCOUNT n :=
      State.rd_wr_ne _ _ _ _ _ _ (.inl (by decide))
    refine (State.rd_wr ..).trans ?_
    rw [hcount]
    exact Nat.mod_eq_of_lt (Nat.lt_of_le_of_lt (Nat.min_le_left ..) (by decide))

/-- The outcome of a vector: its tag's result, and the fail state where it counts there (R137). -/
def State.takeOutcome (s : State) (n : Nat) (f : Flight) : State :=
  let s := s.setTagAt n (vwTag f.vw) (if f.failed then 2 else 1) f.seq
  if f.failed ∧ vwNofail f.vw = false then s.siteFail n f.seq f.pos else s

theorem State.takeOutcome_gang (s : State) (n : Nat) (f : Flight) :
    ∃ a b, (s.takeOutcome n f).gang n = { s.gang n with tagSeq := a, fails := b } := by
  unfold State.takeOutcome
  extract_lets u
  obtain ⟨a, ha⟩ : ∃ a, u.gang n = { s.gang n with tagSeq := a } := s.setTagAt_gang ..
  split
  · obtain ⟨b, hb⟩ := u.siteFail_gang n f.seq f.pos
    exact ⟨a, b, hb.trans (by rw [ha])⟩
  · exact ⟨a, _, ha⟩

/-- A vector that resolves leaves flight and its outcome is taken. -/
theorem exec_vectorResolve {s : State} {n : SiteId} {f : Flight} (h : (s.gang n).flights.find? (s.flightReady n) = some f) :
    ∃ g : Gang, exec (.vectorResolve n) s = .next (((s.setGang n g).takeOutcome n f).settle n) ∧
      g.flights = (s.gang n).flights.erase f ∧ g.tagSeq = (s.gang n).tagSeq ∧ g.held = (s.gang n).held := by
  change ∃ g : Gang, execVectorResolve n s = _ ∧ _
  unfold execVectorResolve
  dsimp only
  rw [h]
  exact ⟨_, rfl, rfl, rfl, rfl⟩

/-- What registers show of a gang's program is not its fail flag. -/
theorem State.publish_fail (s : State) (n i : Nat) : (s.publish n).rd F.SITE_PSTAT_FAIL i = s.rd F.SITE_PSTAT_FAIL i := by
  unfold State.publish
  extract_lets g t s1 clear
  have hdepth : s1.rd F.SITE_PSTAT_FAIL i = s.rd F.SITE_PSTAT_FAIL i :=
    (State.rd_wr_ne _ _ _ _ _ _ (.inr (by decide))).trans (State.rd_wr_ne _ _ _ _ _ _ (.inr (by decide)))
  split
  · refine (fold_keeps _ (fun u : State => u.rd F.SITE_PSTAT_FAIL i) (fun u p => ?_) _ _).trans hdepth
    dsimp only
    rw [State.rd_wr_ne _ _ _ _ _ _ (.inl (by decide)), State.rd_wr_ne _ _ _ _ _ _ (.inl (by decide))]
    split <;> rfl
  · rfl

/-- What follows every resolution in a gang that holds no error leaves the gang's flights, its site's tags, fail flag and fail count. -/
theorem State.settle_keeps {s : State} {n : Nat} (hh : (s.gang n).held = none) :
    ((s.settle n).gang n).flights = (s.gang n).flights ∧ (s.settle n).rd F.SITE_TAGRES_TAGRES n = s.rd F.SITE_TAGRES_TAGRES n ∧
      (s.settle n).rd F.SITE_PSTAT_FAIL n = s.rd F.SITE_PSTAT_FAIL n ∧
      (s.settle n).rd F.SITE_FCOUNT_FCOUNT n = s.rd F.SITE_FCOUNT_FCOUNT n := by
  have hquiet : s.settle n = ((s.fix n).ensureSprout n).publish n := by
    refine State.raiseErr_none ?_
    obtain ⟨sp, hsp, -⟩ := State.ensureSprout_gang (s.fix n) n
    rw [State.publish_gang, hsp, State.fix_gang]
    exact (Gang.fix_fixed (s.gang n) s.now).held.trans hh
  have hfix := State.fix_does s n
  have hsprout := State.ensureSprout_does (s.fix n) n
  have hshown := State.publish_does ((s.fix n).ensureSprout n) n
  obtain ⟨g, sp, hfixed, hg, -⟩ := State.settled_gang hh
  refine ⟨(congrArg Gang.flights hg).trans hfixed.flights, ?_, ?_, ?_⟩
  all_goals rw [hquiet]
  · rw [hshown.rd _ _ _ (by decide), hsprout.rd _ _ _ (by decide), hfix.rd _ _ _ (by decide)]
  · rw [State.publish_fail, hsprout.rd _ _ _ (by decide), hfix.rd _ _ _ (by decide)]
  · rw [hshown.rd _ _ _ (by decide), hsprout.rd _ _ _ (by decide), hfix.rd _ _ _ (by decide)]

/-- The outcome of a vector shows in its tag; a fail that counts shows in the fail flag and the fail count. -/
theorem State.takeOutcome_shows {s : State} {n : Nat} {f : Flight} :
    (vwTag f.vw ≠ 0 → vwTag f.vw < 16 → (s.gang n).tagSeq.at 0 (vwTag f.vw) ≤ f.seq + 1 →
      (s.takeOutcome n f).tagRes n (vwTag f.vw) = if f.failed then 2 else 1) ∧
    (f.failed = true → vwNofail f.vw = false → (s.takeOutcome n f).rd F.SITE_PSTAT_FAIL n = 1 ∧
      (s.takeOutcome n f).rd F.SITE_FCOUNT_FCOUNT n = min (2 ^ 32 - 1) (s.rd F.SITE_FCOUNT_FCOUNT n + 1)) := by
  unfold State.takeOutcome
  extract_lets u
  refine ⟨fun h0 h16 hs => ?_, fun hf hn => ?_⟩
  · have hu : u.tagRes n (vwTag f.vw) = if f.failed then 2 else 1 := State.setTagAt_tagRes h0 h16 (by split <;> decide) hs
    split
    · unfold State.tagRes at hu ⊢
      rw [(State.siteFail_does ..).rd _ _ _ (by decide)]
      exact hu
    · exact hu
  · have hu : u.rd F.SITE_FCOUNT_FCOUNT n = s.rd F.SITE_FCOUNT_FCOUNT n := (State.setTagAt_does ..).rd _ _ _ (by decide)
    rw [if_pos ⟨hf, hn⟩, ← hu]
    exact u.siteFail_counts n _ _

/-- Settles O21: the launch puts the period in flight, the resolution takes the outcome and settles. -/
theorem vectorsLaunchAndResolve : Obligations.VectorsLaunchAndResolve := by
  unfold Obligations.VectorsLaunchAndResolve
  intro s n g hheld
  refine ⟨fun hg e rest hq hprep hwait hpre hlead hc hsh hdue hst => ?launch, fun f hf => ?resolve⟩
  case launch =>
    subst hg
    have hfixed := Gang.fix_fixed (s.gang n) s.now
    have hnone := hfixed.held.trans hheld
    have hlaunched := State.launchFirst_launched (s := s.fix n) (n := n) (e := e) (due := ((s.gang n).fix s.now).pinEnd)
      (t0 := later ((s.gang n).fix s.now).pinEnd (after s.now 48)) (by rw [State.fix_gang, hnone])
    rw [State.fix_gang, (State.fix_does s n).now (by decide)] at hlaunched
    obtain ⟨⟨f, hf, hseq, hpos, ht0, hlaunch⟩, hvpos, -⟩ := hlaunched
    exact ⟨_, f, exec_vectorLaunch ⟨hq, hprep, hwait, hpre, hlead, hnone, hc, hsh, hdue⟩ hst, hf.trans (by rw [hfixed.flights]), hseq,
      hpos.trans hfixed.vpos, ht0, hlaunch, hvpos.trans (by rw [hfixed.vpos])⟩
  case resolve =>
    obtain ⟨h, hexec, hflights, htag, hh⟩ := exec_vectorResolve hf
    obtain ⟨a, b, hgang⟩ := (s.setGang n h).takeOutcome_gang n f
    rw [State.gang_setGang] at hgang
    obtain ⟨kflights, ktag, kfail, kcount⟩ := State.settle_keeps (s := (s.setGang n h).takeOutcome n f) (n := n)
      (by rw [hgang]; exact hh.trans hheld)
    obtain ⟨stag, sfail⟩ := State.takeOutcome_shows (s := s.setGang n h) (n := n) (f := f)
    refine ⟨_, hexec, kflights.trans ((congrArg Gang.flights hgang).trans hflights), fun h0 h16 hs => ?_, fun hfail hno => ?_⟩
    · unfold State.tagRes at stag ⊢
      rw [ktag]
      exact stag h0 h16 (by rw [State.gang_setGang, htag]; exact hs)
    · obtain ⟨hflag, hcount⟩ := sfail hfail hno
      exact ⟨beq_iff_eq.2 (kfail.trans hflag), kcount.trans hcount⟩

end Sys2Proof.Machine
end

/-! ### Scope: the micro-operations -/

section
namespace Sys2Proof.Machine

open Sys2Proof

/-! #### U registers and flags (R169, R170) -/

/-- What a register reads after a write; U0 ignores it. -/
theorem MicroSt.reg_setReg (x : MicroSt) (d v k : Nat) :
    (x.setReg d v).reg k = if k = d ∧ k ≠ 0 then v % 2 ^ 32 else x.reg k := by
  unfold MicroSt.setReg
  by_cases hd : d = 0
  · rw [if_pos hd, if_neg fun h => h.2 (h.1.trans hd)]
  · rw [if_neg hd]
    simp only [MicroSt.reg, NStore.at_set]
    by_cases hk : k = 0
    · simp [hk]
    · simp [hk]

@[simp] theorem MicroSt.setReg_z (x : MicroSt) (d v : Nat) : (x.setReg d v).z = x.z := by unfold MicroSt.setReg; split <;> rfl
@[simp] theorem MicroSt.setReg_n (x : MicroSt) (d v : Nat) : (x.setReg d v).n = x.n := by unfold MicroSt.setReg; split <;> rfl
@[simp] theorem MicroSt.setReg_c (x : MicroSt) (d v : Nat) : (x.setReg d v).c = x.c := by unfold MicroSt.setReg; split <;> rfl
@[simp] theorem MicroSt.setReg_npc (x : MicroSt) (d v : Nat) : (x.setReg d v).npc = x.npc := by unfold MicroSt.setReg; split <;> rfl

/-- The engine y is x with `v` written to register `d` where one is named, and with these flags and this NPC. -/
structure MicroSt.Wrote (x y : MicroSt) (d : Option Nat) (v : Nat) (z ng c : Bool) (npc : PAddr) : Prop where
  reg : ∀ k, y.reg k = if some k = d ∧ k ≠ 0 then v % 2 ^ 32 else x.reg k
  z : y.z = z
  n : y.n = ng
  c : y.c = c
  npc : y.npc = npc

theorem MicroSt.Wrote.refl (x : MicroSt) : x.Wrote x none 0 x.z x.n x.c x.npc := ⟨fun _ => rfl, rfl, rfl, rfl, rfl⟩

theorem MicroSt.setReg_wrote (x : MicroSt) (d v : Nat) : x.Wrote (x.setReg d v) (some d) v x.z x.n x.c x.npc :=
  ⟨fun k => by simp only [x.reg_setReg, Option.some.injEq], by simp, by simp, by simp, by simp⟩

section
variable {x y : MicroSt} {d : Option Nat} {v : Nat} {z ng c : Bool} {npc : PAddr}

/-- Z and N of a result (R171). -/
theorem MicroSt.Wrote.zn (h : x.Wrote y d v z ng c npc) {w : Nat} {z' : Bool} (hz : (w % 2 ^ 32 == 0) = z') :
    x.Wrote (y.zn w) d v z' (hasBit w 31) c npc := ⟨h.reg, hz, rfl, h.c, h.npc⟩

theorem MicroSt.Wrote.carry (h : x.Wrote y d v z ng c npc) (c' : Bool) : x.Wrote { y with c := c' } d v z ng c' npc :=
  ⟨h.reg, h.z, h.n, rfl, h.npc⟩

theorem MicroSt.Wrote.toNpc (h : x.Wrote y d v z ng c npc) (a : PAddr) : x.Wrote { y with npc := a } d v z ng c a :=
  ⟨h.reg, h.z, h.n, h.c, rfl⟩

end

/-- A result within 32 bits is zero where it is 0. -/
theorem mod_word_beq (w : Nat) : (w % 2 ^ 32 % 2 ^ 32 == 0) = (w % 2 ^ 32 == 0) := by rw [Nat.mod_mod]

/-- ADD, SUB, AND, OR, XOR write their result and its flags. -/
theorem MicroSt.alu_wrote (x : MicroSt) (m : Nat) {op v : Nat} {z c : Bool}
    (hv : x.alu m op = { (x.setReg (uRd m) v).zn v with c := c }) (hz : (v % 2 ^ 32 == 0) = z) :
    x.Wrote (x.alu m op) (some (uRd m)) v z (hasBit v 31) c x.npc :=
  hv ▸ ((x.setReg_wrote _ v).zn hz).carry c

theorem MicroSt.alu_sub (x : MicroSt) (m : Nat) :
    let diff := (x.reg (uRa m) + 2 ^ 32 - x.src m) % 2 ^ 32
    x.alu m 5 = { (x.setReg (uRd m) diff).zn diff with c := decide (x.reg (uRa m) < x.src m) } := by simp [MicroSt.alu]

/-! #### A micro-op carried out (R168) -/

/-- The context in which an engine that is ready carries out its micro-op. -/
abbrev microCtx (n : Nat) (p : Path) (pod : Nat) (th : Thread) (m : Nat) : MCtx := ⟨n, p, pod, th, m, th.wordSeq⟩

theorem MicroSt.advance_upc (x y : MicroSt) (m : Nat) (jump : Option Nat) (now : Stamp) :
    (x.advance y m jump now).upc = jump.getD (x.upc + 1) % 2048 := by cases jump <;> rfl

theorem Thread.micro_setMicro (t : Thread) (pod : Nat) (y : MicroSt) (q : Nat) :
    (t.setMicro pod y).micro q = if q = pod then y else t.micro q := NStore.at_set ..

theorem Gang.thread_setThread_of {g : Gang} {p : Path} {t : Thread} (h : g.thread p = some t) (t' : Thread) :
    (g.setThread p t').thread p = some t' := by rw [Gang.thread_setThread, h]; rfl

theorem Gang.queue_setThread (g : Gang) (p : Path) (t : Thread) : (g.setThread p t).queue p = g.queue p := by
  cases p with
  | main => rfl
  | sprout => cases h : g.sprout <;> simp [Gang.setThread, Gang.queue, h]

theorem Gang.effsOf_setThread (g : Gang) (p : Path) (t : Thread) : (g.setThread p t).effsOf p = g.effsOf p := by
  cases p with
  | main => rfl
  | sprout => cases h : g.sprout <;> simp [Gang.setThread, Gang.effsOf, h]

section
variable {s u : State} {pod n uop m : Nat} {p : Path} {th th' : Thread} {y : MicroSt}
  {act : MCtx → MicroSt → State → MRes} {jump : MicroSt → Nat → Option Nat}

/-- A micro-op of an engine that is ready comes to what its effect says: an engine error, a wait, or the engine moved on. -/
theorem MicroReady.carried (h : MicroReady s pod p uop n th m) (act : MCtx → MicroSt → State → MRes) (jump : MicroSt → Nat → Option Nat) :
    (∀ code, act (microCtx n p pod th m) (th.micro pod) s = .err code →
      s.micro pod p uop act jump = s.engineErr n p code th.wordSeq th.word pod) ∧
    (∀ u, act (microCtx n p pod th m) (th.micro pod) s = .wait u → s.micro pod p uop act jump = u) ∧
    ∀ y u th', act (microCtx n p pod th m) (th.micro pod) s = .go y u → (u.gang n).thread p = some th' →
      ∃ stepped brks, s.micro pod p uop act jump = u.setGang n { (u.gang n).setThread p
        (th'.setMicro pod ((th.micro pod).advance y m (jump (th.micro pod) m) u.now)) with stepped := stepped, brks := brks } := by
  have hsprout : (p == .sprout && !(((s.gang n).sprout.map (fun sp => sp.stop == 0)).getD false)) = false := by
    cases p with
    | main => rfl
    | sprout =>
      obtain ⟨x, hx, hstop⟩ := h.sprout rfl
      simp [hx, hstop]
  have hsaved : (s.gstate n == stSaved) = false := beq_false_of_ne h.unsaved
  unfold State.micro
  simp only [h.site, h.path, h.prep, hsaved, h.routine, h.active, h.undone, h.goes, h.held, h.due, hsprout, h.here, h.op, h.limit,
    h.region, h.more, Bool.not_true, Bool.or_self, Option.isSome_none, Bool.false_eq_true, if_false, ne_eq, not_true_eq_false]
  refine ⟨fun code ha => ?_, fun u ha => ?_, fun y u th' ha ht => ?_⟩
  · rw [ha]
  · rw [ha]
  · rw [ha]
    simp only [ht]
    exact ⟨_, _, rfl⟩

theorem MicroReady.waits (h : MicroReady s pod p uop n th m) (ha : act (microCtx n p pod th m) (th.micro pod) s = .wait u) :
    s.micro pod p uop act jump = u := (h.carried act jump).2.1 u ha

/-- An engine error of a micro-op of the main path is held, or has halted the gang (R161). -/
theorem MicroReady.errs (h : MicroReady s pod .main uop n th m) {code : Nat}
    (ha : act (microCtx n .main pod th m) (th.micro pod) s = .err code) (hc : code < 64) :
    (s.micro pod .main uop act jump).erred n code := by
  rw [(h.carried act jump).1 code ha]
  exact State.engineErr_erred h.held code _ _ pod [] hc

/-- A micro-op that goes on leaves its path's thread as its effect left it, but for the engine, which has moved on, and the path's
queues as its effect left them. -/
theorem MicroReady.path_goes (h : MicroReady s pod p uop n th m) (ha : act (microCtx n p pod th m) (th.micro pod) s = .go y u)
    (ht : (u.gang n).thread p = some th') :
    let g := (s.micro pod p uop act jump).gang n
    g.thread p = some (th'.setMicro pod ((th.micro pod).advance y m (jump (th.micro pod) m) u.now)) ∧
      g.queue p = (u.gang n).queue p ∧ g.effsOf p = (u.gang n).effsOf p := by
  obtain ⟨-, -, hgo⟩ := h.carried act jump
  obtain ⟨stepped, brks, hmicro⟩ := hgo y u th' ha ht
  rw [hmicro, State.gang_setGang]
  exact ⟨Gang.thread_setThread_of ht _, Gang.queue_setThread .., Gang.effsOf_setThread ..⟩

/-- The engine of a micro-op that goes on. -/
theorem MicroReady.engine_goes (h : MicroReady s pod p uop n th m) (ha : act (microCtx n p pod th m) (th.micro pod) s = .go y u)
    (ht : (u.gang n).thread p = some th') :
    (s.micro pod p uop act jump).engine n p pod = some ((th.micro pod).advance y m (jump (th.micro pod) m) u.now) := by
  obtain ⟨hthread, -, -⟩ := h.path_goes (jump := jump) ha ht
  rw [State.engine, hthread, Option.map_some, Thread.micro_setMicro, if_pos rfl]

/-- A micro-op whose effect leaves the path's engines wrote what its engine shows. -/
theorem MicroReady.wrote (h : MicroReady s pod p uop n th m) (ha : act (microCtx n p pod th m) (th.micro pod) s = .go y u)
    (ht : (u.gang n).thread p = some th') (hcpu : th'.cpu = th.cpu) {d : Option Nat} {v : Nat} {z ng c : Bool} {npc : PAddr}
    (hy : (th.micro pod).Wrote y d v z ng c npc) :
    s.engineWrote (s.micro pod p uop act jump) n p pod d v z ng c npc ((jump (th.micro pod) m).getD ((th.micro pod).upc + 1)) := by
  obtain ⟨hthread, -, -⟩ := h.path_goes (jump := jump) ha ht
  refine ⟨th.micro pod, _, ?_, h.engine_goes ha ht, hy.reg, hy.z, hy.n, hy.c, hy.npc, MicroSt.advance_upc .., fun q hq => ?_⟩
  · rw [State.engine, h.path, Option.map_some]
  · rw [State.engine, State.engine, hthread, h.path, Option.map_some, Option.map_some, Thread.micro_setMicro, if_neg hq]
    exact congrArg (fun l : NStore MicroSt => some (l.at {} q)) hcpu

/-- A micro-op that changes its engine alone. -/
theorem MicroReady.wrote_alone (h : MicroReady s pod p uop n th m) (ha : act (microCtx n p pod th m) (th.micro pod) s = .go y s)
    {d : Option Nat} {v : Nat} {z ng c : Bool} {npc : PAddr} (hy : (th.micro pod).Wrote y d v z ng c npc) :
    s.engineWrote (s.micro pod p uop act jump) n p pod d v z ng c npc ((jump (th.micro pod) m).getD ((th.micro pod).upc + 1)) :=
  h.wrote ha h.path rfl hy

theorem MicroReady.pure_wrote (h : MicroReady s pod p uop n th m) {f : MicroSt → Nat → MicroSt} {d : Option Nat} {v : Nat}
    {z ng c : Bool} {npc : PAddr} (hy : (th.micro pod).Wrote (f (th.micro pod) m) d v z ng c npc) :
    s.engineWrote (s.microPure pod p uop f) n p pod d v z ng c npc ((th.micro pod).upc + 1) :=
  h.wrote_alone (jump := fun _ _ => none) rfl hy

end

/-- Settles O15: each micro-op by what it writes of its engine. -/
theorem microRegisters : Obligations.MicroRegisters := by
  unfold Obligations.MicroRegisters
  intro s pod p n th m x i uop d v z ng c npc h hx hmem
  subst hx
  simp only [List.mem_cons, List.not_mem_nil, or_false] at hmem
  rcases hmem with e | e | e | e | e | e | e | e | e | e | e | e | e | e <;> cases e
  · exact ⟨_, rfl, h.pure_wrote (.refl _)⟩
  · exact ⟨_, rfl, h.pure_wrote (MicroSt.setReg_wrote ..)⟩
  · exact ⟨_, rfl, h.pure_wrote (MicroSt.setReg_wrote ..)⟩
  · exact ⟨_, rfl, h.pure_wrote (MicroSt.setReg_wrote ..)⟩
  · exact ⟨_, rfl, h.pure_wrote (MicroSt.alu_wrote _ m rfl (mod_word_beq _))⟩
  · exact ⟨_, rfl, h.pure_wrote (MicroSt.alu_wrote _ m (MicroSt.alu_sub ..) (mod_word_beq _))⟩
  · exact ⟨_, rfl, h.pure_wrote (MicroSt.alu_wrote _ m rfl rfl)⟩
  · exact ⟨_, rfl, h.pure_wrote (MicroSt.alu_wrote _ m rfl rfl)⟩
  · exact ⟨_, rfl, h.pure_wrote (MicroSt.alu_wrote _ m rfl rfl)⟩
  · exact ⟨_, rfl, h.pure_wrote ((MicroSt.setReg_wrote ..).zn (mod_word_beq _))⟩
  · exact ⟨_, rfl, h.pure_wrote ((MicroSt.setReg_wrote ..).zn rfl)⟩
  · exact ⟨_, rfl, h.pure_wrote (MicroSt.setReg_wrote ..)⟩
  · exact ⟨_, rfl, h.pure_wrote (((MicroSt.Wrote.refl _).zn (mod_word_beq _)).carry _)⟩
  · exact ⟨_, rfl, h.wrote_alone rfl ((MicroSt.Wrote.refl _).toNpc _)⟩

/-! #### Micro-branches, micro-calls, errors (R171, R176) -/

/-- A micro-op that changes its engine's micro-stack alone goes on where its jump says. -/
theorem MicroReady.sequenced {s : State} {pod n uop m : Nat} {p : Path} {th : Thread} (h : MicroReady s pod p uop n th m)
    {act : MCtx → MicroSt → State → MRes} {jump : MicroSt → Nat → Option Nat} {st : List Nat} {upc : Nat}
    (ha : act (microCtx n p pod th m) (th.micro pod) s = .go { th.micro pod with ustack := st } s)
    (hj : (jump (th.micro pod) m).getD ((th.micro pod).upc + 1) = upc) :
    s.engineWrote (s.micro pod p uop act jump) n p pod none 0 (th.micro pod).z (th.micro pod).n (th.micro pod).c (th.micro pod).npc upc ∧
      ((s.micro pod p uop act jump).engine n p pod).map (·.ustack) = some st :=
  ⟨hj ▸ h.wrote_alone ha ⟨fun _ => rfl, rfl, rfl, rfl, rfl⟩, by rw [h.engine_goes ha h.path]; rfl⟩

/-- Settles O16: each micro-op by the micro-address that it goes on at. -/
theorem microSequencing : Obligations.MicroSequencing := by
  unfold Obligations.MicroSequencing
  intro s pod p n th m x hx
  subst hx
  refine ⟨fun h => ⟨_, rfl, h.sequenced (st := (th.micro pod).ustack) rfl (by split <;> rfl)⟩,
    fun h hl => ⟨_, rfl, h.sequenced (if_neg (Nat.not_le.2 hl)) rfl⟩, fun h hl => ⟨_, rfl, h.errs (if_pos hl) (by decide)⟩,
    fun h a rest hs => ⟨_, rfl, h.sequenced (st := rest) (by simp only [hs]) (by simp only [hs]; rfl)⟩,
    fun h hs => ⟨_, rfl, h.errs (by simp only [hs]) (by decide)⟩, fun h => ⟨_, rfl, h.errs rfl (by omega)⟩⟩

end Sys2Proof.Machine
end

/-! ### Scope: micro-operations on the stacks of a path -/

section
namespace Sys2Proof.Machine

open Sys2Proof

theorem State.onThread_thread {s : State} {c : MCtx} {th : Thread} (h : (s.gang c.n).thread c.p = some th) (f : Thread → Thread) :
    ((s.onThread c f).gang c.n).thread c.p = some (f th) := by
  unfold State.onThread
  simp only [h, State.gang_setGang]
  exact Gang.thread_setThread_of h _

/-! #### Micro-ops of a gang (R177) -/

section
variable {s u : State} {c : MCtx} {x : MicroSt} {kind a b r : Nat} {th : Thread} {o : GangOp}
  {first : State → Except Nat (Option (Nat × State))} {fin : Nat → MicroSt → MicroSt}

/-- A thread whose gang has done one more operation. -/
def Thread.did (t : Thread) (o : GangOp) : Thread := { t with gangOps := t.gangOps ++ [o] }

/-- The first engine of a gang carries the operation out, notes it with its result, and takes the result. -/
theorem gangOp_first (hn : c.th.gangOps[x.opIdx]? = none) (hf : first s = .ok (some (r, u))) (ht : (u.gang c.n).thread c.p = some th) :
    gangOp c x s kind a b first fin = .go { fin r x with opIdx := x.opIdx + 1 }
      (u.setGang c.n ((u.gang c.n).setThread c.p (th.did ⟨kind, a, b, r⟩))) := by
  unfold gangOp
  simp only [hn, hf, ht]
  rfl

theorem gangOp_error (hn : c.th.gangOps[x.opIdx]? = none) {code : Nat} (hf : first s = .error code) :
    gangOp c x s kind a b first fin = .err code := by
  unfold gangOp
  simp only [hn, hf]

/-- A later engine that does the same takes the result of the first. -/
theorem gangOp_same (ho : c.th.gangOps[x.opIdx]? = some o) (hk : o.kind = kind) (ha : o.a = a) (hb : o.b = b) :
    gangOp c x s kind a b first fin = .go { fin o.res x with opIdx := x.opIdx + 1 } s := by
  unfold gangOp
  simp only [ho, hk, ha, hb, ne_eq, not_true_eq_false, or_self, if_false]

/-- A later engine that does another operation is error LOCKSTEP. -/
theorem gangOp_differs (ho : c.th.gangOps[x.opIdx]? = some o) (hk : o.kind ≠ kind) :
    gangOp c x s kind a b first fin = .err erLockstep := by
  unfold gangOp
  simp only [ho]
  rw [if_pos (.inl hk)]

end

section
variable {s u : State} {pod n uop m kind a b r : Nat} {p : Path} {th th' : Thread} {o : GangOp} {z : Bool}
  {act : MCtx → MicroSt → State → MRes} {jump : MicroSt → Nat → Option Nat}
  {first : State → Except Nat (Option (Nat × State))} {fin : Nat → MicroSt → MicroSt}

/-- The first engine at a micro-op of the stacks leaves them as its effect left them, and shows its result. -/
theorem MicroReady.first_stacks (h : MicroReady s pod p uop n th m) (hn : th.gangOps[(th.micro pod).opIdx]? = none)
    (hact : act (microCtx n p pod th m) (th.micro pod) s = gangOp (microCtx n p pod th m) (th.micro pod) s kind a b first fin)
    (hf : first s = .ok (some (r, u))) (ht : (u.gang n).thread p = some th') (hz : (fin r (th.micro pod)).z = z) :
    (s.micro pod p uop act jump).stacks n p pod th'.loops th'.calls th'.mctr z ∧
      ((s.micro pod p uop act jump).engine n p pod).map (·.npc) = some (fin r (th.micro pod)).npc := by
  have hgo := hact.trans (gangOp_first (c := microCtx n p pod th m) hn hf ht)
  have ht' : ((u.setGang n ((u.gang n).setThread p (th'.did ⟨kind, a, b, r⟩))).gang n).thread p = some (th'.did ⟨kind, a, b, r⟩) := by
    rw [State.gang_setGang]
    exact Gang.thread_setThread_of ht _
  obtain ⟨hthread, -, -⟩ := h.path_goes (jump := jump) hgo ht'
  refine ⟨⟨_, hthread, rfl, rfl, rfl, ?_⟩, by rw [h.engine_goes hgo ht']; rfl⟩
  rw [Thread.micro_setMicro, if_pos rfl]
  exact hz

/-- The first engine's error is one of the main path (R161). -/
theorem MicroReady.first_errs (h : MicroReady s pod p uop n th m) (hn : th.gangOps[(th.micro pod).opIdx]? = none)
    (hact : act (microCtx n p pod th m) (th.micro pod) s = gangOp (microCtx n p pod th m) (th.micro pod) s kind a b first fin)
    (hp : p = .main) {code : Nat} (hf : first s = .error code) (hc : code < 64) : (s.micro pod p uop act jump).erred n code := by
  subst hp
  exact h.errs (hact.trans (gangOp_error hn hf)) hc

/-- A later engine that does the same leaves the stacks, and shows the result of the first. -/
theorem MicroReady.later_stacks (h : MicroReady s pod p uop n th m) (ho : th.gangOps[(th.micro pod).opIdx]? = some o)
    (hact : act (microCtx n p pod th m) (th.micro pod) s = gangOp (microCtx n p pod th m) (th.micro pod) s kind a b first fin)
    (hk : o.kind = kind) (ha : o.a = a) (hb : o.b = b) (hz : (fin o.res (th.micro pod)).z = z) :
    (s.micro pod p uop act jump).stacks n p pod th.loops th.calls th.mctr z ∧
      ((s.micro pod p uop act jump).engine n p pod).map (·.npc) = some (fin o.res (th.micro pod)).npc := by
  have hgo := hact.trans (gangOp_same (c := microCtx n p pod th m) ho hk ha hb)
  obtain ⟨hthread, -, -⟩ := h.path_goes (jump := jump) hgo h.path
  refine ⟨⟨_, hthread, rfl, rfl, rfl, ?_⟩, by rw [h.engine_goes hgo h.path]; rfl⟩
  rw [Thread.micro_setMicro, if_pos rfl]
  exact hz

end

/-! #### LSTK, CSTK, MCTR (R171) -/

/-- What an engine makes of the result of LSTK and MCTR: Z of a decrement. -/
def zFrom (m r : Nat) (x : MicroSt) : MicroSt := if uKsub m = 1 then { x with z := r == 1 } else x

/-- What an engine makes of the result of CSTK: the NPC of a pop. -/
def npcFrom (m r : Nat) (x : MicroSt) : MicroSt :=
  if uKsub m = 1 ∧ r > 0 then { x with npc := ⟨(r - 1) % 64, (r - 1) / 64⟩ } else x

theorem zFrom_z (m r : Nat) (x : MicroSt) : (zFrom m r x).z = if uKsub m = 1 then r == 1 else x.z := by unfold zFrom; split <;> rfl

theorem npcFrom_z (m r : Nat) (x : MicroSt) : (npcFrom m r x).z = x.z := by unfold npcFrom; split <;> rfl

theorem npcFrom_popped {m : Nat} {x : MicroSt} {a : PAddr} (hk : uKsub m = 1) (ha : a.seg < 64) :
    (npcFrom m (a.seg + 64 * a.off + 1) x).npc = a := by
  rw [npcFrom, if_pos ⟨hk, Nat.succ_pos _⟩, PAddr.mk.injEq]
  omega

theorem ofBool_beq_one (b : Bool) : (ofBool b == 1) = b := by cases b <;> rfl

/-- LSTK is a micro-op of the gang; what its first engine does, by sub-operation and by the loops that are open. -/
theorem lstkAct_first (c : MCtx) (x : MicroSt) (s : State) :
    let v := x.reg (uKra c.m)
    ∃ first, lstkAct c x s = gangOp c x s (0x1500 + uKsub c.m) (if uKsub c.m = 0 then v else if uKsub c.m = 2 then v % 4 else 0)
        (if uKsub c.m = 0 then PAddr.num x.npc else 0) first (zFrom c.m) ∧
      (uKsub c.m = 0 → c.th.loops.length < 4 →
        first s = .ok (some (0, s.onThread c fun t => { t with loops := ⟨x.npc, v, t.calls.length⟩ :: t.loops }))) ∧
      (uKsub c.m = 0 → 4 ≤ c.th.loops.length → first s = .error erLoopOvf) ∧
      (uKsub c.m = 1 → ∀ e rest, c.th.loops = e :: rest → e.count = 0 → first s = .ok (some (1, s))) ∧
      (uKsub c.m = 1 → ∀ e rest, c.th.loops = e :: rest → e.count ≠ 0 →
        first s = .ok (some (0, s.onThread c fun t => { t with loops := { e with count := e.count - 1 } :: rest }))) ∧
      (uKsub c.m = 1 → c.th.loops = [] → first s = .error erLoopUnf) ∧
      (uKsub c.m = 2 → v % 4 ≤ c.th.loops.length →
        first s = .ok (some (0, s.onThread c fun _ => { c.th with loops := c.th.loops.drop (v % 4) }))) ∧
      (uKsub c.m = 2 → c.th.loops.length < v % 4 → first s = .error erLoopUnf) := by
  unfold lstkAct
  refine ⟨_, rfl, fun hk hl => ?_, fun hk hl => ?_, fun hk e rest he hc => ?_, fun hk e rest he hc => ?_, fun hk he => ?_,
    fun hk hl => ?_, fun hk hl => ?_⟩
  all_goals simp only [hk, reduceIte, Nat.reduceEqDiff]
  · rw [if_neg (Nat.not_le.2 hl)]
  · rw [if_pos hl]
  · simp only [he, hc, if_true]
  · simp only [he, hc, if_false]
  · simp only [he]
  · simp only [popLoops_of_le hl]
  · simp only [popLoops_of_lt hl]

/-- CSTK is a micro-op of the gang; what its first engine does, by sub-operation and by the calls and loops that are open. -/
theorem cstkAct_first (c : MCtx) (x : MicroSt) (s : State) :
    ∃ first, cstkAct c x s = gangOp c x s (0x1600 + uKsub c.m) (if uKsub c.m = 0 then PAddr.num x.npc else 0) 0 first (npcFrom c.m) ∧
      (uKsub c.m = 0 → c.th.calls.length < 16 →
        first s = .ok (some (0, s.onThread c fun t => { t with calls := x.npc :: t.calls }))) ∧
      (uKsub c.m = 0 → 16 ≤ c.th.calls.length → first s = .error erCstkOvf) ∧
      (uKsub c.m = 1 → ∀ a rest, c.th.calls = a :: rest → (∀ e ∈ c.th.loops.head?, e.depth ≠ c.th.calls.length) →
        first s = .ok (some (a.seg + 64 * a.off + 1, s.onThread c fun t => { t with calls := rest }))) ∧
      (uKsub c.m = 1 → c.th.calls = [] → first s = .error erCstkUnf) ∧
      (uKsub c.m = 1 → ∀ a rest e l, c.th.calls = a :: rest → c.th.loops = e :: l → e.depth = c.th.calls.length →
        first s = .error erLoopRet) := by
  unfold cstkAct
  refine ⟨_, rfl, fun hk hl => ?_, fun hk hl => ?_, fun hk a rest ha hd => ?_, fun hk ha => ?_, fun hk a rest e l ha he hd => ?_⟩
  all_goals simp only [hk, reduceIte, Nat.reduceEqDiff]
  · rw [if_neg (Nat.not_le.2 hl)]
  · rw [if_pos hl]
  · rw [ha] at hd ⊢
    cases hloops : c.th.loops with
    | nil => rfl
    | cons e l =>
      have hne : (e.depth == (a :: rest).length) = false := beq_false_of_ne (hd e (by rw [hloops]; rfl))
      simp only [hne, Bool.false_eq_true, if_false]
  · simp only [ha]
  · have heq : (e.depth == (a :: rest).length) = true := beq_iff_eq.2 (ha ▸ hd)
    simp only [ha, he, heq, if_true]

/-- MCTR is a micro-op of the gang; what its first engine does, by sub-operation and by the word that the counter is armed for. -/
theorem mctrAct_first (c : MCtx) (x : MicroSt) (s : State) :
    let v := x.reg (uKra c.m)
    ∃ first, mctrAct c x s = gangOp c x s (0x1700 + uKsub c.m) (if uKsub c.m = 0 then v else 0) 0 first (zFrom c.m) ∧
      ((∀ k ∈ c.th.mctr, k.2 = c.th.word) → uKsub c.m = 0 →
        first s = .ok (some (0, s.onThread c fun t => { t with mctr := some (v, t.word), mtarget := none }))) ∧
      (uKsub c.m = 1 → ∀ k, c.th.mctr = some (k, c.th.word) →
        first s = .ok (some (ofBool (k == 0), s.onThread c fun t => { t with mctr := some (k - 1, t.word) }))) ∧
      (uKsub c.m < 2 → ∀ k w, c.th.mctr = some (k, w) → w ≠ c.th.word → first s = .error erMnest) ∧
      (uKsub c.m = 2 → first s = .ok (some (0, s.onThread c fun t => { t with mctr := none, mtarget := none }))) := by
  unfold mctrAct
  refine ⟨_, rfl, fun hm hk => ?_, fun hk k hm => ?_, fun hk k w hm hw => ?_, fun hk => ?_⟩
  · simp only [hk, reduceIte]
    cases hctr : c.th.mctr with
    | none => rfl
    | some k => simp only [hm k hctr, bne_self_eq_false, Bool.false_eq_true, if_false]
  · simp only [hk, reduceIte, Nat.reduceEqDiff, hm, bne_self_eq_false, Bool.false_eq_true]
  · have hsub : uKsub c.m = 0 ∨ uKsub c.m = 1 := by omega
    have hother : (w != c.th.word) = true := bne_iff_ne.2 hw
    rcases hsub with hk | hk <;> simp only [hk, hm, hother, reduceIte, Nat.reduceEqDiff]
  · simp only [hk, reduceIte, Nat.reduceEqDiff]

/-- Settles O17: what the first engine does by sub-operation, then what a later one takes or finds to differ. -/
theorem microStacks : Obligations.MicroStacks := by
  unfold Obligations.MicroStacks
  intro s pod p n th m x v hx hv
  subst hx hv
  have hz {r : Nat} (hk : uKsub m ≠ 1) : (zFrom m r (th.micro pod)).z = (th.micro pod).z := by rw [zFrom_z, if_neg hk]
  have hzdec {r : Nat} (hk : uKsub m = 1) : (zFrom m r (th.micro pod)).z = (r == 1) := by rw [zFrom_z, if_pos hk]
  obtain ⟨lfirst, hlstk, lpush, lfull, llast, lmore, lnone, lpop, lfew⟩ := lstkAct_first (microCtx n p pod th m) (th.micro pod) s
  obtain ⟨cfirst, hcstk, cpush, cfull, cpop, cnone, cloop⟩ := cstkAct_first (microCtx n p pod th m) (th.micro pod) s
  obtain ⟨mfirst, hmctr, mload, mdec, mnest, midle⟩ := mctrAct_first (microCtx n p pod th m) (th.micro pod) s
  refine ⟨fun hn => ⟨fun h => ?lstk, fun h => ?cstk, fun h => ?mctr⟩, fun o ho => ⟨fun h hkind ha hb => ?lstk', fun h hkind ha hb => ?cstk',
    fun h hkind ha hb => ?mctr', fun i u hi hp h hkind => ?differs⟩⟩
  case lstk =>
    refine ⟨fun hk hl => ⟨_, rfl, ?_⟩, fun hk hl hp => ⟨_, rfl, h.first_errs hn hlstk hp (lfull hk hl) (by decide)⟩,
      fun hk e rest he => ⟨_, rfl, ?_⟩, fun hk he hp => ⟨_, rfl, h.first_errs hn hlstk hp (lnone hk he) (by decide)⟩,
      fun hk hl => ⟨_, rfl, ?_⟩, fun hk hl hp => ⟨_, rfl, h.first_errs hn hlstk hp (lfew hk hl) (by decide)⟩⟩
    · exact (h.first_stacks hn hlstk (lpush hk hl) (State.onThread_thread h.path _) (hz (by omega))).1
    · by_cases hc : e.count = 0
      · obtain ⟨hstacks, -⟩ := h.first_stacks (jump := fun _ _ => none) hn hlstk (llast hk e rest he hc) h.path (hzdec hk)
        rw [if_pos hc, ← he, hc]
        exact hstacks
      · obtain ⟨hstacks, -⟩ := h.first_stacks (jump := fun _ _ => none) hn hlstk (lmore hk e rest he hc)
          (State.onThread_thread h.path _) (hzdec hk)
        rw [if_neg hc, beq_false_of_ne hc]
        exact hstacks
    · exact (h.first_stacks hn hlstk (lpop hk hl) (State.onThread_thread h.path _) (hz (by omega))).1
  case cstk =>
    refine ⟨fun hk hl => ⟨_, rfl, ?_⟩, fun hk hl hp => ⟨_, rfl, h.first_errs hn hcstk hp (cfull hk hl) (by decide)⟩,
      fun hk a rest ha hseg hd => ⟨_, rfl, ?_⟩, fun hk ha hp => ⟨_, rfl, h.first_errs hn hcstk hp (cnone hk ha) (by decide)⟩,
      fun hk a rest e l ha he hd hp => ⟨_, rfl, h.first_errs hn hcstk hp (cloop hk a rest e l ha he hd) (by decide)⟩⟩
    · exact (h.first_stacks hn hcstk (cpush hk hl) (State.onThread_thread h.path _) (npcFrom_z ..)).1
    · obtain ⟨hstacks, hnpc⟩ := h.first_stacks (jump := fun _ _ => none) hn hcstk (cpop hk a rest ha hd)
        (State.onThread_thread h.path _) (npcFrom_z ..)
      exact ⟨hstacks, hnpc.trans (congrArg some (npcFrom_popped hk hseg))⟩
  case mctr =>
    refine ⟨fun hm hk => ⟨_, rfl, ?_⟩, fun hk k hm => ⟨_, rfl, ?_⟩,
      fun hk k w hm hw hp => ⟨_, rfl, h.first_errs hn hmctr hp (mnest hk k w hm hw) (by decide)⟩, fun hk => ⟨_, rfl, ?_⟩⟩
    · exact (h.first_stacks hn hmctr (mload hm hk) (State.onThread_thread h.path _) (hz (by omega))).1
    · exact (h.first_stacks hn hmctr (mdec hk k hm) (State.onThread_thread h.path _) ((hzdec hk).trans (ofBool_beq_one _))).1
    · exact (h.first_stacks hn hmctr (midle hk) (State.onThread_thread h.path _) (hz (by omega))).1
  case lstk' => exact ⟨_, rfl, (h.later_stacks ho hlstk hkind ha hb (zFrom_z ..)).1⟩
  case cstk' =>
    obtain ⟨hstacks, hnpc⟩ := h.later_stacks (jump := fun _ _ => none) ho hcstk hkind ha hb (npcFrom_z ..)
    exact ⟨_, rfl, hstacks, fun hk hr => hnpc.trans (by rw [npcFrom, if_pos ⟨hk, hr⟩])⟩
  case mctr' => exact ⟨_, rfl, (h.later_stacks ho hmctr hkind ha hb (zFrom_z ..)).1⟩
  case differs =>
    subst hp
    simp only [List.mem_cons, List.not_mem_nil, or_false] at hi
    rcases hi with e | e | e <;> cases e
    · exact ⟨_, rfl, h.errs (hlstk.trans (gangOp_differs ho hkind)) (by decide)⟩
    · exact ⟨_, rfl, h.errs (hcstk.trans (gangOp_differs ho hkind)) (by decide)⟩
    · exact ⟨_, rfl, h.errs (hmctr.trans (gangOp_differs ho hkind)) (by decide)⟩

end Sys2Proof.Machine
end

/-! ### Scope: micro-operations on the state of a site -/

section
namespace Sys2Proof.Machine

open Sys2Proof

/-! #### What becomes known of a gang leaves its paths -/

section
variable {g h : Gang}

theorem Gang.Fixed.thread (hf : g.Fixed h) (p : Path) : h.thread p = g.thread p := by
  cases p with
  | main => exact congrArg some hf.main
  | sprout => exact congrArg (Option.map (·.th)) hf.sprout

theorem Gang.Fixed.effsOf (hf : g.Fixed h) (p : Path) : h.effsOf p = g.effsOf p := by
  cases p with
  | main => exact hf.effs
  | sprout => rw [Gang.effsOf, hf.sprout, Gang.effsOf]

end

theorem State.fix_thread (s : State) (n : Nat) (p : Path) : ((s.fix n).gang n).thread p = (s.gang n).thread p := by
  rw [s.fix_gang]
  exact (Gang.fix_fixed ..).thread p

theorem State.fix_effsOf (s : State) (n : Nat) (p : Path) : ((s.fix n).gang n).effsOf p = (s.gang n).effsOf p := by
  rw [s.fix_gang]
  exact (Gang.fix_fixed ..).effsOf p

theorem State.fix_setGang_main (s : State) (n : Nat) {g : Gang} {th : Thread} (h : g.main = th) :
    (((s.setGang n g).fix n).gang n).thread .main = some th := by
  rw [State.fix_thread, State.gang_setGang]
  exact congrArg some h

@[simp] theorem Gang.thread_post (g : Gang) (p : Path) (es : List SebEntry) : (g.post p es).thread p = g.thread p := by
  cases p with
  | main => rfl
  | sprout => cases h : g.sprout <;> simp [Gang.post, Gang.thread, h]

@[simp] theorem Gang.thread_setQueue (g : Gang) (p : Path) (q : List OqEntry) : (g.setQueue p q).thread p = g.thread p := by
  cases p with
  | main => rfl
  | sprout => cases h : g.sprout <;> simp [Gang.setQueue, Gang.thread, h]

theorem State.onThread_keeps (s : State) (c : MCtx) (f : Thread → Thread) :
    ((s.onThread c f).gang c.n).queue c.p = (s.gang c.n).queue c.p ∧ ((s.onThread c f).gang c.n).effsOf c.p = (s.gang c.n).effsOf c.p := by
  cases h : (s.gang c.n).thread c.p with
  | none => simp only [State.onThread, h, and_self]
  | some th => simp only [State.onThread, h, State.gang_setGang, Gang.queue_setThread, Gang.effsOf_setThread, and_self]

/-! #### GETS, COND (R170, R171) -/

/-- The values that GETS reads of the routine, the path and the gang's pods (R170). -/
theorem getsAct_reads {c : MCtx} {x : MicroSt} {s : State} {v : Nat}
    (h : (uImm9 c.m, v) ∈ [(0x00, PAddr.num c.th.word), (0x01, PAddr.num x.npc), (0x0B, (c.th.loops.head?.map (·.count)).getD 0),
      (0x0C, c.th.calls.length), (0x0D, (c.th.mctr.map (·.1)).getD 0), (0x0E, c.pod), (0x0F, s.lead c.n)]) :
    getsAct c x s = .go (x.setReg (uRd c.m) v) s := by
  simp only [List.mem_cons, List.not_mem_nil, or_false, Prod.mk.injEq] at h
  unfold getsAct
  rcases h with ⟨hsel, rfl⟩ | ⟨hsel, rfl⟩ | ⟨hsel, rfl⟩ | ⟨hsel, rfl⟩ | ⟨hsel, rfl⟩ | ⟨hsel, rfl⟩ | ⟨hsel, rfl⟩
  · simp [hsel]
  · simp [hsel]
  · simp only [hsel]
    cases c.th.loops <;> simp
  · simp [hsel]
  · simp only [hsel]
    cases c.th.mctr <;> simp
  · simp [hsel]
  · simp [hsel]

theorem condAct_known {c : MCtx} {x : MicroSt} {s : State} {v : Nat} (hs : (s.gang c.n).started = true)
    (hv : s.evalCond c.n c.p c.th c.seq (bits c.m 16 15) (bits c.m 14 11) (x.reg (bits c.m 10 7)) = some v) :
    condAct c x s = .go { x.setReg (uRd c.m) v with z := v == 0 } s := by
  simp only [condAct, hs, Bool.true_eq_false, if_false, hv]

/-- COND writes its register and Z alone. -/
theorem MicroSt.setReg_z_wrote (x : MicroSt) (d v : Nat) (z : Bool) :
    x.Wrote { x.setReg d v with z := z } (some d) v z x.n x.c x.npc :=
  let w := x.setReg_wrote d v
  ⟨w.reg, rfl, w.n, w.c, w.npc⟩

/-! #### ISSUE (R171) -/

/-- The first engine's ISSUE puts a queue entry with its vector behind the others of the path. -/
theorem MicroReady.issued {s : State} {pod n m : Nat} {p : Path} {th : Thread} (h : MicroReady s pod p 0x14 n th m)
    (hn : th.gangOps[(th.micro pod).opIdx]? = none) {vw rpt : Nat}
    (hw : (vw, rpt) = if hasBit m 20 = true then ((th.micro pod).reg (uRa m), (th.micro pod).reg (uRb m) % 65536 + 1)
      else ((th.micro pod).w % 2 ^ 32, bits (th.micro pod).w 47 32 + 1))
    (he : s.vecErr n (vwTset vw) = none) (hr : s.oqRoom n p = true) (jump : MicroSt → Nat → Option Nat) :
    ((s.micro pod p 0x14 issueAct jump).gang n).queue p =
      (s.gang n).queue p ++ [⟨th.wordSeq, (th.micro pod).opIdx, [(pod, vw)], rpt, s.now⟩] := by
  have hvw : (if hasBit m 20 = true then (th.micro pod).reg (uRa m) else (th.micro pod).w % 2 ^ 32) = vw :=
    ((congrArg Prod.fst hw).trans (apply_ite ..)).symm
  have hrpt : (if hasBit m 20 = true then (th.micro pod).reg (uRb m) % 65536 else bits (th.micro pod).w 47 32) + 1 = rpt :=
    (apply_ite (· + 1) ..).trans ((congrArg Prod.snd hw).trans (apply_ite ..)).symm
  have hpath : ((s.gang n).thread p).isSome = true := by rw [h.path]; rfl
  have ha : ∃ u f, issueAct (microCtx n p pod th m) (th.micro pod) s =
        .go { th.micro pod with opIdx := (th.micro pod).opIdx + 1 } (u.onThread (microCtx n p pod th m) f) ∧
      u = s.setGang n ((s.gang n).setQueue p
        ((s.gang n).queue p ++ [⟨th.wordSeq, (th.micro pod).opIdx, [(pod, vw)], rpt, s.now⟩])) := by
    simp only [issueAct, hn, hvw, hrpt, he, hr, Bool.true_eq_false, if_false]
    exact ⟨_, _, rfl, rfl⟩
  obtain ⟨u, f, ha, hu⟩ := ha
  have ht : (u.gang n).thread p = some th := by rw [hu, State.gang_setGang, Gang.thread_setQueue, h.path]
  obtain ⟨-, hq, -⟩ := h.path_goes (jump := jump) ha (State.onThread_thread (c := microCtx n p pod th m) ht f)
  obtain ⟨hk, -⟩ := u.onThread_keeps (microCtx n p pod th m) f
  rw [hq, hk, hu, State.gang_setGang, Gang.queue_setQueue hpath]

/-! #### SEFX (R172) -/

/-- Posting finds room, keeps the path and puts the effect behind the others. -/
theorem postMicro_posts {s : State} {c : MCtx} {th : Thread} (hr : s.roomFor c.n c.p 1) (ht : (s.gang c.n).thread c.p = some th)
    (x : MicroSt) (e : Eff) (pod : Option (Nat × Nat)) :
    ∃ u, postMicro c x e pod s = .ok u ∧ (u.gang c.n).thread c.p = some th ∧
      (u.gang c.n).effsOf c.p = (s.gang c.n).effsOf c.p ++ [e] := by
  obtain ⟨v, hv⟩ := hr
  have hkeeps : (v.gang c.n).thread c.p = some th ∧ (v.gang c.n).effsOf c.p = (s.gang c.n).effsOf c.p := by
    rcases State.room_ok hv with rfl | ⟨hp, rfl⟩
    · exact ⟨ht, rfl⟩
    · rw [hp, s.dropSprout_gang, ← ht, hp]
      exact ⟨rfl, rfl⟩
  obtain ⟨hthread, heffs⟩ := hkeeps
  simp only [postMicro, hv]
  refine ⟨_, rfl, ?_, ?_⟩
  · rw [State.fix_thread, State.gang_setGang, Gang.thread_post, hthread]
  · rw [State.fix_effsOf, State.gang_setGang, Gang.effsOf_post (by rw [hthread]; rfl), heffs]
    rfl

section
variable {s u : State} {pod n m : Nat} {p : Path} {th : Thread} {y : MicroSt} {jump : MicroSt → Nat → Option Nat}

/-- A SEFX that has posted and goes on shows what it posted. -/
theorem MicroReady.posted {act : MCtx → MicroSt → State → MRes} {effs : List Eff} (h : MicroReady s pod p 0x1C n th m)
    {f : Thread → Thread} (ha : act (microCtx n p pod th m) (th.micro pod) s = .go y (u.onThread (microCtx n p pod th m) f))
    (ht : (u.gang n).thread p = some th) (he : (u.gang n).effsOf p = effs) : ((s.micro pod p 0x1C act jump).gang n).effsOf p = effs := by
  obtain ⟨-, -, heffs⟩ := h.path_goes (jump := jump) ha (State.onThread_thread (c := microCtx n p pod th m) ht f)
  obtain ⟨-, hk⟩ := u.onThread_keeps (microCtx n p pod th m) f
  rw [heffs, hk, he]

/-- SEFX of a pod kind posts its own pod's effect (R172). -/
theorem MicroReady.sefx_pod (h : MicroReady s pod p 0x1C n th m) (hr : s.roomFor n p 1) {kind ra rb : Nat} {e : Eff}
    (hkind : kind = bits m 20 15) (hra : ra = (th.micro pod).reg (bits m 14 11)) (hrb : rb = (th.micro pod).reg (bits m 10 7))
    (he : (kind, e) ∈ [(1, Eff.load [(pod, bits ra 15 2, ra % 4, rb % 16)]), (2, .log true [(pod, rb % 16)]),
      (3, .log false [(pod, rb % 16)])]) :
    ((s.micro pod p 0x1C sefxAct jump).gang n).effsOf p = (s.gang n).effsOf p ++ [e] := by
  obtain ⟨u, hpost, ht, heffs⟩ := postMicro_posts (c := microCtx n p pod th m) hr h.path (th.micro pod) e (some (pod, (th.micro pod).podIx))
  have ha : sefxAct (microCtx n p pod th m) (th.micro pod) s = .go { th.micro pod with podIx := (th.micro pod).podIx + 1 } u := by
    simp only [List.mem_cons, List.not_mem_nil, or_false, Prod.mk.injEq] at he
    subst hra hrb
    rcases he with ⟨hk, rfl⟩ | ⟨hk, rfl⟩ | ⟨hk, rfl⟩
    all_goals simp [sefxAct, ← hkind, hk, hpost]
  obtain ⟨-, -, hgo⟩ := h.path_goes (jump := jump) ha ht
  rw [hgo, heffs]

/-- SEFX MEAS of the first engine posts the gang's measurement with its own pod in it. -/
theorem MicroReady.sefx_meas (h : MicroReady s pod p 0x1C n th m) (hr : s.roomFor n p 1)
    (hn : th.gangOps[(th.micro pod).opIdx]? = none) {ra rb : Nat} (hkind : bits m 20 15 = 5)
    (hra : ra = (th.micro pod).reg (bits m 14 11)) (hrb : rb = (th.micro pod).reg (bits m 10 7)) (hk : bits ra 25 24 ≤ 1)
    (hdst : bits ra 23 20 ≤ 11) (hset : bits ra 19 8 < if bits ra 25 24 = 0 then 512 else 256) :
    ((s.micro pod p 0x1C sefxAct jump).gang n).effsOf p =
      (s.gang n).effsOf p ++ [.meas (bits ra 25 24) (bits ra 23 20) (bits ra 19 8) false [(pod, rb % 16)]] := by
  subst hra hrb
  obtain ⟨u, hpost, ht, heffs⟩ := postMicro_posts (c := microCtx n p pod th m) hr h.path (th.micro pod) (.meas
    (bits ((th.micro pod).reg (bits m 14 11)) 25 24) (bits ((th.micro pod).reg (bits m 14 11)) 23 20)
    (bits ((th.micro pod).reg (bits m 14 11)) 19 8) false [(pod, (th.micro pod).reg (bits m 10 7) % 16)]) none
  have hok : ¬ (bits ((th.micro pod).reg (bits m 14 11)) 25 24 > 1 ∨ bits ((th.micro pod).reg (bits m 14 11)) 23 20 > 11 ∨
      bits ((th.micro pod).reg (bits m 14 11)) 19 8 ≥ if bits ((th.micro pod).reg (bits m 14 11)) 25 24 = 0 then 512 else 256) := by
    omega
  refine h.posted (y := { th.micro pod with opIdx := (th.micro pod).opIdx + 1 })
    (f := fun t => { t with gangOps := t.gangOps ++ [⟨0x1C05, (th.micro pod).reg (bits m 14 11), 0, 0⟩] }) ?_ ht heffs
  simp only [sefxAct, hkind, Nat.reduceEqDiff, or_self, if_false, if_true, hok, hn, hpost]

/-- No effect that a gang kind posts calls for attention, but for the last. -/
theorem sefxEff_ne_attn {kind ra rb : Nat} (hk : kind ∉ [1, 2, 3, 5]) (hlt : kind < 0x0C) (k a : Nat) :
    sefxEff kind ra rb ≠ .ok (.attn k a) := by
  simp only [List.mem_cons, List.not_mem_nil, or_false, not_or] at hk
  intro he
  unfold sefxEff at he
  dsimp only at he
  repeat' split at he
  all_goals cases he
  omega

/-- What is refused of a gang kind is a reserved operand. -/
theorem sefxEff_error {kind ra rb c : Nat} (h : sefxEff kind ra rb = .error c) : c = erRsvd := by
  unfold sefxEff at h
  dsimp only at h
  repeat' split at h
  all_goals cases h
  all_goals rfl

/-- SEFX of a gang kind, by the first engine, posts the gang's effect. -/
theorem MicroReady.sefx_gang (h : MicroReady s pod p 0x1C n th m) (hr : s.roomFor n p 1)
    (hn : th.gangOps[(th.micro pod).opIdx]? = none) {kind ra rb : Nat} {e : Eff} (hkind : kind = bits m 20 15)
    (hra : ra = (th.micro pod).reg (bits m 14 11)) (hrb : rb = (th.micro pod).reg (bits m 10 7)) (hk : kind ∉ [1, 2, 3, 5])
    (hlt : kind < 0x0C) (he : sefxEff kind ra rb = .ok e) :
    ((s.micro pod p 0x1C sefxAct jump).gang n).effsOf p = (s.gang n).effsOf p ++ [e] := by
  have hattn := sefxEff_ne_attn (ra := ra) (rb := rb) hk hlt
  subst hkind hra hrb
  simp only [List.mem_cons, List.not_mem_nil, or_false, not_or] at hk
  obtain ⟨h1, h2, h3, h5⟩ := hk
  obtain ⟨u, hpost, ht, heffs⟩ := postMicro_posts (c := microCtx n p pod th m) hr h.path (th.micro pod) e none
  refine h.posted (y := { th.micro pod with opIdx := (th.micro pod).opIdx + 1 }) (f := fun t => { t with gangOps := t.gangOps ++
    [⟨0x1C00 + bits m 20 15, (sefxKey (bits m 20 15) ((th.micro pod).reg (bits m 14 11)) ((th.micro pod).reg (bits m 10 7))).1,
      (sefxKey (bits m 20 15) ((th.micro pod).reg (bits m 14 11)) ((th.micro pod).reg (bits m 10 7))).2, 0⟩] }) ?_ ht heffs
  simp only [sefxAct, h1, h2, h3, h5, or_self, if_false, hn, he]
  cases e with
  | attn k a => exact absurd he (hattn k a)
  | _ => simp only [hpost]

theorem MicroReady.sefx_rsvd (h : MicroReady s pod .main 0x1C n th m) (hn : th.gangOps[(th.micro pod).opIdx]? = none)
    {kind ra rb c : Nat} (hkind : kind = bits m 20 15) (hra : ra = (th.micro pod).reg (bits m 14 11))
    (hrb : rb = (th.micro pod).reg (bits m 10 7)) (hk : kind ∉ [1, 2, 3, 5]) (he : sefxEff kind ra rb = .error c) :
    (s.micro pod .main 0x1C sefxAct jump).erred n erRsvd := by
  cases sefxEff_error he
  subst hkind hra hrb
  simp only [List.mem_cons, List.not_mem_nil, or_false, not_or] at hk
  obtain ⟨h1, h2, h3, h5⟩ := hk
  refine h.errs ?_ (by decide)
  simp only [sefxAct, h1, h2, h3, h5, or_self, if_false, hn, he]

end

/-! #### WAIT, SAFEPT, GHALT (R173, R158, R171) -/

/-- A wait is of one kind whatever has been seen of it. -/
theorem GWait.Timed.bare {w x : GWait} (h : w.Timed x) : x.kind.bare = w.kind.bare := by
  cases hk : w.kind with
  | time b k => rw [h.time b k hk]
  | event q o => obtain ⟨o', ho⟩ := h.event q o hk; rw [ho]; rfl
  | barrier b o => obtain ⟨o', ho⟩ := h.barrier b o hk; rw [ho]; rfl
  | meas d => rw [h.meas d hk]
  | commit => rw [h.commit hk]

theorem waitOf_bare (m ra rb : Nat) : (waitOf m ra rb).1.bare = (waitOf m ra rb).1 := by
  unfold waitOf
  dsimp only
  repeat' split
  all_goals rfl

@[simp] theorem Gang.setThread_main_wait (g : Gang) (t : Thread) : (g.setThread .main t).wait = g.wait := rfl

/-- WAIT of the first engine opens the gang's wait (R173). -/
theorem MicroReady.wait_opens {s : State} {pod n m : Nat} {th : Thread} (h : MicroReady s pod .main 0x1D n th m)
    (hn : th.gangOps[(th.micro pod).opIdx]? = none) (hw : (s.gang n).wait = none) {ra rb : Nat}
    (hra : ra = (th.micro pod).reg (bits m 16 13)) (hrb : rb = (th.micro pod).reg (bits m 12 9))
    (hq : bits m 20 18 = 1 → ra % 4096 ≤ 2303) (jump : MicroSt → Nat → Option Nat) :
    ∃ y, ((s.micro pod .main 0x1D waitAct jump).gang n).wait = some y ∧ y.seq = th.wordSeq ∧ y.ix = (th.micro pod).opIdx ∧
      y.micro = true ∧ y.kind.bare = (waitOf m ra rb).1 ∧ y.tmo = (waitOf m ra rb).2 := by
  subst hra hrb
  have hok : ¬ (bits m 20 18 = 1 ∧ (th.micro pod).reg (bits m 16 13) % 4096 > 2303) := fun ⟨h1, h2⟩ => Nat.not_le.2 h2 (hq h1)
  have ha : ∃ (u : State) (w : GWait), waitAct (microCtx n .main pod th m) (th.micro pod) s = .wait (u.fix n) ∧ (u.gang n).wait = some w ∧
      w.seq = th.wordSeq ∧ w.ix = (th.micro pod).opIdx ∧ w.micro = true ∧
      w.kind = (waitOf m ((th.micro pod).reg (bits m 16 13)) ((th.micro pod).reg (bits m 12 9))).1 ∧
      w.tmo = (waitOf m ((th.micro pod).reg (bits m 16 13)) ((th.micro pod).reg (bits m 12 9))).2 := by
    simp only [waitAct, hn, hw, Option.isSome_none, Bool.false_eq_true, if_false, hok]
    refine ⟨_, ⟨th.wordSeq, (waitOf m _ _).1, 0, false, (waitOf m _ _).2, none, none, true, (th.micro pod).opIdx, {}⟩, rfl, ?_,
      rfl, rfl, rfl, rfl, rfl⟩
    simp only [State.onThread, State.gang_setGang, Gang.thread, Gang.setThread_main_wait]
  obtain ⟨u, w, ha, hwait, hseq, hix, hmicro, hkind, htmo⟩ := ha
  obtain ⟨x, hx, ht⟩ := (Gang.fix_fixed (u.gang n) u.now).wait w hwait
  rw [h.waits (jump := jump) ha, u.fix_gang]
  exact ⟨x, hx, ht.seq.trans hseq, ht.ix.trans hix, ht.micro.trans hmicro, ht.bare.trans (hkind ▸ waitOf_bare ..), ht.tmo.trans htmo⟩

/-- SAFEPT goes on. -/
theorem MicroReady.safept_goes {s : State} {pod n m : Nat} {th : Thread} (h : MicroReady s pod .main 0x1F n th m)
    (hn : th.gangOps[(th.micro pod).opIdx]? = none) :
    let x := th.micro pod
    s.engineWrote (s.micro pod .main 0x1F safeptAct fun _ _ => none) n .main pod none 0 x.z x.n x.c x.npc (x.upc + 1) := by
  have hmain : (s.gang n).main = th := Option.some.inj h.path
  have ha : ∃ u : State, (u.gang n).thread .main = some th ∧
      safeptAct (microCtx n .main pod th m) (th.micro pod) s = .go { th.micro pod with opIdx := (th.micro pod).opIdx + 1 }
        (u.setGang n ((u.gang n).setThread .main (th.did ⟨0x1F00, 0, 0, 0⟩))) := by
    simp only [safeptAct]
    refine ⟨_, ?_, gangOp_first (c := microCtx n .main pod th m) hn rfl ?_⟩
    all_goals exact State.fix_setGang_main _ _ hmain
  obtain ⟨u, hu, ha⟩ := ha
  refine h.wrote (th' := th.did ⟨0x1F00, 0, 0, 0⟩) ha ?_ rfl ⟨fun _ => rfl, rfl, rfl, rfl, rfl⟩
  rw [State.gang_setGang]
  exact Gang.thread_setThread_of hu _

/-- GHALT at its boundary, with everything before it done and PARK at 0, halts the gang (R160). -/
theorem MicroReady.ghalt_halts {s : State} {pod n m : Nat} {th : Thread} (h : MicroReady s pod .main 0x20 n th m)
    (hb : (s.gang n).atBoundary th.wordSeq s.now = true) (hp : hasBit ((th.micro pod).reg (uRa m)) 0 = false) (hd : s.allDone n = true)
    (jump : MicroSt → Nat → Option Nat) :
    ∀ q ∈ s.podsOf n, (s.micro pod .main 0x20 ghaltAct jump).rd F.ENG_STAT_STATE q = stHalted := by
  have ha : ∃ attn addr, ghaltAct (microCtx n .main pod th m) (th.micro pod) s = .wait ((s.publish n).haltGang n attn addr) := by
    simp only [ghaltAct, hb, hp, hd, Bool.true_eq_false, Bool.false_eq_true, if_false]
    exact ⟨_, _, rfl⟩
  obtain ⟨attn, addr, ha⟩ := ha
  rw [h.waits ha]
  intro q hq
  refine State.haltGang_halts _ n attn addr q ?_
  rwa [(State.publish_does s n).podsOf (by decide) n]

/-- Settles O18: each micro-op by what it reads or does. -/
theorem microSiteState : Obligations.MicroSiteState := by
  unfold Obligations.MicroSiteState
  intro s pod p n th m x hx
  subst hx
  refine ⟨fun h v hv => ⟨_, rfl, h.wrote_alone (getsAct_reads hv) (MicroSt.setReg_wrote ..)⟩,
    fun h hs v hv => ⟨_, rfl, h.wrote_alone (condAct_known hs hv) (MicroSt.setReg_z_wrote ..)⟩,
    fun h hn vw rpt hw he hr => ⟨_, rfl, h.issued hn hw he hr _⟩,
    fun h hr kind ra rb hkind hra hrb => ⟨fun e hk hlt hn he => ⟨_, rfl, h.sefx_gang hr hn hkind hra hrb hk hlt he⟩,
      fun e he => ⟨_, rfl, h.sefx_pod hr hkind hra hrb he⟩,
      fun hk hn h1 h2 h3 => ⟨_, rfl, h.sefx_meas hr hn (hkind.symm.trans hk) hra hrb h1 h2 h3⟩, ?_⟩,
    fun h hn hw ra rb hra hrb hq => ?_, fun h hn => ⟨_, rfl, h.safept_goes hn⟩,
    fun h hb hp hd => ⟨_, rfl, h.ghalt_halts hb hp hd _⟩⟩
  · intro c hp hk hn he
    subst hp
    exact ⟨_, rfl, h.sefx_rsvd hn hkind hra hrb hk he⟩
  · obtain ⟨y, hy⟩ := h.wait_opens hn hw hra hrb hq fun _ _ => none
    exact ⟨_, y, rfl, hy⟩

end Sys2Proof.Machine
end

/-! ### Scope: stops, steps and breakpoints of a gang -/

section
namespace Sys2Proof.Machine

open Sys2Proof

/-! #### Requests (R182, R186) -/

/-- Whether a gang runs reads the site map and the states of its engines. -/
theorem State.running_wr (s : State) {f : Fld} (v i j n : Nat) (h : f.reg ≠ F.ENG_STAT_STATE.reg) :
    (s.wr f v i j).running n = s.running n := by
  have hstate : (s.wr f v i j).gstate n = s.gstate n := State.rd_wr_ne s v i j _ 0 (.inl h)
  unfold State.running
  rw [hstate]
  rfl

/-- A request reaches a running gang that has none and is not stopped. -/
theorem State.requestStop_running {s : State} {n : Nat} (hr : s.running n = true) (hs : (s.gang n).stopped = false)
    (hq : (s.gang n).stopReq = none) (cause : Nat) : s.requestStop n cause = s.setGang n { s.gang n with stopReq := some cause } := by
  simp only [State.requestStop, hr, hs, hq, Bool.true_eq_false, Bool.false_eq_true, or_self, if_false, Option.isSome_none]

/-! #### A stop taken (R182) -/

/-- The first step of `State.takeStop`: a stop taken in a wait squashes what is behind the wait (R182). -/
def State.backToWait (s : State) (n : Nat) : State :=
  match (s.gang n).stopWait with
  | some w => (s.squash n w.seq).setGang n { (s.squash n w.seq).gang n with main := w.th, seqNext := (s.gang n).seqNext + 1 }
  | none => s

theorem State.backToWait_podsOf (s : State) (n : Nat) : (s.backToWait n).podsOf n = s.podsOf n := by
  unfold State.backToWait
  cases (s.gang n).stopWait with
  | none => rfl
  | some w => exact (State.squash_does s n w.seq wordEnd _).podsOf (by decide) n

/-- A stop that is taken stops the gang, and every pod shows it with its cause and place. -/
theorem State.takeStop_stops (s : State) (n : Nat) {cause : Nat} (hc : cause < 4) (w : Bool) :
    let t := s.takeStop n cause w
    (t.gang n).stopped = true ∧ (t.gang n).stopReq = none ∧
      ∀ p ∈ s.podsOf n, t.rd F.ENG_USTAT_STOPPED p = 1 ∧ t.rd F.ENG_USTAT_ATWORD p = ofBool w ∧ t.rd F.ENG_USTAT_SCAUSE p = cause := by
  have hshow : ∃ u : State, s.takeStop n cause w = (((u.wrAll F.ENG_USTAT_STOPPED 1 (s.podsOf n)).wrAll F.ENG_USTAT_ATWORD (ofBool w)
      (s.podsOf n)).wrAll F.ENG_USTAT_SCAUSE cause (s.podsOf n)).publish n ∧ (u.gang n).stopped = true ∧ (u.gang n).stopReq = none := by
    rw [← s.backToWait_podsOf n]
    refine ⟨_, rfl, ?_, ?_⟩
    all_goals rw [State.gang_setGang]
  obtain ⟨u, ht, hstopped, hreq⟩ := hshow
  have hgang : (s.takeStop n cause w).gang n = u.gang n := by
    rw [ht, State.publish_gang, State.gang_wrAll, State.gang_wrAll, State.gang_wrAll]
  refine ⟨hgang ▸ hstopped, hgang ▸ hreq, fun p hp => ?_⟩
  rw [ht, (State.publish_does _ n).rd _ _ _ (by decide), (State.publish_does _ n).rd _ _ _ (by decide),
    (State.publish_does _ n).rd _ _ _ (by decide)]
  refine ⟨?_, ?_, ?_⟩
  · rw [State.rd_wrAll_ne _ _ _ _ _ (.inr (by decide)), State.rd_wrAll_ne _ _ _ _ _ (.inr (by decide)), State.rd_wrAll, if_pos hp]
    rfl
  · rw [State.rd_wrAll_ne _ _ _ _ _ (.inr (by decide)), State.rd_wrAll, if_pos hp]
    cases w <;> rfl
  · rw [State.rd_wrAll, if_pos hp]
    exact Nat.mod_eq_of_lt hc

/-! #### Resume and step (R183, R184) -/

/-- What follows every resolution raises no error where none is held. -/
theorem State.settle_quiet {s : State} {n : Nat} (hh : (s.gang n).held = none) : s.settle n = ((s.fix n).ensureSprout n).publish n := by
  refine State.raiseErr_none ?_
  obtain ⟨sp, hsp, -⟩ := State.ensureSprout_gang (s.fix n) n
  rw [State.publish_gang, hsp, State.fix_gang]
  exact (Gang.fix_fixed (s.gang n) s.now).held.trans hh

/-- Clearing the stop shows in every pod of the gang. -/
theorem State.clearStopped_stopped {s : State} {n p : Nat} (hp : p ∈ s.podsOf n) : (s.clearStopped n).rd F.ENG_USTAT_STOPPED p = 0 := by
  unfold State.clearStopped
  rw [State.rd_wrAll_ne _ _ _ _ _ (.inl (by decide)), State.rd_wrAll_ne _ _ _ _ _ (.inr (by decide)), State.rd_wrAll, if_pos hp]
  rfl

/-- A stopped gang that resumes goes, asks for the next stop where it steps, and shows that it is not stopped. -/
theorem State.resumeGang_goes {s : State} {n : Nat} (hh : (s.gang n).held = none) (step : Bool) :
    let t := s.resumeGang n step
    (t.gang n).stopped = false ∧ (t.gang n).stopReq = (if step then some 2 else none) ∧
      ∀ p ∈ s.podsOf n, t.rd F.ENG_USTAT_STOPPED p = 0 := by
  have hresume : ∃ g : Gang, s.resumeGang n step = ((s.clearStopped n).setGang n g).settle n ∧ g.held = none ∧ g.stopped = false ∧
      g.stopReq = if step then some 2 else none := ⟨_, rfl, hh, rfl, rfl⟩
  obtain ⟨g, ht, hheld, hstop, hreq⟩ := hresume
  have hheld' : (((s.clearStopped n).setGang n g).gang n).held = none := by rw [State.gang_setGang, hheld]
  obtain ⟨h, sp, hfix, hgang, -⟩ := State.settled_gang hheld'
  rw [State.gang_setGang] at hfix
  rw [ht]
  refine ⟨?_, ?_, fun p hp => ?_⟩
  · rw [State.settle, hgang]
    exact hfix.stopped.trans hstop
  · rw [State.settle, hgang]
    exact hfix.stopReq.trans hreq
  · rw [State.settle_quiet hheld', (State.publish_does _ n).rd _ _ _ (by decide), (State.ensureSprout_does _ n).rd _ _ _ (by decide),
      (State.fix_does _ n).rd _ _ _ (by decide), State.rd_setGang]
    exact State.clearStopped_stopped hp

/-- Settles O24: each command by the request, the stop or the registers that it leaves. -/
theorem stopsAndSteps : Obligations.StopsAndSteps := by
  unfold Obligations.StopsAndSteps
  intro s pod n hn hh
  refine ⟨fun hr hs hq => ⟨_, rfl, ?stop⟩, fun k w hk hs hr hstep hlt hw => ⟨_, rfl, ?taken⟩, fun hs => ⟨_, rfl, ?resume⟩,
    fun hs => ⟨_, rfl, ?step⟩, fun e hr hs hq he => ⟨_, rfl, ?brk⟩, fun hp hl => ⟨_, rfl, ?limit⟩, ⟨_, rfl, fun a => ?pclr⟩,
    fun v => ⟨_, rfl, ?qset⟩⟩
  case stop =>
    simp only [hn, hr, if_true]
    have hrun : (s.wr F.ENG_UCTL_STOP 1 pod).running n = true := (s.running_wr 1 pod 0 n (by decide)).trans hr
    rw [State.requestStop_running hrun hs hq, State.gang_setGang, State.rd_setGang, State.rd_wr]
    exact ⟨rfl, rfl⟩
  case taken =>
    have hno : ¬ (k = 2 ∧ (s.gang n).stepped = false) := fun ⟨h2, h0⟩ => Bool.false_ne_true (h0.symm.trans (hstep h2))
    simp only [hk, hs, hr, hno, Bool.false_eq_true, Bool.true_eq_false, or_self, if_false, hw]
    exact s.takeStop_stops n hlt w
  case resume =>
    simp only [hn, hs, if_true]
    exact State.resumeGang_goes hh false
  case step =>
    simp only [hn, hs, if_true]
    obtain ⟨hstop, hreq, -⟩ := State.resumeGang_goes hh true
    exact ⟨hstop, hreq⟩
  case brk =>
    simp only [hn, hr, hs, Bool.true_eq_false, Bool.false_eq_true, or_self, if_false, he]
    rw [State.requestStop_running]
    · simp only [State.gang_setGang, and_self]
    · exact hr
    · rw [State.gang_setGang]
    · rw [State.gang_setGang]
      exact hq
  case limit =>
    simp only [hp, hl, Bool.true_eq_false, if_false, if_true]
    exact State.engineErr_erred hh erUlong _ _ _ [] (by decide)
  case pclr =>
    rw [State.pod_setPod]
    rfl
  case qset =>
    rw [State.rd_wr_ne _ _ _ _ _ _ (.inr (by decide)), State.rd_wr, State.rd_wr]
    have htset : bits v.toNat 5 0 = v.toNat % 64 := by simp [bits]
    exact ⟨(congrArg (· % 64) htset).trans (Nat.mod_mod ..), Nat.mod_mod ..⟩

end Sys2Proof.Machine
end

/-! ### Scope: REFILL and POOL_LOAD -/

section
namespace Sys2Proof.Machine

open Sys2Proof

/-! #### Stages -/

theorem Desc.steward_of_lt {d : Desc} (h : d.opc < 16) : d.steward = false := by
  simp only [Desc.steward, Bool.or_eq_false_iff, beq_eq_false_iff_ne]
  omega

section
variable {s u : State} {q : QpId} {cid : Nat} {walk : Walk} {d : Desc}

/-! #### The bytes of a load from the pool (R230, R245) -/

theorem granuleAddr_eq (p : Nat) (x : SegX) (g : Nat) : granuleAddr p x g = granuleAddr p x 0 + 512 * g := by
  unfold granuleAddr
  omega

/-- The bytes of a pod's segment are those of the pool's memory from the segment's source on. -/
def State.segCopies (t : State) (x : SegX) (m : Memory) (p : Nat) : Prop :=
  ∀ i, i < 512 * x.len → t.segMem.byte (granuleAddr p x 0 + i) = m.byte (512 * x.src + i)

/-- One granule of an entry is copied from the pool. -/
def State.withGranule (s : State) (p : Nat) (x : SegX) (g src : Nat) : State :=
  { s with segMem := s.segMem.writeBytes (granuleAddr p x g) (s.poolGranule src) }

/-- Granules are copied from the last to the first. -/
theorem State.copyIn_succ (s : State) (p : Nat) (x : SegX) (src n : Nat) :
    s.copyIn p x src (n + 1) = (s.withGranule p x n (src + n)).copyIn p x src n := by
  unfold State.withGranule
  conv_lhs => unfold State.copyIn

theorem State.withGranule_segMem (s : State) (p : Nat) (x : SegX) (g src : Nat) :
    (s.withGranule p x g src).segMem = s.segMem.writeBytes (granuleAddr p x 0 + 512 * g) (s.poolMem.read (512 * src) 512) := by
  rw [State.withGranule, granuleAddr_eq, State.poolGranule]

theorem State.withGranule_poolMem (s : State) (p : Nat) (x : SegX) (g src : Nat) :
    (s.withGranule p x g src).poolMem = s.poolMem := by
  rw [State.withGranule]

/-- Granules that are copied are the pool's; every byte outside them stays. -/
theorem State.copyIn_bytes (s : State) (p : Nat) (x : SegX) (src n : Nat) :
    (∀ i, i < 512 * n → (s.copyIn p x src n).segMem.byte (granuleAddr p x 0 + i) = s.poolMem.byte (512 * src + i)) ∧
    ∀ a, a < granuleAddr p x 0 ∨ granuleAddr p x 0 + 512 * n ≤ a → (s.copyIn p x src n).segMem.byte a = s.segMem.byte a := by
  induction n generalizing s with
  | zero => exact ⟨fun i hi => absurd hi (by omega), fun _ _ => rfl⟩
  | succ n ih =>
    obtain ⟨hin, hout⟩ := ih (s.withGranule p x n (src + n))
    have hlen := Memory.read_length s.poolMem (512 * (src + n)) 512
    rw [State.copyIn_succ]
    refine ⟨fun i hi => ?_, fun a ha => ?_⟩
    · by_cases hlast : i < 512 * n
      · rw [hin i hlast, State.withGranule_poolMem]
      · obtain ⟨j, rfl⟩ : ∃ j, i = 512 * n + j := ⟨i - 512 * n, by omega⟩
        rw [hout _ (by omega), State.withGranule_segMem, ← Nat.add_assoc, Memory.byte_copy _ _ _ _ _ _ (by omega)]
        congr 1
        omega
    · rw [hout a (by omega), State.withGranule_segMem, Memory.byte_writeBytes_out _ _ _ _ (by omega)]

/-- A load from the pool that ends is READY with its source's bytes; the other pods' segments and the other bytes stay. -/
theorem State.finishLoad_loads (s : State) (p k : Nat) :
    (s.finishLoad p k).seg p k = { s.seg p k with st := sgReady, cls := 0 } ∧
    (∀ r, r ≠ p → (s.finishLoad p k).seg r k = s.seg r k) ∧
    (s.finishLoad p k).segCopies (s.seg p k) s.poolMem p ∧
    (∀ a, s.outside p k a → (s.finishLoad p k).segMem.byte a = s.segMem.byte a) ∧ (s.finishLoad p k).poolMem = s.poolMem := by
  obtain ⟨hin, hout⟩ := s.copyIn_bytes p (s.seg p k) (s.seg p k).src (s.seg p k).len
  have hcopy := s.copyIn_does p (s.seg p k) (s.seg p k).src (s.seg p k).len
  refine ⟨?_, fun r hr => ?_, hin, hout, (s.finishLoad_does p k).poolMem (by decide)⟩
  · rw [State.finishLoad, State.bump_seg, State.pulse_seg, State.seg_setSeg]
  · rw [State.finishLoad, State.bump_seg, State.pulse_seg, State.seg_setSeg_ne _ _ _ _ _ _ (.inl hr), hcopy.segX (by decide)]

/-- The loads of a list of pods from the pool end. -/
def State.refillSegs (s : State) (l : List Nat) (k : Nat) : State := l.foldl (fun (s : State) (p : Nat) => s.finishLoad p k) s

theorem State.refillSegs_loads {l : List Nat} (hl : l.Nodup) (s : State) (k : Nat)
    (hfit : ∀ p ∈ l, (s.seg p k).lbase + (s.seg p k).len ≤ 256) :
    (∀ p ∈ l, ((s.refillSegs l k).seg p k).st = sgReady ∧ (s.refillSegs l k).segCopies (s.seg p k) s.poolMem p) ∧
    (∀ p, p ∉ l → (s.refillSegs l k).seg p k = s.seg p k) ∧
    ∀ a, (∀ p ∈ l, s.outside p k a) → (s.refillSegs l k).segMem.byte a = s.segMem.byte a := by
  induction l generalizing s with
  | nil => exact ⟨fun p hp => absurd hp List.not_mem_nil, fun _ _ => rfl, fun _ _ => rfl⟩
  | cons b l ih =>
    obtain ⟨hb, hl⟩ := List.nodup_cons.1 hl
    have hstep : s.refillSegs (b :: l) k = (s.finishLoad b k).refillSegs l k := rfl
    obtain ⟨hown, hoth, hbytes, hframe, hpool⟩ := s.finishLoad_loads b k
    have hne {p : Nat} (hp : p ∈ l) : p ≠ b := fun h => hb (h ▸ hp)
    have hout {p a : Nat} (hp : p ∈ l) (h : s.outside p k a) : (s.finishLoad b k).outside p k a := by
      rwa [State.outside, hoth p (hne hp)]
    obtain ⟨ihown, ihoth, ihframe⟩ := ih hl (s.finishLoad b k) fun p hp => by
      rw [hoth p (hne hp)]
      exact hfit p (List.mem_cons_of_mem _ hp)
    rw [hstep]
    refine ⟨fun p hp => ?_, fun p hp => ?_, fun a ha => ?_⟩
    · rcases List.mem_cons.1 hp with rfl | hp
      · rw [ihoth p hb, hown]
        refine ⟨rfl, fun i hi => (ihframe _ fun r hr => hout hr ?_).trans (hbytes i hi)⟩
        exact granules_apart (hne hr).symm (hfit p List.mem_cons_self) (hfit r (List.mem_cons_of_mem _ hr)) hi
      · have h := ihown p hp
        rwa [hoth p (hne hp), hpool] at h
    · rw [List.mem_cons, not_or] at hp
      rw [ihoth p hp.2, hoth p hp.1]
    · rw [ihframe a fun p hp => hout hp (ha p (List.mem_cons_of_mem _ hp)), hframe a (ha b List.mem_cons_self)]

/-! #### REFILL (R393) -/

/-- The segments of a list of pods begin to load from the pool. -/
def State.startSegs (s : State) (l : List Nat) (k src : Nat) : State := l.foldl (fun (s : State) (p : Nat) => s.startLoad p k src 6) s

theorem State.startSegs_seg (s : State) {l : List Nat} (k src : Nat) {p : Nat} (hp : p ∈ l) :
    ((s.startSegs l k src).seg p k).st = sgLoading ∧ ((s.startSegs l k src).seg p k).src = src :=
  Prod.mk.inj (fold_attains (v := (sgLoading, src)) (fun (s : State) (p : Nat) => s.startLoad p k src 6)
    (fun s p => ((s.seg p k).st, (s.seg p k).src)) (fun s p => by rw [State.startLoad, State.seg_setSeg])
    (fun s p q hqp hq => by rwa [State.startLoad, State.seg_setSeg_ne _ _ _ _ _ _ (.inl hqp)]) hp s)

/-- A REFILL that nothing holds ends where an entry bars it or its source leaves the pool, and begins else. -/
def refillBegin (q : Nat) (d : Desc) (s : State) : State :=
  if s.segBars d (d.f 8 5 0) then (s.noteWract d (d.f 8 5 0)).endDesc q d stBad 0 0 dState
  else if d.pods.any (fun p => decide (d.f 12 15 0 + (s.seg p (d.f 8 5 0)).len > 65536)) then s.endDesc q d stBad 0 0 dRange
  else (s.startSegs d.pods (d.f 8 5 0) (d.f 12 15 0)).begins q d 0

/-- Whether a pod's load from the pool must still wait: for a load of a better class, or for a granule in error (R245, R232). -/
def State.refillWaits (s : State) (k p : Nat) : Bool :=
  (s.seg p k).st == sgLoading && (decide (s.bestClass p < 4)
    || s.poolBad.any (fun g => decide ((s.seg p k).src ≤ g ∧ g < (s.seg p k).src + (s.seg p k).len)))

/-- A REFILL that has begun is carried out once no pod's load waits. -/
def refillGo (q : Nat) (d : Desc) (s : State) : State :=
  if d.pods.any (s.refillWaits (d.f 8 5 0)) then s
  else (s.refillSegs (d.pods.filter fun p => (s.seg p (d.f 8 5 0)).st == sgLoading) (d.f 8 5 0)).endDesc q d stOk 0
    (d.pods.filter fun p => (s.seg p (d.f 8 5 0)).st == sgFree).length 0

theorem exec_refill (s : State) (q : QpId) (cid : Nat) :
    exec (.refill q cid) s = .next (s.advance q cid 5 (fun _ _ => 0) (refillBegin q) (refillGo q)) := rfl

theorem exec_refill_starts (h : Starts s q cid 5 d u) (hb : u.blockedBy d = false) :
    exec (.refill q cid) s = .next (refillBegin q d u) := by
  have hst : d.steward = false := Desc.steward_of_lt (h.opc_eq ▸ by decide)
  obtain ⟨-, -, hbegun⟩ := h.advance (fun _ _ => 0) (refillBegin q) (refillGo q) hst
  rw [exec_refill, hbegun rfl hb]

/-- A REFILL that starts ends where something bars it; else every named pod's entry is LOADING from the source. -/
theorem refill_starts (h : Starts s q cid 5 d u) (hb : u.blockedBy d = false) :
    (u.segBars d (d.f 8 5 0) = true → ∃ t, exec (.refill q cid) s = .next t ∧ t.completed q d stBad 0 0 dState) ∧
    (u.segBars d (d.f 8 5 0) = false → (∃ p ∈ d.pods, 65536 < d.f 12 15 0 + (u.seg p (d.f 8 5 0)).len) →
      ∃ t, exec (.refill q cid) s = .next t ∧ t.completed q d stBad 0 0 dRange) ∧
    (u.segBars d (d.f 8 5 0) = false → (∀ p ∈ d.pods, d.f 12 15 0 + (u.seg p (d.f 8 5 0)).len ≤ 65536) →
      ∃ t, exec (.refill q cid) s = .next t ∧
        ∀ p ∈ d.pods, (t.seg p (d.f 8 5 0)).st = sgLoading ∧ (t.seg p (d.f 8 5 0)).src = d.f 12 15 0) := by
  rw [exec_refill_starts h hb, refillBegin]
  refine ⟨fun hbar => ?_, fun hbar ⟨p, hp, hlong⟩ => ?_, fun hbar hfit => ?_⟩
  · rw [if_pos hbar]
    exact ⟨_, rfl, State.endDesc_completed ..⟩
  · rw [if_neg (ne_true_of_eq_false hbar), if_pos (List.any_eq_true.2 ⟨p, hp, decide_eq_true hlong⟩)]
    exact ⟨_, rfl, State.endDesc_completed ..⟩
  · rw [if_neg (ne_true_of_eq_false hbar), if_neg]
    · refine ⟨_, rfl, fun p hp => ?_⟩
      rw [State.begins, (State.putDesc_does ..).segX (by decide)]
      exact u.startSegs_seg _ _ hp
    · simp only [List.any_eq_true, decide_eq_true_eq, not_exists, not_and, gt_iff_lt, not_lt]
      exact hfit

/-- A REFILL whose loads' turn has come, from granules without error, writes each pod's entry from its source. -/
theorem refill_carried (h : UnderWay s q cid 5 d)
    (hturn : ∀ p ∈ d.pods, (s.seg p (d.f 8 5 0)).st = sgLoading ∧ 4 ≤ s.bestClass p ∧
      (s.seg p (d.f 8 5 0)).lbase + (s.seg p (d.f 8 5 0)).len ≤ 256 ∧
      ∀ g ∈ s.poolBad, g < (s.seg p (d.f 8 5 0)).src ∨ (s.seg p (d.f 8 5 0)).src + (s.seg p (d.f 8 5 0)).len ≤ g) :
    ∃ t, exec (.refill q cid) s = .next t ∧ t.completed q d stOk 0 0 0 ∧
      (∀ p ∈ d.pods, (t.seg p (d.f 8 5 0)).st = sgReady ∧ t.segCopies (s.seg p (d.f 8 5 0)) s.poolMem p) ∧
      ∀ a, (∀ p ∈ d.pods, s.outside p (d.f 8 5 0) a) → t.segMem.byte a = s.segMem.byte a := by
  have hgo : d.pods.any (s.refillWaits (d.f 8 5 0)) = false := List.any_eq_false.2 fun p hp => by
    obtain ⟨-, hclass, -, hbad⟩ := hturn p hp
    simp only [State.refillWaits, Bool.and_eq_true, Bool.or_eq_true, List.any_eq_true, decide_eq_true_eq, not_and, not_or, not_exists]
    exact fun _ => ⟨by omega, fun g hg hge => by have := hbad g hg; omega⟩
  have hall : d.pods.filter (fun p => (s.seg p (d.f 8 5 0)).st == sgLoading) = d.pods :=
    List.filter_eq_self.2 fun p hp => beq_iff_eq.2 (hturn p hp).1
  have hnone : d.pods.filter (fun p => (s.seg p (d.f 8 5 0)).st == sgFree) = [] :=
    List.filter_eq_nil_iff.2 fun p hp => by rw [(hturn p hp).1]; decide
  obtain ⟨hloads, -, hframe⟩ := State.refillSegs_loads d.pods_nodup s (d.f 8 5 0) fun p hp => (hturn p hp).2.2.1
  have hexec : exec (.refill q cid) s = .next ((s.refillSegs d.pods (d.f 8 5 0)).endDesc q d stOk 0 0 0) := by
    rw [exec_refill, h.advance, refillGo, hgo, hall, hnone]
    rfl
  have hd := (s.refillSegs d.pods (d.f 8 5 0)).endDesc_does q d stOk 0 0 0
  refine ⟨_, hexec, State.endDesc_completed .., fun p hp => ?_, fun a ha => ?_⟩
  · rw [hd.segX (by decide), State.segCopies, hd.segMem (by decide)]
    exact hloads p hp
  · rw [hd.segMem (by decide), hframe a ha]

/-! #### POOL_LOAD (R231, R391) -/

/-- The check of a POOL_LOAD's fields: its granules lie in the pool. -/
def poolCheck (_ : State) (d : Desc) : Nat :=
  if d.f 12 16 0 = 0 ∨ d.f 12 16 0 > 65536 ∨ d.f 8 15 0 + d.f 12 16 0 > 65536 then dRange else 0

/-- A POOL_LOAD ends where it reads a pinned granule, and begins else. -/
def poolBegin (q : Nat) (d : Desc) (s : State) : State :=
  if (List.range (d.f 12 16 0)).any (fun i => s.pinned (d.f 8 15 0 + i) none) then
    (s.wr F.POOL_STAT_PINNED 1).endDesc q d stBad 0 0 dPinned
  else s.begins q d (512 * d.f 12 16 0)

/-- A POOL_LOAD that has begun writes what has arrived, and goes on or ends. -/
def poolGo (q : Nat) (walk : Walk) (d : Desc) (s : State) : State :=
  if d.moved < d.total then (s.poolIn q d).readChunk q { d with first := d.moved / 512 } walk
  else (s.poolIn q d).endDesc q { d with first := d.moved / 512 } stOk 0 0 0

theorem exec_poolLoad (s : State) (q : QpId) (cid : Nat) (walk : Walk) :
    exec (.poolLoad q cid walk) s = .next (s.advance q cid 6 poolCheck (poolBegin q) (poolGo q walk)) := rfl

theorem State.blockedBy_poolLoad (s : State) {d : Desc} (h : d.opc = 6) : s.blockedBy d = false := by
  simp [State.blockedBy, h]

/-- A POOL_LOAD with granules of the pool that starts ends where one is pinned, and else begins. -/
theorem poolLoad_starts (h : Starts s q cid 6 d u) (hn : d.f 12 16 0 ≠ 0) (hfit : d.f 8 15 0 + d.f 12 16 0 ≤ 65536) :
    ((∃ i, i < d.f 12 16 0 ∧ u.pinned (d.f 8 15 0 + i) none = true) → ∃ t, exec (.poolLoad q cid walk) s = .next t ∧
      t.rd F.POOL_STAT_PINNED = 1 ∧ t.completed q d stBad 0 0 dPinned) ∧
    ((∀ i, i < d.f 12 16 0 → u.pinned (d.f 8 15 0 + i) none = false) →
      exec (.poolLoad q cid walk) s = .next (u.begins q d (512 * d.f 12 16 0))) := by
  have hst : d.steward = false := Desc.steward_of_lt (h.opc_eq ▸ by decide)
  have hcheck : poolCheck u d = 0 := if_neg (by omega)
  obtain ⟨-, -, hbegun⟩ := h.advance poolCheck (poolBegin q) (poolGo q walk) hst
  rw [exec_poolLoad, hbegun hcheck (u.blockedBy_poolLoad h.opc_eq), poolBegin]
  refine ⟨fun ⟨i, hi, hpin⟩ => ?_, fun hfree => ?_⟩
  · rw [if_pos (List.any_eq_true.2 ⟨i, List.mem_range.2 hi, hpin⟩)]
    refine ⟨_, rfl, ?_, State.endDesc_completed ..⟩
    rw [(State.endDesc_does ..).rd _ _ _ (by decide), State.rd_wr]
    rfl
  · rw [if_neg (ne_true_of_eq_false (List.any_eq_false.2 fun i hi => ne_true_of_eq_false (hfree i (List.mem_range.1 hi))))]

/-- Granules of a POOL_LOAD that have arrived stand in the pool without error; every other byte of the pool stays. -/
theorem State.poolIn_writes (s : State) (q : Nat) {d : Desc} (hf : d.first ≤ d.moved / 512) (hm : d.moved ≤ d.data.length) :
    (∀ i, i < 512 * (d.moved / 512 - d.first) →
      (s.poolIn q d).poolMem.byte (512 * (d.f 8 15 0 + d.first) + i) = BitVec.ofNat 8 (d.data.getD (512 * d.first + i) 0)) ∧
    (∀ a, a < 512 * (d.f 8 15 0 + d.first) ∨ 512 * (d.f 8 15 0 + d.moved / 512) ≤ a → (s.poolIn q d).poolMem.byte a = s.poolMem.byte a) ∧
    ∀ g, d.f 8 15 0 + d.first ≤ g → g < d.f 8 15 0 + d.moved / 512 → g ∉ (s.poolIn q d).poolBad := by
  have hlen : ((d.data.drop (512 * d.first)).take (512 * (d.moved / 512 - d.first))).length = 512 * (d.moved / 512 - d.first) := by
    rw [List.length_take, List.length_drop]
    omega
  refine ⟨fun i hi => ?_, fun a ha => ?_, fun g hlo hhi hg => ?_⟩
  · refine (Memory.byte_writeBytes_in _ _ _ _ (by rwa [hlen])).trans (congrArg _ ?_)
    rw [List.getD_eq_getElem?_getD, List.getElem?_take_of_lt hi, List.getElem?_drop, ← List.getD_eq_getElem?_getD]
  · exact Memory.byte_writeBytes_out _ _ _ _ (by rw [hlen]; omega)
  · obtain ⟨-, hkeep⟩ := List.mem_filter.1 hg
    rw [decide_eq_true ⟨hlo, hhi⟩] at hkeep
    exact Bool.false_ne_true hkeep

/-- A POOL_LOAD under way leaves the pool as the granules that have arrived left it, and ends with its last one. -/
theorem poolLoad_carried (h : UnderWay s q cid 6 d) :
    ∃ t, exec (.poolLoad q cid walk) s = .next t ∧
      (d.total ≤ d.moved → t.completed q { d with first := d.moved / 512 } stOk 0 0 0) ∧
      t.poolMem = (s.poolIn q d).poolMem ∧ t.poolBad = (s.poolIn q d).poolBad := by
  rw [exec_poolLoad, h.advance, poolGo]
  refine ⟨_, rfl, fun hm => ?_, ?_⟩
  · rw [if_neg (by omega)]
    exact State.endDesc_completed ..
  · split
    · exact ⟨(State.readChunk_does ..).poolMem (by decide), (State.readChunk_does ..).poolBad (by decide)⟩
    · exact ⟨(State.endDesc_does ..).poolMem (by decide), (State.endDesc_does ..).poolBad (by decide)⟩

end

end Sys2Proof.Machine
end

/-! ### Scope: UCODE_LOAD, FW_LOAD and MTP_WRITE -/

section
namespace Sys2Proof.Machine

open Sys2Proof

section
variable {s u : State} {q : QpId} {cid : Nat} {walk : Walk} {d : Desc}

/-! #### UCODE_LOAD (R188, R189) -/

/-- What a pod shows of its image: its micro-operations and entries, that it is the user's, its identity and its version. -/
def State.imageAt (s : State) (p : Nat) : List Nat × List Nat × Nat × Nat × Nat :=
  ((s.pod p).image.uops, (s.pod p).image.entries, s.rd F.ENG_USTAT_USER p, s.rd F.ENG_UIMG_IMG_ID p, s.rd F.ENG_USVN_SVN p)

/-- An image that is installed shows in its pod. -/
theorem State.install_imageAt (s : State) (b : List Nat) (p : Nat) :
    (s.install b p).imageAt p = ((imageOf b).uops, (imageOf b).entries, 1, num b 12 4 % 2 ^ 32, num b 16 2 % 2 ^ 16) := by
  unfold State.install State.imageAt
  simp only [State.pod_wr, State.pod_setPod, State.rd_wr]
  rw [State.rd_wr_ne _ _ _ _ _ _ (.inl (by decide)), State.rd_wr_ne _ _ _ _ _ _ (.inl (by decide)),
    State.rd_wr_ne _ _ _ _ _ _ (.inl (by decide)), State.rd_wr_ne _ _ _ _ _ _ (.inl (by decide)),
    State.rd_wr_ne _ _ _ _ _ _ (.inl (by decide)), State.rd_wr_ne _ _ _ _ _ _ (.inl (by decide)), State.rd_wr]
  rw [State.rd_wr_ne _ _ _ _ _ _ (.inl (by decide)), State.rd_wr_ne _ _ _ _ _ _ (.inl (by decide)),
    State.rd_wr_ne _ _ _ _ _ _ (.inl (by decide)), State.rd_wr]
  rfl

/-- An image that is installed in one pod shows in no other. -/
theorem State.install_imageAt_ne (s : State) (b : List Nat) {p r : Nat} (h : r ≠ p) : (s.install b p).imageAt r = s.imageAt r := by
  unfold State.install State.imageAt
  have hrd (u : State) (f g : Fld) (v : Nat) : (u.wr f v p).rd g r = u.rd g r :=
    Store.get_put_ne _ _ fun he => h (congrArg FKey.i he)
  simp only [State.pod_wr, State.pod_setPod_ne _ _ _ _ h, hrd, State.rd_setPod]

/-- A UCODE_LOAD with all its data ends where its image fails a check, and else installs it in every named pod. -/
def State.ucodeCarry (s : State) (q : Nat) (d : Desc) : State :=
  if imageOk d.data = false then s.endDesc q d stBad 0 0 dData
  else if authCode s.revokedNow true d.data (imgSpan d.data) (num d.data 16 2) s.uccnt ≠ 0 then
    s.endDesc q d stAuth 0 0 (authCode s.revokedNow true d.data (imgSpan d.data) (num d.data 16 2) s.uccnt)
  else (d.pods.foldl (fun (s : State) (p : Nat) => s.install d.data p) s).endDesc q d stOk 0 0 0

theorem exec_ucodeLoad (s : State) (q : QpId) (cid : Nat) (walk : Walk) : exec (.ucodeLoad q cid walk) s =
    .next (s.advance q cid 7 (fun _ _ => 0) (fun d s => s.begins q d (d.f 8 31 0))
      (fun d s => s.moveThen q d walk fun d s => s.ucodeCarry q d)) := rfl

theorem exec_ucodeLoad_whole (h : UnderWay s q cid 7 d) (hm : d.total ≤ d.moved) (hb : s.blockedBy d = false) :
    exec (.ucodeLoad q cid walk) s = .next (s.ucodeCarry q d) := by
  rw [exec_ucodeLoad, h.advance, State.moveThen_whole _ _ _ _ hm, if_neg (ne_true_of_eq_false hb)]

/-- A whole UCODE_LOAD ends by the checks of its image, which leave the pods; one that passes shows in every named pod. -/
theorem ucodeLoad_carried (h : UnderWay s q cid 7 d) (hm : d.total ≤ d.moved) (hb : s.blockedBy d = false) {code : Nat}
    (hcode : code = authCode s.revokedNow true d.data (imgSpan d.data) (num d.data 16 2) s.uccnt) :
    (imageOk d.data = false → ∃ t, exec (.ucodeLoad q cid walk) s = .next t ∧ t.completed q d stBad 0 0 dData ∧ t.pods = s.pods) ∧
    (imageOk d.data = true → code ≠ 0 →
      ∃ t, exec (.ucodeLoad q cid walk) s = .next t ∧ t.completed q d stAuth 0 0 code ∧ t.pods = s.pods) ∧
    (imageOk d.data = true → code = 0 → ∃ t, exec (.ucodeLoad q cid walk) s = .next t ∧ t.completed q d stOk 0 0 0 ∧
      ∀ p ∈ d.pods, t.imageAt p =
        ((imageOf d.data).uops, (imageOf d.data).entries, 1, num d.data 12 4 % 2 ^ 32, num d.data 16 2 % 2 ^ 16)) := by
  rw [exec_ucodeLoad_whole h hm hb, State.ucodeCarry, ← hcode]
  refine ⟨fun hbad => ?_, fun hok hauth => ?_, fun hok hauth => ?_⟩
  · rw [if_pos hbad]
    exact ⟨_, rfl, State.endDesc_completed .., (State.endDesc_does ..).pods (by decide)⟩
  · rw [if_neg (ne_false_of_eq_true hok), if_pos hauth]
    exact ⟨_, rfl, State.endDesc_completed .., (State.endDesc_does ..).pods (by decide)⟩
  · rw [if_neg (ne_false_of_eq_true hok), if_neg (not_not_intro hauth)]
    refine ⟨_, rfl, State.endDesc_completed .., fun p hp => ?_⟩
    have hinstalled := fold_attains (fun (s : State) (p : Nat) => s.install d.data p) State.imageAt
      (fun s p => s.install_imageAt d.data p) (fun s p r hrp hr => (s.install_imageAt_ne d.data hrp).trans hr) hp s
    generalize d.pods.foldl _ s = v at hinstalled ⊢
    have hd := v.endDesc_does q d stOk 0 0 0
    rw [← hinstalled, State.imageAt, State.imageAt, hd.podX (by decide), hd.rd _ _ _ (by decide), hd.rd _ _ _ (by decide),
      hd.rd _ _ _ (by decide)]

/-! #### FW_LOAD (R529, R532) -/

/-- The image that the steward runs: where it came from, its identity, its version. -/
theorem State.runImage_shows (s : State) (b : List Nat) : (s.runImage b 2).rd F.TRUST_STAT_FWSRC = 2 ∧
    (s.runImage b 2).rd F.TRUST_FWID_IMG_ID = num b 12 4 % 2 ^ 32 ∧ (s.runImage b 2).rd F.TRUST_FWSVN_SVN = num b 16 2 % 2 ^ 16 := by
  obtain ⟨k, hregs⟩ : ∃ k, ∀ f : Fld, (s.runImage b 2).rd f = ((((s.wr F.TRUST_STAT_FWSRC 2).wr F.TRUST_STAT_KEYSLOT k).wr
    F.TRUST_FWID_IMG_ID (num b 12 4)).wr F.TRUST_FWSVN_SVN (num b 16 2)).rd f := ⟨_, fun _ => rfl⟩
  rw [hregs, hregs, hregs]
  refine ⟨?_, ?_, ?_⟩
  · rw [State.rd_wr_ne _ _ _ _ _ _ (.inl (by decide)), State.rd_wr_ne _ _ _ _ _ _ (.inl (by decide)),
      State.rd_wr_ne _ _ _ _ _ _ (.inr (by decide)), State.rd_wr]
    rfl
  · rw [State.rd_wr_ne _ _ _ _ _ _ (.inl (by decide)), State.rd_wr]
    rfl
  · rw [State.rd_wr]
    rfl

/-- A firmware image that passes is switched to; in boot hold it is kept. -/
def State.switchTo (s : State) (b : List Nat) : State :=
  if (s.runImage b 2).rd F.RST_STAT_STAGE = 14 then
    { s.runImage b 2 with rst := { (s.runImage b 2).rst with fwKept := true } } else s.runImage b 2

theorem State.switchTo_rd (s : State) (b : List Nat) (f : Fld) : (s.switchTo b).rd f = (s.runImage b 2).rd f := by
  unfold State.switchTo
  split <;> rfl

/-- A FW_LOAD with all its data ends where its image fails a check, and else switches to it. -/
def State.fwCarry (s : State) (q : Nat) (d : Desc) : State :=
  if s.fwCode d.data ≠ 0 then s.endDesc q d stAuth 0 0 (s.fwCode d.data)
  else (s.switchTo d.data).endDesc q d stOk (num d.data 12 4) (num d.data 16 2) 0

theorem exec_fwLoad (s : State) (q : QpId) (cid : Nat) (walk : Walk) : exec (.fwLoad q cid walk) s =
    .next (s.advance q cid 16 (fun _ _ => 0) (fun d s => s.begins q d (d.f 8 31 0))
      (fun d s => s.moveThen q d walk fun d s => s.fwCarry q d)) := rfl

/-- A whole FW_LOAD ends by the checks of its image, which leave the steward; one that passes runs. -/
theorem fwLoad_carried (h : UnderWay s q cid 16 d) (hm : d.total ≤ d.moved) (hb : s.blockedBy d = false) :
    (s.fwCode d.data ≠ 0 → ∃ t, exec (.fwLoad q cid walk) s = .next t ∧ t.completed q d stAuth 0 0 (s.fwCode d.data) ∧ t.rst = s.rst) ∧
    (s.fwCode d.data = 0 → ∃ t, exec (.fwLoad q cid walk) s = .next t ∧
      t.completed q d stOk (num d.data 12 4) (num d.data 16 2) 0 ∧ t.rd F.TRUST_STAT_FWSRC = 2 ∧
      t.rd F.TRUST_FWID_IMG_ID = num d.data 12 4 % 2 ^ 32 ∧ t.rd F.TRUST_FWSVN_SVN = num d.data 16 2 % 2 ^ 16) := by
  have hexec : exec (.fwLoad q cid walk) s = .next (s.fwCarry q d) := by
    rw [exec_fwLoad, h.advance, State.moveThen_whole _ _ _ _ hm, if_neg (ne_true_of_eq_false hb)]
  rw [hexec, State.fwCarry]
  refine ⟨fun hbad => ?_, fun hok => ?_⟩
  · rw [if_pos hbad]
    exact ⟨_, rfl, State.endDesc_completed .., (State.endDesc_does ..).rst (by decide)⟩
  · rw [if_neg (not_not_intro hok)]
    refine ⟨_, rfl, State.endDesc_completed .., ?_⟩
    rw [(State.endDesc_does ..).rd _ _ _ (by decide), (State.endDesc_does ..).rd _ _ _ (by decide),
      (State.endDesc_does ..).rd _ _ _ (by decide), State.switchTo_rd, State.switchTo_rd, State.switchTo_rd]
    exact s.runImage_shows d.data

/-! #### MTP_WRITE (R519, R535, R539) -/

/-- The check of an MTP_WRITE's fields. -/
def mtpCheck (s : State) (d : Desc) : Nat :=
  if d.f 8 15 0 % 64 ≠ 0 ∨ d.f 12 15 0 % 64 ≠ 0 ∨ d.f 8 15 0 < 0x1000 ∨ d.f 8 15 0 + d.f 12 15 0 > 0x1200 then dRange
  else if s.on F.TRUST_STAT_MTPLOCK then dState else 0

/-- An MTP_WRITE with all its data, by the rows that are written and the pulse that runs. -/
def State.mtpRow (s : State) (q : Nat) (verified : Bool) (d : Desc) : State :=
  match s.rst.pulse with
  | none => if s.rst.deferred then s else s.pulseRow (d.f 8 15 0 + 64 * d.first) ((d.data.drop (64 * d.first)).take 64)
  | some p =>
    if p.row < 0x1000 ∨ s.rst.deferred = true then s
    else if verified = false then ((s.endPulse verified).detect 50 0 p.row).endDesc q d stAborted d.first 0 0x20
    else if 64 * (d.first + 1) ≥ d.total then (s.endPulse verified).endDesc q d stOk (d.first + 1) 0 0
    else (s.endPulse verified).putDesc q { d with first := d.first + 1 }

/-- An MTP_WRITE that has begun: its data, its zeros, its end, its rows. -/
def mtpGo (q : Nat) (walk : Walk) (verified : Bool) (d : Desc) (s : State) : State :=
  if d.moved < d.total then s.readChunk q d walk
  else if d.first = 0 ∧ (List.range d.total).any (fun i => mtpZero (d.f 8 15 0 + i) && d.data.getD i 0 != 0) = true then
    s.endDesc q d stBad 0 0 dData
  else if 64 * d.first ≥ d.total then s.endDesc q d stOk d.first 0 0
  else s.mtpRow q verified d

theorem exec_mtpWrite (s : State) (q : QpId) (cid : Nat) (walk : Walk) (verified : Bool) : exec (.mtpWrite q cid walk verified) s =
    .next (s.advance q cid 17 mtpCheck (fun d s => s.putDesc q { d with accepted := true, total := d.f 12 15 0, first := 0 })
      (mtpGo q walk verified)) := rfl

/-- The end of a pulse: the row holds its bytes where it verified, and no other byte of the MTP changes. -/
theorem State.endPulse_writes {s : State} {p : PulseX} (h : s.rst.pulse = some p) (verified : Bool) :
    (s.endPulse verified).rst.pulse = none ∧
    (s.endPulse verified).mtpMem = if verified then s.mtpMem.writeBytes p.row p.bytes else s.mtpMem := by
  simp only [State.endPulse, h, and_self]

section
variable (h : UnderWay s q cid 17 d) (hm : d.total ≤ d.moved) (hf : 64 * d.first < d.total)
  (hz : ∀ i, i < d.total → mtpZero (d.f 8 15 0 + i) = true → d.data.getD i 0 = 0)
include h hm hf hz

/-- An MTP_WRITE with rows to go, and zeros where the MTP wants them, goes on with its row. -/
theorem exec_mtpWrite_row (verified : Bool) :
    exec (.mtpWrite q cid walk verified) s = .next (s.mtpRow q verified d) := by
  have hzero : (List.range d.total).any (fun i => mtpZero (d.f 8 15 0 + i) && d.data.getD i 0 != 0) = false :=
    List.any_eq_false.2 fun i hi => by
      simp only [Bool.and_eq_true, bne_iff_ne, not_and, not_not]
      exact hz i (List.mem_range.1 hi)
  rw [exec_mtpWrite, h.advance, mtpGo, if_neg (by omega), hzero, if_neg (fun h => Bool.false_ne_true h.2), if_neg (by omega)]

/-- A row's pulse begins where none runs. -/
theorem mtpWrite_begins (hdef : s.rst.deferred = false) (verified : Bool) (hp : s.rst.pulse = none) :
    ∃ t, exec (.mtpWrite q cid walk verified) s = .next t ∧ t.mtpMem = s.mtpMem ∧
      t.rst.pulse = some { row := d.f 8 15 0 + 64 * d.first, bytes := (d.data.drop (64 * d.first)).take 64 } := by
  refine ⟨_, exec_mtpWrite_row h hm hf hz verified, ?_⟩
  simp only [State.mtpRow, hp, hdef, Bool.false_eq_true, if_false, State.pulseRow, and_self]

/-- A row's pulse that ends and verifies writes the row, and the last one ends the command. -/
theorem mtpWrite_verified (hdef : s.rst.deferred = false) {p : PulseX} (hp : s.rst.pulse = some p) (hrow : 0x1000 ≤ p.row)
    (hlen : p.bytes.length = 64) :
    ∃ t, exec (.mtpWrite q cid walk true) s = .next t ∧ t.rst.pulse = none ∧
      (∀ i, i < 64 → t.mtpMem.byte (p.row + i) = BitVec.ofNat 8 (p.bytes.getD i 0)) ∧
      (∀ a, a < p.row ∨ p.row + 64 ≤ a → t.mtpMem.byte a = s.mtpMem.byte a) ∧
      (d.total ≤ 64 * (d.first + 1) → t.completed q d stOk (d.first + 1) 0 0) := by
  obtain ⟨hpulse, hmem⟩ := State.endPulse_writes hp true
  have hgo : ¬(p.row < 0x1000 ∨ s.rst.deferred = true) := by simp only [hdef, Bool.false_eq_true, or_false]; omega
  have ht : ∃ t, exec (.mtpWrite q cid walk true) s = .next t ∧ t.rst = (s.endPulse true).rst ∧ t.mtpMem = (s.endPulse true).mtpMem ∧
      (d.total ≤ 64 * (d.first + 1) → t.completed q d stOk (d.first + 1) 0 0) := by
    refine ⟨_, exec_mtpWrite_row h hm hf hz true, ?_⟩
    simp only [State.mtpRow, hp, if_neg hgo, Bool.true_eq_false, if_false]
    split
    · exact ⟨(State.endDesc_does ..).rst (by decide), (State.endDesc_does ..).mtpMem (by decide), fun _ => State.endDesc_completed ..⟩
    · next hmore => exact ⟨rfl, rfl, fun hl => absurd hl hmore⟩
  obtain ⟨t, hexec, hrst, htmem, hdone⟩ := ht
  have hwrote : t.mtpMem = s.mtpMem.writeBytes p.row p.bytes := htmem.trans hmem
  refine ⟨t, hexec, by rw [hrst, hpulse], fun i hi => ?_, fun a ha => ?_, hdone⟩
  · rw [hwrote, Memory.byte_writeBytes_in _ _ _ _ (by omega)]
  · rw [hwrote, Memory.byte_writeBytes_out _ _ _ _ (by omega)]

/-- A row's pulse that ends and does not verify writes nothing, is a fault, and ends the command. -/
theorem mtpWrite_aborts (hdef : s.rst.deferred = false) {p : PulseX} (hp : s.rst.pulse = some p) (hrow : 0x1000 ≤ p.row) :
    ∃ t, exec (.mtpWrite q cid walk false) s = .next t ∧ t.rst.pulse = none ∧ t.mtpMem = s.mtpMem ∧
      t.completed q d stAborted d.first 0 0x20 ∧ t.faultq = s.faultq ++ [FaultIn.mk 50 0 p.row false s.now] := by
  obtain ⟨hpulse, hmem⟩ := State.endPulse_writes hp false
  have hgo : ¬(p.row < 0x1000 ∨ s.rst.deferred = true) := by simp only [hdef, Bool.false_eq_true, or_false]; omega
  have hkeeps : (s.endPulse false).faultq = s.faultq ∧ (s.endPulse false).now = s.now := by simp only [State.endPulse, hp, and_self]
  obtain ⟨hfaults, hnow⟩ := hkeeps
  have hdet := (s.endPulse false).detect_does 50 0 p.row
  have hend := ((s.endPulse false).detect 50 0 p.row).endDesc_does q d stAborted d.first 0 0x20
  have hexec : exec (.mtpWrite q cid walk false) s =
      .next (((s.endPulse false).detect 50 0 p.row).endDesc q d stAborted d.first 0 0x20) := by
    rw [exec_mtpWrite_row h hm hf hz false]
    simp only [State.mtpRow, hp, if_neg hgo, if_true]
  refine ⟨_, hexec, ?_, ?_, State.endDesc_completed .., ?_⟩
  · rw [hend.rst (by decide), hdet.rst (by decide), hpulse]
  · rw [hend.mtpMem (by decide), hdet.mtpMem (by decide), hmem]
    rfl
  · rw [hend.faultq (by decide), State.detect, hfaults, hnow]

end

end

/-- Settles O47: each load by its stages, its checks and what it writes. -/
theorem poolAndMicrocodeAreLoaded : Obligations.PoolAndMicrocodeAreLoaded := by
  unfold Obligations.PoolAndMicrocodeAreLoaded
  intro s q cid walk d u
  refine ⟨refill_starts, refill_carried, poolLoad_starts, fun h hf hm => ?pool, fun h hm hb code hcode => ?ucode, fwLoad_carried,
    fun h hm hf hdef hz verified => ⟨mtpWrite_begins h hm hf hz hdef verified, fun p hp hrow hlen =>
      ⟨fun _ => mtpWrite_verified h hm hf hz hdef hp hrow hlen, fun _ => mtpWrite_aborts h hm hf hz hdef hp hrow⟩⟩⟩
  case pool =>
    obtain ⟨t, ht, hdone, hmem, hbad⟩ := poolLoad_carried (walk := walk) h
    have hwrites := s.poolIn_writes q hf hm
    rw [← hmem, ← hbad] at hwrites
    exact ⟨t, ht, hdone, hwrites⟩
  case ucode =>
    obtain ⟨hbad, hauth, hgood⟩ := ucodeLoad_carried (walk := walk) h hm hb hcode
    refine ⟨hbad, hauth, fun hok h0 => ?_⟩
    obtain ⟨t, ht, hdone, hshows⟩ := hgood hok h0
    refine ⟨t, ht, hdone, fun p hp => ?_⟩
    have hp := hshows p hp
    simp only [State.imageAt, Prod.mk.injEq] at hp
    exact hp

end Sys2Proof.Machine
end

/-! ### Scope: the resolution of branches and the decisions of loops -/

section
namespace Sys2Proof.Machine

open Sys2Proof

/-! #### What the steps of a resolution leave of a gang (R200, R207, R213) -/

/-- A counted resolution leaves its tick in the gang. -/
theorem State.countRes_gang (s : State) (n k : Nat) : (s.countRes n k).gang n = { s.gang n with lastRes := some s.now } :=
  (State.gang_of_gangs (State.wr_fold_gangs (fun s p => s.bump F.ENG_RA_RES_RES k p) (fun _ _ => rfl) _ _) n).trans
    (State.gang_setGang ..)

theorem State.countMisp_gang (s : State) (n m : Nat) : (s.countMisp n).gang m = s.gang m :=
  (State.countMisp_does s n).gang (by decide) m

theorem State.learn_gang (s : State) (n : Nat) (a : PAddr) (taken : Bool) (m : Nat) : (s.learn n a taken).gang m = s.gang m :=
  (State.learn_does s n a taken).gang (by decide) m

/-- A sprout that ends changes no more of the gang. -/
theorem State.endSprout_gang (s : State) (n owner : Nat) :
    ∃ sp, (s.endSprout n owner).gang n = { s.gang n with sprout := sp } := by
  unfold State.endSprout
  extract_lets g
  split
  · split
    · exact ⟨_, State.gang_setGang ..⟩
    · exact ⟨_, rfl⟩
  · exact ⟨_, rfl⟩

/-- What a squash leaves of a gang: its paths, its start, the checkpoints up to the cut, and no error where it held none (R207). -/
structure Gang.Squashed (g h : Gang) (q : Nat) : Prop where
  main : h.main = g.main
  sprout : h.sprout = g.sprout
  startT : h.startT = g.startT
  ckpts : ∀ c ∈ h.ckpts, c.seq ≤ q
  held : g.held = none → h.held = none

theorem State.squash_squashed (s : State) (n q ix : Nat) (own : Nat × Nat → Bool) :
    (s.gang n).Squashed ((s.squash n q ix own).gang n) q := by
  unfold State.squash
  extract_lets g keep stays gone u
  rw [State.gang_of_gangs (State.wr_fold_gangs (fun s p => (s.bump F.ENG_RA_SQ_SQ gone p).pulse 0x04 p gone) (fun _ _ => rfl) _ _) n,
    State.gang_setGang]
  exact ⟨rfl, rfl, rfl, fun c hc => of_decide_eq_true (List.mem_filter.1 hc).2, fun hh => congrArg (Option.filter _) hh⟩

/-- Without a sprout the main path goes on with the thread given, ten ticks on (R213). -/
theorem State.redirect_noSprout {s : State} {n : Nat} (h : (s.gang n).sprout = none) (th : Thread) (use : Bool) (d : Stamp) :
    s.redirect n th use false d =
      s.setGang n { s.gang n with main := { th with nextDisp := s.slotted n (after d 10) (s.gang n).main.dispT } } := by
  simp only [State.redirect, h, Bool.false_eq_true, if_false]

/-- The slot of a dispatch does not depend on what has been done since. -/
theorem MidWord.slotted {s u : State} {n : Nat} {p : Path} (h : MidWord s u n p) (t last : Stamp) :
    u.slotted n t last = s.slotted n t last := by
  have hmode : u.on F.ENG_UCTL_COMPAT (u.lead n) = s.on F.ENG_UCTL_COMPAT (s.lead n) := by
    rw [State.lead_of h.siteMap]
    exact congrArg (· == 1) (h.compat _)
  simp only [State.slotted, hmode, h.startT]

/-- A gang that goes on with a thread after a wrong prediction: it holds no error, and only checkpoints before the cut are left. -/
structure Gang.Resumed (g : Gang) (th : Thread) (q : Nat) : Prop where
  main : g.main = th
  held : g.held = none
  ckpts : ∀ k ∈ g.ckpts, k.seq < q

/-- A wrong prediction in a gang without a sprout: the main path is the other path. -/
theorem MidWord.mispredict {s u : State} {n : Nat} (h : MidWord s u n .main) (hsprout : (u.gang n).sprout = none) (c : Ckpt)
    (th : Thread) (d : Stamp) : ((u.mispredict n c c.seq th d).gang n).Resumed
      { th with nextDisp := s.slotted n (after d 10) (u.gang n).main.dispT } c.seq := by
  unfold State.mispredict
  extract_lets use w g v
  have hmisp : MidWord s (u.countMisp n) n .main :=
    h.does (State.countMisp_does u n) (by decide) (by decide) (by decide) (by rw [State.countMisp_gang]) (by rw [State.countMisp_gang]) rfl
  have hsq : ((u.countMisp n).gang n).Squashed g c.seq := State.squash_squashed ..
  have hw : MidWord s w n .main :=
    hmisp.does (State.squash_does ..) (by decide) (by decide) (by decide) hsq.startT ((hsq.held hmisp.held).trans hmisp.held.symm) rfl
  have hv : MidWord s v n .main := hw.setGang _ rfl rfl rfl
  have hgang : v.gang n = { g with ckpts := g.ckpts.filter (fun k => k.seq != c.seq) } := State.gang_setGang ..
  rw [State.countMisp_gang] at hsq
  rw [State.redirect_noSprout (by rw [hgang]; exact hsq.sprout.trans hsprout), State.gang_setGang, hv.slotted, hgang]
  refine ⟨by rw [hsq.main], hw.held, fun k hk => ?_⟩
  obtain ⟨hk, hne⟩ := List.mem_filter.1 hk
  exact Nat.lt_of_le_of_ne (hsq.ckpts k hk) (bne_iff_ne.1 hne)

/-! #### What follows every resolution -/

/-- In a gang without errors the main path then stays as it is. -/
theorem State.settle_main {s : State} {n : Nat} (hh : (s.gang n).held = none) : ((s.settle n).gang n).main = (s.gang n).main := by
  obtain ⟨g, sp, hfixed, hg, -⟩ := State.settled_gang hh
  exact (congrArg Gang.main hg).trans hfixed.main

/-- In a gang without errors the checkpoints then stand at the places they stood at, with the iterations that were open. -/
theorem State.settle_ckpts {s : State} {n : Nat} (hh : (s.gang n).held = none) :
    ∀ k ∈ ((s.settle n).gang n).ckpts, ∃ c ∈ (s.gang n).ckpts, k.seq = c.seq ∧ ∀ hi f t l a js, k.kind = .mtch hi f t l a js →
      ∃ its, c.kind = .mtch hi f t l a its ∧ js.map (·.seq) = its.map (·.seq) := by
  intro k hk
  obtain ⟨g, sp, hfixed, hg, -⟩ := State.settled_gang hh
  obtain ⟨c, hc, hseq, -, -, -, hiters⟩ := hfixed.cks k (congrArg Gang.ckpts hg ▸ hk)
  exact ⟨c, hc, hseq, hiters⟩

/-! #### JFAIL and JPASS (R200, R213) -/

/-- The oldest checkpoint is resolved where it is of a JFAIL or JPASS whose condition is known. -/
theorem exec_branchResolve {s : State} {n : SiteId} {c : Ckpt} {tail : List Ckpt} (hc : (s.gang n).ckpts = c :: tail)
    {isFail : Bool} {cond idx imm popl v : Nat} {tgt : PAddr} (hk : c.kind = .cond isFail cond idx imm popl tgt)
    (hv : s.evalCond n .main c.alt c.seq cond idx imm = some v) :
    exec (.branchResolve n) s = .next (s.resolveCond n c isFail v) := by
  change execBranchResolve n s = _
  simp only [execBranchResolve, hc, List.find?_cons, hk, hv, Option.isSome_some]

/-- A resolution counted and learnt leaves the gang but for the tick of its last resolution. -/
theorem State.counted_gang (s : State) (n : Nat) (a : PAddr) (taken : Bool) :
    ((s.countRes n 1).learn n a taken).gang n = { s.gang n with lastRes := some s.now } :=
  (State.learn_gang ..).trans (State.countRes_gang ..)

/-- A branch predicted right leaves the main path, and its checkpoint is gone. -/
theorem State.resolveCond_right {s : State} {n : Nat} {c : Ckpt} {isFail : Bool} {v : Nat} (hh : (s.gang n).held = none)
    (hp : c.taken = decide (v = if isFail then 1 else 0)) :
    ((s.resolveCond n c isFail v).gang n).main = (s.gang n).main ∧
      ∀ k ∈ ((s.resolveCond n c isFail v).gang n).ckpts, k.seq ≠ c.seq := by
  unfold State.resolveCond
  extract_lets taken u g
  have hg : g = { s.gang n with lastRes := some s.now } := s.counted_gang n c.word taken
  have hmain : g.main = (s.gang n).main := by rw [hg]
  have hheld : g.held = none := by rw [hg, hh]
  obtain ⟨sp, hsp⟩ := (u.setGang n { g with ckpts := g.ckpts.filter (fun k => k.seq != c.seq) }).endSprout_gang n c.seq
  rw [State.gang_setGang] at hsp
  rw [if_pos hp.symm]
  have hquiet := (congrArg Gang.held hsp).trans hheld
  refine ⟨(State.settle_main hquiet).trans ((congrArg Gang.main hsp).trans hmain), fun k hk => ?_⟩
  obtain ⟨k', hk', hseq, -⟩ := State.settle_ckpts hquiet k hk
  rw [hsp] at hk'
  exact hseq ▸ bne_iff_ne.1 (List.mem_filter.1 hk').2

/-- A branch predicted wrong, without a sprout: the main path is the other path, ten ticks on, and only the checkpoints before it are
left. -/
theorem State.resolveCond_wrong {s : State} {n : Nat} {c : Ckpt} {isFail : Bool} {v : Nat} {th : Thread} (hh : (s.gang n).held = none)
    (hp : c.taken ≠ decide (v = if isFail then 1 else 0)) (hs : (s.gang n).sprout = none)
    (hth : ((s.countRes n 1).learn n c.word (!c.taken)).altPath n c = .ok th) :
    ((s.resolveCond n c isFail v).gang n).main = { th with nextDisp := s.slotted n (after s.now 10) (s.gang n).main.dispT } ∧
      ∀ k ∈ ((s.resolveCond n c isFail v).gang n).ckpts, k.seq < c.seq := by
  unfold State.resolveCond
  extract_lets taken u g
  have htaken : taken = !c.taken := Bool.eq_not.2 hp.symm
  have hdoes := (State.countRes_does s n 1).andThen (State.learn_does (s.countRes n 1) n c.word taken)
  have hgang : u.gang n = { s.gang n with lastRes := some s.now } := s.counted_gang n c.word taken
  have hmid : MidWord s s n .main := ⟨rfl, rfl, fun _ => rfl, rfl, hh, rfl⟩
  have hu : MidWord s u n .main :=
    hmid.does hdoes (by decide) (by decide) (by decide) (by rw [hgang]) (by rw [hgang]) rfl
  have hresumed := hu.mispredict (by rw [hgang, hs]) c th u.now
  rw [← htaken] at hth
  rw [if_neg hp.symm, show u.altPath n c = .ok th from hth]
  refine ⟨(State.settle_main hresumed.held).trans (hresumed.main.trans ?_), fun k hk => ?_⟩
  · rw [hu.now, hgang]
  · obtain ⟨k', hk', hseq, -⟩ := State.settle_ckpts hresumed.held k hk
    exact hseq ▸ hresumed.ckpts k' hk'

/-! #### A decision of a MATCH (R210) -/

/-- The oldest open decision of a MATCH that is not PASS: the loop's checkpoint goes on with the later iterations. -/
theorem exec_matchDecision {s : State} {n : SiteId} {c : Ckpt} {tail : List Ckpt} (hh : (s.gang n).held = none)
    (hc : (s.gang n).ckpts = c :: tail) {hint failto : Bool} {tag limit v : Nat} {target : PAddr} {i : MatchIter} {its : List MatchIter}
    (hk : c.kind = .mtch hint failto tag limit target (i :: its))
    (hv : s.evalCond n .main i.th i.seq 1 tag 0 = some v) (hfail : v ≠ 0) :
    ∃ u : State, exec (.matchDecision n) s = .next (u.settle n) ∧ (u.gang n).held = none ∧
      ∀ k ∈ (u.gang n).ckpts, k.seq = c.seq → ∀ h f tg l a js, k.kind = .mtch h f tg l a js → js = its := by
  obtain ⟨v, rfl⟩ := Nat.exists_eq_add_one_of_ne_zero hfail
  change ∃ u, execMatchDecision n s = _ ∧ _
  simp only [execMatchDecision, hc, List.find?_cons, hk, hv]
  refine ⟨_, rfl, ?_, fun k hmem hseq h f tg l a js hkind => ?_⟩
  · rw [State.gang_setGang]
    split <;> simp only [State.countMisp_gang, State.countRes_gang, hh]
  · rw [State.gang_setGang] at hmem
    obtain ⟨k', -, hk'⟩ := List.mem_map.1 (List.mem_of_mem_filter hmem)
    by_cases hplace : k'.seq = c.seq
    · rw [if_pos hplace] at hk'
      rw [← hk'] at hkind
      cases hkind' : k'.kind with
      | mtch =>
        simp only [hkind'] at hkind
        cases hkind
        rfl
      | cond => simp only [hkind', reduceCtorEq] at hkind
      | user => simp only [hkind', reduceCtorEq] at hkind
    · rw [if_neg hplace] at hk'
      exact absurd (hk' ▸ hseq) hplace

/-- Settles O22: right or wrong, a known branch resolves; a MATCH's failed iteration leaves its checkpoint. -/
theorem branchesResolve : Obligations.BranchesResolve := by
  unfold Obligations.BranchesResolve
  intro s n c tail hh hc
  refine ⟨fun isFail cond idx imm popl tgt v hk hv => ⟨fun hp => ?right, fun hp hs th hth => ?wrong⟩,
    fun h f tag l a i its v hk hv hfail => ?decision⟩
  case right => exact ⟨_, exec_branchResolve hc hk hv, State.resolveCond_right hh hp⟩
  case wrong => exact ⟨_, exec_branchResolve hc hk hv, State.resolveCond_wrong hh hp hs hth⟩
  case decision =>
    obtain ⟨u, hexec, hheld, hleft⟩ := exec_matchDecision hh hc hk hv hfail
    refine ⟨_, hexec, fun k hmem hseq h f tg l a js hkind => ?_⟩
    obtain ⟨k', hk', hplace, hiters⟩ := State.settle_ckpts hheld k hmem
    obtain ⟨its', hkind', hsame⟩ := hiters h f tg l a js hkind
    rw [hsame, hleft k' hk' (hplace.symm.trans hseq) h f tg l a its' hkind']

end Sys2Proof.Machine
end

/-! ### Scope: retirement, refill, pool errors and rewinds of segment entries -/

section
namespace Sys2Proof.Machine

open Sys2Proof

/-! #### Retirement (R228) -/

/-- A CONSUME entry that retires is RETIRED with no reloads left, and else begins its reload of ADV granules on. -/
theorem State.retire_consume {s : State} {p k : Nat} (h : (s.seg p k).consume = true) :
    ((s.seg p k).rem = 0 → ((s.retire p k).seg p k).st = sgRetired) ∧
    ((s.seg p k).rem ≠ 0 → ((s.retire p k).seg p k).st = sgLoading ∧
      ((s.retire p k).seg p k).src = (s.seg p k).src + (s.seg p k).adv ∧ ((s.retire p k).seg p k).rem = (s.seg p k).rem - 1) := by
  simp only [State.retire, h, Bool.true_eq_false, if_false]
  refine ⟨fun hrem => ?_, fun hrem => ?_⟩
  · rw [if_pos hrem, State.seg_setSeg]
  · rw [if_neg hrem]
    have htok (u : State) (tok : Nat) : ({ u with tok := tok } : State).seg p k = u.seg p k := rfl
    simp only [htok, State.startLoad, State.seg_setSeg, and_self]

/-- An entry left by a crossing retires once the first word after the crossing has committed. -/
theorem exec_retirement_due {s : State} {pod : PodId} {k : Fin 64} {n : Nat} {e : Nat × Nat} (hn : s.siteOfPod pod = some n)
    (he : (s.gang n).retire.find? (fun e => e.1 == 64 * pod.val + k.val) = some e) (hpast : e.2 < (s.gang n).seqNext)
    (hclear : (s.gang n).clearBefore e.2 wordEnd = true) :
    exec (.retirement pod k) s = .next ((s.setGang n { s.gang n with retire := (s.gang n).retire.erase e }).retire pod k) := by
  change execRetirement pod k s = _
  simp only [execRetirement, hn, he, hclear, Bool.true_eq_false, or_false, if_neg (Nat.not_le.2 hpast)]

/-! #### Refill (R224, R245) -/

/-- The load whose turn it is ends (R245). -/
theorem exec_refillDone_turn {s : State} {pod : PodId} {k : Fin 64} (hsafe : s.safe = false) (hst : (s.seg pod k).st = sgLoading)
    (hcls : (s.seg pod k).cls < 5) (hkind : (s.seg pod k).kind ≠ kdStream) (hdue : 2 < (s.seg pod k).cls → s.streamDue pod = false)
    (hold : (s.seg pod k).cls = 3 → s.oldestReload pod k = true) (hbest : (s.seg pod k).cls = s.bestClass pod)
    (hgood : s.poolBad.any (fun g => decide ((s.seg pod k).src ≤ g ∧ g < (s.seg pod k).src + (s.seg pod k).len)) = false) :
    exec (.refillDone pod k) s = .next (s.finishLoad pod k) := by
  refine congrArg Host.Outcome.next (if_neg ?_)
  rintro (h | h | h | h | h | ⟨hc, h⟩ | ⟨hc, h⟩ | h)
  · exact Bool.false_ne_true (hsafe.symm.trans h)
  · exact h hst
  · exact absurd hcls (Nat.not_lt.2 h)
  · exact hkind h
  · exact h hbest
  · exact Bool.false_ne_true ((hdue hc).symm.trans h)
  · exact Bool.false_ne_true (h.symm.trans (hold hc))
  · exact Bool.false_ne_true (hgood.symm.trans h)

/-! #### Pool errors (R232) -/

/-- A granule of the pool is known to read with an error. -/
def State.noteBad (s : State) (g : Nat) : State :=
  { s with poolBad := if s.poolBad.contains g then s.poolBad else s.poolBad ++ [g] }

theorem State.noteBad_poolBad (s : State) (g : Nat) : g ∈ (s.noteBad g).poolBad := by
  unfold State.noteBad
  split
  · next h => exact List.contains_iff_mem.1 h
  · exact List.mem_append_right _ List.mem_cons_self

/-- A pool error in a granule of a load frees its entry and is detected. -/
theorem exec_poolError_hit {s : State} {pod : PodId} {k : Fin 64} {g : Nat} (hst : (s.seg pod k).st = sgLoading)
    (hcls : (s.seg pod k).cls ≠ 5) (hlo : (s.seg pod k).src ≤ g) (hhi : g < (s.seg pod k).src + (s.seg pod k).len) :
    exec (.poolError pod k g) s = .next ((((s.noteBad g).setSeg pod k { s.seg pod k with st := sgFree, cls := 0 }).wr
      F.ENG_PM_STAT_LOADERR 1 pod).detect 10 0 g) := by
  refine congrArg Host.Outcome.next (if_neg ?_)
  rintro (h | h | h | h)
  · exact h hst
  · exact hcls h
  · omega
  · omega

/-! #### Rewind (R229) -/

/-- Where a step takes its own unit through an idempotent function and leaves the others, a fold takes every unit it names through it. -/
theorem fold_maps {α β : Type} {f : β → β} (hf : ∀ x, f (f x) = f x) (g : State → α → State) (obs : State → α → β)
    (hown : ∀ s p, obs (g s p) p = f (obs s p)) (hoth : ∀ s p q, q ≠ p → obs (g s p) q = obs s q) {l : List α} {q : α} (hq : q ∈ l)
    (s : State) : obs (l.foldl g s) q = f (obs s q) := by
  refine fold_reaches_from (I := fun u => obs u q = obs s q) (P := fun u => obs u q = f (obs s q)) hq ?before ?own ?after rfl
  case before => exact fun u p hp h => (hoth u p q (Ne.symm hp)).trans h
  case own => exact fun u h => (hown u q).trans (congrArg f h)
  case after =>
    intro u p h
    by_cases hp : q = p
    · rw [← hp, hown, h, hf]
    · rw [hoth u p q hp, h]

/-- An entry at the end of its gang's step: a REWIND entry that has moved or retired loads from PBASE, and an ACTIVE one is READY. -/
def SegX.rewound (x : SegX) : SegX :=
  if x.rewind ∧ (x.src ≠ x.pbase ∨ x.st = sgRetired) then { x with rem := x.reloads, st := sgLoading, src := x.pbase, cls := 4 }
  else if x.st = sgActive then { x with st := sgReady } else x

/-- An entry that has been taken to the end of a step stays as it is. -/
theorem SegX.rewound_rewound (x : SegX) : x.rewound.rewound = x.rewound := by
  unfold SegX.rewound
  by_cases hload : x.rewind ∧ (x.src ≠ x.pbase ∨ x.st = sgRetired)
  · rw [if_pos hload, if_neg fun h => h.2.elim (· rfl) nofun, if_neg nofun]
  · rw [if_neg hload]
    by_cases hact : x.st = sgActive
    · rw [if_pos hact, if_neg fun h => hload ⟨h.1, h.2.imp id nofun⟩, if_neg nofun]
    · rw [if_neg hact, if_neg hload, if_neg hact]

/-- What the end of a step makes of one entry of a pod. -/
def State.rewindSeg (s : State) (p k : Nat) : State :=
  let x := s.seg p k
  let x1 := if x.st = sgActive then { x with st := sgReady } else x
  let s := if x.st = sgActive then s.setSeg p k x1 else s
  if x1.rewind ∧ (x1.src ≠ x1.pbase ∨ x1.st = sgRetired) then
    (s.setSeg p k { x1 with rem := x1.reloads }).startLoad p k x1.pbase 4
  else s

theorem State.rewindPod_eq (s : State) (p : Nat) : s.rewindPod p = (List.range 64).foldl (fun s k => s.rewindSeg p k) s := rfl

theorem State.rewindSeg_own (s : State) (p k : Nat) : (s.rewindSeg p k).seg p k = (s.seg p k).rewound := by
  unfold State.rewindSeg SegX.rewound
  extract_lets x x1 s1
  have hs1 : s1.seg p k = x1 := by
    unfold s1 x1
    split
    · exact State.seg_setSeg ..
    · rfl
  have hload : (x1.rewind ∧ (x1.src ≠ x1.pbase ∨ x1.st = sgRetired)) = (x.rewind ∧ (x.src ≠ x.pbase ∨ x.st = sgRetired)) := by
    unfold x1
    split
    · next hact => simp only [hact, sgReady, sgActive, sgRetired, Nat.reduceEqDiff]
    · rfl
  simp only [hload]
  change _ = if x.rewind ∧ (x.src ≠ x.pbase ∨ x.st = sgRetired) then _ else x1
  split
  · rw [State.startLoad, State.seg_setSeg, State.seg_setSeg]
    unfold x1
    split <;> rfl
  · exact hs1

theorem State.rewindSeg_other (s : State) {p k q j : Nat} (h : q ≠ p ∨ j ≠ k) : (s.rewindSeg p k).seg q j = s.seg q j := by
  unfold State.rewindSeg
  extract_lets x x1 s1
  have hs1 : s1.seg q j = s.seg q j := by
    unfold s1
    split
    · exact State.seg_setSeg_ne _ _ _ _ _ _ h
    · rfl
  split
  · rw [State.startLoad, State.seg_setSeg_ne _ _ _ _ _ _ h, State.seg_setSeg_ne _ _ _ _ _ _ h, hs1]
  · exact hs1

/-- The end of a step takes every entry of a pod to its end, and no entry of another pod. -/
theorem State.rewindPod_seg (s : State) (p q : Nat) {k : Nat} (hk : k < 64) :
    (s.rewindPod p).seg q k = if q = p then (s.seg q k).rewound else s.seg q k := by
  rw [State.rewindPod_eq]
  split
  · next h =>
    subst h
    exact fold_maps SegX.rewound_rewound _ (fun s k => s.seg q k) (fun s k => s.rewindSeg_own q k) (fun s j k h => s.rewindSeg_other (.inr h))
      (List.mem_range.2 hk) s
  · next h => exact fold_keeps _ (fun s => s.seg q k) (fun s j => s.rewindSeg_other (.inl h)) _ s

/-- A rewind takes every entry of the gang's pods to the end of the step. -/
theorem rewind_rewinds {s : State} {n : SiteId} (h : (s.gang n).rewindDue = true) :
    ∃ t, exec (.rewind n) s = .next t ∧ (t.gang n).rewindDue = false ∧
      ∀ p ∈ s.podsOf n, ∀ k, k < 64 → t.seg p k = (s.seg p k).rewound := by
  refine ⟨_, congrArg Host.Outcome.next (if_pos h), ?_, fun p hp k hk => ?_⟩
  · rw [(Does.each (fun (s : State) p => s.rewindPod_does p) _ _).gang (by decide), State.gang_setGang]
  · exact fold_maps SegX.rewound_rewound (fun (s : State) p => s.rewindPod p) (fun s p => s.seg p k)
      (fun s p => (s.rewindPod_seg p p hk).trans (if_pos rfl)) (fun s p q hqp => (s.rewindPod_seg p q hk).trans (if_neg hqp)) hp _

/-- Settles O26: the retirement by its reload, the load by its bytes, the pool error by its entry, the rewind entry by entry. -/
theorem segmentsLoadAndRetire : Obligations.SegmentsLoadAndRetire := by
  unfold Obligations.SegmentsLoadAndRetire
  intro s
  refine ⟨fun pod k n e hn he hpast hclear hconsume => ⟨_, exec_retirement_due hn he hpast hclear, ?retired, ?reload⟩,
    fun pod k hsafe hst hcls hkind hdue hold hbest hgood =>
      ⟨_, exec_refillDone_turn hsafe hst hcls hkind hdue hold hbest hgood, ?loaded⟩,
    fun pod k g hst hcls hlo hhi =>
      ⟨_, exec_poolError_hit hst hcls hlo hhi, ?free, ?shown, State.noteBad_poolBad s g⟩, fun n hdue => ?rewind⟩
  case retired => rw [(State.retire_does ..).gang (by decide), State.gang_setGang]
  case reload => exact State.retire_consume (s := s.setGang n { s.gang n with retire := (s.gang n).retire.erase e }) hconsume
  case loaded =>
    obtain ⟨hown, -, hbytes, hframe, -⟩ := s.finishLoad_loads pod k
    exact ⟨congrArg SegX.st hown, hbytes, fun a ha => hframe a (by rwa [granuleAddr_eq pod _ (s.seg pod k).len] at ha)⟩
  case free => rw [(State.detect_does ..).segX (by decide), (State.wr_does ..).segX (by decide), State.seg_setSeg]
  case shown => exact (State.rd_detect ..).trans (State.rd_wr ..)
  case rewind =>
    obtain ⟨t, hexec, hdone, hsegs⟩ := rewind_rewinds hdue
    refine ⟨t, hexec, hdone, fun p hp k hk => ⟨fun hload => ?_, fun hno hact => ?_⟩⟩
    all_goals rw [hsegs p hp k hk, SegX.rewound]
    · rw [if_pos hload]
      exact ⟨rfl, rfl, rfl⟩
    · rw [if_neg fun h => Bool.false_ne_true (hno.symm.trans h.1), if_pos hact]

end Sys2Proof.Machine
end

/-! ### Scope: crossings of segment entries and under-runs -/

section
namespace Sys2Proof.Machine

open Sys2Proof

/-! #### The end of an entry (R226, R228) -/

/-- The main path of a gang stands past the end of its entry, at a crossing that nothing has begun. -/
structure State.EndReached (s : State) (n : SiteId) : Prop where
  at_ : s.atCross n = true
  past : s.pastEnd (s.lead n) (s.gang n).main.pc = true
  fresh : (s.gang n).cross = none

/-- The entry that a pod of a gang stands in. -/
def State.here (s : State) (n p : Nat) : SegX := s.seg p (s.gang n).main.pc.seg

/-- The entry that a pod of a gang continues at. -/
def State.beyond (s : State) (n p : Nat) : SegX := s.seg p (s.here n p).next

section
variable {s : State} {n : SiteId}

theorem State.EndReached.crossAt (h : s.EndReached n) : s.crossAt n = some ⟨(s.here n (s.lead n)).next, 0⟩ := if_pos h.past

/-- A pod without a continuation halts its gang. -/
theorem State.EndReached.segend (h : s.EndReached n) {p : Nat} (hp : (s.podsOf n).find? (fun p => !(s.here n p).nextV) = some p) :
    exec (.segmentCrossing n) s = .next (s.engineErr n .main erSegend (s.gang n).seqNext (s.gang n).main.pc p) := by
  change execSegmentCrossing n s = _
  unfold State.here at hp
  simp only [execSegmentCrossing, h.at_, h.crossAt, h.past, h.fresh, hp, Bool.true_eq_false, Bool.false_eq_true, and_false, if_false, if_true]

/-- A pod whose continuation is undefined or a WAVE halts its gang. -/
theorem State.EndReached.xkind (h : s.EndReached n) (hnext : (s.podsOf n).find? (fun p => !(s.here n p).nextV) = none) {p : Nat}
    (hp : (s.podsOf n).find? (fun p => (s.beyond n p).st == sgUndef || (s.beyond n p).kind == kdWave) = some p) :
    exec (.segmentCrossing n) s = .next (s.engineErr n .main erXkind (s.gang n).seqNext (s.gang n).main.pc p) := by
  change execSegmentCrossing n s = _
  unfold State.beyond at hp
  unfold State.here at hp hnext
  simp only [execSegmentCrossing, h.at_, h.crossAt, h.past, h.fresh, hp, hnext, Bool.true_eq_false,
    Bool.false_eq_true, and_false, if_false, if_true]

/-- Every pod of a gang has a continuation that can be entered, and all have the same. -/
structure State.Continues (s : State) (n : SiteId) : Prop where
  next : (s.podsOf n).find? (fun p => !(s.here n p).nextV) = none
  enters : (s.podsOf n).find? (fun p => (s.beyond n p).st == sgUndef || (s.beyond n p).kind == kdWave) = none
  same : (s.podsOf n).find? (fun p => (s.here n p).next != (s.here n (s.lead n)).next) = none

/-- The loads of an entry go before every other load of the gang's pods. -/
def State.urge (s : State) (n k : Nat) : State := (s.podsOf n).foldl (fun s p => s.urgent p k) s

/-- The wait of a gang for an entry that it continues at. -/
def State.awaits (s : State) (n k : Nat) : Cross :=
  ⟨k, if (s.gang n).clearBefore (s.gang n).seqNext wordEnd then some s.now else none, (s.seg (s.lead n) k).kind == kdStream, none⟩

/-- An entry's load that becomes urgent changes its class alone. -/
theorem State.urgent_seg (s : State) (p k q j : Nat) : ∃ cls, (s.urgent p k).seg q j = { s.seg q j with cls := cls } := by
  unfold State.urgent
  extract_lets x
  split
  · by_cases h : q = p ∧ j = k
    · obtain ⟨rfl, rfl⟩ := h
      exact ⟨1, State.seg_setSeg ..⟩
    · rw [State.seg_setSeg_ne _ _ _ _ _ _ (by tauto)]
      exact ⟨_, rfl⟩
  · exact ⟨_, rfl⟩

theorem State.urgent_kind (s : State) (p k q j : Nat) : ((s.urgent p k).seg q j).kind = (s.seg q j).kind := by
  obtain ⟨cls, h⟩ := s.urgent_seg p k q j
  rw [h]

theorem State.urge_does (s : State) (n k : Nat) : Does 0x10 0 s (s.urge n k) := Does.each (fun s p => s.urgent_does p k) _ s

theorem State.urge_kind (s : State) (n k q j : Nat) : ((s.urge n k).seg q j).kind = (s.seg q j).kind :=
  fold_keeps _ (fun s => (s.seg q j).kind) (fun s p => s.urgent_kind p k q j) _ s

/-- A gang whose pods can all fetch there goes on at the start of the next entry. -/
theorem State.EndReached.goesOn (h : s.EndReached n) (hc : s.Continues n)
    (hready : s.allReady n ⟨(s.here n (s.lead n)).next, 0⟩ = true) :
    exec (.segmentCrossing n) s = .next (s.crossTo n ⟨(s.here n (s.lead n)).next, 0⟩) := by
  obtain ⟨hnext, henters, hsame⟩ := hc
  change execSegmentCrossing n s = _
  unfold State.beyond at henters
  unfold State.here at hnext henters hsame hready
  simp only [execSegmentCrossing, h.at_, h.crossAt, h.past, h.fresh, hnext, henters, hsame, State.here, hready, Bool.true_eq_false,
    Bool.false_eq_true, and_false, if_false, if_true]

/-- A gang of which a pod cannot fetch there waits for the next entry. -/
theorem State.EndReached.waits (h : s.EndReached n) (hc : s.Continues n)
    (hready : s.allReady n ⟨(s.here n (s.lead n)).next, 0⟩ = false) : ∃ t, exec (.segmentCrossing n) s = .next t ∧
      t.gang n = { s.gang n with cross := some (s.awaits n (s.here n (s.lead n)).next) } := by
  obtain ⟨hnext, henters, hsame⟩ := hc
  have hurge (k : Nat) : (s.podsOf n).foldl (fun s p => s.urgent p k) s = s.urge n k := rfl
  unfold State.beyond at henters
  unfold State.here at hnext henters hsame hready
  change ∃ t, execSegmentCrossing n s = _ ∧ _
  simp only [execSegmentCrossing, h.at_, h.crossAt, h.past, h.fresh, hnext, henters, hsame, State.here, hready, Bool.true_eq_false,
    Bool.false_eq_true, and_false, if_false, if_true, hurge]
  refine ⟨_, rfl, ?_⟩
  rw [State.gang_setGang, (s.urge_does ..).gang (by decide), (s.urge_does ..).now (by decide), s.urge_kind]
  rfl

/-- What a gang that goes on at another address has. -/
theorem State.crossTo_gang {s : State} {n : Nat} {a : PAddr} (h : (s.gang n).main.pc ≠ a) : (s.crossTo n a).gang n =
    { s.gang n with
      main := { (s.gang n).main with pc := a }
      cross := none
      retire := (s.gang n).retire ++ (s.podsOf n).map (fun p => (64 * p + (s.gang n).main.pc.seg, (s.gang n).seqNext)) } := by
  simp only [State.crossTo, State.gang_setGang, if_pos h]

end

/-! #### The under-run (R233 to R235, R240) -/

/-- The under-run of a gang shows in its pods. -/
def State.showUnderrun (s : State) (n : Nat) : State :=
  (s.podsOf n).foldl (fun s p => ((s.wr F.ENG_PM_STAT_UR 1 p).bump F.ENG_PM_UR_UR 1 p).pulse 0x08 p) s

/-- What every under-run notes before its policy acts. -/
def State.noteUnderrun (s : State) (n : Nat) (c : Cross) : State :=
  if c.strm then
    let p := (s.podsOf n).foldl (fun (b : Nat) (p : Nat) =>
      if ((s.showUnderrun n).seg p c.seg).got < ((s.showUnderrun n).seg b c.seg).got then p else b) (s.lead n)
    (s.showUnderrun n).streamUr p (s.seg (s.lead n) c.seg).slot ((s.showUnderrun n).seg p c.seg).got (s.showUnderrun n).now
  else s.showUnderrun n

/-- An under-run whose policy has the gang wait on. -/
def State.waitOn (s : State) (n : Nat) (c : Cross) (policy : Nat) : State :=
  let t := s.wrAll F.ENG_PM_STAT_LASTPOL policy (s.podsOf n)
  t.setGang n { t.gang n with cross := some { c with ur := some (policy, t.now) } }


theorem State.showUnderrun_does (s : State) (n : Nat) :
    Does 0x8000000 (2 ^ Reg.ENG_PM_STAT.ctorIdx ||| 2 ^ Reg.ENG_PM_UR.ctorIdx) s (s.showUnderrun n) :=
  Does.each (fun s p => Does.step (State.pulse_does ..) (by decide) (by decide)
    (Does.bump _ _ _ _ (by decide) (Does.wr _ _ _ _ (by decide) (.refl _ _ s)))) _ s

theorem State.noteUnderrun_does (s : State) (n : Nat) (c : Cross) :
    Does 0x409800008 (2 ^ Reg.ENG_PM_STAT.ctorIdx ||| 2 ^ Reg.ENG_PM_UR.ctorIdx ||| 2 ^ Reg.STRM_STAT.ctorIdx ||| 2 ^ Reg.STRM_URCNT.ctorIdx)
      s (s.noteUnderrun n c) :=
  ((s.showUnderrun_does n).mono (by decide) (by decide)).trans
    (Does.ite (fun _ => (State.streamUr_does ..).mono (by decide) (by decide)) fun _ => .refl ..)

/-- Every pod of the gang shows the under-run. -/
theorem State.showUnderrun_shows (s : State) {n p : Nat} (hp : p ∈ s.podsOf n) : (s.showUnderrun n).rd F.ENG_PM_STAT_UR p = 1 := by
  refine fold_attains (v := 1) _ (fun s p => s.rd F.ENG_PM_STAT_UR p) (fun s p => ?_) (fun s p q hqp h => ?_) hp s
  · rw [State.rd_pulse, State.bump_rd_ne _ _ _ _ _ _ (.inl (by decide)), State.rd_wr]
    rfl
  · rw [State.rd_pulse, State.bump_rd_ne _ _ _ _ _ _ (.inl (by decide)), State.rd_wr_inst _ _ _ _ _ _ _ (.inl hqp), h]

theorem State.noteUnderrun_shows (s : State) {n p : Nat} (c : Cross) (hp : p ∈ s.podsOf n) :
    (s.noteUnderrun n c).rd F.ENG_PM_STAT_UR p = 1 := by
  unfold State.noteUnderrun
  split
  · rw [(State.streamUr_does ..).rd _ _ _ (by decide), s.showUnderrun_shows hp]
  · exact s.showUnderrun_shows hp

/-- An under-run at a segment leaves the gang. -/
theorem State.noteUnderrun_gang {s : State} {n : Nat} {c : Cross} (h : c.strm = false) : (s.noteUnderrun n c).gang n = s.gang n := by
  rw [State.noteUnderrun, if_neg (by rw [h]; decide), (s.showUnderrun_does n).gang (by decide)]

/-- With no set to be lacked and no pad word out of lockstep before an under-run, there is none after it (R235). -/
theorem State.noteUnderrun_padErr (s : State) (n : Nat) (c : Cross) : (s.noteUnderrun n c).padErr n = s.padErr n := by
  have hd := s.noteUnderrun_does n c
  have hwords : (s.noteUnderrun n c).padWords n = s.padWords n := by
    unfold State.padWords
    rw [hd.podsOf (by decide)]
    exact List.map_congr_left fun p _ => by rw [hd.rd _ _ _ (by decide)]
  have hvec (k : Nat) : (s.noteUnderrun n c).vecErr n k = s.vecErr n k := by
    unfold State.vecErr State.tset
    simp only [hd.podX (by decide), hd.podsOf (by decide), State.lead]
  simp only [State.padErr, hwords, hvec]

/-- What a gang that waits on after an under-run has, and its pods show. -/
theorem State.waitOn_shows (s : State) (n : Nat) (c : Cross) {policy : Nat} (h : policy < 8) :
    ((s.waitOn n c policy).gang n).cross = some { c with ur := some (policy, s.now) } ∧
    (∀ p ∈ s.podsOf n, (s.waitOn n c policy).rd F.ENG_PM_STAT_LASTPOL p = policy ∧
      (s.waitOn n c policy).rd F.ENG_PM_STAT_UR p = s.rd F.ENG_PM_STAT_UR p) := by
  unfold State.waitOn
  extract_lets t
  have hnow : t.now = s.now := fold_keeps (fun (s : State) p => s.wr F.ENG_PM_STAT_LASTPOL policy p) State.now (fun _ _ => rfl) _ s
  refine ⟨by rw [State.gang_setGang, hnow], fun p hp => ⟨?_, ?_⟩⟩
  · rw [State.rd_setGang, State.rd_wrAll, if_pos hp]
    exact Nat.mod_eq_of_lt h
  · rw [State.rd_setGang, State.rd_wrAll_ne _ _ _ _ _ (.inr (by decide))]

/-- A gang that waits on after an under-run has it noted from now, and its pods show it with the policy. -/
theorem State.noteUnderrun_waitOn (s : State) (n : Nat) (c : Cross) {policy : Nat} (h : policy < 8) :
    (((s.noteUnderrun n c).waitOn n c policy).gang n).cross = some { c with ur := some (policy, s.now) } ∧
    ∀ p ∈ s.podsOf n, ((s.noteUnderrun n c).waitOn n c policy).rd F.ENG_PM_STAT_UR p = 1 ∧
      ((s.noteUnderrun n c).waitOn n c policy).rd F.ENG_PM_STAT_LASTPOL p = policy := by
  have hd := s.noteUnderrun_does n c
  obtain ⟨hcross, hshown⟩ := (s.noteUnderrun n c).waitOn_shows n c h
  rw [hd.now (by decide)] at hcross
  rw [hd.podsOf (by decide)] at hshown
  refine ⟨hcross, fun p hp => ?_⟩
  obtain ⟨hpolicy, hur⟩ := hshown p hp
  exact ⟨hur.trans (s.noteUnderrun_shows c hp), hpolicy⟩

section
variable {s : State} {n : Nat} {c : Cross}

theorem State.underrun_fail (h : (s.seg (s.lead n) c.seg).policy = 0) : s.underrun n c = (s.noteUnderrun n c).underrunHalt n 1 :=
  if_pos h

theorem State.underrun_pad (h : (s.seg (s.lead n) c.seg).policy = 1) (hp : s.padErr n = none) :
    s.underrun n c = (s.noteUnderrun n c).waitOn n c 2 := by
  rw [← s.noteUnderrun_padErr n c] at hp
  unfold State.underrun
  extract_lets ps lead e shown p noted
  have he : e.policy = 1 := h
  have hnoted : noted = s.noteUnderrun n c := rfl
  rw [if_neg (he.trans_ne (by decide)), if_pos he, hnoted, State.waitOn, (s.noteUnderrun_does n c).podsOf (by decide)]
  simp only [hp]
  rfl

theorem State.underrun_stall (h : 1 < (s.seg (s.lead n) c.seg).policy) : s.underrun n c = (s.noteUnderrun n c).waitOn n c 3 := by
  rw [State.waitOn, (s.noteUnderrun_does n c).podsOf (by decide)]
  refine (if_neg (by omega)).trans ((if_neg (by omega)).trans ?_)
  rfl

end

/-! #### The halt with UNDERRUN (R234, R235) -/

theorem State.countGap_held (s : State) (n k : Nat) (blocked : Bool) (seq : Nat) :
    ((s.countGap n k blocked seq).gang n).held = (s.gang n).held := by
  unfold State.countGap
  extract_lets s1
  have hs1 : s1.gang n = s.gang n := State.gang_of_gangs (State.wr_fold_gangs _ (fun u p => by dsimp only; split <;> rfl) _ _) n
  split
  · obtain ⟨l, hl⟩ := s1.siteFail_gang n seq (s1.gang n).vpos
    rw [hl, hs1]
  · rw [hs1]

theorem State.closeCross_held (s : State) (n : Nat) : ((s.closeCross n).gang n).held = (s.gang n).held := by
  unfold State.closeCross
  extract_lets g
  split
  · rw [apply_ite (fun u : State => (u.gang n).held), State.countGap_held, ite_self]
  · rfl

theorem State.underrunHalt_erred {s : State} {n : Nat} (h : (s.gang n).held = none) (policy : Nat) :
    (s.underrunHalt n policy).erred n erUnderrun := by
  refine State.engineErr_erred ?_ erUnderrun _ _ _ [] (by decide)
  rw [State.gang_wrAll, State.gang_setGang]
  exact (s.closeCross_held n).trans h

/-! #### The end of a wait (R234) -/

theorem exec_underrunDeadline_due {s : State} {n : SiteId} {c : Cross} (hc : (s.gang n).cross = some c) (hs : c.strm = false)
    (hd : s.urDue n c = true) : exec (.underrunDeadline n) s = .next (s.underrun n c) := by
  change execUnderrunDeadline n s = _
  simp only [execUnderrunDeadline, hc, hs, hd, and_self, if_true]

theorem exec_underrunEnd_ready {s : State} {n : SiteId} {c : Cross} {a : PAddr} (hc : (s.gang n).cross = some c)
    (hur : c.ur.isSome = true) (ha : s.crossAt n = some a) (hr : s.allReady n a = true) :
    exec (.underrunEnd n) s = .next ((s.crossTo n a).settle n) := by
  change execUnderrunEnd n s = _
  simp only [execUnderrunEnd, hc, hur, ha, hr, Bool.and_self, if_true]

theorem exec_stallTimeout_reached {s : State} {n : SiteId} {c : Cross} {k : Nat} {t0 : Stamp} (hc : (s.gang n).cross = some c)
    (hur : c.ur = some (k, t0)) (hr : reached (after t0 ((s.rd F.ENG_PM_CTL_STALL_TMO (s.lead n) + 1) * 1024)) s.now = true) :
    exec (.stallTimeout n) s = .next (s.underrunHalt n 4) := by
  change execStallTimeout n s = _
  simp only [execStallTimeout, hc, hur, hr, if_true]

/-- What follows every resolution opens no wait at a crossing in a gang without errors. -/
theorem State.settle_cross {s : State} {n : Nat} (hh : (s.gang n).held = none) (hc : (s.gang n).cross = none) :
    ((s.settle n).gang n).cross = none := by
  obtain ⟨g, sp, hfixed, hg, -⟩ := State.settled_gang hh
  rw [State.settle, hg]
  exact Option.isNone_iff_eq_none.1 (by rw [← Option.not_isSome, hfixed.cross, hc]; rfl)

/-- Where a test holds of a pod of a list, a pod is found. -/
theorem exists_find_of_mem {l : List Nat} {f : Nat → Bool} {p : Nat} (hp : p ∈ l) (h : f p = true) : ∃ q, l.find? f = some q :=
  Option.isSome_iff_exists.1 (List.find?_isSome.2 ⟨p, hp, h⟩)

/-- Settles O25: the crossing by what each pod's entry calls for, the under-run by its policy, the end of the wait by its cause. -/
theorem crossingsAndUnderruns : Obligations.CrossingsAndUnderruns := by
  unfold Obligations.CrossingsAndUnderruns
  intro s n hh
  refine ⟨fun x nx hx hnx hat hpast hfresh hpods => ?crossing,
    fun c hc hs hd => ⟨fun hp => ⟨_, exec_underrunDeadline_due hc hs hd, ?fail⟩,
      fun hp hpad => ⟨_, exec_underrunDeadline_due hc hs hd, ?pad⟩, fun hp => ⟨_, exec_underrunDeadline_due hc hs hd, ?stall⟩⟩,
    fun c a hc hur ha hr => ⟨_, exec_underrunEnd_ready hc hur ha hr, ?back⟩,
    fun c k t0 hc hur hr => ⟨_, exec_stallTimeout_reached hc hur hr, State.underrunHalt_erred hh 4⟩⟩
  case crossing =>
    have h : s.EndReached n := ⟨hat, hpast, hfresh⟩
    obtain rfl : nx = fun p : PodId => s.here n p := funext hnx
    obtain rfl : x = s.here n (s.lead n) := hx
    have hall {f : Nat → Bool} (hf : ∀ p : PodId, p.val ∈ s.podsOf n → f p = false) : (s.podsOf n).find? f = none :=
      List.find?_eq_none.2 fun p hp => by simpa using hf ⟨p, hpods p hp⟩ hp
    refine ⟨fun ⟨p, hp, hno⟩ => ?_, fun hnext ⟨p, hp, hkind⟩ => ?_, fun hon => ?_⟩
    · obtain ⟨q, hq⟩ := exists_find_of_mem (f := fun p => !(s.here n p).nextV) hp (by simp [hno])
      exact ⟨_, h.segend hq, State.engineErr_erred hh _ _ _ _ [] (by decide)⟩
    · obtain ⟨q, hq⟩ := exists_find_of_mem (f := fun p => (s.beyond n p).st == sgUndef || (s.beyond n p).kind == kdWave) hp
        (by simpa [State.beyond] using hkind)
      exact ⟨_, h.xkind (hall fun p hp => by simp [hnext p hp]) hq, State.engineErr_erred hh _ _ _ _ [] (by decide)⟩
    · have hc : s.Continues n := by
        refine ⟨hall fun p hp => ?_, hall fun p hp => ?_, hall fun p hp => ?_⟩
        all_goals obtain ⟨hnext, hsame, hdef, hkind⟩ := hon p hp
        · simp [hnext]
        · simp [State.beyond, hdef, hkind]
        · simp [hsame]
      refine ⟨fun hr hpc => ⟨_, h.goesOn hc hr, ?_⟩, fun hr => ?_⟩
      · rw [State.crossTo_gang hpc]
        exact ⟨rfl, rfl, fun p hp => List.mem_append_right _ (List.mem_map.2 ⟨p, hp, rfl⟩)⟩
      · obtain ⟨t, hexec, hgang⟩ := h.waits hc hr
        exact ⟨t, hexec, by rw [hgang], by rw [hgang]; rfl⟩
  case fail =>
    rw [State.underrun_fail hp]
    exact State.underrunHalt_erred (by rw [State.noteUnderrun_gang hs, hh]) 1
  case pad =>
    rw [State.underrun_pad hp hpad]
    exact s.noteUnderrun_waitOn n c (by decide)
  case stall =>
    rw [State.underrun_stall hp]
    exact s.noteUnderrun_waitOn n c (by decide)
  case back =>
    have hgang : ((s.crossTo n a).gang n).main.pc = a ∧ ((s.crossTo n a).gang n).cross = none ∧ ((s.crossTo n a).gang n).held = none := by
      rw [State.crossTo, State.gang_setGang]
      exact ⟨rfl, rfl, hh⟩
    obtain ⟨hpc, hcross, hheld⟩ := hgang
    exact ⟨(congrArg Thread.pc (State.settle_main hheld)).trans hpc, State.settle_cross hheld hcross⟩

end Sys2Proof.Machine
end

/-! ### Scope: streams -/

section
namespace Sys2Proof.Machine

open Sys2Proof

/-! #### A granule goes into staging (R237) -/

/-- A granule that has arrived is written into its place of the staging ring. -/
def State.stageGranule (s : State) (t : Nat) (b : List Nat) : State :=
  { s with poolMem := s.poolMem.writeBytes (512 * s.stageAt t (s.strm t).fed) (b.take 512) }

/-- A slot has fed one granule more, and nothing blocks it. -/
def State.fedOne (s : State) (t q : Nat) (d : Desc) : State :=
  ((((s.setStrm t { s.strm t with fed := (s.strm t).fed + 1 }).wr F.STRM_FED_FED (s.rd F.STRM_FED_FED t + 1) t).putDesc q
    { d with moved := d.moved + 1, data := [] }).wr F.STRM_STAT_BLOCK 0 t)

theorem State.stageGranule_bytes (s : State) (t : Nat) {b : List Nat} (h : 512 ≤ b.length) :
    (∀ i, i < 512 → (s.stageGranule t b).poolMem.byte (512 * s.stageAt t (s.strm t).fed + i) = BitVec.ofNat 8 (b.getD i 0)) ∧
    ∀ a, a < 512 * s.stageAt t (s.strm t).fed ∨ 512 * s.stageAt t (s.strm t).fed + 512 ≤ a →
      (s.stageGranule t b).poolMem.byte a = s.poolMem.byte a := by
  have hlen : (b.take 512).length = 512 := by rw [List.length_take, min_eq_left h]
  refine ⟨fun i hi => ?_, fun a ha => Memory.byte_writeBytes_out _ _ _ _ (by rwa [hlen])⟩
  refine (Memory.byte_writeBytes_in _ _ _ _ (by rwa [hlen])).trans (congrArg _ ?_)
  rw [List.getD_eq_getElem?_getD, List.getElem?_take_of_lt hi, ← List.getD_eq_getElem?_getD]

theorem State.fedOne_shows (s : State) (t q : Nat) (d : Desc) : ((s.fedOne t q d).strm t).fed = (s.strm t).fed + 1 ∧
    (s.fedOne t q d).rd F.STRM_FED_FED t = (s.rd F.STRM_FED_FED t + 1) % 2 ^ 32 ∧ (s.fedOne t q d).rd F.STRM_STAT_BLOCK t = 0 := by
  unfold State.fedOne
  refine ⟨?_, ?_, State.rd_wr ..⟩
  · rw [State.strm_wr, State.strm_putDesc, State.strm_wr, State.strm_setStrm]
  · rw [State.rd_wr_ne _ _ _ _ _ _ (.inl (by decide)), State.rd_putDesc, State.rd_wr]
    rfl

theorem exec_streamGranuleFetch_whole {s : State} {t : StrmId} {q : Nat} {d : Desc} (walk : Walk) (hsafe : s.safe = false)
    (hnext : s.nextFeed t = some (q, d)) (hlen : 512 ≤ d.data.length) :
    exec (.streamGranuleFetch t walk) s = .next ((s.stageGranule t d.data).fedOne t q d) := by
  change execStreamGranuleFetch t walk s = _
  simp only [execStreamGranuleFetch, hsafe, hnext, Bool.false_eq_true, if_false, if_neg (Nat.not_lt.2 hlen)]
  rfl

/-! #### A granule is delivered (R237, R238, R245) -/

/-- The next granule of a slot is copied from staging into a pod's window. -/
def State.fillWindow (s : State) (t p k : Nat) : State :=
  { s with
    segMem := s.segMem.writeBytes (granuleAddr p (s.seg p k) ((s.seg p k).got % max 1 (s.seg p k).len))
      (s.poolMem.read (512 * s.stageAt t (s.seg p k).got) 512) }

theorem State.fillWindow_bytes (s : State) (t p k : Nat) {w : Nat}
    (hw : w = granuleAddr p (s.seg p k) ((s.seg p k).got % max 1 (s.seg p k).len)) :
    (∀ i, i < 512 → (s.fillWindow t p k).segMem.byte (w + i) = s.poolMem.byte (512 * s.stageAt t (s.seg p k).got + i)) ∧
    ∀ a, a < w ∨ w + 512 ≤ a → (s.fillWindow t p k).segMem.byte a = s.segMem.byte a := by
  have hmem : (s.fillWindow t p k).segMem = s.segMem.writeBytes w (s.poolMem.read (512 * s.stageAt t (s.seg p k).got) 512) := by
    rw [hw, State.fillWindow]
  rw [hmem]
  exact ⟨fun i hi => Memory.byte_copy _ _ _ _ _ _ hi, fun a ha => Memory.byte_writeBytes_out _ _ _ _ (by rwa [Memory.read_length])⟩

theorem exec_streamGranuleDeliver_free {s : State} {t : StrmId} {p : PodId} {k : Nat}
    (hbound : (s.bound t).find? (fun e => e.1 == p.val) = some (p.val, k)) (hsafe : s.safe = false) (hfree : s.streamFree p k = true)
    (hclass : 2 ≤ s.bestClass p) : ∃ st, exec (.streamGranuleDeliver t p) s = .next (((s.fillWindow t p k).setSeg p k
      { s.seg p k with got := (s.seg p k).got + 1, st := st, cls := 0 }).pulse 0x09 p) := by
  change ∃ st, execStreamGranuleDeliver t p s = _
  simp only [execStreamGranuleDeliver, hbound, hsafe, hfree, Bool.false_eq_true, Bool.true_eq_false, false_or, if_neg (Nat.not_lt.2 hclass)]
  exact ⟨_, rfl⟩

/-! #### Under-runs at a stream (R240) -/

theorem exec_streamUnderrun_due {s : State} {p : PodId} {n : Nat} {c : Cross} (hn : s.siteOfPod p = some n)
    (hc : (s.gang n).cross = some c) (hs : c.strm = true) (hd : s.urDue n c = true) :
    exec (.streamUnderrun p) s = .next (s.underrun n c) := by
  change execStreamUnderrun p s = _
  simp only [execStreamUnderrun, hn, hc, hs, hd, and_self, if_true]

theorem State.streamUr_underrun (s : State) (p t g : Nat) (at_ : Stamp) : (s.streamUr p t g at_).rd F.STRM_STAT_UNDERRUN t = 1 := by
  unfold State.streamUr
  rw [(State.raise_does ..).rd _ _ _ (by decide), State.bump_rd_ne _ _ _ _ _ _ (.inl (by decide)), State.rd_wr]
  rfl

theorem State.waitOn_underrun (s : State) (n : Nat) (c : Cross) (policy t : Nat) :
    (s.waitOn n c policy).rd F.STRM_STAT_UNDERRUN t = s.rd F.STRM_STAT_UNDERRUN t := by
  unfold State.waitOn
  rw [State.rd_setGang, State.rd_wrAll_ne _ _ _ _ _ (.inl (by decide))]

/-- An under-run at a stream shows in its slot. -/
theorem State.noteUnderrun_underrun (s : State) (n : Nat) {c : Cross} (h : c.strm = true) :
    (s.noteUnderrun n c).rd F.STRM_STAT_UNDERRUN (s.seg (s.lead n) c.seg).slot = 1 := by
  rw [State.noteUnderrun, if_pos h]
  exact State.streamUr_underrun ..

/-! #### STRM_CFG (R242) -/

/-- The fields of STRM_CFG beside EN, as written. -/
def State.writeStrmFields (s : State) (t v : Nat) : State :=
  ((s.wr F.STRM_CFG_QP (bits v 29 24) t).wr F.STRM_CFG_STAGE_M1 (bits v 23 16) t).wr F.STRM_CFG_STAGE_BASE (bits v 15 0) t

theorem State.writeStrmFields_shows (s : State) (t v : Nat) : (s.writeStrmFields t v).rd F.STRM_CFG_QP t = bits v 29 24 ∧
    (s.writeStrmFields t v).rd F.STRM_CFG_STAGE_BASE t = bits v 15 0 ∧
    (s.writeStrmFields t v).rd F.STRM_CFG_EN t = s.rd F.STRM_CFG_EN t := by
  unfold State.writeStrmFields
  refine ⟨?_, ?_, ?_⟩
  · rw [State.rd_wr_ne _ _ _ _ _ _ (.inr (by decide)), State.rd_wr_ne _ _ _ _ _ _ (.inr (by decide)), State.rd_wr]
    exact Nat.mod_mod ..
  · rw [State.rd_wr]
    exact Nat.mod_mod ..
  · rw [State.rd_wr_ne _ _ _ _ _ _ (.inr (by decide)), State.rd_wr_ne _ _ _ _ _ _ (.inr (by decide)),
      State.rd_wr_ne _ _ _ _ _ _ (.inr (by decide))]

theorem exec_strmCfgWrite (s : State) (t : StrmId) (v : BitVec 32) : exec (.strmCfgWrite t v) s = .next (s.writeStrmCfg t v.toNat) := rfl

section
variable {s : State} {t v : Nat}

theorem State.writeStrmCfg_busy (h : (s.bound t).any (fun e => s.podRuns e.1) = true) :
    s.writeStrmCfg t v = s.wr F.STRM_STAT_BUSY 1 t := if_pos h

theorem State.writeStrmCfg_off (h : (s.bound t).any (fun e => s.podRuns e.1) = false)
    (hold : s.on F.STRM_CFG_EN t = true) (hnew : hasBit v 31 = false) :
    s.writeStrmCfg t v = (s.streamOff t none).writeStrmFields t v := by
  unfold State.writeStrmCfg
  simp only [h, hold, hnew, Bool.false_eq_true, if_false, Bool.not_false, Bool.and_self, if_true]
  rfl

theorem State.writeStrmCfg_on (h : (s.bound t).any (fun e => s.podRuns e.1) = false)
    (hold : s.on F.STRM_CFG_EN t = false) (hnew : hasBit v 31 = true)
    (hfit : bits v 15 0 + (max 3 (bits v 23 16) + 1) ≤ 65536)
    (hfree : ∀ i, i < max 3 (bits v 23 16) + 1 → s.pinned (bits v 15 0 + i) (some t) = false) :
    s.writeStrmCfg t v = (((s.writeStrmFields t v).wr F.STRM_CFG_EN 1 t).wr F.STRM_FED_FED 0 t).setStrm t {} := by
  have hring : ¬(bits v 15 0 + (max 3 (bits v 23 16) + 1) > 65536 ∨
      (List.range (max 3 (bits v 23 16) + 1)).any (fun i => s.pinned (bits v 15 0 + i) (some t)) = true) := by
    rintro (h | h)
    · exact absurd hfit (Nat.not_le.2 h)
    · obtain ⟨i, hi, hpin⟩ := List.any_eq_true.1 h
      exact Bool.false_ne_true ((hfree i (List.mem_range.1 hi)).symm.trans hpin)
  unfold State.writeStrmCfg
  simp only [h, hold, hnew, Bool.false_eq_true, if_false, Bool.not_true, Bool.not_false, Bool.and_self, if_true, if_neg hring]
  rfl

end

/-- A slot that is turned off has fed nothing. -/
theorem State.streamOff_off (s : State) (t : Nat) (but : Option Nat) :
    (s.streamOff t but).rd F.STRM_CFG_EN t = 0 ∧ ((s.streamOff t but).strm t).fed = 0 := by
  unfold State.streamOff
  refine ⟨State.rd_wr .., ?_⟩
  rw [State.strm_wr, State.strm_setStrm]

/-- Settles O28: each granule by its bytes, the under-run and the feed's stop by what they show, STRM_CFG by the three writes of EN. -/
theorem streamsFeedAndDeliver : Obligations.StreamsFeedAndDeliver := by
  unfold Obligations.StreamsFeedAndDeliver
  intro s t
  refine ⟨fun q d walk hsafe hnext hlen => ⟨_, exec_streamGranuleFetch_whole walk hsafe hnext hlen, ?fed⟩,
    fun p k hbound hsafe hfree hclass => ?delivered,
    fun p n c hn hc hs hd hp => ⟨_, exec_streamUnderrun_due hn hc hs hd, ?underrun⟩,
    fun cause hsafe hen hstops hlt => ⟨_, rfl, ?stopped⟩,
    fun v => ⟨fun hrun => ⟨_, exec_strmCfgWrite s t v, ?busy⟩,
      fun hrun => ⟨fun hold hnew hfit hfree => ⟨_, exec_strmCfgWrite s t v, ?on⟩,
      fun hold hnew => ⟨_, exec_strmCfgWrite s t v, ?off⟩⟩⟩⟩
  case fed =>
    obtain ⟨hfed, hreg, hblock⟩ := (s.stageGranule t d.data).fedOne_shows t q d
    obtain ⟨hin, hout⟩ := s.stageGranule_bytes t hlen
    exact ⟨hfed, hreg, hblock, hin, hout⟩
  case delivered =>
    obtain ⟨st, hexec⟩ := exec_streamGranuleDeliver_free hbound hsafe hfree hclass
    obtain ⟨hin, hout⟩ := s.fillWindow_bytes t p k rfl
    refine ⟨_, hexec, by rw [State.pulse_seg, State.seg_setSeg], ?_⟩
    rw [State.pulse_segMem, State.setSeg_segMem]
    exact ⟨hin, hout⟩
  case underrun =>
    rw [State.underrun_stall hp, State.waitOn_underrun]
    exact ⟨s.noteUnderrun_underrun n hs, (s.noteUnderrun_waitOn n c (by decide)).1⟩
  case stopped =>
    rw [if_pos (by rw [hen, hsafe, hstops]; rfl), State.rd_wr]
    exact Nat.mod_eq_of_lt hlt
  case busy =>
    rw [State.writeStrmCfg_busy hrun]
    exact ⟨State.rd_wr .., State.rd_wr_ne _ _ _ _ _ _ (.inl (by decide))⟩
  case on =>
    rw [State.writeStrmCfg_on hrun hold hnew hfit hfree]
    obtain ⟨hqp, hbase, -⟩ := s.writeStrmFields_shows t v.toNat
    simp only [State.rd_setStrm, State.strm_setStrm]
    refine ⟨?_, ?_, ?_, State.rd_wr .., trivial⟩
    all_goals rw [State.rd_wr_ne _ _ _ _ _ _ (.inl (by decide))]
    · exact State.rd_wr ..
    · rw [State.rd_wr_ne _ _ _ _ _ _ (.inr (by decide)), hqp]
    · rw [State.rd_wr_ne _ _ _ _ _ _ (.inr (by decide)), hbase]
  case off =>
    rw [State.writeStrmCfg_off hrun hold hnew]
    obtain ⟨hen, hfed⟩ := s.streamOff_off t none
    obtain ⟨-, -, hkeep⟩ := (s.streamOff t none).writeStrmFields_shows t v.toNat
    exact ⟨hkeep.trans hen, hfed⟩

end Sys2Proof.Machine
end

/-! ### Scope: waveform outputs -/

section
namespace Sys2Proof.Machine

open Sys2Proof

/-! #### Events and states of an output (R333, R335) -/

/-- An event of an output changes no more of its registers than LASTEV. -/
theorem State.waveEvent_rd (s : State) (w cause : Nat) (at_ : Stamp) {f : Fld} (i j : Nat)
    (h : F.AWG_STAT_LASTEV.reg ≠ f.reg ∨ F.AWG_STAT_LASTEV.lo ≠ f.lo) : (s.waveEvent w cause at_).rd f i j = s.rd f i j := by
  unfold State.waveEvent
  rw [(State.raise_does ..).rd _ _ _ (Nat.zero_testBit _)]
  exact State.rd_wr_ne _ _ _ _ _ _ h

theorem State.waveEvent_lastev (s : State) (w : Nat) {cause : Nat} (at_ : Stamp) (h : cause < 8) :
    (s.waveEvent w cause at_).rd F.AWG_STAT_LASTEV w = cause := by
  unfold State.waveEvent
  rw [(State.raise_does ..).rd _ _ _ (by decide), State.rd_wr]
  exact Nat.mod_eq_of_lt h

theorem Does.waveX {P R : Nat} {s t : State} (h : Does P R s t) (hf : P.testBit 11 = false) (w : Nat) : t.wave w = s.wave w := by
  simp only [State.wave, h.waves hf]

theorem State.setWaveSt_open {s : State} {w : Nat} (h : s.waveSt w ≠ wvMuting) (st : Nat) :
    s.setWaveSt w st = s.wr F.AWG_STAT_STATE st w := if_neg h

/-! #### IDLE (R333, R334) -/

/-- An output that is not muting goes to IDLE with its idle code, and nothing is armed. -/
theorem State.waveIdle_idles {s : State} {w : Nat} (h : s.waveSt w ≠ wvMuting) : (s.waveIdle w).waveSt w = wvIdle ∧
    ((s.waveIdle w).wave w).code = s.rd F.AWG_IDLE_IDLE w ∧ (s.waveIdle w).rd F.AWG_ARMBY_ARMV w = 0 := by
  unfold State.waveIdle
  extract_lets x played s1 s2
  have hs2 : s2 = (s1.wr F.AWG_STAT_STATE wvIdle w).wr F.AWG_ARMBY_ARMV 0 w := by
    unfold s2
    rw [State.setWaveSt_open (s := s1) h]
  have hshown : s2.waveSt w = wvIdle ∧ (s2.wave w).code = s.rd F.AWG_IDLE_IDLE w ∧ s2.rd F.AWG_ARMBY_ARMV w = 0 := by
    rw [hs2, State.waveSt, State.rd_wr_ne _ _ _ _ _ _ (.inl (by decide)), State.wave_wr, State.wave_wr, State.wave_setWave]
    exact ⟨State.rd_wr .., rfl, State.rd_wr ..⟩
  split
  · have hd := s2.rewindPod_does (s2.rd F.AWG_CFG_HOST w)
    rw [State.waveSt, hd.rd _ _ _ (by decide), hd.waveX (by decide), hd.rd _ _ _ (by decide)]
    exact hshown
  · exact hshown

/-- Going to IDLE changes no more of an output's registers than the state and the ARM. -/
theorem State.waveIdle_rd (s : State) (w : Nat) {f : Fld} (i j : Nat)
    (h : F.AWG_STAT_STATE.reg ≠ f.reg ∨ F.AWG_STAT_STATE.lo ≠ f.lo) (ha : F.AWG_ARMBY_ARMV.reg ≠ f.reg) :
    (s.waveIdle w).rd f i j = s.rd f i j := by
  unfold State.waveIdle
  extract_lets x played s1 s2
  have hs2 : s2.rd f i j = s.rd f i j := by
    unfold s2 State.setWaveSt
    rw [State.rd_wr_ne _ _ _ _ _ _ (.inl ha)]
    split
    · rfl
    · exact State.rd_wr_ne _ _ _ _ _ _ h
  split
  · exact ((s2.rewindPod_does _).rd _ _ _ (Nat.zero_testBit _)).trans hs2
  · exact hs2

/-! #### Samples and slots (R331, R332) -/

/-- A marker of a sample is raised. -/
def State.sampleMark (s : State) (w v b code cause : Nat) (en : Fld) : State :=
  if hasBit v b then
    let s := s.pmuTrigger (s.pmus.flatMap (·.pins)) code w s.now
    if s.on en w then s.waveEvent w cause s.now else s
  else s

/-- A sample's code on its output, before its markers. -/
def State.showSample (s : State) (w v : Nat) : State :=
  let x := s.wave w
  let s := (s.bump F.AWG_SAMPLES_SAMPLES 1 w).pulse 0x1A w
  s.setWave w { x with next := after s.now (s.slotTicks w), slotAt := s.now, code := v % 16384 }

theorem State.playSample_eq (s : State) (w v : Nat) : s.playSample w v =
    ((s.showSample w v).sampleMark w v 14 5 evMarkA F.AWG_CTL_MEVA).sampleMark w v 15 6 evMarkB F.AWG_CTL_MEVB := rfl

theorem State.sampleMark_wave (s : State) (w v b code cause : Nat) (en : Fld) (n : Nat) :
    (s.sampleMark w v b code cause en).wave n = s.wave n := by
  unfold State.sampleMark
  extract_lets u
  have hu : u.wave n = s.wave n := (State.pmuTrigger_does ..).waveX (by decide) n
  split
  · split
    · exact ((State.waveEvent_does ..).waveX (by decide) n).trans hu
    · exact hu
  · rfl

theorem State.sampleMark_rd (s : State) (w v b code cause : Nat) (en : Fld) {f : Fld} (i j : Nat)
    (h : F.AWG_STAT_LASTEV.reg ≠ f.reg ∨ F.AWG_STAT_LASTEV.lo ≠ f.lo) : (s.sampleMark w v b code cause en).rd f i j = s.rd f i j := by
  unfold State.sampleMark
  extract_lets u
  have hu : u.rd f i j = s.rd f i j := (State.pmuTrigger_does ..).rd _ _ _ (Nat.zero_testBit _)
  split
  · split
    · exact (u.waveEvent_rd w cause _ i j h).trans hu
    · exact hu
  · rfl

/-- A sample that plays shows its code from now to the end of its slot. -/
theorem State.playSample_wave (s : State) (w v : Nat) : (s.playSample w v).wave w =
    { s.wave w with next := after s.now (s.slotTicks w), slotAt := s.now, code := v % 16384 } := by
  rw [State.playSample_eq, State.sampleMark_wave, State.sampleMark_wave, State.showSample, State.wave_setWave]
  have hticks : ((s.bump F.AWG_SAMPLES_SAMPLES 1 w).pulse 0x1A w).slotTicks w = s.slotTicks w := by
    rw [State.slotTicks, State.rd_pulse, State.bump_rd_ne _ _ _ _ _ _ (.inl (by decide)), State.slotTicks]
  rw [hticks]
  rfl

/-- A sample that plays changes no more of an output's registers than the count of samples and LASTEV. -/
theorem State.playSample_rd (s : State) (w v : Nat) {f : Fld} (i j : Nat)
    (h : F.AWG_STAT_LASTEV.reg ≠ f.reg ∨ F.AWG_STAT_LASTEV.lo ≠ f.lo) (hn : F.AWG_SAMPLES_SAMPLES.reg ≠ f.reg) :
    (s.playSample w v).rd f i j = s.rd f i j := by
  rw [State.playSample_eq, State.sampleMark_rd _ _ _ _ _ _ _ _ _ h, State.sampleMark_rd _ _ _ _ _ _ _ _ _ h, State.showSample,
    State.rd_setWave, State.rd_pulse, State.bump_rd_ne _ _ _ _ _ _ (.inl hn)]

/-- A slot begins now, and changes neither the state nor the ARM of its output. -/
structure State.SlotBegun (s t : State) (w : Nat) : Prop where
  st : t.waveSt w = s.waveSt w
  arm : (t.wave w).arm = (s.wave w).arm
  slotAt : (t.wave w).slotAt = s.now
  next : (t.wave w).next = after s.now (s.slotTicks w)

theorem State.playSample_begins (s : State) (w v : Nat) : s.SlotBegun (s.playSample w v) w := by
  have hwave := s.playSample_wave w v
  exact ⟨s.playSample_rd w v w 0 (.inr (by decide)) (by decide), by rw [hwave], by rw [hwave], by rw [hwave]⟩

theorem State.setWave_begins (s : State) (w : Nat) (x : WaveX) (harm : x.arm = (s.wave w).arm) (hslot : x.slotAt = s.now)
    (hnext : x.next = after s.now (s.slotTicks w)) : s.SlotBegun (s.setWave w x) w := by
  have hwave : (s.setWave w x).wave w = x := s.wave_setWave w x
  exact ⟨rfl, by rw [hwave, harm], by rw [hwave, hslot], by rw [hwave, hnext]⟩

/-- What a slot fetches changes entries and shows where it fetches from (R331). -/
def slotFetchRegs : Nat := 2 ^ Reg.AWG_POS.ctorIdx ||| 2 ^ Reg.ENG_PM_STAT.ctorIdx

/-- A sample that plays once it has been fetched begins the slot of the state before. -/
theorem State.playFetched_begins {s u : State} {w : Nat} (hd : Does 0x800000000000010 slotFetchRegs s u) {x : WaveX}
    (hx : x.arm = (s.wave w).arm) (v : Nat) : s.SlotBegun ((u.setWave w x).playSample w v) w := by
  have hticks : (u.setWave w x).slotTicks w = s.slotTicks w := congrArg (· + 1) (hd.rd _ _ _ (by decide))
  have hnow : (u.setWave w x).now = s.now := hd.now (by decide)
  have hwave : (u.setWave w x).wave w = x := State.wave_setWave ..
  obtain ⟨hst, harm, hslot, hnext⟩ := (u.setWave w x).playSample_begins w v
  rw [hwave, hx] at harm
  rw [hnow] at hslot hnext
  rw [hticks] at hnext
  exact ⟨hst.trans (hd.rd F.AWG_STAT_STATE _ _ (by decide)), harm, hslot, hnext⟩

theorem State.playSlot_begins (s : State) (w : Nat) : s.SlotBegun (s.playSlot w) w := by
  unfold State.playSlot
  extract_lets x pod
  split
  · exact s.setWave_begins w _ rfl rfl rfl
  · split
    · split
      · exact s.playSample_begins w _
      · exact s.setWave_begins w _ rfl rfl rfl
    · extract_lets s1 g s2 v s3
      have hretired : Does 0x800000000000010 slotFetchRegs s s1 :=
        Does.ite (fun _ => (State.retire_does ..).mono (by decide) (by decide)) fun _ => .refl ..
      have hshown : Does 0x800000000000010 slotFetchRegs s s3 :=
        Does.wr _ _ _ _ (by decide) (Does.wr _ _ _ _ (by decide) (Does.step (State.setSeg_does ..) (by decide) (by decide) hretired))
      clear_value v s3
      refine State.playFetched_begins hshown ?_ v
      rfl

/-- With PAD under way and its sample not there, an output plays PAD. -/
theorem State.playSlot_pads {s : State} {w : Nat} {a : PAddr} (hnext : s.waveNext (s.rd F.AWG_CFG_HOST w) (s.wave w).pc = some a)
    (hready : s.waveReady w = false) (hpad : (s.wave w).pad = true) :
    s.playSlot w = s.playSample w (s.rd F.ENG_PM_PAD_PAD (s.rd F.AWG_CFG_HOST w) % 65536) := by
  unfold State.playSlot
  simp only [hnext, hready, hpad, if_true]

/-- An output that is not muting and begins to play is in PLAY with a slot from now, and nothing is armed. -/
theorem State.waveBegin_plays {s : State} {w : Nat} (h : s.waveSt w ≠ wvMuting) (a : PAddr) :
    (s.waveBegin w a).waveSt w = wvPlay ∧ (s.waveBegin w a).rd F.AWG_ARMBY_ARMV w = 0 ∧ ((s.waveBegin w a).wave w).arm = none ∧
      ((s.waveBegin w a).wave w).slotAt = s.now ∧ ((s.waveBegin w a).wave w).next = after s.now (s.rd F.AWG_CFG_DIV w + 1) := by
  unfold State.waveBegin
  extract_lets x pod g a' s1 s2
  have hs2 : s2 = ((s1.wr F.AWG_STAT_STATE wvPlay w).wr F.AWG_ARMBY_ARMV 0 w).wr F.AWG_SAMPLES_SAMPLES 0 w := by
    unfold s2
    rw [State.setWaveSt_open (s := s1) h]
  obtain ⟨hst, harm, hslot, hnext⟩ := s2.playSlot_begins w
  have hs1 : (s1.wave w).arm = none := by
    unfold s1
    rw [State.wave_setWave]
  refine ⟨hst.trans ?_, ((s2.playSlot_does w).rd _ _ _ (by decide)).trans ?_, harm.trans ?_, hslot.trans ?_, hnext.trans ?_⟩
  · rw [hs2, State.waveSt, State.rd_wr_ne _ _ _ _ _ _ (.inl (by decide)), State.rd_wr_ne _ _ _ _ _ _ (.inl (by decide)), State.rd_wr]
    rfl
  · rw [hs2, State.rd_wr_ne _ _ _ _ _ _ (.inl (by decide)), State.rd_wr]
    exact Nat.zero_mod _
  · rw [hs2]
    exact hs1
  · rw [hs2]
    rfl
  · rw [hs2, State.slotTicks, State.rd_wr_ne _ _ _ _ _ _ (.inl (by decide)), State.rd_wr_ne _ _ _ _ _ _ (.inl (by decide)),
      State.rd_wr_ne _ _ _ _ _ _ (.inl (by decide))]
    rfl

theorem exec_armFire_due {s u : State} {w : WaveId} {n k : Nat} {a : PAddr} {t0 : Stamp} (hu : u = (s.awgDo w).raiseMarks)
    (harm : (u.wave w).arm = some (n, k, a)) (hfire : (u.wave w).fireT = some t0) (hr : reached t0 u.now = true) :
    exec (.armFire w) s = .next (u.waveBegin w a) := by
  subst hu
  change execArmFire w s = _
  simp only [execArmFire, harm, hfire, hr, if_true]

/-! #### What an output fetches (R243) -/

/-- Two states in which every unit of every entry is fetched alike: entries but for the class of their loads, hosts, word lengths. -/
structure State.SameFetch (s t : State) : Prop where
  seg : ∀ p k, ∃ cls, t.seg p k = { s.seg p k with cls := cls }
  hosted : ∀ w, t.rd F.AWG_CFG_HOSTV w = s.rd F.AWG_CFG_HOSTV w
  host : ∀ w, t.rd F.AWG_CFG_HOST w = s.rd F.AWG_CFG_HOST w
  compat : ∀ p, t.rd F.ENG_UCTL_COMPAT p = s.rd F.ENG_UCTL_COMPAT p

section
variable {s t : State}

theorem State.SameFetch.unitsPerGranule (h : s.SameFetch t) (p : Nat) (x : SegX) : t.unitsPerGranule p x = s.unitsPerGranule p x := by
  have hhost : t.hostOf p = s.hostOf p := by simp only [State.hostOf, State.on, h.hosted, h.host]
  rw [State.unitsPerGranule, State.unitsPerGranule, hhost, State.on, h.compat]
  rfl

theorem State.SameFetch.waveNext (h : s.SameFetch t) (p : Nat) (a : PAddr) : t.waveNext p a = s.waveNext p a := by
  obtain ⟨cls, hseg⟩ := h.seg p a.seg
  simp only [State.waveNext, State.segUnits, h.unitsPerGranule, hseg]
  rfl

theorem State.SameFetch.waveReady (h : s.SameFetch t) {w : Nat} (hpc : (t.wave w).pc = (s.wave w).pc) : t.waveReady w = s.waveReady w := by
  unfold State.waveReady
  simp only [h.host, hpc, h.waveNext]
  cases s.waveNext (s.rd F.AWG_CFG_HOST w) (s.wave w).pc with
  | none => rfl
  | some a =>
    obtain ⟨cls, hseg⟩ := h.seg (s.rd F.AWG_CFG_HOST w) a.seg
    simp only [State.unitReady, h.unitsPerGranule, hseg]
    rfl

end

/-! #### Under-runs of an output (R243) -/

/-- What every under-run of an output notes before its policy acts, at the address of the sample that is not there. -/
def State.noteWaveUr (s : State) (w : Nat) (a : PAddr) : State :=
  let x := s.wave w
  let pod := s.rd F.AWG_CFG_HOST w
  let g := s.seg pod a.seg
  let t := if x.wait then x.slotAt else s.now
  let s := s.urgent pod a.seg
  let s := (((s.wr F.AWG_STAT_UR 1 w).wr F.ENG_PM_STAT_UR 1 pod).bump F.ENG_PM_UR_UR 1 pod).pulse 0x08 pod
  let s := s.waveEvent w evUnderrun t
  if g.kind = kdStream then s.streamUr pod g.slot g.got t else s

/-- The registers that an under-run of an output writes. -/
def waveUrRegs : Nat :=
  2 ^ Reg.AWG_STAT.ctorIdx ||| 2 ^ Reg.ENG_PM_STAT.ctorIdx ||| 2 ^ Reg.ENG_PM_UR.ctorIdx ||| 2 ^ Reg.STRM_STAT.ctorIdx |||
    2 ^ Reg.STRM_URCNT.ctorIdx

theorem State.noteWaveUr_does (s : State) (w : Nat) (a : PAddr) : Does 0x409800018 waveUrRegs s (s.noteWaveUr w a) := by
  unfold State.noteWaveUr
  extract_lets x pod g t s1 s2 s3
  have h2 : Does 0x409800018 waveUrRegs s s2 :=
    Does.step (State.pulse_does ..) (by decide) (by decide) (Does.bump _ _ _ _ (by decide) (Does.wr _ _ _ _ (by decide)
      (Does.wr _ _ _ _ (by decide) ((s.urgent_does pod a.seg).mono (by decide) (by decide)))))
  have h3 : Does 0x409800018 waveUrRegs s s3 := Does.step (State.waveEvent_does ..) (by decide) (by decide) h2
  exact Does.ite (fun _ => Does.step (State.streamUr_does ..) (by decide) (by decide) h3) fun _ => h3

theorem State.noteWaveUr_seg (s : State) (w : Nat) (a : PAddr) (p k : Nat) :
    ∃ cls, (s.noteWaveUr w a).seg p k = { s.seg p k with cls := cls } := by
  unfold State.noteWaveUr
  extract_lets x pod g t s1 s2 s3
  have h2 : s2.seg p k = s1.seg p k := by
    unfold s2
    rw [State.pulse_seg, State.bump_seg, (State.wr_does ..).segX (by decide), (State.wr_does ..).segX (by decide)]
  have h3 : s3.seg p k = s1.seg p k := ((State.waveEvent_does ..).segX (by decide) p k).trans h2
  have hend : (if g.kind = kdStream then s3.streamUr pod g.slot g.got t else s3).seg p k = s1.seg p k := by
    split
    · exact ((State.streamUr_does ..).segX (by decide) p k).trans h3
    · exact h3
  rw [hend]
  exact s.urgent_seg pod a.seg p k

theorem State.noteWaveUr_sameFetch (s : State) (w : Nat) (a : PAddr) : s.SameFetch (s.noteWaveUr w a) := by
  have hd := s.noteWaveUr_does w a
  exact ⟨s.noteWaveUr_seg w a, fun _ => hd.rd _ _ _ (by decide), fun _ => hd.rd _ _ _ (by decide), fun _ => hd.rd _ _ _ (by decide)⟩

/-- An under-run shows at its output with its cause, and leaves the output's state. -/
theorem State.noteWaveUr_shows (s : State) (w : Nat) (a : PAddr) : (s.noteWaveUr w a).rd F.AWG_STAT_UR w = 1 ∧
    (s.noteWaveUr w a).rd F.AWG_STAT_LASTEV w = evUnderrun ∧ (s.noteWaveUr w a).waveSt w = s.waveSt w := by
  unfold State.noteWaveUr
  extract_lets x pod g t s1 s2 s3
  have hend {f : Fld} (hf : f.reg = .AWG_STAT) : (if g.kind = kdStream then s3.streamUr pod g.slot g.got t else s3).rd f w = s3.rd f w := by
    split
    · exact (State.streamUr_does ..).rd _ _ _ (by rw [hf]; decide)
    · rfl
  have h2 {f : Fld} (hf : f.reg = .AWG_STAT) : s2.rd f w = (s1.wr F.AWG_STAT_UR 1 w).rd f w := by
    unfold s2
    rw [State.rd_pulse, State.bump_rd_ne _ _ _ _ _ _ (.inl (by rw [hf]; decide)), State.rd_wr_ne _ _ _ _ _ _ (.inl (by rw [hf]; decide))]
  refine ⟨?_, ?_, ?_⟩
  · rw [hend rfl, State.waveEvent_rd _ _ _ _ _ _ (.inr (by decide)), h2 rfl]
    exact State.rd_wr ..
  · rw [hend rfl]
    exact s2.waveEvent_lastev w t (by decide)
  · rw [State.waveSt, hend rfl, State.waveEvent_rd _ _ _ _ _ _ (.inr (by decide)), h2 rfl, State.rd_wr_ne _ _ _ _ _ _ (.inr (by decide))]
    exact (s.urgent_does pod a.seg).rd _ _ _ (by decide)

/-- An output that plays has come to a slot, whose sample no command of the last sample's slot replaces. -/
structure State.SlotDue (s : State) (w : Nat) : Prop where
  plays : s.waveSt w = wvPlay
  due : (s.wave w).wait = true ∨ s.slotNow w = true
  noCmd : s.lastCmd w = false

section
variable {s : State} {w : WaveId}

theorem State.SlotDue.playing (h : s.SlotDue w) : s.wavePlays w = true := by
  rw [State.wavePlays, h.plays]
  rfl

theorem State.SlotDue.notMuting (h : s.SlotDue w) : s.waveSt w ≠ wvMuting := h.plays.trans_ne (by decide)

theorem State.SlotDue.now (h : s.SlotDue w) : ((s.wave w).wait || s.slotNow w) = true := Bool.or_eq_true_iff.2 h.due

/-- At the end of its last entry an output goes to IDLE with END (R335). -/
theorem State.SlotDue.ends (h : s.SlotDue w) (hend : s.waveNext (s.rd F.AWG_CFG_HOST w) (s.wave w).pc = none) :
    ∃ t, exec (.playEnd w) s = .next t ∧ t.waveSt w = wvIdle ∧ t.rd F.AWG_STAT_END w = 1 ∧ t.rd F.AWG_STAT_LASTEV w = evEnd := by
  change ∃ t, execPlayEnd w s = _ ∧ _
  simp only [execPlayEnd, h.playing, hend, h.now, h.noCmd, Option.isSome_none, Bool.true_eq_false, Bool.false_eq_true, decide_true,
    Bool.not_true, or_self, if_false]
  obtain ⟨hidle, -, -⟩ := State.waveIdle_idles h.notMuting
  refine ⟨_, rfl, ?_, ?_, State.waveEvent_lastev _ _ _ (by decide)⟩
  · rw [State.waveSt, State.waveEvent_rd _ _ _ _ _ _ (.inr (by decide)), State.rd_wr_ne _ _ _ _ _ _ (.inr (by decide))]
    exact hidle
  · rw [State.waveEvent_rd _ _ _ _ _ _ (.inr (by decide)), State.rd_wr]
    rfl

/-- An output whose sample is not there stops, with policy 0. -/
theorem State.SlotDue.stops (h : s.SlotDue w) {a : PAddr} (hnext : s.waveNext (s.rd F.AWG_CFG_HOST w) (s.wave w).pc = some a)
    (hpad : (s.wave w).pad = false) (hready : s.waveReady w = false) (hp : (s.seg (s.rd F.AWG_CFG_HOST w) a.seg).policy = 0) :
    ∃ t, exec (.waveUnderrun w) s = .next t ∧ t.rd F.AWG_STAT_UR w = 1 ∧ t.waveSt w = wvIdle ∧
      t.rd F.AWG_STAT_LASTEV w = evUnderrun := by
  have hexec : exec (.waveUnderrun w) s =
      .next (((s.noteWaveUr w a).wr F.ENG_PM_STAT_LASTPOL 1 (s.rd F.AWG_CFG_HOST w)).waveIdle w) := by
    change execWaveUnderrun w s = _
    simp only [execWaveUnderrun, h.playing, hnext, hpad, hready, h.now, h.noCmd, Bool.true_eq_false, Bool.false_eq_true, decide_true,
      Bool.not_true, or_self, if_false, hp, if_true]
    rfl
  obtain ⟨hur, hlast, hst⟩ := s.noteWaveUr_shows w a
  have hopen : ((s.noteWaveUr w a).wr F.ENG_PM_STAT_LASTPOL 1 (s.rd F.AWG_CFG_HOST w)).waveSt w ≠ wvMuting := by
    rw [State.waveSt, State.rd_wr_ne _ _ _ _ _ _ (.inl (by decide))]
    exact hst.trans_ne h.notMuting
  obtain ⟨hidle, -, -⟩ := State.waveIdle_idles hopen
  refine ⟨_, hexec, ?_, hidle, ?_⟩
  all_goals rw [State.waveIdle_rd _ _ _ _ (.inr (by decide)) (by decide), State.rd_wr_ne _ _ _ _ _ _ (.inl (by decide))]
  · exact hur
  · exact hlast

/-- What an under-run notes where the output is to play on with PAD. -/
def State.padBegins (s : State) (w : Nat) (a : PAddr) : State :=
  let u := (s.noteWaveUr w a).wr F.ENG_PM_STAT_LASTPOL
    (if (s.seg (s.rd F.AWG_CFG_HOST w) a.seg).policy = 1 then 2 else 3) (s.rd F.AWG_CFG_HOST w)
  u.setWave w { u.wave w with pad := true, wait := false }

/-- Once PAD begins the output plays it, in the slot that it waited in or in the one that begins now. -/
def State.padPlays (s : State) (w : Nat) (a : PAddr) : State :=
  let u := s.padBegins w a
  if (s.wave w).wait then
    let v := u.playSample w (u.rd F.ENG_PM_PAD_PAD (s.rd F.AWG_CFG_HOST w) % 65536)
    v.setWave w { v.wave w with next := (s.wave w).next, slotAt := (s.wave w).slotAt }
  else u.playSlot w

/-- An output whose sample is not there plays PAD, with any other policy. -/
theorem State.SlotDue.pads (h : s.SlotDue w) {a : PAddr} (hnext : s.waveNext (s.rd F.AWG_CFG_HOST w) (s.wave w).pc = some a)
    (hpad : (s.wave w).pad = false) (hready : s.waveReady w = false) (hp : (s.seg (s.rd F.AWG_CFG_HOST w) a.seg).policy ≠ 0) :
    exec (.waveUnderrun w) s = .next (s.padPlays w a) := by
  change execWaveUnderrun w s = _
  simp only [execWaveUnderrun, h.playing, hnext, hpad, hready, h.now, h.noCmd, Bool.true_eq_false, Bool.false_eq_true, decide_true,
    Bool.not_true, or_self, if_false, hp]
  rfl

end

section
variable {s : State} {w : Nat} {a : PAddr}

theorem State.padBegins_shows (s : State) (w : Nat) (a : PAddr) :
    (s.padBegins w a).rd F.AWG_STAT_UR w = 1 ∧ (s.padBegins w a).waveSt w = s.waveSt w ∧
    (s.padBegins w a).wave w = { s.wave w with pad := true, wait := false } ∧
    (∀ p, (s.padBegins w a).rd F.ENG_PM_PAD_PAD p = s.rd F.ENG_PM_PAD_PAD p) ∧ s.SameFetch (s.padBegins w a) := by
  have hd := s.noteWaveUr_does w a
  obtain ⟨hseg, hhosted, hhost, hcompat⟩ := s.noteWaveUr_sameFetch w a
  obtain ⟨hur, -, hst⟩ := s.noteWaveUr_shows w a
  unfold State.padBegins
  extract_lets +onlyGivenNames u
  have hu {f : Fld} (i : Nat) (h : F.ENG_PM_STAT_LASTPOL.reg ≠ f.reg) : u.rd f i = (s.noteWaveUr w a).rd f i :=
    State.rd_wr_ne _ _ _ _ _ _ (.inl h)
  have hwave : u.wave w = s.wave w := (State.wave_wr ..).trans (hd.waveX (by decide) w)
  have hsegs (p k : Nat) : u.seg p k = (s.noteWaveUr w a).seg p k := (State.wr_does ..).segX (by decide) p k
  clear_value u
  refine ⟨(hu w (by decide)).trans hur, (hu w (by decide)).trans hst, by rw [State.wave_setWave, hwave],
    fun p => (hu p (by decide)).trans (hd.rd _ _ _ (by decide)), fun p k => ?_, fun v => (hu v (by decide)).trans (hhosted v),
    fun v => (hu v (by decide)).trans (hhost v), fun p => (hu p (by decide)).trans (hcompat p)⟩
  rw [(State.setWave_does ..).segX (by decide), hsegs]
  exact hseg p k

/-- The output plays on, with the code of PAD. -/
theorem State.padPlays_shows (hnext : s.waveNext (s.rd F.AWG_CFG_HOST w) (s.wave w).pc = some a) (hready : s.waveReady w = false) :
    (s.padPlays w a).rd F.AWG_STAT_UR w = 1 ∧ (s.padPlays w a).waveSt w = s.waveSt w ∧
    ((s.padPlays w a).wave w).code = s.rd F.ENG_PM_PAD_PAD (s.rd F.AWG_CFG_HOST w) % 16384 := by
  obtain ⟨hur, hst, hwave, hpad, hsame⟩ := s.padBegins_shows w a
  have hpc : ((s.padBegins w a).wave w).pc = (s.wave w).pc := by rw [hwave]
  have hslot : (s.padBegins w a).playSlot w =
      (s.padBegins w a).playSample w (s.rd F.ENG_PM_PAD_PAD (s.rd F.AWG_CFG_HOST w) % 65536) := by
    rw [State.playSlot_pads (a := a), hsame.host, hpad]
    · rw [hsame.host, hpc, hsame.waveNext, hnext]
    · rw [hsame.waveReady hpc, hready]
    · rw [hwave]
  have hplay (v : Nat) (hv : v = s.rd F.ENG_PM_PAD_PAD (s.rd F.AWG_CFG_HOST w) % 65536) :
      ((s.padBegins w a).playSample w v).rd F.AWG_STAT_UR w = 1 ∧ ((s.padBegins w a).playSample w v).waveSt w = s.waveSt w ∧
      (((s.padBegins w a).playSample w v).wave w).code = s.rd F.ENG_PM_PAD_PAD (s.rd F.AWG_CFG_HOST w) % 16384 := by
    refine ⟨?_, ?_, ?_⟩
    · rw [State.playSample_rd _ _ _ _ _ (.inr (by decide)) (by decide), hur]
    · rw [State.waveSt, State.playSample_rd _ _ _ _ _ (.inr (by decide)) (by decide)]
      exact hst
    · rw [State.playSample_wave, hv]
      exact Nat.mod_mod_of_dvd _ (by decide)
  unfold State.padPlays
  extract_lets u v
  split
  · rw [State.rd_setWave, State.wave_setWave]
    exact hplay _ (by rw [hpad])
  · rw [hslot]
    exact hplay _ rfl

end

/-! #### Settings of an output (R336 to R340) -/

section
variable {s : State} {w : Nat}

theorem State.awgStart_hostBad (hsafe : s.safe = false) (hhost : s.hostOk w = false) : s.awgStart w = s.wr F.AWG_STAT_HOSTBAD 1 w := by
  simp only [State.awgStart, hsafe, hhost, Bool.false_eq_true, if_false, if_true]

theorem State.awgStart_starts (hsafe : s.safe = false) (hhost : s.hostOk w = true) (hplays : s.wavePlays w = false) : s.awgStart w =
    (s.setWave w { s.wave w with
      startAt := some (after s.now 1500, PAddr.ofNum (s.rd F.AWG_CTL_ENTRY w)), arm := none, fireT := none }).wr F.AWG_ARMBY_ARMV 0 w := by
  simp only [State.awgStart, hsafe, hhost, hplays, Bool.false_eq_true, Bool.true_eq_false, if_false]

/-- A write of MUTE shows; 1 mutes at the next slot boundary, 0 takes that back but for a span change. -/
theorem State.muteWrite_shows {on : Bool} (h : on = true ∨ s.safe = false) : (s.muteWrite w on).on F.AWG_SPAN_MUTE w = on ∧
    ((s.muteWrite w on).wave w).muteAt =
      if on then some ((s.wave w).muteAt.getD s.now) else if (s.wave w).spanChange then (s.wave w).muteAt else none := by
  have hopen : ¬(!on && s.safe) = true := by
    rcases h with h | h
    · rw [h, Bool.not_true, Bool.false_and]
      exact Bool.false_ne_true
    · rw [h, Bool.and_false]
      exact Bool.false_ne_true
  unfold State.muteWrite
  rw [if_neg hopen]
  extract_lets x u
  have hu : u.on F.AWG_SPAN_MUTE w = on := by
    rw [State.on, State.rd_wr]
    cases on <;> rfl
  cases on with
  | true => exact ⟨hu, congrArg WaveX.muteAt (State.wave_setWave ..)⟩
  | false =>
    refine ⟨?_, congrArg WaveX.muteAt (State.wave_setWave ..)⟩
    rw [State.on, if_neg (by decide), State.rd_wr_ne _ _ _ _ _ _ (.inl (by decide))]
    exact hu

/-- In the safe state a mute is not taken back, and the write shows SAFEWR (R508). -/
theorem State.muteWrite_safe (h : s.safe = true) : s.muteWrite w false = s.wr F.FLT_STAT_SAFEWR 1 := if_pos h

/-- The state of an output after its mute: the one before it, with MUTED as AWG_SPAN has it (R336). -/
theorem unmute_returns {w : WaveId} {t0 : Stamp} (hun : (s.wave w).unmuteAt = some t0) (hr : reached t0 s.now = true)
    (hslot : s.slotNow w = true ∨ 0 ≤ ahead (s.wave w).slotAt t0) (hback : (s.wave w).back ≤ 3) :
    ∃ t, exec (.unmute w) s = .next t ∧ t.waveSt w = (s.wave w).back ∧ t.rd F.AWG_STAT_MUTED w = s.rd F.AWG_SPAN_MUTE w % 2 ∧
      (t.wave w).unmuteAt = none := by
  have hnow : (s.slotNow w || decide (ahead (s.wave w).slotAt t0 ≥ 0)) = true := Bool.or_eq_true_iff.2 (hslot.imp id decide_eq_true)
  change ∃ t, execUnmute w s = _ ∧ _
  simp only [execUnmute, hun, hr, hnow, Bool.true_eq_false, Bool.false_eq_true, decide_true, Bool.not_true, or_self, if_false]
  refine ⟨_, rfl, ?_, ?_, ?_⟩
  · rw [State.waveSt, State.rd_wr_ne _ _ _ _ _ _ (.inr (by decide)), State.rd_wr]
    exact Nat.mod_eq_of_lt (Nat.lt_succ_of_le hback)
  · rw [State.rd_wr, State.rd_wr_ne _ _ _ _ _ _ (.inl (by decide)), State.rd_setWave]
    rfl
  · rw [State.wave_wr, State.wave_wr, State.wave_setWave]

theorem State.spanWrite_shows {span : Nat} (h : s.rd F.AWG_SPAN_SPAN w ≠ span) (hlt : span < 8) :
    (s.spanWrite w span).rd F.AWG_SPAN_SPAN w = span ∧
    ((s.spanWrite w span).wave w).spanChange = true ∧ ((s.spanWrite w span).wave w).muteAt = some s.now := by
  rw [State.spanWrite, if_neg h, State.rd_setWave, State.rd_wr, State.wave_setWave]
  exact ⟨Nat.mod_eq_of_lt hlt, rfl, rfl⟩

theorem State.awgCfgWrite_idle (h : s.waveSt w = wvIdle) (v : Nat) : s.awgCfgWrite w v =
    ((s.wr F.AWG_CFG_HOSTV (bit v 31) w).wr F.AWG_CFG_HOST (bits v 27 20) w).wr F.AWG_CFG_DIV (bits v 15 0) w := if_neg (not_not_intro h)

end

/-- An output struck by a fault is muted and idle. -/
theorem State.faultMute_shows (s : State) (w : Nat) : (s.faultMute w).waveSt w = wvIdle ∧ (s.faultMute w).rd F.AWG_SPAN_MUTE w = 1 ∧
    (s.faultMute w).rd F.AWG_STAT_FLTMUTE w = 1 ∧ (s.faultMute w).rd F.AWG_STAT_LASTEV w = evFault := by
  unfold State.faultMute
  extract_lets s1 s2 s3
  refine ⟨?_, ?_, ?_, State.waveEvent_lastev _ _ _ (by decide)⟩
  · rw [State.waveSt, State.waveEvent_rd _ _ _ _ _ _ (.inr (by decide)), State.rd_wr_ne _ _ _ _ _ _ (.inr (by decide)),
      State.rd_wr_ne _ _ _ _ _ _ (.inr (by decide)), State.rd_wr_ne _ _ _ _ _ _ (.inl (by decide)), State.rd_wr]
    rfl
  · rw [State.waveEvent_rd _ _ _ _ _ _ (.inl (by decide)), State.rd_wr_ne _ _ _ _ _ _ (.inl (by decide)),
      State.rd_wr_ne _ _ _ _ _ _ (.inl (by decide)), State.rd_wr]
    rfl
  · rw [State.waveEvent_rd _ _ _ _ _ _ (.inr (by decide)), State.rd_wr]
    rfl

/-- Settles O38: each command by its equation, the slots by what playing one leaves, the under-runs by their policy. -/
theorem waveformOutputsPlay : Obligations.WaveformOutputsPlay := by
  unfold Obligations.WaveformOutputsPlay
  intro s w
  refine ⟨fun hsafe => ⟨_, congrArg Host.Outcome.next (if_pos hsafe), State.rd_wr .., rfl⟩,
    fun hsafe hhost => ⟨_, rfl, ?hostBad⟩, fun hsafe hhost hplays => ⟨_, rfl, ?start⟩,
    fun hslot => ⟨_, congrArg Host.Outcome.next (if_neg ?later), ?stopLater⟩,
    fun hslot hlast hmute => ⟨_, congrArg Host.Outcome.next (if_pos ⟨hslot, hlast⟩), State.waveIdle_idles hmute⟩,
    fun n k a t0 u hu harm hfire hr hmute => ⟨_, exec_armFire_due hu harm hfire hr, State.waveBegin_plays hmute a⟩,
    fun hplay hdue hcmd => ?slot, fun span hspan => ⟨_, rfl, State.spanWrite_shows hspan span.isLt⟩,
    fun t0 hun hr hslot hback => unmute_returns hun hr hslot hback, fun on hon => ⟨_, rfl, State.muteWrite_shows hon⟩,
    fun hsafe => ⟨_, rfl, ?muteSafe⟩, fun hfault hlive => ⟨_, congrArg Host.Outcome.next (if_neg ?struck), ?fault⟩,
    fun v => ⟨fun hidle => ⟨_, rfl, ?cfg⟩, fun hidle => ⟨_, congrArg Host.Outcome.next (if_pos hidle), State.rd_wr .., ?cfgBusy⟩⟩⟩
  case hostBad =>
    rw [State.awgStart_hostBad hsafe hhost]
    exact ⟨State.rd_wr .., rfl⟩
  case start =>
    rw [State.awgStart_starts hsafe hhost hplays, State.wave_wr, State.wave_setWave]
    exact ⟨State.rd_wr .., rfl, rfl⟩
  case later =>
    exact fun ⟨hnow, hlast⟩ => hslot.elim (fun h => Bool.false_ne_true (h.symm.trans hnow)) fun h => Bool.false_ne_true (hlast.symm.trans h)
  case stopLater =>
    rw [State.wave_setWave]
    exact ⟨rfl, rfl⟩
  case slot =>
    have h : s.SlotDue w := ⟨hplay, hdue, hcmd⟩
    refine ⟨h.ends, fun a hnext hpad hready hp => h.stops hnext hpad hready hp,
      fun a hnext hpad hready hp => ⟨_, h.pads hnext hpad hready hp, ?_⟩⟩
    obtain ⟨hur, hst, hcode⟩ := State.padPlays_shows hnext hready
    exact ⟨hur, hst.trans hplay, hcode⟩
  case muteSafe =>
    rw [State.muteWrite_safe hsafe]
    exact ⟨State.rd_wr .., State.rd_wr_ne _ _ _ _ _ _ (.inl (by decide)), rfl⟩
  case struck =>
    rintro (hno | ⟨hidle, hmuted, hstart⟩)
    · exact Bool.false_ne_true (hno.symm.trans hfault)
    · rcases hlive with h | h | h
      · exact h hidle
      · exact Bool.false_ne_true (h.symm.trans hmuted)
      · rw [hstart] at h
        exact Bool.false_ne_true h
  case fault =>
    obtain ⟨hidle, hmute, hfault, hlast⟩ := s.faultMute_shows w
    exact ⟨hidle, (s.faultMute_muted w w).trans (if_pos rfl), hmute, hfault, hlast⟩
  case cfg =>
    rw [State.awgCfgWrite_idle hidle]
    refine ⟨?_, ?_, ?_⟩
    · rw [State.rd_wr_ne _ _ _ _ _ _ (.inr (by decide)), State.rd_wr_ne _ _ _ _ _ _ (.inr (by decide)), State.rd_wr]
      exact Nat.mod_mod ..
    · rw [State.rd_wr_ne _ _ _ _ _ _ (.inr (by decide)), State.rd_wr]
      exact Nat.mod_mod ..
    · rw [State.rd_wr]
      exact Nat.mod_mod ..
  case cfgBusy => exact State.rd_wr_ne _ _ _ _ _ _ (.inl (by decide))

end Sys2Proof.Machine
end

/-! ### Scope: the entries of the result ledger -/

section
namespace Sys2Proof.Machine

open Sys2Proof

/-- A number has as many bytes as it is asked for. -/
@[simp] theorem toBytes_length (n v : Nat) : (toBytes n v).length = n := by
  induction n generalizing v with
  | zero => rfl
  | succ n ih => rw [toBytes, List.length_cons, ih]

/-- The queue of the ledger once a held commit has its slot: it is committed now, behind the others (R281). -/
def State.takeSlot (s : State) (e : LEnt) : List LEnt := s.ledgq.erase e ++ [{ e with hold := false, commitT := s.now }]

theorem exec_ledgerHoldRelease {s : State} {n : SiteId} {e : LEnt} (hroom : s.ledgCommitted < 65408)
    (hheld : s.ledgq.find? (fun e => e.hold && e.site == n.val) = some e) :
    exec (.ledgerHoldRelease n) s =
      .next ({ s with ledgq := s.takeSlot e }.wr F.LEDG_STAT_HOLDING (ofBool ((s.takeSlot e).any (·.hold)))) := by
  refine congrArg Host.Outcome.next ((if_neg (Nat.not_le_of_lt hroom)).trans ?_)
  rw [hheld]
  rfl

section
variable {s : State} {e : LEnt} (h : nextVisible s.ledgq = some e)
include h

/-- The entry that becomes visible leaves the queue, and its bytes go into the slot at LEDG_WR (R276, R280). -/
theorem State.ledgerVisible_writes : s.ledgerVisible.ledgq = s.ledgq.erase e ∧
    s.ledgerVisible.ledgMem = s.ledgMem.writeBytes (32 * s.rd F.LEDG_WR_INDEX)
      (e.bytes (1 - s.rd F.LEDG_WR_WRAP) (s.rd F.GLB_ROLE_DEVNUM)) := by
  unfold State.ledgerVisible
  rw [h]
  exact ⟨rfl, rfl⟩

/-- LEDG_WR goes to the next slot (R280). -/
theorem State.ledgerVisible_advances (hwrap : s.rd F.LEDG_WR_WRAP < 2) :
    s.ledgerVisible.rd F.LEDG_WR_INDEX = (s.rd F.LEDG_WR_INDEX + 1) % 65536 ∧
    s.ledgerVisible.rd F.LEDG_WR_WRAP =
      if s.rd F.LEDG_WR_INDEX = 65535 then 1 - s.rd F.LEDG_WR_WRAP else s.rd F.LEDG_WR_WRAP := by
  unfold State.ledgerVisible
  rw [h]
  dsimp only
  rw [State.rd_pulse, State.rd_pulse, State.rd_wr_ne _ _ _ _ _ _ (.inr (by decide)), State.rd_wr, State.rd_wr]
  refine ⟨Nat.mod_mod .., Nat.mod_eq_of_lt ?_⟩
  change _ < 2
  split <;> omega

end

/-- Settles O20: the held commit takes its slot, and the visible entry's bytes are those written at LEDG_WR. -/
theorem ledgerEntriesAppear : Obligations.LedgerEntriesAppear := by
  unfold Obligations.LedgerEntriesAppear
  refine fun s e => ⟨fun n hroom hheld => ⟨_, exec_ledgerHoldRelease hroom hheld, rfl⟩, fun h hwrap _ => ?_⟩
  obtain ⟨hq, hmem⟩ := State.ledgerVisible_writes h
  have hlen : (e.bytes (1 - s.rd F.LEDG_WR_WRAP) (s.rd F.GLB_ROLE_DEVNUM)).length = 32 := toBytes_length ..
  refine ⟨s.ledgerVisible, rfl, hq, fun k hk => ?_, fun a ha => ?_, State.ledgerVisible_advances h hwrap⟩
  · rw [hmem, Memory.byte_writeBytes_in _ _ _ _ (hlen.symm ▸ hk), BitVec.toNat_ofNat]
  · rw [hmem, Memory.byte_writeBytes_out _ _ _ _ (hlen.symm ▸ ha)]

end Sys2Proof.Machine
end
/-! ### Scope: the capture rings and the read pointers -/

section
namespace Sys2Proof.Machine

open Sys2Proof

/-! #### Bytes round a ring (R253, R254) -/

/-- Offsets of one ring that lie less than its length on are different places in it. -/
theorem ring_place_inj {off r i j : Nat} (hi : i < r) (hj : j < r) (h : (off + i) % r = (off + j) % r) : i = j :=
  (Nat.ModEq.add_left_cancel' off h).eq_of_lt_of_lt hi hj

/-- One byte of capture memory written. -/
def State.putByte (s : State) (a : Nat) (b : Byte) : State := { s with capMem := s.capMem.write a b }

theorem State.putByte_byte (s : State) (a : Nat) (b : Byte) (x : Nat) :
    (s.putByte a b).capMem.byte x = if x = a then b else s.capMem.byte x := Memory.byte_write ..

theorem State.ringWrite_cons {s : State} {p : Nat} (hr : 0 < s.ringSize p) (off b : Nat) (l : List Nat) :
    s.ringWrite p off (b :: l) =
      (s.putByte (s.ringBase p + off % s.ringSize p) (BitVec.ofNat 8 b)).ringWrite p (off + 1) l := by
  rw [State.ringWrite, Nat.max_eq_right hr]
  rfl

/-- Bytes written round a ring leave every place that they do not reach. -/
theorem State.ringWrite_out {p a : Nat} {l : List Nat} {s : State} {off : Nat} (hr : 0 < s.ringSize p)
    (ha : ∀ i, i < l.length → a ≠ s.ringBase p + (off + i) % s.ringSize p) :
    (s.ringWrite p off l).capMem.byte a = s.capMem.byte a := by
  induction l generalizing s off with
  | nil => rfl
  | cons b l ih =>
    have hrest (i : Nat) (hi : i < l.length) : a ≠ s.ringBase p + (off + 1 + i) % s.ringSize p := by
      rw [Nat.add_right_comm]
      exact ha (i + 1) (Nat.succ_lt_succ hi)
    rw [State.ringWrite_cons hr, ih (s := s.putByte _ _) hr hrest, State.putByte_byte]
    exact if_neg (ha 0 (Nat.succ_pos _))

/-- Bytes that fit into a ring each stand where they were written. -/
theorem State.ringWrite_in {p : Nat} {l : List Nat} {s : State} {off i b : Nat} (hl : l.length ≤ s.ringSize p)
    (hb : l[i]? = some b) :
    (s.ringWrite p off l).capMem.byte (s.ringBase p + (off + i) % s.ringSize p) = BitVec.ofNat 8 b := by
  induction l generalizing s off i with
  | nil => exact absurd hb (by simp)
  | cons c l ih =>
    have hr : 0 < s.ringSize p := Nat.lt_of_lt_of_le (Nat.succ_pos _) hl
    rw [State.ringWrite_cons hr]
    cases i with
    | zero =>
      obtain rfl : c = b := Option.some.inj hb
      have hpast (i : Nat) (hi : i < l.length) :
          s.ringBase p + off % s.ringSize p ≠ s.ringBase p + (off + 1 + i) % s.ringSize p := by
        intro h
        rw [Nat.add_assoc off] at h
        have := ring_place_inj hr (Nat.lt_of_lt_of_le (by rw [List.length_cons]; omega) hl) (Nat.add_left_cancel h)
        omega
      exact (State.ringWrite_out (s := s.putByte _ _) hr hpast).trans ((State.putByte_byte ..).trans (if_pos rfl))
    | succ i =>
      rw [← Nat.add_assoc, Nat.add_right_comm]
      exact ih (s := s.putByte _ _) (Nat.le_of_succ_le hl) hb

/-- A record that fits goes into the ring at CAP_WR. -/
theorem State.putRecord_took {s : State} {p : Nat} {ws : List Nat} (hr : s.ringSize p ≤ 2 ^ 24)
    (hoff : s.rd F.CAP_WR_OFFSET p < s.ringSize p) (hfit : 8 * ws.length ≤ s.ringSize p) : s.ringTook (s.putRecord p ws) p ws := by
  have hlen : (ws.flatMap (toBytes 8)).length = 8 * ws.length := by simp [List.length_flatMap, Nat.mul_comm]
  refine ⟨?_, fun i b hb => State.ringWrite_in (hlen ▸ hfit) hb,
    fun a ha => State.ringWrite_out (Nat.zero_lt_of_lt hoff) (hlen ▸ ha)⟩
  rw [State.putRecord, State.rd_wr_ne _ _ _ _ _ _ (.inr (by decide)), State.rd_wr]
  refine Nat.mod_eq_of_lt (Nat.lt_of_lt_of_le (m := s.ringSize p) ?_ hr)
  split <;> omega

/-- A pod's ring lies where the registers say. -/
theorem State.ring_of_rd {s t : State} (h : ∀ f i j, t.rd f i j = s.rd f i j) (p : Nat) :
    t.ringSize p = s.ringSize p ∧ t.ringBase p = s.ringBase p := by
  simp only [State.ringSize, State.ringBase, State.mapUnits, h, and_self]

/-- What is done to pods alone, before and after, has no part in what a ring took. -/
theorem State.ringTook.within {s s1 t1 t : State} {p : Nat} {ws : List Nat} (h : s1.ringTook t1 p ws) (hs : Does 0x10 0 s s1)
    (ht : Does 0x10 0 t1 t) : s.ringTook t p ws := by
  have hrd (f : Fld) (i j : Nat) : s1.rd f i j = s.rd f i j := hs.rd f i j (Nat.zero_testBit _)
  obtain ⟨hsize, hbase⟩ := State.ring_of_rd hrd p
  simp only [State.ringTook] at h ⊢
  rw [hsize, hbase, hrd, hs.capMem (by decide)] at h
  rwa [ht.rd _ _ _ (Nat.zero_testBit _), ht.capMem (by decide)]

/-! #### Records (R254, R266, R267, R270) -/

/-- The pod's queues once the words that come next are taken: a SYNC leaves the record behind it where it is (R267). -/
def State.drawn (s : State) (p : Nat) (sync : Bool) : State := if sync then s else s.popRec p

/-- The reference stamp after a record has been written: its own where it has one (R266). -/
def State.refAfter (s : State) (p : Nat) : NextRec → State
  | .edge e => s.setRef p e.stamp e.ep e.jp
  | .queued true c => s.setRef p c.stamp c.ep c.jp
  | _ => s

theorem State.drawn_does (s : State) (p : Nat) (sync : Bool) : Does 0x10 0 s (s.drawn p sync) :=
  Does.ite (fun _ => .refl ..) (fun _ => State.popRec_does ..)

theorem State.refAfter_does (s : State) (p : Nat) (r : NextRec) : Does 0x10 0 s (s.refAfter p r) := by
  unfold State.refAfter
  split
  · exact State.setRef_does ..
  · exact State.setRef_does ..
  · exact .refl ..

theorem State.refAfter_efifo (s : State) (p : Nat) (r : NextRec) : ((s.refAfter p r).pod p).efifo = (s.pod p).efifo := by
  unfold State.refAfter State.setRef
  split
  · rw [State.pod_setPod]
  · rw [State.pod_setPod]
  · rfl

section
variable {s : State} {p : PodId} {ws : List Nat}

/-- A record that fits goes into the ring where no LOSS record is due. -/
theorem exec_recordWrite_fits {sync : Bool} (hnext : s.nextWords p = some (ws, sync)) (hfit : s.recFits p (8 * ws.length) = true)
    (hloss : (s.pod p).losses = []) :
    exec (.recordWrite p) s = .next (((s.drawn p sync).putRecord p ws).refAfter p (s.pod p).nextRec) := by
  change execRecordWrite p s = _
  unfold execRecordWrite
  simp only [hnext, hfit, hloss, if_true, List.isEmpty_nil, Bool.not_true, Bool.false_eq_true, if_false]
  rfl

/-- A FAIL, CAPT or STEP record that does not fit is lost. -/
theorem exec_recordWrite_full {step : Bool} {c : CapRec} (hnext : s.nextWords p = some (ws, false))
    (hrec : (s.pod p).nextRec = .queued step c) (hfull : s.recFits p (8 * ws.length) = false) :
    exec (.recordWrite p) s = .next ((s.popRec p).loseFull p c.pin c.stamp F.CAP_STAT_FLOSS) := by
  change execRecordWrite p s = _
  unfold execRecordWrite
  simp only [hnext, hrec, hfull, Bool.false_eq_true, if_false]

/-- Out of a step the first LOSS record is written where it fits. -/
theorem exec_lossRecord {r : LossRun} {rest : List LossRun} (hloss : (s.pod p).losses = r :: rest) (hruns : s.podRuns p = false)
    (hpart : s.rd F.CAP_PART_SIZE p ≠ 0) (hfree : 24 ≤ s.capFree p) :
    exec (.lossRecord p) s = .next ((s.setPod p { s.pod p with losses := rest }).putRecord p r.words) := by
  change execLossRecord p s = _
  unfold execLossRecord
  simp [hloss, hruns, hpart, Nat.not_lt.2 hfree]

/-- What fits into a ring with the LOSS record that may follow it is no longer than the ring. -/
theorem State.le_ringSize_of_fits {len : Nat} (h : s.recFits p len = true) : len ≤ s.ringSize p := by
  have hfits := of_decide_eq_true h
  have hfree : s.capFree p ≤ s.ringSize p := Nat.sub_le ..
  omega

end

theorem State.lose_rd (s : State) (p cause pin : Nat) (stamp : Stamp) (flag f : Fld) (i j : Nat) :
    (s.lose p cause pin stamp flag).rd f i j = ((s.bump F.CAP_LOST_LOST 1 p).wr flag 1 p).rd f i j := by
  unfold State.lose
  extract_lets x runs s1 s2 s3
  split <;> rfl

/-- A record lost for want of room is counted, its cause flagged (R270). -/
theorem State.loseFull_shows (s : State) (p pin : Nat) (stamp : Stamp) :
    (s.loseFull p pin stamp F.CAP_STAT_FLOSS).rd F.CAP_STAT_FLOSS p = 1 ∧
    (s.loseFull p pin stamp F.CAP_STAT_FLOSS).rd F.CAP_LOST_LOST p =
      min (2 ^ F.CAP_LOST_LOST.width - 1) (s.rd F.CAP_LOST_LOST p + 1) := by
  have hrd (f : Fld) : (s.loseFull p pin stamp F.CAP_STAT_FLOSS).rd f p =
      ((s.bump F.CAP_LOST_LOST 1 p).wr F.CAP_STAT_FLOSS 1 p).rd f p := by
    rw [State.loseFull, ← State.lose_rd s p 5 pin stamp]
    split <;> rfl
  rw [hrd, hrd, State.rd_wr, State.rd_wr_ne _ _ _ _ _ _ (.inl (by decide)), State.rd_bump]
  exact ⟨rfl, rfl⟩

/-! #### Thresholds (R275, R284) -/

/-- A record with a ring waits for it. -/
theorem State.emit_recorded (s : State) {r : EvRec} {ring : Nat} (h : r.ring = some ring) :
    (s.emit r).recorded r.src r.kind r.payload r.stamp ring := by
  rw [State.emit, h]
  exact List.any_eq_true.2 ⟨r, List.mem_append_right _ (List.mem_singleton.2 rfl), by simp [h]⟩

theorem State.record_recorded_routed {s : State} {src ring : Nat} (h : s.routeOf src = some ring) (kind : Nat) (payload : List Nat)
    (stamp : Stamp) : (s.record src kind payload stamp none).recorded src kind payload stamp ring :=
  s.emit_recorded (r := EvRec.mk src kind stamp (s.seqs.at 0 src) 0 payload (s.routeOf src)) h

theorem State.record_recorded_given {s : State} {ring : Nat} (h : s.on F.EVR_CFG_EN ring = true) (src kind : Nat) (payload : List Nat)
    (stamp : Stamp) : (s.record src kind payload stamp (some ring)).recorded src kind payload stamp ring :=
  s.emit_recorded (r := EvRec.mk src kind stamp (s.seqs.at 0 src) 0 payload (if s.on F.EVR_CFG_EN ring then some ring else none))
    (if_pos h)

theorem exec_captureThreshold {s : State} {p : PodId} (habove : s.capAbove p = true) (harmed : (s.pod p).above = false) :
    exec (.captureThreshold p) s =
      .next ((s.setPod p { s.pod p with above := true }).record (4 * p) 3 [p + s.capFill p * 2 ^ 32] s.now none) :=
  congrArg Host.Outcome.next (if_neg (by simp [habove, harmed]))

theorem exec_ledgerThreshold {s : State} (hover : s.ledgOver = true) (harmed : s.ledgAbove = false) :
    exec .ledgerThreshold s =
      .next ({ s with ledgAbove := true }.record 0xFFF 4 [s.ledgFill] s.now (some (s.rd F.EVT_CFG_SYSRING))) :=
  congrArg Host.Outcome.next (if_neg (by simp [hover, harmed]))

/-! #### Partitions (R251, R252) -/

/-- A write at one index leaves every field at the others. -/
theorem State.rd_wr_otherInst (s : State) (f g : Fld) (v : Nat) {p q : Nat} (h : q ≠ p) : (s.wr f v p).rd g q = s.rd g q :=
  Store.get_put_ne _ _ fun hk => h (congrArg FKey.i hk)

/-- What an accepted APPLY does to one pod. -/
def State.applyPod (s : State) (p : Nat) : State :=
  ((((s.wr F.CAP_PART_BASE (s.rd F.CAP_PNEXT_BASE p) p).wr F.CAP_PART_SIZE (s.rd F.CAP_PNEXT_SIZE p) p).emptyRing p).rearmCapture
    p).mapCheck p

theorem State.apply_accepted {s : State} (h : s.partOk = true) :
    s.apply = (List.range 256).foldl State.applyPod { s with capMem := [] } := if_pos h

theorem State.apply_refused {s : State} (h : s.partOk = false) : s.apply = s.wr F.CAP_GSTAT_PARTBAD 1 :=
  if_neg (Bool.eq_false_iff.1 h)

theorem State.rearmCapture_rd (s : State) (p : Nat) (f : Fld) (i j : Nat) : (s.rearmCapture p).rd f i j = s.rd f i j :=
  (s.rearmCapture_does p).rd f i j (Nat.zero_testBit _)

theorem State.mapCheck_otherInst (s : State) {p q : Nat} (h : q ≠ p) (f : Fld) : (s.mapCheck p).rd f q = s.rd f q := by
  unfold State.mapCheck
  extract_lets m
  split
  · exact State.rd_wr_otherInst _ _ _ _ h
  · rfl

theorem State.applyPod_otherInst (s : State) {p q : Nat} (h : q ≠ p) (f : Fld) : (s.applyPod p).rd f q = s.rd f q := by
  simp only [State.applyPod, State.mapCheck_otherInst _ h, State.rearmCapture_rd, State.emptyRing, State.rd_wr_otherInst _ _ _ _ h]

/-- The fields of a ring's two pointers (R254). -/
def ringFields : List Fld := [F.CAP_WR_OFFSET, F.CAP_WR_WRAP, F.CAP_RD_OFFSET, F.CAP_RD_WRAP]

theorem State.emptyRing_empties (s : State) (p : Nat) : ∀ f ∈ ringFields, (s.emptyRing p).rd f p = 0 := by
  simp only [ringFields, List.forall_mem_cons]
  refine ⟨?_, ?_, ?_, ?_, by simp⟩ <;>
    simp (disch := decide) only [State.emptyRing, State.rd_wr, State.rd_wr_ne, Nat.zero_mod]

/-- MAP_UNITS is checked into CAP_STAT alone (R253). -/
theorem State.mapCheck_rd (s : State) (p q : Nat) {f : Fld} (hf : F.CAP_STAT_CFGBAD.reg ≠ f.reg) : (s.mapCheck p).rd f q = s.rd f q := by
  unfold State.mapCheck
  extract_lets m
  split
  · exact State.rd_wr_ne _ _ _ _ _ _ (.inl hf)
  · rfl

/-- But for CAP_STAT a pod's step ends with its empty ring. -/
theorem State.applyPod_rd (s : State) (p : Nat) {f : Fld} (hf : F.CAP_STAT_CFGBAD.reg ≠ f.reg) : (s.applyPod p).rd f p =
    (((s.wr F.CAP_PART_BASE (s.rd F.CAP_PNEXT_BASE p) p).wr F.CAP_PART_SIZE (s.rd F.CAP_PNEXT_SIZE p) p).emptyRing p).rd f p :=
  (State.mapCheck_rd _ _ _ hf).trans (State.rearmCapture_rd ..)

/-- A pod takes the partition that CAP_PNEXT gives it. -/
theorem State.applyPod_part (s : State) (p : Nat) :
    (s.applyPod p).rd F.CAP_PART_BASE p = s.rd F.CAP_PNEXT_BASE p % 2 ^ F.CAP_PART_BASE.width ∧
    (s.applyPod p).rd F.CAP_PART_SIZE p = s.rd F.CAP_PNEXT_SIZE p % 2 ^ F.CAP_PART_SIZE.width := by
  rw [s.applyPod_rd p (by decide), s.applyPod_rd p (by decide), (State.emptyRing_does ..).rd _ _ _ (by decide),
    (State.emptyRing_does ..).rd _ _ _ (by decide), State.rd_wr, State.rd_wr_ne _ _ _ _ _ _ (.inr (by decide)), State.rd_wr]
  exact ⟨rfl, rfl⟩

/-- A pod's ring becomes empty. -/
theorem State.applyPod_empties (s : State) (p : Nat) : ∀ f ∈ ringFields, (s.applyPod p).rd f p = 0 := by
  have hf : ∀ f ∈ ringFields, F.CAP_STAT_CFGBAD.reg ≠ f.reg := by decide
  exact fun f h => (s.applyPod_rd p (hf f h)).trans (State.emptyRing_empties _ p f h)

theorem State.applyPod_does (s : State) (p : Nat) :
    Does 0x10 0xe4000000000000000000000000000000000000000000000000000000000000 s (s.applyPod p) :=
  Does.step (State.mapCheck_does ..) (by decide) (by decide) <| Does.step (State.rearmCapture_does ..) (by decide) (by decide) <|
    Does.step (State.emptyRing_does ..) (by decide) (by decide) <|
    Does.wr _ _ _ _ (by decide) <| Does.wr _ _ _ _ (by decide) <| .refl ..

/-- A field into which each pod's step writes a value that no step changes reads, after all of them, as that value. -/
theorem State.applyPods_writes {f : Fld} (v : State → Nat → Nat) (hown : ∀ s p, (State.applyPod s p).rd f p = v s p)
    (hval : ∀ s p q, v (State.applyPod s p) q = v s q) (s : State) (p : PodId) :
    ((List.range 256).foldl State.applyPod s).rd f p = v s p :=
  fold_writes v State.applyPod hown hval (fun s _ _ h => s.applyPod_otherInst h f) (List.mem_range.2 p.isLt) s

/-- A field that takes what another one holds, which APPLY leaves. -/
theorem State.applyPods_copies {f g : Fld} (hown : ∀ s p, (State.applyPod s p).rd f p = s.rd g p % 2 ^ f.width)
    (hg : 0xe4000000000000000000000000000000000000000000000000000000000000.testBit g.reg.ctorIdx = false) (s : State) (p : PodId) :
    ((List.range 256).foldl State.applyPod s).rd f p = s.rd g p % 2 ^ f.width :=
  State.applyPods_writes (fun s p => s.rd g p % 2 ^ f.width) hown
    (fun s p q => congrArg (· % 2 ^ f.width) ((s.applyPod_does p).rd g q 0 hg)) s p

/-- An accepted APPLY gives every pod its next partition (R252). -/
theorem State.apply_parts {s : State} (h : s.partOk = true) (p : PodId) :
    s.apply.rd F.CAP_PART_BASE p = s.rd F.CAP_PNEXT_BASE p % 2 ^ F.CAP_PART_BASE.width ∧
    s.apply.rd F.CAP_PART_SIZE p = s.rd F.CAP_PNEXT_SIZE p % 2 ^ F.CAP_PART_SIZE.width := by
  rw [State.apply_accepted h]
  exact ⟨State.applyPods_copies (fun s p => (s.applyPod_part p).1) (by decide) { s with capMem := [] } p,
    State.applyPods_copies (fun s p => (s.applyPod_part p).2) (by decide) { s with capMem := [] } p⟩

/-- An accepted APPLY empties every ring and loses what capture memory held (R252). -/
theorem State.apply_empties {s : State} (h : s.partOk = true) (p : PodId) :
    (∀ a, s.apply.capMem.byte a = 0) ∧ ∀ f ∈ ringFields, s.apply.rd f p = 0 := by
  rw [State.apply_accepted h]
  refine ⟨fun a => ?_, fun f hf => State.applyPods_writes (fun _ _ => 0) (fun s p => s.applyPod_empties p f hf) (fun _ _ _ => rfl) _ p⟩
  rw [fold_keeps State.applyPod State.capMem fun s p => (s.applyPod_does p).capMem (by decide)]
  exact Memory.byte_nil a

/-! #### The configuration of a pod (R253) -/

/-- A bit field of a value fits the register field of its width. -/
theorem bits_mod_width (v hi lo : Nat) {f : Fld} (h : f.width = hi + 1 - lo) : bits v hi lo % 2 ^ f.width = bits v hi lo := by
  rw [h]
  exact Nat.mod_mod ..

theorem bit_mod_width (v b : Nat) {f : Fld} (h : f.width = 1) : bit v b % 2 ^ f.width = bit v b := by
  rw [h]
  exact Nat.mod_mod ..

/-- The fields of CAP_CFG written from a value. -/
def State.cfgFields (s : State) (p v : Nat) : State :=
  (((s.wr F.CAP_CFG_SCALE (bits v 28 24) p).wr F.CAP_CFG_MAP_UNITS (bits v 23 20) p).wr F.CAP_CFG_FIRST_N (bits v 19 8) p).wr
    F.CAP_CFG_FMODE (bits v 1 0) p

theorem State.cfgFields_shows (s : State) (p v : Nat) : (s.cfgFields p v).rd F.CAP_CFG_SCALE p = bits v 28 24 ∧
    (s.cfgFields p v).rd F.CAP_CFG_MAP_UNITS p = bits v 23 20 ∧ (s.cfgFields p v).rd F.CAP_CFG_FIRST_N p = bits v 19 8 ∧
    (s.cfgFields p v).rd F.CAP_CFG_FMODE p = bits v 1 0 := by
  refine ⟨?_, ?_, ?_, ?_⟩ <;>
    (simp (disch := decide) only [State.cfgFields, State.rd_wr, State.rd_wr_ne]
     exact bits_mod_width _ _ _ rfl)

theorem State.capCfgWrite_busy {s : State} {p : Nat} (h : s.podRuns p = true) (reg v : Nat) :
    s.capCfgWrite p reg v = s.wr F.CAP_STAT_BUSY 1 p := if_pos (by simp [h])

section
variable {s : State} {p : Nat} (hruns : s.podRuns p = false)
include hruns

theorem State.capCfgWrite_elog (v : Nat) : (s.capCfgWrite p 1 v).rd F.CAP_ELOG_BUDGET p = bits v 15 0 := by
  have h : s.capCfgWrite p 1 v = s.wr F.CAP_ELOG_BUDGET (bits v 15 0) p := by simp [State.capCfgWrite, hruns]
  rw [h, State.rd_wr]
  exact bits_mod_width _ _ _ rfl

theorem State.capCfgWrite_mapStart (v : BitVec 32) : (s.capCfgWrite p 2 v.toNat).rd F.CAP_MAPSTART_MAPSTART p = v.toNat := by
  have h : s.capCfgWrite p 2 v.toNat = s.wr F.CAP_MAPSTART_MAPSTART v.toNat p := by simp [State.capCfgWrite, hruns]
  rw [h, State.rd_wr]
  exact Nat.mod_eq_of_lt v.isLt

/-- With an empty ring CAP_CFG takes its fields; a map that changes empties the ring, which leaves them. -/
theorem State.capCfgWrite_cfg (hfill : s.capFill p = 0) (v : Nat) :
    (s.capCfgWrite p 0 v).rd F.CAP_CFG_SCALE p = bits v 28 24 ∧ (s.capCfgWrite p 0 v).rd F.CAP_CFG_MAP_UNITS p = bits v 23 20 ∧
    (s.capCfgWrite p 0 v).rd F.CAP_CFG_FIRST_N p = bits v 19 8 ∧ (s.capCfgWrite p 0 v).rd F.CAP_CFG_FMODE p = bits v 1 0 := by
  have hcheck : Does 0x10 0xe0000000000000000000000000000000000000000000000000000000000000 (s.cfgFields p v)
      ((s.cfgFields p v).mapCheck p) := (State.mapCheck_does ..).mono (by decide) (by decide)
  have hcfg : Does 0x10 0xe0000000000000000000000000000000000000000000000000000000000000 (s.cfgFields p v) (s.capCfgWrite p 0 v) := by
    unfold State.capCfgWrite
    extract_lets m changes u1 u2
    rw [if_neg (by simp [hruns, hfill]), if_neg Nat.zero_ne_one, if_neg (by decide)]
    exact Does.ite (fun _ => Does.step (State.rearmCapture_does ..) (by decide) (by decide) <|
      Does.step (State.emptyRing_does ..) (by decide) (by decide) hcheck) (fun _ => hcheck)
  rw [hcfg.rd _ _ _ (by decide), hcfg.rd _ _ _ (by decide), hcfg.rd _ _ _ (by decide), hcfg.rd _ _ _ (by decide)]
  exact s.cfgFields_shows p v

end

/-! #### Read pointers (R272, R273, R284) -/

theorem State.capRdWrite_pending {s : State} {p : Nat} (h : s.capPending p = true) (v : Nat) :
    s.capRdWrite p v = s.wr F.CAP_STAT_RDBAD 1 p := if_pos (by simp [h])

/-- CAP_RD moves on in the same round of the ring, within the fill. -/
theorem State.capRdWrite_moves {s : State} {p v : Nat} (hpend : s.capPending p = false) (hwrap : s.rd F.CAP_RD_WRAP p = bit v 24)
    (hfrom : s.rd F.CAP_RD_OFFSET p ≤ bits v 23 0) (hring : bits v 23 0 < s.ringSize p)
    (hfill : bits v 23 0 - s.rd F.CAP_RD_OFFSET p ≤ s.capFill p) :
    s.capRdWrite p v = ((s.wr F.CAP_RD_WRAP (bit v 24) p).wr F.CAP_RD_OFFSET (bits v 23 0) p).rearmCapture p := by
  unfold State.capRdWrite
  extract_lets r pos old new step
  refine if_neg ?_
  have hin : bits v 23 0 < r := hring
  have hr : max 1 r = r := Nat.max_eq_right (Nat.zero_lt_of_lt hring)
  have hstep : step = bits v 23 0 - s.rd F.CAP_RD_OFFSET p := by
    have hpos : new + 2 * r - old = bits v 23 0 - s.rd F.CAP_RD_OFFSET p + 2 * r := by
      simp only [new, old, pos, hwrap]
      omega
    unfold step
    rw [hpos, hr, Nat.add_mod_right]
    exact Nat.mod_eq_of_lt (by omega)
  rw [hr, hstep]
  simp [hpend, hin, hfill]

theorem State.ledgRdWrite_pending {s : State} (h : s.drainPending = true) (v : Nat) : s.ledgRdWrite v = s.wr F.LEDG_STAT_RDBAD 1 :=
  if_pos (by simp [h])

theorem State.ledgRdWrite_moves {s : State} {v : Nat} (hpend : s.drainPending = false)
    (hfill : (bits v 16 0 + 131072 - (s.rd F.LEDG_RD_INDEX + 65536 * s.rd F.LEDG_RD_WRAP)) % 131072 ≤ s.ledgFill) :
    s.ledgRdWrite v = s.setLedgRd (bit v 16) (bits v 15 0) := if_neg (by simp [hpend, hfill])

theorem State.setLedgRd_shows (s : State) (wrap index : Nat) :
    (s.setLedgRd wrap index).rd F.LEDG_RD_INDEX = index % 2 ^ F.LEDG_RD_INDEX.width ∧
    (s.setLedgRd wrap index).rd F.LEDG_RD_WRAP = wrap % 2 ^ F.LEDG_RD_WRAP.width := by
  have hrd (f : Fld) : (s.setLedgRd wrap index).rd f = ((s.wr F.LEDG_RD_WRAP wrap).wr F.LEDG_RD_INDEX index).rd f := by
    unfold State.setLedgRd
    extract_lets u
    split <;> rfl
  rw [hrd, hrd, State.rd_wr, State.rd_wr_ne _ _ _ _ _ _ (.inr (by decide)), State.rd_wr]
  exact ⟨rfl, rfl⟩

/-- Settles O39: the records by what the ring took or lost, the thresholds by their records, APPLY pod by pod, each register's write
by its equation. -/
theorem captureRingsAndLedger : Obligations.CaptureRingsAndLedger := by
  unfold Obligations.CaptureRingsAndLedger
  intro s p
  refine ⟨fun hr hoff => ⟨fun ws sync hnext hfit hloss => ⟨_, exec_recordWrite_fits hnext hfit hloss, ?took, ?kept, ?ref⟩,
      fun r rest hloss hruns hpart hfree => ⟨_, exec_lossRecord hloss hruns hpart hfree, ?lossPod, ?lossTook⟩⟩,
    fun ws step c hnext hrec hfull => ⟨_, exec_recordWrite_full hnext hrec hfull, ?lostMem, ?lostCount⟩,
    fun habove harmed => ⟨_, exec_captureThreshold habove harmed, ?above,
      fun ring hroute => State.record_recorded_routed (s := s.setPod p _) hroute ..⟩,
    fun hok => ⟨_, rfl, ?applied⟩, fun hbad => ⟨_, rfl, ?partBad⟩,
    fun v => ⟨fun hruns reg => ⟨_, rfl, ?busy⟩, fun hruns => ⟨⟨_, rfl, State.capCfgWrite_elog hruns v.toNat⟩,
        ⟨_, rfl, State.capCfgWrite_mapStart hruns v⟩, fun hfill => ⟨_, rfl, State.capCfgWrite_cfg hruns hfill v.toNat⟩⟩,
      fun hpend => ⟨_, rfl, ?rdBad⟩, fun hpend hwrap hfrom hring hfill => ⟨_, rfl, ?rdMoves⟩,
      fun hpend hfill => ⟨_, rfl, ?ledgMoves⟩, fun hpend => ⟨_, rfl, ?ledgBad⟩⟩,
    fun hover harmed => ⟨_, exec_ledgerThreshold hover harmed, (State.record_does ..).ledgAbove (by decide),
      fun hen => State.record_recorded_given (s := { s with ledgAbove := true }) hen ..⟩⟩
  case took =>
    have hdrawn := s.drawn_does p sync
    have hrd (f : Fld) (i j : Nat) : (s.drawn p sync).rd f i j = s.rd f i j := hdrawn.rd f i j (Nat.zero_testBit _)
    obtain ⟨hsize, -⟩ := State.ring_of_rd hrd p
    refine (State.putRecord_took (s := s.drawn p sync) ?_ ?_ ?_).within hdrawn (State.refAfter_does ..)
    · rwa [hsize]
    · rwa [hsize, hrd]
    · rw [hsize]
      exact State.le_ringSize_of_fits hfit
  case kept =>
    rintro rfl
    rw [State.refAfter_efifo, (State.putRecord_does ..).podX (by decide)]
    rfl
  case ref =>
    rintro e - he
    rw [he]
    exact congrArg PodX.refStamp (State.pod_setPod ..)
  case lossPod =>
    rw [(State.putRecord_does ..).podX (by decide), State.pod_setPod]
  case lossTook =>
    have hfit : 24 ≤ s.ringSize p := hfree.trans (Nat.sub_le ..)
    exact (State.putRecord_took (s := s.setPod p { s.pod p with losses := rest }) (ws := r.words) hr hoff hfit).within
      (State.setPod_does ..) (.refl ..)
  case lostMem =>
    exact ((State.loseFull_doesF3 (F := 0x8000018) (R := 0x480000000000000000000000000000000000000000000000000000000000000)
      (by decide) (by decide) (by decide) (.refl ..)).capMem (by decide)).trans ((s.popRec_does p).capMem (by decide))
  case lostCount =>
    have hshows := (s.popRec p).loseFull_shows p c.pin c.stamp
    rwa [(s.popRec_does p).rd _ _ _ (Nat.zero_testBit _)] at hshows
  case above =>
    rw [(State.record_does ..).podX (by decide), State.pod_setPod]
  case applied =>
    obtain ⟨hmem, hempty⟩ := State.apply_empties hok p
    obtain ⟨hbase, hsize⟩ := State.apply_parts hok p
    simp only [ringFields, List.forall_mem_cons] at hempty
    obtain ⟨hwo, hww, hro, hrw, -⟩ := hempty
    exact ⟨hmem, hbase, hsize, hwo, hww, hro, hrw⟩
  case partBad =>
    rw [State.apply_refused hbad]
    exact ⟨State.rd_wr .., rfl⟩
  case busy =>
    rw [State.capCfgWrite_busy hruns]
    exact ⟨State.rd_wr .., State.rd_wr_ne _ _ _ _ _ _ (.inl (by decide))⟩
  case rdBad =>
    rw [State.capRdWrite_pending hpend]
    exact ⟨State.rd_wr .., State.rd_wr_ne _ _ _ _ _ _ (.inl (by decide))⟩
  case rdMoves =>
    rw [State.capRdWrite_moves hpend hwrap hfrom hring hfill, State.rearmCapture_rd, State.rearmCapture_rd, State.rd_wr,
      State.rd_wr_ne _ _ _ _ _ _ (.inr (by decide)), State.rd_wr]
    exact ⟨bits_mod_width _ _ _ rfl, bit_mod_width _ _ rfl⟩
  case ledgMoves =>
    obtain ⟨hindex, hwrap⟩ := s.setLedgRd_shows (bit v.toNat 16) (bits v.toNat 15 0)
    rw [State.ledgRdWrite_moves hpend hfill, hindex, hwrap]
    exact ⟨bits_mod_width _ _ _ rfl, bit_mod_width _ _ rfl⟩
  case ledgBad =>
    rw [State.ledgRdWrite_pending hpend]
    exact ⟨State.rd_wr .., State.rd_wr_ne _ _ _ _ _ _ (.inl (by decide))⟩

end Sys2Proof.Machine
end

/-! ### Scope: interval units -/

section
namespace Sys2Proof.Machine

open Sys2Proof

theorem Does.iuX {P R : Nat} {s t : State} (h : Does P R s t) (hius : P.testBit 6 = false) (u : Nat) : t.iu u = s.iu u := by
  rw [State.iu, h.ius hius, State.iu]

/-! #### A measurement begins, or ends at once (R293, R304, R305) -/

/-- The registers of a unit name the owner of its measurement, none of whose attempts has ended. -/
def State.iuOwn (s : State) (u : Nat) (site : Option Nat) : State :=
  (((s.wr F.IU_STAT_REG (ofBool site.isNone) u).wr F.IU_STAT_OWNV (ofBool site.isSome) u).wr F.IU_STAT_OWNER (s.ownerOf site) u).wr
    F.IU_STAT_ATTEMPTS 0 u

section
variable {s : State} {site : Option Nat} {setup : Nat} (u dst tok : Nat)

theorem State.iuStart_ofUsable (h : s.iuUsable site setup = true) : s.iuStart u site setup dst tok =
    (((s.iuOwn u site).setIu u (s.iuFresh site setup dst tok)).wr F.IU_STAT_STATE 1 u).markSources u
      (s.iuFresh site setup dst tok) true := if_pos h

theorem State.iuStart_ofUnusable (h : s.iuUsable site setup = false) : s.iuStart u site setup dst tok =
    (((s.iuOwn u site).setIu u { s.iuFresh site setup dst tok with busy := false }).iuWrite u
      { s.iuFresh site setup dst tok with
        flags := withBit (withBit (s.iuFresh site setup dst tok).flags fBadSetup) fNoValid }).wr F.IU_STAT_STATE 2 u :=
  if_neg (Bool.eq_false_iff.1 h)

theorem State.iuStart_runs (h : s.iuUsable site setup = true) : s.iuRuns (s.iuStart u site setup dst tok) u site setup dst tok := by
  rw [State.iuStart_ofUsable u dst tok h]
  generalize hv : ((s.iuOwn u site).setIu u (s.iuFresh site setup dst tok)).wr F.IU_STAT_STATE 1 u = v
  have hmark := v.markSources_does u (s.iuFresh site setup dst tok) true
  have hiu : v.iu u = s.iuFresh site setup dst tok := by rw [← hv, State.iu_wr, State.iu_setIu]
  have hown : ofBool site.isSome % 2 ^ F.IU_STAT_OWNV.width = ofBool site.isSome := by cases site <;> rfl
  rw [State.iuRuns, hmark.iuX (by decide), hiu]
  refine ⟨?state, ?ownv, ?attempts, rfl, rfl, rfl, rfl, rfl, rfl, rfl, rfl⟩ <;> rw [hmark.rd _ _ _ (by decide), ← hv]
  case state => exact State.rd_wr ..
  case ownv =>
    rw [State.rd_wr_ne _ _ _ _ _ _ (.inr (by decide)), State.rd_setIu, State.iuOwn, State.rd_wr_ne _ _ _ _ _ _ (.inr (by decide)),
      State.rd_wr_ne _ _ _ _ _ _ (.inr (by decide)), State.rd_wr, hown]
  case attempts =>
    rw [State.rd_wr_ne _ _ _ _ _ _ (.inr (by decide)), State.rd_setIu, State.iuOwn]
    exact State.rd_wr ..

theorem State.iuStart_refused (h : s.iuUsable site setup = false) :
    (s.iuStart u site setup dst tok).rd F.IU_STAT_STATE u = 2 ∧ ((s.iuStart u site setup dst tok).iu u).busy = false := by
  rw [State.iuStart_ofUnusable u dst tok h, State.iu_wr, (State.iuWrite_does ..).iuX (by decide), State.iu_setIu]
  exact ⟨State.rd_wr .., rfl⟩

end

/-- The head of the queue goes to the unit that is free. -/
theorem exec_unitGrant {s : State} {r : IuReq} {rest : List IuReq} {v : Nat} (hq : s.iuq = r :: rest)
    (hv : (List.range 64).find? s.iuFree = some v) :
    exec .unitGrant s = .next ({ s with iuq := rest }.iuStart v (some r.site) r.setup r.dst r.tok) := by
  change execUnitGrant s = _
  rw [execUnitGrant, hq, hv]

/-! #### Attempts (R294 to R299) -/

/-- In INTERVAL_SIGNED the first start and the first stop make the sample (R294). -/
theorem IuX.attempt_signed {x : IuX} {p q : Stamp} (hmode : x.e.mode = 0) (hp : x.starts.head? = some p)
    (hq : x.stops.head? = some q) : x.attempt = some ⟨later p q, ahead q p, 0, none, []⟩ := by
  obtain ⟨starts, hstarts⟩ := List.head?_eq_some_iff.1 hp
  obtain ⟨stops, hstops⟩ := List.head?_eq_some_iff.1 hq
  simp [IuX.attempt, hmode, hstarts, hstops]

/-- In PERIOD and FREQUENCY the last edge of the cycles after the anchor makes the sample, and is the next anchor (R296). -/
theorem IuX.attempt_period {x : IuX} {p q : Stamp} (hmode : 2 ≤ x.e.mode) (hp : x.anchor = some p)
    (hq : x.starts[x.e.cycM1]? = some q) : x.attempt =
      some ⟨q, roundDiv (ahead q p) (x.e.cycM1 + 1), 0, some q, x.starts.drop (x.e.cycM1 + 1)⟩ := by
  simp [IuX.attempt, hmode, hp, hq]

/-- The stops that an attempt has ignored are counted (R295). -/
def IuX.ordered (x : IuX) (a : AttemptEnd) : IuX :=
  { x with nrej := x.nrej + a.early, flags := if a.early > 0 then withBit x.flags fOrder else x.flags }

/-- An attempt that missed an edge is rejected (R299). -/
def IuX.rejected (x : IuX) : IuX := { x with nrej := x.nrej + 1, flags := withBit x.flags fDead }

/-- A unit one of whose attempts has ended within its limit. -/
def IuX.ended (x : IuX) (a : AttemptEnd) : IuX :=
  if x.missed then (x.ordered a).rejected.nextAttempt a.stamp none []
  else ((x.ordered a).take1 a.sample).nextAttempt a.stamp a.anchor a.starts

/-- A unit one of whose attempts has timed out (R298). -/
def IuX.timedOut (x : IuX) : IuX :=
  IuX.nextAttempt { x with
    ntmo := x.ntmo + 1, nrej := x.nrej + x.early
    flags := withBit (if x.early > 0 then withBit x.flags fOrder else x.flags) fTmo } x.limit none []

theorem IuX.ended_ofMissed {x : IuX} (h : x.missed = true) (a : AttemptEnd) :
    x.ended a = (x.ordered a).rejected.nextAttempt a.stamp none [] := if_pos h

theorem IuX.ended_ofSeen {x : IuX} (h : x.missed = false) (a : AttemptEnd) :
    x.ended a = ((x.ordered a).take1 a.sample).nextAttempt a.stamp a.anchor a.starts := if_neg (Bool.eq_false_iff.1 h)

/-- A valid sample goes into the statistics (R300). -/
theorem IuX.ended_counts {x : IuX} (h : x.missed = false) (a : AttemptEnd) : (x.ended a).nvalid = x.nvalid + 1 ∧
    (x.ended a).sum = x.sum + a.sample ∧ (x.ended a).sumsq = x.sumsq + a.sample * a.sample ∧
    (x.nvalid ≠ 0 → (x.ended a).lo = min x.lo a.sample ∧ (x.ended a).hi = max x.hi a.sample) ∧
    (x.ended a).nrej = x.nrej + a.early := by
  rw [IuX.ended_ofSeen h]
  exact ⟨rfl, rfl, rfl, fun hsome => ⟨if_neg hsome, if_neg hsome⟩, rfl⟩

/-- A rejected attempt gives no sample (R299). -/
theorem IuX.ended_rejects {x : IuX} (h : x.missed = true) (a : AttemptEnd) : (x.ended a).nvalid = x.nvalid ∧
    (x.ended a).sum = x.sum ∧ (x.ended a).nrej = x.nrej + a.early + 1 ∧ hasBit (x.ended a).flags fDead = true := by
  simp only [IuX.ended_ofMissed h, IuX.nextAttempt, IuX.rejected, IuX.ordered, hasBit_withBit, and_self]

theorem IuX.timedOut_counts (x : IuX) : x.timedOut.ntmo = x.ntmo + 1 ∧ x.timedOut.nrej = x.nrej + x.early ∧
    x.timedOut.nvalid = x.nvalid ∧ x.timedOut.sum = x.sum ∧ hasBit x.timedOut.flags fTmo = true := by
  simp only [IuX.timedOut, IuX.nextAttempt, hasBit_withBit, and_self]

/-- A unit has taken the end of an attempt, and ATTEMPTS has counted it. -/
structure State.TookAttempt (s t : State) (u : Nat) (x : IuX) : Prop where
  iu : t.iu u = x
  count : t.rd F.IU_STAT_ATTEMPTS u = min (2 ^ F.IU_STAT_ATTEMPTS.width - 1) (s.rd F.IU_STAT_ATTEMPTS u + 1)

theorem State.countAttempt_took (s : State) (u : Nat) (x : IuX) : s.TookAttempt ((s.setIu u x).countAttempt u) u x where
  iu := by rw [State.countAttempt, State.iu_bump, State.iu_setIu]
  count := State.rd_bump ..

theorem State.TookAttempt.over {s t : State} {u : Nat} {x : IuX} {st : Stamp} {anchor : Option Stamp} {starts : List Stamp}
    (h : s.TookAttempt t u (x.nextAttempt st anchor starts)) (hdone : x.done = (s.iu u).done) : s.attemptOver t u st := by
  rw [State.attemptOver, h.iu, ← hdone]
  exact ⟨rfl, rfl, rfl, rfl, rfl, h.count⟩

theorem State.TookAttempt.over_ended {s t : State} {u : Nat} {a : AttemptEnd} (h : s.TookAttempt t u ((s.iu u).ended a)) :
    s.attemptOver t u a.stamp := by
  cases hm : (s.iu u).missed with
  | true => exact State.TookAttempt.over (x := ((s.iu u).ordered a).rejected) (IuX.ended_ofMissed hm a ▸ h) rfl
  | false => exact State.TookAttempt.over (x := ((s.iu u).ordered a).take1 a.sample) (IuX.ended_ofSeen hm a ▸ h) rfl

section
variable {s : State} {u : UnitId} (hgoes : (s.iu u).attempting = true)
include hgoes

theorem attemptEnd_takes {a : AttemptEnd} (ha : (s.iu u).attempt = some a) (hnow : reached (tickOf a.stamp) s.now = true)
    (hlimit : ahead (tickOf a.stamp) (s.iu u).limit ≤ 0) :
    ∃ t, exec (.attemptEnd u) s = .next t ∧ s.TookAttempt t u ((s.iu u).ended a) := by
  have go : ¬(!(s.iu u).attempting || !reached (tickOf a.stamp) s.now ||
      decide (ahead (tickOf a.stamp) (s.iu u).limit > 0)) = true := by
    simp [hgoes, hnow, hlimit]
  have htook := s.countAttempt_took u ((s.iu u).ended a)
  have hexec : exec (.attemptEnd u) s = .next (if (s.iu u).missed then (s.setIu u ((s.iu u).ended a)).countAttempt u
      else ((s.setIu u ((s.iu u).ended a)).countAttempt u).pulse 0x3C u) := by
    change execAttemptEnd u s = _
    simp only [execAttemptEnd, ha]
    exact congrArg Host.Outcome.next (if_neg go)
  refine ⟨_, hexec, ?_⟩
  split
  · exact htook
  · exact ⟨htook.iu, htook.count⟩

theorem attemptTimeout_takes (hlate : ∀ a, (s.iu u).attempt = some a → ahead (tickOf a.stamp) (s.iu u).limit > 0)
    (hnow : reached (s.iu u).limit s.now = true) :
    ∃ t, exec (.attemptTimeout u) s = .next t ∧ s.TookAttempt t u (s.iu u).timedOut := by
  refine ⟨_, ?_, s.countAttempt_took u _⟩
  change execAttemptTimeout u s = _
  unfold execAttemptTimeout
  extract_lets v x intime
  have hintime : intime = false := by
    unfold intime
    split
    · next a ha => exact decide_eq_false (Int.not_le.2 (hlate a ha))
    · rfl
  exact congrArg Host.Outcome.next (if_neg (by simp [hintime, v, x, hgoes, hnow]))

end

/-! #### The result (R300 to R303) -/

/-- A unit's measurement with the flag of a result that saturated (R301). -/
def IuX.saturated (x : IuX) : IuX := if x.value.2 ∧ !x.reg then { x with flags := withBit x.flags fSat } else x

theorem IuX.saturated_last (x : IuX) : x.saturated.last = x.last := by
  unfold IuX.saturated
  split <;> rfl

theorem IuX.saturated_nvalid (x : IuX) : x.saturated.nvalid = x.nvalid := by
  unfold IuX.saturated
  split <;> rfl

/-- The low half of a block's counts is the number of valid samples (R302). -/
theorem IuX.loWord_block_counts (x : IuX) (unit pod site : Nat) : loWord ((x.block unit pod site).getD 5 0) = x.nvalid % 2 ^ 32 := by
  simp only [IuX.block, List.getD_cons_succ, List.getD_cons_zero, loWord]
  omega

/-- Word k of a result block of 64-bit words (R302, R310). -/
def resWord (blk : List Nat) (k : Nat) : Nat := if k % 2 = 0 then loWord (blk.getD (k / 2) 0) else hiWord (blk.getD (k / 2) 0)

theorem resWord_even (blk : List Nat) (i : Nat) : resWord blk (2 * i) = loWord (blk.getD i 0) := by
  rw [resWord, Nat.mul_mod_right, if_pos rfl, Nat.mul_div_cancel_left _ (by decide)]

theorem resWord_lt (blk : List Nat) (k : Nat) : resWord blk k < 2 ^ 32 := by
  unfold resWord
  split <;> exact Nat.mod_lt _ (by decide)

/-- The words of a result block in a unit's registers. -/
def State.wrResult (s : State) (u : Nat) (blk : List Nat) : State :=
  (List.range 12).foldl (fun s k => s.wr F.IU_RES_RES (resWord blk k) u k) s

theorem State.rd_wrResult (s : State) (u : Nat) (blk : List Nat) {k : Nat} (hk : k < 12) :
    (s.wrResult u blk).rd F.IU_RES_RES u k = resWord blk k :=
  fold_reaches (g := fun t k => t.wr F.IU_RES_RES (resWord blk k) u k) (P := fun t => t.rd F.IU_RES_RES u k = resWord blk k) (List.mem_range.2 hk)
    (fun _ => (State.rd_wr ..).trans (Nat.mod_eq_of_lt (resWord_lt blk k)))
    (fun _ _ _ hne h => (State.rd_wr_inst _ _ _ _ _ _ _ (.inr hne.symm)).trans h) s

/-- The unit's registers hold the block: V[DST] and the event record do not touch them. -/
theorem State.rd_iuWrite (s : State) (u : Nat) (x : IuX) {k : Nat} (hk : k < 12) :
    (s.iuWrite u x).rd F.IU_RES_RES u k = resWord (x.saturated.block u (s.lead x.saturated.site) x.saturated.site) k := by
  rw [← s.rd_wrResult u _ hk]
  have hrest : Does 0x1800008 0x6000000000000000000000000000000000000000
      (s.wrResult u (x.saturated.block u (s.lead x.saturated.site) x.saturated.site)) (s.iuWrite u x) := by
    unfold State.iuWrite
    extract_lets v y blk t w
    have hw : Does 0x1800008 0x6000000000000000000000000000000000000000 t w :=
      Does.ite (fun _ => .refl ..) fun _ => (State.measResult_does ..).mono (by decide) (by decide)
    exact Does.ite (fun _ => Does.step (State.record_does ..) (by decide) (by decide) hw) fun _ => hw
  exact hrest.rd _ _ _ (by decide)

/-- The block begins with the stamp of the last attempt. -/
theorem State.rd_iuWrite_last (s : State) (u : Nat) (x : IuX) :
    (s.iuWrite u x).rd F.IU_RES_RES u 0 = loWord x.last.toNat ∧ (s.iuWrite u x).rd F.IU_RES_RES u 1 = hiWord x.last.toNat := by
  rw [State.rd_iuWrite _ _ _ (by decide), State.rd_iuWrite _ _ _ (by decide), ← x.saturated_last]
  exact ⟨rfl, rfl⟩

/-- Word 10 of the block is the number of valid samples. -/
theorem State.rd_iuWrite_nvalid (s : State) (u : Nat) (x : IuX) : (s.iuWrite u x).rd F.IU_RES_RES u 10 = x.nvalid % 2 ^ 32 := by
  rw [State.rd_iuWrite _ _ _ (by decide), ← x.saturated_nvalid]
  exact (resWord_even _ 5).trans (IuX.loWord_block_counts ..)

/-- A unit whose last attempt has ended, marked where no sample was valid (R300). -/
def IuX.closed (x : IuX) : IuX := if x.nvalid = 0 then { x with flags := withBit x.flags fNoValid } else x

theorem IuX.closed_last (x : IuX) : x.closed.last = x.last := by
  unfold IuX.closed
  split <;> rfl

theorem IuX.closed_nvalid (x : IuX) : x.closed.nvalid = x.nvalid := by
  unfold IuX.closed
  split <;> rfl

theorem exec_iuResult {s : State} {u : UnitId} (hbusy : (s.iu u).busy = true) (hdone : (s.iu u).e.nM1 + 1 ≤ (s.iu u).done) :
    exec (.iuResult u) s = .next ((((s.setIu u { (s.iu u).closed with busy := false }).markSources u (s.iu u).closed false).iuWrite u
      (s.iu u).closed).wr F.IU_STAT_STATE 2 u) :=
  congrArg Host.Outcome.next (if_neg (not_or.2 ⟨by rw [hbusy]; decide, Nat.not_lt.2 hdone⟩))

theorem iuResult_shows {s : State} {u : UnitId} (hbusy : (s.iu u).busy = true) (hdone : (s.iu u).e.nM1 + 1 ≤ (s.iu u).done) :
    ∃ t, exec (.iuResult u) s = .next t ∧ (t.iu u).busy = false ∧ t.rd F.IU_STAT_STATE u = 2 ∧
      t.rd F.IU_RES_RES u 0 = loWord (s.iu u).last.toNat ∧ t.rd F.IU_RES_RES u 1 = hiWord (s.iu u).last.toNat ∧
      t.rd F.IU_RES_RES u 10 = (s.iu u).nvalid % 2 ^ 32 := by
  refine ⟨_, exec_iuResult hbusy hdone, ?_, State.rd_wr .., ?_⟩
  · rw [State.iu_wr, (State.iuWrite_does ..).iuX (by decide), (State.markSources_does ..).iuX (by decide), State.iu_setIu]
  · simp (disch := decide) only [State.rd_wr_ne]
    obtain ⟨hlow, hhigh⟩ := State.rd_iuWrite_last _ u (s.iu u).closed
    rw [hlow, hhigh, State.rd_iuWrite_nvalid, IuX.closed_last, IuX.closed_nvalid]
    exact ⟨rfl, rfl, rfl⟩

/-! #### IU_CTL (R305, R508) -/

theorem State.iuGo_ofSafe {s : State} (h : s.safe = true) (u : Nat) : s.iuGo u = s.wr F.FLT_STAT_SAFEWR 1 := if_pos h

theorem State.iuGo_starts {s : State} {u : Nat} (hsafe : s.safe = false) (hrsv : s.on F.IU_CTL_RSV u = true)
    (hidle : s.rd F.IU_STAT_STATE u ≠ 1) : s.iuGo u = s.iuStart u none (s.rd F.IU_CTL_SETUP u) 0 0 := by
  rw [State.iuGo, if_neg (Bool.eq_false_iff.1 hsafe), if_pos (by simp [hrsv, hidle])]

theorem State.iuAbort_drops {s : State} {u : Nat} (hbusy : (s.iu u).busy = true) (hreg : (s.iu u).reg = true)
    (hgoes : (s.iu u).done < (s.iu u).e.nM1 + 1) : s.iuAbort u = s.iuDrop u :=
  if_pos (by simp [hbusy, hreg, hgoes])

/-- An ABORT after the last attempt leaves the result to come. -/
theorem State.iuAbort_late {s : State} {u : Nat} (hdone : (s.iu u).done = (s.iu u).e.nM1 + 1) : s.iuAbort u = s :=
  if_neg (by simp [hdone])

theorem State.iuDrop_idle (s : State) (u : Nat) : (s.iuDrop u).rd F.IU_STAT_STATE u = 0 ∧ ((s.iuDrop u).iu u).busy = false := by
  rw [State.iuDrop, State.iu_wr, (State.markSources_does ..).iuX (by decide), State.iu_setIu]
  exact ⟨State.rd_wr .., rfl⟩

/-- Settles O35: grants and GO by what a start leaves, attempts by how they end, the result by its block. -/
theorem intervalUnitsMeasure : Obligations.IntervalUnitsMeasure := by
  unfold Obligations.IntervalUnitsMeasure
  intro s u
  refine ⟨?grant, ?ended, ?timeout, iuResult_shows, fun hsafe => ⟨_, rfl, ?_⟩, fun hsafe hrsv hidle husable => ⟨_, rfl, ?_⟩,
    fun hbusy hreg hgoes => ⟨_, rfl, ?_⟩, fun hdone => ⟨_, rfl, State.iuAbort_late hdone⟩⟩
  case grant =>
    intro r rest v hq hv
    refine ⟨_, exec_unitGrant hq hv, (State.iuStart_does ..).iuq (by decide), fun h => ?_, fun h => ?_⟩
    · exact State.iuStart_runs (s := { s with iuq := rest }) v r.dst r.tok h
    · exact State.iuStart_refused (s := { s with iuq := rest }) v r.dst r.tok h
  case ended =>
    intro hgoes a ha hnow hlimit
    obtain ⟨t, ht, htook⟩ := attemptEnd_takes hgoes ha hnow hlimit
    refine ⟨t, ht, htook.over_ended, fun hseen => ?_, fun hmissed => ?_, fun p q hmode hp hq => ?signed,
      fun p q hmode hp hq => ?period⟩
    · rw [htook.iu]
      exact IuX.ended_counts hseen a
    · rw [htook.iu]
      exact IuX.ended_rejects hmissed a
    case signed =>
      obtain rfl := Option.some.inj (ha.symm.trans (IuX.attempt_signed hmode hp hq))
      rfl
    case period =>
      obtain rfl := Option.some.inj (ha.symm.trans (IuX.attempt_period hmode hp hq))
      exact ⟨rfl, rfl, fun hseen => by rw [htook.iu, IuX.ended_ofSeen hseen]; rfl⟩
  case timeout =>
    intro hgoes hlate hnow
    obtain ⟨t, ht, htook⟩ := attemptTimeout_takes hgoes hlate hnow
    refine ⟨t, ht, htook.over rfl, ?_⟩
    rw [htook.iu]
    exact IuX.timedOut_counts _
  · rw [State.iuGo_ofSafe hsafe]
    exact ⟨State.rd_wr .., rfl⟩
  · rw [State.iuGo_starts hsafe hrsv hidle]
    exact State.iuStart_runs u 0 0 husable
  · rw [State.iuAbort_drops hbusy hreg hgoes]
    exact s.iuDrop_idle u

end Sys2Proof.Machine
end

/-! ### Scope: reads of equal register files, fields that operations keep, the record of an event -/

section
namespace Sys2Proof.Machine

open Sys2Proof

theorem State.rd_of {s t : State} (h : t.regs = s.regs) (f : Fld) (i j : Nat) : t.rd f i j = s.rd f i j := by
  unfold State.rd
  rw [h]

theorem State.on_of {s t : State} (h : t.regs = s.regs) (f : Fld) (i j : Nat) : t.on f i j = s.on f i j :=
  congrArg (· == 1) (State.rd_of h f i j)

/-- Some fields have, in each of their units, one value in two states. -/
structure State.Keeps (s : State) (fs : List Fld) (t : State) : Prop where
  rd : ∀ f ∈ fs, ∀ i, t.rd f i = s.rd f i

section Keeps

variable {fs : List Fld}

theorem State.Keeps.refl (s : State) : s.Keeps fs s := ⟨fun _ _ _ => rfl⟩

theorem State.Keeps.trans {s t u : State} (h : s.Keeps fs t) (h2 : t.Keeps fs u) : s.Keeps fs u :=
  ⟨fun f hf i => (h2.rd f hf i).trans (h.rd f hf i)⟩

theorem State.Keeps.on {s t : State} (h : s.Keeps fs t) {f : Fld} (hf : f ∈ fs) (i : Nat) : t.on f i = s.on f i :=
  congrArg (· == 1) (h.rd f hf i)

theorem State.Keeps.foldl {α : Type} {g : State → α → State} (hg : ∀ (s : State) a, s.Keeps fs (g s a)) (l : List α) (s : State) :
    s.Keeps fs (l.foldl g s) :=
  ⟨fun f hf i => fold_keeps g (fun s => s.rd f i) (fun s a => (hg s a).rd f hf i) l s⟩

theorem State.Keeps.ite {s a b : State} {c : Prop} [Decidable c] (ha : s.Keeps fs a) (hb : s.Keeps fs b) :
    s.Keeps fs (if c then a else b) := by
  split
  · exact ha
  · exact hb

/-- An operation keeps the fields of the registers that it does not touch. -/
theorem Does.keeps {F R : Nat} {s t : State} (h : Does F R s t) (hR : ∀ f ∈ fs, R.testBit f.reg.ctorIdx = false) : s.Keeps fs t :=
  ⟨fun f hf i => h.rd f i 0 (hR f hf)⟩

/-- A write of another field keeps some fields. -/
theorem State.wr_keeps (s : State) {f : Fld} (v i : Nat) (h : ∀ g ∈ fs, f.reg ≠ g.reg ∨ f.lo ≠ g.lo) : s.Keeps fs (s.wr f v i) :=
  ⟨fun g hg _ => State.rd_wr_ne _ _ _ _ _ _ (h g hg)⟩

end Keeps

theorem State.emit_joins (s : State) {r : EvRec} {ring : Nat} (h : r.ring = some ring) : r ∈ (s.emit r).evq := by
  rw [State.emit, h]
  exact List.mem_append_right _ (List.mem_singleton.2 rfl)

theorem State.raise_evq (s : State) (src info : Nat) (payload : List Nat) (stamp : Stamp) :
    (s.raise src info payload stamp).evq = (s.emit (EvRec.mk src 1 stamp (s.seqs.at 0 src) info payload (s.routeOf src))).evq := rfl

/-- The record of a raised event waits for its ring (R397). -/
theorem State.raise_raised (s : State) (src info : Nat) (payload : List Nat) (stamp : Stamp) :
    s.raised (s.raise src info payload stamp) src info stamp := by
  intro ring h
  rw [State.raise_evq]
  exact List.any_eq_true.2 ⟨_, s.emit_joins (r := EvRec.mk src 1 stamp (s.seqs.at 0 src) info payload (s.routeOf src)) h, by simp [h]⟩

end Sys2Proof.Machine
end

/-! ### Scope: writes to the aperture -/

section
namespace Sys2Proof.Machine

open Sys2Proof

/-- A division by a stride, 0 where there is none (R579). -/
theorem stride_div_add (d s : Nat) : s * (if s = 0 then 0 else d / s) + (if s = 0 then d else d % s) = d := by
  split
  · omega
  · exact Nat.div_add_mod d s

/-- A register's instances lie at their offsets (R579). -/
theorem Reg.at?_offset {r : Reg} {off i j : Nat} (h : r.at? off = some (i, j)) :
    (RegAt.mk r i j).offset = off ∧ i < r.place.n1 ∧ j < r.place.n2 := by
  simp only [Reg.at?, Option.ite_none_left_eq_some, Option.ite_none_right_eq_some, Option.some.injEq, Prod.mk.injEq] at h
  obtain ⟨hb, ⟨hi, hj, hz⟩, rfl, rfl⟩ := h
  refine ⟨?_, hi, hj⟩
  have h1 := stride_div_add (off - r.place.base) r.place.s1
  have h2 := stride_div_add (if r.place.s1 = 0 then off - r.place.base else (off - r.place.base) % r.place.s1) r.place.s2
  simp only [RegAt.offset]
  omega

/-- Every register lies below the aperture in each of its units (R578). -/
theorem Reg.below_aperture (r : Reg) :
    r.place.base + r.place.s1 * (r.place.n1 - 1) + r.place.s2 * (r.place.n2 - 1) < 0x100000 := by
  cases r <;> decide

theorem decodeOffset_aperture {off : Nat} (h : 0x100000 ≤ off) : decodeOffset off = none := by
  refine List.findSome?_eq_none_iff.2 fun r _ => Option.map_eq_none_iff.2 ?_
  by_contra hne
  obtain ⟨⟨i, j⟩, hij⟩ := Option.ne_none_iff_exists'.1 hne
  obtain ⟨ho, hi, hj⟩ := Reg.at?_offset hij
  have hlim := r.below_aperture
  have h1 := Nat.mul_le_mul_left r.place.s1 (Nat.le_sub_one_of_lt hi)
  have h2 := Nat.mul_le_mul_left r.place.s2 (Nat.le_sub_one_of_lt hj)
  simp only [RegAt.offset] at ho
  omega

/-- The aperture is the last block of the window, which the parsnip does not serve. -/
theorem parsnipBlock_aperture {off : Nat} (h : 0x100000 ≤ off) : parsnipBlock (blockOf off).1 = false := by
  have hb (b : Nat) (hb : b ≤ 0x100000) : b ≤ off := hb.trans h
  have : (blockOf off).1 = 23 := by
    simp [blockOf, hb]
  rw [this]
  rfl

/-- An access to the aperture, in DEEP, asks for a wake; a write of it is answered and does nothing else (R467, R580). -/
theorem State.access_aperture {s : State} {off : Nat} (h : 0x100000 ≤ off)
    (hstage : ¬(s.rd F.RST_STAT_STAGE < 3 ∨ s.rd F.RST_STAT_STAGE = 15)) (from_ : XFrom) (v : Nat) :
    s.access from_ true off v = (if s.power = 4 then s.askWake 0 else s).answer from_ true 0 0 := by
  simp [State.access, decodeOffset_aperture h, hstage, parsnipBlock_aperture h]

theorem State.svp_askWake (s : State) (cause : Nat) : (s.askWake cause).svp = s.svp := by
  unfold State.askWake
  split <;> rfl

/-- Settles O32: no register lies in the aperture, so a write of it is only answered. -/
theorem apertureWritesDoNothing : Obligations.ApertureWritesDoNothing := by
  unfold Obligations.ApertureWritesDoNothing
  have stage {s : State} (h3 : 3 ≤ s.rd F.RST_STAT_STAGE) (h15 : s.rd F.RST_STAT_STAGE ≠ 15) :
      ¬(s.rd F.RST_STAT_STAGE < 3 ∨ s.rd F.RST_STAT_STAGE = 15) := by omega
  refine ⟨fun s dev offset value hd ho h4 ha h3 h15 => ?host, fun s dev offset value hd ho h4 hp => ?awake,
    fun s off v tag ho h3 h15 => ?fabric, fun s off v ho h3 h15 => ?svp⟩
  case host =>
    rw [exec_registerWrite, State.hostAccess_own ⟨ha, h3, h15⟩ hd h4, State.access_aperture ho (stage h3 h15)]
    rfl
  case awake =>
    rw [exec_registerWrite]
    by_cases hw : s.anchor = true ∧ 3 ≤ s.rd F.RST_STAT_STAGE ∧ s.rd F.RST_STAT_STAGE ≠ 15
    · obtain ⟨ha, h3, h15⟩ := hw
      rw [State.hostAccess_own ⟨ha, h3, h15⟩ hd h4, State.access_aperture ho (stage h3 h15), if_neg hp]
      rfl
    · have hclosed : s.anchor = false ∨ s.rd F.RST_STAT_STAGE < 3 ∨ s.rd F.RST_STAT_STAGE = 15 := by
        cases ha : s.anchor
        · exact .inl rfl
        · right
          simp only [ha, true_and] at hw
          omega
      rw [State.hostAccess, if_pos hclosed]
  case fabric =>
    rw [State.access_aperture ho (stage h3 h15)]
    rfl
  case svp =>
    rw [State.access_aperture ho (stage h3 h15)]
    split
    · rw [← s.svp_askWake 0]
      rfl
    · rfl

end Sys2Proof.Machine
end

/-! ### Scope: the measurements of the PMUs -/

section
namespace Sys2Proof.Machine

open Sys2Proof

section Phases

variable {s : State} {q : PinId}

/-- A conversion of a pin in its measurement: what the pin holds once it has ended at t (R318, R319, R323). -/
def PmuX.converted (p : PmuX) (e : PmuSetup) (r : Int) (flags : Nat) (corr : Int) (t : Stamp) : PmuX :=
  let x := { p with samples := p.samples ++ [ofSigned 33 r], taken := p.taken + 1, convEnd := some t, lastEnd := t, trigNext := none
                    flags := flags, corr := corr }
  if x.taken ≥ e.nM1 + 1 then x.toDisconnect e.keep t else x

theorem PmuX.converted_shows (p : PmuX) (e : PmuSetup) (r : Int) (flags : Nat) (corr : Int) (t : Stamp) :
    let x := p.converted e r flags corr t
    x.taken = p.taken + 1 ∧ x.lastEnd = t ∧ x.trigNext = none ∧ x.samples = p.samples ++ [ofSigned 33 r] := by
  unfold PmuX.converted
  dsimp only
  split <;> exact ⟨rfl, rfl, rfl, rfl⟩

theorem PmuX.converted_more {p : PmuX} {e : PmuSetup} (h : p.taken < e.nM1) (r : Int) (flags : Nat) (corr : Int) (t : Stamp) :
    (p.converted e r flags corr t).phase = p.phase := by
  rw [PmuX.converted, if_neg (Nat.not_le.2 (Nat.succ_lt_succ h))]

theorem PmuX.converted_last {p : PmuX} {e : PmuSetup} (h : e.nM1 ≤ p.taken) (r : Int) (flags : Nat) (corr : Int) (t : Stamp) :
    (p.converted e r flags corr t).phase = 4 ∧ (p.converted e r flags corr t).until_ = t + (if e.keep then 0 else ticks 1500) := by
  rw [PmuX.converted, if_pos (Nat.succ_le_succ h)]
  refine ⟨rfl, ?_⟩
  cases hk : e.keep with
  | true => simp [PmuX.toDisconnect]
  | false => simp [PmuX.toDisconnect, after]

/-- The pin of an operation that counts an event shows what was put there. -/
theorem State.pin_setPin_pulse (s : State) (q : Nat) (x : PinX) (code unit : Nat) :
    ((s.setPin q x).pulse code unit).pin q = x :=
  (Does.pinX (State.pulse_does ..) (by decide) q).trans (State.pin_setPin ..)

/-- A conversion whose time has come ends; a voltage without a unit change is sampled as it was measured (R315, R318, R323). -/
theorem exec_conversion {e : PmuSetup} {t0 : Stamp} (he : e = (s.pmuEntry (s.pin q).pmu.setup).getD {}) (value : Int) (clamp ovr : Bool)
    (hph : (s.pin q).pmu.phase = 3)
    (ht0 : (if e.trig = 0 then some ((s.pin q).pmu.convEnd.getD (s.pin q).pmu.trigT) else (s.pin q).pmu.trigNext) = some t0)
    (hend : reached (after t0 (convTicks e.conv)) s.now = true) :
    ∃ r flags corr, exec (.conversion q value clamp ovr) s = .next ((s.setPin q { s.pin q with
        pmu := (s.pin q).pmu.converted e r flags corr (after t0 (convTicks e.conv)) }).pulse 0x3D q) ∧
      (e.mode = 0 → e.iunit = false → value.natAbs ≤ 2147483647 → r = value) := by
  subst he
  refine ⟨?r, ?flags, ?corr, ?runs, fun hmode hunit hval => ?reading⟩
  case runs =>
    change execConversion q value clamp ovr s = _
    unfold execConversion
    dsimp only
    rw [ht0]
    dsimp only
    rw [if_neg (by simp [hph, hend])]
    rfl
  case reading =>
    simp only [hmode, hunit, if_true, Bool.false_eq_true, if_false, sat32]
    rw [if_neg (by omega), if_neg (by omega)]

theorem exec_connectEnd (hph : (s.pin q).pmu.phase = 1) (hend : reached (s.pin q).pmu.until_ s.now = true) :
    exec (.connectEnd q) s = .next (s.setPin q { s.pin q with pmu := { (s.pin q).pmu with
      phase := 2, until_ := after (s.pin q).pmu.until_ (((s.pmuEntry (s.pin q).pmu.setup).getD {}).settle * tUs) } }) :=
  congrArg Host.Outcome.next (if_neg (by simp [hph, hend]))

theorem exec_settleEnd (hph : (s.pin q).pmu.phase = 2) (hend : reached (s.pin q).pmu.until_ s.now = true) :
    exec (.settleEnd q) s = .next (s.setPin q { s.pin q with pmu := { (s.pin q).pmu with phase := 3, trigT := (s.pin q).pmu.until_ } }) :=
  congrArg Host.Outcome.next (if_neg (by simp [hph, hend]))

theorem exec_triggerTimeout {e : PmuSetup} (he : e = (s.pmuEntry (s.pin q).pmu.setup).getD {}) (hph : (s.pin q).pmu.phase = 3)
    (htrig : e.trig ≠ 0) (hnext : (s.pin q).pmu.trigNext = none)
    (hend : reached (after ((s.pin q).pmu.convEnd.getD (s.pin q).pmu.trigT) ((e.tmo + 1) * 64)) s.now = true) :
    exec (.triggerTimeout q) s = .next (s.setPin q { s.pin q with pmu := { (s.pin q).pmu.toDisconnect e.keep
      (after ((s.pin q).pmu.convEnd.getD (s.pin q).pmu.trigT) ((e.tmo + 1) * 64)) with flags := withBit (s.pin q).pmu.flags pTmo } }) := by
  subst he
  exact congrArg Host.Outcome.next (if_neg (by simp [hph, htrig, hnext, hend]))

end Phases

/-! #### The end of a measurement (R318, R320) -/

theorem State.pmuOpen_shows (s : State) (q : Nat) : ((s.pmuOpen q).pin q).pmu.phase = 0 ∧ (s.pmuOpen q).rd F.PIN_PMU_STAT_CONN q = 0 := by
  unfold State.pmuOpen
  simp (disch := decide) [State.rd_wr_ne]

/-- The results of one pin: its block, its state, its record (R326). -/
def State.pmuResult (s0 : State) (m : PmuMeas) (s : State) (q : Nat) : State :=
  let blk := s0.pmuBlock m q
  let s := (List.range 8).foldl (fun s k =>
    let w := blk.getD (k / 2) 0
    s.wr F.PIN_PMU_RES_RES (if k % 2 = 0 then loWord w else hiWord w) q k) s
  let s := s.wr F.PIN_PMU_STAT_STATE 2 q
  if (s0.pmuE m).rec_ then s.record q 6 blk (BitVec.ofNat 64 (blk.getD 0 0)) none else s

/-- The measurement leaves the list; its site takes value, tag and fail (R324, R325). -/
def State.pmuDeliver (s0 : State) (m : PmuMeas) (s : State) : State :=
  let s := { s with pmus := s.pmus.filter (·.tok ≠ m.tok), free := s.free + 1024 }
  match m.site with
  | none => s
  | some n =>
    let s := s.measResult n m.dst m.tok (s0.pmuValue m)
    let s := if (s0.pmuE m).ftag ≠ 0 then s.setTag n (s0.pmuE m).ftag (if m.pins.any (fun q => (s0.pin q).pmu.outOf (s0.pmuE m)) then 2 else 1) else s
    if (s0.pmuE m).limfail ∧ m.pins.any (fun q => (s0.pin q).pmu.outOf (s0.pmuE m)) then s.siteFail n m.seq m.vp else s

theorem State.pmuWrite_eq (s : State) (m : PmuMeas) : s.pmuWrite m = s.pmuDeliver m (m.pins.foldl (s.pmuResult m) s) := rfl

/-- One pin's results as the words of its block, its state and at most a record. -/
theorem State.pmuResult_rd (s0 : State) (m : PmuMeas) (s : State) (q p : Nat) :
    (s0.pmuResult m s q).rd F.PIN_PMU_STAT_STATE p = if p = q then 2 else s.rd F.PIN_PMU_STAT_STATE p := by
  have hrec (u : State) (l : List Nat) (t : Stamp) : (u.record q 6 l t none).rd F.PIN_PMU_STAT_STATE p = u.rd F.PIN_PMU_STAT_STATE p :=
    (u.record_does q 6 l t none).rd F.PIN_PMU_STAT_STATE p 0 (by decide)
  unfold State.pmuResult
  extract_lets blk u v
  have hu : u.rd F.PIN_PMU_STAT_STATE p = s.rd F.PIN_PMU_STAT_STATE p :=
    fold_keeps _ (fun (x : State) => x.rd F.PIN_PMU_STAT_STATE p) (fun _ _ => State.rd_wr_ne _ _ _ _ _ _ (by decide)) _ _
  have hv : v.rd F.PIN_PMU_STAT_STATE p = if p = q then 2 else s.rd F.PIN_PMU_STAT_STATE p := by
    split
    case isTrue h => rw [h]; exact State.rd_wr ..
    case isFalse h => rw [← hu]; exact State.rd_wr_inst _ _ _ _ _ _ _ (.inl h)
  split
  · rw [hrec, hv]
  · exact hv

theorem State.pmuDeliver_shows (s0 : State) (m : PmuMeas) (s : State) :
    (s0.pmuDeliver m s).pmus = s.pmus.filter (·.tok ≠ m.tok) ∧
    ∀ p, (s0.pmuDeliver m s).rd F.PIN_PMU_STAT_STATE p = s.rd F.PIN_PMU_STAT_STATE p := by
  have d : Does 0x8 0x73c0000000000000000000000000000000000000 { s with pmus := s.pmus.filter (·.tok ≠ m.tok), free := s.free + 1024 }
      (s0.pmuDeliver m s) := by
    unfold State.pmuDeliver
    split
    · exact .refl ..
    · refine .ite (fun _ => .step (State.siteFail_does ..) (by decide) (by decide) ?_) (fun _ => ?_) <;>
      exact .ite (fun _ => .step (State.setTag_does ..) (by decide) (by decide) (.step (State.measResult_does ..) (by decide) (by decide) (.refl ..)))
        (fun _ => .step (State.measResult_does ..) (by decide) (by decide) (.refl ..))
  exact ⟨d.pmus (by decide), fun p => d.rd F.PIN_PMU_STAT_STATE p 0 (by decide)⟩

theorem State.pmuResult_pmus (s0 : State) (m : PmuMeas) (s : State) (q : Nat) : (s0.pmuResult m s q).pmus = s.pmus := by
  unfold State.pmuResult
  extract_lets blk u v
  have hu : u.pmus = s.pmus := fold_keeps _ State.pmus (fun _ _ => State.wr_pmus ..) _ _
  have hv : v.pmus = s.pmus := (State.wr_pmus ..).trans hu
  split
  · exact ((v.record_does ..).pmus (by decide)).trans hv
  · exact hv

/-- The results of a measurement: every pin is DONE, and the measurement is gone (R320, R323). -/
theorem State.pmuWrite_shows (s : State) (m : PmuMeas) : (s.pmuWrite m).pmus = s.pmus.filter (·.tok ≠ m.tok) ∧
    ∀ p ∈ m.pins, (s.pmuWrite m).rd F.PIN_PMU_STAT_STATE p = 2 := by
  obtain ⟨hpmus, hrd⟩ := s.pmuDeliver_shows m (m.pins.foldl (s.pmuResult m) s)
  rw [State.pmuWrite_eq]
  refine ⟨?_, fun p hp => (hrd p).trans ?_⟩
  · rw [hpmus, fold_keeps _ State.pmus (s.pmuResult_pmus m)]
  · refine fold_attains _ (fun (u : State) q => u.rd F.PIN_PMU_STAT_STATE q) (fun u q => ?_) (fun u q r hr h => ?_) hp s
    · rw [State.pmuResult_rd, if_pos rfl]
    · rw [State.pmuResult_rd, if_neg hr, h]

theorem State.pmuWake_nil {s : State} (h : s.pmus = []) : s.pmuWake = s := by
  unfold State.pmuWake
  rw [h]
  rfl

/-- A measurement of which a pin has ended. -/
def PmuMeas.pinEnds (m : PmuMeas) (q : Nat) : PmuMeas := { m with ended := if m.ended.contains q then m.ended else m.ended ++ [q] }

theorem PmuMeas.contains_pinEnds (m : PmuMeas) (q r : Nat) : (m.pinEnds q).ended.contains r = (r == q || m.ended.contains r) := by
  unfold PmuMeas.pinEnds
  dsimp only
  split
  case isTrue hc =>
    by_cases hr : r = q
    · rw [hr, hc, Bool.or_true]
    · simp [hr]
  case isFalse => simp [Bool.or_comm, beq_eq_decide]

section PinEnded

variable {s : State} {q : Nat} {m : PmuMeas} (hone : s.pmus = [m]) (htok : m.tok = (s.pin q).pmu.tok) (hstarted : m.started = true)
include hone htok hstarted

/-- The one measurement under way notes that a pin has ended. -/
theorem State.pmuPinEnded_one : s.pmuPinEnded q = (let s' := { s with pmus := [m.pinEnds q] }
    if m.pins.all (fun r => (m.pinEnds q).ended.contains r) then (s'.pmuWrite (m.pinEnds q)).pmuWake else s') := by
  have hfind : s.pmus.find? (fun a => a.tok == (s.pin q).pmu.tok && a.started) = some m := by simp [hone, htok, hstarted]
  have hmap : s.pmus.map (fun a => if a.tok = (s.pin q).pmu.tok then m.pinEnds q else a) = [m.pinEnds q] := by simp [hone, htok]
  unfold State.pmuPinEnded
  dsimp only
  rw [hfind]
  exact congrArg (fun l => let s' := { s with pmus := l }
    if m.pins.all (fun r => (m.pinEnds q).ended.contains r) then (s'.pmuWrite (m.pinEnds q)).pmuWake else s') hmap

/-- While another pin has not ended, the measurement goes on (R320). -/
theorem State.pmuPinEnded_more (h : ∃ r ∈ m.pins, r ≠ q ∧ m.ended.contains r = false) :
    s.pmuPinEnded q = { s with pmus := [m.pinEnds q] } := by
  obtain ⟨r, hr, hrq, hnot⟩ := h
  rw [State.pmuPinEnded_one hone htok hstarted]
  refine if_neg fun hall => ?_
  have := List.all_eq_true.1 hall r hr
  rw [PmuMeas.contains_pinEnds, hnot] at this
  simp [hrq] at this

/-- The last pin's end writes the results (R320). -/
theorem State.pmuPinEnded_last (h : ∀ r ∈ m.pins, r = q ∨ m.ended.contains r = true) :
    (s.pmuPinEnded q).pmus = [] ∧ ∀ r ∈ m.pins, (s.pmuPinEnded q).rd F.PIN_PMU_STAT_STATE r = 2 := by
  have hall : (m.pins.all fun r => (m.pinEnds q).ended.contains r) = true := List.all_eq_true.2 fun r hr => by
    rw [PmuMeas.contains_pinEnds]
    exact (h r hr).elim (fun e => by simp [e]) (fun e => by rw [e, Bool.or_true])
  obtain ⟨hpmus, hstate⟩ := ({ s with pmus := [m.pinEnds q] } : State).pmuWrite_shows (m.pinEnds q)
  have hnil : (({ s with pmus := [m.pinEnds q] } : State).pmuWrite (m.pinEnds q)).pmus = [] := hpmus.trans (by simp)
  rw [State.pmuPinEnded_one hone htok hstarted]
  dsimp only
  rw [if_pos hall, State.pmuWake_nil hnil]
  exact ⟨hnil, hstate⟩

end PinEnded

section DisconnectEnd

variable {s : State} {q : PinId}

/-- The path of a pin whose disconnect phase has ended: kept, or opened (R318, R322). -/
def State.pmuLeave (s : State) (q : Nat) (keep : Bool) : State :=
  if keep then (s.setPin q { s.pin q with pmu := { (s.pin q).pmu with phase := 5 } }).wr F.PIN_PMU_STAT_KEPT 1 q else s.pmuOpen q

theorem State.pmuLeave_pmus (s : State) (q : Nat) (keep : Bool) : (s.pmuLeave q keep).pmus = s.pmus := by
  cases keep <;> rfl

theorem State.pmuLeave_tok (s : State) (q : Nat) (keep : Bool) : ((s.pmuLeave q keep).pin q).pmu.tok = (s.pin q).pmu.tok := by
  cases keep with
  | true => simp [State.pmuLeave]
  | false => simp [State.pmuLeave, State.pmuOpen]

theorem State.pmuLeave_shows (s : State) (q : Nat) (keep : Bool) :
    if keep then ((s.pmuLeave q keep).pin q).pmu.phase = 5 ∧ (s.pmuLeave q keep).rd F.PIN_PMU_STAT_KEPT q = 1
    else ((s.pmuLeave q keep).pin q).pmu.phase = 0 ∧ (s.pmuLeave q keep).rd F.PIN_PMU_STAT_CONN q = 0 := by
  cases keep with
  | true => exact ⟨by simp [State.pmuLeave], State.rd_wr ..⟩
  | false => exact s.pmuOpen_shows q

theorem exec_disconnectEnd_measured (hph : (s.pin q).pmu.phase = 4) (hend : reached (s.pin q).pmu.until_ s.now = true)
    (hdisc : (s.pin q).pmu.disc = false) :
    exec (.disconnectEnd q) s = .next ((s.pmuLeave q ((s.pmuEntry (s.pin q).pmu.setup).getD {}).keep).pmuPinEnded q) := by
  refine congrArg Host.Outcome.next ((if_neg (by simp [hph, hend])).trans (if_neg ?_))
  simp [hdisc]

theorem exec_disconnectEnd_disc (hph : (s.pin q).pmu.phase = 4) (hend : reached (s.pin q).pmu.until_ s.now = true)
    (hdisc : (s.pin q).pmu.disc = true) :
    exec (.disconnectEnd q) s = .next ((s.setPin q { s.pin q with pmu := { (s.pin q).pmu with disc := false } }).pmuOpen q) :=
  congrArg Host.Outcome.next ((if_neg (by simp [hph, hend])).trans (if_pos hdisc))

end DisconnectEnd

/-! #### GO (R328) -/

section Go

variable {s : State} {q : PinId}

/-- The measurement that GO begins. -/
def State.goMeas (s : State) (q : Nat) : PmuMeas := ⟨s.tok, none, 0, s.rd F.PIN_PMU_CTL_SETUP q, [q], s.now, 0, 0, true, []⟩

/-- The device as the measurement of GO begins. -/
def State.goState (s : State) (q : Nat) : State := { s with tok := s.tok + 1, pmus := [s.goMeas q] }

theorem exec_pinPmuGo_safe (hsafe : s.safe = true) : exec (.pinPmuGo q) s = .next (s.wr F.FLT_STAT_SAFEWR 1) :=
  congrArg Host.Outcome.next (if_pos hsafe)

theorem exec_pinPmuGo_busy (hsafe : s.safe = false) (hbusy : (s.podRuns (q / 4) || s.pmuBusy q) = true) :
    exec (.pinPmuGo q) s = .next (s.wr F.PIN_FLAG_CFG_BUSY 1 q) :=
  congrArg Host.Outcome.next ((if_neg (by simp [hsafe])).trans (if_pos hbusy))

/-- GO on a free pin where no measurement waits starts at once. -/
theorem exec_pinPmuGo_free (hsafe : s.safe = false) (hfree : (s.podRuns (q / 4) || s.pmuBusy q) = false) (hnone : s.pmus = []) :
    exec (.pinPmuGo q) s = .next (
      if (s.goState q).pmuBad (s.goMeas q) then
        ((s.goState q).setPin q { s.pin q with pmu := { (s.pin q).pmu with
          samples := [], taken := 0, lastEnd := s.now, setup := s.rd F.PIN_PMU_CTL_SETUP q, tok := s.tok
          flags := 2 ^ pBad + 2 ^ pReg } }).pmuWrite (s.goMeas q)
      else (s.goState q).pmuConnect (s.goMeas q) ((s.goState q).pmuE (s.goMeas q)) q) := by
  have hidle : s.pmuBusy q = false := (Bool.or_eq_false_iff.1 hfree).2
  change Host.Outcome.next (s.pmuGo q) = _
  refine congrArg Host.Outcome.next ?_
  unfold State.pmuGo
  rw [if_neg (by simp [hsafe]), if_neg (by simp [hfree])]
  unfold State.pmuRequest
  extract_lets tok m u
  have hu : u.pmus = [m] := by simp [u, hnone]
  have hb : u.pmuBehind m = false := by simp [State.pmuBehind, hu]
  rw [if_neg (by simp [hb])]
  unfold State.pmuTry
  rw [if_neg (by simp [m]; exact hidle)]
  extract_lets m2 v
  have hl : u.pmus.map (fun a => if a.tok = m2.tok then m2 else a) = [m2] := by
    rw [hu]
    exact congrArg (fun a => [a]) (if_pos rfl)
  have hv : v = s.goState q := congrArg (fun l => { s with tok := s.tok + 1, pmus := l }) hl
  rw [hv]
  refine if_congr (by simp [m2, m]; rfl) rfl rfl

theorem State.pmuConnect_shows (s : State) {m : PmuMeas} (hm : m.site = none) (e : PmuSetup) (q : Nat) :
    (s.pmuConnect m e q).rd F.PIN_PMU_STAT_STATE q = 1 ∧ (s.pmuConnect m e q).rd F.PIN_PMU_STAT_CONN q = 1 ∧
    (s.pmuConnect m e q).rd F.PIN_PMU_STAT_REG q = 1 ∧ ((s.pmuConnect m e q).pin q).pmu.phase = 1 ∧
    ((s.pmuConnect m e q).pin q).pmu.setup = m.setup ∧ (s.pmuConnect m e q).pmus = s.pmus := by
  have hforce (u : State) : ((u.forceDrv q 0).pin q).pmu = (u.pin q).pmu := by simp [State.forceDrv]
  refine ⟨?_, ?_, ?_, ?_, ?_, (s.pmuConnect_does m e q).pmus (by decide)⟩ <;> unfold State.pmuConnect <;> dsimp only
  · simp (disch := decide) [State.rd_wr_ne]
  · simp (disch := decide) [State.rd_wr_ne]
  · simp (disch := decide) [State.rd_wr_ne, hm, ofBool]
  · split <;> simp [hforce]
  · split <;> simp [hforce]

/-- GO at a loaded setup that nothing stands against connects the pin. -/
theorem pmuBad_goMeas {g : PmuSetup} (he : s.pmuEntry (s.rd F.PIN_PMU_CTL_SETUP q) = some g) (huse : s.on F.PIN_CFG_USE q = true)
    (htrig : g.trig = 0 ∨ (4 < g.trig ∧ (g.trig ≤ 6 → s.waveActive g.wsrc = true))) : (s.goState q).pmuBad (s.goMeas q) = false := by
  have he' : (s.goState q).pmuEntry (s.goMeas q).setup = some g := he
  have huse' : (s.goState q).on F.PIN_CFG_USE q = true := huse
  have hwave : (s.goState q).waveActive g.wsrc = s.waveActive g.wsrc := rfl
  unfold State.pmuBad
  rw [he']
  rcases htrig with h0 | ⟨h4, hw⟩
  · simp [State.goMeas, huse', h0]
  · by_cases h6 : g.trig ≤ 6
    · simp [State.goMeas, huse', hwave, hw h6, h4]
    · simp [State.goMeas, huse', h4, show g.trig ≠ 5 by omega, show g.trig ≠ 6 by omega]

theorem pinPmuGo_begins {g : PmuSetup} (hsafe : s.safe = false) (hfree : (s.podRuns (q / 4) || s.pmuBusy q) = false) (hnone : s.pmus = [])
    (he : s.pmuEntry (s.rd F.PIN_PMU_CTL_SETUP q) = some g) (huse : s.on F.PIN_CFG_USE q = true)
    (htrig : g.trig = 0 ∨ (4 < g.trig ∧ (g.trig ≤ 6 → s.waveActive g.wsrc = true))) :
    ∃ t, exec (.pinPmuGo q) s = .next t ∧
      t.rd F.PIN_PMU_STAT_STATE q = 1 ∧ t.rd F.PIN_PMU_STAT_CONN q = 1 ∧ t.rd F.PIN_PMU_STAT_REG q = 1 ∧ (t.pin q).pmu.phase = 1 ∧
      (t.pin q).pmu.setup = s.rd F.PIN_PMU_CTL_SETUP q ∧ t.pmus.map (·.started) = [true] := by
  obtain ⟨hst, hconn, hreg, hph, hset, hpmus⟩ :=
    (s.goState q).pmuConnect_shows (m := s.goMeas q) rfl ((s.goState q).pmuE (s.goMeas q)) q
  refine ⟨_, (exec_pinPmuGo_free hsafe hfree hnone).trans (congrArg _ (if_neg (by simp [pmuBad_goMeas he huse htrig]))),
    hst, hconn, hreg, hph, hset, ?_⟩
  rw [hpmus]
  rfl

theorem pinPmuGo_unloaded (hsafe : s.safe = false) (hfree : (s.podRuns (q / 4) || s.pmuBusy q) = false) (hnone : s.pmus = [])
    (he : s.pmuEntry (s.rd F.PIN_PMU_CTL_SETUP q) = none) :
    ∃ t, exec (.pinPmuGo q) s = .next t ∧ t.rd F.PIN_PMU_STAT_STATE q = 2 ∧ t.pmus = [] ∧ hasBit (t.pin q).pmu.flags pBad = true := by
  have hbad : (s.goState q).pmuBad (s.goMeas q) = true := by
    have he' : (s.goState q).pmuEntry (s.goMeas q).setup = none := he
    unfold State.pmuBad
    rw [he']
  refine ⟨_, (exec_pinPmuGo_free hsafe hfree hnone).trans (congrArg _ (if_pos hbad)), ?_⟩
  generalize hu : (s.goState q).setPin q _ = u
  obtain ⟨hpmus, hstate⟩ := u.pmuWrite_shows (s.goMeas q)
  refine ⟨hstate q (List.mem_singleton.2 rfl), hpmus.trans ?_, ?_⟩
  · rw [← hu, State.setPin_pmus]
    simp [State.goState]
  · rw [Does.pinX (u.pmuWrite_does _) (by decide), ← hu, State.pin_setPin]
    show hasBit (2 ^ pBad + 2 ^ pReg) pBad = true
    decide

theorem exec_disc_kept (hph : (s.pin q).pmu.phase = 5) (hreg : (s.pin q).pmu.reg = true) :
    exec (.disc q) s = .next (s.setPin q { s.pin q with pmu := { (s.pin q).pmu with phase := 4, until_ := after s.now 1500, disc := true } }) :=
  congrArg Host.Outcome.next (if_pos ⟨hph, hreg⟩)

theorem exec_disc_other (h : (s.pin q).pmu.phase ≠ 5 ∨ (s.pin q).pmu.reg = false) : exec (.disc q) s = .next s :=
  congrArg Host.Outcome.next (if_neg fun hc => h.elim (· hc.1) fun hr => by simp [hr] at hc)

end Go

/-- Settles O37, by what each phase's end leaves in the pin, the results of a measurement, and the start of GO. -/
theorem parametricUnitsMeasure : Obligations.ParametricUnitsMeasure := by
  unfold Obligations.ParametricUnitsMeasure
  rintro s q _ _ rfl rfl
  refine ⟨fun hph hend => ⟨_, exec_connectEnd hph hend, ?connect⟩, fun hph hend => ⟨_, exec_settleEnd hph hend, ?settle⟩,
    fun value clamp ovr t0 hph ht0 hend => ?conversion, fun hph htrig hnext hend => ⟨_, exec_triggerTimeout rfl hph htrig hnext hend, ?timeout⟩,
    fun hph hend => ⟨fun hdisc => ⟨_, exec_disconnectEnd_disc hph hend hdisc, State.pmuOpen_shows ..⟩,
      fun m hdisc hone htok hstarted => ⟨fun hmore => ?goesOn, fun hlast => ?last⟩⟩,
    fun hsafe => ⟨_, exec_pinPmuGo_safe hsafe, State.rd_wr .., rfl⟩,
    fun hsafe hbusy => ⟨_, exec_pinPmuGo_busy hsafe hbusy, State.rd_wr .., rfl⟩,
    fun hsafe hfree hnone => ⟨fun g he huse htrig => pinPmuGo_begins hsafe hfree hnone he huse htrig, pinPmuGo_unloaded hsafe hfree hnone⟩,
    fun hph hreg => ⟨_, exec_disc_kept hph hreg, ?disc⟩, fun h => ⟨s, exec_disc_other h, rfl⟩⟩
  case connect | settle | disc => simp
  case conversion =>
    obtain ⟨r, flags, corr, hexec, hr⟩ := exec_conversion rfl value clamp ovr hph ht0 hend
    refine ⟨_, hexec, ?_⟩
    rw [State.pin_setPin_pulse]
    obtain ⟨htaken, hlast, hnext, hsamples⟩ := PmuX.converted_shows (s.pin q).pmu _ r flags corr _
    exact ⟨htaken, hlast, hnext, fun hm hu hv => by rw [hsamples, hr hm hu hv],
      fun h => (PmuX.converted_more h ..).trans hph, fun h => PmuX.converted_last h ..⟩
  case timeout =>
    rw [State.pin_setPin]
    exact ⟨rfl, hasBit_withBit .., rfl⟩
  case goesOn =>
    refine ⟨_, exec_disconnectEnd_measured hph hend hdisc, ?_⟩
    rw [State.pmuPinEnded_more ((State.pmuLeave_pmus ..).trans hone) (htok.trans (State.pmuLeave_tok ..).symm) hstarted hmore]
    refine ⟨?_, State.pmuLeave_shows ..⟩
    rw [List.all_cons, List.all_nil, Bool.and_true, PmuMeas.contains_pinEnds, BEq.rfl, Bool.true_or]
  case last =>
    exact ⟨_, exec_disconnectEnd_measured hph hend hdisc,
      State.pmuPinEnded_last ((State.pmuLeave_pmus ..).trans hone) (htok.trans (State.pmuLeave_tok ..).symm) hstarted hlast⟩

end Sys2Proof.Machine
end

/-! ### Scope: rails, their regulation and their monitors -/

section
namespace Sys2Proof.Machine

open Sys2Proof

/-! #### Ramps (R345, R346, R348, R351) -/

/-- What a rail shows stands in its own part and in its registers. -/
theorem State.rail_of {s t : State} (h : t.rails = s.rails) (r : Nat) : t.rail r = s.rail r := congrArg (fun x => x.at {} r) h

theorem State.railSt_of {s t : State} (h : t.regs = s.regs) (r : Nat) : t.railSt r = s.railSt r := State.rd_of h ..

theorem State.startRamp_rampTo (s : State) (r target slew : Nat) : s.rampTo (s.startRamp r target slew) r target slew := by
  unfold State.startRamp
  extract_lets v up d x a b
  suffices h : ∀ t : State, t.rails = b.rails → t.regs = b.regs → s.rampTo t r target slew by
    split
    · split <;> exact h _ rfl rfl
    · exact h b rfl rfl
  intro t hrails hregs
  have hrail : t.rail r = { x with target := target, slew := slew, t0 := s.now, toOff := false, regT := none
                                   reach := after s.now (rampTicks d slew), noregDone := false, wait := none } :=
    (State.rail_of hrails r).trans ((State.rail_wr ..).trans (State.rail_setRail ..))
  unfold State.rampTo
  rw [hrail, State.railSt_of hregs]
  by_cases hup : s.railV r ≤ target
  · simp [b, up, d, v, hup, State.railSt, rlUp, Fld.width, F.RAIL_STAT_STATE]
  · simp [b, up, d, v, hup, State.railSt, rlDown, Fld.width, F.RAIL_STAT_STATE]

theorem State.startDown_rampOff {s : State} {r : Nat} (h0 : s.railSt r ≠ rlOff) (h5 : s.railSt r ≠ rlTripped) (slew : Nat) :
    s.rampOff (s.startDown r slew) r slew := by
  unfold State.startDown
  rw [if_neg (by simp [h0, h5])]
  simp [State.rampOff, State.railSt, rlDown, Fld.width, F.RAIL_STAT_STATE]

theorem State.ramp_rampTo (s : State) (r : Nat) {target : Nat} (h : target ≠ 0) (slew : Nat) :
    s.rampTo (s.ramp r target slew) r target slew := by
  rw [State.ramp, if_neg h]
  exact s.startRamp_rampTo r target slew

theorem State.ramp_rampOff {s : State} {r : Nat} (h0 : s.railSt r ≠ rlOff) (h5 : s.railSt r ≠ rlTripped) (slew : Nat) :
    s.rampOff (s.ramp r 0 slew) r slew := State.startDown_rampOff h0 h5 slew

/-- A ramp moves its own rail alone. -/
theorem State.ramp_ne (s : State) {o r : Nat} (h : r ≠ o) (target slew : Nat) :
    (s.ramp o target slew).rail r = s.rail r ∧ (s.ramp o target slew).railSt r = s.railSt r := by
  have hwr (u : State) (v : Nat) : (u.wr F.RAIL_STAT_STATE v o).railSt r = u.railSt r := State.rd_wr_inst _ _ _ _ _ _ _ (.inl h)
  unfold State.ramp
  split
  · unfold State.startDown
    dsimp only
    split
    · exact ⟨State.rail_setRail_ne _ _ _ _ h, rfl⟩
    · exact ⟨State.rail_setRail_ne _ _ _ _ h, hwr _ _⟩
  · unfold State.startRamp
    extract_lets v up d x a b
    have hb : b.rail r = s.rail r ∧ b.railSt r = s.railSt r := ⟨State.rail_setRail_ne _ _ _ _ h, hwr _ _⟩
    split
    · split <;> exact hb
    · exact hb

theorem State.otherRail_ne {s : State} {r o : Nat} (h : s.otherRail r = some o) : r ≠ o := by
  unfold State.otherRail at h
  split at h
  · exact fun e => by simpa [e] using List.find?_some h
  · exact nomatch h

/-- What a rail releases is its neighbour (R351). -/
theorem State.releaseWait_own (s : State) (r cond : Nat) :
    (s.releaseWait r cond).rail r = s.rail r ∧ (s.releaseWait r cond).railSt r = s.railSt r := by
  unfold State.releaseWait
  split
  · exact ⟨rfl, rfl⟩
  · next o ho =>
    have hne := State.otherRail_ne ho
    split
    · exact ⟨rfl, rfl⟩
    · dsimp only
      split
      · exact ⟨rfl, rfl⟩
      · split
        · split
          · split
            · exact State.ramp_ne _ hne _ _
            · exact ⟨State.rail_setRail_ne _ _ _ _ hne, rfl⟩
          · split
            · exact State.ramp_ne _ hne _ _
            · exact ⟨State.rail_setRail_ne _ _ _ _ hne, rfl⟩
        · exact State.ramp_ne _ hne _ _

theorem State.qualify_rails (s : State) (r : Nat) : (s.qualify r).rails = s.rails := by
  unfold State.qualify
  split <;> rfl

theorem State.qualify_regs (s : State) (r : Nat) : (s.qualify r).regs = s.regs := by
  unfold State.qualify
  split <;> rfl

section Rails

variable {s : State} {r : RailId}

theorem exec_regulationCheck (hext : extCount (s.rd F.WT_EPOCH_EPOCH) s.now % 3000 = 0) (hreach : reached (s.rail r).reach s.now = true)
    (hst : s.railSt r = rlUp ∨ (s.railSt r = rlDown ∧ (s.rail r).toOff = false))
    (hhi : s.railV r ≤ (s.rail r).target + (200 + (s.rail r).target / 50))
    (hlo : (s.rail r).target ≤ s.railV r + (200 + (s.rail r).target / 50)) :
    exec (.regulationCheck r) s = .next (((((s.setRail r { s.rail r with regT := some s.now }).wr F.RAIL_STAT_STATE rlReg r).qualify r).releaseWait r 1)) := by
  refine congrArg Host.Outcome.next ((if_neg ?_).trans (if_neg ?_))
  · rcases hst with h | ⟨h, ho⟩
    · simp [hext, hreach, h]
    · simp [hext, hreach, h, ho]
  · split <;> omega

theorem exec_noreg (hdue : reached (after (s.rail r).reach tMs) s.now = true) (hnone : (s.rail r).regT = none)
    (hfirst : (s.rail r).noregDone = false) (hup : (s.rail r).toOff = false) (hwait : (s.rail r).wait = none)
    (hst : s.railSt r = rlUp ∨ s.railSt r = rlDown ∨ (s.railSt r = rlLimit ∧ (s.rail r).fromSt = rlUp)) :
    exec (.noreg r) s = .next (let u := (s.setRail r { s.rail r with noregT := some s.now, noregDone := true }).wr F.RAIL_FLAG_NOREG 1 r
      if u.on F.RAIL_MON_VEV r then u.raise (1536 + 3 * r) ((s.rail r).v + 4) [u.railVrd r] u.now else u) := by
  refine congrArg Host.Outcome.next (if_neg ?_)
  rcases hst with h | h | ⟨h, hf⟩
  · simp [hdue, hnone, hfirst, hup, hwait, h]
  · simp [hdue, hnone, hfirst, hup, hwait, h]
  · simp [hdue, hnone, hfirst, hup, hwait, h, hf]

theorem exec_railLimit (h : s.railSt r = rlUp ∨ s.railSt r = rlReg) :
    exec (.railLimit r) s = .next (((s.setRail r { s.rail r with fromSt := s.railSt r }).wr F.RAIL_STAT_STATE rlLimit r).wr F.RAIL_FLAG_LIMITED 1 r) :=
  congrArg Host.Outcome.next (if_neg (by rcases h with h | h <;> simp [h]))

theorem exec_rampDownEnd (hst : s.railSt r = rlDown) (hoff : (s.rail r).toOff = true) (hreach : reached (s.rail r).reach s.now = true) :
    exec (.rampDownEnd r) s = .next (((s.setRail r { s.rail r with offT := s.now, toOff := false }).wr F.RAIL_STAT_STATE rlOff r).releaseWait r 2) :=
  congrArg Host.Outcome.next (if_neg (by simp [hst, hoff, hreach]))

theorem exec_railSequenceDelay {w : RailWait} {t0 : Stamp} (hw : (s.rail r).wait = some w) (ht : w.till = some t0)
    (hend : reached t0 s.now = true) : exec (.railSequenceDelay r) s = .next (s.ramp r w.target w.slew) := by
  change execRailSequenceDelay r s = _
  unfold execRailSequenceDelay
  dsimp only
  rw [hw]
  dsimp only
  rw [ht]
  exact congrArg Host.Outcome.next (if_pos hend)

end Rails

/-! #### Monitors (R353 to R355) -/

/-- A monitor that leaves IN says so: its flag, its count, its event, its wake. -/
def State.leftWindow (s : State) (r mon st : Nat) (stamp : Stamp) : State :=
  let s := if mon = 0 then s.wr F.RAIL_FLAG_VCROSS 1 r else s.wr F.RAIL_FLAG_ICROSS 1 r
  let s := s.pulse 0x18 r
  let s := if mon = 0 then
      (if s.on F.RAIL_MON_VEV r then s.raise (1536 + 3 * r) st [s.railVrd r] stamp else s)
    else (if s.on F.RAIL_MON_IEV r then s.raise (1537 + 3 * r) st [s.railIrd r] stamp else s)
  if s.on F.RAIL_MON_WAKE r then s.askWake 4 else s

theorem State.leftWindow_does (s : State) (r mon st : Nat) (stamp : Stamp) : Does 0x8000000009800008 0
    (if mon = 0 then s.wr F.RAIL_FLAG_VCROSS 1 r else s.wr F.RAIL_FLAG_ICROSS 1 r) (s.leftWindow r mon st stamp) := by
  unfold State.leftWindow
  extract_lets a b c
  have hb : Does 0x8000000009800008 0 a b := .step (State.pulse_does ..) (by decide) (by decide) (.refl ..)
  have hc : Does 0x8000000009800008 0 a c :=
    .ite (fun _ => .ite (fun _ => .step (State.raise_does ..) (by decide) (by decide) hb) fun _ => hb)
      fun _ => .ite (fun _ => .step (State.raise_does ..) (by decide) (by decide) hb) fun _ => hb
  exact .ite (fun _ => .step (State.askWake_does ..) (by decide) (by decide) hc) fun _ => hc

theorem State.monState_setMon (s : State) (r mon st : Nat) (t : Stamp) : (s.setMon r mon st t).monState r mon = st := by
  unfold State.setMon State.monState
  dsimp only
  split <;> simp

theorem State.monState_of {s t : State} (h : t.rails = s.rails) (r mon : Nat) : t.monState r mon = s.monState r mon := by
  unfold State.monState
  rw [State.rail_of h]

theorem State.leftWindow_shows (s : State) (r mon st : Nat) (stamp : Stamp) :
    (s.leftWindow r mon st stamp).monState r mon = s.monState r mon ∧
    (if mon = 0 then (s.leftWindow r mon st stamp).rd F.RAIL_FLAG_VCROSS r else (s.leftWindow r mon st stamp).rd F.RAIL_FLAG_ICROSS r) = 1 := by
  have d := s.leftWindow_does r mon st stamp
  refine ⟨State.monState_of ((d.rails (by decide)).trans ?_) r mon, ?_⟩
  · split <;> rfl
  · rw [d.rd F.RAIL_FLAG_VCROSS r 0 (by decide), d.rd F.RAIL_FLAG_ICROSS r 0 (by decide)]
    split <;> exact State.rd_wr ..

/-- The low side of the voltage window, which OFF and ramps leave aside (R355). -/
def State.lowAside (s : State) (r mon st : Nat) : Bool :=
  decide (mon = 0 ∧ st = 0) && (s.railSt r == rlOff || s.railSt r == rlUp || s.railSt r == rlDown)

theorem exec_railCrossing {s : State} {r : RailId} {mon : Fin 2} {st : Fin 3} (hne : s.monState r mon ≠ st) (hdec : s.monDecides r mon = true)
    (hlow : mon = 1 → st = 0 → s.rd F.RAIL_IWIN_ILO r ≠ 0) : ∃ stamp, exec (.railCrossing r mon st) s = .next (
      if s.monState r mon ≠ 1 ∨ s.lowAside r mon st = true then s.setMon r mon st stamp
      else (s.setMon r mon st stamp).leftWindow r mon st stamp) := by
  refine ⟨_, congrArg Host.Outcome.next (if_neg ?_)⟩
  rintro (h | h | ⟨hm, hs, hi⟩)
  · exact hne h.symm
  · exact absurd hdec (by simp [h])
  · exact hlow (Fin.ext hm) (Fin.ext hs) hi

theorem railCrossing_decides {s : State} {r : RailId} {mon : Fin 2} {st : Fin 3} (hne : s.monState r mon ≠ st) (hdec : s.monDecides r mon = true)
    (hlow : mon = 1 → st = 0 → s.rd F.RAIL_IWIN_ILO r ≠ 0) : ∃ t, exec (.railCrossing r mon st) s = .next t ∧
      t.monState r mon = st ∧
      (s.monState r mon = 1 → (mon = 1 ∨ st = 2 ∨ s.railSt r = rlReg ∨ s.railSt r = rlLimit) →
        (if mon = 0 then t.rd F.RAIL_FLAG_VCROSS r else t.rd F.RAIL_FLAG_ICROSS r) = 1) ∧
      (mon = 0 → st = 0 → (s.railSt r = rlOff ∨ s.railSt r = rlUp ∨ s.railSt r = rlDown) →
        t.regs = s.regs ∧ t.evq = s.evq ∧ t.wakeAsk = s.wakeAsk) := by
  obtain ⟨stamp, hexec⟩ := exec_railCrossing hne hdec hlow
  refine ⟨_, hexec, ?_⟩
  split
  case isTrue hq =>
    refine ⟨State.monState_setMon .., fun h1 hout => ?_, fun _ _ _ => ⟨rfl, rfl, rfl⟩⟩
    have haside : s.lowAside r mon st = true := hq.resolve_left (not_not.2 h1)
    simp only [State.lowAside, Bool.and_eq_true, decide_eq_true_eq, Bool.or_eq_true, beq_iff_eq] at haside
    obtain ⟨⟨hm, hs⟩, hr⟩ := haside
    rcases hout with h | h | h | h
    · simp [h] at hm
    · simp [h] at hs
    · simp [h, rlOff, rlUp, rlDown, rlReg] at hr
    · simp [h, rlOff, rlUp, rlDown, rlLimit] at hr
  case isFalse hq =>
    obtain ⟨hmon, hflag⟩ := (s.setMon r mon st stamp).leftWindow_shows r mon st stamp
    refine ⟨hmon.trans (State.monState_setMon ..), fun _ _ => ?_, fun hm hs hr => absurd (.inr ?_) hq⟩
    · exact (if_congr Fin.ext_iff rfl rfl).trans hflag
    · simp [State.lowAside, hm, hs, or_assoc, hr]

/-! #### ON and OFF (R350, R508) -/

/-- A single rail of an action moves at once, in order or not (R351). -/
theorem State.rampSite_one (s : State) (n : Nat) (a : Nat × Nat × Nat) : s.rampSite n [a] = s.ramp a.1 a.2.1 a.2.2 := by
  unfold State.rampSite
  dsimp only
  split
  · next h => exact nomatch h
  · rfl

theorem State.slewOf_zero (s : State) (r : Nat) : s.slewOf r 0 = max 1 (s.rd F.RAIL_CFG_SLEW r) := if_pos rfl

theorem State.rampTo_of {s u t v : State} {r target slew : Nat} (h : u.rampTo t r target slew) (hv : s.railV r = u.railV r)
    (hnow : s.now = u.now) (hst : v.railSt r = t.railSt r) (hrail : v.rail r = t.rail r) : s.rampTo v r target slew := by
  unfold State.rampTo at *
  rwa [hv, hnow, hst, hrail]

section OnOff

variable {s : State} {r : RailId}

theorem exec_railCtlOn {n : Nat} (hsite : s.siteOfRail r = some n) (hbusy : s.railBusy r = false) (hsafe : s.safe = false) :
    ∃ u : State, u.regs = s.regs ∧ u.now = s.now ∧ exec (.railCtlOn r) s =
      .next ((u.ramp r (railTarget (s.rd F.RAIL_SET_TARGET r)) (max 1 (s.rd F.RAIL_CFG_SLEW r))).refreshArm n) := by
  refine ⟨(s.openWindow n 1 false).wakeRecovery n, rfl, rfl, congrArg Host.Outcome.next ?_⟩
  unfold State.railOn
  rw [if_neg (by simp [hsafe]), if_neg (by simp [hbusy]), hsite]
  dsimp only
  rw [State.rampSite_one]
  rfl

theorem railCtlOn_ramps {n : Nat} (hsite : s.siteOfRail r = some n) (hbusy : s.railBusy r = false) (hsafe : s.safe = false)
    (ht : s.rd F.RAIL_SET_TARGET r ≠ 0) : ∃ t, exec (.railCtlOn r) s = .next t ∧
      s.rampTo t r (min 50000 (max 5000 (s.rd F.RAIL_SET_TARGET r))) (max 1 (s.rd F.RAIL_CFG_SLEW r)) := by
  obtain ⟨u, hregs, hnow, hexec⟩ := exec_railCtlOn hsite hbusy hsafe
  have htarget : railTarget (s.rd F.RAIL_SET_TARGET r) = min 50000 (max 5000 (s.rd F.RAIL_SET_TARGET r)) := if_neg ht
  have hv : s.railV r = u.railV r := by
    unfold State.railV
    rw [State.railSt_of hregs, hnow]
  rw [htarget] at hexec
  have d := State.refreshArm_does (u.ramp r (min 50000 (max 5000 (s.rd F.RAIL_SET_TARGET r))) (max 1 (s.rd F.RAIL_CFG_SLEW r))) n
  exact ⟨_, hexec, State.rampTo_of (u.ramp_rampTo r (by omega) _) hv hnow.symm (d.rd F.RAIL_STAT_STATE r 0 (by decide))
    (State.rail_of (d.rails (by decide)) r)⟩

theorem exec_railCtlOff {n : Nat} (hsite : s.siteOfRail r = some n) (hbusy : s.railBusy r = false) :
    exec (.railCtlOff r) s = .next (s.ramp r 0 (max 1 (s.rd F.RAIL_CFG_SLEW r))) := by
  refine congrArg Host.Outcome.next ?_
  unfold State.railOff
  rw [if_neg (by simp [hbusy]), hsite]
  exact State.rampSite_one ..

end OnOff

/-- Settles O33, by what ramps, regulation, monitors and the register commands leave in the rail. -/
theorem railsMoveAndWatch : Obligations.RailsMoveAndWatch := by
  unfold Obligations.RailsMoveAndWatch
  intro s r
  refine ⟨fun hext hreach hst hhi hlo => ⟨_, exec_regulationCheck hext hreach hst hhi hlo, ?regulation⟩,
    fun hdue hnone hfirst hup hwait hst => ⟨_, exec_noreg hdue hnone hfirst hup hwait hst, ?noreg⟩,
    fun h => ⟨_, exec_railLimit h, ?limit⟩, fun h hfrom => ⟨_, congrArg Host.Outcome.next (if_pos h), ?limitExit⟩,
    fun hst hoff hreach => ⟨_, exec_rampDownEnd hst hoff hreach, ?rampEnd⟩,
    fun w t0 hw ht hend => ⟨_, exec_railSequenceDelay hw ht hend, fun h => s.ramp_rampTo r h _,
      fun h h0 h5 => h ▸ State.ramp_rampOff h0 h5 _⟩,
    fun mon st hne hdec hlow => railCrossing_decides hne hdec hlow,
    fun n hsite hbusy => ⟨fun hsafe ht => railCtlOn_ramps hsite hbusy hsafe ht,
      fun h0 h5 => ⟨_, exec_railCtlOff hsite hbusy, State.ramp_rampOff h0 h5 _⟩⟩,
    fun hsafe => ⟨_, congrArg Host.Outcome.next (if_pos hsafe), State.rd_wr .., rfl⟩,
    fun hbusy => ⟨_, congrArg Host.Outcome.next (if_pos hbusy), State.rd_wr .., rfl⟩⟩
  case regulation =>
    generalize hu : (s.setRail r { s.rail r with regT := some s.now }).wr F.RAIL_STAT_STATE rlReg r = u
    obtain ⟨hrail, hst⟩ := (u.qualify r).releaseWait_own r 1
    rw [hrail, hst, State.rail_of (u.qualify_rails r), State.railSt_of (u.qualify_regs r), ← hu]
    exact ⟨State.rd_wr .., by simp⟩
  case noreg =>
    dsimp only
    generalize hu : (s.setRail r { s.rail r with noregT := some s.now, noregDone := true }).wr F.RAIL_FLAG_NOREG 1 r = u
    have hflag : u.rd F.RAIL_FLAG_NOREG r = 1 := hu ▸ State.rd_wr ..
    have hst : u.railSt r = s.railSt r := hu ▸ State.rd_wr_ne _ _ _ _ _ _ (by decide)
    have hvev : u.on F.RAIL_MON_VEV r = s.on F.RAIL_MON_VEV r := hu ▸ congrArg (· == 1) (State.rd_wr_ne _ _ _ _ _ _ (by decide))
    split
    case isTrue h =>
      have d := u.raise_does (1536 + 3 * r) ((s.rail r).v + 4) [u.railVrd r] u.now
      exact ⟨(d.rd F.RAIL_FLAG_NOREG r 0 (by decide)).trans hflag, (d.rd F.RAIL_STAT_STATE r 0 (by decide)).trans hst,
        fun hno => absurd (hvev.symm.trans h) (by simp [hno])⟩
    case isFalse => exact ⟨hflag, hst, fun _ => hu ▸ rfl⟩
  case limit =>
    exact ⟨(State.rd_wr_ne _ _ _ _ _ _ (by decide)).trans (State.rd_wr ..), State.rd_wr .., by simp⟩
  case limitExit =>
    refine (State.rd_wr ..).trans ?_
    rcases hfrom with h | h <;> rw [h] <;> rfl
  case rampEnd =>
    generalize hu : (s.setRail r { s.rail r with offT := s.now, toOff := false }).wr F.RAIL_STAT_STATE rlOff r = u
    obtain ⟨hrail, hst⟩ := u.releaseWait_own r 2
    rw [hrail, hst, ← hu]
    exact ⟨State.rd_wr .., by simp⟩

end Sys2Proof.Machine
end

/-! ### Scope: interrupts, the enabling and draining of queue pairs and event rings -/

section
namespace Sys2Proof.Machine

open Sys2Proof

/-! #### Interrupts (R401, R402) -/

/-- A ring whose pending count is cleared. -/
def State.clearIrq (s : State) (ring : RingId) : State :=
  match ring with
  | .qp q => s.setQp q { s.qp q with pend := 0 }
  | .evr e => s.setEvr e { s.evr e with pend := 0 }

theorem State.sendIrq_eq (s : State) (ring : RingId) : s.sendIrq ring = (s.clearIrq ring).interrupt (s.irqOf ring).2.2.2.1 := by
  cases ring <;> rfl

theorem State.clearIrq_frame (s : State) (ring : RingId) : (s.clearIrq ring).regs = s.regs ∧ (s.clearIrq ring).out = s.out := by
  cases ring <;> exact ⟨rfl, rfl⟩

theorem State.clearIrq_pend {s t : State} {ring : RingId} (hq : t.qps = (s.clearIrq ring).qps) (he : t.evrs = (s.clearIrq ring).evrs) :
    (t.irqOf ring).1 = 0 := by
  cases ring with
  | qp q =>
    have : t.qp q = { s.qp q with pend := 0 } := (congrArg (fun x => x.at {} q.val) hq).trans (State.qp_setQp ..)
    simp [State.irqOf, this]
  | evr e =>
    have : t.evr e = { s.evr e with pend := 0 } := (congrArg (fun x => x.at {} e.val) he).trans (State.evr_setEvr ..)
    simp [State.irqOf, this]

/-- The message that is sent clears the ring's count. -/
theorem State.sendIrq_pend (s : State) (ring : RingId) : ((s.sendIrq ring).irqOf ring).1 = 0 := by
  have d := (s.clearIrq ring).interrupt_does (s.irqOf ring).2.2.2.1
  rw [State.sendIrq_eq]
  exact State.clearIrq_pend (d.qps (by decide)) (d.evrs (by decide))

/-- The anchor sends the message of an unmasked vector. -/
theorem State.interrupt_unmasked {s : State} {v : Nat} (ha : s.anchor = true) (hm : s.on F.MSIX_CTL_MASK v = false) :
    (s.interrupt v).out = s.out ++ [OutMsg.msi (join (s.rd F.MSIX_ADDR_LO_ADDR_LO v) (s.rd F.MSIX_ADDR_HI_ADDR_HI v)) (s.rd F.MSIX_DATA_DATA v)] := by
  rw [State.interrupt, if_pos ha, State.msix, if_neg (by simp [hm])]

/-- The anchor's masked vector becomes pending. -/
theorem State.interrupt_masked {s : State} {v : Nat} (ha : s.anchor = true) (hm : s.on F.MSIX_CTL_MASK v = true) :
    (s.interrupt v).out = s.out ∧ hasBit ((s.interrupt v).rd F.MSIX_PBA_PBA (v / 32)) (v % 32) = true := by
  rw [State.interrupt, if_pos ha, State.msix, if_pos hm]
  refine ⟨rfl, ?_⟩
  have hlt : v % 32 < F.MSIX_PBA_PBA.width := Nat.mod_lt v (by decide)
  rw [State.rd_wr, hasBit_mod_two_pow _ hlt, hasBit_withBit]

theorem State.sendIrq_sends (s : State) (ring : RingId) (ha : s.anchor = true) :
    (s.on F.MSIX_CTL_MASK (s.irqOf ring).2.2.2.1 = false → (s.sendIrq ring).out =
      s.out ++ [OutMsg.msi (join (s.rd F.MSIX_ADDR_LO_ADDR_LO (s.irqOf ring).2.2.2.1) (s.rd F.MSIX_ADDR_HI_ADDR_HI (s.irqOf ring).2.2.2.1))
        (s.rd F.MSIX_DATA_DATA (s.irqOf ring).2.2.2.1)]) ∧
    (s.on F.MSIX_CTL_MASK (s.irqOf ring).2.2.2.1 = true → (s.sendIrq ring).out = s.out ∧
      hasBit ((s.sendIrq ring).rd F.MSIX_PBA_PBA ((s.irqOf ring).2.2.2.1 / 32)) ((s.irqOf ring).2.2.2.1 % 32) = true) := by
  obtain ⟨hregs, hout⟩ := s.clearIrq_frame ring
  have ha' : (s.clearIrq ring).anchor = true := (State.on_of hregs _ _ _).trans ha
  rw [State.sendIrq_eq]
  refine ⟨fun hm => ?_, fun hm => ?_⟩
  · rw [State.interrupt_unmasked ha' ((State.on_of hregs _ _ _).trans hm), hout]
    simp only [State.rd_of hregs]
  · obtain ⟨h1, h2⟩ := State.interrupt_masked ha' ((State.on_of hregs _ _ _).trans hm)
    exact ⟨h1.trans hout, h2⟩

theorem exec_interrupt {s : State} {ring : RingId} (hien : (s.irqOf ring).2.2.1 = true) (hopen : s.hostOpen = true)
    (hcnt : max 1 (s.irqOf ring).2.2.2.2.1 ≤ (s.irqOf ring).1) : exec (.interrupt ring) s = .next (s.sendIrq ring) :=
  congrArg Host.Outcome.next (if_pos (by rw [hien, hopen, decide_eq_true hcnt]; rfl))

theorem exec_interruptTime {s : State} {ring : RingId} (hien : (s.irqOf ring).2.2.1 = true) (hopen : s.hostOpen = true)
    (hpend : 0 < (s.irqOf ring).1) (htime : 0 < (s.irqOf ring).2.2.2.2.2)
    (hend : reached (after (s.irqOf ring).2.1 ((s.irqOf ring).2.2.2.2.2 * tUs)) s.now = true) :
    exec (.interruptTime ring) s = .next (s.sendIrq ring) :=
  congrArg Host.Outcome.next (if_pos (by rw [hien, hopen, decide_eq_true ⟨hpend, htime⟩, hend]; rfl))

/-! #### QP_CFG (R384, R408) -/

/-- The fields of QP_CFG but EN as a write leaves them. -/
def State.qpCfgFields (s : State) (q v : Nat) : State :=
  let st := s.qpState q
  let sizes := bits v 7 0
  let s := ((s.wr F.QP_CFG_FRES (bit v 30) q).wr F.QP_CFG_PRIO (bits v 29 27) q).wr F.QP_CFG_ASID (bits v 23 16) q
  let s := s.wr F.QP_CFG_LAT (bits v 15 8) q
  if st = qsDisabled then (s.wr F.QP_CFG_SQSZ (bits v 7 4) q).wr F.QP_CFG_CQSZ (bits v 3 0) q
    else if sizes ≠ s.rd F.QP_CFG_SQSZ q * 16 + s.rd F.QP_CFG_CQSZ q then s.wr F.QP_STAT_CFGBUSY 1 q else s

theorem State.qpCfgFields_qps (s : State) (q v : Nat) : (s.qpCfgFields q v).qps = s.qps := by
  unfold State.qpCfgFields
  dsimp only
  split
  · rfl
  · split <;> rfl

theorem State.writeQpCfg_enables {s : State} {q v : Nat} (hv : hasBit v 31 = true) (hen : s.on F.QP_CFG_EN q = false)
    (hst : s.qpState q = qsDisabled) : s.writeQpCfg q v =
      ((((((s.qpCfgFields q v).wr F.QP_CFG_EN 1 q).wr F.QP_STAT_STATE qsRun q).wr F.QP_HEAD_SQ_HEAD 0 q).wr F.QP_HEAD_CQ_TAIL 0 q).wr
        F.QP_STAT_DBTAIL 0 q).setQp q {} :=
  (if_pos (by rw [hv, hen]; rfl)).trans (if_pos hst)

theorem State.writeQpCfg_disables {s : State} {q v : Nat} (hv : hasBit v 31 = false) (hen : s.on F.QP_CFG_EN q = true)
    (hst : s.qpState q = qsRun ∨ s.qpState q = qsHalted) :
    s.writeQpCfg q v = ((s.qpCfgFields q v).wr F.QP_CFG_EN 0 q).wr F.QP_STAT_STATE qsDraining q :=
  (if_neg (by rw [hv, hen]; decide)).trans ((if_pos (by rw [hv, hen]; rfl)).trans (if_pos hst))

section QueuePairs

variable {s : State} {q : QpId}

theorem exec_qpCfgEn (on : Bool) : exec (.qpCfgEn q on) s =
    .next (s.writeQpCfg q (if on then withBit (s.qpCfg q) 31 else withoutBit (s.qpCfg q) 31)) := rfl

theorem qpCfgEn_runs (hst : s.qpState q = qsDisabled) (hen : s.on F.QP_CFG_EN q = false) :
    ∃ t, exec (.qpCfgEn q true) s = .next t ∧ t.on F.QP_CFG_EN q = true ∧ t.qpState q = qsRun ∧ t.rd F.QP_HEAD_SQ_HEAD q = 0 ∧
      t.rd F.QP_HEAD_CQ_TAIL q = 0 ∧ t.rd F.QP_STAT_DBTAIL q = 0 ∧ t.qp q = {} := by
  rw [exec_qpCfgEn, if_pos rfl, State.writeQpCfg_enables (hasBit_withBit ..) hen hst]
  refine ⟨_, rfl, ?_⟩
  generalize s.qpCfgFields q _ = u
  simp (disch := decide) [State.on, State.qpState, State.rd_wr_ne, Fld.width, F.QP_CFG_EN, F.QP_STAT_STATE, qsRun]

theorem qpCfgEn_drains (hst : s.qpState q = qsRun ∨ s.qpState q = qsHalted) (hen : s.on F.QP_CFG_EN q = true) :
    ∃ t, exec (.qpCfgEn q false) s = .next t ∧ t.on F.QP_CFG_EN q = false ∧ t.qpState q = qsDraining ∧ t.qps = s.qps := by
  have hbit : hasBit (withoutBit (s.qpCfg q) 31) 31 = false := by simp [hasBit_withoutBit_eq]
  rw [exec_qpCfgEn, if_neg (by decide), State.writeQpCfg_disables hbit hen hst]
  refine ⟨_, rfl, ?_, State.rd_wr .., State.qpCfgFields_qps ..⟩
  simp (disch := decide) [State.on, State.rd_wr_ne]

theorem State.routeOf_wr {s : State} {f : Fld} (h : ∀ g ∈ [F.EVT_ROUTE_EN0, F.EVT_ROUTE_EN1, F.EVT_ROUTE_EN2, F.EVT_ROUTE_EN3,
    F.EVT_ROUTE_RING0, F.EVT_ROUTE_RING1, F.EVT_ROUTE_RING2, F.EVT_ROUTE_RING3, F.EVR_CFG_EN], f.reg ≠ g.reg) (v i j src : Nat) :
    (s.wr f v i j).routeOf src = s.routeOf src := by
  simp only [List.forall_mem_cons] at h
  obtain ⟨h0, h1, h2, h3, r0, r1, r2, r3, hen, -⟩ := h
  unfold State.routeOf State.on
  simp only [State.rd_wr_ne _ _ _ _ _ _ (.inl h0), State.rd_wr_ne _ _ _ _ _ _ (.inl h1), State.rd_wr_ne _ _ _ _ _ _ (.inl h2),
    State.rd_wr_ne _ _ _ _ _ _ (.inl h3), State.rd_wr_ne _ _ _ _ _ _ (.inl r0), State.rd_wr_ne _ _ _ _ _ _ (.inl r1),
    State.rd_wr_ne _ _ _ _ _ _ (.inl r2), State.rd_wr_ne _ _ _ _ _ _ (.inl r3), State.rd_wr_ne _ _ _ _ _ _ (.inl hen)]

theorem drainEnd_disables (hst : s.qpState q = qsDraining) (hflight : s.inFlight q = 0) (hfetch : (s.qp q).fetching = false)
    (hopen : s.openOf q = []) (hmmu : ∀ m ∈ s.mmuq, m.origin = 4 ∨ m.unit ≠ q.val) :
    ∃ t, exec (.drainEnd q) s = .next t ∧ t.qpState q = qsDisabled ∧ s.raised t (2000 + 2 * q) 2 s.now := by
  have hall : s.mmuq.all (fun m => m.origin == 4 || m.unit != q.val) = true := List.all_eq_true.2 fun m hm => by simpa using hmmu m hm
  refine ⟨_, congrArg Host.Outcome.next (if_pos ⟨hst, hflight, hfetch, by rw [hopen]; rfl, hall⟩), ?_, fun ring hr => ?_⟩
  · exact ((State.qpEvent_does ..).rd F.QP_STAT_STATE q 0 (by decide)).trans (State.rd_wr ..)
  · exact State.raise_raised _ _ _ _ _ ring ((State.routeOf_wr (by decide) ..).trans hr)

/-! #### FLUSH (R385) -/

/-- The completion that FLUSH gives a descriptor. -/
def Desc.aborted (d : Desc) : Cpl := Cpl.mk d.idx d.cid d.opc d.irq stAborted 0 0 0 (d.f 8 7 0)

/-- Descriptors that end with ABORTED complete in order and leave the queue pair. -/
theorem State.flush_fold (q : Nat) (l : List Desc) (s : State) :
    let t := l.foldl (fun (s : State) (d : Desc) => (s.withdraw q d.cid).finish q d stAborted 0 0 0) s
    (t.qp q).cplq = (s.qp q).cplq ++ l.map Desc.aborted ∧
    ∀ e ∈ (t.qp q).fetched, e ∈ (s.qp q).fetched ∧ ∀ d ∈ l, e.idx ≠ d.idx := by
  induction l generalizing s with
  | nil => simp
  | cons d l ih =>
    have hw : (s.withdraw q d.cid).qp q = s.qp q :=
      congrArg (fun x => x.at {} q) ((s.withdraw_does q d.cid).qps (by decide))
    obtain ⟨hc, hf⟩ := ih ((s.withdraw q d.cid).finish q d stAborted 0 0 0)
    refine ⟨?_, fun e he => ?_⟩
    · rw [List.foldl_cons, hc, State.finish_cplq, hw, List.map_cons, List.append_assoc]
      rfl
    · obtain ⟨hin, hne⟩ := hf e he
      rw [State.finish, State.qp_setQp, hw] at hin
      obtain ⟨hin, hd⟩ := List.mem_filter.1 hin
      exact ⟨hin, List.forall_mem_cons.2 ⟨by simpa using hd, hne⟩⟩

theorem flush_aborts : ∃ t, exec (.flush q) s = .next t ∧
    (t.qp q).cplq = (s.qp q).cplq ++ ((s.qp q).fetched.filter (fun d => !d.started || d.held)).map
      (fun d => Cpl.mk d.idx d.cid d.opc d.irq stAborted 0 0 0 (d.f 8 7 0)) ∧
    ∀ d ∈ (t.qp q).fetched, d ∈ (s.qp q).fetched ∧ d.started = true ∧ d.held = false := by
  obtain ⟨hc, hf⟩ := State.flush_fold q ((s.qp q).fetched.filter (fun d => !d.started || d.held)) s
  refine ⟨_, rfl, hc, fun d hd => ?_⟩
  obtain ⟨hin, hne⟩ := hf d hd
  have hstays : (!d.started || d.held) = false :=
    Bool.eq_false_of_not_eq_true fun h => hne d (List.mem_filter.2 ⟨hin, h⟩) rfl
  simpa using And.intro hin hstays

end QueuePairs

/-! #### EVR_CFG (R408) -/

/-- The fields of EVR_CFG as a write leaves them. -/
def State.evrCfgFields (s : State) (e v : Nat) : State :=
  let old := s.on F.EVR_CFG_EN e
  let s := s.wr F.EVR_CFG_ASID (bits v 23 16) e
  let s := if old then s else s.wr F.EVR_CFG_SZ (bits v 3 0) e
  s.wr F.EVR_CFG_EN (bit v 31) e

theorem State.evrCfgFields_evq (s : State) (e v : Nat) : (s.evrCfgFields e v).evq = s.evq := by
  unfold State.evrCfgFields
  dsimp only
  split <;> rfl

theorem State.writeEvrCfg_enables {s : State} {e v : Nat} (hv : hasBit v 31 = true) (hen : s.on F.EVR_CFG_EN e = false) :
    s.writeEvrCfg e v = (((s.evrCfgFields e v).wr F.EVR_TAIL_TAIL 0 e).wr F.EVR_TAIL_WRAP 0 e).setEvr e {} :=
  if_pos (by rw [hv, hen]; rfl)

theorem State.writeEvrCfg_disables {s : State} {e v : Nat} (hv : hasBit v 31 = false) (hen : s.on F.EVR_CFG_EN e = true) :
    s.writeEvrCfg e v = (let u := s.evrCfgFields e v
      { u.setEvr e { u.evr e with kept := [], lost := none, pend := 0 } with evq := u.evq.filter (fun r => r.ring != some e) }) :=
  (if_neg (by rw [hv, hen]; decide)).trans (if_pos (by rw [hv, hen]; rfl))

/-- Bit 31 over fields that lie below it. -/
theorem bit_top (on : Bool) {a b : Nat} (ha : a < 256) (hb : b < 16) : bit (ofBool on * 2 ^ 31 + a * 65536 + b) 31 = ofBool on := by
  cases on <;> simp only [bit, ofBool, if_true, Bool.false_eq_true, if_false] <;> omega

theorem hasBit_top (on : Bool) {a b : Nat} (ha : a < 256) (hb : b < 16) : hasBit (ofBool on * 2 ^ 31 + a * 65536 + b) 31 = on := by
  have h : hasBit (ofBool on * 2 ^ 31 + a * 65536 + b) 31 = (ofBool on == 1) := congrArg (· == 1) (bit_top on ha hb)
  rw [h]
  cases on <;> rfl

section EventRings

variable {s : State} {e : EvrId}

theorem exec_evrCfgEn (on : Bool) : exec (.evrCfgEn e on) s =
    .next (s.writeEvrCfg e (ofBool on * 2 ^ 31 + s.rd F.EVR_CFG_ASID e * 65536 + s.rd F.EVR_CFG_SZ e)) := rfl

theorem State.evrCfgFields_en (v : Nat) {on : Bool} (h : bit v 31 = ofBool on) : (s.evrCfgFields e v).on F.EVR_CFG_EN e = on := by
  have hrd : (s.evrCfgFields e v).rd F.EVR_CFG_EN e = bit v 31 % 2 := State.rd_wr ..
  unfold State.on
  rw [hrd, h]
  cases on <;> rfl

variable (ha : s.rd F.EVR_CFG_ASID e < 256) (hz : s.rd F.EVR_CFG_SZ e < 16)
include ha hz

theorem evrCfgEn_starts (hen : s.on F.EVR_CFG_EN e = false) : ∃ t, exec (.evrCfgEn e true) s = .next t ∧ t.on F.EVR_CFG_EN e = true ∧
    t.rd F.EVR_TAIL_TAIL e = 0 ∧ t.rd F.EVR_TAIL_WRAP e = 0 ∧ t.evr e = {} := by
  have hfields := State.evrCfgFields_en (s := s) (e := e) _ (bit_top true ha hz)
  rw [exec_evrCfgEn, State.writeEvrCfg_enables (hasBit_top true ha hz) hen]
  refine ⟨_, rfl, ?_⟩
  generalize s.evrCfgFields e _ = u at hfields
  refine ⟨?_, ?_, ?_, State.evr_setEvr ..⟩
  · rw [← hfields]
    simp (disch := decide) [State.on, State.rd_wr_ne]
  · simp (disch := decide) [State.rd_wr_ne]
  · simp

theorem evrCfgEn_stops (hen : s.on F.EVR_CFG_EN e = true) : ∃ t, exec (.evrCfgEn e false) s = .next t ∧ t.on F.EVR_CFG_EN e = false ∧
    (t.evr e).kept = [] ∧ (t.evr e).lost = none ∧ (t.evr e).pend = 0 ∧ t.evq = s.evq.filter (fun r => r.ring != some e.val) := by
  have hfields := State.evrCfgFields_en (s := s) (e := e) _ (bit_top false ha hz)
  have hevq := s.evrCfgFields_evq e (ofBool false * 2 ^ 31 + s.rd F.EVR_CFG_ASID e * 65536 + s.rd F.EVR_CFG_SZ e)
  rw [exec_evrCfgEn, State.writeEvrCfg_disables (hasBit_top false ha hz) hen]
  refine ⟨_, rfl, ?_⟩
  generalize s.evrCfgFields e _ = u at hfields hevq
  have hx : ({ u.setEvr e { u.evr e with kept := [], lost := none, pend := 0 } with evq := u.evq.filter (fun r => r.ring != some e.val) } : State).evr e =
      { u.evr e with kept := [], lost := none, pend := 0 } := State.evr_setEvr ..
  dsimp only
  rw [hx]
  exact ⟨hfields, rfl, rfl, rfl, congrArg _ hevq⟩

end EventRings

/-- Settles O44, by what the message of a ring clears and what each write of EN, the end of a drain and FLUSH leave. -/
theorem queuePairsAreSetUpAndDrain : Obligations.QueuePairsAreSetUpAndDrain := by
  unfold Obligations.QueuePairsAreSetUpAndDrain
  intro s
  refine ⟨fun r hien hopen => ⟨fun hcnt => ?interrupt, fun hpend htime hend => ⟨_, exec_interruptTime hien hopen hpend htime hend, s.sendIrq_pend r⟩⟩,
    fun q => ⟨qpCfgEn_runs, qpCfgEn_drains, drainEnd_disables, flush_aborts⟩,
    fun e ha hz => ⟨evrCfgEn_starts ha hz, evrCfgEn_stops ha hz⟩,
    fun on => ⟨fun ha => congrArg Host.Outcome.next (if_pos ha), fun ha => congrArg Host.Outcome.next (if_neg (by simp [ha]))⟩⟩
  case interrupt =>
    exact ⟨_, exec_interrupt hien hopen hcnt, s.sendIrq_pend r, fun ha => (s.sendIrq_sends r ha).1, fun ha => (s.sendIrq_sends r ha).2⟩

end Sys2Proof.Machine
end

/-! ### Scope: the service port, the performance counters, the triggers, boundary scan -/

section
namespace Sys2Proof.Machine

open Sys2Proof

/-! #### The service port's events and slots (R561, R565) -/

/-- An event of the service port leaves its state, what left the device, and the registers. -/
theorem State.svpEvent_frame (s : State) (src info : Nat) : (s.svpEvent src info).svp = s.svp ∧ (s.svpEvent src info).out = s.out ∧
    ∀ f i j, (s.svpEvent src info).rd f i j = s.rd f i j :=
  have d := s.svpEvent_does src info
  ⟨d.svp (by decide), d.out (by decide), fun f i j => d.rd f i j (Nat.zero_testBit _)⟩

theorem State.svpEvent_if (s : State) {c : Prop} [Decidable c] (src info : Nat) :
    (if c then s.svpEvent src info else s).svp = s.svp ∧ (if c then s.svpEvent src info else s).out = s.out ∧
    ∀ f i j, (if c then s.svpEvent src info else s).rd f i j = s.rd f i j := by
  split
  · exact s.svpEvent_frame src info
  · exact ⟨rfl, rfl, fun _ _ _ => rfl⟩

theorem State.askWake_out (s : State) (cause : Nat) : (s.askWake cause).out = s.out := (s.askWake_does cause).out (by decide)

/-! #### The master (R557) -/

section Master

variable {s : State}

theorem exec_svpMtx_starts {v : BitVec 32} (hst : s.stewardPort = false) (hw : s.svp.word = none) (hm : s.rd F.SVP_CFG_MODE = 1) :
    exec (.svpMtx v) s = .next { s with
      svp := { s.svp with sel := s.rd F.SVP_MCTL_SEL, word := some (v.toNat % 2 ^ s.svpBits) }
      out := s.out ++ [OutMsg.svp (s.rd F.SVP_MCTL_SEL) (v.toNat % 2 ^ s.svpBits)] } :=
  congrArg Host.Outcome.next ((if_neg (by simp [hst, hw])).trans (if_neg (not_not.2 hm)))

theorem exec_svpMtx_busy {v : BitVec 32} (h : s.stewardPort = true ∨ s.svp.word.isSome = true) :
    exec (.svpMtx v) s = .next (s.wr F.SVP_STAT_MBUSY 1) := congrArg Host.Outcome.next (if_pos h)

theorem masterWordEnd_ends (v : BitVec 32) (hw : s.svp.word.isSome = true) : ∃ t, exec (.masterWordEnd v) s = .next t ∧
    t.rd F.SVP_MRX_RX = v.toNat % 2 ^ s.svpBits ∧ t.svp.word = none ∧
    t.svp.sel = if s.svp.release = true ∨ s.on F.SVP_MCTL_HOLD = false then 15 else s.svp.sel := by
  refine ⟨_, congrArg Host.Outcome.next (if_neg (by simp [Option.isSome_iff_ne_none.1 hw])), ?_⟩
  dsimp only
  generalize hu : ({ s.wr F.SVP_MRX_RX (v.toNat % 2 ^ s.svpBits) with svp := _ } : State) = u
  obtain ⟨hsvp, -, hrd⟩ := u.svpEvent_if (c := u.on F.SVP_MCTL_MEV = true) 2208 0
  have hrx : u.rd F.SVP_MRX_RX = v.toNat % 2 ^ s.svpBits := by
    rw [← hu]
    exact (State.rd_wr s F.SVP_MRX_RX ..).trans (Nat.mod_eq_of_lt ((Nat.mod_le _ _).trans_lt v.isLt))
  have hhold : (s.wr F.SVP_MRX_RX (v.toNat % 2 ^ s.svpBits)).on F.SVP_MCTL_HOLD = s.on F.SVP_MCTL_HOLD :=
    congrArg (· == 1) (State.rd_wr_ne _ _ _ _ _ _ (by decide))
  refine ⟨(hrd ..).trans hrx, (congrArg SvpX.word hsvp).trans (hu ▸ rfl), (congrArg SvpX.sel hsvp).trans ?_⟩
  rw [← hu]
  dsimp only
  rw [hhold]
  exact if_congr (by simp) rfl rfl

end Master

/-! #### The slave (R560 to R564) -/

section Slave

variable {s : State}

/-- The device that takes a command word: awake or asked to wake, COUNT at 0, its first slot sent. -/
def State.commandTaken (s : State) : State := ((if s.power = 4 then s.askWake 0 else s).wr F.SVP_STAT_SCOUNT 0).svpStatus 0

theorem State.commandTaken_shows (s : State) : s.commandTaken.out = s.out ++ [OutMsg.slot 0x53560000] ∧
    s.commandTaken.rd F.SVP_STAT_SCOUNT = 0 ∧ s.commandTaken.svp = s.svp := by
  unfold State.commandTaken State.svpStatus State.svpSlot
  generalize hu : (if s.power = 4 then s.askWake 0 else s) = u
  have hout : u.out = s.out := by
    rw [← hu]; split
    · exact s.askWake_out 0
    · rfl
  have hsvp : u.svp = s.svp := by
    rw [← hu]; split
    · exact s.svp_askWake 0
    · rfl
  have hcount : (u.wr F.SVP_STAT_SCOUNT 0).rd F.SVP_STAT_SCOUNT = 0 := State.rd_wr ..
  refine ⟨?_, hcount, hsvp⟩
  dsimp only
  rw [hcount]
  exact congrArg (· ++ _) hout

/-- What a command word says of the transaction (R560). -/
def SvpX.commanded (x : SvpX) (w : Nat) (phase : Slave) : SvpX :=
  { x with inc := hasBit w 30, off := bits w 20 0, asked := false, got := none, failed := false, phase := phase }

theorem exec_commandWord (v : BitVec 32) (hsel : s.svpSlave = true) (hidle : s.svp.phase = .idle) (h3 : 3 ≤ s.rd F.RST_STAT_STAGE)
    (h15 : s.rd F.RST_STAT_STAGE ≠ 15) : exec (.commandWord v) s = .next (
      if bits v.toNat 29 21 ≠ 0 ∨ v.toNat % 4 ≠ 0 then
        (({ s.commandTaken with svp := s.commandTaken.svp.commanded v.toNat .refused } : State).wr F.SVP_STAT_SERR 1).svpEvent 2212 0
      else { s.commandTaken with svp := s.commandTaken.svp.commanded v.toNat (if hasBit v.toNat 31 then .status else .write) }) :=
  congrArg Host.Outcome.next (if_neg (by simp [hsel, hidle, h15, Nat.not_lt.2 h3]))

theorem commandWord_begins (v : BitVec 32) (hsel : s.svpSlave = true) (hidle : s.svp.phase = .idle) (h3 : 3 ≤ s.rd F.RST_STAT_STAGE)
    (h15 : s.rd F.RST_STAT_STAGE ≠ 15) : ∃ t, exec (.commandWord v) s = .next t ∧ t.out = s.out ++ [OutMsg.slot 0x53560000] ∧
      t.rd F.SVP_STAT_SCOUNT = 0 ∧
      (bits v.toNat 29 21 = 0 → v.toNat % 4 = 0 → t.svp.phase = (if hasBit v.toNat 31 then .status else .write) ∧
        t.svp.off = bits v.toNat 20 0 ∧ t.svp.inc = hasBit v.toNat 30) ∧
      (bits v.toNat 29 21 ≠ 0 ∨ v.toNat % 4 ≠ 0 → t.svp.phase = .refused ∧ t.rd F.SVP_STAT_SERR = 1) := by
  obtain ⟨hout, hcount, -⟩ := s.commandTaken_shows
  refine ⟨_, exec_commandWord v hsel hidle h3 h15, ?_⟩
  split
  case isTrue hbad =>
    obtain ⟨esvp, eout, erd⟩ :=
      (({ s.commandTaken with svp := s.commandTaken.svp.commanded v.toNat .refused } : State).wr F.SVP_STAT_SERR 1).svpEvent_frame 2212 0
    refine ⟨eout.trans hout, (erd ..).trans ((State.rd_wr_ne _ _ _ _ _ _ (by decide)).trans hcount), fun h1 h2 => ?_,
      fun _ => ⟨by rw [esvp]; rfl, (erd ..).trans (State.rd_wr ..)⟩⟩
    exact absurd hbad (by simp [h1, h2])
  case isFalse hok => exact ⟨hout, hcount, fun _ _ => ⟨rfl, rfl, rfl⟩, fun hbad => absurd hbad hok⟩

/-- A word that has passed is counted, and the transaction goes on, moves on, or ends (R561, R563). -/
theorem State.svpAdvance_shows (s : State) (phase : Slave) : (s.svpAdvance phase).out = s.out ∧
    (s.svpAdvance phase).rd F.SVP_STAT_SCOUNT = (s.rd F.SVP_STAT_SCOUNT + 1) % 256 ∧
    (s.svp.inc = false → (s.svpAdvance phase).svp = { s.svp with asked := false, got := none, failed := false, phase := phase }) ∧
    (s.svp.inc = true → sameBlock s.svp.off (s.svp.off + 4) = true →
      (s.svpAdvance phase).svp.phase = phase ∧ (s.svpAdvance phase).svp.off = s.svp.off + 4) ∧
    (s.svp.inc = true → sameBlock s.svp.off (s.svp.off + 4) = false →
      (s.svpAdvance phase).svp.phase = .ended ∧ (s.svpAdvance phase).rd F.SVP_STAT_END = 1) := by
  unfold State.svpAdvance
  extract_lets u y x
  have hcount : u.rd F.SVP_STAT_SCOUNT = (s.rd F.SVP_STAT_SCOUNT + 1) % 256 := (State.rd_wr ..).trans (Nat.mod_mod _ _)
  split
  case isTrue hi =>
    have hi : s.svp.inc = false := hi
    exact ⟨rfl, hcount, fun _ => rfl, fun h => absurd h (by simp [hi]), fun h => absurd h (by simp [hi])⟩
  case isFalse hi =>
    split
    case isTrue hb =>
      have hb : sameBlock s.svp.off (s.svp.off + 4) = true := hb
      exact ⟨rfl, hcount, fun h => absurd h hi, fun _ _ => ⟨rfl, rfl⟩, fun _ h => absurd hb (by simp [h])⟩
    case isFalse hb =>
      obtain ⟨esvp, eout, erd⟩ := (({ u with svp := { x with phase := .ended } } : State).wr F.SVP_STAT_END 1).svpEvent_frame 2211 0
      exact ⟨eout, (erd ..).trans ((State.rd_wr_ne _ _ _ _ _ _ (by decide)).trans hcount), fun h => absurd h hi, fun _ h => absurd h hb,
        fun _ _ => ⟨by rw [esvp]; rfl, (erd ..).trans (State.rd_wr ..)⟩⟩

theorem exec_dataWord_read (v : BitVec 32) (h : s.svp.phase = .data) :
    exec (.dataWord v) s = .next ((s.svpSlot (s.svp.got.getD 0)).svpAdvance .status) := by
  change execDataWord v s = _
  unfold execDataWord
  rw [h]

theorem exec_dataWord_write (v : BitVec 32) (h : s.svp.phase = .write) : exec (.dataWord v) s = .next (
    if s.svp.wbuf.length ≥ 4 then s.svpStatus ssBusy
    else ({ s.svpStatus ssReady with svp := { s.svp with wbuf := s.svp.wbuf ++ [(s.svp.off, v.toNat)] } } : State).svpAdvance .write) := by
  change execDataWord v s = _
  unfold execDataWord
  rw [h]
  rfl

theorem dataWord_returns (v : BitVec 32) (h : s.svp.phase = .data) : ∃ t, exec (.dataWord v) s = .next t ∧
    t.out = s.out ++ [OutMsg.slot (s.svp.got.getD 0)] ∧ t.rd F.SVP_STAT_SCOUNT = (s.rd F.SVP_STAT_SCOUNT + 1) % 256 ∧
    (s.svp.inc = false → t.svp.phase = .status ∧ t.svp.off = s.svp.off ∧ t.svp.got = none) ∧
    (s.svp.inc = true → sameBlock s.svp.off (s.svp.off + 4) = true → t.svp.phase = .status ∧ t.svp.off = s.svp.off + 4) ∧
    (s.svp.inc = true → sameBlock s.svp.off (s.svp.off + 4) = false → t.svp.phase = .ended ∧ t.rd F.SVP_STAT_END = 1) := by
  obtain ⟨hout, hcount, hstay, hnext, hend⟩ := (s.svpSlot (s.svp.got.getD 0)).svpAdvance_shows .status
  exact ⟨_, exec_dataWord_read v h, hout, hcount, fun hi => by rw [hstay hi]; exact ⟨rfl, rfl, rfl⟩, hnext, hend⟩

theorem dataWord_buffers (v : BitVec 32) (h : s.svp.phase = .write) (hroom : s.svp.wbuf.length < 4) (hinc : s.svp.inc = false) :
    ∃ t, exec (.dataWord v) s = .next t ∧ t.svp.wbuf = s.svp.wbuf ++ [(s.svp.off, v.toNat)] ∧ t.svp.phase = .write ∧
      t.rd F.SVP_STAT_SCOUNT = (s.rd F.SVP_STAT_SCOUNT + 1) % 256 ∧
      t.out = s.out ++ [OutMsg.slot (0x53560000 + ssReady * 256 + s.rd F.SVP_STAT_SCOUNT)] := by
  obtain ⟨hout, hcount, hstay, -⟩ :=
    ({ s.svpStatus ssReady with svp := { s.svp with wbuf := s.svp.wbuf ++ [(s.svp.off, v.toNat)] } } : State).svpAdvance_shows .write
  refine ⟨_, (exec_dataWord_write v h).trans (congrArg _ (if_neg (Nat.not_le.2 hroom))), ?_, ?_, hcount, hout⟩
  · rw [hstay hinc]
  · rw [hstay hinc]

/-- The status slot of a read that has been asked for asks no more (R562). -/
theorem exec_statusSlot_asked (waits : Bool) (h : s.svp.phase = .status) (ha : s.svp.asked = true) : exec (.statusSlot waits) s = .next (
    if s.svp.got = none ∨ waits = true then s.svpStatus ssBusy
    else { (s.svpStatus (if s.svp.failed then ssError else ssReady)) with svp := { s.svp with phase := .data } }) := by
  have hstart : s.svpStart = s := if_pos (.inl ha)
  change execStatusSlot waits s = _
  unfold execStatusSlot
  rw [h]
  dsimp only
  rw [hstart]

theorem exec_statusSlot_refused (waits : Bool) (h : s.svp.phase = .refused) : exec (.statusSlot waits) s = .next (s.svpStatus ssError) := by
  change execStatusSlot waits s = _
  unfold execStatusSlot
  rw [h]

theorem exec_statusSlot_ended (waits : Bool) (h : s.svp.phase = .ended) : exec (.statusSlot waits) s = .next (s.svpStatus ssEnd) := by
  change execStatusSlot waits s = _
  unfold execStatusSlot
  rw [h]

theorem State.svpEnd_shows (s : State) (cut : Bool) : (s.svpEnd cut).svp.phase = .idle ∧ (s.svpEnd cut).svp.got = none ∧
    (cut = true → (s.svpEnd cut).rd F.SVP_STAT_SHORT = 1) := by
  unfold State.svpEnd
  extract_lets x u v
  obtain ⟨lsvp, -, lrd⟩ := v.svpEvent_if (c := v.on F.SVP_CFG_SEV = true) 2209 (v.rd F.SVP_STAT_SCOUNT)
  obtain ⟨esvp, -, erd⟩ := (u.wr F.SVP_STAT_SHORT 1).svpEvent_frame 2210 0
  have hv : v.svp = u.svp := by
    simp only [v]
    split
    · exact esvp
    · rfl
  rw [lsvp, hv, lrd]
  refine ⟨rfl, rfl, fun hc => ?_⟩
  simp only [v, hc, if_true]
  exact (erd ..).trans (State.rd_wr ..)

theorem exec_selectRelease (waits : Bool) (hsel : s.svpSlave = true) (hp : s.svp.phase ≠ .idle) :
    exec (.selectRelease waits) s = .next (s.svpEnd waits) :=
  congrArg Host.Outcome.next ((if_neg (by simp [hsel, hp])).trans (congrArg (State.svpEnd · waits) (if_neg hp)))

theorem exec_postedWrite_next {e : Nat × Nat} {rest : List (Nat × Nat)} (h : s.svp.wbuf = e :: rest) (hx : ∀ a ∈ s.xwait, a.from_ ≠ .svp) :
    exec .postedWrite s = .next (s.access .svp true e.1 e.2) := by
  have hany : ¬ s.xwait.any (fun (a : XAcc) => a.from_ == XFrom.svp && a.write) = true := by
    simp only [List.any_eq_true, Bool.and_eq_true, beq_iff_eq, not_exists, not_and]
    exact fun a ha hf => absurd hf (hx a ha)
  change execPostedWrite s = _
  unfold execPostedWrite
  rw [h]
  exact congrArg Host.Outcome.next (if_neg hany)

theorem exec_postedWrite_empty (h : s.svp.wbuf = []) : exec .postedWrite s = .next s := by
  change execPostedWrite s = _
  unfold execPostedWrite
  rw [h]

end Slave

/-! #### The performance counters (R572 to R574) -/

section Counters

variable {s : State}

/-- Counters below one that changes show what they showed. -/
theorem State.pmcFull_set_below (s : State) {b c : Nat} (x : PmcX) (h : b < c) :
    ({ s with pmc := s.pmc.set {} c x } : State).pmcFull b = s.pmcFull b := by
  induction b with
  | zero =>
    rw [State.pmcFull, State.pmcFull, NStore.at_set, if_neg h.ne]
    rfl
  | succ b ih =>
    have hb : b < c := Nat.lt_of_succ_lt h
    rw [State.pmcFull, State.pmcFull, NStore.at_set, if_neg h.ne, NStore.at_set, if_neg hb.ne, ih hb]
    rfl

/-- A counter shows its count as moved, whether it counts overflows, ticks or an event. -/
theorem State.pmcFull_set (s : State) (c : Nat) (x : PmcX) :
    ({ s with pmc := s.pmc.set {} c x } : State).pmcFull c = s.pmcFull c + (x.cnt - (s.pmc.at {} c).cnt) := by
  have hchain (b : Nat) : ({ s with pmc := s.pmc.set {} c x } : State).chained b = s.chained b := rfl
  have htick (b : Nat) : ({ s with pmc := s.pmc.set {} c x } : State).ticking b = s.ticking b := rfl
  have hcount (b : Nat) : ({ s with pmc := s.pmc.set {} c x } : State).tickOfPmc b = s.tickOfPmc b := rfl
  cases c with
  | zero =>
    rw [State.pmcFull, State.pmcFull, htick, hcount, NStore.at_set, if_pos rfl]
    omega
  | succ b =>
    have hb : b < b + 1 := Nat.lt_succ_self b
    rw [State.pmcFull, State.pmcFull, hchain, htick, hcount, s.pmcFull_set_below x hb, NStore.at_set, if_pos rfl, NStore.at_set, if_neg hb.ne]
    split <;> omega

/-- PMC_SEL as a write of a legal event leaves it. -/
def State.pmcSelFields (s : State) (c v : Nat) : State :=
  (((s.wr F.PMC_SEL_EVENT (bits v 7 0) c).wr F.PMC_SEL_UNIT (bits v 23 12) c).wr F.PMC_SEL_OVEV (bit v 30) c).wr F.PMC_SEL_CHAIN
    (if c = 0 ∨ (c ≥ 384 ∧ (c - 384) % 32 = 0) then 0 else bit v 31) c

theorem State.pmcSelect_legal {c v : Nat} (h : selOk c (bits v 7 0) (bits v 23 12) = true) : s.pmcSelect c v =
    (let u := (s.pmcSelFields c v).pmcLoad c 0
     { u with pmc := u.pmc.set {} c { cnt := (u.pmc.at {} c).cnt + s.pmcFull c, wraps := ((s.pmcSelFields c v).pmc.at {} c).wraps } }) :=
  if_neg (by simp [h])

theorem pmcSelWrite_selects {c : PmcId} {v : BitVec 32} (h : selOk c (bits v.toNat 7 0) (bits v.toNat 23 12) = true) :
    ∃ t, exec (.pmcSelWrite c v) s = .next t ∧ t.rd F.PMC_SEL_EVENT c = bits v.toNat 7 0 ∧ t.rd F.PMC_SEL_UNIT c = bits v.toNat 23 12 ∧
      t.rd F.PMC_SEL_OVEV c = bit v.toNat 30 ∧ t.pmcFull c = s.pmcFull c := by
  refine ⟨_, congrArg Host.Outcome.next (State.pmcSelect_legal h), ?_, ?_, ?_, ?_⟩
  · exact (State.rd_wr_ne _ _ _ _ _ _ (by decide)).trans ((State.rd_wr_ne _ _ _ _ _ _ (by decide)).trans
      ((State.rd_wr_ne _ _ _ _ _ _ (by decide)).trans ((State.rd_wr s F.PMC_SEL_EVENT ..).trans (bits_mod_width _ _ _ rfl))))
  · exact (State.rd_wr_ne _ _ _ _ _ _ (by decide)).trans ((State.rd_wr_ne _ _ _ _ _ _ (by decide)).trans
      ((State.rd_wr (s.wr F.PMC_SEL_EVENT _ c) F.PMC_SEL_UNIT ..).trans (bits_mod_width _ _ _ rfl)))
  · exact (State.rd_wr_ne _ _ _ _ _ _ (by decide)).trans
      ((State.rd_wr ((s.wr F.PMC_SEL_EVENT _ c).wr F.PMC_SEL_UNIT _ c) F.PMC_SEL_OVEV ..).trans (bit_mod_width _ _ rfl))
  · rw [State.pmcFull_set, State.pmcFull_pmcLoad]
    dsimp only
    omega

theorem exec_pmcSelWrite_illegal {c : PmcId} {v : BitVec 32} (h : selOk c (bits v.toNat 7 0) (bits v.toNat 23 12) = false) :
    exec (.pmcSelWrite c v) s = .next (s.wr F.PMC_STAT_SELBAD 1) := congrArg Host.Outcome.next (if_pos h)

theorem NStore.wraps_pulse (m : NStore PmcX) (n : Nat) (l : List Nat) (b : Nat) :
    ((l.foldl (fun m c => m.set {} c ((m.at {} c).plus n)) m).at {} b).wraps = (m.at {} b).wraps := by
  induction l generalizing m with
  | nil => rfl
  | cons c l ih =>
    rw [List.foldl_cons, ih, NStore.at_set]
    split
    · next h => rw [h]; rfl
    · rfl

/-- An event that is counted wraps no counter. -/
theorem State.wraps_raise (s : State) (src info : Nat) (payload : List Nat) (stamp : Stamp) (b : Nat) :
    ((s.raise src info payload stamp).pmc.at {} b).wraps = (s.pmc.at {} b).wraps := by
  refine (NStore.wraps_pulse ..).trans ?_
  exact congrArg (fun m => (NStore.at {} m b).wraps) ((State.emit_does ..).pmc (by decide))

/-- The counters as a wrap of one is taken in, by it and by the one chained to it (R573, R574). -/
def State.wrapTaken (s : State) (c : Nat) : State :=
  let x : PmcX := s.pmc.at {} c
  let s := { s with pmc := s.pmc.set {} c { x with wraps := x.wraps + 1 } }
  if s.chained (c + 1) ∧ c + 1 < 512 then
    (let y : PmcX := s.pmc.at {} (c + 1)
     { s with pmc := s.pmc.set {} (c + 1) { y with cnt := y.cnt + 1 } })
  else s

theorem State.wraps_wrapTaken (s : State) (c : Nat) : ((s.wrapTaken c).pmc.at {} c).wraps = (s.pmc.at {} c).wraps + 1 := by
  unfold State.wrapTaken
  dsimp only
  split
  · rw [NStore.at_set, if_neg (Nat.ne_of_lt (Nat.lt_succ_self c)), NStore.at_set, if_pos rfl]
  · rw [NStore.at_set, if_pos rfl]

theorem exec_counterOverflow {c : PmcId} (h : (s.pmc.at {} c.val).wraps < s.pmcFull c / (2 ^ 48 : Nat)) :
    exec (.counterOverflow c) s = .next (
      let u := (s.wrapTaken c).wr F.PMC_OVF_OVF (withBit ((s.wrapTaken c).rd F.PMC_OVF_OVF (c / 32)) (c % 32)) (c / 32)
      if u.on F.PMC_SEL_OVEV c then u.raise (2224 + c / 8) c [0] u.now else u) :=
  congrArg Host.Outcome.next (if_neg (Int.not_le.2 h))

theorem counterOverflow_wraps {c : PmcId} (h : (s.pmc.at {} c.val).wraps < s.pmcFull c / (2 ^ 48 : Nat)) :
    ∃ t, exec (.counterOverflow c) s = .next t ∧ (t.pmc.at {} c.val).wraps = (s.pmc.at {} c.val).wraps + 1 ∧
      hasBit (t.rd F.PMC_OVF_OVF (c.val / 32)) (c.val % 32) = true := by
  refine ⟨_, exec_counterOverflow h, ?_⟩
  dsimp only
  generalize hu : (s.wrapTaken c).wr F.PMC_OVF_OVF _ (c / 32) = u
  have hwraps : (u.pmc.at {} c.val).wraps = (s.pmc.at {} c.val).wraps + 1 := hu ▸ s.wraps_wrapTaken c
  have hlt : c.val % 32 < F.PMC_OVF_OVF.width := Nat.mod_lt c.val (by decide)
  have hbit : hasBit (u.rd F.PMC_OVF_OVF (c.val / 32)) (c.val % 32) = true := by
    rw [← hu, State.rd_wr, hasBit_mod_two_pow _ hlt, hasBit_withBit]
  split
  · exact ⟨(State.wraps_raise ..).trans hwraps, by rw [(State.raise_does ..).rd F.PMC_OVF_OVF _ _ (by decide), hbit]⟩
  · exact ⟨hwraps, hbit⟩

end Counters

/-! #### The triggers (R591, R592) -/

section Triggers

variable {s : State} {i : Fin 4}

/-- A trigger input as a transition leaves it. -/
def State.trigMoved (s : State) (i : Nat) (high : Bool) (t : Stamp) : State :=
  { s with trigs := s.trigs.set {} i { s.trigs.at {} i with inHigh := high, inT := some t } }

/-- Whether a transition follows the last within less than 2 ns. -/
def TrigX.tooSoon (x : TrigX) (t : Stamp) : Bool :=
  match x.inT with | some u => decide (ahead t (u + ticks 3) < 0) | none => false

theorem TrigX.tooSoon_none {x : TrigX} (h : x.inT = none) (t : Stamp) : x.tooSoon t = false := by
  rw [TrigX.tooSoon, h]

theorem TrigX.tooSoon_some {x : TrigX} {t u : Stamp} (h : x.inT = some u) (hlt : ahead t (u + ticks 3) < 0) : x.tooSoon t = true := by
  rw [TrigX.tooSoon, h]
  exact decide_eq_true hlt

theorem exec_trigIn_moves {high : Bool} (frac : Fin 1024) (h : (s.trigs.at {} i.val).inHigh ≠ high) : exec (.trigIn i high frac) s = .next (
    if (s.trigs.at {} i.val).tooSoon (s.fracStamp frac) then s.trigMoved i high (s.fracStamp frac)
    else ((s.trigMoved i high (s.fracStamp frac)).raise (2216 + i) (if high then 0 else 1) [] (s.fracStamp frac)).iuOther 3 i none
      (if high then 0 else 1) (s.fracStamp frac)) :=
  congrArg Host.Outcome.next (if_neg h)

theorem trigIn_stamps {high : Bool} (frac : Fin 1024) (h : (s.trigs.at {} i.val).inHigh ≠ high) :
    ∃ t, exec (.trigIn i high frac) s = .next t ∧ (t.trigs.at {} i.val).inHigh = high ∧
      (t.trigs.at {} i.val).inT = some (s.fracStamp frac) ∧
      (∀ u, (s.trigs.at {} i.val).inT = some u → ahead (s.fracStamp frac) (u + ticks 3) < 0 → t.evq = s.evq ∧ t.ius = s.ius) ∧
      (∀ ring, (s.trigs.at {} i.val).inT = none → s.routeOf (2216 + i.val) = some ring → t.evq = s.evq ++
        [EvRec.mk (2216 + i.val) 1 (s.fracStamp frac) (s.seqs.at 0 (2216 + i.val)) (if high then 0 else 1) [] (some ring)]) := by
  refine ⟨_, exec_trigIn_moves frac h, ?_⟩
  have hmoved : ((s.trigMoved i high (s.fracStamp frac)).trigs.at {} i.val) =
      { s.trigs.at {} i.val with inHigh := high, inT := some (s.fracStamp frac) } := by
    rw [State.trigMoved, NStore.at_set, if_pos rfl]
  split
  case isTrue hsoon =>
    rw [hmoved]
    exact ⟨rfl, rfl, fun _ _ _ => ⟨rfl, rfl⟩, fun ring hnone => Bool.noConfusion ((TrigX.tooSoon_none hnone _).symm.trans hsoon)⟩
  case isFalse hnot =>
    generalize hu : s.trigMoved i high (s.fracStamp frac) = u at hmoved
    generalize hw : u.raise (2216 + i) (if high then 0 else 1) [] (s.fracStamp frac) = w
    have dw : Does 0x9800008 0x0 u w := hw ▸ State.raise_does ..
    have dt := w.iuOther_does 3 i none (if high then 0 else 1) (s.fracStamp frac)
    rw [dt.trigs (by decide), dw.trigs (by decide), hmoved, dt.evq (by decide)]
    refine ⟨rfl, rfl, fun v hv hlt => ?_, fun ring _ hr => ?_⟩
    · exact absurd (TrigX.tooSoon_some hv hlt) hnot
    · have hr' : u.routeOf (2216 + i.val) = some ring := hu ▸ hr
      rw [← hw, State.raise_evq, hr', ← hu]
      rfl

/-- A rise that is due at an output at rest; while ECLK is stopped it is dropped (R592). -/
theorem exec_trigOut_due {d : Stamp} (hd : (s.trigs.at {} i.val).due = some d) (ht : reached d s.now = true)
    (hl : (s.trigs.at {} i.val).outHigh = false) : exec (.trigOut i) s = .next (
      if s.power ≥ 2 then { s with trigs := s.trigs.set {} i { s.trigs.at {} i.val with due := none } }
      else ({ s with trigs := s.trigs.set {} i { s.trigs.at {} i.val with outHigh := true, roseT := d, due := none } } : State).raise (2220 + i) 0 [] d) := by
  change execTrigOut i s = _
  unfold execTrigOut
  dsimp only
  rw [hd]
  exact congrArg Host.Outcome.next (if_neg (not_or.2 ⟨by rw [ht]; decide, by rw [hl]; decide⟩))

theorem exec_trigOut_not (h : (s.trigs.at {} i.val).due = none ∨ (s.trigs.at {} i.val).outHigh = true) : exec (.trigOut i) s = .next s := by
  change execTrigOut i s = _
  unfold execTrigOut
  dsimp only
  cases hd : (s.trigs.at {} i.val).due with
  | none => rfl
  | some d => exact congrArg Host.Outcome.next (if_pos (.inr (h.resolve_left fun hnone => nomatch hd.symm.trans hnone)))

theorem trigOut_rises {d : Stamp} (hd : (s.trigs.at {} i.val).due = some d) (ht : reached d s.now = true)
    (hl : (s.trigs.at {} i.val).outHigh = false) (hp : s.power < 2) : ∃ t, exec (.trigOut i) s = .next t ∧
      (t.trigs.at {} i.val).outHigh = true ∧ (t.trigs.at {} i.val).roseT = d ∧ (t.trigs.at {} i.val).due = none := by
  refine ⟨_, (exec_trigOut_due hd ht hl).trans (congrArg _ (if_neg (Nat.not_le.2 hp))), ?_⟩
  rw [(State.raise_does ..).trigs (by decide), NStore.at_set, if_pos rfl]
  exact ⟨rfl, rfl, rfl⟩

theorem trigOut_drops {d : Stamp} (hd : (s.trigs.at {} i.val).due = some d) (ht : reached d s.now = true)
    (hl : (s.trigs.at {} i.val).outHigh = false) (hp : 2 ≤ s.power) : ∃ t, exec (.trigOut i) s = .next t ∧
      (t.trigs.at {} i.val).outHigh = false ∧ (t.trigs.at {} i.val).due = none := by
  refine ⟨_, (exec_trigOut_due hd ht hl).trans (congrArg _ (if_pos hp)), ?_⟩
  dsimp only
  rw [NStore.at_set, if_pos rfl]
  exact ⟨hl, rfl⟩

theorem trigOutFall_falls (hh : (s.trigs.at {} i.val).outHigh = true)
    (h : reached (s.trigs.at {} i.val).fall s.now = true ∨ (s.trigs.at {} i.val).due.isSome = true) :
    ∃ t, exec (.trigOutFall i) s = .next t ∧ (t.trigs.at {} i.val).outHigh = false := by
  refine ⟨_, congrArg Host.Outcome.next (if_pos ⟨hh, h⟩), ?_⟩
  dsimp only
  rw [NStore.at_set, if_pos rfl]

theorem exec_trigOutFall_low (hl : (s.trigs.at {} i.val).outHigh = false) : exec (.trigOutFall i) s = .next s :=
  congrArg Host.Outcome.next (if_neg fun h => Bool.noConfusion (hl.symm.trans h.1))

end Triggers

theorem boundaryScan_shifts (s : State) (tdi : List Bool) : ∃ t, exec (.boundaryScan (.shift tdi)) s = .next t ∧
    t.jtag.dr = (s.jtagCapture ++ tdi).drop tdi.length ∧ t.out = s.out ++ [OutMsg.scan ((s.jtagCapture ++ tdi).take tdi.length)] := by
  refine ⟨_, rfl, ?_⟩
  dsimp only
  split <;> exact ⟨rfl, rfl⟩

/-- Settles O60, by what each word, slot and release leaves at the service port, a selection and a wrap at a counter, a transition at a
trigger, and a shift in the scan chain. -/
theorem servicePortCountersTriggersAndScan : Obligations.ServicePortCountersTriggersAndScan := by
  unfold Obligations.ServicePortCountersTriggersAndScan
  intro s
  refine ⟨fun v => ⟨fun hst hw hm => ⟨_, exec_svpMtx_starts hst hw hm, rfl, rfl, rfl⟩,
      fun h => ⟨_, exec_svpMtx_busy h, State.rd_wr .., rfl⟩, masterWordEnd_ends v, fun hw => congrArg Host.Outcome.next (if_pos hw),
      commandWord_begins v, fun h => congrArg Host.Outcome.next (if_pos (h.imp_right .inl)), dataWord_returns v, dataWord_buffers v,
      fun hp hfull => (exec_dataWord_write v hp).trans (congrArg _ (if_pos hfull))⟩,
    fun hst hw => ⟨_, congrArg Host.Outcome.next ((if_neg (by simp [hst])).trans (if_neg (by simp [hw]))), rfl⟩,
    fun hst hw => ⟨_, congrArg Host.Outcome.next ((if_neg (by simp [hst])).trans (if_pos hw)), rfl, rfl⟩,
    fun hst => ⟨_, congrArg Host.Outcome.next (if_pos hst), State.rd_wr .., rfl⟩,
    fun waits => ⟨fun v hp ha hg hw => ⟨_, (exec_statusSlot_asked waits hp ha).trans (congrArg _ (if_neg (by simp [hg, hw]))), rfl, hg, rfl⟩,
      fun hp ha h => (exec_statusSlot_asked waits hp ha).trans (congrArg _ (if_pos h)), exec_statusSlot_refused waits, exec_statusSlot_ended waits,
      fun hsel hp => ⟨_, exec_selectRelease waits hsel hp, s.svpEnd_shows waits⟩,
      fun hsel => congrArg Host.Outcome.next (if_pos (.inl hsel))⟩,
    exec_postedWrite_empty, fun e rest => exec_postedWrite_next,
    fun c v => ⟨pmcSelWrite_selects, fun h => ⟨_, exec_pmcSelWrite_illegal h, State.rd_wr .., rfl, State.rd_wr_ne _ _ _ _ _ _ (by decide)⟩,
      counterOverflow_wraps, fun h => congrArg Host.Outcome.next (if_pos h)⟩,
    ?triggers, ⟨_, rfl, rfl⟩, fun ir => ⟨_, rfl, rfl⟩, boundaryScan_shifts s⟩
  case triggers =>
    rintro i _ rfl
    exact ⟨fun high frac => ⟨fun h => congrArg Host.Outcome.next (if_pos h), trigIn_stamps frac⟩,
      fun d hd ht hl => ⟨trigOut_rises hd ht hl, trigOut_drops hd ht hl⟩, exec_trigOut_not, trigOutFall_falls, exec_trigOutFall_low⟩

end Sys2Proof.Machine
end

/-! ### Scope: the training and the latency of fabric ports -/

section
namespace Sys2Proof.Machine

open Sys2Proof

/-! #### A port enters a state (R436, R463) -/

/-- A port's state is written, and the tick since when it holds. -/
def State.markPortSt (s : State) (p st : Nat) : State :=
  (s.wr F.FAB_PSTAT_STATE st p).setPort p { s.port p with since := s.now, retry := false }

/-- What may change between two states where a port enters a state, beside the state itself. -/
abbrev PortSettles (s t : State) : Prop :=
  Does 0x400000b800008 0x1000000000000000000000000000000 s t

/-- Beyond the mark only events and live causes follow. -/
theorem State.setPortSt_does_marked (s : State) (p st : Nat) :
    PortSettles (s.markPortSt p st) (s.setPortSt p st) := by
  have ev {a b : State} {c : Prop} [Decidable c] (k info : Nat) (h : PortSettles a b) :
      PortSettles a (if c then b.portEvent p k info else b) :=
    .ite (fun _ => .step (State.portEvent_does ..) (by decide) (by decide) h) fun _ => h
  have det {a b : State} {c : Prop} [Decidable c] (i : Nat) (h : PortSettles a b) :
      PortSettles a (if c then b.detect i p 0 else b) :=
    .ite (fun _ => .step (State.detect_does ..) (by decide) (by decide) h) fun _ => h
  have up : PortSettles (s.markPortSt p st)
      (if st = ptUp then ((s.markPortSt p st).portEvent p 1 0).endLive (32 + p) none else s.markPortSt p st) :=
    .ite (fun _ => .step (State.endLive_does ..) (by decide) (by decide) (.step (State.portEvent_does ..) (by decide) (by decide) (.refl ..)))
      fun _ => .refl ..
  have last := det (c := st = ptMiswired) (40 + p) (det (c := st = ptDown) (32 + p) (ev (c := st = ptTrain ∧ s.portSt p = ptUp) 3 0
    (ev (c := st = ptDown ∨ st = ptFenced ∨ st = ptMiswired) 2 0 up)))
  exact .ite (fun _ => .step (State.endLive_does ..) (by decide) (by decide) last) fun _ => last

/-- The port that enters a state shows it; its other fields and what the link holds stay. -/
theorem State.setPortSt_shows (s : State) (p : Nat) {st : Nat} (h : st < 16) : (s.setPortSt p st).portSt p = st ∧
    (s.setPortSt p st).port p = { s.port p with since := s.now, retry := false } ∧
    (∀ f : Fld, f.lo ≠ 28 → f.reg = .FAB_PSTAT → ∀ i j, (s.setPortSt p st).rd f i j = s.rd f i j) ∧ (s.setPortSt p st).out = s.out := by
  have d := s.setPortSt_does_marked p st
  refine ⟨?_, ?_, fun f hlo hreg i j => ?_, d.out (by decide)⟩
  · exact (d.rd F.FAB_PSTAT_STATE p 0 (by decide)).trans ((State.rd_wr s F.FAB_PSTAT_STATE st p 0).trans (Nat.mod_eq_of_lt h))
  · have hp : (s.setPortSt p st).port p = (s.markPortSt p st).port p := congrArg (fun x => x.at {} p) (d.ports (by decide))
    rw [hp]
    exact NStore.at_set .. |>.trans (if_pos rfl)
  · rw [d.rd f i j (by rw [hreg]; decide)]
    exact State.rd_wr_ne _ _ _ _ _ _ (.inr (Ne.symm hlo))

/-- A port that goes DOWN is a fault found (R462, R491). -/
theorem State.setPortSt_down (s : State) (p : Nat) : (s.setPortSt p ptDown).faultq = s.faultq ++ [FaultIn.mk (32 + p) p 0 false s.now] := by
  have hu : (((s.markPortSt p ptDown).portEvent p 2 0).detect (32 + p) p 0).faultq = s.faultq ++ [FaultIn.mk (32 + p) p 0 false s.now] := by
    have d := (s.markPortSt p ptDown).portEvent_does p 2 0
    rw [State.detect_faultq, d.faultq (by decide), d.now (by decide)]
    rfl
  have hset : s.setPortSt p ptDown = (let u := ((s.markPortSt p ptDown).portEvent p 2 0).detect (32 + p) p 0
      if s.portSt p = ptMiswired ∧ ptDown ≠ ptMiswired then u.endLive (40 + p) none else u) := rfl
  rw [hset]
  dsimp only
  split
  · exact ((State.endLive_does ..).faultq (by decide)).trans hu
  · exact hu

theorem State.toIdle_shows (s : State) (p : Nat) {st : Nat} (h : st < 16) : (s.toIdle p st).portSt p = st ∧
    (s.toIdle p st).rd F.FAB_PSTAT_WIDTH p = 0 := by
  have d := (((s.setPortSt p st).wr F.FAB_PSTAT_WIDTH 0 p).wr F.FAB_PSTAT_LATV 0 p).portLost_does p
  obtain ⟨hst, -⟩ := s.setPortSt_shows p h
  refine ⟨(d.rd F.FAB_PSTAT_STATE p 0 (by decide)).trans ?_, (d.rd F.FAB_PSTAT_WIDTH p 0 (by decide)).trans ?_⟩
  · exact (State.rd_wr_ne _ _ _ _ _ _ (by decide)).trans ((State.rd_wr_ne _ _ _ _ _ _ (by decide)).trans hst)
  · exact (State.rd_wr_ne _ _ _ _ _ _ (by decide)).trans (State.rd_wr ..)

theorem State.toTrain_shows (s : State) (p : Nat) : (s.toTrain p).portSt p = ptTrain ∧ (s.toTrain p).rd F.FAB_PSTAT_LATV p = 0 ∧
    (s.toTrain p).rd F.FAB_PSTAT_PEERV p = 0 := by
  have d := ((((s.setPortSt p ptTrain).wr F.FAB_PSTAT_WIDTH 0 p).wr F.FAB_PSTAT_LATV 0 p).wr F.FAB_PSTAT_PEERV 0 p).portLost_does p
  obtain ⟨hst, -⟩ := s.setPortSt_shows p (st := ptTrain) (by decide)
  refine ⟨(d.rd F.FAB_PSTAT_STATE p 0 (by decide)).trans ?_, (d.rd F.FAB_PSTAT_LATV p 0 (by decide)).trans ?_,
    (d.rd F.FAB_PSTAT_PEERV p 0 (by decide)).trans (State.rd_wr ..)⟩
  · exact (State.rd_wr_ne _ _ _ _ _ _ (by decide)).trans
      ((State.rd_wr_ne _ _ _ _ _ _ (by decide)).trans ((State.rd_wr_ne _ _ _ _ _ _ (by decide)).trans hst))
  · exact (State.rd_wr_ne _ _ _ _ _ _ (by decide)).trans (State.rd_wr ..)

theorem State.port_setPort (s : State) (p : Nat) (x : PortX) : (s.setPort p x).port p = x :=
  (NStore.at_set ..).trans (if_pos rfl)

/-! #### Probes and their answers (R447) -/

/-- A latency flit leaves; nothing of the port changes. -/
theorem State.sendLmeas_shows (s : State) (p : Nat) (bytes : List Nat) :
    (s.sendLmeas p bytes).out = s.out ++ [OutMsg.link p (Flit.link tyLmeas 0 false 0 0 bytes)] ∧ (s.sendLmeas p bytes).port p = s.port p :=
  ⟨rfl, rfl⟩

/-- A probe leaves with the index of its exchange, and its departure is noted. -/
theorem State.sendProbe_shows (s : State) (p : Nat) (depart : Stamp) :
    (s.sendProbe p depart).port p = { s.port p with t1 := some depart } ∧
    (s.sendProbe p depart).out = s.out ++ [OutMsg.link p (Flit.link tyLmeas 0 false 0 0 (toBytes 8 (s.port p).idx))] :=
  ⟨State.port_setPort .., rfl⟩

theorem State.startLatency_shows (s : State) (p : Nat) (depart : Stamp) : (s.startLatency p depart).portSt p = ptLatency ∧
    (∀ f : Fld, f.lo ≠ 28 → f.reg = .FAB_PSTAT → ∀ i j, (s.startLatency p depart).rd f i j = s.rd f i j) ∧
    ((s.startLatency p depart).port p).uid = (s.port p).uid ∧ ((s.startLatency p depart).port p).t1 = some depart ∧
    ((s.startLatency p depart).port p).idx = 0 ∧
    (s.startLatency p depart).out = s.out ++ [OutMsg.link p (Flit.link tyLmeas 0 false 0 0 (toBytes 8 0))] := by
  obtain ⟨hst, hport, hrd, hout⟩ := s.setPortSt_shows p (st := ptLatency) (by decide)
  unfold State.startLatency
  dsimp only
  generalize hu : (s.setPortSt p ptLatency).setPort p _ = u
  have d := u.sendProbe_does p depart
  have hx : u.port p = { s.port p with since := s.now, retry := false, idx := 0, t1 := none, attempt := 1, lo := 0, hi := 0, sum := 0 } := by
    rw [← hu, State.port_setPort, hport]
  have hmid (f : Fld) (i j : Nat) : u.rd f i j = (s.setPortSt p ptLatency).rd f i j := hu ▸ rfl
  have hmout : u.out = s.out := by rw [← hu]; exact hout
  obtain ⟨hprobe, hsent⟩ := u.sendProbe_shows p depart
  refine ⟨(d.rd F.FAB_PSTAT_STATE p 0 (by decide)).trans ((hmid ..).trans hst),
    fun f hlo hreg i j => (d.rd f i j (Nat.zero_testBit _)).trans ((hmid ..).trans (hrd f hlo hreg i j)), ?_, ?_, ?_, ?_⟩
  · rw [hprobe, hx]
  · rw [hprobe]
  · rw [hprobe, hx]
  · rw [hsent, hmout, hx]

/-- A port whose probe has been answered: the round trip joins the sum and the extremes. -/
def PortX.answered (x : PortX) (rtt trim : Int) : PortX :=
  { x with
    t1 := none
    idx := x.idx + 1
    lo := if x.idx = 0 then rtt else min x.lo rtt
    hi := if x.idx = 0 then rtt else max x.hi rtt
    sum := if x.idx = 0 then rtt else x.sum + rtt
    trim := trim }

/-- The round trip of a reply: what passed here less what passed at the peer. -/
def roundTrip (f : Flit) (arrive t1 : Stamp) : Int :=
  (arrive - t1).toInt - (BitVec.ofNat 64 (f.field 16 8) - BitVec.ofNat 64 (f.field 8 8)).toInt

theorem State.takeReply_eq {s : State} {p : Nat} {f : Flit} {t1 : Stamp} (arrive depart : Stamp) (ht1 : (s.port p).t1 = some t1)
    (hidx : f.field 0 1 = (s.port p).idx) : s.takeReply p f arrive depart =
      (let x := (s.port p).answered (roundTrip f arrive t1) (signed 16 (f.field 24 2))
       let y := if x.idx ≥ 256 ∧ x.measured = false then { x with idx := 0, attempt := x.attempt + 1 } else x
       if y.measured then s.setPort p y else (s.setPort p y).sendProbe p depart) := by
  unfold State.takeReply
  dsimp only
  rw [ht1]
  exact if_neg (not_not.2 hidx)

/-- The answer to the probe under way joins the sum; while probes are left the next leaves at once. -/
theorem State.takeReply_next {s : State} {p : Nat} {f : Flit} {t1 : Stamp} (arrive depart : Stamp) (ht1 : (s.port p).t1 = some t1)
    (hidx : f.field 0 1 = (s.port p).idx) (hmore : (s.port p).idx < 255) : s.takeReply p f arrive depart =
      (s.setPort p ((s.port p).answered (roundTrip f arrive t1) (signed 16 (f.field 24 2)))).sendProbe p depart := by
  rw [State.takeReply_eq arrive depart ht1 hidx]
  dsimp only
  have hfew : ((s.port p).answered (roundTrip f arrive t1) (signed 16 (f.field 24 2))).idx < 256 := Nat.succ_lt_succ hmore
  generalize (s.port p).answered _ _ = x at hfew
  have hnot : x.measured = false := by rw [PortX.measured, decide_eq_false (Nat.not_le.2 hfew), Bool.false_and]
  have hfold : ¬(x.idx ≥ 256 ∧ x.measured = false) := fun h => absurd h.1 (Nat.not_le.2 hfew)
  rw [if_neg hfold, hnot]
  exact if_neg (by decide)

/-! #### A port comes up (R447) -/

/-- What a measurement that has ended says of the port: its spread, LATV, LATBAD. -/
def State.tookLatency (s : State) (p : Nat) : State :=
  let x := s.port p
  if x.measured then
    let s := (s.setPort p { x with meas := some (x.sum, x.trim) }).setInlat p
    let s := (s.wr F.FAB_PSTAT_SPREAD (min (x.hi - x.lo).toNat 32767) p).wr F.FAB_PSTAT_LATV (ofBool (decide ((x.hi - x.lo).toNat ≤ 64))) p
    if (x.hi - x.lo).toNat ≤ 64 then s else s.wr F.FAB_PSTAT_LATBAD 1 p
  else (s.wr F.FAB_PSTAT_LATV 0 p).wr F.FAB_PSTAT_LATBAD 1 p

theorem State.tookLatency_good {s : State} {p : Nat} (hm : (s.port p).measured = true) (hspread : ((s.port p).hi - (s.port p).lo).toNat ≤ 64) :
    (s.tookLatency p).rd F.FAB_PSTAT_LATV p = 1 := by
  unfold State.tookLatency
  dsimp only
  rw [if_pos hm, if_pos hspread, State.rd_wr, decide_eq_true hspread]
  rfl

theorem State.tookLatency_bad {s : State} {p : Nat}
    (h : (s.port p).measured = false ∨ 64 < ((s.port p).hi - (s.port p).lo).toNat) :
    (s.tookLatency p).rd F.FAB_PSTAT_LATV p = 0 ∧ (s.tookLatency p).rd F.FAB_PSTAT_LATBAD p = 1 := by
  unfold State.tookLatency
  dsimp only
  split
  case isTrue hm =>
    have hspread : ¬ ((s.port p).hi - (s.port p).lo).toNat ≤ 64 := Nat.not_le.2 (h.resolve_left (by simp [hm]))
    rw [if_neg hspread, decide_eq_false hspread]
    exact ⟨(State.rd_wr_ne _ _ _ _ _ _ (by decide)).trans (State.rd_wr ..), State.rd_wr ..⟩
  case isFalse => exact ⟨(State.rd_wr_ne _ _ _ _ _ _ (by decide)).trans (State.rd_wr ..), State.rd_wr ..⟩

/-- Once the measurement is taken the port is UP; what goes out then changes nothing that it shows. -/
theorem State.linkUp_shows (s : State) (p : Nat) : (s.linkUp p).portSt p = ptUp ∧
    (s.linkUp p).rd F.FAB_PSTAT_LATV p = (s.tookLatency p).rd F.FAB_PSTAT_LATV p ∧
    (s.linkUp p).rd F.FAB_PSTAT_LATBAD p = (s.tookLatency p).rd F.FAB_PSTAT_LATBAD p := by
  obtain ⟨hst, -, hrd, -⟩ := (s.tookLatency p).setPortSt_shows p (st := ptUp) (by decide)
  have d : Does 0x188009800008 0x1020000000000000000000000 ((s.tookLatency p).setPortSt p ptUp) (s.linkUp p) := by
    refine .step (State.sendWakes_does ..) (by decide) (by decide) (.step (State.newDetours_does ..) (by decide) (by decide)
      (.step (State.drainPort_does ..) (by decide) (by decide) (.step (State.replayAll_does ..) (by decide) (by decide)
      (.step (State.setPort_does ..) (by decide) (by decide) (.step (State.portEvent_does ..) (by decide) (by decide) (.refl ..))))))
  exact ⟨(d.rd F.FAB_PSTAT_STATE p 0 (by decide)).trans hst,
    (d.rd F.FAB_PSTAT_LATV p 0 (by decide)).trans (hrd F.FAB_PSTAT_LATV (by decide) rfl p 0),
    (d.rd F.FAB_PSTAT_LATBAD p 0 (by decide)).trans (hrd F.FAB_PSTAT_LATBAD (by decide) rfl p 0)⟩

/-! #### The commands of a port -/

section Ports

variable {s : State} {p : PortId}

/-- The port that knows its lanes and its peer (R437). -/
def State.tookPeer (s : State) (p w : Nat) (peer : Peer) : State :=
  let s := (((s.wr F.FAB_PSTAT_WIDTH w p).wr F.FAB_PSTAT_PEERV 1 p).wr F.FAB_PSTAT_PEERPORT peer.port p).wr F.FAB_PSTAT_PEERDEV peer.dev p
  s.setPort p { s.port p with uid := peer.uid }

theorem State.rd_tookPeer (s : State) (p w : Nat) (peer : Peer) (f : Fld) (i j : Nat) : (s.tookPeer p w peer).rd f i j =
    ((((s.wr F.FAB_PSTAT_WIDTH w p).wr F.FAB_PSTAT_PEERV 1 p).wr F.FAB_PSTAT_PEERPORT peer.port p).wr F.FAB_PSTAT_PEERDEV peer.dev p).rd f i j :=
  rfl

theorem State.tookPeer_shows (s : State) (p : Nat) {w : Nat} (hw : w < 4) (peer : Peer) : (s.tookPeer p w peer).rd F.FAB_PSTAT_WIDTH p = w ∧
    (s.tookPeer p w peer).rd F.FAB_PSTAT_PEERV p = 1 ∧ (s.tookPeer p w peer).rd F.FAB_PSTAT_PEERPORT p = peer.port % 4 ∧
    (s.tookPeer p w peer).rd F.FAB_PSTAT_PEERDEV p = peer.dev % 64 ∧ ((s.tookPeer p w peer).port p).uid = peer.uid := by
  refine ⟨?_, ?_, ?_, State.rd_wr .., ?_⟩
  · simp (disch := decide) only [State.rd_tookPeer, State.rd_wr_ne, State.rd_wr]
    exact Nat.mod_eq_of_lt hw
  · simp (disch := decide) only [State.rd_tookPeer, State.rd_wr_ne, State.rd_wr]
    rfl
  · exact (State.rd_wr_ne _ _ _ _ _ _ (by decide)).trans (State.rd_wr ..)
  · rw [State.tookPeer, State.port_setPort]

theorem State.uid_tookPeer (s : State) (p w : Nat) (peer : Peer) : (s.tookPeer p w peer).uid = s.uid := by
  unfold State.uid
  simp (disch := decide) only [State.rd_tookPeer, State.rd_wr_ne]

theorem exec_trainingDone {working : BitVec 4} {peer : Peer} (depart : Stamp) (hon : s.linksOn = true)
    (hst : s.portSt p = ptTrain ∨ s.portSt p = ptDown ∧ (s.port p).retry = true) (hw : laneSet working.toNat (s.rd F.FAB_PCTL_MAXW p) ≠ 0) :
    exec (.trainingDone p working peer depart) s = .next (
      if peer.port ≠ opposite p ∨ peer.uid = s.uid then
        (s.tookPeer p (laneSet working.toNat (s.rd F.FAB_PCTL_MAXW p)) peer).toIdle p ptMiswired
      else (s.tookPeer p (laneSet working.toNat (s.rd F.FAB_PCTL_MAXW p)) peer).startLatency p depart) := by
  have htrains : (s.portSt p == ptTrain || (s.portSt p == ptDown && (s.port p).retry)) = true := by
    rcases hst with h | ⟨h, hr⟩
    · simp [h]
    · simp [h, hr]
  have huid := s.uid_tookPeer p (laneSet working.toNat (s.rd F.FAB_PCTL_MAXW p)) peer
  refine congrArg Host.Outcome.next ((if_neg ?_).trans (if_congr ?_ rfl rfl))
  · rw [hon, htrains]
    simp [hw]
  · exact or_congr_right (iff_of_eq (congrArg (peer.uid = ·) huid))

theorem laneSet_lt (working maxw : Nat) : laneSet working maxw < 4 := by
  unfold laneSet
  dsimp only
  split
  · decide
  · split
    · decide
    · split <;> decide

/-- Training that has found the right peer shows it and begins the measurement (R437, R447). -/
theorem trainingDone_begins {working : BitVec 4} {peer : Peer} (depart : Stamp) (hon : s.linksOn = true)
    (hst : s.portSt p = ptTrain ∨ s.portSt p = ptDown ∧ (s.port p).retry = true) (hw : laneSet working.toNat (s.rd F.FAB_PCTL_MAXW p) ≠ 0)
    (hport : peer.port = opposite p) (huid : peer.uid ≠ s.uid) :
    ∃ t, exec (.trainingDone p working peer depart) s = .next t ∧ t.portSt p = ptLatency ∧
      t.rd F.FAB_PSTAT_WIDTH p = laneSet working.toNat (s.rd F.FAB_PCTL_MAXW p) ∧ t.rd F.FAB_PSTAT_PEERV p = 1 ∧
      t.rd F.FAB_PSTAT_PEERPORT p = peer.port % 4 ∧ t.rd F.FAB_PSTAT_PEERDEV p = peer.dev % 64 ∧ (t.port p).uid = peer.uid ∧
      (t.port p).t1 = some depart ∧ (t.port p).idx = 0 ∧ t.out = s.out ++ [OutMsg.link p (Flit.link tyLmeas 0 false 0 0 (toBytes 8 0))] := by
  obtain ⟨hwidth, hpeer, hpport, hpdev, hpuid⟩ := s.tookPeer_shows p (laneSet_lt working.toNat (s.rd F.FAB_PCTL_MAXW p)) peer
  obtain ⟨hstate, hrd, huid', ht1, hidx, hout⟩ := (s.tookPeer p (laneSet working.toNat (s.rd F.FAB_PCTL_MAXW p)) peer).startLatency_shows p depart
  rw [exec_trainingDone depart hon hst hw, if_neg (by simp [hport, huid])]
  exact ⟨_, rfl, hstate, (hrd F.FAB_PSTAT_WIDTH (by decide) rfl p 0).trans hwidth, (hrd F.FAB_PSTAT_PEERV (by decide) rfl p 0).trans hpeer,
    (hrd F.FAB_PSTAT_PEERPORT (by decide) rfl p 0).trans hpport, (hrd F.FAB_PSTAT_PEERDEV (by decide) rfl p 0).trans hpdev,
    huid'.trans hpuid, ht1, hidx, hout⟩

theorem trainingDone_miswired {working : BitVec 4} {peer : Peer} (depart : Stamp) (hon : s.linksOn = true)
    (hst : s.portSt p = ptTrain ∨ s.portSt p = ptDown ∧ (s.port p).retry = true) (hw : laneSet working.toNat (s.rd F.FAB_PCTL_MAXW p) ≠ 0)
    (h : peer.port ≠ opposite p ∨ peer.uid = s.uid) : ∃ t, exec (.trainingDone p working peer depart) s = .next t ∧
      t.portSt p = ptMiswired ∧ t.rd F.FAB_PSTAT_WIDTH p = 0 := by
  rw [exec_trainingDone depart hon hst hw, if_pos h]
  exact ⟨_, rfl, State.toIdle_shows _ _ (by decide)⟩

theorem trainingTimeout_down (hst : s.portSt p = ptTrain) (hon : s.linksOn = true) (hlong : s.portFor p (300 * tUs) = true) :
    ∃ t, exec (.trainingTimeout p) s = .next t ∧ t.portSt p = ptDown ∧ t.faultq = s.faultq ++ [FaultIn.mk (32 + p) p 0 false s.now] := by
  refine ⟨_, congrArg Host.Outcome.next (if_pos ⟨hst, hon, hlong⟩), (s.toIdle_shows p (by decide)).1, ?_⟩
  exact ((State.portLost_does ..).faultq (by decide)).trans (s.setPortSt_down p)

theorem trainingRetry_waits (hst : s.portSt p = ptDown) (hon : s.linksOn = true) (hlong : s.portFor p (10 * tMs) = true) :
    ∃ t, exec (.trainingRetry p) s = .next t ∧ t.portSt p = ptDown ∧ (t.port p).retry = true ∧ (t.port p).since = s.now := by
  refine ⟨_, congrArg Host.Outcome.next (if_pos ⟨hst, hon, hlong⟩), hst, ?_⟩
  rw [State.port_setPort]
  exact ⟨rfl, rfl⟩

theorem latencyMeasurement_up (hst : s.portSt p = ptLatency) (hon : s.linksOn = true)
    (hover : (s.port p).measured = true ∨ s.portFor p (60 * tUs) = true) :
    ∃ t, exec (.latencyMeasurement p) s = .next t ∧ t.portSt p = ptUp ∧
      ((s.port p).measured = true → ((s.port p).hi - (s.port p).lo).toNat ≤ 64 → t.rd F.FAB_PSTAT_LATV p = 1) ∧
      ((s.port p).measured = false ∨ 64 < ((s.port p).hi - (s.port p).lo).toNat → t.rd F.FAB_PSTAT_LATV p = 0 ∧ t.rd F.FAB_PSTAT_LATBAD p = 1) := by
  obtain ⟨hup, hlatv, hbad⟩ := s.linkUp_shows p
  refine ⟨_, congrArg Host.Outcome.next (if_pos ⟨hst, hon, hover⟩), hup, fun hm hs => hlatv.trans (State.tookLatency_good hm hs), fun h => ?_⟩
  rw [hlatv, hbad]
  exact State.tookLatency_bad h

theorem retrain_trains {lost : Bool} (hst : s.portSt p = ptUp) (hon : s.linksOn = true)
    (h : lost = true ∨ 8 ≤ (s.port p).replays ∨ 0 ≤ ahead s.now (after (s.port p).lastRx tUs)) :
    ∃ t, exec (.retrain p lost) s = .next t ∧ t.portSt p = ptTrain ∧ t.rd F.FAB_PSTAT_LATV p = 0 ∧ t.rd F.FAB_PSTAT_PEERV p = 0 :=
  ⟨_, congrArg Host.Outcome.next (if_pos ⟨hst, hon, h.imp_right (.imp_right decide_eq_true)⟩), State.toTrain_shows ..⟩

/-- DISABLE as it is set, as it is cleared (R436). -/
theorem State.disablePort_on (s : State) (p : Nat) : s.disablePort p true = (let u := s.wr F.FAB_PCTL_DISABLE 1 p
    if u.portSt p = ptDisabled then u else u.toIdle p ptDisabled) := rfl

theorem State.disablePort_off (s : State) (p : Nat) : s.disablePort p false = (let u := s.wr F.FAB_PCTL_DISABLE 0 p
    if u.portSt p = ptDisabled then u.setPortSt p (if u.fences.any (fun f => f.kind == 4 && f.unit == p) then ptFenced else ptNopeer)
    else u) := rfl

theorem disable_holds (h : s.portSt p ≠ ptDisabled) :
    ∃ t, exec (.disable p true) s = .next t ∧ t.portSt p = ptDisabled ∧ t.rd F.FAB_PCTL_DISABLE p = 1 := by
  have hst : (s.wr F.FAB_PCTL_DISABLE 1 p).portSt p = s.portSt p := State.rd_wr_ne _ _ _ _ _ _ (by decide)
  have hexec : exec (.disable p true) s = .next ((s.wr F.FAB_PCTL_DISABLE 1 p).toIdle p ptDisabled) :=
    congrArg Host.Outcome.next ((s.disablePort_on p).trans (if_neg (hst ▸ h)))
  refine ⟨_, hexec, (State.toIdle_shows _ _ (by decide)).1, ?_⟩
  exact ((State.toIdle_does ..).rd F.FAB_PCTL_DISABLE p 0 (by decide)).trans (State.rd_wr ..)

theorem disable_releases (h : s.portSt p = ptDisabled) : ∃ t, exec (.disable p false) s = .next t ∧ t.rd F.FAB_PCTL_DISABLE p = 0 ∧
    t.portSt p = if s.fences.any (fun f => f.kind == 4 && f.unit == p.val) then ptFenced else ptNopeer := by
  have hst : (s.wr F.FAB_PCTL_DISABLE 0 p).portSt p = s.portSt p := State.rd_wr_ne _ _ _ _ _ _ (by decide)
  have hexec : exec (.disable p false) s = .next ((s.wr F.FAB_PCTL_DISABLE 0 p).setPortSt p
      (if s.fences.any (fun f => f.kind == 4 && f.unit == p.val) then ptFenced else ptNopeer)) :=
    congrArg Host.Outcome.next ((s.disablePort_off p).trans (if_pos (hst.trans h)))
  refine ⟨_, hexec, ?_, (State.setPortSt_shows _ _ ?_).1⟩
  · exact ((State.setPortSt_does ..).rd F.FAB_PCTL_DISABLE p 0 (by decide)).trans (State.rd_wr ..)
  · split <;> decide

theorem fabPasymWrite_takes (v : BitVec 16) : ∃ t, exec (.fabPasymWrite p v) s = .next t ∧ t.rd F.FAB_PASYM_PASYM p = v.toNat :=
  ⟨_, rfl, ((State.setInlat_does ..).rd F.FAB_PASYM_PASYM p 0 (by decide)).trans ((State.rd_wr ..).trans (Nat.mod_eq_of_lt v.isLt))⟩

theorem exec_lmeas {f : Flit} (arrive depart : Stamp) (hlink : s.linked p = true) (hty : f.ty = tyLmeas) (hcrc : f.crcOk = true) :
    exec (.lmeas p f arrive depart) s = .next (
      let u := s.flitIn p 1
      if f.field 1 1 % 2 = 0 then
        u.sendLmeas p (toBytes 8 (f.field 0 1 + 256) ++ toBytes 8 arrive.toNat ++ toBytes 8 depart.toNat ++ toBytes 2 (u.rd F.FAB_PTRIM_DTRIM p))
      else if u.portSt p = ptLatency then u.takeReply p f arrive depart else u) :=
  congrArg Host.Outcome.next ((if_neg (by simp [hlink, hty])).trans (if_neg (by simp [hcrc])))

theorem State.flitIn_port (s : State) (p n : Nat) : (s.flitIn p n).port p = { s.port p with lastRx := s.now } := State.port_setPort ..

theorem lmeas_answers {f : Flit} (arrive depart : Stamp) (hlink : s.linked p = true) (hty : f.ty = tyLmeas) (hcrc : f.crcOk = true)
    (hask : f.field 1 1 % 2 = 0) : ∃ t, exec (.lmeas p f arrive depart) s = .next t ∧
      t.out = s.out ++ [OutMsg.link p (Flit.link tyLmeas 0 false 0 0
        (toBytes 8 (f.field 0 1 + 256) ++ toBytes 8 arrive.toNat ++ toBytes 8 depart.toNat ++ toBytes 2 (s.rd F.FAB_PTRIM_DTRIM p)))] :=
  ⟨_, (exec_lmeas arrive depart hlink hty hcrc).trans (congrArg _ (if_pos hask)), rfl⟩

theorem lmeas_adds {f : Flit} {t1 : Stamp} (arrive depart : Stamp) (hlink : s.linked p = true) (hty : f.ty = tyLmeas) (hcrc : f.crcOk = true)
    (hreply : f.field 1 1 % 2 = 1) (hst : s.portSt p = ptLatency) (ht1 : (s.port p).t1 = some t1) (hidx : f.field 0 1 = (s.port p).idx)
    (hmore : (s.port p).idx < 255) : ∃ t, exec (.lmeas p f arrive depart) s = .next t ∧ (t.port p).idx = (s.port p).idx + 1 ∧
      (t.port p).t1 = some depart ∧
      (t.port p).sum = (if (s.port p).idx = 0 then roundTrip f arrive t1 else (s.port p).sum + roundTrip f arrive t1) := by
  have hport := s.flitIn_port p 1
  have hnext := State.takeReply_next (s := s.flitIn p 1) (p := p) (f := f) (t1 := t1) arrive depart (by rw [hport]; exact ht1)
    (by rw [hport]; exact hidx) (by rw [hport]; exact hmore)
  refine ⟨_, (exec_lmeas arrive depart hlink hty hcrc).trans
    (congrArg _ ((if_neg (by omega)).trans ((if_pos hst).trans hnext))), ?_⟩
  rw [(State.sendProbe_shows ..).1, State.port_setPort, hport]
  exact ⟨rfl, rfl, rfl⟩

end Ports

/-- Settles O49, by the states that setPortSt, toTrain, toIdle and linkUp leave, and the exchange of LMEAS flits. -/
theorem portsTrainAndMeasure : Obligations.PortsTrainAndMeasure := by
  unfold Obligations.PortsTrainAndMeasure
  intro s p
  refine ⟨fun hst hon => ⟨_, congrArg Host.Outcome.next (if_pos ⟨hst, hon⟩), (s.toTrain_shows p).1⟩, ?training,
    trainingTimeout_down, trainingRetry_waits, latencyMeasurement_up, fun lost => retrain_trains,
    fun h => ⟨_, congrArg Host.Outcome.next (if_pos h), (s.toTrain_shows p).1⟩,
    fun hup hdown => congrArg Host.Outcome.next (if_neg (not_or.2 ⟨hup, hdown⟩)),
    fun hst hfree => ⟨_, congrArg Host.Outcome.next (if_pos ⟨hst, hfree⟩), (s.toTrain_shows p).1⟩,
    fun hfence => congrArg Host.Outcome.next (if_neg fun h => Bool.noConfusion (h.2.symm.trans hfence)),
    disable_holds, disable_releases, fabPasymWrite_takes, ?lmeas⟩
  case training =>
    rintro working peer depart _ hon hst rfl hw
    exact ⟨trainingDone_begins depart hon hst hw, trainingDone_miswired depart hon hst hw⟩
  case lmeas =>
    intro f arrive depart hlink hty hcrc
    refine ⟨lmeas_answers arrive depart hlink hty hcrc, ?_⟩
    rintro t1 _ hreply hst ht1 hidx hmore rfl
    exact lmeas_adds arrive depart hlink hty hcrc hreply hst ht1 hidx hmore

end Sys2Proof.Machine
end

/-! ### Scope: power states, wakes, the power estimate -/

section
namespace Sys2Proof.Machine

open Sys2Proof

/-! #### The device enters a power state (R468) -/

/-- What may change between two states where a power state is entered, beside PWR_STAT. -/
abbrev EntersPower (s t : State) : Prop :=
  Does 0x180009801028 0x18000000000000000000000000000000000000000200000000000000000000004 s t

/-- Beyond the state itself, entering it touches clocks, ports, filters and the event's consumers. -/
theorem State.setPower_does_written (s : State) (st : Nat) : EntersPower
    (s.syncPins.wr F.PWR_STAT_STATE st) (s.setPower st) := by
  unfold State.setPower
  extract_lets old a b c d e x g y h i j k l
  have hc : EntersPower b c := .wr _ _ _ _ (by decide) (.refl ..)
  have hd : EntersPower b d :=
    .ite (fun _ => .wr _ _ _ _ (by decide) (.wr _ _ _ _ (by decide) hc))
      fun _ => .ite (fun _ => .wr _ _ _ _ (by decide) (.wr _ _ _ _ (by decide) hc)) fun _ => hc
  have he : EntersPower b e :=
    .ite (fun _ => .foldl (fun u p hu => .ite (fun _ => .step (State.setPort_does ..) (by decide) (by decide) (.wr _ _ _ _ (by decide)
      (.wr _ _ _ _ (by decide) (.wr _ _ _ _ (by decide) hu)))) fun _ => hu) hd) fun _ => hd
  have hg : EntersPower b g := .upd_fab _ (by decide) he
  have hh : EntersPower b h := .ite (fun _ => .upd_fab _ (by decide) hg) fun _ => hg
  have hi : EntersPower b i := .step (State.rebias_does ..) (by decide) (by decide) hh
  have hj : EntersPower b j :=
    .ite (fun _ => .step (State.keepDeep_does ..) (by decide) (by decide) hi)
      fun _ => .ite (fun _ => .step (State.refilterAll_does ..) (by decide) (by decide) hi) fun _ => hi
  have hk : EntersPower b k := .ite (fun _ => .step (State.eclkBack_does ..) (by decide) (by decide) hj) fun _ => hj
  have hl : EntersPower b l :=
    .ite (fun _ => .foldl (fun u r hu =>
      have hm : EntersPower b (if u.rd F.RAIL_MON_VMODE r = 0 then u.restartMon r 0 else u) :=
        .ite (fun _ => .step (State.restartMon_does ..) (by decide) (by decide) hu) fun _ => hu
      .ite (fun _ => .step (State.restartMon_does ..) (by decide) (by decide) hm) fun _ => hm) hk) fun _ => hk
  exact .step (State.raise_does ..) (by decide) (by decide) hl

theorem State.power_setPower (s : State) {st : Nat} (h : st < 8) : (s.setPower st).power = st :=
  ((s.setPower_does_written st).rd F.PWR_STAT_STATE 0 0 (by decide)).trans ((State.rd_wr ..).trans (Nat.mod_eq_of_lt h))

theorem State.wake_setPower (s : State) (st : Nat) : (s.setPower st).wake = s.wake := (s.setPower_does st).wake (by decide)

/-! #### Targets (R470, R473) -/

theorem foldl_min_le (hs : List (Nat × Nat)) (d : Nat) : hs.foldl (fun (d : Nat) (e : Nat × Nat) => min d e.2) d ≤ d := by
  induction hs generalizing d with
  | nil => exact Nat.le_refl d
  | cons e hs ih => exact (ih _).trans (Nat.min_le_left ..)

theorem State.powTarget_le (s : State) : s.powTarget ≤ 4 := by
  unfold State.powTarget
  dsimp only
  split
  · decide
  · exact (Nat.min_le_left ..).trans (foldl_min_le ..)

theorem foldl_max_mem (l : List Nat) (m : Nat) : l.foldl (fun (m k : Nat) => max m k) m = m ∨ l.foldl (fun (m k : Nat) => max m k) m ∈ l := by
  induction l generalizing m with
  | nil => exact .inl rfl
  | cons k l ih =>
    rw [List.foldl_cons]
    rcases ih (max m k) with h | h
    · rcases max_choice m k with hm | hm
      · exact .inl (by rw [h, hm])
      · exact .inr (by rw [h, hm]; exact List.mem_cons_self)
    · exact .inr (List.mem_cons_of_mem _ h)

/-- A state that is due lies among the five. -/
theorem State.dueState_lt {s : State} (h : s.dueState ≠ s.power) : s.dueState < 5 := by
  unfold State.dueState at h ⊢
  dsimp only at h ⊢
  rcases foldl_max_mem (List.filter _ (List.range 5)) s.power with hm | hm
  · exact absurd hm h
  · exact List.mem_range.1 (List.mem_of_mem_filter hm)

/-! #### POWER_STATE_CHANGE (R469, R473, R474) -/

section PowerStateChange

variable {s : State} (deep : Bool)

theorem exec_powerStateChange_waking {w : Stamp × Nat} (hw : s.wake = some w) : exec (.powerStateChange deep) s =
    .next (if reached w.1 s.now then ({ s with wake := none } : State).setPower w.2 else s) := by
  change execPowerStateChange deep s = _
  unfold execPowerStateChange
  rw [hw]

theorem exec_powerStateChange_still (hw : s.wake = none) : exec (.powerStateChange deep) s = .next (
    if s.powTarget < s.power then
      (if s.powTarget = 0 then { s with wake := some (after s.now (wakeTicks s.power), 0) } else s.setPower s.powTarget)
    else if s.dueState = s.power then s
    else if s.dueState = 4 then s.enterDeep deep
    else s.setPower s.dueState) := by
  change execPowerStateChange deep s = _
  unfold execPowerStateChange
  rw [hw]

/-- A stamp that its halves show. -/
theorem join_words (t : Stamp) : join (loWord t.toNat) (hiWord t.toNat) = t.toNat := by
  have := t.isLt
  unfold join loWord hiWord
  omega

/-- Before DEEP the watermark of the present tick is written (R469). -/
theorem State.enterDeep_marks (hm : s.deepMark = true) : (s.enterDeep deep).power = s.power ∧ (s.enterDeep deep).pwr.deepW = some s.now ∧
    join ((s.enterDeep deep).rd F.WT_WM_LAST_LO_LAST_LO) ((s.enterDeep deep).rd F.WT_WM_LAST_HI_LAST_HI) = s.now.toNat := by
  obtain ⟨hlo, hhi, -⟩ := s.watermark_shows s.now
  rw [State.enterDeep, if_pos hm]
  refine ⟨(s.watermark_does s.now).rd F.PWR_STAT_STATE 0 0 (by decide), rfl, ?_⟩
  exact (congrArg₂ join hlo hhi).trans (join_words s.now)

theorem State.enterDeep_waits (hm : s.deepMark = false) (hopen : s.hostOpen = true) (hq : s.evq.any (fun r => r.kind == 2) = true) :
    s.enterDeep deep = s := by
  rw [State.enterDeep, if_neg (by simp [hm]), if_pos (by rw [hopen, hq]; rfl)]

theorem State.enterDeep_enters (hm : s.deepMark = false) (h : s.hostOpen = false ∨ s.evq.any (fun r => r.kind == 2) = false) :
    (s.enterDeep deep).power = 4 := by
  rw [State.enterDeep, if_neg (by simp [hm]), if_neg (by rcases h with h | h <;> simp [h])]
  exact State.power_setPower _ (by decide)

end PowerStateChange

/-! #### Wakes (R472, R474) -/

section Wakes

variable {s : State}

/-- The wake that a request begins, and the causes that it records. -/
def State.wakeBegun (s : State) : State :=
  let s := s.wr F.PWR_WAKE_CAUSE (Nat.lor (s.rd F.PWR_WAKE_CAUSE) s.wakeAsk)
  { s with
    wakeAsk := 0
    wake := match s.wake with
      | some w => some w
      | none => some (after s.now (wakeTicks s.power), 0) }

theorem State.wakeBegun_shows (s : State) : s.wakeBegun.wakeAsk = 0 ∧
    s.wakeBegun.rd F.PWR_WAKE_CAUSE = Nat.lor (s.rd F.PWR_WAKE_CAUSE) s.wakeAsk % 2 ^ 8 ∧
    s.wakeBegun.wake = (match s.wake with | some w => some w | none => some (after s.now (wakeTicks s.power), 0)) := by
  have hpow (v : Nat) : (s.wr F.PWR_WAKE_CAUSE v).power = s.power := State.rd_wr_ne _ _ _ _ _ _ (by decide)
  refine ⟨rfl, State.rd_wr s F.PWR_WAKE_CAUSE .., ?_⟩
  unfold State.wakeBegun
  dsimp only
  rw [hpow]
  rfl

theorem exec_wakeRequest (hp : s.power ≠ 0) : exec .wakeRequest s = .next (
    let u := if s.timedWake then s.askWake 2 else s
    if u.wakeAsk = 0 then u else u.wakeBegun) := congrArg Host.Outcome.next (if_neg hp)

/-- Awake in no state, the device takes the causes that ask (R472). -/
theorem wakeRequest_asked (hp : s.power ≠ 0) (ht : s.timedWake = false) (ha : s.wakeAsk ≠ 0) : ∃ t, exec .wakeRequest s = .next t ∧
    t.wakeAsk = 0 ∧ t.rd F.PWR_WAKE_CAUSE = Nat.lor (s.rd F.PWR_WAKE_CAUSE) s.wakeAsk % 2 ^ 8 ∧
    t.wake = (match s.wake with | some w => some w | none => some (after s.now (wakeTicks s.power), 0)) := by
  rw [exec_wakeRequest hp, ht]
  exact ⟨_, congrArg Host.Outcome.next (if_neg ha), s.wakeBegun_shows⟩

theorem exec_wakeRequest_quiet (hp : s.power ≠ 0) (ht : s.timedWake = false) (ha : s.wakeAsk = 0) : exec .wakeRequest s = .next s := by
  rw [exec_wakeRequest hp, ht]
  exact congrArg Host.Outcome.next (if_pos ha)

/-- The wake of a timed action records cause 2 (R472). -/
theorem wakeRequest_timed (hp : s.power ≠ 0) (ht : s.timedWake = true) : ∃ t, exec .wakeRequest s = .next t ∧ t.wakeAsk = 0 ∧
    t.wake.isSome = true ∧ hasBit (t.rd F.PWR_WAKE_CAUSE) 2 = true := by
  have hask : (s.askWake 2).wakeAsk = withBit s.wakeAsk 2 := by
    rw [State.askWake_wakeAsk, if_neg (by omega)]
  have hbit : hasBit (s.askWake 2).wakeAsk 2 = true := by rw [hask, hasBit_withBit]
  have hne : (s.askWake 2).wakeAsk ≠ 0 := fun h => by rw [h] at hbit; exact Bool.noConfusion hbit
  rw [exec_wakeRequest hp, ht]
  obtain ⟨hzero, hcause, hwake⟩ := (s.askWake 2).wakeBegun_shows
  have hlor (a b : Nat) : (Nat.lor a b).testBit 2 = (a.testBit 2 || b.testBit 2) := Nat.testBit_or a b 2
  refine ⟨_, congrArg Host.Outcome.next (if_neg hne), hzero, ?_, ?_⟩
  · rw [if_pos rfl, hwake]
    split <;> rfl
  · rw [if_pos rfl, hcause, hasBit_mod_two_pow _ (by decide), hasBit_eq_testBit, hlor, ← hasBit_eq_testBit _ 2, ← hasBit_eq_testBit _ 2, hbit,
      Bool.or_true]

end Wakes

/-! #### The estimate (R475, R477) -/

section Estimate

variable {s : State} (est : BitVec 16)

/-- The estimate shown, and its peak. -/
def State.tookEst (s : State) (e : Nat) : State := (s.wr F.PWR_EST_EST e).wr F.PWR_EST_PEAK (max e (s.rd F.PWR_EST_PEAK))

theorem State.tookEst_shows (s : State) {e : Nat} (he : e < 2 ^ 16) (hp : s.rd F.PWR_EST_PEAK < 2 ^ 16) :
    (s.tookEst e).rd F.PWR_EST_EST = e ∧ (s.tookEst e).rd F.PWR_EST_PEAK = max e (s.rd F.PWR_EST_PEAK) ∧
    (s.tookEst e).rd F.PWR_BUDGET_BUDGET = s.rd F.PWR_BUDGET_BUDGET ∧ (s.tookEst e).rd F.PWR_GSTAT_OVER = s.rd F.PWR_GSTAT_OVER ∧
    (s.tookEst e).anyRuns = s.anyRuns := by
  have away {f : Fld} (h1 : F.PWR_EST_PEAK.reg ≠ f.reg) (h2 : F.PWR_EST_EST.reg ≠ f.reg) (i j : Nat) : (s.tookEst e).rd f i j = s.rd f i j :=
    (State.rd_wr_ne _ _ _ _ _ _ (.inl h1)).trans (State.rd_wr_ne _ _ _ _ _ _ (.inl h2))
  have hgstate (n : Nat) : (s.tookEst e).gstate n = s.gstate n := away (by decide) (by decide) ..
  refine ⟨?_, (State.rd_wr ..).trans (Nat.mod_eq_of_lt (Nat.max_lt.2 ⟨he, hp⟩)), away (by decide) (by decide) .., away (by decide) (by decide) .., ?_⟩
  · exact (State.rd_wr_ne _ _ _ _ _ _ (by decide)).trans ((State.rd_wr ..).trans (Nat.mod_eq_of_lt he))
  · unfold State.anyRuns State.running
    simp only [hgstate]
    rfl

theorem exec_powerEstimate : exec (.powerEstimate est) s = .next (
    let u := s.tookEst est.toNat
    if est.toNat > u.rd F.PWR_BUDGET_BUDGET ∧ u.anyRuns = true ∧ u.on F.PWR_GSTAT_OVER = false then
      (u.wr F.PWR_GSTAT_OVER 1).raise 2140 2 [0] u.now
    else u) := rfl

theorem powerEstimate_shows (hp : s.rd F.PWR_EST_PEAK < 2 ^ 16) : ∃ t, exec (.powerEstimate est) s = .next t ∧
    t.rd F.PWR_EST_EST = est.toNat ∧ t.rd F.PWR_EST_PEAK = max est.toNat (s.rd F.PWR_EST_PEAK) ∧
    (s.rd F.PWR_BUDGET_BUDGET < est.toNat → s.anyRuns = true → t.on F.PWR_GSTAT_OVER = true) ∧
    (est.toNat ≤ s.rd F.PWR_BUDGET_BUDGET ∨ s.anyRuns = false → t.rd F.PWR_GSTAT_OVER = s.rd F.PWR_GSTAT_OVER ∧ t.evq = s.evq) := by
  obtain ⟨hest, hpeak, hbudget, hover, hruns⟩ := s.tookEst_shows est.isLt hp
  have hevq : (s.tookEst est.toNat).evq = s.evq := rfl
  refine ⟨_, exec_powerEstimate est, ?_⟩
  generalize s.tookEst est.toNat = u at hest hpeak hbudget hover hruns hevq
  dsimp only
  rw [hbudget, hruns]
  split
  case isTrue h =>
    have d := (u.wr F.PWR_GSTAT_OVER 1).raise_does 2140 2 [0] u.now
    obtain ⟨habove, hrun, -⟩ := h
    rw [d.rd F.PWR_EST_EST 0 0 (by decide), d.rd F.PWR_EST_PEAK 0 0 (by decide), d.on F.PWR_GSTAT_OVER 0 0 (by decide)]
    refine ⟨(State.rd_wr_ne _ _ _ _ _ _ (by decide)).trans hest, (State.rd_wr_ne _ _ _ _ _ _ (by decide)).trans hpeak,
      fun _ _ => State.on_wr_one _ _ _ (by decide), fun hnot => ?_⟩
    rcases hnot with hle | hno
    · exact absurd habove (Nat.not_lt.2 hle)
    · exact Bool.noConfusion (hno.symm.trans hrun)
  case isFalse h =>
    exact ⟨hest, hpeak, fun habove hrun => Bool.eq_true_of_not_eq_false fun hoff => h ⟨habove, hrun, hoff⟩, fun _ => ⟨hover, hevq⟩⟩

end Estimate

/-- Settles O53, by what entering a state, a wake and an estimate each leave. -/
theorem powerStatesAndWakes : Obligations.PowerStatesAndWakes := by
  unfold Obligations.PowerStatesAndWakes
  intro s
  refine ⟨fun deep => ⟨?wakeEnds, fun w hw hnot => ?wakeRuns, fun hw hlt h0 => ?toActive, fun hw hlt h0 => ?nearer, fun hw hle hdue => ?stays,
      fun hw hle hdue h4 => ?deeper, fun hw hle hdue h4 => ?toDeep⟩,
    fun hp ht => ⟨exec_wakeRequest_quiet hp ht, wakeRequest_asked hp ht⟩, wakeRequest_timed,
    fun hp => congrArg Host.Outcome.next (if_pos hp), fun crystals => ⟨fun hc hen hp => ?wakeN, fun h => ?wakeNot⟩,
    fun est hp => powerEstimate_shows est hp⟩
  case wakeEnds =>
    intro w st hw hst hend
    rw [exec_powerStateChange_waking deep hw, if_pos hend]
    exact ⟨_, rfl, State.power_setPower _ hst, State.wake_setPower ..⟩
  case wakeRuns => rw [exec_powerStateChange_waking deep hw, hnot]; rfl
  case toActive =>
    rw [exec_powerStateChange_still deep hw, if_pos hlt, if_pos h0]
    exact ⟨_, rfl, rfl, rfl⟩
  case nearer =>
    rw [exec_powerStateChange_still deep hw, if_pos hlt, if_neg h0]
    exact ⟨_, rfl, State.power_setPower _ (s.powTarget_le.trans_lt (by decide))⟩
  case stays => rw [exec_powerStateChange_still deep hw, if_neg (Nat.not_lt.2 hle), if_pos hdue]
  case deeper =>
    rw [exec_powerStateChange_still deep hw, if_neg (Nat.not_lt.2 hle), if_neg hdue, if_neg h4]
    exact ⟨_, rfl, State.power_setPower _ ((State.dueState_lt hdue).trans (by decide))⟩
  case toDeep =>
    rw [exec_powerStateChange_still deep hw, if_neg (Nat.not_lt.2 hle), if_neg hdue, if_pos h4]
    exact ⟨fun hm => ⟨_, rfl, State.enterDeep_marks deep hm⟩, fun hm hopen hq => by rw [State.enterDeep_waits deep hm hopen hq],
      fun hm h => ⟨_, rfl, State.enterDeep_enters deep hm h⟩⟩
  case wakeN =>
    refine ⟨_, congrArg Host.Outcome.next (if_pos ⟨hc, hen⟩), ?_, s.askWake_regs 5⟩
    rw [State.askWake_wakeAsk, if_neg (Nat.not_lt.2 hp)]
  case wakeNot =>
    refine congrArg Host.Outcome.next (if_neg fun hboth => ?_)
    rcases h with h | h
    · exact absurd hboth.1 (Nat.not_le.2 h)
    · exact Bool.noConfusion (h.symm.trans hboth.2)

end Sys2Proof.Machine
end

/-! ### Scope: reset sources, what a reset does, the watchdog, the NV record -/

section
namespace Sys2Proof.Machine

open Sys2Proof

/-! #### What a reset leaves (R405, R515) -/

section ApplyReset

variable (s : State) (lv : Nat) (count : Bool)

/-- A reset acts without any change of its sources, its level or its deferral. -/
theorem State.applyReset_rst : (s.applyReset lv count).rst.on = s.rst.on ∧ (s.applyReset lv count).rst.level = s.rst.level ∧
    (s.applyReset lv count).rst.deferred = s.rst.deferred := by
  unfold State.applyReset
  extract_lets s1 gen s2 s3 s4 s5 s6 s7
  have h1 : s1.rst = s.rst := ((State.railsReset_does _ _).rst (by decide)).trans (s.pinsOff_does.rst (by decide))
  have h2 : s2.rst = s1.rst := by
    unfold s2
    split
    · exact s1.abortQueues_does.rst (by decide)
    · rfl
  have h3 : s3.rst = s.rst := ((s2.resetWork_does lv).rst (by decide)).trans (h2.trans h1)
  have h4 : s4.rst.on = s3.rst.on ∧ s4.rst.level = s3.rst.level ∧ s4.rst.deferred = s3.rst.deferred := by
    unfold s4
    split
    · exact ⟨rfl, rfl, rfl⟩
    · split <;> exact ⟨rfl, rfl, rfl⟩
  have h6 : s6.rst = s4.rst := by
    unfold s6
    split
    · exact s5.roleReset_does.rst (by decide)
    · rfl
  have h7 : s7.rst = s6.rst := by
    unfold s7
    split <;> rfl
  rw [State.wr_rst, h7, h6, ← h3]
  exact h4

/-- No engine runs after a reset, and no queue pair is set up after one of L1 or L0, which also starts wafer time at 0 (R515). -/
theorem State.applyReset_empties : (s.applyReset lv count).gangs = [] ∧ (s.applyReset lv count).runs = [] ∧
    (lv ≤ 1 → (s.applyReset lv count).qps = []) ∧ (lv = 0 → (s.applyReset lv count).now = 0) ∧
    (lv ≠ 0 → (s.applyReset lv count).now = s.now) := by
  unfold State.applyReset
  extract_lets s1 gen s2 s3 s4 s5 s6 s7
  have h1 : s1.now = s.now := ((State.railsReset_does _ _).now (by decide)).trans (s.pinsOff_does.now (by decide))
  have h2 : s2.now = s1.now := by
    unfold s2
    split
    · exact s1.abortQueues_does.now (by decide)
    · rfl
  have h3 : s3.now = s.now := ((s2.resetWork_does lv).now (by decide)).trans (h2.trans h1)
  have h4 : s4.gangs = [] ∧ s4.runs = [] ∧ (lv ≤ 1 → s4.qps = []) ∧ (lv = 0 → s4.now = 0) ∧ (lv ≠ 0 → s4.now = s3.now) := by
    unfold s4
    split
    · exact ⟨rfl, rfl, fun _ => rfl, fun _ => rfl, fun h => absurd ‹_› h⟩
    · split
      · exact ⟨rfl, rfl, fun _ => rfl, fun h => absurd h ‹_›, fun _ => rfl⟩
      · exact ⟨rfl, rfl, fun h => by omega, fun h => absurd h ‹_›, fun _ => rfl⟩
  have h6 : s6.gangs = s4.gangs ∧ s6.runs = s4.runs ∧ s6.qps = s4.qps ∧ s6.now = s4.now := by
    unfold s6
    split
    · have d := s5.roleReset_does
      exact ⟨d.gangs (by decide), d.runs (by decide), d.qps (by decide), d.now (by decide)⟩
    · exact ⟨rfl, rfl, rfl, rfl⟩
  have h7 : s7.gangs = s6.gangs ∧ s7.runs = s6.runs ∧ s7.qps = s6.qps ∧ s7.now = s6.now := by
    unfold s7
    split <;> exact ⟨rfl, rfl, rfl, rfl⟩
  change s7.gangs = [] ∧ s7.runs = [] ∧ (lv ≤ 1 → s7.qps = []) ∧ (lv = 0 → s7.now = 0) ∧ (lv ≠ 0 → s7.now = s.now)
  obtain ⟨hg, hr, hq, hn⟩ := h7
  obtain ⟨hg6, hr6, hq6, hn6⟩ := h6
  rw [hg, hr, hq, hn, hg6, hr6, hq6, hn6, ← h3]
  exact h4

/-- HQ_GEN counts a reset, and starts at 1 after POR; L1 leaves stage ENGINE; a reset that is not deferred stays so (R405, R515). -/
theorem State.applyReset_shows :
    (s.applyReset lv count).rd F.HQ_GEN_GEN = (if lv = 0 then 1 else if count then (s.rd F.HQ_GEN_GEN + 1) % 2 ^ 32 else s.rd F.HQ_GEN_GEN) % 2 ^ 32 ∧
    (lv = 1 → (s.applyReset lv count).rd F.RST_STAT_STAGE = 3) ∧
    (s.rd F.RST_STAT_DEFER = 0 → (s.applyReset lv count).rd F.RST_STAT_DEFER = 0) := by
  unfold State.applyReset
  extract_lets s1 gen s2 s3 s4 s5 s6 s7
  have hgen : gen = s.rd F.HQ_GEN_GEN :=
    ((State.railsReset_does _ _).rd F.HQ_GEN_GEN 0 0 (by decide)).trans (s.pinsOff_does.rd F.HQ_GEN_GEN 0 0 (by decide))
  have hd1 : s1.rd F.RST_STAT_DEFER = s.rd F.RST_STAT_DEFER :=
    ((State.railsReset_does _ _).rd F.RST_STAT_DEFER 0 0 (by decide)).trans (s.pinsOff_does.rd F.RST_STAT_DEFER 0 0 (by decide))
  have hd2 : s2.rd F.RST_STAT_DEFER = s1.rd F.RST_STAT_DEFER := by
    unfold s2
    split
    · exact s1.abortQueues_does.rd F.RST_STAT_DEFER 0 0 (by decide)
    · rfl
  have hd3 : s3.rd F.RST_STAT_DEFER = s.rd F.RST_STAT_DEFER :=
    ((s2.resetWork_does lv).rd F.RST_STAT_DEFER 0 0 (by decide)).trans (hd2.trans hd1)
  have zero (u : State) (l : Lvl) (p : FKey → Bool) (hu : u.rd F.RST_STAT_DEFER = 0) : (u.resetRegs l p).rd F.RST_STAT_DEFER = 0 := by
    rw [State.rd_resetRegs, hu, ite_eq_left_iff]
    exact fun _ => rfl
  have hd4 (h : s.rd F.RST_STAT_DEFER = 0) : s4.rd F.RST_STAT_DEFER = 0 := by
    have h3 := hd3.trans h
    unfold s4
    split
    · exact zero _ _ _ h3
    · split
      · exact zero _ _ _ h3
      · exact zero _ _ _ h3
  have h6 (f : Fld) (hf : Nat.testBit 0x200002 f.reg.ctorIdx = false) : s6.rd f = s5.rd f := by
    unfold s6
    split
    · exact s5.roleReset_does.rd f 0 0 hf
    · rfl
  have h7 (f : Fld) (hf : F.RST_STAT_STAGE.reg ≠ f.reg ∨ F.RST_STAT_STAGE.lo ≠ f.lo) : s7.rd f = s6.rd f := by
    unfold s7
    split
    · exact State.rd_wr_ne _ _ _ _ _ _ hf
    · rfl
  refine ⟨?_, fun h => ?_, fun h => ?_⟩
  · rw [State.rd_wr_ne _ _ _ _ _ _ (.inl (by decide)), h7 _ (.inl (by decide)), h6 _ (by decide), ← hgen]
    exact State.rd_wr ..
  · rw [State.rd_wr_ne _ _ _ _ _ _ (.inr (by decide))]
    unfold s7
    rw [if_pos h]
    exact State.rd_wr ..
  · rw [State.rd_wr_ne _ _ _ _ _ _ (.inr (by decide)), h7 _ (.inr (by decide)), h6 _ (by decide)]
    exact (State.rd_wr_ne _ _ _ _ _ _ (.inl (by decide))).trans (hd4 h)

end ApplyReset

/-! #### A source asserts (R513, R516, R519) -/

/-- The level in force once a source asserts. -/
def State.levelWith (s : State) (i : Nat) : Nat := min s.rst.level (s.srcLevel i)

/-- A source that asserts, noted in the state: it joins the sources, at its level, and RST_STAT shows it. -/
def State.noteSrc (s : State) (i : Nat) : State :=
  ({ s with rst := { s.rst with on := withBit s.rst.on i, seen := withBit s.rst.seen i, level := s.levelWith i, releasing := false } } : State).wr
    F.RST_STAT_ASSERT 1

theorem State.noteSrc_stage (s : State) (i : Nat) : (s.noteSrc i).rd F.RST_STAT_STAGE = s.rd F.RST_STAT_STAGE :=
  State.rd_wr_ne _ _ _ _ _ _ (.inr (by decide))

theorem State.noteSrc_gen (s : State) (i : Nat) : (s.noteSrc i).rd F.HQ_GEN_GEN = s.rd F.HQ_GEN_GEN :=
  State.rd_wr_ne _ _ _ _ _ _ (.inl (by decide))

/-- A source other than POR that the device does not ignore is noted, and what follows is the deferral, or the reset, or nothing more
where a reset of no less reach holds (R516, R519, R523). -/
theorem State.assertSrc_noted {s : State} {i : Nat} (h0 : i ≠ 0) (h2 : i = 2 → s.anchor = true) (h3 : i = 3 → s.anchor = false) :
    s.assertSrc i =
      if s.rd F.RST_STAT_STAGE = 15 ∧ s.levelWith i ≠ 0 then s.noteSrc i
      else if s.pulsing = true then (s.noteSrc i).deferReset
      else if s.rst.deferred = true then s.noteSrc i
      else if (decide (s.rst.seen ≠ 0) && decide (s.rst.level ≤ s.levelWith i) && !s.rst.releasing) = true then s.noteSrc i
      else (s.noteSrc i).applyReset (s.levelWith i) (s.rst.seen == 0) := by
  have hobs : ¬((i = 2 ∧ s.anchor = false) ∨ (i = 3 ∧ s.anchor = true)) := by
    rintro (⟨h, hf⟩ | ⟨h, ht⟩)
    · simp [h2 h] at hf
    · simp [h3 h] at ht
  unfold State.assertSrc
  rw [if_neg hobs]
  extract_lets r lv holds s1 s2 cut x s3
  have hst : s2.rd F.RST_STAT_STAGE = s.rd F.RST_STAT_STAGE := s.noteSrc_stage i
  have hcut : s3 = s2 := if_neg h0
  rw [hst, hcut]
  simp only [h0, ne_eq, not_false_eq_true, true_and, and_true]
  rfl

/-- A deferred reset is noted as one and keeps its sources and its level (R519). -/
theorem State.deferReset_shows (s : State) : s.deferReset.rst = { s.rst with deferred := true } ∧ s.deferReset.rd F.RST_STAT_DEFER = 1 ∧
    s.deferReset.rd F.RST_STAT_ASSERT = 1 := by
  unfold State.deferReset
  extract_lets r s1 s2 s3
  have d1 : s1.pinsOff.rst = s1.rst := s1.pinsOff_does.rst (by decide)
  have d3 := (Does.each State.faultMute_does (List.range 32) s2)
  have d4 := State.railsReset_does s3 s3.rst.level
  have h2 : s2.rd F.RST_STAT_DEFER = 1 ∧ s2.rd F.RST_STAT_ASSERT = 1 :=
    ⟨(State.rd_wr_ne _ _ _ _ _ _ (.inr (by decide))).trans (State.rd_wr ..), State.rd_wr ..⟩
  refine ⟨(d4.rst (by decide)).trans ((d3.rst (by decide)).trans d1), ?_, ?_⟩
  · exact (d4.rd F.RST_STAT_DEFER 0 0 (by decide)).trans ((d3.rd F.RST_STAT_DEFER 0 0 (by decide)).trans h2.1)
  · exact (d4.rd F.RST_STAT_ASSERT 0 0 (by decide)).trans ((d3.rd F.RST_STAT_ASSERT 0 0 (by decide)).trans h2.2)

theorem withBit_ne_zero (v i : Nat) : withBit v i ≠ 0 := by
  intro h
  have hbit := hasBit_withBit v i
  rw [h] at hbit
  simp [hasBit] at hbit

/-- A source that asserts is on, RST_STAT shows it, and the level in force is the least of both (R513, R516). -/
theorem State.assertSrc_asserts {s : State} {i : Nat} (h0 : i ≠ 0) (h2 : i = 2 → s.anchor = true) (h3 : i = 3 → s.anchor = false) :
    hasBit (s.assertSrc i).rst.on i = true ∧ (s.assertSrc i).rd F.RST_STAT_ASSERT = 1 ∧ (s.assertSrc i).rst.level = s.levelWith i := by
  have hnoted : hasBit (s.noteSrc i).rst.on i = true ∧ (s.noteSrc i).rd F.RST_STAT_ASSERT = 1 ∧ (s.noteSrc i).rst.level = s.levelWith i :=
    ⟨hasBit_withBit .., State.rd_wr .., rfl⟩
  rw [State.assertSrc_noted h0 h2 h3]
  split
  · exact hnoted
  · split
    · obtain ⟨hrst, -, hassert⟩ := (s.noteSrc i).deferReset_shows
      rw [hrst, hassert]
      exact ⟨hnoted.1, rfl, hnoted.2.2⟩
    · split
      · exact hnoted
      · split
        · exact hnoted
        · obtain ⟨hon, hlevel, -⟩ := (s.noteSrc i).applyReset_rst (s.levelWith i) (s.rst.seen == 0)
          obtain ⟨-, hassert⟩ := (s.noteSrc i).applyReset_asserts (s.levelWith i) (s.rst.seen == 0)
          have hnz : ((s.noteSrc i).rst.on != 0) = true := bne_iff_ne.2 (withBit_ne_zero s.rst.on i)
          rw [hon, hlevel, hassert, hnz]
          exact ⟨hnoted.1, rfl, rfl⟩

/-- With no reset in force and nothing that defers one, the reset of the source's level acts at once (R516). -/
theorem State.assertSrc_acts {s : State} {i : Nat} (h0 : i ≠ 0) (h2 : i = 2 → s.anchor = true) (h3 : i = 3 → s.anchor = false)
    (hs : s.rst.seen = 0) (hd : s.rst.deferred = false) (hp : s.pulsing = false) (h15 : s.rd F.RST_STAT_STAGE ≠ 15) :
    s.assertSrc i = (s.noteSrc i).applyReset (s.levelWith i) true := by
  rw [State.assertSrc_noted h0 h2 h3, if_neg (fun h => h15 h.1), if_neg (by simp [hp]), if_neg (by simp [hd]), if_neg (by simp [hs]), hs]
  rfl

/-- While a pulse runs or an NV record waits, the reset of a source is deferred (R519, R520). -/
theorem State.assertSrc_defers {s : State} {i : Nat} (h0 : i ≠ 0) (h2 : i = 2 → s.anchor = true) (h3 : i = 3 → s.anchor = false)
    (hp : s.pulsing = true) (h15 : s.rd F.RST_STAT_STAGE ≠ 15) :
    (s.assertSrc i).rst.deferred = true ∧ (s.assertSrc i).rd F.RST_STAT_DEFER = 1 := by
  obtain ⟨hrst, hdefer, -⟩ := (s.noteSrc i).deferReset_shows
  rw [State.assertSrc_noted h0 h2 h3, if_neg (fun h => h15 h.1), if_pos hp, hrst]
  exact ⟨rfl, hdefer⟩

/-- A source deasserts, and RST_STAT shows whether another holds (R516). -/
theorem State.deassertSrc_shows (s : State) (i : Nat) : (s.deassertSrc i).rst.on = withoutBit s.rst.on i ∧
    (s.deassertSrc i).rd F.RST_STAT_ASSERT = if (s.deassertSrc i).rst.on = 0 then 0 else 1 := by
  have hv : (s.deassertSrc i).rd F.RST_STAT_ASSERT = ofBool (withoutBit s.rst.on i != 0) % 2 := State.rd_wr ..
  refine ⟨rfl, hv.trans ?_⟩
  change _ = if withoutBit s.rst.on i = 0 then 0 else 1
  split
  · next h => rw [h]; rfl
  · next h => rw [bne_iff_ne.2 h]; rfl

/-! #### POR (R513) -/

/-- POR brings the reset to L0; where none is in force before, wafer time starts at 0 and HQ_GEN at 1 (R35, R405). -/
theorem State.assertSrc_por_level (s : State) : (s.assertSrc 0).rst.level = 0 ∧
    (s.rst.seen = 0 → (s.assertSrc 0).now = 0 ∧ (s.assertSrc 0).gangs = [] ∧ (s.assertSrc 0).qps = [] ∧
      (s.assertSrc 0).rd F.HQ_GEN_GEN = 1) := by
  unfold State.assertSrc
  rw [if_neg (by simp)]
  extract_lets r lv holds s1 s2 cut x s3
  have hlv : lv = 0 := Nat.min_zero _
  have h3 : s3.rst.level = 0 := by
    change s2.cutPulse.rst.level = 0
    have h2 : s2.rst.level = 0 := hlv
    unfold State.cutPulse
    split <;> exact h2
  rw [if_neg (by simp [hlv]), if_neg (by simp), if_neg (by simp), hlv]
  obtain ⟨-, hlevel, -⟩ := s3.applyReset_rst 0 (r.seen == 0)
  obtain ⟨hg, -, hq, hn, -⟩ := s3.applyReset_empties 0 (r.seen == 0)
  obtain ⟨hgen, -, -⟩ := s3.applyReset_shows 0 (r.seen == 0)
  refine ⟨?_, fun hs => ?_⟩
  · split
    · exact h3
    · exact hlevel.trans h3
  · have hh : ¬holds = true := by simp [holds, r, hs]
    rw [if_neg hh]
    exact ⟨hn rfl, hg, hq (by decide), hgen⟩

/-- POR reaches L0 (R513). -/
theorem por_asserts {s : State} (h : hasBit s.rst.on 0 = false) : ∃ t, exec (.por true) s = .next t ∧ hasBit t.rst.on 0 = true ∧
    t.rd F.RST_STAT_ASSERT = 1 ∧ t.rst.level = 0 ∧
    (s.rst.seen = 0 → t.now = 0 ∧ t.gangs = [] ∧ t.qps = [] ∧ t.rd F.HQ_GEN_GEN = 1) := by
  obtain ⟨hbit, hassert⟩ := s.assertSrc_por
  obtain ⟨hlevel, hzero⟩ := s.assertSrc_por_level
  exact ⟨_, congrArg Host.Outcome.next ((if_pos rfl).trans (if_neg (by simp [h]))), hbit, hassert, hlevel, hzero⟩

/-! #### The pins (R513, R518) -/

section Pins

variable {s : State} {low : Bool} {samples : Nat}

theorem State.resetPinEdge_few (i : Nat) (h : samples < 10) : s.resetPinEdge i low samples = s := if_pos h

theorem State.resetPinEdge_high (i : Nat) (h : 10 ≤ samples) (hl : low = false) : s.resetPinEdge i low samples = s.deassertSrc i :=
  (if_neg (Nat.not_lt.2 h)).trans (if_neg (by simp [hl]))

theorem State.resetPinEdge_held {i : Nat} (h : 10 ≤ samples) (hl : low = true) (hon : hasBit s.rst.on i = true) :
    s.resetPinEdge i low samples = s :=
  (if_neg (Nat.not_lt.2 h)).trans ((if_pos hl).trans (if_pos hon))

theorem State.resetPinEdge_low {i : Nat} (h : 10 ≤ samples) (hl : low = true) (hon : hasBit s.rst.on i = false) :
    s.resetPinEdge i low samples = s.assertSrc i :=
  (if_neg (Nat.not_lt.2 h)).trans ((if_pos hl).trans (if_neg (by simp [hon])))

theorem exec_resetN : exec (.resetN low samples) s = .next (s.resetPinEdge 1 low samples) := rfl

theorem exec_perstN : exec (.perstN low samples) s = .next (s.resetPinEdge 2 low samples) := rfl

/-- PERST_N of a device without a host link is ignored, whatever its level was (R513). -/
theorem perstN_ignored (h : 10 ≤ samples) (hl : low = true) (ha : s.anchor = false) : exec (.perstN low samples) s = .next s := by
  rw [exec_perstN]
  refine congrArg Host.Outcome.next ?_
  cases hon : hasBit s.rst.on 2
  · rw [State.resetPinEdge_low h hl hon]
    exact if_pos (.inl ⟨rfl, ha⟩)
  · exact State.resetPinEdge_held h hl hon

/-- RESET_N brings the reset to the level of the reset map, at once or, while a pulse runs, later (R516, R518, R519). -/
theorem resetN_asserts (h : 10 ≤ samples) (hl : low = true) (hon : hasBit s.rst.on 1 = false) :
    ∃ t, exec (.resetN low samples) s = .next t ∧ hasBit t.rst.on 1 = true ∧
      t.rd F.RST_STAT_ASSERT = 1 ∧ t.rst.level = min s.rst.level (s.srcLevel 1) ∧
      (s.rst.seen = 0 → s.rst.deferred = false → s.pulsing = false → s.rd F.RST_STAT_STAGE ≠ 15 → t.gangs = [] ∧ t.runs = [] ∧
        (t.rst.level = 1 → t.rd F.RST_STAT_STAGE = 3 ∧ t.rd F.HQ_GEN_GEN = (s.rd F.HQ_GEN_GEN + 1) % 2 ^ 32 ∧ t.now = s.now ∧ t.qps = []) ∧
        (t.rst.level = 2 → t.rd F.HQ_GEN_GEN = (s.rd F.HQ_GEN_GEN + 1) % 2 ^ 32 ∧ t.now = s.now)) ∧
      (s.pulsing = true → s.rd F.RST_STAT_STAGE ≠ 15 → t.rst.deferred = true ∧ t.rd F.RST_STAT_DEFER = 1) := by
  have h2 : 1 = 2 → s.anchor = true := fun h => absurd h (by decide)
  have h3 : 1 = 3 → s.anchor = false := fun h => absurd h (by decide)
  obtain ⟨hbit, hassert, hlevel⟩ := State.assertSrc_asserts (by decide) h2 h3
  refine ⟨_, congrArg Host.Outcome.next (State.resetPinEdge_low h hl hon), hbit, hassert, hlevel, fun hs hd hp h15 => ?_,
    State.assertSrc_defers (by decide) h2 h3⟩
  rw [hlevel, State.assertSrc_acts (by decide) h2 h3 hs hd hp h15]
  obtain ⟨hg, hr, hq, -, hn⟩ := (s.noteSrc 1).applyReset_empties (s.levelWith 1) true
  obtain ⟨hgen, hstage, -⟩ := (s.noteSrc 1).applyReset_shows (s.levelWith 1) true
  rw [if_pos rfl, s.noteSrc_gen] at hgen
  refine ⟨hg, hr, fun h1 => ⟨hstage h1, ?_, hn (by omega), hq (by omega)⟩, fun h2 => ⟨?_, hn (by omega)⟩⟩
  · rw [hgen, if_neg (by omega), Nat.mod_mod]
  · rw [hgen, if_neg (by omega), Nat.mod_mod]

/-- PERST_N of an anchor brings the reset to its level (R513, R518). -/
theorem perstN_asserts (h : 10 ≤ samples) (hl : low = true) (ha : s.anchor = true) (hon : hasBit s.rst.on 2 = false) :
    ∃ t, exec (.perstN low samples) s = .next t ∧ hasBit t.rst.on 2 = true ∧ t.rd F.RST_STAT_ASSERT = 1 ∧
      t.rst.level = min s.rst.level (s.srcLevel 2) :=
  ⟨_, congrArg Host.Outcome.next (State.resetPinEdge_low h hl hon),
    State.assertSrc_asserts (by decide) (fun _ => ha) fun h => absurd h (by decide)⟩

end Pins

/-! #### The watchdog (R530) -/

/-- The watchdog's source is one that every device has. -/
theorem State.assertSrc_watchdog (s : State) : hasBit (s.assertSrc 4).rst.on 4 = true ∧ (s.assertSrc 4).rd F.RST_STAT_ASSERT = 1 := by
  obtain ⟨hbit, hassert, -⟩ := State.assertSrc_asserts (s := s) (i := 4) (by decide) (fun h => absurd h (by decide)) fun h => absurd h (by decide)
  exact ⟨hbit, hassert⟩

/-- The watchdog asserts its source on an exception, or 50 ms after its warning. -/
theorem wdog_asserts {s : State} {crash : Bool} (hr : s.fwRuns = true)
    (h : crash = true ∨ s.rst.wdWarned = true ∧ 0 ≤ ahead s.now (after s.rst.wdT (50 * tMs))) :
    ∃ t, exec (.wdog crash) s = .next t ∧ hasBit t.rst.on 4 = true ∧ t.rd F.RST_STAT_ASSERT = 1 := by
  have hr' : ¬s.fwRuns = false := by simp [hr]
  cases crash with
  | true => exact ⟨_, congrArg Host.Outcome.next ((if_neg hr').trans (if_pos rfl)), State.assertSrc_watchdog _⟩
  | false =>
    obtain ⟨hw, ht⟩ := h.resolve_left (by decide)
    have hn : ¬(s.rst.wdWarned = false ∨ ahead s.now (after s.rst.wdT (50 * tMs)) < 0) := by
      rw [hw]
      rintro (h | h)
      · exact nomatch h
      · omega
    exact ⟨_, congrArg Host.Outcome.next ((if_neg hr').trans ((if_neg (by decide)).trans (if_neg hn))), State.assertSrc_watchdog _⟩

/-- The warning restarts the watchdog's time and is a fault of source 53. -/
theorem wdogWarn_warns {s : State} (hr : s.fwRuns = true)
    (h : s.rst.wdWarned = false ∨ 0 ≤ ahead s.now (after s.rst.wdT (50 * tMs))) :
    ∃ t, exec .wdogWarn s = .next t ∧ t.rst.wdWarned = true ∧ t.rst.wdT = s.now ∧
      t.faultq = s.faultq ++ [FaultIn.mk 53 0 0 false s.now] := by
  have hn : ¬(s.fwRuns = false ∨ (s.rst.wdWarned = true ∧ ahead s.now (after s.rst.wdT (50 * tMs)) < 0)) := by
    rw [hr]
    rintro (h' | ⟨hw, ht⟩)
    · exact nomatch h'
    · rcases h with h | h
      · exact absurd hw (by simp [h])
      · omega
  exact ⟨_, congrArg Host.Outcome.next (if_neg hn), rfl, rfl, rfl⟩

/-! #### Deferred resets and the NV record (R519, R520, R537) -/

/-- With no pulse and no record left, a deferred reset acts. -/
theorem deferredReset_acts {s : State} (v : Bool) (hd : s.rst.deferred = true) (hp : s.rst.pulse = none) (hq : s.rst.nvq = []) :
    ∃ t, exec (.deferredReset v) s = .next t ∧ t.rst.deferred = false ∧ t.rd F.RST_STAT_DEFER = 0 ∧ t.gangs = [] ∧ t.runs = [] := by
  let u := ({ s with rst := { s.rst with deferred := false } } : State).wr F.RST_STAT_DEFER 0
  obtain ⟨-, -, hdef⟩ := u.applyReset_rst s.rst.level true
  obtain ⟨hg, hr, -, -, -⟩ := u.applyReset_empties s.rst.level true
  obtain ⟨-, -, hshow⟩ := u.applyReset_shows s.rst.level true
  refine ⟨u.applyReset s.rst.level true, ?_, hdef, hshow (State.rd_wr ..), hg, hr⟩
  refine congrArg Host.Outcome.next ((if_neg (by simp [hd])).trans ?_)
  dsimp only
  rw [hp]
  exact if_neg (by simp [State.pulsing, hp, hq])

/-- A record that waits goes on deferring. -/
theorem deferredReset_waits {s : State} (v : Bool) (hd : s.rst.deferred = true) (hp : s.rst.pulse = none) (hq : s.rst.nvq ≠ []) :
    exec (.deferredReset v) s = .next s := by
  refine congrArg Host.Outcome.next ((if_neg (by simp [hd])).trans ?_)
  dsimp only
  rw [hp]
  exact if_pos (by simp [State.pulsing, hp, hq])

theorem State.startNv_record {s : State} {r : NvRec} {rest : List NvRec} (hp : s.rst.pulse = none) (hq : s.rst.nvq = r :: rest) :
    s.startNv = s.pulseRow (64 * (s.nvNext % 64)) (nvRow r s.nvNext) := by
  unfold State.startNv
  rw [if_neg (by simp [hp]), hq]

theorem exec_nvRecordWrite_begins {s : State} (v : Bool) (hp : s.rst.pulse = none) : exec (.nvRecordWrite v) s = .next s.startNv := by
  change Host.Outcome.next (match s.rst.pulse with | none => s.startNv | some _ => s.endNv v) = _
  rw [hp]

theorem exec_nvRecordWrite_ends {s : State} (v : Bool) {p : PulseX} (hp : s.rst.pulse = some p) :
    exec (.nvRecordWrite v) s = .next (s.endNv v) := by
  change Host.Outcome.next (match s.rst.pulse with | none => s.startNv | some _ => s.endNv v) = _
  rw [hp]

theorem State.endPulse_of {s : State} {p : PulseX} (hp : s.rst.pulse = some p) (v : Bool) :
    s.endPulse v = { s with mtpMem := if v then s.mtpMem.writeBytes p.row p.bytes else s.mtpMem, rst := { s.rst with pulse := none } } := by
  unfold State.endPulse
  rw [hp]

/-- The pulse of a record that verifies leaves the record in its row, the newest and not acknowledged (R537). -/
theorem State.endNv_verified {s : State} {p : PulseX} (hp : s.rst.pulse = some p) (hrow : p.row < 0x1000) (hack : p.bytes.getD 4 0 ≠ 0) :
    let t := s.endNv true
    t.rst.pulse = none ∧ t.rst.nvq = s.rst.nvq.drop 1 ∧ t.mtpMem = s.mtpMem.writeBytes p.row p.bytes ∧
      t.rd F.RST_NVSEL_NEWV = 1 ∧ t.rd F.RST_NVSEL_NEWACK = 0 ∧ t.rd F.RST_NVSEL_NEWEST = p.row / 64 := by
  unfold State.endNv
  rw [hp]
  dsimp only
  rw [if_neg (by omega), if_neg (by decide), if_neg (by simpa using hack), State.endPulse_of hp]
  refine ⟨rfl, rfl, rfl, ?_, ?_, (State.rd_wr ..).trans (Nat.mod_eq_of_lt (by change _ < 64; omega))⟩
  · exact (State.rd_wr_ne _ _ _ _ _ _ (.inr (by decide))).trans ((State.rd_wr_ne _ _ _ _ _ _ (.inr (by decide))).trans (State.rd_wr ..))
  · exact (State.rd_wr_ne _ _ _ _ _ _ (.inr (by decide))).trans (State.rd_wr ..)

/-- The pulse of a record that does not verify leaves the record waiting (R537). -/
theorem State.endNv_failed {s : State} {p : PulseX} (hp : s.rst.pulse = some p) (hrow : p.row < 0x1000) (hack : p.bytes.getD 4 0 ≠ 0) :
    s.endNv false = { s with rst := { s.rst with pulse := none } } := by
  unfold State.endNv
  rw [hp]
  dsimp only
  rw [if_neg (by omega), if_pos rfl, if_neg (by simpa using hack), State.endPulse_of hp]
  rfl

/-- An acknowledgement begins its own pulse where no pulse runs and no record waits (R519, R537). -/
theorem State.startNv_acknowledges {s : State} (hp : s.rst.pulse = none) (hq : s.rst.nvq = []) (hd : s.rst.ackDue = true)
    (hv : s.on F.RST_NVSEL_NEWV = true) : s.startNv.regs = s.regs ∧ s.startNv.rst.pulse = some
      { row := 64 * s.rd F.RST_NVSEL_NEWEST, bytes := (s.nvSlot (s.rd F.RST_NVSEL_NEWEST)).set 4 0 } := by
  unfold State.startNv
  rw [if_neg (by simp [hp]), hq]
  dsimp only
  rw [if_pos (by simp [hd, hv])]
  exact ⟨rfl, rfl⟩

theorem State.ackNv_begins {s : State} (hp : s.rst.pulse = none) (hq : s.rst.nvq = []) (hv : s.on F.RST_NVSEL_NEWV = true) :
    s.ackNv.regs = s.regs ∧ s.ackNv.rst.pulse = some
      { row := 64 * s.rd F.RST_NVSEL_NEWEST, bytes := (s.nvSlot (s.rd F.RST_NVSEL_NEWEST)).set 4 0 } :=
  State.startNv_acknowledges (s := { s with rst := { s.rst with ackDue := true } }) hp hq rfl hv

/-- During a pulse the acknowledgement waits (R537). -/
theorem State.ackNv_waits {s : State} (hp : s.rst.pulse.isSome = true) :
    s.ackNv = { s with rst := { s.rst with ackDue := true } } := if_pos hp

/-- PRIORSHUT is cleared, and the clearing acknowledges the record (R487, R537). -/
theorem priorshutClear_clears {s : State} (h : s.on F.THM_STAT_PRIORSHUT = true) : ∃ t, exec .priorshutClear s = .next t ∧
    t.rd F.THM_STAT_PRIORSHUT = 0 ∧
    (s.rst.pulse = none → s.rst.nvq = [] → s.on F.RST_NVSEL_NEWV = true → t.rst.pulse.isSome = true) := by
  refine ⟨_, congrArg Host.Outcome.next (if_pos h), ?_, fun hp hq hv => ?_⟩
  · exact ((State.startNv_does _).rd F.THM_STAT_PRIORSHUT 0 0 (by decide)).trans (State.rd_wr s F.THM_STAT_PRIORSHUT 0 0 0)
  · have hv' : (s.wr F.THM_STAT_PRIORSHUT 0).on F.RST_NVSEL_NEWV = true := by
      rw [State.on, State.rd_wr_ne _ _ _ _ _ _ (.inl (by decide))]
      exact hv
    obtain ⟨-, hpulse⟩ := State.ackNv_begins (s := s.wr F.THM_STAT_PRIORSHUT 0) hp hq hv'
    rw [hpulse]
    rfl

/-- Settles O57, by what a reset of each level leaves, and the noting of a source before its reset acts or is deferred. -/
theorem resetSourcesAssertAndLevelsAct : Obligations.ResetSourcesAssertAndLevelsAct := by
  unfold Obligations.ResetSourcesAssertAndLevelsAct
  intro s
  refine ⟨por_asserts, fun h => congrArg Host.Outcome.next ((if_pos rfl).trans (if_pos h)), ⟨_, rfl, s.deassertSrc_shows 0⟩,
    fun low samples => ⟨fun h => ?_, fun h hl => ?_, resetN_asserts, fun h hl hon => ?_, perstN_ignored, perstN_asserts⟩,
    ⟨_, rfl, s.assertSrc_watchdog⟩, fun crash => ⟨fun h => congrArg Host.Outcome.next (if_pos h), wdog_asserts⟩, wdogWarn_warns,
    fun v => ⟨fun h => congrArg Host.Outcome.next (if_pos h), deferredReset_acts v, deferredReset_waits v, fun r rest hp hq => ?_,
      fun p hp hrow hack => ⟨fun hv => ?_, fun hv => ?_⟩⟩,
    fun hp hq hv => ⟨_, rfl, State.ackNv_begins hp hq hv⟩, fun hp => ⟨_, rfl, ?_⟩, priorshutClear_clears,
    fun h => congrArg Host.Outcome.next (if_neg (by simp [h]))⟩
  · rw [exec_resetN, exec_perstN, State.resetPinEdge_few 1 h, State.resetPinEdge_few 2 h]
    exact ⟨rfl, rfl⟩
  · rw [exec_resetN, State.resetPinEdge_high 1 h hl]
    exact ⟨_, rfl, s.deassertSrc_shows 1⟩
  · rw [exec_resetN, State.resetPinEdge_held h hl hon]
  · rw [exec_nvRecordWrite_begins v hp, State.startNv_record hp hq]
    exact ⟨_, rfl, rfl, rfl⟩
  · subst hv
    exact ⟨_, exec_nvRecordWrite_ends true hp, State.endNv_verified hp hrow hack⟩
  · subst hv
    rw [exec_nvRecordWrite_ends false hp, State.endNv_failed hp hrow hack]
    exact ⟨_, rfl, rfl, rfl, rfl, rfl⟩
  · rw [State.ackNv_waits hp]
    exact ⟨rfl, rfl⟩

end Sys2Proof.Machine
end

/-! ### Scope: fault records, reactions, the safe state -/

section
namespace Sys2Proof.Machine

open Sys2Proof

/-! #### What reactions leave of the records (R493, R496) -/

/-- The fields in which the collector records a fault. -/
def recordFields : List Fld := [F.FLT_PEND_PEND, F.FLT_FIRST_REC, F.FLT_SECOND_REC, F.FLT_STAT_FIRSTV, F.FLT_STAT_SECONDV, F.FLT_STAT_SELF]

/-- A reset of registers leaves the records alone where it picks none of theirs. -/
theorem State.resetRegs_records (s : State) (l : Lvl) (p : FKey → Bool) (hp : ∀ f ∈ recordFields, ∀ i, p (f.key i 0) = false) :
    s.Keeps recordFields (s.resetRegs l p) := by
  refine ⟨fun f hf i => ?_⟩
  rw [State.rd_resetRegs, hp f hf i]
  rfl

theorem State.resetPod_records (s : State) (p : Nat) : s.Keeps recordFields (s.resetPod p) := by
  unfold State.resetPod
  extract_lets a b c x d e
  have ha : s.Keeps recordFields a := (s.cutLoads_does p).keeps (by decide)
  have hb : a.Keeps recordFields b := by
    refine State.Keeps.foldl (fun u q => ?_) _ a
    extract_lets v x w
    have hv : u.Keeps recordFields v :=
      ((State.wr_does u F.PIN_CFG_DRV_EN 0 q 0).andThen (State.forceDrv_does _ q 0)).keeps (by decide)
    have hw : v.Keeps recordFields w := (v.setPin_does q _).keeps (by decide)
    exact hv.trans (hw.trans (.ite ((w.pmuOpen_does q).keeps (by decide)) (.refl w)))
  have hc : b.Keeps recordFields c := b.resetRegs_records .l2 _ fun f hf i => by
    have hreg : capFlags.contains f.reg = false := (show ∀ f ∈ recordFields, capFlags.contains f.reg = false by decide) f hf
    rw [Fld.key, hreg]
    rfl
  have hd : c.Keeps recordFields d := (c.setPod_does p _).keeps (by decide)
  clear_value d
  have he : d.Keeps recordFields e := ⟨fun _ _ _ => rfl⟩
  refine ha.trans (hb.trans (hc.trans (hd.trans (he.trans (.foldl (fun u w => ?_) _ e)))))
  exact .ite ((u.faultMute_does w).keeps (by decide)) (.refl u)

theorem State.resetProg_records (s : State) (n : Nat) : s.Keeps recordFields (s.resetProg n) := by
  refine (s.resetRegs_records .l2 (fun k => siteProg.contains k.reg && k.i == n) fun f hf i => ?_).trans
    ((State.setGang_does _ n _).keeps (by decide))
  have hreg : siteProg.contains f.reg = false := (show ∀ f ∈ recordFields, siteProg.contains f.reg = false by decide) f hf
  rw [Fld.key, hreg]
  rfl

theorem State.addFence_records (s : State) (src kind unit : Nat) : s.Keeps recordFields (s.addFence src kind unit) :=
  (s.addFence_does src kind unit).keeps (by decide)

theorem State.faultHusk_records (s : State) (n : Nat) (stamp : Stamp) (stands : Bool) : s.Keeps recordFields (s.faultHusk n stamp stands) :=
  (s.faultHusk_does n stamp stands).keeps (by decide)

theorem State.fencePod_records (s : State) (src p : Nat) (stamp : Stamp) : s.Keeps recordFields (s.fencePod src p stamp) := by
  unfold State.fencePod
  extract_lets a b
  have hb : a.Keeps recordFields b := by
    unfold b
    split
    · exact State.faultHusk_records ..
    · exact .refl a
  exact (s.addFence_records src 1 p).trans (hb.trans (b.resetPod_records p))

theorem State.fenceRail_records (s : State) (src r : Nat) (stamp : Stamp) : s.Keeps recordFields (s.fenceRail src r stamp) :=
  (s.fenceRail_does src r stamp).keeps (by decide)

theorem State.fenceDie_records (s : State) (src k : Nat) (stamp : Stamp) : s.Keeps recordFields (s.fenceDie src k stamp) := by
  unfold State.fenceDie
  extract_lets a b c
  have hb : a.Keeps recordFields b := .foldl (fun u n => u.faultHusk_records n stamp false) _ a
  have hc : b.Keeps recordFields c := .foldl (fun u p => u.resetPod_records p) _ b
  refine (s.addFence_records src 6 k).trans (hb.trans (hc.trans (.foldl (fun u r => ?_) _ c)))
  exact .ite ((u.tripRail_does r).keeps (by decide)) (.refl u)

theorem State.fenceSite_records (s : State) (src n : Nat) (stamp : Stamp) : s.Keeps recordFields (s.fenceSite src n stamp) := by
  unfold State.fenceSite
  extract_lets ps rs a b c
  have ha : s.Keeps recordFields a := .foldl (fun u p => u.addFence_records src 1 p) _ s
  have hb : a.Keeps recordFields b := .foldl (fun u r => u.addFence_records src 2 r) _ a
  have hc : b.Keeps recordFields c := b.faultHusk_records n stamp _
  exact ha.trans (hb.trans (hc.trans ((State.Keeps.foldl (fun u p => u.resetPod_records p) ps c).trans (State.resetProg_records _ n))))

/-! #### Entry to the safe state (R506, R507) -/

/-- The device shows the safe state, with its cause and its time. -/
def State.safeShown (s : State) (cause : Nat) : State :=
  { ((s.wr F.FLT_SAFE_ACTIVE 1).wr F.FLT_STAT_SAFE 1).wr F.FLT_SAFE_CAUSE cause with
    safeX := { s.safeX with since := s.now, byCollector := cause == 2 } }

/-- The sites become husks with cause FAULT. -/
def State.sitesLost (s : State) : State := s.sitesDefined.foldl (fun (s : State) (n : Nat) => s.faultHusk n s.now) s

/-- What may change between two states where outputs are muted and descriptors end. -/
abbrev EndsWork (s t : State) : Prop :=
  Does 0x1000e6fc00818 0x40000000000001018a00000000000000000000000000002040820000000000 s t

/-- What the entry does to outputs, queues and the NV record, once the sites are husks. -/
theorem State.enterSafe_after {s : State} (h : s.safe = false) (cause : Nat) :
    EndsWork (s.safeShown cause).sitesLost (s.enterSafe cause) := by
  unfold State.enterSafe
  rw [if_neg (by simp [h])]
  extract_lets a x b c d e
  have hd : EndsWork c d :=
    .foldl (fun u w hu => .step (State.faultMute_does ..) (by decide) (by decide) hu) (.refl ..)
  have he : EndsWork c e :=
    .foldl (fun u q hu => .foldl (fun v i hv => .step (State.safeDesc_does ..) (by decide) (by decide) hv) hu) hd
  exact .ite (fun _ => he) fun _ => .step (State.nvRecord_does ..) (by decide) (by decide) he

theorem State.sitesLost_does (s : State) :
    Does 0x19c03cf8 0x48000000a00200074120088040743c0008000000000000000000000000000000000 s s.sitesLost :=
  Does.each (fun u n => u.faultHusk_does n u.now false) _ s

/-- The entry shows the safe state, with its cause and its time. -/
theorem State.enterSafe_shows {s : State} (h : s.safe = false) (cause : Nat) :
    (s.enterSafe cause).safe = true ∧ (s.enterSafe cause).rd F.FLT_SAFE_CAUSE = cause % 2 ^ F.FLT_SAFE_CAUSE.width ∧
      (s.enterSafe cause).safeX = { s.safeX with since := s.now, byCollector := cause == 2 } := by
  have d := (State.sitesLost_does (s.safeShown cause)).andThen (State.enterSafe_after h cause)
  refine ⟨?_, ?_, d.safeX (by decide)⟩
  · refine (d.on F.FLT_SAFE_ACTIVE 0 0 (by decide)).trans ?_
    change State.on (((s.wr F.FLT_SAFE_ACTIVE 1).wr F.FLT_STAT_SAFE 1).wr F.FLT_SAFE_CAUSE cause) F.FLT_SAFE_ACTIVE = true
    rw [State.on, State.rd_wr_ne _ _ _ _ _ _ (.inr (by decide)), State.rd_wr_ne _ _ _ _ _ _ (.inl (by decide)), State.rd_wr]
    rfl
  · exact (d.rd F.FLT_SAFE_CAUSE 0 0 (by decide)).trans (State.rd_wr ((s.wr F.FLT_SAFE_ACTIVE 1).wr F.FLT_STAT_SAFE 1) F.FLT_SAFE_CAUSE cause 0 0)

theorem State.enterSafe_in {s : State} (h : s.safe = true) (cause : Nat) : s.enterSafe cause = s := if_pos h

theorem State.enterSafe_records (s : State) (cause : Nat) : s.Keeps recordFields (s.enterSafe cause) := by
  cases h : s.safe
  · have hshown : s.Keeps recordFields (s.safeShown cause) := by
      have h1 := s.wr_keeps (f := F.FLT_SAFE_ACTIVE) (fs := recordFields) 1 0 (by decide)
      have h2 := State.wr_keeps (s.wr F.FLT_SAFE_ACTIVE 1) (f := F.FLT_STAT_SAFE) (fs := recordFields) 1 0 (by decide)
      have h3 := State.wr_keeps ((s.wr F.FLT_SAFE_ACTIVE 1).wr F.FLT_STAT_SAFE 1) (f := F.FLT_SAFE_CAUSE) (fs := recordFields) cause 0 (by decide)
      exact (h1.trans (h2.trans h3)).trans ⟨fun _ _ _ => rfl⟩
    exact hshown.trans (((State.sitesLost_does _).andThen (State.enterSafe_after h cause)).keeps (by decide))
  · rw [State.enterSafe_in h]
    exact .refl s

/-- A site that becomes a husk shows cause FAULT; every other keeps what it showed (R362). -/
theorem State.faultHusk_fault (s : State) (n m : Nat) (stamp : Stamp) :
    (s.faultHusk n stamp).rd F.SITE_FSTAT_FAULT m = if m = n then 1 else s.rd F.SITE_FSTAT_FAULT m := by
  have hw : (s.wr F.SITE_FSTAT_FAULT 1 n).rd F.SITE_FSTAT_FAULT m = if m = n then 1 else s.rd F.SITE_FSTAT_FAULT m := by
    split
    · next h =>
      subst h
      exact State.rd_wr ..
    · next h => exact State.rd_wr_inst _ _ _ _ _ _ _ (.inl h)
  rw [← hw]
  unfold State.faultHusk
  by_cases hh : (s.wr F.SITE_FSTAT_FAULT 1 n).on F.SITE_FSTAT_HUSK n = true
  · rw [State.makeHusk_husk hh]
  · obtain ⟨-, hkeep⟩ := State.makeHusk_fences (Bool.eq_false_of_not_eq_true hh) stamp
    exact hkeep _ m rfl (.inr (by decide))

/-- The entry leaves every site a husk with cause FAULT. -/
theorem State.enterSafe_husks {s : State} (h : s.safe = false) (cause : Nat) {n : Nat} (hn : n ∈ s.sitesDefined) :
    (s.enterSafe cause).on F.SITE_FSTAT_FAULT n = true := by
  rw [(State.enterSafe_after h cause).on F.SITE_FSTAT_FAULT n 0 (by decide)]
  refine beq_iff_eq.2 (fold_attains (fun (s : State) (n : Nat) => s.faultHusk n s.now) (fun s n => s.rd F.SITE_FSTAT_FAULT n)
    (fun u p => ?_) (fun u p q hqp hq => ?_) (show n ∈ (s.safeShown cause).sitesDefined from hn) _)
  · rw [State.faultHusk_fault, if_pos rfl]
  · rw [State.faultHusk_fault, if_neg hqp]
    exact hq

/-! #### Records (R495, R496) -/

theorem State.react_records (s : State) (f : FaultIn) (react : Nat) : s.Keeps recordFields (s.react f react) := by
  unfold State.react
  dsimp only
  split
  · exact .ite (State.fenceDie_records ..) (.ite (.ite (State.fencePod_records ..) (.refl s)) (State.fencePod_records ..))
  · refine .ite ?_ ?_
    · split
      · exact State.fenceSite_records ..
      · exact State.fenceRail_records ..
    · split
      · exact State.fenceSite_records ..
      · exact State.fencePod_records ..
  · exact .ite (State.fenceDie_records ..) (State.fenceRail_records ..)
  · exact (State.fencePort_does ..).keeps (by decide)
  · exact State.enterSafe_records ..
  · exact .refl s

/-- Eight words stand where they are written (R496). -/
theorem State.putRecWords_rd (s : State) (f : Fld) (ws : List Nat) (w : Fin 8) : (s.putRecWords f ws).rd f w = ws.getD w 0 % 2 ^ f.width :=
  fold_writes (f := f) (fun _ w => ws.getD w 0 % 2 ^ f.width) (fun (s : State) (w : Nat) => s.wr f (ws.getD w 0) w)
    (fun _ _ => State.rd_wr ..) (fun _ _ _ => rfl) (fun _ _ _ h => State.rd_wr_inst _ _ _ _ _ _ _ (.inl h)) (List.mem_range.2 w.isLt) s

theorem State.putRecWords_away (s : State) {f g : Fld} (ws : List Nat) (h : f.reg ≠ g.reg) (i j : Nat) :
    (s.putRecWords f ws).rd g i j = s.rd g i j :=
  fold_keeps _ (fun s => s.rd g i j) (fun _ _ => State.rd_wr_ne _ _ _ _ _ _ (.inl h)) _ s

/-- The pending bit of a fault is set, and the records stand as they did (R495). -/
theorem State.markFault_marks (s : State) (f : FaultIn) (sev react : Nat) :
    hasBit ((s.markFault f sev react).rd F.FLT_PEND_PEND (f.src / 32)) (f.src % 32) = true ∧
    (∀ g : Fld, g.reg ≠ .FLT_PEND → g.reg ≠ .FLT_CNT → g.reg ≠ .FLT_CAUSE → ∀ i, (s.markFault f sev react).rd g i = s.rd g i) := by
  unfold State.markFault
  extract_lets j b s1 s2
  have h1 : hasBit (s1.rd F.FLT_PEND_PEND j) b = true := by
    unfold s1 State.bump
    rw [State.rd_wr_ne _ _ _ _ _ _ (.inl (by decide)), State.rd_wr]
    exact (hasBit_mod_two_pow (w := 32) _ (Nat.mod_lt _ (by decide))).trans (hasBit_withBit ..)
  have hs1 (g : Fld) (hp : g.reg ≠ .FLT_PEND) (hc : g.reg ≠ .FLT_CNT) (i : Nat) : s1.rd g i = s.rd g i :=
    (State.rd_wr_ne _ _ _ _ _ _ (.inl hc.symm)).trans (State.rd_wr_ne _ _ _ _ _ _ (.inl hp.symm))
  refine ⟨?_, fun g hp hc hcause i => ?_⟩
  · split
    · rw [State.rd_wr_ne _ _ _ _ _ _ (.inl (by decide))]
      exact h1
    · exact h1
  · split
    · exact (State.rd_wr_ne _ _ _ _ _ _ (.inl hcause.symm)).trans (hs1 g hp hc i)
    · exact hs1 g hp hc i

/-- The record of a fault goes to FLT_FIRST, then to FLT_SECOND, and is counted thereafter (R496, R497). -/
def State.noteRecord (s : State) (ws : List Nat) : State :=
  if s.on F.FLT_STAT_FIRSTV = false then (s.putRecWords F.FLT_FIRST_REC ws).wr F.FLT_STAT_FIRSTV 1
  else if s.on F.FLT_STAT_SECONDV = false then (s.putRecWords F.FLT_SECOND_REC ws).wr F.FLT_STAT_SECONDV 1
  else s.bump F.FLT_SECCNT_COUNT 1

/-- The first record is taken. -/
theorem State.putRecord_first {s : State} (ws : List Nat) (h : s.on F.FLT_STAT_FIRSTV = false) :
    (s.noteRecord ws).rd F.FLT_STAT_FIRSTV = 1 ∧ ∀ w : Fin 8, (s.noteRecord ws).rd F.FLT_FIRST_REC w = ws.getD w 0 % 2 ^ 32 := by
  unfold State.noteRecord
  rw [if_pos h]
  exact ⟨State.rd_wr .., fun w => (State.rd_wr_ne _ _ _ _ _ _ (.inl (by decide))).trans (State.putRecWords_rd s F.FLT_FIRST_REC ws w)⟩

/-- The second record is taken, and the first stands. -/
theorem State.putRecord_second {s : State} (ws : List Nat) (h : s.on F.FLT_STAT_FIRSTV = true) (h2 : s.on F.FLT_STAT_SECONDV = false) :
    (s.noteRecord ws).rd F.FLT_STAT_SECONDV = 1 ∧ ∀ w : Fin 8, (s.noteRecord ws).rd F.FLT_SECOND_REC w = ws.getD w 0 % 2 ^ 32 ∧
      (s.noteRecord ws).rd F.FLT_FIRST_REC w = s.rd F.FLT_FIRST_REC w := by
  unfold State.noteRecord
  rw [if_neg (by simp [h]), if_pos h2]
  refine ⟨State.rd_wr .., fun w => ⟨?_, ?_⟩⟩
  · exact (State.rd_wr_ne _ _ _ _ _ _ (.inl (by decide))).trans (State.putRecWords_rd s F.FLT_SECOND_REC ws w)
  · exact (State.rd_wr_ne _ _ _ _ _ _ (.inl (by decide))).trans (State.putRecWords_away s ws (by decide) w 0)

theorem State.putRecord_pend (s : State) (ws : List Nat) (i : Nat) : (s.noteRecord ws).rd F.FLT_PEND_PEND i = s.rd F.FLT_PEND_PEND i := by
  unfold State.noteRecord
  split
  · exact (State.rd_wr_ne _ _ _ _ _ _ (.inl (by decide))).trans (State.putRecWords_away s ws (by decide) i 0)
  · split
    · exact (State.rd_wr_ne _ _ _ _ _ _ (.inl (by decide))).trans (State.putRecWords_away s ws (by decide) i 0)
    · exact State.rd_wr_ne _ _ _ _ _ _ (.inl (by decide))

/-- The state in which a fault's record is put: the fault is marked and has taken its sequence number. -/
def State.markedFor (s : State) (f : FaultIn) : State :=
  (State.faultSeq (s.markFault f (s.rd F.FLT_SRC_SEV f.src) (s.rd F.FLT_SRC_REACT f.src)) f.src).2

/-- The words of a fault's record. -/
def State.wordsOf (s : State) (f : FaultIn) : List Nat :=
  faultWords f (s.rd F.FLT_SRC_SEV f.src) (s.rd F.FLT_SRC_REACT f.src) (s.seqs.at 0 (4096 + f.src))

section TakeFault

variable {s : State} {f : FaultIn}

/-- An ignored fault is marked and nothing more (R493, R495). -/
theorem State.takeFault_ignored (hs : (faultFactory f.src).isSome = true) (hr : s.rd F.FLT_SRC_REACT f.src = 0) :
    s.takeFault f = s.markFault f (s.rd F.FLT_SRC_SEV f.src) (s.rd F.FLT_SRC_REACT f.src) := by
  unfold State.takeFault
  rw [if_neg (by simpa [← Option.isSome_iff_ne_none] using hs)]
  dsimp only
  rw [if_pos hr]

/-- Another is marked, recorded and announced, and its reaction acts (R495 to R498). -/
theorem State.takeFault_reacts (hs : (faultFactory f.src).isSome = true) (hr : s.rd F.FLT_SRC_REACT f.src ≠ 0) :
    ∃ p, s.takeFault f =
      State.react (((s.markedFor f).noteRecord (s.wordsOf f)).raise (2144 + f.src / 6) f.src p f.stamp) f (s.rd F.FLT_SRC_REACT f.src) := by
  have hq : (s.markFault f (s.rd F.FLT_SRC_SEV f.src) (s.rd F.FLT_SRC_REACT f.src)).seqs = s.seqs := (State.markFault_does ..).seqs (by decide)
  refine ⟨[join ((s.wordsOf f).getD 0 0) ((s.wordsOf f).getD 1 0)], ?_⟩
  unfold State.takeFault State.wordsOf
  rw [if_neg (by simpa [← Option.isSome_iff_ne_none] using hs), ← hq]
  dsimp only
  rw [if_neg hr]
  rfl

theorem State.markedFor_rd (g : Fld) (hp : g.reg ≠ .FLT_PEND) (hc : g.reg ≠ .FLT_CNT) (hcause : g.reg ≠ .FLT_CAUSE) (i : Nat) :
    (s.markedFor f).rd g i = s.rd g i :=
  (s.markFault_marks f (s.rd F.FLT_SRC_SEV f.src) (s.rd F.FLT_SRC_REACT f.src)).2 g hp hc hcause i

/-- What stands in the records when a fault is taken: its pending bit, and its record in the first place that is free. -/
theorem State.takeFault_records (hs : (faultFactory f.src).isSome = true) :
    hasBit ((s.takeFault f).rd F.FLT_PEND_PEND (f.src / 32)) (f.src % 32) = true ∧
    (s.rd F.FLT_SRC_REACT f.src ≠ 0 →
      (s.on F.FLT_STAT_FIRSTV = false → (s.takeFault f).on F.FLT_STAT_FIRSTV = true ∧
        ∀ w : Fin 8, (s.takeFault f).rd F.FLT_FIRST_REC w = (s.wordsOf f).getD w 0 % 2 ^ 32) ∧
      (s.on F.FLT_STAT_FIRSTV = true → s.on F.FLT_STAT_SECONDV = false → (s.takeFault f).on F.FLT_STAT_SECONDV = true ∧
        ∀ w : Fin 8, (s.takeFault f).rd F.FLT_SECOND_REC w = (s.wordsOf f).getD w 0 % 2 ^ 32 ∧
          (s.takeFault f).rd F.FLT_FIRST_REC w = s.rd F.FLT_FIRST_REC w)) := by
  obtain ⟨hbit, -⟩ := s.markFault_marks f (s.rd F.FLT_SRC_SEV f.src) (s.rd F.FLT_SRC_REACT f.src)
  by_cases hr : s.rd F.FLT_SRC_REACT f.src = 0
  · exact ⟨(State.takeFault_ignored hs hr).symm ▸ hbit, fun h => absurd hr h⟩
  · obtain ⟨p, heq⟩ := State.takeFault_reacts hs hr
    have keep : ((s.markedFor f).noteRecord (s.wordsOf f)).Keeps recordFields (s.takeFault f) :=
      heq ▸ (((State.raise_does ..).keeps fun _ _ => Nat.zero_testBit _).trans (State.react_records ..))
    have hfirst : (s.markedFor f).on F.FLT_STAT_FIRSTV = s.on F.FLT_STAT_FIRSTV :=
      congrArg (· == 1) (State.markedFor_rd F.FLT_STAT_FIRSTV (by decide) (by decide) (by decide) 0)
    have hsecond : (s.markedFor f).on F.FLT_STAT_SECONDV = s.on F.FLT_STAT_SECONDV :=
      congrArg (· == 1) (State.markedFor_rd F.FLT_STAT_SECONDV (by decide) (by decide) (by decide) 0)
    refine ⟨?_, fun _ => ⟨fun h => ?_, fun h h2 => ?_⟩⟩
    · rw [keep.rd F.FLT_PEND_PEND (by decide), State.putRecord_pend]
      exact hbit
    · obtain ⟨hv, hw⟩ := State.putRecord_first (s.wordsOf f) (hfirst.trans h)
      refine ⟨beq_iff_eq.2 ((keep.rd F.FLT_STAT_FIRSTV (by decide) 0).trans hv), fun w => ?_⟩
      exact (keep.rd F.FLT_FIRST_REC (by decide) w).trans (hw w)
    · obtain ⟨hv, hw⟩ := State.putRecord_second (s.wordsOf f) (hfirst.trans h) (hsecond.trans h2)
      refine ⟨beq_iff_eq.2 ((keep.rd F.FLT_STAT_SECONDV (by decide) 0).trans hv), fun w => ⟨?_, ?_⟩⟩
      · exact (keep.rd F.FLT_SECOND_REC (by decide) w).trans (hw w).1
      · exact (keep.rd F.FLT_FIRST_REC (by decide) w).trans
          ((hw w).2.trans (State.markedFor_rd F.FLT_FIRST_REC (by decide) (by decide) (by decide) w))

/-- A fault whose reaction is SAFE_STATE brings the device there (R493, R506). -/
theorem State.takeFault_safe (hs : (faultFactory f.src).isSome = true) (hr : s.rd F.FLT_SRC_REACT f.src = 6) :
    (s.takeFault f).safe = true := by
  obtain ⟨p, heq⟩ := State.takeFault_reacts hs (by rw [hr]; decide)
  rw [heq, hr]
  change State.safe (State.enterSafe (State.raise ..) 1) = true
  generalize State.raise _ _ _ _ _ = u
  cases h : u.safe
  · exact (State.enterSafe_shows h 1).1
  · rw [State.enterSafe_in h]
    exact h

end TakeFault

/-! #### A report (R490, R495 to R499) -/

/-- The report of one fault to a collector that runs and has nothing waiting: the fault is taken. -/
theorem exec_faultDetected_one {s : State} {e : FaultEvent} (h1 : e.src.val ≠ 1) (h13 : e.src.val ≠ 13) (h14 : e.src.val ≠ 14)
    (hc : s.canReport e = true) (hr : s.collectorRuns = true) (hq : s.faultq = []) :
    exec (.faultDetected [e]) s = .next (State.takeFault { s.detect e.src e.unit (reportDetail e) with faultq := [] }
      (FaultIn.mk e.src e.unit (reportDetail e) false s.now)) := by
  have hp : s.parity e = s := (if_neg h13).trans (if_neg h14)
  have hone : (s.detect e.src e.unit (reportDetail e)).takeFaults =
      State.takeFault { s.detect e.src e.unit (reportDetail e) with faultq := [] } (FaultIn.mk e.src e.unit (reportDetail e) false s.now) := by
    have hfq : (s.detect e.src e.unit (reportDetail e)).faultq = [FaultIn.mk e.src e.unit (reportDetail e) false s.now] := by
      rw [State.detect_faultq, hq]
      rfl
    unfold State.takeFaults
    rw [hfq]
    rfl
  refine congrArg Host.Outcome.next ?_
  rw [List.filter_cons_of_pos hc, List.filter_nil]
  refine (if_pos hr).trans ((if_neg (by simp [h1])).trans ?_)
  rw [List.foldl_cons, List.foldl_nil, hp]
  exact hone

theorem State.canReport_isSome {s : State} {e : FaultEvent} (h : s.canReport e = true) : (faultFactory e.src).isSome = true := by
  simp only [State.canReport, Bool.and_eq_true] at h
  exact h.1.1.1.1

/-- A report is taken: its bit, its record and its reaction. -/
theorem faultDetected_takes {s : State} {e : FaultEvent} (h1 : e.src.val ≠ 1) (h13 : e.src.val ≠ 13) (h14 : e.src.val ≠ 14)
    (hc : s.canReport e = true) (hrun : s.collectorRuns = true) (hq : s.faultq = []) :
    ∃ t, exec (.faultDetected [e]) s = .next t ∧ hasBit (t.rd F.FLT_PEND_PEND (e.src / 32)) (e.src % 32) = true ∧
      (s.rd F.FLT_SRC_REACT e.src = 0 → t.evq = s.evq ∧ t.fences = s.fences ∧ t.rd F.FLT_STAT_FIRSTV = s.rd F.FLT_STAT_FIRSTV) ∧
      (s.rd F.FLT_SRC_REACT e.src = 6 → t.safe = true) ∧
      (∀ f ws, f = FaultIn.mk e.src e.unit (reportDetail e) false s.now →
        ws = faultWords f (s.rd F.FLT_SRC_SEV e.src) (s.rd F.FLT_SRC_REACT e.src) (s.seqs.at 0 (4096 + e.src.val)) → s.rd F.FLT_SRC_REACT e.src ≠ 0 →
        (s.on F.FLT_STAT_FIRSTV = false → t.on F.FLT_STAT_FIRSTV = true ∧
          ∀ w : Fin 8, t.rd F.FLT_FIRST_REC w = ws.getD w 0 % 2 ^ 32) ∧
        (s.on F.FLT_STAT_FIRSTV = true → s.on F.FLT_STAT_SECONDV = false → t.on F.FLT_STAT_SECONDV = true ∧
          ∀ w : Fin 8, t.rd F.FLT_SECOND_REC w = ws.getD w 0 % 2 ^ 32 ∧ t.rd F.FLT_FIRST_REC w = s.rd F.FLT_FIRST_REC w)) := by
  let v : State := { s.detect e.src e.unit (reportDetail e) with faultq := [] }
  let f := FaultIn.mk e.src e.unit (reportDetail e) false s.now
  have hs : (faultFactory f.src).isSome = true := State.canReport_isSome hc
  obtain ⟨hbit, hrec⟩ := State.takeFault_records (s := v) (f := f) hs
  refine ⟨_, exec_faultDetected_one h1 h13 h14 hc hrun hq, hbit, fun hr => ?_, fun hr => State.takeFault_safe (s := v) (f := f) hs hr, ?_⟩
  · have hi := State.takeFault_ignored (s := v) (f := f) hs hr
    have hd := State.markFault_does v f (v.rd F.FLT_SRC_SEV f.src) (v.rd F.FLT_SRC_REACT f.src)
    obtain ⟨-, hkeep⟩ := v.markFault_marks f (v.rd F.FLT_SRC_SEV f.src) (v.rd F.FLT_SRC_REACT f.src)
    rw [hi]
    exact ⟨hd.evq (by decide), hd.fences (by decide), hkeep F.FLT_STAT_FIRSTV (by decide) (by decide) (by decide) 0⟩
  · rintro _ _ rfl rfl hr
    exact hrec hr

/-- Before the collector runs, a condition that persists is kept to be found again (R600). -/
theorem faultDetected_keeps {s : State} {e : FaultEvent} (hc : s.canReport e = true) (hrun : s.collectorRuns = false) :
    ∃ t, exec (.faultDetected [e]) s = .next t ∧ t.faultq = s.faultq ∧
      (liveSource e.src = true → s.live.any (fun l => l.1 == e.src.val && l.2.1 == e.unit) = false →
        t.live = s.live ++ [(e.src.val, e.unit, reportDetail e)] ∧ t.rst.redetect = s.rst.redetect ++ [(e.src.val, e.unit, reportDetail e)]) := by
  have heq : exec (.faultDetected [e]) s = .next (if liveSource e.src && !s.live.any (fun l => l.1 == e.src.val && l.2.1 == e.unit) then
      { s with
        live := s.live ++ [(e.src.val, e.unit, reportDetail e)]
        rst := { s.rst with redetect := s.rst.redetect ++ [(e.src.val, e.unit, reportDetail e)] } }
      else s) := by
    refine congrArg Host.Outcome.next ?_
    rw [List.filter_cons_of_pos hc, List.filter_nil]
    exact if_neg (by simp [hrun])
  refine ⟨_, heq, ?_, fun hl hany => ?_⟩
  · split <;> rfl
  · rw [if_pos (by rw [hl, hany]; rfl)]
    exact ⟨rfl, rfl⟩

/-! #### Forcing and setting of sources (R494, R503) -/

section Force

variable {s : State} {i : Nat}

theorem State.forceFault_locked (h : s.on F.FLT_CTL_FLOCK = true) : s.forceFault i = s := if_pos (.inl h)

theorem State.forceFault_unlocked (h : s.on F.FLT_CTL_FLOCK = false) (hs : (faultFactory i).isSome = true) : s.forceFault i =
    if validUnit i (s.rd F.FLT_CTL_FUNIT) = false then s.wr F.FLT_STAT_CFGBAD 1
    else { s with faultq := s.faultq ++ [FaultIn.mk i (if sourceKind i = 0 then 0 else s.rd F.FLT_CTL_FUNIT) 0 true s.now] } := by
  refine if_neg ?_
  rintro (h' | h')
  · simp [h] at h'
  · rw [Option.isNone_iff_eq_none] at h'
    simp [h'] at hs

/-- A force of a unit that is none of the source's is a configuration error; of a valid one, a fault that waits (R503). -/
theorem force_forces {src : SrcId} (h : s.on F.FLT_CTL_FLOCK = false) (hs : (faultFactory src).isSome = true) :
    (validUnit src (s.rd F.FLT_CTL_FUNIT) = false → ∃ t, exec (.force src) s = .next t ∧ t.rd F.FLT_STAT_CFGBAD = 1 ∧ t.faultq = s.faultq) ∧
    (validUnit src (s.rd F.FLT_CTL_FUNIT) = true → ∃ t, exec (.force src) s = .next t ∧ t.regs = s.regs ∧
      t.faultq = s.faultq ++ [FaultIn.mk src (if sourceKind src = 0 then 0 else s.rd F.FLT_CTL_FUNIT) 0 true s.now]) := by
  have heq : exec (.force src) s = .next _ := congrArg Host.Outcome.next (State.forceFault_unlocked h hs)
  refine ⟨fun hv => ⟨_, heq.trans (congrArg Host.Outcome.next (if_pos hv)), State.rd_wr .., rfl⟩,
    fun hv => ⟨_, heq.trans (congrArg Host.Outcome.next (if_neg (by simp [hv]))), rfl, rfl⟩⟩

/-- FLT_SRC takes a legal pair of reaction and severity (R494). -/
theorem fltSrcWrite_takes {src : SrcId} {value : BitVec 32} (h0 : src.val ≠ 0) (hs : (faultFactory src).isSome = true)
    (hf : hasBit value.toNat 31 = false) (hok : reactionOk (sourceKind src) (bits value.toNat 6 4) = true)
    (hsafe : bits value.toNat 6 4 = 6 ↔ bits value.toNat 1 0 = 3) :
    ∃ t, exec (.fltSrcWrite src value) s = .next t ∧ t.rd F.FLT_SRC_REACT src = bits value.toNat 6 4 ∧
      t.rd F.FLT_SRC_SEV src = bits value.toNat 1 0 ∧ t.faultq = s.faultq := by
  have hbad : ¬(reactionOk (sourceKind src) (bits value.toNat 6 4) = false ∨ decide (bits value.toNat 6 4 = 6) ≠ decide (bits value.toNat 1 0 = 3)) := by
    simp [hok, hsafe]
  refine ⟨_, congrArg Host.Outcome.next ((if_neg (by simpa [← Option.isSome_iff_ne_none] using hs)).trans ((if_neg h0).trans
    ((if_neg hbad).trans (if_neg (by simp [hf]))))), ?_, ?_, rfl⟩
  · rw [State.rd_wr_ne _ _ _ _ _ _ (.inr (by decide)), State.rd_wr]
    exact bits_mod_width _ _ _ rfl
  · rw [State.rd_wr]
    exact bits_mod_width _ _ _ rfl

/-- Another pair is a configuration error, and FLT_SRC stands (R494). -/
theorem fltSrcWrite_refuses {src : SrcId} {value : BitVec 32} (h0 : src.val ≠ 0) (hs : (faultFactory src).isSome = true)
    (h : reactionOk (sourceKind src) (bits value.toNat 6 4) = false ∨ ¬(bits value.toNat 6 4 = 6 ↔ bits value.toNat 1 0 = 3)) :
    ∃ t, exec (.fltSrcWrite src value) s = .next t ∧ t.rd F.FLT_STAT_CFGBAD = 1 ∧ t.rd F.FLT_SRC_REACT src = s.rd F.FLT_SRC_REACT src ∧
      t.rd F.FLT_SRC_SEV src = s.rd F.FLT_SRC_SEV src := by
  have hbad : reactionOk (sourceKind src) (bits value.toNat 6 4) = false ∨ decide (bits value.toNat 6 4 = 6) ≠ decide (bits value.toNat 1 0 = 3) :=
    h.imp_right fun h => by simpa [decide_eq_decide] using h
  exact ⟨_, congrArg Host.Outcome.next ((if_neg (by simpa [← Option.isSome_iff_ne_none] using hs)).trans ((if_neg h0).trans (if_pos hbad))),
    State.rd_wr .., State.rd_wr_ne _ _ _ _ _ _ (.inl (by decide)), State.rd_wr_ne _ _ _ _ _ _ (.inl (by decide))⟩

end Force

/-! #### The clearing of pending bits (R504) -/

/-- One bit of a word of FLT_PEND that a write clears, unless its cause holds. -/
def State.clearOne (j : Nat) (s : State) (b : Nat) : State :=
  if hasBit (s.rd F.FLT_CAUSE_CAUSE j) b then s.wr F.FLT_STAT_CLRBAD 1
  else
    let s := s.wr F.FLT_PEND_PEND (withoutBit (s.rd F.FLT_PEND_PEND j) b) j
    { s with
      fences := s.fences.filter (fun f => f.src != 32 * j + b)
      safeX := { s.safeX with sevs := s.safeX.sevs.set 0 (32 * j + b) 0 } }

theorem State.clearPend_eq (s : State) (j v : Nat) : s.clearPend j v = (bitsSet 32 v).foldl (State.clearOne j) s := rfl

/-- A bit whose cause holds is not cleared, which CLRBAD tells; another is, with its fences. Causes and the other bits stand, and
CLRBAD stays. -/
theorem State.clearOne_rd (s : State) (j : Nat) {b c : Nat} (hb : b < 32) :
    (s.clearOne j c).rd F.FLT_CAUSE_CAUSE j = s.rd F.FLT_CAUSE_CAUSE j ∧
    hasBit ((s.clearOne j c).rd F.FLT_PEND_PEND j) b =
      ((hasBit (s.rd F.FLT_CAUSE_CAUSE j) c || !decide (b = c)) && hasBit (s.rd F.FLT_PEND_PEND j) b) ∧
    (s.clearOne j c).fences = (if hasBit (s.rd F.FLT_CAUSE_CAUSE j) c then s.fences else s.fences.filter (fun f => f.src != 32 * j + c)) ∧
    (s.clearOne j c).rd F.FLT_STAT_CLRBAD = (if hasBit (s.rd F.FLT_CAUSE_CAUSE j) c then 1 else s.rd F.FLT_STAT_CLRBAD) := by
  unfold State.clearOne
  split
  · next h =>
    refine ⟨State.rd_wr_ne _ _ _ _ _ _ (.inl (by decide)), ?_, rfl, State.rd_wr ..⟩
    rw [State.rd_wr_ne _ _ _ _ _ _ (.inl (by decide)), h, Bool.true_or, Bool.true_and]
  · next h =>
    refine ⟨State.rd_wr_ne s (f := F.FLT_PEND_PEND) _ _ _ _ _ (.inl (by decide)), ?_, rfl,
      State.rd_wr_ne s (f := F.FLT_PEND_PEND) _ _ _ _ _ (.inl (by decide))⟩
    have hw : (s.wr F.FLT_PEND_PEND (withoutBit (s.rd F.FLT_PEND_PEND j) c) j).rd F.FLT_PEND_PEND j =
        withoutBit (s.rd F.FLT_PEND_PEND j) c % 2 ^ 32 := State.rd_wr ..
    refine (congrArg (hasBit · b) hw).trans ?_
    rw [hasBit_mod_two_pow _ hb, hasBit_withoutBit_eq, Bool.eq_false_of_not_eq_true h, Bool.false_or]

/-- A write clears the pending bits that it names and whose causes have ended, with their fences (R504). -/
theorem State.clearPend_clears (s : State) (j v : Nat) (b : Fin 32) :
    (hasBit v b = true → hasBit (s.rd F.FLT_CAUSE_CAUSE j) b = false → hasBit ((s.clearPend j v).rd F.FLT_PEND_PEND j) b = false ∧
      ∀ f ∈ (s.clearPend j v).fences, f.src ≠ 32 * j + b) ∧
    (hasBit v b = true → hasBit (s.rd F.FLT_CAUSE_CAUSE j) b = true → (s.clearPend j v).rd F.FLT_STAT_CLRBAD = 1) ∧
    (hasBit v b = false ∨ hasBit (s.rd F.FLT_CAUSE_CAUSE j) b = true →
      hasBit ((s.clearPend j v).rd F.FLT_PEND_PEND j) b = hasBit (s.rd F.FLT_PEND_PEND j) b) := by
  rw [State.clearPend_eq]
  refine ⟨fun hv hc => ?_, fun hv hc => ?_, fun h => ?_⟩
  · refine fold_reaches_from (I := fun t => t.rd F.FLT_CAUSE_CAUSE j = s.rd F.FLT_CAUSE_CAUSE j)
      (P := fun t => hasBit (t.rd F.FLT_PEND_PEND j) b = false ∧ ∀ f ∈ t.fences, f.src ≠ 32 * j + b)
      (mem_bitsSet b.isLt hv) (fun t c _ ht => ?_) (fun t ht => ?_) (fun t c ⟨hp, hf⟩ => ?_) rfl
    · exact (State.clearOne_rd t j b.isLt).1.trans ht
    · obtain ⟨-, hp, hf, -⟩ := State.clearOne_rd t j (c := b) b.isLt
      rw [ht, hc] at hp hf
      rw [hp, hf]
      refine ⟨by simp, fun f hmem => ?_⟩
      simpa using (List.mem_filter.1 hmem).2
    · obtain ⟨-, hp', hf', -⟩ := State.clearOne_rd t j (c := c) b.isLt
      rw [hp', hf', hp, Bool.and_false]
      refine ⟨rfl, fun f hmem => hf f ?_⟩
      split at hmem
      · exact hmem
      · exact List.mem_of_mem_filter hmem
  · refine fold_reaches_from (I := fun t => t.rd F.FLT_CAUSE_CAUSE j = s.rd F.FLT_CAUSE_CAUSE j)
      (P := fun t => t.rd F.FLT_STAT_CLRBAD = 1) (mem_bitsSet b.isLt hv) (fun t c _ ht => ?_) (fun t ht => ?_) (fun t c hp => ?_) rfl
    · exact (State.clearOne_rd t j b.isLt).1.trans ht
    · obtain ⟨-, -, -, hbad⟩ := State.clearOne_rd t j (c := b) b.isLt
      rw [hbad, ht, hc, if_pos rfl]
    · obtain ⟨-, -, -, hbad⟩ := State.clearOne_rd t j (c := c) b.isLt
      rw [hbad, hp, ite_self]
  · have key := List.foldlRecOn (motive := fun (t : State) => t.rd F.FLT_CAUSE_CAUSE j = s.rd F.FLT_CAUSE_CAUSE j ∧
        hasBit (t.rd F.FLT_PEND_PEND j) b = hasBit (s.rd F.FLT_PEND_PEND j) b) (bitsSet 32 v) (State.clearOne j) ⟨rfl, rfl⟩
      fun t ⟨hcause, hpend⟩ c hmem => ?_
    · exact key.2
    · obtain ⟨hc', hp', -, -⟩ := State.clearOne_rd t j (c := c) b.isLt
      refine ⟨hc'.trans hcause, ?_⟩
      have hstay : (hasBit (s.rd F.FLT_CAUSE_CAUSE j) c || !decide (b.val = c)) = true := by
        by_cases hbc : b.val = c
        · subst hbc
          have hv : hasBit v b = true := (List.mem_filter.1 hmem).2
          rcases h with h | h
          · exact absurd hv (by simp [h])
          · rw [h, Bool.true_or]
        · simp [hbc]
      rw [hp', hcause, hstay, Bool.true_and, hpend]

/-! #### The collector's sweep (R505, R509) -/

/-- A second failed sweep, in the safe state of the first, asserts reset source 5 (R509). -/
theorem State.assertSrc_collector (s : State) : hasBit (s.assertSrc 5).rst.on 5 = true ∧ (s.assertSrc 5).rd F.RST_STAT_ASSERT = 1 := by
  obtain ⟨hbit, hassert, -⟩ := State.assertSrc_asserts (s := s) (i := 5) (by decide) (fun h => absurd h (by decide)) fun h => absurd h (by decide)
  exact ⟨hbit, hassert⟩

/-- The failed sweep as the collector records it (R505). -/
def State.sweepNoted (s : State) (d : Nat) : State :=
  let f := FaultIn.mk 0 0 d false s.now
  let u := (s.markFault f 3 6).wr F.FLT_STAT_SELF 1
  let ws := faultWords f 3 6 (u.faultSeq 0).1
  let v := ((u.faultSeq 0).2.putRecWords F.FLT_FIRST_REC ws).wr F.FLT_STAT_FIRSTV 1
  let x := v.raise 2144 0 [join (ws.getD 0 0) (ws.getD 1 0)] v.now
  { x with safeX := { x.safeX with sweepOk := false } }

theorem State.sweepNoted_shows (s : State) {d : Nat} (hd : d < 2 ^ 32) : (s.sweepNoted d).safe = s.safe ∧
    (s.sweepNoted d).safeX.sweepOk = false ∧ (s.sweepNoted d).rd F.FLT_STAT_SELF = 1 ∧ (s.sweepNoted d).rd F.FLT_STAT_FIRSTV = 1 ∧
    (s.sweepNoted d).rd F.FLT_FIRST_REC 1 = d := by
  unfold State.sweepNoted
  extract_lets f s1 ws s3 s4
  let s2 := (s1.faultSeq 0).2
  have hd4 : Does _ _ s3 s4 := State.raise_does ..
  clear_value s4
  have rd4 (g : Fld) (i : Nat) : State.rd { s4 with safeX := { s4.safeX with sweepOk := false } } g i = s3.rd g i :=
    hd4.rd g i 0 (Nat.zero_testBit _)
  have h1 : s1.safe = s.safe := by
    refine congrArg (· == 1) ((State.rd_wr_ne _ _ _ _ _ _ (.inl (by decide))).trans ?_)
    exact (s.markFault_marks f 3 6).2 F.FLT_SAFE_ACTIVE (by decide) (by decide) (by decide) 0
  refine ⟨?_, rfl, ?_, ?_, ?_⟩
  · refine (congrArg (· == 1) ((rd4 F.FLT_SAFE_ACTIVE 0).trans ?_)).trans h1
    exact (State.rd_wr_ne _ _ _ _ _ _ (.inl (by decide))).trans (State.putRecWords_away s2 ws (by decide) 0 0)
  · refine (rd4 F.FLT_STAT_SELF 0).trans ((State.rd_wr_ne _ _ _ _ _ _ (.inr (by decide))).trans ?_)
    exact (State.putRecWords_away s2 ws (by decide) 0 0).trans (State.rd_wr (s.markFault f 3 6) F.FLT_STAT_SELF 1 0 0)
  · exact (rd4 F.FLT_STAT_FIRSTV 0).trans (State.rd_wr ..)
  · refine (rd4 F.FLT_FIRST_REC 1).trans ((State.rd_wr_ne _ _ _ _ _ _ (.inl (by decide))).trans ?_)
    refine (State.putRecWords_rd s2 F.FLT_FIRST_REC ws 1).trans ?_
    change d % 2 ^ 32 % 2 ^ 32 = d
    rw [Nat.mod_mod, Nat.mod_eq_of_lt hd]

theorem exec_collectorSweep_again {s : State} (d : BitVec 32) (h : s.safe = true) (hc : s.safeX.byCollector = true) :
    exec (.collectorSweep (some d)) s = .next (s.assertSrc 5) :=
  congrArg Host.Outcome.next (if_pos ⟨h, hc⟩)

theorem exec_collectorSweep_first {s : State} (d : BitVec 32) (h : s.safe = false) :
    exec (.collectorSweep (some d)) s = .next ((s.sweepNoted d.toNat).enterSafe 2) := by
  refine (congrArg Host.Outcome.next (if_neg (c := s.safe = true ∧ s.safeX.byCollector = true) (by simp [h]))).trans ?_
  unfold State.sweepNoted State.faultSeq
  rfl

/-- A failed sweep is recorded and brings the device to the safe state with cause 2 (R505). -/
theorem collectorSweep_enters {s : State} (d : BitVec 32) (h : s.safe = false) :
    ∃ t, exec (.collectorSweep (some d)) s = .next t ∧ t.safe = true ∧ t.rd F.FLT_SAFE_CAUSE = 2 ∧
      t.safeX.byCollector = true ∧ t.safeX.sweepOk = false ∧ t.on F.FLT_STAT_SELF = true ∧ t.on F.FLT_STAT_FIRSTV = true ∧
      t.rd F.FLT_FIRST_REC 1 = d.toNat := by
  obtain ⟨hsafe, hok, hself, hfirst, hrec⟩ := s.sweepNoted_shows d.isLt
  obtain ⟨hin, hcause, hx⟩ := State.enterSafe_shows (hsafe.trans h) 2
  have keep := (s.sweepNoted d.toNat).enterSafe_records 2
  refine ⟨_, exec_collectorSweep_first d h, hin, hcause, ?_, ?_, ?_, ?_, ?_⟩
  · rw [hx]
    rfl
  · rw [hx]
    exact hok
  · exact beq_iff_eq.2 ((keep.rd F.FLT_STAT_SELF (by decide) 0).trans hself)
  · exact beq_iff_eq.2 ((keep.rd F.FLT_STAT_FIRSTV (by decide) 0).trans hfirst)
  · exact (keep.rd F.FLT_FIRST_REC (by decide) 1).trans hrec

/-! #### Entry, exit and escalation (R506, R509, R510) -/

theorem enter_enters {s : State} (h : s.safe = false) : ∃ t, exec .enter s = .next t ∧ t.safe = true ∧ t.rd F.FLT_SAFE_CAUSE = 4 ∧
    t.safeX.since = s.now ∧ ∀ n ∈ s.sitesDefined, t.on F.SITE_FSTAT_FAULT n = true := by
  obtain ⟨hin, hcause, hx⟩ := State.enterSafe_shows h 4
  exact ⟨_, rfl, hin, hcause, by rw [hx], fun n hn => State.enterSafe_husks h 4 hn⟩

theorem exit_leaves {s : State} (h : s.mayExit = true) : ∃ t, exec .exit s = .next t ∧ t.safe = false ∧ t.rd F.FLT_STAT_SAFE = 0 := by
  refine ⟨_, congrArg Host.Outcome.next (if_pos h), ?_, State.rd_wr ..⟩
  have ha : ((s.wr F.FLT_SAFE_ACTIVE 0).wr F.FLT_STAT_SAFE 0).rd F.FLT_SAFE_ACTIVE = 0 :=
    (State.rd_wr_ne _ _ _ _ _ _ (.inl (by decide))).trans (State.rd_wr ..)
  rw [State.safe, State.on, ha]
  rfl

theorem exit_refused {s : State} (h : s.mayExit = false) : ∃ t, exec .exit s = .next t ∧ t.rd F.FLT_STAT_EXITBAD = 1 ∧ t.safe = s.safe :=
  ⟨_, congrArg Host.Outcome.next (if_neg (by simp [h])), State.rd_wr ..,
    congrArg (· == 1) (State.rd_wr_ne s (f := F.FLT_STAT_EXITBAD) (g := F.FLT_SAFE_ACTIVE) _ _ _ _ _ (.inl (by decide)))⟩

/-- A die that has not confirmed, or the end of ESCTMO, asserts reset source 5 (R509). -/
theorem safeEsc_asserts {s : State} {unconfirmed : Bool} (h : s.safe = true)
    (ht : unconfirmed = true ∨ s.rd F.FLT_SAFE_ESCTMO ≠ 0 ∧ 0 ≤ ahead s.now (after s.safeX.since (s.rd F.FLT_SAFE_ESCTMO * tMs))) :
    ∃ t, exec (.safeEsc unconfirmed) s = .next t ∧ hasBit t.rst.on 5 = true ∧ t.rd F.RST_STAT_ASSERT = 1 := by
  refine ⟨_, congrArg Host.Outcome.next (if_pos ⟨h, ?_⟩), s.assertSrc_collector⟩
  rcases ht with ht | ⟨h0, ht⟩
  · rw [ht, Bool.true_or]
  · simp [h0, ht]

theorem safeEsc_waits {s : State} {unconfirmed : Bool} (h : s.safe = false ∨ unconfirmed = false ∧ s.rd F.FLT_SAFE_ESCTMO = 0) :
    exec (.safeEsc unconfirmed) s = .next s := by
  refine congrArg Host.Outcome.next (if_neg ?_)
  rintro ⟨hs, ht⟩
  rcases h with h | ⟨hu, h0⟩
  · simp [h] at hs
  · simp [hu, h0] at ht

/-- Settles O55, by what a taken fault records and its reaction leaves of the records, the bits that a write of FLT_PEND clears, and
the entry to the safe state. -/
theorem faultsAreRecordedAndReactedTo : Obligations.FaultsAreRecordedAndReactedTo := by
  unfold Obligations.FaultsAreRecordedAndReactedTo
  intro s
  refine ⟨fun e h1 h13 h14 => faultDetected_takes h1 h13 h14, fun e => faultDetected_keeps,
    fun src => ⟨fun h => congrArg Host.Outcome.next (State.forceFault_locked h), force_forces,
      fun value h0 hs hf => ⟨fltSrcWrite_takes h0 hs hf, fltSrcWrite_refuses h0 hs⟩⟩,
    fun word value => ⟨_, rfl, s.clearPend_clears word value.toNat⟩, ⟨_, rfl, rfl, rfl⟩,
    fun d => ⟨fun h hc => ⟨_, exec_collectorSweep_again d h hc, s.assertSrc_collector⟩, collectorSweep_enters d⟩,
    fun h => congrArg Host.Outcome.next (State.enterSafe_in h 4), enter_enters, exit_leaves, exit_refused,
    fun unconfirmed => ⟨safeEsc_asserts, safeEsc_waits⟩⟩

end Sys2Proof.Machine
end

/-! ### Scope: temperature readings, throttle levels, thermal shutdown -/

section
namespace Sys2Proof.Machine

open Sys2Proof

/-! #### What following a reading leaves (R480) -/

/-- Readings, thresholds, floors and failures: what the levels of the domains are computed from, which no level changes. -/
def thermalFields : List Fld := [F.THM_T_TEMP, F.THM_T_VALID, F.THM_T_RATE, F.THM_STAT_FAILED, F.THM_CFG_MARGIN, F.THM_CFG_RATE,
  F.THM_THR_WARN, F.THM_THR_HOT, F.THM_THR_CRIT, F.THM_THR_SHUT, F.THM_DOM_HELD, F.THM_DOM_FLOOR]

theorem State.setLevel_keeps (s : State) (k lvl sensor : Nat) (byRate : Bool) : s.Keeps thermalFields (s.setLevel k lvl sensor byRate) := by
  unfold State.setLevel
  extract_lets old before a x b c
  refine .ite (.refl s) ?_
  have ha : s.Keeps thermalFields a := (s.wr_keeps _ _ (by decide)).trans (State.wr_keeps _ _ _ (by decide))
  have hb : a.Keeps thermalFields b := ⟨fun _ _ _ => rfl⟩
  have hc : b.Keeps thermalFields c := ((State.raise_does ..).andThen (State.askWake_does ..)).keeps (by decide)
  exact ha.trans (hb.trans (hc.trans ((State.rebias_does ..).keeps (by decide))))

theorem State.trackDom_keeps (s : State) (k : Nat) : s.Keeps thermalFields (s.trackDom k) := by
  unfold State.trackDom
  extract_lets a
  have ha : s.Keeps thermalFields a := s.wr_keeps _ _ (by decide)
  rcases a.dueLevel k with ⟨lvl, sensor, byRate⟩
  change s.Keeps thermalFields (let b := if lvl > a.rd F.THM_DOM_LEVEL k then a.setLevel k lvl sensor byRate else a; { b with doms := _ })
  extract_lets b
  have hb : a.Keeps thermalFields b := .ite (State.setLevel_keeps ..) (.refl a)
  exact ha.trans (hb.trans ⟨fun _ _ _ => rfl⟩)

/-- The domains follow a reading. -/
def State.trackDoms (s : State) : State := (List.range 4).foldl (fun (s : State) (d : Nat) => s.trackDom d) s

theorem State.trackDoms_keeps (s : State) : s.Keeps thermalFields s.trackDoms := .foldl State.trackDom_keeps _ s

theorem State.trackSensors_keeps (s : State) : s.Keeps thermalFields s.trackSensors := by
  unfold State.trackSensors
  extract_lets few was a
  have ha : s.Keeps thermalFields a := s.wr_keeps _ _ (by decide)
  exact ha.trans (.ite ((State.detect_does ..).keeps (by decide)) (.ite ((State.endLive_does ..).keeps (by decide)) (.refl a)))

theorem State.Keeps.tempOk {s t : State} (h : s.Keeps thermalFields t) : t.tempOk = s.tempOk :=
  funext fun k => h.on (by decide) k

/-- The level that is due for a domain does not depend on the levels in force. -/
theorem State.Keeps.dueLevel {s t : State} (h : s.Keeps thermalFields t) (k : Nat) : t.dueLevel k = s.dueLevel k := by
  have htemp : t.temp = s.temp := funext fun k => congrArg (signed 16) (h.rd F.THM_T_TEMP (by decide) k)
  have hrate : t.tempRate = s.tempRate := funext fun k => congrArg (signed 8) (h.rd F.THM_T_RATE (by decide) k)
  have hhot : t.hottest = s.hottest := by
    unfold State.hottest
    rw [htemp]
  have hvalid : t.validSensors = s.validSensors := congrArg (fun p => (List.range 5).filter p) h.tempOk
  have hheld : t.on F.THM_DOM_HELD k = s.on F.THM_DOM_HELD k := h.on (by decide) k
  have hdom : t.domTemp k = s.domTemp k := by
    unfold State.domTemp
    rw [hheld, h.tempOk, htemp, hhot, hvalid, h.rd F.THM_CFG_MARGIN (by decide)]
  have hlevel : t.tempLevel = s.tempLevel := by
    unfold State.tempLevel
    rw [h.rd F.THM_THR_CRIT (by decide), h.rd F.THM_THR_HOT (by decide), h.rd F.THM_THR_WARN (by decide)]
  have hfast : t.fastSensor k = s.fastSensor k := by
    unfold State.fastSensor
    rw [h.rd F.THM_CFG_RATE (by decide), h.tempOk, hrate]
  unfold State.dueLevel
  rw [hvalid, hdom, hlevel, hheld, hfast, h.rd F.THM_DOM_FLOOR (by decide)]

theorem State.Keeps.shutAt {s t : State} (h : s.Keeps thermalFields t) : t.shutAt = s.shutAt :=
  congrArg (min 0x73) (h.rd F.THM_THR_SHUT (by decide) 0)

/-! #### Readings (R478, R479, R486) -/

/-- A sensor that fails is valid no more, and THM_STAT shows it. -/
theorem State.sensorFail_fails {s : State} {k : Nat} (hk : k < 5) (h : hasBit (s.rd F.THM_STAT_FAILED) k = false) :
    (s.sensorFail k).tempOk k = false ∧ hasBit ((s.sensorFail k).rd F.THM_STAT_FAILED) k = true := by
  unfold State.sensorFail
  rw [if_neg (by simp [h])]
  extract_lets a b c
  have hva : a.rd F.THM_T_VALID k = 0 := (State.rd_wr_ne _ _ _ _ _ _ (.inl (by decide))).trans (State.rd_wr ..)
  have hfa : hasBit (a.rd F.THM_STAT_FAILED) k = true := by
    have hw : a.rd F.THM_STAT_FAILED = _ := State.rd_wr ..
    rw [hw]
    exact (hasBit_mod_two_pow (w := 5) _ hk).trans (hasBit_withBit ..)
  have hb : a.Keeps [F.THM_T_VALID, F.THM_STAT_FAILED] b := (State.raise_does ..).keeps (by decide)
  have hc : b.Keeps [F.THM_T_VALID, F.THM_STAT_FAILED] c := .ite ((State.detect_does ..).keeps (by decide)) ((State.detect_does ..).keeps (by decide))
  have hd := hb.trans (hc.trans (State.Keeps.foldl (g := fun (s : State) (d : Nat) =>
      if k = 1 + d ∨ (k = 0 ∧ (s.doms.at {} d).by_ = 0 ∧ s.rd F.THM_DOM_LEVEL d ≠ 0) then
        if s.on F.THM_DOM_HELD d then s else (s.wr F.THM_DOM_FLOOR (s.rd F.THM_DOM_LEVEL d) d).wr F.THM_DOM_HELD 1 d
      else s) (fun u d => .ite (.ite (.refl u) ((u.wr_keeps _ _ (by decide)).trans (State.wr_keeps _ _ _ (by decide)))) (.refl u))
    (List.range 4) c))
  refine ⟨?_, ?_⟩
  · rw [State.tempOk, hd.on (by decide), State.on, hva]
    rfl
  · rw [hd.rd F.THM_STAT_FAILED (by decide)]
    exact hfa

theorem State.sensorFail_temp (s : State) (k i : Nat) : (s.sensorFail k).rd F.THM_T_TEMP i = s.rd F.THM_T_TEMP i := by
  unfold State.sensorFail
  split
  · rfl
  · extract_lets a b c
    have ha : s.Keeps [F.THM_T_TEMP] a := (s.wr_keeps _ _ (by decide)).trans (State.wr_keeps _ _ _ (by decide))
    have hb : a.Keeps [F.THM_T_TEMP] b := (State.raise_does ..).keeps (by decide)
    have hc : b.Keeps [F.THM_T_TEMP] c := .ite ((State.detect_does ..).keeps (by decide)) ((State.detect_does ..).keeps (by decide))
    refine (ha.trans (hb.trans (hc.trans (.foldl (fun u d => ?_) _ c)))).rd F.THM_T_TEMP (by decide) i
    exact .ite (.ite (.refl u) ((u.wr_keeps _ _ (by decide)).trans (State.wr_keeps _ _ _ (by decide)))) (.refl u)

/-- Beyond its flag, a shutdown touches none of the readings or failures. -/
theorem State.shutdown_keeps (s : State) (k : Nat) : s.Keeps [F.THM_T_TEMP, F.THM_T_VALID, F.THM_STAT_FAILED] (s.shutdown k) := by
  unfold State.shutdown
  extract_lets temps levels a b c
  refine .ite (.refl s) ?_
  have ha : s.Keeps [F.THM_T_TEMP, F.THM_T_VALID, F.THM_STAT_FAILED] a :=
    ((State.syncPins_does s).keeps (by decide)).trans ((State.wr_keeps _ _ _ (by decide)).trans ((State.nvRecord_does ..).keeps (by decide)))
  have hb : a.Keeps [F.THM_T_TEMP, F.THM_T_VALID, F.THM_STAT_FAILED] b := ((State.detect_does ..).andThen (State.enterSafe_does ..)).keeps (by decide)
  have hc : b.Keeps [F.THM_T_TEMP, F.THM_T_VALID, F.THM_STAT_FAILED] c :=
    (State.wr_keeps _ _ _ (by decide)).trans ((State.wr_keeps _ _ _ (by decide)).trans (State.wr_keeps _ _ _ (by decide)))
  exact ha.trans (hb.trans (hc.trans ((State.raise_does ..).keeps (by decide))))

/-- The device is shut down. -/
theorem State.shutdown_shuts (s : State) (k : Nat) : (s.shutdown k).on F.THM_STAT_SHUT = true := by
  unfold State.shutdown
  extract_lets temps levels a b c
  split
  · assumption
  · have ha : a.rd F.THM_STAT_SHUT = 1 := ((State.nvRecord_does ..).rd F.THM_STAT_SHUT 0 0 (by decide)).trans (State.rd_wr ..)
    have hb : a.Keeps [F.THM_STAT_SHUT] b := ((State.detect_does ..).andThen (State.enterSafe_does ..)).keeps (by decide)
    have hc : b.Keeps [F.THM_STAT_SHUT] c :=
      (State.wr_keeps _ _ _ (by decide)).trans ((State.wr_keeps _ _ _ (by decide)).trans (State.wr_keeps _ _ _ (by decide)))
    rw [(hb.trans (hc.trans ((State.raise_does ..).keeps (by decide)))).on (by decide)]
    exact beq_iff_eq.2 ha

/-- Whether a reading is broken or out of range (R479). -/
def readingBad (temp : BitVec 16) (broken : Bool) : Bool := broken || decide (temp.toInt < -320) || decide (temp.toInt > 1200)

/-- Since when the readings of a sensor have been off the median, with a reading (R479). -/
def State.readingOffT (s : State) (k : Nat) (temp : BitVec 16) (broken : Bool) : Option Stamp :=
  if !readingBad temp broken && s.offMedian k temp.toInt then
    (match (s.sensors.at {} k).offT with | some o => some o | none => some s.now)
  else none

/-- Whether a reading fails its sensor: at once, or off the median for 1 ms (R479). -/
def State.readingFails (s : State) (k : Nat) (temp : BitVec 16) (broken : Bool) : Bool :=
  readingBad temp broken || match s.readingOffT k temp broken with | some o => decide (ahead s.now (after o tMs) ≥ 0) | none => false

/-- A reading with its rate stands in its sensor's register (R478). -/
def State.readingNoted (s : State) (k : Nat) (temp : BitVec 16) (x : SensorX) (rate : Int) : State :=
  (({ s with sensors := s.sensors.set {} k x } : State).wr F.THM_T_TEMP temp.toNat k).wr F.THM_T_RATE (ofSigned 8 rate) k

/-- A reading fails its sensor, or is valid where the sensor has not failed. -/
def State.readingTaken (s : State) (k : Nat) (fails failed : Bool) : State :=
  if fails then s.sensorFail k else if failed then s else s.wr F.THM_T_VALID 1 k

/-- Whether the reading's rate of rise is flagged (R478). -/
def State.rateNoted (s : State) (k : Nat) (rate : Int) : State :=
  if s.tempOk k ∧ s.rd F.THM_CFG_RATE ≠ 0 ∧ rate ≥ s.rd F.THM_CFG_RATE then
    s.wr F.THM_STAT_RATEHI (withBit (s.rd F.THM_STAT_RATEHI) k) else s

/-- The domains follow a valid reading, and a shutdown may (R480, R486). -/
def State.readingFollowed (s : State) (k : Nat) (rate t : Int) : State :=
  let u := (s.trackSensors.rateNoted k rate).trackDoms
  if u.tempOk k ∧ t ≥ 8 * u.shutAt then u.shutdown k else u

theorem exec_sensorReading (s : State) (k : Fin 5) (temp : BitVec 16) (broken : Bool) : ∃ x rate, exec (.sensorReading k temp broken) s =
    .next (((s.readingNoted k temp x rate).readingTaken k (s.readingFails k temp broken) (hasBit (s.rd F.THM_STAT_FAILED) k)).readingFollowed
      k rate temp.toInt) := by
  change ∃ x rate, execSensorReading k temp broken s = _
  unfold execSensorReading
  extract_lets k' t x hist rate bad off offT late failed okT s1 s2 s3 s4 s5 s6
  have hfails : (bad || late) = s.readingFails k temp broken := rfl
  have htaken : s3 = s2.readingTaken k' (bad || late) failed := rfl
  have hnoted : s2 = s.readingNoted k temp { hist := (s.now, t) :: hist, offT := offT, okT := okT } rate := rfl
  have h6 : s6 = (s3.trackSensors.rateNoted k' rate).trackDoms := rfl
  refine ⟨{ hist := (s.now, t) :: hist, offT := offT, okT := okT }, rate, ?_⟩
  rw [← hfails, ← hnoted]
  change _ = Host.Outcome.next ((s2.readingTaken k' (bad || late) failed).readingFollowed k' rate t)
  rw [← htaken]
  unfold State.readingFollowed
  rw [← h6]

theorem State.readingFollowed_shows (s : State) (k : Nat) (rate t : Int) :
    s.Keeps [F.THM_T_TEMP, F.THM_T_VALID, F.THM_STAT_FAILED] (s.readingFollowed k rate t) ∧
    (s.tempOk k = true → 8 * (s.shutAt : Int) ≤ t → (s.readingFollowed k rate t).on F.THM_STAT_SHUT = true) := by
  unfold State.readingFollowed
  extract_lets u
  have hr : s.trackSensors.Keeps thermalFields (s.trackSensors.rateNoted k rate) := .ite (State.wr_keeps _ _ _ (by decide)) (.refl _)
  have hu : s.Keeps thermalFields u := s.trackSensors_keeps.trans (hr.trans (State.trackDoms_keeps _))
  have hsub : ∀ f ∈ [F.THM_T_TEMP, F.THM_T_VALID, F.THM_STAT_FAILED], f ∈ thermalFields := by decide
  have hu3 : s.Keeps [F.THM_T_TEMP, F.THM_T_VALID, F.THM_STAT_FAILED] u := ⟨fun f hf => hu.rd f (hsub f hf)⟩
  refine ⟨.ite (hu3.trans (u.shutdown_keeps k)) hu3, fun hok ht => ?_⟩
  rw [if_pos ⟨by rw [hu.tempOk]; exact hok, by rw [hu.shutAt]; exact ht⟩]
  exact u.shutdown_shuts k

theorem State.readingTaken_temp (s : State) (k : Nat) (fails failed : Bool) :
    (s.readingTaken k fails failed).rd F.THM_T_TEMP k = s.rd F.THM_T_TEMP k := by
  unfold State.readingTaken
  split
  · exact s.sensorFail_temp k k
  · split
    · rfl
    · exact State.rd_wr_ne _ _ _ _ _ _ (.inr (by decide))

section SensorReading

variable {s : State} {k : Fin 5} {temp : BitVec 16} {broken : Bool}

theorem readingBad_iff : readingBad temp broken = true ↔ broken = true ∨ temp.toInt < -320 ∨ 1200 < temp.toInt := by
  simp [readingBad, or_assoc]

/-- A reading that is broken or out of range fails its sensor. -/
theorem State.readingFails_bad (h : broken = true ∨ temp.toInt < -320 ∨ 1200 < temp.toInt) : s.readingFails k temp broken = true := by
  rw [State.readingFails, readingBad_iff.2 h, Bool.true_or]

theorem readingBad_good (hb : broken = false) (hlo : -320 ≤ temp.toInt) (hhi : temp.toInt ≤ 1200) : readingBad temp broken = false := by
  rw [Bool.eq_false_iff, ne_eq, readingBad_iff, hb]
  rintro (h | h | h)
  · exact nomatch h
  · omega
  · omega

/-- A reading that has been off the median for 1 ms fails its sensor. -/
theorem State.readingFails_late {o : Stamp} (ho : (s.sensors.at {} k.val).offT = some o) (hb : broken = false)
    (hoff : s.offMedian k temp.toInt = true) (ht : 0 ≤ ahead s.now (after o tMs)) (hlo : -320 ≤ temp.toInt) (hhi : temp.toInt ≤ 1200) :
    s.readingFails k temp broken = true := by
  have hT : s.readingOffT k temp broken = some o := by
    rw [State.readingOffT, readingBad_good hb hlo hhi, hoff, ho]
    rfl
  rw [State.readingFails, hT, readingBad_good hb hlo hhi]
  simpa using ht

/-- A good reading does not. -/
theorem State.readingFails_good (hb : broken = false) (hlo : -320 ≤ temp.toInt) (hhi : temp.toInt ≤ 1200)
    (hoff : s.offMedian k temp.toInt = false) : s.readingFails k temp broken = false := by
  have hT : s.readingOffT k temp broken = none := by
    rw [State.readingOffT, readingBad_good hb hlo hhi, hoff]
    rfl
  rw [State.readingFails, hT, readingBad_good hb hlo hhi]
  rfl

/-- A reading stands in THM_T; it fails its sensor, or is valid and may shut the device down. -/
theorem sensorReading_reads : ∃ t, exec (.sensorReading k temp broken) s = .next t ∧ t.rd F.THM_T_TEMP k = temp.toNat ∧
    (s.readingFails k temp broken = true → hasBit (s.rd F.THM_STAT_FAILED) k = false →
      t.tempOk k = false ∧ hasBit (t.rd F.THM_STAT_FAILED) k = true) ∧
    (s.readingFails k temp broken = false → hasBit (s.rd F.THM_STAT_FAILED) k = false →
      t.tempOk k = true ∧ t.rd F.THM_STAT_FAILED = s.rd F.THM_STAT_FAILED ∧
      (8 * (s.shutAt : Int) ≤ temp.toInt → t.on F.THM_STAT_SHUT = true)) := by
  obtain ⟨x, rate, heq⟩ := exec_sensorReading s k temp broken
  let u := s.readingNoted k temp x rate
  have htemp : u.rd F.THM_T_TEMP k = temp.toNat :=
    (State.rd_wr_ne _ _ _ _ _ _ (.inr (by decide))).trans ((State.rd_wr ..).trans (Nat.mod_eq_of_lt temp.isLt))
  have hkeep (f : Fld) (h : F.THM_T_RATE.reg ≠ f.reg) (h' : F.THM_T_TEMP.reg ≠ f.reg) : u.rd f = s.rd f :=
    (State.rd_wr_ne _ _ _ _ _ _ (.inl h)).trans (State.rd_wr_ne { s with sensors := s.sensors.set {} k x } _ _ _ _ _ (.inl h'))
  have hfailed : u.rd F.THM_STAT_FAILED = s.rd F.THM_STAT_FAILED := hkeep _ (by decide) (by decide)
  have hshut : u.shutAt = s.shutAt := congrArg (min 0x73) (hkeep F.THM_THR_SHUT (by decide) (by decide))
  obtain ⟨hfollow, hshuts⟩ :=
    (u.readingTaken k (s.readingFails k temp broken) (hasBit (s.rd F.THM_STAT_FAILED) k)).readingFollowed_shows k rate temp.toInt
  refine ⟨_, heq, ?_, fun hf hn => ?_, fun hf hn => ?_⟩
  · exact (hfollow.rd F.THM_T_TEMP (by decide) k).trans ((State.readingTaken_temp ..).trans htemp)
  · obtain ⟨hok, hbit⟩ := State.sensorFail_fails (s := u) k.isLt (by rw [hfailed]; exact hn)
    rw [State.tempOk, hfollow.on (by decide), hfollow.rd F.THM_STAT_FAILED (by decide), hf]
    exact ⟨hok, hbit⟩
  · rw [hf, hn] at hfollow hshuts ⊢
    have htaken : u.readingTaken k false false = u.wr F.THM_T_VALID 1 k := rfl
    rw [htaken] at hfollow hshuts ⊢
    have hok : (u.wr F.THM_T_VALID 1 k).tempOk k = true := State.on_wr_one _ _ _ (by decide)
    have hshut' : (u.wr F.THM_T_VALID 1 k).shutAt = s.shutAt :=
      (congrArg (min 0x73) (State.rd_wr_ne _ _ _ _ _ _ (.inl (by decide)))).trans hshut
    refine ⟨(hfollow.on (by decide) k).trans hok, ?_, fun ht => hshuts hok (by rw [hshut']; exact ht)⟩
    exact (hfollow.rd F.THM_STAT_FAILED (by decide) 0).trans ((State.rd_wr_ne _ _ _ _ _ _ (.inl (by decide))).trans hfailed)

end SensorReading

/-! #### A failed sensor recovers (R479) -/

theorem exec_sensorRecover_none {s : State} {k : Fin 5} (h : (s.sensors.at {} k.val).okT = none) : exec (.sensorRecover k) s = .next s := by
  change execSensorRecover k s = _
  unfold execSensorRecover
  dsimp only
  rw [h]

theorem sensorRecover_recovers {s : State} {k : Fin 5} {o : Stamp} (h : (s.sensors.at {} k.val).okT = some o)
    (hf : hasBit (s.rd F.THM_STAT_FAILED) k = true) (ht : 0 ≤ ahead s.now (after o 150000000)) :
    ∃ t, exec (.sensorRecover k) s = .next t ∧ t.tempOk k = true ∧ hasBit (t.rd F.THM_STAT_FAILED) k = false := by
  have hgo : ¬(hasBit (s.rd F.THM_STAT_FAILED) k = false ∨ ahead s.now (after o 150000000) < 0) := by
    rw [hf]
    rintro (h | h)
    · exact nomatch h
    · omega
  let a := (s.wr F.THM_STAT_FAILED (withoutBit (s.rd F.THM_STAT_FAILED) k)).wr F.THM_T_VALID 1 k
  let b : State := { a with sensors := s.sensors.set {} k.val { s.sensors.at {} k.val with okT := none, offT := none } }
  let c := if k.val = 0 then b.endLive 23 none else b.endLive (128 + 64 * (k.val - 1) + 3) none
  have hexec : exec (.sensorRecover k) s = .next c.trackSensors.trackDoms := by
    change execSensorRecover k s = _
    unfold execSensorRecover
    dsimp only
    rw [h]
    exact congrArg Host.Outcome.next (if_neg hgo)
  have hc : b.Keeps thermalFields c := .ite ((State.endLive_does ..).keeps (by decide)) ((State.endLive_does ..).keeps (by decide))
  have hb : a.Keeps thermalFields b := ⟨fun _ _ _ => rfl⟩
  have hend := hb.trans (hc.trans (c.trackSensors_keeps.trans c.trackSensors.trackDoms_keeps))
  refine ⟨_, hexec, ?_, ?_⟩
  · rw [hend.tempOk]
    exact State.on_wr_one _ _ _ (by decide)
  · have ha : a.rd F.THM_STAT_FAILED = withoutBit (s.rd F.THM_STAT_FAILED) k % 2 ^ 5 :=
      (State.rd_wr_ne _ _ _ _ _ _ (.inl (by decide))).trans (State.rd_wr ..)
    rw [hend.rd F.THM_STAT_FAILED (by decide), ha, hasBit_mod_two_pow _ k.isLt, hasBit_withoutBit_eq, decide_eq_true rfl]
    rfl

/-! #### A domain that has cooled (R480) -/

/-- A level that changes is shown. -/
theorem State.setLevel_shows {s : State} {k lvl : Nat} (sensor : Nat) (byRate : Bool) (h : s.rd F.THM_DOM_LEVEL k ≠ lvl) (h4 : lvl < 4) :
    (s.setLevel k lvl sensor byRate).rd F.THM_DOM_LEVEL k = lvl := by
  unfold State.setLevel
  extract_lets old before a x b c
  rw [if_neg h]
  have ha : a.rd F.THM_DOM_LEVEL k = lvl :=
    (State.rd_wr_ne _ _ _ _ _ _ (.inr (by decide))).trans ((State.rd_wr ..).trans (Nat.mod_eq_of_lt h4))
  have hb : a.Keeps [F.THM_DOM_LEVEL] b := ⟨fun _ _ _ => rfl⟩
  have hc : b.Keeps [F.THM_DOM_LEVEL] c := ((State.raise_does ..).andThen (State.askWake_does ..)).keeps (by decide)
  exact ((hb.trans (hc.trans ((State.rebias_does ..).keeps (by decide)))).rd F.THM_DOM_LEVEL (by decide) k).trans ha

/-- A domain for which no higher level is due keeps its level. -/
theorem State.trackDom_level {s : State} {k : Nat} (h : (s.dueLevel k).1 ≤ s.rd F.THM_DOM_LEVEL k) :
    (s.trackDom k).rd F.THM_DOM_LEVEL k = s.rd F.THM_DOM_LEVEL k := by
  unfold State.trackDom
  extract_lets a
  have hlevel : a.rd F.THM_DOM_LEVEL k = s.rd F.THM_DOM_LEVEL k := State.rd_wr_ne _ _ _ _ _ _ (.inr (by decide))
  have hdue : a.dueLevel k = s.dueLevel k := State.Keeps.dueLevel (s.wr_keeps _ _ (by decide)) k
  rw [← hdue, ← hlevel] at h
  revert h
  rcases a.dueLevel k with ⟨lvl, sensor, byRate⟩
  intro h
  change State.rd (if lvl > a.rd F.THM_DOM_LEVEL k then a.setLevel k lvl sensor byRate else a) F.THM_DOM_LEVEL k = _
  rw [if_neg (Nat.not_lt.2 h)]
  exact hlevel

theorem exec_levelLower_none {s : State} {d : DieId} (h : (s.doms.at {} d.val).coolT = none ∨ s.domCool d = false) :
    exec (.levelLower d) s = .next s := by
  change execLevelLower d s = _
  unfold execLevelLower
  dsimp only
  cases hc : (s.doms.at {} d.val).coolT with
  | none => rfl
  | some t => exact congrArg Host.Outcome.next (if_pos (.inl (h.resolve_left (by simp [hc]))))

/-- A domain that has been cool for 10 ms falls by one level. -/
theorem levelLower_lowers {s : State} {d : DieId} {c : Stamp} (h : (s.doms.at {} d.val).coolT = some c)
    (ht : 0 ≤ ahead s.now (after c 15000000)) (hcool : s.domCool d = true) (h4 : s.rd F.THM_DOM_LEVEL d < 4)
    (hdue : (s.dueLevel d).1 ≤ s.rd F.THM_DOM_LEVEL d - 1) :
    ∃ t, exec (.levelLower d) s = .next t ∧ t.rd F.THM_DOM_LEVEL d = s.rd F.THM_DOM_LEVEL d - 1 := by
  have hgo : ¬(s.domCool d = false ∨ ahead s.now (after c 15000000) < 0) := by
    rw [hcool]
    rintro (h | h)
    · exact nomatch h
    · omega
  have hexec : exec (.levelLower d) s =
      .next ((s.setLevel d (s.rd F.THM_DOM_LEVEL d - 1) (s.domTemp d).2 false).trackDom d) := by
    change execLevelLower d s = _
    unfold execLevelLower
    dsimp only
    rw [h]
    exact congrArg Host.Outcome.next (if_neg hgo)
  have hpos : s.rd F.THM_DOM_LEVEL d ≠ 0 := by
    intro h0
    simp [State.domCool, h0] at hcool
  have hset := State.setLevel_shows (s := s) (k := d) (lvl := s.rd F.THM_DOM_LEVEL d - 1) (s.domTemp d).2 false (by omega) (by omega)
  refine ⟨_, hexec, (State.trackDom_level ?_).trans hset⟩
  rw [hset, State.Keeps.dueLevel (s.setLevel_keeps ..)]
  exact hdue

/-! #### The end of a shutdown (R487) -/

theorem shutClear_ends {s : State} (h : s.on F.THM_STAT_SHUT = true) (hc : ∀ k ∈ s.validSensors, s.temp k ≤ 8 * (s.shutAt : Int) - 120) :
    ∃ t, exec .shutClear s = .next t ∧ t.rd F.THM_STAT_SHUT = 0 ∧ t.live = s.live.filter (fun e => e.1 != 25) := by
  refine ⟨s.endShut, congrArg Host.Outcome.next (if_pos ⟨h, List.all_eq_true.2 fun k hk => decide_eq_true (hc k hk)⟩), ?_⟩
  unfold State.endShut
  extract_lets a b
  have ha : a.rd F.THM_STAT_SHUT = 0 ∧ a.live = s.live.filter (fun e => e.1 != 25) :=
    ⟨((State.endLive_does ..).rd F.THM_STAT_SHUT 0 0 (by decide)).trans (State.rd_wr ..), State.endLive_live ..⟩
  have hb : b.rd F.THM_STAT_SHUT = 0 ∧ b.live = s.live.filter (fun e => e.1 != 25) := by
    unfold b
    split
    · exact ha
    · exact ⟨(State.rd_wr_ne _ _ _ _ _ _ (.inl (by decide))).trans ((State.rd_wr_ne _ _ _ _ _ _ (.inl (by decide))).trans ha.1), ha.2⟩
  split
  · have d := State.eclkBack_does (b.wr F.GLB_UNITS_ECLK_LOCK 1)
    exact ⟨(d.rd F.THM_STAT_SHUT 0 0 (by decide)).trans ((State.rd_wr_ne _ _ _ _ _ _ (.inl (by decide))).trans hb.1),
      (d.live (by decide)).trans hb.2⟩
  · exact hb

theorem exec_shutClear_not {s : State} (h : s.on F.THM_STAT_SHUT = false ∨ ∃ k ∈ s.validSensors, 8 * (s.shutAt : Int) - 120 < s.temp k) :
    exec .shutClear s = .next s := by
  refine congrArg Host.Outcome.next (if_neg ?_)
  rintro ⟨hon, hall⟩
  rcases h with h | ⟨k, hk, ht⟩
  · simp [h] at hon
  · have := of_decide_eq_true (List.all_eq_true.1 hall k hk)
    omega

/-! #### RELEASE (R484) -/

/-- One domain's part of RELEASE: its floor goes where its sensors are valid. -/
def State.releaseFloor (s : State) (d : Nat) : State :=
  if s.on F.THM_DOM_HELD d ∧ s.tempOk 0 = true ∧ s.tempOk (1 + d) = true then (s.wr F.THM_DOM_HELD 0 d).wr F.THM_DOM_FLOOR 0 d else s

theorem State.releaseFloors_eq (s : State) : s.releaseFloors = ((List.range 4).foldl State.releaseFloor s).trackDoms := rfl

theorem State.releaseFloor_tempOk (s : State) (d : Nat) : (s.releaseFloor d).tempOk = s.tempOk := by
  have h : s.Keeps [F.THM_T_VALID] (s.releaseFloor d) := .ite ((s.wr_keeps _ _ (by decide)).trans (State.wr_keeps _ _ _ (by decide))) (.refl s)
  exact funext fun k => h.on (by decide) k

theorem State.releaseFloor_other (s : State) {d e : Nat} (h : d ≠ e) : (s.releaseFloor e).rd F.THM_DOM_HELD d = s.rd F.THM_DOM_HELD d ∧
    (s.releaseFloor e).rd F.THM_DOM_FLOOR d = s.rd F.THM_DOM_FLOOR d := by
  unfold State.releaseFloor
  split
  · exact ⟨(State.rd_wr_away _ _ (.inl h)).trans (State.rd_wr_away _ _ (.inl h)), (State.rd_wr_away _ _ (.inl h)).trans (State.rd_wr_away _ _ (.inl h))⟩
  · exact ⟨rfl, rfl⟩

/-- The domain's own part ends its hold and its floor, where it holds one and its sensors are valid. -/
theorem State.releaseFloor_own {s : State} {d : Nat} (h : s.on F.THM_DOM_HELD d = true) (h0 : s.tempOk 0 = true) (h1 : s.tempOk (1 + d) = true) :
    (s.releaseFloor d).rd F.THM_DOM_HELD d = 0 ∧ (s.releaseFloor d).rd F.THM_DOM_FLOOR d = 0 := by
  unfold State.releaseFloor
  rw [if_pos ⟨h, h0, h1⟩]
  exact ⟨(State.rd_wr_ne _ _ _ _ _ _ (.inr (by decide))).trans (State.rd_wr ..), State.rd_wr ..⟩

theorem State.releaseFloor_invalid {s : State} {d : Nat} (h : s.tempOk 0 = false ∨ s.tempOk (1 + d) = false) : s.releaseFloor d = s := by
  refine if_neg ?_
  rintro ⟨-, h0, h1⟩
  rcases h with h | h
  · simp [h] at h0
  · simp [h] at h1

/-- RELEASE ends the hold of a domain whose sensors are valid, and of no other. -/
theorem State.release_releases (s : State) (d : DieId) (hheld : s.on F.THM_DOM_HELD d = true) :
    (s.tempOk 0 = true → s.tempOk (1 + d) = true → s.releaseFloors.rd F.THM_DOM_HELD d = 0 ∧ s.releaseFloors.rd F.THM_DOM_FLOOR d = 0) ∧
    (s.tempOk 0 = false ∨ s.tempOk (1 + d) = false → s.releaseFloors.on F.THM_DOM_HELD d = true ∧
      s.releaseFloors.rd F.THM_DOM_FLOOR d = s.rd F.THM_DOM_FLOOR d) := by
  rw [State.releaseFloors_eq]
  have hkeep := State.trackDoms_keeps ((List.range 4).foldl State.releaseFloor s)
  rw [State.on, hkeep.rd F.THM_DOM_HELD (by decide), hkeep.rd F.THM_DOM_FLOOR (by decide)]
  refine ⟨fun h0 h1 => ?_, fun h => ?_⟩
  · refine fold_reaches_from (I := fun t => t.tempOk = s.tempOk ∧ t.on F.THM_DOM_HELD d = true)
      (P := fun t => t.rd F.THM_DOM_HELD d = 0 ∧ t.rd F.THM_DOM_FLOOR d = 0) (List.mem_range.2 d.isLt)
      (fun t e he ⟨hok, hon⟩ => ?_) (fun t ⟨hok, hon⟩ => ?_) (fun t e ⟨hz, hf⟩ => ?_) ⟨rfl, hheld⟩
    · exact ⟨(t.releaseFloor_tempOk e).trans hok, (congrArg (· == 1) (t.releaseFloor_other (Ne.symm he)).1).trans hon⟩
    · exact State.releaseFloor_own hon (hok ▸ h0) (hok ▸ h1)
    · by_cases he : d.val = e
      · have hnot : ¬(t.on F.THM_DOM_HELD e = true ∧ t.tempOk 0 = true ∧ t.tempOk (1 + e) = true) := by
          rw [← he, State.on, hz]
          rintro ⟨h, -⟩
          exact nomatch h
        rw [State.releaseFloor, if_neg hnot]
        exact ⟨hz, hf⟩
      · obtain ⟨hh, hfl⟩ := t.releaseFloor_other he
        exact ⟨hh.trans hz, hfl.trans hf⟩
  · have key := List.foldlRecOn (motive := fun (t : State) => t.tempOk = s.tempOk ∧ t.rd F.THM_DOM_HELD d = s.rd F.THM_DOM_HELD d ∧
        t.rd F.THM_DOM_FLOOR d = s.rd F.THM_DOM_FLOOR d) (List.range 4) State.releaseFloor ⟨rfl, rfl, rfl⟩
      fun t ⟨hok, hh, hf⟩ e _ => ?_
    · exact ⟨(congrArg (· == 1) key.2.1).trans hheld, key.2.2⟩
    · by_cases he : d.val = e
      · rw [State.releaseFloor_invalid (by rw [hok, ← he]; exact h)]
        exact ⟨hok, hh, hf⟩
      · obtain ⟨hh', hf'⟩ := t.releaseFloor_other he
        exact ⟨(t.releaseFloor_tempOk e).trans hok, hh'.trans hh, hf'.trans hf⟩

/-- Settles O54, by what a reading and the levels of the domains leave of the readings, and the floors that RELEASE ends. -/
theorem temperaturesLevelsAndShutdown : Obligations.TemperaturesLevelsAndShutdown := by
  unfold Obligations.TemperaturesLevelsAndShutdown
  intro s
  refine ⟨fun k temp broken => ?_, fun k o => sensorRecover_recovers, fun k => exec_sensorRecover_none, fun d c => levelLower_lowers,
    fun d => exec_levelLower_none, shutClear_ends, exec_shutClear_not, ⟨_, rfl, s.release_releases⟩⟩
  obtain ⟨t, hexec, htemp, hfails, hgood⟩ := sensorReading_reads (s := s) (k := k) (temp := temp) (broken := broken)
  exact ⟨t, hexec, htemp, fun h => hfails (State.readingFails_bad h),
    fun o ho hb hoff ht hn hlo hhi => hfails (State.readingFails_late ho hb hoff ht hlo hhi) hn,
    fun hb hlo hhi hoff => hgood (State.readingFails_good hb hlo hhi hoff)⟩

end Sys2Proof.Machine
end
